-- ==== Sys2Proof/Word.lean ====
section
/-! DEFINITION. Word.lean: the word types, the units of time, the plainest arithmetic, and the shape of a register map. -/

namespace Sys2Proof

/-- A register or frame word (R9: every register is 32 bits wide). -/
abbrev Word := BitVec 32

/-- One byte of a frame, an image or a page. -/
abbrev Byte := BitVec 8

/-- An instant or a duration in ticks of 1/192 ns: one CD_CTLx cycle is 800 ticks, one CD_MODx count 200, one grid
step of a pulse edge 25, one CD_SMC cycle 480. Every period the spec names is a whole number of ticks. -/
abbrev Tick := Nat

/-- The two channels (R13). -/
inductive Ch where
  | a
  | b
  deriving DecidableEq, Repr

/-- The device number of a channel as an event source (R37): channel A is source 1, channel B source 2. -/
def Ch.source : Ch → Nat
  | .a => 1
  | .b => 2

/-- The other channel. -/
def Ch.other : Ch → Ch
  | .a => .b
  | .b => .a

/-- Channel number 0 or 1. -/
def Ch.idx : Ch → Nat
  | .a => 0
  | .b => 1

/-- The ticks of one nanosecond. -/
def ticksPerNs : Nat := 192
/-- The ticks of one CD_CTLx cycle (240 MHz). -/
def ticksPerCycle : Nat := 800
/-- The ticks of one CD_MODx count (960 MHz). -/
def ticksPerMod : Nat := 200
/-- A number of nanoseconds in ticks. -/
def ns (n : Nat) : Tick := n * ticksPerNs
/-- A number of microseconds in ticks. -/
def us (n : Nat) : Tick := n * 1000 * ticksPerNs
/-- A number of milliseconds in ticks. -/
def ms (n : Nat) : Tick := n * 1000000 * ticksPerNs
/-- A number of CD_CTLx cycles in ticks. -/
def cyc (n : Nat) : Tick := n * ticksPerCycle

/-- Access codes of R11; `rwcLk` is RWC combined with LK. -/
inductive Acc where
  | rw
  | ro
  | w1c
  | w1s
  | rwc
  | rwcLk
  deriving DecidableEq, Repr

/-- The parameter set a register's RWC fields belong to (R398); `none` where it has no RWC field. -/
inductive PSet where
  | none
  | tuning
  | safety
  deriving DecidableEq, Repr

/-- A field of a register: the register's offset, its most and its least significant bit (R10). -/
structure Fld where
  reg : Nat
  hi : Nat
  lo : Nat
  deriving DecidableEq, Repr

/-- One field row of a register map. -/
structure FieldDesc where
  hi : Nat
  lo : Nat
  acc : Acc
  reset : Nat
  deriving DecidableEq, Repr

/-- One register row of a register map: the offset of its first instance, stride and count of its windows (R523), stride
and count of its index within a window, the set of its RWC fields, and its fields. -/
structure RegDesc where
  first : Nat
  winStride : Nat
  winCount : Nat
  idxStride : Nat
  idxCount : Nat
  pset : PSet
  fields : List FieldDesc
  deriving DecidableEq, Repr

/-- A value of 16 bits read as signed two's complement (PU16 of R3). -/
def s16 (n : Nat) : Int := if n % 65536 < 32768 then (n % 65536 : Int) else (n % 65536 : Int) - 65536
/-- A value of 32 bits read as signed two's complement (Q16.16 of R3). -/
def s32 (n : Nat) : Int := if n % 4294967296 < 2147483648 then (n % 4294967296 : Int) else (n % 4294967296 : Int) - 4294967296
/-- A signed value as its `w`-bit two's complement code. -/
def toBits (w : Nat) (i : Int) : Nat := (i % (2 ^ w : Nat)).toNat
/-- Saturation at the limits of a format (R6). -/
def satI (lo hi i : Int) : Int := if i < lo then lo else if hi < i then hi else i
/-- Saturation to PU16 (R6). -/
def sat16 (i : Int) : Int := satI (-32768) 32767 i
/-- The magnitude of a PU16 value; that of the most negative one saturates (R6). -/
def absSat (i : Int) : Nat := min 32767 i.natAbs
/-- Saturation to signed 32 bits (R6). -/
def sat32 (i : Int) : Int := satI (-2147483648) 2147483647 i
/-- A counter that saturates at `m`. -/
def satAdd (m n : Nat) : Nat := if n < m then n + 1 else m
/-- A counter that wraps at `2 ^ w`. -/
def wrapAdd (w n : Nat) : Nat := (n + 1) % 2 ^ w
/-- Bit `i` of a number. -/
def bitOf (n i : Nat) : Bool := n.testBit i
/-- A Bool as 0 or 1. -/
def b2n (b : Bool) : Nat := if b then 1 else 0
/-- Bit `i` of `n` set to `b`. -/
def setBit (n i : Nat) (b : Bool) : Nat := if n.testBit i = b then n else if b then n + 2 ^ i else n - 2 ^ i
/-- The quotient of `n` by `d > 0`, rounded to the nearest integer, ties towards plus infinity. -/
def rdiv (n : Int) (d : Nat) : Int := (2 * n + d) / (2 * d)

end Sys2Proof
end

