-- ==== Sys2Proof/Operands.lean ====
section
/-! DEFINITION. Operands.lean: the structured operands of commands. -/

namespace Sys2Proof

/-- What a TELEMETRY frame carries (R228): the rails in counts of 10 mV, the TS ratio (Q0.16) with the island temperature
(Q8.8), or an off-state drain-source voltage in counts of 0.05 V. -/
inductive Telem where
  | rails (vneg vpos : Int)
  | temps (ts : Nat) (isl : Int)
  | vds (v : Int)
  deriving DecidableEq, Repr

/-- What Colmo keeps of a safety set whose signature it has verified (R401 to R403): DEVICE_ID, SET_VERSION, SIG. -/
structure SetId where
  dev : Nat
  version : Nat
  sig : Nat
  deriving DecidableEq, Repr

/-- A frame as the Ethernet port receives it (R354, R362): whether its FCS is correct, the destination MAC, the VLAN identifier of its
tag, IPv6 or IPv4, destination and source address and UDP port, and the UDP payload. -/
structure RxFrame where
  fcs : Bool
  mac : Nat
  vid : Option Nat
  v6 : Bool
  dst : Nat
  dport : Nat
  src : Nat
  sport : Nat
  udp : List Nat
  deriving DecidableEq, Repr

/-- What an answer needs of the bundle it answers (R360, R366, R372, R393): flow, tag, the SEQ of fragment 0, the bundle identifier, the
receive stamp of the last fragment, and the host's address and port. -/
structure Req where
  flow : Nat
  tag : Nat
  seq : Nat
  bundle : Nat
  arrival : Nat
  host : Nat
  port : Nat
  deriving DecidableEq, Repr

/-- A frame on a CAN bus (R426): extended identifier, remote frame, FD format, bit-rate switch, error state indicator; identifier (a base
identifier at bits 28:18), data length code, data. -/
structure CanFrame where
  xtd : Bool
  rtr : Bool
  fdf : Bool
  brs : Bool
  esi : Bool
  id : Nat
  dlc : Nat
  data : List Nat
  deriving DecidableEq, Repr

/-- An access of a master (R9): its width in bytes and its address. -/
structure Access where
  size : Nat
  addr : Nat
  deriving DecidableEq, Repr

/-- What an exchange of the timebase finds (R33): the error in ns that it leaves, the deviation of the channel's oscillator in ppb. -/
structure Exchange where
  err : Int
  drift : Int
  deriving DecidableEq, Repr

/-- What the modulator reads back (R164, R214): the pulses of the legs, and the pulse pins of an external modulator. -/
structure ReadBack where
  pulses : Nat
  pins : Nat
  deriving DecidableEq, Repr

/-- What an EDGE_TAG names and the slice has measured of its edge (R222, R223): the edge count, the delay, the switching time if there was one. -/
structure EdgeMeas where
  count : Nat
  tDly : Nat
  tSw : Option Nat
  deriving DecidableEq, Repr

/-- A gate supply as a slice's monitor finds it (R217, R226): the negative or the positive rail, its voltage in counts of 10 mV. -/
structure RailVolt where
  neg : Bool
  v : Int
  deriving DecidableEq, Repr

/-- A gate supply of a slice too high (R217, R226): the slice, the negative or the positive rail, its voltage in counts of 10 mV. -/
structure RailTrip where
  sl : Nat
  neg : Bool
  v : Int
  deriving DecidableEq, Repr

/-- The flags of a PLUMB pass (R309): the tested lane's own, another lane's. -/
structure PlumbFlags where
  own : Bool
  other : Bool
  deriving DecidableEq, Repr

/-- The addresses of a message on the ISO 11783 network (R444): source and destination. -/
structure CanPath where
  src : Nat
  dst : Nat
  deriving DecidableEq, Repr

/-- Where a frame of a control protocol goes (R354): the address it asks of, its VLAN tag. -/
structure CtlDest where
  dst : Nat
  vid : Option Nat
  deriving DecidableEq, Repr

/-- A frame of a slice's data channel (R206): towards the channel or towards the slice, its 72 bits. -/
structure LinkFrame where
  fromSlice : Bool
  word : Nat
  deriving DecidableEq, Repr

/-- The masters that read registers, each with its own hold of a _HI word (R526): a channel's core pair, the SMC's, its bridge. -/
inductive Master where
  | pair (ch : Ch)
  | smc
  | bridge
  deriving DecidableEq, Repr

/-- A gPTP message (R354 to R356) of a domain: a one-step Sync with the grandmaster's time of its sending in ns, corrected as IEEE 802.1AS
says; a two-step Sync and the Follow_Up that brings that time; a peer-delay measurement that has found the delay of the link in ns; an
Announce; another message. -/
inductive PtpMsg where
  | sync (domain : Nat) (origin : Int)
  | syncTwo (domain : Nat)
  | followUp (domain : Nat) (origin : Int)
  | pdelay (delay : Int)
  | announce (domain : Nat)
  | other
  deriving DecidableEq, Repr

/-- A frame of the control protocols that Colmo answers (R354). -/
inductive CtlProto where
  | arp
  | neighbour
  | echo
  | echo6
  deriving DecidableEq, Repr

/-- How an attempt to send a CAN frame fails (R434, R441, R442): the bus was lost to another sender, no receiver acknowledged, another error. -/
inductive TxFail where
  | arbitration
  | acknowledge
  | error
  deriving DecidableEq, Repr

end Sys2Proof
end

