-- ==== Sys2Proof/Syntax.lean ====
section
/-! DEFINITION. Syntax.lean: the commands the block takes, one constructor a row of the table of operations and events. The first operand of every command is the instant at which it happens, in ticks of device time. -/

namespace Sys2Proof

/-- The commands (spec/opcode_table.json), in the table's order. -/
inductive Instr where
  /-- VIN_RISE (R479): VIN rises after PD_AON lost power or above the valid level, causing a power-on or supply start. -/
  | vinRise (t : Tick) (mv : Nat)
  /-- POWER_UP_RELEASE (R494): At 2 ms after VIN valid the crystal is checked, the reset is released and the BIST record is checked. -/
  | powerUpRelease (t : Tick) (xtalOk : Bool)
  /-- VIN_BELOW_VIN_RST (R479): VIN stays below 4.6 V for 2 µs and a supply reset asserts. -/
  | vinBelowVinRst (t : Tick) (minMv : Nat)
  /-- PD_AON_LOSS (R479): VIN falls below 3.0 V and PD_AON loses power. -/
  | pdAonLoss (t : Tick)
  /-- RAIL_OUT_OF_WINDOW (R478): A regulated rail stays outside its window for 1 µs and causes the reset of the part it supplies. -/
  | railOutOfWindow (t : Tick) (rail : Nat)
  /-- RAIL_BACK_IN_WINDOW (R478): A rail returns to its window and releases the reset it held. -/
  | railBackInWindow (t : Tick) (rail : Nat)
  /-- VIN_DIP_BEGIN (R481): VIN stays below VIN_WARN for 2 µs, a dip begins and STICKY sets. -/
  | vinDipBegin (t : Tick) (mv : Nat)
  /-- VIN_DIP_END (R482): VIN stays above VIN_WARN plus hysteresis for 2 µs, and a sag-log entry, VIN_WARN event, EVT record and NTF follow. -/
  | vinDipEnd (t : Tick) (minMv : Nat)
  /-- NRESET_PIN (R491): nRESET held low for 1 µs causes a pin reset. -/
  | nresetPin (t : Tick) (minMv : Nat)
  /-- NWAKE (R447): nWAKE held low for more than 10 µs in STANDBY wakes the device through a supply reset. -/
  | nwake (t : Tick)
  /-- AON_WAKE_TIMER (R488): The AON wake timer expires in STANDBY and starts the device through a supply reset. -/
  | aonWakeTimer (t : Tick)
  /-- SMC_WDOG (R492): The SMC watchdog period expires, SMC_WDOG is raised and an SMC warm reset follows. -/
  | smcWdog (t : Tick)
  /-- SYS_WDOG_KICK (R492): A write of 1 to KICK restarts the SMC watchdog. -/
  | sysWdogKick (t : Tick)
  /-- SYS_BLK_RST (R491): Colmo resets one of ETH, HOSTQ, CANA, CANB or ARC by a block soft reset. -/
  | sysBlkRst (t : Tick) (bits : Nat)
  /-- LP_GO (R497): A write of LP_GO enters the low-power state named by LP_STATE. -/
  | lpGo (t : Tick)
  /-- XTAL_LOSS (R489): The crystal has no edge for 2 µs or deviates beyond ±2 %, and the SMC PLL moves to CD_AON. -/
  | xtalLoss (t : Tick)
  /-- XTAL_RETURN (R489): The crystal has been within ±2 % for 10 ms and the SMC PLL returns to it. -/
  | xtalReturn (t : Tick)
  /-- CLK_DEVIATION (R23): A channel clock deviates by more than 2 % against CD_AON or CD_SMC, raising CLK_CTL or CLK_XREF. -/
  | clkDeviation (t : Tick) (ch : Ch) (vsAon : Bool) (vsSmc : Bool)
  /-- MOD_PLL_LOCK_LOSS (R489): The channel PLL lock detector reports loss of lock of CD_MODx, raising CLK_CTL. -/
  | modPllLockLoss (t : Tick) (ch : Ch)
  /-- ROM_BOOT (R466): After the SMC pair is released the ROM reads the partition table, validates and starts a Colmo slot. -/
  | romBoot (t : Tick) (tableOk : Bool) (readA : Bool) (readB : Bool)
  /-- COLMO_START (R466): Colmo validates and loads the channel image, configures device blocks from the archive and releases channel resets. -/
  | colmoStart (t : Tick) (b0 : Nat) (b1 : Nat) (bad : Nat) (readA : Bool) (readB : Bool)
  /-- BIST_TEST_END (R346): A start-up, undercoat or requested BIST test of one target ends with its result, validity and failure action. -/
  | bistTestEnd (t : Tick) (target : Nat) (clk : Bool) (fail : Bool) (rows : List (Nat × Nat))
  /-- CHANNEL_RESET (R491): A channel reset takes one channel to OFF and ends its switching. -/
  | channelReset (t : Tick) (ch : Ch)
  /-- CHANNEL_RESET_RELEASE (R51): A released channel verifies its image, loads committed banks or reset values and enters PRIMED, switching on PD_GDx. -/
  | channelResetRelease (t : Tick) (ch : Ch) (tA : Bool) (tB : Bool) (sA : Bool) (sB : Bool)
  /-- TIMEBASE_EXCHANGE (R33): Every 1 ms a channel exchanges timestamps with the SMC, correcting rate and offset or counting a miss toward holdover. -/
  | timebaseExchange (t : Tick) (ch : Ch) (ok : Bool) (x : Exchange)
  /-- PEER_S4_FORWARD (R21): The SMC forwards the other channel's S4 event and the channel records PEER_S4. -/
  | peerS4Forward (t : Tick) (ch : Ch)
  /-- DECISION_BOUNDARY (R145): At each decision boundary the decided vector is applied, references are latched, and boundary triggers, cross-check, speed class and selection run. -/
  | decisionBoundary (t : Tick) (ch : Ch)
  /-- DTC_INPUT_READ (R146): At OFS after the boundary the engine reads currents, DC link, conduction record and speed. -/
  | dtcInputRead (t : Tick) (ch : Ch)
  /-- DECISION_COMPLETE (R150): At OFS + 72 the decision for the next boundary, the observer step, checks, torque window and telemetry record are complete. -/
  | decisionComplete (t : Tick) (ch : Ch) (ecc : Nat)
  /-- GOVERNOR_UPDATE (R161): After GOV_N decisions the governor computes switching frequencies and rescales the hysteresis bands. -/
  | governorUpdate (t : Tick) (ch : Ch)
  /-- MOD_READBACK (R164): The read-back pulse differs from the scheduled state and MOD_READBACK is raised. -/
  | modReadback (t : Tick) (ch : Ch) (x : ReadBack)
  /-- TQ_REF_WRITE (R167): A write to TQ_REF releases the staged TQ_SEQ and SPD_LIM for latching at the next boundary. -/
  | tqRefWrite (t : Tick) (ch : Ch) (ref : Nat)
  /-- STAGED_REF_WRITE (R167): A write to TQ_SEQ or SPD_LIM is staged until the next TQ_REF write. -/
  | stagedRefWrite (t : Tick) (ch : Ch) (spd : Bool) (value : Nat)
  /-- CH_REQ_ARM (R54): ARM is checked against CH_READY and either refused or starts the ARM sequence. -/
  | chReqArm (t : Tick) (ch : Ch)
  /-- CH_REQ_DISARM (R53): DISARM starts the torque ramp to 0 and blocks further stream commands. -/
  | chReqDisarm (t : Tick) (ch : Ch)
  /-- CH_REQ_CLEAR_FAULT (R59): CLEAR_FAULT latches condition 3 of leaving FAULT. -/
  | chReqClearFault (t : Tick) (ch : Ch)
  /-- ARM_WELD_CHECK_END (R55): After debounce the contactor feedbacks are judged and the primer test starts, or the sequence ends. -/
  | armWeldCheckEnd (t : Tick) (ch : Ch)
  /-- ARM_SEQUENCE_END (R55): The last confirm of the ARM sequence completes, the slices are enabled and the channel enters ARMED. -/
  | armSequenceEnd (t : Tick) (ch : Ch)
  /-- ARM_TIMEOUT (R56): ARM_TIMEOUT_T expires, the sequence is abandoned and the channel returns to PRIMED or HOLD. -/
  | armTimeout (t : Tick) (ch : Ch)
  /-- TRANSITION_DELAY_EXPIRY (R530): The 1 ms delay of a pending state transition expires at a boundary and the transition is made if its conditions still hold. -/
  | transitionDelayExpiry (t : Tick) (ch : Ch)
  /-- STREAM_LAPSE (R57): The lapse timer reaches LAPSE_RAMP_T, STREAM_LAPSE is raised and torque ramps toward 0. -/
  | streamLapse (t : Tick) (ch : Ch)
  /-- LAPSE_HOLD (R57): The lapse timer reaches LAPSE_HOLD_T and the channel enters HOLD. -/
  | lapseHold (t : Tick) (ch : Ch)
  /-- COMMIT_CTL_TUNING_COMMIT (R63): A tuning commit request checks the shadow CRC and ranges and becomes pending or is refused. -/
  | commitCtlTuningCommit (t : Tick) (ch : Ch)
  /-- COMMIT_CTL_SAFETY_STAGE (R64): SAFETY_STAGE checks the CRC and holds a safety commit for 5 s. -/
  | commitCtlSafetyStage (t : Tick) (ch : Ch) (id : SetId)
  /-- COMMIT_CTL_SAFETY_CONFIRM (R64): SAFETY_CONFIRM with the staged CRC makes the safety commit pending. -/
  | commitCtlSafetyConfirm (t : Tick) (ch : Ch)
  /-- SAFETY_STAGE_EXPIRY (R64): A staged safety commit reaches 5 s unconfirmed and lapses. -/
  | safetyStageExpiry (t : Tick) (ch : Ch)
  /-- COMMIT_LANDING (R65): A pending commit lands at the first eligible boundary, swapping the set's active and shadow copies and running landing actions. -/
  | commitLanding (t : Tick) (ch : Ch)
  /-- SHADOW_COPY_END (R62): The post-landing copy into the shadow copies ends and held writes and readbacks are served. -/
  | shadowCopyEnd (t : Tick) (ch : Ch)
  /-- REGISTER_WRITE (R11): A write to a register without a row of its own acts by its access codes. -/
  | registerWrite (t : Tick) (who : Option Ch) (a : Access) (data : Nat)
  /-- LO_REGISTER_READ (R526): A read of a _LO register holds the matching _HI word for that master. -/
  | loRegisterRead (t : Tick) (mst : Master) (a : Access)
  /-- HI_REGISTER_READ (R526): A read of a _HI register returns the held word and ends the hold. -/
  | hiRegisterRead (t : Tick) (mst : Master) (a : Access)
  /-- ADC_INJ_TRIGGER (R80): An injected trigger starts an injected sequence, abandoning regular or skim work, or is discarded as an overrun. -/
  | adcInjTrigger (t : Tick) (ch : Ch) (n : Nat) (bits : Nat)
  /-- ADC_REG_TRIGGER (R78): A regular trigger starts, holds or discards a regular sequence. -/
  | adcRegTrigger (t : Tick) (ch : Ch) (n : Nat) (src : Nat)
  /-- CONV_REQ_INJ_SW (R79): A firmware injected request is taken in the next cycle as a trigger or dropped. -/
  | convReqInjSw (t : Tick) (ch : Ch) (n : Nat)
  /-- CONV_REQ_REG_SW (R79): A firmware regular request is taken in the next cycle as a trigger or dropped. -/
  | convReqRegSw (t : Tick) (ch : Ch) (n : Nat)
  /-- ADC_SCAN_TICK (R83): Every SCAN_INTERVAL cycles ADC3 starts a scan or discards the tick. -/
  | adcScanTick (t : Tick) (ch : Ch)
  /-- ADC_CONVERSION_END (R76): A slot's conversion ends and its corrected result goes to the result bus, registers and FIFO. -/
  | adcConversionEnd (t : Tick) (ch : Ch) (n : Nat) (raw : Nat) (raw1 : Nat)
  /-- ADC_STALL (R91): A conversion has not ended 130 cycles after sampling began and ADC_STALL is raised. -/
  | adcStall (t : Tick) (ch : Ch)
  /-- FIFO_DATA_READ (R88): A read of FIFO_DATA removes the oldest entry and latches its timestamp. -/
  | fifoDataRead (t : Tick) (ch : Ch) (n : Nat)
  /-- FIFO_FLUSH (R88): FLUSH empties the FIFO and clears its overflow count. -/
  | fifoFlush (t : Tick) (ch : Ch) (n : Nat)
  /-- SD_MCLK_MEASURE (R99): After 256 MCLK periods the block reports the period and checks the external range. -/
  | sdMclkMeasure (t : Tick) (ch : Ch) (period : Nat)
  /-- CLK_LOSS (R103): CLKLOSS_T cycles pass without an MCLK edge and every enabled input becomes invalid. -/
  | clkLoss (t : Tick) (ch : Ch)
  /-- STUCK_DATA (R102): 64 identical bits on an input make it invalid. -/
  | stuckData (t : Tick) (ch : Ch) (n : Nat)
  /-- SD_CLOCK_RESUME (R104): The eighth consecutive MCLK edge resumes the clock and starts settling. -/
  | sdClockResume (t : Tick) (ch : Ch)
  /-- SD_STUCK_END (R104): A differing bit ends stuck data and starts settling of that input. -/
  | sdStuckEnd (t : Tick) (ch : Ch) (n : Nat)
  /-- SD_DATA_FILTER_OUTPUT (R106): A data filter completes a window and delivers a corrected, stamped output or discards it while settling. -/
  | sdDataFilterOutput (t : Tick) (ch : Ch) (n : Nat) (tail : List Bool)
  /-- SD_COMPARATOR_OUTPUT (R110): A comparator filter delivers an output and raises or clears CMPH or CMPL. -/
  | sdComparatorOutput (t : Tick) (ch : Ch) (n : Nat) (bit : Bool)
  /-- RESOLVER_EVENT (R134): At phase EVT_PH of the excitation XCHK issues the resolver regular trigger. -/
  | resolverEvent (t : Tick) (ch : Ch) (second : Bool)
  /-- ENCODER_EDGE (R137): A filtered quadrature edge updates the count or raises ENC_ILLEGAL. -/
  | encoderEdge (t : Tick) (ch : Ch) (a : Bool) (b : Bool)
  /-- ENCODER_INDEX (R138): A rising ENC_Z resets the count and sets or checks the absolute angle. -/
  | encoderIndex (t : Tick) (ch : Ch)
  /-- ENCODER_SPEED_TIMEOUT (R139): No encoder edge for 10 ms sets the speed to 0. -/
  | encoderSpeedTimeout (t : Tick) (ch : Ch)
  /-- DCL_ALT_STALE (R130): DCL_AGE decision periods pass in RUN without a drain-sense report. -/
  | dclAltStale (t : Tick) (ch : Ch)
  /-- WINDOW_OPEN (R171): A masking window becomes due at its boundary, forces V0 and issues the window trigger. -/
  | windowOpen (t : Tick) (ch : Ch)
  /-- WINDOW_TRIGGER_DELAY (R173): TRIG_DLY after the opening the window trigger reaches the converters. -/
  | windowTriggerDelay (t : Tick) (ch : Ch)
  /-- WINDOW_CLOSE (R171): W cycles after opening the window closes. -/
  | windowClose (t : Tick) (ch : Ch)
  /-- REFRESH_FORCED (R179): A bootstrap leg reaches TON_MAX periods high and the guard forces V0. -/
  | refreshForced (t : Tick) (ch : Ch)
  /-- REFRESH_FORCING_END (R179): The leg's low side has conducted PR periods and the refresh forcing ends. -/
  | refreshForcingEnd (t : Tick) (ch : Ch)
  /-- ON_TIME_EXCEEDED (R181): A bootstrap leg's pulse-high count reaches TON_MAX + 1. -/
  | onTimeExceeded (t : Tick) (ch : Ch)
  /-- OBS_CMD_RELEASE (R194): RELEASE clears the frozen speed in PRIMED with contactors open, or is refused. -/
  | obsCmdRelease (t : Tick) (ch : Ch)
  /-- TM_WINDOW_END (R197): A 50 µs torque-monitor window ends and the monitor evaluates it. -/
  | tmWindowEnd (t : Tick) (ch : Ch)
  /-- TM_RESULT_WRITE (R199): The monitor writes its results and raises its sources for the window. -/
  | tmResultWrite (t : Tick) (ch : Ch)
  /-- TM_LATE (R199): 40 µs after a window ends without results TM_LATE becomes active. -/
  | tmLate (t : Tick) (ch : Ch)
  /-- EDGE_CHANNEL_EDGE (R210): A slice receives a pulse or enable change and turns off, prepares to turn on, or clears its latch. -/
  | edgeChannelEdge (t : Tick) (ch : Ch) (sl : Nat) (present : Bool) (rail : Int)
  /-- DEAD_TIME_EXPIRY (R211): The dead time expires and the slice turns on or waits for PARTNER_OFF. -/
  | deadTimeExpiry (t : Tick) (ch : Ch) (sl : Nat)
  /-- PARTNER_OFF_CHANGE (R211): PARTNER_OFF stable for 10 ns lets a waiting slice turn on. -/
  | partnerOffChange (t : Tick) (ch : Ch) (sl : Nat)
  /-- PARTNER_OFF_TIMEOUT (R211): PARTNER_OFF is not 1 within 1 µs and the slice latches INTLK. -/
  | partnerOffTimeout (t : Tick) (ch : Ch) (sl : Nat)
  /-- GATE_ON_CHANGE (R205): A change of GATE_ON reaches the modulator and is relayed to the partner. -/
  | gateOnChange (t : Tick) (ch : Ch) (sl : Nat) (on : Bool)
  /-- PAIR_INTERLOCK (R212): Both slices of a pair report GATE_ON for 20 ns and the pair's enable goes to 0. -/
  | pairInterlock (t : Tick) (ch : Ch) (p : Nat)
  /-- SLICE_WRITE_FRAME (R206): A slice receives a WRITE frame and updates its configuration. -/
  | sliceWriteFrame (t : Tick) (ch : Ch) (sl : Nat) (reg : Nat)
  /-- SLICE_READ_FRAME (R206): A slice receives a READ frame and answers with READ_DATA. -/
  | sliceReadFrame (t : Tick) (ch : Ch) (sl : Nat) (reg : Nat)
  /-- EDGE_TAG (R222): A slice receives an edge tag, checks it against the edge received and releases its measurements. -/
  | edgeTag (t : Tick) (ch : Ch) (sl : Nat) (x : EdgeMeas)
  /-- EDGE_TAG_TIMEOUT (R223): No tag arrives within 2 µs of an edge and the step is frozen. -/
  | edgeTagTimeout (t : Tick) (ch : Ch) (sl : Nat) (count : Nat) (tDly : Nat) (tSw : Option Nat)
  /-- SLICE_STATUS_FRAME (R206): The channel receives a STATUS frame from a slice. -/
  | sliceStatusFrame (t : Tick) (ch : Ch) (sl : Nat)
  /-- SLICE_WRITE_ACK_FRAME (R207): The channel receives a WRITE_ACK for a configuration write. -/
  | sliceWriteAckFrame (t : Tick) (ch : Ch) (sl : Nat) (reg : Nat)
  /-- SLICE_READ_DATA_FRAME (R207): The channel receives read-back data and compares it with the configuration. -/
  | sliceReadDataFrame (t : Tick) (ch : Ch) (sl : Nat) (reg : Nat) (data : Nat)
  /-- SLICE_EDGE_REPORT_FRAME (R228): The channel receives edge times and places them in FTH_ON or FTH_OFF. -/
  | sliceEdgeReportFrame (t : Tick) (ch : Ch) (sl : Nat)
  /-- SLICE_TELEMETRY_FRAME (R228): The channel receives rail, temperature or drain-sense measurements. -/
  | sliceTelemetryFrame (t : Tick) (ch : Ch) (sl : Nat) (m : Telem)
  /-- SLICE_FAULT_FRAME (R228): The channel receives fault detail into SL_FAULT. -/
  | sliceFaultFrame (t : Tick) (ch : Ch) (sl : Nat)
  /-- SLICE_LINK_LOSS (R24): A slice sees no valid frame for 2 µs, turns its switch off and latches LINK. -/
  | sliceLinkLoss (t : Tick) (ch : Ch) (sl : Nat)
  /-- CHANNEL_LINK_LOSS (R209): The channel sees no valid frame from a slice for 2 µs and raises LINK_FAULT. -/
  | channelLinkLoss (t : Tick) (ch : Ch) (sl : Nat)
  /-- SLICE_CONFIG_CHECK (R207): Every 1 ms the channel reads back each slice's configuration and compares it. -/
  | sliceConfigCheck (t : Tick) (ch : Ch)
  /-- ISLAND_POWER_UP (R208): A slice island powers up, holds its switch off and the channel sends its configuration. -/
  | islandPowerUp (t : Tick) (ch : Ch) (sl : Nat)
  /-- SLICE_READY (R208): Configuration verified, supplies within limits for 100 µs and link valid: the slice becomes ready. -/
  | sliceReady (t : Tick) (ch : Ch) (sl : Nat)
  /-- SC_BLANKING_END (R236): SC1 blanking ends after a turn-on and SC1 becomes effective. -/
  | scBlankingEnd (t : Tick) (ch : Ch) (sl : Nat) (above : Bool) (vds : Int)
  /-- SC2_TRIP (R237): The SC land crosses SC2, the slice begins soft turn-off and latches SC2. -/
  | sc2Trip (t : Tick) (ch : Ch) (sl : Nat) (vds : Int)
  /-- SC1_TRIP (R237): The SC land crosses SC1 outside blanking, the slice begins soft turn-off and latches SC1. -/
  | sc1Trip (t : Tick) (ch : Ch) (sl : Nat) (vds : Int)
  /-- PLATEAU_END (R238): The two-level turn-off plateau time expires and the soft turn-off completes. -/
  | plateauEnd (t : Tick) (ch : Ch) (sl : Nat)
  /-- GS_UV (R217): A gate rail is beyond its undervoltage level for 1 µs and the slice latches and turns off. -/
  | gsUv (t : Tick) (ch : Ch) (sl : Nat) (x : RailVolt)
  /-- GS_OV (R217): A gate rail is beyond its overvoltage level for 1 µs and the slice latches and turns off. -/
  | gsOv (t : Tick) (ch : Ch) (x : RailTrip)
  /-- ISL_OT (R217): Island temperature exceeds 150 °C and the slice latches and turns off. -/
  | islOt (t : Tick) (ch : Ch) (sl : Nat)
  /-- SLICE_VDS_MEASURE (R225): Once per period a slice measures its off-state drain-source voltage and reports VDS_MEAS. -/
  | sliceVdsMeasure (t : Tick) (ch : Ch) (sl : Nat) (v : Int)
  /-- SLICE_SUPPLY_MEASURE (R228): Every 100 µs a slice reports rails, TS ratio and island temperature, and TS_OT is judged. -/
  | sliceSupplyMeasure (t : Tick) (ch : Ch) (sl : Nat) (vneg : Int) (vpos : Int) (ts : Nat) (isl : Int)
  /-- EN_PIN_FALL (R215): An EN pin's filtered level falls, removing the pair's enable and raising EN_LOW. -/
  | enPinFall (t : Tick) (ch : Ch) (p : Nat)
  /-- EN_PIN_RISE (R215): An EN pin's filtered level rises, restoring the pair's enable. -/
  | enPinRise (t : Tick) (ch : Ch) (p : Nat)
  /-- PRIMER_REQ (R230): PRIMER_REQ starts a primer test in PRIMED or is dropped. -/
  | primerReq (t : Tick) (ch : Ch)
  /-- PRIMER_READING (R230): Every 0.5 ms the slices read VL, VH and returned current of the phase under test. -/
  | primerReading (t : Tick) (ch : Ch) (vl : Int) (vh : Int) (ret : Int)
  /-- PRIMER_SETTLE_TIMEOUT (R230): A phase has not settled after SETTLE ms and its NSET bit is set. -/
  | primerSettleTimeout (t : Tick) (ch : Ch)
  /-- PRIMER_AVERAGE_END (R231): The 1 ms average of a phase ends and the phase is classified. -/
  | primerAverageEnd (t : Tick) (ch : Ch)
  /-- PRIMER_TEST_END (R230): After 1 ms with sources off the test ends with DONE and PRIMER_DONE. -/
  | primerTestEnd (t : Tick) (ch : Ch)
  /-- DCL_COMPARATOR_CHANGE (R241): A filtered DC-link comparator changes state, raising or clearing OV2, OVR, OV1 or UV effects. -/
  | dclComparatorChange (t : Tick) (ch : Ch) (cmp : Nat) (on : Bool)
  /-- CHOP_MIN_T_EXPIRY (R244): MIN_T after the last change the chopper command follows OV1. -/
  | chopMinTExpiry (t : Tick) (ch : Ch)
  /-- CHOP_PROVE (R245): PROVE_T after a rising chopper command PROT judges conduction. -/
  | chopProve (t : Tick) (ch : Ch) (sc : Nat) (vdsHigh : Bool)
  /-- CHOP_TEST (R247): CHOP_TEST issues one chopper test command in PRIMED or HOLD. -/
  | chopTest (t : Tick) (ch : Ch)
  /-- DCL_EXT_TIMER (R243): DCL_EXT_T after a safe state came into force with OV2 active, DCL_EXT becomes active. -/
  | dclExtTimer (t : Tick) (ch : Ch)
  /-- DCHG_REQ (R250): A command discharge request is accepted and the discharge sequence starts. -/
  | dchgReq (t : Tick) (ch : Ch)
  /-- DCHG_CANCEL (R537): DCHG_CANCEL ends a discharge started only by command. -/
  | dchgCancel (t : Tick) (ch : Ch)
  /-- DCHG_PIN (R537): nDCHG_REQ low for more than 10 µs raises DCHG_PIN and requests discharge. -/
  | dchgPin (t : Tick) (ch : Ch)
  /-- DCHG_PIN_RELEASE (R537): nDCHG_REQ high for 10 µs clears DCHG_PIN. -/
  | dchgPinRelease (t : Tick) (ch : Ch)
  /-- DCHG_CFB_TIMEOUT (R251): Contactors do not read open within 100 ms and the discharge fails. -/
  | dchgCfbTimeout (t : Tick) (ch : Ch)
  /-- DCHG_CHECK_T (R251): After CHECK_T ms the link drop is checked and the discharge continues or fails. -/
  | dchgCheckT (t : Tick) (ch : Ch)
  /-- DCHG_T_EXPIRY (R251): DONE is not reached within DCHG_T and the discharge fails. -/
  | dchgTExpiry (t : Tick) (ch : Ch)
  /-- ENERGY_UPDATE (R252): Every 100 µs PROT updates the discharge energy accumulator and pauses or resumes. -/
  | energyUpdate (t : Tick) (ch : Ch) (link : Int)
  /-- AUTONOMOUS_DISCHARGE (R254): Slice 7 without frames or supply for AUTO_DLY starts autonomous discharge. -/
  | autonomousDischarge (t : Tick) (ch : Ch)
  /-- WINDING_DISCHARGE_TIMEOUT (R257): WD_T ms pass and winding discharge ends with WD_ABORT. -/
  | windingDischargeTimeout (t : Tick) (ch : Ch)
  /-- SOURCE_ARRIVAL (R263): A fault source becomes active at the dust sheet and acts by its severity, possibly entering FAULT and a safe state. -/
  | sourceArrival (t : Tick) (ch : Ch) (blk : Nat) (bit : Nat)
  /-- SOURCE_CLEAR (R262): A source becomes inactive and an EVT record is sent. -/
  | sourceClear (t : Tick) (ch : Ch) (blk : Nat) (bit : Nat)
  /-- HOLD_END (R273): A hard-short or core hold ends and the dust sheet selects from speed class and leg health. -/
  | holdEnd (t : Tick) (ch : Ch)
  /-- LEG_CLR (R271): LEG_CLR clears the leg-health record in PRIMED with contactors open, or is refused. -/
  | legClr (t : Tick) (ch : Ch)
  /-- CFB_CHANGE (R290): A contactor feedback changes and is compared with its command. -/
  | cfbChange (t : Tick) (ch : Ch) (n : Nat) (high : Bool)
  /-- CONTACTOR_DEBOUNCE_EXPIRY (R290): A command-feedback disagreement lasts DEB ms and raises CFB_DISCREP or CONT_WELD. -/
  | contactorDebounceExpiry (t : Tick) (ch : Ch) (n : Nat)
  /-- PRECHARGE_TIMEOUT (R292): The precharge timer reaches PRE_CFG.T and PRECHARGE_FAIL is raised. -/
  | prechargeTimeout (t : Tick) (ch : Ch)
  /-- GUARD_INPUT_CHANGE (R294): A filtered guard input changes, updating guard state and its sources. -/
  | guardInputChange (t : Tick) (ch : Ch) (g1 : Bool) (g2 : Bool)
  /-- GUARD_DISC_TIMEOUT (R295): Guard inputs stay equivalent beyond DISC_T and GUARD_DISCREP is raised. -/
  | guardDiscTimeout (t : Tick) (ch : Ch)
  /-- ACK_PRESS_BEGIN (R298): nACK has been low for DEB ms and a press begins. -/
  | ackPressBegin (t : Tick) (ch : Ch)
  /-- ACK_PRESS_END (R298): nACK has been high for DEB ms and a qualifying press sets ACK_SEEN. -/
  | ackPressEnd (t : Tick) (ch : Ch)
  /-- ACK_JAMMED (R299): A press lasts 5 s and ACK_JAMMED is raised. -/
  | ackJammed (t : Tick) (ch : Ch)
  /-- WELD_CLR (R291): WELD_CLR clears the weld records in PRIMED with feedbacks open, or is refused. -/
  | weldClr (t : Tick) (ch : Ch)
  /-- AUX_ON (R288): AUX_ON energises CDRV3 in auxiliary mode. -/
  | auxOn (t : Tick) (ch : Ch)
  /-- AUX_OFF (R288): AUX_OFF de-energises CDRV3 in auxiliary mode. -/
  | auxOff (t : Tick) (ch : Ch)
  /-- PLUMB_MISMATCH (R310): The plumb comparator or a delay-stage parity check fails and CORE_PAIR holds the pair in reset. -/
  | plumbMismatch (t : Tick) (ch : Ch) (kind : Nat)
  /-- PLUMB_TEST (R309): Every 1 ms one comparator lane is inverted and the flag is checked. -/
  | plumbTest (t : Tick) (pair : Option Ch) (x : PlumbFlags)
  /-- SMC_PAIR_FAULT (R312): An SMC pair fault raises SMC_PAIR and causes an SMC warm reset. -/
  | smcPairFault (t : Tick) (kind : Nat)
  /-- DEBUG_HALT (R315): A debug halt, step or write sets LOCKSTEP_BROKEN and takes the channel to HOLD. -/
  | debugHalt (t : Tick) (pair : Option Ch) (kind : Nat)
  /-- DEBUG_RESUME (R314): A halted pair resumes and its comparator with it. -/
  | debugResume (t : Tick) (pair : Option Ch)
  /-- TCM_ECC_READ (R319): A TCM read finds one or two bit errors, corrects or reports them. -/
  | tcmEccRead (t : Tick) (ch : Ch) (word : Nat) (double : Bool)
  /-- SHADOW_MISMATCH (R316): A safety-set bit and its inverted copy disagree and SHADOW_MISMATCH is raised. -/
  | shadowMismatch (t : Tick) (ch : Ch) (addr : Nat) (bit : Nat)
  /-- CVU_DATA_WRITE (R321): A write to CVU_DATA feeds bytes into the check-value register. -/
  | cvuDataWrite (t : Tick) (ch : Option Ch) (n : Nat) (data : Nat)
  /-- CVU_INIT (R322): INIT loads the polynomial's initial value. -/
  | cvuInit (t : Tick) (ch : Option Ch) (n : Nat)
  /-- CVU_CHECK (R323): CHECK compares the result with CVU_EXP and reports a mismatch. -/
  | cvuCheck (t : Tick) (ch : Option Ch) (n : Nat)
  /-- SKIM_SLICE_START (R329): The scheduler starts a skim slice of an enabled class on a free unit. -/
  | skimSliceStart (t : Tick) (ch : Ch) (cls : Nat) (unit : Nat)
  /-- SKIM_SLICE_END (R330): A skim slice completes and gives its verdict. -/
  | skimSliceEnd (t : Tick) (ch : Ch) (raw : Nat) (raw1 : Nat) (ok : Bool) (detail : Nat)
  /-- SKIM_ABORT (R335): Normal service aborts a skim slice, which is rescheduled. -/
  | skimAbort (t : Tick) (ch : Ch)
  /-- SKIM_CYCLE_END (R336): A coverage cycle ends and incomplete classes raise SKIM_OVERDUE. -/
  | skimCycleEnd (t : Tick) (ch : Ch)
  /-- SKIM_REQ_PASS (R337): PASS runs one complete coverage pass back to back. -/
  | skimReqPass (t : Tick) (ch : Ch)
  /-- BIST_REQ_START (R351): A BIST request runs a test on a target in OFF, or is refused. -/
  | bistReqStart (t : Tick) (start : Bool) (fuse : Bool)
  /-- UNDERCOAT_START (R341): On accepted shutdown Colmo checks channel conditions and starts the undercoat tests. -/
  | undercoatStart (t : Tick)
  /-- UNDERCOAT_RECORD_WRITE (R343): After the last test the record is written to AON retention and the low-power state entered. -/
  | undercoatRecordWrite (t : Tick)
  /-- CMD_FRAME_RX (R362): A CMD frame passes the receive checks and enters its queue, completing a bundle or not. -/
  | cmdFrameRx (t : Tick) (fr : RxFrame)
  /-- ARC_FRAME_RX (R362): A host ARC frame is received on an IN archive flow. -/
  | arcFrameRx (t : Tick) (fr : RxFrame)
  /-- CRD_FRAME_RX (R368): A CRD frame updates the module's LIMIT counters. -/
  | crdFrameRx (t : Tick) (fr : RxFrame)
  /-- BUNDLE_TIMEOUT (R374): BUNDLE_T passes after fragment 0 and the incomplete bundle is discarded. -/
  | bundleTimeout (t : Tick) (flow : Nat)
  /-- BUNDLE_PROCESS (R391): Colmo takes a complete bundle, checks every record and posts or refuses it. -/
  | bundleProcess (t : Tick)
  /-- MAILBOX_PART_TAKE (R392): A channel supervisor takes its part of a bundle, re-checks and applies it or sends PART_REFUSED. -/
  | mailboxPartTake (t : Tick) (ch : Ch)
  /-- FRAME_EGRESS (R363): Egress sends the next frame by rank and weight when its flow has credit. -/
  | frameEgress (t : Tick)
  /-- CRD_TIMER (R369): At the end of each CRD_T interval with changes the module sends a CRD. -/
  | crdTimer (t : Tick)
  /-- CRD_FULL_TIMER (R369): Every 100 ms the module sends a CRD with every open flow. -/
  | crdFullTimer (t : Tick)
  /-- RETX_TIMEOUT (R375): A reliable frame or host SENT stays unmatched for RETX_T and starts an audit. -/
  | retxTimeout (t : Tick) (host : Bool)
  /-- HQ_AUDIT_REQ (R375): HQ_AUDIT.REQ starts a credit audit. -/
  | hqAuditReq (t : Tick)
  /-- HQ_AUDIT_EPOCH_REQ (R378): HQ_AUDIT.EPOCH_REQ requests an epoch raise. -/
  | hqAuditEpochReq (t : Tick)
  /-- AUDIT_DRAIN_END (R376): The 1 ms drain ends and the module sends AUDIT_REQ or AUDIT_RSP. -/
  | auditDrainEnd (t : Tick)
  /-- AUDIT_REQ (R376): The module receives AUDIT_REQ, stops sending and starts its drain. -/
  | auditReq (t : Tick) (fr : RxFrame)
  /-- AUDIT_RSP (R376): The module as initiator reconciles counters, checks consistency and sends AUDIT_DONE. -/
  | auditRsp (t : Tick) (fr : RxFrame)
  /-- AUDIT_DONE (R376): The module applies reconciled counters, resends reliable copies and resumes. -/
  | auditDone (t : Tick) (fr : RxFrame)
  /-- AUDIT_RSP_TIMEOUT (R376): No AUDIT_RSP within 5 ms: the request is repeated or the audit fails with an epoch raise. -/
  | auditRspTimeout (t : Tick)
  /-- EPOCH_RAISE (R378): The module increments EPOCH, discards old fragments and copies, and resets credits. -/
  | epochRaise (t : Tick)
  /-- EPOCH_NEW_TIMER (R378): Every 10 ms until acknowledged the module sends EPOCH_NEW. -/
  | epochNewTimer (t : Tick)
  /-- EPOCH_ACK (R378): An EPOCH_ACK carrying the new epoch resumes sending. -/
  | epochAck (t : Tick) (fr : RxFrame)
  /-- EPOCH_REQ (R378): A host EPOCH_REQ triggers an epoch raise. -/
  | epochReq (t : Tick) (fr : RxFrame)
  /-- HELLO_TIMER (R380): Every 100 ms until a CMD is accepted the module sends HELLO. -/
  | helloTimer (t : Tick)
  /-- LINK_UP (R380): The link comes up, LINK_DOWN clears and an audit or raise and NTF follow. -/
  | linkUp (t : Tick) (speed : Nat)
  /-- LINK_DOWN (R357): LINK_UP falls and LINK_DOWN becomes active. -/
  | linkDown (t : Tick)
  /-- PTP_MESSAGE_RX (R356): A gPTP message updates the device timebase and SYNCED state. -/
  | ptpMessageRx (t : Tick) (msg : PtpMsg)
  /-- ANNOUNCE_TIMEOUT (R356): Three Announce intervals pass without an Announce and SYNCED clears. -/
  | announceTimeout (t : Tick)
  /-- NTF_VECTOR_FIRE (R383): A vector fires, sets its pending bit and sends an NTF or drives a pin. -/
  | ntfVectorFire (t : Tick) (v : Nat)
  /-- NTF_HOLDOFF_EXPIRY (R383): A vector's HOLDOFF passes and a held NTF may be sent. -/
  | ntfHoldoffExpiry (t : Tick) (v : Nat)
  /-- MDIO_GO (R388): GO starts an MDIO transaction to the PHY. -/
  | mdioGo (t : Tick)
  /-- MDIO_TRANSACTION_END (R388): An MDIO transaction ends and BUSY clears. -/
  | mdioTransactionEnd (t : Tick) (data : Nat)
  /-- INFO (R397): Returns product, state, identity and session information. -/
  | info (t : Tick) (rq : Req) (args : List Nat)
  /-- SESSION_NONCE (R396): Returns a nonce for one SESSION_KEY. -/
  | sessionNonce (t : Tick) (rq : Req) (args : List Nat)
  /-- SESSION_KEY (R396): Installs a signed session key and class. -/
  | sessionKey (t : Tick) (rq : Req) (args : List Nat)
  /-- SESSION_END (R396): Returns the session to OPEN_CLASS and no key. -/
  | sessionEnd (t : Tick) (rq : Req) (args : List Nat)
  /-- FLOW_OPEN (R365): Opens a flow with its direction, queue and initial grant, or refuses. -/
  | flowOpen (t : Tick) (rq : Req) (args : List Nat)
  /-- FLOW_CLOSE (R365): Closes a flow and any subscription on it. -/
  | flowClose (t : Tick) (rq : Req) (args : List Nat)
  /-- NTF_ACK (R383): Clears the notification pending bits named in the mask. -/
  | ntfAck (t : Tick) (rq : Req) (args : List Nat)
  /-- IDENTITY_SET (R422): Stores and installs the module identity. -/
  | identitySet (t : Tick) (rq : Req) (args : List Nat)
  /-- HOSTCFG_WRITE (R423): Stores host-link configuration for the next SMC start. -/
  | hostcfgWrite (t : Tick) (rq : Req) (args : List Nat)
  /-- PSET_READBACK (R399): Returns entries and CRC of a parameter-set image of one bank. -/
  | psetReadback (t : Tick) (ch : Ch) (rq : Req) (args : List Nat)
  /-- TUNING_COMMIT (R400): Writes COMMIT_CRC, requests a tuning commit and answers at landing or refusal. -/
  | tuningCommit (t : Tick) (ch : Ch) (rq : Req) (args : List Nat)
  /-- SAFETY_STAGE (R401): Verifies a signed safety set and stages its commit. -/
  | safetyStage (t : Tick) (ch : Ch) (rq : Req) (args : List Nat)
  /-- SAFETY_CONFIRM (R402): Confirms a staged safety commit after a full readback. -/
  | safetyConfirm (t : Tick) (ch : Ch) (rq : Req) (args : List Nat)
  /-- PSET_STORE (R403): Writes the active image of one kind to the archive in two copies. -/
  | psetStore (t : Tick) (ch : Ch) (rq : Req) (args : List Nat)
  /-- PSET_LOAD (R403): Copies a stored image into the shadow copies. -/
  | psetLoad (t : Tick) (ch : Ch) (rq : Req) (args : List Nat)
  /-- ARM (R404): Requests ARM and answers when the channel arms, refuses, times out or cancels. -/
  | arm (t : Tick) (ch : Ch) (rq : Req) (args : List Nat)
  /-- DISARM (R405): Requests DISARM of a channel. -/
  | disarm (t : Tick) (ch : Ch) (rq : Req) (args : List Nat)
  /-- CLEAR_FAULT (R406): Requests CLEAR_FAULT in FAULT. -/
  | clearFault (t : Tick) (ch : Ch) (rq : Req) (args : List Nat)
  /-- RESET (R407): Resets a channel or causes an SMC warm reset after answering. -/
  | reset (t : Tick) (rq : Req) (target : Nat) (args : List Nat)
  /-- STREAM_TORQUE (R408): Converts and posts a streamed torque and speed-limit command. -/
  | streamTorque (t : Tick) (ch : Ch) (rq : Req) (args : List Nat)
  /-- STREAM_SPEED_LIMIT (R411): Posts a streamed speed limit in RUN. -/
  | streamSpeedLimit (t : Tick) (ch : Ch) (rq : Req) (args : List Nat)
  /-- REG_READ (R412): Returns consecutive register values. -/
  | regRead (t : Tick) (rq : Req) (target : Nat) (args : List Nat)
  /-- REG_WRITE (R413): Writes register fields by permission through the mailbox. -/
  | regWrite (t : Tick) (rq : Req) (target : Nat) (args : List Nat)
  /-- TLM_SUBSCRIBE (R414): Sets up a telemetry subscription on an OUT flow. -/
  | tlmSubscribe (t : Tick) (ch : Ch) (rq : Req) (args : List Nat)
  /-- TLM_UNSUBSCRIBE (R414): Ends a telemetry subscription. -/
  | tlmUnsubscribe (t : Tick) (ch : Ch) (rq : Req) (args : List Nat)
  /-- EVT_FILTER (R417): Sets per-source severity filters for EVT types 0 and 1. -/
  | evtFilter (t : Tick) (rq : Req) (args : List Nat)
  /-- SNAP_CFG (R418): Configures snapshot signals, divider and pre-trigger length. -/
  | snapCfg (t : Tick) (ch : Ch) (rq : Req) (args : List Nat)
  /-- SNAP_TRIGGER (R418): Triggers the waveform rings without a fault. -/
  | snapTrigger (t : Tick) (ch : Ch) (rq : Req) (args : List Nat)
  /-- SNAP_RELEASE (R418): Releases frozen rings not yet written. -/
  | snapRelease (t : Tick) (ch : Ch) (rq : Req) (args : List Nat)
  /-- SNAP_LIST (R419): Returns entries of the archive snapshot ring. -/
  | snapList (t : Tick) (rq : Req) (args : List Nat)
  /-- ARC_READ (R419): Sends archive partition data in ARC frames and answers with its CRC. -/
  | arcRead (t : Tick) (rq : Req) (args : List Nat)
  /-- COUNTERS_READ (R462): Returns the lifetime counters. -/
  | countersRead (t : Tick) (rq : Req) (args : List Nat)
  /-- SKIM_PASS (R420): Runs a skim pass and answers at its end. -/
  | skimPass (t : Tick) (ch : Ch) (rq : Req) (args : List Nat)
  /-- BIST_RUN (R420): Writes BIST_REQ and answers with the result. -/
  | bistRun (t : Tick) (rq : Req) (args : List Nat)
  /-- SHUTDOWN (R420): Runs the orderly shutdown and enters STANDBY or OFF. -/
  | shutdown (t : Tick) (rq : Req) (args : List Nat)
  /-- POWER_STATE (R420): Moves a channel into or out of PARK. -/
  | powerState (t : Tick) (ch : Ch) (rq : Req) (args : List Nat)
  /-- FW_STAGE (R421): Receives and verifies an image into the inactive slot. -/
  | fwStage (t : Tick) (rq : Req) (args : List Nat)
  /-- FW_ACTIVATE (R421): Marks the staged slot for trial boot and resets. -/
  | fwActivate (t : Tick) (rq : Req) (args : List Nat)
  /-- FW_CONFIRM (R468): Makes the trial image active and advances the anti-rollback counter. -/
  | fwConfirm (t : Tick) (rq : Req) (args : List Nat)
  /-- LC_NONCE (R422): Returns a nonce for one life-cycle token. -/
  | lcNonce (t : Tick) (rq : Req) (args : List Nat)
  /-- LC_TOKEN (R470): Verifies a token and makes a life-cycle transition. -/
  | lcToken (t : Tick) (rq : Req) (args : List Nat)
  /-- ATTEST (R473): Returns a signed attestation quote. -/
  | attest (t : Tick) (rq : Req) (args : List Nat)
  /-- CAN_MAP_WRITE (R424): Fills entries of the shadow CAN mapping table. -/
  | canMapWrite (t : Tick) (rq : Req) (args : List Nat)
  /-- CAN_MAP_COMMIT (R424): Checks the shadow table's CRC and makes it active. -/
  | canMapCommit (t : Tick) (rq : Req) (args : List Nat)
  /-- CAN_MAP_READ (R424): Returns CAN mapping entries. -/
  | canMapRead (t : Tick) (rq : Req) (args : List Nat)
  /-- CAN_MAPPED_MESSAGE (R424): A mapped ISO 11783 message is converted and treated as its command. -/
  | canMappedMessage (t : Tick) (pgn : Nat) (path : CanPath) (data : List Nat) (seq : Nat) (time : Nat)
  /-- CAN_INIT_CLEAR (R428): INIT is cleared, bit timing is checked and integration begins or CFG_ERR sets. -/
  | canInitClear (t : Tick) (k : Fin 2)
  /-- CAN_INTEGRATED (R431): 11 consecutive recessive bits end integration and the controller joins the bus. -/
  | canIntegrated (t : Tick) (k : Fin 2)
  /-- CAN_FRAME_RECEIVED (R432): A received frame is stored in the first matching object or discarded. -/
  | canFrameReceived (t : Tick) (k : Fin 2) (fr : CanFrame) (age : Nat)
  /-- PROTOCOL_EXCEPTION (R427): A recessive res bit starts the protocol exception and a wait for 11 recessive bits. -/
  | protocolException (t : Tick) (k : Fin 2)
  /-- CAN_TX_START (R434): At intermission the lowest-identifier pending object starts transmission with E2E preparation. -/
  | canTxStart (t : Tick) (k : Fin 2)
  /-- CAN_TX_DONE (R434): A transmission succeeds, PEND clears and DONE sets. -/
  | canTxDone (t : Tick) (k : Fin 2) (delay : Nat) (age : Nat)
  /-- CAN_TX_FAIL (R438): A transmission loses arbitration or errs, updating counters, error state and lone-node count. -/
  | canTxFail (t : Tick) (k : Fin 2) (why : TxFail)
  /-- MO_STAT_PEND (R434): PEND requests transmission of an enabled transmit object, or is refused. -/
  | moStatPend (t : Tick) (k : Fin 2) (n : Fin 128)
  /-- MO_STAT_CANCEL (R436): CANCEL cancels a pending object or is refused. -/
  | moStatCancel (t : Tick) (k : Fin 2) (n : Fin 128)
  /-- CAN_CTL_RECOVER (R439): RECOVER starts bus-off recovery. -/
  | canCtlRecover (t : Tick) (k : Fin 2)
  /-- CAN_RECOVERY_COMPLETE (R438): 128 sequences of 11 recessive bits return the controller to error active. -/
  | canRecoveryComplete (t : Tick) (k : Fin 2)
  /-- E2E_TIMEOUT (R443): No frame passes within MO_E2E.TIMEOUT and the object records a timeout. -/
  | e2eTimeout (t : Tick) (k : Fin 2) (n : Fin 128)
  /-- ADDRESS_CLAIM_START (R445): Colmo sends Address Claimed and enters CLAIMING. -/
  | addressClaimStart (t : Tick)
  /-- ADDRESS_CLAIM_TIMER (R445): 250 ms pass without contention and the address is CLAIMED. -/
  | addressClaimTimer (t : Tick)
  /-- ADDRESS_CLAIMED_RX (R445): A contending Address Claimed message is resolved by NAME. -/
  | addressClaimedRx (t : Tick) (sa : Nat) (name : Nat)
  /-- REQUEST_PGN_RX (R445): A request for PGN 60928 is answered with the claim or Cannot Claim. -/
  | requestPgnRx (t : Tick) (pgn : Nat) (da : Nat)
  /-- TRANSPORT_PROTOCOL_RX (R444): A transport-protocol message advances a multi-packet transfer. -/
  | transportProtocolRx (t : Tick) (dt : Bool) (src : Nat) (dst : Nat) (data : List Nat)
  /-- ARC_OP_GO (R476): GO starts a page read, program, erase or identification. -/
  | arcOpGo (t : Tick)
  /-- ARC_OP_DONE (R455): A page operation completes with its ECC and CRC result. -/
  | arcOpDone (t : Tick) (present : Bool) (decodes : Bool) (crcOk : Bool) (bits : Nat) (fail : Bool) (part : Nat)
    (slot : Nat)
  /-- SNAPSHOT_FREEZE (R35): The rings finish their post-trigger portion and freeze. -/
  | snapshotFreeze (t : Tick) (ch : Ch)
  /-- SNAPSHOT_WRITE_END (R461): Colmo finishes writing a snapshot, releases the rings and sends EVT type 8. -/
  | snapshotWriteEnd (t : Tick) (ch : Ch)
  /-- COUNTER_WRITE_TIMER (R462): Every 10 minutes Colmo writes the lifetime counters. -/
  | counterWriteTimer (t : Tick)
  /-- PHY_RESET_RELEASE (R357): PHY_RST.T µs after the SMC reset is released, the module releases PHY_nRST unless PHY_RST.ASSERT is 1. -/
  | phyResetRelease (t : Tick)
  /-- CONTROL_PROTOCOL_RX (R354): An ARP, IPv6 neighbour discovery, ICMP or ICMPv6 echo frame is received and Colmo answers it. -/
  | controlProtocolRx (t : Tick) (proto : CtlProto) (dest : CtlDest) (src : Nat)
  /-- CAN_RX_ERROR (R438): A bus error detected while receiving raises REC and may move the controller to error passive. -/
  | canRxError (t : Tick) (k : Fin 2) (big : Bool)
  /-- MAILBOX_TIMEOUT (R536): A channel that is out of reset leaves its mailbox unanswered for 1 ms, and Colmo answers the command with TIMEOUT. -/
  | mailboxTimeout (t : Tick) (ch : Ch)
  /-- AON_CLOCK_DEVIATION (R489): CD_AON deviates beyond ±2 % against the crystal, SYS_CLK_STATUS.AON_DEV sets, and the R23 arbitration rests on the crystal. -/
  | aonClockDeviation (t : Tick) (on : Bool)
  /-- SLICE_IDLE_FRAME (R206): A slice receives a valid IDLE frame, which keeps its link alive and, for slice 7, ends autonomous discharge at the first valid frame. -/
  | sliceIdleFrame (t : Tick) (ch : Ch) (sl : Nat)
  /-- SLICE_FRAME_INVALID (R206): A data-channel frame with a wrong SYNC, CRC or TYPE is discarded and counted in LINK_STAT.CRC_ERR, and LINK_CRC may be raised. -/
  | sliceFrameInvalid (t : Tick) (ch : Ch) (sl : Nat) (x : LinkFrame)
  /-- CHOP_TEST_PULSE_END (R247): PROVE_T + 1 µs after a chopper test command begins, the test command ends and the BR pulse returns to 0. -/
  | chopTestPulseEnd (t : Tick) (ch : Ch)
  /-- AUTONOMOUS_DISCHARGE_DONE (R254): During autonomous discharge, slice 7 measures the link at its TS land and turns off once it is below DONE_LVL. -/
  | autonomousDischargeDone (t : Tick) (ch : Ch)
  deriving DecidableEq, Repr

end Sys2Proof
end

