-- ==== Sys2Proof/Machine/Numbers.lean ====
section
/-! DEFINITION. Machine/Numbers.lean: the numeric formats of R3 to R7: binary32 values as rationals, their conversion to
register codes, the comparison of sequence numbers. -/

namespace Sys2Proof.Machine

/-- A binary32 code (R3) as a mantissa and a power of two: none for a NaN or an infinity. -/
def b32 (w : Nat) : Option (Int × Int) :=
  let e : Nat := w / 2 ^ 23 % 256
  let f : Nat := w % 2 ^ 23
  let sg : Int := if w.testBit 31 then -1 else 1
  if e = 255 then none
  else if e = 0 then some (sg * (f : Int), -149)
  else some (sg * ((f + 2 ^ 23 : Nat) : Int), (e : Int) - 150)

/-- The value of a binary32 code as a rational. -/
def b32Val (w : Nat) : Option Rat :=
  match b32 w with
  | none => none
  | some (m, e) => some (if 0 ≤ e then ((m * (2 ^ e.toNat : Nat) : Int) : Rat) else (m : Rat) / ((2 ^ (-e).toNat : Nat) : Rat))

/-- The quotient `n / d` of integers, `d > 0`, rounded to the nearest integer, ties to even (R5). -/
def divEven (n : Int) (d : Nat) : Int :=
  let lo := n / (d : Int)
  let r := n % (d : Int)
  if 2 * r < (d : Int) then lo else if (d : Int) < 2 * r then lo + 1 else if lo % 2 = 0 then lo else lo + 1

/-- `num × 2 ^ e / den` rounded to the nearest integer, ties to even. -/
def scaleEven (num : Int) (e : Int) (den : Nat) : Int :=
  if 0 ≤ e then divEven (num * (2 ^ e.toNat : Nat)) den else divEven num (den * 2 ^ (-e).toNat)

/-- A code judged against a code range (R5): none rejects the whole command with an out-of-range status. -/
def inCodes (lo hi c : Int) : Option Int := if lo ≤ c ∧ c ≤ hi then some c else none

/-- A host value as PU16 of a base value (R4, R5): scaled, rounded with ties to even, then judged. A base value that is no
positive number converts nothing. -/
def hostPu16 (w base : Nat) : Option Int :=
  match b32 w, b32 base with
  | some (m, e), some (mb, eb) => if 0 < mb then inCodes (-32768) 32767 (scaleEven (m * 8192) (e - eb) mb.toNat) else none
  | _, _ => none

/-- A host value as unsigned Q16.16, after a factor (R5, R410). -/
def hostUq16 (w factor : Nat) : Option Nat :=
  match b32 w with
  | some (m, e) => (inCodes 0 (2 ^ 32 - 1) (scaleEven (m * (factor * 65536 : Nat)) e 1)).map Int.toNat
  | none => none

/-- R7: sequence number `a` is newer than `b`. -/
def newer (a b : Nat) : Bool :=
  let d := (a + 2 ^ 32 - b % 2 ^ 32) % 2 ^ 32
  Nat.ble 1 d && Nat.ble d (2 ^ 31 - 1)

end Sys2Proof.Machine
end

