-- ==== Sys2Proof/Config.lean ====
section
/-! DEFINITION. Config.lean: what the spec leaves to an implementation and the free values, as constants without a body. -/

namespace Sys2Proof

/-- The n-th free value of a channel or of the device: nothing constrains it (assumption 3). -/
opaque Config.freeNat : Nat → Nat

/-- The number of records a channel's record buffer holds (R25 gives the buffer no size, assumption 4). -/
opaque Config.recDepth : Nat

/-- The hidden fraction bits of the observer's angle and speed and of the rotor flux of R151: the spec gives the registers their
formats, not the width of what is accumulated (assumption 5). -/
opaque Config.fracBits : Nat

/-- The rounding of the torque monitor's binary32 arithmetic (R197): the spec gives neither the order of its operations nor where it
rounds (assumption 6). -/
opaque Config.tmRound : Rat → Rat

/-- The temperature in 1/256 °C that the counter configuration's R25 and B value give a TS ratio (R462): the spec gives neither the
record's values nor the formula (assumption 20). -/
opaque Config.ntcTemp : Nat → Int

/-- SM3 of a string of bytes (ISO/IEC 10118-3, R464), as a number of 256 bits; external to the spec (assumption 21). -/
opaque Config.sm3 : List Nat → Nat

/-- Whether an SM2 signature (ISO/IEC 14888-3, R464) verifies: public key bytes, message bytes, signature bytes (assumption 21). -/
opaque Config.sm2Verify : List Nat → List Nat → List Nat → Bool

/-- The SM2 signature that the identity key makes of a message (R472, R473), 64 bytes as a number (assumption 21). -/
opaque Config.sm2Sign : Nat → List Nat → Nat

/-- The public key of an identity key (R473), 64 bytes as a number (assumption 21). -/
opaque Config.sm2Public : Nat → Nat

/-- The bytes that an SM2 ciphertext to the device identity key decrypts to (R396): none where it does not decrypt (assumption 21). -/
opaque Config.sm2Decrypt : Nat → List Nat → Option (List Nat)

/-- The first 8 bytes of HMAC-SM3 under a key (R361), as a number (assumption 21). -/
opaque Config.hmacSm3 : List Nat → List Nat → Nat

/-- A field of an image header (R465 names the fields and gives the first 128 bytes no offsets): field number, header bytes
(assumption 22). -/
opaque Config.header : Nat → List Nat → Nat

/-- The IPv6 link-local address formed from a MAC (R354; the forming is not given, assumption 23). -/
opaque Config.linkLocal : Nat → Nat

/-- A byte of an archive partition whose content the spec does not give: the reading, partition, offset (assumption 24). -/
opaque Config.arcByte : Nat → Nat → Nat → Nat

/-- A word of the SMC boot ROM (R521: the spec gives the region, not its content; log 77). -/
opaque Config.romWord : Nat → Nat

/-- The base values of R4 as binary32 codes, which a tuning set sets and for which the spec gives it no register: 0 I_BASE, 1 V_BASE,
2 PSI_BASE, 3 T_BASE, 4 W_BASE; of the image of the tuning set (assumption 19). -/
opaque Config.baseOf : Nat → List (Nat × Nat) → Nat

/-- The correction of device time in ns that the clock servo makes of an offset to the grandmaster (R32; IEEE 802.1AS leaves the servo open,
assumption 84): the offset, the n-th use. -/
opaque Config.ptpServo : Int → Nat → Int

/-- One step of the resolver's type-II tracking loop of damping 0.707 (R135; the spec gives the loop no arithmetic, assumption 80): natural
frequency in Hz, measured angle, tracked angle and speed, the ticks since the last demodulation; the new angle and speed. -/
opaque Config.track : Nat → Nat → Nat → Int → Nat → Nat × Int

/-- The n-th free value as a word of 32 bits. -/
def Config.freeWord (n : Nat) : Nat := Config.freeNat n % 2 ^ 32

end Sys2Proof
end

