-- ==== Sys2Proof/Machine/ChanMap.lean ====
section
/-! DEFINITION. Machine/ChanMap.lean: the register maps of the channel blocks, one row a register (R523, R524):
offset of the first instance, stride and count of its windows, stride and count of its index, the parameter set its
RWC fields belong to, and its fields (msb, lsb, access code of R11, reset value). Bits that no field names are reserved (R10).
-/

namespace Sys2Proof.Machine

/-- The CHCTL map (R70 of spec/02_channel_states.md). -/
def mapChctl : List RegDesc := [
  ⟨0x0,0x0,1,0x0,1,.none,[⟨15,15,.ro,0⟩,⟨10,8,.ro,0⟩,⟨2,0,.ro,0⟩]⟩,  -- CH_STATE
  ⟨0x4,0x0,1,0x0,1,.none,[⟨10,0,.ro,0⟩]⟩,  -- CH_READY
  ⟨0x8,0x0,1,0x0,1,.none,[⟨2,2,.w1s,0⟩,⟨1,1,.w1s,0⟩,⟨0,0,.w1s,0⟩]⟩,  -- CH_REQ
  ⟨0xC,0x0,1,0x0,1,.none,[⟨9,9,.w1c,0⟩,⟨8,8,.w1c,0⟩,⟨4,0,.ro,0⟩]⟩,  -- CH_RESULT
  ⟨0x10,0x0,1,0x0,1,.none,[⟨2,2,.w1s,0⟩,⟨1,1,.w1s,0⟩,⟨0,0,.w1s,0⟩]⟩,  -- COMMIT_CTL
  ⟨0x14,0x0,1,0x0,1,.none,[⟨31,0,.rw,0⟩]⟩,  -- COMMIT_CRC
  ⟨0x18,0x0,1,0x0,1,.none,[⟨31,16,.ro,0⟩,⟨8,8,.w1c,0⟩,⟨3,0,.ro,0⟩]⟩,  -- COMMIT_STATUS
  ⟨0x1C,0x0,1,0x0,1,.none,[⟨31,0,.ro,0⟩]⟩,  -- COMMIT_TIME_LO
  ⟨0x20,0x0,1,0x0,1,.none,[⟨31,0,.ro,0⟩]⟩,  -- COMMIT_TIME_HI
  ⟨0x24,0x0,1,0x0,1,.none,[⟨2,2,.ro,0⟩,⟨1,1,.ro,0⟩,⟨0,0,.ro,0⟩]⟩,  -- ACTIVE_BANK
  ⟨0x28,0x0,1,0x0,1,.safety,[⟨31,0,.rwcLk,0x249F00⟩]⟩,  -- LAPSE_RAMP_T
  ⟨0x2C,0x0,1,0x0,1,.safety,[⟨31,0,.rwcLk,0x16E3600⟩]⟩,  -- LAPSE_HOLD_T
  ⟨0x30,0x0,1,0x0,1,.tuning,[⟨15,0,.rwc,8⟩]⟩,  -- LAPSE_RAMP_STEP
  ⟨0x34,0x0,1,0x0,1,.safety,[⟨31,0,.rwcLk,0x7270E00⟩]⟩,  -- ARM_TIMEOUT_T
  ⟨0x38,0x0,1,0x0,1,.none,[⟨5,5,.ro,0⟩,⟨4,4,.w1c,0⟩,⟨3,3,.w1c,0⟩,⟨2,2,.w1c,0⟩,⟨1,1,.w1c,0⟩,⟨0,0,.w1c,0⟩]⟩,  -- CH_IRQ_STATUS
  ⟨0x3C,0x0,1,0x0,1,.none,[⟨5,5,.rw,0⟩,⟨4,4,.rw,0⟩,⟨3,3,.rw,0⟩,⟨2,2,.rw,0⟩,⟨1,1,.rw,0⟩,⟨0,0,.rw,0⟩]⟩,  -- CH_IRQ_EN
  ⟨0x40,0x0,1,0x0,1,.safety,[⟨8,6,.rwcLk,2⟩,⟨5,3,.rwcLk,1⟩,⟨2,0,.rwcLk,1⟩]⟩,  -- CH_SEV
  ⟨0x44,0x0,1,0x0,1,.none,[⟨18,16,.ro,0⟩,⟨2,0,.w1c,0⟩]⟩,  -- CH_SRC_STATUS
  ⟨0x48,0x0,1,0x0,1,.none,[⟨31,31,.w1c,0⟩,⟨30,30,.ro,0⟩,⟨1,0,.ro,0⟩]⟩,  -- CH_FF_SRC
  ⟨0x4C,0x0,1,0x0,1,.none,[⟨31,0,.ro,0⟩]⟩,  -- CH_FF_SEQ
  ⟨0x50,0x0,1,0x0,1,.none,[⟨31,0,.ro,0⟩]⟩,  -- CH_FF_TIME_LO
  ⟨0x54,0x0,1,0x0,1,.none,[⟨31,0,.ro,0⟩]⟩]  -- CH_FF_TIME_HI

/-- The ADC map (R96 of spec/03_sar_converters.md). -/
def mapAdc : List RegDesc := [
  ⟨0x1000,0x0,1,0x0,1,.tuning,[⟨5,5,.rwc,0⟩,⟨4,4,.rwc,1⟩,⟨3,0,.rwc,0⟩]⟩,  -- ADC_CTL
  ⟨0x1004,0x0,1,0x0,1,.none,[⟨11,8,.ro,0⟩,⟨7,4,.ro,0⟩,⟨3,0,.ro,0⟩]⟩,  -- ADC_STATUS
  ⟨0x1008,0x0,1,0x0,1,.tuning,[⟨9,8,.rwc,1⟩,⟨7,0,.rwc,8⟩]⟩,  -- REFINJ_CTL
  ⟨0x100C,0x0,1,0x0,1,.tuning,[⟨15,0,.rwc,0⟩]⟩,  -- SCAN_MASK
  ⟨0x1010,0x0,1,0x0,1,.tuning,[⟨23,0,.rwc,0x5DC0⟩]⟩,  -- SCAN_INTERVAL
  ⟨0x1014,0x0,1,0x0,1,.none,[⟨5,5,.ro,0⟩,⟨4,4,.w1c,0⟩,⟨3,0,.w1c,0⟩]⟩,  -- ADC_IRQ_STATUS
  ⟨0x1018,0x0,1,0x0,1,.none,[⟨5,5,.rw,0⟩,⟨4,4,.rw,0⟩,⟨3,0,.rw,0⟩]⟩,  -- ADC_IRQ_EN
  ⟨0x101C,0x0,1,0x0,1,.none,[⟨28,16,.ro,0⟩,⟨12,0,.w1c,0⟩]⟩,  -- ADC_SRC_STATUS
  ⟨0x1020,0x0,1,0x0,1,.safety,[⟨29,27,.rwcLk,1⟩,⟨26,24,.rwcLk,2⟩,⟨23,0,.rwcLk,0x6DB6DB⟩]⟩,  -- ADC_SEV0
  ⟨0x1024,0x0,1,0x0,1,.safety,[⟨8,6,.rwcLk,3⟩,⟨5,3,.rwcLk,3⟩,⟨2,0,.rwcLk,0⟩]⟩,  -- ADC_SEV1
  ⟨0x1028,0x0,1,0x0,1,.none,[⟨31,31,.w1c,0⟩,⟨30,30,.ro,0⟩,⟨3,0,.ro,0⟩]⟩,  -- ADC_FF_SRC
  ⟨0x102C,0x0,1,0x0,1,.none,[⟨31,0,.ro,0⟩]⟩,  -- ADC_FF_SEQ
  ⟨0x1030,0x0,1,0x0,1,.none,[⟨31,0,.ro,0⟩]⟩,  -- ADC_FF_TIME_LO
  ⟨0x1034,0x0,1,0x0,1,.none,[⟨31,0,.ro,0⟩]⟩,  -- ADC_FF_TIME_HI
  ⟨0x1100,0x40,4,0x0,1,.tuning,[⟨31,24,.rwc,0⟩,⟨23,20,.rwc,0⟩,⟨19,18,.rwc,0⟩,⟨17,17,.rwc,0⟩,⟨16,16,.rwc,0⟩,⟨15,15,.rwc,0⟩,⟨13,10,.rwc,0⟩,⟨9,7,.rwc,0⟩,⟨6,6,.rwc,0⟩]⟩,  -- CONV_CTL
  ⟨0x1104,0x40,4,0x0,1,.none,[⟨1,1,.w1s,0⟩,⟨0,0,.w1s,0⟩]⟩,  -- CONV_REQ
  ⟨0x1108,0x40,4,0x0,1,.tuning,[⟨31,0,.rwc,0⟩]⟩,  -- REG_SEQ0
  ⟨0x110C,0x40,4,0x0,1,.tuning,[⟨31,0,.rwc,0⟩]⟩,  -- REG_SEQ1
  ⟨0x1110,0x40,4,0x0,1,.tuning,[⟨15,0,.rwc,0⟩]⟩,  -- INJ_SEQ
  ⟨0x1114,0x40,4,0x0,1,.tuning,[⟨23,0,.rwc,0x960⟩]⟩,  -- REG_TIMER
  ⟨0x1118,0x40,4,0x0,1,.none,[⟨31,31,.w1s,0⟩,⟨13,8,.ro,0⟩,⟨5,0,.rw,0x10⟩]⟩,  -- FIFO_CTL
  ⟨0x111C,0x40,4,0x0,1,.none,[⟨31,31,.ro,0⟩,⟨30,30,.ro,0⟩,⟨29,27,.ro,0⟩,⟨26,26,.ro,0⟩,⟨25,24,.ro,0⟩,⟨23,20,.ro,0⟩,⟨19,16,.ro,0⟩,⟨15,0,.ro,0⟩]⟩,  -- FIFO_DATA
  ⟨0x1120,0x40,4,0x0,1,.none,[⟨31,0,.ro,0⟩]⟩,  -- FIFO_TIME_LO
  ⟨0x1124,0x40,4,0x0,1,.none,[⟨31,0,.ro,0⟩]⟩,  -- FIFO_TIME_HI
  ⟨0x1128,0x40,4,0x0,1,.none,[⟨15,0,.ro,0⟩]⟩,  -- FIFO_OVF_COUNT
  ⟨0x112C,0x40,4,0x0,1,.none,[⟨31,16,.ro,0⟩,⟨15,0,.ro,0⟩]⟩,  -- OVR_COUNT
  ⟨0x1130,0x40,4,0x4,4,.none,[⟨30,24,.ro,0⟩,⟨23,23,.ro,0⟩,⟨22,20,.ro,0⟩,⟨18,16,.ro,0⟩,⟨15,0,.ro,0⟩]⟩,  -- INJ_RES
  ⟨0x1400,0x8,16,0x0,1,.tuning,[⟨17,0,.rwc,0⟩]⟩,  -- CORR_OFS
  ⟨0x1404,0x8,16,0x0,1,.tuning,[⟨23,0,.rwc,0x10000⟩]⟩,  -- CORR_GAIN
  ⟨0x1500,0x4,16,0x0,1,.none,[⟨30,24,.ro,0⟩,⟨16,16,.ro,0⟩,⟨15,0,.ro,0⟩]⟩,  -- HK_RES
  ⟨0x1600,0x8,8,0x0,1,.safety,[⟨11,11,.rwcLk,0⟩,⟨10,8,.rwcLk,0⟩,⟨7,4,.rwcLk,0⟩,⟨3,0,.rwcLk,0⟩]⟩,  -- WCMP_CTL
  ⟨0x1604,0x8,8,0x0,1,.safety,[⟨31,16,.rwcLk,0x7FFF⟩,⟨15,0,.rwcLk,0x8000⟩]⟩]  -- WCMP_LIM

/-- The SINC map (R117 of spec/04_sinc_inputs.md). -/
def mapSinc : List RegDesc := [
  ⟨0x2000,0x0,1,0x0,1,.safety,[⟨5,5,.rwcLk,0⟩,⟨4,4,.rwcLk,0⟩,⟨3,0,.rwcLk,0⟩]⟩,  -- SD_CTL
  ⟨0x2004,0x0,1,0x0,1,.safety,[⟨13,8,.rwcLk,0⟩,⟨7,0,.rwcLk,0x30⟩]⟩,  -- SD_MCLK
  ⟨0x2008,0x0,1,0x0,1,.safety,[⟨7,0,.rwcLk,0x50⟩]⟩,  -- SD_CLKLOSS_T
  ⟨0x200C,0x0,1,0x0,1,.none,[⟨23,0,.ro,0⟩]⟩,  -- SD_MCLK_MEAS
  ⟨0x2010,0x0,1,0x0,1,.none,[⟨12,12,.ro,0⟩,⟨11,8,.ro,0⟩,⟨7,4,.ro,0⟩,⟨3,0,.ro,0⟩]⟩,  -- SD_STATUS
  ⟨0x2014,0x0,1,0x0,1,.none,[⟨4,4,.ro,0⟩,⟨3,0,.w1c,0⟩]⟩,  -- SD_IRQ_STATUS
  ⟨0x2018,0x0,1,0x0,1,.none,[⟨4,4,.rw,0⟩,⟨3,0,.rw,0⟩]⟩,  -- SD_IRQ_EN
  ⟨0x201C,0x0,1,0x0,1,.none,[⟨30,16,.ro,0⟩,⟨14,0,.w1c,0⟩]⟩,  -- SD_SRC_STATUS
  ⟨0x2020,0x0,1,0x0,1,.safety,[⟨29,27,.rwcLk,1⟩,⟨26,24,.rwcLk,1⟩,⟨23,12,.rwcLk,0x6DB⟩,⟨11,0,.rwcLk,0x6DB⟩]⟩,  -- SD_SEV0
  ⟨0x2024,0x0,1,0x0,1,.safety,[⟨14,12,.rwcLk,1⟩,⟨11,9,.rwcLk,3⟩,⟨8,6,.rwcLk,1⟩,⟨5,3,.rwcLk,1⟩,⟨2,0,.rwcLk,1⟩]⟩,  -- SD_SEV1
  ⟨0x2028,0x0,1,0x0,1,.none,[⟨31,31,.w1c,0⟩,⟨30,30,.ro,0⟩,⟨3,0,.ro,0⟩]⟩,  -- SD_FF_SRC
  ⟨0x202C,0x0,1,0x0,1,.none,[⟨31,0,.ro,0⟩]⟩,  -- SD_FF_SEQ
  ⟨0x2030,0x0,1,0x0,1,.none,[⟨31,0,.ro,0⟩]⟩,  -- SD_FF_TIME_LO
  ⟨0x2034,0x0,1,0x0,1,.none,[⟨31,0,.ro,0⟩]⟩,  -- SD_FF_TIME_HI
  ⟨0x2100,0x40,4,0x0,1,.safety,[⟨18,16,.rwcLk,3⟩,⟨8,0,.rwcLk,0x40⟩]⟩,  -- DF_CFG
  ⟨0x2104,0x40,4,0x0,1,.safety,[⟨23,23,.rwcLk,0⟩,⟨19,16,.rwcLk,0⟩,⟨10,8,.rwcLk,2⟩,⟨5,0,.rwcLk,8⟩]⟩,  -- CF_CFG
  ⟨0x2108,0x40,4,0x0,1,.safety,[⟨23,0,.rwcLk,0⟩]⟩,  -- DF_OFS
  ⟨0x210C,0x40,4,0x0,1,.safety,[⟨23,0,.rwcLk,0x200000⟩]⟩,  -- DF_GAIN
  ⟨0x2110,0x40,4,0x0,1,.safety,[⟨31,16,.rwcLk,0x7FFF⟩,⟨15,0,.rwcLk,0x8000⟩]⟩,  -- CF_LIM
  ⟨0x2114,0x40,4,0x0,1,.none,[⟨31,31,.ro,0⟩,⟨30,24,.ro,0⟩,⟨15,0,.ro,0⟩]⟩,  -- DF_RES
  ⟨0x2118,0x40,4,0x0,1,.none,[⟨31,0,.ro,0⟩]⟩,  -- DF_TIME_LO
  ⟨0x211C,0x40,4,0x0,1,.none,[⟨31,0,.ro,0⟩]⟩,  -- DF_TIME_HI
  ⟨0x2120,0x40,4,0x0,1,.none,[⟨23,0,.ro,0⟩]⟩,  -- DF_GDLY
  ⟨0x2124,0x40,4,0x0,1,.none,[⟨17,17,.ro,0⟩,⟨16,16,.ro,0⟩,⟨15,0,.ro,0⟩]⟩,  -- CF_RES
  ⟨0x2128,0x40,4,0x0,1,.none,[⟨15,0,.ro,0⟩]⟩]  -- SD_LOSS_COUNT

/-- The XCHK map (R142 of spec/05_redundant_sensing.md). -/
def mapXchk : List RegDesc := [
  ⟨0x3000,0x0,1,0x0,1,.safety,[⟨19,8,.rwcLk,0⟩,⟨7,4,.rwcLk,2⟩,⟨3,3,.rwcLk,0⟩,⟨2,2,.rwcLk,0⟩,⟨1,0,.rwcLk,0⟩]⟩,  -- XC_CFG
  ⟨0x3004,0x0,1,0x0,1,.safety,[⟨28,24,.rwcLk,0⟩,⟨23,0,.rwcLk,0⟩]⟩,  -- XC_MAP
  ⟨0x3008,0x0,1,0x0,1,.safety,[⟨31,16,.rwcLk,0x7FFF⟩,⟨15,0,.rwcLk,0x7FFF⟩]⟩,  -- XC_LIM
  ⟨0x300C,0x0,1,0x0,1,.safety,[⟨15,8,.rwcLk,3⟩,⟨7,0,.rwcLk,3⟩]⟩,  -- XC_CNT
  ⟨0x3010,0x0,1,0x0,1,.none,[⟨6,4,.ro,0⟩,⟨3,1,.ro,0⟩,⟨0,0,.ro,0⟩]⟩,  -- XC_STATUS
  ⟨0x3014,0x0,1,0x0,1,.none,[⟨15,0,.ro,0⟩]⟩,  -- XC_LAG
  ⟨0x3018,0x0,1,0x0,1,.none,[⟨31,16,.ro,0⟩,⟨15,0,.ro,0⟩]⟩,  -- XC_DIFF0
  ⟨0x301C,0x0,1,0x0,1,.none,[⟨31,16,.ro,0⟩,⟨15,0,.ro,0⟩]⟩,  -- XC_DIFF1
  ⟨0x3020,0x0,1,0x0,1,.safety,[⟨31,24,.rwcLk,0x10⟩,⟨23,16,.rwcLk,3⟩,⟨15,0,.rwcLk,0x7FFF⟩]⟩,  -- DCL_CFG
  ⟨0x3024,0x0,1,0x0,1,.none,[⟨31,31,.ro,0⟩,⟨30,29,.ro,0⟩,⟨15,0,.ro,0⟩]⟩,  -- DCL_ALT
  ⟨0x3028,0x0,1,0x0,1,.safety,[⟨31,16,.rwcLk,0⟩,⟨11,8,.rwcLk,1⟩,⟨7,3,.rwcLk,1⟩,⟨2,2,.rwcLk,0⟩,⟨1,0,.rwcLk,0⟩]⟩,  -- POS_CFG
  ⟨0x302C,0x0,1,0x0,1,.safety,[⟨31,31,.rwcLk,0⟩,⟨23,16,.rwcLk,0x80⟩,⟨15,0,.rwcLk,0x5DC0⟩]⟩,  -- RES_EXC
  ⟨0x3030,0x0,1,0x0,1,.safety,[⟨31,16,.rwcLk,0x4000⟩,⟨15,15,.rwcLk,0⟩,⟨14,12,.rwcLk,2⟩,⟨11,8,.rwcLk,4⟩,⟨7,4,.rwcLk,5⟩,⟨3,0,.rwcLk,4⟩]⟩,  -- RES_CFG
  ⟨0x3034,0x0,1,0x0,1,.safety,[⟨31,16,.rwcLk,0x3000⟩,⟨15,0,.rwcLk,0x1000⟩]⟩,  -- RES_LIM
  ⟨0x3038,0x0,1,0x0,1,.safety,[⟨31,16,.rwcLk,0x400⟩,⟨15,8,.rwcLk,0x18⟩,⟨7,4,.rwcLk,2⟩,⟨3,3,.rwcLk,1⟩,⟨2,0,.rwcLk,2⟩]⟩,  -- ENC_CFG
  ⟨0x303C,0x0,1,0x0,1,.none,[⟨31,31,.ro,0⟩,⟨17,0,.ro,0⟩]⟩,  -- ENC_COUNT
  ⟨0x3040,0x0,1,0x0,1,.none,[⟨31,31,.ro,0⟩,⟨30,30,.ro,0⟩,⟨15,0,.ro,0⟩]⟩,  -- POS_ANGLE
  ⟨0x3044,0x0,1,0x0,1,.none,[⟨31,0,.ro,0⟩]⟩,  -- POS_SPEED
  ⟨0x3048,0x0,1,0x0,1,.none,[⟨1,1,.ro,0⟩,⟨0,0,.w1c,0⟩]⟩,  -- XC_IRQ_STATUS
  ⟨0x304C,0x0,1,0x0,1,.none,[⟨1,1,.rw,0⟩,⟨0,0,.rw,0⟩]⟩,  -- XC_IRQ_EN
  ⟨0x3050,0x0,1,0x0,1,.none,[⟨29,16,.ro,0⟩,⟨13,0,.w1c,0⟩]⟩,  -- XC_SRC_STATUS
  ⟨0x3054,0x0,1,0x0,1,.safety,[⟨29,0,.rwcLk,0xB69A6DB⟩]⟩,  -- XC_SEV0
  ⟨0x3058,0x0,1,0x0,1,.safety,[⟨11,0,.rwcLk,0x492⟩]⟩,  -- XC_SEV1
  ⟨0x305C,0x0,1,0x0,1,.none,[⟨31,31,.w1c,0⟩,⟨30,30,.ro,0⟩,⟨3,0,.ro,0⟩]⟩,  -- XC_FF_SRC
  ⟨0x3060,0x0,1,0x0,1,.none,[⟨31,0,.ro,0⟩]⟩,  -- XC_FF_SEQ
  ⟨0x3064,0x0,1,0x0,1,.none,[⟨31,0,.ro,0⟩]⟩,  -- XC_FF_TIME_LO
  ⟨0x3068,0x0,1,0x0,1,.none,[⟨31,0,.ro,0⟩]⟩]  -- XC_FF_TIME_HI

/-- The DTC map (R169 of spec/06_dtc_engine.md). -/
def mapDtc : List RegDesc := [
  ⟨0x4000,0x0,1,0x0,1,.tuning,[⟨5,4,.rwcLk,0⟩,⟨3,3,.rwcLk,0⟩,⟨2,2,.rwcLk,1⟩,⟨1,1,.rwcLk,0⟩,⟨0,0,.rwcLk,0⟩]⟩,  -- DTC_CTL
  ⟨0x4004,0x0,1,0x0,1,.tuning,[⟨11,0,.rwcLk,0x3C0⟩]⟩,  -- DTC_PERIOD
  ⟨0x4008,0x0,1,0x0,1,.tuning,[⟨11,0,.rwcLk,0x88⟩]⟩,  -- DTC_RD_OFS
  ⟨0x400C,0x0,1,0x0,1,.tuning,[⟨12,0,.rwcLk,0xF0⟩]⟩,  -- DWELL_MIN
  ⟨0x4010,0x0,1,0x0,1,.safety,[⟨13,0,.rwcLk,0x1E00⟩]⟩,  -- DEAD_TU
  ⟨0x4014,0x0,1,0x0,1,.safety,[⟨13,0,.rwcLk,0x1E00⟩]⟩,  -- DEAD_TV
  ⟨0x4018,0x0,1,0x0,1,.safety,[⟨13,0,.rwcLk,0x1E00⟩]⟩,  -- DEAD_TW
  ⟨0x401C,0x0,1,0x0,1,.safety,[⟨23,16,.rwcLk,0⟩,⟨15,8,.rwcLk,0⟩,⟨7,0,.rwcLk,0⟩]⟩,  -- EDGE_ADJ
  ⟨0x4020,0x0,1,0x0,1,.tuning,[⟨31,16,.rwc,0x40⟩,⟨15,0,.rwc,0x2000⟩]⟩,  -- FLUX_CFG
  ⟨0x4024,0x0,1,0x0,1,.tuning,[⟨31,16,.rwc,0x1000⟩,⟨15,0,.rwc,0x100⟩]⟩,  -- TQ_CFG
  ⟨0x4028,0x0,1,0x0,1,.tuning,[⟨31,0,.rwcLk,0⟩]⟩,  -- FLUX_KV
  ⟨0x402C,0x0,1,0x0,1,.tuning,[⟨15,0,.rwc,0⟩]⟩,  -- MODEL_RS
  ⟨0x4030,0x0,1,0x0,1,.tuning,[⟨31,16,.rwc,0⟩,⟨15,0,.rwc,0⟩]⟩,  -- MODEL_DROP
  ⟨0x4034,0x0,1,0x0,1,.tuning,[⟨31,16,.rwcLk,0⟩,⟨15,0,.rwcLk,0⟩]⟩,  -- MODEL_L
  ⟨0x4038,0x0,1,0x0,1,.tuning,[⟨15,0,.rwcLk,0⟩]⟩,  -- MODEL_X
  ⟨0x403C,0x0,1,0x0,1,.tuning,[⟨23,0,.rwcLk,0⟩]⟩,  -- MODEL_TR
  ⟨0x4040,0x0,1,0x0,1,.tuning,[⟨15,0,.rwc,0⟩]⟩,  -- BLEND_K0
  ⟨0x4044,0x0,1,0x0,1,.tuning,[⟨31,0,.rwc,0x10000⟩]⟩,  -- BLEND_W
  ⟨0x4048,0x0,1,0x0,1,.tuning,[⟨31,0,.rwc,0x7FFFFFFF⟩]⟩,  -- FW_K
  ⟨0x404C,0x0,1,0x0,1,.tuning,[⟨31,0,.rwc,0x7FFFFFFF⟩]⟩,  -- SIX_W
  ⟨0x4050,0x0,1,0x0,1,.tuning,[⟨31,16,.rwc,0⟩,⟨15,0,.rwc,0⟩]⟩,  -- SIX_CFG
  ⟨0x4054,0x0,1,0x0,1,.tuning,[⟨31,31,.rwc,0⟩,⟨27,16,.rwc,0x400⟩,⟨15,0,.rwc,0x2710⟩]⟩,  -- GOV_CFG
  ⟨0x4058,0x0,1,0x0,1,.tuning,[⟨15,0,.rwc,0⟩]⟩,  -- GOV_KI
  ⟨0x405C,0x0,1,0x0,1,.tuning,[⟨15,0,.rwc,0⟩]⟩,  -- SL_K
  ⟨0x4060,0x0,1,0x0,1,.none,[⟨15,0,.rw,0⟩]⟩,  -- TQ_REF
  ⟨0x4064,0x0,1,0x0,1,.none,[⟨31,0,.rw,0⟩]⟩,  -- TQ_SEQ
  ⟨0x4068,0x0,1,0x0,1,.none,[⟨31,0,.rw,0x7FFFFFFF⟩]⟩,  -- SPD_LIM
  ⟨0x406C,0x0,1,0x0,1,.none,[⟨19,17,.ro,0⟩,⟨16,16,.ro,0⟩,⟨15,15,.ro,0⟩,⟨14,14,.ro,0⟩,⟨13,13,.ro,0⟩,⟨12,12,.ro,0⟩,⟨11,10,.ro,1⟩,⟨9,9,.ro,1⟩,⟨8,4,.ro,0⟩,⟨2,0,.ro,0⟩]⟩,  -- DTC_STATUS
  ⟨0x4070,0x0,1,0x0,1,.none,[⟨31,16,.ro,0⟩,⟨15,0,.ro,0⟩]⟩,  -- EST_FLUX
  ⟨0x4074,0x0,1,0x0,1,.none,[⟨31,16,.ro,0⟩,⟨15,0,.ro,0⟩]⟩,  -- EST_TQ
  ⟨0x4078,0x0,1,0x0,1,.none,[⟨31,16,.ro,0⟩,⟨15,0,.ro,0⟩]⟩,  -- REF_ACT
  ⟨0x407C,0x0,1,0x0,1,.none,[⟨31,16,.ro,0⟩,⟨15,0,.ro,0x1000⟩]⟩,  -- GOV_STATUS
  ⟨0x4080,0x0,1,0x0,1,.none,[⟨31,16,.ro,0⟩,⟨15,0,.ro,0⟩]⟩,  -- FSW_UV
  ⟨0x4084,0x0,1,0x0,1,.none,[⟨15,0,.ro,0⟩]⟩,  -- FSW_W
  ⟨0x4088,0x0,1,0x0,1,.none,[⟨31,24,.ro,0⟩,⟨23,0,.ro,0⟩]⟩,  -- DWELL_COUNT
  ⟨0x408C,0x0,1,0x0,1,.none,[⟨1,1,.ro,0⟩,⟨0,0,.w1c,0⟩]⟩,  -- DTC_IRQ_STATUS
  ⟨0x4090,0x0,1,0x0,1,.none,[⟨1,1,.rw,0⟩,⟨0,0,.rw,0⟩]⟩,  -- DTC_IRQ_EN
  ⟨0x4094,0x0,1,0x0,1,.none,[⟨20,16,.ro,0⟩,⟨4,0,.w1c,0⟩]⟩,  -- DTC_SRC_STATUS
  ⟨0x4098,0x0,1,0x0,1,.safety,[⟨14,0,.rwcLk,0x3043⟩]⟩,  -- DTC_SEV
  ⟨0x409C,0x0,1,0x0,1,.none,[⟨31,31,.w1c,0⟩,⟨30,30,.ro,0⟩,⟨2,0,.ro,0⟩]⟩,  -- DTC_FF_SRC
  ⟨0x40A0,0x0,1,0x0,1,.none,[⟨31,0,.ro,0⟩]⟩,  -- DTC_FF_SEQ
  ⟨0x40A4,0x0,1,0x0,1,.none,[⟨31,0,.ro,0⟩]⟩,  -- DTC_FF_TIME_LO
  ⟨0x40A8,0x0,1,0x0,1,.none,[⟨31,0,.ro,0⟩]⟩,  -- DTC_FF_TIME_HI
  ⟨0x40B0,0x0,1,0x0,1,.tuning,[⟨31,16,.rwc,0x1000⟩,⟨15,0,.rwc,0x1000⟩]⟩,  -- GOV_LIM
  ⟨0x4800,0x4,72,0x0,1,.tuning,[⟨5,4,.rwc,0⟩,⟨2,0,.rwc,0⟩]⟩,  -- STENCIL_SH
  ⟨0x4A00,0x4,72,0x0,1,.none,[⟨5,4,.ro,0⟩,⟨2,0,.ro,0⟩]⟩]  -- STENCIL_ACT

/-- The MASK map (R185 of spec/07_masking_window.md). -/
def mapMask : List RegDesc := [
  ⟨0x5000,0x0,1,0x0,1,.safety,[⟨1,1,.rwcLk,0⟩,⟨0,0,.rwcLk,0⟩]⟩,  -- MASK_CTL
  ⟨0x5004,0x0,1,0x0,1,.safety,[⟨31,16,.rwcLk,0x1E0⟩,⟨7,0,.rwcLk,8⟩]⟩,  -- MASK_WIN
  ⟨0x5008,0x0,1,0x0,1,.safety,[⟨9,0,.rwcLk,0⟩]⟩,  -- MASK_TRIG
  ⟨0x500C,0x0,1,0x0,1,.safety,[⟨31,16,.rwcLk,0x1E0⟩,⟨15,0,.rwcLk,0x3E8⟩]⟩,  -- MASK_BOOT
  ⟨0x5010,0x0,1,0x0,1,.safety,[⟨31,0,.rwcLk,0x7FFFFFFF⟩]⟩,  -- MASK_KLIN
  ⟨0x5014,0x0,1,0x0,1,.none,[⟨31,16,.ro,0x8000⟩,⟨15,15,.ro,0⟩,⟨14,14,.ro,0⟩,⟨12,8,.ro,0⟩,⟨7,0,.ro,0⟩]⟩,  -- MASK_STATUS
  ⟨0x5018,0x0,1,0x0,1,.none,[⟨31,16,.ro,0⟩,⟨15,0,.ro,0⟩]⟩,  -- MASK_COUNT
  ⟨0x501C,0x0,1,0x0,1,.none,[⟨31,0,.ro,0⟩]⟩,  -- MASK_OPEN_TIME_LO
  ⟨0x5020,0x0,1,0x0,1,.none,[⟨31,0,.ro,0⟩]⟩,  -- MASK_OPEN_TIME_HI
  ⟨0x5024,0x0,1,0x0,1,.none,[⟨1,1,.ro,0⟩,⟨0,0,.w1c,0⟩]⟩,  -- MASK_IRQ_STATUS
  ⟨0x5028,0x0,1,0x0,1,.none,[⟨1,1,.rw,0⟩,⟨0,0,.rw,0⟩]⟩,  -- MASK_IRQ_EN
  ⟨0x502C,0x0,1,0x0,1,.none,[⟨26,24,.ro,0⟩,⟨18,16,.ro,0⟩,⟨2,0,.w1c,0⟩]⟩,  -- MASK_SRC_STATUS
  ⟨0x5030,0x0,1,0x0,1,.safety,[⟨8,0,.rwcLk,0xC0⟩]⟩,  -- MASK_SEV
  ⟨0x5034,0x0,1,0x0,1,.none,[⟨31,31,.w1c,0⟩,⟨30,30,.ro,0⟩,⟨1,0,.ro,0⟩]⟩,  -- MASK_FF_SRC
  ⟨0x5038,0x0,1,0x0,1,.none,[⟨31,0,.ro,0⟩]⟩,  -- MASK_FF_SEQ
  ⟨0x503C,0x0,1,0x0,1,.none,[⟨31,0,.ro,0⟩]⟩,  -- MASK_FF_TIME_LO
  ⟨0x5040,0x0,1,0x0,1,.none,[⟨31,0,.ro,0⟩]⟩]  -- MASK_FF_TIME_HI

/-- The OBS map (R202 of spec/08_observer_torque_monitor.md). -/
def mapObs : List RegDesc := [
  ⟨0x6000,0x0,1,0x0,1,.safety,[⟨31,24,.rwcLk,3⟩,⟨23,16,.rwcLk,0x40⟩,⟨11,8,.rwcLk,4⟩,⟨7,4,.rwcLk,6⟩,⟨0,0,.rwcLk,0⟩]⟩,  -- OBS_CFG
  ⟨0x6004,0x0,1,0x0,1,.safety,[⟨31,0,.rwcLk,0x7FFFFFFF⟩]⟩,  -- OBS_SL_W
  ⟨0x6008,0x0,1,0x0,1,.safety,[⟨31,16,.rwcLk,0x7FFF⟩,⟨15,0,.rwcLk,0x7FFF⟩]⟩,  -- OBS_LIM0
  ⟨0x600C,0x0,1,0x0,1,.safety,[⟨15,0,.rwcLk,0x7FFF⟩]⟩,  -- OBS_LIM1
  ⟨0x6010,0x0,1,0x0,1,.safety,[⟨31,0,.rwcLk,0x7FFFFFFF⟩]⟩,  -- OBS_STEP_LIM
  ⟨0x6014,0x0,1,0x0,1,.safety,[⟨31,0,.rwcLk,0x7FFFFFFF⟩]⟩,  -- OBS_DIS_W
  ⟨0x6018,0x0,1,0x0,1,.none,[⟨0,0,.w1s,0⟩]⟩,  -- OBS_CMD
  ⟨0x601C,0x0,1,0x0,1,.none,[⟨30,30,.ro,0⟩,⟨15,0,.ro,0⟩]⟩,  -- OBS_ANGLE
  ⟨0x6020,0x0,1,0x0,1,.none,[⟨31,0,.ro,0⟩]⟩,  -- OBS_SPEED
  ⟨0x6024,0x0,1,0x0,1,.none,[⟨31,16,.ro,0⟩,⟨15,0,.ro,0⟩]⟩,  -- OBS_RFLUX
  ⟨0x6028,0x0,1,0x0,1,.none,[⟨15,0,.ro,0⟩]⟩,  -- OBS_RESID
  ⟨0x602C,0x0,1,0x0,1,.none,[⟨31,0,.ro,0⟩]⟩,  -- TRUST_SPD
  ⟨0x6030,0x0,1,0x0,1,.none,[⟨15,8,.ro,0⟩,⟨4,4,.w1c,0⟩,⟨3,3,.ro,0⟩,⟨2,2,.ro,0⟩,⟨1,0,.ro,3⟩]⟩,  -- TRUST_STATUS
  ⟨0x6034,0x0,1,0x0,1,.none,[⟨31,0,.ro,0⟩]⟩,  -- PLAUS_TIME_LO
  ⟨0x6038,0x0,1,0x0,1,.none,[⟨31,0,.ro,0⟩]⟩,  -- PLAUS_TIME_HI
  ⟨0x603C,0x0,1,0x0,1,.safety,[⟨31,31,.rwcLk,0⟩,⟨15,8,.rwcLk,0x40⟩,⟨7,0,.rwcLk,3⟩]⟩,  -- TW_CFG
  ⟨0x6040,0x0,1,0x0,1,.safety,[⟨31,16,.rwcLk,0x7FFF⟩,⟨15,0,.rwcLk,0x7FFF⟩]⟩,  -- TW_LIM
  ⟨0x6044,0x0,1,0x0,1,.none,[⟨31,16,.ro,0⟩,⟨15,0,.ro,0⟩]⟩,  -- TW_BOUNDS
  ⟨0x6048,0x0,1,0x0,1,.safety,[⟨31,31,.rwcLk,0⟩,⟨30,30,.rwcLk,0⟩,⟨29,29,.rwcLk,0⟩,⟨28,28,.rwcLk,0⟩,⟨15,8,.rwcLk,0⟩]⟩,  -- TM_CFG
  ⟨0x604C,0x0,1,0x0,1,.safety,[⟨31,0,.rwcLk,0⟩]⟩,  -- TM_KT
  ⟨0x6050,0x0,1,0x0,1,.safety,[⟨31,0,.rwcLk,0⟩]⟩,  -- TM_KP
  ⟨0x6054,0x0,1,0x0,1,.safety,[⟨31,0,.rwcLk,0⟩]⟩,  -- TM_LD
  ⟨0x6058,0x0,1,0x0,1,.safety,[⟨31,0,.rwcLk,0⟩]⟩,  -- TM_LQ
  ⟨0x605C,0x0,1,0x0,1,.safety,[⟨31,0,.rwcLk,0⟩]⟩,  -- TM_PSI
  ⟨0x6060,0x0,1,0x0,1,.safety,[⟨31,0,.rwcLk,0⟩]⟩,  -- TM_RLOSS
  ⟨0x6064,0x0,1,0x0,1,.safety,[⟨31,0,.rwcLk,0⟩]⟩,  -- TM_P0
  ⟨0x6068,0x0,1,0x0,1,.safety,[⟨31,0,.rwcLk,0⟩]⟩,  -- TM_PB_W
  ⟨0x606C,0x0,1,0x0,1,.safety,[⟨31,16,.rwcLk,0x7FFF⟩,⟨15,0,.rwcLk,0x7FFF⟩]⟩,  -- TM_LIM_CM
  ⟨0x6070,0x0,1,0x0,1,.safety,[⟨31,16,.rwcLk,0x7FFF⟩,⟨15,0,.rwcLk,0x7FFF⟩]⟩,  -- TM_LIM_PB
  ⟨0x6074,0x0,1,0x0,1,.none,[⟨31,16,.ro,0⟩,⟨15,0,.ro,0⟩]⟩,  -- TM_RES
  ⟨0x6078,0x0,1,0x0,1,.none,[⟨31,16,.ro,0⟩,⟨4,4,.ro,0⟩,⟨3,3,.ro,0⟩,⟨2,2,.ro,0⟩,⟨1,1,.ro,0⟩]⟩,  -- TM_STATUS
  ⟨0x607C,0x0,1,0x0,1,.none,[⟨31,0,.ro,0⟩]⟩,  -- TM_TIME_LO
  ⟨0x6080,0x0,1,0x0,1,.none,[⟨31,0,.ro,0⟩]⟩,  -- TM_TIME_HI
  ⟨0x6084,0x0,1,0x0,1,.none,[⟨1,1,.ro,0⟩,⟨0,0,.w1c,0⟩]⟩,  -- OBS_IRQ_STATUS
  ⟨0x6088,0x0,1,0x0,1,.none,[⟨1,1,.rw,0⟩,⟨0,0,.rw,0⟩]⟩,  -- OBS_IRQ_EN
  ⟨0x608C,0x0,1,0x0,1,.none,[⟨26,16,.ro,0⟩,⟨10,0,.w1c,0⟩]⟩,  -- OBS_SRC_STATUS
  ⟨0x6090,0x0,1,0x0,1,.safety,[⟨29,0,.rwcLk,0x136DA6DB⟩]⟩,  -- OBS_SEV0
  ⟨0x6094,0x0,1,0x0,1,.safety,[⟨2,0,.rwcLk,3⟩]⟩,  -- OBS_SEV1
  ⟨0x6098,0x0,1,0x0,1,.none,[⟨31,31,.w1c,0⟩,⟨30,30,.ro,0⟩,⟨3,0,.ro,0⟩]⟩,  -- OBS_FF_SRC
  ⟨0x609C,0x0,1,0x0,1,.none,[⟨31,0,.ro,0⟩]⟩,  -- OBS_FF_SEQ
  ⟨0x60A0,0x0,1,0x0,1,.none,[⟨31,0,.ro,0⟩]⟩,  -- OBS_FF_TIME_LO
  ⟨0x60A4,0x0,1,0x0,1,.none,[⟨31,0,.ro,0⟩]⟩]  -- OBS_FF_TIME_HI

/-- The SLICE map (R235 of spec/09_gate_drive_slices.md). -/
def mapSlice : List RegDesc := [
  ⟨0x7000,0x100,8,0x0,1,.safety,[⟨2,2,.rwcLk,0⟩,⟨1,1,.rwcLk,0⟩,⟨0,0,.rwcLk,1⟩]⟩,  -- SL_CFG
  ⟨0x7004,0x100,8,0x0,1,.safety,[⟨21,16,.rwcLk,0x1E⟩,⟨13,8,.rwcLk,0x1E⟩,⟨4,0,.rwcLk,0xF⟩]⟩,  -- SL_SUPPLY
  ⟨0x7008,0x100,8,0x0,1,.safety,[⟨15,0,.rwcLk,0⟩]⟩,  -- TS_CFG
  ⟨0x700C,0x100,8,0x0,1,.tuning,[⟨25,16,.rwc,0xC8⟩,⟨9,0,.rwc,0xC8⟩]⟩,  -- FTH_TGT
  ⟨0x7010,0x100,8,0x0,1,.tuning,[⟨31,28,.rwc,0xF⟩,⟨27,24,.rwc,0⟩,⟨23,20,.rwc,0xF⟩,⟨19,16,.rwc,0⟩,⟨7,4,.rwc,7⟩,⟨3,0,.rwc,7⟩]⟩,  -- FTH_SEG
  ⟨0x7014,0x100,8,0x0,1,.tuning,[⟨31,16,.rwc,0x3E8⟩,⟨8,8,.rwc,0⟩,⟨7,0,.rwc,8⟩]⟩,  -- FTH_LIM
  ⟨0x7018,0x100,8,0x0,1,.none,[⟨31,31,.ro,0⟩,⟨30,30,.ro,0⟩,⟨29,29,.ro,0⟩,⟨28,28,.ro,0⟩,⟨27,27,.ro,0⟩,⟨26,26,.ro,0⟩,⟨23,20,.ro,7⟩,⟨19,16,.ro,7⟩]⟩,  -- SL_STATUS
  ⟨0x701C,0x100,8,0x0,1,.none,[⟨17,17,.w1c,0⟩,⟨16,16,.w1c,0⟩,⟨7,0,.ro,0⟩]⟩,  -- SL_FAULT
  ⟨0x7020,0x100,8,0x0,1,.none,[⟨31,31,.ro,0⟩,⟨30,30,.ro,0⟩,⟨29,29,.ro,0⟩,⟨27,24,.ro,0⟩,⟨23,12,.ro,0⟩,⟨11,0,.ro,0⟩]⟩,  -- FTH_ON
  ⟨0x7024,0x100,8,0x0,1,.none,[⟨31,31,.ro,0⟩,⟨30,30,.ro,0⟩,⟨29,29,.ro,0⟩,⟨27,24,.ro,0⟩,⟨23,12,.ro,0⟩,⟨11,0,.ro,0⟩]⟩,  -- FTH_OFF
  ⟨0x7028,0x100,8,0x0,1,.none,[⟨31,16,.ro,0⟩,⟨15,8,.ro,0⟩,⟨7,0,.ro,0⟩]⟩,  -- FTH_STAT
  ⟨0x702C,0x100,8,0x0,1,.none,[⟨31,16,.ro,0⟩,⟨15,0,.ro,0⟩]⟩,  -- SUP_MEAS
  ⟨0x7030,0x100,8,0x0,1,.none,[⟨31,16,.ro,0⟩,⟨15,0,.ro,0⟩]⟩,  -- TEMP_MEAS
  ⟨0x7034,0x100,8,0x0,1,.none,[⟨31,31,.ro,0⟩,⟨15,0,.ro,0⟩]⟩,  -- VDS_MEAS
  ⟨0x7038,0x100,8,0x0,1,.none,[⟨31,16,.ro,0⟩,⟨15,8,.ro,0⟩,⟨7,0,.ro,0⟩]⟩,  -- LINK_STAT
  ⟨0x7800,0x0,1,0x0,1,.safety,[⟨2,2,.w1s,0⟩,⟨0,0,.rwcLk,0⟩]⟩,  -- SL_CH_CTL
  ⟨0x7804,0x0,1,0x0,1,.none,[⟨12,12,.ro,0⟩,⟨11,8,.ro,0⟩,⟨7,4,.ro,0⟩,⟨3,0,.ro,0⟩]⟩,  -- EN_STATUS
  ⟨0x7808,0x0,1,0x0,1,.safety,[⟨8,8,.rwcLk,1⟩,⟨3,0,.rwcLk,8⟩]⟩,  -- PRIMER_CFG
  ⟨0x780C,0x0,1,0x0,1,.none,[⟨31,31,.ro,0⟩,⟨30,30,.ro,0⟩,⟨29,27,.ro,0⟩,⟨26,24,.ro,0⟩,⟨23,23,.ro,0⟩,⟨5,0,.ro,0⟩]⟩,  -- PRIMER_RES
  ⟨0x7810,0x4,3,0x0,1,.none,[⟨31,16,.ro,0⟩,⟨15,0,.ro,0⟩]⟩,  -- PRIMER_VLH
  ⟨0x781C,0x0,1,0x0,1,.none,[⟨23,0,.ro,0⟩]⟩,  -- PRIMER_RATIO
  ⟨0x7820,0x0,1,0x0,1,.none,[⟨2,2,.ro,0⟩,⟨1,1,.w1c,0⟩,⟨0,0,.w1c,0⟩]⟩,  -- SL_IRQ_STATUS
  ⟨0x7824,0x0,1,0x0,1,.none,[⟨2,2,.rw,0⟩,⟨1,1,.rw,0⟩,⟨0,0,.rw,0⟩]⟩,  -- SL_IRQ_EN
  ⟨0x7828,0x0,1,0x0,1,.none,[⟨28,16,.ro,0⟩,⟨12,0,.w1c,0⟩]⟩,  -- SL_SRC_STATUS
  ⟨0x782C,0x0,1,0x0,1,.safety,[⟨29,0,.rwcLk,0xA6DB6DB⟩]⟩,  -- SL_SEV0
  ⟨0x7830,0x0,1,0x0,1,.safety,[⟨8,0,.rwcLk,1⟩]⟩,  -- SL_SEV1
  ⟨0x7834,0x0,1,0x0,1,.none,[⟨31,31,.w1c,0⟩,⟨30,30,.ro,0⟩,⟨10,8,.ro,0⟩,⟨3,0,.ro,0⟩]⟩,  -- SL_FF_SRC
  ⟨0x7838,0x0,1,0x0,1,.none,[⟨31,0,.ro,0⟩]⟩,  -- SL_FF_SEQ
  ⟨0x783C,0x0,1,0x0,1,.none,[⟨31,0,.ro,0⟩]⟩,  -- SL_FF_TIME_LO
  ⟨0x7840,0x0,1,0x0,1,.none,[⟨31,0,.ro,0⟩]⟩]  -- SL_FF_TIME_HI

/-- The PROT map (R260 of spec/10_power_stage_protection.md). -/
def mapProt : List RegDesc := [
  ⟨0x8000,0x0,1,0x0,1,.safety,[⟨5,5,.rwcLk,0⟩,⟨4,4,.rwcLk,0⟩,⟨3,3,.rwcLk,0⟩,⟨2,2,.rwcLk,0⟩,⟨1,1,.rwcLk,1⟩,⟨0,0,.rwcLk,0⟩]⟩,  -- PROT_CTL
  ⟨0x8004,0x0,1,0x0,1,.safety,[⟨27,16,.rwcLk,0xFFF⟩,⟨11,0,.rwcLk,0xFFE⟩]⟩,  -- DCL_LVL0
  ⟨0x8008,0x0,1,0x0,1,.safety,[⟨27,16,.rwcLk,0xFFD⟩,⟨11,0,.rwcLk,0xFFC⟩]⟩,  -- DCL_LVL1
  ⟨0x800C,0x0,1,0x0,1,.safety,[⟨31,24,.rwcLk,0xC⟩,⟨23,16,.rwcLk,0x10⟩,⟨11,0,.rwcLk,0⟩]⟩,  -- DCL_LVL2
  ⟨0x8010,0x0,1,0x0,1,.none,[⟨3,0,.ro,0⟩]⟩,  -- DCL_STATUS
  ⟨0x8014,0x0,1,0x0,1,.safety,[⟨31,24,.rwcLk,0x14⟩,⟨23,16,.rwcLk,0x29⟩,⟨12,8,.rwcLk,0xA⟩,⟨7,0,.rwcLk,0xA⟩]⟩,  -- CHOP_CFG
  ⟨0x8018,0x0,1,0x0,1,.none,[⟨31,16,.ro,0⟩,⟨3,2,.ro,0⟩,⟨1,1,.ro,0⟩,⟨0,0,.ro,0⟩]⟩,  -- CHOP_STATUS
  ⟨0x801C,0x0,1,0x0,1,.none,[⟨2,2,.w1s,0⟩,⟨1,1,.w1s,0⟩,⟨0,0,.w1s,0⟩]⟩,  -- PROT_REQ
  ⟨0x8020,0x0,1,0x0,1,.safety,[⟨31,16,.rwcLk,0x125C⟩,⟨15,0,.rwcLk,0x258⟩]⟩,  -- DCHG_CFG0
  ⟨0x8024,0x0,1,0x0,1,.safety,[⟨31,16,.rwcLk,0x258⟩,⟨15,0,.rwcLk,0x1EC⟩]⟩,  -- DCHG_CFG1
  ⟨0x8028,0x0,1,0x0,1,.safety,[⟨27,16,.rwcLk,0xFA⟩,⟨15,8,.rwcLk,0x32⟩,⟨7,0,.rwcLk,5⟩]⟩,  -- DCHG_CFG2
  ⟨0x802C,0x0,1,0x0,1,.safety,[⟨31,16,.ro,0⟩,⟨15,8,.rwcLk,0x32⟩,⟨4,4,.w1c,0⟩,⟨2,0,.ro,0⟩]⟩,  -- DCHG_STATUS
  ⟨0x8030,0x0,1,0x0,1,.safety,[⟨31,0,.rwcLk,0⟩]⟩,  -- WD_SPD
  ⟨0x8034,0x0,1,0x0,1,.safety,[⟨31,16,.rwcLk,0x100⟩,⟨15,0,.rwcLk,0x800⟩]⟩,  -- WD_CUR
  ⟨0x8038,0x0,1,0x0,1,.safety,[⟨15,0,.rwcLk,0x1388⟩]⟩,  -- WD_TIME
  ⟨0x803C,0x0,1,0x0,1,.safety,[⟨15,0,.rwcLk,0x3E8⟩]⟩,  -- DCL_EXT_T
  ⟨0x8040,0x8,8,0x0,1,.safety,[⟨31,31,.rwcLk,1⟩,⟨23,16,.rwcLk,0x32⟩,⟨15,8,.rwcLk,0xFF⟩,⟨7,0,.rwcLk,0xC8⟩]⟩,  -- SC_LVL
  ⟨0x8044,0x8,8,0x0,1,.safety,[⟨31,31,.rwcLk,0⟩,⟨12,8,.rwcLk,5⟩,⟨4,0,.rwcLk,0x14⟩]⟩,  -- SC_TLTO
  ⟨0x8080,0x0,1,0x0,1,.none,[⟨1,1,.ro,0⟩,⟨0,0,.w1c,0⟩]⟩,  -- PROT_IRQ_STATUS
  ⟨0x8084,0x0,1,0x0,1,.none,[⟨1,1,.rw,0⟩,⟨0,0,.rw,0⟩]⟩,  -- PROT_IRQ_EN
  ⟨0x8088,0x0,1,0x0,1,.none,[⟨26,16,.ro,0⟩,⟨10,0,.w1c,0⟩]⟩,  -- PROT_SRC_STATUS
  ⟨0x808C,0x0,1,0x0,1,.safety,[⟨29,0,.rwcLk,0x28E1513⟩]⟩,  -- PROT_SEV0
  ⟨0x8090,0x0,1,0x0,1,.safety,[⟨2,0,.rwcLk,1⟩]⟩,  -- PROT_SEV1
  ⟨0x8094,0x0,1,0x0,1,.none,[⟨31,31,.w1c,0⟩,⟨30,30,.ro,0⟩,⟨3,0,.ro,0⟩]⟩,  -- PROT_FF_SRC
  ⟨0x8098,0x0,1,0x0,1,.none,[⟨31,0,.ro,0⟩]⟩,  -- PROT_FF_SEQ
  ⟨0x809C,0x0,1,0x0,1,.none,[⟨31,0,.ro,0⟩]⟩,  -- PROT_FF_TIME_LO
  ⟨0x80A0,0x0,1,0x0,1,.none,[⟨31,0,.ro,0⟩]⟩]  -- PROT_FF_TIME_HI

/-- The DUST map (R286 of spec/11_safe_state.md). -/
def mapDust : List RegDesc := [
  ⟨0x9000,0x0,1,0x0,1,.safety,[⟨9,8,.rwcLk,3⟩,⟨4,4,.rwcLk,0⟩,⟨0,0,.rwcLk,0⟩]⟩,  -- DUST_CTL
  ⟨0x9004,0x0,1,0x0,1,.safety,[⟨31,0,.rwcLk,0x7FFFFFFF⟩]⟩,  -- DUST_ASC_W
  ⟨0x9008,0x0,1,0x0,1,.safety,[⟨31,0,.rwcLk,0xA0000⟩]⟩,  -- DUST_ASC_HYST
  ⟨0x900C,0x0,1,0x0,1,.safety,[⟨15,0,.rwcLk,0⟩]⟩,  -- DUST_DEG
  ⟨0x9010,0x0,1,0x0,1,.safety,[⟨7,0,.rwcLk,3⟩]⟩,  -- DUST_LEG_CFG
  ⟨0x9014,0x0,1,0x0,1,.none,[⟨30,28,.ro,0⟩,⟨23,16,.ro,0⟩,⟨15,15,.ro,0⟩,⟨13,13,.ro,0⟩,⟨12,11,.ro,0⟩,⟨10,10,.ro,0⟩,⟨9,9,.ro,0⟩,⟨5,3,.ro,0⟩,⟨2,0,.ro,0⟩]⟩,  -- DUST_STATUS
  ⟨0x9018,0x0,1,0x0,1,.none,[⟨22,20,.ro,0⟩,⟨18,16,.ro,0⟩,⟨15,13,.ro,0⟩,⟨12,10,.ro,0⟩,⟨9,7,.ro,0⟩,⟨5,3,.ro,0⟩,⟨2,0,.ro,0⟩]⟩,  -- LEG_HEALTH
  ⟨0x901C,0x0,1,0x0,1,.none,[⟨0,0,.w1s,0⟩]⟩,  -- DUST_REQ
  ⟨0x9020,0x0,1,0x0,1,.none,[⟨31,31,.ro,0⟩,⟨30,30,.ro,0⟩,⟨29,27,.ro,0⟩,⟨26,24,.ro,0⟩,⟨19,16,.ro,0⟩,⟨4,0,.ro,0⟩]⟩,  -- DUST_CAUSE
  ⟨0x9024,0x0,1,0x0,1,.none,[⟨31,0,.ro,0⟩]⟩,  -- DUST_CAUSE_SEQ
  ⟨0x9028,0x0,1,0x0,1,.none,[⟨31,0,.ro,0⟩]⟩,  -- DUST_CAUSE_TIME_LO
  ⟨0x902C,0x0,1,0x0,1,.none,[⟨31,0,.ro,0⟩]⟩,  -- DUST_CAUSE_TIME_HI
  ⟨0x9030,0x0,1,0x0,1,.none,[⟨31,16,.ro,0⟩,⟨15,0,.ro,0⟩]⟩,  -- DUST_SEL_COUNT
  ⟨0x9034,0x0,1,0x0,1,.none,[⟨3,3,.ro,0⟩,⟨2,2,.w1c,0⟩,⟨1,1,.w1c,0⟩,⟨0,0,.w1c,0⟩]⟩,  -- DUST_IRQ_STATUS
  ⟨0x9038,0x0,1,0x0,1,.none,[⟨3,3,.rw,0⟩,⟨2,2,.rw,0⟩,⟨1,1,.rw,0⟩,⟨0,0,.rw,0⟩]⟩,  -- DUST_IRQ_EN
  ⟨0x903C,0x0,1,0x0,1,.none,[⟨22,16,.ro,0⟩,⟨6,0,.w1c,0⟩]⟩,  -- DUST_SRC_STATUS
  ⟨0x9040,0x0,1,0x0,1,.safety,[⟨20,3,.rwcLk,0x965B⟩,⟨2,0,.ro,4⟩]⟩,  -- DUST_SEV
  ⟨0x9044,0x0,1,0x0,1,.none,[⟨31,31,.w1c,0⟩,⟨30,30,.ro,0⟩,⟨2,0,.ro,0⟩]⟩,  -- DUST_FF_SRC
  ⟨0x9048,0x0,1,0x0,1,.none,[⟨31,0,.ro,0⟩]⟩,  -- DUST_FF_SEQ
  ⟨0x904C,0x0,1,0x0,1,.none,[⟨31,0,.ro,0⟩]⟩,  -- DUST_FF_TIME_LO
  ⟨0x9050,0x0,1,0x0,1,.none,[⟨31,0,.ro,0⟩]⟩]  -- DUST_FF_TIME_HI

/-- The MSIO map (R304 of spec/12_machine_safety_io.md). -/
def mapMsio : List RegDesc := [
  ⟨0xA000,0x0,1,0x0,1,.safety,[⟨6,4,.rwcLk,0⟩,⟨2,2,.rwcLk,1⟩,⟨1,0,.rwcLk,0⟩]⟩,  -- MSIO_CTL
  ⟨0xA004,0x0,1,0x0,1,.safety,[⟨6,0,.rwcLk,0xA⟩]⟩,  -- CONT_DEB
  ⟨0xA008,0x0,1,0x0,1,.safety,[⟨31,24,.rwcLk,0x5F⟩,⟨12,0,.rwcLk,0xFA⟩]⟩,  -- PRE_CFG
  ⟨0xA00C,0x0,1,0x0,1,.safety,[⟨31,31,.rwcLk,0⟩,⟨26,24,.rwcLk,4⟩,⟨23,20,.rwcLk,0⟩,⟨15,0,.rwcLk,0x1999⟩]⟩,  -- PRE_SRC
  ⟨0xA010,0x0,1,0x0,1,.safety,[⟨31,31,.rwcLk,0⟩,⟨24,16,.rwcLk,0x64⟩,⟨5,0,.rwcLk,0xA⟩]⟩,  -- GUARD_CFG
  ⟨0xA014,0x0,1,0x0,1,.safety,[⟨6,0,.rwcLk,0x14⟩]⟩,  -- ACK_CFG
  ⟨0xA018,0x0,1,0x0,1,.none,[⟨2,2,.w1s,0⟩,⟨1,1,.w1s,0⟩,⟨0,0,.w1s,0⟩]⟩,  -- MSIO_REQ
  ⟨0xA01C,0x0,1,0x0,1,.none,[⟨18,16,.ro,0⟩,⟨15,15,.ro,0⟩,⟨14,12,.ro,0⟩,⟨10,8,.ro,0⟩,⟨2,0,.ro,0⟩]⟩,  -- CONT_STATUS
  ⟨0xA020,0x0,1,0x0,1,.none,[⟨31,31,.ro,0⟩,⟨30,30,.ro,0⟩,⟨9,8,.ro,0⟩,⟨1,1,.ro,0⟩,⟨0,0,.ro,0⟩]⟩,  -- GUARD_STATUS
  ⟨0xA024,0x0,1,0x0,1,.none,[⟨31,31,.ro,0⟩,⟨30,30,.ro,0⟩,⟨29,29,.ro,0⟩,⟨15,0,.ro,0⟩]⟩,  -- ACK_STATUS
  ⟨0xA028,0x0,1,0x0,1,.none,[⟨31,16,.ro,0⟩,⟨15,3,.ro,0⟩,⟨2,0,.ro,0⟩]⟩,  -- PRE_STATUS
  ⟨0xA02C,0x0,1,0x0,1,.none,[⟨2,2,.ro,0⟩,⟨1,1,.w1c,0⟩,⟨0,0,.w1c,0⟩]⟩,  -- MSIO_IRQ_STATUS
  ⟨0xA030,0x0,1,0x0,1,.none,[⟨2,2,.rw,0⟩,⟨1,1,.rw,0⟩,⟨0,0,.rw,0⟩]⟩,  -- MSIO_IRQ_EN
  ⟨0xA034,0x0,1,0x0,1,.none,[⟨22,16,.ro,0⟩,⟨6,0,.w1c,0⟩]⟩,  -- MSIO_SRC_STATUS
  ⟨0xA038,0x0,1,0x0,1,.safety,[⟨20,0,.rwcLk,0x4B6E3⟩]⟩,  -- MSIO_SEV
  ⟨0xA03C,0x0,1,0x0,1,.none,[⟨31,31,.w1c,0⟩,⟨30,30,.ro,0⟩,⟨2,0,.ro,0⟩]⟩,  -- MSIO_FF_SRC
  ⟨0xA040,0x0,1,0x0,1,.none,[⟨31,0,.ro,0⟩]⟩,  -- MSIO_FF_SEQ
  ⟨0xA044,0x0,1,0x0,1,.none,[⟨31,0,.ro,0⟩]⟩,  -- MSIO_FF_TIME_LO
  ⟨0xA048,0x0,1,0x0,1,.none,[⟨31,0,.ro,0⟩]⟩]  -- MSIO_FF_TIME_HI

/-- The CORE map (R327 of spec/13_lockstep_and_checks.md). -/
def mapCore : List RegDesc := [
  ⟨0xB000,0x0,1,0x0,1,.none,[⟨31,31,.ro,0⟩,⟨30,30,.ro,0⟩,⟨7,7,.ro,0⟩,⟨3,3,.ro,0⟩,⟨2,2,.ro,0⟩,⟨1,1,.ro,0⟩,⟨0,0,.ro,0⟩]⟩,  -- CORE_STATUS
  ⟨0xB004,0x0,1,0x0,1,.none,[⟨31,16,.ro,0⟩,⟨5,0,.ro,0⟩]⟩,  -- PLUMB_STAT
  ⟨0xB008,0x0,1,0x0,1,.none,[⟨31,24,.ro,0⟩,⟨15,0,.ro,0⟩]⟩,  -- TCM_ECC_STAT
  ⟨0xB00C,0x0,1,0x0,1,.none,[⟨31,31,.ro,0⟩,⟨15,12,.ro,0⟩,⟨11,0,.ro,0⟩]⟩,  -- SHADOW_STAT
  ⟨0xB010,0x0,1,0x0,1,.none,[⟨8,8,.ro,0⟩,⟨7,0,.w1c,0⟩]⟩,  -- CORE_IRQ_STATUS
  ⟨0xB014,0x0,1,0x0,1,.none,[⟨8,8,.rw,0⟩,⟨7,0,.rw,0⟩]⟩,  -- CORE_IRQ_EN
  ⟨0xB018,0x0,1,0x0,1,.none,[⟨21,16,.ro,0⟩,⟨5,0,.w1c,0⟩]⟩,  -- CORE_SRC_STATUS
  ⟨0xB01C,0x0,1,0x0,1,.safety,[⟨17,0,.rwcLk,0x12DB⟩]⟩,  -- CORE_SEV
  ⟨0xB020,0x0,1,0x0,1,.none,[⟨31,31,.w1c,0⟩,⟨30,30,.ro,0⟩,⟨2,0,.ro,0⟩]⟩,  -- CORE_FF_SRC
  ⟨0xB024,0x0,1,0x0,1,.none,[⟨31,0,.ro,0⟩]⟩,  -- CORE_FF_SEQ
  ⟨0xB028,0x0,1,0x0,1,.none,[⟨31,0,.ro,0⟩]⟩,  -- CORE_FF_TIME_LO
  ⟨0xB02C,0x0,1,0x0,1,.none,[⟨31,0,.ro,0⟩]⟩,  -- CORE_FF_TIME_HI
  ⟨0xB100,0x20,8,0x0,1,.none,[⟨5,4,.rw,2⟩,⟨1,0,.rw,0⟩]⟩,  -- CVU_CTL
  ⟨0xB104,0x20,8,0x0,1,.none,[⟨31,0,.rw,0⟩]⟩,  -- CVU_DATA
  ⟨0xB108,0x20,8,0x0,1,.none,[⟨31,0,.rw,0xFF⟩]⟩,  -- CVU_VAL
  ⟨0xB10C,0x20,8,0x0,1,.none,[⟨31,0,.ro,0⟩]⟩,  -- CVU_RES
  ⟨0xB110,0x20,8,0x0,1,.none,[⟨31,0,.rw,0⟩]⟩,  -- CVU_EXP
  ⟨0xB114,0x20,8,0x0,1,.none,[⟨1,1,.w1s,0⟩,⟨0,0,.w1s,0⟩]⟩,  -- CVU_REQ
  ⟨0xB118,0x20,8,0x0,1,.none,[⟨1,1,.ro,0⟩,⟨0,0,.w1c,0⟩]⟩]  -- CVU_STAT

/-- The SKIM map (R352 of spec/14_self_test.md). -/
def mapSkim : List RegDesc := [
  ⟨0xC000,0x0,1,0x0,1,.safety,[⟨9,0,.rwcLk,0x3FF⟩]⟩,  -- SKIM_CTL
  ⟨0xC004,0x0,1,0x0,1,.safety,[⟨6,0,.rwcLk,0x64⟩]⟩,  -- SKIM_CFG
  ⟨0xC008,0x0,1,0x0,1,.none,[⟨0,0,.w1s,0⟩]⟩,  -- SKIM_REQ
  ⟨0xC00C,0x0,1,0x0,1,.none,[⟨31,16,.ro,0⟩,⟨15,15,.ro,0⟩,⟨14,14,.ro,0⟩,⟨11,8,.ro,0⟩]⟩,  -- SKIM_STATUS
  ⟨0xC010,0x0,1,0x0,1,.none,[⟨25,16,.ro,0⟩,⟨9,0,.ro,0⟩]⟩,  -- SKIM_DONE
  ⟨0xC014,0x0,1,0x0,1,.none,[⟨31,28,.ro,0⟩,⟨15,0,.ro,0⟩]⟩,  -- SKIM_ABORTS
  ⟨0xC018,0x0,1,0x0,1,.none,[⟨31,28,.ro,0⟩,⟨27,24,.ro,0⟩,⟨15,0,.ro,0⟩]⟩,  -- SKIM_FAIL_INFO
  ⟨0xC01C,0x0,1,0x0,1,.none,[⟨15,0,.ro,0⟩]⟩,  -- SCRUB_POS
  ⟨0xC020,0x0,1,0x0,1,.none,[⟨1,1,.ro,0⟩,⟨0,0,.w1c,0⟩]⟩,  -- SKIM_IRQ_STATUS
  ⟨0xC024,0x0,1,0x0,1,.none,[⟨1,1,.rw,0⟩,⟨0,0,.rw,0⟩]⟩,  -- SKIM_IRQ_EN
  ⟨0xC028,0x0,1,0x0,1,.none,[⟨18,16,.ro,0⟩,⟨2,0,.w1c,0⟩]⟩,  -- SKIM_SRC_STATUS
  ⟨0xC02C,0x0,1,0x0,1,.safety,[⟨8,0,.rwcLk,0x13⟩]⟩,  -- SKIM_SEV
  ⟨0xC030,0x0,1,0x0,1,.none,[⟨31,31,.w1c,0⟩,⟨30,30,.ro,0⟩,⟨1,0,.ro,0⟩]⟩,  -- SKIM_FF_SRC
  ⟨0xC034,0x0,1,0x0,1,.none,[⟨31,0,.ro,0⟩]⟩,  -- SKIM_FF_SEQ
  ⟨0xC038,0x0,1,0x0,1,.none,[⟨31,0,.ro,0⟩]⟩,  -- SKIM_FF_TIME_LO
  ⟨0xC03C,0x0,1,0x0,1,.none,[⟨31,0,.ro,0⟩]⟩,  -- SKIM_FF_TIME_HI
  ⟨0xC100,0x4,10,0x0,1,.none,[⟨31,0,.ro,0⟩]⟩]  -- REGF_REF

end Sys2Proof.Machine
end

