-- ==== Sys2Proof/Machine/ChanNames.lean ====
section
/-! DEFINITION. Machine/ChanNames.lean: the names of the channel registers (their offsets, R523) and of their fields
(register, msb, lsb), as the register maps of spec/ name them. A register of a window or an array takes its numbers as arguments.
-/

namespace Sys2Proof.Machine

/-! ### CHCTL (R70) -/

def CH_STATE : Nat := 0x0
def CH_STATE_LOCKSTEP_BROKEN : Fld := ⟨CH_STATE, 15, 15⟩
def CH_STATE_HOLD_CAUSE : Fld := ⟨CH_STATE, 10, 8⟩
def CH_STATE_STATE : Fld := ⟨CH_STATE, 2, 0⟩
def CH_READY : Nat := 0x4
def CH_READY_READY : Fld := ⟨CH_READY, 10, 0⟩
def CH_REQ : Nat := 0x8
def CH_REQ_CLEAR_FAULT : Fld := ⟨CH_REQ, 2, 2⟩
def CH_REQ_DISARM : Fld := ⟨CH_REQ, 1, 1⟩
def CH_REQ_ARM : Fld := ⟨CH_REQ, 0, 0⟩
def CH_RESULT : Nat := 0xC
def CH_RESULT_REQ_DISCARDED : Fld := ⟨CH_RESULT, 9, 9⟩
def CH_RESULT_ARM_TIMEOUT : Fld := ⟨CH_RESULT, 8, 8⟩
def CH_RESULT_LAST_REFUSAL : Fld := ⟨CH_RESULT, 4, 0⟩
def COMMIT_CTL : Nat := 0x10
def COMMIT_CTL_SAFETY_CONFIRM : Fld := ⟨COMMIT_CTL, 2, 2⟩
def COMMIT_CTL_SAFETY_STAGE : Fld := ⟨COMMIT_CTL, 1, 1⟩
def COMMIT_CTL_TUNING_COMMIT : Fld := ⟨COMMIT_CTL, 0, 0⟩
def COMMIT_CRC : Nat := 0x14
def COMMIT_CRC_CRC : Fld := ⟨COMMIT_CRC, 31, 0⟩
def COMMIT_STATUS : Nat := 0x18
def COMMIT_STATUS_COMMIT_COUNT : Fld := ⟨COMMIT_STATUS, 31, 16⟩
def COMMIT_STATUS_WRITE_BLOCKED : Fld := ⟨COMMIT_STATUS, 8, 8⟩
def COMMIT_STATUS_CODE : Fld := ⟨COMMIT_STATUS, 3, 0⟩
def COMMIT_TIME_LO : Nat := 0x1C
def COMMIT_TIME_LO_TIME : Fld := ⟨COMMIT_TIME_LO, 31, 0⟩
def COMMIT_TIME_HI : Nat := 0x20
def COMMIT_TIME_HI_TIME : Fld := ⟨COMMIT_TIME_HI, 31, 0⟩
def ACTIVE_BANK : Nat := 0x24
def ACTIVE_BANK_SAFETY_BANK : Fld := ⟨ACTIVE_BANK, 2, 2⟩
def ACTIVE_BANK_STENCIL_BANK : Fld := ⟨ACTIVE_BANK, 1, 1⟩
def ACTIVE_BANK_PARAM_BANK : Fld := ⟨ACTIVE_BANK, 0, 0⟩
def LAPSE_RAMP_T : Nat := 0x28
def LAPSE_RAMP_T_COUNT : Fld := ⟨LAPSE_RAMP_T, 31, 0⟩
def LAPSE_HOLD_T : Nat := 0x2C
def LAPSE_HOLD_T_COUNT : Fld := ⟨LAPSE_HOLD_T, 31, 0⟩
def LAPSE_RAMP_STEP : Nat := 0x30
def LAPSE_RAMP_STEP_STEP : Fld := ⟨LAPSE_RAMP_STEP, 15, 0⟩
def ARM_TIMEOUT_T : Nat := 0x34
def ARM_TIMEOUT_T_COUNT : Fld := ⟨ARM_TIMEOUT_T, 31, 0⟩
def CH_IRQ_STATUS : Nat := 0x38
def CH_IRQ_STATUS_SRC : Fld := ⟨CH_IRQ_STATUS, 5, 5⟩
def CH_IRQ_STATUS_STREAM_LAPSE : Fld := ⟨CH_IRQ_STATUS, 4, 4⟩
def CH_IRQ_STATUS_ARM_REFUSED : Fld := ⟨CH_IRQ_STATUS, 3, 3⟩
def CH_IRQ_STATUS_COMMIT_REFUSED : Fld := ⟨CH_IRQ_STATUS, 2, 2⟩
def CH_IRQ_STATUS_COMMIT_LANDED : Fld := ⟨CH_IRQ_STATUS, 1, 1⟩
def CH_IRQ_STATUS_STATE_CHANGE : Fld := ⟨CH_IRQ_STATUS, 0, 0⟩
def CH_IRQ_EN : Nat := 0x3C
def CH_IRQ_EN_SRC : Fld := ⟨CH_IRQ_EN, 5, 5⟩
def CH_IRQ_EN_STREAM_LAPSE : Fld := ⟨CH_IRQ_EN, 4, 4⟩
def CH_IRQ_EN_ARM_REFUSED : Fld := ⟨CH_IRQ_EN, 3, 3⟩
def CH_IRQ_EN_COMMIT_REFUSED : Fld := ⟨CH_IRQ_EN, 2, 2⟩
def CH_IRQ_EN_COMMIT_LANDED : Fld := ⟨CH_IRQ_EN, 1, 1⟩
def CH_IRQ_EN_STATE_CHANGE : Fld := ⟨CH_IRQ_EN, 0, 0⟩
def CH_SEV : Nat := 0x40
def CH_SEV_STREAM_LAPSE_SEV : Fld := ⟨CH_SEV, 8, 6⟩
def CH_SEV_ARM_TIMEOUT_SEV : Fld := ⟨CH_SEV, 5, 3⟩
def CH_SEV_COMMIT_SEV : Fld := ⟨CH_SEV, 2, 0⟩
def CH_SRC_STATUS : Nat := 0x44
def CH_SRC_STATUS_ACTIVE : Fld := ⟨CH_SRC_STATUS, 18, 16⟩
def CH_SRC_STATUS_LATCHED : Fld := ⟨CH_SRC_STATUS, 2, 0⟩
def CH_FF_SRC : Nat := 0x48
def CH_FF_SRC_VALID : Fld := ⟨CH_FF_SRC, 31, 31⟩
def CH_FF_SRC_OVF : Fld := ⟨CH_FF_SRC, 30, 30⟩
def CH_FF_SRC_SOURCE : Fld := ⟨CH_FF_SRC, 1, 0⟩
def CH_FF_SEQ : Nat := 0x4C
def CH_FF_SEQ_SEQ : Fld := ⟨CH_FF_SEQ, 31, 0⟩
def CH_FF_TIME_LO : Nat := 0x50
def CH_FF_TIME_LO_TIME : Fld := ⟨CH_FF_TIME_LO, 31, 0⟩
def CH_FF_TIME_HI : Nat := 0x54
def CH_FF_TIME_HI_TIME : Fld := ⟨CH_FF_TIME_HI, 31, 0⟩

/-! ### ADC (R96) -/

def ADC_CTL : Nat := 0x1000
def ADC_CTL_ADC3_MODE : Fld := ⟨ADC_CTL, 5, 5⟩
def ADC_CTL_PAIR_EN : Fld := ⟨ADC_CTL, 4, 4⟩
def ADC_CTL_CONV_EN : Fld := ⟨ADC_CTL, 3, 0⟩
def ADC_STATUS : Nat := 0x1004
def ADC_STATUS_INJ_BUSY : Fld := ⟨ADC_STATUS, 11, 8⟩
def ADC_STATUS_REG_BUSY : Fld := ⟨ADC_STATUS, 7, 4⟩
def ADC_STATUS_SKIM_BUSY : Fld := ⟨ADC_STATUS, 3, 0⟩
def REFINJ_CTL : Nat := 0x1008
def REFINJ_CTL_LVL : Fld := ⟨REFINJ_CTL, 9, 8⟩
def REFINJ_CTL_TOL : Fld := ⟨REFINJ_CTL, 7, 0⟩
def SCAN_MASK : Nat := 0x100C
def SCAN_MASK_MASK : Fld := ⟨SCAN_MASK, 15, 0⟩
def SCAN_INTERVAL : Nat := 0x1010
def SCAN_INTERVAL_COUNT : Fld := ⟨SCAN_INTERVAL, 23, 0⟩
def ADC_IRQ_STATUS : Nat := 0x1014
def ADC_IRQ_STATUS_SRC : Fld := ⟨ADC_IRQ_STATUS, 5, 5⟩
def ADC_IRQ_STATUS_SCAN_DONE : Fld := ⟨ADC_IRQ_STATUS, 4, 4⟩
def ADC_IRQ_STATUS_FIFO_THRESH : Fld := ⟨ADC_IRQ_STATUS, 3, 0⟩
def ADC_IRQ_EN : Nat := 0x1018
def ADC_IRQ_EN_SRC : Fld := ⟨ADC_IRQ_EN, 5, 5⟩
def ADC_IRQ_EN_SCAN_DONE : Fld := ⟨ADC_IRQ_EN, 4, 4⟩
def ADC_IRQ_EN_FIFO_THRESH : Fld := ⟨ADC_IRQ_EN, 3, 0⟩
def ADC_SRC_STATUS : Nat := 0x101C
def ADC_SRC_STATUS_ACTIVE : Fld := ⟨ADC_SRC_STATUS, 28, 16⟩
def ADC_SRC_STATUS_LATCHED : Fld := ⟨ADC_SRC_STATUS, 12, 0⟩
def ADC_SEV0 : Nat := 0x1020
def ADC_SEV0_REG_OVERRUN_SEV : Fld := ⟨ADC_SEV0, 29, 27⟩
def ADC_SEV0_INJ_OVERRUN_SEV : Fld := ⟨ADC_SEV0, 26, 24⟩
def ADC_SEV0_WCMPk_SEV : Fld := ⟨ADC_SEV0, 23, 0⟩
def ADC_SEV1 : Nat := 0x1024
def ADC_SEV1_ADC_STALL_SEV : Fld := ⟨ADC_SEV1, 8, 6⟩
def ADC_SEV1_REFINJ_FAIL_SEV : Fld := ⟨ADC_SEV1, 5, 3⟩
def ADC_SEV1_FIFO_OVERFLOW_SEV : Fld := ⟨ADC_SEV1, 2, 0⟩
def ADC_FF_SRC : Nat := 0x1028
def ADC_FF_SRC_VALID : Fld := ⟨ADC_FF_SRC, 31, 31⟩
def ADC_FF_SRC_OVF : Fld := ⟨ADC_FF_SRC, 30, 30⟩
def ADC_FF_SRC_SOURCE : Fld := ⟨ADC_FF_SRC, 3, 0⟩
def ADC_FF_SEQ : Nat := 0x102C
def ADC_FF_SEQ_SEQ : Fld := ⟨ADC_FF_SEQ, 31, 0⟩
def ADC_FF_TIME_LO : Nat := 0x1030
def ADC_FF_TIME_LO_TIME : Fld := ⟨ADC_FF_TIME_LO, 31, 0⟩
def ADC_FF_TIME_HI : Nat := 0x1034
def ADC_FF_TIME_HI_TIME : Fld := ⟨ADC_FF_TIME_HI, 31, 0⟩
def CONV_CTL (n : Nat) : Nat := 0x1100 + 0x40 * n
def CONV_CTL_INJ_DELAY (n : Nat) : Fld := ⟨CONV_CTL n, 31, 24⟩
def CONV_CTL_INJ_DIV (n : Nat) : Fld := ⟨CONV_CTL n, 23, 20⟩
def CONV_CTL_INJ_LEN (n : Nat) : Fld := ⟨CONV_CTL n, 19, 18⟩
def CONV_CTL_INJ_TRIG_SW (n : Nat) : Fld := ⟨CONV_CTL n, 17, 17⟩
def CONV_CTL_INJ_TRIG_WIN (n : Nat) : Fld := ⟨CONV_CTL n, 16, 16⟩
def CONV_CTL_INJ_TRIG_BND (n : Nat) : Fld := ⟨CONV_CTL n, 15, 15⟩
def CONV_CTL_REG_LEN (n : Nat) : Fld := ⟨CONV_CTL n, 13, 10⟩
def CONV_CTL_REG_TRIG (n : Nat) : Fld := ⟨CONV_CTL n, 9, 7⟩
def CONV_CTL_INJ_FIFO (n : Nat) : Fld := ⟨CONV_CTL n, 6, 6⟩
def CONV_REQ (n : Nat) : Nat := 0x1104 + 0x40 * n
def CONV_REQ_INJ_SW (n : Nat) : Fld := ⟨CONV_REQ n, 1, 1⟩
def CONV_REQ_REG_SW (n : Nat) : Fld := ⟨CONV_REQ n, 0, 0⟩
def REG_SEQ0 (n : Nat) : Nat := 0x1108 + 0x40 * n
def REG_SEQ0_SLOTk_IN (n : Nat) : Fld := ⟨REG_SEQ0 n, 31, 0⟩
def REG_SEQ1 (n : Nat) : Nat := 0x110C + 0x40 * n
def REG_SEQ1_SLOTk_IN (n : Nat) : Fld := ⟨REG_SEQ1 n, 31, 0⟩
def INJ_SEQ (n : Nat) : Nat := 0x1110 + 0x40 * n
def INJ_SEQ_SLOTk_IN (n : Nat) : Fld := ⟨INJ_SEQ n, 15, 0⟩
def REG_TIMER (n : Nat) : Nat := 0x1114 + 0x40 * n
def REG_TIMER_COUNT (n : Nat) : Fld := ⟨REG_TIMER n, 23, 0⟩
def FIFO_CTL (n : Nat) : Nat := 0x1118 + 0x40 * n
def FIFO_CTL_FLUSH (n : Nat) : Fld := ⟨FIFO_CTL n, 31, 31⟩
def FIFO_CTL_LEVEL (n : Nat) : Fld := ⟨FIFO_CTL n, 13, 8⟩
def FIFO_CTL_THRESH (n : Nat) : Fld := ⟨FIFO_CTL n, 5, 0⟩
def FIFO_DATA (n : Nat) : Nat := 0x111C + 0x40 * n
def FIFO_DATA_VALID (n : Nat) : Fld := ⟨FIFO_DATA n, 31, 31⟩
def FIFO_DATA_CLIP (n : Nat) : Fld := ⟨FIFO_DATA n, 30, 30⟩
def FIFO_DATA_VECTOR (n : Nat) : Fld := ⟨FIFO_DATA n, 29, 27⟩
def FIFO_DATA_REPEAT (n : Nat) : Fld := ⟨FIFO_DATA n, 26, 26⟩
def FIFO_DATA_KIND (n : Nat) : Fld := ⟨FIFO_DATA n, 25, 24⟩
def FIFO_DATA_SLOT (n : Nat) : Fld := ⟨FIFO_DATA n, 23, 20⟩
def FIFO_DATA_INPUT (n : Nat) : Fld := ⟨FIFO_DATA n, 19, 16⟩
def FIFO_DATA_RESULT (n : Nat) : Fld := ⟨FIFO_DATA n, 15, 0⟩
def FIFO_TIME_LO (n : Nat) : Nat := 0x1120 + 0x40 * n
def FIFO_TIME_LO_TIME (n : Nat) : Fld := ⟨FIFO_TIME_LO n, 31, 0⟩
def FIFO_TIME_HI (n : Nat) : Nat := 0x1124 + 0x40 * n
def FIFO_TIME_HI_TIME (n : Nat) : Fld := ⟨FIFO_TIME_HI n, 31, 0⟩
def FIFO_OVF_COUNT (n : Nat) : Nat := 0x1128 + 0x40 * n
def FIFO_OVF_COUNT_COUNT (n : Nat) : Fld := ⟨FIFO_OVF_COUNT n, 15, 0⟩
def OVR_COUNT (n : Nat) : Nat := 0x112C + 0x40 * n
def OVR_COUNT_REG_OVR (n : Nat) : Fld := ⟨OVR_COUNT n, 31, 16⟩
def OVR_COUNT_INJ_OVR (n : Nat) : Fld := ⟨OVR_COUNT n, 15, 0⟩
def INJ_RES (n k : Nat) : Nat := 0x1130 + 0x40 * n + 0x4 * k
def INJ_RES_COUNT (n k : Nat) : Fld := ⟨INJ_RES n k, 30, 24⟩
def INJ_RES_CLIP (n k : Nat) : Fld := ⟨INJ_RES n k, 23, 23⟩
def INJ_RES_TRIG (n k : Nat) : Fld := ⟨INJ_RES n k, 22, 20⟩
def INJ_RES_VECTOR (n k : Nat) : Fld := ⟨INJ_RES n k, 18, 16⟩
def INJ_RES_RESULT (n k : Nat) : Fld := ⟨INJ_RES n k, 15, 0⟩
def CORR_OFS (n : Nat) : Nat := 0x1400 + 0x8 * n
def CORR_OFS_OFS (n : Nat) : Fld := ⟨CORR_OFS n, 17, 0⟩
def CORR_GAIN (n : Nat) : Nat := 0x1404 + 0x8 * n
def CORR_GAIN_GAIN (n : Nat) : Fld := ⟨CORR_GAIN n, 23, 0⟩
def HK_RES (n : Nat) : Nat := 0x1500 + 0x4 * n
def HK_RES_COUNT (n : Nat) : Fld := ⟨HK_RES n, 30, 24⟩
def HK_RES_CLIP (n : Nat) : Fld := ⟨HK_RES n, 16, 16⟩
def HK_RES_RESULT (n : Nat) : Fld := ⟨HK_RES n, 15, 0⟩
def WCMP_CTL (n : Nat) : Nat := 0x1600 + 0x8 * n
def WCMP_CTL_EN (n : Nat) : Fld := ⟨WCMP_CTL n, 11, 11⟩
def WCMP_CTL_SRC (n : Nat) : Fld := ⟨WCMP_CTL n, 10, 8⟩
def WCMP_CTL_INPUT (n : Nat) : Fld := ⟨WCMP_CTL n, 7, 4⟩
def WCMP_CTL_DEBOUNCE (n : Nat) : Fld := ⟨WCMP_CTL n, 3, 0⟩
def WCMP_LIM (n : Nat) : Nat := 0x1604 + 0x8 * n
def WCMP_LIM_HIGH (n : Nat) : Fld := ⟨WCMP_LIM n, 31, 16⟩
def WCMP_LIM_LOW (n : Nat) : Fld := ⟨WCMP_LIM n, 15, 0⟩

/-! ### SINC (R117) -/

def SD_CTL : Nat := 0x2000
def SD_CTL_EDGE : Fld := ⟨SD_CTL, 5, 5⟩
def SD_CTL_CLK_MODE : Fld := ⟨SD_CTL, 4, 4⟩
def SD_CTL_IN_EN : Fld := ⟨SD_CTL, 3, 0⟩
def SD_MCLK : Nat := 0x2004
def SD_MCLK_SAMPLE_DLY : Fld := ⟨SD_MCLK, 13, 8⟩
def SD_MCLK_DIV : Fld := ⟨SD_MCLK, 7, 0⟩
def SD_CLKLOSS_T : Nat := 0x2008
def SD_CLKLOSS_T_COUNT : Fld := ⟨SD_CLKLOSS_T, 7, 0⟩
def SD_MCLK_MEAS : Nat := 0x200C
def SD_MCLK_MEAS_PERIOD : Fld := ⟨SD_MCLK_MEAS, 23, 0⟩
def SD_STATUS : Nat := 0x2010
def SD_STATUS_CLK_OK : Fld := ⟨SD_STATUS, 12, 12⟩
def SD_STATUS_STUCK : Fld := ⟨SD_STATUS, 11, 8⟩
def SD_STATUS_SETTLING : Fld := ⟨SD_STATUS, 7, 4⟩
def SD_STATUS_VALID : Fld := ⟨SD_STATUS, 3, 0⟩
def SD_IRQ_STATUS : Nat := 0x2014
def SD_IRQ_STATUS_SRC : Fld := ⟨SD_IRQ_STATUS, 4, 4⟩
def SD_IRQ_STATUS_VALID_RISE : Fld := ⟨SD_IRQ_STATUS, 3, 0⟩
def SD_IRQ_EN : Nat := 0x2018
def SD_IRQ_EN_SRC : Fld := ⟨SD_IRQ_EN, 4, 4⟩
def SD_IRQ_EN_VALID_RISE : Fld := ⟨SD_IRQ_EN, 3, 0⟩
def SD_SRC_STATUS : Nat := 0x201C
def SD_SRC_STATUS_ACTIVE : Fld := ⟨SD_SRC_STATUS, 30, 16⟩
def SD_SRC_STATUS_LATCHED : Fld := ⟨SD_SRC_STATUS, 14, 0⟩
def SD_SEV0 : Nat := 0x2020
def SD_SEV0_STUCK1_SEV : Fld := ⟨SD_SEV0, 29, 27⟩
def SD_SEV0_STUCK0_SEV : Fld := ⟨SD_SEV0, 26, 24⟩
def SD_SEV0_CMPLn_SEV : Fld := ⟨SD_SEV0, 23, 12⟩
def SD_SEV0_CMPHn_SEV : Fld := ⟨SD_SEV0, 11, 0⟩
def SD_SEV1 : Nat := 0x2024
def SD_SEV1_MCLK_RANGE_SEV : Fld := ⟨SD_SEV1, 14, 12⟩
def SD_SEV1_SKIM_FAIL_SEV : Fld := ⟨SD_SEV1, 11, 9⟩
def SD_SEV1_CLK_LOSS_SEV : Fld := ⟨SD_SEV1, 8, 6⟩
def SD_SEV1_STUCK3_SEV : Fld := ⟨SD_SEV1, 5, 3⟩
def SD_SEV1_STUCK2_SEV : Fld := ⟨SD_SEV1, 2, 0⟩
def SD_FF_SRC : Nat := 0x2028
def SD_FF_SRC_VALID : Fld := ⟨SD_FF_SRC, 31, 31⟩
def SD_FF_SRC_OVF : Fld := ⟨SD_FF_SRC, 30, 30⟩
def SD_FF_SRC_SOURCE : Fld := ⟨SD_FF_SRC, 3, 0⟩
def SD_FF_SEQ : Nat := 0x202C
def SD_FF_SEQ_SEQ : Fld := ⟨SD_FF_SEQ, 31, 0⟩
def SD_FF_TIME_LO : Nat := 0x2030
def SD_FF_TIME_LO_TIME : Fld := ⟨SD_FF_TIME_LO, 31, 0⟩
def SD_FF_TIME_HI : Nat := 0x2034
def SD_FF_TIME_HI_TIME : Fld := ⟨SD_FF_TIME_HI, 31, 0⟩
def DF_CFG (n : Nat) : Nat := 0x2100 + 0x40 * n
def DF_CFG_ORD (n : Nat) : Fld := ⟨DF_CFG n, 18, 16⟩
def DF_CFG_OSR (n : Nat) : Fld := ⟨DF_CFG n, 8, 0⟩
def CF_CFG (n : Nat) : Nat := 0x2104 + 0x40 * n
def CF_CFG_EN (n : Nat) : Fld := ⟨CF_CFG n, 23, 23⟩
def CF_CFG_DEBOUNCE (n : Nat) : Fld := ⟨CF_CFG n, 19, 16⟩
def CF_CFG_ORD (n : Nat) : Fld := ⟨CF_CFG n, 10, 8⟩
def CF_CFG_OSR (n : Nat) : Fld := ⟨CF_CFG n, 5, 0⟩
def DF_OFS (n : Nat) : Nat := 0x2108 + 0x40 * n
def DF_OFS_OFS (n : Nat) : Fld := ⟨DF_OFS n, 23, 0⟩
def DF_GAIN (n : Nat) : Nat := 0x210C + 0x40 * n
def DF_GAIN_GAIN (n : Nat) : Fld := ⟨DF_GAIN n, 23, 0⟩
def CF_LIM (n : Nat) : Nat := 0x2110 + 0x40 * n
def CF_LIM_HIGH (n : Nat) : Fld := ⟨CF_LIM n, 31, 16⟩
def CF_LIM_LOW (n : Nat) : Fld := ⟨CF_LIM n, 15, 0⟩
def DF_RES (n : Nat) : Nat := 0x2114 + 0x40 * n
def DF_RES_VALID (n : Nat) : Fld := ⟨DF_RES n, 31, 31⟩
def DF_RES_COUNT (n : Nat) : Fld := ⟨DF_RES n, 30, 24⟩
def DF_RES_RESULT (n : Nat) : Fld := ⟨DF_RES n, 15, 0⟩
def DF_TIME_LO (n : Nat) : Nat := 0x2118 + 0x40 * n
def DF_TIME_LO_TIME (n : Nat) : Fld := ⟨DF_TIME_LO n, 31, 0⟩
def DF_TIME_HI (n : Nat) : Nat := 0x211C + 0x40 * n
def DF_TIME_HI_TIME (n : Nat) : Fld := ⟨DF_TIME_HI n, 31, 0⟩
def DF_GDLY (n : Nat) : Nat := 0x2120 + 0x40 * n
def DF_GDLY_GDLY (n : Nat) : Fld := ⟨DF_GDLY n, 23, 0⟩
def CF_RES (n : Nat) : Nat := 0x2124 + 0x40 * n
def CF_RES_LOW_TRIP (n : Nat) : Fld := ⟨CF_RES n, 17, 17⟩
def CF_RES_HIGH_TRIP (n : Nat) : Fld := ⟨CF_RES n, 16, 16⟩
def CF_RES_VALUE (n : Nat) : Fld := ⟨CF_RES n, 15, 0⟩
def SD_LOSS_COUNT (n : Nat) : Nat := 0x2128 + 0x40 * n
def SD_LOSS_COUNT_COUNT (n : Nat) : Fld := ⟨SD_LOSS_COUNT n, 15, 0⟩

/-! ### XCHK (R142) -/

def XC_CFG : Nat := 0x3000
def XC_CFG_PRI_DLY : Fld := ⟨XC_CFG, 19, 8⟩
def XC_CFG_PRI_AGE : Fld := ⟨XC_CFG, 7, 4⟩
def XC_CFG_ZS_EN : Fld := ⟨XC_CFG, 3, 3⟩
def XC_CFG_XC_EN : Fld := ⟨XC_CFG, 2, 2⟩
def XC_CFG_PRI_KIND : Fld := ⟨XC_CFG, 1, 0⟩
def XC_MAP : Nat := 0x3004
def XC_MAP_DCL : Fld := ⟨XC_MAP, 28, 24⟩
def XC_MAP_PHk : Fld := ⟨XC_MAP, 23, 0⟩
def XC_LIM : Nat := 0x3008
def XC_LIM_ZS_LIM : Fld := ⟨XC_LIM, 31, 16⟩
def XC_LIM_CURR_LIM : Fld := ⟨XC_LIM, 15, 0⟩
def XC_CNT : Nat := 0x300C
def XC_CNT_ZS_CNT : Fld := ⟨XC_CNT, 15, 8⟩
def XC_CNT_CURR_CNT : Fld := ⟨XC_CNT, 7, 0⟩
def XC_STATUS : Nat := 0x3010
def XC_STATUS_SEC_OK : Fld := ⟨XC_STATUS, 6, 4⟩
def XC_STATUS_PRI_OK : Fld := ⟨XC_STATUS, 3, 1⟩
def XC_STATUS_ALIGNED : Fld := ⟨XC_STATUS, 0, 0⟩
def XC_LAG : Nat := 0x3014
def XC_LAG_LAG : Fld := ⟨XC_LAG, 15, 0⟩
def XC_DIFF0 : Nat := 0x3018
def XC_DIFF0_DIFF_V : Fld := ⟨XC_DIFF0, 31, 16⟩
def XC_DIFF0_DIFF_U : Fld := ⟨XC_DIFF0, 15, 0⟩
def XC_DIFF1 : Nat := 0x301C
def XC_DIFF1_ZSUM : Fld := ⟨XC_DIFF1, 31, 16⟩
def XC_DIFF1_DIFF_W : Fld := ⟨XC_DIFF1, 15, 0⟩
def DCL_CFG : Nat := 0x3020
def DCL_CFG_DCL_AGE : Fld := ⟨DCL_CFG, 31, 24⟩
def DCL_CFG_DCL_CNT : Fld := ⟨DCL_CFG, 23, 16⟩
def DCL_CFG_DCL_LIM : Fld := ⟨DCL_CFG, 15, 0⟩
def DCL_ALT : Nat := 0x3024
def DCL_ALT_VALID : Fld := ⟨DCL_ALT, 31, 31⟩
def DCL_ALT_LEG : Fld := ⟨DCL_ALT, 30, 29⟩
def DCL_ALT_VALUE : Fld := ⟨DCL_ALT, 15, 0⟩
def POS_CFG : Nat := 0x3028
def POS_CFG_OFS : Fld := ⟨POS_CFG, 31, 16⟩
def POS_CFG_PP_SENS : Fld := ⟨POS_CFG, 11, 8⟩
def POS_CFG_PP_MACH : Fld := ⟨POS_CFG, 7, 3⟩
def POS_CFG_DIR : Fld := ⟨POS_CFG, 2, 2⟩
def POS_CFG_SRC : Fld := ⟨POS_CFG, 1, 0⟩
def RES_EXC : Nat := 0x302C
def RES_EXC_EN : Fld := ⟨RES_EXC, 31, 31⟩
def RES_EXC_AMP : Fld := ⟨RES_EXC, 23, 16⟩
def RES_EXC_PER : Fld := ⟨RES_EXC, 15, 0⟩
def RES_CFG : Nat := 0x3030
def RES_CFG_EVT_PH : Fld := ⟨RES_CFG, 31, 16⟩
def RES_CFG_BOTH : Fld := ⟨RES_CFG, 15, 15⟩
def RES_CFG_TRK_BW : Fld := ⟨RES_CFG, 14, 12⟩
def RES_CFG_TRK_LIM : Fld := ⟨RES_CFG, 11, 8⟩
def RES_CFG_COS_IN : Fld := ⟨RES_CFG, 7, 4⟩
def RES_CFG_SIN_IN : Fld := ⟨RES_CFG, 3, 0⟩
def RES_LIM : Nat := 0x3034
def RES_LIM_AMP_HI : Fld := ⟨RES_LIM, 31, 16⟩
def RES_LIM_AMP_LO : Fld := ⟨RES_LIM, 15, 0⟩
def ENC_CFG : Nat := 0x3038
def ENC_CFG_LINES : Fld := ⟨ENC_CFG, 31, 16⟩
def ENC_CFG_FILT : Fld := ⟨ENC_CFG, 15, 8⟩
def ENC_CFG_IDX_TOL : Fld := ⟨ENC_CFG, 7, 4⟩
def ENC_CFG_IDX_EN : Fld := ⟨ENC_CFG, 3, 3⟩
def ENC_CFG_SPD : Fld := ⟨ENC_CFG, 2, 0⟩
def ENC_COUNT : Nat := 0x303C
def ENC_COUNT_IDX_SEEN : Fld := ⟨ENC_COUNT, 31, 31⟩
def ENC_COUNT_COUNT : Fld := ⟨ENC_COUNT, 17, 0⟩
def POS_ANGLE : Nat := 0x3040
def POS_ANGLE_VALID : Fld := ⟨POS_ANGLE, 31, 31⟩
def POS_ANGLE_ABS : Fld := ⟨POS_ANGLE, 30, 30⟩
def POS_ANGLE_ANGLE : Fld := ⟨POS_ANGLE, 15, 0⟩
def POS_SPEED : Nat := 0x3044
def POS_SPEED_SPEED : Fld := ⟨POS_SPEED, 31, 0⟩
def XC_IRQ_STATUS : Nat := 0x3048
def XC_IRQ_STATUS_SRC : Fld := ⟨XC_IRQ_STATUS, 1, 1⟩
def XC_IRQ_STATUS_INDEX : Fld := ⟨XC_IRQ_STATUS, 0, 0⟩
def XC_IRQ_EN : Nat := 0x304C
def XC_IRQ_EN_SRC : Fld := ⟨XC_IRQ_EN, 1, 1⟩
def XC_IRQ_EN_INDEX : Fld := ⟨XC_IRQ_EN, 0, 0⟩
def XC_SRC_STATUS : Nat := 0x3050
def XC_SRC_STATUS_ACTIVE : Fld := ⟨XC_SRC_STATUS, 29, 16⟩
def XC_SRC_STATUS_LATCHED : Fld := ⟨XC_SRC_STATUS, 13, 0⟩
def XC_SEV0 : Nat := 0x3054
def XC_SEV0_SEVb : Fld := ⟨XC_SEV0, 29, 0⟩
def XC_SEV1 : Nat := 0x3058
def XC_SEV1_SEVb : Fld := ⟨XC_SEV1, 11, 0⟩
def XC_FF_SRC : Nat := 0x305C
def XC_FF_SRC_VALID : Fld := ⟨XC_FF_SRC, 31, 31⟩
def XC_FF_SRC_OVF : Fld := ⟨XC_FF_SRC, 30, 30⟩
def XC_FF_SRC_SOURCE : Fld := ⟨XC_FF_SRC, 3, 0⟩
def XC_FF_SEQ : Nat := 0x3060
def XC_FF_SEQ_SEQ : Fld := ⟨XC_FF_SEQ, 31, 0⟩
def XC_FF_TIME_LO : Nat := 0x3064
def XC_FF_TIME_LO_TIME : Fld := ⟨XC_FF_TIME_LO, 31, 0⟩
def XC_FF_TIME_HI : Nat := 0x3068
def XC_FF_TIME_HI_TIME : Fld := ⟨XC_FF_TIME_HI, 31, 0⟩

/-! ### DTC (R169) -/

def DTC_CTL : Nat := 0x4000
def DTC_CTL_MACH_TYPE : Fld := ⟨DTC_CTL, 5, 4⟩
def DTC_CTL_SIX_EN : Fld := ⟨DTC_CTL, 3, 3⟩
def DTC_CTL_PRED_EN : Fld := ⟨DTC_CTL, 2, 2⟩
def DTC_CTL_SECT12 : Fld := ⟨DTC_CTL, 1, 1⟩
def DTC_CTL_EN : Fld := ⟨DTC_CTL, 0, 0⟩
def DTC_PERIOD : Nat := 0x4004
def DTC_PERIOD_COUNT : Fld := ⟨DTC_PERIOD, 11, 0⟩
def DTC_RD_OFS : Nat := 0x4008
def DTC_RD_OFS_OFS : Fld := ⟨DTC_RD_OFS, 11, 0⟩
def DWELL_MIN : Nat := 0x400C
def DWELL_MIN_COUNT : Fld := ⟨DWELL_MIN, 12, 0⟩
def DEAD_TU : Nat := 0x4010
def DEAD_TU_STEPS : Fld := ⟨DEAD_TU, 13, 0⟩
def DEAD_TV : Nat := 0x4014
def DEAD_TV_STEPS : Fld := ⟨DEAD_TV, 13, 0⟩
def DEAD_TW : Nat := 0x4018
def DEAD_TW_STEPS : Fld := ⟨DEAD_TW, 13, 0⟩
def EDGE_ADJ : Nat := 0x401C
def EDGE_ADJ_ADV_W : Fld := ⟨EDGE_ADJ, 23, 16⟩
def EDGE_ADJ_ADV_V : Fld := ⟨EDGE_ADJ, 15, 8⟩
def EDGE_ADJ_ADV_U : Fld := ⟨EDGE_ADJ, 7, 0⟩
def FLUX_CFG : Nat := 0x4020
def FLUX_CFG_HB : Fld := ⟨FLUX_CFG, 31, 16⟩
def FLUX_CFG_NOM : Fld := ⟨FLUX_CFG, 15, 0⟩
def TQ_CFG : Nat := 0x4024
def TQ_CFG_K_T : Fld := ⟨TQ_CFG, 31, 16⟩
def TQ_CFG_HB : Fld := ⟨TQ_CFG, 15, 0⟩
def FLUX_KV : Nat := 0x4028
def FLUX_KV_KV : Fld := ⟨FLUX_KV, 31, 0⟩
def MODEL_RS : Nat := 0x402C
def MODEL_RS_RS : Fld := ⟨MODEL_RS, 15, 0⟩
def MODEL_DROP : Nat := 0x4030
def MODEL_DROP_R_ON : Fld := ⟨MODEL_DROP, 31, 16⟩
def MODEL_DROP_V_ON0 : Fld := ⟨MODEL_DROP, 15, 0⟩
def MODEL_L : Nat := 0x4034
def MODEL_L_L1 : Fld := ⟨MODEL_L, 31, 16⟩
def MODEL_L_L0 : Fld := ⟨MODEL_L, 15, 0⟩
def MODEL_X : Nat := 0x4038
def MODEL_X_X : Fld := ⟨MODEL_X, 15, 0⟩
def MODEL_TR : Nat := 0x403C
def MODEL_TR_KTR : Fld := ⟨MODEL_TR, 23, 0⟩
def BLEND_K0 : Nat := 0x4040
def BLEND_K0_K0 : Fld := ⟨BLEND_K0, 15, 0⟩
def BLEND_W : Nat := 0x4044
def BLEND_W_W : Fld := ⟨BLEND_W, 31, 0⟩
def FW_K : Nat := 0x4048
def FW_K_K : Fld := ⟨FW_K, 31, 0⟩
def SIX_W : Nat := 0x404C
def SIX_W_W : Fld := ⟨SIX_W, 31, 0⟩
def SIX_CFG : Nat := 0x4050
def SIX_CFG_ADV_LIM : Fld := ⟨SIX_CFG, 31, 16⟩
def SIX_CFG_KI : Fld := ⟨SIX_CFG, 15, 0⟩
def GOV_CFG : Nat := 0x4054
def GOV_CFG_EN : Fld := ⟨GOV_CFG, 31, 31⟩
def GOV_CFG_N : Fld := ⟨GOV_CFG, 27, 16⟩
def GOV_CFG_TGT : Fld := ⟨GOV_CFG, 15, 0⟩
def GOV_KI : Nat := 0x4058
def GOV_KI_KI : Fld := ⟨GOV_KI, 15, 0⟩
def SL_K : Nat := 0x405C
def SL_K_K : Fld := ⟨SL_K, 15, 0⟩
def TQ_REF : Nat := 0x4060
def TQ_REF_REF : Fld := ⟨TQ_REF, 15, 0⟩
def TQ_SEQ : Nat := 0x4064
def TQ_SEQ_SEQ : Fld := ⟨TQ_SEQ, 31, 0⟩
def SPD_LIM : Nat := 0x4068
def SPD_LIM_W : Fld := ⟨SPD_LIM, 31, 0⟩
def DTC_STATUS : Nat := 0x406C
def DTC_STATUS_HELD : Fld := ⟨DTC_STATUS, 19, 17⟩
def DTC_STATUS_FORCED : Fld := ⟨DTC_STATUS, 16, 16⟩
def DTC_STATUS_FLUX_VALID : Fld := ⟨DTC_STATUS, 15, 15⟩
def DTC_STATUS_MAGNETISING : Fld := ⟨DTC_STATUS, 14, 14⟩
def DTC_STATUS_FW : Fld := ⟨DTC_STATUS, 13, 13⟩
def DTC_STATUS_SIX : Fld := ⟨DTC_STATUS, 12, 12⟩
def DTC_STATUS_TS : Fld := ⟨DTC_STATUS, 11, 10⟩
def DTC_STATUS_FS : Fld := ⟨DTC_STATUS, 9, 9⟩
def DTC_STATUS_SECTOR : Fld := ⟨DTC_STATUS, 8, 4⟩
def DTC_STATUS_VEC : Fld := ⟨DTC_STATUS, 2, 0⟩
def EST_FLUX : Nat := 0x4070
def EST_FLUX_BETA : Fld := ⟨EST_FLUX, 31, 16⟩
def EST_FLUX_ALPHA : Fld := ⟨EST_FLUX, 15, 0⟩
def EST_TQ : Nat := 0x4074
def EST_TQ_TORQUE : Fld := ⟨EST_TQ, 31, 16⟩
def EST_TQ_MAG : Fld := ⟨EST_TQ, 15, 0⟩
def REF_ACT : Nat := 0x4078
def REF_ACT_T_EFF : Fld := ⟨REF_ACT, 31, 16⟩
def REF_ACT_PSI_REF : Fld := ⟨REF_ACT, 15, 0⟩
def GOV_STATUS : Nat := 0x407C
def GOV_STATUS_FSW_MAX : Fld := ⟨GOV_STATUS, 31, 16⟩
def GOV_STATUS_SCALE : Fld := ⟨GOV_STATUS, 15, 0⟩
def FSW_UV : Nat := 0x4080
def FSW_UV_V : Fld := ⟨FSW_UV, 31, 16⟩
def FSW_UV_U : Fld := ⟨FSW_UV, 15, 0⟩
def FSW_W : Nat := 0x4084
def FSW_W_W : Fld := ⟨FSW_W, 15, 0⟩
def DWELL_COUNT : Nat := 0x4088
def DWELL_COUNT_ECC_CORR : Fld := ⟨DWELL_COUNT, 31, 24⟩
def DWELL_COUNT_HOLDS : Fld := ⟨DWELL_COUNT, 23, 0⟩
def DTC_IRQ_STATUS : Nat := 0x408C
def DTC_IRQ_STATUS_SRC : Fld := ⟨DTC_IRQ_STATUS, 1, 1⟩
def DTC_IRQ_STATUS_SIX_CHANGE : Fld := ⟨DTC_IRQ_STATUS, 0, 0⟩
def DTC_IRQ_EN : Nat := 0x4090
def DTC_IRQ_EN_SRC : Fld := ⟨DTC_IRQ_EN, 1, 1⟩
def DTC_IRQ_EN_SIX_CHANGE : Fld := ⟨DTC_IRQ_EN, 0, 0⟩
def DTC_SRC_STATUS : Nat := 0x4094
def DTC_SRC_STATUS_ACTIVE : Fld := ⟨DTC_SRC_STATUS, 20, 16⟩
def DTC_SRC_STATUS_LATCHED : Fld := ⟨DTC_SRC_STATUS, 4, 0⟩
def DTC_SEV : Nat := 0x4098
def DTC_SEV_SEVb : Fld := ⟨DTC_SEV, 14, 0⟩
def DTC_FF_SRC : Nat := 0x409C
def DTC_FF_SRC_VALID : Fld := ⟨DTC_FF_SRC, 31, 31⟩
def DTC_FF_SRC_OVF : Fld := ⟨DTC_FF_SRC, 30, 30⟩
def DTC_FF_SRC_SOURCE : Fld := ⟨DTC_FF_SRC, 2, 0⟩
def DTC_FF_SEQ : Nat := 0x40A0
def DTC_FF_SEQ_SEQ : Fld := ⟨DTC_FF_SEQ, 31, 0⟩
def DTC_FF_TIME_LO : Nat := 0x40A4
def DTC_FF_TIME_LO_TIME : Fld := ⟨DTC_FF_TIME_LO, 31, 0⟩
def DTC_FF_TIME_HI : Nat := 0x40A8
def DTC_FF_TIME_HI_TIME : Fld := ⟨DTC_FF_TIME_HI, 31, 0⟩
def GOV_LIM : Nat := 0x40B0
def GOV_LIM_MAX : Fld := ⟨GOV_LIM, 31, 16⟩
def GOV_LIM_MIN : Fld := ⟨GOV_LIM, 15, 0⟩
def STENCIL_SH (n : Nat) : Nat := 0x4800 + 0x4 * n
def STENCIL_SH_ZPREF (n : Nat) : Fld := ⟨STENCIL_SH n, 5, 4⟩
def STENCIL_SH_VEC (n : Nat) : Fld := ⟨STENCIL_SH n, 2, 0⟩
def STENCIL_ACT (n : Nat) : Nat := 0x4A00 + 0x4 * n
def STENCIL_ACT_ZPREF (n : Nat) : Fld := ⟨STENCIL_ACT n, 5, 4⟩
def STENCIL_ACT_VEC (n : Nat) : Fld := ⟨STENCIL_ACT n, 2, 0⟩

/-! ### MASK (R185) -/

def MASK_CTL : Nat := 0x5000
def MASK_CTL_BOOT_EN : Fld := ⟨MASK_CTL, 1, 1⟩
def MASK_CTL_WIN_EN : Fld := ⟨MASK_CTL, 0, 0⟩
def MASK_WIN : Nat := 0x5004
def MASK_WIN_WIDTH : Fld := ⟨MASK_WIN, 31, 16⟩
def MASK_WIN_N : Fld := ⟨MASK_WIN, 7, 0⟩
def MASK_TRIG : Nat := 0x5008
def MASK_TRIG_TRIG_DLY : Fld := ⟨MASK_TRIG, 9, 0⟩
def MASK_BOOT : Nat := 0x500C
def MASK_BOOT_REFRESH_W : Fld := ⟨MASK_BOOT, 31, 16⟩
def MASK_BOOT_TON_MAX : Fld := ⟨MASK_BOOT, 15, 0⟩
def MASK_KLIN : Nat := 0x5010
def MASK_KLIN_K : Fld := ⟨MASK_KLIN, 31, 0⟩
def MASK_STATUS : Nat := 0x5014
def MASK_STATUS_DEPTH : Fld := ⟨MASK_STATUS, 31, 16⟩
def MASK_STATUS_WIN_OPEN : Fld := ⟨MASK_STATUS, 15, 15⟩
def MASK_STATUS_REFRESH : Fld := ⟨MASK_STATUS, 14, 14⟩
def MASK_STATUS_LEAD : Fld := ⟨MASK_STATUS, 12, 8⟩
def MASK_STATUS_PW : Fld := ⟨MASK_STATUS, 7, 0⟩
def MASK_COUNT : Nat := 0x5018
def MASK_COUNT_REFRESH : Fld := ⟨MASK_COUNT, 31, 16⟩
def MASK_COUNT_WIN : Fld := ⟨MASK_COUNT, 15, 0⟩
def MASK_OPEN_TIME_LO : Nat := 0x501C
def MASK_OPEN_TIME_LO_TIME : Fld := ⟨MASK_OPEN_TIME_LO, 31, 0⟩
def MASK_OPEN_TIME_HI : Nat := 0x5020
def MASK_OPEN_TIME_HI_TIME : Fld := ⟨MASK_OPEN_TIME_HI, 31, 0⟩
def MASK_IRQ_STATUS : Nat := 0x5024
def MASK_IRQ_STATUS_SRC : Fld := ⟨MASK_IRQ_STATUS, 1, 1⟩
def MASK_IRQ_STATUS_WIN_OPENED : Fld := ⟨MASK_IRQ_STATUS, 0, 0⟩
def MASK_IRQ_EN : Nat := 0x5028
def MASK_IRQ_EN_SRC : Fld := ⟨MASK_IRQ_EN, 1, 1⟩
def MASK_IRQ_EN_WIN_OPENED : Fld := ⟨MASK_IRQ_EN, 0, 0⟩
def MASK_SRC_STATUS : Nat := 0x502C
def MASK_SRC_STATUS_BOOT_LEGS : Fld := ⟨MASK_SRC_STATUS, 26, 24⟩
def MASK_SRC_STATUS_ACTIVE : Fld := ⟨MASK_SRC_STATUS, 18, 16⟩
def MASK_SRC_STATUS_LATCHED : Fld := ⟨MASK_SRC_STATUS, 2, 0⟩
def MASK_SEV : Nat := 0x5030
def MASK_SEV_SEVb : Fld := ⟨MASK_SEV, 8, 0⟩
def MASK_FF_SRC : Nat := 0x5034
def MASK_FF_SRC_VALID : Fld := ⟨MASK_FF_SRC, 31, 31⟩
def MASK_FF_SRC_OVF : Fld := ⟨MASK_FF_SRC, 30, 30⟩
def MASK_FF_SRC_SOURCE : Fld := ⟨MASK_FF_SRC, 1, 0⟩
def MASK_FF_SEQ : Nat := 0x5038
def MASK_FF_SEQ_SEQ : Fld := ⟨MASK_FF_SEQ, 31, 0⟩
def MASK_FF_TIME_LO : Nat := 0x503C
def MASK_FF_TIME_LO_TIME : Fld := ⟨MASK_FF_TIME_LO, 31, 0⟩
def MASK_FF_TIME_HI : Nat := 0x5040
def MASK_FF_TIME_HI_TIME : Fld := ⟨MASK_FF_TIME_HI, 31, 0⟩

/-! ### OBS (R202) -/

def OBS_CFG : Nat := 0x6000
def OBS_CFG_CHK_CNT : Fld := ⟨OBS_CFG, 31, 24⟩
def OBS_CFG_REACQ_CNT : Fld := ⟨OBS_CFG, 23, 16⟩
def OBS_CFG_BW : Fld := ⟨OBS_CFG, 11, 8⟩
def OBS_CFG_STEP_SPAN : Fld := ⟨OBS_CFG, 7, 4⟩
def OBS_CFG_EN : Fld := ⟨OBS_CFG, 0, 0⟩
def OBS_SL_W : Nat := 0x6004
def OBS_SL_W_W : Fld := ⟨OBS_SL_W, 31, 0⟩
def OBS_LIM0 : Nat := 0x6008
def OBS_LIM0_RES_LIM : Fld := ⟨OBS_LIM0, 31, 16⟩
def OBS_LIM0_FLUX_TOL : Fld := ⟨OBS_LIM0, 15, 0⟩
def OBS_LIM1 : Nat := 0x600C
def OBS_LIM1_ANG_LIM : Fld := ⟨OBS_LIM1, 15, 0⟩
def OBS_STEP_LIM : Nat := 0x6010
def OBS_STEP_LIM_W : Fld := ⟨OBS_STEP_LIM, 31, 0⟩
def OBS_DIS_W : Nat := 0x6014
def OBS_DIS_W_W : Fld := ⟨OBS_DIS_W, 31, 0⟩
def OBS_CMD : Nat := 0x6018
def OBS_CMD_RELEASE : Fld := ⟨OBS_CMD, 0, 0⟩
def OBS_ANGLE : Nat := 0x601C
def OBS_ANGLE_SENSORLESS : Fld := ⟨OBS_ANGLE, 30, 30⟩
def OBS_ANGLE_ANGLE : Fld := ⟨OBS_ANGLE, 15, 0⟩
def OBS_SPEED : Nat := 0x6020
def OBS_SPEED_W : Fld := ⟨OBS_SPEED, 31, 0⟩
def OBS_RFLUX : Nat := 0x6024
def OBS_RFLUX_EXP : Fld := ⟨OBS_RFLUX, 31, 16⟩
def OBS_RFLUX_MAG : Fld := ⟨OBS_RFLUX, 15, 0⟩
def OBS_RESID : Nat := 0x6028
def OBS_RESID_E : Fld := ⟨OBS_RESID, 15, 0⟩
def TRUST_SPD : Nat := 0x602C
def TRUST_SPD_W : Fld := ⟨TRUST_SPD, 31, 0⟩
def TRUST_STATUS : Nat := 0x6030
def TRUST_STATUS_REACQ_N : Fld := ⟨TRUST_STATUS, 15, 8⟩
def TRUST_STATUS_REL_REFUSED : Fld := ⟨TRUST_STATUS, 4, 4⟩
def TRUST_STATUS_REACQ : Fld := ⟨TRUST_STATUS, 3, 3⟩
def TRUST_STATUS_FROZEN : Fld := ⟨TRUST_STATUS, 2, 2⟩
def TRUST_STATUS_SRC : Fld := ⟨TRUST_STATUS, 1, 0⟩
def PLAUS_TIME_LO : Nat := 0x6034
def PLAUS_TIME_LO_TIME : Fld := ⟨PLAUS_TIME_LO, 31, 0⟩
def PLAUS_TIME_HI : Nat := 0x6038
def PLAUS_TIME_HI_TIME : Fld := ⟨PLAUS_TIME_HI, 31, 0⟩
def TW_CFG : Nat := 0x603C
def TW_CFG_EN : Fld := ⟨TW_CFG, 31, 31⟩
def TW_CFG_HIST : Fld := ⟨TW_CFG, 15, 8⟩
def TW_CFG_CNT : Fld := ⟨TW_CFG, 7, 0⟩
def TW_LIM : Nat := 0x6040
def TW_LIM_ABS : Fld := ⟨TW_LIM, 31, 16⟩
def TW_LIM_MARGIN : Fld := ⟨TW_LIM, 15, 0⟩
def TW_BOUNDS : Nat := 0x6044
def TW_BOUNDS_HI : Fld := ⟨TW_BOUNDS, 31, 16⟩
def TW_BOUNDS_LO : Fld := ⟨TW_BOUNDS, 15, 0⟩
def TM_CFG : Nat := 0x6048
def TM_CFG_EN : Fld := ⟨TM_CFG, 31, 31⟩
def TM_CFG_CM_EN : Fld := ⟨TM_CFG, 30, 30⟩
def TM_CFG_PB_EN : Fld := ⟨TM_CFG, 29, 29⟩
def TM_CFG_MACH : Fld := ⟨TM_CFG, 28, 28⟩
def TM_CFG_DEBOUNCE : Fld := ⟨TM_CFG, 15, 8⟩
def TM_KT : Nat := 0x604C
def TM_KT_K : Fld := ⟨TM_KT, 31, 0⟩
def TM_KP : Nat := 0x6050
def TM_KP_K : Fld := ⟨TM_KP, 31, 0⟩
def TM_LD : Nat := 0x6054
def TM_LD_L : Fld := ⟨TM_LD, 31, 0⟩
def TM_LQ : Nat := 0x6058
def TM_LQ_L : Fld := ⟨TM_LQ, 31, 0⟩
def TM_PSI : Nat := 0x605C
def TM_PSI_PSI : Fld := ⟨TM_PSI, 31, 0⟩
def TM_RLOSS : Nat := 0x6060
def TM_RLOSS_R : Fld := ⟨TM_RLOSS, 31, 0⟩
def TM_P0 : Nat := 0x6064
def TM_P0_P : Fld := ⟨TM_P0, 31, 0⟩
def TM_PB_W : Nat := 0x6068
def TM_PB_W_W : Fld := ⟨TM_PB_W, 31, 0⟩
def TM_LIM_CM : Nat := 0x606C
def TM_LIM_CM_EST : Fld := ⟨TM_LIM_CM, 31, 16⟩
def TM_LIM_CM_CMD : Fld := ⟨TM_LIM_CM, 15, 0⟩
def TM_LIM_PB : Nat := 0x6070
def TM_LIM_PB_EST : Fld := ⟨TM_LIM_PB, 31, 16⟩
def TM_LIM_PB_CMD : Fld := ⟨TM_LIM_PB, 15, 0⟩
def TM_RES : Nat := 0x6074
def TM_RES_T_PB : Fld := ⟨TM_RES, 31, 16⟩
def TM_RES_T_CM : Fld := ⟨TM_RES, 15, 0⟩
def TM_STATUS : Nat := 0x6078
def TM_STATUS_CYCLES : Fld := ⟨TM_STATUS, 31, 16⟩
def TM_STATUS_CUR_PRI : Fld := ⟨TM_STATUS, 4, 4⟩
def TM_STATUS_ANG_OBS : Fld := ⟨TM_STATUS, 3, 3⟩
def TM_STATUS_PB_VALID : Fld := ⟨TM_STATUS, 2, 2⟩
def TM_STATUS_CM_VALID : Fld := ⟨TM_STATUS, 1, 1⟩
def TM_TIME_LO : Nat := 0x607C
def TM_TIME_LO_TIME : Fld := ⟨TM_TIME_LO, 31, 0⟩
def TM_TIME_HI : Nat := 0x6080
def TM_TIME_HI_TIME : Fld := ⟨TM_TIME_HI, 31, 0⟩
def OBS_IRQ_STATUS : Nat := 0x6084
def OBS_IRQ_STATUS_SRC : Fld := ⟨OBS_IRQ_STATUS, 1, 1⟩
def OBS_IRQ_STATUS_TRUST_CHANGE : Fld := ⟨OBS_IRQ_STATUS, 0, 0⟩
def OBS_IRQ_EN : Nat := 0x6088
def OBS_IRQ_EN_SRC : Fld := ⟨OBS_IRQ_EN, 1, 1⟩
def OBS_IRQ_EN_TRUST_CHANGE : Fld := ⟨OBS_IRQ_EN, 0, 0⟩
def OBS_SRC_STATUS : Nat := 0x608C
def OBS_SRC_STATUS_ACTIVE : Fld := ⟨OBS_SRC_STATUS, 26, 16⟩
def OBS_SRC_STATUS_LATCHED : Fld := ⟨OBS_SRC_STATUS, 10, 0⟩
def OBS_SEV0 : Nat := 0x6090
def OBS_SEV0_SEVb : Fld := ⟨OBS_SEV0, 29, 0⟩
def OBS_SEV1 : Nat := 0x6094
def OBS_SEV1_TM_LATE_SEV : Fld := ⟨OBS_SEV1, 2, 0⟩
def OBS_FF_SRC : Nat := 0x6098
def OBS_FF_SRC_VALID : Fld := ⟨OBS_FF_SRC, 31, 31⟩
def OBS_FF_SRC_OVF : Fld := ⟨OBS_FF_SRC, 30, 30⟩
def OBS_FF_SRC_SOURCE : Fld := ⟨OBS_FF_SRC, 3, 0⟩
def OBS_FF_SEQ : Nat := 0x609C
def OBS_FF_SEQ_SEQ : Fld := ⟨OBS_FF_SEQ, 31, 0⟩
def OBS_FF_TIME_LO : Nat := 0x60A0
def OBS_FF_TIME_LO_TIME : Fld := ⟨OBS_FF_TIME_LO, 31, 0⟩
def OBS_FF_TIME_HI : Nat := 0x60A4
def OBS_FF_TIME_HI_TIME : Fld := ⟨OBS_FF_TIME_HI, 31, 0⟩

/-! ### SLICE (R235) -/

def SL_CFG (n : Nat) : Nat := 0x7000 + 0x100 * n
def SL_CFG_TS_EN (n : Nat) : Fld := ⟨SL_CFG n, 2, 2⟩
def SL_CFG_BOOT (n : Nat) : Fld := ⟨SL_CFG n, 1, 1⟩
def SL_CFG_USED (n : Nat) : Fld := ⟨SL_CFG n, 0, 0⟩
def SL_SUPPLY (n : Nat) : Nat := 0x7004 + 0x100 * n
def SL_SUPPLY_VNEG (n : Nat) : Fld := ⟨SL_SUPPLY n, 21, 16⟩
def SL_SUPPLY_VPOS (n : Nat) : Fld := ⟨SL_SUPPLY n, 13, 8⟩
def SL_SUPPLY_UV_MARGIN (n : Nat) : Fld := ⟨SL_SUPPLY n, 4, 0⟩
def TS_CFG (n : Nat) : Nat := 0x7008 + 0x100 * n
def TS_CFG_LIM (n : Nat) : Fld := ⟨TS_CFG n, 15, 0⟩
def FTH_TGT (n : Nat) : Nat := 0x700C + 0x100 * n
def FTH_TGT_TGT_OFF (n : Nat) : Fld := ⟨FTH_TGT n, 25, 16⟩
def FTH_TGT_TGT_ON (n : Nat) : Fld := ⟨FTH_TGT n, 9, 0⟩
def FTH_SEG (n : Nat) : Nat := 0x7010 + 0x100 * n
def FTH_SEG_MAX_OFF (n : Nat) : Fld := ⟨FTH_SEG n, 31, 28⟩
def FTH_SEG_MIN_OFF (n : Nat) : Fld := ⟨FTH_SEG n, 27, 24⟩
def FTH_SEG_MAX_ON (n : Nat) : Fld := ⟨FTH_SEG n, 23, 20⟩
def FTH_SEG_MIN_ON (n : Nat) : Fld := ⟨FTH_SEG n, 19, 16⟩
def FTH_SEG_INIT_OFF (n : Nat) : Fld := ⟨FTH_SEG n, 7, 4⟩
def FTH_SEG_INIT_ON (n : Nat) : Fld := ⟨FTH_SEG n, 3, 0⟩
def FTH_LIM (n : Nat) : Nat := 0x7014 + 0x100 * n
def FTH_LIM_VMIN (n : Nat) : Fld := ⟨FTH_LIM n, 31, 16⟩
def FTH_LIM_FTH_EN (n : Nat) : Fld := ⟨FTH_LIM n, 8, 8⟩
def FTH_LIM_BAND (n : Nat) : Fld := ⟨FTH_LIM n, 7, 0⟩
def SL_STATUS (n : Nat) : Nat := 0x7018 + 0x100 * n
def SL_STATUS_READY (n : Nat) : Fld := ⟨SL_STATUS n, 31, 31⟩
def SL_STATUS_LINK_OK (n : Nat) : Fld := ⟨SL_STATUS n, 30, 30⟩
def SL_STATUS_LATCHED (n : Nat) : Fld := ⟨SL_STATUS n, 29, 29⟩
def SL_STATUS_GATE_ON (n : Nat) : Fld := ⟨SL_STATUS n, 28, 28⟩
def SL_STATUS_PULSE (n : Nat) : Fld := ⟨SL_STATUS n, 27, 27⟩
def SL_STATUS_EN (n : Nat) : Fld := ⟨SL_STATUS n, 26, 26⟩
def SL_STATUS_SEG_OFF (n : Nat) : Fld := ⟨SL_STATUS n, 23, 20⟩
def SL_STATUS_SEG_ON (n : Nat) : Fld := ⟨SL_STATUS n, 19, 16⟩
def SL_FAULT (n : Nat) : Nat := 0x701C + 0x100 * n
def SL_FAULT_TS_OT (n : Nat) : Fld := ⟨SL_FAULT n, 17, 17⟩
def SL_FAULT_OFF_SHORT (n : Nat) : Fld := ⟨SL_FAULT n, 16, 16⟩
def SL_FAULT_LATCH (n : Nat) : Fld := ⟨SL_FAULT n, 7, 0⟩
def FTH_ON (n : Nat) : Nat := 0x7020 + 0x100 * n
def FTH_ON_VALID (n : Nat) : Fld := ⟨FTH_ON n, 31, 31⟩
def FTH_ON_NO_TRANS (n : Nat) : Fld := ⟨FTH_ON n, 30, 30⟩
def FTH_ON_FROZEN (n : Nat) : Fld := ⟨FTH_ON n, 29, 29⟩
def FTH_ON_SEG (n : Nat) : Fld := ⟨FTH_ON n, 27, 24⟩
def FTH_ON_T_DLY (n : Nat) : Fld := ⟨FTH_ON n, 23, 12⟩
def FTH_ON_T_SW (n : Nat) : Fld := ⟨FTH_ON n, 11, 0⟩
def FTH_OFF (n : Nat) : Nat := 0x7024 + 0x100 * n
def FTH_OFF_VALID (n : Nat) : Fld := ⟨FTH_OFF n, 31, 31⟩
def FTH_OFF_NO_TRANS (n : Nat) : Fld := ⟨FTH_OFF n, 30, 30⟩
def FTH_OFF_FROZEN (n : Nat) : Fld := ⟨FTH_OFF n, 29, 29⟩
def FTH_OFF_SEG (n : Nat) : Fld := ⟨FTH_OFF n, 27, 24⟩
def FTH_OFF_T_DLY (n : Nat) : Fld := ⟨FTH_OFF n, 23, 12⟩
def FTH_OFF_T_SW (n : Nat) : Fld := ⟨FTH_OFF n, 11, 0⟩
def FTH_STAT (n : Nat) : Nat := 0x7028 + 0x100 * n
def FTH_STAT_FROZEN (n : Nat) : Fld := ⟨FTH_STAT n, 31, 16⟩
def FTH_STAT_LIM_OFF (n : Nat) : Fld := ⟨FTH_STAT n, 15, 8⟩
def FTH_STAT_LIM_ON (n : Nat) : Fld := ⟨FTH_STAT n, 7, 0⟩
def SUP_MEAS (n : Nat) : Nat := 0x702C + 0x100 * n
def SUP_MEAS_VNEG (n : Nat) : Fld := ⟨SUP_MEAS n, 31, 16⟩
def SUP_MEAS_VPOS (n : Nat) : Fld := ⟨SUP_MEAS n, 15, 0⟩
def TEMP_MEAS (n : Nat) : Nat := 0x7030 + 0x100 * n
def TEMP_MEAS_TS (n : Nat) : Fld := ⟨TEMP_MEAS n, 31, 16⟩
def TEMP_MEAS_ISL_T (n : Nat) : Fld := ⟨TEMP_MEAS n, 15, 0⟩
def VDS_MEAS (n : Nat) : Nat := 0x7034 + 0x100 * n
def VDS_MEAS_VALID (n : Nat) : Fld := ⟨VDS_MEAS n, 31, 31⟩
def VDS_MEAS_VALUE (n : Nat) : Fld := ⟨VDS_MEAS n, 15, 0⟩
def LINK_STAT (n : Nat) : Nat := 0x7038 + 0x100 * n
def LINK_STAT_CRC_ERR (n : Nat) : Fld := ⟨LINK_STAT n, 31, 16⟩
def LINK_STAT_RETRY (n : Nat) : Fld := ⟨LINK_STAT n, 15, 8⟩
def LINK_STAT_LOSS (n : Nat) : Fld := ⟨LINK_STAT n, 7, 0⟩
def SL_CH_CTL : Nat := 0x7800
def SL_CH_CTL_PRIMER_REQ : Fld := ⟨SL_CH_CTL, 2, 2⟩
def SL_CH_CTL_EXT_MOD : Fld := ⟨SL_CH_CTL, 0, 0⟩
def EN_STATUS : Nat := 0x7804
def EN_STATUS_EXT_ACTIVE : Fld := ⟨EN_STATUS, 12, 12⟩
def EN_STATUS_PULSE : Fld := ⟨EN_STATUS, 11, 8⟩
def EN_STATUS_EN_INT : Fld := ⟨EN_STATUS, 7, 4⟩
def EN_STATUS_EN_PIN : Fld := ⟨EN_STATUS, 3, 0⟩
def PRIMER_CFG : Nat := 0x7808
def PRIMER_CFG_ITEST : Fld := ⟨PRIMER_CFG, 8, 8⟩
def PRIMER_CFG_SETTLE : Fld := ⟨PRIMER_CFG, 3, 0⟩
def PRIMER_RES : Nat := 0x780C
def PRIMER_RES_DONE : Fld := ⟨PRIMER_RES, 31, 31⟩
def PRIMER_RES_RUNNING : Fld := ⟨PRIMER_RES, 30, 30⟩
def PRIMER_RES_NSET : Fld := ⟨PRIMER_RES, 29, 27⟩
def PRIMER_RES_RAIL_UNK : Fld := ⟨PRIMER_RES, 26, 24⟩
def PRIMER_RES_PRE_FAIL : Fld := ⟨PRIMER_RES, 23, 23⟩
def PRIMER_RES_CLASS : Fld := ⟨PRIMER_RES, 5, 0⟩
def PRIMER_VLH (n : Nat) : Nat := 0x7810 + 0x4 * n
def PRIMER_VLH_VH (n : Nat) : Fld := ⟨PRIMER_VLH n, 31, 16⟩
def PRIMER_VLH_VL (n : Nat) : Fld := ⟨PRIMER_VLH n, 15, 0⟩
def PRIMER_RATIO : Nat := 0x781C
def PRIMER_RATIO_RATIOk : Fld := ⟨PRIMER_RATIO, 23, 0⟩
def SL_IRQ_STATUS : Nat := 0x7820
def SL_IRQ_STATUS_SRC : Fld := ⟨SL_IRQ_STATUS, 2, 2⟩
def SL_IRQ_STATUS_PRIMER_DONE : Fld := ⟨SL_IRQ_STATUS, 1, 1⟩
def SL_IRQ_STATUS_READY_CHANGE : Fld := ⟨SL_IRQ_STATUS, 0, 0⟩
def SL_IRQ_EN : Nat := 0x7824
def SL_IRQ_EN_SRC : Fld := ⟨SL_IRQ_EN, 2, 2⟩
def SL_IRQ_EN_PRIMER_DONE : Fld := ⟨SL_IRQ_EN, 1, 1⟩
def SL_IRQ_EN_READY_CHANGE : Fld := ⟨SL_IRQ_EN, 0, 0⟩
def SL_SRC_STATUS : Nat := 0x7828
def SL_SRC_STATUS_ACTIVE : Fld := ⟨SL_SRC_STATUS, 28, 16⟩
def SL_SRC_STATUS_LATCHED : Fld := ⟨SL_SRC_STATUS, 12, 0⟩
def SL_SEV0 : Nat := 0x782C
def SL_SEV0_SEVb : Fld := ⟨SL_SEV0, 29, 0⟩
def SL_SEV1 : Nat := 0x7830
def SL_SEV1_SEVb : Fld := ⟨SL_SEV1, 8, 0⟩
def SL_FF_SRC : Nat := 0x7834
def SL_FF_SRC_VALID : Fld := ⟨SL_FF_SRC, 31, 31⟩
def SL_FF_SRC_OVF : Fld := ⟨SL_FF_SRC, 30, 30⟩
def SL_FF_SRC_SLICE : Fld := ⟨SL_FF_SRC, 10, 8⟩
def SL_FF_SRC_SOURCE : Fld := ⟨SL_FF_SRC, 3, 0⟩
def SL_FF_SEQ : Nat := 0x7838
def SL_FF_SEQ_SEQ : Fld := ⟨SL_FF_SEQ, 31, 0⟩
def SL_FF_TIME_LO : Nat := 0x783C
def SL_FF_TIME_LO_TIME : Fld := ⟨SL_FF_TIME_LO, 31, 0⟩
def SL_FF_TIME_HI : Nat := 0x7840
def SL_FF_TIME_HI_TIME : Fld := ⟨SL_FF_TIME_HI, 31, 0⟩

/-! ### PROT (R260) -/

def PROT_CTL : Nat := 0x8000
def PROT_CTL_AUTO : Fld := ⟨PROT_CTL, 5, 5⟩
def PROT_CTL_SELF : Fld := ⟨PROT_CTL, 4, 4⟩
def PROT_CTL_WD_EN : Fld := ⟨PROT_CTL, 3, 3⟩
def PROT_CTL_DCHG_EN : Fld := ⟨PROT_CTL, 2, 2⟩
def PROT_CTL_CLAMP_EN : Fld := ⟨PROT_CTL, 1, 1⟩
def PROT_CTL_CHOP_EN : Fld := ⟨PROT_CTL, 0, 0⟩
def DCL_LVL0 : Nat := 0x8004
def DCL_LVL0_OV2 : Fld := ⟨DCL_LVL0, 27, 16⟩
def DCL_LVL0_OVR : Fld := ⟨DCL_LVL0, 11, 0⟩
def DCL_LVL1 : Nat := 0x8008
def DCL_LVL1_OV1_ON : Fld := ⟨DCL_LVL1, 27, 16⟩
def DCL_LVL1_OV1_OFF : Fld := ⟨DCL_LVL1, 11, 0⟩
def DCL_LVL2 : Nat := 0x800C
def DCL_LVL2_FILT : Fld := ⟨DCL_LVL2, 31, 24⟩
def DCL_LVL2_HYST : Fld := ⟨DCL_LVL2, 23, 16⟩
def DCL_LVL2_UV : Fld := ⟨DCL_LVL2, 11, 0⟩
def DCL_STATUS : Nat := 0x8010
def DCL_STATUS_CMP : Fld := ⟨DCL_STATUS, 3, 0⟩
def CHOP_CFG : Nat := 0x8014
def CHOP_CFG_MIN_T : Fld := ⟨CHOP_CFG, 31, 24⟩
def CHOP_CFG_FALL_DV : Fld := ⟨CHOP_CFG, 23, 16⟩
def CHOP_CFG_PROVE_T : Fld := ⟨CHOP_CFG, 12, 8⟩
def CHOP_CFG_CON_LVL : Fld := ⟨CHOP_CFG, 7, 0⟩
def CHOP_STATUS : Nat := 0x8018
def CHOP_STATUS_PROVEN : Fld := ⟨CHOP_STATUS, 31, 16⟩
def CHOP_STATUS_CAUSE : Fld := ⟨CHOP_STATUS, 3, 2⟩
def CHOP_STATUS_FAILED : Fld := ⟨CHOP_STATUS, 1, 1⟩
def CHOP_STATUS_ON : Fld := ⟨CHOP_STATUS, 0, 0⟩
def PROT_REQ : Nat := 0x801C
def PROT_REQ_DCHG_CANCEL : Fld := ⟨PROT_REQ, 2, 2⟩
def PROT_REQ_DCHG_REQ : Fld := ⟨PROT_REQ, 1, 1⟩
def PROT_REQ_CHOP_TEST : Fld := ⟨PROT_REQ, 0, 0⟩
def DCHG_CFG0 : Nat := 0x8020
def DCHG_CFG0_RES : Fld := ⟨DCHG_CFG0, 31, 16⟩
def DCHG_CFG0_EMAX : Fld := ⟨DCHG_CFG0, 15, 0⟩
def DCHG_CFG1 : Nat := 0x8024
def DCHG_CFG1_TAU : Fld := ⟨DCHG_CFG1, 31, 16⟩
def DCHG_CFG1_DONE_LVL : Fld := ⟨DCHG_CFG1, 15, 0⟩
def DCHG_CFG2 : Nat := 0x8028
def DCHG_CFG2_DCHG_T : Fld := ⟨DCHG_CFG2, 27, 16⟩
def DCHG_CFG2_CHECK_T : Fld := ⟨DCHG_CFG2, 15, 8⟩
def DCHG_CFG2_CHECK_DROP : Fld := ⟨DCHG_CFG2, 7, 0⟩
def DCHG_STATUS : Nat := 0x802C
def DCHG_STATUS_E_ACC : Fld := ⟨DCHG_STATUS, 31, 16⟩
def DCHG_STATUS_AUTO_DLY : Fld := ⟨DCHG_STATUS, 15, 8⟩
def DCHG_STATUS_AUTO_SEEN : Fld := ⟨DCHG_STATUS, 4, 4⟩
def DCHG_STATUS_STATE : Fld := ⟨DCHG_STATUS, 2, 0⟩
def WD_SPD : Nat := 0x8030
def WD_SPD_W : Fld := ⟨WD_SPD, 31, 0⟩
def WD_CUR : Nat := 0x8034
def WD_CUR_BAND : Fld := ⟨WD_CUR, 31, 16⟩
def WD_CUR_I : Fld := ⟨WD_CUR, 15, 0⟩
def WD_TIME : Nat := 0x8038
def WD_TIME_T : Fld := ⟨WD_TIME, 15, 0⟩
def DCL_EXT_T : Nat := 0x803C
def DCL_EXT_T_T : Fld := ⟨DCL_EXT_T, 15, 0⟩
def SC_LVL (n : Nat) : Nat := 0x8040 + 0x8 * n
def SC_LVL_EN (n : Nat) : Fld := ⟨SC_LVL n, 31, 31⟩
def SC_LVL_BLANK (n : Nat) : Fld := ⟨SC_LVL n, 23, 16⟩
def SC_LVL_SC2 (n : Nat) : Fld := ⟨SC_LVL n, 15, 8⟩
def SC_LVL_SC1 (n : Nat) : Fld := ⟨SC_LVL n, 7, 0⟩
def SC_TLTO (n : Nat) : Nat := 0x8044 + 0x8 * n
def SC_TLTO_TLTO_EN (n : Nat) : Fld := ⟨SC_TLTO n, 31, 31⟩
def SC_TLTO_PLAT_T (n : Nat) : Fld := ⟨SC_TLTO n, 12, 8⟩
def SC_TLTO_PLAT (n : Nat) : Fld := ⟨SC_TLTO n, 4, 0⟩
def PROT_IRQ_STATUS : Nat := 0x8080
def PROT_IRQ_STATUS_SRC : Fld := ⟨PROT_IRQ_STATUS, 1, 1⟩
def PROT_IRQ_STATUS_DCHG_END : Fld := ⟨PROT_IRQ_STATUS, 0, 0⟩
def PROT_IRQ_EN : Nat := 0x8084
def PROT_IRQ_EN_SRC : Fld := ⟨PROT_IRQ_EN, 1, 1⟩
def PROT_IRQ_EN_DCHG_END : Fld := ⟨PROT_IRQ_EN, 0, 0⟩
def PROT_SRC_STATUS : Nat := 0x8088
def PROT_SRC_STATUS_ACTIVE : Fld := ⟨PROT_SRC_STATUS, 26, 16⟩
def PROT_SRC_STATUS_LATCHED : Fld := ⟨PROT_SRC_STATUS, 10, 0⟩
def PROT_SEV0 : Nat := 0x808C
def PROT_SEV0_SEVb : Fld := ⟨PROT_SEV0, 29, 0⟩
def PROT_SEV1 : Nat := 0x8090
def PROT_SEV1_WD_ABORT_SEV : Fld := ⟨PROT_SEV1, 2, 0⟩
def PROT_FF_SRC : Nat := 0x8094
def PROT_FF_SRC_VALID : Fld := ⟨PROT_FF_SRC, 31, 31⟩
def PROT_FF_SRC_OVF : Fld := ⟨PROT_FF_SRC, 30, 30⟩
def PROT_FF_SRC_SOURCE : Fld := ⟨PROT_FF_SRC, 3, 0⟩
def PROT_FF_SEQ : Nat := 0x8098
def PROT_FF_SEQ_SEQ : Fld := ⟨PROT_FF_SEQ, 31, 0⟩
def PROT_FF_TIME_LO : Nat := 0x809C
def PROT_FF_TIME_LO_TIME : Fld := ⟨PROT_FF_TIME_LO, 31, 0⟩
def PROT_FF_TIME_HI : Nat := 0x80A0
def PROT_FF_TIME_HI_TIME : Fld := ⟨PROT_FF_TIME_HI, 31, 0⟩

/-! ### DUST (R286) -/

def DUST_CTL : Nat := 0x9000
def DUST_CTL_HARD_MAX : Fld := ⟨DUST_CTL, 9, 8⟩
def DUST_CTL_NFAULT_HOLD : Fld := ⟨DUST_CTL, 4, 4⟩
def DUST_CTL_ASC_PREF : Fld := ⟨DUST_CTL, 0, 0⟩
def DUST_ASC_W : Nat := 0x9004
def DUST_ASC_W_W : Fld := ⟨DUST_ASC_W, 31, 0⟩
def DUST_ASC_HYST : Nat := 0x9008
def DUST_ASC_HYST_W : Fld := ⟨DUST_ASC_HYST, 31, 0⟩
def DUST_DEG : Nat := 0x900C
def DUST_DEG_LIM : Fld := ⟨DUST_DEG, 15, 0⟩
def DUST_LEG_CFG : Nat := 0x9010
def DUST_LEG_CFG_CNT : Fld := ⟨DUST_LEG_CFG, 7, 0⟩
def DUST_STATUS : Nat := 0x9014
def DUST_STATUS_MAX_SEV : Fld := ⟨DUST_STATUS, 30, 28⟩
def DUST_STATUS_HARD_N : Fld := ⟨DUST_STATUS, 23, 16⟩
def DUST_STATUS_S4_REQ : Fld := ⟨DUST_STATUS, 15, 15⟩
def DUST_STATUS_REEVAL : Fld := ⟨DUST_STATUS, 13, 13⟩
def DUST_STATUS_HOLD_KIND : Fld := ⟨DUST_STATUS, 12, 11⟩
def DUST_STATUS_SPD_HIGH : Fld := ⟨DUST_STATUS, 10, 10⟩
def DUST_STATUS_PARTIAL : Fld := ⟨DUST_STATUS, 9, 9⟩
def DUST_STATUS_PAIR_EN : Fld := ⟨DUST_STATUS, 5, 3⟩
def DUST_STATUS_SAFE : Fld := ⟨DUST_STATUS, 2, 0⟩
def LEG_HEALTH : Nat := 0x9018
def LEG_HEALTH_UNAV_L : Fld := ⟨LEG_HEALTH, 22, 20⟩
def LEG_HEALTH_UNAV_H : Fld := ⟨LEG_HEALTH, 18, 16⟩
def LEG_HEALTH_SRC_MON : Fld := ⟨LEG_HEALTH, 15, 13⟩
def LEG_HEALTH_SRC_OFFSHORT : Fld := ⟨LEG_HEALTH, 12, 10⟩
def LEG_HEALTH_SRC_PRIMER : Fld := ⟨LEG_HEALTH, 9, 7⟩
def LEG_HEALTH_FS_L : Fld := ⟨LEG_HEALTH, 5, 3⟩
def LEG_HEALTH_FS_H : Fld := ⟨LEG_HEALTH, 2, 0⟩
def DUST_REQ : Nat := 0x901C
def DUST_REQ_LEG_CLR : Fld := ⟨DUST_REQ, 0, 0⟩
def DUST_CAUSE : Nat := 0x9020
def DUST_CAUSE_VALID : Fld := ⟨DUST_CAUSE, 31, 31⟩
def DUST_CAUSE_OVF : Fld := ⟨DUST_CAUSE, 30, 30⟩
def DUST_CAUSE_SEV : Fld := ⟨DUST_CAUSE, 29, 27⟩
def DUST_CAUSE_KIND : Fld := ⟨DUST_CAUSE, 26, 24⟩
def DUST_CAUSE_BLOCK : Fld := ⟨DUST_CAUSE, 19, 16⟩
def DUST_CAUSE_SOURCE : Fld := ⟨DUST_CAUSE, 4, 0⟩
def DUST_CAUSE_SEQ : Nat := 0x9024
def DUST_CAUSE_SEQ_SEQ : Fld := ⟨DUST_CAUSE_SEQ, 31, 0⟩
def DUST_CAUSE_TIME_LO : Nat := 0x9028
def DUST_CAUSE_TIME_LO_TIME : Fld := ⟨DUST_CAUSE_TIME_LO, 31, 0⟩
def DUST_CAUSE_TIME_HI : Nat := 0x902C
def DUST_CAUSE_TIME_HI_TIME : Fld := ⟨DUST_CAUSE_TIME_HI, 31, 0⟩
def DUST_SEL_COUNT : Nat := 0x9030
def DUST_SEL_COUNT_HARD : Fld := ⟨DUST_SEL_COUNT, 31, 16⟩
def DUST_SEL_COUNT_SEL : Fld := ⟨DUST_SEL_COUNT, 15, 0⟩
def DUST_IRQ_STATUS : Nat := 0x9034
def DUST_IRQ_STATUS_SRC : Fld := ⟨DUST_IRQ_STATUS, 3, 3⟩
def DUST_IRQ_STATUS_LEG_REFUSED : Fld := ⟨DUST_IRQ_STATUS, 2, 2⟩
def DUST_IRQ_STATUS_SAFE_CHANGE : Fld := ⟨DUST_IRQ_STATUS, 1, 1⟩
def DUST_IRQ_STATUS_LEG_CHANGE : Fld := ⟨DUST_IRQ_STATUS, 0, 0⟩
def DUST_IRQ_EN : Nat := 0x9038
def DUST_IRQ_EN_SRC : Fld := ⟨DUST_IRQ_EN, 3, 3⟩
def DUST_IRQ_EN_LEG_REFUSED : Fld := ⟨DUST_IRQ_EN, 2, 2⟩
def DUST_IRQ_EN_SAFE_CHANGE : Fld := ⟨DUST_IRQ_EN, 1, 1⟩
def DUST_IRQ_EN_LEG_CHANGE : Fld := ⟨DUST_IRQ_EN, 0, 0⟩
def DUST_SRC_STATUS : Nat := 0x903C
def DUST_SRC_STATUS_ACTIVE : Fld := ⟨DUST_SRC_STATUS, 22, 16⟩
def DUST_SRC_STATUS_LATCHED : Fld := ⟨DUST_SRC_STATUS, 6, 0⟩
def DUST_SEV : Nat := 0x9040
def DUST_SEV_SEVb : Fld := ⟨DUST_SEV, 20, 3⟩
def DUST_SEV_NO_SAFE_SEV : Fld := ⟨DUST_SEV, 2, 0⟩
def DUST_FF_SRC : Nat := 0x9044
def DUST_FF_SRC_VALID : Fld := ⟨DUST_FF_SRC, 31, 31⟩
def DUST_FF_SRC_OVF : Fld := ⟨DUST_FF_SRC, 30, 30⟩
def DUST_FF_SRC_SOURCE : Fld := ⟨DUST_FF_SRC, 2, 0⟩
def DUST_FF_SEQ : Nat := 0x9048
def DUST_FF_SEQ_SEQ : Fld := ⟨DUST_FF_SEQ, 31, 0⟩
def DUST_FF_TIME_LO : Nat := 0x904C
def DUST_FF_TIME_LO_TIME : Fld := ⟨DUST_FF_TIME_LO, 31, 0⟩
def DUST_FF_TIME_HI : Nat := 0x9050
def DUST_FF_TIME_HI_TIME : Fld := ⟨DUST_FF_TIME_HI, 31, 0⟩

/-! ### MSIO (R304) -/

def MSIO_CTL : Nat := 0xA000
def MSIO_CTL_CFB_POL : Fld := ⟨MSIO_CTL, 6, 4⟩
def MSIO_CTL_PRE_EN : Fld := ⟨MSIO_CTL, 2, 2⟩
def MSIO_CTL_AUX_MODE : Fld := ⟨MSIO_CTL, 1, 0⟩
def CONT_DEB : Nat := 0xA004
def CONT_DEB_DEB : Fld := ⟨CONT_DEB, 6, 0⟩
def PRE_CFG : Nat := 0xA008
def PRE_CFG_PCT : Fld := ⟨PRE_CFG, 31, 24⟩
def PRE_CFG_T : Fld := ⟨PRE_CFG, 12, 0⟩
def PRE_SRC : Nat := 0xA00C
def PRE_SRC_EN : Fld := ⟨PRE_SRC, 31, 31⟩
def PRE_SRC_CONV : Fld := ⟨PRE_SRC, 26, 24⟩
def PRE_SRC_INPUT : Fld := ⟨PRE_SRC, 23, 20⟩
def PRE_SRC_VNOM : Fld := ⟨PRE_SRC, 15, 0⟩
def GUARD_CFG : Nat := 0xA010
def GUARD_CFG_EN : Fld := ⟨GUARD_CFG, 31, 31⟩
def GUARD_CFG_DISC_T : Fld := ⟨GUARD_CFG, 24, 16⟩
def GUARD_CFG_FILT : Fld := ⟨GUARD_CFG, 5, 0⟩
def ACK_CFG : Nat := 0xA014
def ACK_CFG_DEB : Fld := ⟨ACK_CFG, 6, 0⟩
def MSIO_REQ : Nat := 0xA018
def MSIO_REQ_WELD_CLR : Fld := ⟨MSIO_REQ, 2, 2⟩
def MSIO_REQ_AUX_OFF : Fld := ⟨MSIO_REQ, 1, 1⟩
def MSIO_REQ_AUX_ON : Fld := ⟨MSIO_REQ, 0, 0⟩
def CONT_STATUS : Nat := 0xA01C
def CONT_STATUS_WELD : Fld := ⟨CONT_STATUS, 18, 16⟩
def CONT_STATUS_S4_OPEN : Fld := ⟨CONT_STATUS, 15, 15⟩
def CONT_STATUS_DISCREP : Fld := ⟨CONT_STATUS, 14, 12⟩
def CONT_STATUS_CFB : Fld := ⟨CONT_STATUS, 10, 8⟩
def CONT_STATUS_CMD : Fld := ⟨CONT_STATUS, 2, 0⟩
def GUARD_STATUS : Nat := 0xA020
def GUARD_STATUS_TEST_SEEN : Fld := ⟨GUARD_STATUS, 31, 31⟩
def GUARD_STATUS_OPEN_SEEN : Fld := ⟨GUARD_STATUS, 30, 30⟩
def GUARD_STATUS_STATE : Fld := ⟨GUARD_STATUS, 9, 8⟩
def GUARD_STATUS_G2 : Fld := ⟨GUARD_STATUS, 1, 1⟩
def GUARD_STATUS_G1 : Fld := ⟨GUARD_STATUS, 0, 0⟩
def ACK_STATUS : Nat := 0xA024
def ACK_STATUS_ACK_SEEN : Fld := ⟨ACK_STATUS, 31, 31⟩
def ACK_STATUS_JAMMED : Fld := ⟨ACK_STATUS, 30, 30⟩
def ACK_STATUS_PRESSED : Fld := ⟨ACK_STATUS, 29, 29⟩
def ACK_STATUS_PRESSES : Fld := ⟨ACK_STATUS, 15, 0⟩
def PRE_STATUS : Nat := 0xA028
def PRE_STATUS_VSRC : Fld := ⟨PRE_STATUS, 31, 16⟩
def PRE_STATUS_ELAPSED : Fld := ⟨PRE_STATUS, 15, 3⟩
def PRE_STATUS_PHASE : Fld := ⟨PRE_STATUS, 2, 0⟩
def MSIO_IRQ_STATUS : Nat := 0xA02C
def MSIO_IRQ_STATUS_SRC : Fld := ⟨MSIO_IRQ_STATUS, 2, 2⟩
def MSIO_IRQ_STATUS_WELD_REFUSED : Fld := ⟨MSIO_IRQ_STATUS, 1, 1⟩
def MSIO_IRQ_STATUS_GUARD_CHANGE : Fld := ⟨MSIO_IRQ_STATUS, 0, 0⟩
def MSIO_IRQ_EN : Nat := 0xA030
def MSIO_IRQ_EN_SRC : Fld := ⟨MSIO_IRQ_EN, 2, 2⟩
def MSIO_IRQ_EN_WELD_REFUSED : Fld := ⟨MSIO_IRQ_EN, 1, 1⟩
def MSIO_IRQ_EN_GUARD_CHANGE : Fld := ⟨MSIO_IRQ_EN, 0, 0⟩
def MSIO_SRC_STATUS : Nat := 0xA034
def MSIO_SRC_STATUS_ACTIVE : Fld := ⟨MSIO_SRC_STATUS, 22, 16⟩
def MSIO_SRC_STATUS_LATCHED : Fld := ⟨MSIO_SRC_STATUS, 6, 0⟩
def MSIO_SEV : Nat := 0xA038
def MSIO_SEV_SEVb : Fld := ⟨MSIO_SEV, 20, 0⟩
def MSIO_FF_SRC : Nat := 0xA03C
def MSIO_FF_SRC_VALID : Fld := ⟨MSIO_FF_SRC, 31, 31⟩
def MSIO_FF_SRC_OVF : Fld := ⟨MSIO_FF_SRC, 30, 30⟩
def MSIO_FF_SRC_SOURCE : Fld := ⟨MSIO_FF_SRC, 2, 0⟩
def MSIO_FF_SEQ : Nat := 0xA040
def MSIO_FF_SEQ_SEQ : Fld := ⟨MSIO_FF_SEQ, 31, 0⟩
def MSIO_FF_TIME_LO : Nat := 0xA044
def MSIO_FF_TIME_LO_TIME : Fld := ⟨MSIO_FF_TIME_LO, 31, 0⟩
def MSIO_FF_TIME_HI : Nat := 0xA048
def MSIO_FF_TIME_HI_TIME : Fld := ⟨MSIO_FF_TIME_HI, 31, 0⟩

/-! ### CORE (R327) -/

def CORE_STATUS : Nat := 0xB000
def CORE_STATUS_LOCKSTEP_BROKEN : Fld := ⟨CORE_STATUS, 31, 31⟩
def CORE_STATUS_HALTED : Fld := ⟨CORE_STATUS, 30, 30⟩
def CORE_STATUS_HELD : Fld := ⟨CORE_STATUS, 7, 7⟩
def CORE_STATUS_PLUMB_FAIL : Fld := ⟨CORE_STATUS, 3, 3⟩
def CORE_STATUS_PARITY_OUT : Fld := ⟨CORE_STATUS, 2, 2⟩
def CORE_STATUS_PARITY_IN : Fld := ⟨CORE_STATUS, 1, 1⟩
def CORE_STATUS_MISMATCH : Fld := ⟨CORE_STATUS, 0, 0⟩
def PLUMB_STAT : Nat := 0xB004
def PLUMB_STAT_PASSES : Fld := ⟨PLUMB_STAT, 31, 16⟩
def PLUMB_STAT_LANE : Fld := ⟨PLUMB_STAT, 5, 0⟩
def TCM_ECC_STAT : Nat := 0xB008
def TCM_ECC_STAT_CORR : Fld := ⟨TCM_ECC_STAT, 31, 24⟩
def TCM_ECC_STAT_WORD : Fld := ⟨TCM_ECC_STAT, 15, 0⟩
def SHADOW_STAT : Nat := 0xB00C
def SHADOW_STAT_VALID : Fld := ⟨SHADOW_STAT, 31, 31⟩
def SHADOW_STAT_BLOCK : Fld := ⟨SHADOW_STAT, 15, 12⟩
def SHADOW_STAT_OFFSET : Fld := ⟨SHADOW_STAT, 11, 0⟩
def CORE_IRQ_STATUS : Nat := 0xB010
def CORE_IRQ_STATUS_SRC : Fld := ⟨CORE_IRQ_STATUS, 8, 8⟩
def CORE_IRQ_STATUS_CVU : Fld := ⟨CORE_IRQ_STATUS, 7, 0⟩
def CORE_IRQ_EN : Nat := 0xB014
def CORE_IRQ_EN_SRC : Fld := ⟨CORE_IRQ_EN, 8, 8⟩
def CORE_IRQ_EN_CVU : Fld := ⟨CORE_IRQ_EN, 7, 0⟩
def CORE_SRC_STATUS : Nat := 0xB018
def CORE_SRC_STATUS_ACTIVE : Fld := ⟨CORE_SRC_STATUS, 21, 16⟩
def CORE_SRC_STATUS_LATCHED : Fld := ⟨CORE_SRC_STATUS, 5, 0⟩
def CORE_SEV : Nat := 0xB01C
def CORE_SEV_SEVb : Fld := ⟨CORE_SEV, 17, 0⟩
def CORE_FF_SRC : Nat := 0xB020
def CORE_FF_SRC_VALID : Fld := ⟨CORE_FF_SRC, 31, 31⟩
def CORE_FF_SRC_OVF : Fld := ⟨CORE_FF_SRC, 30, 30⟩
def CORE_FF_SRC_SOURCE : Fld := ⟨CORE_FF_SRC, 2, 0⟩
def CORE_FF_SEQ : Nat := 0xB024
def CORE_FF_SEQ_SEQ : Fld := ⟨CORE_FF_SEQ, 31, 0⟩
def CORE_FF_TIME_LO : Nat := 0xB028
def CORE_FF_TIME_LO_TIME : Fld := ⟨CORE_FF_TIME_LO, 31, 0⟩
def CORE_FF_TIME_HI : Nat := 0xB02C
def CORE_FF_TIME_HI_TIME : Fld := ⟨CORE_FF_TIME_HI, 31, 0⟩
def CVU_CTL (n : Nat) : Nat := 0xB100 + 0x20 * n
def CVU_CTL_WIDTH (n : Nat) : Fld := ⟨CVU_CTL n, 5, 4⟩
def CVU_CTL_POLY (n : Nat) : Fld := ⟨CVU_CTL n, 1, 0⟩
def CVU_DATA (n : Nat) : Nat := 0xB104 + 0x20 * n
def CVU_DATA_DATA (n : Nat) : Fld := ⟨CVU_DATA n, 31, 0⟩
def CVU_VAL (n : Nat) : Nat := 0xB108 + 0x20 * n
def CVU_VAL_VAL (n : Nat) : Fld := ⟨CVU_VAL n, 31, 0⟩
def CVU_RES (n : Nat) : Nat := 0xB10C + 0x20 * n
def CVU_RES_RES (n : Nat) : Fld := ⟨CVU_RES n, 31, 0⟩
def CVU_EXP (n : Nat) : Nat := 0xB110 + 0x20 * n
def CVU_EXP_EXP (n : Nat) : Fld := ⟨CVU_EXP n, 31, 0⟩
def CVU_REQ (n : Nat) : Nat := 0xB114 + 0x20 * n
def CVU_REQ_CHECK (n : Nat) : Fld := ⟨CVU_REQ n, 1, 1⟩
def CVU_REQ_INIT (n : Nat) : Fld := ⟨CVU_REQ n, 0, 0⟩
def CVU_STAT (n : Nat) : Nat := 0xB118 + 0x20 * n
def CVU_STAT_MATCH (n : Nat) : Fld := ⟨CVU_STAT n, 1, 1⟩
def CVU_STAT_MISMATCH (n : Nat) : Fld := ⟨CVU_STAT n, 0, 0⟩

/-! ### SKIM (R352) -/

def SKIM_CTL : Nat := 0xC000
def SKIM_CTL_EN : Fld := ⟨SKIM_CTL, 9, 0⟩
def SKIM_CFG : Nat := 0xC004
def SKIM_CFG_CYCLE : Fld := ⟨SKIM_CFG, 6, 0⟩
def SKIM_REQ : Nat := 0xC008
def SKIM_REQ_PASS : Fld := ⟨SKIM_REQ, 0, 0⟩
def SKIM_STATUS : Nat := 0xC00C
def SKIM_STATUS_CYCLES : Fld := ⟨SKIM_STATUS, 31, 16⟩
def SKIM_STATUS_BUSY : Fld := ⟨SKIM_STATUS, 15, 15⟩
def SKIM_STATUS_PASS_RUN : Fld := ⟨SKIM_STATUS, 14, 14⟩
def SKIM_STATUS_CLASS : Fld := ⟨SKIM_STATUS, 11, 8⟩
def SKIM_DONE : Nat := 0xC010
def SKIM_DONE_LAST : Fld := ⟨SKIM_DONE, 25, 16⟩
def SKIM_DONE_NOW : Fld := ⟨SKIM_DONE, 9, 0⟩
def SKIM_ABORTS : Nat := 0xC014
def SKIM_ABORTS_LAST_CLASS : Fld := ⟨SKIM_ABORTS, 31, 28⟩
def SKIM_ABORTS_COUNT : Fld := ⟨SKIM_ABORTS, 15, 0⟩
def SKIM_FAIL_INFO : Nat := 0xC018
def SKIM_FAIL_INFO_CLASS : Fld := ⟨SKIM_FAIL_INFO, 31, 28⟩
def SKIM_FAIL_INFO_INDEX : Fld := ⟨SKIM_FAIL_INFO, 27, 24⟩
def SKIM_FAIL_INFO_DETAIL : Fld := ⟨SKIM_FAIL_INFO, 15, 0⟩
def SCRUB_POS : Nat := 0xC01C
def SCRUB_POS_WORD : Fld := ⟨SCRUB_POS, 15, 0⟩
def SKIM_IRQ_STATUS : Nat := 0xC020
def SKIM_IRQ_STATUS_SRC : Fld := ⟨SKIM_IRQ_STATUS, 1, 1⟩
def SKIM_IRQ_STATUS_CYCLE_END : Fld := ⟨SKIM_IRQ_STATUS, 0, 0⟩
def SKIM_IRQ_EN : Nat := 0xC024
def SKIM_IRQ_EN_SRC : Fld := ⟨SKIM_IRQ_EN, 1, 1⟩
def SKIM_IRQ_EN_CYCLE_END : Fld := ⟨SKIM_IRQ_EN, 0, 0⟩
def SKIM_SRC_STATUS : Nat := 0xC028
def SKIM_SRC_STATUS_ACTIVE : Fld := ⟨SKIM_SRC_STATUS, 18, 16⟩
def SKIM_SRC_STATUS_LATCHED : Fld := ⟨SKIM_SRC_STATUS, 2, 0⟩
def SKIM_SEV : Nat := 0xC02C
def SKIM_SEV_SEVb : Fld := ⟨SKIM_SEV, 8, 0⟩
def SKIM_FF_SRC : Nat := 0xC030
def SKIM_FF_SRC_VALID : Fld := ⟨SKIM_FF_SRC, 31, 31⟩
def SKIM_FF_SRC_OVF : Fld := ⟨SKIM_FF_SRC, 30, 30⟩
def SKIM_FF_SRC_SOURCE : Fld := ⟨SKIM_FF_SRC, 1, 0⟩
def SKIM_FF_SEQ : Nat := 0xC034
def SKIM_FF_SEQ_SEQ : Fld := ⟨SKIM_FF_SEQ, 31, 0⟩
def SKIM_FF_TIME_LO : Nat := 0xC038
def SKIM_FF_TIME_LO_TIME : Fld := ⟨SKIM_FF_TIME_LO, 31, 0⟩
def SKIM_FF_TIME_HI : Nat := 0xC03C
def SKIM_FF_TIME_HI_TIME : Fld := ⟨SKIM_FF_TIME_HI, 31, 0⟩
def REGF_REF (n : Nat) : Nat := 0xC100 + 0x4 * n
def REGF_REF_CRC (n : Nat) : Fld := ⟨REGF_REF n, 31, 0⟩

end Sys2Proof.Machine
end

