-- ==== Sys2Proof/Machine/DevMap.lean ====
section
/-! DEFINITION. Machine/DevMap.lean: the register maps of the device blocks, one row a register (R523, R524):
offset of the first instance, stride and count of its windows, stride and count of its index, the parameter set its
RWC fields belong to, and its fields (msb, lsb, access code of R11, reset value). Bits that no field names are reserved (R10).
-/

namespace Sys2Proof.Machine

/-- The SYS map (R497 of spec/19_power_clocks_reset.md). -/
def mapSys : List RegDesc := [
  ⟨0x0,0x0,1,0x0,1,.none,[⟨31,16,.ro,0x2450⟩,⟨15,0,.ro,1⟩]⟩,  -- SYS_ID
  ⟨0x4,0x0,1,0x0,1,.none,[⟨31,31,.w1s,0⟩,⟨9,8,.rw,0⟩,⟨1,1,.rw,0⟩,⟨0,0,.rw,0⟩]⟩,  -- SYS_PWR_CTL
  ⟨0x8,0x0,1,0x0,1,.none,[⟨11,11,.ro,0⟩,⟨10,10,.ro,0⟩,⟨9,0,.ro,0x3FF⟩]⟩,  -- SYS_PWR_STATUS
  ⟨0xC,0x0,1,0x0,1,.none,[⟨7,0,.ro,0xFF⟩]⟩,  -- SYS_RAIL_STATUS
  ⟨0x10,0x0,1,0x0,1,.none,[⟨2,2,.ro,0⟩,⟨1,1,.ro,0⟩,⟨0,0,.ro,0⟩]⟩,  -- SYS_CLK_STATUS
  ⟨0x14,0x0,1,0x0,1,.none,[⟨31,31,.rw,1⟩,⟨9,0,.rw,0x64⟩]⟩,  -- SYS_WDOG
  ⟨0x18,0x0,1,0x0,1,.none,[⟨0,0,.w1s,0⟩]⟩,  -- SYS_WDOG_KICK
  ⟨0x1C,0x0,1,0x0,1,.none,[⟨4,0,.w1s,0⟩]⟩,  -- SYS_BLK_RST
  ⟨0x20,0x0,1,0x0,1,.none,[⟨0,0,.ro,0⟩]⟩,  -- SYS_IRQ_STATUS
  ⟨0x24,0x0,1,0x0,1,.none,[⟨0,0,.rw,0⟩]⟩,  -- SYS_IRQ_EN
  ⟨0x28,0x0,1,0x0,1,.none,[⟨19,16,.ro,0⟩,⟨3,0,.w1c,0⟩]⟩,  -- SYS_SRC_STATUS
  ⟨0x2C,0x0,1,0x0,1,.none,[⟨11,0,.rw,0x249⟩]⟩]  -- SYS_SEV

/-- The AON map (R498 of spec/19_power_clocks_reset.md). -/
def mapAon : List RegDesc := [
  ⟨0x10000,0x0,1,0x0,1,.none,[⟨31,16,.ro,0⟩,⟨8,0,.w1c,1⟩]⟩,  -- AON_RST_CAUSE
  ⟨0x10004,0x0,1,0x0,1,.none,[⟨5,0,.rw,5⟩]⟩,  -- AON_VIN_CFG
  ⟨0x10008,0x0,1,0x0,1,.none,[⟨31,31,.w1c,0⟩,⟨30,30,.ro,0⟩,⟨9,0,.ro,0⟩]⟩,  -- AON_VIN_STATUS
  ⟨0x1000C,0x0,1,0x0,1,.none,[⟨31,16,.ro,0⟩,⟨3,0,.ro,0⟩]⟩,  -- AON_SAG_IDX
  ⟨0x10010,0x0,1,0x0,1,.none,[⟨31,31,.rw,0⟩,⟨15,0,.rw,0x3C⟩]⟩,  -- AON_WAKE_CFG
  ⟨0x10014,0x0,1,0x0,1,.none,[⟨1,1,.w1c,0⟩,⟨0,0,.w1c,0⟩]⟩,  -- AON_IRQ_STATUS
  ⟨0x10018,0x0,1,0x0,1,.none,[⟨1,1,.rw,0⟩,⟨0,0,.rw,0⟩]⟩,  -- AON_IRQ_EN
  ⟨0x10100,0x10,16,0x0,1,.none,[⟨31,0,.ro,0⟩]⟩,  -- AON_SAG_SEQ
  ⟨0x10104,0x10,16,0x0,1,.none,[⟨31,0,.ro,0⟩]⟩,  -- AON_SAG_TIME_LO
  ⟨0x10108,0x10,16,0x0,1,.none,[⟨31,0,.ro,0⟩]⟩,  -- AON_SAG_TIME_HI
  ⟨0x1010C,0x10,16,0x0,1,.none,[⟨31,31,.ro,0⟩,⟨30,30,.ro,0⟩,⟨29,22,.ro,0⟩,⟨21,0,.ro,0⟩]⟩]  -- AON_SAG_INFO

/-- The HOSTQ map (R387 of spec/15_host_link.md). -/
def mapHostq : List RegDesc := [
  ⟨0x20000,0x0,1,0x0,1,.none,[⟨2,2,.rw,0⟩,⟨1,1,.rw,0⟩,⟨0,0,.rw,0⟩]⟩,  -- HQ_CTL
  ⟨0x20004,0x0,1,0x0,1,.none,[⟨8,8,.rw,0⟩,⟨5,0,.rw,0x3F⟩]⟩,  -- HQ_ID
  ⟨0x20008,0x0,1,0x0,1,.none,[⟨31,16,.ro,0⟩,⟨4,4,.ro,0⟩,⟨3,0,.ro,0⟩]⟩,  -- HQ_SESSION
  ⟨0x2000C,0x0,1,0x0,1,.none,[⟨31,16,.rw,0x14⟩,⟨15,8,.rw,2⟩,⟨7,0,.rw,0xA⟩]⟩,  -- HQ_TIMERS
  ⟨0x20010,0x0,1,0x0,1,.none,[⟨31,31,.w1s,0⟩,⟨30,30,.w1s,0⟩,⟨29,29,.ro,0⟩,⟨15,0,.ro,0⟩]⟩,  -- HQ_AUDIT
  ⟨0x20014,0x0,1,0x0,1,.none,[⟨31,16,.ro,0⟩,⟨15,0,.ro,0⟩]⟩,  -- HQ_RECON
  ⟨0x20018,0x0,1,0x0,1,.none,[⟨31,16,.ro,0⟩,⟨15,0,.ro,0⟩]⟩,  -- HQ_DISC0
  ⟨0x2001C,0x0,1,0x0,1,.none,[⟨31,16,.ro,0⟩,⟨15,0,.ro,0⟩]⟩,  -- HQ_DISC1
  ⟨0x20020,0x0,1,0x0,1,.none,[⟨31,16,.ro,0⟩,⟨15,0,.ro,0⟩]⟩,  -- HQ_DISC2
  ⟨0x20024,0x0,1,0x0,1,.none,[⟨31,16,.ro,0⟩,⟨15,0,.ro,0⟩]⟩,  -- HQ_DISC3
  ⟨0x20028,0x0,1,0x0,1,.none,[⟨7,0,.rw,0⟩]⟩,  -- FLOW_SEL
  ⟨0x2002C,0x0,1,0x0,1,.none,[⟨31,31,.rw,0⟩,⟨30,30,.rw,0⟩,⟨29,29,.rw,0⟩,⟨28,28,.rw,0⟩,⟨23,16,.rw,0⟩,⟨13,8,.rw,0⟩,⟨7,0,.rw,0⟩]⟩,  -- FLOW_CFG
  ⟨0x20030,0x0,1,0x0,1,.none,[⟨31,0,.ro,0⟩]⟩,  -- FLOW_CNT_A
  ⟨0x20034,0x0,1,0x0,1,.none,[⟨31,0,.ro,0⟩]⟩,  -- FLOW_CNT_B
  ⟨0x20038,0x0,1,0x0,1,.none,[⟨31,0,.ro,0⟩]⟩,  -- FLOW_SEQ
  ⟨0x2003C,0x0,1,0x0,1,.none,[⟨5,0,.rw,0⟩]⟩,  -- Q_SEL
  ⟨0x20040,0x0,1,0x0,1,.none,[⟨31,24,.rw,0⟩,⟨23,16,.rw,0⟩,⟨15,8,.rw,1⟩,⟨2,0,.rw,0⟩]⟩,  -- Q_CFG
  ⟨0x20044,0x0,1,0x0,1,.none,[⟨31,16,.ro,0⟩,⟨15,0,.ro,0⟩]⟩,  -- Q_STAT
  ⟨0x20048,0x0,1,0x0,1,.none,[⟨31,0,.w1c,0⟩]⟩,  -- NTF_PEND0
  ⟨0x2004C,0x0,1,0x0,1,.none,[⟨31,0,.w1c,0⟩]⟩,  -- NTF_PEND1
  ⟨0x20050,0x0,1,0x0,1,.none,[⟨7,0,.w1c,0⟩]⟩,  -- NTF_PEND2
  ⟨0x20054,0x0,1,0x0,1,.none,[⟨31,0,.rw,0⟩]⟩,  -- NTF_EN0
  ⟨0x20058,0x0,1,0x0,1,.none,[⟨31,0,.rw,0⟩]⟩,  -- NTF_EN1
  ⟨0x2005C,0x0,1,0x0,1,.none,[⟨7,0,.rw,0⟩]⟩,  -- NTF_EN2
  ⟨0x20060,0x0,1,0x0,1,.none,[⟨6,0,.rw,0⟩]⟩,  -- NTF_SEL
  ⟨0x20064,0x0,1,0x0,1,.none,[⟨15,8,.rw,2⟩,⟨3,3,.rw,1⟩,⟨2,2,.rw,0⟩,⟨1,0,.rw,0⟩]⟩,  -- NTF_ROUTE
  ⟨0x20068,0x0,1,0x0,1,.none,[⟨15,0,.rw,0x64⟩]⟩,  -- NTF_CFG
  ⟨0x2006C,0x0,1,0x0,1,.none,[⟨3,3,.ro,0⟩,⟨2,2,.w1c,0⟩,⟨1,1,.w1c,0⟩,⟨0,0,.w1c,0⟩]⟩,  -- HQ_IRQ_STATUS
  ⟨0x20070,0x0,1,0x0,1,.none,[⟨3,3,.rw,0⟩,⟨2,2,.rw,0⟩,⟨1,1,.rw,0⟩,⟨0,0,.rw,0⟩]⟩,  -- HQ_IRQ_EN
  ⟨0x20074,0x0,1,0x0,1,.none,[⟨17,16,.ro,0⟩,⟨1,0,.w1c,0⟩]⟩,  -- HQ_SRC_STATUS
  ⟨0x20078,0x0,1,0x0,1,.none,[⟨5,3,.rw,1⟩,⟨2,0,.rw,1⟩]⟩]  -- HQ_SEV

/-- The ETH map (R388 of spec/15_host_link.md). -/
def mapEth : List RegDesc := [
  ⟨0x30000,0x0,1,0x0,1,.none,[⟨4,4,.rw,1⟩,⟨3,3,.rw,0⟩,⟨2,2,.rw,1⟩,⟨1,0,.rw,0⟩]⟩,  -- ETH_CTL
  ⟨0x30004,0x0,1,0x0,1,.none,[⟨4,4,.ro,0⟩,⟨3,3,.ro,0⟩,⟨2,1,.ro,0⟩,⟨0,0,.ro,0⟩]⟩,  -- ETH_STATUS
  ⟨0x30008,0x0,1,0x0,1,.none,[⟨31,0,.ro,0⟩]⟩,  -- MAC_LO
  ⟨0x3000C,0x0,1,0x0,1,.none,[⟨15,0,.ro,0⟩]⟩,  -- MAC_HI
  ⟨0x30010,0x0,1,0x0,1,.none,[⟨31,0,.rw,0⟩]⟩,  -- IP4_ADDR
  ⟨0x30014,0x0,1,0x0,1,.none,[⟨31,0,.rw,0xFFFFFF00⟩]⟩,  -- IP4_MASK
  ⟨0x30018,0x4,4,0x0,1,.none,[⟨31,0,.rw,0⟩]⟩,  -- IP6_ADDR
  ⟨0x30028,0x0,1,0x0,1,.none,[⟨31,16,.rw,0xB9A0⟩,⟨11,0,.rw,0⟩]⟩,  -- UDP_VLAN
  ⟨0x3002C,0x0,1,0x0,1,.none,[⟨31,31,.w1s,0⟩,⟨30,30,.ro,0⟩,⟨29,29,.rw,0⟩,⟨28,28,.rw,0⟩,⟨27,23,.rw,0⟩,⟨22,18,.rw,0⟩,⟨7,0,.rw,0x4F⟩]⟩,  -- MDIO_CTL
  ⟨0x30030,0x0,1,0x0,1,.none,[⟨31,16,.rw,0⟩,⟨15,0,.rw,0⟩]⟩,  -- MDIO_DATA
  ⟨0x30034,0x0,1,0x0,1,.none,[⟨31,31,.rw,0⟩,⟨15,0,.rw,0x2710⟩]⟩,  -- PHY_RST
  ⟨0x30038,0x0,1,0x0,1,.none,[⟨15,8,.rw,0⟩]⟩,  -- PTP_CFG
  ⟨0x3003C,0x0,1,0x0,1,.none,[⟨31,31,.ro,0⟩,⟨30,30,.ro,0⟩]⟩,  -- PTP_STATUS
  ⟨0x30040,0x0,1,0x0,1,.none,[⟨31,0,.ro,0⟩]⟩,  -- PTP_OFFSET
  ⟨0x30044,0x0,1,0x0,1,.none,[⟨31,0,.ro,0⟩]⟩,  -- ETH_RX_FRAMES
  ⟨0x30048,0x0,1,0x0,1,.none,[⟨31,0,.ro,0⟩]⟩,  -- ETH_TX_FRAMES
  ⟨0x3004C,0x0,1,0x0,1,.none,[⟨31,0,.ro,0⟩]⟩,  -- ETH_FCS_ERR
  ⟨0x30050,0x0,1,0x0,1,.none,[⟨1,1,.ro,0⟩,⟨0,0,.w1c,0⟩]⟩,  -- ETH_IRQ_STATUS
  ⟨0x30054,0x0,1,0x0,1,.none,[⟨1,1,.rw,0⟩,⟨0,0,.rw,0⟩]⟩,  -- ETH_IRQ_EN
  ⟨0x30058,0x0,1,0x0,1,.none,[⟨17,16,.ro,0⟩,⟨1,0,.w1c,0⟩]⟩,  -- ETH_SRC_STATUS
  ⟨0x3005C,0x0,1,0x0,1,.none,[⟨5,3,.rw,0⟩,⟨2,0,.rw,1⟩]⟩]  -- ETH_SEV

/-- CANA and CANB (R451), offsets within the controller. -/
def mapCan : List RegDesc := [
  ⟨0x0,0x0,1,0x0,1,.none,[⟨9,9,.w1s,0⟩,⟨4,4,.rw,0⟩,⟨3,3,.rw,0⟩,⟨2,2,.rw,1⟩,⟨1,1,.rw,0⟩,⟨0,0,.rw,1⟩]⟩,  -- CAN_CTL
  ⟨0x4,0x0,1,0x0,1,.none,[⟨31,24,.rw,9⟩,⟨23,16,.rw,0x1A⟩,⟨15,15,.rw,0⟩,⟨14,8,.rw,3⟩,⟨6,0,.rw,0⟩]⟩,  -- CAN_TIM_N
  ⟨0x8,0x0,1,0x0,1,.none,[⟨31,31,.rw,0⟩,⟨28,24,.rw,0⟩,⟨20,16,.rw,0x1C⟩,⟨11,8,.rw,9⟩,⟨3,0,.rw,9⟩]⟩,  -- CAN_TIM_D
  ⟨0xC,0x0,1,0x0,1,.none,[⟨31,24,.ro,0⟩,⟨15,15,.ro,0⟩,⟨7,0,.rw,0x1E⟩]⟩,  -- CAN_DLYC
  ⟨0x10,0x0,1,0x0,1,.none,[⟨31,24,.ro,0⟩,⟨23,16,.ro,0⟩,⟨15,8,.ro,0⟩,⟨5,5,.ro,0⟩,⟨4,4,.ro,0⟩,⟨2,0,.ro,0⟩]⟩,  -- CAN_STATUS
  ⟨0x14,0x0,1,0x0,1,.none,[⟨15,8,.ro,0⟩,⟨7,0,.rw,0x10⟩]⟩,  -- CAN_LONE
  ⟨0x18,0x0,1,0x0,1,.none,[⟨31,16,.ro,0⟩,⟨15,0,.ro,0⟩]⟩,  -- CAN_RXDISC
  ⟨0x1C,0x0,1,0x0,1,.none,[⟨5,5,.ro,0⟩,⟨4,4,.w1c,0⟩,⟨3,3,.w1c,0⟩,⟨2,2,.w1c,0⟩,⟨1,1,.w1c,0⟩,⟨0,0,.w1c,0⟩]⟩,  -- CAN_IRQ_STATUS
  ⟨0x20,0x0,1,0x0,1,.none,[⟨5,5,.rw,0⟩,⟨4,4,.rw,0⟩,⟨3,3,.rw,0⟩,⟨2,2,.rw,0⟩,⟨1,1,.rw,0⟩,⟨0,0,.rw,0⟩]⟩,  -- CAN_IRQ_EN
  ⟨0x24,0x0,1,0x0,1,.none,[⟨19,16,.ro,0⟩,⟨3,0,.w1c,0⟩]⟩,  -- CAN_SRC_STATUS
  ⟨0x28,0x0,1,0x0,1,.none,[⟨11,0,.rw,0x248⟩]⟩,  -- CAN_SEV
  ⟨0x30,0x4,4,0x0,1,.none,[⟨31,0,.ro,0⟩]⟩,  -- CAN_TXPEND
  ⟨0x40,0x4,4,0x0,1,.none,[⟨31,0,.ro,0⟩]⟩,  -- CAN_NEWDAT
  ⟨0x50,0x0,1,0x0,1,.none,[⟨9,8,.ro,0⟩,⟨7,0,.ro,0xFE⟩]⟩,  -- ISO_STATUS
  ⟨0x1000,0x80,128,0x0,1,.none,[⟨31,31,.rw,0⟩,⟨30,30,.rw,0⟩,⟨28,0,.rw,0⟩]⟩,  -- MO_ID
  ⟨0x1004,0x80,128,0x0,1,.none,[⟨31,31,.rw,0⟩,⟨30,30,.rw,0⟩,⟨29,29,.rw,0⟩,⟨28,28,.rw,0⟩,⟨27,27,.rw,0⟩,⟨26,26,.rw,0⟩,⟨25,25,.rw,0⟩,⟨24,24,.rw,0⟩,⟨3,0,.rw,0⟩]⟩,  -- MO_CTL
  ⟨0x1008,0x80,128,0x0,1,.none,[⟨31,31,.rw,1⟩,⟨28,0,.rw,0x1FFFFFFF⟩]⟩,  -- MO_MASK
  ⟨0x100C,0x80,128,0x0,1,.none,[⟨31,31,.w1s,0⟩,⟨30,30,.w1s,0⟩,⟨29,29,.w1c,0⟩,⟨28,28,.w1c,0⟩,⟨27,27,.w1c,0⟩,⟨26,26,.w1c,0⟩,⟨25,25,.rw,0⟩,⟨24,24,.ro,0⟩,⟨23,22,.ro,0⟩]⟩,  -- MO_STAT
  ⟨0x1010,0x80,128,0x0,1,.none,[⟨31,0,.ro,0⟩]⟩,  -- MO_TIME_LO
  ⟨0x1014,0x80,128,0x0,1,.none,[⟨31,0,.ro,0⟩]⟩,  -- MO_TIME_HI
  ⟨0x1018,0x80,128,0x0,1,.none,[⟨31,0,.ro,0⟩]⟩,  -- MO_SEQ
  ⟨0x101C,0x80,128,0x0,1,.none,[⟨31,28,.ro,0⟩,⟨27,24,.rw,1⟩,⟨23,16,.rw,0⟩,⟨15,0,.rw,0⟩]⟩,  -- MO_E2E
  ⟨0x1020,0x80,128,0x4,16,.none,[⟨31,0,.rw,0⟩]⟩]  -- MO_DATA

/-- The ARC map (R476 of spec/18_archive_and_security.md). -/
def mapArc : List RegDesc := [
  ⟨0x60000,0x0,1,0x0,1,.none,[⟨1,1,.rw,0⟩,⟨0,0,.rw,0⟩]⟩,  -- ARC_CTL
  ⟨0x60004,0x0,1,0x0,1,.none,[⟨3,0,.rw,6⟩]⟩,  -- ARC_CFG
  ⟨0x60008,0x0,1,0x0,1,.none,[⟨31,16,.ro,0⟩,⟨15,0,.ro,0⟩]⟩,  -- ARC_BLOCKS
  ⟨0x6000C,0x0,1,0x0,1,.none,[⟨31,31,.ro,0⟩,⟨30,30,.ro,0⟩,⟨29,29,.ro,0⟩,⟨15,0,.ro,0⟩]⟩,  -- ARC_STATUS
  ⟨0x60010,0x0,1,0x0,1,.none,[⟨31,16,.ro,0⟩,⟨15,8,.ro,0⟩,⟨7,4,.ro,0⟩]⟩,  -- ARC_ECC
  ⟨0x60014,0x0,1,0x0,1,.none,[⟨31,16,.ro,0⟩,⟨15,0,.ro,0⟩]⟩,  -- ARC_BAD
  ⟨0x60018,0x0,1,0x0,1,.none,[⟨31,0,.ro,0⟩]⟩,  -- ARC_RING
  ⟨0x60020,0x0,1,0x0,1,.none,[⟨31,31,.w1s,0⟩,⟨8,8,.rw,0⟩,⟨1,0,.rw,0⟩]⟩,  -- ARC_OP
  ⟨0x60024,0x0,1,0x0,1,.none,[⟨19,0,.rw,0⟩]⟩,  -- ARC_ROW
  ⟨0x60028,0x0,1,0x0,1,.none,[⟨31,0,.rw,0⟩]⟩,  -- ARC_DMA
  ⟨0x6002C,0x0,1,0x0,1,.none,[⟨2,0,.ro,0⟩]⟩,  -- ARC_OP_STATUS
  ⟨0x60030,0x0,1,0x0,1,.none,[⟨1,1,.ro,0⟩,⟨0,0,.w1c,0⟩]⟩,  -- ARC_IRQ_STATUS
  ⟨0x60034,0x0,1,0x0,1,.none,[⟨1,1,.rw,0⟩,⟨0,0,.rw,0⟩]⟩,  -- ARC_IRQ_EN
  ⟨0x60038,0x0,1,0x0,1,.none,[⟨18,16,.ro,0⟩,⟨2,0,.w1c,0⟩]⟩,  -- ARC_SRC_STATUS
  ⟨0x6003C,0x0,1,0x0,1,.none,[⟨8,0,.rw,0x40⟩]⟩]  -- ARC_SEV

/-- The SEC map (R477 of spec/18_archive_and_security.md). -/
def mapSec : List RegDesc := [
  ⟨0x70000,0x0,1,0x0,1,.none,[⟨7,7,.ro,0⟩,⟨2,0,.ro,0⟩]⟩,  -- SEC_LC
  ⟨0x70004,0x0,1,0x0,1,.none,[⟨15,15,.ro,0⟩,⟨14,14,.ro,0⟩,⟨13,13,.ro,0⟩,⟨12,12,.ro,0⟩,⟨7,0,.ro,0⟩]⟩,  -- SEC_BOOT
  ⟨0x70008,0x0,1,0x0,1,.none,[⟨6,0,.ro,0⟩]⟩,  -- SEC_ROLLBACK
  ⟨0x7000C,0x0,1,0x0,1,.none,[⟨16,16,.ro,0⟩,⟨15,8,.ro,0⟩,⟨7,0,.ro,0⟩]⟩,  -- SEC_KEYS
  ⟨0x70010,0x4,4,0x0,1,.none,[⟨31,0,.ro,0⟩]⟩,  -- SEC_UID
  ⟨0x70020,0x0,1,0x0,1,.none,[⟨1,1,.ro,0⟩,⟨0,0,.w1c,0⟩]⟩,  -- SEC_IRQ_STATUS
  ⟨0x70024,0x0,1,0x0,1,.none,[⟨1,1,.rw,0⟩,⟨0,0,.rw,0⟩]⟩,  -- SEC_IRQ_EN
  ⟨0x70028,0x0,1,0x0,1,.none,[⟨16,16,.ro,0⟩,⟨0,0,.w1c,0⟩]⟩,  -- SEC_SRC_STATUS
  ⟨0x7002C,0x0,1,0x0,1,.none,[⟨2,0,.rw,1⟩]⟩]  -- SEC_SEV

/-- The SMCB map (R328 of spec/13_lockstep_and_checks.md). -/
def mapSmcb : List RegDesc := [
  ⟨0x80000,0x0,1,0x0,1,.none,[⟨31,31,.ro,0⟩,⟨30,30,.ro,0⟩,⟨3,3,.ro,0⟩,⟨2,2,.ro,0⟩,⟨1,1,.ro,0⟩,⟨0,0,.ro,0⟩]⟩,  -- SMC_PAIR_STATUS
  ⟨0x80004,0x0,1,0x0,1,.none,[⟨31,16,.ro,0⟩,⟨5,0,.ro,0⟩]⟩,  -- SMC_PLUMB_STAT
  ⟨0x80008,0x0,1,0x0,1,.none,[⟨7,0,.w1c,0⟩]⟩,  -- SMC_CVU_IRQ_STATUS
  ⟨0x8000C,0x0,1,0x0,1,.none,[⟨7,0,.rw,0⟩]⟩,  -- SMC_CVU_IRQ_EN
  ⟨0x80100,0x20,8,0x0,1,.none,[⟨5,4,.rw,2⟩,⟨1,0,.rw,0⟩]⟩,  -- SMC_CVU_CTL
  ⟨0x80104,0x20,8,0x0,1,.none,[⟨31,0,.rw,0⟩]⟩,  -- SMC_CVU_DATA
  ⟨0x80108,0x20,8,0x0,1,.none,[⟨31,0,.rw,0xFF⟩]⟩,  -- SMC_CVU_VAL
  ⟨0x8010C,0x20,8,0x0,1,.none,[⟨31,0,.ro,0⟩]⟩,  -- SMC_CVU_RES
  ⟨0x80110,0x20,8,0x0,1,.none,[⟨31,0,.rw,0⟩]⟩,  -- SMC_CVU_EXP
  ⟨0x80114,0x20,8,0x0,1,.none,[⟨1,1,.w1s,0⟩,⟨0,0,.w1s,0⟩]⟩,  -- SMC_CVU_REQ
  ⟨0x80118,0x20,8,0x0,1,.none,[⟨1,1,.ro,0⟩,⟨0,0,.w1c,0⟩]⟩]  -- SMC_CVU_STAT

/-- The BIST map (R353 of spec/14_self_test.md). -/
def mapBist : List RegDesc := [
  ⟨0x90000,0x0,1,0x0,1,.none,[⟨15,8,.rw,0x48⟩,⟨4,4,.rw,1⟩,⟨1,0,.rw,0⟩]⟩,  -- BIST_CFG
  ⟨0x90004,0x0,1,0x0,1,.none,[⟨31,31,.ro,0⟩,⟨30,30,.ro,0⟩,⟨29,29,.ro,0⟩,⟨25,24,.ro,0⟩]⟩,  -- BIST_STATUS
  ⟨0x90008,0x0,1,0x0,1,.none,[⟨31,0,.ro,0⟩]⟩,  -- UC_AGE
  ⟨0x9000C,0x0,1,0x0,1,.none,[⟨31,0,.ro,0⟩]⟩,  -- UC_TIME_LO
  ⟨0x90010,0x0,1,0x0,1,.none,[⟨31,0,.ro,0⟩]⟩,  -- UC_TIME_HI
  ⟨0x90020,0x4,8,0x0,1,.none,[⟨31,28,.ro,0⟩,⟨27,24,.ro,0⟩,⟨23,23,.ro,0⟩,⟨19,16,.ro,0⟩,⟨15,8,.ro,0⟩]⟩,  -- BIST_RES
  ⟨0x90040,0x0,1,0x0,1,.none,[⟨31,24,.ro,0⟩,⟨23,16,.ro,0⟩]⟩,  -- REPAIR_STAT
  ⟨0x90044,0x0,1,0x0,1,.none,[⟨31,31,.w1s,0⟩,⟨30,30,.w1s,0⟩,⟨6,4,.rw,0⟩,⟨3,0,.rw,0⟩]⟩,  -- BIST_REQ
  ⟨0x90048,0x0,1,0x0,1,.none,[⟨31,31,.ro,0⟩,⟨30,30,.w1c,0⟩,⟨3,0,.ro,0⟩]⟩,  -- BIST_RUN
  ⟨0x90100,0x4,64,0x0,1,.none,[⟨31,31,.ro,0⟩,⟨23,16,.ro,0⟩,⟨15,0,.ro,0⟩]⟩]  -- FAIL_ROW

end Sys2Proof.Machine
end

