-- ==== Sys2Proof/Machine/DevNames.lean ====
section
/-! DEFINITION. Machine/DevNames.lean: the names of the device registers (their offsets, R523) and of their fields
(register, msb, lsb), as the register maps of spec/ name them. A register of a window or an array takes its numbers as arguments.
-/

namespace Sys2Proof.Machine

/-! ### SYS (R497) -/

def SYS_ID : Nat := 0x0
def SYS_ID_PRODUCT : Fld := ⟨SYS_ID, 31, 16⟩
def SYS_ID_REVISION : Fld := ⟨SYS_ID, 15, 0⟩
def SYS_PWR_CTL : Nat := 0x4
def SYS_PWR_CTL_LP_GO : Fld := ⟨SYS_PWR_CTL, 31, 31⟩
def SYS_PWR_CTL_LP_STATE : Fld := ⟨SYS_PWR_CTL, 9, 8⟩
def SYS_PWR_CTL_PARK_B : Fld := ⟨SYS_PWR_CTL, 1, 1⟩
def SYS_PWR_CTL_PARK_A : Fld := ⟨SYS_PWR_CTL, 0, 0⟩
def SYS_PWR_STATUS : Nat := 0x8
def SYS_PWR_STATUS_PARKED_B : Fld := ⟨SYS_PWR_STATUS, 11, 11⟩
def SYS_PWR_STATUS_PARKED_A : Fld := ⟨SYS_PWR_STATUS, 10, 10⟩
def SYS_PWR_STATUS_DOMAIN_ON : Fld := ⟨SYS_PWR_STATUS, 9, 0⟩
def SYS_RAIL_STATUS : Nat := 0xC
def SYS_RAIL_STATUS_IN_WINDOW : Fld := ⟨SYS_RAIL_STATUS, 7, 0⟩
def SYS_CLK_STATUS : Nat := 0x10
def SYS_CLK_STATUS_AON_DEV : Fld := ⟨SYS_CLK_STATUS, 2, 2⟩
def SYS_CLK_STATUS_PLL_ON_AON : Fld := ⟨SYS_CLK_STATUS, 1, 1⟩
def SYS_CLK_STATUS_XTAL_OK : Fld := ⟨SYS_CLK_STATUS, 0, 0⟩
def SYS_WDOG : Nat := 0x14
def SYS_WDOG_EN : Fld := ⟨SYS_WDOG, 31, 31⟩
def SYS_WDOG_T : Fld := ⟨SYS_WDOG, 9, 0⟩
def SYS_WDOG_KICK : Nat := 0x18
def SYS_WDOG_KICK_KICK : Fld := ⟨SYS_WDOG_KICK, 0, 0⟩
def SYS_BLK_RST : Nat := 0x1C
def SYS_BLK_RST_RST : Fld := ⟨SYS_BLK_RST, 4, 0⟩
def SYS_IRQ_STATUS : Nat := 0x20
def SYS_IRQ_STATUS_SRC : Fld := ⟨SYS_IRQ_STATUS, 0, 0⟩
def SYS_IRQ_EN : Nat := 0x24
def SYS_IRQ_EN_SRC : Fld := ⟨SYS_IRQ_EN, 0, 0⟩
def SYS_SRC_STATUS : Nat := 0x28
def SYS_SRC_STATUS_ACTIVE : Fld := ⟨SYS_SRC_STATUS, 19, 16⟩
def SYS_SRC_STATUS_LATCHED : Fld := ⟨SYS_SRC_STATUS, 3, 0⟩
def SYS_SEV : Nat := 0x2C
def SYS_SEV_SEVb : Fld := ⟨SYS_SEV, 11, 0⟩

/-! ### AON (R498) -/

def AON_RST_CAUSE : Nat := 0x10000
def AON_RST_CAUSE_COUNT : Fld := ⟨AON_RST_CAUSE, 31, 16⟩
def AON_RST_CAUSE_CAUSE : Fld := ⟨AON_RST_CAUSE, 8, 0⟩
def AON_VIN_CFG : Nat := 0x10004
def AON_VIN_CFG_WARN : Fld := ⟨AON_VIN_CFG, 5, 0⟩
def AON_VIN_STATUS : Nat := 0x10008
def AON_VIN_STATUS_STICKY : Fld := ⟨AON_VIN_STATUS, 31, 31⟩
def AON_VIN_STATUS_NOW : Fld := ⟨AON_VIN_STATUS, 30, 30⟩
def AON_VIN_STATUS_VIN : Fld := ⟨AON_VIN_STATUS, 9, 0⟩
def AON_SAG_IDX : Nat := 0x1000C
def AON_SAG_IDX_COUNT : Fld := ⟨AON_SAG_IDX, 31, 16⟩
def AON_SAG_IDX_NEXT : Fld := ⟨AON_SAG_IDX, 3, 0⟩
def AON_WAKE_CFG : Nat := 0x10010
def AON_WAKE_CFG_TIMER_EN : Fld := ⟨AON_WAKE_CFG, 31, 31⟩
def AON_WAKE_CFG_T : Fld := ⟨AON_WAKE_CFG, 15, 0⟩
def AON_IRQ_STATUS : Nat := 0x10014
def AON_IRQ_STATUS_WAKE : Fld := ⟨AON_IRQ_STATUS, 1, 1⟩
def AON_IRQ_STATUS_SAG : Fld := ⟨AON_IRQ_STATUS, 0, 0⟩
def AON_IRQ_EN : Nat := 0x10018
def AON_IRQ_EN_WAKE : Fld := ⟨AON_IRQ_EN, 1, 1⟩
def AON_IRQ_EN_SAG : Fld := ⟨AON_IRQ_EN, 0, 0⟩
def AON_SAG_SEQ (n : Nat) : Nat := 0x10100 + 0x10 * n
def AON_SAG_SEQ_SEQ (n : Nat) : Fld := ⟨AON_SAG_SEQ n, 31, 0⟩
def AON_SAG_TIME_LO (n : Nat) : Nat := 0x10104 + 0x10 * n
def AON_SAG_TIME_LO_TIME (n : Nat) : Fld := ⟨AON_SAG_TIME_LO n, 31, 0⟩
def AON_SAG_TIME_HI (n : Nat) : Nat := 0x10108 + 0x10 * n
def AON_SAG_TIME_HI_TIME (n : Nat) : Fld := ⟨AON_SAG_TIME_HI n, 31, 0⟩
def AON_SAG_INFO (n : Nat) : Nat := 0x1010C + 0x10 * n
def AON_SAG_INFO_VALID (n : Nat) : Fld := ⟨AON_SAG_INFO n, 31, 31⟩
def AON_SAG_INFO_RST (n : Nat) : Fld := ⟨AON_SAG_INFO n, 30, 30⟩
def AON_SAG_INFO_MIN (n : Nat) : Fld := ⟨AON_SAG_INFO n, 29, 22⟩
def AON_SAG_INFO_DUR (n : Nat) : Fld := ⟨AON_SAG_INFO n, 21, 0⟩

/-! ### HOSTQ (R387) -/

def HQ_CTL : Nat := 0x20000
def HQ_CTL_AUTH_EN : Fld := ⟨HQ_CTL, 2, 2⟩
def HQ_CTL_IPV6 : Fld := ⟨HQ_CTL, 1, 1⟩
def HQ_CTL_MODE : Fld := ⟨HQ_CTL, 0, 0⟩
def HQ_ID : Nat := 0x20004
def HQ_ID_ID_VALID : Fld := ⟨HQ_ID, 8, 8⟩
def HQ_ID_ID : Fld := ⟨HQ_ID, 5, 0⟩
def HQ_SESSION : Nat := 0x20008
def HQ_SESSION_RAISES : Fld := ⟨HQ_SESSION, 31, 16⟩
def HQ_SESSION_SESSION_OPEN : Fld := ⟨HQ_SESSION, 4, 4⟩
def HQ_SESSION_EPOCH : Fld := ⟨HQ_SESSION, 3, 0⟩
def HQ_TIMERS : Nat := 0x2000C
def HQ_TIMERS_BUNDLE_T : Fld := ⟨HQ_TIMERS, 31, 16⟩
def HQ_TIMERS_RETX_T : Fld := ⟨HQ_TIMERS, 15, 8⟩
def HQ_TIMERS_CRD_T : Fld := ⟨HQ_TIMERS, 7, 0⟩
def HQ_AUDIT : Nat := 0x20010
def HQ_AUDIT_REQ : Fld := ⟨HQ_AUDIT, 31, 31⟩
def HQ_AUDIT_EPOCH_REQ : Fld := ⟨HQ_AUDIT, 30, 30⟩
def HQ_AUDIT_BUSY : Fld := ⟨HQ_AUDIT, 29, 29⟩
def HQ_AUDIT_COUNT : Fld := ⟨HQ_AUDIT, 15, 0⟩
def HQ_RECON : Nat := 0x20014
def HQ_RECON_LOST_FRAMES : Fld := ⟨HQ_RECON, 31, 16⟩
def HQ_RECON_LOST_RETURNS : Fld := ⟨HQ_RECON, 15, 0⟩
def HQ_DISC0 : Nat := 0x20018
def HQ_DISC0_CRC : Fld := ⟨HQ_DISC0, 31, 16⟩
def HQ_DISC0_ID : Fld := ⟨HQ_DISC0, 15, 0⟩
def HQ_DISC1 : Nat := 0x2001C
def HQ_DISC1_EPOCH : Fld := ⟨HQ_DISC1, 31, 16⟩
def HQ_DISC1_SEQ : Fld := ⟨HQ_DISC1, 15, 0⟩
def HQ_DISC2 : Nat := 0x20020
def HQ_DISC2_NO_CREDIT : Fld := ⟨HQ_DISC2, 31, 16⟩
def HQ_DISC2_AUTH : Fld := ⟨HQ_DISC2, 15, 0⟩
def HQ_DISC3 : Nat := 0x20024
def HQ_DISC3_BUNDLE : Fld := ⟨HQ_DISC3, 31, 16⟩
def HQ_DISC3_FLOW : Fld := ⟨HQ_DISC3, 15, 0⟩
def FLOW_SEL : Nat := 0x20028
def FLOW_SEL_FLOW : Fld := ⟨FLOW_SEL, 7, 0⟩
def FLOW_CFG : Nat := 0x2002C
def FLOW_CFG_OPEN : Fld := ⟨FLOW_CFG, 31, 31⟩
def FLOW_CFG_DIR : Fld := ⟨FLOW_CFG, 30, 30⟩
def FLOW_CFG_RELIABLE : Fld := ⟨FLOW_CFG, 29, 29⟩
def FLOW_CFG_PAIR_EN : Fld := ⟨FLOW_CFG, 28, 28⟩
def FLOW_CFG_PAIR : Fld := ⟨FLOW_CFG, 23, 16⟩
def FLOW_CFG_QUEUE : Fld := ⟨FLOW_CFG, 13, 8⟩
def FLOW_CFG_INIT : Fld := ⟨FLOW_CFG, 7, 0⟩
def FLOW_CNT_A : Nat := 0x20030
def FLOW_CNT_A_COUNT : Fld := ⟨FLOW_CNT_A, 31, 0⟩
def FLOW_CNT_B : Nat := 0x20034
def FLOW_CNT_B_COUNT : Fld := ⟨FLOW_CNT_B, 31, 0⟩
def FLOW_SEQ : Nat := 0x20038
def FLOW_SEQ_SEQ : Fld := ⟨FLOW_SEQ, 31, 0⟩
def Q_SEL : Nat := 0x2003C
def Q_SEL_QUEUE : Fld := ⟨Q_SEL, 5, 0⟩
def Q_CFG : Nat := 0x20040
def Q_CFG_RSV : Fld := ⟨Q_CFG, 31, 24⟩
def Q_CFG_THRESH : Fld := ⟨Q_CFG, 23, 16⟩
def Q_CFG_WEIGHT : Fld := ⟨Q_CFG, 15, 8⟩
def Q_CFG_PCP : Fld := ⟨Q_CFG, 2, 0⟩
def Q_STAT : Nat := 0x20044
def Q_STAT_DROPS : Fld := ⟨Q_STAT, 31, 16⟩
def Q_STAT_LEVEL : Fld := ⟨Q_STAT, 15, 0⟩
def NTF_PEND0 : Nat := 0x20048
def NTF_PEND0_PEND : Fld := ⟨NTF_PEND0, 31, 0⟩
def NTF_PEND1 : Nat := 0x2004C
def NTF_PEND1_PEND : Fld := ⟨NTF_PEND1, 31, 0⟩
def NTF_PEND2 : Nat := 0x20050
def NTF_PEND2_PEND : Fld := ⟨NTF_PEND2, 7, 0⟩
def NTF_EN0 : Nat := 0x20054
def NTF_EN0_EN : Fld := ⟨NTF_EN0, 31, 0⟩
def NTF_EN1 : Nat := 0x20058
def NTF_EN1_EN : Fld := ⟨NTF_EN1, 31, 0⟩
def NTF_EN2 : Nat := 0x2005C
def NTF_EN2_EN : Fld := ⟨NTF_EN2, 7, 0⟩
def NTF_SEL : Nat := 0x20060
def NTF_SEL_VECTOR : Fld := ⟨NTF_SEL, 6, 0⟩
def NTF_ROUTE : Nat := 0x20064
def NTF_ROUTE_FLOW : Fld := ⟨NTF_ROUTE, 15, 8⟩
def NTF_ROUTE_MSG : Fld := ⟨NTF_ROUTE, 3, 3⟩
def NTF_ROUTE_PIN_EN : Fld := ⟨NTF_ROUTE, 2, 2⟩
def NTF_ROUTE_PIN : Fld := ⟨NTF_ROUTE, 1, 0⟩
def NTF_CFG : Nat := 0x20068
def NTF_CFG_HOLDOFF : Fld := ⟨NTF_CFG, 15, 0⟩
def HQ_IRQ_STATUS : Nat := 0x2006C
def HQ_IRQ_STATUS_SRC : Fld := ⟨HQ_IRQ_STATUS, 3, 3⟩
def HQ_IRQ_STATUS_EPOCH_RAISED : Fld := ⟨HQ_IRQ_STATUS, 2, 2⟩
def HQ_IRQ_STATUS_AUDIT_DONE : Fld := ⟨HQ_IRQ_STATUS, 1, 1⟩
def HQ_IRQ_STATUS_SESSION_OPENED : Fld := ⟨HQ_IRQ_STATUS, 0, 0⟩
def HQ_IRQ_EN : Nat := 0x20070
def HQ_IRQ_EN_SRC : Fld := ⟨HQ_IRQ_EN, 3, 3⟩
def HQ_IRQ_EN_EPOCH_RAISED : Fld := ⟨HQ_IRQ_EN, 2, 2⟩
def HQ_IRQ_EN_AUDIT_DONE : Fld := ⟨HQ_IRQ_EN, 1, 1⟩
def HQ_IRQ_EN_SESSION_OPENED : Fld := ⟨HQ_IRQ_EN, 0, 0⟩
def HQ_SRC_STATUS : Nat := 0x20074
def HQ_SRC_STATUS_ACTIVE : Fld := ⟨HQ_SRC_STATUS, 17, 16⟩
def HQ_SRC_STATUS_LATCHED : Fld := ⟨HQ_SRC_STATUS, 1, 0⟩
def HQ_SEV : Nat := 0x20078
def HQ_SEV_AUTH_FAIL_SEV : Fld := ⟨HQ_SEV, 5, 3⟩
def HQ_SEV_LINK_AUDIT_FAIL_SEV : Fld := ⟨HQ_SEV, 2, 0⟩

/-! ### ETH (R388) -/

def ETH_CTL : Nat := 0x30000
def ETH_CTL_PTP_EN : Fld := ⟨ETH_CTL, 4, 4⟩
def ETH_CTL_VLAN_EN : Fld := ⟨ETH_CTL, 3, 3⟩
def ETH_CTL_AN_EN : Fld := ⟨ETH_CTL, 2, 2⟩
def ETH_CTL_RATE : Fld := ⟨ETH_CTL, 1, 0⟩
def ETH_STATUS : Nat := 0x30004
def ETH_STATUS_AN_DONE : Fld := ⟨ETH_STATUS, 4, 4⟩
def ETH_STATUS_FULL_DUPLEX : Fld := ⟨ETH_STATUS, 3, 3⟩
def ETH_STATUS_SPEED : Fld := ⟨ETH_STATUS, 2, 1⟩
def ETH_STATUS_LINK_UP : Fld := ⟨ETH_STATUS, 0, 0⟩
def MAC_LO : Nat := 0x30008
def MAC_LO_MAC : Fld := ⟨MAC_LO, 31, 0⟩
def MAC_HI : Nat := 0x3000C
def MAC_HI_MAC : Fld := ⟨MAC_HI, 15, 0⟩
def IP4_ADDR : Nat := 0x30010
def IP4_ADDR_ADDR : Fld := ⟨IP4_ADDR, 31, 0⟩
def IP4_MASK : Nat := 0x30014
def IP4_MASK_MASK : Fld := ⟨IP4_MASK, 31, 0⟩
def IP6_ADDR (n : Nat) : Nat := 0x30018 + 0x4 * n
def IP6_ADDR_ADDR (n : Nat) : Fld := ⟨IP6_ADDR n, 31, 0⟩
def UDP_VLAN : Nat := 0x30028
def UDP_VLAN_PORT : Fld := ⟨UDP_VLAN, 31, 16⟩
def UDP_VLAN_VID : Fld := ⟨UDP_VLAN, 11, 0⟩
def MDIO_CTL : Nat := 0x3002C
def MDIO_CTL_GO : Fld := ⟨MDIO_CTL, 31, 31⟩
def MDIO_CTL_BUSY : Fld := ⟨MDIO_CTL, 30, 30⟩
def MDIO_CTL_CL45 : Fld := ⟨MDIO_CTL, 29, 29⟩
def MDIO_CTL_READ : Fld := ⟨MDIO_CTL, 28, 28⟩
def MDIO_CTL_PHYAD : Fld := ⟨MDIO_CTL, 27, 23⟩
def MDIO_CTL_REG : Fld := ⟨MDIO_CTL, 22, 18⟩
def MDIO_CTL_DIV : Fld := ⟨MDIO_CTL, 7, 0⟩
def MDIO_DATA : Nat := 0x30030
def MDIO_DATA_ADDR : Fld := ⟨MDIO_DATA, 31, 16⟩
def MDIO_DATA_DATA : Fld := ⟨MDIO_DATA, 15, 0⟩
def PHY_RST : Nat := 0x30034
def PHY_RST_ASSERT : Fld := ⟨PHY_RST, 31, 31⟩
def PHY_RST_T : Fld := ⟨PHY_RST, 15, 0⟩
def PTP_CFG : Nat := 0x30038
def PTP_CFG_DOMAIN : Fld := ⟨PTP_CFG, 15, 8⟩
def PTP_STATUS : Nat := 0x3003C
def PTP_STATUS_SYNCED : Fld := ⟨PTP_STATUS, 31, 31⟩
def PTP_STATUS_GM_PRESENT : Fld := ⟨PTP_STATUS, 30, 30⟩
def PTP_OFFSET : Nat := 0x30040
def PTP_OFFSET_OFFSET : Fld := ⟨PTP_OFFSET, 31, 0⟩
def ETH_RX_FRAMES : Nat := 0x30044
def ETH_RX_FRAMES_COUNT : Fld := ⟨ETH_RX_FRAMES, 31, 0⟩
def ETH_TX_FRAMES : Nat := 0x30048
def ETH_TX_FRAMES_COUNT : Fld := ⟨ETH_TX_FRAMES, 31, 0⟩
def ETH_FCS_ERR : Nat := 0x3004C
def ETH_FCS_ERR_COUNT : Fld := ⟨ETH_FCS_ERR, 31, 0⟩
def ETH_IRQ_STATUS : Nat := 0x30050
def ETH_IRQ_STATUS_SRC : Fld := ⟨ETH_IRQ_STATUS, 1, 1⟩
def ETH_IRQ_STATUS_LINK_CHANGE : Fld := ⟨ETH_IRQ_STATUS, 0, 0⟩
def ETH_IRQ_EN : Nat := 0x30054
def ETH_IRQ_EN_SRC : Fld := ⟨ETH_IRQ_EN, 1, 1⟩
def ETH_IRQ_EN_LINK_CHANGE : Fld := ⟨ETH_IRQ_EN, 0, 0⟩
def ETH_SRC_STATUS : Nat := 0x30058
def ETH_SRC_STATUS_ACTIVE : Fld := ⟨ETH_SRC_STATUS, 17, 16⟩
def ETH_SRC_STATUS_LATCHED : Fld := ⟨ETH_SRC_STATUS, 1, 0⟩
def ETH_SEV : Nat := 0x3005C
def ETH_SEV_FRAME_CRC_SEV : Fld := ⟨ETH_SEV, 5, 3⟩
def ETH_SEV_LINK_DOWN_SEV : Fld := ⟨ETH_SEV, 2, 0⟩

/-! ### CAN (R451) -/

def CAN_CTL (c : Nat) : Nat := 0x40000 + 0x10000 * c
def CAN_CTL_RECOVER (c : Nat) : Fld := ⟨CAN_CTL c, 9, 9⟩
def CAN_CTL_LOOP (c : Nat) : Fld := ⟨CAN_CTL c, 4, 4⟩
def CAN_CTL_MON (c : Nat) : Fld := ⟨CAN_CTL c, 3, 3⟩
def CAN_CTL_PEX_EN (c : Nat) : Fld := ⟨CAN_CTL c, 2, 2⟩
def CAN_CTL_FD_EN (c : Nat) : Fld := ⟨CAN_CTL c, 1, 1⟩
def CAN_CTL_INIT (c : Nat) : Fld := ⟨CAN_CTL c, 0, 0⟩
def CAN_TIM_N (c : Nat) : Nat := 0x40004 + 0x10000 * c
def CAN_TIM_N_N_PRESC (c : Nat) : Fld := ⟨CAN_TIM_N c, 31, 24⟩
def CAN_TIM_N_N_SEG1 (c : Nat) : Fld := ⟨CAN_TIM_N c, 23, 16⟩
def CAN_TIM_N_TRIPLE (c : Nat) : Fld := ⟨CAN_TIM_N c, 15, 15⟩
def CAN_TIM_N_N_SEG2 (c : Nat) : Fld := ⟨CAN_TIM_N c, 14, 8⟩
def CAN_TIM_N_N_SJW (c : Nat) : Fld := ⟨CAN_TIM_N c, 6, 0⟩
def CAN_TIM_D (c : Nat) : Nat := 0x40008 + 0x10000 * c
def CAN_TIM_D_DLY_COMP (c : Nat) : Fld := ⟨CAN_TIM_D c, 31, 31⟩
def CAN_TIM_D_D_PRESC (c : Nat) : Fld := ⟨CAN_TIM_D c, 28, 24⟩
def CAN_TIM_D_D_SEG1 (c : Nat) : Fld := ⟨CAN_TIM_D c, 20, 16⟩
def CAN_TIM_D_D_SEG2 (c : Nat) : Fld := ⟨CAN_TIM_D c, 11, 8⟩
def CAN_TIM_D_D_SJW (c : Nat) : Fld := ⟨CAN_TIM_D c, 3, 0⟩
def CAN_DLYC (c : Nat) : Nat := 0x4000C + 0x10000 * c
def CAN_DLYC_DLY_MEAS (c : Nat) : Fld := ⟨CAN_DLYC c, 31, 24⟩
def CAN_DLYC_DLY_VALID (c : Nat) : Fld := ⟨CAN_DLYC c, 15, 15⟩
def CAN_DLYC_DLY_OFS (c : Nat) : Fld := ⟨CAN_DLYC c, 7, 0⟩
def CAN_STATUS (c : Nat) : Nat := 0x40010 + 0x10000 * c
def CAN_STATUS_TEC (c : Nat) : Fld := ⟨CAN_STATUS c, 31, 24⟩
def CAN_STATUS_REC (c : Nat) : Fld := ⟨CAN_STATUS c, 23, 16⟩
def CAN_STATUS_RECOV (c : Nat) : Fld := ⟨CAN_STATUS c, 15, 8⟩
def CAN_STATUS_CFG_ERR (c : Nat) : Fld := ⟨CAN_STATUS c, 5, 5⟩
def CAN_STATUS_LONE (c : Nat) : Fld := ⟨CAN_STATUS c, 4, 4⟩
def CAN_STATUS_STATE (c : Nat) : Fld := ⟨CAN_STATUS c, 2, 0⟩
def CAN_LONE (c : Nat) : Nat := 0x40014 + 0x10000 * c
def CAN_LONE_COUNT (c : Nat) : Fld := ⟨CAN_LONE c, 15, 8⟩
def CAN_LONE_LIMIT (c : Nat) : Fld := ⟨CAN_LONE c, 7, 0⟩
def CAN_RXDISC (c : Nat) : Nat := 0x40018 + 0x10000 * c
def CAN_RXDISC_NOMATCH (c : Nat) : Fld := ⟨CAN_RXDISC c, 31, 16⟩
def CAN_RXDISC_LOST (c : Nat) : Fld := ⟨CAN_RXDISC c, 15, 0⟩
def CAN_IRQ_STATUS (c : Nat) : Nat := 0x4001C + 0x10000 * c
def CAN_IRQ_STATUS_SRC (c : Nat) : Fld := ⟨CAN_IRQ_STATUS c, 5, 5⟩
def CAN_IRQ_STATUS_STATE_CHANGE (c : Nat) : Fld := ⟨CAN_IRQ_STATUS c, 4, 4⟩
def CAN_IRQ_STATUS_CANCEL_REFUSED (c : Nat) : Fld := ⟨CAN_IRQ_STATUS c, 3, 3⟩
def CAN_IRQ_STATUS_WRITE_REFUSED (c : Nat) : Fld := ⟨CAN_IRQ_STATUS c, 2, 2⟩
def CAN_IRQ_STATUS_RX (c : Nat) : Fld := ⟨CAN_IRQ_STATUS c, 1, 1⟩
def CAN_IRQ_STATUS_TX_DONE (c : Nat) : Fld := ⟨CAN_IRQ_STATUS c, 0, 0⟩
def CAN_IRQ_EN (c : Nat) : Nat := 0x40020 + 0x10000 * c
def CAN_IRQ_EN_SRC (c : Nat) : Fld := ⟨CAN_IRQ_EN c, 5, 5⟩
def CAN_IRQ_EN_STATE_CHANGE (c : Nat) : Fld := ⟨CAN_IRQ_EN c, 4, 4⟩
def CAN_IRQ_EN_CANCEL_REFUSED (c : Nat) : Fld := ⟨CAN_IRQ_EN c, 3, 3⟩
def CAN_IRQ_EN_WRITE_REFUSED (c : Nat) : Fld := ⟨CAN_IRQ_EN c, 2, 2⟩
def CAN_IRQ_EN_RX (c : Nat) : Fld := ⟨CAN_IRQ_EN c, 1, 1⟩
def CAN_IRQ_EN_TX_DONE (c : Nat) : Fld := ⟨CAN_IRQ_EN c, 0, 0⟩
def CAN_SRC_STATUS (c : Nat) : Nat := 0x40024 + 0x10000 * c
def CAN_SRC_STATUS_ACTIVE (c : Nat) : Fld := ⟨CAN_SRC_STATUS c, 19, 16⟩
def CAN_SRC_STATUS_LATCHED (c : Nat) : Fld := ⟨CAN_SRC_STATUS c, 3, 0⟩
def CAN_SEV (c : Nat) : Nat := 0x40028 + 0x10000 * c
def CAN_SEV_SEVb (c : Nat) : Fld := ⟨CAN_SEV c, 11, 0⟩
def CAN_TXPEND (c n : Nat) : Nat := 0x40030 + 0x10000 * c + 0x4 * n
def CAN_TXPEND_BITS (c n : Nat) : Fld := ⟨CAN_TXPEND c n, 31, 0⟩
def CAN_NEWDAT (c n : Nat) : Nat := 0x40040 + 0x10000 * c + 0x4 * n
def CAN_NEWDAT_BITS (c n : Nat) : Fld := ⟨CAN_NEWDAT c n, 31, 0⟩
def ISO_STATUS (c : Nat) : Nat := 0x40050 + 0x10000 * c
def ISO_STATUS_STATE (c : Nat) : Fld := ⟨ISO_STATUS c, 9, 8⟩
def ISO_STATUS_ADDRESS (c : Nat) : Fld := ⟨ISO_STATUS c, 7, 0⟩
def MO_ID (c n : Nat) : Nat := 0x41000 + 0x10000 * c + 0x80 * n
def MO_ID_XTD (c n : Nat) : Fld := ⟨MO_ID c n, 31, 31⟩
def MO_ID_RTR (c n : Nat) : Fld := ⟨MO_ID c n, 30, 30⟩
def MO_ID_ID (c n : Nat) : Fld := ⟨MO_ID c n, 28, 0⟩
def MO_CTL (c n : Nat) : Nat := 0x41004 + 0x10000 * c + 0x80 * n
def MO_CTL_EN (c n : Nat) : Fld := ⟨MO_CTL c n, 31, 31⟩
def MO_CTL_DIR (c n : Nat) : Fld := ⟨MO_CTL c n, 30, 30⟩
def MO_CTL_FDF (c n : Nat) : Fld := ⟨MO_CTL c n, 29, 29⟩
def MO_CTL_BRS (c n : Nat) : Fld := ⟨MO_CTL c n, 28, 28⟩
def MO_CTL_E2E (c n : Nat) : Fld := ⟨MO_CTL c n, 27, 27⟩
def MO_CTL_OVW (c n : Nat) : Fld := ⟨MO_CTL c n, 26, 26⟩
def MO_CTL_LONE_CANCEL (c n : Nat) : Fld := ⟨MO_CTL c n, 25, 25⟩
def MO_CTL_IRQ_EN (c n : Nat) : Fld := ⟨MO_CTL c n, 24, 24⟩
def MO_CTL_DLC (c n : Nat) : Fld := ⟨MO_CTL c n, 3, 0⟩
def MO_MASK (c n : Nat) : Nat := 0x41008 + 0x10000 * c + 0x80 * n
def MO_MASK_MXTD (c n : Nat) : Fld := ⟨MO_MASK c n, 31, 31⟩
def MO_MASK_MASK (c n : Nat) : Fld := ⟨MO_MASK c n, 28, 0⟩
def MO_STAT (c n : Nat) : Nat := 0x4100C + 0x10000 * c + 0x80 * n
def MO_STAT_PEND (c n : Nat) : Fld := ⟨MO_STAT c n, 31, 31⟩
def MO_STAT_CANCEL (c n : Nat) : Fld := ⟨MO_STAT c n, 30, 30⟩
def MO_STAT_DONE (c n : Nat) : Fld := ⟨MO_STAT c n, 29, 29⟩
def MO_STAT_CANCELLED (c n : Nat) : Fld := ⟨MO_STAT c n, 28, 28⟩
def MO_STAT_NEWDAT (c n : Nat) : Fld := ⟨MO_STAT c n, 27, 27⟩
def MO_STAT_MSGLOST (c n : Nat) : Fld := ⟨MO_STAT c n, 26, 26⟩
def MO_STAT_LOCK (c n : Nat) : Fld := ⟨MO_STAT c n, 25, 25⟩
def MO_STAT_ESI (c n : Nat) : Fld := ⟨MO_STAT c n, 24, 24⟩
def MO_STAT_E2E_ERR (c n : Nat) : Fld := ⟨MO_STAT c n, 23, 22⟩
def MO_TIME_LO (c n : Nat) : Nat := 0x41010 + 0x10000 * c + 0x80 * n
def MO_TIME_LO_TIME (c n : Nat) : Fld := ⟨MO_TIME_LO c n, 31, 0⟩
def MO_TIME_HI (c n : Nat) : Nat := 0x41014 + 0x10000 * c + 0x80 * n
def MO_TIME_HI_TIME (c n : Nat) : Fld := ⟨MO_TIME_HI c n, 31, 0⟩
def MO_SEQ (c n : Nat) : Nat := 0x41018 + 0x10000 * c + 0x80 * n
def MO_SEQ_SEQ (c n : Nat) : Fld := ⟨MO_SEQ c n, 31, 0⟩
def MO_E2E (c n : Nat) : Nat := 0x4101C + 0x10000 * c + 0x80 * n
def MO_E2E_CNT (c n : Nat) : Fld := ⟨MO_E2E c n, 31, 28⟩
def MO_E2E_MAXDELTA (c n : Nat) : Fld := ⟨MO_E2E c n, 27, 24⟩
def MO_E2E_TIMEOUT (c n : Nat) : Fld := ⟨MO_E2E c n, 23, 16⟩
def MO_E2E_DATA_ID (c n : Nat) : Fld := ⟨MO_E2E c n, 15, 0⟩
def MO_DATA (c n k : Nat) : Nat := 0x41020 + 0x10000 * c + 0x80 * n + 0x4 * k
def MO_DATA_DATA (c n k : Nat) : Fld := ⟨MO_DATA c n k, 31, 0⟩

/-! ### ARC (R476) -/

def ARC_CTL : Nat := 0x60000
def ARC_CTL_CS1_EN : Fld := ⟨ARC_CTL, 1, 1⟩
def ARC_CTL_CS0_EN : Fld := ⟨ARC_CTL, 0, 0⟩
def ARC_CFG : Nat := 0x60004
def ARC_CFG_REFRESH_LVL : Fld := ⟨ARC_CFG, 3, 0⟩
def ARC_BLOCKS : Nat := 0x60008
def ARC_BLOCKS_BLOCKS1 : Fld := ⟨ARC_BLOCKS, 31, 16⟩
def ARC_BLOCKS_BLOCKS0 : Fld := ⟨ARC_BLOCKS, 15, 0⟩
def ARC_STATUS : Nat := 0x6000C
def ARC_STATUS_READY : Fld := ⟨ARC_STATUS, 31, 31⟩
def ARC_STATUS_FORMATTED : Fld := ⟨ARC_STATUS, 30, 30⟩
def ARC_STATUS_TABLE_OK : Fld := ⟨ARC_STATUS, 29, 29⟩
def ARC_STATUS_RING_SLOTS : Fld := ⟨ARC_STATUS, 15, 0⟩
def ARC_ECC : Nat := 0x60010
def ARC_ECC_CORR : Fld := ⟨ARC_ECC, 31, 16⟩
def ARC_ECC_UNCORR : Fld := ⟨ARC_ECC, 15, 8⟩
def ARC_ECC_MAXBITS : Fld := ⟨ARC_ECC, 7, 4⟩
def ARC_BAD : Nat := 0x60014
def ARC_BAD_FACTORY : Fld := ⟨ARC_BAD, 31, 16⟩
def ARC_BAD_RUNTIME : Fld := ⟨ARC_BAD, 15, 0⟩
def ARC_RING : Nat := 0x60018
def ARC_RING_NEXT_INDEX : Fld := ⟨ARC_RING, 31, 0⟩
def ARC_OP : Nat := 0x60020
def ARC_OP_GO : Fld := ⟨ARC_OP, 31, 31⟩
def ARC_OP_CS : Fld := ⟨ARC_OP, 8, 8⟩
def ARC_OP_CODE : Fld := ⟨ARC_OP, 1, 0⟩
def ARC_ROW : Nat := 0x60024
def ARC_ROW_ROW : Fld := ⟨ARC_ROW, 19, 0⟩
def ARC_DMA : Nat := 0x60028
def ARC_DMA_ADDR : Fld := ⟨ARC_DMA, 31, 0⟩
def ARC_OP_STATUS : Nat := 0x6002C
def ARC_OP_STATUS_RESULT : Fld := ⟨ARC_OP_STATUS, 2, 0⟩
def ARC_IRQ_STATUS : Nat := 0x60030
def ARC_IRQ_STATUS_SRC : Fld := ⟨ARC_IRQ_STATUS, 1, 1⟩
def ARC_IRQ_STATUS_OP_DONE : Fld := ⟨ARC_IRQ_STATUS, 0, 0⟩
def ARC_IRQ_EN : Nat := 0x60034
def ARC_IRQ_EN_SRC : Fld := ⟨ARC_IRQ_EN, 1, 1⟩
def ARC_IRQ_EN_OP_DONE : Fld := ⟨ARC_IRQ_EN, 0, 0⟩
def ARC_SRC_STATUS : Nat := 0x60038
def ARC_SRC_STATUS_ACTIVE : Fld := ⟨ARC_SRC_STATUS, 18, 16⟩
def ARC_SRC_STATUS_LATCHED : Fld := ⟨ARC_SRC_STATUS, 2, 0⟩
def ARC_SEV : Nat := 0x6003C
def ARC_SEV_SEVb : Fld := ⟨ARC_SEV, 8, 0⟩

/-! ### SEC (R477) -/

def SEC_LC : Nat := 0x70000
def SEC_LC_DEBUG_OPEN : Fld := ⟨SEC_LC, 7, 7⟩
def SEC_LC_STATE : Fld := ⟨SEC_LC, 2, 0⟩
def SEC_BOOT : Nat := 0x70004
def SEC_BOOT_TRIAL : Fld := ⟨SEC_BOOT, 15, 15⟩
def SEC_BOOT_FALLBACK : Fld := ⟨SEC_BOOT, 14, 14⟩
def SEC_BOOT_CHIMG_SLOT : Fld := ⟨SEC_BOOT, 13, 13⟩
def SEC_BOOT_COLMO_SLOT : Fld := ⟨SEC_BOOT, 12, 12⟩
def SEC_BOOT_CAUSE : Fld := ⟨SEC_BOOT, 7, 0⟩
def SEC_ROLLBACK : Nat := 0x70008
def SEC_ROLLBACK_COUNT : Fld := ⟨SEC_ROLLBACK, 6, 0⟩
def SEC_KEYS : Nat := 0x7000C
def SEC_KEYS_ID_VALID : Fld := ⟨SEC_KEYS, 16, 16⟩
def SEC_KEYS_REVOKED : Fld := ⟨SEC_KEYS, 15, 8⟩
def SEC_KEYS_PROGRAMMED : Fld := ⟨SEC_KEYS, 7, 0⟩
def SEC_UID (n : Nat) : Nat := 0x70010 + 0x4 * n
def SEC_UID_UID (n : Nat) : Fld := ⟨SEC_UID n, 31, 0⟩
def SEC_IRQ_STATUS : Nat := 0x70020
def SEC_IRQ_STATUS_SRC : Fld := ⟨SEC_IRQ_STATUS, 1, 1⟩
def SEC_IRQ_STATUS_LC_CHANGE : Fld := ⟨SEC_IRQ_STATUS, 0, 0⟩
def SEC_IRQ_EN : Nat := 0x70024
def SEC_IRQ_EN_SRC : Fld := ⟨SEC_IRQ_EN, 1, 1⟩
def SEC_IRQ_EN_LC_CHANGE : Fld := ⟨SEC_IRQ_EN, 0, 0⟩
def SEC_SRC_STATUS : Nat := 0x70028
def SEC_SRC_STATUS_ACTIVE : Fld := ⟨SEC_SRC_STATUS, 16, 16⟩
def SEC_SRC_STATUS_LATCHED : Fld := ⟨SEC_SRC_STATUS, 0, 0⟩
def SEC_SEV : Nat := 0x7002C
def SEC_SEV_SIG_FAIL_SEV : Fld := ⟨SEC_SEV, 2, 0⟩

/-! ### SMCB (R328) -/

def SMC_PAIR_STATUS : Nat := 0x80000
def SMC_PAIR_STATUS_LOCKSTEP_BROKEN : Fld := ⟨SMC_PAIR_STATUS, 31, 31⟩
def SMC_PAIR_STATUS_HALTED : Fld := ⟨SMC_PAIR_STATUS, 30, 30⟩
def SMC_PAIR_STATUS_PLUMB_FAIL : Fld := ⟨SMC_PAIR_STATUS, 3, 3⟩
def SMC_PAIR_STATUS_PARITY_OUT : Fld := ⟨SMC_PAIR_STATUS, 2, 2⟩
def SMC_PAIR_STATUS_PARITY_IN : Fld := ⟨SMC_PAIR_STATUS, 1, 1⟩
def SMC_PAIR_STATUS_MISMATCH : Fld := ⟨SMC_PAIR_STATUS, 0, 0⟩
def SMC_PLUMB_STAT : Nat := 0x80004
def SMC_PLUMB_STAT_PASSES : Fld := ⟨SMC_PLUMB_STAT, 31, 16⟩
def SMC_PLUMB_STAT_LANE : Fld := ⟨SMC_PLUMB_STAT, 5, 0⟩
def SMC_CVU_IRQ_STATUS : Nat := 0x80008
def SMC_CVU_IRQ_STATUS_CVU : Fld := ⟨SMC_CVU_IRQ_STATUS, 7, 0⟩
def SMC_CVU_IRQ_EN : Nat := 0x8000C
def SMC_CVU_IRQ_EN_CVU : Fld := ⟨SMC_CVU_IRQ_EN, 7, 0⟩
def SMC_CVU_CTL (n : Nat) : Nat := 0x80100 + 0x20 * n
def SMC_CVU_CTL_WIDTH (n : Nat) : Fld := ⟨SMC_CVU_CTL n, 5, 4⟩
def SMC_CVU_CTL_POLY (n : Nat) : Fld := ⟨SMC_CVU_CTL n, 1, 0⟩
def SMC_CVU_DATA (n : Nat) : Nat := 0x80104 + 0x20 * n
def SMC_CVU_DATA_DATA (n : Nat) : Fld := ⟨SMC_CVU_DATA n, 31, 0⟩
def SMC_CVU_VAL (n : Nat) : Nat := 0x80108 + 0x20 * n
def SMC_CVU_VAL_VAL (n : Nat) : Fld := ⟨SMC_CVU_VAL n, 31, 0⟩
def SMC_CVU_RES (n : Nat) : Nat := 0x8010C + 0x20 * n
def SMC_CVU_RES_RES (n : Nat) : Fld := ⟨SMC_CVU_RES n, 31, 0⟩
def SMC_CVU_EXP (n : Nat) : Nat := 0x80110 + 0x20 * n
def SMC_CVU_EXP_EXP (n : Nat) : Fld := ⟨SMC_CVU_EXP n, 31, 0⟩
def SMC_CVU_REQ (n : Nat) : Nat := 0x80114 + 0x20 * n
def SMC_CVU_REQ_CHECK (n : Nat) : Fld := ⟨SMC_CVU_REQ n, 1, 1⟩
def SMC_CVU_REQ_INIT (n : Nat) : Fld := ⟨SMC_CVU_REQ n, 0, 0⟩
def SMC_CVU_STAT (n : Nat) : Nat := 0x80118 + 0x20 * n
def SMC_CVU_STAT_MATCH (n : Nat) : Fld := ⟨SMC_CVU_STAT n, 1, 1⟩
def SMC_CVU_STAT_MISMATCH (n : Nat) : Fld := ⟨SMC_CVU_STAT n, 0, 0⟩

/-! ### BIST (R353) -/

def BIST_CFG : Nat := 0x90000
def BIST_CFG_UC_MAX_AGE : Fld := ⟨BIST_CFG, 15, 8⟩
def BIST_CFG_UC_EN : Fld := ⟨BIST_CFG, 4, 4⟩
def BIST_CFG_FAIL_ACT : Fld := ⟨BIST_CFG, 1, 0⟩
def BIST_STATUS : Nat := 0x90004
def BIST_STATUS_REC_FOUND : Fld := ⟨BIST_STATUS, 31, 31⟩
def BIST_STATUS_REC_CRC_OK : Fld := ⟨BIST_STATUS, 30, 30⟩
def BIST_STATUS_REC_YOUNG : Fld := ⟨BIST_STATUS, 29, 29⟩
def BIST_STATUS_PATH : Fld := ⟨BIST_STATUS, 25, 24⟩
def UC_AGE : Nat := 0x90008
def UC_AGE_AGE : Fld := ⟨UC_AGE, 31, 0⟩
def UC_TIME_LO : Nat := 0x9000C
def UC_TIME_LO_TIME : Fld := ⟨UC_TIME_LO, 31, 0⟩
def UC_TIME_HI : Nat := 0x90010
def UC_TIME_HI_TIME : Fld := ⟨UC_TIME_HI, 31, 0⟩
def BIST_RES (n : Nat) : Nat := 0x90020 + 0x4 * n
def BIST_RES_UC_RES (n : Nat) : Fld := ⟨BIST_RES n, 31, 28⟩
def BIST_RES_RUN_RES (n : Nat) : Fld := ⟨BIST_RES n, 27, 24⟩
def BIST_RES_SRC (n : Nat) : Fld := ⟨BIST_RES n, 23, 23⟩
def BIST_RES_SPARES (n : Nat) : Fld := ⟨BIST_RES n, 19, 16⟩
def BIST_RES_FAIL_MACRO (n : Nat) : Fld := ⟨BIST_RES n, 15, 8⟩
def REPAIR_STAT : Nat := 0x90040
def REPAIR_STAT_SOFT : Fld := ⟨REPAIR_STAT, 31, 24⟩
def REPAIR_STAT_FUSE : Fld := ⟨REPAIR_STAT, 23, 16⟩
def BIST_REQ : Nat := 0x90044
def BIST_REQ_START : Fld := ⟨BIST_REQ, 31, 31⟩
def BIST_REQ_FUSE : Fld := ⟨BIST_REQ, 30, 30⟩
def BIST_REQ_TEST : Fld := ⟨BIST_REQ, 6, 4⟩
def BIST_REQ_TARGET : Fld := ⟨BIST_REQ, 3, 0⟩
def BIST_RUN : Nat := 0x90048
def BIST_RUN_BUSY : Fld := ⟨BIST_RUN, 31, 31⟩
def BIST_RUN_REFUSED : Fld := ⟨BIST_RUN, 30, 30⟩
def BIST_RUN_RESULT : Fld := ⟨BIST_RUN, 3, 0⟩
def FAIL_ROW (n : Nat) : Nat := 0x90100 + 0x4 * n
def FAIL_ROW_VALID (n : Nat) : Fld := ⟨FAIL_ROW n, 31, 31⟩
def FAIL_ROW_MACRO (n : Nat) : Fld := ⟨FAIL_ROW n, 23, 16⟩
def FAIL_ROW_ROW (n : Nat) : Fld := ⟨FAIL_ROW n, 15, 0⟩

end Sys2Proof.Machine
end

