-- ==== Sys2Proof/Machine/Regs.lean ====
section
/-! DEFINITION. Machine/Regs.lean: a file of registers as plain data, its reads and writes, the reset words of R524 and the
access codes of R11. A register file lists, at strictly rising offsets, the registers that differ from their reset words. -/

namespace Sys2Proof.Machine

/-- A file of registers: offset and word, offsets strictly rising, no word equal to its register's reset word. -/
abbrev RegMap := List (Nat × Word)

/-- The word whose fields hold the reset values of a row (R524). -/
def resetOf (fs : List FieldDesc) : Nat := fs.foldl (fun a f => a + f.reset * 2 ^ f.lo) 0

/-- Whether an offset is an instance of a row (R523). -/
def covers (d : RegDesc) (a : Nat) : Bool :=
  if a < d.first then false
  else
    let r := a - d.first
    let w := if d.winCount ≤ 1 then 0 else min (r / d.winStride) (d.winCount - 1)
    let q := r - w * (if d.winCount ≤ 1 then 0 else d.winStride)
    if d.idxCount ≤ 1 then q == 0 else q % d.idxStride == 0 && Nat.blt (q / d.idxStride) d.idxCount

/-- The row of a map that an offset belongs to, if the offset decodes. -/
def findDesc : List RegDesc → Nat → Option RegDesc
  | [], _ => none
  | d :: ds, a => if covers d a then some d else findDesc ds a

/-- The map of the channel block that an offset lies in (R521, R523): block `offset / 0x1000`. -/
def chanBlockMap (a : Nat) : List RegDesc :=
  match a / 4096 with
  | 0 => mapChctl
  | 1 => mapAdc
  | 2 => mapSinc
  | 3 => mapXchk
  | 4 => mapDtc
  | 5 => mapMask
  | 6 => mapObs
  | 7 => mapSlice
  | 8 => mapProt
  | 9 => mapDust
  | 10 => mapMsio
  | 11 => mapCore
  | 12 => mapSkim
  | _ => []

/-- The map of the device block that an offset (address minus 0x1000_0000) lies in; both CAN blocks share one map. -/
def devBlockMap (a : Nat) : List RegDesc :=
  match a / 65536 with
  | 0 => mapSys
  | 1 => mapAon
  | 2 => mapHostq
  | 3 => mapEth
  | 4 => mapCan
  | 5 => mapCan
  | 6 => mapArc
  | 7 => mapSec
  | 8 => mapSmcb
  | 9 => mapBist
  | _ => []

/-- The offset under which a device block's map lists an address: the CAN map counts from its controller's base. -/
def devMapOffset (a : Nat) : Nat := if a / 65536 = 4 ∨ a / 65536 = 5 then a % 65536 else a

/-- V m(x) of R155: the active vector number ((x - 1) mod 6) + 1, for an `x` given with 6 added. -/
def stencilVec (x6 : Nat) : Nat := (x6 - 1) % 6 + 1

/-- The stencil word of an index at reset (R154, R155): entry 6 × sector + 3 × fs + (ts + 1). -/
def stencilReset (i : Nat) : Nat :=
  if 36 ≤ i then 0x20
  else
    let k := i / 6 + 1
    match i % 6 with
    | 0 => stencilVec (k + 6 - 2)
    | 1 => 0x20
    | 2 => stencilVec (k + 6 + 2)
    | 3 => stencilVec (k + 6 - 1)
    | 4 => 0x20
    | _ => stencilVec (k + 6 + 1)

/-- The row of a channel offset. -/
def chanDesc (a : Nat) : Option RegDesc := findDesc (chanBlockMap a) a
/-- The row of a device offset. -/
def devDesc (a : Nat) : Option RegDesc := findDesc (devBlockMap a) (devMapOffset a)

/-- The reset word of a row's register, 0 where the offset does not decode. -/
def descReset : Option RegDesc → Nat
  | none => 0
  | some d => resetOf d.fields

/-- The reset word of a channel register: the stencil bank by R155, every other register by its map. -/
def chanReset (a : Nat) : Nat :=
  if 0x4800 ≤ a ∧ a < 0x4920 then stencilReset ((a - 0x4800) / 4) else descReset (chanDesc a)

/-- The reset word of a device register. -/
def devReset (a : Nat) : Nat := descReset (devDesc a)

/-- The word listed at an offset, if one is. -/
def RegMap.find? : RegMap → Nat → Option Word
  | [], _ => none
  | (k, w) :: m, a => if k = a then some w else RegMap.find? m a

/-- The file without its entry at an offset. -/
def RegMap.erase : RegMap → Nat → RegMap
  | [], _ => []
  | (k, w) :: m, a => if k = a then RegMap.erase m a else (k, w) :: RegMap.erase m a

/-- The file with an entry put in its place by offset. -/
def RegMap.insert : RegMap → Nat → Word → RegMap
  | [], a, v => [(a, v)]
  | (k, w) :: m, a, v => if a < k then (a, v) :: (k, w) :: m else (k, w) :: RegMap.insert m a v

/-- The word at an offset whose reset word is `d`. -/
def RegMap.get (m : RegMap) (d a : Nat) : Nat :=
  match RegMap.find? m a with
  | some w => w.toNat
  | none => d

/-- The file with a word written at an offset whose reset word is `d`; the canonical form is kept. -/
def RegMap.set (m : RegMap) (d a v : Nat) : RegMap :=
  if v % 2 ^ 32 = d then RegMap.erase m a else RegMap.insert (RegMap.erase m a) a (BitVec.ofNat 32 v)

/-- The canonical form: offsets strictly rising, no entry at its reset word. -/
def RegMap.wf (dflt : Nat → Nat) : RegMap → Bool
  | [] => true
  | (k, w) :: m => !(w.toNat == dflt k) && (match m with
      | [] => true
      | (k', _) :: _ => Nat.blt k k') && RegMap.wf dflt m

/-- The value of bits `hi:lo` of a word. -/
def bitsOf (w hi lo : Nat) : Nat := w / 2 ^ lo % 2 ^ (hi + 1 - lo)

/-- A word with bits `hi:lo` replaced by the low bits of `v`. -/
def putBits (w hi lo v : Nat) : Nat :=
  w - bitsOf w hi lo * 2 ^ lo + v % 2 ^ (hi + 1 - lo) * 2 ^ lo

/-- The mask of a field's bits. -/
def fieldMask (f : FieldDesc) : Nat := (2 ^ (f.hi + 1 - f.lo) - 1) * 2 ^ f.lo

/-- Whether a field's writes go to the shadow bank. -/
def fieldRwc (f : FieldDesc) : Bool :=
  match f.acc with
  | .rwc => true
  | .rwcLk => true
  | _ => false

/-- The bits of a word that belong to the RWC fields of a row. -/
def rwcMask (fs : List FieldDesc) : Nat := fs.foldl (fun a f => if fieldRwc f then a + fieldMask f else a) 0

end Sys2Proof.Machine
end

