-- ==== Sys2Proof/Machine/ChanState.lean ====
section
/-! DEFINITION. Machine/ChanState.lean: what a channel holds beside its registers, one structure a unit. Times are in
ticks of the device's own clock; a register the spec names is never repeated here. -/

namespace Sys2Proof.Machine

/-! ### Timebase and records -/

/-- A channel's copy of the device time (R33, R34): what the copy held at the last exchange, made or missed, and how it has
run since. -/
structure TimeBase where
  /-- The instant of the last exchange, made or missed. -/
  at_ : Tick := 0
  /-- ns that the copy lay ahead of the count of ns at that instant. -/
  off : Int := 0
  /-- The deviation of the channel's oscillator in ppb, as the last exchange found it. -/
  drift : Int := 0
  /-- The rate correction in force, in ppb (R33); holdover keeps the last one. -/
  rate : Int := 0
  /-- Consecutive missed exchanges. -/
  missed : Nat := 0
  /-- Holdover (R34). -/
  hold : Bool := false
  /-- ns to be slewed from that instant on, at most 1 µs a millisecond. -/
  slew : Int := 0
  /-- What the copy read before its last correction: timestamps never step backwards. -/
  last : Nat := 0
  /-- The instant in device time that the events of a decision carry while it is worked out (R38). -/
  stamp : Option Nat := none
  deriving DecidableEq, Repr

/-- The body of a record: an EVT record of R417 with its DETAIL as two words of bytes 0 to 3 and 4 to 7, or a TLM record
of R415. -/
inductive RecBody where
  | evt (type block bit sev d0 d1 : Nat)
  | tlm (sub flags tqSeq idx : Nat) (slots : List Nat)
  deriving DecidableEq, Repr

/-- A record with its source's sequence number, its timestamp and the holdover mark (R31, R34). -/
structure Rec where
  seq : Nat
  time : Nat
  hold : Bool
  body : RecBody
  deriving DecidableEq, Repr

/-- A channel's record output (R25): the buffer oldest first, the next sequence number and the drop counts. -/
structure RecOut where
  seq : Nat := 0
  buf : List Rec := []
  /-- Records dropped since the last EVT record of type 7. -/
  dropped : Nat := 0
  /-- A record was dropped since the last TLM record (FLAGS bit 3 of R415). -/
  dropFlag : Bool := false
  deriving DecidableEq, Repr

/-- A telemetry subscription as its channel runs it (R414): the signal codes, the registers of codes 62 and 63, the
divider and its count, the records made. -/
structure Subscr where
  sub : Nat
  flow : Nat
  decim : Nat
  count : Nat
  perFrame : Nat
  signals : List Nat
  reg0 : Nat
  reg1 : Nat
  idx : Nat
  deriving DecidableEq, Repr

/-! ### CHCTL -/

/-- The steps of the ARM sequence (R55, R292). -/
inductive ArmStep where
  | check
  | primer
  | companion
  | charging
  | mainClose
  | preOpen
  | ready
  deriving DecidableEq, Repr

/-- A running ARM sequence (R55): whether ARM was accepted in HOLD, its step and that step's start, the acceptance, and
the contactors it has closed (bit n - 1 for CDRVn). -/
structure ArmSeq where
  fromHold : Bool
  step : ArmStep
  stepAt : Tick
  start : Tick
  closed : Nat
  deriving DecidableEq, Repr

/-- A transition that waits for its 1 ms (R530). -/
structure Trans where
  dest : Nat
  since : Tick
  deriving DecidableEq, Repr

/-- The two kinds of a commit. -/
inductive Kind where
  | tuning
  | safety
  deriving DecidableEq, Repr

/-- A pending commit (R64, R65): its kind, the instant of the request, its CRC, and for a safety set its identity. -/
structure Commit where
  kind : Kind
  at_ : Tick
  crc : Nat
  id : Option SetId
  deriving DecidableEq, Repr

/-- A staged safety commit (R64): its CRC, the instant of the stage, the set's identity; none where the pair staged the set by
COMMIT_CTL, without one that Colmo has verified (log 18). -/
structure Stage where
  crc : Nat
  at_ : Tick
  id : Option SetId
  deriving DecidableEq, Repr

/-- The copy after a landing (R62): the kind copied, the landing, and the writes held, oldest first. -/
structure Copying where
  kind : Kind
  at_ : Tick
  held : List (Nat × Nat)
  deriving DecidableEq, Repr

/-- A streamed command that waits for the landing of its bundle's commit (R69). -/
structure HeldTq where
  seq : Nat
  /-- The torque reference; none for a speed-limit command (R411). -/
  tq : Option Nat
  /-- The speed limit; none for the one in force (R410). -/
  spd : Option Nat
  /-- DEADLINE, 0 for none. -/
  deadline : Nat
  /-- The flow, or 256 for the CAN A mapping (R409). -/
  owner : Nat
  bundle : Nat
  tag : Nat
  deriving DecidableEq, Repr

/-- The operations of a channel that Colmo answers when they end (R393, R404, R536). -/
inductive ChOp where
  | arm
  | commit
  | confirm
  | stage
  | skimPass
  deriving DecidableEq, Repr

/-- The end of such an operation as Colmo sees it: the status of R394 and the words of its response data. -/
structure OpDone where
  op : ChOp
  status : Nat
  words : List Nat
  deriving DecidableEq, Repr

/-- What CHCTL holds beside its registers. -/
structure Ctl where
  arm : Option ArmSeq := none
  /-- DISARM has been accepted and acts until the channel leaves ARMED, RUN or HOLD (R53). -/
  disarm : Bool := false
  /-- The instant of the last DISARM request (R52). -/
  disarmAt : Option Tick := none
  /-- The ramp of that DISARM has ended. -/
  rampEnded : Bool := false
  /-- The boundary at which the lapse timer was last restarted (R57). -/
  lapseAt : Tick := 0
  trans : Option Trans := none
  /-- CLEAR_FAULT received in this FAULT episode (R59 condition 3). -/
  clr : Bool := false
  /-- Condition 1 of R59 has held in this FAULT episode, since this instant. -/
  cond1 : Option Tick := none
  commit : Option Commit := none
  /-- A staged safety commit (R64). -/
  stage : Option Stage := none
  /-- The last stage has passed its 5 s unconfirmed (R402). -/
  stageLapsed : Bool := false
  copying : Option Copying := none
  heldTq : Option HeldTq := none
  /-- The set is committed, its CRC correct (CH_READY bits 0 and 1), the safety set's signature verified by Colmo. -/
  tuningOk : Bool := false
  safetyOk : Bool := false
  /-- The self-test condition of CH_READY bit 3. -/
  selfTest : Bool := false
  /-- The identity installed in the module, as the channel knows it (CH_READY bit 2). -/
  devId : Option Nat := none
  /-- The identity of the committed safety set (R402). -/
  kept : Option SetId := none
  /-- The sequence number of the last streamed command applied (R46); `none` before the first. -/
  lastSeq : Option Nat := none
  /-- The owner of the torque stream (R409). -/
  owner : Option Nat := none
  /-- The instant of the last change of state (R52). -/
  stateAt : Tick := 0
  /-- An ARM that was refused: its instant, and LAST_REFUSAL and ARM_REFUSED as they stood before, for a DISARM of the same cycle (R52). -/
  refused : Option (Tick × Nat × Nat) := none
  /-- The instant at which the core pair was held (R310, R311). -/
  heldAt : Option Tick := none
  deriving DecidableEq, Repr

/-- The base values of R4 as binary32 codes, those of the tuning set in force; 1.0 before the first one (log 19). -/
structure Bases where
  i : Nat := 0x3F800000
  v : Nat := 0x3F800000
  psi : Nat := 0x3F800000
  t : Nat := 0x3F800000
  w : Nat := 0x3F800000
  deriving DecidableEq, Repr

/-! ### Waveform rings (R35, R36, R418, R461) -/

/-- The state of a channel's waveform rings. -/
inductive RingPhase where
  | running
  | post
  | frozen
  deriving DecidableEq, Repr

/-- A configuration of SNAP_CFG (R418): signal codes, boundaries a sample, samples before the trigger. -/
structure SnapCfg where
  signals : List Nat := []
  div : Nat := 1
  pre : Nat := 0
  deriving DecidableEq, Repr

/-- A channel's waveform rings: state, the trigger and its instant, what set it off, the configuration in force and the one that
takes effect when the rings next start, the samples newest first (at most 65,536, R460), boundaries to the next sample, whether
holdover marked one of them. -/
structure Ring where
  phase : RingPhase := .running
  trigTime : Nat := 0
  /-- The DUST_CAUSE word and its sequence number at the trigger; 0 for a commanded trigger. -/
  cause : Nat := 0
  causeSeq : Nat := 0
  manual : Bool := false
  cfg : SnapCfg := {}
  next : SnapCfg := {}
  samples : List (List Nat) := []
  skip : Nat := 0
  hold : Bool := false
  deriving DecidableEq, Repr

/-! ### SLICE -/

/-- A change of a pair's pulse and enable on its way to a slice (R205). -/
structure WireEdge where
  at_ : Tick
  pulse : Bool
  en : Bool
  deriving DecidableEq, Repr

/-- An edge a slice has received and whose tag it waits for (R221, R222): the edge count, the levels received, whether its own
switch had a gate edge with it, that edge's direction and the segments used (minus 1), its instant. -/
structure SliceEdge where
  count : Nat
  pulse : Bool
  en : Bool
  own : Bool
  on : Bool
  seg : Nat
  at_ : Tick
  deriving DecidableEq, Repr

/-- An edge report on its way to the channel (R223, R228): direction, flags, segments used minus 1, times in 0.5 ns counts, the
edges at a limit, whether a step was frozen. -/
structure SlReport where
  on : Bool
  noTrans : Bool
  frozen : Bool
  seg : Nat
  tDly : Nat
  tSw : Nat
  lim : Nat
  count : Nat
  deriving DecidableEq, Repr

/-- An EDGE_TAG on its way to a slice (R222): the leg's edge count modulo 256, the resulting pulse and enable, FORCED, SAFE, EXT. -/
structure EdgeTag where
  count : Nat
  pulse : Bool
  en : Bool
  forced : Bool
  safe : Bool
  ext : Bool
  deriving DecidableEq, Repr

/-- A frame of a data channel (R206): TYPE, SEQ, ADDR, and DATA where the spec gives the payload a layout. -/
structure SlFrame where
  type : Nat
  seq : Nat
  addr : Nat
  data : Option Nat
  deriving DecidableEq, Repr

/-- A configuration write the channel still has to see acknowledged and read back (R207): the register's offset in the
slice's copy, the attempts made, and whether the WRITE_ACK has come. -/
structure CfgWrite where
  reg : Nat
  tries : Nat
  acked : Bool
  deriving DecidableEq, Repr

/-- One slice: its island, what it has received, and what the channel tracks of it. -/
structure SliceSt where
  /-- The island is powered. -/
  power : Bool := false
  /-- Pulse and enable received on the edge channel; for slice 7 the discharge command and its enable. -/
  pulse : Bool := false
  en : Bool := false
  /-- The changes still on the edge channel, oldest first. -/
  wire : List WireEdge := []
  /-- The instant at which the received enable fell, while it is 0. -/
  enLow : Option Tick := some 0
  /-- The edges received, modulo 256. -/
  edges : Nat := 0
  partnerOff : Bool := true
  partnerOffAt : Tick := 0
  /-- The gate-source voltage lies above the midpoint of its rails, and the instant of its last change. -/
  gateOn : Bool := false
  gateAt : Tick := 0
  /-- The switch is commanded on by the slice: its turn-on gate edge has begun. -/
  isOn : Bool := false
  onAt : Tick := 0
  /-- The asking edge of a turn-on that has not happened yet (R211). -/
  asking : Option Tick := none
  dtDone : Bool := false
  /-- SC1 is ignored (R236). -/
  blanking : Bool := false
  /-- The segments of the gate edge in progress or last made, 1 to 16 (R220, R223, R238). -/
  segs : Nat := 16
  /-- A soft turn-off holds its plateau; the turn-off in progress or last made is a soft one (R238). -/
  plateau : Bool := false
  soft : Bool := false
  /-- The slice's own latch, bits as SL_FAULT.LATCH. -/
  latch : Nat := 0
  /-- The slice's copy of its configuration, by channel offset. -/
  cfg : RegMap := []
  todo : List CfgWrite := []
  /-- The whole configuration has been read back correctly since the island powered up (R208). -/
  cfgOk : Bool := false
  /-- The last attempt or check has failed (R207). -/
  cfgBad : Bool := false
  /-- Segment counts for the next edges, minus 1, as the slice holds them. -/
  segOn : Nat := 7
  segOff : Nat := 7
  /-- Consecutive edges at a limit, and edges without a transition (R223). -/
  limOn : Nat := 0
  limOff : Nat := 0
  noTransN : Nat := 0
  edgesBuf : List SliceEdge := []
  reports : List SlReport := []
  /-- The last off-state drain-source value since island power-up (R225). -/
  vdsRef : Option Int := none
  /-- The instants of the last invalid frames from this slice, newest first, at most 17. -/
  bad : List Tick := []
  /-- The frame counters of the two directions (R206), modulo 16. -/
  seqTo : Nat := 0
  seqFrom : Nat := 0
  /-- The last valid frame in each direction, and the tags that the channel has formed and the slice not received, oldest first. -/
  sentTo : Option SlFrame := none
  sentFrom : Option SlFrame := none
  tags : List EdgeTag := []
  /-- The instant since which the supplies have lain within their limits (R208). -/
  railsAt : Option Tick := none
  /-- The answer to the last READ frame: the register and its value (R206). -/
  reply : Option (Nat × Nat) := none
  /-- Slice 7 runs autonomous discharge (R254), has run it unreported, and its own energy accumulator. -/
  auto : Bool := false
  autoSeen : Bool := false
  autoE : Rat := 0
  deriving DecidableEq, Repr

/-- A running primer test (R230): the phase under test, the instant its sources switched on, the readings of VL, VH and the
returned current, the averaging start, or the final 1 ms. -/
structure Primer where
  phase : Nat
  since : Tick
  /-- The last reading of VL and VH in mV. -/
  last : Option (Int × Int)
  avgAt : Option Tick
  /-- The readings averaged: VL, VH in mV, the returned current as a fraction of I_T in 1/65,536, newest first. -/
  sums : List (Int × Int × Int)
  /-- Sources and sinks are off, since `since`, for the last 1 ms. -/
  off : Bool
  deriving DecidableEq, Repr

/-- The modulator and the common part of SLICE. -/
structure Modul where
  /-- Bit p: pair p is held at enable 0 by R212. -/
  ilk : Nat := 0
  /-- Edge counts of the legs U, V, W and of BR, modulo 256. -/
  legEdges : List Nat := [0, 0, 0, 0]
  /-- Per pair: the instant of the last fall of its filtered EN pin. -/
  pinFall : List Tick := [0, 0, 0, 0]
  primer : Option Primer := none
  /-- The last pulse changes of the legs, newest first: the instant at which each left the modulator, the leg, the level (R87). -/
  hist : List (Tick × Nat × Bool) := []
  /-- The slices whose condition holds a shared source active: per source bit of R233, a mask of slices. -/
  who : List Nat := [0, 0, 0, 0, 0, 0, 0, 0, 0, 0, 0, 0, 0]
  deriving DecidableEq, Repr

/-! ### PROT -/

/-- A running discharge sequence (R251, R537): who started or joined it, the wait's start, slice 7's turn-on and the link
value then, whether CHECK_T has passed. -/
structure Dchg where
  byS4 : Bool
  byPin : Bool
  byCmd : Bool
  waitAt : Tick
  onAt : Option Tick
  v0 : Int
  checked : Bool
  deriving DecidableEq, Repr

/-- A chopper command whose proof is due (R245). -/
structure ChopProof where
  at_ : Tick
  link : Int
  deriving DecidableEq, Repr

/-- What PROT holds beside its registers. -/
structure Prot where
  /-- A safe state has been in force since this instant (R243). -/
  safeAt : Option Tick := none
  /-- OV2 was active when the safe state came into force and has stayed so (second case of R243). -/
  ov2Held : Bool := false
  chopAt : Option Tick := none
  proof : Option ChopProof := none
  /-- A test command is asked for or runs, since this instant (R247). -/
  test : Option Tick := none
  dchg : Option Dchg := none
  /-- The energy accumulator in joules (R252). -/
  energy : Rat := 0
  /-- nDCHG_REQ has been low for more than 10 µs. -/
  pinLow : Bool := false
  /-- Winding discharge runs, since this instant. -/
  wind : Option Tick := none
  /-- The conditions of R255 held at the last boundary. -/
  windCond : Bool := false
  deriving DecidableEq, Repr

/-! ### DUST -/

/-- What the dust sheet holds beside its registers. -/
structure Dust where
  /-- The ends of a running hard-short hold and of a running core hold (R273). -/
  hardEnd : Option Tick := none
  coreEnd : Option Tick := none
  /-- The off-state monitor's counters of slices 0 to 5 (R270). -/
  mon : List Nat := [0, 0, 0, 0, 0, 0]
  /-- The selected output's pulses, bit leg. -/
  pulse : Nat := 0
  /-- An S4 event the SMC has not forwarded yet (R21, R22). -/
  fwd : Bool := false
  /-- nFAULT is driven low (R281). -/
  nfault : Bool := false
  deriving DecidableEq, Repr

/-! ### MSIO -/

/-- What MSIO holds beside its registers. -/
structure Msio where
  /-- The raw levels of CFB1 to CFB3, bit n - 1. -/
  cfbRaw : Nat := 0
  /-- Per contactor: the instant of the last change of its command or its feedback (R290). -/
  cmpAt : List Tick := [0, 0, 0]
  /-- Per contactor: the instant of the last change of its feedback. -/
  fbAt : List Tick := [0, 0, 0]
  /-- The contactors that hold CFB_DISCREP and CONT_WELD active, bit n - 1. -/
  discBy : Nat := 0
  weldBy : Nat := 0
  /-- The precharge timer's start (R292). -/
  preAt : Option Tick := none
  /-- The instant since which the guard inputs have been equivalent (R295). -/
  equivAt : Option Tick := none
  /-- A press under way: its beginning and whether it can count (R298). -/
  press : Option (Tick × Bool) := none
  /-- The newest corrected results on the result bus that match PRE_SRC: value and instant (R293). -/
  vsrc : Option (Int × Tick) := none
  deriving DecidableEq, Repr

/-! ### ADC -/

/-- A sequence of a converter in progress (R76 to R80): its slot (the input code in a scan), the trigger bits or, for a regular
sequence, the resolver event it answers (0 none, 1 first, 2 second), the trigger's instant, the start of sampling of the present
slot, whether that slot repeats an abandoned one, and, once a landing has come between its sampling and its correction (R86), the
input code, offset and gain it is corrected with, one entry a converter of the pair. -/
structure Seq where
  slot : Nat
  trig : Nat
  trigAt : Tick
  sampleAt : Tick
  rep : Bool
  snap : List (Nat × Int × Int)
  deriving DecidableEq, Repr

/-- An entry of a result FIFO (R88): the word as FIFO_DATA returns it, and its timestamp. -/
structure FifoEntry where
  word : Nat
  time : Nat
  deriving DecidableEq, Repr

/-- A converter (R73, R77 to R83, R88): its running sequences, a held regular trigger with its resolver mark, the boundary
divider, its FIFO, oldest first. -/
structure Conv where
  inj : Option Seq := none
  reg : Option Seq := none
  held : Option Nat := none
  div : Nat := 0
  fifo : List FifoEntry := []
  deriving DecidableEq, Repr

/-- The converters, and the consecutive counts of the window comparators (R90). -/
structure Adc where
  conv : List Conv := List.replicate 4 {}
  cmpOut : List Nat := List.replicate 8 0
  cmpIn : List Nat := List.replicate 8 0
  deriving DecidableEq, Repr

/-! ### SINC -/

/-- An input of SINC (R103 to R110): whether its filters run (enabled, and neither stuck nor without clock), the bits sampled since bit 0,
newest first (at most 1,024, all a filter needs), those since the last output of the data filter, the outputs of the data and of the
comparator filter since bit 0, whether only a landing has made it invalid, the comparator's consecutive counts. -/
structure SdIn where
  live : Bool := false
  bits : List Bool := []
  win : Nat := 0
  dfN : Nat := 0
  cfN : Nat := 0
  byLand : Bool := false
  hi : Nat := 0
  lo : Nat := 0
  ins : Nat := 0
  deriving DecidableEq, Repr

/-- SINC beside its registers: the inputs, a clock loss, an MCLK out of range. -/
structure Sinc where
  inp : List SdIn := List.replicate 4 {}
  clkLost : Bool := false
  range : Bool := false
  deriving DecidableEq, Repr

/-! ### XCHK -/

/-- A primary sample: its value and whether R120 takes it as valid. -/
structure Samp where
  v : Int
  ok : Bool
  deriving DecidableEq, Repr

/-- A primary set (R123): the trigger it belongs to, its instant, the samples of U, V and W, whether it has been compared. -/
structure PrimSet where
  trigAt : Tick
  t : Int
  s : List (Option Samp)
  done : Bool
  deriving DecidableEq, Repr

/-- XCHK beside its registers: the ring of primary sets, newest first, the two newest secondary outputs a phase (instant and
value), the counters of R125, the sampling instants of the newest valid primary samples, the CLIP flags of the last samples, and
what the DC-link check and the position inputs keep. -/
structure Xchk where
  ring : List PrimSet := []
  sec : List (List (Int × Int)) := [[], [], []]
  mis : List Nat := [0, 0, 0]
  ok : List Nat := [0, 0, 0]
  zs : Nat := 0
  zsOk : Nat := 0
  priAt : List (Option Tick) := [none, none, none]
  priClip : Nat := 0
  dclAt : Option Tick := none
  /-- The newest DC-link sample: instant and value (R129). -/
  dclV : Option (Tick × Int) := none
  dclClip : Bool := false
  /-- The instant of the latest entry into RUN and of the release of the channel reset (R533). -/
  runAt : Tick := 0
  relAt : Tick := 0
  dclMis : Nat := 0
  dclOk : Nat := 0
  altAt : Tick := 0
  /-- The reports of this decision period that wait for its primary sample (R129), oldest first. -/
  altDue : List Int := []
  /-- The instant from which the resolver's excitation runs (R133). -/
  excAt : Option Tick := none
  /-- Resolver: the sine and cosine results of the present event (R135), whether the loop has been initialised, its tracked angle in
  counts and speed in Q16.16 rad/s of the sensor, the consecutive demodulations within each limit (R136). -/
  rsin : Option Int := none
  rcos : Option Int := none
  rInit : Bool := false
  /-- The instant of the last demodulation. -/
  rAt : Tick := 0
  rAng : Nat := 0
  rSpd : Int := 0
  ampOk : Nat := 0
  trkOk : Nat := 0
  /-- Encoder: the filtered levels of A (bit 0) and B (bit 1), the counted edges newest first, each with its direction +1 or -1 and
  its instant, and the mechanical speed in Q16.16 rad/s (R137, R139). -/
  encAB : Nat := 0
  edges : List (Int × Tick) := []
  encSpd : Int := 0
  deriving DecidableEq, Repr

/-! ### DTC -/

/-- The conduction record of one leg (R149): the level commanded (0 neither switch, 1 low, 2 high), the instant of the edge that
began it, the start of the present segment, the sums of the running period, and the record of the last whole period. -/
structure LegRec where
  lev : Nat := 0
  edgeAt : Tick := 0
  segAt : Tick := 0
  hi : Nat := 0
  lo : Nat := 0
  dt : Nat := 0
  rHi : Nat := 0
  rLo : Nat := 0
  rDt : Nat := 0
  deriving DecidableEq, Repr

/-- What the engine reads at OFS (R145, R146): phase currents, DC-link value, speed, and whether the currents were held. -/
structure DtcIn where
  i : List Int
  vdc : Int
  w : Int
  deriving DecidableEq, Repr

/-- The engine beside its registers. -/
structure Dtc where
  /-- The last boundary, and its device time. -/
  boundAt : Tick := 0
  boundTime : Nat := 0
  /-- The vector decided for the next boundary; none when it was not decided in RUN or for winding discharge. -/
  next : Option Nat := none
  forced : Bool := false
  /-- The boundary at which each leg's pulse last changed. -/
  legAt : List Tick := [0, 0, 0]
  cond : List LegRec := List.replicate 3 {}
  inp : Option DtcIn := none
  /-- The COUNT last read of each injected result register, converter by converter (R146). -/
  cnt : List Nat := List.replicate 16 0
  i : List Int := [0, 0, 0]
  iPrev : List Int := [0, 0, 0]
  vdc : Int := 0
  psiA : Int := 0
  psiB : Int := 0
  /-- Rotor flux of the induction machine (R151), in PU16 × 2 ^ Config.fracBits. -/
  rA : Int := 0
  rB : Int := 0
  te : Int := 0
  tePrev : Int := 0
  ts : Int := 0
  fs : Bool := true
  /-- The six-step advance in 1/256 angle counts. -/
  adv : Int := 0
  six : Bool := false
  /-- The first decision of RUN is still to come (R152). -/
  entry : Bool := false
  /-- Governor: pulse changes a leg, decisions and saturated updates (R161). -/
  govN : List Nat := [0, 0, 0]
  govD : Nat := 0
  govSat : Nat := 0
  /-- A write to TQ_REF has released the staged pair (R167), and one of those writes carried a torque command (R411). -/
  staged : Bool := false
  stagedTq : Bool := false
  /-- TQ_SEQ and SPD_LIM as that write of TQ_REF released them. -/
  relSeq : Nat := 0
  relSpd : Nat := 0x7FFFFFFF
  cmd : Int := 0
  seq : Nat := 0
  spd : Nat := 0x7FFFFFFF
  /-- The ramped reference and whether it moved by steps before the last boundary (R69). -/
  r0 : Int := 0
  slew0 : Bool := false
  /-- The ramped reference, whether it moves by steps, T_EFF, whether the degrade and the clamp applied at the last decision. -/
  r : Int := 0
  slew : Bool := false
  tEff : Int := 0
  degr : Bool := false
  clamp : Bool := false
  /-- T_EFF is held at 0 by R195 until every one of its sources has cleared. -/
  loss : Bool := false
  deriving DecidableEq, Repr

/-! ### MASK -/

/-- MASK beside its registers: the index of the next boundary of RUN, a window due, the periods since each leg's pulse rose and
those it has been low, the legs whose refresh is due or in progress, the modulator's own on-time counts (R171, R179, R181). -/
structure Mask where
  idx : Nat := 0
  due : Bool := false
  /-- The window's delayed trigger is still to come (R173). -/
  trig : Bool := false
  hiN : List Nat := [0, 0, 0]
  lowN : List Nat := [0, 0, 0]
  refDue : Nat := 0
  refresh : Nat := 0
  /-- The legs whose pulse has changed since the last boundary. -/
  chg : Nat := 0
  deriving DecidableEq, Repr

/-! ### OBS -/

/-- The sums of a torque-monitor window (R197): decisions and current samples seen, whether all were in RUN, the sums, and what was used. -/
structure TmSum where
  n : Nat := 0
  nCur : Nat := 0
  allRun : Bool := false
  id : Int := 0
  iq : Int := 0
  p : Int := 0
  w : Int := 0
  tEff : Int := 0
  te : Int := 0
  pri : Bool := false
  angObs : Bool := false
  deriving DecidableEq, Repr

/-- The results of a window that wait to be written (R197, R199): whether it was evaluated, the torques if computed, the three
conditions, what was used, and the window's end. -/
structure TmRes where
  ran : Bool
  cm : Option Int
  pb : Option Int
  bad : Nat
  pri : Bool
  angObs : Bool
  time : Nat
  deriving DecidableEq, Repr

/-- The observer, the torque window and the torque monitor beside their registers. -/
structure Obs where
  /-- th in counts × 2 ^ Config.fracBits, w_pll in Q16.16 × 2 ^ Config.fracBits. -/
  th : Int := 0
  w : Int := 0
  /-- w_pll per decision since the latest entry into RUN or safety landing, newest first (R189). -/
  hist : List Int := []
  sl : Bool := false
  cnt : List Nat := [0, 0, 0, 0]
  ok : List Nat := [0, 0, 0, 0]
  evald : Bool := false
  /-- The history of T_EFF, newest first, and the consecutive counts of R196. -/
  tw : List Int := []
  twOut : Nat := 0
  twOk : Nat := 0
  plaus : Int := 0
  seen : Bool := false
  reacqN : Nat := 0
  reacquired : Bool := false
  tm : TmSum := {}
  /-- The rotor flux of the monitor's own model of an induction machine (R197). -/
  tmPsi : Rat := 0
  tmRes : Option TmRes := none
  /-- Consecutive windows with and without each condition of R197, and blind ones (R198). -/
  tmBad : List Nat := [0, 0, 0]
  tmOk : List Nat := [0, 0, 0]
  tmBlind : Nat := 0
  deriving DecidableEq, Repr

/-! ### CORE and SKIM -/

/-- A skim slice: its class and unit (R330), and when it began or was aborted. -/
structure SkimRun where
  cls : Nat
  unit : Nat
  at_ : Tick
  deriving DecidableEq, Repr

/-- SKIM beside its registers: the slice in progress, those aborted and not yet rescheduled, the units each class has completed
in this cycle and, of a requested pass, those still to run. -/
structure Skim where
  cur : Option SkimRun := none
  redo : List SkimRun := []
  cov : List Nat := List.replicate 10 0
  passCov : List Nat := List.replicate 10 0
  /-- PLUMB passes at the start of the cycle and of the pass (R330, class 9). -/
  plumb0 : Nat := 0
  /-- The start of the coverage cycle (R329). -/
  cycAt : Tick := 0
  stopped : Bool := false
  /-- The spare comparator while a DCMP slice runs (R331): level and hysteresis in codes, filter in cycles. -/
  spare : Option (Nat × Nat × Nat) := none
  deriving DecidableEq, Repr

/-! ### Lifetime counts (R462) -/

/-- The thermal cycles of one slice and swing bin: the count, whether a rise by the swing has been seen, the extreme since. -/
structure Cycle where
  n : Nat := 0
  risen : Bool := false
  ext : Option Int := none
  deriving DecidableEq, Repr

/-- What the lifetime counters of R462 count in a channel, since Colmo last took the counts up: entries into FAULT, changes to an active
short circuit, S4 activations, proven chopper activations, closings of each contactor, discharge energy in joules, ticks in RUN and the
instant of a RUN under way, and the thermal cycles of slices 0 to 5, four bins each. -/
structure Life where
  fault : Nat := 0
  asc : Nat := 0
  s4 : Nat := 0
  chop : Nat := 0
  cont : List Nat := [0, 0, 0]
  dchg : Rat := 0
  run : Tick := 0
  runFrom : Option Tick := none
  cyc : List Cycle := List.replicate 24 {}
  deriving DecidableEq, Repr

/-! ### Mailbox (R19, R391, R392) -/

/-- A command record (R389). -/
structure CmdRec where
  op : Nat
  target : Nat
  args : List Nat
  deriving DecidableEq, Repr

/-- A part of a bundle in a channel's mailbox: the bundle, its records with their places in it, the instant of the posting. -/
structure Part where
  req : Req
  recs : List (Nat × CmdRec)
  at_ : Tick
  deriving DecidableEq, Repr

/-! ### The channel -/

/-- A channel: its number, the instant of the last command it saw, its registers (the active copies of RWC fields among
them), the shadow copies, and what each unit holds beside them. -/
structure Chan where
  id : Ch
  now : Tick := 0
  /-- The channel is parked (R487). -/
  parked : Bool := false
  /-- The free values taken so far (the model's own counter; see Config). -/
  free : Nat := 0
  regs : RegMap := []
  shadow : RegMap := []
  /-- The bits in which the inverted copies of safety-set words disagree with the words (R316). -/
  inv : RegMap := []
  /-- The TCM as 131,072 words of 32 bits (R17, R305); a word that nothing has written is 0 (log 77). -/
  tcm : RegMap := []
  tb : TimeBase := {}
  out : RecOut := {}
  /-- The ends of operations that Colmo has not answered yet, oldest first. -/
  answers : List OpDone := []
  /-- The parts that the supervisor has still to take, oldest first. -/
  mail : List Part := []
  subs : List Subscr := []
  ctl : Ctl := {}
  bases : Bases := {}
  ring : Ring := {}
  adc : Adc := {}
  sinc : Sinc := {}
  xchk : Xchk := {}
  dtc : Dtc := {}
  mask : Mask := {}
  obs : Obs := {}
  skim : Skim := {}
  slices : List SliceSt := List.replicate 8 {}
  modul : Modul := {}
  prot : Prot := {}
  dust : Dust := {}
  msio : Msio := {}
  life : Life := {}
  deriving DecidableEq, Repr

end Sys2Proof.Machine
end

