-- ==== Sys2Proof/Machine/Ops.lean ====
section
/-! DEFINITION. Machine/Ops.lean: the named operations over a channel's registers, its time, its records and its free
values. Every read and write of a channel register by the model goes through these. -/

namespace Sys2Proof.Machine

/-! ### Registers -/

/-- The word of a channel register, the active copy of its RWC fields. -/
def Chan.rd (c : Chan) (a : Nat) : Nat := RegMap.get c.regs (chanReset a) a

/-- The channel with a register's word replaced. -/
def Chan.wr (c : Chan) (a v : Nat) : Chan := { c with regs := RegMap.set c.regs (chanReset a) a v }

/-- The shadow copy of a channel register's RWC fields (R61). -/
def Chan.rds (c : Chan) (a : Nat) : Nat := RegMap.get c.shadow (chanReset a) a

/-- The channel with a register's shadow copy replaced. -/
def Chan.wrs (c : Chan) (a v : Nat) : Chan := { c with shadow := RegMap.set c.shadow (chanReset a) a v }

/-- The value of a field. -/
def Chan.g (c : Chan) (f : Fld) : Nat := bitsOf (c.rd f.reg) f.hi f.lo

/-- A field of one bit, as a Bool. -/
def Chan.b (c : Chan) (f : Fld) : Bool := c.g f == 1

/-- The channel with a field replaced. -/
def Chan.p (c : Chan) (f : Fld) (v : Nat) : Chan := c.wr f.reg (putBits (c.rd f.reg) f.hi f.lo v)

/-- A field read as a signed two's complement value (R3). -/
def Chan.gi (c : Chan) (f : Fld) : Int :=
  let v := c.g f
  if v < 2 ^ (f.hi - f.lo) then (v : Int) else (v : Int) - (2 ^ (f.hi + 1 - f.lo) : Nat)

/-- The channel with a signed value written into a field. -/
def Chan.pi (c : Chan) (f : Fld) (v : Int) : Chan := c.p f (toBits (f.hi + 1 - f.lo) v)

/-- Bit `i` of a field. -/
def Chan.gb (c : Chan) (f : Fld) (i : Nat) : Bool := (c.g f).testBit i

/-- The channel with bit `i` of a field replaced. -/
def Chan.pb (c : Chan) (f : Fld) (i : Nat) (v : Bool) : Chan := c.p f (setBit (c.g f) i v)

/-- The shadow value of a field. -/
def Chan.gs (c : Chan) (f : Fld) : Nat := bitsOf (c.rds f.reg) f.hi f.lo

/-- The channel with a status counter field stepped, saturating at the field's maximum. -/
def Chan.satInc (c : Chan) (f : Fld) : Chan := c.p f (satAdd (2 ^ (f.hi + 1 - f.lo) - 1) (c.g f))

/-- The channel with a status counter field stepped, wrapping. -/
def Chan.wrapInc (c : Chan) (f : Fld) : Chan := c.p f (c.g f + 1)

/-- The state code of R50. -/
def Chan.state (c : Chan) : Nat := c.g CH_STATE_STATE

/-- State code OFF (R50). -/
def OFF : Nat := 0
/-- State code PRIMED (R50). -/
def PRIMED : Nat := 1
/-- State code ARMED (R50). -/
def ARMED : Nat := 2
/-- State code RUN (R50). -/
def RUN : Nat := 3
/-- State code HOLD (R50). -/
def HOLD : Nat := 4
/-- State code FAULT (R50). -/
def FAULT : Nat := 5

/-! ### Lists of like things -/

/-- Element `i` of a list of numbers, 0 beyond its end. -/
def nth (l : List Nat) (i : Nat) : Nat := l.getD i 0

/-- A list of numbers with element `i` changed by a function. -/
def bump (l : List Nat) (i : Nat) (f : Nat → Nat) : List Nat := l.set i (f (nth l i))

/-- Slice `s`. -/
def Chan.sl (c : Chan) (s : Nat) : SliceSt := c.slices.getD s {}

/-- The channel with slice `s` changed by a function. -/
def Chan.onSl (c : Chan) (s : Nat) (f : SliceSt → SliceSt) : Chan := { c with slices := c.slices.set s (f (c.sl s)) }

/-- The channel with its CHCTL part changed. -/
def Chan.onCtl (c : Chan) (f : Ctl → Ctl) : Chan := { c with ctl := f c.ctl }
/-- The channel with its modulator part changed. -/
def Chan.onMod (c : Chan) (f : Modul → Modul) : Chan := { c with modul := f c.modul }
/-- The channel with its PROT part changed. -/
def Chan.onProt (c : Chan) (f : Prot → Prot) : Chan := { c with prot := f c.prot }
/-- The channel with its DUST part changed. -/
def Chan.onDust (c : Chan) (f : Dust → Dust) : Chan := { c with dust := f c.dust }
/-- The channel with its MSIO part changed. -/
def Chan.onMsio (c : Chan) (f : Msio → Msio) : Chan := { c with msio := f c.msio }

/-- The channel with its lifetime counts changed. -/
def Chan.onLife (c : Chan) (f : Life → Life) : Chan := { c with life := f c.life }

/-- Word `i` of 32 bits of the channel's TCM (R17, R305). -/
def Chan.tcmAt (c : Chan) (i : Nat) : Nat := RegMap.get c.tcm 0 i
/-- The channel with a word of its TCM written. -/
def Chan.tcmPut (c : Chan) (i v : Nat) : Chan := { c with tcm := RegMap.set c.tcm 0 i v }

/-- A conditional change of a channel. -/
def Chan.when (c : Chan) (q : Bool) (f : Chan → Chan) : Chan := if q then f c else c

/-- A change of a channel repeated for the numbers `0 … n - 1` in ascending order. -/
def Chan.each (c : Chan) (n : Nat) (f : Chan → Nat → Chan) : Chan := (List.range n).foldl f c

/-! ### Time -/

/-- The ns since the last exchange at instant `t`. -/
def TimeBase.ago (b : TimeBase) (t : Tick) : Int := (((t - b.at_) / ticksPerNs : Nat) : Int)

/-- What has been slewed by instant `t`: at most 1 µs a millisecond (R34). -/
def TimeBase.slewed (b : TimeBase) (t : Tick) : Int := satI (-(b.ago t / 1000)) (b.ago t / 1000) b.slew

/-- The ns that the copy lies ahead of the count of ns at instant `t`: the oscillator's deviation less the rate correction
has added up since the last exchange (R33, R34). -/
def TimeBase.offAt (b : TimeBase) (t : Tick) : Int := b.off + (b.drift - b.rate) * b.ago t / 1000000000 + b.slewed t

/-- The copy at instant `t`, never below what it read before its last correction. -/
def TimeBase.timeAt (b : TimeBase) (t : Tick) : Nat := max b.last (((t / ticksPerNs : Nat) : Int) + b.offAt t).toNat

/-- The device time as the channel stamps an event of the present instant (R33, R34), or an event of the decision that is
being worked out (R38). -/
def Chan.devTime (c : Chan) : Nat :=
  match c.tb.stamp with
  | some t => t
  | none => c.tb.timeAt c.now

/-- Whether at least `d` ticks have passed since `t`. -/
def Chan.since (c : Chan) (t : Tick) (d : Tick) : Bool := Nat.ble (t + d) c.now

/-- Whether at least `d` ticks have passed since an instant that may not have come. -/
def Chan.sinceOpt (c : Chan) (t : Option Tick) (d : Tick) : Bool :=
  match t with
  | none => false
  | some u => c.since u d

/-- Two instants lie in one CD_CTLx cycle. -/
def sameCycle (a b : Tick) : Bool := a / ticksPerCycle == b / ticksPerCycle

/-- The decision period in ticks (R144): DTC_PERIOD.COUNT cycles of CD_CTLx. -/
def Chan.period (c : Chan) : Tick := cyc (c.g DTC_PERIOD_COUNT)

/-! ### Free values -/

/-- The next free value. -/
def Chan.freeVal (c : Chan) : Nat := Config.freeNat (3 * c.free + c.id.idx)
/-- The channel after it has taken `n` free values. -/
def Chan.took (c : Chan) (n : Nat) : Chan := { c with free := c.free + n }

/-! ### Records (R25, R31, R262) -/

/-- The record output after a record has been offered: it takes its sequence number, and is dropped and counted when the
buffer is full (R25). -/
def RecOut.push (o : RecOut) (time : Nat) (hold : Bool) (body : RecBody) : RecOut :=
  { seq := (o.seq + 1) % 2 ^ 32,
    buf := if o.buf.length < Config.recDepth then o.buf ++ [⟨o.seq, time, hold, body⟩] else o.buf,
    dropped := if o.buf.length < Config.recDepth then o.dropped else o.dropped + 1,
    dropFlag := if o.buf.length < Config.recDepth then o.dropFlag else true }

/-- The channel after it has formed a record at the present instant. -/
def Chan.emit (c : Chan) (body : RecBody) : Chan :=
  { c with out := c.out.push c.devTime c.tb.hold body }

/-- An EVT record of R417. -/
def Chan.evt (c : Chan) (type block bit sev d0 d1 : Nat) : Chan := c.emit (.evt type block bit sev d0 d1)

end Sys2Proof.Machine
end

