-- ==== Sys2Proof/Machine/Flags.lean ====
section
/-! DEFINITION. Machine/Flags.lean: the fault sources of a channel, their ACTIVE and LATCHED bits, severities and
first-fault capture (R92, R261, R262), and the status bits that follow from others and are formed when they are read. -/

namespace Sys2Proof.Machine

/-- Where a block keeps its sources: the SRC_STATUS register, the first severity register, the FF_SRC register (FF_SEQ,
FF_TIME_LO and FF_TIME_HI follow it), and the number of sources. -/
structure SrcRegs where
  src : Nat
  sev : Nat
  ff : Nat
  n : Nat
  deriving DecidableEq, Repr

/-- The source registers of channel block `blk` (offset / 0x1000: 0 CHCTL to 12 SKIM). -/
def srcRegs (blk : Nat) : SrcRegs :=
  match blk with
  | 0 => ⟨CH_SRC_STATUS, CH_SEV, CH_FF_SRC, 3⟩
  | 1 => ⟨ADC_SRC_STATUS, ADC_SEV0, ADC_FF_SRC, 13⟩
  | 2 => ⟨SD_SRC_STATUS, SD_SEV0, SD_FF_SRC, 15⟩
  | 3 => ⟨XC_SRC_STATUS, XC_SEV0, XC_FF_SRC, 14⟩
  | 4 => ⟨DTC_SRC_STATUS, DTC_SEV, DTC_FF_SRC, 5⟩
  | 5 => ⟨MASK_SRC_STATUS, MASK_SEV, MASK_FF_SRC, 3⟩
  | 6 => ⟨OBS_SRC_STATUS, OBS_SEV0, OBS_FF_SRC, 11⟩
  | 7 => ⟨SL_SRC_STATUS, SL_SEV0, SL_FF_SRC, 13⟩
  | 8 => ⟨PROT_SRC_STATUS, PROT_SEV0, PROT_FF_SRC, 11⟩
  | 9 => ⟨DUST_SRC_STATUS, DUST_SEV, DUST_FF_SRC, 7⟩
  | 10 => ⟨MSIO_SRC_STATUS, MSIO_SEV, MSIO_FF_SRC, 7⟩
  | 11 => ⟨CORE_SRC_STATUS, CORE_SEV, CORE_FF_SRC, 6⟩
  | _ => ⟨SKIM_SRC_STATUS, SKIM_SEV, SKIM_FF_SRC, 3⟩

/-- A source: its block and its bit. -/
structure Src where
  blk : Nat
  bit : Nat
  deriving DecidableEq, Repr

/-- Where a source's severity stands: register, lowest bit. CH_SEV lists its three fields downwards (R70); every other
block gives source b bits 3b + 2:3b, ten sources a register. -/
def Src.sevAt (s : Src) : Nat × Nat :=
  if s.blk = 0 then
    (CH_SEV, match s.bit with
      | 0 => 6
      | 1 => 3
      | _ => 0)
  else ((srcRegs s.blk).sev + 4 * (s.bit / 10), 3 * (s.bit % 10))

/-- The severity of a source (R261); NO_SAFE is fixed at S4 (R266). -/
def Chan.sevOf (c : Chan) (s : Src) : Nat :=
  if s.blk = 9 ∧ s.bit = 0 then 4 else bitsOf (c.rd s.sevAt.1) (s.sevAt.2 + 2) s.sevAt.2

/-- Whether a source is active. -/
def Chan.srcActive (c : Chan) (s : Src) : Bool := (c.rd (srcRegs s.blk).src).testBit (16 + s.bit)

/-- Whether a source has latched. -/
def Chan.srcLatched (c : Chan) (s : Src) : Bool := (c.rd (srcRegs s.blk).src).testBit s.bit

/-- First-fault capture (R92): the first source at S1 or higher is held, a later one sets only OVF. SL_FF_SRC also records
the slice (R233). -/
def Chan.capture (c : Chan) (s : Src) (seq slice : Nat) : Chan :=
  let r := srcRegs s.blk
  let w := c.rd r.ff
  if w.testBit 31 then c.wr r.ff (setBit w 30 true)
  else
    let t := c.devTime
    ((c.wr r.ff (2 ^ 31 + (if s.blk = 7 then slice * 256 else 0) + s.bit)).wr (r.ff + 4) seq
      |>.wr (r.ff + 8) (t % 2 ^ 32)).wr (r.ff + 12) (t / 2 ^ 32)

/-- An EVT record of type 0 or 1 for a source (R262, R417): DETAIL holds FF_SRC and FF_SEQ as they read after the event. -/
def Chan.srcEvt (c : Chan) (type : Nat) (s : Src) : Chan :=
  let r := srcRegs s.blk
  c.evt type s.blk s.bit (c.sevOf s) (c.rd r.ff) (c.rd (r.ff + 4))

/-- A source becomes active in its block (R92, R262): ACTIVE and LATCHED, the capture at S1 or higher, the EVT record. -/
def Chan.srcOn (c : Chan) (s : Src) (slice : Nat) : Chan :=
  let r := srcRegs s.blk
  let w := c.rd r.src
  let c1 := c.wr r.src (setBit (setBit w (16 + s.bit) true) s.bit true)
  let c2 := if 1 ≤ c.sevOf s then c1.capture s c.out.seq slice else c1
  c2.srcEvt 0 s

/-- A source becomes inactive in its block (R262): ACTIVE clears and a second EVT record is sent. -/
def Chan.srcOff (c : Chan) (s : Src) : Chan :=
  let r := srcRegs s.blk
  (c.wr r.src (setBit (c.rd r.src) (16 + s.bit) false)).srcEvt 1 s

/-- The highest severity among the sources of a list of bits of one block whose bit stands in `act`. -/
def Chan.blockSev (c : Chan) (blk act : Nat) : Nat :=
  if act = 0 then 0
  else (List.range (srcRegs blk).n).foldl (fun m b => if act.testBit b then max m (c.sevOf ⟨blk, b⟩) else m) 0

/-- The ACTIVE bits of a block. -/
def Chan.activeBits (c : Chan) (blk : Nat) : Nat :=
  (c.rd (srcRegs blk).src) / 2 ^ 16 % 2 ^ (srcRegs blk).n

/-- The highest severity among the active sources of the channel (R263; DUST_STATUS.MAX_SEV). -/
def Chan.maxSev (c : Chan) : Nat :=
  (List.range 13).foldl (fun m k => max m (c.blockSev k (c.activeBits k))) 0

/-- Whether a block's SRC interrupt bit reads 1 (R92): a latched source at S1 or higher. -/
def Chan.srcIrq (c : Chan) (blk : Nat) : Bool :=
  Nat.ble 1 (c.blockSev blk (c.rd (srcRegs blk).src % 2 ^ (srcRegs blk).n))

/-! ### The sources by name -/

def STREAM_LAPSE : Src := ⟨0, 0⟩
def ARM_TIMEOUT : Src := ⟨0, 1⟩
def COMMIT_FAIL : Src := ⟨0, 2⟩
def WCMP (k : Nat) : Src := ⟨1, k⟩
def INJ_OVERRUN : Src := ⟨1, 8⟩
def REG_OVERRUN : Src := ⟨1, 9⟩
def FIFO_OVERFLOW : Src := ⟨1, 10⟩
def REFINJ_FAIL : Src := ⟨1, 11⟩
def ADC_STALL_SRC : Src := ⟨1, 12⟩
def DTC_STENCIL_ECC : Src := ⟨4, 0⟩
def CUR_HELD : Src := ⟨4, 1⟩
def GOV_SAT : Src := ⟨4, 2⟩
def SPD_LIMIT_SRC : Src := ⟨4, 3⟩
def MOD_READBACK_SRC : Src := ⟨4, 4⟩
def DEPTH_LIMIT : Src := ⟨5, 0⟩
def REFRESH_FORCED_SRC : Src := ⟨5, 1⟩
def ON_TIME_EXCEEDED_SRC : Src := ⟨5, 2⟩
def SC_TRIP : Src := ⟨7, 0⟩
def GS_UV_SRC : Src := ⟨7, 1⟩
def GS_OV_SRC : Src := ⟨7, 2⟩
def LINK_FAULT : Src := ⟨7, 3⟩
def INTERLOCK : Src := ⟨7, 4⟩
def ISL_OT_SRC : Src := ⟨7, 5⟩
def OFF_SHORT : Src := ⟨7, 6⟩
def EN_LOW : Src := ⟨7, 7⟩
def TS_OT : Src := ⟨7, 8⟩
def PRIMER_FAIL : Src := ⟨7, 9⟩
def FTH_LIMIT : Src := ⟨7, 10⟩
def DT_EXTENDED : Src := ⟨7, 11⟩
def LINK_CRC : Src := ⟨7, 12⟩
def DCL_OV2 : Src := ⟨8, 0⟩
def DCL_UV : Src := ⟨8, 1⟩
def DCL_EXT : Src := ⟨8, 2⟩
def CHOP_FAIL : Src := ⟨8, 3⟩
def CHOP_SENSE : Src := ⟨8, 4⟩
def CHOP_SHORT : Src := ⟨8, 5⟩
def REGEN_ASC : Src := ⟨8, 6⟩
def DCHG_PIN_SRC : Src := ⟨8, 7⟩
def DCHG_FAIL : Src := ⟨8, 8⟩
def DCHG_PAUSE : Src := ⟨8, 9⟩
def WD_ABORT : Src := ⟨8, 10⟩
def NO_SAFE : Src := ⟨9, 0⟩
def LEG_FAIL : Src := ⟨9, 1⟩
def IDLE_SPIN : Src := ⟨9, 2⟩
def PEER_S4 : Src := ⟨9, 3⟩
def CLK_CTL : Src := ⟨9, 4⟩
def CLK_XREF : Src := ⟨9, 5⟩
def TIME_HOLD : Src := ⟨9, 6⟩
def CFB_DISCREP : Src := ⟨10, 0⟩
def CONT_WELD : Src := ⟨10, 1⟩
def PRECHARGE_FAIL : Src := ⟨10, 2⟩
def GUARD_DISCREP : Src := ⟨10, 3⟩
def GUARD_OPEN : Src := ⟨10, 4⟩
def GUARD_TEST_DUE : Src := ⟨10, 5⟩
def ACK_JAMMED_SRC : Src := ⟨10, 6⟩

end Sys2Proof.Machine
end

