-- ==== Sys2Proof/Machine/SafeState.lean ====
section
/-! DEFINITION. Machine/SafeState.lean: what a source does at the dust sheet: the selection of a safe state, the entry
into FAULT and the other state changes, the contactor and discharge requests, and the operations they share with the
modulator, MSIO and PROT (R262 to R281, R287 to R290, R531). -/

namespace Sys2Proof.Machine

/-! ### The modulator's outputs (R205, R210, R213) -/

/-- The pulse of pair `p` (0 U, 1 V, 2 W, 3 BR). -/
def Chan.pulseOf (c : Chan) (p : Nat) : Bool := c.gb EN_STATUS_PULSE p

/-- The enable that leaves the modulator for pair `p`: the channel's enable, the EN pin (R215) and the interlock (R212). -/
def Chan.enOut (c : Chan) (p : Nat) : Bool :=
  c.gb EN_STATUS_EN_INT p && c.gb EN_STATUS_EN_PIN p && !c.modul.ilk.testBit p

/-- The slices of a pair (R203). -/
def pairSlices (p : Nat) : List Nat := if p = 3 then [6] else [2 * p, 2 * p + 1]

/-- A change put on the edge channel of slice `s` (R205); the levels as sent follow at once, or for a later change when it is made. -/
def Chan.wire (c : Chan) (s : Nat) (at_ : Tick) (pulse en : Bool) : Chan :=
  let c1 := c.onSl s (fun x => { x with wire := x.wire ++ [⟨at_, pulse, en⟩] })
  if c.now < at_ then c1 else (c1.p (SL_STATUS_PULSE s) (b2n pulse)).p (SL_STATUS_EN s) (b2n en)

/-- The pulse and enable that slice `s` will have received once its edge channel is empty. -/
def Chan.lastSent (c : Chan) (s : Nat) : Bool × Bool :=
  match (c.sl s).wire.getLast? with
  | none => (c.b (SL_STATUS_PULSE s), c.b (SL_STATUS_EN s))
  | some w => (w.pulse, w.en)

/-! ### The conduction record of a leg (R149) and the vector history (R87) -/

/-- The dead time of a leg in ticks (R163). -/
def Chan.dead (c : Chan) (leg : Nat) : Tick := 25 * bitsOf (c.rd (DEAD_TU + 4 * leg)) 13 0

/-- A record brought up to instant `t`: the dead time after the last edge, and all the time in which no switch is commanded on,
count in t_dt. -/
def LegRec.upto (r : LegRec) (dead t : Tick) : LegRec :=
  if t ≤ r.segAt then r
  else
    let e := if r.lev = 0 then t else min t (max r.segAt (r.edgeAt + dead))
    { r with
      segAt := t
      dt := r.dt + (e - r.segAt)
      hi := if r.lev = 2 then r.hi + (t - e) else r.hi
      lo := if r.lev = 1 then r.lo + (t - e) else r.lo }

/-- A change of the level a leg is commanded to, at instant `t`. -/
def LegRec.edge (r : LegRec) (dead t : Tick) (lev : Nat) : LegRec :=
  if lev = r.lev then r else { r.upto dead t with lev := lev, edgeAt := t }

/-- The record of a period closed at the boundary `t`: its sums are kept for the engine and start again. -/
def LegRec.close (r : LegRec) (dead t : Tick) : LegRec :=
  let u := r.upto dead t
  { u with rHi := u.hi, rLo := u.lo, rDt := u.dt, hi := 0, lo := 0, dt := 0 }

/-- The channel with its engine part changed. -/
def Chan.onDtc (c : Chan) (f : Dtc → Dtc) : Chan := { c with dtc := f c.dtc }

/-- Slice `s` can have its switch on: it is used, ready and holds no latch. -/
def Chan.slAble (c : Chan) (s : Nat) : Bool := c.b (SL_CFG_USED s) && c.b (SL_STATUS_READY s) && (c.sl s).latch == 0

/-- The record of leg `p` after a change of its pulse or enable that left the modulator at instant `at_`: in RUN the pulse, else the
switch that the dust sheet and the slice actually command (R149). -/
def Chan.recordLeg (c : Chan) (p : Nat) (at_ : Tick) : Chan :=
  let able := c.state == RUN || c.slAble (if c.pulseOf p then 2 * p else 2 * p + 1)
  let lev := if c.enOut p && able then (if c.pulseOf p then 2 else 1) else 0
  c.onDtc (fun d => { d with cond := d.cond.set p ((d.cond.getD p {}).edge (c.dead p) at_ lev) })

/-- A change of a leg's pulse: the history of vectors, the dwell's origin (R156), the governor's count in RUN (R161), the change noted
for the counts of R179 and R181. -/
def Chan.legChange (c : Chan) (p : Nat) (at_ : Tick) (pulse : Bool) : Chan :=
  let run := c.state == RUN
  ({ c with mask := { c.mask with chg := setBit c.mask.chg p true } }.onMod (fun m => { m with hist := ((at_, p, pulse) :: m.hist).take 24 })).onDtc (fun d => { d with
    legAt := d.legAt.set p c.now
    govN := if run then bump d.govN p (fun n => n + 1) else d.govN })

/-- The level of a leg's pulse at instant `t` among the changes newest first; `cur` before any. -/
def pulseAt (t : Tick) (leg : Nat) (cur : Bool) : List (Tick × Nat × Bool) → Bool
  | [] => cur
  | (u, l, b) :: h => if l = leg then (if u ≤ t then b else pulseAt t leg (!b) h) else pulseAt t leg cur h

/-- The vector number of a state of the legs U, V, W (R143). -/
def vectorOf (u v w : Bool) : Nat :=
  match u, v, w with
  | false, false, false => 0
  | true, false, false => 1
  | true, true, false => 2
  | false, true, false => 3
  | false, true, true => 4
  | false, false, true => 5
  | true, false, true => 6
  | true, true, true => 7

/-- The pulse of leg `l` in a vector (R143). -/
def legOf (v l : Nat) : Bool :=
  match l with
  | 0 => v == 1 || v == 2 || v == 6 || v == 7
  | 1 => v == 2 || v == 3 || v == 4 || v == 7
  | _ => v == 4 || v == 5 || v == 6 || v == 7

/-- The vector in force at the modulator at instant `t` (R87). -/
def Chan.vectorAt (c : Chan) (t : Tick) : Nat :=
  let f := fun l => pulseAt t l (c.pulseOf l) c.modul.hist
  vectorOf (f 0) (f 1) (f 2)

/-- The vector of the legs' present pulses. -/
def Chan.vectorNow (c : Chan) : Nat := vectorOf (c.pulseOf 0) (c.pulseOf 1) (c.pulseOf 2)

/-! ### Driving the pairs -/

/-- A change of pair `p` on its way: on the edge channels of its slices at instant `at_`, counted, and an EDGE_TAG formed for each slice
(R222): FORCED under DTC_STATUS.FORCED, SAFE where rank 2 of R158 rules, EXT for an edge from a pin. -/
def Chan.edgeOut (c : Chan) (p : Nat) (at_ : Tick) (pulse en : Bool) : Chan :=
  let n := (nth c.modul.legEdges p + 1) % 256
  let run := c.state == RUN
  let ext := run && p != 3 && c.b EN_STATUS_EXT_ACTIVE
  let tag : EdgeTag := ⟨n, pulse, en, run && !ext && c.dtc.forced, !run, ext⟩
  ((pairSlices p).foldl (fun d s => (d.wire s at_ pulse en).onSl s (fun x => { x with tags := if x.power then x.tags ++ [tag] else [] })) c).onMod (fun m =>
    { m with legEdges := m.legEdges.set p n })

/-- Pair `p` is sent to its slices when what leaves the modulator, at instant `at_`, differs from what was last sent. -/
def Chan.sendPairAt (c : Chan) (p : Nat) (at_ : Tick) : Chan :=
  let pu := c.pulseOf p
  let en := c.enOut p
  if c.lastSent (if p = 3 then 6 else 2 * p) == (pu, en) then c
  else
    let c2 := c.edgeOut p at_ pu en
    if p < 3 then c2.recordLeg p at_ else c2

/-- Pair `p` is sent at the present instant. -/
def Chan.sendPair (c : Chan) (p : Nat) : Chan := c.sendPairAt p c.now

/-- The channel's enable and pulse of pair `p` set, and sent at instant `at_`. -/
def Chan.setPairAt (c : Chan) (p : Nat) (at_ : Tick) (en pulse : Bool) : Chan :=
  let c0 := if p < 3 ∧ c.pulseOf p ≠ pulse then c.legChange p at_ pulse else c
  ((c0.pb EN_STATUS_EN_INT p en).pb EN_STATUS_PULSE p pulse).sendPairAt p at_

/-- The channel's enable and pulse of pair `p` set, and sent. -/
def Chan.setPair (c : Chan) (p : Nat) (en pulse : Bool) : Chan := c.setPairAt p c.now en pulse

/-- The legs U, V, W driven by two masks (R210). -/
def Chan.setLegs (c : Chan) (en pulse : Nat) : Chan :=
  c.each 3 (fun d p => d.setPair p (en.testBit p) (pulse.testBit p))

/-- The legs held off: enables 0, pulses as they stand (R531, OPEN of R210). -/
def Chan.legsOff (c : Chan) : Chan := c.each 3 (fun d p => d.setPair p false (d.pulseOf p))

/-- The enable toggle of R60 and R218 on pair `p`: low for 2.5 µs, then high, then the level of the state in force. It ends
the hold of R212. -/
def Chan.togglePair (c : Chan) (p : Nat) : Chan :=
  let pu := c.pulseOf p
  let pin := c.gb EN_STATUS_EN_PIN p
  let c0 := c.onMod (fun m => { m with ilk := setBit m.ilk p false })
  if !pin then c0
  else
    let up := c.now + ns 2500
    let c1 := if (c0.lastSent (if p = 3 then 6 else 2 * p)).2 then c0.edgeOut p c.now pu false else c0
    let c2 := c1.edgeOut p up pu true
    if c0.enOut p then c2 else c2.edgeOut p up pu false

/-- The discharge command to slice 7, which its edge channel carries in place of a pulse (R210). -/
def Chan.setDchgOut (c : Chan) (on : Bool) : Chan :=
  if (c.lastSent 7).2 == on then c else c.wire 7 c.now on on

/-! ### Slice availability (R272) -/

/-- A phase slice is unavailable while it holds a latch, is not ready, or its pair is held by R212. -/
def Chan.unavail (c : Chan) (s : Nat) : Bool :=
  c.b (SL_STATUS_LATCHED s) || !c.b (SL_STATUS_READY s) || c.modul.ilk.testBit (s / 2)

/-- Whether a side of a leg is usable for an active short circuit (R272): available, or its switch failed short. -/
def Chan.usable (c : Chan) (high : Bool) (leg : Nat) : Bool :=
  !c.unavail (2 * leg + b2n (!high)) || c.gb (if high then LEG_HEALTH_FS_H else LEG_HEALTH_FS_L) leg

/-- The legs whose selected side is usable, as a mask. -/
def Chan.usableMask (c : Chan) (high : Bool) : Nat :=
  b2n (c.usable high 0) + 2 * b2n (c.usable high 1) + 4 * b2n (c.usable high 2)

/-- The slices 0 to 5 of one side that are unavailable, as a mask of legs (LEG_HEALTH.UNAV_H, UNAV_L). -/
def Chan.unavMask (c : Chan) (high : Bool) : Nat :=
  b2n (c.unavail (b2n (!high))) + 2 * b2n (c.unavail (2 + b2n (!high))) + 4 * b2n (c.unavail (4 + b2n (!high)))

/-! ### The selection (R274, R275) -/

/-- An output of the selection: DUST_STATUS.SAFE, enables and pulses of the legs, PARTIAL, and whether NO_SAFE is raised. -/
structure Sel where
  safe : Nat
  en : Nat
  pulse : Nat
  part : Bool
  noSafe : Bool
  deriving DecidableEq, Repr

/-- OPEN drives enable 0 on all legs; the pulses stay as they are. -/
def Chan.selOpen (c : Chan) (noSafe : Bool) : Sel := ⟨1, 0, c.g EN_STATUS_PULSE % 8, false, noSafe⟩

/-- An active short circuit on a side (R275). -/
def Chan.selAsc (c : Chan) (high : Bool) : Sel :=
  let en := c.usableMask high
  ⟨if high then 3 else 2, en, if high then 7 else 0, en != 7, en != 7⟩

/-- The selection of R274 in HOLD and FAULT; no output in the other states (R50 governs the legs there). -/
def Chan.selOf (c : Chan) : Sel :=
  if c.state ≠ HOLD ∧ c.state ≠ FAULT then ⟨0, 0, c.g EN_STATUS_PULSE % 8, false, false⟩
  else if c.b DUST_STATUS_REEVAL then c.selOpen false
  else if c.g DUST_CTL_HARD_MAX < c.g DUST_STATUS_HARD_N then c.selOpen true
  else
    let fh := c.g LEG_HEALTH_FS_H != 0
    let fl := c.g LEG_HEALTH_FS_L != 0
    if fh && fl then c.selOpen true
    else if fh then c.selAsc true
    else if fl then c.selAsc false
    else if !c.b DUST_STATUS_SPD_HIGH then c.selOpen false
    else
      let pref := c.b DUST_CTL_ASC_PREF
      let side := if c.usableMask pref != 7 && c.usableMask (!pref) == 7 then !pref else pref
      c.selAsc side

/-- DUST_STATUS as it reads (MAX_SEV follows the active sources). -/
def Chan.dustWord (c : Chan) : Nat := putBits (c.rd DUST_STATUS) 30 28 c.maxSev

/-- Reacquisition ends where the channel leaves the active short circuit (R193). -/
def Chan.reacqLeave (c : Chan) : Chan :=
  if c.b TRUST_STATUS_REACQ ∧ c.g DUST_STATUS_SAFE ≠ 2 ∧ c.g DUST_STATUS_SAFE ≠ 3 then
    ({ c with obs := { c.obs with reacqN := 0, reacquired := false } }.p TRUST_STATUS_REACQ 0).p TRUST_STATUS_REACQ_N 0
  else c

/-- The selection applied (R277, R278): a changed output drives the legs, counts, and is reported. The output that winding
discharge has replaced stays while the selection gives OPEN, and returns to OPEN at a decision boundary (R255, R257, R277). -/
def Chan.applySel (c : Chan) : Chan :=
  let z := c.selOf
  let safe := if z.safe = 1 ∧ c.g DUST_STATUS_SAFE = 4 then 4 else z.safe
  let c0 := c.p DUST_STATUS_PARTIAL (b2n z.part)
  if safe = c.g DUST_STATUS_SAFE ∧ (safe = 4 ∨ (z.en = c.g DUST_STATUS_PAIR_EN ∧ (z.en = 0 ∨ z.pulse = c.dust.pulse))) then c0
  else
    let en := if safe = 4 then c.g DUST_STATUS_PAIR_EN else z.en
    let c1 := (((c0.p DUST_STATUS_SAFE safe).p DUST_STATUS_PAIR_EN en).reacqLeave).onDust (fun d => { d with pulse := z.pulse })
    let c2 := (c1.wrapInc DUST_SEL_COUNT_SEL).p DUST_IRQ_STATUS_SAFE_CHANGE 1
    let c3 := (c2.evt 4 9 0 0 c2.dustWord 0).onLife (fun l => if safe = 2 ∨ safe = 3 then { l with asc := l.asc + 1 } else l)
    let c4 := c3.onProt (fun p =>
      if safe = 0 then { p with safeAt := none, ov2Held := false }
      else if p.safeAt.isSome then p
      else { p with safeAt := some c.now, ov2Held := c.gb DCL_STATUS_CMP 3 })
    if safe = 0 ∨ safe = 1 then c4.legsOff
    else if safe = 4 then c4 else c4.setLegs z.en z.pulse

/-! ### Contactors (R287 to R290) -/

/-- Whether contactor `n` (1 to 3) is fitted (R287). -/
def Chan.fitted (c : Chan) (n : Nat) : Bool :=
  match n with
  | 1 => true
  | 2 => c.b MSIO_CTL_PRE_EN
  | _ => c.g MSIO_CTL_AUX_MODE != 0

/-- The mask of the fitted contactors, bit n - 1. -/
def Chan.fittedMask (c : Chan) : Nat := 1 + 2 * b2n (c.fitted 2) + 4 * b2n (c.fitted 3)

/-- Every fitted CFB reads open. -/
def Chan.cfbOpen (c : Chan) : Bool := c.g CONT_STATUS_CFB &&& c.fittedMask == 0

/-- Every fitted CFB has stood for the debounce. -/
def Chan.cfbDeb (c : Chan) : Bool :=
  (List.range 3).all (fun k => !c.fittedMask.testBit k || c.since (nth c.msio.fbAt k) (ms (c.g CONT_DEB_DEB)))

/-- Every fitted CFB has read open for the debounce (R251, R255). -/
def Chan.cfbOpenDeb (c : Chan) : Bool := c.cfbOpen && c.cfbDeb

/-- Command and feedback of contactor `n` compared anew: DISCREP, and the clearing of CFB_DISCREP on agreement (R290). -/
def Chan.cmpCont (c : Chan) (n : Nat) : Chan :=
  let k := n - 1
  let dis := c.fitted n && c.gb CONT_STATUS_CMD k != c.gb CONT_STATUS_CFB k
  let c1 := (c.pb CONT_STATUS_DISCREP k dis).onMsio (fun m =>
    { m with cmpAt := m.cmpAt.set k c.now, discBy := if dis then m.discBy else setBit m.discBy k false })
  if c1.msio.discBy = 0 ∧ c1.srcActive CFB_DISCREP then c1.srcOff CFB_DISCREP else c1

/-- CDRVn driven high or low. -/
def Chan.setCdrv (c : Chan) (n : Nat) (v : Bool) : Chan :=
  if c.gb CONT_STATUS_CMD (n - 1) = v then c else (c.pb CONT_STATUS_CMD (n - 1) v).cmpCont n

/-- Every CDRV driven low, an auxiliary drive included (R288, R289). -/
def Chan.cdrvAllLow (c : Chan) : Chan := ((c.setCdrv 1 false).setCdrv 2 false).setCdrv 3 false

/-- The contactors of a mask driven low. -/
def Chan.openMask (c : Chan) (m : Nat) : Chan := c.each 3 (fun d k => if m.testBit k then d.setCdrv (k + 1) false else d)

/-- The contactors as a HOLD entered from PRIMED holds them (R288): low, but for an auxiliary drive. -/
def Chan.cdrvHoldPrimed (c : Chan) : Chan :=
  let d := (c.setCdrv 1 false).setCdrv 2 false
  if c.g MSIO_CTL_AUX_MODE = 2 then d else d.setCdrv 3 false

/-! ### Discharge (R250, R251, R537) -/

/-- The primary DC-link value (R129): the injected slot that XC_MAP names, if it names one. -/
def Chan.dcl (c : Chan) : Option Int :=
  let m := c.g XC_MAP_DCL
  if m.testBit 4 then some (c.gi (INJ_RES_RESULT (m / 4 % 4) (m % 4))) else none

/-- Slice 7 is turned on when a waiting sequence finds every contactor open after its debounce (R251 step 2). -/
def Chan.dchgTry (c : Chan) : Chan :=
  match c.prot.dchg with
  | none => c
  | some d =>
    if d.onAt.isSome ∨ !c.cfbOpenDeb then c
    else ((c.onProt (fun p => { p with dchg := some { d with onAt := some c.now, v0 := c.dcl.getD 0 } })).p
      DCHG_STATUS_STATE 2).setDchgOut true

/-- A discharge request (R250): accepted while DCHG_EN is 1; it starts a sequence or joins the running one (R537). -/
def Chan.dchgAsk (c : Chan) (s4 pin cmd : Bool) : Chan :=
  if !c.b PROT_CTL_DCHG_EN then c
  else match c.prot.dchg with
    | some d => c.onProt (fun p => { p with dchg := some { d with byS4 := d.byS4 || s4, byPin := d.byPin || pin, byCmd := d.byCmd || cmd } })
    | none =>
      let c1 := if c.srcActive DCHG_FAIL then c.srcOff DCHG_FAIL else c
      ((c1.onProt (fun p => { p with dchg := some ⟨s4, pin, cmd, c.now, none, 0, false⟩ })).p DCHG_STATUS_STATE 1).dchgTry

/-- LOCKSTEP_BROKEN as CORE holds it (R315). -/
def Chan.lockBroken (c : Chan) : Bool := c.b CORE_STATUS_LOCKSTEP_BROKEN

/-! ### Readiness (R54) -/

/-- The rails of a slice lie inside their limits (R224): both rails of a normal slice; of a bootstrap slice only the logic
supply enters CH_READY bit 6 (R227). SUP_MEAS counts 10 mV. -/
def Chan.railsOk (c : Chan) (s : Nat) : Bool :=
  if c.b (SL_CFG_BOOT s) then (c.sl s).power
  else
    let vp := c.gi (SUP_MEAS_VPOS s)
    let vn := c.gi (SUP_MEAS_VNEG s)
    let sp : Int := 1500 + 10 * (c.g (SL_SUPPLY_VPOS s) : Int)
    let sn : Int := -(200 + 10 * (c.g (SL_SUPPLY_VNEG s) : Int))
    let mg : Int := 50 + 10 * (c.g (SL_SUPPLY_UV_MARGIN s) : Int)
    (c.sl s).power && decide (sp - mg ≤ vp ∧ vp ≤ sp + 100 ∧ sn - 100 ≤ vn ∧ vn ≤ sn + 100)

/-- Every fitted contactor agrees with its command after the debounce, and no weld is recorded (CH_READY bit 5). -/
def Chan.contactorsOk (c : Chan) : Bool :=
  c.g CONT_STATUS_WELD == 0 &&
  (List.range 3).all (fun k => !c.fittedMask.testBit k ||
    (!c.gb CONT_STATUS_DISCREP k && c.since (nth c.msio.cmpAt k) (ms (c.g CONT_DEB_DEB))))

/-- CH_READY as it reads: one bit a condition of R54. -/
def Chan.ready (c : Chan) : Nat :=
  b2n c.ctl.safetyOk + 2 * b2n c.ctl.tuningOk
  + 4 * b2n (c.ctl.devId.isSome && c.ctl.devId == c.ctl.kept.map SetId.dev)
  + 8 * b2n c.ctl.selfTest
  + 16 * b2n (!c.b GUARD_CFG_EN || c.b GUARD_STATUS_TEST_SEEN)
  + 32 * b2n c.contactorsOk
  + 64 * b2n ((List.range 8).all (fun s => !c.b (SL_CFG_USED s) || c.railsOk s))
  + 128 * b2n (c.g EN_STATUS_EN_PIN == 15)
  + 256 * b2n (Nat.blt c.maxSev 3 && (List.range 8).all (fun s => !c.b (SL_STATUS_LATCHED s)))
  + 512 * b2n (!c.lockBroken)
  + 1024 * b2n (!c.b DUST_STATUS_SPD_HIGH)

/-- The lowest 0 bit among the first `n` bits of a mask, counted from 0; `n` where all are 1. -/
def lowestZero (m : Nat) : Nat → Nat
  | 0 => 0
  | n + 1 => if !m.testBit 0 then 0 else lowestZero (m / 2) n + 1

/-- CH_STATE as it reads: the copy of LOCKSTEP_BROKEN joins the stored fields (R70). -/
def Chan.chStateWord (c : Chan) : Nat := putBits (c.rd CH_STATE) 15 15 (b2n c.lockBroken)

/-- The end of an operation noted for Colmo's answer. -/
def Chan.answer (c : Chan) (op : ChOp) (status : Nat) (words : List Nat) : Chan :=
  { c with answers := c.answers ++ [⟨op, status, words⟩] }

/-- The answer of an ARM (R404): CH_STATE, CH_READY and CH_RESULT with OK, NOT_READY and ARM_TIMEOUT, nothing with
CANCELLED. -/
def Chan.armAnswer (c : Chan) (status : Nat) : Chan :=
  c.answer .arm status (if status = 0x10 then [] else [c.chStateWord, c.ready, c.rd CH_RESULT])

/-- A request discarded by R52. -/
def Chan.reqDiscard (c : Chan) : Chan := c.p CH_RESULT_REQ_DISCARDED 1

/-- An ARM discarded (R52): CANCELLED. -/
def Chan.armDiscard (c : Chan) : Chan := c.reqDiscard.armAnswer 0x10

/-- An ARM sequence that a change of state has ended: one accepted in this very cycle is discarded by its rank (R52), any other
answers NOT_READY (R404). -/
def Chan.armLost (c : Chan) (arm : Option ArmSeq) : Chan :=
  match arm with
  | none => c
  | some a => if sameCycle a.start c.now then c.armDiscard else c.armAnswer 0x1C

/-! ### Ends that a fault brings about -/

/-- The primer test abandoned (R230): RUNNING clears, DONE stays 0. -/
def Chan.primerAbort (c : Chan) : Chan :=
  if c.modul.primer.isSome then (c.onMod (fun m => { m with primer := none })).p PRIMER_RES_RUNNING 0 else c

/-- The ARM sequence ended (R56, R289): the contactors it closed are driven low; a failed precharge keeps its phase. -/
def Chan.armEnd (c : Chan) : Chan :=
  match c.ctl.arm with
  | none => c
  | some a =>
    let c1 := (c.openMask a.closed).onCtl (fun x => { x with arm := none })
    let c2 := c1.onMsio (fun m => { m with preAt := none })
    (if c2.g PRE_STATUS_PHASE = 5 then c2 else c2.p PRE_STATUS_PHASE 0).primerAbort

/-- A commit refused or cancelled for CHCTL's status (R63, R64, R66, R67): the code and COMMIT_REFUSED. -/
def Chan.commitCode (c : Chan) (code : Nat) : Chan :=
  (c.p COMMIT_STATUS_CODE code).p CH_IRQ_STATUS_COMMIT_REFUSED 1

/-- The kind of a fault (R273): 1 hard short, 2 core, 0 general. -/
def Src.kind (s : Src) : Nat := if s = SC_TRIP ∨ s = INTERLOCK then 1 else if s = ⟨11, 0⟩ then 2 else 0

/-- A hold begun (R273, R276): one of a kind that already runs is not extended. -/
def Chan.beginHold (c : Chan) (kind : Nat) : Chan :=
  if kind = 0 then c
  else if kind = 1 then
    if c.dust.hardEnd.isSome then c
    else
      let c1 := c.onDust (fun d => { d with hardEnd := some (c.now + us 10) })
      (((c1.p DUST_STATUS_REEVAL 1).pb DUST_STATUS_HOLD_KIND 0 true).wrapInc DUST_STATUS_HARD_N).satInc DUST_SEL_COUNT_HARD
  else
    if c.dust.coreEnd.isSome then c
    else
      let c1 := c.onDust (fun d => { d with coreEnd := some (c.now + us 4) })
      (c1.p DUST_STATUS_REEVAL 1).pb DUST_STATUS_HOLD_KIND 1 true

/-- A hold ends (R273) once every running one has: overlapping holds end at the later of their ends. -/
def Chan.endHold (c : Chan) : Chan :=
  let done := fun (e : Option Tick) => match e with
    | none => true
    | some t => Nat.ble t c.now
  if c.b DUST_STATUS_REEVAL && done c.dust.hardEnd && done c.dust.coreEnd then
    ((c.onDust (fun d => { d with hardEnd := none, coreEnd := none })).p DUST_STATUS_REEVAL 0).p DUST_STATUS_HOLD_KIND 0
  else c

/-! ### State changes -/

/-- Winding discharge ended (R257): the legs return to OPEN and the sequence's state is what `st` says. -/
def Chan.windEnd (c : Chan) (st : Nat) : Chan :=
  if c.prot.wind.isSome then (c.onProt (fun p => { p with wind := none })).p DCHG_STATUS_STATE st else c

/-- The S4 requests of R265: every CDRV low, the discharge asked for, the event noted for the SMC (R21). -/
def Chan.s4Requests (c : Chan) : Chan :=
  let c1 := ((c.p DUST_STATUS_S4_REQ 1).p CONT_STATUS_S4_OPEN 1).cdrvAllLow
  ((c1.onDust (fun d => { d with fwd := true })).onLife (fun l => { l with s4 := l.s4 + 1 })).dchgAsk true false false

/-- The clearing of a source if it is active. -/
def Chan.offIf (c : Chan) (s : Src) : Chan := if c.srcActive s then c.srcOff s else c

/-- nFAULT follows the state (R281). -/
def Chan.nfaultSet (c : Chan) : Chan :=
  let low := c.state = FAULT || (c.state = HOLD && c.b DUST_CTL_NFAULT_HOLD)
  c.onDust (fun d => { d with nfault := low })

/-- What leaving FAULT undoes (R59, R265, R276, R298) and the enable toggle of R60. -/
def Chan.leaveFault (c : Chan) : Chan :=
  let c1 := (((c.p DUST_STATUS_HARD_N 0).p DUST_STATUS_S4_REQ 0).p CONT_STATUS_S4_OPEN 0).p ACK_STATUS_ACK_SEEN 0
  let c2 := c1.onCtl (fun x => { x with clr := false, cond1 := none })
  c2.each 4 (fun d p =>
    if (pairSlices p).any (fun s => d.b (SL_STATUS_LATCHED s)) ∨ d.modul.ilk.testBit p then d.togglePair p else d)

/-- The sources that end when the channel leaves RUN: those of OBS by R534 (TM_LATE stays while the core pair is held), and those
whose condition exists only in RUN (R130, R168, R180, R181). -/
def runSources : List Src :=
  [⟨6, 0⟩, ⟨6, 1⟩, ⟨6, 2⟩, ⟨6, 3⟩, ⟨6, 4⟩, ⟨6, 5⟩, ⟨6, 6⟩, ⟨6, 7⟩, ⟨6, 8⟩, ⟨6, 9⟩,
   ⟨3, 9⟩, SPD_LIMIT_SRC, REFRESH_FORCED_SRC, ON_TIME_EXCEEDED_SRC]

/-- The quotient rounded up. -/
def ceilDiv (a b : Nat) : Nat := (a + b - 1) / b

/-- The decision period in cycles. -/
def Chan.perCyc (c : Chan) : Nat := max 1 (c.g DTC_PERIOD_COUNT)

/-- PW of R171: forced periods a window, 0 without windows. -/
def Chan.maskPw (c : Chan) : Nat := if c.b MASK_CTL_WIN_EN then ceilDiv (c.g MASK_WIN_WIDTH) c.perCyc else 0

/-- LEAD of R172. -/
def Chan.maskLead (c : Chan) : Nat := ceilDiv (c.g DWELL_MIN_COUNT) c.perCyc - 1

/-- PW and LEAD as MASK_STATUS reports them, at a landing of either kind and at each end of RUN; no commit changes LEAD while windows
run (R174). -/
def Chan.maskReport (c : Chan) : Chan :=
  let c1 := c.p MASK_STATUS_PW c.maskPw
  if c.state = RUN ∧ c.b MASK_CTL_WIN_EN then c1 else c1.p MASK_STATUS_LEAD c.maskLead

/-- What leaving RUN ends: the stream lapse (R72), the sources above, the masking window and the refresh (R174, R182, R183), the
decided vector (R158), MAGNETISING and six-step. -/
def Chan.leaveRun (c : Chan) : Chan :=
  let c1 := runSources.foldl (fun d x => d.offIf x) (c.offIf STREAM_LAPSE)
  let c2 := if c1.b CORE_STATUS_HELD then c1 else c1.offIf ⟨6, 10⟩
  let c3 := (((c2.p MASK_STATUS_WIN_OPEN 0).p MASK_STATUS_REFRESH 0).p DTC_STATUS_MAGNETISING 0).maskReport
  let c4 := c3.onDtc (fun d => { d with next := none, forced := false, entry := false, six := false, tEff := 0, r := 0, slew := false, degr := false, clamp := false, loss := false })
  let c5 := if c4.b DTC_STATUS_SIX then (c4.p DTC_STATUS_SIX 0).p DTC_IRQ_STATUS_SIX_CHANGE 1 else c4
  { c5 with
    obs := { c5.obs with tm := { c5.obs.tm with allRun := false } }
    mask := { c5.mask with idx := 0, due := false, trig := false, hiN := [0, 0, 0], lowN := [0, 0, 0], refDue := 0, refresh := 0, chg := 0 } }

/-- What PRIMED leaves of the engine (R151, R159): idle, its estimates zero, no decision that could find the depth limited (R177). -/
def Chan.engineIdle (c : Chan) : Chan :=
  (((c.wr EST_FLUX 0).wr EST_TQ 0).offIf DEPTH_LIMIT).onDtc (fun d => { d with psiA := 0, psiB := 0, te := 0, tePrev := 0, rA := 0, rB := 0, inp := none })

/-- The lifetime counts of a state change (R462): entries into FAULT, the time in RUN. -/
def Life.change (l : Life) (st : Nat) (now : Tick) : Life :=
  let l1 := match l.runFrom with
    | none => l
    | some t => { l with run := l.run + (now - t), runFrom := none }
  let l2 := if st = RUN then { l1 with runFrom := some now } else l1
  if st = FAULT then { l2 with fault := l2.fault + 1 } else l2

/-- The state changed (R50, R51): STATE, HOLD_CAUSE, STATE_CHANGE, the EVT record of type 3, and what the change ends: what RUN
alone has, EN_LOW outside ARMED, RUN and HOLD (R216), DCL_UV outside ARMED and RUN (R242), a DISARM in effect but for HOLD, where it
still applies (R52, log 15), a pending transition. -/
def Chan.setState (c : Chan) (st cause : Nat) : Chan :=
  let old := c.state
  let c1 := ((c.p CH_STATE_STATE st).p CH_STATE_HOLD_CAUSE (if st = HOLD then cause else 0)).p CH_IRQ_STATUS_STATE_CHANGE 1
  let c2 := (c1.evt 3 0 0 0 (old * 2 ^ 24 + st * 2 ^ 16 + (if st = HOLD then cause else 0) * 2 ^ 8) 0).onLife (fun l => l.change st c.now)
  let c3 := if old = RUN then c2.leaveRun else c2
  let c4 := if st = ARMED ∨ st = RUN ∨ st = HOLD then c3 else c3.offIf EN_LOW
  let c5 := if st = ARMED ∨ st = RUN then c4 else c4.offIf DCL_UV
  let moot := c.ctl.disarm && st == FAULT && (match c.ctl.disarmAt with
    | none => false
    | some t => sameCycle t c.now)
  let c6 := (if moot then c5.reqDiscard else c5).onCtl (fun x => { x with
    disarm := x.disarm && st == HOLD, rampEnded := false, trans := none, stateAt := c.now, owner := if st = ARMED ∨ st = RUN then x.owner else none })
  let c7 := if st = PRIMED then c6.engineIdle else c6
  let c8 := (if old = FAULT then c7.leaveFault else c7).nfaultSet
  { c8 with parked := c.parked && st == PRIMED }

/-- The entry into FAULT (R51, R263, R280, R289): what it ends, the latches of R59 that it clears, and the contactors. -/
def Chan.enterFault (c : Chan) : Chan :=
  let c1 := ((c.armEnd.primerAbort.setState FAULT 0).p ACK_STATUS_ACK_SEEN 0).armLost c.ctl.arm
  let c2 := c1.onCtl (fun x => { x with clr := false, cond1 := none })
  (c2.setCdrv 2 false).onMsio (fun m => { m with press := m.press.map (fun p => (p.1, false)) })

/-- DUST_CAUSE written at the entry into FAULT (R280). -/
def Chan.captureCause (c : Chan) (s : Src) (sev seq time : Nat) : Chan :=
  (((c.wr DUST_CAUSE (2 ^ 31 + sev * 2 ^ 27 + s.kind * 2 ^ 24 + s.blk * 2 ^ 16 + s.bit)).wr DUST_CAUSE_SEQ seq).wr
    DUST_CAUSE_TIME_LO (time % 2 ^ 32)).wr DUST_CAUSE_TIME_HI (time / 2 ^ 32)

/-- The waveform rings triggered (R35, R36): rings in their post-trigger portion or frozen take no further trigger. -/
def Chan.ringTrigger (c : Chan) (time cause seq : Nat) : Chan :=
  match c.ring.phase with
  | .running => { c with ring := { c.ring with phase := .post, trigTime := time, cause := cause, causeSeq := seq, manual := cause == 0 } }
  | _ => c

/-- A source goes before the captured cause (R280): higher severity, then lower block, then lower bit. -/
def Chan.outranks (c : Chan) (s : Src) (sev : Nat) : Bool :=
  let w := c.rd DUST_CAUSE
  let a := bitsOf w 29 27
  let b := bitsOf w 19 16
  Nat.blt a sev || (a == sev && (Nat.blt s.blk b || (s.blk == b && Nat.blt s.bit (bitsOf w 4 0))))

/-- The trigger of the rings named after the cause captured in its stead. -/
def Chan.ringRename (c : Chan) (seq : Nat) : Chan :=
  match c.ring.phase with
  | .post => if c.ring.manual then c else { c with ring := { c.ring with cause := c.rd DUST_CAUSE, causeSeq := seq } }
  | _ => c

/-- A source at S3 or S4 at the dust sheet (R263, R265, R273, R280): the entry into FAULT with its cause or OVF, the trigger
of the rings, the hold of its kind, the end of winding discharge, and at S4 the requests of R265. -/
def Chan.arrive (c : Chan) (s : Src) (seq : Nat) : Chan :=
  let sev := c.sevOf s
  if sev < 3 then c
  else
    let t := c.devTime
    let c1 :=
      if c.state = FAULT then
        (if !c.b DUST_CAUSE_VALID then c.captureCause s sev seq t
        else if sameCycle c.ctl.stateAt c.now && c.outranks s sev then (((c.captureCause s sev seq t).p DUST_CAUSE_OVF 1).ringRename seq)
        else c.p DUST_CAUSE_OVF 1)
      else
        let d := (c.captureCause s sev seq t)
        (d.ringTrigger t (d.rd DUST_CAUSE) seq).enterFault
    let c2 := c1.beginHold s.kind
    if sev = 4 then c2.s4Requests else c2

/-- A source raised without the cancelling of a pending commit (COMMIT_FAIL and the sources a fault's entry itself raises). -/
def Chan.raise0 (c : Chan) (s : Src) : Chan :=
  if c.srcActive s then c else (c.srcOn s 0).arrive s c.out.seq

/-- An event source (R535): active for one cycle, then clear. -/
def Chan.pulse0 (c : Chan) (s : Src) : Chan :=
  if c.srcActive s then c else ((c.srcOn s 0).srcOff s).arrive s c.out.seq

/-- The status of R394 that a COMMIT_STATUS.CODE answers with (R400): the status of the same name. -/
def commitStatus (code : Nat) : Nat :=
  match code with
  | 2 => 0
  | 3 => 0x0E
  | 4 => 0x0F
  | 5 => 0x06
  | 7 => 0x07
  | 8 => 0x11
  | _ => 0x10

/-- The operation whose answer a commit of a kind is. -/
def Kind.op (k : Kind) : ChOp :=
  match k with
  | .tuning => .commit
  | .safety => .confirm

/-- A pending commit cancelled by a source at S3 or S4 (R67); a streamed command held for it is dropped (R392). -/
def Chan.cancelCommit (c : Chan) (code : Nat) : Chan :=
  match c.ctl.commit with
  | none => c
  | some k => (((c.onCtl (fun x => { x with commit := none, heldTq := none })).commitCode code).answer k.kind.op (commitStatus code) []).pulse0 COMMIT_FAIL

/-- Winding discharge aborted (R257) with WD_ABORT, which at S3 or S4 cancels a pending commit (R67). -/
def Chan.windAbort (c : Chan) : Chan :=
  if c.prot.wind.isSome then
    let d := (c.windEnd 5).raise0 WD_ABORT
    if 3 ≤ d.sevOf WD_ABORT then d.cancelCommit 6 else d
  else c

/-- The selection run again (R277), NO_SAFE raised or cleared with it (R274, R275). -/
def Chan.reselect (c : Chan) : Chan :=
  let z := c.selOf
  let c0 := if c.prot.wind.isSome && z.safe != 1 then c.windEnd 5 else c
  let c1 := c0.applySel
  if z.noSafe then
    if c1.srcActive NO_SAFE then c1
    else ((c1.cancelCommit 6).raise0 NO_SAFE).applySel
  else c1.offIf NO_SAFE

/-! ### Leaving FAULT, HOLD, ARMED and RUN through a delay of 1 ms (R51, R59, R530) -/

/-- Condition 2 of R59: the safe state in force is OPEN, or the speed class lies below the ASC threshold. -/
def Chan.exitSafe (c : Chan) : Bool := c.g DUST_STATUS_SAFE == 1 || !c.b DUST_STATUS_SPD_HIGH

/-- The state that a transition with a delay of 1 ms would take the channel to, if its conditions hold now. -/
def Chan.wanted (c : Chan) : Option Nat :=
  if c.state = FAULT then
    if c.maxSev < 3 ∧ c.exitSafe ∧ c.ctl.clr ∧ c.b ACK_STATUS_ACK_SEEN then some (if c.lockBroken then HOLD else PRIMED) else none
  else if c.state = HOLD then
    if c.ctl.disarm ∧ c.ctl.arm.isNone ∧ !c.b DUST_STATUS_SPD_HIGH then some PRIMED else none
  else if c.state = ARMED ∨ c.state = RUN then
    if c.ctl.disarm ∧ c.ctl.rampEnded ∧ !c.b DUST_STATUS_SPD_HIGH then some PRIMED else none
  else none

/-- The 1 ms of R530 starts when all conditions hold, and starts again when one has ceased; condition 1 of R59 is noted at
the instant it first holds in a FAULT episode. -/
def Chan.transCheck (c : Chan) : Chan :=
  let c1 := if c.state = FAULT ∧ c.ctl.cond1.isNone ∧ c.maxSev < 3 then c.onCtl (fun x => { x with cond1 := some c.now }) else c
  match c1.wanted, c1.ctl.trans with
  | none, none => c1
  | none, some _ => c1.onCtl (fun x => { x with trans := none })
  | some d, none => c1.onCtl (fun x => { x with trans := some ⟨d, c.now⟩ })
  | some d, some t => if t.dest = d then c1 else c1.onCtl (fun x => { x with trans := some ⟨d, c.now⟩ })

/-! ### Sources raised and cleared -/

/-- A source raised (R262, R263): in its block, then at the dust sheet. A source already active is not raised again. At S3
and S4 a pending commit is cancelled (R67) and a winding discharge ends (R257). -/
def Chan.raiseSl (c : Chan) (s : Src) (slice : Nat) : Chan :=
  if c.state = OFF ∨ c.srcActive s then c
  else
    let seq := c.out.seq
    let c1 := c.srcOn s slice
    let c2 := c1.arrive s seq
    let c3 := if 3 ≤ c1.sevOf s then c2.windAbort.cancelCommit 6 else c2
    c3.reselect.transCheck

/-- A source raised that names no slice. -/
def Chan.raise (c : Chan) (s : Src) : Chan := c.raiseSl s 0

/-- A source cleared (R262); conditions of R59 may begin to hold. -/
def Chan.clear (c : Chan) (s : Src) : Chan := if c.srcActive s then (c.srcOff s).transCheck else c

/-- A source of RUN alone whose verdict was reached in RUN: raised; where another of its decision has ended RUN, it is inactive again
(R534). -/
def Chan.raiseRun (c : Chan) (s : Src) : Chan :=
  let c1 := c.raise s
  if c1.state = RUN then c1 else c1.clear s

/-- A source set active or inactive with its condition. -/
def Chan.follow (c : Chan) (s : Src) (cond : Bool) : Chan := if cond then c.raise s else c.clear s

/-- An event source (R535) raised: active for one cycle. -/
def Chan.pulseSl (c : Chan) (s : Src) (slice : Nat) : Chan :=
  if c.state = OFF ∨ c.srcActive s then c
  else
    let seq := c.out.seq
    let c1 := c.srcOn s slice
    let c2 := c1.arrive s seq
    let c3 := if 3 ≤ c1.sevOf s then c2.windAbort.cancelCommit 6 else c2
    (c3.reselect.offIf s).transCheck

/-- An event source raised that names no slice. -/
def Chan.pulse (c : Chan) (s : Src) : Chan := c.pulseSl s 0

/-- A commit refused (R63, R64, R66): code, COMMIT_REFUSED and the event source COMMIT_FAIL. -/
def Chan.refuseCommit (c : Chan) (code : Nat) : Chan := (c.commitCode code).pulse COMMIT_FAIL

/-- A slice's condition on a source that all slices share (R233): the source is raised with the first slice and clears with
the last. -/
def Chan.raiseBy (c : Chan) (s : Src) (slice : Nat) : Chan :=
  (c.onMod (fun m => { m with who := bump m.who s.bit (fun w => setBit w slice true) })).raiseSl s slice

/-- A slice's condition on a shared source gone. -/
def Chan.clearBy (c : Chan) (s : Src) (slice : Nat) : Chan :=
  let c1 := c.onMod (fun m => { m with who := bump m.who s.bit (fun w => setBit w slice false) })
  if nth c1.modul.who s.bit = 0 then c1.clear s else c1

/-! ### Entry into the states other than FAULT -/

/-- EN_LOW (R216) and DCL_UV (R242) judged on entry into a state, the speed class against IDLE_SPIN (R268). -/
def Chan.entryChecks (c : Chan) : Chan :=
  let st := c.state
  let c1 := if (st = ARMED ∨ st = RUN ∨ st = HOLD) ∧ c.g EN_STATUS_EN_PIN ≠ 15 then c.raise EN_LOW else c
  if (c1.state = ARMED ∨ c1.state = RUN) ∧ c1.gb DCL_STATUS_CMP 0 then c1.raise DCL_UV else c1

/-- The channel enters PRIMED (R51, R289, R531): legs off, every CDRV low. -/
def Chan.enterPrimed (c : Chan) : Chan :=
  ((c.armEnd.setState PRIMED 0).reselect.legsOff.cdrvAllLow.p PRE_STATUS_PHASE 0).entryChecks.transCheck

/-- The channel enters ARMED (R55, R531): the slices enabled with all switches off. -/
def Chan.enterArmed (c : Chan) : Chan := ((c.setState ARMED 0).reselect.legsOff).entryChecks.transCheck

/-- The channel enters RUN (R51); the lapse timer starts. -/
def Chan.enterRun (c : Chan) : Chan := ((c.setState RUN 0).onCtl (fun x => { x with lapseAt := c.now })).entryChecks.transCheck

/-- The channel enters HOLD (R51, R288): from PRIMED the contactors are low, from the other states they keep their levels
but for CDRV2. The dust sheet's selection applies. -/
def Chan.enterHold (c : Chan) (cause : Nat) : Chan :=
  let old := c.state
  let c1 := (c.armEnd.setState HOLD cause).armLost c.ctl.arm
  let c2 := if old = PRIMED then c1.cdrvHoldPrimed else c1.setCdrv 2 false
  c2.reselect.entryChecks.transCheck

end Sys2Proof.Machine
end

