-- ==== Sys2Proof/Machine/ArmSeq.lean ====
section
/-! DEFINITION. Machine/ArmSeq.lean: the steps and ends of the ARM sequence (R55, R56), the supervised
precharge (R292, R293) and the leg-health record (R269, R271). -/

namespace Sys2Proof.Machine

/-- A failed step ends the ARM sequence (R56): ARM_REFUSED sets, neither CH_RESULT.ARM_TIMEOUT nor the source. -/
def Chan.armFail (c : Chan) : Chan :=
  if c.ctl.arm.isSome then ((c.armEnd).p CH_IRQ_STATUS_ARM_REFUSED 1).armAnswer 0x1C else c

/-- A step of a running sequence fails with a source of its own (R56): ARM_REFUSED sets whatever that source leads to. -/
def Chan.armRefuse (c : Chan) : Chan := if c.ctl.arm.isSome then c.p CH_IRQ_STATUS_ARM_REFUSED 1 else c

/-- The step of the running ARM sequence changed. -/
def Chan.armStep (c : Chan) (st : ArmStep) : Chan :=
  c.onCtl (fun x => { x with arm := x.arm.map (fun a => { a with step := st, stepAt := c.now }) })

/-- The step of the running ARM sequence, if one runs. -/
def Chan.armAt (c : Chan) : Option ArmStep := c.ctl.arm.map ArmSeq.step

/-- A contactor the ARM sequence closes (R55, R292). -/
def Chan.armClose (c : Chan) (n : Nat) : Chan :=
  (c.onCtl (fun x => { x with arm := x.arm.map (fun a => { a with closed := setBit a.closed (n - 1) true }) })).setCdrv n true

/-! ### Supervised precharge (R292, R293) -/

/-- The source voltage of R293: the newest matching result not older than 1 ms, or VNOM. -/
def Chan.preSource (c : Chan) : Option Int :=
  if c.b PRE_SRC_EN then
    match c.msio.vsrc with
    | none => none
    | some (v, t) => if c.since t (ms 1 + 1) then none else some v
  else some (c.gi PRE_SRC_VNOM)

/-- The comparison of R292 step 3: the primary DC-link value lies at or above PCT % of the source voltage. -/
def Chan.preLevel (c : Chan) : Bool :=
  match c.preSource, c.dcl with
  | some v, some d => decide ((c.g PRE_CFG_PCT : Int) * v ≤ 100 * d)
  | _, _ => false

/-- The source voltage used, as PRE_STATUS.VSRC reports it. -/
def Chan.preReport (c : Chan) : Chan :=
  let c1 := match c.preSource with
    | some v => c.pi PRE_STATUS_VSRC v
    | none => c
  match c.msio.preAt with
  | some t => c1.p PRE_STATUS_ELAPSED (min 8191 ((c.now - t) / ms 1))
  | none => c1

/-- Step 2 of R292: the precharge contactor driven high, if it is fitted and no weld is recorded (R291); the timer starts. -/
def Chan.preCharge (c : Chan) : Chan :=
  let c1 := ((c.armStep .charging).onMsio (fun m => { m with preAt := some c.now })).p PRE_STATUS_PHASE 2
  if c.b MSIO_CTL_PRE_EN && c.g CONT_STATUS_WELD == 0 then c1.armClose 2 else c1

/-- Step 3 of the ARM sequence begins (R292 step 1). -/
def Chan.preStart (c : Chan) : Chan :=
  if c.g MSIO_CTL_AUX_MODE = 1 then ((c.armStep .companion).p PRE_STATUS_PHASE 1).armClose 3 else c.preCharge

/-- The comparison at a decision boundary (R292 step 3): a level reached drives CDRV1 high. -/
def Chan.preCompare (c : Chan) : Chan :=
  match c.armAt with
  | some .charging =>
    let c1 := c.preReport
    if c1.preLevel then ((c1.armStep .mainClose).p PRE_STATUS_PHASE 3).armClose 1 else c1
  | _ => c

/-- DEB ms have passed since the present step of the ARM sequence began. -/
def Chan.stepDeb (c : Chan) : Bool :=
  match c.ctl.arm with
  | none => false
  | some a => c.since a.stepAt (ms (c.g CONT_DEB_DEB))

/-- The confirm of contactor `n` (R292): DEB ms after its command the feedback agrees. -/
def Chan.confirmed (c : Chan) (n : Nat) : Bool := !c.gb CONT_STATUS_DISCREP (n - 1) && c.stepDeb

/-- The ARM sequence waits for the confirm of contactor `n`, and its DEB ms have passed. -/
def Chan.confirmDue (c : Chan) (n : Nat) : Bool :=
  c.stepDeb && (match c.armAt with
    | some .companion => n == 3
    | some .mainClose => n == 1
    | some .preOpen => n == 2
    | _ => false)

/-- The precharge timer has reached PRE_CFG.T ms (R292). -/
def Chan.preOver (c : Chan) : Bool :=
  match c.msio.preAt with
  | none => false
  | some t => c.since t (ms (c.g PRE_CFG_T))

/-- The confirms of R292: the companion, the main contactor, then the precharge contactor opened. The last one leaves the
sequence ready for its end. -/
def Chan.armAdvance (c : Chan) : Chan :=
  match c.armAt with
  | some .companion => if c.confirmed 3 then c.preCharge else c
  | some .mainClose =>
    if c.confirmed 1 then
      (if c.b MSIO_CTL_PRE_EN then
        let d := c.armStep .preOpen
        (d.onCtl (fun x => { x with arm := x.arm.map (fun a => { a with closed := setBit a.closed 1 false }) })).setCdrv 2 false
      else (c.armStep .ready).p PRE_STATUS_PHASE 4)
    else c
  | some .preOpen => if c.confirmed 2 then (c.armStep .ready).p PRE_STATUS_PHASE 4 else c
  | _ => c

/-! ### The leg-health record (R269, R271) -/

/-- A failed-short bit set with its origin (R269); each change raises LEG_CHANGE and runs the selection (R277). -/
def Chan.legSet (c : Chan) (high : Bool) (leg : Nat) (origin : Fld) : Chan :=
  let f := if high then LEG_HEALTH_FS_H else LEG_HEALTH_FS_L
  if c.gb f leg && c.gb origin leg then c
  else ((((c.pb f leg true).pb origin leg true).p DUST_IRQ_STATUS_LEG_CHANGE 1).reselect).transCheck

/-- The whole record cleared (R271). -/
def Chan.legClear (c : Chan) : Chan :=
  if c.rd LEG_HEALTH = 0 then c
  else (((c.wr LEG_HEALTH 0).p DUST_IRQ_STATUS_LEG_CHANGE 1).reselect).transCheck

end Sys2Proof.Machine
end

