-- ==== Sys2Proof/Machine/DevState.lean ====
section
/-! DEFINITION. Machine/DevState.lean: what the device holds beside its registers and its channels: power, boot, self-test, the host
link, Colmo's operations, the CAN controllers, the archive and the security engine. -/

namespace Sys2Proof.Machine

/-- A sparse table: number and content, numbers strictly rising; a number without an entry holds the content's reset value. -/
abbrev Tab (α : Type) := List (Nat × α)

/-! ### Power, clocks, boot (chapter 19, R466) -/

/-- The device's power phase (R485, R486, R491): PD_AON without power; a power-on, supply or pin reset held; running; STANDBY; OFF. -/
inductive Phase where
  | noAon
  | held
  | run
  | standby
  | off
  deriving DecidableEq, Repr

/-- The SMC pair: in reset, released, its ROM has started Colmo, Colmo runs, or the ROM has stopped (R466). -/
inductive Smc where
  | down
  | released
  | booted
  | up
  | stopped
  deriving DecidableEq, Repr

/-- Power, clocks and resets beside their registers. -/
structure Pwr where
  phase : Phase := .held
  smc : Smc := .down
  /-- nRSTOUT reads high. -/
  nrstout : Bool := false
  /-- Rails inside their windows, bits as SYS_RAIL_STATUS. -/
  rails : Nat := 0xFF
  /-- The instant at which each rail last came back into its window, 0 without one (R346). -/
  back : List Tick := List.replicate 8 0
  /-- SYS_CLK_STATUS (R489). -/
  xtalOk : Bool := false
  pllOnAon : Bool := false
  aonDev : Bool := false
  /-- A wake that waits for STANDBY (R488). -/
  wakeHeld : Bool := false
  /-- The low-power state of an accepted SHUTDOWN, 0 without one. -/
  shut : Nat := 0
  /-- A dip in progress: its beginning (instant and device time). -/
  dip : Option (Tick × Nat) := none
  /-- The watchdog's last restart. -/
  kickAt : Tick := 0
  /-- The start of the present phase. -/
  since : Tick := 0
  /-- Colmo has loaded a valid channel image (R466). -/
  chImage : Bool := false
  /-- PHY_nRST reads high (R357). -/
  phy : Bool := false
  /-- The present start follows a power-on or supply reset (R462, POWER_ON). -/
  fresh : Bool := true
  deriving DecidableEq, Repr

/-! ### BIST and undercoat (chapter 14) -/

/-- A row mapped onto a spare (R350): target, macro, row. -/
structure Repair where
  target : Nat
  mac : Nat
  row : Nat
  deriving DecidableEq, Repr

/-- The undercoat record (R343): result codes of the targets, soft-repair log, device time and the number of records written to AON
retention, and the CRC, none while the record has not been completed. -/
structure UcRec where
  res : List Nat
  soft : List Repair
  time : Nat
  count : Nat
  crc : Option Nat
  deriving DecidableEq, Repr

/-- What the engine's running tests belong to. -/
inductive BistMode where
  | idle
  | startup
  | undercoat
  | request
  deriving DecidableEq, Repr

/-- The BIST engine beside its registers: the targets still to run in their order, those repeated after a NOT_VALID (R347),
whether the whole device is held (R348, R349), the record in retention with its validity, the soft repairs in force, the
results of the running undercoat, the target of a request. -/
structure Bist where
  mode : BistMode := .idle
  todo : List Nat := []
  again : List Nat := []
  stuck : Bool := false
  ucRec : Option UcRec := none
  soft : List Repair := []
  uc : List Nat := []
  /-- The channels whose targets an accepted undercoat runs (R341), and the records written to AON retention (R343). -/
  runs : List Ch := []
  count : Nat := 0
  req : Nat := 0
  fuse : Bool := false
  deriving DecidableEq, Repr

/-! ### HOSTQ (chapter 15) -/

/-- What happens when an answer has left (R396, R407, R421, R422, R470). -/
inductive After where
  | none
  | key (k : List Nat) (cls : Nat)
  | noKey
  | resetChan (ch : Ch)
  | resetBoth
  | resetSmc
  | ident (id : Nat)
  | lifecycle (st : Nat)
  deriving DecidableEq, Repr

/-- A frame that waits in an OUT queue, or a copy that is kept (R370): KIND, flow, source, tag, SEQ, TIMESTAMP and holdover mark of its
source, payload; whether it ends the operation of its tag, and what follows it. -/
structure OutFrame where
  kind : Nat
  flow : Nat
  source : Nat
  tag : Nat
  seq : Nat
  time : Nat
  hold : Bool
  payload : List Nat
  ends : Bool
  after : After
  retx : Bool
  deriving DecidableEq, Repr

/-- The header and the payload of a Zadom frame (R359). -/
structure Zadom where
  kind : Nat
  flags : Nat
  dev : Nat
  source : Nat
  epoch : Nat
  flow : Nat
  queue : Nat
  tag : Nat
  credit : Nat
  seq : Nat
  time : Nat
  bundle : Nat
  auth : Nat
  payload : List Nat
  deriving DecidableEq, Repr

/-- A bundle under assembly or complete (R372, R373): tag, identifier, epoch, SEQ of fragment 0, its acceptance, the receive stamp of the
newest fragment, the sender, whether LAST has come, and the payloads by fragment index. -/
structure Bundle where
  flow : Nat
  tag : Nat
  bundle : Nat
  epoch : Nat
  seq0 : Nat
  at_ : Tick
  arrival : Nat
  host : Nat
  port : Nat
  lastIdx : Option Nat
  frags : Tab (List Nat)
  deriving DecidableEq, Repr

/-- A flow context (R365, R367, R370): OPEN, DIR (true: OUT), RELIABLE, pair, queue, INIT, GRANT or LIMIT, RCV or SENT, FLOW_SEQ; whether
the next frame is the first since a reset, credits freed and not yet returned by CREDIT_RETURN, whether the counters have changed since
the last CRD, the host that opened it, the copies kept with the instants of their sending, the bundle under assembly, a host SENT that is newer than RCV. -/
structure Flow where
  opened : Bool := false
  out : Bool := false
  reliable : Bool := false
  pairEn : Bool := false
  pair : Nat := 0
  queue : Nat := 0
  init : Nat := 0
  cntA : Nat := 0
  cntB : Nat := 0
  seq : Nat := 0
  first : Bool := true
  returns : Nat := 0
  changed : Bool := false
  host : Nat := 0
  port : Nat := 0
  copies : List (Tick × OutFrame) := []
  bundle : Option Bundle := none
  /-- The SENT that the host last reported for an IN flow, and the instant since which it is newer than RCV. -/
  peer : Option Nat := none
  peerAt : Option Tick := none
  deriving DecidableEq, Repr

/-- A queue: Q_CFG, Q_STAT, the frames of an OUT queue, the complete bundles of an IN queue, the frames of its round (R363). -/
structure Queue where
  rsv : Nat := 0
  thresh : Nat := 0
  weight : Nat := 1
  pcp : Nat := 0
  drops : Nat := 0
  level : Nat := 0
  frames : List OutFrame := []
  bundles : List Bundle := []
  served : Nat := 0
  /-- LEVEL has reached THRESH, or a frame was dropped or discarded, since the queue's vector last fired (R382). -/
  ev : Bool := false
  deriving DecidableEq, Repr

/-- A vector's NTF_ROUTE. -/
structure Route where
  flow : Nat := 2
  msg : Bool := true
  pinEn : Bool := false
  pin : Nat := 0
  deriving DecidableEq, Repr

/-- An entry of a CRD or SYNC list (R369): flow, role (1 sender), COUNT_A, COUNT_B. -/
structure CrdEntry where
  flow : Nat
  role : Nat
  cntA : Nat
  cntB : Nat
  deriving DecidableEq, Repr

/-- Where a credit audit stands (R376): the module as initiator or as responder, draining or waiting for the other end; requests sent. -/
structure Audit where
  initiator : Bool
  drained : Bool
  tries : Nat
  since : Tick
  deriving DecidableEq, Repr

/-- The link (R375 to R380). -/
structure Link where
  audit : Option Audit := none
  /-- The last epoch raise, and a raise that waits for its 100 ms. -/
  raiseAt : Option Tick := none
  raiseDue : Bool := false
  /-- EPOCH_NEW is sent until it is acknowledged. -/
  epochWait : Bool := false
  /-- The link has been up since the reset; a first link-up starts HELLO. -/
  seen : Bool := false
  hello : Bool := false
  /-- The parts of a SYNC list received so far (R376): subtype, next part, entries. -/
  sub : Nat := 0
  part : Nat := 0
  entries : List CrdEntry := []
  /-- The last EPOCH_NEW and HELLO. -/
  newAt : Tick := 0
  helloAt : Option Tick := none
  deriving DecidableEq, Repr

/-- A frame as it left: the Zadom frame, the address and port it went to, the VLAN tag (PCP, VID) if tagged, and ETH's stamp (R355). -/
structure TxFrame where
  z : Zadom
  host : Nat
  port : Nat
  tag : Option (Nat × Nat)
  stamp : Nat
  deriving DecidableEq, Repr

/-- HOSTQ beside its registers: flows, queues, vectors, the vectors in holdoff with its beginning and those whose NTF waits for its end, the link, the CRD
and SYNC frames that wait for egress, the operations' busy tags, what follows answers that could not be sent, the last frame sent. -/
structure Hostq where
  flows : Tab Flow := []
  queues : Tab Queue := []
  routes : Tab Route := []
  off : List (Nat × Tick) := []
  wait : List Nat := []
  /-- The enabled interrupt bits on which the vectors of the functions have fired, by function and IRQ_STATUS register. -/
  seen : RegMap := []
  /-- The last ends of a CRD_T interval and of one of 100 ms (R369). -/
  crdAt : Tick := 0
  fullAt : Tick := 0
  link : Link := {}
  ctl : List Zadom := []
  busy : List Nat := []
  due : List After := []
  sent : Option TxFrame := none
  deriving DecidableEq, Repr

/-- ETH beside its registers: the Sync counts of R356, the last answer to a control protocol and the address it went to, the stamp of the
last frame received (R355), that of a two-step Sync whose Follow_Up is to come, and the delay of the link. -/
structure EthSt where
  stamp : Nat := 0
  syncAt : Option Nat := none
  delay : Int := 0
  good : Nat := 0
  bad : Nat := 0
  answered : Option (CtlProto × Nat) := none
  deriving DecidableEq, Repr

/-! ### Colmo (chapter 16) -/

/-- The result of a record: its data, or what it waits for; a SHUTDOWN waits for the snapshots to be written (R461). -/
inductive Slot where
  | done (data : List Nat)
  | chan (ch : Ch) (op : ChOp)
  | mail (ch : Ch) (data : List Nat)
  | bist (target : Nat)
  | image
  | arc
  | shut (st : Nat)
  deriving DecidableEq, Repr

/-- A bundle whose answer is still due (R393). -/
structure Running where
  req : Req
  slots : List Slot
  deriving DecidableEq, Repr

/-- The session (R395, R396): key, class, the nonces that stand. -/
structure Session where
  key : Option (List Nat) := none
  cls : Option Nat := none
  nonce : Option Nat := none
  lcNonce : Option Nat := none
  deriving DecidableEq, Repr

/-- A running FW_STAGE (R421): kind, flow, length, digest, the data received. -/
structure Staging where
  kind : Nat
  flow : Nat
  len : Nat
  digest : Nat
  req : Req
  parts : List (Nat × List Nat)
  deriving DecidableEq, Repr

/-- A running ARC_READ (R419): partition, flow, the next offset, the bytes still to send, the running CRC-32, the INDEX of each ring slot as
the read began (R474). -/
structure ArcRead where
  part : Nat
  flow : Nat
  off : Nat
  left : Nat
  crc : Nat
  idx : List (Option Nat)
  deriving DecidableEq, Repr

/-- A CAN mapping entry (R424). -/
structure MapEnt where
  pgn : Nat
  src : Nat
  start : Nat
  len : Nat
  scale : Nat
  offset : Nat
  op : Nat
  target : Nat
  arg : Nat
  timeout : Nat
  deriving DecidableEq, Repr

/-- What Colmo holds: the session, answers due, the staged image and whether its slot waits for a reset, the entries of the
shadow safety image that the session has read since the stage (per channel), the EVT filter, telemetry records that wait for their frame,
the CAN mapping tables. -/
structure Colmo where
  session : Session := {}
  running : List Running := []
  staging : Option Staging := none
  arcRead : Option ArcRead := none
  /-- Kinds whose staged slot holds a verified image (R421). -/
  staged : List Nat := []
  activating : Bool := false
  readA : List Nat := []
  readB : List Nat := []
  filter : List Nat := [1, 1, 1, 1, 1, 1, 1, 1]
  tlm : List (Ch × Nat × List Rec) := []
  mapShadow : Tab MapEnt := []
  openCls : Nat := 0
  deriving DecidableEq, Repr

/-! ### CAN (chapter 17) -/

/-- An end-to-end receive object (R443): whether the counter has a reference, the last frame that passed (or enabling). -/
structure E2eSt where
  ref : Bool := false
  at_ : Tick := 0
  deriving DecidableEq, Repr

/-- A controller beside its registers: the object whose start of frame has been sent, end-to-end states, the last frame sent. -/
structure CanSt where
  /-- Bus-off, whatever INIT is (R439). -/
  off : Bool := false
  tx : Option Nat := none
  e2e : Tab E2eSt := []
  sent : Option CanFrame := none
  deriving DecidableEq, Repr

/-- A transport-protocol transfer under reception (R444): the sender, broadcast or connection, PGN, bytes, packets, the packet due, data. -/
structure Tp where
  src : Nat
  bam : Bool
  pgn : Nat
  bytes : Nat
  packets : Nat
  next : Nat
  data : List Nat
  deriving DecidableEq, Repr

/-- ISO 11783 on CAN A (R444, R445): NAME, the claims seen (address, NAME), the start of a claim, transfers, the last whole message
(PGN, source, data), frames that wait for a free object of MO112 to MO127. -/
structure Iso where
  en : Bool := false
  name : Nat := 0
  pref : Nat := 0
  claims : Tab Nat := []
  claimAt : Tick := 0
  tps : List Tp := []
  got : Option (Nat × Nat × List Nat) := none
  out : List CanFrame := []
  deriving DecidableEq, Repr

/-! ### Archive and security (chapter 18) -/

/-- A stored set (R403, R459): write count, image as pairs of offset and value, CRC, identity. -/
structure Stored where
  count : Nat
  image : List (Nat × Nat)
  id : Option SetId
  deriving DecidableEq, Repr

/-- The two stored copies of one kind of one channel's set. -/
structure Copies where
  a : Option Stored := none
  b : Option Stored := none
  deriving DecidableEq, Repr

/-- The boot-control record of an image kind (R467): slots 0 and 1. -/
structure BootCtl where
  active : Nat := 0
  trial : Option Nat := none
  /-- The slot that booted, whether as the trial, whether as a fallback. -/
  slot : Nat := 0
  onTrial : Bool := false
  fallback : Bool := false
  deriving DecidableEq, Repr

/-- An entry of the life-cycle log (R463). -/
structure LcEnt where
  old : Nat
  new : Nat
  time : Nat
  digest : Nat
  powerOn : Nat
  deriving DecidableEq, Repr

/-- An entry of the snapshot ring (R460). -/
structure Snap where
  index : Nat
  ch : Ch
  manual : Bool
  hold : Bool
  period : Nat
  trigTime : Nat
  cause : Nat
  causeSeq : Nat
  cfg : SnapCfg
  samples : List (List Nat)
  deriving DecidableEq, Repr

/-- A public-key record of CONFIG (R464): kind and key bytes. -/
structure KeyRec where
  kind : Nat
  key : List Nat
  deriving DecidableEq, Repr

/-- The ISO 11783 part of CAN A's configuration record (R444, R445). -/
structure IsoCfg where
  en : Bool := false
  name : Nat := 0
  pref : Nat := 0x80
  deriving DecidableEq, Repr

/-- What the archive keeps (R457). -/
structure Arch where
  formatted : Bool := false
  /-- Blocks counted at the format for the ring, its slots, and the slots retired since (R460). -/
  snapBlocks : Nat := 0
  ringSlots : Nat := 0
  retired : List Nat := []
  /-- The spares that partitions 0 to 7 have used (R456). -/
  used : List Nat := [0, 0, 0, 0, 0, 0, 0, 0]
  facBad : Nat := 0
  runBad : Nat := 0
  /-- Colmo images A and B, channel images A and B. -/
  slots : List (Option (List Nat)) := [none, none, none, none]
  boot : List BootCtl := [{}, {}]
  /-- Stored sets: channel A tuning, A safety, B tuning, B safety. -/
  psets : List Copies := [{}, {}, {}, {}]
  ident : Option Nat := none
  openCls : Nat := 0
  hostCfg : List (Nat × Nat) := []
  canCfg : List (Nat × Nat) := []
  iso : IsoCfg := {}
  canMap : Tab MapEnt := []
  keys : List KeyRec := []
  counters : List Nat := []
  lclog : List LcEnt := []
  snaps : List Snap := []
  nextIndex : Nat := 0
  /-- The channel whose snapshot is being written. -/
  writing : Option Ch := none
  deriving DecidableEq, Repr

/-- OTP (R464, R468, R470, R472): life-cycle bits, blown rollback bits, digests of the four kinds' two slots, revocations, UID, MAC,
identity key, fused rows. -/
structure Otp where
  lc : Nat := 1
  rollback : Nat := 0
  keys : List (Option Nat) := [none, none, none, none, none, none, none, none]
  revoked : Nat := 0
  uid : Nat := 0
  mac : Nat := 0
  idKey : Option Nat := none
  fused : List Repair := []
  deriving DecidableEq, Repr

/-! ### The device -/

/-- A record of a device source (R37, R417). -/
structure DevRec where
  source : Nat
  rcd : Rec
  deriving DecidableEq, Repr

/-- The device level: its registers and what its blocks hold beside them. -/
structure Dev where
  /-- The instant of the last command the device level saw. -/
  now : Tick := 0
  regs : RegMap := []
  /-- The free values taken so far (the model's own counter; see Config). -/
  free : Nat := 0
  /-- Device time is the count of ns plus this (R32, R490). -/
  off : Int := 0
  lastTime : Nat := 0
  /-- The next sequence number of each source; those of the channels stand in the channels. -/
  seqs : List Nat := [0, 0, 0, 0, 0, 0, 0, 0]
  /-- The records of the device's sources that wait for a frame, oldest first. -/
  recs : List DevRec := []
  pwr : Pwr := {}
  bist : Bist := {}
  hq : Hostq := {}
  eth : EthSt := {}
  colmo : Colmo := {}
  can : List CanSt := [{}, {}]
  iso : Iso := {}
  arch : Arch := {}
  otp : Otp := {}
  /-- The life-cycle state in effect (R470). -/
  lc : Nat := 0
  /-- The lifetime counters as they stood when Colmo last took them up, in the order of R462, and the instant of that. -/
  base : List Nat := List.replicate 70 0
  baseAt : Tick := 0
  deriving DecidableEq, Repr

end Sys2Proof.Machine
end

