-- ==== Sys2Proof/Machine/State.lean ====
section
/-! DEFINITION. Machine/State.lean: the state of the block, the reasons a step can stop, the state after reset. -/

namespace Sys2Proof.Machine

/-- A _HI word held for a master (R526). -/
structure HiHold where
  master : Master
  addr : Nat
  word : Nat
  deriving DecidableEq, Repr

/-- The device and its two channels, the instant of the last command in ticks, the _HI words held for reading masters, the word that the
last read returned, and the SMC memory. -/
structure Mach where
  now : Tick := 0
  holds : List HiHold := []
  rdata : Nat := 0
  /-- The SMC memory as 262,144 words of 32 bits (R305, R521); a word that nothing has written is 0 (log 77). -/
  smcMem : RegMap := []
  dev : Dev := {}
  a : Chan := { id := .a }
  b : Chan := { id := .b }
  deriving DecidableEq, Repr

/-- The whole state: the commands that wait, first in first out, and the machine. -/
structure State where
  pending : List Instr := []
  m : Mach := {}
  deriving DecidableEq, Repr

/-- The reasons a run stops with a fault. The spec gives every command of the table an effect, so no meaning raises one:
the only constructor names that, and it is safe. -/
inductive Fault where
  /-- Raised by no command; a stop is safe. -/
  | none
  deriving DecidableEq, Repr

/-- The reasons a command is refused. -/
inductive Refusal where
  /-- Raised by the dispatch for a command that has no meaning yet; safe. -/
  | notModelled (mnemonic : String)
  deriving DecidableEq, Repr

/-- The machine right after a power-on reset (R479, R491): every register at its reset value, both channels in OFF, no
command waiting. -/
def State.reset : State := {}

end Sys2Proof.Machine
end

