-- ==== Sys2Proof/Machine/Run.lean ====
section
/-! DEFINITION. Machine/Run.lean: how a command reaches the part of the machine it acts on. Every meaning is one of these
over a function of that part, so that what it cannot touch stands in its form. -/

namespace Sys2Proof.Machine

/-- The machine at an instant: time does not run backwards. -/
def Mach.advance (m : Mach) (t : Tick) : Mach := { m with now := max m.now t }

/-- A channel of the machine. -/
def Mach.chan (m : Mach) (ch : Ch) : Chan :=
  match ch with
  | .a => m.a
  | .b => m.b

/-- The machine with one channel replaced. -/
def Mach.setChan (m : Mach) (ch : Ch) (c : Chan) : Mach :=
  match ch with
  | .a => { m with a := c }
  | .b => { m with b := c }

/-- The machine with one channel changed at the present instant (R17: each channel owns its resources). -/
def Mach.onChan (m : Mach) (ch : Ch) (f : Chan → Chan) : Mach := m.setChan ch (f { m.chan ch with now := m.now })

/-- A change that a channel makes in every state but OFF (R50: in OFF it is in reset or unpowered). -/
def live (f : Chan → Chan) (c : Chan) : Chan := if c.state = OFF then c else f c

/-- A request that no host command has made: nobody waits for its answer. -/
def quietly (f : Chan → Chan) (c : Chan) : Chan := { f c with answers := c.answers }

/-- The meaning of a command that acts on one channel. -/
def State.chan (s : State) (t : Tick) (ch : Ch) (f : Chan → Chan) : Host.Outcome State Fault Refusal :=
  .next { s with m := (s.m.advance t).onChan ch f }

/-- The meaning of a command that acts on one channel outside OFF. -/
def State.live (s : State) (t : Tick) (ch : Ch) (f : Chan → Chan) : Host.Outcome State Fault Refusal :=
  s.chan t ch (Sys2Proof.Machine.live f)

/-- The meaning of a command that acts on the device level. -/
def State.onDev (s : State) (t : Tick) (f : Dev → Dev) : Host.Outcome State Fault Refusal :=
  let m := s.m.advance t
  .next { s with m := { m with dev := f { m.dev with now := m.now } } }

/-- The meaning of a command that acts on the device and its channels. -/
def State.onMach (s : State) (t : Tick) (f : Mach → Mach) : Host.Outcome State Fault Refusal :=
  let m := s.m.advance t
  .next { s with m := f { m with dev := { m.dev with now := m.now } } }

/-- The machine with its device level changed. -/
def Mach.onDev (m : Mach) (f : Dev → Dev) : Mach := { m with dev := f m.dev }

end Sys2Proof.Machine
end

