-- ==== Sys2Proof/Machine/Primer.lean ====
section
/-! DEFINITION. Machine/Primer.lean: the primer test (R230 to R232). -/

namespace Sys2Proof.Machine

/-- Step 1 of R230: every phase slice is ready, every phase enable is 0, no phase slice holds a latch. -/
def Chan.primerPre (c : Chan) : Bool :=
  (List.range 6).all (fun s => c.b (SL_STATUS_READY s) && !c.b (SL_STATUS_LATCHED s)) &&
  (List.range 3).all (fun p => !c.enOut p)

/-- The sources and sinks of phase `k` switched on (R230 step 2). -/
def Chan.primerPhase (c : Chan) (k : Nat) : Chan :=
  c.onMod (fun m => { m with primer := some ⟨k, c.now, none, none, [], false⟩ })

/-- The end of a test: RUNNING clears, DONE and PRIMER_DONE set (R230). -/
def Chan.primerDone (c : Chan) : Chan :=
  (((c.onMod (fun m => { m with primer := none })).p PRIMER_RES_RUNNING 0).p PRIMER_RES_DONE 1).p SL_IRQ_STATUS_PRIMER_DONE 1

/-- A primer test started (R230): its result is cleared; a failure of step 1 ends it with PRE_FAIL and PRIMER_FAIL, and with
it the ARM sequence. -/
def Chan.primerStart (c : Chan) : Chan :=
  let c1 := (c.wr PRIMER_RES 0).p PRIMER_RES_RUNNING 1
  if c.primerPre then c1.primerPhase 0
  else (((c1.primerDone).p PRIMER_RES_PRE_FAIL 1).armRefuse.raise PRIMER_FAIL).armFail

/-- PRIMER_REQ (R230): acts in PRIMED, outside the ARM sequence, while no test runs; the bit reads 0 once taken. -/
def doPrimerReq (c : Chan) : Chan :=
  let c1 := c.p SL_CH_CTL_PRIMER_REQ 0
  if c.state = PRIMED ∧ c.ctl.arm.isNone ∧ c.modul.primer.isNone then c1.primerStart else c1

/-- Two consecutive readings of one quantity, in mV, agree by 1 % of the larger magnitude plus 0.1 V (R230). -/
def settledPair (a b : Int) : Bool :=
  decide (100 * ((a - b).natAbs : Int) < (max a.natAbs b.natAbs : Int) + 10000)

/-- A reading of VL and VH in mV and of the returned current as a fraction of I_T in 1/65,536 (R230 step 2): before the
phase has settled it is compared with the one before, afterwards it enters the average. -/
def doPrimerReading (vl vh ret : Int) (c : Chan) : Chan :=
  match c.modul.primer with
  | none => c
  | some p =>
    if p.off then c
    else match p.avgAt with
      | some _ => c.onMod (fun m => { m with primer := some { p with sums := (vl, vh, ret) :: p.sums } })
      | none =>
        let same := match p.last with
          | none => false
          | some (l, h) => settledPair l vl && settledPair h vh
        let avg := if same && c.since p.since (ms 1) then some c.now else none
        c.onMod (fun m => { m with primer := some { p with last := some (vl, vh), avgAt := avg } })

/-- A phase not settled after SETTLE ms: its NSET bit sets and the averaging starts (R230). -/
def doPrimerSettleTimeout (c : Chan) : Chan :=
  match c.modul.primer with
  | none => c
  | some p =>
    if p.off ∨ p.avgAt.isSome ∨ !c.since p.since (ms (c.g PRIMER_CFG_SETTLE)) then c
    else (c.onMod (fun m => { m with primer := some { p with avgAt := some c.now } })).pb PRIMER_RES_NSET p.phase true

/-- The classes of R231. -/
inductive PrimerClass where
  | ok
  | shortDcp
  | shortDcn
  | openPhase
  deriving DecidableEq, Repr

/-- The code of a class in PRIMER_RES.CLASS. -/
def PrimerClass.code : PrimerClass → Nat
  | .ok => 0
  | .shortDcp => 1
  | .shortDcn => 2
  | .openPhase => 3

/-- The classification of R231, rows in order, with RAIL_UNK: the ratio in 1/65,536, voltages in mV. -/
def classify (ratio vh vl : Int) : PrimerClass × Bool :=
  if 81920 ≤ ratio then (.shortDcp, false)
  else if 32768 ≤ ratio then (.ok, false)
  else if vh ≤ -300 then (.openPhase, false)
  else (.shortDcn, decide (vl + vh < 2000))

/-- The mean of a list of integers, rounded to the nearest. -/
def meanOf (l : List Int) : Int := if l.isEmpty then 0 else rdiv (l.foldl (· + ·) 0) l.length

/-- The end of a phase's average (R230, R231): the means are reported and the phase is classified; the next phase starts, or
after W the sources and sinks switch off. -/
def doPrimerAverageEnd (c : Chan) : Chan :=
  match c.modul.primer with
  | none => c
  | some p =>
    if p.off ∨ !c.sinceOpt p.avgAt (ms 1) ∨ p.sums.isEmpty then c
    else
      let k := p.phase
      let vl := meanOf (p.sums.map (fun x => x.1))
      let vh := meanOf (p.sums.map (fun x => x.2.1))
      let r := meanOf (p.sums.map (fun x => x.2.2))
      let z := classify r vh vl
      let c1 := (c.pi (PRIMER_VLH_VH k) (sat16 (rdiv vh 50))).pi (PRIMER_VLH_VL k) (sat16 (rdiv vl 50))
      let c2 := c1.p ⟨PRIMER_RATIO, 8 * k + 7, 8 * k⟩ (satI 0 255 (rdiv r 1024)).toNat
      let c3 := (c2.p ⟨PRIMER_RES, 2 * k + 1, 2 * k⟩ z.1.code).pb PRIMER_RES_RAIL_UNK k z.2
      if k < 2 then c3.primerPhase (k + 1)
      else c3.onMod (fun m => { m with primer := some { p with off := true, since := c.now } })

/-- The leg-health entries of a phase's class (R232, R269). -/
def Chan.primerLeg (c : Chan) (k : Nat) : Chan :=
  let cl := c.g ⟨PRIMER_RES, 2 * k + 1, 2 * k⟩
  let unk := c.gb PRIMER_RES_RAIL_UNK k
  let c1 := if cl = 1 ∨ unk then c.legSet true k LEG_HEALTH_SRC_PRIMER else c
  if cl = 2 then c1.legSet false k LEG_HEALTH_SRC_PRIMER else c1

/-- The end of the test (R230 step 3): DONE; three OK phases without NSET clear the leg-health record (R271), anything else
enters it, raises PRIMER_FAIL and ends the ARM sequence (R232). In the ARM sequence step 3 follows (R55). -/
def doPrimerTestEnd (c : Chan) : Chan :=
  match c.modul.primer with
  | none => c
  | some p =>
    if !p.off ∨ !c.since p.since (ms 1) then c
    else
      let c1 := c.primerDone
      if c1.g PRIMER_RES_CLASS = 0 ∧ c1.g PRIMER_RES_NSET = 0 then
        let c2 := c1.legClear
        match c2.ctl.arm with
        | none => c2
        | some a => if a.step = .primer then (if a.fromHold then c2.armStep .ready else c2.preStart) else c2
      else
        ((c1.armRefuse.each 3 Chan.primerLeg).raise PRIMER_FAIL).armFail

/-- PRIMER_REQ. -/
def execPrimerReq (t : Tick) (ch : Ch) (s : State) := s.live t ch doPrimerReq
/-- PRIMER_READING. -/
def execPrimerReading (t : Tick) (ch : Ch) (vl vh ret : Int) (s : State) := s.live t ch (doPrimerReading vl vh ret)
/-- PRIMER_SETTLE_TIMEOUT. -/
def execPrimerSettleTimeout (t : Tick) (ch : Ch) (s : State) := s.live t ch doPrimerSettleTimeout
/-- PRIMER_AVERAGE_END. -/
def execPrimerAverageEnd (t : Tick) (ch : Ch) (s : State) := s.live t ch doPrimerAverageEnd
/-- PRIMER_TEST_END. -/
def execPrimerTestEnd (t : Tick) (ch : Ch) (s : State) := s.live t ch doPrimerTestEnd

end Sys2Proof.Machine
end

