-- ==== Sys2Proof/Machine/Msio.lean ====
section
/-! DEFINITION. Machine/Msio.lean: contactors, guards and acknowledge (R287 to R303), with the steps of the ARM sequence
that wait on them. -/

namespace Sys2Proof.Machine

/-! ### Feedbacks and discrepancies -/

/-- What waits on a feedback: the confirms of the ARM sequence, a waiting discharge. -/
def Chan.feedbackWaits (c : Chan) : Chan := c.armAdvance.dchgTry

/-- The level of a feedback input taken into CONT_STATUS (R287): CFB_POL says which level means closed; the CFB of an
unfitted contactor is ignored. -/
def Chan.cfbRead (c : Chan) (n : Nat) : Chan :=
  let k := n - 1
  let closed := c.fitted n && c.msio.cfbRaw.testBit k == c.gb MSIO_CTL_CFB_POL k
  if c.gb CONT_STATUS_CFB k = closed then c
  else (((c.pb CONT_STATUS_CFB k closed).onMsio (fun m => { m with fbAt := m.fbAt.set k c.now })).onLife
    (fun l => { l with cont := if closed then bump l.cont k (fun m => m + 1) else l.cont })).cmpCont n

/-- A feedback that reads closed ends winding discharge (R257). -/
def Chan.windCfb (c : Chan) : Chan := if c.prot.wind.isSome && !c.cfbOpen then (c.windAbort.reselect).transCheck else c

/-- CFB_CHANGE: a feedback changes and is compared with its command (R290); in OFF the land changes alone. -/
def doCfbChange (n : Nat) (high : Bool) (c : Chan) : Chan :=
  if n < 1 ∨ 3 < n then c
  else
    let c1 := c.onMsio (fun m => { m with cfbRaw := setBit m.cfbRaw (n - 1) high })
    if c.state = OFF then c1 else ((c1.cfbRead n).windCfb).feedbackWaits.transCheck

/-- A feedback open for DEB ms clears CONT_WELD; the weld record stays (R290). -/
def Chan.weldOpen (c : Chan) (k : Nat) : Chan :=
  if c.msio.weldBy.testBit k && !c.gb CONT_STATUS_CFB k && c.since (nth c.msio.fbAt k) (ms (c.g CONT_DEB_DEB)) then
    let d := c.onMsio (fun m => { m with weldBy := setBit m.weldBy k false })
    if d.msio.weldBy = 0 then d.clear CONT_WELD else d
  else c

/-- The source of a disagreement of contactor bit `k` (R290): CFB_DISCREP, or CONT_WELD with the weld record. -/
def Chan.contRaise (c : Chan) (k : Nat) : Chan :=
  if c.gb CONT_STATUS_CMD k then (c.onMsio (fun m => { m with discBy := setBit m.discBy k true })).raise CFB_DISCREP
  else ((c.pb CONT_STATUS_WELD k true).onMsio (fun m => { m with weldBy := setBit m.weldBy k true })).raise CONT_WELD

/-- CONTACTOR_DEBOUNCE_EXPIRY (R290, R292): a confirm whose DEB ms have passed without agreement fails with the source of R290; any other
disagreement that has lasted DEB ms raises it; a feedback open for DEB ms clears CONT_WELD; an agreement is what a confirm waits for. -/
def doContactorDebounceExpiry (n : Nat) (c : Chan) : Chan :=
  if n < 1 ∨ 3 < n then c
  else
    let k := n - 1
    let c1 := c.weldOpen k
    if c1.gb CONT_STATUS_DISCREP k then
      if c1.confirmDue n then ((c1.armRefuse.contRaise k).armFail).feedbackWaits
      else if c1.since (nth c1.msio.cmpAt k) (ms (c1.g CONT_DEB_DEB)) then (c1.contRaise k).feedbackWaits
      else c1.feedbackWaits
    else c1.feedbackWaits

/-- PRECHARGE_TIMEOUT (R292 step 3): the precharge timer has reached PRE_CFG.T ms: PRECHARGE_FAIL; the ARM sequence ends. -/
def doPrechargeTimeout (c : Chan) : Chan :=
  if c.armAt = some .charging ∧ c.preOver = true then
    ((((c.preReport).p PRE_STATUS_PHASE 5).armRefuse).pulse PRECHARGE_FAIL).armFail
  else c

/-- WELD_CLR (R291): in PRIMED with every fitted CFB open every weld record clears; else WELD_REFUSED. -/
def doWeldClr (c : Chan) : Chan :=
  let c1 := c.p MSIO_REQ_WELD_CLR 0
  if c1.state = PRIMED ∧ c1.cfbOpen then c1.p CONT_STATUS_WELD 0 else c1.p MSIO_IRQ_STATUS_WELD_REFUSED 1

/-- AUX_ON (R288): energises CDRV3 in auxiliary mode, but not while the S4 requests hold the drives low. -/
def doAuxOn (c : Chan) : Chan :=
  let c1 := c.p MSIO_REQ_AUX_ON 0
  if c1.g MSIO_CTL_AUX_MODE = 2 ∧ !c1.b CONT_STATUS_S4_OPEN then c1.setCdrv 3 true else c1

/-- AUX_OFF (R288). -/
def doAuxOff (c : Chan) : Chan :=
  let c1 := c.p MSIO_REQ_AUX_OFF 0
  if c1.g MSIO_CTL_AUX_MODE = 2 then c1.setCdrv 3 false else c1

/-! ### Guard (R294 to R297) -/

/-- The guard's antivalent meaning: 0 closed, 1 open, 2 equivalent. -/
def guardMean (g1 g2 : Bool) : Nat := if g1 && !g2 then 0 else if !g1 && g2 then 1 else 2

/-- GUARD_STATUS.STATE set, with GUARD_CHANGE on a change; it reads 3 while GUARD_DISCREP is active. -/
def Chan.guardState (c : Chan) : Chan :=
  let st := if c.srcActive GUARD_DISCREP then 3 else guardMean (c.b GUARD_STATUS_G1) (c.b GUARD_STATUS_G2)
  if c.g GUARD_STATUS_STATE = st then c else (c.p GUARD_STATUS_STATE st).p MSIO_IRQ_STATUS_GUARD_CHANGE 1

/-- The guard sources that follow from the filtered inputs (R295 to R297): the start-up test and the clearing of
GUARD_DISCREP each want the guard seen open and then closed; GUARD_OPEN follows a guard that reads open, except while the
test is due. -/
def Chan.guardEval (c : Chan) : Chan :=
  if !c.b GUARD_CFG_EN then (((c.clear GUARD_DISCREP).clear GUARD_OPEN).clear GUARD_TEST_DUE).guardState
  else
    let m := guardMean (c.b GUARD_STATUS_G1) (c.b GUARD_STATUS_G2)
    let c1 := if m = 1 then c.p GUARD_STATUS_OPEN_SEEN 1 else c
    let c2 :=
      if m = 0 ∧ c1.b GUARD_STATUS_OPEN_SEEN then
        if c1.srcActive GUARD_DISCREP then (c1.p GUARD_STATUS_OPEN_SEEN 0).clear GUARD_DISCREP
        else ((c1.p GUARD_STATUS_OPEN_SEEN 0).p GUARD_STATUS_TEST_SEEN 1).clear GUARD_TEST_DUE
      else c1
    let c3 := if m = 0 then c2.clear GUARD_OPEN
      else if c2.srcActive GUARD_TEST_DUE then c2 else c2.raise GUARD_OPEN
    c3.guardState

/-- GUARD_INPUT_CHANGE: the filtered levels of GUARD1 and GUARD2 (R294). -/
def doGuardInputChange (g1 g2 : Bool) (c : Chan) : Chan :=
  let c1 := (c.p GUARD_STATUS_G1 (b2n g1)).p GUARD_STATUS_G2 (b2n g2)
  let since := if guardMean g1 g2 ≠ 2 then none else if c.msio.equivAt.isSome then c.msio.equivAt else some c.now
  let c2 := c1.onMsio (fun m => { m with equivAt := since })
  c2.guardEval

/-- The inputs have been equivalent for longer than DISC_T ms. -/
def Chan.equivOver (c : Chan) : Bool :=
  match c.msio.equivAt with
  | none => false
  | some t => c.since t (ms (c.g GUARD_CFG_DISC_T))

/-- GUARD_DISC_TIMEOUT (R295): inputs equivalent beyond DISC_T raise GUARD_DISCREP, which also spoils a test half seen. -/
def doGuardDiscTimeout (c : Chan) : Chan :=
  if c.b GUARD_CFG_EN ∧ guardMean (c.b GUARD_STATUS_G1) (c.b GUARD_STATUS_G2) = 2 ∧ c.equivOver = true then
    ((c.p GUARD_STATUS_OPEN_SEEN 0).raise GUARD_DISCREP).guardState
  else c

/-- The start-up test becomes due (R297). -/
def Chan.guardTestDue (c : Chan) : Chan :=
  if c.b GUARD_CFG_EN && !c.b GUARD_STATUS_TEST_SEEN then c.raise GUARD_TEST_DUE else c

/-! ### Acknowledge (R298, R299) -/

/-- ACK_PRESS_BEGIN: a press begins; it can count only if condition 1 of R59 has first held in the present episode. -/
def doAckPressBegin (c : Chan) : Chan :=
  if c.msio.press.isSome then c
  else (c.onMsio (fun m => { m with press := some (c.now, c.state == FAULT && c.ctl.cond1.isSome) })).p ACK_STATUS_PRESSED 1

/-- ACK_PRESS_END: a press that can count and lasted less than 5 s sets ACK_SEEN; the end of a jammed press clears
ACK_JAMMED and does not count. -/
def doAckPressEnd (c : Chan) : Chan :=
  match c.msio.press with
  | none => c
  | some (t, ok) =>
    let c1 := ((c.onMsio (fun m => { m with press := none })).p ACK_STATUS_PRESSED 0).wrapInc ACK_STATUS_PRESSES
    if c1.b ACK_STATUS_JAMMED then (c1.p ACK_STATUS_JAMMED 0).clear ACK_JAMMED_SRC
    else if ok && c1.state == FAULT && !c1.since t (ms 5000) then (c1.p ACK_STATUS_ACK_SEEN 1).transCheck
    else c1

/-- ACK_JAMMED: a press has lasted 5 s. -/
def doAckJammed (c : Chan) : Chan :=
  match c.msio.press with
  | none => c
  | some (t, _) => if c.since t (ms 5000) then (c.p ACK_STATUS_JAMMED 1).raise ACK_JAMMED_SRC else c

/-! ### Landing -/

/-- CDRV3 in its role after AUX_MODE has changed from `old` (R288): a companion is never high where the main contactor's drive is not, an
auxiliary drive waits for a command. -/
def Chan.auxMode (c : Chan) (old : Nat) : Chan :=
  if c.g MSIO_CTL_AUX_MODE = old ∨ (c.g MSIO_CTL_AUX_MODE = 1 ∧ c.gb CONT_STATUS_CMD 0 = true) then c else c.setCdrv 3 false

/-- A landing of the safety set at MSIO (R532), where AUX_MODE was `old`: the polarity and the fitted contactors act, an unfitted drive goes
low (R287), CDRV3 takes its role, the guard function is judged anew. -/
def Chan.landMsio (c : Chan) (old : Nat) : Chan :=
  let c1 := (c.auxMode old).each 3 (fun d k => if d.fitted (k + 1) then d else d.setCdrv (k + 1) false)
  let c2 := c1.each 3 (fun d k => (d.cfbRead (k + 1)).cmpCont (k + 1))
  ((c2.windCfb).guardTestDue).guardEval

/-- CFB_CHANGE. -/
def execCfbChange (t : Tick) (ch : Ch) (n : Nat) (high : Bool) (s : State) := s.chan t ch (doCfbChange n high)
/-- CONTACTOR_DEBOUNCE_EXPIRY. -/
def execContactorDebounceExpiry (t : Tick) (ch : Ch) (n : Nat) (s : State) := s.live t ch (doContactorDebounceExpiry n)
/-- PRECHARGE_TIMEOUT. -/
def execPrechargeTimeout (t : Tick) (ch : Ch) (s : State) := s.live t ch doPrechargeTimeout
/-- GUARD_INPUT_CHANGE. -/
def execGuardInputChange (t : Tick) (ch : Ch) (g1 g2 : Bool) (s : State) := s.live t ch (doGuardInputChange g1 g2)
/-- GUARD_DISC_TIMEOUT. -/
def execGuardDiscTimeout (t : Tick) (ch : Ch) (s : State) := s.live t ch doGuardDiscTimeout
/-- ACK_PRESS_BEGIN. -/
def execAckPressBegin (t : Tick) (ch : Ch) (s : State) := s.live t ch doAckPressBegin
/-- ACK_PRESS_END. -/
def execAckPressEnd (t : Tick) (ch : Ch) (s : State) := s.live t ch doAckPressEnd
/-- ACK_JAMMED. -/
def execAckJammed (t : Tick) (ch : Ch) (s : State) := s.live t ch doAckJammed
/-- WELD_CLR. -/
def execWeldClr (t : Tick) (ch : Ch) (s : State) := s.live t ch doWeldClr
/-- AUX_ON. -/
def execAuxOn (t : Tick) (ch : Ch) (s : State) := s.live t ch doAuxOn
/-- AUX_OFF. -/
def execAuxOff (t : Tick) (ch : Ch) (s : State) := s.live t ch doAuxOff

end Sys2Proof.Machine
end

