-- ==== Sys2Proof/Machine/SkimBase.lean ====
section
/-! DEFINITION. Machine/SkimBase.lean: the skim slice in progress and its abort by normal service (R330, R335, R352). -/

namespace Sys2Proof.Machine

/-- Source SKIM_TEST_FAIL. -/
def SKIM_TEST_FAIL : Src := ⟨12, 0⟩
/-- Source SKIM_OVERDUE. -/
def SKIM_OVERDUE : Src := ⟨12, 1⟩
/-- Source SKIM_ABORT. -/
def SKIM_ABORT_SRC : Src := ⟨12, 2⟩

/-- The channel with its SKIM part changed. -/
def Chan.onSkim (c : Chan) (f : Skim → Skim) : Chan := { c with skim := f c.skim }

/-- The plumb tests passed since the cycle began (R330, class 9). -/
def Chan.plumbPasses (c : Chan) : Nat := (c.g PLUMB_STAT_PASSES + 65536 - c.skim.plumb0 % 65536) % 65536

/-- The slice in progress is over: BUSY and CLASS clear, the spare comparator is released. -/
def Chan.skimIdle (c : Chan) : Chan := ((c.onSkim (fun k => { k with cur := none, spare := none })).p SKIM_STATUS_BUSY 0).p SKIM_STATUS_CLASS 0

/-- The slice in progress aborted (R335): it waits to be scheduled again, COUNT and LAST_CLASS, SKIM_ABORT. -/
def Chan.skimAbort (c : Chan) : Chan :=
  match c.skim.cur with
  | none => c
  | some r =>
    let c1 := (c.skimIdle).onSkim (fun k => { k with redo := k.redo ++ [{ r with at_ := c.now }] })
    ((c1.satInc SKIM_ABORTS_COUNT).p SKIM_ABORTS_LAST_CLASS r.cls).raise SKIM_ABORT_SRC

/-- The abort of a slice of class `cls` whose unit satisfies `q`; any other slice goes on. -/
def Chan.skimAbortIf (c : Chan) (cls : Nat) (q : Nat → Bool) : Chan :=
  match c.skim.cur with
  | none => c
  | some r => if r.cls = cls ∧ q r.unit then c.skimAbort else c

end Sys2Proof.Machine
end

