-- ==== Sys2Proof/Machine/Prot.lean ====
section
/-! DEFINITION. Machine/Prot.lean: the DC-link comparators, the brake chopper and the discharges (R240 to R258, R537). -/

namespace Sys2Proof.Machine

/-- REGEN_ASC is active while CHOP_FAIL and OVR both are (R249). -/
def Chan.regenEval (c : Chan) : Chan := c.follow REGEN_ASC (c.srcActive CHOP_FAIL && c.gb DCL_STATUS_CMP 2)

/-! ### The chopper (R244 to R247) -/

/-- What the chopper command should be: OV1 or a test command, while the chopper is enabled and slice 6 ready (R244, R247). -/
def Chan.chopWant (c : Chan) : Bool :=
  c.b PROT_CTL_CHOP_EN && c.b (SL_STATUS_READY 6) && (c.gb DCL_STATUS_CMP 1 || c.prot.test.isSome)

/-- The minimum time between two changes of the chopper command has passed. -/
def Chan.chopFree (c : Chan) : Bool :=
  match c.prot.chopAt with
  | none => true
  | some t => c.since t (ns (100 * c.g CHOP_CFG_MIN_T))

/-- The chopper command brought to what it should be, at most once per MIN_T (R244). A rising command starts a proof, a falling
one ends an unfinished proof (R245). -/
def Chan.chopEval (c : Chan) : Chan :=
  let w := c.chopWant
  if w = c.b CHOP_STATUS_ON ∨ !c.chopFree then c
  else
    let c1 := (c.p CHOP_STATUS_ON (b2n w)).onProt (fun p =>
      { p with chopAt := some c.now, test := if w then p.test else none, proof := if w then some ⟨c.now, c.dcl.getD 0⟩ else none })
    c1.setPair 3 w w

/-- CHOP_FAIL raised with its cause (R245). -/
def Chan.chopFail (c : Chan) (cause : Nat) : Chan := ((c.p CHOP_STATUS_CAUSE cause).raise CHOP_FAIL).regenEval

/-- CHOP_PROVE: PROVE_T µs after the command the verdict of R245 from slice 6's SC land in counts of 10 mV, whether its drain-source voltage still stands,
and the fall of the primary DC-link value since the command. -/
def doChopProve (sc : Nat) (vdsHigh : Bool) (c : Chan) : Chan :=
  match (if c.sinceOpt (c.prot.proof.map ChopProof.at_) (us (c.g CHOP_CFG_PROVE_T)) then c.prot.proof else none) with
  | none => c
  | some pr =>
    let c0 := c.onProt (fun p => { p with proof := none })
    let fell := match c.dcl with
      | none => false
      | some v => decide ((c.g CHOP_CFG_FALL_DV : Int) ≤ pr.link - v)
    if c.g CHOP_CFG_CON_LVL < sc then (((c0.wrapInc CHOP_STATUS_PROVEN).onLife (fun l => { l with chop := l.chop + 1 })).clear CHOP_FAIL).regenEval
    else if fell then c0.pulse CHOP_SENSE
    else c0.chopFail
      (if c.b (SL_STATUS_LATCHED 6) then 3 else if !c.gb EN_STATUS_EN_PIN 3 then 2 else if vdsHigh then 0 else 1)

/-- CHOP_TEST (R247): one chopper command in PRIMED or HOLD, ignored where R247 says so. -/
def doChopTest (c : Chan) : Chan :=
  let c1 := c.p PROT_REQ_CHOP_TEST 0
  if (c.state = PRIMED ∨ c.state = HOLD) ∧ !c.gb DCL_STATUS_CMP 0 ∧ c.b PROT_CTL_CHOP_EN ∧ c.b (SL_STATUS_READY 6)
      ∧ !c.b (SL_STATUS_LATCHED 6) ∧ !(c.b CHOP_STATUS_ON && c.gb DCL_STATUS_CMP 1)
  then (c1.onProt (fun p => { p with test := some c.now })).chopEval else c1

/-- CHOP_TEST_PULSE_END (R247): PROVE_T + 1 µs after it began the test command ends; OV1 may still hold the command. -/
def doChopTestPulseEnd (c : Chan) : Chan :=
  let d := us (c.g CHOP_CFG_PROVE_T + 1)
  if c.b CHOP_STATUS_ON ∧ c.sinceOpt c.prot.test d ∧ c.sinceOpt c.prot.chopAt d then (c.onProt (fun p => { p with test := none })).chopEval else c

/-! ### The DC-link comparators (R241 to R243) -/

/-- DCL_COMPARATOR_CHANGE: comparator `cmp` of DCL_STATUS.CMP changes after its filter; a DCMP skim slice is aborted (R335). -/
def doDclComparatorChange (cmp : Nat) (on : Bool) (c : Chan) : Chan :=
  let c1 := (c.skimAbortIf 1 (fun _ => true)).pb DCL_STATUS_CMP cmp on
  match cmp with
  | 0 => if on then (if c.state = ARMED ∨ c.state = RUN then c1.raise DCL_UV else c1) else c1.clear DCL_UV
  | 1 => c1.chopEval
  | 2 => c1.regenEval
  | 3 =>
    if on then
      let ext := match c.prot.safeAt with
        | none => false
        | some t => c.since t (us 20)
      (c1.raise DCL_OV2).when ext (fun d => d.raise DCL_EXT)
    else ((c1.onProt (fun p => { p with ov2Held := false })).clear DCL_OV2).clear DCL_EXT
  | _ => c

/-- DCL_EXT_TIMER: OV2 has stayed active until DCL_EXT_T.T µs after the safe state came into force (second case of R243). -/
def doDclExtTimer (c : Chan) : Chan :=
  match c.prot.safeAt with
  | none => c
  | some t => if c.prot.ov2Held && c.since t (us (c.g DCL_EXT_T_T)) then c.raise DCL_EXT else c

/-! ### Active discharge (R250 to R252, R537) -/

/-- The end of a discharge sequence: slice 7 off, the state, DCHG_PAUSE cleared, DCHG_END with DONE and FAILED. -/
def Chan.dchgEnd (c : Chan) (st : Nat) : Chan :=
  let c1 := ((c.onProt (fun p => { p with dchg := none })).setDchgOut false).p DCHG_STATUS_STATE st
  (if st = 4 ∨ st = 5 then c1.p PROT_IRQ_STATUS_DCHG_END 1 else c1).clear DCHG_PAUSE

/-- A discharge that fails (R251). -/
def Chan.dchgFail (c : Chan) : Chan := (c.dchgEnd 5).raise DCHG_FAIL

/-- DCHG_REQ (R250): accepted in PRIMED, HOLD and FAULT. -/
def doDchgReq (c : Chan) : Chan :=
  let c1 := c.p PROT_REQ_DCHG_REQ 0
  if c.state = PRIMED ∨ c.state = HOLD ∨ c.state = FAULT then c1.dchgAsk false false true else c1

/-- DCHG_CANCEL (R537): ends a discharge that only commands asked for. -/
def doDchgCancel (c : Chan) : Chan :=
  let c1 := c.p PROT_REQ_DCHG_CANCEL 0
  match c1.prot.dchg with
  | none => c1
  | some d => if d.byS4 ∨ d.byPin then c1 else c1.dchgEnd 0

/-- The pin's request and its source (R250, R537). -/
def Chan.dchgPinAsk (c : Chan) : Chan := (c.dchgAsk false true false).raise DCHG_PIN_SRC

/-- DCHG_PIN (R250, R537): nDCHG_REQ has been low for more than 10 µs; in OFF the land alone. -/
def doDchgPin (c : Chan) : Chan :=
  let c1 := c.onProt (fun p => { p with pinLow := true })
  if c.state = OFF then c1 else c1.dchgPinAsk

/-- DCHG_PIN_RELEASE (R537). -/
def doDchgPinRelease (c : Chan) : Chan :=
  let c1 := c.onProt (fun p => { p with pinLow := false })
  if c.state = OFF then c1 else c1.clear DCHG_PIN_SRC

/-- DCHG_CFB_TIMEOUT (R251 step 1): a sequence that still waits for the contactors fails. -/
def doDchgCfbTimeout (c : Chan) : Chan :=
  match c.prot.dchg with
  | none => c
  | some d => if d.onAt.isSome ∨ !c.since d.waitAt (ms 100) then c else c.dchgFail

/-- DCHG_CHECK_T (R251 step 3): the link must have fallen by CHECK_DROP % of its value at turn-on. -/
def doDchgCheckT (c : Chan) : Chan :=
  match c.prot.dchg with
  | none => c
  | some d =>
    if !c.sinceOpt d.onAt (ms (c.g DCHG_CFG2_CHECK_T)) ∨ d.checked then c
    else if (c.g DCHG_CFG2_CHECK_DROP : Int) * d.v0 ≤ 100 * (d.v0 - c.dcl.getD 0) then
      c.onProt (fun p => { p with dchg := some { d with checked := true } })
    else c.dchgFail

/-- DCHG_T_EXPIRY (R251 step 5). -/
def doDchgTExpiry (c : Chan) : Chan :=
  match c.prot.dchg with
  | none => c
  | some d => if c.sinceOpt d.onAt (ms (10 * c.g DCHG_CFG2_DCHG_T)) then c.dchgFail else c

/-- The primary DC-link value has fallen below DONE_LVL: the discharge (R251 step 4) or the winding discharge (R257) is done. -/
def Chan.dchgLink (c : Chan) : Chan :=
  match c.dcl with
  | none => c
  | some v =>
    if v < (c.g DCHG_CFG1_DONE_LVL : Int) then
      let c1 := match c.prot.dchg with
        | none => c
        | some d => if d.onAt.isSome then c.dchgEnd 4 else c
      if c1.prot.wind.isSome then (c1.windEnd 4).p PROT_IRQ_STATUS_DCHG_END 1 else c1
    else c

/-- The power in the discharge resistor while slice 7 is on (R252), in watts: the link in PU16 of V_BASE (a binary32 code), RES in 0.1 Ω. -/
def dchgPower (on : Bool) (link : Int) (vBase res : Nat) : Rat :=
  let v : Rat := (link : Rat) / 8192 * (b32Val vBase).getD 0
  if on then v * v / ((res : Rat) / 10) else 0

/-- One step of the energy model of R252, in joules; TAU in 0.1 s. -/
def energyStep (e : Rat) (on : Bool) (link : Int) (vBase res tau : Nat) : Rat :=
  e + dchgPower on link vBase res / 10000 - e / 10000 / ((tau : Rat) / 10)

/-- The pause and the resume of R252 on a running sequence. -/
def Chan.dchgPause (c : Chan) : Chan :=
  match c.prot.dchg with
  | none => c
  | some d =>
    if d.onAt.isNone then c
    else
      let emax : Rat := (c.g DCHG_CFG0_EMAX : Rat)
      if c.g DCHG_STATUS_STATE = 2 ∧ emax ≤ c.prot.energy then ((c.setDchgOut false).p DCHG_STATUS_STATE 3).raise DCHG_PAUSE
      else if c.g DCHG_STATUS_STATE = 3 ∧ c.prot.energy ≤ emax * 3 / 4 then
        ((c.setDchgOut true).p DCHG_STATUS_STATE 2).clear DCHG_PAUSE
      else c

/-- Slice 7's own copy of the energy model while it discharges by itself (R254): it pauses and resumes its switch. -/
def Chan.autoEnergy (c : Chan) (link : Int) : Chan :=
  let x := c.sl 7
  if !x.auto then c
  else
    let g := fun (f : Fld) => bitsOf (RegMap.get x.cfg (chanReset f.reg) f.reg) f.hi f.lo
    let e := energyStep x.autoE x.isOn link c.bases.v (g DCHG_CFG0_RES) (g DCHG_CFG1_TAU)
    let emax : Rat := (g DCHG_CFG0_EMAX : Rat)
    let on := if x.isOn then decide (e < emax) else decide (e ≤ emax * 3 / 4)
    c.onSl 7 (fun y => { y with autoE := e, isOn := on })

/-- ENERGY_UPDATE: every 100 µs (R252); `link` is what slice 7 measures at its TS land, used while it runs by itself. -/
def doEnergyUpdate (link : Int) (c : Chan) : Chan :=
  let c1 := c.autoEnergy link
  if c1.state = OFF then c1
  else
    let e := energyStep c1.prot.energy (c1.b (SL_STATUS_EN 7)) (c1.dcl.getD 0) c1.bases.v (c1.g DCHG_CFG0_RES) (c1.g DCHG_CFG1_TAU)
    let j := dchgPower (c1.b (SL_STATUS_EN 7)) (c1.dcl.getD 0) c1.bases.v (c1.g DCHG_CFG0_RES) / 10000
    (((c1.onProt (fun p => { p with energy := e })).onLife (fun l => { l with dchg := l.dchg + j })).p
      DCHG_STATUS_E_ACC (satI 0 65535 e.floor).toNat).dchgPause

/-- AUTONOMOUS_DISCHARGE (R254): slice 7, without secondary supply, starts by itself if its settings say so and it holds no
latch other than LINK. -/
def doAutonomousDischarge (c : Chan) : Chan :=
  let x := c.sl 7
  let w := RegMap.get x.cfg (chanReset PROT_CTL) PROT_CTL
  if !x.power ∧ w.testBit 5 ∧ w.testBit 4 ∧ setBit x.latch 5 false = 0 ∧ !x.auto then
    c.onSl 7 (fun y => { y with auto := true, autoSeen := true, isOn := true, onAt := c.now })
  else c

/-- AUTONOMOUS_DISCHARGE_DONE (R254): below DONE_LVL slice 7 turns off. -/
def doAutonomousDischargeDone (c : Chan) : Chan :=
  c.onSl 7 (fun y => if y.auto then { y with auto := false, isOn := false } else y)

/-- The first valid frame ends slice 7's autonomous discharge, and reports it (R254). -/
def Chan.autoSeen (c : Chan) : Chan :=
  if (c.sl 7).autoSeen then
    (c.onSl 7 (fun y => { y with auto := false, autoSeen := false, isOn := if y.auto then false else y.isOn })).p
      DCHG_STATUS_AUTO_SEEN 1
  else c

/-- WINDING_DISCHARGE_TIMEOUT (R257): WD_T ms have passed. -/
def doWindingDischargeTimeout (c : Chan) : Chan :=
  if c.sinceOpt c.prot.wind (ms (c.g WD_TIME_T)) then (c.windEnd 5).raise WD_ABORT else c

/-- DCL_COMPARATOR_CHANGE. -/
def execDclComparatorChange (t : Tick) (ch : Ch) (cmp : Nat) (on : Bool) (s : State) := s.live t ch (doDclComparatorChange cmp on)
/-- CHOP_MIN_T_EXPIRY (R244): the command follows OV1 again. -/
def execChopMinTExpiry (t : Tick) (ch : Ch) (s : State) := s.live t ch Chan.chopEval
/-- CHOP_PROVE. -/
def execChopProve (t : Tick) (ch : Ch) (sc : Nat) (vdsHigh : Bool) (s : State) := s.live t ch (doChopProve sc vdsHigh)
/-- CHOP_TEST. -/
def execChopTest (t : Tick) (ch : Ch) (s : State) := s.live t ch doChopTest
/-- CHOP_TEST_PULSE_END. -/
def execChopTestPulseEnd (t : Tick) (ch : Ch) (s : State) := s.live t ch doChopTestPulseEnd
/-- DCL_EXT_TIMER. -/
def execDclExtTimer (t : Tick) (ch : Ch) (s : State) := s.live t ch doDclExtTimer
/-- DCHG_REQ. -/
def execDchgReq (t : Tick) (ch : Ch) (s : State) := s.live t ch doDchgReq
/-- DCHG_CANCEL. -/
def execDchgCancel (t : Tick) (ch : Ch) (s : State) := s.live t ch doDchgCancel
/-- DCHG_PIN. -/
def execDchgPin (t : Tick) (ch : Ch) (s : State) := s.chan t ch doDchgPin
/-- DCHG_PIN_RELEASE. -/
def execDchgPinRelease (t : Tick) (ch : Ch) (s : State) := s.chan t ch doDchgPinRelease
/-- DCHG_CFB_TIMEOUT. -/
def execDchgCfbTimeout (t : Tick) (ch : Ch) (s : State) := s.live t ch doDchgCfbTimeout
/-- DCHG_CHECK_T. -/
def execDchgCheckT (t : Tick) (ch : Ch) (s : State) := s.live t ch doDchgCheckT
/-- DCHG_T_EXPIRY. -/
def execDchgTExpiry (t : Tick) (ch : Ch) (s : State) := s.live t ch doDchgTExpiry
/-- ENERGY_UPDATE. -/
def execEnergyUpdate (t : Tick) (ch : Ch) (link : Int) (s : State) := s.chan t ch (doEnergyUpdate link)
/-- AUTONOMOUS_DISCHARGE. -/
def execAutonomousDischarge (t : Tick) (ch : Ch) (s : State) := s.chan t ch doAutonomousDischarge
/-- AUTONOMOUS_DISCHARGE_DONE. -/
def execAutonomousDischargeDone (t : Tick) (ch : Ch) (s : State) := s.chan t ch doAutonomousDischargeDone
/-- WINDING_DISCHARGE_TIMEOUT. -/
def execWindingDischargeTimeout (t : Tick) (ch : Ch) (s : State) := s.live t ch doWindingDischargeTimeout

end Sys2Proof.Machine
end

