-- ==== Sys2Proof/Machine/Trig.lean ====
section
/-! DEFINITION. Machine/Trig.lean: sines, cosines, angles and roots over integers. A fraction in Q60 counts 2 ^ -60. An angle of a
revolution in Q40 counts 2 ^ -40 revolutions. -/

namespace Sys2Proof.Machine

/-- One in Q60. -/
def one60 : Int := 1152921504606846976
/-- 2π in Q60. -/
def twoPi60 : Int := 7244019458077122842
/-- (2π) squared in Q60. -/
def twoPiSq60 : Int := 45515516623913208649
/-- 1 / 2π in Q60. -/
def invTwoPi60 : Int := 183493156455125077
/-- √3 in Q60. -/
def sqrt3of60 : Int := 1996918623117814388
/-- 1 / √3 in Q60. -/
def invSqrt3of60 : Int := 665639541039271463

/-- Cosine and sine in Q60 of the angles 2π / 2 ^ j, j = 3 to 40. -/
def rotTable : List (Int × Int) :=
  [(815238614083298888, 815238614083298888),
   (1065160580698383124, 441203958630471860),
   (1130768441178740757, 224923827593068887),
   (1147369872436662991, 113006068906017470),
   (1151532760162549490, 56571176913125535),
   (1152574266204915294, 28294110113536504),
   (1152834691737939372, 14148120384212745),
   (1152899801185339687, 7074193361797233),
   (1152916078738702569, 3537113327227485),
   (1152920148139012899, 1768558744408523),
   (1152921165489838583, 884279632303724),
   (1152921419827591761, 442139848664298),
   (1152921483412032977, 221069928396204),
   (1152921499308143464, 110534964706109),
   (1152921503282171097, 55267482416555),
   (1152921504275678006, 27633741216215),
   (1152921504524054734, 13816870609100),
   (1152921504586148915, 6908435304674),
   (1152921504601672461, 3454217652352)] ++
  [(1152921504605553347, 1727108826178),
   (1152921504606523569, 863554413089),
   (1152921504606766124, 431777206545),
   (1152921504606826763, 215888603272),
   (1152921504606841923, 107944301636),
   (1152921504606845713, 53972150818),
   (1152921504606846660, 26986075409),
   (1152921504606846897, 13493037705),
   (1152921504606846956, 6746518852),
   (1152921504606846971, 3373259426),
   (1152921504606846975, 1686629713),
   (1152921504606846976, 843314857),
   (1152921504606846976, 421657428),
   (1152921504606846976, 210828714),
   (1152921504606846976, 105414357),
   (1152921504606846976, 52707179),
   (1152921504606846976, 26353589),
   (1152921504606846976, 13176795),
   (1152921504606846976, 6588397)]

/-- A vector in Q60 turned by the angle whose cosine and sine in Q60 are `t`. -/
def rot60 (v t : Int × Int) : Int × Int :=
  (rdiv (v.1 * t.1 - v.2 * t.2) (2 ^ 60), rdiv (v.2 * t.1 + v.1 * t.2) (2 ^ 60))

/-- The rotations of the bits of an angle below an eighth of a revolution, from bit `k - 1` downwards. -/
def rotBits (a : Nat) : Nat → Int × Int → List (Int × Int) → Int × Int
  | 0, v, _ => v
  | _ + 1, v, [] => v
  | k + 1, v, t :: ts => rotBits a k (if a.testBit k then rot60 v t else v) ts

/-- A quarter turn `k` times. -/
def quarter (k : Nat) (v : Int × Int) : Int × Int :=
  match k % 4 with
  | 0 => v
  | 1 => (-v.2, v.1)
  | 2 => (-v.1, -v.2)
  | _ => (v.2, -v.1)

/-- Cosine and sine in Q60 of an angle in Q40 of a revolution. -/
def cosSin (a : Nat) : Int × Int :=
  let r := a % 2 ^ 40
  quarter (r / 2 ^ 38) (rotBits (r % 2 ^ 38) 38 (one60, 0) rotTable)

/-- Cosine and sine in Q60 of an angle of 65,536 counts a revolution. -/
def cosSin16 (a : Nat) : Int × Int := cosSin (a % 65536 * 2 ^ 24)

/-- The angle of a vector in the first quadrant, in halves of 1/65,536 revolution rounded down, searched bit by bit: `w` is the
weight of the next bit, `v` the direction of the angle found. -/
def angleBits (x y : Int) : Nat → Nat → Int × Int → List (Int × Int) → Nat → Nat
  | 0, _, _, _, acc => acc
  | _ + 1, _, _, [], acc => acc
  | k + 1, w, v, t :: ts, acc =>
    let u := rot60 v t
    if 0 ≤ u.1 * y - u.2 * x then angleBits x y k (w / 2) u ts (acc + w) else angleBits x y k (w / 2) v ts acc

/-- atan2 in 65,536 counts a revolution, rounded to the nearest; 0 for the null vector. -/
def angleOf (x y : Int) : Nat :=
  if x = 0 ∧ y = 0 then 0
  else
    let z := if 0 < x ∧ 0 ≤ y then (0, x, y) else if x ≤ 0 ∧ 0 < y then (1, y, -x) else if x < 0 ∧ y ≤ 0 then (2, -x, -y) else (3, -y, x)
    let h := angleBits z.2.1 z.2.2 15 16384 (one60, 0) rotTable 0
    (z.1 * 16384 + (h + 1) / 2) % 65536

/-- The integer square root by bits: the largest `r` with `r * r ≤ n`, for `n < 4 ^ k`. -/
def sqrtBits (n : Nat) : Nat → Nat → Nat
  | 0, r => r
  | k + 1, r => let t := r + 2 ^ k; if t * t ≤ n then sqrtBits n k t else sqrtBits n k r

/-- The integer square root of a number below 2 ^ 128, rounded down. -/
def isqrt (n : Nat) : Nat := sqrtBits n 64 0

/-- The square root rounded to the nearest integer. -/
def isqrtNear (n : Nat) : Nat :=
  let r := isqrt n
  if r * r + r < n then r + 1 else r

/-- The square of the magnitude of a vector. -/
def magSq (x y : Int) : Nat := (x * x + y * y).toNat

/-- The smaller of the two turns between two angles of 65,536 counts, signed. -/
def angleDiff (a b : Int) : Int := (a - b + 32768) % 65536 - 32768

end Sys2Proof.Machine
end

