-- ==== Sys2Proof/Machine/XchkBase.lean ====
section
/-! DEFINITION. Machine/XchkBase.lean: what XCHK takes from the converters' result bus and from the sinc result bus (R118 to R123,
R128, R134 to R136). -/

namespace Sys2Proof.Machine

/-- A result on the converters' result bus (R87): converter, kind (0 regular, 1 injected, 2 scan), slot, input code, trigger bits,
applied vector, CLIP and REPEAT, the trigger's instant, the instant at which sampling began, the corrected value, and for a regular
sequence the resolver event it answers. -/
structure BusRes where
  conv : Nat
  kind : Nat
  slot : Nat
  input : Nat
  trig : Nat
  vec : Nat
  clip : Bool
  rep : Bool
  trigAt : Tick
  at_ : Tick
  val : Int
  ev : Nat
  deriving DecidableEq, Repr

/-- Source RES_AMP. -/
def RES_AMP : Src := ⟨3, 10⟩
/-- Source RES_TRACK. -/
def RES_TRACK : Src := ⟨3, 11⟩
/-- Source SEC_UNAVAIL. -/
def SEC_UNAVAIL : Src := ⟨3, 4⟩

/-- The channel with its XCHK part changed. -/
def Chan.onXchk (c : Chan) (f : Xchk → Xchk) : Chan := { c with xchk := f c.xchk }
/-- The channel with its SINC part changed. -/
def Chan.onSinc (c : Chan) (f : Sinc → Sinc) : Chan := { c with sinc := f c.sinc }

/-- The map of phase `k` (R118). -/
def Chan.phMap (c : Chan) (k : Nat) : Nat := bitsOf (c.rd XC_MAP) (8 * k + 7) (8 * k)
/-- Phase `k` has a primary source. -/
def Chan.priOn (c : Chan) (k : Nat) : Bool := (c.phMap k).testBit 4
/-- Its converter. -/
def Chan.priConv (c : Chan) (k : Nat) : Nat := c.phMap k / 4 % 4
/-- Its injected slot. -/
def Chan.priSlot (c : Chan) (k : Nat) : Nat := c.phMap k % 4
/-- Phase `k` has a secondary source. -/
def Chan.secOn (c : Chan) (k : Nat) : Bool := (c.phMap k).testBit 7
/-- Its SDAT input. -/
def Chan.secIn (c : Chan) (k : Nat) : Nat := c.phMap k / 32 % 4

/-- Validity of a primary sample of phase `k` (R120). -/
def Chan.sampleOk (c : Chan) (k : Nat) (clip : Bool) (vec : Nat) : Bool :=
  !clip && (c.g XC_CFG_PRI_KIND == 0 || !legOf vec k)

/-- A sample put into its set (R123): the set of its trigger, stamped with the instant of its earliest-mapped phase; a new set goes
to the front of the ring of 16. -/
def ringPut (trigAt : Tick) (t : Int) (k : Nat) (x : Samp) : List PrimSet → List PrimSet
  | [] => [⟨trigAt, t, [none, none, none].set k (some x), false⟩]
  | p :: ps =>
    if p.trigAt = trigAt then
      { p with s := p.s.set k (some x), t := if (p.s.take k).any Option.isSome then p.t else t } :: ps
    else (⟨trigAt, t, [none, none, none].set k (some x), false⟩ :: p :: ps).take 16

/-- The primary sample of phase `k` is older than PRI_AGE periods, counted from `from_` before the first valid one. -/
def Chan.tooOld (c : Chan) (at_ : Option Tick) (from_ : Tick) : Bool :=
  let r := match at_ with
    | none => from_
    | some t => max t from_
  Nat.blt (r + c.g XC_CFG_PRI_AGE * c.period) c.now

/-- Input `n` delivers valid outputs. -/
def Chan.sdValid (c : Chan) (n : Nat) : Bool := c.gb SD_STATUS_VALID n

/-- PRI_OK and SEC_OK of XC_STATUS: the phases whose primary is valid and fresh, those whose secondary is valid. -/
def Chan.xcShow (c : Chan) : Chan :=
  let at_ := fun k => c.xchk.priAt.getD k none
  let okP := fun k => c.priOn k && !c.xchk.priClip.testBit k && (at_ k).isSome && !c.tooOld (at_ k) 0
  let okS := fun k => c.secOn k && c.sdValid (c.secIn k)
  (c.p XC_STATUS_PRI_OK (b2n (okP 0) + 2 * b2n (okP 1) + 4 * b2n (okP 2))).p XC_STATUS_SEC_OK
    (b2n (okS 0) + 2 * b2n (okS 1) + 4 * b2n (okS 2))

/-- An injected result taken as the primary sample of phase `k`. -/
def Chan.priSample (c : Chan) (r : BusRes) (k : Nat) : Chan :=
  if !c.priOn k ∨ c.priConv k ≠ r.conv ∨ c.priSlot k ≠ r.slot then c
  else
    let ok := c.sampleOk k r.clip r.vec
    let t : Int := (r.at_ : Int) - (cyc (c.g XC_CFG_PRI_DLY) : Nat)
    (c.onXchk (fun x => { x with
      ring := ringPut r.trigAt t k ⟨r.val, ok⟩ x.ring
      priAt := if ok then x.priAt.set k (some r.at_) else x.priAt
      priClip := setBit x.priClip k r.clip })).xcShow

/-- The DC-link sample of the present decision period, if it has been taken. -/
def Chan.dclNow (c : Chan) : Option Int :=
  match c.xchk.dclV with
  | some (t, v) => if c.dtc.boundAt ≤ t then some v else none
  | none => none

/-- Source DCL_MISMATCH. -/
def DCL_MISMATCH : Src := ⟨3, 8⟩

/-- A report `v` compared with the primary DC-link sample `p` of its period (R129). -/
def Chan.dclCompare (c : Chan) (v p : Int) : Chan :=
  let bad := decide ((c.g DCL_CFG_DCL_LIM : Int) < absSat (sat16 (v - p)))
  let c2 := c.onXchk (fun x => { x with
    dclMis := if bad then min 256 (x.dclMis + 1) else 0
    dclOk := if bad then 0 else min 256 (x.dclOk + 1) })
  if c2.g DCL_CFG_DCL_CNT < c2.xchk.dclMis then c2.raise DCL_MISMATCH
  else if c2.g DCL_CFG_DCL_CNT < c2.xchk.dclOk then c2.clear DCL_MISMATCH else c2

/-- An injected result taken as the DC-link sample that XC_MAP names (R129, R533); the reports of this period are compared with it. -/
def Chan.dclSample (c : Chan) (r : BusRes) : Chan :=
  let m := c.g XC_MAP_DCL
  if !m.testBit 4 ∨ m / 4 % 4 ≠ r.conv ∨ m % 4 ≠ r.slot then c
  else
    let c1 := c.onXchk (fun x => { x with dclAt := if r.clip then x.dclAt else some r.at_, dclV := some (r.at_, r.val), dclClip := r.clip })
    if c.dtc.boundAt ≤ r.at_ then c.xchk.altDue.foldl (fun d v => d.dclCompare v r.val) (c1.onXchk (fun x => { x with altDue := [] })) else c1

/-! ### Resolver (R134 to R136) -/

/-- A resolver source judged: out of its limit it is raised, after 16 consecutive demodulations within it, it clears. -/
def Chan.resJudge (c : Chan) (s : Src) (out : Bool) (n : Nat) : Chan :=
  if out then c.raise s else if 16 ≤ n then c.clear s else c

/-- A demodulation (R135, R136). After the first one the tracked angle and speed are those of the loop, whose arithmetic the spec does
not give (Config.track). -/
def Chan.demod (c : Chan) (sn cs : Int) : Chan :=
  let amp := min 32767 (isqrtNear (magSq sn cs))
  let meas := angleOf cs sn
  let first := !c.xchk.rInit
  let x0 := c.xchk
  let next := Config.track (250 * 2 ^ c.g RES_CFG_TRK_BW) meas x0.rAng x0.rSpd (c.now - x0.rAt)
  let ang := if first then meas else next.1 % 65536
  let spd : Int := if first then 0 else sat32 next.2
  let outA := Nat.blt amp (c.g RES_LIM_AMP_LO) || Nat.blt (c.g RES_LIM_AMP_HI) amp
  let outT := Nat.blt (512 * c.g RES_CFG_TRK_LIM) (angleDiff meas ang).natAbs
  let c2 := c.onXchk (fun x => { x with
    rInit := true, rAt := c.now, rAng := ang, rSpd := spd, rsin := none, rcos := none
    ampOk := if outA then 0 else min 16 (x.ampOk + 1)
    trkOk := if outT then 0 else min 16 (x.trkOk + 1) })
  (c2.resJudge RES_AMP outA c2.xchk.ampOk).resJudge RES_TRACK outT c2.xchk.trkOk

/-- A regular result that carries the resolver trigger (R134, R135); those of the second event are negated. -/
def Chan.resSample (c : Chan) (r : BusRes) : Chan :=
  if r.ev = 0 ∨ r.kind ≠ 0 then c
  else
    let v := if r.ev = 2 then sat16 (-r.val) else r.val
    let c1 := c.onXchk (fun x => { x with
      rsin := if r.input = c.g RES_CFG_SIN_IN then some v else x.rsin
      rcos := if r.input = c.g RES_CFG_COS_IN then some v else x.rcos })
    match c1.xchk.rsin, c1.xchk.rcos with
    | some sn, some cs => c1.demod sn cs
    | _, _ => c1

/-! ### The secondary path (R122, R123, R128) -/

/-- SEC_UNAVAIL follows the validity of the mapped inputs, but for those that only a landing has made invalid (R128). -/
def Chan.secEval (c : Chan) : Chan :=
  c.xcShow.follow SEC_UNAVAIL ((List.range 3).any (fun k =>
    c.secOn k && !c.sdValid (c.secIn k) && !(c.sinc.inp.getD (c.secIn k) {}).byLand))

/-! ### Current samples of the torque monitor (R197) -/

/-- The channel with its OBS part changed. -/
def Chan.onObs (c : Chan) (f : Obs → Obs) : Chan := { c with obs := f c.obs }

/-- The sensor is usable for angle (R148, R187). -/
def Chan.angleUsable (c : Chan) : Bool := c.b POS_ANGLE_VALID && c.b POS_ANGLE_ABS
/-- The amplitude-invariant Clarke transform of R150 over phase values, each component rounded. -/
def clarke (i : List Int) : Int × Int :=
  let u := i.getD 0 0
  let v := i.getD 1 0
  let w := i.getD 2 0
  (sat16 (rdiv (2 * u - v - w) 3), sat16 (rdiv ((v - w) * invSqrt3of60) (2 ^ 60)))

/-- The newest secondary values when every mapped secondary input is valid and at least two phases are mapped; an unmapped phase is
the negative sum of the others. -/
def Chan.secCur (c : Chan) : Option (List Int) :=
  let ks := (List.range 3).filter c.secOn
  if ks.length < 2 ∨ !ks.all (fun k => c.sdValid (c.secIn k)) then none
  else
    let v := fun k => match c.xchk.sec.getD k [] with
      | (_, x) :: _ => x
      | [] => 0
    let s := ks.foldl (fun a k => a + v k) 0
    some ((List.range 3).map (fun k => if c.secOn k then v k else sat16 (-s)))

/-- A current sample of the torque monitor's window, in the rotor frame; `pri` tells that it is a primary one. -/
def Chan.tmCurrent (c : Chan) (cur : List Int) (pri : Bool) : Chan :=
  let ab := clarke cur
  let use_ := c.angleUsable
  let t := cosSin16 (if use_ then c.g POS_ANGLE_ANGLE else c.g OBS_ANGLE_ANGLE)
  c.onObs (fun o => { o with tm := { o.tm with
    nCur := o.tm.nCur + 1
    id := o.tm.id + (ab.1 * t.1 + ab.2 * t.2)
    iq := o.tm.iq + (ab.2 * t.1 - ab.1 * t.2)
    pri := o.tm.pri || pri
    angObs := o.tm.angObs || !use_ } })

/-- An output of input `n` as a current sample of the monitor: those of the input of the first mapped phase carry one (log 85). -/
def Chan.tmSinc (c : Chan) (n : Nat) : Chan :=
  if !c.b TM_CFG_EN ∨ ((List.range 3).find? c.secOn).map c.secIn ≠ some n then c
  else match c.secCur with
    | none => c
    | some cur => c.tmCurrent cur false

/-- A valid output of input `n` on the sinc result bus (R108, R123): the two newest are kept for every phase mapped to it. -/
def Chan.secSample (c : Chan) (n : Nat) (t v : Int) : Chan :=
  (c.each 3 (fun d k =>
    if d.secOn k && d.secIn k == n then d.onXchk (fun x => { x with sec := x.sec.set k (((t, v) :: x.sec.getD k []).take 2) }) else d)).tmSinc n

end Sys2Proof.Machine
end

