-- ==== Sys2Proof/Machine/Adc.lean ====
section
/-! DEFINITION. Machine/Adc.lean: the SAR converters (R73 to R96). -/

namespace Sys2Proof.Machine

/-! ### Converters and the pair (R82) -/

/-- Converter `n`. -/
def Chan.conv (c : Chan) (n : Nat) : Conv := c.adc.conv.getD n {}

/-- The channel with converter `n` changed. -/
def Chan.onConv (c : Chan) (n : Nat) (f : Conv → Conv) : Chan :=
  { c with adc := { c.adc with conv := c.adc.conv.set n (f (c.conv n)) } }

/-- The converter whose settings and triggers converter `n` follows: ADC0 for the pair. -/
def Chan.lead (c : Chan) (n : Nat) : Nat := if c.b ADC_CTL_PAIR_EN ∧ n = 1 then 0 else n

/-- The converters that a leading converter carries with it. -/
def Chan.members (c : Chan) (n : Nat) : List Nat := if c.b ADC_CTL_PAIR_EN ∧ n = 0 then [0, 1] else [n]

/-- A converter that takes triggers for itself: enabled, and not the second of the pair. -/
def Chan.convOn (c : Chan) (n : Nat) : Bool := Nat.blt n 4 && c.lead n == n && c.gb ADC_CTL_CONV_EN n

/-- ADC3 runs scans in place of regular sequences (R83). -/
def Chan.scanMode (c : Chan) (n : Nat) : Bool := n == 3 && c.b ADC_CTL_ADC3_MODE

/-- The input code of a regular slot. -/
def Chan.regInput (c : Chan) (n k : Nat) : Nat :=
  bitsOf (c.rd (if k < 8 then REG_SEQ0 n else REG_SEQ1 n)) (4 * (k % 8) + 3) (4 * (k % 8))
/-- The input code of an injected slot. -/
def Chan.injInput (c : Chan) (n k : Nat) : Nat := bitsOf (c.rd (INJ_SEQ n)) (4 * k + 3) (4 * k)

/-- The first input code at or above `k` in a scan mask. -/
def nextInput (mask k : Nat) : Option Nat := (List.range 16).find? (fun i => Nat.ble k i && mask.testBit i)

/-- A skim conversion on the converter is abandoned (R93). -/
def Chan.skimConv (c : Chan) (n : Nat) : Chan := c.skimAbortIf 0 (fun u => c.lead (u / 3) == n)

/-! ### Triggers (R77 to R83) -/

/-- A discarded injected trigger (R81), on both converters of the pair. -/
def Chan.injOver (c : Chan) (n : Nat) : Chan :=
  ((c.members n).foldl (fun d m => d.satInc (OVR_COUNT_INJ_OVR m)) c).raise INJ_OVERRUN

/-- A discarded regular trigger or scan tick (R78, R83). -/
def Chan.regOver (c : Chan) (n : Nat) : Chan :=
  ((c.members n).foldl (fun d m => d.satInc (OVR_COUNT_REG_OVR m)) c).raise REG_OVERRUN

/-- An injected trigger with its bits (0 boundary, 1 window, 2 software; R79 to R81): triggers of one cycle start one sequence, one
that finds a sequence running is discarded, any other abandons what the converter does. A regular slot whose sampling has not begun is no
slot in progress: it is taken later with REPEAT 0 (DEDUCED, log 79). -/
def Chan.injTrigger (c : Chan) (n bits : Nat) : Chan :=
  if !c.convOn n ∨ bits = 0 then c
  else
    let c0 := c.skimConv n
    match (c0.conv n).inj with
    | some q =>
      if c0.now < q.trigAt + ticksPerCycle then c0.onConv n (fun v => { v with inj := some { q with trig := q.trig ||| bits } })
      else c0.injOver n
    | none =>
      c0.onConv n (fun v => { v with
        inj := some ⟨0, bits, c0.now, c0.now + cyc (2 + c0.g (CONV_CTL_INJ_DELAY n)), false, []⟩
        reg := v.reg.map (fun r => if r.sampleAt ≤ c0.now then { r with rep := true, snap := [] } else r) })

/-- A regular sequence or scan starts, its first sampling at `at_`; `ev` is the resolver event it answers. A scan of an empty mask does
not start, and so never ends (DESIGN CHOICE, log 79). -/
def Chan.regStart (c : Chan) (n ev : Nat) (at_ : Tick) : Chan :=
  let first := if c.scanMode n then nextInput (c.g SCAN_MASK_MASK) 0 else some 0
  match first with
  | none => c
  | some k => c.onConv n (fun v => { v with reg := some ⟨k, ev, c.now, at_, false, []⟩, held := none })

/-- A regular trigger or a scan tick (R78, R83): discarded while the sequence or scan is in progress, held while only an injected
sequence runs; a second one is held with the first, not counted (DEDUCED, log 79). -/
def Chan.regTrigger (c : Chan) (n ev : Nat) : Chan :=
  if !c.convOn n then c
  else
    let c0 := c.skimConv n
    let v := c0.conv n
    if v.reg.isSome then c0.regOver n
    else if v.inj.isSome then c0.onConv n (fun x => { x with held := if x.held.isSome then x.held else some ev })
    else c0.regStart n ev (c0.now + cyc 2)

/-- The triggers of a decision boundary (R77, R79): injected ones first, by their dividers, then the regular ones. -/
def Chan.adcBoundary (c : Chan) : Chan :=
  let c1 := c.each 4 (fun d n =>
    let fire := Nat.ble (d.g (CONV_CTL_INJ_DIV n)) (d.conv n).div
    let e := d.onConv n (fun v => { v with div := if fire then 0 else v.div + 1 })
    if fire && e.b (CONV_CTL_INJ_TRIG_BND n) then e.injTrigger n 1 else e)
  c1.each 4 (fun d n => if d.g (CONV_CTL_REG_TRIG n) = 2 ∧ !d.scanMode n then d.regTrigger n 0 else d)

/-- The window trigger of R173. -/
def Chan.adcWindow (c : Chan) : Chan := c.each 4 (fun d n => if d.b (CONV_CTL_INJ_TRIG_WIN n) then d.injTrigger n 2 else d)

/-- The resolver trigger of R134; `ev` is 1 for the first and 2 for the second event of a period. -/
def Chan.adcResolver (c : Chan) (ev : Nat) : Chan :=
  c.each 4 (fun d n => if d.g (CONV_CTL_REG_TRIG n) = 4 ∧ !d.scanMode n then d.regTrigger n ev else d)

/-! ### Results (R85 to R90) -/

/-- The correction of R85. -/
def correct (raw : Nat) (ofs gain : Int) : Int := sat16 (rdiv ((16 * (raw : Int) - ofs) * gain) (2 ^ 20))

/-- A result entered into its converter's FIFO (R88). -/
def Chan.fifoPut (c : Chan) (r : BusRes) : Chan :=
  let v := c.conv r.conv
  if 32 ≤ v.fifo.length then (c.satInc (FIFO_OVF_COUNT_COUNT r.conv)).raise FIFO_OVERFLOW
  else
    let w := 2 ^ 31 + b2n r.clip * 2 ^ 30 + r.vec * 2 ^ 27 + b2n r.rep * 2 ^ 26 + r.kind * 2 ^ 24 + r.slot % 16 * 2 ^ 20
      + r.input * 2 ^ 16 + toBits 16 r.val
    let t := c.tb.timeAt r.at_
    let c1 := c.onConv r.conv (fun x => { x with fifo := x.fifo ++ [⟨w, t⟩] })
    if v.fifo.length + 1 = c.g (FIFO_CTL_THRESH r.conv) then c1.pb ADC_IRQ_STATUS_FIFO_THRESH r.conv true else c1

/-- Window comparator `k` judges a result (R90). -/
def Chan.wcmpJudge (c : Chan) (r : BusRes) (k : Nat) : Chan :=
  let src := c.g (WCMP_CTL_SRC k)
  if !c.b (WCMP_CTL_EN k) ∨ c.g (WCMP_CTL_INPUT k) ≠ r.input ∨ (src ≠ 4 ∧ src ≠ r.conv) then c
  else
    let out := decide (c.gi (WCMP_LIM_HIGH k) < r.val) || decide (r.val < c.gi (WCMP_LIM_LOW k))
    let need := c.g (WCMP_CTL_DEBOUNCE k) + 1
    let c1 := { c with adc := { c.adc with
      cmpOut := c.adc.cmpOut.set k (if out then min 16 (nth c.adc.cmpOut k + 1) else 0)
      cmpIn := c.adc.cmpIn.set k (if out then 0 else min 16 (nth c.adc.cmpIn k + 1)) } }
    if out then (if need ≤ nth c1.adc.cmpOut k then c1.raise (WCMP k) else c1)
    else if need ≤ nth c1.adc.cmpIn k then c1.clear (WCMP k) else c1

/-- The precharge source voltage of R293 taken from the result bus. -/
def Chan.preSample (c : Chan) (r : BusRes) : Chan :=
  if c.b PRE_SRC_EN ∧ (c.g PRE_SRC_CONV = r.conv ∨ c.g PRE_SRC_CONV = 4) ∧ c.g PRE_SRC_INPUT = r.input then
    c.onMsio (fun m => { m with vsrc := some (r.val, c.now) })
  else c

/-- A corrected result goes to its register, to the FIFO and to the bus (R87 to R90); a DC-link value below DONE_LVL ends a
discharge (R251). -/
def Chan.result (c : Chan) (r : BusRes) : Chan :=
  let m := r.conv
  let c1 :=
    if r.kind = 1 then
      c.wr (INJ_RES m r.slot) ((c.g (INJ_RES_COUNT m r.slot) + 1) % 128 * 2 ^ 24 + b2n r.clip * 2 ^ 23 + r.trig % 8 * 2 ^ 20
        + r.vec * 2 ^ 16 + toBits 16 r.val)
    else if r.kind = 2 then
      c.wr (HK_RES r.input) ((c.g (HK_RES_COUNT r.input) + 1) % 128 * 2 ^ 24 + b2n r.clip * 2 ^ 16 + toBits 16 r.val)
    else c
  let c2 := if r.kind ≠ 1 ∨ c1.b (CONV_CTL_INJ_FIFO m) then c1.fifoPut r else c1
  let c3 := c2.each 8 (fun d k => d.wcmpJudge r k)
  let c4 := (c3.preSample r).resSample r
  if r.kind = 1 then
    let c5 := (c4.each 3 (fun d k => d.priSample r k)).dclSample r
    let d := c5.g XC_MAP_DCL
    if d.testBit 4 && d / 4 % 4 == m && d % 4 == r.slot then c5.dchgLink else c5
  else c4

/-- What a conversion of converter `m`, in place `i` of its pair, is corrected with (R86). -/
def Chan.corrOf (c : Chan) (q : Seq) (i input : Nat) : Nat × Int × Int :=
  match q.snap[i]? with
  | some z => z
  | none => (input, c.gi (CORR_OFS_OFS input), c.gi (CORR_GAIN_GAIN input))

/-- The results of the slot that a leading converter `n` has just converted. A scan gives its slot the number of its input code (DESIGN
CHOICE, log 79: R88 gives a scan result no slot number). -/
def Chan.slotDone (c : Chan) (n kind : Nat) (q : Seq) (raw raw1 : Nat) : Chan :=
  let ms := c.members n
  (List.range ms.length).foldl (fun d i =>
    let m := ms.getD i n
    let w := min 4095 (if i = 0 then raw else raw1)
    let inp := if kind = 1 then c.injInput m q.slot else if kind = 2 then q.slot else c.regInput m q.slot
    let z := c.corrOf q i inp
    d.result { conv := m, kind := kind, slot := q.slot, input := z.1, trig := if kind = 1 then q.trig else 0
               vec := c.vectorAt q.sampleAt, clip := w == 0 || w == 4095, rep := q.rep, trigAt := q.trigAt, at_ := q.sampleAt
               val := correct w z.2.1 z.2.2, ev := if kind = 0 then q.trig else 0 }) c

/-- After the last conversion of an injected sequence, ended at `e`: the abandoned slot repeats, or a held sequence starts, 2 cycles
later (R78, R80). -/
def Chan.resumeReg (c : Chan) (n : Nat) (e : Tick) : Chan :=
  let v := c.conv n
  match v.reg, v.held with
  | some r, _ => c.onConv n (fun x => { x with reg := some { r with sampleAt := e + cyc 2 } })
  | none, some ev => c.regStart n ev (e + cyc 2)
  | none, none => c

/-- ADC_CONVERSION_END: the slot in progress of converter `n` ends with raw code `raw` (`raw1` for ADC1 of the pair). An injected sequence
that a landing overtakes goes on by the new INJ_LEN and INJ_SEQ (DESIGN CHOICE, log 79). -/
def doAdcConversionEnd (n raw raw1 : Nat) (c : Chan) : Chan :=
  let k := c.lead n
  if 3 < k then c
  else
    let v := c.conv k
    match v.inj with
    | some q =>
      let e := q.sampleAt + cyc 120
      let c1 := if q.slot < c.g (CONV_CTL_INJ_LEN k) then
          c.onConv k (fun x => { x with inj := some { q with slot := q.slot + 1, sampleAt := e, snap := [] } })
        else (c.onConv k (fun x => { x with inj := none })).resumeReg k e
      c1.slotDone k 1 q raw raw1
    | none =>
      match v.reg with
      | none => c
      | some q =>
        let e := q.sampleAt + cyc 120
        if c.scanMode k then
          let c1 := match nextInput (c.g SCAN_MASK_MASK) (q.slot + 1) with
            | some i => c.onConv k (fun x => { x with reg := some { q with slot := i, sampleAt := e, rep := false, snap := [] } })
            | none => (c.onConv k (fun x => { x with reg := none })).p ADC_IRQ_STATUS_SCAN_DONE 1
          c1.slotDone k 2 q raw raw1
        else
          let c1 := if q.slot < c.g (CONV_CTL_REG_LEN k) then
              c.onConv k (fun x => { x with reg := some { q with slot := q.slot + 1, sampleAt := e, rep := false, snap := [] } })
            else if c.g (CONV_CTL_REG_TRIG k) = 1 ∧ c.convOn k then c.regStart k 0 (e + cyc 2)
            else c.onConv k (fun x => { x with reg := none })
          c1.slotDone k 0 q raw raw1

/-! ### Requests, scans, FIFOs -/

/-- ADC_INJ_TRIGGER: the trigger bits that converter `n` enables. -/
def doAdcInjTrigger (n bits : Nat) (c : Chan) : Chan :=
  if 3 < n then c
  else c.injTrigger n (b2n (bits.testBit 0 && c.b (CONV_CTL_INJ_TRIG_BND n)) + 2 * b2n (bits.testBit 1 && c.b (CONV_CTL_INJ_TRIG_WIN n))
    + 4 * b2n (bits.testBit 2 && c.b (CONV_CTL_INJ_TRIG_SW n)))

/-- ADC_REG_TRIGGER: a regular trigger of the kind `src` that REG_TRIG selects (2 boundary, 3 timer, 4 resolver; R77). -/
def doAdcRegTrigger (n src : Nat) (c : Chan) : Chan :=
  if 3 < n ∨ c.scanMode n ∨ src < 2 ∨ 4 < src ∨ c.g (CONV_CTL_REG_TRIG n) ≠ src then c else c.regTrigger n (b2n (src == 4))

/-- CONV_REQ_INJ_SW (R79): the request, which a write made in the cycle before, is taken, and acts as a trigger or is dropped. -/
def doConvReqInjSw (n : Nat) (c : Chan) : Chan :=
  if 3 < n then c
  else
    let c1 := c.wr (CONV_REQ n) (putBits (c.rd (CONV_REQ n)) 1 1 0)
    if c1.b (CONV_CTL_INJ_TRIG_SW n) then c1.injTrigger n 4 else c1

/-- CONV_REQ_REG_SW (R77, R79): the request is taken, and acts in every mode but continuous and scan-mask. -/
def doConvReqRegSw (n : Nat) (c : Chan) : Chan :=
  if 3 < n then c
  else
    let c1 := c.wr (CONV_REQ n) (putBits (c.rd (CONV_REQ n)) 0 0 0)
    if c1.scanMode n ∨ c1.g (CONV_CTL_REG_TRIG n) = 1 then c1 else c1.regTrigger n 0

/-- ADC_SCAN_TICK (R83). -/
def doAdcScanTick (c : Chan) : Chan := if c.scanMode 3 then c.regTrigger 3 0 else c

/-- ADC_STALL (R91). -/
def doAdcStall (c : Chan) : Chan := c.raise ADC_STALL_SRC

/-- FIFO_DATA_READ (R88): the word that the read returns stands in FIFO_DATA afterwards. -/
def doFifoDataRead (n : Nat) (c : Chan) : Chan :=
  if 3 < n then c
  else match (c.conv n).fifo with
    | [] => c.wr (FIFO_DATA n) 0
    | e :: es =>
      (((c.onConv n (fun v => { v with fifo := es })).wr (FIFO_DATA n) e.word).wr (FIFO_TIME_LO n) (e.time % 2 ^ 32)).wr
        (FIFO_TIME_HI n) (e.time / 2 ^ 32)

/-- FIFO_FLUSH. -/
def doFifoFlush (n : Nat) (c : Chan) : Chan :=
  if 3 < n then c else ((c.onConv n (fun v => { v with fifo := [] })).wr (FIFO_OVF_COUNT n) 0).p (FIFO_CTL_FLUSH n) 0

/-! ### Landing (R79, R86, R90, R95) -/

/-- Before the values change: a slot whose sampling has begun keeps its input code and correction, one that begins at the landing boundary
itself among them (DESIGN CHOICE, log 79). -/
def Chan.snapSeq (c : Chan) (n : Nat) (q : Seq) : Seq :=
  if q.sampleAt ≤ c.now ∧ q.snap = [] then
    { q with snap := (c.members n).map (fun m =>
      let i := c.injInput m q.slot
      (i, c.gi (CORR_OFS_OFS i), c.gi (CORR_GAIN_GAIN i))) }
  else q

/-- The converters before a landing. -/
def Chan.adcBeforeLand (c : Chan) : Chan := c.each 4 (fun d n => d.onConv n (fun v => { v with inj := v.inj.map (d.snapSeq n) }))

/-- The converters after a landing: regular sequences and scans end, continuous ones restart, an injected sequence triggered at
this boundary runs with the new delay, the dividers restart. A scan that ends so does not set SCAN_DONE, a held trigger is dropped, and
the boundary's own triggers have acted by the old values before (DESIGN CHOICE, log 79). -/
def Chan.adcAfterLand (c : Chan) : Chan :=
  c.each 4 (fun d n =>
    let e := d.onConv n (fun v => { v with
      reg := none, held := none, div := 0
      inj := v.inj.map (fun q => if q.trigAt = d.now ∧ q.slot = 0 then { q with sampleAt := d.now + cyc (2 + d.g (CONV_CTL_INJ_DELAY n)) } else q) })
    if e.g (CONV_CTL_REG_TRIG n) = 1 ∧ !e.scanMode n then e.regTrigger n 0 else e)

/-- The window comparators after a safety landing; `o` is the channel before it. -/
def Chan.wcmpLand (c o : Chan) : Chan :=
  c.each 8 (fun d k =>
    let zero : Chan := { d with adc := { d.adc with cmpOut := d.adc.cmpOut.set k 0, cmpIn := d.adc.cmpIn.set k 0 } }
    if !d.b (WCMP_CTL_EN k) then (if o.b (WCMP_CTL_EN k) then zero.clear (WCMP k) else d)
    else if o.rd (WCMP_CTL k) ≠ d.rd (WCMP_CTL k) ∨ o.rd (WCMP_LIM k) ≠ d.rd (WCMP_LIM k) then zero
    else d)

/-- ADC_INJ_TRIGGER. -/
def execAdcInjTrigger (t : Tick) (ch : Ch) (n bits : Nat) (s : State) := s.live t ch (doAdcInjTrigger n bits)
/-- ADC_REG_TRIGGER. -/
def execAdcRegTrigger (t : Tick) (ch : Ch) (n src : Nat) (s : State) := s.live t ch (doAdcRegTrigger n src)
/-- CONV_REQ_INJ_SW. -/
def execConvReqInjSw (t : Tick) (ch : Ch) (n : Nat) (s : State) := s.live t ch (doConvReqInjSw n)
/-- CONV_REQ_REG_SW. -/
def execConvReqRegSw (t : Tick) (ch : Ch) (n : Nat) (s : State) := s.live t ch (doConvReqRegSw n)
/-- ADC_SCAN_TICK. -/
def execAdcScanTick (t : Tick) (ch : Ch) (s : State) := s.live t ch doAdcScanTick
/-- ADC_CONVERSION_END. -/
def execAdcConversionEnd (t : Tick) (ch : Ch) (n raw raw1 : Nat) (s : State) := s.live t ch (doAdcConversionEnd n raw raw1)
/-- ADC_STALL. -/
def execAdcStall (t : Tick) (ch : Ch) (s : State) := s.live t ch doAdcStall
/-- FIFO_DATA_READ. -/
def execFifoDataRead (t : Tick) (ch : Ch) (n : Nat) (s : State) := s.live t ch (doFifoDataRead n)
/-- FIFO_FLUSH. -/
def execFifoFlush (t : Tick) (ch : Ch) (n : Nat) (s : State) := s.live t ch (doFifoFlush n)

end Sys2Proof.Machine
end

