-- ==== Sys2Proof/Machine/DevOps.lean ====
section
/-! DEFINITION. Machine/DevOps.lean: the named operations over the device level: registers (offsets count from 0x1000_0000), sparse
tables, device time, records, fault sources. -/

namespace Sys2Proof.Machine

/-! ### Registers -/

/-- The word of a device register. -/
def Dev.rd (d : Dev) (a : Nat) : Nat := RegMap.get d.regs (devReset a) a
/-- The device with a register's word replaced. -/
def Dev.wr (d : Dev) (a v : Nat) : Dev := { d with regs := RegMap.set d.regs (devReset a) a v }
/-- The value of a field. -/
def Dev.g (d : Dev) (f : Fld) : Nat := bitsOf (d.rd f.reg) f.hi f.lo
/-- A field of one bit, as a Bool. -/
def Dev.b (d : Dev) (f : Fld) : Bool := d.g f == 1
/-- The device with a field replaced. -/
def Dev.p (d : Dev) (f : Fld) (v : Nat) : Dev := d.wr f.reg (putBits (d.rd f.reg) f.hi f.lo v)
/-- Bit `i` of a field. -/
def Dev.gb (d : Dev) (f : Fld) (i : Nat) : Bool := (d.g f).testBit i
/-- The device with bit `i` of a field replaced. -/
def Dev.pb (d : Dev) (f : Fld) (i : Nat) (v : Bool) : Dev := d.p f (setBit (d.g f) i v)
/-- The device with a counter field stepped, saturating at the field's maximum. -/
def Dev.satInc (d : Dev) (f : Fld) : Dev := d.p f (satAdd (2 ^ (f.hi + 1 - f.lo) - 1) (d.g f))
/-- The device with a counter field raised by `n`, saturating. -/
def Dev.satAdd (d : Dev) (f : Fld) (n : Nat) : Dev := d.p f (min (2 ^ (f.hi + 1 - f.lo) - 1) (d.g f + n))
/-- The device with a counter field stepped, wrapping. -/
def Dev.wrapInc (d : Dev) (f : Fld) : Dev := d.p f (d.g f + 1)
/-- A conditional change of the device. -/
def Dev.when (d : Dev) (q : Bool) (f : Dev → Dev) : Dev := if q then f d else d
/-- A change of the device repeated for the numbers `0 … n - 1` in ascending order. -/
def Dev.each (d : Dev) (n : Nat) (f : Dev → Nat → Dev) : Dev := (List.range n).foldl f d
/-- The next free value of the device. -/
def Dev.freeVal (d : Dev) : Nat := Config.freeNat (3 * d.free + 2)
/-- The device after it has taken `n` free values. -/
def Dev.took (d : Dev) (n : Nat) : Dev := { d with free := d.free + n }
/-- The registers whose offset satisfies a test; the others return to their reset words. -/
def Dev.keepRegs (d : Dev) (q : Nat → Bool) : Dev := { d with regs := d.regs.filter (fun e => q e.1) }

/-! ### Sparse tables -/

/-- The content of entry `k`, `x` where the table lists none. -/
def tabGet {α : Type} : Tab α → α → Nat → α
  | [], x, _ => x
  | (j, v) :: l, x, k => if j = k then v else tabGet l x k

/-- The table with entry `k` set, numbers rising. -/
def tabPut {α : Type} : Tab α → Nat → α → Tab α
  | [], k, v => [(k, v)]
  | (j, w) :: l, k, v => if k < j then (k, v) :: (j, w) :: l else if j = k then (k, v) :: l else (j, w) :: tabPut l k v

/-! ### The parts of the device -/

/-- The device with its power part changed. -/
def Dev.onPwr (d : Dev) (f : Pwr → Pwr) : Dev := { d with pwr := f d.pwr }
/-- The device with its BIST part changed. -/
def Dev.onBist (d : Dev) (f : Bist → Bist) : Dev := { d with bist := f d.bist }
/-- The device with its HOSTQ part changed. -/
def Dev.onHq (d : Dev) (f : Hostq → Hostq) : Dev := { d with hq := f d.hq }
/-- The device with its link changed. -/
def Dev.onLink (d : Dev) (f : Link → Link) : Dev := d.onHq (fun h => { h with link := f h.link })
/-- The device with what Colmo holds changed. -/
def Dev.onColmo (d : Dev) (f : Colmo → Colmo) : Dev := { d with colmo := f d.colmo }
/-- The device with its archive changed. -/
def Dev.onArch (d : Dev) (f : Arch → Arch) : Dev := { d with arch := f d.arch }
/-- The device with its OTP changed. -/
def Dev.onOtp (d : Dev) (f : Otp → Otp) : Dev := { d with otp := f d.otp }
/-- The device with its ISO 11783 part changed. -/
def Dev.onIso (d : Dev) (f : Iso → Iso) : Dev := { d with iso := f d.iso }

/-- The SMC pair is halted by debug (R314): firmware and watchdog stand still. -/
def Dev.halted (d : Dev) : Bool := d.b SMC_PAIR_STATUS_HALTED
/-- The device's blocks are powered and out of reset. -/
def Dev.alive (d : Dev) : Bool := d.pwr.phase == .run && d.pwr.smc != .down
/-- Colmo runs. -/
def Dev.up (d : Dev) : Bool := d.pwr.phase == .run && d.pwr.smc == .up && !d.halted

/-! ### Device time and records (R31, R37, R38, R490) -/

/-- Device time in ns: it never steps backwards. -/
def Dev.time (d : Dev) : Nat := max d.lastTime (((d.now / ticksPerNs : Nat) : Int) + d.off).toNat

/-- The next sequence number of a source. -/
def Dev.seqOf (d : Dev) (source : Nat) : Nat := nth d.seqs source

/-- A sequence number of a source taken. -/
def Dev.takeSeq (d : Dev) (source : Nat) : Dev := { d with seqs := bump d.seqs source (fun n => (n + 1) % 2 ^ 32), lastTime := d.time }

/-- A record of a device source stamped `t`. -/
def Dev.recordAt (d : Dev) (source t : Nat) (body : RecBody) : Dev :=
  { d.takeSeq source with recs := d.recs ++ [⟨source, ⟨d.seqOf source, t, false, body⟩⟩] }

/-- A record of a device source at the present instant. -/
def Dev.record (d : Dev) (source : Nat) (body : RecBody) : Dev := d.recordAt source d.time body

/-! ### Fault sources of the device blocks (R386, R450, R475, R497) -/

/-- A source of a device block: block number (base minus 0x1000_0000, over 0x1_0000) and bit. -/
structure DSrc where
  blk : Nat
  bit : Nat
  deriving DecidableEq, Repr

def VIN_WARN_SRC : DSrc := ⟨0, 0⟩
def SMC_WDOG_SRC : DSrc := ⟨0, 1⟩
def XTAL_LOSS_SRC : DSrc := ⟨0, 2⟩
def SMC_PAIR_SRC : DSrc := ⟨0, 3⟩
def LINK_AUDIT_FAIL : DSrc := ⟨2, 0⟩
def AUTH_FAIL : DSrc := ⟨2, 1⟩
def LINK_DOWN_SRC : DSrc := ⟨3, 0⟩
def FRAME_CRC : DSrc := ⟨3, 1⟩
def ERR_PASSIVE (k : Nat) : DSrc := ⟨4 + k, 0⟩
def BUS_OFF (k : Nat) : DSrc := ⟨4 + k, 1⟩
def LONE_NODE (k : Nat) : DSrc := ⟨4 + k, 2⟩
def E2E_FAIL (k : Nat) : DSrc := ⟨4 + k, 3⟩
def ECC_CORR : DSrc := ⟨6, 0⟩
def BAD_BLOCK : DSrc := ⟨6, 1⟩
def ECC_UNCORR : DSrc := ⟨6, 2⟩
def SIG_FAIL : DSrc := ⟨7, 0⟩

/-- The SRC_STATUS register of a block. -/
def DSrc.reg (s : DSrc) : Nat :=
  match s.blk with
  | 0 => SYS_SRC_STATUS
  | 2 => HQ_SRC_STATUS
  | 3 => ETH_SRC_STATUS
  | 4 => CAN_SRC_STATUS 0
  | 5 => CAN_SRC_STATUS 1
  | 6 => ARC_SRC_STATUS
  | _ => SEC_SRC_STATUS

/-- The severity register of a block. -/
def DSrc.sevReg (s : DSrc) : Nat :=
  match s.blk with
  | 0 => SYS_SEV
  | 2 => HQ_SEV
  | 3 => ETH_SEV
  | 4 => CAN_SEV 0
  | 5 => CAN_SEV 1
  | 6 => ARC_SEV
  | _ => SEC_SEV

/-- The event source that stamps a fault source (R37): VIN_WARN takes the number of its sag-log entry (R482). -/
def DSrc.source (s : DSrc) : Nat :=
  if s = VIN_WARN_SRC then 7
  else match s.blk with
    | 4 => 3
    | 5 => 4
    | 6 => 5
    | 7 => 6
    | _ => 0

/-- A source's severity. -/
def Dev.sevOf (d : Dev) (s : DSrc) : Nat := bitsOf (d.rd s.sevReg) (3 * s.bit + 2) (3 * s.bit)

/-- Whether a source is active. -/
def Dev.srcActive (d : Dev) (s : DSrc) : Bool := (d.rd s.reg).testBit (16 + s.bit)

/-- The EVT record of a device source (R417): a block without first-fault capture. -/
def Dev.srcEvt (d : Dev) (type : Nat) (s : DSrc) : Dev := d.record s.source (.evt type (0x80 + s.blk) s.bit (d.sevOf s) 0 0)

/-- A source becomes active. -/
def Dev.raise (d : Dev) (s : DSrc) : Dev :=
  if d.srcActive s then d else (d.wr s.reg (setBit (setBit (d.rd s.reg) (16 + s.bit) true) s.bit true)).srcEvt 0 s

/-- A source becomes inactive. -/
def Dev.clear (d : Dev) (s : DSrc) : Dev :=
  if d.srcActive s then (d.wr s.reg (setBit (d.rd s.reg) (16 + s.bit) false)).srcEvt 1 s else d

/-- A source active for one cycle: its LATCHED bit records it. -/
def Dev.pulse (d : Dev) (s : DSrc) : Dev := (d.raise s).clear s

/-- A source set active or inactive with its condition. -/
def Dev.follow (d : Dev) (s : DSrc) (q : Bool) : Dev := if q then d.raise s else d.clear s

/-- Whether at least `d` ticks have passed since `t`. -/
def Dev.since (x : Dev) (t d : Tick) : Bool := Nat.ble (t + d) x.now

/-- Whether a block's SRC interrupt bit reads 1: a latched source at S1. -/
def Dev.srcIrq (d : Dev) (blk n : Nat) : Bool :=
  (List.range n).any (fun b => (d.rd (DSrc.reg ⟨blk, b⟩)).testBit b && Nat.ble 1 (d.sevOf ⟨blk, b⟩))

/-- A device block's SRC interrupt bit: the IRQ_STATUS register, the block, its sources. -/
def devIrq (a : Nat) : Option (Nat × Nat × Fld) :=
  if a = SYS_IRQ_STATUS then some (0, 4, SYS_IRQ_STATUS_SRC)
  else if a = HQ_IRQ_STATUS then some (2, 2, HQ_IRQ_STATUS_SRC)
  else if a = ETH_IRQ_STATUS then some (3, 2, ETH_IRQ_STATUS_SRC)
  else if a = CAN_IRQ_STATUS 0 then some (4, 4, CAN_IRQ_STATUS_SRC 0)
  else if a = CAN_IRQ_STATUS 1 then some (5, 4, CAN_IRQ_STATUS_SRC 1)
  else if a = ARC_IRQ_STATUS then some (6, 3, ARC_IRQ_STATUS_SRC)
  else if a = SEC_IRQ_STATUS then some (7, 1, SEC_IRQ_STATUS_SRC)
  else none

/-- The word that an IRQ_STATUS register of the device reads as. -/
def Dev.irqWord (d : Dev) (a : Nat) : Nat :=
  match devIrq a with
  | none => d.rd a
  | some (blk, n, f) => putBits (d.rd a) f.hi f.lo (b2n (d.srcIrq blk n))

end Sys2Proof.Machine
end

