-- ==== Sys2Proof/Machine/Counters.lean ====
section
/-! DEFINITION. Machine/Counters.lean: the lifetime counters (R462). They are kept in the finest unit that the model counts: times in
ticks, energies in joules, chopper activations one by one; what COUNTERS_READ returns is scaled as the table says. -/

namespace Sys2Proof.Machine

/-- The ticks in RUN since the counts were taken up. -/
def Life.runTicks (l : Life) (now : Tick) : Tick :=
  l.run + (match l.runFrom with
    | none => 0
    | some r => now - r)

/-- What has been counted since Colmo last took the counts up, in the order of R462. -/
def Mach.counted (m : Mach) : List Nat :=
  let a := m.a.life
  let b := m.b.life
  [0, m.now - m.dev.baseAt, a.runTicks m.now, b.runTicks m.now, a.fault, b.fault, a.asc, b.asc, a.s4, b.s4,
   a.dchg.floor.toNat, b.dchg.floor.toNat, a.chop, b.chop] ++ a.cont ++ b.cont ++ a.cyc.map Cycle.n ++ b.cyc.map Cycle.n ++ [0, 0]

/-- The counters as they stand. -/
def Mach.counters (m : Mach) : List Nat := (List.zipWith (· + ·) m.dev.base m.counted).set 69 m.dev.arch.runBad

/-- The counts of a channel start again. -/
def Life.restart (l : Life) (now : Tick) : Life :=
  { dchg := l.dchg - l.dchg.floor
    runFrom := l.runFrom.map (fun _ => now)
    cyc := l.cyc.map (fun x => { x with n := 0 }) }

/-- Colmo takes the counts up. -/
def Mach.takeUp (m : Mach) : Mach :=
  let l := m.counters
  { m with
    dev := { m.dev with base := l, baseAt := m.now }
    a := { m.a with life := m.a.life.restart m.now }
    b := { m.b with life := m.b.life.restart m.now } }

/-- The counters written to the archive. -/
def Mach.writeCounters (m : Mach) : Mach :=
  let m1 := m.takeUp
  m1.onDev (fun d => d.onArch (fun a => { a with counters := d.base }))

/-- The ticks of an hour. -/
def hour : Tick := ms 3600000

/-- A counter as COUNTERS_READ returns it: whole hours, kJ and thousands. -/
def scaled (i n : Nat) : Nat :=
  min (2 ^ 32 - 1) (if i = 1 ∨ i = 2 ∨ i = 3 then n / hour else if 10 ≤ i ∧ i ≤ 13 then n / 1000 else n)

/-- The counters in table order. -/
def Mach.counterWords (m : Mach) : List Nat := (List.range 70).map (fun i => scaled i (nth m.counters i))

end Sys2Proof.Machine
end

