-- ==== Sys2Proof/Machine/Crc.lean ====
section
/-! DEFINITION. Machine/Crc.lean: the check values of R320 and R321, used wherever the manual names one by its polynomial. -/

namespace Sys2Proof.Machine

/-- A parameter set of R320: the polynomial, its width, the initial value, whether bytes are taken least significant bit first, the
final XOR. -/
structure Poly where
  poly : Nat
  width : Nat
  init : Nat
  refl : Bool
  fin : Nat
  deriving DecidableEq, Repr

/-- CRC-8. -/
def crc8 : Poly := ⟨0x1D, 8, 0xFF, false, 0xFF⟩
/-- CRC-16-CCITT. -/
def crc16 : Poly := ⟨0x1021, 16, 0xFFFF, false, 0⟩
/-- CRC-32. -/
def crc32 : Poly := ⟨0x04C11DB7, 32, 0xFFFFFFFF, true, 0xFFFFFFFF⟩
/-- CRC-32C. -/
def crc32c : Poly := ⟨0x1EDC6F41, 32, 0xFFFFFFFF, true, 0xFFFFFFFF⟩

/-- The parameter set that CVU_CTL.POLY selects. -/
def polyOf (n : Nat) : Poly :=
  match n with
  | 0 => crc8
  | 1 => crc16
  | 2 => crc32
  | _ => crc32c

/-- The `n` low bits of a number in reverse order. -/
def revBits : Nat → Nat → Nat
  | 0, _ => 0
  | n + 1, v => v % 2 * 2 ^ n + revBits n (v / 2)

/-- One bit shifted through a register that is not reflected. -/
def Poly.shiftUp (p : Poly) (r : Nat) : Nat :=
  if r.testBit (p.width - 1) then (2 * r % 2 ^ p.width) ^^^ p.poly else 2 * r % 2 ^ p.width

/-- One bit shifted through a reflected register. -/
def Poly.shiftDown (p : Poly) (r : Nat) : Nat :=
  if r.testBit 0 then (r / 2) ^^^ revBits p.width p.poly else r / 2

/-- A byte fed into the running register (R321). -/
def Poly.byte (p : Poly) (r b : Nat) : Nat :=
  if p.refl then (List.range 8).foldl (fun x _ => p.shiftDown x) (r ^^^ b % 256)
  else (List.range 8).foldl (fun x _ => p.shiftUp x) (r ^^^ (b % 256 * 2 ^ (p.width - 8)))

/-- Bytes fed in their order. -/
def Poly.feed (p : Poly) (r : Nat) (bs : List Nat) : Nat := bs.foldl p.byte r

/-- The check value of a string of bytes. -/
def Poly.of (p : Poly) (bs : List Nat) : Nat := p.feed p.init bs ^^^ p.fin

/-- The `n` bytes of a number, least significant first. -/
def leBytes : Nat → Nat → List Nat
  | 0, _ => []
  | n + 1, v => v % 256 :: leBytes n (v / 256)

/-- The number whose bytes, least significant first, are given. -/
def ofLe : List Nat → Nat
  | [] => 0
  | b :: bs => b % 256 + 256 * ofLe bs

/-- The bytes of words, each least significant byte first. -/
def wordBytes (ws : List Nat) : List Nat := ws.flatMap (leBytes 4)

/-! ### Check-value units (R320 to R324); the same layout in CORE and in the SMC block -/

/-- The bytes that CVU_CTL.WIDTH feeds. -/
def cvuBytes (ctl : Nat) : Nat :=
  match ctl / 16 % 4 with
  | 0 => 1
  | 1 => 2
  | _ => 4

/-- The running register as it reads: in the polynomial's width (R321). -/
def cvuRead (ctl val : Nat) : Nat := val % 2 ^ (polyOf (ctl % 4)).width

/-- The register with its low bits replaced; the bits above the width keep what they hold (R321, R322). -/
def cvuPut (ctl val v : Nat) : Nat :=
  let m := 2 ^ (polyOf (ctl % 4)).width
  val - val % m + v % m

/-- The register after a write of CVU_DATA (R321). -/
def cvuFeed (ctl val data : Nat) : Nat :=
  cvuPut ctl val ((polyOf (ctl % 4)).feed (cvuRead ctl val) (leBytes (cvuBytes ctl) data))

/-- The finished value (R321). -/
def cvuRes (ctl val : Nat) : Nat := cvuRead ctl val ^^^ (polyOf (ctl % 4)).fin

/-- Whether the finished value equals the expected one in the polynomial's width (R323). -/
def cvuMatch (ctl val exp : Nat) : Bool := cvuRes ctl val == cvuRead ctl exp

end Sys2Proof.Machine
end

