-- ==== Sys2Proof/Machine/HostBase.lean ====
section
/-! DEFINITION. Machine/HostBase.lean: the parts of the host link that its commands share: Zadom frames as bytes (R359), flows, queues,
credits (R363 to R371), answers (R393), notifications (R382, R383), the start of an audit or an epoch raise (R375, R378). -/

namespace Sys2Proof.Machine

/-! ### Bytes, most significant first (R359, R389) -/

/-- The number whose bytes, most significant first, are given. -/
def ofBe (bs : List Nat) : Nat := bs.foldl (fun a b => 256 * a + b % 256) 0
/-- The `n` bytes of a number, most significant first. -/
def beBytes (n v : Nat) : List Nat := (leBytes n v).reverse
/-- `n` elements from position `i`. -/
def part (l : List Nat) (i n : Nat) : List Nat := (l.drop i).take n
/-- The number in `n` bytes at position `i`. -/
def be (l : List Nat) (i n : Nat) : Nat := ofBe (part l i n)

/-! ### The Zadom frame (R359) -/

/-- KIND values. -/
def K_CMD : Nat := 0
/-- RSP. -/
def K_RSP : Nat := 1
/-- TLM. -/
def K_TLM : Nat := 2
/-- EVT. -/
def K_EVT : Nat := 3
/-- NTF. -/
def K_NTF : Nat := 4
/-- CRD. -/
def K_CRD : Nat := 5
/-- ARC. -/
def K_ARC : Nat := 6
/-- SYNC. -/
def K_SYNC : Nat := 7

/-- The frame whose header, payload and AUTH stand in the bytes of a UDP payload. -/
def zadomOf (b : List Nat) : Zadom :=
  { kind := nth b 0 % 16
    flags := nth b 1
    dev := nth b 2 % 64
    source := nth b 3 / 16
    epoch := nth b 3 % 16
    flow := nth b 4
    queue := nth b 5 % 64
    tag := nth b 6 % 64
    credit := nth b 7
    seq := be b 8 4
    time := be b 12 8
    bundle := be b 22 2
    auth := be b 24 8
    payload := part b 32 (be b 20 2) }

/-- Bytes 0 to 23 of a frame. -/
def Zadom.head (z : Zadom) : List Nat :=
  [16 + z.kind, z.flags, z.dev, 16 * z.source + z.epoch, z.flow, z.queue, z.tag, z.credit] ++ beBytes 4 z.seq ++ beBytes 8 z.time
    ++ beBytes 2 z.payload.length ++ beBytes 2 z.bundle

/-- The frame as bytes: header, AUTH, payload, CRC-32C. -/
def Zadom.bytes (z : Zadom) : List Nat :=
  let b := z.head ++ beBytes 8 z.auth ++ z.payload
  b ++ beBytes 4 (crc32c.of b)

/-- Step 3 of R362: VERSION, KIND, LENGTH against the UDP length, CRC-32C. -/
def zadomOk (b : List Nat) (v6 : Bool) : Bool :=
  let n := be b 20 2
  nth b 0 / 16 == 1 && Nat.blt (nth b 0 % 16) 8 && b.length == n + 36 && Nat.ble n (if v6 then 1416 else 1436)
    && crc32c.of (b.take (32 + n)) == be b (32 + n) 4

/-! ### Flows and queues (R363, R365, R367) -/

/-- A flow context at reset: F0, F1, F2 are open (R365). -/
def flowReset (f : Nat) : Flow :=
  match f with
  | 0 => { opened := true, reliable := true, pairEn := true, pair := 1, queue := 0, init := 16, cntA := 16 }
  | 1 => { opened := true, out := true, reliable := true, pairEn := true, pair := 0, queue := 8, init := 16, cntA := 16 }
  | 2 => { opened := true, out := true, reliable := true, queue := 48, init := 8, cntA := 8 }
  | _ => {}

/-- A queue at reset: RSV and PCP by class (R363, R387). -/
def queueReset (q : Nat) : Queue :=
  { rsv := if q = 0 ∨ q = 8 then 16 else if q = 48 then 8 else 0
    pcp := if q < 8 then 0 else if q < 16 then 6 else if q < 48 then 4 else if q < 56 then 5 else 1 }

/-- Flow `f`. -/
def Dev.flow (d : Dev) (f : Nat) : Flow := tabGet d.hq.flows (flowReset f) f
/-- The device with flow `f` changed. -/
def Dev.onFlow (d : Dev) (f : Nat) (g : Flow → Flow) : Dev := d.onHq (fun h => { h with flows := tabPut h.flows f (g (d.flow f)) })
/-- Queue `q`. -/
def Dev.queue (d : Dev) (q : Nat) : Queue := tabGet d.hq.queues (queueReset q) q
/-- The device with queue `q` changed. -/
def Dev.onQueue (d : Dev) (q : Nat) (g : Queue → Queue) : Dev := d.onHq (fun h => { h with queues := tabPut h.queues q (g (d.queue q)) })

/-- The rank of a queue at egress (R363); 0 for a queue of class IN. -/
def rankOf (q : Nat) : Nat := if q < 8 then 0 else if q < 16 then 2 else if q < 48 then 4 else if q < 56 then 3 else 5

/-- A frame of queue `q` finds a buffer among the 1,024 (R365): one reserved to the queue, or one that no queue has reserved. -/
def Dev.room (d : Dev) (q : Nat) : Bool :=
  let x := d.queue q
  let rsv := (List.range 64).foldl (fun n k => n + (d.queue k).rsv) 0
  let used := (List.range 64).foldl (fun n k => n + ((d.queue k).level - (d.queue k).rsv)) 0
  Nat.blt x.level x.rsv || Nat.blt used (1024 - rsv)

/-- A tag is free again (R366). -/
def Dev.freeTag (d : Dev) (tag : Nat) : Dev := d.onHq (fun h => { h with busy := h.busy.filter (fun t => t != tag) })

/-- A frame that cannot be sent: the operation that it ends is over all the same. -/
def Dev.unsent (d : Dev) (ends : Bool) (tag : Nat) (after : After) : Dev :=
  (d.when ends (fun e => e.freeTag tag)).onHq (fun h => { h with due := if after = .none then h.due else h.due ++ [after] })

/-- A queue that holds one frame more; its vector has cause to fire when LEVEL reaches THRESH (R382). -/
def Queue.more (q : Queue) : Queue := { q with level := q.level + 1, ev := q.ev || (q.thresh != 0 && q.level + 1 == q.thresh) }

/-- A frame on an IN queue has been discarded (R382). -/
def Dev.discarded (d : Dev) (q : Nat) : Dev := if rankOf q = 0 ∨ rankOf q = 5 then d.onQueue q (fun x => { x with ev := true }) else d

/-- A frame enters the queue of its flow, or is dropped and counted (Q_STAT.DROPS) where no buffer is free. -/
def Dev.enqueue (d : Dev) (f : OutFrame) : Dev :=
  let x := d.flow f.flow
  if !x.opened || !x.out then d.unsent f.ends f.tag f.after
  else if d.room x.queue then d.onQueue x.queue (fun q => { q.more with frames := q.frames ++ [f] })
  else (d.onQueue x.queue (fun q => { q with drops := Sys2Proof.satAdd 65535 q.drops, ev := true })).unsent f.ends f.tag f.after

/-- A frame of the SMC (source 0) with the next sequence number and the present time. -/
def Dev.send (d : Dev) (kind flow tag : Nat) (payload : List Nat) (ends : Bool) (after : After) : Dev :=
  (d.takeSeq 0).enqueue ⟨kind, flow, 0, tag, d.seqOf 0, d.time, false, payload, ends, after, false⟩

/-- The frames of an IN flow are freed: their credits return (R368). -/
def Dev.freeFrames (d : Dev) (f n : Nat) : Dev :=
  let x := d.flow f
  (d.onQueue x.queue (fun q => { q with level := q.level - n })).onFlow f (fun y => { y with
    cntA := (y.cntA + n) % 2 ^ 32
    returns := y.returns + n
    changed := true })

/-! ### Answers (R393) -/

/-- Bytes padded with zeros to a multiple of 4. -/
def pad4 (l : List Nat) : List Nat := l ++ List.replicate ((4 - l.length % 4) % 4) 0

/-- The payload of an RSP (R393). -/
def rspPayload (status idx count arrival : Nat) (data : List Nat) : List Nat :=
  beBytes 2 status ++ [idx, count] ++ beBytes 8 arrival ++ beBytes 2 data.length ++ [0, 0] ++ data

/-- The RSP of a bundle, on the flow paired with the command flow (R393). -/
def Dev.respond (d : Dev) (r : Req) (status idx count : Nat) (data : List Nat) (ends : Bool) (after : After) : Dev :=
  let x := d.flow r.flow
  if r.flow = 256 then d.unsent false 0 after
  else if x.pairEn then d.send K_RSP x.pair r.tag (rspPayload status idx count r.arrival data) ends after
  else d.unsent ends r.tag after

/-- A bundle refused with a status at a record. -/
def Dev.refuse (d : Dev) (r : Req) (status idx count : Nat) (data : List Nat) : Dev := d.respond r status idx count data true .none

/-- What an answer needs of a bundle. -/
def Bundle.req (b : Bundle) : Req := ⟨b.flow, b.tag, b.seq0, b.bundle, b.arrival, b.host, b.port⟩

/-- A bundle under assembly discarded (R374): its frames are freed, it counts once, and Colmo answers where `rsp`. -/
def Dev.dropBundle (d : Dev) (f extra : Nat) (rsp : Bool) : Dev :=
  match (d.flow f).bundle with
  | none => d
  | some b =>
    let d1 := ((d.onFlow f (fun x => { x with bundle := none })).freeFrames f (b.frags.length + extra)).satInc HQ_DISC3_BUNDLE |>.discarded (d.flow f).queue
    if rsp && d1.up then d1.respond b.req 0x0D 0 0 [] false .none else d1

/-! ### Notifications (R382 to R384) -/

/-- Whether vector `v` is pending. -/
def Dev.pend (d : Dev) (v : Nat) : Bool := (d.rd (NTF_PEND0 + 4 * (v / 32))).testBit (v % 32)
/-- Vector `v` set pending or not. -/
def Dev.setPend (d : Dev) (v : Nat) (b : Bool) : Dev := d.wr (NTF_PEND0 + 4 * (v / 32)) (setBit (d.rd (NTF_PEND0 + 4 * (v / 32))) (v % 32) b)
/-- Whether vector `v` is enabled. -/
def Dev.ntfEn (d : Dev) (v : Nat) : Bool := (d.rd (NTF_EN0 + 4 * (v / 32))).testBit (v % 32)
/-- The route of vector `v`. -/
def Dev.route (d : Dev) (v : Nat) : Route := tabGet d.hq.routes {} v

/-- The NTF payload of a vector (R383): its number, then the pending bits of all 72. -/
def Dev.ntfPayload (d : Dev) (v : Nat) : List Nat :=
  v :: (leBytes 4 (d.rd NTF_PEND0) ++ leBytes 4 (d.rd NTF_PEND1) ++ [d.rd NTF_PEND2 % 256])

/-- The NTF of a vector sent; its holdoff begins. -/
def Dev.ntfSend (d : Dev) (v : Nat) : Dev :=
  (d.send K_NTF (d.route v).flow 0 (d.ntfPayload v) false .none).onHq (fun h => { h with off := (v, d.now) :: h.off, wait := h.wait.filter (fun k => k != v) })

/-- A vector fires (R383): pending, and its NTF sent unless it was pending already or its holdoff runs. -/
def Dev.fire (d : Dev) (v : Nat) : Dev :=
  if 71 < v then d
  else
    let d1 := d.setPend v true
    if d.pend v ∨ !d.ntfEn v ∨ !(d.route v).msg then d1
    else if d.hq.off.any (fun e => e.1 == v) then d1.onHq (fun h => { h with wait := v :: h.wait })
    else d1.ntfSend v

/-- The enabled bits that an IRQ_STATUS register shows, taken as those on which the vector of function `s` has fired; whether one of them is
new (R382). -/
def Dev.irqSee (d : Dev) (s a w en : Nat) : Dev × Bool :=
  let k := s * 2 ^ 20 + a
  let old := RegMap.get d.hq.seen 0 k
  (d.onHq (fun h => { h with seen := RegMap.set h.seen 0 k (w &&& en) }), (w &&& en) != ((w &&& en) &&& old))

/-- The IRQ_STATUS and IRQ_EN registers of the device function `s`: SYS, HOSTQ, ETH and the SMC block, the CAN controllers, ARC, SEC, AON. -/
def funcIrqs (s : Nat) : List (Nat × Nat) :=
  match s with
  | 0 => [(SYS_IRQ_STATUS, SYS_IRQ_EN), (HQ_IRQ_STATUS, HQ_IRQ_EN), (ETH_IRQ_STATUS, ETH_IRQ_EN), (SMC_CVU_IRQ_STATUS, SMC_CVU_IRQ_EN)]
  | 3 => [(CAN_IRQ_STATUS 0, CAN_IRQ_EN 0)]
  | 4 => [(CAN_IRQ_STATUS 1, CAN_IRQ_EN 1)]
  | 5 => [(ARC_IRQ_STATUS, ARC_IRQ_EN)]
  | 6 => [(SEC_IRQ_STATUS, SEC_IRQ_EN)]
  | 7 => [(AON_IRQ_STATUS, AON_IRQ_EN)]
  | _ => []

/-- The function's enabled interrupt bits taken; whether one has become set. -/
def Dev.funcSee (d : Dev) (s : Nat) : Dev × Bool :=
  (funcIrqs s).foldl (fun x p => let y := x.1.irqSee s p.1 (x.1.irqWord p.1) (x.1.rd p.2); (y.1, x.2 || y.2)) (d, false)

/-- Vector 71 fires on AON_IRQ_STATUS.SAG (R482). -/
def Dev.fireSag (d : Dev) : Dev := ((d.funcSee 7).1).fire 71

/-- nIRQk is driven low (R384): a vector routed to it is pending and enabled. -/
def Dev.irqLow (d : Dev) (k : Nat) : Bool :=
  (List.range 72).any (fun v => (d.route v).pinEn && (d.route v).pin == k && d.pend v && d.ntfEn v)

/-! ### Audits and raises (R375, R376, R378) -/

/-- Data frames and CRD frames are stopped: an audit runs, or a raise waits for its acknowledgement. -/
def Dev.stopped (d : Dev) : Bool := d.hq.link.audit.isSome || d.hq.link.epochWait

/-- A raise is asked for. -/
def Dev.askRaise (d : Dev) : Dev := (d.onLink (fun l => { l with raiseDue := true })).p HQ_AUDIT_BUSY 1

/-- An audit begins with its drain, unless an audit or a raise is under way. -/
def Dev.startAudit (d : Dev) (initiator : Bool) : Dev :=
  if d.hq.link.audit.isSome ∨ d.hq.link.epochWait ∨ d.hq.link.raiseDue then d
  else (d.onLink (fun l => { l with audit := some ⟨initiator, false, 0, d.now⟩ })).p HQ_AUDIT_BUSY 1

/-- A link fault: an audit in SINGLE mode, a raise in EXTENDED mode. -/
def Dev.linkFault (d : Dev) : Dev := if d.b HQ_CTL_MODE then d.askRaise else d.startAudit true

/-- An audit that fails (R43, R376): LINK_AUDIT_FAIL, and a raise. -/
def Dev.auditFail (d : Dev) : Dev := ((d.onLink (fun l => { l with audit := none })).pulse LINK_AUDIT_FAIL).askRaise

/-- The entry of a flow with its present counters (R369). -/
def Dev.entryOf (d : Dev) (f : Nat) : CrdEntry :=
  let x := d.flow f
  ⟨f, b2n x.out, x.cntA, x.cntB⟩

/-- The open flows. -/
def Dev.openFlows (d : Dev) : List Nat := (List.range 256).filter (fun f => (d.flow f).opened)

/-- Entries as bytes. -/
def crdBytes (l : List CrdEntry) : List Nat := l.flatMap (fun e => [e.flow, e.role, 0, 0] ++ beBytes 4 e.cntA ++ beBytes 4 e.cntB)

/-- The `n` entries that stand in bytes. -/
def crdOf : Nat → List Nat → List CrdEntry
  | 0, _ => []
  | n + 1, b => ⟨nth b 0, nth b 1, be b 4 4, be b 8 4⟩ :: crdOf n (b.drop 12)

/-- A list cut into pieces of at most 117; `n` bounds their number. -/
def pieces : Nat → List CrdEntry → List (List CrdEntry)
  | 0, _ => []
  | n + 1, l => if l.length ≤ 117 then [l] else l.take 117 :: pieces n (l.drop 117)

/-- A CRD or SYNC frame put beside the queues (R359, R360): FLOW 0, QUEUE 0, source 0. -/
def Dev.sendCtl (d : Dev) (kind : Nat) (payload : List Nat) : Dev :=
  let z : Zadom := ⟨kind, 0, 0, 0, 0, 0, 0, 0, 0, d.seqOf 0, d.time, 0, 0, payload⟩
  (d.takeSeq 0).onHq (fun h => { h with ctl := h.ctl ++ [z] })

/-- A SYNC list of a subtype, split into parts; `pre` stands before the entries of each part. -/
def Dev.sendSync (d : Dev) (sub : Nat) (pre : List Nat) (l : List CrdEntry) : Dev :=
  let ps := pieces 3 l
  (List.range ps.length).foldl (fun e i => e.sendCtl K_SYNC ([sub, i, ps.length, 0] ++ pre ++ crdBytes (ps.getD i []))) d

/-- A CRD with entries, split where they pass 117 (R369). -/
def Dev.sendCrd (d : Dev) (l : List CrdEntry) : Dev :=
  (pieces 3 l).foldl (fun e p => e.sendCtl K_CRD (beBytes 2 p.length ++ [0, 0] ++ crdBytes p)) d

/-- EPOCH_NEW (R378): the epoch and the start entries of every open flow. -/
def Dev.sendEpochNew (d : Dev) : Dev :=
  d.sendSync 4 [d.g HQ_SESSION_EPOCH, 0, 0, 0] (d.openFlows.map (fun f => ⟨f, b2n (d.flow f).out, (d.flow f).init, 0⟩))

end Sys2Proof.Machine
end

