-- ==== Sys2Proof/Machine/Archive.lean ====
section
/-! DEFINITION. Machine/Archive.lean: the archive's operations, its bad blocks, the snapshot ring, the counters' writes (R36, R453 to R456,
R460 to R462, R476). -/

namespace Sys2Proof.Machine

/-! ### Page operations (R454, R455, R476) -/

/-- ARC_OP_GO: GO reads 1 until the operation is done. -/
def doArcOpGo (d : Dev) : Dev := if d.alive then d.p ARC_OP_GO 1 else d

/-- ARC_OP_STATUS.RESULT of an operation: the device answers, every sector decodes, the page's CRC matches, the most bits corrected in a
sector, a program or an erase failed. -/
def arcResult (code : Nat) (present decodes crcOk : Bool) (bits : Nat) (fail : Bool) : Nat :=
  if !present then 5
  else match code with
    | 0 => if !decodes then 2 else if !crcOk then 3 else if bits = 0 then 0 else 1
    | 3 => 0
    | _ => if fail then 4 else 0

/-- A block retired at run time (R455, R456): counted; a block of the ring retires its slot, one of a fixed partition takes a spare. -/
def Dev.retire (d : Dev) (part slot : Nat) : Dev :=
  d.onArch (fun a => { a with
    runBad := a.runBad + 1
    retired := if part = 8 ∧ !a.retired.contains slot then slot :: a.retired else a.retired
    used := if part < 8 then bump a.used part (fun n => n + 1) else a.used })

/-- The spares of the fixed partitions 0 to 7 (R457). -/
def partSpares (part : Nat) : Nat := nth [8, 8, 4, 4, 4, 2, 4, 2] part

/-- A fixed partition without a free spare refuses further writes (R456). -/
def Arch.full (a : Arch) (part : Nat) : Bool := Nat.blt (partSpares part) (nth a.used part)

/-- A page read (R455): corrected bits counted and the block copied where they reach REFRESH_LVL; a failed read counted. -/
def Dev.pageRead (d : Dev) (r bits part slot : Nat) : Dev :=
  let d1 := d.p ARC_ECC_MAXBITS (min 15 bits)
  if r = 1 then ((d1.satInc ARC_ECC_CORR).pulse ECC_CORR).when (Nat.ble (d.g ARC_CFG_REFRESH_LVL) bits) (fun e => e.retire part slot)
  else if r = 2 ∨ r = 3 then (d1.satInc ARC_ECC_UNCORR).pulse ECC_UNCORR
  else d1

/-- ARC_OP_DONE: the operation that GO started has ended on a block of partition `part` (8: the ring's slot `slot`). -/
def doArcOpDone (present decodes crcOk : Bool) (bits : Nat) (fail : Bool) (part slot : Nat) (d : Dev) : Dev :=
  if !d.alive ∨ !d.b ARC_OP_GO then d
  else
    let code := d.g ARC_OP_CODE
    let r := arcResult code present decodes crcOk bits fail
    let d1 := ((d.p ARC_OP_GO 0).p ARC_OP_STATUS_RESULT r).p ARC_IRQ_STATUS_OP_DONE 1
    if code = 0 ∧ present then d1.pageRead r bits part slot
    else if r = 4 then (d1.retire part slot).pulse BAD_BLOCK
    else d1

/-! ### The snapshot ring (R36, R460, R461) -/

/-- The post-trigger portion has ended: the rings freeze. -/
def Chan.ringFreeze (c : Chan) : Chan :=
  match c.ring.phase with
  | .post => { c with ring := { c.ring with phase := .frozen } }
  | _ => c

/-- The rings run again, under the configuration that was to take effect then (R418). -/
def Chan.ringRelease (c : Chan) : Chan := { c with ring := { cfg := c.ring.next, next := c.ring.next } }

/-- A frozen ring. -/
def Chan.frozen (c : Chan) : Bool :=
  match c.ring.phase with
  | .frozen => true
  | _ => false

/-- Colmo begins to write a frozen snapshot unless it writes another. -/
def Mach.beginWrite (m : Mach) (ch : Ch) : Mach :=
  if m.dev.up && m.dev.arch.writing.isNone && (m.chan ch).frozen then m.onDev (fun d => d.onArch (fun a => { a with writing := some ch })) else m

/-- SNAPSHOT_FREEZE. -/
def doSnapshotFreeze (ch : Ch) (m : Mach) : Mach := (m.onChan ch (live Chan.ringFreeze)).beginWrite ch

/-- The INDEX of the next entry: a retired slot is passed over. -/
def Arch.snapIndex (a : Arch) : Option Nat :=
  if a.ringSlots = 0 then none
  else ((List.range a.ringSlots).map (fun i => (a.nextIndex + i) % 2 ^ 32)).find? (fun i => !a.retired.contains (i % a.ringSlots))

/-- The entry of a channel's frozen rings. -/
def Chan.snapEntry (c : Chan) (index : Nat) : Snap :=
  { index := index
    ch := c.id
    manual := c.ring.manual
    hold := c.ring.hold
    period := c.g DTC_PERIOD_COUNT
    trigTime := c.ring.trigTime
    cause := c.ring.cause
    causeSeq := c.ring.causeSeq
    cfg := c.ring.cfg
    samples := c.ring.samples.reverse }

/-- The ring with an entry put into its slot. -/
def Arch.putSnap (a : Arch) (x : Snap) : Arch :=
  { a with
    snaps := a.snaps.filter (fun y => y.index % a.ringSlots != x.index % a.ringSlots) ++ [x]
    nextIndex := (x.index + 1) % 2 ^ 32
    writing := none }

/-- SNAPSHOT_WRITE_END: the snapshot of a channel stands in the ring, EVT type 8; the rings are released; the other channel's snapshot
follows. -/
def doSnapshotWriteEnd (ch : Ch) (m : Mach) : Mach :=
  let c := m.chan ch
  match (if m.dev.up && m.dev.arch.writing == some ch && c.frozen then m.dev.arch.snapIndex else none) with
  | none => m
  | some i =>
    let m1 := m.onDev (fun d => (d.onArch (fun a => a.putSnap (c.snapEntry i))).record 5 (.evt 8 0x86 0 0 i (ch.source * 2 ^ 24)))
    (m1.onChan ch Chan.ringRelease).beginWrite ch.other

/-- COUNTER_WRITE_TIMER (R462, R474): 10 minutes after the last write; during the undercoat the write waits for its record. -/
def doCounterWriteTimer (m : Mach) : Mach :=
  if m.dev.up && m.dev.bist.mode != .undercoat && !m.dev.arch.full 6 && m.dev.since m.dev.baseAt (ms 600000) then m.writeCounters else m

/-- ARC_OP_GO. -/
def execArcOpGo (t : Tick) (s : State) := s.onDev t doArcOpGo
/-- ARC_OP_DONE. -/
def execArcOpDone (t : Tick) (present decodes crcOk : Bool) (bits : Nat) (fail : Bool) (part slot : Nat) (s : State) :=
  s.onDev t (doArcOpDone present decodes crcOk bits fail part slot)
/-- SNAPSHOT_FREEZE. -/
def execSnapshotFreeze (t : Tick) (ch : Ch) (s : State) := s.onMach t (doSnapshotFreeze ch)
/-- SNAPSHOT_WRITE_END. -/
def execSnapshotWriteEnd (t : Tick) (ch : Ch) (s : State) := s.onMach t (doSnapshotWriteEnd ch)
/-- COUNTER_WRITE_TIMER. -/
def execCounterWriteTimer (t : Tick) (s : State) := s.onMach t doCounterWriteTimer

end Sys2Proof.Machine
end

