-- ==== Sys2Proof/Machine/CanBase.lean ====
section
/-! DEFINITION. Machine/CanBase.lean: what the commands of the CAN controllers share: controller and error states, INIT and its checks
(R428, R429, R431, R438, R439). Controller 0 is CAN A, 1 is CAN B. -/

namespace Sys2Proof.Machine

/-- CAN_STATUS.STATE codes (R451). -/
def C_INIT : Nat := 0
/-- Integrating. -/
def C_INTEG : Nat := 1
/-- Error active. -/
def C_ACTIVE : Nat := 2
/-- Error passive. -/
def C_PASSIVE : Nat := 3
/-- Bus-off. -/
def C_OFF : Nat := 4
/-- Recovering. -/
def C_RECOV : Nat := 5

/-- Controller `k` beside its registers. -/
def Dev.canSt (d : Dev) (k : Nat) : CanSt := d.can.getD k {}
/-- The device with controller `k` changed. -/
def Dev.onCan (d : Dev) (k : Nat) (f : CanSt → CanSt) : Dev := { d with can := d.can.set k (f (d.canSt k)) }
/-- STATE of controller `k`. -/
def Dev.canState (d : Dev) (k : Nat) : Nat := d.g (CAN_STATUS_STATE k)
/-- The event source of controller `k` (R37). -/
def canSource (k : Nat) : Nat := 3 + k

/-- STATE changed; a change of the error state takes a sequence number (R437). -/
def Dev.setCan (d : Dev) (k st : Nat) : Dev :=
  let old := d.canState k
  if old = st then d
  else
    let d1 := (d.p (CAN_STATUS_STATE k) st).p (CAN_IRQ_STATUS_STATE_CHANGE k) 1
    if C_ACTIVE ≤ old ∧ C_ACTIVE ≤ st then d1.takeSeq (canSource k) else d1

/-- INIT set: the controller leaves the bus; the attempt in progress ends, its object stays pending. -/
def Dev.canEnterInit (d : Dev) (k : Nat) : Dev :=
  (((d.p (CAN_CTL_INIT k) 1).setCan k C_INIT).onCan k (fun c => { c with tx := none })).p (CAN_STATUS_RECOV k) 0

/-- The bit timing keeps the ranges of R428 and R429. -/
def Dev.canTimingOk (d : Dev) (k : Nat) : Bool :=
  let np := d.g (CAN_TIM_N_N_PRESC k) + 1
  let n1 := d.g (CAN_TIM_N_N_SEG1 k) + 1
  let n2 := d.g (CAN_TIM_N_N_SEG2 k) + 1
  let nj := d.g (CAN_TIM_N_N_SJW k) + 1
  let nt := np * (1 + n1 + n2)
  let dp := d.g (CAN_TIM_D_D_PRESC k) + 1
  let d1 := d.g (CAN_TIM_D_D_SEG1 k) + 1
  let d2 := d.g (CAN_TIM_D_D_SEG2 k) + 1
  let dj := d.g (CAN_TIM_D_D_SJW k) + 1
  let dt := dp * (1 + d1 + d2)
  Nat.ble 2 n1 && Nat.ble 2 n2 && Nat.ble nj n2 && Nat.ble nt 1600 && Nat.ble 80 nt
    && Nat.ble dj d2
    && (!d.b (CAN_CTL_FD_EN k) || (Nat.ble 16 dt && Nat.ble dt nt))
    && (!d.b (CAN_TIM_N_TRIPLE k) || Nat.ble 320 nt)

/-- INIT cleared (R428, R431): the bit timing is checked; the controller integrates, or is still bus-off (R439), or stays in INIT with
CFG_ERR. While the SMC PLL runs from CD_AON it is held in INIT (R489). -/
def Dev.canLeaveInit (d : Dev) (k : Nat) : Dev :=
  if d.pwr.pllOnAon || d.canState k != C_INIT then d
  else if !d.canTimingOk k then (d.p (CAN_CTL_INIT k) 1).p (CAN_STATUS_CFG_ERR k) 1
  else
    let d1 := ((d.p (CAN_CTL_INIT k) 0).p (CAN_STATUS_CFG_ERR k) 0).p (CAN_DLYC_DLY_VALID k) 0
    d1.setCan k (if (d.canSt k).off then C_OFF else C_INTEG)

end Sys2Proof.Machine
end

