-- ==== Sys2Proof/Machine/Mask.lean ====
section
/-! DEFINITION. Machine/Mask.lean: the masking window, the modulation depth and the bootstrap refresh guard (R171 to R185). -/

namespace Sys2Proof.Machine

/-- The channel with its MASK part changed. -/
def Chan.onMask (c : Chan) (f : Mask → Mask) : Chan := { c with mask := f c.mask }

/-! ### Quantities -/

/-- PR of R179. -/
def Chan.maskPr (c : Chan) : Nat := ceilDiv (c.g MASK_BOOT_REFRESH_W) c.perCyc

/-- A share z of R176 as numerator and denominator. -/
structure Share where
  num : Nat
  den : Nat
  deriving DecidableEq, Repr

/-- z_win of R176. -/
def Chan.zWin (c : Chan) : Share := if c.b MASK_CTL_WIN_EN then ⟨c.maskPw + c.maskLead, max 1 (c.g MASK_WIN_N)⟩ else ⟨0, 1⟩

/-- z_boot of R176. -/
def Chan.zBoot (c : Chan) : Share :=
  let ton := c.g MASK_BOOT_TON_MAX
  if !c.b MASK_CTL_BOOT_EN || (c.b MASK_CTL_WIN_EN && Nat.ble (c.g MASK_WIN_N) ton) then ⟨0, 1⟩
  else ⟨c.maskPr, max 1 (ton + c.maskPr)⟩

/-- The larger of the two forced shares. -/
def Chan.zForced (c : Chan) : Share :=
  if c.zWin.num * c.zBoot.den < c.zBoot.num * c.zWin.den then c.zBoot else c.zWin

/-- DEPTH of R176 in Q1.15, rounded to nearest. -/
def Chan.maskDepth (c : Chan) : Nat :=
  let z := c.zForced
  (rdiv (32768 * ((z.den : Int) - z.num)) z.den).toNat

/-- The legs whose high side takes a bootstrap supply, as a mask. -/
def Chan.bootLegs (c : Chan) : Nat := c.g (SL_CFG_BOOT 0) + 2 * c.g (SL_CFG_BOOT 2) + 4 * c.g (SL_CFG_BOOT 4)

/-- The legs that the guard watches (R179). -/
def Chan.guardLegs (c : Chan) : Nat := if c.b MASK_CTL_BOOT_EN then c.bootLegs else 0

/-- A safety landing at MASK (R176): DEPTH and BOOT_LEGS. -/
def Chan.landMask (c : Chan) : Chan := (c.p MASK_STATUS_DEPTH c.maskDepth).p MASK_SRC_STATUS_BOOT_LEGS c.bootLegs

/-! ### Forcing (R171, R172, R179, R183) -/

/-- The next boundary lies in a window or its lead (R171, R172); LEAD is the one in force (R174). -/
def Chan.windowForces (c : Chan) : Bool :=
  let d := c.mask.idx % max 1 (c.g MASK_WIN_N)
  c.b MASK_CTL_WIN_EN && (Nat.blt d c.maskPw || Nat.ble (c.g MASK_WIN_N - d) (c.g MASK_STATUS_LEAD))

/-- Leg `l` has its low side commanded on now. -/
def Chan.lowOn (c : Chan) (l : Nat) : Bool := c.enOut l && !c.pulseOf l

/-- The on-time of bootstrap leg `l` reaches TON_MAX at the next boundary (R179). -/
def Chan.refreshDue (c : Chan) (l : Nat) : Bool :=
  c.guardLegs.testBit l && c.pulseOf l && Nat.ble (c.g MASK_BOOT_TON_MAX) (nth c.mask.hiN l + 1)

/-- A refresh of leg `l` is asked for and at the next boundary not complete (R179). -/
def Chan.refreshForces (c : Chan) (l : Nat) : Bool :=
  (c.mask.refDue ||| c.mask.refresh).testBit l && !(c.lowOn l && Nat.ble c.maskPr (nth c.mask.lowN l + 1))

/-- The refreshes that become due at the next boundary, noted for their forcing. -/
def Chan.noteRefresh (c : Chan) : Chan :=
  c.each 3 (fun d l => if d.refreshDue l && !(d.mask.refresh.testBit l) then d.onMask (fun m => { m with refDue := setBit m.refDue l true }) else d)

/-- The next boundary is forced to V0. -/
def Chan.forcedNow (c : Chan) : Bool := c.windowForces || (List.range 3).any c.refreshForces

/-- The entry into RUN (R174, R179): the window counter starts, and with the guard enabled a refresh of every bootstrap leg is due. -/
def Chan.maskEnter (c : Chan) : Chan :=
  (c.onMask (fun _ => { refDue := c.guardLegs })).maskReport

/-- The counts of R179 and R181 at a boundary of RUN; `hi` are the legs whose pulse has been high, `lo` those whose low side has been
commanded on for the whole period that ends. -/
def Chan.maskCounts (c : Chan) (hi lo : Nat) : Chan :=
  c.each 3 (fun d l => d.onMask (fun m => { m with
    hiN := m.hiN.set l (if d.pulseOf l && hi.testBit l then nth m.hiN l + 1 else 0)
    lowN := m.lowN.set l (if d.lowOn l && lo.testBit l then nth m.lowN l + 1 else 0) }))

/-- A refresh completed with the period that ends is no longer in progress; before the counts, `lo` as there. -/
def Chan.refreshDone (c : Chan) (lo : Nat) : Chan :=
  c.each 3 (fun d l => if lo.testBit l && Nat.ble d.maskPr (nth d.mask.lowN l + 1) then
    d.onMask (fun m => { m with refresh := setBit m.refresh l false, refDue := setBit m.refDue l false }) else d)

/-- A boundary of RUN after its vector has been applied: the counts, and a window that is due (R171). -/
def Chan.maskBoundary (c : Chan) (hi lo : Nat) : Chan :=
  let c1 := (c.refreshDone lo).maskCounts hi lo
  c1.onMask (fun m => { m with
    chg := 0
    due := c.b MASK_CTL_WIN_EN && m.idx % max 1 (c.g MASK_WIN_N) == 0
    idx := m.idx + 1 })

/-! ### Commands -/

/-- WINDOW_OPEN (R171, R173): a due window opens, is counted and stamped; without a delay its trigger fires in the same cycle. -/
def doWindowOpen (c : Chan) : Chan :=
  if !c.mask.due then c
  else
    let t := c.devTime
    let dly := Nat.blt 0 (c.g MASK_TRIG_TRIG_DLY)
    let c1 := (c.onMask (fun m => { m with due := false, trig := dly })).p MASK_STATUS_WIN_OPEN 1
    let c2 := ((c1.wrapInc MASK_COUNT_WIN).wr MASK_OPEN_TIME_LO (t % 2 ^ 32)).wr MASK_OPEN_TIME_HI (t / 2 ^ 32)
    let c3 := c2.p MASK_IRQ_STATUS_WIN_OPENED 1
    if dly then c3 else c3.adcWindow

/-- WINDOW_TRIGGER_DELAY (R173): the delayed trigger of the window. -/
def doWindowTriggerDelay (c : Chan) : Chan :=
  if c.mask.trig then (c.onMask (fun m => { m with trig := false })).adcWindow else c

/-- WINDOW_CLOSE (R171). -/
def doWindowClose (c : Chan) : Chan := c.p MASK_STATUS_WIN_OPEN 0

/-- REFRESH_FORCED (R179, R180): a refresh that has become due is forced. -/
def doRefreshForced (c : Chan) : Chan :=
  if c.mask.refDue = 0 then c
  else
    let c1 := (c.onMask (fun m => { m with refresh := m.refresh ||| m.refDue, refDue := 0 })).p MASK_STATUS_REFRESH 1
    (c1.wrapInc MASK_COUNT_REFRESH).raise REFRESH_FORCED_SRC

/-- REFRESH_FORCING_END (R179): every refreshed leg has had its low side on for PR periods. -/
def doRefreshForcingEnd (c : Chan) : Chan :=
  if c.mask.refresh = 0 ∧ c.b MASK_STATUS_REFRESH then (c.p MASK_STATUS_REFRESH 0).clear REFRESH_FORCED_SRC else c

/-- ON_TIME_EXCEEDED (R181): a bootstrap leg has been high for TON_MAX + 1 periods in RUN. -/
def doOnTimeExceeded (c : Chan) : Chan :=
  if c.state = RUN ∧ (List.range 3).any (fun l => c.bootLegs.testBit l && Nat.blt (c.g MASK_BOOT_TON_MAX) (nth c.mask.hiN l)) then
    c.raise ON_TIME_EXCEEDED_SRC
  else c

/-- ON_TIME_EXCEEDED ends when no count stands beyond TON_MAX. -/
def Chan.onTimeEnd (c : Chan) : Chan :=
  if (List.range 3).any (fun l => c.bootLegs.testBit l && Nat.blt (c.g MASK_BOOT_TON_MAX) (nth c.mask.hiN l)) then c
  else c.clear ON_TIME_EXCEEDED_SRC

/-- WINDOW_OPEN. -/
def execWindowOpen (t : Tick) (ch : Ch) (s : State) := s.live t ch doWindowOpen
/-- WINDOW_TRIGGER_DELAY. -/
def execWindowTriggerDelay (t : Tick) (ch : Ch) (s : State) := s.live t ch doWindowTriggerDelay
/-- WINDOW_CLOSE. -/
def execWindowClose (t : Tick) (ch : Ch) (s : State) := s.live t ch doWindowClose
/-- REFRESH_FORCED. -/
def execRefreshForced (t : Tick) (ch : Ch) (s : State) := s.live t ch doRefreshForced
/-- REFRESH_FORCING_END. -/
def execRefreshForcingEnd (t : Tick) (ch : Ch) (s : State) := s.live t ch doRefreshForcingEnd
/-- ON_TIME_EXCEEDED. -/
def execOnTimeExceeded (t : Tick) (ch : Ch) (s : State) := s.live t ch doOnTimeExceeded

end Sys2Proof.Machine
end

