-- ==== Sys2Proof/Machine/Reads.lean ====
section
/-! DEFINITION. Machine/Reads.lean: the words that a channel's registers read as: those with fields that follow from others are
formed when they are read (R92, R170, R315, R321; ADC_STATUS, FIFO_CTL.LEVEL, CHOP_STATUS.FAILED, LEG_HEALTH, DUST_STATUS). -/

namespace Sys2Proof.Machine

/-- A mask over the converters 0 to 3. -/
def Chan.convMask (c : Chan) (q : Nat → Bool) : Nat :=
  b2n (q (c.lead 0)) + 2 * b2n (q (c.lead 1)) + 4 * b2n (q (c.lead 2)) + 8 * b2n (q (c.lead 3))

/-- ADC_STATUS as it reads. -/
def Chan.adcStatus (c : Chan) : Nat :=
  256 * c.convMask (fun n => (c.conv n).inj.isSome) + 16 * c.convMask (fun n => (c.conv n).reg.isSome)
    + c.convMask (fun n => match c.skim.cur with
      | none => false
      | some r => r.cls == 0 && c.lead (r.unit / 3) == n)

/-- Where a block's SRC interrupt bit stands: its IRQ_STATUS register and the bit. -/
def irqSrc (a : Nat) : Option (Nat × Fld) :=
  if a = CH_IRQ_STATUS then some (0, CH_IRQ_STATUS_SRC)
  else if a = ADC_IRQ_STATUS then some (1, ADC_IRQ_STATUS_SRC)
  else if a = SD_IRQ_STATUS then some (2, SD_IRQ_STATUS_SRC)
  else if a = XC_IRQ_STATUS then some (3, XC_IRQ_STATUS_SRC)
  else if a = DTC_IRQ_STATUS then some (4, DTC_IRQ_STATUS_SRC)
  else if a = MASK_IRQ_STATUS then some (5, MASK_IRQ_STATUS_SRC)
  else if a = OBS_IRQ_STATUS then some (6, OBS_IRQ_STATUS_SRC)
  else if a = SL_IRQ_STATUS then some (7, SL_IRQ_STATUS_SRC)
  else if a = PROT_IRQ_STATUS then some (8, PROT_IRQ_STATUS_SRC)
  else if a = DUST_IRQ_STATUS then some (9, DUST_IRQ_STATUS_SRC)
  else if a = MSIO_IRQ_STATUS then some (10, MSIO_IRQ_STATUS_SRC)
  else if a = CORE_IRQ_STATUS then some (11, CORE_IRQ_STATUS_SRC)
  else if a = SKIM_IRQ_STATUS then some (12, SKIM_IRQ_STATUS_SRC)
  else none

/-- The converter whose FIFO_CTL register an offset is, if it is one. -/
def fifoCtl (a : Nat) : Option Nat := (List.range 4).find? (fun n => a == FIFO_CTL n)

/-- CVU_DATA, CVU_VAL and CVU_RES of the unit whose window begins at `w` as they read (R321). -/
def Chan.cvuReg (c : Chan) (w off : Nat) : Nat :=
  match off with
  | 4 => 0
  | 8 => cvuRead (c.rd w) (c.rd (w + 8))
  | 12 => cvuRes (c.rd w) (c.rd (w + 8))
  | _ => c.rd (w + off)

/-- The word that a channel register reads as: its active copy, with what follows from other state. -/
def Chan.read (c : Chan) (a : Nat) : Nat :=
  if a = CH_STATE then c.chStateWord
  else if a = CH_READY then c.ready
  else if a = ADC_STATUS then c.adcStatus
  else if a = DUST_STATUS then c.dustWord
  else if a = LEG_HEALTH then putBits (putBits (c.rd a) 22 20 (c.unavMask false)) 18 16 (c.unavMask true)
  else if a = CHOP_STATUS then putBits (c.rd a) 1 1 (b2n (c.srcActive CHOP_FAIL))
  else if 0x4A00 ≤ a ∧ a < 0x4B20 then c.rd (a - 0x200)
  else if 0xB100 ≤ a ∧ a < 0xB200 then c.cvuReg (a - a % 32) (a % 32)
  else match irqSrc a with
    | some (blk, f) => putBits (c.rd a) f.hi f.lo (b2n (c.srcIrq blk))
    | none => match fifoCtl a with
      | some n => putBits (c.rd a) 13 8 (c.conv n).fifo.length
      | none => c.rd a

end Sys2Proof.Machine
end

