-- ==== Sys2Proof/Machine/Tlm.lean ====
section
/-! DEFINITION. Machine/Tlm.lean: telemetry records and the samples of the waveform rings (R35, R414 to R418, R460). -/

namespace Sys2Proof.Machine

/-- The primary current of phase `k` as its register holds it, 0 without a primary source. -/
def Chan.priVal (c : Chan) (k : Nat) : Nat :=
  let m := bitsOf (c.rd XC_MAP) (8 * k + 7) (8 * k)
  if m.testBit 4 then c.g (INJ_RES_RESULT (m / 4 % 4) (m % 4)) else 0

/-- The secondary current of phase `k` as its register holds it, 0 without a secondary source. -/
def Chan.secVal (c : Chan) (k : Nat) : Nat :=
  let m := bitsOf (c.rd XC_MAP) (8 * k + 7) (8 * k)
  if m.testBit 7 then c.g (DF_RES_RESULT (m / 32 % 4)) else 0

/-- The two slots of a word, the more significant half first. -/
def wordSlots (w : Nat) : List Nat := [w / 65536 % 65536, w % 65536]

/-- The slots of a signal code (R416), none for a code that is not listed; `r0` and `r1` are the registers of codes 62 and 63. -/
def Chan.signal (c : Chan) (code r0 r1 : Nat) : Option (List Nat) :=
  match code with
  | 0 => some [c.priVal 0]
  | 1 => some [c.priVal 1]
  | 2 => some [c.priVal 2]
  | 3 => some [toBits 16 (c.dcl.getD 0)]
  | 4 => some [c.secVal 0]
  | 5 => some [c.secVal 1]
  | 6 => some [c.secVal 2]
  | 7 => some [c.g EST_FLUX_ALPHA]
  | 8 => some [c.g EST_FLUX_BETA]
  | 9 => some [c.g EST_TQ_TORQUE]
  | 10 => some [c.g EST_TQ_MAG]
  | 11 => some [c.g REF_ACT_T_EFF]
  | 12 => some [c.g REF_ACT_PSI_REF]
  | 13 => some (wordSlots (c.rd OBS_SPEED))
  | 14 => some (wordSlots (c.rd TRUST_SPD))
  | 15 => some [c.g OBS_ANGLE_ANGLE]
  | 16 => some [c.g POS_ANGLE_ANGLE]
  | 17 => some [c.rd DTC_STATUS % 65536]
  | 18 => some [c.g GOV_STATUS_SCALE]
  | 19 => some [c.g XC_DIFF0_DIFF_U]
  | 20 => some [c.g XC_DIFF0_DIFF_V]
  | 21 => some [c.g XC_DIFF1_DIFF_W]
  | 22 => some [c.g TM_RES_T_CM]
  | 23 => some [c.g TM_RES_T_PB]
  | 24 => some [c.g MASK_STATUS_DEPTH]
  | 62 => some (wordSlots (c.read r0))
  | 63 => some (wordSlots (c.read r1))
  | _ => none

/-- The number of slots of a signal code (R416); none for a code that is not listed. -/
def signalSlots (code : Nat) : Option Nat :=
  if code = 13 ∨ code = 14 ∨ code = 62 ∨ code = 63 then some 2 else if code ≤ 24 then some 1 else none

/-- A record of subscription `x` for the present boundary (R415): it takes its sequence number, and FLAGS bit 3 marks drops since
the last record. Its timestamp is the boundary's (R38, log 76). -/
def Chan.tlmRecord (c : Chan) (x : Subscr) : Chan :=
  let slots := x.signals.flatMap (fun k => (c.signal k x.reg0 x.reg1).getD [])
  let flags := 128 * b2n c.tb.hold + 8 * b2n c.out.dropFlag + c.state
  let time := c.dtc.boundTime
  let full := Nat.ble Config.recDepth c.out.buf.length
  let o := c.out.push time c.tb.hold (.tlm x.sub flags c.dtc.seq (x.idx % 65536) slots)
  { c with out := { o with dropFlag := full } }

/-- Subscription number `i` of the channel's list at a decision: every DECIM-th boundary forms a record (R414). -/
def Chan.tlmSub (c : Chan) (i : Nat) : Chan :=
  match c.subs[i]? with
  | none => c
  | some x =>
    if x.count + 1 < x.decim then { c with subs := c.subs.set i { x with count := x.count + 1 } }
    else ({ c with subs := c.subs.set i { x with count := 0, idx := (x.idx + 1) % 65536 } }).tlmRecord x

/-- The telemetry records of a decision. -/
def Chan.telemetry (c : Chan) : Chan := c.each c.subs.length Chan.tlmSub

/-- A sample of the waveform rings (R418, R460) while they run or record their post-trigger portion. -/
def Chan.ringSample (c : Chan) : Chan :=
  match c.ring.phase with
  | .frozen => c
  | _ =>
    if 0 < c.ring.skip then { c with ring := { c.ring with skip := c.ring.skip - 1 } }
    else
      let x := c.ring.cfg.signals.map (fun k => nth ((c.signal k 0 0).getD []) 0)
      { c with ring := { c.ring with
          samples := (x :: c.ring.samples).take 65536
          skip := c.ring.cfg.div - 1
          hold := c.ring.hold || c.tb.hold } }

end Sys2Proof.Machine
end

