-- ==== Sys2Proof/Machine/Xchk.lean ====
section
/-! DEFINITION. Machine/Xchk.lean: the cross-check, the DC-link check and the position inputs (R118 to R142, R533). -/

namespace Sys2Proof.Machine

/-- Source CURR_MISMATCH of phase `k`. -/
def CURR_MISMATCH (k : Nat) : Src := ⟨3, k⟩
/-- Source ZERO_SUM. -/
def ZERO_SUM : Src := ⟨3, 3⟩
/-- Source PRI_INVALID. -/
def PRI_INVALID : Src := ⟨3, 5⟩
/-- Source ALIGN_FAIL. -/
def ALIGN_FAIL : Src := ⟨3, 6⟩
/-- Source DCL_INVALID. -/
def DCL_INVALID : Src := ⟨3, 7⟩
/-- Source DCL_ALT_STALE. -/
def DCL_STALE : Src := ⟨3, 9⟩
/-- Source ENC_ILLEGAL. -/
def ENC_ILLEGAL : Src := ⟨3, 12⟩
/-- Source ENC_INDEX. -/
def ENC_INDEX : Src := ⟨3, 13⟩

/-! ### The comparison (R124 to R126) -/

/-- The compared phases: both sources, while XC_EN is 1. -/
def Chan.compared (c : Chan) : List Nat :=
  if c.b XC_CFG_XC_EN then (List.range 3).filter (fun k => c.priOn k && c.secOn k) else []

/-- A set's instant lies between the two retained secondary instants of phase `k`. -/
def Chan.between (c : Chan) (t : Int) (k : Nat) : Bool :=
  match c.xchk.sec.getD k [] with
  | (t1, _) :: (t0, _) :: _ => decide (t0 ≤ t) && decide (t ≤ t1)
  | _ => false

/-- The secondary value interpolated at instant `t` (R125). -/
def interp (t t0 v0 t1 v1 : Int) : Int := if t1 ≤ t0 then v0 else rdiv (v0 * (t1 - t0) + (v1 - v0) * (t - t0)) (t1 - t0).toNat

/-- The comparison of phase `k` in a set (R125, R126). -/
def Chan.comparePhase (c : Chan) (p : PrimSet) (k : Nat) : Chan :=
  match p.s.getD k none, c.xchk.sec.getD k [] with
  | some x, (t1, v1) :: (t0, v0) :: _ =>
    if !x.ok ∨ !c.sdValid (c.secIn k) then c
    else
      let d := sat16 (x.v - interp p.t t0 v0 t1 v1)
      let bad := decide ((c.g XC_LIM_CURR_LIM : Int) < absSat d)
      let c1 := (c.pi (if k = 0 then XC_DIFF0_DIFF_U else if k = 1 then XC_DIFF0_DIFF_V else XC_DIFF1_DIFF_W) d).onXchk (fun y => { y with
        mis := y.mis.set k (if bad then min 256 (nth y.mis k + 1) else 0)
        ok := y.ok.set k (if bad then 0 else min 256 (nth y.ok k + 1)) })
      if c1.g XC_CNT_CURR_CNT < nth c1.xchk.mis k then c1.raise (CURR_MISMATCH k)
      else if c1.g XC_CNT_CURR_CNT < nth c1.xchk.ok k then c1.clear (CURR_MISMATCH k) else c1
  | _, _ => c

/-- The zero-sum check of a set (R125, R126). -/
def Chan.zeroSum (c : Chan) (p : PrimSet) : Chan :=
  match p.s with
  | [some u, some v, some w] =>
    if !c.b XC_CFG_ZS_EN ∨ !(u.ok && v.ok && w.ok) then c
    else
      let z := sat16 (u.v + v.v + w.v)
      let bad := decide ((c.g XC_LIM_ZS_LIM : Int) < absSat z)
      let c1 := (c.pi XC_DIFF1_ZSUM z).onXchk (fun y => { y with
        zs := if bad then min 256 (y.zs + 1) else 0
        zsOk := if bad then 0 else min 256 (y.zsOk + 1) })
      if c1.g XC_CNT_ZS_CNT < c1.xchk.zs then c1.raise ZERO_SUM
      else if c1.g XC_CNT_ZS_CNT < c1.xchk.zsOk then c1.clear ZERO_SUM else c1
  | _ => c

/-- The set found at index `i` of the ring compared (R125). -/
def Chan.compareSet (c : Chan) (i : Nat) (p : PrimSet) (ks : List Nat) : Chan :=
  let c1 := c.onXchk (fun y => { y with ring := y.ring.set i { p with done := true } })
  let c2 := (ks.foldl (fun d k => d.comparePhase p k) c1).zeroSum p
  (c2.p XC_LAG_LAG (satI 0 65535 (((c.now : Int) - p.t) / ticksPerCycle)).toNat).p XC_STATUS_ALIGNED 1

/-- The ring is full and its oldest set newer than the newest secondary instant of a compared phase (R124). -/
def Chan.alignLost (c : Chan) (ks : List Nat) : Bool :=
  match c.xchk.ring[15]? with
  | none => false
  | some p => ks.any (fun k => match c.xchk.sec.getD k [] with
    | (t1, _) :: _ => decide (t1 < p.t)
    | [] => false)

/-- The cross-check at a decision boundary (R124, R125). -/
def Chan.crossCheck (c : Chan) : Chan :=
  let ks := c.compared
  match (List.range c.xchk.ring.length).find? (fun i => match c.xchk.ring[i]? with
      | none => false
      | some p => !p.done && ks.all (c.between p.t)) with
  | some i => match c.xchk.ring[i]? with
    | some p => c.compareSet i p ks
    | none => c
  | none =>
    let c1 := c.p XC_STATUS_ALIGNED 0
    if c1.alignLost ks then c1.raise ALIGN_FAIL else c1

/-! ### Ages (R533) and validity (XC_STATUS) -/

/-- PRI_INVALID, DCL_INVALID and XC_STATUS at a decision boundary; a report without a primary sample in its period is compared no more. -/
def Chan.ageCheck (c : Chan) : Chan :=
  let at_ := fun k => c.xchk.priAt.getD k none
  let run := c.state == RUN
  let badP := (List.range 3).any (fun k => c.priOn k && (c.xchk.priClip.testBit k || (run && c.tooOld (at_ k) c.xchk.runAt)))
  let badD := (c.g XC_MAP_DCL).testBit 4 && (c.xchk.dclClip || c.tooOld c.xchk.dclAt c.xchk.relAt)
  let c1 := (c.onXchk (fun x => { x with altDue := [] })).xcShow
  (c1.follow PRI_INVALID badP).follow DCL_INVALID badD

/-! ### Position (R131, R132) -/

/-- The electrical angle of a sensor angle in counts (R132). -/
def Chan.elAngle (c : Chan) (th : Int) : Nat :=
  let pp : Int := if c.g POS_CFG_SRC = 2 then c.g POS_CFG_PP_MACH else (c.g POS_CFG_PP_MACH / max 1 (c.g POS_CFG_PP_SENS) : Nat)
  let d := if c.b POS_CFG_DIR then -th else th
  ((d * pp + c.g POS_CFG_OFS) % 65536).toNat

/-- The electrical speed of a sensor speed in Q16.16. -/
def Chan.elSpeed (c : Chan) (w : Int) : Int :=
  let pp : Int := if c.g POS_CFG_SRC = 2 then c.g POS_CFG_PP_MACH else (c.g POS_CFG_PP_MACH / max 1 (c.g POS_CFG_PP_SENS) : Nat)
  sat32 ((if c.b POS_CFG_DIR then -w else w) * pp)

/-- A position source at S1 or higher is active (R131). -/
def Chan.posFault (c : Chan) : Bool :=
  [RES_AMP, RES_TRACK, ENC_ILLEGAL, ENC_INDEX].any (fun s => c.srcActive s && Nat.ble 1 (c.sevOf s))

/-- POS_ANGLE and POS_SPEED delivered at a decision boundary (R131). -/
def Chan.position (c : Chan) : Chan :=
  match c.g POS_CFG_SRC with
  | 1 =>
    let x := c.xchk
    (((c.p POS_ANGLE_ANGLE (c.elAngle x.rAng)).pi POS_SPEED_SPEED (c.elSpeed x.rSpd)).p POS_ANGLE_VALID (b2n (x.rInit && !c.posFault))).p
      POS_ANGLE_ABS 1
  | 2 =>
    let th := rdiv ((c.g ENC_COUNT_COUNT * 65536 : Nat) : Int) (4 * max 1 (c.g ENC_CFG_LINES))
    ((c.p POS_ANGLE_ANGLE (c.elAngle th)).pi POS_SPEED_SPEED (c.elSpeed c.xchk.encSpd)).p POS_ANGLE_VALID (b2n (!c.posFault))
  | _ => (c.wr POS_ANGLE 0).wr POS_SPEED 0

/-- The excitation (R133): while EN is 1 a sine between EXC_P and EXC_N of PER CD_CTLx cycles and AMP × 31.25 mV peak; its period in ticks
and its peak in µV. -/
def Chan.excitation (c : Chan) : Option (Tick × Nat) :=
  if c.b RES_EXC_EN then some (cyc (c.g RES_EXC_PER), c.g RES_EXC_AMP * 31250) else none

/-- The differential voltage between EXC_P and EXC_N in µV at the present instant, the sine counted from the landing that set it. -/
def Chan.excUv (c : Chan) : Int :=
  match c.excitation, c.xchk.excAt with
  | some (per, amp), some t => rdiv ((amp : Int) * (cosSin16 ((c.now - t) % max 1 per * 65536 / max 1 per)).2) (2 ^ 60)
  | _, _ => 0

/-- The instant from which the excitation in force runs: the last landing, while it is on. -/
def Chan.excitationFrom (c : Chan) : Option Tick := if c.b RES_EXC_EN then some c.now else none

/-- RESOLVER_EVENT (R134): the resolver trigger; the second event of a period only with BOTH. -/
def doResolverEvent (second : Bool) (c : Chan) : Chan :=
  if !c.b RES_EXC_EN ∨ (second ∧ !c.b RES_CFG_BOTH) then c
  else (c.onXchk (fun x => { x with rsin := none, rcos := none })).adcResolver (if second then 2 else 1)

/-! ### Encoder (R137 to R139) -/

/-- The direction of a quadrature step from levels `o` to `n` (bit 0 A, bit 1 B): A leading B counts up. -/
def quadStep (o n : Nat) : Int := if (o, n) ∈ [(0, 1), (1, 3), (3, 2), (2, 0)] then 1 else -1

/-- The mechanical speed over the last 2 ^ SPD edges in Q16.16 rad/s (R139), if there are that many. -/
def Chan.edgeSpeed (c : Chan) (es : List (Int × Tick)) : Option Int :=
  let k := 2 ^ c.g ENC_CFG_SPD
  match es[0]?, es[k]? with
  | some (_, t1), some (_, t0) =>
    if t1 ≤ t0 then none
    else
      let d := (es.take k).foldl (fun a e => a + e.1) (0 : Int)
      some (sat32 (rdiv (d * twoPi60 * 65536 * 192000000000) (2 ^ 60 * (4 * max 1 (c.g ENC_CFG_LINES)) * (t1 - t0))))
  | _, _ => none

/-- ENCODER_EDGE: the filtered levels of A and B (R137). -/
def doEncoderEdge (a b : Bool) (c : Chan) : Chan :=
  let o := c.xchk.encAB
  let n := b2n a + 2 * b2n b
  let c1 := c.onXchk (fun x => { x with encAB := n })
  if n = o then c1
  else if n = 3 - o then c1.raise ENC_ILLEGAL
  else
    let d := quadStep o n
    let m : Int := 4 * c.g ENC_CFG_LINES
    let es := ((d, c.now) :: c.xchk.edges).take 129
    let c2 := c1.p ENC_COUNT_COUNT (if m = 0 then 0 else (((c.g ENC_COUNT_COUNT : Int) + d) % m).toNat)
    c2.onXchk (fun x => { x with edges := es, encSpd := (c.edgeSpeed es).getD x.encSpd })

/-- ENCODER_INDEX (R138): a rising ENC_Z. -/
def doEncoderIndex (c : Chan) : Chan :=
  if !c.b ENC_CFG_IDX_EN then c
  else
    let n := c.g ENC_COUNT_COUNT
    let m := 4 * c.g ENC_CFG_LINES
    let off := min n (m - n)
    let c1 := (c.p ENC_COUNT_COUNT 0).clear ENC_ILLEGAL
    if !c.b ENC_COUNT_IDX_SEEN then
      (((c1.p ENC_COUNT_IDX_SEEN 1).p POS_ANGLE_ABS 1).p XC_IRQ_STATUS_INDEX 1).clear ENC_INDEX
    else if c.g ENC_CFG_IDX_TOL < off then (c1.p POS_ANGLE_ABS 0).raise ENC_INDEX
    else (c1.p POS_ANGLE_ABS 1).clear ENC_INDEX

/-- ENCODER_SPEED_TIMEOUT (R139): no edge for 10 ms. The edges before it still count for the speed at the next one. -/
def doEncoderSpeedTimeout (c : Chan) : Chan :=
  if c.sinceOpt (c.xchk.edges.head?.map Prod.snd) (ms 10) then c.onXchk (fun x => { x with encSpd := 0 }) else c

/-! ### The alternate DC-link value (R129, R130) -/

/-- DCL_ALT_STALE: DCL_AGE decision periods in RUN without a report. -/
def doDclAltStale (c : Chan) : Chan :=
  if c.state = RUN ∧ c.since (max c.xchk.altAt c.xchk.runAt) (c.g DCL_CFG_DCL_AGE * c.period) then c.raise DCL_STALE else c

/-- A report of the high-side drain sense of `leg` taken as the alternate value (R129): compared with the primary sample of its decision
period, as soon as there is one. -/
def Chan.dclReport (c : Chan) (leg : Nat) (v : Int) : Chan :=
  let c1 := ((c.wr DCL_ALT (2 ^ 31 + leg * 2 ^ 29 + toBits 16 v)).clear DCL_STALE).onXchk (fun x => { x with altAt := c.now })
  match c.dclNow with
  | none => c1.onXchk (fun x => { x with altDue := x.altDue ++ [v] })
  | some p => c1.dclCompare v p

/-- A safety landing at XCHK (R123, R135, R141): ring and history cleared, every counter reset, the resolver loop to be initialised
anew, the encoder without IDX_SEEN and ABS (the resolver angle stays absolute, R136); without an index ENC_ILLEGAL ends here (R127). -/
def Chan.landXchk (c : Chan) : Chan :=
  let c1 := c.onXchk (fun x => { x with
    ring := [], sec := [[], [], []], mis := [0, 0, 0], ok := [0, 0, 0], zs := 0, zsOk := 0, dclMis := 0, dclOk := 0
    altDue := [], excAt := c.excitationFrom, rsin := none, rcos := none, rInit := false, ampOk := 0, trkOk := 0 })
  let c2 := (c1.p ENC_COUNT_IDX_SEEN 0).p POS_ANGLE_ABS (b2n (c.g POS_CFG_SRC == 1))
  (if c2.b ENC_CFG_IDX_EN then c2 else (c2.clear ENC_ILLEGAL).clear ENC_INDEX).secEval

/-- RESOLVER_EVENT. -/
def execResolverEvent (t : Tick) (ch : Ch) (second : Bool) (s : State) := s.live t ch (doResolverEvent second)
/-- ENCODER_EDGE. -/
def execEncoderEdge (t : Tick) (ch : Ch) (a b : Bool) (s : State) := s.live t ch (doEncoderEdge a b)
/-- ENCODER_INDEX. -/
def execEncoderIndex (t : Tick) (ch : Ch) (s : State) := s.live t ch doEncoderIndex
/-- ENCODER_SPEED_TIMEOUT. -/
def execEncoderSpeedTimeout (t : Tick) (ch : Ch) (s : State) := s.live t ch doEncoderSpeedTimeout
/-- DCL_ALT_STALE. -/
def execDclAltStale (t : Tick) (ch : Ch) (s : State) := s.live t ch doDclAltStale

end Sys2Proof.Machine
end

