-- ==== Sys2Proof/Machine/Obs.lean ====
section
/-! DEFINITION. Machine/Obs.lean: the observer, the trusted speed, the torque window and the torque monitor (R186 to R202, R534). -/

namespace Sys2Proof.Machine

/-- Source `n` of OBS (R201). -/
def OBS_SRC (n : Nat) : Src := ⟨6, n⟩
/-- Source UNSENSED_LOW. -/
def UNSENSED_LOW : Src := ⟨6, 4⟩
/-- Source TQ_WINDOW. -/
def TQ_WINDOW : Src := ⟨6, 5⟩
/-- Source TM_BLIND. -/
def TM_BLIND : Src := ⟨6, 9⟩
/-- Source TM_LATE. -/
def TM_LATE_SRC : Src := ⟨6, 10⟩

/-- The sensor is usable for speed (R187). -/
def Chan.speedUsable (c : Chan) : Bool := c.b POS_ANGLE_VALID

/-- The current vector of the last decision. -/
def Chan.iab (c : Chan) : Int × Int := clarke c.dtc.i

/-! ### Currents from the secondary path (R193, R197) -/

/-- The currents that the reacquisition and the torque monitor use: secondary, else primary. -/
def Chan.bestCur (c : Chan) : List Int := c.secCur.getD c.dtc.i

/-! ### Rotor flux, phase error, PLL (R186) -/

/-- The rotor flux from the stator flux, a component. -/
def rotorOf (mach l0 l1 psi i : Int) : Option Int :=
  if mach = 0 then some (sat16 (rdiv (psi * 8192 - l1 * i) 8192))
  else if l1 = 0 then none
  else some (sat16 (if 0 < l1 then rdiv (psi * 8192 - l0 * i) l1.toNat else rdiv (-(psi * 8192 - l0 * i)) (-l1).toNat))

/-- The rotor flux vector; with L1 = 0 the quotient of R186 is a free value. -/
def Chan.rotorFlux (c : Chan) : Int × Int :=
  let f := rotorOf (c.g DTC_CTL_MACH_TYPE) (c.gi MODEL_L_L0) (c.gi MODEL_L_L1)
  let i := c.iab
  ((f c.dtc.psiA i.1).getD (s16 c.freeVal), (f c.dtc.psiB i.2).getD (s16 (c.took 1).freeVal))

/-- th as an angle in Q40 of a revolution. -/
def Chan.thQ40 (c : Chan) : Nat := (c.obs.th * 2 ^ 24 / (2 ^ Config.fracBits : Nat)).toNat % 2 ^ 40

/-- th in whole counts. -/
def Chan.thCode (c : Chan) : Nat := ((rdiv c.obs.th (2 ^ Config.fracBits)) % 65536).toNat

/-- w_pll in Q16.16. -/
def Chan.wCode (c : Chan) : Int := sat32 (rdiv c.obs.w (2 ^ Config.fracBits))

/-- The phase error of a vector against th in radians × 2 ^ 32; 0 for the null vector. -/
def Chan.phaseErr (c : Chan) (x y : Int) : Int :=
  let m := isqrt (magSq x y * 2 ^ 64)
  if m = 0 then 0
  else
    let t := cosSin c.thQ40
    rdiv (16 * (y * t.1 - x * t.2)) m

/-- The PLL's step with error `e`. -/
def Chan.pllStep (c : Chan) (e : Int) : Chan :=
  let f := Config.fracBits
  let p : Int := c.g DTC_PERIOD_COUNT
  let bw : Int := (2 ^ c.g OBS_CFG_BW : Nat)
  let one : Int := (2 ^ (16 + f) : Nat)
  let lim : Int := (2 ^ (31 + f) : Nat)
  let w := satI (-lim) (lim - 1) (c.obs.w + rdiv (twoPiSq60 * 625 * bw * bw * p * e * one) (2 ^ 92 * 240000000))
  let th := c.obs.th + rdiv (w * p * invTwoPi60 * 1000 + 35350 * bw * e * one * p * 2 ^ 28) (1000 * 2 ^ 60 * 240000000)
  c.onObs (fun o => { o with w := w, th := th % (65536 * 2 ^ f : Nat) })

/-- The expected rotor flux with d-axis current `id`. -/
def Chan.expFlux (c : Chan) (id : Int) : Int :=
  if c.g DTC_CTL_MACH_TYPE = 0 then
    sat16 (rdiv (c.gi MODEL_X_X * 8192 + (c.gi MODEL_L_L0 - c.gi MODEL_L_L1) * id) 8192)
  else satI 0 32767 (rdiv (isqrtNear (magSq c.dtc.rA c.dtc.rB)) (2 ^ Config.fracBits))

/-- Observer mode and output (R187). -/
def Chan.obsOutput (c : Chan) : Chan :=
  let slw : Int := c.g OBS_SL_W_W
  let use_ := c.angleUsable
  let sl :=
    if c.obs.sl then !(use_ && decide (16 * (c.wCode.natAbs : Int) < 15 * slw))
    else !use_ || decide (slw ≤ ((c.gi POS_SPEED_SPEED).natAbs : Int))
  let c1 := (c.onObs (fun o => { o with sl := sl })).p OBS_ANGLE_SENSORLESS (b2n sl)
  if sl then (c1.p OBS_ANGLE_ANGLE c1.thCode).pi OBS_SPEED_W c1.wCode
  else (c1.p OBS_ANGLE_ANGLE (c1.g POS_ANGLE_ANGLE)).wr OBS_SPEED (c1.rd POS_SPEED)

/-! ### Plausibility checks (R189, R190) -/

/-- The conditions of the four checks at the present decision; `rex` and `rmag` are the expected and the estimated rotor flux. -/
def Chan.obsConds (c : Chan) (rex rmag : Int) : List Bool :=
  let w := c.wCode
  let step := match c.obs.hist[2 ^ c.g OBS_CFG_STEP_SPAN]? with
    | some w0 => decide ((c.g OBS_STEP_LIM_W : Int) < (w - w0).natAbs)
    | none => false
  let dis := c.angleUsable && (decide ((c.g OBS_LIM1_ANG_LIM : Int) < (angleDiff c.thCode (c.g POS_ANGLE_ANGLE)).natAbs)
    || decide ((c.g OBS_DIS_W_W : Int) < (w - c.gi POS_SPEED_SPEED).natAbs))
  [decide ((c.g OBS_LIM0_FLUX_TOL : Int) < (rmag - rex).natAbs), step,
   decide ((c.g OBS_LIM0_RES_LIM : Int) < (c.gi OBS_RESID_E).natAbs), dis]

/-- Check `n` judged. -/
def Chan.obsCheck (c : Chan) (n : Nat) (cond : Bool) : Chan :=
  let c1 := c.onObs (fun o => { o with
    cnt := o.cnt.set n (if cond then min 256 (nth o.cnt n + 1) else 0)
    ok := o.ok.set n (if cond then 0 else min 256 (nth o.ok n + 1)) })
  if c1.g OBS_CFG_CHK_CNT < nth c1.obs.cnt n then c1.raiseRun (OBS_SRC n)
  else if c1.g OBS_CFG_CHK_CNT < nth c1.obs.ok n then c1.clear (OBS_SRC n) else c1

/-- The checks of a decision in RUN. -/
def Chan.obsChecks (c : Chan) (rex rmag : Int) : Chan :=
  if c.state ≠ RUN then c.onObs (fun o => { o with evald := false })
  else
    let c1 := c.onObs (fun o => { o with hist := (c.wCode :: o.hist).take 1025 })
    let ev := c1.b OBS_CFG_EN && c1.obs.sl && c1.b DTC_STATUS_FLUX_VALID && !c1.b DTC_STATUS_MAGNETISING
    let c2 := c1.onObs (fun o => { o with evald := ev })
    let c3 := if ev then c2.each 4 (fun d n => d.obsCheck n ((c2.obsConds rex rmag).getD n false)) else c2
    if !c3.b OBS_CFG_EN then c3
    else if !c3.angleUsable && decide (16 * ((c3.gi OBS_SPEED_W).natAbs : Int) < 15 * (c3.g OBS_SL_W_W : Int)) then c3.raiseRun UNSENSED_LOW
    else c3.clear UNSENSED_LOW

/-! ### Reacquisition (R193) -/

/-- The channel holds an active short circuit. -/
def Chan.inAsc (c : Chan) : Bool := c.g DUST_STATUS_SAFE == 2 || c.g DUST_STATUS_SAFE == 3

/-- A decision of reacquisition with error `e` (in angle counts): the consecutive count, and *reacquired*. -/
def Chan.reacqStep (c : Chan) (e : Int) (i : Int × Int) : Chan :=
  let good := decide ((e.natAbs : Int) ≤ (c.g OBS_LIM0_RES_LIM : Int)) && Nat.ble (512 * 512) (magSq i.1 i.2)
  let n := if good then min 255 (c.obs.reacqN + 1) else 0
  (c.onObs (fun o => { o with reacqN := n, reacquired := o.reacquired || Nat.ble (c.g OBS_CFG_REACQ_CNT) n })).p TRUST_STATUS_REACQ_N n

/-- Reacquisition begins while the frozen value is in use in an active short circuit. -/
def Chan.reacqEval (c : Chan) : Chan :=
  if !c.b TRUST_STATUS_REACQ ∧ c.inAsc ∧ c.g TRUST_STATUS_SRC = 2 then
    ((c.onObs (fun o => { o with reacqN := 0, reacquired := false })).p TRUST_STATUS_REACQ 1).p TRUST_STATUS_REACQ_N 0
  else c

/-- The observer's step at a decision (R186 to R193). -/
def Chan.observe (c : Chan) : Chan :=
  let free := c.g DTC_CTL_MACH_TYPE != 0 && c.gi MODEL_L_L1 == 0
  let pr := c.rotorFlux
  let c0 := if free then c.took 2 else c
  let live := c0.b DTC_STATUS_FLUX_VALID && !c0.b DTC_STATUS_MAGNETISING && Nat.ble (128 * 128) (magSq pr.1 pr.2)
  let re := c0.b TRUST_STATUS_REACQ && c0.inAsc
  let ci := clarke c0.bestCur
  let e := if re then c0.phaseErr ci.1 ci.2 else if live then c0.phaseErr pr.1 pr.2 else 0
  let ecode := sat16 (rdiv (e * invTwoPi60 * 65536) (2 ^ 92))
  let c1 := c0.pllStep e
  let t := cosSin c1.thQ40
  let i := c1.iab
  let id := sat16 (rdiv (i.1 * t.1 + i.2 * t.2) (2 ^ 60))
  let rex := c1.expFlux id
  let rmag : Int := satI 0 32767 (isqrtNear (magSq pr.1 pr.2))
  let c2 := ((c1.pi OBS_RESID_E ecode).pi OBS_RFLUX_EXP rex).pi OBS_RFLUX_MAG rmag
  let c3 := if re then c2.reacqStep ecode ci else c2
  (c3.obsOutput).obsChecks rex rmag

/-! ### The torque window (R196) -/

/-- The torque window at a decision, one in RUN where `run`. -/
def Chan.torqueWindow (c : Chan) (run : Bool) : Chan :=
  if !run ∨ !c.b TW_CFG_EN then c
  else if c.b DTC_STATUS_MAGNETISING then c.onObs (fun o => { o with tw := [] })
  else
    let n := c.g TW_CFG_HIST
    let h := (c.gi REF_ACT_T_EFF :: c.obs.tw).take n
    -- entries not yet taken stand at 0
    let h0 := if h.length < n then 0 :: h else h
    let m : Int := c.g TW_LIM_MARGIN
    let a : Int := c.g TW_LIM_ABS
    let lo := max (sat16 (h0.foldl min (c.gi REF_ACT_T_EFF) - m)) (-a)
    let hi := min (sat16 (h0.foldl max (c.gi REF_ACT_T_EFF) + m)) a
    let te := c.gi EST_TQ_TORQUE
    let out := decide (te < lo) || decide (hi < te) || decide (a < te.natAbs)
    let c1 := ((c.pi TW_BOUNDS_LO lo).pi TW_BOUNDS_HI hi).onObs (fun o => { o with
      tw := h
      twOut := if out then min 256 (o.twOut + 1) else 0
      twOk := if out then 0 else min 256 (o.twOk + 1) })
    if c1.g TW_CFG_CNT < c1.obs.twOut then c1.raiseRun TQ_WINDOW
    else if c1.g TW_CFG_CNT < c1.obs.twOk then c1.clear TQ_WINDOW else c1

/-! ### The trusted speed (R192) -/

/-- TRUST_SPD and TRUST_STATUS.SRC at a decision boundary. -/
def Chan.trust (c : Chan) : Chan :=
  let o := c.obs
  let active := (List.range 4).any (fun n => c.srcActive (OBS_SRC n))
  let live := c.state == RUN && !active && o.cnt.all (fun n => n == 0) && (o.evald || !o.sl)
  let plaus := live || o.reacquired
  let t := c.devTime
  let c1 := if plaus then
      ((c.onObs (fun x => { x with plaus := c.gi OBS_SPEED_W, seen := true })).wr PLAUS_TIME_LO (t % 2 ^ 32)).wr PLAUS_TIME_HI (t / 2 ^ 32)
    else c
  let src := if c1.speedUsable then 0 else if plaus then 1 else if c1.obs.seen then 2 else 3
  let spd : Int := match src with
    | 0 => c1.gi POS_SPEED_SPEED
    | 1 => c1.gi OBS_SPEED_W
    | 2 => c1.obs.plaus
    | _ => 0
  let c2 := if c1.g TRUST_STATUS_SRC = src then c1 else c1.p OBS_IRQ_STATUS_TRUST_CHANGE 1
  (((c2.pi TRUST_SPD_W spd).p TRUST_STATUS_SRC src).p TRUST_STATUS_FROZEN (b2n (src == 2))).reacqEval

/-- OBS_CMD_RELEASE (R194): in PRIMED with every contactor reading open the frozen speed is released. -/
def doObsCmdRelease (c : Chan) : Chan :=
  if c.state = PRIMED ∧ c.cfbOpen then c.onObs (fun o => { o with seen := false }) else c.p TRUST_STATUS_REL_REFUSED 1

/-! ### The torque monitor (R197 to R199) -/

/-- The core pair runs the monitor. -/
def Chan.tmOn (c : Chan) : Bool := c.b TM_CFG_EN

/-- A decision's samples entered into the window; without a secondary path the primary currents are its current sample. -/
def Chan.tmSample (c0 : Chan) : Chan :=
  if !c0.tmOn then c0
  else
    let cur := c0.bestCur
    let c := if c0.secCur.isNone then c0.tmCurrent cur true else c0
    let vdc := c.dtc.vdc
    let hi := fun k => (c.dtc.cond.getD k {}).rHi
    let sum : Int := (List.range 3).foldl (fun (a : Int) k => a + (hi k : Int) * cur.getD k 0) 0
    c.onObs (fun o => { o with tm := { o.tm with
      n := o.tm.n + 1
      p := o.tm.p + vdc * sum
      w := o.tm.w + c.gi OBS_SPEED_W
      tEff := o.tm.tEff + c.gi REF_ACT_T_EFF
      te := o.tm.te + c.gi EST_TQ_TORQUE } })

/-- A rational in pu as a PU16 code, saturated. -/
def ratPu (x : Rat) : Int := sat16 ((x * 8192 + 1 / 2).floor)

/-- A binary32 register as a rational; 0 for a code that is no number. -/
def Chan.gf (c : Chan) (a : Nat) : Rat := (b32Val (c.rd a)).getD 0

/-- The mean of a sum of PU16 codes × 2 ^ 60, in pu. -/
def mean60 (s : Int) (n : Nat) : Rat := (s : Rat) / ((n * 2 ^ 73 : Nat) : Rat)

/-- The monitor's own rotor model after a window (R197): with TM_PSI the window over the rotor time constant and TM_LD the magnetising
inductance, the form of R151 in the rotor's frame (DEDUCED, log 85). -/
def Chan.tmRotor (c : Chan) (s : TmSum) : Rat :=
  Config.tmRound (c.obs.tmPsi + c.gf TM_PSI * (c.gf TM_LD * mean60 s.id s.nCur - c.obs.tmPsi))

/-- The current-model torque of a window in pu, if it is computed. -/
def Chan.tmCm (c : Chan) (s : TmSum) : Option Rat :=
  if !c.b TM_CFG_CM_EN ∨ s.pri ∨ s.nCur = 0 then none
  else
    let id := mean60 s.id s.nCur
    let iq := mean60 s.iq s.nCur
    some (Config.tmRound (
      if c.g TM_CFG_MACH = 0 then c.gf TM_KT * (c.gf TM_PSI * iq + (c.gf TM_LD - c.gf TM_LQ) * id * iq)
      else c.gf TM_KT * c.gf TM_LD / c.gf TM_LQ * (c.tmRotor s * iq)))

/-- The power-balance torque of a window in pu, if it is computed; with a mean speed of 0 the quotient is a free value. -/
def Chan.tmPb (c : Chan) (s : TmSum) : Option Rat :=
  let we : Rat := (s.w : Rat) / ((s.n * 65536 : Nat) : Rat)
  if !c.b TM_CFG_PB_EN ∨ (if we < 0 then -we else we) < c.gf TM_PB_W then none
  else
    let id := mean60 s.id s.nCur
    let iq := mean60 s.iq s.nCur
    let p : Rat := (s.p : Rat) / ((s.n * max 1 c.period * 8192 * 8192 : Nat) : Rat)
    let pl := c.gf TM_P0 + 3 / 2 * c.gf TM_RLOSS * (id * id + iq * iq)
    some (if we = 0 then (c.freeVal : Rat) / 65536 else Config.tmRound (c.gf TM_KP * (p - pl) / we))

/-- Whether a torque in pu lies further than a limit in PU16 codes from a mean of PU16 codes. -/
def tmFar (t : Rat) (sum : Int) (n lim : Nat) : Bool :=
  let d := t - (sum : Rat) / ((n * 8192 : Nat) : Rat)
  decide ((lim : Rat) / 8192 < (if d < 0 then -d else d))

/-- TM_WINDOW_END (R197, R198): the window is evaluated when the channel was in RUN for all of it; the next one begins. -/
def doTmWindowEnd (c : Chan) : Chan :=
  if !c.tmOn then c
  else
    let s := c.obs.tm
    let ran := s.allRun && Nat.blt 0 s.n
    let cm := if ran then c.tmCm s else none
    let pb := if ran then c.tmPb s else none
    let bad := match cm with
      | some t => b2n (tmFar t s.tEff s.n (c.g TM_LIM_CM_CMD)) + 2 * b2n (tmFar t s.te s.n (c.g TM_LIM_CM_EST))
      | none => 0
    let badP := match pb with
      | some t => 4 * b2n (tmFar t s.tEff s.n (c.g TM_LIM_PB_CMD) || tmFar t s.te s.n (c.g TM_LIM_PB_EST))
      | none => 0
    (c.took 1).onObs (fun o => { o with
      tm := { allRun := c.state == RUN }
      tmPsi := c.tmRotor s
      tmRes := some ⟨ran, cm.map ratPu, pb.map ratPu, bad + badP, s.pri, s.angObs, c.devTime⟩ })

/-- A source of the monitor judged: `run` whether the write finds the channel in RUN, `n` its place in the counters, `known` whether its
torque was computed. -/
def Chan.tmJudge (c : Chan) (run : Bool) (n : Nat) (known cond : Bool) : Chan :=
  if !known then c
  else
    let c1 := c.onObs (fun o => { o with
      tmBad := o.tmBad.set n (if cond then min 256 (nth o.tmBad n + 1) else 0)
      tmOk := o.tmOk.set n (if cond then 0 else min 256 (nth o.tmOk n + 1)) })
    if !run then c1
    else if c1.g TM_CFG_DEBOUNCE < nth c1.obs.tmBad n then c1.raiseRun (OBS_SRC (6 + n))
    else if c1.g TM_CFG_DEBOUNCE < nth c1.obs.tmOk n then c1.clear (OBS_SRC (6 + n)) else c1

/-- TM_BLIND at an evaluated window (R198). -/
def Chan.tmBlindEval (c : Chan) (run blind : Bool) : Chan :=
  let n := if blind then min 256 (c.obs.tmBlind + 1) else 0
  let c1 := c.onObs (fun o => { o with tmBlind := n })
  if !blind then c1.clear TM_BLIND else if run ∧ c1.g TM_CFG_DEBOUNCE < n then c1.raiseRun TM_BLIND else c1

/-- TM_RESULT_WRITE (R197 to R199): the core pair writes the last window's results and raises its sources. -/
def doTmResultWrite (c : Chan) : Chan :=
  match c.obs.tmRes with
  | none => c
  | some r =>
    if c.b CORE_STATUS_HELD then c
    else
      let c1 := c.onObs (fun o => { o with tmRes := none })
      let c2 := ((c1.wr TM_TIME_LO (r.time % 2 ^ 32)).wr TM_TIME_HI (r.time / 2 ^ 32)).clear TM_LATE_SRC
      let c3 := (c2.p TM_STATUS_PB_VALID (b2n r.pb.isSome)).p TM_STATUS_CM_VALID (b2n r.cm.isSome)
      if !r.ran then c3
      else
        let c4 := ((c3.p TM_STATUS_CUR_PRI (b2n r.pri)).p TM_STATUS_ANG_OBS (b2n r.angObs)).wrapInc TM_STATUS_CYCLES
        let c5 := match r.cm with
          | some t => c4.pi TM_RES_T_CM t
          | none => c4
        let c6 := match r.pb with
          | some t => c5.pi TM_RES_T_PB t
          | none => c5
        let c7 := ((c6.tmJudge (c.state == RUN) 0 r.cm.isSome (r.bad.testBit 0)).tmJudge (c.state == RUN) 1 r.cm.isSome (r.bad.testBit 1)).tmJudge
          (c.state == RUN) 2 r.pb.isSome (r.bad.testBit 2)
        c7.tmBlindEval (c.state == RUN) (r.cm.isNone && r.pb.isNone)

/-- TM_LATE (R199): 40 µs after the end of a window its results have not been written. -/
def doTmLate (c : Chan) : Chan := if c.obs.tmRes.isSome then c.raise TM_LATE_SRC else c

/-! ### Entry into RUN and landing (R189, R191, R196, R200) -/

/-- The counters that an entry into RUN resets. -/
def Chan.obsEnter (c : Chan) : Chan :=
  c.onObs (fun o => { o with
    hist := [], cnt := [0, 0, 0, 0], ok := [0, 0, 0, 0], evald := false
    tw := [], twOut := 0, twOk := 0, tmBad := [0, 0, 0], tmOk := [0, 0, 0], tmBlind := 0 })

/-- A safety landing at OBS: th, w_pll, the frozen speed and *seen* stay. -/
def Chan.landObs (c : Chan) : Chan := c.obsEnter

/-- OBS_CMD_RELEASE. -/
def execObsCmdRelease (t : Tick) (ch : Ch) (s : State) := s.live t ch doObsCmdRelease
/-- TM_WINDOW_END. -/
def execTmWindowEnd (t : Tick) (ch : Ch) (s : State) := s.live t ch doTmWindowEnd
/-- TM_RESULT_WRITE. -/
def execTmResultWrite (t : Tick) (ch : Ch) (s : State) := s.live t ch doTmResultWrite
/-- TM_LATE. -/
def execTmLate (t : Tick) (ch : Ch) (s : State) := s.live t ch doTmLate

end Sys2Proof.Machine
end

