-- ==== Sys2Proof/Machine/Dtc.lean ====
section
/-! DEFINITION. Machine/Dtc.lean: the estimation and the decision of the DTC engine (R143 to R161, R177, R178, R195, R248, R264). Every
assignment of R150 is rounded once, to the nearest value with ties towards plus infinity, and saturates (R6). -/

namespace Sys2Proof.Machine

/-! ### Inputs (R146) -/

/-- The primary sample of phase `k` at the read: its value when its register's COUNT has changed since the engine last read it and the
sample is valid. -/
def Chan.freshPhase (c : Chan) (k : Nat) : Option Int :=
  if !c.priOn k then none
  else
    let n := c.priConv k
    let s := c.priSlot k
    let fresh := c.g (INJ_RES_COUNT n s) != nth c.dtc.cnt (4 * n + s)
    let ok := c.sampleOk k (c.b (INJ_RES_CLIP n s)) (c.g (INJ_RES_VECTOR n s))
    if fresh && ok then some (c.gi (INJ_RES_RESULT n s)) else none

/-- The counts of the registers that the phases name, as read. -/
def Chan.readCounts (c : Chan) : List Nat :=
  (List.range 3).foldl (fun l k => if c.priOn k then l.set (4 * c.priConv k + c.priSlot k) (c.g (INJ_RES_COUNT (c.priConv k) (c.priSlot k))) else l) c.dtc.cnt

/-- The phase currents filled in (R146): one missing phase is the negative sum of the others; none with fewer than two. -/
def fillPhases (u v w : Option Int) : Option (List Int) :=
  match u, v, w with
  | some a, some b, some d => some [a, b, d]
  | none, some b, some d => some [sat16 (-(b + d)), b, d]
  | some a, none, some d => some [a, sat16 (-(a + d)), d]
  | some a, some b, none => some [a, b, sat16 (-(a + b))]
  | _, _, _ => none

/-- The states in which the engine, enabled, estimates (R159); for winding discharge it does in any case (R256). -/
def Chan.estimates (c : Chan) : Bool :=
  (c.b DTC_CTL_EN && (c.state == ARMED || c.state == RUN || c.state == HOLD || c.state == FAULT)) || c.prot.wind.isSome

/-- DTC_INPUT_READ: the inputs of the decision at OFS. -/
def doDtcInputRead (c : Chan) : Chan :=
  if !c.estimates then c
  else
    let f := fillPhases (c.freshPhase 0) (c.freshPhase 1) (c.freshPhase 2)
    let x : DtcIn := ⟨f.getD c.dtc.i, c.dcl.getD 0, c.gi OBS_SPEED_W⟩
    (c.onDtc (fun d => { d with inp := some x, cnt := c.readCounts })).follow CUR_HELD f.isNone

/-! ### Estimation (R150, R151) -/

/-- The sign of an integer. -/
def sgn (i : Int) : Int := if i < 0 then -1 else if i = 0 then 0 else 1

/-- The voltage of a leg from its record, its mean current and the DC link (R150). -/
def Chan.legVolt (c : Chan) (k : Nat) (im vdc : Int) : Int :=
  let r := c.dtc.cond.getD k {}
  let per := max 1 c.period
  let on : Int := if im < 0 then ((r.rHi + r.rDt : Nat) : Int) else (r.rHi : Int)
  let drop : Int := sgn im * (c.gi MODEL_DROP_V_ON0 * 8192 + c.gi MODEL_DROP_R_ON * (im.natAbs : Int))
  sat16 (rdiv (on * vdc * 8192 - drop * (per : Int)) (per * 8192))

/-- Every switch was off over the period (R150). -/
def Chan.allOff (c : Chan) : Bool := c.dtc.cond.all (fun r => r.rHi == 0 && r.rLo == 0)

/-- A component of psi_v (R150); `s2` is twice the mean current component, before its division by 2. -/
def Chan.psiV (c : Chan) (psi u im : Int) : Int :=
  sat16 (rdiv (psi * 2 ^ 45 + (c.g FLUX_KV_KV : Int) * (c.g DTC_PERIOD_COUNT : Int) * (u * 8192 - (c.g MODEL_RS_RS : Int) * im)) (2 ^ 45))

/-- The rotor flux of the induction machine after a period (R151). -/
def Chan.rotorStep (c : Chan) (i : Int × Int) (w : Int) : Int × Int :=
  let f : Int := (2 ^ Config.fracBits : Nat)
  let ktr : Int := c.g MODEL_TR_KTR
  let x := c.gi MODEL_X_X
  let p : Int := c.g DTC_PERIOD_COUNT
  let d := c.dtc
  let lim := fun (v : Int) => satI (-32768 * f) (32768 * f - 1) v
  (lim (d.rA + rdiv (ktr * (x * i.1 * f - 8192 * d.rA) * 65536 * 240000000 - w * p * d.rB * 2 ^ 37) (2 ^ 53 * 240000000)),
   lim (d.rB + rdiv (ktr * (x * i.2 * f - 8192 * d.rB) * 65536 * 240000000 + w * p * d.rA * 2 ^ 37) (2 ^ 53 * 240000000)))

/-- The flux of the current model with current vector `i` (R151). -/
def Chan.currentModel (c : Chan) (i : Int × Int) : Int × Int :=
  let l0 := c.gi MODEL_L_L0
  let l1 := c.gi MODEL_L_L1
  if c.g DTC_CTL_MACH_TYPE = 0 then
    let t := cosSin16 (c.g POS_ANGLE_ANGLE)
    let d := l0 * (i.1 * t.1 + i.2 * t.2) + c.gi MODEL_X_X * 2 ^ 73
    let q := l1 * (i.2 * t.1 - i.1 * t.2)
    (sat16 (rdiv (d * t.1 - q * t.2) (2 ^ 133)), sat16 (rdiv (d * t.2 + q * t.1) (2 ^ 133)))
  else
    let f : Nat := 2 ^ Config.fracBits
    (sat16 (rdiv (l0 * i.1 * (f : Int) + l1 * c.dtc.rA) (8192 * f)), sat16 (rdiv (l0 * i.2 * (f : Int) + l1 * c.dtc.rB) (8192 * f)))

/-- A component of the blend with the current model (R150). -/
def Chan.blend (c : Chan) (v m w : Int) : Int :=
  let bw := max 1 (c.g BLEND_W_W)
  let k : Int := (c.g BLEND_K0_K0 : Int) * max 0 ((bw : Int) - w.natAbs)
  sat16 (rdiv (v * ((65536 * bw : Nat) : Int) + k * (m - v)) (65536 * bw))

/-- The estimation half of R150 with inputs `x`. -/
def Chan.estimate (c : Chan) (x : DtcIn) : Chan :=
  let ip := c.dtc.i
  let im := (List.range 3).map (fun k => sat16 (rdiv (x.i.getD k 0 + ip.getD k 0) 2))
  let u := (List.range 3).map (fun k => c.legVolt k (im.getD k 0) x.vdc)
  let uab := clarke u
  let s := fun k => x.i.getD k 0 + ip.getD k 0
  let ima := sat16 (rdiv (2 * s 0 - s 1 - s 2) 6)
  let imb := sat16 (rdiv ((s 1 - s 2) * invSqrt3of60) (2 ^ 61))
  let iab := clarke x.i
  let c0 := if c.g DTC_CTL_MACH_TYPE = 1 then
      let r := c.rotorStep iab x.w
      c.onDtc (fun d => { d with rA := r.1, rB := r.2 })
    else c
  let held := c.allOff && x.i.all (fun v => Nat.blt v.natAbs 128)
  let d := c0.dtc
  let pv := (c0.psiV d.psiA uab.1 ima, c0.psiV d.psiB uab.2 imb)
  let psi :=
    if held then (d.psiA, d.psiB)
    else if c0.angleUsable then
      let pc := c0.currentModel iab
      (c0.blend pv.1 pc.1 x.w, c0.blend pv.2 pc.2 x.w)
    else pv
  let te := sat16 (rdiv ((c0.g TQ_CFG_K_T : Int) * (psi.1 * iab.2 - psi.2 * iab.1)) (4096 * 8192))
  let mag : Int := satI 0 32767 (isqrtNear (magSq psi.1 psi.2))
  let c1 := c0.onDtc (fun y => { y with psiA := psi.1, psiB := psi.2, te := te, i := x.i, iPrev := ip, vdc := x.vdc })
  let c2 := ((c1.pi EST_FLUX_ALPHA psi.1).pi EST_FLUX_BETA psi.2).p DTC_STATUS_FLUX_VALID (b2n (!held))
  (c2.pi EST_TQ_TORQUE te).pi EST_TQ_MAG mag

/-! ### Prediction and references (R150, R177) -/

/-- The voltage vector of a switching state in Q60 of PU16 counts (R143). -/
def volts (v : Nat) (vdc : Int) : Int × Int :=
  let a := rdiv (2 * vdc * one60) 3
  let h := rdiv (vdc * one60) 3
  let b := vdc * invSqrt3of60
  match v with
  | 1 => (a, 0)
  | 2 => (h, b)
  | 3 => (-h, b)
  | 4 => (-a, 0)
  | 5 => (-h, -b)
  | 6 => (h, -b)
  | _ => (0, 0)

/-- The flux predicted to the next boundary with vector `v` applied. -/
def Chan.predict (c : Chan) (v : Nat) : Int × Int :=
  let d := c.dtc
  if !c.b DTC_CTL_PRED_EN then (d.psiA, d.psiB)
  else
    let u := volts v d.vdc
    let i := c.iab
    let g : Int := (c.g FLUX_KV_KV : Int) * (c.g DTC_PERIOD_COUNT : Int)
    let rs : Int := c.g MODEL_RS_RS
    let f := fun (psi u i : Int) => sat16 (rdiv (psi * 2 ^ 105 + g * (u * 8192 - rs * i * 2 ^ 60)) (2 ^ 105))
    (f d.psiA u.1 i.1, f d.psiB u.2 i.2)

/-- The torque predicted to the next boundary. -/
def Chan.predictTe (c : Chan) : Int := if c.b DTC_CTL_PRED_EN then sat16 (2 * c.dtc.te - c.dtc.tePrev) else c.dtc.te

/-- The depth term of R177 in Q16.16. -/
def Chan.depthTerm (c : Chan) : Nat := (rdiv ((c.g MASK_STATUS_DEPTH * c.g MASK_KLIN_K : Nat) : Int) 32768).toNat

/-- The depth cap applies (R177). -/
def Chan.capped (c : Chan) : Bool := c.b MASK_CTL_WIN_EN || c.b MASK_CTL_BOOT_EN

/-- The flux reference at speed `w` (R150, R177). -/
def Chan.psiRef (c : Chan) (w : Int) : Int :=
  let nom : Int := c.g FLUX_CFG_NOM
  let k := if c.capped then min (c.g FW_K_K) c.depthTerm else c.g FW_K_K
  if w = 0 then nom else min nom (sat16 (rdiv ((k : Int) * c.dtc.vdc) w.natAbs))

/-- |v| of a vector lies below `x`. -/
def magLt (v : Int × Int) (x : Int) : Bool := decide (0 < x) && Nat.blt (magSq v.1 v.2) (x * x).toNat
/-- |v| of a vector lies above `x`. -/
def magGt (v : Int × Int) (x : Int) : Bool := decide (x < 0) || Nat.blt (x * x).toNat (magSq v.1 v.2)

/-- A half-band scaled by the governor (R150). -/
def Chan.band (c : Chan) (f : Fld) : Int := sat16 (rdiv ((c.g f * c.g GOV_STATUS_SCALE : Nat) : Int) 4096)

/-! ### The torque reference (R57, R58, R150, R195, R248, R264) -/

/-- The sources of R195. -/
def lossSources : List Src := [⟨6, 0⟩, ⟨6, 1⟩, ⟨6, 2⟩, ⟨6, 3⟩, TQ_WINDOW]

/-- T_EFF is held at 0 by R195: from a source at S2 or higher until every one of the sources has cleared. -/
def Chan.lossHold (c : Chan) : Bool :=
  lossSources.any (fun s => c.srcActive s && (c.dtc.loss || Nat.ble 2 (c.sevOf s)))

/-- The clamp of R248 is in force. -/
def Chan.clampOn (c : Chan) : Bool := c.srcActive CHOP_FAIL && c.b PROT_CTL_CLAMP_EN

/-- The sources that act on the torque by their own rules (R264): STREAM_LAPSE, those of R195, and CHOP_FAIL under R248. -/
def Chan.ownRules (c : Chan) : List Src := STREAM_LAPSE :: lossSources ++ (if c.b PROT_CTL_CLAMP_EN then [CHOP_FAIL] else [])

/-- Another source at S2 is active (R264). -/
def Chan.degradeOn (c : Chan) : Bool :=
  (List.range 13).any (fun k =>
    Nat.ble 2 (c.blockSev k (c.ownRules.foldl (fun a s => if s.blk = k then setBit a s.bit false else a) (c.activeBits k))))

/-- A value moved towards another by at most a step. -/
def toward (x y : Int) (step : Nat) : Int := if x < y then min y (x + step) else max y (x - step)

/-- The reference ramp at a decision boundary (R53, R57, R58): while DISARM acts or the stream has lapsed it moves to 0 by steps, and
afterwards by steps to the command; else it is the command. -/
def Chan.refRamp (c : Chan) : Chan :=
  let down := c.ctl.disarm || c.srcActive STREAM_LAPSE
  let step := c.g LAPSE_RAMP_STEP_STEP
  c.onDtc (fun d =>
    let goal := if down then 0 else d.cmd
    let r := if down || d.slew then toward d.r goal step else goal
    { d with r := r, slew := down || (d.slew && r != goal) })

/-- The speed limit on a reference (R150). -/
def Chan.spdLimit (c : Chan) (t w : Int) : Int :=
  let x : Int := (w.natAbs : Int) - (c.dtc.spd : Int)
  if 0 < x then sat16 (rdiv (t * 2 ^ 24 - sgn w * (c.g SL_K_K : Int) * x) (2 ^ 24)) else t

/-- The torque reference of a decision in RUN: what ended since the last decision hands its value back to the ramp, then the loss
hold, the speed limit, the degrade and the clamp. -/
def Chan.torqueRef (c : Chan) (w : Int) : Chan × Int :=
  let d := c.dtc
  let back := (d.degr && !c.degradeOn) || (d.clamp && !c.clampOn)
  let held := c.lossHold
  let c0 := c.onDtc (fun y => { y with loss := held })
  let c1 := if held then c0.onDtc (fun y => { y with r := 0, slew := true })
    else if back then c0.onDtc (fun y => { y with r := d.tEff, slew := true }) else c0
  let t1 := c1.dtc.r
  let t2 := c1.spdLimit t1 w
  let c2 := c1.follow SPD_LIMIT_SRC (t2 != t1)
  let lim : Int := c2.g DUST_DEG_LIM
  let step : Int := c2.g LAPSE_RAMP_STEP_STEP
  let hi := max lim (d.tEff - step)
  let lo := min (-lim) (d.tEff + step)
  let t3 := if c2.degradeOn then satI lo hi t2 else t2
  let t4 := if held || (c2.clampOn && decide (t3 * w < 0)) then 0 else t3
  (c2.onDtc (fun y => { y with degr := t3 != t2, clamp := !held && t4 != t3, tEff := t4 }), t4)

/-! ### Sectors, stencil, six-step (R153, R154, R160) -/

/-- The sector of an angle (R153). -/
def sectorOf (twelve : Bool) (th : Nat) : Nat :=
  if twelve then (th + 2731) % 65536 * 12 / 65536 else (th + 5461) % 65536 * 6 / 65536

/-- The active vector nearest an angle. -/
def nearestActive (th : Nat) : Nat := sectorOf false th + 1

/-- The zero vector that a preference gives (R154). -/
def zeroChoice (zpref v : Nat) : Nat :=
  match zpref with
  | 0 => 0
  | 1 => 7
  | _ => if v = 0 ∨ v = 1 ∨ v = 3 ∨ v = 5 then 0 else 7

/-- Six-step permitted (R160, R178). -/
def Chan.sixEval (c : Chan) (w : Int) : Chan :=
  let lim := c.g SIX_W_W
  let ok := c.b DTC_CTL_SIX_EN && !c.b MASK_CTL_WIN_EN
  let on := if c.dtc.six then ok && Nat.ble (15 * lim) (16 * w.natAbs) else ok && Nat.ble lim w.natAbs
  if on = c.dtc.six then c
  else ((c.onDtc (fun d => { d with six := on, adv := if on then 0 else d.adv })).p DTC_STATUS_SIX (b2n on)).p DTC_IRQ_STATUS_SIX_CHANGE 1

/-- The corner vector of R160: advance in 1/256 counts, region, vector. -/
def Chan.corner (c : Chan) (th : Nat) (w e : Int) : Chan × Nat :=
  let lim : Int := 256 * (c.g SIX_CFG_ADV_LIM : Int)
  let adv := satI (-lim) lim (c.dtc.adv + (c.g SIX_CFG_KI : Int) * e)
  let a := (((th * 256 : Nat) : Int) + sgn w * adv) % 16777216
  let j := a.toNat * 6 / 16777216
  (c.onDtc (fun d => { d with adv := adv }), stencilVec (if w < 0 then j + 6 else j + 3))

/-! ### The decision -/

/-- The legs that the minimum dwell holds at the next boundary (R156), as a mask. -/
def Chan.dwellHeld (c : Chan) (cand now_ : Nat) : Nat :=
  let q := fun l => legOf cand l != legOf now_ l &&
    Nat.blt (c.dtc.boundAt + c.period) (nth c.dtc.legAt l + cyc (c.g DWELL_MIN_COUNT))
  b2n (q 0) + 2 * b2n (q 1) + 4 * b2n (q 2)

/-- A candidate after the dwell: held legs keep their state, each hold is counted. -/
def Chan.dwell (c : Chan) (cand : Nat) : Chan × Nat :=
  let v := c.vectorNow
  let h := c.dwellHeld cand v
  let leg := fun l => if h.testBit l then legOf v l else legOf cand l
  let c1 := (c.p DTC_STATUS_HELD h).each 3 (fun d l => if h.testBit l then d.satInc DWELL_COUNT_HOLDS else d)
  (c1, vectorOf (leg 0) (leg 1) (leg 2))

/-- The outcome of the comparators (R150): the flux state, the torque state, the error. -/
structure Cmp where
  fs : Bool
  ts : Int
  e : Int
  deriving DecidableEq, Repr

/-- The hysteresis comparators. -/
def Chan.compare (c : Chan) (pp : Int × Int) (tp pref tref : Int) : Cmp :=
  let hbf := c.band FLUX_CFG_HB
  let hbt := c.band TQ_CFG_HB
  let fs0 := if magLt pp (sat16 (pref - hbf)) then true else c.dtc.fs
  let fs := if magGt pp (sat16 (pref + hbf)) then false else fs0
  let e := sat16 (tref - tp)
  let ts0 := c.dtc.ts
  let ts := if hbt ≤ e then 1 else if e ≤ -hbt then -1 else if (ts0 = 1 ∧ e ≤ 0) ∨ (ts0 = -1 ∧ 0 ≤ e) then 0 else ts0
  ⟨fs, if c.b DTC_STATUS_MAGNETISING then 0 else ts, e⟩

/-- MAGNETISING at a decision of RUN (R152): judged at the first one, left once the flux reaches its band. -/
def Chan.magnetise (c : Chan) (pref : Int) : Chan :=
  let low := magLt (c.dtc.psiA, c.dtc.psiB) (sat16 (pref - c.band FLUX_CFG_HB))
  let zero := c.dtc.psiA == 0 && c.dtc.psiB == 0
  let held := !c.b DTC_STATUS_FLUX_VALID
  if c.dtc.entry then
    (c.onDtc (fun d => { d with entry := false })).p DTC_STATUS_MAGNETISING (b2n (!c.angleUsable && (zero || held || low)))
  else if c.b DTC_STATUS_MAGNETISING && !low then c.p DTC_STATUS_MAGNETISING 0
  else c

/-- The candidate of a decision (R150): `ecc` is 2 for an uncorrectable error of the stencil entry, 1 for a corrected one (R168). -/
def Chan.candidate (c : Chan) (pp : Int × Int) (w : Int) (k : Cmp) (ecc : Nat) : Chan × Nat :=
  let th := angleOf pp.1 pp.2
  let v := c.vectorNow
  let sec := sectorOf (c.b DTC_CTL_SECT12) th
  let c1 := (c.p DTC_STATUS_SECTOR sec).sixEval w
  if c1.b DTC_STATUS_MAGNETISING then (c1, if pp.1 = 0 ∧ pp.2 = 0 then 1 else nearestActive th)
  else
    let c2 := c1
    if c2.dtc.six then c2.corner th w k.e
    else
      let i := 6 * sec + 3 * b2n k.fs + (k.ts + 1).toNat
      let vec := c2.g (STENCIL_SH_VEC i)
      if ecc = 2 then (c2.raise DTC_STENCIL_ECC, v)
      else
        let c3 := if ecc = 1 then c2.satInc DWELL_COUNT_ECC_CORR else c2
        (c3, if vec = 0 ∨ vec = 7 then zeroChoice (c3.g (STENCIL_SH_ZPREF i)) v else vec)

/-- The depth term sets the flux reference `pref` below its nominal value (R177). -/
def Chan.depthLimits (c : Chan) (pref : Int) : Bool :=
  c.capped && Nat.blt c.depthTerm (c.g FW_K_K) && decide (pref < (c.g FLUX_CFG_NOM : Int))

/-- The decision half of R150 in RUN. -/
def Chan.decideRun (c : Chan) (w : Int) (ecc : Nat) : Chan :=
  let pref := c.psiRef w
  let nom : Int := c.g FLUX_CFG_NOM
  let c1 := ((c.pi REF_ACT_PSI_REF pref).p DTC_STATUS_FW (b2n (decide (pref < nom)))).follow DEPTH_LIMIT (c.depthLimits pref)
  let c2 := c1.magnetise pref
  let pp := c2.predict c2.vectorNow
  let tp := c2.predictTe
  let r := c2.torqueRef w
  let c3 := (r.1.onDtc (fun d => { d with tePrev := d.te })).pi REF_ACT_T_EFF r.2
  let k := c3.compare pp tp pref r.2
  let c4 := ((c3.onDtc (fun d => { d with fs := k.fs, ts := k.ts })).p DTC_STATUS_FS (b2n k.fs)).p DTC_STATUS_TS (k.ts + 1).toNat
  let z := c4.candidate pp w k ecc
  let c5 := z.1.noteRefresh
  let forced := c5.forcedNow
  let x := (c5.p DTC_STATUS_FORCED (b2n forced)).dwell (if forced then 0 else z.2)
  if x.1.state = RUN then
    (x.1.onDtc (fun d => { d with next := some x.2, forced := forced, govD := d.govD + 1 })).p DTC_STATUS_VEC x.2
  else x.1

/-- A decision of winding discharge (R256). -/
def Chan.decideWind (c : Chan) : Chan :=
  let i := c.iab
  let lim : Int := c.g WD_CUR_I
  let bnd : Int := c.g WD_CUR_BAND
  let on := if c.g DTC_CTL_MACH_TYPE = 1 then 1 else nearestActive (c.g POS_ANGLE_ANGLE)
  let cand := if magLt i (lim - bnd) then on else if magGt i (lim + bnd) then 0 else c.vectorNow
  let x := c.dwell cand
  (x.1.onDtc (fun d => { d with next := some x.2 })).p DTC_STATUS_VEC x.2

/-- A decision outside RUN: references at 0, comparators frozen (R50, R159). -/
def Chan.decideIdle (c : Chan) (w : Int) : Chan :=
  let pref := c.psiRef w
  let c1 := ((c.pi REF_ACT_PSI_REF pref).p DTC_STATUS_FW (b2n (decide (pref < (c.g FLUX_CFG_NOM : Int))))).p REF_ACT_T_EFF 0
  (c1.onDtc (fun d => { d with tePrev := d.te })).follow DEPTH_LIMIT (c.depthLimits pref)

/-- The engine's part of DECISION_COMPLETE: with inputs read it estimates and decides. -/
def Chan.engine (c : Chan) (ecc : Nat) : Chan :=
  match c.dtc.inp with
  | none => if c.estimates then c else c.p DTC_STATUS_FLUX_VALID 0
  | some x =>
    if !c.estimates then (c.onDtc (fun d => { d with inp := none })).p DTC_STATUS_FLUX_VALID 0
    else
      let c1 := (c.onDtc (fun d => { d with inp := none })).estimate x
      if c1.state = RUN then c1.decideRun x.w ecc
      else if c1.prot.wind.isSome then (c1.decideIdle x.w).decideWind
      else c1.decideIdle x.w

/-! ### The governor (R161) -/

/-- The switching frequency of a leg over the window in Hz. -/
def Chan.legHz (c : Chan) (l : Nat) : Nat :=
  min 65535 (rdiv ((nth c.dtc.govN l * 240000000 : Nat) : Int) (2 * max 1 (c.g GOV_CFG_N) * c.perCyc)).toNat

/-- GOVERNOR_UPDATE: after every N decisions of RUN. -/
def doGovernorUpdate (c : Chan) : Chan :=
  if c.state ≠ RUN ∨ c.dtc.govD < c.g GOV_CFG_N then c
  else
    let u := c.legHz 0
    let v := c.legHz 1
    let w := c.legHz 2
    let f := max u (max v w)
    let c1 := (((c.p FSW_UV_U u).p FSW_UV_V v).p FSW_W_W w).p GOV_STATUS_FSW_MAX f
    let c2 := c1.onDtc (fun d => { d with govN := [0, 0, 0], govD := 0 })
    if !c2.b GOV_CFG_EN || c2.dtc.six || c2.b DTC_STATUS_MAGNETISING then c2
    else
      let tgt := max 1 (c2.g GOV_CFG_TGT)
      let lo : Int := c2.g GOV_LIM_MIN
      let hi : Int := c2.g GOV_LIM_MAX
      let raw := (c2.g GOV_STATUS_SCALE : Int)
        + rdiv (4096 * (c2.g GOV_KI_KI : Int) * ((f : Int) - (tgt : Int))) (65536 * tgt)
      let s := satI lo hi raw
      let edge := s == lo || s == hi
      let c3 := (c2.p GOV_STATUS_SCALE s.toNat).onDtc (fun d => { d with govSat := if edge then min 16 (d.govSat + 1) else 0 })
      if !edge then c3.clear GOV_SAT else if 16 ≤ c3.dtc.govSat then c3.raise GOV_SAT else c3

/-- A landing at DTC (R166): the governor's scale is clamped into its limits; `per` tells that DTC_PERIOD changed (R144). -/
def Chan.landDtc (c : Chan) (per : Bool) : Chan :=
  let c1 := c.p GOV_STATUS_SCALE (satI (c.g GOV_LIM_MIN) (c.g GOV_LIM_MAX) (c.g GOV_STATUS_SCALE)).toNat
  if per then c1.onDtc (fun d => { d with boundAt := c.now }) else c1

/-- DTC_INPUT_READ. -/
def execDtcInputRead (t : Tick) (ch : Ch) (s : State) := s.live t ch doDtcInputRead
/-- GOVERNOR_UPDATE. -/
def execGovernorUpdate (t : Tick) (ch : Ch) (s : State) := s.live t ch doGovernorUpdate

end Sys2Proof.Machine
end

