-- ==== Sys2Proof/Machine/DustCmds.lean ====
section
/-! DEFINITION. Machine/DustCmds.lean: the commands of the dust sheet (R262, R263, R271, R273, R277, R535). -/

namespace Sys2Proof.Machine

/-- The event sources of R535. A source outside this table whose end no rule states stays active until a SOURCE_CLEAR (log 12). -/
def eventSources : List Src :=
  [OFF_SHORT, LEG_FAIL, PEER_S4, ⟨11, 3⟩, ⟨11, 5⟩, ⟨11, 1⟩, PRECHARGE_FAIL, CHOP_SENSE, ARM_TIMEOUT, COMMIT_FAIL]

/-- Whether a pair of numbers names a source. -/
def Src.valid (s : Src) : Bool := Nat.blt s.blk 13 && Nat.blt s.bit (srcRegs s.blk).n

/-- SOURCE_ARRIVAL (R262, R263): a source becomes active and acts by its severity; an event source for one cycle. -/
def doSourceArrival (blk bit : Nat) (c : Chan) : Chan :=
  let s : Src := ⟨blk, bit⟩
  if !s.valid then c else if eventSources.contains s then c.pulse s else c.raise s

/-- A source that stays active until a channel reset: CORE_PAIR while the pair is held (R311), SHADOW_MISMATCH (R316). -/
def Src.untilReset (s : Src) (c : Chan) : Bool := (s == ⟨11, 0⟩ && c.b CORE_STATUS_HELD) || s == ⟨11, 2⟩

/-- SOURCE_CLEAR (R262): a source becomes inactive, for every slice that held it. -/
def doSourceClear (blk bit : Nat) (c : Chan) : Chan :=
  let s : Src := ⟨blk, bit⟩
  if !s.valid ∨ s.untilReset c then c
  else if blk = 7 then (c.onMod (fun m => { m with who := m.who.set bit 0 })).clear s else c.clear s

/-- HOLD_END (R273, R277): the dust sheet selects from the speed class and the leg-health record as they stand. -/
def doHoldEnd (c : Chan) : Chan := (c.endHold.reselect).transCheck

/-- LEG_CLR (R271): the record clears in PRIMED with every feedback open; else LEG_REFUSED. -/
def doLegClr (c : Chan) : Chan :=
  let c1 := c.p DUST_REQ_LEG_CLR 0
  if c1.state = PRIMED ∧ c1.cfbOpen then c1.legClear else c1.p DUST_IRQ_STATUS_LEG_REFUSED 1

/-- SOURCE_ARRIVAL. -/
def execSourceArrival (t : Tick) (ch : Ch) (blk bit : Nat) (s : State) := s.live t ch (doSourceArrival blk bit)
/-- SOURCE_CLEAR. -/
def execSourceClear (t : Tick) (ch : Ch) (blk bit : Nat) (s : State) := s.live t ch (doSourceClear blk bit)
/-- HOLD_END. -/
def execHoldEnd (t : Tick) (ch : Ch) (s : State) := s.live t ch doHoldEnd
/-- LEG_CLR. -/
def execLegClr (t : Tick) (ch : Ch) (s : State) := s.live t ch doLegClr

end Sys2Proof.Machine
end

