-- ==== Sys2Proof/Machine/Slices.lean ====
section
/-! DEFINITION. Machine/Slices.lean: a slice on its edge channel: edges, dead time, partner, interlock, latches (R205,
R210 to R212, R217, R218, R220, R233). -/

namespace Sys2Proof.Machine

/-! ### Readings of a slice -/

/-- A field of the configuration that slice `s` holds (R207). -/
def Chan.slCfg (c : Chan) (s : Nat) (f : Fld) : Nat :=
  bitsOf (RegMap.get (c.sl s).cfg (chanReset f.reg) f.reg) f.hi f.lo

/-- The dead time that slice `s` holds for its leg, in ticks (R163, R211). -/
def Chan.slDead (c : Chan) (s : Nat) : Tick :=
  25 * bitsOf (RegMap.get (c.sl s).cfg (chanReset (DEAD_TU + 4 * (s / 2))) (DEAD_TU + 4 * (s / 2))) 13 0

/-- The positive rail of slice `s`, in counts of 10 mV, lies below its undervoltage level (R224, R226). -/
def Chan.railUv (c : Chan) (s : Nat) (v : Int) : Bool :=
  let m : Int := c.slCfg s (SL_SUPPLY_UV_MARGIN s)
  if c.b (SL_CFG_BOOT s) then decide (v < 1000 + 20 * m)
  else decide (v < 1500 + 10 * (c.slCfg s (SL_SUPPLY_VPOS s) : Int) - (50 + 10 * m))

/-- The setting of the negative rail, in counts of 10 mV (R224). -/
def Chan.negSet (c : Chan) (s : Nat) : Int := -(200 + 10 * (c.slCfg s (SL_SUPPLY_VNEG s) : Int))

/-- A rail of slice `s` lies beyond its overvoltage level (R224, R226); a bootstrap slice has no negative rail to judge. -/
def Chan.railOv (c : Chan) (s : Nat) (neg : Bool) (v : Int) : Bool :=
  if c.b (SL_CFG_BOOT s) then !neg && decide (2100 < v)
  else if neg then decide (v < c.negSet s - 100)
  else decide (1500 + 10 * (c.slCfg s (SL_SUPPLY_VPOS s) : Int) + 100 < v)

/-- Outside RUN the conduction record of a leg follows what its slices can do (R149). -/
def Chan.recordOut (c : Chan) (s : Nat) : Chan := if c.state = RUN ∨ 5 < s then c else c.recordLeg (s / 2) c.now

/-- The slice at the other switch of a leg (R203). -/
def partner (s : Nat) : Nat := if s % 2 = 0 then s + 1 else s - 1

/-- The switch command of a slice (R208, R210, R233): what its pulse and enable ask for, while it is used, ready and holds no
latch. -/
def Chan.slWant (c : Chan) (s : Nat) : Bool :=
  let x := c.sl s
  c.b (SL_CFG_USED s) && c.b (SL_STATUS_READY s) && x.latch == 0 && x.en &&
    (if s < 6 then x.pulse == (s % 2 == 0) else x.pulse)

/-! ### Sources that follow a slice's condition (R233) -/

/-- DT_EXTENDED no longer waited for by slice `s` (R211). -/
def Chan.dtEnd (c : Chan) (s : Nat) : Chan := if c.srcActive DT_EXTENDED then c.clearBy DT_EXTENDED s else c

/-- The sources of the latches of R217, cleared for a slice whose latches have cleared. -/
def Chan.latchSources (c : Chan) (s : Nat) : Chan :=
  let c1 := ((((c.clearBy SC_TRIP s).clearBy GS_UV_SRC s).clearBy GS_OV_SRC s).clearBy INTERLOCK s).clearBy ISL_OT_SRC s
  if (c1.sl s).cfgBad then c1 else c1.clearBy LINK_FAULT s

/-! ### Switching -/

/-- The newest edge of slice `s` marked as one with a gate edge of its own switch (R221). -/
def Chan.ownEdge (c : Chan) (s : Nat) (on : Bool) : Chan :=
  c.onSl s (fun x => { x with edgesBuf := match x.edgesBuf.reverse with
    | [] => []
    | e :: es => ({ e with own := true, on := on, seg := if on then x.segOn else x.segOff, at_ := c.now } :: es).reverse })

/-- Slice `s` turns its switch on: the gate edge begins, SC1 is blanked (R211, R236). -/
def Chan.slOn (c : Chan) (s : Nat) : Chan :=
  ((c.onSl s (fun x => { x with
    isOn := true, onAt := c.now, asking := none, dtDone := false, segs := x.segOn + 1
    blanking := true, soft := false, plateau := false })).dtEnd s).ownEdge s true

/-- Slice `s` turns its switch off: the gate edge begins at once (R210); a turn-on not yet made is given up. -/
def Chan.slOff (c : Chan) (s : Nat) : Chan :=
  let was := (c.sl s).isOn
  let c1 := (c.onSl s (fun x => { x with isOn := false, asking := none, dtDone := false, segs := if was then x.segOff + 1 else x.segs })).dtEnd s
  if was then c1.ownEdge s false else c1

/-- A slice brought to its switch command (R210, R211): turns off at once; a phase slice asks and waits, slices 6 and 7 turn on
at once. -/
def Chan.slFollow (c : Chan) (s : Nat) : Chan :=
  let x := c.sl s
  if !c.slWant s then (if x.isOn ∨ x.asking.isSome then c.slOff s else c)
  else if x.isOn then c
  else if s < 6 then c.onSl s (fun y => { y with asking := some c.now, dtDone := false })
  else c.slOn s

/-- The conditions of a turn-on (R211): the dead time has expired since the asking edge and PARTNER_OFF has been 1 for 10 ns. -/
def Chan.slTry (c : Chan) (s : Nat) : Chan :=
  let x := c.sl s
  if c.sinceOpt x.asking (c.slDead s) && x.dtDone && x.partnerOff && c.since x.partnerOffAt (ns 10) then c.slOn s else c

/-! ### Latches (R217) -/

/-- The source that reports an SL_FAULT bit (R217). -/
def latchSource (bit : Nat) : Src :=
  match bit with
  | 0 => SC_TRIP
  | 1 => SC_TRIP
  | 2 => GS_UV_SRC
  | 3 => GS_UV_SRC
  | 4 => GS_OV_SRC
  | 5 => LINK_FAULT
  | 6 => INTERLOCK
  | _ => ISL_OT_SRC

/-- The slice's own part of a latch: the bit set, the switch off. -/
def Chan.slLatchOwn (c : Chan) (s bit : Nat) : Chan :=
  c.onSl s (fun x => { x with
    latch := setBit x.latch bit true, isOn := false, asking := none, dtDone := false
    auto := if bit = 5 then x.auto else false })

/-- A slice latches (R217): the switch turns off, FLT reaches the channel with the source. A latched slice 6 raises CHOP_FAIL
(R245), a latched slice 7 ends a discharge (R251), and any latch ends winding discharge (R257). -/
def Chan.slLatch (c : Chan) (s bit : Nat) : Chan :=
  if 7 < s ∨ !c.b (SL_CFG_USED s) ∨ (c.sl s).latch.testBit bit then c
  else
    let c1 := ((c.slLatchOwn s bit).p (SL_STATUS_LATCHED s) 1).dtEnd s
    let c2 := ((c1.raiseBy (latchSource bit) s).windAbort).recordOut s
    if s = 6 then c2.chopFail 3
    else if s = 7 ∧ c2.prot.dchg.isSome then c2.dchgFail else c2

/-- The latches of a slice cleared by an enable toggle (R218); SL_FAULT.LATCH clears with them. -/
def Chan.slUnlatch (c : Chan) (s : Nat) : Chan :=
  (((c.onSl s (fun x => { x with latch := 0, soft := false, plateau := false })).p (SL_STATUS_LATCHED s) 0).p
    (SL_FAULT_LATCH s) 0).latchSources s |>.recordOut s

/-- Whether a rise of the received enable clears the latch (R218): after a low of at least 2.0 µs it does, below 1.9 µs it does
not, between them the spec leaves it open. -/
def Chan.toggleClears (c : Chan) (s : Nat) : Bool :=
  match (c.sl s).enLow with
  | none => false
  | some t => c.since t (ns 2000) || (c.since t (ns 1900) && Nat.ble (2 ^ 31) (c.freeVal % 2 ^ 32))

/-! ### Edges -/

/-- The levels of an edge taken by slice `s`: the edge count and the record kept for its tag (R222). -/
def Chan.takeEdge (c : Chan) (s : Nat) (pulse en : Bool) : Chan :=
  c.onSl s (fun x =>
    let n := (x.edges + 1) % 256
    let e : SliceEdge := ⟨n, pulse, en, false, false, 0, c.now⟩
    { x with
      pulse := pulse, en := en, edges := n
      enLow := if en then none else if x.en then some c.now else x.enLow
      edgesBuf := (x.edgesBuf ++ [e]).drop (x.edgesBuf.length - 3) })

/-- SL_STATUS.PULSE and EN: the newest change made by now among those on the edge channel. -/
def Chan.wireShow (c : Chan) (s : Nat) : Chan :=
  match ((c.sl s).wire.filter (fun w => Nat.ble w.at_ c.now)).getLast? with
  | none => c
  | some w => (c.p (SL_STATUS_PULSE s) (b2n w.pulse)).p (SL_STATUS_EN s) (b2n w.en)

/-- EDGE_CHANNEL_EDGE: the oldest change on the edge channel of slice `s` arrives. `present`: a condition of R217 is present at
that instant; `rail`: the positive gate rail then, in counts of 10 mV, which a bootstrap slice judges at an edge that asks it to
turn on (R227). -/
def doEdgeChannelEdge (s : Nat) (present : Bool) (rail : Int) (c : Chan) : Chan :=
  match (c.sl s).wire with
  | [] => c
  | w :: ws =>
    if c.now < w.at_ then c
    else
      let rise := w.en && !(c.sl s).en
      let clears := rise && !present && (c.sl s).latch != 0 && c.toggleClears s
      let c1 := (if rise then c.took 1 else c).wireShow s
      let c2 := (c1.onSl s (fun x => { x with wire := ws })).takeEdge s w.pulse w.en
      let c3 := if clears then c2.slUnlatch s else c2
      if c3.b (SL_CFG_BOOT s) && c3.railUv s rail && c3.slWant s && !(c3.sl s).isOn then c3.slLatch s 2
      else
        let c4 := if s < 6 ∧ c3.slWant s ∧ (c3.sl s).asking.isSome then c3.slOff s else c3
        c4.slFollow s

/-- DEAD_TIME_EXPIRY (R211): the slice's own dead time has passed since the asking edge: it turns on, or waits for PARTNER_OFF with
DT_EXTENDED. -/
def doDeadTimeExpiry (s : Nat) (c : Chan) : Chan :=
  if !c.sinceOpt (c.sl s).asking (c.slDead s) ∨ (c.sl s).dtDone then c
  else
    let c1 := (c.onSl s (fun x => { x with dtDone := true })).slTry s
    if (c1.sl s).asking.isSome ∧ !(c1.sl s).partnerOff then c1.raiseBy DT_EXTENDED s else c1

/-- PARTNER_OFF_CHANGE (R211): PARTNER_OFF has been 1 for 10 ns. -/
def doPartnerOffChange (s : Nat) (c : Chan) : Chan := c.slTry s

/-- PARTNER_OFF_TIMEOUT (R211): PARTNER_OFF has not become 1 within 1 µs of the asking edge. -/
def doPartnerOffTimeout (s : Nat) (c : Chan) : Chan :=
  if c.sinceOpt (c.sl s).asking (ns 1000) ∧ !(c.sl s).partnerOff then c.slLatch s 6 else c

/-- GATE_ON_CHANGE (R205): the gate state reaches the modulator and is relayed to the partner; a pair whose gates are no longer
both on no longer shows the condition of INTERLOCK. -/
def doGateOnChange (s : Nat) (on : Bool) (c : Chan) : Chan :=
  if 7 < s then c
  else
    let c1 := (c.onSl s (fun x => { x with gateOn := on, gateAt := c.now })).p
      (SL_STATUS_GATE_ON s) (b2n on)
    if 5 < s then c1
    else
      let c2 := c1.onSl (partner s) (fun x => { x with partnerOff := !on, partnerOffAt := c.now })
      if on then c2 else (c2.clearBy INTERLOCK s).clearBy INTERLOCK (partner s)

/-- PAIR_INTERLOCK (R212): both gates of a pair have been on for 20 ns; the pair's enable goes to 0 until the toggle of R218. -/
def doPairInterlock (p : Nat) (c : Chan) : Chan :=
  if 2 < p ∨ !((c.sl (2 * p)).gateOn && (c.sl (2 * p + 1)).gateOn
      && c.since (max (c.sl (2 * p)).gateAt (c.sl (2 * p + 1)).gateAt) (ns 20)) ∨ c.modul.ilk.testBit p then c
  else ((c.onMod (fun m => { m with ilk := setBit m.ilk p true })).sendPair p).raiseBy INTERLOCK (2 * p)

/-- EDGE_CHANNEL_EDGE. -/
def execEdgeChannelEdge (t : Tick) (ch : Ch) (sl : Nat) (present : Bool) (rail : Int) (s : State) :=
  s.live t ch (doEdgeChannelEdge sl present rail)
/-- DEAD_TIME_EXPIRY. -/
def execDeadTimeExpiry (t : Tick) (ch : Ch) (sl : Nat) (s : State) := s.live t ch (doDeadTimeExpiry sl)
/-- PARTNER_OFF_CHANGE. -/
def execPartnerOffChange (t : Tick) (ch : Ch) (sl : Nat) (s : State) := s.live t ch (doPartnerOffChange sl)
/-- PARTNER_OFF_TIMEOUT. -/
def execPartnerOffTimeout (t : Tick) (ch : Ch) (sl : Nat) (s : State) := s.live t ch (doPartnerOffTimeout sl)
/-- GATE_ON_CHANGE. -/
def execGateOnChange (t : Tick) (ch : Ch) (sl : Nat) (on : Bool) (s : State) := s.live t ch (doGateOnChange sl on)
/-- PAIR_INTERLOCK. -/
def execPairInterlock (t : Tick) (ch : Ch) (p : Nat) (s : State) := s.live t ch (doPairInterlock p)

end Sys2Proof.Machine
end

