-- ==== Sys2Proof/Machine/SliceLink.lean ====
section
/-! DEFINITION. Machine/SliceLink.lean: the data channel between a channel and its slices: configuration, edge tags and
feathering, link supervision, readiness (R24, R206 to R209, R222, R223, R228). -/

namespace Sys2Proof.Machine

/-! ### Configuration (R207) -/

/-- The registers whose values a slice holds: its window's settings, its sense-cell settings, the dead time of its leg; for slice
7 also the settings of autonomous discharge (R207, R211, R236, R254). -/
def cfgRegs (s : Nat) : List Nat :=
  [SL_CFG s, SL_SUPPLY s, TS_CFG s, FTH_TGT s, FTH_SEG s, FTH_LIM s, SC_LVL s, SC_TLTO s] ++
  (if s < 6 then [DEAD_TU + 4 * (s / 2)] else if s = 7 then [PROT_CTL, DCHG_CFG0, DCHG_CFG1, DCHG_STATUS] else [])

/-- The part of a register that is configuration: its RWC fields. -/
def cfgMask (a : Nat) : Nat :=
  match chanDesc a with
  | none => 0
  | some d => rwcMask d.fields

/-- The value of a register that the channel holds for its slices. -/
def Chan.cfgWord (c : Chan) (a : Nat) : Nat := c.rd a &&& cfgMask a

/-- The whole configuration queued for sending to slice `s`. -/
def Chan.sendCfg (c : Chan) (s : Nat) : Chan := c.onSl s (fun x => { x with todo := (cfgRegs s).map (fun a => ⟨a, 0, false⟩) })

/-- Whether slice `s` holds exactly the channel's configuration, except for writes still under way. -/
def Chan.cfgSame (c : Chan) (s : Nat) : Bool :=
  (cfgRegs s).all (fun a => (c.sl s).todo.any (fun w => w.reg == a) ||
    RegMap.get (c.sl s).cfg (chanReset a &&& cfgMask a) a &&& cfgMask a == c.cfgWord a)

/-- A read-back that stays wrong raises LINK_FAULT (R207); an unused slice raises no source (R233). -/
def Chan.cfgFail (c : Chan) (s : Nat) : Chan :=
  let c1 := c.onSl s (fun x => { x with cfgBad := true })
  if c.b (SL_CFG_USED s) then c1.raiseBy LINK_FAULT s else c1

/-- A configuration found right again. -/
def Chan.cfgGood (c : Chan) (s : Nat) : Chan :=
  if (c.sl s).cfgBad then
    let c1 := c.onSl s (fun x => { x with cfgBad := false })
    if c1.b (SL_STATUS_LINK_OK s) then c1.clearBy LINK_FAULT s else c1
  else c

/-! ### Frames (R206) -/

/-- The bits 63:16 of a frame, as bytes from bit 63 on, over which its CRC runs. -/
def slBytes (w : Nat) : List Nat := (List.range 6).map (fun k => w / 2 ^ (56 - 8 * k) % 256)

/-- A frame of 72 bits: SYNC, TYPE, SEQ, ADDR, DATA, CRC-16. -/
def slFrameWord (type seq addr data : Nat) : Nat :=
  let w := 0xB5 * 2 ^ 64 + type % 16 * 2 ^ 60 + seq % 16 * 2 ^ 56 + addr % 256 * 2 ^ 48 + data % 2 ^ 32 * 2 ^ 16
  w + crc16.of (slBytes w)

/-- A frame is valid when its SYNC, its CRC and its TYPE are correct; towards the slice TYPE is 0 to 3, towards the channel 0 to 5. -/
def slFrameOk (fromSlice : Bool) (w : Nat) : Bool :=
  w / 2 ^ 64 == 0xB5 && Nat.ble (w / 2 ^ 60 % 16) (if fromSlice then 5 else 3) && w % 65536 == crc16.of (slBytes w)

/-- ADDR of a frame about a register: its offset in its window divided by 4. -/
def slAddr (reg : Nat) : Nat := reg % 256 / 4

/-- A valid frame reaches slice `s`: its frame counter, and the end of autonomous discharge (R206, R254). -/
def Chan.frameTo (c : Chan) (s type addr : Nat) (data : Option Nat) : Chan :=
  let c1 := c.onSl s (fun x => { x with seqTo := (x.seqTo + 1) % 16, sentTo := some ⟨type, x.seqTo, addr, data⟩ })
  if s = 7 then c1.autoSeen else c1

/-- The source LINK_CRC follows the invalid frames of the last 1 ms (R233 table, bit 12). -/
def Chan.crcEval (c : Chan) (s : Nat) : Chan :=
  let l := (c.sl s).bad.filter (fun t => Nat.ble c.now (t + ms 1))
  let c1 := c.onSl s (fun x => { x with bad := l })
  if 16 < l.length then c1.raiseBy LINK_CRC s else if c1.srcActive LINK_CRC then c1.clearBy LINK_CRC s else c1

/-- A valid frame from slice `s` reaches the channel: LINK_OK sets, and LINK_FAULT clears for the slice unless its configuration
is bad (R206, R209). -/
def Chan.frameFrom (c : Chan) (s type addr : Nat) (data : Option Nat) : Chan :=
  let c1 := (c.onSl s (fun x => { x with seqFrom := (x.seqFrom + 1) % 16, sentFrom := some ⟨type, x.seqFrom, addr, data⟩ })).p (SL_STATUS_LINK_OK s) 1
  (if (c1.sl s).cfgBad then c1 else c1.clearBy LINK_FAULT s).crcEval s

/-- A slice that receives and sends: its island is powered. -/
def Chan.linked (c : Chan) (s : Nat) : Bool := Nat.blt s 8 && (c.sl s).power

/-! ### Frames towards the slice -/

/-- The slice's segment counts after its FTH_SEG has been written (R223): INIT at the configuration after power-up, else clamped
into the new limits. -/
def Chan.segClamp (c : Chan) (s : Nat) : Chan :=
  c.onSl s (fun x =>
    if !x.cfgOk then { x with segOn := c.slCfg s (FTH_SEG_INIT_ON s), segOff := c.slCfg s (FTH_SEG_INIT_OFF s) }
    else { x with
      segOn := min (c.slCfg s (FTH_SEG_MAX_ON s)) (max (c.slCfg s (FTH_SEG_MIN_ON s)) x.segOn)
      segOff := min (c.slCfg s (FTH_SEG_MAX_OFF s)) (max (c.slCfg s (FTH_SEG_MIN_OFF s)) x.segOff) })

/-- SLICE_WRITE_FRAME: the slice takes the channel's value of a configuration register. A write beyond the third attempt is not
made: LINK_FAULT is raised (R207). -/
def doSliceWriteFrame (s reg : Nat) (c : Chan) : Chan :=
  if !c.linked s ∨ !(cfgRegs s).contains reg then c
  else
    let c1 := (c.skimAbortIf 5 (fun u => u == s)).frameTo s 1 (slAddr reg) (some (c.cfgWord reg))
    match (c1.sl s).todo.find? (fun w => w.reg == reg) with
    | none => c1
    | some w =>
      if 3 ≤ w.tries then c1.cfgFail s
      else
        let v := c1.cfgWord reg
        let c2 := c1.onSl s (fun x => { x with
          cfg := RegMap.set x.cfg (chanReset reg &&& cfgMask reg) reg v
          todo := x.todo.map (fun y => if y.reg = reg then ⟨reg, y.tries + 1, false⟩ else y) })
        let c3 := if w.tries = 0 then c2 else c2.satInc (LINK_STAT_RETRY s)
        if reg = FTH_SEG s then c3.segClamp s else c3

/-- SLICE_READ_FRAME: the slice answers with the register's value. -/
def doSliceReadFrame (s reg : Nat) (c : Chan) : Chan :=
  if !c.linked s then c
  else ((c.skimAbortIf 5 (fun u => u == s)).frameTo s 2 (slAddr reg) none).onSl s (fun x => { x with reply := some (reg, RegMap.get x.cfg (chanReset reg &&& cfgMask reg) reg) })

/-- SLICE_IDLE_FRAME (R206, R254). -/
def doSliceIdleFrame (s : Nat) (c : Chan) : Chan := if c.linked s then c.frameTo s 0 0 none else c

/-! ### Edge tags and feathering (R222, R223) -/

/-- The settings of one direction: target, minimum, maximum, the count in force, the edges at a limit. -/
structure FthDir where
  tgt : Nat
  lo : Nat
  hi : Nat
  seg : Nat
  lim : Nat
  deriving DecidableEq, Repr

/-- The settings of a direction at slice `s`. -/
def Chan.fthDir (c : Chan) (s : Nat) (on : Bool) : FthDir :=
  let x := c.sl s
  if on then ⟨c.slCfg s (FTH_TGT_TGT_ON s), c.slCfg s (FTH_SEG_MIN_ON s), c.slCfg s (FTH_SEG_MAX_ON s), x.segOn, x.limOn⟩
  else ⟨c.slCfg s (FTH_TGT_TGT_OFF s), c.slCfg s (FTH_SEG_MIN_OFF s), c.slCfg s (FTH_SEG_MAX_OFF s), x.segOff, x.limOff⟩

/-- The feathering step of R223 for an edge of the slice's own switch; `ok`: the tag has come and is neither forced nor safe.
Without a transition (R221) the times are free values. -/
def Chan.feather (c : Chan) (s : Nat) (e : SliceEdge) (ok : Bool) (tDly : Nat) (tSw : Option Nat) : Chan :=
  let x := c.sl s
  let d := c.fthDir s e.on
  let seen := match x.vdsRef with
    | none => false
    | some v => decide ((c.slCfg s (FTH_LIM_VMIN s) : Int) ≤ v)
  let tsw := if seen then tSw else none
  let raw : Int := match tsw with
    | none => 0
    | some t =>
      if d.tgt + c.slCfg s (FTH_LIM_BAND s) < t then 1
      else if t + c.slCfg s (FTH_LIM_BAND s) < d.tgt then -1 else 0
  let hold := c.slCfg s (FTH_LIM_FTH_EN s) = 0 || !ok || x.latch != 0
  let frozen := hold && raw != 0
  let step := if hold then 0 else raw
  let nx : Int := (d.seg : Int) + step
  let out := decide ((d.hi : Int) < nx) || decide (nx < (d.lo : Int))
  let lim := if out then d.lim + 1 else 0
  let seg := if step ≠ 0 ∧ !out then nx.toNat else d.seg
  let rep : SlReport := match tsw with
    | some t => ⟨e.on, false, frozen, e.seg, min 4095 tDly, min 4095 t, lim, e.count⟩
    | none => ⟨e.on, true, frozen, e.seg, c.freeVal % 4096, (c.took 1).freeVal % 4096, lim, e.count⟩
  (if tsw.isSome then c else c.took 2).onSl s (fun y => { y with
    segOn := if e.on then seg else y.segOn
    segOff := if e.on then y.segOff else seg
    limOn := if e.on then lim else y.limOn
    limOff := if e.on then y.limOff else lim
    noTransN := if tsw.isNone then y.noTransN + 1 else y.noTransN
    edgesBuf := y.edgesBuf.filter (fun z => z.count != e.count)
    reports := y.reports ++ [rep] })

/-- EDGE_TAG: the tag of edge `count` that the channel has formed reaches the slice, which checks it against the edge of that count and
releases its measurements; tags formed before it were lost (R222, R223). `tDly` and `tSw` are what the slice has measured at the
edge. -/
def doEdgeTag (s count tDly : Nat) (tSw : Option Nat) (c : Chan) : Chan :=
  match if c.linked s then (c.sl s).tags.find? (fun g => g.count == count % 256) else none with
  | none => c
  | some t =>
    let c1 := (c.frameTo s 3 t.count none).onSl s (fun x => { x with tags := (x.tags.dropWhile (fun g => g.count != count % 256)).drop 1 })
    match (c1.sl s).edgesBuf.find? (fun e => e.count == t.count) with
    | none =>
      -- received and no longer kept, or not received
      if ((c1.sl s).edges + 256 - t.count) % 256 < 128 then c1 else c1.slLatch s 5
    | some e =>
      if e.pulse ≠ t.pulse ∨ e.en ≠ t.en then c1.slLatch s 5
      else if e.own then c1.feather s e (!t.forced && !t.safe) tDly tSw
      else c1.onSl s (fun x => { x with edgesBuf := x.edgesBuf.filter (fun z => z.count != e.count) })

/-- EDGE_TAG_TIMEOUT (R223): no tag within 2 µs of an edge of the slice's own switch; its step is frozen. -/
def doEdgeTagTimeout (s count tDly : Nat) (tSw : Option Nat) (c : Chan) : Chan :=
  match (c.sl s).edgesBuf.find? (fun e => e.count == count % 256) with
  | none => c
  | some e => if e.own && c.since e.at_ (us 2) then c.feather s e false tDly tSw else c

/-! ### Frames towards the channel -/

/-- SLICE_STATUS_FRAME: the slice's segment counts come with it. -/
def doSliceStatusFrame (s : Nat) (c : Chan) : Chan :=
  if !c.linked s then c
  else ((c.frameFrom s 0 0 none).p (SL_STATUS_SEG_ON s) (c.sl s).segOn).p (SL_STATUS_SEG_OFF s) (c.sl s).segOff

/-- SLICE_WRITE_ACK_FRAME (R207). -/
def doSliceWriteAckFrame (s reg : Nat) (c : Chan) : Chan :=
  if !c.linked s then c
  else (c.frameFrom s 1 (slAddr reg) none).onSl s (fun x => { x with todo := x.todo.map (fun w => if w.reg = reg ∧ 0 < w.tries then { w with acked := true } else w) })

/-- SLICE_READ_DATA_FRAME (R207): the read-back is compared with the configuration. A right and acknowledged value is done; a wrong
one after three attempts, or found by the check of every 1 ms, raises LINK_FAULT. -/
def doSliceReadDataFrame (s reg data : Nat) (c : Chan) : Chan :=
  if !c.linked s ∨ !(cfgRegs s).contains reg then c
  else
    let c1 := c.frameFrom s 2 (slAddr reg) (some data)
    let good := data &&& cfgMask reg == c1.cfgWord reg
    match (c1.sl s).todo.find? (fun w => w.reg == reg) with
    | none => if good then c1 else c1.cfgFail s
    | some w =>
      if good && w.acked then
        let c2 := c1.onSl s (fun x => { x with todo := x.todo.filter (fun y => y.reg != reg) })
        if (c2.sl s).todo.isEmpty then (c2.onSl s (fun x => { x with cfgOk := true })).cfgGood s else c2
      else if 3 ≤ w.tries then c1.cfgFail s else c1

/-- SLICE_EDGE_REPORT_FRAME (R228): the oldest report goes to FTH_ON or FTH_OFF and FTH_STAT; FTH_LIMIT follows the count of edges
at a limit (R223). -/
def doSliceEdgeReportFrame (s : Nat) (c : Chan) : Chan :=
  if !c.linked s then c
  else
    let c1 := c.frameFrom s 3 (match (c.sl s).reports with | [] => 0 | r :: _ => r.count) none
    match (c1.sl s).reports with
    | [] => c1
    | r :: rs =>
      let a := if r.on then FTH_ON s else FTH_OFF s
      let c2 := (c1.onSl s (fun x => { x with reports := rs })).wr a
        (2 ^ 31 + b2n r.noTrans * 2 ^ 30 + b2n r.frozen * 2 ^ 29 + r.seg * 2 ^ 24 + r.tDly * 2 ^ 12 + r.tSw)
      let c3 := if r.frozen then c2.satInc (FTH_STAT_FROZEN s) else c2
      let c4 := c3.p (if r.on then FTH_STAT_LIM_ON s else FTH_STAT_LIM_OFF s) (min 255 r.lim)
      let c5 := (c4.p (SL_STATUS_SEG_ON s) (c4.sl s).segOn).p (SL_STATUS_SEG_OFF s) (c4.sl s).segOff
      if 64 ≤ r.lim then c5.raiseBy FTH_LIMIT s
      else if r.lim = 0 ∧ c5.srcActive FTH_LIMIT then c5.clearBy FTH_LIMIT s else c5

/-- SLICE_FAULT_FRAME (R228): the fault detail; the sources of latches not seen yet follow. -/
def doSliceFaultFrame (s : Nat) (c : Chan) : Chan :=
  if !c.linked s then c
  else
    let c1 := (c.frameFrom s 5 0 none).p (SL_FAULT_LATCH s) (c.sl s).latch
    if s = 7 ∧ (c.sl s).latch ≠ 0 ∧ c1.prot.dchg.isSome then c1.dchgFail else c1

/-- SLICE_FRAME_INVALID (R206): a frame that is not valid is discarded and counts in CRC_ERR; those from the slice also count for
LINK_CRC. -/
def doSliceFrameInvalid (s : Nat) (fromSlice : Bool) (word : Nat) (c : Chan) : Chan :=
  if !c.linked s ∨ slFrameOk fromSlice word then c
  else
    let c1 := c.satInc (LINK_STAT_CRC_ERR s)
    if !fromSlice ∨ !c1.b (SL_CFG_USED s) then c1
    else (c1.onSl s (fun x => { x with bad := (c.now :: x.bad).take 17 })).crcEval s

/-! ### Link supervision and readiness -/

/-- SLICE_LINK_LOSS (R24): the slice turns its switch off by itself and latches LINK, whether or not the channel lives. -/
def doSliceLinkLoss (s : Nat) (c : Chan) : Chan :=
  if 7 < s then c else if c.state = OFF then c.slLatchOwn s 5 else c.slLatch s 5

/-- READY of a slice changed (R208), and what the slice and the chopper then do. -/
def Chan.setReady (c : Chan) (s : Nat) (on : Bool) : Chan :=
  if c.b (SL_STATUS_READY s) = on then c
  else
    let c1 := (((c.p (SL_STATUS_READY s) (b2n on)).p SL_IRQ_STATUS_READY_CHANGE 1).slFollow s).recordOut s
    if s = 6 then c1.chopEval else c1

/-- CHANNEL_LINK_LOSS (R209): LINK_FAULT for the slice; it is not ready while its link is not valid (R208). -/
def doChannelLinkLoss (s : Nat) (c : Chan) : Chan :=
  if 7 < s ∨ !c.b (SL_CFG_USED s) ∨ c.parked then c
  else (((c.p (SL_STATUS_LINK_OK s) 0).satInc (LINK_STAT_LOSS s)).setReady s false).raiseBy LINK_FAULT s

/-- SLICE_CONFIG_CHECK (R207): every 1 ms the configuration of every used slice that answers is compared. -/
def doSliceConfigCheck (c : Chan) : Chan :=
  c.each 8 (fun d s =>
    if !(d.sl s).power ∨ !d.b (SL_CFG_USED s) ∨ !(d.sl s).cfgOk then d
    else if d.cfgSame s then d.cfgGood s else d.cfgFail s)

/-- The edge count of a slice's pair at the channel: slice 7 has no pair. -/
def Chan.pairEdges (c : Chan) (s : Nat) : Nat := if s < 6 then nth c.modul.legEdges (s / 2) else if s = 6 then nth c.modul.legEdges 3 else 0

/-- ISLAND_POWER_UP (R207, R208): the switch is held off, the slice is not ready, and the channel sends its configuration. A slice 7
that discharges by itself goes on, with the settings last sent to it, until its first valid frame (R254). In PARK PD_GDx is off
(R224). The slice starts with the channel's edge count (log 87). -/
def doIslandPowerUp (s : Nat) (c : Chan) : Chan :=
  if 7 < s ∨ c.parked then c
  else
    let x := c.sl s
    let y : SliceSt := { power := true, auto := x.auto, autoSeen := x.autoSeen, autoE := x.autoE, isOn := x.auto && x.isOn,
                         cfg := if x.auto then x.cfg else [], edges := c.pairEdges s,
                         railsAt := if c.b (SL_CFG_BOOT s) then some c.now else none,
                         partnerOff := x.partnerOff, partnerOffAt := x.partnerOffAt,
                         pulse := c.b (SL_STATUS_PULSE s), en := c.b (SL_STATUS_EN s),
                         enLow := if c.b (SL_STATUS_EN s) then none else some c.now }
    let c1 := ((c.onSl s (fun _ => y)).setReady s false).p (VDS_MEAS_VALID s) 0
    ((c1.p (SL_STATUS_LATCHED s) 0).p (SL_FAULT_LATCH s) 0).sendCfg s

/-- SLICE_READY (R208): the configuration has been read back, the supplies have held for 100 µs, the link is valid. -/
def doSliceReady (s : Nat) (c : Chan) : Chan :=
  if c.linked s && (c.sl s).cfgOk && c.sinceOpt (c.sl s).railsAt (us 100) && c.b (SL_STATUS_LINK_OK s) then c.setReady s true else c

/-- SLICE_WRITE_FRAME. -/
def execSliceWriteFrame (t : Tick) (ch : Ch) (sl reg : Nat) (s : State) := s.live t ch (doSliceWriteFrame sl reg)
/-- SLICE_READ_FRAME. -/
def execSliceReadFrame (t : Tick) (ch : Ch) (sl reg : Nat) (s : State) := s.live t ch (doSliceReadFrame sl reg)
/-- SLICE_IDLE_FRAME. -/
def execSliceIdleFrame (t : Tick) (ch : Ch) (sl : Nat) (s : State) := s.live t ch (doSliceIdleFrame sl)
/-- EDGE_TAG. -/
def execEdgeTag (t : Tick) (ch : Ch) (sl : Nat) (x : EdgeMeas) (s : State) := s.live t ch (doEdgeTag sl x.count x.tDly x.tSw)
/-- EDGE_TAG_TIMEOUT. -/
def execEdgeTagTimeout (t : Tick) (ch : Ch) (sl count tDly : Nat) (tSw : Option Nat) (s : State) :=
  s.live t ch (doEdgeTagTimeout sl count tDly tSw)
/-- SLICE_STATUS_FRAME. -/
def execSliceStatusFrame (t : Tick) (ch : Ch) (sl : Nat) (s : State) := s.live t ch (doSliceStatusFrame sl)
/-- SLICE_WRITE_ACK_FRAME. -/
def execSliceWriteAckFrame (t : Tick) (ch : Ch) (sl reg : Nat) (s : State) := s.live t ch (doSliceWriteAckFrame sl reg)
/-- SLICE_READ_DATA_FRAME. -/
def execSliceReadDataFrame (t : Tick) (ch : Ch) (sl reg data : Nat) (s : State) := s.live t ch (doSliceReadDataFrame sl reg data)
/-- SLICE_EDGE_REPORT_FRAME. -/
def execSliceEdgeReportFrame (t : Tick) (ch : Ch) (sl : Nat) (s : State) := s.live t ch (doSliceEdgeReportFrame sl)
/-- SLICE_FAULT_FRAME. -/
def execSliceFaultFrame (t : Tick) (ch : Ch) (sl : Nat) (s : State) := s.live t ch (doSliceFaultFrame sl)
/-- SLICE_FRAME_INVALID. -/
def execSliceFrameInvalid (t : Tick) (ch : Ch) (sl : Nat) (x : LinkFrame) (s : State) := s.live t ch (doSliceFrameInvalid sl x.fromSlice x.word)
/-- SLICE_LINK_LOSS. -/
def execSliceLinkLoss (t : Tick) (ch : Ch) (sl : Nat) (s : State) := s.chan t ch (doSliceLinkLoss sl)
/-- CHANNEL_LINK_LOSS. -/
def execChannelLinkLoss (t : Tick) (ch : Ch) (sl : Nat) (s : State) := s.live t ch (doChannelLinkLoss sl)
/-- SLICE_CONFIG_CHECK. -/
def execSliceConfigCheck (t : Tick) (ch : Ch) (s : State) := s.live t ch doSliceConfigCheck
/-- ISLAND_POWER_UP. -/
def execIslandPowerUp (t : Tick) (ch : Ch) (sl : Nat) (s : State) := s.live t ch (doIslandPowerUp sl)
/-- SLICE_READY. -/
def execSliceReady (t : Tick) (ch : Ch) (sl : Nat) (s : State) := s.live t ch (doSliceReady sl)

end Sys2Proof.Machine
end

