-- ==== Sys2Proof/Machine/SliceFault.lean ====
section
/-! DEFINITION. Machine/SliceFault.lean: the trips of a slice and the EN pins (R215 to R219, R227, R236 to R239). -/

namespace Sys2Proof.Machine

/-! ### Sense-cell trips -/

/-- OFF_SHORT (R219): the partner of a tripped phase slice, its own switch commanded off, finds its drain-source voltage `vds` (in
counts of 0.05 V) below 5 % of its last off-state value: the report names its switch. -/
def Chan.offShort (c : Chan) (s : Nat) (vds : Int) : Chan :=
  let q := partner s
  if 5 < s ∨ (c.sl q).isOn ∨ !c.b (SL_CFG_USED q) ∨ !(c.sl q).power then c
  else match (c.sl q).vdsRef with
    | none => c
    | some r =>
      if 20 * vds < r then
        (((c.p (SL_FAULT_OFF_SHORT q) 1).legSet (q % 2 == 0) (q / 2) LEG_HEALTH_SRC_OFFSHORT).pulseSl OFF_SHORT q)
      else c

/-- A slice with supply: its secondary's, or slice 7 in autonomous discharge (R254). -/
def Chan.alive (c : Chan) (s : Nat) : Bool := Nat.blt s 8 && ((c.sl s).power || (c.sl s).auto)

/-- A condition of R217 has arisen at slice `s`. Slice 7 in autonomous discharge, without its secondary supply, latches by itself: the
discharge stops (R254). -/
def Chan.slTrip (c : Chan) (s bit : Nat) : Chan :=
  if !c.alive s then c
  else if (c.sl s).power ∧ c.state ≠ OFF then c.slLatch s bit
  else c.slLatchOwn s bit

/-- A sense-cell trip (R217, R237, R238): latch, soft turn-off by one segment with its plateau, the partner's sample. A trip during
the plateau leaves the soft turn-off as it runs. -/
def Chan.scTrip (c : Chan) (s bit : Nat) (vds : Int) : Chan :=
  if !c.alive s ∨ c.slCfg s (SC_LVL_EN s) = 0 ∨ !c.b (SL_CFG_USED s) then c
  else
    let was := (c.sl s).isOn
    let c1 := c.onSl s (fun x => if was then { x with soft := true, segs := 1, plateau := c.slCfg s (SC_TLTO_TLTO_EN s) == 1 } else x)
    (c1.slTrip s bit).offShort s vds

/-- SC2_TRIP: SC2 is never blanked (R236, R237). -/
def doSc2Trip (s : Nat) (vds : Int) (c : Chan) : Chan := c.scTrip s 1 vds

/-- SC1_TRIP: ignored while blanked (R236). -/
def doSc1Trip (s : Nat) (vds : Int) (c : Chan) : Chan := if (c.sl s).blanking then c else c.scTrip s 0 vds

/-- SC_BLANKING_END (R236, R237): BLANK × 10 ns after the turn-on SC1 becomes effective, and trips at once if the land lies above it. -/
def doScBlankingEnd (s : Nat) (above : Bool) (vds : Int) (c : Chan) : Chan :=
  if !(c.sl s).blanking ∨ !c.since (c.sl s).onAt (ns (10 * c.slCfg s (SC_LVL_BLANK s))) then c
  else
    let c1 := c.onSl s (fun x => { x with blanking := false })
    if above then c1.scTrip s 0 vds else c1

/-- PLATEAU_END (R238): the soft turn-off completes. -/
def doPlateauEnd (s : Nat) (c : Chan) : Chan := c.onSl s (fun x => { x with plateau := false })

/-! ### Supplies and temperature -/

/-- GS_UV (R217, R224, R227): a rail has lain at `v`, in counts of 10 mV, for 1 µs: it latches beyond the undervoltage level. A bootstrap
slice has no negative rail to judge, and its positive rail counts only while it is commanded on. -/
def doGsUv (s : Nat) (neg : Bool) (v : Int) (c : Chan) : Chan :=
  if c.b (SL_CFG_BOOT s) then (if !neg && c.slWant s && c.railUv s v then c.slTrip s 2 else c)
  else if neg then (if c.negSet s + 100 < v then c.slTrip s 3 else c)
  else if c.railUv s v then c.slTrip s 2 else c

/-- GS_OV (R217, R224, R227): a rail has lain at `v` for 1 µs: it latches beyond the overvoltage level. -/
def doGsOv (s : Nat) (neg : Bool) (v : Int) (c : Chan) : Chan := if c.railOv s neg v then c.slTrip s 4 else c

/-- ISL_OT (R217). -/
def doIslOt (s : Nat) (c : Chan) : Chan := c.slTrip s 7

/-- TS_OT of a slice judged (R229). -/
def Chan.tsJudge (c : Chan) (s ts : Nat) : Chan :=
  if c.b (SL_CFG_USED s) && c.b (SL_CFG_TS_EN s) && Nat.blt ts (c.g (TS_CFG_LIM s)) then
    (c.p (SL_FAULT_TS_OT s) 1).raiseBy TS_OT s
  else if c.srcActive TS_OT then c.clearBy TS_OT s else c

/-- Rails placed in SUP_MEAS, in counts of 10 mV (R228), and the instant since which they have lain within their limits (R208). -/
def Chan.railsIn (c : Chan) (s : Nat) (vneg vpos : Int) : Chan :=
  let c1 := (c.pi (SUP_MEAS_VNEG s) (sat16 vneg)).pi (SUP_MEAS_VPOS s) (sat16 vpos)
  c1.onSl s (fun x => { x with railsAt := if c1.railsOk s then (if x.railsAt.isSome then x.railsAt else some c1.now) else none })

/-- One temperature seen by a bin's cycle count (R462): a rise of at least the swing, then a fall of at least the swing. Temperatures and
the swing in 1/256 K. -/
def Cycle.see (y : Cycle) (swing t : Int) : Cycle :=
  match y.ext with
  | none => { y with ext := some t }
  | some e =>
    if y.risen then
      if swing ≤ e - t then { n := y.n + 1, risen := false, ext := some t } else { y with ext := some (max e t) }
    else if swing ≤ t - e then { y with risen := true, ext := some t } else { y with ext := some (min e t) }

/-- The power-module temperature of a phase slice seen by its four bins (R462): ISL_T without a sensor of its own, else what the NTC's
values make of TS. -/
def Chan.cycSee (c : Chan) (s ts : Nat) (isl : Int) : Chan :=
  if 5 < s then c
  else
    let t := if c.b (SL_CFG_TS_EN s) then Config.ntcTemp ts else sat16 isl
    c.onLife (fun l => { l with cyc := (List.range 4).foldl (fun m k => m.set (4 * s + k) ((m.getD (4 * s + k) {}).see (5120 * (k + 1)) t)) l.cyc })

/-- TS ratio and island temperature placed in TEMP_MEAS, TS_OT judged (R228, R229). -/
def Chan.tempsIn (c : Chan) (s ts : Nat) (isl : Int) : Chan :=
  (((c.p (TEMP_MEAS_TS s) ts).pi (TEMP_MEAS_ISL_T s) (sat16 isl)).cycSee s (ts % 65536) isl).tsJudge s (ts % 65536)

/-- SLICE_SUPPLY_MEASURE (R228, R229): every 100 µs. -/
def doSliceSupplyMeasure (s : Nat) (vneg vpos : Int) (ts : Nat) (isl : Int) (c : Chan) : Chan :=
  if c.linked s then (c.railsIn s vneg vpos).tempsIn s ts isl else c

/-! ### EN pins (R215, R216, R218) -/

/-- EN_PIN_FALL: the filtered level of pin `p` falls; the pair's enable goes with it, and EN_LOW follows in ARMED, RUN and HOLD. -/
def doEnPinFall (p : Nat) (c : Chan) : Chan :=
  if 3 < p ∨ !c.gb EN_STATUS_EN_PIN p then c
  else
    let c1 := ((c.pb EN_STATUS_EN_PIN p false).onMod (fun m => { m with pinFall := m.pinFall.set p c.now })).sendPair p
    if c1.state = ARMED ∨ c1.state = RUN ∨ c1.state = HOLD then c1.raise EN_LOW else c1

/-- EN_PIN_RISE: the filtered level rises. A low of at least 2 µs was a toggle of R218 and ends the hold of R212; EN_LOW clears
with the last low pin. -/
def doEnPinRise (p : Nat) (c : Chan) : Chan :=
  if 3 < p ∨ c.gb EN_STATUS_EN_PIN p then c
  else
    let c1 := c.pb EN_STATUS_EN_PIN p true
    let c2 := if c1.since (nth c1.modul.pinFall p) (ns 2000) then c1.onMod (fun m => { m with ilk := setBit m.ilk p false }) else c1
    let c3 := c2.sendPair p
    if c3.g EN_STATUS_EN_PIN = 15 then c3.clear EN_LOW else c3

/-- SC_BLANKING_END. -/
def execScBlankingEnd (t : Tick) (ch : Ch) (sl : Nat) (above : Bool) (vds : Int) (s : State) := s.chan t ch (doScBlankingEnd sl above vds)
/-- SC2_TRIP. -/
def execSc2Trip (t : Tick) (ch : Ch) (sl : Nat) (vds : Int) (s : State) := s.chan t ch (doSc2Trip sl vds)
/-- SC1_TRIP. -/
def execSc1Trip (t : Tick) (ch : Ch) (sl : Nat) (vds : Int) (s : State) := s.chan t ch (doSc1Trip sl vds)
/-- PLATEAU_END. -/
def execPlateauEnd (t : Tick) (ch : Ch) (sl : Nat) (s : State) := s.live t ch (doPlateauEnd sl)
/-- GS_UV. -/
def execGsUv (t : Tick) (ch : Ch) (sl : Nat) (x : RailVolt) (s : State) := s.chan t ch (doGsUv sl x.neg x.v)
/-- GS_OV. -/
def execGsOv (t : Tick) (ch : Ch) (x : RailTrip) (s : State) := s.chan t ch (doGsOv x.sl x.neg x.v)
/-- ISL_OT. -/
def execIslOt (t : Tick) (ch : Ch) (sl : Nat) (s : State) := s.chan t ch (doIslOt sl)
/-- SLICE_SUPPLY_MEASURE. -/
def execSliceSupplyMeasure (t : Tick) (ch : Ch) (sl : Nat) (vneg vpos : Int) (ts : Nat) (isl : Int) (s : State) :=
  s.live t ch (doSliceSupplyMeasure sl vneg vpos ts isl)
/-- EN_PIN_FALL. -/
def execEnPinFall (t : Tick) (ch : Ch) (p : Nat) (s : State) := s.live t ch (doEnPinFall p)
/-- EN_PIN_RISE. -/
def execEnPinRise (t : Tick) (ch : Ch) (p : Nat) (s : State) := s.live t ch (doEnPinRise p)

end Sys2Proof.Machine
end

