-- ==== Sys2Proof/Machine/SliceMeas.lean ====
section
/-! DEFINITION. Machine/SliceMeas.lean: the off-state drain-source voltages and the telemetry of a slice (R129, R225, R228, R229,
R246, R270). -/

namespace Sys2Proof.Machine

/-- A voltage in counts of 0.05 V as PU16 of a base given as a binary32 code, rounded (R6) and saturated; 0 for a base that is no
positive number. -/
def vdsPu (v : Int) (base : Nat) : Int :=
  match b32 base with
  | none => 0
  | some (m, e) =>
    if m ≤ 0 then 0
    else if 0 ≤ e then sat16 (rdiv (v * 8192) (20 * m.toNat * 2 ^ e.toNat))
    else sat16 (rdiv (v * 8192 * (2 ^ (-e).toNat : Nat)) (20 * m.toNat))

/-- The conditions of R225 under which slice `s` measures its off-state voltage. -/
def Chan.vdsMeasures (c : Chan) (s : Nat) : Bool :=
  let x := c.sl s
  if s < 6 then !x.isOn && (c.sl (partner s)).gateOn && c.since (c.sl (partner s)).gateAt (ns 500)
  else !x.isOn && !x.gateOn && c.since x.gateAt (ns 500)

/-- The off-state monitor at a report of phase slice `s` (R270). -/
def Chan.offMonitor (c : Chan) (s : Nat) (v : Int) : Chan :=
  if (c.state = RUN ∨ c.state = HOLD ∨ c.state = FAULT) ∧ !c.gb DCL_STATUS_CMP 0 then
    match c.dcl with
    | none => c
    | some d =>
      if 20 * v < d then
        let c1 := c.onDust (fun x => { x with mon := bump x.mon s (fun n => min 256 (n + 1)) })
        if c1.g DUST_LEG_CFG_CNT < nth c1.dust.mon s ∧ !c1.gb (if s % 2 = 0 then LEG_HEALTH_FS_H else LEG_HEALTH_FS_L) (s / 2) then
          (c1.legSet (s % 2 == 0) (s / 2) LEG_HEALTH_SRC_MON).pulse LEG_FAIL
        else c1
      else c.onDust (fun x => { x with mon := x.mon.set s 0 })
  else c

/-- CHOP_SHORT at a report of slice 6 (R246). -/
def Chan.chopShort (c : Chan) (v : Int) : Chan :=
  let idle := match c.prot.chopAt with
    | none => true
    | some t => c.since t (us 20)
  if c.b CHOP_STATUS_ON ∨ !idle ∨ c.gb DCL_STATUS_CMP 0 then c
  else match c.dcl with
    | none => c
    | some d => c.follow CHOP_SHORT (decide (20 * v < d))

/-- A report of slice `s` in VDS_MEAS, and what it is judged for. -/
def Chan.vdsIn (c : Chan) (s : Nat) (v : Int) : Chan :=
  let pu := vdsPu v c.bases.v
  let c1 := (c.p (VDS_MEAS_VALID s) 1).pi (VDS_MEAS_VALUE s) pu
  if s < 6 then
    let c2 := c1.offMonitor s pu
    if s % 2 = 0 then c2.dclReport (s / 2) pu else c2
  else if s = 6 then c1.chopShort pu else c1

/-- SLICE_VDS_MEASURE (R225): the slice measures `v` counts of 0.05 V while the conditions of R225 hold. -/
def doSliceVdsMeasure (s : Nat) (v : Int) (c : Chan) : Chan :=
  if !c.linked s ∨ !c.vdsMeasures s then c else (c.onSl s (fun x => { x with vdsRef := some v })).vdsIn s v

/-- SLICE_TELEMETRY_FRAME (R228): the channel places a measurement that arrives. -/
def doSliceTelemetryFrame (s : Nat) (m : Telem) (c : Chan) : Chan :=
  if !c.linked s then c
  else
    let c1 := c.frameFrom s 4 0 none
    match m with
    | .rails vneg vpos => c1.railsIn s vneg vpos
    | .temps ts isl => c1.tempsIn s ts isl
    | .vds v => c1.vdsIn s v

/-- SLICE_VDS_MEASURE. -/
def execSliceVdsMeasure (t : Tick) (ch : Ch) (sl : Nat) (v : Int) (s : State) := s.live t ch (doSliceVdsMeasure sl v)
/-- SLICE_TELEMETRY_FRAME. -/
def execSliceTelemetryFrame (t : Tick) (ch : Ch) (sl : Nat) (m : Telem) (s : State) := s.live t ch (doSliceTelemetryFrame sl m)

end Sys2Proof.Machine
end

