-- ==== Sys2Proof/Machine/Engine.lean ====
section
/-! DEFINITION. Machine/Engine.lean: the decision boundary, the completed decision, the modulator's read-back and the reference writes
(R30, R51, R53, R57, R58, R144, R145, R162, R164, R167, R214, R255 to R257, R267, R268, R277). -/

namespace Sys2Proof.Machine

/-! ### The modulator at a boundary -/

/-- The boundary noted. -/
def Chan.noteBoundary (c : Chan) : Chan := c.onDtc (fun d => { d with boundAt := c.now, boundTime := c.devTime })

/-- The conduction records closed, after the edges of the boundary, which may have left the modulator before it (R149, R162). Outside RUN
they take up what the slices have come to command. -/
def Chan.closePeriod (c : Chan) : Chan :=
  let c1 := if c.state = RUN then c else c.each 3 (fun d k => d.recordLeg k d.now)
  c1.onDtc (fun d => { d with cond := (List.range 3).map (fun k => (d.cond.getD k {}).close (c.dead k) c.now) })

/-- The instant at which a leg's edge of this boundary leaves the modulator (R162). -/
def Chan.edgeAt (c : Chan) (leg : Nat) : Tick := c.now - 25 * bitsOf (c.rd EDGE_ADJ) (8 * leg + 7) (8 * leg)

/-- A vector applied to the legs with enables 1. -/
def Chan.applyVec (c : Chan) (v : Nat) : Chan := c.each 3 (fun d l => d.setPairAt l (d.edgeAt l) true (legOf v l))

/-- The decided vector applied in RUN (R145, R158): all switches off with the engine disabled or after the end of a DISARM's ramp; the
pins give the pulses under R214. -/
def Chan.applyRun (c : Chan) : Chan :=
  if c.ctl.rampEnded ∨ !c.b DTC_CTL_EN then c.legsOff
  else if c.b EN_STATUS_EXT_ACTIVE then c.each 3 (fun d l => d.setPair l true (d.pulseOf l))
  else match c.dtc.next with
    | some v => (c.onDtc (fun d => { d with next := none })).applyVec v
    | none => c

/-- Winding discharge at a boundary: its vector, or the return to OPEN once it has ended (R256, R257). -/
def Chan.applyWind (c : Chan) : Chan :=
  if c.prot.wind.isSome then
    match c.dtc.next with
    | some v => (c.onDtc (fun d => { d with next := none })).applyVec v
    | none => c
  else if c.g DUST_STATUS_SAFE = 4 then
    let c1 := (((c.onDtc (fun d => { d with next := none })).p DUST_STATUS_SAFE 1).p DUST_STATUS_PAIR_EN 0).legsOff
    let c2 := (c1.wrapInc DUST_SEL_COUNT_SEL).p DUST_IRQ_STATUS_SAFE_CHANGE 1
    c2.evt 4 9 0 0 c2.dustWord 0
  else c

/-- Leg `l` has not changed its pulse since the last boundary. -/
def Chan.still (c : Chan) (l : Nat) : Bool := !c.mask.chg.testBit l
/-- The legs whose pulse has been high since the last boundary, as a mask. -/
def Chan.highMask (c : Chan) : Nat := b2n (c.pulseOf 0 && c.still 0) + 2 * b2n (c.pulseOf 1 && c.still 1) + 4 * b2n (c.pulseOf 2 && c.still 2)
/-- The legs commanded low since the last boundary, as a mask. -/
def Chan.lowMask (c : Chan) : Nat := b2n (c.lowOn 0 && c.still 0) + 2 * b2n (c.lowOn 1 && c.still 1) + 4 * b2n (c.lowOn 2 && c.still 2)

/-- The modulator's part of a boundary. -/
def Chan.modBoundary (c : Chan) : Chan :=
  let hi := c.highMask
  let lo := c.lowMask
  if c.state = RUN then (c.applyRun.maskBoundary hi lo).onTimeEnd else c.applyWind

/-! ### References and the entry into RUN (R30, R51, R152, R161, R167) -/

/-- The command that the last write of TQ_REF released latched. -/
def Chan.latchStaged (c : Chan) : Chan :=
  c.onDtc (fun d => { d with
    cmd := c.gi TQ_REF_REF, seq := d.relSeq, spd := d.relSpd, staged := false, stagedTq := false })

/-- The engine at the entry into RUN: comparators, flux from the current model or zero, the governor, the counters. -/
def Chan.enterEngine (c : Chan) : Chan :=
  let z := if c.angleUsable then c.currentModel c.iab else (0, 0)
  let c1 := c.onDtc (fun d => { d with
    fs := true, ts := 0, psiA := z.1, psiB := z.2, entry := true, next := none, forced := false
    govN := [0, 0, 0], govD := 0, govSat := 0
    r := d.cmd, slew := false, tEff := 0, degr := false, clamp := false, loss := false })
  let c2 := ((c1.p DTC_STATUS_FS 1).p DTC_STATUS_TS 1).p GOV_STATUS_SCALE 0x1000
  (c2.obsEnter.maskEnter).onXchk (fun x => { x with runAt := c.now })

/-- A torque command applied at this boundary restarts the lapse timer and ends a lapse, after which the reference moves by steps (R57,
R58); in ARMED it leads to RUN unless
DISARM has been accepted. -/
def Chan.torqueApplied (c : Chan) : Chan :=
  if c.state = RUN then
    ((c.onDtc (fun d => { d with slew := d.slew || c.srcActive STREAM_LAPSE })).onCtl (fun x => { x with lapseAt := c.now })).clear STREAM_LAPSE
  else if c.state = ARMED ∧ !c.ctl.disarm then c.enterEngine.enterRun
  else c

/-- The references at a boundary. -/
def Chan.latchRef (c : Chan) : Chan :=
  if c.dtc.staged then
    let tq := c.dtc.stagedTq
    let c1 := c.latchStaged
    if tq then c1.torqueApplied else c1
  else c

/-- The ramp of this boundary made again, for a command latched at the boundary after it (R69). -/
def Chan.rampAgain (c : Chan) : Chan :=
  if c.state = RUN then (c.onDtc (fun d => { d with r := d.r0, slew := d.slew0 || d.slew })).refRamp else c

/-- The ramp of the reference, and the end of a DISARM's ramp (R53): at or above the ASC threshold HOLD follows at once, below it the
1 ms of R530 begins. -/
def Chan.rampBoundary (c : Chan) : Chan :=
  let c1 := if c.state = RUN then (c.onDtc (fun d => { d with r0 := d.r, slew0 := d.slew })).refRamp else c
  if (c1.state = ARMED ∨ (c1.state = RUN ∧ c1.dtc.r = 0)) ∧ c1.ctl.disarm ∧ !c1.ctl.rampEnded then
    let c2 := c1.onCtl (fun x => { x with rampEnded := true })
    if c2.b DUST_STATUS_SPD_HIGH then c2.enterHold 3 else c2.legsOff.transCheck
  else c1

/-! ### The speed class (R267, R268) -/

/-- The speed class formed from TRUST_SPD, and IDLE_SPIN. -/
def Chan.speedClass (c : Chan) : Chan :=
  let spd : Int := if c.g TRUST_STATUS_SRC = 3 then 0 else ((c.gi TRUST_SPD_W).natAbs : Int)
  let w : Int := c.g DUST_ASC_W_W
  let h : Int := c.g DUST_ASC_HYST_W
  let known := c.g TRUST_STATUS_SRC != 3
  let high := if !known then false else if w ≤ spd then true else if spd < w - h then false else c.b DUST_STATUS_SPD_HIGH
  let c1 := c.p DUST_STATUS_SPD_HIGH (b2n high)
  let c2 := if high then (if c1.state = PRIMED ∨ c1.state = ARMED then c1.raise IDLE_SPIN else c1) else c1.clear IDLE_SPIN
  c2.reselect.transCheck

/-! ### Winding discharge (R255, R257) -/

/-- |TRUST_SPD| lies below WD_W. -/
def Chan.windSlow (c : Chan) : Bool := Nat.blt (c.gi TRUST_SPD_W).natAbs (c.g WD_SPD_W)

/-- The conditions of R255. -/
def Chan.windReady (c : Chan) : Bool :=
  c.srcActive DCHG_FAIL && c.b PROT_CTL_WD_EN && c.cfbOpen && (c.g DUST_STATUS_SAFE == 1 || c.g DUST_STATUS_SAFE == 4) && c.windSlow
    && (List.range 6).all (fun s => !c.b (SL_STATUS_LATCHED s)) && c.g LEG_HEALTH_FS_H == 0 && c.g LEG_HEALTH_FS_L == 0
    && (c.g DTC_CTL_MACH_TYPE != 0 || c.angleUsable)

/-- Winding discharge ends where the trusted speed has reached WD_W (R257). -/
def Chan.windCheck (c : Chan) : Chan := if c.prot.wind.isSome && !c.windSlow then (c.windAbort.reselect).transCheck else c

/-- Winding discharge at a boundary: it starts when its conditions have come to hold. -/
def Chan.windBoundary (c : Chan) : Chan :=
  let ok := c.windReady
  let c1 := c.onProt (fun p => { p with windCond := ok })
  if ok && !c.prot.windCond && c.prot.wind.isNone then
    let c2 := (((c1.onProt (fun p => { p with wind := some c.now })).p DCHG_STATUS_STATE 6).p DUST_STATUS_SAFE 4).p DUST_STATUS_PAIR_EN 7
    let c3 := (c2.wrapInc DUST_SEL_COUNT_SEL).p DUST_IRQ_STATUS_SAFE_CHANGE 1
    c3.evt 4 9 0 0 c3.dustWord 0
  else c1

/-! ### The commands -/

/-- DECISION_BOUNDARY (R145): the decided vector is applied and the period closes; the checks, the position, the references and the
speed class are brought up to date, and the boundary's triggers fire. -/
def doDecisionBoundary (c : Chan) : Chan :=
  let c1 := c.noteBoundary.modBoundary.closePeriod
  let c2 := (c1.position.crossCheck).ageCheck
  let c3 := (c2.latchRef).trust
  let c4 := ((c3.windCheck).speedClass.rampBoundary).windBoundary
  (c4.preCompare).adcBoundary

/-- The channel while a decision is worked out: what the decision produces carries the boundary's time (R38). -/
def Chan.stamped (c : Chan) (t : Option Nat) : Chan := { c with tb := { c.tb with stamp := t } }

/-- DECISION_COMPLETE (R145): the decision for the next boundary, the observer's step, the torque window, the monitor's sample, the
telemetry record and the rings' sample. -/
def doDecisionComplete (ecc : Nat) (c : Chan) : Chan :=
  let c1 := (c.stamped (some c.dtc.boundTime)).engine ecc
  let c2 := if c1.state = ARMED ∨ c1.state = RUN ∨ c1.state = HOLD ∨ c1.state = FAULT then c1.observe.torqueWindow (c1.state == RUN) else c1
  ((c2.tmSample.telemetry).ringSample).stamped none

/-- The pulses that the pins of the legs give in RUN under R214. -/
def Chan.extPulses (c : Chan) (pins : Nat) : Chan :=
  if c.b EN_STATUS_EXT_ACTIVE ∧ c.state = RUN then c.each 3 (fun d l => d.setPair l (d.gb EN_STATUS_EN_INT l) (pins.testBit l)) else c

/-- The pulse of leg `l` read back as `v` differs from the scheduled state, 20 ns or more after its last scheduled edge (R164). -/
def Chan.readsBad (c : Chan) (l : Nat) (v : Bool) : Bool :=
  v != c.pulseOf l && (match c.modul.hist.find? (fun e => e.2.1 == l) with
    | none => true
    | some e => c.since e.1 (ns 20))

/-- MOD_READBACK (R164): the levels that the drivers of the legs U, V, W read back as, and under R214 the levels of their pins, which are
the scheduled pulses; a difference raises MOD_READBACK. -/
def doModReadback (pulses pins : Nat) (c : Chan) : Chan :=
  let c1 := c.extPulses pins
  if (List.range 3).any (fun l => c1.readsBad l (pulses.testBit l)) then c1.raise MOD_READBACK_SRC else c1

/-- A write of TQ_REF that releases the staged pair (R167); `tq` tells whether it carries a torque command. -/
def Chan.writeTqRef (c : Chan) (ref : Nat) (tq : Bool) : Chan :=
  (c.p TQ_REF_REF ref).onDtc (fun d => { d with
    staged := true, stagedTq := d.stagedTq || tq, relSeq := c.g TQ_SEQ_SEQ, relSpd := c.g SPD_LIM_W })

/-- TQ_REF_WRITE. -/
def doTqRefWrite (ref : Nat) (c : Chan) : Chan := c.writeTqRef ref true

/-- STAGED_REF_WRITE: TQ_SEQ, or with `spd` SPD_LIM. -/
def doStagedRefWrite (spd : Bool) (value : Nat) (c : Chan) : Chan :=
  if spd then c.p SPD_LIM_W value else c.p TQ_SEQ_SEQ value

/-- DECISION_BOUNDARY. -/
def execDecisionBoundary (t : Tick) (ch : Ch) (s : State) := s.live t ch doDecisionBoundary
/-- DECISION_COMPLETE. -/
def execDecisionComplete (t : Tick) (ch : Ch) (ecc : Nat) (s : State) := s.live t ch (doDecisionComplete ecc)
/-- MOD_READBACK. -/
def execModReadback (t : Tick) (ch : Ch) (x : ReadBack) (s : State) := s.live t ch (doModReadback x.pulses x.pins)
/-- TQ_REF_WRITE. -/
def execTqRefWrite (t : Tick) (ch : Ch) (ref : Nat) (s : State) := s.live t ch (doTqRefWrite ref)
/-- STAGED_REF_WRITE. -/
def execStagedRefWrite (t : Tick) (ch : Ch) (spd : Bool) (value : Nat) (s : State) := s.live t ch (doStagedRefWrite spd value)

end Sys2Proof.Machine
end

