-- ==== Sys2Proof/Machine/Sinc.lean ====
section
/-! DEFINITION. Machine/Sinc.lean: the sigma-delta inputs and their sinc filters (R97 to R117). -/

namespace Sys2Proof.Machine

/-- Source STUCKn. -/
def STUCK (n : Nat) : Src := ⟨2, 8 + n⟩
/-- Source CLK_LOSS. -/
def CLK_LOSS : Src := ⟨2, 12⟩
/-- Source SKIM_FAIL. -/
def SKIM_FAIL : Src := ⟨2, 13⟩
/-- Source MCLK_RANGE. -/
def MCLK_RANGE : Src := ⟨2, 14⟩
/-- Source CMPHn. -/
def CMPH (n : Nat) : Src := ⟨2, n⟩
/-- Source CMPLn. -/
def CMPL (n : Nat) : Src := ⟨2, 4 + n⟩

/-- Input `n`. -/
def Chan.sdIn (c : Chan) (n : Nat) : SdIn := c.sinc.inp.getD n {}
/-- The channel with input `n` changed. -/
def Chan.onSd (c : Chan) (n : Nat) (f : SdIn → SdIn) : Chan := c.onSinc (fun x => { x with inp := x.inp.set n (f (c.sdIn n)) })
/-- Input `n` is enabled. -/
def Chan.sdOn (c : Chan) (n : Nat) : Bool := Nat.blt n 4 && c.gb SD_CTL_IN_EN n

/-- What R103 does to input `n` in steps 1 to 5: invalid, partial window and filters discarded, RESULT and the verdicts kept. -/
def Chan.sdFlush (c : Chan) (n : Nat) (byLand : Bool) : Chan :=
  (((c.onSd n (fun _ => { byLand := byLand })).pb SD_STATUS_VALID n false).pb SD_STATUS_SETTLING n false).p (DF_RES_VALID n) 0

/-- A loss of input `n` (R103): with step 7, the count of episodes. -/
def Chan.sdLose (c : Chan) (n : Nat) : Chan := (c.sdFlush n false).satInc (SD_LOSS_COUNT_COUNT n)

/-- Bit 0 of a new window of input `n` (R104, R105, R109), if nothing else keeps the input invalid. -/
def Chan.sdSettle (c : Chan) (n : Nat) : Chan :=
  if !c.sdOn n ∨ c.sinc.clkLost ∨ c.sinc.range ∨ c.gb SD_STATUS_STUCK n then c
  else (c.onSd n (fun x => { x with live := true, bits := [], win := 0, dfN := 0, cfN := 0, hi := 0, lo := 0, ins := 0 })).pb SD_STATUS_SETTLING n true

/-- Every enabled input loses its clock. -/
def Chan.sdLoseAll (c : Chan) : Chan := c.each 4 (fun d n => if d.sdOn n then d.sdLose n else d)
/-- Every enabled input starts a new window. -/
def Chan.sdSettleAll (c : Chan) : Chan := c.each 4 Chan.sdSettle

/-! ### The clock (R97 to R101, R103, R104) -/

/-- The pin MCLK (R97): the modulators' clock input, an output held low, or an output of one period every `div` CD_MODx counts. -/
inductive MclkPin where
  | input
  | low
  | runs (div : Nat)
  deriving DecidableEq, Repr

/-- What the channel does with its MCLK pin (R97). -/
def Chan.mclk (c : Chan) : MclkPin :=
  if c.b SD_CTL_CLK_MODE then .input else if c.g SD_CTL_IN_EN = 0 then .low else .runs (c.g SD_MCLK_DIV)

/-- The period that a measurement over 256 periods finds, in CD_MODx counts with 8 fraction bits: `p` of an external clock, DIV of the
channel's own. -/
def Chan.mclkPeriod (c : Chan) (p : Nat) : Nat :=
  match c.mclk with
  | .input => p
  | .low => c.g SD_MCLK_MEAS_PERIOD
  | .runs div => div * 256

/-- SD_MCLK_MEASURE: the period over 256 periods, in CD_MODx counts with 8 fraction bits (R99). In mode 1 a frequency outside
4.75 MHz to 26.25 MHz has the consequences of a clock loss; a later measurement inside the range ends it. Its source is MCLK_RANGE and
SD_STATUS.CLK_OK, which says that MCLK is present, stays 1 (DESIGN CHOICE, log 81). -/
def doSdMclkMeasure (p : Nat) (c : Chan) : Chan :=
  let c1 := c.p SD_MCLK_MEAS_PERIOD (c.mclkPeriod p)
  let f := 960 * 256 * 100
  let out := c.b SD_CTL_CLK_MODE && (Nat.blt f (475 * p) || Nat.blt (2625 * p) f)
  if out then
    if c1.sinc.range then c1
    else (((c1.onSinc (fun x => { x with range := true })).sdLoseAll).raise MCLK_RANGE).secEval
  else if c1.sinc.range then (((c1.onSinc (fun x => { x with range := false })).clear MCLK_RANGE).sdSettleAll).secEval
  else c1

/-- CLK_LOSS (R100, R103). In mode 0 without an enabled input MCLK does not run (R97), and nothing is lost. -/
def doClkLoss (c : Chan) : Chan :=
  if c.sinc.clkLost ∨ c.mclk = .low then c
  else ((((c.onSinc (fun x => { x with clkLost := true })).p SD_STATUS_CLK_OK 0).sdLoseAll).raise CLK_LOSS).secEval

/-- SD_CLOCK_RESUME (R104): the eighth consecutive edge; one after no loss only shows that MCLK is present. -/
def doSdClockResume (c : Chan) : Chan :=
  if c.mclk = .low then c
  else if !c.sinc.clkLost then c.p SD_STATUS_CLK_OK 1
  else ((((c.onSinc (fun x => { x with clkLost := false })).p SD_STATUS_CLK_OK 1).clear CLK_LOSS).sdSettleAll).secEval

/-- STUCK_DATA (R102, R103): 64 identical bits on input `n`. -/
def doStuckData (n : Nat) (c : Chan) : Chan :=
  if !c.sdOn n ∨ c.gb SD_STATUS_STUCK n then c
  else (((c.pb SD_STATUS_STUCK n true).sdLose n).raise (STUCK n)).secEval

/-- SD_STUCK_END (R104): the first bit that differs. -/
def doSdStuckEnd (n : Nat) (c : Chan) : Chan :=
  if 3 < n ∨ !c.gb SD_STATUS_STUCK n then c
  else (((c.pb SD_STATUS_STUCK n false).clear (STUCK n)).sdSettle n).secEval

/-! ### The filters (R106, R108, R110) -/

/-- The correction of R106 of a raw output `d` of a filter whose full count is `full`. -/
def sdCorrect (d full : Nat) (ofs gain : Int) : Int :=
  let norm := satI (-8388608) 8388607 (rdiv ((2 * (d : Int) - full) * 8388608) full)
  sat16 (rdiv ((norm - ofs) * gain) (2 ^ 31))

/-- The group delay of R108 in CD_MODx counts; in mode 1 from the measured period, rounded to the nearest count. -/
def Chan.sdGdly (c : Chan) (n : Nat) : Nat :=
  let bits2 := c.g (DF_CFG_ORD n) * (c.g (DF_CFG_OSR n) - 1) + 4
  if c.b SD_CTL_CLK_MODE then (rdiv ((bits2 * c.g SD_MCLK_MEAS_PERIOD : Nat) : Int) 512).toNat + 6
  else (rdiv ((bits2 * c.g SD_MCLK_DIV : Nat) : Int) 2).toNat + 4

/-- The sums of `osr` successive entries, each from its own entry on. -/
def boxcar (osr : Nat) : List Nat → List Nat
  | [] => []
  | x :: l => ((x :: l).take osr).sum :: boxcar osr l

/-- The sums taken `n` times over. -/
def boxcars (osr : Nat) : Nat → List Nat → List Nat
  | 0, l => l
  | n + 1, l => boxcars osr n (boxcar osr l)

/-- The raw output of a sinc filter of order `ord` over its bits, newest first, from 0 to osr ^ ord (R106, R110); the bits before bit 0
count as 0. -/
def sincCount (ord osr : Nat) (bits : List Bool) : Nat := nth (boxcars osr ord (bits.map b2n)) 0

/-- The data filter of input `n` completes a window of OSR bits (R106); the outputs before the ORD-th after bit 0
are discarded (R105). Without a whole window there is none. -/
def Chan.sdWindow (c : Chan) (n : Nat) : Chan :=
  let x := c.sdIn n
  let osr := c.g (DF_CFG_OSR n)
  if !c.sdOn n ∨ !x.live ∨ x.win < osr then c
  else
    let ord := c.g (DF_CFG_ORD n)
    let d := sincCount ord osr (x.bits.drop (x.win - osr))
    let c1 := c.onSd n (fun y => { y with win := y.win - osr, dfN := min ord (y.dfN + 1) })
    if (c1.sdIn n).dfN < ord then c1
    else
      let v := sdCorrect d (osr ^ ord) (c.gi (DF_OFS_OFS n)) (c.gi (DF_GAIN_GAIN n))
      let t := c.devTime
      let g := c.sdGdly n
      let c2 := (((c1.wr (DF_RES n) (2 ^ 31 + (c.g (DF_RES_COUNT n) + 1) % 128 * 2 ^ 24 + toBits 16 v)).wr (DF_TIME_LO n) (t % 2 ^ 32)).wr
        (DF_TIME_HI n) (t / 2 ^ 32)).p (DF_GDLY_GDLY n) g
      let c3 := if c.sdValid n then c2
        else (((c2.pb SD_STATUS_VALID n true).pb SD_STATUS_SETTLING n false).pb SD_IRQ_STATUS_VALID_RISE n true).onSd n
          (fun y => { y with byLand := false })
      (c3.secSample n ((c.now : Int) - (g * ticksPerMod : Nat)) v).secEval

/-- The comparator's verdict on an output `v` of input `n` (R110). -/
def Chan.sdVerdict (c : Chan) (n : Nat) (v : Int) : Chan :=
  let need := c.g (CF_CFG_DEBOUNCE n) + 1
  let above := decide (c.gi (CF_LIM_HIGH n) < v)
  let below := decide (v < c.gi (CF_LIM_LOW n))
  let c1 := c.onSd n (fun y => { y with
    hi := if above then min 16 (y.hi + 1) else 0
    lo := if below then min 16 (y.lo + 1) else 0
    ins := if above || below then 0 else min 16 (y.ins + 1) })
  let y := c1.sdIn n
  let c2 := if need ≤ y.hi then (c1.p (CF_RES_HIGH_TRIP n) 1).raise (CMPH n) else c1
  let c3 := if need ≤ y.lo then (c2.p (CF_RES_LOW_TRIP n) 1).raise (CMPL n) else c2
  if need ≤ y.ins then (((c3.p (CF_RES_HIGH_TRIP n) 0).p (CF_RES_LOW_TRIP n) 0).clear (CMPH n)).clear (CMPL n) else c3

/-- SD_COMPARATOR_OUTPUT: a period of MCLK, in which input `n` has sampled a bit for both its filters; the comparator filter's output over
the ORD × OSR bits that ended two periods before (its pipeline, R107), discarded within the settling time (R105, R110). -/
def doSdComparatorOutput (n : Nat) (bit : Bool) (c : Chan) : Chan :=
  let x := c.sdIn n
  if !c.sdOn n ∨ !x.live then c
  else
    let ord := c.g (CF_CFG_ORD n)
    let osr := c.g (CF_CFG_OSR n)
    let need := ord * osr + 2
    let c1 := c.onSd n (fun y => { y with bits := (bit :: y.bits).take 1024, win := min 1024 (y.win + 1), cfN := min need (y.cfN + 1) })
    if (c1.sdIn n).cfN < need then c1
    else
      let d := sincCount ord osr ((c1.sdIn n).bits.drop 2)
      let v := sdCorrect d (osr ^ ord) (c.gi (DF_OFS_OFS n)) (c.gi (DF_GAIN_GAIN n))
      let c2 := c1.pi (CF_RES_VALUE n) v
      if c2.b (CF_CFG_EN n) then c2.sdVerdict n v else c2

/-- SD_DATA_FILTER_OUTPUT: a window of input `n` is whole, after the bits of it that have not come one by one, oldest first (log 80). -/
def doSdDataFilterOutput (n : Nat) (tail : List Bool) (c : Chan) : Chan := (tail.foldl (fun d b => doSdComparatorOutput n b d) c).sdWindow n

/-- A safety landing at SINC (R113): every filter flushed without a source, every enabled input settling from its first bit; the
verdicts of a comparator that is no longer enabled end. -/
def Chan.landSinc (c : Chan) : Chan :=
  let c1 := c.each 4 (fun d n =>
    let e := d.sdFlush n (d.sdOn n && (d.sdValid n || (d.sdIn n).byLand))
    if e.b (CF_CFG_EN n) then e else (((e.p (CF_RES_HIGH_TRIP n) 0).p (CF_RES_LOW_TRIP n) 0).clear (CMPH n)).clear (CMPL n))
  let c2 := if c1.mclk = .low then c1.p SD_STATUS_CLK_OK 0 else c1
  (c2.sdSettleAll).secEval

/-- SD_MCLK_MEASURE. -/
def execSdMclkMeasure (t : Tick) (ch : Ch) (period : Nat) (s : State) := s.live t ch (doSdMclkMeasure period)
/-- CLK_LOSS. -/
def execClkLoss (t : Tick) (ch : Ch) (s : State) := s.live t ch doClkLoss
/-- STUCK_DATA. -/
def execStuckData (t : Tick) (ch : Ch) (n : Nat) (s : State) := s.live t ch (doStuckData n)
/-- SD_CLOCK_RESUME. -/
def execSdClockResume (t : Tick) (ch : Ch) (s : State) := s.live t ch doSdClockResume
/-- SD_STUCK_END. -/
def execSdStuckEnd (t : Tick) (ch : Ch) (n : Nat) (s : State) := s.live t ch (doSdStuckEnd n)
/-- SD_DATA_FILTER_OUTPUT. -/
def execSdDataFilterOutput (t : Tick) (ch : Ch) (n : Nat) (tail : List Bool) (s : State) := s.live t ch (doSdDataFilterOutput n tail)
/-- SD_COMPARATOR_OUTPUT. -/
def execSdComparatorOutput (t : Tick) (ch : Ch) (n : Nat) (bit : Bool) (s : State) := s.live t ch (doSdComparatorOutput n bit)

end Sys2Proof.Machine
end

