-- ==== Sys2Proof/Machine/Image.lean ====
section
/-! DEFINITION. Machine/Image.lean: the parameter sets of a channel: which registers belong to a kind, the image of R63, the copies
swapped at a landing (R61), the range checks of R63 and of the chapters. -/

namespace Sys2Proof.Machine

/-! ### The registers of a kind (R63, R398) -/

/-- The set that a kind commits. -/
def Kind.set (k : Kind) : PSet :=
  match k with
  | .tuning => .tuning
  | .safety => .safety

/-- The offsets of a row's instances (R523). -/
def regAddrs (d : RegDesc) : List Nat :=
  (List.range (max 1 d.winCount)).flatMap (fun w => (List.range (max 1 d.idxCount)).map (fun i => d.first + w * d.winStride + i * d.idxStride))

/-- A list of offsets put in ascending order. -/
def insertAsc (a : Nat) : List Nat → List Nat
  | [] => [a]
  | b :: bs => if a ≤ b then a :: b :: bs else b :: insertAsc a bs

/-- The offsets of a block's registers that hold RWC fields of a set, ascending. -/
def blockSet (ds : List RegDesc) (s : PSet) : List Nat :=
  (ds.filter (fun d => d.pset == s && rwcMask d.fields != 0)).foldr (fun d l => (regAddrs d).foldr insertAsc l) []

/-- The offsets of the registers of a kind, ascending; for the tuning kind the 72 stencil words stand among those of DTC (R63). -/
def Kind.addrs (k : Kind) : List Nat := (List.range 13).flatMap (fun b => blockSet (chanBlockMap (4096 * b)) k.set)

/-- The bits of a register's RWC fields. -/
def rwcBits (a : Nat) : Nat :=
  match chanDesc a with
  | none => 0
  | some d => rwcMask d.fields

/-- The set of a register. -/
def setOf (a : Nat) : PSet :=
  match chanDesc a with
  | none => .none
  | some d => d.pset

/-- An entry of an image (R63, R399): offset and value with every bit outside the kind's RWC fields 0; `shadow` names the bank. -/
def Chan.entry (c : Chan) (shadow : Bool) (a : Nat) : Nat × Nat := (a, (if shadow then c.rds a else c.rd a) &&& rwcBits a)

/-- The image of a kind (R63). -/
def Chan.image (c : Chan) (k : Kind) (shadow : Bool) : List (Nat × Nat) := k.addrs.map (c.entry shadow)

/-- The bytes of an image. -/
def imageBytes (l : List (Nat × Nat)) : List Nat := wordBytes (l.map Prod.snd)

/-- The base values that an image of a tuning set sets (R4, log 19). -/
def basesOf (l : List (Nat × Nat)) : Bases :=
  ⟨Config.baseOf 0 l, Config.baseOf 1 l, Config.baseOf 2 l, Config.baseOf 3 l, Config.baseOf 4 l⟩

/-- The CRC-32 of an image (R63). -/
def Chan.imageCrc (c : Chan) (k : Kind) (shadow : Bool) : Nat := crc32.of (imageBytes (c.image k shadow))

/-! ### Swapped copies (R61, R62) -/

/-- One register's new active word: its RWC bits from the shadow copy. -/
def Chan.takeShadow (c : Chan) (a : Nat) : Chan :=
  let m := rwcBits a
  c.wr a ((c.rd a &&& (0xFFFFFFFF ^^^ m)) ||| (c.rds a &&& m))

/-- The channel with the copies of a kind swapped. -/
def Chan.swapped (c : Chan) (k : Kind) : Chan := k.addrs.foldl Chan.takeShadow c

/-- One register's shadow copy refreshed from its active copy (R62). -/
def Chan.refresh (c : Chan) (a : Nat) : Chan := c.wrs a (c.rd a)

/-- The shadow copies of a kind refreshed. -/
def Chan.refreshed (c : Chan) (k : Kind) : Chan := k.addrs.foldl Chan.refresh c

/-! ### Stated ranges (R63); every check below is made on the values that would become active -/

/-- A field lies in a range. -/
def Chan.inR (c : Chan) (f : Fld) (lo hi : Nat) : Bool := Nat.ble lo (c.g f) && Nat.ble (c.g f) hi

/-- A field lies in 0 to 0x7FFF. -/
def Chan.pos (c : Chan) (f : Fld) : Bool := c.inR f 0 0x7FFF

/-- Fields whose range is 0 to 0x7FFF. -/
def posFields : List Fld :=
  [XC_LIM_ZS_LIM, XC_LIM_CURR_LIM, DCL_CFG_DCL_LIM, FLUX_CFG_HB, FLUX_CFG_NOM, TQ_CFG_HB, MODEL_RS_RS, OBS_LIM0_FLUX_TOL,
   TW_LIM_ABS, TW_LIM_MARGIN, TM_LIM_CM_EST, TM_LIM_CM_CMD, TM_LIM_PB_EST, TM_LIM_PB_CMD, DUST_DEG_LIM, PRE_SRC_VNOM]

/-- Ranges of CHCTL, ADC and SINC. -/
def Chan.rangesA (c : Chan) : Bool :=
  c.inR LAPSE_RAMP_T_COUNT 240000 0xFFFFFFFF && Nat.blt (c.g LAPSE_RAMP_T_COUNT) (c.g LAPSE_HOLD_T_COUNT)
  && c.inR LAPSE_RAMP_STEP_STEP 1 0x2000
  && c.inR REFINJ_CTL_LVL 0 2 && c.inR SCAN_INTERVAL_COUNT 1200 0xFFFFFF
  && (List.range 4).all (fun n => c.inR (CONV_CTL_REG_TRIG n) 0 4 && c.inR (REG_TIMER_COUNT n) 120 0xFFFFFF)
  && (List.range 8).all (fun k => c.inR (WCMP_CTL_SRC k) 0 4)
  && c.inR SD_MCLK_DIV 39 192 && c.inR SD_CLKLOSS_T_COUNT 16 255
  && (List.range 4).all (fun n => c.inR (DF_CFG_ORD n) 1 4 && c.inR (DF_CFG_OSR n) 4 256 && c.inR (CF_CFG_ORD n) 1 3 && c.inR (CF_CFG_OSR n) 4 32)

/-- Ranges of XCHK, DTC, MASK and OBS. -/
def Chan.rangesB (c : Chan) : Bool :=
  posFields.all c.pos
  && c.inR XC_CFG_PRI_AGE 1 15 && c.inR XC_CFG_PRI_KIND 0 1 && c.inR DCL_CFG_DCL_AGE 1 255
  && c.inR POS_CFG_PP_SENS 1 8 && c.inR POS_CFG_PP_MACH 1 16 && c.inR POS_CFG_SRC 0 2
  && c.inR RES_EXC_AMP 32 224 && c.inR RES_EXC_PER 12000 48000 && c.inR RES_CFG_TRK_BW 0 5 && c.inR RES_CFG_TRK_LIM 1 15
  && c.inR ENC_CFG_LINES 1 65535
  && c.inR DTC_CTL_MACH_TYPE 0 1 && c.inR DTC_PERIOD_COUNT 240 2400 && c.inR DTC_RD_OFS_OFS 4 0xFFF && c.inR DWELL_MIN_COUNT 120 4800
  && c.inR DEAD_TU_STEPS 384 15360 && c.inR DEAD_TV_STEPS 384 15360 && c.inR DEAD_TW_STEPS 384 15360
  && c.inR EDGE_ADJ_ADV_U 0 127 && c.inR EDGE_ADJ_ADV_V 0 127 && c.inR EDGE_ADJ_ADV_W 0 127
  && c.inR BLEND_W_W 1 0xFFFFFFFF && c.inR SIX_CFG_ADV_LIM 0 5461 && c.inR GOV_CFG_N 64 4095 && c.inR GOV_CFG_TGT 2000 50000
  && c.inR GOV_LIM_MIN 0x100 (c.g GOV_LIM_MAX)
  && (List.range 72).all (fun i => c.inR (STENCIL_SH_ZPREF i) 0 2)
  && c.inR MASK_WIN_WIDTH 120 24000 && c.inR MASK_WIN_N 2 255 && c.inR MASK_BOOT_REFRESH_W 120 24000 && c.inR MASK_BOOT_TON_MAX 1 65535
  && c.inR OBS_CFG_REACQ_CNT 1 255 && c.inR OBS_CFG_BW 0 7 && c.inR OBS_CFG_STEP_SPAN 0 10
  && c.inR OBS_LIM0_RES_LIM 1 0x7FFF && c.inR OBS_LIM1_ANG_LIM 1 0x7FFF && c.inR TW_CFG_HIST 1 255

/-- Ranges of SLICE, PROT, DUST, MSIO and SKIM, and the severities. -/
def Chan.rangesC (c : Chan) : Bool :=
  (List.range 8).all (fun s => c.inR (SL_SUPPLY_VPOS s) 0 50 && c.inR (SL_SUPPLY_VNEG s) 0 60 && c.inR (SL_SUPPLY_UV_MARGIN s) 0 25
    && c.inR (FTH_TGT_TGT_ON s) 40 1000 && c.inR (FTH_TGT_TGT_OFF s) 40 1000
    && Nat.ble (c.g (FTH_SEG_MIN_ON s)) (c.g (FTH_SEG_MAX_ON s)) && Nat.ble (c.g (FTH_SEG_MIN_OFF s)) (c.g (FTH_SEG_MAX_OFF s))
    && c.inR (FTH_SEG_INIT_ON s) (c.g (FTH_SEG_MIN_ON s)) (c.g (FTH_SEG_MAX_ON s))
    && c.inR (FTH_SEG_INIT_OFF s) (c.g (FTH_SEG_MIN_OFF s)) (c.g (FTH_SEG_MAX_OFF s))
    && c.inR (SC_LVL_BLANK s) 10 200 && c.inR (SC_TLTO_PLAT_T s) 1 20 && c.inR (SC_TLTO_PLAT s) 10 31)
  && c.inR PRIMER_CFG_SETTLE 1 8 && c.inR DCL_EXT_T_T 20 65535 && c.inR CHOP_CFG_MIN_T 1 255 && c.inR CHOP_CFG_PROVE_T 2 20
  && c.inR DCHG_CFG0_RES 1 65535 && c.inR DCHG_CFG0_EMAX 1 65535 && c.inR DCHG_CFG1_TAU 1 65535 && c.inR DCHG_CFG2_DCHG_T 1 4095
  && c.inR DCHG_CFG2_CHECK_T 1 255 && c.inR DCHG_CFG2_CHECK_DROP 1 50 && c.inR DCHG_STATUS_AUTO_DLY 5 255
  && c.inR DUST_CTL_HARD_MAX 1 3 && c.inR MSIO_CTL_AUX_MODE 0 2 && c.inR CONT_DEB_DEB 1 100 && c.inR PRE_CFG_PCT 50 99
  && c.inR PRE_CFG_T 10 5000 && c.inR PRE_SRC_CONV 0 4 && c.inR GUARD_CFG_DISC_T 10 500 && c.inR GUARD_CFG_FILT 1 50
  && c.inR ACK_CFG_DEB 5 100 && c.inR SKIM_CFG_CYCLE 20 100
  && (List.range 13).all (fun b => (List.range (srcRegs b).n).all (fun i => Nat.ble (c.sevOf ⟨b, i⟩) 4))

/-! ### Rules over several fields -/

/-- The number of set bits among the low 16. -/
def ones16 (m : Nat) : Nat := (List.range 16).foldl (fun n i => n + b2n (m.testBit i)) 0

/-- The phases that XC_MAP gives a primary source. -/
def Chan.priPhases (c : Chan) : Nat := (List.range 3).foldl (fun n k => n + b2n ((c.rd XC_MAP).testBit (8 * k + 4))) 0

/-- A binary32 code is finite; `strict` asks for a value above 0, else for one that is not negative (R200). -/
def b32Ok (strict : Bool) (w : Nat) : Bool :=
  match b32 w with
  | none => false
  | some (m, _) => if strict then decide (0 < m) else !w.testBit 31 || m == 0

/-- R84, R101, R112, R119, R121, R132, R145, R147 and the window comparators' limits. -/
def Chan.crossA (c : Chan) : Bool :=
  (!c.b ADC_CTL_ADC3_MODE || Nat.ble (120 * ones16 (c.g SCAN_MASK_MASK) + 8) (c.g SCAN_INTERVAL_COUNT))
  && (List.range 8).all (fun k => !c.b (WCMP_CTL_EN k) || decide (c.gi (WCMP_LIM_LOW k) ≤ c.gi (WCMP_LIM_HIGH k)))
  && (c.b SD_CTL_CLK_MODE || Nat.blt (3 * c.g SD_MCLK_DIV) (8 * c.g SD_CLKLOSS_T_COUNT))
  && (List.range 4).all (fun n => !c.b (CF_CFG_EN n) || decide (c.gi (CF_LIM_LOW n) ≤ c.gi (CF_LIM_HIGH n)))
  && (!c.b XC_CFG_ZS_EN || c.priPhases == 3)
  && (c.g XC_CFG_PRI_KIND != 1 || (Nat.blt (c.g MASK_WIN_N) (c.g XC_CFG_PRI_AGE) && c.b MASK_CTL_WIN_EN))
  && c.g POS_CFG_PP_MACH % max 1 (c.g POS_CFG_PP_SENS) == 0
  && Nat.ble (c.g DTC_RD_OFS_OFS + 76) (c.g DTC_PERIOD_COUNT)
  && (!c.b DTC_CTL_EN || (Nat.ble 2 c.priPhases && (c.g XC_MAP_DCL).testBit 4))

/-- R176, R179, R200 and the rules of SLICE (R226, R234). -/
def Chan.crossB (c : Chan) : Bool :=
  Nat.ble (2 * c.zForced.num) c.zForced.den
  && (!c.b MASK_CTL_BOOT_EN || Nat.ble (ceilDiv (c.g DWELL_MIN_COUNT) c.perCyc) (c.g MASK_BOOT_TON_MAX))
  && (!c.b OBS_CFG_EN || c.b DTC_CTL_EN)
  && (!c.b TM_CFG_EN || (c.g TM_CFG_MACH == c.g DTC_CTL_MACH_TYPE && b32Ok true (c.rd TM_KT) && b32Ok true (c.rd TM_KP)
    && [TM_LD, TM_LQ, TM_PSI, TM_RLOSS, TM_P0, TM_PB_W].all (fun a => b32Ok false (c.rd a))))
  && [1, 3, 5, 6, 7].all (fun s => !c.b (SL_CFG_BOOT s))
  && (List.range 3).all (fun l => !c.b (SL_CFG_BOOT (2 * l)) || (!c.b (SL_CFG_TS_EN (2 * l)) && !c.b (SL_CFG_TS_EN (2 * l + 1))))
  && (c.b MASK_CTL_BOOT_EN == (List.range 8).any (fun s => c.b (SL_CFG_BOOT s)))
  && (!c.b DTC_CTL_EN || (List.range 6).all (fun s => c.b (SL_CFG_USED s)))

/-- The sources with a floor at S3 (R266). -/
def floorSources : List Src := [SC_TRIP, INTERLOCK, OFF_SHORT, ⟨11, 0⟩, LEG_FAIL]

/-- R236, R240, R253, R255, R266, R282. -/
def Chan.crossC (c : Chan) : Bool :=
  (List.range 8).all (fun s => Nat.blt (c.g (SC_LVL_SC1 s)) (c.g (SC_LVL_SC2 s))
    && (!c.b (SC_TLTO_TLTO_EN s) || Nat.ble (5 * c.g (SC_TLTO_PLAT s)) (130 + c.g (SL_SUPPLY_VPOS s))))
  && Nat.blt (c.g DCL_LVL2_UV) (c.g DCL_LVL1_OV1_OFF) && Nat.blt (c.g DCL_LVL1_OV1_OFF) (c.g DCL_LVL1_OV1_ON)
  && Nat.blt (c.g DCL_LVL1_OV1_ON) (c.g DCL_LVL0_OVR) && Nat.blt (c.g DCL_LVL0_OVR) (c.g DCL_LVL0_OV2)
  && (!c.b PROT_CTL_SELF || !c.b (SL_CFG_TS_EN 7))
  && (!c.b PROT_CTL_WD_EN || Nat.blt (c.g WD_SPD_W) (c.g DUST_ASC_W_W))
  && floorSources.all (fun s => Nat.ble 3 (c.sevOf s))
  && Nat.blt (c.g DUST_ASC_HYST_W) (c.g DUST_ASC_W_W)
  && (!c.b DUST_CTL_ASC_PREF || (List.range 8).all (fun s => !c.b (SL_CFG_BOOT s)))

/-- The life-cycle states (R13, R463) as codes: 0 FACTORY, 1 DEVELOP, 2 FIELD, 3 RETURN, 4 SCRAPPED. -/
def LC_FACTORY : Nat := 0
/-- DEVELOP. -/
def LC_DEVELOP : Nat := 1
/-- FIELD. -/
def LC_FIELD : Nat := 2
/-- RETURN. -/
def LC_RETURN : Nat := 3
/-- SCRAPPED. -/
def LC_SCRAPPED : Nat := 4

/-- What a commit may carry by life-cycle state (R214, R338). -/
def Chan.crossLc (c : Chan) (lc : Nat) : Bool :=
  (!c.b SL_CH_CTL_EXT_MOD || lc == LC_DEVELOP) && (lc != LC_FIELD || c.g SKIM_CTL_EN == 0x3FF)

/-- Whether the values of a kind's shadow copies may become active: every field in its range, every rule kept (R63). -/
def Chan.rangeOk (c : Chan) (k : Kind) (lc : Nat) : Bool :=
  let d := c.swapped k
  d.rangesA && d.rangesB && d.rangesC && d.crossA && d.crossB && d.crossC && (k == .tuning || d.crossLc lc)

end Sys2Proof.Machine
end

