-- ==== Sys2Proof/Machine/CoreChk.lean ====
section
/-! DEFINITION. Machine/CoreChk.lean: lock-step, duplicated configuration, TCM ECC and the check-value units (R305 to R328). -/

namespace Sys2Proof.Machine

/-- Source CORE_PAIR. -/
def CORE_PAIR : Src := ⟨11, 0⟩
/-- Source TCM_ECC_UNCORR. -/
def TCM_ECC_UNCORR : Src := ⟨11, 1⟩
/-- Source SHADOW_MISMATCH. -/
def SHADOW_MISMATCH_SRC : Src := ⟨11, 2⟩
/-- Source LOCKSTEP_BROKEN. -/
def LOCKSTEP_BROKEN_SRC : Src := ⟨11, 3⟩
/-- Source CVU_MISMATCH. -/
def CVU_MISMATCH : Src := ⟨11, 4⟩
/-- Source TCM_ECC_CORR. -/
def TCM_ECC_CORR : Src := ⟨11, 5⟩

/-! ### The pair (R307 to R311) -/

/-- The comparator compares: the pair is neither held nor halted (R311, R314). -/
def Chan.pairRuns (c : Chan) : Bool := !c.b CORE_STATUS_HELD && !c.b CORE_STATUS_HALTED

/-- The comparator's verdicts of the present cycle still count: the pair runs, or it was held in this very cycle (R310, R311). -/
def Chan.pairJudges (c : Chan) : Bool :=
  c.pairRuns || (match c.ctl.heldAt with
    | none => false
    | some t => sameCycle t c.now)

/-- A fault of the pair (R310, R311): its cause bit, the pair held in reset, CORE_PAIR. -/
def doPlumbMismatch (kind : Nat) (c : Chan) : Chan :=
  if c.pairJudges ∧ kind < 4 then
    let c1 := c.onCtl (fun x => { x with heldAt := some c.now })
    ((c1.wr CORE_STATUS (setBit (c1.rd CORE_STATUS) kind true)).p CORE_STATUS_HELD 1).raise CORE_PAIR
  else c

/-- PLUMB_TEST (R309) of a channel's pair: `own` says whether the tested lane was flagged, `other` whether another lane was. The expected
flag is masked and counted; a missing one is PLUMB_FAIL, one elsewhere MISMATCH. -/
def doPlumbTest (own other : Bool) (c : Chan) : Chan :=
  if !c.pairRuns then c
  else
    let c1 := c.p PLUMB_STAT_LANE (c.g PLUMB_STAT_PASSES % 64)
    let c2 := if own then c1.wrapInc PLUMB_STAT_PASSES else doPlumbMismatch 3 c1
    if other then doPlumbMismatch 0 c2 else c2

/-- A halt (kind 0), a step (1) or a debug write (2) on a channel's pair (R314, R315). -/
def Chan.debugHalt (c : Chan) (kind : Nat) : Chan :=
  if c.b CORE_STATUS_HELD then c
  else
    let c1 := if kind = 2 then c else c.p CORE_STATUS_HALTED 1
    if c1.lockBroken then c1
    else
      let c2 := (c1.p CORE_STATUS_LOCKSTEP_BROKEN 1).pulse LOCKSTEP_BROKEN_SRC
      if c2.state = PRIMED ∨ c2.state = ARMED ∨ c2.state = RUN then c2.enterHold 2 else c2.armFail.transCheck

/-- 64-bit word `word` of the TCM. -/
def Chan.tcmWord (c : Chan) (word : Nat) : Nat := 2 ^ 32 * c.tcmAt (2 * word + 1) + c.tcmAt (2 * word)

/-- A TCM read of 64-bit word `word` with one bit in error, or with two (R319): the word corrected stands in the TCM as it was written; one
with two bits in error is a free value from then on (log 77). -/
def Chan.tcmEcc (c : Chan) (word : Nat) (double : Bool) : Chan :=
  let c1 := c.p TCM_ECC_STAT_WORD word
  if double then
    let c2 := ((c1.tcmPut (2 * word) c1.freeVal).tcmPut (2 * word + 1) (c1.took 1).freeVal).took 2
    c2.pulse TCM_ECC_UNCORR
  else (c1.satInc TCM_ECC_STAT_CORR).pulse TCM_ECC_CORR

/-- TCM_ECC_READ: the read returns the word as it then stands. -/
def doTcmEccRead (ch : Ch) (word : Nat) (double : Bool) (m : Mach) : Mach :=
  if (m.chan ch).state = OFF then m
  else
    let m1 := m.onChan ch (fun c => c.tcmEcc word double)
    { m1 with rdata := (m1.chan ch).tcmWord word }

/-- SHADOW_MISMATCH (R316, R317): bit `bit` of the register at `addr` and its inverted copy are no complements; only implemented bits
of the safety set have a copy. -/
def doShadowMismatch (addr bit : Nat) (c : Chan) : Chan :=
  if setOf addr = .safety ∧ (rwcBits addr).testBit bit then
    let w := RegMap.get c.inv 0 addr
    let c1 := { c with inv := RegMap.set c.inv 0 addr (setBit w bit (!w.testBit bit)) }
    let c2 := if c1.b SHADOW_STAT_VALID then c1
      else ((c1.p SHADOW_STAT_VALID 1).p SHADOW_STAT_BLOCK (addr / 4096)).p SHADOW_STAT_OFFSET (addr % 4096)
    c2.raise SHADOW_MISMATCH_SRC
  else c

/-! ### Check-value units (R320 to R324) -/

/-- A CVU slice on the unit is aborted by any access to it (R324, R335). -/
def Chan.cvuTouch (c : Chan) (n : Nat) : Chan := c.skimAbortIf 4 (fun u => u == n)

/-- A write of CVU_DATA of a channel's unit. -/
def Chan.cvuData (c : Chan) (n data : Nat) : Chan :=
  let c1 := c.cvuTouch n
  c1.wr (CVU_VAL n) (cvuFeed (c1.rd (CVU_CTL n)) (c1.rd (CVU_VAL n)) data)

/-- INIT of a channel's unit (R322). -/
def Chan.cvuInit (c : Chan) (n : Nat) : Chan :=
  let c1 := c.cvuTouch n
  c1.wr (CVU_VAL n) (cvuPut (c1.rd (CVU_CTL n)) (c1.rd (CVU_VAL n)) (polyOf (c1.g (CVU_CTL_POLY n))).init)

/-- CHECK of a channel's unit (R323). -/
def Chan.cvuCheck (c : Chan) (n : Nat) : Chan :=
  let c1 := c.cvuTouch n
  if cvuMatch (c1.rd (CVU_CTL n)) (c1.rd (CVU_VAL n)) (c1.rd (CVU_EXP n)) then c1.p (CVU_STAT_MATCH n) 1
  else ((((c1.p (CVU_STAT_MATCH n) 0).p (CVU_STAT_MISMATCH n) 1).pb CORE_IRQ_STATUS_CVU n true)).raise CVU_MISMATCH

/-- A write of CVU_DATA of an SMC unit. -/
def Dev.cvuData (d : Dev) (n data : Nat) : Dev := d.wr (SMC_CVU_VAL n) (cvuFeed (d.rd (SMC_CVU_CTL n)) (d.rd (SMC_CVU_VAL n)) data)

/-- INIT of an SMC unit. -/
def Dev.cvuInit (d : Dev) (n : Nat) : Dev :=
  d.wr (SMC_CVU_VAL n) (cvuPut (d.rd (SMC_CVU_CTL n)) (d.rd (SMC_CVU_VAL n)) (polyOf (d.g (SMC_CVU_CTL_POLY n))).init)

/-- CHECK of an SMC unit (R323): a mismatch sets only SMC_CVU_IRQ_STATUS beside the unit's status. -/
def Dev.cvuCheck (d : Dev) (n : Nat) : Dev :=
  if cvuMatch (d.rd (SMC_CVU_CTL n)) (d.rd (SMC_CVU_VAL n)) (d.rd (SMC_CVU_EXP n)) then d.p (SMC_CVU_STAT_MATCH n) 1
  else ((d.p (SMC_CVU_STAT_MATCH n) 0).p (SMC_CVU_STAT_MISMATCH n) 1).pb SMC_CVU_IRQ_STATUS_CVU n true

/-- An access to unit `n` of a channel's CORE or, with no channel, of the SMC block. -/
def State.cvu (s : State) (t : Tick) (ch : Option Ch) (n : Nat) (f : Chan → Nat → Chan) (g : Dev → Nat → Dev) :
    Host.Outcome State Fault Refusal :=
  match ch with
  | some c => s.live t c (fun x => if n < 8 then f x n else x)
  | none => s.onDev t (fun d => if n < 8 ∧ d.alive then g d n else d)

/-- PLUMB_MISMATCH. -/
def execPlumbMismatch (t : Tick) (ch : Ch) (kind : Nat) (s : State) := s.live t ch (doPlumbMismatch kind)
/-- TCM_ECC_READ. -/
def execTcmEccRead (t : Tick) (ch : Ch) (word : Nat) (double : Bool) (s : State) := s.onMach t (doTcmEccRead ch word double)
/-- SHADOW_MISMATCH. -/
def execShadowMismatch (t : Tick) (ch : Ch) (addr bit : Nat) (s : State) := s.live t ch (doShadowMismatch addr bit)
/-- CVU_DATA_WRITE: unit `n` of a channel, or of the SMC block. -/
def execCvuDataWrite (t : Tick) (ch : Option Ch) (n data : Nat) (s : State) :=
  s.cvu t ch n (fun c k => c.cvuData k data) (fun d k => d.cvuData k data)
/-- CVU_INIT. -/
def execCvuInit (t : Tick) (ch : Option Ch) (n : Nat) (s : State) := s.cvu t ch n Chan.cvuInit Dev.cvuInit
/-- CVU_CHECK. -/
def execCvuCheck (t : Tick) (ch : Option Ch) (n : Nat) (s : State) := s.cvu t ch n Chan.cvuCheck Dev.cvuCheck

end Sys2Proof.Machine
end

