-- ==== Sys2Proof/Machine/Skim.lean ====
section
/-! DEFINITION. Machine/Skim.lean: the skim tests of a channel (R329 to R339). -/

namespace Sys2Proof.Machine

/-! ### Units and coverage (R330) -/

/-- The units of a class, one a slice: class 0 gives converter `n` (or the pair as ADC0) the units 3n to 3n + 2, one a level; class 3
gives the inputs their numbers and the pattern test 4; a parked channel has no LINK slice (R487). -/
def Chan.skimUnits (c : Chan) (cls : Nat) : List Nat :=
  match cls with
  | 0 => (List.range 12).filter (fun u => c.lead (u / 3) == u / 3)
  | 1 => List.range 5
  | 2 => (List.range 8).filter (fun k => c.b (WCMP_CTL_EN k))
  | 3 => (List.range 5).filter (fun n => n == 4 || c.gb SD_CTL_IN_EN n)
  | 4 => List.range 8
  | 5 => (List.range 8).filter (fun s => c.b (SL_CFG_USED s) && !c.parked)
  | 6 => List.range 10
  | 7 => List.range (c.g SKIM_CFG_CYCLE)
  | 8 => List.range 64
  | _ => []

/-- A class has completed its coverage in this cycle. -/
def Chan.skimComplete (c : Chan) (cls : Nat) : Bool :=
  if cls = 9 then Nat.ble (c.g SKIM_CFG_CYCLE) c.plumbPasses
  else (c.skimUnits cls).all (fun u => (nth c.skim.cov cls).testBit u)

/-- The enabled classes that are complete, as a mask. -/
def Chan.skimDone (c : Chan) : Nat :=
  (List.range 10).foldl (fun m k => if c.gb SKIM_CTL_EN k && c.skimComplete k then m + 2 ^ k else m) 0

/-- SKIM_DONE.NOW brought up to date (R352). -/
def Chan.skimNow (c : Chan) : Chan := c.p SKIM_DONE_NOW c.skimDone

/-- A requested pass has run every slice of every enabled class. -/
def Chan.passComplete (c : Chan) : Bool :=
  (List.range 9).all (fun k => !c.gb SKIM_CTL_EN k || (c.skimUnits k).all (fun u => (nth c.skim.passCov k).testBit u))

/-! ### Start (R329, R335, R337, R339) -/

/-- A slice of a register file or the stencil RAM, as R65 names it: it does not start while a commit is pending. -/
def regfSlice (cls unit : Nat) : Bool := cls == 6 || (cls == 8 && unit == 0)

/-- The unit is free: a converter idle (R93), a core pair running; every other unit always is. -/
def Chan.unitFree (c : Chan) (cls unit : Nat) : Bool :=
  match cls with
  | 0 => (c.members (unit / 3)).all (fun n => (c.conv n).inj.isNone && (c.conv n).reg.isNone)
  | 7 => c.pairRuns
  | _ => true

/-- The settings that the spare comparator takes from the tested comparator: 0 OV2, 1 OVR, 2 OV1_ON, 3 OV1_OFF, 4 UV (R240, R331). -/
def Chan.dcmpSet (c : Chan) (unit : Nat) : Nat × Nat × Nat :=
  let h := c.g DCL_LVL2_HYST
  let f := c.g DCL_LVL2_FILT
  match unit with
  | 0 => (c.g DCL_LVL0_OV2, h, f)
  | 1 => (c.g DCL_LVL0_OVR, h, f)
  | 2 => (c.g DCL_LVL1_OV1_ON, 0, f)
  | 3 => (c.g DCL_LVL1_OV1_OFF, 0, f)
  | _ => (c.g DCL_LVL2_UV, h, f)

/-- SKIM_SLICE_START: the scheduler starts a slice of an enabled class on a free unit, an aborted one no earlier than 20 µs after. -/
def doSkimSliceStart (cls unit : Nat) (c : Chan) : Chan :=
  let again := c.skim.redo.any (fun r => r.cls == cls && r.unit == unit && !c.since r.at_ (us 20))
  if c.skim.cur.isSome ∨ c.skim.stopped ∨ !c.gb SKIM_CTL_EN cls ∨ !(c.skimUnits cls).contains unit ∨ !c.unitFree cls unit ∨ again
      ∨ (regfSlice cls unit ∧ c.ctl.commit.isSome) then c
  else ((c.onSkim (fun k => { k with cur := some ⟨cls, unit, c.now⟩, spare := if cls = 1 then some (c.dcmpSet unit) else none })).p SKIM_STATUS_BUSY 1).p SKIM_STATUS_CLASS cls

/-! ### References (R333) -/

/-- The offsets of a REGF block's RWC registers, ascending; block 9 is the stencil. -/
def regfAddrs (k : Nat) : List Nat :=
  if k = 9 then (List.range 72).map (fun i => STENCIL_SH i)
  else ((chanBlockMap (4096 * k)).filter (fun d => d.pset != .none && rwcMask d.fields != 0 && d.first != STENCIL_SH 0)).foldr
    (fun d l => (regAddrs d).foldr insertAsc l) []

/-- The CRC-32 of a block's active RWC fields. -/
def Chan.regfCrc (c : Chan) (k : Nat) : Nat := crc32.of (imageBytes ((regfAddrs k).map (c.entry false)))

/-- The references recomputed. -/
def Chan.regfStore (c : Chan) : Chan := c.each 10 (fun d k => d.wr (REGF_REF k) (d.regfCrc k))

/-! ### Verdicts (R330 to R334) -/

/-- A failed slice of class `cls` on `unit`: SKIM_FAIL_INFO and the class's source. -/
def Chan.skimFail (c : Chan) (cls unit detail : Nat) (s : Src) : Chan :=
  (c.wr SKIM_FAIL_INFO (cls * 2 ^ 28 + unit % 16 * 2 ^ 24 + detail % 65536)).raise s

/-- The reference code of a REFINJ level (R93). -/
def refCode (lvl : Nat) : Nat := 1024 * (lvl + 1)

/-- A raw code misses its reference by more than the tolerance (R91). -/
def Chan.refMiss (c : Chan) (lvl raw : Nat) : Bool := Nat.blt (c.g REFINJ_CTL_TOL) ((raw : Int) - refCode lvl).natAbs

/-- The step at which a DCMP slice fails (R331), 0 where it passes: the verdicts have to agree, and the tested comparator to trip 8 codes
above its level and to clear 8 codes below. -/
def dcmpStep (agree above below : Bool) : Nat := if !agree then 2 else if above && !below then 0 else 3

/-- What a SCRUB slice of the TCM has found: no error, a corrected one, or one of two bits at a word among its 1,024. -/
def Chan.scrubTcm (c : Chan) (unit err word : Nat) : Chan :=
  if err = 0 then c else (c.wr SKIM_FAIL_INFO (8 * 2 ^ 28 + unit % 16 * 2 ^ 24)).tcmEcc word (err != 1)

/-- The result of a slice: in class 0 the raw codes of the converter and of its partner in the pair, else whether the test found the unit
good, and `detail` of REGF, the CRC computed. Of DCMP `ok` says whether the verdicts agreed, `raw` and `raw1` whether the comparator
was tripped above and below its level. Of SCRUB `ok` and `detail` speak of the stencil RAM (1 a corrected error), `raw1` and `raw` of
the TCM: the error, 0 none, 1 of one bit, 2 of two, and its word among the slice's. -/
def Chan.skimVerdict (c : Chan) (r : SkimRun) (raw raw1 : Nat) (ok : Bool) (detail : Nat) : Chan :=
  match r.cls with
  | 0 =>
    let bad := c.refMiss (r.unit % 3) raw || (Nat.blt 1 (c.members (r.unit / 3)).length && c.refMiss (r.unit % 3) raw1)
    if bad then c.skimFail 0 (r.unit / 3) 0 REFINJ_FAIL else c
  | 1 =>
    let step := dcmpStep ok (raw != 0) (raw1 != 0)
    if step = 0 then c else c.skimFail 1 r.unit step SKIM_TEST_FAIL
  | 3 => if ok then c else c.skimFail 3 r.unit 0 ⟨2, 13⟩
  | 5 =>
    let d := c.satInc (LINK_STAT_CRC_ERR r.unit)
    if ok then d else d.skimFail 5 r.unit 0 SKIM_TEST_FAIL
  | 6 =>
    let z := if ok then c.regfCrc r.unit else detail
    if ok && z == c.rd (REGF_REF r.unit) then c else c.skimFail 6 r.unit z SKIM_TEST_FAIL
  | 7 => if ok then c else doPlumbMismatch 0 (c.wr SKIM_FAIL_INFO (7 * 2 ^ 28 + r.unit % 16 * 2 ^ 24))
  | 8 =>
    let d := (c.scrubTcm r.unit raw1 (c.g SCRUB_POS_WORD + raw % 1024)).p SCRUB_POS_WORD (c.g SCRUB_POS_WORD + 1024)
    if ok ∨ r.unit ≠ 0 then d
    else if detail = 1 then d.satInc DWELL_COUNT_ECC_CORR
    else d.skimFail 8 0 0 DTC_STENCIL_ECC
  | k => if ok then c else c.skimFail k r.unit 0 SKIM_TEST_FAIL

/-- A slice is covered in the cycle and in a requested pass; a slice that had been aborted is no longer waited for, and with the last of
them SKIM_ABORT clears (R335). -/
def Chan.skimCover (c : Chan) (r : SkimRun) : Chan :=
  let was := c.skim.redo.any (fun x => x.cls == r.cls && x.unit == r.unit)
  let c1 := c.onSkim (fun k => { k with
    redo := k.redo.filter (fun x => !(x.cls == r.cls && x.unit == r.unit))
    cov := bump k.cov r.cls (fun m => setBit m r.unit true)
    passCov := bump k.passCov r.cls (fun m => setBit m r.unit true) })
  let c2 := c1.p SKIM_DONE_NOW c1.skimDone
  if was && c2.skim.redo.isEmpty then c2.clear SKIM_ABORT_SRC else c2

/-- A requested pass ends when it is complete (R337, R420). -/
def Chan.passCheck (c : Chan) : Chan :=
  if c.b SKIM_STATUS_PASS_RUN && c.passComplete then
    let d := c.p SKIM_STATUS_PASS_RUN 0
    d.answer .skimPass 0 [d.rd SKIM_DONE, d.rd SKIM_FAIL_INFO]
  else c

/-- SKIM_SLICE_END. -/
def doSkimSliceEnd (raw raw1 : Nat) (ok : Bool) (detail : Nat) (c : Chan) : Chan :=
  match c.skim.cur with
  | none => c
  | some r => ((c.skimIdle.skimCover r).skimVerdict r raw raw1 ok detail).passCheck

/-- SKIM_ABORT (R335): normal service takes the unit; the slices of WCMP, SINC and COREREG do not take theirs from service. -/
def doSkimAbort (c : Chan) : Chan :=
  match c.skim.cur with
  | none => c
  | some r => if r.cls = 2 ∨ r.cls = 3 ∨ r.cls = 7 then c else c.skimAbort

/-- SKIM_CYCLE_END (R329, R336): at the end of a cycle of CYCLE ms LAST, CYCLES, CYCLE_END, SKIM_OVERDUE by the enabled classes that are not complete. -/
def doSkimCycleEnd (c : Chan) : Chan :=
  let done := c.skimDone
  let c1 := (((c.p SKIM_DONE_LAST done).p SKIM_DONE_NOW 0).wrapInc SKIM_STATUS_CYCLES).p SKIM_IRQ_STATUS_CYCLE_END 1
  let c2 := c1.onSkim (fun k => { k with cov := List.replicate 10 0, plumb0 := c.g PLUMB_STAT_PASSES, cycAt := c.now })
  if c.since c.skim.cycAt (ms (c.g SKIM_CFG_CYCLE)) then c2.follow SKIM_OVERDUE (done != c.g SKIM_CTL_EN) else c

/-- SKIM_REQ_PASS (R337): a complete pass begins, unless one runs or skim has stopped for the undercoat. -/
def doSkimReqPass (c : Chan) : Chan :=
  let c1 := c.p SKIM_REQ_PASS 0
  if c1.b SKIM_STATUS_PASS_RUN ∨ c1.skim.stopped then c1
  else ((c1.p SKIM_STATUS_PASS_RUN 1).onSkim (fun k => { k with passCov := List.replicate 10 0 })).passCheck

/-- SKIM_SLICE_START. -/
def execSkimSliceStart (t : Tick) (ch : Ch) (cls unit : Nat) (s : State) := s.live t ch (doSkimSliceStart cls unit)
/-- SKIM_SLICE_END. -/
def execSkimSliceEnd (t : Tick) (ch : Ch) (raw raw1 : Nat) (ok : Bool) (detail : Nat) (s : State) :=
  s.live t ch (doSkimSliceEnd raw raw1 ok detail)
/-- SKIM_ABORT. -/
def execSkimAbort (t : Tick) (ch : Ch) (s : State) := s.live t ch doSkimAbort
/-- SKIM_CYCLE_END. -/
def execSkimCycleEnd (t : Tick) (ch : Ch) (s : State) := s.live t ch doSkimCycleEnd
/-- SKIM_REQ_PASS. -/
def execSkimReqPass (t : Tick) (ch : Ch) (s : State) := s.live t ch doSkimReqPass

end Sys2Proof.Machine
end

