-- ==== Sys2Proof/Machine/ChanCommit.lean ====
section
/-! DEFINITION. Machine/ChanCommit.lean: the commit gates of a channel (R61 to R69, R532) and the streamed commands that its
supervisor applies (R46, R53, R392, R408 to R411). -/

namespace Sys2Proof.Machine

/-! ### Streamed commands (R392, R408 to R411) -/

/-- The status of a streamed command at the supervisor's check (R46, R53, R392, R408, R411): 0 for one that applies. -/
def Chan.streamStatus (c : Chan) (torque : Bool) (seq : Nat) : Nat :=
  let st := c.state
  if c.ctl.disarm ∨ ¬(st = RUN ∨ (torque = true ∧ st = ARMED)) then 0x05
  else match c.ctl.lastSeq with
    | none => 0
    | some q => if newer seq q then 0 else 0x08

/-- A streamed command written (R410, R411): TQ_SEQ, SPD_LIM, then TQ_REF; one whose deadline has passed is discarded without a record.
The first one applied after ARMED gives the stream its owner (R409). -/
def Chan.streamApply (c : Chan) (h : HeldTq) : Chan :=
  if h.deadline ≠ 0 ∧ h.deadline < c.devTime then c
  else
    let c1 := (c.p TQ_SEQ_SEQ h.seq).p SPD_LIM_W (h.spd.getD c.dtc.spd)
    let c2 := c1.writeTqRef (h.tq.getD (c.g TQ_REF_REF)) h.tq.isSome
    c2.onCtl (fun x => { x with lastSeq := some h.seq, owner := some (x.owner.getD h.owner) })

/-- The EVT record of a part refusal (R392, R417). -/
def Chan.partRefused (c : Chan) (bundle tag status : Nat) : Chan :=
  c.evt 5 0 0 0 (bundle % 4096 * 2 ^ 16 + tag % 256 * 2 ^ 8) (status * 2 ^ 16)

/-- The command held for a landing is latched at its boundary and in force from it on (R69), if it still applies. -/
def Chan.heldLand (c : Chan) : Chan :=
  match c.ctl.heldTq with
  | none => c
  | some h =>
    let c1 := c.onCtl (fun x => { x with heldTq := none })
    let st := c1.streamStatus h.tq.isSome h.seq
    if st ≠ 0 then c1.partRefused h.bundle h.tag st
    else
      let c2 := (c1.streamApply h).latchRef
      if c.state = RUN then c2.rampAgain else c2

/-! ### Requests (R63, R64, R66) -/

/-- The first reason to refuse a commit's values (R63, R226): the CRC, the ranges, a change of BOOT outside PRIMED; 0 for none. -/
def Chan.valuesCode (c : Chan) (k : Kind) (lc : Nat) : Nat :=
  if c.imageCrc k true ≠ c.rd COMMIT_CRC then 3
  else if !c.rangeOk k lc then 4
  else if k = .safety ∧ c.state ≠ PRIMED ∧ (List.range 8).any (fun s => c.gs (SL_CFG_BOOT s) != c.g (SL_CFG_BOOT s)) then 5
  else 0

/-- A commit request of a kind that the state refuses (R64, R66): 5 LOCKED, 7 BUSY, 0 for none. -/
def Chan.gateCode (c : Chan) (k : Kind) : Nat :=
  if k = .safety ∧ (c.state = ARMED ∨ c.state = RUN) then 5
  else if c.ctl.arm.isSome ∨ c.ctl.commit.isSome then 7
  else 0

/-- A refusal with its answer. -/
def Chan.commitRefuse (c : Chan) (op : ChOp) (code : Nat) : Chan := (c.refuseCommit code).answer op (commitStatus code) []

/-- A commit becomes pending. -/
def Chan.commitPend (c : Chan) (k : Kind) (id : Option SetId) : Chan :=
  (c.onCtl (fun x => { x with commit := some ⟨k, c.now, c.rd COMMIT_CRC, id⟩ })).p COMMIT_STATUS_CODE 1

/-- TUNING_COMMIT of COMMIT_CTL. -/
def Chan.tuningCommit (c : Chan) (lc : Nat) : Chan :=
  let c1 := c.p COMMIT_CTL_TUNING_COMMIT 0
  let g := c.gateCode .tuning
  if g ≠ 0 then c1.commitRefuse .commit g
  else
    let v := c.valuesCode .tuning lc
    if v ≠ 0 then c1.commitRefuse .commit v else c1.commitPend .tuning none

/-- SAFETY_STAGE of COMMIT_CTL: the commit is held for 5 s; `id` is what Colmo has verified of the set (R401), none for a
stage by the pair alone. -/
def Chan.safetyStage (c : Chan) (lc : Nat) (id : Option SetId) : Chan :=
  let c1 := c.p COMMIT_CTL_SAFETY_STAGE 0
  let g := c.gateCode .safety
  if g ≠ 0 then c1.commitRefuse .stage g
  else
    let v := c.valuesCode .safety lc
    if v ≠ 0 then c1.commitRefuse .stage v
    else
      let c2 := (c1.onCtl (fun x => { x with stage := some ⟨c.rd COMMIT_CRC, c.now, id⟩, stageLapsed := false })).p COMMIT_STATUS_CODE 9
      c2.answer .stage 0 [c2.rd COMMIT_STATUS]

/-- SAFETY_CONFIRM of COMMIT_CTL: with a stage held for less than 5 s, its CRC, and values that still pass, the commit is pending. -/
def Chan.safetyConfirm (c : Chan) (lc : Nat) : Chan :=
  let c1 := c.p COMMIT_CTL_SAFETY_CONFIRM 0
  let g := c.gateCode .safety
  if g ≠ 0 then c1.commitRefuse .confirm g
  else match c.ctl.stage with
    | none => c1.commitRefuse .confirm 8
    | some st =>
      if c.since st.at_ (ms 5000 + 1) then
        (c1.onCtl (fun x => { x with stage := none, stageLapsed := true })).commitRefuse .confirm 8
      else if c.rd COMMIT_CRC ≠ st.crc then c1.commitRefuse .confirm 3
      else
        let v := c.valuesCode .safety lc
        if v ≠ 0 then c1.commitRefuse .confirm v
        else (c1.onCtl (fun x => { x with stage := none })).commitPend .safety st.id

/-- SAFETY_STAGE_EXPIRY (R64): the stage lapses. -/
def doSafetyStageExpiry (c : Chan) : Chan :=
  match c.ctl.stage with
  | none => c
  | some st => if c.since st.at_ (ms 5000) then c.onCtl (fun x => { x with stage := none, stageLapsed := true }) else c

/-! ### Landing (R61, R62, R65, R68, R532) -/

/-- The boundary at which the channel stands is eligible for a commit (R65). -/
def Chan.canLand (c : Chan) (p : Commit) : Bool :=
  c.dtc.boundAt == c.now && c.since p.at_ c.period && !c.mask.due && !c.b MASK_STATUS_WIN_OPEN
    && (match c.skim.cur with
      | none => true
      | some r => !regfSlice r.cls r.unit)

/-- The banks change roles (R61, R70). -/
def Chan.toggleBanks (c : Chan) (k : Kind) : Chan :=
  match k with
  | .tuning => (c.p ACTIVE_BANK_PARAM_BANK (1 - c.g ACTIVE_BANK_PARAM_BANK)).p ACTIVE_BANK_STENCIL_BANK (1 - c.g ACTIVE_BANK_STENCIL_BANK)
  | .safety => c.p ACTIVE_BANK_SAFETY_BANK (1 - c.g ACTIVE_BANK_SAFETY_BANK)

/-- What CHCTL records of a landing (R68): the boundary's timestamp, the count, COMMIT_LANDED, the EVT record of type 2. -/
def Chan.landRecord (c : Chan) (p : Commit) : Chan :=
  let t := c.dtc.boundTime
  let c1 := ((c.wr COMMIT_TIME_LO (t % 2 ^ 32)).wr COMMIT_TIME_HI (t / 2 ^ 32)).wrapInc COMMIT_STATUS_COMMIT_COUNT
  let c2 := (c1.p COMMIT_STATUS_CODE 2).p CH_IRQ_STATUS_COMMIT_LANDED 1
  c2.evt 2 0 0 0 (c2.g COMMIT_STATUS_COMMIT_COUNT * 2 ^ 16 + (if p.kind = .safety then 2 ^ 8 else 0)) p.crc

/-- The landing actions of the blocks with fields of both sets, and the references (R95, R144, R166, R207, R333); `o` is the channel
before the landing. -/
def Chan.landCommon (c o : Chan) : Chan :=
  let c1 := (c.adcAfterLand).landDtc (c.g DTC_PERIOD_COUNT != o.g DTC_PERIOD_COUNT)
  ((c1.each 8 Chan.sendCfg).maskReport).regfStore

/-- The landing actions of the blocks with safety fields (R90, R113, R141, R176, R200, R214, R244, R281, R316). -/
def Chan.landSafety (c o : Chan) : Chan :=
  let c1 := ({ c with inv := [] }.wcmpLand o).landSinc.landXchk.landMask.landObs
  let c2 := ((c1.landMsio (o.g MSIO_CTL_AUX_MODE)).p EN_STATUS_EXT_ACTIVE (c1.g SL_CH_CTL_EXT_MOD)).chopEval
  c2.nfaultSet

/-- The set is committed (R54 bits 0 to 2); a tuning set sets the base values (R4). -/
def Chan.landReady (c : Chan) (p : Commit) : Chan :=
  match p.kind with
  | .tuning => { c with bases := basesOf (c.image .tuning false) }.onCtl (fun x => { x with tuningOk := true })
  | .safety => c.onCtl (fun x => { x with safetyOk := true, kept := p.id })

/-- The operation answered at a landing (R400, R402): COMMIT_STATUS and COMMIT_TIME. -/
def Chan.landAnswer (c : Chan) (p : Commit) : Chan := c.answer p.kind.op 0 [c.rd COMMIT_STATUS, c.rd COMMIT_TIME_HI, c.rd COMMIT_TIME_LO]

/-- A commit lands. -/
def Chan.land (c : Chan) (p : Commit) : Chan :=
  let c1 := ((c.adcBeforeLand).swapped p.kind).refreshed p.kind
  let c2 := ((c1.onCtl (fun x => { x with commit := none, copying := some ⟨p.kind, c.now, []⟩ })).toggleBanks p.kind).landRecord p
  let c3 := (c2.landCommon c).landReady p
  let c4 := if p.kind = .safety then c3.landSafety c else c3
  ((c4.landAnswer p).heldLand).transCheck

/-- COMMIT_LANDING (R65): the pending commit lands, if the boundary is eligible. -/
def doCommitLanding (c : Chan) : Chan :=
  match c.ctl.commit with
  | none => c
  | some p => if c.canLand p then c.land p else c

/-- A write to the RWC fields of a register reaches the shadow copy (R11, R61). -/
def Chan.shadowWrite (c : Chan) (a v : Nat) : Chan :=
  let m := rwcBits a
  c.wrs a ((c.rds a &&& (0xFFFFFFFF ^^^ m)) ||| (v &&& m))

/-- SHADOW_COPY_END (R62): the writes held during the copy are performed, in their order. -/
def doShadowCopyEnd (c : Chan) : Chan :=
  match c.ctl.copying with
  | none => c
  | some k => k.held.foldl (fun d w => d.shadowWrite w.1 w.2) (c.onCtl (fun x => { x with copying := none }))

/-- COMMIT_LANDING. -/
def execCommitLanding (t : Tick) (ch : Ch) (s : State) := s.live t ch doCommitLanding
/-- SAFETY_STAGE_EXPIRY. -/
def execSafetyStageExpiry (t : Tick) (ch : Ch) (s : State) := s.live t ch doSafetyStageExpiry
/-- SHADOW_COPY_END. -/
def execShadowCopyEnd (t : Tick) (ch : Ch) (s : State) := s.live t ch doShadowCopyEnd

end Sys2Proof.Machine
end

