-- ==== Sys2Proof/Machine/Resets.lean ====
section
/-! DEFINITION. Machine/Resets.lean: the resets of R491 and what each keeps (R495), as operations that the commands share. -/

namespace Sys2Proof.Machine

/-- The resets that reach a channel, by reach. -/
inductive ResetKind where
  | channel
  | pin
  | supply
  | powerOn
  deriving DecidableEq, Repr

/-! ### A channel (R495) -/

/-- What a channel reset keeps of the registers: leg-health record, DUST_CAUSE, weld records. -/
def keptByChannel : List Fld :=
  [LEG_HEALTH_SRC_MON, LEG_HEALTH_SRC_OFFSHORT, LEG_HEALTH_SRC_PRIMER, LEG_HEALTH_FS_L, LEG_HEALTH_FS_H, ⟨DUST_CAUSE, 31, 0⟩,
   DUST_CAUSE_SEQ_SEQ, DUST_CAUSE_TIME_LO_TIME, DUST_CAUSE_TIME_HI_TIME, CONT_STATUS_WELD]

/-- The fields that a reset of a kind keeps. -/
def keptBy (k : ResetKind) : List Fld :=
  match k with
  | .channel => keptByChannel ++ [GUARD_STATUS_TEST_SEEN, CORE_STATUS_LOCKSTEP_BROKEN]
  | .pin => [GUARD_STATUS_TEST_SEEN, CORE_STATUS_LOCKSTEP_BROKEN]
  | .supply => [CORE_STATUS_LOCKSTEP_BROKEN]
  | .powerOn => []

/-- The slices in OFF: without gate supplies; slice 7 keeps the settings by which it discharges by itself (R253, R254). -/
def Chan.offSlices (c : Chan) : List SliceSt :=
  let x := c.sl 7
  (List.replicate 7 ({} : SliceSt)) ++ [{ cfg := x.cfg, latch := setBit x.latch 5 true, auto := x.auto, autoSeen := x.autoSeen, autoE := x.autoE, isOn := x.auto }]

/-- The copy of the device time over a reset: a power-on reset starts device time at 0 (R491), any other lets the copy run on. -/
def TimeBase.inReset (b : TimeBase) (now : Tick) (fresh : Bool) : TimeBase :=
  if fresh then { at_ := now, off := -((now / ticksPerNs : Nat) : Int), drift := b.drift }
  else { b with missed := 0, hold := false, stamp := none }

/-- A channel in reset: OFF, every register at its reset word but for what the kind keeps. The records it had not delivered are lost; its
sequence numbers run on over a channel reset, and so do the subscriptions. -/
def Chan.toOff (c : Chan) (k : ResetKind) : Chan :=
  let far := k != .channel
  let c0 : Chan :=
    { id := c.id
      now := c.now
      free := c.free
      tb := c.tb.inReset c.now (k == .powerOn)
      out := { seq := if far then 0 else c.out.seq }
      subs := if far then [] else c.subs
      ctl := { devId := if far then none else c.ctl.devId, selfTest := if far then false else c.ctl.selfTest }
      bases := c.bases
      xchk := { encAB := c.xchk.encAB }
      slices := c.offSlices
      prot := { pinLow := c.prot.pinLow }
      msio := { cfbRaw := c.msio.cfbRaw }
      life := c.life.change OFF c.now }
  (keptBy k).foldl (fun d f => d.p f (c.g f)) c0

/-! ### Colmo's view of a channel reset (R425, R536) -/

/-- A slot that waits for a channel. -/
def Slot.onChan (s : Slot) (ch : Ch) : Bool :=
  match s with
  | .chan c _ => c == ch
  | .mail c _ => c == ch
  | _ => false

/-- The index of the first slot that satisfies a test. -/
def firstSlot (q : Slot → Bool) : List Slot → Nat
  | [] => 0
  | s :: l => if q s then 0 else firstSlot q l + 1

/-- The operations of a channel that wait for their answer end with a status. -/
def Dev.endWaits (d : Dev) (ch : Ch) (status : Nat) : Dev :=
  let hit := fun (r : Running) => r.slots.any (fun s => s.onChan ch)
  let gone := d.colmo.running.filter hit
  gone.foldl (fun e r => e.refuse r.req status (firstSlot (fun s => s.onChan ch) r.slots) r.slots.length [])
    (d.onColmo (fun c => { c with running := c.running.filter (fun r => !hit r) }))

/-- The parts in a channel's mailbox when it is reset: PART_REFUSED as source 0 with WRONG_STATE for each. -/
def Dev.dropMail (d : Dev) (l : List Part) : Dev :=
  l.foldl (fun e p => e.record 0 (.evt 5 0 0 0 (p.req.bundle % 4096 * 2 ^ 16 + p.req.tag % 256 * 2 ^ 8) (0x05 * 2 ^ 16))) d

/-- The PARK bit of a channel. -/
def parkBit (ch : Ch) : Fld :=
  match ch with
  | .a => SYS_PWR_CTL_PARK_A
  | .b => SYS_PWR_CTL_PARK_B

/-- A channel reset (R491): the channel in OFF, its mailbox cleared, its operations CANCELLED, PARK ended, its snapshot lost. -/
def Mach.chanReset (m : Mach) (ch : Ch) : Mach :=
  let m1 := m.onChan ch (fun c => c.toOff .channel)
  let d := ((m1.dev.dropMail (m.chan ch).mail).endWaits ch 0x10).p (parkBit ch) 0
  { m1 with dev := d.onArch (fun a => if a.writing = some ch then { a with writing := none } else a) }

/-! ### The SMC warm reset (R312, R491, R492, R495) -/

/-- Offsets that an SMC warm reset keeps: AON, the BIST engine, SMC_PAIR_STATUS. -/
def keptBySmc (a : Nat) : Bool := a / 65536 == 1 || a / 65536 == 9 || a == SMC_PAIR_STATUS

/-- AON_RST_CAUSE: the bit of a kind set and the reset counted (R493). -/
def Dev.cause (d : Dev) (bit : Nat) : Dev := (d.pb AON_RST_CAUSE_CAUSE bit true).satInc AON_RST_CAUSE_COUNT

/-- The highest set bit of a number below 2^5. -/
def topBit (n : Nat) : Nat := if n.testBit 4 then 4 else if n.testBit 3 then 3 else if n.testBit 2 then 2 else if n.testBit 1 then 1 else 0

/-- What every reset that reaches the SMC clears of the device: the blocks' state, Colmo's, the session. -/
def Dev.clearSmc (d : Dev) (keep : Nat → Bool) : Dev :=
  let d1 := d.keepRegs keep
  { d1 with
    recs := []
    hq := {}
    eth := {}
    colmo := {}
    can := [{}, {}]
    iso := {}
    arch := { d.arch with writing := none }
    lc := topBit d.otp.lc }

/-- VDD_SMC lies in its window. -/
def Dev.smcRail (d : Dev) : Bool := d.pwr.rails.testBit 2

/-- An SMC warm reset for a cause: the pair is released at once unless its rail holds it (R478). -/
def Dev.smcReset (d : Dev) (bit : Nat) : Dev :=
  let d1 := ((d.cause bit).clearSmc keptBySmc).p SMC_PAIR_STATUS_HALTED 0
  d1.onPwr (fun p => { p with smc := if d.smcRail then .released else .down, chImage := p.chImage, fresh := false, shut := 0, wakeHeld := false, kickAt := d.now })

/-! ### Supply, pin and power-on resets (R483, R488, R491, R496) -/

/-- The sag-log entry of a dip that ends (R482 to R484): at entry NEXT, with RST and the lowest VIN in mV. -/
def Dev.sagWrite (d : Dev) (rst : Bool) (minMv : Nat) : Dev :=
  match d.pwr.dip with
  | none => d
  | some (at_, time) =>
    let k := d.g AON_SAG_IDX_NEXT
    let dur := min (2 ^ 22 - 1) ((d.now - at_) / us 10)
    let info := 2 ^ 31 + b2n rst * 2 ^ 30 + min 255 (minMv / 50) * 2 ^ 22 + dur
    let d1 := (((d.wr (AON_SAG_SEQ k) (d.seqOf 7)).wr (AON_SAG_TIME_LO k) (time % 2 ^ 32)).wr (AON_SAG_TIME_HI k) (time / 2 ^ 32)).wr (AON_SAG_INFO k) info
    (((d1.p AON_SAG_IDX_NEXT (k + 1)).satInc AON_SAG_IDX_COUNT).p AON_VIN_STATUS_NOW 0).onPwr (fun p => { p with dip := none })

/-- Offsets that a supply or pin reset keeps: AON, BIST_CFG, and LOCKSTEP_BROKEN of the SMC pair. -/
def keptBySupply (a : Nat) : Bool := a / 65536 == 1 || a == BIST_CFG

/-- The record over a reset that keeps PD_AON: one that an undercoat had not completed is found without its CRC (R343). -/
def Dev.recordOver (d : Dev) : Option UcRec :=
  if d.bist.mode = .undercoat then some ⟨d.bist.uc, d.bist.soft, d.time, d.bist.count, none⟩ else d.bist.ucRec

/-- The device after a supply or pin reset. -/
def Dev.supplyReset (d : Dev) (minMv : Nat) (bits : List Nat) : Dev :=
  let lock := d.g SMC_PAIR_STATUS_LOCKSTEP_BROKEN
  let d0 := if d.pwr.dip.isSome then (d.sagWrite true minMv).takeSeq 7 else d
  let d1 := (d0.clearSmc keptBySupply).p SMC_PAIR_STATUS_LOCKSTEP_BROKEN lock
  let d2 := (bits.foldl (fun e b => e.pb AON_RST_CAUSE_CAUSE b true) d1).satInc AON_RST_CAUSE_COUNT
  { d2 with
    bist := { ucRec := d.recordOver, soft := d.bist.soft, count := d.bist.count }
    pwr := { phase := .held, rails := d.pwr.rails, since := d.now, fresh := bits.contains 1 }
    seqs := [0, 0, 0, 0, 0, 0, 0, nth d2.seqs 7] }

/-- The device after a power-on reset: device time 0, only POR in AON_RST_CAUSE. -/
def Dev.powerOnReset (d : Dev) : Dev :=
  { now := d.now
    free := d.free
    off := -((d.now / ticksPerNs : Nat) : Int)
    arch := { d.arch with writing := none }
    otp := d.otp
    lc := topBit d.otp.lc
    pwr := { rails := d.pwr.rails, since := d.now } }

/-- Both channels in reset. -/
def Mach.bothOff (m : Mach) (k : ResetKind) : Mach :=
  let f := fun (c : Chan) => if k = .powerOn then { c.toOff k with tb := {} } else c.toOff k
  (m.onChan .a f).onChan .b f

/-- A supply reset for the given bits of AON_RST_CAUSE. -/
def Mach.supplyReset (m : Mach) (minMv : Nat) (bits : List Nat) : Mach :=
  { (m.bothOff .supply).onDev (fun d => d.supplyReset minMv bits) with holds := [] }

/-- A pin reset. -/
def Mach.pinReset (m : Mach) (minMv : Nat) : Mach :=
  { (m.bothOff .pin).onDev (fun d => d.supplyReset minMv [2]) with holds := [] }

/-- A power-on reset. -/
def Mach.powerOnReset (m : Mach) : Mach := { (m.bothOff .powerOn).onDev Dev.powerOnReset with holds := [] }

/-- The entry into STANDBY or OFF (R486): only PD_AON stays on. A wake that was held starts the device at once (R488). -/
def Mach.lowPower (m : Mach) (st : Nat) : Mach :=
  let wake := m.dev.pwr.wakeHeld
  let lock := m.dev.g SMC_PAIR_STATUS_LOCKSTEP_BROKEN
  let m1 := m.bothOff .supply
  let d1 := (m1.dev.clearSmc keptBySupply).p SMC_PAIR_STATUS_LOCKSTEP_BROKEN lock
  let d2 : Dev := { d1 with pwr := { phase := if st = 1 then .standby else .off, rails := m.dev.pwr.rails, since := m.now }, bist := { ucRec := m.dev.bist.ucRec, soft := m.dev.bist.soft, count := m.dev.bist.count } }
  let m2 := { m1 with dev := d2, holds := [] }
  if wake ∧ st = 1 then { m2.supplyReset 0 [1, 7] with dev := (m2.supplyReset 0 [1, 7]).dev.p AON_IRQ_STATUS_WAKE 1 } else m2

end Sys2Proof.Machine
end

