-- ==== Sys2Proof/Machine/Bist.lean ====
section
/-! DEFINITION. Machine/Bist.lean: the BIST engine: the record check and the start-up tests, the undercoat, tests on request (R340 to R351,
R353), the release of the SMC pair at power-up (R494). -/

namespace Sys2Proof.Machine

/-- Result codes (R353). -/
def B_PASS : Nat := 1
/-- A test that failed. -/
def B_FAIL : Nat := 2
/-- A test whose clock or supply left its window. -/
def B_INVALID : Nat := 3
/-- A memory whose failing rows are replaced. -/
def B_REPAIRED : Nat := 4

/-- The tests of one controller, in their order (R342). -/
def chains : List (List Nat) := [[0, 1], [2, 3, 4], [5, 6, 7]]

/-- The channel that a target belongs to (R340). -/
def targetCh (p : Nat) : Option Ch := if p < 2 then none else if p < 5 then some .a else some .b

/-- The targets of a channel. -/
def chTargets (ch : Ch) : List Nat :=
  match ch with
  | .a => [2, 3, 4]
  | .b => [5, 6, 7]

/-- A memory BIST target (R340). -/
def memTarget (p : Nat) : Bool := p == 1 || p == 3 || p == 6

/-- The start-up results of a channel allow its release (R51, R54 bit 3). -/
def Dev.testsOk (d : Dev) (ch : Ch) : Bool :=
  (chTargets ch).all (fun p => d.g (BIST_RES_RUN_RES p) == B_PASS || d.g (BIST_RES_RUN_RES p) == B_REPAIRED)

/-! ### Repairs (R350) -/

/-- The rows of a macro that a list repairs. -/
def repairsIn (l : List Repair) (p mac : Nat) : Nat := (l.filter (fun r => r.target == p && r.mac == mac)).length

/-- The spare rows that a macro uses, by soft repairs and fuses. -/
def Dev.spares (d : Dev) (p mac : Nat) : Nat := repairsIn d.bist.soft p mac + repairsIn d.otp.fused p mac

/-- The most spares in use in any macro of a target. -/
def Dev.sparesMost (d : Dev) (p : Nat) : Nat := (List.range 32).foldl (fun n k => max n (d.spares p k)) 0

/-- Failing rows that the free spares of each macro can replace: no macro has more than four, those in use among them. -/
def Dev.repairable (d : Dev) (p : Nat) (rows : List (Nat × Nat)) : Bool :=
  memTarget p && !rows.isEmpty
    && rows.all (fun r => Nat.ble ((rows.filter (fun q => q.1 == r.1)).length + d.spares p r.1) 4)

/-- The soft repairs of a target. -/
def Dev.softOf (d : Dev) (p : Nat) : List (Nat × Nat) := (d.bist.soft.filter (fun x => x.target == p)).map (fun x => (x.mac, x.row))

/-- The soft repairs of a target replaced. -/
def Dev.setSoft (d : Dev) (p : Nat) (rows : List (Nat × Nat)) : Dev :=
  d.onBist (fun b => { b with soft := b.soft.filter (fun r => r.target != p) ++ rows.map (fun r => ⟨p, r.1, r.2⟩) })

/-- REPAIR_STAT and the spares of a target shown. -/
def Dev.showRepairs (d : Dev) (p : Nat) : Dev :=
  ((d.p REPAIR_STAT_SOFT (min 255 d.bist.soft.length)).p REPAIR_STAT_FUSE (min 255 d.otp.fused.length)).p (BIST_RES_SPARES p) (min 15 (d.sparesMost p))

/-- The soft-repair mapping of a target written into OTP. -/
def Dev.fuse (d : Dev) (p : Nat) : Dev :=
  let l := d.bist.soft.filter (fun r => r.target == p)
  ((d.onOtp (fun o => { o with fused := o.fused ++ l })).setSoft p []).showRepairs p

/-! ### The release of the SMC pair and the record check (R344, R345, R494) -/

/-- The SMC pair is released: nRSTOUT reads high and the ROM runs. -/
def Dev.smcRelease (d : Dev) : Dev := d.onPwr (fun p => { p with smc := .released, nrstout := true, since := d.now, kickAt := d.now })

/-- The SMC pair is released once its targets are done. -/
def Dev.smcTry (d : Dev) : Dev :=
  let b := d.bist
  if d.pwr.smc = .down ∧ !b.stuck ∧ !b.todo.contains 0 ∧ !b.todo.contains 1 ∧ d.smcRail then d.smcRelease else d

/-- The bytes of the record over which its CRC-32 runs (R343; their order is the model's, log 89). -/
def UcRec.bytes (r : UcRec) : List Nat :=
  r.res ++ r.soft.flatMap (fun x => [x.target, x.mac, x.row % 256, x.row / 256]) ++ leBytes 8 r.time ++ leBytes 4 r.count

/-- The CRC of the record is correct. -/
def UcRec.ok (r : UcRec) : Bool := r.crc == some (crc32.of r.bytes)

/-- A target's start from the record: skipped with its result PASS, or to be tested. -/
def Dev.fromRecord (d : Dev) (rc : UcRec) (young : Bool) (p : Nat) : Dev :=
  let r := nth rc.res p
  let d1 := d.p (BIST_RES_UC_RES p) r
  if young && r == B_PASS then
    ((d1.p (BIST_RES_RUN_RES p) B_PASS).p (BIST_RES_SRC p) 1).setSoft p ((rc.soft.filter (fun x => x.target == p)).map (fun x => (x.mac, x.row)))
      |>.showRepairs p
  else d1.onBist (fun b => { b with todo := b.todo ++ [p] })

/-- The record check at the release of a power-on, supply or pin reset: the record serves this start and no other. -/
def Dev.recordCheck (d : Dev) : Dev :=
  let d0 := d.onBist (fun b => { b with mode := .startup, todo := [], again := [], stuck := false, ucRec := none, soft := [] })
  match d.bist.ucRec with
  | none => d0.onBist (fun b => { b with todo := List.range 8 })
  | some rc => if !rc.ok then (d0.p BIST_STATUS_REC_FOUND 1).onBist (fun b => { b with todo := List.range 8 }) else
    let age := (d.time - rc.time) / 1000000000
    let young := Nat.ble age (3600 * d.g BIST_CFG_UC_MAX_AGE)
    let d1 := ((d0.p BIST_STATUS_REC_FOUND 1).p BIST_STATUS_REC_CRC_OK 1).p BIST_STATUS_REC_YOUNG (b2n young)
    let d2 := ((d1.wr UC_AGE (min (2 ^ 32 - 1) age)).wr UC_TIME_LO (rc.time % 2 ^ 32)).wr UC_TIME_HI (rc.time / 2 ^ 32)
    let d3 := d2.each 8 (fun e p => e.fromRecord rc young p)
    d3.p BIST_STATUS_PATH (if d3.bist.todo.isEmpty then 1 else if d3.bist.todo.length = 8 then 0 else 2)

/-- The tests of the present run are over. -/
def Dev.bistDone (d : Dev) : Dev :=
  if d.bist.todo.isEmpty ∧ d.bist.mode = .startup then d.onBist (fun b => { b with mode := .idle }) else d

/-- POWER_UP_RELEASE (R494): the crystal checked, the reset released, the record checked. -/
def doPowerUpRelease (xtalOk : Bool) (d : Dev) : Dev :=
  let w := d.pwr.rails
  if d.pwr.phase ≠ .held ∨ !(w.testBit 0 && w.testBit 1 && w.testBit 2 && w.testBit 7) then d
  else
    let d1 := d.onPwr (fun p => { p with phase := .run, xtalOk := xtalOk, pllOnAon := !xtalOk, since := d.now })
    let d2 := if xtalOk then d1 else d1.raise XTAL_LOSS_SRC
    ((d2.recordCheck.each 8 Dev.showRepairs).bistDone).smcTry

/-! ### The end of a test (R346 to R351) -/

/-- A target whose test can run now: its predecessors on its controller are done, and at start-up the SMC pair's targets before the
channels', in the undercoat after them. -/
def Dev.runnable (d : Dev) (p : Nat) : Bool :=
  let b := d.bist
  b.todo.contains p
    && chains.all (fun c => !c.contains p || c.all (fun q => Nat.ble p q || !b.todo.contains q))
    && (match b.mode with
      | .startup => Nat.blt p 2 || !(b.todo.contains 0 || b.todo.contains 1)
      | .undercoat => Nat.ble 2 p || b.todo.all (fun q => Nat.blt q 2)
      | _ => false)

/-- The whole device held in reset, nRSTOUT low (R348, R349). -/
def Mach.stuck (m : Mach) : Mach :=
  let m1 := m.bothOff .pin
  { m1 with
    dev := (m1.dev.clearSmc keptBySmc).onPwr (fun p => { p with smc := .down, nrstout := false }) |>.onBist (fun b => { b with stuck := true })
    holds := [] }

/-- The verdict of a start-up or requested test: the result code, with the repair made where FAIL_ACT is REPAIR (R348). -/
def Dev.verdict (d : Dev) (p : Nat) (valid fail : Bool) (rows : List (Nat × Nat)) : Dev × Nat :=
  if !valid then (d, B_INVALID)
  else if !fail then (d, B_PASS)
  else
    let d1 := d.p (BIST_RES_FAIL_MACRO p) ((rows.headD (0, 0)).1)
    if d.g BIST_CFG_FAIL_ACT = 0 ∧ d.repairable p rows then (d1.setSoft p (d1.softOf p ++ rows), B_REPAIRED) else (d1, B_FAIL)

/-- The fail map of a memory BIST (R353). -/
def Dev.failMap (d : Dev) (rows : List (Nat × Nat)) : Dev :=
  d.each 64 (fun e k => match rows[k]? with
    | none => e.wr (FAIL_ROW k) 0
    | some r => e.wr (FAIL_ROW k) (2 ^ 31 + r.1 % 256 * 65536 + r.2 % 65536))

/-- A start-up test ends. -/
def Mach.startupEnd (m : Mach) (p : Nat) (valid fail : Bool) (rows : List (Nat × Nat)) : Mach :=
  let d := m.dev
  if !valid && !d.bist.again.contains p then m.onDev (fun e => e.onBist (fun b => { b with again := p :: b.again }))
  else
    let (d1, r) := d.verdict p valid fail rows
    let d2 := (((d1.showRepairs p).p (BIST_RES_RUN_RES p) r).p (BIST_RES_SRC p) 0).onBist (fun b => { b with todo := b.todo.filter (fun q => q != p) })
    let bad := r == B_FAIL || r == B_INVALID
    let m1 := { m with dev := d2 }
    if bad ∧ (p < 2 ∨ (r = B_FAIL ∧ d.g BIST_CFG_FAIL_ACT = 1)) then m1.stuck
    else m1.onDev (fun e => e.bistDone.smcTry)

/-- An undercoat test ends: its result is only stored. The SMC pair is held in reset once the channels' tests are done (R342). -/
def Dev.undercoatEnd (d : Dev) (p : Nat) (valid fail : Bool) : Dev :=
  let r := if !valid then B_INVALID else if fail then B_FAIL else B_PASS
  let d1 := d.onBist (fun b => { b with todo := b.todo.filter (fun q => q != p), uc := b.uc.set p r })
  if d1.bist.todo.all (fun q => Nat.blt q 2) then d1.onPwr (fun x => { x with smc := .down }) else d1

/-- A requested test ends (R351): its result counts as the start-up result. -/
def Dev.requestEnd (d : Dev) (p : Nat) (valid fail : Bool) (rows : List (Nat × Nat)) : Dev :=
  let (d1, r) := d.verdict p valid fail rows
  let d2 := (((d1.showRepairs p).p (BIST_RES_RUN_RES p) r).p (BIST_RES_SRC p) 0).p BIST_RUN_RESULT r
  let d3 := (d2.p BIST_RUN_BUSY 0).when (d.g BIST_REQ_TEST == 2) (fun e => e.failMap rows)
  (d3.when (d.bist.fuse && r != B_INVALID) (fun e => e.fuse p)).onBist (fun b => { b with mode := .idle, fuse := false })

/-- The duration of a target's test (R340). -/
def testTime (p : Nat) : Tick :=
  match p with
  | 0 => ms 50
  | 1 => ms 20
  | 2 => ms 120
  | 5 => ms 120
  | _ => ms 40

/-- The rail that supplies a target: VDD_SMC, VDD_CHA or VDD_CHB. -/
def testRail (p : Nat) : Nat := if p < 2 then 2 else if p < 5 then 3 else 4

/-- The supply of a target has lain inside its window for the whole of a test that ends now (R346). -/
def Dev.supplied (d : Dev) (p : Nat) : Bool :=
  let t := nth d.pwr.back (testRail p)
  d.pwr.rails.testBit (testRail p) && (t == 0 || Nat.ble (t + testTime p) d.now)

/-- BIST_TEST_END: the test of a target ends; `clk`: its clock has lain within 2 % of nominal for the whole test (R346); `rows`: the
failing rows (macro, row). -/
def doBistTestEnd (target : Nat) (clk fail : Bool) (rows : List (Nat × Nat)) (m : Mach) : Mach :=
  let d := m.dev
  let valid := clk && d.supplied target
  if d.pwr.phase ≠ .run ∨ d.bist.stuck then m
  else match d.bist.mode with
    | .startup => if d.runnable target then m.startupEnd target valid fail rows else m
    | .undercoat => if d.runnable target then m.onDev (fun e => e.undercoatEnd target valid fail) else m
    | .request => if d.bist.req = target then m.onDev (fun e => e.requestEnd target valid fail rows) else m
    | .idle => m

/-! ### Requests (R351) -/

/-- The reasons to refuse a request. -/
def Mach.bistRefused (m : Mach) (p test : Nat) : Bool :=
  let d := m.dev
  !(d.lc == 0 || d.lc == 3) || d.bist.mode != .idle || d.pwr.shut != 0 || Nat.blt 7 p || Nat.blt 2 test
    || (match targetCh p with
      | none => false
      | some ch => !((m.chan ch).state == PRIMED && (m.chan ch).cfbOpen))

/-- A write to BIST_REQ: outside FACTORY and RETURN it is ignored, and so is a request that is refused; REFUSED tells of both. -/
def Mach.bistWrite (m : Mach) (p test : Nat) (start fuse : Bool) : Mach :=
  let d := m.dev
  if !d.alive then m
  else if !(d.lc == 0 || d.lc == 3) || ((start || fuse) && m.bistRefused p test) then m.onDev (fun e => e.p BIST_RUN_REFUSED 1)
  else
    let m0 := m.onDev (fun e => (e.p BIST_REQ_TARGET p).p BIST_REQ_TEST test)
    if !(start || fuse) then m0
    else if !start then m0.onDev (fun e => e.fuse p)
    else
    let m1 := match targetCh p with
      | none => m0
      | some ch => m0.chanReset ch
    m1.onDev (fun e => (e.p BIST_RUN_BUSY 1).onBist (fun b => { b with mode := .request, req := p, fuse := fuse }))

/-! ### The undercoat (R341 to R343) -/

/-- A channel whose targets the undercoat runs. -/
def Mach.undercoatRuns (m : Mach) (ch : Ch) : Bool :=
  let c := m.chan ch
  c.state == PRIMED && c.cfbOpen && !c.b DUST_STATUS_SPD_HIGH

/-- No skim slice starts any more (R339, R342). -/
def Chan.skimStop (c : Chan) : Chan := { c with skim := { c.skim with stopped := true } }

/-- The shutdown command accepted (R339, R341, R342): the channels' conditions are judged, and with UC_EN no skim slice starts any
more. -/
def Mach.shutAccept (m : Mach) (st : Nat) : Mach :=
  let uc := m.dev.b BIST_CFG_UC_EN
  let m1 := (m.onChan .a (live (fun c => c.when uc Chan.skimStop))).onChan .b (live (fun c => c.when uc Chan.skimStop))
  m1.onDev (fun d => (d.onPwr (fun p => { p with shut := st })).onBist (fun b => { b with runs := [Ch.a, Ch.b].filter m.undercoatRuns }))

/-- UNDERCOAT_START: the shutdown has been accepted; without UC_EN the low-power state is entered at once. The reset of a channel waits for
its slice in progress. -/
def doUndercoatStart (m : Mach) : Mach :=
  let d := m.dev
  if d.pwr.shut = 0 ∨ d.bist.mode ≠ .idle then m
  else if !d.b BIST_CFG_UC_EN then m.writeCounters.lowPower d.pwr.shut
  else if d.bist.runs.any (fun ch => (m.chan ch).skim.cur.isSome) then m
  else
    let chs := d.bist.runs
    let todo := chs.flatMap chTargets ++ [0, 1]
    let mask := todo.foldl (fun n p => n + 2 ^ p) 0
    let m2 := m.onDev (fun e => e.send K_NTF 2 0 [mask] false .none)
    let m3 := chs.foldl Mach.chanReset m2
    m3.onDev (fun e => (e.onBist (fun b => { b with mode := .undercoat, todo := todo, uc := List.replicate 8 0 })).when chs.isEmpty
      (fun e => e.onPwr (fun x => { x with smc := .down })))

/-- UNDERCOAT_RECORD_WRITE: after the last test the record is written to AON retention and the low-power state entered. The counters are
written with it (R474). -/
def doUndercoatRecordWrite (m : Mach) : Mach :=
  let d := m.dev
  if d.bist.mode ≠ .undercoat ∨ !d.bist.todo.isEmpty then m
  else
    let m1 := m.onDev (fun e => { e with base := bump e.base 68 (fun n => n + 1) })
    let m2 := m1.writeCounters
    let n := (d.bist.count + 1) % 2 ^ 32
    let rc : UcRec := ⟨d.bist.uc, d.bist.soft, d.time, n, none⟩
    (m2.onDev (fun e => e.onBist (fun b => { b with ucRec := some { rc with crc := some (crc32.of rc.bytes) }, count := n }))).lowPower d.pwr.shut

/-- POWER_UP_RELEASE. -/
def execPowerUpRelease (t : Tick) (xtalOk : Bool) (s : State) := s.onDev t (doPowerUpRelease xtalOk)
/-- BIST_TEST_END. -/
def execBistTestEnd (t : Tick) (target : Nat) (clk fail : Bool) (rows : List (Nat × Nat)) (s : State) :=
  s.onMach t (doBistTestEnd target clk fail rows)
/-- BIST_REQ_START. -/
def execBistReqStart (t : Tick) (start fuse : Bool) (s : State) := s.onMach t (fun m => m.bistWrite (m.dev.g BIST_REQ_TARGET) (m.dev.g BIST_REQ_TEST) start fuse)
/-- UNDERCOAT_START. -/
def execUndercoatStart (t : Tick) (s : State) := s.onMach t doUndercoatStart
/-- UNDERCOAT_RECORD_WRITE. -/
def execUndercoatRecordWrite (t : Tick) (s : State) := s.onMach t doUndercoatRecordWrite

end Sys2Proof.Machine
end

