-- ==== Sys2Proof/Machine/Can.lean ====
section
/-! DEFINITION. Machine/Can.lean: the CAN controllers (R427 to R443): integration, frames received and sent, error confinement,
end-to-end protection. -/

namespace Sys2Proof.Machine

/-! ### Error confinement (R438) -/

/-- The controller takes part in bus traffic. -/
def Dev.canOn (d : Dev) (k : Nat) : Bool := d.alive && (d.canState k == C_ACTIVE || d.canState k == C_PASSIVE)

/-- Bus-off: TEC reads 255. -/
def Dev.canBusOff (d : Dev) (k : Nat) : Dev :=
  (((d.p (CAN_STATUS_TEC k) 255).onCan k (fun c => { c with off := true, tx := none })).setCan k C_OFF).raise (BUS_OFF k)

/-- The error state that the counters give. -/
def Dev.canLevel (d : Dev) (k : Nat) : Dev :=
  if 128 ≤ d.g (CAN_STATUS_TEC k) ∨ 128 ≤ d.g (CAN_STATUS_REC k) then (d.setCan k C_PASSIVE).raise (ERR_PASSIVE k)
  else (d.setCan k C_ACTIVE).clear (ERR_PASSIVE k)

/-- TEC raised by 8. -/
def Dev.tecUp (d : Dev) (k : Nat) : Dev :=
  if 255 < d.g (CAN_STATUS_TEC k) + 8 then d.canBusOff k else (d.p (CAN_STATUS_TEC k) (d.g (CAN_STATUS_TEC k) + 8)).canLevel k

/-- TEC lowered by 1 after a frame sent. -/
def Dev.tecDown (d : Dev) (k : Nat) : Dev := (d.p (CAN_STATUS_TEC k) (d.g (CAN_STATUS_TEC k) - 1)).canLevel k

/-- REC raised after an error while receiving: by 8 where the standard says so, else by 1. -/
def Dev.recUp (d : Dev) (k : Nat) (big : Bool) : Dev := (d.satAdd (CAN_STATUS_REC k) (if big then 8 else 1)).canLevel k

/-- REC after a frame received: lowered by 1; from above 127, some value from 119 to 127 (ISO 11898-1 leaves which open). -/
def Dev.recDown (d : Dev) (k : Nat) : Dev :=
  let r := d.g (CAN_STATUS_REC k)
  if 127 < r then ((d.p (CAN_STATUS_REC k) (119 + d.freeVal % 9)).took 1).canLevel k else (d.p (CAN_STATUS_REC k) (r - 1)).canLevel k

/-- CAN_LONE.COUNT reset (R441). -/
def Dev.loneReset (d : Dev) (k : Nat) : Dev :=
  ((d.p (CAN_LONE_COUNT k) 0).p (CAN_STATUS_LONE k) 0).clear (LONE_NODE k)

/-! ### Data lengths and bytes (R451) -/

/-- The bytes that a data length code means. -/
def canLen (fdf : Bool) (dlc : Nat) : Nat :=
  if dlc ≤ 8 then dlc else if !fdf then 8 else nth [12, 16, 20, 24, 32, 48, 64] (dlc - 9)

/-- Data byte `i` of an object. -/
def moByte (k n i : Nat) : Fld := ⟨MO_DATA k n (i / 4), 8 * (i % 4) + 7, 8 * (i % 4)⟩

/-- The first `len` data bytes of an object. -/
def Dev.moData (d : Dev) (k n len : Nat) : List Nat := (List.range len).map (fun i => d.g (moByte k n i))

/-- The data bytes of an object from `i` on replaced. -/
def Dev.moPut (d : Dev) (k n : Nat) : Nat → List Nat → Dev
  | _, [] => d
  | i, b :: bs => (d.p (moByte k n i) b).moPut k n (i + 1) bs

/-- The data length of an object. -/
def Dev.moLen (d : Dev) (k n : Nat) : Nat := canLen (d.b (MO_CTL_FDF k n)) (d.g (MO_CTL_DLC k n))

/-- MO_TIME and MO_SEQ: the device time of the start of frame, `age` ns ago, and a sequence number (R437). -/
def Dev.moStamp (d : Dev) (k n age : Nat) : Dev :=
  let t := d.time - age
  (((d.wr (MO_TIME_LO k n) (t % 2 ^ 32)).wr (MO_TIME_HI k n) (t / 2 ^ 32 % 2 ^ 32)).wr (MO_SEQ k n) (d.seqOf (canSource k))).takeSeq (canSource k)

/-! ### End-to-end protection (R442, R443) -/

/-- Object `n` has end-to-end protection: on CAN B only. -/
def Dev.e2eOn (d : Dev) (k n : Nat) : Bool := k == 1 && d.b (MO_CTL_E2E k n)

/-- CRC-8 over DATA_ID, low byte first, and data bytes 1 to the last. -/
def e2eCrc (dataId : Nat) (data : List Nat) : Nat := crc8.of (dataId % 256 :: dataId / 256 % 256 :: data.drop 1)

/-- The end-to-end state of an object. -/
def Dev.e2e (d : Dev) (k n : Nat) : E2eSt := tabGet (d.canSt k).e2e {} n
/-- That state replaced. -/
def Dev.setE2e (d : Dev) (k n : Nat) (x : E2eSt) : Dev := d.onCan k (fun c => { c with e2e := tabPut c.e2e n x })

/-- E2E_FAIL is active while any object holds a nonzero E2E_ERR. -/
def Dev.e2eFollow (d : Dev) (k : Nat) : Dev := d.follow (E2E_FAIL k) ((List.range 128).any (fun n => d.g (MO_STAT_E2E_ERR k n) != 0))

/-- A failure: the first one stays recorded. -/
def Dev.e2eFails (d : Dev) (k n code : Nat) : Dev :=
  (d.when (d.g (MO_STAT_E2E_ERR k n) == 0) (fun e => e.p (MO_STAT_E2E_ERR k n) code)).e2eFollow k

/-- The checks of a stored frame. -/
def Dev.e2eCheck (d : Dev) (k n : Nat) (data : List Nat) : Dev :=
  let new := nth data 1 % 16
  let delta := (new + 16 - d.g (MO_E2E_CNT k n)) % 16
  if nth data 0 ≠ e2eCrc (d.g (MO_E2E_DATA_ID k n)) data then d.e2eFails k n 1
  else if (d.e2e k n).ref ∧ (delta = 0 ∨ d.g (MO_E2E_MAXDELTA k n) < delta) then d.e2eFails k n 2
  else (((d.p (MO_E2E_CNT k n) new).p (MO_STAT_E2E_ERR k n) 0).setE2e k n ⟨true, d.now⟩).e2eFollow k

/-- The preparation at a start of frame: a retransmission repeats the counter. -/
def Dev.e2ePrepare (d : Dev) (k n : Nat) : Dev :=
  let d1 := if (d.e2e k n).ref then d else (d.p (MO_E2E_CNT k n) (d.g (MO_E2E_CNT k n) + 1)).setE2e k n ⟨true, d.now⟩
  let d2 := d1.p ⟨MO_DATA k n 0, 11, 8⟩ (d1.g (MO_E2E_CNT k n))
  d2.p (moByte k n 0) (e2eCrc (d2.g (MO_E2E_DATA_ID k n)) (d2.moData k n (d2.moLen k n)))

/-- What ends a transmission request also ends the repetition of its counter. -/
def Dev.e2eDone (d : Dev) (k n : Nat) : Dev := if d.e2eOn k n then d.setE2e k n {} else d

/-! ### Reception (R427, R432, R433) -/

/-- Object `n` matches a frame. -/
def Dev.moMatch (d : Dev) (k n : Nat) (fr : CanFrame) : Bool :=
  let m := d.g (MO_MASK_MASK k n)
  d.b (MO_CTL_EN k n) && !d.b (MO_CTL_DIR k n) && (fr.id &&& m) == (d.g (MO_ID_ID k n) &&& m)
    && (!d.b (MO_MASK_MXTD k n) || fr.xtd == d.b (MO_ID_XTD k n)) && (!fr.fdf || d.b (MO_CTL_FDF k n))

/-- The bytes that a frame carries: none in a remote frame. -/
def canBytes (fr : CanFrame) : List Nat :=
  if fr.rtr then [] else (List.range (canLen fr.fdf fr.dlc)).map (fun i => nth fr.data i % 256)

/-- A frame stored in object `n`. -/
def Dev.moStore (d : Dev) (k n age : Nat) (fr : CanFrame) : Dev :=
  let d1 := (((d.p (MO_ID_ID k n) fr.id).p (MO_ID_XTD k n) (b2n fr.xtd)).p (MO_ID_RTR k n) (b2n fr.rtr)).p (MO_CTL_DLC k n) fr.dlc
  let d2 := (((d1.p (MO_STAT_ESI k n) (b2n fr.esi)).moPut k n 0 (canBytes fr)).moStamp k n age).p (MO_STAT_NEWDAT k n) 1
  let d3 := if d.b (MO_CTL_IRQ_EN k n) then d2.p (CAN_IRQ_STATUS_RX k) 1 else d2
  if d.e2eOn k n then d3.e2eCheck k n (canBytes fr) else d3

/-- A frame received for object `n`, which may be full or locked. -/
def Dev.moReceive (d : Dev) (k n age : Nat) (fr : CanFrame) : Dev :=
  let full := d.b (MO_STAT_NEWDAT k n) || d.b (MO_STAT_LOCK k n)
  let d1 := if full then (d.p (MO_STAT_MSGLOST k n) 1).satInc (CAN_RXDISC_LOST k) else d
  if !full || (d.b (MO_CTL_OVW k n) && !d.b (MO_STAT_LOCK k n)) then d1.moStore k n age fr else d1

/-- CAN_FRAME_RECEIVED: a frame whose start of frame lies `age` ns back. -/
def doCanFrameReceived (k : Nat) (fr : CanFrame) (age : Nat) (d : Dev) : Dev :=
  if !d.canOn k then d
  else if fr.fdf && !d.b (CAN_CTL_FD_EN k) then d.recUp k false
  else
    let d1 := (d.recDown k).loneReset k
    match (List.range 128).find? (fun n => d1.moMatch k n fr) with
    | none => d1.satInc (CAN_RXDISC_NOMATCH k)
    | some n => d1.moReceive k n age fr

/-- PROTOCOL_EXCEPTION: a recessive res bit in an FD frame (R427). -/
def doProtocolException (k : Nat) (d : Dev) : Dev :=
  if !d.canOn k then d
  else if d.b (CAN_CTL_FD_EN k) && d.b (CAN_CTL_PEX_EN k) then (d.onCan k (fun c => { c with tx := none })).setCan k C_INTEG
  else d.recUp k false

/-- CAN_RX_ERROR. -/
def doCanRxError (k : Nat) (big : Bool) (d : Dev) : Dev := if d.canOn k then d.recUp k big else d

/-! ### INIT, integration, recovery (R428, R431, R439) -/

/-- CAN_INIT_CLEAR. -/
def doCanInitClear (k : Nat) (d : Dev) : Dev := if d.alive then d.canLeaveInit k else d

/-- CAN_INTEGRATED. -/
def doCanIntegrated (k : Nat) (d : Dev) : Dev := if d.alive ∧ d.canState k = C_INTEG then d.canLevel k else d

/-- CAN_CTL_RECOVER: ignored in every state but bus-off. -/
def doCanCtlRecover (k : Nat) (d : Dev) : Dev :=
  if d.alive ∧ d.canState k = C_OFF then (d.p (CAN_STATUS_RECOV k) 0).setCan k C_RECOV else d

/-- CAN_RECOVERY_COMPLETE. -/
def doCanRecoveryComplete (k : Nat) (d : Dev) : Dev :=
  if !d.alive ∨ d.canState k ≠ C_RECOV then d
  else
    let d1 := ((d.p (CAN_STATUS_RECOV k) 128).p (CAN_STATUS_TEC k) 0).p (CAN_STATUS_REC k) 0
    ((d1.onCan k (fun c => { c with off := false })).canLevel k).clear (BUS_OFF k)

/-! ### Transmission (R434 to R436, R441) -/

/-- The key by which pending objects compete: the base identifier, then a base before an extended frame, then the extension. -/
def Dev.moKey (d : Dev) (k n : Nat) : Nat :=
  let id := d.g (MO_ID_ID k n)
  if d.b (MO_ID_XTD k n) then id / 2 ^ 18 * 2 ^ 19 + 2 ^ 18 + id % 2 ^ 18 else id / 2 ^ 18 * 2 ^ 19

/-- Object `n` may start: pending, and no FD frame while FD_EN is 0. -/
def Dev.moReady (d : Dev) (k n : Nat) : Bool := d.b (MO_STAT_PEND k n) && (!d.b (MO_CTL_FDF k n) || d.b (CAN_CTL_FD_EN k))

/-- Of two objects the one that starts; the earlier where their keys are equal. -/
def Dev.moBest (d : Dev) (k : Nat) (x : Option Nat) (n : Nat) : Option Nat :=
  if !d.moReady k n then x
  else match x with
    | none => some n
    | some j => if d.moKey k n < d.moKey k j then some n else some j

/-- The object that starts. -/
def Dev.moNext (d : Dev) (k : Nat) : Option Nat := (List.range 128).foldl (d.moBest k) none

/-- CAN_TX_START. -/
def doCanTxStart (k : Nat) (d : Dev) : Dev :=
  if !d.canOn k ∨ (d.canSt k).tx.isSome ∨ d.b (CAN_CTL_MON k) then d
  else match d.moNext k with
    | none => d
    | some n => (if d.e2eOn k n then d.e2ePrepare k n else d).onCan k (fun c => { c with tx := some n })

/-- The frame of object `n`. -/
def Dev.moFrame (d : Dev) (k n : Nat) : CanFrame :=
  let fdf := d.b (MO_CTL_FDF k n)
  let rtr := d.b (MO_ID_RTR k n) && !fdf
  { xtd := d.b (MO_ID_XTD k n)
    rtr := rtr
    fdf := fdf
    brs := fdf && d.b (MO_CTL_BRS k n)
    esi := fdf && d.canState k == C_PASSIVE
    id := d.g (MO_ID_ID k n)
    dlc := d.g (MO_CTL_DLC k n)
    data := if rtr then [] else d.moData k n (d.moLen k n) }

/-! ### Colmo's frames on CAN A (R444) -/

/-- A frame put into object `n` and requested. -/
def Dev.moFill (d : Dev) (n : Nat) (fr : CanFrame) : Dev :=
  let d1 := (d.wr (MO_ID 0 n) (b2n fr.xtd * 2 ^ 31 + fr.id)).wr (MO_CTL 0 n) (2 ^ 31 + 2 ^ 30 + fr.dlc)
  (d1.moPut 0 n 0 fr.data).p (MO_STAT_PEND 0 n) 1

/-- A frame of the data link goes to the lowest free object from MO112 on, or waits for one. -/
def Dev.isoSend (d : Dev) (fr : CanFrame) : Dev :=
  match (List.range 16).find? (fun i => !d.b (MO_STAT_PEND 0 (112 + i))) with
  | none => d.onIso (fun x => { x with out := x.out ++ [fr] })
  | some i => d.moFill (112 + i) fr

/-- A frame that waits takes the object that is free. -/
def Dev.isoDrain (d : Dev) (k : Nat) : Dev :=
  match (if k = 0 then d.iso.out else []) with
  | [] => d
  | fr :: l => (d.onIso (fun x => { x with out := l })).isoSend fr

/-- CAN_TX_DONE: the loop delay measured in 12.5 ns periods (R430), the start of frame `age` ns back. -/
def doCanTxDone (k delay age : Nat) (d : Dev) : Dev :=
  match (if d.canOn k then (d.canSt k).tx else none) with
  | none => d
  | some n =>
    let fr := d.moFrame k n
    let d1 := ((d.onCan k (fun c => { c with tx := none, sent := some fr })).p (MO_STAT_PEND k n) 0).p (MO_STAT_DONE k n) 1
    let d2 := (d1.moStamp k n age).when (fr.brs && d.b (CAN_TIM_D_DLY_COMP k)) (fun e => (e.p (CAN_DLYC_DLY_MEAS k) delay).p (CAN_DLYC_DLY_VALID k) 1)
    let d3 := d2.when (d.b (MO_CTL_IRQ_EN k n)) (fun e => e.p (CAN_IRQ_STATUS_TX_DONE k) 1)
    (((d3.e2eDone k n).tecDown k).loneReset k).isoDrain k

/-- A pending object cancelled. -/
def Dev.moCancel (d : Dev) (k n : Nat) : Dev := (((d.p (MO_STAT_PEND k n) 0).p (MO_STAT_CANCELLED k n) 1).e2eDone k n).isoDrain k

/-- An acknowledgement error counted (R441): at LIMIT, LONE_NODE, and the failing object cancelled where it says so. -/
def Dev.loneCount (d : Dev) (k n : Nat) : Dev :=
  let d1 := d.satInc (CAN_LONE_COUNT k)
  if d.g (CAN_LONE_COUNT k) + 1 = d.g (CAN_LONE_LIMIT k) then
    ((d1.p (CAN_STATUS_LONE k) 1).raise (LONE_NODE k)).when (d.b (MO_CTL_LONE_CANCEL k n)) (fun e => e.moCancel k n)
  else d1

/-- CAN_TX_FAIL. An error-passive transmitter keeps TEC at an acknowledgement error (R426). -/
def doCanTxFail (k : Nat) (why : TxFail) (d : Dev) : Dev :=
  match (if d.canOn k then (d.canSt k).tx else none) with
  | none => d
  | some n =>
    let d1 := d.onCan k (fun c => { c with tx := none })
    match why with
    | .arbitration => d1
    | .acknowledge => (if d.canState k = C_PASSIVE then d1 else d1.tecUp k).loneCount k n
    | .error => d1.tecUp k

/-- A request for transmission is valid (R435, R442). -/
def Dev.moSends (d : Dev) (k n : Nat) : Bool :=
  d.b (MO_CTL_EN k n) && d.b (MO_CTL_DIR k n) && !(d.e2eOn k n && Nat.blt (d.moLen k n) 2)

/-- MO_STAT_PEND. -/
def doMoStatPend (k n : Nat) (d : Dev) : Dev :=
  if !d.alive then d
  else if d.moSends k n then d.p (MO_STAT_PEND k n) 1
  else d.p (CAN_IRQ_STATUS_WRITE_REFUSED k) 1

/-- MO_STAT_CANCEL. -/
def doMoStatCancel (k n : Nat) (d : Dev) : Dev :=
  if !d.alive ∨ !d.b (MO_STAT_PEND k n) then d
  else if (d.canSt k).tx = some n then d.p (CAN_IRQ_STATUS_CANCEL_REFUSED k) 1
  else d.moCancel k n

/-- E2E_TIMEOUT (R443): no frame has passed for TIMEOUT ms, in every controller state. -/
def doE2eTimeout (k n : Nat) (d : Dev) : Dev :=
  if d.alive && d.e2eOn k n && d.b (MO_CTL_EN k n) && !d.b (MO_CTL_DIR k n) && d.g (MO_E2E_TIMEOUT k n) != 0
      && d.since (d.e2e k n).at_ (ms (d.g (MO_E2E_TIMEOUT k n))) then
    (d.setE2e k n { d.e2e k n with ref := false }).e2eFails k n 3
  else d

/-- CAN_INIT_CLEAR. -/
def execCanInitClear (t : Tick) (k : Fin 2) (s : State) := s.onDev t (doCanInitClear k)
/-- CAN_INTEGRATED. -/
def execCanIntegrated (t : Tick) (k : Fin 2) (s : State) := s.onDev t (doCanIntegrated k)
/-- CAN_FRAME_RECEIVED. -/
def execCanFrameReceived (t : Tick) (k : Fin 2) (fr : CanFrame) (age : Nat) (s : State) := s.onDev t (doCanFrameReceived k fr age)
/-- PROTOCOL_EXCEPTION. -/
def execProtocolException (t : Tick) (k : Fin 2) (s : State) := s.onDev t (doProtocolException k)
/-- CAN_TX_START. -/
def execCanTxStart (t : Tick) (k : Fin 2) (s : State) := s.onDev t (doCanTxStart k)
/-- CAN_TX_DONE. -/
def execCanTxDone (t : Tick) (k : Fin 2) (delay age : Nat) (s : State) := s.onDev t (doCanTxDone k delay age)
/-- CAN_TX_FAIL. -/
def execCanTxFail (t : Tick) (k : Fin 2) (why : TxFail) (s : State) := s.onDev t (doCanTxFail k why)
/-- CAN_RX_ERROR. -/
def execCanRxError (t : Tick) (k : Fin 2) (big : Bool) (s : State) := s.onDev t (doCanRxError k big)
/-- MO_STAT_PEND. -/
def execMoStatPend (t : Tick) (k : Fin 2) (n : Fin 128) (s : State) := s.onDev t (doMoStatPend k n)
/-- MO_STAT_CANCEL. -/
def execMoStatCancel (t : Tick) (k : Fin 2) (n : Fin 128) (s : State) := s.onDev t (doMoStatCancel k n)
/-- CAN_CTL_RECOVER. -/
def execCanCtlRecover (t : Tick) (k : Fin 2) (s : State) := s.onDev t (doCanCtlRecover k)
/-- CAN_RECOVERY_COMPLETE. -/
def execCanRecoveryComplete (t : Tick) (k : Fin 2) (s : State) := s.onDev t (doCanRecoveryComplete k)
/-- E2E_TIMEOUT. -/
def execE2eTimeout (t : Tick) (k : Fin 2) (n : Fin 128) (s : State) := s.onDev t (doE2eTimeout k n)

end Sys2Proof.Machine
end

