-- ==== Sys2Proof/Machine/CanNet.lean ====
section
/-! DEFINITION. Machine/CanNet.lean: ISO 11783 on CAN A (R444, R445): the address claim, requests, the transport protocol. What the
spec takes from ISO 11783-3 and ISO 11783-5 without stating it is PRESUMED (assumption 25). -/

namespace Sys2Proof.Machine

/-- Colmo runs the data link. -/
def Dev.isoOn (d : Dev) : Bool := d.up && d.iso.en

/-- ISO_STATUS.STATE: 0 disabled, 1 CLAIMING, 2 CLAIMED, 3 LOST. -/
def Dev.isoState (d : Dev) : Nat := d.g (ISO_STATUS_STATE 0)
/-- ISO_STATUS.ADDRESS. -/
def Dev.isoAddr (d : Dev) : Nat := d.g (ISO_STATUS_ADDRESS 0)

/-- A classic extended frame of 8 bytes. -/
def isoFrame (id : Nat) (data : List Nat) : CanFrame := ⟨true, false, false, false, false, id, 8, data⟩

/-- Address Claimed (PGN 60928) from a source address; from 254 it is Cannot Claim Address. -/
def Dev.sendClaim (d : Dev) (sa : Nat) : Dev := d.isoSend (isoFrame (0x18EEFF00 + sa) (leBytes 8 d.iso.name))

/-- The claim of an address begins. -/
def Dev.claim (d : Dev) (sa : Nat) : Dev :=
  (((d.p (ISO_STATUS_ADDRESS 0) sa).p (ISO_STATUS_STATE 0) 1).onIso (fun x => { x with claimAt := d.now })).sendClaim sa

/-- ADDRESS_CLAIM_START: the preferred address, or the one that stands. -/
def doAddressClaimStart (d : Dev) : Dev := if !d.isoOn then d else d.claim (if d.isoState = 2 then d.isoAddr else d.iso.pref)

/-- ADDRESS_CLAIM_TIMER: 250 ms after the claim the address stands. -/
def doAddressClaimTimer (d : Dev) : Dev := if d.isoOn ∧ d.isoState = 1 ∧ d.since d.iso.claimAt (ms 250) = true then d.p (ISO_STATUS_STATE 0) 2 else d

/-- The addresses from 128 to 247 in the order in which they are tried after `sa`. -/
def claimOrder (sa : Nat) : List Nat :=
  let i := if 128 ≤ sa ∧ sa ≤ 247 then sa - 127 else 0
  (List.range 120).map (fun j => 128 + (i + j) % 120)

/-- The module's claim is lost: another address where NAME allows it, else Cannot Claim Address. -/
def Dev.claimLost (d : Dev) : Dev :=
  let free := (claimOrder d.isoAddr).find? (fun a => !d.iso.claims.any (fun e => e.1 == a))
  match (if d.iso.name.testBit 63 then free else none) with
  | some a => d.claim a
  | none => (d.p (ISO_STATUS_STATE 0) 3).sendClaim 254

/-- A claim entered in the table; a NAME holds one address. -/
def Dev.claimSeen (d : Dev) (sa name : Nat) : Dev :=
  d.onIso (fun x =>
    let l := x.claims.filter (fun e => e.2 != name)
    { x with claims := if sa < 254 then tabPut l sa name else l })

/-- ADDRESS_CLAIMED_RX: the lower NAME wins; transfers are aborted (R449). -/
def doAddressClaimedRx (sa name : Nat) (d : Dev) : Dev :=
  if !d.isoOn then d
  else
    let d1 := d.claimSeen sa name
    if sa ≠ d1.isoAddr ∨ (d1.isoState ≠ 1 ∧ d1.isoState ≠ 2) then d1
    else
      let d2 := d1.onIso (fun x => { x with tps := [] })
      if name < d2.iso.name then d2.claimLost else d2.sendClaim sa

/-- REQUEST_PGN_RX: a request for PGN 60928, global or to the module's address. -/
def doRequestPgnRx (pgn da : Nat) (d : Dev) : Dev :=
  if !d.isoOn ∨ pgn ≠ 60928 then d
  else if d.isoState = 3 then (if da = 255 ∨ da = 254 then d.sendClaim 254 else d)
  else if da = 255 ∨ da = d.isoAddr then d.sendClaim d.isoAddr
  else d

/-! ### The transport protocol (R444) -/

/-- A connection-management message to `da`. -/
def Dev.sendTpCm (d : Dev) (da : Nat) (data : List Nat) (pgn : Nat) : Dev :=
  d.isoSend (isoFrame (0x1CEC0000 + 256 * da + d.isoAddr) (data ++ leBytes 3 pgn))

/-- Connection abort with a reason. -/
def Dev.tpAbort (d : Dev) (da reason pgn : Nat) : Dev := d.sendTpCm da [255, reason, 255, 255, 255] pgn
/-- Clear to send: one packet. -/
def Dev.tpCts (d : Dev) (da next pgn : Nat) : Dev := d.sendTpCm da [17, 1, next, 255, 255] pgn
/-- End-of-message acknowledgement. -/
def Dev.tpEnd (d : Dev) (da bytes packets pgn : Nat) : Dev := d.sendTpCm da [19, bytes % 256, bytes / 256, packets, 255] pgn

/-- The transfers without that of a sender of one kind. -/
def Dev.tpDrop (d : Dev) (src : Nat) (bam : Bool) : Dev :=
  d.onIso (fun x => { x with tps := x.tps.filter (fun p => !(p.src == src && p.bam == bam)) })

/-- A transfer begins: 9 to 1,785 bytes in packets of 7. -/
def Dev.tpBegin (d : Dev) (src : Nat) (bam : Bool) (data : List Nat) : Dev :=
  let bytes := ofLe (part3 data 1 2)
  let packets := nth data 3
  let pgn := ofLe (part3 data 5 3)
  let d1 := d.tpDrop src bam
  if bytes < 9 ∨ 1785 < bytes ∨ packets ≠ (bytes + 6) / 7 then (if bam then d1 else d1.tpAbort src 9 pgn)
  else
    let d2 := d1.onIso (fun x => { x with tps := x.tps ++ [⟨src, bam, pgn, bytes, packets, 1, []⟩] })
    if bam then d2 else d2.tpCts src 1 pgn
where
  /-- `n` elements from position `i`. -/
  part3 (l : List Nat) (i n : Nat) : List Nat := (l.drop i).take n

/-- A data packet of a transfer. -/
def Dev.tpPacket (d : Dev) (p : Tp) (data : List Nat) : Dev :=
  let d1 := d.tpDrop p.src p.bam
  if nth data 0 ≠ p.next then (if p.bam then d1 else d1.tpAbort p.src 7 p.pgn)
  else
    let got := p.data ++ (data.drop 1).take 7
    if p.next = p.packets then
      let d2 := d1.onIso (fun x => { x with got := some (p.pgn, p.src, got.take p.bytes) })
      if p.bam then d2 else d2.tpEnd p.src p.bytes p.packets p.pgn
    else
      let d2 := d1.onIso (fun x => { x with tps := x.tps ++ [{ p with next := p.next + 1, data := got }] })
      if p.bam then d2 else d2.tpCts p.src (p.next + 1) p.pgn

/-- A connection-management message: RTS 16, BAM 32, abort 255; the module sends no transfers, so CTS and the acknowledgement
mean nothing to it. -/
def Dev.tpManage (d : Dev) (src : Nat) (bam : Bool) (data : List Nat) : Dev :=
  match nth data 0 with
  | 16 => if bam then d else d.tpBegin src false data
  | 32 => if bam then d.tpBegin src true data else d
  | 255 => d.tpDrop src bam
  | _ => d

/-- TRANSPORT_PROTOCOL_RX: a message of PGN 60416, or 60160 where `dt`, from `src` to `dst` (255: global). -/
def doTransportProtocolRx (dt : Bool) (src dst : Nat) (data : List Nat) (d : Dev) : Dev :=
  let bam := dst == 255
  if !d.isoOn ∨ !(bam || (d.isoState == 2 && dst == d.isoAddr)) then d
  else if !dt then d.tpManage src bam data
  else match d.iso.tps.find? (fun p => p.src == src && p.bam == bam) with
    | none => d
    | some p => d.tpPacket p data

/-- ADDRESS_CLAIM_START. -/
def execAddressClaimStart (t : Tick) (s : State) := s.onDev t doAddressClaimStart
/-- ADDRESS_CLAIM_TIMER. -/
def execAddressClaimTimer (t : Tick) (s : State) := s.onDev t doAddressClaimTimer
/-- ADDRESS_CLAIMED_RX. -/
def execAddressClaimedRx (t : Tick) (sa name : Nat) (s : State) := s.onDev t (doAddressClaimedRx sa name)
/-- REQUEST_PGN_RX. -/
def execRequestPgnRx (t : Tick) (pgn da : Nat) (s : State) := s.onDev t (doRequestPgnRx pgn da)
/-- TRANSPORT_PROTOCOL_RX. -/
def execTransportProtocolRx (t : Tick) (dt : Bool) (src dst : Nat) (data : List Nat) (s : State) :=
  s.onDev t (doTransportProtocolRx dt src dst data)

end Sys2Proof.Machine
end

