-- ==== Sys2Proof/Machine/HostRx.lean ====
section
/-! DEFINITION. Machine/HostRx.lean: receiving a frame (R362), command bundles (R372 to R374), credits received (R368 to R370), archive
frames from the host (R421). -/

namespace Sys2Proof.Machine

/-! ### The receive checks (R362) -/

/-- The IPv6 static address (R388), most significant word first. -/
def Dev.ip6 (d : Dev) : Nat := (List.range 4).foldl (fun a k => a * 2 ^ 32 + d.rd (IP6_ADDR k)) 0

/-- Step 2: destination MAC, address and port, and the VID when VLAN_EN is 1. -/
def Dev.destOk (d : Dev) (fr : RxFrame) : Bool :=
  fr.mac == d.otp.mac && fr.dport == d.g UDP_VLAN_PORT && fr.v6 == d.b HQ_CTL_IPV6
    && (if fr.v6 then fr.dst == Config.linkLocal d.otp.mac || (d.ip6 != 0 && fr.dst == d.ip6)
        else d.rd IP4_ADDR != 0 && fr.dst == d.rd IP4_ADDR)
    && (!d.b ETH_CTL_VLAN_EN || fr.vid == some (d.g UDP_VLAN_VID))

/-- The records of a bundle's payload (R389), at most `n`; none where one overruns the payload. -/
def recordsOf : Nat → List Nat → Option (List CmdRec)
  | 0, b => if b.isEmpty then some [] else none
  | n + 1, b =>
    if b.isEmpty then some []
    else
      let len := be b 4 2
      if b.length < 8 + len then none
      else
        let k := 8 + len + (4 - len % 4) % 4
        (recordsOf n (b.drop k)).map (fun l => ⟨be b 0 2, nth b 2, part b 8 len⟩ :: l)

/-- A whole bundle in one frame that holds only the session-key commands (R361, R396). -/
def sessionKeyFrame (z : Zadom) : Bool :=
  z.kind == K_CMD && z.bundle % 16 == 0 && z.flags.testBit 6
    && (match recordsOf 64 z.payload with
      | none => false
      | some l => l.all (fun r => r.op == 0x0102 || r.op == 0x0103))

/-- Step 5: AUTH (R361), over bytes 0 to 23 as received and the payload. -/
def Dev.authOk (d : Dev) (b : List Nat) (z : Zadom) : Bool :=
  if !d.b HQ_CTL_AUTH_EN then true
  else match d.colmo.session.key with
    | none => z.kind == K_SYNC || sessionKeyFrame z
    | some k => z.flags.testBit 7 && z.auth == Config.hmacSm3 k (b.take 24 ++ z.payload)

/-- The identity that frames carry (R385). -/
def Dev.devId (d : Dev) : Nat := if d.b HQ_ID_ID_VALID then d.g HQ_ID_ID else 63

/-- Steps 8 to 11: the counter that a failure steps and whether it starts an audit or a raise; none for an acceptance. -/
def Dev.flowCheck (d : Dev) (z : Zadom) : Option (Fld × Bool) :=
  let x := d.flow z.flow
  if !(x.opened && !x.out && z.queue == x.queue && (z.kind == K_CMD || z.kind == K_ARC)) then some (HQ_DISC3_FLOW, true)
  else if !x.first && (z.seq + 2 ^ 32 - x.seq % 2 ^ 32) % 2 ^ 32 == 2 ^ 31 && !d.b HQ_CTL_MODE then some (HQ_DISC1_SEQ, true)
  else if !x.first && !newer z.seq x.seq then some (HQ_DISC1_SEQ, false)
  else if !x.first && !d.b HQ_CTL_MODE && z.seq != (x.seq + 1) % 2 ^ 32 then some (HQ_DISC1_SEQ, true)
  else if !newer x.cntA x.cntB then some (HQ_DISC2_NO_CREDIT, true)
  else none

/-- Step 12: the frame accepted. -/
def Dev.accept (d : Dev) (z : Zadom) : Dev :=
  let x := d.flow z.flow
  let d1 := d.onFlow z.flow (fun y => { y with
    cntB := (y.cntB + 1) % 2 ^ 32
    seq := z.seq
    first := false
    peerAt := if (y.peer.map (fun p => newer p ((y.cntB + 1) % 2 ^ 32))).getD false then y.peerAt else none
    changed := true })
  let d2 := d1.onQueue x.queue Queue.more
  if x.pairEn && z.credit != 0 then d2.onFlow x.pair (fun y => { y with cntA := (y.cntA + z.credit) % 2 ^ 32, changed := true }) else d2

/-- ETH stamps a frame that it receives (R355). -/
def Dev.rxStamp (d : Dev) : Dev := { d with eth := { d.eth with stamp := d.time } }

/-- What the checks make of a frame: the device, and the frame if it was accepted (CRD and SYNC at step 7). -/
def Dev.rx (d0 : Dev) (fr : RxFrame) : Dev × Option Zadom :=
  if !d0.alive || !d0.b ETH_STATUS_LINK_UP then (d0, none)
  else
    let d := d0.rxStamp
    if !fr.fcs then (((d.satInc ETH_FCS_ERR_COUNT).pulse FRAME_CRC).linkFault, none)
  else
    let d := d.wrapInc ETH_RX_FRAMES_COUNT
    if !d.destOk fr then (d, none)
    else if !zadomOk fr.udp fr.v6 then (((d.satInc HQ_DISC0_CRC).pulse FRAME_CRC).linkFault, none)
    else
      let z := zadomOf fr.udp
      if z.dev ≠ d.devId then ((d.satInc HQ_DISC0_ID).linkFault, none)
      else if !d.authOk fr.udp z then ((((d.discarded z.queue).satInc HQ_DISC2_AUTH).pulse AUTH_FAIL).linkFault, none)
      else if z.kind ≠ K_SYNC ∧ z.epoch ≠ d.g HQ_SESSION_EPOCH then (((d.discarded z.queue).satInc HQ_DISC1_EPOCH).linkFault, none)
      else if z.kind = K_CRD ∨ z.kind = K_SYNC then (d, some z)
      else match d.flowCheck z with
        | some (f, q) => (((d.discarded z.queue).satInc f).when q Dev.linkFault, none)
        | none => (d.accept z, some z)

/-! ### Bundles (R366, R372 to R374, R380) -/

/-- The first CMD accepted opens the session (R380) and tells where the flows that are open from reset lead (R365). -/
def Dev.sessionOpen (d : Dev) (z : Zadom) (fr : RxFrame) : Dev :=
  let d1 := if d.b HQ_SESSION_SESSION_OPEN then d
    else ((d.p HQ_SESSION_SESSION_OPEN 1).p HQ_IRQ_STATUS_SESSION_OPENED 1).onLink (fun l => { l with hello := false })
  if z.flow = 0 then (([0, 1, 2] : List Nat).foldl (fun e f => e.onFlow f (fun x => { x with host := fr.src, port := fr.sport })) d1) else d1

/-- A bundle is complete: LAST and every lower index are there (R373). -/
def Bundle.complete (b : Bundle) : Bool :=
  match b.lastIdx with
  | none => false
  | some n => (List.range (n + 1)).all (fun i => b.frags.any (fun e => e.1 == i))

/-- A complete bundle enters its queue; one whose tag is busy is refused, and its frames are freed (R366). -/
def Dev.bundleComplete (d : Dev) (f : Nat) : Dev :=
  match (d.flow f).bundle with
  | none => d
  | some b =>
    if !b.complete then d
    else
      let d1 := d.onFlow f (fun x => { x with bundle := none })
      if d1.hq.busy.contains b.tag then (d1.freeFrames f b.frags.length).respond b.req 0x0C 0 0 [] false .none
      else (d1.onQueue (d1.flow f).queue (fun q => { q with bundles := q.bundles ++ [b] })).onHq (fun h => { h with busy := b.tag :: h.busy })

/-- A fragment that belongs to no bundle under assembly (R374): freed and counted. -/
def Dev.orphan (d : Dev) (f : Nat) : Dev := ((d.freeFrames f 1).satInc HQ_DISC3_BUNDLE).discarded (d.flow f).queue

/-- A fragment accepted on a command queue (R372, R374). -/
def Dev.fragment (d : Dev) (z : Zadom) (fr : RxFrame) : Dev :=
  let i := z.bundle % 16
  let last := if z.flags.testBit 6 then some i else none
  if i = 0 then
    let b : Bundle := ⟨z.flow, z.tag, z.bundle / 16, z.epoch, z.seq, d.now, d.eth.stamp, fr.src, fr.sport, last, [(0, z.payload)]⟩
    ((d.dropBundle z.flow 0 true).onFlow z.flow (fun x => { x with bundle := some b })).bundleComplete z.flow
  else match (d.flow z.flow).bundle with
    | none => d.orphan z.flow
    | some b =>
      if b.bundle ≠ z.bundle / 16 ∨ b.tag ≠ z.tag ∨ b.epoch ≠ z.epoch then d.orphan z.flow
      else if (d.flow z.flow).init ≤ i ∨ z.seq ≠ (b.seq0 + i) % 2 ^ 32 then d.dropBundle z.flow 1 true
      else
        let b1 := { b with frags := tabPut b.frags i z.payload, arrival := d.eth.stamp, lastIdx := last.or b.lastIdx }
        (d.onFlow z.flow (fun x => { x with bundle := some b1 })).bundleComplete z.flow

/-- CMD_FRAME_RX: a CMD frame on a command queue; one accepted on another queue has no reader and is freed. -/
def doCmdFrameRx (fr : RxFrame) (d : Dev) : Dev :=
  match d.rx fr with
  | (e, none) => e
  | (e, some z) =>
    if z.kind ≠ K_CMD then (if z.kind = K_ARC then e.freeFrames z.flow 1 else e)
    else if 8 ≤ z.queue then e.freeFrames z.flow 1
    else (e.sessionOpen z fr).fragment z fr

/-! ### Archive frames (R421) -/

/-- The end of the bytes received without a gap from position `at_`; `n` bounds the number of parts. -/
def covered : Nat → List (Nat × List Nat) → Nat → Nat
  | 0, _, at_ => at_
  | n + 1, l, at_ =>
    match l.find? (fun p => Nat.ble p.1 at_ && Nat.blt at_ (p.1 + p.2.length)) with
    | none => at_
    | some p => covered n l (p.1 + p.2.length)

/-- Byte `i` of the data received: of the newest part that holds it. -/
def stagedByte (l : List (Nat × List Nat)) (i : Nat) : Nat :=
  match l.find? (fun p => Nat.ble p.1 i && Nat.blt i (p.1 + p.2.length)) with
  | none => 0
  | some p => nth p.2 (i - p.1)

/-- An ARC frame for a running FW_STAGE on its flow: OFFSET and data (R421). The frame's buffer is freed. -/
def Dev.stageData (d : Dev) (z : Zadom) : Dev :=
  let d1 := d.freeFrames z.flow 1
  match d1.colmo.staging with
  | none => d1
  | some g =>
    if g.flow ≠ z.flow ∨ z.payload.length < 8 then d1
    else d1.onColmo (fun c => { c with staging := some { g with parts := (be z.payload 0 8, z.payload.drop 8) :: g.parts } })

/-! ### Credits from the host (R368 to R371) -/

/-- The copies that an RCV of the receiver does not cover (R370). -/
def Flow.uncovered (x : Flow) (rcv : Nat) : List (Tick × OutFrame) :=
  let n := (x.cntB + 2 ^ 32 - rcv % 2 ^ 32) % 2 ^ 32
  x.copies.drop (x.copies.length - n)

/-- An entry of a CRD (R368, R369): the host's GRANT and RCV for an OUT flow, its SENT for an IN flow. -/
def Dev.crdEntry (d : Dev) (e : CrdEntry) : Dev :=
  let x := d.flow e.flow
  if !x.opened then d
  else if x.out && e.role == 0 then d.onFlow e.flow (fun y => { y with
    cntA := if newer e.cntA y.cntA then e.cntA else y.cntA
    changed := y.changed || newer e.cntA y.cntA
    copies := if newer e.cntB y.cntB then y.copies else y.uncovered e.cntB })
  else if !x.out && e.role == 1 then d.onFlow e.flow (fun y => { y with
    peer := some e.cntB
    peerAt := if newer e.cntB y.cntB then (if y.peerAt.isSome then y.peerAt else some d.now) else none })
  else d

/-- CRD_FRAME_RX. -/
def doCrdFrameRx (fr : RxFrame) (d : Dev) : Dev :=
  match d.rx fr with
  | (e, none) => e
  | (e, some z) => if z.kind = K_CRD then (crdOf (min 117 (be z.payload 0 2)) (z.payload.drop 4)).foldl Dev.crdEntry e else e

/-- BUNDLE_TIMEOUT (R374): BUNDLE_T has passed since fragment 0. -/
def doBundleTimeout (flow : Nat) (d : Dev) : Dev :=
  match (d.flow flow).bundle with
  | none => d
  | some b => if d.since b.at_ (ms (d.g HQ_TIMERS_BUNDLE_T)) then d.dropBundle flow 0 true else d

/-- CMD_FRAME_RX. -/
def execCmdFrameRx (t : Tick) (fr : RxFrame) (s : State) := s.onDev t (doCmdFrameRx fr)
/-- CRD_FRAME_RX. -/
def execCrdFrameRx (t : Tick) (fr : RxFrame) (s : State) := s.onDev t (doCrdFrameRx fr)
/-- BUNDLE_TIMEOUT. -/
def execBundleTimeout (t : Tick) (flow : Nat) (s : State) := s.onDev t (doBundleTimeout flow)

end Sys2Proof.Machine
end

