-- ==== Sys2Proof/Machine/HostLink.lean ====
section
/-! DEFINITION. Machine/HostLink.lean: credit audits, epoch raises, sessions and the link itself (R375 to R381, R357). -/

namespace Sys2Proof.Machine

/-! ### Lists in parts -/

/-- A SYNC list received part by part: the device, and the whole list with its first part's bytes once the last part is in. -/
def Dev.syncPart (d : Dev) (z : Zadom) (skip : Nat) : Dev × Option (List CrdEntry) :=
  let sub := nth z.payload 0
  let i := nth z.payload 1
  let n := nth z.payload 2
  let es := crdOf (min 117 ((z.payload.length - skip) / 12)) (z.payload.drop skip)
  let l := d.hq.link
  if i ≠ 0 ∧ (l.sub ≠ sub ∨ l.part ≠ i) then (d, none)
  else
    let all := if i = 0 then es else l.entries ++ es
    if n ≤ i + 1 then (d.onLink (fun l => { l with sub := 0, part := 0, entries := [] }), some all)
    else (d.onLink (fun l => { l with sub := sub, part := i + 1, entries := all }), none)

/-- A SYNC frame of a subtype, received whole. -/
def Dev.rxSync (d : Dev) (fr : RxFrame) (sub skip : Nat) : Dev × Option (Zadom × List CrdEntry) :=
  match d.rx fr with
  | (e, none) => (e, none)
  | (e, some z) =>
    if z.kind ≠ K_SYNC ∨ nth z.payload 0 ≠ sub then (e, none)
    else match e.syncPart z skip with
      | (e2, none) => (e2, none)
      | (e2, some l) => (e2, some (z, l))

/-! ### The audit (R376) -/

/-- The entries of every open flow. -/
def Dev.allEntries (d : Dev) : List CrdEntry := d.openFlows.map d.entryOf

/-- The GRANTs of every open flow as a SYNC list has reported them: the credits freed so far are returned by it (R42, R376). -/
def Dev.reported (d : Dev) : Dev := d.openFlows.foldl (fun e f => e.onFlow f (fun x => { x with returns := 0 })) d

/-- A SYNC list with the counters of every open flow. -/
def Dev.report (d : Dev) (sub : Nat) : Dev := d.reported.sendSync sub [] d.allEntries

/-- R371 on one flow, as both ends report it: the receiver's GRANT and RCV, the sender's LIMIT and SENT. -/
def consistent (init grant rcv limit sent : Nat) : Bool :=
  !newer rcv sent && Nat.ble ((grant + 2 ^ 32 - rcv) % 2 ^ 32) init && !newer limit grant

/-- The difference of two counters modulo 2^32. -/
def sub32 (a b : Nat) : Nat := (a + 2 ^ 32 - b % 2 ^ 32) % 2 ^ 32

/-- R371 for flow `f` with the other end's entry. -/
def Dev.flowConsistent (d : Dev) (e : CrdEntry) : Bool :=
  let x := d.flow e.flow
  !x.opened || (if x.out then consistent x.init e.cntA e.cntB x.cntA x.cntB else consistent x.init x.cntA x.cntB e.cntA e.cntB)

/-- The copies of a flow that go again, at the head of its queue (R376 step 4); what followed their first sending does not follow again. -/
def Dev.resend (d : Dev) (f : Nat) (l : List OutFrame) : Dev :=
  if l.isEmpty then d
  else d.onQueue (d.flow f).queue (fun q => { q with
    frames := l.map (fun o => { o with retx := true, ends := false, after := .none }) ++ q.frames
    level := q.level + l.length })

/-- The sender's counters of an OUT flow set to the receiver's, the frames lost and the returns lost counted, the copies after RCV resent. -/
def Dev.reconcileOut (d : Dev) (e : CrdEntry) : Dev :=
  let x := d.flow e.flow
  if !x.opened || !x.out then d
  else
    let d1 := (d.satAdd HQ_RECON_LOST_FRAMES (sub32 x.cntB e.cntB)).satAdd HQ_RECON_LOST_RETURNS (sub32 e.cntA x.cntA)
    let again := if x.reliable && !d.b HQ_CTL_MODE then (x.uncovered e.cntB).map Prod.snd else []
    (d1.onFlow e.flow (fun y => { y with
      cntA := e.cntA, cntB := e.cntB, copies := []
      changed := y.changed || y.cntA != e.cntA || y.cntB != e.cntB })).resend e.flow again

/-- What an initiator counts of an IN flow: the frames and the returns that the host has lost. -/
def Dev.reconcileIn (d : Dev) (e : CrdEntry) : Dev :=
  let x := d.flow e.flow
  if !x.opened || x.out then d
  else (d.satAdd HQ_RECON_LOST_FRAMES (sub32 e.cntB x.cntB)).satAdd HQ_RECON_LOST_RETURNS (sub32 x.cntA e.cntA)

/-- The audit has ended. -/
def Dev.auditEnd (d : Dev) : Dev :=
  (((d.onLink (fun l => { l with audit := none })).p HQ_AUDIT_BUSY (b2n d.hq.link.raiseDue)).wrapInc HQ_AUDIT_COUNT).p HQ_IRQ_STATUS_AUDIT_DONE 1

/-- AUDIT_DRAIN_END (R376 steps 1 and 2). -/
def doAuditDrainEnd (d : Dev) : Dev :=
  match d.hq.link.audit with
  | none => d
  | some a =>
    if a.drained || !d.since a.since (ms 1) then d
    else
      let d1 := d.onLink (fun l => { l with audit := some { a with drained := true, tries := 0, since := d.now } })
      d1.report (if a.initiator then 1 else 2)

/-- AUDIT_REQ (R376 step 2, R381): the module answers the host's audit, and abandons its own. -/
def doAuditReq (fr : RxFrame) (d : Dev) : Dev :=
  match d.rxSync fr 1 4 with
  | (e, none) => e
  | (e, some _) =>
    if e.hq.link.epochWait then e
    else (e.onLink (fun l => { l with audit := some ⟨false, false, 0, e.now⟩ })).p HQ_AUDIT_BUSY 1

/-- AUDIT_RSP (R376 step 3). -/
def doAuditRsp (fr : RxFrame) (d : Dev) : Dev :=
  match d.rxSync fr 2 4 with
  | (e, none) => e
  | (e, some (_, es)) =>
    match e.hq.link.audit with
    | none => e
    | some a =>
      if !a.initiator || !a.drained then e
      else if !es.all e.flowConsistent then e.auditFail
      else
        ((es.foldl (fun x y => (x.reconcileOut y).reconcileIn y) e).report 3).auditEnd

/-- AUDIT_DONE (R376 step 4). -/
def doAuditDone (fr : RxFrame) (d : Dev) : Dev :=
  match d.rxSync fr 3 4 with
  | (e, none) => e
  | (e, some (_, es)) =>
    match e.hq.link.audit with
    | none => e
    | some a => if a.initiator || !a.drained then e else (es.foldl Dev.reconcileOut e).auditEnd

/-- AUDIT_RSP_TIMEOUT (R376 step 5): the request repeated three times, then the audit fails. -/
def doAuditRspTimeout (d : Dev) : Dev :=
  match d.hq.link.audit with
  | none => d
  | some a =>
    if !a.initiator || !a.drained || !d.since a.since (ms 5) then d
    else if a.tries < 3 then
      let d1 := d.onLink (fun l => { l with audit := some { a with tries := a.tries + 1, since := d.now } })
      d1.report 1
    else d.auditFail

/-- RETX_TIMEOUT (R375, R378): a reliable frame unacknowledged, or with `host` a SENT of the host newer than RCV, for RETX_T. -/
def doRetxTimeout (host : Bool) (d : Dev) : Dev :=
  let fs := d.openFlows
  let late := fun (t : Tick) => d.since t (ms (d.g HQ_TIMERS_RETX_T))
  if host then
    if fs.any (fun f => !(d.flow f).out && ((d.flow f).peerAt.map late).getD false) then d.linkFault else d
  else if !d.b HQ_CTL_MODE && fs.any (fun f => (d.flow f).out && (d.flow f).copies.any (fun p => late p.1)) then d.startAudit true else d

/-- HQ_AUDIT_REQ (R375, R378): Colmo starts an audit, in EXTENDED mode a raise. -/
def doHqAuditReq (d : Dev) : Dev := if d.alive then d.linkFault else d

/-- HQ_AUDIT_EPOCH_REQ: Colmo asks for a raise. -/
def doHqAuditEpochReq (d : Dev) : Dev := if d.alive then d.askRaise else d

/-! ### Epoch raises (R378) -/

/-- A flow at a raise: an incomplete bundle counts, copies go, counters start again; FLOW_SEQ stays. -/
def Dev.raiseFlow (d : Dev) (f : Nat) : Dev :=
  (d.dropBundle f 0 false).onFlow f (fun x => { x with
    cntA := x.init
    cntB := 0
    returns := 0
    copies := []
    peer := none
    peerAt := none
    changed := true })

/-- An IN queue at a raise: the fragments of older epochs go, and their tags are free. -/
def Dev.raiseQueue (d : Dev) (q : Nat) : Dev :=
  if 8 ≤ q then d
  else
    let tags := (d.queue q).bundles.map (fun b => b.tag)
    (d.onQueue q (fun x => { x with bundles := [], level := 0 })).onHq (fun h => { h with busy := h.busy.filter (fun t => !tags.contains t) })

/-- EPOCH_RAISE: at least 100 ms after the last one. -/
def doEpochRaise (d : Dev) : Dev :=
  let l := d.hq.link
  let early := match l.raiseAt with
    | none => false
    | some t => Nat.blt d.now (t + ms 100)
  if !d.alive || !l.raiseDue || early then d
  else
    let d1 := (d.p HQ_SESSION_EPOCH (d.g HQ_SESSION_EPOCH + 1)).wrapInc HQ_SESSION_RAISES
    let d2 := (d1.each 8 Dev.raiseQueue).openFlows.foldl Dev.raiseFlow (d1.each 8 Dev.raiseQueue)
    let d3 := (d2.onLink (fun x => { x with raiseAt := some d.now, raiseDue := false, epochWait := true, audit := none, newAt := d.now })).p HQ_IRQ_STATUS_EPOCH_RAISED 1
    (((d3.p HQ_AUDIT_BUSY 1).record 0 (.evt 6 0x82 0 0 (d3.g HQ_SESSION_EPOCH * 2 ^ 24 + d3.g HQ_SESSION_RAISES) 0)).onHq (fun h => { h with ctl := [] })).sendEpochNew

/-- EPOCH_NEW_TIMER: every 10 ms until the acknowledgement. -/
def doEpochNewTimer (d : Dev) : Dev :=
  if d.hq.link.epochWait && d.since d.hq.link.newAt (ms 10) then (d.onLink (fun l => { l with newAt := d.now })).sendEpochNew else d

/-- EPOCH_ACK: one that carries the new epoch resumes sending. -/
def doEpochAck (fr : RxFrame) (d : Dev) : Dev :=
  match d.rx fr with
  | (e, none) => e
  | (e, some z) =>
    if z.kind = K_SYNC ∧ nth z.payload 0 = 5 ∧ e.hq.link.epochWait ∧ nth z.payload 4 % 16 = e.g HQ_SESSION_EPOCH then
      (e.onLink (fun l => { l with epochWait := false })).p HQ_AUDIT_BUSY (b2n e.hq.link.raiseDue)
    else e

/-- EPOCH_REQ. -/
def doEpochReq (fr : RxFrame) (d : Dev) : Dev :=
  match d.rx fr with
  | (e, none) => e
  | (e, some z) => if z.kind = K_SYNC ∧ nth z.payload 0 = 6 then e.askRaise else e

/-! ### Sessions and the link (R357, R380, R21) -/

/-- HELLO_TIMER: every 100 ms from the first link-up until a CMD is accepted. -/
def doHelloTimer (d : Dev) : Dev :=
  if d.up && d.b ETH_STATUS_LINK_UP && d.hq.link.hello && !d.b HQ_SESSION_SESSION_OPEN
      && ((d.hq.link.helloAt.map (fun t => d.since t (ms 100))).getD true) then
    (d.onLink (fun l => { l with helloAt := some d.now })).sendCtl K_SYNC ([0, 0, 1, 0] ++ beBytes 6 d.otp.mac ++ [d.rd HQ_ID % 256, d.rd HQ_CTL % 256])
  else d

/-- LINK_UP: at the speed of ETH_CTL.RATE, or where RATE is 0 at the negotiated `speed` (1: 100 Mbit/s, 2: 1 Gbit/s; R354). While the crystal is lost ETH holds LINK_UP at 0 (R489). -/
def doLinkUp (speed : Nat) (d : Dev) : Dev :=
  if !d.alive || d.pwr.pllOnAon || d.b ETH_STATUS_LINK_UP then d
  else
    let d1 := (((d.p ETH_STATUS_LINK_UP 1).p ETH_STATUS_SPEED (if d.g ETH_CTL_RATE = 0 then speed else d.g ETH_CTL_RATE)).p ETH_STATUS_FULL_DUPLEX 1).p ETH_STATUS_AN_DONE (b2n (d.b ETH_CTL_AN_EN))
    let d2 := (d1.p ETH_IRQ_STATUS_LINK_CHANGE 1).clear LINK_DOWN_SRC
    if d2.hq.link.seen then d2.linkFault.when d2.up (fun e => e.ntfSend 64)
    else d2.onLink (fun l => { l with seen := true, hello := true })

/-- LINK_UP of ETH_STATUS falls. -/
def Dev.linkFall (d : Dev) : Dev :=
  if !d.b ETH_STATUS_LINK_UP then d
  else
    let d1 := (((d.p ETH_STATUS_LINK_UP 0).p ETH_STATUS_SPEED 0).p ETH_STATUS_FULL_DUPLEX 0).p ETH_STATUS_AN_DONE 0
    ((d1.p ETH_IRQ_STATUS_LINK_CHANGE 1).raise LINK_DOWN_SRC).onLink (fun l => { l with audit := none }) |>.p HQ_AUDIT_BUSY (b2n (d.hq.link.raiseDue || d.hq.link.epochWait))

/-- LINK_DOWN. -/
def doLinkDown (d : Dev) : Dev := if d.alive then d.linkFall else d

/-- RETX_TIMEOUT. -/
def execRetxTimeout (t : Tick) (host : Bool) (s : State) := s.onDev t (doRetxTimeout host)
/-- HQ_AUDIT_REQ. -/
def execHqAuditReq (t : Tick) (s : State) := s.onDev t doHqAuditReq
/-- HQ_AUDIT_EPOCH_REQ. -/
def execHqAuditEpochReq (t : Tick) (s : State) := s.onDev t doHqAuditEpochReq
/-- AUDIT_DRAIN_END. -/
def execAuditDrainEnd (t : Tick) (s : State) := s.onDev t doAuditDrainEnd
/-- AUDIT_REQ. -/
def execAuditReq (t : Tick) (fr : RxFrame) (s : State) := s.onDev t (doAuditReq fr)
/-- AUDIT_RSP. -/
def execAuditRsp (t : Tick) (fr : RxFrame) (s : State) := s.onDev t (doAuditRsp fr)
/-- AUDIT_DONE. -/
def execAuditDone (t : Tick) (fr : RxFrame) (s : State) := s.onDev t (doAuditDone fr)
/-- AUDIT_RSP_TIMEOUT. -/
def execAuditRspTimeout (t : Tick) (s : State) := s.onDev t doAuditRspTimeout
/-- EPOCH_RAISE. -/
def execEpochRaise (t : Tick) (s : State) := s.onDev t doEpochRaise
/-- EPOCH_NEW_TIMER. -/
def execEpochNewTimer (t : Tick) (s : State) := s.onDev t doEpochNewTimer
/-- EPOCH_ACK. -/
def execEpochAck (t : Tick) (fr : RxFrame) (s : State) := s.onDev t (doEpochAck fr)
/-- EPOCH_REQ. -/
def execEpochReq (t : Tick) (fr : RxFrame) (s : State) := s.onDev t (doEpochReq fr)
/-- HELLO_TIMER. -/
def execHelloTimer (t : Tick) (s : State) := s.onDev t doHelloTimer
/-- LINK_UP. -/
def execLinkUp (t : Tick) (speed : Nat) (s : State) := s.onDev t (doLinkUp speed)
/-- LINK_DOWN. -/
def execLinkDown (t : Tick) (s : State) := s.onDev t doLinkDown

end Sys2Proof.Machine
end

