-- ==== Sys2Proof/Machine/Power.lean ====
section
/-! DEFINITION. Machine/Power.lean: VIN, the rails, the sag log, wakes, the watchdog, low power (R447, R478 to R493). -/

namespace Sys2Proof.Machine

/-- The present VIN shown (R498), in 50 mV counts. -/
def Dev.vin (d : Dev) (mv : Nat) : Dev := d.p AON_VIN_STATUS_VIN (min 1023 (mv / 50))

/-- A rail shown inside its window or outside. -/
def Pwr.rail (p : Pwr) (rail : Nat) (q : Bool) : Pwr := { p with rails := setBit p.rails rail q }

/-- VIN_RISE to `mv` (R479, R491): after a loss of PD_AON a power-on reset; above 5.0 V VIN is valid, and the regulators come up (R494). -/
def doVinRise (mv : Nat) (m : Mach) : Mach :=
  let m1 := if m.dev.pwr.phase = .noAon ∧ 3000 ≤ mv then m.powerOnReset else m
  if m1.dev.pwr.phase = .noAon then m1
  else m1.onDev (fun d => (d.vin mv).onPwr (fun p => if 5000 < mv then { p with rails := 0xFF } else p))

/-- VIN_BELOW_VIN_RST (R479, R483): a supply reset; in STANDBY and OFF, which it does not end (R486), VIN is only no longer valid. -/
def doVinBelowVinRst (minMv : Nat) (m : Mach) : Mach :=
  let m1 := m.onDev (fun d => if d.pwr.phase = .noAon then d else (d.vin minMv).onPwr (fun p => p.rail 7 false))
  match m.dev.pwr.phase with
  | .run => m1.supplyReset minMv [1]
  | .held => m1.supplyReset minMv [1]
  | _ => m1

/-- PD_AON_LOSS (R479): nothing is powered; the next rise of VIN causes a power-on reset. -/
def doPdAonLoss (m : Mach) : Mach :=
  m.powerOnReset.onDev (fun d => d.onPwr (fun p => { p with phase := .noAon, rails := 0 }))

/-- The channel whose reset a rail holds (R478). -/
def railCh (rail : Nat) : Ch := if rail = 3 ∨ rail = 5 then .a else .b

/-- RAIL_OUT_OF_WINDOW (R478): rail 0 VDD_AON, 1 VDD_IO, 2 VDD_SMC, 3 and 4 VDD_CHA and VDD_CHB, 5 and 6 VANA_A and VANA_B. -/
def doRailOutOfWindow (rail : Nat) (m : Mach) : Mach :=
  let ph := m.dev.pwr.phase
  if 6 < rail ∨ ph = .noAon then m
  else
    let m1 := m.onDev (fun d => d.onPwr (fun p => p.rail rail false))
    if rail = 0 then m1.powerOnReset
    else if ph ≠ .run then m1
    else if rail = 1 then m1.supplyReset 0 [1]
    else if rail = 2 then m1.onDev (fun d => d.smcReset 6)
    else m1.chanReset (railCh rail)

/-- RAIL_BACK_IN_WINDOW (R478): the SMC warm reset is released; a channel's release follows by CHANNEL_RESET_RELEASE. -/
def doRailBackInWindow (rail : Nat) (d : Dev) : Dev :=
  if 6 < rail ∨ d.pwr.phase = .noAon then d
  else
    let d1 := d.onPwr (fun p => { p.rail rail true with back := if p.rails.testBit rail then p.back else p.back.set rail d.now })
    if rail = 2 ∧ d.pwr.phase = .run ∧ d.pwr.smc = .down ∧ d.bist.mode ≠ .undercoat then d1.smcTry else d1

/-- VIN_DIP_BEGIN (R481, R482). -/
def doVinDipBegin (mv : Nat) (d : Dev) : Dev :=
  if d.pwr.phase = .noAon ∨ d.pwr.dip.isSome then d
  else (((d.vin mv).p AON_VIN_STATUS_STICKY 1).p AON_VIN_STATUS_NOW 1).onPwr (fun p => { p with dip := some (d.now, d.time) })

/-- The report of a dip that has ended (R482): VIN_WARN for one cycle with the entry's sequence number, time and word. -/
def Dev.vinWarn (d : Dev) (time info : Nat) : Dev :=
  let d1 := d.wr SYS_SRC_STATUS (setBit (d.rd SYS_SRC_STATUS) 0 true)
  d1.recordAt 7 time (.evt 0 0x80 0 (d.sevOf VIN_WARN_SRC) info 0)

/-- VIN_DIP_END (R482): the sag-log entry, VIN_WARN with its EVT record, AON_IRQ_STATUS.SAG with vector 71. -/
def doVinDipEnd (minMv : Nat) (d : Dev) : Dev :=
  match d.pwr.dip with
  | none => d
  | some (_, time) =>
    let k := d.g AON_SAG_IDX_NEXT
    let d1 := d.sagWrite false minMv
    let d2 := if d1.alive then d1.vinWarn time (d1.rd (AON_SAG_INFO k)) else d1.takeSeq 7
    let old := d2.b AON_IRQ_STATUS_SAG
    let d3 := d2.p AON_IRQ_STATUS_SAG 1
    if d3.alive && d3.b AON_IRQ_EN_SAG && !old then d3.fireSag else d3

/-- NRESET_PIN (R488, R491): `minMv` is the lowest VIN of a dip in progress (R496). -/
def doNresetPin (minMv : Nat) (m : Mach) : Mach :=
  match m.dev.pwr.phase with
  | .noAon => m
  | .standby => m.supplyReset minMv [1]
  | .off => m.supplyReset minMv [1]
  | _ => m.pinReset minMv

/-- A wake from STANDBY through a supply reset (R488, R493): bit `cause` of AON_RST_CAUSE, AON_IRQ_STATUS.WAKE. -/
def Mach.wake (m : Mach) (cause : Nat) : Mach := (m.supplyReset 0 [1, cause]).onDev (fun d => d.p AON_IRQ_STATUS_WAKE 1)

/-- NWAKE (R447, R488): an event of source 7; held while a shutdown is under way. -/
def doNwake (m : Mach) : Mach :=
  let d := m.dev
  if d.pwr.phase = .standby then (m.wake 7).onDev (fun e => e.takeSeq 7)
  else if d.pwr.phase = .run ∧ d.pwr.shut ≠ 0 then m.onDev (fun e => e.onPwr (fun p => { p with wakeHeld := true }))
  else m

/-- AON_WAKE_TIMER (R488, R498): T minutes after the entry into STANDBY. -/
def doAonWakeTimer (m : Mach) : Mach :=
  if m.dev.pwr.phase = .standby ∧ m.dev.b AON_WAKE_CFG_TIMER_EN = true ∧ m.dev.since m.dev.pwr.since (ms (60000 * m.dev.g AON_WAKE_CFG_T)) = true then m.wake 8 else m

/-- SMC_WDOG (R492): T ms have passed since the last restart. -/
def doSmcWdog (d : Dev) : Dev :=
  if d.alive && d.b SYS_WDOG_EN && !d.halted && d.since d.pwr.kickAt (ms (d.g SYS_WDOG_T)) then (d.raise SMC_WDOG_SRC).smcReset 3 else d

/-- SYS_WDOG_KICK (R492). -/
def doSysWdogKick (d : Dev) : Dev := if d.alive then d.onPwr (fun p => { p with kickAt := d.now }) else d

/-- LP_GO (R486, R497): LP_STATE 1 is STANDBY, 2 OFF; 0 and 3 refuse. -/
def doLpGo (m : Mach) : Mach :=
  let st := m.dev.g SYS_PWR_CTL_LP_STATE
  if m.dev.alive ∧ (st = 1 ∨ st = 2) then m.lowPower st else m

/-- CHANNEL_RESET. -/
def doChannelReset (ch : Ch) (m : Mach) : Mach := m.chanReset ch

/-- VIN_RISE. -/
def execVinRise (t : Tick) (mv : Nat) (s : State) := s.onMach t (doVinRise mv)
/-- VIN_BELOW_VIN_RST. -/
def execVinBelowVinRst (t : Tick) (minMv : Nat) (s : State) := s.onMach t (doVinBelowVinRst minMv)
/-- PD_AON_LOSS. -/
def execPdAonLoss (t : Tick) (s : State) := s.onMach t doPdAonLoss
/-- RAIL_OUT_OF_WINDOW. -/
def execRailOutOfWindow (t : Tick) (rail : Nat) (s : State) := s.onMach t (doRailOutOfWindow rail)
/-- RAIL_BACK_IN_WINDOW. -/
def execRailBackInWindow (t : Tick) (rail : Nat) (s : State) := s.onDev t (doRailBackInWindow rail)
/-- VIN_DIP_BEGIN. -/
def execVinDipBegin (t : Tick) (mv : Nat) (s : State) := s.onDev t (doVinDipBegin mv)
/-- VIN_DIP_END. -/
def execVinDipEnd (t : Tick) (minMv : Nat) (s : State) := s.onDev t (doVinDipEnd minMv)
/-- NRESET_PIN. -/
def execNresetPin (t : Tick) (minMv : Nat) (s : State) := s.onMach t (doNresetPin minMv)
/-- NWAKE. -/
def execNwake (t : Tick) (s : State) := s.onMach t doNwake
/-- AON_WAKE_TIMER. -/
def execAonWakeTimer (t : Tick) (s : State) := s.onMach t doAonWakeTimer
/-- SMC_WDOG. -/
def execSmcWdog (t : Tick) (s : State) := s.onDev t doSmcWdog
/-- SYS_WDOG_KICK. -/
def execSysWdogKick (t : Tick) (s : State) := s.onDev t doSysWdogKick
/-- LP_GO. -/
def execLpGo (t : Tick) (s : State) := s.onMach t doLpGo
/-- CHANNEL_RESET. -/
def execChannelReset (t : Tick) (ch : Ch) (s : State) := s.onMach t (doChannelReset ch)

end Sys2Proof.Machine
end

