-- ==== Sys2Proof/Machine/Clocks.lean ====
section
/-! DEFINITION. Machine/Clocks.lean: clocks and their monitors, the timebases, S4 forwarding, the SMC pair's faults and debug
(R21 to R24, R32 to R34, R312 to R315, R489, R490). -/

namespace Sys2Proof.Machine

/-- XTAL_LOSS (R489): the SMC PLL runs from CD_AON, device time runs free, the host link falls, both CAN controllers are held in INIT. -/
def doXtalLoss (d : Dev) : Dev :=
  if d.pwr.phase ≠ .run then d
  else
    let d1 := { d.onPwr (fun p => { p with xtalOk := false, pllOnAon := true }) with eth := { d.eth with good := 0, bad := 0 } }
    if !d1.alive then d1
    else (((d1.raise XTAL_LOSS_SRC).p PTP_STATUS_SYNCED 0).linkFall.canEnterInit 0).canEnterInit 1

/-- XTAL_RETURN (R489). -/
def doXtalReturn (d : Dev) : Dev :=
  if d.pwr.phase ≠ .run ∨ !d.pwr.pllOnAon then d
  else
    let d1 := d.onPwr (fun p => { p with xtalOk := true, pllOnAon := false })
    let d2 := if d1.alive then d1.clear XTAL_LOSS_SRC else d1
    if d2.up then (d2.canLeaveInit 0).canLeaveInit 1 else d2

/-- AON_CLOCK_DEVIATION (R489): SYS_CLK_STATUS.AON_DEV follows the comparison with the crystal. -/
def doAonClockDeviation (on : Bool) (d : Dev) : Dev := if d.pwr.phase = .run then d.onPwr (fun p => { p with aonDev := on }) else d

/-- CLK_DEVIATION (R23): the channel clock deviates against CD_AON, against CD_SMC, or both. CD_AON decides; while AON_DEV is set, the
crystal does (R489). -/
def doClkDeviation (aonDev vsAon vsSmc : Bool) (c : Chan) : Chan :=
  if aonDev then (if vsSmc then c.raise CLK_CTL else c)
  else if vsAon then c.raise CLK_CTL
  else if vsSmc then c.raise CLK_XREF
  else c

/-- MOD_PLL_LOCK_LOSS (R489). -/
def doModPllLockLoss (c : Chan) : Chan := c.raise CLK_CTL

/-! ### The exchange of timestamps (R33, R34) -/

/-- The error that a successful exchange leaves, within 50 ns. -/
def exchangeErr (err : Int) : Int := satI (-50) 50 err

/-- What the copy has run to by the present instant becomes the start of the next millisecond; from now on the oscillator deviates by
`drift` ppb. -/
def TimeBase.settle (b : TimeBase) (now : Tick) (drift : Int) : TimeBase :=
  { b with at_ := now, off := b.offAt now, slew := b.slew - b.slewed now, last := b.timeAt now, drift := drift }

/-- An exchange that succeeds corrects rate and offset (R33): the copy takes the device time with the error left, and the rate correction
the deviation found. After holdover the offset is slewed, not stepped (R34). -/
def TimeBase.align (b : TimeBase) (now : Tick) (off err drift : Int) : TimeBase :=
  let s := b.settle now drift
  let gap := off + exchangeErr err - s.off
  let t := { s with rate := drift, missed := 0, hold := false }
  if b.hold || s.slew != 0 then { t with slew := gap } else { t with off := s.off + gap, slew := 0 }

/-- An exchange that succeeds; the first after holdover ends it. -/
def Chan.exchanged (c : Chan) (off err drift : Int) : Chan :=
  let c1 := { c with tb := c.tb.align c.now off err drift }
  if c.tb.hold then c1.clear TIME_HOLD else c1

/-- An exchange that is missed leaves the rate correction; the third begins holdover. -/
def Chan.exchangeMissed (c : Chan) (drift : Int) : Chan :=
  let n := c.tb.missed + 1
  let c1 := { c with tb := { c.tb.settle c.now drift with missed := n, hold := c.tb.hold || Nat.ble 3 n } }
  if c1.tb.hold && !c.tb.hold then c1.raise TIME_HOLD else c1

/-- TIMEBASE_EXCHANGE: none succeeds while the SMC does not run or runs without the crystal (R21, R496). `err` is the error left in ns,
`drift` the deviation of the channel's oscillator in ppb. -/
def doTimebaseExchange (ch : Ch) (ok : Bool) (err drift : Int) (m : Mach) : Mach :=
  let d := m.dev
  if ok && d.up && !d.pwr.pllOnAon then m.onChan ch (live (fun c => c.exchanged d.off err drift))
  else m.onChan ch (live (fun c => c.exchangeMissed drift))

/-- PEER_S4_FORWARD (R21, R22, R28): the SMC forwards the other channel's S4 to channel `ch`, whose supervisor raises the source. A pair
that is held or halted takes nothing. -/
def doPeerS4Forward (ch : Ch) (m : Mach) : Mach :=
  if m.dev.up && (m.chan ch.other).dust.fwd && (m.chan ch).pairRuns then
    (m.onChan ch.other (fun c => c.onDust (fun x => { x with fwd := false }))).onChan ch (live (fun c => c.pulse PEER_S4))
  else m

/-! ### The SMC pair (R312, R314, R315) -/

/-- SMC_PAIR_FAULT: bit `kind` of SMC_PAIR_STATUS (0 mismatch, 1 and 2 parity, 3 plumb test), SMC_PAIR, an SMC warm reset. -/
def doSmcPairFault (kind : Nat) (d : Dev) : Dev :=
  if !d.alive ∨ d.halted ∨ 3 < kind then d
  else ((d.wr SMC_PAIR_STATUS (setBit (d.rd SMC_PAIR_STATUS) kind true)).raise SMC_PAIR_SRC).smcReset 4

/-- PLUMB_TEST of the SMC pair (R309, R328). -/
def Dev.plumbTest (own other : Bool) (d : Dev) : Dev :=
  if !d.alive ∨ d.halted then d
  else
    let d1 := d.p SMC_PLUMB_STAT_LANE (d.g SMC_PLUMB_STAT_PASSES % 64)
    let d2 := if own then d1.wrapInc SMC_PLUMB_STAT_PASSES else d1.wr SMC_PAIR_STATUS (setBit (d1.rd SMC_PAIR_STATUS) 3 true)
    if own && !other then d2 else doSmcPairFault (if other then 0 else 3) d2

/-- PLUMB_TEST of a channel's pair, or of the SMC pair. -/
def doPlumbTestOf (pair : Option Ch) (own other : Bool) (m : Mach) : Mach :=
  match pair with
  | none => m.onDev (Dev.plumbTest own other)
  | some ch => m.onChan ch (live (fun c => (doPlumbTest own other c).skimNow))

/-- The debug ports are open (R314, R471). -/
def Dev.debugOpen (d : Dev) : Bool := d.lc == 1 || d.lc == 3

/-- A halt (0), a step (1) or a debug write (2) on the SMC pair: the flag raises SMC_PAIR. -/
def Dev.debugHalt (d : Dev) (kind : Nat) : Dev :=
  if !d.alive then d
  else
    let d1 := if kind = 2 then d else d.p SMC_PAIR_STATUS_HALTED 1
    if d1.b SMC_PAIR_STATUS_LOCKSTEP_BROKEN then d1 else (d1.p SMC_PAIR_STATUS_LOCKSTEP_BROKEN 1).raise SMC_PAIR_SRC

/-- DEBUG_HALT on a channel's pair, or on the SMC pair. -/
def doDebugHalt (pair : Option Ch) (kind : Nat) (m : Mach) : Mach :=
  if !m.dev.debugOpen then m
  else match pair with
    | none => m.onDev (fun d => d.debugHalt kind)
    | some ch => m.onChan ch (live (fun c => c.debugHalt kind))

/-- An S4 that the SMC has not forwarded is told nobody any more (R22). -/
def Chan.fwdLost (c : Chan) : Chan := c.onDust (fun x => { x with fwd := false })

/-- DEBUG_RESUME: the pair runs again and its comparator with it. What the channels raised while the SMC pair stood is not told (R22). -/
def doDebugResume (pair : Option Ch) (m : Mach) : Mach :=
  match pair with
  | none =>
    if m.dev.b SMC_PAIR_STATUS_HALTED then
      ((m.onDev (fun d => d.p SMC_PAIR_STATUS_HALTED 0)).onChan .a Chan.fwdLost).onChan .b Chan.fwdLost
    else m
  | some ch => m.onChan ch (live (fun c => c.p CORE_STATUS_HALTED 0))

/-- XTAL_LOSS. -/
def execXtalLoss (t : Tick) (s : State) := s.onDev t doXtalLoss
/-- XTAL_RETURN. -/
def execXtalReturn (t : Tick) (s : State) := s.onDev t doXtalReturn
/-- AON_CLOCK_DEVIATION. -/
def execAonClockDeviation (t : Tick) (on : Bool) (s : State) := s.onDev t (doAonClockDeviation on)
/-- CLK_DEVIATION. -/
def execClkDeviation (t : Tick) (ch : Ch) (vsAon vsSmc : Bool) (s : State) := s.live t ch (doClkDeviation s.m.dev.pwr.aonDev vsAon vsSmc)
/-- MOD_PLL_LOCK_LOSS. -/
def execModPllLockLoss (t : Tick) (ch : Ch) (s : State) := s.live t ch doModPllLockLoss
/-- TIMEBASE_EXCHANGE. -/
def execTimebaseExchange (t : Tick) (ch : Ch) (ok : Bool) (x : Exchange) (s : State) := s.onMach t (doTimebaseExchange ch ok x.err x.drift)
/-- PEER_S4_FORWARD. -/
def execPeerS4Forward (t : Tick) (ch : Ch) (s : State) := s.onMach t (doPeerS4Forward ch)
/-- SMC_PAIR_FAULT. -/
def execSmcPairFault (t : Tick) (kind : Nat) (s : State) := s.onDev t (doSmcPairFault kind)
/-- PLUMB_TEST. -/
def execPlumbTest (t : Tick) (pair : Option Ch) (x : PlumbFlags) (s : State) := s.onMach t (doPlumbTestOf pair x.own x.other)
/-- DEBUG_HALT. -/
def execDebugHalt (t : Tick) (pair : Option Ch) (kind : Nat) (s : State) := s.onMach t (doDebugHalt pair kind)
/-- DEBUG_RESUME. -/
def execDebugResume (t : Tick) (pair : Option Ch) (s : State) := s.onMach t (doDebugResume pair)

end Sys2Proof.Machine
end

