-- ==== Sys2Proof/Machine/EthOps.lean ====
section
/-! DEFINITION. Machine/EthOps.lean: time synchronisation, MDIO, the PHY's reset, the control protocols (R354, R356, R357, R388). -/

namespace Sys2Proof.Machine

/-! ### gPTP (R32, R354, R356) -/

/-- The end station takes part: the link is up, PTP_EN is 1, the crystal runs (R489: without it device time runs free). -/
def Dev.ptpOn (d : Dev) : Bool := d.alive && d.b ETH_STATUS_LINK_UP && d.b ETH_CTL_PTP_EN && !d.pwr.pllOnAon

/-- SYNCED after the counts of a Sync interval: 16 below 100 ns set it, 3 above 1 µs clear it. -/
def Dev.syncCount (d : Dev) (offset : Int) : Dev :=
  let good := if offset.natAbs < 100 then min 16 (d.eth.good + 1) else 0
  let bad := if 1000 < offset.natAbs then min 3 (d.eth.bad + 1) else 0
  let d1 := { d with eth := { d.eth with good := good, bad := bad } }
  if bad = 3 then d1.p PTP_STATUS_SYNCED 0 else if good = 16 then d1.p PTP_STATUS_SYNCED 1 else d1

/-- A Sync received at a stamp of ETH, sent at `origin` of the grandmaster (R355, R356): the offset to the grandmaster in PTP_OFFSET, the
servo's correction of device time, the counts. -/
def Dev.ptpSync (d : Dev) (stamp : Nat) (origin : Int) : Dev :=
  let offset := (stamp : Int) - (origin + d.eth.delay)
  let d1 := (d.p PTP_OFFSET_OFFSET (toBits 32 (sat32 offset))).took 1
  ({ d1 with lastTime := d1.time, off := d1.off + Config.ptpServo offset d.free, eth := { d1.eth with syncAt := none } }).syncCount offset

/-- A message of the domain that the end station belongs to (R354). -/
def Dev.inDomain (d : Dev) (n : Nat) : Bool := d.g PTP_CFG_DOMAIN == n

/-- PTP_MESSAGE_RX. -/
def doPtpMessageRx (msg : PtpMsg) (d0 : Dev) : Dev :=
  if !d0.ptpOn then d0
  else
    let d := d0.rxStamp
    match msg with
    | .sync n origin => if d.inDomain n then d.ptpSync d.eth.stamp origin else d
    | .syncTwo n => if d.inDomain n then { d with eth := { d.eth with syncAt := some d.eth.stamp } } else d
    | .followUp n origin => match d.eth.syncAt with
      | none => d
      | some t => if d.inDomain n then d.ptpSync t origin else d
    | .pdelay delay => { d with eth := { d.eth with delay := delay } }
    | .announce n => if d.inDomain n then d.p PTP_STATUS_GM_PRESENT 1 else d
    | .other => d

/-- ANNOUNCE_TIMEOUT. -/
def doAnnounceTimeout (d : Dev) : Dev :=
  if !d.alive then d
  else ({ d with eth := { d.eth with good := 0 } } : Dev).p PTP_STATUS_SYNCED 0 |>.p PTP_STATUS_GM_PRESENT 0

/-! ### MDIO (R388) -/

/-- MDIO_GO: GO reads 1 and BUSY is 1 until the transaction ends; a GO while one runs has no effect. -/
def doMdioGo (d : Dev) : Dev := if !d.alive ∨ d.b MDIO_CTL_BUSY then d else (d.p MDIO_CTL_GO 1).p MDIO_CTL_BUSY 1

/-- MDIO_TRANSACTION_END: a read leaves the word that the PHY drove in DATA. -/
def doMdioTransactionEnd (data : Nat) (d : Dev) : Dev :=
  if !d.alive ∨ !d.b MDIO_CTL_BUSY then d
  else ((d.p MDIO_CTL_GO 0).p MDIO_CTL_BUSY 0).when (d.b MDIO_CTL_READ) (fun e => e.p MDIO_DATA_DATA data)

/-! ### PHY_nRST (R357) -/

/-- PHY_RESET_RELEASE: PHY_RST.T µs after the release of the SMC reset. -/
def doPhyResetRelease (d : Dev) : Dev := if d.alive && d.since d.pwr.since (us (d.g PHY_RST_T)) then d.onPwr (fun p => { p with phy := true }) else d

/-- PHY_nRST reads high. -/
def Dev.phyHigh (d : Dev) : Bool := d.pwr.phy && !d.b PHY_RST_ASSERT

/-! ### Control protocols (R354) -/

/-- A protocol is IPv4's. -/
def protoV4 (p : CtlProto) : Bool := p == .arp || p == .echo

/-- A request for one of the module's addresses. -/
def Dev.mine (d : Dev) (p : CtlProto) (dst : Nat) : Bool :=
  if protoV4 p then d.rd IP4_ADDR != 0 && dst == d.rd IP4_ADDR
  else dst == Config.linkLocal d.otp.mac || (d.ip6 != 0 && dst == d.ip6)

/-- CONTROL_PROTOCOL_RX: the frame is stamped and counted; Colmo answers a request for one of the module's addresses, with VLAN_EN one on
the module's VID only. -/
def doControlProtocolRx (proto : CtlProto) (dst src : Nat) (vid : Option Nat) (d : Dev) : Dev :=
  if !d.alive ∨ !d.b ETH_STATUS_LINK_UP then d
  else
    let d1 := d.rxStamp.wrapInc ETH_RX_FRAMES_COUNT
    if !d1.up ∨ !d1.mine proto dst ∨ (d1.b ETH_CTL_VLAN_EN ∧ vid ≠ some (d1.g UDP_VLAN_VID)) then d1
    else
      let d2 := d1.wrapInc ETH_TX_FRAMES_COUNT
      { d2 with eth := { d2.eth with answered := some (proto, src) } }

/-- PTP_MESSAGE_RX. -/
def execPtpMessageRx (t : Tick) (msg : PtpMsg) (s : State) := s.onDev t (doPtpMessageRx msg)
/-- ANNOUNCE_TIMEOUT. -/
def execAnnounceTimeout (t : Tick) (s : State) := s.onDev t doAnnounceTimeout
/-- MDIO_GO. -/
def execMdioGo (t : Tick) (s : State) := s.onDev t doMdioGo
/-- MDIO_TRANSACTION_END. -/
def execMdioTransactionEnd (t : Tick) (data : Nat) (s : State) := s.onDev t (doMdioTransactionEnd data)
/-- PHY_RESET_RELEASE. -/
def execPhyResetRelease (t : Tick) (s : State) := s.onDev t doPhyResetRelease
/-- CONTROL_PROTOCOL_RX. -/
def execControlProtocolRx (t : Tick) (proto : CtlProto) (dest : CtlDest) (src : Nat) (s : State) := s.onDev t (doControlProtocolRx proto dest.dst src dest.vid)

end Sys2Proof.Machine
end

