-- ==== Sys2Proof/Machine/DevWrite.lean ====
section
/-! DEFINITION. Machine/DevWrite.lean: writes of device registers by software (R10, R11, R525 and the maps of the device blocks). -/

namespace Sys2Proof.Machine

/-! ### Access codes (R11) -/

/-- The word of a register after a write of `v`, field by field: RW fields take the written bits, W1C bits written 1 clear; RO fields and
W1S requests leave the word. -/
def accWrite (fs : List FieldDesc) (old v : Nat) : Nat :=
  fs.foldl (fun w f => match f.acc with
    | .rw => putBits w f.hi f.lo (bitsOf v f.hi f.lo)
    | .w1c =>
      let x := bitsOf w f.hi f.lo
      putBits w f.hi f.lo (x ^^^ (x &&& bitsOf v f.hi f.lo))
    | _ => w) old

/-- The fields of a device register; none where the address does not decode. CANB has no ISO_STATUS (R451). -/
def devFields (a : Nat) : List FieldDesc :=
  if a = ISO_STATUS 1 then []
  else match devDesc a with
    | none => []
    | some r => r.fields

/-! ### Values that leave a field unchanged -/

/-- A severity word (R284): each field of three bits takes 0 or 1 only. -/
def sevWord (n old v : Nat) : Nat :=
  (List.range n).foldl (fun w b => if bitsOf v (3 * b + 2) (3 * b) < 2 then putBits w (3 * b + 2) (3 * b) (bitsOf v (3 * b + 2) (3 * b)) else w) old

/-- The number of severity fields of a register, 0 for another register. -/
def sevCount (a : Nat) : Nat :=
  if a = SYS_SEV ∨ a = CAN_SEV 0 ∨ a = CAN_SEV 1 then 4
  else if a = HQ_SEV ∨ a = ETH_SEV then 2
  else if a = ARC_SEV then 3
  else if a = SEC_SEV then 1
  else 0

/-- A value written to CVU_CTLn, with WIDTH 3 replaced by the width that the register holds (R327). -/
def widthHeld (old v : Nat) : Nat := if bitsOf v 5 4 = 3 then putBits v 5 4 (bitsOf old 5 4) else v

/-- Whether an address is a message object's register at window offset `off`. -/
def moAt (a off : Nat) : Bool := (a / 65536 == 4 || a / 65536 == 5) && Nat.ble 0x1000 (a % 65536) && a % 128 == off

/-- A field that a value leaves unchanged: WARN above 35, FAIL_ACT 3, RATE 3, LIMIT 0, MAXDELTA 0. -/
def heldFld (a v : Nat) : Option Fld :=
  if a = AON_VIN_CFG ∧ 35 < bitsOf v 5 0 then some AON_VIN_CFG_WARN
  else if a = BIST_CFG ∧ bitsOf v 1 0 = 3 then some BIST_CFG_FAIL_ACT
  else if a = ETH_CTL ∧ bitsOf v 1 0 = 3 then some ETH_CTL_RATE
  else if (a = CAN_LONE 0 ∨ a = CAN_LONE 1) ∧ bitsOf v 7 0 = 0 then some ⟨a, 7, 0⟩
  else if moAt a 0x1C ∧ bitsOf v 27 24 = 0 then some ⟨a, 27, 24⟩
  else none

/-- The value written, with such a field at the value it holds. -/
def Dev.guarded (d : Dev) (a v : Nat) : Nat :=
  match heldFld a v with
  | none => v
  | some f => putBits v f.hi f.lo (d.g f)

/-- LATCHED bits of sources that are still active set again (R525). -/
def Dev.relatch (d : Dev) (a : Nat) : Dev :=
  if a = SYS_SRC_STATUS ∨ a = HQ_SRC_STATUS ∨ a = ETH_SRC_STATUS ∨ a = CAN_SRC_STATUS 0 ∨ a = CAN_SRC_STATUS 1 ∨ a = ARC_SRC_STATUS ∨ a = SEC_SRC_STATUS then
    d.wr a (d.rd a ||| (d.rd a / 65536 % 65536))
  else d

/-- A write that acts by the access codes alone. -/
def Dev.plainWrite (d : Dev) (a v : Nat) : Dev :=
  if sevCount a = 0 then (d.wr a (accWrite (devFields a) (d.rd a) (d.guarded a v))).relatch a else d.wr a (sevWord (sevCount a) (d.rd a) v)

/-! ### Views (R387): FLOW_CFG, Q_CFG and NTF_ROUTE show the selected entry -/

/-- FLOW_CFG: a flow that is opened, or whose INIT changes, starts at its initial grant; F0 to F2 stay open (R365). -/
def Dev.flowWrite (d : Dev) (v : Nat) : Dev :=
  d.onFlow (d.g FLOW_SEL_FLOW) (fun x =>
    let init := bitsOf v 7 0
    let fresh := (v.testBit 31 || Nat.blt (d.g FLOW_SEL_FLOW) 3) && (!x.opened || x.init != init)
    { x with
      opened := v.testBit 31 || Nat.blt (d.g FLOW_SEL_FLOW) 3
      out := v.testBit 30
      reliable := v.testBit 29
      pairEn := v.testBit 28
      pair := bitsOf v 23 16
      queue := bitsOf v 13 8
      init := init
      cntA := if fresh then init else x.cntA
      cntB := if fresh then 0 else x.cntB
      first := fresh || x.first })

/-- Q_CFG. -/
def Dev.queueWrite (d : Dev) (v : Nat) : Dev :=
  d.onQueue (d.g Q_SEL_QUEUE) (fun q => { q with rsv := bitsOf v 31 24, thresh := bitsOf v 23 16, weight := bitsOf v 15 8, pcp := bitsOf v 2 0 })

/-- NTF_ROUTE; a selection above 71 names no vector. -/
def Dev.routeWrite (d : Dev) (v : Nat) : Dev :=
  let k := d.g NTF_SEL_VECTOR
  if 71 < k then d
  else d.onHq (fun h => { h with routes := tabPut h.routes k ⟨bitsOf v 15 8, v.testBit 3, v.testBit 2, bitsOf v 1 0⟩ })

/-! ### CAN (R431, R435, R436, R439, R442) -/

/-- CAN_CTL: the mode bits, then INIT, then RECOVER. -/
def Dev.canCtlWrite (d : Dev) (k v : Nat) : Dev :=
  let init := d.b (CAN_CTL_INIT k)
  let d1 := d.plainWrite (CAN_CTL k) (putBits v 0 0 (b2n init))
  let d2 := if v.testBit 0 && !init then d1.canEnterInit k else if !v.testBit 0 && init then d1.canLeaveInit k else d1
  if v.testBit 9 then doCanCtlRecover k d2 else d2

/-- MO_STAT: flags, LOCK, then PEND, then CANCEL. -/
def Dev.moStatWrite (d : Dev) (k n v : Nat) : Dev :=
  let d1 := d.plainWrite (MO_STAT k n) v
  let d2 := if v.testBit 31 then doMoStatPend k n d1 else d1
  if v.testBit 30 then doMoStatCancel k n d2 else d2

/-- MO_CTL: E2E exists on CAN B only; a receive object that is enabled with E2E has no counter reference yet. -/
def Dev.moCtlWrite (d : Dev) (k n v : Nat) : Dev :=
  let d1 := d.plainWrite (MO_CTL k n) (if k = 1 then v else putBits v 27 27 0)
  let on := fun (e : Dev) => e.b (MO_CTL_EN k n) && e.b (MO_CTL_E2E k n) && !e.b (MO_CTL_DIR k n)
  if on d1 && !on d then d1.setE2e k n ⟨false, d.now⟩ else d1

/-- A register of a message object at window offset `off`. -/
def Dev.moWrite (d : Dev) (k n off v : Nat) : Dev :=
  if off = 0x0C then d.moStatWrite k n v
  else if d.b (MO_STAT_PEND k n) && (Nat.ble off 0x08 || Nat.ble 0x1C off) then d.p (CAN_IRQ_STATUS_WRITE_REFUSED k) 1
  else if off = 0x04 then d.moCtlWrite k n v
  else d.plainWrite (0x41000 + 0x10000 * k + 0x80 * n + off) v

/-- A register of controller `k` at offset `off`. -/
def Dev.canWrite (d : Dev) (k off v : Nat) : Dev :=
  if off = 0 then d.canCtlWrite k v
  else if off = 4 ∨ off = 8 then (if d.b (CAN_CTL_INIT k) then d.plainWrite (0x40000 + 0x10000 * k + off) v else d)
  else if off < 0x1000 then d.plainWrite (0x40000 + 0x10000 * k + off) v
  else d.moWrite k ((off - 0x1000) / 128) (off % 128) v

/-! ### The SMC block's check-value units (R320 to R323) -/

/-- A register of unit `n` of the SMC block at window offset `off`. -/
def Dev.smcCvuWrite (d : Dev) (n off v : Nat) : Dev :=
  match off with
  | 0x04 => d.cvuData n v
  | 0x08 => d.wr (SMC_CVU_VAL n) (cvuPut (d.rd (SMC_CVU_CTL n)) (d.rd (SMC_CVU_VAL n)) v)
  | 0x14 => (d.when (v.testBit 0) (fun e => e.cvuInit n)).when (v.testBit 1) (fun e => e.cvuCheck n)
  | 0x00 => d.plainWrite (0x80100 + 0x20 * n) (widthHeld (d.rd (0x80100 + 0x20 * n)) v)
  | _ => d.plainWrite (0x80100 + 0x20 * n + off) v

/-! ### Every device register but those that act on the channels or reset blocks -/

/-- A write of `v` to the device register at `a` (its address less 0x1000_0000). -/
def Dev.write (d : Dev) (a v : Nat) : Dev :=
  if a = FLOW_CFG then d.flowWrite v
  else if a = Q_CFG then d.queueWrite v
  else if a = NTF_ROUTE then d.routeWrite v
  else if a = HQ_AUDIT then
    let d1 := if v.testBit 31 then doHqAuditReq d else d
    if v.testBit 30 then doHqAuditEpochReq d1 else d1
  else if a = MDIO_CTL then (d.plainWrite a v).when (v.testBit 31) doMdioGo
  else if a = ARC_OP then (d.plainWrite a v).when (v.testBit 31) doArcOpGo
  else if a = SYS_WDOG_KICK then (if v.testBit 0 then doSysWdogKick d else d)
  else if a / 65536 = 4 ∨ a / 65536 = 5 then (if (devFields a).isEmpty then d else d.canWrite (a / 65536 - 4) (a % 65536) v)
  else if 0x80100 ≤ a ∧ a < 0x80200 then (if (devFields a).isEmpty then d else d.smcCvuWrite ((a - 0x80100) / 32) (a % 32) v)
  else d.plainWrite a v

end Sys2Proof.Machine
end

