-- ==== Sys2Proof/Machine/ArcBytes.lean ====
section
/-! DEFINITION. Machine/ArcBytes.lean: the bytes that ARC_READ sends (R419, R457, R458, R460, R474). -/

namespace Sys2Proof.Machine

/-- The bytes of a slot of the snapshot ring (R460). -/
def slotBytes : Nat := 2359296

/-- The logical size of a partition in bytes (R457): blocks without spares; SNAP has none. -/
def Arch.partSize (a : Arch) (p : Nat) : Nat := 262144 * (if p = 8 then a.snapBlocks else nth [24, 24, 12, 12, 12, 6, 12, 6] p)

/-- The entry in a slot of the ring. -/
def Arch.inSlot (a : Arch) (slot : Nat) : Option Snap := if a.ringSlots ≤ slot then none else a.snaps.find? (fun x => x.index % a.ringSlots == slot)

/-- Bytes 0 to 31 of an entry's header. -/
def snapHead (x : Snap) : List Nat :=
  beBytes 4 0x534E4150 ++ beBytes 4 x.index ++ [x.ch.source, b2n x.manual + 2 * b2n x.hold] ++ beBytes 2 x.cfg.div ++ beBytes 2 x.cfg.pre
    ++ beBytes 2 x.period ++ beBytes 8 x.trigTime ++ beBytes 4 x.cause ++ beBytes 4 x.causeSeq

/-- Byte `k` below 4,092 of an entry's header; a signal that no configuration names and the reserved bytes are not stated. -/
def snapHeadByte (x : Snap) (k : Nat) : Nat :=
  if k < 32 then nth (snapHead x) k
  else if 48 ≤ k ∧ k < 52 then nth (beBytes 4 65536) (k - 48)
  else match (if k < 48 then x.cfg.signals[k - 32]? else none) with
    | some s => s
    | none => Config.arcByte x.index 8 k % 256

/-- Sample `k` of signal `s`, oldest first: a ring that has not yet been full holds the newest ones. -/
def snapSample (x : Snap) (k s : Nat) : Option Nat :=
  let gap := 65536 - x.samples.length
  if k < gap then none else (x.samples[k - gap]?).bind (fun l => l[s]?)

/-- Byte `k` of an entry (R460). -/
def snapByte (x : Snap) (k : Nat) : Nat :=
  if k < 4092 then snapHeadByte x k
  else if k < 4096 then nth (beBytes 4 (crc32.of ((List.range 4092).map (snapHeadByte x)))) (k - 4092)
  else match snapSample x ((k - 4096) / 32) ((k - 4096) % 32 / 2) with
    | some v => if k % 2 = 0 then v / 256 % 256 else v % 256
    | none => Config.arcByte x.index 8 k % 256

/-- Byte `off` of a partition; `n` numbers the reading of what the spec does not state. -/
def Arch.byteAt (a : Arch) (n p off : Nat) : Nat :=
  match (if p = 8 then a.inSlot (off / slotBytes) else none) with
  | some x => snapByte x (off % slotBytes)
  | none => Config.arcByte n p off % 256

/-- `len` bytes of a partition from `off`. -/
def Arch.bytesAt (a : Arch) (n p off len : Nat) : List Nat := (List.range len).map (fun i => a.byteAt n p (off + i))

/-- The slots that `len` bytes of the ring from `off` lie in. -/
def slotsOf (off len : Nat) : List Nat :=
  if len = 0 then [] else (List.range ((off + len - 1) / slotBytes + 1 - off / slotBytes)).map (fun i => off / slotBytes + i)

/-- Whether a read ends with ARCHIVE_ERR from its start (R458): beyond the logical size, or inside a retired slot. -/
def Arch.noRead (a : Arch) (p off len : Nat) : Bool :=
  Nat.blt (a.partSize p) (off + len) || (p == 8 && (slotsOf off len).any (fun s => a.retired.contains s))

/-- The INDEX of each slot read. -/
def Arch.indexes (a : Arch) (p off len : Nat) : List (Option Nat) :=
  if p = 8 then (slotsOf off len).map (fun s => (a.inSlot s).map Snap.index) else []

/-- The INDEX of each slot read is what it was as the read began (R474); `r.off` is the end of the read. -/
def Arch.unchanged (a : Arch) (r : ArcRead) : Bool :=
  let n := r.idx.length
  let first := (r.off - 1) / slotBytes + 1 - n
  (List.range n).map (fun i => (a.inSlot (first + i)).map Snap.index) == r.idx

end Sys2Proof.Machine
end

