-- ==== Sys2Proof/Machine/Firmware.lean ====
section
/-! DEFINITION. Machine/Firmware.lean: keys and images (R464, R465, R468), the choice of a slot at boot (R466, R467), verified signatures
and their failures (R475). -/

namespace Sys2Proof.Machine

/-- The number of set bits among the first 64. -/
def ones64 (n : Nat) : Nat := (List.range 64).foldl (fun a i => a + b2n (n.testBit i)) 0

/-- The anti-rollback counter (R468). -/
def Otp.rollbackCount (o : Otp) : Nat := ones64 o.rollback

/-- A key counts (R464): its digest stands in a slot of its kind that is not revoked. -/
def Otp.keyCounts (o : Otp) (kind : Nat) (key : List Nat) : Bool :=
  [0, 1].any (fun s => o.keys.getD (2 * kind + s) none == some (Config.sm3 key) && !o.revoked.testBit (2 * kind + s))

/-- A signature verifies under a key of a kind (R464): one of the CONFIG records that counts. -/
def Dev.verifies (d : Dev) (kind : Nat) (msg sig : List Nat) : Bool :=
  d.arch.keys.any (fun k => k.kind == kind && d.otp.keyCounts kind k.key && Config.sm2Verify k.key msg sig)

/-- A verification that fails (R475): SIG_FAIL for one cycle. -/
def Dev.sigFail (d : Dev) : Dev := d.pulse SIG_FAIL

/-! ### Images (R465) -/

/-- The first 128 bytes of a header, which the signature covers. -/
def headOf (img : List Nat) : List Nat := img.take 128
/-- KIND. -/
def imgKind (img : List Nat) : Nat := Config.header 0 (headOf img)
/-- VERSION. -/
def imgVersion (img : List Nat) : Nat := Config.header 1 (headOf img)
/-- ROLLBACK, 0 to 64. -/
def imgRollback (img : List Nat) : Nat := min 64 (Config.header 2 (headOf img))
/-- LENGTH. -/
def imgLength (img : List Nat) : Nat := Config.header 4 (headOf img)
/-- The digest of the body. -/
def imgDigest (img : List Nat) : Nat := Config.header 6 (headOf img)

/-- Why an image of a kind is not valid, as SEC_BOOT.CAUSE codes it; 0 for a valid image. -/
def Otp.imageCause (o : Otp) (kind : Nat) (img : List Nat) : Nat :=
  let key := part img 128 64
  if img.length < 256 ∨ be img 0 4 ≠ 0x434C4D4F ∨ imgKind img ≠ kind then 2
  else if !o.keyCounts 0 key then 3
  else if !Config.sm2Verify key (headOf img) (part img 192 64) then 4
  else if imgRollback img < o.rollbackCount then 5
  else if Config.sm3 (part img 256 (imgLength img)) ≠ imgDigest img then 6
  else 0

/-- The image in a slot of a kind. -/
def Arch.image (a : Arch) (kind slot : Nat) : Option (List Nat) := a.slots.getD (2 * kind + slot) none

/-- The cause of a slot: 0 for a valid image; a slot without a readable image has no valid header. -/
def Dev.slotCause (d : Dev) (kind slot : Nat) (readOk : Bool) : Nat :=
  match d.arch.image kind slot with
  | none => 2
  | some img => if readOk then d.otp.imageCause kind img else 2

/-- The boot-control record of a kind. -/
def Arch.ctl (a : Arch) (kind : Nat) : BootCtl := a.boot.getD kind {}

/-- The boot-control record of a kind changed. -/
def Dev.onBoot (d : Dev) (kind : Nat) (f : BootCtl → BootCtl) : Dev :=
  d.onArch (fun a => { a with boot := a.boot.set kind (f (a.ctl kind)) })

/-- SEC_BOOT's TRIAL and FALLBACK, for either kind. -/
def Dev.showBoot (d : Dev) : Dev :=
  (d.p SEC_BOOT_TRIAL (b2n (d.arch.boot.any BootCtl.onTrial))).p SEC_BOOT_FALLBACK (b2n (d.arch.boot.any BootCtl.fallback))

/-- A slot is chosen at boot: TRIAL once, else ACTIVE, then the other; the cause of the last slot tried where none is valid. -/
def Dev.pick (d : Dev) (kind : Nat) (readA readB : Bool) : Dev × Option Nat × Nat :=
  let b := d.arch.ctl kind
  let ok := fun s => if s = 0 then readA else readB
  let first := b.trial.getD b.active
  let c1 := d.slotCause kind first (ok first)
  let c2 := d.slotCause kind (1 - first) (ok (1 - first))
  let done := fun s => (d.onBoot kind (fun x => { x with trial := none, slot := s, onTrial := b.trial == some s, fallback := s != first })).showBoot
  if c1 = 0 then (done first, some first, 0)
  else if c2 = 0 then (done (1 - first), some (1 - first), 0)
  else ((d.onBoot kind (fun x => { x with trial := none, onTrial := false })).showBoot, none, c2)

/-- Colmo validates the channel image and loads it for both channels (R466); without a valid slot it raises SIG_FAIL. -/
def Dev.loadChImage (d : Dev) (readA readB : Bool) : Dev :=
  match d.pick 1 readA readB with
  | (d1, some s, _) => (d1.p SEC_BOOT_CHIMG_SLOT s).onPwr (fun p => { p with chImage := true })
  | (d1, none, _) => d1.sigFail.onPwr (fun p => { p with chImage := false })

end Sys2Proof.Machine
end

