-- ==== Sys2Proof/Machine/HostTx.lean ====
section
/-! DEFINITION. Machine/HostTx.lean: what the module sends: answers when their operations end (R393, R404), EVT and TLM frames (R360,
R414 to R417), egress (R361, R363, R366, R368), credits (R369), notifications (R383). -/

namespace Sys2Proof.Machine

/-! ### Records as bytes (R415, R417) -/

/-- A record as its frame holds it; its sequence number and timestamp first. -/
def Rec.bytes (r : Rec) : List Nat :=
  beBytes 4 r.seq ++ beBytes 8 r.time ++ (match r.body with
    | .evt type block bit sev d0 d1 => [type, block, bit, sev] ++ beBytes 4 d0 ++ beBytes 4 d1
    | .tlm sub flags tqSeq idx slots => beBytes 4 tqSeq ++ [sub, flags] ++ beBytes 2 idx ++ slots.flatMap (beBytes 2))

/-- Whether EVT_FILTER lets a record of a source pass (R417); every type but 0 and 1 does. -/
def Dev.passes (d : Dev) (source : Nat) (b : RecBody) : Bool :=
  match b with
  | .evt type _ _ sev _ _ => Nat.ble 2 type || Nat.ble (nth d.colmo.filter source) sev
  | .tlm .. => false

/-- A frame of records of one source, with the SEQ, TIMESTAMP and mark of the first (R360). -/
def Dev.recFrame (d : Dev) (kind flow source : Nat) (l : List Rec) : Dev :=
  match l with
  | [] => d
  | r :: _ => d.enqueue ⟨kind, flow, source, 0, r.seq, r.time, r.hold, l.flatMap Rec.bytes, false, .none, false⟩

/-- EVT frames of at most 59 records; `n` bounds their number. -/
def Dev.evtFrames : Nat → Dev → Nat → List Rec → Dev
  | 0, d, _, _ => d
  | n + 1, d, source, l => if l.isEmpty then d else ((d.recFrame K_EVT 2 source (l.take 59)).evtFrames n source (l.drop 59))

/-- The events among a source's records sent. -/
def Dev.sendEvents (d : Dev) (source : Nat) (l : List Rec) : Dev :=
  let es := l.filter (fun r => d.passes source r.body)
  d.evtFrames es.length source es

/-- The telemetry records that wait for a frame of a subscription. -/
def Dev.tlmWait (d : Dev) (ch : Ch) (sub : Nat) : List Rec :=
  match d.colmo.tlm.find? (fun e => e.1 == ch && e.2.1 == sub) with
  | none => []
  | some e => e.2.2

/-- Those records replaced. -/
def Dev.setTlm (d : Dev) (ch : Ch) (sub : Nat) (l : List Rec) : Dev :=
  d.onColmo (fun c => { c with tlm := c.tlm.filter (fun e => !(e.1 == ch && e.2.1 == sub)) ++ (if l.isEmpty then [] else [(ch, sub, l)]) })

/-- A telemetry record put into the frame of its subscription, which leaves with PER_FRAME records (R415). -/
def Dev.addTlm (subs : List Subscr) (ch : Ch) (d : Dev) (r : Rec) : Dev :=
  match r.body with
  | .evt .. => d
  | .tlm sub _ _ _ _ =>
    match subs.find? (fun x => x.sub == sub) with
    | none => d
    | some x =>
      let l := d.tlmWait ch sub ++ [r]
      if x.perFrame ≤ l.length then (d.setTlm ch sub []).recFrame K_TLM x.flow ch.source l else d.setTlm ch sub l

/-! ### Answers of channel operations (R393) -/

/-- The data of an answer whose slots are all done. -/
def doneData : List Slot → Option (List Nat)
  | [] => some []
  | .done d :: l => (doneData l).map (fun r => pad4 d ++ r)
  | _ :: _ => none

/-- The RSP of a bundle whose records all have a result; else the bundle goes on waiting. -/
def Dev.settle (d : Dev) (r : Running) (after : After) : Dev :=
  match doneData r.slots with
  | none => d.onColmo (fun c => { c with running := c.running ++ [r] })
  | some l => d.respond r.req 0 0xFF r.slots.length l true after

/-- The first answer due that satisfies a test ends: with `status` 0 its slot is done, else the bundle is refused. -/
def Dev.resolve (d : Dev) (q : Slot → Bool) (status : Nat) (data : List Nat) : Dev :=
  let l := d.colmo.running
  match l.find? (fun r => r.slots.any q) with
  | none => d
  | some r =>
    let i := l.findIdx (fun r => r.slots.any q)
    let d1 := d.onColmo (fun c => { c with running := l.eraseIdx i })
    let k := firstSlot q r.slots
    if status ≠ 0 then d1.refuse r.req status k r.slots.length data
    else
      let r1 := { r with slots := r.slots.set k (.done data) }
      match doneData r1.slots with
      | none => d1.onColmo (fun c => { c with running := l.set i r1 })
      | some x => d1.respond r.req 0 0xFF r.slots.length x true .none

/-- The end of an operation of a channel. -/
def Dev.opDone (ch : Ch) (d : Dev) (o : OpDone) : Dev :=
  d.resolve (fun s => s == .chan ch o.op) o.status (o.words.flatMap (beBytes 4))

/-! ### What Colmo and HOSTQ take from the channels -/

/-- The records dropped since the last report reported (R25, R417). -/
def Chan.reportDrops (c : Chan) : Chan :=
  if c.out.dropped = 0 then c else ({ c with out := { c.out with dropped := 0 } }).evt 7 0 0 0 c.out.dropped 0

/-- The answers and records of a channel taken into frames. -/
def Mach.collectCh (m : Mach) (ch : Ch) : Mach :=
  let c := m.chan ch
  let d1 := c.answers.foldl (Dev.opDone ch) m.dev
  let d2 := d1.sendEvents ch.source c.out.buf
  let d3 := c.out.buf.foldl (Dev.addTlm c.subs ch) d2
  { m.onChan ch (fun x => ({ x with answers := [], out := { x.out with buf := [] } }).reportDrops) with dev := d3 }

/-- The records of the device's sources taken into frames. -/
def Dev.collectDev (d : Dev) : Dev :=
  (List.range 8).foldl (fun e s => e.sendEvents s ((d.recs.filter (fun r => r.source == s)).map DevRec.rcd)) { d with recs := [] }

/-- The result of a requested BIST test (R420), once the engine is done. -/
def Dev.bistAnswer (d : Dev) : Dev :=
  if d.b BIST_RUN_BUSY then d
  else (List.range 8).foldl (fun e p => e.resolve (fun s => s == .bist p) 0 (beBytes 4 (e.rd BIST_RUN) ++ beBytes 4 (e.rd (BIST_RES p)))) d

/-- No waveform ring holds a trigger, and no snapshot is being written. -/
def Mach.noSnap (m : Mach) : Bool := m.a.ring.phase == .running && m.b.ring.phase == .running && m.dev.arch.writing.isNone

/-- SHUTDOWN is allowed (R420): no channel is ARMED or RUN, no speed class HIGH. -/
def Mach.mayShut (m : Mach) : Bool :=
  [m.a, m.b].all (fun c => c.state != ARMED && c.state != RUN && !c.b DUST_STATUS_SPD_HIGH)

/-- The low-power state of a SHUTDOWN that waits for the snapshots. -/
def Dev.shutWaits (d : Dev) : Option Nat :=
  d.colmo.running.findSome? (fun r => r.slots.findSome? (fun s => match s with
    | .shut st => some st
    | _ => none))

/-- A SHUTDOWN that waits is accepted once every snapshot is written (R461), if it is still allowed. -/
def Mach.shutTry (m : Mach) : Mach :=
  match m.dev.shutWaits with
  | none => m
  | some st =>
    if !m.noSnap then m
    else if m.mayShut then (m.shutAccept st).onDev (fun d => d.resolve (fun s => s == .shut st) 0 [])
    else m.onDev (fun d => d.resolve (fun s => s == .shut st) 0x05 [])

/-- All that is due taken into frames, while Colmo runs. -/
def Mach.collect (m : Mach) : Mach :=
  if m.dev.up then (((m.collectCh .a).collectCh .b).onDev (fun d => d.collectDev.bistAnswer)).shutTry else m

/-! ### ARC_READ (R419, R474) -/

/-- The tag of the running ARC_READ. -/
def Dev.arcTag (d : Dev) : Nat :=
  match d.colmo.running.find? (fun r => r.slots.any (fun s => s == .arc)) with
  | none => 0
  | some r => r.req.tag

/-- The ARC_READ that runs ends. -/
def Dev.arcEnd (d : Dev) (status : Nat) (data : List Nat) : Dev :=
  (d.onColmo (fun c => { c with arcRead := none })).resolve (fun s => s == .arc) status data

/-- The next ARC frame of a running read enters its queue once the last one has left; after the last frame, the RSP. -/
def Dev.arcFeed (d : Dev) : Dev :=
  match d.colmo.arcRead with
  | none => d
  | some r =>
    let x := d.flow r.flow
    if (d.queue x.queue).frames.any (fun f => f.flow == r.flow && f.kind == K_ARC) then d
    else if !x.opened then d.arcEnd 0x16 []
    else if r.left = 0 then (if d.arch.unchanged r then d.arcEnd 0 (beBytes 4 (r.crc ^^^ crc32.fin)) else d.arcEnd 0x1B [])
    else
      let n := min 1024 r.left
      let b := d.arch.bytesAt d.free r.part r.off n
      ((d.took 1).send K_ARC r.flow d.arcTag (beBytes 8 r.off ++ b) false .none).onColmo (fun c => { c with
        arcRead := some { r with
          off := r.off + n
          left := r.left - n
          crc := crc32.feed r.crc b } })

/-! ### What follows an answer -/

/-- The life-cycle state that takes effect (R470). -/
def Dev.enterLife (d : Dev) (st : Nat) : Dev :=
  let d1 := ({ d with lc := st }).p SEC_IRQ_STATUS_LC_CHANGE 1
  let d2 := if st = 3 ∨ st = 4 then d1.onColmo (fun c => { c with session := { c.session with key := none, cls := none } }) else d1
  if st = 4 then
    (d2.onOtp (fun o => { o with idKey := none })).onArch (fun a => { lclog := a.lclog, formatted := a.formatted, snapBlocks := a.snapBlocks, ringSlots := a.ringSlots, retired := a.retired, used := a.used, facBad := a.facBad, runBad := a.runBad })
  else d2

/-- An identity installed (R385, R422). -/
def Dev.setIdent (d : Dev) (id : Nat) : Dev := (d.p HQ_ID_ID id).p HQ_ID_ID_VALID 1

/-- What follows an answer, once it has left. -/
def Mach.perform (m : Mach) (a : After) : Mach :=
  match a with
  | .none => m
  | .key k cls => m.onDev (fun d => d.onColmo (fun c => { c with session := { c.session with key := some k, cls := some cls } }))
  | .noKey => m.onDev (fun d => d.onColmo (fun c => { c with session := { c.session with key := none, cls := none } }))
  | .resetChan ch => m.chanReset ch
  | .resetBoth =>
    ((m.chanReset .a).chanReset .b).onDev (fun d => (d.onColmo (fun c => { c with activating := false })).loadChImage true true)
  | .resetSmc => m.onDev (fun d => d.smcReset 5)
  | .ident id => m.onDev (fun d => d.setIdent id)
  | .lifecycle st => m.onDev (fun d => d.enterLife st)

/-- What follows the answers that could not be sent. -/
def Mach.runDue (m : Mach) : Mach :=
  m.dev.hq.due.foldl Mach.perform (m.onDev (fun d => d.onHq (fun h => { h with due := [] })))

/-! ### Egress (R361, R363, R368) -/

/-- FLAGS.AUTH and AUTH of a frame while AUTH_EN is 1 (R361). With no session key the spec gives AUTH no value (log 83). -/
def Dev.stampAuth (d : Dev) (z : Zadom) : Zadom :=
  if !d.b HQ_CTL_AUTH_EN then z
  else
    let z1 := { z with flags := setBit z.flags 7 true }
    { z1 with auth := Config.hmacSm3 (d.colmo.session.key.getD []) (z1.head ++ z1.payload) }

/-- The frame that leaves: identity, epoch, NOTSYNC, AUTH, VLAN tag; it is stamped (R355) and counted (R388). -/
def Dev.emitFrame (d : Dev) (z : Zadom) (host port pcp : Nat) : Dev :=
  let z1 := { z with
    dev := d.devId
    epoch := d.g HQ_SESSION_EPOCH
    flags := z.flags + 16 * b2n (!d.b PTP_STATUS_SYNCED) }
  let tag := if d.b ETH_CTL_VLAN_EN then some (pcp, d.g UDP_VLAN_VID) else none
  (d.wrapInc ETH_TX_FRAMES_COUNT).onHq (fun h => { h with sent := some ⟨d.stampAuth z1, host, port, tag, d.time⟩ })

/-- The queues of a rank, ascending. -/
def rankQueues (r : Nat) : List Nat := (List.range 64).filter (fun q => rankOf q == r)

/-- The head frame of a queue may leave: its flow has credit (R368). -/
def Dev.sendable (d : Dev) (q : Nat) : Bool :=
  match (d.queue q).frames with
  | [] => false
  | f :: _ => (d.flow f.flow).opened && newer (d.flow f.flow).cntA (d.flow f.flow).cntB

/-- The queue of a rank served next: weighted round robin. -/
def Dev.nextQueue (d : Dev) (r : Nat) : Option Nat :=
  let l := (rankQueues r).filter d.sendable
  (l.find? (fun q => Nat.blt (d.queue q).served (d.queue q).weight)).or l.head?

/-- A frame of a queue counted in its round; where every sendable queue of the rank has had its share, a new round begins. -/
def Dev.countRound (d : Dev) (q : Nat) : Dev :=
  let x := d.queue q
  if x.served < x.weight then d.onQueue q (fun y => { y with served := y.served + 1 })
  else ((rankQueues (rankOf q)).foldl (fun e k => if (e.queue k).served = 0 then e else e.onQueue k (fun y => { y with served := 0 })) d).onQueue q
    (fun y => { y with served := 1 })

/-- The credits that a frame of a flow returns for its pair (R368), at most 255. -/
def Dev.creditBack (d : Dev) (x : Flow) : Nat := if x.pairEn then min 255 (d.flow x.pair).returns else 0

/-- The head frame of queue `q` leaves. -/
def Dev.sendHead (d : Dev) (q : Nat) (f : OutFrame) : Dev :=
  let x := d.flow f.flow
  let back := d.creditBack x
  let d1 := (d.countRound q).onQueue q (fun y => { y with frames := y.frames.drop 1, level := y.level - 1 })
  let d2 := d1.onFlow f.flow (fun y => { y with
    cntB := (y.cntB + 1) % 2 ^ 32
    seq := f.seq
    changed := true
    copies := if y.reliable && !d.b HQ_CTL_MODE then y.copies ++ [(d.now, f)] else y.copies })
  let d3 := if x.pairEn then d2.onFlow x.pair (fun y => { y with returns := y.returns - back }) else d2
  let d4 := d3.when f.ends (fun e => e.freeTag f.tag)
  d4.emitFrame ⟨f.kind, 32 * b2n f.retx + 8 * b2n f.hold, 0, f.source, 0, f.flow, q, f.tag, back, f.seq, f.time, 0, 0, f.payload⟩ x.host x.port (d.queue q).pcp

/-- The next queue by rank. -/
def Dev.nextHead (d : Dev) : Option (Nat × OutFrame) :=
  match [2, 3, 4, 5].findSome? d.nextQueue with
  | none => none
  | some q => (d.queue q).frames.head?.map (fun f => (q, f))

/-- A CRD or SYNC frame leaves; while data frames are stopped only SYNC frames do (R376). -/
def Dev.sendCtlHead (d : Dev) : Option Dev :=
  let l := d.hq.ctl
  match l.find? (fun z => !d.stopped || z.kind == K_SYNC) with
  | none => none
  | some z =>
    let i := l.findIdx (fun z => !d.stopped || z.kind == K_SYNC)
    let d1 := d.onHq (fun h => { h with ctl := l.eraseIdx i })
    some (d1.emitFrame z (d.flow 0).host (d.flow 0).port 7)

/-- FRAME_EGRESS: what is due is taken into frames, then the next frame leaves and what follows it happens. -/
def doFrameEgress (m0 : Mach) : Mach :=
  let m := (m0.collect.runDue).onDev (fun d => if d.up then d.arcFeed else d)
  let d := m.dev
  if !d.alive || !d.b ETH_STATUS_LINK_UP then m
  else match d.sendCtlHead with
    | some d1 => { m with dev := d1 }
    | none =>
      if d.stopped then m
      else match d.nextHead with
        | none => m
        | some (q, f) => ({ m with dev := d.sendHead q f } : Mach).perform f.after

/-! ### Credits and notifications -/

/-- A CRD with the entries of some flows: their counters stand as reported, and its GRANTs return their credits (R368, R369). -/
def Dev.crdFor (d : Dev) (fs : List Nat) : Dev :=
  let es := fs.map d.entryOf
  if es.isEmpty ∨ !d.alive ∨ d.stopped ∨ !d.b ETH_STATUS_LINK_UP then d
  else (fs.foldl (fun e f => e.onFlow f (fun x => { x with changed := false, returns := 0 })) d).sendCrd es

/-- CRD_TIMER: at the end of a CRD_T interval. -/
def doCrdTimer (d : Dev) : Dev :=
  if d.since d.hq.crdAt (us (100 * d.g HQ_TIMERS_CRD_T)) then
    (d.onHq (fun h => { h with crdAt := d.now })).crdFor (d.openFlows.filter (fun f => (d.flow f).changed))
  else d

/-- CRD_FULL_TIMER: every 100 ms. -/
def doCrdFullTimer (d : Dev) : Dev :=
  if d.since d.hq.fullAt (ms 100) then (d.onHq (fun h => { h with fullAt := d.now })).crdFor d.openFlows else d

/-- The IRQ_STATUS and IRQ_EN registers of a channel's blocks. -/
def chanIrqs : List (Nat × Nat) :=
  [(CH_IRQ_STATUS, CH_IRQ_EN), (ADC_IRQ_STATUS, ADC_IRQ_EN), (SD_IRQ_STATUS, SD_IRQ_EN), (XC_IRQ_STATUS, XC_IRQ_EN),
   (DTC_IRQ_STATUS, DTC_IRQ_EN), (MASK_IRQ_STATUS, MASK_IRQ_EN), (OBS_IRQ_STATUS, OBS_IRQ_EN), (SL_IRQ_STATUS, SL_IRQ_EN),
   (PROT_IRQ_STATUS, PROT_IRQ_EN), (DUST_IRQ_STATUS, DUST_IRQ_EN), (MSIO_IRQ_STATUS, MSIO_IRQ_EN), (CORE_IRQ_STATUS, CORE_IRQ_EN),
   (SKIM_IRQ_STATUS, SKIM_IRQ_EN)]

/-- The enabled interrupt bits of a channel taken for its function; whether one has become set. -/
def Dev.chanSee (d : Dev) (s : Nat) (c : Chan) : Dev × Bool :=
  chanIrqs.foldl (fun x p => let y := x.1.irqSee s p.1 (c.read p.1) (c.rd p.2); (y.1, x.2 || y.2)) (d, false)

/-- Whether vector `v` has cause to fire (R382), which is taken: what has happened at the queue, or an enabled interrupt bit of the function
that has become set. -/
def Mach.vectorDue (m : Mach) (v : Nat) : Dev × Bool :=
  if v < 64 then (m.dev.onQueue v (fun q => { q with ev := false }), (m.dev.queue v).ev)
  else if v = 65 then m.dev.chanSee 1 m.a
  else if v = 66 then m.dev.chanSee 2 m.b
  else m.dev.funcSee (v - 64)

/-- NTF_VECTOR_FIRE. -/
def doNtfVectorFire (v : Nat) (m : Mach) : Mach :=
  if !m.dev.alive then m
  else
    let x := m.vectorDue v
    { m with dev := x.1.when x.2 (fun d => d.fire v) }

/-- NTF_HOLDOFF_EXPIRY: HOLDOFF has passed since the vector's NTF; one that waited leaves if its vector is still pending and enabled. -/
def doNtfHoldoffExpiry (v : Nat) (d : Dev) : Dev :=
  if d.hq.off.any (fun e => e.1 == v && !d.since e.2 (us (d.g NTF_CFG_HOLDOFF))) then d
  else
  let d1 := d.onHq (fun h => { h with off := h.off.filter (fun e => e.1 != v), wait := h.wait.filter (fun k => k != v) })
  if d.hq.wait.contains v && d.pend v && d.ntfEn v && (d.route v).msg then d1.ntfSend v else d1

/-- FRAME_EGRESS. -/
def execFrameEgress (t : Tick) (s : State) := s.onMach t doFrameEgress
/-- CRD_TIMER. -/
def execCrdTimer (t : Tick) (s : State) := s.onDev t doCrdTimer
/-- CRD_FULL_TIMER. -/
def execCrdFullTimer (t : Tick) (s : State) := s.onDev t doCrdFullTimer
/-- NTF_VECTOR_FIRE. -/
def execNtfVectorFire (t : Tick) (v : Nat) (s : State) := s.onMach t (doNtfVectorFire v)
/-- NTF_HOLDOFF_EXPIRY. -/
def execNtfHoldoffExpiry (t : Tick) (v : Nat) (s : State) := s.onDev t (doNtfHoldoffExpiry v)

end Sys2Proof.Machine
end

