-- ==== Sys2Proof/Machine/Boot.lean ====
section
/-! DEFINITION. Machine/Boot.lean: the ROM, Colmo's start, block soft resets, the release of a channel (R51, R358, R448, R453, R459, R466,
R469, R472, R491, R495). -/

namespace Sys2Proof.Machine

/-! ### The ROM (R466, R467) -/

/-- The ROM stops: both channels stay in OFF, nRSTOUT low, the cause in SEC_BOOT. -/
def Dev.romStop (d : Dev) (cause : Nat) : Dev := (d.p SEC_BOOT_CAUSE cause).onPwr (fun p => { p with smc := .stopped, nrstout := false })

/-- ROM_BOOT: whether a table copy's CRC matches, whether the pages of slots A and B read. -/
def doRomBoot (tableOk readA readB : Bool) (d : Dev) : Dev :=
  if d.pwr.phase ≠ .run ∨ d.pwr.smc ≠ .released ∨ d.halted then d
  else if !tableOk then d.romStop 1
  else match d.pick 0 readA readB with
    | (d1, some s, _) => ((d1.p SEC_BOOT_COLMO_SLOT s).p SEC_BOOT_CAUSE 0).onPwr (fun p => { p with smc := .booted })
    | (d1, none, cause) => d1.romStop cause

/-! ### The archive at Colmo's start (R453, R456, R457, R460) -/

/-- The archive formatted: its ring, its factory bad blocks. -/
def Dev.format (d : Dev) (blocks bad : Nat) : Dev :=
  d.onArch (fun a => { a with formatted := true, snapBlocks := blocks - bad - 148, ringSlots := (blocks - bad - 148) / 9, facBad := bad })

/-- The life-cycle states that allow a format, here of an unformatted archive (R456, R471). -/
def Dev.mayFormat (d : Dev) : Bool := d.lc == 0 || d.lc == 1 || d.lc == 3

/-- ARC reads the selects' identification; Colmo formats where it may. -/
def Dev.arcStart (d : Dev) (b0 b1 bad : Nat) : Dev :=
  let blocks := if b0 = 0 then 0 else b0 + b1
  let d1 := (d.p ARC_BLOCKS_BLOCKS0 b0).p ARC_BLOCKS_BLOCKS1 b1
  let d2 := if !d1.arch.formatted && d1.mayFormat && Nat.blt 148 (blocks - bad) then d1.format blocks bad else d1
  d2.p ARC_STATUS_READY (b2n (b0 != 0)) |>.p ARC_STATUS_FORMATTED (b2n d2.arch.formatted) |>.p ARC_STATUS_TABLE_OK (b2n d2.arch.formatted)
    |>.p ARC_STATUS_RING_SLOTS d2.arch.ringSlots

/-! ### Configuration from the archive (R358, R385, R444, R448) -/

/-- The stored host-link configuration of the registers of one block (2 HOSTQ, 3 ETH). -/
def Dev.loadHost (d : Dev) (blk : Nat) : Dev := (d.arch.hostCfg.filter (fun e => e.1 / 65536 == blk)).foldl (fun e x => e.write x.1 x.2) d

/-- The identity record. -/
def Dev.loadIdent (d : Dev) : Dev :=
  match d.arch.ident with
  | none => d
  | some i => d.setIdent i

/-- A controller's configuration; INIT cleared after it (R447). -/
def Dev.loadCan (d : Dev) (k : Nat) : Dev :=
  ((d.arch.canCfg.filter (fun e => e.1 / 65536 == 4 + k)).foldl (fun e x => e.write x.1 x.2) d).canLeaveInit k

/-- The ISO 11783 part of CAN A's record. -/
def Dev.loadIso (d : Dev) : Dev := { d with iso := { en := d.arch.iso.en, name := d.arch.iso.name, pref := d.arch.iso.pref } }

/-- The sag notification (R482, R496): enabled, and sent for a dip that ended before. -/
def Dev.sagEnable (d : Dev) : Dev :=
  let d1 := (d.p AON_IRQ_EN_SAG 1).pb NTF_EN2_EN 7 true
  if d1.b AON_IRQ_STATUS_SAG then d1.fireSag else d1

/-- The identity key, generated in FACTORY at the first start (R472): a free value. -/
def Dev.idKeyGen (d : Dev) : Dev :=
  if d.lc = 0 ∧ d.otp.idKey = none then (d.onOtp (fun o => { o with idKey := some d.freeVal })).took 1 else d

/-- The counters as the archive holds them; a power-on or supply start counts (R462). -/
def Dev.loadCounters (d : Dev) : Dev :=
  let l := (List.range 70).map (nth d.arch.counters)
  { d with base := if d.pwr.fresh then bump l 0 (fun n => n + 1) else l, baseAt := d.now }

/-- Colmo's start at the device level. -/
def Dev.colmoStart (d : Dev) (b0 b1 bad : Nat) (readA readB : Bool) : Dev :=
  let d1 := (((d.onPwr (fun p => { p with smc := .up })).arcStart b0 b1 bad).idKeyGen).loadChImage readA readB
  let d2 := (((((d1.loadHost 2).loadHost 3).loadIdent).loadCan 0).loadCan 1).loadIso
  let d3 := (d2.onColmo (fun c => { c with openCls := d2.arch.openCls })).sagEnable
  d3.loadCounters.onPwr (fun p => { p with fresh := false })

/-- A channel as Colmo finds it: no subscription, the module's identity, S4 that was not forwarded lost. -/
def Chan.atColmoStart (ident : Option Nat) (fresh : Bool) (c : Chan) : Chan :=
  { c with
    subs := []
    ctl := { c.ctl with devId := ident }
    dust := { c.dust with fwd := false }
    life := if fresh then { runFrom := c.life.runFrom } else c.life }

/-- COLMO_START: the blocks that the selects report, bad blocks among them, whether the channel image's slots read. -/
def doColmoStart (b0 b1 bad : Nat) (readA readB : Bool) (m : Mach) : Mach :=
  if m.dev.pwr.phase ≠ .run ∨ m.dev.pwr.smc ≠ .booted ∨ m.dev.halted then m
  else
    let fresh := m.dev.pwr.fresh
    let m1 := m.onDev (fun d => d.colmoStart b0 b1 bad readA readB)
    let f := Chan.atColmoStart m1.dev.arch.ident fresh
    (((m1.onChan .a f).onChan .b f).beginWrite .a).beginWrite .b

/-! ### Block soft resets (R491, R495) -/

/-- The registers of a block at their reset words. -/
def Dev.blkClear (d : Dev) (n : Nat) : Dev := d.keepRegs (fun a => a / 65536 != n)

/-- A soft reset of ETH (0), HOSTQ (1), CANA (2), CANB (3) or ARC (4); its configuration is loaded again. -/
def Dev.blkReset (d : Dev) (blk : Nat) : Dev :=
  match blk with
  | 0 => ({ (d.linkFall).blkClear 3 with eth := {} } : Dev).loadHost 3
  | 1 => (({ d.blkClear 2 with hq := {} } : Dev).loadHost 2).loadIdent
  | 2 => ((({ d.blkClear 4 with can := d.can.set 0 {} } : Dev).loadCan 0).loadIso)
  | 3 => ({ d.blkClear 5 with can := d.can.set 1 {} } : Dev).loadCan 1
  | 4 =>
    let w := d.rd ARC_BLOCKS
    let st := d.rd ARC_STATUS
    ((d.blkClear 6).wr ARC_BLOCKS w).wr ARC_STATUS st
  | _ => d

/-- SYS_BLK_RST: each bit written 1 resets its block. -/
def doSysBlkRst (bits : Nat) (d : Dev) : Dev := if d.alive then d.each 5 (fun e b => if bits.testBit b then e.blkReset b else e) else d

/-! ### The release of a channel (R51, R401, R459, R469) -/

/-- The kinds of a set by number (R399): 0 tuning, 1 safety. -/
def kindOf (n : Nat) : Kind := if n = 0 then .tuning else .safety

/-- The place of a channel's kind among the stored sets. -/
def psetIdx (ch : Ch) (k : Kind) : Nat := 2 * ch.idx + (if k = .tuning then 0 else 1)

/-- The stored copies of a channel's kind. -/
def Arch.copies (a : Arch) (ch : Ch) (k : Kind) : Copies := a.psets.getD (psetIdx ch k) {}

/-- What the signature of a safety set covers (R401): SET_VERSION, DEVICE_ID, TARGET and the image. -/
def setMsg (id : SetId) (ch : Ch) (image : List (Nat × Nat)) : List Nat := beBytes 4 id.version ++ [id.dev, ch.idx + 1] ++ imageBytes image

/-- The signature kept with a stored safety set verifies. -/
def Dev.storedSigOk (d : Dev) (ch : Ch) (k : Kind) (x : Stored) : Bool :=
  match k, x.id with
  | .tuning, _ => true
  | .safety, none => false
  | .safety, some i => d.verifies 1 (setMsg i ch x.image) (beBytes 64 i.sig)

/-- A copy that counts: it reads, and a safety copy's signature verifies. -/
def Dev.goodCopy (d : Dev) (ch : Ch) (k : Kind) (read : Bool) (x : Option Stored) : Option Stored :=
  match x with
  | none => none
  | some y => if read && d.storedSigOk ch k y then some y else none

/-- A copy that reads and whose signature fails. -/
def Dev.badSig (d : Dev) (ch : Ch) (k : Kind) (read : Bool) (x : Option Stored) : Bool :=
  match x with
  | none => false
  | some y => read && !d.storedSigOk ch k y

/-- Of two good copies the one with the newer write count (R459). -/
def newestCopy (a b : Option Stored) : Option Stored :=
  match a, b with
  | some x, some y => if newer y.count x.count then some y else some x
  | some x, none => some x
  | none, y => y

/-- The copies of a kind after the load: one that failed is written again from the other. -/
def Dev.loadSet (d : Dev) (ch : Ch) (k : Kind) (readA readB : Bool) : Dev × Option Stored :=
  let p := d.arch.copies ch k
  let ga := d.goodCopy ch k readA p.a
  let gb := d.goodCopy ch k readB p.b
  let d1 := if d.badSig ch k readA p.a || d.badSig ch k readB p.b then d.sigFail else d
  let x := newestCopy ga gb
  let mend := x.isSome && (ga.isNone || gb.isNone) && !d.arch.full 4
  (d1.when mend (fun e => e.onArch (fun a => { a with psets := a.psets.set (psetIdx ch k) ⟨ga.or x, gb.or x⟩ })), x)

/-- A stored image put into both banks. -/
def Chan.loadImage (c : Chan) (l : List (Nat × Nat)) : Chan :=
  l.foldl (fun d e =>
    let m := rwcBits e.1
    let w := (d.rd e.1 &&& (0xFFFFFFFF ^^^ m)) ||| (e.2 &&& m)
    (d.wr e.1 w).wrs e.1 w) c

/-- The channel with what its stored sets hold. -/
def Chan.loadSets (c : Chan) (t s : Option Stored) : Chan :=
  let c1 := c.loadImage ((t.map Stored.image).getD [])
  let c2 := c1.loadImage ((s.map Stored.image).getD [])
  { c2 with bases := (t.map (fun x : Stored => basesOf x.image)).getD c.bases }.onCtl (fun x => { x with tuningOk := t.isSome, safetyOk := s.isSome, kept := s.bind Stored.id })

/-- What the release finds at the lands and comparators (R296, R297, R537): the guard judged by its filtered levels, which start low, and a
pin nDCHG_REQ that has stayed low. -/
def Chan.releaseChecks (c : Chan) : Chan := ((c.guardTestDue).guardEval).when c.prot.pinLow Chan.dchgPinAsk

/-- A released channel enters PRIMED. -/
def Chan.release (c : Chan) (t s : Option Stored) (tests : Bool) (ident : Option Nat) : Chan :=
  let c1 := (c.loadSets t s).onCtl (fun x => { x with selfTest := tests, devId := ident })
  let c2 := { c1 with xchk := { c1.xchk with relAt := c1.now }, skim := { c1.skim with cycAt := c1.now } }
  (((c2.landCommon c2).landSafety c2).enterPrimed).releaseChecks

/-- The rails of a channel lie in their windows. -/
def Pwr.chRails (p : Pwr) (ch : Ch) : Bool := p.rails.testBit (3 + ch.idx) && p.rails.testBit (5 + ch.idx)

/-- A channel may be released: Colmo runs with a valid channel image, the rails are in their windows, the self-test allows it, and neither
a requested test nor the undercoat holds it. -/
def Dev.mayRelease (d : Dev) (ch : Ch) : Bool :=
  d.up && d.pwr.chImage && d.pwr.chRails ch && d.testsOk ch && d.bist.mode != .undercoat
    && !(d.bist.mode == .request && targetCh d.bist.req == some ch)

/-- The identity installed. -/
def Dev.ident (d : Dev) : Option Nat := if d.b HQ_ID_ID_VALID then some (d.g HQ_ID_ID) else none

/-- CHANNEL_RESET_RELEASE: whether the copies A and B of the tuning and of the safety set read. -/
def doChannelResetRelease (ch : Ch) (tA tB sA sB : Bool) (m : Mach) : Mach :=
  if (m.chan ch).state ≠ OFF ∨ !m.dev.mayRelease ch then m
  else
    let (d1, t) := m.dev.loadSet ch .tuning tA tB
    let (d2, s) := d1.loadSet ch .safety sA sB
    ({ m with dev := d2 } : Mach).onChan ch (fun c => c.release t s (d2.testsOk ch) d2.ident)

/-- ROM_BOOT. -/
def execRomBoot (t : Tick) (tableOk readA readB : Bool) (s : State) := s.onDev t (doRomBoot tableOk readA readB)
/-- COLMO_START. -/
def execColmoStart (t : Tick) (b0 b1 bad : Nat) (readA readB : Bool) (s : State) := s.onMach t (doColmoStart b0 b1 bad readA readB)
/-- SYS_BLK_RST. -/
def execSysBlkRst (t : Tick) (bits : Nat) (s : State) := s.onDev t (doSysBlkRst bits)
/-- CHANNEL_RESET_RELEASE. -/
def execChannelResetRelease (t : Tick) (ch : Ch) (tA tB sA sB : Bool) (s : State) :=
  s.onMach t (doChannelResetRelease ch tA tB sA sB)

/-! ### COMMIT_CTL (R63, R64) -/

/-- A commit request of a channel's supervisor by itself: no command waits for the answer. The life-cycle state limits what it may carry. -/
def State.commit (s : State) (t : Tick) (ch : Ch) (f : Nat → Chan → Chan) : Host.Outcome State Fault Refusal :=
  s.live t ch (quietly (f s.m.dev.lc))

/-- COMMIT_CTL_TUNING_COMMIT. -/
def execCommitCtlTuningCommit (t : Tick) (ch : Ch) (s : State) := s.commit t ch (fun lc c => c.tuningCommit lc)
/-- COMMIT_CTL_SAFETY_STAGE: `id` is what Colmo has verified of the set (R401). -/
def execCommitCtlSafetyStage (t : Tick) (ch : Ch) (id : SetId) (s : State) := s.commit t ch (fun lc c => c.safetyStage lc (some id))
/-- COMMIT_CTL_SAFETY_CONFIRM. -/
def execCommitCtlSafetyConfirm (t : Tick) (ch : Ch) (s : State) := s.commit t ch (fun lc c => c.safetyConfirm lc)

end Sys2Proof.Machine
end

