-- ==== Sys2Proof/Machine/ChanCtl.lean ====
section
/-! DEFINITION. Machine/ChanCtl.lean: the requests of CH_REQ, the ARM sequence's check and ends, the transitions with a delay, the
lapse of the torque stream (R52 to R60, R404, R530, R531). -/

namespace Sys2Proof.Machine

/-- A DISARM stands beside an ARM of the present cycle (R52). -/
def Chan.disarmNow (c : Chan) : Bool :=
  c.b CH_REQ_DISARM || (match c.ctl.disarmAt with
    | none => false
    | some t => sameCycle t c.now)

/-- An ARM accepted (R54, R55, R64): LAST_REFUSAL, a staged safety commit cancelled, the sequence begun. -/
def Chan.armAccept (c : Chan) : Chan :=
  let c1 := c.p CH_RESULT_LAST_REFUSAL 0
  let c2 := if c1.ctl.stage.isSome then (c1.onCtl (fun x => { x with stage := none })).refuseCommit 6 else c1
  if c2.state ≠ c.state then c2.p CH_IRQ_STATUS_ARM_REFUSED 1 |>.armAnswer 0x1C
  else c2.onCtl (fun x => { x with arm := some ⟨c2.state == HOLD, .check, c2.now, c2.now, 0⟩ })

/-- CH_REQ_ARM (R52, R54): discarded beside a DISARM and where no transition leads to ARMED, refused by the lowest CH_READY bit that
is 0, else accepted. -/
def doChReqArm (c : Chan) : Chan :=
  let c1 := c.p CH_REQ_ARM 0
  if c.disarmNow ∨ ¬(c.state = PRIMED ∨ c.state = HOLD) ∨ c.ctl.arm.isSome then c1.armDiscard
  else
    let k := lowestZero c.ready 11
    if k < 11 then
      (((c1.onCtl (fun x => { x with refused := some (c.now, c.g CH_RESULT_LAST_REFUSAL, c.g CH_IRQ_STATUS_ARM_REFUSED) })).p
        CH_RESULT_LAST_REFUSAL (k + 1)).p CH_IRQ_STATUS_ARM_REFUSED 1).armAnswer 0x1C
    else c1.armAccept

/-- The last answer of an ARM made CANCELLED. -/
def cancelLast (l : List OpDone) : List OpDone :=
  match l.reverse with
  | [] => []
  | d :: r => (if d.op = .arm then (⟨.arm, 0x10, []⟩ :: r) else d :: r).reverse

/-- An ARM refused in the very cycle of a DISARM was discarded, not refused (R52). -/
def Chan.unrefuse (c : Chan) : Chan :=
  match c.ctl.refused with
  | none => c
  | some (t, last, flag) =>
    if sameCycle t c.now then
      let c1 := (((c.onCtl (fun x => { x with refused := none })).p CH_RESULT_LAST_REFUSAL last).p CH_IRQ_STATUS_ARM_REFUSED flag).reqDiscard
      { c1 with answers := cancelLast c1.answers }
    else c

/-- CH_REQ_DISARM (R52, R53, R425): an ARM sequence under way ends CANCELLED; in ARMED, RUN and HOLD the DISARM is accepted; one of the
cycle in which the channel entered FAULT is discarded. -/
def doChReqDisarm (c : Chan) : Chan :=
  let c1 := ((c.p CH_REQ_DISARM 0).onCtl (fun x => { x with disarmAt := some c.now })).unrefuse
  let c2 := match c1.ctl.arm with
    | none => c1
    | some a =>
      let d := c1.armEnd
      (if sameCycle a.start c1.now then d.reqDiscard else d).armAnswer 0x10
  if c.state = ARMED ∨ c.state = RUN ∨ c.state = HOLD then (c2.onCtl (fun x => { x with disarm := true })).transCheck
  else if c.state = FAULT ∧ sameCycle c.ctl.stateAt c.now then c2.reqDiscard else c2

/-- CH_REQ_CLEAR_FAULT (R59): condition 3 latched in FAULT. -/
def doChReqClearFault (c : Chan) : Chan :=
  let c1 := c.p CH_REQ_CLEAR_FAULT 0
  if c.state = FAULT then (c1.onCtl (fun x => { x with clr := true })).transCheck else c1

/-- The contactor check of the sequence from HOLD (R55 step 1): CFB1 closed, CFB3 closed with a companion, CFB2 open, no weld. -/
def Chan.holdContactors (c : Chan) : Bool :=
  c.gb CONT_STATUS_CFB 0 && (c.g MSIO_CTL_AUX_MODE != 1 || c.gb CONT_STATUS_CFB 2)
    && (!c.fitted 2 || !c.gb CONT_STATUS_CFB 1) && c.g CONT_STATUS_WELD == 0

/-- ARM_WELD_CHECK_END (R55 step 1), once every fitted feedback has stood for its debounce: in PRIMED every one must read open; in HOLD the
contactors are checked as closed, and the link against the precharge level (R304 shows its source), with PRECHARGE_FAIL. -/
def doArmWeldCheckEnd (c : Chan) : Chan :=
  match c.ctl.arm with
  | none => c
  | some a =>
    if a.step ≠ .check ∨ !c.cfbDeb then c
    else if a.fromHold then
      let d := c.preReport
      if !d.holdContactors then d.armFail
      else if !d.preLevel then (d.armRefuse.pulse PRECHARGE_FAIL).armFail
      else (d.armStep .primer).primerStart
    else if !c.cfbOpen then c.armFail
    else (c.armStep .primer).primerStart

/-- ARM_SEQUENCE_END (R55 last step): the slices enabled with all switches off, ARMED; the ARM answers OK. A broken lock-step ends the
sequence (R315). -/
def doArmSequenceEnd (c : Chan) : Chan :=
  if c.lockBroken then c.armFail
  else if c.armAt = some .ready then
    ((((c.onCtl (fun x => { x with arm := none })).onMsio (fun m => { m with preAt := none })).p PRE_STATUS_PHASE 0).enterArmed).armAnswer 0
  else c

/-- ARM_TIMEOUT (R56): a sequence that has run for ARM_TIMEOUT_T is abandoned. -/
def doArmTimeout (c : Chan) : Chan :=
  match c.ctl.arm with
  | none => c
  | some a =>
    if c.since a.start (cyc (c.g ARM_TIMEOUT_T_COUNT)) then
      ((((c.armEnd).p CH_RESULT_ARM_TIMEOUT 1).p CH_IRQ_STATUS_ARM_REFUSED 1).pulse ARM_TIMEOUT).armAnswer 0x1D
    else c

/-- TRANSITION_DELAY_EXPIRY (R530): at a decision boundary 1 ms or more after the last condition, if the conditions still hold. -/
def doTransitionDelayExpiry (c : Chan) : Chan :=
  match c.ctl.trans with
  | none => c
  | some tr =>
    if c.dtc.boundAt ≠ c.now ∨ !c.since tr.since (ms 1) ∨ c.wanted ≠ some tr.dest then c
    else if tr.dest = HOLD then c.enterHold 2
    else c.enterPrimed

/-- STREAM_LAPSE (R57): the lapse timer has reached LAPSE_RAMP_T. -/
def doStreamLapse (c : Chan) : Chan :=
  if c.state = RUN ∧ c.since c.ctl.lapseAt (cyc (c.g LAPSE_RAMP_T_COUNT)) = true ∧ c.srcActive STREAM_LAPSE = false then (c.p CH_IRQ_STATUS_STREAM_LAPSE 1).raise STREAM_LAPSE else c

/-- LAPSE_HOLD (R57): the lapse timer has reached LAPSE_HOLD_T. -/
def doLapseHold (c : Chan) : Chan :=
  if c.state = RUN ∧ c.since c.ctl.lapseAt (cyc (c.g LAPSE_HOLD_T_COUNT)) = true then c.enterHold 1 else c

/-- CH_REQ_ARM. -/
def execChReqArm (t : Tick) (ch : Ch) (s : State) := s.live t ch (quietly doChReqArm)
/-- CH_REQ_DISARM. -/
def execChReqDisarm (t : Tick) (ch : Ch) (s : State) := s.live t ch doChReqDisarm
/-- CH_REQ_CLEAR_FAULT. -/
def execChReqClearFault (t : Tick) (ch : Ch) (s : State) := s.live t ch doChReqClearFault
/-- ARM_WELD_CHECK_END. -/
def execArmWeldCheckEnd (t : Tick) (ch : Ch) (s : State) := s.live t ch doArmWeldCheckEnd
/-- ARM_SEQUENCE_END. -/
def execArmSequenceEnd (t : Tick) (ch : Ch) (s : State) := s.live t ch doArmSequenceEnd
/-- ARM_TIMEOUT. -/
def execArmTimeout (t : Tick) (ch : Ch) (s : State) := s.live t ch doArmTimeout
/-- TRANSITION_DELAY_EXPIRY. -/
def execTransitionDelayExpiry (t : Tick) (ch : Ch) (s : State) := s.live t ch doTransitionDelayExpiry
/-- STREAM_LAPSE. -/
def execStreamLapse (t : Tick) (ch : Ch) (s : State) := s.live t ch doStreamLapse
/-- LAPSE_HOLD. -/
def execLapseHold (t : Tick) (ch : Ch) (s : State) := s.live t ch doLapseHold

end Sys2Proof.Machine
end

