-- ==== Sys2Proof/Machine/RegAccess.lean ====
section
/-! DEFINITION. Machine/RegAccess.lean: reads and writes of registers by address (R9 to R11, R18, R61, R62, R66, R92, R521 to R526). -/

namespace Sys2Proof.Machine

/-! ### A channel register written by its own pair -/

/-- The bits of a register's LK fields (R11). -/
def lkBits (a : Nat) : Nat :=
  match chanDesc a with
  | none => 0
  | some d => d.fields.foldl (fun m f => if f.acc = .rwcLk then m + fieldMask f else m) 0

/-- The fields of a channel register; none where the offset does not decode. -/
def chanFields (a : Nat) : List FieldDesc :=
  match chanDesc a with
  | none => []
  | some d => d.fields

/-- The RWC fields of a write (R11, R61, R62, R66): discarded while a commit is pending, held during a copy, LK fields unchanged in ARMED
and RUN, else in the shadow copy. -/
def Chan.rwcWrite (c : Chan) (a v : Nat) : Chan :=
  if rwcBits a = 0 then c
  else if c.ctl.commit.isSome then c.p COMMIT_STATUS_WRITE_BLOCKED 1
  else
    let lk := if c.state = ARMED ∨ c.state = RUN then lkBits a else 0
    let w := (v &&& (0xFFFFFFFF ^^^ lk)) ||| (c.rds a &&& lk)
    match c.ctl.copying with
    | none => c.shadowWrite a w
    | some k => c.onCtl (fun x => { x with copying := some { k with held := k.held ++ [(a, w)] } })

/-- The block whose source registers an offset belongs to, by a choice of register. -/
def blkWith (f : SrcRegs → Nat) (a : Nat) : Option Nat := (List.range 13).find? (fun b => f (srcRegs b) == a)

/-- LATCHED bits of sources that are still active set again (R525); VALID of a first-fault capture cleared takes OVF with it (R92). -/
def Chan.relatch (c : Chan) (a v : Nat) : Chan :=
  match blkWith SrcRegs.src a with
  | some _ => c.wr a (c.rd a ||| c.rd a / 65536 % 65536)
  | none =>
    match blkWith SrcRegs.ff a with
    | some _ => if v.testBit 31 then c.wr a (putBits (c.rd a) 30 30 0) else c
    | none => c

/-- The RW and W1C fields of a write. -/
def Chan.plainWrite (c : Chan) (a v : Nat) : Chan := (c.wr a (accWrite (chanFields a) (c.rd a) v)).relatch a v

/-- The requests of CH_REQ: CLEAR_FAULT, DISARM, then ARM, which a DISARM of the same write discards (R52). -/
def Chan.chReq (c : Chan) (v : Nat) : Chan :=
  ((c.when (v.testBit 2) doChReqClearFault).when (v.testBit 1) doChReqDisarm).when (v.testBit 0) (quietly doChReqArm)

/-- The requests of COMMIT_CTL; the row of a stage brings what Colmo has verified of the set, a stage by the pair brings nothing. -/
def Chan.commitReq (c : Chan) (lc v : Nat) : Chan :=
  ((c.when (v.testBit 0) (quietly (fun d => d.tuningCommit lc))).when (v.testBit 1) (quietly (fun d => d.safetyStage lc none))).when
    (v.testBit 2) (quietly (fun d => d.safetyConfirm lc))

/-- The requests of a converter's window register. A request of CONV_REQ stands in its bit until it is taken in the next cycle, by the row
of that event (R79). -/
def Chan.convReq (c : Chan) (a v : Nat) : Chan :=
  let n := (a - 0x1100) / 64
  if a = CONV_REQ n then c.wr a (c.rd a ||| (v &&& 3))
  else if a = FIFO_CTL n then c.when (v.testBit 31) (doFifoFlush n)
  else c

/-- The requests of a check-value unit, and its data and value words (R321 to R323). -/
def Chan.cvuWrite (c : Chan) (a v : Nat) : Chan :=
  let n := (a - 0xB100) / 32
  match a % 32 with
  | 0x00 => (c.cvuTouch n).plainWrite a (widthHeld (c.rd a) v)
  | 0x04 => c.cvuData n v
  | 0x08 => let d := c.cvuTouch n; d.wr a (cvuPut (d.rd (CVU_CTL n)) (d.rd a) v)
  | 0x14 => ((c.cvuTouch n).when (v.testBit 0) (fun d => d.cvuInit n)).when (v.testBit 1) (fun d => d.cvuCheck n)
  | _ => (c.cvuTouch n).plainWrite a v

/-- What a write does beyond the access codes of its fields: W1S requests and the staged reference (R11, R167). -/
def Chan.reqWrite (c : Chan) (lc a v : Nat) : Chan :=
  if a = CH_REQ then c.chReq v
  else if a = COMMIT_CTL then c.commitReq lc v
  else if 0x1100 ≤ a ∧ a < 0x1200 then c.convReq a v
  else if a = TQ_REF then doTqRefWrite (bitsOf v 15 0) c
  else if a = OBS_CMD then c.when (v.testBit 0) doObsCmdRelease
  else if a = SL_CH_CTL then c.when (v.testBit 2) doPrimerReq
  else if a = PROT_REQ then ((c.when (v.testBit 0) doChopTest).when (v.testBit 1) doDchgReq).when (v.testBit 2) doDchgCancel
  else if a = DUST_REQ then c.when (v.testBit 0) doLegClr
  else if a = MSIO_REQ then ((c.when (v.testBit 0) doAuxOn).when (v.testBit 1) doAuxOff).when (v.testBit 2) doWeldClr
  else if a = SKIM_REQ then c.when (v.testBit 0) doSkimReqPass
  else c

/-- A bus write aborts the REGF slice of its block (R335): unit 9 is the stencil RAM. -/
def Chan.regfTouch (c : Chan) (a : Nat) : Chan :=
  let u := if 0x4800 ≤ a ∧ a < 0x4B20 then 9 else a / 4096
  c.skimAbortIf 6 (fun k => k == u && Nat.ble u 9)

/-- A write of `v` by the channel's pair to the register at offset `a`; an offset that does not decode takes no effect (R522). -/
def Chan.regWrite (c : Chan) (lc a v : Nat) : Chan :=
  if (chanFields a).isEmpty then c
  else
    let c1 := c.regfTouch a
    if 0xB100 ≤ a ∧ a < 0xB200 then c1.cvuWrite a v else ((c1.plainWrite a v).rwcWrite a v).reqWrite lc a v

/-- A write by the channel's own pair, which alone writes the results of the torque monitor (R202). -/
def Chan.pairWrite (c : Chan) (lc a v : Nat) : Chan :=
  if a = TM_STATUS then c.wr a (v &&& 0xFFFF001E)
  else if a = TM_RES ∨ a = TM_TIME_LO ∨ a = TM_TIME_HI then c.wr a (v % 2 ^ 32)
  else c.regWrite lc a v

/-! ### A device register written by the SMC pair -/

/-- PARK of a channel by SYS_PWR_CTL (R486, R487): its gate supplies go with the bit and come back with it. -/
def Chan.park (c : Chan) (on : Bool) : Chan :=
  if c.state ≠ PRIMED ∨ c.parked = on then c
  else if on then
    let d := { c with parked := true, slices := c.offSlices }
    d.each 8 (fun e s =>
      let f := if e.b (SL_STATUS_READY s) then (e.p (SL_STATUS_READY s) 0).p SL_IRQ_STATUS_READY_CHANGE 1 else e
      (f.p (SL_STATUS_LINK_OK s) 0).p (SL_STATUS_GATE_ON s) 0)
  else { c with parked := false }

/-- A write of `v` by the SMC pair to the device register at `a` (its address less 0x1000_0000). -/
def Mach.devWrite (m : Mach) (a v : Nat) : Mach :=
  if !m.dev.alive then m
  else if a = SYS_PWR_CTL then
    let m1 := m.onDev (fun d => d.plainWrite a v)
    let m2 := (m1.onChan .a (fun c => c.park (v.testBit 0))).onChan .b (fun c => c.park (v.testBit 1))
    if v.testBit 31 then doLpGo m2 else m2
  else if a = SYS_BLK_RST then m.onDev (doSysBlkRst v)
  else if a = BIST_REQ then m.bistWrite (v % 16) (v / 16 % 8) (v.testBit 31) (v.testBit 30)
  else m.onDev (fun d => d.write a v)

/-! ### Device registers as they read -/

/-- SYS_PWR_STATUS (R486, R497): the domains in their order; a channel in OFF or parked has no gate supplies. -/
def Mach.pwrStatus (m : Mach) : Nat :=
  let gd := fun (c : Chan) => c.state != OFF && !c.parked
  let park := fun (c : Chan) => c.parked && c.state == PRIMED
  0x3F + 64 + 128 * b2n (gd m.a) + 256 + 512 * b2n (gd m.b) + 1024 * b2n (park m.a) + 2048 * b2n (park m.b)

/-- SYS_PWR_CTL: PARK reads 1 while the channel is parked. -/
def Mach.pwrCtl (m : Mach) : Nat :=
  let w := m.dev.rd SYS_PWR_CTL
  putBits (putBits w 0 0 (b2n (w.testBit 0 && m.a.parked))) 1 1 (b2n (w.testBit 1 && m.b.parked))

/-- A summary register of a CAN controller: bit `i` of word `n` is `q` of object 32 n + i (R449). -/
def objBits (n : Nat) (q : Nat → Bool) : Nat := (List.range 32).foldl (fun w i => if q (32 * n + i) then w + 2 ^ i else w) 0

/-- The HOSTQ registers that show a selected entry (R387). -/
def Dev.hostRead (d : Dev) (a : Nat) : Option Nat :=
  let x := d.flow (d.g FLOW_SEL_FLOW)
  let q := d.queue (d.g Q_SEL_QUEUE)
  let r := d.route (d.g NTF_SEL_VECTOR)
  if a = FLOW_CFG then some (2 ^ 31 * b2n x.opened + 2 ^ 30 * b2n x.out + 2 ^ 29 * b2n x.reliable + 2 ^ 28 * b2n x.pairEn + 2 ^ 16 * x.pair + 2 ^ 8 * x.queue + x.init)
  else if a = FLOW_CNT_A then some x.cntA
  else if a = FLOW_CNT_B then some x.cntB
  else if a = FLOW_SEQ then some x.seq
  else if a = Q_CFG then some (2 ^ 24 * q.rsv + 2 ^ 16 * q.thresh + 2 ^ 8 * q.weight + q.pcp)
  else if a = Q_STAT then some (2 ^ 16 * q.drops + q.level)
  else if a = NTF_ROUTE then some (if 71 < d.g NTF_SEL_VECTOR then 0 else 2 ^ 8 * r.flow + 8 * b2n r.msg + 4 * b2n r.pinEn + r.pin)
  else none

/-- The key slots as SEC_KEYS shows them: bit 2 × kind + slot (R477). -/
def Otp.programmed (o : Otp) : Nat := (List.range 8).foldl (fun w i => if (o.keys.getD i none).isSome then w + 2 ^ i else w) 0

/-- The registers that OTP, the archive and the Ethernet interface stand behind (R388, R476, R477). -/
def Dev.idRead (d : Dev) (a : Nat) : Option Nat :=
  if a = MAC_LO then some (d.otp.mac % 2 ^ 32)
  else if a = MAC_HI then some (d.otp.mac / 2 ^ 32 % 2 ^ 16)
  else if a = SEC_LC then some (128 * b2n d.debugOpen + d.lc)
  else if a = SEC_ROLLBACK then some d.otp.rollbackCount
  else if a = SEC_KEYS then some (2 ^ 16 * b2n d.otp.idKey.isSome + 2 ^ 8 * (d.otp.revoked % 256) + d.otp.programmed)
  else if a = ARC_BAD then some (2 ^ 16 * d.arch.facBad + min 65535 d.arch.runBad)
  else if a = ARC_RING then some d.arch.nextIndex
  else if a = SYS_RAIL_STATUS then some d.pwr.rails
  else if a = SYS_CLK_STATUS then some (4 * b2n d.pwr.aonDev + 2 * b2n d.pwr.pllOnAon + b2n d.pwr.xtalOk)
  else if SEC_UID 0 ≤ a ∧ a ≤ SEC_UID 3 then some (d.otp.uid / 2 ^ (32 * (3 - (a - SEC_UID 0) / 4)) % 2 ^ 32)
  else none

/-- CAN_TXPEND and CAN_NEWDAT of a controller. -/
def Dev.canRead (d : Dev) (k off : Nat) : Option Nat :=
  if 0x30 ≤ off ∧ off < 0x40 then some (objBits ((off - 0x30) / 4) (fun n => d.b (MO_STAT_PEND k n)))
  else if 0x40 ≤ off ∧ off < 0x50 then some (objBits ((off - 0x40) / 4) (fun n => d.b (MO_STAT_NEWDAT k n)))
  else none

/-- An SMC check-value unit's DATA, VAL and RES as they read (R321). -/
def Dev.cvuReg (d : Dev) (a : Nat) : Option Nat :=
  let w := a - a % 32
  match a % 32 with
  | 4 => some 0
  | 8 => some (cvuRead (d.rd w) (d.rd (w + 8)))
  | 12 => some (cvuRes (d.rd w) (d.rd (w + 8)))
  | _ => none

/-- The word of a device register whose fields follow from other state. -/
def Dev.shown (d : Dev) (a : Nat) : Option Nat :=
  match d.hostRead a with
  | some w => some w
  | none => match d.idRead a with
    | some w => some w
    | none => match devIrq a with
      | some (blk, n, f) => some (putBits (d.rd a) f.hi f.lo (b2n (d.srcIrq blk n)))
      | none =>
        if a / 65536 = 4 ∨ a / 65536 = 5 then d.canRead (a / 65536 - 4) (a % 65536)
        else if 0x80100 ≤ a ∧ a < 0x80200 then d.cvuReg a
        else none

/-- The word that a device register reads as; an offset that does not decode reads 0 (R522). -/
def Mach.devRead (m : Mach) (a : Nat) : Nat :=
  if (devFields a).isEmpty then 0
  else if a = SYS_PWR_CTL then m.pwrCtl
  else if a = SYS_PWR_STATUS then m.pwrStatus
  else (m.dev.shown a).getD (m.dev.rd a)

/-! ### Addresses (R521, R522) -/

/-- What an address reaches. -/
inductive Reach where
  | chan (ch : Ch) (off : Nat)
  | dev (off : Nat)
  | tcm (ch : Ch) (off : Nat)
  | box (ch : Ch) (off : Nat)
  | smcMem (off : Nat)
  | rom (off : Nat)
  | none
  deriving DecidableEq, Repr

/-- The register or memory word that an aligned address names (R521): a block of the device or of a channel whose offset decodes, a TCM, a
channel's mailbox and timebase exchange, the SMC memory and ROM. -/
def reach (addr : Nat) : Reach :=
  if addr % 4 ≠ 0 then .none
  else if addr < 0x10000 then .rom addr
  else if 0x08000000 ≤ addr ∧ addr < 0x08100000 then .smcMem (addr - 0x08000000)
  else if 0x10000000 ≤ addr ∧ addr < 0x100A0000 then (if (devFields (addr - 0x10000000)).isEmpty then .none else .dev (addr - 0x10000000))
  else if 0x20000000 ≤ addr ∧ addr < 0x2000D000 then (if (chanFields (addr - 0x20000000)).isEmpty then .none else .chan .a (addr - 0x20000000))
  else if 0x30000000 ≤ addr ∧ addr < 0x3000D000 then (if (chanFields (addr - 0x30000000)).isEmpty then .none else .chan .b (addr - 0x30000000))
  else if 0x2000F000 ≤ addr ∧ addr < 0x20010000 then .box .a (addr - 0x2000F000)
  else if 0x3000F000 ≤ addr ∧ addr < 0x30010000 then .box .b (addr - 0x3000F000)
  else if 0x21000000 ≤ addr ∧ addr < 0x21080000 then .tcm .a (addr - 0x21000000)
  else if 0x31000000 ≤ addr ∧ addr < 0x31080000 then .tcm .b (addr - 0x31000000)
  else .none

/-- The register that an address names, for Colmo's accesses: ROM, memories, mailboxes and TCMs are no registers (R522). -/
def regReach (addr : Nat) : Reach :=
  match reach addr with
  | .chan ch a => .chan ch a
  | .dev a => .dev a
  | _ => .none

/-- The word at an address. -/
def Mach.readAt (m : Mach) (addr : Nat) : Nat :=
  match reach addr with
  | .chan ch a => (m.chan ch).read a
  | .dev a => m.devRead a
  | .tcm ch off => (m.chan ch).tcmAt (off / 4)
  | .box ch _ => (m.chan ch).freeVal % 2 ^ 32
  | .smcMem off => RegMap.get m.smcMem 0 (off / 4)
  | .rom off => Config.romWord (off / 4) % 2 ^ 32
  | .none => 0

/-- A write of a TCM word by the pair: an access by the core aborts a SCRUB slice (R335). -/
def Chan.tcmWrite (c : Chan) (off v : Nat) : Chan := (c.skimAbortIf 8 (fun _ => true)).tcmPut (off / 4) v

/-- REGISTER_WRITE: a channel's pair writes its own channel's blocks and memory only, the SMC pair (no channel named) the device blocks and
its memory only (R18, R19); any other address, and an access that is not 32 bits wide, takes no effect (R9, R522). The layout of a
mailbox and of a timebase exchange is not given: a write there changes nothing that the model holds (log 78). -/
def doRegisterWrite (who : Option Ch) (size addr data : Nat) (m : Mach) : Mach :=
  if size ≠ 4 then m
  else match who, reach addr with
    | some c, .chan ch a => if c = ch ∧ !(m.chan ch).b CORE_STATUS_HELD then m.onChan ch (live (fun x => x.pairWrite m.dev.lc a data)) else m
    | some c, .tcm ch off => if c = ch ∧ !(m.chan ch).b CORE_STATUS_HELD then m.onChan ch (live (fun x => x.tcmWrite off data)) else m
    | none, .dev a => m.devWrite a data
    | none, .smcMem off => if m.dev.alive then { m with smcMem := RegMap.set m.smcMem 0 (off / 4) data } else m
    | _, _ => m

/-! ### Pairs of words (R526) -/

/-- The offsets of the _LO words of a channel that a _HI word follows. -/
def chanLo (a : Nat) : Bool :=
  [0x1C, 0x50, 0x1030, 0x2030, 0x3064, 0x40A4, 0x501C, 0x503C, 0x6034, 0x607C, 0x60A0, 0x783C, 0x809C, 0x9028, 0x904C, 0xA044, 0xB028, 0xC038].contains a
    || [0, 1, 2, 3].any (fun n => a == FIFO_TIME_LO n || a == 0x2118 + 0x40 * n)

/-- The offsets of the _LO words of the device. -/
def devLo (a : Nat) : Bool :=
  a == MAC_LO || a == 0x9000C || (List.range 16).any (fun k => a == AON_SAG_TIME_LO k)
    || ((a / 65536 == 4 || a / 65536 == 5) && Nat.ble 0x1000 (a % 65536) && a % 128 == 0x10)

/-- Whether an address names a _LO word. -/
def isLo (addr : Nat) : Bool :=
  match reach addr with
  | .chan _ a => chanLo a
  | .dev a => devLo a
  | _ => false

/-- Which addresses a master reads (R18 to R20, R521): a pair what its own channel has, the SMC the device's blocks, its memory, its ROM and
the mailboxes, its bridge a channel's blocks. -/
def reads (mst : Master) (addr : Nat) : Bool :=
  match mst, reach addr with
  | .pair c, .chan ch _ => c == ch
  | .pair c, .tcm ch _ => c == ch
  | .pair c, .box ch _ => c == ch
  | .smc, .dev _ => true
  | .smc, .smcMem _ => true
  | .smc, .rom _ => true
  | .smc, .box _ _ => true
  | .bridge, .chan _ _ => true
  | _, _ => false

/-- What a read of an address changes beside the word it returns: a read of a check-value unit aborts a slice on it (R324, R335), one of a
TCM a SCRUB slice, and a mailbox word is a free value each time (log 78). -/
def Mach.readEffect (m : Mach) (addr : Nat) : Mach :=
  match reach addr with
  | .chan ch a => if 0xB100 ≤ a ∧ a < 0xB200 then m.onChan ch (live (fun c => c.cvuTouch ((a - 0xB100) / 32))) else m
  | .tcm ch _ => m.onChan ch (live (fun c => c.skimAbortIf 8 (fun _ => true)))
  | .box ch _ => m.onChan ch (fun c => c.took 1)
  | _ => m

/-- LO_REGISTER_READ: the _HI word of the same instant is held for the master. An access that is not 32 bits wide reads 0 (R9). -/
def doLoRegisterRead (mst : Master) (size addr : Nat) (m : Mach) : Mach :=
  if size ≠ 4 ∨ !reads mst addr then { m with rdata := 0 }
  else
    let rest := m.holds.filter (fun h => !(h.master == mst && h.addr == addr + 4))
    { m.readEffect addr with
      rdata := m.readAt addr
      holds := if isLo addr then rest ++ [⟨mst, addr + 4, m.readAt (addr + 4)⟩] else m.holds }

/-- HI_REGISTER_READ: a held word is returned once; else the register reads as it stands. -/
def doHiRegisterRead (mst : Master) (size addr : Nat) (m : Mach) : Mach :=
  if size ≠ 4 ∨ !reads mst addr then { m with rdata := 0 }
  else match m.holds.find? (fun h => h.master == mst && h.addr == addr) with
    | some h => { m with rdata := h.word, holds := m.holds.filter (fun h => !(h.master == mst && h.addr == addr)) }
    | none => { m.readEffect addr with rdata := m.readAt addr }

/-- REGISTER_WRITE. -/
def execRegisterWrite (t : Tick) (who : Option Ch) (a : Access) (data : Nat) (s : State) := s.onMach t (doRegisterWrite who a.size a.addr data)
/-- LO_REGISTER_READ. -/
def execLoRegisterRead (t : Tick) (mst : Master) (a : Access) (s : State) := s.onMach t (doLoRegisterRead mst a.size a.addr)
/-- HI_REGISTER_READ. -/
def execHiRegisterRead (t : Tick) (mst : Master) (a : Access) (s : State) := s.onMach t (doHiRegisterRead mst a.size a.addr)

end Sys2Proof.Machine
end

