-- ==== Sys2Proof/Machine/ColmoBase.lean ====
section
/-! DEFINITION. Machine/ColmoBase.lean: what Colmo's commands share: opcodes (R397), status codes (R394), permission classes (R12, R395,
R471), conditions over the channels. -/

namespace Sys2Proof.Machine

/-! ### Status codes (R394) -/

/-- The status codes that Colmo gives before a command is posted, by their names in R394. -/
inductive St where
  | ok
  | badCommand
  | badLength
  | outOfRange
  | permission
  | wrongState
  | locked
  | busy
  | stale
  | expired
  | streamOwner
  | bundleMix
  | tagBusy
  | bundleDiscarded
  | crcFail
  | rangeFail
  | cancelled
  | confirmTimeout
  | noReadback
  | sigFail
  | tokenFail
  | rollback
  | noResource
  | rate
  | address
  | owned
  | timeout
  | archiveErr
  | notReady
  | armTimeout
  deriving DecidableEq, Repr

/-- The value of a status. -/
def St.code : St → Nat
  | .ok => 0x00
  | .badCommand => 0x01
  | .badLength => 0x02
  | .outOfRange => 0x03
  | .permission => 0x04
  | .wrongState => 0x05
  | .locked => 0x06
  | .busy => 0x07
  | .stale => 0x08
  | .expired => 0x09
  | .streamOwner => 0x0A
  | .bundleMix => 0x0B
  | .tagBusy => 0x0C
  | .bundleDiscarded => 0x0D
  | .crcFail => 0x0E
  | .rangeFail => 0x0F
  | .cancelled => 0x10
  | .confirmTimeout => 0x11
  | .noReadback => 0x12
  | .sigFail => 0x13
  | .tokenFail => 0x14
  | .rollback => 0x15
  | .noResource => 0x16
  | .rate => 0x17
  | .address => 0x18
  | .owned => 0x19
  | .timeout => 0x1A
  | .archiveErr => 0x1B
  | .notReady => 0x1C
  | .armTimeout => 0x1D

/-- The status of the first condition of a list that holds; `ok` where none does. -/
def firstSt : List (Bool × St) → St
  | [] => .ok
  | (q, s) :: l => if q then s else firstSt l

/-! ### Opcodes (R397) -/

/-- The commands of R397. -/
inductive Op where
  | info
  | sessionNonce
  | sessionKey
  | sessionEnd
  | flowOpen
  | flowClose
  | ntfAck
  | identitySet
  | hostcfgWrite
  | psetReadback
  | tuningCommit
  | safetyStage
  | safetyConfirm
  | psetStore
  | psetLoad
  | arm
  | disarm
  | clearFault
  | reset
  | streamTorque
  | streamSpeedLimit
  | regRead
  | regWrite
  | tlmSubscribe
  | tlmUnsubscribe
  | evtFilter
  | snapCfg
  | snapTrigger
  | snapRelease
  | snapList
  | arcRead
  | countersRead
  | skimPass
  | bistRun
  | shutdown
  | powerState
  | fwStage
  | fwActivate
  | fwConfirm
  | lcNonce
  | lcToken
  | attest
  | canMapWrite
  | canMapCommit
  | canMapRead
  deriving DecidableEq, Repr

/-- What a command may be aimed at. -/
inductive Aim where
  | device
  | channel
  | either
  deriving DecidableEq, Repr

/-- A row of R397: the command, its opcode, whether it is an operation (kind O), its target, its class (for PSET_STORE and PSET_LOAD that
of a tuning set, for REG_WRITE that of a tuning field), and its argument length where one number states it. -/
structure OpRow where
  op : Op
  code : Nat
  oper : Bool
  aim : Aim
  cls : Nat
  len : Option Nat
  deriving DecidableEq, Repr

/-- The opcode table. -/
def opTable : List OpRow :=
  [⟨.info, 0x0101, false, .device, 0, some 0⟩,
   ⟨.sessionNonce, 0x0102, false, .device, 0, some 0⟩,
   ⟨.sessionKey, 0x0103, true, .device, 0, some 184⟩,
   ⟨.sessionEnd, 0x0104, true, .device, 0, some 0⟩,
   ⟨.flowOpen, 0x0105, false, .device, 0, some 8⟩,
   ⟨.flowClose, 0x0106, false, .device, 0, some 4⟩,
   ⟨.ntfAck, 0x0107, false, .device, 0, some 12⟩,
   ⟨.identitySet, 0x0108, true, .device, 2, some 4⟩,
   ⟨.hostcfgWrite, 0x0109, true, .device, 2, none⟩,
   ⟨.psetReadback, 0x0201, false, .channel, 0, some 8⟩,
   ⟨.tuningCommit, 0x0202, false, .channel, 1, some 4⟩,
   ⟨.safetyStage, 0x0203, false, .channel, 2, some 76⟩,
   ⟨.safetyConfirm, 0x0204, true, .channel, 2, some 4⟩,
   ⟨.psetStore, 0x0205, true, .channel, 1, some 4⟩,
   ⟨.psetLoad, 0x0206, false, .channel, 1, some 4⟩,
   ⟨.arm, 0x0301, true, .channel, 1, some 0⟩,
   ⟨.disarm, 0x0302, false, .channel, 0, some 0⟩,
   ⟨.clearFault, 0x0303, false, .channel, 1, some 0⟩,
   ⟨.reset, 0x0304, true, .either, 2, some 4⟩,
   ⟨.streamTorque, 0x0401, false, .channel, 1, some 24⟩,
   ⟨.streamSpeedLimit, 0x0402, false, .channel, 1, some 16⟩] ++
  [⟨.regRead, 0x0501, false, .either, 0, some 8⟩,
   ⟨.regWrite, 0x0502, false, .either, 1, none⟩,
   ⟨.tlmSubscribe, 0x0601, false, .channel, 0, some 40⟩,
   ⟨.tlmUnsubscribe, 0x0602, false, .channel, 0, some 4⟩,
   ⟨.evtFilter, 0x0603, false, .device, 0, some 8⟩,
   ⟨.snapCfg, 0x0701, false, .channel, 1, some 24⟩,
   ⟨.snapTrigger, 0x0702, false, .channel, 1, some 0⟩,
   ⟨.snapRelease, 0x0703, false, .channel, 1, some 0⟩,
   ⟨.snapList, 0x0704, false, .device, 0, some 4⟩,
   ⟨.arcRead, 0x0705, true, .device, 0, some 16⟩,
   ⟨.countersRead, 0x0706, false, .device, 0, some 0⟩,
   ⟨.skimPass, 0x0801, true, .channel, 1, some 0⟩,
   ⟨.bistRun, 0x0802, true, .device, 3, some 4⟩,
   ⟨.shutdown, 0x0803, true, .device, 1, some 4⟩,
   ⟨.powerState, 0x0804, true, .channel, 1, some 4⟩,
   ⟨.fwStage, 0x0901, true, .device, 2, some 40⟩,
   ⟨.fwActivate, 0x0902, true, .device, 2, some 4⟩,
   ⟨.fwConfirm, 0x0903, true, .device, 2, some 4⟩,
   ⟨.lcNonce, 0x0A01, false, .device, 0, some 0⟩,
   ⟨.lcToken, 0x0A02, true, .device, 0, some 100⟩,
   ⟨.attest, 0x0A03, false, .device, 0, some 32⟩,
   ⟨.canMapWrite, 0x0B01, false, .device, 2, none⟩,
   ⟨.canMapCommit, 0x0B02, true, .device, 2, some 4⟩,
   ⟨.canMapRead, 0x0B03, false, .device, 0, some 4⟩]

/-- The row of an opcode. -/
def opOf (code : Nat) : Option OpRow := opTable.find? (fun r => r.code == code)

/-- The row of a command. -/
def Op.row (o : Op) : Option OpRow := opTable.find? (fun r => r.op == o)

/-- The opcode of a command. -/
def Op.code (o : Op) : Nat :=
  match o.row with
  | some r => r.code
  | none => 0

/-! ### Records -/

/-- The channel that a record names. -/
def CmdRec.ch (r : CmdRec) : Option Ch :=
  match r.target with
  | 1 => some .a
  | 2 => some .b
  | _ => none

/-- Byte `i` of a record's arguments. -/
def CmdRec.u8 (r : CmdRec) (i : Nat) : Nat := nth r.args i
/-- The 2-byte argument at `i`. -/
def CmdRec.u16 (r : CmdRec) (i : Nat) : Nat := be r.args i 2
/-- The 4-byte argument at `i`. -/
def CmdRec.u32 (r : CmdRec) (i : Nat) : Nat := be r.args i 4
/-- The 8-byte argument at `i`. -/
def CmdRec.u64 (r : CmdRec) (i : Nat) : Nat := be r.args i 8

/-- A target fits a command. -/
def Aim.fits (a : Aim) (t : Nat) : Bool :=
  match a with
  | .device => t == 0
  | .channel => t == 1 || t == 2
  | .either => Nat.ble t 2

/-- A record's arguments have a length that its command takes. -/
def OpRow.lenOk (o : OpRow) (r : CmdRec) : Bool :=
  match o.len with
  | some n => r.args.length == n
  | none =>
    match o.op with
    | .hostcfgWrite => Nat.ble 4 r.args.length && r.args.length % 8 == 4
    | .regWrite => Nat.ble 12 r.args.length && r.args.length % 12 == 0
    | .canMapWrite => r.args.length == 4 + 24 * r.u8 1
    | _ => false

/-! ### Permission classes (R12, R395, R471) -/

/-- The highest class of a life-cycle state; none in SCRAPPED. -/
def lcCap (lc : Nat) : Option Nat :=
  match lc with
  | 0 => some 3
  | 1 => some 2
  | 2 => some 2
  | 3 => some 3
  | _ => none

/-- The cap of OPEN_CLASS. -/
def openCap (lc : Nat) : Nat := if lc = 2 then 1 else (lcCap lc).getD 0

/-- The class that the session holds; none in SCRAPPED. -/
def Dev.cls (d : Dev) : Option Nat :=
  (lcCap d.lc).map (fun cap => match d.colmo.session.cls with
    | some k => min k cap
    | none => min d.colmo.openCls (openCap d.lc))

/-- The session holds class `k` or a higher one. -/
def Dev.holds (d : Dev) (k : Nat) : Bool :=
  match d.cls with
  | none => false
  | some c => Nat.ble k c

/-- Step 2 of R391 for the class that a command's row states; INFO is answered in every state. -/
def Dev.classOk (d : Dev) (o : OpRow) (r : CmdRec) : Bool :=
  match o.op with
  | .info => true
  | .psetStore => d.holds (if r.u8 0 = 1 then 2 else 1)
  | .psetLoad => d.holds (if r.u8 0 = 1 then 2 else 1)
  | _ => d.holds o.cls

/-! ### Conditions over the channels -/

/-- A channel in OFF or PRIMED with every CFB open (R421, R422). -/
def Chan.quiet (c : Chan) : Bool := (c.state == OFF || c.state == PRIMED) && c.cfbOpen

/-- Both channels quiet. -/
def Mach.quiet (m : Mach) : Bool := m.a.quiet && m.b.quiet

/-- A commit is pending or an ARM sequence runs (R64, R66): a further commit request is BUSY. -/
def Chan.commitBusy (c : Chan) : Bool := c.ctl.commit.isSome || c.ctl.arm.isSome

/-- A channel is ARMED or RUN. -/
def Chan.armed (c : Chan) : Bool := c.state == ARMED || c.state == RUN

/-! ### What performing a record gives -/

/-- The machine after Colmo has performed a record, its slot in the answer, what follows the answer, and its status: a command of kind O
may still fail here, for it stands alone. -/
structure Res where
  m : Mach
  slot : Slot
  after : After := .none
  st : St := .ok
  deriving DecidableEq, Repr

/-- A record done at once, with its response data. -/
def Res.ok (m : Mach) (data : List Nat) : Res := { m := m, slot := .done data }
/-- A record that has failed; what it has changed stays. -/
def Res.fail (m : Mach) (st : St) : Res := { m := m, slot := .done [], st := st }
/-- A record that waits. -/
def Res.wait (m : Mach) (s : Slot) : Res := { m := m, slot := s }
/-- A record done at once, with what follows its answer. -/
def Res.then (m : Mach) (data : List Nat) (a : After) : Res := { m := m, slot := .done data, after := a }

/-- A device-level effect without response data. -/
def Mach.did (m : Mach) (f : Dev → Dev) : Res := Res.ok (m.onDev f) []

/-- A free value of `n` bits of the device. -/
def Dev.freeBits (d : Dev) (n : Nat) : Nat := d.freeVal % 2 ^ n

end Sys2Proof.Machine
end

