-- ==== Sys2Proof/Machine/ColmoSets.lean ====
section
/-! DEFINITION. Machine/ColmoSets.lean: what Colmo and the supervisor share of a command to a channel, and the parameter-set commands 0x0201
to 0x0206 (R391, R392, R398 to R403). A check covers steps 3 to 5 of R391; a posted command acts when the supervisor takes it. -/

namespace Sys2Proof.Machine

/-! ### Posted commands (R19, R391, R392) -/

/-- The channel that a channel command's target names. -/
def CmdRec.chan (r : CmdRec) : Ch := if r.target = 2 then .b else .a

/-- A channel at the present instant. -/
def Mach.view (m : Mach) (ch : Ch) : Chan := { m.chan ch with now := m.now }

/-- What the taking of a posted record gives: the machine, the slot of the record's answer where it differs from the posted data, and where
the channel refuses the record its status and failure data. -/
structure Took where
  m : Mach
  slot : Option Slot := none
  bad : Option (Nat × List Nat) := none
  deriving DecidableEq, Repr

/-- A record taken; its answer is the posted one. -/
def Mach.tookIt (m : Mach) (ch : Ch) (f : Chan → Chan) : Took := { m := m.onChan ch f }

/-- An operation started in a channel: the answer that the channel gives at once, or the wait for it. -/
def Mach.ask (m : Mach) (ch : Ch) (op : ChOp) (f : Chan → Chan) : Took :=
  let c := m.chan ch
  let c1 := f { c with now := m.now }
  let mine := fun (a : OpDone) => a.op == op
  let fresh := c1.answers.drop c.answers.length
  let m1 := m.setChan ch { c1 with answers := c.answers ++ fresh.filter (fun a => !mine a) }
  match fresh.find? mine with
  | none => { m := m1, slot := some (.chan ch op) }
  | some a =>
    if a.status = 0 then { m := m1, slot := some (.done (a.words.flatMap (beBytes 4))) }
    else { m := m1, bad := some (a.status, a.words.flatMap (beBytes 4)) }

/-- A slot that waits for the taking of a record of a channel. -/
def Mach.posted (m : Mach) (ch : Ch) : Res := Res.wait m (.mail ch [])

/-- The address of offset 0 of a channel (R521). -/
def chBase (ch : Ch) : Nat :=
  match ch with
  | .a => 0x20000000
  | .b => 0x30000000

/-! ### PSET_READBACK (R399) -/

/-- The data of PSET_READBACK: TOTAL, the CRC of the whole image, then pairs of address and value. -/
def Chan.readback (c : Chan) (k : Kind) (shadow : Bool) (start count : Nat) : List Nat :=
  beBytes 2 k.addrs.length ++ [0, 0] ++ beBytes 4 (c.imageCrc k shadow)
    ++ (((c.image k shadow).drop start).take count).flatMap (fun e => beBytes 4 (chBase c.id + e.1) ++ beBytes 4 e.2)

/-- KIND, BANK, START and COUNT lie in their ranges. -/
def chkPsetReadback (r : CmdRec) : St :=
  firstSt
    [(Nat.blt 1 (r.u8 0) || Nat.blt 1 (r.u8 1) || r.u16 6 == 0 || Nat.blt 160 (r.u16 6), .outOfRange),
     (Nat.blt (kindOf (r.u8 0)).addrs.length (r.u16 4 + r.u16 6), .outOfRange)]

/-- The active bank is read over the bridge, the shadow bank through the supervisor. -/
def doPsetReadback (m : Mach) (r : CmdRec) : Res :=
  if r.u8 1 = 1 then m.posted r.chan else Res.ok m ((m.chan r.chan).readback (kindOf (r.u8 0)) false (r.u16 4) (r.u16 6))

/-- The entries of the shadow safety image that the session has read since the stage. -/
def Colmo.seen (c : Colmo) (ch : Ch) : List Nat :=
  match ch with
  | .a => c.readA
  | .b => c.readB

/-- Those entries replaced. -/
def Dev.setSeen (d : Dev) (ch : Ch) (l : List Nat) : Dev :=
  d.onColmo (fun c => match ch with
    | .a => { c with readA := l }
    | .b => { c with readB := l })

/-- Entries read. -/
def Dev.addSeen (d : Dev) (ch : Ch) (start count : Nat) : Dev :=
  let l := d.colmo.seen ch
  d.setSeen ch (l ++ ((List.range count).map (fun i => start + i)).filter (fun i => !l.contains i))

/-- A shadow readback served by the supervisor. -/
def takePsetReadback (m : Mach) (ch : Ch) (r : CmdRec) : Took :=
  let k := kindOf (r.u8 0)
  let m1 := if k = .safety then m.onDev (fun d => d.addSeen ch (r.u16 4) (r.u16 6)) else m
  { m := m1, slot := some (.done ((m.chan ch).readback k true (r.u16 4) (r.u16 6))) }

/-! ### TUNING_COMMIT (R400) -/

/-- A pending commit or an ARM sequence makes the request BUSY. -/
def chkTuningCommit (m : Mach) (r : CmdRec) : St := firstSt [((m.chan r.chan).commitBusy, .busy)]
/-- TUNING_COMMIT posted. -/
def doTuningCommit (m : Mach) (r : CmdRec) : Res := m.posted r.chan
/-- COMMIT_CRC written and the commit requested. -/
def takeTuningCommit (m : Mach) (ch : Ch) (r : CmdRec) : Took :=
  m.ask ch .commit (fun c => (c.wr COMMIT_CRC (r.u32 0)).tuningCommit m.dev.lc)

/-! ### SAFETY_STAGE and SAFETY_CONFIRM (R64, R401, R402) -/

/-- Both steps are LOCKED in ARMED and RUN, BUSY beside a pending commit or an ARM sequence. -/
def chkSafetyStage (m : Mach) (r : CmdRec) : St :=
  let c := m.chan r.chan
  firstSt [(c.armed, .locked), (c.commitBusy, .busy)]
/-- SAFETY_STAGE posted. -/
def doSafetyStage (m : Mach) (r : CmdRec) : Res := m.posted r.chan

/-- SET_VERSION, DEVICE_ID and SIG of a SAFETY_STAGE. -/
def CmdRec.setId (r : CmdRec) : SetId := ⟨r.u8 4, r.u32 0, be r.args 12 64⟩

/-- DEVICE_ID is the module's identity, and SIG verifies over the shadow safety image. -/
def Mach.stageOk (m : Mach) (ch : Ch) (r : CmdRec) : Bool :=
  m.dev.ident == some (r.u8 4) && m.dev.verifies 1 (setMsg r.setId ch ((m.chan ch).image .safety true)) (part r.args 12 64)

/-- Colmo verifies the set as its part is taken, after the writes of its bundle; then COMMIT_CRC is written and the set staged. What the
session has read counts from the stage on. -/
def takeSafetyStage (m : Mach) (ch : Ch) (r : CmdRec) : Took :=
  if m.stageOk ch r then
    let x := m.ask ch .stage (fun c => (c.wr COMMIT_CRC (r.u32 8)).safetyStage m.dev.lc (some r.setId))
    if x.bad.isNone then { x with m := x.m.onDev (fun d => d.setSeen ch []) } else x
  else { m := m.onDev Dev.sigFail, bad := some (St.sigFail.code, []) }

/-- The last stage has passed its 5 s. -/
def Chan.stageGone (c : Chan) : Bool :=
  c.ctl.stageLapsed || (match c.ctl.stage with
    | none => false
    | some s => c.since s.at_ (ms 5000 + 1))

/-- The stage held carries a CRC. -/
def Chan.stagedCrc (c : Chan) (crc : Nat) : Bool :=
  match c.ctl.stage with
  | none => false
  | some s => s.crc == crc

/-- Every entry of the shadow safety image has been read since the stage. -/
def Dev.sawAll (d : Dev) (ch : Ch) : Bool := (List.range Kind.safety.addrs.length).all (fun i => (d.colmo.seen ch).contains i)

/-- SAFETY_CONFIRM before it is posted: the state, then the order of R402. -/
def chkSafetyConfirm (m : Mach) (r : CmdRec) : St :=
  let c := m.view r.chan
  firstSt
    [(c.armed, .locked), (c.commitBusy, .busy), (c.stageGone, .confirmTimeout), (c.ctl.stage.isNone, .wrongState),
     (!c.stagedCrc (r.u32 0), .crcFail), (!m.dev.sawAll r.chan, .noReadback)]
/-- SAFETY_CONFIRM posted. -/
def doSafetyConfirm (m : Mach) (r : CmdRec) : Res := m.posted r.chan
/-- The confirm requested with its CRC. -/
def takeSafetyConfirm (m : Mach) (ch : Ch) (r : CmdRec) : Took :=
  m.ask ch .confirm (fun c => (c.wr COMMIT_CRC (r.u32 0)).safetyConfirm m.dev.lc)

/-! ### PSET_STORE and PSET_LOAD (R403, R459) -/

/-- PSET_STORE: KIND, and a PSET partition that can be written. -/
def chkPsetStore (m : Mach) (r : CmdRec) : St := firstSt [(Nat.blt 1 (r.u8 0), .outOfRange), (m.dev.arch.full 4, .archiveErr)]

/-- What PSET_STORE writes: the next write count, the active image, for a safety set its kept identity and signature. -/
def Chan.toStore (c : Chan) (k : Kind) (old : Option Stored) : Stored :=
  ⟨((old.map Stored.count).getD 0 + 1) % 2 ^ 32, c.image k false, if k = .safety then c.ctl.kept else none⟩

/-- Both copies of a channel's kind replaced. -/
def Arch.store (a : Arch) (ch : Ch) (k : Kind) (x : Stored) : Arch := { a with psets := a.psets.set (psetIdx ch k) ⟨some x, some x⟩ }

/-- The newest stored copy of a channel's kind. -/
def Arch.newest (a : Arch) (ch : Ch) (k : Kind) : Option Stored := newestCopy (a.copies ch k).a (a.copies ch k).b

/-- PSET_STORE. -/
def doPsetStore (m : Mach) (r : CmdRec) : Res :=
  let k := kindOf (r.u8 0)
  m.did (fun d => d.onArch (fun a => a.store r.chan k ((m.chan r.chan).toStore k (a.newest r.chan k))))

/-- PSET_LOAD: KIND, no commit pending, a stored copy. -/
def chkPsetLoad (m : Mach) (r : CmdRec) : St :=
  firstSt
    [((m.chan r.chan).ctl.commit.isSome, .busy), (Nat.blt 1 (r.u8 0), .outOfRange),
     ((m.dev.arch.newest r.chan (kindOf (r.u8 0))).isNone, .archiveErr)]
/-- PSET_LOAD is done at the posting. -/
def doPsetLoad (m : Mach) : Res := Res.ok m []
/-- The stored image written into the shadow copies. -/
def takePsetLoad (m : Mach) (ch : Ch) (r : CmdRec) : Took :=
  match m.dev.arch.newest ch (kindOf (r.u8 0)) with
  | none => { m := m }
  | some x => m.tookIt ch (fun c => x.image.foldl (fun d e => d.rwcWrite e.1 e.2) c)

end Sys2Proof.Machine
end

