-- ==== Sys2Proof/Machine/ColmoChan.lean ====
section
/-! DEFINITION. Machine/ColmoChan.lean: commands to a channel: state, streams, registers, telemetry, waveform rings, skim pass (R404 to R418,
R420). -/

namespace Sys2Proof.Machine

/-! ### ARM, DISARM, CLEAR_FAULT, RESET (R404 to R407) -/

/-- ARM: PRIMED or HOLD; BUSY beside a pending commit or a sequence that runs. -/
def chkArm (m : Mach) (r : CmdRec) : St :=
  let c := m.chan r.chan
  firstSt [(c.state != PRIMED && c.state != HOLD, .wrongState), (c.commitBusy, .busy)]
/-- ARM posted. -/
def doArm (m : Mach) (r : CmdRec) : Res := m.posted r.chan
/-- CH_REQ.ARM set. -/
def takeArm (m : Mach) (ch : Ch) : Took := m.ask ch .arm doChReqArm

/-- CH_STATE as it stands at the posting. -/
def stateData (m : Mach) (r : CmdRec) : Res := Res.ok m (beBytes 4 (m.chan r.chan).chStateWord)
/-- DISARM is done at the posting. -/
def doDisarm (m : Mach) (r : CmdRec) : Res := stateData m r
/-- CH_REQ.DISARM set. -/
def takeDisarm (m : Mach) (ch : Ch) : Took := m.tookIt ch doChReqDisarm

/-- CLEAR_FAULT: only in FAULT. -/
def chkClearFault (m : Mach) (r : CmdRec) : St := firstSt [((m.chan r.chan).state != FAULT, .wrongState)]
/-- CLEAR_FAULT is done at the posting. -/
def doClearFault (m : Mach) (r : CmdRec) : Res := stateData m r
/-- CH_REQ.CLEAR_FAULT set. -/
def takeClearFault (m : Mach) (ch : Ch) : Took := m.tookIt ch doChReqClearFault

/-- The states that refuse a channel reset. -/
def Chan.noReset (c : Chan) (force : Bool) : Bool :=
  c.armed || ((c.state == HOLD || c.state == FAULT) && c.b DUST_STATUS_SPD_HIGH && !force)

/-- RESET: KIND and FORCE; the channel's state for KIND 0. -/
def chkReset (m : Mach) (r : CmdRec) : St :=
  firstSt [(r.u8 0 == 0 && (m.chan r.chan).noReset (r.u8 1 == 1), .wrongState), (Nat.blt 1 (r.u8 0) || Nat.blt 1 (r.u8 1), .outOfRange)]
/-- The reset follows the answer. -/
def doReset (m : Mach) (r : CmdRec) : Res := Res.then m [] (if r.u8 0 = 0 then .resetChan r.chan else .resetSmc)

/-! ### Streams (R46, R53, R391, R408 to R411) -/

/-- A binary32 value is negative. -/
def b32Neg (w : Nat) : Bool :=
  match b32 w with
  | none => false
  | some (v, _) => decide (v < 0)

/-- The converted speed limit (R410). A negative argument is out of range even where it would round to the code 0 (R408 says the argument
is not negative, R5 judges the rounded code: DESIGN CHOICE, log 82). -/
def Chan.spdCode (c : Chan) (w : Nat) : Option Nat := if b32Neg w then none else hostUq16 w (c.g POS_CFG_PP_MACH)

/-- SPD_VALID of a STREAM_TORQUE. -/
def CmdRec.spdValid (r : CmdRec) : Bool := (r.u32 16).testBit 0

/-- DEADLINE of a stream command. -/
def CmdRec.deadline (r : CmdRec) (torque : Bool) : Nat := if torque then r.u64 8 else r.u64 4

/-- What the supervisor writes for a stream command; none where a value does not convert. -/
def Chan.streamOf (c : Chan) (torque : Bool) (rq : Req) (r : CmdRec) : Option HeldTq :=
  let mk := fun tq spd => (⟨rq.seq, tq, spd, r.deadline torque, rq.flow, rq.bundle, rq.tag⟩ : HeldTq)
  if torque then
    match hostPu16 (r.u32 0) c.bases.t with
    | none => none
    | some v =>
      if r.spdValid then (c.spdCode (r.u32 4)).map (fun s => mk (some (toBits 16 v)) (some s)) else some (mk (some (toBits 16 v)) none)
  else (c.spdCode (r.u32 0)).map (fun s => mk none (some s))

/-- The stream belongs to another owner (R409). -/
def Chan.foreign (c : Chan) (flow : Nat) : Bool :=
  match c.ctl.owner with
  | none => false
  | some o => o != flow

/-- Steps 3 to 5 for a stream command: state, conversions, sequence, deadline, owner. -/
def chkStream (torque : Bool) (m : Mach) (rq : Req) (r : CmdRec) : St :=
  let c := m.view r.chan
  firstSt
    [(c.streamStatus torque rq.seq == 0x05, .wrongState), ((c.streamOf torque rq r).isNone, .outOfRange),
     (c.streamStatus torque rq.seq != 0, .stale), (r.deadline torque != 0 && Nat.blt (r.deadline torque) m.dev.time, .expired),
     (c.foreign rq.flow, .streamOwner)]

/-- The supervisor's check of a stream command (R392): state, sequence, owner. -/
def Chan.restream (c : Chan) (torque : Bool) (rq : Req) : Nat :=
  let st := c.streamStatus torque rq.seq
  if st ≠ 0 then st else if c.foreign rq.flow then St.streamOwner.code else 0

/-- STREAM_TORQUE before it is posted. -/
def chkStreamTorque (m : Mach) (rq : Req) (r : CmdRec) : St := chkStream true m rq r
/-- STREAM_SPEED_LIMIT before it is posted. -/
def chkStreamSpeedLimit (m : Mach) (rq : Req) (r : CmdRec) : St := chkStream false m rq r
/-- STREAM_TORQUE is done at the posting. -/
def doStreamTorque (m : Mach) : Res := Res.ok m []
/-- STREAM_SPEED_LIMIT is done at the posting. -/
def doStreamSpeedLimit (m : Mach) : Res := Res.ok m []

/-- A stream command written, or held for the landing of its bundle's commit (R69). -/
def takeStream (torque hold : Bool) (m : Mach) (ch : Ch) (rq : Req) (r : CmdRec) : Took :=
  m.tookIt ch (fun c => match c.streamOf torque rq r with
    | none => c
    | some h => if hold then c.onCtl (fun x => { x with heldTq := some h }) else c.streamApply h)

/-! ### REG_READ (R412, R526, R527) -/

/-- The addresses that a REG_READ covers. -/
def CmdRec.readAddrs (r : CmdRec) : List Nat := (List.range (r.u16 4)).map (fun i => r.u32 0 + 4 * i)

/-- COUNT 1 to 256, and a register at every address. -/
def chkRegRead (r : CmdRec) : St :=
  firstSt [(r.u16 4 == 0 || Nat.blt 256 (r.u16 4), .outOfRange), (r.readAddrs.any (fun a => regReach a == .none), .address)]

/-- A register is FIFO_DATA, which a bridge read returns as 0 without access (R527). -/
def isFifoData (addr : Nat) : Bool :=
  match regReach addr with
  | .chan _ a => (List.range 4).any (fun n => a == FIFO_DATA n)
  | _ => false

/-- The master of a read of Colmo's: the bridge of a channel, or the SMC (R20). -/
def masterOf (addr : Nat) : Master :=
  match regReach addr with
  | .chan _ _ => .bridge
  | _ => .smc

/-- One register read by Colmo: a word of a pair is held as R526 says. -/
def Mach.colmoRead (m : Mach) (addr : Nat) : Mach × Nat :=
  if isFifoData addr then (m, 0)
  else
    let m1 := doHiRegisterRead (masterOf addr) 4 addr m
    let m2 := if isLo addr then doLoRegisterRead (masterOf addr) 4 addr m else m1
    ({ m2 with rdata := m.rdata }, m2.rdata)

/-- REG_READ. -/
def doRegRead (m : Mach) (r : CmdRec) : Res :=
  let x := r.readAddrs.foldl (fun (p : Mach × List Nat) a =>
    let y := p.1.colmoRead a
    (y.1, p.2 ++ beBytes 4 y.2)) (m, [])
  Res.ok x.1 x.2

/-! ### REG_WRITE (R11, R413) -/

/-- A triple of a REG_WRITE. -/
structure Triple where
  addr : Nat
  value : Nat
  mask : Nat
  deriving DecidableEq, Repr

/-- The triples in bytes, at most `n`. -/
def triplesOf : Nat → List Nat → List Triple
  | 0, _ => []
  | n + 1, b => if b.length < 12 then [] else ⟨be b 0 4, be b 4 4, be b 8 4⟩ :: triplesOf n (b.drop 12)

/-- The triples of a REG_WRITE. -/
def CmdRec.triples (r : CmdRec) : List Triple := triplesOf (r.args.length / 12) r.args

/-- The fields of the register at an address. -/
def fieldsAt (addr : Nat) : List FieldDesc :=
  match regReach addr with
  | .chan _ a => chanFields a
  | .dev a => devFields a
  | _ => []

/-- Registers of a channel that only a command, the supervisor or a core pair writes. -/
def ownedChan (a : Nat) : Bool :=
  [CH_REQ, COMMIT_CTL, COMMIT_CRC, TQ_REF, TQ_SEQ, SPD_LIM, TM_RES, TM_STATUS, TM_TIME_LO, TM_TIME_HI].contains a || (Nat.ble 0xB100 a && Nat.blt a 0xB200)

/-- Registers of the device that only the SMC writes: ETH, HOSTQ, ARC, SEC, the SMC block, four registers of SYS. -/
def ownedDev (a : Nat) : Bool :=
  [SYS_PWR_CTL, SYS_WDOG, SYS_WDOG_KICK, SYS_BLK_RST].contains a || [2, 3, 6, 7, 8].contains (a / 65536)

/-- A triple's register is written only by a command or by a core pair. -/
def Triple.owned (t : Triple) : Bool :=
  match regReach t.addr with
  | .chan _ a => ownedChan a
  | .dev a => ownedDev a
  | _ => false

/-- The fields that a triple's mask touches. -/
def Triple.touched (t : Triple) : List FieldDesc := (fieldsAt t.addr).filter (fun f => fieldMask f &&& t.mask != 0)

/-- Requests and registers that need P2 (R413): register and bit of OBS_CMD.RELEASE, DUST_REQ.LEG_CLR, MSIO_REQ.WELD_CLR,
SL_CH_CTL.PRIMER_REQ; all of PROT_REQ. -/
def p2Chan (a mask : Nat) : Bool :=
  (a == OBS_CMD && mask.testBit 0) || (a == DUST_REQ && mask.testBit 0) || (a == MSIO_REQ && mask.testBit 2)
    || (a == SL_CH_CTL && mask.testBit 2) || (a == PROT_REQ && mask != 0)

/-- The class that a triple needs. -/
def Triple.cls (t : Triple) : Nat :=
  match regReach t.addr with
  | .chan _ a => if (setOf a == .safety && t.mask &&& rwcBits a != 0) || p2Chan a t.mask then 2 else 1
  | .dev a => if a = BIST_REQ then 3 else if a = BIST_CFG then 2 else 1
  | _ => 0

/-- A triple touches LK fields of a channel in ARMED or RUN. -/
def Triple.locked (m : Mach) (t : Triple) : Bool :=
  match regReach t.addr with
  | .chan ch a => (m.chan ch).armed && lkBits a &&& t.mask != 0
  | _ => false

/-- A triple touches RWC fields of a channel with a commit pending. -/
def Triple.blocked (m : Mach) (t : Triple) : Bool :=
  match regReach t.addr with
  | .chan ch a => (m.chan ch).ctl.commit.isSome && rwcBits a &&& t.mask != 0
  | _ => false

/-- A triple addresses a channel in OFF (R536). -/
def Triple.off (m : Mach) (t : Triple) : Bool :=
  match regReach t.addr with
  | .chan ch _ => (m.chan ch).state == OFF
  | _ => false

/-- The status of one triple. -/
def Triple.check (m : Mach) (t : Triple) : St :=
  firstSt
    [(regReach t.addr == .none, .address), (t.owned, .owned), (!m.dev.holds t.cls, .permission), (t.off m, .wrongState), (t.locked m, .locked),
     (t.blocked m, .busy)]

/-- The first triple that fails gives the record its status. -/
def firstBad (l : List St) : St := (l.find? (fun s => s != .ok)).getD .ok

/-- REG_WRITE before it is posted. -/
def chkRegWrite (m : Mach) (r : CmdRec) : St := firstBad (r.triples.map (Triple.check m))

/-- The word that a triple writes (R413): RW fields from the current value, RWC fields from the shadow copy, W1C and W1S bits as given. -/
def Triple.word (t : Triple) (fs : List FieldDesc) (cur shadow : Nat) : Nat :=
  fs.foldl (fun w f =>
    let k := fieldMask f
    let old := match f.acc with
      | .rw => cur
      | .rwc => shadow
      | .rwcLk => shadow
      | _ => 0
    w ||| (((old &&& (0xFFFFFFFF ^^^ t.mask)) ||| (t.value &&& t.mask)) &&& k)) 0

/-- The triples of a record that a channel's supervisor performs. -/
def CmdRec.triplesOn (r : CmdRec) (ch : Ch) : List Triple :=
  r.triples.filter (fun t => match regReach t.addr with
    | .chan c _ => c == ch
    | _ => false)

/-- The channel to which a REG_WRITE is posted; none for device registers only. -/
def CmdRec.writeCh (r : CmdRec) : Option Ch :=
  if !(r.triplesOn .a).isEmpty then some .a else if !(r.triplesOn .b).isEmpty then some .b else none

/-- A triple performed by a channel's supervisor. -/
def Chan.writeTriple (lc : Nat) (c : Chan) (t : Triple) : Chan :=
  match regReach t.addr with
  | .chan _ a => c.regWrite lc a (t.word (chanFields a) (c.rd a) (c.rds a))
  | _ => c

/-- A triple performed by Colmo itself. -/
def Mach.writeTriple (m : Mach) (t : Triple) : Mach :=
  match regReach t.addr with
  | .dev a => m.devWrite a (t.word (devFields a) (m.devRead a) 0)
  | _ => m

/-- REG_WRITE: Colmo writes the device registers; the others are posted. -/
def doRegWrite (m : Mach) (r : CmdRec) : Res := Res.ok (r.triples.foldl Mach.writeTriple m) []
/-- The channel's registers written. -/
def takeRegWrite (m : Mach) (ch : Ch) (r : CmdRec) : Took := m.tookIt ch (fun c => (r.triplesOn ch).foldl (Chan.writeTriple m.dev.lc) c)

/-! ### Telemetry (R414 to R416) -/

/-- The signal codes of a TLM_SUBSCRIBE. -/
def CmdRec.signals (r : CmdRec) : List Nat := (r.args.drop 8).take (r.u8 5)

/-- The slots of signal codes; none where a code is not listed. -/
def slotSum : List Nat → Option Nat
  | [] => some 0
  | k :: l => match signalSlots k, slotSum l with
    | some a, some b => some (a + b)
    | _, _ => none

/-- The offset of a register of a channel; none for any other address. -/
def ownOffset (ch : Ch) (addr : Nat) : Option Nat :=
  match regReach addr with
  | .chan c a => if c = ch then some a else none
  | _ => none

/-- The subscription that a TLM_SUBSCRIBE describes. -/
def CmdRec.subscr (r : CmdRec) : Subscr :=
  ⟨r.u8 0, r.u8 1, r.u16 2, 0, r.u8 4, r.signals, (ownOffset r.chan (r.u32 32)).getD 0, (ownOffset r.chan (r.u32 36)).getD 0, 0⟩

/-- The subscriptions of a channel with one added in place of that of its number. -/
def Chan.withSub (c : Chan) (x : Subscr) : Chan := { c with subs := c.subs.filter (fun y => y.sub != x.sub) ++ [x] }

/-- The bytes of a record of a subscription (R415). -/
def Subscr.size (x : Subscr) : Nat := 20 + 2 * (slotSum x.signals).getD 0

/-- The records that a subscription makes in a second. -/
def Chan.subRate (c : Chan) (x : Subscr) : Rat := (240000000 : Rat) / ((max 1 (c.g DTC_PERIOD_COUNT) * max 1 x.decim : Nat) : Rat)

/-- The records that a channel's subscriptions make in a second. -/
def Chan.recRate (c : Chan) : Rat := c.subs.foldl (fun s x => s + c.subRate x) 0

/-- The bits that a channel's telemetry frames put on the link in a second, LENGTH + 106 bytes a frame. -/
def Chan.bitRate (c : Chan) : Rat :=
  c.subs.foldl (fun s x => s + c.subRate x * (8 * (x.perFrame * x.size + 106) : Nat) / ((max 1 x.perFrame : Nat) : Rat)) 0

/-- The negotiated link rate in bits per second. -/
def Dev.linkRate (d : Dev) : Nat := if d.g ETH_STATUS_SPEED = 2 then 1000000000 else if d.g ETH_STATUS_SPEED = 1 then 100000000 else 0

/-- The most payload bytes of a frame (R359). -/
def Dev.maxLength (d : Dev) : Nat := if d.b HQ_CTL_IPV6 then 1416 else 1436

/-- Ranges of a subscription: SUB, FLOW an open OUT flow on Q16 to Q47, DECIM, PER_FRAME, NSIG, listed codes, an even number of slots up
to 22, a frame that fits. -/
def subRange (m : Mach) (r : CmdRec) : Bool :=
  let f := m.dev.flow (r.u8 1)
  let n := slotSum r.signals
  Nat.ble (r.u8 0) 3 && f.opened && f.out && Nat.ble 16 f.queue && Nat.ble f.queue 47 && Nat.ble 1 (r.u16 2) && Nat.ble 1 (r.u8 4)
    && Nat.ble 1 (r.u8 5) && Nat.ble (r.u8 5) 24 && n.isSome && n.getD 0 % 2 == 0 && Nat.ble 1 (n.getD 0) && Nat.ble (n.getD 0) 22
    && Nat.ble (r.u8 4 * (20 + 2 * n.getD 0)) m.dev.maxLength

/-- REG0 and REG1, where used, are registers of the channel. -/
def subRegs (r : CmdRec) : Bool :=
  (!r.signals.contains 62 || (ownOffset r.chan (r.u32 32)).isSome) && (!r.signals.contains 63 || (ownOffset r.chan (r.u32 36)).isSome)

/-- The subscriptions pass a limit (R414). -/
def overRate (m : Mach) (r : CmdRec) : Bool :=
  let c := (m.chan r.chan).withSub r.subscr
  decide (250000 < c.recRate) || decide ((4 * m.dev.linkRate : Nat) < 5 * (c.bitRate + (m.chan r.chan.other).bitRate))

/-- TLM_SUBSCRIBE. -/
def chkTlmSubscribe (m : Mach) (r : CmdRec) : St := firstSt [(!subRange m r, .outOfRange), (!subRegs r, .address), (overRate m r, .rate)]
/-- The subscription replaces one of the same number. -/
def doTlmSubscribe (m : Mach) (r : CmdRec) : Res :=
  Res.ok ((m.onChan r.chan (fun c => c.withSub r.subscr)).onDev (fun d => d.setTlm r.chan (r.u8 0) [])) []

/-- TLM_UNSUBSCRIBE: SUB 0 to 3. -/
def chkTlmUnsubscribe (r : CmdRec) : St := firstSt [(Nat.blt 3 (r.u8 0), .outOfRange)]
/-- The subscription ends. -/
def doTlmUnsubscribe (m : Mach) (r : CmdRec) : Res :=
  Res.ok ((m.onChan r.chan (fun c => { c with subs := c.subs.filter (fun x => x.sub != r.u8 0) })).onDev (fun d => d.setTlm r.chan (r.u8 0) [])) []

/-! ### Waveform rings (R35, R36, R418) -/

/-- SNAP_CFG: one-slot codes, DIV 1 to 1,024. -/
def chkSnapCfg (r : CmdRec) : St :=
  firstSt [((r.args.take 16).any (fun k => signalSlots k != some 1) || r.u16 16 == 0 || Nat.blt 1024 (r.u16 16), .outOfRange)]
/-- The configuration takes effect when the rings next start to run. -/
def doSnapCfg (m : Mach) (r : CmdRec) : Res :=
  Res.ok (m.onChan r.chan (fun c => { c with ring := { c.ring with next := ⟨r.args.take 16, r.u16 16, r.u16 18⟩ } })) []

/-- SNAP_TRIGGER: rings that are triggered or frozen take no further trigger. -/
def chkSnapTrigger (m : Mach) (r : CmdRec) : St := firstSt [((m.chan r.chan).ring.phase != .running, .busy)]
/-- SNAP_TRIGGER posted. -/
def doSnapTrigger (m : Mach) (r : CmdRec) : Res := m.posted r.chan
/-- The rings triggered; the answer holds the instant. -/
def takeSnapTrigger (m : Mach) (ch : Ch) : Took :=
  let t := (m.view ch).devTime
  { m := m.onChan ch (fun c => c.ringTrigger t 0 0), slot := some (.done (beBytes 8 t)) }

/-- SNAP_RELEASE: frozen rings that have not been written run again; the other channel's snapshot may be next. -/
def doSnapRelease (m : Mach) (r : CmdRec) : Res :=
  let ch := r.chan
  if (m.chan ch).frozen then
    let m1 := m.onDev (fun d => d.onArch (fun a => if a.writing = some ch then { a with writing := none } else a))
    Res.ok ((m1.onChan ch Chan.ringRelease).beginWrite ch.other) []
  else Res.ok m []

/-! ### SKIM_PASS and POWER_STATE (R337, R420, R487) -/

/-- SKIM_PASS: BUSY while a pass runs. -/
def chkSkimPass (m : Mach) (r : CmdRec) : St := firstSt [((m.chan r.chan).b SKIM_STATUS_PASS_RUN, .busy)]
/-- SKIM_PASS posted. -/
def doSkimPass (m : Mach) (r : CmdRec) : Res := m.posted r.chan
/-- SKIM_REQ.PASS set. -/
def takeSkimPass (m : Mach) (ch : Ch) : Took := m.ask ch .skimPass doSkimReqPass

/-- POWER_STATE: in PRIMED, for STATE 1 with every CFB open; BUSY while an ARM sequence runs. -/
def chkPowerState (m : Mach) (r : CmdRec) : St :=
  let c := m.chan r.chan
  firstSt
    [(c.state != PRIMED || (r.u8 0 == 1 && !c.cfbOpen), .wrongState), (c.ctl.arm.isSome, .busy), (Nat.blt 1 (r.u8 0), .outOfRange)]
/-- The channel parked, or its gate supplies back; the PARK bit follows. -/
def doPowerState (m : Mach) (r : CmdRec) : Res :=
  let on := r.u8 0 == 1
  Res.ok ((m.onChan r.chan (fun c => c.park on)).onDev (fun d => d.p (parkBit r.chan) (b2n on))) []

end Sys2Proof.Machine
end

