-- ==== Sys2Proof/Machine/ColmoLink.lean ====
section
/-! DEFINITION. Machine/ColmoLink.lean: Colmo's commands 0x0101 to 0x0109 and EVT_FILTER: information, sessions, flows, notifications,
identity, host-link configuration (R365, R383, R385, R395 to R397, R417, R422, R423). Each command has a check (steps 3 to 5 of R391) and
what it does. -/

namespace Sys2Proof.Machine

/-! ### INFO (R397) -/

/-- The image of a kind that booted. -/
def Arch.booted (a : Arch) (kind : Nat) : Option (List Nat) := a.image kind (a.ctl kind).slot

/-- The VERSION of the image of a kind that booted, 0 without one. -/
def Arch.bootVersion (a : Arch) (kind : Nat) : Nat :=
  match a.booted kind with
  | none => 0
  | some img => imgVersion img % 2 ^ 32

/-- The data of INFO: each item in 4 bytes, the MAC in 8. -/
def Dev.infoData (d : Dev) : List Nat :=
  beBytes 4 (d.g SYS_ID_PRODUCT) ++ beBytes 4 (d.g SYS_ID_REVISION) ++ beBytes 4 d.lc ++ beBytes 4 d.devId ++ beBytes 8 d.otp.mac
    ++ beBytes 4 (d.arch.bootVersion 0) ++ beBytes 4 (d.arch.bootVersion 1) ++ beBytes 4 d.otp.rollbackCount ++ beBytes 4 (d.cls.getD 0)
    ++ beBytes 4 (d.g HQ_CTL_MODE)

/-- INFO. -/
def doInfo (m : Mach) : Res := Res.ok m m.dev.infoData

/-! ### Sessions (R396) -/

/-- SESSION_NONCE: a fresh nonce for one SESSION_KEY. -/
def doSessionNonce (m : Mach) : Res :=
  let n := m.dev.freeBits 128
  Res.ok (m.onDev (fun d => (d.took 1).onColmo (fun c => { c with session := { c.session with nonce := some n } }))) (beBytes 16 n)

/-- The key of KEY_CT: 16 bytes that the device identity key decrypts. -/
def Dev.sessionKey (d : Dev) (ct : List Nat) : Option (List Nat) :=
  match d.otp.idKey with
  | none => none
  | some k => match Config.sm2Decrypt k ct with
    | none => none
    | some b => if b.length = 16 then some b else none

/-- SESSION_KEY before its signature: CLASS 0 to 3, a key that decrypts. -/
def chkSessionKey (m : Mach) (r : CmdRec) : St :=
  firstSt [(Nat.blt 3 (r.u8 116), .outOfRange), ((m.dev.sessionKey (part r.args 0 113)).isNone, .outOfRange)]

/-- The signature of SESSION_KEY verifies over CLASS, DEVICE_ID and the nonce that stands, and DEVICE_ID is the module's. -/
def Dev.sessionSigOk (d : Dev) (r : CmdRec) : Bool :=
  match d.colmo.session.nonce with
  | none => false
  | some n => r.u8 117 == d.g HQ_ID_ID && d.verifies 2 ([r.u8 116, r.u8 117] ++ beBytes 16 n) (part r.args 120 64)

/-- SESSION_KEY: key and class take effect after the RSP; the nonce is spent. -/
def doSessionKey (m : Mach) (r : CmdRec) : Res :=
  let m1 := m.onDev (fun d => d.onColmo (fun c => { c with session := { c.session with nonce := none } }))
  if m.dev.sessionSigOk r then
    Res.then m1 [min (r.u8 116) ((lcCap m.dev.lc).getD 0)] (.key ((m.dev.sessionKey (part r.args 0 113)).getD []) (r.u8 116))
  else Res.fail (m1.onDev Dev.sigFail) .sigFail

/-- SESSION_END: no key, and OPEN_CLASS, after the RSP. -/
def doSessionEnd (m : Mach) : Res := Res.then m [] .noKey

/-! ### Flows (R365, R414) -/

/-- A direction fits a queue's class (R363). -/
def dirFits (out : Bool) (q : Nat) : Bool := if q < 8 then !out else if q < 56 then out else true

/-- The INIT of the IN flows on a queue. -/
def Dev.initSum (d : Dev) (q : Nat) : Nat :=
  (d.openFlows.filter (fun f => !(d.flow f).out && (d.flow f).queue == q)).foldl (fun n f => n + (d.flow f).init) 0

/-- The RSV of all queues. -/
def Dev.rsvSum (d : Dev) : Nat := (List.range 64).foldl (fun n q => n + (d.queue q).rsv) 0

/-- FLOW_OPEN: FLOW, DIR, QUEUE, INIT, RELIABLE, PAIR. -/
def chkFlowOpen (m : Mach) (r : CmdRec) : St :=
  let d := m.dev
  firstSt
    [(Nat.blt 1 (r.u8 1) || Nat.blt 63 (r.u8 2) || r.u8 3 == 0 || Nat.blt 1 (r.u8 4), .outOfRange),
     (!dirFits (r.u8 1 == 1) (r.u8 2), .outOfRange),
     ((d.flow (r.u8 0)).opened, .noResource),
     (r.u8 1 == 0 && Nat.blt (d.queue (r.u8 2)).rsv (d.initSum (r.u8 2) + r.u8 3), .noResource),
     (Nat.blt 1024 d.rsvSum, .noResource)]

/-- The flow is open with its initial grant; PAIR names another flow, or the flow itself where it has no pair. -/
def doFlowOpen (m : Mach) (rq : Req) (r : CmdRec) : Res :=
  m.did (fun d => d.onFlow (r.u8 0) (fun _ =>
    { opened := true
      out := r.u8 1 == 1
      reliable := r.u8 4 == 1
      pairEn := r.u8 5 != r.u8 0
      pair := if r.u8 5 = r.u8 0 then 0 else r.u8 5
      queue := r.u8 2
      init := r.u8 3
      cntA := r.u8 3
      changed := true
      host := rq.host
      port := rq.port }))

/-- F0, F1 and F2 cannot be closed; a flow that is not open has nothing to close. -/
def chkFlowClose (m : Mach) (r : CmdRec) : St :=
  firstSt [(Nat.blt (r.u8 0) 3, .outOfRange), (!(m.dev.flow (r.u8 0)).opened, .wrongState)]

/-- The frames of an OUT flow leave its queue unsent. -/
def Dev.dropFrames (d : Dev) (f : Nat) : Dev :=
  let q := (d.flow f).queue
  let gone := (d.queue q).frames.filter (fun x => x.flow == f)
  let d1 := d.onQueue q (fun y => { y with frames := y.frames.filter (fun x => x.flow != f), level := y.level - gone.length })
  gone.foldl (fun e x => e.unsent x.ends x.tag x.after) d1

/-- A channel without the subscriptions on a flow. -/
def Chan.endFlow (f : Nat) (c : Chan) : Chan := { c with subs := c.subs.filter (fun x => x.flow != f) }

/-- The flow is closed; the subscriptions on it end. -/
def doFlowClose (m : Mach) (r : CmdRec) : Res :=
  let f := r.u8 0
  let m1 := m.onDev (fun d => ((d.dropBundle f 0 true).dropFrames f).onFlow f (fun _ => {}))
  Res.ok ((m1.onChan .a (Chan.endFlow f)).onChan .b (Chan.endFlow f)) []

/-! ### Notifications (R383, R417) -/

/-- NTF_ACK: vector v at bit v of the mask, whose most significant byte comes first. -/
def doNtfAck (m : Mach) (r : CmdRec) : Res :=
  let k := be r.args 0 12
  m.did (fun d => d.each 72 (fun e v => if k.testBit v then e.setPend v false else e))

/-- EVT_FILTER: severities S0 to S4. -/
def chkEvtFilter (r : CmdRec) : St := firstSt [(r.args.any (fun v => Nat.blt 4 v), .outOfRange)]

/-- EVT_FILTER: the lowest severity sent, per source. -/
def doEvtFilter (m : Mach) (r : CmdRec) : Res := m.did (fun d => d.onColmo (fun c => { c with filter := r.args.take 8 }))

/-! ### Identity and configuration (R385, R422, R423) -/

/-- IDENTITY_SET: both channels in OFF or PRIMED; ID 0 to 62; CONFIG can be written. -/
def chkIdentitySet (m : Mach) (r : CmdRec) : St :=
  firstSt
    [(!([m.a, m.b].all (fun c => c.state == OFF || c.state == PRIMED)), .wrongState),
     (Nat.blt 62 (r.u8 0), .outOfRange), (m.dev.arch.full 5, .archiveErr)]

/-- The identity record is stored, the channels know the identity at once, HQ_ID takes it after the RSP. -/
def doIdentitySet (m : Mach) (r : CmdRec) : Res :=
  let f := fun (c : Chan) => c.onCtl (fun x => { x with devId := some (r.u8 0) })
  let m1 := m.onDev (fun d => d.onArch (fun a => { a with ident := some (r.u8 0) }))
  Res.then ((m1.onChan .a f).onChan .b f) [] (.ident (r.u8 0))

/-- Pairs of address and value in bytes, at most `n`. -/
def pairsOf : Nat → List Nat → List (Nat × Nat)
  | 0, _ => []
  | n + 1, b => if b.length < 8 then [] else (be b 0 4, be b 4 4) :: pairsOf n (b.drop 8)

/-- The configuration bits of a register of ETH or HOSTQ: its RW fields; 0 for any other address. -/
def cfgBits (addr : Nat) : Nat :=
  match reach addr with
  | .dev a => if a / 65536 = 2 ∨ a / 65536 = 3 then (devFields a).foldl (fun m f => if f.acc = .rw then m + fieldMask f else m) 0 else 0
  | _ => 0

/-- The pairs of a HOSTCFG_WRITE. -/
def CmdRec.cfgPairs (r : CmdRec) : List (Nat × Nat) := pairsOf (r.args.length / 8) (r.args.drop 4)

/-- HOSTCFG_WRITE: OPEN_CLASS 0 to 3, configuration fields only, CONFIG can be written. -/
def chkHostcfgWrite (m : Mach) (r : CmdRec) : St :=
  firstSt
    [(Nat.blt 3 (r.u8 0), .outOfRange), (r.cfgPairs.any (fun p => cfgBits p.1 == 0), .address), (m.dev.arch.full 5, .archiveErr)]

/-- The host-link configuration is stored for the next SMC start (R358). -/
def doHostcfgWrite (m : Mach) (r : CmdRec) : Res :=
  m.did (fun d => d.onArch (fun a => { a with
    openCls := r.u8 0
    hostCfg := r.cfgPairs.map (fun p => (p.1 - 0x10000000, p.2 &&& cfgBits p.1)) }))

end Sys2Proof.Machine
end

