-- ==== Sys2Proof/Machine/ColmoSys.lean ====
section
/-! DEFINITION. Machine/ColmoSys.lean: device commands: snapshots and the archive, counters, self-test, shutdown, firmware, life cycle,
attestation, the CAN mapping table (R418 to R424, R456 to R474). -/

namespace Sys2Proof.Machine

/-! ### The archive (R419, R458, R460, R462) -/

/-- The entries of the ring, INDEX ascending by R7: they stand in the order in which they were written. -/
def Arch.listed (a : Arch) : List Snap := a.snaps.filter (fun x => Nat.blt 0 a.ringSlots && !a.retired.contains (x.index % a.ringSlots))

/-- An entry of SNAP_LIST; FLAGS holds the channel and the manual mark in the bytes that the entry's header gives them (R460). -/
def snapItem (x : Snap) : List Nat :=
  beBytes 4 x.index ++ beBytes 8 x.trigTime ++ beBytes 4 x.cause ++ beBytes 4 x.causeSeq ++ [x.ch.source, b2n x.manual, 0, 0]

/-- SNAP_LIST: COUNT 1 to 58, what one RSP holds. -/
def chkSnapList (r : CmdRec) : St := firstSt [(r.u16 2 == 0 || Nat.blt 58 (r.u16 2), .outOfRange)]
/-- The entries from the START-th, as many as there are. -/
def doSnapList (m : Mach) (r : CmdRec) : Res := Res.ok m (((m.dev.arch.listed.drop (r.u16 0)).take (r.u16 2)).flatMap snapItem)

/-- A flow is open on Q56 to Q63 in a direction. -/
def Dev.arcFlow (d : Dev) (f : Nat) (out : Bool) : Bool := (d.flow f).opened && (d.flow f).out == out && Nat.ble 56 (d.flow f).queue

/-- ARC_READ: PART, FLOW; BUSY beside another; the bytes lie in the partition. -/
def chkArcRead (m : Mach) (r : CmdRec) : St :=
  firstSt
    [(m.dev.colmo.arcRead.isSome, .busy), (Nat.blt 8 (r.u8 0) || !m.dev.arcFlow (r.u8 1) true, .outOfRange),
     (m.dev.arch.noRead (r.u8 0) (r.u64 4) (r.u32 12), .archiveErr)]
/-- The read begins; its frames leave as the flow's queue empties. -/
def doArcRead (m : Mach) (r : CmdRec) : Res :=
  let x : ArcRead := ⟨r.u8 0, r.u8 1, r.u64 4, r.u32 12, crc32.init, m.dev.arch.indexes (r.u8 0) (r.u64 4) (r.u32 12)⟩
  Res.wait (m.onDev (fun d => d.onColmo (fun c => { c with arcRead := some x }))) .arc

/-- COUNTERS_READ. -/
def doCountersRead (m : Mach) : Res := Res.ok m (m.counterWords.flatMap (beBytes 4))

/-! ### Self-test and shutdown (R341, R351, R420, R461) -/

/-- BIST_RUN: TARGET 0 to 7, TEST 0 to 2, FUSE 0 or 1. -/
def chkBistRun (r : CmdRec) : St := firstSt [(Nat.blt 7 (r.u8 0) || Nat.blt 2 (r.u8 1) || Nat.blt 1 (r.u8 2), .outOfRange)]
/-- BIST_REQ written; the engine's refusal is WRONG_STATE. -/
def doBistRun (m : Mach) (r : CmdRec) : Res :=
  let m2 := m.bistWrite (r.u8 0) (r.u8 1) true (r.u8 2 == 1)
  if m.bistRefused (r.u8 0) (r.u8 1) then Res.fail m2 .wrongState else Res.wait m2 (.bist (r.u8 0))

/-- SHUTDOWN: no channel ARMED or RUN, no speed class HIGH; BUSY while one waits; STATE 1 or 2. -/
def chkShutdown (m : Mach) (r : CmdRec) : St :=
  firstSt [(!m.mayShut, .wrongState), (m.dev.shutWaits.isSome, .busy), (r.u8 0 != 1 && r.u8 0 != 2, .outOfRange)]
/-- Accepted once every snapshot is written. -/
def doShutdown (m : Mach) (r : CmdRec) : Res :=
  if m.noSnap then Res.ok (m.shutAccept (r.u8 0)) [] else Res.wait m (.shut (r.u8 0))

/-! ### Firmware (R421, R465 to R468) -/

/-- The slot of a kind that is not ACTIVE. -/
def Arch.spareSlot (a : Arch) (kind : Nat) : Nat := 1 - (a.ctl kind).active

/-- FW_STAGE: BUSY beside another or while an activated image waits for its reset; KIND, FLOW, LENGTH; the partition can be written. -/
def chkFwStage (m : Mach) (r : CmdRec) : St :=
  let k := r.u8 0
  let p := 2 * k + m.dev.arch.spareSlot k
  firstSt
    [(m.dev.colmo.staging.isSome || m.dev.colmo.activating, .busy), (Nat.blt 1 k || !m.dev.arcFlow (r.u8 1) false, .outOfRange),
     (Nat.blt (m.dev.arch.partSize p) (r.u32 4), .outOfRange), (m.dev.arch.full p, .archiveErr)]
/-- The staging begins: the slot holds no image until it ends. -/
def doFwStage (m : Mach) (rq : Req) (r : CmdRec) : Res :=
  let k := r.u8 0
  let g : Staging := ⟨k, r.u8 1, r.u32 4, be r.args 8 32, rq, []⟩
  Res.wait (m.onDev (fun d => (d.onArch (fun a => { a with slots := a.slots.set (2 * k + a.spareSlot k) none })).onColmo (fun c => { c with
    staging := some g
    staged := c.staged.filter (fun x => x != k) }))) .image

/-- The image of a staging received whole. -/
def Staging.image (g : Staging) : List Nat := (List.range g.len).map (stagedByte g.parts)

/-- The status of an image received (R421): the digest, then validity. -/
def Dev.stageStatus (d : Dev) (g : Staging) (img : List Nat) : St :=
  if Config.sm3 img ≠ g.digest then .sigFail
  else match d.otp.imageCause g.kind img with
    | 0 => .ok
    | 5 => .rollback
    | _ => .sigFail

/-- A staging whose data are all there ends. -/
def Dev.stageEnd (d : Dev) : Dev :=
  match d.colmo.staging with
  | none => d
  | some g =>
    if covered g.parts.length g.parts 0 < g.len then d
    else
      let img := g.image
      let st := d.stageStatus g img
      let d1 := (d.onColmo (fun c => { c with staging := none })).onArch (fun a => { a with slots := a.slots.set (2 * g.kind + a.spareSlot g.kind) (some img) })
      let d2 := if st = .ok then d1.onColmo (fun c => { c with staged := g.kind :: c.staged }) else if st = .sigFail then d1.sigFail else d1
      d2.resolve (fun s => s == .image) st.code []

/-- ARC_FRAME_RX: a frame of an image. -/
def doArcFrameRx (fr : RxFrame) (d : Dev) : Dev :=
  match d.rx fr with
  | (e, none) => e
  | (e, some z) =>
    if z.kind = K_ARC then (if e.up then (e.stageData z).stageEnd else e.freeFrames z.flow 1)
    else if z.kind = K_CMD then e.freeFrames z.flow 1
    else e

/-- FW_ACTIVATE: channels quiet, an image staged. -/
def chkFwActivate (m : Mach) (r : CmdRec) : St :=
  firstSt [(!m.quiet || !m.dev.colmo.staged.contains (r.u8 0), .wrongState), (m.dev.colmo.activating, .busy), (Nat.blt 1 (r.u8 0), .outOfRange)]
/-- TRIAL names the staged slot; the reset follows the answer. -/
def doFwActivate (m : Mach) (r : CmdRec) : Res :=
  let k := r.u8 0
  let m1 := m.onDev (fun d => (d.onBoot k (fun b => { b with trial := some (1 - b.active) })).onColmo (fun c => { c with
    activating := true
    staged := c.staged.filter (fun x => x != k) }))
  Res.then m1 [] (if k = 0 then .resetSmc else .resetBoth)

/-- The ROLLBACK index of the image of a kind that runs as the trial. -/
def Arch.trialIndex (a : Arch) (kind : Nat) : Nat := ((a.booted kind).map imgRollback).getD 0

/-- The ACTIVE image of a kind has an index below `n`. -/
def Arch.below (a : Arch) (kind n : Nat) : Bool :=
  match a.image kind (a.ctl kind).active with
  | none => false
  | some img => Nat.blt (imgRollback img) n

/-- FW_CONFIRM: the image runs as the trial; the other kind's ACTIVE image is not older than the new count. -/
def chkFwConfirm (m : Mach) (r : CmdRec) : St :=
  let k := r.u8 0
  let a := m.dev.arch
  firstSt
    [(Nat.blt 1 k, .outOfRange), (!(a.ctl k).onTrial, .wrongState),
     (a.below (1 - k) (max m.dev.otp.rollbackCount (a.trialIndex k)), .wrongState)]
/-- The trial slot becomes ACTIVE; the counter's bits are blown up to the index. -/
def doFwConfirm (m : Mach) (r : CmdRec) : Res :=
  let k := r.u8 0
  let i := m.dev.arch.trialIndex k
  let m1 := m.onDev (fun d => ((d.onBoot k (fun b => { b with active := b.slot, onTrial := false })).onOtp (fun o => { o with rollback := o.rollback ||| (2 ^ i - 1) })).showBoot)
  Res.ok m1 (beBytes 4 m1.dev.otp.rollbackCount)

/-! ### The life cycle (R422, R463, R470) -/

/-- LC_NONCE: a fresh nonce for one LC_TOKEN. -/
def doLcNonce (m : Mach) : Res :=
  let n := m.dev.freeBits 128
  Res.ok (m.onDev (fun d => (d.took 1).onColmo (fun c => { c with session := { c.session with lcNonce := some n } }))) (beBytes 16 n)

/-- The transitions of R470. -/
def Dev.mayEnter (d : Dev) (to_ : Nat) : Bool :=
  match d.lc, to_ with
  | 0, 1 => d.otp.idKey.isSome
  | 0, 2 => d.otp.idKey.isSome
  | 1, 2 => true
  | 2, 3 => true
  | 1, 3 => true
  | s, 4 => s != 4
  | _, _ => false

/-- LC_TOKEN: channels quiet; BUSY while FW_ACTIVATE waits for its reset. -/
def chkLcToken (m : Mach) : St := firstSt [(!m.quiet, .wrongState), (m.dev.colmo.activating, .busy)]

/-- The token's signature verifies under a life-cycle key. -/
def Dev.tokenSigOk (d : Dev) (r : CmdRec) : Bool := d.verifies 3 (part r.args 0 36) (part r.args 36 64)

/-- The token names this device, the nonce that stands, and an allowed transition. -/
def Dev.tokenOk (d : Dev) (r : CmdRec) : Bool :=
  be r.args 4 16 == d.otp.uid && d.colmo.session.lcNonce == some (be r.args 20 16) && d.mayEnter (r.u8 0)

/-- The entry of LCLOG for a token. -/
def Mach.lcEntry (m : Mach) (r : CmdRec) : LcEnt := ⟨m.dev.lc, r.u8 0, m.dev.time, Config.sm3 r.args, nth m.counters 0⟩

/-- LC_TOKEN: the state's bit blown and logged; the state takes effect after the answer. The nonce is spent. -/
def doLcToken (m : Mach) (r : CmdRec) : Res :=
  let m1 := m.onDev (fun d => d.onColmo (fun c => { c with session := { c.session with lcNonce := none } }))
  if !m.dev.tokenSigOk r then Res.fail (m1.onDev Dev.sigFail) .tokenFail
  else if !m.dev.tokenOk r then Res.fail m1 .tokenFail
  else
    let e := m.lcEntry r
    let m2 := m1.onDev (fun d => (d.onOtp (fun o => { o with lc := setBit o.lc (r.u8 0) true })).onArch (fun a => { a with
      lclog := (a.lclog ++ [e]).drop (a.lclog.length + 1 - 8192) }))
    Res.then m2 (beBytes 4 (r.u8 0)) (.lifecycle (r.u8 0))

/-! ### Attestation (R473) -/

/-- The digest of a parameter set: zeros for a channel in OFF. -/
def Chan.setDigest (c : Chan) (k : Kind) : List Nat :=
  if c.state = OFF then List.replicate 32 0 else beBytes 32 (Config.sm3 (imageBytes (c.image k false)))

/-- VERSION and digest of the image of a kind that booted; zeros without one. -/
def Arch.bootDigest (a : Arch) (kind : Nat) : List Nat :=
  match a.booted kind with
  | none => List.replicate 36 0
  | some img => beBytes 4 (imgVersion img) ++ beBytes 32 (imgDigest img)

/-- A mapping entry in its 24 bytes (R424). -/
def MapEnt.bytes (e : MapEnt) : List Nat :=
  beBytes 4 e.pgn ++ [e.src] ++ beBytes 2 e.start ++ [e.len] ++ beBytes 4 e.scale ++ beBytes 4 e.offset ++ beBytes 2 e.op ++ [e.target, e.arg]
    ++ beBytes 2 e.timeout ++ [0, 0]

/-- An entry that maps nothing: 24 zero bytes. -/
def noEnt : MapEnt := ⟨0, 0, 0, 0, 0, 0, 0, 0, 0, 0⟩

/-- The 64 entries of a table as bytes. -/
def mapBytes (t : Tab MapEnt) : List Nat := (List.range 64).flatMap (fun i => (tabGet t noEnt i).bytes)

/-- FLAGS of the quote: LOCKSTEP_BROKEN in any pair, trial boot, fallback boot. -/
def Mach.quoteFlags (m : Mach) : Nat :=
  b2n (m.a.lockBroken || m.b.lockBroken || m.dev.b SMC_PAIR_STATUS_LOCKSTEP_BROKEN) + 2 * b2n (m.dev.arch.boot.any BootCtl.onTrial)
    + 4 * b2n (m.dev.arch.boot.any BootCtl.fallback)

/-- Bytes 0 to 303 of the quote. -/
def Mach.quoteHead (m : Mach) (nonce : List Nat) : List Nat :=
  let d := m.dev
  beBytes 4 0x4B515431 ++ beBytes 2 1 ++ [d.lc, d.ident.getD 0xFF] ++ beBytes 4 m.quoteFlags ++ beBytes 16 d.otp.uid ++ nonce ++ beBytes 8 d.time
    ++ beBytes 4 d.otp.rollbackCount ++ d.arch.bootDigest 0 ++ d.arch.bootDigest 1 ++ m.a.setDigest .safety ++ m.b.setDigest .safety
    ++ m.a.setDigest .tuning ++ m.b.setDigest .tuning ++ beBytes 32 (Config.sm3 (mapBytes d.arch.canMap))

/-- ATTEST needs the identity key. -/
def chkAttest (m : Mach) : St := firstSt [(m.dev.otp.idKey.isNone, .wrongState)]
/-- The quote, signed over its first 368 bytes. -/
def doAttest (m : Mach) (r : CmdRec) : Res :=
  let k := m.dev.otp.idKey.getD 0
  let b := m.quoteHead (part r.args 0 32) ++ beBytes 64 (Config.sm2Public k)
  Res.ok m (b ++ beBytes 64 (Config.sm2Sign k b))

/-! ### The CAN mapping table (R424) -/

/-- The entry in 24 bytes. -/
def entOf (b : List Nat) : MapEnt :=
  ⟨be b 0 4, nth b 4, be b 5 2, nth b 7, be b 8 4, be b 12 4, be b 16 2, nth b 18, nth b 19, be b 20 2⟩

/-- A binary32 code is a number. -/
def isNumber (w : Nat) : Bool := (b32 w).isSome

/-- An entry's fields lie in their ranges, or it is 24 zero bytes. -/
def MapEnt.ok (e : MapEnt) : Bool :=
  e == noEnt
    || (Nat.blt e.pgn (2 ^ 18) && Nat.ble 1 e.len && Nat.ble e.len 32 && isNumber e.scale && isNumber e.offset
      && [Op.streamTorque.code, Op.streamSpeedLimit.code, Op.disarm.code].contains e.op && Nat.ble 1 e.target && Nat.ble e.target 2
      && (e.op == Op.disarm.code || e.arg == (if e.op = Op.streamTorque.code then 0 else 1)) && Nat.ble 1 e.timeout && Nat.ble e.timeout 1000)

/-- The entries of a CAN_MAP_WRITE. -/
def CmdRec.entries (r : CmdRec) : List MapEnt := (List.range (r.u8 1)).map (fun i => entOf (part r.args (4 + 24 * i) 24))

/-- FIRST and COUNT lie in the table; the entries are in range. -/
def chkCanMapWrite (r : CmdRec) : St :=
  firstSt [(r.u8 1 == 0 || Nat.blt 64 (r.u8 0 + r.u8 1) || !r.entries.all MapEnt.ok, .outOfRange)]

/-- A table with entry `i` set. -/
def putEnt (t : Tab MapEnt) (i : Nat) (e : MapEnt) : Tab MapEnt := if e = noEnt then t.filter (fun x => x.1 != i) else tabPut t i e

/-- The shadow table filled. -/
def doCanMapWrite (m : Mach) (r : CmdRec) : Res :=
  m.did (fun d => d.onColmo (fun c => { c with mapShadow := (List.range (r.u8 1)).foldl (fun t i => putEnt t (r.u8 0 + i) (r.entries.getD i noEnt)) c.mapShadow }))

/-- CAN A owns the stream of a channel. -/
def Chan.ownedByCan (c : Chan) : Bool := c.ctl.owner == some 256

/-- CAN_MAP_COMMIT: BUSY while CAN A owns a stream; the CRC of the shadow table; CONFIG can be written. -/
def chkCanMapCommit (m : Mach) (r : CmdRec) : St :=
  firstSt
    [(m.a.ownedByCan || m.b.ownedByCan, .busy), (crc32.of (mapBytes m.dev.colmo.mapShadow) != r.u32 0, .crcFail), (m.dev.arch.full 5, .archiveErr)]
/-- The shadow table becomes active. -/
def doCanMapCommit (m : Mach) : Res := m.did (fun d => d.onArch (fun a => { a with canMap := d.colmo.mapShadow }))

/-- CAN_MAP_READ: FIRST and COUNT lie in the table; one RSP holds 58 entries. -/
def chkCanMapRead (r : CmdRec) : St := firstSt [(r.u8 1 == 0 || Nat.blt 58 (r.u8 1) || Nat.blt 64 (r.u8 0 + r.u8 1), .outOfRange)]
/-- The entries of the active table. -/
def doCanMapRead (m : Mach) (r : CmdRec) : Res :=
  Res.ok m ((List.range (r.u8 1)).flatMap (fun i => (tabGet m.dev.arch.canMap noEnt (r.u8 0 + i)).bytes))

end Sys2Proof.Machine
end

