-- ==== Sys2Proof/Machine/Colmo.lean ====
section
/-! DEFINITION. Machine/Colmo.lean: how Colmo checks, performs, posts and answers a bundle, how a channel takes its part (R389 to R393, R425,
R536), mapped CAN messages (R424), and the rows of the commands. -/

namespace Sys2Proof.Machine

/-! ### The checks of a record (R391) -/

/-- The target fits the command; RESET with KIND 0 resets a channel. -/
def OpRow.targetOk (o : OpRow) (r : CmdRec) : Bool := o.aim.fits r.target && !(o.op == .reset && r.u8 0 == 0 && r.target == 0)

/-- A command that reaches a channel in OFF (R536). -/
def Op.onOff (o : Op) (r : CmdRec) : Bool :=
  match o with
  | .regRead => true
  | .psetReadback => r.u8 1 == 0
  | _ => false

/-- The record targets a channel in OFF. -/
def Mach.offTarget (m : Mach) (o : Op) (r : CmdRec) : Bool :=
  match r.ch with
  | none => false
  | some ch => (m.chan ch).state == OFF && !o.onOff r

/-- Steps 3 to 5 of a command. -/
def Mach.checkOp (m : Mach) (rq : Req) (r : CmdRec) (o : Op) : St :=
  match o with
  | .info => .ok
  | .sessionNonce => .ok
  | .sessionKey => chkSessionKey m r
  | .sessionEnd => .ok
  | .flowOpen => chkFlowOpen m r
  | .flowClose => chkFlowClose m r
  | .ntfAck => .ok
  | .identitySet => chkIdentitySet m r
  | .hostcfgWrite => chkHostcfgWrite m r
  | .psetReadback => chkPsetReadback r
  | .tuningCommit => chkTuningCommit m r
  | .safetyStage => chkSafetyStage m r
  | .safetyConfirm => chkSafetyConfirm m r
  | .psetStore => chkPsetStore m r
  | .psetLoad => chkPsetLoad m r
  | .arm => chkArm m r
  | .disarm => .ok
  | .clearFault => chkClearFault m r
  | .reset => chkReset m r
  | .streamTorque => chkStreamTorque m rq r
  | .streamSpeedLimit => chkStreamSpeedLimit m rq r
  | .regRead => chkRegRead r
  | .regWrite => chkRegWrite m r
  | .tlmSubscribe => chkTlmSubscribe m r
  | .tlmUnsubscribe => chkTlmUnsubscribe r
  | .evtFilter => chkEvtFilter r
  | .snapCfg => chkSnapCfg r
  | .snapTrigger => chkSnapTrigger m r
  | .snapRelease => .ok
  | .snapList => chkSnapList r
  | .arcRead => chkArcRead m r
  | .countersRead => .ok
  | .skimPass => chkSkimPass m r
  | .bistRun => chkBistRun r
  | .shutdown => chkShutdown m r
  | .powerState => chkPowerState m r
  | .fwStage => chkFwStage m r
  | .fwActivate => chkFwActivate m r
  | .fwConfirm => chkFwConfirm m r
  | .lcNonce => .ok
  | .lcToken => chkLcToken m
  | .attest => chkAttest m
  | .canMapWrite => chkCanMapWrite r
  | .canMapCommit => chkCanMapCommit m r
  | .canMapRead => chkCanMapRead r

/-- What Colmo does with a record that has passed. -/
def Mach.performOp (m : Mach) (rq : Req) (r : CmdRec) (o : Op) : Res :=
  match o with
  | .info => doInfo m
  | .sessionNonce => doSessionNonce m
  | .sessionKey => doSessionKey m r
  | .sessionEnd => doSessionEnd m
  | .flowOpen => doFlowOpen m rq r
  | .flowClose => doFlowClose m r
  | .ntfAck => doNtfAck m r
  | .identitySet => doIdentitySet m r
  | .hostcfgWrite => doHostcfgWrite m r
  | .psetReadback => doPsetReadback m r
  | .tuningCommit => doTuningCommit m r
  | .safetyStage => doSafetyStage m r
  | .safetyConfirm => doSafetyConfirm m r
  | .psetStore => doPsetStore m r
  | .psetLoad => doPsetLoad m
  | .arm => doArm m r
  | .disarm => doDisarm m r
  | .clearFault => doClearFault m r
  | .reset => doReset m r
  | .streamTorque => doStreamTorque m
  | .streamSpeedLimit => doStreamSpeedLimit m
  | .regRead => doRegRead m r
  | .regWrite => doRegWrite m r
  | .tlmSubscribe => doTlmSubscribe m r
  | .tlmUnsubscribe => doTlmUnsubscribe m r
  | .evtFilter => doEvtFilter m r
  | .snapCfg => doSnapCfg m r
  | .snapTrigger => doSnapTrigger m r
  | .snapRelease => doSnapRelease m r
  | .snapList => doSnapList m r
  | .arcRead => doArcRead m r
  | .countersRead => doCountersRead m
  | .skimPass => doSkimPass m r
  | .bistRun => doBistRun m r
  | .shutdown => doShutdown m r
  | .powerState => doPowerState m r
  | .fwStage => doFwStage m rq r
  | .fwActivate => doFwActivate m r
  | .fwConfirm => doFwConfirm m r
  | .lcNonce => doLcNonce m
  | .lcToken => doLcToken m r
  | .attest => doAttest m r
  | .canMapWrite => doCanMapWrite m r
  | .canMapCommit => doCanMapCommit m
  | .canMapRead => doCanMapRead m r

/-- The checks of one record, in the order of R391; `can` marks a mapped CAN command, which no session's class limits. -/
def Mach.check (m : Mach) (can : Bool) (rq : Req) (r : CmdRec) (row : OpRow) : St :=
  firstSt
    [(!row.targetOk r, .badCommand), (!row.lenOk r, .badLength), (!can && !m.dev.classOk row r, .permission), (m.dev.pwr.shut != 0, .wrongState),
     (m.offTarget row.op r, .wrongState), (true, m.checkOp rq r row.op)]

/-! ### The composition of a bundle (R390) -/

/-- The place of the first element that satisfies a test. -/
def firstIdx {α : Type} (q : α → Bool) (l : List α) : Option Nat := if l.any q then some (l.findIdx q) else none

/-- A record is a DISARM, which is exempt (R405). -/
def CmdRec.isDisarm (r : CmdRec) : Bool := r.op == Op.disarm.code

/-- A record is of kind O. -/
def CmdRec.isOper (r : CmdRec) : Bool :=
  match opOf r.op with
  | none => false
  | some o => o.oper

/-- A record is a stream command. -/
def CmdRec.isStream (r : CmdRec) : Bool := r.op == Op.streamTorque.code || r.op == Op.streamSpeedLimit.code

/-- The channels that a record which writes parameters addresses. -/
def CmdRec.setChans (r : CmdRec) : List Ch :=
  if r.op = Op.regWrite.code then [Ch.a, Ch.b].filter (fun c => r.ch == some c || !(r.triplesOn c).isEmpty)
  else if [Op.tuningCommit.code, Op.safetyStage.code, Op.psetLoad.code].contains r.op then r.ch.toList
  else []

/-- The first record that brings in a second channel. -/
def mixChans : Nat → List Ch → List CmdRec → Option Nat
  | _, _, [] => none
  | i, seen, r :: l =>
    let s := seen ++ r.setChans
    if s.contains .a && s.contains .b then some i else mixChans (i + 1) s l

/-- The first second stream command of a channel. -/
def mixStreams : Nat → List Nat → List CmdRec → Option Nat
  | _, _, [] => none
  | i, seen, r :: l =>
    if r.isStream && seen.contains r.target then some i else mixStreams (i + 1) (if r.isStream then r.target :: seen else seen) l

/-- The record that breaks a composition rule. -/
def mixAt (l : List CmdRec) : Option Nat :=
  let alone := if 1 < (l.filter (fun r => !r.isDisarm)).length then firstIdx CmdRec.isOper l else none
  [alone, mixChans 0 [] l, mixStreams 0 [] l].foldl (fun b x => match b, x with
    | none, y => y
    | some i, none => some i
    | some i, some j => some (min i j)) none

/-! ### Performing and posting -/

/-- The channel to whose mailbox a record goes (R19, R391): requests, shadow accesses and streams. -/
def Op.postCh (o : Op) (r : CmdRec) : Option Ch :=
  match o with
  | .psetReadback => if r.u8 1 = 1 then r.ch else none
  | .tuningCommit => r.ch
  | .safetyStage => r.ch
  | .safetyConfirm => r.ch
  | .psetLoad => r.ch
  | .arm => r.ch
  | .disarm => r.ch
  | .clearFault => r.ch
  | .streamTorque => r.ch
  | .streamSpeedLimit => r.ch
  | .regWrite => r.writeCh
  | .snapTrigger => r.ch
  | .skimPass => r.ch
  | _ => none

/-- The records done so far: the machine, the slots, the posted records, what follows the answer. -/
structure Done where
  m : Mach
  slots : List Slot := []
  posts : List (Nat × Ch × CmdRec) := []
  after : After := .none
  deriving DecidableEq, Repr

/-- The records of a bundle: all passed, or a failure: at which record, its status, and the machine that has been changed where the
record failed while it was performed. -/
inductive Ran where
  | all (d : Done)
  | bad (m : Option Mach) (idx : Nat) (st : St)
  deriving DecidableEq, Repr

/-- The slot of a posted record: while its channel's pair does not run, no answer leaves at the posting. -/
def Mach.postSlot (m : Mach) (post : Option Ch) (s : Slot) : Slot :=
  match post, s with
  | some ch, .done d => if (m.chan ch).pairRuns then s else .mail ch d
  | _, _ => s

/-- The records in their order, each checked on the machine as the earlier ones leave it. -/
def runRecs (can : Bool) (rq : Req) : List CmdRec → Done → Ran
  | [], d => .all d
  | r :: l, d =>
    let i := d.slots.length
    match opOf r.op with
    | none => .bad none i .badCommand
    | some row =>
      let st := d.m.check can rq r row
      if st ≠ .ok then .bad none i st
      else
        let x := d.m.performOp rq r row.op
        if x.st ≠ .ok then .bad (some x.m) i x.st
        else
          let p := row.op.postCh r
          runRecs can rq l { m := x.m, slots := d.slots ++ [x.m.postSlot p x.slot], posts := d.posts ++ p.toList.map (fun c => (i, c, r)), after := if x.after = .none then d.after else x.after }

/-- The part of a bundle for a channel put into its mailbox. -/
def Mach.post (m : Mach) (rq : Req) (l : List (Nat × Ch × CmdRec)) (ch : Ch) : Mach :=
  let p := (l.filter (fun x => x.2.1 == ch)).map (fun x => (x.1, x.2.2))
  if p.isEmpty then m else m.onChan ch (fun c => { c with mail := c.mail ++ [⟨rq, p, m.now⟩] })

/-- A bundle of records, `extra` where a record follows that overruns it (R389): refused, or performed, posted and answered. -/
def Mach.runBundle (m : Mach) (can : Bool) (rq : Req) (l : List CmdRec) (extra : Bool) : Mach :=
  let n := l.length + b2n extra
  let no := fun (k : Mach) (i : Nat) (st : St) => k.onDev (fun d => d.refuse rq st.code i n [])
  if n = 0 then no m 0 .badCommand
  else match mixAt l with
    | some i => no m i .bundleMix
    | none => match runRecs can rq l { m := m } with
      | .bad k i st => no (k.getD m) i st
      | .all d =>
        if extra then no m l.length .badCommand
        else ((d.m.post rq d.posts .a).post rq d.posts .b).onDev (fun e => e.settle ⟨rq, d.slots⟩ d.after)

/-! ### Bundles from the queues (R364, R389) -/

/-- The records of a payload, at most `n`, and whether something follows that is no whole record. -/
def parseRecs : Nat → List Nat → List CmdRec × Bool
  | 0, b => ([], !b.isEmpty)
  | n + 1, b =>
    if b.isEmpty then ([], false)
    else
      let len := be b 4 2
      if b.length < 8 + len then ([], true)
      else
        let x := parseRecs n (b.drop (8 + len + (4 - len % 4) % 4))
        (⟨be b 0 2, nth b 2, part b 8 len⟩ :: x.1, x.2)

/-- The next complete bundle of the command queues: Q0 first. -/
def Dev.nextBundle (d : Dev) : Option (Nat × Bundle) := (List.range 8).findSome? (fun q => (d.queue q).bundles.head?.map (fun b => (q, b)))

/-- The payloads of a bundle's fragments, in index order. -/
def Bundle.payload (b : Bundle) : List Nat := b.frags.flatMap Prod.snd

/-- BUNDLE_PROCESS: the next bundle leaves its queue, its frames are freed, Colmo runs it. -/
def doBundleProcess (m0 : Mach) : Mach :=
  let m := m0.collect
  match (if m.dev.up then m.dev.nextBundle else none) with
  | none => m
  | some (q, b) =>
    let m1 := m.onDev (fun d => (d.onQueue q (fun x => { x with bundles := x.bundles.drop 1 })).freeFrames b.flow b.frags.length)
    let x := parseRecs 64 b.payload
    (m1.runBundle false b.req x.1 x.2).runDue

/-! ### A channel takes its part (R391, R392) -/

/-- The supervisor's repeated checks of a record: state, sequence, stream owner; a pending commit is left to the commit gate (R66). -/
def Mach.recheck (m : Mach) (ch : Ch) (rq : Req) (r : CmdRec) : Nat :=
  let c := m.view ch
  match opOf r.op with
  | none => 0
  | some row => match row.op with
    | .regWrite => if (r.triplesOn ch).any (Triple.locked m) then St.locked.code else 0
    | .safetyStage => if c.armed then St.locked.code else 0
    | .safetyConfirm => if c.armed then St.locked.code else 0
    | .arm => (chkArm m r).code
    | .clearFault => (chkClearFault m r).code
    | .streamTorque => c.restream true rq
    | .streamSpeedLimit => c.restream false rq
    | .snapTrigger => (chkSnapTrigger m r).code
    | .skimPass => (chkSkimPass m r).code
    | _ => 0

/-- A record taken; `hold` where a stream command waits for the landing of the part's commit. -/
def Mach.take (m : Mach) (ch : Ch) (rq : Req) (hold : Bool) (r : CmdRec) : Took :=
  match opOf r.op with
  | none => { m := m }
  | some row => match row.op with
    | .psetReadback => takePsetReadback m ch r
    | .tuningCommit => takeTuningCommit m ch r
    | .safetyStage => takeSafetyStage m ch r
    | .safetyConfirm => takeSafetyConfirm m ch r
    | .psetLoad => takePsetLoad m ch r
    | .arm => takeArm m ch
    | .disarm => takeDisarm m ch
    | .clearFault => takeClearFault m ch
    | .streamTorque => takeStream true hold m ch rq r
    | .streamSpeedLimit => takeStream false hold m ch rq r
    | .regWrite => takeRegWrite m ch r
    | .snapTrigger => takeSnapTrigger m ch
    | .skimPass => takeSkimPass m ch
    | _ => { m := m }

/-- A record that writes shadow copies: before the requests of its part. -/
def CmdRec.isWrite (r : CmdRec) : Bool := r.op == Op.regWrite.code || r.op == Op.psetLoad.code

/-- The records of a part in the order in which they act: writes, requests, streams. -/
def Part.order (p : Part) : List (Nat × CmdRec) :=
  p.recs.filter (fun x => x.2.isWrite) ++ p.recs.filter (fun x => !x.2.isWrite && !x.2.isStream) ++ p.recs.filter (fun x => x.2.isStream)

/-- The slots of the bundle that waits for this part; those of its records that the posting left open are done with their data. -/
def Slot.taken (s : Slot) : Slot :=
  match s with
  | .mail _ d => .done d
  | _ => s

/-- What the taking of a part has given so far: the machine, the slots by record, the first refusal (record, status, failure data), whether
the part requested a commit that was refused. -/
structure Taking where
  m : Mach
  slots : List (Nat × Slot) := []
  bad : Option (Nat × Nat × List Nat) := none
  noCommit : Bool := false
  deriving DecidableEq, Repr

/-- One record of a part taken. A stream command waits for a commit that its part has made pending, and goes with one that was refused. -/
def Taking.step (ch : Ch) (p : Part) (k : Taking) (x : Nat × CmdRec) : Taking :=
  let commits := p.recs.any (fun y => y.2.op == Op.tuningCommit.code)
  if x.2.isStream && commits && k.noCommit then k
  else
    let t := k.m.take ch p.req (commits && (k.m.chan ch).ctl.commit.isSome) x.2
    { m := t.m
      slots := k.slots ++ (t.slot.toList.map (fun s => (x.1, s)))
      bad := k.bad.or (t.bad.map (fun b => (x.1, b.1, b.2)))
      noCommit := k.noCommit || (t.bad.isSome && x.2.op == Op.tuningCommit.code) }

/-- The bundle of a part, if its answer waits: a refusal of a record ends it, else its slots take what the records gave. -/
def Dev.partTaken (d : Dev) (p : Part) (k : Taking) : Dev :=
  match d.colmo.running.find? (fun r => r.req == p.req) with
  | none => d
  | some r =>
    let d1 := d.onColmo (fun c => { c with running := c.running.filter (fun y => !(y.req == p.req)) })
    match k.bad with
    | some (i, st, data) => d1.refuse r.req st i r.slots.length data
    | none =>
      let mine := fun (i : Nat) => p.recs.any (fun x => x.1 == i)
      let slots := (List.range r.slots.length).map (fun i =>
        let s := r.slots.getD i (.done [])
        match k.slots.find? (fun x => x.1 == i) with
        | some x => x.2
        | none => if mine i then s.taken else s)
      d1.settle ⟨r.req, slots⟩ .none

/-- A part refused (R392): none of it applies; a bundle that waits for it is refused with the status. -/
def Mach.refusePart (m : Mach) (ch : Ch) (p : Part) (i st : Nat) : Mach :=
  (m.onChan ch (fun c => c.partRefused p.req.bundle p.req.tag st)).onDev (fun d => d.partTaken p { m := m, bad := some (i, st, []) })

/-- The first record of a part that a repeated check stops. -/
def Mach.partBad (m : Mach) (ch : Ch) (p : Part) : Option (Nat × Nat) :=
  (p.recs.map (fun x => (x.1, m.recheck ch p.req x.2))).find? (fun x => x.2 != 0)

/-- A part taken in one step. Writes and readbacks that meet the copy after a landing act at its end (R62). -/
def Mach.takePart (m : Mach) (ch : Ch) (p : Part) : Mach :=
  match m.partBad ch p with
  | some (i, st) => m.refusePart ch p i st
  | none =>
    let k := p.order.foldl (Taking.step ch p) { m := m.onChan ch doShadowCopyEnd }
    k.m.onDev (fun d => d.partTaken p k)

/-- MAILBOX_PART_TAKE: the supervisor takes the oldest part; a pair that is held or halted takes none. -/
def doMailboxPartTake (ch : Ch) (m0 : Mach) : Mach :=
  let m := m0.collect
  let c := m.chan ch
  if c.state = OFF ∨ !c.pairRuns then m
  else match c.mail with
    | [] => m
    | p :: l => ((m.onChan ch (fun c => { c with mail := l })).takePart ch p).runDue

/-- The oldest part has waited in the mailbox for 1 ms. -/
def Chan.mailLate (c : Chan) : Bool :=
  match c.mail with
  | [] => false
  | p :: _ => c.since p.at_ (ms 1)

/-- MAILBOX_TIMEOUT: a channel out of reset has left its mailbox unanswered for 1 ms: the parts are withdrawn, and the bundles that wait for
them end with TIMEOUT. -/
def doMailboxTimeout (ch : Ch) (m : Mach) : Mach :=
  let c := m.view ch
  if !m.dev.up ∨ c.state = OFF ∨ !c.mailLate then m
  else
    let m1 := m.onChan ch (fun c => { c with mail := [] })
    c.mail.foldl (fun k p => k.onDev (fun d => d.partTaken p { m := k, bad := some ((p.recs.headD (0, ⟨0, 0, []⟩)).1, St.timeout.code, []) })) m1

/-! ### Mapped CAN messages (R424) -/

/-- A number rounded to binary32, ties to even; too large a number gives an infinity. -/
def toB32 (x : Rat) : Nat :=
  if x = 0 then 0
  else
    let n := x.num.natAbs
    let e0 : Int := (Nat.log2 n : Int) - (Nat.log2 x.den : Int)
    let ge := if 0 ≤ e0 then Nat.ble (x.den * 2 ^ e0.toNat) n else Nat.ble x.den (n * 2 ^ (-e0).toNat)
    let e : Int := max (if ge then e0 else e0 - 1) (-126)
    let c := (e + 126).toNat * 2 ^ 23 + (scaleEven (n : Int) (23 - e) x.den).toNat
    (if x < 0 then 2 ^ 31 else 0) + min c (255 * 2 ^ 23)

/-- An operation on two binary32 numbers, rounded; a NaN where one is no number. -/
def b32Op (f : Rat → Rat → Rat) (x y : Nat) : Nat :=
  match b32Val x, b32Val y with
  | some a, some b => toB32 (f a b)
  | _, _ => 0x7FC00000

/-- The unsigned field of a message: bit i of the data is bit i mod 8 of byte i / 8; none where the message ends before it. -/
def MapEnt.field (e : MapEnt) (data : List Nat) : Option Nat :=
  if 8 * data.length < e.start + e.len then none
  else some (ofLe data / 2 ^ e.start % 2 ^ e.len)

/-- field × SCALE + OFFSET in binary32. -/
def MapEnt.value (e : MapEnt) (field : Nat) : Nat := b32Op (· + ·) (b32Op (· * ·) (toB32 (field : Rat)) e.scale) e.offset

/-- The command of an entry for a message. -/
def MapEnt.toRec (e : MapEnt) (field time : Nat) : CmdRec :=
  let dl := beBytes 8 (time + 1000000 * e.timeout)
  let v := beBytes 4 (e.value field)
  if e.op = Op.streamTorque.code then ⟨e.op, e.target, v ++ beBytes 4 0 ++ dl ++ beBytes 8 0⟩
  else if e.op = Op.streamSpeedLimit.code then ⟨e.op, e.target, v ++ dl ++ beBytes 4 0⟩
  else ⟨e.op, e.target, []⟩

/-- A message goes to the module (R446): sent globally, as every PDU2 message is, or to the claimed address. -/
def Dev.isoHears (d : Dev) (pgn dst : Nat) : Bool := Nat.ble 240 (pgn / 256 % 256) || dst == 255 || dst == d.isoAddr

/-- An entry matches a message. -/
def MapEnt.hits (e : MapEnt) (pgn src : Nat) : Bool := e != noEnt && e.pgn == pgn && (e.src == 255 || e.src == src)

/-- An entry's command treated as a bundle of CAN A, which no RSP answers. -/
def Mach.runMapped (pgn src : Nat) (data : List Nat) (seq time : Nat) (m : Mach) (e : MapEnt) : Mach :=
  match (if e.hits pgn src then e.field data else none) with
  | none => m
  | some v => m.runBundle true ⟨256, 0, seq, 0, time, 0, 0⟩ [e.toRec v time] false

/-- CAN_MAPPED_MESSAGE: an ISO 11783 message with its PGN, source and destination address, data, CAN A sequence number and timestamp. -/
def doCanMappedMessage (pgn src dst : Nat) (data : List Nat) (seq time : Nat) (m : Mach) : Mach :=
  if !m.dev.isoOn ∨ m.dev.isoState ≠ 2 ∨ !m.dev.isoHears pgn dst then m
  else (m.dev.arch.canMap.map Prod.snd).foldl (Mach.runMapped pgn src data seq time) m

/-! ### The rows -/

/-- A command that Colmo runs as the one record of a bundle. -/
def hostCommand (o : Op) (rq : Req) (target : Nat) (args : List Nat) (m0 : Mach) : Mach :=
  let m := m0.collect
  if m.dev.up then (m.runBundle false rq [⟨o.code, target, args⟩] false).runDue else m

/-- BUNDLE_PROCESS. -/
def execBundleProcess (t : Tick) (s : State) := s.onMach t doBundleProcess
/-- MAILBOX_PART_TAKE. -/
def execMailboxPartTake (t : Tick) (ch : Ch) (s : State) := s.onMach t (doMailboxPartTake ch)
/-- MAILBOX_TIMEOUT. -/
def execMailboxTimeout (t : Tick) (ch : Ch) (s : State) := s.onMach t (doMailboxTimeout ch)
/-- CAN_MAPPED_MESSAGE. -/
def execCanMappedMessage (t : Tick) (pgn : Nat) (path : CanPath) (data : List Nat) (seq time : Nat) (s : State) :=
  s.onMach t (doCanMappedMessage pgn path.src path.dst data seq time)
/-- ARC_FRAME_RX. -/
def execArcFrameRx (t : Tick) (fr : RxFrame) (s : State) := s.onDev t (doArcFrameRx fr)
/-- INFO. -/
def execInfo (t : Tick) (rq : Req) (args : List Nat) (s : State) := s.onMach t (hostCommand .info rq 0 args)
/-- SESSION_NONCE. -/
def execSessionNonce (t : Tick) (rq : Req) (args : List Nat) (s : State) := s.onMach t (hostCommand .sessionNonce rq 0 args)
/-- SESSION_KEY. -/
def execSessionKey (t : Tick) (rq : Req) (args : List Nat) (s : State) := s.onMach t (hostCommand .sessionKey rq 0 args)
/-- SESSION_END. -/
def execSessionEnd (t : Tick) (rq : Req) (args : List Nat) (s : State) := s.onMach t (hostCommand .sessionEnd rq 0 args)
/-- FLOW_OPEN. -/
def execFlowOpen (t : Tick) (rq : Req) (args : List Nat) (s : State) := s.onMach t (hostCommand .flowOpen rq 0 args)
/-- FLOW_CLOSE. -/
def execFlowClose (t : Tick) (rq : Req) (args : List Nat) (s : State) := s.onMach t (hostCommand .flowClose rq 0 args)
/-- NTF_ACK. -/
def execNtfAck (t : Tick) (rq : Req) (args : List Nat) (s : State) := s.onMach t (hostCommand .ntfAck rq 0 args)
/-- IDENTITY_SET. -/
def execIdentitySet (t : Tick) (rq : Req) (args : List Nat) (s : State) := s.onMach t (hostCommand .identitySet rq 0 args)
/-- HOSTCFG_WRITE. -/
def execHostcfgWrite (t : Tick) (rq : Req) (args : List Nat) (s : State) := s.onMach t (hostCommand .hostcfgWrite rq 0 args)
/-- EVT_FILTER. -/
def execEvtFilter (t : Tick) (rq : Req) (args : List Nat) (s : State) := s.onMach t (hostCommand .evtFilter rq 0 args)
/-- SNAP_LIST. -/
def execSnapList (t : Tick) (rq : Req) (args : List Nat) (s : State) := s.onMach t (hostCommand .snapList rq 0 args)
/-- ARC_READ. -/
def execArcRead (t : Tick) (rq : Req) (args : List Nat) (s : State) := s.onMach t (hostCommand .arcRead rq 0 args)
/-- COUNTERS_READ. -/
def execCountersRead (t : Tick) (rq : Req) (args : List Nat) (s : State) := s.onMach t (hostCommand .countersRead rq 0 args)
/-- BIST_RUN. -/
def execBistRun (t : Tick) (rq : Req) (args : List Nat) (s : State) := s.onMach t (hostCommand .bistRun rq 0 args)
/-- SHUTDOWN. -/
def execShutdown (t : Tick) (rq : Req) (args : List Nat) (s : State) := s.onMach t (hostCommand .shutdown rq 0 args)
/-- FW_STAGE. -/
def execFwStage (t : Tick) (rq : Req) (args : List Nat) (s : State) := s.onMach t (hostCommand .fwStage rq 0 args)
/-- FW_ACTIVATE. -/
def execFwActivate (t : Tick) (rq : Req) (args : List Nat) (s : State) := s.onMach t (hostCommand .fwActivate rq 0 args)
/-- FW_CONFIRM. -/
def execFwConfirm (t : Tick) (rq : Req) (args : List Nat) (s : State) := s.onMach t (hostCommand .fwConfirm rq 0 args)
/-- LC_NONCE. -/
def execLcNonce (t : Tick) (rq : Req) (args : List Nat) (s : State) := s.onMach t (hostCommand .lcNonce rq 0 args)
/-- LC_TOKEN. -/
def execLcToken (t : Tick) (rq : Req) (args : List Nat) (s : State) := s.onMach t (hostCommand .lcToken rq 0 args)
/-- ATTEST. -/
def execAttest (t : Tick) (rq : Req) (args : List Nat) (s : State) := s.onMach t (hostCommand .attest rq 0 args)
/-- CAN_MAP_WRITE. -/
def execCanMapWrite (t : Tick) (rq : Req) (args : List Nat) (s : State) := s.onMach t (hostCommand .canMapWrite rq 0 args)
/-- CAN_MAP_COMMIT. -/
def execCanMapCommit (t : Tick) (rq : Req) (args : List Nat) (s : State) := s.onMach t (hostCommand .canMapCommit rq 0 args)
/-- CAN_MAP_READ. -/
def execCanMapRead (t : Tick) (rq : Req) (args : List Nat) (s : State) := s.onMach t (hostCommand .canMapRead rq 0 args)
/-- PSET_READBACK. -/
def execPsetReadback (t : Tick) (ch : Ch) (rq : Req) (args : List Nat) (s : State) := s.onMach t (hostCommand .psetReadback rq ch.source args)
/-- TUNING_COMMIT. -/
def execTuningCommit (t : Tick) (ch : Ch) (rq : Req) (args : List Nat) (s : State) := s.onMach t (hostCommand .tuningCommit rq ch.source args)
/-- SAFETY_STAGE. -/
def execSafetyStage (t : Tick) (ch : Ch) (rq : Req) (args : List Nat) (s : State) := s.onMach t (hostCommand .safetyStage rq ch.source args)
/-- SAFETY_CONFIRM. -/
def execSafetyConfirm (t : Tick) (ch : Ch) (rq : Req) (args : List Nat) (s : State) := s.onMach t (hostCommand .safetyConfirm rq ch.source args)
/-- PSET_STORE. -/
def execPsetStore (t : Tick) (ch : Ch) (rq : Req) (args : List Nat) (s : State) := s.onMach t (hostCommand .psetStore rq ch.source args)
/-- PSET_LOAD. -/
def execPsetLoad (t : Tick) (ch : Ch) (rq : Req) (args : List Nat) (s : State) := s.onMach t (hostCommand .psetLoad rq ch.source args)
/-- ARM. -/
def execArm (t : Tick) (ch : Ch) (rq : Req) (args : List Nat) (s : State) := s.onMach t (hostCommand .arm rq ch.source args)
/-- DISARM. -/
def execDisarm (t : Tick) (ch : Ch) (rq : Req) (args : List Nat) (s : State) := s.onMach t (hostCommand .disarm rq ch.source args)
/-- CLEAR_FAULT. -/
def execClearFault (t : Tick) (ch : Ch) (rq : Req) (args : List Nat) (s : State) := s.onMach t (hostCommand .clearFault rq ch.source args)
/-- STREAM_TORQUE. -/
def execStreamTorque (t : Tick) (ch : Ch) (rq : Req) (args : List Nat) (s : State) := s.onMach t (hostCommand .streamTorque rq ch.source args)
/-- STREAM_SPEED_LIMIT. -/
def execStreamSpeedLimit (t : Tick) (ch : Ch) (rq : Req) (args : List Nat) (s : State) := s.onMach t (hostCommand .streamSpeedLimit rq ch.source args)
/-- TLM_SUBSCRIBE. -/
def execTlmSubscribe (t : Tick) (ch : Ch) (rq : Req) (args : List Nat) (s : State) := s.onMach t (hostCommand .tlmSubscribe rq ch.source args)
/-- TLM_UNSUBSCRIBE. -/
def execTlmUnsubscribe (t : Tick) (ch : Ch) (rq : Req) (args : List Nat) (s : State) := s.onMach t (hostCommand .tlmUnsubscribe rq ch.source args)
/-- SNAP_CFG. -/
def execSnapCfg (t : Tick) (ch : Ch) (rq : Req) (args : List Nat) (s : State) := s.onMach t (hostCommand .snapCfg rq ch.source args)
/-- SNAP_TRIGGER. -/
def execSnapTrigger (t : Tick) (ch : Ch) (rq : Req) (args : List Nat) (s : State) := s.onMach t (hostCommand .snapTrigger rq ch.source args)
/-- SNAP_RELEASE. -/
def execSnapRelease (t : Tick) (ch : Ch) (rq : Req) (args : List Nat) (s : State) := s.onMach t (hostCommand .snapRelease rq ch.source args)
/-- SKIM_PASS. -/
def execSkimPass (t : Tick) (ch : Ch) (rq : Req) (args : List Nat) (s : State) := s.onMach t (hostCommand .skimPass rq ch.source args)
/-- POWER_STATE. -/
def execPowerState (t : Tick) (ch : Ch) (rq : Req) (args : List Nat) (s : State) := s.onMach t (hostCommand .powerState rq ch.source args)
/-- RESET. -/
def execReset (t : Tick) (rq : Req) (target : Nat) (args : List Nat) (s : State) := s.onMach t (hostCommand .reset rq target args)
/-- REG_READ. -/
def execRegRead (t : Tick) (rq : Req) (target : Nat) (args : List Nat) (s : State) := s.onMach t (hostCommand .regRead rq target args)
/-- REG_WRITE. -/
def execRegWrite (t : Tick) (rq : Req) (target : Nat) (args : List Nat) (s : State) := s.onMach t (hostCommand .regWrite rq target args)

end Sys2Proof.Machine
end

