-- ==== Sys2Proof/Machine/Dispatch.lean ====
section
/-! DEFINITION. Machine/Dispatch.lean: one arm a command. -/

namespace Sys2Proof.Machine

open Sys2Proof

/-- The effect of a command on everything but the queue. -/
def exec (i : Instr) (s : State) : Host.Outcome State Fault Refusal :=
  match i with
  | .vinRise t mv => Sys2Proof.Machine.execVinRise t mv s
  | .powerUpRelease t xtalOk => Sys2Proof.Machine.execPowerUpRelease t xtalOk s
  | .vinBelowVinRst t minMv => Sys2Proof.Machine.execVinBelowVinRst t minMv s
  | .pdAonLoss t => Sys2Proof.Machine.execPdAonLoss t s
  | .railOutOfWindow t rail => Sys2Proof.Machine.execRailOutOfWindow t rail s
  | .railBackInWindow t rail => Sys2Proof.Machine.execRailBackInWindow t rail s
  | .vinDipBegin t mv => Sys2Proof.Machine.execVinDipBegin t mv s
  | .vinDipEnd t minMv => Sys2Proof.Machine.execVinDipEnd t minMv s
  | .nresetPin t minMv => Sys2Proof.Machine.execNresetPin t minMv s
  | .nwake t => Sys2Proof.Machine.execNwake t s
  | .aonWakeTimer t => Sys2Proof.Machine.execAonWakeTimer t s
  | .smcWdog t => Sys2Proof.Machine.execSmcWdog t s
  | .sysWdogKick t => Sys2Proof.Machine.execSysWdogKick t s
  | .sysBlkRst t bits => Sys2Proof.Machine.execSysBlkRst t bits s
  | .lpGo t => Sys2Proof.Machine.execLpGo t s
  | .xtalLoss t => Sys2Proof.Machine.execXtalLoss t s
  | .xtalReturn t => Sys2Proof.Machine.execXtalReturn t s
  | .clkDeviation t ch vsAon vsSmc => Sys2Proof.Machine.execClkDeviation t ch vsAon vsSmc s
  | .modPllLockLoss t ch => Sys2Proof.Machine.execModPllLockLoss t ch s
  | .romBoot t tableOk readA readB => Sys2Proof.Machine.execRomBoot t tableOk readA readB s
  | .colmoStart t b0 b1 bad readA readB => Sys2Proof.Machine.execColmoStart t b0 b1 bad readA readB s
  | .bistTestEnd t target clk fail rows => Sys2Proof.Machine.execBistTestEnd t target clk fail rows s
  | .channelReset t ch => Sys2Proof.Machine.execChannelReset t ch s
  | .channelResetRelease t ch tA tB sA sB => Sys2Proof.Machine.execChannelResetRelease t ch tA tB sA sB s
  | .timebaseExchange t ch ok x => Sys2Proof.Machine.execTimebaseExchange t ch ok x s
  | .peerS4Forward t ch => Sys2Proof.Machine.execPeerS4Forward t ch s
  | .decisionBoundary t ch => Sys2Proof.Machine.execDecisionBoundary t ch s
  | .dtcInputRead t ch => Sys2Proof.Machine.execDtcInputRead t ch s
  | .decisionComplete t ch ecc => Sys2Proof.Machine.execDecisionComplete t ch ecc s
  | .governorUpdate t ch => Sys2Proof.Machine.execGovernorUpdate t ch s
  | .modReadback t ch x => Sys2Proof.Machine.execModReadback t ch x s
  | .tqRefWrite t ch ref => Sys2Proof.Machine.execTqRefWrite t ch ref s
  | .stagedRefWrite t ch spd value => Sys2Proof.Machine.execStagedRefWrite t ch spd value s
  | .chReqArm t ch => Sys2Proof.Machine.execChReqArm t ch s
  | .chReqDisarm t ch => Sys2Proof.Machine.execChReqDisarm t ch s
  | .chReqClearFault t ch => Sys2Proof.Machine.execChReqClearFault t ch s
  | .armWeldCheckEnd t ch => Sys2Proof.Machine.execArmWeldCheckEnd t ch s
  | .armSequenceEnd t ch => Sys2Proof.Machine.execArmSequenceEnd t ch s
  | .armTimeout t ch => Sys2Proof.Machine.execArmTimeout t ch s
  | .transitionDelayExpiry t ch => Sys2Proof.Machine.execTransitionDelayExpiry t ch s
  | .streamLapse t ch => Sys2Proof.Machine.execStreamLapse t ch s
  | .lapseHold t ch => Sys2Proof.Machine.execLapseHold t ch s
  | .commitCtlTuningCommit t ch => Sys2Proof.Machine.execCommitCtlTuningCommit t ch s
  | .commitCtlSafetyStage t ch id => Sys2Proof.Machine.execCommitCtlSafetyStage t ch id s
  | .commitCtlSafetyConfirm t ch => Sys2Proof.Machine.execCommitCtlSafetyConfirm t ch s
  | .safetyStageExpiry t ch => Sys2Proof.Machine.execSafetyStageExpiry t ch s
  | .commitLanding t ch => Sys2Proof.Machine.execCommitLanding t ch s
  | .shadowCopyEnd t ch => Sys2Proof.Machine.execShadowCopyEnd t ch s
  | .registerWrite t who a data => Sys2Proof.Machine.execRegisterWrite t who a data s
  | .loRegisterRead t mst a => Sys2Proof.Machine.execLoRegisterRead t mst a s
  | .hiRegisterRead t mst a => Sys2Proof.Machine.execHiRegisterRead t mst a s
  | .adcInjTrigger t ch n bits => Sys2Proof.Machine.execAdcInjTrigger t ch n bits s
  | .adcRegTrigger t ch n src => Sys2Proof.Machine.execAdcRegTrigger t ch n src s
  | .convReqInjSw t ch n => Sys2Proof.Machine.execConvReqInjSw t ch n s
  | .convReqRegSw t ch n => Sys2Proof.Machine.execConvReqRegSw t ch n s
  | .adcScanTick t ch => Sys2Proof.Machine.execAdcScanTick t ch s
  | .adcConversionEnd t ch n raw raw1 => Sys2Proof.Machine.execAdcConversionEnd t ch n raw raw1 s
  | .adcStall t ch => Sys2Proof.Machine.execAdcStall t ch s
  | .fifoDataRead t ch n => Sys2Proof.Machine.execFifoDataRead t ch n s
  | .fifoFlush t ch n => Sys2Proof.Machine.execFifoFlush t ch n s
  | .sdMclkMeasure t ch period => Sys2Proof.Machine.execSdMclkMeasure t ch period s
  | .clkLoss t ch => Sys2Proof.Machine.execClkLoss t ch s
  | .stuckData t ch n => Sys2Proof.Machine.execStuckData t ch n s
  | .sdClockResume t ch => Sys2Proof.Machine.execSdClockResume t ch s
  | .sdStuckEnd t ch n => Sys2Proof.Machine.execSdStuckEnd t ch n s
  | .sdDataFilterOutput t ch n tail => Sys2Proof.Machine.execSdDataFilterOutput t ch n tail s
  | .sdComparatorOutput t ch n bit => Sys2Proof.Machine.execSdComparatorOutput t ch n bit s
  | .resolverEvent t ch second => Sys2Proof.Machine.execResolverEvent t ch second s
  | .encoderEdge t ch a b => Sys2Proof.Machine.execEncoderEdge t ch a b s
  | .encoderIndex t ch => Sys2Proof.Machine.execEncoderIndex t ch s
  | .encoderSpeedTimeout t ch => Sys2Proof.Machine.execEncoderSpeedTimeout t ch s
  | .dclAltStale t ch => Sys2Proof.Machine.execDclAltStale t ch s
  | .windowOpen t ch => Sys2Proof.Machine.execWindowOpen t ch s
  | .windowTriggerDelay t ch => Sys2Proof.Machine.execWindowTriggerDelay t ch s
  | .windowClose t ch => Sys2Proof.Machine.execWindowClose t ch s
  | .refreshForced t ch => Sys2Proof.Machine.execRefreshForced t ch s
  | .refreshForcingEnd t ch => Sys2Proof.Machine.execRefreshForcingEnd t ch s
  | .onTimeExceeded t ch => Sys2Proof.Machine.execOnTimeExceeded t ch s
  | .obsCmdRelease t ch => Sys2Proof.Machine.execObsCmdRelease t ch s
  | .tmWindowEnd t ch => Sys2Proof.Machine.execTmWindowEnd t ch s
  | .tmResultWrite t ch => Sys2Proof.Machine.execTmResultWrite t ch s
  | .tmLate t ch => Sys2Proof.Machine.execTmLate t ch s
  | .edgeChannelEdge t ch sl present rail => Sys2Proof.Machine.execEdgeChannelEdge t ch sl present rail s
  | .deadTimeExpiry t ch sl => Sys2Proof.Machine.execDeadTimeExpiry t ch sl s
  | .partnerOffChange t ch sl => Sys2Proof.Machine.execPartnerOffChange t ch sl s
  | .partnerOffTimeout t ch sl => Sys2Proof.Machine.execPartnerOffTimeout t ch sl s
  | .gateOnChange t ch sl on => Sys2Proof.Machine.execGateOnChange t ch sl on s
  | .pairInterlock t ch p => Sys2Proof.Machine.execPairInterlock t ch p s
  | .sliceWriteFrame t ch sl reg => Sys2Proof.Machine.execSliceWriteFrame t ch sl reg s
  | .sliceReadFrame t ch sl reg => Sys2Proof.Machine.execSliceReadFrame t ch sl reg s
  | .edgeTag t ch sl x => Sys2Proof.Machine.execEdgeTag t ch sl x s
  | .edgeTagTimeout t ch sl count tDly tSw => Sys2Proof.Machine.execEdgeTagTimeout t ch sl count tDly tSw s
  | .sliceStatusFrame t ch sl => Sys2Proof.Machine.execSliceStatusFrame t ch sl s
  | .sliceWriteAckFrame t ch sl reg => Sys2Proof.Machine.execSliceWriteAckFrame t ch sl reg s
  | .sliceReadDataFrame t ch sl reg data => Sys2Proof.Machine.execSliceReadDataFrame t ch sl reg data s
  | .sliceEdgeReportFrame t ch sl => Sys2Proof.Machine.execSliceEdgeReportFrame t ch sl s
  | .sliceTelemetryFrame t ch sl m => Sys2Proof.Machine.execSliceTelemetryFrame t ch sl m s
  | .sliceFaultFrame t ch sl => Sys2Proof.Machine.execSliceFaultFrame t ch sl s
  | .sliceLinkLoss t ch sl => Sys2Proof.Machine.execSliceLinkLoss t ch sl s
  | .channelLinkLoss t ch sl => Sys2Proof.Machine.execChannelLinkLoss t ch sl s
  | .sliceConfigCheck t ch => Sys2Proof.Machine.execSliceConfigCheck t ch s
  | .islandPowerUp t ch sl => Sys2Proof.Machine.execIslandPowerUp t ch sl s
  | .sliceReady t ch sl => Sys2Proof.Machine.execSliceReady t ch sl s
  | .scBlankingEnd t ch sl above vds => Sys2Proof.Machine.execScBlankingEnd t ch sl above vds s
  | .sc2Trip t ch sl vds => Sys2Proof.Machine.execSc2Trip t ch sl vds s
  | .sc1Trip t ch sl vds => Sys2Proof.Machine.execSc1Trip t ch sl vds s
  | .plateauEnd t ch sl => Sys2Proof.Machine.execPlateauEnd t ch sl s
  | .gsUv t ch sl x => Sys2Proof.Machine.execGsUv t ch sl x s
  | .gsOv t ch x => Sys2Proof.Machine.execGsOv t ch x s
  | .islOt t ch sl => Sys2Proof.Machine.execIslOt t ch sl s
  | .sliceVdsMeasure t ch sl v => Sys2Proof.Machine.execSliceVdsMeasure t ch sl v s
  | .sliceSupplyMeasure t ch sl vneg vpos ts isl => Sys2Proof.Machine.execSliceSupplyMeasure t ch sl vneg vpos ts isl s
  | .enPinFall t ch p => Sys2Proof.Machine.execEnPinFall t ch p s
  | .enPinRise t ch p => Sys2Proof.Machine.execEnPinRise t ch p s
  | .primerReq t ch => Sys2Proof.Machine.execPrimerReq t ch s
  | .primerReading t ch vl vh ret => Sys2Proof.Machine.execPrimerReading t ch vl vh ret s
  | .primerSettleTimeout t ch => Sys2Proof.Machine.execPrimerSettleTimeout t ch s
  | .primerAverageEnd t ch => Sys2Proof.Machine.execPrimerAverageEnd t ch s
  | .primerTestEnd t ch => Sys2Proof.Machine.execPrimerTestEnd t ch s
  | .dclComparatorChange t ch cmp on => Sys2Proof.Machine.execDclComparatorChange t ch cmp on s
  | .chopMinTExpiry t ch => Sys2Proof.Machine.execChopMinTExpiry t ch s
  | .chopProve t ch sc vdsHigh => Sys2Proof.Machine.execChopProve t ch sc vdsHigh s
  | .chopTest t ch => Sys2Proof.Machine.execChopTest t ch s
  | .dclExtTimer t ch => Sys2Proof.Machine.execDclExtTimer t ch s
  | .dchgReq t ch => Sys2Proof.Machine.execDchgReq t ch s
  | .dchgCancel t ch => Sys2Proof.Machine.execDchgCancel t ch s
  | .dchgPin t ch => Sys2Proof.Machine.execDchgPin t ch s
  | .dchgPinRelease t ch => Sys2Proof.Machine.execDchgPinRelease t ch s
  | .dchgCfbTimeout t ch => Sys2Proof.Machine.execDchgCfbTimeout t ch s
  | .dchgCheckT t ch => Sys2Proof.Machine.execDchgCheckT t ch s
  | .dchgTExpiry t ch => Sys2Proof.Machine.execDchgTExpiry t ch s
  | .energyUpdate t ch link => Sys2Proof.Machine.execEnergyUpdate t ch link s
  | .autonomousDischarge t ch => Sys2Proof.Machine.execAutonomousDischarge t ch s
  | .windingDischargeTimeout t ch => Sys2Proof.Machine.execWindingDischargeTimeout t ch s
  | .sourceArrival t ch blk bit => Sys2Proof.Machine.execSourceArrival t ch blk bit s
  | .sourceClear t ch blk bit => Sys2Proof.Machine.execSourceClear t ch blk bit s
  | .holdEnd t ch => Sys2Proof.Machine.execHoldEnd t ch s
  | .legClr t ch => Sys2Proof.Machine.execLegClr t ch s
  | .cfbChange t ch n high => Sys2Proof.Machine.execCfbChange t ch n high s
  | .contactorDebounceExpiry t ch n => Sys2Proof.Machine.execContactorDebounceExpiry t ch n s
  | .prechargeTimeout t ch => Sys2Proof.Machine.execPrechargeTimeout t ch s
  | .guardInputChange t ch g1 g2 => Sys2Proof.Machine.execGuardInputChange t ch g1 g2 s
  | .guardDiscTimeout t ch => Sys2Proof.Machine.execGuardDiscTimeout t ch s
  | .ackPressBegin t ch => Sys2Proof.Machine.execAckPressBegin t ch s
  | .ackPressEnd t ch => Sys2Proof.Machine.execAckPressEnd t ch s
  | .ackJammed t ch => Sys2Proof.Machine.execAckJammed t ch s
  | .weldClr t ch => Sys2Proof.Machine.execWeldClr t ch s
  | .auxOn t ch => Sys2Proof.Machine.execAuxOn t ch s
  | .auxOff t ch => Sys2Proof.Machine.execAuxOff t ch s
  | .plumbMismatch t ch kind => Sys2Proof.Machine.execPlumbMismatch t ch kind s
  | .plumbTest t pair x => Sys2Proof.Machine.execPlumbTest t pair x s
  | .smcPairFault t kind => Sys2Proof.Machine.execSmcPairFault t kind s
  | .debugHalt t pair kind => Sys2Proof.Machine.execDebugHalt t pair kind s
  | .debugResume t pair => Sys2Proof.Machine.execDebugResume t pair s
  | .tcmEccRead t ch word double => Sys2Proof.Machine.execTcmEccRead t ch word double s
  | .shadowMismatch t ch addr bit => Sys2Proof.Machine.execShadowMismatch t ch addr bit s
  | .cvuDataWrite t ch n data => Sys2Proof.Machine.execCvuDataWrite t ch n data s
  | .cvuInit t ch n => Sys2Proof.Machine.execCvuInit t ch n s
  | .cvuCheck t ch n => Sys2Proof.Machine.execCvuCheck t ch n s
  | .skimSliceStart t ch cls unit => Sys2Proof.Machine.execSkimSliceStart t ch cls unit s
  | .skimSliceEnd t ch raw raw1 ok detail => Sys2Proof.Machine.execSkimSliceEnd t ch raw raw1 ok detail s
  | .skimAbort t ch => Sys2Proof.Machine.execSkimAbort t ch s
  | .skimCycleEnd t ch => Sys2Proof.Machine.execSkimCycleEnd t ch s
  | .skimReqPass t ch => Sys2Proof.Machine.execSkimReqPass t ch s
  | .bistReqStart t start fuse => Sys2Proof.Machine.execBistReqStart t start fuse s
  | .undercoatStart t => Sys2Proof.Machine.execUndercoatStart t s
  | .undercoatRecordWrite t => Sys2Proof.Machine.execUndercoatRecordWrite t s
  | .cmdFrameRx t fr => Sys2Proof.Machine.execCmdFrameRx t fr s
  | .arcFrameRx t fr => Sys2Proof.Machine.execArcFrameRx t fr s
  | .crdFrameRx t fr => Sys2Proof.Machine.execCrdFrameRx t fr s
  | .bundleTimeout t flow => Sys2Proof.Machine.execBundleTimeout t flow s
  | .bundleProcess t => Sys2Proof.Machine.execBundleProcess t s
  | .mailboxPartTake t ch => Sys2Proof.Machine.execMailboxPartTake t ch s
  | .frameEgress t => Sys2Proof.Machine.execFrameEgress t s
  | .crdTimer t => Sys2Proof.Machine.execCrdTimer t s
  | .crdFullTimer t => Sys2Proof.Machine.execCrdFullTimer t s
  | .retxTimeout t host => Sys2Proof.Machine.execRetxTimeout t host s
  | .hqAuditReq t => Sys2Proof.Machine.execHqAuditReq t s
  | .hqAuditEpochReq t => Sys2Proof.Machine.execHqAuditEpochReq t s
  | .auditDrainEnd t => Sys2Proof.Machine.execAuditDrainEnd t s
  | .auditReq t fr => Sys2Proof.Machine.execAuditReq t fr s
  | .auditRsp t fr => Sys2Proof.Machine.execAuditRsp t fr s
  | .auditDone t fr => Sys2Proof.Machine.execAuditDone t fr s
  | .auditRspTimeout t => Sys2Proof.Machine.execAuditRspTimeout t s
  | .epochRaise t => Sys2Proof.Machine.execEpochRaise t s
  | .epochNewTimer t => Sys2Proof.Machine.execEpochNewTimer t s
  | .epochAck t fr => Sys2Proof.Machine.execEpochAck t fr s
  | .epochReq t fr => Sys2Proof.Machine.execEpochReq t fr s
  | .helloTimer t => Sys2Proof.Machine.execHelloTimer t s
  | .linkUp t speed => Sys2Proof.Machine.execLinkUp t speed s
  | .linkDown t => Sys2Proof.Machine.execLinkDown t s
  | .ptpMessageRx t msg => Sys2Proof.Machine.execPtpMessageRx t msg s
  | .announceTimeout t => Sys2Proof.Machine.execAnnounceTimeout t s
  | .ntfVectorFire t v => Sys2Proof.Machine.execNtfVectorFire t v s
  | .ntfHoldoffExpiry t v => Sys2Proof.Machine.execNtfHoldoffExpiry t v s
  | .mdioGo t => Sys2Proof.Machine.execMdioGo t s
  | .mdioTransactionEnd t data => Sys2Proof.Machine.execMdioTransactionEnd t data s
  | .info t rq args => Sys2Proof.Machine.execInfo t rq args s
  | .sessionNonce t rq args => Sys2Proof.Machine.execSessionNonce t rq args s
  | .sessionKey t rq args => Sys2Proof.Machine.execSessionKey t rq args s
  | .sessionEnd t rq args => Sys2Proof.Machine.execSessionEnd t rq args s
  | .flowOpen t rq args => Sys2Proof.Machine.execFlowOpen t rq args s
  | .flowClose t rq args => Sys2Proof.Machine.execFlowClose t rq args s
  | .ntfAck t rq args => Sys2Proof.Machine.execNtfAck t rq args s
  | .identitySet t rq args => Sys2Proof.Machine.execIdentitySet t rq args s
  | .hostcfgWrite t rq args => Sys2Proof.Machine.execHostcfgWrite t rq args s
  | .psetReadback t ch rq args => Sys2Proof.Machine.execPsetReadback t ch rq args s
  | .tuningCommit t ch rq args => Sys2Proof.Machine.execTuningCommit t ch rq args s
  | .safetyStage t ch rq args => Sys2Proof.Machine.execSafetyStage t ch rq args s
  | .safetyConfirm t ch rq args => Sys2Proof.Machine.execSafetyConfirm t ch rq args s
  | .psetStore t ch rq args => Sys2Proof.Machine.execPsetStore t ch rq args s
  | .psetLoad t ch rq args => Sys2Proof.Machine.execPsetLoad t ch rq args s
  | .arm t ch rq args => Sys2Proof.Machine.execArm t ch rq args s
  | .disarm t ch rq args => Sys2Proof.Machine.execDisarm t ch rq args s
  | .clearFault t ch rq args => Sys2Proof.Machine.execClearFault t ch rq args s
  | .reset t rq target args => Sys2Proof.Machine.execReset t rq target args s
  | .streamTorque t ch rq args => Sys2Proof.Machine.execStreamTorque t ch rq args s
  | .streamSpeedLimit t ch rq args => Sys2Proof.Machine.execStreamSpeedLimit t ch rq args s
  | .regRead t rq target args => Sys2Proof.Machine.execRegRead t rq target args s
  | .regWrite t rq target args => Sys2Proof.Machine.execRegWrite t rq target args s
  | .tlmSubscribe t ch rq args => Sys2Proof.Machine.execTlmSubscribe t ch rq args s
  | .tlmUnsubscribe t ch rq args => Sys2Proof.Machine.execTlmUnsubscribe t ch rq args s
  | .evtFilter t rq args => Sys2Proof.Machine.execEvtFilter t rq args s
  | .snapCfg t ch rq args => Sys2Proof.Machine.execSnapCfg t ch rq args s
  | .snapTrigger t ch rq args => Sys2Proof.Machine.execSnapTrigger t ch rq args s
  | .snapRelease t ch rq args => Sys2Proof.Machine.execSnapRelease t ch rq args s
  | .snapList t rq args => Sys2Proof.Machine.execSnapList t rq args s
  | .arcRead t rq args => Sys2Proof.Machine.execArcRead t rq args s
  | .countersRead t rq args => Sys2Proof.Machine.execCountersRead t rq args s
  | .skimPass t ch rq args => Sys2Proof.Machine.execSkimPass t ch rq args s
  | .bistRun t rq args => Sys2Proof.Machine.execBistRun t rq args s
  | .shutdown t rq args => Sys2Proof.Machine.execShutdown t rq args s
  | .powerState t ch rq args => Sys2Proof.Machine.execPowerState t ch rq args s
  | .fwStage t rq args => Sys2Proof.Machine.execFwStage t rq args s
  | .fwActivate t rq args => Sys2Proof.Machine.execFwActivate t rq args s
  | .fwConfirm t rq args => Sys2Proof.Machine.execFwConfirm t rq args s
  | .lcNonce t rq args => Sys2Proof.Machine.execLcNonce t rq args s
  | .lcToken t rq args => Sys2Proof.Machine.execLcToken t rq args s
  | .attest t rq args => Sys2Proof.Machine.execAttest t rq args s
  | .canMapWrite t rq args => Sys2Proof.Machine.execCanMapWrite t rq args s
  | .canMapCommit t rq args => Sys2Proof.Machine.execCanMapCommit t rq args s
  | .canMapRead t rq args => Sys2Proof.Machine.execCanMapRead t rq args s
  | .canMappedMessage t pgn path data seq time => Sys2Proof.Machine.execCanMappedMessage t pgn path data seq time s
  | .canInitClear t k => Sys2Proof.Machine.execCanInitClear t k s
  | .canIntegrated t k => Sys2Proof.Machine.execCanIntegrated t k s
  | .canFrameReceived t k fr age => Sys2Proof.Machine.execCanFrameReceived t k fr age s
  | .protocolException t k => Sys2Proof.Machine.execProtocolException t k s
  | .canTxStart t k => Sys2Proof.Machine.execCanTxStart t k s
  | .canTxDone t k delay age => Sys2Proof.Machine.execCanTxDone t k delay age s
  | .canTxFail t k why => Sys2Proof.Machine.execCanTxFail t k why s
  | .moStatPend t k n => Sys2Proof.Machine.execMoStatPend t k n s
  | .moStatCancel t k n => Sys2Proof.Machine.execMoStatCancel t k n s
  | .canCtlRecover t k => Sys2Proof.Machine.execCanCtlRecover t k s
  | .canRecoveryComplete t k => Sys2Proof.Machine.execCanRecoveryComplete t k s
  | .e2eTimeout t k n => Sys2Proof.Machine.execE2eTimeout t k n s
  | .addressClaimStart t => Sys2Proof.Machine.execAddressClaimStart t s
  | .addressClaimTimer t => Sys2Proof.Machine.execAddressClaimTimer t s
  | .addressClaimedRx t sa name => Sys2Proof.Machine.execAddressClaimedRx t sa name s
  | .requestPgnRx t pgn da => Sys2Proof.Machine.execRequestPgnRx t pgn da s
  | .transportProtocolRx t dt src dst data => Sys2Proof.Machine.execTransportProtocolRx t dt src dst data s
  | .arcOpGo t => Sys2Proof.Machine.execArcOpGo t s
  | .arcOpDone t present decodes crcOk bits fail part slot => Sys2Proof.Machine.execArcOpDone t present decodes crcOk bits fail part slot s
  | .snapshotFreeze t ch => Sys2Proof.Machine.execSnapshotFreeze t ch s
  | .snapshotWriteEnd t ch => Sys2Proof.Machine.execSnapshotWriteEnd t ch s
  | .counterWriteTimer t => Sys2Proof.Machine.execCounterWriteTimer t s
  | .phyResetRelease t => Sys2Proof.Machine.execPhyResetRelease t s
  | .controlProtocolRx t proto dest src => Sys2Proof.Machine.execControlProtocolRx t proto dest src s
  | .canRxError t k big => Sys2Proof.Machine.execCanRxError t k big s
  | .mailboxTimeout t ch => Sys2Proof.Machine.execMailboxTimeout t ch s
  | .aonClockDeviation t on => Sys2Proof.Machine.execAonClockDeviation t on s
  | .sliceIdleFrame t ch sl => Sys2Proof.Machine.execSliceIdleFrame t ch sl s
  | .sliceFrameInvalid t ch sl x => Sys2Proof.Machine.execSliceFrameInvalid t ch sl x s
  | .chopTestPulseEnd t ch => Sys2Proof.Machine.execChopTestPulseEnd t ch s
  | .autonomousDischargeDone t ch => Sys2Proof.Machine.execAutonomousDischargeDone t ch s

end Sys2Proof.Machine
end

