-- ==== Sys2Proof/Laws/Regs.lean ====
section
/-! SUPPORT. Laws/Regs.lean: reads after writes of registers and fields, and the canonical form of a register file. -/

set_option Elab.async false

namespace Sys2Proof.Machine

/-! ### Bits -/

theorem bits_split (w lo n v : Nat) : w - w / 2 ^ lo % 2 ^ n * 2 ^ lo + v * 2 ^ lo = 2 ^ lo * (w / 2 ^ lo - w / 2 ^ lo % 2 ^ n + v) + w % 2 ^ lo := by
  have h1 : w = 2 ^ lo * (w / 2 ^ lo) + w % 2 ^ lo := (Nat.div_add_mod w (2 ^ lo)).symm
  have h2 : w / 2 ^ lo % 2 ^ n ≤ w / 2 ^ lo := Nat.mod_le _ _
  generalize w / 2 ^ lo = A at *
  generalize w % 2 ^ lo = r at *
  generalize A % 2 ^ n = b at *
  obtain ⟨k, rfl⟩ := Nat.exists_eq_add_of_le h2
  subst h1
  have : 2 ^ lo * (b + k) + r - b * 2 ^ lo = 2 ^ lo * k + r := by
    rw [Nat.mul_add, Nat.mul_comm b]; omega
  rw [this, Nat.add_sub_cancel_left, Nat.mul_add, Nat.mul_comm v]
  omega

theorem bitsOf_putBits (w hi lo v : Nat) : bitsOf (putBits w hi lo v) hi lo = v % 2 ^ (hi + 1 - lo) := by
  unfold putBits bitsOf
  rw [bits_split, Nat.mul_add_div (by positivity), Nat.div_eq_of_lt (Nat.mod_lt _ (by positivity)), Nat.add_zero, Nat.add_mod,
    Nat.sub_mod_eq_zero_of_mod_eq (by simp), Nat.zero_add, Nat.mod_mod, Nat.mod_mod]

theorem bitsOf_putBits_low (w hi lo v hi' lo' : Nat) (h : hi' < lo) : bitsOf (putBits w hi lo v) hi' lo' = bitsOf w hi' lo' := by
  by_cases hl : hi' < lo'
  · have : hi' + 1 - lo' = 0 := by omega
    simp [bitsOf, this, Nat.mod_one]
  · have key : ∀ x y : Nat, x % 2 ^ lo = y % 2 ^ lo → bitsOf x hi' lo' = bitsOf y hi' lo' := by
      intro x y hxy
      have e : ∀ z : Nat, bitsOf z hi' lo' = bitsOf (z % 2 ^ lo) hi' lo' := by
        intro z
        apply Nat.eq_of_testBit_eq
        intro i
        simp only [bitsOf, Nat.testBit_mod_two_pow, Nat.testBit_div_two_pow]
        by_cases hi2 : i < hi' + 1 - lo'
        · have : i + lo' < lo := by omega
          simp [hi2, this]
        · simp [hi2]
      rw [e x, e y, hxy]
    apply key
    unfold putBits bitsOf
    rw [bits_split, Nat.mul_add_mod, Nat.mod_mod]

theorem bitsOf_putBits_high (w hi lo v hi' lo' : Nat) (hle : lo ≤ hi) (h : hi < lo') : bitsOf (putBits w hi lo v) hi' lo' = bitsOf w hi' lo' := by
  have key : ∀ x y : Nat, x / 2 ^ (hi + 1) = y / 2 ^ (hi + 1) → bitsOf x hi' lo' = bitsOf y hi' lo' := by
    intro x y hxy
    have e : ∀ z : Nat, z / 2 ^ lo' = z / 2 ^ (hi + 1) / 2 ^ (lo' - (hi + 1)) := by
      intro z
      rw [Nat.div_div_eq_div_mul, ← Nat.pow_add]
      congr 2; omega
    unfold bitsOf
    rw [e x, e y, hxy]
  apply key
  have e : hi + 1 = lo + (hi + 1 - lo) := by omega
  unfold putBits bitsOf
  rw [bits_split]
  generalize hn : hi + 1 - lo = n at *
  rw [e, Nat.pow_add, ← Nat.div_div_eq_div_mul, ← Nat.div_div_eq_div_mul, Nat.mul_add_div (by positivity),
    Nat.div_eq_of_lt (Nat.mod_lt _ (by positivity)), Nat.add_zero]
  generalize w / 2 ^ lo = A
  have h1 : A - A % 2 ^ n = 2 ^ n * (A / 2 ^ n) := by
    have := Nat.div_add_mod A (2 ^ n); omega
  rw [h1, Nat.mul_add_div (by positivity), Nat.div_eq_of_lt (Nat.mod_lt _ (by positivity)), Nat.add_zero]

theorem bitsOf_mod (x hi lo : Nat) (h : hi < 32) : bitsOf (x % 2 ^ 32) hi lo = bitsOf x hi lo := by
  apply Nat.eq_of_testBit_eq
  intro i
  simp only [bitsOf, Nat.testBit_mod_two_pow, Nat.testBit_div_two_pow]
  by_cases hi2 : i < hi + 1 - lo
  · have : i + lo < 32 := by omega
    simp [hi2, this]
  · simp [hi2]

/-! ### Register files -/

theorem find?_erase_same (m : RegMap) (a : Nat) : RegMap.find? (RegMap.erase m a) a = none := by
  induction m with
  | nil => rfl
  | cons x m ih =>
    obtain ⟨k, w⟩ := x
    by_cases h : k = a
    · simp [RegMap.erase, h, ih]
    · simp [RegMap.erase, RegMap.find?, h, ih]

theorem find?_erase_other (m : RegMap) (a b : Nat) (h : b ≠ a) : RegMap.find? (RegMap.erase m a) b = RegMap.find? m b := by
  induction m with
  | nil => rfl
  | cons x m ih =>
    obtain ⟨k, w⟩ := x
    by_cases hk : k = a
    · subst hk
      have : ¬ k = b := fun e => h e.symm
      simp [RegMap.erase, RegMap.find?, this, ih]
    · by_cases hb : k = b
      · subst hb
        rw [RegMap.erase, if_neg hk, RegMap.find?, if_pos rfl, RegMap.find?, if_pos rfl]
      · simp [RegMap.erase, RegMap.find?, hk, hb, ih]

theorem find?_insert_other (m : RegMap) (a b : Nat) (v : Word) (h : b ≠ a) : RegMap.find? (RegMap.insert m a v) b = RegMap.find? m b := by
  have h' : ¬ a = b := fun e => h e.symm
  induction m with
  | nil => simp [RegMap.insert, RegMap.find?, h']
  | cons x m ih =>
    obtain ⟨k, w⟩ := x
    by_cases hk : a < k
    · simp [RegMap.insert, RegMap.find?, hk, h']
    · simp [RegMap.insert, RegMap.find?, hk, ih]

theorem find?_insert_same (m : RegMap) (a : Nat) (v : Word) (h : RegMap.find? m a = none) : RegMap.find? (RegMap.insert m a v) a = some v := by
  induction m with
  | nil => simp [RegMap.insert, RegMap.find?]
  | cons x m ih =>
    obtain ⟨k, w⟩ := x
    by_cases hk : a < k
    · simp [RegMap.insert, RegMap.find?, hk]
    · by_cases hb : k = a
      · simp [RegMap.find?, hb] at h
      · simp only [RegMap.find?, hb, if_false] at h
        simp [RegMap.insert, RegMap.find?, hk, hb, ih h]

/-- A read after a write of the same register. -/
theorem get_set_same (m : RegMap) (d a v : Nat) : RegMap.get (RegMap.set m d a v) d a = v % 2 ^ 32 := by
  unfold RegMap.get RegMap.set
  split_ifs with h
  · rw [find?_erase_same]; exact h.symm
  · rw [find?_insert_same _ _ _ (find?_erase_same m a)]; exact BitVec.toNat_ofNat v 32

/-- A write leaves every other register alone. -/
theorem get_set_other (m : RegMap) (d d' a b v : Nat) (h : b ≠ a) : RegMap.get (RegMap.set m d a v) d' b = RegMap.get m d' b := by
  unfold RegMap.get RegMap.set
  split_ifs
  · rw [find?_erase_other _ _ _ h]
  · rw [find?_insert_other _ _ _ _ h, find?_erase_other _ _ _ h]

/-! ### The canonical form -/

/-- Every offset of a file lies above a bound. -/
def above (n : Nat) (m : RegMap) : Prop := ∀ e ∈ m, n < e.1

theorem wf_cons (dflt : Nat → Nat) (k : Nat) (w : Word) (m : RegMap) :
    RegMap.wf dflt ((k, w) :: m) = true ↔ w.toNat ≠ dflt k ∧ above k m ∧ RegMap.wf dflt m = true := by
  induction m generalizing k w with
  | nil => simp [RegMap.wf, above]
  | cons x m ih =>
    obtain ⟨k', w'⟩ := x
    have e : RegMap.wf dflt ((k, w) :: (k', w') :: m) = true ↔ w.toNat ≠ dflt k ∧ k < k' ∧ RegMap.wf dflt ((k', w') :: m) = true := by
      simp [RegMap.wf, Nat.blt_eq, and_assoc]
    rw [e]
    constructor
    · rintro ⟨h1, h2, h3⟩
      refine ⟨h1, ?_, h3⟩
      intro y hy
      rcases List.mem_cons.1 hy with rfl | hy
      · exact h2
      · exact lt_trans h2 (((ih k' w').1 h3).2.1 y hy)
    · rintro ⟨h1, h2, h3⟩
      exact ⟨h1, h2 (k', w') (by simp), h3⟩

theorem above_erase (n a : Nat) (m : RegMap) (h : above n m) : above n (RegMap.erase m a) := by
  induction m with
  | nil => simpa [RegMap.erase] using h
  | cons x m ih =>
    obtain ⟨k, w⟩ := x
    have h' : above n m := fun y hy => h y (by simp [hy])
    by_cases hk : k = a
    · simpa [RegMap.erase, hk] using ih h'
    · intro y hy
      simp only [RegMap.erase, hk, if_false, List.mem_cons] at hy
      rcases hy with rfl | hy
      · exact h _ (by simp)
      · exact ih h' y hy

theorem wf_erase (dflt : Nat → Nat) (m : RegMap) (a : Nat) (h : RegMap.wf dflt m = true) : RegMap.wf dflt (RegMap.erase m a) = true := by
  induction m with
  | nil => rfl
  | cons x m ih =>
    obtain ⟨k, w⟩ := x
    rw [wf_cons] at h
    by_cases hk : k = a
    · simpa [RegMap.erase, hk] using ih h.2.2
    · simp only [RegMap.erase, hk, if_false]
      rw [wf_cons]
      exact ⟨h.1, above_erase _ _ _ h.2.1, ih h.2.2⟩

theorem above_insert (n a : Nat) (v : Word) (m : RegMap) (h : above n m) (ha : n < a) : above n (RegMap.insert m a v) := by
  induction m with
  | nil => intro y hy; simp [RegMap.insert] at hy; subst hy; exact ha
  | cons x m ih =>
    obtain ⟨k, w⟩ := x
    intro y hy
    by_cases hk : a < k
    · simp only [RegMap.insert, hk, if_true, List.mem_cons] at hy
      rcases hy with rfl | rfl | hy
      · exact ha
      · exact h _ (by simp)
      · exact h _ (by simp [hy])
    · simp only [RegMap.insert, hk, if_false, List.mem_cons] at hy
      rcases hy with rfl | hy
      · exact h _ (by simp)
      · exact ih (fun z hz => h z (by simp [hz])) y hy

theorem wf_insert (dflt : Nat → Nat) (m : RegMap) (a : Nat) (v : Word) (h : RegMap.wf dflt m = true) (hv : v.toNat ≠ dflt a)
    (hn : RegMap.find? m a = none) : RegMap.wf dflt (RegMap.insert m a v) = true := by
  induction m with
  | nil => simp [RegMap.insert, RegMap.wf, hv]
  | cons x m ih =>
    obtain ⟨k, w⟩ := x
    have h0 := h
    rw [wf_cons] at h
    by_cases hk : a < k
    · simp only [RegMap.insert, hk, if_true]
      rw [wf_cons]
      refine ⟨hv, ?_, h0⟩
      intro y hy
      rcases List.mem_cons.1 hy with rfl | hy
      · exact hk
      · exact lt_trans hk (h.2.1 y hy)
    · by_cases hb : k = a
      · simp [RegMap.find?, hb] at hn
      · simp only [RegMap.find?, hb, if_false] at hn
        simp only [RegMap.insert, hk, if_false]
        rw [wf_cons]
        exact ⟨h.1, above_insert _ _ _ _ h.2.1 (by omega), ih h.2.2 hn⟩

/-- A write keeps the canonical form. -/
theorem wf_set (dflt : Nat → Nat) (m : RegMap) (a v : Nat) (h : RegMap.wf dflt m = true) : RegMap.wf dflt (RegMap.set m (dflt a) a v) = true := by
  unfold RegMap.set
  split_ifs with e
  · exact wf_erase dflt m a h
  · refine wf_insert dflt _ a _ (wf_erase dflt m a h) ?_ (find?_erase_same m a)
    rw [BitVec.toNat_ofNat]; exact e

/-- A file without the entries that fail a test keeps the canonical form. -/
theorem wf_filter (dflt : Nat → Nat) (q : Nat → Bool) (m : RegMap) (h : RegMap.wf dflt m = true) :
    RegMap.wf dflt (m.filter (fun e => q e.1)) = true := by
  induction m with
  | nil => rfl
  | cons x m ih =>
    obtain ⟨k, w⟩ := x
    rw [wf_cons] at h
    by_cases hq : q k = true
    · simp only [List.filter_cons, hq, if_true]
      rw [wf_cons]
      exact ⟨h.1, fun y hy => h.2.1 y (List.mem_filter.1 hy).1, ih h.2.2⟩
    · rw [List.filter_cons, if_neg hq]
      exact ih h.2.2

end Sys2Proof.Machine
end

