-- ==== Sys2Proof/Laws/State.lean ====
section
/-! SUPPORT. Laws/State.lean: what each update of the state leaves in each field. -/

set_option Elab.async false

namespace Sys2Proof.Machine

/-! ### Chan.wr -/

@[simp] theorem Chan.wr_id (c : Chan) (a v : Nat) : (c.wr a v).id = c.id := rfl
@[simp] theorem Chan.wr_now (c : Chan) (a v : Nat) : (c.wr a v).now = c.now := rfl
@[simp] theorem Chan.wr_parked (c : Chan) (a v : Nat) : (c.wr a v).parked = c.parked := rfl
@[simp] theorem Chan.wr_free (c : Chan) (a v : Nat) : (c.wr a v).free = c.free := rfl
@[simp] theorem Chan.wr_regs (c : Chan) (a v : Nat) : (c.wr a v).regs = RegMap.set c.regs (chanReset a) a v := rfl
@[simp] theorem Chan.wr_shadow (c : Chan) (a v : Nat) : (c.wr a v).shadow = c.shadow := rfl
@[simp] theorem Chan.wr_inv (c : Chan) (a v : Nat) : (c.wr a v).inv = c.inv := rfl
@[simp] theorem Chan.wr_tcm (c : Chan) (a v : Nat) : (c.wr a v).tcm = c.tcm := rfl
@[simp] theorem Chan.wr_tb (c : Chan) (a v : Nat) : (c.wr a v).tb = c.tb := rfl
@[simp] theorem Chan.wr_out (c : Chan) (a v : Nat) : (c.wr a v).out = c.out := rfl
@[simp] theorem Chan.wr_answers (c : Chan) (a v : Nat) : (c.wr a v).answers = c.answers := rfl
@[simp] theorem Chan.wr_mail (c : Chan) (a v : Nat) : (c.wr a v).mail = c.mail := rfl
@[simp] theorem Chan.wr_subs (c : Chan) (a v : Nat) : (c.wr a v).subs = c.subs := rfl
@[simp] theorem Chan.wr_ctl (c : Chan) (a v : Nat) : (c.wr a v).ctl = c.ctl := rfl
@[simp] theorem Chan.wr_bases (c : Chan) (a v : Nat) : (c.wr a v).bases = c.bases := rfl
@[simp] theorem Chan.wr_ring (c : Chan) (a v : Nat) : (c.wr a v).ring = c.ring := rfl
@[simp] theorem Chan.wr_adc (c : Chan) (a v : Nat) : (c.wr a v).adc = c.adc := rfl
@[simp] theorem Chan.wr_sinc (c : Chan) (a v : Nat) : (c.wr a v).sinc = c.sinc := rfl
@[simp] theorem Chan.wr_xchk (c : Chan) (a v : Nat) : (c.wr a v).xchk = c.xchk := rfl
@[simp] theorem Chan.wr_dtc (c : Chan) (a v : Nat) : (c.wr a v).dtc = c.dtc := rfl
@[simp] theorem Chan.wr_mask (c : Chan) (a v : Nat) : (c.wr a v).mask = c.mask := rfl
@[simp] theorem Chan.wr_obs (c : Chan) (a v : Nat) : (c.wr a v).obs = c.obs := rfl
@[simp] theorem Chan.wr_skim (c : Chan) (a v : Nat) : (c.wr a v).skim = c.skim := rfl
@[simp] theorem Chan.wr_slices (c : Chan) (a v : Nat) : (c.wr a v).slices = c.slices := rfl
@[simp] theorem Chan.wr_modul (c : Chan) (a v : Nat) : (c.wr a v).modul = c.modul := rfl
@[simp] theorem Chan.wr_prot (c : Chan) (a v : Nat) : (c.wr a v).prot = c.prot := rfl
@[simp] theorem Chan.wr_dust (c : Chan) (a v : Nat) : (c.wr a v).dust = c.dust := rfl
@[simp] theorem Chan.wr_msio (c : Chan) (a v : Nat) : (c.wr a v).msio = c.msio := rfl
@[simp] theorem Chan.wr_life (c : Chan) (a v : Nat) : (c.wr a v).life = c.life := rfl

/-! ### Chan.wrs -/

@[simp] theorem Chan.wrs_id (c : Chan) (a v : Nat) : (c.wrs a v).id = c.id := rfl
@[simp] theorem Chan.wrs_now (c : Chan) (a v : Nat) : (c.wrs a v).now = c.now := rfl
@[simp] theorem Chan.wrs_parked (c : Chan) (a v : Nat) : (c.wrs a v).parked = c.parked := rfl
@[simp] theorem Chan.wrs_free (c : Chan) (a v : Nat) : (c.wrs a v).free = c.free := rfl
@[simp] theorem Chan.wrs_regs (c : Chan) (a v : Nat) : (c.wrs a v).regs = c.regs := rfl
@[simp] theorem Chan.wrs_shadow (c : Chan) (a v : Nat) : (c.wrs a v).shadow = RegMap.set c.shadow (chanReset a) a v := rfl
@[simp] theorem Chan.wrs_inv (c : Chan) (a v : Nat) : (c.wrs a v).inv = c.inv := rfl
@[simp] theorem Chan.wrs_tcm (c : Chan) (a v : Nat) : (c.wrs a v).tcm = c.tcm := rfl
@[simp] theorem Chan.wrs_tb (c : Chan) (a v : Nat) : (c.wrs a v).tb = c.tb := rfl
@[simp] theorem Chan.wrs_out (c : Chan) (a v : Nat) : (c.wrs a v).out = c.out := rfl
@[simp] theorem Chan.wrs_answers (c : Chan) (a v : Nat) : (c.wrs a v).answers = c.answers := rfl
@[simp] theorem Chan.wrs_mail (c : Chan) (a v : Nat) : (c.wrs a v).mail = c.mail := rfl
@[simp] theorem Chan.wrs_subs (c : Chan) (a v : Nat) : (c.wrs a v).subs = c.subs := rfl
@[simp] theorem Chan.wrs_ctl (c : Chan) (a v : Nat) : (c.wrs a v).ctl = c.ctl := rfl
@[simp] theorem Chan.wrs_bases (c : Chan) (a v : Nat) : (c.wrs a v).bases = c.bases := rfl
@[simp] theorem Chan.wrs_ring (c : Chan) (a v : Nat) : (c.wrs a v).ring = c.ring := rfl
@[simp] theorem Chan.wrs_adc (c : Chan) (a v : Nat) : (c.wrs a v).adc = c.adc := rfl
@[simp] theorem Chan.wrs_sinc (c : Chan) (a v : Nat) : (c.wrs a v).sinc = c.sinc := rfl
@[simp] theorem Chan.wrs_xchk (c : Chan) (a v : Nat) : (c.wrs a v).xchk = c.xchk := rfl
@[simp] theorem Chan.wrs_dtc (c : Chan) (a v : Nat) : (c.wrs a v).dtc = c.dtc := rfl
@[simp] theorem Chan.wrs_mask (c : Chan) (a v : Nat) : (c.wrs a v).mask = c.mask := rfl
@[simp] theorem Chan.wrs_obs (c : Chan) (a v : Nat) : (c.wrs a v).obs = c.obs := rfl
@[simp] theorem Chan.wrs_skim (c : Chan) (a v : Nat) : (c.wrs a v).skim = c.skim := rfl
@[simp] theorem Chan.wrs_slices (c : Chan) (a v : Nat) : (c.wrs a v).slices = c.slices := rfl
@[simp] theorem Chan.wrs_modul (c : Chan) (a v : Nat) : (c.wrs a v).modul = c.modul := rfl
@[simp] theorem Chan.wrs_prot (c : Chan) (a v : Nat) : (c.wrs a v).prot = c.prot := rfl
@[simp] theorem Chan.wrs_dust (c : Chan) (a v : Nat) : (c.wrs a v).dust = c.dust := rfl
@[simp] theorem Chan.wrs_msio (c : Chan) (a v : Nat) : (c.wrs a v).msio = c.msio := rfl
@[simp] theorem Chan.wrs_life (c : Chan) (a v : Nat) : (c.wrs a v).life = c.life := rfl

/-! ### Chan.p -/

@[simp] theorem Chan.p_id (c : Chan) (f : Fld) (v : Nat) : (c.p f v).id = c.id := rfl
@[simp] theorem Chan.p_now (c : Chan) (f : Fld) (v : Nat) : (c.p f v).now = c.now := rfl
@[simp] theorem Chan.p_parked (c : Chan) (f : Fld) (v : Nat) : (c.p f v).parked = c.parked := rfl
@[simp] theorem Chan.p_free (c : Chan) (f : Fld) (v : Nat) : (c.p f v).free = c.free := rfl
@[simp] theorem Chan.p_regs (c : Chan) (f : Fld) (v : Nat) : (c.p f v).regs = RegMap.set c.regs (chanReset f.reg) f.reg (putBits (c.rd f.reg) f.hi f.lo v) := rfl
@[simp] theorem Chan.p_shadow (c : Chan) (f : Fld) (v : Nat) : (c.p f v).shadow = c.shadow := rfl
@[simp] theorem Chan.p_inv (c : Chan) (f : Fld) (v : Nat) : (c.p f v).inv = c.inv := rfl
@[simp] theorem Chan.p_tcm (c : Chan) (f : Fld) (v : Nat) : (c.p f v).tcm = c.tcm := rfl
@[simp] theorem Chan.p_tb (c : Chan) (f : Fld) (v : Nat) : (c.p f v).tb = c.tb := rfl
@[simp] theorem Chan.p_out (c : Chan) (f : Fld) (v : Nat) : (c.p f v).out = c.out := rfl
@[simp] theorem Chan.p_answers (c : Chan) (f : Fld) (v : Nat) : (c.p f v).answers = c.answers := rfl
@[simp] theorem Chan.p_mail (c : Chan) (f : Fld) (v : Nat) : (c.p f v).mail = c.mail := rfl
@[simp] theorem Chan.p_subs (c : Chan) (f : Fld) (v : Nat) : (c.p f v).subs = c.subs := rfl
@[simp] theorem Chan.p_ctl (c : Chan) (f : Fld) (v : Nat) : (c.p f v).ctl = c.ctl := rfl
@[simp] theorem Chan.p_bases (c : Chan) (f : Fld) (v : Nat) : (c.p f v).bases = c.bases := rfl
@[simp] theorem Chan.p_ring (c : Chan) (f : Fld) (v : Nat) : (c.p f v).ring = c.ring := rfl
@[simp] theorem Chan.p_adc (c : Chan) (f : Fld) (v : Nat) : (c.p f v).adc = c.adc := rfl
@[simp] theorem Chan.p_sinc (c : Chan) (f : Fld) (v : Nat) : (c.p f v).sinc = c.sinc := rfl
@[simp] theorem Chan.p_xchk (c : Chan) (f : Fld) (v : Nat) : (c.p f v).xchk = c.xchk := rfl
@[simp] theorem Chan.p_dtc (c : Chan) (f : Fld) (v : Nat) : (c.p f v).dtc = c.dtc := rfl
@[simp] theorem Chan.p_mask (c : Chan) (f : Fld) (v : Nat) : (c.p f v).mask = c.mask := rfl
@[simp] theorem Chan.p_obs (c : Chan) (f : Fld) (v : Nat) : (c.p f v).obs = c.obs := rfl
@[simp] theorem Chan.p_skim (c : Chan) (f : Fld) (v : Nat) : (c.p f v).skim = c.skim := rfl
@[simp] theorem Chan.p_slices (c : Chan) (f : Fld) (v : Nat) : (c.p f v).slices = c.slices := rfl
@[simp] theorem Chan.p_modul (c : Chan) (f : Fld) (v : Nat) : (c.p f v).modul = c.modul := rfl
@[simp] theorem Chan.p_prot (c : Chan) (f : Fld) (v : Nat) : (c.p f v).prot = c.prot := rfl
@[simp] theorem Chan.p_dust (c : Chan) (f : Fld) (v : Nat) : (c.p f v).dust = c.dust := rfl
@[simp] theorem Chan.p_msio (c : Chan) (f : Fld) (v : Nat) : (c.p f v).msio = c.msio := rfl
@[simp] theorem Chan.p_life (c : Chan) (f : Fld) (v : Nat) : (c.p f v).life = c.life := rfl

/-! ### Chan.onCtl -/

@[simp] theorem Chan.onCtl_id (c : Chan) (f : Ctl → Ctl) : (c.onCtl f).id = c.id := rfl
@[simp] theorem Chan.onCtl_now (c : Chan) (f : Ctl → Ctl) : (c.onCtl f).now = c.now := rfl
@[simp] theorem Chan.onCtl_parked (c : Chan) (f : Ctl → Ctl) : (c.onCtl f).parked = c.parked := rfl
@[simp] theorem Chan.onCtl_free (c : Chan) (f : Ctl → Ctl) : (c.onCtl f).free = c.free := rfl
@[simp] theorem Chan.onCtl_regs (c : Chan) (f : Ctl → Ctl) : (c.onCtl f).regs = c.regs := rfl
@[simp] theorem Chan.onCtl_shadow (c : Chan) (f : Ctl → Ctl) : (c.onCtl f).shadow = c.shadow := rfl
@[simp] theorem Chan.onCtl_inv (c : Chan) (f : Ctl → Ctl) : (c.onCtl f).inv = c.inv := rfl
@[simp] theorem Chan.onCtl_tcm (c : Chan) (f : Ctl → Ctl) : (c.onCtl f).tcm = c.tcm := rfl
@[simp] theorem Chan.onCtl_tb (c : Chan) (f : Ctl → Ctl) : (c.onCtl f).tb = c.tb := rfl
@[simp] theorem Chan.onCtl_out (c : Chan) (f : Ctl → Ctl) : (c.onCtl f).out = c.out := rfl
@[simp] theorem Chan.onCtl_answers (c : Chan) (f : Ctl → Ctl) : (c.onCtl f).answers = c.answers := rfl
@[simp] theorem Chan.onCtl_mail (c : Chan) (f : Ctl → Ctl) : (c.onCtl f).mail = c.mail := rfl
@[simp] theorem Chan.onCtl_subs (c : Chan) (f : Ctl → Ctl) : (c.onCtl f).subs = c.subs := rfl
@[simp] theorem Chan.onCtl_ctl (c : Chan) (f : Ctl → Ctl) : (c.onCtl f).ctl = f c.ctl := rfl
@[simp] theorem Chan.onCtl_bases (c : Chan) (f : Ctl → Ctl) : (c.onCtl f).bases = c.bases := rfl
@[simp] theorem Chan.onCtl_ring (c : Chan) (f : Ctl → Ctl) : (c.onCtl f).ring = c.ring := rfl
@[simp] theorem Chan.onCtl_adc (c : Chan) (f : Ctl → Ctl) : (c.onCtl f).adc = c.adc := rfl
@[simp] theorem Chan.onCtl_sinc (c : Chan) (f : Ctl → Ctl) : (c.onCtl f).sinc = c.sinc := rfl
@[simp] theorem Chan.onCtl_xchk (c : Chan) (f : Ctl → Ctl) : (c.onCtl f).xchk = c.xchk := rfl
@[simp] theorem Chan.onCtl_dtc (c : Chan) (f : Ctl → Ctl) : (c.onCtl f).dtc = c.dtc := rfl
@[simp] theorem Chan.onCtl_mask (c : Chan) (f : Ctl → Ctl) : (c.onCtl f).mask = c.mask := rfl
@[simp] theorem Chan.onCtl_obs (c : Chan) (f : Ctl → Ctl) : (c.onCtl f).obs = c.obs := rfl
@[simp] theorem Chan.onCtl_skim (c : Chan) (f : Ctl → Ctl) : (c.onCtl f).skim = c.skim := rfl
@[simp] theorem Chan.onCtl_slices (c : Chan) (f : Ctl → Ctl) : (c.onCtl f).slices = c.slices := rfl
@[simp] theorem Chan.onCtl_modul (c : Chan) (f : Ctl → Ctl) : (c.onCtl f).modul = c.modul := rfl
@[simp] theorem Chan.onCtl_prot (c : Chan) (f : Ctl → Ctl) : (c.onCtl f).prot = c.prot := rfl
@[simp] theorem Chan.onCtl_dust (c : Chan) (f : Ctl → Ctl) : (c.onCtl f).dust = c.dust := rfl
@[simp] theorem Chan.onCtl_msio (c : Chan) (f : Ctl → Ctl) : (c.onCtl f).msio = c.msio := rfl
@[simp] theorem Chan.onCtl_life (c : Chan) (f : Ctl → Ctl) : (c.onCtl f).life = c.life := rfl

/-! ### Chan.onMod -/

@[simp] theorem Chan.onMod_id (c : Chan) (f : Modul → Modul) : (c.onMod f).id = c.id := rfl
@[simp] theorem Chan.onMod_now (c : Chan) (f : Modul → Modul) : (c.onMod f).now = c.now := rfl
@[simp] theorem Chan.onMod_parked (c : Chan) (f : Modul → Modul) : (c.onMod f).parked = c.parked := rfl
@[simp] theorem Chan.onMod_free (c : Chan) (f : Modul → Modul) : (c.onMod f).free = c.free := rfl
@[simp] theorem Chan.onMod_regs (c : Chan) (f : Modul → Modul) : (c.onMod f).regs = c.regs := rfl
@[simp] theorem Chan.onMod_shadow (c : Chan) (f : Modul → Modul) : (c.onMod f).shadow = c.shadow := rfl
@[simp] theorem Chan.onMod_inv (c : Chan) (f : Modul → Modul) : (c.onMod f).inv = c.inv := rfl
@[simp] theorem Chan.onMod_tcm (c : Chan) (f : Modul → Modul) : (c.onMod f).tcm = c.tcm := rfl
@[simp] theorem Chan.onMod_tb (c : Chan) (f : Modul → Modul) : (c.onMod f).tb = c.tb := rfl
@[simp] theorem Chan.onMod_out (c : Chan) (f : Modul → Modul) : (c.onMod f).out = c.out := rfl
@[simp] theorem Chan.onMod_answers (c : Chan) (f : Modul → Modul) : (c.onMod f).answers = c.answers := rfl
@[simp] theorem Chan.onMod_mail (c : Chan) (f : Modul → Modul) : (c.onMod f).mail = c.mail := rfl
@[simp] theorem Chan.onMod_subs (c : Chan) (f : Modul → Modul) : (c.onMod f).subs = c.subs := rfl
@[simp] theorem Chan.onMod_ctl (c : Chan) (f : Modul → Modul) : (c.onMod f).ctl = c.ctl := rfl
@[simp] theorem Chan.onMod_bases (c : Chan) (f : Modul → Modul) : (c.onMod f).bases = c.bases := rfl
@[simp] theorem Chan.onMod_ring (c : Chan) (f : Modul → Modul) : (c.onMod f).ring = c.ring := rfl
@[simp] theorem Chan.onMod_adc (c : Chan) (f : Modul → Modul) : (c.onMod f).adc = c.adc := rfl
@[simp] theorem Chan.onMod_sinc (c : Chan) (f : Modul → Modul) : (c.onMod f).sinc = c.sinc := rfl
@[simp] theorem Chan.onMod_xchk (c : Chan) (f : Modul → Modul) : (c.onMod f).xchk = c.xchk := rfl
@[simp] theorem Chan.onMod_dtc (c : Chan) (f : Modul → Modul) : (c.onMod f).dtc = c.dtc := rfl
@[simp] theorem Chan.onMod_mask (c : Chan) (f : Modul → Modul) : (c.onMod f).mask = c.mask := rfl
@[simp] theorem Chan.onMod_obs (c : Chan) (f : Modul → Modul) : (c.onMod f).obs = c.obs := rfl
@[simp] theorem Chan.onMod_skim (c : Chan) (f : Modul → Modul) : (c.onMod f).skim = c.skim := rfl
@[simp] theorem Chan.onMod_slices (c : Chan) (f : Modul → Modul) : (c.onMod f).slices = c.slices := rfl
@[simp] theorem Chan.onMod_modul (c : Chan) (f : Modul → Modul) : (c.onMod f).modul = f c.modul := rfl
@[simp] theorem Chan.onMod_prot (c : Chan) (f : Modul → Modul) : (c.onMod f).prot = c.prot := rfl
@[simp] theorem Chan.onMod_dust (c : Chan) (f : Modul → Modul) : (c.onMod f).dust = c.dust := rfl
@[simp] theorem Chan.onMod_msio (c : Chan) (f : Modul → Modul) : (c.onMod f).msio = c.msio := rfl
@[simp] theorem Chan.onMod_life (c : Chan) (f : Modul → Modul) : (c.onMod f).life = c.life := rfl

/-! ### Chan.onProt -/

@[simp] theorem Chan.onProt_id (c : Chan) (f : Prot → Prot) : (c.onProt f).id = c.id := rfl
@[simp] theorem Chan.onProt_now (c : Chan) (f : Prot → Prot) : (c.onProt f).now = c.now := rfl
@[simp] theorem Chan.onProt_parked (c : Chan) (f : Prot → Prot) : (c.onProt f).parked = c.parked := rfl
@[simp] theorem Chan.onProt_free (c : Chan) (f : Prot → Prot) : (c.onProt f).free = c.free := rfl
@[simp] theorem Chan.onProt_regs (c : Chan) (f : Prot → Prot) : (c.onProt f).regs = c.regs := rfl
@[simp] theorem Chan.onProt_shadow (c : Chan) (f : Prot → Prot) : (c.onProt f).shadow = c.shadow := rfl
@[simp] theorem Chan.onProt_inv (c : Chan) (f : Prot → Prot) : (c.onProt f).inv = c.inv := rfl
@[simp] theorem Chan.onProt_tcm (c : Chan) (f : Prot → Prot) : (c.onProt f).tcm = c.tcm := rfl
@[simp] theorem Chan.onProt_tb (c : Chan) (f : Prot → Prot) : (c.onProt f).tb = c.tb := rfl
@[simp] theorem Chan.onProt_out (c : Chan) (f : Prot → Prot) : (c.onProt f).out = c.out := rfl
@[simp] theorem Chan.onProt_answers (c : Chan) (f : Prot → Prot) : (c.onProt f).answers = c.answers := rfl
@[simp] theorem Chan.onProt_mail (c : Chan) (f : Prot → Prot) : (c.onProt f).mail = c.mail := rfl
@[simp] theorem Chan.onProt_subs (c : Chan) (f : Prot → Prot) : (c.onProt f).subs = c.subs := rfl
@[simp] theorem Chan.onProt_ctl (c : Chan) (f : Prot → Prot) : (c.onProt f).ctl = c.ctl := rfl
@[simp] theorem Chan.onProt_bases (c : Chan) (f : Prot → Prot) : (c.onProt f).bases = c.bases := rfl
@[simp] theorem Chan.onProt_ring (c : Chan) (f : Prot → Prot) : (c.onProt f).ring = c.ring := rfl
@[simp] theorem Chan.onProt_adc (c : Chan) (f : Prot → Prot) : (c.onProt f).adc = c.adc := rfl
@[simp] theorem Chan.onProt_sinc (c : Chan) (f : Prot → Prot) : (c.onProt f).sinc = c.sinc := rfl
@[simp] theorem Chan.onProt_xchk (c : Chan) (f : Prot → Prot) : (c.onProt f).xchk = c.xchk := rfl
@[simp] theorem Chan.onProt_dtc (c : Chan) (f : Prot → Prot) : (c.onProt f).dtc = c.dtc := rfl
@[simp] theorem Chan.onProt_mask (c : Chan) (f : Prot → Prot) : (c.onProt f).mask = c.mask := rfl
@[simp] theorem Chan.onProt_obs (c : Chan) (f : Prot → Prot) : (c.onProt f).obs = c.obs := rfl
@[simp] theorem Chan.onProt_skim (c : Chan) (f : Prot → Prot) : (c.onProt f).skim = c.skim := rfl
@[simp] theorem Chan.onProt_slices (c : Chan) (f : Prot → Prot) : (c.onProt f).slices = c.slices := rfl
@[simp] theorem Chan.onProt_modul (c : Chan) (f : Prot → Prot) : (c.onProt f).modul = c.modul := rfl
@[simp] theorem Chan.onProt_prot (c : Chan) (f : Prot → Prot) : (c.onProt f).prot = f c.prot := rfl
@[simp] theorem Chan.onProt_dust (c : Chan) (f : Prot → Prot) : (c.onProt f).dust = c.dust := rfl
@[simp] theorem Chan.onProt_msio (c : Chan) (f : Prot → Prot) : (c.onProt f).msio = c.msio := rfl
@[simp] theorem Chan.onProt_life (c : Chan) (f : Prot → Prot) : (c.onProt f).life = c.life := rfl

/-! ### Chan.onDust -/

@[simp] theorem Chan.onDust_id (c : Chan) (f : Dust → Dust) : (c.onDust f).id = c.id := rfl
@[simp] theorem Chan.onDust_now (c : Chan) (f : Dust → Dust) : (c.onDust f).now = c.now := rfl
@[simp] theorem Chan.onDust_parked (c : Chan) (f : Dust → Dust) : (c.onDust f).parked = c.parked := rfl
@[simp] theorem Chan.onDust_free (c : Chan) (f : Dust → Dust) : (c.onDust f).free = c.free := rfl
@[simp] theorem Chan.onDust_regs (c : Chan) (f : Dust → Dust) : (c.onDust f).regs = c.regs := rfl
@[simp] theorem Chan.onDust_shadow (c : Chan) (f : Dust → Dust) : (c.onDust f).shadow = c.shadow := rfl
@[simp] theorem Chan.onDust_inv (c : Chan) (f : Dust → Dust) : (c.onDust f).inv = c.inv := rfl
@[simp] theorem Chan.onDust_tcm (c : Chan) (f : Dust → Dust) : (c.onDust f).tcm = c.tcm := rfl
@[simp] theorem Chan.onDust_tb (c : Chan) (f : Dust → Dust) : (c.onDust f).tb = c.tb := rfl
@[simp] theorem Chan.onDust_out (c : Chan) (f : Dust → Dust) : (c.onDust f).out = c.out := rfl
@[simp] theorem Chan.onDust_answers (c : Chan) (f : Dust → Dust) : (c.onDust f).answers = c.answers := rfl
@[simp] theorem Chan.onDust_mail (c : Chan) (f : Dust → Dust) : (c.onDust f).mail = c.mail := rfl
@[simp] theorem Chan.onDust_subs (c : Chan) (f : Dust → Dust) : (c.onDust f).subs = c.subs := rfl
@[simp] theorem Chan.onDust_ctl (c : Chan) (f : Dust → Dust) : (c.onDust f).ctl = c.ctl := rfl
@[simp] theorem Chan.onDust_bases (c : Chan) (f : Dust → Dust) : (c.onDust f).bases = c.bases := rfl
@[simp] theorem Chan.onDust_ring (c : Chan) (f : Dust → Dust) : (c.onDust f).ring = c.ring := rfl
@[simp] theorem Chan.onDust_adc (c : Chan) (f : Dust → Dust) : (c.onDust f).adc = c.adc := rfl
@[simp] theorem Chan.onDust_sinc (c : Chan) (f : Dust → Dust) : (c.onDust f).sinc = c.sinc := rfl
@[simp] theorem Chan.onDust_xchk (c : Chan) (f : Dust → Dust) : (c.onDust f).xchk = c.xchk := rfl
@[simp] theorem Chan.onDust_dtc (c : Chan) (f : Dust → Dust) : (c.onDust f).dtc = c.dtc := rfl
@[simp] theorem Chan.onDust_mask (c : Chan) (f : Dust → Dust) : (c.onDust f).mask = c.mask := rfl
@[simp] theorem Chan.onDust_obs (c : Chan) (f : Dust → Dust) : (c.onDust f).obs = c.obs := rfl
@[simp] theorem Chan.onDust_skim (c : Chan) (f : Dust → Dust) : (c.onDust f).skim = c.skim := rfl
@[simp] theorem Chan.onDust_slices (c : Chan) (f : Dust → Dust) : (c.onDust f).slices = c.slices := rfl
@[simp] theorem Chan.onDust_modul (c : Chan) (f : Dust → Dust) : (c.onDust f).modul = c.modul := rfl
@[simp] theorem Chan.onDust_prot (c : Chan) (f : Dust → Dust) : (c.onDust f).prot = c.prot := rfl
@[simp] theorem Chan.onDust_dust (c : Chan) (f : Dust → Dust) : (c.onDust f).dust = f c.dust := rfl
@[simp] theorem Chan.onDust_msio (c : Chan) (f : Dust → Dust) : (c.onDust f).msio = c.msio := rfl
@[simp] theorem Chan.onDust_life (c : Chan) (f : Dust → Dust) : (c.onDust f).life = c.life := rfl

/-! ### Chan.onMsio -/

@[simp] theorem Chan.onMsio_id (c : Chan) (f : Msio → Msio) : (c.onMsio f).id = c.id := rfl
@[simp] theorem Chan.onMsio_now (c : Chan) (f : Msio → Msio) : (c.onMsio f).now = c.now := rfl
@[simp] theorem Chan.onMsio_parked (c : Chan) (f : Msio → Msio) : (c.onMsio f).parked = c.parked := rfl
@[simp] theorem Chan.onMsio_free (c : Chan) (f : Msio → Msio) : (c.onMsio f).free = c.free := rfl
@[simp] theorem Chan.onMsio_regs (c : Chan) (f : Msio → Msio) : (c.onMsio f).regs = c.regs := rfl
@[simp] theorem Chan.onMsio_shadow (c : Chan) (f : Msio → Msio) : (c.onMsio f).shadow = c.shadow := rfl
@[simp] theorem Chan.onMsio_inv (c : Chan) (f : Msio → Msio) : (c.onMsio f).inv = c.inv := rfl
@[simp] theorem Chan.onMsio_tcm (c : Chan) (f : Msio → Msio) : (c.onMsio f).tcm = c.tcm := rfl
@[simp] theorem Chan.onMsio_tb (c : Chan) (f : Msio → Msio) : (c.onMsio f).tb = c.tb := rfl
@[simp] theorem Chan.onMsio_out (c : Chan) (f : Msio → Msio) : (c.onMsio f).out = c.out := rfl
@[simp] theorem Chan.onMsio_answers (c : Chan) (f : Msio → Msio) : (c.onMsio f).answers = c.answers := rfl
@[simp] theorem Chan.onMsio_mail (c : Chan) (f : Msio → Msio) : (c.onMsio f).mail = c.mail := rfl
@[simp] theorem Chan.onMsio_subs (c : Chan) (f : Msio → Msio) : (c.onMsio f).subs = c.subs := rfl
@[simp] theorem Chan.onMsio_ctl (c : Chan) (f : Msio → Msio) : (c.onMsio f).ctl = c.ctl := rfl
@[simp] theorem Chan.onMsio_bases (c : Chan) (f : Msio → Msio) : (c.onMsio f).bases = c.bases := rfl
@[simp] theorem Chan.onMsio_ring (c : Chan) (f : Msio → Msio) : (c.onMsio f).ring = c.ring := rfl
@[simp] theorem Chan.onMsio_adc (c : Chan) (f : Msio → Msio) : (c.onMsio f).adc = c.adc := rfl
@[simp] theorem Chan.onMsio_sinc (c : Chan) (f : Msio → Msio) : (c.onMsio f).sinc = c.sinc := rfl
@[simp] theorem Chan.onMsio_xchk (c : Chan) (f : Msio → Msio) : (c.onMsio f).xchk = c.xchk := rfl
@[simp] theorem Chan.onMsio_dtc (c : Chan) (f : Msio → Msio) : (c.onMsio f).dtc = c.dtc := rfl
@[simp] theorem Chan.onMsio_mask (c : Chan) (f : Msio → Msio) : (c.onMsio f).mask = c.mask := rfl
@[simp] theorem Chan.onMsio_obs (c : Chan) (f : Msio → Msio) : (c.onMsio f).obs = c.obs := rfl
@[simp] theorem Chan.onMsio_skim (c : Chan) (f : Msio → Msio) : (c.onMsio f).skim = c.skim := rfl
@[simp] theorem Chan.onMsio_slices (c : Chan) (f : Msio → Msio) : (c.onMsio f).slices = c.slices := rfl
@[simp] theorem Chan.onMsio_modul (c : Chan) (f : Msio → Msio) : (c.onMsio f).modul = c.modul := rfl
@[simp] theorem Chan.onMsio_prot (c : Chan) (f : Msio → Msio) : (c.onMsio f).prot = c.prot := rfl
@[simp] theorem Chan.onMsio_dust (c : Chan) (f : Msio → Msio) : (c.onMsio f).dust = c.dust := rfl
@[simp] theorem Chan.onMsio_msio (c : Chan) (f : Msio → Msio) : (c.onMsio f).msio = f c.msio := rfl
@[simp] theorem Chan.onMsio_life (c : Chan) (f : Msio → Msio) : (c.onMsio f).life = c.life := rfl

/-! ### Chan.onLife -/

@[simp] theorem Chan.onLife_id (c : Chan) (f : Life → Life) : (c.onLife f).id = c.id := rfl
@[simp] theorem Chan.onLife_now (c : Chan) (f : Life → Life) : (c.onLife f).now = c.now := rfl
@[simp] theorem Chan.onLife_parked (c : Chan) (f : Life → Life) : (c.onLife f).parked = c.parked := rfl
@[simp] theorem Chan.onLife_free (c : Chan) (f : Life → Life) : (c.onLife f).free = c.free := rfl
@[simp] theorem Chan.onLife_regs (c : Chan) (f : Life → Life) : (c.onLife f).regs = c.regs := rfl
@[simp] theorem Chan.onLife_shadow (c : Chan) (f : Life → Life) : (c.onLife f).shadow = c.shadow := rfl
@[simp] theorem Chan.onLife_inv (c : Chan) (f : Life → Life) : (c.onLife f).inv = c.inv := rfl
@[simp] theorem Chan.onLife_tcm (c : Chan) (f : Life → Life) : (c.onLife f).tcm = c.tcm := rfl
@[simp] theorem Chan.onLife_tb (c : Chan) (f : Life → Life) : (c.onLife f).tb = c.tb := rfl
@[simp] theorem Chan.onLife_out (c : Chan) (f : Life → Life) : (c.onLife f).out = c.out := rfl
@[simp] theorem Chan.onLife_answers (c : Chan) (f : Life → Life) : (c.onLife f).answers = c.answers := rfl
@[simp] theorem Chan.onLife_mail (c : Chan) (f : Life → Life) : (c.onLife f).mail = c.mail := rfl
@[simp] theorem Chan.onLife_subs (c : Chan) (f : Life → Life) : (c.onLife f).subs = c.subs := rfl
@[simp] theorem Chan.onLife_ctl (c : Chan) (f : Life → Life) : (c.onLife f).ctl = c.ctl := rfl
@[simp] theorem Chan.onLife_bases (c : Chan) (f : Life → Life) : (c.onLife f).bases = c.bases := rfl
@[simp] theorem Chan.onLife_ring (c : Chan) (f : Life → Life) : (c.onLife f).ring = c.ring := rfl
@[simp] theorem Chan.onLife_adc (c : Chan) (f : Life → Life) : (c.onLife f).adc = c.adc := rfl
@[simp] theorem Chan.onLife_sinc (c : Chan) (f : Life → Life) : (c.onLife f).sinc = c.sinc := rfl
@[simp] theorem Chan.onLife_xchk (c : Chan) (f : Life → Life) : (c.onLife f).xchk = c.xchk := rfl
@[simp] theorem Chan.onLife_dtc (c : Chan) (f : Life → Life) : (c.onLife f).dtc = c.dtc := rfl
@[simp] theorem Chan.onLife_mask (c : Chan) (f : Life → Life) : (c.onLife f).mask = c.mask := rfl
@[simp] theorem Chan.onLife_obs (c : Chan) (f : Life → Life) : (c.onLife f).obs = c.obs := rfl
@[simp] theorem Chan.onLife_skim (c : Chan) (f : Life → Life) : (c.onLife f).skim = c.skim := rfl
@[simp] theorem Chan.onLife_slices (c : Chan) (f : Life → Life) : (c.onLife f).slices = c.slices := rfl
@[simp] theorem Chan.onLife_modul (c : Chan) (f : Life → Life) : (c.onLife f).modul = c.modul := rfl
@[simp] theorem Chan.onLife_prot (c : Chan) (f : Life → Life) : (c.onLife f).prot = c.prot := rfl
@[simp] theorem Chan.onLife_dust (c : Chan) (f : Life → Life) : (c.onLife f).dust = c.dust := rfl
@[simp] theorem Chan.onLife_msio (c : Chan) (f : Life → Life) : (c.onLife f).msio = c.msio := rfl
@[simp] theorem Chan.onLife_life (c : Chan) (f : Life → Life) : (c.onLife f).life = f c.life := rfl

/-! ### Chan.onDtc -/

@[simp] theorem Chan.onDtc_id (c : Chan) (f : Dtc → Dtc) : (c.onDtc f).id = c.id := rfl
@[simp] theorem Chan.onDtc_now (c : Chan) (f : Dtc → Dtc) : (c.onDtc f).now = c.now := rfl
@[simp] theorem Chan.onDtc_parked (c : Chan) (f : Dtc → Dtc) : (c.onDtc f).parked = c.parked := rfl
@[simp] theorem Chan.onDtc_free (c : Chan) (f : Dtc → Dtc) : (c.onDtc f).free = c.free := rfl
@[simp] theorem Chan.onDtc_regs (c : Chan) (f : Dtc → Dtc) : (c.onDtc f).regs = c.regs := rfl
@[simp] theorem Chan.onDtc_shadow (c : Chan) (f : Dtc → Dtc) : (c.onDtc f).shadow = c.shadow := rfl
@[simp] theorem Chan.onDtc_inv (c : Chan) (f : Dtc → Dtc) : (c.onDtc f).inv = c.inv := rfl
@[simp] theorem Chan.onDtc_tcm (c : Chan) (f : Dtc → Dtc) : (c.onDtc f).tcm = c.tcm := rfl
@[simp] theorem Chan.onDtc_tb (c : Chan) (f : Dtc → Dtc) : (c.onDtc f).tb = c.tb := rfl
@[simp] theorem Chan.onDtc_out (c : Chan) (f : Dtc → Dtc) : (c.onDtc f).out = c.out := rfl
@[simp] theorem Chan.onDtc_answers (c : Chan) (f : Dtc → Dtc) : (c.onDtc f).answers = c.answers := rfl
@[simp] theorem Chan.onDtc_mail (c : Chan) (f : Dtc → Dtc) : (c.onDtc f).mail = c.mail := rfl
@[simp] theorem Chan.onDtc_subs (c : Chan) (f : Dtc → Dtc) : (c.onDtc f).subs = c.subs := rfl
@[simp] theorem Chan.onDtc_ctl (c : Chan) (f : Dtc → Dtc) : (c.onDtc f).ctl = c.ctl := rfl
@[simp] theorem Chan.onDtc_bases (c : Chan) (f : Dtc → Dtc) : (c.onDtc f).bases = c.bases := rfl
@[simp] theorem Chan.onDtc_ring (c : Chan) (f : Dtc → Dtc) : (c.onDtc f).ring = c.ring := rfl
@[simp] theorem Chan.onDtc_adc (c : Chan) (f : Dtc → Dtc) : (c.onDtc f).adc = c.adc := rfl
@[simp] theorem Chan.onDtc_sinc (c : Chan) (f : Dtc → Dtc) : (c.onDtc f).sinc = c.sinc := rfl
@[simp] theorem Chan.onDtc_xchk (c : Chan) (f : Dtc → Dtc) : (c.onDtc f).xchk = c.xchk := rfl
@[simp] theorem Chan.onDtc_dtc (c : Chan) (f : Dtc → Dtc) : (c.onDtc f).dtc = f c.dtc := rfl
@[simp] theorem Chan.onDtc_mask (c : Chan) (f : Dtc → Dtc) : (c.onDtc f).mask = c.mask := rfl
@[simp] theorem Chan.onDtc_obs (c : Chan) (f : Dtc → Dtc) : (c.onDtc f).obs = c.obs := rfl
@[simp] theorem Chan.onDtc_skim (c : Chan) (f : Dtc → Dtc) : (c.onDtc f).skim = c.skim := rfl
@[simp] theorem Chan.onDtc_slices (c : Chan) (f : Dtc → Dtc) : (c.onDtc f).slices = c.slices := rfl
@[simp] theorem Chan.onDtc_modul (c : Chan) (f : Dtc → Dtc) : (c.onDtc f).modul = c.modul := rfl
@[simp] theorem Chan.onDtc_prot (c : Chan) (f : Dtc → Dtc) : (c.onDtc f).prot = c.prot := rfl
@[simp] theorem Chan.onDtc_dust (c : Chan) (f : Dtc → Dtc) : (c.onDtc f).dust = c.dust := rfl
@[simp] theorem Chan.onDtc_msio (c : Chan) (f : Dtc → Dtc) : (c.onDtc f).msio = c.msio := rfl
@[simp] theorem Chan.onDtc_life (c : Chan) (f : Dtc → Dtc) : (c.onDtc f).life = c.life := rfl

/-! ### Chan.onSkim -/

@[simp] theorem Chan.onSkim_id (c : Chan) (f : Skim → Skim) : (c.onSkim f).id = c.id := rfl
@[simp] theorem Chan.onSkim_now (c : Chan) (f : Skim → Skim) : (c.onSkim f).now = c.now := rfl
@[simp] theorem Chan.onSkim_parked (c : Chan) (f : Skim → Skim) : (c.onSkim f).parked = c.parked := rfl
@[simp] theorem Chan.onSkim_free (c : Chan) (f : Skim → Skim) : (c.onSkim f).free = c.free := rfl
@[simp] theorem Chan.onSkim_regs (c : Chan) (f : Skim → Skim) : (c.onSkim f).regs = c.regs := rfl
@[simp] theorem Chan.onSkim_shadow (c : Chan) (f : Skim → Skim) : (c.onSkim f).shadow = c.shadow := rfl
@[simp] theorem Chan.onSkim_inv (c : Chan) (f : Skim → Skim) : (c.onSkim f).inv = c.inv := rfl
@[simp] theorem Chan.onSkim_tcm (c : Chan) (f : Skim → Skim) : (c.onSkim f).tcm = c.tcm := rfl
@[simp] theorem Chan.onSkim_tb (c : Chan) (f : Skim → Skim) : (c.onSkim f).tb = c.tb := rfl
@[simp] theorem Chan.onSkim_out (c : Chan) (f : Skim → Skim) : (c.onSkim f).out = c.out := rfl
@[simp] theorem Chan.onSkim_answers (c : Chan) (f : Skim → Skim) : (c.onSkim f).answers = c.answers := rfl
@[simp] theorem Chan.onSkim_mail (c : Chan) (f : Skim → Skim) : (c.onSkim f).mail = c.mail := rfl
@[simp] theorem Chan.onSkim_subs (c : Chan) (f : Skim → Skim) : (c.onSkim f).subs = c.subs := rfl
@[simp] theorem Chan.onSkim_ctl (c : Chan) (f : Skim → Skim) : (c.onSkim f).ctl = c.ctl := rfl
@[simp] theorem Chan.onSkim_bases (c : Chan) (f : Skim → Skim) : (c.onSkim f).bases = c.bases := rfl
@[simp] theorem Chan.onSkim_ring (c : Chan) (f : Skim → Skim) : (c.onSkim f).ring = c.ring := rfl
@[simp] theorem Chan.onSkim_adc (c : Chan) (f : Skim → Skim) : (c.onSkim f).adc = c.adc := rfl
@[simp] theorem Chan.onSkim_sinc (c : Chan) (f : Skim → Skim) : (c.onSkim f).sinc = c.sinc := rfl
@[simp] theorem Chan.onSkim_xchk (c : Chan) (f : Skim → Skim) : (c.onSkim f).xchk = c.xchk := rfl
@[simp] theorem Chan.onSkim_dtc (c : Chan) (f : Skim → Skim) : (c.onSkim f).dtc = c.dtc := rfl
@[simp] theorem Chan.onSkim_mask (c : Chan) (f : Skim → Skim) : (c.onSkim f).mask = c.mask := rfl
@[simp] theorem Chan.onSkim_obs (c : Chan) (f : Skim → Skim) : (c.onSkim f).obs = c.obs := rfl
@[simp] theorem Chan.onSkim_skim (c : Chan) (f : Skim → Skim) : (c.onSkim f).skim = f c.skim := rfl
@[simp] theorem Chan.onSkim_slices (c : Chan) (f : Skim → Skim) : (c.onSkim f).slices = c.slices := rfl
@[simp] theorem Chan.onSkim_modul (c : Chan) (f : Skim → Skim) : (c.onSkim f).modul = c.modul := rfl
@[simp] theorem Chan.onSkim_prot (c : Chan) (f : Skim → Skim) : (c.onSkim f).prot = c.prot := rfl
@[simp] theorem Chan.onSkim_dust (c : Chan) (f : Skim → Skim) : (c.onSkim f).dust = c.dust := rfl
@[simp] theorem Chan.onSkim_msio (c : Chan) (f : Skim → Skim) : (c.onSkim f).msio = c.msio := rfl
@[simp] theorem Chan.onSkim_life (c : Chan) (f : Skim → Skim) : (c.onSkim f).life = c.life := rfl

/-! ### Chan.onXchk -/

@[simp] theorem Chan.onXchk_id (c : Chan) (f : Xchk → Xchk) : (c.onXchk f).id = c.id := rfl
@[simp] theorem Chan.onXchk_now (c : Chan) (f : Xchk → Xchk) : (c.onXchk f).now = c.now := rfl
@[simp] theorem Chan.onXchk_parked (c : Chan) (f : Xchk → Xchk) : (c.onXchk f).parked = c.parked := rfl
@[simp] theorem Chan.onXchk_free (c : Chan) (f : Xchk → Xchk) : (c.onXchk f).free = c.free := rfl
@[simp] theorem Chan.onXchk_regs (c : Chan) (f : Xchk → Xchk) : (c.onXchk f).regs = c.regs := rfl
@[simp] theorem Chan.onXchk_shadow (c : Chan) (f : Xchk → Xchk) : (c.onXchk f).shadow = c.shadow := rfl
@[simp] theorem Chan.onXchk_inv (c : Chan) (f : Xchk → Xchk) : (c.onXchk f).inv = c.inv := rfl
@[simp] theorem Chan.onXchk_tcm (c : Chan) (f : Xchk → Xchk) : (c.onXchk f).tcm = c.tcm := rfl
@[simp] theorem Chan.onXchk_tb (c : Chan) (f : Xchk → Xchk) : (c.onXchk f).tb = c.tb := rfl
@[simp] theorem Chan.onXchk_out (c : Chan) (f : Xchk → Xchk) : (c.onXchk f).out = c.out := rfl
@[simp] theorem Chan.onXchk_answers (c : Chan) (f : Xchk → Xchk) : (c.onXchk f).answers = c.answers := rfl
@[simp] theorem Chan.onXchk_mail (c : Chan) (f : Xchk → Xchk) : (c.onXchk f).mail = c.mail := rfl
@[simp] theorem Chan.onXchk_subs (c : Chan) (f : Xchk → Xchk) : (c.onXchk f).subs = c.subs := rfl
@[simp] theorem Chan.onXchk_ctl (c : Chan) (f : Xchk → Xchk) : (c.onXchk f).ctl = c.ctl := rfl
@[simp] theorem Chan.onXchk_bases (c : Chan) (f : Xchk → Xchk) : (c.onXchk f).bases = c.bases := rfl
@[simp] theorem Chan.onXchk_ring (c : Chan) (f : Xchk → Xchk) : (c.onXchk f).ring = c.ring := rfl
@[simp] theorem Chan.onXchk_adc (c : Chan) (f : Xchk → Xchk) : (c.onXchk f).adc = c.adc := rfl
@[simp] theorem Chan.onXchk_sinc (c : Chan) (f : Xchk → Xchk) : (c.onXchk f).sinc = c.sinc := rfl
@[simp] theorem Chan.onXchk_xchk (c : Chan) (f : Xchk → Xchk) : (c.onXchk f).xchk = f c.xchk := rfl
@[simp] theorem Chan.onXchk_dtc (c : Chan) (f : Xchk → Xchk) : (c.onXchk f).dtc = c.dtc := rfl
@[simp] theorem Chan.onXchk_mask (c : Chan) (f : Xchk → Xchk) : (c.onXchk f).mask = c.mask := rfl
@[simp] theorem Chan.onXchk_obs (c : Chan) (f : Xchk → Xchk) : (c.onXchk f).obs = c.obs := rfl
@[simp] theorem Chan.onXchk_skim (c : Chan) (f : Xchk → Xchk) : (c.onXchk f).skim = c.skim := rfl
@[simp] theorem Chan.onXchk_slices (c : Chan) (f : Xchk → Xchk) : (c.onXchk f).slices = c.slices := rfl
@[simp] theorem Chan.onXchk_modul (c : Chan) (f : Xchk → Xchk) : (c.onXchk f).modul = c.modul := rfl
@[simp] theorem Chan.onXchk_prot (c : Chan) (f : Xchk → Xchk) : (c.onXchk f).prot = c.prot := rfl
@[simp] theorem Chan.onXchk_dust (c : Chan) (f : Xchk → Xchk) : (c.onXchk f).dust = c.dust := rfl
@[simp] theorem Chan.onXchk_msio (c : Chan) (f : Xchk → Xchk) : (c.onXchk f).msio = c.msio := rfl
@[simp] theorem Chan.onXchk_life (c : Chan) (f : Xchk → Xchk) : (c.onXchk f).life = c.life := rfl

/-! ### Chan.onSinc -/

@[simp] theorem Chan.onSinc_id (c : Chan) (f : Sinc → Sinc) : (c.onSinc f).id = c.id := rfl
@[simp] theorem Chan.onSinc_now (c : Chan) (f : Sinc → Sinc) : (c.onSinc f).now = c.now := rfl
@[simp] theorem Chan.onSinc_parked (c : Chan) (f : Sinc → Sinc) : (c.onSinc f).parked = c.parked := rfl
@[simp] theorem Chan.onSinc_free (c : Chan) (f : Sinc → Sinc) : (c.onSinc f).free = c.free := rfl
@[simp] theorem Chan.onSinc_regs (c : Chan) (f : Sinc → Sinc) : (c.onSinc f).regs = c.regs := rfl
@[simp] theorem Chan.onSinc_shadow (c : Chan) (f : Sinc → Sinc) : (c.onSinc f).shadow = c.shadow := rfl
@[simp] theorem Chan.onSinc_inv (c : Chan) (f : Sinc → Sinc) : (c.onSinc f).inv = c.inv := rfl
@[simp] theorem Chan.onSinc_tcm (c : Chan) (f : Sinc → Sinc) : (c.onSinc f).tcm = c.tcm := rfl
@[simp] theorem Chan.onSinc_tb (c : Chan) (f : Sinc → Sinc) : (c.onSinc f).tb = c.tb := rfl
@[simp] theorem Chan.onSinc_out (c : Chan) (f : Sinc → Sinc) : (c.onSinc f).out = c.out := rfl
@[simp] theorem Chan.onSinc_answers (c : Chan) (f : Sinc → Sinc) : (c.onSinc f).answers = c.answers := rfl
@[simp] theorem Chan.onSinc_mail (c : Chan) (f : Sinc → Sinc) : (c.onSinc f).mail = c.mail := rfl
@[simp] theorem Chan.onSinc_subs (c : Chan) (f : Sinc → Sinc) : (c.onSinc f).subs = c.subs := rfl
@[simp] theorem Chan.onSinc_ctl (c : Chan) (f : Sinc → Sinc) : (c.onSinc f).ctl = c.ctl := rfl
@[simp] theorem Chan.onSinc_bases (c : Chan) (f : Sinc → Sinc) : (c.onSinc f).bases = c.bases := rfl
@[simp] theorem Chan.onSinc_ring (c : Chan) (f : Sinc → Sinc) : (c.onSinc f).ring = c.ring := rfl
@[simp] theorem Chan.onSinc_adc (c : Chan) (f : Sinc → Sinc) : (c.onSinc f).adc = c.adc := rfl
@[simp] theorem Chan.onSinc_sinc (c : Chan) (f : Sinc → Sinc) : (c.onSinc f).sinc = f c.sinc := rfl
@[simp] theorem Chan.onSinc_xchk (c : Chan) (f : Sinc → Sinc) : (c.onSinc f).xchk = c.xchk := rfl
@[simp] theorem Chan.onSinc_dtc (c : Chan) (f : Sinc → Sinc) : (c.onSinc f).dtc = c.dtc := rfl
@[simp] theorem Chan.onSinc_mask (c : Chan) (f : Sinc → Sinc) : (c.onSinc f).mask = c.mask := rfl
@[simp] theorem Chan.onSinc_obs (c : Chan) (f : Sinc → Sinc) : (c.onSinc f).obs = c.obs := rfl
@[simp] theorem Chan.onSinc_skim (c : Chan) (f : Sinc → Sinc) : (c.onSinc f).skim = c.skim := rfl
@[simp] theorem Chan.onSinc_slices (c : Chan) (f : Sinc → Sinc) : (c.onSinc f).slices = c.slices := rfl
@[simp] theorem Chan.onSinc_modul (c : Chan) (f : Sinc → Sinc) : (c.onSinc f).modul = c.modul := rfl
@[simp] theorem Chan.onSinc_prot (c : Chan) (f : Sinc → Sinc) : (c.onSinc f).prot = c.prot := rfl
@[simp] theorem Chan.onSinc_dust (c : Chan) (f : Sinc → Sinc) : (c.onSinc f).dust = c.dust := rfl
@[simp] theorem Chan.onSinc_msio (c : Chan) (f : Sinc → Sinc) : (c.onSinc f).msio = c.msio := rfl
@[simp] theorem Chan.onSinc_life (c : Chan) (f : Sinc → Sinc) : (c.onSinc f).life = c.life := rfl

/-! ### Chan.onObs -/

@[simp] theorem Chan.onObs_id (c : Chan) (f : Obs → Obs) : (c.onObs f).id = c.id := rfl
@[simp] theorem Chan.onObs_now (c : Chan) (f : Obs → Obs) : (c.onObs f).now = c.now := rfl
@[simp] theorem Chan.onObs_parked (c : Chan) (f : Obs → Obs) : (c.onObs f).parked = c.parked := rfl
@[simp] theorem Chan.onObs_free (c : Chan) (f : Obs → Obs) : (c.onObs f).free = c.free := rfl
@[simp] theorem Chan.onObs_regs (c : Chan) (f : Obs → Obs) : (c.onObs f).regs = c.regs := rfl
@[simp] theorem Chan.onObs_shadow (c : Chan) (f : Obs → Obs) : (c.onObs f).shadow = c.shadow := rfl
@[simp] theorem Chan.onObs_inv (c : Chan) (f : Obs → Obs) : (c.onObs f).inv = c.inv := rfl
@[simp] theorem Chan.onObs_tcm (c : Chan) (f : Obs → Obs) : (c.onObs f).tcm = c.tcm := rfl
@[simp] theorem Chan.onObs_tb (c : Chan) (f : Obs → Obs) : (c.onObs f).tb = c.tb := rfl
@[simp] theorem Chan.onObs_out (c : Chan) (f : Obs → Obs) : (c.onObs f).out = c.out := rfl
@[simp] theorem Chan.onObs_answers (c : Chan) (f : Obs → Obs) : (c.onObs f).answers = c.answers := rfl
@[simp] theorem Chan.onObs_mail (c : Chan) (f : Obs → Obs) : (c.onObs f).mail = c.mail := rfl
@[simp] theorem Chan.onObs_subs (c : Chan) (f : Obs → Obs) : (c.onObs f).subs = c.subs := rfl
@[simp] theorem Chan.onObs_ctl (c : Chan) (f : Obs → Obs) : (c.onObs f).ctl = c.ctl := rfl
@[simp] theorem Chan.onObs_bases (c : Chan) (f : Obs → Obs) : (c.onObs f).bases = c.bases := rfl
@[simp] theorem Chan.onObs_ring (c : Chan) (f : Obs → Obs) : (c.onObs f).ring = c.ring := rfl
@[simp] theorem Chan.onObs_adc (c : Chan) (f : Obs → Obs) : (c.onObs f).adc = c.adc := rfl
@[simp] theorem Chan.onObs_sinc (c : Chan) (f : Obs → Obs) : (c.onObs f).sinc = c.sinc := rfl
@[simp] theorem Chan.onObs_xchk (c : Chan) (f : Obs → Obs) : (c.onObs f).xchk = c.xchk := rfl
@[simp] theorem Chan.onObs_dtc (c : Chan) (f : Obs → Obs) : (c.onObs f).dtc = c.dtc := rfl
@[simp] theorem Chan.onObs_mask (c : Chan) (f : Obs → Obs) : (c.onObs f).mask = c.mask := rfl
@[simp] theorem Chan.onObs_obs (c : Chan) (f : Obs → Obs) : (c.onObs f).obs = f c.obs := rfl
@[simp] theorem Chan.onObs_skim (c : Chan) (f : Obs → Obs) : (c.onObs f).skim = c.skim := rfl
@[simp] theorem Chan.onObs_slices (c : Chan) (f : Obs → Obs) : (c.onObs f).slices = c.slices := rfl
@[simp] theorem Chan.onObs_modul (c : Chan) (f : Obs → Obs) : (c.onObs f).modul = c.modul := rfl
@[simp] theorem Chan.onObs_prot (c : Chan) (f : Obs → Obs) : (c.onObs f).prot = c.prot := rfl
@[simp] theorem Chan.onObs_dust (c : Chan) (f : Obs → Obs) : (c.onObs f).dust = c.dust := rfl
@[simp] theorem Chan.onObs_msio (c : Chan) (f : Obs → Obs) : (c.onObs f).msio = c.msio := rfl
@[simp] theorem Chan.onObs_life (c : Chan) (f : Obs → Obs) : (c.onObs f).life = c.life := rfl

/-! ### Chan.onMask -/

@[simp] theorem Chan.onMask_id (c : Chan) (f : Mask → Mask) : (c.onMask f).id = c.id := rfl
@[simp] theorem Chan.onMask_now (c : Chan) (f : Mask → Mask) : (c.onMask f).now = c.now := rfl
@[simp] theorem Chan.onMask_parked (c : Chan) (f : Mask → Mask) : (c.onMask f).parked = c.parked := rfl
@[simp] theorem Chan.onMask_free (c : Chan) (f : Mask → Mask) : (c.onMask f).free = c.free := rfl
@[simp] theorem Chan.onMask_regs (c : Chan) (f : Mask → Mask) : (c.onMask f).regs = c.regs := rfl
@[simp] theorem Chan.onMask_shadow (c : Chan) (f : Mask → Mask) : (c.onMask f).shadow = c.shadow := rfl
@[simp] theorem Chan.onMask_inv (c : Chan) (f : Mask → Mask) : (c.onMask f).inv = c.inv := rfl
@[simp] theorem Chan.onMask_tcm (c : Chan) (f : Mask → Mask) : (c.onMask f).tcm = c.tcm := rfl
@[simp] theorem Chan.onMask_tb (c : Chan) (f : Mask → Mask) : (c.onMask f).tb = c.tb := rfl
@[simp] theorem Chan.onMask_out (c : Chan) (f : Mask → Mask) : (c.onMask f).out = c.out := rfl
@[simp] theorem Chan.onMask_answers (c : Chan) (f : Mask → Mask) : (c.onMask f).answers = c.answers := rfl
@[simp] theorem Chan.onMask_mail (c : Chan) (f : Mask → Mask) : (c.onMask f).mail = c.mail := rfl
@[simp] theorem Chan.onMask_subs (c : Chan) (f : Mask → Mask) : (c.onMask f).subs = c.subs := rfl
@[simp] theorem Chan.onMask_ctl (c : Chan) (f : Mask → Mask) : (c.onMask f).ctl = c.ctl := rfl
@[simp] theorem Chan.onMask_bases (c : Chan) (f : Mask → Mask) : (c.onMask f).bases = c.bases := rfl
@[simp] theorem Chan.onMask_ring (c : Chan) (f : Mask → Mask) : (c.onMask f).ring = c.ring := rfl
@[simp] theorem Chan.onMask_adc (c : Chan) (f : Mask → Mask) : (c.onMask f).adc = c.adc := rfl
@[simp] theorem Chan.onMask_sinc (c : Chan) (f : Mask → Mask) : (c.onMask f).sinc = c.sinc := rfl
@[simp] theorem Chan.onMask_xchk (c : Chan) (f : Mask → Mask) : (c.onMask f).xchk = c.xchk := rfl
@[simp] theorem Chan.onMask_dtc (c : Chan) (f : Mask → Mask) : (c.onMask f).dtc = c.dtc := rfl
@[simp] theorem Chan.onMask_mask (c : Chan) (f : Mask → Mask) : (c.onMask f).mask = f c.mask := rfl
@[simp] theorem Chan.onMask_obs (c : Chan) (f : Mask → Mask) : (c.onMask f).obs = c.obs := rfl
@[simp] theorem Chan.onMask_skim (c : Chan) (f : Mask → Mask) : (c.onMask f).skim = c.skim := rfl
@[simp] theorem Chan.onMask_slices (c : Chan) (f : Mask → Mask) : (c.onMask f).slices = c.slices := rfl
@[simp] theorem Chan.onMask_modul (c : Chan) (f : Mask → Mask) : (c.onMask f).modul = c.modul := rfl
@[simp] theorem Chan.onMask_prot (c : Chan) (f : Mask → Mask) : (c.onMask f).prot = c.prot := rfl
@[simp] theorem Chan.onMask_dust (c : Chan) (f : Mask → Mask) : (c.onMask f).dust = c.dust := rfl
@[simp] theorem Chan.onMask_msio (c : Chan) (f : Mask → Mask) : (c.onMask f).msio = c.msio := rfl
@[simp] theorem Chan.onMask_life (c : Chan) (f : Mask → Mask) : (c.onMask f).life = c.life := rfl

/-! ### Chan.took -/

@[simp] theorem Chan.took_id (c : Chan) (n : Nat) : (c.took n).id = c.id := rfl
@[simp] theorem Chan.took_now (c : Chan) (n : Nat) : (c.took n).now = c.now := rfl
@[simp] theorem Chan.took_parked (c : Chan) (n : Nat) : (c.took n).parked = c.parked := rfl
@[simp] theorem Chan.took_free (c : Chan) (n : Nat) : (c.took n).free = c.free + n := rfl
@[simp] theorem Chan.took_regs (c : Chan) (n : Nat) : (c.took n).regs = c.regs := rfl
@[simp] theorem Chan.took_shadow (c : Chan) (n : Nat) : (c.took n).shadow = c.shadow := rfl
@[simp] theorem Chan.took_inv (c : Chan) (n : Nat) : (c.took n).inv = c.inv := rfl
@[simp] theorem Chan.took_tcm (c : Chan) (n : Nat) : (c.took n).tcm = c.tcm := rfl
@[simp] theorem Chan.took_tb (c : Chan) (n : Nat) : (c.took n).tb = c.tb := rfl
@[simp] theorem Chan.took_out (c : Chan) (n : Nat) : (c.took n).out = c.out := rfl
@[simp] theorem Chan.took_answers (c : Chan) (n : Nat) : (c.took n).answers = c.answers := rfl
@[simp] theorem Chan.took_mail (c : Chan) (n : Nat) : (c.took n).mail = c.mail := rfl
@[simp] theorem Chan.took_subs (c : Chan) (n : Nat) : (c.took n).subs = c.subs := rfl
@[simp] theorem Chan.took_ctl (c : Chan) (n : Nat) : (c.took n).ctl = c.ctl := rfl
@[simp] theorem Chan.took_bases (c : Chan) (n : Nat) : (c.took n).bases = c.bases := rfl
@[simp] theorem Chan.took_ring (c : Chan) (n : Nat) : (c.took n).ring = c.ring := rfl
@[simp] theorem Chan.took_adc (c : Chan) (n : Nat) : (c.took n).adc = c.adc := rfl
@[simp] theorem Chan.took_sinc (c : Chan) (n : Nat) : (c.took n).sinc = c.sinc := rfl
@[simp] theorem Chan.took_xchk (c : Chan) (n : Nat) : (c.took n).xchk = c.xchk := rfl
@[simp] theorem Chan.took_dtc (c : Chan) (n : Nat) : (c.took n).dtc = c.dtc := rfl
@[simp] theorem Chan.took_mask (c : Chan) (n : Nat) : (c.took n).mask = c.mask := rfl
@[simp] theorem Chan.took_obs (c : Chan) (n : Nat) : (c.took n).obs = c.obs := rfl
@[simp] theorem Chan.took_skim (c : Chan) (n : Nat) : (c.took n).skim = c.skim := rfl
@[simp] theorem Chan.took_slices (c : Chan) (n : Nat) : (c.took n).slices = c.slices := rfl
@[simp] theorem Chan.took_modul (c : Chan) (n : Nat) : (c.took n).modul = c.modul := rfl
@[simp] theorem Chan.took_prot (c : Chan) (n : Nat) : (c.took n).prot = c.prot := rfl
@[simp] theorem Chan.took_dust (c : Chan) (n : Nat) : (c.took n).dust = c.dust := rfl
@[simp] theorem Chan.took_msio (c : Chan) (n : Nat) : (c.took n).msio = c.msio := rfl
@[simp] theorem Chan.took_life (c : Chan) (n : Nat) : (c.took n).life = c.life := rfl

/-! ### Chan.emit -/

@[simp] theorem Chan.emit_id (c : Chan) (b : RecBody) : (c.emit b).id = c.id := rfl
@[simp] theorem Chan.emit_now (c : Chan) (b : RecBody) : (c.emit b).now = c.now := rfl
@[simp] theorem Chan.emit_parked (c : Chan) (b : RecBody) : (c.emit b).parked = c.parked := rfl
@[simp] theorem Chan.emit_free (c : Chan) (b : RecBody) : (c.emit b).free = c.free := rfl
@[simp] theorem Chan.emit_regs (c : Chan) (b : RecBody) : (c.emit b).regs = c.regs := rfl
@[simp] theorem Chan.emit_shadow (c : Chan) (b : RecBody) : (c.emit b).shadow = c.shadow := rfl
@[simp] theorem Chan.emit_inv (c : Chan) (b : RecBody) : (c.emit b).inv = c.inv := rfl
@[simp] theorem Chan.emit_tcm (c : Chan) (b : RecBody) : (c.emit b).tcm = c.tcm := rfl
@[simp] theorem Chan.emit_tb (c : Chan) (b : RecBody) : (c.emit b).tb = c.tb := rfl
@[simp] theorem Chan.emit_out (c : Chan) (b : RecBody) : (c.emit b).out = c.out.push c.devTime c.tb.hold b := rfl
@[simp] theorem Chan.emit_answers (c : Chan) (b : RecBody) : (c.emit b).answers = c.answers := rfl
@[simp] theorem Chan.emit_mail (c : Chan) (b : RecBody) : (c.emit b).mail = c.mail := rfl
@[simp] theorem Chan.emit_subs (c : Chan) (b : RecBody) : (c.emit b).subs = c.subs := rfl
@[simp] theorem Chan.emit_ctl (c : Chan) (b : RecBody) : (c.emit b).ctl = c.ctl := rfl
@[simp] theorem Chan.emit_bases (c : Chan) (b : RecBody) : (c.emit b).bases = c.bases := rfl
@[simp] theorem Chan.emit_ring (c : Chan) (b : RecBody) : (c.emit b).ring = c.ring := rfl
@[simp] theorem Chan.emit_adc (c : Chan) (b : RecBody) : (c.emit b).adc = c.adc := rfl
@[simp] theorem Chan.emit_sinc (c : Chan) (b : RecBody) : (c.emit b).sinc = c.sinc := rfl
@[simp] theorem Chan.emit_xchk (c : Chan) (b : RecBody) : (c.emit b).xchk = c.xchk := rfl
@[simp] theorem Chan.emit_dtc (c : Chan) (b : RecBody) : (c.emit b).dtc = c.dtc := rfl
@[simp] theorem Chan.emit_mask (c : Chan) (b : RecBody) : (c.emit b).mask = c.mask := rfl
@[simp] theorem Chan.emit_obs (c : Chan) (b : RecBody) : (c.emit b).obs = c.obs := rfl
@[simp] theorem Chan.emit_skim (c : Chan) (b : RecBody) : (c.emit b).skim = c.skim := rfl
@[simp] theorem Chan.emit_slices (c : Chan) (b : RecBody) : (c.emit b).slices = c.slices := rfl
@[simp] theorem Chan.emit_modul (c : Chan) (b : RecBody) : (c.emit b).modul = c.modul := rfl
@[simp] theorem Chan.emit_prot (c : Chan) (b : RecBody) : (c.emit b).prot = c.prot := rfl
@[simp] theorem Chan.emit_dust (c : Chan) (b : RecBody) : (c.emit b).dust = c.dust := rfl
@[simp] theorem Chan.emit_msio (c : Chan) (b : RecBody) : (c.emit b).msio = c.msio := rfl
@[simp] theorem Chan.emit_life (c : Chan) (b : RecBody) : (c.emit b).life = c.life := rfl

/-! ### Chan.onSl -/

@[simp] theorem Chan.onSl_id (c : Chan) (s : Nat) (f : SliceSt → SliceSt) : (c.onSl s f).id = c.id := rfl
@[simp] theorem Chan.onSl_now (c : Chan) (s : Nat) (f : SliceSt → SliceSt) : (c.onSl s f).now = c.now := rfl
@[simp] theorem Chan.onSl_parked (c : Chan) (s : Nat) (f : SliceSt → SliceSt) : (c.onSl s f).parked = c.parked := rfl
@[simp] theorem Chan.onSl_free (c : Chan) (s : Nat) (f : SliceSt → SliceSt) : (c.onSl s f).free = c.free := rfl
@[simp] theorem Chan.onSl_regs (c : Chan) (s : Nat) (f : SliceSt → SliceSt) : (c.onSl s f).regs = c.regs := rfl
@[simp] theorem Chan.onSl_shadow (c : Chan) (s : Nat) (f : SliceSt → SliceSt) : (c.onSl s f).shadow = c.shadow := rfl
@[simp] theorem Chan.onSl_inv (c : Chan) (s : Nat) (f : SliceSt → SliceSt) : (c.onSl s f).inv = c.inv := rfl
@[simp] theorem Chan.onSl_tcm (c : Chan) (s : Nat) (f : SliceSt → SliceSt) : (c.onSl s f).tcm = c.tcm := rfl
@[simp] theorem Chan.onSl_tb (c : Chan) (s : Nat) (f : SliceSt → SliceSt) : (c.onSl s f).tb = c.tb := rfl
@[simp] theorem Chan.onSl_out (c : Chan) (s : Nat) (f : SliceSt → SliceSt) : (c.onSl s f).out = c.out := rfl
@[simp] theorem Chan.onSl_answers (c : Chan) (s : Nat) (f : SliceSt → SliceSt) : (c.onSl s f).answers = c.answers := rfl
@[simp] theorem Chan.onSl_mail (c : Chan) (s : Nat) (f : SliceSt → SliceSt) : (c.onSl s f).mail = c.mail := rfl
@[simp] theorem Chan.onSl_subs (c : Chan) (s : Nat) (f : SliceSt → SliceSt) : (c.onSl s f).subs = c.subs := rfl
@[simp] theorem Chan.onSl_ctl (c : Chan) (s : Nat) (f : SliceSt → SliceSt) : (c.onSl s f).ctl = c.ctl := rfl
@[simp] theorem Chan.onSl_bases (c : Chan) (s : Nat) (f : SliceSt → SliceSt) : (c.onSl s f).bases = c.bases := rfl
@[simp] theorem Chan.onSl_ring (c : Chan) (s : Nat) (f : SliceSt → SliceSt) : (c.onSl s f).ring = c.ring := rfl
@[simp] theorem Chan.onSl_adc (c : Chan) (s : Nat) (f : SliceSt → SliceSt) : (c.onSl s f).adc = c.adc := rfl
@[simp] theorem Chan.onSl_sinc (c : Chan) (s : Nat) (f : SliceSt → SliceSt) : (c.onSl s f).sinc = c.sinc := rfl
@[simp] theorem Chan.onSl_xchk (c : Chan) (s : Nat) (f : SliceSt → SliceSt) : (c.onSl s f).xchk = c.xchk := rfl
@[simp] theorem Chan.onSl_dtc (c : Chan) (s : Nat) (f : SliceSt → SliceSt) : (c.onSl s f).dtc = c.dtc := rfl
@[simp] theorem Chan.onSl_mask (c : Chan) (s : Nat) (f : SliceSt → SliceSt) : (c.onSl s f).mask = c.mask := rfl
@[simp] theorem Chan.onSl_obs (c : Chan) (s : Nat) (f : SliceSt → SliceSt) : (c.onSl s f).obs = c.obs := rfl
@[simp] theorem Chan.onSl_skim (c : Chan) (s : Nat) (f : SliceSt → SliceSt) : (c.onSl s f).skim = c.skim := rfl
@[simp] theorem Chan.onSl_slices (c : Chan) (s : Nat) (f : SliceSt → SliceSt) : (c.onSl s f).slices = c.slices.set s (f (c.sl s)) := rfl
@[simp] theorem Chan.onSl_modul (c : Chan) (s : Nat) (f : SliceSt → SliceSt) : (c.onSl s f).modul = c.modul := rfl
@[simp] theorem Chan.onSl_prot (c : Chan) (s : Nat) (f : SliceSt → SliceSt) : (c.onSl s f).prot = c.prot := rfl
@[simp] theorem Chan.onSl_dust (c : Chan) (s : Nat) (f : SliceSt → SliceSt) : (c.onSl s f).dust = c.dust := rfl
@[simp] theorem Chan.onSl_msio (c : Chan) (s : Nat) (f : SliceSt → SliceSt) : (c.onSl s f).msio = c.msio := rfl
@[simp] theorem Chan.onSl_life (c : Chan) (s : Nat) (f : SliceSt → SliceSt) : (c.onSl s f).life = c.life := rfl

/-! ### Dev.wr -/

@[simp] theorem Dev.wr_now (d : Dev) (a v : Nat) : (d.wr a v).now = d.now := rfl
@[simp] theorem Dev.wr_regs (d : Dev) (a v : Nat) : (d.wr a v).regs = RegMap.set d.regs (devReset a) a v := rfl
@[simp] theorem Dev.wr_free (d : Dev) (a v : Nat) : (d.wr a v).free = d.free := rfl
@[simp] theorem Dev.wr_off (d : Dev) (a v : Nat) : (d.wr a v).off = d.off := rfl
@[simp] theorem Dev.wr_lastTime (d : Dev) (a v : Nat) : (d.wr a v).lastTime = d.lastTime := rfl
@[simp] theorem Dev.wr_seqs (d : Dev) (a v : Nat) : (d.wr a v).seqs = d.seqs := rfl
@[simp] theorem Dev.wr_recs (d : Dev) (a v : Nat) : (d.wr a v).recs = d.recs := rfl
@[simp] theorem Dev.wr_pwr (d : Dev) (a v : Nat) : (d.wr a v).pwr = d.pwr := rfl
@[simp] theorem Dev.wr_bist (d : Dev) (a v : Nat) : (d.wr a v).bist = d.bist := rfl
@[simp] theorem Dev.wr_hq (d : Dev) (a v : Nat) : (d.wr a v).hq = d.hq := rfl
@[simp] theorem Dev.wr_eth (d : Dev) (a v : Nat) : (d.wr a v).eth = d.eth := rfl
@[simp] theorem Dev.wr_colmo (d : Dev) (a v : Nat) : (d.wr a v).colmo = d.colmo := rfl
@[simp] theorem Dev.wr_can (d : Dev) (a v : Nat) : (d.wr a v).can = d.can := rfl
@[simp] theorem Dev.wr_iso (d : Dev) (a v : Nat) : (d.wr a v).iso = d.iso := rfl
@[simp] theorem Dev.wr_arch (d : Dev) (a v : Nat) : (d.wr a v).arch = d.arch := rfl
@[simp] theorem Dev.wr_otp (d : Dev) (a v : Nat) : (d.wr a v).otp = d.otp := rfl
@[simp] theorem Dev.wr_lc (d : Dev) (a v : Nat) : (d.wr a v).lc = d.lc := rfl
@[simp] theorem Dev.wr_base (d : Dev) (a v : Nat) : (d.wr a v).base = d.base := rfl
@[simp] theorem Dev.wr_baseAt (d : Dev) (a v : Nat) : (d.wr a v).baseAt = d.baseAt := rfl

/-! ### Dev.p -/

@[simp] theorem Dev.p_now (d : Dev) (f : Fld) (v : Nat) : (d.p f v).now = d.now := rfl
@[simp] theorem Dev.p_regs (d : Dev) (f : Fld) (v : Nat) : (d.p f v).regs = RegMap.set d.regs (devReset f.reg) f.reg (putBits (d.rd f.reg) f.hi f.lo v) := rfl
@[simp] theorem Dev.p_free (d : Dev) (f : Fld) (v : Nat) : (d.p f v).free = d.free := rfl
@[simp] theorem Dev.p_off (d : Dev) (f : Fld) (v : Nat) : (d.p f v).off = d.off := rfl
@[simp] theorem Dev.p_lastTime (d : Dev) (f : Fld) (v : Nat) : (d.p f v).lastTime = d.lastTime := rfl
@[simp] theorem Dev.p_seqs (d : Dev) (f : Fld) (v : Nat) : (d.p f v).seqs = d.seqs := rfl
@[simp] theorem Dev.p_recs (d : Dev) (f : Fld) (v : Nat) : (d.p f v).recs = d.recs := rfl
@[simp] theorem Dev.p_pwr (d : Dev) (f : Fld) (v : Nat) : (d.p f v).pwr = d.pwr := rfl
@[simp] theorem Dev.p_bist (d : Dev) (f : Fld) (v : Nat) : (d.p f v).bist = d.bist := rfl
@[simp] theorem Dev.p_hq (d : Dev) (f : Fld) (v : Nat) : (d.p f v).hq = d.hq := rfl
@[simp] theorem Dev.p_eth (d : Dev) (f : Fld) (v : Nat) : (d.p f v).eth = d.eth := rfl
@[simp] theorem Dev.p_colmo (d : Dev) (f : Fld) (v : Nat) : (d.p f v).colmo = d.colmo := rfl
@[simp] theorem Dev.p_can (d : Dev) (f : Fld) (v : Nat) : (d.p f v).can = d.can := rfl
@[simp] theorem Dev.p_iso (d : Dev) (f : Fld) (v : Nat) : (d.p f v).iso = d.iso := rfl
@[simp] theorem Dev.p_arch (d : Dev) (f : Fld) (v : Nat) : (d.p f v).arch = d.arch := rfl
@[simp] theorem Dev.p_otp (d : Dev) (f : Fld) (v : Nat) : (d.p f v).otp = d.otp := rfl
@[simp] theorem Dev.p_lc (d : Dev) (f : Fld) (v : Nat) : (d.p f v).lc = d.lc := rfl
@[simp] theorem Dev.p_base (d : Dev) (f : Fld) (v : Nat) : (d.p f v).base = d.base := rfl
@[simp] theorem Dev.p_baseAt (d : Dev) (f : Fld) (v : Nat) : (d.p f v).baseAt = d.baseAt := rfl

/-! ### Dev.onPwr -/

@[simp] theorem Dev.onPwr_now (d : Dev) (f : Pwr → Pwr) : (d.onPwr f).now = d.now := rfl
@[simp] theorem Dev.onPwr_regs (d : Dev) (f : Pwr → Pwr) : (d.onPwr f).regs = d.regs := rfl
@[simp] theorem Dev.onPwr_free (d : Dev) (f : Pwr → Pwr) : (d.onPwr f).free = d.free := rfl
@[simp] theorem Dev.onPwr_off (d : Dev) (f : Pwr → Pwr) : (d.onPwr f).off = d.off := rfl
@[simp] theorem Dev.onPwr_lastTime (d : Dev) (f : Pwr → Pwr) : (d.onPwr f).lastTime = d.lastTime := rfl
@[simp] theorem Dev.onPwr_seqs (d : Dev) (f : Pwr → Pwr) : (d.onPwr f).seqs = d.seqs := rfl
@[simp] theorem Dev.onPwr_recs (d : Dev) (f : Pwr → Pwr) : (d.onPwr f).recs = d.recs := rfl
@[simp] theorem Dev.onPwr_pwr (d : Dev) (f : Pwr → Pwr) : (d.onPwr f).pwr = f d.pwr := rfl
@[simp] theorem Dev.onPwr_bist (d : Dev) (f : Pwr → Pwr) : (d.onPwr f).bist = d.bist := rfl
@[simp] theorem Dev.onPwr_hq (d : Dev) (f : Pwr → Pwr) : (d.onPwr f).hq = d.hq := rfl
@[simp] theorem Dev.onPwr_eth (d : Dev) (f : Pwr → Pwr) : (d.onPwr f).eth = d.eth := rfl
@[simp] theorem Dev.onPwr_colmo (d : Dev) (f : Pwr → Pwr) : (d.onPwr f).colmo = d.colmo := rfl
@[simp] theorem Dev.onPwr_can (d : Dev) (f : Pwr → Pwr) : (d.onPwr f).can = d.can := rfl
@[simp] theorem Dev.onPwr_iso (d : Dev) (f : Pwr → Pwr) : (d.onPwr f).iso = d.iso := rfl
@[simp] theorem Dev.onPwr_arch (d : Dev) (f : Pwr → Pwr) : (d.onPwr f).arch = d.arch := rfl
@[simp] theorem Dev.onPwr_otp (d : Dev) (f : Pwr → Pwr) : (d.onPwr f).otp = d.otp := rfl
@[simp] theorem Dev.onPwr_lc (d : Dev) (f : Pwr → Pwr) : (d.onPwr f).lc = d.lc := rfl
@[simp] theorem Dev.onPwr_base (d : Dev) (f : Pwr → Pwr) : (d.onPwr f).base = d.base := rfl
@[simp] theorem Dev.onPwr_baseAt (d : Dev) (f : Pwr → Pwr) : (d.onPwr f).baseAt = d.baseAt := rfl

/-! ### Dev.onBist -/

@[simp] theorem Dev.onBist_now (d : Dev) (f : Bist → Bist) : (d.onBist f).now = d.now := rfl
@[simp] theorem Dev.onBist_regs (d : Dev) (f : Bist → Bist) : (d.onBist f).regs = d.regs := rfl
@[simp] theorem Dev.onBist_free (d : Dev) (f : Bist → Bist) : (d.onBist f).free = d.free := rfl
@[simp] theorem Dev.onBist_off (d : Dev) (f : Bist → Bist) : (d.onBist f).off = d.off := rfl
@[simp] theorem Dev.onBist_lastTime (d : Dev) (f : Bist → Bist) : (d.onBist f).lastTime = d.lastTime := rfl
@[simp] theorem Dev.onBist_seqs (d : Dev) (f : Bist → Bist) : (d.onBist f).seqs = d.seqs := rfl
@[simp] theorem Dev.onBist_recs (d : Dev) (f : Bist → Bist) : (d.onBist f).recs = d.recs := rfl
@[simp] theorem Dev.onBist_pwr (d : Dev) (f : Bist → Bist) : (d.onBist f).pwr = d.pwr := rfl
@[simp] theorem Dev.onBist_bist (d : Dev) (f : Bist → Bist) : (d.onBist f).bist = f d.bist := rfl
@[simp] theorem Dev.onBist_hq (d : Dev) (f : Bist → Bist) : (d.onBist f).hq = d.hq := rfl
@[simp] theorem Dev.onBist_eth (d : Dev) (f : Bist → Bist) : (d.onBist f).eth = d.eth := rfl
@[simp] theorem Dev.onBist_colmo (d : Dev) (f : Bist → Bist) : (d.onBist f).colmo = d.colmo := rfl
@[simp] theorem Dev.onBist_can (d : Dev) (f : Bist → Bist) : (d.onBist f).can = d.can := rfl
@[simp] theorem Dev.onBist_iso (d : Dev) (f : Bist → Bist) : (d.onBist f).iso = d.iso := rfl
@[simp] theorem Dev.onBist_arch (d : Dev) (f : Bist → Bist) : (d.onBist f).arch = d.arch := rfl
@[simp] theorem Dev.onBist_otp (d : Dev) (f : Bist → Bist) : (d.onBist f).otp = d.otp := rfl
@[simp] theorem Dev.onBist_lc (d : Dev) (f : Bist → Bist) : (d.onBist f).lc = d.lc := rfl
@[simp] theorem Dev.onBist_base (d : Dev) (f : Bist → Bist) : (d.onBist f).base = d.base := rfl
@[simp] theorem Dev.onBist_baseAt (d : Dev) (f : Bist → Bist) : (d.onBist f).baseAt = d.baseAt := rfl

/-! ### Dev.onHq -/

@[simp] theorem Dev.onHq_now (d : Dev) (f : Hostq → Hostq) : (d.onHq f).now = d.now := rfl
@[simp] theorem Dev.onHq_regs (d : Dev) (f : Hostq → Hostq) : (d.onHq f).regs = d.regs := rfl
@[simp] theorem Dev.onHq_free (d : Dev) (f : Hostq → Hostq) : (d.onHq f).free = d.free := rfl
@[simp] theorem Dev.onHq_off (d : Dev) (f : Hostq → Hostq) : (d.onHq f).off = d.off := rfl
@[simp] theorem Dev.onHq_lastTime (d : Dev) (f : Hostq → Hostq) : (d.onHq f).lastTime = d.lastTime := rfl
@[simp] theorem Dev.onHq_seqs (d : Dev) (f : Hostq → Hostq) : (d.onHq f).seqs = d.seqs := rfl
@[simp] theorem Dev.onHq_recs (d : Dev) (f : Hostq → Hostq) : (d.onHq f).recs = d.recs := rfl
@[simp] theorem Dev.onHq_pwr (d : Dev) (f : Hostq → Hostq) : (d.onHq f).pwr = d.pwr := rfl
@[simp] theorem Dev.onHq_bist (d : Dev) (f : Hostq → Hostq) : (d.onHq f).bist = d.bist := rfl
@[simp] theorem Dev.onHq_hq (d : Dev) (f : Hostq → Hostq) : (d.onHq f).hq = f d.hq := rfl
@[simp] theorem Dev.onHq_eth (d : Dev) (f : Hostq → Hostq) : (d.onHq f).eth = d.eth := rfl
@[simp] theorem Dev.onHq_colmo (d : Dev) (f : Hostq → Hostq) : (d.onHq f).colmo = d.colmo := rfl
@[simp] theorem Dev.onHq_can (d : Dev) (f : Hostq → Hostq) : (d.onHq f).can = d.can := rfl
@[simp] theorem Dev.onHq_iso (d : Dev) (f : Hostq → Hostq) : (d.onHq f).iso = d.iso := rfl
@[simp] theorem Dev.onHq_arch (d : Dev) (f : Hostq → Hostq) : (d.onHq f).arch = d.arch := rfl
@[simp] theorem Dev.onHq_otp (d : Dev) (f : Hostq → Hostq) : (d.onHq f).otp = d.otp := rfl
@[simp] theorem Dev.onHq_lc (d : Dev) (f : Hostq → Hostq) : (d.onHq f).lc = d.lc := rfl
@[simp] theorem Dev.onHq_base (d : Dev) (f : Hostq → Hostq) : (d.onHq f).base = d.base := rfl
@[simp] theorem Dev.onHq_baseAt (d : Dev) (f : Hostq → Hostq) : (d.onHq f).baseAt = d.baseAt := rfl

/-! ### Dev.onColmo -/

@[simp] theorem Dev.onColmo_now (d : Dev) (f : Colmo → Colmo) : (d.onColmo f).now = d.now := rfl
@[simp] theorem Dev.onColmo_regs (d : Dev) (f : Colmo → Colmo) : (d.onColmo f).regs = d.regs := rfl
@[simp] theorem Dev.onColmo_free (d : Dev) (f : Colmo → Colmo) : (d.onColmo f).free = d.free := rfl
@[simp] theorem Dev.onColmo_off (d : Dev) (f : Colmo → Colmo) : (d.onColmo f).off = d.off := rfl
@[simp] theorem Dev.onColmo_lastTime (d : Dev) (f : Colmo → Colmo) : (d.onColmo f).lastTime = d.lastTime := rfl
@[simp] theorem Dev.onColmo_seqs (d : Dev) (f : Colmo → Colmo) : (d.onColmo f).seqs = d.seqs := rfl
@[simp] theorem Dev.onColmo_recs (d : Dev) (f : Colmo → Colmo) : (d.onColmo f).recs = d.recs := rfl
@[simp] theorem Dev.onColmo_pwr (d : Dev) (f : Colmo → Colmo) : (d.onColmo f).pwr = d.pwr := rfl
@[simp] theorem Dev.onColmo_bist (d : Dev) (f : Colmo → Colmo) : (d.onColmo f).bist = d.bist := rfl
@[simp] theorem Dev.onColmo_hq (d : Dev) (f : Colmo → Colmo) : (d.onColmo f).hq = d.hq := rfl
@[simp] theorem Dev.onColmo_eth (d : Dev) (f : Colmo → Colmo) : (d.onColmo f).eth = d.eth := rfl
@[simp] theorem Dev.onColmo_colmo (d : Dev) (f : Colmo → Colmo) : (d.onColmo f).colmo = f d.colmo := rfl
@[simp] theorem Dev.onColmo_can (d : Dev) (f : Colmo → Colmo) : (d.onColmo f).can = d.can := rfl
@[simp] theorem Dev.onColmo_iso (d : Dev) (f : Colmo → Colmo) : (d.onColmo f).iso = d.iso := rfl
@[simp] theorem Dev.onColmo_arch (d : Dev) (f : Colmo → Colmo) : (d.onColmo f).arch = d.arch := rfl
@[simp] theorem Dev.onColmo_otp (d : Dev) (f : Colmo → Colmo) : (d.onColmo f).otp = d.otp := rfl
@[simp] theorem Dev.onColmo_lc (d : Dev) (f : Colmo → Colmo) : (d.onColmo f).lc = d.lc := rfl
@[simp] theorem Dev.onColmo_base (d : Dev) (f : Colmo → Colmo) : (d.onColmo f).base = d.base := rfl
@[simp] theorem Dev.onColmo_baseAt (d : Dev) (f : Colmo → Colmo) : (d.onColmo f).baseAt = d.baseAt := rfl

/-! ### Dev.onArch -/

@[simp] theorem Dev.onArch_now (d : Dev) (f : Arch → Arch) : (d.onArch f).now = d.now := rfl
@[simp] theorem Dev.onArch_regs (d : Dev) (f : Arch → Arch) : (d.onArch f).regs = d.regs := rfl
@[simp] theorem Dev.onArch_free (d : Dev) (f : Arch → Arch) : (d.onArch f).free = d.free := rfl
@[simp] theorem Dev.onArch_off (d : Dev) (f : Arch → Arch) : (d.onArch f).off = d.off := rfl
@[simp] theorem Dev.onArch_lastTime (d : Dev) (f : Arch → Arch) : (d.onArch f).lastTime = d.lastTime := rfl
@[simp] theorem Dev.onArch_seqs (d : Dev) (f : Arch → Arch) : (d.onArch f).seqs = d.seqs := rfl
@[simp] theorem Dev.onArch_recs (d : Dev) (f : Arch → Arch) : (d.onArch f).recs = d.recs := rfl
@[simp] theorem Dev.onArch_pwr (d : Dev) (f : Arch → Arch) : (d.onArch f).pwr = d.pwr := rfl
@[simp] theorem Dev.onArch_bist (d : Dev) (f : Arch → Arch) : (d.onArch f).bist = d.bist := rfl
@[simp] theorem Dev.onArch_hq (d : Dev) (f : Arch → Arch) : (d.onArch f).hq = d.hq := rfl
@[simp] theorem Dev.onArch_eth (d : Dev) (f : Arch → Arch) : (d.onArch f).eth = d.eth := rfl
@[simp] theorem Dev.onArch_colmo (d : Dev) (f : Arch → Arch) : (d.onArch f).colmo = d.colmo := rfl
@[simp] theorem Dev.onArch_can (d : Dev) (f : Arch → Arch) : (d.onArch f).can = d.can := rfl
@[simp] theorem Dev.onArch_iso (d : Dev) (f : Arch → Arch) : (d.onArch f).iso = d.iso := rfl
@[simp] theorem Dev.onArch_arch (d : Dev) (f : Arch → Arch) : (d.onArch f).arch = f d.arch := rfl
@[simp] theorem Dev.onArch_otp (d : Dev) (f : Arch → Arch) : (d.onArch f).otp = d.otp := rfl
@[simp] theorem Dev.onArch_lc (d : Dev) (f : Arch → Arch) : (d.onArch f).lc = d.lc := rfl
@[simp] theorem Dev.onArch_base (d : Dev) (f : Arch → Arch) : (d.onArch f).base = d.base := rfl
@[simp] theorem Dev.onArch_baseAt (d : Dev) (f : Arch → Arch) : (d.onArch f).baseAt = d.baseAt := rfl

/-! ### Dev.onOtp -/

@[simp] theorem Dev.onOtp_now (d : Dev) (f : Otp → Otp) : (d.onOtp f).now = d.now := rfl
@[simp] theorem Dev.onOtp_regs (d : Dev) (f : Otp → Otp) : (d.onOtp f).regs = d.regs := rfl
@[simp] theorem Dev.onOtp_free (d : Dev) (f : Otp → Otp) : (d.onOtp f).free = d.free := rfl
@[simp] theorem Dev.onOtp_off (d : Dev) (f : Otp → Otp) : (d.onOtp f).off = d.off := rfl
@[simp] theorem Dev.onOtp_lastTime (d : Dev) (f : Otp → Otp) : (d.onOtp f).lastTime = d.lastTime := rfl
@[simp] theorem Dev.onOtp_seqs (d : Dev) (f : Otp → Otp) : (d.onOtp f).seqs = d.seqs := rfl
@[simp] theorem Dev.onOtp_recs (d : Dev) (f : Otp → Otp) : (d.onOtp f).recs = d.recs := rfl
@[simp] theorem Dev.onOtp_pwr (d : Dev) (f : Otp → Otp) : (d.onOtp f).pwr = d.pwr := rfl
@[simp] theorem Dev.onOtp_bist (d : Dev) (f : Otp → Otp) : (d.onOtp f).bist = d.bist := rfl
@[simp] theorem Dev.onOtp_hq (d : Dev) (f : Otp → Otp) : (d.onOtp f).hq = d.hq := rfl
@[simp] theorem Dev.onOtp_eth (d : Dev) (f : Otp → Otp) : (d.onOtp f).eth = d.eth := rfl
@[simp] theorem Dev.onOtp_colmo (d : Dev) (f : Otp → Otp) : (d.onOtp f).colmo = d.colmo := rfl
@[simp] theorem Dev.onOtp_can (d : Dev) (f : Otp → Otp) : (d.onOtp f).can = d.can := rfl
@[simp] theorem Dev.onOtp_iso (d : Dev) (f : Otp → Otp) : (d.onOtp f).iso = d.iso := rfl
@[simp] theorem Dev.onOtp_arch (d : Dev) (f : Otp → Otp) : (d.onOtp f).arch = d.arch := rfl
@[simp] theorem Dev.onOtp_otp (d : Dev) (f : Otp → Otp) : (d.onOtp f).otp = f d.otp := rfl
@[simp] theorem Dev.onOtp_lc (d : Dev) (f : Otp → Otp) : (d.onOtp f).lc = d.lc := rfl
@[simp] theorem Dev.onOtp_base (d : Dev) (f : Otp → Otp) : (d.onOtp f).base = d.base := rfl
@[simp] theorem Dev.onOtp_baseAt (d : Dev) (f : Otp → Otp) : (d.onOtp f).baseAt = d.baseAt := rfl

/-! ### Dev.onIso -/

@[simp] theorem Dev.onIso_now (d : Dev) (f : Iso → Iso) : (d.onIso f).now = d.now := rfl
@[simp] theorem Dev.onIso_regs (d : Dev) (f : Iso → Iso) : (d.onIso f).regs = d.regs := rfl
@[simp] theorem Dev.onIso_free (d : Dev) (f : Iso → Iso) : (d.onIso f).free = d.free := rfl
@[simp] theorem Dev.onIso_off (d : Dev) (f : Iso → Iso) : (d.onIso f).off = d.off := rfl
@[simp] theorem Dev.onIso_lastTime (d : Dev) (f : Iso → Iso) : (d.onIso f).lastTime = d.lastTime := rfl
@[simp] theorem Dev.onIso_seqs (d : Dev) (f : Iso → Iso) : (d.onIso f).seqs = d.seqs := rfl
@[simp] theorem Dev.onIso_recs (d : Dev) (f : Iso → Iso) : (d.onIso f).recs = d.recs := rfl
@[simp] theorem Dev.onIso_pwr (d : Dev) (f : Iso → Iso) : (d.onIso f).pwr = d.pwr := rfl
@[simp] theorem Dev.onIso_bist (d : Dev) (f : Iso → Iso) : (d.onIso f).bist = d.bist := rfl
@[simp] theorem Dev.onIso_hq (d : Dev) (f : Iso → Iso) : (d.onIso f).hq = d.hq := rfl
@[simp] theorem Dev.onIso_eth (d : Dev) (f : Iso → Iso) : (d.onIso f).eth = d.eth := rfl
@[simp] theorem Dev.onIso_colmo (d : Dev) (f : Iso → Iso) : (d.onIso f).colmo = d.colmo := rfl
@[simp] theorem Dev.onIso_can (d : Dev) (f : Iso → Iso) : (d.onIso f).can = d.can := rfl
@[simp] theorem Dev.onIso_iso (d : Dev) (f : Iso → Iso) : (d.onIso f).iso = f d.iso := rfl
@[simp] theorem Dev.onIso_arch (d : Dev) (f : Iso → Iso) : (d.onIso f).arch = d.arch := rfl
@[simp] theorem Dev.onIso_otp (d : Dev) (f : Iso → Iso) : (d.onIso f).otp = d.otp := rfl
@[simp] theorem Dev.onIso_lc (d : Dev) (f : Iso → Iso) : (d.onIso f).lc = d.lc := rfl
@[simp] theorem Dev.onIso_base (d : Dev) (f : Iso → Iso) : (d.onIso f).base = d.base := rfl
@[simp] theorem Dev.onIso_baseAt (d : Dev) (f : Iso → Iso) : (d.onIso f).baseAt = d.baseAt := rfl

/-! ### Dev.took -/

@[simp] theorem Dev.took_now (d : Dev) (n : Nat) : (d.took n).now = d.now := rfl
@[simp] theorem Dev.took_regs (d : Dev) (n : Nat) : (d.took n).regs = d.regs := rfl
@[simp] theorem Dev.took_free (d : Dev) (n : Nat) : (d.took n).free = d.free + n := rfl
@[simp] theorem Dev.took_off (d : Dev) (n : Nat) : (d.took n).off = d.off := rfl
@[simp] theorem Dev.took_lastTime (d : Dev) (n : Nat) : (d.took n).lastTime = d.lastTime := rfl
@[simp] theorem Dev.took_seqs (d : Dev) (n : Nat) : (d.took n).seqs = d.seqs := rfl
@[simp] theorem Dev.took_recs (d : Dev) (n : Nat) : (d.took n).recs = d.recs := rfl
@[simp] theorem Dev.took_pwr (d : Dev) (n : Nat) : (d.took n).pwr = d.pwr := rfl
@[simp] theorem Dev.took_bist (d : Dev) (n : Nat) : (d.took n).bist = d.bist := rfl
@[simp] theorem Dev.took_hq (d : Dev) (n : Nat) : (d.took n).hq = d.hq := rfl
@[simp] theorem Dev.took_eth (d : Dev) (n : Nat) : (d.took n).eth = d.eth := rfl
@[simp] theorem Dev.took_colmo (d : Dev) (n : Nat) : (d.took n).colmo = d.colmo := rfl
@[simp] theorem Dev.took_can (d : Dev) (n : Nat) : (d.took n).can = d.can := rfl
@[simp] theorem Dev.took_iso (d : Dev) (n : Nat) : (d.took n).iso = d.iso := rfl
@[simp] theorem Dev.took_arch (d : Dev) (n : Nat) : (d.took n).arch = d.arch := rfl
@[simp] theorem Dev.took_otp (d : Dev) (n : Nat) : (d.took n).otp = d.otp := rfl
@[simp] theorem Dev.took_lc (d : Dev) (n : Nat) : (d.took n).lc = d.lc := rfl
@[simp] theorem Dev.took_base (d : Dev) (n : Nat) : (d.took n).base = d.base := rfl
@[simp] theorem Dev.took_baseAt (d : Dev) (n : Nat) : (d.took n).baseAt = d.baseAt := rfl

/-! ### Dev.takeSeq -/

@[simp] theorem Dev.takeSeq_now (d : Dev) (k : Nat) : (d.takeSeq k).now = d.now := rfl
@[simp] theorem Dev.takeSeq_regs (d : Dev) (k : Nat) : (d.takeSeq k).regs = d.regs := rfl
@[simp] theorem Dev.takeSeq_free (d : Dev) (k : Nat) : (d.takeSeq k).free = d.free := rfl
@[simp] theorem Dev.takeSeq_off (d : Dev) (k : Nat) : (d.takeSeq k).off = d.off := rfl
@[simp] theorem Dev.takeSeq_lastTime (d : Dev) (k : Nat) : (d.takeSeq k).lastTime = d.time := rfl
@[simp] theorem Dev.takeSeq_seqs (d : Dev) (k : Nat) : (d.takeSeq k).seqs = bump d.seqs k (fun n => (n + 1) % 2 ^ 32) := rfl
@[simp] theorem Dev.takeSeq_recs (d : Dev) (k : Nat) : (d.takeSeq k).recs = d.recs := rfl
@[simp] theorem Dev.takeSeq_pwr (d : Dev) (k : Nat) : (d.takeSeq k).pwr = d.pwr := rfl
@[simp] theorem Dev.takeSeq_bist (d : Dev) (k : Nat) : (d.takeSeq k).bist = d.bist := rfl
@[simp] theorem Dev.takeSeq_hq (d : Dev) (k : Nat) : (d.takeSeq k).hq = d.hq := rfl
@[simp] theorem Dev.takeSeq_eth (d : Dev) (k : Nat) : (d.takeSeq k).eth = d.eth := rfl
@[simp] theorem Dev.takeSeq_colmo (d : Dev) (k : Nat) : (d.takeSeq k).colmo = d.colmo := rfl
@[simp] theorem Dev.takeSeq_can (d : Dev) (k : Nat) : (d.takeSeq k).can = d.can := rfl
@[simp] theorem Dev.takeSeq_iso (d : Dev) (k : Nat) : (d.takeSeq k).iso = d.iso := rfl
@[simp] theorem Dev.takeSeq_arch (d : Dev) (k : Nat) : (d.takeSeq k).arch = d.arch := rfl
@[simp] theorem Dev.takeSeq_otp (d : Dev) (k : Nat) : (d.takeSeq k).otp = d.otp := rfl
@[simp] theorem Dev.takeSeq_lc (d : Dev) (k : Nat) : (d.takeSeq k).lc = d.lc := rfl
@[simp] theorem Dev.takeSeq_base (d : Dev) (k : Nat) : (d.takeSeq k).base = d.base := rfl
@[simp] theorem Dev.takeSeq_baseAt (d : Dev) (k : Nat) : (d.takeSeq k).baseAt = d.baseAt := rfl

/-! ### Dev.recordAt -/

@[simp] theorem Dev.recordAt_now (d : Dev) (k t : Nat) (b : RecBody) : (d.recordAt k t b).now = d.now := rfl
@[simp] theorem Dev.recordAt_regs (d : Dev) (k t : Nat) (b : RecBody) : (d.recordAt k t b).regs = d.regs := rfl
@[simp] theorem Dev.recordAt_free (d : Dev) (k t : Nat) (b : RecBody) : (d.recordAt k t b).free = d.free := rfl
@[simp] theorem Dev.recordAt_off (d : Dev) (k t : Nat) (b : RecBody) : (d.recordAt k t b).off = d.off := rfl
@[simp] theorem Dev.recordAt_lastTime (d : Dev) (k t : Nat) (b : RecBody) : (d.recordAt k t b).lastTime = d.time := rfl
@[simp] theorem Dev.recordAt_seqs (d : Dev) (k t : Nat) (b : RecBody) : (d.recordAt k t b).seqs = bump d.seqs k (fun n => (n + 1) % 2 ^ 32) := rfl
@[simp] theorem Dev.recordAt_recs (d : Dev) (k t : Nat) (b : RecBody) : (d.recordAt k t b).recs = d.recs ++ [⟨k, ⟨d.seqOf k, t, false, b⟩⟩] := rfl
@[simp] theorem Dev.recordAt_pwr (d : Dev) (k t : Nat) (b : RecBody) : (d.recordAt k t b).pwr = d.pwr := rfl
@[simp] theorem Dev.recordAt_bist (d : Dev) (k t : Nat) (b : RecBody) : (d.recordAt k t b).bist = d.bist := rfl
@[simp] theorem Dev.recordAt_hq (d : Dev) (k t : Nat) (b : RecBody) : (d.recordAt k t b).hq = d.hq := rfl
@[simp] theorem Dev.recordAt_eth (d : Dev) (k t : Nat) (b : RecBody) : (d.recordAt k t b).eth = d.eth := rfl
@[simp] theorem Dev.recordAt_colmo (d : Dev) (k t : Nat) (b : RecBody) : (d.recordAt k t b).colmo = d.colmo := rfl
@[simp] theorem Dev.recordAt_can (d : Dev) (k t : Nat) (b : RecBody) : (d.recordAt k t b).can = d.can := rfl
@[simp] theorem Dev.recordAt_iso (d : Dev) (k t : Nat) (b : RecBody) : (d.recordAt k t b).iso = d.iso := rfl
@[simp] theorem Dev.recordAt_arch (d : Dev) (k t : Nat) (b : RecBody) : (d.recordAt k t b).arch = d.arch := rfl
@[simp] theorem Dev.recordAt_otp (d : Dev) (k t : Nat) (b : RecBody) : (d.recordAt k t b).otp = d.otp := rfl
@[simp] theorem Dev.recordAt_lc (d : Dev) (k t : Nat) (b : RecBody) : (d.recordAt k t b).lc = d.lc := rfl
@[simp] theorem Dev.recordAt_base (d : Dev) (k t : Nat) (b : RecBody) : (d.recordAt k t b).base = d.base := rfl
@[simp] theorem Dev.recordAt_baseAt (d : Dev) (k t : Nat) (b : RecBody) : (d.recordAt k t b).baseAt = d.baseAt := rfl

/-! ### Mach.onDev -/

@[simp] theorem Mach.onDev_now (m : Mach) (f : Dev → Dev) : (m.onDev f).now = m.now := rfl
@[simp] theorem Mach.onDev_holds (m : Mach) (f : Dev → Dev) : (m.onDev f).holds = m.holds := rfl
@[simp] theorem Mach.onDev_rdata (m : Mach) (f : Dev → Dev) : (m.onDev f).rdata = m.rdata := rfl
@[simp] theorem Mach.onDev_smcMem (m : Mach) (f : Dev → Dev) : (m.onDev f).smcMem = m.smcMem := rfl
@[simp] theorem Mach.onDev_dev (m : Mach) (f : Dev → Dev) : (m.onDev f).dev = f m.dev := rfl
@[simp] theorem Mach.onDev_a (m : Mach) (f : Dev → Dev) : (m.onDev f).a = m.a := rfl
@[simp] theorem Mach.onDev_b (m : Mach) (f : Dev → Dev) : (m.onDev f).b = m.b := rfl

/-! ### Mach.advance -/

@[simp] theorem Mach.advance_now (m : Mach) (t : Tick) : (m.advance t).now = max m.now t := rfl
@[simp] theorem Mach.advance_holds (m : Mach) (t : Tick) : (m.advance t).holds = m.holds := rfl
@[simp] theorem Mach.advance_rdata (m : Mach) (t : Tick) : (m.advance t).rdata = m.rdata := rfl
@[simp] theorem Mach.advance_smcMem (m : Mach) (t : Tick) : (m.advance t).smcMem = m.smcMem := rfl
@[simp] theorem Mach.advance_dev (m : Mach) (t : Tick) : (m.advance t).dev = m.dev := rfl
@[simp] theorem Mach.advance_a (m : Mach) (t : Tick) : (m.advance t).a = m.a := rfl
@[simp] theorem Mach.advance_b (m : Mach) (t : Tick) : (m.advance t).b = m.b := rfl

end Sys2Proof.Machine
end

