-- ==== Sys2Proof/Laws/Chan.lean ====
section
/-! SUPPORT. Laws/Chan.lean: registers and fields of a channel and of the device level after a write, and after the updates that write none. -/

set_option Elab.async false

namespace Sys2Proof

/-- A field that lies in a word of 32 bits. -/
def Fld.ok (f : Fld) : Bool := Nat.ble f.lo f.hi && Nat.blt f.hi 32

/-- Two fields that share no bit. -/
def Fld.apart (f k : Fld) : Bool := f.reg != k.reg || Nat.blt f.hi k.lo || Nat.blt k.hi f.lo

theorem Fld.ok_le {f : Fld} (h : f.ok = true) : f.lo ≤ f.hi ∧ f.hi < 32 := by
  simpa [Fld.ok, Nat.ble_eq, Nat.blt_eq] using h

/-! ### Bits of a number -/

theorem bit_false_form (n i : Nat) (h : n.testBit i = false) : n = 2 ^ (i + 1) * (n / 2 ^ (i + 1)) + n % 2 ^ i := by
  have h1 : n % 2 ^ (i + 1) = n % 2 ^ i := by
    apply Nat.eq_of_testBit_eq
    intro j
    rw [Nat.testBit_mod_two_pow, Nat.testBit_mod_two_pow]
    rcases Nat.lt_trichotomy j i with hj | rfl | hj
    · simp [hj, Nat.lt_succ_of_lt hj]
    · simp [h]
    · simp [Nat.not_lt_of_gt hj, show ¬ j < i + 1 by omega]
  rw [← h1]
  exact (Nat.div_add_mod n (2 ^ (i + 1))).symm

theorem testBit_add_pow (n i j : Nat) (h : n.testBit i = false) : (n + 2 ^ i).testBit j = (n.testBit j || decide (j = i)) := by
  have e := bit_false_form n i h
  have hr : n % 2 ^ i < 2 ^ i := Nat.mod_lt _ (by positivity)
  generalize n / 2 ^ (i + 1) = q at e
  generalize n % 2 ^ i = r at e hr
  have h2 : r + 2 ^ i < 2 ^ (i + 1) := by rw [Nat.pow_succ]; omega
  have h3 : r < 2 ^ (i + 1) := by omega
  have e2 : n + 2 ^ i = 2 ^ (i + 1) * q + (r + 2 ^ i) := by omega
  rw [e2, e, Nat.testBit_two_pow_mul_add _ h2, Nat.testBit_two_pow_mul_add _ h3]
  by_cases hj : j < i + 1
  · rw [if_pos hj, if_pos hj]
    rcases Nat.lt_or_eq_of_le (Nat.lt_succ_iff.1 hj) with hl | rfl
    · rw [Nat.add_comm, Nat.testBit_two_pow_add_gt hl]
      simp [Nat.ne_of_lt hl]
    · rw [Nat.add_comm, Nat.testBit_two_pow_add_eq, Nat.testBit_lt_two_pow hr]
      simp
  · rw [if_neg hj, if_neg hj]
    have : j ≠ i := by omega
    simp [this]

theorem testBit_sub_pow (n i j : Nat) (h : n.testBit i = true) : (n - 2 ^ i).testBit j = (n.testBit j && !decide (j = i)) := by
  have hle : 2 ^ i ≤ n := Nat.ge_two_pow_of_testBit h
  have hf : (n - 2 ^ i).testBit i = false := by
    have e := Nat.testBit_two_pow_add_eq (n - 2 ^ i) i
    rw [Nat.add_sub_cancel' hle, h] at e
    simpa using e.symm
  have e := testBit_add_pow _ _ j hf
  rw [Nat.sub_add_cancel hle] at e
  rw [e]
  by_cases hj : j = i
  · subst hj; simp [hf]
  · simp [hj]

/-- Every bit of a number with one bit set to a value. -/
theorem testBit_setBit (n i j : Nat) (v : Bool) : (setBit n i v).testBit j = if j = i then v else n.testBit j := by
  unfold setBit
  by_cases h1 : n.testBit i = v
  · rw [if_pos h1]
    split_ifs with h2
    · rw [h2]; exact h1
    · rfl
  · rw [if_neg h1]
    cases v with
    | true =>
      rw [if_pos rfl, testBit_add_pow _ _ _ (by simpa using h1)]
      by_cases hj : j = i <;> simp [hj]
    | false =>
      rw [if_neg (by simp), testBit_sub_pow _ _ _ (by simpa using h1)]
      by_cases hj : j = i <;> simp [hj]

end Sys2Proof

namespace Sys2Proof.Machine

/-! ### Channel registers -/

theorem Chan.rd_wr_same (c : Chan) (a v : Nat) : (c.wr a v).rd a = v % 2 ^ 32 := get_set_same _ _ _ _
theorem Chan.rd_wr_other (c : Chan) (a v b : Nat) (h : b ≠ a) : (c.wr a v).rd b = c.rd b := get_set_other _ _ _ _ _ _ h
theorem Chan.rds_wrs_same (c : Chan) (a v : Nat) : (c.wrs a v).rds a = v % 2 ^ 32 := get_set_same _ _ _ _
theorem Chan.rds_wrs_other (c : Chan) (a v b : Nat) (h : b ≠ a) : (c.wrs a v).rds b = c.rds b := get_set_other _ _ _ _ _ _ h
@[simp] theorem Chan.rds_wr (c : Chan) (a v b : Nat) : (c.wr a v).rds b = c.rds b := rfl
@[simp] theorem Chan.rd_wrs (c : Chan) (a v b : Nat) : (c.wrs a v).rd b = c.rd b := rfl
theorem Chan.rd_p_other (c : Chan) (f : Fld) (v b : Nat) (h : b ≠ f.reg) : (c.p f v).rd b = c.rd b := Chan.rd_wr_other _ _ _ _ h
theorem Chan.rd_p_same (c : Chan) (f : Fld) (v : Nat) : (c.p f v).rd f.reg = putBits (c.rd f.reg) f.hi f.lo v % 2 ^ 32 := Chan.rd_wr_same _ _ _
@[simp] theorem Chan.rds_p (c : Chan) (f : Fld) (v b : Nat) : (c.p f v).rds b = c.rds b := rfl

/-- A field reads what was written into it. -/
theorem Chan.g_p_same (c : Chan) (f : Fld) (v : Nat) (h : f.ok = true) : (c.p f v).g f = v % 2 ^ (f.hi + 1 - f.lo) := by
  rw [Chan.g, Chan.rd_p_same, bitsOf_mod _ _ _ (Fld.ok_le h).2, bitsOf_putBits]

/-- A write of a field leaves every field that shares no bit with it. -/
theorem Chan.g_p_other (c : Chan) (f k : Fld) (v : Nat) (hf : f.ok = true) (hk : k.ok = true) (h : f.apart k = true) : (c.p f v).g k = c.g k := by
  by_cases e : k.reg = f.reg
  · have h' : f.hi < k.lo ∨ k.hi < f.lo := by
      simpa [Fld.apart, e.symm, Nat.blt_eq] using h
    rw [Chan.g, e, Chan.rd_p_same, bitsOf_mod _ _ _ (Fld.ok_le hk).2, Chan.g, e]
    rcases h' with h' | h'
    · exact bitsOf_putBits_high _ _ _ _ _ _ (Fld.ok_le hf).1 h'
    · exact bitsOf_putBits_low _ _ _ _ _ _ h'
  · rw [Chan.g, Chan.rd_p_other _ _ _ _ e, Chan.g]

theorem Chan.g_p_reg (c : Chan) (f k : Fld) (v : Nat) (h : k.reg ≠ f.reg) : (c.p f v).g k = c.g k := by
  rw [Chan.g, Chan.rd_p_other _ _ _ _ h, Chan.g]
theorem Chan.g_wr_reg (c : Chan) (a : Nat) (k : Fld) (v : Nat) (h : k.reg ≠ a) : (c.wr a v).g k = c.g k := by
  rw [Chan.g, Chan.rd_wr_other _ _ _ _ h, Chan.g]
theorem Chan.g_wr_same (c : Chan) (k : Fld) (v : Nat) (h : k.ok = true) : (c.wr k.reg v).g k = bitsOf v k.hi k.lo := by
  rw [Chan.g, Chan.rd_wr_same, bitsOf_mod _ _ _ (Fld.ok_le h).2]
/-- A flag set reads 1. -/
theorem Chan.b_p_one (c : Chan) (f : Fld) (h : f.ok = true) : (c.p f 1).b f = true := by
  have h1 := Fld.ok_le h
  rw [Chan.b, Chan.g_p_same _ _ _ h, Nat.mod_eq_of_lt]
  · rfl
  · exact Nat.one_lt_two_pow (by omega)
/-- A flag cleared reads 0. -/
theorem Chan.b_p_zero (c : Chan) (f : Fld) (h : f.ok = true) : (c.p f 0).b f = false := by
  rw [Chan.b, Chan.g_p_same _ _ _ h, Nat.zero_mod]; rfl
theorem Chan.b_p_other (c : Chan) (f k : Fld) (v : Nat) (hf : f.ok = true) (hk : k.ok = true) (h : f.apart k = true) : (c.p f v).b k = c.b k := by
  rw [Chan.b, Chan.g_p_other _ _ _ _ hf hk h, Chan.b]

/-! ### Updates of a channel that write no register -/

@[simp] theorem Chan.rd_onCtl (c : Chan) (f : Ctl → Ctl) (a : Nat) : (c.onCtl f).rd a = c.rd a := rfl
@[simp] theorem Chan.rd_onMod (c : Chan) (f : Modul → Modul) (a : Nat) : (c.onMod f).rd a = c.rd a := rfl
@[simp] theorem Chan.rd_onProt (c : Chan) (f : Prot → Prot) (a : Nat) : (c.onProt f).rd a = c.rd a := rfl
@[simp] theorem Chan.rd_onDust (c : Chan) (f : Dust → Dust) (a : Nat) : (c.onDust f).rd a = c.rd a := rfl
@[simp] theorem Chan.rd_onMsio (c : Chan) (f : Msio → Msio) (a : Nat) : (c.onMsio f).rd a = c.rd a := rfl
@[simp] theorem Chan.rd_onLife (c : Chan) (f : Life → Life) (a : Nat) : (c.onLife f).rd a = c.rd a := rfl
@[simp] theorem Chan.rd_onDtc (c : Chan) (f : Dtc → Dtc) (a : Nat) : (c.onDtc f).rd a = c.rd a := rfl
@[simp] theorem Chan.rd_onSl (c : Chan) (s : Nat) (f : SliceSt → SliceSt) (a : Nat) : (c.onSl s f).rd a = c.rd a := rfl
@[simp] theorem Chan.rd_took (c : Chan) (n a : Nat) : (c.took n).rd a = c.rd a := rfl
@[simp] theorem Chan.rd_emit (c : Chan) (body : RecBody) (a : Nat) : (c.emit body).rd a = c.rd a := rfl
@[simp] theorem Chan.rd_evt (c : Chan) (type block bit sev d0 d1 a : Nat) : (c.evt type block bit sev d0 d1).rd a = c.rd a := rfl
@[simp] theorem Chan.rd_answer (c : Chan) (op : ChOp) (status : Nat) (words : List Nat) (a : Nat) : (c.answer op status words).rd a = c.rd a := rfl
@[simp] theorem Chan.rd_now (c : Chan) (t a : Nat) : ({ c with now := t } : Chan).rd a = c.rd a := rfl

@[simp] theorem Chan.g_onCtl (c : Chan) (f : Ctl → Ctl) (k : Fld) : (c.onCtl f).g k = c.g k := rfl
@[simp] theorem Chan.g_onMod (c : Chan) (f : Modul → Modul) (k : Fld) : (c.onMod f).g k = c.g k := rfl
@[simp] theorem Chan.g_onProt (c : Chan) (f : Prot → Prot) (k : Fld) : (c.onProt f).g k = c.g k := rfl
@[simp] theorem Chan.g_onDust (c : Chan) (f : Dust → Dust) (k : Fld) : (c.onDust f).g k = c.g k := rfl
@[simp] theorem Chan.g_onMsio (c : Chan) (f : Msio → Msio) (k : Fld) : (c.onMsio f).g k = c.g k := rfl
@[simp] theorem Chan.g_onLife (c : Chan) (f : Life → Life) (k : Fld) : (c.onLife f).g k = c.g k := rfl
@[simp] theorem Chan.g_onDtc (c : Chan) (f : Dtc → Dtc) (k : Fld) : (c.onDtc f).g k = c.g k := rfl
@[simp] theorem Chan.g_onSl (c : Chan) (s : Nat) (f : SliceSt → SliceSt) (k : Fld) : (c.onSl s f).g k = c.g k := rfl
@[simp] theorem Chan.g_took (c : Chan) (n : Nat) (k : Fld) : (c.took n).g k = c.g k := rfl
@[simp] theorem Chan.g_emit (c : Chan) (body : RecBody) (k : Fld) : (c.emit body).g k = c.g k := rfl
@[simp] theorem Chan.g_evt (c : Chan) (type block bit sev d0 d1 : Nat) (k : Fld) : (c.evt type block bit sev d0 d1).g k = c.g k := rfl
@[simp] theorem Chan.g_answer (c : Chan) (op : ChOp) (status : Nat) (words : List Nat) (k : Fld) : (c.answer op status words).g k = c.g k := rfl
@[simp] theorem Chan.g_now (c : Chan) (t : Nat) (k : Fld) : ({ c with now := t } : Chan).g k = c.g k := rfl
@[simp] theorem Chan.b_now (c : Chan) (t : Nat) (k : Fld) : ({ c with now := t } : Chan).b k = c.b k := rfl
@[simp] theorem Chan.state_now (c : Chan) (t : Nat) : ({ c with now := t } : Chan).state = c.state := rfl
@[simp] theorem Chan.gi_now (c : Chan) (t : Nat) (k : Fld) : ({ c with now := t } : Chan).gi k = c.gi k := rfl
@[simp] theorem Chan.gb_now (c : Chan) (t : Nat) (k : Fld) (i : Nat) : ({ c with now := t } : Chan).gb k i = c.gb k i := rfl

/-! ### Device registers -/

theorem Dev.rd_wr_same (d : Dev) (a v : Nat) : (d.wr a v).rd a = v % 2 ^ 32 := get_set_same _ _ _ _
theorem Dev.rd_wr_other (d : Dev) (a v b : Nat) (h : b ≠ a) : (d.wr a v).rd b = d.rd b := get_set_other _ _ _ _ _ _ h
theorem Dev.rd_p_other (d : Dev) (f : Fld) (v b : Nat) (h : b ≠ f.reg) : (d.p f v).rd b = d.rd b := Dev.rd_wr_other _ _ _ _ h
theorem Dev.rd_p_same (d : Dev) (f : Fld) (v : Nat) : (d.p f v).rd f.reg = putBits (d.rd f.reg) f.hi f.lo v % 2 ^ 32 := Dev.rd_wr_same _ _ _

/-- A field reads what was written into it. -/
theorem Dev.g_p_same (d : Dev) (f : Fld) (v : Nat) (h : f.ok = true) : (d.p f v).g f = v % 2 ^ (f.hi + 1 - f.lo) := by
  rw [Dev.g, Dev.rd_p_same, bitsOf_mod _ _ _ (Fld.ok_le h).2, bitsOf_putBits]

/-- A write of a field leaves every field that shares no bit with it. -/
theorem Dev.g_p_other (d : Dev) (f k : Fld) (v : Nat) (hf : f.ok = true) (hk : k.ok = true) (h : f.apart k = true) : (d.p f v).g k = d.g k := by
  by_cases e : k.reg = f.reg
  · have h' : f.hi < k.lo ∨ k.hi < f.lo := by
      simpa [Fld.apart, e.symm, Nat.blt_eq] using h
    rw [Dev.g, e, Dev.rd_p_same, bitsOf_mod _ _ _ (Fld.ok_le hk).2, Dev.g, e]
    rcases h' with h' | h'
    · exact bitsOf_putBits_high _ _ _ _ _ _ (Fld.ok_le hf).1 h'
    · exact bitsOf_putBits_low _ _ _ _ _ _ h'
  · rw [Dev.g, Dev.rd_p_other _ _ _ _ e, Dev.g]

theorem Dev.g_p_reg (d : Dev) (f k : Fld) (v : Nat) (h : k.reg ≠ f.reg) : (d.p f v).g k = d.g k := by
  rw [Dev.g, Dev.rd_p_other _ _ _ _ h, Dev.g]
theorem Dev.g_wr_reg (d : Dev) (a : Nat) (k : Fld) (v : Nat) (h : k.reg ≠ a) : (d.wr a v).g k = d.g k := by
  rw [Dev.g, Dev.rd_wr_other _ _ _ _ h, Dev.g]
theorem Dev.b_p_one (d : Dev) (f : Fld) (h : f.ok = true) : (d.p f 1).b f = true := by
  have h1 := Fld.ok_le h
  rw [Dev.b, Dev.g_p_same _ _ _ h, Nat.mod_eq_of_lt]
  · rfl
  · exact Nat.one_lt_two_pow (by omega)
theorem Dev.b_p_zero (d : Dev) (f : Fld) (h : f.ok = true) : (d.p f 0).b f = false := by
  rw [Dev.b, Dev.g_p_same _ _ _ h, Nat.zero_mod]; rfl
theorem Dev.b_p_other (d : Dev) (f k : Fld) (v : Nat) (hf : f.ok = true) (hk : k.ok = true) (h : f.apart k = true) : (d.p f v).b k = d.b k := by
  rw [Dev.b, Dev.g_p_other _ _ _ _ hf hk h, Dev.b]

@[simp] theorem Dev.rd_onPwr (d : Dev) (f : Pwr → Pwr) (a : Nat) : (d.onPwr f).rd a = d.rd a := rfl
@[simp] theorem Dev.rd_onBist (d : Dev) (f : Bist → Bist) (a : Nat) : (d.onBist f).rd a = d.rd a := rfl
@[simp] theorem Dev.rd_onHq (d : Dev) (f : Hostq → Hostq) (a : Nat) : (d.onHq f).rd a = d.rd a := rfl
@[simp] theorem Dev.rd_onLink (d : Dev) (f : Link → Link) (a : Nat) : (d.onLink f).rd a = d.rd a := rfl
@[simp] theorem Dev.rd_onColmo (d : Dev) (f : Colmo → Colmo) (a : Nat) : (d.onColmo f).rd a = d.rd a := rfl
@[simp] theorem Dev.rd_onArch (d : Dev) (f : Arch → Arch) (a : Nat) : (d.onArch f).rd a = d.rd a := rfl
@[simp] theorem Dev.rd_onOtp (d : Dev) (f : Otp → Otp) (a : Nat) : (d.onOtp f).rd a = d.rd a := rfl
@[simp] theorem Dev.rd_onIso (d : Dev) (f : Iso → Iso) (a : Nat) : (d.onIso f).rd a = d.rd a := rfl
@[simp] theorem Dev.rd_took (d : Dev) (n a : Nat) : (d.took n).rd a = d.rd a := rfl
@[simp] theorem Dev.rd_takeSeq (d : Dev) (n a : Nat) : (d.takeSeq n).rd a = d.rd a := rfl
@[simp] theorem Dev.rd_record (d : Dev) (n : Nat) (body : RecBody) (a : Nat) : (d.record n body).rd a = d.rd a := rfl
@[simp] theorem Dev.rd_now (d : Dev) (t a : Nat) : ({ d with now := t } : Dev).rd a = d.rd a := rfl
@[simp] theorem Dev.g_onPwr (d : Dev) (f : Pwr → Pwr) (k : Fld) : (d.onPwr f).g k = d.g k := rfl
@[simp] theorem Dev.g_onBist (d : Dev) (f : Bist → Bist) (k : Fld) : (d.onBist f).g k = d.g k := rfl
@[simp] theorem Dev.g_onHq (d : Dev) (f : Hostq → Hostq) (k : Fld) : (d.onHq f).g k = d.g k := rfl
@[simp] theorem Dev.g_onLink (d : Dev) (f : Link → Link) (k : Fld) : (d.onLink f).g k = d.g k := rfl
@[simp] theorem Dev.g_onColmo (d : Dev) (f : Colmo → Colmo) (k : Fld) : (d.onColmo f).g k = d.g k := rfl
@[simp] theorem Dev.g_onArch (d : Dev) (f : Arch → Arch) (k : Fld) : (d.onArch f).g k = d.g k := rfl
@[simp] theorem Dev.g_onOtp (d : Dev) (f : Otp → Otp) (k : Fld) : (d.onOtp f).g k = d.g k := rfl
@[simp] theorem Dev.g_onIso (d : Dev) (f : Iso → Iso) (k : Fld) : (d.onIso f).g k = d.g k := rfl
@[simp] theorem Dev.g_took (d : Dev) (n : Nat) (k : Fld) : (d.took n).g k = d.g k := rfl
@[simp] theorem Dev.g_now (d : Dev) (t : Nat) (k : Fld) : ({ d with now := t } : Dev).g k = d.g k := rfl
@[simp] theorem Dev.b_now (d : Dev) (t : Nat) (k : Fld) : ({ d with now := t } : Dev).b k = d.b k := rfl
@[simp] theorem Dev.alive_now (d : Dev) (t : Nat) : ({ d with now := t } : Dev).alive = d.alive := rfl
@[simp] theorem Dev.up_now (d : Dev) (t : Nat) : ({ d with now := t } : Dev).up = d.up := rfl

end Sys2Proof.Machine
end

