-- ==== Sys2Proof/Laws/GoodBase.lean ====
section
/-! SUPPORT. Laws/GoodBase.lean: the canonical form of the register files, and the operations that write them. -/

set_option Elab.async false

namespace Sys2Proof.Machine
open Sys2Proof

/-- A channel of a given name whose register files and memory are in canonical form. -/
def Chan.Good (k : Ch) (c : Chan) : Prop :=
  c.id = k ∧ RegMap.wf chanReset c.regs = true ∧ RegMap.wf chanReset c.shadow = true ∧ RegMap.wf (fun _ => 0) c.inv = true
    ∧ RegMap.wf (fun _ => 0) c.tcm = true

/-- A device level whose register file is in canonical form. -/
def Dev.Good (d : Dev) : Prop := RegMap.wf devReset d.regs = true

/-- A machine whose register files and memories are in canonical form and whose channels bear their names. -/
def Mach.Good (m : Mach) : Prop := m.a.Good .a ∧ m.b.Good .b ∧ m.dev.Good ∧ RegMap.wf (fun _ => 0) m.smcMem = true

theorem good_mk {k : Ch} {c : Chan} {x_now : Tick} {x_parked : Bool} {x_free : Nat} {x_tb : TimeBase} {x_out : RecOut} {x_answers : List OpDone} {x_mail : List Part} {x_subs : List Subscr} {x_ctl : Ctl} {x_bases : Bases} {x_ring : Ring} {x_adc : Adc} {x_sinc : Sinc} {x_xchk : Xchk} {x_dtc : Dtc} {x_mask : Mask} {x_obs : Obs} {x_skim : Skim} {x_slices : List SliceSt} {x_modul : Modul} {x_prot : Prot} {x_dust : Dust} {x_msio : Msio} {x_life : Life} (h : c.Good k) : (Chan.mk c.id x_now x_parked x_free c.regs c.shadow c.inv c.tcm x_tb x_out x_answers x_mail x_subs x_ctl x_bases x_ring x_adc x_sinc x_xchk x_dtc x_mask x_obs x_skim x_slices x_modul x_prot x_dust x_msio x_life).Good k := h
theorem goodD_mk {c : Dev} {x_now : Tick} {x_free : Nat} {x_off : Int} {x_lastTime : Nat} {x_seqs : List Nat} {x_recs : List DevRec} {x_pwr : Pwr} {x_bist : Bist} {x_hq : Hostq} {x_eth : EthSt} {x_colmo : Colmo} {x_can : List CanSt} {x_iso : Iso} {x_arch : Arch} {x_otp : Otp} {x_lc : Nat} {x_base : List Nat} {x_baseAt : Tick} (h : c.Good) : (Dev.mk x_now c.regs x_free x_off x_lastTime x_seqs x_recs x_pwr x_bist x_hq x_eth x_colmo x_can x_iso x_arch x_otp x_lc x_base x_baseAt).Good := h
theorem goodM_mk {m : Mach} {now : Tick} {holds : List HiHold} {rdata : Nat} {dev : Dev} {a b : Chan} (h : m.Good) (hd : dev.Good) (ha : a.Good .a) (hb : b.Good .b) : (Mach.mk now holds rdata m.smcMem dev a b).Good := ⟨ha, hb, hd, h.2.2.2⟩
theorem good_use {kc : Ch} {x c : Chan} (h : x.Good kc) (f : x.Good kc → c.Good kc) : c.Good kc := f h
theorem good_foldl {α : Type} {k : Ch} {f : Chan → α → Chan} {l : List α} {c : Chan} (hf : ∀ d x, d.Good k → (f d x).Good k) (h : c.Good k) :
    (l.foldl f c).Good k := by
  induction l generalizing c with
  | nil => exact h
  | cons x l ih => exact ih (hf _ _ h)
theorem goodD_foldl {α : Type} {f : Dev → α → Dev} {l : List α} {c : Dev} (hf : ∀ d x, d.Good → (f d x).Good) (h : c.Good) :
    (l.foldl f c).Good := by
  induction l generalizing c with
  | nil => exact h
  | cons x l ih => exact ih (hf _ _ h)
theorem goodM_foldl {α : Type} {f : Mach → α → Mach} {l : List α} {c : Mach} (hf : ∀ d x, d.Good → (f d x).Good) (h : c.Good) :
    (l.foldl f c).Good := by
  induction l generalizing c with
  | nil => exact h
  | cons x l ih => exact ih (hf _ _ h)

theorem good_Chan_wr {k : Ch} (c : Chan) (a v : Nat) (h : c.Good k) : (c.wr a v).Good k := ⟨h.1, wf_set _ _ _ _ h.2.1, h.2.2⟩
theorem good_Chan_wrs {k : Ch} (c : Chan) (a v : Nat) (h : c.Good k) : (c.wrs a v).Good k := ⟨h.1, h.2.1, wf_set _ _ _ _ h.2.2.1, h.2.2.2⟩
theorem good_Chan_tcmPut {k : Ch} (c : Chan) (i v : Nat) (h : c.Good k) : (c.tcmPut i v).Good k :=
  ⟨h.1, h.2.1, h.2.2.1, h.2.2.2.1, wf_set (fun _ => 0) _ _ _ h.2.2.2.2⟩
theorem good_Chan_when {k : Ch} (c : Chan) (q : Bool) (f : Chan → Chan) (h : c.Good k) (hf : ∀ d, d.Good k → (f d).Good k) : (c.when q f).Good k := by
  unfold Chan.when; split
  · exact hf _ h
  · exact h
theorem good_Chan_each {k : Ch} (c : Chan) (n : Nat) (f : Chan → Nat → Chan) (h : c.Good k) (hf : ∀ d x, d.Good k → (f d x).Good k) :
    (c.each n f).Good k := good_foldl hf h
theorem good_Dev_wr (d : Dev) (a v : Nat) (h : d.Good) : (d.wr a v).Good := wf_set _ _ _ _ h
theorem good_Dev_keepRegs (d : Dev) (q : Nat → Bool) (h : d.Good) : (d.keepRegs q).Good := wf_filter _ _ _ h
theorem good_Dev_when (d : Dev) (q : Bool) (f : Dev → Dev) (h : d.Good) (hf : ∀ d, d.Good → (f d).Good) : (d.when q f).Good := by
  unfold Dev.when; split
  · exact hf _ h
  · exact h
theorem good_Dev_each (d : Dev) (n : Nat) (f : Dev → Nat → Dev) (h : d.Good) (hf : ∀ d x, d.Good → (f d x).Good) : (d.each n f).Good :=
  goodD_foldl hf h

end Sys2Proof.Machine
end

