-- ==== Sys2Proof/Safety.lean ====
section
/-! DEFINITION. Safety.lean: what counts as a safe run, in the terms that statements use. -/

namespace Sys2Proof.Machine

/-- A step that answers a next state. -/
def Answers (s : State) : Prop := ∃ s', step s = .next s'

/-- A command that answers a next state. -/
def Completes (i : Instr) (s : State) : Prop := ∃ s', exec i s = .next s'

/-! ### What a command acts on -/

/-- A channel as a command given at instant `t` finds it. -/
def Mach.seen (m : Mach) (t : Tick) (ch : Ch) : Chan := { m.chan ch with now := max m.now t }

/-- The device level as a command given at instant `t` finds it. -/
def Mach.seenDev (m : Mach) (t : Tick) : Dev := { m.dev with now := max m.now t }

/-- The command answers a next state in which one channel and the clock alone may have changed, and the channel is as `P` says. -/
def ActsOn (i : Instr) (s : State) (t : Tick) (ch : Ch) (P : Chan → Prop) : Prop :=
  ∃ c, exec i s = .next { s with m := (s.m.advance t).setChan ch c } ∧ P c

/-- The command answers a next state in which the device level and the clock alone may have changed, and that level is as `P` says. -/
def ActsDev (i : Instr) (s : State) (t : Tick) (P : Dev → Prop) : Prop :=
  ∃ d, exec i s = .next { s with m := { s.m.advance t with dev := d } } ∧ P d

/-- The machine as a command given at instant `t` finds it. -/
def Mach.seenAt (m : Mach) (t : Tick) : Mach := { m.advance t with dev := m.seenDev t }

/-- The command answers a next state in which, beside the clocks, one channel alone may have changed, and the channel is as `P` says. -/
def ActsIn (i : Instr) (s : State) (t : Tick) (ch : Ch) (P : Chan → Prop) : Prop :=
  ∃ c, exec i s = .next { s with m := (s.m.seenAt t).setChan ch c } ∧ P c

/-- The command answers a next state with the queue as it was, and the machine is as `P` says. -/
def Acts (i : Instr) (s : State) (P : Mach → Prop) : Prop := ∃ m, exec i s = .next { s with m := m } ∧ P m

/-! ### Frames -/

/-- Every register of a channel but those of a list reads as before. -/
def Chan.Frame (l : List Nat) (c0 c : Chan) : Prop := ∀ a, a ∉ l → c.rd a = c0.rd a

/-- Nothing of a channel has changed but the registers of a list. -/
def Chan.RegsOnly (l : List Nat) (c0 c : Chan) : Prop := c0.Frame l c ∧ { c with regs := c0.regs } = c0

/-- Every register of the device level but those of a list reads as before. -/
def Dev.Frame (l : List Nat) (d0 d : Dev) : Prop := ∀ a, a ∉ l → d.rd a = d0.rd a

/-- Nothing of the device level has changed but the registers of a list. -/
def Dev.RegsOnly (l : List Nat) (d0 d : Dev) : Prop := d0.Frame l d ∧ { d with regs := d0.regs } = d0

/-- Every slice as before, but for what is under way to it on its edge channel. -/
def Chan.SlicesKept (c0 c : Chan) : Prop := ∀ n, { c.sl n with wire := (c0.sl n).wire, tags := (c0.sl n).tags } = c0.sl n

/-- The fields of SL_STATUS but for PULSE and EN. -/
def slFlds (n : Nat) : List Fld := [SL_STATUS_READY n, SL_STATUS_LINK_OK n, SL_STATUS_LATCHED n, SL_STATUS_GATE_ON n, SL_STATUS_SEG_OFF n, SL_STATUS_SEG_ON n]

/-- Every field of the SL_STATUS registers but PULSE and EN reads as before. -/
def Chan.SlFldsKept (c0 c : Chan) : Prop := ∀ n < 8, ∀ f ∈ slFlds n, c.g f = c0.g f

/-- The parts of a channel that no source brings to change: its name, its clock, the shadow copies, its memory, the mailbox, the subscriptions, the
bases, the converters and what is computed from them, the skim, the slices but for the edges under way to them. -/
structure Chan.Kept (c0 c : Chan) : Prop where
  id : c.id = c0.id
  now : c.now = c0.now
  shadow : c.shadow = c0.shadow
  inv : c.inv = c0.inv
  tcm : c.tcm = c0.tcm
  mail : c.mail = c0.mail
  subs : c.subs = c0.subs
  bases : c.bases = c0.bases
  adc : c.adc = c0.adc
  sinc : c.sinc = c0.sinc
  xchk : c.xchk = c0.xchk
  skim : c.skim = c0.skim
  slices : c0.SlicesKept c

/-- A source of the device level has latched. -/
def Dev.srcLatched (d : Dev) (s : DSrc) : Bool := (d.rd s.reg).testBit s.bit

/-- Nothing of the device level has changed but the registers of a list and the records that were formed. -/
def Dev.Told (l : List Nat) (d0 d : Dev) : Prop :=
  d0.Frame l d ∧ { d with regs := d0.regs, recs := d0.recs, seqs := d0.seqs, lastTime := d0.lastTime } = d0

/-! ### Resets (R491, R495) -/

/-- A channel in a reset of kind `k`: OFF, every register at its reset word but for the fields that the kind keeps, nothing under way. -/
structure Chan.InReset (k : ResetKind) (c0 c : Chan) : Prop where
  state : c.state = OFF
  regs : ∀ a, a ∉ (keptBy k).map Fld.reg → c.rd a = chanReset a
  kept : ∀ f ∈ keptBy k, c.g f = c0.g f
  bare : c.shadow = [] ∧ c.inv = [] ∧ c.mail = [] ∧ c.answers = [] ∧ c.out.buf = [] ∧ c.adc = {} ∧ c.sinc = {} ∧ c.dtc = {} ∧ c.mask = {} ∧ c.obs = {} ∧ c.skim = {} ∧
    c.modul = {} ∧ c.dust = {} ∧ c.ring = {} ∧ c.parked = false
  name : c.id = c0.id

/-- What a reset that reaches the SMC clears beside registers. -/
def Dev.Cleared (d : Dev) : Prop := d.recs = [] ∧ d.hq = {} ∧ d.eth = {} ∧ d.colmo = {} ∧ d.can = [{}, {}] ∧ d.iso = {} ∧ d.arch.writing = none

/-- What no reset clears: OTP and what the archive keeps. -/
def Dev.Durable (d0 d : Dev) : Prop := d.otp = d0.otp ∧ d.arch = { d0.arch with writing := none } ∧ d.lc = topBit d0.otp.lc

/-- A power-on reset has been taken: both channels in reset, every device register but those of a list at its reset word, device time 0. -/
structure Mach.PoweredOn (l : List Nat) (m0 m : Mach) : Prop where
  chans : ∀ ch, Chan.InReset .powerOn (m0.chan ch) (m.chan ch)
  regs : ∀ a, a ∉ l → m.dev.rd a = devReset a
  time : m.dev.time = 0
  cleared : m.dev.Cleared ∧ m.dev.bist = {} ∧ m.holds = []
  durable : m0.dev.Durable m.dev

/-- A supply reset (kind supply) or a pin reset has been taken for causes of AON_RST_CAUSE: both channels in reset, the device held; the AON
registers but those of a list as before, the others at their reset words; the undercoat record kept. -/
structure Mach.SupplyTaken (k : ResetKind) (causes l : List Nat) (m0 m : Mach) : Prop where
  chans : ∀ ch, Chan.InReset k (m0.chan ch) (m.chan ch)
  phase : m.dev.pwr.phase = .held ∧ m.dev.pwr.smc = .down ∧ m.dev.pwr.nrstout = false ∧ m.dev.pwr.shut = 0
  cause : ∀ b ∈ causes, m.dev.gb AON_RST_CAUSE_CAUSE b = true
  aon : m0.dev.pwr.dip = none → ∀ a, a / 65536 = 1 → a ≠ AON_RST_CAUSE → a ∉ l → m.dev.rd a = m0.dev.rd a
  regs : ∀ a, a / 65536 ≠ 1 → a ≠ BIST_CFG → a ≠ SMC_PAIR_STATUS → m.dev.rd a = devReset a
  cfg : m.dev.rd BIST_CFG = m0.dev.rd BIST_CFG
  cleared : m.dev.Cleared ∧ m.holds = []
  durable : m0.dev.Durable m.dev
  record : m0.dev.bist.mode ≠ .undercoat → m.dev.bist.ucRec = m0.dev.bist.ucRec

/-- An SMC warm reset has been taken for a cause (R312, R492): the registers outside AON and the BIST engine at their reset words; the pair is
released, or stays down while VDD_SMC lies outside its window. -/
structure Dev.WarmTaken (cause : Nat) (d0 d : Dev) : Prop where
  smc : d.pwr.smc = if d0.smcRail then .released else .down
  cause : d.gb AON_RST_CAUSE_CAUSE cause = true
  count : d.g AON_RST_CAUSE_COUNT = Sys2Proof.satAdd 65535 (d0.g AON_RST_CAUSE_COUNT)
  regs : ∀ a, keptBySmc a = false → d.rd a = devReset a
  kept : ∀ a, keptBySmc a = true → a ≠ AON_RST_CAUSE → a ≠ SMC_PAIR_STATUS → d.rd a = d0.rd a
  pwr : { d.pwr with smc := d0.pwr.smc, fresh := d0.pwr.fresh, shut := d0.pwr.shut, wakeHeld := d0.pwr.wakeHeld, kickAt := d0.pwr.kickAt } = d0.pwr
  cleared : d.Cleared
  durable : d0.Durable d

/-! ### Colmo's commands (R389 to R393) -/

/-- Colmo runs and nothing is due: no answer, no record, no bundle in progress, no shutdown. -/
abbrev Mach.Idle (m : Mach) : Prop :=
  m.dev.up = true ∧ m.dev.recs = [] ∧ m.dev.colmo.running = [] ∧ m.dev.hq.due = [] ∧ m.dev.pwr.shut = 0 ∧
    ∀ ch ∈ [Ch.a, Ch.b], (m.chan ch).answers = [] ∧ (m.chan ch).out.buf = [] ∧ (m.chan ch).out.dropped = 0

/-- The RSP of a command can enter its queue: the command's flow has a paired OUT flow, open, with room. -/
abbrev Dev.CanAnswer (d : Dev) (rq : Req) : Prop :=
  rq.flow < 256 ∧ (d.flow rq.flow).pairEn = true ∧ (d.flow (d.flow rq.flow).pair).opened = true ∧ (d.flow (d.flow rq.flow).pair).out = true ∧
    d.room (d.flow (d.flow rq.flow).pair).queue = true

/-- The RSP of a lone command has entered its queue: status, data and what follows its sending. -/
def Dev.Answered (d e : Dev) (rq : Req) (st : Nat) (data : List Nat) (after : After) : Prop :=
  let x := d.flow rq.flow
  let q := (d.flow x.pair).queue
  (e.queue q).frames = (d.queue q).frames ++ [⟨K_RSP, x.pair, 0, rq.tag, d.seqOf 0, d.time, false, rspPayload st (if st = 0 then 0xFF else 0) 1 rq.arrival data, true, after, false⟩]

/-- Nothing of the device level has changed but the queues and the sequence numbers. -/
def Dev.Else (d e : Dev) : Prop := { e with hq := { e.hq with queues := d.hq.queues }, seqs := d.seqs, lastTime := d.lastTime } = d

/-- The channels as a command given at instant `t` finds them. -/
def Mach.ChansKept (m0 : Mach) (t : Tick) (m : Mach) : Prop := ∀ ch ∈ [Ch.a, Ch.b], m.chan ch = m0.seen t ch

/-! ### The reaction to a source (R262 to R281) -/

/-- The registers of a block's sources: SRC_STATUS and the first-fault capture. -/
def sourceRegs (blk : Nat) : List Nat :=
  let r := srcRegs blk
  [r.src, r.ff, r.ff + 4, r.ff + 8, r.ff + 12]

/-- The registers other than those of the sources that a source raised or cleared may bring to change: the state and its
interrupts, the dust sheet, the enables, the contactors, the discharge, and what a change of state ends. -/
def reactionOwn : List Nat :=
  [CH_STATE, CH_RESULT, COMMIT_STATUS, CH_IRQ_STATUS, DTC_STATUS, EST_FLUX, EST_TQ, DTC_IRQ_STATUS, MASK_STATUS, TRUST_STATUS, EN_STATUS, PRIMER_RES, DCHG_STATUS,
   DUST_STATUS, DUST_CAUSE, DUST_CAUSE_SEQ, DUST_CAUSE_TIME_LO, DUST_CAUSE_TIME_HI, DUST_SEL_COUNT, DUST_IRQ_STATUS, CONT_STATUS,
   ACK_STATUS, PRE_STATUS, SL_STATUS 0, SL_STATUS 1, SL_STATUS 2, SL_STATUS 3, SL_STATUS 4, SL_STATUS 5, SL_STATUS 6, SL_STATUS 7]

/-- The registers that a source raised or cleared may bring to change. -/
def reactionRegs : List Nat := (List.range 13).flatMap sourceRegs ++ reactionOwn

/-- Nothing of a channel has changed but the registers of a list, those of the reaction and what the reaction may change. -/
def Chan.Reacted (l : List Nat) (c0 c : Chan) : Prop := c0.Frame (l ++ reactionRegs) c ∧ c0.Kept c

/-- A slice has latched a fault (R217): its latch bit, its switch off and no turn-on asked for, SL_STATUS.LATCHED, the source with its
severity; the other slices and the registers outside a list and the reaction as before. -/
structure Chan.Latched (l : List Nat) (n bit : Nat) (c0 c : Chan) : Prop where
  latch : (c.sl n).latch = setBit (c0.sl n).latch bit true
  off : (c.sl n).isOn = false ∧ (c.sl n).asking = none
  status : c.b (SL_STATUS_LATCHED n) = true
  source : c.srcLatched (latchSource bit) = true
  fault : 3 ≤ c0.sevOf (latchSource bit) → c.state = FAULT
  others : ∀ k, k ≠ n → { c.sl k with wire := (c0.sl k).wire, tags := (c0.sl k).tags } = c0.sl k
  frame : c0.Frame (l ++ reactionRegs) c

/-- The registers that a latch of slice `n` may change beside those of the reaction: a failed chopper (R245), a failed discharge (R251). -/
def latchRegs (n : Nat) : List Nat := if n = 6 then [CHOP_STATUS] else if n = 7 then [PROT_IRQ_STATUS] else []

/-- Slice `n` may latch fault `bit`: it is used, does not hold that latch yet, and the latch's source is not active. -/
def Chan.mayLatch (c : Chan) (n bit : Nat) : Bool := c.b (SL_CFG_USED n) && !(c.sl n).latch.testBit bit && !c.srcActive (latchSource bit)

/-- The channel registers with W1S fields or with a write that acts (R11, R167). -/
def requestRegs : List Nat :=
  [CH_REQ, COMMIT_CTL, CONV_REQ 0, CONV_REQ 1, CONV_REQ 2, CONV_REQ 3, FIFO_CTL 0, FIFO_CTL 1, FIFO_CTL 2, FIFO_CTL 3, TQ_REF, OBS_CMD, SL_CH_CTL, PROT_REQ, DUST_REQ, MSIO_REQ, SKIM_REQ]

/-- The registers of the torque monitor's results, which the channel's pair alone writes (R202). -/
def monitorRegs : List Nat := [TM_STATUS, TM_RES, TM_TIME_LO, TM_TIME_HI]

/-- An address whose read changes nothing beside the word it returns: all but a check-value unit, a TCM and a mailbox (R324, R335). -/
def readsQuietly (addr : Nat) : Bool :=
  match reach addr with
  | .chan _ a => Nat.blt a 0xB100 || Nat.ble 0xB200 a
  | .tcm _ _ => false
  | .box _ _ => false
  | _ => true

/-- The device registers, outside CAN and the check-value units, whose writes do more than their fields' access codes say, and the source registers. -/
def actingRegs : List Nat :=
  [SYS_PWR_CTL, SYS_BLK_RST, BIST_REQ, FLOW_CFG, Q_CFG, NTF_ROUTE, HQ_AUDIT, MDIO_CTL, ARC_OP, SYS_WDOG_KICK, SYS_SRC_STATUS, HQ_SRC_STATUS, ETH_SRC_STATUS,
   ARC_SRC_STATUS, SEC_SRC_STATUS]

end Sys2Proof.Machine
end

