-- ==== Sys2Proof/Certificates/Slice0/Obligations.lean ====
section
/-! DEFINITION. Certificates/Slice0/Obligations.lean: what the provers are asked to prove of the machine. -/

open Sys2Proof Sys2Proof.Machine

/-- The command at the front of the queue runs on the machine with the rest of the queue. -/
def Obligations.StepRunsFront : Prop :=
  ∀ (s : State) (i : Instr) (rest : List Instr), s.pending = i :: rest → step s = exec i { s with pending := rest }

/-- With no command waiting the block idles (the model's choice, assumption 2). -/
def Obligations.StepIdles : Prop := ∀ s : State, s.pending = [] → step s = .next s

/-- The state after reset holds its registers in canonical form: sorted, no register listed at its reset value, each of its own map. -/
def Obligations.ResetCanonical : Prop := State.reset.m.Good

/-- Every step keeps the canonical form of the register files of the device and of both channels. -/
def Obligations.StepKeepsCanonical : Prop := ∀ s s' : State, s.m.Good → step s = .next s' → s'.m.Good

/-- R52, R54, R55: an ARM in PRIMED or HOLD, alone in its cycle, is accepted when every bit of CH_READY reads 1, else refused with the
lowest bit that reads 0. -/
def Obligations.ArmRequest : Prop :=
  ∀ (s : State) (t : Tick) (ch : Ch), let c := s.m.seen t ch
    (c.state = PRIMED ∨ c.state = HOLD) → c.disarmNow = false → c.ctl.arm = none →
    (lowestZero c.ready 11 = 11 → c.ctl.stage = none →
      ActsOn (.chReqArm t ch) s t ch (fun d => d.ctl.arm = some ⟨c.state == HOLD, .check, c.now, c.now, 0⟩ ∧
        d.g CH_RESULT_LAST_REFUSAL = 0 ∧ d.state = c.state ∧ c.Frame [CH_REQ, CH_RESULT] d ∧
        { d with regs := c.regs, ctl := c.ctl } = c)) ∧
    (∀ k < 11, lowestZero c.ready 11 = k →
      ActsOn (.chReqArm t ch) s t ch (fun d => { d.ctl with refused := c.ctl.refused } = c.ctl ∧ d.g CH_RESULT_LAST_REFUSAL = k + 1 ∧ d.b CH_IRQ_STATUS_ARM_REFUSED = true ∧
        d.state = c.state ∧ c.Frame [CH_REQ, CH_RESULT, CH_IRQ_STATUS] d ∧ { d with regs := c.regs, ctl := c.ctl } = c))

/-- R52, R53, R59, R425: a DISARM in ARMED, RUN or HOLD is accepted, one beside a running ARM sequence ends it, one of the cycle that led to
FAULT or that refused an ARM leaves REQ_DISCARDED; CLEAR_FAULT is noted in FAULT and has no effect in the other states. -/
def Obligations.DisarmAndClear : Prop :=
  ∀ (s : State) (t : Tick) (ch : Ch), let c := s.m.seen t ch
    let alone := ∀ x, c.ctl.refused = some x → sameCycle x.1 c.now = false
    ((c.state = ARMED ∨ c.state = RUN ∨ c.state = HOLD) → c.ctl.arm = none → alone →
      ActsOn (.chReqDisarm t ch) s t ch (fun d => d.ctl.disarm = true ∧ d.ctl.disarmAt = some c.now ∧ d.ctl.arm = none ∧ d.state = c.state ∧
        c.Frame [CH_REQ] d ∧ { d with regs := c.regs, ctl := c.ctl } = c)) ∧
    ((c.state = PRIMED ∨ (c.state = FAULT ∧ sameCycle c.ctl.stateAt c.now = false)) → c.ctl.arm = none → alone →
      ActsOn (.chReqDisarm t ch) s t ch (fun d => d.ctl = { c.ctl with disarmAt := some c.now } ∧ c.Frame [CH_REQ] d ∧
        { d with regs := c.regs, ctl := c.ctl } = c)) ∧
    (c.state = FAULT → sameCycle c.ctl.stateAt c.now = true → c.ctl.arm = none →
      ActsOn (.chReqDisarm t ch) s t ch (fun d => d.b CH_RESULT_REQ_DISCARDED = true ∧ d.ctl.disarm = c.ctl.disarm ∧ d.state = FAULT)) ∧
    (∀ u last flag, c.state = PRIMED → c.ctl.arm = none → c.ctl.refused = some (u, last, flag) → sameCycle u c.now = true →
      ActsOn (.chReqDisarm t ch) s t ch (fun d => d.g CH_RESULT_LAST_REFUSAL = last % 2 ^ 5 ∧ d.g CH_IRQ_STATUS_ARM_REFUSED = flag % 2 ∧
        d.b CH_RESULT_REQ_DISCARDED = true ∧ c.Frame [CH_REQ, CH_RESULT, CH_IRQ_STATUS] d ∧
        { d with regs := c.regs, ctl := c.ctl, answers := c.answers } = c)) ∧
    (∀ a, c.state ≠ OFF → c.ctl.arm = some a → alone →
      ActsOn (.chReqDisarm t ch) s t ch (fun d => d.ctl.arm = none ∧ d.ctl.disarmAt = some c.now ∧ c.Frame (CH_REQ :: CH_RESULT :: reactionRegs) d ∧
        c.Kept d)) ∧
    (c.state = FAULT →
      ActsOn (.chReqClearFault t ch) s t ch (fun d => d.ctl.clr = true ∧ d.state = FAULT ∧ c.Frame [CH_REQ] d ∧
        { d with regs := c.regs, ctl := c.ctl } = c)) ∧
    (c.state ≠ OFF → c.state ≠ FAULT →
      ActsOn (.chReqClearFault t ch) s t ch (fun d => c.RegsOnly [CH_REQ] d))

/-- R55, R56: the first step of an ARM sequence leads to the primer test or ends the sequence; the last one leads to ARMED; a time-out
abandons it. -/
def Obligations.ArmSequence : Prop :=
  ∀ (s : State) (t : Tick) (ch : Ch) (a : ArmSeq), let c := s.m.seen t ch
    c.state ≠ OFF → c.ctl.arm = some a →
    (a.step = .check → c.cfbDeb = true → ((a.fromHold = false ∧ c.cfbOpen = true) ∨ (a.fromHold = true ∧ c.holdContactors = true ∧ c.preLevel = true)) →
      c.primerPre = true →
      ActsOn (.armWeldCheckEnd t ch) s t ch (fun d => d.armAt = some .primer ∧ d.modul.primer = some ⟨0, c.now, none, none, [], false⟩ ∧
        d.b PRIMER_RES_RUNNING = true ∧ c.Frame [PRIMER_RES, PRE_STATUS] d ∧ { d with regs := c.regs, ctl := c.ctl, modul := c.modul } = c)) ∧
    (a.step = .check → c.cfbDeb = true → ((a.fromHold = false ∧ c.cfbOpen = false) ∨ (a.fromHold = true ∧ c.holdContactors = false)) →
      ActsOn (.armWeldCheckEnd t ch) s t ch (fun d => d.ctl.arm = none ∧ d.b CH_IRQ_STATUS_ARM_REFUSED = true ∧ c.Frame reactionRegs d ∧ c.Kept d)) ∧
    (a.step = .check → c.cfbDeb = false → ActsOn (.armWeldCheckEnd t ch) s t ch (fun d => d = c)) ∧
    (a.step = .ready → c.lockBroken = false → c.g EN_STATUS_EN_PIN = 15 → c.gb DCL_STATUS_CMP 0 = false →
      ActsOn (.armSequenceEnd t ch) s t ch (fun d => d.state = ARMED ∧ d.ctl.arm = none ∧ c.Frame reactionRegs d ∧ c.Kept d)) ∧
    (c.lockBroken = true → ActsOn (.armSequenceEnd t ch) s t ch (fun d => d.ctl.arm = none ∧ d.b CH_IRQ_STATUS_ARM_REFUSED = true ∧ c.Frame reactionRegs d ∧ c.Kept d)) ∧
    (c.since a.start (cyc (c.g ARM_TIMEOUT_T_COUNT)) = true → c.srcActive ARM_TIMEOUT = false →
      ActsOn (.armTimeout t ch) s t ch (fun d => d.ctl.arm = none ∧ d.b CH_RESULT_ARM_TIMEOUT = true ∧ d.srcLatched ARM_TIMEOUT = true ∧
        c.Frame (CH_RESULT :: reactionRegs) d ∧ c.Kept d)) ∧
    (c.since a.start (cyc (c.g ARM_TIMEOUT_T_COUNT)) = false → ActsOn (.armTimeout t ch) s t ch (fun d => d = c))

/-- R51, R57, R530: the transition whose delay has passed is taken; a lapsed stream is reported, and later ends in HOLD. -/
def Obligations.StateTransitions : Prop :=
  ∀ (s : State) (t : Tick) (ch : Ch), let c := s.m.seen t ch
    (∀ tr, c.state ≠ OFF → c.ctl.trans = some tr → c.dtc.boundAt = c.now → c.since tr.since (ms 1) = true → c.wanted = some PRIMED → tr.dest = PRIMED →
      ActsOn (.transitionDelayExpiry t ch) s t ch (fun d => d.state = PRIMED ∧ c.Frame reactionRegs d ∧ c.Kept d)) ∧
    (∀ tr, c.state ≠ OFF → c.ctl.trans = some tr → (c.dtc.boundAt ≠ c.now ∨ c.since tr.since (ms 1) = false ∨ c.wanted ≠ some tr.dest) →
      ActsOn (.transitionDelayExpiry t ch) s t ch (fun d => d = c)) ∧
    (c.state = RUN → c.since c.ctl.lapseAt (cyc (c.g LAPSE_RAMP_T_COUNT)) = true → c.srcActive STREAM_LAPSE = false →
      ActsOn (.streamLapse t ch) s t ch (fun d => d.srcLatched STREAM_LAPSE = true ∧ c.Frame reactionRegs d ∧ c.Kept d ∧
        (3 ≤ c.sevOf STREAM_LAPSE → d.state = FAULT))) ∧
    (c.state = RUN → c.since c.ctl.lapseAt (cyc (c.g LAPSE_HOLD_T_COUNT)) = true → c.g EN_STATUS_EN_PIN = 15 → c.rd LEG_HEALTH = 0 → c.b DUST_STATUS_SPD_HIGH = false →
      c.g DUST_STATUS_HARD_N ≤ c.g DUST_CTL_HARD_MAX →
      ActsOn (.lapseHold t ch) s t ch (fun d => d.state = HOLD ∧ c.Frame reactionRegs d ∧ c.Kept d)) ∧
    (c.state ≠ OFF → c.state ≠ RUN →
      ActsOn (.streamLapse t ch) s t ch (fun d => d = c) ∧ ActsOn (.lapseHold t ch) s t ch (fun d => d = c))

/-- R63, R64: a commit request that its gate and its values pass becomes pending, is staged or is confirmed. -/
def Obligations.CommitRequests : Prop :=
  ∀ (s : State) (t : Tick) (ch : Ch), let c := s.m.seen t ch
    (c.state ≠ OFF → c.gateCode .tuning = 0 → c.valuesCode .tuning s.m.dev.lc = 0 →
      ActsOn (.commitCtlTuningCommit t ch) s t ch (fun d => d.ctl.commit = some ⟨.tuning, c.now, c.rd COMMIT_CRC, none⟩ ∧
        d.g COMMIT_STATUS_CODE = 1 ∧ d.g COMMIT_CTL_TUNING_COMMIT = 0 ∧ c.Frame [COMMIT_CTL, COMMIT_STATUS] d ∧
        { d with regs := c.regs, ctl := c.ctl } = c)) ∧
    (∀ id : SetId, c.state ≠ OFF → c.gateCode .safety = 0 → c.valuesCode .safety s.m.dev.lc = 0 →
      ActsOn (.commitCtlSafetyStage t ch id) s t ch (fun d => d.ctl.stage = some ⟨c.rd COMMIT_CRC, c.now, some id⟩ ∧
        d.ctl.commit = c.ctl.commit ∧ d.g COMMIT_STATUS_CODE = 9 ∧ c.Frame [COMMIT_CTL, COMMIT_STATUS] d ∧
        { d with regs := c.regs, ctl := c.ctl } = c)) ∧
    (∀ st, c.state ≠ OFF → c.gateCode .safety = 0 → c.ctl.stage = some st → c.since st.at_ (ms 5000 + 1) = false →
      c.rd COMMIT_CRC = st.crc → c.valuesCode .safety s.m.dev.lc = 0 →
      ActsOn (.commitCtlSafetyConfirm t ch) s t ch (fun d => d.ctl.commit = some ⟨.safety, c.now, st.crc, st.id⟩ ∧
        d.ctl.stage = none ∧ d.g COMMIT_STATUS_CODE = 1 ∧ c.Frame [COMMIT_CTL, COMMIT_STATUS] d ∧
        { d with regs := c.regs, ctl := c.ctl } = c)) ∧
    (∀ st, c.state ≠ OFF → c.ctl.stage = some st → ActsOn (.safetyStageExpiry t ch) s t ch (fun d =>
      d = if c.since st.at_ (ms 5000) then { c with ctl := { c.ctl with stage := none, stageLapsed := true } } else c))

/-- R63, R64, R66: a commit request that its gate or its values refuse reports COMMIT_FAIL and changes nothing that commits. -/
def Obligations.CommitRefusals : Prop :=
  ∀ (s : State) (t : Tick) (ch : Ch) (id : SetId), let c := s.m.seen t ch
    c.state ≠ OFF → c.srcActive COMMIT_FAIL = false →
    ((c.gateCode .tuning ≠ 0 ∨ c.valuesCode .tuning s.m.dev.lc ≠ 0) →
      ActsOn (.commitCtlTuningCommit t ch) s t ch (fun d => d.srcLatched COMMIT_FAIL = true ∧ c.Frame (COMMIT_CTL :: reactionRegs) d ∧ c.Kept d)) ∧
    ((c.gateCode .safety ≠ 0 ∨ c.valuesCode .safety s.m.dev.lc ≠ 0) →
      ActsOn (.commitCtlSafetyStage t ch id) s t ch (fun d => d.srcLatched COMMIT_FAIL = true ∧ c.Frame (COMMIT_CTL :: reactionRegs) d ∧ c.Kept d)) ∧
    ((c.gateCode .safety ≠ 0 ∨ c.ctl.stage = none) →
      ActsOn (.commitCtlSafetyConfirm t ch) s t ch (fun d => d.srcLatched COMMIT_FAIL = true ∧ c.Frame (COMMIT_CTL :: reactionRegs) d ∧ c.Kept d))

/-- R62, R167: the writes held during the copy reach the shadow copies when it ends; the references are staged. -/
def Obligations.ShadowAndReferences : Prop :=
  ∀ (s : State) (t : Tick) (ch : Ch), let c := s.m.seen t ch
    c.state ≠ OFF →
    (∀ k, c.ctl.copying = some k →
      ActsOn (.shadowCopyEnd t ch) s t ch (fun d => d.ctl.copying = none ∧ d.regs = c.regs ∧
        (∀ a, (∀ w ∈ k.held, w.1 ≠ a) → d.rds a = c.rds a) ∧
        (∀ a v, k.held = [(a, v)] → d.rds a = ((c.rds a &&& (0xFFFFFFFF ^^^ rwcBits a)) ||| (v &&& rwcBits a)) % 2 ^ 32) ∧
        { d with shadow := c.shadow, ctl := c.ctl } = c)) ∧
    (∀ ref, ActsOn (.tqRefWrite t ch ref) s t ch (fun d => d.g TQ_REF_REF = ref % 2 ^ 16 ∧ d.dtc.staged = true ∧ d.dtc.stagedTq = true ∧
        d.dtc.relSeq = c.g TQ_SEQ_SEQ ∧ d.dtc.relSpd = c.g SPD_LIM_W ∧
        c.Frame [TQ_REF] d ∧ { d with regs := c.regs, dtc := c.dtc } = c)) ∧
    (∀ v, ActsOn (.stagedRefWrite t ch true v) s t ch (fun d => d.g SPD_LIM_W = v % 2 ^ 32 ∧ c.RegsOnly [SPD_LIM] d)) ∧
    (∀ v, ActsOn (.stagedRefWrite t ch false v) s t ch (fun d => d.g TQ_SEQ_SEQ = v % 2 ^ 32 ∧ c.RegsOnly [TQ_SEQ] d))

/-- R9 to R11, R18, R61, R62, R66, R202, R522: a channel's pair writes a register of its own channel: its RW and W1C fields at once, its RWC
fields in the shadow copy, or not at all while a commit is pending; it alone writes the torque monitor's results, and the words of its TCM;
a write that nothing of the writer takes, and one that is not 32 bits wide, has no effect. -/
def Obligations.ChannelRegisterWrites : Prop :=
  ∀ (s : State) (t : Tick) (ch : Ch) (addr a data : Nat), let c := s.m.seen t ch
    (reach addr = .chan ch a → c.state ≠ OFF → c.b CORE_STATUS_HELD = false → c.skim.cur = none → a < 0xB100 → a ∉ requestRegs → a ∉ monitorRegs →
      (∀ b < 13, (srcRegs b).src ≠ a ∧ (srcRegs b).ff ≠ a) →
      (rwcBits a = 0 → ActsIn (.registerWrite t (some ch) ⟨4, addr⟩ data) s t ch (fun d => d.rd a = accWrite (chanFields a) (c.rd a) data % 2 ^ 32 ∧ c.RegsOnly [a] d)) ∧
      (rwcBits a ≠ 0 → c.ctl.commit = none → c.ctl.copying = none →
        ActsIn (.registerWrite t (some ch) ⟨4, addr⟩ data) s t ch (fun d =>
          d.rd a = accWrite (chanFields a) (c.rd a) data % 2 ^ 32 ∧ c.Frame [a] d ∧ (∀ x, x ≠ a → d.rds x = c.rds x) ∧
          (c.state ≠ ARMED → c.state ≠ RUN → ∀ i < 32, (d.rds a).testBit i = if (rwcBits a).testBit i then data.testBit i else (c.rds a).testBit i) ∧
          { d with regs := c.regs, shadow := c.shadow } = c)) ∧
      (rwcBits a ≠ 0 → c.ctl.commit.isSome = true →
        ActsIn (.registerWrite t (some ch) ⟨4, addr⟩ data) s t ch (fun d =>
          d.b COMMIT_STATUS_WRITE_BLOCKED = true ∧ d.rd a = accWrite (chanFields a) (c.rd a) data % 2 ^ 32 ∧ c.RegsOnly [a, COMMIT_STATUS] d))) ∧
    (reach addr = .chan ch a → c.state ≠ OFF → c.b CORE_STATUS_HELD = false → a ∈ monitorRegs →
      ActsIn (.registerWrite t (some ch) ⟨4, addr⟩ data) s t ch (fun d => d.rd a = (if a = TM_STATUS then data &&& 0xFFFF001E else data % 2 ^ 32) ∧ c.RegsOnly [a] d)) ∧
    (∀ off, reach addr = .tcm ch off → c.state ≠ OFF → c.b CORE_STATUS_HELD = false → c.skim.cur = none →
      ActsIn (.registerWrite t (some ch) ⟨4, addr⟩ data) s t ch (fun d => d.tcmAt (off / 4) = data % 2 ^ 32 ∧ (∀ k, k ≠ off / 4 → d.tcmAt k = c.tcmAt k) ∧
        { d with tcm := c.tcm } = c)) ∧
    ((∀ x, reach addr ≠ .chan ch x ∧ reach addr ≠ .tcm ch x) → Acts (.registerWrite t (some ch) ⟨4, addr⟩ data) s (fun m => m = s.m.seenAt t)) ∧
    (∀ size who, size ≠ 4 → Acts (.registerWrite t who ⟨size, addr⟩ data) s (fun m => m = s.m.seenAt t))

/-- R10, R11, R19, R522: the SMC pair writes the registers of the device and the words of its memory; an address of a channel or without a
register takes no write, nor does the device while no SMC runs. -/
def Obligations.DeviceRegisterWrites : Prop :=
  ∀ (s : State) (t : Tick) (addr a data : Nat), let m := s.m.seenAt t
    (reach addr = .dev a → m.dev.alive = true → a ∉ actingRegs → a / 65536 ≠ 4 → a / 65536 ≠ 5 → a < 0x80100 → sevCount a = 0 → heldFld a data = none →
      Acts (.registerWrite t none ⟨4, addr⟩ data) s (fun n => ∃ d, n = { m with dev := d } ∧ d.rd a = accWrite (devFields a) (m.dev.rd a) data % 2 ^ 32 ∧
        m.dev.RegsOnly [a] d)) ∧
    (reach addr = .dev a → m.dev.alive = true → 0 < sevCount a →
      Acts (.registerWrite t none ⟨4, addr⟩ data) s (fun n => ∃ d, n = { m with dev := d } ∧ d.rd a = sevWord (sevCount a) (m.dev.rd a) data % 2 ^ 32 ∧
        m.dev.RegsOnly [a] d)) ∧
    (∀ off, reach addr = .smcMem off → m.dev.alive = true →
      Acts (.registerWrite t none ⟨4, addr⟩ data) s (fun n => RegMap.get n.smcMem 0 (off / 4) = data % 2 ^ 32 ∧
        (∀ k, k ≠ off / 4 → RegMap.get n.smcMem 0 k = RegMap.get m.smcMem 0 k) ∧ { n with smcMem := m.smcMem } = m)) ∧
    ((∀ x, reach addr ≠ .dev x ∧ reach addr ≠ .smcMem x) → Acts (.registerWrite t none ⟨4, addr⟩ data) s (fun n => n = m)) ∧
    (m.dev.alive = false → Acts (.registerWrite t none ⟨4, addr⟩ data) s (fun n => n = m))

/-- R9, R18 to R20, R526: a read returns the word of the address and, of a _LO register, holds the _HI word of that instant; the next read of
that _HI register by the same master returns it, once; a read beyond the master's reach, or not 32 bits wide, returns 0. -/
def Obligations.PairedReads : Prop :=
  ∀ (s : State) (t : Tick) (mst : Master) (addr : Nat), let m := s.m.seenAt t
    (reads mst addr = true → isLo addr = true →
      Acts (.loRegisterRead t mst ⟨4, addr⟩) s (fun n => n.rdata = m.readAt addr ∧
        n.holds.find? (fun h => h.master == mst && h.addr == addr + 4) = some ⟨mst, addr + 4, m.readAt (addr + 4)⟩ ∧
        { n with rdata := m.rdata, holds := m.holds } = m)) ∧
    (reads mst addr = true → isLo addr = false → readsQuietly addr = true →
      Acts (.loRegisterRead t mst ⟨4, addr⟩) s (fun n => n = { m with rdata := m.readAt addr })) ∧
    (reads mst addr = true → isLo addr = false → Acts (.loRegisterRead t mst ⟨4, addr⟩) s (fun n => n.rdata = m.readAt addr ∧ n.dev = m.dev ∧ n.holds = m.holds)) ∧
    (∀ h : HiHold, reads mst addr = true → m.holds.find? (fun h => h.master == mst && h.addr == addr) = some h →
      Acts (.hiRegisterRead t mst ⟨4, addr⟩) s (fun n => n.rdata = h.word ∧ n.holds.find? (fun h => h.master == mst && h.addr == addr) = none ∧
        { n with rdata := m.rdata, holds := m.holds } = m)) ∧
    (reads mst addr = true → m.holds.find? (fun h => h.master == mst && h.addr == addr) = none → readsQuietly addr = true →
      Acts (.hiRegisterRead t mst ⟨4, addr⟩) s (fun n => n = { m with rdata := m.readAt addr })) ∧
    (∀ size, reads mst addr = false ∨ size ≠ 4 →
      Acts (.loRegisterRead t mst ⟨size, addr⟩) s (fun n => n = { m with rdata := 0 }) ∧ Acts (.hiRegisterRead t mst ⟨size, addr⟩) s (fun n => n = { m with rdata := 0 }))

/-- R77 to R83: a trigger of a converter that is enabled and idle starts its sequence, two cycles and the delay later; an injected trigger
that finds a sequence running is discarded and counted. -/
def Obligations.ConverterTriggers : Prop :=
  ∀ (s : State) (t : Tick) (ch : Ch) (n bits : Nat), let c := s.m.seen t ch
    let b := b2n (bits.testBit 0 && c.b (CONV_CTL_INJ_TRIG_BND n)) + 2 * b2n (bits.testBit 1 && c.b (CONV_CTL_INJ_TRIG_WIN n))
      + 4 * b2n (bits.testBit 2 && c.b (CONV_CTL_INJ_TRIG_SW n))
    let started := fun (x : Nat) => { c.conv n with inj := some (Sys2Proof.Machine.Seq.mk 0 x c.now (c.now + cyc (2 + c.g (CONV_CTL_INJ_DELAY n))) false []) }
    let regular := fun (m k ev : Nat) => { c.conv m with reg := some (Sys2Proof.Machine.Seq.mk k ev c.now (c.now + cyc 2) false []), held := none }
    c.state ≠ OFF → c.skim.cur = none →
    (n < 4 → c.convOn n = true → (c.conv n).inj = none → (c.conv n).reg = none →
      (b ≠ 0 → ActsOn (.adcInjTrigger t ch n bits) s t ch (fun d => d = { c with adc := { c.adc with conv := c.adc.conv.set n (started b) } })) ∧
      (c.b (CONV_CTL_INJ_TRIG_SW n) = true →
        ActsOn (.convReqInjSw t ch n) s t ch (fun d => d.adc = { c.adc with conv := c.adc.conv.set n (started 4) } ∧ d.g (CONV_REQ_INJ_SW n) = 0 ∧
          c.Frame [CONV_REQ n] d ∧ { d with regs := c.regs, adc := c.adc } = c)) ∧
      (c.scanMode n = false → c.g (CONV_CTL_REG_TRIG n) ≠ 1 →
        ActsOn (.convReqRegSw t ch n) s t ch (fun d => d.adc = { c.adc with conv := c.adc.conv.set n (regular n 0 0) } ∧ d.g (CONV_REQ_REG_SW n) = 0 ∧
          c.Frame [CONV_REQ n] d ∧ { d with regs := c.regs, adc := c.adc } = c)) ∧
      (∀ src, c.scanMode n = false → 2 ≤ src → src ≤ 4 → c.g (CONV_CTL_REG_TRIG n) = src →
        ActsOn (.adcRegTrigger t ch n src) s t ch (fun d =>
          d = { c with adc := { c.adc with conv := c.adc.conv.set n (regular n 0 (if src = 4 then 1 else 0)) } }))) ∧
    (∀ k, c.scanMode 3 = true → c.convOn 3 = true → (c.conv 3).inj = none → (c.conv 3).reg = none → nextInput (c.g SCAN_MASK_MASK) 0 = some k →
      ActsOn (.adcScanTick t ch) s t ch (fun d => d = { c with adc := { c.adc with conv := c.adc.conv.set 3 (regular 3 k 0) } })) ∧
    (∀ q, n < 4 → c.convOn n = true → b ≠ 0 → (c.conv n).inj = some q → q.trigAt + ticksPerCycle ≤ c.now → c.srcActive INJ_OVERRUN = false →
      ActsOn (.adcInjTrigger t ch n bits) s t ch (fun d => d.srcLatched INJ_OVERRUN = true ∧
        d.g (OVR_COUNT_INJ_OVR n) = min 65535 (c.g (OVR_COUNT_INJ_OVR n) + 1) ∧ c.Reacted [OVR_COUNT 0, OVR_COUNT 1, OVR_COUNT 2, OVR_COUNT 3] d))

/-- R88: a read of FIFO_DATA takes the oldest entry and its time, and 0 from an empty FIFO; a flush empties the FIFO and its overflow count. -/
def Obligations.ConverterFifos : Prop :=
  ∀ (s : State) (t : Tick) (ch : Ch) (n : Nat), let c := s.m.seen t ch
    c.state ≠ OFF → n < 4 →
    (∀ e es, (c.conv n).fifo = e :: es → e.word < 2 ^ 32 → e.time < 2 ^ 64 →
      ActsOn (.fifoDataRead t ch n) s t ch (fun d => d.rd (FIFO_DATA n) = e.word ∧ d.rd (FIFO_TIME_HI n) * 2 ^ 32 + d.rd (FIFO_TIME_LO n) = e.time ∧
        d.adc = { c.adc with conv := c.adc.conv.set n { c.conv n with fifo := es } } ∧
        c.Frame [FIFO_DATA n, FIFO_TIME_LO n, FIFO_TIME_HI n] d ∧ { d with regs := c.regs, adc := c.adc } = c)) ∧
    ((c.conv n).fifo = [] → ActsOn (.fifoDataRead t ch n) s t ch (fun d => d.rd (FIFO_DATA n) = 0 ∧ c.RegsOnly [FIFO_DATA n] d)) ∧
    ActsOn (.fifoFlush t ch n) s t ch (fun d => d.adc = { c.adc with conv := c.adc.conv.set n { c.conv n with fifo := [] } } ∧
      d.rd (FIFO_OVF_COUNT n) = 0 ∧ c.Frame [FIFO_OVF_COUNT n, FIFO_CTL n] d ∧ { d with regs := c.regs, adc := c.adc } = c)

/-- R80, R85 to R87: the end of an injected conversion enters the corrected code, CLIP and the stepped count into the slot's result register; the
sequence goes on with its next slot, 120 cycles after this one, or ends. -/
def Obligations.ConversionEnds : Prop :=
  ∀ (s : State) (t : Tick) (ch : Ch) (n raw raw1 : Nat) (q : Seq), let c := s.m.seen t ch
    let i := c.injInput n q.slot
    let w := min 4095 raw
    c.state ≠ OFF → n < 4 → c.lead n = n → c.members n = [n] → (c.conv n).inj = some q → q.snap = [] → q.slot < 4 →
    ActsOn (.adcConversionEnd t ch n raw raw1) s t ch (fun d =>
      d.rd (INJ_RES n q.slot) = ((c.g (INJ_RES_COUNT n q.slot) + 1) % 128 * 2 ^ 24 + (if w = 0 ∨ w = 4095 then 2 ^ 23 else 0) + q.trig % 8 * 2 ^ 20
        + c.vectorAt q.sampleAt * 2 ^ 16 + toBits 16 (correct w (c.gi (CORR_OFS_OFS i)) (c.gi (CORR_GAIN_GAIN i)))) % 2 ^ 32 ∧
      c.Frame (INJ_RES n q.slot :: XC_STATUS :: FIFO_OVF_COUNT n :: ADC_IRQ_STATUS :: PROT_IRQ_STATUS :: reactionRegs) d)

/-- R91: a stalled converter raises ADC_STALL. -/
def Obligations.ConverterStall : Prop :=
  ∀ (s : State) (t : Tick) (ch : Ch), let c := s.m.seen t ch
    c.state ≠ OFF → c.srcActive ADC_STALL_SRC = false →
    ActsOn (.adcStall t ch) s t ch (fun d => d.srcLatched ADC_STALL_SRC = true ∧ c.Reacted [] d ∧
      (3 ≤ c.sevOf ADC_STALL_SRC → d.state = FAULT))

/-- R97 to R104: the loss of the modulator clock, its return, a clock out of range and stuck data end and begin the validity of the
inputs, and raise their sources. -/
def Obligations.SigmaDeltaClock : Prop :=
  ∀ (s : State) (t : Tick) (ch : Ch) (n p : Nat), let c := s.m.seen t ch
    let regs := [SD_STATUS, SD_MCLK_MEAS, SD_LOSS_COUNT 0, SD_LOSS_COUNT 1, SD_LOSS_COUNT 2, SD_LOSS_COUNT 3, DF_RES 0, DF_RES 1, DF_RES 2, DF_RES 3, XC_STATUS]
    let per := if c.b SD_CTL_CLK_MODE then p % 2 ^ 24 else if c.g SD_CTL_IN_EN = 0 then c.g SD_MCLK_MEAS_PERIOD else c.g SD_MCLK_DIV * 256
    let runs := c.b SD_CTL_CLK_MODE = true ∨ c.g SD_CTL_IN_EN ≠ 0
    c.state ≠ OFF →
    (c.sinc.range = false → (c.b SD_CTL_CLK_MODE = false ∨ (475 * p ≤ 960 * 256 * 100 ∧ 960 * 256 * 100 ≤ 2625 * p)) →
      ActsOn (.sdMclkMeasure t ch p) s t ch (fun d => d.g SD_MCLK_MEAS_PERIOD = per ∧ c.RegsOnly [SD_MCLK_MEAS] d)) ∧
    (c.sinc.range = false → c.b SD_CTL_CLK_MODE = true → (960 * 256 * 100 < 475 * p ∨ 2625 * p < 960 * 256 * 100) → c.srcActive MCLK_RANGE = false →
      ActsOn (.sdMclkMeasure t ch p) s t ch (fun d => d.g SD_MCLK_MEAS_PERIOD = per ∧ d.sinc.range = true ∧ d.srcLatched MCLK_RANGE = true ∧
        c.Frame (regs ++ reactionRegs) d)) ∧
    (c.sinc.clkLost = false → runs → c.srcActive CLK_LOSS = false →
      ActsOn (.clkLoss t ch) s t ch (fun d => d.sinc.clkLost = true ∧ d.b SD_STATUS_CLK_OK = false ∧ d.srcLatched CLK_LOSS = true ∧
        (∀ k < 4, c.gb SD_CTL_IN_EN k = true → d.gb SD_STATUS_VALID k = false) ∧ c.Frame (regs ++ reactionRegs) d)) ∧
    (runs →
      ActsOn (.sdClockResume t ch) s t ch (fun d => d.sinc.clkLost = false ∧ d.b SD_STATUS_CLK_OK = true ∧ c.Frame (regs ++ reactionRegs) d)) ∧
    (¬ runs → ActsOn (.clkLoss t ch) s t ch (fun d => d = c) ∧ ActsOn (.sdClockResume t ch) s t ch (fun d => d = c)) ∧
    (c.sdOn n = true → c.gb SD_STATUS_STUCK n = false → c.srcActive (STUCK n) = false →
      ActsOn (.stuckData t ch n) s t ch (fun d => d.gb SD_STATUS_STUCK n = true ∧ d.gb SD_STATUS_VALID n = false ∧ d.srcLatched (STUCK n) = true ∧
        c.Frame (regs ++ reactionRegs) d)) ∧
    (n < 4 → c.gb SD_STATUS_STUCK n = true →
      ActsOn (.sdStuckEnd t ch n) s t ch (fun d => d.gb SD_STATUS_STUCK n = false ∧ c.Frame (regs ++ reactionRegs) d))

/-- R105 to R110: a data filter whose window of OSR bits is whole gives an output, corrected and written with its count, time and group delay;
at every bit, also one that comes with the window, the comparator filter's output is written as the comparator's value, and judged. The
outputs of the settling time are discarded, and without a whole window there is none. -/
def Obligations.SigmaDeltaFilters : Prop :=
  ∀ (s : State) (t : Tick) (ch : Ch) (n : Nat) (bit : Bool) (tail : List Bool), let c := s.m.seen t ch
    let p := tail.foldl (fun d b => doSdComparatorOutput n b d) c
    let f := p.sdIn n
    let x := c.sdIn n
    let osr := c.g (DF_CFG_OSR n)
    let ord := c.g (DF_CFG_ORD n)
    let v := sdCorrect (sincCount ord osr (f.bits.drop (f.win - osr))) (osr ^ ord) (c.gi (DF_OFS_OFS n)) (c.gi (DF_GAIN_GAIN n))
    let need := c.g (CF_CFG_ORD n) * c.g (CF_CFG_OSR n) + 2
    let y := { x with bits := (bit :: x.bits).take 1024, win := min 1024 (x.win + 1), cfN := min need (x.cfN + 1) }
    let w := sdCorrect (sincCount (c.g (CF_CFG_ORD n)) (c.g (CF_CFG_OSR n)) (y.bits.drop 2)) (c.g (CF_CFG_OSR n) ^ c.g (CF_CFG_ORD n)) (c.gi (DF_OFS_OFS n)) (c.gi (DF_GAIN_GAIN n))
    let put := fun z => { c with sinc := { c.sinc with inp := c.sinc.inp.set n z } }
    c.state ≠ OFF → c.sdOn n = true → x.live = true →
    (f.win < osr → ActsOn (.sdDataFilterOutput t ch n tail) s t ch (fun d => d = p)) ∧
    (osr ≤ f.win → f.dfN + 1 < ord → ActsOn (.sdDataFilterOutput t ch n tail) s t ch (fun d =>
      d = { p with sinc := { p.sinc with inp := p.sinc.inp.set n { f with win := f.win - osr, dfN := f.dfN + 1 } } })) ∧
    (osr ≤ f.win → ord ≤ f.dfN + 1 →
      ActsOn (.sdDataFilterOutput t ch n tail) s t ch (fun d => d.g (DF_RES_RESULT n) = toBits 16 v ∧
        d.g (DF_RES_COUNT n) = (p.g (DF_RES_COUNT n) + 1) % 128 ∧ d.b (DF_RES_VALID n) = true ∧ d.gb SD_STATUS_VALID n = true ∧
        d.rd (DF_TIME_LO n) = c.devTime % 2 ^ 32 ∧ d.rd (DF_TIME_HI n) = c.devTime / 2 ^ 32 % 2 ^ 32 ∧
        p.Frame ([DF_RES n, DF_TIME_LO n, DF_TIME_HI n, DF_GDLY n, SD_STATUS, SD_IRQ_STATUS, XC_STATUS] ++ reactionRegs) d)) ∧
    (x.cfN + 1 < need → ActsOn (.sdComparatorOutput t ch n bit) s t ch (fun d => d = put y)) ∧
    (need ≤ x.cfN + 1 → c.b (CF_CFG_EN n) = false →
      ActsOn (.sdComparatorOutput t ch n bit) s t ch (fun d => d.g (CF_RES_VALUE n) = toBits 16 w ∧ d.sinc = (put y).sinc ∧ c.Frame [CF_RES n] d ∧
        { d with regs := c.regs, sinc := c.sinc } = c)) ∧
    (need ≤ x.cfN + 1 → c.b (CF_CFG_EN n) = true → c.gi (CF_LIM_HIGH n) < w → c.g (CF_CFG_DEBOUNCE n) ≤ x.hi → c.g (CF_CFG_DEBOUNCE n) < 16 →
      c.srcActive (CMPH n) = false →
      ActsOn (.sdComparatorOutput t ch n bit) s t ch (fun d => d.g (CF_RES_VALUE n) = toBits 16 w ∧ d.b (CF_RES_HIGH_TRIP n) = true ∧ d.srcLatched (CMPH n) = true ∧
        c.Frame (CF_RES n :: reactionRegs) d))

/-- R134, R137 to R139: the resolver's event asks its converters for a new pair of results; an encoder edge steps the count by its direction or
is illegal; the index zeroes the count and judges the angle; 10 ms after the last edge the speed is 0. -/
def Obligations.PositionInputs : Prop :=
  ∀ (s : State) (t : Tick) (ch : Ch) (a b second : Bool) (n : Nat), let c := s.m.seen t ch
    let o := c.xchk.encAB
    let off := min (c.g ENC_COUNT_COUNT) (4 * c.g ENC_CFG_LINES - c.g ENC_COUNT_COUNT)
    c.state ≠ OFF → n = b2n a + 2 * b2n b →
    (c.b RES_EXC_EN = true → (second = true → c.b RES_CFG_BOTH = true) → c.skim.cur = none →
      ActsOn (.resolverEvent t ch second) s t ch (fun d => d.xchk = { c.xchk with rsin := none, rcos := none } ∧
        c.Frame ([OVR_COUNT 0, OVR_COUNT 1, OVR_COUNT 2, OVR_COUNT 3] ++ reactionRegs) d)) ∧
    ((c.b RES_EXC_EN = false ∨ (second = true ∧ c.b RES_CFG_BOTH = false)) → ActsOn (.resolverEvent t ch second) s t ch (fun d => d = c)) ∧
    (n = o → ActsOn (.encoderEdge t ch a b) s t ch (fun d => d = c)) ∧
    (n ≠ o → n ≠ 3 - o → 0 < c.g ENC_CFG_LINES →
      ActsOn (.encoderEdge t ch a b) s t ch (fun d => d.g ENC_COUNT_COUNT = (((c.g ENC_COUNT_COUNT : Int) + quadStep o n) % (4 * c.g ENC_CFG_LINES : Int)).toNat % 2 ^ 18 ∧
        d.xchk.encAB = n ∧ d.xchk.edges = ((quadStep o n, c.now) :: c.xchk.edges).take 129 ∧ c.Frame [ENC_COUNT] d ∧ { d with regs := c.regs, xchk := c.xchk } = c)) ∧
    (n ≠ o → n = 3 - o → c.srcActive ENC_ILLEGAL = false →
      ActsOn (.encoderEdge t ch a b) s t ch (fun d => d.srcLatched ENC_ILLEGAL = true ∧ d.xchk = { c.xchk with encAB := n } ∧ c.Frame reactionRegs d)) ∧
    (c.b ENC_CFG_IDX_EN = true → c.b ENC_COUNT_IDX_SEEN = false →
      ActsOn (.encoderIndex t ch) s t ch (fun d => d.g ENC_COUNT_COUNT = 0 ∧ d.b ENC_COUNT_IDX_SEEN = true ∧ d.b POS_ANGLE_ABS = true ∧ d.b XC_IRQ_STATUS_INDEX = true ∧
        c.Frame [ENC_COUNT, POS_ANGLE, XC_IRQ_STATUS, XC_SRC_STATUS] d)) ∧
    (c.b ENC_CFG_IDX_EN = true → c.b ENC_COUNT_IDX_SEEN = true → off ≤ c.g ENC_CFG_IDX_TOL →
      ActsOn (.encoderIndex t ch) s t ch (fun d => d.g ENC_COUNT_COUNT = 0 ∧ d.b POS_ANGLE_ABS = true ∧ c.Frame [ENC_COUNT, POS_ANGLE, XC_SRC_STATUS] d)) ∧
    (c.b ENC_CFG_IDX_EN = true → c.b ENC_COUNT_IDX_SEEN = true → c.g ENC_CFG_IDX_TOL < off → c.srcActive ENC_INDEX = false →
      ActsOn (.encoderIndex t ch) s t ch (fun d => d.g ENC_COUNT_COUNT = 0 ∧ d.b POS_ANGLE_ABS = false ∧ d.srcLatched ENC_INDEX = true ∧
        c.Frame ([ENC_COUNT, POS_ANGLE] ++ reactionRegs) d)) ∧
    (c.b ENC_CFG_IDX_EN = false → ActsOn (.encoderIndex t ch) s t ch (fun d => d = c)) ∧
    ActsOn (.encoderSpeedTimeout t ch) s t ch (fun d =>
      d = if c.sinceOpt (c.xchk.edges.head?.map Prod.snd) (ms 10) then { c with xchk := { c.xchk with encSpd := 0 } } else c)

/-- R130: in RUN, an alternate DC-link value that has grown stale raises its source; in the other states there is nothing to raise. -/
def Obligations.AlternateLinkStale : Prop :=
  ∀ (s : State) (t : Tick) (ch : Ch), let c := s.m.seen t ch
    let late := c.since (max c.xchk.altAt c.xchk.runAt) (c.g DCL_CFG_DCL_AGE * c.period)
    (c.state = RUN → late = true → c.srcActive DCL_STALE = false →
      ActsOn (.dclAltStale t ch) s t ch (fun d => d.srcLatched DCL_STALE = true ∧ c.Reacted [] d ∧ (3 ≤ c.sevOf DCL_STALE → d.state = FAULT))) ∧
    (c.state ≠ OFF → (c.state ≠ RUN ∨ late = false) → ActsOn (.dclAltStale t ch) s t ch (fun d => d = c))

/-- R171, R173: a due window opens, is counted and stamped with its time; the trigger follows at once or after its delay; the window closes. -/
def Obligations.MaskingWindows : Prop :=
  ∀ (s : State) (t : Tick) (ch : Ch), let c := s.m.seen t ch
    let ovr := [OVR_COUNT 0, OVR_COUNT 1, OVR_COUNT 2, OVR_COUNT 3]
    c.state ≠ OFF →
    (c.mask.due = true → 0 < c.g MASK_TRIG_TRIG_DLY →
      ActsOn (.windowOpen t ch) s t ch (fun d => d.b MASK_STATUS_WIN_OPEN = true ∧ d.g MASK_COUNT_WIN = (c.g MASK_COUNT_WIN + 1) % 2 ^ 16 ∧
        d.rd MASK_OPEN_TIME_LO = c.devTime % 2 ^ 32 ∧ d.rd MASK_OPEN_TIME_HI = c.devTime / 2 ^ 32 % 2 ^ 32 ∧ d.b MASK_IRQ_STATUS_WIN_OPENED = true ∧
        d.mask = { c.mask with due := false, trig := true } ∧
        c.Frame [MASK_STATUS, MASK_COUNT, MASK_OPEN_TIME_LO, MASK_OPEN_TIME_HI, MASK_IRQ_STATUS] d ∧ { d with regs := c.regs, mask := c.mask } = c)) ∧
    (c.mask.due = false → ActsOn (.windowOpen t ch) s t ch (fun d => d = c)) ∧
    (∀ n < 4, c.mask.trig = true → c.skim.cur = none → (∀ k < 4, c.b (CONV_CTL_INJ_TRIG_WIN k) = true → k = n) → c.b (CONV_CTL_INJ_TRIG_WIN n) = true →
      c.convOn n = true → (c.conv n).inj = none → (c.conv n).reg = none →
      ActsOn (.windowTriggerDelay t ch) s t ch (fun d => d = { c with
        mask := { c.mask with trig := false }
        adc := { c.adc with conv := c.adc.conv.set n { c.conv n with inj := some ⟨0, 2, c.now, c.now + cyc (2 + c.g (CONV_CTL_INJ_DELAY n)), false, []⟩ } } })) ∧
    (c.mask.trig = true → c.skim.cur = none → ActsOn (.windowTriggerDelay t ch) s t ch (fun d => c.Frame (ovr ++ reactionRegs) d)) ∧
    (c.mask.trig = false → ActsOn (.windowTriggerDelay t ch) s t ch (fun d => d = c)) ∧
    ActsOn (.windowClose t ch) s t ch (fun d => d.b MASK_STATUS_WIN_OPEN = false ∧ c.RegsOnly [MASK_STATUS] d)

/-- R179 to R181: a refresh that has become due is forced, counted and reported; its forcing ends with the last refresh; a bootstrap leg
that stays high too long raises its source. -/
def Obligations.BootstrapRefresh : Prop :=
  ∀ (s : State) (t : Tick) (ch : Ch), let c := s.m.seen t ch
    c.state ≠ OFF →
    (c.mask.refDue ≠ 0 → c.srcActive REFRESH_FORCED_SRC = false →
      ActsOn (.refreshForced t ch) s t ch (fun d => d.srcLatched REFRESH_FORCED_SRC = true ∧ d.g MASK_COUNT_REFRESH = (c.g MASK_COUNT_REFRESH + 1) % 2 ^ 16 ∧
        c.Reacted [MASK_COUNT] d)) ∧
    (c.mask.refDue = 0 → ActsOn (.refreshForced t ch) s t ch (fun d => d = c)) ∧
    (c.mask.refresh = 0 → c.b MASK_STATUS_REFRESH = true →
      ActsOn (.refreshForcingEnd t ch) s t ch (fun d => d.b MASK_STATUS_REFRESH = false ∧ c.Frame [MASK_STATUS, MASK_SRC_STATUS] d)) ∧
    (c.mask.refresh ≠ 0 → ActsOn (.refreshForcingEnd t ch) s t ch (fun d => d = c)) ∧
    (∀ l < 3, c.state = RUN → c.bootLegs.testBit l = true → c.g MASK_BOOT_TON_MAX < nth c.mask.hiN l → c.srcActive ON_TIME_EXCEEDED_SRC = false →
      ActsOn (.onTimeExceeded t ch) s t ch (fun d => d.srcLatched ON_TIME_EXCEEDED_SRC = true ∧ c.Reacted [] d ∧
        (3 ≤ c.sevOf ON_TIME_EXCEEDED_SRC → d.state = FAULT))) ∧
    (c.state ≠ RUN → ActsOn (.onTimeExceeded t ch) s t ch (fun d => d = c))

/-- R193, R197 to R199: the release of the frozen speed is accepted in PRIMED with every contactor open; the torque monitor's window ends, its
results are written with their time, and late results raise TM_LATE. -/
def Obligations.ObserverAndMonitor : Prop :=
  ∀ (s : State) (t : Tick) (ch : Ch), let c := s.m.seen t ch
    c.state ≠ OFF →
    (c.state = PRIMED → c.cfbOpen = true → ActsOn (.obsCmdRelease t ch) s t ch (fun d => d = { c with obs := { c.obs with seen := false } })) ∧
    ((c.state ≠ PRIMED ∨ c.cfbOpen = false) →
      ActsOn (.obsCmdRelease t ch) s t ch (fun d => d.b TRUST_STATUS_REL_REFUSED = true ∧ c.RegsOnly [TRUST_STATUS] d)) ∧
    (c.tmOn = true → ActsOn (.tmWindowEnd t ch) s t ch (fun d => d.obs.tm = { allRun := c.state == RUN } ∧ d.regs = c.regs ∧
      { d with obs := c.obs, free := c.free } = c ∧
      ∃ r, d.obs.tmRes = some r ∧ r.ran = (c.obs.tm.allRun && Nat.blt 0 c.obs.tm.n) ∧ r.time = c.devTime ∧ r.pri = c.obs.tm.pri ∧ r.angObs = c.obs.tm.angObs ∧
        ((c.b TM_CFG_CM_EN = false ∨ r.ran = false) → r.cm = none) ∧ ((c.b TM_CFG_PB_EN = false ∨ r.ran = false) → r.pb = none))) ∧
    (c.tmOn = false → ActsOn (.tmWindowEnd t ch) s t ch (fun d => d = c)) ∧
    (∀ r, c.obs.tmRes = some r → r.ran = false → c.b CORE_STATUS_HELD = false →
      ActsOn (.tmResultWrite t ch) s t ch (fun d => d.rd TM_TIME_LO = r.time % 2 ^ 32 ∧ d.rd TM_TIME_HI = r.time / 2 ^ 32 % 2 ^ 32 ∧
        d.b TM_STATUS_CM_VALID = r.cm.isSome ∧ d.b TM_STATUS_PB_VALID = r.pb.isSome ∧ d.obs = { c.obs with tmRes := none } ∧
        c.Frame [TM_TIME_LO, TM_TIME_HI, TM_STATUS, OBS_SRC_STATUS] d)) ∧
    (∀ r, c.obs.tmRes = some r → r.ran = true → c.b CORE_STATUS_HELD = false →
      ActsOn (.tmResultWrite t ch) s t ch (fun d => d.rd TM_TIME_LO = r.time % 2 ^ 32 ∧ d.rd TM_TIME_HI = r.time / 2 ^ 32 % 2 ^ 32 ∧
        d.g TM_STATUS_CYCLES = (c.g TM_STATUS_CYCLES + 1) % 2 ^ 16 ∧ c.Frame ([TM_TIME_LO, TM_TIME_HI, TM_STATUS, TM_RES] ++ reactionRegs) d)) ∧
    (∀ r, c.obs.tmRes = some r → c.srcActive TM_LATE_SRC = false →
      ActsOn (.tmLate t ch) s t ch (fun d => d.srcLatched TM_LATE_SRC = true ∧ c.Reacted [] d)) ∧
    (c.obs.tmRes = none → ActsOn (.tmLate t ch) s t ch (fun d => d = c) ∧ ActsOn (.tmResultWrite t ch) s t ch (fun d => d = c))

/-- R217 to R219, R224, R226, R227, R236 to R238, R24, R211, R254: each condition of R217 latches the slice, turns its switch off and raises its
source; a blanked SC1, an unpowered island, a rail within its limits, a bootstrap rail out of its hour and a slice that is off in OFF do
what their rules say; slice 7 in autonomous discharge latches by itself. -/
def Obligations.SliceLatches : Prop :=
  ∀ (s : State) (t : Tick) (ch : Ch) (n : Nat) (v : Int), let c := s.m.seen t ch
    let x := c.sl n
    let sc := latchRegs n ++ [SL_FAULT (partner n), LEG_HEALTH]
    let armed := x.power = true ∧ c.slCfg n (SC_LVL_EN n) ≠ 0
    let blank := c.since x.onAt (ns (10 * c.slCfg n (SC_LVL_BLANK n)))
    let dead := x.power = false ∧ x.auto = false
    c.slices.length = 8 → n < 8 →
    (c.state ≠ OFF → c.mayLatch n 1 = true → armed → ActsOn (.sc2Trip t ch n v) s t ch (fun d => c.Latched sc n 1 d ∧ (d.sl n).soft = (x.isOn || x.soft))) ∧
    (c.state ≠ OFF → c.mayLatch n 0 = true → armed → x.blanking = false →
      ActsOn (.sc1Trip t ch n v) s t ch (fun d => c.Latched sc n 0 d ∧ (d.sl n).soft = (x.isOn || x.soft))) ∧
    (c.state ≠ OFF → c.mayLatch n 0 = true → armed → x.blanking = true → blank = true →
      ActsOn (.scBlankingEnd t ch n true v) s t ch (fun d => c.Latched sc n 0 d ∧ (d.sl n).blanking = false)) ∧
    (x.blanking = true → blank = true →
      ActsOn (.scBlankingEnd t ch n false v) s t ch (fun d => d = { c with slices := c.slices.set n { x with blanking := false } })) ∧
    (x.blanking = true → ActsOn (.sc1Trip t ch n v) s t ch (fun d => d = c)) ∧
    (∀ above, x.blanking = false ∨ blank = false → ActsOn (.scBlankingEnd t ch n above v) s t ch (fun d => d = c)) ∧
    (c.state ≠ OFF → ActsOn (.plateauEnd t ch n) s t ch (fun d => d = { c with slices := c.slices.set n { x with plateau := false } })) ∧
    (c.state ≠ OFF → x.power = true → c.mayLatch n 3 = true → c.b (SL_CFG_BOOT n) = false → c.negSet n + 100 < v →
      ActsOn (.gsUv t ch n ⟨true, v⟩) s t ch (fun d => c.Latched (latchRegs n) n 3 d)) ∧
    (c.state ≠ OFF → x.power = true → c.mayLatch n 2 = true → c.railUv n v = true → (c.b (SL_CFG_BOOT n) = true → c.slWant n = true) →
      ActsOn (.gsUv t ch n ⟨false, v⟩) s t ch (fun d => c.Latched (latchRegs n) n 2 d)) ∧
    (∀ neg, (c.b (SL_CFG_BOOT n) = true → neg = true ∨ c.slWant n = false ∨ c.railUv n v = false) →
      (c.b (SL_CFG_BOOT n) = false → if neg then v ≤ c.negSet n + 100 else c.railUv n v = false) → ActsOn (.gsUv t ch n ⟨neg, v⟩) s t ch (fun d => d = c)) ∧
    (∀ neg, c.state ≠ OFF → x.power = true → c.mayLatch n 4 = true → c.railOv n neg v = true →
      ActsOn (.gsOv t ch ⟨n, neg, v⟩) s t ch (fun d => c.Latched (latchRegs n) n 4 d)) ∧
    (∀ neg, c.railOv n neg v = false ∨ dead → ActsOn (.gsOv t ch ⟨n, neg, v⟩) s t ch (fun d => d = c)) ∧
    (c.state ≠ OFF → x.power = true → c.mayLatch n 7 = true → ActsOn (.islOt t ch n) s t ch (fun d => c.Latched (latchRegs n) n 7 d)) ∧
    (dead → ActsOn (.islOt t ch n) s t ch (fun d => d = c)) ∧
    (x.power = false → x.auto = true →
      ActsOn (.islOt t ch n) s t ch (fun d => (d.sl n).latch = setBit x.latch 7 true ∧ (d.sl n).isOn = false ∧ (d.sl n).auto = false ∧
        (∀ k, k ≠ n → d.sl k = c.sl k) ∧ { d with slices := c.slices } = c)) ∧
    (c.state ≠ OFF → c.sinceOpt x.asking (ns 1000) = true → x.partnerOff = false → c.mayLatch n 6 = true →
      ActsOn (.partnerOffTimeout t ch n) s t ch (fun d => c.Latched (latchRegs n) n 6 d)) ∧
    (c.state ≠ OFF → (c.sinceOpt x.asking (ns 1000) = false ∨ x.partnerOff = true) → ActsOn (.partnerOffTimeout t ch n) s t ch (fun d => d = c)) ∧
    (c.state ≠ OFF → c.mayLatch n 5 = true → ActsOn (.sliceLinkLoss t ch n) s t ch (fun d => c.Latched (latchRegs n) n 5 d)) ∧
    (c.state = OFF → ActsOn (.sliceLinkLoss t ch n) s t ch (fun d =>
      d = { c with slices := c.slices.set n { x with latch := setBit x.latch 5 true, isOn := false, asking := none, dtDone := false } }))

/-- R211, R205, R163: a slice whose own dead time has passed since it was asked turns on when its partner has been off for 10 ns, and otherwise waits with DT_EXTENDED;
GATE_ON reaches the channel and the partner. -/
def Obligations.SliceTurnOn : Prop :=
  ∀ (s : State) (t : Tick) (ch : Ch) (n : Nat) (on : Bool), let c := s.m.seen t ch
    let x := c.sl n
    let dead := c.sinceOpt x.asking (c.slDead n)
    c.state ≠ OFF → c.slices.length = 8 → n < 8 →
    (dead = true → x.dtDone = false → x.partnerOff = true → c.since x.partnerOffAt (ns 10) = true → c.srcActive DT_EXTENDED = false →
      ActsOn (.deadTimeExpiry t ch n) s t ch (fun d => (d.sl n).isOn = true ∧ (d.sl n).onAt = c.now ∧ (d.sl n).asking = none ∧ (d.sl n).blanking = true ∧
        (∀ k, k ≠ n → d.sl k = c.sl k) ∧ { d with slices := c.slices } = c)) ∧
    (dead = true → x.dtDone = false → x.partnerOff = true → c.since x.partnerOffAt (ns 10) = false →
      ActsOn (.deadTimeExpiry t ch n) s t ch (fun d => d = { c with slices := c.slices.set n { x with dtDone := true } })) ∧
    (dead = true → x.dtDone = false → x.partnerOff = false → c.srcActive DT_EXTENDED = false →
      ActsOn (.deadTimeExpiry t ch n) s t ch (fun d => (d.sl n).isOn = x.isOn ∧ (d.sl n).asking = x.asking ∧ (d.sl n).dtDone = true ∧
        d.srcLatched DT_EXTENDED = true ∧ c.Frame reactionRegs d)) ∧
    (dead = false ∨ x.dtDone = true → ActsOn (.deadTimeExpiry t ch n) s t ch (fun d => d = c)) ∧
    (dead = true → x.dtDone = true → x.partnerOff = true → c.since x.partnerOffAt (ns 10) = true → c.srcActive DT_EXTENDED = false →
      ActsOn (.partnerOffChange t ch n) s t ch (fun d => (d.sl n).isOn = true ∧ (d.sl n).onAt = c.now ∧ (d.sl n).asking = none ∧ (d.sl n).blanking = true ∧
        (∀ k, k ≠ n → d.sl k = c.sl k) ∧ { d with slices := c.slices } = c)) ∧
    (dead = false ∨ x.dtDone = false ∨ x.partnerOff = false ∨ c.since x.partnerOffAt (ns 10) = false → ActsOn (.partnerOffChange t ch n) s t ch (fun d => d = c)) ∧
    (ActsOn (.gateOnChange t ch n on) s t ch (fun d => d.b (SL_STATUS_GATE_ON n) = on ∧ (d.sl n).gateOn = on ∧ (d.sl n).gateAt = c.now ∧
      (n < 6 → (d.sl (partner n)).partnerOff = !on ∧ (d.sl (partner n)).partnerOffAt = c.now) ∧
      (∀ k, k ≠ n → (5 < n ∨ k ≠ partner n) → d.sl k = c.sl k) ∧ c.Frame [SL_STATUS n, SL_SRC_STATUS] d))

/-- R210, R211, R205, R218: the oldest edge that has arrived is taken; a slice told to be off turns off at once; a phase slice told to be on
asks and waits, slices 6 and 7 turn on at once; a rise of the enable after a low of 2 µs clears the latches when no condition is present. -/
def Obligations.SliceEdges : Prop :=
  ∀ (s : State) (t : Tick) (ch : Ch) (n : Nat) (present : Bool) (rail : Int) (w : WireEdge) (ws : List WireEdge), let c := s.m.seen t ch
    let x := c.sl n
    let on := c.b (SL_CFG_USED n) && c.b (SL_STATUS_READY n) && w.en && (if n < 6 then w.pulse == (n % 2 == 0) else w.pulse)
    let low := c.b (SL_CFG_BOOT n) && c.railUv n rail
    let taken := fun (d : Chan) => (d.sl n).pulse = w.pulse ∧ (d.sl n).en = w.en ∧ (d.sl n).wire = ws ∧ (d.sl n).edges = (x.edges + 1) % 256 ∧
      ∀ k, k ≠ n → d.sl k = c.sl k
    c.state ≠ OFF → c.slices.length = 8 → n < 8 →
    (x.wire = [] → ActsOn (.edgeChannelEdge t ch n present rail) s t ch (fun d => d = c)) ∧
    (x.wire = w :: ws → c.now < w.at_ → ActsOn (.edgeChannelEdge t ch n present rail) s t ch (fun d => d = c)) ∧
    (x.wire = w :: ws → w.at_ ≤ c.now → (on = false ∨ x.latch ≠ 0 ∧ (w.en = false ∨ x.en = true ∨ present = true)) →
      ActsOn (.edgeChannelEdge t ch n present rail) s t ch (fun d => taken d ∧ ((w.en = false ∨ x.en = true ∨ present = true) → (d.sl n).latch = x.latch) ∧
        (d.sl n).isOn = false ∧ (d.sl n).asking = none ∧ c.Frame [SL_STATUS n, SL_FAULT n, SL_SRC_STATUS] d)) ∧
    (x.wire = w :: ws → w.at_ ≤ c.now → on = true → x.latch = 0 → x.isOn = false → low = true → c.mayLatch n 2 = true →
      ActsOn (.edgeChannelEdge t ch n present rail) s t ch (fun d => c.Latched (latchRegs n) n 2 d)) ∧
    (x.wire = w :: ws → w.at_ ≤ c.now → c.srcActive DT_EXTENDED = false → on = true → x.latch = 0 → x.isOn = false → low = false →
      ActsOn (.edgeChannelEdge t ch n present rail) s t ch (fun d => taken d ∧ (n < 6 → (d.sl n).asking = some c.now ∧ (d.sl n).dtDone = false ∧ (d.sl n).isOn = false) ∧
        (6 ≤ n → (d.sl n).isOn = true ∧ (d.sl n).onAt = c.now) ∧ c.Frame [SL_STATUS n] d)) ∧
    (x.wire = w :: ws → w.at_ ≤ c.now → on = true → x.latch = 0 → x.isOn = true → x.asking = none →
      ActsOn (.edgeChannelEdge t ch n present rail) s t ch (fun d => taken d ∧ (d.sl n).isOn = true ∧ c.Frame [SL_STATUS n] d)) ∧
    (x.wire = w :: ws → w.at_ ≤ c.now → w.en = true → x.en = false → present = false → x.latch ≠ 0 → (∀ u, x.enLow = some u → c.since u (ns 2000) = true) → x.enLow.isSome = true →
      low = false → ActsOn (.edgeChannelEdge t ch n present rail) s t ch (fun d => taken d ∧ (d.sl n).latch = 0 ∧ d.b (SL_STATUS_LATCHED n) = false ∧
        d.g (SL_FAULT_LATCH n) = 0 ∧ c.Frame [SL_STATUS n, SL_FAULT n, SL_SRC_STATUS] d)) ∧
    (x.wire = w :: ws → w.at_ ≤ c.now → w.en = true → x.en = false → x.latch ≠ 0 → (∀ u, x.enLow = some u → c.since u (ns 1900) = false) → c.srcActive DT_EXTENDED = false → low = false →
      ActsOn (.edgeChannelEdge t ch n present rail) s t ch (fun d => taken d ∧ (d.sl n).latch = x.latch ∧ (d.sl n).isOn = false ∧ c.Frame [SL_STATUS n] d))

/-- R212, R215, R216, R218: a low EN pin takes the enable of its pair away at once, and in ARMED, RUN and HOLD raises EN_LOW; a pin that rises gives
the enable back and ends the hold of the interlock after 2 µs; two gates of a pair on for 20 ns take the pair's enable away and raise INTERLOCK. -/
def Obligations.EnablePins : Prop :=
  ∀ (s : State) (t : Tick) (ch : Ch) (p : Nat), let c := s.m.seen t ch
    let first := if p = 3 then 6 else 2 * p
    let regs := (pairSlices p).map SL_STATUS
    let both := c.since (max (c.sl (2 * p)).gateAt (c.sl (2 * p + 1)).gateAt) (ns 20)
    let live := c.state = ARMED ∨ c.state = RUN ∨ c.state = HOLD
    let low := fun (d : Chan) => d.g EN_STATUS_EN_PIN = setBit (c.g EN_STATUS_EN_PIN) p false ∧ d.lastSent first = (c.pulseOf p, false) ∧
      d.modul.pinFall = c.modul.pinFall.set p c.now ∧ c.Frame (EN_STATUS :: regs) d
    c.state ≠ OFF → p < 4 → c.slices.length = 8 →
    (c.gb EN_STATUS_EN_PIN p = true → ¬ live → ActsOn (.enPinFall t ch p) s t ch low) ∧
    (c.gb EN_STATUS_EN_PIN p = true → live → c.srcActive EN_LOW = false →
      ActsOn (.enPinFall t ch p) s t ch (fun d => d.srcLatched EN_LOW = true ∧ (3 ≤ c.sevOf EN_LOW → d.state = FAULT) ∧ ∃ e, low e ∧ d = e.raise EN_LOW)) ∧
    (c.gb EN_STATUS_EN_PIN p = false → ActsOn (.enPinFall t ch p) s t ch (fun d => d = c)) ∧
    (c.gb EN_STATUS_EN_PIN p = false → ActsOn (.enPinRise t ch p) s t ch (fun d => d.g EN_STATUS_EN_PIN = setBit (c.g EN_STATUS_EN_PIN) p true ∧
      d.modul.ilk = (if c.since (nth c.modul.pinFall p) (ns 2000) then setBit c.modul.ilk p false else c.modul.ilk) ∧
      d.lastSent first = (c.pulseOf p, c.gb EN_STATUS_EN_INT p && !d.modul.ilk.testBit p) ∧
      (setBit (c.g EN_STATUS_EN_PIN) p true = 15 → d.srcActive EN_LOW = false) ∧ c.Frame (EN_STATUS :: SL_SRC_STATUS :: regs) d)) ∧
    (c.gb EN_STATUS_EN_PIN p = true → ActsOn (.enPinRise t ch p) s t ch (fun d => d = c)) ∧
    (p < 3 → (c.sl (2 * p)).gateOn = true → (c.sl (2 * p + 1)).gateOn = true → both = true → c.modul.ilk.testBit p = false → c.srcActive INTERLOCK = false →
      ActsOn (.pairInterlock t ch p) s t ch (fun d => d.srcLatched INTERLOCK = true ∧ (3 ≤ c.sevOf INTERLOCK → d.state = FAULT) ∧ c.Frame reactionRegs d ∧
        ∃ e, e.modul.ilk = setBit c.modul.ilk p true ∧ e.lastSent first = (c.pulseOf p, false) ∧ c.Frame regs e ∧ d = e.raiseBy INTERLOCK (2 * p))) ∧
    ((2 < p ∨ (c.sl (2 * p)).gateOn = false ∨ (c.sl (2 * p + 1)).gateOn = false ∨ both = false ∨ c.modul.ilk.testBit p = true) →
      ActsOn (.pairInterlock t ch p) s t ch (fun d => d = c))

/-- R225, R228, R229: a slice's rails, temperatures and off-state voltage are placed in its window, TS_OT follows the ratio; a measurement that
comes as a frame also shows the link valid; an unpowered island reports nothing. -/
def Obligations.SliceMeasurements : Prop :=
  ∀ (s : State) (t : Tick) (ch : Ch) (n : Nat) (vneg vpos isl v : Int) (ts : Nat), let c := s.m.seen t ch
    let x := c.sl n
    let quiet := (x.bad.filter (fun u => Nat.ble c.now (u + ms 1))).length ≤ 16
    let hot := c.b (SL_CFG_USED n) && c.b (SL_CFG_TS_EN n) && Nat.blt (ts % 65536) (c.g (TS_CFG_LIM n))
    let temps := fun (d : Chan) => d.g (TEMP_MEAS_TS n) = ts % 65536 ∧ d.gi (TEMP_MEAS_ISL_T n) = sat16 isl
    let rails := fun (d : Chan) => d.gi (SUP_MEAS_VNEG n) = sat16 vneg ∧ d.gi (SUP_MEAS_VPOS n) = sat16 vpos
    c.state ≠ OFF → n < 8 →
    (x.power = true → hot = true → c.srcActive TS_OT = false → ActsOn (.sliceSupplyMeasure t ch n vneg vpos ts isl) s t ch (fun d => rails d ∧ temps d ∧
      d.b (SL_FAULT_TS_OT n) = true ∧ d.srcLatched TS_OT = true ∧ c.Frame ([SUP_MEAS n, TEMP_MEAS n, SL_FAULT n] ++ reactionRegs) d)) ∧
    (x.power = true → hot = false → ActsOn (.sliceSupplyMeasure t ch n vneg vpos ts isl) s t ch (fun d => rails d ∧ temps d ∧
      c.Frame [SUP_MEAS n, TEMP_MEAS n, SL_SRC_STATUS] d)) ∧
    (x.power = true → quiet → ActsOn (.sliceTelemetryFrame t ch n (.rails vneg vpos)) s t ch (fun d => rails d ∧ d.b (SL_STATUS_LINK_OK n) = true ∧
      c.Frame [SUP_MEAS n, SL_STATUS n, SL_SRC_STATUS] d)) ∧
    (x.power = true → quiet → hot = false → ActsOn (.sliceTelemetryFrame t ch n (.temps ts isl)) s t ch (fun d => temps d ∧ d.b (SL_STATUS_LINK_OK n) = true ∧
      c.Frame [TEMP_MEAS n, SL_STATUS n, SL_SRC_STATUS] d)) ∧
    (x.power = true → quiet → ActsOn (.sliceTelemetryFrame t ch n (.vds v)) s t ch (fun d => d.gi (VDS_MEAS_VALUE n) = vdsPu v c.bases.v ∧ d.b (VDS_MEAS_VALID n) = true ∧
      c.Frame ([VDS_MEAS n, DCL_ALT, LEG_HEALTH] ++ reactionRegs) d)) ∧
    (x.power = true → c.vdsMeasures n = true → ActsOn (.sliceVdsMeasure t ch n v) s t ch (fun d => d.gi (VDS_MEAS_VALUE n) = vdsPu v c.bases.v ∧ d.b (VDS_MEAS_VALID n) = true ∧
      (c.slices.length = 8 → (d.sl n).vdsRef = some v) ∧ c.Frame ([VDS_MEAS n, DCL_ALT, LEG_HEALTH] ++ reactionRegs) d)) ∧
    ((x.power = false ∨ c.vdsMeasures n = false) → ActsOn (.sliceVdsMeasure t ch n v) s t ch (fun d => d = c)) ∧
    (x.power = false → ActsOn (.sliceSupplyMeasure t ch n vneg vpos ts isl) s t ch (fun d => d = c) ∧
      ∀ m, ActsOn (.sliceTelemetryFrame t ch n m) s t ch (fun d => d = c))

/-- R206, R207, R254; R222, R223: a valid frame to a powered slice is counted, and its first one after autonomous discharge reports it; a write frame brings the slice
the channel's value of a pending register, beyond its third attempt LINK_FAULT instead; a read frame has the slice answer with what it holds; an unpowered island
takes no frame. The tag that the channel has formed for an edge is checked against the edge; a tag that differs latches the slice; one that agrees releases the
slice's measurements, and the step of the rule moves the segment count of an edge of the slice's own switch within its limits; without a tag in time the step is
frozen. -/
def Obligations.FramesAndTagsToSlice : Prop :=
  (∀ (s : State) (t : Tick) (ch : Ch) (n reg : Nat), let c := s.m.seen t ch
    let x := c.sl n
    let base := fun (d : Chan) => (d.sl n).seqTo = (x.seqTo + 1) % 16 ∧ (∀ k, k ≠ n → d.sl k = c.sl k) ∧
      (n = 7 → x.autoSeen = true → d.b DCHG_STATUS_AUTO_SEEN = true ∧ (d.sl 7).auto = false ∧ (d.sl 7).autoSeen = false)
    let own := if n = 7 then [DCHG_STATUS] else []
    c.state ≠ OFF → n < 8 → c.slices.length = 8 → c.skim.cur = none →
    (x.power = true → ActsOn (.sliceIdleFrame t ch n) s t ch (fun d => base d ∧ (d.sl n).sentTo = some ⟨0, x.seqTo, 0, none⟩ ∧ c.Frame own d)) ∧
    (x.power = true → ActsOn (.sliceReadFrame t ch n reg) s t ch (fun d => base d ∧
      (d.sl n).reply = some (reg, RegMap.get x.cfg (chanReset reg &&& cfgMask reg) reg) ∧ c.Frame own d)) ∧
    (∀ w, x.power = true → (cfgRegs n).contains reg = true → x.todo.find? (fun w => w.reg == reg) = some w → w.tries < 3 →
      ActsOn (.sliceWriteFrame t ch n reg) s t ch (fun d => base d ∧
        RegMap.get (d.sl n).cfg (chanReset reg &&& cfgMask reg) reg = d.cfgWord reg % 2 ^ 32 ∧
        (d.sl n).todo = x.todo.map (fun y => if y.reg = reg then ⟨reg, y.tries + 1, false⟩ else y) ∧
        (0 < w.tries → d.g (LINK_STAT_RETRY n) = min 255 (c.g (LINK_STAT_RETRY n) + 1)) ∧
        c.Frame (LINK_STAT n :: own) d)) ∧
    (∀ w, x.power = true → (cfgRegs n).contains reg = true → x.todo.find? (fun w => w.reg == reg) = some w → 3 ≤ w.tries →
      c.b (SL_CFG_USED n) = true → c.srcActive LINK_FAULT = false →
      ActsOn (.sliceWriteFrame t ch n reg) s t ch (fun d => (d.sl n).cfgBad = true ∧ (d.sl n).seqTo = (x.seqTo + 1) % 16 ∧
        d.srcLatched LINK_FAULT = true ∧ (d.sl n).cfg = x.cfg ∧ c.Frame (own ++ reactionRegs) d)) ∧
    (x.power = true → (cfgRegs n).contains reg = true → x.todo.find? (fun w => w.reg == reg) = none →
      ActsOn (.sliceWriteFrame t ch n reg) s t ch (fun d => base d ∧ (d.sl n).cfg = x.cfg ∧ c.Frame own d)) ∧
    (x.power = false → ActsOn (.sliceIdleFrame t ch n) s t ch (fun d => d = c) ∧ ActsOn (.sliceReadFrame t ch n reg) s t ch (fun d => d = c) ∧
      ActsOn (.sliceWriteFrame t ch n reg) s t ch (fun d => d = c))) ∧
  (∀ (s : State) (t : Tick) (ch : Ch) (n count : Nat) (tag : EdgeTag) (e : SliceEdge) (v : Int) (tDly ts : Nat) (tSw : Option Nat), let c := s.m.seen t ch
    let x := c.sl n
    let tgt := c.slCfg n (if e.on then FTH_TGT_TGT_ON n else FTH_TGT_TGT_OFF n)
    let lo := c.slCfg n (if e.on then FTH_SEG_MIN_ON n else FTH_SEG_MIN_OFF n)
    let hi := c.slCfg n (if e.on then FTH_SEG_MAX_ON n else FTH_SEG_MAX_OFF n)
    let seg := if e.on then x.segOn else x.segOff
    let seg' := fun (d : Chan) => if e.on then (d.sl n).segOn else (d.sl n).segOff
    let other := fun (d : Chan) => (if e.on then (d.sl n).segOff else (d.sl n).segOn) = if e.on then x.segOff else x.segOn
    let band := c.slCfg n (FTH_LIM_BAND n)
    let own := if n = 7 then [DCHG_STATUS] else []
    let released := fun (d : Chan) => (d.sl n).edgesBuf = x.edgesBuf.filter (fun z => z.count != e.count) ∧ ∀ k, k ≠ n → d.sl k = c.sl k
    let taken := fun (d : Chan) => (d.sl n).tags = (x.tags.dropWhile (fun g => g.count != count % 256)).drop 1
    let formed := x.tags.find? (fun g => g.count == count % 256) = some tag
    let found := x.edgesBuf.find? (fun e => e.count == count % 256)
    let agrees := e.pulse = tag.pulse ∧ e.en = tag.en
    let seen := x.vdsRef = some v ∧ (c.slCfg n (FTH_LIM_VMIN n) : Int) ≤ v
    c.state ≠ OFF → n < 8 → c.slices.length = 8 → x.power = true →
    (formed → found = some e → agrees → e.own = false → ActsOn (.edgeTag t ch n ⟨count, tDly, tSw⟩) s t ch (fun d => taken d ∧ released d ∧ c.Frame own d)) ∧
    (formed → found = some e → agrees → e.own = true → seen → tag.forced = false → tag.safe = false → x.latch = 0 →
      c.slCfg n (FTH_LIM_FTH_EN n) ≠ 0 → ActsOn (.edgeTag t ch n ⟨count, tDly, some ts⟩) s t ch (fun d => taken d ∧ released d ∧ other d ∧ c.Frame own d ∧
        (tgt + band < ts → seg < hi → lo ≤ seg + 1 → seg' d = seg + 1) ∧ (tgt + band < ts → seg = hi → seg' d = seg) ∧
        (ts + band < tgt → lo < seg → seg ≤ hi + 1 → seg' d = seg - 1) ∧ (ts + band < tgt → seg = lo → seg' d = seg) ∧
        (ts ≤ tgt + band → tgt ≤ ts + band → seg' d = seg) ∧ (d.sl n).reports.length = x.reports.length + 1)) ∧
    (formed → found = some e → agrees → e.own = true → seen → (tag.forced = true ∨ tag.safe = true ∨ x.latch ≠ 0 ∨ c.slCfg n (FTH_LIM_FTH_EN n) = 0) →
      ActsOn (.edgeTag t ch n ⟨count, tDly, some ts⟩) s t ch (fun d => taken d ∧ released d ∧ other d ∧ c.Frame own d ∧ seg' d = seg)) ∧
    (formed → found = some e → ¬ agrees → c.mayLatch n 5 = true → ActsOn (.edgeTag t ch n ⟨count, tDly, tSw⟩) s t ch (fun d =>
      (d.sl n).latch = setBit x.latch 5 true ∧ (d.sl n).isOn = false ∧ d.b (SL_STATUS_LATCHED n) = true ∧ d.srcLatched LINK_FAULT = true ∧
      c.Frame (latchRegs n ++ reactionRegs) d)) ∧
    (formed → found = none → (x.edges + 256 - count % 256) % 256 < 128 → ActsOn (.edgeTag t ch n ⟨count, tDly, tSw⟩) s t ch (fun d => taken d ∧
      (∀ k, k ≠ n → d.sl k = c.sl k) ∧ c.Frame own d ∧ (d.sl n).latch = x.latch)) ∧
    (x.tags.find? (fun g => g.count == count % 256) = none → ActsOn (.edgeTag t ch n ⟨count, tDly, tSw⟩) s t ch (fun d => d = c)) ∧
    (found = some e → e.own = true → c.since e.at_ (us 2) = true → ActsOn (.edgeTagTimeout t ch n count tDly tSw) s t ch (fun d =>
      released d ∧ other d ∧ c.Frame own d ∧ seg' d = seg)) ∧
    (found = some e → (e.own = false ∨ c.since e.at_ (us 2) = false) → ActsOn (.edgeTagTimeout t ch n count tDly tSw) s t ch (fun d => d = c)) ∧
    (found = none → ActsOn (.edgeTagTimeout t ch n count tDly tSw) s t ch (fun d => d = c)))

/-- R206, R207, R209, R222, R223, R228: a valid frame from a powered slice is counted and shows its link valid; a status frame brings the
segment counts; an acknowledge and a right read-back finish a configuration write, a wrong one raises LINK_FAULT; an edge report goes to its
registers, and 64 edges at a limit raise FTH_LIMIT; a fault frame brings the latches; a discarded frame counts, and more than 16 from the
slice within 1 ms raise LINK_CRC. -/
def Obligations.FramesFromSlice : Prop :=
  ∀ (s : State) (t : Tick) (ch : Ch) (n reg data : Nat), let c := s.m.seen t ch
    let x := c.sl n
    let recent := x.bad.filter (fun u => Nat.ble c.now (u + ms 1))
    let base := fun (d : Chan) => (d.sl n).seqFrom = (x.seqFrom + 1) % 16 ∧ d.b (SL_STATUS_LINK_OK n) = true ∧ ∀ k, k ≠ n → d.sl k = c.sl k
    let own := [SL_STATUS n, SL_SRC_STATUS]
    let right := data &&& cfgMask reg = c.cfgWord reg
    let late := (c.now :: x.bad).take 17
    c.state ≠ OFF → n < 8 → c.slices.length = 8 →
    (x.power = true → recent.length ≤ 16 →
      ActsOn (.sliceStatusFrame t ch n) s t ch (fun d => base d ∧ d.g (SL_STATUS_SEG_ON n) = x.segOn % 16 ∧ d.g (SL_STATUS_SEG_OFF n) = x.segOff % 16 ∧ c.Frame own d) ∧
      ActsOn (.sliceWriteAckFrame t ch n reg) s t ch (fun d => base d ∧
        (d.sl n).todo = x.todo.map (fun w => if w.reg = reg ∧ 0 < w.tries then { w with acked := true } else w) ∧ c.Frame own d) ∧
      ((n ≠ 7 ∨ x.latch = 0 ∨ c.prot.dchg = none) →
        ActsOn (.sliceFaultFrame t ch n) s t ch (fun d => base d ∧ d.g (SL_FAULT_LATCH n) = x.latch % 256 ∧ c.Frame (SL_FAULT n :: own) d)) ∧
      (∀ r rs, x.reports = r :: rs → r.lim < 64 →
        ActsOn (.sliceEdgeReportFrame t ch n) s t ch (fun d => base d ∧ (d.sl n).reports = rs ∧
          d.rd (if r.on then FTH_ON n else FTH_OFF n) =
            (2 ^ 31 + b2n r.noTrans * 2 ^ 30 + b2n r.frozen * 2 ^ 29 + r.seg * 2 ^ 24 + r.tDly * 2 ^ 12 + r.tSw) % 2 ^ 32 ∧
          d.g (if r.on then FTH_STAT_LIM_ON n else FTH_STAT_LIM_OFF n) = r.lim ∧ d.g (SL_STATUS_SEG_ON n) = x.segOn % 16 ∧
          c.Frame ([FTH_ON n, FTH_OFF n, FTH_STAT n] ++ own) d)) ∧
      (∀ r rs, x.reports = r :: rs → 64 ≤ r.lim → c.srcActive FTH_LIMIT = false →
        ActsOn (.sliceEdgeReportFrame t ch n) s t ch (fun d => d.srcLatched FTH_LIMIT = true ∧ d.g (if r.on then FTH_STAT_LIM_ON n else FTH_STAT_LIM_OFF n) = min 255 r.lim ∧
          c.Frame ([FTH_ON n, FTH_OFF n, FTH_STAT n] ++ reactionRegs) d)) ∧
      (x.reports = [] → ActsOn (.sliceEdgeReportFrame t ch n) s t ch (fun d => base d ∧ c.Frame own d)) ∧
      (∀ w, (cfgRegs n).contains reg = true → x.todo.find? (fun w => w.reg == reg) = some w → w.acked = true → right → x.cfgBad = false →
        ActsOn (.sliceReadDataFrame t ch n reg data) s t ch (fun d => base d ∧ (d.sl n).todo = x.todo.filter (fun y => y.reg != reg) ∧
          (x.todo.filter (fun y => y.reg != reg) = [] → (d.sl n).cfgOk = true) ∧ c.Frame own d)) ∧
      ((cfgRegs n).contains reg = true → x.todo.find? (fun w => w.reg == reg) = none → ¬ right → c.b (SL_CFG_USED n) = true → c.srcActive LINK_FAULT = false →
        ActsOn (.sliceReadDataFrame t ch n reg data) s t ch (fun d => (d.sl n).cfgBad = true ∧ d.srcLatched LINK_FAULT = true ∧ c.Frame (SL_STATUS n :: reactionRegs) d))) ∧
    (∀ word, x.power = true → slFrameOk false word = false →
      ActsOn (.sliceFrameInvalid t ch n ⟨false, word⟩) s t ch (fun d => d.g (LINK_STAT_CRC_ERR n) = min 65535 (c.g (LINK_STAT_CRC_ERR n) + 1) ∧
        c.RegsOnly [LINK_STAT n] d)) ∧
    (∀ word, x.power = true → slFrameOk true word = false → c.b (SL_CFG_USED n) = true → (late.filter (fun u => Nat.ble c.now (u + ms 1))).length = 17 →
      c.srcActive LINK_CRC = false →
      ActsOn (.sliceFrameInvalid t ch n ⟨true, word⟩) s t ch (fun d => d.g (LINK_STAT_CRC_ERR n) = min 65535 (c.g (LINK_STAT_CRC_ERR n) + 1) ∧
        d.srcLatched LINK_CRC = true ∧ c.Frame (LINK_STAT n :: reactionRegs) d)) ∧
    (∀ word, x.power = true → slFrameOk true word = false → c.b (SL_CFG_USED n) = true → (late.filter (fun u => Nat.ble c.now (u + ms 1))).length ≤ 16 →
      ActsOn (.sliceFrameInvalid t ch n ⟨true, word⟩) s t ch (fun d => d.g (LINK_STAT_CRC_ERR n) = min 65535 (c.g (LINK_STAT_CRC_ERR n) + 1) ∧
        (d.sl n).bad = late.filter (fun u => Nat.ble c.now (u + ms 1)) ∧ c.Frame [LINK_STAT n, SL_SRC_STATUS] d)) ∧
    (∀ from_ word, slFrameOk from_ word = true → ActsOn (.sliceFrameInvalid t ch n ⟨from_, word⟩) s t ch (fun d => d = c)) ∧
    (∀ from_ seq addr data, ∀ type < 4, slFrameOk from_ (slFrameWord type seq addr data) = true) ∧
    (x.power = false → ∀ from_ word, ActsOn (.sliceStatusFrame t ch n) s t ch (fun d => d = c) ∧ ActsOn (.sliceFrameInvalid t ch n ⟨from_, word⟩) s t ch (fun d => d = c))

/-- R207 to R209, R224: the loss of the channel's link to a used slice takes its LINK_OK and READY away and raises LINK_FAULT; the check of
every 1 ms raises LINK_FAULT for a slice whose configuration is not the channel's, and leaves the others; an island that powers up is not
ready, holds no latch and is sent its configuration; a slice whose configuration is read back and whose link is valid becomes ready. -/
def Obligations.SliceLinkSupervision : Prop :=
  ∀ (s : State) (t : Tick) (ch : Ch) (n : Nat), let c := s.m.seen t ch
    let x := c.sl n
    let ready := [SL_STATUS n, SL_IRQ_STATUS, SL_SRC_STATUS] ++ (if n = 6 then [CHOP_STATUS, EN_STATUS] else [])
    let fine := fun k => (c.sl k).power = false ∨ c.b (SL_CFG_USED k) = false ∨ (c.sl k).cfgOk = false ∨ (c.cfgSame k = true ∧ (c.sl k).cfgBad = false)
    c.state ≠ OFF → n < 8 → c.slices.length = 8 →
    (c.b (SL_CFG_USED n) = true → c.parked = false → c.srcActive LINK_FAULT = false →
      ActsOn (.channelLinkLoss t ch n) s t ch (fun d => d.b (SL_STATUS_LINK_OK n) = false ∧ d.b (SL_STATUS_READY n) = false ∧
        d.g (LINK_STAT_LOSS n) = min 255 (c.g (LINK_STAT_LOSS n) + 1) ∧ d.srcLatched LINK_FAULT = true ∧
        c.Frame ([LINK_STAT n, CHOP_STATUS, SL_IRQ_STATUS] ++ reactionRegs) d)) ∧
    ((c.b (SL_CFG_USED n) = false ∨ c.parked = true) → ActsOn (.channelLinkLoss t ch n) s t ch (fun d => d = c)) ∧
    ((∀ k < 8, fine k) → ActsOn (.sliceConfigCheck t ch) s t ch (fun d => d = c)) ∧
    ((∀ k < 8, k ≠ n → (c.sl k).power = false) → x.power = true → c.b (SL_CFG_USED n) = true → x.cfgOk = true → c.cfgSame n = false → c.srcActive LINK_FAULT = false →
      ActsOn (.sliceConfigCheck t ch) s t ch (fun d => (d.sl n).cfgBad = true ∧ d.srcLatched LINK_FAULT = true ∧ c.Frame reactionRegs d)) ∧
    (c.parked = false → ActsOn (.islandPowerUp t ch n) s t ch (fun d => (d.sl n).power = true ∧ (d.sl n).latch = 0 ∧ (x.auto = false → (d.sl n).cfg = []) ∧ (d.sl n).tags = [] ∧ (d.sl n).edges = c.pairEdges n ∧ (d.sl n).cfgOk = false ∧
      (d.sl n).todo.map CfgWrite.reg = cfgRegs n ∧ d.b (SL_STATUS_READY n) = false ∧ d.b (SL_STATUS_LATCHED n) = false ∧ d.g (SL_FAULT_LATCH n) = 0 ∧
      d.b (VDS_MEAS_VALID n) = false ∧ c.Frame ([VDS_MEAS n, SL_FAULT n] ++ ready) d)) ∧
    (c.parked = true → ActsOn (.islandPowerUp t ch n) s t ch (fun d => d = c)) ∧
    (x.power = true → x.cfgOk = true → c.sinceOpt x.railsAt (us 100) = true → c.b (SL_STATUS_LINK_OK n) = true → c.b (SL_STATUS_READY n) = false →
      ActsOn (.sliceReady t ch n) s t ch (fun d => d.b (SL_STATUS_READY n) = true ∧ d.b SL_IRQ_STATUS_READY_CHANGE = true ∧ d.b (SL_STATUS_LINK_OK n) = true ∧
        c.Frame ready d)) ∧
    ((x.power = false ∨ x.cfgOk = false ∨ c.sinceOpt x.railsAt (us 100) = false ∨ c.b (SL_STATUS_LINK_OK n) = false) → ActsOn (.sliceReady t ch n) s t ch (fun d => d = c))

/-- R230 to R232: a primer test starts in PRIMED, or fails at once where its first step is not met; a reading settles its phase or enters the
average; a phase that does not settle in time is marked; the average reports and classifies the phase and the next one follows; the end of
the test enters what it found in the leg health, or clears it. -/
def Obligations.PrimerTest : Prop :=
  ∀ (s : State) (t : Tick) (ch : Ch) (p : Primer) (vl vh ret : Int), let c := s.m.seen t ch
    let k := p.phase
    let mVl := meanOf (p.sums.map (fun x => x.1))
    let mVh := meanOf (p.sums.map (fun x => x.2.1))
    let ratio := meanOf (p.sums.map (fun x => x.2.2))
    let cls : Nat := if 81920 ≤ ratio then 1 else if 32768 ≤ ratio then 0 else if mVh ≤ -300 then 3 else 2
    let may := c.state = PRIMED ∧ c.ctl.arm = none ∧ c.modul.primer = none
    let agree := fun (l h : Int) => decide (100 * ((l - vl).natAbs : Int) < (max l.natAbs vl.natAbs : Int) + 10000) &&
      decide (100 * ((h - vh).natAbs : Int) < (max h.natAbs vh.natAbs : Int) + 10000)
    let at_ := fun (q : Primer) => { c with modul := { c.modul with primer := some q } }
    let clean := fun j => c.g ⟨PRIMER_RES, 2 * j + 1, 2 * j⟩ ≠ 1 ∧ c.g ⟨PRIMER_RES, 2 * j + 1, 2 * j⟩ ≠ 2 ∧ c.gb PRIMER_RES_RAIL_UNK j = false
    let enters := fun (d : Chan) => ∀ j < 3, (∀ i < j, clean i) → ((c.g ⟨PRIMER_RES, 2 * j + 1, 2 * j⟩ = 1 ∨ c.gb PRIMER_RES_RAIL_UNK j = true) → d.gb LEG_HEALTH_FS_H j = true) ∧
      (c.g ⟨PRIMER_RES, 2 * j + 1, 2 * j⟩ = 2 → d.gb LEG_HEALTH_FS_L j = true)
    c.state ≠ OFF →
    (may → c.primerPre = true → ActsOn (.primerReq t ch) s t ch (fun d => d.modul.primer = some ⟨0, c.now, none, none, [], false⟩ ∧ d.b PRIMER_RES_RUNNING = true ∧
      d.b PRIMER_RES_DONE = false ∧ d.g PRIMER_RES_CLASS = 0 ∧ d.g SL_CH_CTL_PRIMER_REQ = 0 ∧ c.Frame [SL_CH_CTL, PRIMER_RES] d ∧ { d with regs := c.regs, modul := c.modul } = c)) ∧
    (may → c.primerPre = false → c.srcActive PRIMER_FAIL = false → ActsOn (.primerReq t ch) s t ch (fun d => d.srcLatched PRIMER_FAIL = true ∧ d.b SL_IRQ_STATUS_PRIMER_DONE = true ∧
      c.Frame ([SL_CH_CTL, SL_IRQ_STATUS] ++ reactionRegs) d ∧ ∃ e, e.b PRIMER_RES_PRE_FAIL = true ∧ e.b PRIMER_RES_DONE = true ∧ e.b PRIMER_RES_RUNNING = false ∧
      c.Frame [SL_CH_CTL, SL_IRQ_STATUS, PRIMER_RES] e ∧ d = e.raise PRIMER_FAIL)) ∧
    (¬ may → ActsOn (.primerReq t ch) s t ch (fun d => d.g SL_CH_CTL_PRIMER_REQ = 0 ∧ c.RegsOnly [SL_CH_CTL] d)) ∧
    (c.modul.primer = none → ActsOn (.primerReading t ch vl vh ret) s t ch (fun d => d = c) ∧ ActsOn (.primerSettleTimeout t ch) s t ch (fun d => d = c) ∧
      ActsOn (.primerAverageEnd t ch) s t ch (fun d => d = c) ∧ ActsOn (.primerTestEnd t ch) s t ch (fun d => d = c)) ∧
    (c.modul.primer = some p →
      (∀ a, p.off = false → p.avgAt = some a → ActsOn (.primerReading t ch vl vh ret) s t ch (fun d => d = at_ { p with sums := (vl, vh, ret) :: p.sums })) ∧
      (p.off = false → p.avgAt = none → p.last = none → ActsOn (.primerReading t ch vl vh ret) s t ch (fun d => d = at_ { p with last := some (vl, vh) })) ∧
      (∀ l h, p.off = false → p.avgAt = none → p.last = some (l, h) →
        ActsOn (.primerReading t ch vl vh ret) s t ch (fun d => d = at_ { p with last := some (vl, vh), avgAt := if agree l h && c.since p.since (ms 1) then some c.now else none })) ∧
      (p.off = false → p.avgAt = none → c.since p.since (ms (c.g PRIMER_CFG_SETTLE)) = true → k < 3 → ActsOn (.primerSettleTimeout t ch) s t ch (fun d => d.gb PRIMER_RES_NSET k = true ∧
        d.modul.primer = some { p with avgAt := some c.now } ∧ c.Frame [PRIMER_RES] d)) ∧
      ((p.off = true ∨ p.avgAt.isSome = true ∨ c.since p.since (ms (c.g PRIMER_CFG_SETTLE)) = false) → ActsOn (.primerSettleTimeout t ch) s t ch (fun d => d = c)) ∧
      (p.off = false → c.sinceOpt p.avgAt (ms 1) = true → p.sums ≠ [] → k < 3 → ActsOn (.primerAverageEnd t ch) s t ch (fun d =>
        d.g ⟨PRIMER_RES, 2 * k + 1, 2 * k⟩ = cls ∧ d.gb PRIMER_RES_RAIL_UNK k = (cls == 2 && decide (mVl + mVh < 2000)) ∧
        d.gi (PRIMER_VLH_VH k) = sat16 (rdiv mVh 50) ∧ d.gi (PRIMER_VLH_VL k) = sat16 (rdiv mVl 50) ∧
        d.modul.primer = (if k < 2 then some ⟨k + 1, c.now, none, none, [], false⟩ else some { p with off := true, since := c.now }) ∧
        c.Frame [PRIMER_RES, PRIMER_VLH k, PRIMER_RATIO] d)) ∧
      ((p.off = true ∨ c.sinceOpt p.avgAt (ms 1) = false ∨ p.sums = []) → ActsOn (.primerAverageEnd t ch) s t ch (fun d => d = c)) ∧
      ((p.off = false ∨ c.since p.since (ms 1) = false) → ActsOn (.primerTestEnd t ch) s t ch (fun d => d = c)) ∧
      (p.off = true → c.since p.since (ms 1) = true → c.g PRIMER_RES_CLASS = 0 → c.g PRIMER_RES_NSET = 0 → c.ctl.arm = none → ActsOn (.primerTestEnd t ch) s t ch (fun d =>
        d.b SL_IRQ_STATUS_PRIMER_DONE = true ∧ d.rd LEG_HEALTH = 0 ∧ c.Frame ([LEG_HEALTH, SL_IRQ_STATUS] ++ reactionRegs) d ∧
        (c.rd LEG_HEALTH = 0 → d.b PRIMER_RES_DONE = true ∧ d.b PRIMER_RES_RUNNING = false ∧ c.Frame [PRIMER_RES, SL_IRQ_STATUS] d))) ∧
      (p.off = true → c.since p.since (ms 1) = true → (c.g PRIMER_RES_CLASS ≠ 0 ∨ c.g PRIMER_RES_NSET ≠ 0) → ActsOn (.primerTestEnd t ch) s t ch (fun d =>
        enters d ∧ d.b SL_IRQ_STATUS_PRIMER_DONE = true ∧ d.ctl.arm = none ∧ c.Frame ([LEG_HEALTH, SL_IRQ_STATUS] ++ reactionRegs) d ∧
        ((∀ j < 3, clean j) → c.srcActive PRIMER_FAIL = false → d.srcLatched PRIMER_FAIL = true) ∧ ∃ e, enters e ∧ d = (e.raise PRIMER_FAIL).armFail)))

/-- R479, R483, R486, R488, R491, R493, R494, R498: VIN rising from no power gives a power-on reset, a fall below VIN_RST a supply reset, the loss of
PD_AON takes everything; the release powers up, checks the crystal and the undercoat record; nRESET resets, nWAKE and the wake timer start the
device from STANDBY, and LP_GO enters the low-power state; every other form changes nothing. -/
def Obligations.PowerUpAndDown : Prop :=
  ∀ (s : State) (t : Tick) (mv : Nat) (ok : Bool) (rc : UcRec), let m := s.m.seenAt t
    let d := s.m.seenDev t
    let p := d.pwr
    let st := d.g SYS_PWR_CTL_LP_STATE
    let rails := p.rails.testBit 0 && p.rails.testBit 1 && p.rails.testBit 2 && p.rails.testBit 7
    let nothing := fun (i : Instr) => ActsDev i s t (fun e => e = d)
    let shows := fun (e : Dev) => e.g AON_VIN_STATUS_VIN = min 1023 (mv / 50)
    let allPass := fun (r : UcRec) => r.ok = true ∧ (∀ k < 8, nth r.res k = 1) ∧ (d.time - r.time) / 1000000000 ≤ 3600 * d.g BIST_CFG_UC_MAX_AGE
    let woken := fun (cause : Nat) (x : Mach) => m.SupplyTaken .supply [1, cause] [AON_IRQ_STATUS] x ∧ x.dev.b AON_IRQ_STATUS_WAKE = true
    (p.phase = .noAon → mv < 3000 → nothing (.vinRise t mv)) ∧
    (p.phase = .noAon → 3000 ≤ mv → Acts (.vinRise t mv) s (fun x => m.PoweredOn [AON_VIN_STATUS] x ∧ shows x.dev ∧ x.dev.pwr.phase = .held ∧ x.dev.pwr.rails = if 5000 < mv then 0xFF else p.rails)) ∧
    (p.phase ≠ .noAon → ActsDev (.vinRise t mv) s t (fun e => shows e ∧ e.pwr = { p with rails := if 5000 < mv then 0xFF else p.rails } ∧
      d.Frame [AON_VIN_STATUS] e ∧ { e with regs := d.regs, pwr := p } = d)) ∧
    (p.phase = .noAon → nothing (.vinBelowVinRst t mv)) ∧
    ((p.phase = .standby ∨ p.phase = .off) → ActsDev (.vinBelowVinRst t mv) s t (fun e => shows e ∧ e.pwr = { p with rails := setBit p.rails 7 false } ∧
      d.Frame [AON_VIN_STATUS] e ∧ { e with regs := d.regs, pwr := p } = d)) ∧
    ((p.phase = .run ∨ p.phase = .held) → Acts (.vinBelowVinRst t mv) s (fun x => m.SupplyTaken .supply [1] [AON_VIN_STATUS] x ∧ shows x.dev ∧ x.dev.pwr.rails = setBit p.rails 7 false)) ∧
    Acts (.pdAonLoss t) s (fun x => m.PoweredOn [] x ∧ x.dev.pwr.phase = .noAon ∧ x.dev.pwr.rails = 0) ∧
    ((p.phase ≠ .held ∨ rails = false) → nothing (.powerUpRelease t ok)) ∧
    (p.phase = .held → rails = true → ActsDev (.powerUpRelease t ok) s t (fun e => e.pwr.phase = .run ∧ e.pwr.xtalOk = ok ∧ e.pwr.pllOnAon = !ok ∧ (ok = false → d.srcActive XTAL_LOSS_SRC = false → e.srcLatched XTAL_LOSS_SRC = true) ∧
      { e with regs := d.regs, pwr := p, bist := d.bist, recs := d.recs, seqs := d.seqs, lastTime := d.lastTime } = d ∧
      d.Frame ([SYS_SRC_STATUS, BIST_STATUS, UC_AGE, UC_TIME_LO, UC_TIME_HI, REPAIR_STAT] ++ (List.range 8).map BIST_RES) e)) ∧
    (p.phase = .held → rails = true → d.bist.ucRec = none → ActsDev (.powerUpRelease t ok) s t (fun e => e.bist.mode = .startup ∧ e.bist.todo = List.range 8 ∧ e.pwr.smc = p.smc ∧ e.bist.ucRec = none)) ∧
    (p.phase = .held → rails = true → p.smc = .down → d.bist.ucRec = some rc → allPass rc → ActsDev (.powerUpRelease t ok) s t (fun e => e.bist.mode = .idle ∧ e.bist.todo = [] ∧ e.pwr.smc = .released ∧ e.pwr.nrstout = true ∧
      e.bist.ucRec = none ∧ e.b BIST_STATUS_REC_FOUND = true ∧ e.b BIST_STATUS_REC_YOUNG = true ∧ ∀ k < 8, e.g (BIST_RES_RUN_RES k) = 1)) ∧
    (p.phase = .noAon → nothing (.nresetPin t mv)) ∧
    ((p.phase = .standby ∨ p.phase = .off) → Acts (.nresetPin t mv) s (fun x => m.SupplyTaken .supply [1] [] x)) ∧
    ((p.phase = .run ∨ p.phase = .held) → Acts (.nresetPin t mv) s (fun x => m.SupplyTaken .pin [2] [] x)) ∧
    (p.phase = .standby → Acts (.nwake t) s (woken 7)) ∧
    (p.phase = .run → p.shut ≠ 0 → ActsDev (.nwake t) s t (fun e => e = { d with pwr := { p with wakeHeld := true } })) ∧
    ((p.phase = .run ∧ p.shut = 0 ∨ p.phase = .held ∨ p.phase = .off ∨ p.phase = .noAon) → nothing (.nwake t)) ∧
    (p.phase = .standby → d.b AON_WAKE_CFG_TIMER_EN = true → d.since p.since (ms (60000 * d.g AON_WAKE_CFG_T)) = true → Acts (.aonWakeTimer t) s (woken 8)) ∧
    ((p.phase ≠ .standby ∨ d.b AON_WAKE_CFG_TIMER_EN = false ∨ d.since p.since (ms (60000 * d.g AON_WAKE_CFG_T)) = false) → nothing (.aonWakeTimer t)) ∧
    (d.alive = true → (st = 1 ∨ st = 2) → (p.wakeHeld = false ∨ st = 2) → Acts (.lpGo t) s (fun x => x.dev.pwr.phase = (if st = 1 then .standby else .off) ∧ x.dev.pwr.smc = .down ∧ x.dev.pwr.shut = 0 ∧
      (∀ c, Chan.InReset .supply (m.chan c) (x.chan c)) ∧ x.dev.Cleared ∧ d.Durable x.dev ∧ x.dev.bist.ucRec = d.bist.ucRec ∧ x.holds = [] ∧ d.Frame ((d.regs.map Prod.fst).filter (fun a => !keptBySupply a)) x.dev)) ∧
    (d.alive = true → st = 1 → p.wakeHeld = true → Acts (.lpGo t) s (fun x => x.dev.pwr.phase = .held ∧ x.dev.gb AON_RST_CAUSE_CAUSE 7 = true ∧ x.dev.b AON_IRQ_STATUS_WAKE = true ∧ (∀ c, Chan.InReset .supply (m.chan c) (x.chan c)) ∧ x.dev.Cleared)) ∧
    ((d.alive = false ∨ st = 0 ∨ st = 3) → nothing (.lpGo t))

/-- R478, R481, R482, R491, R492, R495: a rail that leaves its window takes the reset of what it supplies, and one that comes back releases the SMC
pair; a dip of VIN is shown, and at its end logged and reported; the watchdog resets the SMC when its time has passed without a restart; a soft
reset of a block returns its registers to their reset words. -/
def Obligations.RailsSagsAndWatchdog : Prop :=
  ∀ (s : State) (t : Tick) (mv rail bits at_ time : Nat), let m := s.m.seenAt t
    let d := s.m.seenDev t
    let p := d.pwr
    let q := { p with rails := setBit p.rails rail false }
    let k := d.g AON_SAG_IDX_NEXT
    let wd := d.alive && d.b SYS_WDOG_EN && !d.halted && d.since p.kickAt (ms (d.g SYS_WDOG_T))
    let info := 2 ^ 31 + min 255 (mv / 50) * 2 ^ 22 + min (2 ^ 22 - 1) ((d.now - at_) / us 10)
    let nothing := fun (i : Instr) => ActsDev i s t (fun e => e = d)
    let blkOff := fun (b : Nat) (e : Dev) => d.arch.hostCfg = [] → d.arch.canCfg = [] → d.arch.ident = none → ∀ a ∈ d.regs.map Prod.fst, a / 65536 = b → a ≠ ARC_BLOCKS → a ≠ ARC_STATUS →
      (∀ c < 2, a ≠ CAN_CTL c ∧ a ≠ CAN_STATUS c ∧ a ≠ CAN_IRQ_STATUS c ∧ a ≠ CAN_DLYC c) → e.rd a = devReset a
    ((6 < rail ∨ p.phase = .noAon) → nothing (.railOutOfWindow t rail) ∧ nothing (.railBackInWindow t rail)) ∧
    (rail = 0 → p.phase ≠ .noAon → Acts (.railOutOfWindow t rail) s (fun x => m.PoweredOn [] x ∧ x.dev.pwr.rails = q.rails ∧ x.dev.pwr.phase = .held)) ∧
    (rail ≠ 0 → rail ≤ 6 → p.phase ≠ .noAon → p.phase ≠ .run → ActsDev (.railOutOfWindow t rail) s t (fun e => e = { d with pwr := q })) ∧
    (rail = 1 → p.phase = .run → Acts (.railOutOfWindow t rail) s (fun x => m.SupplyTaken .supply [1] [] x ∧ x.dev.pwr.rails = q.rails)) ∧
    (rail = 2 → p.phase = .run → ActsDev (.railOutOfWindow t rail) s t (fun e => ({ d with pwr := q } : Dev).WarmTaken 6 e ∧ e.pwr.smc = .down)) ∧
    (3 ≤ rail → rail ≤ 6 → p.phase = .run → Acts (.railOutOfWindow t rail) s (fun x => x.dev.pwr = q ∧ Chan.InReset .channel (m.chan (railCh rail)) (x.chan (railCh rail)) ∧
      x.chan (railCh rail).other = m.chan (railCh rail).other ∧ d.Frame [SYS_PWR_CTL] x.dev)) ∧
    (rail ≤ 6 → p.phase ≠ .noAon → (rail ≠ 2 ∨ p.phase ≠ .run ∨ p.smc ≠ .down ∨ d.bist.mode = .undercoat) → ActsDev (.railBackInWindow t rail) s t (fun e =>
      e = { d with pwr := { p with rails := setBit p.rails rail true, back := if p.rails.testBit rail then p.back else p.back.set rail d.now } })) ∧
    (rail = 2 → p.phase = .run → p.smc = .down → d.bist.mode ≠ .undercoat → d.bist.stuck = false → d.bist.todo.contains 0 = false → d.bist.todo.contains 1 = false →
      ActsDev (.railBackInWindow t rail) s t (fun e => e.pwr.smc = .released ∧ e.pwr.nrstout = true ∧ e.pwr.rails = setBit p.rails rail true ∧ { e with pwr := p } = d)) ∧
    ((p.phase = .noAon ∨ p.dip ≠ none) → nothing (.vinDipBegin t mv)) ∧
    (p.phase ≠ .noAon → p.dip = none → ActsDev (.vinDipBegin t mv) s t (fun e => e.g AON_VIN_STATUS_VIN = min 1023 (mv / 50) ∧ e.b AON_VIN_STATUS_NOW = true ∧ e.b AON_VIN_STATUS_STICKY = true ∧
      e.pwr = { p with dip := some (d.now, d.time) } ∧ d.Frame [AON_VIN_STATUS] e ∧ { e with regs := d.regs, pwr := p } = d)) ∧
    (p.dip = none → nothing (.vinDipEnd t mv)) ∧
    (p.dip = some (at_, time) → ActsDev (.vinDipEnd t mv) s t (fun e => e.rd (AON_SAG_SEQ k) = d.seqOf 7 % 2 ^ 32 ∧ e.rd (AON_SAG_TIME_LO k) = time % 2 ^ 32 ∧ e.rd (AON_SAG_TIME_HI k) = time / 2 ^ 32 % 2 ^ 32 ∧
      e.rd (AON_SAG_INFO k) = info ∧ e.g AON_SAG_IDX_NEXT = (k + 1) % 16 ∧ e.g AON_SAG_IDX_COUNT = Sys2Proof.satAdd 65535 (d.g AON_SAG_IDX_COUNT) ∧ e.b AON_VIN_STATUS_NOW = false ∧ e.b AON_IRQ_STATUS_SAG = true ∧
      e.pwr = { p with dip := none } ∧ (d.alive = true → e.srcLatched VIN_WARN_SRC = true) ∧
      d.Frame ([AON_SAG_SEQ k, AON_SAG_TIME_LO k, AON_SAG_TIME_HI k, AON_SAG_INFO k, AON_SAG_IDX, AON_VIN_STATUS, AON_IRQ_STATUS] ++ (if d.alive then [SYS_SRC_STATUS, NTF_PEND2] else [])) e)) ∧
    (wd = false → nothing (.smcWdog t)) ∧
    (wd = true → ActsDev (.smcWdog t) s t (fun e => (d.raise SMC_WDOG_SRC).WarmTaken 3 e ∧ e.pwr.kickAt = d.now)) ∧
    (d.alive = true → ActsDev (.sysWdogKick t) s t (fun e => e = { d with pwr := { p with kickAt := d.now } })) ∧
    (d.alive = false → nothing (.sysWdogKick t) ∧ nothing (.sysBlkRst t bits)) ∧
    (d.alive = true → bits = 0 → nothing (.sysBlkRst t bits)) ∧
    (d.alive = true → bits = 1 → ActsDev (.sysBlkRst t bits) s t (fun e => blkOff 3 e ∧ (d.arch.hostCfg = [] → e.eth = {}) ∧ e.pwr = p ∧ e.can = d.can ∧ e.colmo = d.colmo ∧ e.bist = d.bist)) ∧
    (d.alive = true → bits = 2 → ActsDev (.sysBlkRst t bits) s t (fun e => blkOff 2 e ∧ (d.arch.hostCfg = [] → e.hq = {}) ∧ e.pwr = p ∧ e.eth = d.eth ∧ e.can = d.can ∧ e.colmo = d.colmo)) ∧
    (d.alive = true → bits = 4 → ActsDev (.sysBlkRst t bits) s t (fun e => blkOff 4 e ∧ (d.arch.canCfg = [] → e.can = d.can.set 0 {}) ∧ e.pwr = p ∧ e.hq = d.hq ∧ e.eth = d.eth ∧ e.iso.claims = [] ∧ e.iso.tps = [])) ∧
    (d.alive = true → bits = 8 → ActsDev (.sysBlkRst t bits) s t (fun e => blkOff 5 e ∧ (d.arch.canCfg = [] → e.can = d.can.set 1 {}) ∧ e.pwr = p ∧ e.hq = d.hq ∧ e.eth = d.eth ∧ e.iso = d.iso)) ∧
    (d.alive = true → bits = 16 → ActsDev (.sysBlkRst t bits) s t (fun e => blkOff 6 e ∧ e.rd ARC_BLOCKS = d.rd ARC_BLOCKS ∧ e.rd ARC_STATUS = d.rd ARC_STATUS ∧ { e with regs := d.regs } = d)) ∧
    (d.alive = true → ActsDev (.sysBlkRst t bits) s t (fun e => e = (List.range 5).foldl (fun x b => if bits.testBit b then x.blkReset b else x) d))

/-- R21, R22, R23, R28, R32, R33, R34, R489: the crystal lost and back, the always-on clock's deviation, a channel clock that deviates or loses its
PLL's lock, the exchange of time stamps between the SMC and a channel, and an S4 forwarded to the other channel. -/
def Obligations.ClocksAndTimebases : Prop :=
  ∀ (s : State) (t : Tick) (ch : Ch) (on x y : Bool) (err drift : Int), let c := s.m.seen t ch
    let o := s.m.seen t ch.other
    let d := s.m.seenDev t
    let p := d.pwr
    let b := c.tb
    let rest := b.slew - b.slewed c.now
    let settled := { b with at_ := c.now, off := b.offAt c.now, slew := rest, last := b.timeAt c.now, drift := drift }
    let gap := d.off + max (-50) (min 50 err) - b.offAt c.now
    let succeeds := x && d.up && !p.pllOnAon
    let ctl := if p.aonDev then y else x
    let xref := !p.aonDev && !x && y
    let forwards := d.up && o.dust.fwd && c.pairRuns
    let fails := fun (q : Src) (i : Instr) => c.srcActive q = false → ActsOn i s t ch (fun e => e.srcLatched q = true ∧ c.Reacted [] e ∧ (3 ≤ c.sevOf q → e.state = FAULT))
    let still := fun (i : Instr) => ActsOn i s t ch (fun e => e = c)
    let dropped := { p with xtalOk := false, pllOnAon := true }
    (p.phase ≠ .run → ActsDev (.xtalLoss t) s t (fun e => e = d) ∧ ActsDev (.aonClockDeviation t on) s t (fun e => e = d)) ∧
    ((p.phase ≠ .run ∨ p.pllOnAon = false) → ActsDev (.xtalReturn t) s t (fun e => e = d)) ∧
    (p.phase = .run → ActsDev (.aonClockDeviation t on) s t (fun e => e = { d with pwr := { p with aonDev := on } })) ∧
    (p.phase = .run → d.alive = false → ActsDev (.xtalLoss t) s t (fun e => e = { d with pwr := dropped, eth := { d.eth with good := 0, bad := 0 } })) ∧
    (d.alive = true → ActsDev (.xtalLoss t) s t (fun e => e.pwr = dropped ∧ e.eth = { d.eth with good := 0, bad := 0 } ∧ (d.srcActive XTAL_LOSS_SRC = false → e.srcLatched XTAL_LOSS_SRC = true) ∧
      e.b PTP_STATUS_SYNCED = false ∧ e.b ETH_STATUS_LINK_UP = false ∧ (d.b ETH_STATUS_LINK_UP = true → e.hq.link.audit = none ∧ e.b ETH_IRQ_STATUS_LINK_CHANGE = true) ∧
      (∀ k < 2, e.b (CAN_CTL_INIT k) = true ∧ e.canState k = C_INIT ∧ e.b (CAN_STATUS_RECOV k) = false) ∧
      d.Frame [SYS_SRC_STATUS, PTP_STATUS, ETH_STATUS, ETH_IRQ_STATUS, ETH_SRC_STATUS, HQ_AUDIT, CAN_CTL 0, CAN_CTL 1, CAN_STATUS 0, CAN_STATUS 1, CAN_IRQ_STATUS 0, CAN_IRQ_STATUS 1] e ∧
      e.arch = d.arch ∧ e.colmo = d.colmo ∧ e.bist = d.bist ∧ e.otp = d.otp ∧ e.hq.flows = d.hq.flows ∧ e.hq.queues = d.hq.queues)) ∧
    (p.phase = .run → p.pllOnAon = true → ActsDev (.xtalReturn t) s t (fun e => e.pwr = { p with xtalOk := true, pllOnAon := false } ∧ (d.alive = true → e.srcActive XTAL_LOSS_SRC = false) ∧
      (d.up = true → ∀ k < 2, d.canState k = C_INIT → d.canTimingOk k = true → (d.canSt k).off = false → e.canState k = C_INTEG ∧ e.b (CAN_CTL_INIT k) = false) ∧
      (d.up = true → ∀ k < 2, d.canState k = C_INIT → d.canTimingOk k = false → e.canState k = C_INIT ∧ e.b (CAN_CTL_INIT k) = true ∧ e.b (CAN_STATUS_CFG_ERR k) = true) ∧
      d.Frame [SYS_SRC_STATUS, CAN_CTL 0, CAN_CTL 1, CAN_STATUS 0, CAN_STATUS 1, CAN_IRQ_STATUS 0, CAN_IRQ_STATUS 1, CAN_DLYC 0, CAN_DLYC 1] e ∧
      { e with regs := d.regs, pwr := p, recs := d.recs, seqs := d.seqs, lastTime := d.lastTime } = d)) ∧
    (c.state = OFF → still (.clkDeviation t ch x y) ∧ still (.modPllLockLoss t ch) ∧ ActsIn (.timebaseExchange t ch on ⟨err, drift⟩) s t ch (fun e => e = c)) ∧
    (c.state ≠ OFF →
      fails CLK_CTL (.modPllLockLoss t ch) ∧
      (ctl = true → fails CLK_CTL (.clkDeviation t ch x y)) ∧
      (xref = true → fails CLK_XREF (.clkDeviation t ch x y)) ∧
      (ctl = false → xref = false → still (.clkDeviation t ch x y)) ∧
      (succeeds = true → b.hold = false → rest = 0 → ActsIn (.timebaseExchange t ch x ⟨err, drift⟩) s t ch (fun e =>
        e = { c with tb := { settled with off := d.off + max (-50) (min 50 err), slew := 0, rate := drift, missed := 0, hold := false } })) ∧
      (succeeds = true → b.hold = false → rest ≠ 0 → ActsIn (.timebaseExchange t ch x ⟨err, drift⟩) s t ch (fun e => e = { c with tb := { settled with slew := gap, rate := drift, missed := 0, hold := false } })) ∧
      (succeeds = true → b.hold = true → ActsIn (.timebaseExchange t ch x ⟨err, drift⟩) s t ch (fun e => e.tb = { settled with slew := gap, rate := drift, missed := 0, hold := false } ∧ e.srcActive TIME_HOLD = false ∧
        c.Frame [(srcRegs TIME_HOLD.blk).src] e)) ∧
      (succeeds = false → (b.hold = true ∨ b.missed < 2) → ActsIn (.timebaseExchange t ch x ⟨err, drift⟩) s t ch (fun e => e = { c with tb := { settled with missed := b.missed + 1 } })) ∧
      (succeeds = false → b.hold = false → 2 ≤ b.missed → c.srcActive TIME_HOLD = false → ActsIn (.timebaseExchange t ch x ⟨err, drift⟩) s t ch (fun e => e.tb = { settled with missed := b.missed + 1, hold := true } ∧
        e.srcLatched TIME_HOLD = true ∧ c.Frame reactionRegs e))) ∧
    (forwards = false → ActsDev (.peerS4Forward t ch) s t (fun e => e = d)) ∧
    (forwards = true → c.state ≠ OFF → c.srcActive PEER_S4 = false → Acts (.peerS4Forward t ch) s (fun m => m.chan ch.other = { o with dust := { o.dust with fwd := false } } ∧
      (m.chan ch).srcLatched PEER_S4 = true ∧ c.Reacted [] (m.chan ch) ∧ m.dev = d))

/-- R51, R401, R425, R448, R453, R459, R462, R466, R467, R491, R494, R495: the ROM starts Colmo's image or stops, Colmo's start, the reset of a channel
and its release into PRIMED with the sets that the archive holds. -/
def Obligations.BootAndRelease : Prop :=
  ∀ (s : State) (t : Tick) (ch : Ch) (ok ra rb sa sb : Bool) (n0 n1 bad : Nat), let m := s.m.seenAt t
    let d := s.m.seenDev t
    let c := m.chan ch
    let p := d.pwr
    let boots := decide (p.phase = .run) && decide (p.smc = .released) && !d.halted
    let starts := decide (p.phase = .run) && decide (p.smc = .booted) && !d.halted
    let first := ((d.arch.ctl 0).trial).getD (d.arch.ctl 0).active
    let valid := fun (k slot : Nat) => decide (d.slotCause k slot (if slot = 0 then ra else rb) = 0)
    let found := valid 0 first || valid 0 (1 - first)
    let nothing := fun (i : Instr) => ActsDev i s t (fun e => e = d)
    let other := fun (x : Mach) => x.chan ch.other = m.chan ch.other
    let good := fun (k : Kind) (a b : Bool) => (d.goodCopy ch k a (d.arch.copies ch k).a).isSome || (d.goodCopy ch k b (d.arch.copies ch k).b).isSome
    let may := decide (c.state = OFF) && d.mayRelease ch
    (boots = false → nothing (.romBoot t ok ra rb)) ∧
    (boots = true → ok = false → ActsDev (.romBoot t ok ra rb) s t (fun e => e.g SEC_BOOT_CAUSE = 1 ∧ e.pwr = { p with smc := .stopped, nrstout := false } ∧ d.Frame [SEC_BOOT] e ∧ { e with regs := d.regs, pwr := p } = d)) ∧
    (boots = true → ok = true → ActsDev (.romBoot t ok ra rb) s t (fun e => (found = true → e.pwr = { p with smc := .booted } ∧ e.g SEC_BOOT_CAUSE = 0 ∧ e.g SEC_BOOT_COLMO_SLOT = (if valid 0 first then first else 1 - first) % 2) ∧
      (found = false → e.pwr = { p with smc := .stopped, nrstout := false } ∧ e.g SEC_BOOT_CAUSE = d.slotCause 0 (1 - first) (if 1 - first = 0 then ra else rb) % 16) ∧
      (e.arch.ctl 0).trial = none ∧ d.Frame [SEC_BOOT] e ∧ { e with regs := d.regs, pwr := p, arch := d.arch } = d)) ∧
    (starts = false → nothing (.colmoStart t n0 n1 bad ra rb)) ∧
    (starts = true → Acts (.colmoStart t n0 n1 bad ra rb) s (fun x => let e := x.dev
      e.pwr.smc = .up ∧ e.pwr.fresh = false ∧ e.pwr.chImage = (valid 1 ((d.arch.ctl 1).trial.getD (d.arch.ctl 1).active) || valid 1 (1 - (d.arch.ctl 1).trial.getD (d.arch.ctl 1).active)) ∧
      e.g ARC_BLOCKS_BLOCKS0 = n0 % 2 ^ 16 ∧ e.g ARC_BLOCKS_BLOCKS1 = n1 % 2 ^ 16 ∧ e.b ARC_STATUS_READY = (n0 != 0) ∧ e.b ARC_STATUS_FORMATTED = e.arch.formatted ∧
      (d.arch.formatted = true → e.arch.formatted = true) ∧ e.b AON_IRQ_EN_SAG = true ∧ e.gb NTF_EN2_EN 7 = true ∧ e.colmo.openCls = d.arch.openCls ∧ e.baseAt = d.now ∧
      nth e.base 0 = nth d.arch.counters 0 + (if p.fresh then 1 else 0) ∧
      ∀ k, (x.chan k).subs = [] ∧ (x.chan k).ctl.devId = d.arch.ident ∧ (x.chan k).dust.fwd = false ∧ (x.chan k).regs = (m.chan k).regs ∧ (x.chan k).ring = (m.chan k).ring)) ∧
    Acts (.channelReset t ch) s (fun x => Chan.InReset .channel c (x.chan ch) ∧ other x ∧ x.dev.b (parkBit ch) = false ∧ d.Frame [SYS_PWR_CTL] x.dev ∧ x.dev.pwr = p ∧ x.dev.arch.writing ≠ some ch ∧
      x.holds = m.holds ∧ (c.mail = [] → d.colmo.running = [] → { x.dev with regs := d.regs, arch := d.arch } = d) ∧
      ((x.chan ch).subs = c.subs ∧ (x.chan ch).out.seq = c.out.seq ∧ (x.chan ch).ctl.devId = c.ctl.devId)) ∧
    (may = false → nothing (.channelResetRelease t ch ra rb sa sb)) ∧
    (may = true → Acts (.channelResetRelease t ch ra rb sa sb) s (fun x => other x ∧ (x.chan ch).ctl.selfTest = d.testsOk ch ∧ (x.chan ch).ctl.devId = d.ident ∧
      (x.chan ch).ctl.tuningOk = good .tuning ra rb ∧ (x.chan ch).ctl.safetyOk = good .safety sa sb ∧
      ((x.chan ch).b GUARD_CFG_EN = false → c.prot.pinLow = false → (x.chan ch).state = PRIMED) ∧ x.dev.pwr = p ∧ d.Frame [SEC_SRC_STATUS] x.dev)) ∧
    (may = true → d.arch.copies ch .tuning = {} → d.arch.copies ch .safety = {} → c.b GUARD_CFG_EN = false → c.prot.pinLow = false → ActsIn (.channelResetRelease t ch ra rb sa sb) s t ch (fun e =>
      e.state = PRIMED ∧ e.shadow = c.shadow ∧ e.mail = c.mail ∧ e.subs = c.subs ∧ e.tcm = c.tcm ∧ e.ctl.tuningOk = false ∧ e.ctl.safetyOk = false))

/-- R341 to R343, R346 to R351: the end of a BIST test at start-up, in the undercoat and on request; requests of tests and of fuses; the start of the
undercoat and the writing of its record. -/
def Obligations.SelfTestAndUndercoat : Prop :=
  ∀ (s : State) (t : Tick) (p : Nat) (clk fail start fuse : Bool) (rows : List (Nat × Nat)), let m := s.m.seenAt t
    let d := s.m.seenDev t
    let b := d.bist
    let fin : Instr := .bistTestEnd t p clk fail rows
    let valid := clk && d.supplied p
    let live := decide (d.pwr.phase = .run) && !b.stuck
    let mends := fail && decide (d.g BIST_CFG_FAIL_ACT = 0) && d.repairable p rows
    let res := if valid then (if fail then (if mends then 4 else 2) else 1) else 3
    let left := b.todo.filter (fun q => q != p)
    let judged := valid || b.again.contains p
    let halts := decide (2 ≤ res) && decide (res ≤ 3) && (decide (p < 2) || (decide (res = 2) && decide (d.g BIST_CFG_FAIL_ACT = 1)))
    let nothing := fun (i : Instr) => ActsDev i s t (fun e => e = d)
    let tgt := d.g BIST_REQ_TARGET
    let refused := m.bistRefused tgt (d.g BIST_REQ_TEST)
    let mayTest := decide (d.lc = 0) || decide (d.lc = 3)
    let st := d.pwr.shut
    let asleep := fun (x : Mach) => x.dev.pwr.phase = (if st = 1 then .standby else .off) ∧ (∀ c, Chan.InReset .supply (m.chan c) (x.chan c)) ∧ x.dev.Cleared
    let chs := b.runs
    p < 8 →
    ((live = false ∨ b.mode = .idle ∨ (b.mode = .request ∧ b.req ≠ p) ∨ ((b.mode = .startup ∨ b.mode = .undercoat) ∧ d.runnable p = false)) → nothing fin) ∧
    (live = true → b.mode = .startup → d.runnable p = true → judged = false → ActsDev fin s t (fun e => e = { d with bist := { b with again := p :: b.again } })) ∧
    (live = true → b.mode = .startup → d.runnable p = true → judged = true → halts = false → ActsDev fin s t (fun e => e.g (BIST_RES_RUN_RES p) = res ∧ e.b (BIST_RES_SRC p) = false ∧ e.bist.todo = left ∧
      e.bist.mode = (if left.isEmpty then .idle else .startup) ∧ (mends = false → e.bist.soft = b.soft) ∧ (mends = true → valid = true → ∀ r ∈ rows, ⟨p, r.1, r.2⟩ ∈ e.bist.soft) ∧
      (d.pwr.smc = .down → left.contains 0 = false → left.contains 1 = false → d.smcRail = true → e.pwr.smc = .released ∧ e.pwr.nrstout = true) ∧
      ((left.contains 0 = true ∨ left.contains 1 = true) → e.pwr = d.pwr) ∧ d.Frame [BIST_RES p, REPAIR_STAT] e ∧ { e with regs := d.regs, bist := b, pwr := d.pwr } = d)) ∧
    (live = true → b.mode = .startup → d.runnable p = true → judged = true → halts = true → Acts fin s (fun x => x.dev.bist.stuck = true ∧ x.dev.pwr.smc = .down ∧ x.dev.pwr.nrstout = false ∧
      x.dev.g (BIST_RES_RUN_RES p) = res ∧ x.dev.Cleared ∧ ∀ c, Chan.InReset .pin (m.chan c) (x.chan c))) ∧
    (live = true → b.mode = .undercoat → d.runnable p = true → ActsDev fin s t (fun e => e.bist = { b with todo := left, uc := b.uc.set p (if valid then (if fail then 2 else 1) else 3) } ∧
      e.pwr = (if left.all (fun q => Nat.blt q 2) then { d.pwr with smc := .down } else d.pwr) ∧ { e with bist := b, pwr := d.pwr } = d)) ∧
    (live = true → b.mode = .request → b.req = p → ActsDev fin s t (fun e => e.g (BIST_RES_RUN_RES p) = res ∧ e.g BIST_RUN_RESULT = res ∧ e.b BIST_RUN_BUSY = false ∧ e.bist.mode = .idle ∧ e.bist.fuse = false ∧
      (d.g BIST_REQ_TEST = 2 → ∀ k < 64, e.rd (FAIL_ROW k) = (match rows[k]? with | none => 0 | some r => 2 ^ 31 + r.1 % 256 * 65536 + r.2 % 65536)) ∧
      ((b.fuse = false ∨ valid = false) → e.otp = d.otp) ∧ (b.fuse = true → valid = true → e.bist.soft.all (fun r => r.target != p) = true) ∧
      e.pwr = d.pwr ∧ d.Frame ([BIST_RES p, REPAIR_STAT, BIST_RUN] ++ (List.range 64).map FAIL_ROW) e)) ∧
    (d.alive = false → nothing (.bistReqStart t start fuse)) ∧
    (d.alive = true → (mayTest = false ∨ ((start || fuse) = true ∧ refused = true)) → ActsDev (.bistReqStart t start fuse) s t (fun e => e.b BIST_RUN_REFUSED = true ∧ d.RegsOnly [BIST_RUN] e)) ∧
    (d.alive = true → mayTest = true → start = false → fuse = false → ActsDev (.bistReqStart t start fuse) s t (fun e => d.RegsOnly [] e)) ∧
    (d.alive = true → mayTest = true → refused = false → start = false → fuse = true → ActsDev (.bistReqStart t start fuse) s t (fun e => e.otp.fused = d.otp.fused ++ b.soft.filter (fun r => r.target == tgt) ∧
      e.bist.soft = b.soft.filter (fun r => r.target != tgt) ∧ d.Frame [BIST_REQ, REPAIR_STAT, BIST_RES tgt] e)) ∧
    (d.alive = true → mayTest = true → refused = false → start = true → Acts (.bistReqStart t start fuse) s (fun x => x.dev.b BIST_RUN_BUSY = true ∧ x.dev.bist = { b with mode := .request, req := tgt, fuse := fuse } ∧
      d.Frame [BIST_REQ, BIST_RUN, SYS_PWR_CTL] x.dev ∧ ∀ c, (targetCh tgt = some c → Chan.InReset .channel (m.chan c) (x.chan c)) ∧ (targetCh tgt ≠ some c → x.chan c = m.chan c))) ∧
    ((st = 0 ∨ b.mode ≠ .idle) → nothing (.undercoatStart t)) ∧
    (st ≠ 0 → b.mode = .idle → d.b BIST_CFG_UC_EN = true → chs.any (fun c => (m.chan c).skim.cur.isSome) = true → nothing (.undercoatStart t)) ∧
    (st ≠ 0 → b.mode = .idle → d.b BIST_CFG_UC_EN = false → d.pwr.wakeHeld = false → Acts (.undercoatStart t) s (fun x => asleep x ∧ x.dev.bist.ucRec = b.ucRec ∧ x.dev.arch.counters = m.counters)) ∧
    (st ≠ 0 → b.mode = .idle → d.b BIST_CFG_UC_EN = true → chs.any (fun c => (m.chan c).skim.cur.isSome) = false → Acts (.undercoatStart t) s (fun x => x.dev.bist.mode = .undercoat ∧ x.dev.bist.todo = chs.flatMap chTargets ++ [0, 1] ∧
      x.dev.bist.uc = List.replicate 8 0 ∧ x.dev.pwr = (if chs.isEmpty then { d.pwr with smc := .down } else d.pwr) ∧ d.Frame [SYS_PWR_CTL] x.dev ∧
      ∀ c, (c ∈ chs → (x.chan c).state = OFF) ∧ (c ∉ chs → x.chan c = m.chan c))) ∧
    ((b.mode ≠ .undercoat ∨ b.todo ≠ []) → nothing (.undercoatRecordWrite t)) ∧
    (b.mode = .undercoat → b.todo = [] → Acts (.undercoatRecordWrite t) s (fun x => (d.pwr.wakeHeld = false → asleep x) ∧ x.dev.bist.count = (b.count + 1) % 2 ^ 32 ∧ (x.dev.bist.ucRec.map UcRec.ok) = some true ∧
      (x.dev.bist.ucRec.map UcRec.res) = some b.uc ∧ (x.dev.bist.ucRec.map UcRec.soft) = some b.soft ∧ (x.dev.bist.ucRec.map UcRec.time) = some d.time ∧ (x.dev.bist.ucRec.map UcRec.count) = some ((b.count + 1) % 2 ^ 32)))

/-- R307, R309 to R312, R314 to R317, R319, R328: a mismatch or a failed plumb test holds the pair in reset and raises CORE_PAIR, or resets the SMC pair
warm; debug halts and resumes a pair and breaks its lock-step; a TCM read with an error; a shadow copy that disagrees with its word. -/
def Obligations.LockstepAndMemories : Prop :=
  ∀ (s : State) (t : Tick) (ch : Ch) (kind word addr bit : Nat) (own oth dbl : Bool), let c := s.m.seen t ch
    let d := s.m.seenDev t
    let runs := !c.b CORE_STATUS_HELD && !c.b CORE_STATUS_HALTED
    let smc := d.alive && !d.halted
    let open_ := decide (d.lc = 1) || decide (d.lc = 3)
    let still := fun (i : Instr) => ActsIn i s t ch (fun e => e = c)
    let nothing := fun (i : Instr) => ActsDev i s t (fun e => e = d)
    let calm := fun (q : Src) => c.srcActive q = false
    let held := fun (k : Nat) (e : Chan) => e.b CORE_STATUS_HELD = true ∧ (e.rd CORE_STATUS).testBit k = true ∧ e.srcLatched CORE_PAIR = true ∧ (3 ≤ c.sevOf CORE_PAIR → e.state = FAULT) ∧ c.Reacted [CORE_STATUS, PLUMB_STAT] e
    let lane := c.g PLUMB_STAT_PASSES % 64
    let breaks := !c.lockBroken && decide (kind ≤ 2)
    (c.state = OFF → ActsOn (.plumbMismatch t ch kind) s t ch (fun e => e = c) ∧ ActsOn (.shadowMismatch t ch addr bit) s t ch (fun e => e = c) ∧ nothing (.tcmEccRead t ch word dbl) ∧
      (open_ = true → still (.debugHalt t (some ch) kind)) ∧ still (.debugResume t (some ch)) ∧ still (.plumbTest t (some ch) ⟨own, oth⟩)) ∧
    (c.state ≠ OFF →
      ((4 ≤ kind ∨ (runs = false ∧ c.ctl.heldAt = none)) → ActsOn (.plumbMismatch t ch kind) s t ch (fun e => e = c)) ∧
      (kind < 4 → runs = true → calm CORE_PAIR → ActsOn (.plumbMismatch t ch kind) s t ch (held kind)) ∧
      (runs = false → c.skim.cur = none → ActsIn (.plumbTest t (some ch) ⟨own, oth⟩) s t ch (fun e => e.g SKIM_DONE_NOW = c.skimDone ∧ c.RegsOnly [SKIM_DONE] e)) ∧
      (runs = true → own = true → oth = false → ActsIn (.plumbTest t (some ch) ⟨own, oth⟩) s t ch (fun e => e.g PLUMB_STAT_LANE = lane ∧ e.g PLUMB_STAT_PASSES = (c.g PLUMB_STAT_PASSES + 1) % 65536 ∧ c.RegsOnly [PLUMB_STAT, SKIM_DONE] e)) ∧
      (runs = true → own = true → oth = true → calm CORE_PAIR → ActsIn (.plumbTest t (some ch) ⟨own, oth⟩) s t ch (fun e => e.g PLUMB_STAT_PASSES = (c.g PLUMB_STAT_PASSES + 1) % 65536 ∧ (e.rd CORE_STATUS).testBit 0 = true ∧
        e.b CORE_STATUS_HELD = true ∧ e.srcLatched CORE_PAIR = true ∧ c.Reacted [CORE_STATUS, PLUMB_STAT, SKIM_DONE] e)) ∧
      (runs = true → own = false → calm CORE_PAIR → ActsIn (.plumbTest t (some ch) ⟨own, oth⟩) s t ch (fun e => e.g PLUMB_STAT_PASSES = c.g PLUMB_STAT_PASSES ∧ (e.rd CORE_STATUS).testBit 3 = true ∧
        (oth = true → (e.rd CORE_STATUS).testBit 0 = true) ∧ e.b CORE_STATUS_HELD = true ∧ e.srcLatched CORE_PAIR = true ∧ c.Reacted [CORE_STATUS, PLUMB_STAT, SKIM_DONE] e)) ∧
      (open_ = true → c.b CORE_STATUS_HELD = true → still (.debugHalt t (some ch) kind)) ∧
      (open_ = true → c.b CORE_STATUS_HELD = false → c.lockBroken = true → kind = 2 → still (.debugHalt t (some ch) kind)) ∧
      (open_ = true → c.b CORE_STATUS_HELD = false → c.lockBroken = true → kind ≠ 2 → ActsIn (.debugHalt t (some ch) kind) s t ch (fun e => e.b CORE_STATUS_HALTED = true ∧ c.RegsOnly [CORE_STATUS] e)) ∧
      (open_ = true → c.b CORE_STATUS_HELD = false → breaks = true → calm LOCKSTEP_BROKEN_SRC → c.sevOf LOCKSTEP_BROKEN_SRC < 3 → c.g EN_STATUS_EN_PIN = 15 → c.rd LEG_HEALTH = 0 → c.b DUST_STATUS_SPD_HIGH = false →
        c.g DUST_STATUS_HARD_N ≤ c.g DUST_CTL_HARD_MAX → ActsIn (.debugHalt t (some ch) kind) s t ch (fun e => e.lockBroken = true ∧ e.b CORE_STATUS_HALTED = (if kind = 2 then c.b CORE_STATUS_HALTED else true) ∧
        e.srcLatched LOCKSTEP_BROKEN_SRC = true ∧ c.Reacted [CORE_STATUS] e ∧ ((c.state = PRIMED ∨ c.state = ARMED ∨ c.state = RUN) → e.state = HOLD ∧ e.g CH_STATE_HOLD_CAUSE = 2) ∧ e.ctl.arm = none)) ∧
      ActsIn (.debugResume t (some ch)) s t ch (fun e => e.b CORE_STATUS_HALTED = false ∧ c.RegsOnly [CORE_STATUS] e) ∧
      (dbl = false → calm TCM_ECC_CORR → Acts (.tcmEccRead t ch word dbl) s (fun m => m.rdata = c.tcmWord word ∧ (m.chan ch).g TCM_ECC_STAT_WORD = word % 65536 ∧ (m.chan ch).g TCM_ECC_STAT_CORR = Sys2Proof.satAdd 65535 (c.g TCM_ECC_STAT_CORR) ∧
        (m.chan ch).srcLatched TCM_ECC_CORR = true ∧ c.Reacted [TCM_ECC_STAT] (m.chan ch) ∧ m.chan ch.other = s.m.chan ch.other ∧ m.dev = d)) ∧
      (dbl = true → calm TCM_ECC_UNCORR → Acts (.tcmEccRead t ch word dbl) s (fun m => m.rdata = (m.chan ch).tcmWord word ∧ (m.chan ch).g TCM_ECC_STAT_WORD = word % 65536 ∧ (m.chan ch).srcLatched TCM_ECC_UNCORR = true ∧
        (3 ≤ c.sevOf TCM_ECC_UNCORR → (m.chan ch).state = FAULT) ∧ (∀ w < 65536, w ≠ word → (m.chan ch).tcmWord w = c.tcmWord w) ∧ c.Frame ([TCM_ECC_STAT] ++ reactionRegs) (m.chan ch) ∧ m.chan ch.other = s.m.chan ch.other ∧ m.dev = d)) ∧
      ((setOf addr ≠ .safety ∨ (rwcBits addr).testBit bit = false) → ActsOn (.shadowMismatch t ch addr bit) s t ch (fun e => e = c)) ∧
      (setOf addr = .safety → (rwcBits addr).testBit bit = true → calm SHADOW_MISMATCH_SRC → ActsOn (.shadowMismatch t ch addr bit) s t ch (fun e => e.srcLatched SHADOW_MISMATCH_SRC = true ∧ e.b SHADOW_STAT_VALID = true ∧
        (c.b SHADOW_STAT_VALID = false → e.g SHADOW_STAT_BLOCK = addr / 4096 % 16 ∧ e.g SHADOW_STAT_OFFSET = addr % 4096) ∧ (c.b SHADOW_STAT_VALID = true → e.rd SHADOW_STAT = c.rd SHADOW_STAT) ∧
        (RegMap.get e.inv 0 addr).testBit bit = !(RegMap.get c.inv 0 addr).testBit bit ∧ c.Frame ([SHADOW_STAT] ++ reactionRegs) e))) ∧
    (smc = false ∨ 3 < kind → nothing (.smcPairFault t kind)) ∧
    (smc = true → kind ≤ 3 → ActsDev (.smcPairFault t kind) s t (fun e => (e.rd SMC_PAIR_STATUS).testBit kind = true ∧ e.gb AON_RST_CAUSE_CAUSE 4 = true ∧ e.pwr.smc = (if d.smcRail then .released else .down) ∧ e.Cleared ∧
      d.Durable e ∧ (∀ a ∈ d.regs.map Prod.fst, keptBySmc a = false → e.rd a = devReset a))) ∧
    (smc = false → nothing (.plumbTest t none ⟨own, oth⟩)) ∧
    (smc = true → own = true → oth = false → ActsDev (.plumbTest t none ⟨own, oth⟩) s t (fun e => e.g SMC_PLUMB_STAT_LANE = d.g SMC_PLUMB_STAT_PASSES % 64 ∧ e.g SMC_PLUMB_STAT_PASSES = (d.g SMC_PLUMB_STAT_PASSES + 1) % 65536 ∧
      d.RegsOnly [SMC_PLUMB_STAT] e)) ∧
    (smc = true → (own = false ∨ oth = true) → ActsDev (.plumbTest t none ⟨own, oth⟩) s t (fun e => (own = false → (e.rd SMC_PAIR_STATUS).testBit 3 = true) ∧ (oth = true → (e.rd SMC_PAIR_STATUS).testBit 0 = true) ∧
      e.gb AON_RST_CAUSE_CAUSE 4 = true ∧ e.Cleared)) ∧
    (open_ = false → nothing (.debugHalt t none kind) ∧ nothing (.debugHalt t (some ch) kind)) ∧
    (open_ = true → d.alive = false → nothing (.debugHalt t none kind)) ∧
    (open_ = true → d.alive = true → ActsDev (.debugHalt t none kind) s t (fun e => e.b SMC_PAIR_STATUS_HALTED = (if kind = 2 then d.b SMC_PAIR_STATUS_HALTED else true) ∧ e.b SMC_PAIR_STATUS_LOCKSTEP_BROKEN = true ∧
      (d.b SMC_PAIR_STATUS_LOCKSTEP_BROKEN = false → d.srcActive SMC_PAIR_SRC = false → e.srcLatched SMC_PAIR_SRC = true) ∧ d.Told [SMC_PAIR_STATUS, SYS_SRC_STATUS] e)) ∧
    (d.halted = false → nothing (.debugResume t none)) ∧
    (d.halted = true → Acts (.debugResume t none) s (fun m => m.dev.halted = false ∧ d.RegsOnly [SMC_PAIR_STATUS] m.dev ∧ ∀ k, { m.chan k with dust := (s.m.seen t k).dust } = s.m.seen t k ∧ (m.chan k).dust.fwd = false))

/-- R320 to R324, R335: a word fed to a check-value unit of a channel or of the SMC block, its INIT and its CHECK; any access aborts a skim slice on
the unit. -/
def Obligations.CheckValueUnits : Prop :=
  ∀ (s : State) (t : Tick) (ch : Ch) (n data : Nat), let c := s.m.seen t ch
    let d := s.m.seenDev t
    let busy := c.skim.cur.any (fun r => r.cls == 4 && r.unit == n)
    let initial := fun (ctl old k : Nat) => cvuPut ctl old (polyOf k).init
    let agrees := cvuMatch (c.rd (CVU_CTL n)) (c.rd (CVU_VAL n)) (c.rd (CVU_EXP n))
    let agreesD := cvuMatch (d.rd (SMC_CVU_CTL n)) (d.rd (SMC_CVU_VAL n)) (d.rd (SMC_CVU_EXP n))
    let all := fun (q : Instr → Prop) (w : Option Ch) => q (.cvuDataWrite t w n data) ∧ q (.cvuInit t w n) ∧ q (.cvuCheck t w n)
    ((c.state = OFF ∨ 8 ≤ n) → all (fun i => ActsOn i s t ch (fun e => e = c)) (some ch)) ∧
    ((d.alive = false ∨ 8 ≤ n) → all (fun i => ActsDev i s t (fun e => e = d)) none) ∧
    (c.state ≠ OFF → n < 8 → busy = false →
      ActsOn (.cvuDataWrite t (some ch) n data) s t ch (fun e => e.rd (CVU_VAL n) = cvuFeed (c.rd (CVU_CTL n)) (c.rd (CVU_VAL n)) data % 2 ^ 32 ∧ c.RegsOnly [CVU_VAL n] e) ∧
      ActsOn (.cvuInit t (some ch) n) s t ch (fun e => e.rd (CVU_VAL n) = initial (c.rd (CVU_CTL n)) (c.rd (CVU_VAL n)) (c.g (CVU_CTL_POLY n)) % 2 ^ 32 ∧ c.RegsOnly [CVU_VAL n] e) ∧
      (agrees = true → ActsOn (.cvuCheck t (some ch) n) s t ch (fun e => e.b (CVU_STAT_MATCH n) = true ∧ e.g (CVU_STAT_MISMATCH n) = c.g (CVU_STAT_MISMATCH n) ∧ c.RegsOnly [CVU_STAT n] e)) ∧
      (agrees = false → c.srcActive CVU_MISMATCH = false → ActsOn (.cvuCheck t (some ch) n) s t ch (fun e => e.b (CVU_STAT_MATCH n) = false ∧ e.b (CVU_STAT_MISMATCH n) = true ∧ e.gb CORE_IRQ_STATUS_CVU n = true ∧
        e.srcLatched CVU_MISMATCH = true ∧ (3 ≤ c.sevOf CVU_MISMATCH → e.state = FAULT) ∧ c.Reacted [CVU_STAT n, CORE_IRQ_STATUS] e))) ∧
    (c.state ≠ OFF → n < 8 → busy = true → c.srcActive SKIM_ABORT_SRC = false → all (fun i => ActsOn i s t ch (fun e => e.skim.cur = none ∧ e.b SKIM_STATUS_BUSY = false ∧ e.g SKIM_ABORTS_LAST_CLASS = 4 ∧
      e.g SKIM_ABORTS_COUNT = Sys2Proof.satAdd 65535 (c.g SKIM_ABORTS_COUNT) ∧ e.srcLatched SKIM_ABORT_SRC = true ∧
      c.Frame ([SKIM_STATUS, SKIM_ABORTS, CVU_VAL n, CVU_STAT n, CORE_IRQ_STATUS] ++ reactionRegs) e)) (some ch)) ∧
    (d.alive = true → n < 8 →
      ActsDev (.cvuDataWrite t none n data) s t (fun e => e.rd (SMC_CVU_VAL n) = cvuFeed (d.rd (SMC_CVU_CTL n)) (d.rd (SMC_CVU_VAL n)) data % 2 ^ 32 ∧ d.RegsOnly [SMC_CVU_VAL n] e) ∧
      ActsDev (.cvuInit t none n) s t (fun e => e.rd (SMC_CVU_VAL n) = initial (d.rd (SMC_CVU_CTL n)) (d.rd (SMC_CVU_VAL n)) (d.g (SMC_CVU_CTL_POLY n)) % 2 ^ 32 ∧ d.RegsOnly [SMC_CVU_VAL n] e) ∧
      (agreesD = true → ActsDev (.cvuCheck t none n) s t (fun e => e.b (SMC_CVU_STAT_MATCH n) = true ∧ d.RegsOnly [SMC_CVU_STAT n] e)) ∧
      (agreesD = false → ActsDev (.cvuCheck t none n) s t (fun e => e.b (SMC_CVU_STAT_MATCH n) = false ∧ e.b (SMC_CVU_STAT_MISMATCH n) = true ∧ e.gb SMC_CVU_IRQ_STATUS_CVU n = true ∧
        d.RegsOnly [SMC_CVU_STAT n, SMC_CVU_IRQ_STATUS] e)))

/-- R91, R93, R329 to R337, R339, R352: a skim slice starts on a free unit of an enabled class and is done with its verdict; normal service aborts it;
a coverage cycle ends; a pass is requested. -/
def Obligations.SkimTests : Prop :=
  ∀ (s : State) (t : Tick) (ch : Ch) (cls unit raw raw1 detail : Nat) (ok : Bool) (r : SkimRun), let c := s.m.seen t ch
    let k := c.skim
    let young := k.redo.any (fun r => r.cls == cls && r.unit == unit && !c.since r.at_ (us 20))
    let may := k.cur.isNone && !k.stopped && c.gb SKIM_CTL_EN cls && (c.skimUnits cls).contains unit && c.unitFree cls unit && !young && !(regfSlice cls unit && c.ctl.commit.isSome)
    let fin : Instr := .skimSliceEnd t ch raw raw1 ok detail
    let misses := fun (x : Nat) => decide (c.g REFINJ_CTL_TOL < ((x : Int) - 1024 * ((r.unit % 3 : Nat) + 1)).natAbs)
    let step := if !ok then 2 else if raw != 0 && raw1 == 0 then 0 else 3
    let sum := if ok then c.regfCrc r.unit else detail
    let bad := if r.cls = 0 then misses raw || (decide (1 < (c.members (r.unit / 3)).length) && misses raw1) else if r.cls = 1 then step != 0 else if r.cls = 6 then !(ok && sum == c.rd (REGF_REF r.unit)) else !ok
    let source := if r.cls = 0 then REFINJ_FAIL else if r.cls = 3 then ⟨2, 13⟩ else SKIM_TEST_FAIL
    let found := if r.cls = 0 then r.unit / 3 % 16 * 2 ^ 24 else r.unit % 16 * 2 ^ 24 + (if r.cls = 1 then step else if r.cls = 6 then sum % 65536 else 0)
    let again := k.redo.any (fun x => x.cls == r.cls && x.unit == r.unit)
    let ended := fun (e : Chan) => e.skim.cur = none ∧ e.skim.spare = none ∧ e.b SKIM_STATUS_BUSY = false ∧ e.g SKIM_STATUS_CLASS = 0 ∧ e.skim.cov = bump k.cov r.cls (fun m => setBit m r.unit true) ∧
      e.skim.passCov = bump k.passCov r.cls (fun m => setBit m r.unit true) ∧ e.skim.redo = k.redo.filter (fun x => !(x.cls == r.cls && x.unit == r.unit))
    let still := fun (i : Instr) => ActsOn i s t ch (fun e => e = c)
    let cyc := c.since k.cycAt (ms (c.g SKIM_CFG_CYCLE))
    let all := c.skimDone == c.g SKIM_CTL_EN
    (c.state = OFF → still (.skimSliceStart t ch cls unit) ∧ still fin ∧ still (.skimAbort t ch) ∧ still (.skimCycleEnd t ch) ∧ still (.skimReqPass t ch)) ∧
    (c.state ≠ OFF →
      (may = false → still (.skimSliceStart t ch cls unit)) ∧
      (may = true → cls < 10 → ActsOn (.skimSliceStart t ch cls unit) s t ch (fun e => e.skim = { k with cur := some ⟨cls, unit, c.now⟩, spare := if cls = 1 then some (c.dcmpSet unit) else none } ∧
        e.b SKIM_STATUS_BUSY = true ∧ e.g SKIM_STATUS_CLASS = cls ∧ c.Frame [SKIM_STATUS] e ∧ { e with regs := c.regs, skim := k } = c)) ∧
      (k.cur = none → still fin ∧ still (.skimAbort t ch)) ∧
      (k.cur = some r → r.cls ∈ [0, 1, 2, 3, 4, 6] → bad = false → again = false → c.b SKIM_STATUS_PASS_RUN = false → ActsOn fin s t ch (fun e => ended e ∧ c.Frame [SKIM_STATUS, SKIM_DONE] e ∧ { e with regs := c.regs, skim := k } = c)) ∧
      (k.cur = some r → r.cls ∈ [0, 1, 2, 3, 4, 6] → bad = true → c.srcActive source = false → ActsOn fin s t ch (fun e => e.rd SKIM_FAIL_INFO = r.cls * 2 ^ 28 + found ∧ e.srcLatched source = true ∧
        (3 ≤ c.sevOf source → e.state = FAULT) ∧ ended e ∧ c.Frame ([SKIM_STATUS, SKIM_DONE, SKIM_FAIL_INFO] ++ reactionRegs) e)) ∧
      (k.cur = some r → r.cls = 5 → r.unit < 8 → (ok = true ∨ c.srcActive SKIM_TEST_FAIL = false) → ActsOn fin s t ch (fun e => ended e ∧ e.g (LINK_STAT_CRC_ERR r.unit) = Sys2Proof.satAdd 65535 (c.g (LINK_STAT_CRC_ERR r.unit)) ∧
        (ok = false → e.srcLatched SKIM_TEST_FAIL = true ∧ e.rd SKIM_FAIL_INFO = 5 * 2 ^ 28 + r.unit * 2 ^ 24) ∧ c.Frame ([SKIM_STATUS, SKIM_DONE, SKIM_FAIL_INFO, LINK_STAT r.unit] ++ reactionRegs) e)) ∧
      (k.cur = some r → r.cls = 7 → ok = false → c.pairRuns = true → c.srcActive CORE_PAIR = false → ActsOn fin s t ch (fun e => ended e ∧ e.b CORE_STATUS_HELD = true ∧ e.b CORE_STATUS_MISMATCH = true ∧ e.srcLatched CORE_PAIR = true)) ∧
      (k.cur = some r → r.cls = 8 → ok = true → raw1 = 0 → ActsOn fin s t ch (fun e => ended e ∧ e.g SCRUB_POS_WORD = (c.g SCRUB_POS_WORD + 1024) % 65536 ∧ c.Frame ([SKIM_STATUS, SKIM_DONE, SCRUB_POS] ++ reactionRegs) e)) ∧
      (k.cur = some r → r.cls = 8 → r.unit = 0 → ok = false → detail ≠ 1 → raw1 = 0 → c.srcActive DTC_STENCIL_ECC = false → ActsOn fin s t ch (fun e => ended e ∧ e.srcLatched DTC_STENCIL_ECC = true ∧ e.rd SKIM_FAIL_INFO = 8 * 2 ^ 28)) ∧
      (k.cur = some r → (r.cls = 2 ∨ r.cls = 3 ∨ r.cls = 7) → still (.skimAbort t ch)) ∧
      (k.cur = some r → r.cls ≠ 2 → r.cls ≠ 3 → r.cls ≠ 7 → r.cls < 16 → c.srcActive SKIM_ABORT_SRC = false → ActsOn (.skimAbort t ch) s t ch (fun e => e.skim = { k with cur := none, spare := none, redo := k.redo ++ [{ r with at_ := c.now }] } ∧
        e.b SKIM_STATUS_BUSY = false ∧ e.g SKIM_ABORTS_LAST_CLASS = r.cls ∧ e.g SKIM_ABORTS_COUNT = Sys2Proof.satAdd 65535 (c.g SKIM_ABORTS_COUNT) ∧ e.srcLatched SKIM_ABORT_SRC = true ∧
        c.Frame ([SKIM_STATUS, SKIM_ABORTS] ++ reactionRegs) e)) ∧
      (cyc = false → still (.skimCycleEnd t ch)) ∧
      (cyc = true → ActsOn (.skimCycleEnd t ch) s t ch (fun e => e.g SKIM_DONE_LAST = c.skimDone % 1024 ∧ e.g SKIM_DONE_NOW = 0 ∧ e.g SKIM_STATUS_CYCLES = (c.g SKIM_STATUS_CYCLES + 1) % 65536 ∧
        e.b SKIM_IRQ_STATUS_CYCLE_END = true ∧ e.skim = { k with cov := List.replicate 10 0, plumb0 := c.g PLUMB_STAT_PASSES, cycAt := c.now } ∧
        (all = true → e.srcActive SKIM_OVERDUE = false) ∧ (all = false → c.srcActive SKIM_OVERDUE = false → e.srcLatched SKIM_OVERDUE = true) ∧
        c.Frame ([SKIM_DONE, SKIM_STATUS, SKIM_IRQ_STATUS] ++ reactionRegs) e)) ∧
      ((c.b SKIM_STATUS_PASS_RUN = true ∨ k.stopped = true) → ActsOn (.skimReqPass t ch) s t ch (fun e => c.RegsOnly [SKIM_REQ] e)) ∧
      (c.b SKIM_STATUS_PASS_RUN = false → k.stopped = false → c.gb SKIM_CTL_EN 1 = true → ActsOn (.skimReqPass t ch) s t ch (fun e => e.b SKIM_STATUS_PASS_RUN = true ∧ e.skim = { k with passCov := List.replicate 10 0 } ∧
        c.Frame [SKIM_REQ, SKIM_STATUS] e ∧ { e with regs := c.regs, skim := k } = c)) ∧
      (c.b SKIM_STATUS_PASS_RUN = false → k.stopped = false → c.g SKIM_CTL_EN = 0 → ActsOn (.skimReqPass t ch) s t ch (fun e => e.b SKIM_STATUS_PASS_RUN = false ∧
        e.answers = c.answers ++ [⟨.skimPass, 0, [c.rd SKIM_DONE, c.rd SKIM_FAIL_INFO]⟩] ∧ c.Frame [SKIM_REQ, SKIM_STATUS] e)))

/-- R51, R61, R62, R65, R68, R144 to R146, R152, R158, R161, R164, R167, R214, R267: the decision boundary applies the decided vector and the staged
references and forms the speed class; the inputs are read and the decision completes; the governor's update, the read-back of the drivers, and the
landing of a commit. -/
def Obligations.EngineAndLanding : Prop :=
  ∀ (s : State) (t : Tick) (ch : Ch) (ecc pulses pins v : Nat) (p : Commit) (x : DtcIn), let c := s.m.seen t ch
    let still := fun (i : Instr) => ActsOn i s t ch (fun e => e = c)
    let drives := decide (c.state = RUN) && c.b DTC_CTL_EN && !c.ctl.rampEnded && !c.b EN_STATUS_EXT_ACTIVE
    let f := fillPhases (c.freshPhase 0) (c.freshPhase 1) (c.freshPhase 2)
    let read := { c.dtc with inp := some ⟨f.getD c.dtc.i, c.dcl.getD 0, c.gi OBS_SPEED_W⟩, cnt := c.readCounts }
    let gov := decide (c.state = RUN) && decide (c.g GOV_CFG_N ≤ c.dtc.govD)
    let fsw := max (c.legHz 0) (max (c.legHz 1) (c.legHz 2))
    let raw := (c.g GOV_STATUS_SCALE : Int) + rdiv (4096 * (c.g GOV_KI_KI : Int) * ((fsw : Int) - (max 1 (c.g GOV_CFG_TGT) : Nat))) (65536 * max 1 (c.g GOV_CFG_TGT))
    let scale := max (c.g GOV_LIM_MIN : Int) (min (c.g GOV_LIM_MAX : Int) raw)
    let edge := decide (scale = c.g GOV_LIM_MIN) || decide (scale = c.g GOV_LIM_MAX)
    let runsGov := c.b GOV_CFG_EN && !c.dtc.six && !c.b DTC_STATUS_MAGNETISING
    let differs := (List.range 3).any (fun l => c.readsBad l (pulses.testBit l))
    let bits := fun (e : Chan) (k : Kind) => ∀ a ∈ k.addrs, e.rd a &&& rwcBits a = c.rds a &&& rwcBits a ∧ e.rds a &&& rwcBits a = c.rds a &&& rwcBits a
    (c.state = OFF → still (.decisionBoundary t ch) ∧ still (.dtcInputRead t ch) ∧ still (.decisionComplete t ch ecc) ∧ still (.governorUpdate t ch) ∧ still (.modReadback t ch ⟨pulses, pins⟩) ∧ still (.commitLanding t ch)) ∧
    (c.state ≠ OFF →
      ActsOn (.decisionBoundary t ch) s t ch (fun e => e.dtc.boundAt = c.now ∧ e.dtc.boundTime = c.devTime ∧ e.dtc.staged = false ∧ (c.dtc.staged = true → e.dtc.cmd = c.gi TQ_REF_REF ∧ e.dtc.seq = c.dtc.relSeq ∧ e.dtc.spd = c.dtc.relSpd) ∧
        (c.dtc.staged = false → e.dtc.cmd = c.dtc.cmd ∧ e.dtc.seq = c.dtc.seq) ∧ e.tcm = c.tcm ∧ e.mail = c.mail ∧ e.subs = c.subs ∧ e.shadow = c.shadow ∧
        (e.g TRUST_STATUS_SRC = 3 → e.b DUST_STATUS_SPD_HIGH = false) ∧
        (e.g TRUST_STATUS_SRC ≠ 3 → (c.g DUST_ASC_W_W : Int) ≤ (e.gi TRUST_SPD_W).natAbs → e.b DUST_STATUS_SPD_HIGH = true) ∧
        (e.g TRUST_STATUS_SRC ≠ 3 → ((e.gi TRUST_SPD_W).natAbs : Int) < (c.g DUST_ASC_W_W : Int) - c.g DUST_ASC_HYST_W → e.b DUST_STATUS_SPD_HIGH = false)) ∧
      (drives = true → c.ctl.disarm = false → c.dtc.next = some v → ActsOn (.decisionBoundary t ch) s t ch (fun e => e.state = RUN → e.dtc.next = none ∧ ∀ l < 3, e.pulseOf l = legOf v l ∧ e.gb EN_STATUS_EN_INT l = true)) ∧
      (c.state = ARMED → c.dtc.staged = true → c.dtc.stagedTq = true → c.ctl.disarm = false → ActsOn (.decisionBoundary t ch) s t ch (fun e => e.state = RUN ∨ e.state = FAULT)) ∧
      (c.estimates = false → still (.dtcInputRead t ch) ∧ ActsOn (.decisionComplete t ch ecc) s t ch (fun e => e.dtc.inp = none ∧ e.b DTC_STATUS_FLUX_VALID = false ∧ e.tb.stamp = none ∧ (e.state = c.state ∨ e.state = FAULT))) ∧
      (c.estimates = true → f ≠ none → ActsOn (.dtcInputRead t ch) s t ch (fun e => e.dtc = read ∧ e.srcActive CUR_HELD = false ∧ c.Frame [(srcRegs CUR_HELD.blk).src] e)) ∧
      (c.estimates = true → f = none → c.srcActive CUR_HELD = false → ActsOn (.dtcInputRead t ch) s t ch (fun e => e.dtc.inp = read.inp ∧ e.dtc.cnt = read.cnt ∧ e.srcLatched CUR_HELD = true ∧ c.Reacted [] e)) ∧
      (c.estimates = true → c.dtc.inp = some x → ActsOn (.decisionComplete t ch ecc) s t ch (fun e => e.dtc.inp = none ∧ e.gi EST_TQ_TORQUE = (c.estimate x).dtc.te ∧ e.gi EST_FLUX_ALPHA = (c.estimate x).dtc.psiA ∧ e.gi EST_FLUX_BETA = (c.estimate x).dtc.psiB ∧
        e.tb.stamp = none ∧ (e.state = c.state ∨ e.state = FAULT) ∧ (e.state = RUN → e.dtc.next.isSome = true ∧ e.g DTC_STATUS_VEC = e.dtc.next.getD 0 % 8 ∧ e.dtc.govD = c.dtc.govD + 1) ∧
        (c.state ≠ RUN → e.g REF_ACT_T_EFF = 0) ∧ e.tcm = c.tcm ∧ e.mail = c.mail ∧ e.shadow = c.shadow)) ∧
      (gov = false → still (.governorUpdate t ch)) ∧
      (gov = true → runsGov = false → ActsOn (.governorUpdate t ch) s t ch (fun e => e.g FSW_UV_U = c.legHz 0 ∧ e.g FSW_UV_V = c.legHz 1 ∧ e.g FSW_W_W = c.legHz 2 ∧ e.g GOV_STATUS_FSW_MAX = fsw ∧ e.g GOV_STATUS_SCALE = c.g GOV_STATUS_SCALE ∧
        e.dtc = { c.dtc with govN := [0, 0, 0], govD := 0 } ∧ c.Frame [FSW_UV, FSW_W, GOV_STATUS] e ∧ { e with regs := c.regs, dtc := c.dtc } = c)) ∧
      (gov = true → runsGov = true → c.g GOV_LIM_MIN ≤ c.g GOV_LIM_MAX → (edge = false ∨ c.dtc.govSat < 15) → ActsOn (.governorUpdate t ch) s t ch (fun e => (e.g GOV_STATUS_SCALE : Int) = scale ∧ e.g GOV_STATUS_FSW_MAX = fsw ∧
        e.dtc = { c.dtc with govN := [0, 0, 0], govD := 0, govSat := if edge then c.dtc.govSat + 1 else 0 } ∧ (edge = false → e.srcActive GOV_SAT = false) ∧ c.Frame [FSW_UV, FSW_W, GOV_STATUS, (srcRegs GOV_SAT.blk).src] e)) ∧
      (gov = true → runsGov = true → c.g GOV_LIM_MIN ≤ c.g GOV_LIM_MAX → edge = true → 15 ≤ c.dtc.govSat → c.srcActive GOV_SAT = false → ActsOn (.governorUpdate t ch) s t ch (fun e => (e.g GOV_STATUS_SCALE : Int) = scale ∧
        e.srcLatched GOV_SAT = true ∧ c.Reacted [FSW_UV, FSW_W, GOV_STATUS] e)) ∧
      ((c.b EN_STATUS_EXT_ACTIVE = false ∨ c.state ≠ RUN) → differs = false → still (.modReadback t ch ⟨pulses, pins⟩)) ∧
      ((c.b EN_STATUS_EXT_ACTIVE = false ∨ c.state ≠ RUN) → differs = true → c.srcActive MOD_READBACK_SRC = false → ActsOn (.modReadback t ch ⟨pulses, pins⟩) s t ch (fun e => e.srcLatched MOD_READBACK_SRC = true ∧ c.Reacted [] e ∧
        (3 ≤ c.sevOf MOD_READBACK_SRC → e.state = FAULT))) ∧
      (c.b EN_STATUS_EXT_ACTIVE = true → c.state = RUN → ActsOn (.modReadback t ch ⟨pulses, pins⟩) s t ch (fun e => e.state = RUN → ∀ l < 3, e.pulseOf l = pins.testBit l)) ∧
      (c.ctl.commit = none → still (.commitLanding t ch)) ∧
      (c.ctl.commit = some p → c.canLand p = false → still (.commitLanding t ch)) ∧
      (c.ctl.commit = some p → c.canLand p = true → ActsOn (.commitLanding t ch) s t ch (fun e => e.ctl.commit = none ∧ e.ctl.copying = some ⟨p.kind, c.now, []⟩ ∧ e.g COMMIT_STATUS_COMMIT_COUNT = (c.g COMMIT_STATUS_COMMIT_COUNT + 1) % 65536 ∧
        e.g COMMIT_STATUS_CODE = 2 ∧ e.b CH_IRQ_STATUS_COMMIT_LANDED = true ∧ e.rd COMMIT_TIME_LO = c.dtc.boundTime % 2 ^ 32 ∧ e.rd COMMIT_TIME_HI = c.dtc.boundTime / 2 ^ 32 % 2 ^ 32 ∧ bits e p.kind ∧
        (p.kind = .tuning → e.ctl.tuningOk = true ∧ e.g ACTIVE_BANK_PARAM_BANK = 1 - c.g ACTIVE_BANK_PARAM_BANK ∧ e.g ACTIVE_BANK_SAFETY_BANK = c.g ACTIVE_BANK_SAFETY_BANK) ∧
        (p.kind = .safety → e.ctl.safetyOk = true ∧ e.ctl.kept = p.id ∧ e.g ACTIVE_BANK_SAFETY_BANK = 1 - c.g ACTIVE_BANK_SAFETY_BANK ∧ e.g ACTIVE_BANK_PARAM_BANK = c.g ACTIVE_BANK_PARAM_BANK) ∧
        e.tcm = c.tcm ∧ e.mail = c.mail ∧ e.subs = c.subs)))

/-- R240 to R247, R249, R335: a DC-link comparator changes; the chopper's command follows OV1 at most once per MIN_T; a command is proven or fails; the
chopper test begins and ends; an overvoltage that the safe state does not end is reported as external. -/
def Obligations.ChopperAndComparators : Prop :=
  ∀ (s : State) (t : Tick) (ch : Ch) (cmp sc : Nat) (on vdsHigh : Bool), let c := s.m.seen t ch
    let chg : Instr := .dclComparatorChange t ch cmp on
    let still := fun (i : Instr) => ActsOn i s t ch (fun e => e = c)
    let calm := fun (q : Src) => c.srcActive q = false
    let taken := fun (q : Src) (e : Chan) => e.srcLatched q = true ∧ (3 ≤ c.sevOf q → e.state = FAULT)
    let able := c.b PROT_CTL_CHOP_EN && c.b (SL_STATUS_READY 6)
    let old := c.b CHOP_STATUS_ON
    let free := c.prot.chopAt = none ∨ c.sinceOpt c.prot.chopAt (ns (100 * c.g CHOP_CFG_MIN_T)) = true
    let pairRegs := [CHOP_STATUS, EN_STATUS, SL_STATUS 6]
    let moved := fun (w : Bool) (e : Chan) => e.b CHOP_STATUS_ON = w ∧ e.gb EN_STATUS_EN_INT 3 = w ∧ e.gb EN_STATUS_PULSE 3 = w ∧ e.prot.chopAt = some c.now ∧
      e.prot.proof = (if w then some ⟨c.now, c.dcl.getD 0⟩ else none) ∧ (w = false → e.prot.test = none)
    let follows := fun (l : List Nat) (w : Bool) (e : Chan) => ((free ∧ w ≠ old) → moved w e) ∧ ((¬ free ∨ w = old) → e.b CHOP_STATUS_ON = old ∧ e.prot.proof = c.prot.proof) ∧ c.Frame (l ++ pairRegs) e
    let due := c.sinceOpt (c.prot.proof.map ChopProof.at_) (us (c.g CHOP_CFG_PROVE_T))
    let fell := c.dcl.isSome && decide ((c.g CHOP_CFG_FALL_DV : Int) ≤ (c.prot.proof.map ChopProof.link).getD 0 - c.dcl.getD 0)
    let proven := decide (c.g CHOP_CFG_CON_LVL < sc)
    let may := (decide (c.state = PRIMED) || decide (c.state = HOLD)) && !c.gb DCL_STATUS_CMP 0 && able && !c.b (SL_STATUS_LATCHED 6) && !(old && c.gb DCL_STATUS_CMP 1)
    let long := us (c.g CHOP_CFG_PROVE_T + 1)
    let ended := old && c.sinceOpt c.prot.test long && c.sinceOpt c.prot.chopAt long
    let ext := c.sinceOpt c.prot.safeAt (us 20)
    let ext2 := c.prot.ov2Held && c.sinceOpt c.prot.safeAt (us (c.g DCL_EXT_T_T))
    (c.state = OFF → still chg ∧ still (.chopMinTExpiry t ch) ∧ still (.chopProve t ch sc vdsHigh) ∧ still (.chopTest t ch) ∧ still (.chopTestPulseEnd t ch) ∧ still (.dclExtTimer t ch)) ∧
    (c.state ≠ OFF → c.skim.cur = none →
      (3 < cmp → still chg) ∧
      (cmp = 0 → on = true → (c.state ≠ ARMED ∧ c.state ≠ RUN) → ActsOn chg s t ch (fun e => e.gb DCL_STATUS_CMP 0 = true ∧ c.RegsOnly [DCL_STATUS] e)) ∧
      (cmp = 0 → on = true → (c.state = ARMED ∨ c.state = RUN) → calm DCL_UV → ActsOn chg s t ch (fun e => e.gb DCL_STATUS_CMP 0 = true ∧ taken DCL_UV e ∧ c.Reacted [DCL_STATUS] e)) ∧
      (cmp = 0 → on = false → ActsOn chg s t ch (fun e => e.gb DCL_STATUS_CMP 0 = false ∧ e.srcActive DCL_UV = false ∧ c.Frame ([DCL_STATUS] ++ sourceRegs 8) e ∧ c.Kept e)) ∧
      (cmp = 1 → ActsOn chg s t ch (fun e => e.gb DCL_STATUS_CMP 1 = on ∧ follows [DCL_STATUS] (able && (on || c.prot.test.isSome)) e)) ∧
      (cmp = 2 → on = true → c.srcActive CHOP_FAIL = true → calm REGEN_ASC → ActsOn chg s t ch (fun e => e.gb DCL_STATUS_CMP 2 = true ∧ taken REGEN_ASC e ∧ c.Reacted [DCL_STATUS] e)) ∧
      (cmp = 2 → (on = false ∨ c.srcActive CHOP_FAIL = false) → ActsOn chg s t ch (fun e => e.gb DCL_STATUS_CMP 2 = on ∧ e.srcActive REGEN_ASC = false ∧ c.Frame ([DCL_STATUS] ++ sourceRegs 8) e ∧ c.Kept e)) ∧
      (cmp = 3 → on = true → calm DCL_OV2 → calm DCL_EXT → ActsOn chg s t ch (fun e => e.gb DCL_STATUS_CMP 3 = true ∧ taken DCL_OV2 e ∧ (ext = true → taken DCL_EXT e) ∧ (ext = false → e.srcActive DCL_EXT = false) ∧ c.Reacted [DCL_STATUS] e)) ∧
      (cmp = 3 → on = false → ActsOn chg s t ch (fun e => e.gb DCL_STATUS_CMP 3 = false ∧ e.srcActive DCL_OV2 = false ∧ e.srcActive DCL_EXT = false ∧ e.prot = { c.prot with ov2Held := false } ∧ c.Frame ([DCL_STATUS] ++ sourceRegs 8) e ∧ c.Kept e))) ∧
    (c.state ≠ OFF →
      (ActsOn (.chopMinTExpiry t ch) s t ch (follows [] (able && (c.gb DCL_STATUS_CMP 1 || c.prot.test.isSome)))) ∧
      (due = false → still (.chopProve t ch sc vdsHigh)) ∧
      (due = true → proven = true → ActsOn (.chopProve t ch sc vdsHigh) s t ch (fun e => e.prot = { c.prot with proof := none } ∧ e.g CHOP_STATUS_PROVEN = (c.g CHOP_STATUS_PROVEN + 1) % 65536 ∧ e.srcActive CHOP_FAIL = false ∧
        e.srcActive REGEN_ASC = false ∧ e.life = { c.life with chop := c.life.chop + 1 } ∧ c.Frame ([CHOP_STATUS] ++ sourceRegs 8) e ∧ c.Kept e)) ∧
      (due = true → proven = false → fell = true → calm CHOP_SENSE → ActsOn (.chopProve t ch sc vdsHigh) s t ch (fun e => e.prot.proof = none ∧ taken CHOP_SENSE e ∧ e.srcActive CHOP_FAIL = c.srcActive CHOP_FAIL ∧ c.Reacted [] e)) ∧
      (due = true → proven = false → fell = false → calm CHOP_FAIL → ActsOn (.chopProve t ch sc vdsHigh) s t ch (fun e => e.prot.proof = none ∧ taken CHOP_FAIL e ∧ e.srcActive CHOP_FAIL = true ∧ e.srcActive REGEN_ASC = (c.srcActive REGEN_ASC && c.gb DCL_STATUS_CMP 2 || c.gb DCL_STATUS_CMP 2) ∧
        e.g CHOP_STATUS_CAUSE = (if c.b (SL_STATUS_LATCHED 6) then 3 else if !c.gb EN_STATUS_EN_PIN 3 then 2 else if vdsHigh then 0 else 1) ∧ c.Reacted [CHOP_STATUS] e)) ∧
      (may = false → ActsOn (.chopTest t ch) s t ch (fun e => e.b PROT_REQ_CHOP_TEST = false ∧ c.RegsOnly [PROT_REQ] e)) ∧
      (may = true → ActsOn (.chopTest t ch) s t ch (fun e => e.b PROT_REQ_CHOP_TEST = false ∧ e.prot.test = some c.now ∧ follows [PROT_REQ] true e)) ∧
      (ended = false → still (.chopTestPulseEnd t ch)) ∧
      (ended = true → ActsOn (.chopTestPulseEnd t ch) s t ch (fun e => e.prot.test = none ∧ follows [] (able && c.gb DCL_STATUS_CMP 1) e)) ∧
      (ext2 = false → still (.dclExtTimer t ch)) ∧
      (ext2 = true → calm DCL_EXT → ActsOn (.dclExtTimer t ch) s t ch (fun e => taken DCL_EXT e ∧ c.Reacted [] e)))

/-- R250 to R254, R257, R537: a discharge is asked for by a command or by the pin, ended by its cancel, its limits or its check; the energy model advances
and pauses it; slice 7 discharges by itself; winding discharge times out. -/
def Obligations.Discharges : Prop :=
  ∀ (s : State) (t : Tick) (ch : Ch) (link : Int) (q : Dchg), let c := s.m.seen t ch
    let p := c.prot
    let still := fun (i : Instr) => ActsOn i s t ch (fun e => e = c)
    let en := c.b PROT_CTL_DCHG_EN
    let asks := decide (c.state = PRIMED) || decide (c.state = HOLD) || decide (c.state = FAULT)
    let begun := fun (cmd pin : Bool) (x : Prot) => (c.cfbOpenDeb = false → x.dchg = some ⟨false, pin, cmd, c.now, none, 0, false⟩) ∧
      (c.cfbOpenDeb = true → x.dchg = some ⟨false, pin, cmd, c.now, some c.now, c.dcl.getD 0, false⟩)
    let step := fun (e : Chan) => e.g DCHG_STATUS_STATE = (if c.cfbOpenDeb then 2 else 1) ∧ (c.cfbOpenDeb = true → (e.lastSent 7).2 = true)
    let over_ := fun (st : Nat) (e : Chan) => e.prot.dchg = none ∧ e.g DCHG_STATUS_STATE = st ∧ (e.lastSent 7).2 = false ∧ e.srcActive DCHG_PAUSE = false
    let outRegs := [DCHG_STATUS, SL_STATUS 7]
    let failed := fun (i : Instr) => ActsOn i s t ch (fun e => over_ 5 e ∧ e.b PROT_IRQ_STATUS_DCHG_END = true ∧ e.srcLatched DCHG_FAIL = true ∧ (3 ≤ c.sevOf DCHG_FAIL → c.sevOf DCHG_FAIL < 4 → e.state = FAULT) ∧
      c.Reacted [PROT_IRQ_STATUS] e)
    let drop := (c.g DCHG_CFG2_CHECK_DROP : Int) * q.v0 ≤ 100 * (q.v0 - c.dcl.getD 0)
    let on7 := c.b (SL_STATUS_EN 7)
    let energy := energyStep p.energy on7 (c.dcl.getD 0) c.bases.v (c.g DCHG_CFG0_RES) (c.g DCHG_CFG1_TAU)
    let x := c.sl 7
    let w := RegMap.get x.cfg (chanReset PROT_CTL) PROT_CTL
    let auto := !x.power && w.testBit 5 && w.testBit 4 && decide (setBit x.latch 5 false = 0) && !x.auto
    let wdOver := c.sinceOpt p.wind (ms (c.g WD_TIME_T))
    (c.state = OFF → still (.dchgReq t ch) ∧ still (.dchgCancel t ch) ∧ still (.dchgCfbTimeout t ch) ∧ still (.dchgCheckT t ch) ∧ still (.dchgTExpiry t ch) ∧ still (.windingDischargeTimeout t ch) ∧
      ActsOn (.dchgPin t ch) s t ch (fun e => e = { c with prot := { p with pinLow := true } }) ∧ ActsOn (.dchgPinRelease t ch) s t ch (fun e => e = { c with prot := { p with pinLow := false } })) ∧
    (c.state ≠ OFF →
      ((asks = false ∨ en = false) → ActsOn (.dchgReq t ch) s t ch (fun e => e.b PROT_REQ_DCHG_REQ = false ∧ c.RegsOnly [PROT_REQ] e)) ∧
      (asks = true → en = true → p.dchg = none → ActsOn (.dchgReq t ch) s t ch (fun e => e.b PROT_REQ_DCHG_REQ = false ∧ begun true false e.prot ∧ step e ∧ e.srcActive DCHG_FAIL = false ∧ c.Frame ([PROT_REQ] ++ outRegs ++ sourceRegs 8) e)) ∧
      (asks = true → en = true → p.dchg = some q → ActsOn (.dchgReq t ch) s t ch (fun e => e.b PROT_REQ_DCHG_REQ = false ∧ e.prot = { p with dchg := some { q with byCmd := true } } ∧ c.Frame [PROT_REQ] e)) ∧
      ((p.dchg = none ∨ (p.dchg = some q ∧ (q.byS4 = true ∨ q.byPin = true))) → ActsOn (.dchgCancel t ch) s t ch (fun e => e.b PROT_REQ_DCHG_CANCEL = false ∧ c.RegsOnly [PROT_REQ] e)) ∧
      (p.dchg = some q → q.byS4 = false → q.byPin = false → ActsOn (.dchgCancel t ch) s t ch (fun e => e.b PROT_REQ_DCHG_CANCEL = false ∧ over_ 0 e ∧ c.Frame ([PROT_REQ] ++ outRegs ++ sourceRegs 8) e)) ∧
      (c.srcActive DCHG_PIN_SRC = false → ActsOn (.dchgPin t ch) s t ch (fun e => e.prot.pinLow = true ∧ e.srcLatched DCHG_PIN_SRC = true ∧ (3 ≤ c.sevOf DCHG_PIN_SRC → e.state = FAULT) ∧
        (en = true → p.dchg = none → c.sevOf DCHG_PIN_SRC < 3 → begun false true e.prot ∧ step e) ∧ (en = true → p.dchg = some q → c.sevOf DCHG_PIN_SRC < 4 → e.prot.dchg = some { q with byPin := true }) ∧ c.Reacted [] e)) ∧
      (ActsOn (.dchgPinRelease t ch) s t ch (fun e => e.prot = { p with pinLow := false } ∧ e.srcActive DCHG_PIN_SRC = false ∧ c.Frame (sourceRegs 8) e ∧ c.Kept e)) ∧
      (p.dchg = none → still (.dchgCfbTimeout t ch) ∧ still (.dchgCheckT t ch) ∧ still (.dchgTExpiry t ch)) ∧
      (p.dchg = some q → (q.onAt.isSome = true ∨ c.since q.waitAt (ms 100) = false) → still (.dchgCfbTimeout t ch)) ∧
      (p.dchg = some q → q.onAt = none → c.since q.waitAt (ms 100) = true → c.srcActive DCHG_FAIL = false → failed (.dchgCfbTimeout t ch)) ∧
      (p.dchg = some q → (c.sinceOpt q.onAt (ms (c.g DCHG_CFG2_CHECK_T)) = false ∨ q.checked = true) → still (.dchgCheckT t ch)) ∧
      (p.dchg = some q → c.sinceOpt q.onAt (ms (c.g DCHG_CFG2_CHECK_T)) = true → q.checked = false → drop → ActsOn (.dchgCheckT t ch) s t ch (fun e => e = { c with prot := { p with dchg := some { q with checked := true } } })) ∧
      (p.dchg = some q → c.sinceOpt q.onAt (ms (c.g DCHG_CFG2_CHECK_T)) = true → q.checked = false → ¬ drop → c.srcActive DCHG_FAIL = false → failed (.dchgCheckT t ch)) ∧
      (p.dchg = some q → c.sinceOpt q.onAt (ms (10 * c.g DCHG_CFG2_DCHG_T)) = false → still (.dchgTExpiry t ch)) ∧
      (p.dchg = some q → c.sinceOpt q.onAt (ms (10 * c.g DCHG_CFG2_DCHG_T)) = true → c.srcActive DCHG_FAIL = false → failed (.dchgTExpiry t ch)) ∧
      (wdOver = false → still (.windingDischargeTimeout t ch)) ∧
      (wdOver = true → c.srcActive WD_ABORT = false → ActsOn (.windingDischargeTimeout t ch) s t ch (fun e => e.prot.wind = none ∧ (p.dchg = none → c.sevOf WD_ABORT < 4 → e.g DCHG_STATUS_STATE = 5) ∧ e.srcLatched WD_ABORT = true ∧
        (3 ≤ c.sevOf WD_ABORT → e.state = FAULT) ∧ c.Reacted [] e)) ∧
      (x.auto = false → (p.dchg = none ∨ (p.dchg = some q ∧ q.onAt = none)) → ActsOn (.energyUpdate t ch link) s t ch (fun e => e.prot = { p with energy := energy } ∧ e.g DCHG_STATUS_E_ACC = (satI 0 65535 energy.floor).toNat ∧ c.Frame [DCHG_STATUS] e)) ∧
      (x.auto = false → p.dchg = some q → q.onAt.isSome = true → c.g DCHG_STATUS_STATE = 2 → (c.g DCHG_CFG0_EMAX : Rat) ≤ energy → c.srcActive DCHG_PAUSE = false → c.sevOf DCHG_PAUSE < 3 → ActsOn (.energyUpdate t ch link) s t ch (fun e =>
        e.prot.energy = energy ∧ e.g DCHG_STATUS_STATE = 3 ∧ (e.lastSent 7).2 = false ∧ e.srcLatched DCHG_PAUSE = true ∧ c.Reacted [] e)) ∧
      (x.auto = false → p.dchg = some q → q.onAt.isSome = true → c.g DCHG_STATUS_STATE = 3 → energy ≤ (c.g DCHG_CFG0_EMAX : Rat) * 3 / 4 → ActsOn (.energyUpdate t ch link) s t ch (fun e =>
        e.prot = { p with energy := energy } ∧ e.g DCHG_STATUS_STATE = 2 ∧ (e.lastSent 7).2 = true ∧ e.srcActive DCHG_PAUSE = false ∧ c.Frame (outRegs ++ sourceRegs 8) e))) ∧
    (c.state = OFF → x.auto = false → still (.energyUpdate t ch link)) ∧
    (c.state = OFF → x.auto = true → ActsOn (.energyUpdate t ch link) s t ch (fun e => (e.sl 7).auto = true ∧ c.RegsOnly [] { e with slices := c.slices } ∧
      (e.sl 7).autoE = energyStep x.autoE x.isOn link c.bases.v (bitsOf (RegMap.get x.cfg (chanReset DCHG_CFG0) DCHG_CFG0) 31 16) (bitsOf (RegMap.get x.cfg (chanReset DCHG_CFG1) DCHG_CFG1) 31 16))) ∧
    (auto = false → still (.autonomousDischarge t ch)) ∧
    (auto = true → ActsOn (.autonomousDischarge t ch) s t ch (fun e => e.sl 7 = { x with auto := true, autoSeen := true, isOn := true, onAt := c.now } ∧ (∀ n < 7, e.sl n = c.sl n) ∧ { e with slices := c.slices } = c)) ∧
    (ActsOn (.autonomousDischargeDone t ch) s t ch (fun e => e.sl 7 = (if x.auto then { x with auto := false, isOn := false } else x) ∧ (∀ n < 7, e.sl n = c.sl n) ∧ { e with slices := c.slices } = c))

/-- R262, R263, R265, R271, R273, R277, R535: a source arrives and ends, a hold ends, the leg-health record is cleared. -/
def Obligations.SourcesAtTheDustSheet : Prop :=
  ∀ (s : State) (t : Tick) (ch : Ch) (blk bit : Nat), let c := s.m.seen t ch
    let q : Src := ⟨blk, bit⟩
    let still := fun (i : Instr) => ActsOn i s t ch (fun e => e = c)
    let pulse := eventSources.contains q
    let holds := (c.b CORE_STATUS_HELD && decide (blk = 11 ∧ bit = 0)) || decide (blk = 11 ∧ bit = 2)
    let bitAt := (c.rd (srcRegs blk).src).testBit
    let open_ := decide (c.g CONT_STATUS_CFB &&& c.fittedMask = 0)
    let done := fun (e : Option Tick) => decide (∀ u ∈ e.toList, u ≤ c.now)
    let over_ := c.b DUST_STATUS_REEVAL && done c.dust.hardEnd && done c.dust.coreEnd
    (c.state = OFF → still (.sourceArrival t ch blk bit) ∧ still (.sourceClear t ch blk bit) ∧ still (.holdEnd t ch) ∧ still (.legClr t ch)) ∧
    (q.valid = false → still (.sourceArrival t ch blk bit) ∧ still (.sourceClear t ch blk bit)) ∧
    (c.state ≠ OFF → q.valid = true →
      (c.srcActive q = true → still (.sourceArrival t ch blk bit)) ∧
      (c.srcActive q = false → ActsOn (.sourceArrival t ch blk bit) s t ch (fun e => (e.rd (srcRegs blk).src).testBit bit = true ∧ (pulse = true → e.srcActive q = false) ∧
        (3 ≤ c.sevOf q → e.state = FAULT) ∧ (3 ≤ c.sevOf q → c.state ≠ FAULT → e.b DUST_CAUSE_VALID = true) ∧ (c.sevOf q = 4 → e.b DUST_STATUS_S4_REQ = true ∧ e.b CONT_STATUS_S4_OPEN = true ∧ e.g CONT_STATUS_CMD = 0) ∧
        c.Reacted [] e)) ∧
      (c.srcActive q = false → pulse = false → ((c.state ≠ RUN ∧ c.state ≠ ARMED) ∨ c.sevOf q < 3) → q ≠ DCL_UV → q ≠ EN_LOW → q ≠ DCHG_FAIL → q ≠ CFB_DISCREP → q ≠ NO_SAFE → ActsOn (.sourceArrival t ch blk bit) s t ch (fun e => e.srcActive q = true)) ∧
      (holds = true → still (.sourceClear t ch blk bit)) ∧
      (holds = false → ActsOn (.sourceClear t ch blk bit) s t ch (fun e => e.srcActive q = false ∧ (e.rd (srcRegs blk).src).testBit bit = bitAt bit ∧ (blk = 7 → nth e.modul.who bit = 0) ∧ (blk ≠ 7 → e.modul = c.modul) ∧
        c.Frame [(srcRegs blk).src] e ∧ c.Kept e))) ∧
    (c.state ≠ OFF →
      (over_ = true → ActsOn (.holdEnd t ch) s t ch (fun e => (c.srcActive NO_SAFE = false → c.sevOf NO_SAFE < 3 → e.b DUST_STATUS_REEVAL = false ∧ e.dust.hardEnd = none ∧ e.dust.coreEnd = none ∧ e.g DUST_STATUS_HOLD_KIND = 0) ∧ c.Reacted [] e)) ∧
      (over_ = false → ActsOn (.holdEnd t ch) s t ch (fun e => e.b DUST_STATUS_REEVAL = c.b DUST_STATUS_REEVAL ∧ e.g DUST_STATUS_HOLD_KIND = c.g DUST_STATUS_HOLD_KIND ∧ c.Reacted [] e)) ∧
      (¬ (c.state = PRIMED ∧ open_ = true) → ActsOn (.legClr t ch) s t ch (fun e => e.b DUST_REQ_LEG_CLR = false ∧ e.b DUST_IRQ_STATUS_LEG_REFUSED = true ∧ c.RegsOnly [DUST_REQ, DUST_IRQ_STATUS] e)) ∧
      (c.state = PRIMED → open_ = true → ActsOn (.legClr t ch) s t ch (fun e => e.b DUST_REQ_LEG_CLR = false ∧ e.g LEG_HEALTH_FS_H = 0 ∧ e.g LEG_HEALTH_FS_L = 0 ∧ c.Reacted [DUST_REQ, LEG_HEALTH] e)))

/-- R257, R287 to R293; R59, R294 to R299: a feedback changes; a disagreement that outlasts its debounce is reported; the precharge times out; the weld record is
cleared; the auxiliary contactor is driven. The guard's inputs change, or stay equivalent too long; the acknowledge button is pressed, released, or jams. -/
def Obligations.ContactorsGuardAndAcknowledge : Prop :=
  (∀ (s : State) (t : Tick) (ch : Ch) (n : Nat) (high : Bool), let c := s.m.seen t ch
    let m := c.msio
    let k := n - 1
    let in_ := decide (1 ≤ n) && decide (n ≤ 3)
    let still := fun (i : Instr) => ActsOn i s t ch (fun e => e = c)
    let quiet := c.ctl.arm = none ∧ c.prot.dchg = none ∧ c.prot.wind = none
    let raw := setBit m.cfbRaw k high
    let closed := c.fitted n && high == c.gb MSIO_CTL_CFB_POL k
    let chg := c.gb CONT_STATUS_CFB k != closed
    let dis := c.fitted n && c.gb CONT_STATUS_CMD k != closed
    let by_ := if dis then m.discBy else setBit m.discBy k false
    let changed := { m with cfbRaw := raw, fbAt := m.fbAt.set k c.now, cmpAt := m.cmpAt.set k c.now, discBy := by_ }
    let deb := fun (l : List Tick) => c.since (nth l k) (ms (c.g CONT_DEB_DEB))
    let weld := m.weldBy.testBit k && !c.gb CONT_STATUS_CFB k && deb m.fbAt
    let disc := c.gb CONT_STATUS_DISCREP k && deb m.cmpAt
    let timed := decide (c.armAt = some .charging) && c.preOver
    let allOpen := decide (c.g CONT_STATUS_CFB &&& c.fittedMask = 0)
    (in_ = false → still (.cfbChange t ch n high) ∧ still (.contactorDebounceExpiry t ch n)) ∧
    (c.state = OFF → still (.contactorDebounceExpiry t ch n) ∧ still (.prechargeTimeout t ch) ∧ still (.weldClr t ch) ∧ still (.auxOn t ch) ∧ still (.auxOff t ch)) ∧
    (in_ = true → c.state = OFF → ActsOn (.cfbChange t ch n high) s t ch (fun e => e = { c with msio := { m with cfbRaw := raw } })) ∧
    (in_ = true → c.state ≠ OFF → quiet →
      (chg = false → ActsOn (.cfbChange t ch n high) s t ch (fun e => e.msio = { m with cfbRaw := raw } ∧ c.RegsOnly [] { e with msio := m, ctl := c.ctl })) ∧
      (chg = true → ActsOn (.cfbChange t ch n high) s t ch (fun e => e.gb CONT_STATUS_CFB k = closed ∧ e.gb CONT_STATUS_DISCREP k = dis ∧ e.msio = changed ∧ e.life = { c.life with cont := if closed then bump c.life.cont k (fun x => x + 1) else c.life.cont } ∧
        (by_ = 0 → e.srcActive CFB_DISCREP = false) ∧ c.Frame ([CONT_STATUS] ++ sourceRegs 10) e ∧ c.Kept e)) ∧
      (disc = false → weld = false → still (.contactorDebounceExpiry t ch n)) ∧
      (disc = false → weld = true → ActsOn (.contactorDebounceExpiry t ch n) s t ch (fun e => e.msio = { m with weldBy := setBit m.weldBy k false } ∧ (setBit m.weldBy k false = 0 → e.srcActive CONT_WELD = false) ∧
        c.Frame (sourceRegs 10) e ∧ c.Kept e)) ∧
      (disc = true → weld = false → c.gb CONT_STATUS_CMD k = true → c.srcActive CFB_DISCREP = false → ActsOn (.contactorDebounceExpiry t ch n) s t ch (fun e => e.srcLatched CFB_DISCREP = true ∧
        (3 ≤ c.sevOf CFB_DISCREP → e.state = FAULT) ∧ (c.sevOf CFB_DISCREP < 3 → e.msio.discBy = setBit m.discBy k true) ∧ c.Reacted [] e)) ∧
      (disc = true → c.gb CONT_STATUS_CMD k = false → c.srcActive CONT_WELD = false → ActsOn (.contactorDebounceExpiry t ch n) s t ch (fun e => e.gb CONT_STATUS_WELD k = true ∧ e.msio.weldBy = setBit m.weldBy k true ∧
        e.srcLatched CONT_WELD = true ∧ (3 ≤ c.sevOf CONT_WELD → e.state = FAULT) ∧ c.Reacted [] e))) ∧
    (c.state ≠ OFF →
      (timed = false → still (.prechargeTimeout t ch)) ∧
      (timed = true → c.srcActive PRECHARGE_FAIL = false → ActsOn (.prechargeTimeout t ch) s t ch (fun e => e.g PRE_STATUS_PHASE = 5 ∧ e.ctl.arm = none ∧ e.srcLatched PRECHARGE_FAIL = true ∧ e.srcActive PRECHARGE_FAIL = false ∧
        e.b CH_IRQ_STATUS_ARM_REFUSED = true ∧ (3 ≤ c.sevOf PRECHARGE_FAIL → e.state = FAULT) ∧ c.Reacted [] e)) ∧
      (c.state = PRIMED → allOpen = true → ActsOn (.weldClr t ch) s t ch (fun e => e.b MSIO_REQ_WELD_CLR = false ∧ e.g CONT_STATUS_WELD = 0 ∧ c.RegsOnly [MSIO_REQ, CONT_STATUS] e)) ∧
      (¬ (c.state = PRIMED ∧ allOpen = true) → ActsOn (.weldClr t ch) s t ch (fun e => e.b MSIO_REQ_WELD_CLR = false ∧ e.b MSIO_IRQ_STATUS_WELD_REFUSED = true ∧ c.RegsOnly [MSIO_REQ, MSIO_IRQ_STATUS] e)) ∧
      (c.g MSIO_CTL_AUX_MODE = 2 → c.b CONT_STATUS_S4_OPEN = false → ActsOn (.auxOn t ch) s t ch (fun e => e.b MSIO_REQ_AUX_ON = false ∧ e.gb CONT_STATUS_CMD 2 = true ∧ c.Frame ([MSIO_REQ, CONT_STATUS] ++ sourceRegs 10) e ∧ c.Kept e)) ∧
      ((c.g MSIO_CTL_AUX_MODE ≠ 2 ∨ c.b CONT_STATUS_S4_OPEN = true) → ActsOn (.auxOn t ch) s t ch (fun e => e.b MSIO_REQ_AUX_ON = false ∧ c.RegsOnly [MSIO_REQ] e)) ∧
      (c.g MSIO_CTL_AUX_MODE = 2 → ActsOn (.auxOff t ch) s t ch (fun e => e.b MSIO_REQ_AUX_OFF = false ∧ e.gb CONT_STATUS_CMD 2 = false ∧ c.Frame ([MSIO_REQ, CONT_STATUS] ++ sourceRegs 10) e ∧ c.Kept e)) ∧
      (c.g MSIO_CTL_AUX_MODE ≠ 2 → ActsOn (.auxOff t ch) s t ch (fun e => e.b MSIO_REQ_AUX_OFF = false ∧ c.RegsOnly [MSIO_REQ] e)))) ∧
  (∀ (s : State) (t : Tick) (ch : Ch) (g1 g2 ok : Bool) (u : Tick), let c := s.m.seen t ch
    let m := c.msio
    let still := fun (i : Instr) => ActsOn i s t ch (fun e => e = c)
    let chg : Instr := .guardInputChange t ch g1 g2
    let en := c.b GUARD_CFG_EN
    let mean := if g1 && !g2 then 0 else if !g1 && g2 then 1 else 2
    let was := if c.b GUARD_STATUS_G1 && !c.b GUARD_STATUS_G2 then 0 else if !c.b GUARD_STATUS_G1 && c.b GUARD_STATUS_G2 then 1 else 2
    let equiv := if mean ≠ 2 then none else if m.equivAt.isSome then m.equivAt else some c.now
    let inputs := fun (e : Chan) => e.b GUARD_STATUS_G1 = g1 ∧ e.b GUARD_STATUS_G2 = g2 ∧ e.msio = { m with equivAt := equiv }
    let regs := [GUARD_STATUS, MSIO_IRQ_STATUS] ++ sourceRegs 10
    let late := en && decide (was = 2) && c.sinceOpt m.equivAt (ms (c.g GUARD_CFG_DISC_T))
    let counts := ok && decide (c.state = FAULT) && !c.since u (ms 5000) && !c.b ACK_STATUS_JAMMED
    (c.state = OFF → still chg ∧ still (.guardDiscTimeout t ch) ∧ still (.ackPressBegin t ch) ∧ still (.ackPressEnd t ch) ∧ still (.ackJammed t ch)) ∧
    (c.state ≠ OFF →
      (en = false → ActsOn chg s t ch (fun e => inputs e ∧ e.g GUARD_STATUS_STATE = mean ∧ e.srcActive GUARD_OPEN = false ∧ e.srcActive GUARD_DISCREP = false ∧ e.srcActive GUARD_TEST_DUE = false ∧ c.Frame regs e ∧ c.Kept e)) ∧
      (en = true → mean = 0 → c.srcActive GUARD_DISCREP = false → ActsOn chg s t ch (fun e => inputs e ∧ e.g GUARD_STATUS_STATE = 0 ∧ e.srcActive GUARD_OPEN = false ∧
        (c.b GUARD_STATUS_OPEN_SEEN = true → e.b GUARD_STATUS_TEST_SEEN = true ∧ e.b GUARD_STATUS_OPEN_SEEN = false ∧ e.srcActive GUARD_TEST_DUE = false) ∧
        (c.b GUARD_STATUS_OPEN_SEEN = false → e.b GUARD_STATUS_TEST_SEEN = c.b GUARD_STATUS_TEST_SEEN) ∧ (c.g GUARD_STATUS_STATE ≠ 0 → e.b MSIO_IRQ_STATUS_GUARD_CHANGE = true) ∧ c.Frame regs e ∧ c.Kept e)) ∧
      (en = true → mean = 0 → c.srcActive GUARD_DISCREP = true → ActsOn chg s t ch (fun e => inputs e ∧ e.g GUARD_STATUS_STATE = (if c.b GUARD_STATUS_OPEN_SEEN then 0 else 3) ∧
        e.srcActive GUARD_DISCREP = !c.b GUARD_STATUS_OPEN_SEEN ∧ e.b GUARD_STATUS_OPEN_SEEN = false ∧ e.b GUARD_STATUS_TEST_SEEN = c.b GUARD_STATUS_TEST_SEEN ∧ e.srcActive GUARD_OPEN = false ∧ c.Frame regs e ∧ c.Kept e)) ∧
      (en = true → mean ≠ 0 → (c.srcActive GUARD_TEST_DUE = true ∨ c.srcActive GUARD_OPEN = true) → ActsOn chg s t ch (fun e => inputs e ∧ e.g GUARD_STATUS_STATE = (if c.srcActive GUARD_DISCREP then 3 else mean) ∧
        (mean = 1 → e.b GUARD_STATUS_OPEN_SEEN = true) ∧ e.srcActive GUARD_OPEN = c.srcActive GUARD_OPEN ∧ c.Frame regs e ∧ c.Kept e)) ∧
      (en = true → mean ≠ 0 → c.srcActive GUARD_TEST_DUE = false → c.srcActive GUARD_OPEN = false → ActsOn chg s t ch (fun e => e.b GUARD_STATUS_G1 = g1 ∧ e.b GUARD_STATUS_G2 = g2 ∧ e.msio.equivAt = equiv ∧
        (mean = 1 → e.b GUARD_STATUS_OPEN_SEEN = true) ∧ e.srcLatched GUARD_OPEN = true ∧ (3 ≤ c.sevOf GUARD_OPEN → e.state = FAULT) ∧ e.g GUARD_STATUS_STATE = (if c.srcActive GUARD_DISCREP then 3 else mean) ∧
        c.Reacted [GUARD_STATUS, MSIO_IRQ_STATUS] e)) ∧
      (late = false → still (.guardDiscTimeout t ch)) ∧
      (late = true → c.srcActive GUARD_DISCREP = false → ActsOn (.guardDiscTimeout t ch) s t ch (fun e => e.b GUARD_STATUS_OPEN_SEEN = false ∧ e.g GUARD_STATUS_STATE = 3 ∧ e.srcLatched GUARD_DISCREP = true ∧ e.srcActive GUARD_DISCREP = true ∧
        (3 ≤ c.sevOf GUARD_DISCREP → e.state = FAULT) ∧ c.Reacted [GUARD_STATUS, MSIO_IRQ_STATUS] e)) ∧
      (m.press.isSome = true → still (.ackPressBegin t ch)) ∧
      (m.press = none → still (.ackPressEnd t ch) ∧ still (.ackJammed t ch) ∧ ActsOn (.ackPressBegin t ch) s t ch (fun e => e.b ACK_STATUS_PRESSED = true ∧ e.msio = { m with press := some (c.now, decide (c.state = FAULT) && c.ctl.cond1.isSome) } ∧
        c.Frame [ACK_STATUS] e ∧ c.RegsOnly [ACK_STATUS] { e with msio := m })) ∧
      (m.press = some (u, ok) → ActsOn (.ackPressEnd t ch) s t ch (fun e => e.b ACK_STATUS_PRESSED = false ∧ e.g ACK_STATUS_PRESSES = (c.g ACK_STATUS_PRESSES + 1) % 65536 ∧ e.msio = { m with press := none } ∧ e.b ACK_STATUS_JAMMED = false ∧
        e.b ACK_STATUS_ACK_SEEN = (c.b ACK_STATUS_ACK_SEEN || counts) ∧ (c.b ACK_STATUS_JAMMED = true → e.srcActive ACK_JAMMED_SRC = false) ∧ c.Frame ([ACK_STATUS] ++ sourceRegs 10) e ∧ c.Kept e)) ∧
      (m.press = some (u, ok) → c.since u (ms 5000) = false → still (.ackJammed t ch)) ∧
      (m.press = some (u, ok) → c.since u (ms 5000) = true → c.srcActive ACK_JAMMED_SRC = false → ActsOn (.ackJammed t ch) s t ch (fun e => e.srcLatched ACK_JAMMED_SRC = true ∧ (3 ≤ c.sevOf ACK_JAMMED_SRC → e.state = FAULT) ∧
        (c.sevOf ACK_JAMMED_SRC < 3 → e.b ACK_STATUS_JAMMED = true) ∧ c.Reacted [] e))))

/-- R355, R359 to R362, R366, R368 to R374, R380, R421: a frame from the host passes its checks or is discarded and counted; an accepted CMD frame is a fragment of a
bundle, a CRD frame brings the host's counters; a bundle that stays incomplete is dropped. -/
def Obligations.FramesFromTheHost : Prop :=
  ∀ (s : State) (t : Tick) (fr : RxFrame) (b : Bundle) (f : Nat), let d := s.m.seenDev t
    let z := zadomOf fr.udp
    let live := d.alive && d.b ETH_STATUS_LINK_UP
    let anyRx : List Instr := [.cmdFrameRx t fr, .arcFrameRx t fr, .crdFrameRx t fr, .auditReq t fr, .auditRsp t fr, .auditDone t fr, .epochAck t fr, .epochReq t fr]
    let nothing := fun (i : Instr) => ActsDev i s t (fun e => e = d)
    let r := d.rxStamp
    let l := d.hq.link
    let idle := decide (l.audit = none) && !l.epochWait && !l.raiseDue
    let faulted := fun (e : Dev) => e.hq.link = (if d.b HQ_CTL_MODE then { l with raiseDue := true } else if idle then { l with audit := some ⟨true, false, 0, d.now⟩ } else l)
    let counted := fun (c : Fld) (e : Dev) => e.g c = Sys2Proof.satAdd (2 ^ (c.hi + 1 - c.lo) - 1) (d.g c)
    let kept := fun (e : Dev) => e.hq.flows = d.hq.flows ∧ e.hq.busy = d.hq.busy ∧ e.hq.ctl = d.hq.ctl ∧ e.eth = r.eth ∧ e.pwr = d.pwr ∧ e.can = d.can ∧ e.arch = d.arch ∧ e.colmo = d.colmo ∧ e.otp = d.otp
    let bad := fun (c : Fld) (l : List Nat) (e : Dev) => counted c e ∧ kept e ∧ d.Frame ([c.reg, ETH_RX_FRAMES, HQ_AUDIT] ++ l) e
    let rxed := fun (e : Dev) => e.g ETH_RX_FRAMES_COUNT = (d.g ETH_RX_FRAMES_COUNT + 1) % 2 ^ 32
    let p1 := live && fr.fcs
    let p2 := p1 && d.destOk fr
    let p3 := p2 && zadomOk fr.udp fr.v6
    let p4 := p3 && decide (z.dev = d.devId)
    let p5 := p4 && d.authOk fr.udp z
    let p7 := p5 && (decide (z.kind = 7) || decide (z.epoch = d.g HQ_SESSION_EPOCH))
    let x := d.flow z.flow
    let data := decide (z.kind ≠ 5 ∧ z.kind ≠ 7)
    let mine := x.opened && !x.out && decide (z.queue = x.queue) && (decide (z.kind = 0) || decide (z.kind = 6))
    let gap := (z.seq + 2 ^ 32 - x.seq % 2 ^ 32) % 2 ^ 32
    let old := decide (gap = 0) || decide (2 ^ 31 < gap)
    let credit := newer x.cntA x.cntB
    let fresh := x.first || (decide (gap = 1) || (d.b HQ_CTL_MODE && !old && decide (gap ≠ 2 ^ 31)))
    let ok := p7 && data && mine && fresh && credit
    let i := z.bundle % 16
    let last := z.flags.testBit 6
    let cmd := ok && decide (z.kind = 0) && decide (z.queue < 8) && decide (x.pairEn = false ∨ z.credit = 0)
    let y := fun (e : Dev) => e.flow z.flow
    let bundle : Bundle := ⟨z.flow, z.tag, z.bundle / 16, z.epoch, z.seq, d.now, d.time, fr.src, fr.sport, if last then some 0 else none, [(0, z.payload)]⟩
    let more := { b with frags := tabPut b.frags i z.payload, arrival := d.time, lastIdx := if last then some i else b.lastIdx }
    let belongs := x.bundle = some b ∧ b.bundle = z.bundle / 16 ∧ b.tag = z.tag ∧ b.epoch = z.epoch
    let taken := fun (e : Dev) => rxed e ∧ (y e).cntB = (x.cntB + 1) % 2 ^ 32 ∧ (y e).seq = z.seq ∧ (y e).first = false ∧ e.b HQ_SESSION_SESSION_OPEN = true ∧
      (d.b HQ_SESSION_SESSION_OPEN = false → e.b HQ_IRQ_STATUS_SESSION_OPENED = true) ∧ d.Frame [ETH_RX_FRAMES, HQ_SESSION, HQ_IRQ_STATUS, HQ_DISC3] e
    (live = false → ∀ j ∈ anyRx, nothing j) ∧
    (live = true → fr.fcs = false → d.srcActive FRAME_CRC = false → ∀ j ∈ anyRx, ActsDev j s t (fun e => bad ETH_FCS_ERR_COUNT [ETH_SRC_STATUS, NTF_PEND2] e ∧ faulted e ∧ e.srcLatched FRAME_CRC = true)) ∧
    (p1 = true → p2 = false → ∀ j ∈ anyRx, ActsDev j s t (fun e => rxed e ∧ e.hq = d.hq ∧ r.RegsOnly [ETH_RX_FRAMES] e)) ∧
    (p2 = true → p3 = false → d.srcActive FRAME_CRC = false → ∀ j ∈ anyRx, ActsDev j s t (fun e => bad HQ_DISC0_CRC [ETH_SRC_STATUS, NTF_PEND2] e ∧ rxed e ∧ faulted e ∧ e.srcLatched FRAME_CRC = true)) ∧
    (p3 = true → p4 = false → ∀ j ∈ anyRx, ActsDev j s t (fun e => bad HQ_DISC0_ID [] e ∧ rxed e ∧ faulted e)) ∧
    (p4 = true → p5 = false → d.srcActive AUTH_FAIL = false → ∀ j ∈ anyRx, ActsDev j s t (fun e => bad HQ_DISC2_AUTH [HQ_SRC_STATUS, NTF_PEND2] e ∧ rxed e ∧ faulted e ∧ e.srcLatched AUTH_FAIL = true)) ∧
    (p5 = true → p7 = false → ∀ j ∈ anyRx, ActsDev j s t (fun e => bad HQ_DISC1_EPOCH [] e ∧ rxed e ∧ faulted e)) ∧
    (p7 = true → data = true → mine = false → ∀ j ∈ anyRx, ActsDev j s t (fun e => bad HQ_DISC3_FLOW [] e ∧ rxed e ∧ faulted e)) ∧
    (p7 = true → data = true → mine = true → x.first = false → old = true → ∀ j ∈ anyRx, ActsDev j s t (fun e => bad HQ_DISC1_SEQ [] e ∧ rxed e ∧ e.hq.link = l)) ∧
    (p7 = true → data = true → mine = true → fresh = false → old = false → (d.b HQ_CTL_MODE = false ∨ gap ≠ 2 ^ 31) → ∀ j ∈ anyRx, ActsDev j s t (fun e => bad HQ_DISC1_SEQ [] e ∧ rxed e ∧ faulted e)) ∧
    (p7 = true → data = true → mine = true → fresh = true → credit = false → ∀ j ∈ anyRx, ActsDev j s t (fun e => bad HQ_DISC2_NO_CREDIT [] e ∧ rxed e ∧ faulted e)) ∧
    (cmd = true → i = 0 → last = true → x.bundle = none → d.hq.busy.contains z.tag = false → ActsDev (.cmdFrameRx t fr) s t (fun e => taken e ∧ (y e).bundle = none ∧ (e.queue x.queue).bundles = (d.queue x.queue).bundles ++ [bundle] ∧
      (e.queue x.queue).level = (d.queue x.queue).level + 1 ∧ e.hq.busy = z.tag :: d.hq.busy)) ∧
    (cmd = true → i = 0 → last = false → x.bundle = none → ActsDev (.cmdFrameRx t fr) s t (fun e => taken e ∧ (y e).bundle = some bundle ∧ e.hq.busy = d.hq.busy)) ∧
    (cmd = true → i ≠ 0 → x.bundle = none → ActsDev (.cmdFrameRx t fr) s t (fun e => taken e ∧ (y e).cntA = (x.cntA + 1) % 2 ^ 32 ∧ (y e).returns = x.returns + 1 ∧ (e.queue x.queue).level = (d.queue x.queue).level ∧ counted HQ_DISC3_BUNDLE e)) ∧
    (cmd = true → i ≠ 0 → belongs → i < x.init → z.seq = (b.seq0 + i) % 2 ^ 32 → more.complete = false → ActsDev (.cmdFrameRx t fr) s t (fun e => taken e ∧ (y e).bundle = some more)) ∧
    (cmd = true → i ≠ 0 → belongs → i < x.init → z.seq = (b.seq0 + i) % 2 ^ 32 → more.complete = true → d.hq.busy.contains z.tag = false → ActsDev (.cmdFrameRx t fr) s t (fun e => taken e ∧ (y e).bundle = none ∧
      (e.queue x.queue).bundles = (d.queue x.queue).bundles ++ [more] ∧ e.hq.busy = z.tag :: d.hq.busy)) ∧
    (ok = true → z.kind = 6 → x.pairEn = false → (d.up = false ∨ d.colmo.staging = none) → ActsDev (.arcFrameRx t fr) s t (fun e => rxed e ∧ (y e).cntA = (x.cntA + 1) % 2 ^ 32 ∧ (y e).cntB = (x.cntB + 1) % 2 ^ 32 ∧ (y e).seq = z.seq ∧ (y e).returns = x.returns + 1)) ∧
    (p7 = true → z.kind = 5 → be z.payload 0 2 = 1 → nth z.payload 5 = 0 → (d.flow (nth z.payload 4)).opened = true → (d.flow (nth z.payload 4)).out = true → ActsDev (.crdFrameRx t fr) s t (fun e => rxed e ∧
      let grant := be z.payload 8 4
      let v := d.flow (nth z.payload 4)
      let w := e.flow (nth z.payload 4)
      w.cntA = (if newer grant v.cntA then grant else v.cntA) ∧ w.cntB = v.cntB ∧ w.copies = (if newer (be z.payload 12 4) v.cntB then v.copies else v.uncovered (be z.payload 12 4)))) ∧
    (p7 = true → z.kind = 7 → ∀ j ∈ anyRx.take 3, ActsDev j s t (fun e => rxed e ∧ r.RegsOnly [ETH_RX_FRAMES] e)) ∧
    (((d.flow f).bundle = none ∨ ((d.flow f).bundle = some b ∧ d.since b.at_ (ms (d.g HQ_TIMERS_BUNDLE_T)) = false)) → nothing (.bundleTimeout t f)) ∧
    ((d.flow f).bundle = some b → d.since b.at_ (ms (d.g HQ_TIMERS_BUNDLE_T)) = true → ActsDev (.bundleTimeout t f) s t (fun e => (e.flow f).bundle = none ∧ (e.flow f).cntA = ((d.flow f).cntA + b.frags.length) % 2 ^ 32 ∧
      (e.flow f).cntB = (d.flow f).cntB ∧ counted HQ_DISC3_BUNDLE e ∧ d.Frame [HQ_DISC3] e))

/-- R42, R43, R371, R375, R376, R381; R357, R378, R380, R489: a credit audit is asked for, drains, is answered, reconciles the flows or fails; an unacknowledged frame
starts one. An epoch raise puts every flow at its start and is announced until it is acknowledged; HELLO is sent until a session opens; the link comes up and goes
down. -/
def Obligations.AuditsEpochsAndTheLink : Prop :=
  (∀ (s : State) (t : Tick) (fr : RxFrame) (a : Audit) (host : Bool), let d := s.m.seenDev t
    let z := zadomOf fr.udp
    let l := d.hq.link
    let r := d.rxStamp
    let nothing := fun (i : Instr) => ActsDev i s t (fun e => e = d)
    let mode := d.b HQ_CTL_MODE
    let idle := decide (l.audit = none) && !l.epochWait && !l.raiseDue
    let faulted := fun (e : Dev) => e.hq.link = (if mode then { l with raiseDue := true } else if idle then { l with audit := some ⟨true, false, 0, d.now⟩ } else l)
    let onlyLink := fun (e : Dev) => d.Frame [HQ_AUDIT] e ∧ { e with regs := d.regs, hq := d.hq } = d ∧ { e.hq with link := l } = d.hq
    let raises := fun (e : Dev) => e.hq.link = { l with raiseDue := true } ∧ e.b HQ_AUDIT_BUSY = true ∧ onlyLink e
    let entries := d.openFlows.map d.entryOf
    let sent := fun (sub : Nat) (e : Dev) => e.hq.ctl = d.hq.ctl ++ [⟨7, 0, 0, 0, 0, 0, 0, 0, 0, d.seqOf 0, d.time, 0, 0, [sub, 0, 1, 0] ++ crdBytes entries⟩] ∧ (∀ f < 8, (e.flow f).returns = (if (d.flow f).opened then 0 else (d.flow f).returns))
    let small := decide (entries.length ≤ 117)
    let okRx := d.alive && d.b ETH_STATUS_LINK_UP && fr.fcs && d.destOk fr && zadomOk fr.udp fr.v6 && decide (z.dev = d.devId) && d.authOk fr.udp z
    let single := decide (nth z.payload 1 = 0) && decide (nth z.payload 2 ≤ 1)
    let sync := fun (sub : Nat) => okRx && decide (z.kind = 7) && decide (nth z.payload 0 = sub) && single
    let es := crdOf (min 117 ((z.payload.length - 4) / 12)) (z.payload.drop 4)
    let fit := es.all d.flowConsistent
    let base := { l with sub := 0, part := 0, entries := [] }
    let rxed := fun (e : Dev) => e.g ETH_RX_FRAMES_COUNT = (d.g ETH_RX_FRAMES_COUNT + 1) % 2 ^ 32
    let heard := fun (e : Dev) => rxed e ∧ e.hq = { d.hq with link := base } ∧ d.Frame [ETH_RX_FRAMES] e
    let ended := fun (e : Dev) => e.hq.link = { base with audit := none } ∧ e.g HQ_AUDIT_COUNT = (d.g HQ_AUDIT_COUNT + 1) % 65536 ∧ e.b HQ_AUDIT_BUSY = l.raiseDue ∧ e.b HQ_IRQ_STATUS_AUDIT_DONE = true
    let failed := fun (e : Dev) => e.hq.link.audit = none ∧ e.hq.link.raiseDue = true ∧ e.b HQ_AUDIT_BUSY = true ∧ e.srcLatched LINK_AUDIT_FAIL = true ∧ e.hq.flows = d.hq.flows
    let late := fun (u : Tick) => d.since u (ms (d.g HQ_TIMERS_RETX_T))
    let out1 := es.length = 1 ∧ ∀ y ∈ es, (d.flow y.flow).opened = true ∧ (d.flow y.flow).out = true
    let reconciled := fun (e : Dev) => ∀ y ∈ es, (e.flow y.flow).cntA = y.cntA ∧ (e.flow y.flow).cntB = y.cntB ∧ (e.flow y.flow).copies = [] ∧
      (e.queue (d.flow y.flow).queue).frames = (if (d.flow y.flow).reliable && !mode then ((d.flow y.flow).uncovered y.cntB).map (fun p => { p.2 with retx := true, ends := false, after := .none }) else []) ++ (d.queue (d.flow y.flow).queue).frames
    let lost := fun (e : Dev) => e.g HQ_RECON_LOST_FRAMES = min (2 ^ (HQ_RECON_LOST_FRAMES.hi + 1 - HQ_RECON_LOST_FRAMES.lo) - 1) (d.g HQ_RECON_LOST_FRAMES + (es.map (fun y => sub32 (d.flow y.flow).cntB y.cntB)).sum)
    (d.alive = false → nothing (.hqAuditReq t) ∧ nothing (.hqAuditEpochReq t)) ∧
    (d.alive = true → ActsDev (.hqAuditReq t) s t (fun e => faulted e ∧ onlyLink e ∧ ((mode = true ∨ idle = true) → e.b HQ_AUDIT_BUSY = true))) ∧
    (d.alive = true → ActsDev (.hqAuditEpochReq t) s t raises) ∧
    ((l.audit = none ∨ (l.audit = some a ∧ (a.drained = true ∨ d.since a.since (ms 1) = false))) → nothing (.auditDrainEnd t)) ∧
    (l.audit = some a → a.drained = false → d.since a.since (ms 1) = true → small = true → ActsDev (.auditDrainEnd t) s t (fun e => e.hq.link = { l with audit := some ⟨a.initiator, true, 0, d.now⟩ } ∧
      sent (if a.initiator then 1 else 2) e ∧ d.RegsOnly [] { e with hq := d.hq, seqs := d.seqs, lastTime := d.lastTime })) ∧
    ((l.audit = none ∨ (l.audit = some a ∧ (a.initiator = false ∨ a.drained = false ∨ d.since a.since (ms 5) = false))) → nothing (.auditRspTimeout t)) ∧
    (l.audit = some a → a.initiator = true → a.drained = true → d.since a.since (ms 5) = true → a.tries < 3 → small = true → ActsDev (.auditRspTimeout t) s t (fun e => e.hq.link = { l with audit := some ⟨true, true, a.tries + 1, d.now⟩ } ∧ sent 1 e)) ∧
    (l.audit = some a → a.initiator = true → a.drained = true → d.since a.since (ms 5) = true → 3 ≤ a.tries → d.srcActive LINK_AUDIT_FAIL = false → ActsDev (.auditRspTimeout t) s t (fun e => failed e ∧ e.hq.ctl = d.hq.ctl)) ∧
    (sync 1 = true → l.epochWait = true → ActsDev (.auditReq t fr) s t heard) ∧
    (sync 1 = true → l.epochWait = false → ActsDev (.auditReq t fr) s t (fun e => rxed e ∧ e.hq = { d.hq with link := { base with audit := some ⟨false, false, 0, d.now⟩ } } ∧ e.b HQ_AUDIT_BUSY = true ∧ d.Frame [ETH_RX_FRAMES, HQ_AUDIT] e)) ∧
    (sync 2 = true → (l.audit = none ∨ (l.audit = some a ∧ (a.initiator = false ∨ a.drained = false))) → ActsDev (.auditRsp t fr) s t heard) ∧
    (sync 2 = true → l.audit = some a → a.initiator = true → a.drained = true → fit = false → d.srcActive LINK_AUDIT_FAIL = false → ActsDev (.auditRsp t fr) s t (fun e => rxed e ∧ failed e)) ∧
    (sync 2 = true → l.audit = some a → a.initiator = true → a.drained = true → fit = true → out1 → ActsDev (.auditRsp t fr) s t (fun e => rxed e ∧ ended e ∧ reconciled e ∧ lost e ∧ e.hq.ctl.length = d.hq.ctl.length + 1)) ∧
    (sync 3 = true → (l.audit = none ∨ (l.audit = some a ∧ (a.initiator = true ∨ a.drained = false))) → ActsDev (.auditDone t fr) s t heard) ∧
    (sync 3 = true → l.audit = some a → a.initiator = false → a.drained = true → out1 → ActsDev (.auditDone t fr) s t (fun e => rxed e ∧ ended e ∧ reconciled e ∧ lost e ∧ e.hq.ctl = d.hq.ctl)) ∧
    (okRx = true → z.kind = 7 → nth z.payload 0 = 9 → ∀ i ∈ ([.auditReq t fr, .auditRsp t fr, .auditDone t fr] : List Instr), ActsDev i s t (fun e => rxed e ∧ r.RegsOnly [ETH_RX_FRAMES] e)) ∧
    (host = true → (∀ f ∈ d.openFlows, (d.flow f).out = true ∨ ((d.flow f).peerAt.map late).getD false = false) → nothing (.retxTimeout t host)) ∧
    (host = true → (∃ f ∈ d.openFlows, (d.flow f).out = false ∧ ((d.flow f).peerAt.map late).getD false = true) → ActsDev (.retxTimeout t host) s t (fun e => faulted e ∧ onlyLink e)) ∧
    (host = false → (mode = true ∨ ∀ f ∈ d.openFlows, (d.flow f).out = false ∨ (d.flow f).copies.any (fun p => late p.1) = false) → nothing (.retxTimeout t host)) ∧
    (host = false → mode = false → (∃ f ∈ d.openFlows, (d.flow f).out = true ∧ (d.flow f).copies.any (fun p => late p.1) = true) → ActsDev (.retxTimeout t host) s t (fun e => faulted e ∧ onlyLink e))) ∧
  (∀ (s : State) (t : Tick) (fr : RxFrame) (speed : Nat), let d := s.m.seenDev t
    let z := zadomOf fr.udp
    let l := d.hq.link
    let r := d.rxStamp
    let nothing := fun (i : Instr) => ActsDev i s t (fun e => e = d)
    let rate := d.g ETH_CTL_RATE
    let okRx := d.alive && d.b ETH_STATUS_LINK_UP && fr.fcs && d.destOk fr && zadomOk fr.udp fr.v6 && decide (z.dev = d.devId) && d.authOk fr.udp z
    let rxed := fun (e : Dev) => e.g ETH_RX_FRAMES_COUNT = (d.g ETH_RX_FRAMES_COUNT + 1) % 2 ^ 32
    let early := l.raiseAt.any (fun u => decide (d.now < u + ms 100))
    let raise := d.alive && l.raiseDue && !early
    let epoch := (d.g HQ_SESSION_EPOCH + 1) % 16
    let again := l.epochWait && d.since l.newAt (ms 10)
    let acks := decide (z.kind = 7) && decide (nth z.payload 0 = 5) && l.epochWait && decide (nth z.payload 4 % 16 = d.g HQ_SESSION_EPOCH)
    let asks := decide (z.kind = 7) && decide (nth z.payload 0 = 6)
    let hello := d.up && d.b ETH_STATUS_LINK_UP && l.hello && !d.b HQ_SESSION_SESSION_OPEN && ((l.helloAt.map (fun u => d.since u (ms 100))).getD true)
    let canRise := d.alive && !d.pwr.pllOnAon && !d.b ETH_STATUS_LINK_UP
    let up := fun (e : Dev) => e.b ETH_STATUS_LINK_UP = true ∧ e.g ETH_STATUS_SPEED = (if rate = 0 then speed % 4 else rate) ∧ e.b ETH_STATUS_FULL_DUPLEX = true ∧ e.b ETH_STATUS_AN_DONE = d.b ETH_CTL_AN_EN ∧
      e.b ETH_IRQ_STATUS_LINK_CHANGE = true ∧ e.srcActive LINK_DOWN_SRC = false
    let start := fun (f : Nat) => (⟨f, b2n (d.flow f).out, (d.flow f).init, 0⟩ : CrdEntry)
    (raise = false → nothing (.epochRaise t)) ∧
    (raise = true → d.openFlows.length ≤ 117 → ActsDev (.epochRaise t) s t (fun e => e.g HQ_SESSION_EPOCH = epoch ∧ e.g HQ_SESSION_RAISES = (d.g HQ_SESSION_RAISES + 1) % 2 ^ (HQ_SESSION_RAISES.hi + 1 - HQ_SESSION_RAISES.lo) ∧
      e.hq.link = { l with raiseAt := some d.now, raiseDue := false, epochWait := true, audit := none, newAt := d.now } ∧ e.b HQ_IRQ_STATUS_EPOCH_RAISED = true ∧ e.b HQ_AUDIT_BUSY = true ∧
      (∀ f < 8, (d.flow f).opened = true → (e.flow f).cntA = (d.flow f).init ∧ (e.flow f).cntB = 0 ∧ (e.flow f).returns = 0 ∧ (e.flow f).copies = [] ∧ (e.flow f).seq = (d.flow f).seq ∧ (e.flow f).bundle = none ∧ (e.flow f).peer = none) ∧
      (∀ q < 8, (e.queue q).bundles = [] ∧ (∀ b ∈ (d.queue q).bundles, e.hq.busy.contains b.tag = false)) ∧
      e.hq.ctl.map (fun x => (x.kind, x.payload)) = [(7, [4, 0, 1, 0, epoch, 0, 0, 0] ++ crdBytes (d.openFlows.map start))])) ∧
    (again = false → nothing (.epochNewTimer t)) ∧
    (again = true → d.openFlows.length ≤ 117 → ActsDev (.epochNewTimer t) s t (fun e => e.hq.link = { l with newAt := d.now } ∧ e.hq.ctl = d.hq.ctl ++ [⟨7, 0, 0, 0, 0, 0, 0, 0, 0, d.seqOf 0, d.time, 0, 0,
      [4, 0, 1, 0, d.g HQ_SESSION_EPOCH, 0, 0, 0] ++ crdBytes (d.openFlows.map start)⟩] ∧ e.hq.flows = d.hq.flows ∧ d.Frame [] e)) ∧
    (okRx = true → z.kind = 7 → acks = false → ActsDev (.epochAck t fr) s t (fun e => rxed e ∧ r.RegsOnly [ETH_RX_FRAMES] e)) ∧
    (okRx = true → acks = true → ActsDev (.epochAck t fr) s t (fun e => rxed e ∧ e.hq = { d.hq with link := { l with epochWait := false } } ∧ e.b HQ_AUDIT_BUSY = l.raiseDue ∧ d.Frame [ETH_RX_FRAMES, HQ_AUDIT] e)) ∧
    (okRx = true → z.kind = 7 → asks = false → ActsDev (.epochReq t fr) s t (fun e => rxed e ∧ r.RegsOnly [ETH_RX_FRAMES] e)) ∧
    (okRx = true → asks = true → ActsDev (.epochReq t fr) s t (fun e => rxed e ∧ e.hq = { d.hq with link := { l with raiseDue := true } } ∧ e.b HQ_AUDIT_BUSY = true ∧ d.Frame [ETH_RX_FRAMES, HQ_AUDIT] e)) ∧
    (hello = false → nothing (.helloTimer t)) ∧
    (hello = true → ActsDev (.helloTimer t) s t (fun e => e.hq.link = { l with helloAt := some d.now } ∧ e.hq.ctl.map Zadom.payload = d.hq.ctl.map Zadom.payload ++ [[0, 0, 1, 0] ++ beBytes 6 d.otp.mac ++ [d.rd HQ_ID % 256, d.rd HQ_CTL % 256]] ∧
      d.Frame [] e ∧ e.hq.flows = d.hq.flows)) ∧
    (canRise = false → nothing (.linkUp t speed)) ∧
    (canRise = true → l.seen = false → ActsDev (.linkUp t speed) s t (fun e => up e ∧ e.hq = { d.hq with link := { l with seen := true, hello := true } } ∧ d.Frame [ETH_STATUS, ETH_IRQ_STATUS, ETH_SRC_STATUS] e)) ∧
    (canRise = true → l.seen = true → ActsDev (.linkUp t speed) s t (fun e => up e ∧ e.hq.link = (if d.b HQ_CTL_MODE then { l with raiseDue := true } else if l.audit = none ∧ l.epochWait = false ∧ l.raiseDue = false then { l with audit := some ⟨true, false, 0, d.now⟩ } else l) ∧
      (d.up = true → e.hq.off.head? = some (64, d.now)) ∧ d.Frame [ETH_STATUS, ETH_IRQ_STATUS, ETH_SRC_STATUS, HQ_AUDIT] e)) ∧
    ((d.alive = false ∨ d.b ETH_STATUS_LINK_UP = false) → nothing (.linkDown t)) ∧
    (d.alive = true → d.b ETH_STATUS_LINK_UP = true → ActsDev (.linkDown t) s t (fun e => e.b ETH_STATUS_LINK_UP = false ∧ e.g ETH_STATUS_SPEED = 0 ∧ e.b ETH_STATUS_FULL_DUPLEX = false ∧ e.b ETH_STATUS_AN_DONE = false ∧ e.b ETH_IRQ_STATUS_LINK_CHANGE = true ∧
      e.srcActive LINK_DOWN_SRC = true ∧ e.hq.link = { l with audit := none } ∧ e.b HQ_AUDIT_BUSY = (l.raiseDue || l.epochWait) ∧ d.Frame [ETH_STATUS, ETH_IRQ_STATUS, ETH_SRC_STATUS, HQ_AUDIT, NTF_PEND2] e)))

/-- R25, R355, R359 to R363, R366, R368 to R370, R376, R387, R393, R415, R417; R382 to R384: at egress what is due is taken into frames, then the frame of the first rank
that may leave leaves with its flow's counters; credits are reported in their intervals. A vector that has cause to fire becomes pending and sends its NTF, unless it
was pending already or its holdoff runs; the holdoff ends. -/
def Obligations.EgressCreditsAndVectors : Prop :=
  (∀ (s : State) (t : Tick) (ch : Ch) (q : Nat) (f : OutFrame) (z : Zadom) (rc : Rec) (op : OpDone) (rq : Req), let d := s.m.seenDev t
    let h := d.hq
    let c := s.m.seen t ch
    let out : Instr := .frameEgress t
    let leaves := fun (P : Dev → Prop) => Acts out s (fun m => P m.dev ∧ (∀ k : Ch, { m.chan k with now := c.now } = s.m.seen t k) ∧ m.holds = s.m.holds)
    let nothing := fun (i : Instr) => ActsDev i s t (fun e => e = d)
    let bare := fun (c : Chan) => c.answers = [] ∧ c.out.buf = [] ∧ c.out.dropped = 0
    let other := s.m.chan ch.other
    let calm := d.recs = [] ∧ d.colmo.arcRead = none ∧ h.due = [] ∧ bare other
    let quiet := h.due = [] ∧ (d.up = false ∨ (calm ∧ bare c ∧ d.colmo.running = []))
    let live := d.alive && d.b ETH_STATUS_LINK_UP
    let stopped := h.link.audit.isSome || h.link.epochWait
    let isSync := fun (z : Zadom) => z.kind == 7
    let plain := decide (d.b HQ_CTL_AUTH_EN = false)
    let marks := fun (z : Zadom) => ({ z with dev := d.devId, epoch := d.g HQ_SESSION_EPOCH, flags := z.flags + 16 * b2n (!d.b PTP_STATUS_SYNCED) } : Zadom)
    let vlan := fun (pcp : Nat) => if d.b ETH_CTL_VLAN_EN then some (pcp, d.g UDP_VLAN_VID) else none
    let counted := fun (e : Dev) => e.g ETH_TX_FRAMES_COUNT = (d.g ETH_TX_FRAMES_COUNT + 1) % 2 ^ 32 ∧ d.Frame [ETH_TX_FRAMES] e
    let first := [2, 3, 4, 5].findSome? d.nextQueue
    let x := d.flow f.flow
    let y := fun (e : Dev) => e.flow f.flow
    let back := if x.pairEn then min 255 (d.flow x.pair).returns else 0
    let frame : Zadom := ⟨f.kind, 32 * b2n f.retx + 8 * b2n f.hold, 0, f.source, 0, f.flow, q, f.tag, back, f.seq, f.time, 0, 0, f.payload⟩
    let crd := d.since h.crdAt (us (100 * d.g HQ_TIMERS_CRD_T))
    let full := d.since h.fullAt (ms 100)
    let can := live && !stopped
    let changed := d.openFlows.filter (fun k => (d.flow k).changed)
    let sent := fun (fs : List Nat) (e : Dev) => e.hq.ctl = h.ctl ++ [⟨5, 0, 0, 0, 0, 0, 0, 0, 0, d.seqOf 0, d.time, 0, 0, beBytes 2 fs.length ++ [0, 0] ++ crdBytes (fs.map d.entryOf)⟩] ∧
      (∀ k < 8, e.flow k = (if k ∈ fs then { d.flow k with changed := false, returns := 0 } else d.flow k)) ∧ d.Frame [] e
    (quiet → live = false → leaves (fun e => e = d)) ∧
    (quiet → live = true → stopped = true → h.ctl.any isSync = false → leaves (fun e => e = d)) ∧
    (quiet → live = true → stopped = false → h.ctl = [] → first = none → leaves (fun e => e = d)) ∧
    (quiet → live = true → plain = true → stopped = false → h.ctl.head? = some z → leaves (fun e => e.hq = { h with ctl := h.ctl.drop 1, sent := some ⟨marks z, (d.flow 0).host, (d.flow 0).port, vlan 7, d.time⟩ } ∧ counted e)) ∧
    (quiet → live = true → plain = true → stopped = true → h.ctl.find? isSync = some z → leaves (fun e => e.hq = { h with ctl := h.ctl.eraseIdx (h.ctl.findIdx isSync), sent := some ⟨marks z, (d.flow 0).host, (d.flow 0).port, vlan 7, d.time⟩ } ∧ counted e)) ∧
    (quiet → live = true → plain = true → stopped = false → h.ctl = [] → first = some q → (d.queue q).frames.head? = some f → f.after = .none → x.pair ≠ f.flow → leaves (fun e => e.hq.sent = some ⟨marks frame, x.host, x.port, vlan (d.queue q).pcp, d.time⟩ ∧
      (e.queue q).frames = (d.queue q).frames.drop 1 ∧ (e.queue q).level = (d.queue q).level - 1 ∧ (y e).cntB = (x.cntB + 1) % 2 ^ 32 ∧ (y e).cntA = x.cntA ∧ (y e).seq = f.seq ∧ (y e).changed = true ∧
      (y e).copies = (if x.reliable && !d.b HQ_CTL_MODE then x.copies ++ [(d.now, f)] else x.copies) ∧ (x.pairEn = true → (e.flow x.pair).returns = (d.flow x.pair).returns - back) ∧
      e.hq.busy = (if f.ends then h.busy.filter (fun k => k != f.tag) else h.busy) ∧ counted e)) ∧
    (h.due = [] → d.up = true → live = false → calm → bare { c with out := { c.out with buf := [] } } → d.colmo.running = [] → c.out.buf = [rc] → d.passes ch.source rc.body = true → (d.flow 2).opened = true → (d.flow 2).out = true → d.room (d.flow 2).queue = true →
      Acts out s (fun m => (m.dev.queue (d.flow 2).queue).frames = (d.queue (d.flow 2).queue).frames ++ [⟨3, 2, ch.source, 0, rc.seq, rc.time, rc.hold, rc.bytes, false, .none, false⟩] ∧ m.chan ch = { c with out := { c.out with buf := [] } } ∧
        m.chan ch.other = s.m.seen t ch.other ∧ d.Frame [] m.dev)) ∧
    (h.due = [] → d.up = true → live = false → calm → bare { c with answers := [] } → d.colmo.running = [⟨rq, [.chan ch op.op]⟩] → c.answers = [op] → op.status = 0 → rq.flow < 256 → (d.flow rq.flow).pairEn = true → (d.flow (d.flow rq.flow).pair).opened = true →
      (d.flow (d.flow rq.flow).pair).out = true → d.room (d.flow (d.flow rq.flow).pair).queue = true → Acts out s (fun m => (m.dev.queue (d.flow (d.flow rq.flow).pair).queue).frames = (d.queue (d.flow (d.flow rq.flow).pair).queue).frames ++
        [⟨1, (d.flow rq.flow).pair, 0, rq.tag, d.seqOf 0, d.time, false, rspPayload 0 0xFF 1 rq.arrival (pad4 (op.words.flatMap (beBytes 4))), true, .none, false⟩] ∧ m.dev.colmo.running = [] ∧ m.chan ch = { c with answers := [] })) ∧
    (crd = false → nothing (.crdTimer t)) ∧
    (crd = true → (can = false ∨ changed = []) → ActsDev (.crdTimer t) s t (fun e => e = { d with hq := { h with crdAt := d.now } })) ∧
    (crd = true → can = true → changed ≠ [] → changed.length ≤ 117 → ActsDev (.crdTimer t) s t (fun e => e.hq.crdAt = d.now ∧ sent changed e)) ∧
    (full = false → nothing (.crdFullTimer t)) ∧
    (full = true → can = false → ActsDev (.crdFullTimer t) s t (fun e => e = { d with hq := { h with fullAt := d.now } })) ∧
    (full = true → can = true → d.openFlows ≠ [] → d.openFlows.length ≤ 117 → ActsDev (.crdFullTimer t) s t (fun e => e.hq.fullAt = d.now ∧ sent d.openFlows e))) ∧
  (∀ (s : State) (t : Tick) (v : Nat), let d := s.m.seenDev t
    let h := d.hq
    let fire : Instr := .ntfVectorFire t v
    let nothing := fun (i : Instr) => ActsDev i s t (fun e => e = d)
    let news := fun (n : Nat) (l : List (Nat × Nat)) (w : Nat → Nat) (en : Nat → Nat) => l.any (fun p => (w p.1 &&& en p.2) != ((w p.1 &&& en p.2) &&& RegMap.get h.seen 0 (n * 2 ^ 20 + p.1)))
    let chanNews := fun (n : Nat) (c : Chan) => news n chanIrqs c.read c.rd
    let due := if v < 64 then (d.queue v).ev else if v = 65 then chanNews 1 (s.m.seen t .a) else if v = 66 then chanNews 2 (s.m.seen t .b) else news (v - 64) (funcIrqs (v - 64)) d.irqWord d.rd
    let r := d.route v
    let free := h.off.any (fun e => e.1 == v) = false
    let sends := d.ntfEn v && r.msg && !d.pend v
    let room := (d.flow r.flow).opened && (d.flow r.flow).out && d.room (d.flow r.flow).queue
    let payload := fun (e : Dev) => v :: (leBytes 4 (e.rd NTF_PEND0) ++ leBytes 4 (e.rd NTF_PEND1) ++ [e.rd NTF_PEND2 % 256])
    let sent := fun (e : Dev) => e.hq.off = (v, d.now) :: h.off.filter (fun e => e.1 != v) ∧ (room = true → (e.queue (d.flow r.flow).queue).frames = (d.queue (d.flow r.flow).queue).frames ++ [⟨4, r.flow, 0, 0, d.seqOf 0, d.time, false, payload e, false, .none, false⟩])
    let pending := fun (e : Dev) => e.pend v = true ∧ (∀ w < 72, w ≠ v → e.pend w = d.pend w) ∧ d.Frame [NTF_PEND0, NTF_PEND1, NTF_PEND2] e
    let runs := h.off.any (fun e => e.1 == v && !d.since e.2 (us (d.g NTF_CFG_HOLDOFF)))
    let waits := h.wait.contains v && d.pend v && d.ntfEn v && r.msg
    (d.alive = false → nothing fire) ∧
    (d.alive = true → v < 72 → due = false → ActsDev fire s t (fun e => d.Frame [] e ∧ e.hq.off = h.off ∧ e.hq.wait = h.wait ∧ e.recs = d.recs ∧ (v < 64 → (e.queue v).ev = false))) ∧
    (d.alive = true → v < 72 → due = true → ActsDev fire s t (fun e => pending e ∧ (sends = false → e.hq.off = h.off ∧ e.hq.wait = h.wait) ∧ (sends = true → free → sent e) ∧ (sends = true → ¬ free → e.hq.wait = v :: h.wait ∧ e.hq.off = h.off))) ∧
    (runs = true → nothing (.ntfHoldoffExpiry t v)) ∧
    (runs = false → waits = false → ActsDev (.ntfHoldoffExpiry t v) s t (fun e => e = { d with hq := { h with off := h.off.filter (fun e => e.1 != v), wait := h.wait.filter (fun k => k != v) } })) ∧
    (runs = false → waits = true → ActsDev (.ntfHoldoffExpiry t v) s t (fun e => sent e ∧ e.hq.wait = h.wait.filter (fun k => k != v) ∧ d.Frame [] e)))

/-- R32, R354 to R357, R388, R489: the end station of the time domain takes its messages; the crystal of the PHY's interface, MDIO and the control protocols act. -/
def Obligations.TimeDomainAndPhy : Prop :=
  ∀ (s : State) (t : Tick) (n : Nat) (origin : Int) (proto : CtlProto) (dst src : Nat) (vid : Option Nat), let d := s.m.seenDev t
    let p := d.eth
    let nothing := fun (i : Instr) => ActsDev i s t (fun e => e = d)
    let onn := d.alive && d.b ETH_STATUS_LINK_UP && d.b ETH_CTL_PTP_EN && !d.pwr.pllOnAon
    let mine := decide (d.g PTP_CFG_DOMAIN = n)
    let stamped := fun (e : Dev) => e = { d with eth := { p with stamp := d.time } }
    let msgs : List PtpMsg := [.sync n origin, .syncTwo n, .followUp n origin, .pdelay origin, .announce n, .other]
    let offset := fun (st : Nat) => (st : Int) - (origin + p.delay)
    let good := fun (o : Int) => if o.natAbs < 100 then min 16 (p.good + 1) else 0
    let bad := fun (o : Int) => if 1000 < o.natAbs then min 3 (p.bad + 1) else 0
    let synced := fun (o : Int) (e : Dev) => e.g PTP_OFFSET_OFFSET = toBits 32 (sat32 o) ∧ e.b PTP_STATUS_SYNCED = (if bad o = 3 then false else if good o = 16 then true else d.b PTP_STATUS_SYNCED) ∧
      e.eth = { p with stamp := d.time, syncAt := none, good := good o, bad := bad o } ∧ e.off = d.off + Config.ptpServo o d.free ∧ e.free = d.free + 1 ∧ d.Frame [PTP_OFFSET, PTP_STATUS] e
    let busy := d.b MDIO_CTL_BUSY
    let ready := d.alive && d.since d.pwr.since (us (d.g PHY_RST_T))
    let live := d.alive && d.b ETH_STATUS_LINK_UP
    let addressed := if proto = .arp ∨ proto = .echo then d.rd IP4_ADDR ≠ 0 ∧ dst = d.rd IP4_ADDR else dst = Config.linkLocal d.otp.mac ∨ (d.ip6 ≠ 0 ∧ dst = d.ip6)
    let answers := d.up = true ∧ addressed ∧ (d.b ETH_CTL_VLAN_EN = true → vid = some (d.g UDP_VLAN_VID))
    let rxed := fun (e : Dev) => e.g ETH_RX_FRAMES_COUNT = (d.g ETH_RX_FRAMES_COUNT + 1) % 2 ^ 32
    (onn = false → ∀ msg ∈ msgs, nothing (.ptpMessageRx t msg)) ∧
    (onn = true → mine = false → ∀ msg ∈ ([.sync n origin, .syncTwo n, .followUp n origin, .announce n, .other] : List PtpMsg), ActsDev (.ptpMessageRx t msg) s t stamped) ∧
    (onn = true → ActsDev (.ptpMessageRx t .other) s t stamped) ∧
    (onn = true → mine = true → ActsDev (.ptpMessageRx t (.sync n origin)) s t (synced (offset d.time))) ∧
    (onn = true → mine = true → ActsDev (.ptpMessageRx t (.syncTwo n)) s t (fun e => e = { d with eth := { p with stamp := d.time, syncAt := some d.time } })) ∧
    (onn = true → mine = true → p.syncAt = none → ActsDev (.ptpMessageRx t (.followUp n origin)) s t stamped) ∧
    (onn = true → mine = true → p.syncAt = some src → ActsDev (.ptpMessageRx t (.followUp n origin)) s t (synced (offset src))) ∧
    (onn = true → ActsDev (.ptpMessageRx t (.pdelay origin)) s t (fun e => e = { d with eth := { p with stamp := d.time, delay := origin } })) ∧
    (onn = true → mine = true → ActsDev (.ptpMessageRx t (.announce n)) s t (fun e => e.b PTP_STATUS_GM_PRESENT = true ∧ e.eth = { p with stamp := d.time } ∧ d.Frame [PTP_STATUS] e)) ∧
    (d.alive = false → nothing (.announceTimeout t) ∧ nothing (.mdioGo t) ∧ nothing (.mdioTransactionEnd t n)) ∧
    (d.alive = true → ActsDev (.announceTimeout t) s t (fun e => e.b PTP_STATUS_SYNCED = false ∧ e.b PTP_STATUS_GM_PRESENT = false ∧ e.eth = { p with good := 0 } ∧ d.Frame [PTP_STATUS] e)) ∧
    (d.alive = true → busy = true → nothing (.mdioGo t)) ∧
    (d.alive = true → busy = false → nothing (.mdioTransactionEnd t n) ∧ ActsDev (.mdioGo t) s t (fun e => e.b MDIO_CTL_GO = true ∧ e.b MDIO_CTL_BUSY = true ∧ d.RegsOnly [MDIO_CTL] e)) ∧
    (d.alive = true → busy = true → ActsDev (.mdioTransactionEnd t n) s t (fun e => e.b MDIO_CTL_GO = false ∧ e.b MDIO_CTL_BUSY = false ∧ e.g MDIO_DATA_DATA = (if d.b MDIO_CTL_READ then n % 65536 else d.g MDIO_DATA_DATA) ∧ d.RegsOnly [MDIO_CTL, MDIO_DATA] e)) ∧
    (ready = false → nothing (.phyResetRelease t)) ∧
    (ready = true → ActsDev (.phyResetRelease t) s t (fun e => e = { d with pwr := { d.pwr with phy := true } })) ∧
    (live = false → nothing (.controlProtocolRx t proto ⟨dst, vid⟩ src)) ∧
    (live = true → ¬ answers → ActsDev (.controlProtocolRx t proto ⟨dst, vid⟩ src) s t (fun e => rxed e ∧ e.eth = { p with stamp := d.time } ∧ d.Frame [ETH_RX_FRAMES] e)) ∧
    (live = true → answers → ActsDev (.controlProtocolRx t proto ⟨dst, vid⟩ src) s t (fun e => rxed e ∧ e.g ETH_TX_FRAMES_COUNT = (d.g ETH_TX_FRAMES_COUNT + 1) % 2 ^ 32 ∧ e.eth = { p with stamp := d.time, answered := some (proto, src) } ∧
      d.Frame [ETH_RX_FRAMES, ETH_TX_FRAMES] e))

/-- R426 to R428, R431, R434, R437 to R439, R441, R489; R427, R430, R432 to R437, R440 to R443: a controller leaves INIT if its timing is in range, integrates, counts
errors, changes its error state, goes bus-off and recovers. A received frame is stored in the first object that it matches; the pending object of the highest
priority starts; a frame sent, a request, a cancel; the end-to-end protection of CAN B. -/
def Obligations.CanControllersAndObjects : Prop :=
  (∀ (s : State) (t : Tick) (k : Fin 2) (n : Nat) (big : Bool), let d := s.m.seenDev t
    let c := d.canSt k
    let st := d.g (CAN_STATUS_STATE k)
    let tec := d.g (CAN_STATUS_TEC k)
    let rec_ := d.g (CAN_STATUS_REC k)
    let onn := d.alive && (decide (st = 2) || decide (st = 3))
    let nothing := fun (i : Instr) => ActsDev i s t (fun e => e = d)
    let regs := [CAN_STATUS k, CAN_IRQ_STATUS k, (ERR_PASSIVE k).reg]
    let changed := fun (e : Dev) => st ≠ e.g (CAN_STATUS_STATE k) → e.b (CAN_IRQ_STATUS_STATE_CHANGE k) = true
    let leveled := fun (e : Dev) => e.g (CAN_STATUS_STATE k) = (if 128 ≤ e.g (CAN_STATUS_TEC k) ∨ 128 ≤ e.g (CAN_STATUS_REC k) then 3 else 2) ∧
      e.srcActive (ERR_PASSIVE k) = decide (128 ≤ e.g (CAN_STATUS_TEC k) ∨ 128 ≤ e.g (CAN_STATUS_REC k)) ∧ changed e
    let counts := fun (x y : Nat) (e : Dev) => e.g (CAN_STATUS_TEC k) = x ∧ e.g (CAN_STATUS_REC k) = y
    let seg := fun (f : Fld) => d.g f + 1
    let nt := seg (CAN_TIM_N_N_PRESC k) * (1 + seg (CAN_TIM_N_N_SEG1 k) + seg (CAN_TIM_N_N_SEG2 k))
    let dt := seg (CAN_TIM_D_D_PRESC k) * (1 + seg (CAN_TIM_D_D_SEG1 k) + seg (CAN_TIM_D_D_SEG2 k))
    let timing := 2 ≤ seg (CAN_TIM_N_N_SEG1 k) ∧ 2 ≤ seg (CAN_TIM_N_N_SEG2 k) ∧ seg (CAN_TIM_N_N_SJW k) ≤ seg (CAN_TIM_N_N_SEG2 k) ∧ 80 ≤ nt ∧ nt ≤ 1600 ∧ seg (CAN_TIM_D_D_SJW k) ≤ seg (CAN_TIM_D_D_SEG2 k) ∧
      (d.b (CAN_CTL_FD_EN k) = true → 16 ≤ dt ∧ dt ≤ nt) ∧ (d.b (CAN_TIM_N_TRIPLE k) = true → 320 ≤ nt)
    let init := d.alive && !d.pwr.pllOnAon && decide (st = 0)
    let busOff := fun (e : Dev) => e.g (CAN_STATUS_TEC k) = 255 ∧ e.g (CAN_STATUS_STATE k) = 4 ∧ (e.canSt k).off = true ∧ (e.canSt k).tx = none ∧ e.srcActive (BUS_OFF k) = true ∧ e.b (CAN_IRQ_STATUS_STATE_CHANGE k) = true
    let tecUp := fun (e : Dev) => (tec + 8 ≤ 255 → counts (tec + 8) rec_ e ∧ leveled e) ∧ (255 < tec + 8 → busOff e)
    let lone := d.g (CAN_LONE_COUNT k)
    let limit := decide (lone + 1 = d.g (CAN_LONE_LIMIT k))
    let cancels := limit && d.b (MO_CTL_LONE_CANCEL k n)
    (init = false → nothing (.canInitClear t k)) ∧
    (init = true → ¬ timing → ActsDev (.canInitClear t k) s t (fun e => e.b (CAN_CTL_INIT k) = true ∧ e.b (CAN_STATUS_CFG_ERR k) = true ∧ e.g (CAN_STATUS_STATE k) = 0 ∧ d.RegsOnly [CAN_CTL k, CAN_STATUS k] e)) ∧
    (init = true → timing → ActsDev (.canInitClear t k) s t (fun e => e.b (CAN_CTL_INIT k) = false ∧ e.b (CAN_STATUS_CFG_ERR k) = false ∧ e.b (CAN_DLYC_DLY_VALID k) = false ∧ e.g (CAN_STATUS_STATE k) = (if c.off then 4 else 1) ∧
      e.b (CAN_IRQ_STATUS_STATE_CHANGE k) = true ∧ d.RegsOnly [CAN_CTL k, CAN_STATUS k, CAN_DLYC k, CAN_IRQ_STATUS k] e)) ∧
    ((d.alive = false ∨ st ≠ 1) → nothing (.canIntegrated t k)) ∧
    (d.alive = true → st = 1 → ActsDev (.canIntegrated t k) s t (fun e => counts tec rec_ e ∧ leveled e ∧ d.Frame regs e ∧ e.can = d.can)) ∧
    (onn = false → nothing (.protocolException t k) ∧ nothing (.canRxError t k big) ∧ nothing (.canTxFail t k .arbitration) ∧ nothing (.canTxFail t k .acknowledge) ∧ nothing (.canTxFail t k .error)) ∧
    (onn = true → d.b (CAN_CTL_FD_EN k) = true → d.b (CAN_CTL_PEX_EN k) = true → ActsDev (.protocolException t k) s t (fun e => (e.canSt k).tx = none ∧ e.g (CAN_STATUS_STATE k) = 1 ∧ e.b (CAN_IRQ_STATUS_STATE_CHANGE k) = true ∧ counts tec rec_ e ∧ d.Frame regs e)) ∧
    (onn = true → (d.b (CAN_CTL_FD_EN k) = false ∨ d.b (CAN_CTL_PEX_EN k) = false) → ActsDev (.protocolException t k) s t (fun e => counts tec (min 255 (rec_ + 1)) e ∧ leveled e ∧ d.Frame regs e ∧ e.can = d.can)) ∧
    (onn = true → ActsDev (.canRxError t k big) s t (fun e => counts tec (min 255 (rec_ + (if big then 8 else 1))) e ∧ leveled e ∧ d.Frame regs e ∧ e.can = d.can)) ∧
    (c.tx = none → nothing (.canTxFail t k .arbitration) ∧ nothing (.canTxFail t k .acknowledge) ∧ nothing (.canTxFail t k .error)) ∧
    (onn = true → c.tx = some n → ActsDev (.canTxFail t k .arbitration) s t (fun e => e = { d with can := d.can.set k { c with tx := none } })) ∧
    (onn = true → c.tx = some n → ActsDev (.canTxFail t k .error) s t (fun e => (e.canSt k).tx = none ∧ tecUp e ∧ d.Frame regs e)) ∧
    (onn = true → c.tx = some n → n < 128 → (k = 1 ∨ d.iso.out = []) → ActsDev (.canTxFail t k .acknowledge) s t (fun e => (e.canSt k).tx = none ∧ (st = 2 → tecUp e) ∧ (st = 3 → counts tec rec_ e ∧ e.g (CAN_STATUS_STATE k) = 3) ∧
      e.g (CAN_LONE_COUNT k) = Sys2Proof.satAdd (2 ^ ((CAN_LONE_COUNT k).hi + 1 - (CAN_LONE_COUNT k).lo) - 1) lone ∧ (limit = true → e.b (CAN_STATUS_LONE k) = true ∧ e.srcActive (LONE_NODE k) = true) ∧
      (cancels = true → e.b (MO_STAT_PEND k n) = false ∧ e.b (MO_STAT_CANCELLED k n) = true) ∧ (cancels = false → e.rd (MO_STAT k n) = d.rd (MO_STAT k n)) ∧ d.Frame (regs ++ [CAN_LONE k, MO_STAT k n]) e)) ∧
    ((d.alive = false ∨ st ≠ 4) → nothing (.canCtlRecover t k)) ∧
    (d.alive = true → st = 4 → ActsDev (.canCtlRecover t k) s t (fun e => e.g (CAN_STATUS_RECOV k) = 0 ∧ e.g (CAN_STATUS_STATE k) = 5 ∧ e.b (CAN_IRQ_STATUS_STATE_CHANGE k) = true ∧ counts tec rec_ e ∧ d.Frame regs e ∧ e.can = d.can)) ∧
    ((d.alive = false ∨ st ≠ 5) → nothing (.canRecoveryComplete t k)) ∧
    (d.alive = true → st = 5 → ActsDev (.canRecoveryComplete t k) s t (fun e => e.g (CAN_STATUS_RECOV k) = 128 ∧ counts 0 0 e ∧ e.g (CAN_STATUS_STATE k) = 2 ∧ (e.canSt k).off = false ∧ e.srcActive (BUS_OFF k) = false ∧ e.srcActive (ERR_PASSIVE k) = false ∧
      d.Frame regs e))) ∧
  (∀ (s : State) (t : Tick) (k : Fin 2) (n : Fin 128) (fr : CanFrame) (age delay : Nat), let d := s.m.seenDev t
    let c := d.canSt k
    let st := d.g (CAN_STATUS_STATE k)
    let tec := d.g (CAN_STATUS_TEC k)
    let rec_ := d.g (CAN_STATUS_REC k)
    let onn := d.alive && (decide (st = 2) || decide (st = 3))
    let nothing := fun (i : Instr) => ActsDev i s t (fun e => e = d)
    let got : Instr := .canFrameReceived t k fr age
    let moRegs := fun (j : Nat) => [MO_ID k j, MO_CTL k j, MO_STAT k j, MO_TIME_LO k j, MO_TIME_HI k j, MO_SEQ k j, MO_E2E k j] ++ (List.range 16).map (MO_DATA k j)
    let regs := [CAN_STATUS k, CAN_IRQ_STATUS k, (ERR_PASSIVE k).reg, CAN_LONE k, CAN_RXDISC k]
    let matches_ := fun (j : Nat) => d.b (MO_CTL_EN k j) && !d.b (MO_CTL_DIR k j) && (fr.id &&& d.g (MO_MASK_MASK k j)) == (d.g (MO_ID_ID k j) &&& d.g (MO_MASK_MASK k j)) &&
      (!d.b (MO_MASK_MXTD k j) || fr.xtd == d.b (MO_ID_XTD k j)) && (!fr.fdf || d.b (MO_CTL_FDF k j))
    let first := decide (∀ j < n.val, matches_ j = false) && matches_ n
    let foreign := fr.fdf && !d.b (CAN_CTL_FD_EN k)
    let recDown := fun (e : Dev) => e.g (CAN_STATUS_TEC k) = tec ∧ (rec_ ≤ 127 → e.g (CAN_STATUS_REC k) = rec_ - 1) ∧ (127 < rec_ → 119 ≤ e.g (CAN_STATUS_REC k) ∧ e.g (CAN_STATUS_REC k) ≤ 127) ∧ e.g (CAN_LONE_COUNT k) = 0 ∧
      e.b (CAN_STATUS_LONE k) = false ∧ e.srcActive (LONE_NODE k) = false
    let newdat := d.b (MO_STAT_NEWDAT k n) || d.b (MO_STAT_LOCK k n)
    let stored := fun (e : Dev) => e.g (MO_ID_ID k n) = fr.id % 2 ^ 29 ∧ e.b (MO_ID_XTD k n) = fr.xtd ∧ e.b (MO_ID_RTR k n) = fr.rtr ∧ e.g (MO_CTL_DLC k n) = fr.dlc % 16 ∧ e.b (MO_STAT_ESI k n) = fr.esi ∧ e.b (MO_STAT_NEWDAT k n) = true ∧
      (∀ i < 64, (e.rd (MO_DATA k n (i / 4))) / 2 ^ (8 * (i % 4)) % 256 = if i < (canBytes fr).length then nth (canBytes fr) i else (d.rd (MO_DATA k n (i / 4))) / 2 ^ (8 * (i % 4)) % 256) ∧
      e.rd (MO_TIME_LO k n) = (d.time - age) % 2 ^ 32 ∧ e.rd (MO_TIME_HI k n) = (d.time - age) / 2 ^ 32 % 2 ^ 32 ∧ (d.b (MO_CTL_IRQ_EN k n) = true → e.b (CAN_IRQ_STATUS_RX k) = true)
    let lost := fun (e : Dev) => e.b (MO_STAT_MSGLOST k n) = true ∧ e.g (CAN_RXDISC_LOST k) = Sys2Proof.satAdd 65535 (d.g (CAN_RXDISC_LOST k))
    let prot := decide (k = 1) && d.b (MO_CTL_E2E k n)
    let cnt := nth (canBytes fr) 1 % 16
    let delta := (cnt + 16 - d.g (MO_E2E_CNT k n)) % 16
    let sound := decide (nth (canBytes fr) 0 = e2eCrc (d.g (MO_E2E_DATA_ID k n)) (canBytes fr))
    let skips := (d.e2e k n).ref && (decide (delta = 0) || decide (d.g (MO_E2E_MAXDELTA k n) < delta))
    let ready := fun (j : Nat) => d.b (MO_STAT_PEND k j) && (!d.b (MO_CTL_FDF k j) || d.b (CAN_CTL_FD_EN k))
    let key := fun (j : Nat) => if d.b (MO_ID_XTD k j) then d.g (MO_ID_ID k j) / 2 ^ 18 * 2 ^ 19 + 2 ^ 18 + d.g (MO_ID_ID k j) % 2 ^ 18 else d.g (MO_ID_ID k j) / 2 ^ 18 * 2 ^ 19
    let best := ready n && decide (∀ j < 128, ready j = true → key n < key j ∨ (key n = key j ∧ n.val ≤ j))
    let fdf := d.b (MO_CTL_FDF k n)
    let rtr := d.b (MO_ID_RTR k n) && !fdf
    let frame : CanFrame := ⟨d.b (MO_ID_XTD k n), rtr, fdf, fdf && d.b (MO_CTL_BRS k n), fdf && decide (st = 3), d.g (MO_ID_ID k n), d.g (MO_CTL_DLC k n), if rtr then [] else d.moData k n (canLen fdf (d.g (MO_CTL_DLC k n)))⟩
    let sends := d.b (MO_CTL_EN k n) && d.b (MO_CTL_DIR k n) && !(prot && decide (canLen fdf (d.g (MO_CTL_DLC k n)) < 2))
    let late := d.alive && prot && d.b (MO_CTL_EN k n) && !d.b (MO_CTL_DIR k n) && decide (d.g (MO_E2E_TIMEOUT k n) ≠ 0) && d.since (d.e2e k n).at_ (ms (d.g (MO_E2E_TIMEOUT k n)))
    let calmIso := k = 1 ∨ d.iso.out = []
    (onn = false → nothing got ∧ nothing (.canTxStart t k) ∧ nothing (.canTxDone t k delay age)) ∧
    (onn = true → foreign = true → ActsDev got s t (fun e => e.g (CAN_STATUS_TEC k) = tec ∧ e.g (CAN_STATUS_REC k) = min 255 (rec_ + 1) ∧ d.Frame [CAN_STATUS k, CAN_IRQ_STATUS k, (ERR_PASSIVE k).reg] e)) ∧
    (onn = true → foreign = false → (∀ j < 128, matches_ j = false) → ActsDev got s t (fun e => recDown e ∧ e.g (CAN_RXDISC_NOMATCH k) = Sys2Proof.satAdd 65535 (d.g (CAN_RXDISC_NOMATCH k)) ∧ d.Frame regs e)) ∧
    (onn = true → foreign = false → first = true → newdat = false → prot = false → ActsDev got s t (fun e => recDown e ∧ stored e ∧ d.Frame (regs ++ moRegs n) e)) ∧
    (onn = true → foreign = false → first = true → newdat = true → d.b (MO_CTL_OVW k n) = true → d.b (MO_STAT_LOCK k n) = false → prot = false → ActsDev got s t (fun e => recDown e ∧ lost e ∧ stored e ∧ d.Frame (regs ++ moRegs n) e)) ∧
    (onn = true → foreign = false → first = true → newdat = true → (d.b (MO_CTL_OVW k n) = false ∨ d.b (MO_STAT_LOCK k n) = true) → ActsDev got s t (fun e => recDown e ∧ lost e ∧ d.Frame (regs ++ [MO_STAT k n]) e)) ∧
    (onn = true → foreign = false → first = true → newdat = false → prot = true → ActsDev got s t (fun e => recDown e ∧ stored e ∧ (sound = false → d.g (MO_STAT_E2E_ERR k n) = 0 → e.g (MO_STAT_E2E_ERR k n) = 1) ∧
      (sound = true → skips = true → d.g (MO_STAT_E2E_ERR k n) = 0 → e.g (MO_STAT_E2E_ERR k n) = 2) ∧ ((sound = false ∨ skips = true) → e.srcActive (E2E_FAIL k) = true ∧ e.g (MO_E2E_CNT k n) = d.g (MO_E2E_CNT k n)) ∧
      (sound = true → skips = false → e.g (MO_STAT_E2E_ERR k n) = 0 ∧ e.g (MO_E2E_CNT k n) = cnt ∧ e.e2e k n = ⟨true, d.now⟩) ∧ d.Frame (regs ++ moRegs n) e)) ∧
    (onn = true → (c.tx.isSome = true ∨ d.b (CAN_CTL_MON k) = true ∨ ∀ j < 128, ready j = false) → nothing (.canTxStart t k)) ∧
    (onn = true → c.tx = none → d.b (CAN_CTL_MON k) = false → best = true → prot = false → ActsDev (.canTxStart t k) s t (fun e => e = { d with can := d.can.set k { c with tx := some n.val } })) ∧
    (onn = true → c.tx = none → d.b (CAN_CTL_MON k) = false → best = true → prot = true → 2 ≤ d.moLen k n → ActsDev (.canTxStart t k) s t (fun e => (e.canSt k).tx = some n.val ∧ e.g (MO_E2E_CNT k n) = (if (d.e2e k n).ref then d.g (MO_E2E_CNT k n) else (d.g (MO_E2E_CNT k n) + 1) % 16) ∧
      bitsOf (e.rd (MO_DATA k n 0)) 11 8 = e.g (MO_E2E_CNT k n) ∧ bitsOf (e.rd (MO_DATA k n 0)) 7 0 = e2eCrc (d.g (MO_E2E_DATA_ID k n)) (e.moData k n (d.moLen k n)) ∧ d.Frame [MO_E2E k n, MO_DATA k n 0] e)) ∧
    (c.tx = none → nothing (.canTxDone t k delay age)) ∧
    (onn = true → c.tx = some n.val → calmIso → ActsDev (.canTxDone t k delay age) s t (fun e => (e.canSt k).tx = none ∧ (e.canSt k).sent = some frame ∧ e.b (MO_STAT_PEND k n) = false ∧ e.b (MO_STAT_DONE k n) = true ∧
      e.rd (MO_TIME_LO k n) = (d.time - age) % 2 ^ 32 ∧ e.g (CAN_STATUS_TEC k) = tec - 1 ∧ e.g (CAN_LONE_COUNT k) = 0 ∧ (d.b (MO_CTL_IRQ_EN k n) = true → e.b (CAN_IRQ_STATUS_TX_DONE k) = true) ∧
      (frame.brs = true → d.b (CAN_TIM_D_DLY_COMP k) = true → e.g (CAN_DLYC_DLY_MEAS k) = delay % 2 ^ ((CAN_DLYC_DLY_MEAS k).hi + 1 - (CAN_DLYC_DLY_MEAS k).lo) ∧ e.b (CAN_DLYC_DLY_VALID k) = true) ∧
      d.Frame (regs ++ [CAN_DLYC k] ++ moRegs n) e)) ∧
    (d.alive = false → nothing (.moStatPend t k n) ∧ nothing (.moStatCancel t k n)) ∧
    (d.alive = true → sends = true → ActsDev (.moStatPend t k n) s t (fun e => e.b (MO_STAT_PEND k n) = true ∧ d.RegsOnly [MO_STAT k n] e)) ∧
    (d.alive = true → sends = false → ActsDev (.moStatPend t k n) s t (fun e => e.b (CAN_IRQ_STATUS_WRITE_REFUSED k) = true ∧ d.RegsOnly [CAN_IRQ_STATUS k] e)) ∧
    (d.alive = true → d.b (MO_STAT_PEND k n) = false → nothing (.moStatCancel t k n)) ∧
    (d.alive = true → d.b (MO_STAT_PEND k n) = true → c.tx = some n.val → ActsDev (.moStatCancel t k n) s t (fun e => e.b (CAN_IRQ_STATUS_CANCEL_REFUSED k) = true ∧ d.RegsOnly [CAN_IRQ_STATUS k] e)) ∧
    (d.alive = true → d.b (MO_STAT_PEND k n) = true → c.tx ≠ some n.val → calmIso → ActsDev (.moStatCancel t k n) s t (fun e => e.b (MO_STAT_PEND k n) = false ∧ e.b (MO_STAT_CANCELLED k n) = true ∧ d.Frame [MO_STAT k n] e)) ∧
    (late = false → nothing (.e2eTimeout t k n)) ∧
    (late = true → ActsDev (.e2eTimeout t k n) s t (fun e => (e.e2e k n).ref = false ∧ (d.g (MO_STAT_E2E_ERR k n) = 0 → e.g (MO_STAT_E2E_ERR k n) = 3) ∧ e.srcActive (E2E_FAIL k) = true ∧ d.Frame [MO_STAT k n, (E2E_FAIL k).reg] e)))

/-- R444 to R446, R449: the address claim, its loss and its answer; requests; the transport protocol's messages; a message that no mapping entry turns into a command. -/
def Obligations.Iso11783 : Prop :=
  ∀ (s : State) (t : Tick) (sa name pgn da src : Nat) (dt : Bool) (data : List Nat) (p : Tp), let d := s.m.seenDev t
    let x := d.iso
    let onn := d.up && x.en
    let st := d.g (ISO_STATUS_STATE 0)
    let addr := d.g (ISO_STATUS_ADDRESS 0)
    let nothing := fun (i : Instr) => ActsDev i s t (fun e => e = d)
    let frame := fun (id : Nat) (l : List Nat) => (⟨true, false, false, false, false, id, 8, l⟩ : CanFrame)
    let claim := fun (a : Nat) => frame (0x18EEFF00 + a) (leBytes 8 x.name)
    let sends := fun (fr : CanFrame) (l : List Nat) (e : Dev) => e.b (MO_STAT_PEND 0 112) = true ∧ e.rd (MO_ID 0 112) = 2 ^ 31 + fr.id % 2 ^ 29 ∧ e.moData 0 112 8 = fr.data.map (· % 256) ∧ d.Frame ([MO_ID 0 112, MO_CTL 0 112, MO_STAT 0 112, MO_DATA 0 112 0, MO_DATA 0 112 1] ++ l) e
    let room := decide (d.b (MO_STAT_PEND 0 112) = false)
    let claims := fun (a : Nat) (e : Dev) => e.g (ISO_STATUS_ADDRESS 0) = a % 256 ∧ e.g (ISO_STATUS_STATE 0) = 1 ∧ e.iso.claimAt = d.now
    let want := if st = 2 then addr else x.pref
    let l := x.claims.filter (fun e => e.2 != name)
    let table := if sa < 254 then tabPut l sa name else l
    let mine := decide (sa = addr) && (decide (st = 1) || decide (st = 2))
    let next := (claimOrder addr).find? (fun a => !table.any (fun e => e.1 == a))
    let moves := x.name.testBit 63 && next.isSome
    let heard := dt = false → nth data 0 ≠ 16 ∧ nth data 0 ≠ 32 ∧ nth data 0 ≠ 255
    let bam := decide (da = 255)
    let forUs := onn && (bam || (decide (st = 2) && decide (da = addr)))
    let rest := x.tps.filter (fun p => !(p.src == src && p.bam == bam))
    let bytes := nth data 1 % 256 + 256 * (nth data 2 % 256)
    let pg := nth data 5 % 256 + 256 * (nth data 6 % 256) + 65536 * (nth data 7 % 256)
    let packets := nth data 3
    let good := decide (9 ≤ bytes) && decide (bytes ≤ 1785) && decide (packets = (bytes + 6) / 7)
    let cm := fun (bs : List Nat) => frame (0x1CEC0000 + 256 * src + addr) (bs ++ leBytes 3 pg)
    let mapped : Instr := .canMappedMessage t pgn ⟨src, da⟩ data sa name
    (onn = false → nothing (.addressClaimStart t) ∧ nothing (.addressClaimTimer t) ∧ nothing (.addressClaimedRx t sa name) ∧ nothing (.requestPgnRx t pgn da) ∧ nothing (.transportProtocolRx t dt src da data) ∧ nothing mapped) ∧
    (onn = true → room = true → want < 256 → ActsDev (.addressClaimStart t) s t (fun e => claims want e ∧ sends (claim want) [ISO_STATUS 0] e)) ∧
    (onn = true → (st ≠ 1 ∨ d.since x.claimAt (ms 250) = false) → nothing (.addressClaimTimer t)) ∧
    (onn = true → st = 1 → d.since x.claimAt (ms 250) = true → ActsDev (.addressClaimTimer t) s t (fun e => e.g (ISO_STATUS_STATE 0) = 2 ∧ d.RegsOnly [ISO_STATUS 0] e)) ∧
    (onn = true → mine = false → ActsDev (.addressClaimedRx t sa name) s t (fun e => e = { d with iso := { x with claims := table } })) ∧
    (onn = true → mine = true → room = true → x.name ≤ name → ActsDev (.addressClaimedRx t sa name) s t (fun e => e.iso = { x with claims := table, tps := [] } ∧ e.g (ISO_STATUS_STATE 0) = st ∧ sends (claim sa) [] e)) ∧
    (onn = true → mine = true → room = true → name < x.name → moves = true → ActsDev (.addressClaimedRx t sa name) s t (fun e => claims (next.getD 0) e ∧ e.iso.claims = table ∧ e.iso.tps = [] ∧ sends (claim (next.getD 0)) [ISO_STATUS 0] e)) ∧
    (onn = true → mine = true → room = true → name < x.name → moves = false → ActsDev (.addressClaimedRx t sa name) s t (fun e => e.g (ISO_STATUS_STATE 0) = 3 ∧ e.iso.tps = [] ∧ sends (claim 254) [ISO_STATUS 0] e)) ∧
    (onn = true → pgn ≠ 60928 → nothing (.requestPgnRx t pgn da)) ∧
    (onn = true → pgn = 60928 → st ≠ 3 → (da = 255 ∨ da = addr) → room = true → ActsDev (.requestPgnRx t pgn da) s t (fun e => sends (claim addr) [] e ∧ e.iso = x)) ∧
    (onn = true → pgn = 60928 → st = 3 → (da = 255 ∨ da = 254) → room = true → ActsDev (.requestPgnRx t pgn da) s t (fun e => sends (claim 254) [] e ∧ e.iso = x)) ∧
    (onn = true → pgn = 60928 → st ≠ 3 → da ≠ 255 → da ≠ addr → nothing (.requestPgnRx t pgn da)) ∧
    (onn = true → forUs = false → nothing (.transportProtocolRx t dt src da data)) ∧
    (forUs = true → dt = false → heard → nothing (.transportProtocolRx t dt src da data)) ∧
    (forUs = true → dt = false → nth data 0 = 255 → ActsDev (.transportProtocolRx t dt src da data) s t (fun e => e = { d with iso := { x with tps := rest } })) ∧
    (forUs = true → dt = false → bam = true → nth data 0 = 32 → good = true → ActsDev (.transportProtocolRx t dt src da data) s t (fun e => e = { d with iso := { x with tps := rest ++ [⟨src, true, pg, bytes, packets, 1, []⟩] } })) ∧
    (forUs = true → dt = false → bam = false → nth data 0 = 16 → good = true → room = true → ActsDev (.transportProtocolRx t dt src da data) s t (fun e => e.iso = { x with tps := rest ++ [⟨src, false, pg, bytes, packets, 1, []⟩] } ∧ sends (cm [17, 1, 1, 255, 255]) [] e)) ∧
    (forUs = true → dt = false → bam = false → nth data 0 = 16 → good = false → room = true → ActsDev (.transportProtocolRx t dt src da data) s t (fun e => e.iso = { x with tps := rest } ∧ sends (cm [255, 9, 255, 255, 255]) [] e)) ∧
    (forUs = true → dt = true → x.tps = [] → nothing (.transportProtocolRx t dt src da data)) ∧
    (forUs = true → dt = true → bam = true → x.tps = [p] → p.src = src → p.bam = true → nth data 0 = p.next → p.next ≠ p.packets → ActsDev (.transportProtocolRx t dt src da data) s t (fun e =>
      e = { d with iso := { x with tps := [{ p with next := p.next + 1, data := p.data ++ (data.drop 1).take 7 }] } })) ∧
    (forUs = true → dt = true → bam = true → x.tps = [p] → p.src = src → p.bam = true → nth data 0 = p.next → p.next = p.packets → ActsDev (.transportProtocolRx t dt src da data) s t (fun e =>
      e = { d with iso := { x with tps := [], got := some (p.pgn, src, (p.data ++ (data.drop 1).take 7).take p.bytes) } })) ∧
    (forUs = true → dt = true → bam = true → x.tps = [p] → p.src = src → p.bam = true → nth data 0 ≠ p.next → ActsDev (.transportProtocolRx t dt src da data) s t (fun e => e = { d with iso := { x with tps := [] } })) ∧
    (onn = true → (st ≠ 2 ∨ (pgn / 256 % 256 < 240 ∧ da ≠ 255 ∧ da ≠ addr) ∨ d.arch.canMap = []) → nothing mapped)

/-- R36, R454 to R456, R460 to R462, R474, R476: an archive operation starts and ends with its result; a snapshot freezes and is written to the ring; the lifetime counters
are written. -/
def Obligations.ArchiveAndSnapshots : Prop :=
  ∀ (s : State) (t : Tick) (ch : Ch) (present decodes crcOk fail : Bool) (bits part slot : Nat), let d := s.m.seenDev t
    let c := s.m.seen t ch
    let a := d.arch
    let m := s.m.seenAt t
    let nothing := fun (i : Instr) => ActsDev i s t (fun e => e = d)
    let done : Instr := .arcOpDone t present decodes crcOk bits fail part slot
    let code := d.g ARC_OP_CODE
    let runs := d.alive && d.b ARC_OP_GO
    let read := if !present then 5 else if !decodes then 2 else if !crcOk then 3 else if bits = 0 then 0 else 1
    let wrote := if !present then 5 else if code = 3 then 0 else if fail then 4 else 0
    let ended := fun (r : Nat) (e : Dev) => e.b ARC_OP_GO = false ∧ e.g ARC_OP_STATUS_RESULT = r ∧ e.b ARC_IRQ_STATUS_OP_DONE = true
    let regs := [ARC_OP, ARC_OP_STATUS, ARC_IRQ_STATUS]
    let retired := { a with runBad := a.runBad + 1, retired := if part = 8 ∧ !a.retired.contains slot then slot :: a.retired else a.retired, used := if part < 8 then bump a.used part (fun n => n + 1) else a.used }
    let acts := fun (i : Instr) (P : Dev → Chan → Prop) => Acts i s (fun x => P x.dev { x.chan ch with now := c.now } ∧ { x.chan ch.other with now := c.now } = s.m.seen t ch.other ∧ x.holds = s.m.holds)
    let post := decide (c.ring.phase = .post)
    let frozen := c.ring.phase = .frozen
    let starts := d.up && decide (a.writing = none) && (c.state != OFF && post || decide (c.ring.phase = .frozen))
    let idx := ((List.range a.ringSlots).map (fun i => (a.nextIndex + i) % 2 ^ 32)).find? (fun i => !a.retired.contains (i % a.ringSlots))
    let writes := d.up && decide (a.writing = some ch) && decide (c.ring.phase = .frozen) && idx.isSome
    let i := idx.getD 0
    let entry : Snap := { index := i, ch := c.id, manual := c.ring.manual, hold := c.ring.hold, period := c.g DTC_PERIOD_COUNT, trigTime := c.ring.trigTime, cause := c.ring.cause, causeSeq := c.ring.causeSeq, cfg := c.ring.cfg, samples := c.ring.samples.reverse }
    let follows := if (s.m.chan ch.other).ring.phase = .frozen then some ch.other else none
    let put : Arch := { a with snaps := a.snaps.filter (fun (y : Snap) => y.index % a.ringSlots != i % a.ringSlots) ++ [entry], nextIndex := (i + 1) % 2 ^ 32, writing := follows }
    let due := d.up && decide (d.bist.mode ≠ .undercoat) && !decide (partSpares 6 < nth a.used 6) && d.since d.baseAt (ms 600000)
    (d.alive = false → nothing (.arcOpGo t)) ∧
    (d.alive = true → ActsDev (.arcOpGo t) s t (fun e => e.b ARC_OP_GO = true ∧ d.RegsOnly [ARC_OP] e)) ∧
    (runs = false → nothing done) ∧
    (runs = true → code = 0 → read = 5 → ActsDev done s t (fun e => ended 5 e ∧ d.RegsOnly regs e)) ∧
    (runs = true → code = 0 → read = 0 → ActsDev done s t (fun e => ended 0 e ∧ e.g ARC_ECC_MAXBITS = 0 ∧ d.RegsOnly (regs ++ [ARC_ECC]) e)) ∧
    (runs = true → code = 0 → read = 1 → d.srcActive ECC_CORR = false → ActsDev done s t (fun e => ended 1 e ∧ e.g ARC_ECC_MAXBITS = min 15 bits ∧ e.g ARC_ECC_CORR = Sys2Proof.satAdd (2 ^ (ARC_ECC_CORR.hi + 1 - ARC_ECC_CORR.lo) - 1) (d.g ARC_ECC_CORR) ∧
      e.srcLatched ECC_CORR = true ∧ e.arch = (if d.g ARC_CFG_REFRESH_LVL ≤ bits then retired else a))) ∧
    (runs = true → code = 0 → (read = 2 ∨ read = 3) → d.srcActive ECC_UNCORR = false → ActsDev done s t (fun e => ended read e ∧ e.g ARC_ECC_UNCORR = Sys2Proof.satAdd (2 ^ (ARC_ECC_UNCORR.hi + 1 - ARC_ECC_UNCORR.lo) - 1) (d.g ARC_ECC_UNCORR) ∧
      e.srcLatched ECC_UNCORR = true ∧ e.arch = a)) ∧
    (runs = true → code ≠ 0 → wrote ≠ 4 → ActsDev done s t (fun e => ended wrote e ∧ d.RegsOnly regs e)) ∧
    (runs = true → code ≠ 0 → wrote = 4 → d.srcActive BAD_BLOCK = false → ActsDev done s t (fun e => ended 4 e ∧ e.srcLatched BAD_BLOCK = true ∧ e.arch = retired)) ∧
    (starts = false → acts (.snapshotFreeze t ch) (fun e x => e = d ∧ x = (if c.state ≠ OFF ∧ post = true then { c with ring := { c.ring with phase := .frozen } } else c))) ∧
    (starts = true → acts (.snapshotFreeze t ch) (fun e x => e = { d with arch := { a with writing := some ch } } ∧ x = { c with ring := { c.ring with phase := .frozen } })) ∧
    (writes = false → acts (.snapshotWriteEnd t ch) (fun e x => e = d ∧ x = c)) ∧
    (writes = true → acts (.snapshotWriteEnd t ch) (fun e x => e.arch = put ∧ x = { c with ring := { cfg := c.ring.next, next := c.ring.next } } ∧
      e.recs = d.recs ++ [⟨5, ⟨d.seqOf 5, d.time, false, .evt 8 0x86 0 0 i (ch.source * 2 ^ 24)⟩⟩] ∧ d.Frame [] e)) ∧
    (due = false → nothing (.counterWriteTimer t)) ∧
    (due = true → Acts (.counterWriteTimer t) s (fun x => x.dev.base = m.counters ∧ x.dev.arch = { a with counters := m.counters } ∧ x.dev.baseAt = d.now ∧ d.Frame [] x.dev ∧
      (∀ k : Ch, { x.chan k with life := (m.chan k).life } = m.chan k ∧ (x.chan k).life.fault = 0 ∧ (x.chan k).life.s4 = 0)))

/-- R365, R383, R385, R389 to R397, R417, R422, R423: the commands of information, sessions, flows, notifications, identity and host-link configuration are answered
and have their effect; a wrong length and a missing class are refused. -/
def Obligations.ColmoLinkCommands : Prop :=
  ∀ (s : State) (t : Tick) (rq : Req) (args : List Nat), let d := s.m.seenDev t
    let idle := (s.m.seenAt t).Idle ∧ d.CanAnswer rq
    let ans := fun (i : Instr) (st : Nat) (data : List Nat) (after : After) (d1 : Dev) => Acts i s (fun m => d.Answered m.dev rq st data after ∧ d1.Else m.dev ∧ s.m.ChansKept t m ∧ m.holds = s.m.holds)
    let u8 := fun (k : Nat) => nth args k
    let colmo := fun (f : Colmo → Colmo) => { d with colmo := f d.colmo }
    let sess := fun (f : Session → Session) => colmo (fun c => { c with session := f c.session })
    let rows : List (Instr × Nat) := [(.info t rq args, 0), (.sessionNonce t rq args, 0), (.sessionKey t rq args, 184), (.sessionEnd t rq args, 0), (.flowOpen t rq args, 8), (.flowClose t rq args, 4), (.ntfAck t rq args, 12), (.evtFilter t rq args, 8)]
    let rows2 : List (Instr × Nat) := [(.identitySet t rq args, 4)]
    let free := Config.freeNat (3 * d.free + 2) % 2 ^ 128
    let key := d.sessionKey (part args 0 113)
    let keyBad := decide (3 < u8 116) || key.isNone
    let sig := d.colmo.session.nonce.any (fun n => u8 117 == d.g HQ_ID_ID && d.verifies 2 ([u8 116, u8 117] ++ beBytes 16 n) (part args 120 64))
    let x := d.flow (u8 0)
    let dir := if u8 2 < 8 then u8 1 = 0 else if u8 2 < 56 then u8 1 = 1 else True
    let range := u8 1 ≤ 1 ∧ u8 2 ≤ 63 ∧ u8 3 ≠ 0 ∧ u8 4 ≤ 1 ∧ dir
    let fits := (u8 1 = 0 → d.initSum (u8 2) + u8 3 ≤ (d.queue (u8 2)).rsv) ∧ d.rsvSum ≤ 1024
    let newFlow : Flow := { opened := true, out := u8 1 == 1, reliable := u8 4 == 1, pairEn := u8 5 != u8 0, pair := if u8 5 = u8 0 then 0 else u8 5, queue := u8 2, init := u8 3, cntA := u8 3, changed := true, host := rq.host, port := rq.port }
    let primed := ∀ ch ∈ [Ch.a, Ch.b], (s.m.chan ch).state = OFF ∨ (s.m.chan ch).state = PRIMED
    let pairs := (List.range (args.length / 8)).map (fun k => (be args (4 + 8 * k) 4, be args (8 + 8 * k) 4))
    let cfgOk := ∀ p ∈ pairs, cfgBits p.1 ≠ 0
    let mask := be args 0 12
    (d.up = false → ∀ i ∈ (rows ++ rows2).map Prod.fst ++ [.hostcfgWrite t rq args], ActsDev i s t (fun e => e = d)) ∧
    (idle → (∀ p ∈ rows, args.length ≠ p.2 → ans p.1 2 [] .none d) ∧ (∀ p ∈ rows2, args.length ≠ p.2 → ans p.1 2 [] .none d) ∧ (args.length % 8 ≠ 4 → ans (.hostcfgWrite t rq args) 2 [] .none d)) ∧
    (idle → d.holds 0 = false → ∀ p ∈ rows.drop 1, args.length = p.2 → ans p.1 4 [] .none d) ∧
    (idle → d.holds 2 = false → (args.length = 4 → ans (.identitySet t rq args) 4 [] .none d) ∧ (args.length % 8 = 4 → ans (.hostcfgWrite t rq args) 4 [] .none d)) ∧
    (idle → args = [] → ans (.info t rq args) 0 (beBytes 4 (d.g SYS_ID_PRODUCT) ++ beBytes 4 (d.g SYS_ID_REVISION) ++ beBytes 4 d.lc ++ beBytes 4 d.devId ++ beBytes 8 d.otp.mac ++ beBytes 4 (d.arch.bootVersion 0) ++
      beBytes 4 (d.arch.bootVersion 1) ++ beBytes 4 d.otp.rollbackCount ++ beBytes 4 (d.cls.getD 0) ++ beBytes 4 (d.g HQ_CTL_MODE)) .none d) ∧
    (idle → d.holds 0 = true → args = [] → ans (.sessionNonce t rq args) 0 (beBytes 16 free) .none { sess (fun x => { x with nonce := some free }) with free := d.free + 1 } ∧ ans (.sessionEnd t rq args) 0 [] .noKey d) ∧
    (idle → d.holds 0 = true → args.length = 184 → keyBad = true → ans (.sessionKey t rq args) 3 [] .none d) ∧
    (idle → d.holds 0 = true → args.length = 184 → Acts (.sessionKey t rq args) s (fun m => (keyBad = false → m.dev.colmo = (sess (fun x => { x with nonce := none })).colmo ∧
      (if sig then d.Answered m.dev rq 0 (pad4 [min (u8 116) ((lcCap d.lc).getD 0)]) (.key (key.getD []) (u8 116)) else d.Answered m.dev rq 0x13 [] .none)))) ∧
    (idle → d.holds 0 = true → args.length = 8 → ¬ range → ans (.flowOpen t rq args) 3 [] .none d) ∧
    (idle → d.holds 0 = true → args.length = 8 → range → (x.opened = true ∨ ¬ fits) → ans (.flowOpen t rq args) 0x16 [] .none d) ∧
    (idle → d.holds 0 = true → args.length = 8 → range → x.opened = false → fits → Acts (.flowOpen t rq args) s (fun m => d.Answered m.dev rq 0 [] .none ∧ (∀ f < 256, m.dev.flow f = if f = u8 0 then newFlow else d.flow f) ∧
      d.Else { m.dev with hq := { m.dev.hq with flows := d.hq.flows } } ∧ s.m.ChansKept t m)) ∧
    (idle → d.holds 0 = true → args.length = 4 → u8 0 < 3 → ans (.flowClose t rq args) 3 [] .none d) ∧
    (idle → d.holds 0 = true → args.length = 4 → 3 ≤ u8 0 → x.opened = false → ans (.flowClose t rq args) 5 [] .none d) ∧
    (idle → d.holds 0 = true → args.length = 4 → 3 ≤ u8 0 → x.opened = true → x.bundle = none → (d.queue x.queue).frames = [] → (d.flow rq.flow).pair ≠ u8 0 → rq.flow ≠ u8 0 → Acts (.flowClose t rq args) s (fun m => d.Answered m.dev rq 0 [] .none ∧
      m.dev.flow (u8 0) = flowReset 3 ∧ (∀ f < 256, f ≠ u8 0 → m.dev.flow f = d.flow f) ∧ ∀ ch ∈ [Ch.a, Ch.b], m.chan ch = { s.m.seen t ch with subs := (s.m.chan ch).subs.filter (fun y => y.flow != u8 0) })) ∧
    (idle → d.holds 0 = true → args.length = 12 → Acts (.ntfAck t rq args) s (fun m => d.Answered m.dev rq 0 [] .none ∧ (∀ v < 72, m.dev.pend v = (d.pend v && !mask.testBit v)) ∧ d.Frame [NTF_PEND0, NTF_PEND1, NTF_PEND2] m.dev ∧
      d.Else { m.dev with regs := d.regs } ∧ s.m.ChansKept t m)) ∧
    (idle → d.holds 0 = true → args.length = 8 → args.any (fun v => decide (4 < v)) = true → ans (.evtFilter t rq args) 3 [] .none d) ∧
    (idle → d.holds 0 = true → args.length = 8 → args.any (fun v => decide (4 < v)) = false → ans (.evtFilter t rq args) 0 [] .none (colmo (fun c => { c with filter := args }))) ∧
    (idle → d.holds 2 = true → args.length = 4 → ¬ primed → ans (.identitySet t rq args) 5 [] .none d) ∧
    (idle → d.holds 2 = true → args.length = 4 → primed → 62 < u8 0 → ans (.identitySet t rq args) 3 [] .none d) ∧
    (idle → d.holds 2 = true → args.length = 4 → primed → u8 0 ≤ 62 → d.arch.full 5 = true → ans (.identitySet t rq args) 0x1B [] .none d) ∧
    (idle → d.holds 2 = true → args.length = 4 → primed → u8 0 ≤ 62 → d.arch.full 5 = false → Acts (.identitySet t rq args) s (fun m => d.Answered m.dev rq 0 [] (.ident (u8 0)) ∧ ({ d with arch := { d.arch with ident := some (u8 0) } } : Dev).Else m.dev ∧
      ∀ ch ∈ [Ch.a, Ch.b], m.chan ch = { s.m.seen t ch with ctl := { (s.m.chan ch).ctl with devId := some (u8 0) } })) ∧
    (idle → d.holds 2 = true → args.length % 8 = 4 → u8 0 ≤ 3 → cfgOk → d.arch.full 5 = false → ans (.hostcfgWrite t rq args) 0 [] .none { d with arch := { d.arch with openCls := u8 0, hostCfg := pairs.map (fun p => (p.1 - 0x10000000, p.2 &&& cfgBits p.1)) } }) ∧
    (idle → d.holds 2 = true → args.length % 8 = 4 → 3 < u8 0 → ans (.hostcfgWrite t rq args) 3 [] .none d) ∧
    (idle → d.holds 2 = true → args.length % 8 = 4 → u8 0 ≤ 3 → ¬ cfgOk → ans (.hostcfgWrite t rq args) 0x18 [] .none d)

/-- R341, R351, R418 to R424, R456 to R474: the commands of the archive, the counters, the self-test, shutdown, firmware, life cycle, attestation and the CAN mapping table
are answered and have their effect. -/
def Obligations.ColmoDeviceCommands : Prop :=
  ∀ (s : State) (t : Tick) (rq : Req) (args : List Nat), let d := s.m.seenDev t
    let m := s.m.seenAt t
    let a := d.arch
    let co := d.colmo
    let idle := m.Idle ∧ d.CanAnswer rq
    let can := fun (k len : Nat) => m.Idle ∧ d.CanAnswer rq ∧ d.holds k = true ∧ args.length = len
    let ans := fun (i : Instr) (st : Nat) (data : List Nat) (after : After) (d1 : Dev) => Acts i s (fun x => d.Answered x.dev rq st data after ∧ d1.Else x.dev ∧ s.m.ChansKept t x ∧ x.holds = s.m.holds)
    let waits := fun (i : Instr) (w : Slot) (d1 : Dev) => Acts i s (fun x => x.dev = { d1 with colmo := { d1.colmo with running := [⟨rq, [w]⟩] } } ∧ s.m.ChansKept t x ∧ x.holds = s.m.holds)
    let u8 := fun (k : Nat) => nth args k
    let u16 := fun (k : Nat) => be args k 2
    let u32 := fun (k : Nat) => be args k 4
    let rows : List (Instr × Nat × Nat) := [(.snapList t rq args, 4, 0), (.arcRead t rq args, 16, 0), (.countersRead t rq args, 0, 0), (.bistRun t rq args, 4, 3), (.shutdown t rq args, 4, 1), (.fwStage t rq args, 40, 2), (.fwActivate t rq args, 4, 2), (.fwConfirm t rq args, 4, 2),
      (.lcNonce t rq args, 0, 0), (.lcToken t rq args, 100, 0), (.attest t rq args, 32, 0), (.canMapCommit t rq args, 4, 2), (.canMapRead t rq args, 4, 0)]
    let listed := a.snaps.filter (fun x => decide (0 < a.ringSlots) && !a.retired.contains (x.index % a.ringSlots))
    let item := fun (x : Snap) => beBytes 4 x.index ++ beBytes 8 x.trigTime ++ beBytes 4 x.cause ++ beBytes 4 x.causeSeq ++ [if x.ch = .a then 1 else 2, b2n x.manual, 0, 0]
    let flow := fun (f : Nat) (out : Bool) => (d.flow f).opened && (d.flow f).out == out && decide (56 ≤ (d.flow f).queue)
    let arcArgs := u8 0 ≤ 8 ∧ flow (u8 1) true = true
    let arc : ArcRead := ⟨u8 0, u8 1, be args 4 8, u32 12, 0xFFFFFFFF, a.indexes (u8 0) (be args 4 8) (u32 12)⟩
    let bistArgs := u8 0 ≤ 7 ∧ u8 1 ≤ 2 ∧ u8 2 ≤ 1
    let quiet := ∀ ch ∈ [Ch.a, Ch.b], ((s.m.chan ch).state = OFF ∨ (s.m.chan ch).state = PRIMED) ∧ (s.m.chan ch).cfbOpen = true
    let mayShut := ∀ ch ∈ [Ch.a, Ch.b], (s.m.chan ch).state ≠ ARMED ∧ (s.m.chan ch).state ≠ RUN ∧ (s.m.chan ch).b DUST_STATUS_SPD_HIGH = false
    let snapFree := (s.m.chan .a).ring.phase = .running ∧ (s.m.chan .b).ring.phase = .running ∧ a.writing = none
    let kind := u8 0
    let ctl := a.ctl kind
    let spare := 2 * kind + (1 - ctl.active)
    let stageArgs := kind ≤ 1 ∧ flow (u8 1) false = true ∧ u32 4 ≤ a.partSize spare
    let staged1 : Dev := { d with arch := { a with slots := a.slots.set spare none }, colmo := { co with staging := some ⟨kind, u8 1, u32 4, be args 8 32, rq, []⟩, staged := co.staged.filter (fun x => x != kind) } }
    let active1 : Dev := { d with arch := { a with boot := a.boot.set kind { ctl with trial := some (1 - ctl.active) } }, colmo := { co with activating := true, staged := co.staged.filter (fun x => x != kind) } }
    let idx := a.trialIndex kind
    let nonce := Config.freeNat (3 * d.free + 2) % 2 ^ 128
    let sess := fun (f : Session → Session) => ({ d with colmo := { co with session := f co.session } } : Dev)
    let token := be args 4 16 == d.otp.uid && co.session.lcNonce == some (be args 20 16) && d.mayEnter (u8 0)
    let entry : LcEnt := ⟨d.lc, u8 0, d.time, Config.sm3 args, nth m.counters 0⟩
    let ents := (List.range (u8 1)).map (fun i => entOf (part args (4 + 24 * i) 24))
    let table := decide (u8 1 ≠ 0) && decide (u8 0 + u8 1 ≤ 64)
    let crc := fun (w : Nat) => decide (crc32.of ((List.range 64).flatMap (fun i => (tabGet co.mapShadow noEnt i).bytes)) = w)
    (d.up = false → (∀ p ∈ rows, ActsDev p.1 s t (fun e => e = d)) ∧ ActsDev (.canMapWrite t rq args) s t (fun e => e = d)) ∧
    (idle → (∀ p ∈ rows, args.length ≠ p.2.1 → ans p.1 2 [] .none d) ∧ (∀ p ∈ rows, args.length = p.2.1 → d.holds p.2.2 = false → ans p.1 4 [] .none d) ∧ (args.length ≠ 4 + 24 * u8 1 → ans (.canMapWrite t rq args) 2 [] .none d)) ∧
    (can 0 4 → ans (.snapList t rq args) (if u16 2 = 0 ∨ 58 < u16 2 then 3 else 0) (if u16 2 = 0 ∨ 58 < u16 2 then [] else ((listed.drop (u16 0)).take (u16 2)).flatMap item) .none d) ∧
    (can 0 16 → co.arcRead.isSome = true → ans (.arcRead t rq args) 7 [] .none d) ∧
    (can 0 16 → co.arcRead = none → ¬ arcArgs → ans (.arcRead t rq args) 3 [] .none d) ∧
    (can 0 16 → co.arcRead = none → arcArgs → a.noRead (u8 0) (be args 4 8) (u32 12) = true → ans (.arcRead t rq args) 0x1B [] .none d) ∧
    (can 0 16 → co.arcRead = none → arcArgs → a.noRead (u8 0) (be args 4 8) (u32 12) = false → waits (.arcRead t rq args) .arc { d with colmo := { co with arcRead := some arc } }) ∧
    (can 0 0 → ans (.countersRead t rq args) 0 ((List.range 70).flatMap (fun i => beBytes 4 (scaled i (nth m.counters i)))) .none d) ∧
    (can 3 4 → ¬ bistArgs → ans (.bistRun t rq args) 3 [] .none d) ∧
    (can 3 4 → bistArgs → m.bistRefused (u8 0) (u8 1) = true → Acts (.bistRun t rq args) s (fun x => d.Answered x.dev rq 5 [] .none ∧ x.dev.b BIST_RUN_REFUSED = true ∧ d.Else { x.dev with regs := d.regs } ∧ d.Frame [BIST_RUN] x.dev ∧ s.m.ChansKept t x)) ∧
    (can 3 4 → bistArgs → u8 0 = 0 → m.bistRefused (u8 0) (u8 1) = false → Acts (.bistRun t rq args) s (fun x => x.dev.colmo.running = [⟨rq, [.bist 0]⟩] ∧ x.dev.b BIST_RUN_BUSY = true ∧ x.dev.g BIST_REQ_TARGET = 0 ∧ x.dev.g BIST_REQ_TEST = u8 1 ∧
      x.dev.bist = { d.bist with mode := .request, req := 0, fuse := u8 2 == 1 } ∧ d.Frame [BIST_RUN, BIST_REQ] x.dev ∧ s.m.ChansKept t x)) ∧
    (can 1 4 → ¬ mayShut → ans (.shutdown t rq args) 5 [] .none d) ∧
    (can 1 4 → mayShut → u8 0 ≠ 1 → u8 0 ≠ 2 → ans (.shutdown t rq args) 3 [] .none d) ∧
    (can 1 4 → mayShut → (u8 0 = 1 ∨ u8 0 = 2) → ¬ snapFree → waits (.shutdown t rq args) (.shut (u8 0)) d) ∧
    (can 1 4 → mayShut → (u8 0 = 1 ∨ u8 0 = 2) → snapFree → d.b BIST_CFG_UC_EN = false → ans (.shutdown t rq args) 0 [] .none { d with pwr := { d.pwr with shut := u8 0 }, bist := { d.bist with runs := [Ch.a, Ch.b].filter m.undercoatRuns } }) ∧
    (can 2 40 → (co.staging.isSome = true ∨ co.activating = true) → ans (.fwStage t rq args) 7 [] .none d) ∧
    (can 2 40 → co.staging = none → co.activating = false → ¬ stageArgs → ans (.fwStage t rq args) 3 [] .none d) ∧
    (can 2 40 → co.staging = none → co.activating = false → stageArgs → a.full spare = false → waits (.fwStage t rq args) .image staged1) ∧
    (can 2 4 → (¬ quiet ∨ co.staged.contains kind = false) → ans (.fwActivate t rq args) 5 [] .none d) ∧
    (can 2 4 → quiet → co.staged.contains kind = true → co.activating = true → ans (.fwActivate t rq args) 7 [] .none d) ∧
    (can 2 4 → quiet → co.staged.contains kind = true → co.activating = false → kind ≤ 1 → ans (.fwActivate t rq args) 0 [] (if kind = 0 then .resetSmc else .resetBoth) active1) ∧
    (can 2 4 → 1 < kind → ans (.fwConfirm t rq args) 3 [] .none d) ∧
    (can 2 4 → kind ≤ 1 → (ctl.onTrial = false ∨ a.below (1 - kind) (max d.otp.rollbackCount idx) = true) → ans (.fwConfirm t rq args) 5 [] .none d) ∧
    (can 2 4 → kind ≤ 1 → ctl.onTrial = true → a.below (1 - kind) (max d.otp.rollbackCount idx) = false → Acts (.fwConfirm t rq args) s (fun x => d.Answered x.dev rq 0 (beBytes 4 x.dev.otp.rollbackCount) .none ∧ x.dev.otp = { d.otp with rollback := d.otp.rollback ||| (2 ^ idx - 1) } ∧
      x.dev.arch = { a with boot := a.boot.set kind { ctl with active := ctl.slot, onTrial := false } } ∧ s.m.ChansKept t x)) ∧
    (can 0 0 → ans (.lcNonce t rq args) 0 (beBytes 16 nonce) .none { sess (fun x => { x with lcNonce := some nonce }) with free := d.free + 1 }) ∧
    (can 0 100 → ¬ quiet → ans (.lcToken t rq args) 5 [] .none d) ∧
    (can 0 100 → quiet → co.activating = true → ans (.lcToken t rq args) 7 [] .none d) ∧
    (can 0 100 → quiet → co.activating = false → Acts (.lcToken t rq args) s (fun x => x.dev.colmo = { co with session := { co.session with lcNonce := none } } ∧ (if d.verifies 3 (part args 0 36) (part args 36 64) && token then
        d.Answered x.dev rq 0 (beBytes 4 (u8 0)) (.lifecycle (u8 0)) ∧ x.dev.otp = { d.otp with lc := setBit d.otp.lc (u8 0) true } ∧ x.dev.arch = { a with lclog := (a.lclog ++ [entry]).drop (a.lclog.length + 1 - 8192) } ∧ x.dev.lc = d.lc
      else d.Answered x.dev rq 0x14 [] .none ∧ x.dev.otp = d.otp ∧ x.dev.arch = a) ∧ s.m.ChansKept t x)) ∧
    (can 0 32 → d.otp.idKey = none → ans (.attest t rq args) 5 [] .none d) ∧
    (can 0 32 → ∀ k ∈ d.otp.idKey, let quote := m.quoteHead (part args 0 32) ++ beBytes 64 (Config.sm2Public k); ans (.attest t rq args) 0 (pad4 (quote ++ beBytes 64 (Config.sm2Sign k quote))) .none d) ∧
    (can 2 (4 + 24 * u8 1) → table = true → ents.all MapEnt.ok = true → Acts (.canMapWrite t rq args) s (fun x => d.Answered x.dev rq 0 [] .none ∧ (∀ i < 64, tabGet x.dev.colmo.mapShadow noEnt i = if u8 0 ≤ i ∧ i < u8 0 + u8 1 then ents.getD (i - u8 0) noEnt else tabGet co.mapShadow noEnt i) ∧
      x.dev.arch = a ∧ s.m.ChansKept t x)) ∧
    (can 2 (4 + 24 * u8 1) → (table = false ∨ ents.all MapEnt.ok = false) → ans (.canMapWrite t rq args) 3 [] .none d) ∧
    (can 2 4 → ((s.m.chan .a).ctl.owner = some 256 ∨ (s.m.chan .b).ctl.owner = some 256) → ans (.canMapCommit t rq args) 7 [] .none d) ∧
    (can 2 4 → (s.m.chan .a).ctl.owner ≠ some 256 → (s.m.chan .b).ctl.owner ≠ some 256 → crc (u32 0) = false → ans (.canMapCommit t rq args) 0x0E [] .none d) ∧
    (can 2 4 → (s.m.chan .a).ctl.owner ≠ some 256 → (s.m.chan .b).ctl.owner ≠ some 256 → crc (u32 0) = true → a.full 5 = false → ans (.canMapCommit t rq args) 0 [] .none { d with arch := { a with canMap := co.mapShadow } }) ∧
    (can 0 4 → (table = false ∨ 58 < u8 1) → ans (.canMapRead t rq args) 3 [] .none d) ∧
    (can 0 4 → table = true → u8 1 ≤ 58 → ans (.canMapRead t rq args) 0 ((List.range (u8 1)).flatMap (fun i => (tabGet a.canMap noEnt (u8 0 + i)).bytes)) .none d)

/-- R399, R403, R407, R412, R414 to R416, R418, R487, R526, R527, R536: the commands to a channel that Colmo performs itself: readback of the active bank, PSET_STORE, RESET, REG_READ,
telemetry subscriptions, waveform rings, POWER_STATE. -/
def Obligations.ColmoChannelCommands : Prop :=
  ∀ (s : State) (t : Tick) (ch : Ch) (rq : Req) (args : List Nat) (x : Subscr) (target : Nat), let d := s.m.seenDev t
    let c := s.m.seen t ch
    let m := s.m.seenAt t
    let ok := fun (k len : Nat) => m.Idle ∧ d.CanAnswer rq ∧ d.holds k = true ∧ args.length = len
    let onn := fun (k len : Nat) => ok k len ∧ c.state ≠ OFF
    let ans := fun (i : Instr) (st : Nat) (data : List Nat) (after : After) (d1 : Dev) (c1 : Chan) => Acts i s (fun x => d.Answered x.dev rq st data after ∧ d1.Else x.dev ∧ x.chan ch = c1 ∧ x.chan ch.other = s.m.seen t ch.other ∧ x.holds = s.m.holds)
    let no := fun (i : Instr) (st : Nat) => ans i st [] .none d c
    let u8 := fun (k : Nat) => nth args k
    let u16 := fun (k : Nat) => be args k 2
    let u32 := fun (k : Nat) => be args k 4
    let rows : List (Instr × Nat × Nat) := [(.psetReadback t ch rq args, 8, 0), (.psetStore t ch rq args, 4, if u8 0 = 1 then 2 else 1), (.tlmSubscribe t ch rq args, 40, 0), (.tlmUnsubscribe t ch rq args, 4, 0), (.snapCfg t ch rq args, 24, 1), (.snapRelease t ch rq args, 0, 1), (.powerState t ch rq args, 4, 1)]
    let aimed := target = (if ch = .a then 1 else 2)
    let kind := if u8 0 = 1 then Kind.safety else Kind.tuning
    let total := kind.addrs.length
    let window := u8 0 ≤ 1 ∧ u8 1 ≤ 1 ∧ 1 ≤ u16 6 ∧ u16 6 ≤ 160 ∧ u16 4 + u16 6 ≤ total
    let words := ((c.image kind false).drop (u16 4)).take (u16 6)
    let shown := beBytes 2 total ++ [0, 0] ++ beBytes 4 (c.imageCrc kind false) ++ words.flatMap (fun e => beBytes 4 ((if ch = .a then 0x20000000 else 0x30000000) + e.1) ++ beBytes 4 e.2)
    let old := d.arch.newest ch kind
    let stored : Stored := ⟨((old.map Stored.count).getD 0 + 1) % 2 ^ 32, c.image kind false, if kind = .safety then c.ctl.kept else none⟩
    let refuses := (c.state = ARMED ∨ c.state = RUN) ∨ ((c.state = HOLD ∨ c.state = FAULT) ∧ c.b DUST_STATUS_SPD_HIGH = true ∧ u8 1 ≠ 1)
    let f := d.flow (u8 1)
    let signals := (args.drop 8).take (u8 5)
    let n := slotSum signals
    let okSub := u8 0 ≤ 3 ∧ f.opened = true ∧ f.out = true ∧ 16 ≤ f.queue ∧ f.queue ≤ 47 ∧ 1 ≤ u16 2 ∧ 1 ≤ u8 4 ∧ 1 ≤ u8 5 ∧ u8 5 ≤ 24 ∧ n.isSome = true ∧ n.getD 0 % 2 = 0 ∧ 1 ≤ n.getD 0 ∧ n.getD 0 ≤ 22 ∧
      u8 4 * (20 + 2 * n.getD 0) ≤ (if d.b HQ_CTL_IPV6 then 1416 else 1436)
    let regs := signals.contains 62 || signals.contains 63
    let made := x.sub = u8 0 ∧ x.flow = u8 1 ∧ x.decim = u16 2 ∧ x.count = 0 ∧ x.perFrame = u8 4 ∧ x.signals = signals ∧ x.reg0 = 0 ∧ x.reg1 = 0 ∧ x.idx = 0
    let fast := decide (250000 < (c.withSub x).recRate) || decide ((4 * d.linkRate : Nat) < 5 * ((c.withSub x).bitRate + (s.m.chan ch.other).bitRate))
    let noTlm := { d with colmo := { d.colmo with tlm := d.colmo.tlm.filter (fun e => !(e.1 == ch && e.2.1 == u8 0)) } }
    let cfgBad := (args.take 16).any (fun k => signalSlots k != some 1) || decide (u16 16 = 0) || decide (1024 < u16 16)
    let pState := c.state ≠ PRIMED ∨ (u8 0 = 1 ∧ c.g CONT_STATUS_CFB &&& c.fittedMask ≠ 0)
    let addr := u32 0
    let plain := addr / 2 ^ 28 = (if ch = .a then 2 else 3) ∧ addr % 2 ^ 28 < 0xB000 ∧ regReach addr = .chan ch (addr % 2 ^ 28) ∧ isFifoData addr = false ∧ isLo addr = false ∧ (∀ h ∈ s.m.holds, h.addr ≠ addr)
    (d.up = false → (∀ p ∈ rows, ActsDev p.1 s t (fun e => e = d)) ∧ ActsDev (.reset t rq target args) s t (fun e => e = d) ∧ ActsDev (.regRead t rq target args) s t (fun e => e = d)) ∧
    (m.Idle → d.CanAnswer rq → (∀ p ∈ rows, args.length ≠ p.2.1 → no p.1 2) ∧ (∀ p ∈ rows, args.length = p.2.1 → d.holds p.2.2 = false → no p.1 4) ∧ (args.length ≠ 4 → target = 1 → no (.reset t rq target args) 2) ∧ (args.length ≠ 8 → target ≤ 2 → no (.regRead t rq target args) 2) ∧
      (2 < target → no (.reset t rq target args) 1 ∧ no (.regRead t rq target args) 1)) ∧
    (m.Idle → d.CanAnswer rq → c.state = OFF → (∀ p ∈ rows.drop 1, args.length = p.2.1 → d.holds p.2.2 = true → no p.1 5)) ∧
    (ok 0 8 → (c.state ≠ OFF ∨ u8 1 = 0) → ¬ window → no (.psetReadback t ch rq args) 3) ∧
    (ok 0 8 → window → u8 1 = 0 → ans (.psetReadback t ch rq args) 0 (pad4 shown) .none d c) ∧
    (onn (if u8 0 = 1 then 2 else 1) 4 → 1 < u8 0 → no (.psetStore t ch rq args) 3) ∧
    (onn (if u8 0 = 1 then 2 else 1) 4 → u8 0 ≤ 1 → d.arch.full 4 = true → no (.psetStore t ch rq args) 0x1B) ∧
    (onn (if u8 0 = 1 then 2 else 1) 4 → u8 0 ≤ 1 → d.arch.full 4 = false → Acts (.psetStore t ch rq args) s (fun x => d.Answered x.dev rq 0 [] .none ∧ x.dev.arch = { d.arch with psets := d.arch.psets.set (psetIdx ch kind) ⟨some stored, some stored⟩ } ∧
      d.Else { x.dev with arch := d.arch } ∧ s.m.ChansKept t x)) ∧
    (onn 2 4 → aimed → u8 0 = 0 → refuses → no (.reset t rq target args) 5) ∧
    (onn 2 4 → aimed → u8 0 = 0 → ¬ refuses → u8 1 ≤ 1 → ans (.reset t rq target args) 0 [] (.resetChan ch) d c) ∧
    (ok 2 4 → target = 0 → u8 0 = 1 → u8 1 ≤ 1 → ans (.reset t rq target args) 0 [] .resetSmc d c) ∧
    (ok 2 4 → target = 0 → u8 0 = 0 → no (.reset t rq target args) 1) ∧
    (ok 0 8 → target ≤ 2 → (u16 4 = 0 ∨ 256 < u16 4) → no (.regRead t rq target args) 3) ∧
    (ok 0 8 → target ≤ 2 → u16 4 = 1 → regReach addr = .none → no (.regRead t rq target args) 0x18) ∧
    (ok 0 8 → target ≤ 2 → u16 4 = 1 → plain → ans (.regRead t rq target args) 0 (beBytes 4 (c.read (addr % 2 ^ 28))) .none d c) ∧
    (onn 0 40 → ¬ okSub → no (.tlmSubscribe t ch rq args) 3) ∧
    (onn 0 40 → okSub → regs = false → u32 32 = 0 → u32 36 = 0 → made → fast = true → no (.tlmSubscribe t ch rq args) 0x17) ∧
    (onn 0 40 → okSub → regs = false → u32 32 = 0 → u32 36 = 0 → made → fast = false → ans (.tlmSubscribe t ch rq args) 0 [] .none noTlm { c with subs := c.subs.filter (fun y => y.sub != u8 0) ++ [x] }) ∧
    (onn 0 4 → 3 < u8 0 → no (.tlmUnsubscribe t ch rq args) 3) ∧
    (onn 0 4 → u8 0 ≤ 3 → ans (.tlmUnsubscribe t ch rq args) 0 [] .none noTlm { c with subs := c.subs.filter (fun y => y.sub != u8 0) }) ∧
    (onn 1 24 → cfgBad = true → no (.snapCfg t ch rq args) 3) ∧
    (onn 1 24 → cfgBad = false → ans (.snapCfg t ch rq args) 0 [] .none d { c with ring := { c.ring with next := ⟨args.take 16, u16 16, u16 18⟩ } }) ∧
    (onn 1 0 → c.ring.phase ≠ .frozen → ans (.snapRelease t ch rq args) 0 [] .none d c) ∧
    (onn 1 0 → c.ring.phase = .frozen → (s.m.chan ch.other).ring.phase ≠ .frozen → ans (.snapRelease t ch rq args) 0 [] .none { d with arch := { d.arch with writing := if d.arch.writing = some ch then none else d.arch.writing } }
      { c with ring := { cfg := c.ring.next, next := c.ring.next } }) ∧
    (onn 1 4 → pState → no (.powerState t ch rq args) 5) ∧
    (onn 1 4 → ¬ pState → c.ctl.arm.isSome = true → no (.powerState t ch rq args) 7) ∧
    (onn 1 4 → ¬ pState → c.ctl.arm = none → 1 < u8 0 → no (.powerState t ch rq args) 3) ∧
    (onn 1 4 → ¬ pState → c.ctl.arm = none → u8 0 = 0 → c.parked = false → Acts (.powerState t ch rq args) s (fun x => d.Answered x.dev rq 0 [] .none ∧ x.chan ch = c ∧ x.dev.b (if ch = .a then SYS_PWR_CTL_PARK_A else SYS_PWR_CTL_PARK_B) = false ∧ d.Frame [SYS_PWR_CTL] x.dev ∧ x.chan ch.other = s.m.seen t ch.other)) ∧
    (onn 1 4 → ¬ pState → c.ctl.arm = none → u8 0 = 1 → Acts (.powerState t ch rq args) s (fun x => d.Answered x.dev rq 0 [] .none ∧ (x.chan ch).parked = true ∧ (∀ k < 8, ((x.chan ch).sl k).power = false) ∧ x.dev.b (if ch = .a then SYS_PWR_CTL_PARK_A else SYS_PWR_CTL_PARK_B) = true ∧
      d.Frame [SYS_PWR_CTL] x.dev ∧ x.chan ch.other = s.m.seen t ch.other))

/-- R391 to R393, R399 to R413, R418, R420, R536: the commands that Colmo posts to a channel's mailbox: what it refuses, what it posts, when it answers. -/
def Obligations.ColmoPostedCommands : Prop :=
  ∀ (s : State) (t : Tick) (ch : Ch) (rq : Req) (args : List Nat) (target : Nat), let d := s.m.seenDev t
    let c := s.m.seen t ch
    let m := s.m.seenAt t
    let own := if ch = .a then 1 else 2
    let u8 := fun (k : Nat) => nth args k
    let u16 := fun (k : Nat) => be args k 2
    let u32 := fun (k : Nat) => be args k 4
    let ok := fun (k len : Nat) => m.Idle ∧ d.CanAnswer rq ∧ d.holds k = true ∧ args.length = len
    let onn := fun (k len : Nat) => ok k len ∧ c.state ≠ OFF
    let no := fun (i : Instr) (st : Nat) => Acts i s (fun x => d.Answered x.dev rq st [] .none ∧ d.Else x.dev ∧ s.m.ChansKept t x ∧ x.holds = s.m.holds)
    let waiting := fun (data : List Nat) => ({ d with colmo := { d.colmo with running := [⟨rq, [.mail ch data]⟩] } } : Dev)
    let box := fun (code tgt : Nat) (x : Mach) => x.chan ch = { c with mail := c.mail ++ [⟨rq, [(0, ⟨code, tgt, args⟩)], m.now⟩] } ∧ x.chan ch.other = s.m.seen t ch.other ∧ x.holds = s.m.holds
    let posted := fun (i : Instr) (code : Nat) => Acts i s (fun x => x.dev = waiting [] ∧ box code own x)
    let atOnce := fun (i : Instr) (code tgt : Nat) (data : List Nat) => Acts i s (fun x => (if c.pairRuns = true then d.Answered x.dev rq 0 data .none ∧ d.Else x.dev else x.dev = waiting data) ∧ box code tgt x)
    let kindCls := if u8 0 = 1 then 2 else 1
    let rows : List (Instr × Nat × Nat) := [(.tuningCommit t ch rq args, 4, 1), (.safetyStage t ch rq args, 76, 2), (.safetyConfirm t ch rq args, 4, 2), (.psetLoad t ch rq args, 4, kindCls), (.arm t ch rq args, 0, 1), (.disarm t ch rq args, 0, 0), (.clearFault t ch rq args, 0, 1),
      (.streamTorque t ch rq args, 24, 1), (.streamSpeedLimit t ch rq args, 16, 1), (.snapTrigger t ch rq args, 0, 1), (.skimPass t ch rq args, 0, 1)]
    let busy := c.ctl.commit.isSome || c.ctl.arm.isSome
    let live := c.state = ARMED ∨ c.state = RUN
    let gone := c.ctl.stageLapsed = true ∨ (∃ g ∈ c.ctl.stage, ms 5000 < t - g.at_)
    let kind := if u8 0 = 1 then Kind.safety else Kind.tuning
    let readAll := (List.range Kind.safety.addrs.length).all (fun i => (d.colmo.seen ch).contains i)
    let word := beBytes 4 (putBits (c.rd CH_STATE) 15 15 (b2n c.lockBroken))
    let stale := (c.ctl.lastSeq.map (fun q => !newer rq.seq q)).getD false
    let foreign := (c.ctl.owner.map (fun o => o != rq.flow)).getD false
    let tqBad := (hostPu16 (u32 0) c.bases.t).isNone || (decide (u32 16 % 2 = 1) && (c.spdCode (u32 4)).isNone)
    let streamFault := fun (may bad : Bool) (deadline : Nat) => if c.ctl.disarm = true ∨ may = false then 5 else if bad = true then 3 else if stale = true then 8 else if deadline ≠ 0 ∧ deadline < d.time then 9 else if foreign = true then 0x0A else 0
    let tqFault := streamFault (c.state == RUN || c.state == ARMED) tqBad (be args 8 8)
    let spFault := streamFault (c.state == RUN) (c.spdCode (u32 0)).isNone (be args 4 8)
    let window := u8 0 ≤ 1 ∧ u8 1 = 1 ∧ 1 ≤ u16 6 ∧ u16 6 ≤ 160 ∧ u16 4 + u16 6 ≤ kind.addrs.length
    let tr : Triple := ⟨u32 0, u32 4, u32 8⟩
    let off := tr.addr % 2 ^ 28
    let chReg := regReach tr.addr = .chan ch off
    let devReg := regReach tr.addr = .dev off
    let held := [CH_REQ, COMMIT_CTL, COMMIT_CRC, TQ_REF, TQ_SEQ, SPD_LIM, TM_RES, TM_STATUS, TM_TIME_LO, TM_TIME_HI].contains off
    let smcOwn := [SYS_PWR_CTL, SYS_WDOG, SYS_WDOG_KICK, SYS_BLK_RST].contains off || [2, 3, 6, 7, 8].contains (off / 65536)
    let lk := live ∧ lkBits off &&& tr.mask ≠ 0
    let pend := c.ctl.commit.isSome = true ∧ rwcBits off &&& tr.mask ≠ 0
    let write : Instr := .regWrite t rq target args
    (d.up = false → (∀ p ∈ rows, ActsDev p.1 s t (fun e => e = d)) ∧ ActsDev write s t (fun e => e = d)) ∧
    (m.Idle → d.CanAnswer rq → (∀ p ∈ rows, args.length ≠ p.2.1 → no p.1 2) ∧ (∀ p ∈ rows, args.length = p.2.1 → d.holds p.2.2 = false → no p.1 4) ∧ (2 < target → no write 1) ∧ (target = 0 → args.length % 12 ≠ 0 → no write 2)) ∧
    (m.Idle → d.CanAnswer rq → c.state = OFF → (∀ p ∈ rows, args.length = p.2.1 → d.holds p.2.2 = true → no p.1 5)) ∧
    (onn 1 4 → busy = true → no (.tuningCommit t ch rq args) 7) ∧
    (onn 1 4 → busy = false → posted (.tuningCommit t ch rq args) 0x0202) ∧
    (onn 2 76 → live → no (.safetyStage t ch rq args) 6) ∧
    (onn 2 76 → ¬ live → busy = true → no (.safetyStage t ch rq args) 7) ∧
    (onn 2 76 → ¬ live → busy = false → posted (.safetyStage t ch rq args) 0x0203) ∧
    (onn 2 4 → live → no (.safetyConfirm t ch rq args) 6) ∧
    (onn 2 4 → ¬ live → busy = true → no (.safetyConfirm t ch rq args) 7) ∧
    (onn 2 4 → ¬ live → busy = false → gone → no (.safetyConfirm t ch rq args) 0x11) ∧
    (onn 2 4 → ¬ live → busy = false → ¬ gone → c.ctl.stage = none → no (.safetyConfirm t ch rq args) 5) ∧
    (onn 2 4 → ¬ live → busy = false → ¬ gone → (∃ g ∈ c.ctl.stage, g.crc ≠ u32 0) → no (.safetyConfirm t ch rq args) 0x0E) ∧
    (onn 2 4 → ¬ live → busy = false → ¬ gone → (∃ g ∈ c.ctl.stage, g.crc = u32 0) → readAll = false → no (.safetyConfirm t ch rq args) 0x12) ∧
    (onn 2 4 → ¬ live → busy = false → ¬ gone → (∃ g ∈ c.ctl.stage, g.crc = u32 0) → readAll = true → posted (.safetyConfirm t ch rq args) 0x0204) ∧
    (onn kindCls 4 → c.ctl.commit.isSome = true → no (.psetLoad t ch rq args) 7) ∧
    (onn kindCls 4 → c.ctl.commit = none → 1 < u8 0 → no (.psetLoad t ch rq args) 3) ∧
    (onn kindCls 4 → c.ctl.commit = none → u8 0 ≤ 1 → d.arch.newest ch kind = none → no (.psetLoad t ch rq args) 0x1B) ∧
    (onn kindCls 4 → c.ctl.commit = none → u8 0 ≤ 1 → (d.arch.newest ch kind).isSome = true → atOnce (.psetLoad t ch rq args) 0x0206 own []) ∧
    (onn 1 0 → c.state ≠ PRIMED → c.state ≠ HOLD → no (.arm t ch rq args) 5) ∧
    (onn 1 0 → (c.state = PRIMED ∨ c.state = HOLD) → busy = true → no (.arm t ch rq args) 7) ∧
    (onn 1 0 → (c.state = PRIMED ∨ c.state = HOLD) → busy = false → posted (.arm t ch rq args) 0x0301) ∧
    (onn 0 0 → atOnce (.disarm t ch rq args) 0x0302 own word) ∧
    (onn 1 0 → c.state ≠ FAULT → no (.clearFault t ch rq args) 5) ∧
    (onn 1 0 → c.state = FAULT → atOnce (.clearFault t ch rq args) 0x0303 own word) ∧
    (onn 1 24 → tqFault ≠ 0 → no (.streamTorque t ch rq args) tqFault) ∧
    (onn 1 24 → tqFault = 0 → atOnce (.streamTorque t ch rq args) 0x0401 own []) ∧
    (onn 1 16 → spFault ≠ 0 → no (.streamSpeedLimit t ch rq args) spFault) ∧
    (onn 1 16 → spFault = 0 → atOnce (.streamSpeedLimit t ch rq args) 0x0402 own []) ∧
    (onn 1 0 → c.ring.phase ≠ .running → no (.snapTrigger t ch rq args) 7) ∧
    (onn 1 0 → c.ring.phase = .running → posted (.snapTrigger t ch rq args) 0x0702) ∧
    (onn 1 0 → c.b SKIM_STATUS_PASS_RUN = true → no (.skimPass t ch rq args) 7) ∧
    (onn 1 0 → c.b SKIM_STATUS_PASS_RUN = false → posted (.skimPass t ch rq args) 0x0801) ∧
    (onn 0 8 → window → posted (.psetReadback t ch rq args) 0x0201) ∧
    (ok 1 12 → target = 0 → regReach tr.addr = .none → no write 0x18) ∧
    (ok 1 12 → target = 0 → (chReg ∧ held = true ∨ devReg ∧ smcOwn = true) → no write 0x19) ∧
    (ok 1 12 → target = 0 → devReg → smcOwn = false → d.holds tr.cls = false → no write 4) ∧
    (ok 1 12 → target = 0 → chReg → tr.owned = false → d.holds tr.cls = false → no write 4) ∧
    (ok 1 12 → target = 0 → chReg → tr.owned = false → d.holds tr.cls = true → c.state = OFF → no write 5) ∧
    (ok 1 12 → target = 0 → chReg → tr.owned = false → d.holds tr.cls = true → lk → no write 6) ∧
    (ok 1 12 → target = 0 → chReg → tr.owned = false → d.holds tr.cls = true → c.state ≠ OFF → ¬ lk → pend → no write 7) ∧
    (ok 1 12 → target = 0 → chReg → tr.owned = false → d.holds tr.cls = true → c.state ≠ OFF → ¬ lk → ¬ pend → atOnce write 0x0502 0 []) ∧
    (ok 1 12 → target = 0 → devReg → smcOwn = false → d.holds tr.cls = true → off / 65536 ≤ 1 → Acts write s (fun x => d.Answered x.dev rq 0 [] .none ∧ (m.devWrite off (tr.word (devFields off) (m.devRead off) 0)).dev.Else x.dev ∧ s.m.ChansKept t x))

/-- R62, R66, R389 to R393, R408 to R413, R418, R424, R536: Colmo takes a bundle from its queue, a supervisor takes its part of one, a mailbox that is left unanswered, and an ISO 11783 message
mapped to a command. -/
def Obligations.BundlesAndParts : Prop :=
  ∀ (s : State) (t : Tick) (ch : Ch) (rq : Req) (b : Bundle) (e : MapEnt) (body data : List Nat) (op target time seq src dst : Nat), let d := s.m.seenDev t
    let c := s.m.seen t ch
    let m := s.m.seenAt t
    let own := if ch = .a then 1 else 2
    let take : Instr := .mailboxPartTake t ch
    let late : Instr := .mailboxTimeout t ch
    let next : Instr := .bundleProcess t
    let msg : Instr := .canMappedMessage t e.pgn ⟨src, dst⟩ data seq time
    let quiet := fun (x : Mach) => x.dev = d ∧ s.m.ChansKept t x ∧ x.holds = s.m.holds
    let q := (List.range 8).find? (fun k => !(d.queue k).bundles.isEmpty)
    let head := (d.queue (q.getD 0)).bundles.head? = some b
    let n := b.frags.length
    let fits := b.flow < 256 ∧ (d.flow b.flow).queue = q.getD 0
    let flow1 := { d.flow b.flow with cntA := ((d.flow b.flow).cntA + n) % 2 ^ 32, returns := (d.flow b.flow).returns + n, changed := true }
    let got := q.isSome = true ∧ head ∧ fits ∧ rq = ⟨b.flow, b.tag, b.seq0, b.bundle, b.arrival, b.host, b.port⟩ ∧ d.CanAnswer rq ∧ m.Idle
    let bytes := b.frags.flatMap Prod.snd
    let record := beBytes 2 op ++ [target, 0] ++ beBytes 2 body.length ++ [0, 0] ++ body
    let freed := fun (x : Mach) => (x.dev.queue (q.getD 0)).bundles = (d.queue (q.getD 0)).bundles.drop 1 ∧ (x.dev.queue (q.getD 0)).level = (d.queue (q.getD 0)).level - n ∧ x.dev.flow b.flow = flow1
    let refused := fun (st count : Nat) => Acts next s (fun x => freed x ∧ s.m.ChansKept t x ∧ ∃ f ∈ (x.dev.queue (d.flow (d.flow b.flow).pair).queue).frames, f.kind = K_RSP ∧ f.flow = (d.flow b.flow).pair ∧ f.tag = b.tag ∧ f.payload = rspPayload st 0 count b.arrival [])
    let room := (d.flow b.flow).pair ≠ b.flow ∧ q ≠ some (d.flow (d.flow b.flow).pair).queue
    let alone := (d.colmo.running = [] ∨ d.colmo.running = [⟨rq, [.mail ch data]⟩]) ∧ d.up = true ∧ d.recs = [] ∧ d.hq.due = [] ∧ d.pwr.shut = 0 ∧ ∀ k ∈ [Ch.a, Ch.b], (m.chan k).answers = [] ∧ (m.chan k).out.buf = [] ∧ (m.chan k).out.dropped = 0
    let mine := fun (code : Nat) => c.mail = [⟨rq, [(0, ⟨code, own, body⟩)], time⟩] ∧ c.state ≠ OFF ∧ c.pairRuns = true ∧ c.ctl.copying = none ∧ alone ∧ d.CanAnswer rq
    let rest := fun (x : Mach) => x.chan ch.other = s.m.seen t ch.other ∧ x.holds = s.m.holds
    let still := fun (x : Mach) => x.chan ch.other = s.m.chan ch.other ∧ x.holds = s.m.holds
    let tells := fun (x : Mach) (dat : List Nat) => if d.colmo.running = [] then x.dev = d else d.Answered x.dev rq 0 dat .none ∧ ({ d with colmo := { d.colmo with running := [] } } : Dev).Else x.dev
    let waits := fun (x : Mach) (slot : Slot) => x.dev = (if d.colmo.running = [] then d else { d with colmo := { d.colmo with running := [⟨rq, [slot]⟩] } })
    let c0 := { c with mail := [] }
    let bad := fun (st : Nat) => Acts take s (fun x => (if d.colmo.running = [] then x.dev = d else d.Answered x.dev rq st [] .none) ∧ 
      x.chan ch = { c0 with out := c.out.push c.devTime c.tb.hold (.evt 5 0 0 0 (rq.bundle % 4096 * 2 ^ 16 + rq.tag % 256 * 2 ^ 8) (st * 2 ^ 16)) } ∧ rest x)
    let stale := (c.ctl.lastSeq.map (fun k => !newer rq.seq k)).getD false
    let foreign := (c.ctl.owner.map (fun k => k != rq.flow)).getD false
    let tqSt := if c.ctl.disarm = true ∨ (c.state ≠ RUN ∧ c.state ≠ ARMED) then 5 else if stale = true then 8 else if foreign = true then 0x0A else 0
    let tq := hostPu16 (be body 0 4) c.bases.t
    let deadline := be body 8 8
    let shown := beBytes 2 (if nth body 0 = 1 then Kind.safety else Kind.tuning).addrs.length ++ [0, 0] ++ beBytes 4 (c.imageCrc (if nth body 0 = 1 then .safety else .tuning) true) ++ (((c.image (if nth body 0 = 1 then .safety else .tuning) true).drop (be body 4 2)).take (be body 6 2)).flatMap (fun w => beBytes 4 ((if ch = .a then 0x20000000 else 0x30000000) + w.1) ++ beBytes 4 w.2)
    let tr : Triple := ⟨be body 0 4, be body 4 4, be body 8 4⟩
    let off := tr.addr % 2 ^ 28
    let set := regReach tr.addr = .chan ch off ∧ body.length = 12 ∧ (chanFields off).all (fun f => f.acc == .rwc) = true ∧ c.armed = false ∧ c.ctl.commit = none ∧ 0x4000 ≤ off ∧ off < 0x8000
    let mixed := (c.rds off &&& (0xFFFFFFFF ^^^ tr.mask)) ||| (tr.value &&& tr.mask)
    let hears := e.pgn / 256 % 256 ≥ 240 ∨ dst = 255 ∨ dst = d.g (ISO_STATUS_ADDRESS 0)
    let hits := d.iso.en = true ∧ d.g (ISO_STATUS_STATE 0) = 2 ∧ hears ∧ (e.src = 255 ∨ e.src = src) ∧ e ≠ noEnt ∧ d.arch.canMap = [(0, e)] ∧ e.target = own ∧ m.Idle
    let field := ofLe data / 2 ^ e.start % 2 ^ e.len
    let wide := e.start + e.len ≤ 8 * data.length
    let from_ : Req := ⟨256, 0, seq, 0, time, 0, 0⟩
    let val := beBytes 4 (e.value field)
    let tqArgs := val ++ beBytes 4 0 ++ beBytes 8 (time + 1000000 * e.timeout) ++ beBytes 8 0
    let spArgs := val ++ beBytes 8 (time + 1000000 * e.timeout) ++ beBytes 4 0
    let seqOk := c.ctl.disarm = false ∧ (c.ctl.lastSeq.map (fun k => !newer seq k)).getD false = false ∧ d.time ≤ time + 1000000 * e.timeout ∧ time + 1000000 * e.timeout < 2 ^ 64 ∧ (c.ctl.owner = none ∨ c.ctl.owner = some 256)
    let mapped := fun (code : Nat) (args : List Nat) => Acts msg s (fun x => x.chan ch = { c with mail := c.mail ++ [⟨from_, [(0, ⟨code, own, args⟩)], m.now⟩] } ∧ x.dev = (if c.pairRuns = true then d else { d with colmo := { d.colmo with running := [⟨from_, [.mail ch (if code = 0x0302 then beBytes 4 (putBits (c.rd CH_STATE) 15 15 (b2n c.lockBroken)) else [])]⟩] } }) ∧ still x)
    (d.up = false → ActsDev next s t (fun x => x = d)) ∧
    (m.Idle → q = none → Acts next s quiet) ∧
    (got → room → bytes = [] → refused 1 0) ∧
    (got → room → bytes = record → (∀ r ∈ opTable, r.code ≠ op) → op < 2 ^ 16 → body.length < 2 ^ 16 → body.length % 4 = 0 → refused 1 1) ∧
    (got → room → bytes = record → op = 0x0302 → target = own → body = [] → c.state ≠ OFF → c.pairRuns = true → Acts next s (fun x => freed x ∧ x.chan ch = { c with mail := c.mail ++ [⟨rq, [(0, ⟨op, target, []⟩)], m.now⟩] } ∧ rest x ∧
      ∃ f ∈ (x.dev.queue (d.flow (d.flow b.flow).pair).queue).frames, f.kind = K_RSP ∧ f.tag = b.tag ∧ f.payload = rspPayload 0 0xFF 1 b.arrival (beBytes 4 (putBits (c.rd CH_STATE) 15 15 (b2n c.lockBroken))))) ∧
    (alone → (c.state = OFF ∨ c.pairRuns = false ∨ c.mail = []) → Acts take s quiet) ∧
    (mine 0x0302 → body = [] → c.state = RUN → c.ctl.arm = none → (∀ r, c.ctl.refused = some r → sameCycle r.1 c.now = false) → Acts take s (fun x => (x.chan ch).ctl.disarm = true ∧ (x.chan ch).state = RUN ∧ c.Frame [CH_REQ] (x.chan ch) ∧ { x.chan ch with regs := c.regs, ctl := c.ctl } = c0 ∧ rest x ∧ tells x data)) ∧
    (mine 0x0401 → tqSt ≠ 0 → bad tqSt) ∧
    (mine 0x0401 → tqSt = 0 → ∀ v ∈ tq, be body 16 4 = 0 → deadline = 0 → Acts take s (fun x => (x.chan ch).g TQ_REF_REF = v.toNat % 2 ^ 16 + (if v < 0 then 2 ^ 16 - v.natAbs else 0) ∧ (x.chan ch).g TQ_SEQ_SEQ = rq.seq % 2 ^ 32 ∧ (x.chan ch).ctl.lastSeq = some rq.seq ∧
      (x.chan ch).ctl.owner = some (c.ctl.owner.getD rq.flow) ∧ (x.chan ch).dtc.staged = true ∧ c.Frame [TQ_REF, TQ_SEQ, SPD_LIM] (x.chan ch) ∧ { x.chan ch with regs := c.regs, ctl := c.ctl, dtc := c.dtc } = c0 ∧ rest x ∧ tells x data)) ∧
    (mine 0x0401 → tqSt = 0 → ∀ v ∈ tq, deadline ≠ 0 → deadline < c.devTime → Acts take s (fun x => x.chan ch = c0 ∧ rest x ∧ tells x data)) ∧
    (mine 0x0303 → c.state ≠ FAULT → Acts take s (fun x => (x.chan ch).ctl = c.ctl ∧ (x.chan ch).regs = c.regs ∧ rest x ∧ (if d.colmo.running = [] then x.dev = d else d.Answered x.dev rq 5 [] .none))) ∧
    (mine 0x0201 → nth body 0 = 0 → Acts take s (fun x => x.chan ch = c0 ∧ rest x ∧ tells x (pad4 shown))) ∧
    (mine 0x0502 → set → Acts take s (fun x => (x.chan ch).rds off = ((c.rds off &&& (0xFFFFFFFF ^^^ rwcBits off)) ||| (mixed &&& rwcBits off)) % 2 ^ 32 ∧ (∀ a, a ≠ off → (x.chan ch).rds a = c.rds a) ∧ { x.chan ch with shadow := c.shadow } = c0 ∧ rest x ∧ tells x data)) ∧
    (mine 0x0702 → c.ring.phase = .running → Acts take s (fun x => (x.chan ch).ring = { c.ring with phase := .post, trigTime := c.devTime, cause := 0, causeSeq := 0, manual := true } ∧ { x.chan ch with ring := c.ring } = c0 ∧ rest x ∧ tells x (beBytes 8 c.devTime))) ∧
    (mine 0x0301 → (c.state = PRIMED ∨ c.state = HOLD) → (c.ctl.commit.isSome = true ∨ c.ctl.arm.isSome = true) → Acts take s (fun x => (x.chan ch).ctl = c.ctl ∧ (x.chan ch).regs = c.regs ∧ rest x ∧ (if d.colmo.running = [] then x.dev = d else d.Answered x.dev rq 7 [] .none))) ∧
    (mine 0x0202 → c.gateCode .tuning = 0 → (c.wr COMMIT_CRC (be body 0 4)).valuesCode .tuning s.m.dev.lc = 0 → Acts take s (fun x => (x.chan ch).ctl.commit = some ⟨.tuning, c.now, be body 0 4 % 2 ^ 32, none⟩ ∧ (x.chan ch).g COMMIT_STATUS_CODE = 1 ∧ c.Frame [COMMIT_CTL, COMMIT_CRC, COMMIT_STATUS] (x.chan ch) ∧ { x.chan ch with regs := c.regs, ctl := c.ctl } = c0 ∧ rest x ∧ waits x (.chan ch .commit))) ∧
    ((d.up = false ∨ c.state = OFF ∨ c.mail = [] ∨ (∀ p ∈ c.mail.head?, c.since p.at_ (ms 1) = false)) → ActsDev late s t (fun x => x = d)) ∧
    (mine op → c.since time (ms 1) = true → Acts late s (fun x => x.chan ch = c0 ∧ still x ∧ (if d.colmo.running = [] then x.dev = d else d.Answered x.dev rq 0x1A [] .none ∧ x.dev.colmo.running = []))) ∧
    (hits → ¬ wide → ActsDev msg s t (fun x => x = d)) ∧
    (hits → wide → e.op = 0x0302 → c.state ≠ OFF → mapped 0x0302 []) ∧
    (hits → wide → e.op = 0x0401 → (c.state = RUN ∨ c.state = ARMED) → seqOk → (hostPu16 (e.value field) c.bases.t).isSome = true → mapped 0x0401 tqArgs) ∧
    (hits → wide → e.op = 0x0402 → c.state = RUN → seqOk → (c.spdCode (e.value field)).isSome = true → mapped 0x0402 spArgs) ∧
    (hits → wide → e.op = 0x0401 → (c.state ≠ RUN ∧ c.state ≠ ARMED ∨ seqOk ∧ hostPu16 (e.value field) c.bases.t = none) → ActsDev msg s t (fun x => x = d))
end

