-- ==== Sys2Proof/Laws/GoodFault.lean ====
section
/-! SUPPORT. Laws/GoodFault.lean: the canonical form under the operations of Ops, Flags and SafeState. -/

set_option Elab.async false

namespace Sys2Proof.Machine
open Sys2Proof

theorem good_Chan_p {kc : Ch} (c : Chan) (f : Fld) (v : Nat) (h_c : c.Good kc) : (Chan.p c f v).Good kc := by
  unfold Chan.p
  repeat' (first
    | with_reducible assumption
    | with_reducible apply good_Chan_wr)
theorem good_Chan_pi {kc : Ch} (c : Chan) (f : Fld) (v : Int) (h_c : c.Good kc) : (Chan.pi c f v).Good kc := by
  unfold Chan.pi
  repeat' (first
    | with_reducible assumption
    | with_reducible apply good_Chan_p)
theorem good_Chan_pb {kc : Ch} (c : Chan) (f : Fld) (i : Nat) (v : Bool) (h_c : c.Good kc) : (Chan.pb c f i v).Good kc := by
  unfold Chan.pb
  repeat' (first
    | with_reducible assumption
    | with_reducible apply good_Chan_p)
theorem good_Chan_satInc {kc : Ch} (c : Chan) (f : Fld) (h_c : c.Good kc) : (Chan.satInc c f).Good kc := by
  unfold Chan.satInc
  repeat' (first
    | with_reducible assumption
    | with_reducible apply good_Chan_p)
theorem good_Chan_wrapInc {kc : Ch} (c : Chan) (f : Fld) (h_c : c.Good kc) : (Chan.wrapInc c f).Good kc := by
  unfold Chan.wrapInc
  repeat' (first
    | with_reducible assumption
    | with_reducible apply good_Chan_p)
theorem good_Chan_onSl {kc : Ch} (c : Chan) (s : Nat) (f : SliceSt → SliceSt) (h_c : c.Good kc) : (Chan.onSl c s f).Good kc := by
  unfold Chan.onSl
  repeat' (first
    | with_reducible assumption
    | with_reducible apply good_foldl
    | with_reducible apply goodD_foldl
    | with_reducible apply goodM_foldl
    | with_reducible apply good_Chan_inv
    | with_reducible apply good_Chan_invNil
    | (with_reducible exact good_mk (by with_reducible assumption)))
theorem good_Chan_onCtl {kc : Ch} (c : Chan) (f : Ctl → Ctl) (h_c : c.Good kc) : (Chan.onCtl c f).Good kc := by
  unfold Chan.onCtl
  repeat' (first
    | with_reducible assumption
    | with_reducible apply good_foldl
    | with_reducible apply goodD_foldl
    | with_reducible apply goodM_foldl
    | with_reducible apply good_Chan_inv
    | with_reducible apply good_Chan_invNil
    | (with_reducible exact good_mk (by with_reducible assumption)))
theorem good_Chan_onMod {kc : Ch} (c : Chan) (f : Modul → Modul) (h_c : c.Good kc) : (Chan.onMod c f).Good kc := by
  unfold Chan.onMod
  repeat' (first
    | with_reducible assumption
    | with_reducible apply good_foldl
    | with_reducible apply goodD_foldl
    | with_reducible apply goodM_foldl
    | with_reducible apply good_Chan_inv
    | with_reducible apply good_Chan_invNil
    | (with_reducible exact good_mk (by with_reducible assumption)))
theorem good_Chan_onProt {kc : Ch} (c : Chan) (f : Prot → Prot) (h_c : c.Good kc) : (Chan.onProt c f).Good kc := by
  unfold Chan.onProt
  repeat' (first
    | with_reducible assumption
    | with_reducible apply good_foldl
    | with_reducible apply goodD_foldl
    | with_reducible apply goodM_foldl
    | with_reducible apply good_Chan_inv
    | with_reducible apply good_Chan_invNil
    | (with_reducible exact good_mk (by with_reducible assumption)))
theorem good_Chan_onDust {kc : Ch} (c : Chan) (f : Dust → Dust) (h_c : c.Good kc) : (Chan.onDust c f).Good kc := by
  unfold Chan.onDust
  repeat' (first
    | with_reducible assumption
    | with_reducible apply good_foldl
    | with_reducible apply goodD_foldl
    | with_reducible apply goodM_foldl
    | with_reducible apply good_Chan_inv
    | with_reducible apply good_Chan_invNil
    | (with_reducible exact good_mk (by with_reducible assumption)))
theorem good_Chan_onMsio {kc : Ch} (c : Chan) (f : Msio → Msio) (h_c : c.Good kc) : (Chan.onMsio c f).Good kc := by
  unfold Chan.onMsio
  repeat' (first
    | with_reducible assumption
    | with_reducible apply good_foldl
    | with_reducible apply goodD_foldl
    | with_reducible apply goodM_foldl
    | with_reducible apply good_Chan_inv
    | with_reducible apply good_Chan_invNil
    | (with_reducible exact good_mk (by with_reducible assumption)))
theorem good_Chan_onLife {kc : Ch} (c : Chan) (f : Life → Life) (h_c : c.Good kc) : (Chan.onLife c f).Good kc := by
  unfold Chan.onLife
  repeat' (first
    | with_reducible assumption
    | with_reducible apply good_foldl
    | with_reducible apply goodD_foldl
    | with_reducible apply goodM_foldl
    | with_reducible apply good_Chan_inv
    | with_reducible apply good_Chan_invNil
    | (with_reducible exact good_mk (by with_reducible assumption)))
theorem good_Chan_took {kc : Ch} (c : Chan) (n : Nat) (h_c : c.Good kc) : (Chan.took c n).Good kc := by
  unfold Chan.took
  repeat' (first
    | with_reducible assumption
    | with_reducible apply good_foldl
    | with_reducible apply goodD_foldl
    | with_reducible apply goodM_foldl
    | with_reducible apply good_Chan_inv
    | with_reducible apply good_Chan_invNil
    | (with_reducible exact good_mk (by with_reducible assumption)))
theorem good_Chan_emit {kc : Ch} (c : Chan) (body : RecBody) (h_c : c.Good kc) : (Chan.emit c body).Good kc := by
  unfold Chan.emit
  repeat' (first
    | with_reducible assumption
    | with_reducible apply good_foldl
    | with_reducible apply goodD_foldl
    | with_reducible apply goodM_foldl
    | with_reducible apply good_Chan_inv
    | with_reducible apply good_Chan_invNil
    | (with_reducible exact good_mk (by with_reducible assumption)))
theorem good_Chan_evt {kc : Ch} (c : Chan) (type : Nat) (block : Nat) (bit : Nat) (sev : Nat) (d0 : Nat) (d1 : Nat) (h_c : c.Good kc) : (Chan.evt c type block bit sev d0 d1).Good kc := by
  unfold Chan.evt
  repeat' (first
    | with_reducible assumption
    | with_reducible apply good_Chan_emit)
theorem good_Chan_capture {kc : Ch} (c : Chan) (s : Src) (seq : Nat) (slice : Nat) (h_c : c.Good kc) : (Chan.capture c s seq slice).Good kc := by
  unfold Chan.capture
  repeat' (first
    | with_reducible assumption
    | with_reducible apply good_Chan_wr
    | with_reducible apply good_Dev_wr
    | with_reducible apply good_foldl
    | with_reducible apply goodD_foldl
    | with_reducible apply goodM_foldl
    | with_reducible apply good_Chan_inv
    | with_reducible apply good_Chan_invNil
    | (with_reducible exact good_mk (by with_reducible assumption))
    | (with_reducible exact goodD_mk (by with_reducible assumption))
    | split
    | (intro _)
    | (extract_lets +onlyGivenNames x; first | (refine good_use (x := x) ?_ (fun hx => ?_)) | (refine good_use (x := x.1) ?_ (fun hx => ?_)) | (refine (have hx : Dev.Good x := ?_; ?_)) | (refine (have hx : Dev.Good x.1 := ?_; ?_)) | (refine (have hx : Mach.Good x := ?_; ?_)) | (refine (have hx : Mach.Good x.1 := ?_; ?_)) | (refine (have hx : Mach.Good x.m := ?_; ?_)) | clear_value x))
theorem good_Chan_srcEvt {kc : Ch} (c : Chan) (type : Nat) (s : Src) (h_c : c.Good kc) : (Chan.srcEvt c type s).Good kc := by
  unfold Chan.srcEvt
  repeat' (first
    | with_reducible assumption
    | with_reducible apply good_Chan_evt)
theorem good_Chan_srcOn {kc : Ch} (c : Chan) (s : Src) (slice : Nat) (h_c : c.Good kc) : (Chan.srcOn c s slice).Good kc := by
  unfold Chan.srcOn
  repeat' (first
    | with_reducible assumption
    | with_reducible apply good_Chan_wr
    | with_reducible apply good_Dev_wr
    | with_reducible apply good_Chan_capture
    | with_reducible apply good_Chan_srcEvt
    | with_reducible apply good_Dev_srcEvt
    | with_reducible apply good_foldl
    | with_reducible apply goodD_foldl
    | with_reducible apply goodM_foldl
    | with_reducible apply good_Chan_inv
    | with_reducible apply good_Chan_invNil
    | (with_reducible exact good_mk (by with_reducible assumption))
    | (with_reducible exact goodD_mk (by with_reducible assumption))
    | split)
theorem good_Chan_srcOff {kc : Ch} (c : Chan) (s : Src) (h_c : c.Good kc) : (Chan.srcOff c s).Good kc := by
  unfold Chan.srcOff
  repeat' (first
    | with_reducible assumption
    | with_reducible apply good_Chan_wr
    | with_reducible apply good_Dev_wr
    | with_reducible apply good_Chan_srcEvt)
theorem good_Chan_wire {kc : Ch} (c : Chan) (s : Nat) (at_ : Tick) (pulse : Bool) (en : Bool) (h_c : c.Good kc) : (Chan.wire c s at_ pulse en).Good kc := by
  unfold Chan.wire
  repeat' (first
    | with_reducible assumption
    | with_reducible apply good_Chan_onSl
    | with_reducible apply good_Chan_pulse
    | with_reducible apply good_Dev_pulse
    | with_reducible apply good_Chan_p
    | with_reducible apply good_Dev_p
    | with_reducible apply good_foldl
    | with_reducible apply goodD_foldl
    | with_reducible apply goodM_foldl
    | with_reducible apply good_Chan_inv
    | with_reducible apply good_Chan_invNil
    | (with_reducible exact good_mk (by with_reducible assumption))
    | (with_reducible exact goodD_mk (by with_reducible assumption))
    | split)
theorem good_Chan_onDtc {kc : Ch} (c : Chan) (f : Dtc → Dtc) (h_c : c.Good kc) : (Chan.onDtc c f).Good kc := by
  unfold Chan.onDtc
  repeat' (first
    | with_reducible assumption
    | with_reducible apply good_foldl
    | with_reducible apply goodD_foldl
    | with_reducible apply goodM_foldl
    | with_reducible apply good_Chan_inv
    | with_reducible apply good_Chan_invNil
    | (with_reducible exact good_mk (by with_reducible assumption)))
theorem good_Chan_recordLeg {kc : Ch} (c : Chan) (p : Nat) (at_ : Tick) (h_c : c.Good kc) : (Chan.recordLeg c p at_).Good kc := by
  unfold Chan.recordLeg
  repeat' (first
    | with_reducible assumption
    | with_reducible apply good_Chan_p
    | with_reducible apply good_Dev_p
    | with_reducible apply good_Chan_onDtc)
theorem good_Chan_legChange {kc : Ch} (c : Chan) (p : Nat) (at_ : Tick) (pulse : Bool) (h_c : c.Good kc) : (Chan.legChange c p at_ pulse).Good kc := by
  unfold Chan.legChange
  repeat' (first
    | with_reducible assumption
    | with_reducible apply good_Chan_p
    | with_reducible apply good_Dev_p
    | with_reducible apply good_Chan_onMod
    | with_reducible apply good_Chan_pulse
    | with_reducible apply good_Dev_pulse
    | with_reducible apply good_Mach_take
    | with_reducible apply good_Chan_onDtc
    | with_reducible apply good_foldl
    | with_reducible apply goodD_foldl
    | with_reducible apply goodM_foldl
    | with_reducible apply good_Chan_inv
    | with_reducible apply good_Chan_invNil
    | (with_reducible exact good_mk (by with_reducible assumption)))
theorem good_Chan_edgeOut {kc : Ch} (c : Chan) (p : Nat) (at_ : Tick) (pulse : Bool) (en : Bool) (h_c : c.Good kc) : (Chan.edgeOut c p at_ pulse en).Good kc := by
  unfold Chan.edgeOut
  repeat' (first
    | with_reducible assumption
    | with_reducible apply good_Chan_p
    | with_reducible apply good_Dev_p
    | with_reducible apply good_Chan_pulse
    | with_reducible apply good_Dev_pulse
    | with_reducible apply good_Chan_wire
    | with_reducible apply good_Chan_onSl
    | with_reducible apply good_Chan_onMod
    | with_reducible apply good_foldl
    | with_reducible apply goodD_foldl
    | with_reducible apply goodM_foldl
    | with_reducible apply good_Chan_inv
    | with_reducible apply good_Chan_invNil
    | (with_reducible exact good_mk (by with_reducible assumption))
    | (with_reducible exact goodD_mk (by with_reducible assumption))
    | split
    | (intro _))
theorem good_Chan_sendPairAt {kc : Ch} (c : Chan) (p : Nat) (at_ : Tick) (h_c : c.Good kc) : (Chan.sendPairAt c p at_).Good kc := by
  unfold Chan.sendPairAt
  repeat' (first
    | with_reducible assumption
    | with_reducible apply good_Chan_p
    | with_reducible apply good_Dev_p
    | with_reducible apply good_Chan_edgeOut
    | with_reducible apply good_Chan_recordLeg
    | with_reducible apply good_foldl
    | with_reducible apply goodD_foldl
    | with_reducible apply goodM_foldl
    | with_reducible apply good_Chan_inv
    | with_reducible apply good_Chan_invNil
    | (with_reducible exact good_mk (by with_reducible assumption))
    | (with_reducible exact goodD_mk (by with_reducible assumption))
    | split
    | (intro _)
    | (extract_lets +onlyGivenNames x; first | (refine good_use (x := x) ?_ (fun hx => ?_)) | (refine good_use (x := x.1) ?_ (fun hx => ?_)) | (refine (have hx : Dev.Good x := ?_; ?_)) | (refine (have hx : Dev.Good x.1 := ?_; ?_)) | (refine (have hx : Mach.Good x := ?_; ?_)) | (refine (have hx : Mach.Good x.1 := ?_; ?_)) | (refine (have hx : Mach.Good x.m := ?_; ?_)) | clear_value x))
theorem good_Chan_sendPair {kc : Ch} (c : Chan) (p : Nat) (h_c : c.Good kc) : (Chan.sendPair c p).Good kc := by
  unfold Chan.sendPair
  repeat' (first
    | with_reducible assumption
    | with_reducible apply good_Chan_sendPairAt)
theorem good_Chan_setPairAt {kc : Ch} (c : Chan) (p : Nat) (at_ : Tick) (en : Bool) (pulse : Bool) (h_c : c.Good kc) : (Chan.setPairAt c p at_ en pulse).Good kc := by
  unfold Chan.setPairAt
  repeat' (first
    | with_reducible assumption
    | with_reducible apply good_Chan_p
    | with_reducible apply good_Dev_p
    | with_reducible apply good_Chan_pulse
    | with_reducible apply good_Dev_pulse
    | with_reducible apply good_Chan_legChange
    | with_reducible apply good_Chan_pb
    | with_reducible apply good_Dev_pb
    | with_reducible apply good_Chan_sendPairAt
    | with_reducible apply good_foldl
    | with_reducible apply goodD_foldl
    | with_reducible apply goodM_foldl
    | with_reducible apply good_Chan_inv
    | with_reducible apply good_Chan_invNil
    | (with_reducible exact good_mk (by with_reducible assumption))
    | (with_reducible exact goodD_mk (by with_reducible assumption))
    | split)
theorem good_Chan_setPair {kc : Ch} (c : Chan) (p : Nat) (en : Bool) (pulse : Bool) (h_c : c.Good kc) : (Chan.setPair c p en pulse).Good kc := by
  unfold Chan.setPair
  repeat' (first
    | with_reducible assumption
    | with_reducible apply good_Chan_setPairAt)
theorem good_Chan_setLegs {kc : Ch} (c : Chan) (en : Nat) (pulse : Nat) (h_c : c.Good kc) : (Chan.setLegs c en pulse).Good kc := by
  unfold Chan.setLegs
  repeat' (first
    | with_reducible assumption
    | with_reducible apply good_Chan_each
    | with_reducible apply good_Dev_each
    | with_reducible apply good_Chan_p
    | with_reducible apply good_Dev_p
    | with_reducible apply good_Chan_setPair
    | with_reducible apply good_Chan_pulse
    | with_reducible apply good_Dev_pulse
    | with_reducible apply good_foldl
    | with_reducible apply goodD_foldl
    | with_reducible apply goodM_foldl
    | with_reducible apply good_Chan_inv
    | with_reducible apply good_Chan_invNil
    | (with_reducible exact good_mk (by with_reducible assumption))
    | (with_reducible exact goodD_mk (by with_reducible assumption))
    | split
    | (intro _))
theorem good_Chan_legsOff {kc : Ch} (c : Chan) (h_c : c.Good kc) : (Chan.legsOff c).Good kc := by
  unfold Chan.legsOff
  repeat' (first
    | with_reducible assumption
    | with_reducible apply good_Chan_each
    | with_reducible apply good_Dev_each
    | with_reducible apply good_Chan_p
    | with_reducible apply good_Dev_p
    | with_reducible apply good_Chan_setPair
    | with_reducible apply good_foldl
    | with_reducible apply goodD_foldl
    | with_reducible apply goodM_foldl
    | with_reducible apply good_Chan_inv
    | with_reducible apply good_Chan_invNil
    | (with_reducible exact good_mk (by with_reducible assumption))
    | (with_reducible exact goodD_mk (by with_reducible assumption))
    | split
    | (intro _))
theorem good_Chan_togglePair {kc : Ch} (c : Chan) (p : Nat) (h_c : c.Good kc) : (Chan.togglePair c p).Good kc := by
  unfold Chan.togglePair
  repeat' (first
    | with_reducible assumption
    | with_reducible apply good_Chan_p
    | with_reducible apply good_Dev_p
    | with_reducible apply good_Chan_onMod
    | with_reducible apply good_Chan_edgeOut
    | with_reducible apply good_foldl
    | with_reducible apply goodD_foldl
    | with_reducible apply goodM_foldl
    | with_reducible apply good_Chan_inv
    | with_reducible apply good_Chan_invNil
    | (with_reducible exact good_mk (by with_reducible assumption))
    | (with_reducible exact goodD_mk (by with_reducible assumption))
    | split
    | (intro _)
    | (extract_lets +onlyGivenNames x; first | (refine good_use (x := x) ?_ (fun hx => ?_)) | (refine good_use (x := x.1) ?_ (fun hx => ?_)) | (refine (have hx : Dev.Good x := ?_; ?_)) | (refine (have hx : Dev.Good x.1 := ?_; ?_)) | (refine (have hx : Mach.Good x := ?_; ?_)) | (refine (have hx : Mach.Good x.1 := ?_; ?_)) | (refine (have hx : Mach.Good x.m := ?_; ?_)) | clear_value x))
theorem good_Chan_setDchgOut {kc : Ch} (c : Chan) (on : Bool) (h_c : c.Good kc) : (Chan.setDchgOut c on).Good kc := by
  unfold Chan.setDchgOut
  repeat' (first
    | with_reducible assumption
    | with_reducible apply good_Chan_wire
    | with_reducible apply good_foldl
    | with_reducible apply goodD_foldl
    | with_reducible apply goodM_foldl
    | with_reducible apply good_Chan_inv
    | with_reducible apply good_Chan_invNil
    | (with_reducible exact good_mk (by with_reducible assumption))
    | (with_reducible exact goodD_mk (by with_reducible assumption))
    | split)
theorem good_Chan_reacqLeave {kc : Ch} (c : Chan) (h_c : c.Good kc) : (Chan.reacqLeave c).Good kc := by
  unfold Chan.reacqLeave
  repeat' (first
    | with_reducible assumption
    | with_reducible apply good_Chan_p
    | with_reducible apply good_Dev_p
    | with_reducible apply good_foldl
    | with_reducible apply goodD_foldl
    | with_reducible apply goodM_foldl
    | with_reducible apply good_Chan_inv
    | with_reducible apply good_Chan_invNil
    | (with_reducible exact good_mk (by with_reducible assumption))
    | (with_reducible exact goodD_mk (by with_reducible assumption))
    | split)
theorem good_Chan_applySel {kc : Ch} (c : Chan) (h_c : c.Good kc) : (Chan.applySel c).Good kc := by
  unfold Chan.applySel
  repeat' (first
    | with_reducible assumption
    | with_reducible apply good_Chan_p
    | with_reducible apply good_Dev_p
    | with_reducible apply good_Chan_pulse
    | with_reducible apply good_Dev_pulse
    | with_reducible apply good_Chan_reacqLeave
    | with_reducible apply good_Chan_onDust
    | with_reducible apply good_Chan_wrapInc
    | with_reducible apply good_Dev_wrapInc
    | with_reducible apply good_Chan_evt
    | with_reducible apply good_Chan_onLife
    | with_reducible apply good_Chan_onProt
    | with_reducible apply good_Chan_legsOff
    | with_reducible apply good_Chan_setLegs
    | with_reducible apply good_foldl
    | with_reducible apply goodD_foldl
    | with_reducible apply goodM_foldl
    | with_reducible apply good_Chan_inv
    | with_reducible apply good_Chan_invNil
    | (with_reducible exact good_mk (by with_reducible assumption))
    | (with_reducible exact goodD_mk (by with_reducible assumption))
    | split
    | (intro _)
    | (extract_lets +onlyGivenNames x; first | (refine good_use (x := x) ?_ (fun hx => ?_)) | (refine good_use (x := x.1) ?_ (fun hx => ?_)) | (refine (have hx : Dev.Good x := ?_; ?_)) | (refine (have hx : Dev.Good x.1 := ?_; ?_)) | (refine (have hx : Mach.Good x := ?_; ?_)) | (refine (have hx : Mach.Good x.1 := ?_; ?_)) | (refine (have hx : Mach.Good x.m := ?_; ?_)) | clear_value x))
theorem good_Chan_cmpCont {kc : Ch} (c : Chan) (n : Nat) (h_c : c.Good kc) : (Chan.cmpCont c n).Good kc := by
  unfold Chan.cmpCont
  repeat' (first
    | with_reducible assumption
    | with_reducible apply good_Chan_pb
    | with_reducible apply good_Dev_pb
    | with_reducible apply good_Chan_onMsio
    | with_reducible apply good_Chan_srcOff
    | with_reducible apply good_foldl
    | with_reducible apply goodD_foldl
    | with_reducible apply goodM_foldl
    | with_reducible apply good_Chan_inv
    | with_reducible apply good_Chan_invNil
    | (with_reducible exact good_mk (by with_reducible assumption))
    | (with_reducible exact goodD_mk (by with_reducible assumption))
    | split
    | (intro _)
    | (extract_lets +onlyGivenNames x; first | (refine good_use (x := x) ?_ (fun hx => ?_)) | (refine good_use (x := x.1) ?_ (fun hx => ?_)) | (refine (have hx : Dev.Good x := ?_; ?_)) | (refine (have hx : Dev.Good x.1 := ?_; ?_)) | (refine (have hx : Mach.Good x := ?_; ?_)) | (refine (have hx : Mach.Good x.1 := ?_; ?_)) | (refine (have hx : Mach.Good x.m := ?_; ?_)) | clear_value x))
theorem good_Chan_setCdrv {kc : Ch} (c : Chan) (n : Nat) (v : Bool) (h_c : c.Good kc) : (Chan.setCdrv c n v).Good kc := by
  unfold Chan.setCdrv
  repeat' (first
    | with_reducible assumption
    | with_reducible apply good_Chan_pb
    | with_reducible apply good_Dev_pb
    | with_reducible apply good_Chan_cmpCont
    | with_reducible apply good_foldl
    | with_reducible apply goodD_foldl
    | with_reducible apply goodM_foldl
    | with_reducible apply good_Chan_inv
    | with_reducible apply good_Chan_invNil
    | (with_reducible exact good_mk (by with_reducible assumption))
    | (with_reducible exact goodD_mk (by with_reducible assumption))
    | split)
theorem good_Chan_cdrvAllLow {kc : Ch} (c : Chan) (h_c : c.Good kc) : (Chan.cdrvAllLow c).Good kc := by
  unfold Chan.cdrvAllLow
  repeat' (first
    | with_reducible assumption
    | with_reducible apply good_Chan_setCdrv)
theorem good_Chan_openMask {kc : Ch} (c : Chan) (m : Nat) (h_c : c.Good kc) : (Chan.openMask c m).Good kc := by
  unfold Chan.openMask
  repeat' (first
    | with_reducible assumption
    | with_reducible apply good_Chan_each
    | with_reducible apply good_Dev_each
    | with_reducible apply good_Chan_setCdrv
    | with_reducible apply good_foldl
    | with_reducible apply goodD_foldl
    | with_reducible apply goodM_foldl
    | with_reducible apply good_Chan_inv
    | with_reducible apply good_Chan_invNil
    | (with_reducible exact good_mk (by with_reducible assumption))
    | (with_reducible exact goodD_mk (by with_reducible assumption))
    | split
    | (intro _))
theorem good_Chan_cdrvHoldPrimed {kc : Ch} (c : Chan) (h_c : c.Good kc) : (Chan.cdrvHoldPrimed c).Good kc := by
  unfold Chan.cdrvHoldPrimed
  repeat' (first
    | with_reducible assumption
    | with_reducible apply good_Chan_setCdrv
    | with_reducible apply good_foldl
    | with_reducible apply goodD_foldl
    | with_reducible apply goodM_foldl
    | with_reducible apply good_Chan_inv
    | with_reducible apply good_Chan_invNil
    | (with_reducible exact good_mk (by with_reducible assumption))
    | (with_reducible exact goodD_mk (by with_reducible assumption))
    | split)
theorem good_Chan_dchgTry {kc : Ch} (c : Chan) (h_c : c.Good kc) : (Chan.dchgTry c).Good kc := by
  unfold Chan.dchgTry
  repeat' (first
    | with_reducible assumption
    | with_reducible apply good_Chan_onProt
    | with_reducible apply good_Chan_p
    | with_reducible apply good_Dev_p
    | with_reducible apply good_Chan_setDchgOut
    | with_reducible apply good_foldl
    | with_reducible apply goodD_foldl
    | with_reducible apply goodM_foldl
    | with_reducible apply good_Chan_inv
    | with_reducible apply good_Chan_invNil
    | (with_reducible exact good_mk (by with_reducible assumption))
    | (with_reducible exact goodD_mk (by with_reducible assumption))
    | split)
theorem good_Chan_dchgAsk {kc : Ch} (c : Chan) (s4 : Bool) (pin : Bool) (cmd : Bool) (h_c : c.Good kc) : (Chan.dchgAsk c s4 pin cmd).Good kc := by
  unfold Chan.dchgAsk
  repeat' (first
    | with_reducible assumption
    | with_reducible apply good_Chan_onProt
    | with_reducible apply good_Chan_p
    | with_reducible apply good_Dev_p
    | with_reducible apply good_Chan_srcOff
    | with_reducible apply good_Chan_dchgTry
    | with_reducible apply good_foldl
    | with_reducible apply goodD_foldl
    | with_reducible apply goodM_foldl
    | with_reducible apply good_Chan_inv
    | with_reducible apply good_Chan_invNil
    | (with_reducible exact good_mk (by with_reducible assumption))
    | (with_reducible exact goodD_mk (by with_reducible assumption))
    | split)
theorem good_Chan_answer {kc : Ch} (c : Chan) (op : ChOp) (status : Nat) (words : List Nat) (h_c : c.Good kc) : (Chan.answer c op status words).Good kc := by
  unfold Chan.answer
  repeat' (first
    | with_reducible assumption
    | with_reducible apply good_foldl
    | with_reducible apply goodD_foldl
    | with_reducible apply goodM_foldl
    | with_reducible apply good_Chan_inv
    | with_reducible apply good_Chan_invNil
    | (with_reducible exact good_mk (by with_reducible assumption)))
theorem good_Chan_armAnswer {kc : Ch} (c : Chan) (status : Nat) (h_c : c.Good kc) : (Chan.armAnswer c status).Good kc := by
  unfold Chan.armAnswer
  repeat' (first
    | with_reducible assumption
    | with_reducible apply good_Chan_answer)
theorem good_Chan_reqDiscard {kc : Ch} (c : Chan) (h_c : c.Good kc) : (Chan.reqDiscard c).Good kc := by
  unfold Chan.reqDiscard
  repeat' (first
    | with_reducible assumption
    | with_reducible apply good_Chan_p)
theorem good_Chan_armDiscard {kc : Ch} (c : Chan) (h_c : c.Good kc) : (Chan.armDiscard c).Good kc := by
  unfold Chan.armDiscard
  repeat' (first
    | with_reducible assumption
    | with_reducible apply good_Chan_reqDiscard
    | with_reducible apply good_Chan_armAnswer)
theorem good_Chan_armLost {kc : Ch} (c : Chan) (arm : Option ArmSeq) (h_c : c.Good kc) : (Chan.armLost c arm).Good kc := by
  unfold Chan.armLost
  repeat' (first
    | with_reducible assumption
    | with_reducible apply good_Chan_armDiscard
    | with_reducible apply good_Chan_armAnswer
    | with_reducible apply good_foldl
    | with_reducible apply goodD_foldl
    | with_reducible apply goodM_foldl
    | with_reducible apply good_Chan_inv
    | with_reducible apply good_Chan_invNil
    | (with_reducible exact good_mk (by with_reducible assumption))
    | (with_reducible exact goodD_mk (by with_reducible assumption))
    | split)
theorem good_Chan_primerAbort {kc : Ch} (c : Chan) (h_c : c.Good kc) : (Chan.primerAbort c).Good kc := by
  unfold Chan.primerAbort
  repeat' (first
    | with_reducible assumption
    | with_reducible apply good_Chan_onMod
    | with_reducible apply good_Chan_p
    | with_reducible apply good_Dev_p
    | with_reducible apply good_foldl
    | with_reducible apply goodD_foldl
    | with_reducible apply goodM_foldl
    | with_reducible apply good_Chan_inv
    | with_reducible apply good_Chan_invNil
    | (with_reducible exact good_mk (by with_reducible assumption))
    | (with_reducible exact goodD_mk (by with_reducible assumption))
    | split)
theorem good_Chan_armEnd {kc : Ch} (c : Chan) (h_c : c.Good kc) : (Chan.armEnd c).Good kc := by
  unfold Chan.armEnd
  repeat' (first
    | with_reducible assumption
    | with_reducible apply good_Chan_openMask
    | with_reducible apply good_Chan_onCtl
    | with_reducible apply good_Chan_onMsio
    | with_reducible apply good_Chan_p
    | with_reducible apply good_Dev_p
    | with_reducible apply good_Chan_primerAbort
    | with_reducible apply good_foldl
    | with_reducible apply goodD_foldl
    | with_reducible apply goodM_foldl
    | with_reducible apply good_Chan_inv
    | with_reducible apply good_Chan_invNil
    | (with_reducible exact good_mk (by with_reducible assumption))
    | (with_reducible exact goodD_mk (by with_reducible assumption))
    | split)
theorem good_Chan_commitCode {kc : Ch} (c : Chan) (code : Nat) (h_c : c.Good kc) : (Chan.commitCode c code).Good kc := by
  unfold Chan.commitCode
  repeat' (first
    | with_reducible assumption
    | with_reducible apply good_Chan_p)
theorem good_Chan_beginHold {kc : Ch} (c : Chan) (kind : Nat) (h_c : c.Good kc) : (Chan.beginHold c kind).Good kc := by
  unfold Chan.beginHold
  repeat' (first
    | with_reducible assumption
    | with_reducible apply good_Chan_onDust
    | with_reducible apply good_Chan_p
    | with_reducible apply good_Dev_p
    | with_reducible apply good_Chan_pb
    | with_reducible apply good_Dev_pb
    | with_reducible apply good_Chan_wrapInc
    | with_reducible apply good_Dev_wrapInc
    | with_reducible apply good_Chan_satInc
    | with_reducible apply good_Dev_satInc
    | with_reducible apply good_foldl
    | with_reducible apply goodD_foldl
    | with_reducible apply goodM_foldl
    | with_reducible apply good_Chan_inv
    | with_reducible apply good_Chan_invNil
    | (with_reducible exact good_mk (by with_reducible assumption))
    | (with_reducible exact goodD_mk (by with_reducible assumption))
    | split)
theorem good_Chan_endHold {kc : Ch} (c : Chan) (h_c : c.Good kc) : (Chan.endHold c).Good kc := by
  unfold Chan.endHold
  repeat' (first
    | with_reducible assumption
    | with_reducible apply good_Chan_onDust
    | with_reducible apply good_Chan_p
    | with_reducible apply good_Dev_p
    | with_reducible apply good_foldl
    | with_reducible apply goodD_foldl
    | with_reducible apply goodM_foldl
    | with_reducible apply good_Chan_inv
    | with_reducible apply good_Chan_invNil
    | (with_reducible exact good_mk (by with_reducible assumption))
    | (with_reducible exact goodD_mk (by with_reducible assumption))
    | split
    | (intro _)
    | (extract_lets +onlyGivenNames x; first | (refine good_use (x := x) ?_ (fun hx => ?_)) | (refine good_use (x := x.1) ?_ (fun hx => ?_)) | (refine (have hx : Dev.Good x := ?_; ?_)) | (refine (have hx : Dev.Good x.1 := ?_; ?_)) | (refine (have hx : Mach.Good x := ?_; ?_)) | (refine (have hx : Mach.Good x.1 := ?_; ?_)) | (refine (have hx : Mach.Good x.m := ?_; ?_)) | clear_value x))
theorem good_Chan_windEnd {kc : Ch} (c : Chan) (st : Nat) (h_c : c.Good kc) : (Chan.windEnd c st).Good kc := by
  unfold Chan.windEnd
  repeat' (first
    | with_reducible assumption
    | with_reducible apply good_Chan_onProt
    | with_reducible apply good_Chan_p
    | with_reducible apply good_Dev_p
    | with_reducible apply good_foldl
    | with_reducible apply goodD_foldl
    | with_reducible apply goodM_foldl
    | with_reducible apply good_Chan_inv
    | with_reducible apply good_Chan_invNil
    | (with_reducible exact good_mk (by with_reducible assumption))
    | (with_reducible exact goodD_mk (by with_reducible assumption))
    | split)
theorem good_Chan_s4Requests {kc : Ch} (c : Chan) (h_c : c.Good kc) : (Chan.s4Requests c).Good kc := by
  unfold Chan.s4Requests
  repeat' (first
    | with_reducible assumption
    | with_reducible apply good_Chan_p
    | with_reducible apply good_Dev_p
    | with_reducible apply good_Chan_cdrvAllLow
    | with_reducible apply good_Chan_onDust
    | with_reducible apply good_Chan_onLife
    | with_reducible apply good_Chan_dchgAsk)
theorem good_Chan_offIf {kc : Ch} (c : Chan) (s : Src) (h_c : c.Good kc) : (Chan.offIf c s).Good kc := by
  unfold Chan.offIf
  repeat' (first
    | with_reducible assumption
    | with_reducible apply good_Chan_srcOff
    | with_reducible apply good_foldl
    | with_reducible apply goodD_foldl
    | with_reducible apply goodM_foldl
    | with_reducible apply good_Chan_inv
    | with_reducible apply good_Chan_invNil
    | (with_reducible exact good_mk (by with_reducible assumption))
    | (with_reducible exact goodD_mk (by with_reducible assumption))
    | split)
theorem good_Chan_nfaultSet {kc : Ch} (c : Chan) (h_c : c.Good kc) : (Chan.nfaultSet c).Good kc := by
  unfold Chan.nfaultSet
  repeat' (first
    | with_reducible assumption
    | with_reducible apply good_Chan_onDust)
theorem good_Chan_leaveFault {kc : Ch} (c : Chan) (h_c : c.Good kc) : (Chan.leaveFault c).Good kc := by
  unfold Chan.leaveFault
  repeat' (first
    | with_reducible assumption
    | with_reducible apply good_Chan_p
    | with_reducible apply good_Dev_p
    | with_reducible apply good_Chan_onCtl
    | with_reducible apply good_Chan_each
    | with_reducible apply good_Dev_each
    | with_reducible apply good_Chan_togglePair
    | with_reducible apply good_foldl
    | with_reducible apply goodD_foldl
    | with_reducible apply goodM_foldl
    | with_reducible apply good_Chan_inv
    | with_reducible apply good_Chan_invNil
    | (with_reducible exact good_mk (by with_reducible assumption))
    | (with_reducible exact goodD_mk (by with_reducible assumption))
    | split
    | (intro _))
theorem good_Chan_maskReport {kc : Ch} (c : Chan) (h_c : c.Good kc) : (Chan.maskReport c).Good kc := by
  unfold Chan.maskReport
  repeat' (first
    | with_reducible assumption
    | with_reducible apply good_Chan_p
    | with_reducible apply good_Dev_p
    | with_reducible apply good_foldl
    | with_reducible apply goodD_foldl
    | with_reducible apply goodM_foldl
    | with_reducible apply good_Chan_inv
    | with_reducible apply good_Chan_invNil
    | (with_reducible exact good_mk (by with_reducible assumption))
    | (with_reducible exact goodD_mk (by with_reducible assumption))
    | split)
theorem good_Chan_leaveRun {kc : Ch} (c : Chan) (h_c : c.Good kc) : (Chan.leaveRun c).Good kc := by
  unfold Chan.leaveRun
  repeat' (first
    | with_reducible assumption
    | with_reducible apply good_Chan_offIf
    | with_reducible apply good_Chan_p
    | with_reducible apply good_Dev_p
    | with_reducible apply good_Chan_maskReport
    | with_reducible apply good_Chan_onDtc
    | with_reducible apply good_Chan_refresh
    | with_reducible apply good_foldl
    | with_reducible apply goodD_foldl
    | with_reducible apply goodM_foldl
    | with_reducible apply good_Chan_inv
    | with_reducible apply good_Chan_invNil
    | (with_reducible exact good_mk (by with_reducible assumption))
    | (with_reducible exact goodD_mk (by with_reducible assumption))
    | split
    | (intro _)
    | (extract_lets +onlyGivenNames x; first | (refine good_use (x := x) ?_ (fun hx => ?_)) | (refine good_use (x := x.1) ?_ (fun hx => ?_)) | (refine (have hx : Dev.Good x := ?_; ?_)) | (refine (have hx : Dev.Good x.1 := ?_; ?_)) | (refine (have hx : Mach.Good x := ?_; ?_)) | (refine (have hx : Mach.Good x.1 := ?_; ?_)) | (refine (have hx : Mach.Good x.m := ?_; ?_)) | clear_value x))
theorem good_Chan_engineIdle {kc : Ch} (c : Chan) (h_c : c.Good kc) : (Chan.engineIdle c).Good kc := by
  unfold Chan.engineIdle
  repeat' (first
    | with_reducible assumption
    | with_reducible apply good_Chan_wr
    | with_reducible apply good_Dev_wr
    | with_reducible apply good_Chan_offIf
    | with_reducible apply good_Chan_onDtc)
theorem good_Chan_setState {kc : Ch} (c : Chan) (st : Nat) (cause : Nat) (h_c : c.Good kc) : (Chan.setState c st cause).Good kc := by
  unfold Chan.setState
  extract_lets old c1 c2 c3 c4 c5 moot c6 c7 c8
  have h1 : c1.Good kc := good_Chan_p _ _ _ (good_Chan_p _ _ _ (good_Chan_p _ _ _ h_c))
  clear_value c1
  have h2 : c2.Good kc := good_Chan_onLife _ _ (good_Chan_evt _ _ _ _ _ _ _ h1)
  clear_value c2
  have h3 : c3.Good kc := by
    unfold c3
    split
    · exact good_Chan_leaveRun _ h2
    · exact h2
  clear_value c3
  have h4 : c4.Good kc := by
    unfold c4
    split
    · exact h3
    · exact good_Chan_offIf _ _ h3
  clear_value c4
  have h5 : c5.Good kc := by
    unfold c5
    split
    · exact h4
    · exact good_Chan_offIf _ _ h4
  clear_value c5
  clear_value moot
  have h6 : c6.Good kc := by
    unfold c6
    split
    · exact good_Chan_onCtl _ _ (good_Chan_reqDiscard _ h5)
    · exact good_Chan_onCtl _ _ h5
  clear_value c6
  have h7 : c7.Good kc := by
    unfold c7
    split
    · exact good_Chan_engineIdle _ h6
    · exact h6
  clear_value c7
  have h8 : c8.Good kc := by
    unfold c8
    split
    · exact good_Chan_nfaultSet _ (good_Chan_leaveFault _ h7)
    · exact good_Chan_nfaultSet _ h7
  exact good_mk h8
theorem good_Chan_enterFault {kc : Ch} (c : Chan) (h_c : c.Good kc) : (Chan.enterFault c).Good kc := by
  unfold Chan.enterFault
  repeat' (first
    | with_reducible assumption
    | with_reducible apply good_Chan_armEnd
    | with_reducible apply good_Chan_primerAbort
    | with_reducible apply good_Chan_setState
    | with_reducible apply good_Chan_p
    | with_reducible apply good_Dev_p
    | with_reducible apply good_Chan_armLost
    | with_reducible apply good_Chan_onCtl
    | with_reducible apply good_Chan_setCdrv
    | with_reducible apply good_Chan_onMsio)
theorem good_Chan_captureCause {kc : Ch} (c : Chan) (s : Src) (sev : Nat) (seq : Nat) (time : Nat) (h_c : c.Good kc) : (Chan.captureCause c s sev seq time).Good kc := by
  unfold Chan.captureCause
  repeat' (first
    | with_reducible assumption
    | with_reducible apply good_Chan_wr)
theorem good_Chan_ringTrigger {kc : Ch} (c : Chan) (time : Nat) (cause : Nat) (seq : Nat) (h_c : c.Good kc) : (Chan.ringTrigger c time cause seq).Good kc := by
  unfold Chan.ringTrigger
  repeat' (first
    | with_reducible assumption
    | with_reducible apply good_Mach_post
    | with_reducible apply good_Dev_cause
    | with_reducible apply good_foldl
    | with_reducible apply goodD_foldl
    | with_reducible apply goodM_foldl
    | with_reducible apply good_Chan_inv
    | with_reducible apply good_Chan_invNil
    | (with_reducible exact good_mk (by with_reducible assumption))
    | (with_reducible exact goodD_mk (by with_reducible assumption))
    | split)
theorem good_Chan_ringRename {kc : Ch} (c : Chan) (seq : Nat) (h_c : c.Good kc) : (Chan.ringRename c seq).Good kc := by
  unfold Chan.ringRename
  repeat' (first
    | with_reducible assumption
    | with_reducible apply good_Mach_post
    | with_reducible apply good_Dev_cause
    | with_reducible apply good_foldl
    | with_reducible apply goodD_foldl
    | with_reducible apply goodM_foldl
    | with_reducible apply good_Chan_inv
    | with_reducible apply good_Chan_invNil
    | (with_reducible exact good_mk (by with_reducible assumption))
    | (with_reducible exact goodD_mk (by with_reducible assumption))
    | split)
theorem good_Chan_arrive {kc : Ch} (c : Chan) (s : Src) (seq : Nat) (h_c : c.Good kc) : (Chan.arrive c s seq).Good kc := by
  unfold Chan.arrive
  repeat' (first
    | with_reducible assumption
    | with_reducible apply good_Chan_captureCause
    | with_reducible apply good_Chan_p
    | with_reducible apply good_Dev_p
    | with_reducible apply good_Chan_ringRename
    | with_reducible apply good_Chan_ringTrigger
    | with_reducible apply good_Chan_enterFault
    | with_reducible apply good_Chan_beginHold
    | with_reducible apply good_Chan_s4Requests
    | with_reducible apply good_foldl
    | with_reducible apply goodD_foldl
    | with_reducible apply goodM_foldl
    | with_reducible apply good_Chan_inv
    | with_reducible apply good_Chan_invNil
    | (with_reducible exact good_mk (by with_reducible assumption))
    | (with_reducible exact goodD_mk (by with_reducible assumption))
    | split
    | (intro _)
    | (extract_lets +onlyGivenNames x; first | (refine good_use (x := x) ?_ (fun hx => ?_)) | (refine good_use (x := x.1) ?_ (fun hx => ?_)) | (refine (have hx : Dev.Good x := ?_; ?_)) | (refine (have hx : Dev.Good x.1 := ?_; ?_)) | (refine (have hx : Mach.Good x := ?_; ?_)) | (refine (have hx : Mach.Good x.1 := ?_; ?_)) | (refine (have hx : Mach.Good x.m := ?_; ?_)) | clear_value x))
theorem good_Chan_raise0 {kc : Ch} (c : Chan) (s : Src) (h_c : c.Good kc) : (Chan.raise0 c s).Good kc := by
  unfold Chan.raise0
  repeat' (first
    | with_reducible assumption
    | with_reducible apply good_Chan_srcOn
    | with_reducible apply good_Chan_arrive
    | with_reducible apply good_foldl
    | with_reducible apply goodD_foldl
    | with_reducible apply goodM_foldl
    | with_reducible apply good_Chan_inv
    | with_reducible apply good_Chan_invNil
    | (with_reducible exact good_mk (by with_reducible assumption))
    | (with_reducible exact goodD_mk (by with_reducible assumption))
    | split)
theorem good_Chan_pulse0 {kc : Ch} (c : Chan) (s : Src) (h_c : c.Good kc) : (Chan.pulse0 c s).Good kc := by
  unfold Chan.pulse0
  repeat' (first
    | with_reducible assumption
    | with_reducible apply good_Chan_srcOn
    | with_reducible apply good_Chan_srcOff
    | with_reducible apply good_Chan_arrive
    | with_reducible apply good_foldl
    | with_reducible apply goodD_foldl
    | with_reducible apply goodM_foldl
    | with_reducible apply good_Chan_inv
    | with_reducible apply good_Chan_invNil
    | (with_reducible exact good_mk (by with_reducible assumption))
    | (with_reducible exact goodD_mk (by with_reducible assumption))
    | split)
theorem good_Chan_cancelCommit {kc : Ch} (c : Chan) (code : Nat) (h_c : c.Good kc) : (Chan.cancelCommit c code).Good kc := by
  unfold Chan.cancelCommit
  repeat' (first
    | with_reducible assumption
    | with_reducible apply good_Chan_onCtl
    | with_reducible apply good_Chan_commitCode
    | with_reducible apply good_Chan_answer
    | with_reducible apply good_Chan_pulse0
    | with_reducible apply good_foldl
    | with_reducible apply goodD_foldl
    | with_reducible apply goodM_foldl
    | with_reducible apply good_Chan_inv
    | with_reducible apply good_Chan_invNil
    | (with_reducible exact good_mk (by with_reducible assumption))
    | (with_reducible exact goodD_mk (by with_reducible assumption))
    | split)
theorem good_Chan_windAbort {kc : Ch} (c : Chan) (h_c : c.Good kc) : (Chan.windAbort c).Good kc := by
  unfold Chan.windAbort
  repeat' (first
    | with_reducible assumption
    | with_reducible apply good_Chan_windEnd
    | with_reducible apply good_Chan_raise0
    | with_reducible apply good_Chan_cancelCommit
    | with_reducible apply good_foldl
    | with_reducible apply goodD_foldl
    | with_reducible apply goodM_foldl
    | with_reducible apply good_Chan_inv
    | with_reducible apply good_Chan_invNil
    | (with_reducible exact good_mk (by with_reducible assumption))
    | (with_reducible exact goodD_mk (by with_reducible assumption))
    | split
    | (intro _)
    | (extract_lets +onlyGivenNames x; first | (refine good_use (x := x) ?_ (fun hx => ?_)) | (refine good_use (x := x.1) ?_ (fun hx => ?_)) | (refine (have hx : Dev.Good x := ?_; ?_)) | (refine (have hx : Dev.Good x.1 := ?_; ?_)) | (refine (have hx : Mach.Good x := ?_; ?_)) | (refine (have hx : Mach.Good x.1 := ?_; ?_)) | (refine (have hx : Mach.Good x.m := ?_; ?_)) | clear_value x))
theorem good_Chan_reselect {kc : Ch} (c : Chan) (h_c : c.Good kc) : (Chan.reselect c).Good kc := by
  unfold Chan.reselect
  repeat' (first
    | with_reducible assumption
    | with_reducible apply good_Chan_windEnd
    | with_reducible apply good_Chan_applySel
    | with_reducible apply good_Chan_cancelCommit
    | with_reducible apply good_Chan_raise0
    | with_reducible apply good_Chan_offIf
    | with_reducible apply good_foldl
    | with_reducible apply goodD_foldl
    | with_reducible apply goodM_foldl
    | with_reducible apply good_Chan_inv
    | with_reducible apply good_Chan_invNil
    | (with_reducible exact good_mk (by with_reducible assumption))
    | (with_reducible exact goodD_mk (by with_reducible assumption))
    | split
    | (intro _)
    | (extract_lets +onlyGivenNames x; first | (refine good_use (x := x) ?_ (fun hx => ?_)) | (refine good_use (x := x.1) ?_ (fun hx => ?_)) | (refine (have hx : Dev.Good x := ?_; ?_)) | (refine (have hx : Dev.Good x.1 := ?_; ?_)) | (refine (have hx : Mach.Good x := ?_; ?_)) | (refine (have hx : Mach.Good x.1 := ?_; ?_)) | (refine (have hx : Mach.Good x.m := ?_; ?_)) | clear_value x))
theorem good_Chan_transCheck {kc : Ch} (c : Chan) (h_c : c.Good kc) : (Chan.transCheck c).Good kc := by
  unfold Chan.transCheck
  repeat' (first
    | with_reducible assumption
    | with_reducible apply good_Chan_onCtl
    | with_reducible apply good_foldl
    | with_reducible apply goodD_foldl
    | with_reducible apply goodM_foldl
    | with_reducible apply good_Chan_inv
    | with_reducible apply good_Chan_invNil
    | (with_reducible exact good_mk (by with_reducible assumption))
    | (with_reducible exact goodD_mk (by with_reducible assumption))
    | split
    | (intro _)
    | (extract_lets +onlyGivenNames x; first | (refine good_use (x := x) ?_ (fun hx => ?_)) | (refine good_use (x := x.1) ?_ (fun hx => ?_)) | (refine (have hx : Dev.Good x := ?_; ?_)) | (refine (have hx : Dev.Good x.1 := ?_; ?_)) | (refine (have hx : Mach.Good x := ?_; ?_)) | (refine (have hx : Mach.Good x.1 := ?_; ?_)) | (refine (have hx : Mach.Good x.m := ?_; ?_)) | clear_value x))
theorem good_Chan_raiseSl {kc : Ch} (c : Chan) (s : Src) (slice : Nat) (h_c : c.Good kc) : (Chan.raiseSl c s slice).Good kc := by
  unfold Chan.raiseSl
  repeat' (first
    | with_reducible assumption
    | with_reducible apply good_Chan_srcOn
    | with_reducible apply good_Chan_arrive
    | with_reducible apply good_Chan_windAbort
    | with_reducible apply good_Chan_cancelCommit
    | with_reducible apply good_Chan_reselect
    | with_reducible apply good_Chan_transCheck
    | with_reducible apply good_foldl
    | with_reducible apply goodD_foldl
    | with_reducible apply goodM_foldl
    | with_reducible apply good_Chan_inv
    | with_reducible apply good_Chan_invNil
    | (with_reducible exact good_mk (by with_reducible assumption))
    | (with_reducible exact goodD_mk (by with_reducible assumption))
    | split)
theorem good_Chan_raise {kc : Ch} (c : Chan) (s : Src) (h_c : c.Good kc) : (Chan.raise c s).Good kc := by
  unfold Chan.raise
  repeat' (first
    | with_reducible assumption
    | with_reducible apply good_Chan_raiseSl)
theorem good_Chan_clear {kc : Ch} (c : Chan) (s : Src) (h_c : c.Good kc) : (Chan.clear c s).Good kc := by
  unfold Chan.clear
  repeat' (first
    | with_reducible assumption
    | with_reducible apply good_Chan_srcOff
    | with_reducible apply good_Chan_transCheck
    | with_reducible apply good_foldl
    | with_reducible apply goodD_foldl
    | with_reducible apply goodM_foldl
    | with_reducible apply good_Chan_inv
    | with_reducible apply good_Chan_invNil
    | (with_reducible exact good_mk (by with_reducible assumption))
    | (with_reducible exact goodD_mk (by with_reducible assumption))
    | split)
theorem good_Chan_raiseRun {kc : Ch} (c : Chan) (s : Src) (h_c : c.Good kc) : (Chan.raiseRun c s).Good kc := by
  unfold Chan.raiseRun
  repeat' (first
    | with_reducible assumption
    | with_reducible apply good_Chan_raise
    | with_reducible apply good_Dev_raise
    | with_reducible apply good_Chan_clear
    | with_reducible apply good_Dev_clear
    | with_reducible apply good_foldl
    | with_reducible apply goodD_foldl
    | with_reducible apply goodM_foldl
    | with_reducible apply good_Chan_inv
    | with_reducible apply good_Chan_invNil
    | (with_reducible exact good_mk (by with_reducible assumption))
    | (with_reducible exact goodD_mk (by with_reducible assumption))
    | split
    | (intro _)
    | (extract_lets +onlyGivenNames x; first | (refine good_use (x := x) ?_ (fun hx => ?_)) | (refine good_use (x := x.1) ?_ (fun hx => ?_)) | (refine (have hx : Dev.Good x := ?_; ?_)) | (refine (have hx : Dev.Good x.1 := ?_; ?_)) | (refine (have hx : Mach.Good x := ?_; ?_)) | (refine (have hx : Mach.Good x.1 := ?_; ?_)) | (refine (have hx : Mach.Good x.m := ?_; ?_)) | clear_value x))
theorem good_Chan_follow {kc : Ch} (c : Chan) (s : Src) (cond : Bool) (h_c : c.Good kc) : (Chan.follow c s cond).Good kc := by
  unfold Chan.follow
  repeat' (first
    | with_reducible assumption
    | with_reducible apply good_Chan_raise
    | with_reducible apply good_Dev_raise
    | with_reducible apply good_Chan_clear
    | with_reducible apply good_Dev_clear
    | with_reducible apply good_foldl
    | with_reducible apply goodD_foldl
    | with_reducible apply goodM_foldl
    | with_reducible apply good_Chan_inv
    | with_reducible apply good_Chan_invNil
    | (with_reducible exact good_mk (by with_reducible assumption))
    | (with_reducible exact goodD_mk (by with_reducible assumption))
    | split)
theorem good_Chan_pulseSl {kc : Ch} (c : Chan) (s : Src) (slice : Nat) (h_c : c.Good kc) : (Chan.pulseSl c s slice).Good kc := by
  unfold Chan.pulseSl
  repeat' (first
    | with_reducible assumption
    | with_reducible apply good_Chan_srcOn
    | with_reducible apply good_Chan_arrive
    | with_reducible apply good_Chan_windAbort
    | with_reducible apply good_Chan_cancelCommit
    | with_reducible apply good_Chan_reselect
    | with_reducible apply good_Chan_offIf
    | with_reducible apply good_Chan_transCheck
    | with_reducible apply good_foldl
    | with_reducible apply goodD_foldl
    | with_reducible apply goodM_foldl
    | with_reducible apply good_Chan_inv
    | with_reducible apply good_Chan_invNil
    | (with_reducible exact good_mk (by with_reducible assumption))
    | (with_reducible exact goodD_mk (by with_reducible assumption))
    | split)
theorem good_Chan_pulse {kc : Ch} (c : Chan) (s : Src) (h_c : c.Good kc) : (Chan.pulse c s).Good kc := by
  unfold Chan.pulse
  repeat' (first
    | with_reducible assumption
    | with_reducible apply good_Chan_pulseSl)
theorem good_Chan_refuseCommit {kc : Ch} (c : Chan) (code : Nat) (h_c : c.Good kc) : (Chan.refuseCommit c code).Good kc := by
  unfold Chan.refuseCommit
  repeat' (first
    | with_reducible assumption
    | with_reducible apply good_Chan_commitCode
    | with_reducible apply good_Chan_pulse)
theorem good_Chan_raiseBy {kc : Ch} (c : Chan) (s : Src) (slice : Nat) (h_c : c.Good kc) : (Chan.raiseBy c s slice).Good kc := by
  unfold Chan.raiseBy
  repeat' (first
    | with_reducible assumption
    | with_reducible apply good_Chan_onMod
    | with_reducible apply good_Chan_raiseSl)
theorem good_Chan_clearBy {kc : Ch} (c : Chan) (s : Src) (slice : Nat) (h_c : c.Good kc) : (Chan.clearBy c s slice).Good kc := by
  unfold Chan.clearBy
  repeat' (first
    | with_reducible assumption
    | with_reducible apply good_Chan_onMod
    | with_reducible apply good_Chan_clear
    | with_reducible apply good_Dev_clear
    | with_reducible apply good_foldl
    | with_reducible apply goodD_foldl
    | with_reducible apply goodM_foldl
    | with_reducible apply good_Chan_inv
    | with_reducible apply good_Chan_invNil
    | (with_reducible exact good_mk (by with_reducible assumption))
    | (with_reducible exact goodD_mk (by with_reducible assumption))
    | split
    | (intro _)
    | (extract_lets +onlyGivenNames x; first | (refine good_use (x := x) ?_ (fun hx => ?_)) | (refine good_use (x := x.1) ?_ (fun hx => ?_)) | (refine (have hx : Dev.Good x := ?_; ?_)) | (refine (have hx : Dev.Good x.1 := ?_; ?_)) | (refine (have hx : Mach.Good x := ?_; ?_)) | (refine (have hx : Mach.Good x.1 := ?_; ?_)) | (refine (have hx : Mach.Good x.m := ?_; ?_)) | clear_value x))
theorem good_Chan_entryChecks {kc : Ch} (c : Chan) (h_c : c.Good kc) : (Chan.entryChecks c).Good kc := by
  unfold Chan.entryChecks
  repeat' (first
    | with_reducible assumption
    | with_reducible apply good_Chan_raise
    | with_reducible apply good_Dev_raise
    | with_reducible apply good_foldl
    | with_reducible apply goodD_foldl
    | with_reducible apply goodM_foldl
    | with_reducible apply good_Chan_inv
    | with_reducible apply good_Chan_invNil
    | (with_reducible exact good_mk (by with_reducible assumption))
    | (with_reducible exact goodD_mk (by with_reducible assumption))
    | split
    | (intro _)
    | (extract_lets +onlyGivenNames x; first | (refine good_use (x := x) ?_ (fun hx => ?_)) | (refine good_use (x := x.1) ?_ (fun hx => ?_)) | (refine (have hx : Dev.Good x := ?_; ?_)) | (refine (have hx : Dev.Good x.1 := ?_; ?_)) | (refine (have hx : Mach.Good x := ?_; ?_)) | (refine (have hx : Mach.Good x.1 := ?_; ?_)) | (refine (have hx : Mach.Good x.m := ?_; ?_)) | clear_value x))
theorem good_Chan_enterPrimed {kc : Ch} (c : Chan) (h_c : c.Good kc) : (Chan.enterPrimed c).Good kc := by
  unfold Chan.enterPrimed
  repeat' (first
    | with_reducible assumption
    | with_reducible apply good_Chan_armEnd
    | with_reducible apply good_Chan_setState
    | with_reducible apply good_Chan_reselect
    | with_reducible apply good_Chan_legsOff
    | with_reducible apply good_Chan_cdrvAllLow
    | with_reducible apply good_Chan_p
    | with_reducible apply good_Dev_p
    | with_reducible apply good_Chan_entryChecks
    | with_reducible apply good_Chan_transCheck)
theorem good_Chan_enterArmed {kc : Ch} (c : Chan) (h_c : c.Good kc) : (Chan.enterArmed c).Good kc := by
  unfold Chan.enterArmed
  repeat' (first
    | with_reducible assumption
    | with_reducible apply good_Chan_setState
    | with_reducible apply good_Chan_reselect
    | with_reducible apply good_Chan_legsOff
    | with_reducible apply good_Chan_entryChecks
    | with_reducible apply good_Chan_transCheck)
theorem good_Chan_enterRun {kc : Ch} (c : Chan) (h_c : c.Good kc) : (Chan.enterRun c).Good kc := by
  unfold Chan.enterRun
  repeat' (first
    | with_reducible assumption
    | with_reducible apply good_Chan_setState
    | with_reducible apply good_Chan_onCtl
    | with_reducible apply good_Chan_entryChecks
    | with_reducible apply good_Chan_transCheck)
theorem good_Chan_enterHold {kc : Ch} (c : Chan) (cause : Nat) (h_c : c.Good kc) : (Chan.enterHold c cause).Good kc := by
  unfold Chan.enterHold
  repeat' (first
    | with_reducible assumption
    | with_reducible apply good_Chan_armEnd
    | with_reducible apply good_Chan_setState
    | with_reducible apply good_Dev_cause
    | with_reducible apply good_Chan_armLost
    | with_reducible apply good_Chan_cdrvHoldPrimed
    | with_reducible apply good_Chan_setCdrv
    | with_reducible apply good_Chan_reselect
    | with_reducible apply good_Chan_entryChecks
    | with_reducible apply good_Chan_transCheck
    | with_reducible apply good_foldl
    | with_reducible apply goodD_foldl
    | with_reducible apply goodM_foldl
    | with_reducible apply good_Chan_inv
    | with_reducible apply good_Chan_invNil
    | (with_reducible exact good_mk (by with_reducible assumption))
    | (with_reducible exact goodD_mk (by with_reducible assumption))
    | split)


end Sys2Proof.Machine
end

