-- ==== Sys2Proof/Laws/GoodChanA.lean ====
section
/-! SUPPORT. Laws/GoodChanA.lean: the canonical form under the commands of the channels' power stage and inputs. -/

set_option Elab.async false

namespace Sys2Proof.Machine
open Sys2Proof

theorem good_Mach_chan (m : Mach) (ch : Ch) (h : m.Good) : (m.chan ch).Good ch := by
  cases ch
  · exact h.1
  · exact h.2.1
theorem good_Mach_setChan (m : Mach) (ch : Ch) (c : Chan) (h : m.Good) (hc : c.Good ch) : (m.setChan ch c).Good := by
  cases ch
  · exact ⟨hc, h.2.1, h.2.2⟩
  · exact ⟨h.1, hc, h.2.2⟩
theorem good_Mach_onChan (m : Mach) (ch : Ch) (f : Chan → Chan) (h : m.Good) (hf : ∀ c : Chan, c.Good ch → (f c).Good ch) : (m.onChan ch f).Good :=
  good_Mach_setChan _ _ _ h (hf _ (good_Mach_chan m ch h))
theorem good_Mach_advance (m : Mach) (t : Tick) (h : m.Good) : (m.advance t).Good := h
theorem good_Mach_onDev (m : Mach) (f : Dev → Dev) (h : m.Good) (hf : ∀ d : Dev, d.Good → (f d).Good) : (m.onDev f).Good := ⟨h.1, h.2.1, hf _ h.2.2.1, h.2.2.2⟩
theorem good_live {kc : Ch} (f : Chan → Chan) (c : Chan) (h_f : ∀ x, x.Good kc → (f x).Good kc) (h_c : c.Good kc) : (live f c).Good kc := by
  unfold live; split
  · exact h_c
  · exact h_f _ h_c
theorem good_quietly {kc : Ch} (f : Chan → Chan) (c : Chan) (h_f : ∀ x, x.Good kc → (f x).Good kc) (h_c : c.Good kc) : (quietly f c).Good kc := h_f _ h_c

theorem good_Chan_armFail {kc : Ch} (c : Chan) (h_c : c.Good kc) : (Chan.armFail c).Good kc := by
  unfold Chan.armFail
  repeat' (first
    | with_reducible assumption
    | with_reducible apply good_Chan_armEnd
    | with_reducible apply good_Chan_p
    | with_reducible apply good_Dev_p
    | with_reducible apply good_Chan_armAnswer
    | with_reducible apply good_foldl
    | with_reducible apply goodD_foldl
    | with_reducible apply goodM_foldl
    | with_reducible apply good_Chan_inv
    | with_reducible apply good_Chan_invNil
    | (with_reducible exact good_mk (by with_reducible assumption))
    | (with_reducible exact goodD_mk (by with_reducible assumption))
    | split)
theorem good_Chan_armRefuse {kc : Ch} (c : Chan) (h_c : c.Good kc) : (Chan.armRefuse c).Good kc := by
  unfold Chan.armRefuse
  repeat' (first
    | with_reducible assumption
    | with_reducible apply good_Chan_p
    | with_reducible apply good_Dev_p
    | with_reducible apply good_foldl
    | with_reducible apply goodD_foldl
    | with_reducible apply goodM_foldl
    | with_reducible apply good_Chan_inv
    | with_reducible apply good_Chan_invNil
    | (with_reducible exact good_mk (by with_reducible assumption))
    | (with_reducible exact goodD_mk (by with_reducible assumption))
    | split)
theorem good_Chan_armStep {kc : Ch} (c : Chan) (st : ArmStep) (h_c : c.Good kc) : (Chan.armStep c st).Good kc := by
  unfold Chan.armStep
  repeat' (first
    | with_reducible assumption
    | with_reducible apply good_Chan_onCtl)
theorem good_Chan_armClose {kc : Ch} (c : Chan) (n : Nat) (h_c : c.Good kc) : (Chan.armClose c n).Good kc := by
  unfold Chan.armClose
  repeat' (first
    | with_reducible assumption
    | with_reducible apply good_Chan_onCtl
    | with_reducible apply good_Chan_setCdrv)
theorem good_Chan_preReport {kc : Ch} (c : Chan) (h_c : c.Good kc) : (Chan.preReport c).Good kc := by
  unfold Chan.preReport
  repeat' (first
    | with_reducible assumption
    | with_reducible apply good_Chan_pi
    | with_reducible apply good_Chan_p
    | with_reducible apply good_Dev_p
    | with_reducible apply good_foldl
    | with_reducible apply goodD_foldl
    | with_reducible apply goodM_foldl
    | with_reducible apply good_Chan_inv
    | with_reducible apply good_Chan_invNil
    | (with_reducible exact good_mk (by with_reducible assumption))
    | (with_reducible exact goodD_mk (by with_reducible assumption))
    | split)
theorem good_Chan_preCharge {kc : Ch} (c : Chan) (h_c : c.Good kc) : (Chan.preCharge c).Good kc := by
  unfold Chan.preCharge
  repeat' (first
    | with_reducible assumption
    | with_reducible apply good_Chan_armStep
    | with_reducible apply good_Chan_onMsio
    | with_reducible apply good_Chan_p
    | with_reducible apply good_Dev_p
    | with_reducible apply good_Chan_armClose
    | with_reducible apply good_foldl
    | with_reducible apply goodD_foldl
    | with_reducible apply goodM_foldl
    | with_reducible apply good_Chan_inv
    | with_reducible apply good_Chan_invNil
    | (with_reducible exact good_mk (by with_reducible assumption))
    | (with_reducible exact goodD_mk (by with_reducible assumption))
    | split)
theorem good_Chan_preStart {kc : Ch} (c : Chan) (h_c : c.Good kc) : (Chan.preStart c).Good kc := by
  unfold Chan.preStart
  repeat' (first
    | with_reducible assumption
    | with_reducible apply good_Chan_armStep
    | with_reducible apply good_Chan_p
    | with_reducible apply good_Dev_p
    | with_reducible apply good_Chan_armClose
    | with_reducible apply good_Chan_preCharge
    | with_reducible apply good_foldl
    | with_reducible apply goodD_foldl
    | with_reducible apply goodM_foldl
    | with_reducible apply good_Chan_inv
    | with_reducible apply good_Chan_invNil
    | (with_reducible exact good_mk (by with_reducible assumption))
    | (with_reducible exact goodD_mk (by with_reducible assumption))
    | split)
theorem good_Chan_preCompare {kc : Ch} (c : Chan) (h_c : c.Good kc) : (Chan.preCompare c).Good kc := by
  unfold Chan.preCompare
  repeat' (first
    | with_reducible assumption
    | with_reducible apply good_Chan_preReport
    | with_reducible apply good_Chan_armStep
    | with_reducible apply good_Chan_p
    | with_reducible apply good_Dev_p
    | with_reducible apply good_Chan_armClose
    | with_reducible apply good_foldl
    | with_reducible apply goodD_foldl
    | with_reducible apply goodM_foldl
    | with_reducible apply good_Chan_inv
    | with_reducible apply good_Chan_invNil
    | (with_reducible exact good_mk (by with_reducible assumption))
    | (with_reducible exact goodD_mk (by with_reducible assumption))
    | split
    | (intro _)
    | (extract_lets +onlyGivenNames x; first | (refine good_use (x := x) ?_ (fun hx => ?_)) | (refine good_use (x := x.1) ?_ (fun hx => ?_)) | (refine (have hx : Dev.Good x := ?_; ?_)) | (refine (have hx : Dev.Good x.1 := ?_; ?_)) | (refine (have hx : Mach.Good x := ?_; ?_)) | (refine (have hx : Mach.Good x.1 := ?_; ?_)) | (refine (have hx : Mach.Good x.m := ?_; ?_)) | clear_value x))
theorem good_Chan_armAdvance {kc : Ch} (c : Chan) (h_c : c.Good kc) : (Chan.armAdvance c).Good kc := by
  unfold Chan.armAdvance
  repeat' (first
    | with_reducible assumption
    | with_reducible apply good_Chan_preCharge
    | with_reducible apply good_Chan_armStep
    | with_reducible apply good_Chan_onCtl
    | with_reducible apply good_Chan_setCdrv
    | with_reducible apply good_Chan_p
    | with_reducible apply good_Dev_p
    | with_reducible apply good_foldl
    | with_reducible apply goodD_foldl
    | with_reducible apply goodM_foldl
    | with_reducible apply good_Chan_inv
    | with_reducible apply good_Chan_invNil
    | (with_reducible exact good_mk (by with_reducible assumption))
    | (with_reducible exact goodD_mk (by with_reducible assumption))
    | split)
theorem good_Chan_legSet {kc : Ch} (c : Chan) (high : Bool) (leg : Nat) (origin : Fld) (h_c : c.Good kc) : (Chan.legSet c high leg origin).Good kc := by
  unfold Chan.legSet
  repeat' (first
    | with_reducible assumption
    | with_reducible apply good_Chan_pb
    | with_reducible apply good_Dev_pb
    | with_reducible apply good_Chan_p
    | with_reducible apply good_Dev_p
    | with_reducible apply good_Chan_reselect
    | with_reducible apply good_Chan_transCheck
    | with_reducible apply good_foldl
    | with_reducible apply goodD_foldl
    | with_reducible apply goodM_foldl
    | with_reducible apply good_Chan_inv
    | with_reducible apply good_Chan_invNil
    | (with_reducible exact good_mk (by with_reducible assumption))
    | (with_reducible exact goodD_mk (by with_reducible assumption))
    | split
    | (intro _)
    | (extract_lets +onlyGivenNames x; first | (refine good_use (x := x) ?_ (fun hx => ?_)) | (refine good_use (x := x.1) ?_ (fun hx => ?_)) | (refine (have hx : Dev.Good x := ?_; ?_)) | (refine (have hx : Dev.Good x.1 := ?_; ?_)) | (refine (have hx : Mach.Good x := ?_; ?_)) | (refine (have hx : Mach.Good x.1 := ?_; ?_)) | (refine (have hx : Mach.Good x.m := ?_; ?_)) | clear_value x))
theorem good_Chan_legClear {kc : Ch} (c : Chan) (h_c : c.Good kc) : (Chan.legClear c).Good kc := by
  unfold Chan.legClear
  repeat' (first
    | with_reducible assumption
    | with_reducible apply good_Chan_wr
    | with_reducible apply good_Dev_wr
    | with_reducible apply good_Chan_p
    | with_reducible apply good_Dev_p
    | with_reducible apply good_Chan_reselect
    | with_reducible apply good_Chan_transCheck
    | with_reducible apply good_foldl
    | with_reducible apply goodD_foldl
    | with_reducible apply goodM_foldl
    | with_reducible apply good_Chan_inv
    | with_reducible apply good_Chan_invNil
    | (with_reducible exact good_mk (by with_reducible assumption))
    | (with_reducible exact goodD_mk (by with_reducible assumption))
    | split)
theorem good_Chan_onSkim {kc : Ch} (c : Chan) (f : Skim → Skim) (h_c : c.Good kc) : (Chan.onSkim c f).Good kc := by
  unfold Chan.onSkim
  repeat' (first
    | with_reducible assumption
    | with_reducible apply good_foldl
    | with_reducible apply goodD_foldl
    | with_reducible apply goodM_foldl
    | with_reducible apply good_Chan_inv
    | with_reducible apply good_Chan_invNil
    | (with_reducible exact good_mk (by with_reducible assumption)))
theorem good_Chan_skimIdle {kc : Ch} (c : Chan) (h_c : c.Good kc) : (Chan.skimIdle c).Good kc := by
  unfold Chan.skimIdle
  repeat' (first
    | with_reducible assumption
    | with_reducible apply good_Chan_onSkim
    | with_reducible apply good_Chan_p)
theorem good_Chan_skimAbort {kc : Ch} (c : Chan) (h_c : c.Good kc) : (Chan.skimAbort c).Good kc := by
  unfold Chan.skimAbort
  repeat' (first
    | with_reducible assumption
    | with_reducible apply good_Chan_skimIdle
    | with_reducible apply good_Chan_onSkim
    | with_reducible apply good_Chan_satInc
    | with_reducible apply good_Dev_satInc
    | with_reducible apply good_Chan_p
    | with_reducible apply good_Dev_p
    | with_reducible apply good_Chan_raise
    | with_reducible apply good_Dev_raise
    | with_reducible apply good_foldl
    | with_reducible apply goodD_foldl
    | with_reducible apply goodM_foldl
    | with_reducible apply good_Chan_inv
    | with_reducible apply good_Chan_invNil
    | (with_reducible exact good_mk (by with_reducible assumption))
    | (with_reducible exact goodD_mk (by with_reducible assumption))
    | split)
theorem good_Chan_skimAbortIf {kc : Ch} (c : Chan) (cls : Nat) (q : Nat → Bool) (h_c : c.Good kc) : (Chan.skimAbortIf c cls q).Good kc := by
  unfold Chan.skimAbortIf
  repeat' (first
    | with_reducible assumption
    | with_reducible apply good_Chan_skimAbort
    | with_reducible apply good_foldl
    | with_reducible apply goodD_foldl
    | with_reducible apply goodM_foldl
    | with_reducible apply good_Chan_inv
    | with_reducible apply good_Chan_invNil
    | (with_reducible exact good_mk (by with_reducible assumption))
    | (with_reducible exact goodD_mk (by with_reducible assumption))
    | split)
theorem good_Chan_onXchk {kc : Ch} (c : Chan) (f : Xchk → Xchk) (h_c : c.Good kc) : (Chan.onXchk c f).Good kc := by
  unfold Chan.onXchk
  repeat' (first
    | with_reducible assumption
    | with_reducible apply good_foldl
    | with_reducible apply goodD_foldl
    | with_reducible apply goodM_foldl
    | with_reducible apply good_Chan_inv
    | with_reducible apply good_Chan_invNil
    | (with_reducible exact good_mk (by with_reducible assumption)))
theorem good_Chan_onSinc {kc : Ch} (c : Chan) (f : Sinc → Sinc) (h_c : c.Good kc) : (Chan.onSinc c f).Good kc := by
  unfold Chan.onSinc
  repeat' (first
    | with_reducible assumption
    | with_reducible apply good_foldl
    | with_reducible apply goodD_foldl
    | with_reducible apply goodM_foldl
    | with_reducible apply good_Chan_inv
    | with_reducible apply good_Chan_invNil
    | (with_reducible exact good_mk (by with_reducible assumption)))
theorem good_Chan_xcShow {kc : Ch} (c : Chan) (h_c : c.Good kc) : (Chan.xcShow c).Good kc := by
  unfold Chan.xcShow
  repeat' (first
    | with_reducible assumption
    | with_reducible apply good_Chan_p)
theorem good_Chan_priSample {kc : Ch} (c : Chan) (r : BusRes) (k : Nat) (h_c : c.Good kc) : (Chan.priSample c r k).Good kc := by
  unfold Chan.priSample
  repeat' (first
    | with_reducible assumption
    | with_reducible apply good_Res_ok
    | with_reducible apply good_Chan_onXchk
    | with_reducible apply good_Chan_xcShow
    | with_reducible apply good_foldl
    | with_reducible apply goodD_foldl
    | with_reducible apply goodM_foldl
    | with_reducible apply good_Chan_inv
    | with_reducible apply good_Chan_invNil
    | (with_reducible exact good_mk (by with_reducible assumption))
    | (with_reducible exact goodD_mk (by with_reducible assumption))
    | split)
theorem good_Chan_dclCompare {kc : Ch} (c : Chan) (v : Int) (p : Int) (h_c : c.Good kc) : (Chan.dclCompare c v p).Good kc := by
  unfold Chan.dclCompare
  repeat' (first
    | with_reducible assumption
    | with_reducible apply good_Chan_p
    | with_reducible apply good_Dev_p
    | with_reducible apply good_Chan_onXchk
    | with_reducible apply good_Chan_raise
    | with_reducible apply good_Dev_raise
    | with_reducible apply good_Chan_clear
    | with_reducible apply good_Dev_clear
    | with_reducible apply good_foldl
    | with_reducible apply goodD_foldl
    | with_reducible apply goodM_foldl
    | with_reducible apply good_Chan_inv
    | with_reducible apply good_Chan_invNil
    | (with_reducible exact good_mk (by with_reducible assumption))
    | (with_reducible exact goodD_mk (by with_reducible assumption))
    | split
    | (intro _)
    | (extract_lets +onlyGivenNames x; first | (refine good_use (x := x) ?_ (fun hx => ?_)) | (refine good_use (x := x.1) ?_ (fun hx => ?_)) | (refine (have hx : Dev.Good x := ?_; ?_)) | (refine (have hx : Dev.Good x.1 := ?_; ?_)) | (refine (have hx : Mach.Good x := ?_; ?_)) | (refine (have hx : Mach.Good x.1 := ?_; ?_)) | (refine (have hx : Mach.Good x.m := ?_; ?_)) | clear_value x))
theorem good_Chan_dclSample {kc : Ch} (c : Chan) (r : BusRes) (h_c : c.Good kc) : (Chan.dclSample c r).Good kc := by
  unfold Chan.dclSample
  repeat' (first
    | with_reducible assumption
    | with_reducible apply good_Chan_onXchk
    | with_reducible apply good_Chan_dclCompare
    | with_reducible apply good_foldl
    | with_reducible apply goodD_foldl
    | with_reducible apply goodM_foldl
    | with_reducible apply good_Chan_inv
    | with_reducible apply good_Chan_invNil
    | (with_reducible exact good_mk (by with_reducible assumption))
    | (with_reducible exact goodD_mk (by with_reducible assumption))
    | split
    | (intro _)
    | (extract_lets +onlyGivenNames x; first | (refine good_use (x := x) ?_ (fun hx => ?_)) | (refine good_use (x := x.1) ?_ (fun hx => ?_)) | (refine (have hx : Dev.Good x := ?_; ?_)) | (refine (have hx : Dev.Good x.1 := ?_; ?_)) | (refine (have hx : Mach.Good x := ?_; ?_)) | (refine (have hx : Mach.Good x.1 := ?_; ?_)) | (refine (have hx : Mach.Good x.m := ?_; ?_)) | clear_value x))
theorem good_Chan_resJudge {kc : Ch} (c : Chan) (s : Src) (out : Bool) (n : Nat) (h_c : c.Good kc) : (Chan.resJudge c s out n).Good kc := by
  unfold Chan.resJudge
  repeat' (first
    | with_reducible assumption
    | with_reducible apply good_Chan_raise
    | with_reducible apply good_Dev_raise
    | with_reducible apply good_Chan_clear
    | with_reducible apply good_Dev_clear
    | with_reducible apply good_foldl
    | with_reducible apply goodD_foldl
    | with_reducible apply goodM_foldl
    | with_reducible apply good_Chan_inv
    | with_reducible apply good_Chan_invNil
    | (with_reducible exact good_mk (by with_reducible assumption))
    | (with_reducible exact goodD_mk (by with_reducible assumption))
    | split)
theorem good_Chan_demod {kc : Ch} (c : Chan) (sn : Int) (cs : Int) (h_c : c.Good kc) : (Chan.demod c sn cs).Good kc := by
  unfold Chan.demod
  repeat' (first
    | with_reducible assumption
    | with_reducible apply good_Chan_onXchk
    | with_reducible apply good_Chan_resJudge)
theorem good_Chan_resSample {kc : Ch} (c : Chan) (r : BusRes) (h_c : c.Good kc) : (Chan.resSample c r).Good kc := by
  unfold Chan.resSample
  repeat' (first
    | with_reducible assumption
    | with_reducible apply good_Chan_onXchk
    | with_reducible apply good_Chan_demod
    | with_reducible apply good_foldl
    | with_reducible apply goodD_foldl
    | with_reducible apply goodM_foldl
    | with_reducible apply good_Chan_inv
    | with_reducible apply good_Chan_invNil
    | (with_reducible exact good_mk (by with_reducible assumption))
    | (with_reducible exact goodD_mk (by with_reducible assumption))
    | split
    | (intro _)
    | (extract_lets +onlyGivenNames x; first | (refine good_use (x := x) ?_ (fun hx => ?_)) | (refine good_use (x := x.1) ?_ (fun hx => ?_)) | (refine (have hx : Dev.Good x := ?_; ?_)) | (refine (have hx : Dev.Good x.1 := ?_; ?_)) | (refine (have hx : Mach.Good x := ?_; ?_)) | (refine (have hx : Mach.Good x.1 := ?_; ?_)) | (refine (have hx : Mach.Good x.m := ?_; ?_)) | clear_value x))
theorem good_Chan_secEval {kc : Ch} (c : Chan) (h_c : c.Good kc) : (Chan.secEval c).Good kc := by
  unfold Chan.secEval
  repeat' (first
    | with_reducible assumption
    | with_reducible apply good_Chan_xcShow
    | with_reducible apply good_Chan_follow)
theorem good_Chan_onObs {kc : Ch} (c : Chan) (f : Obs → Obs) (h_c : c.Good kc) : (Chan.onObs c f).Good kc := by
  unfold Chan.onObs
  repeat' (first
    | with_reducible assumption
    | with_reducible apply good_foldl
    | with_reducible apply goodD_foldl
    | with_reducible apply goodM_foldl
    | with_reducible apply good_Chan_inv
    | with_reducible apply good_Chan_invNil
    | (with_reducible exact good_mk (by with_reducible assumption)))
theorem good_Chan_tmCurrent {kc : Ch} (c : Chan) (cur : List Int) (pri : Bool) (h_c : c.Good kc) : (Chan.tmCurrent c cur pri).Good kc := by
  unfold Chan.tmCurrent
  repeat' (first
    | with_reducible assumption
    | with_reducible apply good_Chan_onObs)
theorem good_Chan_tmSinc {kc : Ch} (c : Chan) (n : Nat) (h_c : c.Good kc) : (Chan.tmSinc c n).Good kc := by
  unfold Chan.tmSinc
  repeat' (first
    | with_reducible assumption
    | with_reducible apply good_Chan_tmCurrent
    | with_reducible apply good_foldl
    | with_reducible apply goodD_foldl
    | with_reducible apply goodM_foldl
    | with_reducible apply good_Chan_inv
    | with_reducible apply good_Chan_invNil
    | (with_reducible exact good_mk (by with_reducible assumption))
    | (with_reducible exact goodD_mk (by with_reducible assumption))
    | split)
theorem good_Chan_secSample {kc : Ch} (c : Chan) (n : Nat) (t : Int) (v : Int) (h_c : c.Good kc) : (Chan.secSample c n t v).Good kc := by
  unfold Chan.secSample
  repeat' (first
    | with_reducible assumption
    | with_reducible apply good_Chan_each
    | with_reducible apply good_Dev_each
    | with_reducible apply good_Chan_onXchk
    | with_reducible apply good_Mach_take
    | with_reducible apply good_Chan_tmSinc
    | with_reducible apply good_foldl
    | with_reducible apply goodD_foldl
    | with_reducible apply goodM_foldl
    | with_reducible apply good_Chan_inv
    | with_reducible apply good_Chan_invNil
    | (with_reducible exact good_mk (by with_reducible assumption))
    | (with_reducible exact goodD_mk (by with_reducible assumption))
    | split
    | (intro _))
theorem good_Chan_primerPhase {kc : Ch} (c : Chan) (k : Nat) (h_c : c.Good kc) : (Chan.primerPhase c k).Good kc := by
  unfold Chan.primerPhase
  repeat' (first
    | with_reducible assumption
    | with_reducible apply good_Chan_onMod)
theorem good_Chan_primerDone {kc : Ch} (c : Chan) (h_c : c.Good kc) : (Chan.primerDone c).Good kc := by
  unfold Chan.primerDone
  repeat' (first
    | with_reducible assumption
    | with_reducible apply good_Chan_onMod
    | with_reducible apply good_Chan_p)
theorem good_Chan_primerStart {kc : Ch} (c : Chan) (h_c : c.Good kc) : (Chan.primerStart c).Good kc := by
  unfold Chan.primerStart
  repeat' (first
    | with_reducible assumption
    | with_reducible apply good_Chan_wr
    | with_reducible apply good_Dev_wr
    | with_reducible apply good_Chan_p
    | with_reducible apply good_Dev_p
    | with_reducible apply good_Chan_primerPhase
    | with_reducible apply good_Chan_primerDone
    | with_reducible apply good_Chan_armRefuse
    | with_reducible apply good_Chan_raise
    | with_reducible apply good_Dev_raise
    | with_reducible apply good_Chan_armFail
    | with_reducible apply good_foldl
    | with_reducible apply goodD_foldl
    | with_reducible apply goodM_foldl
    | with_reducible apply good_Chan_inv
    | with_reducible apply good_Chan_invNil
    | (with_reducible exact good_mk (by with_reducible assumption))
    | (with_reducible exact goodD_mk (by with_reducible assumption))
    | split)
theorem good_doPrimerReq {kc : Ch} (c : Chan) (h_c : c.Good kc) : (doPrimerReq c).Good kc := by
  unfold doPrimerReq
  repeat' (first
    | with_reducible assumption
    | with_reducible apply good_Chan_p
    | with_reducible apply good_Dev_p
    | with_reducible apply good_Chan_primerStart
    | with_reducible apply good_foldl
    | with_reducible apply goodD_foldl
    | with_reducible apply goodM_foldl
    | with_reducible apply good_Chan_inv
    | with_reducible apply good_Chan_invNil
    | (with_reducible exact good_mk (by with_reducible assumption))
    | (with_reducible exact goodD_mk (by with_reducible assumption))
    | split)
theorem good_doPrimerReading {kc : Ch} (vl : Int) (vh : Int) (ret : Int) (c : Chan) (h_c : c.Good kc) : (doPrimerReading vl vh ret c).Good kc := by
  unfold doPrimerReading
  repeat' (first
    | with_reducible assumption
    | with_reducible apply good_Chan_p
    | with_reducible apply good_Dev_p
    | with_reducible apply good_Chan_onMod
    | with_reducible apply good_foldl
    | with_reducible apply goodD_foldl
    | with_reducible apply goodM_foldl
    | with_reducible apply good_Chan_inv
    | with_reducible apply good_Chan_invNil
    | (with_reducible exact good_mk (by with_reducible assumption))
    | (with_reducible exact goodD_mk (by with_reducible assumption))
    | split)
theorem good_doPrimerSettleTimeout {kc : Ch} (c : Chan) (h_c : c.Good kc) : (doPrimerSettleTimeout c).Good kc := by
  unfold doPrimerSettleTimeout
  repeat' (first
    | with_reducible assumption
    | with_reducible apply good_Chan_p
    | with_reducible apply good_Dev_p
    | with_reducible apply good_Chan_onMod
    | with_reducible apply good_Chan_pb
    | with_reducible apply good_Dev_pb
    | with_reducible apply good_foldl
    | with_reducible apply goodD_foldl
    | with_reducible apply goodM_foldl
    | with_reducible apply good_Chan_inv
    | with_reducible apply good_Chan_invNil
    | (with_reducible exact good_mk (by with_reducible assumption))
    | (with_reducible exact goodD_mk (by with_reducible assumption))
    | split)
theorem good_doPrimerAverageEnd {kc : Ch} (c : Chan) (h_c : c.Good kc) : (doPrimerAverageEnd c).Good kc := by
  unfold doPrimerAverageEnd
  repeat' (first
    | with_reducible assumption
    | with_reducible apply good_Chan_p
    | with_reducible apply good_Dev_p
    | with_reducible apply good_Chan_pi
    | with_reducible apply good_Chan_pb
    | with_reducible apply good_Dev_pb
    | with_reducible apply good_Chan_primerPhase
    | with_reducible apply good_Chan_onMod
    | with_reducible apply good_foldl
    | with_reducible apply goodD_foldl
    | with_reducible apply goodM_foldl
    | with_reducible apply good_Chan_inv
    | with_reducible apply good_Chan_invNil
    | (with_reducible exact good_mk (by with_reducible assumption))
    | (with_reducible exact goodD_mk (by with_reducible assumption))
    | split
    | (intro _)
    | (extract_lets +onlyGivenNames x; first | (refine good_use (x := x) ?_ (fun hx => ?_)) | (refine good_use (x := x.1) ?_ (fun hx => ?_)) | (refine (have hx : Dev.Good x := ?_; ?_)) | (refine (have hx : Dev.Good x.1 := ?_; ?_)) | (refine (have hx : Mach.Good x := ?_; ?_)) | (refine (have hx : Mach.Good x.1 := ?_; ?_)) | (refine (have hx : Mach.Good x.m := ?_; ?_)) | clear_value x))
theorem good_Chan_primerLeg {kc : Ch} (c : Chan) (k : Nat) (h_c : c.Good kc) : (Chan.primerLeg c k).Good kc := by
  unfold Chan.primerLeg
  repeat' (first
    | with_reducible assumption
    | with_reducible apply good_Chan_legSet
    | with_reducible apply good_foldl
    | with_reducible apply goodD_foldl
    | with_reducible apply goodM_foldl
    | with_reducible apply good_Chan_inv
    | with_reducible apply good_Chan_invNil
    | (with_reducible exact good_mk (by with_reducible assumption))
    | (with_reducible exact goodD_mk (by with_reducible assumption))
    | split
    | (intro _)
    | (extract_lets +onlyGivenNames x; first | (refine good_use (x := x) ?_ (fun hx => ?_)) | (refine good_use (x := x.1) ?_ (fun hx => ?_)) | (refine (have hx : Dev.Good x := ?_; ?_)) | (refine (have hx : Dev.Good x.1 := ?_; ?_)) | (refine (have hx : Mach.Good x := ?_; ?_)) | (refine (have hx : Mach.Good x.1 := ?_; ?_)) | (refine (have hx : Mach.Good x.m := ?_; ?_)) | clear_value x))
theorem good_doPrimerTestEnd {kc : Ch} (c : Chan) (h_c : c.Good kc) : (doPrimerTestEnd c).Good kc := by
  unfold doPrimerTestEnd
  repeat' (first
    | with_reducible assumption
    | with_reducible apply good_Chan_p
    | with_reducible apply good_Dev_p
    | with_reducible apply good_Chan_primerDone
    | with_reducible apply good_Chan_legClear
    | with_reducible apply good_Chan_armStep
    | with_reducible apply good_Chan_preStart
    | with_reducible apply good_Chan_armRefuse
    | with_reducible apply good_Chan_each
    | with_reducible apply good_Dev_each
    | with_reducible apply good_Chan_primerLeg
    | with_reducible apply good_Chan_raise
    | with_reducible apply good_Dev_raise
    | with_reducible apply good_Chan_armFail
    | with_reducible apply good_foldl
    | with_reducible apply goodD_foldl
    | with_reducible apply goodM_foldl
    | with_reducible apply good_Chan_inv
    | with_reducible apply good_Chan_invNil
    | (with_reducible exact good_mk (by with_reducible assumption))
    | (with_reducible exact goodD_mk (by with_reducible assumption))
    | split
    | (intro _)
    | (extract_lets +onlyGivenNames x; first | (refine good_use (x := x) ?_ (fun hx => ?_)) | (refine good_use (x := x.1) ?_ (fun hx => ?_)) | (refine (have hx : Dev.Good x := ?_; ?_)) | (refine (have hx : Dev.Good x.1 := ?_; ?_)) | (refine (have hx : Mach.Good x := ?_; ?_)) | (refine (have hx : Mach.Good x.1 := ?_; ?_)) | (refine (have hx : Mach.Good x.m := ?_; ?_)) | clear_value x))
theorem good_Chan_feedbackWaits {kc : Ch} (c : Chan) (h_c : c.Good kc) : (Chan.feedbackWaits c).Good kc := by
  unfold Chan.feedbackWaits
  repeat' (first
    | with_reducible assumption
    | with_reducible apply good_Chan_armAdvance
    | with_reducible apply good_Chan_dchgTry)
theorem good_Chan_cfbRead {kc : Ch} (c : Chan) (n : Nat) (h_c : c.Good kc) : (Chan.cfbRead c n).Good kc := by
  unfold Chan.cfbRead
  repeat' (first
    | with_reducible assumption
    | with_reducible apply good_Chan_pb
    | with_reducible apply good_Dev_pb
    | with_reducible apply good_Chan_onMsio
    | with_reducible apply good_Chan_onLife
    | with_reducible apply good_Chan_cmpCont
    | with_reducible apply good_foldl
    | with_reducible apply goodD_foldl
    | with_reducible apply goodM_foldl
    | with_reducible apply good_Chan_inv
    | with_reducible apply good_Chan_invNil
    | (with_reducible exact good_mk (by with_reducible assumption))
    | (with_reducible exact goodD_mk (by with_reducible assumption))
    | split
    | (intro _)
    | (extract_lets +onlyGivenNames x; first | (refine good_use (x := x) ?_ (fun hx => ?_)) | (refine good_use (x := x.1) ?_ (fun hx => ?_)) | (refine (have hx : Dev.Good x := ?_; ?_)) | (refine (have hx : Dev.Good x.1 := ?_; ?_)) | (refine (have hx : Mach.Good x := ?_; ?_)) | (refine (have hx : Mach.Good x.1 := ?_; ?_)) | (refine (have hx : Mach.Good x.m := ?_; ?_)) | clear_value x))
theorem good_Chan_windCfb {kc : Ch} (c : Chan) (h_c : c.Good kc) : (Chan.windCfb c).Good kc := by
  unfold Chan.windCfb
  repeat' (first
    | with_reducible assumption
    | with_reducible apply good_Chan_windAbort
    | with_reducible apply good_Chan_reselect
    | with_reducible apply good_Chan_transCheck
    | with_reducible apply good_foldl
    | with_reducible apply goodD_foldl
    | with_reducible apply goodM_foldl
    | with_reducible apply good_Chan_inv
    | with_reducible apply good_Chan_invNil
    | (with_reducible exact good_mk (by with_reducible assumption))
    | (with_reducible exact goodD_mk (by with_reducible assumption))
    | split)
theorem good_doCfbChange {kc : Ch} (n : Nat) (high : Bool) (c : Chan) (h_c : c.Good kc) : (doCfbChange n high c).Good kc := by
  unfold doCfbChange
  repeat' (first
    | with_reducible assumption
    | with_reducible apply good_Chan_onMsio
    | with_reducible apply good_Chan_cfbRead
    | with_reducible apply good_Chan_windCfb
    | with_reducible apply good_Chan_feedbackWaits
    | with_reducible apply good_Chan_transCheck
    | with_reducible apply good_foldl
    | with_reducible apply goodD_foldl
    | with_reducible apply goodM_foldl
    | with_reducible apply good_Chan_inv
    | with_reducible apply good_Chan_invNil
    | (with_reducible exact good_mk (by with_reducible assumption))
    | (with_reducible exact goodD_mk (by with_reducible assumption))
    | split)
theorem good_Chan_weldOpen {kc : Ch} (c : Chan) (k : Nat) (h_c : c.Good kc) : (Chan.weldOpen c k).Good kc := by
  unfold Chan.weldOpen
  repeat' (first
    | with_reducible assumption
    | with_reducible apply good_Chan_onMsio
    | with_reducible apply good_Chan_clear
    | with_reducible apply good_Dev_clear
    | with_reducible apply good_foldl
    | with_reducible apply goodD_foldl
    | with_reducible apply goodM_foldl
    | with_reducible apply good_Chan_inv
    | with_reducible apply good_Chan_invNil
    | (with_reducible exact good_mk (by with_reducible assumption))
    | (with_reducible exact goodD_mk (by with_reducible assumption))
    | split
    | (intro _)
    | (extract_lets +onlyGivenNames x; first | (refine good_use (x := x) ?_ (fun hx => ?_)) | (refine good_use (x := x.1) ?_ (fun hx => ?_)) | (refine (have hx : Dev.Good x := ?_; ?_)) | (refine (have hx : Dev.Good x.1 := ?_; ?_)) | (refine (have hx : Mach.Good x := ?_; ?_)) | (refine (have hx : Mach.Good x.1 := ?_; ?_)) | (refine (have hx : Mach.Good x.m := ?_; ?_)) | clear_value x))
theorem good_Chan_contRaise {kc : Ch} (c : Chan) (k : Nat) (h_c : c.Good kc) : (Chan.contRaise c k).Good kc := by
  unfold Chan.contRaise
  repeat' (first
    | with_reducible assumption
    | with_reducible apply good_Chan_onMsio
    | with_reducible apply good_Chan_raise
    | with_reducible apply good_Dev_raise
    | with_reducible apply good_Chan_pb
    | with_reducible apply good_Dev_pb
    | with_reducible apply good_foldl
    | with_reducible apply goodD_foldl
    | with_reducible apply goodM_foldl
    | with_reducible apply good_Chan_inv
    | with_reducible apply good_Chan_invNil
    | (with_reducible exact good_mk (by with_reducible assumption))
    | (with_reducible exact goodD_mk (by with_reducible assumption))
    | split)
theorem good_doContactorDebounceExpiry {kc : Ch} (n : Nat) (c : Chan) (h_c : c.Good kc) : (doContactorDebounceExpiry n c).Good kc := by
  unfold doContactorDebounceExpiry
  repeat' (first
    | with_reducible assumption
    | with_reducible apply good_Chan_weldOpen
    | with_reducible apply good_Chan_armRefuse
    | with_reducible apply good_Chan_contRaise
    | with_reducible apply good_Chan_armFail
    | with_reducible apply good_Chan_feedbackWaits
    | with_reducible apply good_foldl
    | with_reducible apply goodD_foldl
    | with_reducible apply goodM_foldl
    | with_reducible apply good_Chan_inv
    | with_reducible apply good_Chan_invNil
    | (with_reducible exact good_mk (by with_reducible assumption))
    | (with_reducible exact goodD_mk (by with_reducible assumption))
    | split
    | (intro _)
    | (extract_lets +onlyGivenNames x; first | (refine good_use (x := x) ?_ (fun hx => ?_)) | (refine good_use (x := x.1) ?_ (fun hx => ?_)) | (refine (have hx : Dev.Good x := ?_; ?_)) | (refine (have hx : Dev.Good x.1 := ?_; ?_)) | (refine (have hx : Mach.Good x := ?_; ?_)) | (refine (have hx : Mach.Good x.1 := ?_; ?_)) | (refine (have hx : Mach.Good x.m := ?_; ?_)) | clear_value x))
theorem good_doPrechargeTimeout {kc : Ch} (c : Chan) (h_c : c.Good kc) : (doPrechargeTimeout c).Good kc := by
  unfold doPrechargeTimeout
  repeat' (first
    | with_reducible assumption
    | with_reducible apply good_Chan_preReport
    | with_reducible apply good_Chan_p
    | with_reducible apply good_Dev_p
    | with_reducible apply good_Chan_armRefuse
    | with_reducible apply good_Chan_pulse
    | with_reducible apply good_Dev_pulse
    | with_reducible apply good_Chan_armFail
    | with_reducible apply good_foldl
    | with_reducible apply goodD_foldl
    | with_reducible apply goodM_foldl
    | with_reducible apply good_Chan_inv
    | with_reducible apply good_Chan_invNil
    | (with_reducible exact good_mk (by with_reducible assumption))
    | (with_reducible exact goodD_mk (by with_reducible assumption))
    | split)
theorem good_doWeldClr {kc : Ch} (c : Chan) (h_c : c.Good kc) : (doWeldClr c).Good kc := by
  unfold doWeldClr
  repeat' (first
    | with_reducible assumption
    | with_reducible apply good_Chan_p
    | with_reducible apply good_Dev_p
    | with_reducible apply good_foldl
    | with_reducible apply goodD_foldl
    | with_reducible apply goodM_foldl
    | with_reducible apply good_Chan_inv
    | with_reducible apply good_Chan_invNil
    | (with_reducible exact good_mk (by with_reducible assumption))
    | (with_reducible exact goodD_mk (by with_reducible assumption))
    | split
    | (intro _)
    | (extract_lets +onlyGivenNames x; first | (refine good_use (x := x) ?_ (fun hx => ?_)) | (refine good_use (x := x.1) ?_ (fun hx => ?_)) | (refine (have hx : Dev.Good x := ?_; ?_)) | (refine (have hx : Dev.Good x.1 := ?_; ?_)) | (refine (have hx : Mach.Good x := ?_; ?_)) | (refine (have hx : Mach.Good x.1 := ?_; ?_)) | (refine (have hx : Mach.Good x.m := ?_; ?_)) | clear_value x))
theorem good_doAuxOn {kc : Ch} (c : Chan) (h_c : c.Good kc) : (doAuxOn c).Good kc := by
  unfold doAuxOn
  repeat' (first
    | with_reducible assumption
    | with_reducible apply good_Chan_p
    | with_reducible apply good_Dev_p
    | with_reducible apply good_Chan_setCdrv
    | with_reducible apply good_foldl
    | with_reducible apply goodD_foldl
    | with_reducible apply goodM_foldl
    | with_reducible apply good_Chan_inv
    | with_reducible apply good_Chan_invNil
    | (with_reducible exact good_mk (by with_reducible assumption))
    | (with_reducible exact goodD_mk (by with_reducible assumption))
    | split
    | (intro _)
    | (extract_lets +onlyGivenNames x; first | (refine good_use (x := x) ?_ (fun hx => ?_)) | (refine good_use (x := x.1) ?_ (fun hx => ?_)) | (refine (have hx : Dev.Good x := ?_; ?_)) | (refine (have hx : Dev.Good x.1 := ?_; ?_)) | (refine (have hx : Mach.Good x := ?_; ?_)) | (refine (have hx : Mach.Good x.1 := ?_; ?_)) | (refine (have hx : Mach.Good x.m := ?_; ?_)) | clear_value x))
theorem good_doAuxOff {kc : Ch} (c : Chan) (h_c : c.Good kc) : (doAuxOff c).Good kc := by
  unfold doAuxOff
  repeat' (first
    | with_reducible assumption
    | with_reducible apply good_Chan_p
    | with_reducible apply good_Dev_p
    | with_reducible apply good_Chan_setCdrv
    | with_reducible apply good_foldl
    | with_reducible apply goodD_foldl
    | with_reducible apply goodM_foldl
    | with_reducible apply good_Chan_inv
    | with_reducible apply good_Chan_invNil
    | (with_reducible exact good_mk (by with_reducible assumption))
    | (with_reducible exact goodD_mk (by with_reducible assumption))
    | split
    | (intro _)
    | (extract_lets +onlyGivenNames x; first | (refine good_use (x := x) ?_ (fun hx => ?_)) | (refine good_use (x := x.1) ?_ (fun hx => ?_)) | (refine (have hx : Dev.Good x := ?_; ?_)) | (refine (have hx : Dev.Good x.1 := ?_; ?_)) | (refine (have hx : Mach.Good x := ?_; ?_)) | (refine (have hx : Mach.Good x.1 := ?_; ?_)) | (refine (have hx : Mach.Good x.m := ?_; ?_)) | clear_value x))
theorem good_Chan_guardState {kc : Ch} (c : Chan) (h_c : c.Good kc) : (Chan.guardState c).Good kc := by
  unfold Chan.guardState
  repeat' (first
    | with_reducible assumption
    | with_reducible apply good_Chan_p
    | with_reducible apply good_Dev_p
    | with_reducible apply good_foldl
    | with_reducible apply goodD_foldl
    | with_reducible apply goodM_foldl
    | with_reducible apply good_Chan_inv
    | with_reducible apply good_Chan_invNil
    | (with_reducible exact good_mk (by with_reducible assumption))
    | (with_reducible exact goodD_mk (by with_reducible assumption))
    | split
    | (intro _)
    | (extract_lets +onlyGivenNames x; first | (refine good_use (x := x) ?_ (fun hx => ?_)) | (refine good_use (x := x.1) ?_ (fun hx => ?_)) | (refine (have hx : Dev.Good x := ?_; ?_)) | (refine (have hx : Dev.Good x.1 := ?_; ?_)) | (refine (have hx : Mach.Good x := ?_; ?_)) | (refine (have hx : Mach.Good x.1 := ?_; ?_)) | (refine (have hx : Mach.Good x.m := ?_; ?_)) | clear_value x))
theorem good_Chan_guardEval {kc : Ch} (c : Chan) (h_c : c.Good kc) : (Chan.guardEval c).Good kc := by
  unfold Chan.guardEval
  repeat' (first
    | with_reducible assumption
    | with_reducible apply good_Chan_clear
    | with_reducible apply good_Dev_clear
    | with_reducible apply good_Chan_guardState
    | with_reducible apply good_Chan_p
    | with_reducible apply good_Dev_p
    | with_reducible apply good_Chan_raise
    | with_reducible apply good_Dev_raise
    | with_reducible apply good_foldl
    | with_reducible apply goodD_foldl
    | with_reducible apply goodM_foldl
    | with_reducible apply good_Chan_inv
    | with_reducible apply good_Chan_invNil
    | (with_reducible exact good_mk (by with_reducible assumption))
    | (with_reducible exact goodD_mk (by with_reducible assumption))
    | split)
theorem good_doGuardInputChange {kc : Ch} (g1 : Bool) (g2 : Bool) (c : Chan) (h_c : c.Good kc) : (doGuardInputChange g1 g2 c).Good kc := by
  unfold doGuardInputChange
  repeat' (first
    | with_reducible assumption
    | with_reducible apply good_Chan_p
    | with_reducible apply good_Dev_p
    | with_reducible apply good_Chan_onMsio
    | with_reducible apply good_Chan_guardEval)
theorem good_doGuardDiscTimeout {kc : Ch} (c : Chan) (h_c : c.Good kc) : (doGuardDiscTimeout c).Good kc := by
  unfold doGuardDiscTimeout
  repeat' (first
    | with_reducible assumption
    | with_reducible apply good_Chan_p
    | with_reducible apply good_Dev_p
    | with_reducible apply good_Chan_raise
    | with_reducible apply good_Dev_raise
    | with_reducible apply good_Chan_guardState
    | with_reducible apply good_foldl
    | with_reducible apply goodD_foldl
    | with_reducible apply goodM_foldl
    | with_reducible apply good_Chan_inv
    | with_reducible apply good_Chan_invNil
    | (with_reducible exact good_mk (by with_reducible assumption))
    | (with_reducible exact goodD_mk (by with_reducible assumption))
    | split)
theorem good_Chan_guardTestDue {kc : Ch} (c : Chan) (h_c : c.Good kc) : (Chan.guardTestDue c).Good kc := by
  unfold Chan.guardTestDue
  repeat' (first
    | with_reducible assumption
    | with_reducible apply good_Chan_raise
    | with_reducible apply good_Dev_raise
    | with_reducible apply good_foldl
    | with_reducible apply goodD_foldl
    | with_reducible apply goodM_foldl
    | with_reducible apply good_Chan_inv
    | with_reducible apply good_Chan_invNil
    | (with_reducible exact good_mk (by with_reducible assumption))
    | (with_reducible exact goodD_mk (by with_reducible assumption))
    | split)
theorem good_doAckPressBegin {kc : Ch} (c : Chan) (h_c : c.Good kc) : (doAckPressBegin c).Good kc := by
  unfold doAckPressBegin
  repeat' (first
    | with_reducible assumption
    | with_reducible apply good_Chan_onMsio
    | with_reducible apply good_Chan_p
    | with_reducible apply good_Dev_p
    | with_reducible apply good_foldl
    | with_reducible apply goodD_foldl
    | with_reducible apply goodM_foldl
    | with_reducible apply good_Chan_inv
    | with_reducible apply good_Chan_invNil
    | (with_reducible exact good_mk (by with_reducible assumption))
    | (with_reducible exact goodD_mk (by with_reducible assumption))
    | split)
theorem good_doAckPressEnd {kc : Ch} (c : Chan) (h_c : c.Good kc) : (doAckPressEnd c).Good kc := by
  unfold doAckPressEnd
  repeat' (first
    | with_reducible assumption
    | with_reducible apply good_Res_ok
    | with_reducible apply good_Chan_onMsio
    | with_reducible apply good_Chan_p
    | with_reducible apply good_Dev_p
    | with_reducible apply good_Chan_wrapInc
    | with_reducible apply good_Dev_wrapInc
    | with_reducible apply good_Chan_clear
    | with_reducible apply good_Dev_clear
    | with_reducible apply good_Chan_transCheck
    | with_reducible apply good_foldl
    | with_reducible apply goodD_foldl
    | with_reducible apply goodM_foldl
    | with_reducible apply good_Chan_inv
    | with_reducible apply good_Chan_invNil
    | (with_reducible exact good_mk (by with_reducible assumption))
    | (with_reducible exact goodD_mk (by with_reducible assumption))
    | split
    | (intro _)
    | (extract_lets +onlyGivenNames x; first | (refine good_use (x := x) ?_ (fun hx => ?_)) | (refine good_use (x := x.1) ?_ (fun hx => ?_)) | (refine (have hx : Dev.Good x := ?_; ?_)) | (refine (have hx : Dev.Good x.1 := ?_; ?_)) | (refine (have hx : Mach.Good x := ?_; ?_)) | (refine (have hx : Mach.Good x.1 := ?_; ?_)) | (refine (have hx : Mach.Good x.m := ?_; ?_)) | clear_value x))
theorem good_doAckJammed {kc : Ch} (c : Chan) (h_c : c.Good kc) : (doAckJammed c).Good kc := by
  unfold doAckJammed
  repeat' (first
    | with_reducible assumption
    | with_reducible apply good_Chan_p
    | with_reducible apply good_Dev_p
    | with_reducible apply good_Chan_raise
    | with_reducible apply good_Dev_raise
    | with_reducible apply good_foldl
    | with_reducible apply goodD_foldl
    | with_reducible apply goodM_foldl
    | with_reducible apply good_Chan_inv
    | with_reducible apply good_Chan_invNil
    | (with_reducible exact good_mk (by with_reducible assumption))
    | (with_reducible exact goodD_mk (by with_reducible assumption))
    | split)
theorem good_Chan_auxMode {kc : Ch} (c : Chan) (old : Nat) (h_c : c.Good kc) : (Chan.auxMode c old).Good kc := by
  unfold Chan.auxMode
  repeat' (first
    | with_reducible assumption
    | with_reducible apply good_Chan_setCdrv
    | with_reducible apply good_foldl
    | with_reducible apply goodD_foldl
    | with_reducible apply goodM_foldl
    | with_reducible apply good_Chan_inv
    | with_reducible apply good_Chan_invNil
    | (with_reducible exact good_mk (by with_reducible assumption))
    | (with_reducible exact goodD_mk (by with_reducible assumption))
    | split)
theorem good_Chan_landMsio {kc : Ch} (c : Chan) (old : Nat) (h_c : c.Good kc) : (Chan.landMsio c old).Good kc := by
  unfold Chan.landMsio
  repeat' (first
    | with_reducible assumption
    | with_reducible apply good_Chan_auxMode
    | with_reducible apply good_Chan_each
    | with_reducible apply good_Dev_each
    | with_reducible apply good_Chan_setCdrv
    | with_reducible apply good_Chan_cfbRead
    | with_reducible apply good_Chan_cmpCont
    | with_reducible apply good_Chan_windCfb
    | with_reducible apply good_Chan_guardTestDue
    | with_reducible apply good_Chan_guardEval
    | with_reducible apply good_foldl
    | with_reducible apply goodD_foldl
    | with_reducible apply goodM_foldl
    | with_reducible apply good_Chan_inv
    | with_reducible apply good_Chan_invNil
    | (with_reducible exact good_mk (by with_reducible assumption))
    | (with_reducible exact goodD_mk (by with_reducible assumption))
    | split
    | (intro _))
theorem good_Chan_regenEval {kc : Ch} (c : Chan) (h_c : c.Good kc) : (Chan.regenEval c).Good kc := by
  unfold Chan.regenEval
  repeat' (first
    | with_reducible assumption
    | with_reducible apply good_Chan_follow)
theorem good_Chan_chopEval {kc : Ch} (c : Chan) (h_c : c.Good kc) : (Chan.chopEval c).Good kc := by
  unfold Chan.chopEval
  repeat' (first
    | with_reducible assumption
    | with_reducible apply good_Chan_p
    | with_reducible apply good_Dev_p
    | with_reducible apply good_Chan_onProt
    | with_reducible apply good_Chan_setPair
    | with_reducible apply good_foldl
    | with_reducible apply goodD_foldl
    | with_reducible apply goodM_foldl
    | with_reducible apply good_Chan_inv
    | with_reducible apply good_Chan_invNil
    | (with_reducible exact good_mk (by with_reducible assumption))
    | (with_reducible exact goodD_mk (by with_reducible assumption))
    | split
    | (intro _)
    | (extract_lets +onlyGivenNames x; first | (refine good_use (x := x) ?_ (fun hx => ?_)) | (refine good_use (x := x.1) ?_ (fun hx => ?_)) | (refine (have hx : Dev.Good x := ?_; ?_)) | (refine (have hx : Dev.Good x.1 := ?_; ?_)) | (refine (have hx : Mach.Good x := ?_; ?_)) | (refine (have hx : Mach.Good x.1 := ?_; ?_)) | (refine (have hx : Mach.Good x.m := ?_; ?_)) | clear_value x))
theorem good_Chan_chopFail {kc : Ch} (c : Chan) (cause : Nat) (h_c : c.Good kc) : (Chan.chopFail c cause).Good kc := by
  unfold Chan.chopFail
  repeat' (first
    | with_reducible assumption
    | with_reducible apply good_Chan_p
    | with_reducible apply good_Dev_p
    | with_reducible apply good_Dev_cause
    | with_reducible apply good_Chan_raise
    | with_reducible apply good_Dev_raise
    | with_reducible apply good_Chan_regenEval)
theorem good_doChopProve {kc : Ch} (sc : Nat) (vdsHigh : Bool) (c : Chan) (h_c : c.Good kc) : (doChopProve sc vdsHigh c).Good kc := by
  unfold doChopProve
  repeat' (first
    | with_reducible assumption
    | with_reducible apply good_Chan_onProt
    | with_reducible apply good_Chan_p
    | with_reducible apply good_Dev_p
    | with_reducible apply good_Chan_wrapInc
    | with_reducible apply good_Dev_wrapInc
    | with_reducible apply good_Chan_onLife
    | with_reducible apply good_Chan_clear
    | with_reducible apply good_Dev_clear
    | with_reducible apply good_Chan_regenEval
    | with_reducible apply good_Chan_pulse
    | with_reducible apply good_Dev_pulse
    | with_reducible apply good_Chan_chopFail
    | with_reducible apply good_foldl
    | with_reducible apply goodD_foldl
    | with_reducible apply goodM_foldl
    | with_reducible apply good_Chan_inv
    | with_reducible apply good_Chan_invNil
    | (with_reducible exact good_mk (by with_reducible assumption))
    | (with_reducible exact goodD_mk (by with_reducible assumption))
    | split
    | (intro _)
    | (extract_lets +onlyGivenNames x; first | (refine good_use (x := x) ?_ (fun hx => ?_)) | (refine good_use (x := x.1) ?_ (fun hx => ?_)) | (refine (have hx : Dev.Good x := ?_; ?_)) | (refine (have hx : Dev.Good x.1 := ?_; ?_)) | (refine (have hx : Mach.Good x := ?_; ?_)) | (refine (have hx : Mach.Good x.1 := ?_; ?_)) | (refine (have hx : Mach.Good x.m := ?_; ?_)) | clear_value x))
theorem good_doChopTest {kc : Ch} (c : Chan) (h_c : c.Good kc) : (doChopTest c).Good kc := by
  unfold doChopTest
  repeat' (first
    | with_reducible assumption
    | with_reducible apply good_Chan_p
    | with_reducible apply good_Dev_p
    | with_reducible apply good_Chan_onProt
    | with_reducible apply good_Chan_chopEval
    | with_reducible apply good_foldl
    | with_reducible apply goodD_foldl
    | with_reducible apply goodM_foldl
    | with_reducible apply good_Chan_inv
    | with_reducible apply good_Chan_invNil
    | (with_reducible exact good_mk (by with_reducible assumption))
    | (with_reducible exact goodD_mk (by with_reducible assumption))
    | split)
theorem good_doChopTestPulseEnd {kc : Ch} (c : Chan) (h_c : c.Good kc) : (doChopTestPulseEnd c).Good kc := by
  unfold doChopTestPulseEnd
  repeat' (first
    | with_reducible assumption
    | with_reducible apply good_Chan_onProt
    | with_reducible apply good_Chan_p
    | with_reducible apply good_Dev_p
    | with_reducible apply good_Chan_chopEval
    | with_reducible apply good_foldl
    | with_reducible apply goodD_foldl
    | with_reducible apply goodM_foldl
    | with_reducible apply good_Chan_inv
    | with_reducible apply good_Chan_invNil
    | (with_reducible exact good_mk (by with_reducible assumption))
    | (with_reducible exact goodD_mk (by with_reducible assumption))
    | split
    | (intro _)
    | (extract_lets +onlyGivenNames x; first | (refine good_use (x := x) ?_ (fun hx => ?_)) | (refine good_use (x := x.1) ?_ (fun hx => ?_)) | (refine (have hx : Dev.Good x := ?_; ?_)) | (refine (have hx : Dev.Good x.1 := ?_; ?_)) | (refine (have hx : Mach.Good x := ?_; ?_)) | (refine (have hx : Mach.Good x.1 := ?_; ?_)) | (refine (have hx : Mach.Good x.m := ?_; ?_)) | clear_value x))
theorem good_doDclComparatorChange {kc : Ch} (cmp : Nat) (on : Bool) (c : Chan) (h_c : c.Good kc) : (doDclComparatorChange cmp on c).Good kc := by
  unfold doDclComparatorChange
  repeat' (first
    | with_reducible assumption
    | with_reducible apply good_Chan_skimAbortIf
    | with_reducible apply good_Chan_pb
    | with_reducible apply good_Dev_pb
    | with_reducible apply good_Chan_raise
    | with_reducible apply good_Dev_raise
    | with_reducible apply good_Chan_clear
    | with_reducible apply good_Dev_clear
    | with_reducible apply good_Chan_chopEval
    | with_reducible apply good_Chan_regenEval
    | with_reducible apply good_Chan_when
    | with_reducible apply good_Dev_when
    | with_reducible apply good_Chan_onProt
    | with_reducible apply good_Chan_p
    | with_reducible apply good_Dev_p
    | with_reducible apply good_foldl
    | with_reducible apply goodD_foldl
    | with_reducible apply goodM_foldl
    | with_reducible apply good_Chan_inv
    | with_reducible apply good_Chan_invNil
    | (with_reducible exact good_mk (by with_reducible assumption))
    | (with_reducible exact goodD_mk (by with_reducible assumption))
    | split
    | (intro _))
theorem good_doDclExtTimer {kc : Ch} (c : Chan) (h_c : c.Good kc) : (doDclExtTimer c).Good kc := by
  unfold doDclExtTimer
  repeat' (first
    | with_reducible assumption
    | with_reducible apply good_Chan_raise
    | with_reducible apply good_Dev_raise
    | with_reducible apply good_foldl
    | with_reducible apply goodD_foldl
    | with_reducible apply goodM_foldl
    | with_reducible apply good_Chan_inv
    | with_reducible apply good_Chan_invNil
    | (with_reducible exact good_mk (by with_reducible assumption))
    | (with_reducible exact goodD_mk (by with_reducible assumption))
    | split)
theorem good_Chan_dchgEnd {kc : Ch} (c : Chan) (st : Nat) (h_c : c.Good kc) : (Chan.dchgEnd c st).Good kc := by
  unfold Chan.dchgEnd
  repeat' (first
    | with_reducible assumption
    | with_reducible apply good_Chan_onProt
    | with_reducible apply good_Chan_p
    | with_reducible apply good_Dev_p
    | with_reducible apply good_Chan_setDchgOut
    | with_reducible apply good_Chan_clear
    | with_reducible apply good_Dev_clear
    | with_reducible apply good_foldl
    | with_reducible apply goodD_foldl
    | with_reducible apply goodM_foldl
    | with_reducible apply good_Chan_inv
    | with_reducible apply good_Chan_invNil
    | (with_reducible exact good_mk (by with_reducible assumption))
    | (with_reducible exact goodD_mk (by with_reducible assumption))
    | split)
theorem good_Chan_dchgFail {kc : Ch} (c : Chan) (h_c : c.Good kc) : (Chan.dchgFail c).Good kc := by
  unfold Chan.dchgFail
  repeat' (first
    | with_reducible assumption
    | with_reducible apply good_Chan_dchgEnd
    | with_reducible apply good_Chan_raise)
theorem good_doDchgReq {kc : Ch} (c : Chan) (h_c : c.Good kc) : (doDchgReq c).Good kc := by
  unfold doDchgReq
  repeat' (first
    | with_reducible assumption
    | with_reducible apply good_Chan_p
    | with_reducible apply good_Dev_p
    | with_reducible apply good_Chan_dchgAsk
    | with_reducible apply good_foldl
    | with_reducible apply goodD_foldl
    | with_reducible apply goodM_foldl
    | with_reducible apply good_Chan_inv
    | with_reducible apply good_Chan_invNil
    | (with_reducible exact good_mk (by with_reducible assumption))
    | (with_reducible exact goodD_mk (by with_reducible assumption))
    | split)
theorem good_doDchgCancel {kc : Ch} (c : Chan) (h_c : c.Good kc) : (doDchgCancel c).Good kc := by
  unfold doDchgCancel
  repeat' (first
    | with_reducible assumption
    | with_reducible apply good_Chan_p
    | with_reducible apply good_Dev_p
    | with_reducible apply good_Chan_dchgEnd
    | with_reducible apply good_foldl
    | with_reducible apply goodD_foldl
    | with_reducible apply goodM_foldl
    | with_reducible apply good_Chan_inv
    | with_reducible apply good_Chan_invNil
    | (with_reducible exact good_mk (by with_reducible assumption))
    | (with_reducible exact goodD_mk (by with_reducible assumption))
    | split
    | (intro _)
    | (extract_lets +onlyGivenNames x; first | (refine good_use (x := x) ?_ (fun hx => ?_)) | (refine good_use (x := x.1) ?_ (fun hx => ?_)) | (refine (have hx : Dev.Good x := ?_; ?_)) | (refine (have hx : Dev.Good x.1 := ?_; ?_)) | (refine (have hx : Mach.Good x := ?_; ?_)) | (refine (have hx : Mach.Good x.1 := ?_; ?_)) | (refine (have hx : Mach.Good x.m := ?_; ?_)) | clear_value x))
theorem good_Chan_dchgPinAsk {kc : Ch} (c : Chan) (h_c : c.Good kc) : (Chan.dchgPinAsk c).Good kc := by
  unfold Chan.dchgPinAsk
  repeat' (first
    | with_reducible assumption
    | with_reducible apply good_Chan_dchgAsk
    | with_reducible apply good_Chan_raise)
theorem good_doDchgPin {kc : Ch} (c : Chan) (h_c : c.Good kc) : (doDchgPin c).Good kc := by
  unfold doDchgPin
  repeat' (first
    | with_reducible assumption
    | with_reducible apply good_Chan_onProt
    | with_reducible apply good_Chan_p
    | with_reducible apply good_Dev_p
    | with_reducible apply good_Chan_dchgPinAsk
    | with_reducible apply good_foldl
    | with_reducible apply goodD_foldl
    | with_reducible apply goodM_foldl
    | with_reducible apply good_Chan_inv
    | with_reducible apply good_Chan_invNil
    | (with_reducible exact good_mk (by with_reducible assumption))
    | (with_reducible exact goodD_mk (by with_reducible assumption))
    | split)
theorem good_doDchgPinRelease {kc : Ch} (c : Chan) (h_c : c.Good kc) : (doDchgPinRelease c).Good kc := by
  unfold doDchgPinRelease
  repeat' (first
    | with_reducible assumption
    | with_reducible apply good_Chan_onProt
    | with_reducible apply good_Chan_p
    | with_reducible apply good_Dev_p
    | with_reducible apply good_Chan_clear
    | with_reducible apply good_Dev_clear
    | with_reducible apply good_foldl
    | with_reducible apply goodD_foldl
    | with_reducible apply goodM_foldl
    | with_reducible apply good_Chan_inv
    | with_reducible apply good_Chan_invNil
    | (with_reducible exact good_mk (by with_reducible assumption))
    | (with_reducible exact goodD_mk (by with_reducible assumption))
    | split)
theorem good_doDchgCfbTimeout {kc : Ch} (c : Chan) (h_c : c.Good kc) : (doDchgCfbTimeout c).Good kc := by
  unfold doDchgCfbTimeout
  repeat' (first
    | with_reducible assumption
    | with_reducible apply good_Chan_dchgFail
    | with_reducible apply good_foldl
    | with_reducible apply goodD_foldl
    | with_reducible apply goodM_foldl
    | with_reducible apply good_Chan_inv
    | with_reducible apply good_Chan_invNil
    | (with_reducible exact good_mk (by with_reducible assumption))
    | (with_reducible exact goodD_mk (by with_reducible assumption))
    | split)
theorem good_doDchgCheckT {kc : Ch} (c : Chan) (h_c : c.Good kc) : (doDchgCheckT c).Good kc := by
  unfold doDchgCheckT
  repeat' (first
    | with_reducible assumption
    | with_reducible apply good_Chan_onProt
    | with_reducible apply good_Chan_p
    | with_reducible apply good_Dev_p
    | with_reducible apply good_Chan_dchgFail
    | with_reducible apply good_foldl
    | with_reducible apply goodD_foldl
    | with_reducible apply goodM_foldl
    | with_reducible apply good_Chan_inv
    | with_reducible apply good_Chan_invNil
    | (with_reducible exact good_mk (by with_reducible assumption))
    | (with_reducible exact goodD_mk (by with_reducible assumption))
    | split)
theorem good_doDchgTExpiry {kc : Ch} (c : Chan) (h_c : c.Good kc) : (doDchgTExpiry c).Good kc := by
  unfold doDchgTExpiry
  repeat' (first
    | with_reducible assumption
    | with_reducible apply good_Chan_dchgFail
    | with_reducible apply good_foldl
    | with_reducible apply goodD_foldl
    | with_reducible apply goodM_foldl
    | with_reducible apply good_Chan_inv
    | with_reducible apply good_Chan_invNil
    | (with_reducible exact good_mk (by with_reducible assumption))
    | (with_reducible exact goodD_mk (by with_reducible assumption))
    | split)
theorem good_Chan_dchgLink {kc : Ch} (c : Chan) (h_c : c.Good kc) : (Chan.dchgLink c).Good kc := by
  unfold Chan.dchgLink
  repeat' (first
    | with_reducible assumption
    | with_reducible apply good_Chan_dchgEnd
    | with_reducible apply good_Chan_windEnd
    | with_reducible apply good_Chan_p
    | with_reducible apply good_Dev_p
    | with_reducible apply good_foldl
    | with_reducible apply goodD_foldl
    | with_reducible apply goodM_foldl
    | with_reducible apply good_Chan_inv
    | with_reducible apply good_Chan_invNil
    | (with_reducible exact good_mk (by with_reducible assumption))
    | (with_reducible exact goodD_mk (by with_reducible assumption))
    | split
    | (intro _)
    | (extract_lets +onlyGivenNames x; first | (refine good_use (x := x) ?_ (fun hx => ?_)) | (refine good_use (x := x.1) ?_ (fun hx => ?_)) | (refine (have hx : Dev.Good x := ?_; ?_)) | (refine (have hx : Dev.Good x.1 := ?_; ?_)) | (refine (have hx : Mach.Good x := ?_; ?_)) | (refine (have hx : Mach.Good x.1 := ?_; ?_)) | (refine (have hx : Mach.Good x.m := ?_; ?_)) | clear_value x))
theorem good_Chan_dchgPause {kc : Ch} (c : Chan) (h_c : c.Good kc) : (Chan.dchgPause c).Good kc := by
  unfold Chan.dchgPause
  repeat' (first
    | with_reducible assumption
    | with_reducible apply good_Chan_setDchgOut
    | with_reducible apply good_Chan_p
    | with_reducible apply good_Dev_p
    | with_reducible apply good_Chan_raise
    | with_reducible apply good_Dev_raise
    | with_reducible apply good_Chan_clear
    | with_reducible apply good_Dev_clear
    | with_reducible apply good_foldl
    | with_reducible apply goodD_foldl
    | with_reducible apply goodM_foldl
    | with_reducible apply good_Chan_inv
    | with_reducible apply good_Chan_invNil
    | (with_reducible exact good_mk (by with_reducible assumption))
    | (with_reducible exact goodD_mk (by with_reducible assumption))
    | split
    | (intro _)
    | (extract_lets +onlyGivenNames x; first | (refine good_use (x := x) ?_ (fun hx => ?_)) | (refine good_use (x := x.1) ?_ (fun hx => ?_)) | (refine (have hx : Dev.Good x := ?_; ?_)) | (refine (have hx : Dev.Good x.1 := ?_; ?_)) | (refine (have hx : Mach.Good x := ?_; ?_)) | (refine (have hx : Mach.Good x.1 := ?_; ?_)) | (refine (have hx : Mach.Good x.m := ?_; ?_)) | clear_value x))
theorem good_Chan_autoEnergy {kc : Ch} (c : Chan) (link : Int) (h_c : c.Good kc) : (Chan.autoEnergy c link).Good kc := by
  unfold Chan.autoEnergy
  repeat' (first
    | with_reducible assumption
    | with_reducible apply good_Mach_chanReset
    | with_reducible apply good_Chan_onSl
    | with_reducible apply good_foldl
    | with_reducible apply goodD_foldl
    | with_reducible apply goodM_foldl
    | with_reducible apply good_Chan_inv
    | with_reducible apply good_Chan_invNil
    | (with_reducible exact good_mk (by with_reducible assumption))
    | (with_reducible exact goodD_mk (by with_reducible assumption))
    | split
    | (intro _)
    | (extract_lets +onlyGivenNames x; first | (refine good_use (x := x) ?_ (fun hx => ?_)) | (refine good_use (x := x.1) ?_ (fun hx => ?_)) | (refine (have hx : Dev.Good x := ?_; ?_)) | (refine (have hx : Dev.Good x.1 := ?_; ?_)) | (refine (have hx : Mach.Good x := ?_; ?_)) | (refine (have hx : Mach.Good x.1 := ?_; ?_)) | (refine (have hx : Mach.Good x.m := ?_; ?_)) | clear_value x))
theorem good_doEnergyUpdate {kc : Ch} (link : Int) (c : Chan) (h_c : c.Good kc) : (doEnergyUpdate link c).Good kc := by
  unfold doEnergyUpdate
  repeat' (first
    | with_reducible assumption
    | with_reducible apply good_Chan_autoEnergy
    | with_reducible apply good_Chan_onProt
    | with_reducible apply good_Chan_p
    | with_reducible apply good_Dev_p
    | with_reducible apply good_Chan_onLife
    | with_reducible apply good_Chan_dchgPause
    | with_reducible apply good_foldl
    | with_reducible apply goodD_foldl
    | with_reducible apply goodM_foldl
    | with_reducible apply good_Chan_inv
    | with_reducible apply good_Chan_invNil
    | (with_reducible exact good_mk (by with_reducible assumption))
    | (with_reducible exact goodD_mk (by with_reducible assumption))
    | split
    | (intro _)
    | (extract_lets +onlyGivenNames x; first | (refine good_use (x := x) ?_ (fun hx => ?_)) | (refine good_use (x := x.1) ?_ (fun hx => ?_)) | (refine (have hx : Dev.Good x := ?_; ?_)) | (refine (have hx : Dev.Good x.1 := ?_; ?_)) | (refine (have hx : Mach.Good x := ?_; ?_)) | (refine (have hx : Mach.Good x.1 := ?_; ?_)) | (refine (have hx : Mach.Good x.m := ?_; ?_)) | clear_value x))
theorem good_doAutonomousDischarge {kc : Ch} (c : Chan) (h_c : c.Good kc) : (doAutonomousDischarge c).Good kc := by
  unfold doAutonomousDischarge
  repeat' (first
    | with_reducible assumption
    | with_reducible apply good_Mach_chanReset
    | with_reducible apply good_Chan_onSl
    | with_reducible apply good_Chan_autoSeen
    | with_reducible apply good_foldl
    | with_reducible apply goodD_foldl
    | with_reducible apply goodM_foldl
    | with_reducible apply good_Chan_inv
    | with_reducible apply good_Chan_invNil
    | (with_reducible exact good_mk (by with_reducible assumption))
    | (with_reducible exact goodD_mk (by with_reducible assumption))
    | split
    | (intro _)
    | (extract_lets +onlyGivenNames x; first | (refine good_use (x := x) ?_ (fun hx => ?_)) | (refine good_use (x := x.1) ?_ (fun hx => ?_)) | (refine (have hx : Dev.Good x := ?_; ?_)) | (refine (have hx : Dev.Good x.1 := ?_; ?_)) | (refine (have hx : Mach.Good x := ?_; ?_)) | (refine (have hx : Mach.Good x.1 := ?_; ?_)) | (refine (have hx : Mach.Good x.m := ?_; ?_)) | clear_value x))
theorem good_doAutonomousDischargeDone {kc : Ch} (c : Chan) (h_c : c.Good kc) : (doAutonomousDischargeDone c).Good kc := by
  unfold doAutonomousDischargeDone
  repeat' (first
    | with_reducible assumption
    | with_reducible apply good_Chan_onSl)
theorem good_Chan_autoSeen {kc : Ch} (c : Chan) (h_c : c.Good kc) : (Chan.autoSeen c).Good kc := by
  unfold Chan.autoSeen
  repeat' (first
    | with_reducible assumption
    | with_reducible apply good_Chan_onSl
    | with_reducible apply good_Chan_p
    | with_reducible apply good_Dev_p
    | with_reducible apply good_foldl
    | with_reducible apply goodD_foldl
    | with_reducible apply goodM_foldl
    | with_reducible apply good_Chan_inv
    | with_reducible apply good_Chan_invNil
    | (with_reducible exact good_mk (by with_reducible assumption))
    | (with_reducible exact goodD_mk (by with_reducible assumption))
    | split)
theorem good_doWindingDischargeTimeout {kc : Ch} (c : Chan) (h_c : c.Good kc) : (doWindingDischargeTimeout c).Good kc := by
  unfold doWindingDischargeTimeout
  repeat' (first
    | with_reducible assumption
    | with_reducible apply good_Chan_windEnd
    | with_reducible apply good_Chan_raise
    | with_reducible apply good_Dev_raise
    | with_reducible apply good_foldl
    | with_reducible apply goodD_foldl
    | with_reducible apply goodM_foldl
    | with_reducible apply good_Chan_inv
    | with_reducible apply good_Chan_invNil
    | (with_reducible exact good_mk (by with_reducible assumption))
    | (with_reducible exact goodD_mk (by with_reducible assumption))
    | split)
theorem good_doSourceArrival {kc : Ch} (blk : Nat) (bit : Nat) (c : Chan) (h_c : c.Good kc) : (doSourceArrival blk bit c).Good kc := by
  unfold doSourceArrival
  repeat' (first
    | with_reducible assumption
    | with_reducible apply good_Chan_pulse
    | with_reducible apply good_Dev_pulse
    | with_reducible apply good_Chan_raise
    | with_reducible apply good_Dev_raise
    | with_reducible apply good_foldl
    | with_reducible apply goodD_foldl
    | with_reducible apply goodM_foldl
    | with_reducible apply good_Chan_inv
    | with_reducible apply good_Chan_invNil
    | (with_reducible exact good_mk (by with_reducible assumption))
    | (with_reducible exact goodD_mk (by with_reducible assumption))
    | split
    | (intro _)
    | (extract_lets +onlyGivenNames x; first | (refine good_use (x := x) ?_ (fun hx => ?_)) | (refine good_use (x := x.1) ?_ (fun hx => ?_)) | (refine (have hx : Dev.Good x := ?_; ?_)) | (refine (have hx : Dev.Good x.1 := ?_; ?_)) | (refine (have hx : Mach.Good x := ?_; ?_)) | (refine (have hx : Mach.Good x.1 := ?_; ?_)) | (refine (have hx : Mach.Good x.m := ?_; ?_)) | clear_value x))
theorem good_doSourceClear {kc : Ch} (blk : Nat) (bit : Nat) (c : Chan) (h_c : c.Good kc) : (doSourceClear blk bit c).Good kc := by
  unfold doSourceClear
  repeat' (first
    | with_reducible assumption
    | with_reducible apply good_Chan_onMod
    | with_reducible apply good_Chan_clear
    | with_reducible apply good_Dev_clear
    | with_reducible apply good_foldl
    | with_reducible apply goodD_foldl
    | with_reducible apply goodM_foldl
    | with_reducible apply good_Chan_inv
    | with_reducible apply good_Chan_invNil
    | (with_reducible exact good_mk (by with_reducible assumption))
    | (with_reducible exact goodD_mk (by with_reducible assumption))
    | split
    | (intro _)
    | (extract_lets +onlyGivenNames x; first | (refine good_use (x := x) ?_ (fun hx => ?_)) | (refine good_use (x := x.1) ?_ (fun hx => ?_)) | (refine (have hx : Dev.Good x := ?_; ?_)) | (refine (have hx : Dev.Good x.1 := ?_; ?_)) | (refine (have hx : Mach.Good x := ?_; ?_)) | (refine (have hx : Mach.Good x.1 := ?_; ?_)) | (refine (have hx : Mach.Good x.m := ?_; ?_)) | clear_value x))
theorem good_doHoldEnd {kc : Ch} (c : Chan) (h_c : c.Good kc) : (doHoldEnd c).Good kc := by
  unfold doHoldEnd
  repeat' (first
    | with_reducible assumption
    | with_reducible apply good_Chan_endHold
    | with_reducible apply good_Chan_reselect
    | with_reducible apply good_Chan_transCheck)
theorem good_doLegClr {kc : Ch} (c : Chan) (h_c : c.Good kc) : (doLegClr c).Good kc := by
  unfold doLegClr
  repeat' (first
    | with_reducible assumption
    | with_reducible apply good_Chan_p
    | with_reducible apply good_Dev_p
    | with_reducible apply good_Chan_legClear
    | with_reducible apply good_foldl
    | with_reducible apply goodD_foldl
    | with_reducible apply goodM_foldl
    | with_reducible apply good_Chan_inv
    | with_reducible apply good_Chan_invNil
    | (with_reducible exact good_mk (by with_reducible assumption))
    | (with_reducible exact goodD_mk (by with_reducible assumption))
    | split
    | (intro _)
    | (extract_lets +onlyGivenNames x; first | (refine good_use (x := x) ?_ (fun hx => ?_)) | (refine good_use (x := x.1) ?_ (fun hx => ?_)) | (refine (have hx : Dev.Good x := ?_; ?_)) | (refine (have hx : Dev.Good x.1 := ?_; ?_)) | (refine (have hx : Mach.Good x := ?_; ?_)) | (refine (have hx : Mach.Good x.1 := ?_; ?_)) | (refine (have hx : Mach.Good x.m := ?_; ?_)) | clear_value x))
theorem good_Chan_recordOut {kc : Ch} (c : Chan) (s : Nat) (h_c : c.Good kc) : (Chan.recordOut c s).Good kc := by
  unfold Chan.recordOut
  repeat' (first
    | with_reducible assumption
    | with_reducible apply good_Chan_recordLeg
    | with_reducible apply good_foldl
    | with_reducible apply goodD_foldl
    | with_reducible apply goodM_foldl
    | with_reducible apply good_Chan_inv
    | with_reducible apply good_Chan_invNil
    | (with_reducible exact good_mk (by with_reducible assumption))
    | (with_reducible exact goodD_mk (by with_reducible assumption))
    | split)
theorem good_Chan_dtEnd {kc : Ch} (c : Chan) (s : Nat) (h_c : c.Good kc) : (Chan.dtEnd c s).Good kc := by
  unfold Chan.dtEnd
  repeat' (first
    | with_reducible assumption
    | with_reducible apply good_Chan_clearBy
    | with_reducible apply good_foldl
    | with_reducible apply goodD_foldl
    | with_reducible apply goodM_foldl
    | with_reducible apply good_Chan_inv
    | with_reducible apply good_Chan_invNil
    | (with_reducible exact good_mk (by with_reducible assumption))
    | (with_reducible exact goodD_mk (by with_reducible assumption))
    | split)
theorem good_Chan_latchSources {kc : Ch} (c : Chan) (s : Nat) (h_c : c.Good kc) : (Chan.latchSources c s).Good kc := by
  unfold Chan.latchSources
  repeat' (first
    | with_reducible assumption
    | with_reducible apply good_Chan_clearBy
    | with_reducible apply good_foldl
    | with_reducible apply goodD_foldl
    | with_reducible apply goodM_foldl
    | with_reducible apply good_Chan_inv
    | with_reducible apply good_Chan_invNil
    | (with_reducible exact good_mk (by with_reducible assumption))
    | (with_reducible exact goodD_mk (by with_reducible assumption))
    | split
    | (intro _)
    | (extract_lets +onlyGivenNames x; first | (refine good_use (x := x) ?_ (fun hx => ?_)) | (refine good_use (x := x.1) ?_ (fun hx => ?_)) | (refine (have hx : Dev.Good x := ?_; ?_)) | (refine (have hx : Dev.Good x.1 := ?_; ?_)) | (refine (have hx : Mach.Good x := ?_; ?_)) | (refine (have hx : Mach.Good x.1 := ?_; ?_)) | (refine (have hx : Mach.Good x.m := ?_; ?_)) | clear_value x))
theorem good_Chan_ownEdge {kc : Ch} (c : Chan) (s : Nat) (on : Bool) (h_c : c.Good kc) : (Chan.ownEdge c s on).Good kc := by
  unfold Chan.ownEdge
  repeat' (first
    | with_reducible assumption
    | with_reducible apply good_Chan_onSl)
theorem good_Chan_slOn {kc : Ch} (c : Chan) (s : Nat) (h_c : c.Good kc) : (Chan.slOn c s).Good kc := by
  unfold Chan.slOn
  repeat' (first
    | with_reducible assumption
    | with_reducible apply good_Chan_onSl
    | with_reducible apply good_Chan_dtEnd
    | with_reducible apply good_Chan_ownEdge)
theorem good_Chan_slOff {kc : Ch} (c : Chan) (s : Nat) (h_c : c.Good kc) : (Chan.slOff c s).Good kc := by
  unfold Chan.slOff
  repeat' (first
    | with_reducible assumption
    | with_reducible apply good_Chan_onSl
    | with_reducible apply good_Chan_dtEnd
    | with_reducible apply good_Chan_ownEdge
    | with_reducible apply good_foldl
    | with_reducible apply goodD_foldl
    | with_reducible apply goodM_foldl
    | with_reducible apply good_Chan_inv
    | with_reducible apply good_Chan_invNil
    | (with_reducible exact good_mk (by with_reducible assumption))
    | (with_reducible exact goodD_mk (by with_reducible assumption))
    | split
    | (intro _)
    | (extract_lets +onlyGivenNames x; first | (refine good_use (x := x) ?_ (fun hx => ?_)) | (refine good_use (x := x.1) ?_ (fun hx => ?_)) | (refine (have hx : Dev.Good x := ?_; ?_)) | (refine (have hx : Dev.Good x.1 := ?_; ?_)) | (refine (have hx : Mach.Good x := ?_; ?_)) | (refine (have hx : Mach.Good x.1 := ?_; ?_)) | (refine (have hx : Mach.Good x.m := ?_; ?_)) | clear_value x))
theorem good_Chan_slFollow {kc : Ch} (c : Chan) (s : Nat) (h_c : c.Good kc) : (Chan.slFollow c s).Good kc := by
  unfold Chan.slFollow
  repeat' (first
    | with_reducible assumption
    | with_reducible apply good_Chan_slOff
    | with_reducible apply good_Chan_onSl
    | with_reducible apply good_Chan_slOn
    | with_reducible apply good_foldl
    | with_reducible apply goodD_foldl
    | with_reducible apply goodM_foldl
    | with_reducible apply good_Chan_inv
    | with_reducible apply good_Chan_invNil
    | (with_reducible exact good_mk (by with_reducible assumption))
    | (with_reducible exact goodD_mk (by with_reducible assumption))
    | split
    | (intro _)
    | (extract_lets +onlyGivenNames x; first | (refine good_use (x := x) ?_ (fun hx => ?_)) | (refine good_use (x := x.1) ?_ (fun hx => ?_)) | (refine (have hx : Dev.Good x := ?_; ?_)) | (refine (have hx : Dev.Good x.1 := ?_; ?_)) | (refine (have hx : Mach.Good x := ?_; ?_)) | (refine (have hx : Mach.Good x.1 := ?_; ?_)) | (refine (have hx : Mach.Good x.m := ?_; ?_)) | clear_value x))
theorem good_Chan_slTry {kc : Ch} (c : Chan) (s : Nat) (h_c : c.Good kc) : (Chan.slTry c s).Good kc := by
  unfold Chan.slTry
  repeat' (first
    | with_reducible assumption
    | with_reducible apply good_Chan_slOn
    | with_reducible apply good_foldl
    | with_reducible apply goodD_foldl
    | with_reducible apply goodM_foldl
    | with_reducible apply good_Chan_inv
    | with_reducible apply good_Chan_invNil
    | (with_reducible exact good_mk (by with_reducible assumption))
    | (with_reducible exact goodD_mk (by with_reducible assumption))
    | split
    | (intro _)
    | (extract_lets +onlyGivenNames x; first | (refine good_use (x := x) ?_ (fun hx => ?_)) | (refine good_use (x := x.1) ?_ (fun hx => ?_)) | (refine (have hx : Dev.Good x := ?_; ?_)) | (refine (have hx : Dev.Good x.1 := ?_; ?_)) | (refine (have hx : Mach.Good x := ?_; ?_)) | (refine (have hx : Mach.Good x.1 := ?_; ?_)) | (refine (have hx : Mach.Good x.m := ?_; ?_)) | clear_value x))
theorem good_Chan_slLatchOwn {kc : Ch} (c : Chan) (s : Nat) (bit : Nat) (h_c : c.Good kc) : (Chan.slLatchOwn c s bit).Good kc := by
  unfold Chan.slLatchOwn
  repeat' (first
    | with_reducible assumption
    | with_reducible apply good_Chan_onSl)
theorem good_Chan_slLatch {kc : Ch} (c : Chan) (s : Nat) (bit : Nat) (h_c : c.Good kc) : (Chan.slLatch c s bit).Good kc := by
  unfold Chan.slLatch
  repeat' (first
    | with_reducible assumption
    | with_reducible apply good_Chan_slLatchOwn
    | with_reducible apply good_Chan_p
    | with_reducible apply good_Dev_p
    | with_reducible apply good_Chan_dtEnd
    | with_reducible apply good_Chan_raiseBy
    | with_reducible apply good_Chan_windAbort
    | with_reducible apply good_Chan_recordOut
    | with_reducible apply good_Chan_chopFail
    | with_reducible apply good_Chan_dchgFail
    | with_reducible apply good_foldl
    | with_reducible apply goodD_foldl
    | with_reducible apply goodM_foldl
    | with_reducible apply good_Chan_inv
    | with_reducible apply good_Chan_invNil
    | (with_reducible exact good_mk (by with_reducible assumption))
    | (with_reducible exact goodD_mk (by with_reducible assumption))
    | split
    | (intro _)
    | (extract_lets +onlyGivenNames x; first | (refine good_use (x := x) ?_ (fun hx => ?_)) | (refine good_use (x := x.1) ?_ (fun hx => ?_)) | (refine (have hx : Dev.Good x := ?_; ?_)) | (refine (have hx : Dev.Good x.1 := ?_; ?_)) | (refine (have hx : Mach.Good x := ?_; ?_)) | (refine (have hx : Mach.Good x.1 := ?_; ?_)) | (refine (have hx : Mach.Good x.m := ?_; ?_)) | clear_value x))
theorem good_Chan_slUnlatch {kc : Ch} (c : Chan) (s : Nat) (h_c : c.Good kc) : (Chan.slUnlatch c s).Good kc := by
  unfold Chan.slUnlatch
  repeat' (first
    | with_reducible assumption
    | with_reducible apply good_Chan_onSl
    | with_reducible apply good_Chan_p
    | with_reducible apply good_Dev_p
    | with_reducible apply good_Chan_latchSources
    | with_reducible apply good_Chan_recordOut)
theorem good_Chan_takeEdge {kc : Ch} (c : Chan) (s : Nat) (pulse : Bool) (en : Bool) (h_c : c.Good kc) : (Chan.takeEdge c s pulse en).Good kc := by
  unfold Chan.takeEdge
  repeat' (first
    | with_reducible assumption
    | with_reducible apply good_Chan_onSl)
theorem good_Chan_wireShow {kc : Ch} (c : Chan) (s : Nat) (h_c : c.Good kc) : (Chan.wireShow c s).Good kc := by
  unfold Chan.wireShow
  repeat' (first
    | with_reducible assumption
    | with_reducible apply good_Chan_wire
    | with_reducible apply good_Chan_p
    | with_reducible apply good_Dev_p
    | with_reducible apply good_Chan_pulse
    | with_reducible apply good_Dev_pulse
    | with_reducible apply good_foldl
    | with_reducible apply goodD_foldl
    | with_reducible apply goodM_foldl
    | with_reducible apply good_Chan_inv
    | with_reducible apply good_Chan_invNil
    | (with_reducible exact good_mk (by with_reducible assumption))
    | (with_reducible exact goodD_mk (by with_reducible assumption))
    | split)
theorem good_doEdgeChannelEdge {kc : Ch} (s : Nat) (present : Bool) (rail : Int) (c : Chan) (h_c : c.Good kc) : (doEdgeChannelEdge s present rail c).Good kc := by
  unfold doEdgeChannelEdge
  repeat' (first
    | with_reducible assumption
    | with_reducible apply good_Chan_wire
    | with_reducible apply good_Chan_took
    | with_reducible apply good_Dev_took
    | with_reducible apply good_Chan_wireShow
    | with_reducible apply good_Chan_onSl
    | with_reducible apply good_Chan_takeEdge
    | with_reducible apply good_Chan_pulse
    | with_reducible apply good_Dev_pulse
    | with_reducible apply good_Chan_slUnlatch
    | with_reducible apply good_Chan_slLatch
    | with_reducible apply good_Chan_slOff
    | with_reducible apply good_Chan_slFollow
    | with_reducible apply good_foldl
    | with_reducible apply goodD_foldl
    | with_reducible apply goodM_foldl
    | with_reducible apply good_Chan_inv
    | with_reducible apply good_Chan_invNil
    | (with_reducible exact good_mk (by with_reducible assumption))
    | (with_reducible exact goodD_mk (by with_reducible assumption))
    | split
    | (intro _)
    | (extract_lets +onlyGivenNames x; first | (refine good_use (x := x) ?_ (fun hx => ?_)) | (refine good_use (x := x.1) ?_ (fun hx => ?_)) | (refine (have hx : Dev.Good x := ?_; ?_)) | (refine (have hx : Dev.Good x.1 := ?_; ?_)) | (refine (have hx : Mach.Good x := ?_; ?_)) | (refine (have hx : Mach.Good x.1 := ?_; ?_)) | (refine (have hx : Mach.Good x.m := ?_; ?_)) | clear_value x))
theorem good_doDeadTimeExpiry {kc : Ch} (s : Nat) (c : Chan) (h_c : c.Good kc) : (doDeadTimeExpiry s c).Good kc := by
  unfold doDeadTimeExpiry
  repeat' (first
    | with_reducible assumption
    | with_reducible apply good_Chan_onSl
    | with_reducible apply good_Chan_slTry
    | with_reducible apply good_Chan_raiseBy
    | with_reducible apply good_foldl
    | with_reducible apply goodD_foldl
    | with_reducible apply goodM_foldl
    | with_reducible apply good_Chan_inv
    | with_reducible apply good_Chan_invNil
    | (with_reducible exact good_mk (by with_reducible assumption))
    | (with_reducible exact goodD_mk (by with_reducible assumption))
    | split
    | (intro _)
    | (extract_lets +onlyGivenNames x; first | (refine good_use (x := x) ?_ (fun hx => ?_)) | (refine good_use (x := x.1) ?_ (fun hx => ?_)) | (refine (have hx : Dev.Good x := ?_; ?_)) | (refine (have hx : Dev.Good x.1 := ?_; ?_)) | (refine (have hx : Mach.Good x := ?_; ?_)) | (refine (have hx : Mach.Good x.1 := ?_; ?_)) | (refine (have hx : Mach.Good x.m := ?_; ?_)) | clear_value x))
theorem good_doPartnerOffChange {kc : Ch} (s : Nat) (c : Chan) (h_c : c.Good kc) : (doPartnerOffChange s c).Good kc := by
  unfold doPartnerOffChange
  repeat' (first
    | with_reducible assumption
    | with_reducible apply good_Chan_slTry)
theorem good_doPartnerOffTimeout {kc : Ch} (s : Nat) (c : Chan) (h_c : c.Good kc) : (doPartnerOffTimeout s c).Good kc := by
  unfold doPartnerOffTimeout
  repeat' (first
    | with_reducible assumption
    | with_reducible apply good_Chan_slLatch
    | with_reducible apply good_foldl
    | with_reducible apply goodD_foldl
    | with_reducible apply goodM_foldl
    | with_reducible apply good_Chan_inv
    | with_reducible apply good_Chan_invNil
    | (with_reducible exact good_mk (by with_reducible assumption))
    | (with_reducible exact goodD_mk (by with_reducible assumption))
    | split)
theorem good_doGateOnChange {kc : Ch} (s : Nat) (on : Bool) (c : Chan) (h_c : c.Good kc) : (doGateOnChange s on c).Good kc := by
  unfold doGateOnChange
  repeat' (first
    | with_reducible assumption
    | with_reducible apply good_Chan_onSl
    | with_reducible apply good_Chan_p
    | with_reducible apply good_Dev_p
    | with_reducible apply good_Chan_clearBy
    | with_reducible apply good_foldl
    | with_reducible apply goodD_foldl
    | with_reducible apply goodM_foldl
    | with_reducible apply good_Chan_inv
    | with_reducible apply good_Chan_invNil
    | (with_reducible exact good_mk (by with_reducible assumption))
    | (with_reducible exact goodD_mk (by with_reducible assumption))
    | split)
theorem good_doPairInterlock {kc : Ch} (p : Nat) (c : Chan) (h_c : c.Good kc) : (doPairInterlock p c).Good kc := by
  unfold doPairInterlock
  repeat' (first
    | with_reducible assumption
    | with_reducible apply good_Chan_p
    | with_reducible apply good_Dev_p
    | with_reducible apply good_Chan_onMod
    | with_reducible apply good_Chan_sendPair
    | with_reducible apply good_Chan_raiseBy
    | with_reducible apply good_foldl
    | with_reducible apply goodD_foldl
    | with_reducible apply goodM_foldl
    | with_reducible apply good_Chan_inv
    | with_reducible apply good_Chan_invNil
    | (with_reducible exact good_mk (by with_reducible assumption))
    | (with_reducible exact goodD_mk (by with_reducible assumption))
    | split)
theorem good_Chan_sendCfg {kc : Ch} (c : Chan) (s : Nat) (h_c : c.Good kc) : (Chan.sendCfg c s).Good kc := by
  unfold Chan.sendCfg
  repeat' (first
    | with_reducible assumption
    | with_reducible apply good_Chan_onSl)
theorem good_Chan_cfgFail {kc : Ch} (c : Chan) (s : Nat) (h_c : c.Good kc) : (Chan.cfgFail c s).Good kc := by
  unfold Chan.cfgFail
  repeat' (first
    | with_reducible assumption
    | with_reducible apply good_Chan_onSl
    | with_reducible apply good_Chan_raiseBy
    | with_reducible apply good_foldl
    | with_reducible apply goodD_foldl
    | with_reducible apply goodM_foldl
    | with_reducible apply good_Chan_inv
    | with_reducible apply good_Chan_invNil
    | (with_reducible exact good_mk (by with_reducible assumption))
    | (with_reducible exact goodD_mk (by with_reducible assumption))
    | split)
theorem good_Chan_cfgGood {kc : Ch} (c : Chan) (s : Nat) (h_c : c.Good kc) : (Chan.cfgGood c s).Good kc := by
  unfold Chan.cfgGood
  repeat' (first
    | with_reducible assumption
    | with_reducible apply good_Chan_onSl
    | with_reducible apply good_Chan_clearBy
    | with_reducible apply good_foldl
    | with_reducible apply goodD_foldl
    | with_reducible apply goodM_foldl
    | with_reducible apply good_Chan_inv
    | with_reducible apply good_Chan_invNil
    | (with_reducible exact good_mk (by with_reducible assumption))
    | (with_reducible exact goodD_mk (by with_reducible assumption))
    | split
    | (intro _)
    | (extract_lets +onlyGivenNames x; first | (refine good_use (x := x) ?_ (fun hx => ?_)) | (refine good_use (x := x.1) ?_ (fun hx => ?_)) | (refine (have hx : Dev.Good x := ?_; ?_)) | (refine (have hx : Dev.Good x.1 := ?_; ?_)) | (refine (have hx : Mach.Good x := ?_; ?_)) | (refine (have hx : Mach.Good x.1 := ?_; ?_)) | (refine (have hx : Mach.Good x.m := ?_; ?_)) | clear_value x))
theorem good_Chan_frameTo {kc : Ch} (c : Chan) (s : Nat) (type : Nat) (addr : Nat) (data : Option Nat) (h_c : c.Good kc) : (Chan.frameTo c s type addr data).Good kc := by
  unfold Chan.frameTo
  repeat' (first
    | with_reducible assumption
    | with_reducible apply good_Chan_onSl
    | with_reducible apply good_Chan_autoSeen
    | with_reducible apply good_foldl
    | with_reducible apply goodD_foldl
    | with_reducible apply goodM_foldl
    | with_reducible apply good_Chan_inv
    | with_reducible apply good_Chan_invNil
    | (with_reducible exact good_mk (by with_reducible assumption))
    | (with_reducible exact goodD_mk (by with_reducible assumption))
    | split)
theorem good_Chan_crcEval {kc : Ch} (c : Chan) (s : Nat) (h_c : c.Good kc) : (Chan.crcEval c s).Good kc := by
  unfold Chan.crcEval
  repeat' (first
    | with_reducible assumption
    | with_reducible apply good_Chan_onSl
    | with_reducible apply good_Chan_raiseBy
    | with_reducible apply good_Chan_clearBy
    | with_reducible apply good_foldl
    | with_reducible apply goodD_foldl
    | with_reducible apply goodM_foldl
    | with_reducible apply good_Chan_inv
    | with_reducible apply good_Chan_invNil
    | (with_reducible exact good_mk (by with_reducible assumption))
    | (with_reducible exact goodD_mk (by with_reducible assumption))
    | split
    | (intro _)
    | (extract_lets +onlyGivenNames x; first | (refine good_use (x := x) ?_ (fun hx => ?_)) | (refine good_use (x := x.1) ?_ (fun hx => ?_)) | (refine (have hx : Dev.Good x := ?_; ?_)) | (refine (have hx : Dev.Good x.1 := ?_; ?_)) | (refine (have hx : Mach.Good x := ?_; ?_)) | (refine (have hx : Mach.Good x.1 := ?_; ?_)) | (refine (have hx : Mach.Good x.m := ?_; ?_)) | clear_value x))
theorem good_Chan_frameFrom {kc : Ch} (c : Chan) (s : Nat) (type : Nat) (addr : Nat) (data : Option Nat) (h_c : c.Good kc) : (Chan.frameFrom c s type addr data).Good kc := by
  unfold Chan.frameFrom
  repeat' (first
    | with_reducible assumption
    | with_reducible apply good_Chan_onSl
    | with_reducible apply good_Chan_p
    | with_reducible apply good_Dev_p
    | with_reducible apply good_Chan_clearBy
    | with_reducible apply good_Chan_crcEval
    | with_reducible apply good_foldl
    | with_reducible apply goodD_foldl
    | with_reducible apply goodM_foldl
    | with_reducible apply good_Chan_inv
    | with_reducible apply good_Chan_invNil
    | (with_reducible exact good_mk (by with_reducible assumption))
    | (with_reducible exact goodD_mk (by with_reducible assumption))
    | split)
theorem good_Chan_segClamp {kc : Ch} (c : Chan) (s : Nat) (h_c : c.Good kc) : (Chan.segClamp c s).Good kc := by
  unfold Chan.segClamp
  repeat' (first
    | with_reducible assumption
    | with_reducible apply good_Chan_onSl)
theorem good_doSliceWriteFrame {kc : Ch} (s : Nat) (reg : Nat) (c : Chan) (h_c : c.Good kc) : (doSliceWriteFrame s reg c).Good kc := by
  unfold doSliceWriteFrame
  repeat' (first
    | with_reducible assumption
    | with_reducible apply good_Chan_skimAbortIf
    | with_reducible apply good_Chan_frameTo
    | with_reducible apply good_Chan_cfgFail
    | with_reducible apply good_Chan_onSl
    | with_reducible apply good_Mach_chanReset
    | with_reducible apply good_Chan_satInc
    | with_reducible apply good_Dev_satInc
    | with_reducible apply good_Chan_segClamp
    | with_reducible apply good_foldl
    | with_reducible apply goodD_foldl
    | with_reducible apply goodM_foldl
    | with_reducible apply good_Chan_inv
    | with_reducible apply good_Chan_invNil
    | (with_reducible exact good_mk (by with_reducible assumption))
    | (with_reducible exact goodD_mk (by with_reducible assumption))
    | split
    | (intro _)
    | (extract_lets +onlyGivenNames x; first | (refine good_use (x := x) ?_ (fun hx => ?_)) | (refine good_use (x := x.1) ?_ (fun hx => ?_)) | (refine (have hx : Dev.Good x := ?_; ?_)) | (refine (have hx : Dev.Good x.1 := ?_; ?_)) | (refine (have hx : Mach.Good x := ?_; ?_)) | (refine (have hx : Mach.Good x.1 := ?_; ?_)) | (refine (have hx : Mach.Good x.m := ?_; ?_)) | clear_value x))
theorem good_doSliceReadFrame {kc : Ch} (s : Nat) (reg : Nat) (c : Chan) (h_c : c.Good kc) : (doSliceReadFrame s reg c).Good kc := by
  unfold doSliceReadFrame
  repeat' (first
    | with_reducible assumption
    | with_reducible apply good_Chan_skimAbortIf
    | with_reducible apply good_Chan_frameTo
    | with_reducible apply good_Chan_onSl
    | with_reducible apply good_Mach_chanReset
    | with_reducible apply good_foldl
    | with_reducible apply goodD_foldl
    | with_reducible apply goodM_foldl
    | with_reducible apply good_Chan_inv
    | with_reducible apply good_Chan_invNil
    | (with_reducible exact good_mk (by with_reducible assumption))
    | (with_reducible exact goodD_mk (by with_reducible assumption))
    | split)
theorem good_doSliceIdleFrame {kc : Ch} (s : Nat) (c : Chan) (h_c : c.Good kc) : (doSliceIdleFrame s c).Good kc := by
  unfold doSliceIdleFrame
  repeat' (first
    | with_reducible assumption
    | with_reducible apply good_Chan_frameTo
    | with_reducible apply good_foldl
    | with_reducible apply goodD_foldl
    | with_reducible apply goodM_foldl
    | with_reducible apply good_Chan_inv
    | with_reducible apply good_Chan_invNil
    | (with_reducible exact good_mk (by with_reducible assumption))
    | (with_reducible exact goodD_mk (by with_reducible assumption))
    | split)
theorem good_Chan_feather {kc : Ch} (c : Chan) (s : Nat) (e : SliceEdge) (ok : Bool) (tDly : Nat) (tSw : Option Nat) (h_c : c.Good kc) : (Chan.feather c s e ok tDly tSw).Good kc := by
  unfold Chan.feather
  repeat' (first
    | with_reducible assumption
    | with_reducible apply good_Res_ok
    | with_reducible apply good_Chan_took
    | with_reducible apply good_Dev_took
    | with_reducible apply good_Chan_onSl
    | with_reducible apply good_foldl
    | with_reducible apply goodD_foldl
    | with_reducible apply goodM_foldl
    | with_reducible apply good_Chan_inv
    | with_reducible apply good_Chan_invNil
    | (with_reducible exact good_mk (by with_reducible assumption))
    | (with_reducible exact goodD_mk (by with_reducible assumption))
    | split)
theorem good_doEdgeTag {kc : Ch} (s : Nat) (count : Nat) (tDly : Nat) (tSw : Option Nat) (c : Chan) (h_c : c.Good kc) : (doEdgeTag s count tDly tSw c).Good kc := by
  unfold doEdgeTag
  repeat' (first
    | with_reducible assumption
    | with_reducible apply good_Chan_frameTo
    | with_reducible apply good_Chan_onSl
    | with_reducible apply good_Chan_slLatch
    | with_reducible apply good_Chan_pulse
    | with_reducible apply good_Dev_pulse
    | with_reducible apply good_Chan_feather
    | with_reducible apply good_foldl
    | with_reducible apply goodD_foldl
    | with_reducible apply goodM_foldl
    | with_reducible apply good_Chan_inv
    | with_reducible apply good_Chan_invNil
    | (with_reducible exact good_mk (by with_reducible assumption))
    | (with_reducible exact goodD_mk (by with_reducible assumption))
    | split
    | (intro _)
    | (extract_lets +onlyGivenNames x; first | (refine good_use (x := x) ?_ (fun hx => ?_)) | (refine good_use (x := x.1) ?_ (fun hx => ?_)) | (refine (have hx : Dev.Good x := ?_; ?_)) | (refine (have hx : Dev.Good x.1 := ?_; ?_)) | (refine (have hx : Mach.Good x := ?_; ?_)) | (refine (have hx : Mach.Good x.1 := ?_; ?_)) | (refine (have hx : Mach.Good x.m := ?_; ?_)) | clear_value x))
theorem good_doEdgeTagTimeout {kc : Ch} (s : Nat) (count : Nat) (tDly : Nat) (tSw : Option Nat) (c : Chan) (h_c : c.Good kc) : (doEdgeTagTimeout s count tDly tSw c).Good kc := by
  unfold doEdgeTagTimeout
  repeat' (first
    | with_reducible assumption
    | with_reducible apply good_Chan_feather
    | with_reducible apply good_foldl
    | with_reducible apply goodD_foldl
    | with_reducible apply goodM_foldl
    | with_reducible apply good_Chan_inv
    | with_reducible apply good_Chan_invNil
    | (with_reducible exact good_mk (by with_reducible assumption))
    | (with_reducible exact goodD_mk (by with_reducible assumption))
    | split)
theorem good_doSliceStatusFrame {kc : Ch} (s : Nat) (c : Chan) (h_c : c.Good kc) : (doSliceStatusFrame s c).Good kc := by
  unfold doSliceStatusFrame
  repeat' (first
    | with_reducible assumption
    | with_reducible apply good_Chan_frameFrom
    | with_reducible apply good_Chan_p
    | with_reducible apply good_Dev_p
    | with_reducible apply good_foldl
    | with_reducible apply goodD_foldl
    | with_reducible apply goodM_foldl
    | with_reducible apply good_Chan_inv
    | with_reducible apply good_Chan_invNil
    | (with_reducible exact good_mk (by with_reducible assumption))
    | (with_reducible exact goodD_mk (by with_reducible assumption))
    | split)
theorem good_doSliceWriteAckFrame {kc : Ch} (s : Nat) (reg : Nat) (c : Chan) (h_c : c.Good kc) : (doSliceWriteAckFrame s reg c).Good kc := by
  unfold doSliceWriteAckFrame
  repeat' (first
    | with_reducible assumption
    | with_reducible apply good_Chan_frameFrom
    | with_reducible apply good_Chan_onSl
    | with_reducible apply good_foldl
    | with_reducible apply goodD_foldl
    | with_reducible apply goodM_foldl
    | with_reducible apply good_Chan_inv
    | with_reducible apply good_Chan_invNil
    | (with_reducible exact good_mk (by with_reducible assumption))
    | (with_reducible exact goodD_mk (by with_reducible assumption))
    | split)
theorem good_doSliceReadDataFrame {kc : Ch} (s : Nat) (reg : Nat) (data : Nat) (c : Chan) (h_c : c.Good kc) : (doSliceReadDataFrame s reg data c).Good kc := by
  unfold doSliceReadDataFrame
  repeat' (first
    | with_reducible assumption
    | with_reducible apply good_Chan_frameFrom
    | with_reducible apply good_Chan_cfgFail
    | with_reducible apply good_Chan_onSl
    | with_reducible apply good_Chan_cfgGood
    | with_reducible apply good_foldl
    | with_reducible apply goodD_foldl
    | with_reducible apply goodM_foldl
    | with_reducible apply good_Chan_inv
    | with_reducible apply good_Chan_invNil
    | (with_reducible exact good_mk (by with_reducible assumption))
    | (with_reducible exact goodD_mk (by with_reducible assumption))
    | split
    | (intro _)
    | (extract_lets +onlyGivenNames x; first | (refine good_use (x := x) ?_ (fun hx => ?_)) | (refine good_use (x := x.1) ?_ (fun hx => ?_)) | (refine (have hx : Dev.Good x := ?_; ?_)) | (refine (have hx : Dev.Good x.1 := ?_; ?_)) | (refine (have hx : Mach.Good x := ?_; ?_)) | (refine (have hx : Mach.Good x.1 := ?_; ?_)) | (refine (have hx : Mach.Good x.m := ?_; ?_)) | clear_value x))
theorem good_doSliceEdgeReportFrame {kc : Ch} (s : Nat) (c : Chan) (h_c : c.Good kc) : (doSliceEdgeReportFrame s c).Good kc := by
  unfold doSliceEdgeReportFrame
  repeat' (first
    | with_reducible assumption
    | with_reducible apply good_Chan_frameFrom
    | with_reducible apply good_Chan_onSl
    | with_reducible apply good_Chan_wr
    | with_reducible apply good_Dev_wr
    | with_reducible apply good_Chan_satInc
    | with_reducible apply good_Dev_satInc
    | with_reducible apply good_Chan_p
    | with_reducible apply good_Dev_p
    | with_reducible apply good_Chan_raiseBy
    | with_reducible apply good_Chan_clearBy
    | with_reducible apply good_foldl
    | with_reducible apply goodD_foldl
    | with_reducible apply goodM_foldl
    | with_reducible apply good_Chan_inv
    | with_reducible apply good_Chan_invNil
    | (with_reducible exact good_mk (by with_reducible assumption))
    | (with_reducible exact goodD_mk (by with_reducible assumption))
    | split
    | (intro _)
    | (extract_lets +onlyGivenNames x; first | (refine good_use (x := x) ?_ (fun hx => ?_)) | (refine good_use (x := x.1) ?_ (fun hx => ?_)) | (refine (have hx : Dev.Good x := ?_; ?_)) | (refine (have hx : Dev.Good x.1 := ?_; ?_)) | (refine (have hx : Mach.Good x := ?_; ?_)) | (refine (have hx : Mach.Good x.1 := ?_; ?_)) | (refine (have hx : Mach.Good x.m := ?_; ?_)) | clear_value x))
theorem good_doSliceFaultFrame {kc : Ch} (s : Nat) (c : Chan) (h_c : c.Good kc) : (doSliceFaultFrame s c).Good kc := by
  unfold doSliceFaultFrame
  repeat' (first
    | with_reducible assumption
    | with_reducible apply good_Chan_frameFrom
    | with_reducible apply good_Chan_p
    | with_reducible apply good_Dev_p
    | with_reducible apply good_Chan_dchgFail
    | with_reducible apply good_foldl
    | with_reducible apply goodD_foldl
    | with_reducible apply goodM_foldl
    | with_reducible apply good_Chan_inv
    | with_reducible apply good_Chan_invNil
    | (with_reducible exact good_mk (by with_reducible assumption))
    | (with_reducible exact goodD_mk (by with_reducible assumption))
    | split
    | (intro _)
    | (extract_lets +onlyGivenNames x; first | (refine good_use (x := x) ?_ (fun hx => ?_)) | (refine good_use (x := x.1) ?_ (fun hx => ?_)) | (refine (have hx : Dev.Good x := ?_; ?_)) | (refine (have hx : Dev.Good x.1 := ?_; ?_)) | (refine (have hx : Mach.Good x := ?_; ?_)) | (refine (have hx : Mach.Good x.1 := ?_; ?_)) | (refine (have hx : Mach.Good x.m := ?_; ?_)) | clear_value x))
theorem good_doSliceFrameInvalid {kc : Ch} (s : Nat) (fromSlice : Bool) (word : Nat) (c : Chan) (h_c : c.Good kc) : (doSliceFrameInvalid s fromSlice word c).Good kc := by
  unfold doSliceFrameInvalid
  repeat' (first
    | with_reducible assumption
    | with_reducible apply good_Chan_satInc
    | with_reducible apply good_Dev_satInc
    | with_reducible apply good_Chan_onSl
    | with_reducible apply good_Mach_take
    | with_reducible apply good_Chan_crcEval
    | with_reducible apply good_foldl
    | with_reducible apply goodD_foldl
    | with_reducible apply goodM_foldl
    | with_reducible apply good_Chan_inv
    | with_reducible apply good_Chan_invNil
    | (with_reducible exact good_mk (by with_reducible assumption))
    | (with_reducible exact goodD_mk (by with_reducible assumption))
    | split
    | (intro _)
    | (extract_lets +onlyGivenNames x; first | (refine good_use (x := x) ?_ (fun hx => ?_)) | (refine good_use (x := x.1) ?_ (fun hx => ?_)) | (refine (have hx : Dev.Good x := ?_; ?_)) | (refine (have hx : Dev.Good x.1 := ?_; ?_)) | (refine (have hx : Mach.Good x := ?_; ?_)) | (refine (have hx : Mach.Good x.1 := ?_; ?_)) | (refine (have hx : Mach.Good x.m := ?_; ?_)) | clear_value x))
theorem good_doSliceLinkLoss {kc : Ch} (s : Nat) (c : Chan) (h_c : c.Good kc) : (doSliceLinkLoss s c).Good kc := by
  unfold doSliceLinkLoss
  repeat' (first
    | with_reducible assumption
    | with_reducible apply good_Chan_slLatchOwn
    | with_reducible apply good_Chan_slLatch
    | with_reducible apply good_foldl
    | with_reducible apply goodD_foldl
    | with_reducible apply goodM_foldl
    | with_reducible apply good_Chan_inv
    | with_reducible apply good_Chan_invNil
    | (with_reducible exact good_mk (by with_reducible assumption))
    | (with_reducible exact goodD_mk (by with_reducible assumption))
    | split)
theorem good_Chan_setReady {kc : Ch} (c : Chan) (s : Nat) (on : Bool) (h_c : c.Good kc) : (Chan.setReady c s on).Good kc := by
  unfold Chan.setReady
  repeat' (first
    | with_reducible assumption
    | with_reducible apply good_Chan_p
    | with_reducible apply good_Dev_p
    | with_reducible apply good_Chan_slFollow
    | with_reducible apply good_Chan_recordOut
    | with_reducible apply good_Chan_chopEval
    | with_reducible apply good_foldl
    | with_reducible apply goodD_foldl
    | with_reducible apply goodM_foldl
    | with_reducible apply good_Chan_inv
    | with_reducible apply good_Chan_invNil
    | (with_reducible exact good_mk (by with_reducible assumption))
    | (with_reducible exact goodD_mk (by with_reducible assumption))
    | split)
theorem good_doChannelLinkLoss {kc : Ch} (s : Nat) (c : Chan) (h_c : c.Good kc) : (doChannelLinkLoss s c).Good kc := by
  unfold doChannelLinkLoss
  repeat' (first
    | with_reducible assumption
    | with_reducible apply good_Chan_p
    | with_reducible apply good_Dev_p
    | with_reducible apply good_Chan_satInc
    | with_reducible apply good_Dev_satInc
    | with_reducible apply good_Chan_setReady
    | with_reducible apply good_Chan_raiseBy
    | with_reducible apply good_foldl
    | with_reducible apply goodD_foldl
    | with_reducible apply goodM_foldl
    | with_reducible apply good_Chan_inv
    | with_reducible apply good_Chan_invNil
    | (with_reducible exact good_mk (by with_reducible assumption))
    | (with_reducible exact goodD_mk (by with_reducible assumption))
    | split)
theorem good_doSliceConfigCheck {kc : Ch} (c : Chan) (h_c : c.Good kc) : (doSliceConfigCheck c).Good kc := by
  unfold doSliceConfigCheck
  repeat' (first
    | with_reducible assumption
    | with_reducible apply good_Chan_each
    | with_reducible apply good_Dev_each
    | with_reducible apply good_Chan_cfgGood
    | with_reducible apply good_Chan_cfgFail
    | with_reducible apply good_foldl
    | with_reducible apply goodD_foldl
    | with_reducible apply goodM_foldl
    | with_reducible apply good_Chan_inv
    | with_reducible apply good_Chan_invNil
    | (with_reducible exact good_mk (by with_reducible assumption))
    | (with_reducible exact goodD_mk (by with_reducible assumption))
    | split
    | (intro _))
theorem good_doIslandPowerUp {kc : Ch} (s : Nat) (c : Chan) (h_c : c.Good kc) : (doIslandPowerUp s c).Good kc := by
  unfold doIslandPowerUp
  repeat' (first
    | with_reducible assumption
    | with_reducible apply good_Chan_autoSeen
    | with_reducible apply good_Chan_pulse
    | with_reducible apply good_Dev_pulse
    | with_reducible apply good_Chan_onSl
    | with_reducible apply good_Chan_setReady
    | with_reducible apply good_Chan_p
    | with_reducible apply good_Dev_p
    | with_reducible apply good_Chan_sendCfg
    | with_reducible apply good_foldl
    | with_reducible apply goodD_foldl
    | with_reducible apply goodM_foldl
    | with_reducible apply good_Chan_inv
    | with_reducible apply good_Chan_invNil
    | (with_reducible exact good_mk (by with_reducible assumption))
    | (with_reducible exact goodD_mk (by with_reducible assumption))
    | split)
theorem good_doSliceReady {kc : Ch} (s : Nat) (c : Chan) (h_c : c.Good kc) : (doSliceReady s c).Good kc := by
  unfold doSliceReady
  repeat' (first
    | with_reducible assumption
    | with_reducible apply good_Chan_setReady
    | with_reducible apply good_foldl
    | with_reducible apply goodD_foldl
    | with_reducible apply goodM_foldl
    | with_reducible apply good_Chan_inv
    | with_reducible apply good_Chan_invNil
    | (with_reducible exact good_mk (by with_reducible assumption))
    | (with_reducible exact goodD_mk (by with_reducible assumption))
    | split)
theorem good_Chan_offShort {kc : Ch} (c : Chan) (s : Nat) (vds : Int) (h_c : c.Good kc) : (Chan.offShort c s vds).Good kc := by
  unfold Chan.offShort
  repeat' (first
    | with_reducible assumption
    | with_reducible apply good_Chan_p
    | with_reducible apply good_Dev_p
    | with_reducible apply good_Chan_legSet
    | with_reducible apply good_Chan_pulseSl
    | with_reducible apply good_foldl
    | with_reducible apply goodD_foldl
    | with_reducible apply goodM_foldl
    | with_reducible apply good_Chan_inv
    | with_reducible apply good_Chan_invNil
    | (with_reducible exact good_mk (by with_reducible assumption))
    | (with_reducible exact goodD_mk (by with_reducible assumption))
    | split
    | (intro _)
    | (extract_lets +onlyGivenNames x; first | (refine good_use (x := x) ?_ (fun hx => ?_)) | (refine good_use (x := x.1) ?_ (fun hx => ?_)) | (refine (have hx : Dev.Good x := ?_; ?_)) | (refine (have hx : Dev.Good x.1 := ?_; ?_)) | (refine (have hx : Mach.Good x := ?_; ?_)) | (refine (have hx : Mach.Good x.1 := ?_; ?_)) | (refine (have hx : Mach.Good x.m := ?_; ?_)) | clear_value x))
theorem good_Chan_slTrip {kc : Ch} (c : Chan) (s : Nat) (bit : Nat) (h_c : c.Good kc) : (Chan.slTrip c s bit).Good kc := by
  unfold Chan.slTrip
  repeat' (first
    | with_reducible assumption
    | with_reducible apply good_Chan_slLatch
    | with_reducible apply good_Chan_slLatchOwn
    | with_reducible apply good_foldl
    | with_reducible apply goodD_foldl
    | with_reducible apply goodM_foldl
    | with_reducible apply good_Chan_inv
    | with_reducible apply good_Chan_invNil
    | (with_reducible exact good_mk (by with_reducible assumption))
    | (with_reducible exact goodD_mk (by with_reducible assumption))
    | split)
theorem good_Chan_scTrip {kc : Ch} (c : Chan) (s : Nat) (bit : Nat) (vds : Int) (h_c : c.Good kc) : (Chan.scTrip c s bit vds).Good kc := by
  unfold Chan.scTrip
  repeat' (first
    | with_reducible assumption
    | with_reducible apply good_Chan_onSl
    | with_reducible apply good_Chan_slTrip
    | with_reducible apply good_Chan_offShort
    | with_reducible apply good_foldl
    | with_reducible apply goodD_foldl
    | with_reducible apply goodM_foldl
    | with_reducible apply good_Chan_inv
    | with_reducible apply good_Chan_invNil
    | (with_reducible exact good_mk (by with_reducible assumption))
    | (with_reducible exact goodD_mk (by with_reducible assumption))
    | split)
theorem good_doSc2Trip {kc : Ch} (s : Nat) (vds : Int) (c : Chan) (h_c : c.Good kc) : (doSc2Trip s vds c).Good kc := by
  unfold doSc2Trip
  repeat' (first
    | with_reducible assumption
    | with_reducible apply good_Chan_scTrip)
theorem good_doSc1Trip {kc : Ch} (s : Nat) (vds : Int) (c : Chan) (h_c : c.Good kc) : (doSc1Trip s vds c).Good kc := by
  unfold doSc1Trip
  repeat' (first
    | with_reducible assumption
    | with_reducible apply good_Chan_scTrip
    | with_reducible apply good_foldl
    | with_reducible apply goodD_foldl
    | with_reducible apply goodM_foldl
    | with_reducible apply good_Chan_inv
    | with_reducible apply good_Chan_invNil
    | (with_reducible exact good_mk (by with_reducible assumption))
    | (with_reducible exact goodD_mk (by with_reducible assumption))
    | split)
theorem good_doScBlankingEnd {kc : Ch} (s : Nat) (above : Bool) (vds : Int) (c : Chan) (h_c : c.Good kc) : (doScBlankingEnd s above vds c).Good kc := by
  unfold doScBlankingEnd
  repeat' (first
    | with_reducible assumption
    | with_reducible apply good_Chan_onSl
    | with_reducible apply good_Chan_scTrip
    | with_reducible apply good_foldl
    | with_reducible apply goodD_foldl
    | with_reducible apply goodM_foldl
    | with_reducible apply good_Chan_inv
    | with_reducible apply good_Chan_invNil
    | (with_reducible exact good_mk (by with_reducible assumption))
    | (with_reducible exact goodD_mk (by with_reducible assumption))
    | split)
theorem good_doPlateauEnd {kc : Ch} (s : Nat) (c : Chan) (h_c : c.Good kc) : (doPlateauEnd s c).Good kc := by
  unfold doPlateauEnd
  repeat' (first
    | with_reducible assumption
    | with_reducible apply good_Chan_onSl)
theorem good_doGsUv {kc : Ch} (s : Nat) (neg : Bool) (v : Int) (c : Chan) (h_c : c.Good kc) : (doGsUv s neg v c).Good kc := by
  unfold doGsUv
  repeat' (first
    | with_reducible assumption
    | with_reducible apply good_Chan_slTrip
    | with_reducible apply good_foldl
    | with_reducible apply goodD_foldl
    | with_reducible apply goodM_foldl
    | with_reducible apply good_Chan_inv
    | with_reducible apply good_Chan_invNil
    | (with_reducible exact good_mk (by with_reducible assumption))
    | (with_reducible exact goodD_mk (by with_reducible assumption))
    | split)
theorem good_doGsOv {kc : Ch} (s : Nat) (neg : Bool) (v : Int) (c : Chan) (h_c : c.Good kc) : (doGsOv s neg v c).Good kc := by
  unfold doGsOv
  repeat' (first
    | with_reducible assumption
    | with_reducible apply good_Chan_slTrip
    | with_reducible apply good_foldl
    | with_reducible apply goodD_foldl
    | with_reducible apply goodM_foldl
    | with_reducible apply good_Chan_inv
    | with_reducible apply good_Chan_invNil
    | (with_reducible exact good_mk (by with_reducible assumption))
    | (with_reducible exact goodD_mk (by with_reducible assumption))
    | split)
theorem good_doIslOt {kc : Ch} (s : Nat) (c : Chan) (h_c : c.Good kc) : (doIslOt s c).Good kc := by
  unfold doIslOt
  repeat' (first
    | with_reducible assumption
    | with_reducible apply good_Chan_slTrip)
theorem good_Chan_tsJudge {kc : Ch} (c : Chan) (s : Nat) (ts : Nat) (h_c : c.Good kc) : (Chan.tsJudge c s ts).Good kc := by
  unfold Chan.tsJudge
  repeat' (first
    | with_reducible assumption
    | with_reducible apply good_Chan_p
    | with_reducible apply good_Dev_p
    | with_reducible apply good_Chan_raiseBy
    | with_reducible apply good_Chan_clearBy
    | with_reducible apply good_foldl
    | with_reducible apply goodD_foldl
    | with_reducible apply goodM_foldl
    | with_reducible apply good_Chan_inv
    | with_reducible apply good_Chan_invNil
    | (with_reducible exact good_mk (by with_reducible assumption))
    | (with_reducible exact goodD_mk (by with_reducible assumption))
    | split)
theorem good_Chan_railsIn {kc : Ch} (c : Chan) (s : Nat) (vneg : Int) (vpos : Int) (h_c : c.Good kc) : (Chan.railsIn c s vneg vpos).Good kc := by
  unfold Chan.railsIn
  repeat' (first
    | with_reducible assumption
    | with_reducible apply good_Chan_pi
    | with_reducible apply good_Chan_onSl)
theorem good_Chan_cycSee {kc : Ch} (c : Chan) (s : Nat) (ts : Nat) (isl : Int) (h_c : c.Good kc) : (Chan.cycSee c s ts isl).Good kc := by
  unfold Chan.cycSee
  repeat' (first
    | with_reducible assumption
    | with_reducible apply good_Chan_onLife
    | with_reducible apply good_foldl
    | with_reducible apply goodD_foldl
    | with_reducible apply goodM_foldl
    | with_reducible apply good_Chan_inv
    | with_reducible apply good_Chan_invNil
    | (with_reducible exact good_mk (by with_reducible assumption))
    | (with_reducible exact goodD_mk (by with_reducible assumption))
    | split)
theorem good_Chan_tempsIn {kc : Ch} (c : Chan) (s : Nat) (ts : Nat) (isl : Int) (h_c : c.Good kc) : (Chan.tempsIn c s ts isl).Good kc := by
  unfold Chan.tempsIn
  repeat' (first
    | with_reducible assumption
    | with_reducible apply good_Chan_p
    | with_reducible apply good_Dev_p
    | with_reducible apply good_Chan_pi
    | with_reducible apply good_Chan_cycSee
    | with_reducible apply good_Chan_tsJudge)
theorem good_doSliceSupplyMeasure {kc : Ch} (s : Nat) (vneg : Int) (vpos : Int) (ts : Nat) (isl : Int) (c : Chan) (h_c : c.Good kc) : (doSliceSupplyMeasure s vneg vpos ts isl c).Good kc := by
  unfold doSliceSupplyMeasure
  repeat' (first
    | with_reducible assumption
    | with_reducible apply good_Chan_railsIn
    | with_reducible apply good_Chan_tempsIn
    | with_reducible apply good_foldl
    | with_reducible apply goodD_foldl
    | with_reducible apply goodM_foldl
    | with_reducible apply good_Chan_inv
    | with_reducible apply good_Chan_invNil
    | (with_reducible exact good_mk (by with_reducible assumption))
    | (with_reducible exact goodD_mk (by with_reducible assumption))
    | split)
theorem good_doEnPinFall {kc : Ch} (p : Nat) (c : Chan) (h_c : c.Good kc) : (doEnPinFall p c).Good kc := by
  unfold doEnPinFall
  repeat' (first
    | with_reducible assumption
    | with_reducible apply good_Chan_p
    | with_reducible apply good_Dev_p
    | with_reducible apply good_Chan_pb
    | with_reducible apply good_Dev_pb
    | with_reducible apply good_Chan_onMod
    | with_reducible apply good_Chan_sendPair
    | with_reducible apply good_Chan_raise
    | with_reducible apply good_Dev_raise
    | with_reducible apply good_foldl
    | with_reducible apply goodD_foldl
    | with_reducible apply goodM_foldl
    | with_reducible apply good_Chan_inv
    | with_reducible apply good_Chan_invNil
    | (with_reducible exact good_mk (by with_reducible assumption))
    | (with_reducible exact goodD_mk (by with_reducible assumption))
    | split
    | (intro _)
    | (extract_lets +onlyGivenNames x; first | (refine good_use (x := x) ?_ (fun hx => ?_)) | (refine good_use (x := x.1) ?_ (fun hx => ?_)) | (refine (have hx : Dev.Good x := ?_; ?_)) | (refine (have hx : Dev.Good x.1 := ?_; ?_)) | (refine (have hx : Mach.Good x := ?_; ?_)) | (refine (have hx : Mach.Good x.1 := ?_; ?_)) | (refine (have hx : Mach.Good x.m := ?_; ?_)) | clear_value x))
theorem good_doEnPinRise {kc : Ch} (p : Nat) (c : Chan) (h_c : c.Good kc) : (doEnPinRise p c).Good kc := by
  unfold doEnPinRise
  repeat' (first
    | with_reducible assumption
    | with_reducible apply good_Chan_p
    | with_reducible apply good_Dev_p
    | with_reducible apply good_Chan_pb
    | with_reducible apply good_Dev_pb
    | with_reducible apply good_Chan_onMod
    | with_reducible apply good_Chan_sendPair
    | with_reducible apply good_Chan_clear
    | with_reducible apply good_Dev_clear
    | with_reducible apply good_foldl
    | with_reducible apply goodD_foldl
    | with_reducible apply goodM_foldl
    | with_reducible apply good_Chan_inv
    | with_reducible apply good_Chan_invNil
    | (with_reducible exact good_mk (by with_reducible assumption))
    | (with_reducible exact goodD_mk (by with_reducible assumption))
    | split
    | (intro _)
    | (extract_lets +onlyGivenNames x; first | (refine good_use (x := x) ?_ (fun hx => ?_)) | (refine good_use (x := x.1) ?_ (fun hx => ?_)) | (refine (have hx : Dev.Good x := ?_; ?_)) | (refine (have hx : Dev.Good x.1 := ?_; ?_)) | (refine (have hx : Mach.Good x := ?_; ?_)) | (refine (have hx : Mach.Good x.1 := ?_; ?_)) | (refine (have hx : Mach.Good x.m := ?_; ?_)) | clear_value x))
theorem good_Chan_onConv {kc : Ch} (c : Chan) (n : Nat) (f : Conv → Conv) (h_c : c.Good kc) : (Chan.onConv c n f).Good kc := by
  unfold Chan.onConv
  repeat' (first
    | with_reducible assumption
    | with_reducible apply good_foldl
    | with_reducible apply goodD_foldl
    | with_reducible apply goodM_foldl
    | with_reducible apply good_Chan_inv
    | with_reducible apply good_Chan_invNil
    | (with_reducible exact good_mk (by with_reducible assumption)))
theorem good_Chan_skimConv {kc : Ch} (c : Chan) (n : Nat) (h_c : c.Good kc) : (Chan.skimConv c n).Good kc := by
  unfold Chan.skimConv
  repeat' (first
    | with_reducible assumption
    | with_reducible apply good_Chan_skimAbortIf)
theorem good_Chan_injOver {kc : Ch} (c : Chan) (n : Nat) (h_c : c.Good kc) : (Chan.injOver c n).Good kc := by
  unfold Chan.injOver
  repeat' (first
    | with_reducible assumption
    | with_reducible apply good_Chan_satInc
    | with_reducible apply good_Dev_satInc
    | with_reducible apply good_Chan_raise
    | with_reducible apply good_Dev_raise
    | with_reducible apply good_foldl
    | with_reducible apply goodD_foldl
    | with_reducible apply goodM_foldl
    | with_reducible apply good_Chan_inv
    | with_reducible apply good_Chan_invNil
    | (with_reducible exact good_mk (by with_reducible assumption))
    | (with_reducible exact goodD_mk (by with_reducible assumption))
    | split
    | (intro _))
theorem good_Chan_regOver {kc : Ch} (c : Chan) (n : Nat) (h_c : c.Good kc) : (Chan.regOver c n).Good kc := by
  unfold Chan.regOver
  repeat' (first
    | with_reducible assumption
    | with_reducible apply good_Chan_satInc
    | with_reducible apply good_Dev_satInc
    | with_reducible apply good_Chan_raise
    | with_reducible apply good_Dev_raise
    | with_reducible apply good_foldl
    | with_reducible apply goodD_foldl
    | with_reducible apply goodM_foldl
    | with_reducible apply good_Chan_inv
    | with_reducible apply good_Chan_invNil
    | (with_reducible exact good_mk (by with_reducible assumption))
    | (with_reducible exact goodD_mk (by with_reducible assumption))
    | split
    | (intro _))
theorem good_Chan_injTrigger {kc : Ch} (c : Chan) (n : Nat) (bits : Nat) (h_c : c.Good kc) : (Chan.injTrigger c n bits).Good kc := by
  unfold Chan.injTrigger
  repeat' (first
    | with_reducible assumption
    | with_reducible apply good_Chan_skimConv
    | with_reducible apply good_Chan_onConv
    | with_reducible apply good_Chan_injOver
    | with_reducible apply good_foldl
    | with_reducible apply goodD_foldl
    | with_reducible apply goodM_foldl
    | with_reducible apply good_Chan_inv
    | with_reducible apply good_Chan_invNil
    | (with_reducible exact good_mk (by with_reducible assumption))
    | (with_reducible exact goodD_mk (by with_reducible assumption))
    | split
    | (intro _)
    | (extract_lets +onlyGivenNames x; first | (refine good_use (x := x) ?_ (fun hx => ?_)) | (refine good_use (x := x.1) ?_ (fun hx => ?_)) | (refine (have hx : Dev.Good x := ?_; ?_)) | (refine (have hx : Dev.Good x.1 := ?_; ?_)) | (refine (have hx : Mach.Good x := ?_; ?_)) | (refine (have hx : Mach.Good x.1 := ?_; ?_)) | (refine (have hx : Mach.Good x.m := ?_; ?_)) | clear_value x))
theorem good_Chan_regStart {kc : Ch} (c : Chan) (n : Nat) (ev : Nat) (at_ : Tick) (h_c : c.Good kc) : (Chan.regStart c n ev at_).Good kc := by
  unfold Chan.regStart
  repeat' (first
    | with_reducible assumption
    | with_reducible apply good_Chan_onConv
    | with_reducible apply good_foldl
    | with_reducible apply goodD_foldl
    | with_reducible apply goodM_foldl
    | with_reducible apply good_Chan_inv
    | with_reducible apply good_Chan_invNil
    | (with_reducible exact good_mk (by with_reducible assumption))
    | (with_reducible exact goodD_mk (by with_reducible assumption))
    | split
    | (intro _)
    | (extract_lets +onlyGivenNames x; first | (refine good_use (x := x) ?_ (fun hx => ?_)) | (refine good_use (x := x.1) ?_ (fun hx => ?_)) | (refine (have hx : Dev.Good x := ?_; ?_)) | (refine (have hx : Dev.Good x.1 := ?_; ?_)) | (refine (have hx : Mach.Good x := ?_; ?_)) | (refine (have hx : Mach.Good x.1 := ?_; ?_)) | (refine (have hx : Mach.Good x.m := ?_; ?_)) | clear_value x))
theorem good_Chan_regTrigger {kc : Ch} (c : Chan) (n : Nat) (ev : Nat) (h_c : c.Good kc) : (Chan.regTrigger c n ev).Good kc := by
  unfold Chan.regTrigger
  repeat' (first
    | with_reducible assumption
    | with_reducible apply good_Chan_skimConv
    | with_reducible apply good_Chan_regOver
    | with_reducible apply good_Chan_onConv
    | with_reducible apply good_Chan_regStart
    | with_reducible apply good_foldl
    | with_reducible apply goodD_foldl
    | with_reducible apply goodM_foldl
    | with_reducible apply good_Chan_inv
    | with_reducible apply good_Chan_invNil
    | (with_reducible exact good_mk (by with_reducible assumption))
    | (with_reducible exact goodD_mk (by with_reducible assumption))
    | split
    | (intro _)
    | (extract_lets +onlyGivenNames x; first | (refine good_use (x := x) ?_ (fun hx => ?_)) | (refine good_use (x := x.1) ?_ (fun hx => ?_)) | (refine (have hx : Dev.Good x := ?_; ?_)) | (refine (have hx : Dev.Good x.1 := ?_; ?_)) | (refine (have hx : Mach.Good x := ?_; ?_)) | (refine (have hx : Mach.Good x.1 := ?_; ?_)) | (refine (have hx : Mach.Good x.m := ?_; ?_)) | clear_value x))
theorem good_Chan_adcBoundary {kc : Ch} (c : Chan) (h_c : c.Good kc) : (Chan.adcBoundary c).Good kc := by
  unfold Chan.adcBoundary
  repeat' (first
    | with_reducible assumption
    | with_reducible apply good_Chan_each
    | with_reducible apply good_Dev_each
    | with_reducible apply good_Dev_fire
    | with_reducible apply good_Chan_onConv
    | with_reducible apply good_Chan_injTrigger
    | with_reducible apply good_Chan_regTrigger
    | with_reducible apply good_foldl
    | with_reducible apply goodD_foldl
    | with_reducible apply goodM_foldl
    | with_reducible apply good_Chan_inv
    | with_reducible apply good_Chan_invNil
    | (with_reducible exact good_mk (by with_reducible assumption))
    | (with_reducible exact goodD_mk (by with_reducible assumption))
    | split
    | (intro _)
    | (extract_lets +onlyGivenNames x; first | (refine good_use (x := x) ?_ (fun hx => ?_)) | (refine good_use (x := x.1) ?_ (fun hx => ?_)) | (refine (have hx : Dev.Good x := ?_; ?_)) | (refine (have hx : Dev.Good x.1 := ?_; ?_)) | (refine (have hx : Mach.Good x := ?_; ?_)) | (refine (have hx : Mach.Good x.1 := ?_; ?_)) | (refine (have hx : Mach.Good x.m := ?_; ?_)) | clear_value x))
theorem good_Chan_adcWindow {kc : Ch} (c : Chan) (h_c : c.Good kc) : (Chan.adcWindow c).Good kc := by
  unfold Chan.adcWindow
  repeat' (first
    | with_reducible assumption
    | with_reducible apply good_Chan_each
    | with_reducible apply good_Dev_each
    | with_reducible apply good_Chan_injTrigger
    | with_reducible apply good_foldl
    | with_reducible apply goodD_foldl
    | with_reducible apply goodM_foldl
    | with_reducible apply good_Chan_inv
    | with_reducible apply good_Chan_invNil
    | (with_reducible exact good_mk (by with_reducible assumption))
    | (with_reducible exact goodD_mk (by with_reducible assumption))
    | split
    | (intro _))
theorem good_Chan_adcResolver {kc : Ch} (c : Chan) (ev : Nat) (h_c : c.Good kc) : (Chan.adcResolver c ev).Good kc := by
  unfold Chan.adcResolver
  repeat' (first
    | with_reducible assumption
    | with_reducible apply good_Chan_each
    | with_reducible apply good_Dev_each
    | with_reducible apply good_Chan_regTrigger
    | with_reducible apply good_foldl
    | with_reducible apply goodD_foldl
    | with_reducible apply goodM_foldl
    | with_reducible apply good_Chan_inv
    | with_reducible apply good_Chan_invNil
    | (with_reducible exact good_mk (by with_reducible assumption))
    | (with_reducible exact goodD_mk (by with_reducible assumption))
    | split
    | (intro _))
theorem good_Chan_fifoPut {kc : Ch} (c : Chan) (r : BusRes) (h_c : c.Good kc) : (Chan.fifoPut c r).Good kc := by
  unfold Chan.fifoPut
  repeat' (first
    | with_reducible assumption
    | with_reducible apply good_Chan_satInc
    | with_reducible apply good_Dev_satInc
    | with_reducible apply good_Chan_raise
    | with_reducible apply good_Dev_raise
    | with_reducible apply good_Chan_onConv
    | with_reducible apply good_Chan_pb
    | with_reducible apply good_Dev_pb
    | with_reducible apply good_foldl
    | with_reducible apply goodD_foldl
    | with_reducible apply goodM_foldl
    | with_reducible apply good_Chan_inv
    | with_reducible apply good_Chan_invNil
    | (with_reducible exact good_mk (by with_reducible assumption))
    | (with_reducible exact goodD_mk (by with_reducible assumption))
    | split
    | (intro _)
    | (extract_lets +onlyGivenNames x; first | (refine good_use (x := x) ?_ (fun hx => ?_)) | (refine good_use (x := x.1) ?_ (fun hx => ?_)) | (refine (have hx : Dev.Good x := ?_; ?_)) | (refine (have hx : Dev.Good x.1 := ?_; ?_)) | (refine (have hx : Mach.Good x := ?_; ?_)) | (refine (have hx : Mach.Good x.1 := ?_; ?_)) | (refine (have hx : Mach.Good x.m := ?_; ?_)) | clear_value x))
theorem good_Chan_wcmpJudge {kc : Ch} (c : Chan) (r : BusRes) (k : Nat) (h_c : c.Good kc) : (Chan.wcmpJudge c r k).Good kc := by
  unfold Chan.wcmpJudge
  repeat' (first
    | with_reducible assumption
    | with_reducible apply good_Chan_raise
    | with_reducible apply good_Dev_raise
    | with_reducible apply good_Chan_clear
    | with_reducible apply good_Dev_clear
    | with_reducible apply good_foldl
    | with_reducible apply goodD_foldl
    | with_reducible apply goodM_foldl
    | with_reducible apply good_Chan_inv
    | with_reducible apply good_Chan_invNil
    | (with_reducible exact good_mk (by with_reducible assumption))
    | (with_reducible exact goodD_mk (by with_reducible assumption))
    | split
    | (intro _)
    | (extract_lets +onlyGivenNames x; first | (refine good_use (x := x) ?_ (fun hx => ?_)) | (refine good_use (x := x.1) ?_ (fun hx => ?_)) | (refine (have hx : Dev.Good x := ?_; ?_)) | (refine (have hx : Dev.Good x.1 := ?_; ?_)) | (refine (have hx : Mach.Good x := ?_; ?_)) | (refine (have hx : Mach.Good x.1 := ?_; ?_)) | (refine (have hx : Mach.Good x.m := ?_; ?_)) | clear_value x))
theorem good_Chan_preSample {kc : Ch} (c : Chan) (r : BusRes) (h_c : c.Good kc) : (Chan.preSample c r).Good kc := by
  unfold Chan.preSample
  repeat' (first
    | with_reducible assumption
    | with_reducible apply good_Chan_onMsio
    | with_reducible apply good_foldl
    | with_reducible apply goodD_foldl
    | with_reducible apply goodM_foldl
    | with_reducible apply good_Chan_inv
    | with_reducible apply good_Chan_invNil
    | (with_reducible exact good_mk (by with_reducible assumption))
    | (with_reducible exact goodD_mk (by with_reducible assumption))
    | split)
theorem good_Chan_result {kc : Ch} (c : Chan) (r : BusRes) (h_c : c.Good kc) : (Chan.result c r).Good kc := by
  unfold Chan.result
  repeat' (first
    | with_reducible assumption
    | with_reducible apply good_Chan_wr
    | with_reducible apply good_Dev_wr
    | with_reducible apply good_Chan_fifoPut
    | with_reducible apply good_Chan_each
    | with_reducible apply good_Dev_each
    | with_reducible apply good_Chan_wcmpJudge
    | with_reducible apply good_Chan_preSample
    | with_reducible apply good_Chan_resSample
    | with_reducible apply good_Chan_priSample
    | with_reducible apply good_Chan_dclSample
    | with_reducible apply good_Chan_dchgLink
    | with_reducible apply good_foldl
    | with_reducible apply goodD_foldl
    | with_reducible apply goodM_foldl
    | with_reducible apply good_Chan_inv
    | with_reducible apply good_Chan_invNil
    | (with_reducible exact good_mk (by with_reducible assumption))
    | (with_reducible exact goodD_mk (by with_reducible assumption))
    | split
    | (intro _)
    | (extract_lets +onlyGivenNames x; first | (refine good_use (x := x) ?_ (fun hx => ?_)) | (refine good_use (x := x.1) ?_ (fun hx => ?_)) | (refine (have hx : Dev.Good x := ?_; ?_)) | (refine (have hx : Dev.Good x.1 := ?_; ?_)) | (refine (have hx : Mach.Good x := ?_; ?_)) | (refine (have hx : Mach.Good x.1 := ?_; ?_)) | (refine (have hx : Mach.Good x.m := ?_; ?_)) | clear_value x))
theorem good_Chan_slotDone {kc : Ch} (c : Chan) (n : Nat) (kind : Nat) (q : Seq) (raw : Nat) (raw1 : Nat) (h_c : c.Good kc) : (Chan.slotDone c n kind q raw raw1).Good kc := by
  unfold Chan.slotDone
  repeat' (first
    | with_reducible assumption
    | with_reducible apply good_Chan_result
    | with_reducible apply good_foldl
    | with_reducible apply goodD_foldl
    | with_reducible apply goodM_foldl
    | with_reducible apply good_Chan_inv
    | with_reducible apply good_Chan_invNil
    | (with_reducible exact good_mk (by with_reducible assumption))
    | (with_reducible exact goodD_mk (by with_reducible assumption))
    | split
    | (intro _))
theorem good_Chan_resumeReg {kc : Ch} (c : Chan) (n : Nat) (e : Tick) (h_c : c.Good kc) : (Chan.resumeReg c n e).Good kc := by
  unfold Chan.resumeReg
  repeat' (first
    | with_reducible assumption
    | with_reducible apply good_Chan_onConv
    | with_reducible apply good_Chan_regStart
    | with_reducible apply good_foldl
    | with_reducible apply goodD_foldl
    | with_reducible apply goodM_foldl
    | with_reducible apply good_Chan_inv
    | with_reducible apply good_Chan_invNil
    | (with_reducible exact good_mk (by with_reducible assumption))
    | (with_reducible exact goodD_mk (by with_reducible assumption))
    | split
    | (intro _)
    | (extract_lets +onlyGivenNames x; first | (refine good_use (x := x) ?_ (fun hx => ?_)) | (refine good_use (x := x.1) ?_ (fun hx => ?_)) | (refine (have hx : Dev.Good x := ?_; ?_)) | (refine (have hx : Dev.Good x.1 := ?_; ?_)) | (refine (have hx : Mach.Good x := ?_; ?_)) | (refine (have hx : Mach.Good x.1 := ?_; ?_)) | (refine (have hx : Mach.Good x.m := ?_; ?_)) | clear_value x))
theorem good_doAdcConversionEnd {kc : Ch} (n : Nat) (raw : Nat) (raw1 : Nat) (c : Chan) (h_c : c.Good kc) : (doAdcConversionEnd n raw raw1 c).Good kc := by
  unfold doAdcConversionEnd
  repeat' (first
    | with_reducible assumption
    | with_reducible apply good_Chan_onConv
    | with_reducible apply good_Chan_resumeReg
    | with_reducible apply good_Chan_slotDone
    | with_reducible apply good_Chan_p
    | with_reducible apply good_Dev_p
    | with_reducible apply good_Chan_regStart
    | with_reducible apply good_foldl
    | with_reducible apply goodD_foldl
    | with_reducible apply goodM_foldl
    | with_reducible apply good_Chan_inv
    | with_reducible apply good_Chan_invNil
    | (with_reducible exact good_mk (by with_reducible assumption))
    | (with_reducible exact goodD_mk (by with_reducible assumption))
    | split
    | (intro _)
    | (extract_lets +onlyGivenNames x; first | (refine good_use (x := x) ?_ (fun hx => ?_)) | (refine good_use (x := x.1) ?_ (fun hx => ?_)) | (refine (have hx : Dev.Good x := ?_; ?_)) | (refine (have hx : Dev.Good x.1 := ?_; ?_)) | (refine (have hx : Mach.Good x := ?_; ?_)) | (refine (have hx : Mach.Good x.1 := ?_; ?_)) | (refine (have hx : Mach.Good x.m := ?_; ?_)) | clear_value x))
theorem good_doAdcInjTrigger {kc : Ch} (n : Nat) (bits : Nat) (c : Chan) (h_c : c.Good kc) : (doAdcInjTrigger n bits c).Good kc := by
  unfold doAdcInjTrigger
  repeat' (first
    | with_reducible assumption
    | with_reducible apply good_Chan_injTrigger
    | with_reducible apply good_foldl
    | with_reducible apply goodD_foldl
    | with_reducible apply goodM_foldl
    | with_reducible apply good_Chan_inv
    | with_reducible apply good_Chan_invNil
    | (with_reducible exact good_mk (by with_reducible assumption))
    | (with_reducible exact goodD_mk (by with_reducible assumption))
    | split)
theorem good_doAdcRegTrigger {kc : Ch} (n : Nat) (src : Nat) (c : Chan) (h_c : c.Good kc) : (doAdcRegTrigger n src c).Good kc := by
  unfold doAdcRegTrigger
  repeat' (first
    | with_reducible assumption
    | with_reducible apply good_Chan_regTrigger
    | with_reducible apply good_foldl
    | with_reducible apply goodD_foldl
    | with_reducible apply goodM_foldl
    | with_reducible apply good_Chan_inv
    | with_reducible apply good_Chan_invNil
    | (with_reducible exact good_mk (by with_reducible assumption))
    | (with_reducible exact goodD_mk (by with_reducible assumption))
    | split)
theorem good_doConvReqInjSw {kc : Ch} (n : Nat) (c : Chan) (h_c : c.Good kc) : (doConvReqInjSw n c).Good kc := by
  unfold doConvReqInjSw
  repeat' (first
    | with_reducible assumption
    | with_reducible apply good_Chan_wr
    | with_reducible apply good_Dev_wr
    | with_reducible apply good_Chan_injTrigger
    | with_reducible apply good_foldl
    | with_reducible apply goodD_foldl
    | with_reducible apply goodM_foldl
    | with_reducible apply good_Chan_inv
    | with_reducible apply good_Chan_invNil
    | (with_reducible exact good_mk (by with_reducible assumption))
    | (with_reducible exact goodD_mk (by with_reducible assumption))
    | split
    | (intro _)
    | (extract_lets +onlyGivenNames x; first | (refine good_use (x := x) ?_ (fun hx => ?_)) | (refine good_use (x := x.1) ?_ (fun hx => ?_)) | (refine (have hx : Dev.Good x := ?_; ?_)) | (refine (have hx : Dev.Good x.1 := ?_; ?_)) | (refine (have hx : Mach.Good x := ?_; ?_)) | (refine (have hx : Mach.Good x.1 := ?_; ?_)) | (refine (have hx : Mach.Good x.m := ?_; ?_)) | clear_value x))
theorem good_doConvReqRegSw {kc : Ch} (n : Nat) (c : Chan) (h_c : c.Good kc) : (doConvReqRegSw n c).Good kc := by
  unfold doConvReqRegSw
  repeat' (first
    | with_reducible assumption
    | with_reducible apply good_Chan_wr
    | with_reducible apply good_Dev_wr
    | with_reducible apply good_Chan_regTrigger
    | with_reducible apply good_foldl
    | with_reducible apply goodD_foldl
    | with_reducible apply goodM_foldl
    | with_reducible apply good_Chan_inv
    | with_reducible apply good_Chan_invNil
    | (with_reducible exact good_mk (by with_reducible assumption))
    | (with_reducible exact goodD_mk (by with_reducible assumption))
    | split
    | (intro _)
    | (extract_lets +onlyGivenNames x; first | (refine good_use (x := x) ?_ (fun hx => ?_)) | (refine good_use (x := x.1) ?_ (fun hx => ?_)) | (refine (have hx : Dev.Good x := ?_; ?_)) | (refine (have hx : Dev.Good x.1 := ?_; ?_)) | (refine (have hx : Mach.Good x := ?_; ?_)) | (refine (have hx : Mach.Good x.1 := ?_; ?_)) | (refine (have hx : Mach.Good x.m := ?_; ?_)) | clear_value x))
theorem good_doAdcScanTick {kc : Ch} (c : Chan) (h_c : c.Good kc) : (doAdcScanTick c).Good kc := by
  unfold doAdcScanTick
  repeat' (first
    | with_reducible assumption
    | with_reducible apply good_Chan_regTrigger
    | with_reducible apply good_foldl
    | with_reducible apply goodD_foldl
    | with_reducible apply goodM_foldl
    | with_reducible apply good_Chan_inv
    | with_reducible apply good_Chan_invNil
    | (with_reducible exact good_mk (by with_reducible assumption))
    | (with_reducible exact goodD_mk (by with_reducible assumption))
    | split)
theorem good_doAdcStall {kc : Ch} (c : Chan) (h_c : c.Good kc) : (doAdcStall c).Good kc := by
  unfold doAdcStall
  repeat' (first
    | with_reducible assumption
    | with_reducible apply good_Chan_raise)
theorem good_doFifoDataRead {kc : Ch} (n : Nat) (c : Chan) (h_c : c.Good kc) : (doFifoDataRead n c).Good kc := by
  unfold doFifoDataRead
  repeat' (first
    | with_reducible assumption
    | with_reducible apply good_Chan_wr
    | with_reducible apply good_Dev_wr
    | with_reducible apply good_Chan_onConv
    | with_reducible apply good_foldl
    | with_reducible apply goodD_foldl
    | with_reducible apply goodM_foldl
    | with_reducible apply good_Chan_inv
    | with_reducible apply good_Chan_invNil
    | (with_reducible exact good_mk (by with_reducible assumption))
    | (with_reducible exact goodD_mk (by with_reducible assumption))
    | split)
theorem good_doFifoFlush {kc : Ch} (n : Nat) (c : Chan) (h_c : c.Good kc) : (doFifoFlush n c).Good kc := by
  unfold doFifoFlush
  repeat' (first
    | with_reducible assumption
    | with_reducible apply good_Chan_onConv
    | with_reducible apply good_Chan_wr
    | with_reducible apply good_Dev_wr
    | with_reducible apply good_Chan_p
    | with_reducible apply good_Dev_p
    | with_reducible apply good_foldl
    | with_reducible apply goodD_foldl
    | with_reducible apply goodM_foldl
    | with_reducible apply good_Chan_inv
    | with_reducible apply good_Chan_invNil
    | (with_reducible exact good_mk (by with_reducible assumption))
    | (with_reducible exact goodD_mk (by with_reducible assumption))
    | split)
theorem good_Chan_adcBeforeLand {kc : Ch} (c : Chan) (h_c : c.Good kc) : (Chan.adcBeforeLand c).Good kc := by
  unfold Chan.adcBeforeLand
  repeat' (first
    | with_reducible assumption
    | with_reducible apply good_Chan_each
    | with_reducible apply good_Dev_each
    | with_reducible apply good_Chan_onConv
    | with_reducible apply good_foldl
    | with_reducible apply goodD_foldl
    | with_reducible apply goodM_foldl
    | with_reducible apply good_Chan_inv
    | with_reducible apply good_Chan_invNil
    | (with_reducible exact good_mk (by with_reducible assumption))
    | (with_reducible exact goodD_mk (by with_reducible assumption))
    | split
    | (intro _))
theorem good_Chan_adcAfterLand {kc : Ch} (c : Chan) (h_c : c.Good kc) : (Chan.adcAfterLand c).Good kc := by
  unfold Chan.adcAfterLand
  repeat' (first
    | with_reducible assumption
    | with_reducible apply good_Chan_each
    | with_reducible apply good_Dev_each
    | with_reducible apply good_Chan_onConv
    | with_reducible apply good_Chan_regTrigger
    | with_reducible apply good_foldl
    | with_reducible apply goodD_foldl
    | with_reducible apply goodM_foldl
    | with_reducible apply good_Chan_inv
    | with_reducible apply good_Chan_invNil
    | (with_reducible exact good_mk (by with_reducible assumption))
    | (with_reducible exact goodD_mk (by with_reducible assumption))
    | split
    | (intro _)
    | (extract_lets +onlyGivenNames x; first | (refine good_use (x := x) ?_ (fun hx => ?_)) | (refine good_use (x := x.1) ?_ (fun hx => ?_)) | (refine (have hx : Dev.Good x := ?_; ?_)) | (refine (have hx : Dev.Good x.1 := ?_; ?_)) | (refine (have hx : Mach.Good x := ?_; ?_)) | (refine (have hx : Mach.Good x.1 := ?_; ?_)) | (refine (have hx : Mach.Good x.m := ?_; ?_)) | clear_value x))
theorem good_Chan_wcmpLand {kc : Ch} (c : Chan) (o : Chan) (h_c : c.Good kc) (h_o : o.Good kc) : (Chan.wcmpLand c o).Good kc := by
  unfold Chan.wcmpLand
  repeat' (first
    | with_reducible assumption
    | with_reducible apply good_Chan_each
    | with_reducible apply good_Dev_each
    | with_reducible apply good_Chan_clear
    | with_reducible apply good_Dev_clear
    | with_reducible apply good_foldl
    | with_reducible apply goodD_foldl
    | with_reducible apply goodM_foldl
    | with_reducible apply good_Chan_inv
    | with_reducible apply good_Chan_invNil
    | (with_reducible exact good_mk (by with_reducible assumption))
    | (with_reducible exact goodD_mk (by with_reducible assumption))
    | split
    | (intro _))
theorem good_Chan_onSd {kc : Ch} (c : Chan) (n : Nat) (f : SdIn → SdIn) (h_c : c.Good kc) : (Chan.onSd c n f).Good kc := by
  unfold Chan.onSd
  repeat' (first
    | with_reducible assumption
    | with_reducible apply good_Chan_onSinc)
theorem good_Chan_sdFlush {kc : Ch} (c : Chan) (n : Nat) (byLand : Bool) (h_c : c.Good kc) : (Chan.sdFlush c n byLand).Good kc := by
  unfold Chan.sdFlush
  repeat' (first
    | with_reducible assumption
    | with_reducible apply good_Chan_onSd
    | with_reducible apply good_Chan_pb
    | with_reducible apply good_Dev_pb
    | with_reducible apply good_Chan_p)
theorem good_Chan_sdLose {kc : Ch} (c : Chan) (n : Nat) (h_c : c.Good kc) : (Chan.sdLose c n).Good kc := by
  unfold Chan.sdLose
  repeat' (first
    | with_reducible assumption
    | with_reducible apply good_Chan_sdFlush
    | with_reducible apply good_Chan_satInc)
theorem good_Chan_sdSettle {kc : Ch} (c : Chan) (n : Nat) (h_c : c.Good kc) : (Chan.sdSettle c n).Good kc := by
  unfold Chan.sdSettle
  repeat' (first
    | with_reducible assumption
    | with_reducible apply good_Chan_onSd
    | with_reducible apply good_live
    | with_reducible apply good_Chan_pb
    | with_reducible apply good_Dev_pb
    | with_reducible apply good_foldl
    | with_reducible apply goodD_foldl
    | with_reducible apply goodM_foldl
    | with_reducible apply good_Chan_inv
    | with_reducible apply good_Chan_invNil
    | (with_reducible exact good_mk (by with_reducible assumption))
    | (with_reducible exact goodD_mk (by with_reducible assumption))
    | split)
theorem good_Chan_sdLoseAll {kc : Ch} (c : Chan) (h_c : c.Good kc) : (Chan.sdLoseAll c).Good kc := by
  unfold Chan.sdLoseAll
  repeat' (first
    | with_reducible assumption
    | with_reducible apply good_Chan_each
    | with_reducible apply good_Dev_each
    | with_reducible apply good_Chan_sdLose
    | with_reducible apply good_foldl
    | with_reducible apply goodD_foldl
    | with_reducible apply goodM_foldl
    | with_reducible apply good_Chan_inv
    | with_reducible apply good_Chan_invNil
    | (with_reducible exact good_mk (by with_reducible assumption))
    | (with_reducible exact goodD_mk (by with_reducible assumption))
    | split
    | (intro _))
theorem good_Chan_sdSettleAll {kc : Ch} (c : Chan) (h_c : c.Good kc) : (Chan.sdSettleAll c).Good kc := by
  unfold Chan.sdSettleAll
  repeat' (first
    | with_reducible assumption
    | with_reducible apply good_Chan_each
    | with_reducible apply good_Dev_each
    | with_reducible apply good_Chan_sdSettle)
theorem good_doSdMclkMeasure {kc : Ch} (p : Nat) (c : Chan) (h_c : c.Good kc) : (doSdMclkMeasure p c).Good kc := by
  unfold doSdMclkMeasure
  repeat' (first
    | with_reducible assumption
    | with_reducible apply good_Chan_p
    | with_reducible apply good_Dev_p
    | with_reducible apply good_Chan_onSinc
    | with_reducible apply good_Chan_sdLoseAll
    | with_reducible apply good_Chan_raise
    | with_reducible apply good_Dev_raise
    | with_reducible apply good_Chan_secEval
    | with_reducible apply good_Chan_clear
    | with_reducible apply good_Dev_clear
    | with_reducible apply good_Chan_sdSettleAll
    | with_reducible apply good_foldl
    | with_reducible apply goodD_foldl
    | with_reducible apply goodM_foldl
    | with_reducible apply good_Chan_inv
    | with_reducible apply good_Chan_invNil
    | (with_reducible exact good_mk (by with_reducible assumption))
    | (with_reducible exact goodD_mk (by with_reducible assumption))
    | split
    | (intro _)
    | (extract_lets +onlyGivenNames x; first | (refine good_use (x := x) ?_ (fun hx => ?_)) | (refine good_use (x := x.1) ?_ (fun hx => ?_)) | (refine (have hx : Dev.Good x := ?_; ?_)) | (refine (have hx : Dev.Good x.1 := ?_; ?_)) | (refine (have hx : Mach.Good x := ?_; ?_)) | (refine (have hx : Mach.Good x.1 := ?_; ?_)) | (refine (have hx : Mach.Good x.m := ?_; ?_)) | clear_value x))
theorem good_doClkLoss {kc : Ch} (c : Chan) (h_c : c.Good kc) : (doClkLoss c).Good kc := by
  unfold doClkLoss
  repeat' (first
    | with_reducible assumption
    | with_reducible apply good_Chan_onSinc
    | with_reducible apply good_Chan_p
    | with_reducible apply good_Dev_p
    | with_reducible apply good_Chan_sdLoseAll
    | with_reducible apply good_Chan_raise
    | with_reducible apply good_Dev_raise
    | with_reducible apply good_Chan_secEval
    | with_reducible apply good_foldl
    | with_reducible apply goodD_foldl
    | with_reducible apply goodM_foldl
    | with_reducible apply good_Chan_inv
    | with_reducible apply good_Chan_invNil
    | (with_reducible exact good_mk (by with_reducible assumption))
    | (with_reducible exact goodD_mk (by with_reducible assumption))
    | split)
theorem good_doSdClockResume {kc : Ch} (c : Chan) (h_c : c.Good kc) : (doSdClockResume c).Good kc := by
  unfold doSdClockResume
  repeat' (first
    | with_reducible assumption
    | with_reducible apply good_Chan_p
    | with_reducible apply good_Dev_p
    | with_reducible apply good_Chan_onSinc
    | with_reducible apply good_Chan_clear
    | with_reducible apply good_Dev_clear
    | with_reducible apply good_Chan_sdSettleAll
    | with_reducible apply good_Chan_secEval
    | with_reducible apply good_foldl
    | with_reducible apply goodD_foldl
    | with_reducible apply goodM_foldl
    | with_reducible apply good_Chan_inv
    | with_reducible apply good_Chan_invNil
    | (with_reducible exact good_mk (by with_reducible assumption))
    | (with_reducible exact goodD_mk (by with_reducible assumption))
    | split)
theorem good_doStuckData {kc : Ch} (n : Nat) (c : Chan) (h_c : c.Good kc) : (doStuckData n c).Good kc := by
  unfold doStuckData
  repeat' (first
    | with_reducible assumption
    | with_reducible apply good_Chan_pb
    | with_reducible apply good_Dev_pb
    | with_reducible apply good_Chan_sdLose
    | with_reducible apply good_Chan_raise
    | with_reducible apply good_Dev_raise
    | with_reducible apply good_Chan_secEval
    | with_reducible apply good_foldl
    | with_reducible apply goodD_foldl
    | with_reducible apply goodM_foldl
    | with_reducible apply good_Chan_inv
    | with_reducible apply good_Chan_invNil
    | (with_reducible exact good_mk (by with_reducible assumption))
    | (with_reducible exact goodD_mk (by with_reducible assumption))
    | split)
theorem good_doSdStuckEnd {kc : Ch} (n : Nat) (c : Chan) (h_c : c.Good kc) : (doSdStuckEnd n c).Good kc := by
  unfold doSdStuckEnd
  repeat' (first
    | with_reducible assumption
    | with_reducible apply good_Chan_pb
    | with_reducible apply good_Dev_pb
    | with_reducible apply good_Chan_clear
    | with_reducible apply good_Dev_clear
    | with_reducible apply good_Chan_sdSettle
    | with_reducible apply good_Chan_secEval
    | with_reducible apply good_foldl
    | with_reducible apply goodD_foldl
    | with_reducible apply goodM_foldl
    | with_reducible apply good_Chan_inv
    | with_reducible apply good_Chan_invNil
    | (with_reducible exact good_mk (by with_reducible assumption))
    | (with_reducible exact goodD_mk (by with_reducible assumption))
    | split)
theorem good_Chan_sdWindow {kc : Ch} (c : Chan) (n : Nat) (h_c : c.Good kc) : (c.sdWindow n).Good kc := by
  unfold Chan.sdWindow
  repeat' (first
    | with_reducible assumption
    | with_reducible apply good_live
    | with_reducible apply good_Chan_onSd
    | with_reducible apply good_Chan_wr
    | with_reducible apply good_Dev_wr
    | with_reducible apply good_Chan_p
    | with_reducible apply good_Dev_p
    | with_reducible apply good_Chan_pb
    | with_reducible apply good_Dev_pb
    | with_reducible apply good_Chan_secSample
    | with_reducible apply good_Chan_secEval
    | with_reducible apply good_foldl
    | with_reducible apply goodD_foldl
    | with_reducible apply goodM_foldl
    | with_reducible apply good_Chan_inv
    | with_reducible apply good_Chan_invNil
    | (with_reducible exact good_mk (by with_reducible assumption))
    | (with_reducible exact goodD_mk (by with_reducible assumption))
    | split
    | (intro _)
    | (extract_lets +onlyGivenNames x; first | (refine good_use (x := x) ?_ (fun hx => ?_)) | (refine good_use (x := x.1) ?_ (fun hx => ?_)) | (refine (have hx : Dev.Good x := ?_; ?_)) | (refine (have hx : Dev.Good x.1 := ?_; ?_)) | (refine (have hx : Mach.Good x := ?_; ?_)) | (refine (have hx : Mach.Good x.1 := ?_; ?_)) | (refine (have hx : Mach.Good x.m := ?_; ?_)) | clear_value x))
theorem good_Chan_sdVerdict {kc : Ch} (c : Chan) (n : Nat) (v : Int) (h_c : c.Good kc) : (Chan.sdVerdict c n v).Good kc := by
  unfold Chan.sdVerdict
  repeat' (first
    | with_reducible assumption
    | with_reducible apply good_Chan_onSd
    | with_reducible apply good_Chan_p
    | with_reducible apply good_Dev_p
    | with_reducible apply good_Chan_raise
    | with_reducible apply good_Dev_raise
    | with_reducible apply good_Chan_clear
    | with_reducible apply good_Dev_clear
    | with_reducible apply good_foldl
    | with_reducible apply goodD_foldl
    | with_reducible apply goodM_foldl
    | with_reducible apply good_Chan_inv
    | with_reducible apply good_Chan_invNil
    | (with_reducible exact good_mk (by with_reducible assumption))
    | (with_reducible exact goodD_mk (by with_reducible assumption))
    | split
    | (intro _)
    | (extract_lets +onlyGivenNames x; first | (refine good_use (x := x) ?_ (fun hx => ?_)) | (refine good_use (x := x.1) ?_ (fun hx => ?_)) | (refine (have hx : Dev.Good x := ?_; ?_)) | (refine (have hx : Dev.Good x.1 := ?_; ?_)) | (refine (have hx : Mach.Good x := ?_; ?_)) | (refine (have hx : Mach.Good x.1 := ?_; ?_)) | (refine (have hx : Mach.Good x.m := ?_; ?_)) | clear_value x))
theorem good_doSdComparatorOutput {kc : Ch} (n : Nat) (bit : Bool) (c : Chan) (h_c : c.Good kc) : (doSdComparatorOutput n bit c).Good kc := by
  unfold doSdComparatorOutput
  repeat' (first
    | with_reducible assumption
    | with_reducible apply good_live
    | with_reducible apply good_Chan_onSd
    | with_reducible apply good_Mach_take
    | with_reducible apply good_Chan_pi
    | with_reducible apply good_Chan_sdVerdict
    | with_reducible apply good_foldl
    | with_reducible apply goodD_foldl
    | with_reducible apply goodM_foldl
    | with_reducible apply good_Chan_inv
    | with_reducible apply good_Chan_invNil
    | (with_reducible exact good_mk (by with_reducible assumption))
    | (with_reducible exact goodD_mk (by with_reducible assumption))
    | split
    | (intro _)
    | (extract_lets +onlyGivenNames x; first | (refine good_use (x := x) ?_ (fun hx => ?_)) | (refine good_use (x := x.1) ?_ (fun hx => ?_)) | (refine (have hx : Dev.Good x := ?_; ?_)) | (refine (have hx : Dev.Good x.1 := ?_; ?_)) | (refine (have hx : Mach.Good x := ?_; ?_)) | (refine (have hx : Mach.Good x.1 := ?_; ?_)) | (refine (have hx : Mach.Good x.m := ?_; ?_)) | clear_value x))

theorem good_doSdDataFilterOutput {kc : Ch} (n : Nat) (tail : List Bool) (c : Chan) (h_c : c.Good kc) : (doSdDataFilterOutput n tail c).Good kc :=
  good_Chan_sdWindow _ n (good_foldl (fun x b h => good_doSdComparatorOutput n b x h) h_c)

theorem good_Chan_landSinc {kc : Ch} (c : Chan) (h_c : c.Good kc) : (Chan.landSinc c).Good kc := by
  unfold Chan.landSinc
  repeat' (first
    | with_reducible assumption
    | with_reducible apply good_Chan_each
    | with_reducible apply good_Dev_each
    | with_reducible apply good_Chan_sdFlush
    | with_reducible apply good_Chan_p
    | with_reducible apply good_Dev_p
    | with_reducible apply good_Chan_clear
    | with_reducible apply good_Dev_clear
    | with_reducible apply good_Chan_sdSettleAll
    | with_reducible apply good_Chan_secEval
    | with_reducible apply good_foldl
    | with_reducible apply goodD_foldl
    | with_reducible apply goodM_foldl
    | with_reducible apply good_Chan_inv
    | with_reducible apply good_Chan_invNil
    | (with_reducible exact good_mk (by with_reducible assumption))
    | (with_reducible exact goodD_mk (by with_reducible assumption))
    | split
    | (intro _)
    | (extract_lets +onlyGivenNames x; first | (refine good_use (x := x) ?_ (fun hx => ?_)) | (refine good_use (x := x.1) ?_ (fun hx => ?_)) | (refine (have hx : Dev.Good x := ?_; ?_)) | (refine (have hx : Dev.Good x.1 := ?_; ?_)) | (refine (have hx : Mach.Good x := ?_; ?_)) | (refine (have hx : Mach.Good x.1 := ?_; ?_)) | (refine (have hx : Mach.Good x.m := ?_; ?_)) | clear_value x))


end Sys2Proof.Machine
end

