-- ==== Sys2Proof/Laws/GoodChanB.lean ====
section
/-! SUPPORT. Laws/GoodChanB.lean: the canonical form under the commands of the channels' engine, commits and skim. -/

set_option Elab.async false

namespace Sys2Proof.Machine
open Sys2Proof

theorem good_Chan_inv {kc : Ch} (c : Chan) (a v : Nat) (h : c.Good kc) : ({ c with inv := RegMap.set c.inv 0 a v } : Chan).Good kc :=
  ⟨h.1, h.2.1, h.2.2.1, wf_set (fun _ => 0) _ _ _ h.2.2.2.1, h.2.2.2.2⟩
theorem good_Chan_invNil {kc : Ch} (c : Chan) (h : c.Good kc) : ({ c with inv := [] } : Chan).Good kc := ⟨h.1, h.2.1, h.2.2.1, rfl, h.2.2.2.2⟩
theorem good_Mach_view (m : Mach) (ch : Ch) (h : m.Good) : (m.view ch).Good ch := good_Mach_chan m ch h
theorem good_Chan_toOff {kc : Ch} (c : Chan) (r : ResetKind) (h_c : c.Good kc) : (c.toOff r).Good kc := by
  unfold Chan.toOff
  exact good_foldl (fun d x h => good_Chan_p d x _ h) ⟨h_c.1, rfl, rfl, rfl, rfl⟩

theorem good_Chan_comparePhase {kc : Ch} (c : Chan) (p : PrimSet) (k : Nat) (h_c : c.Good kc) : (Chan.comparePhase c p k).Good kc := by
  unfold Chan.comparePhase
  repeat' (first
    | with_reducible assumption
    | with_reducible apply good_Chan_p
    | with_reducible apply good_Dev_p
    | with_reducible apply good_Res_ok
    | with_reducible apply good_Chan_pi
    | with_reducible apply good_Chan_onXchk
    | with_reducible apply good_Chan_raise
    | with_reducible apply good_Dev_raise
    | with_reducible apply good_Chan_clear
    | with_reducible apply good_Dev_clear
    | with_reducible apply good_foldl
    | with_reducible apply goodD_foldl
    | with_reducible apply goodM_foldl
    | with_reducible apply good_Chan_inv
    | with_reducible apply good_Chan_invNil
    | (with_reducible exact good_mk (by with_reducible assumption))
    | (with_reducible exact goodD_mk (by with_reducible assumption))
    | split
    | (intro _)
    | (extract_lets +onlyGivenNames x; first | (refine good_use (x := x) ?_ (fun hx => ?_)) | (refine good_use (x := x.1) ?_ (fun hx => ?_)) | (refine (have hx : Dev.Good x := ?_; ?_)) | (refine (have hx : Dev.Good x.1 := ?_; ?_)) | (refine (have hx : Mach.Good x := ?_; ?_)) | (refine (have hx : Mach.Good x.1 := ?_; ?_)) | (refine (have hx : Mach.Good x.m := ?_; ?_)) | clear_value x))
theorem good_Chan_zeroSum {kc : Ch} (c : Chan) (p : PrimSet) (h_c : c.Good kc) : (Chan.zeroSum c p).Good kc := by
  unfold Chan.zeroSum
  repeat' (first
    | with_reducible assumption
    | with_reducible apply good_Chan_p
    | with_reducible apply good_Dev_p
    | with_reducible apply good_Res_ok
    | with_reducible apply good_Chan_pi
    | with_reducible apply good_Chan_onXchk
    | with_reducible apply good_Chan_raise
    | with_reducible apply good_Dev_raise
    | with_reducible apply good_Chan_clear
    | with_reducible apply good_Dev_clear
    | with_reducible apply good_foldl
    | with_reducible apply goodD_foldl
    | with_reducible apply goodM_foldl
    | with_reducible apply good_Chan_inv
    | with_reducible apply good_Chan_invNil
    | (with_reducible exact good_mk (by with_reducible assumption))
    | (with_reducible exact goodD_mk (by with_reducible assumption))
    | split
    | (intro _)
    | (extract_lets +onlyGivenNames x; first | (refine good_use (x := x) ?_ (fun hx => ?_)) | (refine good_use (x := x.1) ?_ (fun hx => ?_)) | (refine (have hx : Dev.Good x := ?_; ?_)) | (refine (have hx : Dev.Good x.1 := ?_; ?_)) | (refine (have hx : Mach.Good x := ?_; ?_)) | (refine (have hx : Mach.Good x.1 := ?_; ?_)) | (refine (have hx : Mach.Good x.m := ?_; ?_)) | clear_value x))
theorem good_Chan_compareSet {kc : Ch} (c : Chan) (i : Nat) (p : PrimSet) (ks : List Nat) (h_c : c.Good kc) : (Chan.compareSet c i p ks).Good kc := by
  unfold Chan.compareSet
  repeat' (first
    | with_reducible assumption
    | with_reducible apply good_Chan_onXchk
    | with_reducible apply good_Chan_p
    | with_reducible apply good_Dev_p
    | with_reducible apply good_Chan_comparePhase
    | with_reducible apply good_Chan_zeroSum
    | with_reducible apply good_foldl
    | with_reducible apply goodD_foldl
    | with_reducible apply goodM_foldl
    | with_reducible apply good_Chan_inv
    | with_reducible apply good_Chan_invNil
    | (with_reducible exact good_mk (by with_reducible assumption))
    | (with_reducible exact goodD_mk (by with_reducible assumption))
    | split
    | (intro _))
theorem good_Chan_crossCheck {kc : Ch} (c : Chan) (h_c : c.Good kc) : (Chan.crossCheck c).Good kc := by
  unfold Chan.crossCheck
  repeat' (first
    | with_reducible assumption
    | with_reducible apply good_Chan_p
    | with_reducible apply good_Dev_p
    | with_reducible apply good_Chan_compareSet
    | with_reducible apply good_Chan_raise
    | with_reducible apply good_Dev_raise
    | with_reducible apply good_foldl
    | with_reducible apply goodD_foldl
    | with_reducible apply goodM_foldl
    | with_reducible apply good_Chan_inv
    | with_reducible apply good_Chan_invNil
    | (with_reducible exact good_mk (by with_reducible assumption))
    | (with_reducible exact goodD_mk (by with_reducible assumption))
    | split
    | (intro _)
    | (extract_lets +onlyGivenNames x; first | (refine good_use (x := x) ?_ (fun hx => ?_)) | (refine good_use (x := x.1) ?_ (fun hx => ?_)) | (refine (have hx : Dev.Good x := ?_; ?_)) | (refine (have hx : Dev.Good x.1 := ?_; ?_)) | (refine (have hx : Mach.Good x := ?_; ?_)) | (refine (have hx : Mach.Good x.1 := ?_; ?_)) | (refine (have hx : Mach.Good x.m := ?_; ?_)) | clear_value x))
theorem good_Chan_ageCheck {kc : Ch} (c : Chan) (h_c : c.Good kc) : (Chan.ageCheck c).Good kc := by
  unfold Chan.ageCheck
  repeat' (first
    | with_reducible assumption
    | with_reducible apply good_Chan_onXchk
    | with_reducible apply good_Chan_xcShow
    | with_reducible apply good_Chan_follow)
theorem good_Chan_position {kc : Ch} (c : Chan) (h_c : c.Good kc) : (Chan.position c).Good kc := by
  unfold Chan.position
  repeat' (first
    | with_reducible assumption
    | with_reducible apply good_Chan_p
    | with_reducible apply good_Dev_p
    | with_reducible apply good_Chan_pi
    | with_reducible apply good_Chan_wr
    | with_reducible apply good_Dev_wr
    | with_reducible apply good_foldl
    | with_reducible apply goodD_foldl
    | with_reducible apply goodM_foldl
    | with_reducible apply good_Chan_inv
    | with_reducible apply good_Chan_invNil
    | (with_reducible exact good_mk (by with_reducible assumption))
    | (with_reducible exact goodD_mk (by with_reducible assumption))
    | split)
theorem good_doResolverEvent {kc : Ch} (second : Bool) (c : Chan) (h_c : c.Good kc) : (doResolverEvent second c).Good kc := by
  unfold doResolverEvent
  repeat' (first
    | with_reducible assumption
    | with_reducible apply good_Chan_onXchk
    | with_reducible apply good_Chan_adcResolver
    | with_reducible apply good_foldl
    | with_reducible apply goodD_foldl
    | with_reducible apply goodM_foldl
    | with_reducible apply good_Chan_inv
    | with_reducible apply good_Chan_invNil
    | (with_reducible exact good_mk (by with_reducible assumption))
    | (with_reducible exact goodD_mk (by with_reducible assumption))
    | split)
theorem good_doEncoderEdge {kc : Ch} (a : Bool) (b : Bool) (c : Chan) (h_c : c.Good kc) : (doEncoderEdge a b c).Good kc := by
  unfold doEncoderEdge
  repeat' (first
    | with_reducible assumption
    | with_reducible apply good_Chan_onXchk
    | with_reducible apply good_Chan_raise
    | with_reducible apply good_Dev_raise
    | with_reducible apply good_Mach_take
    | with_reducible apply good_Chan_p
    | with_reducible apply good_Dev_p
    | with_reducible apply good_foldl
    | with_reducible apply goodD_foldl
    | with_reducible apply goodM_foldl
    | with_reducible apply good_Chan_inv
    | with_reducible apply good_Chan_invNil
    | (with_reducible exact good_mk (by with_reducible assumption))
    | (with_reducible exact goodD_mk (by with_reducible assumption))
    | split
    | (intro _)
    | (extract_lets +onlyGivenNames x; first | (refine good_use (x := x) ?_ (fun hx => ?_)) | (refine good_use (x := x.1) ?_ (fun hx => ?_)) | (refine (have hx : Dev.Good x := ?_; ?_)) | (refine (have hx : Dev.Good x.1 := ?_; ?_)) | (refine (have hx : Mach.Good x := ?_; ?_)) | (refine (have hx : Mach.Good x.1 := ?_; ?_)) | (refine (have hx : Mach.Good x.m := ?_; ?_)) | clear_value x))
theorem good_doEncoderIndex {kc : Ch} (c : Chan) (h_c : c.Good kc) : (doEncoderIndex c).Good kc := by
  unfold doEncoderIndex
  repeat' (first
    | with_reducible assumption
    | with_reducible apply good_Chan_p
    | with_reducible apply good_Dev_p
    | with_reducible apply good_Chan_clear
    | with_reducible apply good_Dev_clear
    | with_reducible apply good_Chan_raise
    | with_reducible apply good_Dev_raise
    | with_reducible apply good_foldl
    | with_reducible apply goodD_foldl
    | with_reducible apply goodM_foldl
    | with_reducible apply good_Chan_inv
    | with_reducible apply good_Chan_invNil
    | (with_reducible exact good_mk (by with_reducible assumption))
    | (with_reducible exact goodD_mk (by with_reducible assumption))
    | split
    | (intro _)
    | (extract_lets +onlyGivenNames x; first | (refine good_use (x := x) ?_ (fun hx => ?_)) | (refine good_use (x := x.1) ?_ (fun hx => ?_)) | (refine (have hx : Dev.Good x := ?_; ?_)) | (refine (have hx : Dev.Good x.1 := ?_; ?_)) | (refine (have hx : Mach.Good x := ?_; ?_)) | (refine (have hx : Mach.Good x.1 := ?_; ?_)) | (refine (have hx : Mach.Good x.m := ?_; ?_)) | clear_value x))
theorem good_doEncoderSpeedTimeout {kc : Ch} (c : Chan) (h_c : c.Good kc) : (doEncoderSpeedTimeout c).Good kc := by
  unfold doEncoderSpeedTimeout
  repeat' (first
    | with_reducible assumption
    | with_reducible apply good_Chan_onXchk
    | with_reducible apply good_foldl
    | with_reducible apply goodD_foldl
    | with_reducible apply goodM_foldl
    | with_reducible apply good_Chan_inv
    | with_reducible apply good_Chan_invNil
    | (with_reducible exact good_mk (by with_reducible assumption))
    | (with_reducible exact goodD_mk (by with_reducible assumption))
    | split)
theorem good_doDclAltStale {kc : Ch} (c : Chan) (h_c : c.Good kc) : (doDclAltStale c).Good kc := by
  unfold doDclAltStale
  repeat' (first
    | with_reducible assumption
    | with_reducible apply good_Chan_raise
    | with_reducible apply good_Dev_raise
    | with_reducible apply good_foldl
    | with_reducible apply goodD_foldl
    | with_reducible apply goodM_foldl
    | with_reducible apply good_Chan_inv
    | with_reducible apply good_Chan_invNil
    | (with_reducible exact good_mk (by with_reducible assumption))
    | (with_reducible exact goodD_mk (by with_reducible assumption))
    | split)
theorem good_Chan_dclReport {kc : Ch} (c : Chan) (leg : Nat) (v : Int) (h_c : c.Good kc) : (Chan.dclReport c leg v).Good kc := by
  unfold Chan.dclReport
  repeat' (first
    | with_reducible assumption
    | with_reducible apply good_Chan_wr
    | with_reducible apply good_Dev_wr
    | with_reducible apply good_Chan_clear
    | with_reducible apply good_Dev_clear
    | with_reducible apply good_Chan_onXchk
    | with_reducible apply good_Chan_p
    | with_reducible apply good_Dev_p
    | with_reducible apply good_Chan_dclCompare
    | with_reducible apply good_foldl
    | with_reducible apply goodD_foldl
    | with_reducible apply goodM_foldl
    | with_reducible apply good_Chan_inv
    | with_reducible apply good_Chan_invNil
    | (with_reducible exact good_mk (by with_reducible assumption))
    | (with_reducible exact goodD_mk (by with_reducible assumption))
    | split)
theorem good_Chan_landXchk {kc : Ch} (c : Chan) (h_c : c.Good kc) : (Chan.landXchk c).Good kc := by
  unfold Chan.landXchk
  repeat' (first
    | with_reducible assumption
    | with_reducible apply good_Chan_onXchk
    | with_reducible apply good_Res_ok
    | with_reducible apply good_Chan_p
    | with_reducible apply good_Dev_p
    | with_reducible apply good_Chan_clear
    | with_reducible apply good_Dev_clear
    | with_reducible apply good_Chan_secEval
    | with_reducible apply good_foldl
    | with_reducible apply goodD_foldl
    | with_reducible apply goodM_foldl
    | with_reducible apply good_Chan_inv
    | with_reducible apply good_Chan_invNil
    | (with_reducible exact good_mk (by with_reducible assumption))
    | (with_reducible exact goodD_mk (by with_reducible assumption))
    | split)
theorem good_Chan_offMonitor {kc : Ch} (c : Chan) (s : Nat) (v : Int) (h_c : c.Good kc) : (Chan.offMonitor c s v).Good kc := by
  unfold Chan.offMonitor
  repeat' (first
    | with_reducible assumption
    | with_reducible apply good_Chan_onDust
    | with_reducible apply good_Chan_legSet
    | with_reducible apply good_Chan_pulse
    | with_reducible apply good_Dev_pulse
    | with_reducible apply good_foldl
    | with_reducible apply goodD_foldl
    | with_reducible apply goodM_foldl
    | with_reducible apply good_Chan_inv
    | with_reducible apply good_Chan_invNil
    | (with_reducible exact good_mk (by with_reducible assumption))
    | (with_reducible exact goodD_mk (by with_reducible assumption))
    | split
    | (intro _)
    | (extract_lets +onlyGivenNames x; first | (refine good_use (x := x) ?_ (fun hx => ?_)) | (refine good_use (x := x.1) ?_ (fun hx => ?_)) | (refine (have hx : Dev.Good x := ?_; ?_)) | (refine (have hx : Dev.Good x.1 := ?_; ?_)) | (refine (have hx : Mach.Good x := ?_; ?_)) | (refine (have hx : Mach.Good x.1 := ?_; ?_)) | (refine (have hx : Mach.Good x.m := ?_; ?_)) | clear_value x))
theorem good_Chan_chopShort {kc : Ch} (c : Chan) (v : Int) (h_c : c.Good kc) : (Chan.chopShort c v).Good kc := by
  unfold Chan.chopShort
  repeat' (first
    | with_reducible assumption
    | with_reducible apply good_Chan_follow
    | with_reducible apply good_Dev_follow
    | with_reducible apply good_foldl
    | with_reducible apply goodD_foldl
    | with_reducible apply goodM_foldl
    | with_reducible apply good_Chan_inv
    | with_reducible apply good_Chan_invNil
    | (with_reducible exact good_mk (by with_reducible assumption))
    | (with_reducible exact goodD_mk (by with_reducible assumption))
    | split
    | (intro _)
    | (extract_lets +onlyGivenNames x; first | (refine good_use (x := x) ?_ (fun hx => ?_)) | (refine good_use (x := x.1) ?_ (fun hx => ?_)) | (refine (have hx : Dev.Good x := ?_; ?_)) | (refine (have hx : Dev.Good x.1 := ?_; ?_)) | (refine (have hx : Mach.Good x := ?_; ?_)) | (refine (have hx : Mach.Good x.1 := ?_; ?_)) | (refine (have hx : Mach.Good x.m := ?_; ?_)) | clear_value x))
theorem good_Chan_vdsIn {kc : Ch} (c : Chan) (s : Nat) (v : Int) (h_c : c.Good kc) : (Chan.vdsIn c s v).Good kc := by
  unfold Chan.vdsIn
  repeat' (first
    | with_reducible assumption
    | with_reducible apply good_Chan_p
    | with_reducible apply good_Dev_p
    | with_reducible apply good_Chan_pi
    | with_reducible apply good_Chan_offMonitor
    | with_reducible apply good_Chan_dclReport
    | with_reducible apply good_Chan_chopShort
    | with_reducible apply good_foldl
    | with_reducible apply goodD_foldl
    | with_reducible apply goodM_foldl
    | with_reducible apply good_Chan_inv
    | with_reducible apply good_Chan_invNil
    | (with_reducible exact good_mk (by with_reducible assumption))
    | (with_reducible exact goodD_mk (by with_reducible assumption))
    | split)
theorem good_doSliceVdsMeasure {kc : Ch} (s : Nat) (v : Int) (c : Chan) (h_c : c.Good kc) : (doSliceVdsMeasure s v c).Good kc := by
  unfold doSliceVdsMeasure
  repeat' (first
    | with_reducible assumption
    | with_reducible apply good_Chan_onSl
    | with_reducible apply good_Chan_vdsIn
    | with_reducible apply good_foldl
    | with_reducible apply goodD_foldl
    | with_reducible apply goodM_foldl
    | with_reducible apply good_Chan_inv
    | with_reducible apply good_Chan_invNil
    | (with_reducible exact good_mk (by with_reducible assumption))
    | (with_reducible exact goodD_mk (by with_reducible assumption))
    | split)
theorem good_doSliceTelemetryFrame {kc : Ch} (s : Nat) (m : Telem) (c : Chan) (h_c : c.Good kc) : (doSliceTelemetryFrame s m c).Good kc := by
  unfold doSliceTelemetryFrame
  repeat' (first
    | with_reducible assumption
    | with_reducible apply good_Chan_frameFrom
    | with_reducible apply good_Chan_railsIn
    | with_reducible apply good_Chan_tempsIn
    | with_reducible apply good_Chan_vdsIn
    | with_reducible apply good_foldl
    | with_reducible apply goodD_foldl
    | with_reducible apply goodM_foldl
    | with_reducible apply good_Chan_inv
    | with_reducible apply good_Chan_invNil
    | (with_reducible exact good_mk (by with_reducible assumption))
    | (with_reducible exact goodD_mk (by with_reducible assumption))
    | split)
theorem good_Chan_tlmRecord {kc : Ch} (c : Chan) (x : Subscr) (h_c : c.Good kc) : (Chan.tlmRecord c x).Good kc := by
  unfold Chan.tlmRecord
  repeat' (first
    | with_reducible assumption
    | with_reducible apply good_foldl
    | with_reducible apply goodD_foldl
    | with_reducible apply goodM_foldl
    | with_reducible apply good_Chan_inv
    | with_reducible apply good_Chan_invNil
    | (with_reducible exact good_mk (by with_reducible assumption)))
theorem good_Chan_tlmSub {kc : Ch} (c : Chan) (i : Nat) (h_c : c.Good kc) : (Chan.tlmSub c i).Good kc := by
  unfold Chan.tlmSub
  repeat' (first
    | with_reducible assumption
    | with_reducible apply good_Chan_tlmRecord
    | with_reducible apply good_foldl
    | with_reducible apply goodD_foldl
    | with_reducible apply goodM_foldl
    | with_reducible apply good_Chan_inv
    | with_reducible apply good_Chan_invNil
    | (with_reducible exact good_mk (by with_reducible assumption))
    | (with_reducible exact goodD_mk (by with_reducible assumption))
    | split)
theorem good_Chan_telemetry {kc : Ch} (c : Chan) (h_c : c.Good kc) : (Chan.telemetry c).Good kc := by
  unfold Chan.telemetry
  repeat' (first
    | with_reducible assumption
    | with_reducible apply good_Chan_each
    | with_reducible apply good_Dev_each
    | with_reducible apply good_Chan_tlmSub)
theorem good_Chan_ringSample {kc : Ch} (c : Chan) (h_c : c.Good kc) : (Chan.ringSample c).Good kc := by
  unfold Chan.ringSample
  repeat' (first
    | with_reducible assumption
    | with_reducible apply good_Mach_take
    | with_reducible apply good_foldl
    | with_reducible apply goodD_foldl
    | with_reducible apply goodM_foldl
    | with_reducible apply good_Chan_inv
    | with_reducible apply good_Chan_invNil
    | (with_reducible exact good_mk (by with_reducible assumption))
    | (with_reducible exact goodD_mk (by with_reducible assumption))
    | split)
theorem good_Chan_onMask {kc : Ch} (c : Chan) (f : Mask → Mask) (h_c : c.Good kc) : (Chan.onMask c f).Good kc := by
  unfold Chan.onMask
  repeat' (first
    | with_reducible assumption
    | with_reducible apply good_foldl
    | with_reducible apply goodD_foldl
    | with_reducible apply goodM_foldl
    | with_reducible apply good_Chan_inv
    | with_reducible apply good_Chan_invNil
    | (with_reducible exact good_mk (by with_reducible assumption)))
theorem good_Chan_landMask {kc : Ch} (c : Chan) (h_c : c.Good kc) : (Chan.landMask c).Good kc := by
  unfold Chan.landMask
  repeat' (first
    | with_reducible assumption
    | with_reducible apply good_Chan_p)
theorem good_Chan_noteRefresh {kc : Ch} (c : Chan) (h_c : c.Good kc) : (Chan.noteRefresh c).Good kc := by
  unfold Chan.noteRefresh
  repeat' (first
    | with_reducible assumption
    | with_reducible apply good_Chan_each
    | with_reducible apply good_Dev_each
    | with_reducible apply good_Chan_refresh
    | with_reducible apply good_Chan_onMask
    | with_reducible apply good_foldl
    | with_reducible apply goodD_foldl
    | with_reducible apply goodM_foldl
    | with_reducible apply good_Chan_inv
    | with_reducible apply good_Chan_invNil
    | (with_reducible exact good_mk (by with_reducible assumption))
    | (with_reducible exact goodD_mk (by with_reducible assumption))
    | split
    | (intro _))
theorem good_Chan_maskEnter {kc : Ch} (c : Chan) (h_c : c.Good kc) : (Chan.maskEnter c).Good kc := by
  unfold Chan.maskEnter
  repeat' (first
    | with_reducible assumption
    | with_reducible apply good_Chan_onMask
    | with_reducible apply good_Chan_maskReport)
theorem good_Chan_maskCounts {kc : Ch} (c : Chan) (hi : Nat) (lo : Nat) (h_c : c.Good kc) : (Chan.maskCounts c hi lo).Good kc := by
  unfold Chan.maskCounts
  repeat' (first
    | with_reducible assumption
    | with_reducible apply good_Chan_each
    | with_reducible apply good_Dev_each
    | with_reducible apply good_Chan_onMask
    | with_reducible apply good_foldl
    | with_reducible apply goodD_foldl
    | with_reducible apply goodM_foldl
    | with_reducible apply good_Chan_inv
    | with_reducible apply good_Chan_invNil
    | (with_reducible exact good_mk (by with_reducible assumption))
    | (with_reducible exact goodD_mk (by with_reducible assumption))
    | split
    | (intro _))
theorem good_Chan_refreshDone {kc : Ch} (c : Chan) (lo : Nat) (h_c : c.Good kc) : (Chan.refreshDone c lo).Good kc := by
  unfold Chan.refreshDone
  repeat' (first
    | with_reducible assumption
    | with_reducible apply good_Chan_each
    | with_reducible apply good_Dev_each
    | with_reducible apply good_Chan_onMask
    | with_reducible apply good_Chan_refresh
    | with_reducible apply good_foldl
    | with_reducible apply goodD_foldl
    | with_reducible apply goodM_foldl
    | with_reducible apply good_Chan_inv
    | with_reducible apply good_Chan_invNil
    | (with_reducible exact good_mk (by with_reducible assumption))
    | (with_reducible exact goodD_mk (by with_reducible assumption))
    | split
    | (intro _))
theorem good_Chan_maskBoundary {kc : Ch} (c : Chan) (hi : Nat) (lo : Nat) (h_c : c.Good kc) : (Chan.maskBoundary c hi lo).Good kc := by
  unfold Chan.maskBoundary
  repeat' (first
    | with_reducible assumption
    | with_reducible apply good_Chan_refreshDone
    | with_reducible apply good_Chan_maskCounts
    | with_reducible apply good_Chan_onMask)
theorem good_doWindowOpen {kc : Ch} (c : Chan) (h_c : c.Good kc) : (doWindowOpen c).Good kc := by
  unfold doWindowOpen
  repeat' (first
    | with_reducible assumption
    | with_reducible apply good_Chan_onMask
    | with_reducible apply good_Chan_p
    | with_reducible apply good_Dev_p
    | with_reducible apply good_Chan_wrapInc
    | with_reducible apply good_Dev_wrapInc
    | with_reducible apply good_Chan_wr
    | with_reducible apply good_Dev_wr
    | with_reducible apply good_Chan_adcWindow
    | with_reducible apply good_foldl
    | with_reducible apply goodD_foldl
    | with_reducible apply goodM_foldl
    | with_reducible apply good_Chan_inv
    | with_reducible apply good_Chan_invNil
    | (with_reducible exact good_mk (by with_reducible assumption))
    | (with_reducible exact goodD_mk (by with_reducible assumption))
    | split
    | (intro _)
    | (extract_lets +onlyGivenNames x; first | (refine good_use (x := x) ?_ (fun hx => ?_)) | (refine good_use (x := x.1) ?_ (fun hx => ?_)) | (refine (have hx : Dev.Good x := ?_; ?_)) | (refine (have hx : Dev.Good x.1 := ?_; ?_)) | (refine (have hx : Mach.Good x := ?_; ?_)) | (refine (have hx : Mach.Good x.1 := ?_; ?_)) | (refine (have hx : Mach.Good x.m := ?_; ?_)) | clear_value x))
theorem good_doWindowTriggerDelay {kc : Ch} (c : Chan) (h_c : c.Good kc) : (doWindowTriggerDelay c).Good kc := by
  unfold doWindowTriggerDelay
  repeat' (first
    | with_reducible assumption
    | with_reducible apply good_Chan_onMask
    | with_reducible apply good_Chan_adcWindow
    | with_reducible apply good_foldl
    | with_reducible apply goodD_foldl
    | with_reducible apply goodM_foldl
    | with_reducible apply good_Chan_inv
    | with_reducible apply good_Chan_invNil
    | (with_reducible exact good_mk (by with_reducible assumption))
    | (with_reducible exact goodD_mk (by with_reducible assumption))
    | split)
theorem good_doWindowClose {kc : Ch} (c : Chan) (h_c : c.Good kc) : (doWindowClose c).Good kc := by
  unfold doWindowClose
  repeat' (first
    | with_reducible assumption
    | with_reducible apply good_Chan_p)
theorem good_doRefreshForced {kc : Ch} (c : Chan) (h_c : c.Good kc) : (doRefreshForced c).Good kc := by
  unfold doRefreshForced
  repeat' (first
    | with_reducible assumption
    | with_reducible apply good_Chan_onMask
    | with_reducible apply good_Chan_refresh
    | with_reducible apply good_Chan_p
    | with_reducible apply good_Dev_p
    | with_reducible apply good_Chan_wrapInc
    | with_reducible apply good_Dev_wrapInc
    | with_reducible apply good_Chan_raise
    | with_reducible apply good_Dev_raise
    | with_reducible apply good_foldl
    | with_reducible apply goodD_foldl
    | with_reducible apply goodM_foldl
    | with_reducible apply good_Chan_inv
    | with_reducible apply good_Chan_invNil
    | (with_reducible exact good_mk (by with_reducible assumption))
    | (with_reducible exact goodD_mk (by with_reducible assumption))
    | split)
theorem good_doRefreshForcingEnd {kc : Ch} (c : Chan) (h_c : c.Good kc) : (doRefreshForcingEnd c).Good kc := by
  unfold doRefreshForcingEnd
  repeat' (first
    | with_reducible assumption
    | with_reducible apply good_Chan_refresh
    | with_reducible apply good_Chan_p
    | with_reducible apply good_Dev_p
    | with_reducible apply good_Chan_clear
    | with_reducible apply good_Dev_clear
    | with_reducible apply good_foldl
    | with_reducible apply goodD_foldl
    | with_reducible apply goodM_foldl
    | with_reducible apply good_Chan_inv
    | with_reducible apply good_Chan_invNil
    | (with_reducible exact good_mk (by with_reducible assumption))
    | (with_reducible exact goodD_mk (by with_reducible assumption))
    | split)
theorem good_doOnTimeExceeded {kc : Ch} (c : Chan) (h_c : c.Good kc) : (doOnTimeExceeded c).Good kc := by
  unfold doOnTimeExceeded
  repeat' (first
    | with_reducible assumption
    | with_reducible apply good_Chan_raise
    | with_reducible apply good_Dev_raise
    | with_reducible apply good_foldl
    | with_reducible apply goodD_foldl
    | with_reducible apply goodM_foldl
    | with_reducible apply good_Chan_inv
    | with_reducible apply good_Chan_invNil
    | (with_reducible exact good_mk (by with_reducible assumption))
    | (with_reducible exact goodD_mk (by with_reducible assumption))
    | split)
theorem good_Chan_onTimeEnd {kc : Ch} (c : Chan) (h_c : c.Good kc) : (Chan.onTimeEnd c).Good kc := by
  unfold Chan.onTimeEnd
  repeat' (first
    | with_reducible assumption
    | with_reducible apply good_Chan_clear
    | with_reducible apply good_Dev_clear
    | with_reducible apply good_foldl
    | with_reducible apply goodD_foldl
    | with_reducible apply goodM_foldl
    | with_reducible apply good_Chan_inv
    | with_reducible apply good_Chan_invNil
    | (with_reducible exact good_mk (by with_reducible assumption))
    | (with_reducible exact goodD_mk (by with_reducible assumption))
    | split)
theorem good_Chan_pllStep {kc : Ch} (c : Chan) (e : Int) (h_c : c.Good kc) : (Chan.pllStep c e).Good kc := by
  unfold Chan.pllStep
  repeat' (first
    | with_reducible assumption
    | with_reducible apply good_Chan_p
    | with_reducible apply good_Dev_p
    | with_reducible apply good_Chan_onObs)
theorem good_Chan_obsOutput {kc : Ch} (c : Chan) (h_c : c.Good kc) : (Chan.obsOutput c).Good kc := by
  unfold Chan.obsOutput
  repeat' (first
    | with_reducible assumption
    | with_reducible apply good_Chan_onObs
    | with_reducible apply good_Chan_p
    | with_reducible apply good_Dev_p
    | with_reducible apply good_Chan_pi
    | with_reducible apply good_Chan_wr
    | with_reducible apply good_Dev_wr
    | with_reducible apply good_foldl
    | with_reducible apply goodD_foldl
    | with_reducible apply goodM_foldl
    | with_reducible apply good_Chan_inv
    | with_reducible apply good_Chan_invNil
    | (with_reducible exact good_mk (by with_reducible assumption))
    | (with_reducible exact goodD_mk (by with_reducible assumption))
    | split
    | (intro _)
    | (extract_lets +onlyGivenNames x; first | (refine good_use (x := x) ?_ (fun hx => ?_)) | (refine good_use (x := x.1) ?_ (fun hx => ?_)) | (refine (have hx : Dev.Good x := ?_; ?_)) | (refine (have hx : Dev.Good x.1 := ?_; ?_)) | (refine (have hx : Mach.Good x := ?_; ?_)) | (refine (have hx : Mach.Good x.1 := ?_; ?_)) | (refine (have hx : Mach.Good x.m := ?_; ?_)) | clear_value x))
theorem good_Chan_obsCheck {kc : Ch} (c : Chan) (n : Nat) (cond : Bool) (h_c : c.Good kc) : (Chan.obsCheck c n cond).Good kc := by
  unfold Chan.obsCheck
  repeat' (first
    | with_reducible assumption
    | with_reducible apply good_Chan_onObs
    | with_reducible apply good_Res_ok
    | with_reducible apply good_Chan_raiseRun
    | with_reducible apply good_Chan_clear
    | with_reducible apply good_Dev_clear
    | with_reducible apply good_foldl
    | with_reducible apply goodD_foldl
    | with_reducible apply goodM_foldl
    | with_reducible apply good_Chan_inv
    | with_reducible apply good_Chan_invNil
    | (with_reducible exact good_mk (by with_reducible assumption))
    | (with_reducible exact goodD_mk (by with_reducible assumption))
    | split
    | (intro _)
    | (extract_lets +onlyGivenNames x; first | (refine good_use (x := x) ?_ (fun hx => ?_)) | (refine good_use (x := x.1) ?_ (fun hx => ?_)) | (refine (have hx : Dev.Good x := ?_; ?_)) | (refine (have hx : Dev.Good x.1 := ?_; ?_)) | (refine (have hx : Mach.Good x := ?_; ?_)) | (refine (have hx : Mach.Good x.1 := ?_; ?_)) | (refine (have hx : Mach.Good x.m := ?_; ?_)) | clear_value x))
theorem good_Chan_obsChecks {kc : Ch} (c : Chan) (rex : Int) (rmag : Int) (h_c : c.Good kc) : (Chan.obsChecks c rex rmag).Good kc := by
  unfold Chan.obsChecks
  repeat' (first
    | with_reducible assumption
    | with_reducible apply good_Chan_onObs
    | with_reducible apply good_Mach_take
    | with_reducible apply good_Chan_each
    | with_reducible apply good_Dev_each
    | with_reducible apply good_Chan_obsCheck
    | with_reducible apply good_Chan_raiseRun
    | with_reducible apply good_Chan_clear
    | with_reducible apply good_Dev_clear
    | with_reducible apply good_foldl
    | with_reducible apply goodD_foldl
    | with_reducible apply goodM_foldl
    | with_reducible apply good_Chan_inv
    | with_reducible apply good_Chan_invNil
    | (with_reducible exact good_mk (by with_reducible assumption))
    | (with_reducible exact goodD_mk (by with_reducible assumption))
    | split
    | (intro _)
    | (extract_lets +onlyGivenNames x; first | (refine good_use (x := x) ?_ (fun hx => ?_)) | (refine good_use (x := x.1) ?_ (fun hx => ?_)) | (refine (have hx : Dev.Good x := ?_; ?_)) | (refine (have hx : Dev.Good x.1 := ?_; ?_)) | (refine (have hx : Mach.Good x := ?_; ?_)) | (refine (have hx : Mach.Good x.1 := ?_; ?_)) | (refine (have hx : Mach.Good x.m := ?_; ?_)) | clear_value x))
theorem good_Chan_reacqStep {kc : Ch} (c : Chan) (e : Int) (i : Int × Int) (h_c : c.Good kc) : (Chan.reacqStep c e i).Good kc := by
  unfold Chan.reacqStep
  repeat' (first
    | with_reducible assumption
    | with_reducible apply good_Chan_onObs
    | with_reducible apply good_Chan_p)
theorem good_Chan_reacqEval {kc : Ch} (c : Chan) (h_c : c.Good kc) : (Chan.reacqEval c).Good kc := by
  unfold Chan.reacqEval
  repeat' (first
    | with_reducible assumption
    | with_reducible apply good_Chan_onObs
    | with_reducible apply good_Chan_p
    | with_reducible apply good_Dev_p
    | with_reducible apply good_foldl
    | with_reducible apply goodD_foldl
    | with_reducible apply goodM_foldl
    | with_reducible apply good_Chan_inv
    | with_reducible apply good_Chan_invNil
    | (with_reducible exact good_mk (by with_reducible assumption))
    | (with_reducible exact goodD_mk (by with_reducible assumption))
    | split)
theorem good_Chan_observe {kc : Ch} (c : Chan) (h_c : c.Good kc) : (Chan.observe c).Good kc := by
  unfold Chan.observe
  repeat' (first
    | with_reducible assumption
    | with_reducible apply good_Chan_took
    | with_reducible apply good_Dev_took
    | with_reducible apply good_live
    | with_reducible apply good_Chan_pllStep
    | with_reducible apply good_Chan_pi
    | with_reducible apply good_Chan_reacqStep
    | with_reducible apply good_Chan_obsOutput
    | with_reducible apply good_Chan_obsChecks
    | with_reducible apply good_foldl
    | with_reducible apply goodD_foldl
    | with_reducible apply goodM_foldl
    | with_reducible apply good_Chan_inv
    | with_reducible apply good_Chan_invNil
    | (with_reducible exact good_mk (by with_reducible assumption))
    | (with_reducible exact goodD_mk (by with_reducible assumption))
    | split)
theorem good_Chan_torqueWindow {kc : Ch} (c : Chan) (run : Bool) (h_c : c.Good kc) : (Chan.torqueWindow c run).Good kc := by
  unfold Chan.torqueWindow
  repeat' (first
    | with_reducible assumption
    | with_reducible apply good_Chan_onObs
    | with_reducible apply good_Mach_take
    | with_reducible apply good_Chan_pi
    | with_reducible apply good_Chan_raiseRun
    | with_reducible apply good_Chan_clear
    | with_reducible apply good_Dev_clear
    | with_reducible apply good_foldl
    | with_reducible apply goodD_foldl
    | with_reducible apply goodM_foldl
    | with_reducible apply good_Chan_inv
    | with_reducible apply good_Chan_invNil
    | (with_reducible exact good_mk (by with_reducible assumption))
    | (with_reducible exact goodD_mk (by with_reducible assumption))
    | split
    | (intro _)
    | (extract_lets +onlyGivenNames x; first | (refine good_use (x := x) ?_ (fun hx => ?_)) | (refine good_use (x := x.1) ?_ (fun hx => ?_)) | (refine (have hx : Dev.Good x := ?_; ?_)) | (refine (have hx : Dev.Good x.1 := ?_; ?_)) | (refine (have hx : Mach.Good x := ?_; ?_)) | (refine (have hx : Mach.Good x.1 := ?_; ?_)) | (refine (have hx : Mach.Good x.m := ?_; ?_)) | clear_value x))
theorem good_Chan_trust {kc : Ch} (c : Chan) (h_c : c.Good kc) : (Chan.trust c).Good kc := by
  unfold Chan.trust
  repeat' (first
    | with_reducible assumption
    | with_reducible apply good_live
    | with_reducible apply good_Chan_onObs
    | with_reducible apply good_Chan_wr
    | with_reducible apply good_Dev_wr
    | with_reducible apply good_Chan_p
    | with_reducible apply good_Dev_p
    | with_reducible apply good_Chan_pi
    | with_reducible apply good_Chan_reacqEval
    | with_reducible apply good_foldl
    | with_reducible apply goodD_foldl
    | with_reducible apply goodM_foldl
    | with_reducible apply good_Chan_inv
    | with_reducible apply good_Chan_invNil
    | (with_reducible exact good_mk (by with_reducible assumption))
    | (with_reducible exact goodD_mk (by with_reducible assumption))
    | split)
theorem good_doObsCmdRelease {kc : Ch} (c : Chan) (h_c : c.Good kc) : (doObsCmdRelease c).Good kc := by
  unfold doObsCmdRelease
  repeat' (first
    | with_reducible assumption
    | with_reducible apply good_Chan_onObs
    | with_reducible apply good_Chan_p
    | with_reducible apply good_Dev_p
    | with_reducible apply good_foldl
    | with_reducible apply goodD_foldl
    | with_reducible apply goodM_foldl
    | with_reducible apply good_Chan_inv
    | with_reducible apply good_Chan_invNil
    | (with_reducible exact good_mk (by with_reducible assumption))
    | (with_reducible exact goodD_mk (by with_reducible assumption))
    | split)
theorem good_Chan_tmSample {kc : Ch} (c0 : Chan) (h_c0 : c0.Good kc) : (Chan.tmSample c0).Good kc := by
  unfold Chan.tmSample
  repeat' (first
    | with_reducible assumption
    | with_reducible apply good_Chan_tmCurrent
    | with_reducible apply good_Chan_onObs
    | with_reducible apply good_Chan_p
    | with_reducible apply good_Dev_p
    | with_reducible apply good_foldl
    | with_reducible apply goodD_foldl
    | with_reducible apply goodM_foldl
    | with_reducible apply good_Chan_inv
    | with_reducible apply good_Chan_invNil
    | (with_reducible exact good_mk (by with_reducible assumption))
    | (with_reducible exact goodD_mk (by with_reducible assumption))
    | split)
theorem good_doTmWindowEnd {kc : Ch} (c : Chan) (h_c : c.Good kc) : (doTmWindowEnd c).Good kc := by
  unfold doTmWindowEnd
  repeat' (first
    | with_reducible assumption
    | with_reducible apply good_Chan_pb
    | with_reducible apply good_Dev_pb
    | with_reducible apply good_Chan_took
    | with_reducible apply good_Dev_took
    | with_reducible apply good_Chan_onObs
    | with_reducible apply good_foldl
    | with_reducible apply goodD_foldl
    | with_reducible apply goodM_foldl
    | with_reducible apply good_Chan_inv
    | with_reducible apply good_Chan_invNil
    | (with_reducible exact good_mk (by with_reducible assumption))
    | (with_reducible exact goodD_mk (by with_reducible assumption))
    | split)
theorem good_Chan_tmJudge {kc : Ch} (c : Chan) (run : Bool) (n : Nat) (known : Bool) (cond : Bool) (h_c : c.Good kc) : (Chan.tmJudge c run n known cond).Good kc := by
  unfold Chan.tmJudge
  repeat' (first
    | with_reducible assumption
    | with_reducible apply good_Chan_onObs
    | with_reducible apply good_Chan_raiseRun
    | with_reducible apply good_Chan_clear
    | with_reducible apply good_Dev_clear
    | with_reducible apply good_foldl
    | with_reducible apply goodD_foldl
    | with_reducible apply goodM_foldl
    | with_reducible apply good_Chan_inv
    | with_reducible apply good_Chan_invNil
    | (with_reducible exact good_mk (by with_reducible assumption))
    | (with_reducible exact goodD_mk (by with_reducible assumption))
    | split
    | (intro _)
    | (extract_lets +onlyGivenNames x; first | (refine good_use (x := x) ?_ (fun hx => ?_)) | (refine good_use (x := x.1) ?_ (fun hx => ?_)) | (refine (have hx : Dev.Good x := ?_; ?_)) | (refine (have hx : Dev.Good x.1 := ?_; ?_)) | (refine (have hx : Mach.Good x := ?_; ?_)) | (refine (have hx : Mach.Good x.1 := ?_; ?_)) | (refine (have hx : Mach.Good x.m := ?_; ?_)) | clear_value x))
theorem good_Chan_tmBlindEval {kc : Ch} (c : Chan) (run : Bool) (blind : Bool) (h_c : c.Good kc) : (Chan.tmBlindEval c run blind).Good kc := by
  unfold Chan.tmBlindEval
  repeat' (first
    | with_reducible assumption
    | with_reducible apply good_Chan_onObs
    | with_reducible apply good_Chan_clear
    | with_reducible apply good_Dev_clear
    | with_reducible apply good_Chan_raiseRun
    | with_reducible apply good_foldl
    | with_reducible apply goodD_foldl
    | with_reducible apply goodM_foldl
    | with_reducible apply good_Chan_inv
    | with_reducible apply good_Chan_invNil
    | (with_reducible exact good_mk (by with_reducible assumption))
    | (with_reducible exact goodD_mk (by with_reducible assumption))
    | split
    | (intro _)
    | (extract_lets +onlyGivenNames x; first | (refine good_use (x := x) ?_ (fun hx => ?_)) | (refine good_use (x := x.1) ?_ (fun hx => ?_)) | (refine (have hx : Dev.Good x := ?_; ?_)) | (refine (have hx : Dev.Good x.1 := ?_; ?_)) | (refine (have hx : Mach.Good x := ?_; ?_)) | (refine (have hx : Mach.Good x.1 := ?_; ?_)) | (refine (have hx : Mach.Good x.m := ?_; ?_)) | clear_value x))
theorem good_doTmResultWrite {kc : Ch} (c : Chan) (h_c : c.Good kc) : (doTmResultWrite c).Good kc := by
  unfold doTmResultWrite
  repeat' (first
    | with_reducible assumption
    | with_reducible apply good_Chan_onObs
    | with_reducible apply good_Chan_wr
    | with_reducible apply good_Dev_wr
    | with_reducible apply good_Chan_clear
    | with_reducible apply good_Dev_clear
    | with_reducible apply good_Chan_p
    | with_reducible apply good_Dev_p
    | with_reducible apply good_Chan_pb
    | with_reducible apply good_Dev_pb
    | with_reducible apply good_Chan_wrapInc
    | with_reducible apply good_Dev_wrapInc
    | with_reducible apply good_Chan_pi
    | with_reducible apply good_Chan_tmJudge
    | with_reducible apply good_Chan_tmBlindEval
    | with_reducible apply good_foldl
    | with_reducible apply goodD_foldl
    | with_reducible apply goodM_foldl
    | with_reducible apply good_Chan_inv
    | with_reducible apply good_Chan_invNil
    | (with_reducible exact good_mk (by with_reducible assumption))
    | (with_reducible exact goodD_mk (by with_reducible assumption))
    | split)
theorem good_doTmLate {kc : Ch} (c : Chan) (h_c : c.Good kc) : (doTmLate c).Good kc := by
  unfold doTmLate
  repeat' (first
    | with_reducible assumption
    | with_reducible apply good_Chan_raise
    | with_reducible apply good_Dev_raise
    | with_reducible apply good_foldl
    | with_reducible apply goodD_foldl
    | with_reducible apply goodM_foldl
    | with_reducible apply good_Chan_inv
    | with_reducible apply good_Chan_invNil
    | (with_reducible exact good_mk (by with_reducible assumption))
    | (with_reducible exact goodD_mk (by with_reducible assumption))
    | split)
theorem good_Chan_obsEnter {kc : Ch} (c : Chan) (h_c : c.Good kc) : (Chan.obsEnter c).Good kc := by
  unfold Chan.obsEnter
  repeat' (first
    | with_reducible assumption
    | with_reducible apply good_Chan_onObs)
theorem good_Chan_landObs {kc : Ch} (c : Chan) (h_c : c.Good kc) : (Chan.landObs c).Good kc := by
  unfold Chan.landObs
  repeat' (first
    | with_reducible assumption
    | with_reducible apply good_Chan_obsEnter)
theorem good_doDtcInputRead {kc : Ch} (c : Chan) (h_c : c.Good kc) : (doDtcInputRead c).Good kc := by
  unfold doDtcInputRead
  repeat' (first
    | with_reducible assumption
    | with_reducible apply good_Chan_onDtc
    | with_reducible apply good_Chan_follow
    | with_reducible apply good_Dev_follow
    | with_reducible apply good_foldl
    | with_reducible apply goodD_foldl
    | with_reducible apply goodM_foldl
    | with_reducible apply good_Chan_inv
    | with_reducible apply good_Chan_invNil
    | (with_reducible exact good_mk (by with_reducible assumption))
    | (with_reducible exact goodD_mk (by with_reducible assumption))
    | split)
theorem good_Chan_estimate {kc : Ch} (c : Chan) (x : DtcIn) (h_c : c.Good kc) : (Chan.estimate c x).Good kc := by
  unfold Chan.estimate
  repeat' (first
    | with_reducible assumption
    | with_reducible apply good_Chan_onDtc
    | with_reducible apply good_Chan_pi
    | with_reducible apply good_Chan_p
    | with_reducible apply good_Dev_p
    | with_reducible apply good_foldl
    | with_reducible apply goodD_foldl
    | with_reducible apply goodM_foldl
    | with_reducible apply good_Chan_inv
    | with_reducible apply good_Chan_invNil
    | (with_reducible exact good_mk (by with_reducible assumption))
    | (with_reducible exact goodD_mk (by with_reducible assumption))
    | split)
theorem good_Chan_refRamp {kc : Ch} (c : Chan) (h_c : c.Good kc) : (Chan.refRamp c).Good kc := by
  unfold Chan.refRamp
  repeat' (first
    | with_reducible assumption
    | with_reducible apply good_Chan_onDtc)
theorem good_Chan_torqueRef {kc : Ch} (c : Chan) (w : Int) (h_c : c.Good kc) : (Chan.torqueRef c w).1.Good kc := by
  unfold Chan.torqueRef
  repeat' (first
    | with_reducible assumption
    | with_reducible apply good_Chan_onDtc
    | with_reducible apply good_Chan_follow
    | with_reducible apply good_Dev_follow
    | with_reducible apply good_foldl
    | with_reducible apply goodD_foldl
    | with_reducible apply goodM_foldl
    | with_reducible apply good_Chan_inv
    | with_reducible apply good_Chan_invNil
    | (with_reducible exact good_mk (by with_reducible assumption))
    | (with_reducible exact goodD_mk (by with_reducible assumption))
    | split)
theorem good_Chan_torqueRef_eq {kc : Ch} {c : Chan} {w : Int} {x1 : Chan} {x2 : Int} (e_eq : Chan.torqueRef c w = (x1, x2)) (h_c : c.Good kc) : (x1).Good kc := by
  have q := good_Chan_torqueRef c w h_c
  rw [e_eq] at q
  exact q
theorem good_Chan_sixEval {kc : Ch} (c : Chan) (w : Int) (h_c : c.Good kc) : (Chan.sixEval c w).Good kc := by
  unfold Chan.sixEval
  repeat' (first
    | with_reducible assumption
    | with_reducible apply good_Res_ok
    | with_reducible apply good_Chan_onDtc
    | with_reducible apply good_Chan_p
    | with_reducible apply good_Dev_p
    | with_reducible apply good_foldl
    | with_reducible apply goodD_foldl
    | with_reducible apply goodM_foldl
    | with_reducible apply good_Chan_inv
    | with_reducible apply good_Chan_invNil
    | (with_reducible exact good_mk (by with_reducible assumption))
    | (with_reducible exact goodD_mk (by with_reducible assumption))
    | split
    | (intro _)
    | (extract_lets +onlyGivenNames x; first | (refine good_use (x := x) ?_ (fun hx => ?_)) | (refine good_use (x := x.1) ?_ (fun hx => ?_)) | (refine (have hx : Dev.Good x := ?_; ?_)) | (refine (have hx : Dev.Good x.1 := ?_; ?_)) | (refine (have hx : Mach.Good x := ?_; ?_)) | (refine (have hx : Mach.Good x.1 := ?_; ?_)) | (refine (have hx : Mach.Good x.m := ?_; ?_)) | clear_value x))
theorem good_Chan_corner {kc : Ch} (c : Chan) (th : Nat) (w : Int) (e : Int) (h_c : c.Good kc) : (Chan.corner c th w e).1.Good kc := by
  unfold Chan.corner
  repeat' (first
    | with_reducible assumption
    | with_reducible apply good_Chan_onDtc)
theorem good_Chan_corner_eq {kc : Ch} {c : Chan} {th : Nat} {w : Int} {e : Int} {x1 : Chan} {x2 : Nat} (e_eq : Chan.corner c th w e = (x1, x2)) (h_c : c.Good kc) : (x1).Good kc := by
  have q := good_Chan_corner c th w e h_c
  rw [e_eq] at q
  exact q
theorem good_Chan_dwell {kc : Ch} (c : Chan) (cand : Nat) (h_c : c.Good kc) : (Chan.dwell c cand).1.Good kc := by
  unfold Chan.dwell
  repeat' (first
    | with_reducible assumption
    | with_reducible apply good_Chan_p
    | with_reducible apply good_Dev_p
    | with_reducible apply good_Chan_each
    | with_reducible apply good_Dev_each
    | with_reducible apply good_Chan_satInc
    | with_reducible apply good_Dev_satInc
    | with_reducible apply good_foldl
    | with_reducible apply goodD_foldl
    | with_reducible apply goodM_foldl
    | with_reducible apply good_Chan_inv
    | with_reducible apply good_Chan_invNil
    | (with_reducible exact good_mk (by with_reducible assumption))
    | (with_reducible exact goodD_mk (by with_reducible assumption))
    | split
    | (intro _))
theorem good_Chan_dwell_eq {kc : Ch} {c : Chan} {cand : Nat} {x1 : Chan} {x2 : Nat} (e_eq : Chan.dwell c cand = (x1, x2)) (h_c : c.Good kc) : (x1).Good kc := by
  have q := good_Chan_dwell c cand h_c
  rw [e_eq] at q
  exact q
theorem good_Chan_magnetise {kc : Ch} (c : Chan) (pref : Int) (h_c : c.Good kc) : (Chan.magnetise c pref).Good kc := by
  unfold Chan.magnetise
  repeat' (first
    | with_reducible assumption
    | with_reducible apply good_Chan_onDtc
    | with_reducible apply good_Chan_p
    | with_reducible apply good_Dev_p
    | with_reducible apply good_foldl
    | with_reducible apply goodD_foldl
    | with_reducible apply goodM_foldl
    | with_reducible apply good_Chan_inv
    | with_reducible apply good_Chan_invNil
    | (with_reducible exact good_mk (by with_reducible assumption))
    | (with_reducible exact goodD_mk (by with_reducible assumption))
    | split
    | (intro _)
    | (extract_lets +onlyGivenNames x; first | (refine good_use (x := x) ?_ (fun hx => ?_)) | (refine good_use (x := x.1) ?_ (fun hx => ?_)) | (refine (have hx : Dev.Good x := ?_; ?_)) | (refine (have hx : Dev.Good x.1 := ?_; ?_)) | (refine (have hx : Mach.Good x := ?_; ?_)) | (refine (have hx : Mach.Good x.1 := ?_; ?_)) | (refine (have hx : Mach.Good x.m := ?_; ?_)) | clear_value x))
theorem good_Chan_candidate {kc : Ch} (c : Chan) (pp : Int × Int) (w : Int) (k : Cmp) (ecc : Nat) (h_c : c.Good kc) : (Chan.candidate c pp w k ecc).1.Good kc := by
  unfold Chan.candidate
  repeat' (first
    | with_reducible assumption
    | with_reducible apply good_Chan_p
    | with_reducible apply good_Dev_p
    | with_reducible apply good_Chan_sixEval
    | with_reducible apply good_Chan_corner
    | (with_reducible apply good_Chan_corner_eq; case e_eq => with_reducible assumption)
    | with_reducible apply good_Chan_raise
    | with_reducible apply good_Dev_raise
    | with_reducible apply good_Chan_satInc
    | with_reducible apply good_Dev_satInc
    | with_reducible apply good_foldl
    | with_reducible apply goodD_foldl
    | with_reducible apply goodM_foldl
    | with_reducible apply good_Chan_inv
    | with_reducible apply good_Chan_invNil
    | (with_reducible exact good_mk (by with_reducible assumption))
    | (with_reducible exact goodD_mk (by with_reducible assumption))
    | split
    | (intro _)
    | (extract_lets +onlyGivenNames x; first | (refine good_use (x := x) ?_ (fun hx => ?_)) | (refine good_use (x := x.1) ?_ (fun hx => ?_)) | (refine (have hx : Dev.Good x := ?_; ?_)) | (refine (have hx : Dev.Good x.1 := ?_; ?_)) | (refine (have hx : Mach.Good x := ?_; ?_)) | (refine (have hx : Mach.Good x.1 := ?_; ?_)) | (refine (have hx : Mach.Good x.m := ?_; ?_)) | clear_value x))
theorem good_Chan_candidate_eq {kc : Ch} {c : Chan} {pp : Int × Int} {w : Int} {k : Cmp} {ecc : Nat} {x1 : Chan} {x2 : Nat} (e_eq : Chan.candidate c pp w k ecc = (x1, x2)) (h_c : c.Good kc) : (x1).Good kc := by
  have q := good_Chan_candidate c pp w k ecc h_c
  rw [e_eq] at q
  exact q
theorem good_Chan_decideRun {kc : Ch} (c : Chan) (w : Int) (ecc : Nat) (h_c : c.Good kc) : (Chan.decideRun c w ecc).Good kc := by
  unfold Chan.decideRun
  repeat' (first
    | with_reducible assumption
    | with_reducible apply good_Chan_pi
    | with_reducible apply good_Chan_p
    | with_reducible apply good_Dev_p
    | with_reducible apply good_Chan_follow
    | with_reducible apply good_Dev_follow
    | with_reducible apply good_Chan_magnetise
    | with_reducible apply good_Chan_torqueRef
    | (with_reducible apply good_Chan_torqueRef_eq; case e_eq => with_reducible assumption)
    | with_reducible apply good_Chan_onDtc
    | with_reducible apply good_Chan_candidate
    | (with_reducible apply good_Chan_candidate_eq; case e_eq => with_reducible assumption)
    | with_reducible apply good_Chan_noteRefresh
    | with_reducible apply good_Chan_dwell
    | (with_reducible apply good_Chan_dwell_eq; case e_eq => with_reducible assumption)
    | with_reducible apply good_foldl
    | with_reducible apply goodD_foldl
    | with_reducible apply goodM_foldl
    | with_reducible apply good_Chan_inv
    | with_reducible apply good_Chan_invNil
    | (with_reducible exact good_mk (by with_reducible assumption))
    | (with_reducible exact goodD_mk (by with_reducible assumption))
    | split
    | (intro _)
    | (extract_lets +onlyGivenNames x; first | (refine good_use (x := x) ?_ (fun hx => ?_)) | (refine good_use (x := x.1) ?_ (fun hx => ?_)) | (refine (have hx : Dev.Good x := ?_; ?_)) | (refine (have hx : Dev.Good x.1 := ?_; ?_)) | (refine (have hx : Mach.Good x := ?_; ?_)) | (refine (have hx : Mach.Good x.1 := ?_; ?_)) | (refine (have hx : Mach.Good x.m := ?_; ?_)) | clear_value x))
theorem good_Chan_decideWind {kc : Ch} (c : Chan) (h_c : c.Good kc) : (Chan.decideWind c).Good kc := by
  unfold Chan.decideWind
  repeat' (first
    | with_reducible assumption
    | with_reducible apply good_Chan_dwell
    | (with_reducible apply good_Chan_dwell_eq; case e_eq => with_reducible assumption)
    | with_reducible apply good_Chan_onDtc
    | with_reducible apply good_Chan_p)
theorem good_Chan_decideIdle {kc : Ch} (c : Chan) (w : Int) (h_c : c.Good kc) : (Chan.decideIdle c w).Good kc := by
  unfold Chan.decideIdle
  repeat' (first
    | with_reducible assumption
    | with_reducible apply good_Chan_pi
    | with_reducible apply good_Chan_p
    | with_reducible apply good_Dev_p
    | with_reducible apply good_Chan_onDtc
    | with_reducible apply good_Chan_follow)
theorem good_Chan_engine {kc : Ch} (c : Chan) (ecc : Nat) (h_c : c.Good kc) : (Chan.engine c ecc).Good kc := by
  unfold Chan.engine
  repeat' (first
    | with_reducible assumption
    | with_reducible apply good_Chan_p
    | with_reducible apply good_Dev_p
    | with_reducible apply good_Chan_onDtc
    | with_reducible apply good_Chan_estimate
    | with_reducible apply good_Chan_decideRun
    | with_reducible apply good_Chan_decideIdle
    | with_reducible apply good_Chan_decideWind
    | with_reducible apply good_foldl
    | with_reducible apply goodD_foldl
    | with_reducible apply goodM_foldl
    | with_reducible apply good_Chan_inv
    | with_reducible apply good_Chan_invNil
    | (with_reducible exact good_mk (by with_reducible assumption))
    | (with_reducible exact goodD_mk (by with_reducible assumption))
    | split
    | (intro _)
    | (extract_lets +onlyGivenNames x; first | (refine good_use (x := x) ?_ (fun hx => ?_)) | (refine good_use (x := x.1) ?_ (fun hx => ?_)) | (refine (have hx : Dev.Good x := ?_; ?_)) | (refine (have hx : Dev.Good x.1 := ?_; ?_)) | (refine (have hx : Mach.Good x := ?_; ?_)) | (refine (have hx : Mach.Good x.1 := ?_; ?_)) | (refine (have hx : Mach.Good x.m := ?_; ?_)) | clear_value x))
theorem good_doGovernorUpdate {kc : Ch} (c : Chan) (h_c : c.Good kc) : (doGovernorUpdate c).Good kc := by
  unfold doGovernorUpdate
  repeat' (first
    | with_reducible assumption
    | with_reducible apply good_Chan_p
    | with_reducible apply good_Dev_p
    | with_reducible apply good_Chan_onDtc
    | with_reducible apply good_Chan_clear
    | with_reducible apply good_Dev_clear
    | with_reducible apply good_Chan_raise
    | with_reducible apply good_Dev_raise
    | with_reducible apply good_foldl
    | with_reducible apply goodD_foldl
    | with_reducible apply goodM_foldl
    | with_reducible apply good_Chan_inv
    | with_reducible apply good_Chan_invNil
    | (with_reducible exact good_mk (by with_reducible assumption))
    | (with_reducible exact goodD_mk (by with_reducible assumption))
    | split
    | (intro _)
    | (extract_lets +onlyGivenNames x; first | (refine good_use (x := x) ?_ (fun hx => ?_)) | (refine good_use (x := x.1) ?_ (fun hx => ?_)) | (refine (have hx : Dev.Good x := ?_; ?_)) | (refine (have hx : Dev.Good x.1 := ?_; ?_)) | (refine (have hx : Mach.Good x := ?_; ?_)) | (refine (have hx : Mach.Good x.1 := ?_; ?_)) | (refine (have hx : Mach.Good x.m := ?_; ?_)) | clear_value x))
theorem good_Chan_landDtc {kc : Ch} (c : Chan) (per : Bool) (h_c : c.Good kc) : (Chan.landDtc c per).Good kc := by
  unfold Chan.landDtc
  repeat' (first
    | with_reducible assumption
    | with_reducible apply good_Chan_p
    | with_reducible apply good_Dev_p
    | with_reducible apply good_Chan_onDtc
    | with_reducible apply good_foldl
    | with_reducible apply goodD_foldl
    | with_reducible apply goodM_foldl
    | with_reducible apply good_Chan_inv
    | with_reducible apply good_Chan_invNil
    | (with_reducible exact good_mk (by with_reducible assumption))
    | (with_reducible exact goodD_mk (by with_reducible assumption))
    | split)
theorem good_Chan_noteBoundary {kc : Ch} (c : Chan) (h_c : c.Good kc) : (Chan.noteBoundary c).Good kc := by
  unfold Chan.noteBoundary
  repeat' (first
    | with_reducible assumption
    | with_reducible apply good_Chan_onDtc)
theorem good_Chan_closePeriod {kc : Ch} (c : Chan) (h_c : c.Good kc) : (Chan.closePeriod c).Good kc := by
  unfold Chan.closePeriod
  repeat' (first
    | with_reducible assumption
    | with_reducible apply good_Chan_each
    | with_reducible apply good_Dev_each
    | with_reducible apply good_Chan_recordLeg
    | with_reducible apply good_Chan_onDtc
    | with_reducible apply good_foldl
    | with_reducible apply goodD_foldl
    | with_reducible apply goodM_foldl
    | with_reducible apply good_Chan_inv
    | with_reducible apply good_Chan_invNil
    | (with_reducible exact good_mk (by with_reducible assumption))
    | (with_reducible exact goodD_mk (by with_reducible assumption))
    | split
    | (intro _))
theorem good_Chan_applyVec {kc : Ch} (c : Chan) (v : Nat) (h_c : c.Good kc) : (Chan.applyVec c v).Good kc := by
  unfold Chan.applyVec
  repeat' (first
    | with_reducible assumption
    | with_reducible apply good_Chan_each
    | with_reducible apply good_Dev_each
    | with_reducible apply good_Chan_setPairAt
    | with_reducible apply good_foldl
    | with_reducible apply goodD_foldl
    | with_reducible apply goodM_foldl
    | with_reducible apply good_Chan_inv
    | with_reducible apply good_Chan_invNil
    | (with_reducible exact good_mk (by with_reducible assumption))
    | (with_reducible exact goodD_mk (by with_reducible assumption))
    | split
    | (intro _))
theorem good_Chan_applyRun {kc : Ch} (c : Chan) (h_c : c.Good kc) : (Chan.applyRun c).Good kc := by
  unfold Chan.applyRun
  repeat' (first
    | with_reducible assumption
    | with_reducible apply good_Chan_legsOff
    | with_reducible apply good_Chan_each
    | with_reducible apply good_Dev_each
    | with_reducible apply good_Chan_setPair
    | with_reducible apply good_Chan_onDtc
    | with_reducible apply good_Chan_applyVec
    | with_reducible apply good_foldl
    | with_reducible apply goodD_foldl
    | with_reducible apply goodM_foldl
    | with_reducible apply good_Chan_inv
    | with_reducible apply good_Chan_invNil
    | (with_reducible exact good_mk (by with_reducible assumption))
    | (with_reducible exact goodD_mk (by with_reducible assumption))
    | split
    | (intro _))
theorem good_Chan_applyWind {kc : Ch} (c : Chan) (h_c : c.Good kc) : (Chan.applyWind c).Good kc := by
  unfold Chan.applyWind
  repeat' (first
    | with_reducible assumption
    | with_reducible apply good_Chan_onDtc
    | with_reducible apply good_Chan_applyVec
    | with_reducible apply good_Chan_p
    | with_reducible apply good_Dev_p
    | with_reducible apply good_Chan_legsOff
    | with_reducible apply good_Chan_wrapInc
    | with_reducible apply good_Dev_wrapInc
    | with_reducible apply good_Chan_evt
    | with_reducible apply good_foldl
    | with_reducible apply goodD_foldl
    | with_reducible apply goodM_foldl
    | with_reducible apply good_Chan_inv
    | with_reducible apply good_Chan_invNil
    | (with_reducible exact good_mk (by with_reducible assumption))
    | (with_reducible exact goodD_mk (by with_reducible assumption))
    | split)
theorem good_Chan_modBoundary {kc : Ch} (c : Chan) (h_c : c.Good kc) : (Chan.modBoundary c).Good kc := by
  unfold Chan.modBoundary
  repeat' (first
    | with_reducible assumption
    | with_reducible apply good_Chan_applyRun
    | with_reducible apply good_Chan_maskBoundary
    | with_reducible apply good_Chan_onTimeEnd
    | with_reducible apply good_Chan_applyWind
    | with_reducible apply good_foldl
    | with_reducible apply goodD_foldl
    | with_reducible apply goodM_foldl
    | with_reducible apply good_Chan_inv
    | with_reducible apply good_Chan_invNil
    | (with_reducible exact good_mk (by with_reducible assumption))
    | (with_reducible exact goodD_mk (by with_reducible assumption))
    | split)
theorem good_Chan_latchStaged {kc : Ch} (c : Chan) (h_c : c.Good kc) : (Chan.latchStaged c).Good kc := by
  unfold Chan.latchStaged
  repeat' (first
    | with_reducible assumption
    | with_reducible apply good_Chan_onDtc)
theorem good_Chan_enterEngine {kc : Ch} (c : Chan) (h_c : c.Good kc) : (Chan.enterEngine c).Good kc := by
  unfold Chan.enterEngine
  repeat' (first
    | with_reducible assumption
    | with_reducible apply good_Chan_onDtc
    | with_reducible apply good_Chan_p
    | with_reducible apply good_Dev_p
    | with_reducible apply good_Chan_obsEnter
    | with_reducible apply good_Chan_maskEnter
    | with_reducible apply good_Chan_onXchk)
theorem good_Chan_torqueApplied {kc : Ch} (c : Chan) (h_c : c.Good kc) : (Chan.torqueApplied c).Good kc := by
  unfold Chan.torqueApplied
  repeat' (first
    | with_reducible assumption
    | with_reducible apply good_Chan_onDtc
    | with_reducible apply good_Chan_onCtl
    | with_reducible apply good_Chan_clear
    | with_reducible apply good_Dev_clear
    | with_reducible apply good_Chan_enterEngine
    | with_reducible apply good_Chan_enterRun
    | with_reducible apply good_foldl
    | with_reducible apply goodD_foldl
    | with_reducible apply goodM_foldl
    | with_reducible apply good_Chan_inv
    | with_reducible apply good_Chan_invNil
    | (with_reducible exact good_mk (by with_reducible assumption))
    | (with_reducible exact goodD_mk (by with_reducible assumption))
    | split)
theorem good_Chan_latchRef {kc : Ch} (c : Chan) (h_c : c.Good kc) : (Chan.latchRef c).Good kc := by
  unfold Chan.latchRef
  repeat' (first
    | with_reducible assumption
    | with_reducible apply good_Chan_latchStaged
    | with_reducible apply good_Chan_torqueApplied
    | with_reducible apply good_foldl
    | with_reducible apply goodD_foldl
    | with_reducible apply goodM_foldl
    | with_reducible apply good_Chan_inv
    | with_reducible apply good_Chan_invNil
    | (with_reducible exact good_mk (by with_reducible assumption))
    | (with_reducible exact goodD_mk (by with_reducible assumption))
    | split
    | (intro _)
    | (extract_lets +onlyGivenNames x; first | (refine good_use (x := x) ?_ (fun hx => ?_)) | (refine good_use (x := x.1) ?_ (fun hx => ?_)) | (refine (have hx : Dev.Good x := ?_; ?_)) | (refine (have hx : Dev.Good x.1 := ?_; ?_)) | (refine (have hx : Mach.Good x := ?_; ?_)) | (refine (have hx : Mach.Good x.1 := ?_; ?_)) | (refine (have hx : Mach.Good x.m := ?_; ?_)) | clear_value x))
theorem good_Chan_rampAgain {kc : Ch} (c : Chan) (h_c : c.Good kc) : (Chan.rampAgain c).Good kc := by
  unfold Chan.rampAgain
  repeat' (first
    | with_reducible assumption
    | with_reducible apply good_Chan_onDtc
    | with_reducible apply good_Chan_refRamp
    | with_reducible apply good_foldl
    | with_reducible apply goodD_foldl
    | with_reducible apply goodM_foldl
    | with_reducible apply good_Chan_inv
    | with_reducible apply good_Chan_invNil
    | (with_reducible exact good_mk (by with_reducible assumption))
    | (with_reducible exact goodD_mk (by with_reducible assumption))
    | split)
theorem good_Chan_rampBoundary {kc : Ch} (c : Chan) (h_c : c.Good kc) : (Chan.rampBoundary c).Good kc := by
  unfold Chan.rampBoundary
  repeat' (first
    | with_reducible assumption
    | with_reducible apply good_Chan_onDtc
    | with_reducible apply good_Chan_refRamp
    | with_reducible apply good_Chan_onCtl
    | with_reducible apply good_Chan_enterHold
    | with_reducible apply good_Chan_legsOff
    | with_reducible apply good_Chan_transCheck
    | with_reducible apply good_foldl
    | with_reducible apply goodD_foldl
    | with_reducible apply goodM_foldl
    | with_reducible apply good_Chan_inv
    | with_reducible apply good_Chan_invNil
    | (with_reducible exact good_mk (by with_reducible assumption))
    | (with_reducible exact goodD_mk (by with_reducible assumption))
    | split
    | (intro _)
    | (extract_lets +onlyGivenNames x; first | (refine good_use (x := x) ?_ (fun hx => ?_)) | (refine good_use (x := x.1) ?_ (fun hx => ?_)) | (refine (have hx : Dev.Good x := ?_; ?_)) | (refine (have hx : Dev.Good x.1 := ?_; ?_)) | (refine (have hx : Mach.Good x := ?_; ?_)) | (refine (have hx : Mach.Good x.1 := ?_; ?_)) | (refine (have hx : Mach.Good x.m := ?_; ?_)) | clear_value x))
theorem good_Chan_speedClass {kc : Ch} (c : Chan) (h_c : c.Good kc) : (Chan.speedClass c).Good kc := by
  unfold Chan.speedClass
  repeat' (first
    | with_reducible assumption
    | with_reducible apply good_Chan_p
    | with_reducible apply good_Dev_p
    | with_reducible apply good_Chan_raise
    | with_reducible apply good_Dev_raise
    | with_reducible apply good_Chan_clear
    | with_reducible apply good_Dev_clear
    | with_reducible apply good_Chan_reselect
    | with_reducible apply good_Chan_transCheck
    | with_reducible apply good_foldl
    | with_reducible apply goodD_foldl
    | with_reducible apply goodM_foldl
    | with_reducible apply good_Chan_inv
    | with_reducible apply good_Chan_invNil
    | (with_reducible exact good_mk (by with_reducible assumption))
    | (with_reducible exact goodD_mk (by with_reducible assumption))
    | split)
theorem good_Chan_windCheck {kc : Ch} (c : Chan) (h_c : c.Good kc) : (Chan.windCheck c).Good kc := by
  unfold Chan.windCheck
  repeat' (first
    | with_reducible assumption
    | with_reducible apply good_Chan_windAbort
    | with_reducible apply good_Chan_reselect
    | with_reducible apply good_Chan_transCheck
    | with_reducible apply good_foldl
    | with_reducible apply goodD_foldl
    | with_reducible apply goodM_foldl
    | with_reducible apply good_Chan_inv
    | with_reducible apply good_Chan_invNil
    | (with_reducible exact good_mk (by with_reducible assumption))
    | (with_reducible exact goodD_mk (by with_reducible assumption))
    | split)
theorem good_Chan_windBoundary {kc : Ch} (c : Chan) (h_c : c.Good kc) : (Chan.windBoundary c).Good kc := by
  unfold Chan.windBoundary
  repeat' (first
    | with_reducible assumption
    | with_reducible apply good_Res_ok
    | with_reducible apply good_Chan_onProt
    | with_reducible apply good_Chan_p
    | with_reducible apply good_Dev_p
    | with_reducible apply good_Chan_wrapInc
    | with_reducible apply good_Dev_wrapInc
    | with_reducible apply good_Chan_evt
    | with_reducible apply good_foldl
    | with_reducible apply goodD_foldl
    | with_reducible apply goodM_foldl
    | with_reducible apply good_Chan_inv
    | with_reducible apply good_Chan_invNil
    | (with_reducible exact good_mk (by with_reducible assumption))
    | (with_reducible exact goodD_mk (by with_reducible assumption))
    | split
    | (intro _)
    | (extract_lets +onlyGivenNames x; first | (refine good_use (x := x) ?_ (fun hx => ?_)) | (refine good_use (x := x.1) ?_ (fun hx => ?_)) | (refine (have hx : Dev.Good x := ?_; ?_)) | (refine (have hx : Dev.Good x.1 := ?_; ?_)) | (refine (have hx : Mach.Good x := ?_; ?_)) | (refine (have hx : Mach.Good x.1 := ?_; ?_)) | (refine (have hx : Mach.Good x.m := ?_; ?_)) | clear_value x))
theorem good_doDecisionBoundary {kc : Ch} (c : Chan) (h_c : c.Good kc) : (doDecisionBoundary c).Good kc := by
  unfold doDecisionBoundary
  repeat' (first
    | with_reducible assumption
    | with_reducible apply good_Chan_noteBoundary
    | with_reducible apply good_Chan_modBoundary
    | with_reducible apply good_Chan_closePeriod
    | with_reducible apply good_Chan_position
    | with_reducible apply good_Chan_crossCheck
    | with_reducible apply good_Chan_ageCheck
    | with_reducible apply good_Chan_latchRef
    | with_reducible apply good_Chan_trust
    | with_reducible apply good_Chan_windCheck
    | with_reducible apply good_Chan_speedClass
    | with_reducible apply good_Chan_rampBoundary
    | with_reducible apply good_Chan_windBoundary
    | with_reducible apply good_Chan_preCompare
    | with_reducible apply good_Chan_adcBoundary)
theorem good_Chan_stamped {kc : Ch} (c : Chan) (t : Option Nat) (h_c : c.Good kc) : (Chan.stamped c t).Good kc := by
  unfold Chan.stamped
  repeat' (first
    | with_reducible assumption
    | with_reducible apply good_foldl
    | with_reducible apply goodD_foldl
    | with_reducible apply goodM_foldl
    | with_reducible apply good_Chan_inv
    | with_reducible apply good_Chan_invNil
    | (with_reducible exact good_mk (by with_reducible assumption)))
theorem good_doDecisionComplete {kc : Ch} (ecc : Nat) (c : Chan) (h_c : c.Good kc) : (doDecisionComplete ecc c).Good kc := by
  unfold doDecisionComplete
  repeat' (first
    | with_reducible assumption
    | with_reducible apply good_Chan_stamped
    | with_reducible apply good_Chan_engine
    | with_reducible apply good_Chan_observe
    | with_reducible apply good_Chan_torqueWindow
    | with_reducible apply good_Chan_tmSample
    | with_reducible apply good_Chan_telemetry
    | with_reducible apply good_Chan_ringSample
    | with_reducible apply good_foldl
    | with_reducible apply goodD_foldl
    | with_reducible apply goodM_foldl
    | with_reducible apply good_Chan_inv
    | with_reducible apply good_Chan_invNil
    | (with_reducible exact good_mk (by with_reducible assumption))
    | (with_reducible exact goodD_mk (by with_reducible assumption))
    | split)
theorem good_Chan_extPulses {kc : Ch} (c : Chan) (pins : Nat) (h_c : c.Good kc) : (Chan.extPulses c pins).Good kc := by
  unfold Chan.extPulses
  repeat' (first
    | with_reducible assumption
    | with_reducible apply good_Chan_each
    | with_reducible apply good_Dev_each
    | with_reducible apply good_Chan_setPair
    | with_reducible apply good_foldl
    | with_reducible apply goodD_foldl
    | with_reducible apply goodM_foldl
    | with_reducible apply good_Chan_inv
    | with_reducible apply good_Chan_invNil
    | (with_reducible exact good_mk (by with_reducible assumption))
    | (with_reducible exact goodD_mk (by with_reducible assumption))
    | split
    | (intro _))
theorem good_doModReadback {kc : Ch} (pulses : Nat) (pins : Nat) (c : Chan) (h_c : c.Good kc) : (doModReadback pulses pins c).Good kc := by
  unfold doModReadback
  repeat' (first
    | with_reducible assumption
    | with_reducible apply good_Chan_extPulses
    | with_reducible apply good_Chan_raise
    | with_reducible apply good_Dev_raise
    | with_reducible apply good_foldl
    | with_reducible apply goodD_foldl
    | with_reducible apply goodM_foldl
    | with_reducible apply good_Chan_inv
    | with_reducible apply good_Chan_invNil
    | (with_reducible exact good_mk (by with_reducible assumption))
    | (with_reducible exact goodD_mk (by with_reducible assumption))
    | split
    | (intro _)
    | (extract_lets +onlyGivenNames x; first | (refine good_use (x := x) ?_ (fun hx => ?_)) | (refine good_use (x := x.1) ?_ (fun hx => ?_)) | (refine (have hx : Dev.Good x := ?_; ?_)) | (refine (have hx : Dev.Good x.1 := ?_; ?_)) | (refine (have hx : Mach.Good x := ?_; ?_)) | (refine (have hx : Mach.Good x.1 := ?_; ?_)) | (refine (have hx : Mach.Good x.m := ?_; ?_)) | clear_value x))
theorem good_Chan_writeTqRef {kc : Ch} (c : Chan) (ref : Nat) (tq : Bool) (h_c : c.Good kc) : (Chan.writeTqRef c ref tq).Good kc := by
  unfold Chan.writeTqRef
  repeat' (first
    | with_reducible assumption
    | with_reducible apply good_Chan_p
    | with_reducible apply good_Dev_p
    | with_reducible apply good_Chan_onDtc)
theorem good_doTqRefWrite {kc : Ch} (ref : Nat) (c : Chan) (h_c : c.Good kc) : (doTqRefWrite ref c).Good kc := by
  unfold doTqRefWrite
  repeat' (first
    | with_reducible assumption
    | with_reducible apply good_Chan_writeTqRef)
theorem good_doStagedRefWrite {kc : Ch} (spd : Bool) (value : Nat) (c : Chan) (h_c : c.Good kc) : (doStagedRefWrite spd value c).Good kc := by
  unfold doStagedRefWrite
  repeat' (first
    | with_reducible assumption
    | with_reducible apply good_Chan_p
    | with_reducible apply good_Dev_p
    | with_reducible apply good_foldl
    | with_reducible apply goodD_foldl
    | with_reducible apply goodM_foldl
    | with_reducible apply good_Chan_inv
    | with_reducible apply good_Chan_invNil
    | (with_reducible exact good_mk (by with_reducible assumption))
    | (with_reducible exact goodD_mk (by with_reducible assumption))
    | split)
theorem good_Chan_armAccept {kc : Ch} (c : Chan) (h_c : c.Good kc) : (Chan.armAccept c).Good kc := by
  unfold Chan.armAccept
  repeat' (first
    | with_reducible assumption
    | with_reducible apply good_Chan_p
    | with_reducible apply good_Dev_p
    | with_reducible apply good_Chan_onCtl
    | with_reducible apply good_Chan_refuseCommit
    | with_reducible apply good_Chan_armAnswer
    | with_reducible apply good_foldl
    | with_reducible apply goodD_foldl
    | with_reducible apply goodM_foldl
    | with_reducible apply good_Chan_inv
    | with_reducible apply good_Chan_invNil
    | (with_reducible exact good_mk (by with_reducible assumption))
    | (with_reducible exact goodD_mk (by with_reducible assumption))
    | split
    | (intro _)
    | (extract_lets +onlyGivenNames x; first | (refine good_use (x := x) ?_ (fun hx => ?_)) | (refine good_use (x := x.1) ?_ (fun hx => ?_)) | (refine (have hx : Dev.Good x := ?_; ?_)) | (refine (have hx : Dev.Good x.1 := ?_; ?_)) | (refine (have hx : Mach.Good x := ?_; ?_)) | (refine (have hx : Mach.Good x.1 := ?_; ?_)) | (refine (have hx : Mach.Good x.m := ?_; ?_)) | clear_value x))
theorem good_doChReqArm {kc : Ch} (c : Chan) (h_c : c.Good kc) : (doChReqArm c).Good kc := by
  unfold doChReqArm
  repeat' (first
    | with_reducible assumption
    | with_reducible apply good_Chan_p
    | with_reducible apply good_Dev_p
    | with_reducible apply good_Chan_armDiscard
    | with_reducible apply good_Chan_onCtl
    | with_reducible apply good_Chan_armAnswer
    | with_reducible apply good_Chan_armAccept
    | with_reducible apply good_foldl
    | with_reducible apply goodD_foldl
    | with_reducible apply goodM_foldl
    | with_reducible apply good_Chan_inv
    | with_reducible apply good_Chan_invNil
    | (with_reducible exact good_mk (by with_reducible assumption))
    | (with_reducible exact goodD_mk (by with_reducible assumption))
    | split
    | (intro _)
    | (extract_lets +onlyGivenNames x; first | (refine good_use (x := x) ?_ (fun hx => ?_)) | (refine good_use (x := x.1) ?_ (fun hx => ?_)) | (refine (have hx : Dev.Good x := ?_; ?_)) | (refine (have hx : Dev.Good x.1 := ?_; ?_)) | (refine (have hx : Mach.Good x := ?_; ?_)) | (refine (have hx : Mach.Good x.1 := ?_; ?_)) | (refine (have hx : Mach.Good x.m := ?_; ?_)) | clear_value x))
theorem good_Chan_unrefuse {kc : Ch} (c : Chan) (h_c : c.Good kc) : (Chan.unrefuse c).Good kc := by
  unfold Chan.unrefuse
  repeat' (first
    | with_reducible assumption
    | with_reducible apply good_Chan_onCtl
    | with_reducible apply good_Chan_p
    | with_reducible apply good_Dev_p
    | with_reducible apply good_Chan_reqDiscard
    | with_reducible apply good_foldl
    | with_reducible apply goodD_foldl
    | with_reducible apply goodM_foldl
    | with_reducible apply good_Chan_inv
    | with_reducible apply good_Chan_invNil
    | (with_reducible exact good_mk (by with_reducible assumption))
    | (with_reducible exact goodD_mk (by with_reducible assumption))
    | split
    | (intro _)
    | (extract_lets +onlyGivenNames x; first | (refine good_use (x := x) ?_ (fun hx => ?_)) | (refine good_use (x := x.1) ?_ (fun hx => ?_)) | (refine (have hx : Dev.Good x := ?_; ?_)) | (refine (have hx : Dev.Good x.1 := ?_; ?_)) | (refine (have hx : Mach.Good x := ?_; ?_)) | (refine (have hx : Mach.Good x.1 := ?_; ?_)) | (refine (have hx : Mach.Good x.m := ?_; ?_)) | clear_value x))
theorem good_doChReqDisarm {kc : Ch} (c : Chan) (h_c : c.Good kc) : (doChReqDisarm c).Good kc := by
  unfold doChReqDisarm
  repeat' (first
    | with_reducible assumption
    | with_reducible apply good_Chan_p
    | with_reducible apply good_Dev_p
    | with_reducible apply good_Chan_onCtl
    | with_reducible apply good_Chan_unrefuse
    | with_reducible apply good_Chan_armEnd
    | with_reducible apply good_Chan_reqDiscard
    | with_reducible apply good_Chan_armAnswer
    | with_reducible apply good_Chan_transCheck
    | with_reducible apply good_foldl
    | with_reducible apply goodD_foldl
    | with_reducible apply goodM_foldl
    | with_reducible apply good_Chan_inv
    | with_reducible apply good_Chan_invNil
    | (with_reducible exact good_mk (by with_reducible assumption))
    | (with_reducible exact goodD_mk (by with_reducible assumption))
    | split
    | (intro _)
    | (extract_lets +onlyGivenNames x; first | (refine good_use (x := x) ?_ (fun hx => ?_)) | (refine good_use (x := x.1) ?_ (fun hx => ?_)) | (refine (have hx : Dev.Good x := ?_; ?_)) | (refine (have hx : Dev.Good x.1 := ?_; ?_)) | (refine (have hx : Mach.Good x := ?_; ?_)) | (refine (have hx : Mach.Good x.1 := ?_; ?_)) | (refine (have hx : Mach.Good x.m := ?_; ?_)) | clear_value x))
theorem good_doChReqClearFault {kc : Ch} (c : Chan) (h_c : c.Good kc) : (doChReqClearFault c).Good kc := by
  unfold doChReqClearFault
  repeat' (first
    | with_reducible assumption
    | with_reducible apply good_Chan_p
    | with_reducible apply good_Dev_p
    | with_reducible apply good_Chan_onCtl
    | with_reducible apply good_Chan_transCheck
    | with_reducible apply good_foldl
    | with_reducible apply goodD_foldl
    | with_reducible apply goodM_foldl
    | with_reducible apply good_Chan_inv
    | with_reducible apply good_Chan_invNil
    | (with_reducible exact good_mk (by with_reducible assumption))
    | (with_reducible exact goodD_mk (by with_reducible assumption))
    | split)
theorem good_doArmWeldCheckEnd {kc : Ch} (c : Chan) (h_c : c.Good kc) : (doArmWeldCheckEnd c).Good kc := by
  unfold doArmWeldCheckEnd
  repeat' (first
    | with_reducible assumption
    | with_reducible apply good_Chan_preReport
    | with_reducible apply good_Chan_armFail
    | with_reducible apply good_Chan_armRefuse
    | with_reducible apply good_Chan_pulse
    | with_reducible apply good_Dev_pulse
    | with_reducible apply good_Chan_armStep
    | with_reducible apply good_Chan_primerStart
    | with_reducible apply good_foldl
    | with_reducible apply goodD_foldl
    | with_reducible apply goodM_foldl
    | with_reducible apply good_Chan_inv
    | with_reducible apply good_Chan_invNil
    | (with_reducible exact good_mk (by with_reducible assumption))
    | (with_reducible exact goodD_mk (by with_reducible assumption))
    | split
    | (intro _)
    | (extract_lets +onlyGivenNames x; first | (refine good_use (x := x) ?_ (fun hx => ?_)) | (refine good_use (x := x.1) ?_ (fun hx => ?_)) | (refine (have hx : Dev.Good x := ?_; ?_)) | (refine (have hx : Dev.Good x.1 := ?_; ?_)) | (refine (have hx : Mach.Good x := ?_; ?_)) | (refine (have hx : Mach.Good x.1 := ?_; ?_)) | (refine (have hx : Mach.Good x.m := ?_; ?_)) | clear_value x))
theorem good_doArmSequenceEnd {kc : Ch} (c : Chan) (h_c : c.Good kc) : (doArmSequenceEnd c).Good kc := by
  unfold doArmSequenceEnd
  repeat' (first
    | with_reducible assumption
    | with_reducible apply good_Chan_armFail
    | with_reducible apply good_Chan_onCtl
    | with_reducible apply good_Chan_onMsio
    | with_reducible apply good_Chan_p
    | with_reducible apply good_Dev_p
    | with_reducible apply good_Chan_enterArmed
    | with_reducible apply good_Chan_armAnswer
    | with_reducible apply good_foldl
    | with_reducible apply goodD_foldl
    | with_reducible apply goodM_foldl
    | with_reducible apply good_Chan_inv
    | with_reducible apply good_Chan_invNil
    | (with_reducible exact good_mk (by with_reducible assumption))
    | (with_reducible exact goodD_mk (by with_reducible assumption))
    | split)
theorem good_doArmTimeout {kc : Ch} (c : Chan) (h_c : c.Good kc) : (doArmTimeout c).Good kc := by
  unfold doArmTimeout
  repeat' (first
    | with_reducible assumption
    | with_reducible apply good_Chan_armEnd
    | with_reducible apply good_Chan_p
    | with_reducible apply good_Dev_p
    | with_reducible apply good_Chan_pulse
    | with_reducible apply good_Dev_pulse
    | with_reducible apply good_Chan_armAnswer
    | with_reducible apply good_foldl
    | with_reducible apply goodD_foldl
    | with_reducible apply goodM_foldl
    | with_reducible apply good_Chan_inv
    | with_reducible apply good_Chan_invNil
    | (with_reducible exact good_mk (by with_reducible assumption))
    | (with_reducible exact goodD_mk (by with_reducible assumption))
    | split)
theorem good_doTransitionDelayExpiry {kc : Ch} (c : Chan) (h_c : c.Good kc) : (doTransitionDelayExpiry c).Good kc := by
  unfold doTransitionDelayExpiry
  repeat' (first
    | with_reducible assumption
    | with_reducible apply good_Chan_enterHold
    | with_reducible apply good_Chan_enterPrimed
    | with_reducible apply good_foldl
    | with_reducible apply goodD_foldl
    | with_reducible apply goodM_foldl
    | with_reducible apply good_Chan_inv
    | with_reducible apply good_Chan_invNil
    | (with_reducible exact good_mk (by with_reducible assumption))
    | (with_reducible exact goodD_mk (by with_reducible assumption))
    | split)
theorem good_doStreamLapse {kc : Ch} (c : Chan) (h_c : c.Good kc) : (doStreamLapse c).Good kc := by
  unfold doStreamLapse
  repeat' (first
    | with_reducible assumption
    | with_reducible apply good_Chan_p
    | with_reducible apply good_Dev_p
    | with_reducible apply good_Chan_raise
    | with_reducible apply good_Dev_raise
    | with_reducible apply good_foldl
    | with_reducible apply goodD_foldl
    | with_reducible apply goodM_foldl
    | with_reducible apply good_Chan_inv
    | with_reducible apply good_Chan_invNil
    | (with_reducible exact good_mk (by with_reducible assumption))
    | (with_reducible exact goodD_mk (by with_reducible assumption))
    | split)
theorem good_doLapseHold {kc : Ch} (c : Chan) (h_c : c.Good kc) : (doLapseHold c).Good kc := by
  unfold doLapseHold
  repeat' (first
    | with_reducible assumption
    | with_reducible apply good_Chan_enterHold
    | with_reducible apply good_foldl
    | with_reducible apply goodD_foldl
    | with_reducible apply goodM_foldl
    | with_reducible apply good_Chan_inv
    | with_reducible apply good_Chan_invNil
    | (with_reducible exact good_mk (by with_reducible assumption))
    | (with_reducible exact goodD_mk (by with_reducible assumption))
    | split)
theorem good_Chan_takeShadow {kc : Ch} (c : Chan) (a : Nat) (h_c : c.Good kc) : (Chan.takeShadow c a).Good kc := by
  unfold Chan.takeShadow
  repeat' (first
    | with_reducible assumption
    | with_reducible apply good_Chan_wr)
theorem good_Chan_swapped {kc : Ch} (c : Chan) (k : Kind) (h_c : c.Good kc) : (Chan.swapped c k).Good kc := by
  unfold Chan.swapped
  repeat' (first
    | with_reducible assumption
    | with_reducible apply good_Chan_takeShadow
    | with_reducible apply good_foldl)
theorem good_Chan_refresh {kc : Ch} (c : Chan) (a : Nat) (h_c : c.Good kc) : (Chan.refresh c a).Good kc := by
  unfold Chan.refresh
  repeat' (first
    | with_reducible assumption
    | with_reducible apply good_Chan_wrs)
theorem good_Chan_refreshed {kc : Ch} (c : Chan) (k : Kind) (h_c : c.Good kc) : (Chan.refreshed c k).Good kc := by
  unfold Chan.refreshed
  repeat' (first
    | with_reducible assumption
    | with_reducible apply good_Chan_refresh
    | with_reducible apply good_foldl)
theorem good_doPlumbMismatch {kc : Ch} (kind : Nat) (c : Chan) (h_c : c.Good kc) : (doPlumbMismatch kind c).Good kc := by
  unfold doPlumbMismatch
  repeat' (first
    | with_reducible assumption
    | with_reducible apply good_Chan_onCtl
    | with_reducible apply good_Chan_wr
    | with_reducible apply good_Dev_wr
    | with_reducible apply good_Chan_p
    | with_reducible apply good_Dev_p
    | with_reducible apply good_Chan_raise
    | with_reducible apply good_Dev_raise
    | with_reducible apply good_foldl
    | with_reducible apply goodD_foldl
    | with_reducible apply goodM_foldl
    | with_reducible apply good_Chan_inv
    | with_reducible apply good_Chan_invNil
    | (with_reducible exact good_mk (by with_reducible assumption))
    | (with_reducible exact goodD_mk (by with_reducible assumption))
    | split)
theorem good_doPlumbTest {kc : Ch} (own : Bool) (other : Bool) (c : Chan) (h_c : c.Good kc) : (doPlumbTest own other c).Good kc := by
  unfold doPlumbTest
  repeat' (first
    | with_reducible assumption
    | with_reducible apply good_Chan_p
    | with_reducible apply good_Dev_p
    | with_reducible apply good_Chan_wrapInc
    | with_reducible apply good_Dev_wrapInc
    | with_reducible apply good_doPlumbMismatch
    | with_reducible apply good_foldl
    | with_reducible apply goodD_foldl
    | with_reducible apply goodM_foldl
    | with_reducible apply good_Chan_inv
    | with_reducible apply good_Chan_invNil
    | (with_reducible exact good_mk (by with_reducible assumption))
    | (with_reducible exact goodD_mk (by with_reducible assumption))
    | split)
theorem good_Chan_debugHalt {kc : Ch} (c : Chan) (kind : Nat) (h_c : c.Good kc) : (Chan.debugHalt c kind).Good kc := by
  unfold Chan.debugHalt
  repeat' (first
    | with_reducible assumption
    | with_reducible apply good_Chan_p
    | with_reducible apply good_Dev_p
    | with_reducible apply good_Chan_pulse
    | with_reducible apply good_Dev_pulse
    | with_reducible apply good_Chan_enterHold
    | with_reducible apply good_Chan_armFail
    | with_reducible apply good_Chan_transCheck
    | with_reducible apply good_foldl
    | with_reducible apply goodD_foldl
    | with_reducible apply goodM_foldl
    | with_reducible apply good_Chan_inv
    | with_reducible apply good_Chan_invNil
    | (with_reducible exact good_mk (by with_reducible assumption))
    | (with_reducible exact goodD_mk (by with_reducible assumption))
    | split
    | (intro _)
    | (extract_lets +onlyGivenNames x; first | (refine good_use (x := x) ?_ (fun hx => ?_)) | (refine good_use (x := x.1) ?_ (fun hx => ?_)) | (refine (have hx : Dev.Good x := ?_; ?_)) | (refine (have hx : Dev.Good x.1 := ?_; ?_)) | (refine (have hx : Mach.Good x := ?_; ?_)) | (refine (have hx : Mach.Good x.1 := ?_; ?_)) | (refine (have hx : Mach.Good x.m := ?_; ?_)) | clear_value x))
theorem good_Chan_tcmEcc {kc : Ch} (c : Chan) (word : Nat) (double : Bool) (h_c : c.Good kc) : (Chan.tcmEcc c word double).Good kc := by
  unfold Chan.tcmEcc
  repeat' (first
    | with_reducible assumption
    | with_reducible apply good_Chan_p
    | with_reducible apply good_Dev_p
    | with_reducible apply good_Chan_tcmPut
    | with_reducible apply good_Chan_took
    | with_reducible apply good_Dev_took
    | with_reducible apply good_Chan_pulse
    | with_reducible apply good_Dev_pulse
    | with_reducible apply good_Chan_satInc
    | with_reducible apply good_Dev_satInc
    | with_reducible apply good_foldl
    | with_reducible apply goodD_foldl
    | with_reducible apply goodM_foldl
    | with_reducible apply good_Chan_inv
    | with_reducible apply good_Chan_invNil
    | (with_reducible exact good_mk (by with_reducible assumption))
    | (with_reducible exact goodD_mk (by with_reducible assumption))
    | split)
theorem good_doShadowMismatch {kc : Ch} (addr : Nat) (bit : Nat) (c : Chan) (h_c : c.Good kc) : (doShadowMismatch addr bit c).Good kc := by
  unfold doShadowMismatch
  repeat' (first
    | with_reducible assumption
    | with_reducible apply good_Chan_p
    | with_reducible apply good_Dev_p
    | with_reducible apply good_Chan_raise
    | with_reducible apply good_Dev_raise
    | with_reducible apply good_foldl
    | with_reducible apply goodD_foldl
    | with_reducible apply goodM_foldl
    | with_reducible apply good_Chan_inv
    | with_reducible apply good_Chan_invNil
    | (with_reducible exact good_mk (by with_reducible assumption))
    | (with_reducible exact goodD_mk (by with_reducible assumption))
    | split)
theorem good_Chan_cvuTouch {kc : Ch} (c : Chan) (n : Nat) (h_c : c.Good kc) : (Chan.cvuTouch c n).Good kc := by
  unfold Chan.cvuTouch
  repeat' (first
    | with_reducible assumption
    | with_reducible apply good_Chan_skimAbortIf)
theorem good_Chan_cvuData {kc : Ch} (c : Chan) (n : Nat) (data : Nat) (h_c : c.Good kc) : (Chan.cvuData c n data).Good kc := by
  unfold Chan.cvuData
  repeat' (first
    | with_reducible assumption
    | with_reducible apply good_Chan_cvuTouch
    | with_reducible apply good_Chan_wr)
theorem good_Chan_cvuInit {kc : Ch} (c : Chan) (n : Nat) (h_c : c.Good kc) : (Chan.cvuInit c n).Good kc := by
  unfold Chan.cvuInit
  repeat' (first
    | with_reducible assumption
    | with_reducible apply good_Chan_cvuTouch
    | with_reducible apply good_Chan_wr)
theorem good_Chan_cvuCheck {kc : Ch} (c : Chan) (n : Nat) (h_c : c.Good kc) : (Chan.cvuCheck c n).Good kc := by
  unfold Chan.cvuCheck
  repeat' (first
    | with_reducible assumption
    | with_reducible apply good_Chan_cvuTouch
    | with_reducible apply good_Chan_p
    | with_reducible apply good_Dev_p
    | with_reducible apply good_Chan_pb
    | with_reducible apply good_Dev_pb
    | with_reducible apply good_Chan_raise
    | with_reducible apply good_Dev_raise
    | with_reducible apply good_foldl
    | with_reducible apply goodD_foldl
    | with_reducible apply goodM_foldl
    | with_reducible apply good_Chan_inv
    | with_reducible apply good_Chan_invNil
    | (with_reducible exact good_mk (by with_reducible assumption))
    | (with_reducible exact goodD_mk (by with_reducible assumption))
    | split
    | (intro _)
    | (extract_lets +onlyGivenNames x; first | (refine good_use (x := x) ?_ (fun hx => ?_)) | (refine good_use (x := x.1) ?_ (fun hx => ?_)) | (refine (have hx : Dev.Good x := ?_; ?_)) | (refine (have hx : Dev.Good x.1 := ?_; ?_)) | (refine (have hx : Mach.Good x := ?_; ?_)) | (refine (have hx : Mach.Good x.1 := ?_; ?_)) | (refine (have hx : Mach.Good x.m := ?_; ?_)) | clear_value x))
theorem good_Chan_skimNow {kc : Ch} (c : Chan) (h_c : c.Good kc) : (Chan.skimNow c).Good kc := by
  unfold Chan.skimNow
  repeat' (first
    | with_reducible assumption
    | with_reducible apply good_Chan_p)
theorem good_doSkimSliceStart {kc : Ch} (cls : Nat) (unit : Nat) (c : Chan) (h_c : c.Good kc) : (doSkimSliceStart cls unit c).Good kc := by
  unfold doSkimSliceStart
  repeat' (first
    | with_reducible assumption
    | with_reducible apply good_Chan_onSkim
    | with_reducible apply good_Chan_p
    | with_reducible apply good_Dev_p
    | with_reducible apply good_foldl
    | with_reducible apply goodD_foldl
    | with_reducible apply goodM_foldl
    | with_reducible apply good_Chan_inv
    | with_reducible apply good_Chan_invNil
    | (with_reducible exact good_mk (by with_reducible assumption))
    | (with_reducible exact goodD_mk (by with_reducible assumption))
    | split
    | (intro _)
    | (extract_lets +onlyGivenNames x; first | (refine good_use (x := x) ?_ (fun hx => ?_)) | (refine good_use (x := x.1) ?_ (fun hx => ?_)) | (refine (have hx : Dev.Good x := ?_; ?_)) | (refine (have hx : Dev.Good x.1 := ?_; ?_)) | (refine (have hx : Mach.Good x := ?_; ?_)) | (refine (have hx : Mach.Good x.1 := ?_; ?_)) | (refine (have hx : Mach.Good x.m := ?_; ?_)) | clear_value x))
theorem good_Chan_regfStore {kc : Ch} (c : Chan) (h_c : c.Good kc) : (Chan.regfStore c).Good kc := by
  unfold Chan.regfStore
  repeat' (first
    | with_reducible assumption
    | with_reducible apply good_Chan_each
    | with_reducible apply good_Dev_each
    | with_reducible apply good_Chan_wr
    | with_reducible apply good_Dev_wr
    | with_reducible apply good_foldl
    | with_reducible apply goodD_foldl
    | with_reducible apply goodM_foldl
    | with_reducible apply good_Chan_inv
    | with_reducible apply good_Chan_invNil
    | (with_reducible exact good_mk (by with_reducible assumption))
    | (with_reducible exact goodD_mk (by with_reducible assumption))
    | split
    | (intro _))
theorem good_Chan_skimFail {kc : Ch} (c : Chan) (cls : Nat) (unit : Nat) (detail : Nat) (s : Src) (h_c : c.Good kc) : (Chan.skimFail c cls unit detail s).Good kc := by
  unfold Chan.skimFail
  repeat' (first
    | with_reducible assumption
    | with_reducible apply good_Chan_wr
    | with_reducible apply good_Dev_wr
    | with_reducible apply good_Chan_raise)
theorem good_Chan_scrubTcm {kc : Ch} (c : Chan) (unit : Nat) (err : Nat) (word : Nat) (h_c : c.Good kc) : (Chan.scrubTcm c unit err word).Good kc := by
  unfold Chan.scrubTcm
  repeat' (first
    | with_reducible assumption
    | with_reducible apply good_Chan_wr
    | with_reducible apply good_Dev_wr
    | with_reducible apply good_Chan_tcmEcc
    | with_reducible apply good_foldl
    | with_reducible apply goodD_foldl
    | with_reducible apply goodM_foldl
    | with_reducible apply good_Chan_inv
    | with_reducible apply good_Chan_invNil
    | (with_reducible exact good_mk (by with_reducible assumption))
    | (with_reducible exact goodD_mk (by with_reducible assumption))
    | split)
theorem good_Chan_skimVerdict {kc : Ch} (c : Chan) (r : SkimRun) (raw : Nat) (raw1 : Nat) (ok : Bool) (detail : Nat) (h_c : c.Good kc) : (Chan.skimVerdict c r raw raw1 ok detail).Good kc := by
  unfold Chan.skimVerdict
  repeat' (first
    | with_reducible assumption
    | with_reducible apply good_Chan_skimFail
    | with_reducible apply good_Res_ok
    | with_reducible apply good_Chan_satInc
    | with_reducible apply good_Dev_satInc
    | with_reducible apply good_doPlumbMismatch
    | with_reducible apply good_Chan_wr
    | with_reducible apply good_Dev_wr
    | with_reducible apply good_Chan_scrubTcm
    | with_reducible apply good_Chan_p
    | with_reducible apply good_Dev_p
    | with_reducible apply good_foldl
    | with_reducible apply goodD_foldl
    | with_reducible apply goodM_foldl
    | with_reducible apply good_Chan_inv
    | with_reducible apply good_Chan_invNil
    | (with_reducible exact good_mk (by with_reducible assumption))
    | (with_reducible exact goodD_mk (by with_reducible assumption))
    | split
    | (intro _)
    | (extract_lets +onlyGivenNames x; first | (refine good_use (x := x) ?_ (fun hx => ?_)) | (refine good_use (x := x.1) ?_ (fun hx => ?_)) | (refine (have hx : Dev.Good x := ?_; ?_)) | (refine (have hx : Dev.Good x.1 := ?_; ?_)) | (refine (have hx : Mach.Good x := ?_; ?_)) | (refine (have hx : Mach.Good x.1 := ?_; ?_)) | (refine (have hx : Mach.Good x.m := ?_; ?_)) | clear_value x))
theorem good_Chan_skimCover {kc : Ch} (c : Chan) (r : SkimRun) (h_c : c.Good kc) : (Chan.skimCover c r).Good kc := by
  unfold Chan.skimCover
  repeat' (first
    | with_reducible assumption
    | with_reducible apply good_Chan_onSkim
    | with_reducible apply good_Chan_p
    | with_reducible apply good_Dev_p
    | with_reducible apply good_Chan_clear
    | with_reducible apply good_Dev_clear
    | with_reducible apply good_foldl
    | with_reducible apply goodD_foldl
    | with_reducible apply goodM_foldl
    | with_reducible apply good_Chan_inv
    | with_reducible apply good_Chan_invNil
    | (with_reducible exact good_mk (by with_reducible assumption))
    | (with_reducible exact goodD_mk (by with_reducible assumption))
    | split
    | (intro _)
    | (extract_lets +onlyGivenNames x; first | (refine good_use (x := x) ?_ (fun hx => ?_)) | (refine good_use (x := x.1) ?_ (fun hx => ?_)) | (refine (have hx : Dev.Good x := ?_; ?_)) | (refine (have hx : Dev.Good x.1 := ?_; ?_)) | (refine (have hx : Mach.Good x := ?_; ?_)) | (refine (have hx : Mach.Good x.1 := ?_; ?_)) | (refine (have hx : Mach.Good x.m := ?_; ?_)) | clear_value x))
theorem good_Chan_passCheck {kc : Ch} (c : Chan) (h_c : c.Good kc) : (Chan.passCheck c).Good kc := by
  unfold Chan.passCheck
  repeat' (first
    | with_reducible assumption
    | with_reducible apply good_Chan_p
    | with_reducible apply good_Dev_p
    | with_reducible apply good_Chan_answer
    | with_reducible apply good_foldl
    | with_reducible apply goodD_foldl
    | with_reducible apply goodM_foldl
    | with_reducible apply good_Chan_inv
    | with_reducible apply good_Chan_invNil
    | (with_reducible exact good_mk (by with_reducible assumption))
    | (with_reducible exact goodD_mk (by with_reducible assumption))
    | split)
theorem good_doSkimSliceEnd {kc : Ch} (raw : Nat) (raw1 : Nat) (ok : Bool) (detail : Nat) (c : Chan) (h_c : c.Good kc) : (doSkimSliceEnd raw raw1 ok detail c).Good kc := by
  unfold doSkimSliceEnd
  repeat' (first
    | with_reducible assumption
    | with_reducible apply good_Chan_skimIdle
    | with_reducible apply good_Chan_skimCover
    | with_reducible apply good_Chan_skimVerdict
    | with_reducible apply good_Res_ok
    | with_reducible apply good_Chan_passCheck
    | with_reducible apply good_foldl
    | with_reducible apply goodD_foldl
    | with_reducible apply goodM_foldl
    | with_reducible apply good_Chan_inv
    | with_reducible apply good_Chan_invNil
    | (with_reducible exact good_mk (by with_reducible assumption))
    | (with_reducible exact goodD_mk (by with_reducible assumption))
    | split)
theorem good_doSkimAbort {kc : Ch} (c : Chan) (h_c : c.Good kc) : (doSkimAbort c).Good kc := by
  unfold doSkimAbort
  repeat' (first
    | with_reducible assumption
    | with_reducible apply good_Chan_skimAbort
    | with_reducible apply good_foldl
    | with_reducible apply goodD_foldl
    | with_reducible apply goodM_foldl
    | with_reducible apply good_Chan_inv
    | with_reducible apply good_Chan_invNil
    | (with_reducible exact good_mk (by with_reducible assumption))
    | (with_reducible exact goodD_mk (by with_reducible assumption))
    | split)
theorem good_doSkimCycleEnd {kc : Ch} (c : Chan) (h_c : c.Good kc) : (doSkimCycleEnd c).Good kc := by
  unfold doSkimCycleEnd
  repeat' (first
    | with_reducible assumption
    | with_reducible apply good_Chan_p
    | with_reducible apply good_Dev_p
    | with_reducible apply good_Chan_wrapInc
    | with_reducible apply good_Dev_wrapInc
    | with_reducible apply good_Chan_onSkim
    | with_reducible apply good_Chan_follow
    | with_reducible apply good_Dev_follow
    | with_reducible apply good_foldl
    | with_reducible apply goodD_foldl
    | with_reducible apply goodM_foldl
    | with_reducible apply good_Chan_inv
    | with_reducible apply good_Chan_invNil
    | (with_reducible exact good_mk (by with_reducible assumption))
    | (with_reducible exact goodD_mk (by with_reducible assumption))
    | split)
theorem good_doSkimReqPass {kc : Ch} (c : Chan) (h_c : c.Good kc) : (doSkimReqPass c).Good kc := by
  unfold doSkimReqPass
  repeat' (first
    | with_reducible assumption
    | with_reducible apply good_Chan_p
    | with_reducible apply good_Dev_p
    | with_reducible apply good_Chan_onSkim
    | with_reducible apply good_Chan_passCheck
    | with_reducible apply good_foldl
    | with_reducible apply goodD_foldl
    | with_reducible apply goodM_foldl
    | with_reducible apply good_Chan_inv
    | with_reducible apply good_Chan_invNil
    | (with_reducible exact good_mk (by with_reducible assumption))
    | (with_reducible exact goodD_mk (by with_reducible assumption))
    | split
    | (intro _)
    | (extract_lets +onlyGivenNames x; first | (refine good_use (x := x) ?_ (fun hx => ?_)) | (refine good_use (x := x.1) ?_ (fun hx => ?_)) | (refine (have hx : Dev.Good x := ?_; ?_)) | (refine (have hx : Dev.Good x.1 := ?_; ?_)) | (refine (have hx : Mach.Good x := ?_; ?_)) | (refine (have hx : Mach.Good x.1 := ?_; ?_)) | (refine (have hx : Mach.Good x.m := ?_; ?_)) | clear_value x))
theorem good_Chan_streamApply {kc : Ch} (c : Chan) (h : HeldTq) (h_c : c.Good kc) : (Chan.streamApply c h).Good kc := by
  unfold Chan.streamApply
  repeat' (first
    | with_reducible assumption
    | with_reducible apply good_Chan_p
    | with_reducible apply good_Dev_p
    | with_reducible apply good_Chan_writeTqRef
    | with_reducible apply good_Chan_onCtl
    | with_reducible apply good_foldl
    | with_reducible apply goodD_foldl
    | with_reducible apply goodM_foldl
    | with_reducible apply good_Chan_inv
    | with_reducible apply good_Chan_invNil
    | (with_reducible exact good_mk (by with_reducible assumption))
    | (with_reducible exact goodD_mk (by with_reducible assumption))
    | split)
theorem good_Chan_partRefused {kc : Ch} (c : Chan) (bundle : Nat) (tag : Nat) (status : Nat) (h_c : c.Good kc) : (Chan.partRefused c bundle tag status).Good kc := by
  unfold Chan.partRefused
  repeat' (first
    | with_reducible assumption
    | with_reducible apply good_Chan_evt)
theorem good_Chan_heldLand {kc : Ch} (c : Chan) (h_c : c.Good kc) : (Chan.heldLand c).Good kc := by
  unfold Chan.heldLand
  repeat' (first
    | with_reducible assumption
    | with_reducible apply good_Chan_onCtl
    | with_reducible apply good_Chan_partRefused
    | with_reducible apply good_Chan_streamApply
    | with_reducible apply good_Chan_latchRef
    | with_reducible apply good_Chan_rampAgain
    | with_reducible apply good_foldl
    | with_reducible apply goodD_foldl
    | with_reducible apply goodM_foldl
    | with_reducible apply good_Chan_inv
    | with_reducible apply good_Chan_invNil
    | (with_reducible exact good_mk (by with_reducible assumption))
    | (with_reducible exact goodD_mk (by with_reducible assumption))
    | split
    | (intro _)
    | (extract_lets +onlyGivenNames x; first | (refine good_use (x := x) ?_ (fun hx => ?_)) | (refine good_use (x := x.1) ?_ (fun hx => ?_)) | (refine (have hx : Dev.Good x := ?_; ?_)) | (refine (have hx : Dev.Good x.1 := ?_; ?_)) | (refine (have hx : Mach.Good x := ?_; ?_)) | (refine (have hx : Mach.Good x.1 := ?_; ?_)) | (refine (have hx : Mach.Good x.m := ?_; ?_)) | clear_value x))
theorem good_Chan_commitRefuse {kc : Ch} (c : Chan) (op : ChOp) (code : Nat) (h_c : c.Good kc) : (Chan.commitRefuse c op code).Good kc := by
  unfold Chan.commitRefuse
  repeat' (first
    | with_reducible assumption
    | with_reducible apply good_Chan_refuseCommit
    | with_reducible apply good_Chan_answer)
theorem good_Chan_commitPend {kc : Ch} (c : Chan) (k : Kind) (id : Option SetId) (h_c : c.Good kc) : (Chan.commitPend c k id).Good kc := by
  unfold Chan.commitPend
  repeat' (first
    | with_reducible assumption
    | with_reducible apply good_Chan_onCtl
    | with_reducible apply good_Chan_p)
theorem good_Chan_tuningCommit {kc : Ch} (c : Chan) (lc : Nat) (h_c : c.Good kc) : (Chan.tuningCommit c lc).Good kc := by
  unfold Chan.tuningCommit
  repeat' (first
    | with_reducible assumption
    | with_reducible apply good_Chan_p
    | with_reducible apply good_Dev_p
    | with_reducible apply good_Chan_commitRefuse
    | with_reducible apply good_Chan_commitPend
    | with_reducible apply good_foldl
    | with_reducible apply goodD_foldl
    | with_reducible apply goodM_foldl
    | with_reducible apply good_Chan_inv
    | with_reducible apply good_Chan_invNil
    | (with_reducible exact good_mk (by with_reducible assumption))
    | (with_reducible exact goodD_mk (by with_reducible assumption))
    | split
    | (intro _)
    | (extract_lets +onlyGivenNames x; first | (refine good_use (x := x) ?_ (fun hx => ?_)) | (refine good_use (x := x.1) ?_ (fun hx => ?_)) | (refine (have hx : Dev.Good x := ?_; ?_)) | (refine (have hx : Dev.Good x.1 := ?_; ?_)) | (refine (have hx : Mach.Good x := ?_; ?_)) | (refine (have hx : Mach.Good x.1 := ?_; ?_)) | (refine (have hx : Mach.Good x.m := ?_; ?_)) | clear_value x))
theorem good_Chan_safetyStage {kc : Ch} (c : Chan) (lc : Nat) (id : Option SetId) (h_c : c.Good kc) : (Chan.safetyStage c lc id).Good kc := by
  unfold Chan.safetyStage
  repeat' (first
    | with_reducible assumption
    | with_reducible apply good_Chan_p
    | with_reducible apply good_Dev_p
    | with_reducible apply good_Chan_commitRefuse
    | with_reducible apply good_Chan_onCtl
    | with_reducible apply good_Chan_answer
    | with_reducible apply good_foldl
    | with_reducible apply goodD_foldl
    | with_reducible apply goodM_foldl
    | with_reducible apply good_Chan_inv
    | with_reducible apply good_Chan_invNil
    | (with_reducible exact good_mk (by with_reducible assumption))
    | (with_reducible exact goodD_mk (by with_reducible assumption))
    | split
    | (intro _)
    | (extract_lets +onlyGivenNames x; first | (refine good_use (x := x) ?_ (fun hx => ?_)) | (refine good_use (x := x.1) ?_ (fun hx => ?_)) | (refine (have hx : Dev.Good x := ?_; ?_)) | (refine (have hx : Dev.Good x.1 := ?_; ?_)) | (refine (have hx : Mach.Good x := ?_; ?_)) | (refine (have hx : Mach.Good x.1 := ?_; ?_)) | (refine (have hx : Mach.Good x.m := ?_; ?_)) | clear_value x))
theorem good_Chan_safetyConfirm {kc : Ch} (c : Chan) (lc : Nat) (h_c : c.Good kc) : (Chan.safetyConfirm c lc).Good kc := by
  unfold Chan.safetyConfirm
  repeat' (first
    | with_reducible assumption
    | with_reducible apply good_Chan_p
    | with_reducible apply good_Dev_p
    | with_reducible apply good_Chan_commitRefuse
    | with_reducible apply good_Chan_onCtl
    | with_reducible apply good_Chan_commitPend
    | with_reducible apply good_foldl
    | with_reducible apply goodD_foldl
    | with_reducible apply goodM_foldl
    | with_reducible apply good_Chan_inv
    | with_reducible apply good_Chan_invNil
    | (with_reducible exact good_mk (by with_reducible assumption))
    | (with_reducible exact goodD_mk (by with_reducible assumption))
    | split
    | (intro _)
    | (extract_lets +onlyGivenNames x; first | (refine good_use (x := x) ?_ (fun hx => ?_)) | (refine good_use (x := x.1) ?_ (fun hx => ?_)) | (refine (have hx : Dev.Good x := ?_; ?_)) | (refine (have hx : Dev.Good x.1 := ?_; ?_)) | (refine (have hx : Mach.Good x := ?_; ?_)) | (refine (have hx : Mach.Good x.1 := ?_; ?_)) | (refine (have hx : Mach.Good x.m := ?_; ?_)) | clear_value x))
theorem good_doSafetyStageExpiry {kc : Ch} (c : Chan) (h_c : c.Good kc) : (doSafetyStageExpiry c).Good kc := by
  unfold doSafetyStageExpiry
  repeat' (first
    | with_reducible assumption
    | with_reducible apply good_Chan_onCtl
    | with_reducible apply good_foldl
    | with_reducible apply goodD_foldl
    | with_reducible apply goodM_foldl
    | with_reducible apply good_Chan_inv
    | with_reducible apply good_Chan_invNil
    | (with_reducible exact good_mk (by with_reducible assumption))
    | (with_reducible exact goodD_mk (by with_reducible assumption))
    | split)
theorem good_Chan_toggleBanks {kc : Ch} (c : Chan) (k : Kind) (h_c : c.Good kc) : (Chan.toggleBanks c k).Good kc := by
  unfold Chan.toggleBanks
  repeat' (first
    | with_reducible assumption
    | with_reducible apply good_Chan_p
    | with_reducible apply good_Dev_p
    | with_reducible apply good_foldl
    | with_reducible apply goodD_foldl
    | with_reducible apply goodM_foldl
    | with_reducible apply good_Chan_inv
    | with_reducible apply good_Chan_invNil
    | (with_reducible exact good_mk (by with_reducible assumption))
    | (with_reducible exact goodD_mk (by with_reducible assumption))
    | split)
theorem good_Chan_landRecord {kc : Ch} (c : Chan) (p : Commit) (h_c : c.Good kc) : (Chan.landRecord c p).Good kc := by
  unfold Chan.landRecord
  repeat' (first
    | with_reducible assumption
    | with_reducible apply good_Chan_wr
    | with_reducible apply good_Dev_wr
    | with_reducible apply good_Chan_wrapInc
    | with_reducible apply good_Dev_wrapInc
    | with_reducible apply good_Chan_p
    | with_reducible apply good_Dev_p
    | with_reducible apply good_Chan_evt)
theorem good_Chan_landCommon {kc : Ch} (c : Chan) (o : Chan) (h_c : c.Good kc) (h_o : o.Good kc) : (Chan.landCommon c o).Good kc := by
  unfold Chan.landCommon
  repeat' (first
    | with_reducible assumption
    | with_reducible apply good_Chan_adcAfterLand
    | with_reducible apply good_Chan_landDtc
    | with_reducible apply good_Chan_each
    | with_reducible apply good_Dev_each
    | with_reducible apply good_Chan_sendCfg
    | with_reducible apply good_Chan_maskReport
    | with_reducible apply good_Chan_regfStore)
theorem good_Chan_landSafety {kc : Ch} (c : Chan) (o : Chan) (h_c : c.Good kc) (h_o : o.Good kc) : (Chan.landSafety c o).Good kc := by
  unfold Chan.landSafety
  repeat' (first
    | with_reducible assumption
    | with_reducible apply good_Chan_wcmpLand
    | with_reducible apply good_Chan_landSinc
    | with_reducible apply good_Chan_landXchk
    | with_reducible apply good_Chan_landMask
    | with_reducible apply good_Chan_landObs
    | with_reducible apply good_Chan_landMsio
    | with_reducible apply good_Chan_p
    | with_reducible apply good_Dev_p
    | with_reducible apply good_Chan_chopEval
    | with_reducible apply good_Chan_nfaultSet
    | with_reducible apply good_foldl
    | with_reducible apply goodD_foldl
    | with_reducible apply goodM_foldl
    | with_reducible apply good_Chan_inv
    | with_reducible apply good_Chan_invNil)
theorem good_Chan_landReady {kc : Ch} (c : Chan) (p : Commit) (h_c : c.Good kc) : (Chan.landReady c p).Good kc := by
  unfold Chan.landReady
  repeat' (first
    | with_reducible assumption
    | with_reducible apply good_Chan_p
    | with_reducible apply good_Dev_p
    | with_reducible apply good_Chan_onCtl
    | with_reducible apply good_foldl
    | with_reducible apply goodD_foldl
    | with_reducible apply goodM_foldl
    | with_reducible apply good_Chan_inv
    | with_reducible apply good_Chan_invNil
    | (with_reducible exact good_mk (by with_reducible assumption))
    | (with_reducible exact goodD_mk (by with_reducible assumption))
    | split)
theorem good_Chan_landAnswer {kc : Ch} (c : Chan) (p : Commit) (h_c : c.Good kc) : (Chan.landAnswer c p).Good kc := by
  unfold Chan.landAnswer
  repeat' (first
    | with_reducible assumption
    | with_reducible apply good_Chan_answer)
theorem good_Chan_land {kc : Ch} (c : Chan) (p : Commit) (h_c : c.Good kc) : (Chan.land c p).Good kc := by
  unfold Chan.land
  repeat' (first
    | with_reducible assumption
    | with_reducible apply good_Chan_adcBeforeLand
    | with_reducible apply good_Chan_swapped
    | with_reducible apply good_Chan_p
    | with_reducible apply good_Dev_p
    | with_reducible apply good_Chan_refreshed
    | with_reducible apply good_Chan_onCtl
    | with_reducible apply good_Chan_toggleBanks
    | with_reducible apply good_Chan_landRecord
    | with_reducible apply good_Chan_landCommon
    | with_reducible apply good_Chan_landReady
    | with_reducible apply good_Chan_landSafety
    | with_reducible apply good_Chan_landAnswer
    | with_reducible apply good_Chan_heldLand
    | with_reducible apply good_Chan_transCheck
    | with_reducible apply good_foldl
    | with_reducible apply goodD_foldl
    | with_reducible apply goodM_foldl
    | with_reducible apply good_Chan_inv
    | with_reducible apply good_Chan_invNil
    | (with_reducible exact good_mk (by with_reducible assumption))
    | (with_reducible exact goodD_mk (by with_reducible assumption))
    | split)
theorem good_doCommitLanding {kc : Ch} (c : Chan) (h_c : c.Good kc) : (doCommitLanding c).Good kc := by
  unfold doCommitLanding
  repeat' (first
    | with_reducible assumption
    | with_reducible apply good_Chan_p
    | with_reducible apply good_Dev_p
    | with_reducible apply good_Chan_land
    | with_reducible apply good_foldl
    | with_reducible apply goodD_foldl
    | with_reducible apply goodM_foldl
    | with_reducible apply good_Chan_inv
    | with_reducible apply good_Chan_invNil
    | (with_reducible exact good_mk (by with_reducible assumption))
    | (with_reducible exact goodD_mk (by with_reducible assumption))
    | split)
theorem good_Chan_shadowWrite {kc : Ch} (c : Chan) (a : Nat) (v : Nat) (h_c : c.Good kc) : (Chan.shadowWrite c a v).Good kc := by
  unfold Chan.shadowWrite
  repeat' (first
    | with_reducible assumption
    | with_reducible apply good_Chan_wrs)
theorem good_doShadowCopyEnd {kc : Ch} (c : Chan) (h_c : c.Good kc) : (doShadowCopyEnd c).Good kc := by
  unfold doShadowCopyEnd
  repeat' (first
    | with_reducible assumption
    | with_reducible apply good_Chan_shadowWrite
    | with_reducible apply good_Chan_onCtl
    | with_reducible apply good_foldl
    | with_reducible apply goodD_foldl
    | with_reducible apply goodM_foldl
    | with_reducible apply good_Chan_inv
    | with_reducible apply good_Chan_invNil
    | (with_reducible exact good_mk (by with_reducible assumption))
    | (with_reducible exact goodD_mk (by with_reducible assumption))
    | split
    | (intro _))
theorem good_Chan_ringFreeze {kc : Ch} (c : Chan) (h_c : c.Good kc) : (Chan.ringFreeze c).Good kc := by
  unfold Chan.ringFreeze
  repeat' (first
    | with_reducible assumption
    | with_reducible apply good_Mach_post
    | with_reducible apply good_foldl
    | with_reducible apply goodD_foldl
    | with_reducible apply goodM_foldl
    | with_reducible apply good_Chan_inv
    | with_reducible apply good_Chan_invNil
    | (with_reducible exact good_mk (by with_reducible assumption))
    | (with_reducible exact goodD_mk (by with_reducible assumption))
    | split)
theorem good_Chan_ringRelease {kc : Ch} (c : Chan) (h_c : c.Good kc) : (Chan.ringRelease c).Good kc := by
  unfold Chan.ringRelease
  repeat' (first
    | with_reducible assumption
    | with_reducible apply good_foldl
    | with_reducible apply goodD_foldl
    | with_reducible apply goodM_foldl
    | with_reducible apply good_Chan_inv
    | with_reducible apply good_Chan_invNil
    | (with_reducible exact good_mk (by with_reducible assumption)))
theorem good_Chan_skimStop {kc : Ch} (c : Chan) (h_c : c.Good kc) : (Chan.skimStop c).Good kc := by
  unfold Chan.skimStop
  repeat' (first
    | with_reducible assumption
    | with_reducible apply good_foldl
    | with_reducible apply goodD_foldl
    | with_reducible apply goodM_foldl
    | with_reducible apply good_Chan_inv
    | with_reducible apply good_Chan_invNil
    | (with_reducible exact good_mk (by with_reducible assumption)))
theorem good_doClkDeviation {kc : Ch} (aonDev : Bool) (vsAon : Bool) (vsSmc : Bool) (c : Chan) (h_c : c.Good kc) : (doClkDeviation aonDev vsAon vsSmc c).Good kc := by
  unfold doClkDeviation
  repeat' (first
    | with_reducible assumption
    | with_reducible apply good_Chan_raise
    | with_reducible apply good_Dev_raise
    | with_reducible apply good_foldl
    | with_reducible apply goodD_foldl
    | with_reducible apply goodM_foldl
    | with_reducible apply good_Chan_inv
    | with_reducible apply good_Chan_invNil
    | (with_reducible exact good_mk (by with_reducible assumption))
    | (with_reducible exact goodD_mk (by with_reducible assumption))
    | split)
theorem good_doModPllLockLoss {kc : Ch} (c : Chan) (h_c : c.Good kc) : (doModPllLockLoss c).Good kc := by
  unfold doModPllLockLoss
  repeat' (first
    | with_reducible assumption
    | with_reducible apply good_Chan_raise)
theorem good_Chan_exchanged {kc : Ch} (c : Chan) (off : Int) (err : Int) (drift : Int) (h_c : c.Good kc) : (Chan.exchanged c off err drift).Good kc := by
  unfold Chan.exchanged
  repeat' (first
    | with_reducible assumption
    | with_reducible apply good_Chan_clear
    | with_reducible apply good_Dev_clear
    | with_reducible apply good_foldl
    | with_reducible apply goodD_foldl
    | with_reducible apply goodM_foldl
    | with_reducible apply good_Chan_inv
    | with_reducible apply good_Chan_invNil
    | (with_reducible exact good_mk (by with_reducible assumption))
    | (with_reducible exact goodD_mk (by with_reducible assumption))
    | split)
theorem good_Chan_exchangeMissed {kc : Ch} (c : Chan) (drift : Int) (h_c : c.Good kc) : (Chan.exchangeMissed c drift).Good kc := by
  unfold Chan.exchangeMissed
  repeat' (first
    | with_reducible assumption
    | with_reducible apply good_Dev_settle
    | with_reducible apply good_Chan_raise
    | with_reducible apply good_Dev_raise
    | with_reducible apply good_foldl
    | with_reducible apply goodD_foldl
    | with_reducible apply goodM_foldl
    | with_reducible apply good_Chan_inv
    | with_reducible apply good_Chan_invNil
    | (with_reducible exact good_mk (by with_reducible assumption))
    | (with_reducible exact goodD_mk (by with_reducible assumption))
    | split
    | (intro _)
    | (extract_lets +onlyGivenNames x; first | (refine good_use (x := x) ?_ (fun hx => ?_)) | (refine good_use (x := x.1) ?_ (fun hx => ?_)) | (refine (have hx : Dev.Good x := ?_; ?_)) | (refine (have hx : Dev.Good x.1 := ?_; ?_)) | (refine (have hx : Mach.Good x := ?_; ?_)) | (refine (have hx : Mach.Good x.1 := ?_; ?_)) | (refine (have hx : Mach.Good x.m := ?_; ?_)) | clear_value x))
theorem good_Chan_fwdLost {kc : Ch} (c : Chan) (h_c : c.Good kc) : (Chan.fwdLost c).Good kc := by
  unfold Chan.fwdLost
  repeat' (first
    | with_reducible assumption
    | with_reducible apply good_Chan_onDust)
theorem good_Chan_reportDrops {kc : Ch} (c : Chan) (h_c : c.Good kc) : (Chan.reportDrops c).Good kc := by
  unfold Chan.reportDrops
  repeat' (first
    | with_reducible assumption
    | with_reducible apply good_Chan_evt
    | with_reducible apply good_foldl
    | with_reducible apply goodD_foldl
    | with_reducible apply goodM_foldl
    | with_reducible apply good_Chan_inv
    | with_reducible apply good_Chan_invNil
    | (with_reducible exact good_mk (by with_reducible assumption))
    | (with_reducible exact goodD_mk (by with_reducible assumption))
    | split)
theorem good_Chan_atColmoStart {kc : Ch} (ident : Option Nat) (fresh : Bool) (c : Chan) (h_c : c.Good kc) : (Chan.atColmoStart ident fresh c).Good kc := by
  unfold Chan.atColmoStart
  repeat' (first
    | with_reducible assumption
    | with_reducible apply good_foldl
    | with_reducible apply goodD_foldl
    | with_reducible apply goodM_foldl
    | with_reducible apply good_Chan_inv
    | with_reducible apply good_Chan_invNil
    | (with_reducible exact good_mk (by with_reducible assumption)))
theorem good_Chan_loadImage {kc : Ch} (c : Chan) (l : List (Nat × Nat)) (h_c : c.Good kc) : (Chan.loadImage c l).Good kc := by
  unfold Chan.loadImage
  repeat' (first
    | with_reducible assumption
    | with_reducible apply good_Chan_wr
    | with_reducible apply good_Dev_wr
    | with_reducible apply good_Chan_wrs
    | with_reducible apply good_foldl
    | with_reducible apply goodD_foldl
    | with_reducible apply goodM_foldl
    | with_reducible apply good_Chan_inv
    | with_reducible apply good_Chan_invNil
    | (with_reducible exact good_mk (by with_reducible assumption))
    | (with_reducible exact goodD_mk (by with_reducible assumption))
    | split
    | (intro _))
theorem good_Chan_loadSets {kc : Ch} (c : Chan) (t : Option Stored) (s : Option Stored) (h_c : c.Good kc) : (Chan.loadSets c t s).Good kc := by
  unfold Chan.loadSets
  repeat' (first
    | with_reducible assumption
    | with_reducible apply good_Chan_loadImage
    | with_reducible apply good_Chan_onCtl
    | with_reducible apply good_foldl
    | with_reducible apply goodD_foldl
    | with_reducible apply goodM_foldl
    | with_reducible apply good_Chan_inv
    | with_reducible apply good_Chan_invNil
    | (with_reducible exact good_mk (by with_reducible assumption))
    | (with_reducible exact goodD_mk (by with_reducible assumption))
    | split
    | (intro _)
    | (extract_lets +onlyGivenNames x; first | (refine good_use (x := x) ?_ (fun hx => ?_)) | (refine good_use (x := x.1) ?_ (fun hx => ?_)) | (refine (have hx : Dev.Good x := ?_; ?_)) | (refine (have hx : Dev.Good x.1 := ?_; ?_)) | (refine (have hx : Mach.Good x := ?_; ?_)) | (refine (have hx : Mach.Good x.1 := ?_; ?_)) | (refine (have hx : Mach.Good x.m := ?_; ?_)) | clear_value x)
    | (with_reducible apply good_mk; first | with_reducible apply good_Chan_loadImage | with_reducible apply good_Chan_onCtl))
theorem good_Chan_releaseChecks {kc : Ch} (c : Chan) (h_c : c.Good kc) : (Chan.releaseChecks c).Good kc := by
  unfold Chan.releaseChecks
  repeat' (first
    | with_reducible assumption
    | with_reducible apply good_Chan_guardTestDue
    | with_reducible apply good_Chan_guardEval
    | with_reducible apply good_Chan_when
    | with_reducible apply good_Dev_when
    | with_reducible apply good_Chan_dchgPinAsk)
theorem good_Chan_rwcWrite {kc : Ch} (c : Chan) (a : Nat) (v : Nat) (h_c : c.Good kc) : (Chan.rwcWrite c a v).Good kc := by
  unfold Chan.rwcWrite
  repeat' (first
    | with_reducible assumption
    | with_reducible apply good_Chan_p
    | with_reducible apply good_Dev_p
    | with_reducible apply good_Chan_shadowWrite
    | with_reducible apply good_Chan_onCtl
    | with_reducible apply good_foldl
    | with_reducible apply goodD_foldl
    | with_reducible apply goodM_foldl
    | with_reducible apply good_Chan_inv
    | with_reducible apply good_Chan_invNil
    | (with_reducible exact good_mk (by with_reducible assumption))
    | (with_reducible exact goodD_mk (by with_reducible assumption))
    | split)
theorem good_Chan_relatch {kc : Ch} (c : Chan) (a : Nat) (v : Nat) (h_c : c.Good kc) : (Chan.relatch c a v).Good kc := by
  unfold Chan.relatch
  repeat' (first
    | with_reducible assumption
    | with_reducible apply good_Chan_wr
    | with_reducible apply good_Dev_wr
    | with_reducible apply good_foldl
    | with_reducible apply goodD_foldl
    | with_reducible apply goodM_foldl
    | with_reducible apply good_Chan_inv
    | with_reducible apply good_Chan_invNil
    | (with_reducible exact good_mk (by with_reducible assumption))
    | (with_reducible exact goodD_mk (by with_reducible assumption))
    | split)
theorem good_Chan_plainWrite {kc : Ch} (c : Chan) (a : Nat) (v : Nat) (h_c : c.Good kc) : (Chan.plainWrite c a v).Good kc := by
  unfold Chan.plainWrite
  repeat' (first
    | with_reducible assumption
    | with_reducible apply good_Chan_wr
    | with_reducible apply good_Dev_wr
    | with_reducible apply good_Chan_relatch)
theorem good_Chan_chReq {kc : Ch} (c : Chan) (v : Nat) (h_c : c.Good kc) : (Chan.chReq c v).Good kc := by
  unfold Chan.chReq
  repeat' (first
    | with_reducible assumption
    | with_reducible apply good_Chan_when
    | with_reducible apply good_Dev_when
    | with_reducible apply good_doChReqClearFault
    | with_reducible apply good_doChReqDisarm
    | with_reducible apply good_quietly
    | with_reducible apply good_doChReqArm
    | with_reducible apply good_foldl
    | with_reducible apply goodD_foldl
    | with_reducible apply goodM_foldl
    | with_reducible apply good_Chan_inv
    | with_reducible apply good_Chan_invNil
    | (with_reducible exact good_mk (by with_reducible assumption))
    | (with_reducible exact goodD_mk (by with_reducible assumption))
    | split
    | (intro _))
theorem good_Chan_commitReq {kc : Ch} (c : Chan) (lc : Nat) (v : Nat) (h_c : c.Good kc) : (Chan.commitReq c lc v).Good kc := by
  unfold Chan.commitReq
  repeat' (first
    | with_reducible assumption
    | with_reducible apply good_Chan_when
    | with_reducible apply good_Dev_when
    | with_reducible apply good_quietly
    | with_reducible apply good_Chan_tuningCommit
    | with_reducible apply good_Chan_safetyStage
    | with_reducible apply good_Chan_safetyConfirm
    | with_reducible apply good_foldl
    | with_reducible apply goodD_foldl
    | with_reducible apply goodM_foldl
    | with_reducible apply good_Chan_inv
    | with_reducible apply good_Chan_invNil
    | (with_reducible exact good_mk (by with_reducible assumption))
    | (with_reducible exact goodD_mk (by with_reducible assumption))
    | split
    | (intro _))
theorem good_Chan_convReq {kc : Ch} (c : Chan) (a : Nat) (v : Nat) (h_c : c.Good kc) : (Chan.convReq c a v).Good kc := by
  unfold Chan.convReq
  repeat' (first
    | with_reducible assumption
    | with_reducible apply good_Chan_wr
    | with_reducible apply good_Dev_wr
    | with_reducible apply good_Chan_when
    | with_reducible apply good_Dev_when
    | with_reducible apply good_doFifoFlush
    | with_reducible apply good_foldl
    | with_reducible apply goodD_foldl
    | with_reducible apply goodM_foldl
    | with_reducible apply good_Chan_inv
    | with_reducible apply good_Chan_invNil
    | (with_reducible exact good_mk (by with_reducible assumption))
    | (with_reducible exact goodD_mk (by with_reducible assumption))
    | split
    | (intro _)
    | (extract_lets +onlyGivenNames x; first | (refine good_use (x := x) ?_ (fun hx => ?_)) | (refine good_use (x := x.1) ?_ (fun hx => ?_)) | (refine (have hx : Dev.Good x := ?_; ?_)) | (refine (have hx : Dev.Good x.1 := ?_; ?_)) | (refine (have hx : Mach.Good x := ?_; ?_)) | (refine (have hx : Mach.Good x.1 := ?_; ?_)) | (refine (have hx : Mach.Good x.m := ?_; ?_)) | clear_value x))
theorem good_Chan_cvuWrite {kc : Ch} (c : Chan) (a : Nat) (v : Nat) (h_c : c.Good kc) : (Chan.cvuWrite c a v).Good kc := by
  unfold Chan.cvuWrite
  repeat' (first
    | with_reducible assumption
    | with_reducible apply good_Chan_cvuTouch
    | with_reducible apply good_Chan_plainWrite
    | with_reducible apply good_Dev_plainWrite
    | with_reducible apply good_Chan_cvuData
    | with_reducible apply good_Dev_cvuData
    | with_reducible apply good_Chan_wr
    | with_reducible apply good_Dev_wr
    | with_reducible apply good_Chan_when
    | with_reducible apply good_Dev_when
    | with_reducible apply good_Chan_cvuInit
    | with_reducible apply good_Dev_cvuInit
    | with_reducible apply good_Chan_cvuCheck
    | with_reducible apply good_Dev_cvuCheck
    | with_reducible apply good_foldl
    | with_reducible apply goodD_foldl
    | with_reducible apply goodM_foldl
    | with_reducible apply good_Chan_inv
    | with_reducible apply good_Chan_invNil
    | (with_reducible exact good_mk (by with_reducible assumption))
    | (with_reducible exact goodD_mk (by with_reducible assumption))
    | split
    | (intro _))
theorem good_Chan_reqWrite {kc : Ch} (c : Chan) (lc : Nat) (a : Nat) (v : Nat) (h_c : c.Good kc) : (Chan.reqWrite c lc a v).Good kc := by
  unfold Chan.reqWrite
  repeat' (first
    | with_reducible assumption
    | with_reducible apply good_Chan_chReq
    | with_reducible apply good_Chan_commitReq
    | with_reducible apply good_Chan_convReq
    | with_reducible apply good_doTqRefWrite
    | with_reducible apply good_Chan_when
    | with_reducible apply good_Dev_when
    | with_reducible apply good_doObsCmdRelease
    | with_reducible apply good_doPrimerReq
    | with_reducible apply good_doChopTest
    | with_reducible apply good_doDchgReq
    | with_reducible apply good_doDchgCancel
    | with_reducible apply good_doLegClr
    | with_reducible apply good_doAuxOn
    | with_reducible apply good_doAuxOff
    | with_reducible apply good_doWeldClr
    | with_reducible apply good_doSkimReqPass
    | with_reducible apply good_foldl
    | with_reducible apply goodD_foldl
    | with_reducible apply goodM_foldl
    | with_reducible apply good_Chan_inv
    | with_reducible apply good_Chan_invNil
    | (with_reducible exact good_mk (by with_reducible assumption))
    | (with_reducible exact goodD_mk (by with_reducible assumption))
    | split)
theorem good_Chan_regfTouch {kc : Ch} (c : Chan) (a : Nat) (h_c : c.Good kc) : (Chan.regfTouch c a).Good kc := by
  unfold Chan.regfTouch
  repeat' (first
    | with_reducible assumption
    | with_reducible apply good_Chan_skimAbortIf)
theorem good_Chan_regWrite {kc : Ch} (c : Chan) (lc : Nat) (a : Nat) (v : Nat) (h_c : c.Good kc) : (Chan.regWrite c lc a v).Good kc := by
  unfold Chan.regWrite
  repeat' (first
    | with_reducible assumption
    | with_reducible apply good_Chan_regfTouch
    | with_reducible apply good_Chan_cvuWrite
    | with_reducible apply good_Chan_plainWrite
    | with_reducible apply good_Dev_plainWrite
    | with_reducible apply good_Chan_rwcWrite
    | with_reducible apply good_Chan_reqWrite
    | with_reducible apply good_foldl
    | with_reducible apply goodD_foldl
    | with_reducible apply goodM_foldl
    | with_reducible apply good_Chan_inv
    | with_reducible apply good_Chan_invNil
    | (with_reducible exact good_mk (by with_reducible assumption))
    | (with_reducible exact goodD_mk (by with_reducible assumption))
    | split)
theorem good_Chan_pairWrite {kc : Ch} (c : Chan) (lc : Nat) (a : Nat) (v : Nat) (h_c : c.Good kc) : (Chan.pairWrite c lc a v).Good kc := by
  unfold Chan.pairWrite
  repeat' (first
    | with_reducible assumption
    | with_reducible apply good_Chan_wr
    | with_reducible apply good_Dev_wr
    | with_reducible apply good_Chan_regWrite
    | with_reducible apply good_foldl
    | with_reducible apply goodD_foldl
    | with_reducible apply goodM_foldl
    | with_reducible apply good_Chan_inv
    | with_reducible apply good_Chan_invNil
    | (with_reducible exact good_mk (by with_reducible assumption))
    | (with_reducible exact goodD_mk (by with_reducible assumption))
    | split)
theorem good_Chan_park {kc : Ch} (c : Chan) (on : Bool) (h_c : c.Good kc) : (Chan.park c on).Good kc := by
  unfold Chan.park
  repeat' (first
    | with_reducible assumption
    | with_reducible apply good_Chan_each
    | with_reducible apply good_Dev_each
    | with_reducible apply good_Chan_p
    | with_reducible apply good_Dev_p
    | with_reducible apply good_foldl
    | with_reducible apply goodD_foldl
    | with_reducible apply goodM_foldl
    | with_reducible apply good_Chan_inv
    | with_reducible apply good_Chan_invNil
    | (with_reducible exact good_mk (by with_reducible assumption))
    | (with_reducible exact goodD_mk (by with_reducible assumption))
    | split
    | (intro _))
theorem good_Chan_tcmWrite {kc : Ch} (c : Chan) (off : Nat) (v : Nat) (h_c : c.Good kc) : (Chan.tcmWrite c off v).Good kc := by
  unfold Chan.tcmWrite
  repeat' (first
    | with_reducible assumption
    | with_reducible apply good_Chan_skimAbortIf
    | with_reducible apply good_Chan_tcmPut)
theorem good_Chan_endFlow {kc : Ch} (f : Nat) (c : Chan) (h_c : c.Good kc) : (Chan.endFlow f c).Good kc := by
  unfold Chan.endFlow
  repeat' (first
    | with_reducible assumption
    | with_reducible apply good_foldl
    | with_reducible apply goodD_foldl
    | with_reducible apply goodM_foldl
    | with_reducible apply good_Chan_inv
    | with_reducible apply good_Chan_invNil
    | (with_reducible exact good_mk (by with_reducible assumption)))
theorem good_Chan_writeTriple {kc : Ch} (lc : Nat) (c : Chan) (t : Triple) (h_c : c.Good kc) : (Chan.writeTriple lc c t).Good kc := by
  unfold Chan.writeTriple
  repeat' (first
    | with_reducible assumption
    | with_reducible apply good_Mach_chan
    | with_reducible apply good_Chan_regWrite
    | with_reducible apply good_foldl
    | with_reducible apply goodD_foldl
    | with_reducible apply goodM_foldl
    | with_reducible apply good_Chan_inv
    | with_reducible apply good_Chan_invNil
    | (with_reducible exact good_mk (by with_reducible assumption))
    | (with_reducible exact goodD_mk (by with_reducible assumption))
    | split)
theorem good_Chan_withSub {kc : Ch} (c : Chan) (x : Subscr) (h_c : c.Good kc) : (Chan.withSub c x).Good kc := by
  unfold Chan.withSub
  repeat' (first
    | with_reducible assumption
    | with_reducible apply good_foldl
    | with_reducible apply goodD_foldl
    | with_reducible apply goodM_foldl
    | with_reducible apply good_Chan_inv
    | with_reducible apply good_Chan_invNil
    | (with_reducible exact good_mk (by with_reducible assumption)))

theorem good_Chan_release {kc : Ch} (c : Chan) (t s : Option Stored) (tests : Bool) (ident : Option Nat) (h_c : c.Good kc) :
    (c.release t s tests ident).Good kc := by
  unfold Chan.release
  extract_lets c1 y z c2
  have h1 : c1.Good kc := good_Chan_onCtl _ _ (good_Chan_loadSets _ _ _ h_c)
  have h2 : c2.Good kc := h1
  clear_value c2
  exact good_Chan_releaseChecks _ (good_Chan_enterPrimed _ (good_Chan_landSafety _ _ (good_Chan_landCommon _ _ h2 h2) h2))

end Sys2Proof.Machine
end

