-- ==== Sys2Proof/Laws/GoodDev.lean ====
section
/-! SUPPORT. Laws/GoodDev.lean: the canonical form under the operations of the device level. -/

set_option Elab.async false

namespace Sys2Proof.Machine
open Sys2Proof

theorem good_Dev_moPut (d : Dev) (k n i : Nat) (bs : List Nat) (h : d.Good) : (d.moPut k n i bs).Good := by
  induction bs generalizing d i with
  | nil => exact h
  | cons b bs ih => exact ih _ _ (good_Dev_wr _ _ _ h)
theorem good_Dev_powerOnReset (d : Dev) : d.powerOnReset.Good := rfl

theorem good_Dev_p (d : Dev) (f : Fld) (v : Nat) (h_d : d.Good) : (Dev.p d f v).Good := by
  unfold Dev.p
  repeat' (first
    | with_reducible assumption
    | with_reducible apply good_Chan_wr
    | with_reducible apply good_Dev_wr)
theorem good_Dev_pb (d : Dev) (f : Fld) (i : Nat) (v : Bool) (h_d : d.Good) : (Dev.pb d f i v).Good := by
  unfold Dev.pb
  repeat' (first
    | with_reducible assumption
    | with_reducible apply good_Chan_p
    | with_reducible apply good_Dev_p)
theorem good_Dev_satInc (d : Dev) (f : Fld) (h_d : d.Good) : (Dev.satInc d f).Good := by
  unfold Dev.satInc
  repeat' (first
    | with_reducible assumption
    | with_reducible apply good_Chan_p
    | with_reducible apply good_Dev_p)
theorem good_Dev_satAdd (d : Dev) (f : Fld) (n : Nat) (h_d : d.Good) : (Dev.satAdd d f n).Good := by
  unfold Dev.satAdd
  repeat' (first
    | with_reducible assumption
    | with_reducible apply good_Chan_p
    | with_reducible apply good_Dev_p)
theorem good_Dev_wrapInc (d : Dev) (f : Fld) (h_d : d.Good) : (Dev.wrapInc d f).Good := by
  unfold Dev.wrapInc
  repeat' (first
    | with_reducible assumption
    | with_reducible apply good_Chan_p
    | with_reducible apply good_Dev_p)
theorem good_Dev_took (d : Dev) (n : Nat) (h_d : d.Good) : (Dev.took d n).Good := by
  unfold Dev.took
  repeat' (first
    | with_reducible assumption
    | with_reducible apply good_foldl
    | with_reducible apply goodD_foldl
    | with_reducible apply goodM_foldl
    | with_reducible apply good_Chan_inv
    | with_reducible apply good_Chan_invNil
    | (with_reducible exact good_mk (by with_reducible assumption))
    | (with_reducible exact goodD_mk (by with_reducible assumption)))
theorem good_Dev_onPwr (d : Dev) (f : Pwr → Pwr) (h_d : d.Good) : (Dev.onPwr d f).Good := by
  unfold Dev.onPwr
  repeat' (first
    | with_reducible assumption
    | with_reducible apply good_foldl
    | with_reducible apply goodD_foldl
    | with_reducible apply goodM_foldl
    | with_reducible apply good_Chan_inv
    | with_reducible apply good_Chan_invNil
    | (with_reducible exact good_mk (by with_reducible assumption))
    | (with_reducible exact goodD_mk (by with_reducible assumption)))
theorem good_Dev_onBist (d : Dev) (f : Bist → Bist) (h_d : d.Good) : (Dev.onBist d f).Good := by
  unfold Dev.onBist
  repeat' (first
    | with_reducible assumption
    | with_reducible apply good_foldl
    | with_reducible apply goodD_foldl
    | with_reducible apply goodM_foldl
    | with_reducible apply good_Chan_inv
    | with_reducible apply good_Chan_invNil
    | (with_reducible exact good_mk (by with_reducible assumption))
    | (with_reducible exact goodD_mk (by with_reducible assumption)))
theorem good_Dev_onHq (d : Dev) (f : Hostq → Hostq) (h_d : d.Good) : (Dev.onHq d f).Good := by
  unfold Dev.onHq
  repeat' (first
    | with_reducible assumption
    | with_reducible apply good_foldl
    | with_reducible apply goodD_foldl
    | with_reducible apply goodM_foldl
    | with_reducible apply good_Chan_inv
    | with_reducible apply good_Chan_invNil
    | (with_reducible exact good_mk (by with_reducible assumption))
    | (with_reducible exact goodD_mk (by with_reducible assumption)))
theorem good_Dev_onLink (d : Dev) (f : Link → Link) (h_d : d.Good) : (Dev.onLink d f).Good := by
  unfold Dev.onLink
  repeat' (first
    | with_reducible assumption
    | with_reducible apply good_Dev_onHq)
theorem good_Dev_onColmo (d : Dev) (f : Colmo → Colmo) (h_d : d.Good) : (Dev.onColmo d f).Good := by
  unfold Dev.onColmo
  repeat' (first
    | with_reducible assumption
    | with_reducible apply good_foldl
    | with_reducible apply goodD_foldl
    | with_reducible apply goodM_foldl
    | with_reducible apply good_Chan_inv
    | with_reducible apply good_Chan_invNil
    | (with_reducible exact good_mk (by with_reducible assumption))
    | (with_reducible exact goodD_mk (by with_reducible assumption)))
theorem good_Dev_onArch (d : Dev) (f : Arch → Arch) (h_d : d.Good) : (Dev.onArch d f).Good := by
  unfold Dev.onArch
  repeat' (first
    | with_reducible assumption
    | with_reducible apply good_foldl
    | with_reducible apply goodD_foldl
    | with_reducible apply goodM_foldl
    | with_reducible apply good_Chan_inv
    | with_reducible apply good_Chan_invNil
    | (with_reducible exact good_mk (by with_reducible assumption))
    | (with_reducible exact goodD_mk (by with_reducible assumption)))
theorem good_Dev_onOtp (d : Dev) (f : Otp → Otp) (h_d : d.Good) : (Dev.onOtp d f).Good := by
  unfold Dev.onOtp
  repeat' (first
    | with_reducible assumption
    | with_reducible apply good_foldl
    | with_reducible apply goodD_foldl
    | with_reducible apply goodM_foldl
    | with_reducible apply good_Chan_inv
    | with_reducible apply good_Chan_invNil
    | (with_reducible exact good_mk (by with_reducible assumption))
    | (with_reducible exact goodD_mk (by with_reducible assumption)))
theorem good_Dev_onIso (d : Dev) (f : Iso → Iso) (h_d : d.Good) : (Dev.onIso d f).Good := by
  unfold Dev.onIso
  repeat' (first
    | with_reducible assumption
    | with_reducible apply good_foldl
    | with_reducible apply goodD_foldl
    | with_reducible apply goodM_foldl
    | with_reducible apply good_Chan_inv
    | with_reducible apply good_Chan_invNil
    | (with_reducible exact good_mk (by with_reducible assumption))
    | (with_reducible exact goodD_mk (by with_reducible assumption)))
theorem good_Dev_takeSeq (d : Dev) (source : Nat) (h_d : d.Good) : (Dev.takeSeq d source).Good := by
  unfold Dev.takeSeq
  repeat' (first
    | with_reducible assumption
    | with_reducible apply good_foldl
    | with_reducible apply goodD_foldl
    | with_reducible apply goodM_foldl
    | with_reducible apply good_Chan_inv
    | with_reducible apply good_Chan_invNil
    | (with_reducible exact good_mk (by with_reducible assumption))
    | (with_reducible exact goodD_mk (by with_reducible assumption)))
theorem good_Dev_recordAt (d : Dev) (source : Nat) (t : Nat) (body : RecBody) (h_d : d.Good) : (Dev.recordAt d source t body).Good := by
  unfold Dev.recordAt
  repeat' (first
    | with_reducible assumption
    | with_reducible apply good_Dev_takeSeq
    | with_reducible apply good_foldl
    | with_reducible apply goodD_foldl
    | with_reducible apply goodM_foldl
    | with_reducible apply good_Chan_inv
    | with_reducible apply good_Chan_invNil
    | (with_reducible exact good_mk (by with_reducible assumption))
    | (with_reducible exact goodD_mk (by with_reducible assumption))
    | split
    | (intro _)
    | (extract_lets +onlyGivenNames x; first | (refine good_use (x := x) ?_ (fun hx => ?_)) | (refine good_use (x := x.1) ?_ (fun hx => ?_)) | (refine (have hx : Dev.Good x := ?_; ?_)) | (refine (have hx : Dev.Good x.1 := ?_; ?_)) | (refine (have hx : Mach.Good x := ?_; ?_)) | (refine (have hx : Mach.Good x.1 := ?_; ?_)) | (refine (have hx : Mach.Good x.m := ?_; ?_)) | clear_value x))
theorem good_Dev_record (d : Dev) (source : Nat) (body : RecBody) (h_d : d.Good) : (Dev.record d source body).Good := by
  unfold Dev.record
  repeat' (first
    | with_reducible assumption
    | with_reducible apply good_Dev_recordAt)
theorem good_Dev_srcEvt (d : Dev) (type : Nat) (s : DSrc) (h_d : d.Good) : (Dev.srcEvt d type s).Good := by
  unfold Dev.srcEvt
  repeat' (first
    | with_reducible assumption
    | with_reducible apply good_Dev_record)
theorem good_Dev_raise (d : Dev) (s : DSrc) (h_d : d.Good) : (Dev.raise d s).Good := by
  unfold Dev.raise
  repeat' (first
    | with_reducible assumption
    | with_reducible apply good_Chan_wr
    | with_reducible apply good_Dev_wr
    | with_reducible apply good_Chan_srcEvt
    | with_reducible apply good_Dev_srcEvt
    | with_reducible apply good_foldl
    | with_reducible apply goodD_foldl
    | with_reducible apply goodM_foldl
    | with_reducible apply good_Chan_inv
    | with_reducible apply good_Chan_invNil
    | (with_reducible exact good_mk (by with_reducible assumption))
    | (with_reducible exact goodD_mk (by with_reducible assumption))
    | split)
theorem good_Dev_clear (d : Dev) (s : DSrc) (h_d : d.Good) : (Dev.clear d s).Good := by
  unfold Dev.clear
  repeat' (first
    | with_reducible assumption
    | with_reducible apply good_Chan_wr
    | with_reducible apply good_Dev_wr
    | with_reducible apply good_Chan_srcEvt
    | with_reducible apply good_Dev_srcEvt
    | with_reducible apply good_foldl
    | with_reducible apply goodD_foldl
    | with_reducible apply goodM_foldl
    | with_reducible apply good_Chan_inv
    | with_reducible apply good_Chan_invNil
    | (with_reducible exact good_mk (by with_reducible assumption))
    | (with_reducible exact goodD_mk (by with_reducible assumption))
    | split)
theorem good_Dev_pulse (d : Dev) (s : DSrc) (h_d : d.Good) : (Dev.pulse d s).Good := by
  unfold Dev.pulse
  repeat' (first
    | with_reducible assumption
    | with_reducible apply good_Chan_raise
    | with_reducible apply good_Dev_raise
    | with_reducible apply good_Chan_clear
    | with_reducible apply good_Dev_clear)
theorem good_Dev_follow (d : Dev) (s : DSrc) (q : Bool) (h_d : d.Good) : (Dev.follow d s q).Good := by
  unfold Dev.follow
  repeat' (first
    | with_reducible assumption
    | with_reducible apply good_Chan_raise
    | with_reducible apply good_Dev_raise
    | with_reducible apply good_Chan_clear
    | with_reducible apply good_Dev_clear
    | with_reducible apply good_foldl
    | with_reducible apply goodD_foldl
    | with_reducible apply goodM_foldl
    | with_reducible apply good_Chan_inv
    | with_reducible apply good_Chan_invNil
    | (with_reducible exact good_mk (by with_reducible assumption))
    | (with_reducible exact goodD_mk (by with_reducible assumption))
    | split)
theorem good_Dev_onFlow (d : Dev) (f : Nat) (g : Flow → Flow) (h_d : d.Good) : (Dev.onFlow d f g).Good := by
  unfold Dev.onFlow
  repeat' (first
    | with_reducible assumption
    | with_reducible apply good_Dev_onHq)
theorem good_Dev_onQueue (d : Dev) (q : Nat) (g : Queue → Queue) (h_d : d.Good) : (Dev.onQueue d q g).Good := by
  unfold Dev.onQueue
  repeat' (first
    | with_reducible assumption
    | with_reducible apply good_Dev_onHq)
theorem good_Dev_freeTag (d : Dev) (tag : Nat) (h_d : d.Good) : (Dev.freeTag d tag).Good := by
  unfold Dev.freeTag
  repeat' (first
    | with_reducible assumption
    | with_reducible apply good_Dev_onHq)
theorem good_Dev_unsent (d : Dev) (ends : Bool) (tag : Nat) (after : After) (h_d : d.Good) : (Dev.unsent d ends tag after).Good := by
  unfold Dev.unsent
  repeat' (first
    | with_reducible assumption
    | with_reducible apply good_Chan_when
    | with_reducible apply good_Dev_when
    | with_reducible apply good_Dev_freeTag
    | with_reducible apply good_Dev_onHq
    | with_reducible apply good_foldl
    | with_reducible apply goodD_foldl
    | with_reducible apply goodM_foldl
    | with_reducible apply good_Chan_inv
    | with_reducible apply good_Chan_invNil
    | (with_reducible exact good_mk (by with_reducible assumption))
    | (with_reducible exact goodD_mk (by with_reducible assumption))
    | split
    | (intro _))
theorem good_Dev_discarded (d : Dev) (q : Nat) (h_d : d.Good) : (Dev.discarded d q).Good := by
  unfold Dev.discarded
  repeat' (first
    | with_reducible assumption
    | with_reducible apply good_Dev_onQueue
    | with_reducible apply good_foldl
    | with_reducible apply goodD_foldl
    | with_reducible apply goodM_foldl
    | with_reducible apply good_Chan_inv
    | with_reducible apply good_Chan_invNil
    | (with_reducible exact good_mk (by with_reducible assumption))
    | (with_reducible exact goodD_mk (by with_reducible assumption))
    | split)
theorem good_Dev_enqueue (d : Dev) (f : OutFrame) (h_d : d.Good) : (Dev.enqueue d f).Good := by
  unfold Dev.enqueue
  repeat' (first
    | with_reducible assumption
    | with_reducible apply good_Dev_unsent
    | with_reducible apply good_Dev_onQueue
    | with_reducible apply good_Dev_satAdd
    | with_reducible apply good_foldl
    | with_reducible apply goodD_foldl
    | with_reducible apply goodM_foldl
    | with_reducible apply good_Chan_inv
    | with_reducible apply good_Chan_invNil
    | (with_reducible exact good_mk (by with_reducible assumption))
    | (with_reducible exact goodD_mk (by with_reducible assumption))
    | split
    | (intro _)
    | (extract_lets +onlyGivenNames x; first | (refine good_use (x := x) ?_ (fun hx => ?_)) | (refine good_use (x := x.1) ?_ (fun hx => ?_)) | (refine (have hx : Dev.Good x := ?_; ?_)) | (refine (have hx : Dev.Good x.1 := ?_; ?_)) | (refine (have hx : Mach.Good x := ?_; ?_)) | (refine (have hx : Mach.Good x.1 := ?_; ?_)) | (refine (have hx : Mach.Good x.m := ?_; ?_)) | clear_value x))
theorem good_Dev_send (d : Dev) (kind : Nat) (flow : Nat) (tag : Nat) (payload : List Nat) (ends : Bool) (after : After) (h_d : d.Good) : (Dev.send d kind flow tag payload ends after).Good := by
  unfold Dev.send
  repeat' (first
    | with_reducible assumption
    | with_reducible apply good_Dev_takeSeq
    | with_reducible apply good_Dev_enqueue)
theorem good_Dev_freeFrames (d : Dev) (f : Nat) (n : Nat) (h_d : d.Good) : (Dev.freeFrames d f n).Good := by
  unfold Dev.freeFrames
  repeat' (first
    | with_reducible assumption
    | with_reducible apply good_Dev_onQueue
    | with_reducible apply good_Dev_onFlow)
theorem good_Dev_respond (d : Dev) (r : Req) (status : Nat) (idx : Nat) (count : Nat) (data : List Nat) (ends : Bool) (after : After) (h_d : d.Good) : (Dev.respond d r status idx count data ends after).Good := by
  unfold Dev.respond
  repeat' (first
    | with_reducible assumption
    | with_reducible apply good_Dev_unsent
    | with_reducible apply good_Dev_send
    | with_reducible apply good_foldl
    | with_reducible apply goodD_foldl
    | with_reducible apply goodM_foldl
    | with_reducible apply good_Chan_inv
    | with_reducible apply good_Chan_invNil
    | (with_reducible exact good_mk (by with_reducible assumption))
    | (with_reducible exact goodD_mk (by with_reducible assumption))
    | split
    | (intro _)
    | (extract_lets +onlyGivenNames x; first | (refine good_use (x := x) ?_ (fun hx => ?_)) | (refine good_use (x := x.1) ?_ (fun hx => ?_)) | (refine (have hx : Dev.Good x := ?_; ?_)) | (refine (have hx : Dev.Good x.1 := ?_; ?_)) | (refine (have hx : Mach.Good x := ?_; ?_)) | (refine (have hx : Mach.Good x.1 := ?_; ?_)) | (refine (have hx : Mach.Good x.m := ?_; ?_)) | clear_value x))
theorem good_Dev_refuse (d : Dev) (r : Req) (status : Nat) (idx : Nat) (count : Nat) (data : List Nat) (h_d : d.Good) : (Dev.refuse d r status idx count data).Good := by
  unfold Dev.refuse
  repeat' (first
    | with_reducible assumption
    | with_reducible apply good_Dev_respond)
theorem good_Dev_dropBundle (d : Dev) (f : Nat) (extra : Nat) (rsp : Bool) (h_d : d.Good) : (Dev.dropBundle d f extra rsp).Good := by
  unfold Dev.dropBundle
  repeat' (first
    | with_reducible assumption
    | with_reducible apply good_Dev_onFlow
    | with_reducible apply good_Dev_freeFrames
    | with_reducible apply good_Chan_satInc
    | with_reducible apply good_Dev_satInc
    | with_reducible apply good_Dev_discarded
    | with_reducible apply good_Dev_respond
    | with_reducible apply good_foldl
    | with_reducible apply goodD_foldl
    | with_reducible apply goodM_foldl
    | with_reducible apply good_Chan_inv
    | with_reducible apply good_Chan_invNil
    | (with_reducible exact good_mk (by with_reducible assumption))
    | (with_reducible exact goodD_mk (by with_reducible assumption))
    | split
    | (intro _)
    | (extract_lets +onlyGivenNames x; first | (refine good_use (x := x) ?_ (fun hx => ?_)) | (refine good_use (x := x.1) ?_ (fun hx => ?_)) | (refine (have hx : Dev.Good x := ?_; ?_)) | (refine (have hx : Dev.Good x.1 := ?_; ?_)) | (refine (have hx : Mach.Good x := ?_; ?_)) | (refine (have hx : Mach.Good x.1 := ?_; ?_)) | (refine (have hx : Mach.Good x.m := ?_; ?_)) | clear_value x))
theorem good_Dev_setPend (d : Dev) (v : Nat) (b : Bool) (h_d : d.Good) : (Dev.setPend d v b).Good := by
  unfold Dev.setPend
  repeat' (first
    | with_reducible assumption
    | with_reducible apply good_Chan_wr
    | with_reducible apply good_Dev_wr)
theorem good_Dev_ntfSend (d : Dev) (v : Nat) (h_d : d.Good) : (Dev.ntfSend d v).Good := by
  unfold Dev.ntfSend
  repeat' (first
    | with_reducible assumption
    | with_reducible apply good_Dev_send
    | with_reducible apply good_Dev_onHq)
theorem good_Dev_fire (d : Dev) (v : Nat) (h_d : d.Good) : (Dev.fire d v).Good := by
  unfold Dev.fire
  repeat' (first
    | with_reducible assumption
    | with_reducible apply good_Dev_setPend
    | with_reducible apply good_Dev_onHq
    | with_reducible apply good_Res_wait
    | with_reducible apply good_Dev_ntfSend
    | with_reducible apply good_foldl
    | with_reducible apply goodD_foldl
    | with_reducible apply goodM_foldl
    | with_reducible apply good_Chan_inv
    | with_reducible apply good_Chan_invNil
    | (with_reducible exact good_mk (by with_reducible assumption))
    | (with_reducible exact goodD_mk (by with_reducible assumption))
    | split)
theorem good_Dev_irqSee (d : Dev) (s : Nat) (a : Nat) (w : Nat) (en : Nat) (h_d : d.Good) : (Dev.irqSee d s a w en).1.Good := by
  unfold Dev.irqSee
  repeat' (first
    | with_reducible assumption
    | with_reducible apply good_Dev_onHq)
theorem good_Dev_irqSee_eq {d : Dev} {s : Nat} {a : Nat} {w : Nat} {en : Nat} {x1 : Dev} {x2 : Bool} (e_eq : Dev.irqSee d s a w en = (x1, x2)) (h_d : d.Good) : (x1).Good := by
  have q := good_Dev_irqSee d s a w en h_d
  rw [e_eq] at q
  exact q
theorem good_Dev_seeFold {α : Type} (f : Dev × Bool → α → Dev × Bool) (hf : ∀ x p, x.1.Good → (f x p).1.Good) (l : List α) (x : Dev × Bool) (h : x.1.Good) :
    (l.foldl f x).1.Good := by
  induction l generalizing x with
  | nil => exact h
  | cons p l ih => exact ih _ (hf _ _ h)
theorem good_Dev_funcSee (d : Dev) (s : Nat) (h_d : d.Good) : (Dev.funcSee d s).1.Good := by
  unfold Dev.funcSee
  refine good_Dev_seeFold _ (fun x p h => ?_) _ _ h_d
  exact good_Dev_irqSee _ _ _ _ _ h
theorem good_Dev_fireSag (d : Dev) (h_d : d.Good) : (Dev.fireSag d).Good := by
  unfold Dev.fireSag
  repeat' (first
    | with_reducible assumption
    | with_reducible apply good_Dev_funcSee
    | (with_reducible apply good_Dev_funcSee_eq; case e_eq => with_reducible assumption)
    | with_reducible apply good_Dev_fire)
theorem good_Dev_askRaise (d : Dev) (h_d : d.Good) : (Dev.askRaise d).Good := by
  unfold Dev.askRaise
  repeat' (first
    | with_reducible assumption
    | with_reducible apply good_Dev_onLink
    | with_reducible apply good_Chan_p
    | with_reducible apply good_Dev_p)
theorem good_Dev_startAudit (d : Dev) (initiator : Bool) (h_d : d.Good) : (Dev.startAudit d initiator).Good := by
  unfold Dev.startAudit
  repeat' (first
    | with_reducible assumption
    | with_reducible apply good_Dev_onLink
    | with_reducible apply good_Chan_p
    | with_reducible apply good_Dev_p
    | with_reducible apply good_foldl
    | with_reducible apply goodD_foldl
    | with_reducible apply goodM_foldl
    | with_reducible apply good_Chan_inv
    | with_reducible apply good_Chan_invNil
    | (with_reducible exact good_mk (by with_reducible assumption))
    | (with_reducible exact goodD_mk (by with_reducible assumption))
    | split)
theorem good_Dev_linkFault (d : Dev) (h_d : d.Good) : (Dev.linkFault d).Good := by
  unfold Dev.linkFault
  repeat' (first
    | with_reducible assumption
    | with_reducible apply good_Dev_askRaise
    | with_reducible apply good_Dev_startAudit
    | with_reducible apply good_foldl
    | with_reducible apply goodD_foldl
    | with_reducible apply goodM_foldl
    | with_reducible apply good_Chan_inv
    | with_reducible apply good_Chan_invNil
    | (with_reducible exact good_mk (by with_reducible assumption))
    | (with_reducible exact goodD_mk (by with_reducible assumption))
    | split)
theorem good_Dev_auditFail (d : Dev) (h_d : d.Good) : (Dev.auditFail d).Good := by
  unfold Dev.auditFail
  repeat' (first
    | with_reducible assumption
    | with_reducible apply good_Dev_onLink
    | with_reducible apply good_Chan_pulse
    | with_reducible apply good_Dev_pulse
    | with_reducible apply good_Dev_askRaise)
theorem good_Dev_sendCtl (d : Dev) (kind : Nat) (payload : List Nat) (h_d : d.Good) : (Dev.sendCtl d kind payload).Good := by
  unfold Dev.sendCtl
  repeat' (first
    | with_reducible assumption
    | with_reducible apply good_Dev_takeSeq
    | with_reducible apply good_Dev_onHq)
theorem good_Dev_sendSync (d : Dev) (sub : Nat) (pre : List Nat) (l : List CrdEntry) (h_d : d.Good) : (Dev.sendSync d sub pre l).Good := by
  unfold Dev.sendSync
  repeat' (first
    | with_reducible assumption
    | with_reducible apply good_Dev_sendCtl
    | with_reducible apply good_foldl
    | with_reducible apply goodD_foldl
    | with_reducible apply goodM_foldl
    | with_reducible apply good_Chan_inv
    | with_reducible apply good_Chan_invNil
    | (with_reducible exact good_mk (by with_reducible assumption))
    | (with_reducible exact goodD_mk (by with_reducible assumption))
    | split
    | (intro _))
theorem good_Dev_sendCrd (d : Dev) (l : List CrdEntry) (h_d : d.Good) : (Dev.sendCrd d l).Good := by
  unfold Dev.sendCrd
  repeat' (first
    | with_reducible assumption
    | with_reducible apply good_Chan_p
    | with_reducible apply good_Dev_p
    | with_reducible apply good_Dev_sendCtl
    | with_reducible apply good_foldl
    | with_reducible apply goodD_foldl
    | with_reducible apply goodM_foldl
    | with_reducible apply good_Chan_inv
    | with_reducible apply good_Chan_invNil
    | (with_reducible exact good_mk (by with_reducible assumption))
    | (with_reducible exact goodD_mk (by with_reducible assumption))
    | split
    | (intro _))
theorem good_Dev_sendEpochNew (d : Dev) (h_d : d.Good) : (Dev.sendEpochNew d).Good := by
  unfold Dev.sendEpochNew
  repeat' (first
    | with_reducible assumption
    | with_reducible apply good_Dev_sendSync)
theorem good_Dev_cvuData (d : Dev) (n : Nat) (data : Nat) (h_d : d.Good) : (Dev.cvuData d n data).Good := by
  unfold Dev.cvuData
  repeat' (first
    | with_reducible assumption
    | with_reducible apply good_Chan_wr
    | with_reducible apply good_Dev_wr)
theorem good_Dev_cvuInit (d : Dev) (n : Nat) (h_d : d.Good) : (Dev.cvuInit d n).Good := by
  unfold Dev.cvuInit
  repeat' (first
    | with_reducible assumption
    | with_reducible apply good_Chan_wr
    | with_reducible apply good_Dev_wr)
theorem good_Dev_cvuCheck (d : Dev) (n : Nat) (h_d : d.Good) : (Dev.cvuCheck d n).Good := by
  unfold Dev.cvuCheck
  repeat' (first
    | with_reducible assumption
    | with_reducible apply good_Chan_p
    | with_reducible apply good_Dev_p
    | with_reducible apply good_Chan_pb
    | with_reducible apply good_Dev_pb
    | with_reducible apply good_foldl
    | with_reducible apply goodD_foldl
    | with_reducible apply goodM_foldl
    | with_reducible apply good_Chan_inv
    | with_reducible apply good_Chan_invNil
    | (with_reducible exact good_mk (by with_reducible assumption))
    | (with_reducible exact goodD_mk (by with_reducible assumption))
    | split)
theorem good_Dev_accept (d : Dev) (z : Zadom) (h_d : d.Good) : (Dev.accept d z).Good := by
  unfold Dev.accept
  repeat' (first
    | with_reducible assumption
    | with_reducible apply good_Dev_onFlow
    | with_reducible apply good_Chan_p
    | with_reducible apply good_Dev_p
    | with_reducible apply good_Dev_onQueue
    | with_reducible apply good_foldl
    | with_reducible apply goodD_foldl
    | with_reducible apply goodM_foldl
    | with_reducible apply good_Chan_inv
    | with_reducible apply good_Chan_invNil
    | (with_reducible exact good_mk (by with_reducible assumption))
    | (with_reducible exact goodD_mk (by with_reducible assumption))
    | split
    | (intro _)
    | (extract_lets +onlyGivenNames x; first | (refine good_use (x := x) ?_ (fun hx => ?_)) | (refine good_use (x := x.1) ?_ (fun hx => ?_)) | (refine (have hx : Dev.Good x := ?_; ?_)) | (refine (have hx : Dev.Good x.1 := ?_; ?_)) | (refine (have hx : Mach.Good x := ?_; ?_)) | (refine (have hx : Mach.Good x.1 := ?_; ?_)) | (refine (have hx : Mach.Good x.m := ?_; ?_)) | clear_value x))
theorem good_Dev_rxStamp (d : Dev) (h_d : d.Good) : (Dev.rxStamp d).Good := by
  unfold Dev.rxStamp
  repeat' (first
    | with_reducible assumption
    | with_reducible apply good_foldl
    | with_reducible apply goodD_foldl
    | with_reducible apply goodM_foldl
    | with_reducible apply good_Chan_inv
    | with_reducible apply good_Chan_invNil
    | (with_reducible exact good_mk (by with_reducible assumption))
    | (with_reducible exact goodD_mk (by with_reducible assumption)))
theorem good_Dev_rx (d0 : Dev) (fr : RxFrame) (h_d0 : d0.Good) : (Dev.rx d0 fr).1.Good := by
  unfold Dev.rx
  repeat' (first
    | with_reducible assumption
    | with_reducible apply good_Dev_rxStamp
    | with_reducible apply good_Chan_satInc
    | with_reducible apply good_Dev_satInc
    | with_reducible apply good_Chan_pulse
    | with_reducible apply good_Dev_pulse
    | with_reducible apply good_Dev_linkFault
    | with_reducible apply good_Chan_wrapInc
    | with_reducible apply good_Dev_wrapInc
    | with_reducible apply good_Dev_discarded
    | with_reducible apply good_Chan_when
    | with_reducible apply good_Dev_when
    | with_reducible apply good_Dev_accept
    | with_reducible apply good_foldl
    | with_reducible apply goodD_foldl
    | with_reducible apply goodM_foldl
    | with_reducible apply good_Chan_inv
    | with_reducible apply good_Chan_invNil
    | (with_reducible exact good_mk (by with_reducible assumption))
    | (with_reducible exact goodD_mk (by with_reducible assumption))
    | split
    | (intro _)
    | (extract_lets +onlyGivenNames x; first | (refine good_use (x := x) ?_ (fun hx => ?_)) | (refine good_use (x := x.1) ?_ (fun hx => ?_)) | (refine (have hx : Dev.Good x := ?_; ?_)) | (refine (have hx : Dev.Good x.1 := ?_; ?_)) | (refine (have hx : Mach.Good x := ?_; ?_)) | (refine (have hx : Mach.Good x.1 := ?_; ?_)) | (refine (have hx : Mach.Good x.m := ?_; ?_)) | clear_value x))
theorem good_Dev_rx_eq {d0 : Dev} {fr : RxFrame} {x1 : Dev} {x2 : Option Zadom} (e_eq : Dev.rx d0 fr = (x1, x2)) (h_d0 : d0.Good) : (x1).Good := by
  have q := good_Dev_rx d0 fr h_d0
  rw [e_eq] at q
  exact q
theorem good_Dev_sessionOpen (d : Dev) (z : Zadom) (fr : RxFrame) (h_d : d.Good) : (Dev.sessionOpen d z fr).Good := by
  unfold Dev.sessionOpen
  repeat' (first
    | with_reducible assumption
    | with_reducible apply good_Chan_p
    | with_reducible apply good_Dev_p
    | with_reducible apply good_Dev_onLink
    | with_reducible apply good_Dev_onFlow
    | with_reducible apply good_foldl
    | with_reducible apply goodD_foldl
    | with_reducible apply goodM_foldl
    | with_reducible apply good_Chan_inv
    | with_reducible apply good_Chan_invNil
    | (with_reducible exact good_mk (by with_reducible assumption))
    | (with_reducible exact goodD_mk (by with_reducible assumption))
    | split
    | (intro _))
theorem good_Dev_bundleComplete (d : Dev) (f : Nat) (h_d : d.Good) : (Dev.bundleComplete d f).Good := by
  unfold Dev.bundleComplete
  repeat' (first
    | with_reducible assumption
    | with_reducible apply good_Dev_onFlow
    | with_reducible apply good_Dev_freeFrames
    | with_reducible apply good_Dev_respond
    | with_reducible apply good_Dev_onQueue
    | with_reducible apply good_Dev_onHq
    | with_reducible apply good_foldl
    | with_reducible apply goodD_foldl
    | with_reducible apply goodM_foldl
    | with_reducible apply good_Chan_inv
    | with_reducible apply good_Chan_invNil
    | (with_reducible exact good_mk (by with_reducible assumption))
    | (with_reducible exact goodD_mk (by with_reducible assumption))
    | split
    | (intro _)
    | (extract_lets +onlyGivenNames x; first | (refine good_use (x := x) ?_ (fun hx => ?_)) | (refine good_use (x := x.1) ?_ (fun hx => ?_)) | (refine (have hx : Dev.Good x := ?_; ?_)) | (refine (have hx : Dev.Good x.1 := ?_; ?_)) | (refine (have hx : Mach.Good x := ?_; ?_)) | (refine (have hx : Mach.Good x.1 := ?_; ?_)) | (refine (have hx : Mach.Good x.m := ?_; ?_)) | clear_value x))
theorem good_Dev_orphan (d : Dev) (f : Nat) (h_d : d.Good) : (Dev.orphan d f).Good := by
  unfold Dev.orphan
  repeat' (first
    | with_reducible assumption
    | with_reducible apply good_Dev_freeFrames
    | with_reducible apply good_Chan_satInc
    | with_reducible apply good_Dev_satInc
    | with_reducible apply good_Dev_discarded)
theorem good_Dev_fragment (d : Dev) (z : Zadom) (fr : RxFrame) (h_d : d.Good) : (Dev.fragment d z fr).Good := by
  unfold Dev.fragment
  repeat' (first
    | with_reducible assumption
    | with_reducible apply good_Dev_dropBundle
    | with_reducible apply good_Dev_onFlow
    | with_reducible apply good_Dev_bundleComplete
    | with_reducible apply good_Dev_orphan
    | with_reducible apply good_foldl
    | with_reducible apply goodD_foldl
    | with_reducible apply goodM_foldl
    | with_reducible apply good_Chan_inv
    | with_reducible apply good_Chan_invNil
    | (with_reducible exact good_mk (by with_reducible assumption))
    | (with_reducible exact goodD_mk (by with_reducible assumption))
    | split
    | (intro _)
    | (extract_lets +onlyGivenNames x; first | (refine good_use (x := x) ?_ (fun hx => ?_)) | (refine good_use (x := x.1) ?_ (fun hx => ?_)) | (refine (have hx : Dev.Good x := ?_; ?_)) | (refine (have hx : Dev.Good x.1 := ?_; ?_)) | (refine (have hx : Mach.Good x := ?_; ?_)) | (refine (have hx : Mach.Good x.1 := ?_; ?_)) | (refine (have hx : Mach.Good x.m := ?_; ?_)) | clear_value x))
theorem good_doCmdFrameRx (fr : RxFrame) (d : Dev) (h_d : d.Good) : (doCmdFrameRx fr d).Good := by
  unfold doCmdFrameRx
  repeat' (first
    | with_reducible assumption
    | with_reducible apply good_Dev_rx
    | (with_reducible apply good_Dev_rx_eq; case e_eq => with_reducible assumption)
    | with_reducible apply good_Dev_freeFrames
    | with_reducible apply good_Dev_sessionOpen
    | with_reducible apply good_Dev_fragment
    | with_reducible apply good_foldl
    | with_reducible apply goodD_foldl
    | with_reducible apply goodM_foldl
    | with_reducible apply good_Chan_inv
    | with_reducible apply good_Chan_invNil
    | (with_reducible exact good_mk (by with_reducible assumption))
    | (with_reducible exact goodD_mk (by with_reducible assumption))
    | split)
theorem good_Dev_stageData (d : Dev) (z : Zadom) (h_d : d.Good) : (Dev.stageData d z).Good := by
  unfold Dev.stageData
  repeat' (first
    | with_reducible assumption
    | with_reducible apply good_Dev_freeFrames
    | with_reducible apply good_Dev_onColmo
    | with_reducible apply good_foldl
    | with_reducible apply goodD_foldl
    | with_reducible apply goodM_foldl
    | with_reducible apply good_Chan_inv
    | with_reducible apply good_Chan_invNil
    | (with_reducible exact good_mk (by with_reducible assumption))
    | (with_reducible exact goodD_mk (by with_reducible assumption))
    | split
    | (intro _)
    | (extract_lets +onlyGivenNames x; first | (refine good_use (x := x) ?_ (fun hx => ?_)) | (refine good_use (x := x.1) ?_ (fun hx => ?_)) | (refine (have hx : Dev.Good x := ?_; ?_)) | (refine (have hx : Dev.Good x.1 := ?_; ?_)) | (refine (have hx : Mach.Good x := ?_; ?_)) | (refine (have hx : Mach.Good x.1 := ?_; ?_)) | (refine (have hx : Mach.Good x.m := ?_; ?_)) | clear_value x))
theorem good_Dev_crdEntry (d : Dev) (e : CrdEntry) (h_d : d.Good) : (Dev.crdEntry d e).Good := by
  unfold Dev.crdEntry
  repeat' (first
    | with_reducible assumption
    | with_reducible apply good_Dev_onFlow
    | with_reducible apply good_foldl
    | with_reducible apply goodD_foldl
    | with_reducible apply goodM_foldl
    | with_reducible apply good_Chan_inv
    | with_reducible apply good_Chan_invNil
    | (with_reducible exact good_mk (by with_reducible assumption))
    | (with_reducible exact goodD_mk (by with_reducible assumption))
    | split
    | (intro _)
    | (extract_lets +onlyGivenNames x; first | (refine good_use (x := x) ?_ (fun hx => ?_)) | (refine good_use (x := x.1) ?_ (fun hx => ?_)) | (refine (have hx : Dev.Good x := ?_; ?_)) | (refine (have hx : Dev.Good x.1 := ?_; ?_)) | (refine (have hx : Mach.Good x := ?_; ?_)) | (refine (have hx : Mach.Good x.1 := ?_; ?_)) | (refine (have hx : Mach.Good x.m := ?_; ?_)) | clear_value x))
theorem good_doCrdFrameRx (fr : RxFrame) (d : Dev) (h_d : d.Good) : (doCrdFrameRx fr d).Good := by
  unfold doCrdFrameRx
  repeat' (first
    | with_reducible assumption
    | with_reducible apply good_Dev_rx
    | (with_reducible apply good_Dev_rx_eq; case e_eq => with_reducible assumption)
    | with_reducible apply good_Dev_crdEntry
    | with_reducible apply good_foldl
    | with_reducible apply goodD_foldl
    | with_reducible apply goodM_foldl
    | with_reducible apply good_Chan_inv
    | with_reducible apply good_Chan_invNil
    | (with_reducible exact good_mk (by with_reducible assumption))
    | (with_reducible exact goodD_mk (by with_reducible assumption))
    | split)
theorem good_doBundleTimeout (flow : Nat) (d : Dev) (h_d : d.Good) : (doBundleTimeout flow d).Good := by
  unfold doBundleTimeout
  repeat' (first
    | with_reducible assumption
    | with_reducible apply good_Dev_dropBundle
    | with_reducible apply good_foldl
    | with_reducible apply goodD_foldl
    | with_reducible apply goodM_foldl
    | with_reducible apply good_Chan_inv
    | with_reducible apply good_Chan_invNil
    | (with_reducible exact good_mk (by with_reducible assumption))
    | (with_reducible exact goodD_mk (by with_reducible assumption))
    | split)
theorem good_Dev_syncPart (d : Dev) (z : Zadom) (skip : Nat) (h_d : d.Good) : (Dev.syncPart d z skip).1.Good := by
  unfold Dev.syncPart
  repeat' (first
    | with_reducible assumption
    | with_reducible apply good_Dev_onLink
    | with_reducible apply good_foldl
    | with_reducible apply goodD_foldl
    | with_reducible apply goodM_foldl
    | with_reducible apply good_Chan_inv
    | with_reducible apply good_Chan_invNil
    | (with_reducible exact good_mk (by with_reducible assumption))
    | (with_reducible exact goodD_mk (by with_reducible assumption))
    | split
    | (intro _)
    | (extract_lets +onlyGivenNames x; first | (refine good_use (x := x) ?_ (fun hx => ?_)) | (refine good_use (x := x.1) ?_ (fun hx => ?_)) | (refine (have hx : Dev.Good x := ?_; ?_)) | (refine (have hx : Dev.Good x.1 := ?_; ?_)) | (refine (have hx : Mach.Good x := ?_; ?_)) | (refine (have hx : Mach.Good x.1 := ?_; ?_)) | (refine (have hx : Mach.Good x.m := ?_; ?_)) | clear_value x))
theorem good_Dev_syncPart_eq {d : Dev} {z : Zadom} {skip : Nat} {x1 : Dev} {x2 : Option (List CrdEntry)} (e_eq : Dev.syncPart d z skip = (x1, x2)) (h_d : d.Good) : (x1).Good := by
  have q := good_Dev_syncPart d z skip h_d
  rw [e_eq] at q
  exact q
theorem good_Dev_rxSync (d : Dev) (fr : RxFrame) (sub : Nat) (skip : Nat) (h_d : d.Good) : (Dev.rxSync d fr sub skip).1.Good := by
  unfold Dev.rxSync
  repeat' (first
    | with_reducible assumption
    | with_reducible apply good_Dev_rx
    | (with_reducible apply good_Dev_rx_eq; case e_eq => with_reducible assumption)
    | with_reducible apply good_Dev_syncPart
    | (with_reducible apply good_Dev_syncPart_eq; case e_eq => with_reducible assumption)
    | with_reducible apply good_foldl
    | with_reducible apply goodD_foldl
    | with_reducible apply goodM_foldl
    | with_reducible apply good_Chan_inv
    | with_reducible apply good_Chan_invNil
    | (with_reducible exact good_mk (by with_reducible assumption))
    | (with_reducible exact goodD_mk (by with_reducible assumption))
    | split)
theorem good_Dev_rxSync_eq {d : Dev} {fr : RxFrame} {sub : Nat} {skip : Nat} {x1 : Dev} {x2 : Option (Zadom × List CrdEntry)} (e_eq : Dev.rxSync d fr sub skip = (x1, x2)) (h_d : d.Good) : (x1).Good := by
  have q := good_Dev_rxSync d fr sub skip h_d
  rw [e_eq] at q
  exact q
theorem good_Dev_reported (d : Dev) (h_d : d.Good) : (Dev.reported d).Good := by
  unfold Dev.reported
  repeat' (first
    | with_reducible assumption
    | with_reducible apply good_Dev_onFlow
    | with_reducible apply good_foldl
    | with_reducible apply goodD_foldl
    | with_reducible apply goodM_foldl
    | with_reducible apply good_Chan_inv
    | with_reducible apply good_Chan_invNil
    | (with_reducible exact good_mk (by with_reducible assumption))
    | (with_reducible exact goodD_mk (by with_reducible assumption))
    | split
    | (intro _))
theorem good_Dev_report (d : Dev) (sub : Nat) (h_d : d.Good) : (Dev.report d sub).Good := by
  unfold Dev.report
  repeat' (first
    | with_reducible assumption
    | with_reducible apply good_Dev_reported
    | with_reducible apply good_Dev_sendSync)
theorem good_Dev_resend (d : Dev) (f : Nat) (l : List OutFrame) (h_d : d.Good) : (Dev.resend d f l).Good := by
  unfold Dev.resend
  repeat' (first
    | with_reducible assumption
    | with_reducible apply good_Dev_onQueue
    | with_reducible apply good_foldl
    | with_reducible apply goodD_foldl
    | with_reducible apply goodM_foldl
    | with_reducible apply good_Chan_inv
    | with_reducible apply good_Chan_invNil
    | (with_reducible exact good_mk (by with_reducible assumption))
    | (with_reducible exact goodD_mk (by with_reducible assumption))
    | split)
theorem good_Dev_reconcileOut (d : Dev) (e : CrdEntry) (h_d : d.Good) : (Dev.reconcileOut d e).Good := by
  unfold Dev.reconcileOut
  repeat' (first
    | with_reducible assumption
    | with_reducible apply good_Dev_satAdd
    | with_reducible apply good_Dev_onFlow
    | with_reducible apply good_Dev_resend
    | with_reducible apply good_foldl
    | with_reducible apply goodD_foldl
    | with_reducible apply goodM_foldl
    | with_reducible apply good_Chan_inv
    | with_reducible apply good_Chan_invNil
    | (with_reducible exact good_mk (by with_reducible assumption))
    | (with_reducible exact goodD_mk (by with_reducible assumption))
    | split
    | (intro _)
    | (extract_lets +onlyGivenNames x; first | (refine good_use (x := x) ?_ (fun hx => ?_)) | (refine good_use (x := x.1) ?_ (fun hx => ?_)) | (refine (have hx : Dev.Good x := ?_; ?_)) | (refine (have hx : Dev.Good x.1 := ?_; ?_)) | (refine (have hx : Mach.Good x := ?_; ?_)) | (refine (have hx : Mach.Good x.1 := ?_; ?_)) | (refine (have hx : Mach.Good x.m := ?_; ?_)) | clear_value x))
theorem good_Dev_reconcileIn (d : Dev) (e : CrdEntry) (h_d : d.Good) : (Dev.reconcileIn d e).Good := by
  unfold Dev.reconcileIn
  repeat' (first
    | with_reducible assumption
    | with_reducible apply good_Dev_satAdd
    | with_reducible apply good_foldl
    | with_reducible apply goodD_foldl
    | with_reducible apply goodM_foldl
    | with_reducible apply good_Chan_inv
    | with_reducible apply good_Chan_invNil
    | (with_reducible exact good_mk (by with_reducible assumption))
    | (with_reducible exact goodD_mk (by with_reducible assumption))
    | split
    | (intro _)
    | (extract_lets +onlyGivenNames x; first | (refine good_use (x := x) ?_ (fun hx => ?_)) | (refine good_use (x := x.1) ?_ (fun hx => ?_)) | (refine (have hx : Dev.Good x := ?_; ?_)) | (refine (have hx : Dev.Good x.1 := ?_; ?_)) | (refine (have hx : Mach.Good x := ?_; ?_)) | (refine (have hx : Mach.Good x.1 := ?_; ?_)) | (refine (have hx : Mach.Good x.m := ?_; ?_)) | clear_value x))
theorem good_Dev_auditEnd (d : Dev) (h_d : d.Good) : (Dev.auditEnd d).Good := by
  unfold Dev.auditEnd
  repeat' (first
    | with_reducible assumption
    | with_reducible apply good_Dev_onLink
    | with_reducible apply good_Chan_p
    | with_reducible apply good_Dev_p
    | with_reducible apply good_Chan_wrapInc
    | with_reducible apply good_Dev_wrapInc)
theorem good_doAuditDrainEnd (d : Dev) (h_d : d.Good) : (doAuditDrainEnd d).Good := by
  unfold doAuditDrainEnd
  repeat' (first
    | with_reducible assumption
    | with_reducible apply good_Dev_onLink
    | with_reducible apply good_Dev_report
    | with_reducible apply good_foldl
    | with_reducible apply goodD_foldl
    | with_reducible apply goodM_foldl
    | with_reducible apply good_Chan_inv
    | with_reducible apply good_Chan_invNil
    | (with_reducible exact good_mk (by with_reducible assumption))
    | (with_reducible exact goodD_mk (by with_reducible assumption))
    | split)
theorem good_doAuditReq (fr : RxFrame) (d : Dev) (h_d : d.Good) : (doAuditReq fr d).Good := by
  unfold doAuditReq
  repeat' (first
    | with_reducible assumption
    | with_reducible apply good_Dev_rxSync
    | (with_reducible apply good_Dev_rxSync_eq; case e_eq => with_reducible assumption)
    | with_reducible apply good_Dev_onLink
    | with_reducible apply good_Chan_p
    | with_reducible apply good_Dev_p
    | with_reducible apply good_foldl
    | with_reducible apply goodD_foldl
    | with_reducible apply goodM_foldl
    | with_reducible apply good_Chan_inv
    | with_reducible apply good_Chan_invNil
    | (with_reducible exact good_mk (by with_reducible assumption))
    | (with_reducible exact goodD_mk (by with_reducible assumption))
    | split)
theorem good_doAuditRsp (fr : RxFrame) (d : Dev) (h_d : d.Good) : (doAuditRsp fr d).Good := by
  unfold doAuditRsp
  repeat' (first
    | with_reducible assumption
    | with_reducible apply good_Dev_rxSync
    | (with_reducible apply good_Dev_rxSync_eq; case e_eq => with_reducible assumption)
    | with_reducible apply good_Dev_auditFail
    | with_reducible apply good_Dev_reconcileOut
    | with_reducible apply good_Dev_reconcileIn
    | with_reducible apply good_Dev_report
    | with_reducible apply good_Dev_auditEnd
    | with_reducible apply good_foldl
    | with_reducible apply goodD_foldl
    | with_reducible apply goodM_foldl
    | with_reducible apply good_Chan_inv
    | with_reducible apply good_Chan_invNil
    | (with_reducible exact good_mk (by with_reducible assumption))
    | (with_reducible exact goodD_mk (by with_reducible assumption))
    | split
    | (intro _))
theorem good_doAuditDone (fr : RxFrame) (d : Dev) (h_d : d.Good) : (doAuditDone fr d).Good := by
  unfold doAuditDone
  repeat' (first
    | with_reducible assumption
    | with_reducible apply good_Dev_rxSync
    | (with_reducible apply good_Dev_rxSync_eq; case e_eq => with_reducible assumption)
    | with_reducible apply good_Dev_reconcileOut
    | with_reducible apply good_Dev_auditEnd
    | with_reducible apply good_foldl
    | with_reducible apply goodD_foldl
    | with_reducible apply goodM_foldl
    | with_reducible apply good_Chan_inv
    | with_reducible apply good_Chan_invNil
    | (with_reducible exact good_mk (by with_reducible assumption))
    | (with_reducible exact goodD_mk (by with_reducible assumption))
    | split)
theorem good_doAuditRspTimeout (d : Dev) (h_d : d.Good) : (doAuditRspTimeout d).Good := by
  unfold doAuditRspTimeout
  repeat' (first
    | with_reducible assumption
    | with_reducible apply good_Dev_onLink
    | with_reducible apply good_Dev_report
    | with_reducible apply good_Dev_auditFail
    | with_reducible apply good_foldl
    | with_reducible apply goodD_foldl
    | with_reducible apply goodM_foldl
    | with_reducible apply good_Chan_inv
    | with_reducible apply good_Chan_invNil
    | (with_reducible exact good_mk (by with_reducible assumption))
    | (with_reducible exact goodD_mk (by with_reducible assumption))
    | split)
theorem good_doRetxTimeout (host : Bool) (d : Dev) (h_d : d.Good) : (doRetxTimeout host d).Good := by
  unfold doRetxTimeout
  repeat' (first
    | with_reducible assumption
    | with_reducible apply good_Dev_linkFault
    | with_reducible apply good_Chan_p
    | with_reducible apply good_Dev_p
    | with_reducible apply good_Dev_startAudit
    | with_reducible apply good_foldl
    | with_reducible apply goodD_foldl
    | with_reducible apply goodM_foldl
    | with_reducible apply good_Chan_inv
    | with_reducible apply good_Chan_invNil
    | (with_reducible exact good_mk (by with_reducible assumption))
    | (with_reducible exact goodD_mk (by with_reducible assumption))
    | split
    | (intro _)
    | (extract_lets +onlyGivenNames x; first | (refine good_use (x := x) ?_ (fun hx => ?_)) | (refine good_use (x := x.1) ?_ (fun hx => ?_)) | (refine (have hx : Dev.Good x := ?_; ?_)) | (refine (have hx : Dev.Good x.1 := ?_; ?_)) | (refine (have hx : Mach.Good x := ?_; ?_)) | (refine (have hx : Mach.Good x.1 := ?_; ?_)) | (refine (have hx : Mach.Good x.m := ?_; ?_)) | clear_value x))
theorem good_doHqAuditReq (d : Dev) (h_d : d.Good) : (doHqAuditReq d).Good := by
  unfold doHqAuditReq
  repeat' (first
    | with_reducible assumption
    | with_reducible apply good_Dev_linkFault
    | with_reducible apply good_foldl
    | with_reducible apply goodD_foldl
    | with_reducible apply goodM_foldl
    | with_reducible apply good_Chan_inv
    | with_reducible apply good_Chan_invNil
    | (with_reducible exact good_mk (by with_reducible assumption))
    | (with_reducible exact goodD_mk (by with_reducible assumption))
    | split)
theorem good_doHqAuditEpochReq (d : Dev) (h_d : d.Good) : (doHqAuditEpochReq d).Good := by
  unfold doHqAuditEpochReq
  repeat' (first
    | with_reducible assumption
    | with_reducible apply good_Dev_askRaise
    | with_reducible apply good_foldl
    | with_reducible apply goodD_foldl
    | with_reducible apply goodM_foldl
    | with_reducible apply good_Chan_inv
    | with_reducible apply good_Chan_invNil
    | (with_reducible exact good_mk (by with_reducible assumption))
    | (with_reducible exact goodD_mk (by with_reducible assumption))
    | split)
theorem good_Dev_raiseFlow (d : Dev) (f : Nat) (h_d : d.Good) : (Dev.raiseFlow d f).Good := by
  unfold Dev.raiseFlow
  repeat' (first
    | with_reducible assumption
    | with_reducible apply good_Dev_dropBundle
    | with_reducible apply good_Dev_onFlow)
theorem good_Dev_raiseQueue (d : Dev) (q : Nat) (h_d : d.Good) : (Dev.raiseQueue d q).Good := by
  unfold Dev.raiseQueue
  repeat' (first
    | with_reducible assumption
    | with_reducible apply good_Dev_onQueue
    | with_reducible apply good_Dev_onHq
    | with_reducible apply good_foldl
    | with_reducible apply goodD_foldl
    | with_reducible apply goodM_foldl
    | with_reducible apply good_Chan_inv
    | with_reducible apply good_Chan_invNil
    | (with_reducible exact good_mk (by with_reducible assumption))
    | (with_reducible exact goodD_mk (by with_reducible assumption))
    | split)
theorem good_doEpochRaise (d : Dev) (h_d : d.Good) : (doEpochRaise d).Good := by
  unfold doEpochRaise
  repeat' (first
    | with_reducible assumption
    | with_reducible apply good_Chan_p
    | with_reducible apply good_Dev_p
    | with_reducible apply good_Chan_wrapInc
    | with_reducible apply good_Dev_wrapInc
    | with_reducible apply good_Chan_each
    | with_reducible apply good_Dev_each
    | with_reducible apply good_Dev_raiseQueue
    | with_reducible apply good_Dev_raiseFlow
    | with_reducible apply good_Dev_onLink
    | with_reducible apply good_Dev_record
    | with_reducible apply good_Chan_evt
    | with_reducible apply good_Dev_onHq
    | with_reducible apply good_Dev_sendEpochNew
    | with_reducible apply good_foldl
    | with_reducible apply goodD_foldl
    | with_reducible apply goodM_foldl
    | with_reducible apply good_Chan_inv
    | with_reducible apply good_Chan_invNil
    | (with_reducible exact good_mk (by with_reducible assumption))
    | (with_reducible exact goodD_mk (by with_reducible assumption))
    | split
    | (intro _)
    | (extract_lets +onlyGivenNames x; first | (refine good_use (x := x) ?_ (fun hx => ?_)) | (refine good_use (x := x.1) ?_ (fun hx => ?_)) | (refine (have hx : Dev.Good x := ?_; ?_)) | (refine (have hx : Dev.Good x.1 := ?_; ?_)) | (refine (have hx : Mach.Good x := ?_; ?_)) | (refine (have hx : Mach.Good x.1 := ?_; ?_)) | (refine (have hx : Mach.Good x.m := ?_; ?_)) | clear_value x))
theorem good_doEpochNewTimer (d : Dev) (h_d : d.Good) : (doEpochNewTimer d).Good := by
  unfold doEpochNewTimer
  repeat' (first
    | with_reducible assumption
    | with_reducible apply good_Dev_onLink
    | with_reducible apply good_Dev_sendEpochNew
    | with_reducible apply good_foldl
    | with_reducible apply goodD_foldl
    | with_reducible apply goodM_foldl
    | with_reducible apply good_Chan_inv
    | with_reducible apply good_Chan_invNil
    | (with_reducible exact good_mk (by with_reducible assumption))
    | (with_reducible exact goodD_mk (by with_reducible assumption))
    | split)
theorem good_doEpochAck (fr : RxFrame) (d : Dev) (h_d : d.Good) : (doEpochAck fr d).Good := by
  unfold doEpochAck
  repeat' (first
    | with_reducible assumption
    | with_reducible apply good_Dev_rx
    | (with_reducible apply good_Dev_rx_eq; case e_eq => with_reducible assumption)
    | with_reducible apply good_Dev_onLink
    | with_reducible apply good_Chan_p
    | with_reducible apply good_Dev_p
    | with_reducible apply good_foldl
    | with_reducible apply goodD_foldl
    | with_reducible apply goodM_foldl
    | with_reducible apply good_Chan_inv
    | with_reducible apply good_Chan_invNil
    | (with_reducible exact good_mk (by with_reducible assumption))
    | (with_reducible exact goodD_mk (by with_reducible assumption))
    | split)
theorem good_doEpochReq (fr : RxFrame) (d : Dev) (h_d : d.Good) : (doEpochReq fr d).Good := by
  unfold doEpochReq
  repeat' (first
    | with_reducible assumption
    | with_reducible apply good_Dev_rx
    | (with_reducible apply good_Dev_rx_eq; case e_eq => with_reducible assumption)
    | with_reducible apply good_Dev_askRaise
    | with_reducible apply good_foldl
    | with_reducible apply goodD_foldl
    | with_reducible apply goodM_foldl
    | with_reducible apply good_Chan_inv
    | with_reducible apply good_Chan_invNil
    | (with_reducible exact good_mk (by with_reducible assumption))
    | (with_reducible exact goodD_mk (by with_reducible assumption))
    | split)
theorem good_doHelloTimer (d : Dev) (h_d : d.Good) : (doHelloTimer d).Good := by
  unfold doHelloTimer
  repeat' (first
    | with_reducible assumption
    | with_reducible apply good_Dev_onLink
    | with_reducible apply good_Dev_sendCtl
    | with_reducible apply good_foldl
    | with_reducible apply goodD_foldl
    | with_reducible apply goodM_foldl
    | with_reducible apply good_Chan_inv
    | with_reducible apply good_Chan_invNil
    | (with_reducible exact good_mk (by with_reducible assumption))
    | (with_reducible exact goodD_mk (by with_reducible assumption))
    | split)
theorem good_doLinkUp (speed : Nat) (d : Dev) (h_d : d.Good) : (doLinkUp speed d).Good := by
  unfold doLinkUp
  repeat' (first
    | with_reducible assumption
    | with_reducible apply good_Chan_p
    | with_reducible apply good_Dev_p
    | with_reducible apply good_Chan_clear
    | with_reducible apply good_Dev_clear
    | with_reducible apply good_Dev_linkFault
    | with_reducible apply good_Chan_when
    | with_reducible apply good_Dev_when
    | with_reducible apply good_Dev_ntfSend
    | with_reducible apply good_Dev_onLink
    | with_reducible apply good_foldl
    | with_reducible apply goodD_foldl
    | with_reducible apply goodM_foldl
    | with_reducible apply good_Chan_inv
    | with_reducible apply good_Chan_invNil
    | (with_reducible exact good_mk (by with_reducible assumption))
    | (with_reducible exact goodD_mk (by with_reducible assumption))
    | split
    | (intro _)
    | (extract_lets +onlyGivenNames x; first | (refine good_use (x := x) ?_ (fun hx => ?_)) | (refine good_use (x := x.1) ?_ (fun hx => ?_)) | (refine (have hx : Dev.Good x := ?_; ?_)) | (refine (have hx : Dev.Good x.1 := ?_; ?_)) | (refine (have hx : Mach.Good x := ?_; ?_)) | (refine (have hx : Mach.Good x.1 := ?_; ?_)) | (refine (have hx : Mach.Good x.m := ?_; ?_)) | clear_value x))
theorem good_Dev_linkFall (d : Dev) (h_d : d.Good) : (Dev.linkFall d).Good := by
  unfold Dev.linkFall
  repeat' (first
    | with_reducible assumption
    | with_reducible apply good_Chan_p
    | with_reducible apply good_Dev_p
    | with_reducible apply good_Chan_raise
    | with_reducible apply good_Dev_raise
    | with_reducible apply good_Dev_onLink
    | with_reducible apply good_foldl
    | with_reducible apply goodD_foldl
    | with_reducible apply goodM_foldl
    | with_reducible apply good_Chan_inv
    | with_reducible apply good_Chan_invNil
    | (with_reducible exact good_mk (by with_reducible assumption))
    | (with_reducible exact goodD_mk (by with_reducible assumption))
    | split)
theorem good_doLinkDown (d : Dev) (h_d : d.Good) : (doLinkDown d).Good := by
  unfold doLinkDown
  repeat' (first
    | with_reducible assumption
    | with_reducible apply good_Dev_linkFall
    | with_reducible apply good_foldl
    | with_reducible apply goodD_foldl
    | with_reducible apply goodM_foldl
    | with_reducible apply good_Chan_inv
    | with_reducible apply good_Chan_invNil
    | (with_reducible exact good_mk (by with_reducible assumption))
    | (with_reducible exact goodD_mk (by with_reducible assumption))
    | split)
theorem good_Dev_onCan (d : Dev) (k : Nat) (f : CanSt → CanSt) (h_d : d.Good) : (Dev.onCan d k f).Good := by
  unfold Dev.onCan
  repeat' (first
    | with_reducible assumption
    | with_reducible apply good_foldl
    | with_reducible apply goodD_foldl
    | with_reducible apply goodM_foldl
    | with_reducible apply good_Chan_inv
    | with_reducible apply good_Chan_invNil
    | (with_reducible exact good_mk (by with_reducible assumption))
    | (with_reducible exact goodD_mk (by with_reducible assumption)))
theorem good_Dev_setCan (d : Dev) (k : Nat) (st : Nat) (h_d : d.Good) : (Dev.setCan d k st).Good := by
  unfold Dev.setCan
  repeat' (first
    | with_reducible assumption
    | with_reducible apply good_Chan_p
    | with_reducible apply good_Dev_p
    | with_reducible apply good_Dev_takeSeq
    | with_reducible apply good_foldl
    | with_reducible apply goodD_foldl
    | with_reducible apply goodM_foldl
    | with_reducible apply good_Chan_inv
    | with_reducible apply good_Chan_invNil
    | (with_reducible exact good_mk (by with_reducible assumption))
    | (with_reducible exact goodD_mk (by with_reducible assumption))
    | split
    | (intro _)
    | (extract_lets +onlyGivenNames x; first | (refine good_use (x := x) ?_ (fun hx => ?_)) | (refine good_use (x := x.1) ?_ (fun hx => ?_)) | (refine (have hx : Dev.Good x := ?_; ?_)) | (refine (have hx : Dev.Good x.1 := ?_; ?_)) | (refine (have hx : Mach.Good x := ?_; ?_)) | (refine (have hx : Mach.Good x.1 := ?_; ?_)) | (refine (have hx : Mach.Good x.m := ?_; ?_)) | clear_value x))
theorem good_Dev_canEnterInit (d : Dev) (k : Nat) (h_d : d.Good) : (Dev.canEnterInit d k).Good := by
  unfold Dev.canEnterInit
  repeat' (first
    | with_reducible assumption
    | with_reducible apply good_Chan_p
    | with_reducible apply good_Dev_p
    | with_reducible apply good_Dev_setCan
    | with_reducible apply good_Dev_onCan)
theorem good_Dev_canLeaveInit (d : Dev) (k : Nat) (h_d : d.Good) : (Dev.canLeaveInit d k).Good := by
  unfold Dev.canLeaveInit
  repeat' (first
    | with_reducible assumption
    | with_reducible apply good_Chan_p
    | with_reducible apply good_Dev_p
    | with_reducible apply good_Dev_setCan
    | with_reducible apply good_foldl
    | with_reducible apply goodD_foldl
    | with_reducible apply goodM_foldl
    | with_reducible apply good_Chan_inv
    | with_reducible apply good_Chan_invNil
    | (with_reducible exact good_mk (by with_reducible assumption))
    | (with_reducible exact goodD_mk (by with_reducible assumption))
    | split)
theorem good_Dev_endWaits (d : Dev) (ch : Ch) (status : Nat) (h_d : d.Good) : (Dev.endWaits d ch status).Good := by
  unfold Dev.endWaits
  repeat' (first
    | with_reducible assumption
    | with_reducible apply good_Mach_onChan
    | with_reducible apply good_Dev_refuse
    | with_reducible apply good_Dev_onColmo
    | with_reducible apply good_foldl
    | with_reducible apply goodD_foldl
    | with_reducible apply goodM_foldl
    | with_reducible apply good_Chan_inv
    | with_reducible apply good_Chan_invNil
    | (with_reducible exact good_mk (by with_reducible assumption))
    | (with_reducible exact goodD_mk (by with_reducible assumption))
    | split
    | (intro _))
theorem good_Dev_dropMail (d : Dev) (l : List Part) (h_d : d.Good) : (Dev.dropMail d l).Good := by
  unfold Dev.dropMail
  repeat' (first
    | with_reducible assumption
    | with_reducible apply good_Chan_p
    | with_reducible apply good_Dev_p
    | with_reducible apply good_Dev_record
    | with_reducible apply good_Chan_evt
    | with_reducible apply good_foldl
    | with_reducible apply goodD_foldl
    | with_reducible apply goodM_foldl
    | with_reducible apply good_Chan_inv
    | with_reducible apply good_Chan_invNil
    | (with_reducible exact good_mk (by with_reducible assumption))
    | (with_reducible exact goodD_mk (by with_reducible assumption))
    | split
    | (intro _))
theorem good_Dev_cause (d : Dev) (bit : Nat) (h_d : d.Good) : (Dev.cause d bit).Good := by
  unfold Dev.cause
  repeat' (first
    | with_reducible assumption
    | with_reducible apply good_Chan_pb
    | with_reducible apply good_Dev_pb
    | with_reducible apply good_Chan_satInc
    | with_reducible apply good_Dev_satInc)
theorem good_Dev_clearSmc (d : Dev) (keep : Nat → Bool) (h_d : d.Good) : (Dev.clearSmc d keep).Good := by
  unfold Dev.clearSmc
  repeat' (first
    | with_reducible assumption
    | with_reducible apply good_Dev_keepRegs
    | with_reducible apply good_foldl
    | with_reducible apply goodD_foldl
    | with_reducible apply goodM_foldl
    | with_reducible apply good_Chan_inv
    | with_reducible apply good_Chan_invNil
    | (with_reducible exact good_mk (by with_reducible assumption))
    | (with_reducible exact goodD_mk (by with_reducible assumption))
    | split
    | (intro _)
    | (extract_lets +onlyGivenNames x; first | (refine good_use (x := x) ?_ (fun hx => ?_)) | (refine good_use (x := x.1) ?_ (fun hx => ?_)) | (refine (have hx : Dev.Good x := ?_; ?_)) | (refine (have hx : Dev.Good x.1 := ?_; ?_)) | (refine (have hx : Mach.Good x := ?_; ?_)) | (refine (have hx : Mach.Good x.1 := ?_; ?_)) | (refine (have hx : Mach.Good x.m := ?_; ?_)) | clear_value x))
theorem good_Dev_smcReset (d : Dev) (bit : Nat) (h_d : d.Good) : (Dev.smcReset d bit).Good := by
  unfold Dev.smcReset
  repeat' (first
    | with_reducible assumption
    | with_reducible apply good_Dev_cause
    | with_reducible apply good_Dev_clearSmc
    | with_reducible apply good_Chan_p
    | with_reducible apply good_Dev_p
    | with_reducible apply good_Dev_onPwr)
theorem good_Dev_sagWrite (d : Dev) (rst : Bool) (minMv : Nat) (h_d : d.Good) : (Dev.sagWrite d rst minMv).Good := by
  unfold Dev.sagWrite
  repeat' (first
    | with_reducible assumption
    | with_reducible apply good_Chan_wr
    | with_reducible apply good_Dev_wr
    | with_reducible apply good_Chan_p
    | with_reducible apply good_Dev_p
    | with_reducible apply good_Chan_satInc
    | with_reducible apply good_Dev_satInc
    | with_reducible apply good_Dev_onPwr
    | with_reducible apply good_foldl
    | with_reducible apply goodD_foldl
    | with_reducible apply goodM_foldl
    | with_reducible apply good_Chan_inv
    | with_reducible apply good_Chan_invNil
    | (with_reducible exact good_mk (by with_reducible assumption))
    | (with_reducible exact goodD_mk (by with_reducible assumption))
    | split)
theorem good_Dev_supplyReset (d : Dev) (minMv : Nat) (bits : List Nat) (h_d : d.Good) : (Dev.supplyReset d minMv bits).Good := by
  unfold Dev.supplyReset
  repeat' (first
    | with_reducible assumption
    | with_reducible apply good_Dev_sagWrite
    | with_reducible apply good_Dev_takeSeq
    | with_reducible apply good_Dev_clearSmc
    | with_reducible apply good_Chan_p
    | with_reducible apply good_Dev_p
    | with_reducible apply good_Chan_pb
    | with_reducible apply good_Dev_pb
    | with_reducible apply good_Chan_satInc
    | with_reducible apply good_Dev_satInc
    | with_reducible apply good_foldl
    | with_reducible apply goodD_foldl
    | with_reducible apply goodM_foldl
    | with_reducible apply good_Chan_inv
    | with_reducible apply good_Chan_invNil
    | (with_reducible exact good_mk (by with_reducible assumption))
    | (with_reducible exact goodD_mk (by with_reducible assumption))
    | split
    | (intro _)
    | (extract_lets +onlyGivenNames x; first | (refine good_use (x := x) ?_ (fun hx => ?_)) | (refine good_use (x := x.1) ?_ (fun hx => ?_)) | (refine (have hx : Dev.Good x := ?_; ?_)) | (refine (have hx : Dev.Good x.1 := ?_; ?_)) | (refine (have hx : Mach.Good x := ?_; ?_)) | (refine (have hx : Mach.Good x.1 := ?_; ?_)) | (refine (have hx : Mach.Good x.m := ?_; ?_)) | clear_value x))
theorem good_doArcOpGo (d : Dev) (h_d : d.Good) : (doArcOpGo d).Good := by
  unfold doArcOpGo
  repeat' (first
    | with_reducible assumption
    | with_reducible apply good_Chan_p
    | with_reducible apply good_Dev_p
    | with_reducible apply good_foldl
    | with_reducible apply goodD_foldl
    | with_reducible apply goodM_foldl
    | with_reducible apply good_Chan_inv
    | with_reducible apply good_Chan_invNil
    | (with_reducible exact good_mk (by with_reducible assumption))
    | (with_reducible exact goodD_mk (by with_reducible assumption))
    | split)
theorem good_Dev_retire (d : Dev) (part : Nat) (slot : Nat) (h_d : d.Good) : (Dev.retire d part slot).Good := by
  unfold Dev.retire
  repeat' (first
    | with_reducible assumption
    | with_reducible apply good_Dev_onArch)
theorem good_Dev_pageRead (d : Dev) (r : Nat) (bits : Nat) (part : Nat) (slot : Nat) (h_d : d.Good) : (Dev.pageRead d r bits part slot).Good := by
  unfold Dev.pageRead
  repeat' (first
    | with_reducible assumption
    | with_reducible apply good_Chan_p
    | with_reducible apply good_Dev_p
    | with_reducible apply good_Chan_satInc
    | with_reducible apply good_Dev_satInc
    | with_reducible apply good_Chan_pulse
    | with_reducible apply good_Dev_pulse
    | with_reducible apply good_Chan_when
    | with_reducible apply good_Dev_when
    | with_reducible apply good_Dev_retire
    | with_reducible apply good_foldl
    | with_reducible apply goodD_foldl
    | with_reducible apply goodM_foldl
    | with_reducible apply good_Chan_inv
    | with_reducible apply good_Chan_invNil
    | (with_reducible exact good_mk (by with_reducible assumption))
    | (with_reducible exact goodD_mk (by with_reducible assumption))
    | split
    | (intro _))
theorem good_doArcOpDone (present : Bool) (decodes : Bool) (crcOk : Bool) (bits : Nat) (fail : Bool) (part : Nat) (slot : Nat) (d : Dev) (h_d : d.Good) : (doArcOpDone present decodes crcOk bits fail part slot d).Good := by
  unfold doArcOpDone
  repeat' (first
    | with_reducible assumption
    | with_reducible apply good_Res_fail
    | with_reducible apply good_Chan_p
    | with_reducible apply good_Dev_p
    | with_reducible apply good_Dev_pageRead
    | with_reducible apply good_Dev_retire
    | with_reducible apply good_Chan_pulse
    | with_reducible apply good_Dev_pulse
    | with_reducible apply good_foldl
    | with_reducible apply goodD_foldl
    | with_reducible apply goodM_foldl
    | with_reducible apply good_Chan_inv
    | with_reducible apply good_Chan_invNil
    | (with_reducible exact good_mk (by with_reducible assumption))
    | (with_reducible exact goodD_mk (by with_reducible assumption))
    | split
    | (intro _)
    | (extract_lets +onlyGivenNames x; first | (refine good_use (x := x) ?_ (fun hx => ?_)) | (refine good_use (x := x.1) ?_ (fun hx => ?_)) | (refine (have hx : Dev.Good x := ?_; ?_)) | (refine (have hx : Dev.Good x.1 := ?_; ?_)) | (refine (have hx : Mach.Good x := ?_; ?_)) | (refine (have hx : Mach.Good x.1 := ?_; ?_)) | (refine (have hx : Mach.Good x.m := ?_; ?_)) | clear_value x))
theorem good_Dev_setSoft (d : Dev) (p : Nat) (rows : List (Nat × Nat)) (h_d : d.Good) : (Dev.setSoft d p rows).Good := by
  unfold Dev.setSoft
  repeat' (first
    | with_reducible assumption
    | with_reducible apply good_Dev_onBist)
theorem good_Dev_showRepairs (d : Dev) (p : Nat) (h_d : d.Good) : (Dev.showRepairs d p).Good := by
  unfold Dev.showRepairs
  repeat' (first
    | with_reducible assumption
    | with_reducible apply good_Chan_p
    | with_reducible apply good_Dev_p)
theorem good_Dev_fuse (d : Dev) (p : Nat) (h_d : d.Good) : (Dev.fuse d p).Good := by
  unfold Dev.fuse
  repeat' (first
    | with_reducible assumption
    | with_reducible apply good_Chan_p
    | with_reducible apply good_Dev_p
    | with_reducible apply good_Dev_onOtp
    | with_reducible apply good_Dev_setSoft
    | with_reducible apply good_Dev_showRepairs)
theorem good_Dev_smcRelease (d : Dev) (h_d : d.Good) : (Dev.smcRelease d).Good := by
  unfold Dev.smcRelease
  repeat' (first
    | with_reducible assumption
    | with_reducible apply good_Dev_onPwr)
theorem good_Dev_smcTry (d : Dev) (h_d : d.Good) : (Dev.smcTry d).Good := by
  unfold Dev.smcTry
  repeat' (first
    | with_reducible assumption
    | with_reducible apply good_Mach_stuck
    | with_reducible apply good_Dev_smcRelease
    | with_reducible apply good_foldl
    | with_reducible apply goodD_foldl
    | with_reducible apply goodM_foldl
    | with_reducible apply good_Chan_inv
    | with_reducible apply good_Chan_invNil
    | (with_reducible exact good_mk (by with_reducible assumption))
    | (with_reducible exact goodD_mk (by with_reducible assumption))
    | split
    | (intro _)
    | (extract_lets +onlyGivenNames x; first | (refine good_use (x := x) ?_ (fun hx => ?_)) | (refine good_use (x := x.1) ?_ (fun hx => ?_)) | (refine (have hx : Dev.Good x := ?_; ?_)) | (refine (have hx : Dev.Good x.1 := ?_; ?_)) | (refine (have hx : Mach.Good x := ?_; ?_)) | (refine (have hx : Mach.Good x.1 := ?_; ?_)) | (refine (have hx : Mach.Good x.m := ?_; ?_)) | clear_value x))
theorem good_Dev_fromRecord (d : Dev) (rc : UcRec) (young : Bool) (p : Nat) (h_d : d.Good) : (Dev.fromRecord d rc young p).Good := by
  unfold Dev.fromRecord
  repeat' (first
    | with_reducible assumption
    | with_reducible apply good_Chan_p
    | with_reducible apply good_Dev_p
    | with_reducible apply good_Dev_setSoft
    | with_reducible apply good_Dev_showRepairs
    | with_reducible apply good_Dev_onBist
    | with_reducible apply good_foldl
    | with_reducible apply goodD_foldl
    | with_reducible apply goodM_foldl
    | with_reducible apply good_Chan_inv
    | with_reducible apply good_Chan_invNil
    | (with_reducible exact good_mk (by with_reducible assumption))
    | (with_reducible exact goodD_mk (by with_reducible assumption))
    | split
    | (intro _)
    | (extract_lets +onlyGivenNames x; first | (refine good_use (x := x) ?_ (fun hx => ?_)) | (refine good_use (x := x.1) ?_ (fun hx => ?_)) | (refine (have hx : Dev.Good x := ?_; ?_)) | (refine (have hx : Dev.Good x.1 := ?_; ?_)) | (refine (have hx : Mach.Good x := ?_; ?_)) | (refine (have hx : Mach.Good x.1 := ?_; ?_)) | (refine (have hx : Mach.Good x.m := ?_; ?_)) | clear_value x))
theorem good_Dev_recordCheck (d : Dev) (h_d : d.Good) : (Dev.recordCheck d).Good := by
  unfold Dev.recordCheck
  repeat' (first
    | with_reducible assumption
    | with_reducible apply good_Dev_onBist
    | with_reducible apply good_Mach_stuck
    | with_reducible apply good_Res_ok
    | with_reducible apply good_Chan_p
    | with_reducible apply good_Dev_p
    | with_reducible apply good_Chan_wr
    | with_reducible apply good_Dev_wr
    | with_reducible apply good_Chan_each
    | with_reducible apply good_Dev_each
    | with_reducible apply good_Dev_fromRecord
    | with_reducible apply good_foldl
    | with_reducible apply goodD_foldl
    | with_reducible apply goodM_foldl
    | with_reducible apply good_Chan_inv
    | with_reducible apply good_Chan_invNil
    | (with_reducible exact good_mk (by with_reducible assumption))
    | (with_reducible exact goodD_mk (by with_reducible assumption))
    | split
    | (intro _))
theorem good_Dev_bistDone (d : Dev) (h_d : d.Good) : (Dev.bistDone d).Good := by
  unfold Dev.bistDone
  repeat' (first
    | with_reducible assumption
    | with_reducible apply good_Dev_onBist
    | with_reducible apply good_foldl
    | with_reducible apply goodD_foldl
    | with_reducible apply goodM_foldl
    | with_reducible apply good_Chan_inv
    | with_reducible apply good_Chan_invNil
    | (with_reducible exact good_mk (by with_reducible assumption))
    | (with_reducible exact goodD_mk (by with_reducible assumption))
    | split)
theorem good_doPowerUpRelease (xtalOk : Bool) (d : Dev) (h_d : d.Good) : (doPowerUpRelease xtalOk d).Good := by
  unfold doPowerUpRelease
  repeat' (first
    | with_reducible assumption
    | with_reducible apply good_Dev_onPwr
    | with_reducible apply good_Chan_p
    | with_reducible apply good_Dev_p
    | with_reducible apply good_Chan_raise
    | with_reducible apply good_Dev_raise
    | with_reducible apply good_Dev_recordCheck
    | with_reducible apply good_Chan_each
    | with_reducible apply good_Dev_each
    | with_reducible apply good_Dev_showRepairs
    | with_reducible apply good_Dev_bistDone
    | with_reducible apply good_Dev_smcTry
    | with_reducible apply good_foldl
    | with_reducible apply goodD_foldl
    | with_reducible apply goodM_foldl
    | with_reducible apply good_Chan_inv
    | with_reducible apply good_Chan_invNil
    | (with_reducible exact good_mk (by with_reducible assumption))
    | (with_reducible exact goodD_mk (by with_reducible assumption))
    | split
    | (intro _)
    | (extract_lets +onlyGivenNames x; first | (refine good_use (x := x) ?_ (fun hx => ?_)) | (refine good_use (x := x.1) ?_ (fun hx => ?_)) | (refine (have hx : Dev.Good x := ?_; ?_)) | (refine (have hx : Dev.Good x.1 := ?_; ?_)) | (refine (have hx : Mach.Good x := ?_; ?_)) | (refine (have hx : Mach.Good x.1 := ?_; ?_)) | (refine (have hx : Mach.Good x.m := ?_; ?_)) | clear_value x))
theorem good_Dev_verdict (d : Dev) (p : Nat) (valid : Bool) (fail : Bool) (rows : List (Nat × Nat)) (h_d : d.Good) : (Dev.verdict d p valid fail rows).1.Good := by
  unfold Dev.verdict
  repeat' (first
    | with_reducible assumption
    | with_reducible apply good_Res_fail
    | with_reducible apply good_Chan_p
    | with_reducible apply good_Dev_p
    | with_reducible apply good_Dev_setSoft
    | with_reducible apply good_foldl
    | with_reducible apply goodD_foldl
    | with_reducible apply goodM_foldl
    | with_reducible apply good_Chan_inv
    | with_reducible apply good_Chan_invNil
    | (with_reducible exact good_mk (by with_reducible assumption))
    | (with_reducible exact goodD_mk (by with_reducible assumption))
    | split)
theorem good_Dev_verdict_eq {d : Dev} {p : Nat} {valid : Bool} {fail : Bool} {rows : List (Nat × Nat)} {x1 : Dev} {x2 : Nat} (e_eq : Dev.verdict d p valid fail rows = (x1, x2)) (h_d : d.Good) : (x1).Good := by
  have q := good_Dev_verdict d p valid fail rows h_d
  rw [e_eq] at q
  exact q
theorem good_Dev_failMap (d : Dev) (rows : List (Nat × Nat)) (h_d : d.Good) : (Dev.failMap d rows).Good := by
  unfold Dev.failMap
  repeat' (first
    | with_reducible assumption
    | with_reducible apply good_Chan_each
    | with_reducible apply good_Dev_each
    | with_reducible apply good_Chan_wr
    | with_reducible apply good_Dev_wr
    | with_reducible apply good_foldl
    | with_reducible apply goodD_foldl
    | with_reducible apply goodM_foldl
    | with_reducible apply good_Chan_inv
    | with_reducible apply good_Chan_invNil
    | (with_reducible exact good_mk (by with_reducible assumption))
    | (with_reducible exact goodD_mk (by with_reducible assumption))
    | split
    | (intro _))
theorem good_Dev_undercoatEnd (d : Dev) (p : Nat) (valid : Bool) (fail : Bool) (h_d : d.Good) : (Dev.undercoatEnd d p valid fail).Good := by
  unfold Dev.undercoatEnd
  repeat' (first
    | with_reducible assumption
    | with_reducible apply good_Res_fail
    | with_reducible apply good_Dev_onBist
    | with_reducible apply good_Chan_p
    | with_reducible apply good_Dev_p
    | with_reducible apply good_Dev_onPwr
    | with_reducible apply good_foldl
    | with_reducible apply goodD_foldl
    | with_reducible apply goodM_foldl
    | with_reducible apply good_Chan_inv
    | with_reducible apply good_Chan_invNil
    | (with_reducible exact good_mk (by with_reducible assumption))
    | (with_reducible exact goodD_mk (by with_reducible assumption))
    | split
    | (intro _)
    | (extract_lets +onlyGivenNames x; first | (refine good_use (x := x) ?_ (fun hx => ?_)) | (refine good_use (x := x.1) ?_ (fun hx => ?_)) | (refine (have hx : Dev.Good x := ?_; ?_)) | (refine (have hx : Dev.Good x.1 := ?_; ?_)) | (refine (have hx : Mach.Good x := ?_; ?_)) | (refine (have hx : Mach.Good x.1 := ?_; ?_)) | (refine (have hx : Mach.Good x.m := ?_; ?_)) | clear_value x))
theorem good_Dev_requestEnd (d : Dev) (p : Nat) (valid : Bool) (fail : Bool) (rows : List (Nat × Nat)) (h_d : d.Good) : (Dev.requestEnd d p valid fail rows).Good := by
  unfold Dev.requestEnd
  repeat' (first
    | with_reducible assumption
    | with_reducible apply good_Dev_verdict
    | (with_reducible apply good_Dev_verdict_eq; case e_eq => with_reducible assumption)
    | with_reducible apply good_Chan_p
    | with_reducible apply good_Dev_p
    | with_reducible apply good_Res_fail
    | with_reducible apply good_Dev_showRepairs
    | with_reducible apply good_Chan_when
    | with_reducible apply good_Dev_when
    | with_reducible apply good_Dev_failMap
    | with_reducible apply good_Dev_fuse
    | with_reducible apply good_Dev_onBist
    | with_reducible apply good_foldl
    | with_reducible apply goodD_foldl
    | with_reducible apply goodM_foldl
    | with_reducible apply good_Chan_inv
    | with_reducible apply good_Chan_invNil
    | (with_reducible exact good_mk (by with_reducible assumption))
    | (with_reducible exact goodD_mk (by with_reducible assumption))
    | split
    | (intro _))
theorem good_Dev_vin (d : Dev) (mv : Nat) (h_d : d.Good) : (Dev.vin d mv).Good := by
  unfold Dev.vin
  repeat' (first
    | with_reducible assumption
    | with_reducible apply good_Chan_p
    | with_reducible apply good_Dev_p)
theorem good_doRailBackInWindow (rail : Nat) (d : Dev) (h_d : d.Good) : (doRailBackInWindow rail d).Good := by
  unfold doRailBackInWindow
  repeat' (first
    | with_reducible assumption
    | with_reducible apply good_Dev_onPwr
    | with_reducible apply good_Chan_p
    | with_reducible apply good_Dev_p
    | with_reducible apply good_Dev_smcTry
    | with_reducible apply good_foldl
    | with_reducible apply goodD_foldl
    | with_reducible apply goodM_foldl
    | with_reducible apply good_Chan_inv
    | with_reducible apply good_Chan_invNil
    | (with_reducible exact good_mk (by with_reducible assumption))
    | (with_reducible exact goodD_mk (by with_reducible assumption))
    | split)
theorem good_doVinDipBegin (mv : Nat) (d : Dev) (h_d : d.Good) : (doVinDipBegin mv d).Good := by
  unfold doVinDipBegin
  repeat' (first
    | with_reducible assumption
    | with_reducible apply good_Dev_vin
    | with_reducible apply good_Chan_p
    | with_reducible apply good_Dev_p
    | with_reducible apply good_Dev_onPwr
    | with_reducible apply good_foldl
    | with_reducible apply goodD_foldl
    | with_reducible apply goodM_foldl
    | with_reducible apply good_Chan_inv
    | with_reducible apply good_Chan_invNil
    | (with_reducible exact good_mk (by with_reducible assumption))
    | (with_reducible exact goodD_mk (by with_reducible assumption))
    | split)
theorem good_Dev_vinWarn (d : Dev) (time : Nat) (info : Nat) (h_d : d.Good) : (Dev.vinWarn d time info).Good := by
  unfold Dev.vinWarn
  repeat' (first
    | with_reducible assumption
    | with_reducible apply good_Chan_wr
    | with_reducible apply good_Dev_wr
    | with_reducible apply good_Dev_recordAt)
theorem good_doVinDipEnd (minMv : Nat) (d : Dev) (h_d : d.Good) : (doVinDipEnd minMv d).Good := by
  unfold doVinDipEnd
  repeat' (first
    | with_reducible assumption
    | with_reducible apply good_Dev_sagWrite
    | with_reducible apply good_Dev_vinWarn
    | with_reducible apply good_Dev_takeSeq
    | with_reducible apply good_Chan_p
    | with_reducible apply good_Dev_p
    | with_reducible apply good_Dev_fireSag
    | with_reducible apply good_foldl
    | with_reducible apply goodD_foldl
    | with_reducible apply goodM_foldl
    | with_reducible apply good_Chan_inv
    | with_reducible apply good_Chan_invNil
    | (with_reducible exact good_mk (by with_reducible assumption))
    | (with_reducible exact goodD_mk (by with_reducible assumption))
    | split
    | (intro _)
    | (extract_lets +onlyGivenNames x; first | (refine good_use (x := x) ?_ (fun hx => ?_)) | (refine good_use (x := x.1) ?_ (fun hx => ?_)) | (refine (have hx : Dev.Good x := ?_; ?_)) | (refine (have hx : Dev.Good x.1 := ?_; ?_)) | (refine (have hx : Mach.Good x := ?_; ?_)) | (refine (have hx : Mach.Good x.1 := ?_; ?_)) | (refine (have hx : Mach.Good x.m := ?_; ?_)) | clear_value x))
theorem good_doSmcWdog (d : Dev) (h_d : d.Good) : (doSmcWdog d).Good := by
  unfold doSmcWdog
  repeat' (first
    | with_reducible assumption
    | with_reducible apply good_Chan_raise
    | with_reducible apply good_Dev_raise
    | with_reducible apply good_Dev_smcReset
    | with_reducible apply good_foldl
    | with_reducible apply goodD_foldl
    | with_reducible apply goodM_foldl
    | with_reducible apply good_Chan_inv
    | with_reducible apply good_Chan_invNil
    | (with_reducible exact good_mk (by with_reducible assumption))
    | (with_reducible exact goodD_mk (by with_reducible assumption))
    | split)
theorem good_doSysWdogKick (d : Dev) (h_d : d.Good) : (doSysWdogKick d).Good := by
  unfold doSysWdogKick
  repeat' (first
    | with_reducible assumption
    | with_reducible apply good_Dev_onPwr
    | with_reducible apply good_Chan_p
    | with_reducible apply good_Dev_p
    | with_reducible apply good_foldl
    | with_reducible apply goodD_foldl
    | with_reducible apply goodM_foldl
    | with_reducible apply good_Chan_inv
    | with_reducible apply good_Chan_invNil
    | (with_reducible exact good_mk (by with_reducible assumption))
    | (with_reducible exact goodD_mk (by with_reducible assumption))
    | split)
theorem good_doXtalLoss (d : Dev) (h_d : d.Good) : (doXtalLoss d).Good := by
  unfold doXtalLoss
  repeat' (first
    | with_reducible assumption
    | with_reducible apply good_Dev_onPwr
    | with_reducible apply good_Chan_p
    | with_reducible apply good_Dev_p
    | with_reducible apply good_Chan_raise
    | with_reducible apply good_Dev_raise
    | with_reducible apply good_Dev_linkFall
    | with_reducible apply good_Dev_canEnterInit
    | with_reducible apply good_foldl
    | with_reducible apply goodD_foldl
    | with_reducible apply goodM_foldl
    | with_reducible apply good_Chan_inv
    | with_reducible apply good_Chan_invNil
    | (with_reducible exact good_mk (by with_reducible assumption))
    | (with_reducible exact goodD_mk (by with_reducible assumption))
    | split
    | (intro _)
    | (extract_lets +onlyGivenNames x; first | (refine good_use (x := x) ?_ (fun hx => ?_)) | (refine good_use (x := x.1) ?_ (fun hx => ?_)) | (refine (have hx : Dev.Good x := ?_; ?_)) | (refine (have hx : Dev.Good x.1 := ?_; ?_)) | (refine (have hx : Mach.Good x := ?_; ?_)) | (refine (have hx : Mach.Good x.1 := ?_; ?_)) | (refine (have hx : Mach.Good x.m := ?_; ?_)) | clear_value x))
theorem good_doXtalReturn (d : Dev) (h_d : d.Good) : (doXtalReturn d).Good := by
  unfold doXtalReturn
  repeat' (first
    | with_reducible assumption
    | with_reducible apply good_Dev_onPwr
    | with_reducible apply good_Chan_p
    | with_reducible apply good_Dev_p
    | with_reducible apply good_Chan_clear
    | with_reducible apply good_Dev_clear
    | with_reducible apply good_Dev_canLeaveInit
    | with_reducible apply good_foldl
    | with_reducible apply goodD_foldl
    | with_reducible apply goodM_foldl
    | with_reducible apply good_Chan_inv
    | with_reducible apply good_Chan_invNil
    | (with_reducible exact good_mk (by with_reducible assumption))
    | (with_reducible exact goodD_mk (by with_reducible assumption))
    | split
    | (intro _)
    | (extract_lets +onlyGivenNames x; first | (refine good_use (x := x) ?_ (fun hx => ?_)) | (refine good_use (x := x.1) ?_ (fun hx => ?_)) | (refine (have hx : Dev.Good x := ?_; ?_)) | (refine (have hx : Dev.Good x.1 := ?_; ?_)) | (refine (have hx : Mach.Good x := ?_; ?_)) | (refine (have hx : Mach.Good x.1 := ?_; ?_)) | (refine (have hx : Mach.Good x.m := ?_; ?_)) | clear_value x))
theorem good_doAonClockDeviation (on : Bool) (d : Dev) (h_d : d.Good) : (doAonClockDeviation on d).Good := by
  unfold doAonClockDeviation
  repeat' (first
    | with_reducible assumption
    | with_reducible apply good_Dev_onPwr
    | with_reducible apply good_Chan_p
    | with_reducible apply good_Dev_p
    | with_reducible apply good_foldl
    | with_reducible apply goodD_foldl
    | with_reducible apply goodM_foldl
    | with_reducible apply good_Chan_inv
    | with_reducible apply good_Chan_invNil
    | (with_reducible exact good_mk (by with_reducible assumption))
    | (with_reducible exact goodD_mk (by with_reducible assumption))
    | split)
theorem good_doSmcPairFault (kind : Nat) (d : Dev) (h_d : d.Good) : (doSmcPairFault kind d).Good := by
  unfold doSmcPairFault
  repeat' (first
    | with_reducible assumption
    | with_reducible apply good_Chan_wr
    | with_reducible apply good_Dev_wr
    | with_reducible apply good_Chan_raise
    | with_reducible apply good_Dev_raise
    | with_reducible apply good_Dev_smcReset
    | with_reducible apply good_foldl
    | with_reducible apply goodD_foldl
    | with_reducible apply goodM_foldl
    | with_reducible apply good_Chan_inv
    | with_reducible apply good_Chan_invNil
    | (with_reducible exact good_mk (by with_reducible assumption))
    | (with_reducible exact goodD_mk (by with_reducible assumption))
    | split)
theorem good_Dev_plumbTest (own : Bool) (other : Bool) (d : Dev) (h_d : d.Good) : (Dev.plumbTest own other d).Good := by
  unfold Dev.plumbTest
  repeat' (first
    | with_reducible assumption
    | with_reducible apply good_Chan_p
    | with_reducible apply good_Dev_p
    | with_reducible apply good_Chan_wrapInc
    | with_reducible apply good_Dev_wrapInc
    | with_reducible apply good_Chan_wr
    | with_reducible apply good_Dev_wr
    | with_reducible apply good_doSmcPairFault
    | with_reducible apply good_foldl
    | with_reducible apply goodD_foldl
    | with_reducible apply goodM_foldl
    | with_reducible apply good_Chan_inv
    | with_reducible apply good_Chan_invNil
    | (with_reducible exact good_mk (by with_reducible assumption))
    | (with_reducible exact goodD_mk (by with_reducible assumption))
    | split)
theorem good_Dev_debugHalt (d : Dev) (kind : Nat) (h_d : d.Good) : (Dev.debugHalt d kind).Good := by
  unfold Dev.debugHalt
  repeat' (first
    | with_reducible assumption
    | with_reducible apply good_Chan_p
    | with_reducible apply good_Dev_p
    | with_reducible apply good_Chan_raise
    | with_reducible apply good_Dev_raise
    | with_reducible apply good_foldl
    | with_reducible apply goodD_foldl
    | with_reducible apply goodM_foldl
    | with_reducible apply good_Chan_inv
    | with_reducible apply good_Chan_invNil
    | (with_reducible exact good_mk (by with_reducible assumption))
    | (with_reducible exact goodD_mk (by with_reducible assumption))
    | split
    | (intro _)
    | (extract_lets +onlyGivenNames x; first | (refine good_use (x := x) ?_ (fun hx => ?_)) | (refine good_use (x := x.1) ?_ (fun hx => ?_)) | (refine (have hx : Dev.Good x := ?_; ?_)) | (refine (have hx : Dev.Good x.1 := ?_; ?_)) | (refine (have hx : Mach.Good x := ?_; ?_)) | (refine (have hx : Mach.Good x.1 := ?_; ?_)) | (refine (have hx : Mach.Good x.m := ?_; ?_)) | clear_value x))
theorem good_Dev_sigFail (d : Dev) (h_d : d.Good) : (Dev.sigFail d).Good := by
  unfold Dev.sigFail
  repeat' (first
    | with_reducible assumption
    | with_reducible apply good_Chan_pulse
    | with_reducible apply good_Dev_pulse)
theorem good_Dev_onBoot (d : Dev) (kind : Nat) (f : BootCtl → BootCtl) (h_d : d.Good) : (Dev.onBoot d kind f).Good := by
  unfold Dev.onBoot
  repeat' (first
    | with_reducible assumption
    | with_reducible apply good_Dev_onArch)
theorem good_Dev_showBoot (d : Dev) (h_d : d.Good) : (Dev.showBoot d).Good := by
  unfold Dev.showBoot
  repeat' (first
    | with_reducible assumption
    | with_reducible apply good_Chan_p
    | with_reducible apply good_Dev_p)
theorem good_Dev_pick (d : Dev) (kind : Nat) (readA : Bool) (readB : Bool) (h_d : d.Good) : (Dev.pick d kind readA readB).1.Good := by
  unfold Dev.pick
  repeat' (first
    | with_reducible assumption
    | with_reducible apply good_Res_ok
    | with_reducible apply good_Dev_onBoot
    | with_reducible apply good_Dev_showBoot
    | with_reducible apply good_foldl
    | with_reducible apply goodD_foldl
    | with_reducible apply goodM_foldl
    | with_reducible apply good_Chan_inv
    | with_reducible apply good_Chan_invNil
    | (with_reducible exact good_mk (by with_reducible assumption))
    | (with_reducible exact goodD_mk (by with_reducible assumption))
    | split
    | (intro _)
    | (extract_lets +onlyGivenNames x; first | (refine good_use (x := x) ?_ (fun hx => ?_)) | (refine good_use (x := x.1) ?_ (fun hx => ?_)) | (refine (have hx : Dev.Good x := ?_; ?_)) | (refine (have hx : Dev.Good x.1 := ?_; ?_)) | (refine (have hx : Mach.Good x := ?_; ?_)) | (refine (have hx : Mach.Good x.1 := ?_; ?_)) | (refine (have hx : Mach.Good x.m := ?_; ?_)) | clear_value x))
theorem good_Dev_pick_eq {d : Dev} {kind : Nat} {readA : Bool} {readB : Bool} {x1 : Dev} {x2 : Option Nat × Nat} (e_eq : Dev.pick d kind readA readB = (x1, x2)) (h_d : d.Good) : (x1).Good := by
  have q := good_Dev_pick d kind readA readB h_d
  rw [e_eq] at q
  exact q
theorem good_Dev_loadChImage (d : Dev) (readA : Bool) (readB : Bool) (h_d : d.Good) : (Dev.loadChImage d readA readB).Good := by
  unfold Dev.loadChImage
  repeat' (first
    | with_reducible assumption
    | with_reducible apply good_Dev_pick
    | (with_reducible apply good_Dev_pick_eq; case e_eq => with_reducible assumption)
    | with_reducible apply good_Chan_p
    | with_reducible apply good_Dev_p
    | with_reducible apply good_Dev_onPwr
    | with_reducible apply good_Dev_sigFail
    | with_reducible apply good_foldl
    | with_reducible apply goodD_foldl
    | with_reducible apply goodM_foldl
    | with_reducible apply good_Chan_inv
    | with_reducible apply good_Chan_invNil
    | (with_reducible exact good_mk (by with_reducible assumption))
    | (with_reducible exact goodD_mk (by with_reducible assumption))
    | split)
theorem good_Dev_recFrame (d : Dev) (kind : Nat) (flow : Nat) (source : Nat) (l : List Rec) (h_d : d.Good) : (Dev.recFrame d kind flow source l).Good := by
  unfold Dev.recFrame
  repeat' (first
    | with_reducible assumption
    | with_reducible apply good_Dev_enqueue
    | with_reducible apply good_foldl
    | with_reducible apply goodD_foldl
    | with_reducible apply goodM_foldl
    | with_reducible apply good_Chan_inv
    | with_reducible apply good_Chan_invNil
    | (with_reducible exact good_mk (by with_reducible assumption))
    | (with_reducible exact goodD_mk (by with_reducible assumption))
    | split)
theorem good_Dev_evtFrames (n : Nat) (d : Dev) (source : Nat) (l : List Rec) (h : d.Good) : (Dev.evtFrames n d source l).Good := by
  induction n generalizing d l with
  | zero => exact h
  | succ n ih =>
    unfold Dev.evtFrames
    split
    · exact h
    · exact ih _ _ (good_Dev_recFrame _ _ _ _ _ h)
theorem good_Dev_sendEvents (d : Dev) (source : Nat) (l : List Rec) (h_d : d.Good) : (Dev.sendEvents d source l).Good := by
  unfold Dev.sendEvents
  repeat' (first
    | with_reducible assumption
    | with_reducible apply good_Dev_evtFrames)
theorem good_Dev_setTlm (d : Dev) (ch : Ch) (sub : Nat) (l : List Rec) (h_d : d.Good) : (Dev.setTlm d ch sub l).Good := by
  unfold Dev.setTlm
  repeat' (first
    | with_reducible assumption
    | with_reducible apply good_Dev_onColmo)
theorem good_Dev_addTlm (subs : List Subscr) (ch : Ch) (d : Dev) (r : Rec) (h_d : d.Good) : (Dev.addTlm subs ch d r).Good := by
  unfold Dev.addTlm
  repeat' (first
    | with_reducible assumption
    | with_reducible apply good_Chan_evt
    | with_reducible apply good_Dev_setTlm
    | with_reducible apply good_Dev_recFrame
    | with_reducible apply good_foldl
    | with_reducible apply goodD_foldl
    | with_reducible apply goodM_foldl
    | with_reducible apply good_Chan_inv
    | with_reducible apply good_Chan_invNil
    | (with_reducible exact good_mk (by with_reducible assumption))
    | (with_reducible exact goodD_mk (by with_reducible assumption))
    | split
    | (intro _)
    | (extract_lets +onlyGivenNames x; first | (refine good_use (x := x) ?_ (fun hx => ?_)) | (refine good_use (x := x.1) ?_ (fun hx => ?_)) | (refine (have hx : Dev.Good x := ?_; ?_)) | (refine (have hx : Dev.Good x.1 := ?_; ?_)) | (refine (have hx : Mach.Good x := ?_; ?_)) | (refine (have hx : Mach.Good x.1 := ?_; ?_)) | (refine (have hx : Mach.Good x.m := ?_; ?_)) | (refine (have hx : Chan.Good ch x := ?_; ?_)) | clear_value x))
theorem good_Dev_settle (d : Dev) (r : Running) (after : After) (h_d : d.Good) : (Dev.settle d r after).Good := by
  unfold Dev.settle
  repeat' (first
    | with_reducible assumption
    | with_reducible apply good_Dev_onColmo
    | with_reducible apply good_Dev_respond
    | with_reducible apply good_foldl
    | with_reducible apply goodD_foldl
    | with_reducible apply goodM_foldl
    | with_reducible apply good_Chan_inv
    | with_reducible apply good_Chan_invNil
    | (with_reducible exact good_mk (by with_reducible assumption))
    | (with_reducible exact goodD_mk (by with_reducible assumption))
    | split)
theorem good_Dev_resolve (d : Dev) (q : Slot → Bool) (status : Nat) (data : List Nat) (h_d : d.Good) : (Dev.resolve d q status data).Good := by
  unfold Dev.resolve
  repeat' (first
    | with_reducible assumption
    | with_reducible apply good_Dev_onColmo
    | with_reducible apply good_Dev_refuse
    | with_reducible apply good_Dev_respond
    | with_reducible apply good_foldl
    | with_reducible apply goodD_foldl
    | with_reducible apply goodM_foldl
    | with_reducible apply good_Chan_inv
    | with_reducible apply good_Chan_invNil
    | (with_reducible exact good_mk (by with_reducible assumption))
    | (with_reducible exact goodD_mk (by with_reducible assumption))
    | split
    | (intro _)
    | (extract_lets +onlyGivenNames x; first | (refine good_use (x := x) ?_ (fun hx => ?_)) | (refine good_use (x := x.1) ?_ (fun hx => ?_)) | (refine (have hx : Dev.Good x := ?_; ?_)) | (refine (have hx : Dev.Good x.1 := ?_; ?_)) | (refine (have hx : Mach.Good x := ?_; ?_)) | (refine (have hx : Mach.Good x.1 := ?_; ?_)) | (refine (have hx : Mach.Good x.m := ?_; ?_)) | clear_value x))
theorem good_Dev_opDone (ch : Ch) (d : Dev) (o : OpDone) (h_d : d.Good) : (Dev.opDone ch d o).Good := by
  unfold Dev.opDone
  repeat' (first
    | with_reducible assumption
    | with_reducible apply good_Dev_resolve)
theorem good_Dev_collectDev (d : Dev) (h_d : d.Good) : (Dev.collectDev d).Good := by
  unfold Dev.collectDev
  repeat' (first
    | with_reducible assumption
    | with_reducible apply good_Dev_sendEvents
    | with_reducible apply good_foldl
    | with_reducible apply goodD_foldl
    | with_reducible apply goodM_foldl
    | with_reducible apply good_Chan_inv
    | with_reducible apply good_Chan_invNil
    | (with_reducible exact good_mk (by with_reducible assumption))
    | (with_reducible exact goodD_mk (by with_reducible assumption))
    | split
    | (intro _))
theorem good_Dev_bistAnswer (d : Dev) (h_d : d.Good) : (Dev.bistAnswer d).Good := by
  unfold Dev.bistAnswer
  repeat' (first
    | with_reducible assumption
    | with_reducible apply good_Chan_p
    | with_reducible apply good_Dev_p
    | with_reducible apply good_Dev_resolve
    | with_reducible apply good_foldl
    | with_reducible apply goodD_foldl
    | with_reducible apply goodM_foldl
    | with_reducible apply good_Chan_inv
    | with_reducible apply good_Chan_invNil
    | (with_reducible exact good_mk (by with_reducible assumption))
    | (with_reducible exact goodD_mk (by with_reducible assumption))
    | split
    | (intro _))
theorem good_Dev_arcEnd (d : Dev) (status : Nat) (data : List Nat) (h_d : d.Good) : (Dev.arcEnd d status data).Good := by
  unfold Dev.arcEnd
  repeat' (first
    | with_reducible assumption
    | with_reducible apply good_Dev_onColmo
    | with_reducible apply good_Dev_resolve)
theorem good_Dev_arcFeed (d : Dev) (h_d : d.Good) : (Dev.arcFeed d).Good := by
  unfold Dev.arcFeed
  repeat' (first
    | with_reducible assumption
    | with_reducible apply good_Dev_arcEnd
    | with_reducible apply good_Chan_took
    | with_reducible apply good_Dev_took
    | with_reducible apply good_Dev_send
    | with_reducible apply good_Dev_onColmo
    | with_reducible apply good_foldl
    | with_reducible apply goodD_foldl
    | with_reducible apply goodM_foldl
    | with_reducible apply good_Chan_inv
    | with_reducible apply good_Chan_invNil
    | (with_reducible exact good_mk (by with_reducible assumption))
    | (with_reducible exact goodD_mk (by with_reducible assumption))
    | split
    | (intro _)
    | (extract_lets +onlyGivenNames x; first | (refine good_use (x := x) ?_ (fun hx => ?_)) | (refine good_use (x := x.1) ?_ (fun hx => ?_)) | (refine (have hx : Dev.Good x := ?_; ?_)) | (refine (have hx : Dev.Good x.1 := ?_; ?_)) | (refine (have hx : Mach.Good x := ?_; ?_)) | (refine (have hx : Mach.Good x.1 := ?_; ?_)) | (refine (have hx : Mach.Good x.m := ?_; ?_)) | clear_value x))
theorem good_Dev_enterLife (d : Dev) (st : Nat) (h_d : d.Good) : (Dev.enterLife d st).Good := by
  unfold Dev.enterLife
  repeat' (first
    | with_reducible assumption
    | with_reducible apply good_Chan_p
    | with_reducible apply good_Dev_p
    | with_reducible apply good_Dev_onColmo
    | with_reducible apply good_Dev_onOtp
    | with_reducible apply good_Dev_onArch
    | with_reducible apply good_foldl
    | with_reducible apply goodD_foldl
    | with_reducible apply goodM_foldl
    | with_reducible apply good_Chan_inv
    | with_reducible apply good_Chan_invNil
    | (with_reducible exact good_mk (by with_reducible assumption))
    | (with_reducible exact goodD_mk (by with_reducible assumption))
    | split)
theorem good_Dev_setIdent (d : Dev) (id : Nat) (h_d : d.Good) : (Dev.setIdent d id).Good := by
  unfold Dev.setIdent
  repeat' (first
    | with_reducible assumption
    | with_reducible apply good_Chan_p
    | with_reducible apply good_Dev_p)
theorem good_Dev_emitFrame (d : Dev) (z : Zadom) (host : Nat) (port : Nat) (pcp : Nat) (h_d : d.Good) : (Dev.emitFrame d z host port pcp).Good := by
  unfold Dev.emitFrame
  repeat' (first
    | with_reducible assumption
    | with_reducible apply good_Chan_wrapInc
    | with_reducible apply good_Dev_wrapInc
    | with_reducible apply good_Dev_onHq)
theorem good_Dev_countRound (d : Dev) (q : Nat) (h_d : d.Good) : (Dev.countRound d q).Good := by
  unfold Dev.countRound
  repeat' (first
    | with_reducible assumption
    | with_reducible apply good_Dev_onQueue
    | with_reducible apply good_foldl
    | with_reducible apply goodD_foldl
    | with_reducible apply goodM_foldl
    | with_reducible apply good_Chan_inv
    | with_reducible apply good_Chan_invNil
    | (with_reducible exact good_mk (by with_reducible assumption))
    | (with_reducible exact goodD_mk (by with_reducible assumption))
    | split
    | (intro _)
    | (extract_lets +onlyGivenNames x; first | (refine good_use (x := x) ?_ (fun hx => ?_)) | (refine good_use (x := x.1) ?_ (fun hx => ?_)) | (refine (have hx : Dev.Good x := ?_; ?_)) | (refine (have hx : Dev.Good x.1 := ?_; ?_)) | (refine (have hx : Mach.Good x := ?_; ?_)) | (refine (have hx : Mach.Good x.1 := ?_; ?_)) | (refine (have hx : Mach.Good x.m := ?_; ?_)) | clear_value x))
theorem good_Dev_sendHead (d : Dev) (q : Nat) (f : OutFrame) (h_d : d.Good) : (Dev.sendHead d q f).Good := by
  unfold Dev.sendHead
  repeat' (first
    | with_reducible assumption
    | with_reducible apply good_Dev_countRound
    | with_reducible apply good_Dev_onQueue
    | with_reducible apply good_Dev_onFlow
    | with_reducible apply good_Chan_when
    | with_reducible apply good_Dev_when
    | with_reducible apply good_Dev_freeTag
    | with_reducible apply good_Dev_emitFrame
    | with_reducible apply good_foldl
    | with_reducible apply goodD_foldl
    | with_reducible apply goodM_foldl
    | with_reducible apply good_Chan_inv
    | with_reducible apply good_Chan_invNil
    | (with_reducible exact good_mk (by with_reducible assumption))
    | (with_reducible exact goodD_mk (by with_reducible assumption))
    | split
    | (intro _))
theorem good_Dev_crdFor (d : Dev) (fs : List Nat) (h_d : d.Good) : (Dev.crdFor d fs).Good := by
  unfold Dev.crdFor
  repeat' (first
    | with_reducible assumption
    | with_reducible apply good_Dev_onFlow
    | with_reducible apply good_Dev_sendCrd
    | with_reducible apply good_foldl
    | with_reducible apply goodD_foldl
    | with_reducible apply goodM_foldl
    | with_reducible apply good_Chan_inv
    | with_reducible apply good_Chan_invNil
    | (with_reducible exact good_mk (by with_reducible assumption))
    | (with_reducible exact goodD_mk (by with_reducible assumption))
    | split
    | (intro _)
    | (extract_lets +onlyGivenNames x; first | (refine good_use (x := x) ?_ (fun hx => ?_)) | (refine good_use (x := x.1) ?_ (fun hx => ?_)) | (refine (have hx : Dev.Good x := ?_; ?_)) | (refine (have hx : Dev.Good x.1 := ?_; ?_)) | (refine (have hx : Mach.Good x := ?_; ?_)) | (refine (have hx : Mach.Good x.1 := ?_; ?_)) | (refine (have hx : Mach.Good x.m := ?_; ?_)) | clear_value x))
theorem good_doCrdTimer (d : Dev) (h_d : d.Good) : (doCrdTimer d).Good := by
  unfold doCrdTimer
  repeat' (first
    | with_reducible assumption
    | with_reducible apply good_Dev_onHq
    | with_reducible apply good_Dev_crdFor
    | with_reducible apply good_foldl
    | with_reducible apply goodD_foldl
    | with_reducible apply goodM_foldl
    | with_reducible apply good_Chan_inv
    | with_reducible apply good_Chan_invNil
    | (with_reducible exact good_mk (by with_reducible assumption))
    | (with_reducible exact goodD_mk (by with_reducible assumption))
    | split)
theorem good_doCrdFullTimer (d : Dev) (h_d : d.Good) : (doCrdFullTimer d).Good := by
  unfold doCrdFullTimer
  repeat' (first
    | with_reducible assumption
    | with_reducible apply good_Dev_onHq
    | with_reducible apply good_Dev_crdFor
    | with_reducible apply good_foldl
    | with_reducible apply goodD_foldl
    | with_reducible apply goodM_foldl
    | with_reducible apply good_Chan_inv
    | with_reducible apply good_Chan_invNil
    | (with_reducible exact good_mk (by with_reducible assumption))
    | (with_reducible exact goodD_mk (by with_reducible assumption))
    | split)
theorem good_Dev_chanSee {kc : Ch} (d : Dev) (s : Nat) (c : Chan) (h_d : d.Good) (h_c : c.Good kc) : (Dev.chanSee d s c).1.Good := by
  unfold Dev.chanSee
  refine good_Dev_seeFold _ (fun x p h => ?_) _ _ h_d
  exact good_Dev_irqSee _ _ _ _ _ h
theorem good_Mach_vectorDue (m : Mach) (v : Nat) (h_m : m.Good) : (Mach.vectorDue m v).1.Good := by
  unfold Mach.vectorDue
  split
  · exact good_Dev_onHq _ _ h_m.2.2.1
  · split
    · exact good_Dev_chanSee _ _ _ h_m.2.2.1 h_m.1
    · split
      · exact good_Dev_chanSee _ _ _ h_m.2.2.1 h_m.2.1
      · exact good_Dev_funcSee _ _ h_m.2.2.1
theorem good_doNtfHoldoffExpiry (v : Nat) (d : Dev) (h_d : d.Good) : (doNtfHoldoffExpiry v d).Good := by
  unfold doNtfHoldoffExpiry
  repeat' (first
    | with_reducible assumption
    | with_reducible apply good_Dev_onHq
    | with_reducible apply good_Res_wait
    | with_reducible apply good_Dev_ntfSend
    | with_reducible apply good_foldl
    | with_reducible apply goodD_foldl
    | with_reducible apply goodM_foldl
    | with_reducible apply good_Chan_inv
    | with_reducible apply good_Chan_invNil
    | (with_reducible exact good_mk (by with_reducible assumption))
    | (with_reducible exact goodD_mk (by with_reducible assumption))
    | split)
theorem good_Dev_syncCount (d : Dev) (offset : Int) (h_d : d.Good) : (Dev.syncCount d offset).Good := by
  unfold Dev.syncCount
  repeat' (first
    | with_reducible assumption
    | with_reducible apply good_Chan_p
    | with_reducible apply good_Dev_p
    | with_reducible apply good_foldl
    | with_reducible apply goodD_foldl
    | with_reducible apply goodM_foldl
    | with_reducible apply good_Chan_inv
    | with_reducible apply good_Chan_invNil
    | (with_reducible exact good_mk (by with_reducible assumption))
    | (with_reducible exact goodD_mk (by with_reducible assumption))
    | split
    | (intro _)
    | (extract_lets +onlyGivenNames x; first | (refine good_use (x := x) ?_ (fun hx => ?_)) | (refine good_use (x := x.1) ?_ (fun hx => ?_)) | (refine (have hx : Dev.Good x := ?_; ?_)) | (refine (have hx : Dev.Good x.1 := ?_; ?_)) | (refine (have hx : Mach.Good x := ?_; ?_)) | (refine (have hx : Mach.Good x.1 := ?_; ?_)) | (refine (have hx : Mach.Good x.m := ?_; ?_)) | clear_value x))
theorem good_Dev_ptpSync (d : Dev) (stamp : Nat) (origin : Int) (h_d : d.Good) : (Dev.ptpSync d stamp origin).Good := by
  unfold Dev.ptpSync
  repeat' (first
    | with_reducible assumption
    | with_reducible apply good_Chan_p
    | with_reducible apply good_Dev_p
    | with_reducible apply good_Chan_took
    | with_reducible apply good_Dev_took
    | with_reducible apply good_Dev_syncCount
    | with_reducible apply good_foldl
    | with_reducible apply goodD_foldl
    | with_reducible apply goodM_foldl
    | with_reducible apply good_Chan_inv
    | with_reducible apply good_Chan_invNil
    | (with_reducible exact good_mk (by with_reducible assumption))
    | (with_reducible exact goodD_mk (by with_reducible assumption))
    | split
    | (intro _)
    | (extract_lets +onlyGivenNames x; first | (refine good_use (x := x) ?_ (fun hx => ?_)) | (refine good_use (x := x.1) ?_ (fun hx => ?_)) | (refine (have hx : Dev.Good x := ?_; ?_)) | (refine (have hx : Dev.Good x.1 := ?_; ?_)) | (refine (have hx : Mach.Good x := ?_; ?_)) | (refine (have hx : Mach.Good x.1 := ?_; ?_)) | (refine (have hx : Mach.Good x.m := ?_; ?_)) | clear_value x)
    | (with_reducible apply good_mk; first | with_reducible apply good_Chan_p | with_reducible apply good_Dev_p | with_reducible apply good_Chan_took | with_reducible apply good_Dev_took | with_reducible apply good_Dev_syncCount)
    | (with_reducible apply goodD_mk; first | with_reducible apply good_Chan_p | with_reducible apply good_Dev_p | with_reducible apply good_Chan_took | with_reducible apply good_Dev_took | with_reducible apply good_Dev_syncCount))
theorem good_doPtpMessageRx (msg : PtpMsg) (d0 : Dev) (h_d0 : d0.Good) : (doPtpMessageRx msg d0).Good := by
  unfold doPtpMessageRx
  repeat' (first
    | with_reducible assumption
    | with_reducible apply good_Dev_rxStamp
    | with_reducible apply good_Dev_ptpSync
    | with_reducible apply good_Chan_p
    | with_reducible apply good_Dev_p
    | with_reducible apply good_foldl
    | with_reducible apply goodD_foldl
    | with_reducible apply goodM_foldl
    | with_reducible apply good_Chan_inv
    | with_reducible apply good_Chan_invNil
    | (with_reducible exact good_mk (by with_reducible assumption))
    | (with_reducible exact goodD_mk (by with_reducible assumption))
    | split
    | (intro _)
    | (extract_lets +onlyGivenNames x; first | (refine good_use (x := x) ?_ (fun hx => ?_)) | (refine good_use (x := x.1) ?_ (fun hx => ?_)) | (refine (have hx : Dev.Good x := ?_; ?_)) | (refine (have hx : Dev.Good x.1 := ?_; ?_)) | (refine (have hx : Mach.Good x := ?_; ?_)) | (refine (have hx : Mach.Good x.1 := ?_; ?_)) | (refine (have hx : Mach.Good x.m := ?_; ?_)) | clear_value x))
theorem good_doAnnounceTimeout (d : Dev) (h_d : d.Good) : (doAnnounceTimeout d).Good := by
  unfold doAnnounceTimeout
  repeat' (first
    | with_reducible assumption
    | with_reducible apply good_Chan_p
    | with_reducible apply good_Dev_p
    | with_reducible apply good_foldl
    | with_reducible apply goodD_foldl
    | with_reducible apply goodM_foldl
    | with_reducible apply good_Chan_inv
    | with_reducible apply good_Chan_invNil
    | (with_reducible exact good_mk (by with_reducible assumption))
    | (with_reducible exact goodD_mk (by with_reducible assumption))
    | split)
theorem good_doMdioGo (d : Dev) (h_d : d.Good) : (doMdioGo d).Good := by
  unfold doMdioGo
  repeat' (first
    | with_reducible assumption
    | with_reducible apply good_Chan_p
    | with_reducible apply good_Dev_p
    | with_reducible apply good_foldl
    | with_reducible apply goodD_foldl
    | with_reducible apply goodM_foldl
    | with_reducible apply good_Chan_inv
    | with_reducible apply good_Chan_invNil
    | (with_reducible exact good_mk (by with_reducible assumption))
    | (with_reducible exact goodD_mk (by with_reducible assumption))
    | split)
theorem good_doMdioTransactionEnd (data : Nat) (d : Dev) (h_d : d.Good) : (doMdioTransactionEnd data d).Good := by
  unfold doMdioTransactionEnd
  repeat' (first
    | with_reducible assumption
    | with_reducible apply good_Chan_p
    | with_reducible apply good_Dev_p
    | with_reducible apply good_Chan_when
    | with_reducible apply good_Dev_when
    | with_reducible apply good_foldl
    | with_reducible apply goodD_foldl
    | with_reducible apply goodM_foldl
    | with_reducible apply good_Chan_inv
    | with_reducible apply good_Chan_invNil
    | (with_reducible exact good_mk (by with_reducible assumption))
    | (with_reducible exact goodD_mk (by with_reducible assumption))
    | split
    | (intro _))
theorem good_doPhyResetRelease (d : Dev) (h_d : d.Good) : (doPhyResetRelease d).Good := by
  unfold doPhyResetRelease
  repeat' (first
    | with_reducible assumption
    | with_reducible apply good_Dev_onPwr
    | with_reducible apply good_Chan_p
    | with_reducible apply good_Dev_p
    | with_reducible apply good_foldl
    | with_reducible apply goodD_foldl
    | with_reducible apply goodM_foldl
    | with_reducible apply good_Chan_inv
    | with_reducible apply good_Chan_invNil
    | (with_reducible exact good_mk (by with_reducible assumption))
    | (with_reducible exact goodD_mk (by with_reducible assumption))
    | split)
theorem good_doControlProtocolRx (proto : CtlProto) (dst : Nat) (src : Nat) (vid : Option Nat) (d : Dev) (h_d : d.Good) : (doControlProtocolRx proto dst src vid d).Good := by
  unfold doControlProtocolRx
  repeat' (first
    | with_reducible assumption
    | with_reducible apply good_Dev_rxStamp
    | with_reducible apply good_Chan_wrapInc
    | with_reducible apply good_Dev_wrapInc
    | with_reducible apply good_foldl
    | with_reducible apply goodD_foldl
    | with_reducible apply goodM_foldl
    | with_reducible apply good_Chan_inv
    | with_reducible apply good_Chan_invNil
    | (with_reducible exact good_mk (by with_reducible assumption))
    | (with_reducible exact goodD_mk (by with_reducible assumption))
    | split
    | (intro _)
    | (extract_lets +onlyGivenNames x; first | (refine good_use (x := x) ?_ (fun hx => ?_)) | (refine good_use (x := x.1) ?_ (fun hx => ?_)) | (refine (have hx : Dev.Good x := ?_; ?_)) | (refine (have hx : Dev.Good x.1 := ?_; ?_)) | (refine (have hx : Mach.Good x := ?_; ?_)) | (refine (have hx : Mach.Good x.1 := ?_; ?_)) | (refine (have hx : Mach.Good x.m := ?_; ?_)) | clear_value x))
theorem good_Dev_canBusOff (d : Dev) (k : Nat) (h_d : d.Good) : (Dev.canBusOff d k).Good := by
  unfold Dev.canBusOff
  repeat' (first
    | with_reducible assumption
    | with_reducible apply good_Chan_p
    | with_reducible apply good_Dev_p
    | with_reducible apply good_Dev_onCan
    | with_reducible apply good_Dev_setCan
    | with_reducible apply good_Chan_raise
    | with_reducible apply good_Dev_raise)
theorem good_Dev_canLevel (d : Dev) (k : Nat) (h_d : d.Good) : (Dev.canLevel d k).Good := by
  unfold Dev.canLevel
  repeat' (first
    | with_reducible assumption
    | with_reducible apply good_Dev_setCan
    | with_reducible apply good_Chan_raise
    | with_reducible apply good_Dev_raise
    | with_reducible apply good_Chan_clear
    | with_reducible apply good_Dev_clear
    | with_reducible apply good_foldl
    | with_reducible apply goodD_foldl
    | with_reducible apply goodM_foldl
    | with_reducible apply good_Chan_inv
    | with_reducible apply good_Chan_invNil
    | (with_reducible exact good_mk (by with_reducible assumption))
    | (with_reducible exact goodD_mk (by with_reducible assumption))
    | split)
theorem good_Dev_tecUp (d : Dev) (k : Nat) (h_d : d.Good) : (Dev.tecUp d k).Good := by
  unfold Dev.tecUp
  repeat' (first
    | with_reducible assumption
    | with_reducible apply good_Dev_canBusOff
    | with_reducible apply good_Chan_p
    | with_reducible apply good_Dev_p
    | with_reducible apply good_Dev_canLevel
    | with_reducible apply good_foldl
    | with_reducible apply goodD_foldl
    | with_reducible apply goodM_foldl
    | with_reducible apply good_Chan_inv
    | with_reducible apply good_Chan_invNil
    | (with_reducible exact good_mk (by with_reducible assumption))
    | (with_reducible exact goodD_mk (by with_reducible assumption))
    | split)
theorem good_Dev_tecDown (d : Dev) (k : Nat) (h_d : d.Good) : (Dev.tecDown d k).Good := by
  unfold Dev.tecDown
  repeat' (first
    | with_reducible assumption
    | with_reducible apply good_Chan_p
    | with_reducible apply good_Dev_p
    | with_reducible apply good_Dev_canLevel)
theorem good_Dev_recUp (d : Dev) (k : Nat) (big : Bool) (h_d : d.Good) : (Dev.recUp d k big).Good := by
  unfold Dev.recUp
  repeat' (first
    | with_reducible assumption
    | with_reducible apply good_Dev_satAdd
    | with_reducible apply good_Dev_canLevel)
theorem good_Dev_recDown (d : Dev) (k : Nat) (h_d : d.Good) : (Dev.recDown d k).Good := by
  unfold Dev.recDown
  repeat' (first
    | with_reducible assumption
    | with_reducible apply good_Chan_p
    | with_reducible apply good_Dev_p
    | with_reducible apply good_Chan_took
    | with_reducible apply good_Dev_took
    | with_reducible apply good_Dev_canLevel
    | with_reducible apply good_foldl
    | with_reducible apply goodD_foldl
    | with_reducible apply goodM_foldl
    | with_reducible apply good_Chan_inv
    | with_reducible apply good_Chan_invNil
    | (with_reducible exact good_mk (by with_reducible assumption))
    | (with_reducible exact goodD_mk (by with_reducible assumption))
    | split
    | (intro _)
    | (extract_lets +onlyGivenNames x; first | (refine good_use (x := x) ?_ (fun hx => ?_)) | (refine good_use (x := x.1) ?_ (fun hx => ?_)) | (refine (have hx : Dev.Good x := ?_; ?_)) | (refine (have hx : Dev.Good x.1 := ?_; ?_)) | (refine (have hx : Mach.Good x := ?_; ?_)) | (refine (have hx : Mach.Good x.1 := ?_; ?_)) | (refine (have hx : Mach.Good x.m := ?_; ?_)) | clear_value x))
theorem good_Dev_loneReset (d : Dev) (k : Nat) (h_d : d.Good) : (Dev.loneReset d k).Good := by
  unfold Dev.loneReset
  repeat' (first
    | with_reducible assumption
    | with_reducible apply good_Chan_p
    | with_reducible apply good_Dev_p
    | with_reducible apply good_Chan_clear
    | with_reducible apply good_Dev_clear)
theorem good_Dev_moStamp (d : Dev) (k : Nat) (n : Nat) (age : Nat) (h_d : d.Good) : (Dev.moStamp d k n age).Good := by
  unfold Dev.moStamp
  repeat' (first
    | with_reducible assumption
    | with_reducible apply good_Chan_wr
    | with_reducible apply good_Dev_wr
    | with_reducible apply good_Dev_takeSeq)
theorem good_Dev_setE2e (d : Dev) (k : Nat) (n : Nat) (x : E2eSt) (h_d : d.Good) : (Dev.setE2e d k n x).Good := by
  unfold Dev.setE2e
  repeat' (first
    | with_reducible assumption
    | with_reducible apply good_Dev_onCan)
theorem good_Dev_e2eFollow (d : Dev) (k : Nat) (h_d : d.Good) : (Dev.e2eFollow d k).Good := by
  unfold Dev.e2eFollow
  repeat' (first
    | with_reducible assumption
    | with_reducible apply good_Chan_follow
    | with_reducible apply good_Dev_follow)
theorem good_Dev_e2eFails (d : Dev) (k : Nat) (n : Nat) (code : Nat) (h_d : d.Good) : (Dev.e2eFails d k n code).Good := by
  unfold Dev.e2eFails
  repeat' (first
    | with_reducible assumption
    | with_reducible apply good_Chan_when
    | with_reducible apply good_Dev_when
    | with_reducible apply good_Chan_p
    | with_reducible apply good_Dev_p
    | with_reducible apply good_Dev_e2eFollow
    | with_reducible apply good_foldl
    | with_reducible apply goodD_foldl
    | with_reducible apply goodM_foldl
    | with_reducible apply good_Chan_inv
    | with_reducible apply good_Chan_invNil
    | (with_reducible exact good_mk (by with_reducible assumption))
    | (with_reducible exact goodD_mk (by with_reducible assumption))
    | split
    | (intro _))
theorem good_Dev_e2eCheck (d : Dev) (k : Nat) (n : Nat) (data : List Nat) (h_d : d.Good) : (Dev.e2eCheck d k n data).Good := by
  unfold Dev.e2eCheck
  repeat' (first
    | with_reducible assumption
    | with_reducible apply good_Dev_e2eFails
    | with_reducible apply good_Chan_p
    | with_reducible apply good_Dev_p
    | with_reducible apply good_Dev_setE2e
    | with_reducible apply good_Dev_e2eFollow
    | with_reducible apply good_foldl
    | with_reducible apply goodD_foldl
    | with_reducible apply goodM_foldl
    | with_reducible apply good_Chan_inv
    | with_reducible apply good_Chan_invNil
    | (with_reducible exact good_mk (by with_reducible assumption))
    | (with_reducible exact goodD_mk (by with_reducible assumption))
    | split
    | (intro _)
    | (extract_lets +onlyGivenNames x; first | (refine good_use (x := x) ?_ (fun hx => ?_)) | (refine good_use (x := x.1) ?_ (fun hx => ?_)) | (refine (have hx : Dev.Good x := ?_; ?_)) | (refine (have hx : Dev.Good x.1 := ?_; ?_)) | (refine (have hx : Mach.Good x := ?_; ?_)) | (refine (have hx : Mach.Good x.1 := ?_; ?_)) | (refine (have hx : Mach.Good x.m := ?_; ?_)) | clear_value x))
theorem good_Dev_e2ePrepare (d : Dev) (k : Nat) (n : Nat) (h_d : d.Good) : (Dev.e2ePrepare d k n).Good := by
  unfold Dev.e2ePrepare
  repeat' (first
    | with_reducible assumption
    | with_reducible apply good_Chan_p
    | with_reducible apply good_Dev_p
    | with_reducible apply good_Dev_setE2e
    | with_reducible apply good_foldl
    | with_reducible apply goodD_foldl
    | with_reducible apply goodM_foldl
    | with_reducible apply good_Chan_inv
    | with_reducible apply good_Chan_invNil
    | (with_reducible exact good_mk (by with_reducible assumption))
    | (with_reducible exact goodD_mk (by with_reducible assumption))
    | split)
theorem good_Dev_e2eDone (d : Dev) (k : Nat) (n : Nat) (h_d : d.Good) : (Dev.e2eDone d k n).Good := by
  unfold Dev.e2eDone
  repeat' (first
    | with_reducible assumption
    | with_reducible apply good_Dev_setE2e
    | with_reducible apply good_foldl
    | with_reducible apply goodD_foldl
    | with_reducible apply goodM_foldl
    | with_reducible apply good_Chan_inv
    | with_reducible apply good_Chan_invNil
    | (with_reducible exact good_mk (by with_reducible assumption))
    | (with_reducible exact goodD_mk (by with_reducible assumption))
    | split)
theorem good_Dev_moStore (d : Dev) (k : Nat) (n : Nat) (age : Nat) (fr : CanFrame) (h_d : d.Good) : (Dev.moStore d k n age fr).Good := by
  unfold Dev.moStore
  repeat' (first
    | with_reducible assumption
    | with_reducible apply good_Chan_p
    | with_reducible apply good_Dev_p
    | with_reducible apply good_Dev_moPut
    | with_reducible apply good_Dev_moStamp
    | with_reducible apply good_Dev_e2eCheck
    | with_reducible apply good_foldl
    | with_reducible apply goodD_foldl
    | with_reducible apply goodM_foldl
    | with_reducible apply good_Chan_inv
    | with_reducible apply good_Chan_invNil
    | (with_reducible exact good_mk (by with_reducible assumption))
    | (with_reducible exact goodD_mk (by with_reducible assumption))
    | split)
theorem good_Dev_moReceive (d : Dev) (k : Nat) (n : Nat) (age : Nat) (fr : CanFrame) (h_d : d.Good) : (Dev.moReceive d k n age fr).Good := by
  unfold Dev.moReceive
  repeat' (first
    | with_reducible assumption
    | with_reducible apply good_Chan_p
    | with_reducible apply good_Dev_p
    | with_reducible apply good_Chan_satInc
    | with_reducible apply good_Dev_satInc
    | with_reducible apply good_Dev_moStore
    | with_reducible apply good_foldl
    | with_reducible apply goodD_foldl
    | with_reducible apply goodM_foldl
    | with_reducible apply good_Chan_inv
    | with_reducible apply good_Chan_invNil
    | (with_reducible exact good_mk (by with_reducible assumption))
    | (with_reducible exact goodD_mk (by with_reducible assumption))
    | split
    | (intro _)
    | (extract_lets +onlyGivenNames x; first | (refine good_use (x := x) ?_ (fun hx => ?_)) | (refine good_use (x := x.1) ?_ (fun hx => ?_)) | (refine (have hx : Dev.Good x := ?_; ?_)) | (refine (have hx : Dev.Good x.1 := ?_; ?_)) | (refine (have hx : Mach.Good x := ?_; ?_)) | (refine (have hx : Mach.Good x.1 := ?_; ?_)) | (refine (have hx : Mach.Good x.m := ?_; ?_)) | clear_value x))
theorem good_doCanFrameReceived (k : Nat) (fr : CanFrame) (age : Nat) (d : Dev) (h_d : d.Good) : (doCanFrameReceived k fr age d).Good := by
  unfold doCanFrameReceived
  repeat' (first
    | with_reducible assumption
    | with_reducible apply good_Dev_recUp
    | with_reducible apply good_Dev_recDown
    | with_reducible apply good_Dev_loneReset
    | with_reducible apply good_Chan_satInc
    | with_reducible apply good_Dev_satInc
    | with_reducible apply good_Dev_moReceive
    | with_reducible apply good_foldl
    | with_reducible apply goodD_foldl
    | with_reducible apply goodM_foldl
    | with_reducible apply good_Chan_inv
    | with_reducible apply good_Chan_invNil
    | (with_reducible exact good_mk (by with_reducible assumption))
    | (with_reducible exact goodD_mk (by with_reducible assumption))
    | split
    | (intro _)
    | (extract_lets +onlyGivenNames x; first | (refine good_use (x := x) ?_ (fun hx => ?_)) | (refine good_use (x := x.1) ?_ (fun hx => ?_)) | (refine (have hx : Dev.Good x := ?_; ?_)) | (refine (have hx : Dev.Good x.1 := ?_; ?_)) | (refine (have hx : Mach.Good x := ?_; ?_)) | (refine (have hx : Mach.Good x.1 := ?_; ?_)) | (refine (have hx : Mach.Good x.m := ?_; ?_)) | clear_value x))
theorem good_doProtocolException (k : Nat) (d : Dev) (h_d : d.Good) : (doProtocolException k d).Good := by
  unfold doProtocolException
  repeat' (first
    | with_reducible assumption
    | with_reducible apply good_Dev_onCan
    | with_reducible apply good_Dev_setCan
    | with_reducible apply good_Dev_recUp
    | with_reducible apply good_foldl
    | with_reducible apply goodD_foldl
    | with_reducible apply goodM_foldl
    | with_reducible apply good_Chan_inv
    | with_reducible apply good_Chan_invNil
    | (with_reducible exact good_mk (by with_reducible assumption))
    | (with_reducible exact goodD_mk (by with_reducible assumption))
    | split)
theorem good_doCanRxError (k : Nat) (big : Bool) (d : Dev) (h_d : d.Good) : (doCanRxError k big d).Good := by
  unfold doCanRxError
  repeat' (first
    | with_reducible assumption
    | with_reducible apply good_Dev_recUp
    | with_reducible apply good_foldl
    | with_reducible apply goodD_foldl
    | with_reducible apply goodM_foldl
    | with_reducible apply good_Chan_inv
    | with_reducible apply good_Chan_invNil
    | (with_reducible exact good_mk (by with_reducible assumption))
    | (with_reducible exact goodD_mk (by with_reducible assumption))
    | split)
theorem good_doCanInitClear (k : Nat) (d : Dev) (h_d : d.Good) : (doCanInitClear k d).Good := by
  unfold doCanInitClear
  repeat' (first
    | with_reducible assumption
    | with_reducible apply good_Dev_canLeaveInit
    | with_reducible apply good_foldl
    | with_reducible apply goodD_foldl
    | with_reducible apply goodM_foldl
    | with_reducible apply good_Chan_inv
    | with_reducible apply good_Chan_invNil
    | (with_reducible exact good_mk (by with_reducible assumption))
    | (with_reducible exact goodD_mk (by with_reducible assumption))
    | split)
theorem good_doCanIntegrated (k : Nat) (d : Dev) (h_d : d.Good) : (doCanIntegrated k d).Good := by
  unfold doCanIntegrated
  repeat' (first
    | with_reducible assumption
    | with_reducible apply good_Dev_canLevel
    | with_reducible apply good_foldl
    | with_reducible apply goodD_foldl
    | with_reducible apply goodM_foldl
    | with_reducible apply good_Chan_inv
    | with_reducible apply good_Chan_invNil
    | (with_reducible exact good_mk (by with_reducible assumption))
    | (with_reducible exact goodD_mk (by with_reducible assumption))
    | split)
theorem good_doCanCtlRecover (k : Nat) (d : Dev) (h_d : d.Good) : (doCanCtlRecover k d).Good := by
  unfold doCanCtlRecover
  repeat' (first
    | with_reducible assumption
    | with_reducible apply good_Chan_p
    | with_reducible apply good_Dev_p
    | with_reducible apply good_Dev_setCan
    | with_reducible apply good_foldl
    | with_reducible apply goodD_foldl
    | with_reducible apply goodM_foldl
    | with_reducible apply good_Chan_inv
    | with_reducible apply good_Chan_invNil
    | (with_reducible exact good_mk (by with_reducible assumption))
    | (with_reducible exact goodD_mk (by with_reducible assumption))
    | split)
theorem good_doCanRecoveryComplete (k : Nat) (d : Dev) (h_d : d.Good) : (doCanRecoveryComplete k d).Good := by
  unfold doCanRecoveryComplete
  repeat' (first
    | with_reducible assumption
    | with_reducible apply good_Chan_p
    | with_reducible apply good_Dev_p
    | with_reducible apply good_Dev_onCan
    | with_reducible apply good_Dev_canLevel
    | with_reducible apply good_Chan_clear
    | with_reducible apply good_Dev_clear
    | with_reducible apply good_foldl
    | with_reducible apply goodD_foldl
    | with_reducible apply goodM_foldl
    | with_reducible apply good_Chan_inv
    | with_reducible apply good_Chan_invNil
    | (with_reducible exact good_mk (by with_reducible assumption))
    | (with_reducible exact goodD_mk (by with_reducible assumption))
    | split)
theorem good_doCanTxStart (k : Nat) (d : Dev) (h_d : d.Good) : (doCanTxStart k d).Good := by
  unfold doCanTxStart
  repeat' (first
    | with_reducible assumption
    | with_reducible apply good_Dev_e2ePrepare
    | with_reducible apply good_Dev_onCan
    | with_reducible apply good_foldl
    | with_reducible apply goodD_foldl
    | with_reducible apply goodM_foldl
    | with_reducible apply good_Chan_inv
    | with_reducible apply good_Chan_invNil
    | (with_reducible exact good_mk (by with_reducible assumption))
    | (with_reducible exact goodD_mk (by with_reducible assumption))
    | split)
theorem good_Dev_moFill (d : Dev) (n : Nat) (fr : CanFrame) (h_d : d.Good) : (Dev.moFill d n fr).Good := by
  unfold Dev.moFill
  repeat' (first
    | with_reducible assumption
    | with_reducible apply good_Chan_wr
    | with_reducible apply good_Dev_wr
    | with_reducible apply good_Dev_moPut
    | with_reducible apply good_Chan_p
    | with_reducible apply good_Dev_p)
theorem good_Dev_isoSend (d : Dev) (fr : CanFrame) (h_d : d.Good) : (Dev.isoSend d fr).Good := by
  unfold Dev.isoSend
  repeat' (first
    | with_reducible assumption
    | with_reducible apply good_Dev_onIso
    | with_reducible apply good_Dev_moFill
    | with_reducible apply good_foldl
    | with_reducible apply goodD_foldl
    | with_reducible apply goodM_foldl
    | with_reducible apply good_Chan_inv
    | with_reducible apply good_Chan_invNil
    | (with_reducible exact good_mk (by with_reducible assumption))
    | (with_reducible exact goodD_mk (by with_reducible assumption))
    | split)
theorem good_Dev_isoDrain (d : Dev) (k : Nat) (h_d : d.Good) : (Dev.isoDrain d k).Good := by
  unfold Dev.isoDrain
  repeat' (first
    | with_reducible assumption
    | with_reducible apply good_Dev_onIso
    | with_reducible apply good_Dev_isoSend
    | with_reducible apply good_foldl
    | with_reducible apply goodD_foldl
    | with_reducible apply goodM_foldl
    | with_reducible apply good_Chan_inv
    | with_reducible apply good_Chan_invNil
    | (with_reducible exact good_mk (by with_reducible assumption))
    | (with_reducible exact goodD_mk (by with_reducible assumption))
    | split)
theorem good_doCanTxDone (k : Nat) (delay : Nat) (age : Nat) (d : Dev) (h_d : d.Good) : (doCanTxDone k delay age d).Good := by
  unfold doCanTxDone
  repeat' (first
    | with_reducible assumption
    | with_reducible apply good_Dev_onCan
    | with_reducible apply good_Chan_p
    | with_reducible apply good_Dev_p
    | with_reducible apply good_Dev_moStamp
    | with_reducible apply good_Chan_when
    | with_reducible apply good_Dev_when
    | with_reducible apply good_Dev_e2eDone
    | with_reducible apply good_Dev_tecDown
    | with_reducible apply good_Dev_loneReset
    | with_reducible apply good_Dev_isoDrain
    | with_reducible apply good_foldl
    | with_reducible apply goodD_foldl
    | with_reducible apply goodM_foldl
    | with_reducible apply good_Chan_inv
    | with_reducible apply good_Chan_invNil
    | (with_reducible exact good_mk (by with_reducible assumption))
    | (with_reducible exact goodD_mk (by with_reducible assumption))
    | split
    | (intro _))
theorem good_Dev_moCancel (d : Dev) (k : Nat) (n : Nat) (h_d : d.Good) : (Dev.moCancel d k n).Good := by
  unfold Dev.moCancel
  repeat' (first
    | with_reducible assumption
    | with_reducible apply good_Chan_p
    | with_reducible apply good_Dev_p
    | with_reducible apply good_Dev_e2eDone
    | with_reducible apply good_Dev_isoDrain)
theorem good_Dev_loneCount (d : Dev) (k : Nat) (n : Nat) (h_d : d.Good) : (Dev.loneCount d k n).Good := by
  unfold Dev.loneCount
  repeat' (first
    | with_reducible assumption
    | with_reducible apply good_Chan_satInc
    | with_reducible apply good_Dev_satInc
    | with_reducible apply good_Chan_p
    | with_reducible apply good_Dev_p
    | with_reducible apply good_Chan_raise
    | with_reducible apply good_Dev_raise
    | with_reducible apply good_Chan_when
    | with_reducible apply good_Dev_when
    | with_reducible apply good_Dev_moCancel
    | with_reducible apply good_foldl
    | with_reducible apply goodD_foldl
    | with_reducible apply goodM_foldl
    | with_reducible apply good_Chan_inv
    | with_reducible apply good_Chan_invNil
    | (with_reducible exact good_mk (by with_reducible assumption))
    | (with_reducible exact goodD_mk (by with_reducible assumption))
    | split
    | (intro _))
theorem good_doCanTxFail (k : Nat) (why : TxFail) (d : Dev) (h_d : d.Good) : (doCanTxFail k why d).Good := by
  unfold doCanTxFail
  repeat' (first
    | with_reducible assumption
    | with_reducible apply good_Dev_onCan
    | with_reducible apply good_Dev_tecUp
    | with_reducible apply good_Dev_loneCount
    | with_reducible apply good_foldl
    | with_reducible apply goodD_foldl
    | with_reducible apply goodM_foldl
    | with_reducible apply good_Chan_inv
    | with_reducible apply good_Chan_invNil
    | (with_reducible exact good_mk (by with_reducible assumption))
    | (with_reducible exact goodD_mk (by with_reducible assumption))
    | split)
theorem good_doMoStatPend (k : Nat) (n : Nat) (d : Dev) (h_d : d.Good) : (doMoStatPend k n d).Good := by
  unfold doMoStatPend
  repeat' (first
    | with_reducible assumption
    | with_reducible apply good_Chan_p
    | with_reducible apply good_Dev_p
    | with_reducible apply good_foldl
    | with_reducible apply goodD_foldl
    | with_reducible apply goodM_foldl
    | with_reducible apply good_Chan_inv
    | with_reducible apply good_Chan_invNil
    | (with_reducible exact good_mk (by with_reducible assumption))
    | (with_reducible exact goodD_mk (by with_reducible assumption))
    | split)
theorem good_doMoStatCancel (k : Nat) (n : Nat) (d : Dev) (h_d : d.Good) : (doMoStatCancel k n d).Good := by
  unfold doMoStatCancel
  repeat' (first
    | with_reducible assumption
    | with_reducible apply good_Chan_p
    | with_reducible apply good_Dev_p
    | with_reducible apply good_Dev_moCancel
    | with_reducible apply good_foldl
    | with_reducible apply goodD_foldl
    | with_reducible apply goodM_foldl
    | with_reducible apply good_Chan_inv
    | with_reducible apply good_Chan_invNil
    | (with_reducible exact good_mk (by with_reducible assumption))
    | (with_reducible exact goodD_mk (by with_reducible assumption))
    | split)
theorem good_doE2eTimeout (k : Nat) (n : Nat) (d : Dev) (h_d : d.Good) : (doE2eTimeout k n d).Good := by
  unfold doE2eTimeout
  repeat' (first
    | with_reducible assumption
    | with_reducible apply good_Dev_setE2e
    | with_reducible apply good_Dev_e2eFails
    | with_reducible apply good_foldl
    | with_reducible apply goodD_foldl
    | with_reducible apply goodM_foldl
    | with_reducible apply good_Chan_inv
    | with_reducible apply good_Chan_invNil
    | (with_reducible exact good_mk (by with_reducible assumption))
    | (with_reducible exact goodD_mk (by with_reducible assumption))
    | split)
theorem good_Dev_sendClaim (d : Dev) (sa : Nat) (h_d : d.Good) : (Dev.sendClaim d sa).Good := by
  unfold Dev.sendClaim
  repeat' (first
    | with_reducible assumption
    | with_reducible apply good_Dev_isoSend)
theorem good_Dev_claim (d : Dev) (sa : Nat) (h_d : d.Good) : (Dev.claim d sa).Good := by
  unfold Dev.claim
  repeat' (first
    | with_reducible assumption
    | with_reducible apply good_Chan_p
    | with_reducible apply good_Dev_p
    | with_reducible apply good_Dev_onIso
    | with_reducible apply good_Dev_sendClaim)
theorem good_doAddressClaimStart (d : Dev) (h_d : d.Good) : (doAddressClaimStart d).Good := by
  unfold doAddressClaimStart
  repeat' (first
    | with_reducible assumption
    | with_reducible apply good_Dev_claim
    | with_reducible apply good_foldl
    | with_reducible apply goodD_foldl
    | with_reducible apply goodM_foldl
    | with_reducible apply good_Chan_inv
    | with_reducible apply good_Chan_invNil
    | (with_reducible exact good_mk (by with_reducible assumption))
    | (with_reducible exact goodD_mk (by with_reducible assumption))
    | split)
theorem good_doAddressClaimTimer (d : Dev) (h_d : d.Good) : (doAddressClaimTimer d).Good := by
  unfold doAddressClaimTimer
  repeat' (first
    | with_reducible assumption
    | with_reducible apply good_Chan_p
    | with_reducible apply good_Dev_p
    | with_reducible apply good_foldl
    | with_reducible apply goodD_foldl
    | with_reducible apply goodM_foldl
    | with_reducible apply good_Chan_inv
    | with_reducible apply good_Chan_invNil
    | (with_reducible exact good_mk (by with_reducible assumption))
    | (with_reducible exact goodD_mk (by with_reducible assumption))
    | split)
theorem good_Dev_claimLost (d : Dev) (h_d : d.Good) : (Dev.claimLost d).Good := by
  unfold Dev.claimLost
  repeat' (first
    | with_reducible assumption
    | with_reducible apply good_Dev_claim
    | with_reducible apply good_Chan_p
    | with_reducible apply good_Dev_p
    | with_reducible apply good_Dev_sendClaim
    | with_reducible apply good_foldl
    | with_reducible apply goodD_foldl
    | with_reducible apply goodM_foldl
    | with_reducible apply good_Chan_inv
    | with_reducible apply good_Chan_invNil
    | (with_reducible exact good_mk (by with_reducible assumption))
    | (with_reducible exact goodD_mk (by with_reducible assumption))
    | split
    | (intro _)
    | (extract_lets +onlyGivenNames x; first | (refine good_use (x := x) ?_ (fun hx => ?_)) | (refine good_use (x := x.1) ?_ (fun hx => ?_)) | (refine (have hx : Dev.Good x := ?_; ?_)) | (refine (have hx : Dev.Good x.1 := ?_; ?_)) | (refine (have hx : Mach.Good x := ?_; ?_)) | (refine (have hx : Mach.Good x.1 := ?_; ?_)) | (refine (have hx : Mach.Good x.m := ?_; ?_)) | clear_value x))
theorem good_Dev_claimSeen (d : Dev) (sa : Nat) (name : Nat) (h_d : d.Good) : (Dev.claimSeen d sa name).Good := by
  unfold Dev.claimSeen
  repeat' (first
    | with_reducible assumption
    | with_reducible apply good_Dev_onIso)
theorem good_doAddressClaimedRx (sa : Nat) (name : Nat) (d : Dev) (h_d : d.Good) : (doAddressClaimedRx sa name d).Good := by
  unfold doAddressClaimedRx
  repeat' (first
    | with_reducible assumption
    | with_reducible apply good_Dev_claimSeen
    | with_reducible apply good_Dev_onIso
    | with_reducible apply good_Dev_claimLost
    | with_reducible apply good_Dev_sendClaim
    | with_reducible apply good_foldl
    | with_reducible apply goodD_foldl
    | with_reducible apply goodM_foldl
    | with_reducible apply good_Chan_inv
    | with_reducible apply good_Chan_invNil
    | (with_reducible exact good_mk (by with_reducible assumption))
    | (with_reducible exact goodD_mk (by with_reducible assumption))
    | split
    | (intro _)
    | (extract_lets +onlyGivenNames x; first | (refine good_use (x := x) ?_ (fun hx => ?_)) | (refine good_use (x := x.1) ?_ (fun hx => ?_)) | (refine (have hx : Dev.Good x := ?_; ?_)) | (refine (have hx : Dev.Good x.1 := ?_; ?_)) | (refine (have hx : Mach.Good x := ?_; ?_)) | (refine (have hx : Mach.Good x.1 := ?_; ?_)) | (refine (have hx : Mach.Good x.m := ?_; ?_)) | clear_value x))
theorem good_doRequestPgnRx (pgn : Nat) (da : Nat) (d : Dev) (h_d : d.Good) : (doRequestPgnRx pgn da d).Good := by
  unfold doRequestPgnRx
  repeat' (first
    | with_reducible assumption
    | with_reducible apply good_Dev_sendClaim
    | with_reducible apply good_foldl
    | with_reducible apply goodD_foldl
    | with_reducible apply goodM_foldl
    | with_reducible apply good_Chan_inv
    | with_reducible apply good_Chan_invNil
    | (with_reducible exact good_mk (by with_reducible assumption))
    | (with_reducible exact goodD_mk (by with_reducible assumption))
    | split)
theorem good_Dev_sendTpCm (d : Dev) (da : Nat) (data : List Nat) (pgn : Nat) (h_d : d.Good) : (Dev.sendTpCm d da data pgn).Good := by
  unfold Dev.sendTpCm
  repeat' (first
    | with_reducible assumption
    | with_reducible apply good_Dev_isoSend)
theorem good_Dev_tpAbort (d : Dev) (da : Nat) (reason : Nat) (pgn : Nat) (h_d : d.Good) : (Dev.tpAbort d da reason pgn).Good := by
  unfold Dev.tpAbort
  repeat' (first
    | with_reducible assumption
    | with_reducible apply good_Dev_sendTpCm)
theorem good_Dev_tpCts (d : Dev) (da : Nat) (next : Nat) (pgn : Nat) (h_d : d.Good) : (Dev.tpCts d da next pgn).Good := by
  unfold Dev.tpCts
  repeat' (first
    | with_reducible assumption
    | with_reducible apply good_Dev_sendTpCm)
theorem good_Dev_tpEnd (d : Dev) (da : Nat) (bytes : Nat) (packets : Nat) (pgn : Nat) (h_d : d.Good) : (Dev.tpEnd d da bytes packets pgn).Good := by
  unfold Dev.tpEnd
  repeat' (first
    | with_reducible assumption
    | with_reducible apply good_Dev_sendTpCm)
theorem good_Dev_tpDrop (d : Dev) (src : Nat) (bam : Bool) (h_d : d.Good) : (Dev.tpDrop d src bam).Good := by
  unfold Dev.tpDrop
  repeat' (first
    | with_reducible assumption
    | with_reducible apply good_Dev_onIso)
theorem good_Dev_tpBegin (d : Dev) (src : Nat) (bam : Bool) (data : List Nat) (h_d : d.Good) : (Dev.tpBegin d src bam data).Good := by
  unfold Dev.tpBegin
  repeat' (first
    | with_reducible assumption
    | with_reducible apply good_Dev_tpDrop
    | with_reducible apply good_Dev_tpAbort
    | with_reducible apply good_Dev_onIso
    | with_reducible apply good_Dev_tpCts
    | with_reducible apply good_Mach_take
    | with_reducible apply good_foldl
    | with_reducible apply goodD_foldl
    | with_reducible apply goodM_foldl
    | with_reducible apply good_Chan_inv
    | with_reducible apply good_Chan_invNil
    | (with_reducible exact good_mk (by with_reducible assumption))
    | (with_reducible exact goodD_mk (by with_reducible assumption))
    | split
    | (intro _)
    | (extract_lets +onlyGivenNames x; first | (refine good_use (x := x) ?_ (fun hx => ?_)) | (refine good_use (x := x.1) ?_ (fun hx => ?_)) | (refine (have hx : Dev.Good x := ?_; ?_)) | (refine (have hx : Dev.Good x.1 := ?_; ?_)) | (refine (have hx : Mach.Good x := ?_; ?_)) | (refine (have hx : Mach.Good x.1 := ?_; ?_)) | (refine (have hx : Mach.Good x.m := ?_; ?_)) | clear_value x))
theorem good_Dev_tpPacket (d : Dev) (p : Tp) (data : List Nat) (h_d : d.Good) : (Dev.tpPacket d p data).Good := by
  unfold Dev.tpPacket
  repeat' (first
    | with_reducible assumption
    | with_reducible apply good_Dev_tpDrop
    | with_reducible apply good_Chan_p
    | with_reducible apply good_Dev_p
    | with_reducible apply good_Dev_tpAbort
    | with_reducible apply good_Mach_take
    | with_reducible apply good_Dev_onIso
    | with_reducible apply good_Dev_tpEnd
    | with_reducible apply good_Dev_tpCts
    | with_reducible apply good_foldl
    | with_reducible apply goodD_foldl
    | with_reducible apply goodM_foldl
    | with_reducible apply good_Chan_inv
    | with_reducible apply good_Chan_invNil
    | (with_reducible exact good_mk (by with_reducible assumption))
    | (with_reducible exact goodD_mk (by with_reducible assumption))
    | split)
theorem good_Dev_tpManage (d : Dev) (src : Nat) (bam : Bool) (data : List Nat) (h_d : d.Good) : (Dev.tpManage d src bam data).Good := by
  unfold Dev.tpManage
  repeat' (first
    | with_reducible assumption
    | with_reducible apply good_Dev_tpBegin
    | with_reducible apply good_Dev_tpDrop
    | with_reducible apply good_foldl
    | with_reducible apply goodD_foldl
    | with_reducible apply goodM_foldl
    | with_reducible apply good_Chan_inv
    | with_reducible apply good_Chan_invNil
    | (with_reducible exact good_mk (by with_reducible assumption))
    | (with_reducible exact goodD_mk (by with_reducible assumption))
    | split)
theorem good_doTransportProtocolRx (dt : Bool) (src : Nat) (dst : Nat) (data : List Nat) (d : Dev) (h_d : d.Good) : (doTransportProtocolRx dt src dst data d).Good := by
  unfold doTransportProtocolRx
  repeat' (first
    | with_reducible assumption
    | with_reducible apply good_Dev_tpManage
    | with_reducible apply good_Chan_p
    | with_reducible apply good_Dev_p
    | with_reducible apply good_Dev_tpPacket
    | with_reducible apply good_foldl
    | with_reducible apply goodD_foldl
    | with_reducible apply goodM_foldl
    | with_reducible apply good_Chan_inv
    | with_reducible apply good_Chan_invNil
    | (with_reducible exact good_mk (by with_reducible assumption))
    | (with_reducible exact goodD_mk (by with_reducible assumption))
    | split
    | (intro _)
    | (extract_lets +onlyGivenNames x; first | (refine good_use (x := x) ?_ (fun hx => ?_)) | (refine good_use (x := x.1) ?_ (fun hx => ?_)) | (refine (have hx : Dev.Good x := ?_; ?_)) | (refine (have hx : Dev.Good x.1 := ?_; ?_)) | (refine (have hx : Mach.Good x := ?_; ?_)) | (refine (have hx : Mach.Good x.1 := ?_; ?_)) | (refine (have hx : Mach.Good x.m := ?_; ?_)) | clear_value x))
theorem good_Dev_relatch (d : Dev) (a : Nat) (h_d : d.Good) : (Dev.relatch d a).Good := by
  unfold Dev.relatch
  repeat' (first
    | with_reducible assumption
    | with_reducible apply good_Chan_wr
    | with_reducible apply good_Dev_wr
    | with_reducible apply good_foldl
    | with_reducible apply goodD_foldl
    | with_reducible apply goodM_foldl
    | with_reducible apply good_Chan_inv
    | with_reducible apply good_Chan_invNil
    | (with_reducible exact good_mk (by with_reducible assumption))
    | (with_reducible exact goodD_mk (by with_reducible assumption))
    | split)
theorem good_Dev_plainWrite (d : Dev) (a : Nat) (v : Nat) (h_d : d.Good) : (Dev.plainWrite d a v).Good := by
  unfold Dev.plainWrite
  repeat' (first
    | with_reducible assumption
    | with_reducible apply good_Chan_wr
    | with_reducible apply good_Dev_wr
    | with_reducible apply good_Chan_relatch
    | with_reducible apply good_Dev_relatch
    | with_reducible apply good_foldl
    | with_reducible apply goodD_foldl
    | with_reducible apply goodM_foldl
    | with_reducible apply good_Chan_inv
    | with_reducible apply good_Chan_invNil
    | (with_reducible exact good_mk (by with_reducible assumption))
    | (with_reducible exact goodD_mk (by with_reducible assumption))
    | split)
theorem good_Dev_flowWrite (d : Dev) (v : Nat) (h_d : d.Good) : (Dev.flowWrite d v).Good := by
  unfold Dev.flowWrite
  repeat' (first
    | with_reducible assumption
    | with_reducible apply good_Dev_onFlow)
theorem good_Dev_queueWrite (d : Dev) (v : Nat) (h_d : d.Good) : (Dev.queueWrite d v).Good := by
  unfold Dev.queueWrite
  repeat' (first
    | with_reducible assumption
    | with_reducible apply good_Dev_onQueue)
theorem good_Dev_routeWrite (d : Dev) (v : Nat) (h_d : d.Good) : (Dev.routeWrite d v).Good := by
  unfold Dev.routeWrite
  repeat' (first
    | with_reducible assumption
    | with_reducible apply good_Dev_onHq
    | with_reducible apply good_foldl
    | with_reducible apply goodD_foldl
    | with_reducible apply goodM_foldl
    | with_reducible apply good_Chan_inv
    | with_reducible apply good_Chan_invNil
    | (with_reducible exact good_mk (by with_reducible assumption))
    | (with_reducible exact goodD_mk (by with_reducible assumption))
    | split
    | (intro _)
    | (extract_lets +onlyGivenNames x; first | (refine good_use (x := x) ?_ (fun hx => ?_)) | (refine good_use (x := x.1) ?_ (fun hx => ?_)) | (refine (have hx : Dev.Good x := ?_; ?_)) | (refine (have hx : Dev.Good x.1 := ?_; ?_)) | (refine (have hx : Mach.Good x := ?_; ?_)) | (refine (have hx : Mach.Good x.1 := ?_; ?_)) | (refine (have hx : Mach.Good x.m := ?_; ?_)) | clear_value x))
theorem good_Dev_canCtlWrite (d : Dev) (k : Nat) (v : Nat) (h_d : d.Good) : (Dev.canCtlWrite d k v).Good := by
  unfold Dev.canCtlWrite
  repeat' (first
    | with_reducible assumption
    | with_reducible apply good_Chan_plainWrite
    | with_reducible apply good_Dev_plainWrite
    | with_reducible apply good_Dev_canEnterInit
    | with_reducible apply good_Dev_canLeaveInit
    | with_reducible apply good_doCanCtlRecover
    | with_reducible apply good_foldl
    | with_reducible apply goodD_foldl
    | with_reducible apply goodM_foldl
    | with_reducible apply good_Chan_inv
    | with_reducible apply good_Chan_invNil
    | (with_reducible exact good_mk (by with_reducible assumption))
    | (with_reducible exact goodD_mk (by with_reducible assumption))
    | split
    | (intro _)
    | (extract_lets +onlyGivenNames x; first | (refine good_use (x := x) ?_ (fun hx => ?_)) | (refine good_use (x := x.1) ?_ (fun hx => ?_)) | (refine (have hx : Dev.Good x := ?_; ?_)) | (refine (have hx : Dev.Good x.1 := ?_; ?_)) | (refine (have hx : Mach.Good x := ?_; ?_)) | (refine (have hx : Mach.Good x.1 := ?_; ?_)) | (refine (have hx : Mach.Good x.m := ?_; ?_)) | clear_value x))
theorem good_Dev_moStatWrite (d : Dev) (k : Nat) (n : Nat) (v : Nat) (h_d : d.Good) : (Dev.moStatWrite d k n v).Good := by
  unfold Dev.moStatWrite
  repeat' (first
    | with_reducible assumption
    | with_reducible apply good_Chan_plainWrite
    | with_reducible apply good_Dev_plainWrite
    | with_reducible apply good_doMoStatPend
    | with_reducible apply good_doMoStatCancel
    | with_reducible apply good_foldl
    | with_reducible apply goodD_foldl
    | with_reducible apply goodM_foldl
    | with_reducible apply good_Chan_inv
    | with_reducible apply good_Chan_invNil
    | (with_reducible exact good_mk (by with_reducible assumption))
    | (with_reducible exact goodD_mk (by with_reducible assumption))
    | split)
theorem good_Dev_moCtlWrite (d : Dev) (k : Nat) (n : Nat) (v : Nat) (h_d : d.Good) : (Dev.moCtlWrite d k n v).Good := by
  unfold Dev.moCtlWrite
  repeat' (first
    | with_reducible assumption
    | with_reducible apply good_Chan_plainWrite
    | with_reducible apply good_Dev_plainWrite
    | with_reducible apply good_Dev_setE2e
    | with_reducible apply good_foldl
    | with_reducible apply goodD_foldl
    | with_reducible apply goodM_foldl
    | with_reducible apply good_Chan_inv
    | with_reducible apply good_Chan_invNil
    | (with_reducible exact good_mk (by with_reducible assumption))
    | (with_reducible exact goodD_mk (by with_reducible assumption))
    | split
    | (intro _)
    | (extract_lets +onlyGivenNames x; first | (refine good_use (x := x) ?_ (fun hx => ?_)) | (refine good_use (x := x.1) ?_ (fun hx => ?_)) | (refine (have hx : Dev.Good x := ?_; ?_)) | (refine (have hx : Dev.Good x.1 := ?_; ?_)) | (refine (have hx : Mach.Good x := ?_; ?_)) | (refine (have hx : Mach.Good x.1 := ?_; ?_)) | (refine (have hx : Mach.Good x.m := ?_; ?_)) | clear_value x))
theorem good_Dev_moWrite (d : Dev) (k : Nat) (n : Nat) (off : Nat) (v : Nat) (h_d : d.Good) : (Dev.moWrite d k n off v).Good := by
  unfold Dev.moWrite
  repeat' (first
    | with_reducible assumption
    | with_reducible apply good_Dev_moStatWrite
    | with_reducible apply good_Chan_p
    | with_reducible apply good_Dev_p
    | with_reducible apply good_Dev_moCtlWrite
    | with_reducible apply good_Chan_plainWrite
    | with_reducible apply good_Dev_plainWrite
    | with_reducible apply good_foldl
    | with_reducible apply goodD_foldl
    | with_reducible apply goodM_foldl
    | with_reducible apply good_Chan_inv
    | with_reducible apply good_Chan_invNil
    | (with_reducible exact good_mk (by with_reducible assumption))
    | (with_reducible exact goodD_mk (by with_reducible assumption))
    | split)
theorem good_Dev_canWrite (d : Dev) (k : Nat) (off : Nat) (v : Nat) (h_d : d.Good) : (Dev.canWrite d k off v).Good := by
  unfold Dev.canWrite
  repeat' (first
    | with_reducible assumption
    | with_reducible apply good_Dev_canCtlWrite
    | with_reducible apply good_Chan_plainWrite
    | with_reducible apply good_Dev_plainWrite
    | with_reducible apply good_Dev_moWrite
    | with_reducible apply good_foldl
    | with_reducible apply goodD_foldl
    | with_reducible apply goodM_foldl
    | with_reducible apply good_Chan_inv
    | with_reducible apply good_Chan_invNil
    | (with_reducible exact good_mk (by with_reducible assumption))
    | (with_reducible exact goodD_mk (by with_reducible assumption))
    | split)
theorem good_Dev_smcCvuWrite (d : Dev) (n : Nat) (off : Nat) (v : Nat) (h_d : d.Good) : (Dev.smcCvuWrite d n off v).Good := by
  unfold Dev.smcCvuWrite
  repeat' (first
    | with_reducible assumption
    | with_reducible apply good_Chan_cvuData
    | with_reducible apply good_Dev_cvuData
    | with_reducible apply good_Chan_wr
    | with_reducible apply good_Dev_wr
    | with_reducible apply good_Chan_when
    | with_reducible apply good_Dev_when
    | with_reducible apply good_Chan_cvuInit
    | with_reducible apply good_Dev_cvuInit
    | with_reducible apply good_Chan_cvuCheck
    | with_reducible apply good_Dev_cvuCheck
    | with_reducible apply good_Chan_plainWrite
    | with_reducible apply good_Dev_plainWrite
    | with_reducible apply good_foldl
    | with_reducible apply goodD_foldl
    | with_reducible apply goodM_foldl
    | with_reducible apply good_Chan_inv
    | with_reducible apply good_Chan_invNil
    | (with_reducible exact good_mk (by with_reducible assumption))
    | (with_reducible exact goodD_mk (by with_reducible assumption))
    | split
    | (intro _))
theorem good_Dev_write (d : Dev) (a : Nat) (v : Nat) (h_d : d.Good) : (Dev.write d a v).Good := by
  unfold Dev.write
  repeat' (first
    | with_reducible assumption
    | with_reducible apply good_Dev_flowWrite
    | with_reducible apply good_Dev_queueWrite
    | with_reducible apply good_Dev_routeWrite
    | with_reducible apply good_doHqAuditReq
    | with_reducible apply good_doHqAuditEpochReq
    | with_reducible apply good_Chan_plainWrite
    | with_reducible apply good_Dev_plainWrite
    | with_reducible apply good_Chan_when
    | with_reducible apply good_Dev_when
    | with_reducible apply good_doMdioGo
    | with_reducible apply good_doArcOpGo
    | with_reducible apply good_doSysWdogKick
    | with_reducible apply good_Dev_canWrite
    | with_reducible apply good_Dev_smcCvuWrite
    | with_reducible apply good_foldl
    | with_reducible apply goodD_foldl
    | with_reducible apply goodM_foldl
    | with_reducible apply good_Chan_inv
    | with_reducible apply good_Chan_invNil
    | (with_reducible exact good_mk (by with_reducible assumption))
    | (with_reducible exact goodD_mk (by with_reducible assumption))
    | split)
theorem good_Dev_romStop (d : Dev) (cause : Nat) (h_d : d.Good) : (Dev.romStop d cause).Good := by
  unfold Dev.romStop
  repeat' (first
    | with_reducible assumption
    | with_reducible apply good_Chan_p
    | with_reducible apply good_Dev_p
    | with_reducible apply good_Dev_cause
    | with_reducible apply good_Dev_onPwr)
theorem good_doRomBoot (tableOk : Bool) (readA : Bool) (readB : Bool) (d : Dev) (h_d : d.Good) : (doRomBoot tableOk readA readB d).Good := by
  unfold doRomBoot
  repeat' (first
    | with_reducible assumption
    | with_reducible apply good_Dev_romStop
    | with_reducible apply good_Dev_pick
    | (with_reducible apply good_Dev_pick_eq; case e_eq => with_reducible assumption)
    | with_reducible apply good_Chan_p
    | with_reducible apply good_Dev_p
    | with_reducible apply good_Dev_onPwr
    | with_reducible apply good_Dev_cause
    | with_reducible apply good_foldl
    | with_reducible apply goodD_foldl
    | with_reducible apply goodM_foldl
    | with_reducible apply good_Chan_inv
    | with_reducible apply good_Chan_invNil
    | (with_reducible exact good_mk (by with_reducible assumption))
    | (with_reducible exact goodD_mk (by with_reducible assumption))
    | split)
theorem good_Dev_format (d : Dev) (blocks : Nat) (bad : Nat) (h_d : d.Good) : (Dev.format d blocks bad).Good := by
  unfold Dev.format
  repeat' (first
    | with_reducible assumption
    | with_reducible apply good_Dev_onArch)
theorem good_Dev_arcStart (d : Dev) (b0 : Nat) (b1 : Nat) (bad : Nat) (h_d : d.Good) : (Dev.arcStart d b0 b1 bad).Good := by
  unfold Dev.arcStart
  repeat' (first
    | with_reducible assumption
    | with_reducible apply good_Chan_p
    | with_reducible apply good_Dev_p
    | with_reducible apply good_Dev_format
    | with_reducible apply good_foldl
    | with_reducible apply goodD_foldl
    | with_reducible apply goodM_foldl
    | with_reducible apply good_Chan_inv
    | with_reducible apply good_Chan_invNil
    | (with_reducible exact good_mk (by with_reducible assumption))
    | (with_reducible exact goodD_mk (by with_reducible assumption))
    | split)
theorem good_Dev_loadHost (d : Dev) (blk : Nat) (h_d : d.Good) : (Dev.loadHost d blk).Good := by
  unfold Dev.loadHost
  repeat' (first
    | with_reducible assumption
    | with_reducible apply good_Dev_write
    | with_reducible apply good_foldl
    | with_reducible apply goodD_foldl
    | with_reducible apply goodM_foldl
    | with_reducible apply good_Chan_inv
    | with_reducible apply good_Chan_invNil
    | (with_reducible exact good_mk (by with_reducible assumption))
    | (with_reducible exact goodD_mk (by with_reducible assumption))
    | split
    | (intro _))
theorem good_Dev_loadIdent (d : Dev) (h_d : d.Good) : (Dev.loadIdent d).Good := by
  unfold Dev.loadIdent
  repeat' (first
    | with_reducible assumption
    | with_reducible apply good_Dev_setIdent
    | with_reducible apply good_foldl
    | with_reducible apply goodD_foldl
    | with_reducible apply goodM_foldl
    | with_reducible apply good_Chan_inv
    | with_reducible apply good_Chan_invNil
    | (with_reducible exact good_mk (by with_reducible assumption))
    | (with_reducible exact goodD_mk (by with_reducible assumption))
    | split)
theorem good_Dev_loadCan (d : Dev) (k : Nat) (h_d : d.Good) : (Dev.loadCan d k).Good := by
  unfold Dev.loadCan
  repeat' (first
    | with_reducible assumption
    | with_reducible apply good_Dev_write
    | with_reducible apply good_Dev_canLeaveInit
    | with_reducible apply good_foldl
    | with_reducible apply goodD_foldl
    | with_reducible apply goodM_foldl
    | with_reducible apply good_Chan_inv
    | with_reducible apply good_Chan_invNil
    | (with_reducible exact good_mk (by with_reducible assumption))
    | (with_reducible exact goodD_mk (by with_reducible assumption))
    | split
    | (intro _))
theorem good_Dev_loadIso (d : Dev) (h_d : d.Good) : (Dev.loadIso d).Good := by
  unfold Dev.loadIso
  repeat' (first
    | with_reducible assumption
    | with_reducible apply good_foldl
    | with_reducible apply goodD_foldl
    | with_reducible apply goodM_foldl
    | with_reducible apply good_Chan_inv
    | with_reducible apply good_Chan_invNil
    | (with_reducible exact good_mk (by with_reducible assumption))
    | (with_reducible exact goodD_mk (by with_reducible assumption)))
theorem good_Dev_sagEnable (d : Dev) (h_d : d.Good) : (Dev.sagEnable d).Good := by
  unfold Dev.sagEnable
  repeat' (first
    | with_reducible assumption
    | with_reducible apply good_Chan_p
    | with_reducible apply good_Dev_p
    | with_reducible apply good_Chan_pb
    | with_reducible apply good_Dev_pb
    | with_reducible apply good_Dev_fireSag
    | with_reducible apply good_foldl
    | with_reducible apply goodD_foldl
    | with_reducible apply goodM_foldl
    | with_reducible apply good_Chan_inv
    | with_reducible apply good_Chan_invNil
    | (with_reducible exact good_mk (by with_reducible assumption))
    | (with_reducible exact goodD_mk (by with_reducible assumption))
    | split
    | (intro _)
    | (extract_lets +onlyGivenNames x; first | (refine good_use (x := x) ?_ (fun hx => ?_)) | (refine good_use (x := x.1) ?_ (fun hx => ?_)) | (refine (have hx : Dev.Good x := ?_; ?_)) | (refine (have hx : Dev.Good x.1 := ?_; ?_)) | (refine (have hx : Mach.Good x := ?_; ?_)) | (refine (have hx : Mach.Good x.1 := ?_; ?_)) | (refine (have hx : Mach.Good x.m := ?_; ?_)) | clear_value x))
theorem good_Dev_idKeyGen (d : Dev) (h_d : d.Good) : (Dev.idKeyGen d).Good := by
  unfold Dev.idKeyGen
  repeat' (first
    | with_reducible assumption
    | with_reducible apply good_Dev_onOtp
    | with_reducible apply good_Chan_took
    | with_reducible apply good_Dev_took
    | with_reducible apply good_foldl
    | with_reducible apply goodD_foldl
    | with_reducible apply goodM_foldl
    | with_reducible apply good_Chan_inv
    | with_reducible apply good_Chan_invNil
    | (with_reducible exact good_mk (by with_reducible assumption))
    | (with_reducible exact goodD_mk (by with_reducible assumption))
    | split)
theorem good_Dev_loadCounters (d : Dev) (h_d : d.Good) : (Dev.loadCounters d).Good := by
  unfold Dev.loadCounters
  repeat' (first
    | with_reducible assumption
    | with_reducible apply good_foldl
    | with_reducible apply goodD_foldl
    | with_reducible apply goodM_foldl
    | with_reducible apply good_Chan_inv
    | with_reducible apply good_Chan_invNil
    | (with_reducible exact good_mk (by with_reducible assumption))
    | (with_reducible exact goodD_mk (by with_reducible assumption)))
theorem good_Dev_colmoStart (d : Dev) (b0 : Nat) (b1 : Nat) (bad : Nat) (readA : Bool) (readB : Bool) (h_d : d.Good) : (Dev.colmoStart d b0 b1 bad readA readB).Good := by
  unfold Dev.colmoStart
  repeat' (first
    | with_reducible assumption
    | with_reducible apply good_Dev_onPwr
    | with_reducible apply good_Chan_p
    | with_reducible apply good_Dev_p
    | with_reducible apply good_Dev_arcStart
    | with_reducible apply good_Dev_idKeyGen
    | with_reducible apply good_Dev_loadChImage
    | with_reducible apply good_Dev_loadHost
    | with_reducible apply good_Dev_loadIdent
    | with_reducible apply good_Dev_loadCan
    | with_reducible apply good_Dev_loadIso
    | with_reducible apply good_Dev_onColmo
    | with_reducible apply good_Dev_sagEnable
    | with_reducible apply good_Dev_loadCounters)
theorem good_Dev_blkClear (d : Dev) (n : Nat) (h_d : d.Good) : (Dev.blkClear d n).Good := by
  unfold Dev.blkClear
  repeat' (first
    | with_reducible assumption
    | with_reducible apply good_Dev_keepRegs)
theorem good_Dev_blkReset (d : Dev) (blk : Nat) (h_d : d.Good) : (Dev.blkReset d blk).Good := by
  unfold Dev.blkReset
  repeat' (first
    | with_reducible assumption
    | with_reducible apply good_Dev_linkFall
    | with_reducible apply good_Dev_blkClear
    | with_reducible apply good_Dev_loadHost
    | with_reducible apply good_Dev_loadIdent
    | with_reducible apply good_Dev_loadCan
    | with_reducible apply good_Dev_loadIso
    | with_reducible apply good_Chan_wr
    | with_reducible apply good_Dev_wr
    | with_reducible apply good_foldl
    | with_reducible apply goodD_foldl
    | with_reducible apply goodM_foldl
    | with_reducible apply good_Chan_inv
    | with_reducible apply good_Chan_invNil
    | (with_reducible exact good_mk (by with_reducible assumption))
    | (with_reducible exact goodD_mk (by with_reducible assumption))
    | split
    | (intro _)
    | (extract_lets +onlyGivenNames x; first | (refine good_use (x := x) ?_ (fun hx => ?_)) | (refine good_use (x := x.1) ?_ (fun hx => ?_)) | (refine (have hx : Dev.Good x := ?_; ?_)) | (refine (have hx : Dev.Good x.1 := ?_; ?_)) | (refine (have hx : Mach.Good x := ?_; ?_)) | (refine (have hx : Mach.Good x.1 := ?_; ?_)) | (refine (have hx : Mach.Good x.m := ?_; ?_)) | clear_value x))
theorem good_doSysBlkRst (bits : Nat) (d : Dev) (h_d : d.Good) : (doSysBlkRst bits d).Good := by
  unfold doSysBlkRst
  repeat' (first
    | with_reducible assumption
    | with_reducible apply good_Chan_each
    | with_reducible apply good_Dev_each
    | with_reducible apply good_Dev_blkReset
    | with_reducible apply good_foldl
    | with_reducible apply goodD_foldl
    | with_reducible apply goodM_foldl
    | with_reducible apply good_Chan_inv
    | with_reducible apply good_Chan_invNil
    | (with_reducible exact good_mk (by with_reducible assumption))
    | (with_reducible exact goodD_mk (by with_reducible assumption))
    | split
    | (intro _))
theorem good_Dev_loadSet (d : Dev) (ch : Ch) (k : Kind) (readA : Bool) (readB : Bool) (h_d : d.Good) : (Dev.loadSet d ch k readA readB).1.Good := by
  unfold Dev.loadSet
  repeat' (first
    | with_reducible assumption
    | with_reducible apply good_Chan_p
    | with_reducible apply good_Dev_p
    | with_reducible apply good_Dev_sigFail
    | with_reducible apply good_Chan_when
    | with_reducible apply good_Dev_when
    | with_reducible apply good_Dev_onArch
    | with_reducible apply good_foldl
    | with_reducible apply goodD_foldl
    | with_reducible apply goodM_foldl
    | with_reducible apply good_Chan_inv
    | with_reducible apply good_Chan_invNil
    | (with_reducible exact good_mk (by with_reducible assumption))
    | (with_reducible exact goodD_mk (by with_reducible assumption))
    | split
    | (intro _))
theorem good_Dev_loadSet_eq {d : Dev} {ch : Ch} {k : Kind} {readA : Bool} {readB : Bool} {x1 : Dev} {x2 : Option Stored} (e_eq : Dev.loadSet d ch k readA readB = (x1, x2)) (h_d : d.Good) : (x1).Good := by
  have q := good_Dev_loadSet d ch k readA readB h_d
  rw [e_eq] at q
  exact q
theorem good_Dev_dropFrames (d : Dev) (f : Nat) (h_d : d.Good) : (Dev.dropFrames d f).Good := by
  unfold Dev.dropFrames
  repeat' (first
    | with_reducible assumption
    | with_reducible apply good_Dev_onQueue
    | with_reducible apply good_Dev_unsent
    | with_reducible apply good_foldl
    | with_reducible apply goodD_foldl
    | with_reducible apply goodM_foldl
    | with_reducible apply good_Chan_inv
    | with_reducible apply good_Chan_invNil
    | (with_reducible exact good_mk (by with_reducible assumption))
    | (with_reducible exact goodD_mk (by with_reducible assumption))
    | split
    | (intro _))
theorem good_Dev_setSeen (d : Dev) (ch : Ch) (l : List Nat) (h_d : d.Good) : (Dev.setSeen d ch l).Good := by
  unfold Dev.setSeen
  repeat' (first
    | with_reducible assumption
    | with_reducible apply good_Dev_onColmo)
theorem good_Dev_addSeen (d : Dev) (ch : Ch) (start : Nat) (count : Nat) (h_d : d.Good) : (Dev.addSeen d ch start count).Good := by
  unfold Dev.addSeen
  repeat' (first
    | with_reducible assumption
    | with_reducible apply good_Dev_setSeen)
theorem good_Dev_stageEnd (d : Dev) (h_d : d.Good) : (Dev.stageEnd d).Good := by
  unfold Dev.stageEnd
  repeat' (first
    | with_reducible assumption
    | with_reducible apply good_Dev_onColmo
    | with_reducible apply good_Dev_onArch
    | with_reducible apply good_Res_ok
    | with_reducible apply good_Dev_sigFail
    | with_reducible apply good_Dev_resolve
    | with_reducible apply good_foldl
    | with_reducible apply goodD_foldl
    | with_reducible apply goodM_foldl
    | with_reducible apply good_Chan_inv
    | with_reducible apply good_Chan_invNil
    | (with_reducible exact good_mk (by with_reducible assumption))
    | (with_reducible exact goodD_mk (by with_reducible assumption))
    | split)
theorem good_doArcFrameRx (fr : RxFrame) (d : Dev) (h_d : d.Good) : (doArcFrameRx fr d).Good := by
  unfold doArcFrameRx
  repeat' (first
    | with_reducible assumption
    | with_reducible apply good_Dev_rx
    | (with_reducible apply good_Dev_rx_eq; case e_eq => with_reducible assumption)
    | with_reducible apply good_Dev_stageData
    | with_reducible apply good_Dev_stageEnd
    | with_reducible apply good_Dev_freeFrames
    | with_reducible apply good_foldl
    | with_reducible apply goodD_foldl
    | with_reducible apply goodM_foldl
    | with_reducible apply good_Chan_inv
    | with_reducible apply good_Chan_invNil
    | (with_reducible exact good_mk (by with_reducible assumption))
    | (with_reducible exact goodD_mk (by with_reducible assumption))
    | split)
theorem good_Dev_partTaken (d : Dev) (p : Part) (k : Taking) (h_d : d.Good) : (Dev.partTaken d p k).Good := by
  unfold Dev.partTaken
  repeat' (first
    | with_reducible assumption
    | with_reducible apply good_Chan_p
    | with_reducible apply good_Dev_p
    | with_reducible apply good_Dev_onColmo
    | with_reducible apply good_Dev_refuse
    | with_reducible apply good_Dev_settle
    | with_reducible apply good_foldl
    | with_reducible apply goodD_foldl
    | with_reducible apply goodM_foldl
    | with_reducible apply good_Chan_inv
    | with_reducible apply good_Chan_invNil
    | (with_reducible exact good_mk (by with_reducible assumption))
    | (with_reducible exact goodD_mk (by with_reducible assumption))
    | split)


end Sys2Proof.Machine
end

