-- ==== Sys2Proof/Laws/GoodMach.lean ====
section
/-! SUPPORT. Laws/GoodMach.lean: the canonical form under the commands of the machine. -/

set_option Elab.async false

namespace Sys2Proof.Machine
open Sys2Proof

theorem goodM_same {m : Mach} {now : Tick} {holds : List HiHold} {rdata : Nat} (h : m.Good) : (Mach.mk now holds rdata m.smcMem m.dev m.a m.b).Good := h
theorem goodM_dev {m : Mach} {d : Dev} {now : Tick} {holds : List HiHold} {rdata : Nat} (h : m.Good) (hd : d.Good) : (Mach.mk now holds rdata m.smcMem d m.a m.b).Good := ⟨h.1, h.2.1, hd, h.2.2.2⟩
theorem goodM_chans {m : Mach} {a b : Chan} {now : Tick} {holds : List HiHold} {rdata : Nat} (h : m.Good) (ha : a.Good .a) (hb : b.Good .b) : (Mach.mk now holds rdata m.smcMem m.dev a b).Good := ⟨ha, hb, h.2.2⟩
theorem good_projDev {m : Mach} (h : m.Good) : m.dev.Good := h.2.2.1
theorem good_projA {m : Mach} (h : m.Good) : m.a.Good .a := h.1
theorem good_projB {m : Mach} (h : m.Good) : m.b.Good .b := h.2.1
theorem good_resMk {m : Mach} {s : Slot} {a : After} {st : St} (h : m.Good) : (Res.mk m s a st).m.Good := h
theorem good_tookMk {m : Mach} {s : Option Slot} {b : Option (Nat × List Nat)} (h : m.Good) : (Took.mk m s b).m.Good := h
theorem good_Mach_takeUp (m : Mach) (h_m : m.Good) : (Mach.takeUp m).Good := h_m
theorem good_Mach_ask (m : Mach) (ch : Ch) (op : ChOp) (f : Chan → Chan) (h_m : m.Good) (h_f : ∀ x : Chan, x.Good ch → (f x).Good ch) : (Mach.ask m ch op f).m.Good := by
  unfold Mach.ask
  have hc : (f { m.chan ch with now := m.now }).Good ch := h_f _ (good_Mach_chan m ch h_m)
  have key : ∀ l, (m.setChan ch { f { m.chan ch with now := m.now } with answers := l }).Good := fun l => good_Mach_setChan _ _ _ h_m hc
  dsimp only
  split
  · exact key _
  · split <;> exact key _

theorem goodM_smcMem {m : Mach} {now : Tick} {holds : List HiHold} {rdata i v : Nat} (h : m.Good) : (Mach.mk now holds rdata (RegMap.set m.smcMem 0 i v) m.dev m.a m.b).Good :=
  ⟨h.1, h.2.1, h.2.2.1, wf_set (fun _ => 0) _ _ _ h.2.2.2⟩
theorem good_doTcmEccRead (ch : Ch) (word : Nat) (double : Bool) (m : Mach) (h_m : m.Good) : (doTcmEccRead ch word double m).Good := by
  unfold doTcmEccRead
  repeat' (first
    | with_reducible assumption
    | with_reducible apply good_Mach_chan
    | with_reducible apply good_Mach_onChan
    | with_reducible apply good_Chan_tcmEcc
    | with_reducible apply good_foldl
    | with_reducible apply goodD_foldl
    | with_reducible apply goodM_foldl
    | with_reducible apply good_projDev
    | with_reducible apply good_projA
    | with_reducible apply good_projB
    | (with_reducible exact goodM_smcMem (by with_reducible assumption))
    | with_reducible apply good_Chan_inv
    | with_reducible apply good_Chan_invNil
    | (with_reducible exact good_mk (by with_reducible assumption))
    | (with_reducible exact goodD_mk (by with_reducible assumption))
    | split
    | (intro _)
    | (extract_lets +onlyGivenNames x; first | (refine good_use (x := x) ?_ (fun hx => ?_)) | (refine good_use (x := x.1) ?_ (fun hx => ?_)) | (refine (have hx : Dev.Good x := ?_; ?_)) | (refine (have hx : Dev.Good x.1 := ?_; ?_)) | (refine (have hx : Mach.Good x := ?_; ?_)) | (refine (have hx : Mach.Good x.1 := ?_; ?_)) | (refine (have hx : Mach.Good x.m := ?_; ?_)) | (refine (have hx : Chan.Good ch x := ?_; ?_)) | clear_value x)
    | (with_reducible apply good_resMk; first | with_reducible assumption | with_reducible apply good_Mach_chan | with_reducible apply good_Mach_onChan | with_reducible apply good_Chan_tcmEcc)
    | (with_reducible apply good_tookMk; first | with_reducible assumption | with_reducible apply good_Mach_chan | with_reducible apply good_Mach_onChan | with_reducible apply good_Chan_tcmEcc)
    | (with_reducible apply goodM_same; first | with_reducible assumption | with_reducible apply good_Mach_chan | with_reducible apply good_Mach_onChan | with_reducible apply good_Chan_tcmEcc))
theorem good_Mach_chanReset (m : Mach) (ch : Ch) (h_m : m.Good) : (Mach.chanReset m ch).Good := by
  unfold Mach.chanReset
  repeat' (first
    | with_reducible assumption
    | with_reducible apply good_Mach_onChan
    | with_reducible apply good_Chan_toOff
    | with_reducible apply good_Dev_dropMail
    | with_reducible apply good_Mach_chan
    | with_reducible apply good_Dev_endWaits
    | with_reducible apply good_Chan_p
    | with_reducible apply good_Dev_p
    | with_reducible apply good_Dev_onArch
    | with_reducible apply good_foldl
    | with_reducible apply goodD_foldl
    | with_reducible apply goodM_foldl
    | with_reducible apply good_projDev
    | with_reducible apply good_projA
    | with_reducible apply good_projB
    | (with_reducible exact goodM_smcMem (by with_reducible assumption))
    | with_reducible apply good_Chan_inv
    | with_reducible apply good_Chan_invNil
    | (with_reducible exact good_mk (by with_reducible assumption))
    | (with_reducible exact goodD_mk (by with_reducible assumption))
    | split
    | (intro _)
    | (extract_lets +onlyGivenNames x; first | (refine good_use (x := x) ?_ (fun hx => ?_)) | (refine good_use (x := x.1) ?_ (fun hx => ?_)) | (refine (have hx : Dev.Good x := ?_; ?_)) | (refine (have hx : Dev.Good x.1 := ?_; ?_)) | (refine (have hx : Mach.Good x := ?_; ?_)) | (refine (have hx : Mach.Good x.1 := ?_; ?_)) | (refine (have hx : Mach.Good x.m := ?_; ?_)) | (refine (have hx : Chan.Good ch x := ?_; ?_)) | clear_value x)
    | (with_reducible apply good_resMk; first | with_reducible assumption | with_reducible apply good_Mach_onChan | with_reducible apply good_Chan_toOff | with_reducible apply good_Dev_dropMail | with_reducible apply good_Mach_chan | with_reducible apply good_Dev_endWaits | with_reducible apply good_Chan_p | with_reducible apply good_Dev_p | with_reducible apply good_Dev_onArch)
    | (with_reducible apply good_tookMk; first | with_reducible assumption | with_reducible apply good_Mach_onChan | with_reducible apply good_Chan_toOff | with_reducible apply good_Dev_dropMail | with_reducible apply good_Mach_chan | with_reducible apply good_Dev_endWaits | with_reducible apply good_Chan_p | with_reducible apply good_Dev_p | with_reducible apply good_Dev_onArch)
    | (with_reducible apply goodM_same; first | with_reducible assumption | with_reducible apply good_Mach_onChan | with_reducible apply good_Chan_toOff | with_reducible apply good_Dev_dropMail | with_reducible apply good_Mach_chan | with_reducible apply good_Dev_endWaits | with_reducible apply good_Chan_p | with_reducible apply good_Dev_p | with_reducible apply good_Dev_onArch)
    | (with_reducible refine goodM_dev ?_ ?_; first | with_reducible assumption | with_reducible apply good_Mach_onChan | with_reducible apply good_Chan_toOff | with_reducible apply good_Dev_dropMail | with_reducible apply good_Mach_chan | with_reducible apply good_Dev_endWaits | with_reducible apply good_Chan_p | with_reducible apply good_Dev_p | with_reducible apply good_Dev_onArch))
theorem good_Mach_bothOff (m : Mach) (k : ResetKind) (h_m : m.Good) : (Mach.bothOff m k).Good := by
  unfold Mach.bothOff
  repeat' (first
    | with_reducible assumption
    | with_reducible apply good_Chan_toOff
    | with_reducible apply good_Mach_onChan
    | with_reducible apply good_foldl
    | with_reducible apply goodD_foldl
    | with_reducible apply goodM_foldl
    | with_reducible apply good_projDev
    | with_reducible apply good_projA
    | with_reducible apply good_projB
    | (with_reducible exact goodM_smcMem (by with_reducible assumption))
    | with_reducible apply good_Chan_inv
    | with_reducible apply good_Chan_invNil
    | (with_reducible exact good_mk (by with_reducible assumption))
    | (with_reducible exact goodD_mk (by with_reducible assumption))
    | split
    | (intro _)
    | (extract_lets +onlyGivenNames x; first | (refine good_use (x := x) ?_ (fun hx => ?_)) | (refine good_use (x := x.1) ?_ (fun hx => ?_)) | (refine (have hx : Dev.Good x := ?_; ?_)) | (refine (have hx : Dev.Good x.1 := ?_; ?_)) | (refine (have hx : Mach.Good x := ?_; ?_)) | (refine (have hx : Mach.Good x.1 := ?_; ?_)) | (refine (have hx : Mach.Good x.m := ?_; ?_)) | clear_value x))
theorem good_Mach_supplyReset (m : Mach) (minMv : Nat) (bits : List Nat) (h_m : m.Good) : (Mach.supplyReset m minMv bits).Good := by
  unfold Mach.supplyReset
  repeat' (first
    | with_reducible assumption
    | with_reducible apply good_Mach_bothOff
    | with_reducible apply good_Mach_onDev
    | with_reducible apply good_Dev_supplyReset
    | with_reducible apply good_foldl
    | with_reducible apply goodD_foldl
    | with_reducible apply goodM_foldl
    | with_reducible apply good_projDev
    | with_reducible apply good_projA
    | with_reducible apply good_projB
    | (with_reducible exact goodM_smcMem (by with_reducible assumption))
    | with_reducible apply good_Chan_inv
    | with_reducible apply good_Chan_invNil
    | (with_reducible exact good_mk (by with_reducible assumption))
    | (with_reducible exact goodD_mk (by with_reducible assumption))
    | split
    | (intro _)
    | (extract_lets +onlyGivenNames x; first | (refine good_use (x := x) ?_ (fun hx => ?_)) | (refine good_use (x := x.1) ?_ (fun hx => ?_)) | (refine (have hx : Dev.Good x := ?_; ?_)) | (refine (have hx : Dev.Good x.1 := ?_; ?_)) | (refine (have hx : Mach.Good x := ?_; ?_)) | (refine (have hx : Mach.Good x.1 := ?_; ?_)) | (refine (have hx : Mach.Good x.m := ?_; ?_)) | clear_value x)
    | (with_reducible apply good_resMk; first | with_reducible assumption | with_reducible apply good_Mach_bothOff | with_reducible apply good_Mach_onDev | with_reducible apply good_Dev_supplyReset)
    | (with_reducible apply good_tookMk; first | with_reducible assumption | with_reducible apply good_Mach_bothOff | with_reducible apply good_Mach_onDev | with_reducible apply good_Dev_supplyReset)
    | (with_reducible apply goodM_same; first | with_reducible assumption | with_reducible apply good_Mach_bothOff | with_reducible apply good_Mach_onDev | with_reducible apply good_Dev_supplyReset))
theorem good_Mach_pinReset (m : Mach) (minMv : Nat) (h_m : m.Good) : (Mach.pinReset m minMv).Good := by
  unfold Mach.pinReset
  repeat' (first
    | with_reducible assumption
    | with_reducible apply good_Mach_bothOff
    | with_reducible apply good_Mach_onDev
    | with_reducible apply good_Dev_supplyReset
    | with_reducible apply good_Mach_supplyReset
    | with_reducible apply good_foldl
    | with_reducible apply goodD_foldl
    | with_reducible apply goodM_foldl
    | with_reducible apply good_projDev
    | with_reducible apply good_projA
    | with_reducible apply good_projB
    | (with_reducible exact goodM_smcMem (by with_reducible assumption))
    | with_reducible apply good_Chan_inv
    | with_reducible apply good_Chan_invNil
    | (with_reducible exact good_mk (by with_reducible assumption))
    | (with_reducible exact goodD_mk (by with_reducible assumption))
    | split
    | (intro _)
    | (extract_lets +onlyGivenNames x; first | (refine good_use (x := x) ?_ (fun hx => ?_)) | (refine good_use (x := x.1) ?_ (fun hx => ?_)) | (refine (have hx : Dev.Good x := ?_; ?_)) | (refine (have hx : Dev.Good x.1 := ?_; ?_)) | (refine (have hx : Mach.Good x := ?_; ?_)) | (refine (have hx : Mach.Good x.1 := ?_; ?_)) | (refine (have hx : Mach.Good x.m := ?_; ?_)) | clear_value x)
    | (with_reducible apply good_resMk; first | with_reducible assumption | with_reducible apply good_Mach_bothOff | with_reducible apply good_Mach_onDev | with_reducible apply good_Dev_supplyReset | with_reducible apply good_Mach_supplyReset)
    | (with_reducible apply good_tookMk; first | with_reducible assumption | with_reducible apply good_Mach_bothOff | with_reducible apply good_Mach_onDev | with_reducible apply good_Dev_supplyReset | with_reducible apply good_Mach_supplyReset)
    | (with_reducible apply goodM_same; first | with_reducible assumption | with_reducible apply good_Mach_bothOff | with_reducible apply good_Mach_onDev | with_reducible apply good_Dev_supplyReset | with_reducible apply good_Mach_supplyReset))
theorem good_Mach_powerOnReset (m : Mach) (h_m : m.Good) : (Mach.powerOnReset m).Good := by
  unfold Mach.powerOnReset
  repeat' (first
    | with_reducible assumption
    | with_reducible apply good_Mach_bothOff
    | with_reducible apply good_Mach_onDev
    | with_reducible apply good_Dev_powerOnReset
    | with_reducible apply good_foldl
    | with_reducible apply goodD_foldl
    | with_reducible apply goodM_foldl
    | with_reducible apply good_projDev
    | with_reducible apply good_projA
    | with_reducible apply good_projB
    | (with_reducible exact goodM_smcMem (by with_reducible assumption))
    | with_reducible apply good_Chan_inv
    | with_reducible apply good_Chan_invNil
    | (with_reducible exact good_mk (by with_reducible assumption))
    | (with_reducible exact goodD_mk (by with_reducible assumption))
    | split
    | (intro _)
    | (extract_lets +onlyGivenNames x; first | (refine good_use (x := x) ?_ (fun hx => ?_)) | (refine good_use (x := x.1) ?_ (fun hx => ?_)) | (refine (have hx : Dev.Good x := ?_; ?_)) | (refine (have hx : Dev.Good x.1 := ?_; ?_)) | (refine (have hx : Mach.Good x := ?_; ?_)) | (refine (have hx : Mach.Good x.1 := ?_; ?_)) | (refine (have hx : Mach.Good x.m := ?_; ?_)) | clear_value x)
    | (with_reducible apply good_resMk; first | with_reducible assumption | with_reducible apply good_Mach_bothOff | with_reducible apply good_Mach_onDev | with_reducible apply good_Dev_powerOnReset)
    | (with_reducible apply good_tookMk; first | with_reducible assumption | with_reducible apply good_Mach_bothOff | with_reducible apply good_Mach_onDev | with_reducible apply good_Dev_powerOnReset)
    | (with_reducible apply goodM_same; first | with_reducible assumption | with_reducible apply good_Mach_bothOff | with_reducible apply good_Mach_onDev | with_reducible apply good_Dev_powerOnReset))
theorem good_Mach_lowPower (m : Mach) (st : Nat) (h_m : m.Good) : (Mach.lowPower m st).Good := by
  unfold Mach.lowPower
  repeat' (first
    | with_reducible assumption
    | with_reducible apply good_Mach_wake
    | with_reducible apply good_Mach_bothOff
    | with_reducible apply good_Dev_clearSmc
    | with_reducible apply good_Chan_p
    | with_reducible apply good_Dev_p
    | with_reducible apply good_Dev_supplyReset
    | with_reducible apply good_Mach_supplyReset
    | with_reducible apply good_foldl
    | with_reducible apply goodD_foldl
    | with_reducible apply goodM_foldl
    | with_reducible apply good_projDev
    | with_reducible apply good_projA
    | with_reducible apply good_projB
    | (with_reducible exact goodM_smcMem (by with_reducible assumption))
    | with_reducible apply good_Chan_inv
    | with_reducible apply good_Chan_invNil
    | (with_reducible exact good_mk (by with_reducible assumption))
    | (with_reducible exact goodD_mk (by with_reducible assumption))
    | split
    | (intro _)
    | (extract_lets +onlyGivenNames x; first | (refine good_use (x := x) ?_ (fun hx => ?_)) | (refine good_use (x := x.1) ?_ (fun hx => ?_)) | (refine (have hx : Dev.Good x := ?_; ?_)) | (refine (have hx : Dev.Good x.1 := ?_; ?_)) | (refine (have hx : Mach.Good x := ?_; ?_)) | (refine (have hx : Mach.Good x.1 := ?_; ?_)) | (refine (have hx : Mach.Good x.m := ?_; ?_)) | clear_value x)
    | (with_reducible apply good_resMk; first | with_reducible assumption | with_reducible apply good_Mach_wake | with_reducible apply good_Mach_bothOff | with_reducible apply good_Dev_clearSmc | with_reducible apply good_Chan_p | with_reducible apply good_Dev_p | with_reducible apply good_Dev_supplyReset | with_reducible apply good_Mach_supplyReset)
    | (with_reducible apply good_tookMk; first | with_reducible assumption | with_reducible apply good_Mach_wake | with_reducible apply good_Mach_bothOff | with_reducible apply good_Dev_clearSmc | with_reducible apply good_Chan_p | with_reducible apply good_Dev_p | with_reducible apply good_Dev_supplyReset | with_reducible apply good_Mach_supplyReset)
    | (with_reducible apply goodM_same; first | with_reducible assumption | with_reducible apply good_Mach_wake | with_reducible apply good_Mach_bothOff | with_reducible apply good_Dev_clearSmc | with_reducible apply good_Chan_p | with_reducible apply good_Dev_p | with_reducible apply good_Dev_supplyReset | with_reducible apply good_Mach_supplyReset)
    | (with_reducible refine goodM_dev ?_ ?_; first | with_reducible assumption | with_reducible apply good_Mach_wake | with_reducible apply good_Mach_bothOff | with_reducible apply good_Dev_clearSmc | with_reducible apply good_Chan_p | with_reducible apply good_Dev_p | with_reducible apply good_Dev_supplyReset | with_reducible apply good_Mach_supplyReset))
theorem good_Mach_writeCounters (m : Mach) (h_m : m.Good) : (Mach.writeCounters m).Good := by
  unfold Mach.writeCounters
  repeat' (first
    | with_reducible assumption
    | with_reducible apply good_Mach_takeUp
    | with_reducible apply good_Mach_onDev
    | with_reducible apply good_Dev_onArch
    | with_reducible apply good_foldl
    | with_reducible apply goodD_foldl
    | with_reducible apply goodM_foldl
    | with_reducible apply good_projDev
    | with_reducible apply good_projA
    | with_reducible apply good_projB
    | (with_reducible exact goodM_smcMem (by with_reducible assumption))
    | with_reducible apply good_Chan_inv
    | with_reducible apply good_Chan_invNil
    | (with_reducible exact good_mk (by with_reducible assumption))
    | (with_reducible exact goodD_mk (by with_reducible assumption))
    | split
    | (intro _))
theorem good_Mach_beginWrite (m : Mach) (ch : Ch) (h_m : m.Good) : (Mach.beginWrite m ch).Good := by
  unfold Mach.beginWrite
  repeat' (first
    | with_reducible assumption
    | with_reducible apply good_Mach_chan
    | with_reducible apply good_Mach_onDev
    | with_reducible apply good_Dev_onArch
    | with_reducible apply good_foldl
    | with_reducible apply goodD_foldl
    | with_reducible apply goodM_foldl
    | with_reducible apply good_projDev
    | with_reducible apply good_projA
    | with_reducible apply good_projB
    | (with_reducible exact goodM_smcMem (by with_reducible assumption))
    | with_reducible apply good_Chan_inv
    | with_reducible apply good_Chan_invNil
    | (with_reducible exact good_mk (by with_reducible assumption))
    | (with_reducible exact goodD_mk (by with_reducible assumption))
    | split
    | (intro _))
theorem good_doSnapshotFreeze (ch : Ch) (m : Mach) (h_m : m.Good) : (doSnapshotFreeze ch m).Good := by
  unfold doSnapshotFreeze
  repeat' (first
    | with_reducible assumption
    | with_reducible apply good_Mach_onChan
    | with_reducible apply good_live
    | with_reducible apply good_Chan_ringFreeze
    | with_reducible apply good_Mach_beginWrite
    | with_reducible apply good_foldl
    | with_reducible apply goodD_foldl
    | with_reducible apply goodM_foldl
    | with_reducible apply good_projDev
    | with_reducible apply good_projA
    | with_reducible apply good_projB
    | (with_reducible exact goodM_smcMem (by with_reducible assumption))
    | with_reducible apply good_Chan_inv
    | with_reducible apply good_Chan_invNil
    | (with_reducible exact good_mk (by with_reducible assumption))
    | (with_reducible exact goodD_mk (by with_reducible assumption))
    | split
    | (intro _))
theorem good_doSnapshotWriteEnd (ch : Ch) (m : Mach) (h_m : m.Good) : (doSnapshotWriteEnd ch m).Good := by
  unfold doSnapshotWriteEnd
  repeat' (first
    | with_reducible assumption
    | with_reducible apply good_Mach_chan
    | with_reducible apply good_Mach_onDev
    | with_reducible apply good_Dev_onArch
    | with_reducible apply good_Dev_record
    | with_reducible apply good_Chan_evt
    | with_reducible apply good_Mach_onChan
    | with_reducible apply good_Chan_ringRelease
    | with_reducible apply good_Mach_beginWrite
    | with_reducible apply good_foldl
    | with_reducible apply goodD_foldl
    | with_reducible apply goodM_foldl
    | with_reducible apply good_projDev
    | with_reducible apply good_projA
    | with_reducible apply good_projB
    | (with_reducible exact goodM_smcMem (by with_reducible assumption))
    | with_reducible apply good_Chan_inv
    | with_reducible apply good_Chan_invNil
    | (with_reducible exact good_mk (by with_reducible assumption))
    | (with_reducible exact goodD_mk (by with_reducible assumption))
    | split
    | (intro _)
    | (extract_lets +onlyGivenNames x; first | (refine good_use (x := x) ?_ (fun hx => ?_)) | (refine good_use (x := x.1) ?_ (fun hx => ?_)) | (refine (have hx : Dev.Good x := ?_; ?_)) | (refine (have hx : Dev.Good x.1 := ?_; ?_)) | (refine (have hx : Mach.Good x := ?_; ?_)) | (refine (have hx : Mach.Good x.1 := ?_; ?_)) | (refine (have hx : Mach.Good x.m := ?_; ?_)) | (refine (have hx : Chan.Good ch x := ?_; ?_)) | clear_value x))
theorem good_doCounterWriteTimer (m : Mach) (h_m : m.Good) : (doCounterWriteTimer m).Good := by
  unfold doCounterWriteTimer
  repeat' (first
    | with_reducible assumption
    | with_reducible apply good_Mach_writeCounters
    | with_reducible apply good_foldl
    | with_reducible apply goodD_foldl
    | with_reducible apply goodM_foldl
    | with_reducible apply good_projDev
    | with_reducible apply good_projA
    | with_reducible apply good_projB
    | (with_reducible exact goodM_smcMem (by with_reducible assumption))
    | with_reducible apply good_Chan_inv
    | with_reducible apply good_Chan_invNil
    | (with_reducible exact good_mk (by with_reducible assumption))
    | (with_reducible exact goodD_mk (by with_reducible assumption))
    | split)
theorem good_Mach_stuck (m : Mach) (h_m : m.Good) : (Mach.stuck m).Good := by
  unfold Mach.stuck
  repeat' (first
    | with_reducible assumption
    | with_reducible apply good_Mach_bothOff
    | with_reducible apply good_Dev_clearSmc
    | with_reducible apply good_Dev_onPwr
    | with_reducible apply good_Chan_p
    | with_reducible apply good_Dev_p
    | with_reducible apply good_Dev_onBist
    | with_reducible apply good_foldl
    | with_reducible apply goodD_foldl
    | with_reducible apply goodM_foldl
    | with_reducible apply good_projDev
    | with_reducible apply good_projA
    | with_reducible apply good_projB
    | (with_reducible exact goodM_smcMem (by with_reducible assumption))
    | with_reducible apply good_Chan_inv
    | with_reducible apply good_Chan_invNil
    | (with_reducible exact good_mk (by with_reducible assumption))
    | (with_reducible exact goodD_mk (by with_reducible assumption))
    | split
    | (intro _)
    | (extract_lets +onlyGivenNames x; first | (refine good_use (x := x) ?_ (fun hx => ?_)) | (refine good_use (x := x.1) ?_ (fun hx => ?_)) | (refine (have hx : Dev.Good x := ?_; ?_)) | (refine (have hx : Dev.Good x.1 := ?_; ?_)) | (refine (have hx : Mach.Good x := ?_; ?_)) | (refine (have hx : Mach.Good x.1 := ?_; ?_)) | (refine (have hx : Mach.Good x.m := ?_; ?_)) | clear_value x)
    | (with_reducible apply good_resMk; first | with_reducible assumption | with_reducible apply good_Mach_bothOff | with_reducible apply good_Dev_clearSmc | with_reducible apply good_Dev_onPwr | with_reducible apply good_Chan_p | with_reducible apply good_Dev_p | with_reducible apply good_Dev_onBist)
    | (with_reducible apply good_tookMk; first | with_reducible assumption | with_reducible apply good_Mach_bothOff | with_reducible apply good_Dev_clearSmc | with_reducible apply good_Dev_onPwr | with_reducible apply good_Chan_p | with_reducible apply good_Dev_p | with_reducible apply good_Dev_onBist)
    | (with_reducible apply goodM_same; first | with_reducible assumption | with_reducible apply good_Mach_bothOff | with_reducible apply good_Dev_clearSmc | with_reducible apply good_Dev_onPwr | with_reducible apply good_Chan_p | with_reducible apply good_Dev_p | with_reducible apply good_Dev_onBist)
    | (with_reducible refine goodM_dev ?_ ?_; first | with_reducible assumption | with_reducible apply good_Mach_bothOff | with_reducible apply good_Dev_clearSmc | with_reducible apply good_Dev_onPwr | with_reducible apply good_Chan_p | with_reducible apply good_Dev_p | with_reducible apply good_Dev_onBist))
theorem good_Mach_startupEnd (m : Mach) (p : Nat) (valid : Bool) (fail : Bool) (rows : List (Nat × Nat)) (h_m : m.Good) : (Mach.startupEnd m p valid fail rows).Good := by
  unfold Mach.startupEnd
  repeat' (first
    | with_reducible assumption
    | with_reducible apply good_Chan_p
    | with_reducible apply good_Dev_p
    | with_reducible apply good_Mach_onDev
    | with_reducible apply good_Dev_onBist
    | with_reducible apply good_Dev_verdict
    | (with_reducible apply good_Dev_verdict_eq; case e_eq => with_reducible assumption)
    | with_reducible apply good_Res_fail
    | with_reducible apply good_Dev_showRepairs
    | with_reducible apply good_Mach_stuck
    | with_reducible apply good_Dev_bistDone
    | with_reducible apply good_Dev_smcTry
    | with_reducible apply good_foldl
    | with_reducible apply goodD_foldl
    | with_reducible apply goodM_foldl
    | with_reducible apply good_projDev
    | with_reducible apply good_projA
    | with_reducible apply good_projB
    | (with_reducible exact goodM_smcMem (by with_reducible assumption))
    | with_reducible apply good_Chan_inv
    | with_reducible apply good_Chan_invNil
    | (with_reducible exact good_mk (by with_reducible assumption))
    | (with_reducible exact goodD_mk (by with_reducible assumption))
    | split
    | (intro _)
    | (extract_lets +onlyGivenNames x; first | (refine good_use (x := x) ?_ (fun hx => ?_)) | (refine good_use (x := x.1) ?_ (fun hx => ?_)) | (refine (have hx : Dev.Good x := ?_; ?_)) | (refine (have hx : Dev.Good x.1 := ?_; ?_)) | (refine (have hx : Mach.Good x := ?_; ?_)) | (refine (have hx : Mach.Good x.1 := ?_; ?_)) | (refine (have hx : Mach.Good x.m := ?_; ?_)) | clear_value x)
    | (with_reducible apply good_resMk; first | with_reducible assumption | with_reducible apply good_Chan_p | with_reducible apply good_Dev_p | with_reducible apply good_Mach_onDev | with_reducible apply good_Dev_onBist | with_reducible apply good_Dev_verdict | with_reducible apply good_Res_fail | with_reducible apply good_Dev_showRepairs | with_reducible apply good_Mach_stuck | with_reducible apply good_Dev_bistDone | with_reducible apply good_Dev_smcTry)
    | (with_reducible apply good_tookMk; first | with_reducible assumption | with_reducible apply good_Chan_p | with_reducible apply good_Dev_p | with_reducible apply good_Mach_onDev | with_reducible apply good_Dev_onBist | with_reducible apply good_Dev_verdict | with_reducible apply good_Res_fail | with_reducible apply good_Dev_showRepairs | with_reducible apply good_Mach_stuck | with_reducible apply good_Dev_bistDone | with_reducible apply good_Dev_smcTry)
    | (with_reducible apply goodM_same; first | with_reducible assumption | with_reducible apply good_Chan_p | with_reducible apply good_Dev_p | with_reducible apply good_Mach_onDev | with_reducible apply good_Dev_onBist | with_reducible apply good_Dev_verdict | with_reducible apply good_Res_fail | with_reducible apply good_Dev_showRepairs | with_reducible apply good_Mach_stuck | with_reducible apply good_Dev_bistDone | with_reducible apply good_Dev_smcTry)
    | (with_reducible refine goodM_dev ?_ ?_; first | with_reducible assumption | with_reducible apply good_Chan_p | with_reducible apply good_Dev_p | with_reducible apply good_Mach_onDev | with_reducible apply good_Dev_onBist | with_reducible apply good_Dev_verdict | with_reducible apply good_Res_fail | with_reducible apply good_Dev_showRepairs | with_reducible apply good_Mach_stuck | with_reducible apply good_Dev_bistDone | with_reducible apply good_Dev_smcTry))
theorem good_doBistTestEnd (target : Nat) (clk : Bool) (fail : Bool) (rows : List (Nat × Nat)) (m : Mach) (h_m : m.Good) : (doBistTestEnd target clk fail rows m).Good := by
  unfold doBistTestEnd
  repeat' (first
    | with_reducible assumption
    | with_reducible apply good_Mach_stuck
    | with_reducible apply good_Mach_startupEnd
    | with_reducible apply good_Res_fail
    | with_reducible apply good_Mach_onDev
    | with_reducible apply good_Dev_undercoatEnd
    | with_reducible apply good_Dev_requestEnd
    | with_reducible apply good_foldl
    | with_reducible apply goodD_foldl
    | with_reducible apply goodM_foldl
    | with_reducible apply good_projDev
    | with_reducible apply good_projA
    | with_reducible apply good_projB
    | (with_reducible exact goodM_smcMem (by with_reducible assumption))
    | with_reducible apply good_Chan_inv
    | with_reducible apply good_Chan_invNil
    | (with_reducible exact good_mk (by with_reducible assumption))
    | (with_reducible exact goodD_mk (by with_reducible assumption))
    | split
    | (intro _)
    | (extract_lets +onlyGivenNames x; first | (refine good_use (x := x) ?_ (fun hx => ?_)) | (refine good_use (x := x.1) ?_ (fun hx => ?_)) | (refine (have hx : Dev.Good x := ?_; ?_)) | (refine (have hx : Dev.Good x.1 := ?_; ?_)) | (refine (have hx : Mach.Good x := ?_; ?_)) | (refine (have hx : Mach.Good x.1 := ?_; ?_)) | (refine (have hx : Mach.Good x.m := ?_; ?_)) | clear_value x))
theorem good_Mach_bistWrite (m : Mach) (p : Nat) (test : Nat) (start : Bool) (fuse : Bool) (h_m : m.Good) : (Mach.bistWrite m p test start fuse).Good := by
  unfold Mach.bistWrite
  repeat' (first
    | with_reducible assumption
    | with_reducible apply good_Dev_fuse
    | with_reducible apply good_Chan_p
    | with_reducible apply good_Dev_p
    | with_reducible apply good_Mach_onDev
    | with_reducible apply good_Mach_chanReset
    | with_reducible apply good_Dev_onBist
    | with_reducible apply good_foldl
    | with_reducible apply goodD_foldl
    | with_reducible apply goodM_foldl
    | with_reducible apply good_projDev
    | with_reducible apply good_projA
    | with_reducible apply good_projB
    | (with_reducible exact goodM_smcMem (by with_reducible assumption))
    | with_reducible apply good_Chan_inv
    | with_reducible apply good_Chan_invNil
    | (with_reducible exact good_mk (by with_reducible assumption))
    | (with_reducible exact goodD_mk (by with_reducible assumption))
    | split
    | (intro _)
    | (extract_lets +onlyGivenNames x; first | (refine good_use (x := x) ?_ (fun hx => ?_)) | (refine good_use (x := x.1) ?_ (fun hx => ?_)) | (refine (have hx : Dev.Good x := ?_; ?_)) | (refine (have hx : Dev.Good x.1 := ?_; ?_)) | (refine (have hx : Mach.Good x := ?_; ?_)) | (refine (have hx : Mach.Good x.1 := ?_; ?_)) | (refine (have hx : Mach.Good x.m := ?_; ?_)) | clear_value x))
theorem good_Mach_shutAccept (m : Mach) (st : Nat) (h_m : m.Good) : (Mach.shutAccept m st).Good := by
  unfold Mach.shutAccept
  repeat' (first
    | with_reducible assumption
    | with_reducible apply good_Mach_onChan
    | with_reducible apply good_live
    | with_reducible apply good_Chan_when
    | with_reducible apply good_Dev_when
    | with_reducible apply good_Chan_skimStop
    | with_reducible apply good_Mach_onDev
    | with_reducible apply good_Dev_onPwr
    | with_reducible apply good_Chan_p
    | with_reducible apply good_Dev_p
    | with_reducible apply good_Dev_onBist
    | with_reducible apply good_foldl
    | with_reducible apply goodD_foldl
    | with_reducible apply goodM_foldl
    | with_reducible apply good_projDev
    | with_reducible apply good_projA
    | with_reducible apply good_projB
    | (with_reducible exact goodM_smcMem (by with_reducible assumption))
    | with_reducible apply good_Chan_inv
    | with_reducible apply good_Chan_invNil
    | (with_reducible exact good_mk (by with_reducible assumption))
    | (with_reducible exact goodD_mk (by with_reducible assumption))
    | split
    | (intro _))
theorem good_doUndercoatStart (m : Mach) (h_m : m.Good) : (doUndercoatStart m).Good := by
  unfold doUndercoatStart
  repeat' (first
    | with_reducible assumption
    | with_reducible apply good_Mach_writeCounters
    | with_reducible apply good_Mach_lowPower
    | with_reducible apply good_Mach_chan
    | with_reducible apply good_Chan_p
    | with_reducible apply good_Dev_p
    | with_reducible apply good_Mach_onDev
    | with_reducible apply good_Dev_send
    | with_reducible apply good_Mach_chanReset
    | with_reducible apply good_Dev_onBist
    | with_reducible apply good_Chan_when
    | with_reducible apply good_Dev_when
    | with_reducible apply good_Dev_onPwr
    | with_reducible apply good_foldl
    | with_reducible apply goodD_foldl
    | with_reducible apply goodM_foldl
    | with_reducible apply good_projDev
    | with_reducible apply good_projA
    | with_reducible apply good_projB
    | (with_reducible exact goodM_smcMem (by with_reducible assumption))
    | with_reducible apply good_Chan_inv
    | with_reducible apply good_Chan_invNil
    | (with_reducible exact good_mk (by with_reducible assumption))
    | (with_reducible exact goodD_mk (by with_reducible assumption))
    | split
    | (intro _)
    | (extract_lets +onlyGivenNames x; first | (refine good_use (x := x) ?_ (fun hx => ?_)) | (refine good_use (x := x.1) ?_ (fun hx => ?_)) | (refine (have hx : Dev.Good x := ?_; ?_)) | (refine (have hx : Dev.Good x.1 := ?_; ?_)) | (refine (have hx : Mach.Good x := ?_; ?_)) | (refine (have hx : Mach.Good x.1 := ?_; ?_)) | (refine (have hx : Mach.Good x.m := ?_; ?_)) | clear_value x))
theorem good_doUndercoatRecordWrite (m : Mach) (h_m : m.Good) : (doUndercoatRecordWrite m).Good := by
  unfold doUndercoatRecordWrite
  repeat' (first
    | with_reducible assumption
    | with_reducible apply good_Mach_onDev
    | with_reducible apply good_Mach_writeCounters
    | with_reducible apply good_Dev_onBist
    | with_reducible apply good_Mach_lowPower
    | with_reducible apply good_foldl
    | with_reducible apply goodD_foldl
    | with_reducible apply goodM_foldl
    | with_reducible apply good_projDev
    | with_reducible apply good_projA
    | with_reducible apply good_projB
    | (with_reducible exact goodM_smcMem (by with_reducible assumption))
    | with_reducible apply good_Chan_inv
    | with_reducible apply good_Chan_invNil
    | (with_reducible exact good_mk (by with_reducible assumption))
    | (with_reducible exact goodD_mk (by with_reducible assumption))
    | split
    | (intro _)
    | (extract_lets +onlyGivenNames x; first | (refine good_use (x := x) ?_ (fun hx => ?_)) | (refine good_use (x := x.1) ?_ (fun hx => ?_)) | (refine (have hx : Dev.Good x := ?_; ?_)) | (refine (have hx : Dev.Good x.1 := ?_; ?_)) | (refine (have hx : Mach.Good x := ?_; ?_)) | (refine (have hx : Mach.Good x.1 := ?_; ?_)) | (refine (have hx : Mach.Good x.m := ?_; ?_)) | clear_value x))
theorem good_doVinRise (mv : Nat) (m : Mach) (h_m : m.Good) : (doVinRise mv m).Good := by
  unfold doVinRise
  repeat' (first
    | with_reducible assumption
    | with_reducible apply good_Dev_powerOnReset
    | with_reducible apply good_Mach_powerOnReset
    | with_reducible apply good_Mach_onDev
    | with_reducible apply good_Dev_vin
    | with_reducible apply good_Dev_onPwr
    | with_reducible apply good_Chan_p
    | with_reducible apply good_Dev_p
    | with_reducible apply good_foldl
    | with_reducible apply goodD_foldl
    | with_reducible apply goodM_foldl
    | with_reducible apply good_projDev
    | with_reducible apply good_projA
    | with_reducible apply good_projB
    | (with_reducible exact goodM_smcMem (by with_reducible assumption))
    | with_reducible apply good_Chan_inv
    | with_reducible apply good_Chan_invNil
    | (with_reducible exact good_mk (by with_reducible assumption))
    | (with_reducible exact goodD_mk (by with_reducible assumption))
    | split
    | (intro _)
    | (extract_lets +onlyGivenNames x; first | (refine good_use (x := x) ?_ (fun hx => ?_)) | (refine good_use (x := x.1) ?_ (fun hx => ?_)) | (refine (have hx : Dev.Good x := ?_; ?_)) | (refine (have hx : Dev.Good x.1 := ?_; ?_)) | (refine (have hx : Mach.Good x := ?_; ?_)) | (refine (have hx : Mach.Good x.1 := ?_; ?_)) | (refine (have hx : Mach.Good x.m := ?_; ?_)) | clear_value x))
theorem good_doVinBelowVinRst (minMv : Nat) (m : Mach) (h_m : m.Good) : (doVinBelowVinRst minMv m).Good := by
  unfold doVinBelowVinRst
  repeat' (first
    | with_reducible assumption
    | with_reducible apply good_Mach_onDev
    | with_reducible apply good_Dev_vin
    | with_reducible apply good_Dev_onPwr
    | with_reducible apply good_Chan_p
    | with_reducible apply good_Dev_p
    | with_reducible apply good_Dev_supplyReset
    | with_reducible apply good_Mach_supplyReset
    | with_reducible apply good_foldl
    | with_reducible apply goodD_foldl
    | with_reducible apply goodM_foldl
    | with_reducible apply good_projDev
    | with_reducible apply good_projA
    | with_reducible apply good_projB
    | (with_reducible exact goodM_smcMem (by with_reducible assumption))
    | with_reducible apply good_Chan_inv
    | with_reducible apply good_Chan_invNil
    | (with_reducible exact good_mk (by with_reducible assumption))
    | (with_reducible exact goodD_mk (by with_reducible assumption))
    | split
    | (intro _))
theorem good_doPdAonLoss (m : Mach) (h_m : m.Good) : (doPdAonLoss m).Good := by
  unfold doPdAonLoss
  repeat' (first
    | with_reducible assumption
    | with_reducible apply good_Dev_powerOnReset
    | with_reducible apply good_Mach_powerOnReset
    | with_reducible apply good_Mach_onDev
    | with_reducible apply good_Dev_onPwr
    | with_reducible apply good_Chan_p
    | with_reducible apply good_Dev_p
    | with_reducible apply good_foldl
    | with_reducible apply goodD_foldl
    | with_reducible apply goodM_foldl
    | with_reducible apply good_projDev
    | with_reducible apply good_projA
    | with_reducible apply good_projB
    | (with_reducible exact goodM_smcMem (by with_reducible assumption))
    | with_reducible apply good_Chan_inv
    | with_reducible apply good_Chan_invNil
    | (with_reducible exact good_mk (by with_reducible assumption))
    | (with_reducible exact goodD_mk (by with_reducible assumption))
    | split
    | (intro _))
theorem good_doRailOutOfWindow (rail : Nat) (m : Mach) (h_m : m.Good) : (doRailOutOfWindow rail m).Good := by
  unfold doRailOutOfWindow
  repeat' (first
    | with_reducible assumption
    | with_reducible apply good_Mach_onDev
    | with_reducible apply good_Dev_onPwr
    | with_reducible apply good_Chan_p
    | with_reducible apply good_Dev_p
    | with_reducible apply good_Dev_powerOnReset
    | with_reducible apply good_Mach_powerOnReset
    | with_reducible apply good_Dev_supplyReset
    | with_reducible apply good_Mach_supplyReset
    | with_reducible apply good_Dev_smcReset
    | with_reducible apply good_Mach_chanReset
    | with_reducible apply good_foldl
    | with_reducible apply goodD_foldl
    | with_reducible apply goodM_foldl
    | with_reducible apply good_projDev
    | with_reducible apply good_projA
    | with_reducible apply good_projB
    | (with_reducible exact goodM_smcMem (by with_reducible assumption))
    | with_reducible apply good_Chan_inv
    | with_reducible apply good_Chan_invNil
    | (with_reducible exact good_mk (by with_reducible assumption))
    | (with_reducible exact goodD_mk (by with_reducible assumption))
    | split
    | (intro _)
    | (extract_lets +onlyGivenNames x; first | (refine good_use (x := x) ?_ (fun hx => ?_)) | (refine good_use (x := x.1) ?_ (fun hx => ?_)) | (refine (have hx : Dev.Good x := ?_; ?_)) | (refine (have hx : Dev.Good x.1 := ?_; ?_)) | (refine (have hx : Mach.Good x := ?_; ?_)) | (refine (have hx : Mach.Good x.1 := ?_; ?_)) | (refine (have hx : Mach.Good x.m := ?_; ?_)) | clear_value x))
theorem good_doNresetPin (minMv : Nat) (m : Mach) (h_m : m.Good) : (doNresetPin minMv m).Good := by
  unfold doNresetPin
  repeat' (first
    | with_reducible assumption
    | with_reducible apply good_Dev_supplyReset
    | with_reducible apply good_Mach_supplyReset
    | with_reducible apply good_Mach_pinReset
    | with_reducible apply good_foldl
    | with_reducible apply goodD_foldl
    | with_reducible apply goodM_foldl
    | with_reducible apply good_projDev
    | with_reducible apply good_projA
    | with_reducible apply good_projB
    | (with_reducible exact goodM_smcMem (by with_reducible assumption))
    | with_reducible apply good_Chan_inv
    | with_reducible apply good_Chan_invNil
    | (with_reducible exact good_mk (by with_reducible assumption))
    | (with_reducible exact goodD_mk (by with_reducible assumption))
    | split)
theorem good_Mach_wake (m : Mach) (cause : Nat) (h_m : m.Good) : (Mach.wake m cause).Good := by
  unfold Mach.wake
  repeat' (first
    | with_reducible assumption
    | with_reducible apply good_Dev_supplyReset
    | with_reducible apply good_Mach_supplyReset
    | with_reducible apply good_Dev_cause
    | with_reducible apply good_Mach_onDev
    | with_reducible apply good_Chan_p
    | with_reducible apply good_Dev_p
    | with_reducible apply good_foldl
    | with_reducible apply goodD_foldl
    | with_reducible apply goodM_foldl
    | with_reducible apply good_projDev
    | with_reducible apply good_projA
    | with_reducible apply good_projB
    | (with_reducible exact goodM_smcMem (by with_reducible assumption))
    | with_reducible apply good_Chan_inv
    | with_reducible apply good_Chan_invNil
    | (with_reducible exact good_mk (by with_reducible assumption))
    | (with_reducible exact goodD_mk (by with_reducible assumption))
    | split
    | (intro _))
theorem good_doNwake (m : Mach) (h_m : m.Good) : (doNwake m).Good := by
  unfold doNwake
  repeat' (first
    | with_reducible assumption
    | with_reducible apply good_Mach_wake
    | with_reducible apply good_Mach_onDev
    | with_reducible apply good_Dev_takeSeq
    | with_reducible apply good_Dev_onPwr
    | with_reducible apply good_Chan_p
    | with_reducible apply good_Dev_p
    | with_reducible apply good_foldl
    | with_reducible apply goodD_foldl
    | with_reducible apply goodM_foldl
    | with_reducible apply good_projDev
    | with_reducible apply good_projA
    | with_reducible apply good_projB
    | (with_reducible exact goodM_smcMem (by with_reducible assumption))
    | with_reducible apply good_Chan_inv
    | with_reducible apply good_Chan_invNil
    | (with_reducible exact good_mk (by with_reducible assumption))
    | (with_reducible exact goodD_mk (by with_reducible assumption))
    | split
    | (intro _)
    | (extract_lets +onlyGivenNames x; first | (refine good_use (x := x) ?_ (fun hx => ?_)) | (refine good_use (x := x.1) ?_ (fun hx => ?_)) | (refine (have hx : Dev.Good x := ?_; ?_)) | (refine (have hx : Dev.Good x.1 := ?_; ?_)) | (refine (have hx : Mach.Good x := ?_; ?_)) | (refine (have hx : Mach.Good x.1 := ?_; ?_)) | (refine (have hx : Mach.Good x.m := ?_; ?_)) | clear_value x))
theorem good_doAonWakeTimer (m : Mach) (h_m : m.Good) : (doAonWakeTimer m).Good := by
  unfold doAonWakeTimer
  repeat' (first
    | with_reducible assumption
    | with_reducible apply good_Mach_wake
    | with_reducible apply good_foldl
    | with_reducible apply goodD_foldl
    | with_reducible apply goodM_foldl
    | with_reducible apply good_projDev
    | with_reducible apply good_projA
    | with_reducible apply good_projB
    | (with_reducible exact goodM_smcMem (by with_reducible assumption))
    | with_reducible apply good_Chan_inv
    | with_reducible apply good_Chan_invNil
    | (with_reducible exact good_mk (by with_reducible assumption))
    | (with_reducible exact goodD_mk (by with_reducible assumption))
    | split)
theorem good_doLpGo (m : Mach) (h_m : m.Good) : (doLpGo m).Good := by
  unfold doLpGo
  repeat' (first
    | with_reducible assumption
    | with_reducible apply good_Mach_lowPower
    | with_reducible apply good_foldl
    | with_reducible apply goodD_foldl
    | with_reducible apply goodM_foldl
    | with_reducible apply good_projDev
    | with_reducible apply good_projA
    | with_reducible apply good_projB
    | (with_reducible exact goodM_smcMem (by with_reducible assumption))
    | with_reducible apply good_Chan_inv
    | with_reducible apply good_Chan_invNil
    | (with_reducible exact good_mk (by with_reducible assumption))
    | (with_reducible exact goodD_mk (by with_reducible assumption))
    | split
    | (intro _)
    | (extract_lets +onlyGivenNames x; first | (refine good_use (x := x) ?_ (fun hx => ?_)) | (refine good_use (x := x.1) ?_ (fun hx => ?_)) | (refine (have hx : Dev.Good x := ?_; ?_)) | (refine (have hx : Dev.Good x.1 := ?_; ?_)) | (refine (have hx : Mach.Good x := ?_; ?_)) | (refine (have hx : Mach.Good x.1 := ?_; ?_)) | (refine (have hx : Mach.Good x.m := ?_; ?_)) | clear_value x))
theorem good_doChannelReset (ch : Ch) (m : Mach) (h_m : m.Good) : (doChannelReset ch m).Good := by
  unfold doChannelReset
  repeat' (first
    | with_reducible assumption
    | with_reducible apply good_Mach_chanReset)
theorem good_doTimebaseExchange (ch : Ch) (ok : Bool) (err : Int) (drift : Int) (m : Mach) (h_m : m.Good) : (doTimebaseExchange ch ok err drift m).Good := by
  unfold doTimebaseExchange
  repeat' (first
    | with_reducible assumption
    | with_reducible apply good_Res_ok
    | with_reducible apply good_Mach_onChan
    | with_reducible apply good_live
    | with_reducible apply good_Chan_exchanged
    | with_reducible apply good_Chan_exchangeMissed
    | with_reducible apply good_foldl
    | with_reducible apply goodD_foldl
    | with_reducible apply goodM_foldl
    | with_reducible apply good_projDev
    | with_reducible apply good_projA
    | with_reducible apply good_projB
    | (with_reducible exact goodM_smcMem (by with_reducible assumption))
    | with_reducible apply good_Chan_inv
    | with_reducible apply good_Chan_invNil
    | (with_reducible exact good_mk (by with_reducible assumption))
    | (with_reducible exact goodD_mk (by with_reducible assumption))
    | split
    | (intro _)
    | (extract_lets +onlyGivenNames x; first | (refine good_use (x := x) ?_ (fun hx => ?_)) | (refine good_use (x := x.1) ?_ (fun hx => ?_)) | (refine (have hx : Dev.Good x := ?_; ?_)) | (refine (have hx : Dev.Good x.1 := ?_; ?_)) | (refine (have hx : Mach.Good x := ?_; ?_)) | (refine (have hx : Mach.Good x.1 := ?_; ?_)) | (refine (have hx : Mach.Good x.m := ?_; ?_)) | (refine (have hx : Chan.Good ch x := ?_; ?_)) | clear_value x))
theorem good_doPeerS4Forward (ch : Ch) (m : Mach) (h_m : m.Good) : (doPeerS4Forward ch m).Good := by
  unfold doPeerS4Forward
  repeat' (first
    | with_reducible assumption
    | with_reducible apply good_Mach_chan
    | with_reducible apply good_Mach_onChan
    | with_reducible apply good_Chan_onDust
    | with_reducible apply good_live
    | with_reducible apply good_Chan_pulse
    | with_reducible apply good_Dev_pulse
    | with_reducible apply good_foldl
    | with_reducible apply goodD_foldl
    | with_reducible apply goodM_foldl
    | with_reducible apply good_projDev
    | with_reducible apply good_projA
    | with_reducible apply good_projB
    | (with_reducible exact goodM_smcMem (by with_reducible assumption))
    | with_reducible apply good_Chan_inv
    | with_reducible apply good_Chan_invNil
    | (with_reducible exact good_mk (by with_reducible assumption))
    | (with_reducible exact goodD_mk (by with_reducible assumption))
    | split
    | (intro _))
theorem good_doPlumbTestOf (pair : Option Ch) (own : Bool) (other : Bool) (m : Mach) (h_m : m.Good) : (doPlumbTestOf pair own other m).Good := by
  unfold doPlumbTestOf
  repeat' (first
    | with_reducible assumption
    | with_reducible apply good_Mach_onDev
    | with_reducible apply good_Dev_plumbTest
    | with_reducible apply good_Mach_onChan
    | with_reducible apply good_live
    | with_reducible apply good_doPlumbTest
    | with_reducible apply good_Chan_skimNow
    | with_reducible apply good_foldl
    | with_reducible apply goodD_foldl
    | with_reducible apply goodM_foldl
    | with_reducible apply good_projDev
    | with_reducible apply good_projA
    | with_reducible apply good_projB
    | (with_reducible exact goodM_smcMem (by with_reducible assumption))
    | with_reducible apply good_Chan_inv
    | with_reducible apply good_Chan_invNil
    | (with_reducible exact good_mk (by with_reducible assumption))
    | (with_reducible exact goodD_mk (by with_reducible assumption))
    | split
    | (intro _))
theorem good_doDebugHalt (pair : Option Ch) (kind : Nat) (m : Mach) (h_m : m.Good) : (doDebugHalt pair kind m).Good := by
  unfold doDebugHalt
  repeat' (first
    | with_reducible assumption
    | with_reducible apply good_Mach_onDev
    | with_reducible apply good_Chan_debugHalt
    | with_reducible apply good_Dev_debugHalt
    | with_reducible apply good_Mach_onChan
    | with_reducible apply good_live
    | with_reducible apply good_foldl
    | with_reducible apply goodD_foldl
    | with_reducible apply goodM_foldl
    | with_reducible apply good_projDev
    | with_reducible apply good_projA
    | with_reducible apply good_projB
    | (with_reducible exact goodM_smcMem (by with_reducible assumption))
    | with_reducible apply good_Chan_inv
    | with_reducible apply good_Chan_invNil
    | (with_reducible exact good_mk (by with_reducible assumption))
    | (with_reducible exact goodD_mk (by with_reducible assumption))
    | split
    | (intro _))
theorem good_doDebugResume (pair : Option Ch) (m : Mach) (h_m : m.Good) : (doDebugResume pair m).Good := by
  unfold doDebugResume
  repeat' (first
    | with_reducible assumption
    | with_reducible apply good_Mach_onDev
    | with_reducible apply good_Chan_p
    | with_reducible apply good_Dev_p
    | with_reducible apply good_Mach_onChan
    | with_reducible apply good_Chan_fwdLost
    | with_reducible apply good_live
    | with_reducible apply good_foldl
    | with_reducible apply goodD_foldl
    | with_reducible apply goodM_foldl
    | with_reducible apply good_projDev
    | with_reducible apply good_projA
    | with_reducible apply good_projB
    | (with_reducible exact goodM_smcMem (by with_reducible assumption))
    | with_reducible apply good_Chan_inv
    | with_reducible apply good_Chan_invNil
    | (with_reducible exact good_mk (by with_reducible assumption))
    | (with_reducible exact goodD_mk (by with_reducible assumption))
    | split
    | (intro _))
theorem good_Mach_collectCh (m : Mach) (ch : Ch) (h_m : m.Good) : (Mach.collectCh m ch).Good := by
  unfold Mach.collectCh
  repeat' (first
    | with_reducible assumption
    | with_reducible apply good_Mach_chan
    | with_reducible apply good_Dev_opDone
    | with_reducible apply good_Dev_sendEvents
    | with_reducible apply good_Dev_addTlm
    | with_reducible apply good_Mach_onChan
    | with_reducible apply good_Chan_reportDrops
    | with_reducible apply good_foldl
    | with_reducible apply goodD_foldl
    | with_reducible apply goodM_foldl
    | with_reducible apply good_projDev
    | with_reducible apply good_projA
    | with_reducible apply good_projB
    | (with_reducible exact goodM_smcMem (by with_reducible assumption))
    | with_reducible apply good_Chan_inv
    | with_reducible apply good_Chan_invNil
    | (with_reducible exact good_mk (by with_reducible assumption))
    | (with_reducible exact goodD_mk (by with_reducible assumption))
    | split
    | (intro _)
    | (extract_lets +onlyGivenNames x; first | (refine good_use (x := x) ?_ (fun hx => ?_)) | (refine good_use (x := x.1) ?_ (fun hx => ?_)) | (refine (have hx : Dev.Good x := ?_; ?_)) | (refine (have hx : Dev.Good x.1 := ?_; ?_)) | (refine (have hx : Mach.Good x := ?_; ?_)) | (refine (have hx : Mach.Good x.1 := ?_; ?_)) | (refine (have hx : Mach.Good x.m := ?_; ?_)) | (refine (have hx : Chan.Good ch x := ?_; ?_)) | clear_value x)
    | (with_reducible apply good_resMk; first | with_reducible assumption | with_reducible apply good_Mach_chan | with_reducible apply good_Dev_opDone | with_reducible apply good_Dev_sendEvents | with_reducible apply good_Dev_addTlm | with_reducible apply good_Mach_onChan | with_reducible apply good_Chan_reportDrops)
    | (with_reducible apply good_tookMk; first | with_reducible assumption | with_reducible apply good_Mach_chan | with_reducible apply good_Dev_opDone | with_reducible apply good_Dev_sendEvents | with_reducible apply good_Dev_addTlm | with_reducible apply good_Mach_onChan | with_reducible apply good_Chan_reportDrops)
    | (with_reducible apply goodM_same; first | with_reducible assumption | with_reducible apply good_Mach_chan | with_reducible apply good_Dev_opDone | with_reducible apply good_Dev_sendEvents | with_reducible apply good_Dev_addTlm | with_reducible apply good_Mach_onChan | with_reducible apply good_Chan_reportDrops)
    | (with_reducible refine goodM_dev ?_ ?_; first | with_reducible assumption | with_reducible apply good_Mach_chan | with_reducible apply good_Dev_opDone | with_reducible apply good_Dev_sendEvents | with_reducible apply good_Dev_addTlm | with_reducible apply good_Mach_onChan | with_reducible apply good_Chan_reportDrops))
theorem good_Mach_shutTry (m : Mach) (h_m : m.Good) : (Mach.shutTry m).Good := by
  unfold Mach.shutTry
  repeat' (first
    | with_reducible assumption
    | with_reducible apply good_Mach_shutAccept
    | with_reducible apply good_Mach_onDev
    | with_reducible apply good_Dev_resolve
    | with_reducible apply good_foldl
    | with_reducible apply goodD_foldl
    | with_reducible apply goodM_foldl
    | with_reducible apply good_projDev
    | with_reducible apply good_projA
    | with_reducible apply good_projB
    | (with_reducible exact goodM_smcMem (by with_reducible assumption))
    | with_reducible apply good_Chan_inv
    | with_reducible apply good_Chan_invNil
    | (with_reducible exact good_mk (by with_reducible assumption))
    | (with_reducible exact goodD_mk (by with_reducible assumption))
    | split
    | (intro _))
theorem good_Mach_collect (m : Mach) (h_m : m.Good) : (Mach.collect m).Good := by
  unfold Mach.collect
  repeat' (first
    | with_reducible assumption
    | with_reducible apply good_Mach_collectCh
    | with_reducible apply good_Mach_onDev
    | with_reducible apply good_Dev_collectDev
    | with_reducible apply good_Dev_bistAnswer
    | with_reducible apply good_Mach_shutTry
    | with_reducible apply good_foldl
    | with_reducible apply goodD_foldl
    | with_reducible apply goodM_foldl
    | with_reducible apply good_projDev
    | with_reducible apply good_projA
    | with_reducible apply good_projB
    | (with_reducible exact goodM_smcMem (by with_reducible assumption))
    | with_reducible apply good_Chan_inv
    | with_reducible apply good_Chan_invNil
    | (with_reducible exact good_mk (by with_reducible assumption))
    | (with_reducible exact goodD_mk (by with_reducible assumption))
    | split
    | (intro _))
theorem good_Mach_perform (m : Mach) (a : After) (h_m : m.Good) : (Mach.perform m a).Good := by
  unfold Mach.perform
  repeat' (first
    | with_reducible assumption
    | with_reducible apply good_Mach_onDev
    | with_reducible apply good_Dev_onColmo
    | with_reducible apply good_Mach_chanReset
    | with_reducible apply good_Dev_loadChImage
    | with_reducible apply good_Dev_smcReset
    | with_reducible apply good_Dev_setIdent
    | with_reducible apply good_Dev_enterLife
    | with_reducible apply good_foldl
    | with_reducible apply goodD_foldl
    | with_reducible apply goodM_foldl
    | with_reducible apply good_projDev
    | with_reducible apply good_projA
    | with_reducible apply good_projB
    | (with_reducible exact goodM_smcMem (by with_reducible assumption))
    | with_reducible apply good_Chan_inv
    | with_reducible apply good_Chan_invNil
    | (with_reducible exact good_mk (by with_reducible assumption))
    | (with_reducible exact goodD_mk (by with_reducible assumption))
    | split
    | (intro _))
theorem good_Mach_runDue (m : Mach) (h_m : m.Good) : (Mach.runDue m).Good := by
  unfold Mach.runDue
  repeat' (first
    | with_reducible assumption
    | with_reducible apply good_Mach_perform
    | with_reducible apply good_Mach_onDev
    | with_reducible apply good_Dev_onHq
    | with_reducible apply good_foldl
    | with_reducible apply goodD_foldl
    | with_reducible apply goodM_foldl
    | with_reducible apply good_projDev
    | with_reducible apply good_projA
    | with_reducible apply good_projB
    | (with_reducible exact goodM_smcMem (by with_reducible assumption))
    | with_reducible apply good_Chan_inv
    | with_reducible apply good_Chan_invNil
    | (with_reducible exact good_mk (by with_reducible assumption))
    | (with_reducible exact goodD_mk (by with_reducible assumption))
    | split
    | (intro _))
theorem good_Dev_sendCtlHead_eq (d d1 : Dev) (e : d.sendCtlHead = some d1) (h : d.Good) : d1.Good := by
  unfold Dev.sendCtlHead at e
  dsimp only at e
  split at e
  · cases e
  · injection e with e
    rw [← e]
    exact good_Dev_emitFrame _ _ _ _ _ (good_Dev_onHq _ _ h)
theorem good_doFrameEgress (m0 : Mach) (h_m0 : m0.Good) : (doFrameEgress m0).Good := by
  unfold doFrameEgress
  have h1 : ((m0.collect.runDue).onDev (fun d => if d.up then d.arcFeed else d)).Good := by
    refine good_Mach_onDev _ _ (good_Mach_runDue _ (good_Mach_collect _ h_m0)) (fun d h => ?_)
    split
    · exact good_Dev_arcFeed _ h
    · exact h
  extract_lets m d
  have h2 : m.Good := h1
  clear_value m
  have h3 : d.Good := h2.2.2.1
  clear_value d
  split
  · exact h2
  · split
    · exact goodM_dev h2 (good_Dev_sendCtlHead_eq _ _ ‹_› h3)
    · split
      · exact h2
      · split
        · exact h2
        · exact good_Mach_perform _ _ (goodM_dev h2 (good_Dev_sendHead _ _ _ h3))
theorem good_doNtfVectorFire (v : Nat) (m : Mach) (h_m : m.Good) : (doNtfVectorFire v m).Good := by
  unfold doNtfVectorFire
  repeat' (first
    | with_reducible assumption
    | with_reducible apply good_Mach_vectorDue
    | (with_reducible apply good_Mach_vectorDue_eq; case e_eq => with_reducible assumption)
    | with_reducible apply good_Chan_when
    | with_reducible apply good_Dev_when
    | with_reducible apply good_Dev_fire
    | with_reducible apply good_foldl
    | with_reducible apply goodD_foldl
    | with_reducible apply goodM_foldl
    | with_reducible apply good_projDev
    | with_reducible apply good_projA
    | with_reducible apply good_projB
    | (with_reducible exact goodM_smcMem (by with_reducible assumption))
    | with_reducible apply good_Chan_inv
    | with_reducible apply good_Chan_invNil
    | (with_reducible exact good_mk (by with_reducible assumption))
    | (with_reducible exact goodD_mk (by with_reducible assumption))
    | split
    | (intro _)
    | (extract_lets +onlyGivenNames x; first | (refine good_use (x := x) ?_ (fun hx => ?_)) | (refine good_use (x := x.1) ?_ (fun hx => ?_)) | (refine (have hx : Dev.Good x := ?_; ?_)) | (refine (have hx : Dev.Good x.1 := ?_; ?_)) | (refine (have hx : Mach.Good x := ?_; ?_)) | (refine (have hx : Mach.Good x.1 := ?_; ?_)) | (refine (have hx : Mach.Good x.m := ?_; ?_)) | clear_value x)
    | (with_reducible apply good_resMk; first | with_reducible assumption | with_reducible apply good_Mach_vectorDue | with_reducible apply good_Chan_when | with_reducible apply good_Dev_when | with_reducible apply good_Dev_fire)
    | (with_reducible apply good_tookMk; first | with_reducible assumption | with_reducible apply good_Mach_vectorDue | with_reducible apply good_Chan_when | with_reducible apply good_Dev_when | with_reducible apply good_Dev_fire)
    | (with_reducible apply goodM_same; first | with_reducible assumption | with_reducible apply good_Mach_vectorDue | with_reducible apply good_Chan_when | with_reducible apply good_Dev_when | with_reducible apply good_Dev_fire)
    | (with_reducible refine goodM_dev ?_ ?_; first | with_reducible assumption | with_reducible apply good_Mach_vectorDue | with_reducible apply good_Chan_when | with_reducible apply good_Dev_when | with_reducible apply good_Dev_fire))
theorem good_doColmoStart (b0 : Nat) (b1 : Nat) (bad : Nat) (readA : Bool) (readB : Bool) (m : Mach) (h_m : m.Good) : (doColmoStart b0 b1 bad readA readB m).Good := by
  unfold doColmoStart
  repeat' (first
    | with_reducible assumption
    | with_reducible apply good_Mach_onDev
    | with_reducible apply good_Dev_colmoStart
    | with_reducible apply good_Chan_atColmoStart
    | with_reducible apply good_Mach_onChan
    | with_reducible apply good_Mach_beginWrite
    | with_reducible apply good_foldl
    | with_reducible apply goodD_foldl
    | with_reducible apply goodM_foldl
    | with_reducible apply good_projDev
    | with_reducible apply good_projA
    | with_reducible apply good_projB
    | (with_reducible exact goodM_smcMem (by with_reducible assumption))
    | with_reducible apply good_Chan_inv
    | with_reducible apply good_Chan_invNil
    | (with_reducible exact good_mk (by with_reducible assumption))
    | (with_reducible exact goodD_mk (by with_reducible assumption))
    | split
    | (intro _))
theorem good_doChannelResetRelease (ch : Ch) (tA : Bool) (tB : Bool) (sA : Bool) (sB : Bool) (m : Mach) (h_m : m.Good) : (doChannelResetRelease ch tA tB sA sB m).Good := by
  unfold doChannelResetRelease
  repeat' (first
    | with_reducible assumption
    | with_reducible apply good_Mach_chan
    | with_reducible apply good_Dev_loadSet
    | (with_reducible apply good_Dev_loadSet_eq; case e_eq => with_reducible assumption)
    | with_reducible apply good_Mach_onChan
    | with_reducible apply good_Chan_release
    | with_reducible apply good_foldl
    | with_reducible apply goodD_foldl
    | with_reducible apply goodM_foldl
    | with_reducible apply good_projDev
    | with_reducible apply good_projA
    | with_reducible apply good_projB
    | (with_reducible exact goodM_smcMem (by with_reducible assumption))
    | with_reducible apply good_Chan_inv
    | with_reducible apply good_Chan_invNil
    | (with_reducible exact good_mk (by with_reducible assumption))
    | (with_reducible exact goodD_mk (by with_reducible assumption))
    | split
    | (intro _)
    | (extract_lets +onlyGivenNames x; first | (refine good_use (x := x) ?_ (fun hx => ?_)) | (refine good_use (x := x.1) ?_ (fun hx => ?_)) | (refine (have hx : Dev.Good x := ?_; ?_)) | (refine (have hx : Dev.Good x.1 := ?_; ?_)) | (refine (have hx : Mach.Good x := ?_; ?_)) | (refine (have hx : Mach.Good x.1 := ?_; ?_)) | (refine (have hx : Mach.Good x.m := ?_; ?_)) | (refine (have hx : Chan.Good ch x := ?_; ?_)) | clear_value x)
    | (with_reducible apply good_resMk; first | with_reducible assumption | with_reducible apply good_Mach_chan | with_reducible apply good_Dev_loadSet | with_reducible apply good_Mach_onChan | with_reducible apply good_Chan_release)
    | (with_reducible apply good_tookMk; first | with_reducible assumption | with_reducible apply good_Mach_chan | with_reducible apply good_Dev_loadSet | with_reducible apply good_Mach_onChan | with_reducible apply good_Chan_release)
    | (with_reducible apply goodM_same; first | with_reducible assumption | with_reducible apply good_Mach_chan | with_reducible apply good_Dev_loadSet | with_reducible apply good_Mach_onChan | with_reducible apply good_Chan_release)
    | (with_reducible refine goodM_dev ?_ ?_; first | with_reducible assumption | with_reducible apply good_Mach_chan | with_reducible apply good_Dev_loadSet | with_reducible apply good_Mach_onChan | with_reducible apply good_Chan_release))
theorem good_Mach_devWrite (m : Mach) (a : Nat) (v : Nat) (h_m : m.Good) : (Mach.devWrite m a v).Good := by
  unfold Mach.devWrite
  repeat' (first
    | with_reducible assumption
    | with_reducible apply good_Mach_onDev
    | with_reducible apply good_Chan_plainWrite
    | with_reducible apply good_Dev_plainWrite
    | with_reducible apply good_Mach_onChan
    | with_reducible apply good_Chan_park
    | with_reducible apply good_doLpGo
    | with_reducible apply good_doSysBlkRst
    | with_reducible apply good_Mach_bistWrite
    | with_reducible apply good_Dev_write
    | with_reducible apply good_foldl
    | with_reducible apply goodD_foldl
    | with_reducible apply goodM_foldl
    | with_reducible apply good_projDev
    | with_reducible apply good_projA
    | with_reducible apply good_projB
    | (with_reducible exact goodM_smcMem (by with_reducible assumption))
    | with_reducible apply good_Chan_inv
    | with_reducible apply good_Chan_invNil
    | (with_reducible exact good_mk (by with_reducible assumption))
    | (with_reducible exact goodD_mk (by with_reducible assumption))
    | split
    | (intro _))
theorem good_doRegisterWrite (who : Option Ch) (size : Nat) (addr : Nat) (data : Nat) (m : Mach) (h_m : m.Good) : (doRegisterWrite who size addr data m).Good := by
  unfold doRegisterWrite
  repeat' (first
    | with_reducible assumption
    | with_reducible apply good_Mach_chan
    | with_reducible apply good_Mach_onChan
    | with_reducible apply good_live
    | with_reducible apply good_Chan_pairWrite
    | with_reducible apply good_Chan_tcmWrite
    | with_reducible apply good_Mach_devWrite
    | with_reducible apply good_foldl
    | with_reducible apply goodD_foldl
    | with_reducible apply goodM_foldl
    | with_reducible apply good_projDev
    | with_reducible apply good_projA
    | with_reducible apply good_projB
    | (with_reducible exact goodM_smcMem (by with_reducible assumption))
    | with_reducible apply good_Chan_inv
    | with_reducible apply good_Chan_invNil
    | (with_reducible exact good_mk (by with_reducible assumption))
    | (with_reducible exact goodD_mk (by with_reducible assumption))
    | split
    | (intro _))
theorem good_Mach_readEffect (m : Mach) (addr : Nat) (h_m : m.Good) : (Mach.readEffect m addr).Good := by
  unfold Mach.readEffect
  repeat' (first
    | with_reducible assumption
    | with_reducible apply good_Mach_chan
    | with_reducible apply good_Mach_onChan
    | with_reducible apply good_live
    | with_reducible apply good_Chan_cvuTouch
    | with_reducible apply good_Chan_skimAbortIf
    | with_reducible apply good_Chan_took
    | with_reducible apply good_Dev_took
    | with_reducible apply good_foldl
    | with_reducible apply goodD_foldl
    | with_reducible apply goodM_foldl
    | with_reducible apply good_projDev
    | with_reducible apply good_projA
    | with_reducible apply good_projB
    | (with_reducible exact goodM_smcMem (by with_reducible assumption))
    | with_reducible apply good_Chan_inv
    | with_reducible apply good_Chan_invNil
    | (with_reducible exact good_mk (by with_reducible assumption))
    | (with_reducible exact goodD_mk (by with_reducible assumption))
    | split
    | (intro _))
theorem good_doLoRegisterRead (mst : Master) (size : Nat) (addr : Nat) (m : Mach) (h_m : m.Good) : (doLoRegisterRead mst size addr m).Good := by
  unfold doLoRegisterRead
  repeat' (first
    | with_reducible assumption
    | with_reducible apply good_Mach_readEffect
    | with_reducible apply good_foldl
    | with_reducible apply goodD_foldl
    | with_reducible apply goodM_foldl
    | with_reducible apply good_projDev
    | with_reducible apply good_projA
    | with_reducible apply good_projB
    | (with_reducible exact goodM_smcMem (by with_reducible assumption))
    | with_reducible apply good_Chan_inv
    | with_reducible apply good_Chan_invNil
    | (with_reducible exact good_mk (by with_reducible assumption))
    | (with_reducible exact goodD_mk (by with_reducible assumption))
    | split
    | (intro _)
    | (extract_lets +onlyGivenNames x; first | (refine good_use (x := x) ?_ (fun hx => ?_)) | (refine good_use (x := x.1) ?_ (fun hx => ?_)) | (refine (have hx : Dev.Good x := ?_; ?_)) | (refine (have hx : Dev.Good x.1 := ?_; ?_)) | (refine (have hx : Mach.Good x := ?_; ?_)) | (refine (have hx : Mach.Good x.1 := ?_; ?_)) | (refine (have hx : Mach.Good x.m := ?_; ?_)) | clear_value x)
    | (with_reducible apply good_resMk; first | with_reducible assumption | with_reducible apply good_Mach_readEffect)
    | (with_reducible apply good_tookMk; first | with_reducible assumption | with_reducible apply good_Mach_readEffect)
    | (with_reducible apply goodM_same; first | with_reducible assumption | with_reducible apply good_Mach_readEffect))
theorem good_doHiRegisterRead (mst : Master) (size : Nat) (addr : Nat) (m : Mach) (h_m : m.Good) : (doHiRegisterRead mst size addr m).Good := by
  unfold doHiRegisterRead
  repeat' (first
    | with_reducible assumption
    | with_reducible apply good_Mach_readEffect
    | with_reducible apply good_foldl
    | with_reducible apply goodD_foldl
    | with_reducible apply goodM_foldl
    | with_reducible apply good_projDev
    | with_reducible apply good_projA
    | with_reducible apply good_projB
    | (with_reducible exact goodM_smcMem (by with_reducible assumption))
    | with_reducible apply good_Chan_inv
    | with_reducible apply good_Chan_invNil
    | (with_reducible exact good_mk (by with_reducible assumption))
    | (with_reducible exact goodD_mk (by with_reducible assumption))
    | split
    | (intro _)
    | (extract_lets +onlyGivenNames x; first | (refine good_use (x := x) ?_ (fun hx => ?_)) | (refine good_use (x := x.1) ?_ (fun hx => ?_)) | (refine (have hx : Dev.Good x := ?_; ?_)) | (refine (have hx : Dev.Good x.1 := ?_; ?_)) | (refine (have hx : Mach.Good x := ?_; ?_)) | (refine (have hx : Mach.Good x.1 := ?_; ?_)) | (refine (have hx : Mach.Good x.m := ?_; ?_)) | clear_value x)
    | (with_reducible apply good_resMk; first | with_reducible assumption | with_reducible apply good_Mach_readEffect)
    | (with_reducible apply good_tookMk; first | with_reducible assumption | with_reducible apply good_Mach_readEffect)
    | (with_reducible apply goodM_same; first | with_reducible assumption | with_reducible apply good_Mach_readEffect))
theorem good_Res_ok (m : Mach) (data : List Nat) (h_m : m.Good) : (Res.ok m data).m.Good := by
  unfold Res.ok
  repeat' (first
    | with_reducible assumption)
theorem good_Res_fail (m : Mach) (st : St) (h_m : m.Good) : (Res.fail m st).m.Good := by
  unfold Res.fail
  repeat' (first
    | with_reducible assumption)
theorem good_Res_wait (m : Mach) (s : Slot) (h_m : m.Good) : (Res.wait m s).m.Good := by
  unfold Res.wait
  repeat' (first
    | with_reducible assumption)
theorem good_Res_then (m : Mach) (data : List Nat) (a : After) (h_m : m.Good) : (Res.then m data a).m.Good := by
  unfold Res.then
  repeat' (first
    | with_reducible assumption)
theorem good_Mach_did (m : Mach) (f : Dev → Dev) (h_m : m.Good) (h_f : ∀ x, x.Good → (f x).Good) : (Mach.did m f).m.Good := by
  unfold Mach.did
  repeat' (first
    | with_reducible assumption
    | with_reducible apply good_Res_ok
    | with_reducible apply good_Mach_onDev)
theorem good_doInfo (m : Mach) (h_m : m.Good) : (doInfo m).m.Good := by
  unfold doInfo
  repeat' (first
    | with_reducible assumption
    | with_reducible apply good_Res_ok)
theorem good_doSessionNonce (m : Mach) (h_m : m.Good) : (doSessionNonce m).m.Good := by
  unfold doSessionNonce
  repeat' (first
    | with_reducible assumption
    | with_reducible apply good_Res_ok
    | with_reducible apply good_Mach_onDev
    | with_reducible apply good_Chan_took
    | with_reducible apply good_Dev_took
    | with_reducible apply good_Dev_onColmo
    | with_reducible apply good_foldl
    | with_reducible apply goodD_foldl
    | with_reducible apply goodM_foldl
    | with_reducible apply good_projDev
    | with_reducible apply good_projA
    | with_reducible apply good_projB
    | (with_reducible exact goodM_smcMem (by with_reducible assumption))
    | with_reducible apply good_Chan_inv
    | with_reducible apply good_Chan_invNil
    | (with_reducible exact good_mk (by with_reducible assumption))
    | (with_reducible exact goodD_mk (by with_reducible assumption))
    | split
    | (intro _))
theorem good_doSessionKey (m : Mach) (r : CmdRec) (h_m : m.Good) : (doSessionKey m r).m.Good := by
  unfold doSessionKey
  repeat' (first
    | with_reducible assumption
    | with_reducible apply good_Mach_onDev
    | with_reducible apply good_Dev_onColmo
    | with_reducible apply good_Res_then
    | with_reducible apply good_Res_fail
    | with_reducible apply good_Dev_sigFail
    | with_reducible apply good_foldl
    | with_reducible apply goodD_foldl
    | with_reducible apply goodM_foldl
    | with_reducible apply good_projDev
    | with_reducible apply good_projA
    | with_reducible apply good_projB
    | (with_reducible exact goodM_smcMem (by with_reducible assumption))
    | with_reducible apply good_Chan_inv
    | with_reducible apply good_Chan_invNil
    | (with_reducible exact good_mk (by with_reducible assumption))
    | (with_reducible exact goodD_mk (by with_reducible assumption))
    | split
    | (intro _))
theorem good_doSessionEnd (m : Mach) (h_m : m.Good) : (doSessionEnd m).m.Good := by
  unfold doSessionEnd
  repeat' (first
    | with_reducible assumption
    | with_reducible apply good_Res_then)
theorem good_doFlowOpen (m : Mach) (rq : Req) (r : CmdRec) (h_m : m.Good) : (doFlowOpen m rq r).m.Good := by
  unfold doFlowOpen
  repeat' (first
    | with_reducible assumption
    | with_reducible apply good_Mach_did
    | with_reducible apply good_Dev_onFlow
    | with_reducible apply good_foldl
    | with_reducible apply goodD_foldl
    | with_reducible apply goodM_foldl
    | with_reducible apply good_projDev
    | with_reducible apply good_projA
    | with_reducible apply good_projB
    | (with_reducible exact goodM_smcMem (by with_reducible assumption))
    | with_reducible apply good_Chan_inv
    | with_reducible apply good_Chan_invNil
    | (with_reducible exact good_mk (by with_reducible assumption))
    | (with_reducible exact goodD_mk (by with_reducible assumption))
    | split
    | (intro _))
theorem good_doFlowClose (m : Mach) (r : CmdRec) (h_m : m.Good) : (doFlowClose m r).m.Good := by
  unfold doFlowClose
  repeat' (first
    | with_reducible assumption
    | with_reducible apply good_Mach_onDev
    | with_reducible apply good_Dev_dropBundle
    | with_reducible apply good_Dev_dropFrames
    | with_reducible apply good_Dev_onFlow
    | with_reducible apply good_Res_ok
    | with_reducible apply good_Mach_onChan
    | with_reducible apply good_Chan_endFlow
    | with_reducible apply good_foldl
    | with_reducible apply goodD_foldl
    | with_reducible apply goodM_foldl
    | with_reducible apply good_projDev
    | with_reducible apply good_projA
    | with_reducible apply good_projB
    | (with_reducible exact goodM_smcMem (by with_reducible assumption))
    | with_reducible apply good_Chan_inv
    | with_reducible apply good_Chan_invNil
    | (with_reducible exact good_mk (by with_reducible assumption))
    | (with_reducible exact goodD_mk (by with_reducible assumption))
    | split
    | (intro _))
theorem good_doNtfAck (m : Mach) (r : CmdRec) (h_m : m.Good) : (doNtfAck m r).m.Good := by
  unfold doNtfAck
  repeat' (first
    | with_reducible assumption
    | with_reducible apply good_Mach_did
    | with_reducible apply good_Chan_each
    | with_reducible apply good_Dev_each
    | with_reducible apply good_Dev_setPend
    | with_reducible apply good_foldl
    | with_reducible apply goodD_foldl
    | with_reducible apply goodM_foldl
    | with_reducible apply good_projDev
    | with_reducible apply good_projA
    | with_reducible apply good_projB
    | (with_reducible exact goodM_smcMem (by with_reducible assumption))
    | with_reducible apply good_Chan_inv
    | with_reducible apply good_Chan_invNil
    | (with_reducible exact good_mk (by with_reducible assumption))
    | (with_reducible exact goodD_mk (by with_reducible assumption))
    | split
    | (intro _))
theorem good_doEvtFilter (m : Mach) (r : CmdRec) (h_m : m.Good) : (doEvtFilter m r).m.Good := by
  unfold doEvtFilter
  repeat' (first
    | with_reducible assumption
    | with_reducible apply good_Mach_did
    | with_reducible apply good_Dev_onColmo
    | with_reducible apply good_Mach_take
    | with_reducible apply good_foldl
    | with_reducible apply goodD_foldl
    | with_reducible apply goodM_foldl
    | with_reducible apply good_projDev
    | with_reducible apply good_projA
    | with_reducible apply good_projB
    | (with_reducible exact goodM_smcMem (by with_reducible assumption))
    | with_reducible apply good_Chan_inv
    | with_reducible apply good_Chan_invNil
    | (with_reducible exact good_mk (by with_reducible assumption))
    | (with_reducible exact goodD_mk (by with_reducible assumption))
    | split
    | (intro _))
theorem good_doIdentitySet (m : Mach) (r : CmdRec) (h_m : m.Good) : (doIdentitySet m r).m.Good := by
  unfold doIdentitySet
  repeat' (first
    | with_reducible assumption
    | with_reducible apply good_Chan_onCtl
    | with_reducible apply good_Mach_onDev
    | with_reducible apply good_Dev_onArch
    | with_reducible apply good_Res_then
    | with_reducible apply good_Mach_onChan
    | with_reducible apply good_foldl
    | with_reducible apply goodD_foldl
    | with_reducible apply goodM_foldl
    | with_reducible apply good_projDev
    | with_reducible apply good_projA
    | with_reducible apply good_projB
    | (with_reducible exact goodM_smcMem (by with_reducible assumption))
    | with_reducible apply good_Chan_inv
    | with_reducible apply good_Chan_invNil
    | (with_reducible exact good_mk (by with_reducible assumption))
    | (with_reducible exact goodD_mk (by with_reducible assumption))
    | split
    | (intro _))
theorem good_doHostcfgWrite (m : Mach) (r : CmdRec) (h_m : m.Good) : (doHostcfgWrite m r).m.Good := by
  unfold doHostcfgWrite
  repeat' (first
    | with_reducible assumption
    | with_reducible apply good_Mach_did
    | with_reducible apply good_Dev_onArch
    | with_reducible apply good_Chan_p
    | with_reducible apply good_Dev_p
    | with_reducible apply good_foldl
    | with_reducible apply goodD_foldl
    | with_reducible apply goodM_foldl
    | with_reducible apply good_projDev
    | with_reducible apply good_projA
    | with_reducible apply good_projB
    | (with_reducible exact goodM_smcMem (by with_reducible assumption))
    | with_reducible apply good_Chan_inv
    | with_reducible apply good_Chan_invNil
    | (with_reducible exact good_mk (by with_reducible assumption))
    | (with_reducible exact goodD_mk (by with_reducible assumption))
    | split
    | (intro _))
theorem good_Mach_tookIt (m : Mach) (ch : Ch) (f : Chan → Chan) (h_m : m.Good) (h_f : ∀ x : Chan, x.Good ch → (f x).Good ch) : (Mach.tookIt m ch f).m.Good := by
  unfold Mach.tookIt
  repeat' (first
    | with_reducible assumption
    | with_reducible apply good_Mach_onChan)
theorem good_Mach_posted (m : Mach) (ch : Ch) (h_m : m.Good) : (Mach.posted m ch).m.Good := by
  unfold Mach.posted
  repeat' (first
    | with_reducible assumption
    | with_reducible apply good_Res_wait)
theorem good_doPsetReadback (m : Mach) (r : CmdRec) (h_m : m.Good) : (doPsetReadback m r).m.Good := by
  unfold doPsetReadback
  repeat' (first
    | with_reducible assumption
    | with_reducible apply good_Mach_posted
    | with_reducible apply good_Mach_chan
    | with_reducible apply good_Res_ok
    | with_reducible apply good_foldl
    | with_reducible apply goodD_foldl
    | with_reducible apply goodM_foldl
    | with_reducible apply good_projDev
    | with_reducible apply good_projA
    | with_reducible apply good_projB
    | (with_reducible exact goodM_smcMem (by with_reducible assumption))
    | with_reducible apply good_Chan_inv
    | with_reducible apply good_Chan_invNil
    | (with_reducible exact good_mk (by with_reducible assumption))
    | (with_reducible exact goodD_mk (by with_reducible assumption))
    | split)
theorem good_takePsetReadback (m : Mach) (ch : Ch) (r : CmdRec) (h_m : m.Good) : (takePsetReadback m ch r).m.Good := by
  unfold takePsetReadback
  repeat' (first
    | with_reducible assumption
    | with_reducible apply good_Mach_onDev
    | with_reducible apply good_Dev_addSeen
    | with_reducible apply good_Mach_chan
    | with_reducible apply good_foldl
    | with_reducible apply goodD_foldl
    | with_reducible apply goodM_foldl
    | with_reducible apply good_projDev
    | with_reducible apply good_projA
    | with_reducible apply good_projB
    | (with_reducible exact goodM_smcMem (by with_reducible assumption))
    | with_reducible apply good_Chan_inv
    | with_reducible apply good_Chan_invNil
    | (with_reducible exact good_mk (by with_reducible assumption))
    | (with_reducible exact goodD_mk (by with_reducible assumption))
    | split
    | (intro _)
    | (extract_lets +onlyGivenNames x; first | (refine good_use (x := x) ?_ (fun hx => ?_)) | (refine good_use (x := x.1) ?_ (fun hx => ?_)) | (refine (have hx : Dev.Good x := ?_; ?_)) | (refine (have hx : Dev.Good x.1 := ?_; ?_)) | (refine (have hx : Mach.Good x := ?_; ?_)) | (refine (have hx : Mach.Good x.1 := ?_; ?_)) | (refine (have hx : Mach.Good x.m := ?_; ?_)) | (refine (have hx : Chan.Good ch x := ?_; ?_)) | clear_value x))
theorem good_doTuningCommit (m : Mach) (r : CmdRec) (h_m : m.Good) : (doTuningCommit m r).m.Good := by
  unfold doTuningCommit
  repeat' (first
    | with_reducible assumption
    | with_reducible apply good_Mach_posted)
theorem good_takeTuningCommit (m : Mach) (ch : Ch) (r : CmdRec) (h_m : m.Good) : (takeTuningCommit m ch r).m.Good := by
  unfold takeTuningCommit
  repeat' (first
    | with_reducible assumption
    | with_reducible apply good_Mach_ask
    | with_reducible apply good_Chan_wr
    | with_reducible apply good_Dev_wr
    | with_reducible apply good_Chan_tuningCommit
    | with_reducible apply good_foldl
    | with_reducible apply goodD_foldl
    | with_reducible apply goodM_foldl
    | with_reducible apply good_projDev
    | with_reducible apply good_projA
    | with_reducible apply good_projB
    | (with_reducible exact goodM_smcMem (by with_reducible assumption))
    | with_reducible apply good_Chan_inv
    | with_reducible apply good_Chan_invNil
    | (with_reducible exact good_mk (by with_reducible assumption))
    | (with_reducible exact goodD_mk (by with_reducible assumption))
    | split
    | (intro _))
theorem good_doSafetyStage (m : Mach) (r : CmdRec) (h_m : m.Good) : (doSafetyStage m r).m.Good := by
  unfold doSafetyStage
  repeat' (first
    | with_reducible assumption
    | with_reducible apply good_Mach_posted)
theorem good_takeSafetyStage (m : Mach) (ch : Ch) (r : CmdRec) (h_m : m.Good) : (takeSafetyStage m ch r).m.Good := by
  unfold takeSafetyStage
  repeat' (first
    | with_reducible assumption
    | with_reducible apply good_Mach_ask
    | with_reducible apply good_Chan_wr
    | with_reducible apply good_Dev_wr
    | with_reducible apply good_Chan_safetyStage
    | with_reducible apply good_Mach_onDev
    | with_reducible apply good_Dev_setSeen
    | with_reducible apply good_Dev_sigFail
    | with_reducible apply good_foldl
    | with_reducible apply goodD_foldl
    | with_reducible apply goodM_foldl
    | with_reducible apply good_projDev
    | with_reducible apply good_projA
    | with_reducible apply good_projB
    | (with_reducible exact goodM_smcMem (by with_reducible assumption))
    | with_reducible apply good_Chan_inv
    | with_reducible apply good_Chan_invNil
    | (with_reducible exact good_mk (by with_reducible assumption))
    | (with_reducible exact goodD_mk (by with_reducible assumption))
    | split
    | (intro _)
    | (extract_lets +onlyGivenNames x; first | (refine good_use (x := x) ?_ (fun hx => ?_)) | (refine good_use (x := x.1) ?_ (fun hx => ?_)) | (refine (have hx : Dev.Good x := ?_; ?_)) | (refine (have hx : Dev.Good x.1 := ?_; ?_)) | (refine (have hx : Mach.Good x := ?_; ?_)) | (refine (have hx : Mach.Good x.1 := ?_; ?_)) | (refine (have hx : Mach.Good x.m := ?_; ?_)) | (refine (have hx : Chan.Good ch x := ?_; ?_)) | clear_value x))
theorem good_doSafetyConfirm (m : Mach) (r : CmdRec) (h_m : m.Good) : (doSafetyConfirm m r).m.Good := by
  unfold doSafetyConfirm
  repeat' (first
    | with_reducible assumption
    | with_reducible apply good_Mach_posted)
theorem good_takeSafetyConfirm (m : Mach) (ch : Ch) (r : CmdRec) (h_m : m.Good) : (takeSafetyConfirm m ch r).m.Good := by
  unfold takeSafetyConfirm
  repeat' (first
    | with_reducible assumption
    | with_reducible apply good_Mach_ask
    | with_reducible apply good_Chan_wr
    | with_reducible apply good_Dev_wr
    | with_reducible apply good_Chan_safetyConfirm
    | with_reducible apply good_foldl
    | with_reducible apply goodD_foldl
    | with_reducible apply goodM_foldl
    | with_reducible apply good_projDev
    | with_reducible apply good_projA
    | with_reducible apply good_projB
    | (with_reducible exact goodM_smcMem (by with_reducible assumption))
    | with_reducible apply good_Chan_inv
    | with_reducible apply good_Chan_invNil
    | (with_reducible exact good_mk (by with_reducible assumption))
    | (with_reducible exact goodD_mk (by with_reducible assumption))
    | split
    | (intro _))
theorem good_doPsetStore (m : Mach) (r : CmdRec) (h_m : m.Good) : (doPsetStore m r).m.Good := by
  unfold doPsetStore
  repeat' (first
    | with_reducible assumption
    | with_reducible apply good_Mach_did
    | with_reducible apply good_Dev_onArch
    | with_reducible apply good_Mach_chan
    | with_reducible apply good_foldl
    | with_reducible apply goodD_foldl
    | with_reducible apply goodM_foldl
    | with_reducible apply good_projDev
    | with_reducible apply good_projA
    | with_reducible apply good_projB
    | (with_reducible exact goodM_smcMem (by with_reducible assumption))
    | with_reducible apply good_Chan_inv
    | with_reducible apply good_Chan_invNil
    | (with_reducible exact good_mk (by with_reducible assumption))
    | (with_reducible exact goodD_mk (by with_reducible assumption))
    | split
    | (intro _))
theorem good_doPsetLoad (m : Mach) (h_m : m.Good) : (doPsetLoad m).m.Good := by
  unfold doPsetLoad
  repeat' (first
    | with_reducible assumption
    | with_reducible apply good_Res_ok)
theorem good_takePsetLoad (m : Mach) (ch : Ch) (r : CmdRec) (h_m : m.Good) : (takePsetLoad m ch r).m.Good := by
  unfold takePsetLoad
  repeat' (first
    | with_reducible assumption
    | with_reducible apply good_Mach_tookIt
    | with_reducible apply good_Chan_rwcWrite
    | with_reducible apply good_foldl
    | with_reducible apply goodD_foldl
    | with_reducible apply goodM_foldl
    | with_reducible apply good_projDev
    | with_reducible apply good_projA
    | with_reducible apply good_projB
    | (with_reducible exact goodM_smcMem (by with_reducible assumption))
    | with_reducible apply good_Chan_inv
    | with_reducible apply good_Chan_invNil
    | (with_reducible exact good_mk (by with_reducible assumption))
    | (with_reducible exact goodD_mk (by with_reducible assumption))
    | split
    | (intro _))
theorem good_doArm (m : Mach) (r : CmdRec) (h_m : m.Good) : (doArm m r).m.Good := by
  unfold doArm
  repeat' (first
    | with_reducible assumption
    | with_reducible apply good_Mach_posted)
theorem good_takeArm (m : Mach) (ch : Ch) (h_m : m.Good) : (takeArm m ch).m.Good := by
  unfold takeArm
  repeat' (first
    | with_reducible assumption
    | with_reducible apply good_Mach_ask
    | with_reducible apply good_doChReqArm)
theorem good_stateData (m : Mach) (r : CmdRec) (h_m : m.Good) : (stateData m r).m.Good := by
  unfold stateData
  repeat' (first
    | with_reducible assumption
    | with_reducible apply good_Res_ok)
theorem good_doDisarm (m : Mach) (r : CmdRec) (h_m : m.Good) : (doDisarm m r).m.Good := by
  unfold doDisarm
  repeat' (first
    | with_reducible assumption
    | with_reducible apply good_stateData)
theorem good_takeDisarm (m : Mach) (ch : Ch) (h_m : m.Good) : (takeDisarm m ch).m.Good := by
  unfold takeDisarm
  repeat' (first
    | with_reducible assumption
    | with_reducible apply good_Mach_tookIt
    | with_reducible apply good_doChReqDisarm)
theorem good_doClearFault (m : Mach) (r : CmdRec) (h_m : m.Good) : (doClearFault m r).m.Good := by
  unfold doClearFault
  repeat' (first
    | with_reducible assumption
    | with_reducible apply good_stateData)
theorem good_takeClearFault (m : Mach) (ch : Ch) (h_m : m.Good) : (takeClearFault m ch).m.Good := by
  unfold takeClearFault
  repeat' (first
    | with_reducible assumption
    | with_reducible apply good_Mach_tookIt
    | with_reducible apply good_doChReqClearFault)
theorem good_doReset (m : Mach) (r : CmdRec) (h_m : m.Good) : (doReset m r).m.Good := by
  unfold doReset
  repeat' (first
    | with_reducible assumption
    | with_reducible apply good_Res_then)
theorem good_doStreamTorque (m : Mach) (h_m : m.Good) : (doStreamTorque m).m.Good := by
  unfold doStreamTorque
  repeat' (first
    | with_reducible assumption
    | with_reducible apply good_Res_ok)
theorem good_doStreamSpeedLimit (m : Mach) (h_m : m.Good) : (doStreamSpeedLimit m).m.Good := by
  unfold doStreamSpeedLimit
  repeat' (first
    | with_reducible assumption
    | with_reducible apply good_Res_ok)
theorem good_takeStream (torque : Bool) (hold : Bool) (m : Mach) (ch : Ch) (rq : Req) (r : CmdRec) (h_m : m.Good) : (takeStream torque hold m ch rq r).m.Good := by
  unfold takeStream
  repeat' (first
    | with_reducible assumption
    | with_reducible apply good_Mach_tookIt
    | with_reducible apply good_Chan_onCtl
    | with_reducible apply good_Chan_streamApply
    | with_reducible apply good_foldl
    | with_reducible apply goodD_foldl
    | with_reducible apply goodM_foldl
    | with_reducible apply good_projDev
    | with_reducible apply good_projA
    | with_reducible apply good_projB
    | (with_reducible exact goodM_smcMem (by with_reducible assumption))
    | with_reducible apply good_Chan_inv
    | with_reducible apply good_Chan_invNil
    | (with_reducible exact good_mk (by with_reducible assumption))
    | (with_reducible exact goodD_mk (by with_reducible assumption))
    | split
    | (intro _))
theorem good_Mach_colmoRead (m : Mach) (addr : Nat) (h_m : m.Good) : (Mach.colmoRead m addr).1.Good := by
  unfold Mach.colmoRead
  repeat' (first
    | with_reducible assumption
    | with_reducible apply good_doHiRegisterRead
    | with_reducible apply good_doLoRegisterRead
    | with_reducible apply good_foldl
    | with_reducible apply goodD_foldl
    | with_reducible apply goodM_foldl
    | with_reducible apply good_projDev
    | with_reducible apply good_projA
    | with_reducible apply good_projB
    | (with_reducible exact goodM_smcMem (by with_reducible assumption))
    | with_reducible apply good_Chan_inv
    | with_reducible apply good_Chan_invNil
    | (with_reducible exact good_mk (by with_reducible assumption))
    | (with_reducible exact goodD_mk (by with_reducible assumption))
    | split
    | (intro _)
    | (extract_lets +onlyGivenNames x; first | (refine good_use (x := x) ?_ (fun hx => ?_)) | (refine good_use (x := x.1) ?_ (fun hx => ?_)) | (refine (have hx : Dev.Good x := ?_; ?_)) | (refine (have hx : Dev.Good x.1 := ?_; ?_)) | (refine (have hx : Mach.Good x := ?_; ?_)) | (refine (have hx : Mach.Good x.1 := ?_; ?_)) | (refine (have hx : Mach.Good x.m := ?_; ?_)) | clear_value x)
    | (with_reducible apply good_resMk; first | with_reducible assumption | with_reducible apply good_doHiRegisterRead | with_reducible apply good_doLoRegisterRead)
    | (with_reducible apply good_tookMk; first | with_reducible assumption | with_reducible apply good_doHiRegisterRead | with_reducible apply good_doLoRegisterRead)
    | (with_reducible apply goodM_same; first | with_reducible assumption | with_reducible apply good_doHiRegisterRead | with_reducible apply good_doLoRegisterRead))
theorem good_Mach_colmoRead_eq {m : Mach} {addr : Nat} {x1 : Mach} {x2 : Nat} (e_eq : Mach.colmoRead m addr = (x1, x2)) (h_m : m.Good) : (x1).Good := by
  have q := good_Mach_colmoRead m addr h_m
  rw [e_eq] at q
  exact q
theorem good_readFold (l : List Nat) (x : Mach × List Nat) (h : x.1.Good) :
    (l.foldl (fun (p : Mach × List Nat) a => let y := p.1.colmoRead a; (y.1, p.2 ++ beBytes 4 y.2)) x).1.Good := by
  induction l generalizing x with
  | nil => exact h
  | cons a l ih => exact ih _ (good_Mach_colmoRead _ _ h)
theorem good_doRegRead (m : Mach) (r : CmdRec) (h_m : m.Good) : (doRegRead m r).m.Good := good_readFold _ _ h_m
theorem good_Mach_writeTriple (m : Mach) (t : Triple) (h_m : m.Good) : (Mach.writeTriple m t).Good := by
  unfold Mach.writeTriple
  repeat' (first
    | with_reducible assumption
    | with_reducible apply good_Mach_devWrite
    | with_reducible apply good_foldl
    | with_reducible apply goodD_foldl
    | with_reducible apply goodM_foldl
    | with_reducible apply good_projDev
    | with_reducible apply good_projA
    | with_reducible apply good_projB
    | (with_reducible exact goodM_smcMem (by with_reducible assumption))
    | with_reducible apply good_Chan_inv
    | with_reducible apply good_Chan_invNil
    | (with_reducible exact good_mk (by with_reducible assumption))
    | (with_reducible exact goodD_mk (by with_reducible assumption))
    | split)
theorem good_doRegWrite (m : Mach) (r : CmdRec) (h_m : m.Good) : (doRegWrite m r).m.Good := by
  unfold doRegWrite
  repeat' (first
    | with_reducible assumption
    | with_reducible apply good_Res_ok
    | with_reducible apply good_Mach_writeTriple
    | with_reducible apply good_Chan_writeTriple
    | with_reducible apply good_foldl
    | with_reducible apply goodD_foldl
    | with_reducible apply goodM_foldl)
theorem good_takeRegWrite (m : Mach) (ch : Ch) (r : CmdRec) (h_m : m.Good) : (takeRegWrite m ch r).m.Good := by
  unfold takeRegWrite
  repeat' (first
    | with_reducible assumption
    | with_reducible apply good_Mach_tookIt
    | with_reducible apply good_Chan_writeTriple
    | with_reducible apply good_Mach_writeTriple
    | with_reducible apply good_foldl
    | with_reducible apply goodD_foldl
    | with_reducible apply goodM_foldl
    | with_reducible apply good_projDev
    | with_reducible apply good_projA
    | with_reducible apply good_projB
    | (with_reducible exact goodM_smcMem (by with_reducible assumption))
    | with_reducible apply good_Chan_inv
    | with_reducible apply good_Chan_invNil
    | (with_reducible exact good_mk (by with_reducible assumption))
    | (with_reducible exact goodD_mk (by with_reducible assumption))
    | split
    | (intro _))
theorem good_doTlmSubscribe (m : Mach) (r : CmdRec) (h_m : m.Good) : (doTlmSubscribe m r).m.Good := by
  unfold doTlmSubscribe
  repeat' (first
    | with_reducible assumption
    | with_reducible apply good_Res_ok
    | with_reducible apply good_Mach_onChan
    | with_reducible apply good_Mach_chan
    | with_reducible apply good_Chan_withSub
    | with_reducible apply good_Mach_onDev
    | with_reducible apply good_Dev_setTlm
    | with_reducible apply good_foldl
    | with_reducible apply goodD_foldl
    | with_reducible apply goodM_foldl
    | with_reducible apply good_projDev
    | with_reducible apply good_projA
    | with_reducible apply good_projB
    | (with_reducible exact goodM_smcMem (by with_reducible assumption))
    | with_reducible apply good_Chan_inv
    | with_reducible apply good_Chan_invNil
    | (with_reducible exact good_mk (by with_reducible assumption))
    | (with_reducible exact goodD_mk (by with_reducible assumption))
    | split
    | (intro _))
theorem good_doTlmUnsubscribe (m : Mach) (r : CmdRec) (h_m : m.Good) : (doTlmUnsubscribe m r).m.Good := by
  unfold doTlmUnsubscribe
  repeat' (first
    | with_reducible assumption
    | with_reducible apply good_Res_ok
    | with_reducible apply good_Mach_onChan
    | with_reducible apply good_Mach_chan
    | with_reducible apply good_Mach_onDev
    | with_reducible apply good_Dev_setTlm
    | with_reducible apply good_foldl
    | with_reducible apply goodD_foldl
    | with_reducible apply goodM_foldl
    | with_reducible apply good_projDev
    | with_reducible apply good_projA
    | with_reducible apply good_projB
    | (with_reducible exact goodM_smcMem (by with_reducible assumption))
    | with_reducible apply good_Chan_inv
    | with_reducible apply good_Chan_invNil
    | (with_reducible exact good_mk (by with_reducible assumption))
    | (with_reducible exact goodD_mk (by with_reducible assumption))
    | split
    | (intro _))
theorem good_doSnapCfg (m : Mach) (r : CmdRec) (h_m : m.Good) : (doSnapCfg m r).m.Good := by
  unfold doSnapCfg
  repeat' (first
    | with_reducible assumption
    | with_reducible apply good_Res_ok
    | with_reducible apply good_Mach_onChan
    | with_reducible apply good_Mach_chan
    | with_reducible apply good_Mach_take
    | with_reducible apply good_foldl
    | with_reducible apply goodD_foldl
    | with_reducible apply goodM_foldl
    | with_reducible apply good_projDev
    | with_reducible apply good_projA
    | with_reducible apply good_projB
    | (with_reducible exact goodM_smcMem (by with_reducible assumption))
    | with_reducible apply good_Chan_inv
    | with_reducible apply good_Chan_invNil
    | (with_reducible exact good_mk (by with_reducible assumption))
    | (with_reducible exact goodD_mk (by with_reducible assumption))
    | split
    | (intro _))
theorem good_doSnapTrigger (m : Mach) (r : CmdRec) (h_m : m.Good) : (doSnapTrigger m r).m.Good := by
  unfold doSnapTrigger
  repeat' (first
    | with_reducible assumption
    | with_reducible apply good_Mach_posted)
theorem good_takeSnapTrigger (m : Mach) (ch : Ch) (h_m : m.Good) : (takeSnapTrigger m ch).m.Good := by
  unfold takeSnapTrigger
  repeat' (first
    | with_reducible assumption
    | with_reducible apply good_Mach_view
    | with_reducible apply good_Mach_onChan
    | with_reducible apply good_Chan_ringTrigger
    | with_reducible apply good_foldl
    | with_reducible apply goodD_foldl
    | with_reducible apply goodM_foldl
    | with_reducible apply good_projDev
    | with_reducible apply good_projA
    | with_reducible apply good_projB
    | (with_reducible exact goodM_smcMem (by with_reducible assumption))
    | with_reducible apply good_Chan_inv
    | with_reducible apply good_Chan_invNil
    | (with_reducible exact good_mk (by with_reducible assumption))
    | (with_reducible exact goodD_mk (by with_reducible assumption))
    | split
    | (intro _))
theorem good_doSnapRelease (m : Mach) (r : CmdRec) (h_m : m.Good) : (doSnapRelease m r).m.Good := by
  unfold doSnapRelease
  repeat' (first
    | with_reducible assumption
    | with_reducible apply good_Mach_chan
    | with_reducible apply good_Mach_onDev
    | with_reducible apply good_Dev_onArch
    | with_reducible apply good_Res_ok
    | with_reducible apply good_Mach_onChan
    | with_reducible apply good_Chan_ringRelease
    | with_reducible apply good_Mach_beginWrite
    | with_reducible apply good_foldl
    | with_reducible apply goodD_foldl
    | with_reducible apply goodM_foldl
    | with_reducible apply good_projDev
    | with_reducible apply good_projA
    | with_reducible apply good_projB
    | (with_reducible exact goodM_smcMem (by with_reducible assumption))
    | with_reducible apply good_Chan_inv
    | with_reducible apply good_Chan_invNil
    | (with_reducible exact good_mk (by with_reducible assumption))
    | (with_reducible exact goodD_mk (by with_reducible assumption))
    | split
    | (intro _)
    | (extract_lets +onlyGivenNames x; first | (refine good_use (x := x) ?_ (fun hx => ?_)) | (refine good_use (x := x.1) ?_ (fun hx => ?_)) | (refine (have hx : Dev.Good x := ?_; ?_)) | (refine (have hx : Dev.Good x.1 := ?_; ?_)) | (refine (have hx : Mach.Good x := ?_; ?_)) | (refine (have hx : Mach.Good x.1 := ?_; ?_)) | (refine (have hx : Mach.Good x.m := ?_; ?_)) | clear_value x))
theorem good_doSkimPass (m : Mach) (r : CmdRec) (h_m : m.Good) : (doSkimPass m r).m.Good := by
  unfold doSkimPass
  repeat' (first
    | with_reducible assumption
    | with_reducible apply good_Mach_posted)
theorem good_takeSkimPass (m : Mach) (ch : Ch) (h_m : m.Good) : (takeSkimPass m ch).m.Good := by
  unfold takeSkimPass
  repeat' (first
    | with_reducible assumption
    | with_reducible apply good_Mach_ask
    | with_reducible apply good_doSkimReqPass)
theorem good_doPowerState (m : Mach) (r : CmdRec) (h_m : m.Good) : (doPowerState m r).m.Good := by
  unfold doPowerState
  repeat' (first
    | with_reducible assumption
    | with_reducible apply good_Res_ok
    | with_reducible apply good_Mach_onChan
    | with_reducible apply good_Mach_chan
    | with_reducible apply good_Chan_park
    | with_reducible apply good_Mach_onDev
    | with_reducible apply good_Chan_p
    | with_reducible apply good_Dev_p
    | with_reducible apply good_foldl
    | with_reducible apply goodD_foldl
    | with_reducible apply goodM_foldl
    | with_reducible apply good_projDev
    | with_reducible apply good_projA
    | with_reducible apply good_projB
    | (with_reducible exact goodM_smcMem (by with_reducible assumption))
    | with_reducible apply good_Chan_inv
    | with_reducible apply good_Chan_invNil
    | (with_reducible exact good_mk (by with_reducible assumption))
    | (with_reducible exact goodD_mk (by with_reducible assumption))
    | split
    | (intro _))
theorem good_doSnapList (m : Mach) (r : CmdRec) (h_m : m.Good) : (doSnapList m r).m.Good := by
  unfold doSnapList
  repeat' (first
    | with_reducible assumption
    | with_reducible apply good_Res_ok)
theorem good_doArcRead (m : Mach) (r : CmdRec) (h_m : m.Good) : (doArcRead m r).m.Good := by
  unfold doArcRead
  repeat' (first
    | with_reducible assumption
    | with_reducible apply good_Res_wait
    | with_reducible apply good_Mach_onDev
    | with_reducible apply good_Dev_onColmo
    | with_reducible apply good_foldl
    | with_reducible apply goodD_foldl
    | with_reducible apply goodM_foldl
    | with_reducible apply good_projDev
    | with_reducible apply good_projA
    | with_reducible apply good_projB
    | (with_reducible exact goodM_smcMem (by with_reducible assumption))
    | with_reducible apply good_Chan_inv
    | with_reducible apply good_Chan_invNil
    | (with_reducible exact good_mk (by with_reducible assumption))
    | (with_reducible exact goodD_mk (by with_reducible assumption))
    | split
    | (intro _))
theorem good_doCountersRead (m : Mach) (h_m : m.Good) : (doCountersRead m).m.Good := by
  unfold doCountersRead
  repeat' (first
    | with_reducible assumption
    | with_reducible apply good_Res_ok)
theorem good_doBistRun (m : Mach) (r : CmdRec) (h_m : m.Good) : (doBistRun m r).m.Good := by
  unfold doBistRun
  repeat' (first
    | with_reducible assumption
    | with_reducible apply good_Mach_bistWrite
    | with_reducible apply good_Res_fail
    | with_reducible apply good_Res_wait
    | with_reducible apply good_foldl
    | with_reducible apply goodD_foldl
    | with_reducible apply goodM_foldl
    | with_reducible apply good_projDev
    | with_reducible apply good_projA
    | with_reducible apply good_projB
    | (with_reducible exact goodM_smcMem (by with_reducible assumption))
    | with_reducible apply good_Chan_inv
    | with_reducible apply good_Chan_invNil
    | (with_reducible exact good_mk (by with_reducible assumption))
    | (with_reducible exact goodD_mk (by with_reducible assumption))
    | split)
theorem good_doShutdown (m : Mach) (r : CmdRec) (h_m : m.Good) : (doShutdown m r).m.Good := by
  unfold doShutdown
  repeat' (first
    | with_reducible assumption
    | with_reducible apply good_Res_ok
    | with_reducible apply good_Mach_shutAccept
    | with_reducible apply good_Res_wait
    | with_reducible apply good_foldl
    | with_reducible apply goodD_foldl
    | with_reducible apply goodM_foldl
    | with_reducible apply good_projDev
    | with_reducible apply good_projA
    | with_reducible apply good_projB
    | (with_reducible exact goodM_smcMem (by with_reducible assumption))
    | with_reducible apply good_Chan_inv
    | with_reducible apply good_Chan_invNil
    | (with_reducible exact good_mk (by with_reducible assumption))
    | (with_reducible exact goodD_mk (by with_reducible assumption))
    | split)
theorem good_doFwStage (m : Mach) (rq : Req) (r : CmdRec) (h_m : m.Good) : (doFwStage m rq r).m.Good := by
  unfold doFwStage
  repeat' (first
    | with_reducible assumption
    | with_reducible apply good_Res_wait
    | with_reducible apply good_Mach_onDev
    | with_reducible apply good_Dev_onArch
    | with_reducible apply good_Dev_onColmo
    | with_reducible apply good_foldl
    | with_reducible apply goodD_foldl
    | with_reducible apply goodM_foldl
    | with_reducible apply good_projDev
    | with_reducible apply good_projA
    | with_reducible apply good_projB
    | (with_reducible exact goodM_smcMem (by with_reducible assumption))
    | with_reducible apply good_Chan_inv
    | with_reducible apply good_Chan_invNil
    | (with_reducible exact good_mk (by with_reducible assumption))
    | (with_reducible exact goodD_mk (by with_reducible assumption))
    | split
    | (intro _))
theorem good_doFwActivate (m : Mach) (r : CmdRec) (h_m : m.Good) : (doFwActivate m r).m.Good := by
  unfold doFwActivate
  repeat' (first
    | with_reducible assumption
    | with_reducible apply good_Mach_onDev
    | with_reducible apply good_Dev_onBoot
    | with_reducible apply good_Dev_onColmo
    | with_reducible apply good_Res_then
    | with_reducible apply good_foldl
    | with_reducible apply goodD_foldl
    | with_reducible apply goodM_foldl
    | with_reducible apply good_projDev
    | with_reducible apply good_projA
    | with_reducible apply good_projB
    | (with_reducible exact goodM_smcMem (by with_reducible assumption))
    | with_reducible apply good_Chan_inv
    | with_reducible apply good_Chan_invNil
    | (with_reducible exact good_mk (by with_reducible assumption))
    | (with_reducible exact goodD_mk (by with_reducible assumption))
    | split
    | (intro _))
theorem good_doFwConfirm (m : Mach) (r : CmdRec) (h_m : m.Good) : (doFwConfirm m r).m.Good := by
  unfold doFwConfirm
  repeat' (first
    | with_reducible assumption
    | with_reducible apply good_Mach_onDev
    | with_reducible apply good_Dev_onBoot
    | with_reducible apply good_Dev_onOtp
    | with_reducible apply good_Dev_showBoot
    | with_reducible apply good_Res_ok
    | with_reducible apply good_foldl
    | with_reducible apply goodD_foldl
    | with_reducible apply goodM_foldl
    | with_reducible apply good_projDev
    | with_reducible apply good_projA
    | with_reducible apply good_projB
    | (with_reducible exact goodM_smcMem (by with_reducible assumption))
    | with_reducible apply good_Chan_inv
    | with_reducible apply good_Chan_invNil
    | (with_reducible exact good_mk (by with_reducible assumption))
    | (with_reducible exact goodD_mk (by with_reducible assumption))
    | split
    | (intro _))
theorem good_doLcNonce (m : Mach) (h_m : m.Good) : (doLcNonce m).m.Good := by
  unfold doLcNonce
  repeat' (first
    | with_reducible assumption
    | with_reducible apply good_Res_ok
    | with_reducible apply good_Mach_onDev
    | with_reducible apply good_Chan_took
    | with_reducible apply good_Dev_took
    | with_reducible apply good_Dev_onColmo
    | with_reducible apply good_foldl
    | with_reducible apply goodD_foldl
    | with_reducible apply goodM_foldl
    | with_reducible apply good_projDev
    | with_reducible apply good_projA
    | with_reducible apply good_projB
    | (with_reducible exact goodM_smcMem (by with_reducible assumption))
    | with_reducible apply good_Chan_inv
    | with_reducible apply good_Chan_invNil
    | (with_reducible exact good_mk (by with_reducible assumption))
    | (with_reducible exact goodD_mk (by with_reducible assumption))
    | split
    | (intro _))
theorem good_doLcToken (m : Mach) (r : CmdRec) (h_m : m.Good) : (doLcToken m r).m.Good := by
  unfold doLcToken
  repeat' (first
    | with_reducible assumption
    | with_reducible apply good_Mach_onDev
    | with_reducible apply good_Dev_onColmo
    | with_reducible apply good_Res_then
    | with_reducible apply good_Res_fail
    | with_reducible apply good_Dev_sigFail
    | with_reducible apply good_Dev_onOtp
    | with_reducible apply good_Dev_onArch
    | with_reducible apply good_foldl
    | with_reducible apply goodD_foldl
    | with_reducible apply goodM_foldl
    | with_reducible apply good_projDev
    | with_reducible apply good_projA
    | with_reducible apply good_projB
    | (with_reducible exact goodM_smcMem (by with_reducible assumption))
    | with_reducible apply good_Chan_inv
    | with_reducible apply good_Chan_invNil
    | (with_reducible exact good_mk (by with_reducible assumption))
    | (with_reducible exact goodD_mk (by with_reducible assumption))
    | split
    | (intro _))
theorem good_doAttest (m : Mach) (r : CmdRec) (h_m : m.Good) : (doAttest m r).m.Good := by
  unfold doAttest
  repeat' (first
    | with_reducible assumption
    | with_reducible apply good_Res_ok)
theorem good_doCanMapWrite (m : Mach) (r : CmdRec) (h_m : m.Good) : (doCanMapWrite m r).m.Good := by
  unfold doCanMapWrite
  repeat' (first
    | with_reducible assumption
    | with_reducible apply good_Mach_did
    | with_reducible apply good_Dev_onColmo
    | with_reducible apply good_foldl
    | with_reducible apply goodD_foldl
    | with_reducible apply goodM_foldl
    | with_reducible apply good_projDev
    | with_reducible apply good_projA
    | with_reducible apply good_projB
    | (with_reducible exact goodM_smcMem (by with_reducible assumption))
    | with_reducible apply good_Chan_inv
    | with_reducible apply good_Chan_invNil
    | (with_reducible exact good_mk (by with_reducible assumption))
    | (with_reducible exact goodD_mk (by with_reducible assumption))
    | split
    | (intro _))
theorem good_doCanMapCommit (m : Mach) (h_m : m.Good) : (doCanMapCommit m).m.Good := by
  unfold doCanMapCommit
  repeat' (first
    | with_reducible assumption
    | with_reducible apply good_Mach_did
    | with_reducible apply good_Dev_onArch
    | with_reducible apply good_foldl
    | with_reducible apply goodD_foldl
    | with_reducible apply goodM_foldl
    | with_reducible apply good_projDev
    | with_reducible apply good_projA
    | with_reducible apply good_projB
    | (with_reducible exact goodM_smcMem (by with_reducible assumption))
    | with_reducible apply good_Chan_inv
    | with_reducible apply good_Chan_invNil
    | (with_reducible exact good_mk (by with_reducible assumption))
    | (with_reducible exact goodD_mk (by with_reducible assumption))
    | split
    | (intro _))
theorem good_doCanMapRead (m : Mach) (r : CmdRec) (h_m : m.Good) : (doCanMapRead m r).m.Good := by
  unfold doCanMapRead
  repeat' (first
    | with_reducible assumption
    | with_reducible apply good_Res_ok)
theorem good_Mach_performOp (m : Mach) (rq : Req) (r : CmdRec) (o : Op) (h_m : m.Good) : (Mach.performOp m rq r o).m.Good := by
  unfold Mach.performOp
  repeat' (first
    | with_reducible assumption
    | with_reducible apply good_doInfo
    | with_reducible apply good_doSessionNonce
    | with_reducible apply good_doSessionKey
    | with_reducible apply good_doSessionEnd
    | with_reducible apply good_doFlowOpen
    | with_reducible apply good_doFlowClose
    | with_reducible apply good_doNtfAck
    | with_reducible apply good_doIdentitySet
    | with_reducible apply good_doHostcfgWrite
    | with_reducible apply good_doPsetReadback
    | with_reducible apply good_Chan_tuningCommit
    | with_reducible apply good_doTuningCommit
    | with_reducible apply good_Chan_safetyStage
    | with_reducible apply good_doSafetyStage
    | with_reducible apply good_Chan_safetyConfirm
    | with_reducible apply good_doSafetyConfirm
    | with_reducible apply good_doPsetStore
    | with_reducible apply good_doPsetLoad
    | with_reducible apply good_doArm
    | with_reducible apply good_doDisarm
    | with_reducible apply good_doClearFault
    | with_reducible apply good_doReset
    | with_reducible apply good_doStreamTorque
    | with_reducible apply good_doStreamSpeedLimit
    | with_reducible apply good_doRegRead
    | with_reducible apply good_Chan_regWrite
    | with_reducible apply good_doRegWrite
    | with_reducible apply good_doTlmSubscribe
    | with_reducible apply good_doTlmUnsubscribe
    | with_reducible apply good_doEvtFilter
    | with_reducible apply good_doSnapCfg
    | with_reducible apply good_doSnapTrigger
    | with_reducible apply good_doSnapRelease
    | with_reducible apply good_doSnapList
    | with_reducible apply good_doArcRead
    | with_reducible apply good_doCountersRead
    | with_reducible apply good_doSkimPass
    | with_reducible apply good_doBistRun
    | with_reducible apply good_doShutdown
    | with_reducible apply good_doPowerState
    | with_reducible apply good_doFwStage
    | with_reducible apply good_doFwActivate
    | with_reducible apply good_doFwConfirm
    | with_reducible apply good_doLcNonce
    | with_reducible apply good_doLcToken
    | with_reducible apply good_doAttest
    | with_reducible apply good_doCanMapWrite
    | with_reducible apply good_doCanMapCommit
    | with_reducible apply good_doCanMapRead
    | with_reducible apply good_foldl
    | with_reducible apply goodD_foldl
    | with_reducible apply goodM_foldl
    | with_reducible apply good_projDev
    | with_reducible apply good_projA
    | with_reducible apply good_projB
    | (with_reducible exact goodM_smcMem (by with_reducible assumption))
    | with_reducible apply good_Chan_inv
    | with_reducible apply good_Chan_invNil
    | (with_reducible exact good_mk (by with_reducible assumption))
    | (with_reducible exact goodD_mk (by with_reducible assumption))
    | split)
theorem good_Mach_post (m : Mach) (rq : Req) (l : List (Nat × Ch × CmdRec)) (ch : Ch) (h_m : m.Good) : (Mach.post m rq l ch).Good := by
  unfold Mach.post
  repeat' (first
    | with_reducible assumption
    | with_reducible apply good_Chan_p
    | with_reducible apply good_Dev_p
    | with_reducible apply good_Mach_onChan
    | with_reducible apply good_foldl
    | with_reducible apply goodD_foldl
    | with_reducible apply goodM_foldl
    | with_reducible apply good_projDev
    | with_reducible apply good_projA
    | with_reducible apply good_projB
    | (with_reducible exact goodM_smcMem (by with_reducible assumption))
    | with_reducible apply good_Chan_inv
    | with_reducible apply good_Chan_invNil
    | (with_reducible exact good_mk (by with_reducible assumption))
    | (with_reducible exact goodD_mk (by with_reducible assumption))
    | split
    | (intro _)
    | (extract_lets +onlyGivenNames x; first | (refine good_use (x := x) ?_ (fun hx => ?_)) | (refine good_use (x := x.1) ?_ (fun hx => ?_)) | (refine (have hx : Dev.Good x := ?_; ?_)) | (refine (have hx : Dev.Good x.1 := ?_; ?_)) | (refine (have hx : Mach.Good x := ?_; ?_)) | (refine (have hx : Mach.Good x.1 := ?_; ?_)) | (refine (have hx : Mach.Good x.m := ?_; ?_)) | (refine (have hx : Chan.Good ch x := ?_; ?_)) | clear_value x))
/-- The machine that the records of a bundle leave is in canonical form. -/
def Ran.Good : Ran → Prop
  | .all d => d.m.Good
  | .bad k _ _ => ∀ x, k = some x → x.Good
theorem good_runRecs (can : Bool) (rq : Req) (l : List CmdRec) (d : Done) (h : d.m.Good) : (runRecs can rq l d).Good := by
  induction l generalizing d with
  | nil => exact h
  | cons r l ih =>
    unfold runRecs
    extract_lets i
    split
    · intro x hx; cases hx
    · extract_lets st x p
      have hx : x.m.Good := good_Mach_performOp _ _ _ _ h
      clear_value st x p
      split
      · intro x hx; cases hx
      · split
        · intro y hy; injection hy with hy; rw [← hy]; exact hx
        · exact ih _ hx
theorem good_Mach_runBundle (m : Mach) (can : Bool) (rq : Req) (l : List CmdRec) (extra : Bool) (h_m : m.Good) : (Mach.runBundle m can rq l extra).Good := by
  unfold Mach.runBundle
  have no : ∀ (k : Mach) (i : Nat) (st : St) (n : Nat), k.Good → (k.onDev (fun d => d.refuse rq st.code i n [])).Good :=
    fun k i st n hk => good_Mach_onDev _ _ hk (fun d hd => good_Dev_refuse _ _ _ _ _ _ hd)
  have hr := good_runRecs can rq l { m := m } h_m
  dsimp only
  split
  · exact no _ _ _ _ h_m
  · split
    · exact no _ _ _ _ h_m
    · split
      · rename_i k i st e
        rw [e] at hr
        refine no _ _ _ _ ?_
        cases k with
        | none => exact h_m
        | some x => exact hr x rfl
      · rename_i d e
        rw [e] at hr
        split
        · exact no _ _ _ _ h_m
        · exact good_Mach_onDev _ _ (good_Mach_post _ _ _ _ (good_Mach_post _ _ _ _ hr)) (fun d hd => good_Dev_settle _ _ _ hd)
theorem good_doBundleProcess (m0 : Mach) (h_m0 : m0.Good) : (doBundleProcess m0).Good := by
  unfold doBundleProcess
  repeat' (first
    | with_reducible assumption
    | with_reducible apply good_Mach_collect
    | with_reducible apply good_Mach_onDev
    | with_reducible apply good_Dev_onQueue
    | with_reducible apply good_Dev_freeFrames
    | with_reducible apply good_Mach_runBundle
    | with_reducible apply good_Mach_runDue
    | with_reducible apply good_foldl
    | with_reducible apply goodD_foldl
    | with_reducible apply goodM_foldl
    | with_reducible apply good_projDev
    | with_reducible apply good_projA
    | with_reducible apply good_projB
    | (with_reducible exact goodM_smcMem (by with_reducible assumption))
    | with_reducible apply good_Chan_inv
    | with_reducible apply good_Chan_invNil
    | (with_reducible exact good_mk (by with_reducible assumption))
    | (with_reducible exact goodD_mk (by with_reducible assumption))
    | split
    | (intro _)
    | (extract_lets +onlyGivenNames x; first | (refine good_use (x := x) ?_ (fun hx => ?_)) | (refine good_use (x := x.1) ?_ (fun hx => ?_)) | (refine (have hx : Dev.Good x := ?_; ?_)) | (refine (have hx : Dev.Good x.1 := ?_; ?_)) | (refine (have hx : Mach.Good x := ?_; ?_)) | (refine (have hx : Mach.Good x.1 := ?_; ?_)) | (refine (have hx : Mach.Good x.m := ?_; ?_)) | clear_value x))
theorem good_Mach_take (m : Mach) (ch : Ch) (rq : Req) (hold : Bool) (r : CmdRec) (h_m : m.Good) : (Mach.take m ch rq hold r).m.Good := by
  unfold Mach.take
  repeat' (first
    | with_reducible assumption
    | with_reducible apply good_takePsetReadback
    | with_reducible apply good_Chan_tuningCommit
    | with_reducible apply good_takeTuningCommit
    | with_reducible apply good_Chan_safetyStage
    | with_reducible apply good_takeSafetyStage
    | with_reducible apply good_Chan_safetyConfirm
    | with_reducible apply good_takeSafetyConfirm
    | with_reducible apply good_takePsetLoad
    | with_reducible apply good_takeArm
    | with_reducible apply good_takeDisarm
    | with_reducible apply good_takeClearFault
    | with_reducible apply good_takeStream
    | with_reducible apply good_Chan_regWrite
    | with_reducible apply good_takeRegWrite
    | with_reducible apply good_takeSnapTrigger
    | with_reducible apply good_takeSkimPass
    | with_reducible apply good_foldl
    | with_reducible apply goodD_foldl
    | with_reducible apply goodM_foldl
    | with_reducible apply good_projDev
    | with_reducible apply good_projA
    | with_reducible apply good_projB
    | (with_reducible exact goodM_smcMem (by with_reducible assumption))
    | with_reducible apply good_Chan_inv
    | with_reducible apply good_Chan_invNil
    | (with_reducible exact good_mk (by with_reducible assumption))
    | (with_reducible exact goodD_mk (by with_reducible assumption))
    | split)
theorem good_Mach_refusePart (m : Mach) (ch : Ch) (p : Part) (i : Nat) (st : Nat) (h_m : m.Good) : (Mach.refusePart m ch p i st).Good := by
  unfold Mach.refusePart
  repeat' (first
    | with_reducible assumption
    | with_reducible apply good_Mach_onChan
    | with_reducible apply good_Chan_partRefused
    | with_reducible apply good_Chan_p
    | with_reducible apply good_Dev_p
    | with_reducible apply good_Mach_onDev
    | with_reducible apply good_Dev_partTaken
    | with_reducible apply good_foldl
    | with_reducible apply goodD_foldl
    | with_reducible apply goodM_foldl
    | with_reducible apply good_projDev
    | with_reducible apply good_projA
    | with_reducible apply good_projB
    | (with_reducible exact goodM_smcMem (by with_reducible assumption))
    | with_reducible apply good_Chan_inv
    | with_reducible apply good_Chan_invNil
    | (with_reducible exact good_mk (by with_reducible assumption))
    | (with_reducible exact goodD_mk (by with_reducible assumption))
    | split
    | (intro _))
theorem good_Taking_step (ch : Ch) (p : Part) (k : Taking) (x : Nat × CmdRec) (h : k.m.Good) : (Taking.step ch p k x).m.Good := by
  unfold Taking.step
  extract_lets commits t
  split
  · exact h
  · exact good_Mach_take _ _ _ _ _ h
theorem good_takeFold (ch : Ch) (p : Part) (l : List (Nat × CmdRec)) (k : Taking) (h : k.m.Good) : (l.foldl (Taking.step ch p) k).m.Good := by
  induction l generalizing k with
  | nil => exact h
  | cons x l ih => exact ih _ (good_Taking_step _ _ _ _ h)
theorem good_Mach_takePart (m : Mach) (ch : Ch) (p : Part) (h_m : m.Good) : (Mach.takePart m ch p).Good := by
  unfold Mach.takePart
  split
  · exact good_Mach_refusePart _ _ _ _ _ h_m
  · refine good_Mach_onDev _ _ (good_takeFold _ _ _ _ ?_) (fun d hd => good_Dev_partTaken _ _ _ hd)
    exact good_Mach_onChan _ _ _ h_m (fun c hc => good_doShadowCopyEnd _ hc)
theorem good_doMailboxPartTake (ch : Ch) (m0 : Mach) (h_m0 : m0.Good) : (doMailboxPartTake ch m0).Good := by
  unfold doMailboxPartTake
  repeat' (first
    | with_reducible assumption
    | with_reducible apply good_Mach_collect
    | with_reducible apply good_Mach_chan
    | with_reducible apply good_Chan_p
    | with_reducible apply good_Dev_p
    | with_reducible apply good_Mach_onChan
    | with_reducible apply good_Mach_takePart
    | with_reducible apply good_Mach_runDue
    | with_reducible apply good_foldl
    | with_reducible apply goodD_foldl
    | with_reducible apply goodM_foldl
    | with_reducible apply good_projDev
    | with_reducible apply good_projA
    | with_reducible apply good_projB
    | (with_reducible exact goodM_smcMem (by with_reducible assumption))
    | with_reducible apply good_Chan_inv
    | with_reducible apply good_Chan_invNil
    | (with_reducible exact good_mk (by with_reducible assumption))
    | (with_reducible exact goodD_mk (by with_reducible assumption))
    | split
    | (intro _)
    | (extract_lets +onlyGivenNames x; first | (refine good_use (x := x) ?_ (fun hx => ?_)) | (refine good_use (x := x.1) ?_ (fun hx => ?_)) | (refine (have hx : Dev.Good x := ?_; ?_)) | (refine (have hx : Dev.Good x.1 := ?_; ?_)) | (refine (have hx : Mach.Good x := ?_; ?_)) | (refine (have hx : Mach.Good x.1 := ?_; ?_)) | (refine (have hx : Mach.Good x.m := ?_; ?_)) | (refine (have hx : Chan.Good ch x := ?_; ?_)) | clear_value x))
theorem good_doMailboxTimeout (ch : Ch) (m : Mach) (h_m : m.Good) : (doMailboxTimeout ch m).Good := by
  unfold doMailboxTimeout
  repeat' (first
    | with_reducible assumption
    | with_reducible apply good_Mach_view
    | with_reducible apply good_Mach_onChan
    | with_reducible apply good_Chan_p
    | with_reducible apply good_Dev_p
    | with_reducible apply good_Mach_onDev
    | with_reducible apply good_Dev_partTaken
    | with_reducible apply good_foldl
    | with_reducible apply goodD_foldl
    | with_reducible apply goodM_foldl
    | with_reducible apply good_projDev
    | with_reducible apply good_projA
    | with_reducible apply good_projB
    | (with_reducible exact goodM_smcMem (by with_reducible assumption))
    | with_reducible apply good_Chan_inv
    | with_reducible apply good_Chan_invNil
    | (with_reducible exact good_mk (by with_reducible assumption))
    | (with_reducible exact goodD_mk (by with_reducible assumption))
    | split
    | (intro _)
    | (extract_lets +onlyGivenNames x; first | (refine good_use (x := x) ?_ (fun hx => ?_)) | (refine good_use (x := x.1) ?_ (fun hx => ?_)) | (refine (have hx : Dev.Good x := ?_; ?_)) | (refine (have hx : Dev.Good x.1 := ?_; ?_)) | (refine (have hx : Mach.Good x := ?_; ?_)) | (refine (have hx : Mach.Good x.1 := ?_; ?_)) | (refine (have hx : Mach.Good x.m := ?_; ?_)) | (refine (have hx : Chan.Good ch x := ?_; ?_)) | clear_value x))
theorem good_Mach_runMapped (pgn : Nat) (src : Nat) (data : List Nat) (seq : Nat) (time : Nat) (m : Mach) (e : MapEnt) (h_m : m.Good) : (Mach.runMapped pgn src data seq time m e).Good := by
  unfold Mach.runMapped
  repeat' (first
    | with_reducible assumption
    | with_reducible apply good_Mach_runBundle
    | with_reducible apply good_foldl
    | with_reducible apply goodD_foldl
    | with_reducible apply goodM_foldl
    | with_reducible apply good_projDev
    | with_reducible apply good_projA
    | with_reducible apply good_projB
    | (with_reducible exact goodM_smcMem (by with_reducible assumption))
    | with_reducible apply good_Chan_inv
    | with_reducible apply good_Chan_invNil
    | (with_reducible exact good_mk (by with_reducible assumption))
    | (with_reducible exact goodD_mk (by with_reducible assumption))
    | split)
theorem good_doCanMappedMessage (pgn : Nat) (src : Nat) (dst : Nat) (data : List Nat) (seq : Nat) (time : Nat) (m : Mach) (h_m : m.Good) : (doCanMappedMessage pgn src dst data seq time m).Good := by
  unfold doCanMappedMessage
  repeat' (first
    | with_reducible assumption
    | with_reducible apply good_Mach_runMapped
    | with_reducible apply good_foldl
    | with_reducible apply goodD_foldl
    | with_reducible apply goodM_foldl
    | with_reducible apply good_projDev
    | with_reducible apply good_projA
    | with_reducible apply good_projB
    | (with_reducible exact goodM_smcMem (by with_reducible assumption))
    | with_reducible apply good_Chan_inv
    | with_reducible apply good_Chan_invNil
    | (with_reducible exact good_mk (by with_reducible assumption))
    | (with_reducible exact goodD_mk (by with_reducible assumption))
    | split)
theorem good_hostCommand (o : Op) (rq : Req) (target : Nat) (args : List Nat) (m0 : Mach) (h_m0 : m0.Good) : (hostCommand o rq target args m0).Good := by
  unfold hostCommand
  repeat' (first
    | with_reducible assumption
    | with_reducible apply good_Mach_collect
    | with_reducible apply good_Mach_runBundle
    | with_reducible apply good_Mach_runDue
    | with_reducible apply good_foldl
    | with_reducible apply goodD_foldl
    | with_reducible apply goodM_foldl
    | with_reducible apply good_projDev
    | with_reducible apply good_projA
    | with_reducible apply good_projB
    | (with_reducible exact goodM_smcMem (by with_reducible assumption))
    | with_reducible apply good_Chan_inv
    | with_reducible apply good_Chan_invNil
    | (with_reducible exact good_mk (by with_reducible assumption))
    | (with_reducible exact goodD_mk (by with_reducible assumption))
    | split
    | (intro _)
    | (extract_lets +onlyGivenNames x; first | (refine good_use (x := x) ?_ (fun hx => ?_)) | (refine good_use (x := x.1) ?_ (fun hx => ?_)) | (refine (have hx : Dev.Good x := ?_; ?_)) | (refine (have hx : Dev.Good x.1 := ?_; ?_)) | (refine (have hx : Mach.Good x := ?_; ?_)) | (refine (have hx : Mach.Good x.1 := ?_; ?_)) | (refine (have hx : Mach.Good x.m := ?_; ?_)) | clear_value x))


end Sys2Proof.Machine
end

