-- ==== Sys2Proof/Laws/GoodRun.lean ====
section
/-! SUPPORT. Laws/GoodRun.lean: the canonical form under the ways a command reaches the machine. -/

set_option Elab.async false

namespace Sys2Proof.Machine
open Sys2Proof

/-- An outcome whose next state, where it has one, is in canonical form. -/
def GoodOut (o : Host.Outcome State Fault Refusal) : Prop := ∀ t, o = .next t → t.m.Good

theorem goodOut_chan (s : State) (t : Tick) (ch : Ch) (f : Chan → Chan) (h : s.m.Good)
    (hf : ∀ c : Chan, c.Good ch → (f c).Good ch) : GoodOut (s.chan t ch f) := by
  intro u e
  injection e with e
  rw [← e]
  exact good_Mach_onChan _ _ _ (good_Mach_advance _ _ h) hf

theorem goodOut_live (s : State) (t : Tick) (ch : Ch) (f : Chan → Chan) (h : s.m.Good)
    (hf : ∀ c : Chan, c.Good ch → (f c).Good ch) : GoodOut (s.live t ch f) :=
  goodOut_chan s t ch _ h (fun c hc => good_live f c hf hc)

theorem goodOut_onDev (s : State) (t : Tick) (f : Dev → Dev) (h : s.m.Good) (hf : ∀ d : Dev, d.Good → (f d).Good) :
    GoodOut (s.onDev t f) := by
  intro u e
  injection e with e
  rw [← e]
  exact ⟨h.1, h.2.1, hf _ h.2.2.1, h.2.2.2⟩

theorem goodOut_onMach (s : State) (t : Tick) (f : Mach → Mach) (h : s.m.Good) (hf : ∀ m : Mach, m.Good → (f m).Good) :
    GoodOut (s.onMach t f) := by
  intro u e
  injection e with e
  rw [← e]
  exact hf _ h

theorem goodOut_commit (s : State) (t : Tick) (ch : Ch) (f : Nat → Chan → Chan) (h : s.m.Good)
    (hf : ∀ (n : Nat) (c : Chan), c.Good ch → (f n c).Good ch) : GoodOut (s.commit t ch f) :=
  goodOut_live s t ch _ h (fun c hc => good_quietly _ c (hf _) hc)

theorem goodOut_cvu (s : State) (t : Tick) (ch : Option Ch) (n : Nat) (f : Chan → Nat → Chan) (g : Dev → Nat → Dev) (h : s.m.Good)
    (hf : ∀ (k : Ch) (c : Chan), c.Good k → (f c n).Good k) (hg : ∀ d : Dev, d.Good → (g d n).Good) : GoodOut (s.cvu t ch n f g) := by
  unfold State.cvu
  split
  · exact goodOut_live s t _ _ h (fun c hc => by split; exact hf _ c hc; exact hc)
  · exact goodOut_onDev s t _ h (fun d hd => by split; exact hg d hd; exact hd)

end Sys2Proof.Machine
end

