-- ==== Sys2Proof/Laws/React.lean ====
section
/-! SUPPORT. Laws/React.lean: what a source raised or cleared at the dust sheet can change: one lemma an operation. -/

set_option Elab.async false

namespace Sys2Proof.Machine
open Sys2Proof

/-- What the reaction to sources leaves of a channel: every register but its own, every LATCHED bit that was set, FAULT where it was in force
(with `q`), and the parts that it never writes. -/
structure Chan.Reacts (q : Bool) (c0 c : Chan) : Prop where
  calm : ∀ a, reactionRegs.contains a = false → c.rd a = c0.rd a
  latched : ∀ s : Src, s.bit < 16 → c0.srcLatched s = true → c.srcLatched s = true
  fault : q = true → c0.state = FAULT → c.state = FAULT
  id : c.id = c0.id
  now : c.now = c0.now
  shadow : c.shadow = c0.shadow
  inv : c.inv = c0.inv
  tcm : c.tcm = c0.tcm
  mail : c.mail = c0.mail
  subs : c.subs = c0.subs
  bases : c.bases = c0.bases
  adc : c.adc = c0.adc
  sinc : c.sinc = c0.sinc
  xchk : c.xchk = c0.xchk
  skim : c.skim = c0.skim
  free : c.free = c0.free
  noArm : c0.ctl.arm = none → c.ctl.arm = none
  slices : c0.SlicesKept c
  slFlds : c0.SlFldsKept c

theorem slicesKept_trans {a b c : Chan} (h : a.SlicesKept b) (k : b.SlicesKept c) : a.SlicesKept c := fun n => by
  have h := h n
  have k := k n
  rw [← k] at h
  rw [← h]

theorem react_refl {q : Bool} (c : Chan) : Chan.Reacts q c c :=
  ⟨fun _ _ => rfl, fun _ _ h => h, fun _ h => h, rfl, rfl, rfl, rfl, rfl, rfl, rfl, rfl, rfl, rfl, rfl, rfl, rfl, fun h => h, fun _ => rfl, fun _ _ _ _ => rfl⟩

theorem react_trans {q : Bool} {a b c : Chan} (h : a.Reacts q b) (k : b.Reacts q c) : a.Reacts q c :=
  ⟨fun x hx => (k.calm x hx).trans (h.calm x hx), fun s hs hl => k.latched s hs (h.latched s hs hl), fun hq hf => k.fault hq (h.fault hq hf),
   k.id.trans h.id, k.now.trans h.now, k.shadow.trans h.shadow, k.inv.trans h.inv, k.tcm.trans h.tcm, k.mail.trans h.mail, k.subs.trans h.subs,
   k.bases.trans h.bases, k.adc.trans h.adc, k.sinc.trans h.sinc, k.xchk.trans h.xchk, k.skim.trans h.skim, k.free.trans h.free,
   fun ha => k.noArm (h.noArm ha), slicesKept_trans h.slices k.slices,
   fun n hn f hf => (k.slFlds n hn f hf).trans (h.slFlds n hn f hf)⟩

theorem react_mk {q : Bool} {c0 c : Chan} {x_parked : Bool} {x_tb : TimeBase} {x_out : RecOut} {x_answers : List OpDone}
    {x_ring : Ring} {x_dtc : Dtc} {x_mask : Mask} {x_obs : Obs} {x_modul : Modul} {x_prot : Prot} {x_dust : Dust}
    {x_msio : Msio} {x_life : Life} (h : c0.Reacts q c) :
    c0.Reacts q (Chan.mk c.id c.now x_parked c.free c.regs c.shadow c.inv c.tcm x_tb x_out x_answers c.mail c.subs c.ctl c.bases x_ring c.adc c.sinc
      c.xchk x_dtc x_mask x_obs c.skim c.slices x_modul x_prot x_dust x_msio x_life) :=
  ⟨h.calm, h.latched, h.fault, h.id, h.now, h.shadow, h.inv, h.tcm, h.mail, h.subs, h.bases, h.adc, h.sinc, h.xchk, h.skim, h.free, h.noArm, h.slices, h.slFlds⟩

/-- The SRC_STATUS registers are none of the reaction's own. -/
theorem src_not_own (blk : Nat) : reactionOwn.contains (srcRegs blk).src = false := by
  unfold srcRegs
  split <;> decide

theorem src_ne_state (blk : Nat) : (srcRegs blk).src ≠ CH_STATE := by
  intro h
  have k := src_not_own blk
  rw [h] at k
  revert k
  decide

theorem contains_append_false {l k : List Nat} {a : Nat} (h : (l ++ k).contains a = false) : l.contains a = false ∧ k.contains a = false := by
  simpa using h

/-- A source register of any block is one of the reaction's. -/
theorem source_contains (blk a : Nat) (h : (sourceRegs blk).contains a = true) : reactionRegs.contains a = true := by
  have key : ∀ k < 13, (sourceRegs k).contains a = true → reactionRegs.contains a = true := by
    intro k hk hc
    simp only [reactionRegs, List.contains_eq_mem, decide_eq_true_eq, List.mem_append, List.mem_flatMap, List.mem_range] at hc ⊢
    exact Or.inl ⟨k, hk, hc⟩
  by_cases hb : blk < 13
  · exact key blk hb h
  · refine key 12 (by decide) ?_
    have e : srcRegs blk = srcRegs 12 := by
      unfold srcRegs
      split <;> first | omega | rfl
    simpa only [sourceRegs, e] using h

theorem own_contains (a : Nat) (h : reactionOwn.contains a = true) : reactionRegs.contains a = true := by
  simp only [reactionRegs, List.contains_eq_mem, decide_eq_true_eq, List.mem_append] at h ⊢
  exact Or.inr h

/-- A write elsewhere leaves the fields of SL_STATUS. -/
theorem slFlds_reg {n : Nat} {f : Fld} (h : f ∈ slFlds n) : f.reg = SL_STATUS n := by
  simp only [slFlds, List.mem_cons, List.not_mem_nil, or_false] at h
  rcases h with rfl | rfl | rfl | rfl | rfl | rfl <;> rfl
theorem slFldsKept_wr {c0 c : Chan} {a v : Nat} (h : c0.SlFldsKept c) (ha : (List.range 8).all (fun n => SL_STATUS n != a) = true) : c0.SlFldsKept (c.wr a v) := by
  intro n hn f hf
  rw [Chan.g_wr_reg, h n hn f hf]
  rw [slFlds_reg hf]
  have := List.all_eq_true.1 ha n (List.mem_range.2 hn)
  simpa using this

theorem react_wr {q : Bool} {c0 c : Chan} {a v : Nat} (h : c0.Reacts q c) (ha : reactionOwn.contains a = true) (hs : a ≠ CH_STATE)
    (hl : (List.range 8).all (fun n => SL_STATUS n != a) = true := by decide) : c0.Reacts q (c.wr a v) := by
  refine { h with calm := ?_, latched := ?_, fault := ?_, slFlds := slFldsKept_wr h.slFlds hl }
  · intro x hx
    rw [Chan.rd_wr_other, h.calm x hx]
    intro e
    rw [e, own_contains a ha] at hx
    cases hx
  · intro s hs hl
    have k := h.latched s hs hl
    unfold Chan.srcLatched at k ⊢
    rw [Chan.rd_wr_other]
    · exact k
    · intro e
      have := src_not_own s.blk
      rw [e, ha] at this
      cases this
  · intro hq hf
    have k := h.fault hq hf
    unfold Chan.state at k ⊢
    rw [Chan.g_wr_reg _ _ _ _ (fun e => hs e.symm)]
    exact k

theorem react_p {q : Bool} {c0 c : Chan} {f : Fld} {v : Nat} (h : c0.Reacts q c) (ha : reactionOwn.contains f.reg = true) (hk : f.ok = true)
    (hs : f.apart CH_STATE_STATE = true) (hl : (List.range 8).all (fun n => SL_STATUS n != f.reg) = true := by decide) : c0.Reacts q (c.p f v) := by
  by_cases e : f.reg = CH_STATE
  · refine { h with calm := ?_, latched := ?_, fault := ?_, slFlds := slFldsKept_wr h.slFlds hl }
    · intro x hx
      rw [Chan.rd_p_other, h.calm x hx]
      intro e
      rw [e, own_contains _ ha] at hx
      cases hx
    · intro s hs hl
      have k := h.latched s hs hl
      unfold Chan.srcLatched at k ⊢
      rw [Chan.rd_p_other]
      · exact k
      · rw [e]; exact src_ne_state _
    · intro hq hf
      have k := h.fault hq hf
      unfold Chan.state at k ⊢
      rw [Chan.g_p_other _ _ _ _ hk (by decide) hs]
      exact k
  · exact react_wr h ha e hl

theorem react_pi {q : Bool} {c0 c : Chan} {f : Fld} {v : Int} (h : c0.Reacts q c) (ha : reactionOwn.contains f.reg = true) (hk : f.ok = true)
    (hs : f.apart CH_STATE_STATE = true) (hl : (List.range 8).all (fun n => SL_STATUS n != f.reg) = true := by decide) : c0.Reacts q (c.pi f v) := react_p h ha hk hs hl
theorem react_pb {q : Bool} {c0 c : Chan} {f : Fld} {i : Nat} {v : Bool} (h : c0.Reacts q c) (ha : reactionOwn.contains f.reg = true)
    (hk : f.ok = true) (hs : f.apart CH_STATE_STATE = true) (hl : (List.range 8).all (fun n => SL_STATUS n != f.reg) = true := by decide) : c0.Reacts q (c.pb f i v) := react_p h ha hk hs hl
theorem react_satInc {q : Bool} {c0 c : Chan} {f : Fld} (h : c0.Reacts q c) (ha : reactionOwn.contains f.reg = true) (hk : f.ok = true)
    (hs : f.apart CH_STATE_STATE = true) (hl : (List.range 8).all (fun n => SL_STATUS n != f.reg) = true := by decide) : c0.Reacts q (c.satInc f) := react_p h ha hk hs hl
theorem react_wrapInc {q : Bool} {c0 c : Chan} {f : Fld} (h : c0.Reacts q c) (ha : reactionOwn.contains f.reg = true) (hk : f.ok = true)
    (hs : f.apart CH_STATE_STATE = true) (hl : (List.range 8).all (fun n => SL_STATUS n != f.reg) = true := by decide) : c0.Reacts q (c.wrapInc f) := react_p h ha hk hs hl

/-- A write of the state: FAULT stays only where FAULT is written. -/
theorem react_pState {q : Bool} {c0 c : Chan} {v : Nat} (h : c0.Reacts q c) (hv : q = true → v = FAULT) : c0.Reacts q (c.p CH_STATE_STATE v) := by
  refine { h with calm := ?_, latched := ?_, fault := ?_, slFlds := slFldsKept_wr h.slFlds (by decide) }
  · intro x hx
    rw [Chan.rd_p_other, h.calm x hx]
    intro e
    rw [e] at hx
    revert hx
    decide
  · intro s hs hl
    have k := h.latched s hs hl
    unfold Chan.srcLatched at k ⊢
    rw [Chan.rd_p_other]
    · exact k
    · exact src_ne_state _
  · intro hq _
    unfold Chan.state
    rw [Chan.g_p_same _ _ _ (by decide), hv hq]
    decide

/-- A write of a block's SRC_STATUS that sets every LATCHED bit that was set. -/
theorem react_src {q : Bool} {c0 c : Chan} {blk v : Nat} (h : c0.Reacts q c)
    (hv : ∀ i < 16, (c.rd (srcRegs blk).src).testBit i = true → v.testBit i = true) : c0.Reacts q (c.wr (srcRegs blk).src v) := by
  refine { h with calm := ?_, latched := ?_, fault := ?_, slFlds := slFldsKept_wr h.slFlds (by unfold srcRegs; split <;> decide) }
  · intro x hx
    rw [Chan.rd_wr_other, h.calm x hx]
    intro e
    rw [e, source_contains blk _ (by simp [sourceRegs])] at hx
    cases hx
  · intro s hs hl
    have k := h.latched s hs hl
    unfold Chan.srcLatched at k ⊢
    by_cases e : (srcRegs s.blk).src = (srcRegs blk).src
    · rw [e] at k ⊢
      rw [Chan.rd_wr_same, Nat.testBit_mod_two_pow]
      simp [hv _ hs k, show s.bit < 32 by omega]
    · rw [Chan.rd_wr_other _ _ _ _ e]
      exact k
  · intro hq hf
    have k := h.fault hq hf
    unfold Chan.state at k ⊢
    rw [Chan.g_wr_reg _ _ _ _ (fun e => src_ne_state blk e.symm)]
    exact k

/-- The four capture registers of a block. -/
theorem ff_not_src (blk k i : Nat) (hi : i < 13) : (srcRegs blk).src ≠ (srcRegs k).ff + i := by
  have h : ∀ a ∈ [CH_FF_SRC, ADC_FF_SRC, SD_FF_SRC, XC_FF_SRC, DTC_FF_SRC, MASK_FF_SRC, OBS_FF_SRC, SL_FF_SRC, PROT_FF_SRC, DUST_FF_SRC, MSIO_FF_SRC,
      CORE_FF_SRC, SKIM_FF_SRC], ∀ b ∈ [CH_SRC_STATUS, ADC_SRC_STATUS, SD_SRC_STATUS, XC_SRC_STATUS, DTC_SRC_STATUS, MASK_SRC_STATUS,
      OBS_SRC_STATUS, SL_SRC_STATUS, PROT_SRC_STATUS, DUST_SRC_STATUS, MSIO_SRC_STATUS, CORE_SRC_STATUS, SKIM_SRC_STATUS], ∀ i < 13, b ≠ a + i := by
    decide
  refine h _ ?_ _ ?_ i hi
  · unfold srcRegs; split <;> decide
  · unfold srcRegs; split <;> decide

theorem ff_ne_state (k i : Nat) : (srcRegs k).ff + i ≠ CH_STATE := by
  have h : 0 < (srcRegs k).ff := by unfold srcRegs; split <;> decide
  show _ ≠ 0
  omega

theorem react_ff {q : Bool} {c0 c : Chan} {blk i v : Nat} (h : c0.Reacts q c) (hi : i = 0 ∨ i = 4 ∨ i = 8 ∨ i = 12) :
    c0.Reacts q (c.wr ((srcRegs blk).ff + i) v) := by
  refine { h with calm := ?_, latched := ?_, fault := ?_, slFlds := slFldsKept_wr h.slFlds (by rcases hi with rfl | rfl | rfl | rfl <;> (unfold srcRegs; split <;> decide)) }
  · intro x hx
    rw [Chan.rd_wr_other, h.calm x hx]
    intro e
    have : (sourceRegs blk).contains ((srcRegs blk).ff + i) = true := by
      rcases hi with rfl | rfl | rfl | rfl <;> simp [sourceRegs]
    rw [e, source_contains blk _ this] at hx
    cases hx
  · intro s hs hl
    have k := h.latched s hs hl
    unfold Chan.srcLatched at k ⊢
    rw [Chan.rd_wr_other]
    · exact k
    · exact ff_not_src _ _ _ (by omega)
  · intro hq hf
    have k := h.fault hq hf
    unfold Chan.state at k ⊢
    rw [Chan.g_wr_reg _ _ _ _ (fun e => ff_ne_state blk i e.symm)]
    exact k

theorem react_foldl {α : Type} {q : Bool} {c0 : Chan} {f : Chan → α → Chan} {l : List α} {c : Chan}
    (hf : ∀ d x, x ∈ l → c0.Reacts q d → c0.Reacts q (f d x)) (h : c0.Reacts q c) : c0.Reacts q (l.foldl f c) := by
  induction l generalizing c with
  | nil => exact h
  | cons x l ih => exact ih (fun d y hy => hf d y (List.mem_cons_of_mem _ hy)) (hf _ _ List.mem_cons_self h)

theorem react_each {q : Bool} {c0 c : Chan} {n : Nat} {f : Chan → Nat → Chan} (hf : ∀ d x, x < n → c0.Reacts q d → c0.Reacts q (f d x))
    (h : c0.Reacts q c) : c0.Reacts q (c.each n f) :=
  react_foldl (fun d x hx hd => hf d x (List.mem_range.1 hx) hd) h

theorem react_use {q : Bool} {c0 x c : Chan} (h : c0.Reacts q x) (f : c0.Reacts q x → c0.Reacts q c) : c0.Reacts q c := f h

theorem pairSlices_lt {p s : Nat} (hp : p < 4) (h : s ∈ pairSlices p) : s < 8 := by
  unfold pairSlices at h
  split at h
  · simp at h; omega
  · simp at h; omega

theorem slice_own {s : Nat} (h : s < 8) : reactionOwn.contains (SL_STATUS s) = true := by
  interval_cases s <;> decide

theorem slice_apart {k : Nat} {f g : Fld} (hg : g ∈ slFlds k) (hf : f = SL_STATUS_PULSE k ∨ f = SL_STATUS_EN k) : f.apart g = true ∧ g.ok = true ∧ f.ok = true := by
  simp only [slFlds, List.mem_cons, List.not_mem_nil, or_false] at hg
  rcases hf with rfl | rfl <;> rcases hg with rfl | rfl | rfl | rfl | rfl | rfl <;> exact ⟨by unfold Fld.apart; simp [SL_STATUS_PULSE, SL_STATUS_EN, SL_STATUS_READY, SL_STATUS_LINK_OK, SL_STATUS_LATCHED, SL_STATUS_GATE_ON, SL_STATUS_SEG_OFF, SL_STATUS_SEG_ON], rfl, rfl⟩

/-- A write of PULSE or EN of SL_STATUS. -/
theorem react_slice {q : Bool} {c0 c : Chan} {f : Fld} {s v : Nat} (h : c0.Reacts q c) (hs : s < 8) (hf : f = SL_STATUS_PULSE s ∨ f = SL_STATUS_EN s) :
    c0.Reacts q (c.p f v) := by
  have hr : f.reg = SL_STATUS s := by rcases hf with rfl | rfl <;> rfl
  have hne : ∀ x, reactionOwn.contains x = false → x ≠ f.reg := fun x hx e => by rw [e, hr, slice_own hs] at hx; cases hx
  refine { h with calm := ?_, latched := ?_, fault := ?_, slFlds := ?_ }
  · intro x hx
    rw [Chan.rd_p_other, h.calm x hx]
    intro e
    rw [e, hr, own_contains _ (slice_own hs)] at hx
    cases hx
  · intro k hk hl
    have k2 := h.latched k hk hl
    unfold Chan.srcLatched at k2 ⊢
    rw [Chan.rd_p_other _ _ _ _ (hne _ (src_not_own k.blk))]
    exact k2
  · intro hq hf2
    have k := h.fault hq hf2
    unfold Chan.state at k ⊢
    rw [Chan.g_p_reg]
    · exact k
    · rw [hr]; show 0 ≠ 0x7018 + 0x100 * s; omega
  · intro n hn g hg
    by_cases e : n = s
    · subst e
      obtain ⟨h1, h2, h3⟩ := slice_apart hg hf
      rw [Chan.g_p_other _ _ _ _ h3 h2 h1]
      exact h.slFlds n hn g hg
    · rw [Chan.g_p_reg]
      · exact h.slFlds n hn g hg
      · rw [slFlds_reg hg, hr]; show 0x7018 + 0x100 * n ≠ 0x7018 + 0x100 * s; omega

/-! ### The sources -/

theorem react_capture {q : Bool} {c0 c : Chan} {s : Src} {seq slice : Nat} (h : c0.Reacts q c) : c0.Reacts q (c.capture s seq slice) := by
  unfold Chan.capture
  dsimp only
  split
  · exact react_ff (i := 0) h (Or.inl rfl)
  · exact react_ff (react_ff (react_ff (react_ff (i := 0) h (Or.inl rfl)) (Or.inr (Or.inl rfl))) (Or.inr (Or.inr (Or.inl rfl)))) (Or.inr (Or.inr (Or.inr rfl)))
theorem react_emit {q : Bool} {c0 c : Chan} {b : RecBody} (h : c0.Reacts q c) : c0.Reacts q (c.emit b) := react_mk h
theorem react_evt {q : Bool} {c0 c : Chan} {t b i s x y : Nat} (h : c0.Reacts q c) : c0.Reacts q (c.evt t b i s x y) := react_mk h
theorem react_srcEvt {q : Bool} {c0 c : Chan} {t : Nat} {s : Src} (h : c0.Reacts q c) : c0.Reacts q (c.srcEvt t s) := react_mk h
theorem react_srcOn {q : Bool} {c0 c : Chan} {s : Src} {slice : Nat} (h : c0.Reacts q c) : c0.Reacts q (c.srcOn s slice) := by
  unfold Chan.srcOn
  dsimp only
  have k : c0.Reacts q (c.wr (srcRegs s.blk).src (setBit (setBit (c.rd (srcRegs s.blk).src) (16 + s.bit) true) s.bit true)) := by
    refine react_src h (fun i hi ht => ?_)
    rw [testBit_setBit, testBit_setBit]
    split
    · rfl
    · split
      · rfl
      · exact ht
  split
  · exact react_srcEvt (react_capture k)
  · exact react_srcEvt k
theorem react_srcOff {q : Bool} {c0 c : Chan} {s : Src} (h : c0.Reacts q c) : c0.Reacts q (c.srcOff s) := by
  unfold Chan.srcOff
  refine react_srcEvt (react_src h (fun i hi ht => ?_))
  rw [testBit_setBit, if_neg (by omega)]
  exact ht
theorem react_offIf {q : Bool} {c0 c : Chan} {s : Src} (h : c0.Reacts q c) : c0.Reacts q (c.offIf s) := by
  unfold Chan.offIf
  split
  · exact react_srcOff h
  · exact h
theorem sl_onSl (c : Chan) (s n : Nat) (f : SliceSt → SliceSt) : (c.onSl s f).sl n = if s = n ∧ s < c.slices.length then f (c.sl s) else c.sl n := by
  unfold Chan.onSl Chan.sl
  dsimp only
  rw [List.getD_eq_getElem?_getD, List.getElem?_set]
  split
  · next h =>
    subst h
    split
    · next h => rw [if_pos ⟨rfl, h⟩]; rfl
    · next h => rw [if_neg (fun k => h k.2), List.getD_eq_getElem?_getD, List.getElem?_eq_none (by omega)]
  · next h => rw [if_neg (fun k => h k.1), List.getD_eq_getElem?_getD]
theorem react_onSl {q : Bool} {c0 c : Chan} {s : Nat} {f : SliceSt → SliceSt} (hf : ∀ x, { f x with wire := x.wire, tags := x.tags } = x) (h : c0.Reacts q c) :
    c0.Reacts q (c.onSl s f) :=
  ⟨h.calm, h.latched, h.fault, h.id, h.now, h.shadow, h.inv, h.tcm, h.mail, h.subs, h.bases, h.adc, h.sinc, h.xchk, h.skim, h.free, h.noArm, by
    refine slicesKept_trans h.slices (fun n => ?_)
    rw [sl_onSl]
    split
    · next k => rw [← k.1]; exact hf _
    · rfl, h.slFlds⟩
theorem react_onCtl {q : Bool} {c0 c : Chan} {f : Ctl → Ctl} (h : c0.Reacts q c) (hf : c.ctl.arm = none → (f c.ctl).arm = none) : c0.Reacts q (c.onCtl f) :=
  ⟨h.calm, h.latched, h.fault, h.id, h.now, h.shadow, h.inv, h.tcm, h.mail, h.subs, h.bases, h.adc, h.sinc, h.xchk, h.skim, h.free, fun ha => hf (h.noArm ha), h.slices, h.slFlds⟩
theorem react_onMod {q : Bool} {c0 c : Chan} {f : Modul → Modul} (h : c0.Reacts q c) : c0.Reacts q (c.onMod f) := react_mk h
theorem react_onProt {q : Bool} {c0 c : Chan} {f : Prot → Prot} (h : c0.Reacts q c) : c0.Reacts q (c.onProt f) := react_mk h
theorem react_onDust {q : Bool} {c0 c : Chan} {f : Dust → Dust} (h : c0.Reacts q c) : c0.Reacts q (c.onDust f) := react_mk h
theorem react_onMsio {q : Bool} {c0 c : Chan} {f : Msio → Msio} (h : c0.Reacts q c) : c0.Reacts q (c.onMsio f) := react_mk h
theorem react_onLife {q : Bool} {c0 c : Chan} {f : Life → Life} (h : c0.Reacts q c) : c0.Reacts q (c.onLife f) := react_mk h
theorem react_onDtc {q : Bool} {c0 c : Chan} {f : Dtc → Dtc} (h : c0.Reacts q c) : c0.Reacts q (c.onDtc f) := react_mk h
theorem react_answer {q : Bool} {c0 c : Chan} {op : ChOp} {st : Nat} {w : List Nat} (h : c0.Reacts q c) : c0.Reacts q (c.answer op st w) := react_mk h
theorem react_armAnswer {q : Bool} {c0 c : Chan} {st : Nat} (h : c0.Reacts q c) : c0.Reacts q (c.armAnswer st) := react_mk h

/-! ### The pairs -/

theorem react_wire {q : Bool} {c0 c : Chan} {s : Nat} {t : Tick} {pu en : Bool} (hs : s < 8) (h : c0.Reacts q c) : c0.Reacts q (c.wire s t pu en) := by
  have k : c0.Reacts q (c.onSl s (fun x => { x with wire := x.wire ++ [⟨t, pu, en⟩] })) := react_onSl (fun _ => rfl) h
  unfold Chan.wire
  dsimp only
  split
  · exact k
  · exact react_slice (react_slice k hs (Or.inl rfl)) hs (Or.inr rfl)
theorem react_recordLeg {q : Bool} {c0 c : Chan} {p : Nat} {t : Tick} (h : c0.Reacts q c) : c0.Reacts q (c.recordLeg p t) := react_mk h
theorem react_legChange {q : Bool} {c0 c : Chan} {p : Nat} {t : Tick} {pu : Bool} (h : c0.Reacts q c) : c0.Reacts q (c.legChange p t pu) := by
  unfold Chan.legChange
  exact react_onDtc (react_onMod (react_mk h))
theorem react_edgeOut {q : Bool} {c0 c : Chan} {p : Nat} {t : Tick} {pu en : Bool} (hp : p < 4) (h : c0.Reacts q c) : c0.Reacts q (c.edgeOut p t pu en) := by
  unfold Chan.edgeOut
  exact react_onMod (react_foldl (fun d s hs hd => react_onSl (fun _ => rfl) (react_wire (pairSlices_lt hp hs) hd)) h)
theorem react_sendPairAt {q : Bool} {c0 c : Chan} {p : Nat} {t : Tick} (hp : p < 4) (h : c0.Reacts q c) : c0.Reacts q (c.sendPairAt p t) := by
  unfold Chan.sendPairAt
  dsimp only
  generalize (c.lastSent (if p = 3 then 6 else 2 * p) == (c.pulseOf p, c.enOut p)) = b
  split
  · exact h
  · split
    · exact react_recordLeg (react_edgeOut hp h)
    · exact react_edgeOut hp h
theorem react_sendPair {q : Bool} {c0 c : Chan} {p : Nat} (hp : p < 4) (h : c0.Reacts q c) : c0.Reacts q (c.sendPair p) := react_sendPairAt hp h
theorem react_setPairAt {q : Bool} {c0 c : Chan} {p : Nat} {t : Tick} {en pu : Bool} (hp : p < 4) (h : c0.Reacts q c) :
    c0.Reacts q (c.setPairAt p t en pu) := by
  unfold Chan.setPairAt
  dsimp only
  refine react_sendPairAt hp (react_pb (react_pb ?_ (by decide) (by decide) (by decide)) (by decide) (by decide) (by decide))
  split
  · exact react_legChange h
  · exact h
theorem react_setPair {q : Bool} {c0 c : Chan} {p : Nat} {en pu : Bool} (hp : p < 4) (h : c0.Reacts q c) : c0.Reacts q (c.setPair p en pu) :=
  react_setPairAt hp h
theorem react_setLegs {q : Bool} {c0 c : Chan} {en pu : Nat} (h : c0.Reacts q c) : c0.Reacts q (c.setLegs en pu) :=
  react_each (fun _ _ hx hd => react_setPair (by omega) hd) h
theorem react_legsOff {q : Bool} {c0 c : Chan} (h : c0.Reacts q c) : c0.Reacts q c.legsOff :=
  react_each (fun _ _ hx hd => react_setPair (by omega) hd) h
theorem react_togglePair {q : Bool} {c0 c : Chan} {p : Nat} (hp : p < 4) (h : c0.Reacts q c) : c0.Reacts q (c.togglePair p) := by
  have k : c0.Reacts q (c.onMod (fun m => { m with ilk := setBit m.ilk p false })) := react_onMod h
  unfold Chan.togglePair
  dsimp only
  generalize (c.onMod (fun m => { m with ilk := setBit m.ilk p false })) = d at k ⊢
  generalize (d.lastSent (if p = 3 then 6 else 2 * p)).2 = b
  split
  · exact k
  · have e : c0.Reacts q (if b = true then d.edgeOut p c.now (c.pulseOf p) false else d) := by
      split
      · exact react_edgeOut hp k
      · exact k
    generalize (if b = true then d.edgeOut p c.now (c.pulseOf p) false else d) = f at e ⊢
    split
    · exact react_edgeOut hp e
    · exact react_edgeOut hp (react_edgeOut hp e)
theorem react_setDchgOut {q : Bool} {c0 c : Chan} {on : Bool} (h : c0.Reacts q c) : c0.Reacts q (c.setDchgOut on) := by
  unfold Chan.setDchgOut
  split
  · exact h
  · exact react_wire (by decide) h

/-! ### The reaction -/

theorem react_reqDiscard {q : Bool} {c0 c : Chan}  (h : c0.Reacts q c) : c0.Reacts q (c.reqDiscard) := by
  unfold Chan.reqDiscard
  repeat' (first
    | with_reducible assumption
    | (with_reducible refine react_p ?_ (by decide) (by decide) (by decide))
    | split
    | (intro _)
    | (extract_lets +onlyGivenNames x; first | (refine react_use (x := x) ?_ (fun hx => ?_)) | clear_value x)
    | (with_reducible exact react_mk (by with_reducible assumption)))
theorem react_armDiscard {q : Bool} {c0 c : Chan}  (h : c0.Reacts q c) : c0.Reacts q (c.armDiscard) := by
  unfold Chan.armDiscard
  repeat' (first
    | with_reducible assumption
    | with_reducible apply react_reqDiscard
    | with_reducible apply react_armAnswer
    | split
    | (intro _)
    | (extract_lets +onlyGivenNames x; first | (refine react_use (x := x) ?_ (fun hx => ?_)) | clear_value x)
    | (with_reducible exact react_mk (by with_reducible assumption)))
theorem react_armLost {q : Bool} {c0 c : Chan} {arm : Option ArmSeq} (h : c0.Reacts q c) : c0.Reacts q (c.armLost arm) := by
  unfold Chan.armLost
  repeat' (first
    | with_reducible assumption
    | with_reducible apply react_armDiscard
    | with_reducible apply react_armAnswer
    | split
    | (intro _)
    | (extract_lets +onlyGivenNames x; first | (refine react_use (x := x) ?_ (fun hx => ?_)) | clear_value x)
    | (with_reducible exact react_mk (by with_reducible assumption)))
theorem react_maskReport {q : Bool} {c0 c : Chan}  (h : c0.Reacts q c) : c0.Reacts q (c.maskReport) := by
  unfold Chan.maskReport
  repeat' (first
    | with_reducible assumption
    | (with_reducible refine react_p ?_ (by decide) (by decide) (by decide))
    | split
    | (intro _)
    | (extract_lets +onlyGivenNames x; first | (refine react_use (x := x) ?_ (fun hx => ?_)) | clear_value x)
    | (with_reducible exact react_mk (by with_reducible assumption)))
theorem react_ringRename {q : Bool} {c0 c : Chan} {seq : Nat} (h : c0.Reacts q c) : c0.Reacts q (c.ringRename seq) := by
  unfold Chan.ringRename
  repeat' (first
    | with_reducible assumption
    | split
    | (intro _)
    | (extract_lets +onlyGivenNames x; first | (refine react_use (x := x) ?_ (fun hx => ?_)) | clear_value x)
    | (with_reducible exact react_mk (by with_reducible assumption)))
theorem react_reacqLeave {q : Bool} {c0 c : Chan}  (h : c0.Reacts q c) : c0.Reacts q (c.reacqLeave) := by
  unfold Chan.reacqLeave
  repeat' (first
    | with_reducible assumption
    | (with_reducible refine react_p ?_ (by decide) (by decide) (by decide))
    | split
    | (intro _)
    | (extract_lets +onlyGivenNames x; first | (refine react_use (x := x) ?_ (fun hx => ?_)) | clear_value x)
    | (with_reducible exact react_mk (by with_reducible assumption)))
theorem react_applySel {q : Bool} {c0 c : Chan}  (h : c0.Reacts q c) : c0.Reacts q (c.applySel) := by
  unfold Chan.applySel
  repeat' (first
    | with_reducible assumption
    | with_reducible apply react_reacqLeave
    | with_reducible apply react_onDust
    | with_reducible apply react_evt
    | with_reducible apply react_onLife
    | with_reducible apply react_onProt
    | with_reducible apply react_legsOff
    | with_reducible apply react_setLegs
    | (with_reducible refine react_p ?_ (by decide) (by decide) (by decide))
    | (with_reducible refine react_wrapInc ?_ (by decide) (by decide) (by decide))
    | split
    | (intro _)
    | (extract_lets +onlyGivenNames x; first | (refine react_use (x := x) ?_ (fun hx => ?_)) | clear_value x)
    | (with_reducible exact react_mk (by with_reducible assumption))
    | (with_reducible apply react_mk; first | with_reducible apply react_reacqLeave | with_reducible apply react_onDust | with_reducible apply react_evt | with_reducible apply react_onLife | with_reducible apply react_onProt | with_reducible apply react_legsOff | with_reducible apply react_setLegs))
theorem react_cmpCont {q : Bool} {c0 c : Chan} {n : Nat} (h : c0.Reacts q c) : c0.Reacts q (c.cmpCont n) := by
  unfold Chan.cmpCont
  repeat' (first
    | with_reducible assumption
    | with_reducible apply react_onMsio
    | with_reducible apply react_srcOff
    | (with_reducible refine react_pb ?_ (by decide) (by decide) (by decide))
    | split
    | (intro _)
    | (extract_lets +onlyGivenNames x; first | (refine react_use (x := x) ?_ (fun hx => ?_)) | clear_value x)
    | (with_reducible exact react_mk (by with_reducible assumption))
    | (with_reducible apply react_mk; first | with_reducible apply react_onMsio | with_reducible apply react_srcOff))
theorem react_setCdrv {q : Bool} {c0 c : Chan} {n : Nat} {v : Bool} (h : c0.Reacts q c) : c0.Reacts q (c.setCdrv n v) := by
  unfold Chan.setCdrv
  repeat' (first
    | with_reducible assumption
    | with_reducible apply react_cmpCont
    | (with_reducible refine react_pb ?_ (by decide) (by decide) (by decide))
    | split
    | (intro _)
    | (extract_lets +onlyGivenNames x; first | (refine react_use (x := x) ?_ (fun hx => ?_)) | clear_value x)
    | (with_reducible exact react_mk (by with_reducible assumption)))
theorem react_cdrvAllLow {q : Bool} {c0 c : Chan}  (h : c0.Reacts q c) : c0.Reacts q (c.cdrvAllLow) := by
  unfold Chan.cdrvAllLow
  repeat' (first
    | with_reducible assumption
    | with_reducible apply react_setCdrv
    | split
    | (intro _)
    | (extract_lets +onlyGivenNames x; first | (refine react_use (x := x) ?_ (fun hx => ?_)) | clear_value x)
    | (with_reducible exact react_mk (by with_reducible assumption)))
theorem react_openMask {q : Bool} {c0 c : Chan} {m : Nat} (h : c0.Reacts q c) : c0.Reacts q (c.openMask m) := by
  unfold Chan.openMask
  repeat' (first
    | with_reducible assumption
    | with_reducible apply react_each
    | with_reducible apply react_setCdrv
    | split
    | (intro _)
    | (extract_lets +onlyGivenNames x; first | (refine react_use (x := x) ?_ (fun hx => ?_)) | clear_value x)
    | (with_reducible exact react_mk (by with_reducible assumption)))
theorem react_cdrvHoldPrimed {q : Bool} {c0 c : Chan}  (h : c0.Reacts q c) : c0.Reacts q (c.cdrvHoldPrimed) := by
  unfold Chan.cdrvHoldPrimed
  repeat' (first
    | with_reducible assumption
    | with_reducible apply react_setCdrv
    | split
    | (intro _)
    | (extract_lets +onlyGivenNames x; first | (refine react_use (x := x) ?_ (fun hx => ?_)) | clear_value x)
    | (with_reducible exact react_mk (by with_reducible assumption)))
theorem react_dchgTry {q : Bool} {c0 c : Chan}  (h : c0.Reacts q c) : c0.Reacts q (c.dchgTry) := by
  unfold Chan.dchgTry
  repeat' (first
    | with_reducible assumption
    | with_reducible apply react_onProt
    | with_reducible apply react_setDchgOut
    | (with_reducible refine react_p ?_ (by decide) (by decide) (by decide))
    | split
    | (intro _)
    | (extract_lets +onlyGivenNames x; first | (refine react_use (x := x) ?_ (fun hx => ?_)) | clear_value x)
    | (with_reducible exact react_mk (by with_reducible assumption))
    | (with_reducible apply react_mk; first | with_reducible apply react_onProt | with_reducible apply react_setDchgOut))
theorem react_dchgAsk {q : Bool} {c0 c : Chan} {s4 : Bool} {pin : Bool} {cmd : Bool} (h : c0.Reacts q c) : c0.Reacts q (c.dchgAsk s4 pin cmd) := by
  unfold Chan.dchgAsk
  repeat' (first
    | with_reducible assumption
    | with_reducible apply react_onProt
    | with_reducible apply react_srcOff
    | with_reducible apply react_dchgTry
    | (with_reducible refine react_p ?_ (by decide) (by decide) (by decide))
    | split
    | (intro _)
    | (extract_lets +onlyGivenNames x; first | (refine react_use (x := x) ?_ (fun hx => ?_)) | clear_value x)
    | (with_reducible exact react_mk (by with_reducible assumption))
    | (with_reducible apply react_mk; first | with_reducible apply react_onProt | with_reducible apply react_srcOff | with_reducible apply react_dchgTry))
theorem react_primerAbort {q : Bool} {c0 c : Chan}  (h : c0.Reacts q c) : c0.Reacts q (c.primerAbort) := by
  unfold Chan.primerAbort
  repeat' (first
    | with_reducible assumption
    | with_reducible apply react_onMod
    | (with_reducible refine react_p ?_ (by decide) (by decide) (by decide))
    | split
    | (intro _)
    | (extract_lets +onlyGivenNames x; first | (refine react_use (x := x) ?_ (fun hx => ?_)) | clear_value x)
    | (with_reducible exact react_mk (by with_reducible assumption))
    | (with_reducible apply react_mk; first | with_reducible apply react_onMod))
theorem react_armEnd {q : Bool} {c0 c : Chan}  (h : c0.Reacts q c) : c0.Reacts q (c.armEnd) := by
  unfold Chan.armEnd
  repeat' (first
    | with_reducible assumption
    | with_reducible apply react_openMask
    | (with_reducible refine react_onCtl ?_ (by intro hx; first | exact hx | rfl))
    | with_reducible apply react_onMsio
    | with_reducible apply react_primerAbort
    | (with_reducible refine react_p ?_ (by decide) (by decide) (by decide))
    | split
    | (intro _)
    | (extract_lets +onlyGivenNames x; first | (refine react_use (x := x) ?_ (fun hx => ?_)) | clear_value x)
    | (with_reducible exact react_mk (by with_reducible assumption))
    | (with_reducible apply react_mk; first | with_reducible apply react_openMask | with_reducible apply react_onMsio | with_reducible apply react_primerAbort))
theorem react_commitCode {q : Bool} {c0 c : Chan} {code : Nat} (h : c0.Reacts q c) : c0.Reacts q (c.commitCode code) := by
  unfold Chan.commitCode
  repeat' (first
    | with_reducible assumption
    | (with_reducible refine react_p ?_ (by decide) (by decide) (by decide))
    | split
    | (intro _)
    | (extract_lets +onlyGivenNames x; first | (refine react_use (x := x) ?_ (fun hx => ?_)) | clear_value x)
    | (with_reducible exact react_mk (by with_reducible assumption)))
theorem react_beginHold {q : Bool} {c0 c : Chan} {kind : Nat} (h : c0.Reacts q c) : c0.Reacts q (c.beginHold kind) := by
  unfold Chan.beginHold
  repeat' (first
    | with_reducible assumption
    | with_reducible apply react_onDust
    | (with_reducible refine react_p ?_ (by decide) (by decide) (by decide))
    | (with_reducible refine react_pb ?_ (by decide) (by decide) (by decide))
    | (with_reducible refine react_satInc ?_ (by decide) (by decide) (by decide))
    | (with_reducible refine react_wrapInc ?_ (by decide) (by decide) (by decide))
    | split
    | (intro _)
    | (extract_lets +onlyGivenNames x; first | (refine react_use (x := x) ?_ (fun hx => ?_)) | clear_value x)
    | (with_reducible exact react_mk (by with_reducible assumption))
    | (with_reducible apply react_mk; first | with_reducible apply react_onDust))
theorem react_endHold {q : Bool} {c0 c : Chan}  (h : c0.Reacts q c) : c0.Reacts q (c.endHold) := by
  unfold Chan.endHold
  repeat' (first
    | with_reducible assumption
    | with_reducible apply react_onDust
    | (with_reducible refine react_p ?_ (by decide) (by decide) (by decide))
    | split
    | (intro _)
    | (extract_lets +onlyGivenNames x; first | (refine react_use (x := x) ?_ (fun hx => ?_)) | clear_value x)
    | (with_reducible exact react_mk (by with_reducible assumption))
    | (with_reducible apply react_mk; first | with_reducible apply react_onDust))
theorem react_windEnd {q : Bool} {c0 c : Chan} {st : Nat} (h : c0.Reacts q c) : c0.Reacts q (c.windEnd st) := by
  unfold Chan.windEnd
  repeat' (first
    | with_reducible assumption
    | with_reducible apply react_onProt
    | (with_reducible refine react_p ?_ (by decide) (by decide) (by decide))
    | split
    | (intro _)
    | (extract_lets +onlyGivenNames x; first | (refine react_use (x := x) ?_ (fun hx => ?_)) | clear_value x)
    | (with_reducible exact react_mk (by with_reducible assumption))
    | (with_reducible apply react_mk; first | with_reducible apply react_onProt))
theorem react_s4Requests {q : Bool} {c0 c : Chan}  (h : c0.Reacts q c) : c0.Reacts q (c.s4Requests) := by
  unfold Chan.s4Requests
  repeat' (first
    | with_reducible assumption
    | with_reducible apply react_cdrvAllLow
    | with_reducible apply react_onDust
    | with_reducible apply react_onLife
    | with_reducible apply react_dchgAsk
    | (with_reducible refine react_p ?_ (by decide) (by decide) (by decide))
    | split
    | (intro _)
    | (extract_lets +onlyGivenNames x; first | (refine react_use (x := x) ?_ (fun hx => ?_)) | clear_value x)
    | (with_reducible exact react_mk (by with_reducible assumption))
    | (with_reducible apply react_mk; first | with_reducible apply react_cdrvAllLow | with_reducible apply react_onDust | with_reducible apply react_onLife | with_reducible apply react_dchgAsk))
theorem react_nfaultSet {q : Bool} {c0 c : Chan}  (h : c0.Reacts q c) : c0.Reacts q (c.nfaultSet) := by
  unfold Chan.nfaultSet
  repeat' (first
    | with_reducible assumption
    | with_reducible apply react_onDust
    | split
    | (intro _)
    | (extract_lets +onlyGivenNames x; first | (refine react_use (x := x) ?_ (fun hx => ?_)) | clear_value x)
    | (with_reducible exact react_mk (by with_reducible assumption))
    | (with_reducible apply react_mk; first | with_reducible apply react_onDust))
theorem react_leaveFault {q : Bool} {c0 c : Chan}  (h : c0.Reacts q c) : c0.Reacts q (c.leaveFault) := by
  unfold Chan.leaveFault
  repeat' (first
    | with_reducible assumption
    | (with_reducible refine react_onCtl ?_ (by intro hx; first | exact hx | rfl))
    | with_reducible apply react_each
    | (with_reducible refine react_togglePair (by assumption) ?_)
    | (with_reducible refine react_p ?_ (by decide) (by decide) (by decide))
    | split
    | (intro _)
    | (extract_lets +onlyGivenNames x; first | (refine react_use (x := x) ?_ (fun hx => ?_)) | clear_value x)
    | (with_reducible exact react_mk (by with_reducible assumption))
    | (with_reducible apply react_mk; first | with_reducible apply react_each))
theorem react_leaveRun {q : Bool} {c0 c : Chan}  (h : c0.Reacts q c) : c0.Reacts q (c.leaveRun) := by
  unfold Chan.leaveRun
  repeat' (first
    | with_reducible assumption
    | with_reducible apply react_offIf
    | with_reducible apply react_maskReport
    | with_reducible apply react_onDtc
    | (with_reducible refine react_p ?_ (by decide) (by decide) (by decide))
    | with_reducible apply react_foldl
    | split
    | (intro _)
    | (extract_lets +onlyGivenNames x; first | (refine react_use (x := x) ?_ (fun hx => ?_)) | clear_value x)
    | (with_reducible exact react_mk (by with_reducible assumption))
    | (with_reducible apply react_mk; first | with_reducible apply react_offIf | with_reducible apply react_maskReport | with_reducible apply react_onDtc))
theorem react_engineIdle {q : Bool} {c0 c : Chan}  (h : c0.Reacts q c) : c0.Reacts q (c.engineIdle) := by
  unfold Chan.engineIdle
  repeat' (first
    | with_reducible assumption
    | with_reducible apply react_offIf
    | with_reducible apply react_onDtc
    | (with_reducible refine react_wr ?_ (by decide) (by decide))
    | split
    | (intro _)
    | (extract_lets +onlyGivenNames x; first | (refine react_use (x := x) ?_ (fun hx => ?_)) | clear_value x)
    | (with_reducible exact react_mk (by with_reducible assumption))
    | (with_reducible apply react_mk; first | with_reducible apply react_offIf | with_reducible apply react_onDtc))
theorem react_setState {q : Bool} {c0 c : Chan} {st cause : Nat} (hst : q = true → st = FAULT) (h : c0.Reacts q c) :
    c0.Reacts q (c.setState st cause) := by
  unfold Chan.setState
  extract_lets old c1 c2 c3 c4 c5 moot c6 c7 c8
  have h1 : c0.Reacts q c1 := react_p (react_p (react_pState h hst) (by decide) (by decide) (by decide)) (by decide) (by decide) (by decide)
  clear_value c1
  have h2 : c0.Reacts q c2 := react_onLife (react_evt h1)
  clear_value c2
  have h3 : c0.Reacts q c3 := by
    unfold c3
    split
    · exact react_leaveRun h2
    · exact h2
  clear_value c3
  have h4 : c0.Reacts q c4 := by
    unfold c4
    split
    · exact h3
    · exact react_offIf h3
  clear_value c4
  have h5 : c0.Reacts q c5 := by
    unfold c5
    split
    · exact h4
    · exact react_offIf h4
  clear_value c5
  clear_value moot
  have h6 : c0.Reacts q c6 := by
    unfold c6
    split
    · exact react_onCtl (react_reqDiscard h5) (fun h => h)
    · exact react_onCtl h5 (fun h => h)
  clear_value c6
  have h7 : c0.Reacts q c7 := by
    unfold c7
    split
    · exact react_engineIdle h6
    · exact h6
  clear_value c7
  have h8 : c0.Reacts q c8 := by
    unfold c8
    split
    · exact react_nfaultSet (react_leaveFault h7)
    · exact react_nfaultSet h7
  clear_value c8
  exact react_mk h8
theorem react_enterFault {q : Bool} {c0 c : Chan}  (h : c0.Reacts q c) : c0.Reacts q (c.enterFault) := by
  unfold Chan.enterFault
  repeat' (first
    | with_reducible assumption
    | with_reducible apply react_armEnd
    | with_reducible apply react_primerAbort
    | with_reducible apply react_armLost
    | (with_reducible refine react_onCtl ?_ (by intro hx; first | exact hx | rfl))
    | with_reducible apply react_setCdrv
    | with_reducible apply react_onMsio
    | (with_reducible refine react_p ?_ (by decide) (by decide) (by decide))
    | (with_reducible refine react_setState (fun _ => rfl) ?_)
    | split
    | (intro _)
    | (extract_lets +onlyGivenNames x; first | (refine react_use (x := x) ?_ (fun hx => ?_)) | clear_value x)
    | (with_reducible exact react_mk (by with_reducible assumption))
    | (with_reducible apply react_mk; first | with_reducible apply react_armEnd | with_reducible apply react_primerAbort | with_reducible apply react_armLost | with_reducible apply react_setCdrv | with_reducible apply react_onMsio))
theorem react_captureCause {q : Bool} {c0 c : Chan} {s : Src} {sev : Nat} {seq : Nat} {time : Nat} (h : c0.Reacts q c) : c0.Reacts q (c.captureCause s sev seq time) := by
  unfold Chan.captureCause
  repeat' (first
    | with_reducible assumption
    | (with_reducible refine react_wr ?_ (by decide) (by decide))
    | split
    | (intro _)
    | (extract_lets +onlyGivenNames x; first | (refine react_use (x := x) ?_ (fun hx => ?_)) | clear_value x)
    | (with_reducible exact react_mk (by with_reducible assumption)))
theorem react_ringTrigger {q : Bool} {c0 c : Chan} {time : Nat} {cause : Nat} {seq : Nat} (h : c0.Reacts q c) : c0.Reacts q (c.ringTrigger time cause seq) := by
  unfold Chan.ringTrigger
  repeat' (first
    | with_reducible assumption
    | split
    | (intro _)
    | (extract_lets +onlyGivenNames x; first | (refine react_use (x := x) ?_ (fun hx => ?_)) | clear_value x)
    | (with_reducible exact react_mk (by with_reducible assumption)))
theorem react_arrive {q : Bool} {c0 c : Chan} {s : Src} {seq : Nat} (h : c0.Reacts q c) : c0.Reacts q (c.arrive s seq) := by
  unfold Chan.arrive
  repeat' (first
    | with_reducible assumption
    | with_reducible apply react_captureCause
    | with_reducible apply react_ringRename
    | with_reducible apply react_ringTrigger
    | with_reducible apply react_enterFault
    | with_reducible apply react_beginHold
    | with_reducible apply react_s4Requests
    | (with_reducible refine react_p ?_ (by decide) (by decide) (by decide))
    | split
    | (intro _)
    | (extract_lets +onlyGivenNames x; first | (refine react_use (x := x) ?_ (fun hx => ?_)) | clear_value x)
    | (with_reducible exact react_mk (by with_reducible assumption)))
theorem react_raise0 {q : Bool} {c0 c : Chan} {s : Src} (h : c0.Reacts q c) : c0.Reacts q (c.raise0 s) := by
  unfold Chan.raise0
  repeat' (first
    | with_reducible assumption
    | with_reducible apply react_srcOn
    | with_reducible apply react_arrive
    | split
    | (intro _)
    | (extract_lets +onlyGivenNames x; first | (refine react_use (x := x) ?_ (fun hx => ?_)) | clear_value x)
    | (with_reducible exact react_mk (by with_reducible assumption)))
theorem react_pulse0 {q : Bool} {c0 c : Chan} {s : Src} (h : c0.Reacts q c) : c0.Reacts q (c.pulse0 s) := by
  unfold Chan.pulse0
  repeat' (first
    | with_reducible assumption
    | with_reducible apply react_srcOn
    | with_reducible apply react_srcOff
    | with_reducible apply react_arrive
    | split
    | (intro _)
    | (extract_lets +onlyGivenNames x; first | (refine react_use (x := x) ?_ (fun hx => ?_)) | clear_value x)
    | (with_reducible exact react_mk (by with_reducible assumption)))
theorem react_cancelCommit {q : Bool} {c0 c : Chan} {code : Nat} (h : c0.Reacts q c) : c0.Reacts q (c.cancelCommit code) := by
  unfold Chan.cancelCommit
  repeat' (first
    | with_reducible assumption
    | (with_reducible refine react_onCtl ?_ (by intro hx; first | exact hx | rfl))
    | with_reducible apply react_commitCode
    | with_reducible apply react_answer
    | with_reducible apply react_pulse0
    | split
    | (intro _)
    | (extract_lets +onlyGivenNames x; first | (refine react_use (x := x) ?_ (fun hx => ?_)) | clear_value x)
    | (with_reducible exact react_mk (by with_reducible assumption))
    | (with_reducible apply react_mk; first | with_reducible apply react_commitCode | with_reducible apply react_answer | with_reducible apply react_pulse0))
theorem react_windAbort {q : Bool} {c0 c : Chan}  (h : c0.Reacts q c) : c0.Reacts q (c.windAbort) := by
  unfold Chan.windAbort
  repeat' (first
    | with_reducible assumption
    | with_reducible apply react_windEnd
    | with_reducible apply react_raise0
    | with_reducible apply react_cancelCommit
    | split
    | (intro _)
    | (extract_lets +onlyGivenNames x; first | (refine react_use (x := x) ?_ (fun hx => ?_)) | clear_value x)
    | (with_reducible exact react_mk (by with_reducible assumption)))
theorem react_reselect {q : Bool} {c0 c : Chan}  (h : c0.Reacts q c) : c0.Reacts q (c.reselect) := by
  unfold Chan.reselect
  repeat' (first
    | with_reducible assumption
    | with_reducible apply react_windEnd
    | with_reducible apply react_applySel
    | with_reducible apply react_cancelCommit
    | with_reducible apply react_raise0
    | with_reducible apply react_offIf
    | split
    | (intro _)
    | (extract_lets +onlyGivenNames x; first | (refine react_use (x := x) ?_ (fun hx => ?_)) | clear_value x)
    | (with_reducible exact react_mk (by with_reducible assumption)))
theorem react_transCheck {q : Bool} {c0 c : Chan}  (h : c0.Reacts q c) : c0.Reacts q (c.transCheck) := by
  unfold Chan.transCheck
  repeat' (first
    | with_reducible assumption
    | (with_reducible refine react_onCtl ?_ (by intro hx; first | exact hx | rfl))
    | split
    | (intro _)
    | (extract_lets +onlyGivenNames x; first | (refine react_use (x := x) ?_ (fun hx => ?_)) | clear_value x)
    | (with_reducible exact react_mk (by with_reducible assumption)))
theorem react_raiseSl {q : Bool} {c0 c : Chan} {s : Src} {slice : Nat} (h : c0.Reacts q c) : c0.Reacts q (c.raiseSl s slice) := by
  unfold Chan.raiseSl
  repeat' (first
    | with_reducible assumption
    | with_reducible apply react_srcOn
    | with_reducible apply react_arrive
    | with_reducible apply react_windAbort
    | with_reducible apply react_cancelCommit
    | with_reducible apply react_reselect
    | with_reducible apply react_transCheck
    | split
    | (intro _)
    | (extract_lets +onlyGivenNames x; first | (refine react_use (x := x) ?_ (fun hx => ?_)) | clear_value x)
    | (with_reducible exact react_mk (by with_reducible assumption)))
theorem react_raise {q : Bool} {c0 c : Chan} {s : Src} (h : c0.Reacts q c) : c0.Reacts q (c.raise s) := by
  unfold Chan.raise
  repeat' (first
    | with_reducible assumption
    | with_reducible apply react_raiseSl
    | split
    | (intro _)
    | (extract_lets +onlyGivenNames x; first | (refine react_use (x := x) ?_ (fun hx => ?_)) | clear_value x)
    | (with_reducible exact react_mk (by with_reducible assumption)))
theorem react_clear {q : Bool} {c0 c : Chan} {s : Src} (h : c0.Reacts q c) : c0.Reacts q (c.clear s) := by
  unfold Chan.clear
  repeat' (first
    | with_reducible assumption
    | with_reducible apply react_srcOff
    | with_reducible apply react_transCheck
    | split
    | (intro _)
    | (extract_lets +onlyGivenNames x; first | (refine react_use (x := x) ?_ (fun hx => ?_)) | clear_value x)
    | (with_reducible exact react_mk (by with_reducible assumption)))
theorem react_follow {q : Bool} {c0 c : Chan} {s : Src} {cond : Bool} (h : c0.Reacts q c) : c0.Reacts q (c.follow s cond) := by
  unfold Chan.follow
  repeat' (first
    | with_reducible assumption
    | with_reducible apply react_raise
    | with_reducible apply react_clear
    | split
    | (intro _)
    | (extract_lets +onlyGivenNames x; first | (refine react_use (x := x) ?_ (fun hx => ?_)) | clear_value x)
    | (with_reducible exact react_mk (by with_reducible assumption)))
theorem react_pulseSl {q : Bool} {c0 c : Chan} {s : Src} {slice : Nat} (h : c0.Reacts q c) : c0.Reacts q (c.pulseSl s slice) := by
  unfold Chan.pulseSl
  repeat' (first
    | with_reducible assumption
    | with_reducible apply react_srcOn
    | with_reducible apply react_arrive
    | with_reducible apply react_windAbort
    | with_reducible apply react_cancelCommit
    | with_reducible apply react_reselect
    | with_reducible apply react_offIf
    | with_reducible apply react_transCheck
    | split
    | (intro _)
    | (extract_lets +onlyGivenNames x; first | (refine react_use (x := x) ?_ (fun hx => ?_)) | clear_value x)
    | (with_reducible exact react_mk (by with_reducible assumption)))
theorem react_pulse {q : Bool} {c0 c : Chan} {s : Src} (h : c0.Reacts q c) : c0.Reacts q (c.pulse s) := by
  unfold Chan.pulse
  repeat' (first
    | with_reducible assumption
    | with_reducible apply react_pulseSl
    | split
    | (intro _)
    | (extract_lets +onlyGivenNames x; first | (refine react_use (x := x) ?_ (fun hx => ?_)) | clear_value x)
    | (with_reducible exact react_mk (by with_reducible assumption)))
theorem react_refuseCommit {q : Bool} {c0 c : Chan} {code : Nat} (h : c0.Reacts q c) : c0.Reacts q (c.refuseCommit code) := by
  unfold Chan.refuseCommit
  repeat' (first
    | with_reducible assumption
    | with_reducible apply react_commitCode
    | with_reducible apply react_pulse
    | split
    | (intro _)
    | (extract_lets +onlyGivenNames x; first | (refine react_use (x := x) ?_ (fun hx => ?_)) | clear_value x)
    | (with_reducible exact react_mk (by with_reducible assumption)))
theorem react_raiseBy {q : Bool} {c0 c : Chan} {s : Src} {slice : Nat} (h : c0.Reacts q c) : c0.Reacts q (c.raiseBy s slice) := by
  unfold Chan.raiseBy
  repeat' (first
    | with_reducible assumption
    | with_reducible apply react_onMod
    | with_reducible apply react_raiseSl
    | split
    | (intro _)
    | (extract_lets +onlyGivenNames x; first | (refine react_use (x := x) ?_ (fun hx => ?_)) | clear_value x)
    | (with_reducible exact react_mk (by with_reducible assumption))
    | (with_reducible apply react_mk; first | with_reducible apply react_onMod | with_reducible apply react_raiseSl))
theorem react_clearBy {q : Bool} {c0 c : Chan} {s : Src} {slice : Nat} (h : c0.Reacts q c) : c0.Reacts q (c.clearBy s slice) := by
  unfold Chan.clearBy
  repeat' (first
    | with_reducible assumption
    | with_reducible apply react_onMod
    | with_reducible apply react_clear
    | split
    | (intro _)
    | (extract_lets +onlyGivenNames x; first | (refine react_use (x := x) ?_ (fun hx => ?_)) | clear_value x)
    | (with_reducible exact react_mk (by with_reducible assumption))
    | (with_reducible apply react_mk; first | with_reducible apply react_onMod | with_reducible apply react_clear))
theorem react_entryChecks {q : Bool} {c0 c : Chan}  (h : c0.Reacts q c) : c0.Reacts q (c.entryChecks) := by
  unfold Chan.entryChecks
  repeat' (first
    | with_reducible assumption
    | with_reducible apply react_raise
    | split
    | (intro _)
    | (extract_lets +onlyGivenNames x; first | (refine react_use (x := x) ?_ (fun hx => ?_)) | clear_value x)
    | (with_reducible exact react_mk (by with_reducible assumption)))

/-! ### What a source raised leaves (R262, R263, R265) -/

theorem srcLatched_srcOn (c : Chan) (s : Src) (slice : Nat) (h : s.bit < 16) : (c.srcOn s slice).srcLatched s = true := by
  have k : (c.wr (srcRegs s.blk).src (setBit (setBit (c.rd (srcRegs s.blk).src) (16 + s.bit) true) s.bit true)).srcLatched s = true := by
    unfold Chan.srcLatched
    rw [Chan.rd_wr_same, Nat.testBit_mod_two_pow, testBit_setBit, if_pos rfl]
    simp; omega
  unfold Chan.srcOn
  dsimp only
  split
  · exact (react_srcEvt (react_capture (react_refl (q := false) _))).latched s h k
  · exact (react_srcEvt (react_refl (q := false) _)).latched s h k

/-- A source raised that was not active has latched (R262). -/
theorem raiseSl_latched (c : Chan) (s : Src) (slice : Nat) (h : s.bit < 16) (ho : c.state ≠ OFF) (ha : c.srcActive s = false) :
    (c.raiseSl s slice).srcLatched s = true := by
  unfold Chan.raiseSl
  rw [if_neg (by simp [ho, ha])]
  dsimp only
  have k := srcLatched_srcOn c s slice h
  generalize c.srcOn s slice = d at k ⊢
  refine (react_transCheck (react_reselect ?_)).latched (q := false) (c0 := d) s h k
  split
  · exact react_cancelCommit (react_windAbort (react_arrive (react_refl _)))
  · exact react_arrive (react_refl _)

/-- A source raised at S3 or S4 that was not active brings the channel to FAULT (R51, R263). -/
theorem state_pState (c : Chan) (v : Nat) : (c.p CH_STATE_STATE v).state = v % 8 := by
  unfold Chan.state
  rw [Chan.g_p_same _ _ _ (by decide)]
  rfl

theorem state_setState_fault (c : Chan) (cause : Nat) : (c.setState FAULT cause).state = FAULT := by
  have k : (c.p CH_STATE_STATE FAULT).state = FAULT := by rw [state_pState]; rfl
  unfold Chan.setState
  extract_lets old c1 c2 c3 c4 c5 moot c6 c7 c8
  have h1 : (c.p CH_STATE_STATE FAULT).Reacts true c1 :=
    react_p (react_p (react_refl _) (by decide) (by decide) (by decide)) (by decide) (by decide) (by decide)
  clear_value c1
  have h2 : (c.p CH_STATE_STATE FAULT).Reacts true c2 := react_onLife (react_evt h1)
  clear_value c2
  have h3 : (c.p CH_STATE_STATE FAULT).Reacts true c3 := by
    unfold c3
    split
    · exact react_leaveRun h2
    · exact h2
  clear_value c3
  have h4 : (c.p CH_STATE_STATE FAULT).Reacts true c4 := by
    unfold c4
    split
    · exact h3
    · exact react_offIf h3
  clear_value c4
  have h5 : (c.p CH_STATE_STATE FAULT).Reacts true c5 := by
    unfold c5
    split
    · exact h4
    · exact react_offIf h4
  clear_value c5
  clear_value moot
  have h6 : (c.p CH_STATE_STATE FAULT).Reacts true c6 := by
    unfold c6
    split
    · exact react_onCtl (react_reqDiscard h5) (fun h => h)
    · exact react_onCtl h5 (fun h => h)
  clear_value c6
  have h7 : (c.p CH_STATE_STATE FAULT).Reacts true c7 := by
    unfold c7
    split
    · exact react_engineIdle h6
    · exact h6
  clear_value c7
  have h8 : (c.p CH_STATE_STATE FAULT).Reacts true c8 := by
    unfold c8
    split
    · exact react_nfaultSet (react_leaveFault h7)
    · exact react_nfaultSet h7
  exact (react_mk h8).fault rfl k

theorem state_enterFault (c : Chan) : c.enterFault.state = FAULT := by
  unfold Chan.enterFault
  have k := state_setState_fault (c.armEnd.primerAbort) 0
  generalize c.armEnd.primerAbort.setState FAULT 0 = d at k ⊢
  refine (react_onMsio (react_setCdrv (react_onCtl ?_ (fun h => h)))).fault (q := true) (c0 := d) rfl k
  exact react_armLost (react_p (react_refl _) (by decide) (by decide) (by decide))

/-- The arrival of a source at S3 or S4 leaves the channel in FAULT (R51, R263). -/
theorem state_arrive (c : Chan) (s : Src) (seq : Nat) (h : 3 ≤ c.sevOf s) : (c.arrive s seq).state = FAULT := by
  unfold Chan.arrive
  rw [if_neg (Nat.not_lt.2 h)]
  dsimp only
  have k : ∀ d : Chan, d.state = FAULT → (if c.sevOf s = 4 then (d.beginHold s.kind).s4Requests else d.beginHold s.kind).state = FAULT := by
    intro d hd
    split
    · exact (react_s4Requests (react_beginHold (react_refl _))).fault (q := true) (c0 := d) rfl hd
    · exact (react_beginHold (react_refl _)).fault (q := true) (c0 := d) rfl hd
  refine k _ ?_
  split
  · rename_i hf
    split
    · exact (react_captureCause (react_refl _)).fault (q := true) (c0 := c) rfl hf
    · split
      · exact (react_ringRename (react_p (react_captureCause (react_refl _)) (by decide) (by decide) (by decide))).fault (q := true) (c0 := c) rfl hf
      · exact (react_p (react_refl _) (by decide) (by decide) (by decide)).fault (q := true) (c0 := c) rfl hf
  · exact state_enterFault _

theorem sevOf_congr {c d : Chan} (s : Src) (h : d.rd s.sevAt.1 = c.rd s.sevAt.1) : d.sevOf s = c.sevOf s := by
  unfold Chan.sevOf
  rw [h]

/-- A source raised at S3 or S4 that was not active leaves the channel in FAULT (R51, R263). -/
theorem raiseSl_fault (c : Chan) (s : Src) (slice : Nat) (ho : c.state ≠ OFF) (ha : c.srcActive s = false) (h : 3 ≤ c.sevOf s)
    (hv : reactionRegs.contains s.sevAt.1 = false) : (c.raiseSl s slice).state = FAULT := by
  unfold Chan.raiseSl
  rw [if_neg (by simp [ho, ha])]
  dsimp only
  have e : (c.srcOn s slice).sevOf s = c.sevOf s := sevOf_congr s ((react_srcOn (q := false) (react_refl c)).calm _ hv)
  rw [e, if_pos h]
  have k := state_arrive (c.srcOn s slice) s c.out.seq (e ▸ h)
  generalize (c.srcOn s slice).arrive s c.out.seq = d at k ⊢
  exact (react_transCheck (react_reselect (react_cancelCommit (react_windAbort (react_refl _))))).fault (q := true) (c0 := d) rfl k

theorem raise_latched (c : Chan) (s : Src) (h : s.bit < 16) (ho : c.state ≠ OFF) (ha : c.srcActive s = false) :
    (c.raise s).srcLatched s = true := raiseSl_latched c s 0 h ho ha

theorem raise_fault (c : Chan) (s : Src) (ho : c.state ≠ OFF) (ha : c.srcActive s = false) (h : 3 ≤ c.sevOf s)
    (hv : reactionRegs.contains s.sevAt.1 = false) : (c.raise s).state = FAULT := raiseSl_fault c s 0 ho ha h hv

/-- An event source raised that was not active has latched (R535). -/
theorem pulseSl_latched (c : Chan) (s : Src) (slice : Nat) (h : s.bit < 16) (ho : c.state ≠ OFF) (ha : c.srcActive s = false) :
    (c.pulseSl s slice).srcLatched s = true := by
  unfold Chan.pulseSl
  rw [if_neg (by simp [ho, ha])]
  dsimp only
  have k := srcLatched_srcOn c s slice h
  generalize c.srcOn s slice = d at k ⊢
  refine (react_transCheck (react_offIf (react_reselect ?_))).latched (q := false) (c0 := d) s h k
  split
  · exact react_cancelCommit (react_windAbort (react_arrive (react_refl _)))
  · exact react_arrive (react_refl _)

theorem pulse_latched (c : Chan) (s : Src) (h : s.bit < 16) (ho : c.state ≠ OFF) (ha : c.srcActive s = false) :
    (c.pulse s).srcLatched s = true := pulseSl_latched c s 0 h ho ha

/-- An event source at S3 or S4 that was not active leaves the channel in FAULT. -/
theorem pulseSl_fault (c : Chan) (s : Src) (slice : Nat) (ho : c.state ≠ OFF) (ha : c.srcActive s = false) (h : 3 ≤ c.sevOf s)
    (hv : reactionRegs.contains s.sevAt.1 = false) : (c.pulseSl s slice).state = FAULT := by
  unfold Chan.pulseSl
  rw [if_neg (by simp [ho, ha])]
  dsimp only
  have e : (c.srcOn s slice).sevOf s = c.sevOf s := sevOf_congr s ((react_srcOn (q := false) (react_refl c)).calm _ hv)
  rw [e, if_pos h]
  have k := state_arrive (c.srcOn s slice) s c.out.seq (e ▸ h)
  generalize (c.srcOn s slice).arrive s c.out.seq = d at k ⊢
  exact (react_transCheck (react_offIf (react_reselect (react_cancelCommit (react_windAbort (react_refl _)))))).fault (q := true) (c0 := d) rfl k

end Sys2Proof.Machine
end

