-- ==== Sys2Proof/Laws/Run.lean ====
section
/-! SUPPORT. Laws/Run.lean: what the ways by which a command reaches the machine leave, and frames. -/

set_option Elab.async false

namespace Sys2Proof.Machine
open Sys2Proof

@[simp] theorem Mach.chan_setChan (m : Mach) (ch : Ch) (c : Chan) : (m.setChan ch c).chan ch = c := by cases ch <;> rfl
theorem Mach.chan_setChan_other (m : Mach) (ch k : Ch) (c : Chan) (h : k ≠ ch) : (m.setChan ch c).chan k = m.chan k := by
  cases ch <;> cases k <;> first | rfl | exact absurd rfl h
@[simp] theorem Mach.setChan_dev (m : Mach) (ch : Ch) (c : Chan) : (m.setChan ch c).dev = m.dev := by cases ch <;> rfl
@[simp] theorem Mach.setChan_now (m : Mach) (ch : Ch) (c : Chan) : (m.setChan ch c).now = m.now := by cases ch <;> rfl
@[simp] theorem Mach.setChan_holds (m : Mach) (ch : Ch) (c : Chan) : (m.setChan ch c).holds = m.holds := by cases ch <;> rfl
@[simp] theorem Mach.setChan_rdata (m : Mach) (ch : Ch) (c : Chan) : (m.setChan ch c).rdata = m.rdata := by cases ch <;> rfl
@[simp] theorem Mach.advance_chan (m : Mach) (t : Tick) (ch : Ch) : (m.advance t).chan ch = m.chan ch := by cases ch <;> rfl

theorem onChan_seen (m : Mach) (t : Tick) (ch : Ch) (f : Chan → Chan) : (m.advance t).onChan ch f = (m.advance t).setChan ch (f (m.seen t ch)) := by
  unfold Mach.onChan Mach.seen
  rw [Mach.advance_chan]
  rfl

theorem actsOn_chan {i : Instr} {s : State} {t : Tick} {ch : Ch} {f : Chan → Chan} {P : Chan → Prop} {c : Chan} (hc : s.m.seen t ch = c)
    (he : exec i s = s.chan t ch f) (h : P (f c)) : ActsOn i s t ch P :=
  ⟨_, by rw [he, State.chan, onChan_seen, hc], h⟩

theorem actsOn_live {i : Instr} {s : State} {t : Tick} {ch : Ch} {f : Chan → Chan} {P : Chan → Prop} {c : Chan} (hc : s.m.seen t ch = c)
    (he : exec i s = s.live t ch f) (ho : c.state ≠ OFF) (h : P (f c)) : ActsOn i s t ch P := by
  refine actsOn_chan hc he ?_
  unfold live
  rw [if_neg ho]
  exact h

theorem actsDev_of {i : Instr} {s : State} {t : Tick} {f : Dev → Dev} {P : Dev → Prop} {d : Dev} (hd : s.m.seenDev t = d) (he : exec i s = s.onDev t f)
    (h : P (f d)) : ActsDev i s t P := ⟨_, he, by rw [← hd] at h; exact h⟩

theorem acts_of {i : Instr} {s : State} {t : Tick} {f : Mach → Mach} {P : Mach → Prop} (he : exec i s = s.onMach t f)
    (h : P (f (s.m.seenAt t))) : Acts i s P := ⟨_, he, h⟩

theorem onChan_seenAt (m : Mach) (t : Tick) (ch : Ch) (f : Chan → Chan) : (m.seenAt t).onChan ch f = (m.seenAt t).setChan ch (f (m.seen t ch)) := by
  cases ch <;> rfl

theorem actsIn_of {i : Instr} {s : State} {t : Tick} {ch : Ch} {f : Mach → Mach} {P : Chan → Prop} {d : Chan} (he : exec i s = s.onMach t f)
    (hf : f (s.m.seenAt t) = (s.m.seenAt t).setChan ch d) (h : P d) : ActsIn i s t ch P := ⟨d, by rw [he]; exact congrArg (fun m => Host.Outcome.next { s with m := m }) hf, h⟩

/-! ### Frames -/

theorem frame_refl (l : List Nat) (c : Chan) : c.Frame l c := fun _ _ => rfl
theorem frame_trans {l : List Nat} {a b c : Chan} (h : a.Frame l b) (k : b.Frame l c) : a.Frame l c := fun x hx => (k x hx).trans (h x hx)
theorem frame_mono {l k : List Nat} {a b : Chan} (h : a.Frame l b) (hl : ∀ x ∈ l, x ∈ k) : a.Frame k b := fun x hx => h x (fun hm => hx (hl x hm))
theorem frame_wr {l : List Nat} {c0 c : Chan} {a v : Nat} (h : c0.Frame l c) (ha : a ∈ l) : c0.Frame l (c.wr a v) := fun x hx => by
  rw [Chan.rd_wr_other _ _ _ _ (fun e => hx (by rw [e]; exact ha)), h x hx]
theorem frame_p {l : List Nat} {c0 c : Chan} {f : Fld} {v : Nat} (h : c0.Frame l c) (ha : f.reg ∈ l) : c0.Frame l (c.p f v) := frame_wr h ha
theorem frame_pi {l : List Nat} {c0 c : Chan} {f : Fld} {v : Int} (h : c0.Frame l c) (ha : f.reg ∈ l) : c0.Frame l (c.pi f v) := frame_wr h ha
theorem frame_pb {l : List Nat} {c0 c : Chan} {f : Fld} {i : Nat} {v : Bool} (h : c0.Frame l c) (ha : f.reg ∈ l) : c0.Frame l (c.pb f i v) := frame_wr h ha
theorem frame_regs {l : List Nat} {c0 c d : Chan} (h : c0.Frame l c) (e : d.regs = c.regs) : c0.Frame l d := fun x hx => by
  rw [← h x hx]
  unfold Chan.rd
  rw [e]
theorem frame_answer {l : List Nat} {c0 c : Chan} {op : ChOp} {st : Nat} {w : List Nat} (h : c0.Frame l c) : c0.Frame l (c.answer op st w) :=
  fun x hx => h x hx
theorem frame_armAnswer {l : List Nat} {c0 c : Chan} {st : Nat} (h : c0.Frame l c) : c0.Frame l (c.armAnswer st) := frame_answer h
theorem frame_react {q : Bool} {l : List Nat} {c0 c d : Chan} (h : c0.Frame (l ++ reactionRegs) c) (k : c.Reacts q d) : c0.Frame (l ++ reactionRegs) d :=
  frame_trans h (fun a ha => k.calm a (by simp only [List.mem_append, not_or] at ha; simpa using ha.2))
theorem regsOnly_of {l : List Nat} {c0 c : Chan} (h : c0.Frame l c) (e : { c with regs := c0.regs } = c0) : c0.RegsOnly l c := ⟨h, e⟩

theorem frame_reacts {q : Bool} {c0 c : Chan} (h : c0.Reacts q c) : c0.Frame reactionRegs c := fun a ha => h.calm a (by simpa using ha)
theorem kept_reacts {q : Bool} {c0 c : Chan} (h : c0.Reacts q c) : c0.Kept c :=
  ⟨h.id, h.now, h.shadow, h.inv, h.tcm, h.mail, h.subs, h.bases, h.adc, h.sinc, h.xchk, h.skim, h.slices⟩
theorem kept_trans {a b c : Chan} (h : a.Kept b) (k : b.Kept c) : a.Kept c :=
  ⟨k.id.trans h.id, k.now.trans h.now, k.shadow.trans h.shadow, k.inv.trans h.inv, k.tcm.trans h.tcm, k.mail.trans h.mail, k.subs.trans h.subs,
   k.bases.trans h.bases, k.adc.trans h.adc, k.sinc.trans h.sinc, k.xchk.trans h.xchk, k.skim.trans h.skim, slicesKept_trans h.slices k.slices⟩
theorem kept_wr (c : Chan) (a v : Nat) : c.Kept (c.wr a v) := ⟨rfl, rfl, rfl, rfl, rfl, rfl, rfl, rfl, rfl, rfl, rfl, rfl, fun _ => rfl⟩
theorem kept_react {q : Bool} {c0 c d : Chan} (h : c0.Kept c) (k : c.Reacts q d) : c0.Kept d := kept_trans h (kept_reacts k)
theorem kept_answer (c : Chan) (op : ChOp) (st : Nat) (w : List Nat) : c.Kept (c.answer op st w) := ⟨rfl, rfl, rfl, rfl, rfl, rfl, rfl, rfl, rfl, rfl, rfl, rfl, fun _ => rfl⟩
theorem kept_onCtl (c : Chan) (f : Ctl → Ctl) : c.Kept (c.onCtl f) := ⟨rfl, rfl, rfl, rfl, rfl, rfl, rfl, rfl, rfl, rfl, rfl, rfl, fun _ => rfl⟩
theorem kept_refl (c : Chan) : c.Kept c := ⟨rfl, rfl, rfl, rfl, rfl, rfl, rfl, rfl, rfl, rfl, rfl, rfl, fun _ => rfl⟩
theorem kept_p (c : Chan) (f : Fld) (v : Nat) : c.Kept (c.p f v) := kept_wr _ _ _

theorem frameD_refl (l : List Nat) (c : Dev) : c.Frame l c := fun _ _ => rfl
theorem frameD_trans {l : List Nat} {a b c : Dev} (h : a.Frame l b) (k : b.Frame l c) : a.Frame l c := fun x hx => (k x hx).trans (h x hx)
theorem frameD_wr {l : List Nat} {c0 c : Dev} {a v : Nat} (h : c0.Frame l c) (ha : a ∈ l) : c0.Frame l (c.wr a v) := fun x hx => by
  rw [Dev.rd_wr_other _ _ _ _ (fun e => hx (by rw [e]; exact ha)), h x hx]
theorem frameD_p {l : List Nat} {c0 c : Dev} {f : Fld} {v : Nat} (h : c0.Frame l c) (ha : f.reg ∈ l) : c0.Frame l (c.p f v) := frameD_wr h ha

/-! ### What single operations of the reaction leave of CHCTL's part -/

/-- The check of the delayed transitions changes CHCTL's part alone, and of it neither a request nor the ARM sequence. -/
theorem transCheck_eq (c : Chan) :
    ∃ x : Ctl, c.transCheck = { c with ctl := x } ∧ x.disarm = c.ctl.disarm ∧ x.disarmAt = c.ctl.disarmAt ∧ x.arm = c.ctl.arm ∧ x.clr = c.ctl.clr := by
  unfold Chan.transCheck
  extract_lets c1
  have h1 : ∃ x : Ctl, c1 = { c with ctl := x } ∧ x.disarm = c.ctl.disarm ∧ x.disarmAt = c.ctl.disarmAt ∧ x.arm = c.ctl.arm ∧ x.clr = c.ctl.clr := by
    unfold c1
    split
    · exact ⟨_, rfl, rfl, rfl, rfl, rfl⟩
    · exact ⟨c.ctl, rfl, rfl, rfl, rfl, rfl⟩
  clear_value c1
  obtain ⟨x, rfl, h2, h3, h4, h5⟩ := h1
  split
  · exact ⟨x, rfl, h2, h3, h4, h5⟩
  · exact ⟨_, rfl, h2, h3, h4, h5⟩
  · exact ⟨_, rfl, h2, h3, h4, h5⟩
  · split
    · exact ⟨x, rfl, h2, h3, h4, h5⟩
    · exact ⟨_, rfl, h2, h3, h4, h5⟩

theorem ctl_srcOff (c : Chan) (s : Src) : (c.srcOff s).ctl = c.ctl := rfl

theorem ctl_cmpCont (c : Chan) (n : Nat) : (c.cmpCont n).ctl = c.ctl := by
  unfold Chan.cmpCont
  extract_lets k dis c1
  have h1 : c1.ctl = c.ctl := rfl
  clear_value c1
  split
  · rw [ctl_srcOff, h1]
  · exact h1

theorem ctl_pb (c : Chan) (f : Fld) (i : Nat) (v : Bool) : (c.pb f i v).ctl = c.ctl := rfl

theorem ctl_setCdrv (c : Chan) (n : Nat) (v : Bool) : (c.setCdrv n v).ctl = c.ctl := by
  unfold Chan.setCdrv
  by_cases h : c.gb CONT_STATUS_CMD (n - 1) = v
  · rw [if_pos h]
  · rw [if_neg h, ctl_cmpCont, ctl_pb]

theorem ctl_openMask (c : Chan) (m : Nat) : (c.openMask m).ctl = c.ctl := by
  have h : ∀ (l : List Nat) (d : Chan), (l.foldl (fun d k => if m.testBit k then d.setCdrv (k + 1) false else d) d).ctl = d.ctl := by
    intro l
    induction l with
    | nil => intro d; rfl
    | cons x l ih =>
      intro d
      rw [List.foldl_cons, ih]
      split
      · exact ctl_setCdrv _ _ _
      · rfl
  exact h _ _

theorem ctl_primerAbort (c : Chan) : c.primerAbort.ctl = c.ctl := by
  unfold Chan.primerAbort
  split
  · rw [Chan.p_ctl, Chan.onMod_ctl]
  · rfl

/-- The end of the ARM sequence leaves of CHCTL's part everything but the sequence. -/
theorem ctl_armEnd (c : Chan) : c.armEnd.ctl = { c.ctl with arm := none } := by
  unfold Chan.armEnd
  split
  · rename_i h
    rw [← h]
  · dsimp only
    rw [ctl_primerAbort]
    have k : ∀ d : Chan, (if d.g PRE_STATUS_PHASE = 5 then d else d.p PRE_STATUS_PHASE 0).ctl = d.ctl := by
      intro d
      split
      · rfl
      · rw [Chan.p_ctl]
    rw [k]
    show { (c.openMask _).ctl with arm := none } = _
    rw [ctl_openMask]

theorem frame_srcOff {l : List Nat} {c0 c : Chan} {s : Src} (h : c0.Frame l c) (hs : (srcRegs s.blk).src ∈ l) : c0.Frame l (c.srcOff s) :=
  fun x hx => by
    rw [← frame_wr (v := setBit (c.rd (srcRegs s.blk).src) (16 + s.bit) false) h hs x hx]
    rfl

theorem frame_cmpCont {l : List Nat} {c0 c : Chan} {n : Nat} (h : c0.Frame l c) (h1 : CONT_STATUS ∈ l) (h2 : MSIO_SRC_STATUS ∈ l) :
    c0.Frame l (c.cmpCont n) := by
  unfold Chan.cmpCont
  extract_lets k dis c1
  have e : c0.Frame l c1 := frame_pb (f := CONT_STATUS_DISCREP) h h1
  clear_value c1
  split
  · exact frame_srcOff e h2
  · exact e

theorem frame_setCdrv {l : List Nat} {c0 c : Chan} {n : Nat} {v : Bool} (h : c0.Frame l c) (h1 : CONT_STATUS ∈ l) (h2 : MSIO_SRC_STATUS ∈ l) :
    c0.Frame l (c.setCdrv n v) := by
  unfold Chan.setCdrv
  split
  · exact h
  · exact frame_cmpCont (frame_pb h h1) h1 h2

theorem frame_openMask {l : List Nat} {c0 c : Chan} {m : Nat} (h : c0.Frame l c) (h1 : CONT_STATUS ∈ l) (h2 : MSIO_SRC_STATUS ∈ l) :
    c0.Frame l (c.openMask m) := by
  have k : ∀ (n : List Nat) (d : Chan), c0.Frame l d → c0.Frame l (n.foldl (fun d k => if m.testBit k then d.setCdrv (k + 1) false else d) d) := by
    intro n
    induction n with
    | nil => intro d hd; exact hd
    | cons x n ih =>
      intro d hd
      refine ih _ ?_
      dsimp only
      split
      · exact frame_setCdrv hd h1 h2
      · exact hd
  exact k _ _ h

/-- The registers that the end of an ARM sequence may change. -/
theorem frame_armEnd (c : Chan) : c.Frame [CONT_STATUS, MSIO_SRC_STATUS, PRE_STATUS, PRIMER_RES] c.armEnd := by
  unfold Chan.armEnd
  split
  · exact frame_refl _ _
  · rename_i a ha
    have k : ∀ d : Chan, c.Frame [CONT_STATUS, MSIO_SRC_STATUS, PRE_STATUS, PRIMER_RES] d →
        c.Frame [CONT_STATUS, MSIO_SRC_STATUS, PRE_STATUS, PRIMER_RES] d.primerAbort := by
      intro d hd
      unfold Chan.primerAbort
      split
      · exact frame_p (frame_regs hd rfl) (by decide)
      · exact hd
    refine k _ ?_
    have e : c.Frame [CONT_STATUS, MSIO_SRC_STATUS, PRE_STATUS, PRIMER_RES]
        (((c.openMask a.closed).onCtl (fun x => { x with arm := none })).onMsio (fun m => { m with preAt := none })) :=
      frame_regs (frame_openMask (frame_refl _ _) (by decide) (by decide)) rfl
    split
    · exact e
    · exact frame_p e (by decide)

end Sys2Proof.Machine
end

