-- ==== Sys2Proof/Laws/Steady.lean ====
section
/-! SUPPORT. Laws/Steady.lean: the state, the EN pins and the DC-link comparators under the operations that change none of them, and the entries
into the states. -/

set_option Elab.async false

namespace Sys2Proof.Machine
open Sys2Proof

/-- What the selection of a safe state reads of the leg health, the speed class and the holds, as before. -/
structure Chan.SelKept (c0 c : Chan) : Prop where
  spd : c.g DUST_STATUS_SPD_HIGH = c0.g DUST_STATUS_SPD_HIGH
  hard : c.g DUST_STATUS_HARD_N = c0.g DUST_STATUS_HARD_N
  reeval : c.g DUST_STATUS_REEVAL = c0.g DUST_STATUS_REEVAL
  leg : c.rd LEG_HEALTH = c0.rd LEG_HEALTH
  dctl : c.rd DUST_CTL = c0.rd DUST_CTL

/-- The state, the EN pins and the DC-link comparators read as before; with `q`, also what the selection reads. -/
structure Chan.Steady (q : Bool) (c0 c : Chan) : Prop where
  state : c.state = c0.state
  pins : c.g EN_STATUS_EN_PIN = c0.g EN_STATUS_EN_PIN
  cmp : c.g DCL_STATUS_CMP = c0.g DCL_STATUS_CMP
  sel : q = true → c0.SelKept c

theorem steady_refl {q : Bool} (c : Chan) : c.Steady q c := ⟨rfl, rfl, rfl, fun _ => ⟨rfl, rfl, rfl, rfl, rfl⟩⟩
theorem steady_trans {q : Bool} {a b c : Chan} (h : a.Steady q b) (k : b.Steady q c) : a.Steady q c :=
  ⟨k.state.trans h.state, k.pins.trans h.pins, k.cmp.trans h.cmp, fun hq => ⟨(k.sel hq).spd.trans (h.sel hq).spd, (k.sel hq).hard.trans (h.sel hq).hard,
    (k.sel hq).reeval.trans (h.sel hq).reeval, (k.sel hq).leg.trans (h.sel hq).leg, (k.sel hq).dctl.trans (h.sel hq).dctl⟩⟩
theorem steady_wr {q : Bool} {c0 c : Chan} {a v : Nat} (h : c0.Steady q c)
    (ha : a ≠ CH_STATE ∧ a ≠ EN_STATUS ∧ a ≠ DCL_STATUS ∧ a ≠ DUST_STATUS ∧ a ≠ LEG_HEALTH ∧ a ≠ DUST_CTL) : c0.Steady q (c.wr a v) := by
  obtain ⟨h1, h2, h3, h4, h5, h6⟩ := ha
  exact ⟨(Chan.g_wr_reg c a CH_STATE_STATE v (fun e => h1 e.symm)).trans h.state, (Chan.g_wr_reg c a EN_STATUS_EN_PIN v (fun e => h2 e.symm)).trans h.pins,
   (Chan.g_wr_reg c a DCL_STATUS_CMP v (fun e => h3 e.symm)).trans h.cmp, fun hq =>
   ⟨(Chan.g_wr_reg c a DUST_STATUS_SPD_HIGH v (fun e => h4 e.symm)).trans (h.sel hq).spd,
    (Chan.g_wr_reg c a DUST_STATUS_HARD_N v (fun e => h4 e.symm)).trans (h.sel hq).hard,
    (Chan.g_wr_reg c a DUST_STATUS_REEVAL v (fun e => h4 e.symm)).trans (h.sel hq).reeval,
    (Chan.rd_wr_other c a v _ (fun e => h5 e.symm)).trans (h.sel hq).leg, (Chan.rd_wr_other c a v _ (fun e => h6 e.symm)).trans (h.sel hq).dctl⟩⟩
/-- A field that shares no bit with what is kept. -/
def quietFld (f : Fld) : Bool :=
  f.ok && f.apart CH_STATE_STATE && f.apart EN_STATUS_EN_PIN && f.apart DCL_STATUS_CMP && f.apart DUST_STATUS_SPD_HIGH && f.apart DUST_STATUS_HARD_N
    && f.apart DUST_STATUS_REEVAL && f.reg != LEG_HEALTH && f.reg != DUST_CTL
theorem steady_p {q : Bool} {c0 c : Chan} {f : Fld} {v : Nat} (h : c0.Steady q c) (hf : quietFld f = true) : c0.Steady q (c.p f v) := by
  simp only [quietFld, Bool.and_eq_true, bne_iff_ne, ne_eq] at hf
  obtain ⟨⟨⟨⟨⟨⟨⟨⟨hk, h1⟩, h2⟩, h3⟩, h4⟩, h5⟩, h6⟩, h7⟩, h8⟩ := hf
  exact ⟨(Chan.g_p_other c f CH_STATE_STATE v hk (by decide) h1).trans h.state, (Chan.g_p_other c f EN_STATUS_EN_PIN v hk (by decide) h2).trans h.pins,
   (Chan.g_p_other c f DCL_STATUS_CMP v hk (by decide) h3).trans h.cmp, fun hq =>
   ⟨(Chan.g_p_other c f DUST_STATUS_SPD_HIGH v hk (by decide) h4).trans (h.sel hq).spd,
    (Chan.g_p_other c f DUST_STATUS_HARD_N v hk (by decide) h5).trans (h.sel hq).hard,
    (Chan.g_p_other c f DUST_STATUS_REEVAL v hk (by decide) h6).trans (h.sel hq).reeval,
    (Chan.rd_p_other c f v _ (fun e => h7 e.symm)).trans (h.sel hq).leg, (Chan.rd_p_other c f v _ (fun e => h8 e.symm)).trans (h.sel hq).dctl⟩⟩
theorem steady_hard {c0 c : Chan} {v : Nat} (h : c0.Steady false c) : c0.Steady false (c.p DUST_STATUS_HARD_N v) :=
  ⟨(Chan.g_p_reg c DUST_STATUS_HARD_N CH_STATE_STATE v (by decide)).trans h.state, (Chan.g_p_reg c DUST_STATUS_HARD_N EN_STATUS_EN_PIN v (by decide)).trans h.pins,
   (Chan.g_p_reg c DUST_STATUS_HARD_N DCL_STATUS_CMP v (by decide)).trans h.cmp, fun hq => by cases hq⟩
theorem steady_pb {q : Bool} {c0 c : Chan} {f : Fld} {i : Nat} {v : Bool} (h : c0.Steady q c) (hf : quietFld f = true) : c0.Steady q (c.pb f i v) := steady_p h hf
theorem steady_wrapInc {q : Bool} {c0 c : Chan} {f : Fld} (h : c0.Steady q c) (hf : quietFld f = true) : c0.Steady q (c.wrapInc f) := steady_p h hf
theorem src_quiet (blk : Nat) : (srcRegs blk).src ≠ CH_STATE ∧ (srcRegs blk).src ≠ EN_STATUS ∧ (srcRegs blk).src ≠ DCL_STATUS ∧ (srcRegs blk).src ≠ DUST_STATUS ∧
    (srcRegs blk).src ≠ LEG_HEALTH ∧ (srcRegs blk).src ≠ DUST_CTL := by
  unfold srcRegs
  split <;> decide
theorem steady_foldl {α : Type} {q : Bool} {c0 : Chan} {f : Chan → α → Chan} {l : List α} {c : Chan} (hf : ∀ d x, c0.Steady q d → c0.Steady q (f d x))
    (h : c0.Steady q c) : c0.Steady q (l.foldl f c) := by
  induction l generalizing c with
  | nil => exact h
  | cons x l ih => exact ih (hf _ _ h)
theorem steady_each {q : Bool} {c0 c : Chan} {n : Nat} {f : Chan → Nat → Chan} (hf : ∀ d x, c0.Steady q d → c0.Steady q (f d x)) (h : c0.Steady q c) :
    c0.Steady q (c.each n f) := steady_foldl hf h
theorem steady_use {q : Bool} {c0 x c : Chan} (h : c0.Steady q x) (f : c0.Steady q x → c0.Steady q c) : c0.Steady q c := f h
theorem steady_mk {q : Bool} {c0 c : Chan} {x_id : Ch} {x_now : Tick} {x_parked : Bool} {x_free : Nat} {x_shadow x_inv x_tcm : RegMap} {x_tb : TimeBase} {x_out : RecOut}
    {x_answers : List OpDone} {x_mail : List Part} {x_subs : List Subscr} {x_ctl : Ctl} {x_bases : Bases} {x_ring : Ring} {x_adc : Adc} {x_sinc : Sinc}
    {x_xchk : Xchk} {x_dtc : Dtc} {x_mask : Mask} {x_obs : Obs} {x_skim : Skim} {x_slices : List SliceSt} {x_modul : Modul} {x_prot : Prot}
    {x_dust : Dust} {x_msio : Msio} {x_life : Life} (h : c0.Steady q c) :
    c0.Steady q (Chan.mk x_id x_now x_parked x_free c.regs x_shadow x_inv x_tcm x_tb x_out x_answers x_mail x_subs x_ctl x_bases x_ring x_adc x_sinc x_xchk x_dtc
      x_mask x_obs x_skim x_slices x_modul x_prot x_dust x_msio x_life) := ⟨h.state, h.pins, h.cmp, fun hq => ⟨(h.sel hq).spd, (h.sel hq).hard, (h.sel hq).reeval, (h.sel hq).leg, (h.sel hq).dctl⟩⟩
theorem steady_slice {q : Bool} {c0 c : Chan} {s v : Nat} {f : Fld} (h : c0.Steady q c) (hs : s < 8) (hf : f.reg = SL_STATUS s) : c0.Steady q (c.p f v) := by
  refine steady_wr h ?_
  rw [hf]
  interval_cases s <;> decide
theorem steady_srcEvt {q : Bool} {c0 c : Chan} {t : Nat} {s : Src} (h : c0.Steady q c) : c0.Steady q (c.srcEvt t s) := steady_mk h
theorem steady_srcOff {q : Bool} {c0 c : Chan} {s : Src} (h : c0.Steady q c) : c0.Steady q (c.srcOff s) := by
  unfold Chan.srcOff
  exact steady_srcEvt (steady_wr h (src_quiet _))
theorem steady_offIf {q : Bool} {c0 c : Chan} {s : Src} (h : c0.Steady q c) : c0.Steady q (c.offIf s) := by
  unfold Chan.offIf
  split
  · exact steady_srcOff h
  · exact h
theorem foldl_steady_mem {α : Type} {q : Bool} {c0 : Chan} {f : Chan → α → Chan} {l : List α} {c : Chan}
    (hf : ∀ d x, x ∈ l → c0.Steady q d → c0.Steady q (f d x)) (h : c0.Steady q c) : c0.Steady q (l.foldl f c) := by
  induction l generalizing c with
  | nil => exact h
  | cons x l ih => exact ih (fun d y hy => hf d y (List.mem_cons_of_mem _ hy)) (hf _ _ List.mem_cons_self h)
theorem each_steady_lt {q : Bool} {c0 c : Chan} {n : Nat} {f : Chan → Nat → Chan} (hf : ∀ d x, x < n → c0.Steady q d → c0.Steady q (f d x))
    (h : c0.Steady q c) : c0.Steady q (c.each n f) := foldl_steady_mem (fun d x hx hd => hf d x (List.mem_range.1 hx) hd) h
theorem steady_emit {q : Bool} {c0 c : Chan} {b : RecBody} (h : c0.Steady q c) : c0.Steady q (c.emit b) := steady_mk h
theorem steady_evt {q : Bool} {c0 c : Chan} {t b i s x y : Nat} (h : c0.Steady q c) : c0.Steady q (c.evt t b i s x y) := steady_mk h
theorem steady_onSl {q : Bool} {c0 c : Chan} {s : Nat} {f : SliceSt → SliceSt} (h : c0.Steady q c) : c0.Steady q (c.onSl s f) := steady_mk h
theorem steady_onCtl {q : Bool} {c0 c : Chan} {f : Ctl → Ctl} (h : c0.Steady q c) : c0.Steady q (c.onCtl f) := steady_mk h
theorem steady_onMod {q : Bool} {c0 c : Chan} {f : Modul → Modul} (h : c0.Steady q c) : c0.Steady q (c.onMod f) := steady_mk h
theorem steady_onProt {q : Bool} {c0 c : Chan} {f : Prot → Prot} (h : c0.Steady q c) : c0.Steady q (c.onProt f) := steady_mk h
theorem steady_onDust {q : Bool} {c0 c : Chan} {f : Dust → Dust} (h : c0.Steady q c) : c0.Steady q (c.onDust f) := steady_mk h
theorem steady_onMsio {q : Bool} {c0 c : Chan} {f : Msio → Msio} (h : c0.Steady q c) : c0.Steady q (c.onMsio f) := steady_mk h
theorem steady_onLife {q : Bool} {c0 c : Chan} {f : Life → Life} (h : c0.Steady q c) : c0.Steady q (c.onLife f) := steady_mk h
theorem steady_onDtc {q : Bool} {c0 c : Chan} {f : Dtc → Dtc} (h : c0.Steady q c) : c0.Steady q (c.onDtc f) := steady_mk h
theorem steady_answer {q : Bool} {c0 c : Chan} {op : ChOp} {st : Nat} {w : List Nat} (h : c0.Steady q c) : c0.Steady q (c.answer op st w) := steady_mk h
theorem steady_armAnswer {q : Bool} {c0 c : Chan} {st : Nat} (h : c0.Steady q c) : c0.Steady q (c.armAnswer st) := steady_mk h

/-! ### The pairs -/

theorem steady_wire {q : Bool} {c0 c : Chan} {s : Nat} {t : Tick} {pu en : Bool} (hs : s < 8) (h : c0.Steady q c) : c0.Steady q (c.wire s t pu en) := by
  have k : c0.Steady q (c.onSl s (fun x => { x with wire := x.wire ++ [⟨t, pu, en⟩] })) := steady_onSl h
  unfold Chan.wire
  dsimp only
  split
  · exact k
  · exact steady_slice (steady_slice k hs rfl) hs rfl
theorem steady_recordLeg {q : Bool} {c0 c : Chan} {p : Nat} {t : Tick} (h : c0.Steady q c) : c0.Steady q (c.recordLeg p t) := steady_mk h
theorem steady_legChange {q : Bool} {c0 c : Chan} {p : Nat} {t : Tick} {pu : Bool} (h : c0.Steady q c) : c0.Steady q (c.legChange p t pu) := by
  unfold Chan.legChange
  exact steady_onDtc (steady_onMod (steady_mk h))
theorem steady_edgeOut {q : Bool} {c0 c : Chan} {p : Nat} {t : Tick} {pu en : Bool} (hp : p < 4) (h : c0.Steady q c) : c0.Steady q (c.edgeOut p t pu en) := by
  unfold Chan.edgeOut
  exact steady_onMod (foldl_steady_mem (fun d s hs hd => steady_onSl (steady_wire (pairSlices_lt hp hs) hd)) h)
theorem steady_sendPairAt {q : Bool} {c0 c : Chan} {p : Nat} {t : Tick} (hp : p < 4) (h : c0.Steady q c) : c0.Steady q (c.sendPairAt p t) := by
  unfold Chan.sendPairAt
  dsimp only
  generalize (c.lastSent (if p = 3 then 6 else 2 * p) == (c.pulseOf p, c.enOut p)) = b
  split
  · exact h
  · split
    · exact steady_recordLeg (steady_edgeOut hp h)
    · exact steady_edgeOut hp h
theorem steady_sendPair {q : Bool} {c0 c : Chan} {p : Nat} (hp : p < 4) (h : c0.Steady q c) : c0.Steady q (c.sendPair p) := steady_sendPairAt hp h
theorem steady_setPairAt {q : Bool} {c0 c : Chan} {p : Nat} {t : Tick} {en pu : Bool} (hp : p < 4) (h : c0.Steady q c) :
    c0.Steady q (c.setPairAt p t en pu) := by
  unfold Chan.setPairAt
  dsimp only
  refine steady_sendPairAt hp (steady_pb (steady_pb ?_ (by decide)) (by decide))
  split
  · exact steady_legChange h
  · exact h
theorem steady_setPair {q : Bool} {c0 c : Chan} {p : Nat} {en pu : Bool} (hp : p < 4) (h : c0.Steady q c) : c0.Steady q (c.setPair p en pu) :=
  steady_setPairAt hp h
theorem steady_setLegs {q : Bool} {c0 c : Chan} {en pu : Nat} (h : c0.Steady q c) : c0.Steady q (c.setLegs en pu) :=
  each_steady_lt (fun _ _ hx hd => steady_setPair (by omega) hd) h
theorem steady_legsOff {q : Bool} {c0 c : Chan} (h : c0.Steady q c) : c0.Steady q c.legsOff :=
  each_steady_lt (fun _ _ hx hd => steady_setPair (by omega) hd) h
theorem steady_togglePair {q : Bool} {c0 c : Chan} {p : Nat} (hp : p < 4) (h : c0.Steady q c) : c0.Steady q (c.togglePair p) := by
  have k : c0.Steady q (c.onMod (fun m => { m with ilk := setBit m.ilk p false })) := steady_onMod h
  unfold Chan.togglePair
  dsimp only
  generalize (c.onMod (fun m => { m with ilk := setBit m.ilk p false })) = d at k ⊢
  generalize (d.lastSent (if p = 3 then 6 else 2 * p)).2 = b
  split
  · exact k
  · have e : c0.Steady q (if b = true then d.edgeOut p c.now (c.pulseOf p) false else d) := by
      split
      · exact steady_edgeOut hp k
      · exact k
    generalize (if b = true then d.edgeOut p c.now (c.pulseOf p) false else d) = f at e ⊢
    split
    · exact steady_edgeOut hp e
    · exact steady_edgeOut hp (steady_edgeOut hp e)
theorem steady_setDchgOut {q : Bool} {c0 c : Chan} {on : Bool} (h : c0.Steady q c) : c0.Steady q (c.setDchgOut on) := by
  unfold Chan.setDchgOut
  split
  · exact h
  · exact steady_wire (by decide) h

theorem steady_reqDiscard {q : Bool} {c0 c : Chan}  (h : c0.Steady q c) : c0.Steady q (c.reqDiscard) := by
  unfold Chan.reqDiscard
  repeat' (first
    | with_reducible assumption
    | (with_reducible refine steady_p ?_ (by decide))
    | split
    | (intro _)
    | (extract_lets +onlyGivenNames x; first | (refine steady_use (x := x) ?_ (fun hx => ?_)) | clear_value x)
    | (with_reducible exact steady_mk (by with_reducible assumption)))
theorem steady_armDiscard {q : Bool} {c0 c : Chan}  (h : c0.Steady q c) : c0.Steady q (c.armDiscard) := by
  unfold Chan.armDiscard
  repeat' (first
    | with_reducible assumption
    | with_reducible apply steady_reqDiscard
    | with_reducible apply steady_armAnswer
    | split
    | (intro _)
    | (extract_lets +onlyGivenNames x; first | (refine steady_use (x := x) ?_ (fun hx => ?_)) | clear_value x)
    | (with_reducible exact steady_mk (by with_reducible assumption)))
theorem steady_armLost {q : Bool} {c0 c : Chan} {arm : Option ArmSeq} (h : c0.Steady q c) : c0.Steady q (c.armLost arm) := by
  unfold Chan.armLost
  repeat' (first
    | with_reducible assumption
    | with_reducible apply steady_armDiscard
    | with_reducible apply steady_armAnswer
    | split
    | (intro _)
    | (extract_lets +onlyGivenNames x; first | (refine steady_use (x := x) ?_ (fun hx => ?_)) | clear_value x)
    | (with_reducible exact steady_mk (by with_reducible assumption)))
theorem steady_maskReport {q : Bool} {c0 c : Chan}  (h : c0.Steady q c) : c0.Steady q (c.maskReport) := by
  unfold Chan.maskReport
  repeat' (first
    | with_reducible assumption
    | (with_reducible refine steady_p ?_ (by decide))
    | split
    | (intro _)
    | (extract_lets +onlyGivenNames x; first | (refine steady_use (x := x) ?_ (fun hx => ?_)) | clear_value x)
    | (with_reducible exact steady_mk (by with_reducible assumption)))
theorem steady_reacqLeave {q : Bool} {c0 c : Chan}  (h : c0.Steady q c) : c0.Steady q (c.reacqLeave) := by
  unfold Chan.reacqLeave
  repeat' (first
    | with_reducible assumption
    | (with_reducible refine steady_p ?_ (by decide))
    | split
    | (intro _)
    | (extract_lets +onlyGivenNames x; first | (refine steady_use (x := x) ?_ (fun hx => ?_)) | clear_value x)
    | (with_reducible exact steady_mk (by with_reducible assumption)))
theorem steady_applySel {q : Bool} {c0 c : Chan}  (h : c0.Steady q c) : c0.Steady q (c.applySel) := by
  unfold Chan.applySel
  repeat' (first
    | with_reducible assumption
    | with_reducible apply steady_reacqLeave
    | with_reducible apply steady_onDust
    | with_reducible apply steady_evt
    | with_reducible apply steady_onLife
    | with_reducible apply steady_onProt
    | with_reducible apply steady_legsOff
    | with_reducible apply steady_setLegs
    | (with_reducible refine steady_p ?_ (by decide))
    | (with_reducible refine steady_wrapInc ?_ (by decide))
    | split
    | (intro _)
    | (extract_lets +onlyGivenNames x; first | (refine steady_use (x := x) ?_ (fun hx => ?_)) | clear_value x)
    | (with_reducible exact steady_mk (by with_reducible assumption))
    | (with_reducible apply steady_mk; first | with_reducible apply steady_reacqLeave | with_reducible apply steady_onDust | with_reducible apply steady_evt | with_reducible apply steady_onLife | with_reducible apply steady_onProt | with_reducible apply steady_legsOff | with_reducible apply steady_setLegs))
theorem steady_cmpCont {q : Bool} {c0 c : Chan} {n : Nat} (h : c0.Steady q c) : c0.Steady q (c.cmpCont n) := by
  unfold Chan.cmpCont
  repeat' (first
    | with_reducible assumption
    | with_reducible apply steady_onMsio
    | with_reducible apply steady_srcOff
    | (with_reducible refine steady_pb ?_ (by decide))
    | split
    | (intro _)
    | (extract_lets +onlyGivenNames x; first | (refine steady_use (x := x) ?_ (fun hx => ?_)) | clear_value x)
    | (with_reducible exact steady_mk (by with_reducible assumption))
    | (with_reducible apply steady_mk; first | with_reducible apply steady_onMsio | with_reducible apply steady_srcOff))
theorem steady_setCdrv {q : Bool} {c0 c : Chan} {n : Nat} {v : Bool} (h : c0.Steady q c) : c0.Steady q (c.setCdrv n v) := by
  unfold Chan.setCdrv
  repeat' (first
    | with_reducible assumption
    | with_reducible apply steady_cmpCont
    | (with_reducible refine steady_pb ?_ (by decide))
    | split
    | (intro _)
    | (extract_lets +onlyGivenNames x; first | (refine steady_use (x := x) ?_ (fun hx => ?_)) | clear_value x)
    | (with_reducible exact steady_mk (by with_reducible assumption)))
theorem steady_cdrvAllLow {q : Bool} {c0 c : Chan}  (h : c0.Steady q c) : c0.Steady q (c.cdrvAllLow) := by
  unfold Chan.cdrvAllLow
  repeat' (first
    | with_reducible assumption
    | with_reducible apply steady_setCdrv
    | split
    | (intro _)
    | (extract_lets +onlyGivenNames x; first | (refine steady_use (x := x) ?_ (fun hx => ?_)) | clear_value x)
    | (with_reducible exact steady_mk (by with_reducible assumption)))
theorem steady_openMask {q : Bool} {c0 c : Chan} {m : Nat} (h : c0.Steady q c) : c0.Steady q (c.openMask m) := by
  unfold Chan.openMask
  repeat' (first
    | with_reducible assumption
    | with_reducible apply steady_each
    | with_reducible apply steady_setCdrv
    | split
    | (intro _)
    | (extract_lets +onlyGivenNames x; first | (refine steady_use (x := x) ?_ (fun hx => ?_)) | clear_value x)
    | (with_reducible exact steady_mk (by with_reducible assumption)))
theorem steady_cdrvHoldPrimed {q : Bool} {c0 c : Chan}  (h : c0.Steady q c) : c0.Steady q (c.cdrvHoldPrimed) := by
  unfold Chan.cdrvHoldPrimed
  repeat' (first
    | with_reducible assumption
    | with_reducible apply steady_setCdrv
    | split
    | (intro _)
    | (extract_lets +onlyGivenNames x; first | (refine steady_use (x := x) ?_ (fun hx => ?_)) | clear_value x)
    | (with_reducible exact steady_mk (by with_reducible assumption)))
theorem steady_dchgTry {q : Bool} {c0 c : Chan}  (h : c0.Steady q c) : c0.Steady q (c.dchgTry) := by
  unfold Chan.dchgTry
  repeat' (first
    | with_reducible assumption
    | with_reducible apply steady_onProt
    | with_reducible apply steady_setDchgOut
    | (with_reducible refine steady_p ?_ (by decide))
    | split
    | (intro _)
    | (extract_lets +onlyGivenNames x; first | (refine steady_use (x := x) ?_ (fun hx => ?_)) | clear_value x)
    | (with_reducible exact steady_mk (by with_reducible assumption))
    | (with_reducible apply steady_mk; first | with_reducible apply steady_onProt | with_reducible apply steady_setDchgOut))
theorem steady_dchgAsk {q : Bool} {c0 c : Chan} {s4 : Bool} {pin : Bool} {cmd : Bool} (h : c0.Steady q c) : c0.Steady q (c.dchgAsk s4 pin cmd) := by
  unfold Chan.dchgAsk
  repeat' (first
    | with_reducible assumption
    | with_reducible apply steady_onProt
    | with_reducible apply steady_srcOff
    | with_reducible apply steady_dchgTry
    | (with_reducible refine steady_p ?_ (by decide))
    | split
    | (intro _)
    | (extract_lets +onlyGivenNames x; first | (refine steady_use (x := x) ?_ (fun hx => ?_)) | clear_value x)
    | (with_reducible exact steady_mk (by with_reducible assumption))
    | (with_reducible apply steady_mk; first | with_reducible apply steady_onProt | with_reducible apply steady_srcOff | with_reducible apply steady_dchgTry))
theorem steady_primerAbort {q : Bool} {c0 c : Chan}  (h : c0.Steady q c) : c0.Steady q (c.primerAbort) := by
  unfold Chan.primerAbort
  repeat' (first
    | with_reducible assumption
    | with_reducible apply steady_onMod
    | (with_reducible refine steady_p ?_ (by decide))
    | split
    | (intro _)
    | (extract_lets +onlyGivenNames x; first | (refine steady_use (x := x) ?_ (fun hx => ?_)) | clear_value x)
    | (with_reducible exact steady_mk (by with_reducible assumption))
    | (with_reducible apply steady_mk; first | with_reducible apply steady_onMod))
theorem steady_armEnd {q : Bool} {c0 c : Chan}  (h : c0.Steady q c) : c0.Steady q (c.armEnd) := by
  unfold Chan.armEnd
  repeat' (first
    | with_reducible assumption
    | with_reducible apply steady_openMask
    | with_reducible apply steady_onCtl
    | with_reducible apply steady_onMsio
    | with_reducible apply steady_primerAbort
    | (with_reducible refine steady_p ?_ (by decide))
    | split
    | (intro _)
    | (extract_lets +onlyGivenNames x; first | (refine steady_use (x := x) ?_ (fun hx => ?_)) | clear_value x)
    | (with_reducible exact steady_mk (by with_reducible assumption))
    | (with_reducible apply steady_mk; first | with_reducible apply steady_openMask | with_reducible apply steady_onCtl | with_reducible apply steady_onMsio | with_reducible apply steady_primerAbort))
theorem steady_commitCode {q : Bool} {c0 c : Chan} {code : Nat} (h : c0.Steady q c) : c0.Steady q (c.commitCode code) := by
  unfold Chan.commitCode
  repeat' (first
    | with_reducible assumption
    | (with_reducible refine steady_p ?_ (by decide))
    | split
    | (intro _)
    | (extract_lets +onlyGivenNames x; first | (refine steady_use (x := x) ?_ (fun hx => ?_)) | clear_value x)
    | (with_reducible exact steady_mk (by with_reducible assumption)))
theorem steady_windEnd {q : Bool} {c0 c : Chan} {st : Nat} (h : c0.Steady q c) : c0.Steady q (c.windEnd st) := by
  unfold Chan.windEnd
  repeat' (first
    | with_reducible assumption
    | with_reducible apply steady_onProt
    | (with_reducible refine steady_p ?_ (by decide))
    | split
    | (intro _)
    | (extract_lets +onlyGivenNames x; first | (refine steady_use (x := x) ?_ (fun hx => ?_)) | clear_value x)
    | (with_reducible exact steady_mk (by with_reducible assumption))
    | (with_reducible apply steady_mk; first | with_reducible apply steady_onProt))
theorem steady_nfaultSet {q : Bool} {c0 c : Chan}  (h : c0.Steady q c) : c0.Steady q (c.nfaultSet) := by
  unfold Chan.nfaultSet
  repeat' (first
    | with_reducible assumption
    | with_reducible apply steady_onDust
    | split
    | (intro _)
    | (extract_lets +onlyGivenNames x; first | (refine steady_use (x := x) ?_ (fun hx => ?_)) | clear_value x)
    | (with_reducible exact steady_mk (by with_reducible assumption))
    | (with_reducible apply steady_mk; first | with_reducible apply steady_onDust))
theorem steady_leaveFault {c0 c : Chan}  (h : c0.Steady false c) : c0.Steady false (c.leaveFault) := by
  unfold Chan.leaveFault
  repeat' (first
    | with_reducible assumption
    | with_reducible apply steady_onCtl
    | with_reducible apply steady_hard
    | (with_reducible refine each_steady_lt (fun d x hx hd => ?_) ?_)
    | (with_reducible refine steady_togglePair (by assumption) ?_)
    | (with_reducible refine steady_p ?_ (by decide))
    | split
    | (intro _)
    | (extract_lets +onlyGivenNames x; first | (refine steady_use (x := x) ?_ (fun hx => ?_)) | clear_value x)
    | (with_reducible exact steady_mk (by with_reducible assumption))
    | (with_reducible apply steady_mk; first | with_reducible apply steady_onCtl))
theorem steady_leaveRun {q : Bool} {c0 c : Chan}  (h : c0.Steady q c) : c0.Steady q (c.leaveRun) := by
  unfold Chan.leaveRun
  repeat' (first
    | with_reducible assumption
    | with_reducible apply steady_offIf
    | with_reducible apply steady_maskReport
    | with_reducible apply steady_onDtc
    | (with_reducible refine steady_p ?_ (by decide))
    | with_reducible apply steady_foldl
    | split
    | (intro _)
    | (extract_lets +onlyGivenNames x; first | (refine steady_use (x := x) ?_ (fun hx => ?_)) | clear_value x)
    | (with_reducible exact steady_mk (by with_reducible assumption))
    | (with_reducible apply steady_mk; first | with_reducible apply steady_offIf | with_reducible apply steady_maskReport | with_reducible apply steady_onDtc))
theorem steady_engineIdle {q : Bool} {c0 c : Chan}  (h : c0.Steady q c) : c0.Steady q (c.engineIdle) := by
  unfold Chan.engineIdle
  repeat' (first
    | with_reducible assumption
    | with_reducible apply steady_offIf
    | with_reducible apply steady_onDtc
    | (with_reducible refine steady_wr ?_ (by decide))
    | split
    | (intro _)
    | (extract_lets +onlyGivenNames x; first | (refine steady_use (x := x) ?_ (fun hx => ?_)) | clear_value x)
    | (with_reducible exact steady_mk (by with_reducible assumption))
    | (with_reducible apply steady_mk; first | with_reducible apply steady_offIf | with_reducible apply steady_onDtc))
theorem steady_transCheck {q : Bool} {c0 c : Chan}  (h : c0.Steady q c) : c0.Steady q (c.transCheck) := by
  unfold Chan.transCheck
  repeat' (first
    | with_reducible assumption
    | with_reducible apply steady_onCtl
    | split
    | (intro _)
    | (extract_lets +onlyGivenNames x; first | (refine steady_use (x := x) ?_ (fun hx => ?_)) | clear_value x)
    | (with_reducible exact steady_mk (by with_reducible assumption))
    | (with_reducible apply steady_mk; first | with_reducible apply steady_onCtl))

/-! ### The change of state (R50, R51) -/

theorem steady_setState_rest {q : Bool} (c : Chan) (st cause : Nat) (hq : q = true → c.state ≠ FAULT) : (c.p CH_STATE_STATE st).Steady q (c.setState st cause) := by
  unfold Chan.setState
  extract_lets old c1 c2 c3 c4 c5 moot c6 c7 c8
  have h1 : (c.p CH_STATE_STATE st).Steady q c1 := by
    have k : ∀ (d e : Chan) (v w : Nat), d.Steady q e → d.Steady q ((e.p CH_STATE_HOLD_CAUSE v).p CH_IRQ_STATUS_STATE_CHANGE w) :=
      fun d e v w h => steady_p (steady_p h (by decide)) (by decide)
    exact k _ _ _ _ (steady_refl _)
  clear_value c1
  have h2 : (c.p CH_STATE_STATE st).Steady q c2 := steady_onLife (steady_evt h1)
  clear_value c2
  have h3 : (c.p CH_STATE_STATE st).Steady q c3 := by
    unfold c3
    split
    · exact steady_leaveRun h2
    · exact h2
  clear_value c3
  have h4 : (c.p CH_STATE_STATE st).Steady q c4 := by
    unfold c4
    split
    · exact h3
    · exact steady_offIf h3
  clear_value c4
  have h5 : (c.p CH_STATE_STATE st).Steady q c5 := by
    unfold c5
    split
    · exact h4
    · exact steady_offIf h4
  clear_value c5
  clear_value moot
  have h6 : (c.p CH_STATE_STATE st).Steady q c6 := by
    unfold c6
    split
    · exact steady_onCtl (steady_reqDiscard h5)
    · exact steady_onCtl h5
  clear_value c6
  have h7 : (c.p CH_STATE_STATE st).Steady q c7 := by
    unfold c7
    split
    · exact steady_engineIdle h6
    · exact h6
  clear_value c7
  have h8 : (c.p CH_STATE_STATE st).Steady q c8 := by
    unfold c8
    split
    · rename_i hf
      cases q with
      | true => exact absurd hf (hq rfl)
      | false => exact steady_nfaultSet (steady_leaveFault h7)
    · exact steady_nfaultSet h7
  clear_value c8
  exact steady_mk h8

/-- The state after a change of state is the one entered (R50). -/
theorem state_setState (c : Chan) (st cause : Nat) (h : st < 8) : (c.setState st cause).state = st := by
  rw [(steady_setState_rest (q := false) c st cause (by simp)).state, state_pState, Nat.mod_eq_of_lt h]

theorem pins_setState (c : Chan) (st cause : Nat) : (c.setState st cause).g EN_STATUS_EN_PIN = c.g EN_STATUS_EN_PIN := by
  rw [(steady_setState_rest (q := false) c st cause (by simp)).pins, Chan.g_p_reg _ _ _ _ (by decide)]

theorem cmp_setState (c : Chan) (st cause : Nat) : (c.setState st cause).g DCL_STATUS_CMP = c.g DCL_STATUS_CMP := by
  rw [(steady_setState_rest (q := false) c st cause (by simp)).cmp, Chan.g_p_reg _ _ _ _ (by decide)]

/-- Where the selection raises no NO_SAFE, running it keeps the state. -/
theorem steady_reselect {q : Bool} (c : Chan) (h : c.selOf.noSafe = false) : c.Steady q c.reselect := by
  unfold Chan.reselect
  dsimp only
  rw [if_neg (by simp [h])]
  refine steady_offIf (steady_applySel ?_)
  split
  · exact steady_windEnd (steady_refl _)
  · exact steady_refl _

theorem noSafe_other (c : Chan) (h : c.state ≠ HOLD ∧ c.state ≠ FAULT) : c.selOf.noSafe = false := by
  unfold Chan.selOf
  rw [if_pos h]

/-- With no leg failed, the speed class low and the hard-short holds not exceeded, OPEN is selected (R274). -/
theorem noSafe_open (c : Chan) (h1 : c.rd LEG_HEALTH = 0) (h2 : c.b DUST_STATUS_SPD_HIGH = false)
    (h3 : c.g DUST_STATUS_HARD_N ≤ c.g DUST_CTL_HARD_MAX) : c.selOf.noSafe = false := by
  have e1 : c.g LEG_HEALTH_FS_H = 0 := by
    unfold Chan.g
    rw [show LEG_HEALTH_FS_H.reg = LEG_HEALTH from rfl, h1]
    rfl
  have e2 : c.g LEG_HEALTH_FS_L = 0 := by
    unfold Chan.g
    rw [show LEG_HEALTH_FS_L.reg = LEG_HEALTH from rfl, h1]
    rfl
  unfold Chan.selOf
  rw [e1, e2, h2, if_neg (Nat.not_lt.2 h3)]
  split
  · rfl
  · split
    · rfl
    · rfl

/-- Nothing that the entry into a state judges is raised where the EN pins are high and the UV comparator is clear. -/
theorem entryChecks_none (c : Chan) (h1 : c.g EN_STATUS_EN_PIN = 15) (h2 : c.gb DCL_STATUS_CMP 0 = false) : c.entryChecks = c := by
  unfold Chan.entryChecks
  simp [h1, h2]

theorem gb_of_g {c d : Chan} {f : Fld} {i : Nat} (h : d.g f = c.g f) : d.gb f i = c.gb f i := by
  unfold Chan.gb
  rw [h]

/-- The entry into PRIMED ends in PRIMED (R51). -/
theorem state_enterPrimed (c : Chan) : c.enterPrimed.state = PRIMED := by
  unfold Chan.enterPrimed
  have k := state_setState c.armEnd PRIMED 0 (by decide)
  generalize c.armEnd.setState PRIMED 0 = d at k ⊢
  have h : d.Steady false ((d.reselect).legsOff.cdrvAllLow.p PRE_STATUS_PHASE 0) :=
    steady_p (steady_cdrvAllLow (steady_legsOff (steady_reselect d (noSafe_other d (by rw [k]; decide))))) (by decide)
  generalize (d.reselect).legsOff.cdrvAllLow.p PRE_STATUS_PHASE 0 = e at h ⊢
  have hs : e.state = PRIMED := h.state.trans k
  have he : e.entryChecks = e := by
    unfold Chan.entryChecks
    simp [hs, show ¬ PRIMED = ARMED by decide, show ¬ PRIMED = RUN by decide, show ¬ PRIMED = HOLD by decide]
  rw [he, (steady_transCheck (q := false) (steady_refl e)).state, hs]

/-- The entry into ARMED ends in ARMED where the EN pins are high and the UV comparator is clear (R51). -/
theorem state_enterArmed (c : Chan) (h1 : c.g EN_STATUS_EN_PIN = 15) (h2 : c.gb DCL_STATUS_CMP 0 = false) : c.enterArmed.state = ARMED := by
  unfold Chan.enterArmed
  have k := state_setState c ARMED 0 (by decide)
  have k1 := pins_setState c ARMED 0
  have k2 := cmp_setState c ARMED 0
  generalize c.setState ARMED 0 = d at k k1 k2 ⊢
  have h : d.Steady false (d.reselect).legsOff := steady_legsOff (steady_reselect d (noSafe_other d (by rw [k]; decide)))
  generalize (d.reselect).legsOff = e at h ⊢
  rw [entryChecks_none e (by rw [h.pins, k1, h1]) (by rw [gb_of_g (h.cmp.trans k2), h2]), (steady_transCheck (q := false) (steady_refl e)).state, h.state, k]

/-- The entry into RUN ends in RUN where the EN pins are high and the UV comparator is clear (R51). -/
theorem state_enterRun (c : Chan) (h1 : c.g EN_STATUS_EN_PIN = 15) (h2 : c.gb DCL_STATUS_CMP 0 = false) : c.enterRun.state = RUN := by
  unfold Chan.enterRun
  have k := state_setState c RUN 0 (by decide)
  have k1 := pins_setState c RUN 0
  have k2 := cmp_setState c RUN 0
  generalize c.setState RUN 0 = d at k k1 k2 ⊢
  have h : d.Steady false (d.onCtl (fun x => { x with lapseAt := c.now })) := steady_onCtl (steady_refl _)
  generalize d.onCtl (fun x => { x with lapseAt := c.now }) = e at h ⊢
  rw [entryChecks_none e (by rw [h.pins, k1, h1]) (by rw [gb_of_g (h.cmp.trans k2), h2]), (steady_transCheck (q := false) (steady_refl e)).state, h.state, k]

/-- The entry into HOLD from a state other than FAULT ends in HOLD where the EN pins are high and OPEN is selected (R51, R274). -/
theorem state_enterHold (c : Chan) (cause : Nat) (hf : c.state ≠ FAULT) (h1 : c.g EN_STATUS_EN_PIN = 15) (h2 : c.rd LEG_HEALTH = 0)
    (h3 : c.b DUST_STATUS_SPD_HIGH = false) (h4 : c.g DUST_STATUS_HARD_N ≤ c.g DUST_CTL_HARD_MAX) : (c.enterHold cause).state = HOLD := by
  unfold Chan.enterHold
  dsimp only
  have ha : c.Steady true c.armEnd := steady_armEnd (steady_refl _)
  have hs := steady_setState_rest (q := true) c.armEnd HOLD cause (fun _ => by rw [ha.state]; exact hf)
  have k := state_setState c.armEnd HOLD cause (by decide)
  generalize c.armEnd.setState HOLD cause = d at hs k ⊢
  have hb : d.Steady true (d.armLost c.ctl.arm) := steady_armLost (steady_refl _)
  generalize d.armLost c.ctl.arm = a at hb ⊢
  have hd : d.Steady true (if c.state = PRIMED then a.cdrvHoldPrimed else a.setCdrv 2 false) := by
    split
    · exact steady_cdrvHoldPrimed hb
    · exact steady_setCdrv hb
  generalize (if c.state = PRIMED then a.cdrvHoldPrimed else a.setCdrv 2 false) = e at hd ⊢
  have x1 := (hd.sel rfl)
  have x2 := (hs.sel rfl)
  have x3 := (ha.sel rfl)
  have y : e.selOf.noSafe = false := by
    have g1 : ∀ f : Fld, f.reg = DUST_CTL → e.g f = c.g f := by
      intro f hf
      unfold Chan.g
      rw [hf, x1.dctl, x2.dctl, Chan.rd_p_other _ _ _ _ (by decide), x3.dctl]
    refine noSafe_open e ?_ ?_ ?_
    · rw [x1.leg, x2.leg, Chan.rd_p_other _ _ _ _ (by decide), x3.leg, h2]
    · unfold Chan.b
      rw [x1.spd, x2.spd, Chan.g_p_reg _ _ _ _ (by decide), x3.spd]
      exact h3
    · rw [x1.hard, x2.hard, Chan.g_p_reg _ _ _ _ (by decide), x3.hard, g1 _ rfl]
      exact h4
  have z := steady_reselect (q := false) e y
  have w : e.reselect.entryChecks = e.reselect := by
    have p : e.reselect.g EN_STATUS_EN_PIN = 15 := by
      rw [z.pins, hd.pins, hs.pins, Chan.g_p_reg _ _ _ _ (by decide), ha.pins, h1]
    have st : e.reselect.state = HOLD := by rw [z.state, hd.state, k]
    unfold Chan.entryChecks
    simp [p, st, show ¬ HOLD = ARMED by decide, show ¬ HOLD = RUN by decide]
  rw [w, (steady_transCheck (q := false) (steady_refl _)).state, z.state, hd.state, k]

theorem react_enterHold (c : Chan) (n : Nat) : c.Reacts false (c.enterHold n) := by
  unfold Chan.enterHold
  dsimp only
  refine react_transCheck (react_entryChecks (react_reselect ?_))
  have h0 : c.Reacts false (c.armEnd.setState HOLD n) := react_setState (by simp) (react_armEnd (react_refl _))
  have h1 := react_armLost (arm := c.ctl.arm) h0
  split
  · exact react_cdrvHoldPrimed h1
  · exact react_setCdrv h1

theorem react_enterPrimed (c : Chan) : c.Reacts false c.enterPrimed :=
  react_transCheck (react_entryChecks (react_p (react_cdrvAllLow (react_legsOff (react_reselect (react_setState (by simp) (react_armEnd (react_refl _))))))
    (by decide) (by decide) (by decide)))

theorem react_enterArmed (c : Chan) : c.Reacts false c.enterArmed :=
  react_transCheck (react_entryChecks (react_legsOff (react_reselect (react_setState (by simp) (react_refl _)))))

theorem react_enterRun (c : Chan) : c.Reacts false c.enterRun :=
  react_transCheck (react_entryChecks (react_onCtl (react_setState (by simp) (react_refl _)) (fun h => h)))

end Sys2Proof.Machine
end

