-- ==== Sys2Proof/WellFormed.lean ====
section
/-! DEFINITION. WellFormed.lean: which commands have operands that the hardware can carry: every number within the width or the count of what
it stands for. The meanings are total; nothing but the sense of an operand depends on this. -/

namespace Sys2Proof

/-- Every element is a byte. -/
def bytesOk (l : List Nat) : Bool := l.all (fun b => Nat.blt b 256)

/-- A received Ethernet frame's fields fit their widths (R354, R362). -/
def RxFrame.ok (f : RxFrame) : Bool :=
  Nat.blt f.mac (2 ^ 48) && Nat.blt (f.vid.getD 0) 4096 && Nat.blt f.dport 65536 && Nat.blt f.sport 65536
    && Nat.blt f.dst (if f.v6 then 2 ^ 128 else 2 ^ 32) && Nat.blt f.src (if f.v6 then 2 ^ 128 else 2 ^ 32) && bytesOk f.udp

/-- A CAN frame's fields fit their widths; classic frames are not switched and hold at most 8 bytes (R426). -/
def CanFrame.ok (f : CanFrame) : Bool :=
  Nat.blt f.id (2 ^ 29) && Nat.blt f.dlc 16 && bytesOk f.data && Nat.ble f.data.length (if f.fdf then 64 else 8) && (f.fdf || !f.brs)

/-- What an answer needs of its bundle fits the frame's fields (R359, R372). -/
def Req.ok (r : Req) : Bool :=
  Nat.ble r.flow 256 && Nat.blt r.tag 64 && Nat.blt r.seq (2 ^ 32) && Nat.blt r.bundle 4096 && Nat.blt r.arrival (2 ^ 64) && Nat.blt r.port 65536

/-- A set's identity fits its fields (R401). -/
def SetId.ok (i : SetId) : Bool := Nat.blt i.dev 256 && Nat.blt i.version (2 ^ 32) && Nat.blt i.sig (2 ^ 512)

/-- A telemetry frame's ratio is Q0.16 (R228). -/
def Telem.ok (m : Telem) : Bool :=
  match m with
  | .rails _ _ => true
  | .temps ts _ => Nat.blt ts 65536
  | .vds _ => true

/-- An access is 1, 2 or 4 bytes wide, at an address of 32 bits (R9). -/
def Access.ok (a : Access) : Bool := (a.size == 1 || a.size == 2 || a.size == 4) && Nat.blt a.addr (2 ^ 32)

/-- The pulses of three legs. -/
def ReadBack.ok (x : ReadBack) : Bool := Nat.blt x.pulses 8 && Nat.blt x.pins 8

/-- Addresses of 8 bits. -/
def CanPath.ok (p : CanPath) : Bool := Nat.blt p.src 256 && Nat.blt p.dst 256

/-- Every operand lies within the width or the count of what it stands for. -/
def Instr.wf (i : Instr) : Bool :=
  match i with
  | .vinRise _ _ => true
  | .powerUpRelease _ _ => true
  | .vinBelowVinRst _ _ => true
  | .pdAonLoss _ => true
  | .railOutOfWindow _ rail => Nat.blt rail 8
  | .railBackInWindow _ rail => Nat.blt rail 8
  | .vinDipBegin _ _ => true
  | .vinDipEnd _ _ => true
  | .nresetPin _ _ => true
  | .nwake _ => true
  | .aonWakeTimer _ => true
  | .smcWdog _ => true
  | .sysWdogKick _ => true
  | .sysBlkRst _ bits => Nat.blt bits 32
  | .lpGo _ => true
  | .xtalLoss _ => true
  | .xtalReturn _ => true
  | .clkDeviation _ _ _ _ => true
  | .modPllLockLoss _ _ => true
  | .romBoot _ _ _ _ => true
  | .colmoStart _ _ _ _ _ _ => true
  | .bistTestEnd _ target _ _ _ => Nat.blt target 8
  | .channelReset _ _ => true
  | .channelResetRelease _ _ _ _ _ _ => true
  | .timebaseExchange _ _ _ _ => true
  | .peerS4Forward _ _ => true
  | .decisionBoundary _ _ => true
  | .dtcInputRead _ _ => true
  | .decisionComplete _ _ _ => true
  | .governorUpdate _ _ => true
  | .modReadback _ _ x => x.ok
  | .tqRefWrite _ _ ref => Nat.blt ref 65536
  | .stagedRefWrite _ _ _ value => Nat.blt value (2 ^ 32)
  | .chReqArm _ _ => true
  | .chReqDisarm _ _ => true
  | .chReqClearFault _ _ => true
  | .armWeldCheckEnd _ _ => true
  | .armSequenceEnd _ _ => true
  | .armTimeout _ _ => true
  | .transitionDelayExpiry _ _ => true
  | .streamLapse _ _ => true
  | .lapseHold _ _ => true
  | .commitCtlTuningCommit _ _ => true
  | .commitCtlSafetyStage _ _ id => id.ok
  | .commitCtlSafetyConfirm _ _ => true
  | .safetyStageExpiry _ _ => true
  | .commitLanding _ _ => true
  | .shadowCopyEnd _ _ => true
  | .registerWrite _ _ a data => a.ok && Nat.blt data (2 ^ 32)
  | .loRegisterRead _ _ a => a.ok
  | .hiRegisterRead _ _ a => a.ok
  | .adcInjTrigger _ _ n bits => Nat.blt n 4 && Nat.blt bits 8
  | .adcRegTrigger _ _ n src => Nat.blt n 4 && Nat.ble src 4
  | .convReqInjSw _ _ n => Nat.blt n 4
  | .convReqRegSw _ _ n => Nat.blt n 4
  | .adcScanTick _ _ => true
  | .adcConversionEnd _ _ n raw raw1 => Nat.blt n 4 && Nat.blt raw 65536 && Nat.blt raw1 65536
  | .adcStall _ _ => true
  | .fifoDataRead _ _ n => Nat.blt n 4
  | .fifoFlush _ _ n => Nat.blt n 4
  | .sdMclkMeasure _ _ _ => true
  | .clkLoss _ _ => true
  | .stuckData _ _ n => Nat.blt n 4
  | .sdClockResume _ _ => true
  | .sdStuckEnd _ _ n => Nat.blt n 4
  | .sdDataFilterOutput _ _ n tail => Nat.blt n 4 && Nat.ble tail.length 1024
  | .sdComparatorOutput _ _ n _ => Nat.blt n 4
  | .resolverEvent _ _ _ => true
  | .encoderEdge _ _ _ _ => true
  | .encoderIndex _ _ => true
  | .encoderSpeedTimeout _ _ => true
  | .dclAltStale _ _ => true
  | .windowOpen _ _ => true
  | .windowTriggerDelay _ _ => true
  | .windowClose _ _ => true
  | .refreshForced _ _ => true
  | .refreshForcingEnd _ _ => true
  | .onTimeExceeded _ _ => true
  | .obsCmdRelease _ _ => true
  | .tmWindowEnd _ _ => true
  | .tmResultWrite _ _ => true
  | .tmLate _ _ => true
  | .edgeChannelEdge _ _ sl _ _ => Nat.blt sl 8
  | .deadTimeExpiry _ _ sl => Nat.blt sl 8
  | .partnerOffChange _ _ sl => Nat.blt sl 8
  | .partnerOffTimeout _ _ sl => Nat.blt sl 8
  | .gateOnChange _ _ sl _ => Nat.blt sl 8
  | .pairInterlock _ _ p => Nat.blt p 4
  | .sliceWriteFrame _ _ sl reg => Nat.blt sl 8 && Nat.blt reg 65536
  | .sliceReadFrame _ _ sl reg => Nat.blt sl 8 && Nat.blt reg 65536
  | .edgeTag _ _ sl x => Nat.blt sl 8 && Nat.blt x.count 256
  | .edgeTagTimeout _ _ sl count _ _ => Nat.blt sl 8 && Nat.blt count 256
  | .sliceStatusFrame _ _ sl => Nat.blt sl 8
  | .sliceWriteAckFrame _ _ sl reg => Nat.blt sl 8 && Nat.blt reg 65536
  | .sliceReadDataFrame _ _ sl reg data => Nat.blt sl 8 && Nat.blt reg 65536 && Nat.blt data (2 ^ 32)
  | .sliceEdgeReportFrame _ _ sl => Nat.blt sl 8
  | .sliceTelemetryFrame _ _ sl m => Nat.blt sl 8 && m.ok
  | .sliceFaultFrame _ _ sl => Nat.blt sl 8
  | .sliceLinkLoss _ _ sl => Nat.blt sl 8
  | .channelLinkLoss _ _ sl => Nat.blt sl 8
  | .sliceConfigCheck _ _ => true
  | .islandPowerUp _ _ sl => Nat.blt sl 8
  | .sliceReady _ _ sl => Nat.blt sl 8
  | .scBlankingEnd _ _ sl _ _ => Nat.blt sl 8
  | .sc2Trip _ _ sl _ => Nat.blt sl 8
  | .sc1Trip _ _ sl _ => Nat.blt sl 8
  | .plateauEnd _ _ sl => Nat.blt sl 8
  | .gsUv _ _ sl _ => Nat.blt sl 8
  | .gsOv _ _ x => Nat.blt x.sl 8
  | .islOt _ _ sl => Nat.blt sl 8
  | .sliceVdsMeasure _ _ sl _ => Nat.blt sl 8
  | .sliceSupplyMeasure _ _ sl _ _ ts _ => Nat.blt sl 8 && Nat.blt ts 65536
  | .enPinFall _ _ p => Nat.blt p 4
  | .enPinRise _ _ p => Nat.blt p 4
  | .primerReq _ _ => true
  | .primerReading _ _ _ _ _ => true
  | .primerSettleTimeout _ _ => true
  | .primerAverageEnd _ _ => true
  | .primerTestEnd _ _ => true
  | .dclComparatorChange _ _ cmp _ => Nat.blt cmp 4
  | .chopMinTExpiry _ _ => true
  | .chopProve _ _ sc _ => Nat.blt sc 65536
  | .chopTest _ _ => true
  | .dclExtTimer _ _ => true
  | .dchgReq _ _ => true
  | .dchgCancel _ _ => true
  | .dchgPin _ _ => true
  | .dchgPinRelease _ _ => true
  | .dchgCfbTimeout _ _ => true
  | .dchgCheckT _ _ => true
  | .dchgTExpiry _ _ => true
  | .energyUpdate _ _ _ => true
  | .autonomousDischarge _ _ => true
  | .windingDischargeTimeout _ _ => true
  | .sourceArrival _ _ blk bit => Nat.blt blk 13 && Nat.blt bit 32
  | .sourceClear _ _ blk bit => Nat.blt blk 13 && Nat.blt bit 32
  | .holdEnd _ _ => true
  | .legClr _ _ => true
  | .cfbChange _ _ n _ => (Nat.ble 1 n && Nat.ble n 3)
  | .contactorDebounceExpiry _ _ n => (Nat.ble 1 n && Nat.ble n 3)
  | .prechargeTimeout _ _ => true
  | .guardInputChange _ _ _ _ => true
  | .guardDiscTimeout _ _ => true
  | .ackPressBegin _ _ => true
  | .ackPressEnd _ _ => true
  | .ackJammed _ _ => true
  | .weldClr _ _ => true
  | .auxOn _ _ => true
  | .auxOff _ _ => true
  | .plumbMismatch _ _ kind => Nat.blt kind 4
  | .plumbTest _ _ _ => true
  | .smcPairFault _ kind => Nat.blt kind 4
  | .debugHalt _ _ _ => true
  | .debugResume _ _ => true
  | .tcmEccRead _ _ word _ => Nat.blt word 65536
  | .shadowMismatch _ _ addr bit => Nat.blt addr (2 ^ 32) && Nat.blt bit 32
  | .cvuDataWrite _ _ n data => Nat.blt n 8 && Nat.blt data (2 ^ 32)
  | .cvuInit _ _ n => Nat.blt n 8
  | .cvuCheck _ _ n => Nat.blt n 8
  | .skimSliceStart _ _ cls _ => Nat.blt cls 10
  | .skimSliceEnd _ _ raw raw1 _ _ => Nat.blt raw 65536 && Nat.blt raw1 65536
  | .skimAbort _ _ => true
  | .skimCycleEnd _ _ => true
  | .skimReqPass _ _ => true
  | .bistReqStart _ _ _ => true
  | .undercoatStart _ => true
  | .undercoatRecordWrite _ => true
  | .cmdFrameRx _ fr => fr.ok
  | .arcFrameRx _ fr => fr.ok
  | .crdFrameRx _ fr => fr.ok
  | .bundleTimeout _ flow => Nat.blt flow 256
  | .bundleProcess _ => true
  | .mailboxPartTake _ _ => true
  | .frameEgress _ => true
  | .crdTimer _ => true
  | .crdFullTimer _ => true
  | .retxTimeout _ _ => true
  | .hqAuditReq _ => true
  | .hqAuditEpochReq _ => true
  | .auditDrainEnd _ => true
  | .auditReq _ fr => fr.ok
  | .auditRsp _ fr => fr.ok
  | .auditDone _ fr => fr.ok
  | .auditRspTimeout _ => true
  | .epochRaise _ => true
  | .epochNewTimer _ => true
  | .epochAck _ fr => fr.ok
  | .epochReq _ fr => fr.ok
  | .helloTimer _ => true
  | .linkUp _ speed => Nat.ble speed 2
  | .linkDown _ => true
  | .ptpMessageRx _ _ => true
  | .announceTimeout _ => true
  | .ntfVectorFire _ v => Nat.blt v 72
  | .ntfHoldoffExpiry _ v => Nat.blt v 72
  | .mdioGo _ => true
  | .mdioTransactionEnd _ data => Nat.blt data 65536
  | .info _ rq args => rq.ok && bytesOk args
  | .sessionNonce _ rq args => rq.ok && bytesOk args
  | .sessionKey _ rq args => rq.ok && bytesOk args
  | .sessionEnd _ rq args => rq.ok && bytesOk args
  | .flowOpen _ rq args => rq.ok && bytesOk args
  | .flowClose _ rq args => rq.ok && bytesOk args
  | .ntfAck _ rq args => rq.ok && bytesOk args
  | .identitySet _ rq args => rq.ok && bytesOk args
  | .hostcfgWrite _ rq args => rq.ok && bytesOk args
  | .psetReadback _ _ rq args => rq.ok && bytesOk args
  | .tuningCommit _ _ rq args => rq.ok && bytesOk args
  | .safetyStage _ _ rq args => rq.ok && bytesOk args
  | .safetyConfirm _ _ rq args => rq.ok && bytesOk args
  | .psetStore _ _ rq args => rq.ok && bytesOk args
  | .psetLoad _ _ rq args => rq.ok && bytesOk args
  | .arm _ _ rq args => rq.ok && bytesOk args
  | .disarm _ _ rq args => rq.ok && bytesOk args
  | .clearFault _ _ rq args => rq.ok && bytesOk args
  | .reset _ rq target args => rq.ok && Nat.blt target 256 && bytesOk args
  | .streamTorque _ _ rq args => rq.ok && bytesOk args
  | .streamSpeedLimit _ _ rq args => rq.ok && bytesOk args
  | .regRead _ rq target args => rq.ok && Nat.blt target 256 && bytesOk args
  | .regWrite _ rq target args => rq.ok && Nat.blt target 256 && bytesOk args
  | .tlmSubscribe _ _ rq args => rq.ok && bytesOk args
  | .tlmUnsubscribe _ _ rq args => rq.ok && bytesOk args
  | .evtFilter _ rq args => rq.ok && bytesOk args
  | .snapCfg _ _ rq args => rq.ok && bytesOk args
  | .snapTrigger _ _ rq args => rq.ok && bytesOk args
  | .snapRelease _ _ rq args => rq.ok && bytesOk args
  | .snapList _ rq args => rq.ok && bytesOk args
  | .arcRead _ rq args => rq.ok && bytesOk args
  | .countersRead _ rq args => rq.ok && bytesOk args
  | .skimPass _ _ rq args => rq.ok && bytesOk args
  | .bistRun _ rq args => rq.ok && bytesOk args
  | .shutdown _ rq args => rq.ok && bytesOk args
  | .powerState _ _ rq args => rq.ok && bytesOk args
  | .fwStage _ rq args => rq.ok && bytesOk args
  | .fwActivate _ rq args => rq.ok && bytesOk args
  | .fwConfirm _ rq args => rq.ok && bytesOk args
  | .lcNonce _ rq args => rq.ok && bytesOk args
  | .lcToken _ rq args => rq.ok && bytesOk args
  | .attest _ rq args => rq.ok && bytesOk args
  | .canMapWrite _ rq args => rq.ok && bytesOk args
  | .canMapCommit _ rq args => rq.ok && bytesOk args
  | .canMapRead _ rq args => rq.ok && bytesOk args
  | .canMappedMessage _ pgn path data seq time => Nat.blt pgn (2 ^ 18) && path.ok && bytesOk data && Nat.blt seq (2 ^ 32) && Nat.blt time (2 ^ 64)
  | .canInitClear _ _ => true
  | .canIntegrated _ _ => true
  | .canFrameReceived _ _ fr _ => fr.ok
  | .protocolException _ _ => true
  | .canTxStart _ _ => true
  | .canTxDone _ _ _ _ => true
  | .canTxFail _ _ _ => true
  | .moStatPend _ _ _ => true
  | .moStatCancel _ _ _ => true
  | .canCtlRecover _ _ => true
  | .canRecoveryComplete _ _ => true
  | .e2eTimeout _ _ _ => true
  | .addressClaimStart _ => true
  | .addressClaimTimer _ => true
  | .addressClaimedRx _ sa name => Nat.blt sa 256 && Nat.blt name (2 ^ 64)
  | .requestPgnRx _ pgn da => Nat.blt pgn (2 ^ 18) && Nat.blt da 256
  | .transportProtocolRx _ _ src dst data => Nat.blt src 256 && Nat.blt dst 256 && bytesOk data
  | .arcOpGo _ => true
  | .arcOpDone _ _ _ _ _ _ part _ => Nat.ble part 8
  | .snapshotFreeze _ _ => true
  | .snapshotWriteEnd _ _ => true
  | .counterWriteTimer _ => true
  | .phyResetRelease _ => true
  | .controlProtocolRx _ _ dest _ => Nat.blt (dest.vid.getD 0) 4096
  | .canRxError _ _ _ => true
  | .mailboxTimeout _ _ => true
  | .aonClockDeviation _ _ => true
  | .sliceIdleFrame _ _ sl => Nat.blt sl 8
  | .sliceFrameInvalid _ _ sl x => Nat.blt sl 8 && Nat.blt x.word (2 ^ 72)
  | .chopTestPulseEnd _ _ => true
  | .autonomousDischargeDone _ _ => true

end Sys2Proof
end

