-- ==== Sys2Proof/Tests/Slice0.lean ====
section
/-! SUPPORT. Tests/Slice0.lean: the ill-formed commands that WellFormed refuses, small steps on concrete states with results from the spec, and
for each statement of the certificates states and operands that meet the hypotheses of each of its clauses. -/

namespace Sys2Proof.Tests
open Sys2Proof Sys2Proof.Machine
set_option Elab.async false
set_option maxRecDepth 20000

/-! ### Ill-formed commands -/

namespace Wf

def fr : RxFrame := ⟨true, 1, none, false, 1, 1, 1, 1, []⟩
def badFr : RxFrame := { fr with udp := [256] }
def rq : Req := ⟨0, 5, 1, 0, 7, 99, 12⟩
def badRq : Req := { rq with tag := 64 }
def id : SetId := ⟨1, 1, 1⟩
def badId : SetId := { id with dev := 256 }
def can : CanFrame := ⟨true, false, true, true, false, 1, 2, [1, 2]⟩
def badCan : CanFrame := { can with fdf := false }
def tel : Telem := .temps 65535 0
def badTel : Telem := .temps 65536 0

/-- A received frame is refused for each field beyond its width. -/
theorem test_wf_frame : fr.ok = true ∧ [{ fr with mac := 2 ^ 48 }, { fr with vid := some 4096 }, { fr with dport := 65536 }, { fr with sport := 65536 }, { fr with dst := 2 ^ 32 },
    { fr with v6 := true, dst := 2 ^ 128 }, { fr with src := 2 ^ 32 }, badFr].all (fun f => !f.ok) = true := by decide +kernel

/-- A CAN frame is refused for each field beyond its width, for more than 8 bytes in classic form, and for a switched classic frame. -/
theorem test_wf_can : can.ok = true ∧ [{ can with id := 2 ^ 29 }, { can with dlc := 16 }, { can with data := [256] }, { can with data := List.replicate 65 0 },
    { can with fdf := false, brs := false, data := List.replicate 9 0 }, badCan].all (fun f => !f.ok) = true := by decide +kernel

/-- A request and a set's identity are refused for each field beyond its width. -/
theorem test_wf_req : rq.ok = true ∧ [{ rq with flow := 257 }, badRq, { rq with seq := 2 ^ 32 }, { rq with bundle := 4096 }, { rq with arrival := 2 ^ 64 }, { rq with port := 65536 }].all (fun r => !r.ok) = true ∧
    id.ok = true ∧ [badId, { id with version := 2 ^ 32 }, { id with sig := 2 ^ 512 }].all (fun i => !i.ok) = true ∧ tel.ok = true ∧ badTel.ok = false := by decide +kernel

/-- An access of 3 bytes or beyond 32 bits of address, four pulses and an address of more than 8 bits are refused. -/
theorem test_wf_parts : (⟨4, 0⟩ : Access).ok = true ∧ [⟨3, 0⟩, ⟨8, 0⟩, ⟨4, 2 ^ 32⟩].all (fun a : Access => !a.ok) = true ∧ (⟨7, 7⟩ : ReadBack).ok = true ∧
    [⟨8, 0⟩, ⟨0, 8⟩].all (fun x : ReadBack => !x.ok) = true ∧ (⟨255, 255⟩ : CanPath).ok = true ∧ [⟨256, 0⟩, ⟨0, 256⟩].all (fun p : CanPath => !p.ok) = true := by decide +kernel

/-- One well-formed command for each constructor that has a check. -/
theorem test_wf_takes : ([.railOutOfWindow 0 0, .railBackInWindow 0 0, .sysBlkRst 0 0, .bistTestEnd 0 0 true true [], .modReadback 0 .a ⟨0, 0⟩,
   .tqRefWrite 0 .a 0, .stagedRefWrite 0 .a true 0, .commitCtlSafetyStage 0 .a id, .registerWrite 0 none ⟨4, 0⟩ 0,
   .loRegisterRead 0 .smc ⟨4, 0⟩, .hiRegisterRead 0 .smc ⟨4, 0⟩, .adcInjTrigger 0 .a 0 0, .adcRegTrigger 0 .a 0 0, .convReqInjSw 0 .a 0,
   .convReqRegSw 0 .a 0, .adcConversionEnd 0 .a 0 0 0, .fifoDataRead 0 .a 0, .fifoFlush 0 .a 0, .stuckData 0 .a 0, .sdStuckEnd 0 .a 0,
   .sdDataFilterOutput 0 .a 0 [], .sdComparatorOutput 0 .a 0 true, .edgeChannelEdge 0 .a 0 true 0, .deadTimeExpiry 0 .a 0,
   .partnerOffChange 0 .a 0, .partnerOffTimeout 0 .a 0, .gateOnChange 0 .a 0 true, .pairInterlock 0 .a 0, .sliceWriteFrame 0 .a 0 0,
   .sliceReadFrame 0 .a 0 0, .edgeTag 0 .a 0 ⟨0, 0, none⟩, .edgeTagTimeout 0 .a 0 0 0 none, .sliceStatusFrame 0 .a 0,
   .sliceWriteAckFrame 0 .a 0 0, .sliceReadDataFrame 0 .a 0 0 0, .sliceEdgeReportFrame 0 .a 0, .sliceTelemetryFrame 0 .a 0 tel,
   .sliceFaultFrame 0 .a 0, .sliceLinkLoss 0 .a 0, .channelLinkLoss 0 .a 0, .islandPowerUp 0 .a 0, .sliceReady 0 .a 0,
   .scBlankingEnd 0 .a 0 true 0, .sc2Trip 0 .a 0 0, .sc1Trip 0 .a 0 0, .plateauEnd 0 .a 0, .gsUv 0 .a 0 ⟨true, 0⟩,
   .gsOv 0 .a ⟨0, true, 0⟩, .islOt 0 .a 0, .sliceVdsMeasure 0 .a 0 0, .sliceSupplyMeasure 0 .a 0 0 0 0 0, .enPinFall 0 .a 0,
   .enPinRise 0 .a 0, .dclComparatorChange 0 .a 0 true, .chopProve 0 .a 0 true, .sourceArrival 0 .a 0 0, .sourceClear 0 .a 0 0,
   .cfbChange 0 .a 1 true, .contactorDebounceExpiry 0 .a 1, .plumbMismatch 0 .a 0, .smcPairFault 0 0, .tcmEccRead 0 .a 0 true,
   .shadowMismatch 0 .a 0 0, .cvuDataWrite 0 none 0 0, .cvuInit 0 none 0, .cvuCheck 0 none 0, .skimSliceStart 0 .a 0 0,
   .skimSliceEnd 0 .a 0 0 true 0, .cmdFrameRx 0 fr, .arcFrameRx 0 fr, .crdFrameRx 0 fr, .bundleTimeout 0 0, .auditReq 0 fr,
   .auditRsp 0 fr, .auditDone 0 fr, .epochAck 0 fr, .epochReq 0 fr, .linkUp 0 0, .ntfVectorFire 0 0, .ntfHoldoffExpiry 0 0,
   .mdioTransactionEnd 0 0, .info 0 rq [], .sessionNonce 0 rq [], .sessionKey 0 rq [], .sessionEnd 0 rq [], .flowOpen 0 rq [],
   .flowClose 0 rq [], .ntfAck 0 rq [], .identitySet 0 rq [], .hostcfgWrite 0 rq [], .psetReadback 0 .a rq [], .tuningCommit 0 .a rq [],
   .safetyStage 0 .a rq [], .safetyConfirm 0 .a rq [], .psetStore 0 .a rq [], .psetLoad 0 .a rq [], .arm 0 .a rq [], .disarm 0 .a rq [],
   .clearFault 0 .a rq [], .reset 0 rq 0 [], .streamTorque 0 .a rq [], .streamSpeedLimit 0 .a rq [], .regRead 0 rq 0 [],
   .regWrite 0 rq 0 [], .tlmSubscribe 0 .a rq [], .tlmUnsubscribe 0 .a rq [], .evtFilter 0 rq [], .snapCfg 0 .a rq [],
   .snapTrigger 0 .a rq [], .snapRelease 0 .a rq [], .snapList 0 rq [], .arcRead 0 rq [], .countersRead 0 rq [], .skimPass 0 .a rq [],
   .bistRun 0 rq [], .shutdown 0 rq [], .powerState 0 .a rq [], .fwStage 0 rq [], .fwActivate 0 rq [], .fwConfirm 0 rq [],
   .lcNonce 0 rq [], .lcToken 0 rq [], .attest 0 rq [], .canMapWrite 0 rq [], .canMapCommit 0 rq [], .canMapRead 0 rq [],
   .canMappedMessage 0 0 ⟨0, 0⟩ [] 0 0, .canFrameReceived 0 0 can 0, .addressClaimedRx 0 0 0, .requestPgnRx 0 0 0,
   .transportProtocolRx 0 true 0 0 [], .arcOpDone 0 true true true 0 true 0 0, .sliceIdleFrame 0 .a 0,
   .sliceFrameInvalid 0 .a 0 ⟨true, 0⟩] : List Instr).all Instr.wf = true := by decide +kernel

/-- One ill-formed command for each check of a constructor. -/
theorem test_wf_refuses : ([.railOutOfWindow 0 8, .railBackInWindow 0 8, .sysBlkRst 0 32, .bistTestEnd 0 8 true true [], .modReadback 0 .a ⟨8, 0⟩,
   .tqRefWrite 0 .a 65536, .stagedRefWrite 0 .a true 4294967296, .commitCtlSafetyStage 0 .a badId, .registerWrite 0 none ⟨3, 0⟩ 0,
   .registerWrite 0 none ⟨4, 0⟩ 4294967296, .loRegisterRead 0 .smc ⟨3, 0⟩, .hiRegisterRead 0 .smc ⟨3, 0⟩, .adcInjTrigger 0 .a 4 0,
   .adcInjTrigger 0 .a 0 8, .adcRegTrigger 0 .a 4 0, .adcRegTrigger 0 .a 0 5, .convReqInjSw 0 .a 4, .convReqRegSw 0 .a 4,
   .adcConversionEnd 0 .a 4 0 0, .adcConversionEnd 0 .a 0 65536 0, .adcConversionEnd 0 .a 0 0 65536, .fifoDataRead 0 .a 4,
   .fifoFlush 0 .a 4, .stuckData 0 .a 4, .sdStuckEnd 0 .a 4, .sdDataFilterOutput 0 .a 4 [],
   .sdDataFilterOutput 0 .a 0 (List.replicate 1025 true), .sdComparatorOutput 0 .a 4 true, .edgeChannelEdge 0 .a 8 true 0,
   .deadTimeExpiry 0 .a 8, .partnerOffChange 0 .a 8, .partnerOffTimeout 0 .a 8, .gateOnChange 0 .a 8 true, .pairInterlock 0 .a 4,
   .sliceWriteFrame 0 .a 8 0, .sliceWriteFrame 0 .a 0 65536, .sliceReadFrame 0 .a 8 0, .sliceReadFrame 0 .a 0 65536,
   .edgeTag 0 .a 8 ⟨0, 0, none⟩, .edgeTag 0 .a 0 ⟨256, 0, none⟩, .edgeTagTimeout 0 .a 8 0 0 none, .edgeTagTimeout 0 .a 0 256 0 none,
   .sliceStatusFrame 0 .a 8, .sliceWriteAckFrame 0 .a 8 0, .sliceWriteAckFrame 0 .a 0 65536, .sliceReadDataFrame 0 .a 8 0 0,
   .sliceReadDataFrame 0 .a 0 65536 0, .sliceReadDataFrame 0 .a 0 0 4294967296, .sliceEdgeReportFrame 0 .a 8,
   .sliceTelemetryFrame 0 .a 8 tel, .sliceTelemetryFrame 0 .a 0 badTel, .sliceFaultFrame 0 .a 8, .sliceLinkLoss 0 .a 8,
   .channelLinkLoss 0 .a 8, .islandPowerUp 0 .a 8, .sliceReady 0 .a 8, .scBlankingEnd 0 .a 8 true 0, .sc2Trip 0 .a 8 0,
   .sc1Trip 0 .a 8 0, .plateauEnd 0 .a 8, .gsUv 0 .a 8 ⟨true, 0⟩, .gsOv 0 .a ⟨8, true, 0⟩, .islOt 0 .a 8, .sliceVdsMeasure 0 .a 8 0,
   .sliceSupplyMeasure 0 .a 8 0 0 0 0, .sliceSupplyMeasure 0 .a 0 0 0 65536 0, .enPinFall 0 .a 4, .enPinRise 0 .a 4,
   .dclComparatorChange 0 .a 4 true, .chopProve 0 .a 65536 true, .sourceArrival 0 .a 13 0, .sourceArrival 0 .a 0 32,
   .sourceClear 0 .a 13 0, .sourceClear 0 .a 0 32, .cfbChange 0 .a 0 true, .cfbChange 0 .a 4 true, .contactorDebounceExpiry 0 .a 0,
   .contactorDebounceExpiry 0 .a 4, .plumbMismatch 0 .a 4, .smcPairFault 0 4, .tcmEccRead 0 .a 65536 true,
   .shadowMismatch 0 .a 4294967296 0, .shadowMismatch 0 .a 0 32, .cvuDataWrite 0 none 8 0, .cvuDataWrite 0 none 0 4294967296,
   .cvuInit 0 none 8, .cvuCheck 0 none 8, .skimSliceStart 0 .a 10 0, .skimSliceEnd 0 .a 65536 0 true 0,
   .skimSliceEnd 0 .a 0 65536 true 0, .cmdFrameRx 0 badFr, .arcFrameRx 0 badFr, .crdFrameRx 0 badFr, .bundleTimeout 0 256,
   .auditReq 0 badFr, .auditRsp 0 badFr, .auditDone 0 badFr, .epochAck 0 badFr, .epochReq 0 badFr, .linkUp 0 3, .ntfVectorFire 0 72,
   .ntfHoldoffExpiry 0 72, .mdioTransactionEnd 0 65536, .info 0 badRq [], .info 0 rq [256], .sessionNonce 0 badRq [],
   .sessionNonce 0 rq [256], .sessionKey 0 badRq [], .sessionKey 0 rq [256], .sessionEnd 0 badRq [], .sessionEnd 0 rq [256],
   .flowOpen 0 badRq [], .flowOpen 0 rq [256], .flowClose 0 badRq [], .flowClose 0 rq [256], .ntfAck 0 badRq [], .ntfAck 0 rq [256],
   .identitySet 0 badRq [], .identitySet 0 rq [256], .hostcfgWrite 0 badRq [], .hostcfgWrite 0 rq [256], .psetReadback 0 .a badRq [],
   .psetReadback 0 .a rq [256], .tuningCommit 0 .a badRq [], .tuningCommit 0 .a rq [256], .safetyStage 0 .a badRq [],
   .safetyStage 0 .a rq [256], .safetyConfirm 0 .a badRq [], .safetyConfirm 0 .a rq [256], .psetStore 0 .a badRq [],
   .psetStore 0 .a rq [256], .psetLoad 0 .a badRq [], .psetLoad 0 .a rq [256], .arm 0 .a badRq [], .arm 0 .a rq [256],
   .disarm 0 .a badRq [], .disarm 0 .a rq [256], .clearFault 0 .a badRq [], .clearFault 0 .a rq [256], .reset 0 badRq 0 [],
   .reset 0 rq 256 [], .reset 0 rq 0 [256], .streamTorque 0 .a badRq [], .streamTorque 0 .a rq [256], .streamSpeedLimit 0 .a badRq [],
   .streamSpeedLimit 0 .a rq [256], .regRead 0 badRq 0 [], .regRead 0 rq 256 [], .regRead 0 rq 0 [256], .regWrite 0 badRq 0 [],
   .regWrite 0 rq 256 [], .regWrite 0 rq 0 [256], .tlmSubscribe 0 .a badRq [], .tlmSubscribe 0 .a rq [256],
   .tlmUnsubscribe 0 .a badRq [], .tlmUnsubscribe 0 .a rq [256], .evtFilter 0 badRq [], .evtFilter 0 rq [256], .snapCfg 0 .a badRq [],
   .snapCfg 0 .a rq [256], .snapTrigger 0 .a badRq [], .snapTrigger 0 .a rq [256], .snapRelease 0 .a badRq [],
   .snapRelease 0 .a rq [256], .snapList 0 badRq [], .snapList 0 rq [256], .arcRead 0 badRq [], .arcRead 0 rq [256],
   .countersRead 0 badRq [], .countersRead 0 rq [256], .skimPass 0 .a badRq [], .skimPass 0 .a rq [256], .bistRun 0 badRq [],
   .bistRun 0 rq [256], .shutdown 0 badRq [], .shutdown 0 rq [256], .powerState 0 .a badRq [], .powerState 0 .a rq [256],
   .fwStage 0 badRq [], .fwStage 0 rq [256], .fwActivate 0 badRq [], .fwActivate 0 rq [256], .fwConfirm 0 badRq [],
   .fwConfirm 0 rq [256], .lcNonce 0 badRq [], .lcNonce 0 rq [256], .lcToken 0 badRq [], .lcToken 0 rq [256], .attest 0 badRq [],
   .attest 0 rq [256], .canMapWrite 0 badRq [], .canMapWrite 0 rq [256], .canMapCommit 0 badRq [], .canMapCommit 0 rq [256],
   .canMapRead 0 badRq [], .canMapRead 0 rq [256], .canMappedMessage 0 262144 ⟨0, 0⟩ [] 0 0, .canMappedMessage 0 0 ⟨0, 256⟩ [] 0 0,
   .canMappedMessage 0 0 ⟨0, 0⟩ [256] 0 0, .canMappedMessage 0 0 ⟨0, 0⟩ [] 4294967296 0,
   .canMappedMessage 0 0 ⟨0, 0⟩ [] 0 18446744073709551616, .canFrameReceived 0 0 badCan 0, .addressClaimedRx 0 256 0,
   .addressClaimedRx 0 0 18446744073709551616, .requestPgnRx 0 262144 0, .requestPgnRx 0 0 256, .transportProtocolRx 0 true 256 0 [],
   .transportProtocolRx 0 true 0 256 [], .transportProtocolRx 0 true 0 0 [256], .arcOpDone 0 true true true 0 true 9 0,
   .sliceIdleFrame 0 .a 8, .sliceFrameInvalid 0 .a 8 ⟨true, 0⟩, .sliceFrameInvalid 0 .a 0 ⟨true, 4722366482869645213696⟩] : List Instr).all (fun i => !i.wf) = true := by decide +kernel

end Wf

/-! ### Results that the spec works out -/

/-- The example under R324: CVU2 after INIT with POLY 0 and WIDTH 0, fed the byte 0x00, holds 0xC4 and reads 0x3B. -/
theorem test_cvu_example : (((({ id := .a } : Chan).wr (CVU_CTL 2) 0).wr (CVU_VAL 2) 0xFF).cvuData 2 0).rd (CVU_VAL 2) = 0xC4 ∧ cvuRes 0 0xC4 = 0x3B := by decide +kernel

/-- The example of chapter 16: 600 N·m at a base of 1,000 N·m is 0x1333, and the limit at 4 pole pairs is 0x09D1_4630. -/
theorem test_torque_command_codes : hostPu16 0x44160000 0x447A0000 = some 0x1333 ∧ hostUq16 0x441D1463 4 = some 0x09D14630 := by decide +kernel

/-- A NaN and a torque of 16,000 N·m have no code at that base (R5). -/
theorem test_torque_out_of_range : hostPu16 0x7FC00000 0x447A0000 = none ∧ hostPu16 0x467A0000 0x447A0000 = none := by decide +kernel

/-- The channel of the masking example of chapter 7. -/
def winChan : Chan :=
  ((((({ id := .a } : Chan).wr MASK_CTL 1).wr MASK_WIN 0x05A00008).wr MASK_KLIN 0x0482B356).wr DTC_PERIOD 960).wr DWELL_MIN 480

/-- It reports DEPTH 0.75, LEAD 0 and PW 2; with DWELL_MIN 1,440 LEAD is 1 and DEPTH 0.625. -/
theorem test_window_example : winChan.maskReport.landMask.rd MASK_STATUS = 0x60000002 ∧
    ((winChan.wr DWELL_MIN 1440).maskReport.landMask.g MASK_STATUS_LEAD, (winChan.wr DWELL_MIN 1440).maskReport.landMask.g MASK_STATUS_DEPTH) = (1, 0x5000) := by decide +kernel

/-- Its flux reference at 6,000 rpm and 0.7998 pu of link voltage is 0x08D2. -/
theorem test_window_flux : ({ ((winChan.wr FW_K 0x044C0000).wr FLUX_CFG 0x00291666).landMask with dtc := { vdc := 6552 } } : Chan).psiRef 164709662 = 0x08D2 := by decide +kernel

/-! ### The queue -/

def waiting : State := { pending := [.crdTimer 7, .helloTimer 9] }

/-- StepRunsFront: a state with commands waiting. -/
theorem test_StepRunsFront_witness : waiting.pending = .crdTimer 7 :: [.helloTimer 9] := rfl
/-- StepIdles: a state with none. -/
theorem test_StepIdles_witness : ({} : State).pending = [] := rfl
/-- StepKeepsCanonical: a state in canonical form that is not the reset state, with a step to a next state. -/
theorem test_StepKeepsCanonical_witness : ({ m := { dev := ({} : Dev).wr 0x80108 7 } } : State).m.Good ∧
    step { m := { dev := ({} : Dev).wr 0x80108 7 } } = .next { m := { dev := ({} : Dev).wr 0x80108 7 } } :=
  ⟨⟨⟨by decide +kernel, by decide +kernel⟩, ⟨by decide +kernel, by decide +kernel⟩, by unfold Dev.Good; decide +kernel, by decide +kernel⟩, rfl⟩

/-! ### The statements' hypotheses are met -/

/-- A state of a list. -/
def pick (l : List State) (n : Nat) : State := l.getD n {}
/-- The clauses of a list whose hypotheses are met. -/
def met (l : List Bool) (ks : List Nat) : Bool := ks.all (fun k => l.getD k false)
def up : Pwr := { phase := .run, smc := .up, xtalOk := true, fresh := false, chImage := true, since := 77 }
def mkS (d : Dev) (ca cb : Chan → Chan) : State := { m := { dev := d, a := ca { id := .a }, b := cb { id := .b }, holds := [] } }
def stt (n : Nat) (c : Chan) : Chan := c.p CH_STATE_STATE n
def ct (f : Ctl → Ctl) (c : Chan) : Chan := { c with ctl := f c.ctl }
def dd : Dev := { pwr := up }
def prs (l : List (Chan → Chan)) : List State := (l.zip (l.drop 1 ++ l.take 1)).map (fun p => mkS dd p.1 p.2)
def pp (l : List (Fld × Nat)) (c : Chan) : Chan := l.foldl (fun d x => d.p x.1 x.2) c
def ww (l : List (Nat × Nat)) (c : Chan) : Chan := l.foldl (fun d x => d.wr x.1 x.2) c
def rdy (c : Chan) : Chan := pp ((List.range 6).map (fun k => (SL_STATUS_READY k, 1)) ++ [(EN_STATUS_EN_PIN, 15), (GUARD_CFG_EN, 0)] ++ (List.range 8).map (fun k => (SL_CFG_USED k, 0))) { (ct (fun x => { x with tuningOk := true, safetyOk := true, selfTest := true, devId := some 5, kept := some ⟨5, 3, 7⟩ }) c) with slices := (List.range 8).map (fun _ => { power := true }) }
def cs : List (Chan → Chan) :=
  let arm := fun (h : Bool) (st : ArmStep) (c : Chan) => ct (fun x => { x with arm := some ⟨h, st, 0, 0, 0⟩ }) c
  let ok := fun (c : Chan) => (ww [] ((ct (fun x => { x with tuningOk := true, safetyOk := true, selfTest := true, devId := some 5 }) c)))
  let en := fun (c : Chan) => pp [(EN_STATUS_EN_PIN, 15)] c
  [rdy ∘ stt 1, rdy ∘ stt 1, rdy ∘ pp [(CONT_STATUS_CFB, 1)] ∘ stt 4, arm false .check ∘ rdy ∘ stt 1, arm true .check ∘ rdy ∘ pp [(CONT_STATUS_CFB, 1), (GUARD_CFG_EN, 0)] ∘ stt 4, (rdy ∘ pp [(GUARD_CFG_EN, 0)]) ∘ stt 1, stt 0, stt 1, stt 2, stt 3, stt 4, stt 5, stt 1, ok ∘ stt 1, stt 5 ∘ ct (fun x => { x with stateAt := 0 }), stt 5 ∘ ct (fun x => { x with stateAt := 10^8 }),
   ct (fun x => { x with refused := some (0, 3, 1) }) ∘ stt 1, ct (fun x => { x with refused := some (10^9, 3, 1) }) ∘ stt 1,
   arm false .check ∘ stt 1, arm false .check ∘ pp [(CONT_STATUS_CFB, 1)] ∘ stt 1, arm true .check ∘ stt 4, arm false .ready ∘ stt 1, arm false .ready ∘ en ∘ stt 1, arm true .ready ∘ en ∘ stt 4, arm false .ready ∘ pp [(CORE_STATUS_LOCKSTEP_BROKEN, 1)] ∘ stt 1, arm true .mainClose ∘ stt 4, arm false .primer ∘ stt 1, en ∘ stt 3, en ∘ stt 3, en ∘ stt 3 ∘ ct (fun x => { x with lapseAt := 9 * 10^11 }),
   ct (fun x => { x with trans := some ⟨1, 0⟩, disarm := true, rampEnded := true }) ∘ stt 2, ct (fun x => { x with trans := some ⟨1, 0⟩, disarm := true, rampEnded := true }) ∘ stt 2 ∘ (fun c => { c with dtc := { c.dtc with boundAt := 10^9 } }),ct (fun x => { x with trans := some ⟨1, 0⟩, disarm := true, rampEnded := true }) ∘ stt 4 ∘ (fun c => { c with dtc := { c.dtc with boundAt := 3*10^12 } }),
   ct (fun x => { x with trans := some ⟨4, 0⟩ }) ∘ stt 3,
   ct (fun x => { x with commit := some ⟨.tuning, 0, 0, none⟩ }) ∘ stt 1, ct (fun x => { x with stage := some ⟨0, 5, none⟩ }) ∘ stt 1, ct (fun x => { x with stage := some ⟨9, 5, none⟩ }) ∘ stt 4, ct (fun x => { x with copying := some ⟨.tuning, 0, [(0x4000, 5)]⟩ }) ∘ stt 1, ct (fun x => { x with copying := some ⟨.safety, 0, [(0x28, 5), (0x2C, 6)]⟩ }) ∘ stt 3,
   (fun c => c.wr COMMIT_CRC (c.imageCrc .tuning true)) ∘ stt 1, (fun c => c.wr COMMIT_CRC (c.imageCrc .tuning true)) ∘ stt 3, (fun c => c.wr COMMIT_CRC (c.imageCrc .safety true)) ∘ stt 1, (fun c => c.wr COMMIT_CRC (c.imageCrc .safety true)) ∘ stt 4, (fun c => (ct (fun x => { x with stage := some ⟨c.imageCrc .safety true, 5, none⟩ }) c).wr COMMIT_CRC (c.imageCrc .safety true)) ∘ stt 4]
def tri : List (Fld × Nat) := (List.range 4).flatMap (fun n => [(CONV_CTL_INJ_TRIG_BND n, 1), (CONV_CTL_INJ_TRIG_WIN n, 1), (CONV_CTL_INJ_TRIG_SW n, 1)])
def sl (f : SliceSt → SliceSt) (c : Chan) : Chan := { c with slices := (List.range 8).map (fun k => f (c.slices.getD k {})) }
def used : List (Fld × Nat) := (List.range 8).flatMap (fun n => [(SL_CFG_USED n, 1), (SL_STATUS_READY n, 1), (SL_STATUS_LINK_OK n, 1)])
def boot : List (Fld × Nat) := (List.range 8).map (fun n => (SL_CFG_BOOT n, 1))
def U (f : SliceSt → SliceSt) : Chan → Chan := sl f ∘ pp used
def cfgA (l : List (Nat → Fld × Nat)) (c : Chan) : Chan := { c with slices := (List.range 8).map (fun k => { c.slices.getD k {} with cfg := l.foldl (fun m f => RegMap.set m (chanReset (f k).1.reg) (f k).1.reg (putBits (RegMap.get m (chanReset (f k).1.reg) (f k).1.reg) (f k).1.hi (f k).1.lo (f k).2)) (c.slices.getD k {}).cfg }) }
def slCs : List (Chan → Chan) :=
  let P := fun (x : SliceSt) => { x with power := true }
  let lv := cfgA [fun k => (SC_LVL_EN k, 1), fun k => (SC_LVL_BLANK k, 5)]
  [lv ∘ U P, lv ∘ U P, pp boot ∘ lv ∘ U P, pp boot ∘ lv ∘ U (fun x => { P x with pulse := true, en := true }), lv ∘ U (fun x => { P x with blanking := true, isOn := true }), lv ∘ U (fun x => { P x with blanking := true, isOn := true }), lv ∘ U (fun x => { P x with latch := 4 }),
   U id, sl (fun x => { x with auto := true }), U (fun x => { P x with asking := some 0, partnerOff := false }), U (fun x => { P x with asking := some 0, dtDone := true }), U (fun x => { P x with asking := some 0 }), U (fun x => { P x with asking := some 0, partnerOffAt := 10^6 }),
   U (fun x => { P x with plateau := true })] ++
  ([⟨0, true, true⟩, ⟨0, false, true⟩, ⟨0, true, false⟩, ⟨10^8, false, true⟩] : List WireEdge).flatMap (fun w => [U (fun x => { P x with wire := [w], en := true }), U (fun x => { P x with wire := [w, w], en := true, isOn := true }), U (fun x => { P x with wire := [w], en := false, latch := 2 }), U (fun x => { P x with wire := [w], en := false, latch := 2, enLow := some (3*10^12 - 100) }), pp boot ∘ U (fun x => { P x with wire := [w], en := true })]) ++
  [pp [(EN_STATUS_EN_PIN, 15), (EN_STATUS_EN_INT, 15)] ∘ U P, pp [(EN_STATUS_EN_PIN, 15), (EN_STATUS_EN_INT, 15)] ∘ U P, pp [(EN_STATUS_EN_PIN, 6), (EN_STATUS_EN_INT, 15)] ∘ (fun c => { c with modul := { c.modul with ilk := 15 } }) ∘ U P, U (fun x => { P x with gateOn := true }), U (fun x => { P x with gateOn := true, gateAt := 3*10^12 }), (fun c => { c with modul := { c.modul with ilk := 15 } }) ∘ U (fun x => { P x with gateOn := true }),
   pp ((List.range 8).flatMap (fun n => [(SL_CFG_TS_EN n, 1), (TS_CFG_LIM n, 3000)])) ∘ U P, U (fun x => { P x with gateOn := true, bad := List.replicate 17 (3*10^12) }), U (fun x => { P x with bad := List.replicate 16 (3*10^12), cfgOk := true, railsAt := some 0 })]
def fromCs : List (Chan → Chan) :=
  let P := fun (x : SliceSt) => { x with power := true }
  [U P, U (fun x => { P x with latch := 5, autoSeen := true, auto := true }), U (fun x => { P x with reports := [⟨true, false, false, 3, 4, 5, 6, 7⟩] }), U (fun x => { P x with reports := [⟨false, true, true, 3, 4, 5, 64, 7⟩, ⟨true, false, false, 3, 4, 5, 6, 7⟩] }), U (fun x => { P x with bad := List.replicate 16 (3*10^12 - 5) }), U (fun x => { P x with bad := List.replicate 16 0 }),
   (fun c => { c with slices := (List.range 8).map (fun k => { c.slices.getD k {} with power := true, cfgOk := false, todo := (cfgRegs k).map (fun r => ⟨r, 0, false⟩) }) }) ∘ U P, (fun c => { c with slices := (List.range 8).map (fun k => { c.slices.getD k {} with power := true, todo := (cfgRegs k).map (fun r => ⟨r, 3, true⟩) }) }) ∘ U P, (fun c => { c with slices := (List.range 8).map (fun k => { c.slices.getD k {} with power := true, todo := (cfgRegs k).map (fun r => ⟨r, 1, true⟩) }) }) ∘ U P,
   U id, sl id, (fun c => { c with slices := c.slices.set 0 { c.sl 0 with power := true, cfgOk := true, cfg := [] } }) ∘ pp [(SL_SUPPLY_VPOS 0, 3)] ∘ U id, (fun c => { c with parked := true }) ∘ U P, U (fun x => { P x with cfgOk := true, railsAt := some 0 }), pp ((List.range 8).map (fun n => (SL_STATUS_READY n, 0))) ∘ U (fun x => { P x with cfgOk := true, railsAt := some 0 })]
def prim (c : Chan) : Chan := ((c.p CH_STATE_STATE 1).p GUARD_STATUS_TEST_SEEN 1).p LEG_HEALTH_FS_H 5
def rcG : UcRec := let r : UcRec := ⟨List.replicate 8 1, [⟨1,2,3⟩], 0, 4, none⟩; { r with crc := some (crc32.of r.bytes) }
def rcB : UcRec := let r : UcRec := ⟨[1,1,1,1,2,1,1,1], [], 0, 4, none⟩; { r with crc := some (crc32.of r.bytes) }
def sts (f : Chan → Chan) : List (Chan → Chan) := [1,2,3,4,5].map (fun n => fun c => (f c).p CH_STATE_STATE n)
def of1 : OutFrame := ⟨1, 1, 0, 3, 2, 5, false, [1], true, .none, false⟩
def b0 : Dev := { pwr := up, seqs := [1,2,3,4,5,6,7,8] }
def cl (n : Nat) (d : Dev) : Dev := { d with colmo := { d.colmo with session := { d.colmo.session with cls := some n, nonce := some 5 } } }
def b3 : Dev := cl 3 b0

namespace WCtl1h
def Sts : List State := prs cs

/-- The hypotheses of the clauses of ArmRequest. -/
def hypArmRequest (s : State) (t : Tick) (ch : Ch) : List Bool :=
  let c := s.m.seen t ch
  if decide (c.state = PRIMED ∨ c.state = HOLD) && decide (c.disarmNow = false) && decide (c.ctl.arm = none) then
   [decide (lowestZero c.ready 11 = 11) && decide (c.ctl.stage = none),
    true]
  else []

/-- Each clause of ArmRequest has a state and operands that meet its hypotheses. -/
theorem test_ArmRequest_witness : (
    met (hypArmRequest (pick Sts 1) 3000000000000 .a) [0, 1]) = true := by decide +kernel

/-- The hypotheses of the clauses of DisarmAndClear. -/
def hypDisarmAndClear (s : State) (t : Tick) (ch : Ch) (u : Tick) (last : Nat) (flag : Nat) (a : ArmSeq) : List Bool :=
  let c := s.m.seen t ch
  let alone := decide (∀ x ∈ c.ctl.refused, sameCycle x.1 c.now = false)
  [decide (c.state = ARMED ∨ c.state = RUN ∨ c.state = HOLD) && decide (c.ctl.arm = none) && decide (alone),
    decide (c.state = PRIMED ∨ (c.state = FAULT ∧ sameCycle c.ctl.stateAt c.now = false)) && decide (c.ctl.arm = none) && decide (alone),
    decide (c.state = FAULT) && decide (sameCycle c.ctl.stateAt c.now = true) && decide (c.ctl.arm = none),
    decide (c.state = PRIMED) && decide (c.ctl.arm = none) && decide (c.ctl.refused = some (u, last, flag)) && decide (sameCycle u c.now = true),
    decide (c.state ≠ OFF) && decide (c.ctl.arm = some a) && decide (alone),
    decide (c.state = FAULT),
    decide (c.state ≠ OFF) && decide (c.state ≠ FAULT)]

/-- Each clause of DisarmAndClear has a state and operands that meet its hypotheses. -/
theorem test_DisarmAndClear_witness : (
    met (hypDisarmAndClear (pick Sts 33) 1000000000 .a 0 3 1 (⟨false, ArmStep.check, 0, 0, 0⟩)) [0, 6] &&
    met (hypDisarmAndClear (pick Sts 10) 0 .b 0 3 1 (⟨false, ArmStep.check, 0, 0, 0⟩)) [2, 5] &&
    met (hypDisarmAndClear (pick Sts 34) 100 .a 0 3 1 (⟨false, ArmStep.check, 0, 0, 0⟩)) [1] &&
    met (hypDisarmAndClear (pick Sts 21) 0 .b 0 3 1 (⟨false, ArmStep.ready, 0, 0, 0⟩)) [4] &&
    met (hypDisarmAndClear (pick Sts 16) 0 .a 0 3 1 (⟨false, ArmStep.check, 0, 0, 0⟩)) [3]) = true := by decide +kernel

end WCtl1h

namespace WCtl2h
def Sts : List State := prs cs

/-- The hypotheses of the clauses of ArmSequence. -/
def hypArmSequence (s : State) (t : Tick) (ch : Ch) (a : ArmSeq) : List Bool :=
  let c := s.m.seen t ch
  if decide (c.state ≠ OFF) && decide (c.ctl.arm = some a) then
   [decide (a.step = .check) && decide (c.cfbDeb = true) && decide ((a.fromHold = false ∧ c.cfbOpen = true) ∨ (a.fromHold = true ∧ c.holdContactors = true ∧ c.preLevel = true)) && decide (c.primerPre = true),
    decide (a.step = .check) && decide (c.cfbDeb = true) && decide ((a.fromHold = false ∧ c.cfbOpen = false) ∨ (a.fromHold = true ∧ c.holdContactors = false)),
    decide (a.step = .check) && decide (c.cfbDeb = false),
    decide (a.step = .ready) && decide (c.lockBroken = false) && decide (c.g EN_STATUS_EN_PIN = 15) && decide (c.gb DCL_STATUS_CMP 0 = false),
    decide (c.lockBroken = true),
    decide (c.since a.start (cyc (c.g ARM_TIMEOUT_T_COUNT)) = true) && decide (c.srcActive ARM_TIMEOUT = false),
    decide (c.since a.start (cyc (c.g ARM_TIMEOUT_T_COUNT)) = false)]
  else []

/-- Each clause of ArmSequence has a state and operands that meet its hypotheses. -/
theorem test_ArmSequence_witness : (
    met (hypArmSequence (pick Sts 18) 1000000000 .b (⟨false, ArmStep.check, 0, 0, 0⟩)) [2, 6] &&
    met (hypArmSequence (pick Sts 24) 3000000000000 .a (⟨false, ArmStep.ready, 0, 0, 0⟩)) [4, 5] &&
    met (hypArmSequence (pick Sts 22) 1000000000 .a (⟨false, ArmStep.ready, 0, 0, 0⟩)) [3] &&
    met (hypArmSequence (pick Sts 2) 3000000000000 .b (⟨false, ArmStep.check, 0, 0, 0⟩)) [0] &&
    met (hypArmSequence (pick Sts 20) 3000000000000 .a (⟨true, ArmStep.check, 0, 0, 0⟩)) [1]) = true := by decide +kernel

/-- The hypotheses of the clauses of StateTransitions. -/
def hypStateTransitions (s : State) (t : Tick) (ch : Ch) (tr : Trans) : List Bool :=
  let c := s.m.seen t ch
  [decide (c.state ≠ OFF) && decide (c.ctl.trans = some tr) && decide (c.dtc.boundAt = c.now) && decide (c.since tr.since (ms 1) = true) && decide (c.wanted = some PRIMED) && decide (tr.dest = PRIMED),
    decide (c.state ≠ OFF) && decide (c.ctl.trans = some tr) && decide (c.dtc.boundAt ≠ c.now ∨ c.since tr.since (ms 1) = false ∨ c.wanted ≠ some tr.dest),
    decide (c.state = RUN) && decide (c.since c.ctl.lapseAt (cyc (c.g LAPSE_RAMP_T_COUNT)) = true) && decide (c.srcActive STREAM_LAPSE = false),
    decide (c.state = RUN) && decide (c.since c.ctl.lapseAt (cyc (c.g LAPSE_HOLD_T_COUNT)) = true) && decide (c.g EN_STATUS_EN_PIN = 15) && decide (c.rd LEG_HEALTH = 0) && decide (c.b DUST_STATUS_SPD_HIGH = false) && decide (c.g DUST_STATUS_HARD_N ≤ c.g DUST_CTL_HARD_MAX),
    decide (c.state ≠ OFF) && decide (c.state ≠ RUN)]

/-- Each clause of StateTransitions has a state and operands that meet its hypotheses. -/
theorem test_StateTransitions_witness : (
    met (hypStateTransitions (pick Sts 31) 0 .b (⟨1, 0⟩)) [1, 4] &&
    met (hypStateTransitions (pick Sts 28) 3000000000000 .b (⟨1, 0⟩)) [2, 3] &&
    met (hypStateTransitions (pick Sts 31) 1000000000 .a (⟨1, 0⟩)) [0]) = true := by decide +kernel

end WCtl2h

namespace WCtl3h
def Sts : List State := prs cs

/-- The hypotheses of the clauses of CommitRequests. -/
def hypCommitRequests (s : State) (t : Tick) (ch : Ch) (st : Stage) : List Bool :=
  let c := s.m.seen t ch
  if decide (c.state ≠ OFF) then
   [decide (c.gateCode .tuning = 0) && decide (c.valuesCode .tuning s.m.dev.lc = 0),
    decide (c.gateCode .safety = 0) && decide (c.valuesCode .safety s.m.dev.lc = 0),
    decide (c.gateCode .safety = 0) && decide (c.ctl.stage = some st) && decide (c.since st.at_ (ms 5000 + 1) = false) && decide (c.rd COMMIT_CRC = st.crc) && decide (c.valuesCode .safety s.m.dev.lc = 0),
    decide (c.ctl.stage = some st)]
  else []

/-- Each clause of CommitRequests has a state and operands that meet its hypotheses. -/
theorem test_CommitRequests_witness : (
    met (hypCommitRequests (pick Sts 43) 100 .a (⟨3413853423, 5, none⟩)) [1, 2, 3] &&
    met (hypCommitRequests (pick Sts 39) 0 .a (⟨1, 0, none⟩)) [0]) = true := by decide +kernel

/-- The hypotheses of the clauses of CommitRefusals. -/
def hypCommitRefusals (s : State) (t : Tick) (ch : Ch) : List Bool :=
  let c := s.m.seen t ch
  if decide (c.state ≠ OFF) && decide (c.srcActive COMMIT_FAIL = false) then
   [decide (c.gateCode .tuning ≠ 0 ∨ c.valuesCode .tuning s.m.dev.lc ≠ 0),
    decide (c.gateCode .safety ≠ 0 ∨ c.valuesCode .safety s.m.dev.lc ≠ 0),
    decide (c.gateCode .safety ≠ 0 ∨ c.ctl.stage = none)]
  else []

/-- Each clause of CommitRefusals has a state and operands that meet its hypotheses. -/
theorem test_CommitRefusals_witness : (
    met (hypCommitRefusals (pick Sts 33) 1000000000 .a) [0, 1, 2]) = true := by decide +kernel

/-- The hypotheses of the clauses of ShadowAndReferences. -/
def hypShadowAndReferences (s : State) (t : Tick) (ch : Ch) (k : Copying) : List Bool :=
  let c := s.m.seen t ch
  if decide (c.state ≠ OFF) then
   [decide (c.ctl.copying = some k),
    true]
  else []

/-- Each clause of ShadowAndReferences has a state and operands that meet its hypotheses. -/
theorem test_ShadowAndReferences_witness : (
    met (hypShadowAndReferences (pick Sts 37) 1000000000 .a (⟨Kind.tuning, 0, [(16384, 5)]⟩)) [0, 1]) = true := by decide +kernel

end WCtl3h

namespace WRegsh
def cs : List (Chan → Chan) := [stt 1, stt 1, stt 1, stt 2, stt 3, stt 0, ct (fun x => { x with commit := some ⟨.tuning, 0, 0, none⟩ }) ∘ stt 1, ct (fun x => { x with copying := some ⟨.safety, 0, [(0x28, 5), (0x2C, 6)]⟩ }) ∘ stt 1, pp [(CORE_STATUS_HELD, 1)] ∘ stt 5]
def hs : List HiHold := [⟨.bridge, 0x20000018, 77⟩, ⟨.smc, 0x10010004, 78⟩, ⟨.pair .a, 0x20000018, 79⟩, ⟨.smc, 0x100A0000, 7⟩]
def Sts : List State := (prs cs).flatMap (fun s => [s, { s with m := { s.m with holds := hs } }, { s with m := { s.m with dev := {} } }])

/-- The hypotheses of the clauses of ChannelRegisterWrites. -/
def hypChannelRegisterWrites (s : State) (t : Tick) (ch : Ch) (addr : Nat) (a : Nat) (off : Nat) (size : Nat) : List Bool :=
  let c := s.m.seen t ch
  [decide (reach addr = .chan ch a) && decide (c.state ≠ OFF) && decide (c.b CORE_STATUS_HELD = false) && decide (c.skim.cur = none) && decide (a < 0xB100) && decide (a ∉ requestRegs) && decide (a ∉ monitorRegs) && decide (∀ b ∈ List.range 13, (srcRegs b).src ≠ a ∧ (srcRegs b).ff ≠ a) && decide (rwcBits a = 0),
    decide (reach addr = .chan ch a) && decide (c.state ≠ OFF) && decide (c.b CORE_STATUS_HELD = false) && decide (c.skim.cur = none) && decide (a < 0xB100) && decide (a ∉ requestRegs) && decide (a ∉ monitorRegs) && decide (∀ b ∈ List.range 13, (srcRegs b).src ≠ a ∧ (srcRegs b).ff ≠ a) && decide (rwcBits a ≠ 0) && decide (c.ctl.commit = none) && decide (c.ctl.copying = none),
    decide (reach addr = .chan ch a) && decide (c.state ≠ OFF) && decide (c.b CORE_STATUS_HELD = false) && decide (c.skim.cur = none) && decide (a < 0xB100) && decide (a ∉ requestRegs) && decide (a ∉ monitorRegs) && decide (∀ b ∈ List.range 13, (srcRegs b).src ≠ a ∧ (srcRegs b).ff ≠ a) && decide (rwcBits a ≠ 0) && decide (c.ctl.commit.isSome = true),
    decide (reach addr = .chan ch a) && decide (c.state ≠ OFF) && decide (c.b CORE_STATUS_HELD = false) && decide (a ∈ monitorRegs),
    decide (reach addr = .tcm ch off) && decide (c.state ≠ OFF) && decide (c.b CORE_STATUS_HELD = false) && decide (c.skim.cur = none),
    decide ((match reach addr with | .chan k _ => k != ch | .tcm k _ => k != ch | _ => true) = true),
    decide (size ≠ 4)]

/-- Each clause of ChannelRegisterWrites has a state and operands that meet its hypotheses. -/
theorem test_ChannelRegisterWrites_witness1 : (
    met (hypChannelRegisterWrites (pick Sts 15) 1000000000 .a 268702636 267180 5036 8) [5, 6] &&
    met (hypChannelRegisterWrites (pick Sts 23) 1000000000 .a 536889940 19028 19028 8) [0] &&
    met (hypChannelRegisterWrites (pick Sts 18) 100 .b 822083588 16777220 4 4) [4] &&
    met (hypChannelRegisterWrites (pick Sts 6) 1000000000 .a 536879552 8640 8640 4) [1] &&
    met (hypChannelRegisterWrites (pick Sts 18) 1000000000 .a 536883252 12340 12340 8) [2]) = true := by decide +kernel

/-- More clauses of ChannelRegisterWrites. -/
theorem test_ChannelRegisterWrites_witness2 : (
    met (hypChannelRegisterWrites (pick Sts 1) 100 .b 805331072 24704 24704 2) [3]) = true := by decide +kernel

/-- The hypotheses of the clauses of DeviceRegisterWrites. -/
def hypDeviceRegisterWrites (s : State) (t : Tick) (addr : Nat) (a : Nat) (data : Nat) (off : Nat) : List Bool :=
  let m := s.m.seenAt t
  [decide (reach addr = .dev a) && decide (m.dev.alive = true) && decide (a ∉ actingRegs) && decide (a / 65536 ≠ 4) && decide (a / 65536 ≠ 5) && decide (a < 0x80100) && decide (sevCount a = 0) && decide (heldFld a data = none),
    decide (reach addr = .dev a) && decide (m.dev.alive = true) && decide (0 < sevCount a),
    decide (reach addr = .smcMem off) && decide (m.dev.alive = true),
    decide ((match reach addr with | .dev _ => false | .smcMem _ => false | _ => true) = true),
    decide (m.dev.alive = false)]

/-- Each clause of DeviceRegisterWrites has a state and operands that meet its hypotheses. -/
theorem test_DeviceRegisterWrites_witness : (
    met (hypDeviceRegisterWrites (pick Sts 20) 100 536889976 19064 4294967295 19064) [3, 4] &&
    met (hypDeviceRegisterWrites (pick Sts 3) 100 268500996 65540 0 4) [0] &&
    met (hypDeviceRegisterWrites (pick Sts 19) 0 134217788 134217788 4294967295 60) [2] &&
    met (hypDeviceRegisterWrites (pick Sts 7) 100 268763176 327720 305419896 40) [1]) = true := by decide +kernel

/-- The hypotheses of the clauses of PairedReads. -/
def hypPairedReads (s : State) (t : Tick) (mst : Master) (addr : Nat) (h : HiHold) (size : Nat) : List Bool :=
  let m := s.m.seenAt t
  [decide (reads mst addr = true) && decide (isLo addr = true),
    decide (reads mst addr = true) && decide (isLo addr = false) && decide (readsQuietly addr = true),
    decide (reads mst addr = true) && decide (isLo addr = false),
    decide (reads mst addr = true) && decide (m.holds.find? (fun h => h.master == mst && h.addr == addr) = some h),
    decide (reads mst addr = true) && decide (m.holds.find? (fun h => h.master == mst && h.addr == addr) = none) && decide (readsQuietly addr = true),
    decide (reads mst addr = false ∨ size ≠ 4)]

/-- Each clause of PairedReads has a state and operands that meet its hypotheses. -/
theorem test_PairedReads_witness : (
    met (hypPairedReads (pick Sts 15) 1000000000 Master.smc 268702636 (⟨Master.smc, 268702636, 77⟩) 1) [1, 2, 4, 5] &&
    met (hypPairedReads (pick Sts 24) 100 Master.smc 268767248 (⟨Master.smc, 268767248, 77⟩) 1) [0] &&
    met (hypPairedReads (pick Sts 16) 1000000000 Master.bridge 536870936 (⟨Master.bridge, 536870936, 77⟩) 2) [3]) = true := by decide +kernel

end WRegsh

namespace WAdch
def sqq (slot trig : Nat) : Sys2Proof.Machine.Seq := ⟨slot, trig, 0, 50, false, []⟩
def cv (n : Nat) (f : Conv → Conv) (c : Chan) : Chan := { c with adc := { c.adc with conv := c.adc.conv.set n (f (c.conv n)) } }
def adcCs : List (Chan → Chan) := [pp ((ADC_CTL_CONV_EN, 15) :: tri), pp ((ADC_CTL_CONV_EN, 15) :: tri), pp ((ADC_CTL_CONV_EN, 15) :: tri) ∘ cv 0 (fun x => { x with inj := some (sqq 0 1) }) ∘ cv 2 (fun x => { x with inj := some (sqq 3 2) }),
  pp ([(ADC_CTL_CONV_EN, 15), (ADC_CTL_PAIR_EN, 1)] ++ tri), pp ([(ADC_CTL_CONV_EN, 15), (ADC_CTL_ADC3_MODE, 1), (SCAN_MASK_MASK, 13)] ++ tri), pp ([(ADC_CTL_CONV_EN, 15), (ADC_CTL_ADC3_MODE, 1), (SCAN_MASK_MASK, 4)] ++ tri),
  pp ((ADC_CTL_CONV_EN, 15) :: (List.range 4).map (fun n => (CONV_CTL_REG_TRIG n, n + 1))) , pp ((ADC_CTL_CONV_EN, 15) :: (List.range 4).map (fun n => (CONV_CTL_REG_TRIG n, 4))), cv 1 (fun x => { x with fifo := [⟨5, 6⟩, ⟨2^31, 2^40⟩] }) ∘ cv 3 (fun x => { x with fifo := [⟨9, 10⟩] }) ∘ pp [(ADC_CTL_CONV_EN, 15)]]
def cs : List (Chan → Chan) := (adcCs).flatMap (fun f => [f ∘ stt 1, f ∘ stt 3]) ++ [stt 0, stt 4, stt 5]
def Sts : List State := prs cs

/-- The hypotheses of the clauses of ConverterTriggers. -/
def hypConverterTriggers (s : State) (t : Tick) (ch : Ch) (n : Nat) (bits : Nat) (src : Nat) (k : Nat) (q : Sys2Proof.Machine.Seq) : List Bool :=
  let c := s.m.seen t ch
  let b := b2n (bits.testBit 0 && c.b (CONV_CTL_INJ_TRIG_BND n)) + 2 * b2n (bits.testBit 1 && c.b (CONV_CTL_INJ_TRIG_WIN n)) + 4 * b2n (bits.testBit 2 && c.b (CONV_CTL_INJ_TRIG_SW n))
  if decide (c.state ≠ OFF) && decide (c.skim.cur = none) then
   [decide (n < 4) && decide (c.convOn n = true) && decide ((c.conv n).inj = none) && decide ((c.conv n).reg = none) && decide (b ≠ 0),
    decide (n < 4) && decide (c.convOn n = true) && decide ((c.conv n).inj = none) && decide ((c.conv n).reg = none) && decide (c.b (CONV_CTL_INJ_TRIG_SW n) = true),
    decide (n < 4) && decide (c.convOn n = true) && decide ((c.conv n).inj = none) && decide ((c.conv n).reg = none) && decide (c.scanMode n = false) && decide (c.g (CONV_CTL_REG_TRIG n) ≠ 1),
    decide (n < 4) && decide (c.convOn n = true) && decide ((c.conv n).inj = none) && decide ((c.conv n).reg = none) && decide (c.scanMode n = false) && decide (2 ≤ src) && decide (src ≤ 4) && decide (c.g (CONV_CTL_REG_TRIG n) = src),
    decide (c.scanMode 3 = true) && decide (c.convOn 3 = true) && decide ((c.conv 3).inj = none) && decide ((c.conv 3).reg = none) && decide (nextInput (c.g SCAN_MASK_MASK) 0 = some k),
    decide (n < 4) && decide (c.convOn n = true) && decide (b ≠ 0) && decide ((c.conv n).inj = some q) && decide (q.trigAt + ticksPerCycle ≤ c.now) && decide (c.srcActive INJ_OVERRUN = false)]
  else []

/-- Each clause of ConverterTriggers has a state and operands that meet its hypotheses. -/
theorem test_ConverterTriggers_witness : (
    met (hypConverterTriggers (pick Sts 8) 1000000000 .b 0 1 3 0 (⟨0, 0, 0, 50, false, []⟩)) [0, 1, 2, 4] &&
    met (hypConverterTriggers (pick Sts 12) 100 .a 3 2 4 2 (⟨0, 0, 0, 50, false, []⟩)) [3] &&
    met (hypConverterTriggers (pick Sts 3) 3000000000000 .b 2 7 2 0 (⟨3, 2, 0, 50, false, []⟩)) [5]) = true := by decide +kernel

/-- The hypotheses of the clauses of ConverterFifos. -/
def hypConverterFifos (s : State) (t : Tick) (ch : Ch) (n : Nat) (e : FifoEntry) (es : List FifoEntry) : List Bool :=
  let c := s.m.seen t ch
  if decide (c.state ≠ OFF) && decide (n < 4) then
   [decide ((c.conv n).fifo = e :: es) && decide (e.word < 2 ^ 32) && decide (e.time < 2 ^ 64),
    decide ((c.conv n).fifo = []),
    true]
  else []

/-- Each clause of ConverterFifos has a state and operands that meet its hypotheses. -/
theorem test_ConverterFifos_witness : (
    met (hypConverterFifos (pick Sts 6) 100 .a 1 (⟨5, 6⟩) []) [1, 2] &&
    met (hypConverterFifos (pick Sts 17) 1000000000 .a 1 (⟨5, 6⟩) [⟨2147483648, 1099511627776⟩]) [0]) = true := by decide +kernel

/-- The hypotheses of the clauses of ConversionEnds. -/
def hypConversionEnds (s : State) (t : Tick) (ch : Ch) (n : Nat) (q : Sys2Proof.Machine.Seq) : List Bool :=
  let c := s.m.seen t ch
  if decide (c.state ≠ OFF) && decide (n < 4) && decide (c.lead n = n) && decide (c.members n = [n]) && decide ((c.conv n).inj = some q) && decide (q.snap = []) && decide (q.slot < 4) then
   [true]
  else []

/-- Each clause of ConversionEnds has a state and operands that meet its hypotheses. -/
theorem test_ConversionEnds_witness : (
    met (hypConversionEnds (pick Sts 5) 0 .a 2 (⟨3, 2, 0, 50, false, []⟩)) [0]) = true := by decide +kernel

/-- The hypotheses of the clauses of ConverterStall. -/
def hypConverterStall (s : State) (t : Tick) (ch : Ch) : List Bool :=
  let c := s.m.seen t ch
  if decide (c.state ≠ OFF) && decide (c.srcActive ADC_STALL_SRC = false) then
   [true]
  else []

/-- Each clause of ConverterStall has a state and operands that meet its hypotheses. -/
theorem test_ConverterStall_witness : (
    met (hypConverterStall (pick Sts 6) 100 .a) [0]) = true := by decide +kernel

end WAdch

namespace WSinch
def sd (n : Nat) (f : SdIn → SdIn) (c : Chan) : Chan := { c with sinc := { c.sinc with inp := c.sinc.inp.set n (f (c.sdIn n)) } }
def SD (x : SdIn) : Chan → Chan := pp ([(SD_CTL_IN_EN, 15), (SD_CTL_CLK_MODE, 1), (SD_STATUS_CLK_OK, 1), (SD_STATUS_VALID, 15)] ++ (List.range 4).flatMap (fun n => [(DF_CFG_ORD n, 3), (DF_CFG_OSR n, 8), (CF_CFG_ORD n, 2), (CF_CFG_OSR n, 4)])) ∘ sd 0 (fun _ => x) ∘ sd 1 (fun _ => x) ∘ sd 2 (fun _ => x) ∘ sd 3 (fun _ => x)
def sinCs : List (Chan → Chan) := [SD {}, SD {}, SD { live := true, bits := List.replicate 30 true, win := 8, dfN := 2, cfN := 30 }, SD { live := true, bits := List.replicate 30 true, win := 4, dfN := 2, cfN := 3 }, SD { live := true, bits := List.replicate 30 true, win := 9, dfN := 0, cfN := 9 },
  pp ((List.range 4).flatMap (fun n => [(CF_CFG_EN n, 1), (CF_LIM_HIGH n, 100), (CF_CFG_DEBOUNCE n, 2)])) ∘ SD { live := true, bits := List.replicate 30 true, win := 9, dfN := 5, cfN := 10, hi := 2 }, pp ((List.range 4).flatMap (fun n => [(CF_CFG_EN n, 1), (CF_LIM_HIGH n, 100), (CF_CFG_DEBOUNCE n, 2)])) ∘ SD { live := true, bits := List.replicate 30 true, win := 9, dfN := 5, cfN := 10, hi := 2 },
  pp [(SD_STATUS_STUCK, 15)] ∘ SD {}, pp [(SD_CTL_CLK_MODE, 0)] ∘ SD {}, pp [(SD_CTL_CLK_MODE, 0), (SD_CTL_IN_EN, 0)] ∘ SD {}, pp [(SD_STATUS_CLK_OK, 0)] ∘ (fun c => { c with sinc := { c.sinc with clkLost := true } }) ∘ SD {}, (fun c => { c with sinc := { c.sinc with range := true } }) ∘ SD {}]
def cs : List (Chan → Chan) := (sinCs).flatMap (fun f => [f ∘ stt 1, f ∘ stt 3]) ++ [stt 0, stt 4, stt 5]
def Sts : List State := prs cs

/-- The hypotheses of the clauses of SigmaDeltaClock. -/
def hypSigmaDeltaClock (s : State) (t : Tick) (ch : Ch) (n : Nat) (p : Nat) : List Bool :=
  let c := s.m.seen t ch
  let runs := decide (c.b SD_CTL_CLK_MODE = true ∨ c.g SD_CTL_IN_EN ≠ 0)
  if decide (c.state ≠ OFF) then
   [decide (c.sinc.range = false) && decide (c.b SD_CTL_CLK_MODE = false ∨ (475 * p ≤ 960 * 256 * 100 ∧ 960 * 256 * 100 ≤ 2625 * p)),
    decide (c.sinc.range = false) && decide (c.b SD_CTL_CLK_MODE = true) && decide (960 * 256 * 100 < 475 * p ∨ 2625 * p < 960 * 256 * 100) && decide (c.srcActive MCLK_RANGE = false),
    decide (c.sinc.clkLost = false) && decide (runs) && decide (c.srcActive CLK_LOSS = false),
    decide (runs),
    decide (¬ runs),
    decide (c.sdOn n = true) && decide (c.gb SD_STATUS_STUCK n = false) && decide (c.srcActive (STUCK n) = false),
    decide (n < 4) && decide (c.gb SD_STATUS_STUCK n = true)]
  else []

/-- Each clause of SigmaDeltaClock has a state and operands that meet its hypotheses. -/
theorem test_SigmaDeltaClock_witness : (
    met (hypSigmaDeltaClock (pick Sts 15) 100 .a 1 0) [1, 2, 3, 6] &&
    met (hypSigmaDeltaClock (pick Sts 25) 3000000000000 .b 0 3000) [0, 4] &&
    met (hypSigmaDeltaClock (pick Sts 11) 3000000000000 .a 1 12000) [5]) = true := by decide +kernel

/-- The hypotheses of the clauses of SigmaDeltaFilters. -/
def hypSigmaDeltaFilters (s : State) (t : Tick) (ch : Ch) (n : Nat) (bit : Bool) (tail : List Bool) : List Bool :=
  let c := s.m.seen t ch
  let p := tail.foldl (fun d b => doSdComparatorOutput n b d) c
  let f := p.sdIn n
  let x := c.sdIn n
  let osr := c.g (DF_CFG_OSR n)
  let ord := c.g (DF_CFG_ORD n)
  let need := c.g (CF_CFG_ORD n) * c.g (CF_CFG_OSR n) + 2
  let y := { x with bits := (bit :: x.bits).take 1024, win := min 1024 (x.win + 1), cfN := min need (x.cfN + 1) }
  let w := sdCorrect (sincCount (c.g (CF_CFG_ORD n)) (c.g (CF_CFG_OSR n)) (y.bits.drop 2)) (c.g (CF_CFG_OSR n) ^ c.g (CF_CFG_ORD n)) (c.gi (DF_OFS_OFS n)) (c.gi (DF_GAIN_GAIN n))
  if decide (c.state ≠ OFF) && decide (c.sdOn n = true) && decide (x.live = true) then
   [decide (f.win < osr),
    decide (osr ≤ f.win) && decide (f.dfN + 1 < ord),
    decide (osr ≤ f.win) && decide (ord ≤ f.dfN + 1),
    decide (x.cfN + 1 < need),
    decide (need ≤ x.cfN + 1) && decide (c.b (CF_CFG_EN n) = false),
    decide (need ≤ x.cfN + 1) && decide (c.b (CF_CFG_EN n) = true) && decide (c.gi (CF_LIM_HIGH n) < w) && decide (c.g (CF_CFG_DEBOUNCE n) ≤ x.hi) && decide (c.g (CF_CFG_DEBOUNCE n) < 16) && decide (c.srcActive (CMPH n) = false)]
  else []

/-- Each clause of SigmaDeltaFilters has a state and operands that meet its hypotheses. -/
theorem test_SigmaDeltaFilters_witness : (
    met (hypSigmaDeltaFilters (pick Sts 10) 1000000000 .b 2 true []) [2, 5] &&
    met (hypSigmaDeltaFilters (pick Sts 8) 0 .a 2 false [true, false, true, true]) [1, 4] &&
    met (hypSigmaDeltaFilters (pick Sts 6) 0 .b 0 false []) [0, 3]) = true := by decide +kernel

end WSinch

namespace WPosh
def xc (f : Xchk → Xchk) (c : Chan) : Chan := { c with xchk := f c.xchk }
def mk (f : Mask → Mask) (c : Chan) : Chan := { c with mask := f c.mask }
def ob (f : Obs → Obs) (c : Chan) : Chan := { c with obs := f c.obs }
def rr (b : Bool) : TmRes := { ran := b, cm := none, pb := none, bad := 0, pri := true, angObs := false, time := 2^40 + 7 }
def posCs : List (Chan → Chan) := [pp [(ENC_CFG_IDX_EN, 0)], pp [(RES_EXC_EN, 1), (RES_CFG_BOTH, 1)], pp [(RES_EXC_EN, 1)], pp [(ENC_CFG_LINES, 1000), (ENC_CFG_IDX_EN, 1)], pp [(ENC_CFG_LINES, 1000), (ENC_CFG_IDX_EN, 1), (ENC_COUNT_COUNT, 3999), (ENC_COUNT_IDX_SEEN, 1), (ENC_CFG_IDX_TOL, 4)] ∘ xc (fun x => { x with encAB := 3, edges := [(1, 500)] }),
  pp [(ENC_CFG_LINES, 1000), (ENC_CFG_IDX_EN, 1), (ENC_COUNT_COUNT, 39), (ENC_COUNT_IDX_SEEN, 1), (ENC_CFG_IDX_TOL, 4)] ∘ xc (fun x => { x with encAB := 1, edges := [(1, 500)], encSpd := 7 }), pp [(ENC_COUNT_IDX_SEEN, 1), (ENC_CFG_LINES, 10), (ENC_CFG_IDX_EN, 1)],
  mk (fun m => { m with due := true }) ∘ pp [(MASK_TRIG_TRIG_DLY, 9)], mk (fun m => { m with due := true }) ∘ pp [(MASK_TRIG_TRIG_DLY, 0)], mk (fun m => { m with trig := true }) ∘ pp [(ADC_CTL_CONV_EN, 15), (CONV_CTL_INJ_TRIG_WIN 2, 1)], mk (fun m => { m with trig := true }) ∘ pp [(ADC_CTL_CONV_EN, 15), (CONV_CTL_INJ_TRIG_WIN 0, 1)], mk (fun m => { m with trig := true }) ∘ pp ((ADC_CTL_CONV_EN, 15) :: tri),
  mk (fun m => { m with refDue := 2, refresh := 2, hiN := [60000, 70000, 80000] }) ∘ pp [(MASK_STATUS_REFRESH, 1), (SL_CFG_BOOT 0, 1), (SL_CFG_BOOT 2, 1), (SL_CFG_BOOT 4, 1)], mk (fun m => { m with hiN := [60000, 70000, 80000] }) ∘ pp [(MASK_STATUS_REFRESH, 1), (SL_CFG_BOOT 0, 1), (SL_CFG_BOOT 2, 1), (SL_CFG_BOOT 4, 1)],
  pp [(TM_CFG_EN, 1)], pp [(TM_CFG_EN, 1), (TM_CFG_CM_EN, 1), (TM_CFG_PB_EN, 1)] ∘ ob (fun o => { o with tm := { allRun := true, n := 3 }, tmRes := some (rr true) }), ob (fun o => { o with tmRes := some (rr false) }), pp [(CONT_STATUS_CFB, 1)]]
def cs : List (Chan → Chan) := (posCs).flatMap (fun f => [f ∘ stt 1, f ∘ stt 3]) ++ [stt 0, stt 4, stt 5]
def Sts : List State := prs cs

/-- The hypotheses of the clauses of PositionInputs. -/
def hypPositionInputs (s : State) (t : Tick) (ch : Ch) (a : Bool) (b : Bool) (second : Bool) (n : Nat) : List Bool :=
  let c := s.m.seen t ch
  let o := c.xchk.encAB
  let off := min (c.g ENC_COUNT_COUNT) (4 * c.g ENC_CFG_LINES - c.g ENC_COUNT_COUNT)
  if decide (c.state ≠ OFF) && decide (n = b2n a + 2 * b2n b) then
   [decide (c.b RES_EXC_EN = true) && decide (second = true → c.b RES_CFG_BOTH = true) && decide (c.skim.cur = none),
    decide (c.b RES_EXC_EN = false ∨ (second = true ∧ c.b RES_CFG_BOTH = false)),
    decide (n = o),
    decide (n ≠ o) && decide (n ≠ 3 - o) && decide (0 < c.g ENC_CFG_LINES),
    decide (n ≠ o) && decide (n = 3 - o) && decide (c.srcActive ENC_ILLEGAL = false),
    decide (c.b ENC_CFG_IDX_EN = true) && decide (c.b ENC_COUNT_IDX_SEEN = false),
    decide (c.b ENC_CFG_IDX_EN = true) && decide (c.b ENC_COUNT_IDX_SEEN = true) && decide (off ≤ c.g ENC_CFG_IDX_TOL),
    decide (c.b ENC_CFG_IDX_EN = true) && decide (c.b ENC_COUNT_IDX_SEEN = true) && decide (c.g ENC_CFG_IDX_TOL < off) && decide (c.srcActive ENC_INDEX = false),
    decide (c.b ENC_CFG_IDX_EN = false),
    true]
  else []

/-- Each clause of PositionInputs has a state and operands that meet its hypotheses. -/
theorem test_PositionInputs_witness : (
    met (hypPositionInputs (pick Sts 2) 3000000000000 .a false true true 2) [0, 3, 5, 9] &&
    met (hypPositionInputs (pick Sts 0) 100 .b false false true 0) [1, 2, 8] &&
    met (hypPositionInputs (pick Sts 10) 100 .a false true true 2) [4, 7] &&
    met (hypPositionInputs (pick Sts 8) 1000000 .b true false true 1) [6]) = true := by decide +kernel

/-- The hypotheses of the clauses of AlternateLinkStale. -/
def hypAlternateLinkStale (s : State) (t : Tick) (ch : Ch) : List Bool :=
  let c := s.m.seen t ch
  let late := c.since (max c.xchk.altAt c.xchk.runAt) (c.g DCL_CFG_DCL_AGE * c.period)
  [decide (c.state = RUN) && decide (late = true) && decide (c.srcActive DCL_STALE = false),
    decide (c.state ≠ OFF) && decide (c.state ≠ RUN ∨ late = false)]

/-- Each clause of AlternateLinkStale has a state and operands that meet its hypotheses. -/
theorem test_AlternateLinkStale_witness : (
    met (hypAlternateLinkStale (pick Sts 12) 100 .a) [1] &&
    met (hypAlternateLinkStale (pick Sts 34) 3000000000000 .b) [0]) = true := by decide +kernel

/-- The hypotheses of the clauses of MaskingWindows. -/
def hypMaskingWindows (s : State) (t : Tick) (ch : Ch) (n : Nat) : List Bool :=
  let c := s.m.seen t ch
  if decide (c.state ≠ OFF) then
   [decide (c.mask.due = true) && decide (0 < c.g MASK_TRIG_TRIG_DLY),
    decide (c.mask.due = false),
    decide (n < 4) && decide (c.mask.trig = true) && decide (c.skim.cur = none) && decide (∀ k ∈ List.range 4, c.b (CONV_CTL_INJ_TRIG_WIN k) = true → k = n) && decide (c.b (CONV_CTL_INJ_TRIG_WIN n) = true) && decide (c.convOn n = true) && decide ((c.conv n).inj = none) && decide ((c.conv n).reg = none),
    decide (c.mask.trig = true) && decide (c.skim.cur = none),
    decide (c.mask.trig = false),
    true]
  else []

/-- Each clause of MaskingWindows has a state and operands that meet its hypotheses. -/
theorem test_MaskingWindows_witness : (
    met (hypMaskingWindows (pick Sts 18) 1000000 .b 2) [1, 2, 3, 5] &&
    met (hypMaskingWindows (pick Sts 13) 1000000 .b 3) [0, 4]) = true := by decide +kernel

/-- The hypotheses of the clauses of BootstrapRefresh. -/
def hypBootstrapRefresh (s : State) (t : Tick) (ch : Ch) (l : Nat) : List Bool :=
  let c := s.m.seen t ch
  if decide (c.state ≠ OFF) then
   [decide (c.mask.refDue ≠ 0) && decide (c.srcActive REFRESH_FORCED_SRC = false),
    decide (c.mask.refDue = 0),
    decide (c.mask.refresh = 0) && decide (c.b MASK_STATUS_REFRESH = true),
    decide (c.mask.refresh ≠ 0),
    decide (l < 3) && decide (c.state = RUN) && decide (c.bootLegs.testBit l = true) && decide (c.g MASK_BOOT_TON_MAX < nth c.mask.hiN l) && decide (c.srcActive ON_TIME_EXCEEDED_SRC = false),
    decide (c.state ≠ RUN)]
  else []

/-- Each clause of BootstrapRefresh has a state and operands that meet its hypotheses. -/
theorem test_BootstrapRefresh_witness : (
    met (hypBootstrapRefresh (pick Sts 23) 1000000 .b 1) [0, 3, 5] &&
    met (hypBootstrapRefresh (pick Sts 26) 0 .b 1) [1, 2, 4]) = true := by decide +kernel

/-- The hypotheses of the clauses of ObserverAndMonitor. -/
def hypObserverAndMonitor (s : State) (t : Tick) (ch : Ch) (r : TmRes) : List Bool :=
  let c := s.m.seen t ch
  if decide (c.state ≠ OFF) then
   [decide (c.state = PRIMED) && decide (c.cfbOpen = true),
    decide (c.state ≠ PRIMED ∨ c.cfbOpen = false),
    decide (c.tmOn = true),
    decide (c.tmOn = false),
    decide (c.obs.tmRes = some r) && decide (r.ran = false) && decide (c.b CORE_STATUS_HELD = false),
    decide (c.obs.tmRes = some r) && decide (r.ran = true) && decide (c.b CORE_STATUS_HELD = false),
    decide (c.obs.tmRes = some r) && decide (c.srcActive TM_LATE_SRC = false),
    decide (c.obs.tmRes = none)]
  else []

/-- Each clause of ObserverAndMonitor has a state and operands that meet its hypotheses. -/
theorem test_ObserverAndMonitor_witness : (
    met (hypObserverAndMonitor (pick Sts 12) 100 .a (⟨true, none, none, 0, true, false, 1099511627783⟩)) [0, 3, 7] &&
    met (hypObserverAndMonitor (pick Sts 30) 1000000 .b (⟨true, none, none, 0, true, false, 1099511627783⟩)) [1, 2, 5, 6] &&
    met (hypObserverAndMonitor (pick Sts 32) 1000000 .b (⟨false, none, none, 0, true, false, 1099511627783⟩)) [4]) = true := by decide +kernel

end WPosh

namespace WSl1h
def cs : List (Chan → Chan) := (slCs).flatMap (fun f => [f ∘ stt 1, f ∘ stt 3]) ++ (slCs).map (fun f => f ∘ stt 0)
def Sts : List State := prs cs

/-- The hypotheses of the clauses of SliceLatches. -/
def hypSliceLatches (s : State) (t : Tick) (ch : Ch) (n : Nat) (v : Int) (neg : Bool) : List Bool :=
  let c := s.m.seen t ch
  let x := c.sl n
  let armed := decide (x.power = true ∧ c.slCfg n (SC_LVL_EN n) ≠ 0)
  let blank := c.since x.onAt (ns (10 * c.slCfg n (SC_LVL_BLANK n)))
  let dead := decide (x.power = false ∧ x.auto = false)
  if decide (c.slices.length = 8) && decide (n < 8) then
   [decide (c.state ≠ OFF) && decide (c.mayLatch n 1 = true) && decide (armed),
    decide (c.state ≠ OFF) && decide (c.mayLatch n 0 = true) && decide (armed) && decide (x.blanking = false),
    decide (c.state ≠ OFF) && decide (c.mayLatch n 0 = true) && decide (armed) && decide (x.blanking = true) && decide (blank = true),
    decide (x.blanking = true) && decide (blank = true),
    decide (x.blanking = true),
    decide (x.blanking = false ∨ blank = false),
    decide (c.state ≠ OFF),
    decide (c.state ≠ OFF) && decide (x.power = true) && decide (c.mayLatch n 3 = true) && decide (c.b (SL_CFG_BOOT n) = false) && decide (c.negSet n + 100 < v),
    decide (c.state ≠ OFF) && decide (x.power = true) && decide (c.mayLatch n 2 = true) && decide (c.railUv n v = true) && decide (c.b (SL_CFG_BOOT n) = true → c.slWant n = true),
    decide (c.b (SL_CFG_BOOT n) = true → neg = true ∨ c.slWant n = false ∨ c.railUv n v = false) && decide (c.b (SL_CFG_BOOT n) = false → if neg then v ≤ c.negSet n + 100 else c.railUv n v = false),
    decide (c.state ≠ OFF) && decide (x.power = true) && decide (c.mayLatch n 4 = true) && decide (c.railOv n neg v = true),
    decide (c.railOv n neg v = false ∨ dead),
    decide (c.state ≠ OFF) && decide (x.power = true) && decide (c.mayLatch n 7 = true),
    decide (dead),
    decide (x.power = false) && decide (x.auto = true),
    decide (c.state ≠ OFF) && decide (c.sinceOpt x.asking (ns 1000) = true) && decide (x.partnerOff = false) && decide (c.mayLatch n 6 = true),
    decide (c.state ≠ OFF) && decide (c.sinceOpt x.asking (ns 1000) = false ∨ x.partnerOff = true),
    decide (c.state ≠ OFF) && decide (c.mayLatch n 5 = true),
    decide (c.state = OFF)]
  else []

/-- Each clause of SliceLatches has a state and operands that meet its hypotheses. -/
theorem test_SliceLatches_witness : (
    met (hypSliceLatches (pick Sts 11) 3000000000000 .a 7 0 false) [0, 2, 3, 4, 6, 7, 8, 11, 12, 16, 17] &&
    met (hypSliceLatches (pick Sts 19) 3000000000000 .a 3 2500 false) [1, 5, 9, 10, 15] &&
    met (hypSliceLatches (pick Sts 94) 0 .a 0 1400 false) [14, 18] &&
    met (hypSliceLatches (pick Sts 13) 3000000000000 .b 0 (-100) true) [13]) = true := by decide +kernel

end WSl1h

namespace WSl2h
def cs : List (Chan → Chan) := (slCs).flatMap (fun f => [f ∘ stt 1, f ∘ stt 3]) ++ (slCs).map (fun f => f ∘ stt 0)
def Sts : List State := prs cs

/-- The hypotheses of the clauses of SliceTurnOn. -/
def hypSliceTurnOn (s : State) (t : Tick) (ch : Ch) (n : Nat) : List Bool :=
  let c := s.m.seen t ch
  let x := c.sl n
  let dead := c.sinceOpt x.asking (c.slDead n)
  if decide (c.state ≠ OFF) && decide (c.slices.length = 8) && decide (n < 8) then
   [decide (dead = true) && decide (x.dtDone = false) && decide (x.partnerOff = true) && decide (c.since x.partnerOffAt (ns 10) = true) && decide (c.srcActive DT_EXTENDED = false),
    decide (dead = true) && decide (x.dtDone = false) && decide (x.partnerOff = true) && decide (c.since x.partnerOffAt (ns 10) = false),
    decide (dead = true) && decide (x.dtDone = false) && decide (x.partnerOff = false) && decide (c.srcActive DT_EXTENDED = false),
    decide (dead = false ∨ x.dtDone = true),
    decide (dead = true) && decide (x.dtDone = true) && decide (x.partnerOff = true) && decide (c.since x.partnerOffAt (ns 10) = true) && decide (c.srcActive DT_EXTENDED = false),
    decide (dead = false ∨ x.dtDone = false ∨ x.partnerOff = false ∨ c.since x.partnerOffAt (ns 10) = false),
    true]
  else []

/-- Each clause of SliceTurnOn has a state and operands that meet its hypotheses. -/
theorem test_SliceTurnOn_witness : (
    met (hypSliceTurnOn (pick Sts 24) 100 .a 7) [1, 5, 6] &&
    met (hypSliceTurnOn (pick Sts 19) 3000000000000 .b 6) [3, 4] &&
    met (hypSliceTurnOn (pick Sts 21) 3000000000000 .b 0) [0] &&
    met (hypSliceTurnOn (pick Sts 17) 1000000000 .b 7) [2]) = true := by decide +kernel

/-- The hypotheses of the clauses of SliceEdges. -/
def hypSliceEdges (s : State) (t : Tick) (ch : Ch) (n : Nat) (present : Bool) (rail : Int) (w : WireEdge) (ws : List WireEdge) : List Bool :=
  let c := s.m.seen t ch
  let x := c.sl n
  let on := c.b (SL_CFG_USED n) && c.b (SL_STATUS_READY n) && w.en && (if n < 6 then w.pulse == (n % 2 == 0) else w.pulse)
  let low := c.b (SL_CFG_BOOT n) && c.railUv n rail
  if decide (c.state ≠ OFF) && decide (c.slices.length = 8) && decide (n < 8) then
   [decide (x.wire = []),
    decide (x.wire = w :: ws) && decide (c.now < w.at_),
    decide (x.wire = w :: ws) && decide (w.at_ ≤ c.now) && decide (on = false ∨ x.latch ≠ 0 ∧ (w.en = false ∨ x.en = true ∨ present = true)),
    decide (x.wire = w :: ws) && decide (w.at_ ≤ c.now) && decide (on = true) && decide (x.latch = 0) && decide (x.isOn = false) && decide (low = true) && decide (c.mayLatch n 2 = true),
    decide (x.wire = w :: ws) && decide (w.at_ ≤ c.now) && decide (c.srcActive DT_EXTENDED = false) && decide (on = true) && decide (x.latch = 0) && decide (x.isOn = false) && decide (low = false),
    decide (x.wire = w :: ws) && decide (w.at_ ≤ c.now) && decide (on = true) && decide (x.latch = 0) && decide (x.isOn = true) && decide (x.asking = none),
    decide (x.wire = w :: ws) && decide (w.at_ ≤ c.now) && decide (w.en = true) && decide (x.en = false) && decide (present = false) && decide (x.latch ≠ 0) && decide (∀ u ∈ x.enLow, c.since u (ns 2000) = true) && decide (x.enLow.isSome = true) && decide (low = false),
    decide (x.wire = w :: ws) && decide (w.at_ ≤ c.now) && decide (w.en = true) && decide (x.en = false) && decide (x.latch ≠ 0) && decide (∀ u ∈ x.enLow, c.since u (ns 1900) = false) && decide (c.srcActive DT_EXTENDED = false) && decide (low = false)]
  else []

/-- Each clause of SliceEdges has a state and operands that meet its hypotheses. -/
theorem test_SliceEdges_witness1 : (
    met (hypSliceEdges (pick Sts 65) 1000000000 .a 6 true 2500 (⟨100000000, false, true⟩) []) [2, 7] &&
    met (hypSliceEdges (pick Sts 24) 100 .a 7 true 2500 (⟨0, true, true⟩) []) [0] &&
    met (hypSliceEdges (pick Sts 64) 1000000 .b 7 true 1600 (⟨100000000, false, true⟩) []) [1] &&
    met (hypSliceEdges (pick Sts 29) 0 .a 2 true 2500 (⟨0, true, true⟩) []) [4] &&
    met (hypSliceEdges (pick Sts 43) 1000000000 .a 0 false 500 (⟨0, false, true⟩) []) [6]) = true := by decide +kernel

/-- More clauses of SliceEdges. -/
theorem test_SliceEdges_witness2 : (
    met (hypSliceEdges (pick Sts 29) 3000000000000 .b 7 true 1600 (⟨0, true, true⟩) [⟨0, true, true⟩]) [5] &&
    met (hypSliceEdges (pick Sts 46) 1000000 .a 3 true 500 (⟨0, false, true⟩) []) [3]) = true := by decide +kernel

end WSl2h

namespace WSl3h
def cs : List (Chan → Chan) := (slCs).flatMap (fun f => [f ∘ stt 1, f ∘ stt 3]) ++ (slCs).map (fun f => f ∘ stt 0)
def Sts : List State := prs cs

/-- The hypotheses of the clauses of EnablePins. -/
def hypEnablePins (s : State) (t : Tick) (ch : Ch) (p : Nat) : List Bool :=
  let c := s.m.seen t ch
  let both := c.since (max (c.sl (2 * p)).gateAt (c.sl (2 * p + 1)).gateAt) (ns 20)
  let live := decide (c.state = ARMED ∨ c.state = RUN ∨ c.state = HOLD)
  if decide (c.state ≠ OFF) && decide (p < 4) && decide (c.slices.length = 8) then
   [decide (c.gb EN_STATUS_EN_PIN p = true) && decide (¬ live),
    decide (c.gb EN_STATUS_EN_PIN p = true) && decide (live) && decide (c.srcActive EN_LOW = false),
    decide (c.gb EN_STATUS_EN_PIN p = false),
    decide (c.gb EN_STATUS_EN_PIN p = true),
    decide (p < 3) && decide ((c.sl (2 * p)).gateOn = true) && decide ((c.sl (2 * p + 1)).gateOn = true) && decide (both = true) && decide (c.modul.ilk.testBit p = false) && decide (c.srcActive INTERLOCK = false),
    decide (2 < p ∨ (c.sl (2 * p)).gateOn = false ∨ (c.sl (2 * p + 1)).gateOn = false ∨ both = false ∨ c.modul.ilk.testBit p = true)]
  else []

/-- Each clause of EnablePins has a state and operands that meet its hypotheses. -/
theorem test_EnablePins_witness : (
    met (hypEnablePins (pick Sts 24) 100 .a 1) [2, 5] &&
    met (hypEnablePins (pick Sts 71) 100 .a 2) [1, 3] &&
    met (hypEnablePins (pick Sts 82) 1000000 .b 0) [4] &&
    met (hypEnablePins (pick Sts 69) 1000000000 .b 1) [0]) = true := by decide +kernel

/-- The hypotheses of the clauses of SliceMeasurements. -/
def hypSliceMeasurements (s : State) (t : Tick) (ch : Ch) (n : Nat) (ts : Nat) : List Bool :=
  let c := s.m.seen t ch
  let x := c.sl n
  let quiet := decide ((x.bad.filter (fun u => Nat.ble c.now (u + ms 1))).length ≤ 16)
  let hot := c.b (SL_CFG_USED n) && c.b (SL_CFG_TS_EN n) && Nat.blt (ts % 65536) (c.g (TS_CFG_LIM n))
  if decide (c.state ≠ OFF) && decide (n < 8) then
   [decide (x.power = true) && decide (hot = true) && decide (c.srcActive TS_OT = false),
    decide (x.power = true) && decide (hot = false),
    decide (x.power = true) && decide (quiet),
    decide (x.power = true) && decide (quiet) && decide (hot = false),
    decide (x.power = true) && decide (c.vdsMeasures n = true),
    decide (x.power = false ∨ c.vdsMeasures n = false),
    decide (x.power = false)]
  else []

/-- Each clause of SliceMeasurements has a state and operands that meet its hypotheses. -/
theorem test_SliceMeasurements_witness : (
    met (hypSliceMeasurements (pick Sts 24) 100 .a 7 0) [1, 2, 3, 5] &&
    met (hypSliceMeasurements (pick Sts 13) 3000000000000 .b 0 30000) [6] &&
    met (hypSliceMeasurements (pick Sts 79) 1000000 .b 6 0) [0, 4]) = true := by decide +kernel

end WSl3h

namespace WSl4sh
def fts (k : Nat) : List (Nat → Fld × Nat) := [fun n => (FTH_LIM_FTH_EN n, k), fun n => (FTH_TGT_TGT_ON n, 50), fun n => (FTH_TGT_TGT_OFF n, 150), fun n => (FTH_SEG_MIN_ON n, 2), fun n => (FTH_SEG_MAX_ON n, 9), fun n => (FTH_SEG_MIN_OFF n, 2), fun n => (FTH_SEG_MAX_OFF n, 9), fun n => (FTH_LIM_BAND n, 5), fun n => (FTH_LIM_VMIN n, 10)]
def tagCs : List (Chan → Chan) := [true, false].flatMap (fun on => [true, false].flatMap (fun own => [7, 9, 2].flatMap (fun seg => [500, 0].map (fun vr =>
   cfgA (fts 1) ∘ U (fun x => { x with power := true, segOn := seg, segOff := seg, vdsRef := some vr, tags := [⟨3, true, true, false, false, false⟩, ⟨4, true, true, false, false, false⟩], edgesBuf := [⟨3, true, true, own, on, seg, 5⟩] }))))) ++
  [cfgA (fts 0) ∘ U (fun x => { x with power := true, vdsRef := some 500, tags := [⟨3, true, true, false, false, false⟩], edgesBuf := [⟨3, true, true, true, true, 7, 5⟩] }), cfgA (fts 1) ∘ U (fun x => { x with power := true, vdsRef := some 500, tags := [⟨3, true, true, true, false, false⟩], edgesBuf := [⟨3, true, true, true, true, 7, 5⟩] }),
   cfgA (fts 1) ∘ U (fun x => { x with power := true, vdsRef := some 500, tags := [⟨3, false, true, false, false, false⟩], edgesBuf := [⟨3, true, true, true, true, 7, 5⟩] }), U (fun x => { x with power := true, edges := 3, tags := [⟨3, false, true, false, false, false⟩] }), U (fun x => { x with power := true })]
def cs : List (Chan → Chan) := (tagCs ++ fromCs).flatMap (fun f => [f ∘ stt 1, f ∘ stt 3]) ++ (tagCs ++ fromCs).map (fun f => f ∘ stt 0)
def Sts : List State := prs cs

/-- The hypotheses of the clauses of FramesAndTagsToSlice (FramesToSlice). -/
def hypFramesToSlice (s : State) (t : Tick) (ch : Ch) (n : Nat) (reg : Nat) (w : CfgWrite) : List Bool :=
  let c := s.m.seen t ch
  let x := c.sl n
  if decide (c.state ≠ OFF) && decide (n < 8) && decide (c.slices.length = 8) && decide (c.skim.cur = none) then
   [decide (x.power = true),
    decide (x.power = true) && decide ((cfgRegs n).contains reg = true) && decide (x.todo.find? (fun w => w.reg == reg) = some w) && decide (w.tries < 3),
    decide (x.power = true) && decide ((cfgRegs n).contains reg = true) && decide (x.todo.find? (fun w => w.reg == reg) = some w) && decide (3 ≤ w.tries) && decide (c.b (SL_CFG_USED n) = true) && decide (c.srcActive LINK_FAULT = false),
    decide (x.power = true) && decide ((cfgRegs n).contains reg = true) && decide (x.todo.find? (fun w => w.reg == reg) = none),
    decide (x.power = false)]
  else []

/-- Each clause of FramesAndTagsToSlice (FramesToSlice) has a state and operands that meet its hypotheses. -/
theorem test_FramesAndTagsToSlice_witness_FramesToSlice : (
    met (hypFramesToSlice (pick Sts 33) 100 .a 7 30464 (⟨5, 0, false⟩)) [0, 3] &&
    met (hypFramesToSlice (pick Sts 81) 100 .a 6 30216 (⟨5, 0, false⟩)) [4] &&
    met (hypFramesToSlice (pick Sts 71) 1000000000 .b 3 29440 (⟨29440, 3, true⟩)) [2] &&
    met (hypFramesToSlice (pick Sts 73) 1000000000 .b 0 28676 (⟨28676, 1, true⟩)) [1]) = true := by decide +kernel

/-- The hypotheses of the clauses of FramesAndTagsToSlice (EdgeTags). -/
def hypEdgeTags (s : State) (t : Tick) (ch : Ch) (n : Nat) (count : Nat) (tag : EdgeTag) (e : SliceEdge) (v : Int) : List Bool :=
  let c := s.m.seen t ch
  let x := c.sl n
  let formed := decide (x.tags.find? (fun g => g.count == count % 256) = some tag)
  let found := x.edgesBuf.find? (fun e => e.count == count % 256)
  let agrees := decide (e.pulse = tag.pulse ∧ e.en = tag.en)
  let seen := decide (x.vdsRef = some v ∧ (c.slCfg n (FTH_LIM_VMIN n) : Int) ≤ v)
  if decide (c.state ≠ OFF) && decide (n < 8) && decide (c.slices.length = 8) && decide (x.power = true) then
   [decide (formed) && decide (found = some e) && decide (agrees) && decide (e.own = false),
    decide (formed) && decide (found = some e) && decide (agrees) && decide (e.own = true) && decide (seen) && decide (tag.forced = false) && decide (tag.safe = false) && decide (x.latch = 0) && decide (c.slCfg n (FTH_LIM_FTH_EN n) ≠ 0),
    decide (formed) && decide (found = some e) && decide (agrees) && decide (e.own = true) && decide (seen) && decide (tag.forced = true ∨ tag.safe = true ∨ x.latch ≠ 0 ∨ c.slCfg n (FTH_LIM_FTH_EN n) = 0),
    decide (formed) && decide (found = some e) && decide (¬ agrees) && decide (c.mayLatch n 5 = true),
    decide (formed) && decide (found = none) && decide ((x.edges + 256 - count % 256) % 256 < 128),
    decide (x.tags.find? (fun g => g.count == count % 256) = none),
    decide (found = some e) && decide (e.own = true) && decide (c.since e.at_ (us 2) = true),
    decide (found = some e) && decide (e.own = false ∨ c.since e.at_ (us 2) = false),
    decide (found = none)]
  else []

/-- Each clause of FramesAndTagsToSlice (EdgeTags) has a state and operands that meet its hypotheses. -/
theorem test_FramesAndTagsToSlice_witness_EdgeTags1 : (
    met (hypEdgeTags (pick Sts 33) 100 .a 7 0 (⟨3, true, true, false, false, false⟩) (⟨3, true, true, true, false, 2, 5⟩) (-100)) [5, 8] &&
    met (hypEdgeTags (pick Sts 18) 3000000000000 .a 7 3 (⟨3, true, true, false, false, false⟩) (⟨3, true, true, false, true, 9, 5⟩) 500) [0, 7] &&
    met (hypEdgeTags (pick Sts 8) 1000000 .b 0 3 (⟨3, true, true, false, false, false⟩) (⟨3, true, true, true, true, 2, 5⟩) 500) [1, 6] &&
    met (hypEdgeTags (pick Sts 54) 1000000 .a 1 3 (⟨3, false, true, false, false, false⟩) (⟨3, true, true, true, true, 7, 5⟩) 500) [4] &&
    met (hypEdgeTags (pick Sts 49) 100 .a 3 259 (⟨3, true, true, false, false, false⟩) (⟨3, true, true, true, true, 7, 5⟩) 500) [2]) = true := by decide +kernel

/-- More clauses of FramesAndTagsToSlice (EdgeTags). -/
theorem test_FramesAndTagsToSlice_witness_EdgeTags2 : (
    met (hypEdgeTags (pick Sts 53) 1000000 .a 3 259 (⟨3, false, true, false, false, false⟩) (⟨3, true, true, true, true, 7, 5⟩) 500) [3]) = true := by decide +kernel

end WSl4sh

namespace WSl5h
def cs : List (Chan → Chan) := (fromCs).flatMap (fun f => [f ∘ stt 1, f ∘ stt 3]) ++ (fromCs).map (fun f => f ∘ stt 0)
def Sts : List State := prs cs

/-- The hypotheses of the clauses of FramesFromSlice. -/
def hypFramesFromSlice (s : State) (t : Tick) (ch : Ch) (n : Nat) (reg : Nat) (data : Nat) (r : SlReport) (rs : List SlReport) (w : CfgWrite) (word : Nat) (from_ : Bool) : List Bool :=
  let c := s.m.seen t ch
  let x := c.sl n
  let recent := x.bad.filter (fun u => Nat.ble c.now (u + ms 1))
  let right := decide (data &&& cfgMask reg = c.cfgWord reg)
  let late := (c.now :: x.bad).take 17
  if decide (c.state ≠ OFF) && decide (n < 8) && decide (c.slices.length = 8) then
   [decide (x.power = true) && decide (recent.length ≤ 16),
    decide (x.power = true) && decide (recent.length ≤ 16) && decide (n ≠ 7 ∨ x.latch = 0 ∨ c.prot.dchg = none),
    decide (x.power = true) && decide (recent.length ≤ 16) && decide (x.reports = r :: rs) && decide (r.lim < 64),
    decide (x.power = true) && decide (recent.length ≤ 16) && decide (x.reports = r :: rs) && decide (64 ≤ r.lim) && decide (c.srcActive FTH_LIMIT = false),
    decide (x.power = true) && decide (recent.length ≤ 16) && decide (x.reports = []),
    decide (x.power = true) && decide (recent.length ≤ 16) && decide ((cfgRegs n).contains reg = true) && decide (x.todo.find? (fun w => w.reg == reg) = some w) && decide (w.acked = true) && decide (right) && decide (x.cfgBad = false),
    decide (x.power = true) && decide (recent.length ≤ 16) && decide ((cfgRegs n).contains reg = true) && decide (x.todo.find? (fun w => w.reg == reg) = none) && decide (¬ right) && decide (c.b (SL_CFG_USED n) = true) && decide (c.srcActive LINK_FAULT = false),
    decide (x.power = true) && decide (slFrameOk false word = false),
    decide (x.power = true) && decide (slFrameOk true word = false) && decide (c.b (SL_CFG_USED n) = true) && decide ((late.filter (fun u => Nat.ble c.now (u + ms 1))).length = 17) && decide (c.srcActive LINK_CRC = false),
    decide (x.power = true) && decide (slFrameOk true word = false) && decide (c.b (SL_CFG_USED n) = true) && decide ((late.filter (fun u => Nat.ble c.now (u + ms 1))).length ≤ 16),
    decide (slFrameOk from_ word = true),
    true,
    decide (x.power = false)]
  else []

/-- Each clause of FramesFromSlice has a state and operands that meet its hypotheses. -/
theorem test_FramesFromSlice_witness1 : (
    met (hypFramesFromSlice (pick Sts 24) 1000000 .b 3 29444 5 (⟨true, false, false, 3, 4, 5, 6, 7⟩) [] (⟨5, 0, false⟩) 77 false) [0, 1, 4, 6, 7, 9, 11] &&
    met (hypFramesFromSlice (pick Sts 23) 1000000 .a 2 5 0 (⟨true, false, false, 3, 4, 5, 6, 7⟩) [] (⟨5, 0, false⟩) 3340158558459041952130 false) [10, 12] &&
    met (hypFramesFromSlice (pick Sts 5) 1000000 .a 0 64 137 (⟨true, false, false, 3, 4, 5, 6, 7⟩) [] (⟨5, 0, false⟩) 3343456600761161040931 false) [2] &&
    met (hypFramesFromSlice (pick Sts 7) 1000000 .b 0 5 0 (⟨true, false, false, 3, 4, 5, 6, 7⟩) [] (⟨5, 0, false⟩) 0 true) [8] &&
    met (hypFramesFromSlice (pick Sts 5) 1000000000 .b 6 30216 0 (⟨false, true, true, 3, 4, 5, 64, 7⟩) [⟨true, false, false, 3, 4, 5, 6, 7⟩] (⟨5, 0, false⟩) 77 true) [3]) = true := by decide +kernel

/-- More clauses of FramesFromSlice. -/
theorem test_FramesFromSlice_witness2 : (
    met (hypFramesFromSlice (pick Sts 15) 100 .b 3 29448 0 (⟨true, false, false, 3, 4, 5, 6, 7⟩) [] (⟨29448, 1, true⟩) 3340158558459041952130 true) [5]) = true := by decide +kernel

end WSl5h

namespace WSl6h
def cs : List (Chan → Chan) := (fromCs).flatMap (fun f => [f ∘ stt 1, f ∘ stt 3]) ++ (fromCs).map (fun f => f ∘ stt 0)
def Sts : List State := prs cs

/-- The hypotheses of the clauses of SliceLinkSupervision. -/
def hypSliceLinkSupervision (s : State) (t : Tick) (ch : Ch) (n : Nat) : List Bool :=
  let c := s.m.seen t ch
  let x := c.sl n
  let fine := fun k => decide ((c.sl k).power = false ∨ c.b (SL_CFG_USED k) = false ∨ (c.sl k).cfgOk = false ∨ (c.cfgSame k = true ∧ (c.sl k).cfgBad = false))
  if decide (c.state ≠ OFF) && decide (n < 8) && decide (c.slices.length = 8) then
   [decide (c.b (SL_CFG_USED n) = true) && decide (c.parked = false) && decide (c.srcActive LINK_FAULT = false),
    decide (c.b (SL_CFG_USED n) = false ∨ c.parked = true),
    decide (∀ k ∈ List.range 8, fine k),
    decide (∀ k ∈ List.range 8, k ≠ n → (c.sl k).power = false) && decide (x.power = true) && decide (c.b (SL_CFG_USED n) = true) && decide (x.cfgOk = true) && decide (c.cfgSame n = false) && decide (c.srcActive LINK_FAULT = false),
    decide (c.parked = false),
    decide (c.parked = true),
    decide (x.power = true) && decide (x.cfgOk = true) && decide (c.sinceOpt x.railsAt (us 100) = true) && decide (c.b (SL_STATUS_LINK_OK n) = true) && decide (c.b (SL_STATUS_READY n) = false),
    decide (x.power = false ∨ x.cfgOk = false ∨ c.sinceOpt x.railsAt (us 100) = false ∨ c.b (SL_STATUS_LINK_OK n) = false)]
  else []

/-- Each clause of SliceLinkSupervision has a state and operands that meet its hypotheses. -/
theorem test_SliceLinkSupervision_witness : (
    met (hypSliceLinkSupervision (pick Sts 24) 100 .a 7) [1, 2, 5, 7] &&
    met (hypSliceLinkSupervision (pick Sts 28) 1000000000 .a 0) [0, 4, 6] &&
    met (hypSliceLinkSupervision (pick Sts 23) 1000000 .a 0) [3]) = true := by decide +kernel

end WSl6h

namespace WPrih
def priCs : List (Chan → Chan) :=
  let pm := fun (q : Primer) (c : Chan) => { c with modul := { c.modul with primer := some q } }
  [pp used, pp used, pp [(SL_CH_CTL_PRIMER_REQ, 1)], pm ⟨0, 0, none, none, [], false⟩, pm ⟨2, 0, some (-100, -500), none, [], false⟩, pm ⟨1, 0, none, some 0, [(-100, -500, 65536), (-100, 2000, 0)], false⟩, pm ⟨2, 0, none, some 0, [(-100, -500, 655360), (-100, 2000, 0)], false⟩, pm ⟨0, 0, none, some 0, [(-100, 2000, 0)], false⟩, pm ⟨2, 0, none, some 0, [], true⟩, pp [(LEG_HEALTH_FS_H, 3), (PRIMER_RES_RUNNING, 1)] ∘ pm ⟨2, 0, none, some 0, [], true⟩, pp [(PRIMER_RES_CLASS, 6), (PRIMER_RES_RAIL_UNK, 4)] ∘ pm ⟨2, 0, none, some 0, [], true⟩, pp [(PRIMER_RES_CLASS, 0x33), (PRIMER_RES_NSET, 4)] ∘ pm ⟨2, 0, none, some 0, [], true⟩, pp [(PRIMER_RES_NSET, 4)] ∘ pm ⟨2, 0, none, some 0, [], true⟩, ct (fun x => { x with arm := some ⟨false, .primer, 0, 0, 0⟩ }) ∘ pp [(PRIMER_RES_CLASS, 1)] ∘ pm ⟨2, 0, none, some 0, [], true⟩]
def cs : List (Chan → Chan) := (priCs).flatMap (fun f => [f ∘ stt 1, f ∘ stt 3]) ++ (priCs).map (fun f => f ∘ stt 0)
def Sts : List State := prs cs

/-- The hypotheses of the clauses of PrimerTest. -/
def hypPrimerTest (s : State) (t : Tick) (ch : Ch) (p : Primer) (a : Tick) (l : Int) (h : Int) : List Bool :=
  let c := s.m.seen t ch
  let k := p.phase
  let may := decide (c.state = PRIMED ∧ c.ctl.arm = none ∧ c.modul.primer = none)
  if decide (c.state ≠ OFF) then
   [decide (may) && decide (c.primerPre = true),
    decide (may) && decide (c.primerPre = false) && decide (c.srcActive PRIMER_FAIL = false),
    decide (¬ may),
    decide (c.modul.primer = none),
    decide (c.modul.primer = some p) && decide (p.off = false) && decide (p.avgAt = some a),
    decide (c.modul.primer = some p) && decide (p.off = false) && decide (p.avgAt = none) && decide (p.last = none),
    decide (c.modul.primer = some p) && decide (p.off = false) && decide (p.avgAt = none) && decide (p.last = some (l, h)),
    decide (c.modul.primer = some p) && decide (p.off = false) && decide (p.avgAt = none) && decide (c.since p.since (ms (c.g PRIMER_CFG_SETTLE)) = true) && decide (k < 3),
    decide (c.modul.primer = some p) && decide (p.off = true ∨ p.avgAt.isSome = true ∨ c.since p.since (ms (c.g PRIMER_CFG_SETTLE)) = false),
    decide (c.modul.primer = some p) && decide (p.off = false) && decide (c.sinceOpt p.avgAt (ms 1) = true) && decide (p.sums ≠ []) && decide (k < 3),
    decide (c.modul.primer = some p) && decide (p.off = true ∨ c.sinceOpt p.avgAt (ms 1) = false ∨ p.sums = []),
    decide (c.modul.primer = some p) && decide (p.off = false ∨ c.since p.since (ms 1) = false),
    decide (c.modul.primer = some p) && decide (p.off = true) && decide (c.since p.since (ms 1) = true) && decide (c.g PRIMER_RES_CLASS = 0) && decide (c.g PRIMER_RES_NSET = 0) && decide (c.ctl.arm = none),
    decide (c.modul.primer = some p) && decide (p.off = true) && decide (c.since p.since (ms 1) = true) && decide (c.g PRIMER_RES_CLASS ≠ 0 ∨ c.g PRIMER_RES_NSET ≠ 0)]
  else []

/-- Each clause of PrimerTest has a state and operands that meet its hypotheses. -/
theorem test_PrimerTest_witness1 : (
    met (hypPrimerTest (pick Sts 1) 100 .a (⟨0, 0, none, none, [], false⟩) 0 (-100) (-500)) [2, 3] &&
    met (hypPrimerTest (pick Sts 6) 0 .b (⟨0, 0, none, none, [], false⟩) 0 7000 (-500)) [5, 8, 10, 11] &&
    met (hypPrimerTest (pick Sts 15) 3000000000000 .a (⟨0, 0, none, some 0, [(-100, 2000, 0)], false⟩) 0 7000 (-500)) [4, 9] &&
    met (hypPrimerTest (pick Sts 8) 3000000000000 .a (⟨2, 0, some (-100, -500), none, [], false⟩) 0 (-100) (-500)) [6, 7] &&
    met (hypPrimerTest (pick Sts 21) 1000000000 .b (⟨2, 0, none, some 0, [], true⟩) 0 7000 (-500)) [13]) = true := by decide +kernel

/-- More clauses of PrimerTest. -/
theorem test_PrimerTest_witness2 : (
    met (hypPrimerTest (pick Sts 2) 1000000000 .a (⟨0, 0, none, none, [], false⟩) 0 7000 (-500)) [0] &&
    met (hypPrimerTest (pick Sts 15) 3000000000000 .b (⟨2, 0, none, some 0, [], true⟩) 0 7000 (-500)) [12] &&
    met (hypPrimerTest (pick Sts 3) 3000000000000 .b (⟨0, 0, none, none, [], false⟩) 0 7000 (-500)) [1]) = true := by decide +kernel

end WPrih

namespace WPwr1
def devs : List Dev := [ {}, { pwr := up }, { pwr := { up with shut := 1 } }, { pwr := { up with shut := 1, wakeHeld := true } }, { pwr := { phase := .standby } }, { pwr := { phase := .off } }, { pwr := { phase := .noAon, rails := 0 } },
  { pwr := { rails := 0x7F } }, { bist := { ucRec := some rcG } }, { bist := { ucRec := some rcB } }, {pwr := { up with dip := some (5, 7) }}]
def fiddle (d : Dev) : List Dev := [d, (d.p SYS_PWR_CTL_LP_STATE 1).p AON_VIN_CFG_WARN 3, ((d.p SYS_PWR_CTL_LP_STATE 2).p AON_WAKE_CFG_TIMER_EN 1).p BIST_CFG_UC_MAX_AGE 9, (((d.p AON_WAKE_CFG_TIMER_EN 1).p AON_WAKE_CFG_T 0).p SYS_PWR_CTL_LP_STATE 1).p BIST_CFG_UC_MAX_AGE 9]
def Sts : List State := devs.flatMap (fun d => (fiddle d).flatMap (fun e => [mkS e id id, mkS e prim (fun c => (prim c).p CORE_STATUS_LOCKSTEP_BROKEN 1)]))

/-- The hypotheses of the clauses of PowerUpAndDown. -/
def hypPowerUpAndDown (s : State) (t : Tick) (mv : Nat) (rc : UcRec) : List Bool :=
  let d := s.m.seenDev t
  let p := d.pwr
  let st := d.g SYS_PWR_CTL_LP_STATE
  let rails := p.rails.testBit 0 && p.rails.testBit 1 && p.rails.testBit 2 && p.rails.testBit 7
  let allPass := fun (r : UcRec) => decide (r.ok = true ∧ (∀ k ∈ List.range 8, nth r.res k = 1) ∧ (d.time - r.time) / 1000000000 ≤ 3600 * d.g BIST_CFG_UC_MAX_AGE)
  [decide (p.phase = .noAon) && decide (mv < 3000),
    decide (p.phase = .noAon) && decide (3000 ≤ mv),
    decide (p.phase ≠ .noAon),
    decide (p.phase = .noAon),
    decide (p.phase = .standby ∨ p.phase = .off),
    decide (p.phase = .run ∨ p.phase = .held),
    decide (p.phase ≠ .held ∨ rails = false),
    decide (p.phase = .held) && decide (rails = true),
    decide (p.phase = .held) && decide (rails = true) && decide (d.bist.ucRec = none),
    decide (p.phase = .held) && decide (rails = true) && decide (p.smc = .down) && decide (d.bist.ucRec = some rc) && decide (allPass rc),
    decide (p.phase = .standby),
    decide (p.phase = .run) && decide (p.shut ≠ 0),
    decide (p.phase = .run ∧ p.shut = 0 ∨ p.phase = .held ∨ p.phase = .off ∨ p.phase = .noAon),
    decide (p.phase = .standby) && decide (d.b AON_WAKE_CFG_TIMER_EN = true) && decide (d.since p.since (ms (60000 * d.g AON_WAKE_CFG_T)) = true),
    decide (p.phase ≠ .standby ∨ d.b AON_WAKE_CFG_TIMER_EN = false ∨ d.since p.since (ms (60000 * d.g AON_WAKE_CFG_T)) = false),
    decide (d.alive = true) && decide (st = 1 ∨ st = 2) && decide (p.wakeHeld = false ∨ st = 2),
    decide (d.alive = true) && decide (st = 1) && decide (p.wakeHeld = true),
    decide (d.alive = false ∨ st = 0 ∨ st = 3)]

/-- Each clause of PowerUpAndDown has a state and operands that meet its hypotheses. -/
theorem test_PowerUpAndDown_witness1 : (
    met (hypPowerUpAndDown (pick Sts 0) 1000 5001 (⟨[1, 1, 1, 1, 2, 1, 1, 1], [], 0, 4, some 604245022⟩)) [2, 5, 7, 8, 12, 14, 17] &&
    met (hypPowerUpAndDown (pick Sts 39) 0 3000 (⟨(List.replicate 8 1), [⟨1, 2, 3⟩], 0, 4, some 519698109⟩)) [4, 6, 10, 13] &&
    met (hypPowerUpAndDown (pick Sts 52) 1000000000000 2500 (⟨(List.replicate 8 1), [⟨1, 2, 3⟩], 0, 4, some 519698109⟩)) [0, 3] &&
    met (hypPowerUpAndDown (pick Sts 31) 0 4000 (⟨[1, 1, 1, 1, 2, 1, 1, 1], [], 0, 4, some 604245022⟩)) [11, 16] &&
    met (hypPowerUpAndDown (pick Sts 12) 1000 3000 (⟨(List.replicate 8 1), [⟨1, 2, 3⟩], 0, 4, some 519698109⟩)) [15]) = true := by decide +kernel

/-- More clauses of PowerUpAndDown. -/
theorem test_PowerUpAndDown_witness2 : (
    met (hypPowerUpAndDown (pick Sts 71) 1000 4000 (⟨(List.replicate 8 1), [⟨1, 2, 3⟩], 0, 4, some 519698109⟩)) [9] &&
    met (hypPowerUpAndDown (pick Sts 49) 0 5001 (⟨[1, 1, 1, 1, 2, 1, 1, 1], [], 0, 4, some 604245022⟩)) [1]) = true := by decide +kernel

end WPwr1

namespace WPwr2
def devs : List Dev := [{ pwr := { up with smc := .down } }, { pwr := { up with dip := some (5, 7), kickAt := 0 } },  {}, { pwr := up }, { pwr := { up with shut := 1 } }, { pwr := { up with shut := 1, wakeHeld := true } }, { pwr := { phase := .standby } }, { pwr := { phase := .off } }, { pwr := { phase := .noAon, rails := 0 } },
  { pwr := { rails := 0x7F } }, { bist := { ucRec := some rcG } }, { bist := { ucRec := some rcB } }, {pwr := { up with dip := some (5, 7) }}]
def fiddle (d : Dev) : List Dev := [d, ((((((d.p SYS_WDOG_EN 1).p ETH_STATUS_LINK_UP 1).p ETH_STATUS_SPEED 2).p HQ_CTL_MODE 1).p (CAN_STATUS_STATE 0) 2).p (CAN_TIM_N_N_SEG1 1) 3).p AON_IRQ_EN_SAG 1, ((d.p SYS_WDOG_EN 1).p ARC_BLOCKS_BLOCKS0 3).p (ARC_IRQ_EN_SRC) 1, (d.p SYS_PWR_CTL_LP_STATE 1).p AON_VIN_CFG_WARN 3, ((d.p SYS_PWR_CTL_LP_STATE 2).p AON_WAKE_CFG_TIMER_EN 1).p BIST_CFG_UC_MAX_AGE 9, (((d.p AON_WAKE_CFG_TIMER_EN 1).p AON_WAKE_CFG_T 0).p SYS_PWR_CTL_LP_STATE 1).p BIST_CFG_UC_MAX_AGE 9]
def Sts : List State := devs.flatMap (fun d => (fiddle d).flatMap (fun e => [mkS e id id, mkS e prim (fun c => (prim c).p CORE_STATUS_LOCKSTEP_BROKEN 1)]))

/-- The hypotheses of the clauses of RailsSagsAndWatchdog. -/
def hypRailsSagsAndWatchdog (s : State) (t : Tick) (rail : Nat) (bits : Nat) (at_ : Nat) (time : Nat) : List Bool :=
  let d := s.m.seenDev t
  let p := d.pwr
  let wd := d.alive && d.b SYS_WDOG_EN && !d.halted && d.since p.kickAt (ms (d.g SYS_WDOG_T))
  [decide (6 < rail ∨ p.phase = .noAon),
    decide (rail = 0) && decide (p.phase ≠ .noAon),
    decide (rail ≠ 0) && decide (rail ≤ 6) && decide (p.phase ≠ .noAon) && decide (p.phase ≠ .run),
    decide (rail = 1) && decide (p.phase = .run),
    decide (rail = 2) && decide (p.phase = .run),
    decide (3 ≤ rail) && decide (rail ≤ 6) && decide (p.phase = .run),
    decide (rail ≤ 6) && decide (p.phase ≠ .noAon) && decide (rail ≠ 2 ∨ p.phase ≠ .run ∨ p.smc ≠ .down ∨ d.bist.mode = .undercoat),
    decide (rail = 2) && decide (p.phase = .run) && decide (p.smc = .down) && decide (d.bist.mode ≠ .undercoat) && decide (d.bist.stuck = false) && decide (d.bist.todo.contains 0 = false) && decide (d.bist.todo.contains 1 = false),
    decide (p.phase = .noAon ∨ p.dip ≠ none),
    decide (p.phase ≠ .noAon) && decide (p.dip = none),
    decide (p.dip = none),
    decide (p.dip = some (at_, time)),
    decide (wd = false),
    decide (wd = true),
    decide (d.alive = true),
    decide (d.alive = false),
    decide (d.alive = true) && decide (bits = 0),
    decide (d.alive = true) && decide (bits = 1),
    decide (d.alive = true) && decide (bits = 2),
    decide (d.alive = true) && decide (bits = 4),
    decide (d.alive = true) && decide (bits = 8),
    decide (d.alive = true) && decide (bits = 16)]

/-- Each clause of RailsSagsAndWatchdog has a state and operands that meet its hypotheses. -/
theorem test_RailsSagsAndWatchdog_witness1 : (
    met (hypRailsSagsAndWatchdog (pick Sts 149) 1000 1 2 5 7) [3, 6, 8, 11, 12, 14, 18] &&
    met (hypRailsSagsAndWatchdog (pick Sts 82) 0 7 2 5 7) [0, 9, 10, 15] &&
    met (hypRailsSagsAndWatchdog (pick Sts 14) 1000000000000 2 1 5 7) [4, 13, 17] &&
    met (hypRailsSagsAndWatchdog (pick Sts 14) 1000 3 4 5 7) [5, 19] &&
    met (hypRailsSagsAndWatchdog (pick Sts 59) 0 0 16 5 7) [1, 21]) = true := by decide +kernel

/-- More clauses of RailsSagsAndWatchdog. -/
theorem test_RailsSagsAndWatchdog_witness2 : (
    met (hypRailsSagsAndWatchdog (pick Sts 129) 1000000000000 5 31 5 7) [2] &&
    met (hypRailsSagsAndWatchdog (pick Sts 41) 1000 1 8 5 7) [20] &&
    met (hypRailsSagsAndWatchdog (pick Sts 37) 0 6 0 5 7) [16] &&
    met (hypRailsSagsAndWatchdog (pick Sts 11) 1000 2 31 5 7) [7]) = true := by decide +kernel

end WPwr2

namespace WClk
def devs : List Dev := [ {}, { pwr := up }, { pwr := { up with pllOnAon := true } }, { pwr := { up with smc := .down } }, { pwr := { up with aonDev := true } }]
def fiddle (d : Dev) : List Dev := [d, ((((d.p ETH_STATUS_LINK_UP 1).p PTP_STATUS_SYNCED 1).p HQ_CTL_MODE 1).p (CAN_STATUS_STATE 0) 2).p (CAN_TIM_N_N_SEG1 1) 3, (d.p (CAN_TIM_N_N_SEG1 0) 100).p (CAN_STATUS_STATE 1) 3]
def tbs : List TimeBase := [{}, { off := 3, missed := 1, rate := 7 }, { missed := 2, slew := 4000 }, { missed := 5, hold := true }]
def chs : List (Chan → Chan) := [id, prim] ++ tbs.flatMap (fun b => [fun c => { prim c with tb := b }, fun c => { (prim c).p CH_STATE_STATE 3 with tb := b, dust := { fwd := true } }, fun c => { (prim c).p CORE_STATUS_HALTED 1 with tb := b, dust := { fwd := true } }])
def Sts : List State := devs.flatMap (fun d => (fiddle d).flatMap (fun e => chs.map (fun f => mkS e f (fun c => { (prim c).p CH_STATE_STATE 2 with dust := { fwd := true } }))))

/-- The hypotheses of the clauses of ClocksAndTimebases. -/
def hypClocksAndTimebases (s : State) (t : Tick) (ch : Ch) (x : Bool) (y : Bool) : List Bool :=
  let c := s.m.seen t ch
  let o := s.m.seen t ch.other
  let d := s.m.seenDev t
  let p := d.pwr
  let b := c.tb
  let rest := b.slew - b.slewed c.now
  let succeeds := x && d.up && !p.pllOnAon
  let ctl := if p.aonDev then y else x
  let xref := !p.aonDev && !x && y
  let forwards := d.up && o.dust.fwd && c.pairRuns
  [decide (p.phase ≠ .run),
    decide (p.phase ≠ .run ∨ p.pllOnAon = false),
    decide (p.phase = .run),
    decide (p.phase = .run) && decide (d.alive = false),
    decide (d.alive = true),
    decide (p.phase = .run) && decide (p.pllOnAon = true),
    decide (c.state = OFF),
    decide (c.state ≠ OFF),
    decide (c.state ≠ OFF) && decide (ctl = true),
    decide (c.state ≠ OFF) && decide (xref = true),
    decide (c.state ≠ OFF) && decide (ctl = false) && decide (xref = false),
    decide (c.state ≠ OFF) && decide (succeeds = true) && decide (b.hold = false) && decide (rest = 0),
    decide (c.state ≠ OFF) && decide (succeeds = true) && decide (b.hold = false) && decide (rest ≠ 0),
    decide (c.state ≠ OFF) && decide (succeeds = true) && decide (b.hold = true),
    decide (c.state ≠ OFF) && decide (succeeds = false) && decide (b.hold = true ∨ b.missed < 2),
    decide (c.state ≠ OFF) && decide (succeeds = false) && decide (b.hold = false) && decide (2 ≤ b.missed) && decide (c.srcActive TIME_HOLD = false),
    decide (forwards = false),
    decide (forwards = true) && decide (c.state ≠ OFF) && decide (c.srcActive PEER_S4 = false)]

/-- Each clause of ClocksAndTimebases has a state and operands that meet its hypotheses. -/
theorem test_ClocksAndTimebases_witness1 : (
    met (hypClocksAndTimebases (pick Sts 69) 1000000000000 .a true true) [1, 2, 4, 7, 8, 13, 16] &&
    met (hypClocksAndTimebases (pick Sts 21) 1000000000000 .a false true) [0, 9, 14] &&
    met (hypClocksAndTimebases (pick Sts 98) 0 .a false false) [5, 6] &&
    met (hypClocksAndTimebases (pick Sts 201) 1000 .a true false) [10, 11, 17] &&
    met (hypClocksAndTimebases (pick Sts 149) 1000 .a false true) [3, 15]) = true := by decide +kernel

/-- More clauses of ClocksAndTimebases. -/
theorem test_ClocksAndTimebases_witness2 : (
    met (hypClocksAndTimebases (pick Sts 66) 0 .a true true) [12]) = true := by decide +kernel

end WClk

namespace WBoot
def st0 : Stored := ⟨3, [(DTC_PERIOD, 1500), (GUARD_CFG, 5)], none⟩
def devs : List Dev := [ {}, { pwr := up }, { pwr := {up with smc := .released} }, { pwr := { up with smc := .booted, fresh := true }, arch := { ident := some 5, counters := [3,4], openCls := 3 } }, { pwr := { up with smc := .booted }, lc := 1, arch := {boot := [{trial := some 1}, {}]} },
   { pwr := up, arch := { psets := [{a := some st0}, {a := some st0, b := some st0}, {}, {}] } }]
def okT (d : Dev) : Dev := (List.range 8).foldl (fun e p => e.p (BIST_RES_RUN_RES p) 1) d
def fiddle (d : Dev) : List Dev := [d, okT d, (okT d).p SYS_PWR_CTL_PARK_A 1, (okT d).p SMC_PAIR_STATUS_HALTED 1, { (okT d) with arch := { d.arch with writing := some .a }, colmo := { running := [⟨⟨0,1,2,3,4,5,6⟩, [.chan .a .arm]⟩] } }]
def chs : List (Chan → Chan) := [id, prim, fun c => c.p GUARD_CFG_EN 1, fun c => { c with prot := { pinLow := true }, mail := [⟨⟨0,1,2,3,4,5,6⟩, [], 0⟩] }, fun c => { prim c with mail := [⟨⟨0,1,2,3,4,5,6⟩, [], 0⟩], ring := { phase := .frozen } }]
def Sts : List State := devs.flatMap (fun d => (fiddle d).flatMap (fun e => chs.map (fun f => mkS e f (fun c => { (prim c).p CH_STATE_STATE 2 with dust := { fwd := true } }))))

/-- The hypotheses of the clauses of BootAndRelease. -/
def hypBootAndRelease (s : State) (t : Tick) (ch : Ch) (ok : Bool) : List Bool :=
  let m := s.m.seenAt t
  let d := s.m.seenDev t
  let c := m.chan ch
  let p := d.pwr
  let boots := decide (p.phase = .run) && decide (p.smc = .released) && !d.halted
  let starts := decide (p.phase = .run) && decide (p.smc = .booted) && !d.halted
  let may := decide (c.state = OFF) && d.mayRelease ch
  [decide (boots = false),
    decide (boots = true) && decide (ok = false),
    decide (boots = true) && decide (ok = true),
    decide (starts = false),
    decide (starts = true),
    decide (may = false),
    decide (may = true),
    decide (may = true) && decide (d.arch.copies ch .tuning = {}) && decide (d.arch.copies ch .safety = {}) && decide (c.b GUARD_CFG_EN = false) && decide (c.prot.pinLow = false)]

/-- Each clause of BootAndRelease has a state and operands that meet its hypotheses. -/
theorem test_BootAndRelease_witness : (
    met (hypBootAndRelease (pick Sts 35) 1000 .a false) [0, 3, 6, 7] &&
    met (hypBootAndRelease (pick Sts 78) 1000000000000 .a false) [4, 5] &&
    met (hypBootAndRelease (pick Sts 62) 1000 .a true) [2] &&
    met (hypBootAndRelease (pick Sts 59) 0 .a false) [1]) = true := by decide +kernel

end WBoot

namespace WBis2
def q0 : Bist := { mode := .startup, todo := [0,1,2,3,4,5,6,7] }
def bs : List Bist := [{}, q0, { q0 with again := [0,1,3] }, { q0 with todo := [1] }, { q0 with todo := [2,3,5], soft := [⟨3,1,1⟩,⟨6,0,0⟩] }, { q0 with todo := [3] }, { q0 with todo := [3, 6] , again := [3,6] },{ q0 with stuck := true },
  { mode := .undercoat, todo := [2,3,4,0,1], uc := List.replicate 8 0 }, { mode := .undercoat, todo := [4,0,1], uc := List.replicate 8 0 },  { mode := .undercoat, todo := [0,1], uc := List.replicate 8 0 }, { mode := .undercoat, uc := [1,2,3,1,1,1,1,1], count := 5, soft := [⟨1,2,3⟩] },
  { mode := .request, req := 3 }, { mode := .request, req := 3, fuse := true, soft := [⟨3,1,1⟩] }, { mode := .request, req := 6, fuse := true, soft := [⟨3,1,1⟩] }, { runs := [.a] }, { runs := [.a,.b], soft := [⟨3,1,1⟩,⟨1,4,4⟩] }]
def ps : List Pwr := [up, { up with smc := .down }, {up with shut := 1 }, { up with shut := 2, wakeHeld := true }, { up with smc := .down, rails := 0xF0 }]
def devs : List Dev := bs.flatMap (fun b => ps.flatMap (fun p => [{ bist := b, pwr := p }, { bist := b, pwr := p, lc := 1 }]))
def fiddle (d : Dev) : List Dev := [d, ((d.p BIST_CFG_FAIL_ACT 1).p BIST_REQ_TEST 2).p BIST_CFG_UC_EN 1, (((d.p BIST_CFG_UC_EN 0).p BIST_CFG_FAIL_ACT 2).p BIST_REQ_TARGET 3).p SYS_PWR_CTL_PARK_A 1, (d.p BIST_REQ_TARGET 1).p BIST_CFG_UC_EN 1]
def chs : List (Chan → Chan) := [id, prim, fun c => { prim c with skim := { cur := some ⟨1,2,3⟩ } }]
def Sts : List State := devs.flatMap (fun d => (fiddle d).flatMap (fun e => chs.map (fun f => mkS e f (fun c => { (prim c).p CH_STATE_STATE 2 with dust := { fwd := true } }))))

/-- The hypotheses of the clauses of SelfTestAndUndercoat. -/
def hypSelfTestAndUndercoat (s : State) (t : Tick) (p : Nat) (clk : Bool) (fail : Bool) (start : Bool) (fuse : Bool) (rows : List (Nat × Nat)) : List Bool :=
  let m := s.m.seenAt t
  let d := s.m.seenDev t
  let b := d.bist
  let valid := clk && d.supplied p
  let live := decide (d.pwr.phase = .run) && !b.stuck
  let mends := fail && decide (d.g BIST_CFG_FAIL_ACT = 0) && d.repairable p rows
  let res := if valid then (if fail then (if mends then 4 else 2) else 1) else 3
  let judged := valid || b.again.contains p
  let halts := decide (2 ≤ res) && decide (res ≤ 3) && (decide (p < 2) || (decide (res = 2) && decide (d.g BIST_CFG_FAIL_ACT = 1)))
  let tgt := d.g BIST_REQ_TARGET
  let refused := m.bistRefused tgt (d.g BIST_REQ_TEST)
  let mayTest := decide (d.lc = 0) || decide (d.lc = 3)
  let st := d.pwr.shut
  let chs := b.runs
  if decide (p < 8) then
   [decide (live = false ∨ b.mode = .idle ∨ (b.mode = .request ∧ b.req ≠ p) ∨ ((b.mode = .startup ∨ b.mode = .undercoat) ∧ d.runnable p = false)),
    decide (live = true) && decide (b.mode = .startup) && decide (d.runnable p = true) && decide (judged = false),
    decide (live = true) && decide (b.mode = .startup) && decide (d.runnable p = true) && decide (judged = true) && decide (halts = false),
    decide (live = true) && decide (b.mode = .startup) && decide (d.runnable p = true) && decide (judged = true) && decide (halts = true),
    decide (live = true) && decide (b.mode = .undercoat) && decide (d.runnable p = true),
    decide (live = true) && decide (b.mode = .request) && decide (b.req = p),
    decide (d.alive = false),
    decide (d.alive = true) && decide (mayTest = false ∨ ((start || fuse) = true ∧ refused = true)),
    decide (d.alive = true) && decide (mayTest = true) && decide (start = false) && decide (fuse = false),
    decide (d.alive = true) && decide (mayTest = true) && decide (refused = false) && decide (start = false) && decide (fuse = true),
    decide (d.alive = true) && decide (mayTest = true) && decide (refused = false) && decide (start = true),
    decide (st = 0 ∨ b.mode ≠ .idle),
    decide (st ≠ 0) && decide (b.mode = .idle) && decide (d.b BIST_CFG_UC_EN = true) && decide (chs.any (fun c => (m.chan c).skim.cur.isSome) = true),
    decide (st ≠ 0) && decide (b.mode = .idle) && decide (d.b BIST_CFG_UC_EN = false) && decide (d.pwr.wakeHeld = false),
    decide (st ≠ 0) && decide (b.mode = .idle) && decide (d.b BIST_CFG_UC_EN = true) && decide (chs.any (fun c => (m.chan c).skim.cur.isSome) = false),
    decide (b.mode ≠ .undercoat ∨ b.todo ≠ []),
    decide (b.mode = .undercoat) && decide (b.todo = [])]
  else []

/-- Each clause of SelfTestAndUndercoat has a state and operands that meet its hypotheses. -/
theorem test_SelfTestAndUndercoat_witness1 : (
    met (hypSelfTestAndUndercoat (pick Sts 369) 1000000000000 4 false true true false [(1, 5), (1, 6), (1, 7), (1, 8), (1, 9)]) [0, 7, 11, 15] &&
    met (hypSelfTestAndUndercoat (pick Sts 1470) 1000 3 false false true true [(1, 5), (1, 6), (1, 7), (1, 8), (1, 9)]) [5, 6] &&
    met (hypSelfTestAndUndercoat (pick Sts 488) 1000000000000 2 true true false false [(0, 2), (3, 70000)]) [2, 8] &&
    met (hypSelfTestAndUndercoat (pick Sts 63) 1000 2 false true true false []) [14] &&
    met (hypSelfTestAndUndercoat (pick Sts 1809) 1000000000000 0 false true true true [(1, 5)]) [10]) = true := by decide +kernel

/-- More clauses of SelfTestAndUndercoat. -/
theorem test_SelfTestAndUndercoat_witness2 : (
    met (hypSelfTestAndUndercoat (pick Sts 285) 1000 0 false false false true [(1, 5), (1, 6), (1, 7), (1, 8), (1, 9)]) [3] &&
    met (hypSelfTestAndUndercoat (pick Sts 1436) 1000000000000 0 false true true false [(1, 5)]) [16] &&
    met (hypSelfTestAndUndercoat (pick Sts 1253) 1000 0 true true true true []) [4] &&
    met (hypSelfTestAndUndercoat (pick Sts 66) 0 3 false false false false [(1, 5)]) [13] &&
    met (hypSelfTestAndUndercoat (pick Sts 1862) 0 2 false true false false [(1, 5)]) [12]) = true := by decide +kernel

/-- More clauses of SelfTestAndUndercoat. -/
theorem test_SelfTestAndUndercoat_witness3 : (
    met (hypSelfTestAndUndercoat (pick Sts 151) 0 0 false true true false []) [1] &&
    met (hypSelfTestAndUndercoat (pick Sts 1804) 1000000000000 0 false true false true []) [9]) = true := by decide +kernel

end WBis2

namespace WCore
def prim (c : Chan) : Chan := (((c.p CH_STATE_STATE 1).p GUARD_STATUS_TEST_SEEN 1).p EN_STATUS_EN_PIN 15).p PLUMB_STAT_PASSES 65535
def ps : List Pwr := [up, { up with smc := .down }, {up with rails := 0xF3 }]
def devs : List Dev := ps.flatMap (fun p => [{ pwr := p }, { pwr := p, lc := 1 }, {pwr := p, lc := 3 }])
def fiddle (d : Dev) : List Dev := [d, d, (d.p SMC_PAIR_STATUS_HALTED 1), (d.p SMC_PLUMB_STAT_PASSES 100).p SMC_PAIR_STATUS_LOCKSTEP_BROKEN 1, d.p HQ_CTL_MODE 1]
def chs : List (Chan → Chan) := [id, prim, prim, fun c => (prim c).p CORE_STATUS_HALTED 1, fun c => (prim c).p CORE_STATUS_HELD 1, fun c => ((prim c).p CORE_STATUS_LOCKSTEP_BROKEN 1).p SHADOW_STAT_VALID 1, fun c => ((prim c).p CH_STATE_STATE 3).tcmPut 10 77, fun c => ((prim c).p CH_STATE_STATE 2).tcmPut 0 5, fun c => (prim c).p CH_STATE_STATE 5, fun c => { (prim c).p CH_STATE_STATE 4 with ctl := { arm := some { start := 5, fromHold := true, step := .check, stepAt := 0, closed := 1 } } }]
def Sts : List State := devs.flatMap (fun d => (fiddle d).flatMap (fun e => chs.map (fun f => mkS e f (fun c => { (prim c).p CH_STATE_STATE 2 with dust := { fwd := true } }))))

/-- The hypotheses of the clauses of LockstepAndMemories. -/
def hypLockstepAndMemories (s : State) (t : Tick) (ch : Ch) (kind : Nat) (addr : Nat) (bit : Nat) (own : Bool) (oth : Bool) (dbl : Bool) : List Bool :=
  let c := s.m.seen t ch
  let d := s.m.seenDev t
  let runs := !c.b CORE_STATUS_HELD && !c.b CORE_STATUS_HALTED
  let smc := d.alive && !d.halted
  let open_ := decide (d.lc = 1) || decide (d.lc = 3)
  let calm := fun (q : Src) => decide (c.srcActive q = false)
  let breaks := !c.lockBroken && decide (kind ≤ 2)
  [decide (c.state = OFF),
    decide (c.state = OFF) && decide (open_ = true),
    decide (c.state ≠ OFF) && decide (4 ≤ kind ∨ (runs = false ∧ c.ctl.heldAt = none)),
    decide (c.state ≠ OFF) && decide (kind < 4) && decide (runs = true) && decide (calm CORE_PAIR),
    decide (c.state ≠ OFF) && decide (runs = false) && decide (c.skim.cur = none),
    decide (c.state ≠ OFF) && decide (runs = true) && decide (own = true) && decide (oth = false),
    decide (c.state ≠ OFF) && decide (runs = true) && decide (own = true) && decide (oth = true) && decide (calm CORE_PAIR),
    decide (c.state ≠ OFF) && decide (runs = true) && decide (own = false) && decide (calm CORE_PAIR),
    decide (c.state ≠ OFF) && decide (open_ = true) && decide (c.b CORE_STATUS_HELD = true),
    decide (c.state ≠ OFF) && decide (open_ = true) && decide (c.b CORE_STATUS_HELD = false) && decide (c.lockBroken = true) && decide (kind = 2),
    decide (c.state ≠ OFF) && decide (open_ = true) && decide (c.b CORE_STATUS_HELD = false) && decide (c.lockBroken = true) && decide (kind ≠ 2),
    decide (c.state ≠ OFF) && decide (open_ = true) && decide (c.b CORE_STATUS_HELD = false) && decide (breaks = true) && decide (calm LOCKSTEP_BROKEN_SRC) && decide (c.sevOf LOCKSTEP_BROKEN_SRC < 3) && decide (c.g EN_STATUS_EN_PIN = 15) && decide (c.rd LEG_HEALTH = 0) && decide (c.b DUST_STATUS_SPD_HIGH = false) && decide (c.g DUST_STATUS_HARD_N ≤ c.g DUST_CTL_HARD_MAX),
    decide (c.state ≠ OFF),
    decide (c.state ≠ OFF) && decide (dbl = false) && decide (calm TCM_ECC_CORR),
    decide (c.state ≠ OFF) && decide (dbl = true) && decide (calm TCM_ECC_UNCORR),
    decide (c.state ≠ OFF) && decide (setOf addr ≠ .safety ∨ (rwcBits addr).testBit bit = false),
    decide (c.state ≠ OFF) && decide (setOf addr = .safety) && decide ((rwcBits addr).testBit bit = true) && decide (calm SHADOW_MISMATCH_SRC),
    decide (smc = false ∨ 3 < kind),
    decide (smc = true) && decide (kind ≤ 3),
    decide (smc = false),
    decide (smc = true) && decide (own = true) && decide (oth = false),
    decide (smc = true) && decide (own = false ∨ oth = true),
    decide (open_ = false),
    decide (open_ = true) && decide (d.alive = false),
    decide (open_ = true) && decide (d.alive = true),
    decide (d.halted = false),
    decide (d.halted = true)]

/-- Each clause of LockstepAndMemories has a state and operands that meet its hypotheses. -/
theorem test_LockstepAndMemories_witness1 : (
    met (hypLockstepAndMemories (pick Sts 429) 1000000000000 .a 1 20488 31 true false true) [3, 5, 11, 12, 14, 15, 17, 19, 24, 26] &&
    met (hypLockstepAndMemories (pick Sts 80) 1000000000000 .a 0 40976 31 true false false) [0, 1, 18, 20, 25] &&
    met (hypLockstepAndMemories (pick Sts 309) 0 .b 4 36864 0 false false true) [2, 7, 16, 21, 22] &&
    met (hypLockstepAndMemories (pick Sts 234) 1000 .a 0 16388 0 false false false) [4, 8, 13, 23] &&
    met (hypLockstepAndMemories (pick Sts 395) 1000000000000 .a 2 40976 31 true true false) [6, 9]) = true := by decide +kernel

/-- More clauses of LockstepAndMemories. -/
theorem test_LockstepAndMemories_witness2 : (
    met (hypLockstepAndMemories (pick Sts 375) 1000000000000 .a 1 36864 1 false true false) [10]) = true := by decide +kernel

end WCore

namespace WCvu
def prim (c : Chan) : Chan := (((c.p CH_STATE_STATE 1).p GUARD_STATUS_TEST_SEEN 1).p EN_STATUS_EN_PIN 15).p PLUMB_STAT_PASSES 65535
def devs : List Dev := [{pwr := up}, {pwr := {up with smc := .down}}]
def fiddle (d : Dev) : List Dev := [d, ((d.wr (SMC_CVU_CTL 3) 0x25).wr (SMC_CVU_VAL 3) 77).wr (SMC_CVU_EXP 3) 7, (d.wr (SMC_CVU_CTL 0) 0x12).wr (SMC_CVU_EXP 0) 88]
def chs : List (Chan → Chan) := [id, prim, fun c => ((prim c).wr (CVU_CTL 3) 0x25).wr (CVU_EXP 3) 8,  fun c => ((prim c).wr (CVU_CTL 0) 0x13).wr (CVU_EXP 0) 8, fun c => { (prim c).p SKIM_STATUS_BUSY 1 with skim := { cur := some ⟨4, 3, 0⟩ } }, fun c => { ((prim c).p SKIM_STATUS_BUSY 1).wr (CVU_EXP 0) 8 with skim := { cur := some ⟨4, 0, 0⟩ } }]
def Sts : List State := devs.flatMap (fun d => (fiddle d).flatMap (fun e => chs.flatMap (fun f => [mkS e f id, mkS e id f])))

/-- The hypotheses of the clauses of CheckValueUnits. -/
def hypCheckValueUnits (s : State) (t : Tick) (ch : Ch) (n : Nat) : List Bool :=
  let c := s.m.seen t ch
  let d := s.m.seenDev t
  let busy := c.skim.cur.any (fun r => r.cls == 4 && r.unit == n)
  let agrees := cvuMatch (c.rd (CVU_CTL n)) (c.rd (CVU_VAL n)) (c.rd (CVU_EXP n))
  let agreesD := cvuMatch (d.rd (SMC_CVU_CTL n)) (d.rd (SMC_CVU_VAL n)) (d.rd (SMC_CVU_EXP n))
  [decide (c.state = OFF ∨ 8 ≤ n),
    decide (d.alive = false ∨ 8 ≤ n),
    decide (c.state ≠ OFF) && decide (n < 8) && decide (busy = false),
    decide (c.state ≠ OFF) && decide (n < 8) && decide (busy = false) && decide (agrees = true),
    decide (c.state ≠ OFF) && decide (n < 8) && decide (busy = false) && decide (agrees = false) && decide (c.srcActive CVU_MISMATCH = false),
    decide (c.state ≠ OFF) && decide (n < 8) && decide (busy = true) && decide (c.srcActive SKIM_ABORT_SRC = false),
    decide (d.alive = true) && decide (n < 8),
    decide (d.alive = true) && decide (n < 8) && decide (agreesD = true),
    decide (d.alive = true) && decide (n < 8) && decide (agreesD = false)]

/-- Each clause of CheckValueUnits has a state and operands that meet its hypotheses. -/
theorem test_CheckValueUnits_witness : (
    met (hypCheckValueUnits (pick Sts 11) 1000 .b 3) [2, 3, 6, 7] &&
    met (hypCheckValueUnits (pick Sts 20) 1000 .a 3) [5, 8] &&
    met (hypCheckValueUnits (pick Sts 52) 1000000000000 .b 0) [0, 1] &&
    met (hypCheckValueUnits (pick Sts 65) 1000 .b 3) [4]) = true := by decide +kernel

end WCvu

namespace WSkimw
def Rs : List SkimRun := [⟨0,3,0⟩, ⟨0,1,0⟩, ⟨1,3,0⟩, ⟨2,3,0⟩, ⟨3,4,0⟩, ⟨4,5,0⟩, ⟨5,2,0⟩, ⟨6,3,0⟩, ⟨6,4,0⟩, ⟨7,1,0⟩, ⟨8,0,0⟩, ⟨8,5,0⟩]
def prim (c : Chan) : Chan := ((((c.p CH_STATE_STATE 1).p GUARD_STATUS_TEST_SEEN 1).p EN_STATUS_EN_PIN 15).p PLUMB_STAT_PASSES 65535).p SKIM_CTL_EN 0x3FF
def withR (f : Chan → Chan) (r : SkimRun) : Chan → Chan := fun c => { (f c).p SKIM_STATUS_BUSY 1 with skim := { cur := some r } }
def chs : List (Chan → Chan) := [id, prim, prim, fun c => (prim c).p SKIM_CTL_EN 0, fun c => (prim c).p SKIM_STATUS_PASS_RUN 1, fun c => { prim c with skim := { stopped := true } }] ++ Rs.map (withR prim) ++ Rs.map (withR (fun c => (prim c).p CH_STATE_STATE 3))
def Sts : List State := chs.flatMap (fun f => [mkS {pwr := up} f f])

/-- The hypotheses of the clauses of SkimTests. -/
def hypSkimTests (s : State) (t : Tick) (ch : Ch) (cls : Nat) (unit : Nat) (raw : Nat) (raw1 : Nat) (detail : Nat) (ok : Bool) (r : SkimRun) : List Bool :=
  let c := s.m.seen t ch
  let k := c.skim
  let young := k.redo.any (fun r => r.cls == cls && r.unit == unit && !c.since r.at_ (us 20))
  let may := k.cur.isNone && !k.stopped && c.gb SKIM_CTL_EN cls && (c.skimUnits cls).contains unit && c.unitFree cls unit && !young && !(regfSlice cls unit && c.ctl.commit.isSome)
  let misses := fun (x : Nat) => decide (c.g REFINJ_CTL_TOL < ((x : Int) - 1024 * ((r.unit % 3 : Nat) + 1)).natAbs)
  let step := if !ok then 2 else if raw != 0 && raw1 == 0 then 0 else 3
  let sum := if ok then c.regfCrc r.unit else detail
  let bad := if r.cls = 0 then misses raw || (decide (1 < (c.members (r.unit / 3)).length) && misses raw1) else if r.cls = 1 then step != 0 else if r.cls = 6 then !(ok && sum == c.rd (REGF_REF r.unit)) else !ok
  let source := if r.cls = 0 then REFINJ_FAIL else if r.cls = 3 then ⟨2, 13⟩ else SKIM_TEST_FAIL
  let again := k.redo.any (fun x => x.cls == r.cls && x.unit == r.unit)
  let cyc := c.since k.cycAt (ms (c.g SKIM_CFG_CYCLE))
  [decide (c.state = OFF),
    decide (c.state ≠ OFF) && decide (may = false),
    decide (c.state ≠ OFF) && decide (may = true) && decide (cls < 10),
    decide (c.state ≠ OFF) && decide (k.cur = none),
    decide (c.state ≠ OFF) && decide (k.cur = some r) && decide (r.cls ∈ [0, 1, 2, 3, 4, 6]) && decide (bad = false) && decide (again = false) && decide (c.b SKIM_STATUS_PASS_RUN = false),
    decide (c.state ≠ OFF) && decide (k.cur = some r) && decide (r.cls ∈ [0, 1, 2, 3, 4, 6]) && decide (bad = true) && decide (c.srcActive source = false),
    decide (c.state ≠ OFF) && decide (k.cur = some r) && decide (r.cls = 5) && decide (r.unit < 8) && decide (ok = true ∨ c.srcActive SKIM_TEST_FAIL = false),
    decide (c.state ≠ OFF) && decide (k.cur = some r) && decide (r.cls = 7) && decide (ok = false) && decide (c.pairRuns = true) && decide (c.srcActive CORE_PAIR = false),
    decide (c.state ≠ OFF) && decide (k.cur = some r) && decide (r.cls = 8) && decide (ok = true) && decide (raw1 = 0),
    decide (c.state ≠ OFF) && decide (k.cur = some r) && decide (r.cls = 8) && decide (r.unit = 0) && decide (ok = false) && decide (detail ≠ 1) && decide (raw1 = 0) && decide (c.srcActive DTC_STENCIL_ECC = false),
    decide (c.state ≠ OFF) && decide (k.cur = some r) && decide (r.cls = 2 ∨ r.cls = 3 ∨ r.cls = 7),
    decide (c.state ≠ OFF) && decide (k.cur = some r) && decide (r.cls ≠ 2) && decide (r.cls ≠ 3) && decide (r.cls ≠ 7) && decide (r.cls < 16) && decide (c.srcActive SKIM_ABORT_SRC = false),
    decide (c.state ≠ OFF) && decide (cyc = false),
    decide (c.state ≠ OFF) && decide (cyc = true),
    decide (c.state ≠ OFF) && decide (c.b SKIM_STATUS_PASS_RUN = true ∨ k.stopped = true),
    decide (c.state ≠ OFF) && decide (c.b SKIM_STATUS_PASS_RUN = false) && decide (k.stopped = false) && decide (c.gb SKIM_CTL_EN 1 = true),
    decide (c.state ≠ OFF) && decide (c.b SKIM_STATUS_PASS_RUN = false) && decide (k.stopped = false) && decide (c.g SKIM_CTL_EN = 0)]

/-- Each clause of SkimTests has a state and operands that meet its hypotheses. -/
theorem test_SkimTests_witness1 : (
    met (hypSkimTests (pick Sts 3) 10000000000000 .b 0 7 2048 2048 0 false (⟨3, 4, 0⟩)) [1, 3, 13, 16] &&
    met (hypSkimTests (pick Sts 0) 0 .a 5 7 0 1 0 true (⟨8, 0, 0⟩)) [0] &&
    met (hypSkimTests (pick Sts 7) 0 .b 2 9 0 2048 1 true (⟨0, 1, 0⟩)) [5, 11, 12, 15] &&
    met (hypSkimTests (pick Sts 22) 1000 .a 8 9 0 1024 77777 true (⟨3, 4, 0⟩)) [4, 10] &&
    met (hypSkimTests (pick Sts 4) 0 .b 6 3 3072 2048 1 false (⟨6, 3, 0⟩)) [2, 14]) = true := by decide +kernel

/-- More clauses of SkimTests. -/
theorem test_SkimTests_witness2 : (
    met (hypSkimTests (pick Sts 24) 10000000000000 .a 0 1 0 3072 77777 false (⟨5, 2, 0⟩)) [6] &&
    met (hypSkimTests (pick Sts 15) 1000 .b 1 9 3072 0 0 false (⟨7, 1, 0⟩)) [7] &&
    met (hypSkimTests (pick Sts 28) 0 .a 6 3 0 0 77777 true (⟨8, 0, 0⟩)) [8] &&
    met (hypSkimTests (pick Sts 28) 0 .b 2 3 4000 0 0 false (⟨8, 0, 0⟩)) [9]) = true := by decide +kernel

end WSkimw

namespace WEng
def prim (n : Nat) (c : Chan) : Chan := ((((((((c.p CH_STATE_STATE n).p GUARD_STATUS_TEST_SEEN 1).p EN_STATUS_EN_PIN 15).p EN_STATUS_EN_INT 7).p DTC_CTL_EN 1).p GOV_CFG_EN 1).p GOV_CFG_N 64).p GOV_CFG_TGT 8000).wrs DTC_PERIOD 1300
def vars : List (Chan → Chan) := [id, fun c => (c.p GOV_CFG_EN 0).onDtc (fun d => { d with govD := 70, govN := [9,3,5]}), fun c => ((c.p GOV_KI_KI 60000).p GOV_LIM_MIN 256).onDtc (fun d => { d with govD := 64, govN := [9,30,5], govSat := 15}), fun c => ((c.p GOV_KI_KI 60000).p GOV_LIM_MIN 256).onDtc (fun d => { d with govD := 64, govN := [9,30,5], govSat := 3}), fun c => c.onDtc (fun d => { d with next := some 4, staged := true, stagedTq := true, relSeq := 7, relSpd := 90, cmd := 4 }), fun c => c.onDtc (fun d => { d with next := some 1, inp := some ⟨[100,-50,-50], 9000, 0⟩, govD := 70, govN := [9,3,5] }),
   fun c => (c.p GOV_LIM_MAX 500).onDtc (fun d => { d with next := some 0, inp := some ⟨[-1000,500,500], 30000, 40000⟩, govD := 70, govN := [9,3,5], govSat := 15 }), fun c => (c.p EN_STATUS_EXT_ACTIVE 1).p XC_MAP_PHk 0x1d1510,
   fun c => ((((c.p DTC_CTL_EN 0).p TRUST_SPD_W 5000).p GOV_LIM_MIN 0).p GOV_LIM_MAX 60000).onDtc (fun d => { d with govD := 70, govN := [9,3,5]}),
   fun c => (c.onCtl (fun x => { x with commit := some ⟨.tuning, 0, 5, none⟩ })).onDtc (fun d => { d with boundAt := c.now }), fun c => (c.onCtl (fun x => { x with commit := some ⟨.safety, 0, 5, some ⟨1,2,3⟩⟩ })).onDtc (fun d => { d with boundAt := 10^13 }),  fun c => (c.onCtl (fun x => { x with commit := some ⟨.tuning, 0, 5, none⟩ })).onDtc (fun d => { d with boundAt := 10^13 }),
   fun c => (((c.p XC_MAP_PHk 0x121110).p (INJ_RES_COUNT 0 0) 3).p (INJ_RES_COUNT 0 1) 3).p (INJ_RES_COUNT 0 2) 3]
def chs : List (Chan → Chan) := id :: [1,2,3,3,3,4,5].flatMap (fun n => vars.map (fun f => fun c => f (prim n c)))
def Sts : List State := chs.flatMap (fun f => [mkS {pwr := up} f f])

/-- The hypotheses of the clauses of EngineAndLanding. -/
def hypEngineAndLanding (s : State) (t : Tick) (ch : Ch) (pulses : Nat) (v : Nat) (p : Commit) (x : DtcIn) : List Bool :=
  let c := s.m.seen t ch
  let drives := decide (c.state = RUN) && c.b DTC_CTL_EN && !c.ctl.rampEnded && !c.b EN_STATUS_EXT_ACTIVE
  let f := fillPhases (c.freshPhase 0) (c.freshPhase 1) (c.freshPhase 2)
  let gov := decide (c.state = RUN) && decide (c.g GOV_CFG_N ≤ c.dtc.govD)
  let fsw := max (c.legHz 0) (max (c.legHz 1) (c.legHz 2))
  let raw := (c.g GOV_STATUS_SCALE : Int) + rdiv (4096 * (c.g GOV_KI_KI : Int) * ((fsw : Int) - (max 1 (c.g GOV_CFG_TGT) : Nat))) (65536 * max 1 (c.g GOV_CFG_TGT))
  let scale := max (c.g GOV_LIM_MIN : Int) (min (c.g GOV_LIM_MAX : Int) raw)
  let edge := decide (scale = c.g GOV_LIM_MIN) || decide (scale = c.g GOV_LIM_MAX)
  let runsGov := c.b GOV_CFG_EN && !c.dtc.six && !c.b DTC_STATUS_MAGNETISING
  let differs := (List.range 3).any (fun l => c.readsBad l (pulses.testBit l))
  [decide (c.state = OFF),
    decide (c.state ≠ OFF),
    decide (c.state ≠ OFF) && decide (drives = true) && decide (c.ctl.disarm = false) && decide (c.dtc.next = some v),
    decide (c.state ≠ OFF) && decide (c.state = ARMED) && decide (c.dtc.staged = true) && decide (c.dtc.stagedTq = true) && decide (c.ctl.disarm = false),
    decide (c.state ≠ OFF) && decide (c.estimates = false),
    decide (c.state ≠ OFF) && decide (c.estimates = true) && decide (f ≠ none),
    decide (c.state ≠ OFF) && decide (c.estimates = true) && decide (f = none) && decide (c.srcActive CUR_HELD = false),
    decide (c.state ≠ OFF) && decide (c.estimates = true) && decide (c.dtc.inp = some x),
    decide (c.state ≠ OFF) && decide (gov = false),
    decide (c.state ≠ OFF) && decide (gov = true) && decide (runsGov = false),
    decide (c.state ≠ OFF) && decide (gov = true) && decide (runsGov = true) && decide (c.g GOV_LIM_MIN ≤ c.g GOV_LIM_MAX) && decide (edge = false ∨ c.dtc.govSat < 15),
    decide (c.state ≠ OFF) && decide (gov = true) && decide (runsGov = true) && decide (c.g GOV_LIM_MIN ≤ c.g GOV_LIM_MAX) && decide (edge = true) && decide (15 ≤ c.dtc.govSat) && decide (c.srcActive GOV_SAT = false),
    decide (c.state ≠ OFF) && decide (c.b EN_STATUS_EXT_ACTIVE = false ∨ c.state ≠ RUN) && decide (differs = false),
    decide (c.state ≠ OFF) && decide (c.b EN_STATUS_EXT_ACTIVE = false ∨ c.state ≠ RUN) && decide (differs = true) && decide (c.srcActive MOD_READBACK_SRC = false),
    decide (c.state ≠ OFF) && decide (c.b EN_STATUS_EXT_ACTIVE = true) && decide (c.state = RUN),
    decide (c.state ≠ OFF) && decide (c.ctl.commit = none),
    decide (c.state ≠ OFF) && decide (c.ctl.commit = some p) && decide (c.canLand p = false),
    decide (c.state ≠ OFF) && decide (c.ctl.commit = some p) && decide (c.canLand p = true)]

/-- Each clause of EngineAndLanding has a state and operands that meet its hypotheses. -/
theorem test_EngineAndLanding_witness1 : (
    met (hypEngineAndLanding (pick Sts 32) 1000000 .a 7 1 (⟨Kind.safety, 0, 5, some ⟨1, 2, 3⟩⟩) (⟨[100, -50, -50], 9000, 0⟩)) [1, 2, 6, 7, 10, 13, 15] &&
    met (hypEngineAndLanding (pick Sts 0) 10000000000000 .b 0 0 (⟨Kind.tuning, 0, 5, none⟩) (⟨[100, -50, -50], 9000, 0⟩)) [0] &&
    met (hypEngineAndLanding (pick Sts 10) 10000000000000 .a 0 1 (⟨Kind.tuning, 0, 5, none⟩) (⟨[100, -50, -50], 9000, 0⟩)) [4, 8, 12, 16] &&
    met (hypEngineAndLanding (pick Sts 41) 1000000 .a 0 1 (⟨Kind.tuning, 0, 5, none⟩) (⟨[-1000, 500, 500], 30000, 40000⟩)) [9] &&
    met (hypEngineAndLanding (pick Sts 47) 1000000 .b 0 1 (⟨Kind.tuning, 0, 5, none⟩) (⟨[100, -50, -50], 9000, 0⟩)) [14]) = true := by decide +kernel

/-- More clauses of EngineAndLanding. -/
theorem test_EngineAndLanding_witness2 : (
    met (hypEngineAndLanding (pick Sts 42) 1000000 .a 5 4 (⟨Kind.tuning, 0, 5, none⟩) (⟨[-1000, 500, 500], 30000, 40000⟩)) [11] &&
    met (hypEngineAndLanding (pick Sts 18) 10000000000000 .a 5 4 (⟨Kind.safety, 0, 5, some ⟨1, 2, 3⟩⟩) (⟨[-1000, 500, 500], 30000, 40000⟩)) [3] &&
    met (hypEngineAndLanding (pick Sts 65) 1000000 .a 5 1 (⟨Kind.tuning, 0, 5, none⟩) (⟨[-1000, 500, 500], 30000, 40000⟩)) [5] &&
    met (hypEngineAndLanding (pick Sts 89) 10000000000000 .a 0 1 (⟨Kind.safety, 0, 5, some ⟨1, 2, 3⟩⟩) (⟨[-1000, 500, 500], 30000, 40000⟩)) [17]) = true := by decide +kernel

end WEng

namespace WChop
def prim (c : Chan) : Chan := ((((c.p CH_STATE_STATE 1).p GUARD_STATUS_TEST_SEEN 1).p EN_STATUS_EN_PIN 15).p PROT_CTL_CHOP_EN 1).p (SL_STATUS_READY 6) 1
def fs : List (Chan → Chan) := [id, fun c => { c with prot := { c.prot with test := some 0, proof := some ⟨0, 100⟩, chopAt := some 0 } }.p CHOP_STATUS_ON 1,
  fun c => { c with prot := { c.prot with proof := some ⟨0, 300⟩, chopAt := some 0, ov2Held := true, safeAt := some 0, test := some 0 } }.p (XC_MAP_DCL) 16,
  fun c => ({ c with prot := { c.prot with ov2Held := true, safeAt := some 0, chopAt := some 0 } }.p (SL_STATUS_LATCHED 6) 1).p CHOP_STATUS_ON 1,
  fun c => (srcRegs 8).src |> fun r => c.wr r (2^32-1 - 2^16*0), fun c => (c.raise CHOP_FAIL), fun c => (c.raise CHOP_FAIL).pb DCL_STATUS_CMP 2 true,
  fun c => c.pb DCL_STATUS_CMP 1 true, fun c => { c with prot := { c.prot with test := some 0, chopAt := some 0 } }.pb DCL_STATUS_CMP 1 true |>.p CHOP_STATUS_ON 1, fun c => c.p DUST_STATUS_SPD_HIGH 1]
def chs : List (Chan → Chan) := id :: fs.flatMap (fun f => sts (fun c => f (prim c)))
def Sts : List State := chs.map (fun f => mkS { pwr := up } f f)

/-- The hypotheses of the clauses of ChopperAndComparators. -/
def hypChopperAndComparators (s : State) (t : Tick) (ch : Ch) (cmp : Nat) (sc : Nat) (on : Bool) : List Bool :=
  let c := s.m.seen t ch
  let calm := fun (q : Src) => decide (c.srcActive q = false)
  let able := c.b PROT_CTL_CHOP_EN && c.b (SL_STATUS_READY 6)
  let old := c.b CHOP_STATUS_ON
  let due := c.sinceOpt (c.prot.proof.map ChopProof.at_) (us (c.g CHOP_CFG_PROVE_T))
  let fell := c.dcl.isSome && decide ((c.g CHOP_CFG_FALL_DV : Int) ≤ (c.prot.proof.map ChopProof.link).getD 0 - c.dcl.getD 0)
  let proven := decide (c.g CHOP_CFG_CON_LVL < sc)
  let may := (decide (c.state = PRIMED) || decide (c.state = HOLD)) && !c.gb DCL_STATUS_CMP 0 && able && !c.b (SL_STATUS_LATCHED 6) && !(old && c.gb DCL_STATUS_CMP 1)
  let long := us (c.g CHOP_CFG_PROVE_T + 1)
  let ended := old && c.sinceOpt c.prot.test long && c.sinceOpt c.prot.chopAt long
  let ext2 := c.prot.ov2Held && c.sinceOpt c.prot.safeAt (us (c.g DCL_EXT_T_T))
  [decide (c.state = OFF),
    decide (c.state ≠ OFF) && decide (c.skim.cur = none) && decide (3 < cmp),
    decide (c.state ≠ OFF) && decide (c.skim.cur = none) && decide (cmp = 0) && decide (on = true) && decide (c.state ≠ ARMED ∧ c.state ≠ RUN),
    decide (c.state ≠ OFF) && decide (c.skim.cur = none) && decide (cmp = 0) && decide (on = true) && decide (c.state = ARMED ∨ c.state = RUN) && decide (calm DCL_UV),
    decide (c.state ≠ OFF) && decide (c.skim.cur = none) && decide (cmp = 0) && decide (on = false),
    decide (c.state ≠ OFF) && decide (c.skim.cur = none) && decide (cmp = 1),
    decide (c.state ≠ OFF) && decide (c.skim.cur = none) && decide (cmp = 2) && decide (on = true) && decide (c.srcActive CHOP_FAIL = true) && decide (calm REGEN_ASC),
    decide (c.state ≠ OFF) && decide (c.skim.cur = none) && decide (cmp = 2) && decide (on = false ∨ c.srcActive CHOP_FAIL = false),
    decide (c.state ≠ OFF) && decide (c.skim.cur = none) && decide (cmp = 3) && decide (on = true) && decide (calm DCL_OV2) && decide (calm DCL_EXT),
    decide (c.state ≠ OFF) && decide (c.skim.cur = none) && decide (cmp = 3) && decide (on = false),
    decide (c.state ≠ OFF),
    decide (c.state ≠ OFF) && decide (due = false),
    decide (c.state ≠ OFF) && decide (due = true) && decide (proven = true),
    decide (c.state ≠ OFF) && decide (due = true) && decide (proven = false) && decide (fell = true) && decide (calm CHOP_SENSE),
    decide (c.state ≠ OFF) && decide (due = true) && decide (proven = false) && decide (fell = false) && decide (calm CHOP_FAIL),
    decide (c.state ≠ OFF) && decide (may = false),
    decide (c.state ≠ OFF) && decide (may = true),
    decide (c.state ≠ OFF) && decide (ended = false),
    decide (c.state ≠ OFF) && decide (ended = true),
    decide (c.state ≠ OFF) && decide (ext2 = false),
    decide (c.state ≠ OFF) && decide (ext2 = true) && decide (calm DCL_EXT)]

/-- Each clause of ChopperAndComparators has a state and operands that meet its hypotheses. -/
theorem test_ChopperAndComparators_witness1 : (
    met (hypChopperAndComparators (pick Sts 12) 1000000000000 .a 1 255 true) [5, 10, 12, 15, 17, 20] &&
    met (hypChopperAndComparators (pick Sts 0) 0 .a 0 100 true) [0] &&
    met (hypChopperAndComparators (pick Sts 9) 1000000000000 .a 2 0 false) [7, 14, 16, 18, 19] &&
    met (hypChopperAndComparators (pick Sts 11) 1000 .b 0 0 true) [2, 11] &&
    met (hypChopperAndComparators (pick Sts 13) 1000000000000 .a 0 0 false) [4, 13]) = true := by decide +kernel

/-- More clauses of ChopperAndComparators. -/
theorem test_ChopperAndComparators_witness2 : (
    met (hypChopperAndComparators (pick Sts 12) 1000 .a 0 100 true) [3] &&
    met (hypChopperAndComparators (pick Sts 14) 1000 .b 4 0 false) [1] &&
    met (hypChopperAndComparators (pick Sts 17) 1000 .a 3 1000 false) [9] &&
    met (hypChopperAndComparators (pick Sts 29) 1000000000000 .a 2 1000 true) [6] &&
    met (hypChopperAndComparators (pick Sts 5) 1000 .b 3 100 true) [8]) = true := by decide +kernel

end WChop

namespace WDchg
def Qs : List Dchg := [⟨false,false,true,0,none,0,false⟩, ⟨true,false,true,0,none,0,false⟩, ⟨false,true,true,0,some 0,1000,false⟩, ⟨false,false,true,0,some 0,500,false⟩, ⟨false,false,true,0,some 0,-500,true⟩]
def prim (c : Chan) : Chan := ((((c.p CH_STATE_STATE 1).p GUARD_STATUS_TEST_SEEN 1).p EN_STATUS_EN_PIN 15).p PROT_CTL_DCHG_EN 1).p (SL_STATUS_READY 6) 1
def wq (q : Dchg) (f : Chan → Chan) (c : Chan) : Chan := let d := f c; { d with prot := { d.prot with dchg := some q } }
def fs : List (Chan → Chan) := [id, fun c => c.p PROT_CTL_DCHG_EN 0, fun c => { c with prot := { c.prot with wind := some 0 } }, fun c => c.raise DCHG_FAIL, fun c => c.p CONT_STATUS_CFB 7] ++ Qs.flatMap (fun q => [wq q id, wq q (fun c => (c.p DCHG_STATUS_STATE 2).p DCHG_CFG0_EMAX 0), wq q (fun c => ((c.p DCHG_STATUS_STATE 3).p DCHG_CFG0_EMAX 500).raise DCHG_PAUSE), wq q (fun c => (c.p XC_MAP_DCL 16).p DCHG_CFG2_CHECK_DROP 0), wq q (fun c => c.p DCHG_CFG2_CHECK_DROP 200)])
def autoOn (k : Nat) (c : Chan) : Chan := c.onSl 7 (fun x => { x with power := false, cfg := RegMap.set x.cfg (chanReset PROT_CTL) PROT_CTL 48, auto := k == 1, isOn := k == 1, autoSeen := k == 1, autoE := 3 })
def chs : List (Chan → Chan) := [id, autoOn 0, autoOn 1] ++ fs.flatMap (fun f => sts (fun c => f (prim c)))
def Sts : List State := chs.map (fun f => mkS { pwr := up } f f)

/-- The hypotheses of the clauses of Discharges. -/
def hypDischarges (s : State) (t : Tick) (ch : Ch) (q : Dchg) : List Bool :=
  let c := s.m.seen t ch
  let p := c.prot
  let en := c.b PROT_CTL_DCHG_EN
  let asks := decide (c.state = PRIMED) || decide (c.state = HOLD) || decide (c.state = FAULT)
  let drop := decide ((c.g DCHG_CFG2_CHECK_DROP : Int) * q.v0 ≤ 100 * (q.v0 - c.dcl.getD 0))
  let on7 := c.b (SL_STATUS_EN 7)
  let energy := energyStep p.energy on7 (c.dcl.getD 0) c.bases.v (c.g DCHG_CFG0_RES) (c.g DCHG_CFG1_TAU)
  let x := c.sl 7
  let w := RegMap.get x.cfg (chanReset PROT_CTL) PROT_CTL
  let auto := !x.power && w.testBit 5 && w.testBit 4 && decide (setBit x.latch 5 false = 0) && !x.auto
  let wdOver := c.sinceOpt p.wind (ms (c.g WD_TIME_T))
  [decide (c.state = OFF),
    decide (c.state ≠ OFF) && decide (asks = false ∨ en = false),
    decide (c.state ≠ OFF) && decide (asks = true) && decide (en = true) && decide (p.dchg = none),
    decide (c.state ≠ OFF) && decide (asks = true) && decide (en = true) && decide (p.dchg = some q),
    decide (c.state ≠ OFF) && decide (p.dchg = none ∨ (p.dchg = some q ∧ (q.byS4 = true ∨ q.byPin = true))),
    decide (c.state ≠ OFF) && decide (p.dchg = some q) && decide (q.byS4 = false) && decide (q.byPin = false),
    decide (c.state ≠ OFF) && decide (c.srcActive DCHG_PIN_SRC = false),
    decide (c.state ≠ OFF),
    decide (c.state ≠ OFF) && decide (p.dchg = none),
    decide (c.state ≠ OFF) && decide (p.dchg = some q) && decide (q.onAt.isSome = true ∨ c.since q.waitAt (ms 100) = false),
    decide (c.state ≠ OFF) && decide (p.dchg = some q) && decide (q.onAt = none) && decide (c.since q.waitAt (ms 100) = true) && decide (c.srcActive DCHG_FAIL = false),
    decide (c.state ≠ OFF) && decide (p.dchg = some q) && decide (c.sinceOpt q.onAt (ms (c.g DCHG_CFG2_CHECK_T)) = false ∨ q.checked = true),
    decide (c.state ≠ OFF) && decide (p.dchg = some q) && decide (c.sinceOpt q.onAt (ms (c.g DCHG_CFG2_CHECK_T)) = true) && decide (q.checked = false) && decide (drop),
    decide (c.state ≠ OFF) && decide (p.dchg = some q) && decide (c.sinceOpt q.onAt (ms (c.g DCHG_CFG2_CHECK_T)) = true) && decide (q.checked = false) && decide (¬ drop) && decide (c.srcActive DCHG_FAIL = false),
    decide (c.state ≠ OFF) && decide (p.dchg = some q) && decide (c.sinceOpt q.onAt (ms (10 * c.g DCHG_CFG2_DCHG_T)) = false),
    decide (c.state ≠ OFF) && decide (p.dchg = some q) && decide (c.sinceOpt q.onAt (ms (10 * c.g DCHG_CFG2_DCHG_T)) = true) && decide (c.srcActive DCHG_FAIL = false),
    decide (c.state ≠ OFF) && decide (wdOver = false),
    decide (c.state ≠ OFF) && decide (wdOver = true) && decide (c.srcActive WD_ABORT = false),
    decide (c.state ≠ OFF) && decide (x.auto = false) && decide (p.dchg = none ∨ (p.dchg = some q ∧ q.onAt = none)),
    decide (c.state ≠ OFF) && decide (x.auto = false) && decide (p.dchg = some q) && decide (q.onAt.isSome = true) && decide (c.g DCHG_STATUS_STATE = 2) && decide ((c.g DCHG_CFG0_EMAX : Rat) ≤ energy) && decide (c.srcActive DCHG_PAUSE = false) && decide (c.sevOf DCHG_PAUSE < 3),
    decide (c.state ≠ OFF) && decide (x.auto = false) && decide (p.dchg = some q) && decide (q.onAt.isSome = true) && decide (c.g DCHG_STATUS_STATE = 3) && decide (energy ≤ (c.g DCHG_CFG0_EMAX : Rat) * 3 / 4),
    decide (c.state = OFF) && decide (x.auto = false),
    decide (c.state = OFF) && decide (x.auto = true),
    decide (auto = false),
    decide (auto = true)]

/-- Each clause of Discharges has a state and operands that meet its hypotheses. -/
theorem test_Discharges_witness1 : (
    met (hypDischarges (pick Sts 4) 1000000000 .a (⟨false, false, true, 0, none, 0, false⟩)) [1, 4, 6, 7, 8, 16, 18, 23] &&
    met (hypDischarges (pick Sts 1) 1000000000 .b (⟨false, false, true, 0, none, 0, false⟩)) [0, 21, 24] &&
    met (hypDischarges (pick Sts 113) 1000000000 .a (⟨false, false, true, 0, some 0, 500, false⟩)) [3, 5, 9, 11, 14, 20] &&
    met (hypDischarges (pick Sts 94) 1000000000000 .a (⟨false, true, true, 0, some 0, 1000, false⟩)) [12, 15] &&
    met (hypDischarges (pick Sts 17) 1000000000000 .b (⟨false, true, true, 0, some 0, 1000, false⟩)) [2, 17]) = true := by decide +kernel

/-- More clauses of Discharges. -/
theorem test_Discharges_witness2 : (
    met (hypDischarges (pick Sts 108) 1000000000 .a (⟨false, false, true, 0, some 0, 500, false⟩)) [19] &&
    met (hypDischarges (pick Sts 29) 1000000000000 .a (⟨false, false, true, 0, none, 0, false⟩)) [10] &&
    met (hypDischarges (pick Sts 98) 1000000000000 .a (⟨false, true, true, 0, some 0, 1000, false⟩)) [13] &&
    met (hypDischarges (pick Sts 2) 1000000000 .b (⟨false, false, true, 0, none, 0, false⟩)) [22]) = true := by decide +kernel

end WDchg

namespace WMsiou
def prim (c : Chan) : Chan := ((((c.p CH_STATE_STATE 1).p GUARD_STATUS_TEST_SEEN 1).p EN_STATUS_EN_PIN 15).p PROT_CTL_DCHG_EN 1).p (SL_STATUS_READY 6) 1
def fs : List (Chan → Chan) := [id, fun c => (c.raise CORE_PAIR).p CORE_STATUS_HELD 1, fun c => { c with dust := { c.dust with hardEnd := some 5 } }.p DUST_STATUS_REEVAL 1, fun c => { c with dust := { c.dust with coreEnd := some (10^13) } }.p DUST_STATUS_REEVAL 1,
  fun c => (c.p CONT_STATUS_CFB 1).p CONT_STATUS_DISCREP 1, fun c => (c.p CONT_STATUS_CMD 1).p CONT_STATUS_DISCREP 1, fun c => (c.p MSIO_CTL_AUX_MODE 2).p CONT_STATUS_CMD 4, fun c => ((c.p MSIO_CTL_AUX_MODE 2).p CONT_STATUS_S4_OPEN 1).p MSIO_CTL_PRE_EN 1,
  fun c => { c with msio := { c.msio with weldBy := 1 } }.raise CONT_WELD, fun c => { c with msio := { c.msio with discBy := 1 } }.p CONT_STATUS_CMD 1 |>.p CONT_STATUS_DISCREP 1 |>.raise CFB_DISCREP,
  fun c => (c.p GUARD_CFG_EN 1), fun c => (c.p GUARD_CFG_EN 1).p GUARD_STATUS_OPEN_SEEN 1, fun c => ((c.p GUARD_CFG_EN 1).p GUARD_STATUS_OPEN_SEEN 1).raise GUARD_DISCREP, fun c => ((c.p GUARD_CFG_EN 1)).raise GUARD_DISCREP, fun c => { (c.p GUARD_CFG_EN 1) with msio := { c.msio with equivAt := some 0 } },
  fun c => (c.p GUARD_CFG_EN 1).raise GUARD_OPEN, fun c => (c.p GUARD_CFG_EN 1).raise GUARD_TEST_DUE, fun c => { c with msio := { c.msio with press := some (0, true) } }, fun c => { c with msio := { c.msio with press := some (0, false) } }, fun c => ({ c with msio := { c.msio with press := some (0, false) } }.p ACK_STATUS_JAMMED 1).raise ACK_JAMMED_SRC,
  fun c => { c with ctl := { c.ctl with cond1 := some 3 } }, fun c => { c with msio := { c.msio with preAt := some 0 }, ctl := { c.ctl with arm := some { start := 5, fromHold := false, step := .charging, stepAt := 0, closed := 2 } } },
  fun c => { c with msio := { c.msio with weldBy := 1 } }, fun c => { c with msio := { c.msio with weldBy := 3 } }, fun c => c.p DUST_STATUS_SPD_HIGH 1, fun c => c.p LEG_HEALTH_FS_H 5]
def chs : List (Chan → Chan) := id :: fs.flatMap (fun f => sts (fun c => f (prim c)))
def Sts : List State := chs.map (fun f => mkS { pwr := up } f f)

/-- The hypotheses of the clauses of SourcesAtTheDustSheet. -/
def hypSourcesAtTheDustSheet (s : State) (t : Tick) (ch : Ch) (blk : Nat) (bit : Nat) : List Bool :=
  let c := s.m.seen t ch
  let q : Src := ⟨blk, bit⟩
  let pulse := eventSources.contains q
  let holds := (c.b CORE_STATUS_HELD && decide (blk = 11 ∧ bit = 0)) || decide (blk = 11 ∧ bit = 2)
  let open_ := decide (c.g CONT_STATUS_CFB &&& c.fittedMask = 0)
  let done := fun (e : Option Tick) => decide (∀ u ∈ e.toList, u ≤ c.now)
  let over_ := c.b DUST_STATUS_REEVAL && done c.dust.hardEnd && done c.dust.coreEnd
  [decide (c.state = OFF),
    decide (q.valid = false),
    decide (c.state ≠ OFF) && decide (q.valid = true) && decide (c.srcActive q = true),
    decide (c.state ≠ OFF) && decide (q.valid = true) && decide (c.srcActive q = false),
    decide (c.state ≠ OFF) && decide (q.valid = true) && decide (c.srcActive q = false) && decide (pulse = false) && decide ((c.state ≠ RUN ∧ c.state ≠ ARMED) ∨ c.sevOf q < 3) && decide (q ≠ DCL_UV) && decide (q ≠ EN_LOW) && decide (q ≠ DCHG_FAIL) && decide (q ≠ CFB_DISCREP) && decide (q ≠ NO_SAFE),
    decide (c.state ≠ OFF) && decide (q.valid = true) && decide (holds = true),
    decide (c.state ≠ OFF) && decide (q.valid = true) && decide (holds = false),
    decide (c.state ≠ OFF) && decide (over_ = true),
    decide (c.state ≠ OFF) && decide (over_ = false),
    decide (c.state ≠ OFF) && decide (¬ (c.state = PRIMED ∧ open_ = true)),
    decide (c.state ≠ OFF) && decide (c.state = PRIMED) && decide (open_ = true)]

/-- Each clause of SourcesAtTheDustSheet has a state and operands that meet its hypotheses. -/
theorem test_SourcesAtTheDustSheet_witness : (
    met (hypSourcesAtTheDustSheet (pick Sts 0) 1000 .a 10 10) [0, 1] &&
    met (hypSourcesAtTheDustSheet (pick Sts 39) 1000 .b 2 6) [3, 4, 6, 8, 9] &&
    met (hypSourcesAtTheDustSheet (pick Sts 8) 1000000000 .b 11 0) [2, 5, 7] &&
    met (hypSourcesAtTheDustSheet (pick Sts 41) 1000000000 .a 9 9) [10]) = true := by decide +kernel

/-- The hypotheses of the clauses of ContactorsGuardAndAcknowledge (Contactors). -/
def hypContactors (s : State) (t : Tick) (ch : Ch) (n : Nat) (high : Bool) : List Bool :=
  let c := s.m.seen t ch
  let m := c.msio
  let k := n - 1
  let in_ := decide (1 ≤ n) && decide (n ≤ 3)
  let quiet := decide (c.ctl.arm = none ∧ c.prot.dchg = none ∧ c.prot.wind = none)
  let closed := c.fitted n && high == c.gb MSIO_CTL_CFB_POL k
  let chg := c.gb CONT_STATUS_CFB k != closed
  let deb := fun (l : List Tick) => c.since (nth l k) (ms (c.g CONT_DEB_DEB))
  let weld := m.weldBy.testBit k && !c.gb CONT_STATUS_CFB k && deb m.fbAt
  let disc := c.gb CONT_STATUS_DISCREP k && deb m.cmpAt
  let timed := decide (c.armAt = some .charging) && c.preOver
  let allOpen := decide (c.g CONT_STATUS_CFB &&& c.fittedMask = 0)
  [decide (in_ = false),
    decide (c.state = OFF),
    decide (in_ = true) && decide (c.state = OFF),
    decide (in_ = true) && decide (c.state ≠ OFF) && decide (quiet) && decide (chg = false),
    decide (in_ = true) && decide (c.state ≠ OFF) && decide (quiet) && decide (chg = true),
    decide (in_ = true) && decide (c.state ≠ OFF) && decide (quiet) && decide (disc = false) && decide (weld = false),
    decide (in_ = true) && decide (c.state ≠ OFF) && decide (quiet) && decide (disc = false) && decide (weld = true),
    decide (in_ = true) && decide (c.state ≠ OFF) && decide (quiet) && decide (disc = true) && decide (weld = false) && decide (c.gb CONT_STATUS_CMD k = true) && decide (c.srcActive CFB_DISCREP = false),
    decide (in_ = true) && decide (c.state ≠ OFF) && decide (quiet) && decide (disc = true) && decide (c.gb CONT_STATUS_CMD k = false) && decide (c.srcActive CONT_WELD = false),
    decide (c.state ≠ OFF) && decide (timed = false),
    decide (c.state ≠ OFF) && decide (timed = true) && decide (c.srcActive PRECHARGE_FAIL = false),
    decide (c.state ≠ OFF) && decide (c.state = PRIMED) && decide (allOpen = true),
    decide (c.state ≠ OFF) && decide (¬ (c.state = PRIMED ∧ allOpen = true)),
    decide (c.state ≠ OFF) && decide (c.g MSIO_CTL_AUX_MODE = 2) && decide (c.b CONT_STATUS_S4_OPEN = false),
    decide (c.state ≠ OFF) && decide (c.g MSIO_CTL_AUX_MODE ≠ 2 ∨ c.b CONT_STATUS_S4_OPEN = true),
    decide (c.state ≠ OFF) && decide (c.g MSIO_CTL_AUX_MODE = 2),
    decide (c.state ≠ OFF) && decide (c.g MSIO_CTL_AUX_MODE ≠ 2)]

/-- Each clause of ContactorsGuardAndAcknowledge (Contactors) has a state and operands that meet its hypotheses. -/
theorem test_ContactorsGuardAndAcknowledge_witness_Contactors1 : (
    met (hypContactors (pick Sts 0) 1000000000 .a 4 true) [0, 1] &&
    met (hypContactors (pick Sts 34) 1000000000 .a 1 true) [3, 5, 9, 12, 13, 15] &&
    met (hypContactors (pick Sts 16) 1000 .a 2 false) [4, 11, 14, 16] &&
    met (hypContactors (pick Sts 110) 1000000000000 .a 4 true) [10] &&
    met (hypContactors (pick Sts 23) 1000000000000 .b 1 false) [8]) = true := by decide +kernel

/-- More clauses of ContactorsGuardAndAcknowledge (Contactors). -/
theorem test_ContactorsGuardAndAcknowledge_witness_Contactors2 : (
    met (hypContactors (pick Sts 0) 1000 .a 1 true) [2] &&
    met (hypContactors (pick Sts 118) 1000000000000 .a 2 true) [6] &&
    met (hypContactors (pick Sts 26) 1000000000000 .b 1 true) [7]) = true := by decide +kernel

/-- The hypotheses of the clauses of ContactorsGuardAndAcknowledge (GuardAndAcknowledge). -/
def hypGuardAndAcknowledge (s : State) (t : Tick) (ch : Ch) (g1 : Bool) (g2 : Bool) (ok : Bool) (u : Tick) : List Bool :=
  let c := s.m.seen t ch
  let m := c.msio
  let en := c.b GUARD_CFG_EN
  let mean := if g1 && !g2 then 0 else if !g1 && g2 then 1 else 2
  let was := if c.b GUARD_STATUS_G1 && !c.b GUARD_STATUS_G2 then 0 else if !c.b GUARD_STATUS_G1 && c.b GUARD_STATUS_G2 then 1 else 2
  let late := en && decide (was = 2) && c.sinceOpt m.equivAt (ms (c.g GUARD_CFG_DISC_T))
  [decide (c.state = OFF),
    decide (c.state ≠ OFF) && decide (en = false),
    decide (c.state ≠ OFF) && decide (en = true) && decide (mean = 0) && decide (c.srcActive GUARD_DISCREP = false),
    decide (c.state ≠ OFF) && decide (en = true) && decide (mean = 0) && decide (c.srcActive GUARD_DISCREP = true),
    decide (c.state ≠ OFF) && decide (en = true) && decide (mean ≠ 0) && decide (c.srcActive GUARD_TEST_DUE = true ∨ c.srcActive GUARD_OPEN = true),
    decide (c.state ≠ OFF) && decide (en = true) && decide (mean ≠ 0) && decide (c.srcActive GUARD_TEST_DUE = false) && decide (c.srcActive GUARD_OPEN = false),
    decide (c.state ≠ OFF) && decide (late = false),
    decide (c.state ≠ OFF) && decide (late = true) && decide (c.srcActive GUARD_DISCREP = false),
    decide (c.state ≠ OFF) && decide (m.press.isSome = true),
    decide (c.state ≠ OFF) && decide (m.press = none),
    decide (c.state ≠ OFF) && decide (m.press = some (u, ok)),
    decide (c.state ≠ OFF) && decide (m.press = some (u, ok)) && decide (c.since u (ms 5000) = false),
    decide (c.state ≠ OFF) && decide (m.press = some (u, ok)) && decide (c.since u (ms 5000) = true) && decide (c.srcActive ACK_JAMMED_SRC = false)]

/-- Each clause of ContactorsGuardAndAcknowledge (GuardAndAcknowledge) has a state and operands that meet its hypotheses. -/
theorem test_ContactorsGuardAndAcknowledge_witness_GuardAndAcknowledge1 : (
    met (hypGuardAndAcknowledge (pick Sts 34) 1000000000 .a false true true 0) [1, 6, 9] &&
    met (hypGuardAndAcknowledge (pick Sts 0) 0 .b false true true 0) [0] &&
    met (hypGuardAndAcknowledge (pick Sts 98) 1000 .a true false false 0) [8, 10, 11] &&
    met (hypGuardAndAcknowledge (pick Sts 74) 1000000000000 .a true true false 0) [5, 7] &&
    met (hypGuardAndAcknowledge (pick Sts 81) 1000 .b false false true 0) [4]) = true := by decide +kernel

/-- More clauses of ContactorsGuardAndAcknowledge (GuardAndAcknowledge). -/
theorem test_ContactorsGuardAndAcknowledge_witness_GuardAndAcknowledge2 : (
    met (hypGuardAndAcknowledge (pick Sts 66) 1000000000 .a true false true 0) [3] &&
    met (hypGuardAndAcknowledge (pick Sts 74) 1000000000000 .a true false true 0) [2] &&
    met (hypGuardAndAcknowledge (pick Sts 95) 1000000000000 .a false false false 0) [12]) = true := by decide +kernel

end WMsiou

namespace WHrx
def Bs : List Bundle := [⟨0, 5, 0, 0, 1, 0, 0, 99, 1234, none, [(0,[1,1,0,0])]⟩, ⟨0, 5, 0, 0, 1, 0, 0, 99, 1234, some 2, [(0,[1,1,0,0]), (2,[0])]⟩]
def prim (c : Chan) : Chan := c.p CH_STATE_STATE 1
def lk (d : Dev) : Dev := ((({ d with otp := { d.otp with mac := 0x020000000001 } }.wr IP4_ADDR 77).p ETH_STATUS_LINK_UP 1).onFlow 3 (fun f => { f with opened := true, queue := 1, cntA := 9, cntB := 2, first := false, init := 3 }))
def ds : List Dev := [{}, { pwr := up }, lk { pwr := up }, lk { pwr := up }, (lk { pwr := up }).p HQ_CTL_MODE 1, (lk { pwr := up }).p HQ_CTL_AUTH_EN 1, (lk { pwr := up }).onFlow 0 (fun f => { f with first := false, seq := 0 }), (lk { pwr := up }).onFlow 0 (fun f => { f with first := false, seq := 0, cntA := 0 }), (lk { pwr := up }).onFlow 0 (fun f => { f with first := false, seq := 0, bundle := Bs[0]? }), (lk { pwr := up }).onFlow 0 (fun f => { f with first := false, seq := 1, bundle := Bs[1]? }), (lk { pwr := up }).onFlow 0 (fun f => { f with first := false, seq := 1, bundle := Bs[0]? }), ((lk { pwr := up }).p HQ_CTL_MODE 1).onFlow 0 (fun f => { f with first := false, seq := 0 }), (lk { pwr := up }).onFlow 0 (fun f => { f with first := false, seq := 1 })]
def Sts : List State := ds.map (fun f => mkS f prim prim)

/-- The hypotheses of the clauses of FramesFromTheHost. -/
def hypFramesFromTheHost (s : State) (t : Tick) (fr : RxFrame) (b : Bundle) (f : Nat) : List Bool :=
  let d := s.m.seenDev t
  let z := zadomOf fr.udp
  let live := d.alive && d.b ETH_STATUS_LINK_UP
  let p1 := live && fr.fcs
  let p2 := p1 && d.destOk fr
  let p3 := p2 && zadomOk fr.udp fr.v6
  let p4 := p3 && decide (z.dev = d.devId)
  let p5 := p4 && d.authOk fr.udp z
  let p7 := p5 && (decide (z.kind = 7) || decide (z.epoch = d.g HQ_SESSION_EPOCH))
  let x := d.flow z.flow
  let data := decide (z.kind ≠ 5 ∧ z.kind ≠ 7)
  let mine := x.opened && !x.out && decide (z.queue = x.queue) && (decide (z.kind = 0) || decide (z.kind = 6))
  let gap := (z.seq + 2 ^ 32 - x.seq % 2 ^ 32) % 2 ^ 32
  let old := decide (gap = 0) || decide (2 ^ 31 < gap)
  let credit := newer x.cntA x.cntB
  let fresh := x.first || (decide (gap = 1) || (d.b HQ_CTL_MODE && !old && decide (gap ≠ 2 ^ 31)))
  let ok := p7 && data && mine && fresh && credit
  let i := z.bundle % 16
  let last := z.flags.testBit 6
  let cmd := ok && decide (z.kind = 0) && decide (z.queue < 8) && decide (x.pairEn = false ∨ z.credit = 0)
  let more := { b with frags := tabPut b.frags i z.payload, arrival := d.time, lastIdx := if last then some i else b.lastIdx }
  let belongs := decide (x.bundle = some b ∧ b.bundle = z.bundle / 16 ∧ b.tag = z.tag ∧ b.epoch = z.epoch)
  [decide (live = false),
    decide (live = true) && decide (fr.fcs = false) && decide (d.srcActive FRAME_CRC = false),
    decide (p1 = true) && decide (p2 = false),
    decide (p2 = true) && decide (p3 = false) && decide (d.srcActive FRAME_CRC = false),
    decide (p3 = true) && decide (p4 = false),
    decide (p4 = true) && decide (p5 = false) && decide (d.srcActive AUTH_FAIL = false),
    decide (p5 = true) && decide (p7 = false),
    decide (p7 = true) && decide (data = true) && decide (mine = false),
    decide (p7 = true) && decide (data = true) && decide (mine = true) && decide (x.first = false) && decide (old = true),
    decide (p7 = true) && decide (data = true) && decide (mine = true) && decide (fresh = false) && decide (old = false) && decide (d.b HQ_CTL_MODE = false ∨ gap ≠ 2 ^ 31),
    decide (p7 = true) && decide (data = true) && decide (mine = true) && decide (fresh = true) && decide (credit = false),
    decide (cmd = true) && decide (i = 0) && decide (last = true) && decide (x.bundle = none) && decide (d.hq.busy.contains z.tag = false),
    decide (cmd = true) && decide (i = 0) && decide (last = false) && decide (x.bundle = none),
    decide (cmd = true) && decide (i ≠ 0) && decide (x.bundle = none),
    decide (cmd = true) && decide (i ≠ 0) && decide (belongs) && decide (i < x.init) && decide (z.seq = (b.seq0 + i) % 2 ^ 32) && decide (more.complete = false),
    decide (cmd = true) && decide (i ≠ 0) && decide (belongs) && decide (i < x.init) && decide (z.seq = (b.seq0 + i) % 2 ^ 32) && decide (more.complete = true) && decide (d.hq.busy.contains z.tag = false),
    decide (ok = true) && decide (z.kind = 6) && decide (x.pairEn = false) && decide (d.up = false ∨ d.colmo.staging = none),
    decide (p7 = true) && decide (z.kind = 5) && decide (be z.payload 0 2 = 1) && decide (nth z.payload 5 = 0) && decide ((d.flow (nth z.payload 4)).opened = true) && decide ((d.flow (nth z.payload 4)).out = true),
    decide (p7 = true) && decide (z.kind = 7),
    decide ((d.flow f).bundle = none ∨ ((d.flow f).bundle = some b ∧ d.since b.at_ (ms (d.g HQ_TIMERS_BUNDLE_T)) = false)),
    decide ((d.flow f).bundle = some b) && decide (d.since b.at_ (ms (d.g HQ_TIMERS_BUNDLE_T)) = true)]

/-- Each clause of FramesFromTheHost has a state and operands that meet its hypotheses. -/
theorem test_FramesFromTheHost_witness1 : (
    met (hypFramesFromTheHost (pick Sts 12) 1000000000 (⟨true, 2199023255553, none, false, 77, 47520, 99, 1234, [22, 64, 63, 0, 3, 1, 5, 0, 0, 0, 0, 1, 0, 0, 0, 0, 0, 0, 0, 0, 0, 4, 0, 0, 0, 0, 0, 0, 0, 0, 0, 0, 1, 1, 0, 0, 20, 64, 245, 119]⟩) (⟨0, 5, 0, 0, 1, 0, 0, 99, 1234, some 2, [(0, [1, 1, 0, 0]), (2, [0])]⟩) 0) [16, 19] &&
    met (hypFramesFromTheHost (pick Sts 9) 1000000000000 (⟨true, 2199023255553, none, false, 77, 47520, 99, 1234, [23, 64, 63, 0, 0, 0, 5, 0, 0, 0, 0, 1, 0, 0, 0, 0, 0, 0, 0, 0, 0, 4, 0, 0, 0, 0, 0, 0, 0, 0, 0, 0, 1, 0, 1, 0, 175, 35, 85, 18]⟩) (⟨0, 5, 0, 0, 1, 0, 0, 99, 1234, some 2, [(0, [1, 1, 0, 0]), (2, [0])]⟩) 0) [18, 20] &&
    met (hypFramesFromTheHost (pick Sts 2) 0 (⟨true, 2199023255553, none, false, 77, 47520, 99, 1234, [16, 64, 63, 0, 9, 0, 5, 0, 0, 0, 0, 1, 0, 0, 0, 0, 0, 0, 0, 0, 0, 4, 0, 0, 0, 0, 0, 0, 0, 0, 0, 0, 1, 1, 0, 0, 87, 219, 93, 77]⟩) (⟨0, 5, 0, 0, 1, 0, 0, 99, 1234, some 2, [(0, [1, 1, 0, 0]), (2, [0])]⟩) 0) [7] &&
    met (hypFramesFromTheHost (pick Sts 5) 0 (⟨true, 2199023255553, none, false, 77, 47520, 99, 1234, [16, 0, 63, 0, 0, 0, 5, 0, 0, 0, 0, 1, 0, 0, 0, 0, 0, 0, 0, 0, 0, 4, 0, 0, 0, 0, 0, 0, 0, 0, 0, 0, 1, 1, 0, 0, 220, 97, 66, 103]⟩) (⟨0, 5, 0, 0, 1, 0, 0, 99, 1234, some 2, [(0, [1, 1, 0, 0]), (2, [0])]⟩) 0) [5] &&
    met (hypFramesFromTheHost (pick Sts 10) 0 (⟨true, 2199023255553, none, false, 77, 47520, 99, 1234, [21, 64, 63, 0, 0, 0, 5, 0, 0, 0, 0, 1, 0, 0, 0, 0, 0, 0, 0, 0, 0, 16, 0, 0, 0, 0, 0, 0, 0, 0, 0, 0, 0, 1, 0, 0, 1, 0, 0, 0, 0, 0, 0, 20, 0, 0, 0, 3, 242, 52, 220, 104]⟩) (⟨0, 5, 0, 0, 1, 0, 0, 99, 1234, none, [(0, [1, 1, 0, 0])]⟩) 3) [17]) = true := by decide +kernel

/-- More clauses of FramesFromTheHost. -/
theorem test_FramesFromTheHost_witness2 : (
    met (hypFramesFromTheHost (pick Sts 3) 1000 (⟨true, 2199023255553, none, false, 77, 47520, 99, 1234, [16, 0, 63, 0, 0, 0, 5, 0, 0, 0, 0, 2, 0, 0, 0, 0, 0, 0, 0, 0, 0, 4, 0, 1, 0, 0, 0, 0, 0, 0, 0, 0, 1, 1, 0, 0, 158, 238, 38, 165]⟩) (⟨0, 5, 0, 0, 1, 0, 0, 99, 1234, none, [(0, [1, 1, 0, 0])]⟩) 0) [13] &&
    met (hypFramesFromTheHost (pick Sts 2) 0 (⟨true, 2199023255553, none, false, 77, 47520, 99, 1234, [16, 64, 63, 3, 0, 0, 5, 0, 0, 0, 0, 1, 0, 0, 0, 0, 0, 0, 0, 0, 0, 4, 0, 0, 0, 0, 0, 0, 0, 0, 0, 0, 1, 1, 0, 0, 108, 236, 0, 94]⟩) (⟨0, 5, 0, 0, 1, 0, 0, 99, 1234, none, [(0, [1, 1, 0, 0])]⟩) 1) [6] &&
    met (hypFramesFromTheHost (pick Sts 4) 1000000000 (⟨true, 2199023255553, none, false, 77, 47520, 99, 1234, [16, 64, 63, 0, 0, 0, 5, 0, 0, 0, 0, 1, 0, 0, 0, 0, 0, 0, 0, 0, 0, 4, 0, 0, 0, 0, 0, 0, 0, 0, 0, 0, 1, 1, 0, 0, 130, 167, 125, 47]⟩) (⟨0, 5, 0, 0, 1, 0, 0, 99, 1234, some 2, [(0, [1, 1, 0, 0]), (2, [0])]⟩) 3) [11] &&
    met (hypFramesFromTheHost (pick Sts 7) 1000 (⟨true, 2199023255553, none, false, 77, 47520, 99, 1234, [16, 0, 63, 0, 0, 0, 5, 0, 0, 0, 0, 2, 0, 0, 0, 0, 0, 0, 0, 0, 0, 4, 0, 1, 0, 0, 0, 0, 0, 0, 0, 0, 1, 1, 0, 0, 158, 238, 38, 165]⟩) (⟨0, 5, 0, 0, 1, 0, 0, 99, 1234, none, [(0, [1, 1, 0, 0])]⟩) 1) [9] &&
    met (hypFramesFromTheHost (pick Sts 12) 1000000000 (⟨true, 2199023255553, none, false, 77, 47520, 99, 1234, [16, 64, 63, 0, 0, 0, 5, 0, 0, 0, 0, 0, 0, 0, 0, 0, 0, 0, 0, 0, 0, 4, 0, 0, 0, 0, 0, 0, 0, 0, 0, 0, 1, 1, 0, 0, 172, 147, 182, 178]⟩) (⟨0, 5, 0, 0, 1, 0, 0, 99, 1234, some 2, [(0, [1, 1, 0, 0]), (2, [0])]⟩) 0) [8]) = true := by decide +kernel

/-- More clauses of FramesFromTheHost. -/
theorem test_FramesFromTheHost_witness3 : (
    met (hypFramesFromTheHost (pick Sts 0) 1000 (⟨true, 2199023255553, none, false, 77, 47520, 99, 1234, [16, 64, 63, 0, 0, 0, 5, 0, 0, 0, 0, 1, 0, 0, 0, 0, 0, 0, 0, 0, 0, 4, 0, 0, 0, 0, 0, 0, 0, 0, 0, 0, 1, 1, 0, 0, 130, 167, 125, 47]⟩) (⟨0, 5, 0, 0, 1, 0, 0, 99, 1234, some 2, [(0, [1, 1, 0, 0]), (2, [0])]⟩) 3) [0] &&
    met (hypFramesFromTheHost (pick Sts 10) 1000000000 (⟨true, 2199023255553, none, false, 77, 47520, 99, 1234, [16, 0, 63, 0, 0, 0, 5, 0, 0, 0, 0, 2, 0, 0, 0, 0, 0, 0, 0, 0, 0, 4, 0, 1, 0, 0, 0, 0, 0, 0, 0, 0, 1, 1, 0, 0, 158, 238, 38, 165]⟩) (⟨0, 5, 0, 0, 1, 0, 0, 99, 1234, none, [(0, [1, 1, 0, 0])]⟩) 0) [14] &&
    met (hypFramesFromTheHost (pick Sts 6) 1000000000000 (⟨true, 2199023255553, none, false, 77, 47520, 99, 1234, [16, 0, 63, 0, 0, 0, 5, 0, 0, 0, 0, 1, 0, 0, 0, 0, 0, 0, 0, 0, 0, 4, 0, 0, 0, 0, 0, 0, 0, 0, 0, 0, 1, 1, 0, 0, 220, 97, 66, 103]⟩) (⟨0, 5, 0, 0, 1, 0, 0, 99, 1234, some 2, [(0, [1, 1, 0, 0]), (2, [0])]⟩) 0) [12] &&
    met (hypFramesFromTheHost (pick Sts 2) 0 (⟨true, 2, none, false, 77, 47520, 99, 1234, [16, 64, 63, 0, 0, 0, 5, 0, 0, 0, 0, 1, 0, 0, 0, 0, 0, 0, 0, 0, 0, 4, 0, 0, 0, 0, 0, 0, 0, 0, 0, 0, 1, 1, 0, 0, 130, 167, 125, 47]⟩) (⟨0, 5, 0, 0, 1, 0, 0, 99, 1234, some 2, [(0, [1, 1, 0, 0]), (2, [0])]⟩) 1) [2] &&
    met (hypFramesFromTheHost (pick Sts 2) 1000 (⟨true, 2199023255553, none, false, 77, 47520, 99, 1234, [16, 2, 3]⟩) (⟨0, 5, 0, 0, 1, 0, 0, 99, 1234, some 2, [(0, [1, 1, 0, 0]), (2, [0])]⟩) 3) [3]) = true := by decide +kernel

/-- More clauses of FramesFromTheHost. -/
theorem test_FramesFromTheHost_witness4 : (
    met (hypFramesFromTheHost (pick Sts 8) 1000000000 (⟨true, 2199023255553, none, false, 77, 47520, 99, 1234, [16, 64, 5, 0, 0, 0, 5, 0, 0, 0, 0, 1, 0, 0, 0, 0, 0, 0, 0, 0, 0, 4, 0, 0, 0, 0, 0, 0, 0, 0, 0, 0, 1, 1, 0, 0, 152, 100, 223, 174]⟩) (⟨0, 5, 0, 0, 1, 0, 0, 99, 1234, none, [(0, [1, 1, 0, 0])]⟩) 1) [4] &&
    met (hypFramesFromTheHost (pick Sts 7) 1000 (⟨true, 2199023255553, none, false, 77, 47520, 99, 1234, [16, 0, 63, 0, 0, 0, 5, 0, 0, 0, 0, 1, 0, 0, 0, 0, 0, 0, 0, 0, 0, 4, 0, 0, 0, 0, 0, 0, 0, 0, 0, 0, 1, 1, 0, 0, 220, 97, 66, 103]⟩) (⟨0, 5, 0, 0, 1, 0, 0, 99, 1234, none, [(0, [1, 1, 0, 0])]⟩) 0) [10] &&
    met (hypFramesFromTheHost (pick Sts 10) 1000000000 (⟨true, 2199023255553, none, false, 77, 47520, 99, 1234, [16, 64, 63, 0, 0, 0, 5, 0, 0, 0, 0, 2, 0, 0, 0, 0, 0, 0, 0, 0, 0, 4, 0, 1, 0, 0, 0, 0, 0, 0, 0, 0, 1, 1, 0, 0, 192, 40, 25, 237]⟩) (⟨0, 5, 0, 0, 1, 0, 0, 99, 1234, none, [(0, [1, 1, 0, 0])]⟩) 0) [15] &&
    met (hypFramesFromTheHost (pick Sts 5) 1000000000000 (⟨false, 2199023255553, none, false, 77, 47520, 99, 1234, [16, 64, 63, 0, 0, 0, 5, 0, 0, 0, 0, 1, 0, 0, 0, 0, 0, 0, 0, 0, 0, 4, 0, 0, 0, 0, 0, 0, 0, 0, 0, 0, 1, 1, 0, 0, 130, 167, 125, 47]⟩) (⟨0, 5, 0, 0, 1, 0, 0, 99, 1234, some 2, [(0, [1, 1, 0, 0]), (2, [0])]⟩) 3) [1]) = true := by decide +kernel

end WHrx

namespace WHlinku
def As : List Audit := [⟨true, false, 0, 0⟩, ⟨false, false, 0, 0⟩, ⟨true, true, 2, 0⟩, ⟨true, true, 3, 0⟩, ⟨false, true, 0, 0⟩]
def prim (c : Chan) : Chan := c.p CH_STATE_STATE 1
def bd : Bundle := ⟨0, 5, 0, 0, 1, 0, 0, 99, 1234, none, [(0,[1,1,0,0])]⟩
def lk (d : Dev) : Dev := ((({ d with otp := { d.otp with mac := 0x020000000001 } }.wr IP4_ADDR 77).p ETH_STATUS_LINK_UP 1).onFlow 1 (fun f => { f with opened := true, queue := 8, cntA := 9, cntB := 2, first := false, init := 9, returns := 4, copies := [(0, of1)] }))
def d0s : List Dev := [lk { pwr := up }, lk { pwr := up }, (lk { pwr := up }).p HQ_CTL_MODE 1, (lk { pwr := up }).onFlow 0 (fun f => { f with bundle := some bd, peerAt := some 0, peer := some 7 })]
def ls : List Link := [({} : Link), { epochWait := true }, { epochWait := true, raiseDue := true }, { raiseDue := true }, { raiseDue := true, raiseAt := some (10^10) }, { hello := true }, { hello := true, helloAt := some 0, seen := true }] ++ As.map (fun a => { audit := some a }) ++ As.map (fun a => { audit := some a, raiseDue := true })
def ds : List Dev := [({} : Dev), { pwr := up }, { pwr := { up with xtalOk := false, pllOnAon := true } }] ++ ls.map (fun l => { pwr := up, hq := { link := l } }) ++ [({ pwr := up, hq := { link := { seen := true } } } : Dev).p ETH_CTL_RATE 1, ({ pwr := up, hq := { link := { seen := true } } } : Dev).p HQ_CTL_MODE 1] ++ d0s.flatMap (fun d => ls.map (fun l => d.onLink (fun _ => l)))
def Sts : List State := ds.map (fun f => mkS f prim prim)

/-- The hypotheses of the clauses of AuditsEpochsAndTheLink (CreditAudits). -/
def hypCreditAudits (s : State) (t : Tick) (fr : RxFrame) (a : Audit) (host : Bool) : List Bool :=
  let d := s.m.seenDev t
  let z := zadomOf fr.udp
  let l := d.hq.link
  let mode := d.b HQ_CTL_MODE
  let entries := d.openFlows.map d.entryOf
  let small := decide (entries.length ≤ 117)
  let okRx := d.alive && d.b ETH_STATUS_LINK_UP && fr.fcs && d.destOk fr && zadomOk fr.udp fr.v6 && decide (z.dev = d.devId) && d.authOk fr.udp z
  let single := decide (nth z.payload 1 = 0) && decide (nth z.payload 2 ≤ 1)
  let sync := fun (sub : Nat) => okRx && decide (z.kind = 7) && decide (nth z.payload 0 = sub) && single
  let es := crdOf (min 117 ((z.payload.length - 4) / 12)) (z.payload.drop 4)
  let fit := es.all d.flowConsistent
  let late := fun (u : Tick) => d.since u (ms (d.g HQ_TIMERS_RETX_T))
  let out1 := decide (es.length = 1 ∧ ∀ y ∈ es, (d.flow y.flow).opened = true ∧ (d.flow y.flow).out = true)
  [decide (d.alive = false),
    decide (d.alive = true),
    decide (l.audit = none ∨ (l.audit = some a ∧ (a.drained = true ∨ d.since a.since (ms 1) = false))),
    decide (l.audit = some a) && decide (a.drained = false) && decide (d.since a.since (ms 1) = true) && decide (small = true),
    decide (l.audit = none ∨ (l.audit = some a ∧ (a.initiator = false ∨ a.drained = false ∨ d.since a.since (ms 5) = false))),
    decide (l.audit = some a) && decide (a.initiator = true) && decide (a.drained = true) && decide (d.since a.since (ms 5) = true) && decide (a.tries < 3) && decide (small = true),
    decide (l.audit = some a) && decide (a.initiator = true) && decide (a.drained = true) && decide (d.since a.since (ms 5) = true) && decide (3 ≤ a.tries) && decide (d.srcActive LINK_AUDIT_FAIL = false),
    decide (sync 1 = true) && decide (l.epochWait = true),
    decide (sync 1 = true) && decide (l.epochWait = false),
    decide (sync 2 = true) && decide (l.audit = none ∨ (l.audit = some a ∧ (a.initiator = false ∨ a.drained = false))),
    decide (sync 2 = true) && decide (l.audit = some a) && decide (a.initiator = true) && decide (a.drained = true) && decide (fit = false) && decide (d.srcActive LINK_AUDIT_FAIL = false),
    decide (sync 2 = true) && decide (l.audit = some a) && decide (a.initiator = true) && decide (a.drained = true) && decide (fit = true) && decide (out1),
    decide (sync 3 = true) && decide (l.audit = none ∨ (l.audit = some a ∧ (a.initiator = true ∨ a.drained = false))),
    decide (sync 3 = true) && decide (l.audit = some a) && decide (a.initiator = false) && decide (a.drained = true) && decide (out1),
    decide (okRx = true) && decide (z.kind = 7) && decide (nth z.payload 0 = 9),
    decide (host = true) && decide (∀ f ∈ d.openFlows, (d.flow f).out = true ∨ ((d.flow f).peerAt.map late).getD false = false),
    decide (host = true) && decide (∃ f ∈ d.openFlows, (d.flow f).out = false ∧ ((d.flow f).peerAt.map late).getD false = true),
    decide (host = false) && decide (mode = true ∨ ∀ f ∈ d.openFlows, (d.flow f).out = false ∨ (d.flow f).copies.any (fun p => late p.1) = false),
    decide (host = false) && decide (mode = false) && decide (∃ f ∈ d.openFlows, (d.flow f).out = true ∧ (d.flow f).copies.any (fun p => late p.1) = true)]

/-- Each clause of AuditsEpochsAndTheLink (CreditAudits) has a state and operands that meet its hypotheses. -/
theorem test_AuditsEpochsAndTheLink_witness_CreditAudits1 : (
    met (hypCreditAudits (pick Sts 69) 1000000000 (⟨true, 2199023255553, none, false, 77, 47520, 99, 1234, [23, 0, 63, 0, 0, 0, 5, 0, 0, 0, 0, 1, 0, 0, 0, 0, 0, 0, 0, 0, 0, 4, 0, 0, 0, 0, 0, 0, 0, 0, 0, 0, 1, 0, 1, 0, 241, 229, 106, 90]⟩) (⟨false, false, 0, 0⟩) true) [1, 3, 4, 8, 15] &&
    met (hypCreditAudits (pick Sts 0) 1000 (⟨true, 2199023255553, none, false, 77, 47520, 99, 1234, [23, 0, 63, 0, 0, 0, 5, 0, 0, 0, 0, 1, 0, 0, 0, 0, 0, 0, 0, 0, 0, 16, 0, 0, 0, 0, 0, 0, 0, 0, 0, 0, 2, 0, 1, 0, 1, 0, 0, 0, 0, 0, 0, 9, 0, 0, 0, 1, 249, 195, 203, 128]⟩) (⟨true, false, 0, 0⟩) false) [0, 2, 17] &&
    met (hypCreditAudits (pick Sts 76) 1000000000 (⟨true, 2199023255553, none, false, 77, 47520, 99, 1234, [23, 0, 63, 0, 0, 0, 5, 0, 0, 0, 0, 1, 0, 0, 0, 0, 0, 0, 0, 0, 0, 16, 0, 0, 0, 0, 0, 0, 0, 0, 0, 0, 2, 0, 1, 0, 1, 0, 0, 0, 0, 0, 0, 9, 0, 0, 0, 2, 234, 147, 56, 116]⟩) (⟨true, true, 2, 0⟩) false) [9, 18] &&
    met (hypCreditAudits (pick Sts 84) 1000000000 (⟨true, 2199023255553, none, false, 77, 47520, 99, 1234, [23, 0, 63, 0, 0, 0, 5, 0, 0, 0, 0, 1, 0, 0, 0, 0, 0, 0, 0, 0, 0, 16, 0, 0, 0, 0, 0, 0, 0, 0, 0, 0, 3, 0, 1, 0, 1, 0, 0, 0, 0, 0, 0, 9, 0, 0, 0, 1, 11, 207, 198, 126]⟩) (⟨false, true, 0, 0⟩) true) [13, 16] &&
    met (hypCreditAudits (pick Sts 49) 1000000000 (⟨true, 2199023255553, none, false, 77, 47520, 99, 1234, [23, 0, 63, 0, 0, 0, 5, 0, 0, 0, 0, 1, 0, 0, 0, 0, 0, 0, 0, 0, 0, 16, 0, 0, 0, 0, 0, 0, 0, 0, 0, 0, 2, 0, 1, 0, 1, 0, 0, 0, 0, 0, 0, 5, 0, 0, 0, 2, 207, 177, 141, 85]⟩) (⟨true, true, 3, 0⟩) true) [6, 10]) = true := by decide +kernel

/-- More clauses of AuditsEpochsAndTheLink (CreditAudits). -/
theorem test_AuditsEpochsAndTheLink_witness_CreditAudits2 : (
    met (hypCreditAudits (pick Sts 48) 1000000000000 (⟨true, 2199023255553, none, false, 77, 47520, 99, 1234, [23, 0, 63, 0, 0, 0, 5, 0, 0, 0, 0, 1, 0, 0, 0, 0, 0, 0, 0, 0, 0, 16, 0, 0, 0, 0, 0, 0, 0, 0, 0, 0, 2, 0, 1, 0, 1, 0, 0, 0, 0, 0, 0, 9, 0, 0, 0, 1, 249, 195, 203, 128]⟩) (⟨true, true, 2, 0⟩) true) [5, 11] &&
    met (hypCreditAudits (pick Sts 65) 0 (⟨true, 2199023255553, none, false, 77, 47520, 99, 1234, [23, 0, 63, 0, 0, 0, 5, 0, 0, 0, 0, 1, 0, 0, 0, 0, 0, 0, 0, 0, 0, 4, 0, 0, 0, 0, 0, 0, 0, 0, 0, 0, 9, 0, 1, 0, 7, 161, 9, 188]⟩) (⟨true, true, 3, 0⟩) true) [14] &&
    met (hypCreditAudits (pick Sts 47) 1000 (⟨true, 2199023255553, none, false, 77, 47520, 99, 1234, [23, 0, 63, 0, 0, 0, 5, 0, 0, 0, 0, 1, 0, 0, 0, 0, 0, 0, 0, 0, 0, 16, 0, 0, 0, 0, 0, 0, 0, 0, 0, 0, 3, 0, 1, 0, 1, 0, 0, 0, 0, 0, 0, 9, 0, 0, 0, 2, 24, 159, 53, 138]⟩) (⟨false, false, 0, 0⟩) false) [12] &&
    met (hypCreditAudits (pick Sts 23) 1000000000 (⟨true, 2199023255553, none, false, 77, 47520, 99, 1234, [23, 0, 63, 0, 0, 0, 5, 0, 0, 0, 0, 1, 0, 0, 0, 0, 0, 0, 0, 0, 0, 4, 0, 0, 0, 0, 0, 0, 0, 0, 0, 0, 1, 0, 1, 0, 241, 229, 106, 90]⟩) (⟨true, true, 3, 0⟩) true) [7]) = true := by decide +kernel

/-- The hypotheses of the clauses of AuditsEpochsAndTheLink (EpochsAndTheLink). -/
def hypEpochsAndTheLink (s : State) (t : Tick) (fr : RxFrame) : List Bool :=
  let d := s.m.seenDev t
  let z := zadomOf fr.udp
  let l := d.hq.link
  let okRx := d.alive && d.b ETH_STATUS_LINK_UP && fr.fcs && d.destOk fr && zadomOk fr.udp fr.v6 && decide (z.dev = d.devId) && d.authOk fr.udp z
  let early := l.raiseAt.any (fun u => decide (d.now < u + ms 100))
  let raise := d.alive && l.raiseDue && !early
  let again := l.epochWait && d.since l.newAt (ms 10)
  let acks := decide (z.kind = 7) && decide (nth z.payload 0 = 5) && l.epochWait && decide (nth z.payload 4 % 16 = d.g HQ_SESSION_EPOCH)
  let asks := decide (z.kind = 7) && decide (nth z.payload 0 = 6)
  let hello := d.up && d.b ETH_STATUS_LINK_UP && l.hello && !d.b HQ_SESSION_SESSION_OPEN && ((l.helloAt.map (fun u => d.since u (ms 100))).getD true)
  let canRise := d.alive && !d.pwr.pllOnAon && !d.b ETH_STATUS_LINK_UP
  [decide (raise = false),
    decide (raise = true) && decide (d.openFlows.length ≤ 117),
    decide (again = false),
    decide (again = true) && decide (d.openFlows.length ≤ 117),
    decide (okRx = true) && decide (z.kind = 7) && decide (acks = false),
    decide (okRx = true) && decide (acks = true),
    decide (okRx = true) && decide (z.kind = 7) && decide (asks = false),
    decide (okRx = true) && decide (asks = true),
    decide (hello = false),
    decide (hello = true),
    decide (canRise = false),
    decide (canRise = true) && decide (l.seen = false),
    decide (canRise = true) && decide (l.seen = true),
    decide (d.alive = false ∨ d.b ETH_STATUS_LINK_UP = false),
    decide (d.alive = true) && decide (d.b ETH_STATUS_LINK_UP = true)]

/-- Each clause of AuditsEpochsAndTheLink (EpochsAndTheLink) has a state and operands that meet its hypotheses. -/
theorem test_AuditsEpochsAndTheLink_witness_EpochsAndTheLink1 : (
    met (hypEpochsAndTheLink (pick Sts 69) 1000000000 (⟨true, 2199023255553, none, false, 77, 47520, 99, 1234, [23, 0, 63, 0, 0, 0, 5, 0, 0, 0, 0, 1, 0, 0, 0, 0, 0, 0, 0, 0, 0, 4, 0, 0, 0, 0, 0, 0, 0, 0, 0, 0, 1, 0, 1, 0, 241, 229, 106, 90]⟩)) [1, 2, 4, 6, 8, 10, 14] &&
    met (hypEpochsAndTheLink (pick Sts 21) 0 (⟨true, 2199023255553, none, false, 77, 47520, 99, 1234, [23, 0, 63, 0, 0, 0, 5, 0, 0, 0, 0, 1, 0, 0, 0, 0, 0, 0, 0, 0, 0, 5, 0, 0, 0, 0, 0, 0, 0, 0, 0, 0, 5, 0, 1, 0, 0, 122, 2, 247, 158]⟩)) [0, 12, 13] &&
    met (hypEpochsAndTheLink (pick Sts 61) 1000000000 (⟨true, 2199023255553, none, false, 77, 47520, 99, 1234, [23, 0, 63, 0, 0, 0, 5, 0, 0, 0, 0, 1, 0, 0, 0, 0, 0, 0, 0, 0, 0, 4, 0, 0, 0, 0, 0, 0, 0, 0, 0, 0, 2, 0, 1, 0, 147, 199, 227, 99]⟩)) [9] &&
    met (hypEpochsAndTheLink (pick Sts 12) 1000000000 (⟨true, 2199023255553, none, false, 77, 47520, 99, 1234, [23, 0, 63, 0, 0, 0, 5, 0, 0, 0, 0, 1, 0, 0, 0, 0, 0, 0, 0, 0, 0, 4, 0, 0, 0, 0, 0, 0, 0, 0, 0, 0, 1, 0, 1, 0, 241, 229, 106, 90]⟩)) [11] &&
    met (hypEpochsAndTheLink (pick Sts 41) 1000 (⟨true, 2199023255553, none, false, 77, 47520, 99, 1234, [23, 0, 63, 0, 0, 0, 5, 0, 0, 0, 0, 1, 0, 0, 0, 0, 0, 0, 0, 0, 0, 4, 0, 0, 0, 0, 0, 0, 0, 0, 0, 0, 6, 0, 1, 0, 232, 229, 210, 144]⟩)) [7]) = true := by decide +kernel

/-- More clauses of AuditsEpochsAndTheLink (EpochsAndTheLink). -/
theorem test_AuditsEpochsAndTheLink_witness_EpochsAndTheLink2 : (
    met (hypEpochsAndTheLink (pick Sts 74) 1000000000000 (⟨true, 2199023255553, none, false, 77, 47520, 99, 1234, [23, 0, 63, 0, 0, 0, 5, 0, 0, 0, 0, 1, 0, 0, 0, 0, 0, 0, 0, 0, 0, 16, 0, 0, 0, 0, 0, 0, 0, 0, 0, 0, 3, 0, 1, 0, 1, 0, 0, 0, 0, 0, 0, 9, 0, 0, 0, 1, 11, 207, 198, 126]⟩)) [3] &&
    met (hypEpochsAndTheLink (pick Sts 24) 0 (⟨true, 2199023255553, none, false, 77, 47520, 99, 1234, [23, 0, 63, 0, 0, 0, 5, 0, 0, 0, 0, 1, 0, 0, 0, 0, 0, 0, 0, 0, 0, 5, 0, 0, 0, 0, 0, 0, 0, 0, 0, 0, 5, 0, 1, 0, 0, 122, 2, 247, 158]⟩)) [5]) = true := by decide +kernel

end WHlinku

namespace WHtxu
def zb : Zadom := ⟨5, 0, 0, 0, 0, 0, 0, 0, 0, 1, 0, 0, 0, [1,0,1,0]⟩
def of2 : OutFrame := ⟨3, 2, 0, 0, 2, 5, true, [1], false, .none, true⟩
def prim (c : Chan) : Chan := c.p CH_STATE_STATE 1
def lk (d : Dev) : Dev := ((({ d with otp := { d.otp with mac := 0x020000000001 } }.wr IP4_ADDR 77).p ETH_STATUS_LINK_UP 1).onFlow 0 (fun f => { f with returns := 300, changed := true }))
def lq (d : Dev) : Dev := (d.onQueue 8 (fun q => { q with frames := [of1], level := 1, ev := true })).onQueue 48 (fun q => { q with frames := [of2, of2], level := 2, ev := true })
def lq2 (d : Dev) : Dev := (d.onQueue 48 (fun q => { q with frames := [of2, of2], level := 2, ev := true }))
def au : Audit := ⟨true, true, 2, 0⟩
def nt (d : Dev) : Dev := (((d.wr NTF_EN0 0xFFFFFFFF).wr NTF_EN1 0xFFFFFFFF).wr NTF_EN2 0xFF)
def irq (d : Dev) : Dev := ((((d.wr HQ_IRQ_STATUS 1).wr HQ_IRQ_EN 1).wr ARC_IRQ_EN 1).wr AON_IRQ_EN 0xFF).wr AON_IRQ_STATUS 3
def hs (d : Dev) : List Dev := [d, d.onHq (fun h => { h with ctl := [zb] }), d.onHq (fun h => { h with ctl := [zb, { zb with kind := 7 }] }), d.onLink (fun l => { l with audit := some au }), (d.onLink (fun l => { l with audit := some au })).onHq (fun h => { h with ctl := [zb, { zb with kind := 7 }] }), lq d, lq2 d, d.p ETH_CTL_VLAN_EN 1, nt d, nt (irq d), nt (irq (lq d)), (nt (irq (lq d))).onHq (fun h => { h with off := [(8, 0), (65, 5)], wait := [8, 65] }), (nt (irq (lq d))).setPend 8 true |>.onHq (fun h => { h with off := [(8, 0), (65, 5)], wait := [8, 65] }), { d with eth := { good := 15, bad := 2, syncAt := some 1000 } }.p ETH_CTL_PTP_EN 1, { d with eth := { good := 14, bad := 2, syncAt := some 0 } }.p ETH_CTL_PTP_EN 1, d.p ETH_CTL_PTP_EN 1, d.p MDIO_CTL_BUSY 1, (d.p MDIO_CTL_BUSY 1).p MDIO_CTL_READ 1]
def ds : List Dev := hs b0 ++ hs { b0 with pwr := {} } ++ hs (lk b0) ++ hs (lk b0) ++ hs { lk b0 with pwr := { up with smc := .released } } ++ hs ((lk b0).p HQ_CTL_MODE 1)
def rcs (c : Chan) : Chan := { prim c with out := { c.out with buf := [⟨5, 6, false, .evt 3 0 0 0 1 2⟩] } }
def ans (c : Chan) : Chan := { prim c with answers := [⟨.arm, 0, [1,2]⟩] }
def irqc (c : Chan) : Chan := ((prim c).wr CH_IRQ_STATUS 3).wr CH_IRQ_EN 1
def run (d : Dev) : Dev := { d with colmo := { d.colmo with running := [⟨⟨0, 5, 1, 0, 7, 99, 12⟩, [.chan .a .arm]⟩] } }
def Sts : List State := ds.map (fun f => mkS f prim irqc) ++ (List.range 20).map (fun _ => mkS b0 rcs prim) ++ (List.range 20).map (fun _ => mkS (run b0) ans prim) ++ ds.map (fun f => mkS f rcs ans)

/-- The hypotheses of the clauses of EgressCreditsAndVectors (EgressAndCredits). -/
def hypEgressAndCredits (s : State) (t : Tick) (ch : Ch) (q : Nat) (f : OutFrame) (z : Zadom) (rc : Rec) (op : OpDone) (rq : Req) : List Bool :=
  let d := s.m.seenDev t
  let h := d.hq
  let c := s.m.seen t ch
  let out : Instr := .frameEgress t
  let bare := fun (c : Chan) => decide (c.answers = [] ∧ c.out.buf = [] ∧ c.out.dropped = 0)
  let other := s.m.chan ch.other
  let calm := decide (d.recs = [] ∧ d.colmo.arcRead = none ∧ h.due = [] ∧ bare other)
  let quiet := decide (h.due = [] ∧ (d.up = false ∨ (calm ∧ bare c ∧ d.colmo.running = [])))
  let live := d.alive && d.b ETH_STATUS_LINK_UP
  let stopped := h.link.audit.isSome || h.link.epochWait
  let isSync := fun (z : Zadom) => z.kind == 7
  let plain := decide (d.b HQ_CTL_AUTH_EN = false)
  let first := [2, 3, 4, 5].findSome? d.nextQueue
  let x := d.flow f.flow
  let crd := d.since h.crdAt (us (100 * d.g HQ_TIMERS_CRD_T))
  let full := d.since h.fullAt (ms 100)
  let can := live && !stopped
  let changed := d.openFlows.filter (fun k => (d.flow k).changed)
  [decide (quiet) && decide (live = false),
    decide (quiet) && decide (live = true) && decide (stopped = true) && decide (h.ctl.any isSync = false),
    decide (quiet) && decide (live = true) && decide (stopped = false) && decide (h.ctl = []) && decide (first = none),
    decide (quiet) && decide (live = true) && decide (plain = true) && decide (stopped = false) && decide (h.ctl.head? = some z),
    decide (quiet) && decide (live = true) && decide (plain = true) && decide (stopped = true) && decide (h.ctl.find? isSync = some z),
    decide (quiet) && decide (live = true) && decide (plain = true) && decide (stopped = false) && decide (h.ctl = []) && decide (first = some q) && decide ((d.queue q).frames.head? = some f) && decide (f.after = .none) && decide (x.pair ≠ f.flow),
    decide (h.due = []) && decide (d.up = true) && decide (live = false) && decide (calm) && decide (bare { c with out := { c.out with buf := [] } }) && decide (d.colmo.running = []) && decide (c.out.buf = [rc]) && decide (d.passes ch.source rc.body = true) && decide ((d.flow 2).opened = true) && decide ((d.flow 2).out = true) && decide (d.room (d.flow 2).queue = true),
    decide (h.due = []) && decide (d.up = true) && decide (live = false) && decide (calm) && decide (bare { c with answers := [] }) && decide (d.colmo.running = [⟨rq, [.chan ch op.op]⟩]) && decide (c.answers = [op]) && decide (op.status = 0) && decide (rq.flow < 256) && decide ((d.flow rq.flow).pairEn = true) && decide ((d.flow (d.flow rq.flow).pair).opened = true) && decide ((d.flow (d.flow rq.flow).pair).out = true) && decide (d.room (d.flow (d.flow rq.flow).pair).queue = true),
    decide (crd = false),
    decide (crd = true) && decide (can = false ∨ changed = []),
    decide (crd = true) && decide (can = true) && decide (changed ≠ []) && decide (changed.length ≤ 117),
    decide (full = false),
    decide (full = true) && decide (can = false),
    decide (full = true) && decide (can = true) && decide (d.openFlows ≠ []) && decide (d.openFlows.length ≤ 117)]

/-- Each clause of EgressCreditsAndVectors (EgressAndCredits) has a state and operands that meet its hypotheses. -/
theorem test_EgressCreditsAndVectors_witness_EgressAndCredits1 : (
    met (hypEgressAndCredits (pick Sts 26) 1000 .a 9 (⟨1, 1, 0, 3, 2, 5, false, [1], true, After.none, false⟩) (⟨7, 0, 0, 0, 0, 0, 0, 0, 0, 1, 0, 0, 0, [1, 0, 1, 0]⟩) (⟨5, 6, false, RecBody.evt 3 0 0 0 1 2⟩) (⟨ChOp.arm, 0, [1, 2]⟩) (⟨0, 5, 1, 0, 7, 99, 12⟩)) [0, 8, 11] &&
    met (hypEgressAndCredits (pick Sts 137) 1000000000000 .a 48 (⟨3, 2, 0, 0, 2, 5, true, [1], false, After.none, true⟩) (⟨7, 0, 0, 0, 0, 0, 0, 0, 0, 1, 0, 0, 0, [1, 0, 1, 0]⟩) (⟨5, 6, false, RecBody.evt 3 0 0 0 1 2⟩) (⟨ChOp.arm, 0, [1, 2]⟩) (⟨0, 5, 1, 0, 7, 99, 12⟩)) [7, 9, 12] &&
    met (hypEgressAndCredits (pick Sts 235) 1000000000000 .a 8 (⟨3, 2, 0, 0, 2, 5, true, [1], false, After.none, true⟩) (⟨7, 0, 0, 0, 0, 0, 0, 0, 0, 1, 0, 0, 0, [1, 0, 1, 0]⟩) (⟨5, 6, false, RecBody.evt 3 0 0 0 1 2⟩) (⟨ChOp.arm, 0, [1, 2]⟩) (⟨0, 5, 1, 0, 7, 99, 12⟩)) [2, 10, 13] &&
    met (hypEgressAndCredits (pick Sts 114) 1000000000000 .a 8 (⟨1, 1, 0, 3, 2, 5, false, [1], true, After.none, false⟩) (⟨5, 0, 0, 0, 0, 0, 0, 0, 0, 1, 0, 0, 0, [1, 0, 1, 0]⟩) (⟨5, 6, false, RecBody.evt 3 0 0 0 1 2⟩) (⟨ChOp.arm, 0, [1, 2]⟩) (⟨0, 5, 1, 0, 7, 99, 12⟩)) [6] &&
    met (hypEgressAndCredits (pick Sts 75) 1000 .a 48 (⟨1, 1, 0, 3, 2, 5, false, [1], true, After.none, false⟩) (⟨5, 0, 0, 0, 0, 0, 0, 0, 0, 1, 0, 0, 0, [1, 0, 1, 0]⟩) (⟨5, 6, false, RecBody.evt 3 0 0 0 1 2⟩) (⟨ChOp.arm, 0, [1, 2]⟩) (⟨0, 5, 1, 0, 7, 99, 12⟩)) [1]) = true := by decide +kernel

/-- More clauses of EgressCreditsAndVectors (EgressAndCredits). -/
theorem test_EgressCreditsAndVectors_witness_EgressAndCredits2 : (
    met (hypEgressAndCredits (pick Sts 76) 1000000000000 .a 9 (⟨3, 2, 0, 0, 2, 5, true, [1], false, After.none, true⟩) (⟨7, 0, 0, 0, 0, 0, 0, 0, 0, 1, 0, 0, 0, [1, 0, 1, 0]⟩) (⟨5, 6, false, RecBody.evt 3 0 0 0 1 2⟩) (⟨ChOp.arm, 0, [1, 2]⟩) (⟨0, 5, 1, 0, 7, 99, 12⟩)) [4] &&
    met (hypEgressAndCredits (pick Sts 221) 0 .a 48 (⟨3, 2, 0, 0, 2, 5, true, [1], false, After.none, true⟩) (⟨5, 0, 0, 0, 0, 0, 0, 0, 0, 1, 0, 0, 0, [1, 0, 1, 0]⟩) (⟨5, 6, false, RecBody.evt 3 0 0 0 1 2⟩) (⟨ChOp.arm, 0, [1, 2]⟩) (⟨0, 5, 1, 0, 7, 99, 12⟩)) [3] &&
    met (hypEgressAndCredits (pick Sts 59) 1000000000 .b 8 (⟨1, 1, 0, 3, 2, 5, false, [1], true, After.none, false⟩) (⟨5, 0, 0, 0, 0, 0, 0, 0, 0, 1, 0, 0, 0, [1, 0, 1, 0]⟩) (⟨5, 6, false, RecBody.evt 3 0 0 0 1 2⟩) (⟨ChOp.arm, 0, [1, 2]⟩) (⟨0, 5, 1, 0, 7, 99, 12⟩)) [5]) = true := by decide +kernel

/-- The hypotheses of the clauses of EgressCreditsAndVectors (NotificationVectors). -/
def hypNotificationVectors (s : State) (t : Tick) (v : Nat) : List Bool :=
  let d := s.m.seenDev t
  let h := d.hq
  let news := fun (n : Nat) (l : List (Nat × Nat)) (w : Nat → Nat) (en : Nat → Nat) => l.any (fun p => (w p.1 &&& en p.2) != ((w p.1 &&& en p.2) &&& RegMap.get h.seen 0 (n * 2 ^ 20 + p.1)))
  let chanNews := fun (n : Nat) (c : Chan) => news n chanIrqs c.read c.rd
  let due := if v < 64 then (d.queue v).ev else if v = 65 then chanNews 1 (s.m.seen t .a) else if v = 66 then chanNews 2 (s.m.seen t .b) else news (v - 64) (funcIrqs (v - 64)) d.irqWord d.rd
  let r := d.route v
  let runs := h.off.any (fun e => e.1 == v && !d.since e.2 (us (d.g NTF_CFG_HOLDOFF)))
  let waits := h.wait.contains v && d.pend v && d.ntfEn v && r.msg
  [decide (d.alive = false),
    decide (d.alive = true) && decide (v < 72) && decide (due = false),
    decide (d.alive = true) && decide (v < 72) && decide (due = true),
    decide (runs = true),
    decide (runs = false) && decide (waits = false),
    decide (runs = false) && decide (waits = true)]

/-- Each clause of EgressCreditsAndVectors (NotificationVectors) has a state and operands that meet its hypotheses. -/
theorem test_EgressCreditsAndVectors_witness_NotificationVectors : (
    met (hypNotificationVectors (pick Sts 241) 1000 48) [1, 4] &&
    met (hypNotificationVectors (pick Sts 160) 1000 8) [2, 3] &&
    met (hypNotificationVectors (pick Sts 26) 1000 66) [0] &&
    met (hypNotificationVectors (pick Sts 102) 1000000000000 8) [5]) = true := by decide +kernel

/-- The hypotheses of the clauses of TimeDomainAndPhy. -/
def hypTimeDomainAndPhy (s : State) (t : Tick) (n : Nat) (proto : CtlProto) (dst : Nat) (src : Nat) (vid : Option Nat) : List Bool :=
  let d := s.m.seenDev t
  let p := d.eth
  let onn := d.alive && d.b ETH_STATUS_LINK_UP && d.b ETH_CTL_PTP_EN && !d.pwr.pllOnAon
  let mine := decide (d.g PTP_CFG_DOMAIN = n)
  let busy := d.b MDIO_CTL_BUSY
  let ready := d.alive && d.since d.pwr.since (us (d.g PHY_RST_T))
  let live := d.alive && d.b ETH_STATUS_LINK_UP
  let addressed := if proto = .arp ∨ proto = .echo then d.rd IP4_ADDR ≠ 0 ∧ dst = d.rd IP4_ADDR else dst = Config.linkLocal d.otp.mac ∨ (d.ip6 ≠ 0 ∧ dst = d.ip6)
  let answers := decide (d.up = true ∧ addressed ∧ (d.b ETH_CTL_VLAN_EN = true → vid = some (d.g UDP_VLAN_VID)))
  [decide (onn = false),
    decide (onn = true) && decide (mine = false),
    decide (onn = true),
    decide (onn = true) && decide (mine = true),
    decide (onn = true) && decide (mine = true) && decide (p.syncAt = none),
    decide (onn = true) && decide (mine = true) && decide (p.syncAt = some src),
    decide (d.alive = false),
    decide (d.alive = true),
    decide (d.alive = true) && decide (busy = true),
    decide (d.alive = true) && decide (busy = false),
    decide (ready = false),
    decide (ready = true),
    decide (live = false),
    decide (live = true) && decide (¬ answers),
    decide (live = true) && decide (answers)]

/-- Each clause of TimeDomainAndPhy has a state and operands that meet its hypotheses. -/
theorem test_TimeDomainAndPhy_witness : (
    met (hypTimeDomainAndPhy (pick Sts 241) 1000 0 CtlProto.arp 5 1000 (some 5)) [2, 3, 4, 7, 9, 10, 13] &&
    met (hypTimeDomainAndPhy (pick Sts 182) 1000000000000 1 CtlProto.echo 5 1000 (some 5)) [0, 6, 12] &&
    met (hypTimeDomainAndPhy (pick Sts 164) 1000000000000 1 CtlProto.arp 5 1000 (some 0)) [8, 11] &&
    met (hypTimeDomainAndPhy (pick Sts 69) 1000 1 CtlProto.arp 77 88 (some 0)) [1, 14] &&
    met (hypTimeDomainAndPhy (pick Sts 197) 1000000000000 0 CtlProto.echo 5 1000 none) [5]) = true := by decide +kernel

end WHtxu

namespace WCanu
def prim (c : Chan) : Chan := c.p CH_STATE_STATE 1
def both (f : Nat → Dev → Dev) (d : Dev) : Dev := f 1 (f 0 d)
def rxo (k : Nat) (d : Dev) : Dev := (((d.p (MO_CTL_EN k 5) 1).p (MO_MASK_MASK k 5) 0x1FFFFFFF).p (MO_ID_ID k 5) 0x123).p (MO_MASK_MXTD k 5) 1 |>.p (MO_ID_XTD k 5) 1
def txo (k : Nat) (d : Dev) : Dev := ((((d.p (MO_CTL_EN k 5) 1).p (MO_CTL_DIR k 5) 1).p (MO_STAT_PEND k 5) 1).p (MO_CTL_DLC k 5) 8).p (MO_CTL_EN k 127) 1 |>.p (MO_STAT_PEND k 127) 1 |>.p (MO_CTL_DIR k 127) 1 |>.p (MO_ID_ID k 127) 0x1FFFFFF
def fd (k : Nat) (d : Dev) : Dev := (((d.p (CAN_CTL_FD_EN k) 1).p (CAN_CTL_PEX_EN k) 1).p (MO_CTL_FDF k 5) 1).p (MO_CTL_BRS k 5) 1 |>.p (CAN_TIM_D_DLY_COMP k) 1 |>.p (MO_CTL_IRQ_EN k 5) 1
def sta (v : Nat) (k : Nat) (d : Dev) : Dev := d.p (CAN_STATUS_STATE k) v
def tx (v : Nat) (k : Nat) (d : Dev) : Dev := d.onCan k (fun c => { c with tx := some v })
def sts : List (Dev → Dev) := [0,1,2,2,2,3,3,4,5].map (fun v => both (sta v))
def fs : List (Nat → Dev → Dev) := [fun _ d => d, rxo, rxo, txo, fun k d => fd k (rxo k d), fun k d => fd k (txo k d), fun k d => (rxo k d).p (MO_STAT_NEWDAT k 5) 1, fun k d => ((rxo k d).p (MO_STAT_NEWDAT k 5) 1).p (MO_CTL_OVW k 5) 1, fun k d => (rxo k d).p (MO_STAT_LOCK k 5) 1, fun k d => (rxo k d).p (MO_CTL_E2E k 5) 1, fun k d => ((rxo k d).p (MO_CTL_E2E k 5) 1).p (MO_E2E_TIMEOUT k 5) 1, fun k d => ((rxo k d).p (MO_CTL_E2E k 5) 1).setE2e k 5 ⟨true, 0⟩ |>.p (MO_E2E_CNT k 5) 1,
  fun k d => ((rxo k d).p (MO_CTL_E2E k 5) 1).setE2e k 5 ⟨true, 0⟩ |>.p (MO_E2E_MAXDELTA k 5) 3, fun k d => (txo k d).p (MO_CTL_E2E k 5) 1, fun k d => ((txo k d).p (MO_CTL_E2E k 5) 1).setE2e k 5 ⟨true, 0⟩, fun k d => tx 5 k (fd k (txo k d)), fun k d => tx 5 k (txo k d), fun k d => tx 5 k ((txo k d).p (CAN_STATUS_TEC k) 250), fun k d => tx 5 k ((txo k d).p (CAN_STATUS_TEC k) 127), fun k d => tx 5 k (((txo k d).p (CAN_LONE_LIMIT k) 1).p (MO_CTL_LONE_CANCEL k 5) 1), fun k d => tx 5 k (((txo k d).p (CAN_LONE_LIMIT k) 1)), fun k d => (txo k d).p (CAN_CTL_MON k) 1,
  fun k d => (rxo k d).p (CAN_STATUS_REC k) 128 |>.raise (ERR_PASSIVE k), fun k d => (rxo k d).p (CAN_STATUS_REC k) 255, fun k d => (((((rxo k d).p (CAN_TIM_N_N_SEG1 k) 60).p (CAN_TIM_N_N_SEG2 k) 30).p (CAN_TIM_N_N_SJW k) 3).p (CAN_TIM_D_D_SEG1 k) 12).p (CAN_TIM_D_D_SEG2 k) 4, fun k d => (((((rxo k d).p (CAN_TIM_N_N_SEG1 k) 60).p (CAN_TIM_N_N_SEG2 k) 30).p (CAN_TIM_N_TRIPLE k) 1).p (CAN_TIM_D_D_SEG1 k) 12).p (CAN_TIM_D_D_SEG2 k) 4 |>.onCan k (fun c => { c with off := true }), fun k d => ((((rxo k d).p (CAN_TIM_N_N_SEG1 k) 200).p (CAN_TIM_N_N_SEG2 k) 100).p (CAN_TIM_N_TRIPLE k) 1)|>.onCan k (fun c => { c with off := true })]
def ds : List Dev := [({} : Dev), both (sta 2) {}] ++ sts.flatMap (fun g => fs.map (fun f => g (both f b0)))
def Sts : List State := ds.map (fun f => mkS f prim prim)

/-- The hypotheses of the clauses of CanControllersAndObjects (CanControllers). -/
def hypCanControllers (s : State) (t : Tick) (k : Fin 2) (n : Nat) : List Bool :=
  let d := s.m.seenDev t
  let c := d.canSt k
  let st := d.g (CAN_STATUS_STATE k)
  let onn := d.alive && (decide (st = 2) || decide (st = 3))
  let seg := fun (f : Fld) => d.g f + 1
  let nt := seg (CAN_TIM_N_N_PRESC k) * (1 + seg (CAN_TIM_N_N_SEG1 k) + seg (CAN_TIM_N_N_SEG2 k))
  let dt := seg (CAN_TIM_D_D_PRESC k) * (1 + seg (CAN_TIM_D_D_SEG1 k) + seg (CAN_TIM_D_D_SEG2 k))
  let timing := decide (2 ≤ seg (CAN_TIM_N_N_SEG1 k) ∧ 2 ≤ seg (CAN_TIM_N_N_SEG2 k) ∧ seg (CAN_TIM_N_N_SJW k) ≤ seg (CAN_TIM_N_N_SEG2 k) ∧ 80 ≤ nt ∧ nt ≤ 1600 ∧ seg (CAN_TIM_D_D_SJW k) ≤ seg (CAN_TIM_D_D_SEG2 k) ∧ (d.b (CAN_CTL_FD_EN k) = true → 16 ≤ dt ∧ dt ≤ nt) ∧ (d.b (CAN_TIM_N_TRIPLE k) = true → 320 ≤ nt))
  let init := d.alive && !d.pwr.pllOnAon && decide (st = 0)
  [decide (init = false),
    decide (init = true) && decide (¬ timing),
    decide (init = true) && decide (timing),
    decide (d.alive = false ∨ st ≠ 1),
    decide (d.alive = true) && decide (st = 1),
    decide (onn = false),
    decide (onn = true) && decide (d.b (CAN_CTL_FD_EN k) = true) && decide (d.b (CAN_CTL_PEX_EN k) = true),
    decide (onn = true) && decide (d.b (CAN_CTL_FD_EN k) = false ∨ d.b (CAN_CTL_PEX_EN k) = false),
    decide (onn = true),
    decide (c.tx = none),
    decide (onn = true) && decide (c.tx = some n),
    decide (onn = true) && decide (c.tx = some n) && decide (n < 128) && decide (k = 1 ∨ d.iso.out = []),
    decide (d.alive = false ∨ st ≠ 4),
    decide (d.alive = true) && decide (st = 4),
    decide (d.alive = false ∨ st ≠ 5),
    decide (d.alive = true) && decide (st = 5)]

/-- Each clause of CanControllersAndObjects (CanControllers) has a state and operands that meet its hypotheses. -/
theorem test_CanControllersAndObjects_witness_CanControllers1 : (
    met (hypCanControllers (pick Sts 12) 1000000000000 0 5) [2, 3, 5, 9, 12, 14] &&
    met (hypCanControllers (pick Sts 72) 1000000 0 5) [0, 7, 8, 10, 11] &&
    met (hypCanControllers (pick Sts 215) 0 1 5) [13] &&
    met (hypCanControllers (pick Sts 27) 1000 1 5) [1] &&
    met (hypCanControllers (pick Sts 43) 1000000000000 1 0) [4]) = true := by decide +kernel

/-- More clauses of CanControllersAndObjects (CanControllers). -/
theorem test_CanControllersAndObjects_witness_CanControllers2 : (
    met (hypCanControllers (pick Sts 239) 1000000 0 5) [15] &&
    met (hypCanControllers (pick Sts 115) 0 0 0) [6]) = true := by decide +kernel

/-- The hypotheses of the clauses of CanControllersAndObjects (CanMessageObjects). -/
def hypCanMessageObjects (s : State) (t : Tick) (k : Fin 2) (n : Fin 128) (fr : CanFrame) : List Bool :=
  let d := s.m.seenDev t
  let c := d.canSt k
  let st := d.g (CAN_STATUS_STATE k)
  let onn := d.alive && (decide (st = 2) || decide (st = 3))
  let matches_ := fun (j : Nat) => d.b (MO_CTL_EN k j) && !d.b (MO_CTL_DIR k j) && (fr.id &&& d.g (MO_MASK_MASK k j)) == (d.g (MO_ID_ID k j) &&& d.g (MO_MASK_MASK k j)) && (!d.b (MO_MASK_MXTD k j) || fr.xtd == d.b (MO_ID_XTD k j)) && (!fr.fdf || d.b (MO_CTL_FDF k j))
  let first := decide (∀ j ∈ List.range n.val, matches_ j = false) && matches_ n
  let foreign := fr.fdf && !d.b (CAN_CTL_FD_EN k)
  let newdat := d.b (MO_STAT_NEWDAT k n) || d.b (MO_STAT_LOCK k n)
  let prot := decide (k = 1) && d.b (MO_CTL_E2E k n)
  let ready := fun (j : Nat) => d.b (MO_STAT_PEND k j) && (!d.b (MO_CTL_FDF k j) || d.b (CAN_CTL_FD_EN k))
  let key := fun (j : Nat) => if d.b (MO_ID_XTD k j) then d.g (MO_ID_ID k j) / 2 ^ 18 * 2 ^ 19 + 2 ^ 18 + d.g (MO_ID_ID k j) % 2 ^ 18 else d.g (MO_ID_ID k j) / 2 ^ 18 * 2 ^ 19
  let best := ready n && decide (∀ j ∈ List.range 128, ready j = true → key n < key j ∨ (key n = key j ∧ n.val ≤ j))
  let fdf := d.b (MO_CTL_FDF k n)
  let sends := d.b (MO_CTL_EN k n) && d.b (MO_CTL_DIR k n) && !(prot && decide (canLen fdf (d.g (MO_CTL_DLC k n)) < 2))
  let late := d.alive && prot && d.b (MO_CTL_EN k n) && !d.b (MO_CTL_DIR k n) && decide (d.g (MO_E2E_TIMEOUT k n) ≠ 0) && d.since (d.e2e k n).at_ (ms (d.g (MO_E2E_TIMEOUT k n)))
  let calmIso := decide (k = 1 ∨ d.iso.out = [])
  [decide (onn = false),
    decide (onn = true) && decide (foreign = true),
    decide (onn = true) && decide (foreign = false) && decide (∀ j ∈ List.range 128, matches_ j = false),
    decide (onn = true) && decide (foreign = false) && decide (first = true) && decide (newdat = false) && decide (prot = false),
    decide (onn = true) && decide (foreign = false) && decide (first = true) && decide (newdat = true) && decide (d.b (MO_CTL_OVW k n) = true) && decide (d.b (MO_STAT_LOCK k n) = false) && decide (prot = false),
    decide (onn = true) && decide (foreign = false) && decide (first = true) && decide (newdat = true) && decide (d.b (MO_CTL_OVW k n) = false ∨ d.b (MO_STAT_LOCK k n) = true),
    decide (onn = true) && decide (foreign = false) && decide (first = true) && decide (newdat = false) && decide (prot = true),
    decide (onn = true) && decide (c.tx.isSome = true ∨ d.b (CAN_CTL_MON k) = true ∨ ∀ j ∈ List.range 128, ready j = false),
    decide (onn = true) && decide (c.tx = none) && decide (d.b (CAN_CTL_MON k) = false) && decide (best = true) && decide (prot = false),
    decide (onn = true) && decide (c.tx = none) && decide (d.b (CAN_CTL_MON k) = false) && decide (best = true) && decide (prot = true) && decide (2 ≤ d.moLen k n),
    decide (c.tx = none),
    decide (onn = true) && decide (c.tx = some n.val) && decide (calmIso),
    decide (d.alive = false),
    decide (d.alive = true) && decide (sends = true),
    decide (d.alive = true) && decide (sends = false),
    decide (d.alive = true) && decide (d.b (MO_STAT_PEND k n) = false),
    decide (d.alive = true) && decide (d.b (MO_STAT_PEND k n) = true) && decide (c.tx = some n.val),
    decide (d.alive = true) && decide (d.b (MO_STAT_PEND k n) = true) && decide (c.tx ≠ some n.val) && decide (calmIso),
    decide (late = false),
    decide (late = true)]

/-- Each clause of CanControllersAndObjects (CanMessageObjects) has a state and operands that meet its hypotheses. -/
theorem test_CanControllersAndObjects_witness_CanMessageObjects1 : (
    met (hypCanMessageObjects (pick Sts 25) 1000 1 5 (⟨true, false, false, false, false, 291, 8, [7, 1, 2, 3, 4, 5, 6, 7]⟩)) [0, 10, 14, 15, 18] &&
    met (hypCanMessageObjects (pick Sts 157) 1000000000 0 5 (⟨true, false, false, false, false, 291, 8, [50, 1, 2, 3, 4, 5, 6, 7]⟩)) [2, 7, 11, 13, 16] &&
    met (hypCanMessageObjects (pick Sts 167) 0 1 5 (⟨false, false, true, true, true, 71565312, 12, [7, 1, 2, 3, 4, 5, 6, 7]⟩)) [1, 8, 17] &&
    met (hypCanMessageObjects (pick Sts 1) 0 0 5 (⟨true, false, false, false, false, 291, 8, [7, 1, 2, 3, 4, 5, 6, 7]⟩)) [12] &&
    met (hypCanMessageObjects (pick Sts 66) 1000000000000 1 5 (⟨true, false, false, false, false, 291, 8, [50, 1, 2, 3, 4, 5, 6, 7]⟩)) [6, 19]) = true := by decide +kernel

/-- More clauses of CanControllersAndObjects (CanMessageObjects). -/
theorem test_CanControllersAndObjects_witness_CanMessageObjects2 : (
    met (hypCanMessageObjects (pick Sts 168) 1000000000000 1 5 (⟨true, false, false, false, false, 291, 8, [7, 1, 2, 3, 4, 5, 6, 7]⟩)) [3] &&
    met (hypCanMessageObjects (pick Sts 91) 1000000 1 5 (⟨true, false, false, false, false, 291, 8, [50, 1, 2, 3, 4, 5, 6, 7]⟩)) [5] &&
    met (hypCanMessageObjects (pick Sts 90) 1000000 1 5 (⟨true, false, false, false, false, 291, 8, [7, 1, 2, 3, 4, 5, 6, 7]⟩)) [4] &&
    met (hypCanMessageObjects (pick Sts 124) 1000000000 1 5 (⟨true, false, false, false, false, 291, 8, [7, 1, 2, 3, 4, 5, 6, 7]⟩)) [9]) = true := by decide +kernel

end WCanu

namespace WNet
def prim (c : Chan) : Chan := c.p CH_STATE_STATE 1
def isos : List Iso := [{ en := true, name := 5, pref := 200 }, { en := true, name := 2^63 + 9, pref := 200, claims := [(201, 4)] }, { en := true, name := 5, pref := 130, tps := [⟨9, true, 77, 20, 3, 1, []⟩] }, { en := true, name := 5, pref := 130, tps := [⟨9, true, 77, 20, 3, 3, [1]⟩] }, {}]
def st (v a : Nat) (d : Dev) : Dev := (d.p (ISO_STATUS_STATE 0) v).p (ISO_STATUS_ADDRESS 0) a
def ring (ph : RingPhase) (c : Chan) : Chan := { prim c with ring := { c.ring with phase := ph } }
def chs : List (Chan → Chan) := [prim, ring .post, ring .frozen, fun c => { c with ring := { c.ring with phase := .post } }]
def ars : List Arch := [{}, { ringSlots := 4, nextIndex := 6, retired := [2] }, { ringSlots := 4, writing := some .a }, { ringSlots := 4, writing := some .b, snaps := [] }]
def iss : List Dev := ({} : Dev) :: isos.flatMap (fun x => [({ b0 with iso := x } : Dev), st 1 200 { b0 with iso := x }, st 1 130 { b0 with iso := x }, st 2 130 { b0 with iso := x }, st 2 200 { b0 with iso := x }, st 3 254 { b0 with iso := x }])
def ads : List Dev := ({} : Dev) :: ars.flatMap (fun x => [({ b0 with arch := x } : Dev), ({ b0 with arch := x } : Dev).p ARC_OP_GO 1, (({ b0 with arch := x } : Dev).p ARC_OP_GO 1).p ARC_OP_CODE 1, (({ b0 with arch := x } : Dev).p ARC_OP_GO 1).p ARC_OP_CODE 3, (({ b0 with arch := x } : Dev).p ARC_OP_GO 1).p ARC_CFG_REFRESH_LVL 2])
def Sts : List State := iss.map (fun f => mkS f prim prim) ++ iss.map (fun f => mkS f prim prim) ++ ads.flatMap (fun f => chs.map (fun c => mkS f c (ring .frozen)))

/-- The hypotheses of the clauses of Iso11783. -/
def hypIso11783 (s : State) (t : Tick) (sa : Nat) (name : Nat) (pgn : Nat) (da : Nat) (src : Nat) (dt : Bool) (data : List Nat) (p : Tp) : List Bool :=
  let d := s.m.seenDev t
  let x := d.iso
  let onn := d.up && x.en
  let st := d.g (ISO_STATUS_STATE 0)
  let addr := d.g (ISO_STATUS_ADDRESS 0)
  let room := decide (d.b (MO_STAT_PEND 0 112) = false)
  let want := if st = 2 then addr else x.pref
  let l := x.claims.filter (fun e => e.2 != name)
  let table := if sa < 254 then tabPut l sa name else l
  let mine := decide (sa = addr) && (decide (st = 1) || decide (st = 2))
  let next := (claimOrder addr).find? (fun a => !table.any (fun e => e.1 == a))
  let moves := x.name.testBit 63 && next.isSome
  let heard := decide (dt = false → nth data 0 ≠ 16 ∧ nth data 0 ≠ 32 ∧ nth data 0 ≠ 255)
  let bam := decide (da = 255)
  let forUs := onn && (bam || (decide (st = 2) && decide (da = addr)))
  let bytes := nth data 1 % 256 + 256 * (nth data 2 % 256)
  let packets := nth data 3
  let good := decide (9 ≤ bytes) && decide (bytes ≤ 1785) && decide (packets = (bytes + 6) / 7)
  [decide (onn = false),
    decide (onn = true) && decide (room = true) && decide (want < 256),
    decide (onn = true) && decide (st ≠ 1 ∨ d.since x.claimAt (ms 250) = false),
    decide (onn = true) && decide (st = 1) && decide (d.since x.claimAt (ms 250) = true),
    decide (onn = true) && decide (mine = false),
    decide (onn = true) && decide (mine = true) && decide (room = true) && decide (x.name ≤ name),
    decide (onn = true) && decide (mine = true) && decide (room = true) && decide (name < x.name) && decide (moves = true),
    decide (onn = true) && decide (mine = true) && decide (room = true) && decide (name < x.name) && decide (moves = false),
    decide (onn = true) && decide (pgn ≠ 60928),
    decide (onn = true) && decide (pgn = 60928) && decide (st ≠ 3) && decide (da = 255 ∨ da = addr) && decide (room = true),
    decide (onn = true) && decide (pgn = 60928) && decide (st = 3) && decide (da = 255 ∨ da = 254) && decide (room = true),
    decide (onn = true) && decide (pgn = 60928) && decide (st ≠ 3) && decide (da ≠ 255) && decide (da ≠ addr),
    decide (onn = true) && decide (forUs = false),
    decide (forUs = true) && decide (dt = false) && decide (heard),
    decide (forUs = true) && decide (dt = false) && decide (nth data 0 = 255),
    decide (forUs = true) && decide (dt = false) && decide (bam = true) && decide (nth data 0 = 32) && decide (good = true),
    decide (forUs = true) && decide (dt = false) && decide (bam = false) && decide (nth data 0 = 16) && decide (good = true) && decide (room = true),
    decide (forUs = true) && decide (dt = false) && decide (bam = false) && decide (nth data 0 = 16) && decide (good = false) && decide (room = true),
    decide (forUs = true) && decide (dt = true) && decide (x.tps = []),
    decide (forUs = true) && decide (dt = true) && decide (bam = true) && decide (x.tps = [p]) && decide (p.src = src) && decide (p.bam = true) && decide (nth data 0 = p.next) && decide (p.next ≠ p.packets),
    decide (forUs = true) && decide (dt = true) && decide (bam = true) && decide (x.tps = [p]) && decide (p.src = src) && decide (p.bam = true) && decide (nth data 0 = p.next) && decide (p.next = p.packets),
    decide (forUs = true) && decide (dt = true) && decide (bam = true) && decide (x.tps = [p]) && decide (p.src = src) && decide (p.bam = true) && decide (nth data 0 ≠ p.next),
    decide (onn = true) && decide (st ≠ 2 ∨ (pgn / 256 % 256 < 240 ∧ da ≠ 255 ∧ da ≠ addr) ∨ d.arch.canMap = [])]

/-- Each clause of Iso11783 has a state and operands that meet its hypotheses. -/
theorem test_Iso11783_witness1 : (
    met (hypIso11783 (pick Sts 127) 1000 0 9223372036854775815 60928 255 10 true [32, 20, 0, 3, 255, 1, 2, 0] (⟨9, true, 77, 20, 3, 1, []⟩)) [0] &&
    met (hypIso11783 (pick Sts 23) 10000000000 130 0 60928 200 9 false [1, 2] (⟨9, true, 77, 20, 3, 1, []⟩)) [1, 2, 4, 9, 13, 22] &&
    met (hypIso11783 (pick Sts 40) 1000000000000000 130 9223372036854775815 65280 254 9 false [32, 20, 0, 3, 255, 1, 2, 0] (⟨9, true, 77, 20, 3, 3, [1]⟩)) [3, 6, 8, 12] &&
    met (hypIso11783 (pick Sts 33) 1000 200 5 60928 254 9 false [7] (⟨9, true, 77, 20, 3, 3, [1]⟩)) [5, 11] &&
    met (hypIso11783 (pick Sts 15) 1000000000000000 130 0 60928 255 9 true [7] (⟨9, true, 77, 20, 3, 1, []⟩)) [7, 21]) = true := by decide +kernel

/-- More clauses of Iso11783. -/
theorem test_Iso11783_witness2 : (
    met (hypIso11783 (pick Sts 35) 1000 200 0 500 255 10 true [16, 20, 0, 3, 255, 1, 2, 0] (⟨9, true, 77, 20, 3, 3, [1]⟩)) [18] &&
    met (hypIso11783 (pick Sts 49) 1000000 130 5 60928 254 9 true [3, 5] (⟨9, true, 77, 20, 3, 3, [1]⟩)) [10] &&
    met (hypIso11783 (pick Sts 14) 1000000000000000 0 5 500 255 9 false [32, 20, 0, 3, 255, 1, 2, 0] (⟨9, true, 77, 20, 3, 1, []⟩)) [15] &&
    met (hypIso11783 (pick Sts 54) 10000000000 200 5 500 200 10 false [16, 2, 0, 3, 255, 1, 2, 0] (⟨9, true, 77, 20, 3, 3, [1]⟩)) [17] &&
    met (hypIso11783 (pick Sts 13) 0 200 0 60928 255 9 false [255] (⟨9, true, 77, 20, 3, 1, []⟩)) [14]) = true := by decide +kernel

/-- More clauses of Iso11783. -/
theorem test_Iso11783_witness3 : (
    met (hypIso11783 (pick Sts 19) 1000000 130 0 65280 255 9 true [3, 4] (⟨9, true, 77, 20, 3, 3, [1]⟩)) [20] &&
    met (hypIso11783 (pick Sts 16) 1000000 254 9223372036854775815 65280 130 10 false [16, 20, 0, 3, 255, 1, 2, 0] (⟨9, true, 77, 20, 3, 1, []⟩)) [16] &&
    met (hypIso11783 (pick Sts 46) 10000000000 200 5 500 255 9 true [1, 2] (⟨9, true, 77, 20, 3, 1, []⟩)) [19]) = true := by decide +kernel

/-- The hypotheses of the clauses of ArchiveAndSnapshots. -/
def hypArchiveAndSnapshots (s : State) (t : Tick) (ch : Ch) (present : Bool) (decodes : Bool) (crcOk : Bool) (fail : Bool) (bits : Nat) : List Bool :=
  let d := s.m.seenDev t
  let c := s.m.seen t ch
  let a := d.arch
  let code := d.g ARC_OP_CODE
  let runs := d.alive && d.b ARC_OP_GO
  let read := if !present then 5 else if !decodes then 2 else if !crcOk then 3 else if bits = 0 then 0 else 1
  let wrote := if !present then 5 else if code = 3 then 0 else if fail then 4 else 0
  let post := decide (c.ring.phase = .post)
  let starts := d.up && decide (a.writing = none) && (c.state != OFF && post || decide (c.ring.phase = .frozen))
  let idx := ((List.range a.ringSlots).map (fun i => (a.nextIndex + i) % 2 ^ 32)).find? (fun i => !a.retired.contains (i % a.ringSlots))
  let writes := d.up && decide (a.writing = some ch) && decide (c.ring.phase = .frozen) && idx.isSome
  let due := d.up && decide (d.bist.mode ≠ .undercoat) && !decide (partSpares 6 < nth a.used 6) && d.since d.baseAt (ms 600000)
  [decide (d.alive = false),
    decide (d.alive = true),
    decide (runs = false),
    decide (runs = true) && decide (code = 0) && decide (read = 5),
    decide (runs = true) && decide (code = 0) && decide (read = 0),
    decide (runs = true) && decide (code = 0) && decide (read = 1) && decide (d.srcActive ECC_CORR = false),
    decide (runs = true) && decide (code = 0) && decide (read = 2 ∨ read = 3) && decide (d.srcActive ECC_UNCORR = false),
    decide (runs = true) && decide (code ≠ 0) && decide (wrote ≠ 4),
    decide (runs = true) && decide (code ≠ 0) && decide (wrote = 4) && decide (d.srcActive BAD_BLOCK = false),
    decide (starts = false),
    decide (starts = true),
    decide (writes = false),
    decide (writes = true),
    decide (due = false),
    decide (due = true)]

/-- Each clause of ArchiveAndSnapshots has a state and operands that meet its hypotheses. -/
theorem test_ArchiveAndSnapshots_witness1 : (
    met (hypArchiveAndSnapshots (pick Sts 127) 1000 .a false true true false 3) [1, 2, 9, 11, 13] &&
    met (hypArchiveAndSnapshots (pick Sts 99) 1000000000000000 .a false true false false 3) [7, 10, 14] &&
    met (hypArchiveAndSnapshots (pick Sts 112) 0 .a true false true false 3) [6, 12] &&
    met (hypArchiveAndSnapshots (pick Sts 123) 1000000 .a false true true false 3) [3] &&
    met (hypArchiveAndSnapshots (pick Sts 97) 1000 .a true false true true 3) [8]) = true := by decide +kernel

/-- More clauses of ArchiveAndSnapshots. -/
theorem test_ArchiveAndSnapshots_witness2 : (
    met (hypArchiveAndSnapshots (pick Sts 64) 1000000 .a true false false false 0) [0] &&
    met (hypArchiveAndSnapshots (pick Sts 111) 1000000000000000 .a true true true false 0) [4] &&
    met (hypArchiveAndSnapshots (pick Sts 125) 1000000000000000 .b true true true false 17) [5]) = true := by decide +kernel

end WNet

namespace WCol1
def prim (c : Chan) : Chan := { c.p CH_STATE_STATE 1 with subs := [⟨1, 4, 1, 0, 1, [1,2], 0, 0, 0⟩] }
def ds : List Dev := [({} : Dev), b0, cl 2 b0, cl 3 b0, (cl 3 b0).onFlow 4 (fun f => { f with opened := true, queue := 17, out := true }), (cl 3 b0).onQueue 1 (fun q => { q with rsv := 8 }), { cl 3 b0 with arch := { used := [9,9,9,9,9,9,9,9] } }, { cl 3 b0 with lc := 4 }, { cl 3 b0 with lc := 2 }, (cl 3 b0).wr NTF_PEND0 0xFFFFFFFF, (cl 3 b0).onFlow 5 (fun f => { f with opened := true, queue := 17 })]
def Sts : List State := ds.flatMap (fun f => [mkS f prim prim, mkS f prim (fun c => c.p CH_STATE_STATE 3), mkS f id prim])

/-- The hypotheses of the clauses of ColmoLinkCommands. -/
def hypColmoLinkCommands (s : State) (t : Tick) (rq : Req) (args : List Nat) : List Bool :=
  let d := s.m.seenDev t
  let idle := decide ((s.m.seenAt t).Idle ∧ d.CanAnswer rq)
  let u8 := fun (k : Nat) => nth args k
  let key := d.sessionKey (part args 0 113)
  let keyBad := decide (3 < u8 116) || key.isNone
  let x := d.flow (u8 0)
  let dir := if u8 2 < 8 then u8 1 = 0 else if u8 2 < 56 then u8 1 = 1 else True
  let range := decide (u8 1 ≤ 1 ∧ u8 2 ≤ 63 ∧ u8 3 ≠ 0 ∧ u8 4 ≤ 1 ∧ dir)
  let fits := decide ((u8 1 = 0 → d.initSum (u8 2) + u8 3 ≤ (d.queue (u8 2)).rsv) ∧ d.rsvSum ≤ 1024)
  let primed := decide (∀ ch ∈ [Ch.a, Ch.b], (s.m.chan ch).state = OFF ∨ (s.m.chan ch).state = PRIMED)
  let pairs := (List.range (args.length / 8)).map (fun k => (be args (4 + 8 * k) 4, be args (8 + 8 * k) 4))
  let cfgOk := decide (∀ p ∈ pairs, cfgBits p.1 ≠ 0)
  [decide (d.up = false),
    decide (idle),
    decide (idle) && decide (args.length % 8 ≠ 4),
    decide (idle) && decide (d.holds 0 = false),
    decide (idle) && decide (d.holds 2 = false) && decide (args.length = 4),
    decide (idle) && decide (d.holds 2 = false) && decide (args.length % 8 = 4),
    decide (idle) && decide (args = []),
    decide (idle) && decide (d.holds 0 = true) && decide (args = []),
    decide (idle) && decide (d.holds 0 = true) && decide (args.length = 184) && decide (keyBad = true),
    decide (idle) && decide (d.holds 0 = true) && decide (args.length = 184),
    decide (idle) && decide (d.holds 0 = true) && decide (args.length = 8) && decide (¬ range),
    decide (idle) && decide (d.holds 0 = true) && decide (args.length = 8) && decide (range) && decide (x.opened = true ∨ ¬ fits),
    decide (idle) && decide (d.holds 0 = true) && decide (args.length = 8) && decide (range) && decide (x.opened = false) && decide (fits),
    decide (idle) && decide (d.holds 0 = true) && decide (args.length = 4) && decide (u8 0 < 3),
    decide (idle) && decide (d.holds 0 = true) && decide (args.length = 4) && decide (3 ≤ u8 0) && decide (x.opened = false),
    decide (idle) && decide (d.holds 0 = true) && decide (args.length = 4) && decide (3 ≤ u8 0) && decide (x.opened = true) && decide (x.bundle = none) && decide ((d.queue x.queue).frames = []) && decide ((d.flow rq.flow).pair ≠ u8 0) && decide (rq.flow ≠ u8 0),
    decide (idle) && decide (d.holds 0 = true) && decide (args.length = 12),
    decide (idle) && decide (d.holds 0 = true) && decide (args.length = 8) && decide (args.any (fun v => decide (4 < v)) = true),
    decide (idle) && decide (d.holds 0 = true) && decide (args.length = 8) && decide (args.any (fun v => decide (4 < v)) = false),
    decide (idle) && decide (d.holds 2 = true) && decide (args.length = 4) && decide (¬ primed),
    decide (idle) && decide (d.holds 2 = true) && decide (args.length = 4) && decide (primed) && decide (62 < u8 0),
    decide (idle) && decide (d.holds 2 = true) && decide (args.length = 4) && decide (primed) && decide (u8 0 ≤ 62) && decide (d.arch.full 5 = true),
    decide (idle) && decide (d.holds 2 = true) && decide (args.length = 4) && decide (primed) && decide (u8 0 ≤ 62) && decide (d.arch.full 5 = false),
    decide (idle) && decide (d.holds 2 = true) && decide (args.length % 8 = 4) && decide (u8 0 ≤ 3) && decide (cfgOk) && decide (d.arch.full 5 = false),
    decide (idle) && decide (d.holds 2 = true) && decide (args.length % 8 = 4) && decide (3 < u8 0),
    decide (idle) && decide (d.holds 2 = true) && decide (args.length % 8 = 4) && decide (u8 0 ≤ 3) && decide (¬ cfgOk)]

/-- Each clause of ColmoLinkCommands has a state and operands that meet its hypotheses. -/
theorem test_ColmoLinkCommands_witness1 : (
    met (hypColmoLinkCommands (pick Sts 6) 1000000000 (⟨0, 5, 1, 0, 7, 99, 12⟩) []) [1, 2, 6, 7] &&
    met (hypColmoLinkCommands (pick Sts 21) 1000 (⟨0, 5, 1, 0, 7, 99, 12⟩) [5, 0, 0, 0]) [3, 4, 5] &&
    met (hypColmoLinkCommands (pick Sts 30) 1000 (⟨0, 5, 1, 0, 7, 99, 12⟩) [5, 0, 0, 0]) [15, 22, 24] &&
    met (hypColmoLinkCommands (pick Sts 31) 1000000000 (⟨0, 5, 1, 0, 7, 99, 12⟩) [2, 0, 0, 0]) [13, 19, 23] &&
    met (hypColmoLinkCommands (pick Sts 24) 1000000000 (⟨0, 5, 1, 0, 7, 99, 12⟩) ((List.replicate 184 0))) [8, 9]) = true := by decide +kernel

/-- More clauses of ColmoLinkCommands. -/
theorem test_ColmoLinkCommands_witness2 : (
    met (hypColmoLinkCommands (pick Sts 9) 1000000000 (⟨0, 5, 1, 0, 7, 99, 12⟩) [1, 0, 0, 0, 16, 7, 0, 0, 0, 0, 0, 1]) [16, 25] &&
    met (hypColmoLinkCommands (pick Sts 12) 1000000000 (⟨0, 5, 1, 0, 7, 99, 12⟩) [0, 1, 2, 3, 4, 0, 0, 0]) [10, 18] &&
    met (hypColmoLinkCommands (pick Sts 6) 0 (⟨0, 5, 1, 0, 7, 99, 12⟩) [5, 1, 16, 3, 0, 5, 0, 0]) [12, 17] &&
    met (hypColmoLinkCommands (pick Sts 17) 1000000000 (⟨0, 5, 1, 0, 7, 99, 12⟩) [77, 0, 0, 0]) [14, 20] &&
    met (hypColmoLinkCommands (pick Sts 0) 1000000000 (⟨0, 5, 1, 0, 7, 99, 12⟩) [1, 0, 0, 0, 16, 2, 0, 0, 0, 0, 0, 1]) [0]) = true := by decide +kernel

/-- More clauses of ColmoLinkCommands. -/
theorem test_ColmoLinkCommands_witness3 : (
    met (hypColmoLinkCommands (pick Sts 5) 0 (⟨0, 5, 1, 0, 7, 99, 12⟩) [5, 0, 1, 3, 1, 4, 0, 0]) [11] &&
    met (hypColmoLinkCommands (pick Sts 18) 1000 (⟨0, 5, 1, 0, 7, 99, 12⟩) [4, 0, 0, 0]) [21]) = true := by decide +kernel

end WCol1

namespace WCol2
def ent1 : List Nat := [0,0,0xEF,0, 9, 0,8, 16, 0x3F,0x80,0,0, 0,0,0,0, 4,1, 1, 0, 0,50, 0,0]
def prim (c : Chan) : Chan := { c.p CH_STATE_STATE 1 with subs := [⟨1, 4, 1, 0, 1, [1,2], 0, 0, 0⟩] }
def fl (d : Dev) : Dev := (d.onFlow 4 (fun f => { f with opened := true, queue := 57, out := true })).onFlow 6 (fun f => { f with opened := true, queue := 58, out := false })
def sn (i : Nat) : Snap := { index := i, ch := .b, manual := true, hold := false, period := 5, trigTime := 6, cause := 7, causeSeq := 8, cfg := {}, samples := [] }
def ds : List Dev := [({} : Dev), { fl b3 with bist := { b3.bist with mode := .request } }, b0, cl 2 b0, fl b3, fl b3, fl b3, fl b3, { fl b3 with arch := { used := [9,9,9,9,9,9,9,9] } }, { fl b3 with lc := 4 }, { fl b3 with lc := 2 }, { fl b3 with otp := { b3.otp with idKey := some 123 } }, { fl b3 with arch := { snaps := [sn 0, sn 1, sn 2], ringSlots := 4, retired := [1], snapBlocks := 4, boot := [{ onTrial := true, slot := 1 }, { onTrial := true }] } },
  { fl b3 with colmo := { b3.colmo with staged := [0, 1] } }, { fl b3 with colmo := { b3.colmo with staged := [0, 1], activating := true } }, { fl b3 with colmo := { b3.colmo with arcRead := some ⟨0,4,0,5,0,[]⟩ } }, { fl b3 with colmo := { b3.colmo with staging := some ⟨0,4,0,5,⟨0, 5, 1, 0, 7, 99, 12⟩,[]⟩ } }, (fl b3).p BIST_CFG_UC_EN 0, { fl b3 with colmo := { b3.colmo with mapShadow := [(3, entOf ent1)] }, arch := { canMap := [(1, entOf ent1)] } }]
def own (c : Chan) : Chan := { prim c with ctl := { c.ctl with owner := some 256 } }
def Sts : List State := ds.flatMap (fun f => [mkS f prim prim, mkS f prim prim, mkS f prim prim, mkS f prim (fun c => c.p CH_STATE_STATE 3), mkS f own prim, mkS f (fun c => { prim c with ring := { c.ring with phase := .frozen } }) prim])

/-- The hypotheses of the clauses of ColmoDeviceCommands. -/
def hypColmoDeviceCommands (s : State) (t : Tick) (rq : Req) (args : List Nat) : List Bool :=
  let d := s.m.seenDev t
  let m := s.m.seenAt t
  let a := d.arch
  let co := d.colmo
  let idle := decide (m.Idle ∧ d.CanAnswer rq)
  let can := fun (k len : Nat) => decide (m.Idle ∧ d.CanAnswer rq ∧ d.holds k = true ∧ args.length = len)
  let u8 := fun (k : Nat) => nth args k
  let u32 := fun (k : Nat) => be args k 4
  let flow := fun (f : Nat) (out : Bool) => (d.flow f).opened && (d.flow f).out == out && decide (56 ≤ (d.flow f).queue)
  let arcArgs := decide (u8 0 ≤ 8 ∧ flow (u8 1) true = true)
  let bistArgs := decide (u8 0 ≤ 7 ∧ u8 1 ≤ 2 ∧ u8 2 ≤ 1)
  let quiet := decide (∀ ch ∈ [Ch.a, Ch.b], ((s.m.chan ch).state = OFF ∨ (s.m.chan ch).state = PRIMED) ∧ (s.m.chan ch).cfbOpen = true)
  let mayShut := decide (∀ ch ∈ [Ch.a, Ch.b], (s.m.chan ch).state ≠ ARMED ∧ (s.m.chan ch).state ≠ RUN ∧ (s.m.chan ch).b DUST_STATUS_SPD_HIGH = false)
  let snapFree := decide ((s.m.chan .a).ring.phase = .running ∧ (s.m.chan .b).ring.phase = .running ∧ a.writing = none)
  let kind := u8 0
  let ctl := a.ctl kind
  let spare := 2 * kind + (1 - ctl.active)
  let stageArgs := decide (kind ≤ 1 ∧ flow (u8 1) false = true ∧ u32 4 ≤ a.partSize spare)
  let idx := a.trialIndex kind
  let ents := (List.range (u8 1)).map (fun i => entOf (part args (4 + 24 * i) 24))
  let table := decide (u8 1 ≠ 0) && decide (u8 0 + u8 1 ≤ 64)
  let crc := fun (w : Nat) => decide (crc32.of ((List.range 64).flatMap (fun i => (tabGet co.mapShadow noEnt i).bytes)) = w)
  [decide (d.up = false),
    decide (idle),
    decide (idle) && decide (args.length ≠ 4 + 24 * u8 1),
    decide (can 0 4),
    decide (can 0 16) && decide (co.arcRead.isSome = true),
    decide (can 0 16) && decide (co.arcRead = none) && decide (¬ arcArgs),
    decide (can 0 16) && decide (co.arcRead = none) && decide (arcArgs) && decide (a.noRead (u8 0) (be args 4 8) (u32 12) = true),
    decide (can 0 16) && decide (co.arcRead = none) && decide (arcArgs) && decide (a.noRead (u8 0) (be args 4 8) (u32 12) = false),
    decide (can 0 0),
    decide (can 3 4) && decide (¬ bistArgs),
    decide (can 3 4) && decide (bistArgs) && decide (m.bistRefused (u8 0) (u8 1) = true),
    decide (can 3 4) && decide (bistArgs) && decide (u8 0 = 0) && decide (m.bistRefused (u8 0) (u8 1) = false),
    decide (can 1 4) && decide (¬ mayShut),
    decide (can 1 4) && decide (mayShut) && decide (u8 0 ≠ 1) && decide (u8 0 ≠ 2),
    decide (can 1 4) && decide (mayShut) && decide (u8 0 = 1 ∨ u8 0 = 2) && decide (¬ snapFree),
    decide (can 1 4) && decide (mayShut) && decide (u8 0 = 1 ∨ u8 0 = 2) && decide (snapFree) && decide (d.b BIST_CFG_UC_EN = false),
    decide (can 2 40) && decide (co.staging.isSome = true ∨ co.activating = true),
    decide (can 2 40) && decide (co.staging = none) && decide (co.activating = false) && decide (¬ stageArgs),
    decide (can 2 40) && decide (co.staging = none) && decide (co.activating = false) && decide (stageArgs) && decide (a.full spare = false),
    decide (can 2 4) && decide (¬ quiet ∨ co.staged.contains kind = false),
    decide (can 2 4) && decide (quiet) && decide (co.staged.contains kind = true) && decide (co.activating = true),
    decide (can 2 4) && decide (quiet) && decide (co.staged.contains kind = true) && decide (co.activating = false) && decide (kind ≤ 1),
    decide (can 2 4) && decide (1 < kind),
    decide (can 2 4) && decide (kind ≤ 1) && decide (ctl.onTrial = false ∨ a.below (1 - kind) (max d.otp.rollbackCount idx) = true),
    decide (can 2 4) && decide (kind ≤ 1) && decide (ctl.onTrial = true) && decide (a.below (1 - kind) (max d.otp.rollbackCount idx) = false),
    decide (can 0 100) && decide (¬ quiet),
    decide (can 0 100) && decide (quiet) && decide (co.activating = true),
    decide (can 0 100) && decide (quiet) && decide (co.activating = false),
    decide (can 0 32) && decide (d.otp.idKey = none),
    decide (can 0 32),
    decide (can 2 (4 + 24 * u8 1)) && decide (table = true) && decide (ents.all MapEnt.ok = true),
    decide (can 2 (4 + 24 * u8 1)) && decide (table = false ∨ ents.all MapEnt.ok = false),
    decide (can 2 4) && decide ((s.m.chan .a).ctl.owner = some 256 ∨ (s.m.chan .b).ctl.owner = some 256),
    decide (can 2 4) && decide ((s.m.chan .a).ctl.owner ≠ some 256) && decide ((s.m.chan .b).ctl.owner ≠ some 256) && decide (crc (u32 0) = false),
    decide (can 2 4) && decide ((s.m.chan .a).ctl.owner ≠ some 256) && decide ((s.m.chan .b).ctl.owner ≠ some 256) && decide (crc (u32 0) = true) && decide (a.full 5 = false),
    decide (can 0 4) && decide (table = false ∨ 58 < u8 1),
    decide (can 0 4) && decide (table = true) && decide (u8 1 ≤ 58)]

/-- Each clause of ColmoDeviceCommands has a state and operands that meet its hypotheses. -/
theorem test_ColmoDeviceCommands_witness1 : (
    met (hypColmoDeviceCommands (pick Sts 95) 0 (⟨0, 5, 1, 0, 7, 99, 12⟩) [1, 3, 0, 0]) [1, 2, 3, 9, 14, 19, 23, 33, 36] &&
    met (hypColmoDeviceCommands (pick Sts 83) 1000 (⟨0, 5, 1, 0, 7, 99, 12⟩) [0, 0, 0, 0]) [11, 13, 21, 31, 35]) = true := by decide +kernel

/-- More clauses of ColmoDeviceCommands. -/
theorem test_ColmoDeviceCommands_witness2 : (
    met (hypColmoDeviceCommands (pick Sts 63) 1000000000 (⟨0, 5, 1, 0, 7, 99, 12⟩) [108, 28, 225, 126]) [12, 22, 34] &&
    met (hypColmoDeviceCommands (pick Sts 88) 1000000000 (⟨0, 5, 1, 0, 7, 99, 12⟩) [1, 60, 0, 0]) [20, 32]) = true := by decide +kernel

/-- More clauses of ColmoDeviceCommands. -/
theorem test_ColmoDeviceCommands_witness3 : (
    met (hypColmoDeviceCommands (pick Sts 3) 1000 (⟨0, 5, 1, 0, 7, 99, 12⟩) [0, 0, 0, 5]) [0] &&
    met (hypColmoDeviceCommands (pick Sts 24) 1000000000 (⟨0, 5, 1, 0, 7, 99, 12⟩) []) [8]) = true := by decide +kernel

/-- More clauses of ColmoDeviceCommands. -/
theorem test_ColmoDeviceCommands_witness4 : (
    met (hypColmoDeviceCommands (pick Sts 51) 1000 (⟨0, 5, 1, 0, 7, 99, 12⟩) ((List.replicate 32 1))) [28, 29] &&
    met (hypColmoDeviceCommands (pick Sts 69) 1000000000 (⟨0, 5, 1, 0, 7, 99, 12⟩) [8, 4, 0, 0, 0, 0, 0, 0, 0, 0, 0, 0, 0, 0, 0, 5]) [6]) = true := by decide +kernel

/-- More clauses of ColmoDeviceCommands. -/
theorem test_ColmoDeviceCommands_witness5 : (
    met (hypColmoDeviceCommands (pick Sts 36) 1000000000 (⟨0, 5, 1, 0, 7, 99, 12⟩) [0, 4, 0, 0, 0, 0, 0, 0, 0, 0, 0, 0, 0, 0, 0, 0, 0, 0, 0, 0, 0, 0, 0, 0, 0, 0, 0, 0, 0, 0, 0, 0, 0, 0, 0, 0, 0, 0, 0, 0]) [17] &&
    met (hypColmoDeviceCommands (pick Sts 105) 1000000000 (⟨0, 5, 1, 0, 7, 99, 12⟩) [0, 6, 0, 0, 0, 0, 0, 0, 0, 0, 0, 0, 0, 0, 0, 0, 0, 0, 0, 0, 0, 0, 0, 0, 0, 0, 0, 0, 0, 0, 0, 0, 0, 0, 0, 0, 0, 0, 0, 0]) [18]) = true := by decide +kernel

/-- More clauses of ColmoDeviceCommands. -/
theorem test_ColmoDeviceCommands_witness6 : (
    met (hypColmoDeviceCommands (pick Sts 81) 1000000000 (⟨0, 5, 1, 0, 7, 99, 12⟩) [3, 2, 0, 0, 0, 0, 239, 0, 9, 0, 8, 16, 63, 128, 0, 0, 0, 0, 0, 0, 4, 1, 1, 0, 0, 50, 0, 0, 0, 0, 0, 0, 0, 0, 0, 0, 0, 0, 0, 0, 0, 0, 0, 0, 0, 0, 0, 0, 0, 0, 0, 0]) [30] &&
    met (hypColmoDeviceCommands (pick Sts 112) 0 (⟨0, 5, 1, 0, 7, 99, 12⟩) ((List.replicate 100 0))) [27]) = true := by decide +kernel

/-- More clauses of ColmoDeviceCommands. -/
theorem test_ColmoDeviceCommands_witness7 : (
    met (hypColmoDeviceCommands (pick Sts 93) 0 (⟨0, 5, 1, 0, 7, 99, 12⟩) [0, 4, 0, 0, 0, 0, 0, 0, 0, 0, 0, 0, 0, 0, 0, 0]) [4] &&
    met (hypColmoDeviceCommands (pick Sts 87) 1000 (⟨0, 5, 1, 0, 7, 99, 12⟩) [0, 4, 0, 0, 0, 0, 0, 0, 0, 0, 0, 0, 0, 0, 0, 0, 0, 0, 0, 0, 0, 0, 0, 0, 0, 0, 0, 0, 0, 0, 0, 0, 0, 0, 0, 0, 0, 0, 0, 0]) [16]) = true := by decide +kernel

/-- More clauses of ColmoDeviceCommands. -/
theorem test_ColmoDeviceCommands_witness8 : (
    met (hypColmoDeviceCommands (pick Sts 65) 1000 (⟨0, 5, 1, 0, 7, 99, 12⟩) [9, 4, 0, 0, 0, 0, 0, 0, 0, 0, 0, 0, 0, 0, 0, 0]) [5] &&
    met (hypColmoDeviceCommands (pick Sts 9) 0 (⟨0, 5, 1, 0, 7, 99, 12⟩) ((List.replicate 100 0))) [25]) = true := by decide +kernel

/-- More clauses of ColmoDeviceCommands. -/
theorem test_ColmoDeviceCommands_witness9 : (
    met (hypColmoDeviceCommands (pick Sts 6) 1000000000 (⟨0, 5, 1, 0, 7, 99, 12⟩) [0, 4, 0, 0, 0, 0, 0, 0, 0, 0, 0, 0, 0, 0, 0, 0]) [7] &&
    met (hypColmoDeviceCommands (pick Sts 10) 1000 (⟨0, 5, 1, 0, 7, 99, 12⟩) [0, 1, 1, 0]) [10]) = true := by decide +kernel

/-- More clauses of ColmoDeviceCommands. -/
theorem test_ColmoDeviceCommands_witness10 : (
    met (hypColmoDeviceCommands (pick Sts 73) 1000000000 (⟨0, 5, 1, 0, 7, 99, 12⟩) [0, 1, 1, 0]) [24] &&
    met (hypColmoDeviceCommands (pick Sts 88) 1000 (⟨0, 5, 1, 0, 7, 99, 12⟩) ((List.replicate 100 0))) [26]) = true := by decide +kernel

/-- More clauses of ColmoDeviceCommands. -/
theorem test_ColmoDeviceCommands_witness11 : (
    met (hypColmoDeviceCommands (pick Sts 102) 1000000000 (⟨0, 5, 1, 0, 7, 99, 12⟩) [2, 0, 0, 0]) [15]) = true := by decide +kernel

end WCol2

namespace WCol3
def prim (c : Chan) : Chan := { c.p CH_STATE_STATE 1 with subs := [⟨1, 4, 1, 0, 1, [1,2], 0, 0, 0⟩] }
def stt (n : Nat) (c : Chan) : Chan := (prim c).p CH_STATE_STATE n
def fl (d : Dev) : Dev := ((d.onFlow 4 (fun f => { f with opened := true, queue := 57, out := true })).onFlow 9 (fun f => { f with opened := true, queue := 20, out := true })).onFlow 8 (fun f => { f with opened := true, queue := 20, out := false })
def ds : List Dev := [({} : Dev), b0, cl 2 b0, fl b3, fl b3, fl b3, fl b3, { fl b3 with arch := { used := [9,9,9,9,9,9,9,9,9999999,999999] } }, { fl b3 with lc := 4 }, (fl b3).p ETH_STATUS_SPEED 2, (fl b3).p ETH_STATUS_SPEED 2]
def Sts : List State := ds.flatMap (fun f => [mkS f prim prim, mkS f prim prim, mkS f id (stt 1), mkS f (stt 3) (stt 5), mkS f (stt 4) (fun c => (stt 4 c).p DUST_STATUS_SPD_HIGH 1), mkS f (fun c => { prim c with ring := { c.ring with phase := .frozen } }) prim,
  mkS f (fun c => { (prim c) with ctl := { c.ctl with arm := some ⟨false, .check, 0, 0, 0⟩ } }) (fun c => (prim c).p CONT_STATUS_CFB 1)])

/-- The hypotheses of the clauses of ColmoChannelCommands. -/
def hypColmoChannelCommands (s : State) (t : Tick) (ch : Ch) (rq : Req) (args : List Nat) (x : Subscr) (target : Nat) : List Bool :=
  let d := s.m.seenDev t
  let c := s.m.seen t ch
  let m := s.m.seenAt t
  let ok := fun (k len : Nat) => decide (m.Idle ∧ d.CanAnswer rq ∧ d.holds k = true ∧ args.length = len)
  let onn := fun (k len : Nat) => decide (ok k len ∧ c.state ≠ OFF)
  let u8 := fun (k : Nat) => nth args k
  let u16 := fun (k : Nat) => be args k 2
  let u32 := fun (k : Nat) => be args k 4
  let aimed := decide (target = (if ch = .a then 1 else 2))
  let kind := if u8 0 = 1 then Kind.safety else Kind.tuning
  let total := kind.addrs.length
  let window := decide (u8 0 ≤ 1 ∧ u8 1 ≤ 1 ∧ 1 ≤ u16 6 ∧ u16 6 ≤ 160 ∧ u16 4 + u16 6 ≤ total)
  let refuses := decide ((c.state = ARMED ∨ c.state = RUN) ∨ ((c.state = HOLD ∨ c.state = FAULT) ∧ c.b DUST_STATUS_SPD_HIGH = true ∧ u8 1 ≠ 1))
  let f := d.flow (u8 1)
  let signals := (args.drop 8).take (u8 5)
  let n := slotSum signals
  let okSub := decide (u8 0 ≤ 3 ∧ f.opened = true ∧ f.out = true ∧ 16 ≤ f.queue ∧ f.queue ≤ 47 ∧ 1 ≤ u16 2 ∧ 1 ≤ u8 4 ∧ 1 ≤ u8 5 ∧ u8 5 ≤ 24 ∧ n.isSome = true ∧ n.getD 0 % 2 = 0 ∧ 1 ≤ n.getD 0 ∧ n.getD 0 ≤ 22 ∧ u8 4 * (20 + 2 * n.getD 0) ≤ (if d.b HQ_CTL_IPV6 then 1416 else 1436))
  let regs := signals.contains 62 || signals.contains 63
  let made := decide (x.sub = u8 0 ∧ x.flow = u8 1 ∧ x.decim = u16 2 ∧ x.count = 0 ∧ x.perFrame = u8 4 ∧ x.signals = signals ∧ x.reg0 = 0 ∧ x.reg1 = 0 ∧ x.idx = 0)
  let fast := decide (250000 < (c.withSub x).recRate) || decide ((4 * d.linkRate : Nat) < 5 * ((c.withSub x).bitRate + (s.m.chan ch.other).bitRate))
  let cfgBad := (args.take 16).any (fun k => signalSlots k != some 1) || decide (u16 16 = 0) || decide (1024 < u16 16)
  let pState := decide (c.state ≠ PRIMED ∨ (u8 0 = 1 ∧ c.g CONT_STATUS_CFB &&& c.fittedMask ≠ 0))
  let addr := u32 0
  let plain := decide (addr / 2 ^ 28 = (if ch = .a then 2 else 3) ∧ addr % 2 ^ 28 < 0xB000 ∧ regReach addr = .chan ch (addr % 2 ^ 28) ∧ isFifoData addr = false ∧ isLo addr = false ∧ (∀ h ∈ s.m.holds, h.addr ≠ addr))
  [decide (d.up = false),
    decide (m.Idle) && decide (d.CanAnswer rq),
    decide (m.Idle) && decide (d.CanAnswer rq) && decide (args.length ≠ 4) && decide (target = 1),
    decide (m.Idle) && decide (d.CanAnswer rq) && decide (args.length ≠ 8) && decide (target ≤ 2),
    decide (m.Idle) && decide (d.CanAnswer rq) && decide (2 < target),
    decide (m.Idle) && decide (d.CanAnswer rq) && decide (c.state = OFF),
    decide (ok 0 8) && decide (c.state ≠ OFF ∨ u8 1 = 0) && decide (¬ window),
    decide (ok 0 8) && decide (window) && decide (u8 1 = 0),
    decide (onn (if u8 0 = 1 then 2 else 1) 4) && decide (1 < u8 0),
    decide (onn (if u8 0 = 1 then 2 else 1) 4) && decide (u8 0 ≤ 1) && decide (d.arch.full 4 = true),
    decide (onn (if u8 0 = 1 then 2 else 1) 4) && decide (u8 0 ≤ 1) && decide (d.arch.full 4 = false),
    decide (onn 2 4) && decide (aimed) && decide (u8 0 = 0) && decide (refuses),
    decide (onn 2 4) && decide (aimed) && decide (u8 0 = 0) && decide (¬ refuses) && decide (u8 1 ≤ 1),
    decide (ok 2 4) && decide (target = 0) && decide (u8 0 = 1) && decide (u8 1 ≤ 1),
    decide (ok 2 4) && decide (target = 0) && decide (u8 0 = 0),
    decide (ok 0 8) && decide (target ≤ 2) && decide (u16 4 = 0 ∨ 256 < u16 4),
    decide (ok 0 8) && decide (target ≤ 2) && decide (u16 4 = 1) && decide (regReach addr = .none),
    decide (ok 0 8) && decide (target ≤ 2) && decide (u16 4 = 1) && decide (plain),
    decide (onn 0 40) && decide (¬ okSub),
    decide (onn 0 40) && decide (okSub) && decide (regs = false) && decide (u32 32 = 0) && decide (u32 36 = 0) && decide (made) && decide (fast = true),
    decide (onn 0 40) && decide (okSub) && decide (regs = false) && decide (u32 32 = 0) && decide (u32 36 = 0) && decide (made) && decide (fast = false),
    decide (onn 0 4) && decide (3 < u8 0),
    decide (onn 0 4) && decide (u8 0 ≤ 3),
    decide (onn 1 24) && decide (cfgBad = true),
    decide (onn 1 24) && decide (cfgBad = false),
    decide (onn 1 0) && decide (c.ring.phase ≠ .frozen),
    decide (onn 1 0) && decide (c.ring.phase = .frozen) && decide ((s.m.chan ch.other).ring.phase ≠ .frozen),
    decide (onn 1 4) && decide (pState),
    decide (onn 1 4) && decide (¬ pState) && decide (c.ctl.arm.isSome = true),
    decide (onn 1 4) && decide (¬ pState) && decide (c.ctl.arm = none) && decide (1 < u8 0),
    decide (onn 1 4) && decide (¬ pState) && decide (c.ctl.arm = none) && decide (u8 0 = 0) && decide (c.parked = false),
    decide (onn 1 4) && decide (¬ pState) && decide (c.ctl.arm = none) && decide (u8 0 = 1)]

/-- Each clause of ColmoChannelCommands has a state and operands that meet its hypotheses. -/
theorem test_ColmoChannelCommands_witness1 : (
    met (hypColmoChannelCommands (pick Sts 39) 0 .b (⟨0, 5, 1, 0, 7, 99, 12⟩) [4, 0, 0, 0] (⟨0, 9, 100, 0, 2, [1, 2], 0, 0, 0⟩) 3) [1, 4, 8, 21, 27] &&
    met (hypColmoChannelCommands (pick Sts 76) 1000 .b (⟨0, 5, 1, 0, 7, 99, 12⟩) [0, 1, 0, 0] (⟨0, 9, 100, 0, 2, [1, 2], 0, 0, 0⟩) 0) [3, 10, 14, 22, 30] &&
    met (hypColmoChannelCommands (pick Sts 30) 1000000000 .a (⟨0, 5, 1, 0, 7, 99, 12⟩) [64, 0, 0, 0, 0, 1, 0, 0] (⟨0, 9, 100, 0, 2, [1, 2], 0, 0, 0⟩) 1) [2, 5, 6, 16] &&
    met (hypColmoChannelCommands (pick Sts 3) 0 .b (⟨0, 5, 1, 0, 7, 99, 12⟩) [1, 0, 0, 0, 0, 1, 0, 9] (⟨0, 9, 100, 0, 2, [1, 2], 0, 0, 0⟩) 0) [0] &&
    met (hypColmoChannelCommands (pick Sts 50) 0 .a (⟨0, 5, 1, 0, 7, 99, 12⟩) [1, 0, 0, 0] (⟨1, 9, 1, 0, 2, [1, 2], 0, 0, 0⟩) 0) [9, 13, 31]) = true := by decide +kernel

/-- More clauses of ColmoChannelCommands. -/
theorem test_ColmoChannelCommands_witness2 : (
    met (hypColmoChannelCommands (pick Sts 26) 0 .a (⟨0, 5, 1, 0, 7, 99, 12⟩) [0, 0, 0, 0, 0, 0, 0, 2] (⟨0, 9, 100, 0, 2, [1, 2], 0, 0, 0⟩) 1) [7, 15] &&
    met (hypColmoChannelCommands (pick Sts 27) 1000 .a (⟨0, 5, 1, 0, 7, 99, 12⟩) [0, 0, 0, 0] (⟨0, 9, 100, 0, 2, [1, 2], 0, 0, 0⟩) 1) [12, 28] &&
    met (hypColmoChannelCommands (pick Sts 55) 1000000000 .a (⟨0, 5, 1, 0, 7, 99, 12⟩) [1, 1, 1, 1, 1, 1, 1, 1, 1, 1, 1, 1, 1, 1, 1, 1, 0, 0, 0, 0, 0, 0, 0, 0] (⟨1, 9, 1, 0, 2, [1, 2], 0, 0, 0⟩) 1) [23] &&
    met (hypColmoChannelCommands (pick Sts 32) 1000 .b (⟨0, 5, 1, 0, 7, 99, 12⟩) [1, 9, 0, 1, 2, 3, 0, 0, 1, 2, 3, 0, 0, 0, 0, 0, 0, 0, 0, 0, 0, 0, 0, 0, 0, 0, 0, 0, 0, 0, 0, 0, 0, 0, 0, 0, 0, 0, 0, 0] (⟨0, 9, 100, 0, 2, [1, 2], 0, 0, 0⟩) 2) [18] &&
    met (hypColmoChannelCommands (pick Sts 68) 0 .a (⟨0, 5, 1, 0, 7, 99, 12⟩) [0, 9, 0, 100, 2, 2, 0, 0, 1, 2, 0, 0, 0, 0, 0, 0, 0, 0, 0, 0, 0, 0, 0, 0, 0, 0, 0, 0, 0, 0, 0, 0, 0, 0, 0, 0, 0, 0, 0, 0] (⟨0, 9, 100, 0, 2, [1, 2], 0, 0, 0⟩) 2) [19]) = true := by decide +kernel

/-- More clauses of ColmoChannelCommands. -/
theorem test_ColmoChannelCommands_witness3 : (
    met (hypColmoChannelCommands (pick Sts 48) 1000 .a (⟨0, 5, 1, 0, 7, 99, 12⟩) [32, 0, 0, 0, 0, 1, 0, 0] (⟨0, 9, 100, 0, 2, [1, 2], 0, 0, 0⟩) 2) [17] &&
    met (hypColmoChannelCommands (pick Sts 35) 1000 .b (⟨0, 5, 1, 0, 7, 99, 12⟩) [] (⟨0, 9, 100, 0, 2, [1, 2], 0, 0, 0⟩) 1) [25] &&
    met (hypColmoChannelCommands (pick Sts 75) 1000000000 .b (⟨0, 5, 1, 0, 7, 99, 12⟩) [1, 9, 0, 1, 2, 2, 0, 0, 1, 2, 0, 0, 0, 0, 0, 0, 0, 0, 0, 0, 0, 0, 0, 0, 0, 0, 0, 0, 0, 0, 0, 0, 0, 0, 0, 0, 0, 0, 0, 0] (⟨1, 9, 1, 0, 2, [1, 2], 0, 0, 0⟩) 0) [20] &&
    met (hypColmoChannelCommands (pick Sts 20) 1000 .b (⟨0, 5, 1, 0, 7, 99, 12⟩) [1, 1, 1, 1, 1, 1, 1, 1, 1, 1, 1, 1, 1, 1, 1, 1, 0, 5, 0, 0, 0, 0, 0, 0] (⟨0, 9, 100, 0, 2, [1, 2], 0, 0, 0⟩) 0) [24] &&
    met (hypColmoChannelCommands (pick Sts 70) 0 .a (⟨0, 5, 1, 0, 7, 99, 12⟩) [4, 0, 0, 0] (⟨1, 9, 1, 0, 2, [1, 2], 0, 0, 0⟩) 3) [29]) = true := by decide +kernel

/-- More clauses of ColmoChannelCommands. -/
theorem test_ColmoChannelCommands_witness4 : (
    met (hypColmoChannelCommands (pick Sts 53) 1000 .b (⟨0, 5, 1, 0, 7, 99, 12⟩) [0, 0, 0, 0] (⟨1, 9, 1, 0, 2, [1, 2], 0, 0, 0⟩) 2) [11] &&
    met (hypColmoChannelCommands (pick Sts 75) 1000 .a (⟨0, 5, 1, 0, 7, 99, 12⟩) [] (⟨0, 9, 100, 0, 2, [1, 2], 0, 0, 0⟩) 2) [26]) = true := by decide +kernel

end WCol3

namespace WCol4
def prim (c : Chan) : Chan := { c.p CH_STATE_STATE 1 with subs := [⟨1, 4, 1, 0, 1, [1,2], 0, 0, 0⟩] }
def stt (n : Nat) (c : Chan) : Chan := (prim c).p CH_STATE_STATE n
def stg (n : Nat) (c : Chan) : Chan := ct (fun x => { x with stage := some ⟨n, 500, none⟩ }) (stt 1 c)
def stored : Stored := ⟨1, [], none⟩
def all : Dev := { b3 with colmo := { b3.colmo with readA := List.range 1000, readB := List.range 1000 }, arch := { psets := List.replicate 4 ⟨some stored, some stored⟩ } }
def ds : List Dev := [({} : Dev), b0, cl 1 b0, cl 2 b0, b3, b3, b3, all, all, { b3 with lc := 4 }]
def Sts : List State := ds.flatMap (fun f => [mkS f prim prim, mkS f id (stt 1), mkS f (stt 3) (stt 5), mkS f (stt 4) (stt 2), mkS f (stt 3) (stt 3), mkS f (fun c => { prim c with ring := { c.ring with phase := .frozen } }) prim,
  mkS f (stg 9) (stg 7), mkS f (stg 9) (ct (fun x => { x with stageLapsed := true, arm := some ⟨false, .check, 0, 0, 0⟩ }) ∘ stt 3), mkS f (ct (fun x => { x with stageLapsed := true }) ∘ stt 1) (ct (fun x => { x with commit := some ⟨.tuning, 0, 0, none⟩ }) ∘ stt 1),
  mkS f (ct (fun x => { x with lastSeq := some 200 }) ∘ stt 3) (ct (fun x => { x with lastSeq := some 20, owner := some 6 }) ∘ stt 3), mkS f (ct (fun x => { x with disarm := true }) ∘ stt 2) (fun c => (stt 3 c).p SKIM_STATUS_PASS_RUN 1), mkS f (fun c => (stt 3 c).p CORE_STATUS_HALTED 1) (fun c => (stt 5 c).p CORE_STATUS_HELD 1)])

/-- The hypotheses of the clauses of ColmoPostedCommands. -/
def hypColmoPostedCommands (s : State) (t : Tick) (ch : Ch) (rq : Req) (args : List Nat) (target : Nat) : List Bool :=
  let d := s.m.seenDev t
  let c := s.m.seen t ch
  let m := s.m.seenAt t
  let u8 := fun (k : Nat) => nth args k
  let u16 := fun (k : Nat) => be args k 2
  let u32 := fun (k : Nat) => be args k 4
  let ok := fun (k len : Nat) => decide (m.Idle ∧ d.CanAnswer rq ∧ d.holds k = true ∧ args.length = len)
  let onn := fun (k len : Nat) => decide (ok k len ∧ c.state ≠ OFF)
  let kindCls := if u8 0 = 1 then 2 else 1
  let busy := c.ctl.commit.isSome || c.ctl.arm.isSome
  let live := decide (c.state = ARMED ∨ c.state = RUN)
  let gone := decide (c.ctl.stageLapsed = true ∨ (∃ g ∈ c.ctl.stage, ms 5000 < t - g.at_))
  let kind := if u8 0 = 1 then Kind.safety else Kind.tuning
  let readAll := (List.range Kind.safety.addrs.length).all (fun i => (d.colmo.seen ch).contains i)
  let stale := (c.ctl.lastSeq.map (fun q => !newer rq.seq q)).getD false
  let foreign := (c.ctl.owner.map (fun o => o != rq.flow)).getD false
  let tqBad := (hostPu16 (u32 0) c.bases.t).isNone || (decide (u32 16 % 2 = 1) && (c.spdCode (u32 4)).isNone)
  let streamFault := fun (may bad : Bool) (deadline : Nat) => if c.ctl.disarm = true ∨ may = false then 5 else if bad = true then 3 else if stale = true then 8 else if deadline ≠ 0 ∧ deadline < d.time then 9 else if foreign = true then 0x0A else 0
  let tqFault := streamFault (c.state == RUN || c.state == ARMED) tqBad (be args 8 8)
  let spFault := streamFault (c.state == RUN) (c.spdCode (u32 0)).isNone (be args 4 8)
  let window := decide (u8 0 ≤ 1 ∧ u8 1 = 1 ∧ 1 ≤ u16 6 ∧ u16 6 ≤ 160 ∧ u16 4 + u16 6 ≤ kind.addrs.length)
  let tr : Triple := ⟨u32 0, u32 4, u32 8⟩
  let off := tr.addr % 2 ^ 28
  let chReg := decide (regReach tr.addr = .chan ch off)
  let devReg := decide (regReach tr.addr = .dev off)
  let held := [CH_REQ, COMMIT_CTL, COMMIT_CRC, TQ_REF, TQ_SEQ, SPD_LIM, TM_RES, TM_STATUS, TM_TIME_LO, TM_TIME_HI].contains off
  let smcOwn := [SYS_PWR_CTL, SYS_WDOG, SYS_WDOG_KICK, SYS_BLK_RST].contains off || [2, 3, 6, 7, 8].contains (off / 65536)
  let lk := decide (live ∧ lkBits off &&& tr.mask ≠ 0)
  let pend := decide (c.ctl.commit.isSome = true ∧ rwcBits off &&& tr.mask ≠ 0)
  [decide (d.up = false),
    decide (m.Idle) && decide (d.CanAnswer rq),
    decide (m.Idle) && decide (d.CanAnswer rq) && decide (2 < target),
    decide (m.Idle) && decide (d.CanAnswer rq) && decide (target = 0) && decide (args.length % 12 ≠ 0),
    decide (m.Idle) && decide (d.CanAnswer rq) && decide (c.state = OFF),
    decide (onn 1 4) && decide (busy = true),
    decide (onn 1 4) && decide (busy = false),
    decide (onn 2 76) && decide (live),
    decide (onn 2 76) && decide (¬ live) && decide (busy = true),
    decide (onn 2 76) && decide (¬ live) && decide (busy = false),
    decide (onn 2 4) && decide (live),
    decide (onn 2 4) && decide (¬ live) && decide (busy = true),
    decide (onn 2 4) && decide (¬ live) && decide (busy = false) && decide (gone),
    decide (onn 2 4) && decide (¬ live) && decide (busy = false) && decide (¬ gone) && decide (c.ctl.stage = none),
    decide (onn 2 4) && decide (¬ live) && decide (busy = false) && decide (¬ gone) && decide (∃ g ∈ c.ctl.stage, g.crc ≠ u32 0),
    decide (onn 2 4) && decide (¬ live) && decide (busy = false) && decide (¬ gone) && decide (∃ g ∈ c.ctl.stage, g.crc = u32 0) && decide (readAll = false),
    decide (onn 2 4) && decide (¬ live) && decide (busy = false) && decide (¬ gone) && decide (∃ g ∈ c.ctl.stage, g.crc = u32 0) && decide (readAll = true),
    decide (onn kindCls 4) && decide (c.ctl.commit.isSome = true),
    decide (onn kindCls 4) && decide (c.ctl.commit = none) && decide (1 < u8 0),
    decide (onn kindCls 4) && decide (c.ctl.commit = none) && decide (u8 0 ≤ 1) && decide (d.arch.newest ch kind = none),
    decide (onn kindCls 4) && decide (c.ctl.commit = none) && decide (u8 0 ≤ 1) && decide ((d.arch.newest ch kind).isSome = true),
    decide (onn 1 0) && decide (c.state ≠ PRIMED) && decide (c.state ≠ HOLD),
    decide (onn 1 0) && decide (c.state = PRIMED ∨ c.state = HOLD) && decide (busy = true),
    decide (onn 1 0) && decide (c.state = PRIMED ∨ c.state = HOLD) && decide (busy = false),
    decide (onn 0 0),
    decide (onn 1 0) && decide (c.state ≠ FAULT),
    decide (onn 1 0) && decide (c.state = FAULT),
    decide (onn 1 24) && decide (tqFault ≠ 0),
    decide (onn 1 24) && decide (tqFault = 0),
    decide (onn 1 16) && decide (spFault ≠ 0),
    decide (onn 1 16) && decide (spFault = 0),
    decide (onn 1 0) && decide (c.ring.phase ≠ .running),
    decide (onn 1 0) && decide (c.ring.phase = .running),
    decide (onn 1 0) && decide (c.b SKIM_STATUS_PASS_RUN = true),
    decide (onn 1 0) && decide (c.b SKIM_STATUS_PASS_RUN = false),
    decide (onn 0 8) && decide (window),
    decide (ok 1 12) && decide (target = 0) && decide (regReach tr.addr = .none),
    decide (ok 1 12) && decide (target = 0) && decide (chReg ∧ held = true ∨ devReg ∧ smcOwn = true),
    decide (ok 1 12) && decide (target = 0) && decide (devReg) && decide (smcOwn = false) && decide (d.holds tr.cls = false),
    decide (ok 1 12) && decide (target = 0) && decide (chReg) && decide (tr.owned = false) && decide (d.holds tr.cls = false),
    decide (ok 1 12) && decide (target = 0) && decide (chReg) && decide (tr.owned = false) && decide (d.holds tr.cls = true) && decide (c.state = OFF),
    decide (ok 1 12) && decide (target = 0) && decide (chReg) && decide (tr.owned = false) && decide (d.holds tr.cls = true) && decide (lk),
    decide (ok 1 12) && decide (target = 0) && decide (chReg) && decide (tr.owned = false) && decide (d.holds tr.cls = true) && decide (c.state ≠ OFF) && decide (¬ lk) && decide (pend),
    decide (ok 1 12) && decide (target = 0) && decide (chReg) && decide (tr.owned = false) && decide (d.holds tr.cls = true) && decide (c.state ≠ OFF) && decide (¬ lk) && decide (¬ pend),
    decide (ok 1 12) && decide (target = 0) && decide (devReg) && decide (smcOwn = false) && decide (d.holds tr.cls = true) && decide (off / 65536 ≤ 1)]

/-- Each clause of ColmoPostedCommands has a state and operands that meet its hypotheses. -/
theorem test_ColmoPostedCommands_witness1 : (
    met (hypColmoPostedCommands (pick Sts 92) 1000000000 .a (⟨0, 5, 100, 0, 7, 99, 12⟩) [] 3) [1, 2, 23, 24, 25, 32, 34] &&
    met (hypColmoPostedCommands (pick Sts 101) 10000000000000 .a (⟨0, 5, 100, 0, 7, 99, 12⟩) [0, 0, 0, 9] 0) [3, 6, 13, 20] &&
    met (hypColmoPostedCommands (pick Sts 92) 1000 .b (⟨0, 5, 100, 0, 7, 99, 12⟩) [0, 0, 0, 0] 2) [5, 11, 17] &&
    met (hypColmoPostedCommands (pick Sts 9) 1000000000 .a (⟨0, 5, 100, 0, 7, 99, 12⟩) [] 0) [0] &&
    met (hypColmoPostedCommands (pick Sts 82) 10000000000000 .a (⟨0, 5, 100, 0, 7, 99, 12⟩) [0, 0, 0, 7] 0) [10, 19]) = true := by decide +kernel

/-- More clauses of ColmoPostedCommands. -/
theorem test_ColmoPostedCommands_witness2 : (
    met (hypColmoPostedCommands (pick Sts 82) 1000 .b (⟨0, 5, 100, 0, 7, 99, 12⟩) [] 0) [21, 33] &&
    met (hypColmoPostedCommands (pick Sts 66) 1000000000 .b (⟨0, 5, 100, 0, 7, 99, 12⟩) [2, 0, 0, 0] 1) [14, 18] &&
    met (hypColmoPostedCommands (pick Sts 37) 0 .a (⟨0, 5, 100, 0, 7, 99, 12⟩) [32, 0, 0, 8, 0, 0, 0, 1, 0, 0, 0, 1] 0) [4, 37] &&
    met (hypColmoPostedCommands (pick Sts 74) 1000000000 .b (⟨0, 5, 100, 0, 7, 99, 12⟩) [48, 0, 0, 40, 0, 0, 0, 1, 0, 0, 0, 15] 0) [43] &&
    met (hypColmoPostedCommands (pick Sts 81) 10000000000000 .a (⟨0, 5, 100, 0, 7, 99, 12⟩) [191, 128, 0, 0, 0, 0, 0, 0, 0, 0, 0, 0, 0, 0, 0, 0] 0) [29]) = true := by decide +kernel

/-- More clauses of ColmoPostedCommands. -/
theorem test_ColmoPostedCommands_witness3 : (
    met (hypColmoPostedCommands (pick Sts 92) 10000000000000 .a (⟨0, 5, 100, 0, 7, 99, 12⟩) ((List.replicate 76 3)) 2) [9] &&
    met (hypColmoPostedCommands (pick Sts 59) 1000 .a (⟨0, 5, 100, 0, 7, 99, 12⟩) ((List.replicate 76 3)) 0) [7] &&
    met (hypColmoPostedCommands (pick Sts 92) 1000000000 .b (⟨0, 5, 100, 0, 7, 99, 12⟩) ((List.replicate 76 3)) 0) [8] &&
    met (hypColmoPostedCommands (pick Sts 35) 1000 .a (⟨0, 5, 100, 0, 7, 99, 12⟩) [32, 0, 160, 24, 0, 0, 0, 0, 0, 0, 0, 4] 0) [39] &&
    met (hypColmoPostedCommands (pick Sts 43) 1000 .b (⟨0, 5, 100, 0, 7, 99, 12⟩) [0, 1, 0, 0, 0, 0, 0, 2] 0) [35]) = true := by decide +kernel

/-- More clauses of ColmoPostedCommands. -/
theorem test_ColmoPostedCommands_witness4 : (
    met (hypColmoPostedCommands (pick Sts 99) 1000000000 .b (⟨0, 5, 100, 0, 7, 99, 12⟩) [63, 0, 0, 0, 63, 128, 0, 0, 0, 0, 0, 0, 0, 0, 0, 0, 0, 0, 0, 0, 0, 0, 0, 0] 3) [28] &&
    met (hypColmoPostedCommands (pick Sts 103) 10000000000000 .a (⟨0, 5, 100, 0, 7, 99, 12⟩) [0, 0, 0, 9] 1) [12] &&
    met (hypColmoPostedCommands (pick Sts 93) 1000000000 .a (⟨0, 5, 100, 0, 7, 99, 12⟩) [63, 0, 0, 0, 191, 128, 0, 0, 0, 0, 0, 0, 0, 0, 0, 0, 0, 0, 0, 1, 0, 0, 0, 0] 0) [27] &&
    met (hypColmoPostedCommands (pick Sts 67) 1000000000 .a (⟨0, 5, 100, 0, 7, 99, 12⟩) [16, 0, 0, 32, 0, 0, 0, 1, 0, 0, 0, 1] 0) [44] &&
    met (hypColmoPostedCommands (pick Sts 79) 10000000000000 .b (⟨0, 5, 100, 0, 7, 99, 12⟩) [48, 0, 0, 40, 0, 0, 0, 1, 0, 0, 0, 15] 0) [41]) = true := by decide +kernel

/-- More clauses of ColmoPostedCommands. -/
theorem test_ColmoPostedCommands_witness5 : (
    met (hypColmoPostedCommands (pick Sts 29) 0 .a (⟨0, 5, 100, 0, 7, 99, 12⟩) [] 2) [31] &&
    met (hypColmoPostedCommands (pick Sts 47) 10000000000000 .a (⟨0, 5, 100, 0, 7, 99, 12⟩) [63, 128, 0, 0, 0, 0, 0, 0, 0, 0, 0, 0, 0, 0, 0, 0] 0) [30] &&
    met (hypColmoPostedCommands (pick Sts 39) 10000000000000 .a (⟨0, 5, 100, 0, 7, 99, 12⟩) [64, 0, 0, 0, 0, 0, 0, 1, 0, 0, 0, 1] 0) [36] &&
    met (hypColmoPostedCommands (pick Sts 95) 1000000000 .b (⟨0, 5, 100, 0, 7, 99, 12⟩) [] 0) [26] &&
    met (hypColmoPostedCommands (pick Sts 78) 1000000000 .a (⟨0, 5, 100, 0, 7, 99, 12⟩) [0, 0, 0, 9] 0) [15]) = true := by decide +kernel

/-- More clauses of ColmoPostedCommands. -/
theorem test_ColmoPostedCommands_witness6 : (
    met (hypColmoPostedCommands (pick Sts 31) 1000000000 .b (⟨0, 5, 100, 0, 7, 99, 12⟩) [16, 9, 0, 68, 0, 0, 0, 0, 0, 0, 0, 1] 0) [38] &&
    met (hypColmoPostedCommands (pick Sts 44) 1000000000 .b (⟨0, 5, 100, 0, 7, 99, 12⟩) [] 0) [22] &&
    met (hypColmoPostedCommands (pick Sts 91) 0 .a (⟨0, 5, 100, 0, 7, 99, 12⟩) [0, 0, 0, 9] 0) [16] &&
    met (hypColmoPostedCommands (pick Sts 56) 1000 .b (⟨0, 5, 100, 0, 7, 99, 12⟩) [48, 0, 64, 4, 0, 0, 0, 5, 0, 0, 255, 255] 0) [42] &&
    met (hypColmoPostedCommands (pick Sts 25) 1000000000 .a (⟨0, 5, 100, 0, 7, 99, 12⟩) [32, 0, 64, 4, 0, 0, 0, 5, 0, 0, 255, 255] 0) [40]) = true := by decide +kernel

end WCol4

namespace WCol5x
def one : List Nat := [0x3F,0x80,0,0]
def half : List Nat := [0x3F,0,0,0]
def tri (a v k : Nat) : List Nat := beBytes 4 a ++ beBytes 4 v ++ beBytes 4 k
def Es : List MapEnt := [⟨65280, 9, 0, 8, 0x3B800000, 0, 0x0401, 1, 0, 100⟩, ⟨65280, 255, 0, 8, 0x3B800000, 0, 0x0401, 2, 0, 100⟩, ⟨65280, 9, 0, 8, 0x7F800000, 0, 0x0401, 2, 0, 100⟩, ⟨65280, 9, 0, 8, 0x3B800000, 0, 0x0402, 1, 1, 100⟩, ⟨0xEF00, 9, 0, 8, 0, 0, 0x0302, 1, 0, 1⟩, ⟨65280, 9, 60, 8, 0x3B800000, 0, 0x0401, 1, 0, 100⟩]
def rec_ (op tg : Nat) (bd : List Nat) : List Nat := beBytes 2 op ++ [tg, 0] ++ beBytes 2 bd.length ++ [0, 0] ++ bd
def Bs : List Bundle := [⟨0, 5, 0, 0, 100, 0, 7, 99, 12, some 0, [(0, rec_ 0x0302 1 [])]⟩, ⟨0, 5, 0, 0, 100, 0, 7, 99, 12, some 0, [(0, rec_ 0x0302 2 [])]⟩, ⟨0, 5, 0, 0, 100, 0, 7, 99, 12, some 0, [(0, rec_ 0x7777 2 [])]⟩, ⟨0, 5, 0, 0, 100, 0, 7, 99, 12, some 0, []⟩]
def prim (c : Chan) : Chan := { c.p CH_STATE_STATE 1 with subs := [⟨1, 4, 1, 0, 1, [1,2], 0, 0, 0⟩] }
def rw1 : Nat := ((List.range 0x1000).map (fun i => 0x4000 + 4 * i)).find? (fun a => !(chanFields a).isEmpty && (chanFields a).all (fun f => f.acc == .rwc)) |>.getD 0x4000
def As : List (List Nat) := [[], [], [], [], [], [], [], [], [], [0,0,0,5], half ++ one ++ beBytes 8 0 ++ [0,0,0,0,0,0,0,0], half ++ one ++ beBytes 8 0 ++ [0,0,0,0,0,0,0,0], half ++ one ++ beBytes 8 5 ++ [0,0,0,0,0,0,0,0], [0xBF,0,0,0] ++ one ++ beBytes 8 0 ++ [0,0,0,0,0,0,0,0],
  [0,1,0,0,0,0,0,2], [1,1,0,0,0,0,0,2], beBytes 4 ((prim { id := .a }).imageCrc .tuning true), beBytes 4 ((prim { id := .a }).imageCrc .tuning true), tri (0x20000000 + rw1) 5 0xFFFF, tri (0x30000000 + rw1) 5 0xFFFF, tri (0x20000000 + 0x4000) 5 0xFFFF, tri (0x30000000 + 0x4000) 5 0xFFFF, tri (0x20000000 + 0x5000) 5 0xFFFF, tri (0x30000000 + 0x5000) 5 0xFFFF]
def stt (n : Nat) (c : Chan) : Chan := (prim c).p CH_STATE_STATE n
def R : Req := ⟨0, 5, 100, 0, 7, 99, 12⟩
def iso (e : MapEnt) (d : Dev) : Dev := ({ d with arch := { d.arch with canMap := [(0, e)] }, iso := { d.iso with en := true } }.p (ISO_STATUS_STATE 0) 2).p (ISO_STATUS_ADDRESS 0) 130
def withB (x : Bundle) (d : Dev) : Dev := d.onQueue 0 (fun q => { q with bundles := [x], level := 1 })
def chs : List (Chan → Chan) := [id, stt 1, stt 1, ct (fun x => { x with commit := some ⟨.tuning, 0, 0, none⟩ }) ∘ stt 1, stt 2, stt 3, stt 3, stt 3, ct (fun x => { x with lastSeq := some 200 }) ∘ stt 3, ct (fun x => { x with owner := some 6 }) ∘ stt 3, stt 4, stt 5, fun c => (stt 3 c).p CORE_STATUS_HALTED 1]
def mails (ch : Ch) : List (List Part) := As.flatMap (fun bd => [0x0302, 0x0401, 0x0201, 0x0502, 0x0301, 0x0303, 0x0702, 0x0202].filterMap (fun op =>
  let l := bd.length
  if (op == 0x0302 && l == 0) || (op == 0x0401 && l == 24) || (op == 0x0201 && l == 8) || (op == 0x0502 && l == 12) || (op == 0x0301 && l == 0) || (op == 0x0303 && l == 0) || (op == 0x0702 && l == 0) || (op == 0x0202 && l == 4)
  then some [(⟨R, [(0, ⟨op, if ch = .a then 1 else 2, bd⟩)], 1000⟩ : Part)] else none))
def pd (ch : Ch) : List Dev := [b3, { b3 with colmo := { b3.colmo with running := [⟨R, [.mail ch []]⟩] } }, { b3 with colmo := { b3.colmo with running := [⟨R, [.mail ch [1,2,3,4,5,6,7,8]]⟩] } }]
def devs : List Dev := [({} : Dev), b3] ++ Bs.map (fun x => withB x b3) ++ Es.map (fun e => iso e b3)
def S1 : List State := devs.flatMap (fun d => chs.map (fun f => mkS d f (stt 3)))
def S2 : List State := [Ch.a, Ch.b].flatMap (fun ch => (mails ch).flatMap (fun ml => chs.flatMap (fun f => (pd ch).map (fun d => if ch = .a then mkS d (fun c => { f c with mail := ml }) (stt 1) else mkS d (stt 1) (fun c => { f c with mail := ml })))))
def Sts : List State := S1 ++ (S1.drop 26).take 52 ++ (S1.drop 26).take 52 ++ (S1.drop 26).take 52 ++ S2

/-- The hypotheses of the clauses of BundlesAndParts. -/
def hypBundlesAndParts (s : State) (t : Tick) (ch : Ch) (rq : Req) (b : Bundle) (e : MapEnt) (body : List Nat) (data : List Nat) (op : Nat) (target : Nat) (time : Nat) (seq : Nat) (src : Nat) (dst : Nat) : List Bool :=
  let d := s.m.seenDev t
  let c := s.m.seen t ch
  let m := s.m.seenAt t
  let own := if ch = .a then 1 else 2
  let q := (List.range 8).find? (fun k => !(d.queue k).bundles.isEmpty)
  let head := decide ((d.queue (q.getD 0)).bundles.head? = some b)
  let fits := decide (b.flow < 256 ∧ (d.flow b.flow).queue = q.getD 0)
  let got := decide (q.isSome = true ∧ head ∧ fits ∧ rq = ⟨b.flow, b.tag, b.seq0, b.bundle, b.arrival, b.host, b.port⟩ ∧ d.CanAnswer rq ∧ m.Idle)
  let bytes := b.frags.flatMap Prod.snd
  let record := beBytes 2 op ++ [target, 0] ++ beBytes 2 body.length ++ [0, 0] ++ body
  let room := decide ((d.flow b.flow).pair ≠ b.flow ∧ q ≠ some (d.flow (d.flow b.flow).pair).queue)
  let alone := decide ((d.colmo.running = [] ∨ d.colmo.running = [⟨rq, [.mail ch data]⟩]) ∧ d.up = true ∧ d.recs = [] ∧ d.hq.due = [] ∧ d.pwr.shut = 0 ∧ ∀ k ∈ [Ch.a, Ch.b], (m.chan k).answers = [] ∧ (m.chan k).out.buf = [] ∧ (m.chan k).out.dropped = 0)
  let mine := fun (code : Nat) => decide (c.mail = [⟨rq, [(0, ⟨code, own, body⟩)], time⟩] ∧ c.state ≠ OFF ∧ c.pairRuns = true ∧ c.ctl.copying = none ∧ alone ∧ d.CanAnswer rq)
  let stale := (c.ctl.lastSeq.map (fun k => !newer rq.seq k)).getD false
  let foreign := (c.ctl.owner.map (fun k => k != rq.flow)).getD false
  let tqSt := if c.ctl.disarm = true ∨ (c.state ≠ RUN ∧ c.state ≠ ARMED) then 5 else if stale = true then 8 else if foreign = true then 0x0A else 0
  let tq := hostPu16 (be body 0 4) c.bases.t
  let deadline := be body 8 8
  let tr : Triple := ⟨be body 0 4, be body 4 4, be body 8 4⟩
  let off := tr.addr % 2 ^ 28
  let set := decide (regReach tr.addr = .chan ch off ∧ body.length = 12 ∧ (chanFields off).all (fun f => f.acc == .rwc) = true ∧ c.armed = false ∧ c.ctl.commit = none ∧ 0x4000 ≤ off ∧ off < 0x8000)
  let hears := decide (e.pgn / 256 % 256 ≥ 240 ∨ dst = 255 ∨ dst = d.g (ISO_STATUS_ADDRESS 0))
  let hits := decide (d.iso.en = true ∧ d.g (ISO_STATUS_STATE 0) = 2 ∧ hears ∧ (e.src = 255 ∨ e.src = src) ∧ e ≠ noEnt ∧ d.arch.canMap = [(0, e)] ∧ e.target = own ∧ m.Idle)
  let field := ofLe data / 2 ^ e.start % 2 ^ e.len
  let wide := decide (e.start + e.len ≤ 8 * data.length)
  let seqOk := decide (c.ctl.disarm = false ∧ (c.ctl.lastSeq.map (fun k => !newer seq k)).getD false = false ∧ d.time ≤ time + 1000000 * e.timeout ∧ time + 1000000 * e.timeout < 2 ^ 64 ∧ (c.ctl.owner = none ∨ c.ctl.owner = some 256))
  [decide (d.up = false),
    decide (m.Idle) && decide (q = none),
    decide (got) && decide (room) && decide (bytes = []),
    decide (got) && decide (room) && decide (bytes = record) && decide (∀ r ∈ opTable, r.code ≠ op) && decide (op < 2 ^ 16) && decide (body.length < 2 ^ 16) && decide (body.length % 4 = 0),
    decide (got) && decide (room) && decide (bytes = record) && decide (op = 0x0302) && decide (target = own) && decide (body = []) && decide (c.state ≠ OFF) && decide (c.pairRuns = true),
    decide (alone) && decide (c.state = OFF ∨ c.pairRuns = false ∨ c.mail = []),
    decide (mine 0x0302) && decide (body = []) && decide (c.state = RUN) && decide (c.ctl.arm = none) && decide (∀ r, c.ctl.refused = some r → sameCycle r.1 c.now = false),
    decide (mine 0x0401) && decide (tqSt ≠ 0),
    decide (mine 0x0401) && decide (tqSt = 0) && decide (tq.isSome = true),
    decide (mine 0x0401) && decide (tqSt = 0) && decide (tq.isSome = true) && decide (deadline ≠ 0) && decide (deadline < c.devTime),
    decide (mine 0x0303) && decide (c.state ≠ FAULT),
    decide (mine 0x0201) && decide (nth body 0 = 0),
    decide (mine 0x0502) && decide (set),
    decide (mine 0x0702) && decide (c.ring.phase = .running),
    decide (mine 0x0301) && decide (c.state = PRIMED ∨ c.state = HOLD) && decide (c.ctl.commit.isSome = true ∨ c.ctl.arm.isSome = true),
    decide (mine 0x0202) && decide (c.gateCode .tuning = 0) && decide ((c.wr COMMIT_CRC (be body 0 4)).valuesCode .tuning s.m.dev.lc = 0),
    decide (d.up = false ∨ c.state = OFF ∨ c.mail = [] ∨ (∀ p ∈ c.mail.head?, c.since p.at_ (ms 1) = false)),
    decide (mine op) && decide (c.since time (ms 1) = true),
    decide (hits) && decide (¬ wide),
    decide (hits) && decide (wide) && decide (e.op = 0x0302) && decide (c.state ≠ OFF),
    decide (hits) && decide (wide) && decide (e.op = 0x0401) && decide (c.state = RUN ∨ c.state = ARMED) && decide (seqOk) && decide ((hostPu16 (e.value field) c.bases.t).isSome = true),
    decide (hits) && decide (wide) && decide (e.op = 0x0402) && decide (c.state = RUN) && decide (seqOk) && decide ((c.spdCode (e.value field)).isSome = true),
    decide (hits) && decide (wide) && decide (e.op = 0x0401) && decide (c.state ≠ RUN ∧ c.state ≠ ARMED ∨ seqOk ∧ hostPu16 (e.value field) c.bases.t = none)]

/-- Each clause of BundlesAndParts has a state and operands that meet its hypotheses. -/
theorem test_BundlesAndParts_witness1 : (
    met (hypBundlesAndParts (pick Sts 91) 10000000000000 .b (⟨3, 5, 1, 0, 7, 99, 12⟩) (⟨0, 5, 0, 0, 100, 0, 7, 99, 12, some 0, [(0, [119, 119, 2, 0, 0, 0, 0, 0])]⟩) (⟨65280, 255, 0, 8, 998244352, 0, 1025, 2, 0, 100⟩) [63, 0, 0, 0, 63, 128, 0, 0, 0, 0, 0, 0, 0, 0, 0, 0, 0, 0, 0, 0, 0, 0, 0, 0] [] 30583 0 1000 300 9 130) [1, 5, 16, 18] &&
    met (hypBundlesAndParts (pick Sts 1847) 10000000000000 .a (⟨0, 5, 100, 0, 7, 99, 12⟩) (⟨0, 5, 0, 0, 100, 0, 7, 99, 12, some 0, [(0, [3, 2, 2, 0, 0, 0, 0, 0])]⟩) (⟨65280, 9, 0, 8, 998244352, 0, 1026, 1, 1, 100⟩) [63, 0, 0, 0, 63, 128, 0, 0, 0, 0, 0, 0, 0, 0, 0, 5, 0, 0, 0, 0, 0, 0, 0, 0] [1, 2, 3, 4, 5, 6, 7, 8] 1025 0 1000 100 9 255) [8, 9, 17]) = true := by decide +kernel

/-- More clauses of BundlesAndParts. -/
theorem test_BundlesAndParts_witness2 : (
    met (hypBundlesAndParts (pick Sts 3035) 0 .b (⟨0, 5, 100, 0, 7, 99, 12⟩) (⟨0, 5, 0, 0, 100, 0, 7, 99, 12, some 0, [(0, [3, 2, 1, 0, 0, 0, 0, 0])]⟩) (⟨65280, 9, 0, 8, 998244352, 0, 1025, 1, 0, 100⟩) [] [1, 2, 3, 4, 5, 6, 7, 8] 771 0 1000 300 9 130) [10] &&
    met (hypBundlesAndParts (pick Sts 3060) 10000000000000 .b (⟨0, 5, 100, 0, 7, 99, 12⟩) (⟨0, 5, 0, 0, 100, 0, 7, 99, 12, some 0, []⟩) (⟨65280, 9, 60, 8, 998244352, 0, 1025, 1, 0, 100⟩) [] [] 1794 1 1000 300 9 255) [13]) = true := by decide +kernel

/-- More clauses of BundlesAndParts. -/
theorem test_BundlesAndParts_witness3 : (
    met (hypBundlesAndParts (pick Sts 3254) 1000 .b (⟨0, 5, 100, 0, 7, 99, 12⟩) (⟨0, 5, 0, 0, 100, 0, 7, 99, 12, some 0, [(0, [3, 2, 1, 0, 0, 0, 0, 0])]⟩) (⟨65280, 9, 0, 8, 2139095040, 0, 1025, 2, 0, 100⟩) [] [1, 2, 3, 4, 5, 6, 7, 8] 770 0 1000 100 9 130) [6] &&
    met (hypBundlesAndParts (pick Sts 1923) 1000 .a (⟨0, 5, 100, 0, 7, 99, 12⟩) (⟨0, 5, 0, 0, 100, 0, 7, 99, 12, some 0, [(0, [119, 119, 2, 0, 0, 0, 0, 0])]⟩) (⟨65280, 9, 0, 8, 998244352, 0, 1025, 1, 0, 100⟩) [0, 1, 0, 0, 0, 0, 0, 2] [] 513 1 1000 100 9 130) [11]) = true := by decide +kernel

/-- More clauses of BundlesAndParts. -/
theorem test_BundlesAndParts_witness4 : (
    met (hypBundlesAndParts (pick Sts 1786) 1000000000 .a (⟨0, 5, 100, 0, 7, 99, 12⟩) (⟨0, 5, 0, 0, 100, 0, 7, 99, 12, some 0, [(0, [119, 119, 2, 0, 0, 0, 0, 0])]⟩) (⟨65280, 9, 60, 8, 998244352, 0, 1025, 1, 0, 100⟩) [63, 0, 0, 0, 63, 128, 0, 0, 0, 0, 0, 0, 0, 0, 0, 0, 0, 0, 0, 0, 0, 0, 0, 0] [] 1025 0 1000 100 9 130) [7] &&
    met (hypBundlesAndParts (pick Sts 4101) 1000000000 .b (⟨0, 5, 100, 0, 7, 99, 12⟩) (⟨0, 5, 0, 0, 100, 0, 7, 99, 12, some 0, [(0, [3, 2, 2, 0, 0, 0, 0, 0])]⟩) (⟨65280, 9, 60, 8, 998244352, 0, 1025, 1, 0, 100⟩) [48, 0, 64, 32, 0, 0, 0, 5, 0, 0, 255, 255] [] 1282 1 1000 300 10 255) [12]) = true := by decide +kernel

/-- More clauses of BundlesAndParts. -/
theorem test_BundlesAndParts_witness5 : (
    met (hypBundlesAndParts (pick Sts 2007) 1000 .a (⟨0, 5, 100, 0, 7, 99, 12⟩) (⟨0, 5, 0, 0, 100, 0, 7, 99, 12, some 0, []⟩) (⟨61184, 9, 0, 8, 0, 0, 770, 1, 0, 1⟩) [219, 95, 41, 78] [1, 2, 3, 4, 5, 6, 7, 8] 514 0 1000 300 9 130) [15] &&
    met (hypBundlesAndParts (pick Sts 207) 10000000000000 .b (⟨0, 5, 100, 0, 7, 99, 12⟩) (⟨0, 5, 0, 0, 100, 0, 7, 99, 12, some 0, []⟩) (⟨65280, 9, 0, 8, 2139095040, 0, 1025, 2, 0, 100⟩) [] [1, 2, 3, 4, 5, 6, 7, 8] 770 0 1000 300 10 7) [2]) = true := by decide +kernel

/-- More clauses of BundlesAndParts. -/
theorem test_BundlesAndParts_witness6 : (
    met (hypBundlesAndParts (pick Sts 2506) 1000000000 .b (⟨0, 5, 100, 0, 7, 99, 12⟩) (⟨0, 5, 0, 0, 100, 0, 7, 99, 12, some 0, [(0, [3, 2, 1, 0, 0, 0, 0, 0])]⟩) (⟨61184, 9, 0, 8, 0, 0, 770, 1, 0, 1⟩) [] [] 769 0 1000 100 9 7) [14] &&
    met (hypBundlesAndParts (pick Sts 0) 1000000000 .a (⟨3, 5, 1, 0, 7, 99, 12⟩) (⟨0, 5, 0, 0, 100, 0, 7, 99, 12, some 0, [(0, [3, 2, 1, 0, 0, 0, 0, 0])]⟩) (⟨65280, 9, 0, 8, 2139095040, 0, 1025, 2, 0, 100⟩) [] [] 1025 1 1000000 100 10 130) [0]) = true := by decide +kernel

/-- More clauses of BundlesAndParts. -/
theorem test_BundlesAndParts_witness7 : (
    met (hypBundlesAndParts (pick Sts 171) 0 .b (⟨0, 5, 100, 0, 7, 99, 12⟩) (⟨0, 5, 0, 0, 100, 0, 7, 99, 12, some 0, [(0, [3, 2, 2, 0, 0, 0, 0, 0])]⟩) (⟨65280, 9, 0, 8, 998244352, 0, 1025, 1, 0, 100⟩) [] [] 770 2 0 100 9 255) [4] &&
    met (hypBundlesAndParts (pick Sts 114) 1000000000 .b (⟨0, 5, 100, 0, 7, 99, 12⟩) (⟨0, 5, 0, 0, 100, 0, 7, 99, 12, some 0, [(0, [119, 119, 2, 0, 0, 0, 0, 0])]⟩) (⟨65280, 9, 0, 8, 2139095040, 0, 1025, 2, 0, 100⟩) [] [1, 2, 3, 4, 5, 6, 7, 8] 770 1 0 100 9 7) [22]) = true := by decide +kernel

/-- More clauses of BundlesAndParts. -/
theorem test_BundlesAndParts_witness8 : (
    met (hypBundlesAndParts (pick Sts 92) 1000000000 .b (⟨3, 5, 1, 0, 7, 99, 12⟩) (⟨0, 5, 0, 0, 100, 0, 7, 99, 12, some 0, [(0, [3, 2, 1, 0, 0, 0, 0, 0])]⟩) (⟨65280, 255, 0, 8, 998244352, 0, 1025, 2, 0, 100⟩) [] [1, 2, 3, 4, 5, 6, 7, 8] 770 0 1000 100 9 130) [20] &&
    met (hypBundlesAndParts (pick Sts 125) 0 .a (⟨3, 5, 1, 0, 7, 99, 12⟩) (⟨0, 5, 0, 0, 100, 0, 7, 99, 12, some 0, []⟩) (⟨65280, 9, 0, 8, 998244352, 0, 1026, 1, 1, 100⟩) [48, 0, 80, 0, 0, 0, 0, 5, 0, 0, 255, 255] [1, 2, 3, 4, 5, 6, 7, 8] 1025 1 0 300 9 255) [21]) = true := by decide +kernel

/-- More clauses of BundlesAndParts. -/
theorem test_BundlesAndParts_witness9 : (
    met (hypBundlesAndParts (pick Sts 135) 1000000000 .a (⟨0, 5, 100, 0, 7, 99, 12⟩) (⟨0, 5, 0, 0, 100, 0, 7, 99, 12, some 0, [(0, [119, 119, 2, 0, 0, 0, 0, 0])]⟩) (⟨61184, 9, 0, 8, 0, 0, 770, 1, 0, 1⟩) [63, 0, 0, 0, 63, 128, 0, 0, 0, 0, 0, 0, 0, 0, 0, 0, 0, 0, 0, 0, 0, 0, 0, 0] [1, 2, 3, 4, 5, 6, 7, 8] 1282 2 1000000 300 9 130) [19] &&
    met (hypBundlesAndParts (pick Sts 286) 1000 .b (⟨0, 5, 100, 0, 7, 99, 12⟩) (⟨0, 5, 0, 0, 100, 0, 7, 99, 12, some 0, [(0, [119, 119, 2, 0, 0, 0, 0, 0])]⟩) (⟨65280, 9, 0, 8, 998244352, 0, 1026, 1, 1, 100⟩) [] [1, 2, 3, 4, 5, 6, 7, 8] 30583 2 1000 300 10 255) [3]) = true := by decide +kernel

end WCol5x

end Sys2Proof.Tests
end

section
/-! PROOFS. What one step does (02_channel_states.md, R10): the command at the front of the queue runs, and the register files stay in canonical
form. -/

namespace Sys2Proof.Machine
open Sys2Proof

/-- Every command, on a machine in canonical form, ends in one: each meaning by the lemma of its operation, through the way by which it
reaches the machine. -/
theorem goodOut_exec (i : Instr) (s : State) (h : s.m.Good) : GoodOut (exec i s) := by
  cases i with
  -- commands to a channel outside OFF
  | clkDeviation t ch _ _ => exact goodOut_live s t ch _ h (good_doClkDeviation _ _ _)
  | modPllLockLoss t ch => exact goodOut_live s t ch _ h good_doModPllLockLoss
  | decisionBoundary t ch => exact goodOut_live s t ch _ h good_doDecisionBoundary
  | dtcInputRead t ch => exact goodOut_live s t ch _ h good_doDtcInputRead
  | decisionComplete t ch _ => exact goodOut_live s t ch _ h (good_doDecisionComplete _)
  | governorUpdate t ch => exact goodOut_live s t ch _ h good_doGovernorUpdate
  | modReadback t ch _ => exact goodOut_live s t ch _ h (good_doModReadback _ _)
  | tqRefWrite t ch _ => exact goodOut_live s t ch _ h (good_doTqRefWrite _)
  | stagedRefWrite t ch _ _ => exact goodOut_live s t ch _ h (good_doStagedRefWrite _ _)
  | chReqArm t ch => exact goodOut_live s t ch _ h (fun c hc => good_quietly _ c good_doChReqArm hc)
  | chReqDisarm t ch => exact goodOut_live s t ch _ h good_doChReqDisarm
  | chReqClearFault t ch => exact goodOut_live s t ch _ h good_doChReqClearFault
  | armWeldCheckEnd t ch => exact goodOut_live s t ch _ h good_doArmWeldCheckEnd
  | armSequenceEnd t ch => exact goodOut_live s t ch _ h good_doArmSequenceEnd
  | armTimeout t ch => exact goodOut_live s t ch _ h good_doArmTimeout
  | transitionDelayExpiry t ch => exact goodOut_live s t ch _ h good_doTransitionDelayExpiry
  | streamLapse t ch => exact goodOut_live s t ch _ h good_doStreamLapse
  | lapseHold t ch => exact goodOut_live s t ch _ h good_doLapseHold
  | safetyStageExpiry t ch => exact goodOut_live s t ch _ h good_doSafetyStageExpiry
  | commitLanding t ch => exact goodOut_live s t ch _ h good_doCommitLanding
  | shadowCopyEnd t ch => exact goodOut_live s t ch _ h good_doShadowCopyEnd
  | adcInjTrigger t ch _ _ => exact goodOut_live s t ch _ h (good_doAdcInjTrigger _ _)
  | adcRegTrigger t ch _ _ => exact goodOut_live s t ch _ h (good_doAdcRegTrigger _ _)
  | convReqInjSw t ch _ => exact goodOut_live s t ch _ h (good_doConvReqInjSw _)
  | convReqRegSw t ch _ => exact goodOut_live s t ch _ h (good_doConvReqRegSw _)
  | adcScanTick t ch => exact goodOut_live s t ch _ h good_doAdcScanTick
  | adcConversionEnd t ch _ _ _ => exact goodOut_live s t ch _ h (good_doAdcConversionEnd _ _ _)
  | adcStall t ch => exact goodOut_live s t ch _ h good_doAdcStall
  | fifoDataRead t ch _ => exact goodOut_live s t ch _ h (good_doFifoDataRead _)
  | fifoFlush t ch _ => exact goodOut_live s t ch _ h (good_doFifoFlush _)
  | sdMclkMeasure t ch _ => exact goodOut_live s t ch _ h (good_doSdMclkMeasure _)
  | clkLoss t ch => exact goodOut_live s t ch _ h good_doClkLoss
  | stuckData t ch _ => exact goodOut_live s t ch _ h (good_doStuckData _)
  | sdClockResume t ch => exact goodOut_live s t ch _ h good_doSdClockResume
  | sdStuckEnd t ch _ => exact goodOut_live s t ch _ h (good_doSdStuckEnd _)
  | sdDataFilterOutput t ch _ _ => exact goodOut_live s t ch _ h (good_doSdDataFilterOutput _ _)
  | sdComparatorOutput t ch _ _ => exact goodOut_live s t ch _ h (good_doSdComparatorOutput _ _)
  | resolverEvent t ch _ => exact goodOut_live s t ch _ h (good_doResolverEvent _)
  | encoderEdge t ch _ _ => exact goodOut_live s t ch _ h (good_doEncoderEdge _ _)
  | encoderIndex t ch => exact goodOut_live s t ch _ h good_doEncoderIndex
  | encoderSpeedTimeout t ch => exact goodOut_live s t ch _ h good_doEncoderSpeedTimeout
  | dclAltStale t ch => exact goodOut_live s t ch _ h good_doDclAltStale
  | windowOpen t ch => exact goodOut_live s t ch _ h good_doWindowOpen
  | windowTriggerDelay t ch => exact goodOut_live s t ch _ h good_doWindowTriggerDelay
  | windowClose t ch => exact goodOut_live s t ch _ h good_doWindowClose
  | refreshForced t ch => exact goodOut_live s t ch _ h good_doRefreshForced
  | refreshForcingEnd t ch => exact goodOut_live s t ch _ h good_doRefreshForcingEnd
  | onTimeExceeded t ch => exact goodOut_live s t ch _ h good_doOnTimeExceeded
  | obsCmdRelease t ch => exact goodOut_live s t ch _ h good_doObsCmdRelease
  | tmWindowEnd t ch => exact goodOut_live s t ch _ h good_doTmWindowEnd
  | tmResultWrite t ch => exact goodOut_live s t ch _ h good_doTmResultWrite
  | tmLate t ch => exact goodOut_live s t ch _ h good_doTmLate
  | edgeChannelEdge t ch _ _ _ => exact goodOut_live s t ch _ h (good_doEdgeChannelEdge _ _ _)
  | deadTimeExpiry t ch _ => exact goodOut_live s t ch _ h (good_doDeadTimeExpiry _)
  | partnerOffChange t ch _ => exact goodOut_live s t ch _ h (good_doPartnerOffChange _)
  | partnerOffTimeout t ch _ => exact goodOut_live s t ch _ h (good_doPartnerOffTimeout _)
  | gateOnChange t ch _ _ => exact goodOut_live s t ch _ h (good_doGateOnChange _ _)
  | pairInterlock t ch _ => exact goodOut_live s t ch _ h (good_doPairInterlock _)
  | sliceWriteFrame t ch _ _ => exact goodOut_live s t ch _ h (good_doSliceWriteFrame _ _)
  | sliceReadFrame t ch _ _ => exact goodOut_live s t ch _ h (good_doSliceReadFrame _ _)
  | edgeTag t ch _ _ => exact goodOut_live s t ch _ h (good_doEdgeTag _ _ _ _)
  | edgeTagTimeout t ch _ _ _ _ => exact goodOut_live s t ch _ h (good_doEdgeTagTimeout _ _ _ _)
  | sliceStatusFrame t ch _ => exact goodOut_live s t ch _ h (good_doSliceStatusFrame _)
  | sliceWriteAckFrame t ch _ _ => exact goodOut_live s t ch _ h (good_doSliceWriteAckFrame _ _)
  | sliceReadDataFrame t ch _ _ _ => exact goodOut_live s t ch _ h (good_doSliceReadDataFrame _ _ _)
  | sliceEdgeReportFrame t ch _ => exact goodOut_live s t ch _ h (good_doSliceEdgeReportFrame _)
  | sliceTelemetryFrame t ch _ _ => exact goodOut_live s t ch _ h (good_doSliceTelemetryFrame _ _)
  | sliceFaultFrame t ch _ => exact goodOut_live s t ch _ h (good_doSliceFaultFrame _)
  | channelLinkLoss t ch _ => exact goodOut_live s t ch _ h (good_doChannelLinkLoss _)
  | sliceConfigCheck t ch => exact goodOut_live s t ch _ h good_doSliceConfigCheck
  | islandPowerUp t ch _ => exact goodOut_live s t ch _ h (good_doIslandPowerUp _)
  | sliceReady t ch _ => exact goodOut_live s t ch _ h (good_doSliceReady _)
  | plateauEnd t ch _ => exact goodOut_live s t ch _ h (good_doPlateauEnd _)
  | sliceVdsMeasure t ch _ _ => exact goodOut_live s t ch _ h (good_doSliceVdsMeasure _ _)
  | sliceSupplyMeasure t ch _ _ _ _ _ => exact goodOut_live s t ch _ h (good_doSliceSupplyMeasure _ _ _ _ _)
  | enPinFall t ch _ => exact goodOut_live s t ch _ h (good_doEnPinFall _)
  | enPinRise t ch _ => exact goodOut_live s t ch _ h (good_doEnPinRise _)
  | primerReq t ch => exact goodOut_live s t ch _ h good_doPrimerReq
  | primerReading t ch _ _ _ => exact goodOut_live s t ch _ h (good_doPrimerReading _ _ _)
  | primerSettleTimeout t ch => exact goodOut_live s t ch _ h good_doPrimerSettleTimeout
  | primerAverageEnd t ch => exact goodOut_live s t ch _ h good_doPrimerAverageEnd
  | primerTestEnd t ch => exact goodOut_live s t ch _ h good_doPrimerTestEnd
  | dclComparatorChange t ch _ _ => exact goodOut_live s t ch _ h (good_doDclComparatorChange _ _)
  | chopMinTExpiry t ch => exact goodOut_live s t ch _ h good_Chan_chopEval
  | chopProve t ch _ _ => exact goodOut_live s t ch _ h (good_doChopProve _ _)
  | chopTest t ch => exact goodOut_live s t ch _ h good_doChopTest
  | dclExtTimer t ch => exact goodOut_live s t ch _ h good_doDclExtTimer
  | dchgReq t ch => exact goodOut_live s t ch _ h good_doDchgReq
  | dchgCancel t ch => exact goodOut_live s t ch _ h good_doDchgCancel
  | dchgCfbTimeout t ch => exact goodOut_live s t ch _ h good_doDchgCfbTimeout
  | dchgCheckT t ch => exact goodOut_live s t ch _ h good_doDchgCheckT
  | dchgTExpiry t ch => exact goodOut_live s t ch _ h good_doDchgTExpiry
  | windingDischargeTimeout t ch => exact goodOut_live s t ch _ h good_doWindingDischargeTimeout
  | sourceArrival t ch _ _ => exact goodOut_live s t ch _ h (good_doSourceArrival _ _)
  | sourceClear t ch _ _ => exact goodOut_live s t ch _ h (good_doSourceClear _ _)
  | holdEnd t ch => exact goodOut_live s t ch _ h good_doHoldEnd
  | legClr t ch => exact goodOut_live s t ch _ h good_doLegClr
  | contactorDebounceExpiry t ch _ => exact goodOut_live s t ch _ h (good_doContactorDebounceExpiry _)
  | prechargeTimeout t ch => exact goodOut_live s t ch _ h good_doPrechargeTimeout
  | guardInputChange t ch _ _ => exact goodOut_live s t ch _ h (good_doGuardInputChange _ _)
  | guardDiscTimeout t ch => exact goodOut_live s t ch _ h good_doGuardDiscTimeout
  | ackPressBegin t ch => exact goodOut_live s t ch _ h good_doAckPressBegin
  | ackPressEnd t ch => exact goodOut_live s t ch _ h good_doAckPressEnd
  | ackJammed t ch => exact goodOut_live s t ch _ h good_doAckJammed
  | weldClr t ch => exact goodOut_live s t ch _ h good_doWeldClr
  | auxOn t ch => exact goodOut_live s t ch _ h good_doAuxOn
  | auxOff t ch => exact goodOut_live s t ch _ h good_doAuxOff
  | plumbMismatch t ch _ => exact goodOut_live s t ch _ h (good_doPlumbMismatch _)
  | shadowMismatch t ch _ _ => exact goodOut_live s t ch _ h (good_doShadowMismatch _ _)
  | skimSliceStart t ch _ _ => exact goodOut_live s t ch _ h (good_doSkimSliceStart _ _)
  | skimSliceEnd t ch _ _ _ _ => exact goodOut_live s t ch _ h (good_doSkimSliceEnd _ _ _ _)
  | skimAbort t ch => exact goodOut_live s t ch _ h good_doSkimAbort
  | skimCycleEnd t ch => exact goodOut_live s t ch _ h good_doSkimCycleEnd
  | skimReqPass t ch => exact goodOut_live s t ch _ h good_doSkimReqPass
  | sliceIdleFrame t ch _ => exact goodOut_live s t ch _ h (good_doSliceIdleFrame _)
  | sliceFrameInvalid t ch _ _ => exact goodOut_live s t ch _ h (good_doSliceFrameInvalid _ _ _)
  | chopTestPulseEnd t ch => exact goodOut_live s t ch _ h good_doChopTestPulseEnd
  -- commands to a channel in every state
  | sliceLinkLoss t ch _ => exact goodOut_chan s t ch _ h (good_doSliceLinkLoss _)
  | scBlankingEnd t ch _ _ _ => exact goodOut_chan s t ch _ h (good_doScBlankingEnd _ _ _)
  | sc2Trip t ch _ _ => exact goodOut_chan s t ch _ h (good_doSc2Trip _ _)
  | sc1Trip t ch _ _ => exact goodOut_chan s t ch _ h (good_doSc1Trip _ _)
  | gsUv t ch _ _ => exact goodOut_chan s t ch _ h (good_doGsUv _ _ _)
  | gsOv t ch _ => exact goodOut_chan s t ch _ h (good_doGsOv _ _ _)
  | islOt t ch _ => exact goodOut_chan s t ch _ h (good_doIslOt _)
  | dchgPin t ch => exact goodOut_chan s t ch _ h good_doDchgPin
  | dchgPinRelease t ch => exact goodOut_chan s t ch _ h good_doDchgPinRelease
  | energyUpdate t ch _ => exact goodOut_chan s t ch _ h (good_doEnergyUpdate _)
  | autonomousDischarge t ch => exact goodOut_chan s t ch _ h good_doAutonomousDischarge
  | cfbChange t ch _ _ => exact goodOut_chan s t ch _ h (good_doCfbChange _ _)
  | autonomousDischargeDone t ch => exact goodOut_chan s t ch _ h good_doAutonomousDischargeDone
  -- commit requests
  | commitCtlTuningCommit t ch => exact goodOut_commit s t ch _ h (fun lc c hc => good_Chan_tuningCommit c lc hc)
  | commitCtlSafetyStage t ch _ => exact goodOut_commit s t ch _ h (fun lc c hc => good_Chan_safetyStage c lc _ hc)
  | commitCtlSafetyConfirm t ch => exact goodOut_commit s t ch _ h (fun lc c hc => good_Chan_safetyConfirm c lc hc)
  -- check-value units
  | cvuDataWrite t ch n data =>
    exact goodOut_cvu s t ch n (fun c k => c.cvuData k data) (fun d k => d.cvuData k data) h
      (fun _ c hc => good_Chan_cvuData c n data hc) (fun d hd => good_Dev_cvuData d n data hd)
  | cvuInit t ch n => exact goodOut_cvu s t ch n _ _ h (fun _ c hc => good_Chan_cvuInit c n hc) (fun d hd => good_Dev_cvuInit d n hd)
  | cvuCheck t ch n => exact goodOut_cvu s t ch n _ _ h (fun _ c hc => good_Chan_cvuCheck c n hc) (fun d hd => good_Dev_cvuCheck d n hd)
  -- commands to the device level
  | powerUpRelease t _ => exact goodOut_onDev s t _ h (good_doPowerUpRelease _)
  | railBackInWindow t _ => exact goodOut_onDev s t _ h (good_doRailBackInWindow _)
  | vinDipBegin t _ => exact goodOut_onDev s t _ h (good_doVinDipBegin _)
  | vinDipEnd t _ => exact goodOut_onDev s t _ h (good_doVinDipEnd _)
  | smcWdog t => exact goodOut_onDev s t _ h good_doSmcWdog
  | sysWdogKick t => exact goodOut_onDev s t _ h good_doSysWdogKick
  | sysBlkRst t _ => exact goodOut_onDev s t _ h (good_doSysBlkRst _)
  | xtalLoss t => exact goodOut_onDev s t _ h good_doXtalLoss
  | xtalReturn t => exact goodOut_onDev s t _ h good_doXtalReturn
  | romBoot t _ _ _ => exact goodOut_onDev s t _ h (good_doRomBoot _ _ _)
  | smcPairFault t _ => exact goodOut_onDev s t _ h (good_doSmcPairFault _)
  | cmdFrameRx t _ => exact goodOut_onDev s t _ h (good_doCmdFrameRx _)
  | arcFrameRx t _ => exact goodOut_onDev s t _ h (good_doArcFrameRx _)
  | crdFrameRx t _ => exact goodOut_onDev s t _ h (good_doCrdFrameRx _)
  | bundleTimeout t _ => exact goodOut_onDev s t _ h (good_doBundleTimeout _)
  | crdTimer t => exact goodOut_onDev s t _ h good_doCrdTimer
  | crdFullTimer t => exact goodOut_onDev s t _ h good_doCrdFullTimer
  | retxTimeout t _ => exact goodOut_onDev s t _ h (good_doRetxTimeout _)
  | hqAuditReq t => exact goodOut_onDev s t _ h good_doHqAuditReq
  | hqAuditEpochReq t => exact goodOut_onDev s t _ h good_doHqAuditEpochReq
  | auditDrainEnd t => exact goodOut_onDev s t _ h good_doAuditDrainEnd
  | auditReq t _ => exact goodOut_onDev s t _ h (good_doAuditReq _)
  | auditRsp t _ => exact goodOut_onDev s t _ h (good_doAuditRsp _)
  | auditDone t _ => exact goodOut_onDev s t _ h (good_doAuditDone _)
  | auditRspTimeout t => exact goodOut_onDev s t _ h good_doAuditRspTimeout
  | epochRaise t => exact goodOut_onDev s t _ h good_doEpochRaise
  | epochNewTimer t => exact goodOut_onDev s t _ h good_doEpochNewTimer
  | epochAck t _ => exact goodOut_onDev s t _ h (good_doEpochAck _)
  | epochReq t _ => exact goodOut_onDev s t _ h (good_doEpochReq _)
  | helloTimer t => exact goodOut_onDev s t _ h good_doHelloTimer
  | linkUp t _ => exact goodOut_onDev s t _ h (good_doLinkUp _)
  | linkDown t => exact goodOut_onDev s t _ h good_doLinkDown
  | ptpMessageRx t _ => exact goodOut_onDev s t _ h (good_doPtpMessageRx _)
  | announceTimeout t => exact goodOut_onDev s t _ h good_doAnnounceTimeout
  | ntfHoldoffExpiry t _ => exact goodOut_onDev s t _ h (good_doNtfHoldoffExpiry _)
  | mdioGo t => exact goodOut_onDev s t _ h good_doMdioGo
  | mdioTransactionEnd t _ => exact goodOut_onDev s t _ h (good_doMdioTransactionEnd _)
  | canInitClear t _ => exact goodOut_onDev s t _ h (good_doCanInitClear _)
  | canIntegrated t _ => exact goodOut_onDev s t _ h (good_doCanIntegrated _)
  | canFrameReceived t _ _ _ => exact goodOut_onDev s t _ h (good_doCanFrameReceived _ _ _)
  | protocolException t _ => exact goodOut_onDev s t _ h (good_doProtocolException _)
  | canTxStart t _ => exact goodOut_onDev s t _ h (good_doCanTxStart _)
  | canTxDone t _ _ _ => exact goodOut_onDev s t _ h (good_doCanTxDone _ _ _)
  | canTxFail t _ _ => exact goodOut_onDev s t _ h (good_doCanTxFail _ _)
  | moStatPend t _ _ => exact goodOut_onDev s t _ h (good_doMoStatPend _ _)
  | moStatCancel t _ _ => exact goodOut_onDev s t _ h (good_doMoStatCancel _ _)
  | canCtlRecover t _ => exact goodOut_onDev s t _ h (good_doCanCtlRecover _)
  | canRecoveryComplete t _ => exact goodOut_onDev s t _ h (good_doCanRecoveryComplete _)
  | e2eTimeout t _ _ => exact goodOut_onDev s t _ h (good_doE2eTimeout _ _)
  | addressClaimStart t => exact goodOut_onDev s t _ h good_doAddressClaimStart
  | addressClaimTimer t => exact goodOut_onDev s t _ h good_doAddressClaimTimer
  | addressClaimedRx t _ _ => exact goodOut_onDev s t _ h (good_doAddressClaimedRx _ _)
  | requestPgnRx t _ _ => exact goodOut_onDev s t _ h (good_doRequestPgnRx _ _)
  | transportProtocolRx t _ _ _ _ => exact goodOut_onDev s t _ h (good_doTransportProtocolRx _ _ _ _)
  | arcOpGo t => exact goodOut_onDev s t _ h good_doArcOpGo
  | arcOpDone t _ _ _ _ _ _ _ => exact goodOut_onDev s t _ h (good_doArcOpDone _ _ _ _ _ _ _)
  | phyResetRelease t => exact goodOut_onDev s t _ h good_doPhyResetRelease
  | controlProtocolRx t _ _ _ => exact goodOut_onDev s t _ h (good_doControlProtocolRx _ _ _ _)
  | canRxError t _ _ => exact goodOut_onDev s t _ h (good_doCanRxError _ _)
  | aonClockDeviation t _ => exact goodOut_onDev s t _ h (good_doAonClockDeviation _)
  -- commands that cross parts
  | vinRise t _ => exact goodOut_onMach s t _ h (good_doVinRise _)
  | vinBelowVinRst t _ => exact goodOut_onMach s t _ h (good_doVinBelowVinRst _)
  | pdAonLoss t => exact goodOut_onMach s t _ h good_doPdAonLoss
  | railOutOfWindow t _ => exact goodOut_onMach s t _ h (good_doRailOutOfWindow _)
  | nresetPin t _ => exact goodOut_onMach s t _ h (good_doNresetPin _)
  | nwake t => exact goodOut_onMach s t _ h good_doNwake
  | aonWakeTimer t => exact goodOut_onMach s t _ h good_doAonWakeTimer
  | lpGo t => exact goodOut_onMach s t _ h good_doLpGo
  | colmoStart t _ _ _ _ _ => exact goodOut_onMach s t _ h (good_doColmoStart _ _ _ _ _)
  | bistTestEnd t _ _ _ _ => exact goodOut_onMach s t _ h (good_doBistTestEnd _ _ _ _)
  | channelReset t _ => exact goodOut_onMach s t _ h (good_doChannelReset _)
  | channelResetRelease t _ _ _ _ _ => exact goodOut_onMach s t _ h (good_doChannelResetRelease _ _ _ _ _)
  | timebaseExchange t _ _ _ => exact goodOut_onMach s t _ h (good_doTimebaseExchange _ _ _ _)
  | peerS4Forward t _ => exact goodOut_onMach s t _ h (good_doPeerS4Forward _)
  | registerWrite t _ _ _ => exact goodOut_onMach s t _ h (good_doRegisterWrite _ _ _ _)
  | loRegisterRead t _ _ => exact goodOut_onMach s t _ h (good_doLoRegisterRead _ _ _)
  | hiRegisterRead t _ _ => exact goodOut_onMach s t _ h (good_doHiRegisterRead _ _ _)
  | plumbTest t _ _ => exact goodOut_onMach s t _ h (good_doPlumbTestOf _ _ _)
  | debugHalt t _ _ => exact goodOut_onMach s t _ h (good_doDebugHalt _ _)
  | debugResume t _ => exact goodOut_onMach s t _ h (good_doDebugResume _)
  | tcmEccRead t _ _ _ => exact goodOut_onMach s t _ h (good_doTcmEccRead _ _ _)
  | bistReqStart t _ _ => exact goodOut_onMach s t _ h (fun m hm => good_Mach_bistWrite m _ _ _ _ hm)
  | undercoatStart t => exact goodOut_onMach s t _ h good_doUndercoatStart
  | undercoatRecordWrite t => exact goodOut_onMach s t _ h good_doUndercoatRecordWrite
  | bundleProcess t => exact goodOut_onMach s t _ h good_doBundleProcess
  | mailboxPartTake t _ => exact goodOut_onMach s t _ h (good_doMailboxPartTake _)
  | frameEgress t => exact goodOut_onMach s t _ h good_doFrameEgress
  | ntfVectorFire t _ => exact goodOut_onMach s t _ h (good_doNtfVectorFire _)
  | canMappedMessage t _ _ _ _ _ => exact goodOut_onMach s t _ h (good_doCanMappedMessage _ _ _ _ _ _)
  | snapshotFreeze t _ => exact goodOut_onMach s t _ h (good_doSnapshotFreeze _)
  | snapshotWriteEnd t _ => exact goodOut_onMach s t _ h (good_doSnapshotWriteEnd _)
  | counterWriteTimer t => exact goodOut_onMach s t _ h good_doCounterWriteTimer
  | mailboxTimeout t _ => exact goodOut_onMach s t _ h (good_doMailboxTimeout _)
  -- Colmo's commands
  | info t _ _ | sessionNonce t _ _ | sessionKey t _ _ | sessionEnd t _ _ | flowOpen t _ _ | flowClose t _ _ | ntfAck t _ _ | identitySet t _ _
  | hostcfgWrite t _ _ | psetReadback t _ _ _ | tuningCommit t _ _ _ | safetyStage t _ _ _ | safetyConfirm t _ _ _ | psetStore t _ _ _
  | psetLoad t _ _ _ | arm t _ _ _ | disarm t _ _ _ | clearFault t _ _ _ | reset t _ _ _ | streamTorque t _ _ _ | streamSpeedLimit t _ _ _
  | regRead t _ _ _ | regWrite t _ _ _ | tlmSubscribe t _ _ _ | tlmUnsubscribe t _ _ _ | evtFilter t _ _ | snapCfg t _ _ _ | snapTrigger t _ _ _
  | snapRelease t _ _ _ | snapList t _ _ | arcRead t _ _ | countersRead t _ _ | skimPass t _ _ _ | bistRun t _ _ | shutdown t _ _
  | powerState t _ _ _ | fwStage t _ _ | fwActivate t _ _ | fwConfirm t _ _ | lcNonce t _ _ | lcToken t _ _ | attest t _ _ | canMapWrite t _ _
  | canMapCommit t _ _ | canMapRead t _ _ =>
    exact goodOut_onMach s t _ h (good_hostCommand _ _ _ _)

/-- Settles O4: with a command waiting by `goodOut_exec`; without one the state stays. -/
theorem stepKeepsCanonical : Obligations.StepKeepsCanonical := by
  intro s s' h hs
  unfold step at hs
  split at hs
  case h_1 =>
    injection hs with e
    exact e ▸ h
  case h_2 i rest _ => exact goodOut_exec i { s with pending := rest } h s' hs

/-- Settles O1: the second arm of `step`. -/
theorem stepRunsFront : Obligations.StepRunsFront := by
  intro s i rest h
  unfold step
  rw [h]

/-- A register file that lists no register is in canonical form. -/
theorem wf_nil (dflt : Nat → Nat) : RegMap.wf dflt [] = true := rfl

/-- Settles O3: after reset no register file lists an entry, and each channel bears its name. -/
theorem resetCanonical : Obligations.ResetCanonical :=
  ⟨⟨rfl, wf_nil _, wf_nil _, wf_nil _, wf_nil _⟩, ⟨rfl, wf_nil _, wf_nil _, wf_nil _, wf_nil _⟩, wf_nil _, wf_nil _⟩

end Sys2Proof.Machine
end

section
/-! PROOFS. Writes of registers by software (R9 to R11, R19, R522): what REGISTER_WRITE does for each kind of address, and the writes of the
device's registers and memory by the SMC pair. -/

namespace Sys2Proof.Machine
open Sys2Proof

/-! ### REGISTER_WRITE by address -/

theorem acts_registerWrite {s : State} {t : Tick} {who : Option Ch} {size addr data : Nat} {P : Mach → Prop}
    (h : P (doRegisterWrite who size addr data (s.m.seenAt t))) : Acts (.registerWrite t who ⟨size, addr⟩ data) s P :=
  acts_of (f := doRegisterWrite who size addr data) rfl h

/-- An address that reaches a channel register decodes (R522). -/
theorem chanFields_of_reach {addr a : Nat} {ch : Ch} (h : reach addr = .chan ch a) : (chanFields a).isEmpty = false := by
  unfold reach at h
  split_ifs at h <;> rw [← (Reach.chan.inj h).2] <;> exact Bool.eq_false_of_not_eq_true ‹_›

theorem doRegisterWrite_narrow (who : Option Ch) {size : Nat} (addr data : Nat) (m : Mach) (h : size ≠ 4) : doRegisterWrite who size addr data m = m :=
  if_pos h

theorem Mach.devWrite_dead {m : Mach} (a v : Nat) (h : m.dev.alive = false) : m.devWrite a v = m := by
  simp [devWrite, h]

theorem doRegisterWrite_dev {addr a : Nat} (data : Nat) (m : Mach) (h : reach addr = .dev a) : doRegisterWrite none 4 addr data m = m.devWrite a data := by
  simp [doRegisterWrite, h]

theorem doRegisterWrite_smcMem {addr off : Nat} (data : Nat) (m : Mach) (h : reach addr = .smcMem off) :
    doRegisterWrite none 4 addr data m = if m.dev.alive then { m with smcMem := RegMap.set m.smcMem 0 (off / 4) data } else m := by
  simp [doRegisterWrite, h]

theorem doRegisterWrite_smc_beyond {addr : Nat} (data : Nat) (m : Mach) (h : ∀ x, reach addr ≠ .dev x ∧ reach addr ≠ .smcMem x) :
    doRegisterWrite none 4 addr data m = m := by
  cases hr : reach addr with
  | dev x => exact absurd hr (h x).1
  | smcMem x => exact absurd hr (h x).2
  | _ => simp [doRegisterWrite, hr]

/-- While no SMC runs, no address takes a write of the SMC pair. -/
theorem doRegisterWrite_dead (addr data : Nat) {m : Mach} (h : m.dev.alive = false) : doRegisterWrite none 4 addr data m = m := by
  cases hr : reach addr with
  | dev a => rw [doRegisterWrite_dev data m hr, Mach.devWrite_dead a data h]
  | smcMem off => rw [doRegisterWrite_smcMem data m hr, h]; rfl
  | _ => exact doRegisterWrite_smc_beyond data m (fun x => by simp [hr])

theorem doRegisterWrite_chan {addr a : Nat} {ch : Ch} (data : Nat) {m : Mach} (h : reach addr = .chan ch a)
    (hh : (m.chan ch).b CORE_STATUS_HELD = false) :
    doRegisterWrite (some ch) 4 addr data m = m.onChan ch (live (fun x => x.pairWrite m.dev.lc a data)) := by
  simp [doRegisterWrite, h, hh]

theorem doRegisterWrite_tcm {addr off : Nat} {ch : Ch} (data : Nat) {m : Mach} (h : reach addr = .tcm ch off)
    (hh : (m.chan ch).b CORE_STATUS_HELD = false) :
    doRegisterWrite (some ch) 4 addr data m = m.onChan ch (live (fun x => x.tcmWrite off data)) := by
  simp [doRegisterWrite, h, hh]

theorem doRegisterWrite_pair_beyond {addr : Nat} {ch : Ch} (data : Nat) (m : Mach) (h : ∀ x, reach addr ≠ .chan ch x ∧ reach addr ≠ .tcm ch x) :
    doRegisterWrite (some ch) 4 addr data m = m := by
  cases hr : reach addr with
  | chan k x =>
    have hk : ch ≠ k := by rintro rfl; exact (h x).1 hr
    simp [doRegisterWrite, hr, hk]
  | tcm k x =>
    have hk : ch ≠ k := by rintro rfl; exact (h x).2 hr
    simp [doRegisterWrite, hr, hk]
  | _ => simp [doRegisterWrite, hr]

/-! ### Device registers -/

theorem Dev.regsOnly_wr (d : Dev) (a v : Nat) : d.RegsOnly [a] (d.wr a v) := ⟨frameD_wr (frameD_refl _ _) List.mem_cons_self, rfl⟩

/-- The registers with severity fields (R284). -/
theorem sev_registers {a : Nat} (h : 0 < sevCount a) : a ∈ [SYS_SEV, CAN_SEV 0, CAN_SEV 1, HQ_SEV, ETH_SEV, ARC_SEV, SEC_SEV] := by
  unfold sevCount at h
  simp only [List.mem_cons, List.not_mem_nil, or_false]
  split_ifs at h <;> omega

/-- No severity register acts on a write. -/
theorem sev_not_acting {a : Nat} (h : 0 < sevCount a) : a ∉ actingRegs := by
  have key : ∀ x ∈ [SYS_SEV, CAN_SEV 0, CAN_SEV 1, HQ_SEV, ETH_SEV, ARC_SEV, SEC_SEV], x ∉ actingRegs := by decide
  exact key a (sev_registers h)

/-- Outside CAN, a register that does not act is none of the source registers, whose LATCHED bits R525 keeps. -/
theorem Dev.relatch_plain (d : Dev) {a : Nat} (ha : a ∉ actingRegs) (h4 : a / 65536 ≠ 4) (h5 : a / 65536 ≠ 5) : d.relatch a = d := by
  simp only [actingRegs, List.mem_cons, List.not_mem_nil, not_or, or_false] at ha
  have h0 : a ≠ CAN_SRC_STATUS 0 := by rintro rfl; exact h4 rfl
  have h1 : a ≠ CAN_SRC_STATUS 1 := by rintro rfl; exact h5 rfl
  simp [relatch, ha, h0, h1]

/-- A write of a severity register stores the fields whose value is a severity. -/
theorem Dev.plainWrite_sev (d : Dev) {a : Nat} (v : Nat) (h : 0 < sevCount a) : d.plainWrite a v = d.wr a (sevWord (sevCount a) (d.rd a) v) :=
  if_neg (Nat.ne_of_gt h)

/-- A write of a register that does not act, without severities and fields that the value leaves unchanged, goes by the access codes. -/
theorem Dev.plainWrite_access (d : Dev) {a v : Nat} (ha : a ∉ actingRegs) (h4 : a / 65536 ≠ 4) (h5 : a / 65536 ≠ 5) (hs : sevCount a = 0)
    (hf : heldFld a v = none) : d.plainWrite a v = d.wr a (accWrite (devFields a) (d.rd a) v) := by
  rw [plainWrite, if_pos hs, Dev.relatch_plain _ ha h4 h5, guarded, hf]

/-- Outside CAN and the check-value units, a register that does not act is written by its fields alone. -/
theorem Dev.write_plain (d : Dev) {a : Nat} (v : Nat) (ha : a ∉ actingRegs) (h4 : a / 65536 ≠ 4) (h5 : a / 65536 ≠ 5) (hu : a < 0x80100) :
    d.write a v = d.plainWrite a v := by
  simp only [actingRegs, List.mem_cons, List.not_mem_nil, not_or, or_false] at ha
  simp [write, ha, h4, h5, Nat.not_le.2 hu]

/-- A severity register of any block, CAN's too, is written by its fields alone. -/
theorem Dev.write_sev (d : Dev) {a : Nat} (v : Nat) (h : 0 < sevCount a) : d.write a v = d.plainWrite a v := by
  have hm := sev_registers h
  simp only [List.mem_cons, List.not_mem_nil, or_false] at hm
  rcases hm with rfl | rfl | rfl | rfl | rfl | rfl | rfl <;> rfl

/-- A register that does not act is written within the device level. -/
theorem Mach.devWrite_onDev {m : Mach} {a : Nat} (v : Nat) (h : m.dev.alive = true) (ha : a ∉ actingRegs) :
    m.devWrite a v = { m with dev := m.dev.write a v } := by
  simp only [actingRegs, List.mem_cons, List.not_mem_nil, not_or, or_false] at ha
  simp [devWrite, h, ha, Mach.onDev]

/-- Settles O13: clause by clause, by what the address reaches; a mailbox of a channel counts as no register (log 78). -/
theorem deviceRegisterWrites : Obligations.DeviceRegisterWrites := by
  intro s t addr a data m
  refine ⟨?plain, ?severity, ?memory, ?beyond, ?dead⟩
  case plain =>
    intro hr hl ha h4 h5 hu hs hf
    apply acts_registerWrite
    rw [doRegisterWrite_dev _ _ hr, Mach.devWrite_onDev _ hl ha, Dev.write_plain _ _ ha h4 h5 hu, Dev.plainWrite_access _ ha h4 h5 hs hf]
    exact ⟨_, rfl, Dev.rd_wr_same _ _ _, Dev.regsOnly_wr _ _ _⟩
  case severity =>
    intro hr hl hs
    apply acts_registerWrite
    rw [doRegisterWrite_dev _ _ hr, Mach.devWrite_onDev _ hl (sev_not_acting hs), Dev.write_sev _ _ hs, Dev.plainWrite_sev _ _ hs]
    exact ⟨_, rfl, Dev.rd_wr_same _ _ _, Dev.regsOnly_wr _ _ _⟩
  case memory =>
    intro off hr hl
    apply acts_registerWrite
    rw [doRegisterWrite_smcMem _ _ hr, if_pos hl]
    exact ⟨get_set_same _ _ _ _, fun k hk => get_set_other _ _ _ _ _ _ hk, rfl⟩
  case beyond => exact fun h => acts_registerWrite (doRegisterWrite_smc_beyond _ _ h)
  case dead => exact fun h => acts_registerWrite (doRegisterWrite_dead _ _ h)

end Sys2Proof.Machine
end

section
/-! PROOFS. Writes of a channel's registers and memory by its own pair (R18, R61, R62, R66, R202). -/

namespace Sys2Proof.Machine
open Sys2Proof

/-! ### Bits -/

/-- Every bit of a word of 32 bits lies in this mask. -/
theorem testBit_ones {i : Nat} (h : i < 32) : Nat.testBit 0xFFFFFFFF i = true := by
  rw [show 0xFFFFFFFF = 2 ^ 32 - 1 from rfl, Nat.testBit_two_pow_sub_one]
  exact decide_eq_true h

/-- Bit by bit, a word merged by a mask takes the mask's bits from one word and the others from the other. -/
theorem testBit_merge (x y m : Nat) {i : Nat} (h : i < 32) :
    ((x &&& (0xFFFFFFFF ^^^ m)) ||| (y &&& m)).testBit i = if m.testBit i then y.testBit i else x.testBit i := by
  rw [Nat.testBit_or, Nat.testBit_and, Nat.testBit_and, Nat.testBit_xor, testBit_ones h]
  cases m.testBit i <;> simp

/-! ### The parts of a write by the pair -/

theorem Chan.regsOnly_wr (c : Chan) (a v : Nat) : c.RegsOnly [a] (c.wr a v) := ⟨frame_wr (frame_refl _ _) List.mem_cons_self, rfl⟩

/-- Without a slice in progress an access aborts none. -/
theorem Chan.skimAbortIf_idle {c : Chan} (cls : Nat) (q : Nat → Bool) (h : c.skim.cur = none) : c.skimAbortIf cls q = c := by
  rw [skimAbortIf, h]

theorem blkWith_none {f : SrcRegs → Nat} {a : Nat} (h : ∀ b < 13, f (srcRegs b) ≠ a) : blkWith f a = none :=
  List.find?_eq_none.2 (fun b hb => by simpa using h b (List.mem_range.1 hb))

/-- A register that is no block's SRC_STATUS and heads no first-fault capture keeps what a write gave it. -/
theorem Chan.relatch_plain (c : Chan) {a : Nat} (v : Nat) (h : ∀ b < 13, (srcRegs b).src ≠ a ∧ (srcRegs b).ff ≠ a) : c.relatch a v = c := by
  rw [relatch, blkWith_none (fun b hb => (h b hb).1), blkWith_none (fun b hb => (h b hb).2)]

/-- Of a converter's window the request register and the FIFO's control alone act on a write. -/
theorem Chan.convReq_plain (c : Chan) {a : Nat} (v : Nat) (h : a ∉ requestRegs) (hu : a < 0x1200) : c.convReq a v = c := by
  have key : ∀ n < 4, CONV_REQ n ∈ requestRegs ∧ FIFO_CTL n ∈ requestRegs := by decide
  unfold convReq
  extract_lets n
  have hn : n < 4 := by omega
  clear_value n
  rw [if_neg (fun e : a = CONV_REQ n => h (e ▸ (key n hn).1)), if_neg (fun e : a = FIFO_CTL n => h (e ▸ (key n hn).2))]

/-- A register that is no request register does nothing on a write beyond what its fields take. -/
theorem Chan.reqWrite_plain (c : Chan) (lc : Nat) {a : Nat} (v : Nat) (h : a ∉ requestRegs) : c.reqWrite lc a v = c := by
  have hn := h
  simp only [requestRegs, List.mem_cons, List.not_mem_nil, not_or, or_false] at hn
  simp only [reqWrite, hn, if_false]
  split_ifs with hw
  · exact convReq_plain c v h hw.2
  · rfl

/-- What a write by the pair comes to where nothing but the fields takes it: the RW and W1C fields at once, then the RWC fields. -/
theorem Chan.pairWrite_fields {c : Chan} (lc : Nat) {a : Nat} (v : Nat) (hd : (chanFields a).isEmpty = false) (hk : c.skim.cur = none)
    (hu : a < 0xB100) (hq : a ∉ requestRegs) (hm : a ∉ monitorRegs) (hs : ∀ b < 13, (srcRegs b).src ≠ a ∧ (srcRegs b).ff ≠ a) :
    c.pairWrite lc a v = (c.wr a (accWrite (chanFields a) (c.rd a) v)).rwcWrite a v := by
  simp only [monitorRegs, List.mem_cons, List.not_mem_nil, not_or, or_false] at hm
  obtain ⟨h1, h2⟩ := hm
  have hr : c.regfTouch a = c := by rw [regfTouch, skimAbortIf_idle _ _ hk]
  rw [pairWrite, if_neg h1, if_neg (by simpa using h2), regWrite, if_neg (by simp [hd]), hr, if_neg (by omega), Chan.reqWrite_plain _ _ _ hq,
    plainWrite, Chan.relatch_plain _ _ hs]

/-- The pair writes the torque monitor's results as they are (R202). -/
theorem Chan.pairWrite_monitor (c : Chan) (lc : Nat) {a : Nat} (v : Nat) (h : a ∈ monitorRegs) :
    c.pairWrite lc a v = c.wr a (if a = TM_STATUS then v &&& 0xFFFF001E else v % 2 ^ 32) := by
  simp only [monitorRegs, List.mem_cons, List.not_mem_nil, or_false] at h
  by_cases h1 : a = TM_STATUS
  · rw [pairWrite, if_pos h1, if_pos h1]
  · rw [pairWrite, if_neg h1, if_neg h1, if_pos (h.resolve_left h1)]

theorem Chan.rwcWrite_none (c : Chan) {a : Nat} (v : Nat) (h : rwcBits a = 0) : c.rwcWrite a v = c := if_pos h

theorem Chan.rwcWrite_blocked {c : Chan} {a : Nat} (v : Nat) (h : rwcBits a ≠ 0) (hc : c.ctl.commit.isSome = true) :
    c.rwcWrite a v = c.p COMMIT_STATUS_WRITE_BLOCKED 1 := by
  rw [rwcWrite, if_neg h, if_pos hc]

/-- With no commit pending and no copy running a write reaches the shadow copy, outside ARMED and RUN as it was written. -/
theorem Chan.rwcWrite_shadow {c : Chan} {a : Nat} (v : Nat) (h : rwcBits a ≠ 0) (hc : c.ctl.commit = none) (hk : c.ctl.copying = none) :
    ∃ w, c.rwcWrite a v = c.shadowWrite a w ∧ (c.state ≠ ARMED → c.state ≠ RUN → ∀ i < 32, w.testBit i = v.testBit i) := by
  refine ⟨_, by rw [rwcWrite, if_neg h, hc, hk]; rfl, ?_⟩
  intro ha hr i hi
  rw [if_neg (by simp [ha, hr]), testBit_merge _ _ _ hi, Nat.zero_testBit]
  rfl

/-- Bit by bit, the shadow copy takes the RWC fields of the word written to it and keeps the rest. -/
theorem Chan.rds_shadowWrite_same (c : Chan) (a w : Nat) {i : Nat} (h : i < 32) :
    ((c.shadowWrite a w).rds a).testBit i = if (rwcBits a).testBit i then w.testBit i else (c.rds a).testBit i := by
  rw [shadowWrite, Chan.rds_wrs_same, Nat.testBit_mod_two_pow, testBit_merge _ _ _ h, decide_eq_true h, Bool.true_and]

theorem Chan.rds_shadowWrite_other (c : Chan) {a b : Nat} (w : Nat) (h : b ≠ a) : (c.shadowWrite a w).rds b = c.rds b := Chan.rds_wrs_other _ _ _ _ h

/-- CH_STATE and COMMIT_STATUS have no RWC field (R61). -/
theorem rwcBits_state_commitStatus : rwcBits CH_STATE = 0 ∧ rwcBits COMMIT_STATUS = 0 := by decide

/-! ### The pair's access reaches its channel alone -/

theorem actsIn_registerWrite {s : State} {t : Tick} {ch : Ch} {addr data : Nat} {f : Chan → Chan} {P : Chan → Prop} (ho : (s.m.seen t ch).state ≠ OFF)
    (hw : doRegisterWrite (some ch) 4 addr data (s.m.seenAt t) = (s.m.seenAt t).onChan ch (live f)) (h : P (f (s.m.seen t ch))) :
    ActsIn (.registerWrite t (some ch) ⟨4, addr⟩ data) s t ch P := by
  refine actsIn_of (f := doRegisterWrite (some ch) 4 addr data) rfl ?_ h
  rw [hw, onChan_seenAt, live, if_neg ho]

/-- A channel's registers stand as a command finds them. -/
theorem Mach.seenAt_b (m : Mach) (t : Tick) (ch : Ch) (f : Fld) : ((m.seenAt t).chan ch).b f = (m.seen t ch).b f := by
  cases ch <;> rfl

theorem actsIn_pairWrite {s : State} {t : Tick} {ch : Ch} {addr a data : Nat} {P : Chan → Prop} (hr : reach addr = .chan ch a)
    (ho : (s.m.seen t ch).state ≠ OFF) (hh : (s.m.seen t ch).b CORE_STATUS_HELD = false) (h : P ((s.m.seen t ch).pairWrite s.m.dev.lc a data)) :
    ActsIn (.registerWrite t (some ch) ⟨4, addr⟩ data) s t ch P :=
  actsIn_registerWrite ho (doRegisterWrite_chan data hr ((s.m.seenAt_b t ch _).trans hh)) h

theorem actsIn_tcmWrite {s : State} {t : Tick} {ch : Ch} {addr off data : Nat} {P : Chan → Prop} (hr : reach addr = .tcm ch off)
    (ho : (s.m.seen t ch).state ≠ OFF) (hh : (s.m.seen t ch).b CORE_STATUS_HELD = false) (h : P ((s.m.seen t ch).tcmWrite off data)) :
    ActsIn (.registerWrite t (some ch) ⟨4, addr⟩ data) s t ch P :=
  actsIn_registerWrite ho (doRegisterWrite_tcm data hr ((s.m.seenAt_b t ch _).trans hh)) h

/-- Settles O12: clause by clause, by what the address reaches and by the state of the commit; the channel's own mailbox takes no write (log 78). -/
theorem channelRegisterWrites : Obligations.ChannelRegisterWrites := by
  intro s t ch addr a data c
  refine ⟨?registers, ?monitor, ?memory, ?beyond, ?narrow⟩
  case registers =>
    intro hr ho hh hk hu hq hm hs
    have hw : c.pairWrite s.m.dev.lc a data = (c.wr a (accWrite (chanFields a) (c.rd a) data)).rwcWrite a data :=
      Chan.pairWrite_fields _ _ (chanFields_of_reach hr) hk hu hq hm hs
    refine ⟨fun hb => ?plain, fun hb hc hy => ?shadow, fun hb hc => ?blocked⟩ <;> refine actsIn_pairWrite hr ho hh ?_ <;> rw [hw]
    case plain =>
      rw [Chan.rwcWrite_none _ _ hb]
      exact ⟨Chan.rd_wr_same _ _ _, Chan.regsOnly_wr _ _ _⟩
    case shadow =>
      have hst : ∀ v, (c.wr a v).state = c.state := fun v => Chan.g_wr_reg _ _ _ _ (fun e => hb (e ▸ rwcBits_state_commitStatus.1))
      obtain ⟨w, e, hv⟩ := Chan.rwcWrite_shadow (c := c.wr a (accWrite (chanFields a) (c.rd a) data)) data hb hc hy
      rw [e]
      refine ⟨Chan.rd_wr_same _ _ _, frame_wr (frame_refl _ _) List.mem_cons_self, fun x hx => Chan.rds_shadowWrite_other _ _ hx, ?_, rfl⟩
      intro ha hn i hi
      rw [Chan.rds_shadowWrite_same _ _ _ hi, hv (by rwa [hst]) (by rwa [hst]) i hi, Chan.rds_wr]
    case blocked =>
      have hx : a ≠ COMMIT_STATUS := fun e => hb (e ▸ rwcBits_state_commitStatus.2)
      rw [Chan.rwcWrite_blocked (c := c.wr a _) _ hb hc]
      refine ⟨Chan.b_p_one _ _ rfl, ?_, frame_p (frame_wr (frame_refl _ _) List.mem_cons_self) ?_, rfl⟩
      · rw [Chan.rd_p_other _ _ _ _ hx, Chan.rd_wr_same]
      · exact List.mem_cons_of_mem _ List.mem_cons_self
  case monitor =>
    intro hr ho hh hm
    refine actsIn_pairWrite hr ho hh ?_
    rw [Chan.pairWrite_monitor _ _ _ hm]
    refine ⟨(Chan.rd_wr_same _ _ _).trans (Nat.mod_eq_of_lt ?_), Chan.regsOnly_wr _ _ _⟩
    split_ifs
    · exact lt_of_le_of_lt Nat.and_le_right (by decide)
    · exact Nat.mod_lt _ (by decide)
  case memory =>
    intro off hr ho hh hk
    refine actsIn_tcmWrite hr ho hh ?_
    rw [Chan.tcmWrite, Chan.skimAbortIf_idle _ _ hk]
    exact ⟨get_set_same _ _ _ _, fun k hk => get_set_other _ _ _ _ _ _ hk, rfl⟩
  case beyond => exact fun h => acts_registerWrite (doRegisterWrite_pair_beyond _ _ h)
  case narrow => exact fun size who h => acts_registerWrite (doRegisterWrite_narrow _ _ _ _ h)

end Sys2Proof.Machine
end

section
/-! PROOFS. The time domain, the PHY and the control protocols: O51. -/

namespace Sys2Proof.Machine
open Sys2Proof

theorem toBits_lt (w : Nat) (i : Int) : toBits w i < 2 ^ w := by
  have hp : (0 : Int) < (2 ^ w : Nat) := by positivity
  have h1 := Int.emod_nonneg i hp.ne'
  have h2 := Int.emod_lt_of_pos i hp
  rw [toBits]
  omega

theorem Dev.frame_of_regs {l : List Nat} {d0 d e : Dev} (h : d0.Frame l d) (he : e.regs = d.regs) : d0.Frame l e := fun a ha => by
  rw [← h a ha, Dev.rd, Dev.rd, he]

/-! ### The messages of the time domain (R354 to R356) -/

/-- GOOD after a Sync interval with an offset. -/
def Dev.goodAfter (d : Dev) (o : Int) : Nat := if o.natAbs < 100 then min 16 (d.eth.good + 1) else 0
/-- BAD after a Sync interval with an offset. -/
def Dev.badAfter (d : Dev) (o : Int) : Nat := if 1000 < o.natAbs then min 3 (d.eth.bad + 1) else 0

/-- The counts of a Sync interval in place, before SYNCED follows them. -/
def Dev.counted (d : Dev) (o : Int) : Dev := { d with eth := { d.eth with good := d.goodAfter o, bad := d.badAfter o } }

theorem Dev.syncCount_eq (d : Dev) (o : Int) :
    d.syncCount o = if d.badAfter o = 3 then (d.counted o).p PTP_STATUS_SYNCED 0 else if d.goodAfter o = 16 then (d.counted o).p PTP_STATUS_SYNCED 1 else d.counted o := rfl

@[simp] theorem Dev.syncCount_eth (d : Dev) (o : Int) : (d.syncCount o).eth = { d.eth with good := d.goodAfter o, bad := d.badAfter o } := by
  rw [Dev.syncCount_eq]
  split_ifs
  · exact Dev.p_eth _ _ _
  · exact Dev.p_eth _ _ _
  · rfl

@[simp] theorem Dev.syncCount_off (d : Dev) (o : Int) : (d.syncCount o).off = d.off := by
  rw [Dev.syncCount_eq]
  split_ifs
  · exact Dev.p_off _ _ _
  · exact Dev.p_off _ _ _
  · rfl

@[simp] theorem Dev.syncCount_free (d : Dev) (o : Int) : (d.syncCount o).free = d.free := by
  rw [Dev.syncCount_eq]
  split_ifs
  · exact Dev.p_free _ _ _
  · exact Dev.p_free _ _ _
  · rfl

theorem Dev.syncCount_synced (d : Dev) (o : Int) :
    (d.syncCount o).b PTP_STATUS_SYNCED = if d.badAfter o = 3 then false else if d.goodAfter o = 16 then true else d.b PTP_STATUS_SYNCED := by
  rw [Dev.syncCount_eq]
  split_ifs
  · exact Dev.b_p_zero _ _ rfl
  · exact Dev.b_p_one _ _ rfl
  · rfl

theorem Dev.frame_syncCount (d : Dev) (o : Int) : d.Frame [PTP_STATUS] (d.syncCount o) := by
  rw [Dev.syncCount_eq]
  split_ifs
  · exact frameD_p (frameD_refl _ _) List.mem_cons_self
  · exact frameD_p (frameD_refl _ _) List.mem_cons_self
  · exact frameD_refl _ _

/-- What a Sync with the offset `o` leaves of the device `d` that received it. -/
structure Dev.Synced (d : Dev) (o : Int) (e : Dev) : Prop where
  offset : e.g PTP_OFFSET_OFFSET = toBits 32 (sat32 o)
  synced : e.b PTP_STATUS_SYNCED = if d.badAfter o = 3 then false else if d.goodAfter o = 16 then true else d.b PTP_STATUS_SYNCED
  eth : e.eth = { d.eth with stamp := d.time, syncAt := none, good := d.goodAfter o, bad := d.badAfter o }
  off : e.off = d.off + Config.ptpServo o d.free
  free : e.free = d.free + 1
  frame : d.Frame [PTP_OFFSET, PTP_STATUS] e

/-- The device after a Sync with the offset `o`, before the counts: the offset in PTP_OFFSET, device time corrected. -/
def Dev.servoed (d : Dev) (o : Int) : Dev :=
  let d1 := (d.rxStamp.p PTP_OFFSET_OFFSET (toBits 32 (sat32 o))).took 1
  { d1 with lastTime := d1.time, off := d1.off + Config.ptpServo o d.free, eth := { d1.eth with syncAt := none } }

theorem Dev.ptpSync_synced (d : Dev) (stamp : Nat) (origin : Int) : d.Synced ((stamp : Int) - (origin + d.eth.delay)) (d.rxStamp.ptpSync stamp origin) := by
  set o : Int := (stamp : Int) - (origin + d.eth.delay) with ho
  change d.Synced o ((d.servoed o).syncCount o)
  have hg : ∀ f, (d.servoed o).g f = (d.p PTP_OFFSET_OFFSET (toBits 32 (sat32 o))).g f := fun _ => rfl
  have hp : d.Frame [PTP_OFFSET] (d.servoed o) := Dev.frame_of_regs (d := d.p PTP_OFFSET_OFFSET (toBits 32 (sat32 o))) (frameD_p (frameD_refl _ _) List.mem_cons_self) rfl
  constructor
  case offset =>
    rw [Dev.g, Dev.frame_syncCount _ _ _ (by decide), ← Dev.g, hg, Dev.g_p_same _ _ _ rfl]
    exact Nat.mod_eq_of_lt (toBits_lt _ _)
  case synced =>
    have hb : (d.servoed o).b PTP_STATUS_SYNCED = d.b PTP_STATUS_SYNCED := Dev.b_p_other _ _ _ _ rfl rfl rfl
    rw [Dev.syncCount_synced, hb]
    rfl
  case eth => rw [Dev.syncCount_eth]; rfl
  case off => rw [Dev.syncCount_off]; rfl
  case free => rw [Dev.syncCount_free]; rfl
  case frame =>
    intro a ha
    simp only [List.mem_cons, List.not_mem_nil, or_false, not_or] at ha
    rw [Dev.frame_syncCount _ _ a (by simpa using ha.2), hp a (by simpa using ha.1)]

theorem doPtpMessageRx_off {d : Dev} (h : d.ptpOn = false) (msg : PtpMsg) : doPtpMessageRx msg d = d := by
  simp [doPtpMessageRx, h]

/-- A message that carries another domain. -/
theorem doPtpMessageRx_other_domain {d : Dev} {n : Nat} (h : d.ptpOn = true) (hn : d.g PTP_CFG_DOMAIN ≠ n) (origin : Int) :
    ∀ msg ∈ ([.sync n origin, .syncTwo n, .followUp n origin, .announce n, .other] : List PtpMsg), doPtpMessageRx msg d = d.rxStamp := by
  have hi : d.rxStamp.inDomain n = false := beq_false_of_ne hn
  simp only [List.mem_cons, List.not_mem_nil, or_false, forall_eq_or_imp, forall_eq, doPtpMessageRx, h, hi]
  refine ⟨rfl, rfl, ?_, rfl, rfl⟩
  cases d.rxStamp.eth.syncAt <;> rfl

section
variable {d : Dev} (h : d.ptpOn = true)
include h

theorem doPtpMessageRx_other : doPtpMessageRx .other d = d.rxStamp := by simp [doPtpMessageRx, h]
theorem doPtpMessageRx_pdelay (delay : Int) : doPtpMessageRx (.pdelay delay) d = { d with eth := { d.eth with stamp := d.time, delay := delay } } := by
  simp [doPtpMessageRx, h, Dev.rxStamp]
theorem doPtpMessageRx_followUp_none (n : Nat) (origin : Int) (hs : d.eth.syncAt = none) : doPtpMessageRx (.followUp n origin) d = d.rxStamp := by
  simp [doPtpMessageRx, h, Dev.rxStamp, hs]

variable {n : Nat} (hn : d.g PTP_CFG_DOMAIN = n)
include hn

theorem doPtpMessageRx_sync (origin : Int) : doPtpMessageRx (.sync n origin) d = d.rxStamp.ptpSync d.time origin := by
  simp [doPtpMessageRx, h, Dev.rxStamp, Dev.inDomain, Dev.g, Dev.rd, ← hn]
theorem doPtpMessageRx_syncTwo : doPtpMessageRx (.syncTwo n) d = { d with eth := { d.eth with stamp := d.time, syncAt := some d.time } } := by
  simp [doPtpMessageRx, h, Dev.rxStamp, Dev.inDomain, Dev.g, Dev.rd, ← hn]
theorem doPtpMessageRx_announce : doPtpMessageRx (.announce n) d = d.rxStamp.p PTP_STATUS_GM_PRESENT 1 := by
  simp [doPtpMessageRx, h, Dev.rxStamp, Dev.inDomain, Dev.g, Dev.rd, ← hn]
theorem doPtpMessageRx_followUp_some (origin : Int) {t : Nat} (hs : d.eth.syncAt = some t) :
    doPtpMessageRx (.followUp n origin) d = d.rxStamp.ptpSync t origin := by
  simp [doPtpMessageRx, h, Dev.rxStamp, hs, Dev.inDomain, Dev.g, Dev.rd, ← hn]
end

/-! ### Control protocols (R354) -/

/-- A frame of a control protocol counted and stamped. -/
def Dev.ctlRxed (d : Dev) : Dev := d.rxStamp.wrapInc ETH_RX_FRAMES_COUNT

@[simp] theorem Dev.ctlRxed_eth (d : Dev) : d.ctlRxed.eth = { d.eth with stamp := d.time } := Dev.p_eth _ _ _

theorem Dev.ctlRxed_count (d : Dev) : d.ctlRxed.g ETH_RX_FRAMES_COUNT = (d.g ETH_RX_FRAMES_COUNT + 1) % 2 ^ 32 := Dev.g_p_same _ _ _ rfl

theorem Dev.ctlRxed_rd {d : Dev} {a : Nat} (h : a ≠ ETH_RX_FRAMES) : d.ctlRxed.rd a = d.rd a := Dev.rd_p_other _ _ _ _ h

theorem Dev.ctlRxed_g {d : Dev} {f : Fld} (h : f.reg ≠ ETH_RX_FRAMES) : d.ctlRxed.g f = d.g f := Dev.g_p_reg _ _ _ _ h

/-- Colmo answers a request for `dst` on `vid`: it is up, the address is one of the module's, and with VLAN_EN the VID is the module's. -/
def Dev.answersCtl (d : Dev) (proto : CtlProto) (dst : Nat) (vid : Option Nat) : Prop :=
  d.up = true ∧ (if proto = .arp ∨ proto = .echo then d.rd IP4_ADDR ≠ 0 ∧ dst = d.rd IP4_ADDR else dst = Config.linkLocal d.otp.mac ∨ (d.ip6 ≠ 0 ∧ dst = d.ip6)) ∧
    (d.b ETH_CTL_VLAN_EN = true → vid = some (d.g UDP_VLAN_VID))

theorem Dev.mine_iff (d : Dev) (proto : CtlProto) (dst : Nat) : d.mine proto dst = true ↔
    if proto = .arp ∨ proto = .echo then d.rd IP4_ADDR ≠ 0 ∧ dst = d.rd IP4_ADDR else dst = Config.linkLocal d.otp.mac ∨ (d.ip6 ≠ 0 ∧ dst = d.ip6) := by
  cases proto <;> simp [Dev.mine, protoV4]

/-- The conditions of an answer are the same before and after the frame is counted. -/
theorem Dev.answersCtl_ctlRxed (d : Dev) (proto : CtlProto) (dst : Nat) (vid : Option Nat) :
    d.answersCtl proto dst vid ↔ ¬ (!d.ctlRxed.up ∨ !d.ctlRxed.mine proto dst ∨ (d.ctlRxed.b ETH_CTL_VLAN_EN ∧ vid ≠ some (d.ctlRxed.g UDP_VLAN_VID))) := by
  have hu : d.ctlRxed.up = d.up := by
    rw [Dev.up, Dev.halted, Dev.b, Dev.ctlRxed_g (by decide)]
    rfl
  have hi : d.ctlRxed.ip6 = d.ip6 := by
    have hk : ∀ k ∈ List.range 4, IP6_ADDR k ≠ ETH_RX_FRAMES := by decide
    exact List.foldl_ext _ _ _ fun a k h => by rw [Dev.ctlRxed_rd (hk k h)]
  have hm : d.ctlRxed.mine proto dst = d.mine proto dst := by
    simp [Dev.mine, hi, Dev.ctlRxed_rd (show IP4_ADDR ≠ ETH_RX_FRAMES by decide), show d.ctlRxed.otp = d.otp from Dev.p_otp _ _ _]
  have hv : d.ctlRxed.b ETH_CTL_VLAN_EN = d.b ETH_CTL_VLAN_EN := by rw [Dev.b, Dev.ctlRxed_g (by decide), Dev.b]
  rw [hu, hm, hv, Dev.ctlRxed_g (by decide), Dev.answersCtl, ← Dev.mine_iff]
  simp

theorem doControlProtocolRx_dead {d : Dev} (proto : CtlProto) (dst src : Nat) (vid : Option Nat) (hl : (d.alive && d.b ETH_STATUS_LINK_UP) = false) :
    doControlProtocolRx proto dst src vid d = d := by
  refine if_pos ?_
  rcases Bool.and_eq_false_iff.1 hl with h | h
  · exact .inl (by rw [h]; rfl)
  · exact .inr (by rw [h]; rfl)

/-- The device after Colmo has answered a request of a control protocol. -/
def Dev.ctlAnswered (d : Dev) (proto : CtlProto) (src : Nat) : Dev :=
  { d.ctlRxed.wrapInc ETH_TX_FRAMES_COUNT with eth := { d.eth with stamp := d.time, answered := some (proto, src) } }

theorem Dev.ctlAnswered_rx (d : Dev) (proto : CtlProto) (src : Nat) : (d.ctlAnswered proto src).g ETH_RX_FRAMES_COUNT = (d.g ETH_RX_FRAMES_COUNT + 1) % 2 ^ 32 :=
  (Dev.g_p_reg d.ctlRxed ETH_TX_FRAMES_COUNT _ _ (by decide)).trans d.ctlRxed_count

theorem Dev.ctlAnswered_tx (d : Dev) (proto : CtlProto) (src : Nat) : (d.ctlAnswered proto src).g ETH_TX_FRAMES_COUNT = (d.g ETH_TX_FRAMES_COUNT + 1) % 2 ^ 32 := by
  rw [← Dev.ctlRxed_g (d := d) (show ETH_TX_FRAMES_COUNT.reg ≠ ETH_RX_FRAMES by decide)]
  exact Dev.g_p_same d.ctlRxed ETH_TX_FRAMES_COUNT _ rfl

theorem Dev.frame_ctlAnswered (d : Dev) (proto : CtlProto) (src : Nat) : d.Frame [ETH_RX_FRAMES, ETH_TX_FRAMES] (d.ctlAnswered proto src) := by
  have h : d.Frame [ETH_RX_FRAMES, ETH_TX_FRAMES] d.ctlRxed := frameD_p (frameD_refl _ _) List.mem_cons_self
  exact Dev.frame_of_regs (frameD_p (f := ETH_TX_FRAMES_COUNT) (v := d.ctlRxed.g ETH_TX_FRAMES_COUNT + 1) h (List.mem_cons_of_mem _ List.mem_cons_self)) rfl

section
variable {d : Dev} (proto : CtlProto) (dst src : Nat) (vid : Option Nat) (hl : (d.alive && d.b ETH_STATUS_LINK_UP) = true)
include hl

theorem doControlProtocolRx_silent (h : ¬ d.answersCtl proto dst vid) : doControlProtocolRx proto dst src vid d = d.ctlRxed := by
  have hx : ¬ (!d.alive ∨ !d.b ETH_STATUS_LINK_UP) := by simpa using hl
  rw [Dev.answersCtl_ctlRxed, not_not] at h
  rw [doControlProtocolRx, if_neg hx]
  exact if_pos h

theorem doControlProtocolRx_answers (h : d.answersCtl proto dst vid) :
    doControlProtocolRx proto dst src vid d = d.ctlAnswered proto src := by
  have hx : ¬ (!d.alive ∨ !d.b ETH_STATUS_LINK_UP) := by simpa using hl
  rw [Dev.answersCtl_ctlRxed] at h
  rw [doControlProtocolRx, if_neg hx]
  exact (if_neg h).trans rfl
end

/-! ### The obligation -/

/-- Settles O51: clause by clause, by the equation of the message or of the operation. -/
theorem timeDomainAndPhy : Obligations.TimeDomainAndPhy := by
  intro s t n origin proto dst src vid d p nothing onn mine stamped msgs offset good bad synced busy ready live addressed answers rxed
  have hmine : mine = true → d.g PTP_CFG_DOMAIN = n := of_decide_eq_true
  have hsync : ∀ st : Nat, synced (offset st) (d.rxStamp.ptpSync st origin) := fun st =>
    have h := d.ptpSync_synced st origin
    ⟨h.offset, h.synced, h.eth, h.off, h.free, h.frame⟩
  have acts : ∀ {msg : PtpMsg} {P : Dev → Prop}, P (doPtpMessageRx msg d) → ActsDev (.ptpMessageRx t msg) s t P := fun h => actsDev_of rfl rfl h
  refine ⟨?off, ?domain, ?other, ?sync, ?syncTwo, ?followNone, ?followSome, ?pdelay, ?announce, ?dead, ?timeout, ?mdioBusy, ?mdioGo, ?mdioEnd, ?phyNot, ?phy,
    ?ctlOff, ?ctlSilent, ?ctlAnswer⟩
  case off => exact fun h msg _ => acts (doPtpMessageRx_off h msg)
  case domain => exact fun h hm msg hmsg => acts (doPtpMessageRx_other_domain h (of_decide_eq_false hm) origin msg hmsg)
  case other => exact fun h => acts (doPtpMessageRx_other h)
  case sync => exact fun h hm => acts (by rw [doPtpMessageRx_sync h (hmine hm)]; exact hsync _)
  case syncTwo => exact fun h hm => acts (doPtpMessageRx_syncTwo h (hmine hm))
  case followNone => exact fun h _ hs => acts (doPtpMessageRx_followUp_none h n origin hs)
  case followSome => exact fun h hm hs => acts (by rw [doPtpMessageRx_followUp_some h (hmine hm) origin hs]; exact hsync _)
  case pdelay => exact fun h => acts (doPtpMessageRx_pdelay h origin)
  case announce =>
    intro h hm
    refine acts ?_
    rw [doPtpMessageRx_announce h (hmine hm)]
    exact ⟨Dev.b_p_one _ _ rfl, Dev.p_eth _ _ _, frameD_p (frameD_refl _ _) List.mem_cons_self⟩
  case dead =>
    intro h
    refine ⟨actsDev_of rfl rfl ?_, actsDev_of rfl rfl ?_, actsDev_of rfl rfl ?_⟩
    · exact if_pos (by rw [h]; rfl)
    · exact if_pos (.inl (by rw [h]; rfl))
    · exact if_pos (.inl (by rw [h]; rfl))
  case timeout =>
    intro h
    refine actsDev_of rfl rfl ?_
    rw [doAnnounceTimeout, h]
    refine ⟨?_, Dev.b_p_zero _ _ rfl, (Dev.p_eth _ _ _).trans (Dev.p_eth _ _ _), frameD_p (frameD_p (frameD_refl _ _) List.mem_cons_self) List.mem_cons_self⟩
    exact (Dev.b_p_other _ _ _ _ rfl rfl rfl).trans (Dev.b_p_zero _ _ rfl)
  case mdioBusy => exact fun _ hb => actsDev_of rfl rfl (if_pos (.inr hb))
  case mdioGo =>
    intro h hb
    have hn : ¬ (!d.alive ∨ d.b MDIO_CTL_BUSY) := by simp [h, show d.b MDIO_CTL_BUSY = false from hb]
    have he : !d.alive ∨ !d.b MDIO_CTL_BUSY := .inr (by rw [show d.b MDIO_CTL_BUSY = false from hb]; rfl)
    refine ⟨actsDev_of rfl rfl (if_pos he), actsDev_of rfl rfl ?_⟩
    rw [doMdioGo, if_neg hn]
    refine ⟨(Dev.b_p_other _ _ _ _ rfl rfl rfl).trans (Dev.b_p_one _ _ rfl), Dev.b_p_one _ _ rfl, ?_, rfl⟩
    exact frameD_p (frameD_p (frameD_refl _ _) List.mem_cons_self) List.mem_cons_self
  case mdioEnd =>
    intro h hb
    have hn : ¬ (!d.alive ∨ !d.b MDIO_CTL_BUSY) := by simp [h, show d.b MDIO_CTL_BUSY = true from hb]
    refine actsDev_of rfl rfl ?_
    rw [doMdioTransactionEnd, if_neg hn, Dev.when]
    have hgo : ((d.p MDIO_CTL_GO 0).p MDIO_CTL_BUSY 0).b MDIO_CTL_GO = false := (Dev.b_p_other _ _ _ _ rfl rfl rfl).trans (Dev.b_p_zero _ _ rfl)
    have hbusy : ((d.p MDIO_CTL_GO 0).p MDIO_CTL_BUSY 0).b MDIO_CTL_BUSY = false := Dev.b_p_zero _ _ rfl
    have hf : d.Frame [MDIO_CTL, MDIO_DATA] ((d.p MDIO_CTL_GO 0).p MDIO_CTL_BUSY 0) := frameD_p (frameD_p (frameD_refl _ _) List.mem_cons_self) List.mem_cons_self
    split_ifs with hr
    · exact ⟨(Dev.b_p_other _ _ _ _ rfl rfl rfl).trans hgo, (Dev.b_p_other _ _ _ _ rfl rfl rfl).trans hbusy, Dev.g_p_same _ _ _ rfl,
        frameD_p hf (List.mem_cons_of_mem _ List.mem_cons_self), rfl⟩
    · exact ⟨hgo, hbusy, (Dev.g_p_reg _ _ _ _ (by decide)).trans (Dev.g_p_reg _ _ _ _ (by decide)), hf, rfl⟩
  case phyNot => exact fun h => actsDev_of rfl rfl (if_neg (by rw [Bool.not_eq_true]; exact h))
  case phy => exact fun h => actsDev_of rfl rfl (if_pos h)
  case ctlOff =>
    intro h
    exact actsDev_of rfl rfl (doControlProtocolRx_dead proto dst src vid h)
  case ctlSilent =>
    intro h ha
    refine actsDev_of rfl rfl ?_
    rw [doControlProtocolRx_silent proto dst src vid h ha]
    exact ⟨d.ctlRxed_count, d.ctlRxed_eth, frameD_p (frameD_refl _ _) List.mem_cons_self⟩
  case ctlAnswer =>
    intro h ha
    refine actsDev_of rfl rfl ?_
    rw [doControlProtocolRx_answers proto dst src vid h ha]
    exact ⟨d.ctlAnswered_rx proto src, d.ctlAnswered_tx proto src, rfl, d.frame_ctlAnswered proto src⟩

end Sys2Proof.Machine
end

section
/-! PROOFS. Audits with more open flows than one SYNC frame can list: O49. -/

namespace Sys2Proof.Machine
open Sys2Proof

/-- What a command on the device level does is what its operation leaves. -/
theorem of_actsDev {i : Instr} {s : State} {t : Tick} {f : Dev → Dev} {P : Dev → Prop} (he : exec i s = s.onDev t f) (h : ActsDev i s t P) :
    P (f (s.m.seenDev t)) := by
  obtain ⟨d, hd, hP⟩ := h
  have e : ({ s with m := { s.m.advance t with dev := f (s.m.seenDev t) } } : State) = { s with m := { s.m.advance t with dev := d } } :=
    Host.Outcome.next.inj (he.symm.trans hd)
  have e' : f (s.m.seenDev t) = d := congrArg (fun x : State => x.m.dev) e
  rwa [e']

/-! ### The counterexample: 118 flows are open, and the host answers the module's audit -/

/-- The module has asked for an audit; 118 flows are open, one more than a SYNC frame lists. -/
def crowdedDev : Dev :=
  ({ pwr := { phase := .run, smc := .up }, otp := { mac := 0x020000000001 },
     hq := { flows := (List.range 118).map (fun f => (f, { flowReset f with opened := true })), link := { audit := some ⟨true, true, 0, 0⟩ } } } : Dev).wr IP4_ADDR 77
    |>.p ETH_STATUS_LINK_UP 1

def crowdedState : State := { m := { dev := crowdedDev, a := { id := .a }, b := { id := .b }, holds := [] } }

/-- The host's AUDIT_RSP: one entry, F1's, with the counters that the module holds. -/
def crowdedRsp : RxFrame :=
  ⟨true, 0x020000000001, none, false, 77, 47520, 99, 1234,
    [23, 0, 63, 0, 0, 0, 0, 0, 0, 0, 0, 0, 0, 0, 0, 0, 0, 0, 0, 0, 0, 16, 0, 0, 0, 0, 0, 0, 0, 0, 0, 0, 2, 0, 1, 0, 1, 0, 0, 0, 0, 0, 0, 16, 0, 0, 0, 0, 180, 36, 59, 12]⟩

/-- The module answers with AUDIT_DONE in two parts. -/
theorem crowdedRsp_two_parts : (doAuditRsp crowdedRsp (crowdedState.m.seenDev 0)).hq.ctl.length = 2 := by decide +kernel

/-- Refutes O49: with 118 flows open the list of AUDIT_DONE goes in two frames, where the clause of the consistent AUDIT_RSP allows one; it lacks `small`. -/
theorem not_auditsEpochsAndTheLink : ¬ Obligations.AuditsEpochsAndTheLink := by
  intro h
  obtain ⟨-, -, -, -, -, -, -, -, -, -, -, -, hrsp, -⟩ := h.1 crowdedState 0 crowdedRsp ⟨true, true, 0, 0⟩ false
  have hacts := hrsp (by decide +kernel) rfl rfl rfl (by decide +kernel) ⟨by decide +kernel, by decide +kernel⟩
  obtain ⟨-, -, -, -, hlen⟩ := of_actsDev (f := doAuditRsp crowdedRsp) rfl hacts
  rw [crowdedRsp_two_parts] at hlen
  exact absurd hlen (by decide +kernel)

end Sys2Proof.Machine
end

section
/-! PROOFS. A flow opened under the number of the command's own flow: O55. -/

namespace Sys2Proof.Machine
open Sys2Proof

/-- What a command on the machine does is what its operation leaves. -/
theorem of_acts {i : Instr} {s : State} {t : Tick} {f : Mach → Mach} {P : Mach → Prop} (he : exec i s = s.onMach t f) (h : Acts i s P) : P (f (s.m.seenAt t)) := by
  obtain ⟨m, hm, hP⟩ := h
  have e : ({ s with m := f (s.m.seenAt t) } : State) = { s with m := m } := Host.Outcome.next.inj (he.symm.trans hm)
  have e' : f (s.m.seenAt t) = m := congrArg State.m e
  rwa [e']

/-! ### The counterexample: the flow opened is the one that the request names as its own -/

/-- Class 3 is held and nothing is due; the closed flow 5 is still paired with F1, which is open. -/
def stalePairDev : Dev :=
  { pwr := { phase := .run, smc := .up }, seqs := [0, 0, 0, 0, 0, 0, 0, 0], colmo := { session := { cls := some 3 } },
    hq := { flows := [(5, { pairEn := true, pair := 1 })] } }

def stalePairState : State := { m := { dev := stalePairDev, a := { id := .a }, b := { id := .b }, holds := [] } }

/-- FLOW_OPEN of flow 5 without a pair, by a request that names flow 5 as its own. -/
def stalePairReq : Req := ⟨5, 5, 1, 0, 7, 99, 12⟩
def stalePairArgs : List Nat := [5, 1, 8, 1, 0, 5, 0, 0]

/-- The flow opened has no pair, so that the RSP finds no flow: F1's queue stays empty. -/
theorem stalePair_no_answer : ((hostCommand .flowOpen stalePairReq 0 stalePairArgs (stalePairState.m.seenAt 0)).dev.queue 8).frames = [] := by decide +kernel

/-- Refutes O55: a request that names a closed flow as its own loses its pair to the FLOW_OPEN of that flow, and no RSP is sent; `CanAnswer` does not ask that the
request's flow be open. -/
theorem not_colmoLinkCommands : ¬ Obligations.ColmoLinkCommands := by
  intro h
  obtain ⟨-, -, -, -, -, -, -, -, -, -, hopen, -⟩ := h stalePairState 0 stalePairReq stalePairArgs
  have hacts := hopen (by decide +kernel) (by decide +kernel) rfl (by decide +kernel) rfl (by decide +kernel)
  have hrsp := (of_acts (f := hostCommand .flowOpen stalePairReq 0 stalePairArgs) rfl hacts).1
  have hframes := stalePair_no_answer.symm.trans hrsp
  exact absurd hframes (by decide +kernel)

end Sys2Proof.Machine
end

section
/-! PROOFS. Fields, counters and sources of the device level. -/

namespace Sys2Proof.Machine
open Sys2Proof

/-! ### Fields and counters -/

theorem bitsOf_lt (w hi lo : Nat) : bitsOf w hi lo < 2 ^ (hi + 1 - lo) := Nat.mod_lt _ (by positivity)

theorem Dev.g_lt (d : Dev) (f : Fld) : d.g f < 2 ^ (f.hi + 1 - f.lo) := bitsOf_lt _ _ _

theorem satAdd_le (m n : Nat) : Sys2Proof.satAdd m n ≤ m := by
  rw [Sys2Proof.satAdd]
  split_ifs <;> omega

/-- A saturating counter reads the value stepped. -/
theorem Dev.g_satInc (d : Dev) (f : Fld) (h : f.ok = true) : (d.satInc f).g f = Sys2Proof.satAdd (2 ^ (f.hi + 1 - f.lo) - 1) (d.g f) := by
  have hg := d.g_lt f
  have hs := satAdd_le (2 ^ (f.hi + 1 - f.lo) - 1) (d.g f)
  rw [Dev.satInc, Dev.g_p_same _ _ _ h, Nat.mod_eq_of_lt (by omega)]

theorem Dev.Frame.g {l : List Nat} {d e : Dev} (h : d.Frame l e) {f : Fld} (hf : f.reg ∉ l) : e.g f = d.g f := by rw [Dev.g, h _ hf, Dev.g]
theorem Dev.Frame.b {l : List Nat} {d e : Dev} (h : d.Frame l e) {f : Fld} (hf : f.reg ∉ l) : e.b f = d.b f := by rw [Dev.b, h.g hf, Dev.b]
theorem Dev.Frame.mono {l k : List Nat} {d e : Dev} (h : d.Frame l e) (hl : ∀ x ∈ l, x ∈ k) : d.Frame k e := fun x hx => h x (fun hm => hx (hl x hm))

/-! ### Sources (R386) -/

theorem Dev.told_refl (l : List Nat) (d : Dev) : d.Told l d := ⟨frameD_refl _ _, rfl⟩

theorem Dev.Told.trans {l : List Nat} {a b c : Dev} (h : a.Told l b) (k : b.Told l c) : a.Told l c := by
  refine ⟨frameD_trans h.1 k.1, ?_⟩
  have h2 := congrArg (fun d : Dev => ({ d with regs := a.regs, recs := a.recs, seqs := a.seqs, lastTime := a.lastTime } : Dev)) k.2
  exact h2.trans h.2

theorem Dev.told_srcWrite (d : Dev) (s : DSrc) (w type : Nat) : d.Told [s.reg] ((d.wr s.reg w).srcEvt type s) :=
  ⟨frameD_wr (frameD_refl _ _) List.mem_cons_self, rfl⟩

theorem Dev.told_raise (d : Dev) (s : DSrc) : d.Told [s.reg] (d.raise s) := by
  unfold Dev.raise
  split_ifs
  · exact d.told_refl _
  · exact d.told_srcWrite _ _ _

theorem Dev.told_clear (d : Dev) (s : DSrc) : d.Told [s.reg] (d.clear s) := by
  unfold Dev.clear
  split_ifs
  · exact d.told_srcWrite _ _ _
  · exact d.told_refl _

theorem Dev.told_pulse (d : Dev) (s : DSrc) : d.Told [s.reg] (d.pulse s) := (d.told_raise s).trans (Dev.told_clear _ s)

theorem Dev.Told.frame {l : List Nat} {d e : Dev} (h : d.Told l e) : d.Frame l e := h.1
theorem Dev.Told.arch {l : List Nat} {d e : Dev} (h : d.Told l e) : e.arch = d.arch :=
  have k := congrArg Dev.arch h.2
  k
theorem Dev.Told.hq {l : List Nat} {d e : Dev} (h : d.Told l e) : e.hq = d.hq :=
  have k := congrArg Dev.hq h.2
  k

/-- A source raised while it is not active becomes active and latches. -/
theorem Dev.raise_bits {d : Dev} {s : DSrc} (h : d.srcActive s = false) (hs : s.bit < 16) :
    (d.raise s).srcActive s = true ∧ (d.raise s).srcLatched s = true := by
  have e : (d.raise s).rd s.reg = setBit (setBit (d.rd s.reg) (16 + s.bit) true) s.bit true % 2 ^ 32 := by
    rw [Dev.raise, if_neg (by simp [h])]
    exact Dev.rd_wr_same _ _ _
  simp only [Dev.srcActive, Dev.srcLatched, e, Nat.testBit_mod_two_pow, testBit_setBit]
  exact ⟨by simp [show 16 + s.bit < 32 by omega], by simp [show s.bit < 32 by omega]⟩

/-- A source cleared keeps its LATCHED bit. -/
theorem Dev.clear_latched (d : Dev) {s : DSrc} (hs : s.bit < 16) : (d.clear s).srcLatched s = d.srcLatched s := by
  rw [Dev.clear]
  split_ifs
  · have e : ((d.wr s.reg (setBit (d.rd s.reg) (16 + s.bit) false)).srcEvt 1 s).rd s.reg = setBit (d.rd s.reg) (16 + s.bit) false % 2 ^ 32 := Dev.rd_wr_same _ _ _
    simp only [Dev.srcLatched, e, Nat.testBit_mod_two_pow, testBit_setBit]
    simp [show s.bit < 32 by omega]
  · rfl

/-- A source active for one cycle has latched. -/
theorem Dev.pulse_latched {d : Dev} {s : DSrc} (h : d.srcActive s = false) (hs : s.bit < 16) : (d.pulse s).srcLatched s = true := by
  rw [Dev.pulse, Dev.clear_latched _ hs]
  exact (Dev.raise_bits h hs).2

theorem Dev.Frame.srcActive {l : List Nat} {d e : Dev} (h : d.Frame l e) {s : DSrc} (hs : s.reg ∉ l) : e.srcActive s = d.srcActive s := by
  rw [Dev.srcActive, h _ hs, Dev.srcActive]

end Sys2Proof.Machine
end

section
/-! PROOFS. The archive's operations, the snapshot ring, the counters' writes: O54. -/

namespace Sys2Proof.Machine
open Sys2Proof

/-! ### Page operations (R454, R455) -/

/-- The registers that the end of every operation writes. -/
def opRegs : List Nat := [ARC_OP, ARC_OP_STATUS, ARC_IRQ_STATUS]

/-- An operation has ended with a result. -/
def Dev.OpEnded (r : Nat) (e : Dev) : Prop := e.b ARC_OP_GO = false ∧ e.g ARC_OP_STATUS_RESULT = r ∧ e.b ARC_IRQ_STATUS_OP_DONE = true

/-- What the end of an operation writes whatever its result. -/
def Dev.opEnd (d : Dev) (r : Nat) : Dev := ((d.p ARC_OP_GO 0).p ARC_OP_STATUS_RESULT r).p ARC_IRQ_STATUS_OP_DONE 1

theorem Dev.opEnd_ended (d : Dev) {r : Nat} (hr : r < 8) : (d.opEnd r).OpEnded r := by
  refine ⟨?_, ?_, Dev.b_p_one _ _ rfl⟩
  · exact (Dev.b_p_other _ _ _ _ rfl rfl rfl).trans ((Dev.b_p_other _ _ _ _ rfl rfl rfl).trans (Dev.b_p_zero _ _ rfl))
  · exact (Dev.g_p_other _ _ _ _ rfl rfl rfl).trans ((Dev.g_p_same _ _ _ rfl).trans (Nat.mod_eq_of_lt hr))

theorem Dev.frame_opEnd (d : Dev) (r : Nat) : d.Frame opRegs (d.opEnd r) := by
  refine frameD_p (frameD_p (frameD_p (frameD_refl _ _) ?_) ?_) ?_ <;> decide

@[simp] theorem Dev.opEnd_arch (d : Dev) (r : Nat) : (d.opEnd r).arch = d.arch := by
  rw [Dev.opEnd, Dev.p_arch, Dev.p_arch, Dev.p_arch]

theorem Dev.OpEnded.frame {r : Nat} {d e : Dev} {l : List Nat} (h : d.OpEnded r) (k : d.Frame l e) (hl : ∀ a ∈ opRegs, a ∉ l) : e.OpEnded r := by
  obtain ⟨hgo, hres, hirq⟩ := h
  exact ⟨(k.b (hl _ (by decide))).trans hgo, (k.g (hl _ (by decide))).trans hres, (k.b (hl _ (by decide))).trans hirq⟩

/-- The result of a page read. -/
def readResult (present decodes crcOk : Bool) (bits : Nat) : Nat := if !present then 5 else if !decodes then 2 else if !crcOk then 3 else if bits = 0 then 0 else 1

theorem readResult_absent_iff {present decodes crcOk : Bool} {bits : Nat} : readResult present decodes crcOk bits = 5 ↔ present = false := by
  cases present
  · simp [readResult]
  · simp only [readResult, Bool.not_true, Bool.false_eq_true, if_false, reduceCtorEq, iff_false]
    split_ifs <;> decide

theorem readResult_present {present decodes crcOk : Bool} {bits : Nat} (h : readResult present decodes crcOk bits ≠ 5) : present = true := by
  rwa [Ne, readResult_absent_iff, Bool.not_eq_false] at h

theorem readResult_clean {present decodes crcOk : Bool} {bits : Nat} (h : readResult present decodes crcOk bits = 0) : bits = 0 := by
  unfold readResult at h
  split_ifs at h
  assumption

/-- The result of a program (1), an erase (2) or a reset (3). -/
theorem arcResult_other {code : Nat} (h : code ≠ 0) (present decodes crcOk : Bool) (bits : Nat) (fail : Bool) :
    arcResult code present decodes crcOk bits fail = if !present then 5 else if code = 3 then 0 else if fail then 4 else 0 := by
  unfold arcResult
  split
  · rfl
  · match code, h with
    | 0, h => exact absurd rfl h
    | 1, _ => rfl
    | 2, _ => rfl
    | 3, _ => rfl
    | n + 4, _ => rfl

section
variable {d : Dev} (present decodes crcOk fail : Bool) (bits part slot : Nat)

theorem doArcOpDone_idle (h : (d.alive && d.b ARC_OP_GO) = false) : doArcOpDone present decodes crcOk bits fail part slot d = d := by
  refine if_pos ?_
  rcases Bool.and_eq_false_iff.1 h with h | h
  · exact .inl (by rw [h]; rfl)
  · exact .inr (by rw [h]; rfl)

variable (h : (d.alive && d.b ARC_OP_GO) = true)
include h

theorem doArcOpDone_runs : doArcOpDone present decodes crcOk bits fail part slot d =
    let r := arcResult (d.g ARC_OP_CODE) present decodes crcOk bits fail
    if d.g ARC_OP_CODE = 0 ∧ present then (d.opEnd r).pageRead r bits part slot
    else if r = 4 then ((d.opEnd r).retire part slot).pulse BAD_BLOCK
    else d.opEnd r := by
  have hn : ¬ (!d.alive ∨ !d.b ARC_OP_GO) := by simpa using h
  exact if_neg hn

/-- A page read from a device that answers. -/
theorem doArcOpDone_read (hc : d.g ARC_OP_CODE = 0) (hp : present = true) :
    doArcOpDone present decodes crcOk bits fail part slot d = (d.opEnd (readResult present decodes crcOk bits)).pageRead (readResult present decodes crcOk bits) bits part slot := by
  rw [doArcOpDone_runs _ _ _ _ _ _ _ h, hc]
  exact if_pos ⟨rfl, hp⟩

/-- An operation that ends with its result alone. -/
theorem doArcOpDone_plain (hc : d.g ARC_OP_CODE = 0 → present = false) {r : Nat} (hr : arcResult (d.g ARC_OP_CODE) present decodes crcOk bits fail = r) (h4 : r ≠ 4) :
    doArcOpDone present decodes crcOk bits fail part slot d = d.opEnd r := by
  have hn : ¬ (d.g ARC_OP_CODE = 0 ∧ present = true) := fun k => by simp [hc k.1] at k
  rw [doArcOpDone_runs _ _ _ _ _ _ _ h]
  simp only [hr, if_neg hn, if_neg h4]

/-- A program or an erase that failed. -/
theorem doArcOpDone_failed (hc : d.g ARC_OP_CODE ≠ 0) (hr : arcResult (d.g ARC_OP_CODE) present decodes crcOk bits fail = 4) :
    doArcOpDone present decodes crcOk bits fail part slot d = ((d.opEnd 4).retire part slot).pulse BAD_BLOCK := by
  rw [doArcOpDone_runs _ _ _ _ _ _ _ h]
  simp only [hr, hc, false_and, if_false, if_true]
end

/-- The device after a page read's count of the most bits corrected and the step of a counter. -/
def Dev.readCount (d : Dev) (bits : Nat) (f : Fld) : Dev := (d.p ARC_ECC_MAXBITS (min 15 bits)).satInc f

theorem Dev.frame_readCount (d : Dev) (bits : Nat) {f : Fld} (hf : f.reg = ARC_ECC) : d.Frame [ARC_ECC] (d.readCount bits f) :=
  frameD_p (frameD_p (frameD_refl _ _) List.mem_cons_self) (by rw [hf]; exact List.mem_cons_self)

@[simp] theorem Dev.readCount_arch (d : Dev) (bits : Nat) (f : Fld) : (d.readCount bits f).arch = d.arch := by
  rw [Dev.readCount, Dev.satInc, Dev.p_arch, Dev.p_arch]

theorem Dev.readCount_count (d : Dev) (bits : Nat) {f : Fld} (hf : f.ok = true) (ha : ARC_ECC_MAXBITS.apart f = true) :
    (d.readCount bits f).g f = Sys2Proof.satAdd (2 ^ (f.hi + 1 - f.lo) - 1) (d.g f) := by
  rw [Dev.readCount, Dev.g_satInc _ _ hf, Dev.g_p_other _ _ _ _ rfl hf ha]

theorem Dev.readCount_maxbits (d : Dev) (bits : Nat) {f : Fld} (hf : f.ok = true) (ha : f.apart ARC_ECC_MAXBITS = true) :
    (d.readCount bits f).g ARC_ECC_MAXBITS = min 15 bits := by
  rw [Dev.readCount, Dev.satInc, Dev.g_p_other _ _ _ _ hf rfl ha, Dev.g_p_same _ _ _ rfl]
  exact Nat.mod_eq_of_lt (by change min 15 bits < 16; omega)

/-- A page read that steps a counter and pulses its source: what the two and the end of the operation leave. -/
theorem Dev.read_counted (d : Dev) {r : Nat} (bits : Nat) {f : Fld} {src : DSrc} (hr : r < 8) (hf : f.ok = true) (hr1 : f.reg = ARC_ECC) (ha : ARC_ECC_MAXBITS.apart f = true)
    (ha' : f.apart ARC_ECC_MAXBITS = true) (hs : src.reg = ARC_SRC_STATUS) (hb : src.bit < 16) (hi : d.srcActive src = false) :
    let e := ((d.opEnd r).readCount bits f).pulse src
    e.OpEnded r ∧ e.g ARC_ECC_MAXBITS = min 15 bits ∧ e.g f = Sys2Proof.satAdd (2 ^ (f.hi + 1 - f.lo) - 1) (d.g f) ∧ e.srcLatched src = true ∧ e.arch = d.arch := by
  have h1 := d.frame_opEnd r
  have h2 := (d.opEnd r).frame_readCount bits hr1
  have h3 := ((d.opEnd r).readCount bits f).told_pulse src
  rw [hs] at h3
  refine ⟨((d.opEnd_ended hr).frame h2 (by decide)).frame h3.frame (by decide), ?_, ?_, ?_, ?_⟩
  · rw [h3.frame.g (by decide), Dev.readCount_maxbits _ _ hf ha']
  · rw [h3.frame.g (by rw [hr1]; decide), Dev.readCount_count _ _ hf ha, h1.g (by rw [hr1]; decide)]
  · refine Dev.pulse_latched ?_ hb
    rw [h2.srcActive (by rw [hs]; decide), h1.srcActive (by rw [hs]; decide), hi]
  · rw [h3.arch, Dev.readCount_arch, Dev.opEnd_arch]

theorem Dev.frame_retire (d : Dev) (part slot : Nat) : d.Frame [] (d.retire part slot) := fun _ _ => rfl

/-- A program or an erase that failed: the block retired, BAD_BLOCK, the end of the operation. -/
theorem Dev.op_failed (d : Dev) (part slot : Nat) (hi : d.srcActive BAD_BLOCK = false) :
    let e := ((d.opEnd 4).retire part slot).pulse BAD_BLOCK
    e.OpEnded 4 ∧ e.srcLatched BAD_BLOCK = true ∧ e.arch = (d.retire part slot).arch := by
  have h1 := d.frame_opEnd 4
  have h2 := (d.opEnd 4).frame_retire part slot
  have h3 := ((d.opEnd 4).retire part slot).told_pulse BAD_BLOCK
  refine ⟨((d.opEnd_ended (by decide)).frame h2 (by decide)).frame h3.frame (by decide), Dev.pulse_latched ?_ (by decide), ?_⟩
  · rw [h2.srcActive (by decide), h1.srcActive (by decide), hi]
  · rw [h3.arch, Dev.retire, Dev.retire, Dev.onArch, Dev.onArch, Dev.opEnd_arch]

theorem Dev.pageRead_clean (d : Dev) (bits part slot : Nat) : d.pageRead 0 bits part slot = d.p ARC_ECC_MAXBITS (min 15 bits) := rfl
theorem Dev.pageRead_corrected (d : Dev) (bits part slot : Nat) : d.pageRead 1 bits part slot =
    ((d.readCount bits ARC_ECC_CORR).pulse ECC_CORR).when (Nat.ble (d.g ARC_CFG_REFRESH_LVL) bits) (fun e => e.retire part slot) := rfl
theorem Dev.pageRead_failed (d : Dev) {r : Nat} (bits part slot : Nat) (h : r = 2 ∨ r = 3) :
    d.pageRead r bits part slot = (d.readCount bits ARC_ECC_UNCORR).pulse ECC_UNCORR := by
  rcases h with rfl | rfl <;> rfl

/-! ### The snapshot ring (R460, R461) -/

theorem Mach.onChan_onDev (m : Mach) (ch : Ch) (f : Dev → Dev) (g : Chan → Chan) : (m.onDev f).onChan ch g = (m.onChan ch g).onDev f := by
  cases ch <;> rfl

theorem Chan.frozen_iff (c : Chan) : c.frozen = decide (c.ring.phase = .frozen) := by
  unfold Chan.frozen
  cases c.ring.phase <;> rfl

theorem Chan.ringFreeze_post {c : Chan} (h : c.ring.phase = .post) : c.ringFreeze = { c with ring := { c.ring with phase := .frozen } } := by
  unfold Chan.ringFreeze
  rw [h]

theorem Chan.ringFreeze_other {c : Chan} (h : c.ring.phase ≠ .post) : c.ringFreeze = c := by
  unfold Chan.ringFreeze
  split
  · exact absurd ‹_› h
  · rfl

/-- The ring of a channel after SNAPSHOT_FREEZE. -/
theorem Chan.live_ringFreeze (c : Chan) :
    live Chan.ringFreeze c = if c.state ≠ OFF ∧ c.ring.phase = .post then { c with ring := { c.ring with phase := .frozen } } else c := by
  rw [live]
  by_cases ho : c.state = OFF
  · rw [if_pos ho, if_neg (fun k => k.1 ho)]
  · rw [if_neg ho]
    by_cases hp : c.ring.phase = .post
    · rw [if_pos ⟨ho, hp⟩, Chan.ringFreeze_post hp]
    · rw [if_neg (fun k => hp k.2), Chan.ringFreeze_other hp]

theorem Arch.snapIndex_eq (a : Arch) :
    a.snapIndex = ((List.range a.ringSlots).map (fun i => (a.nextIndex + i) % 2 ^ 32)).find? (fun i => !a.retired.contains (i % a.ringSlots)) := by
  unfold Arch.snapIndex
  split
  · rw [‹a.ringSlots = 0›]; rfl
  · rfl

/-- The device after a snapshot's entry `x` has been put into the ring, with its event record. -/
def Dev.snapPut (d : Dev) (x : Snap) (source : Nat) : Dev := (d.onArch (fun a => a.putSnap x)).record 5 (.evt 8 0x86 0 0 x.index (source * 2 ^ 24))

theorem decide_eq_none_eq_isNone {α : Type} (o : Option α) : decide (o = none) = o.isNone := by cases o <;> rfl

/-- Whether SNAPSHOT_FREEZE begins a write. -/
def startsWrite (d : Dev) (c : Chan) : Bool := d.up && decide (d.arch.writing = none) && (c.state != OFF && decide (c.ring.phase = .post) || decide (c.ring.phase = .frozen))

/-- The device with Colmo writing the snapshot of a channel. -/
def Dev.writes (d : Dev) (w : Option Ch) : Dev := { d with arch := { d.arch with writing := w } }

theorem Chan.live_ringFreeze_frozen (c : Chan) :
    (live Chan.ringFreeze c).frozen = (c.state != OFF && decide (c.ring.phase = .post) || decide (c.ring.phase = .frozen)) := by
  rw [Chan.live_ringFreeze, Chan.frozen_iff]
  split_ifs with h
  · simp [h.1, h.2]
  · by_cases ho : c.state = OFF
    · simp [ho]
    · simp [show c.ring.phase ≠ .post from fun k => h ⟨ho, k⟩]

/-- A channel whose ring begins to be written has it frozen. -/
theorem live_ringFreeze_of_starts {d : Dev} {c : Chan} (h : startsWrite d c = true) : live Chan.ringFreeze c = { c with ring := { c.ring with phase := .frozen } } := by
  rw [startsWrite, ← Chan.live_ringFreeze_frozen, Bool.and_eq_true, Chan.frozen_iff, decide_eq_true_eq] at h
  have hf := h.2
  rw [Chan.live_ringFreeze] at hf ⊢
  split_ifs at hf ⊢ with hp
  · rfl
  · rw [← hf]

/-- What follows the sending of a snapshot: the other channel's, where it is frozen. -/
def Chan.follows (c : Chan) (ch : Ch) : Option Ch := if c.ring.phase = .frozen then some ch else none

/-- Colmo, up and writing no snapshot, takes a channel's if it is frozen. -/
theorem Mach.beginWrite_of {m : Mach} {ch : Ch} (hup : m.dev.up = true) (hw : m.dev.arch.writing = none) :
    m.beginWrite ch = m.onDev (fun d => d.writes ((m.chan ch).follows ch)) := by
  rw [Mach.beginWrite, hup, hw, Chan.frozen_iff, Chan.follows]
  by_cases hp : (m.chan ch).ring.phase = .frozen
  · rw [decide_eq_true hp, if_pos hp]
    rfl
  · rw [decide_eq_false hp, if_neg hp, Bool.and_false, ← hw]
    rfl

theorem acts_mono {i : Instr} {s : State} {P Q : Mach → Prop} (h : Acts i s P) (hPQ : ∀ x, P x → Q x) : Acts i s Q := by
  obtain ⟨m, hm, hP⟩ := h
  exact ⟨m, hm, hPQ m hP⟩

section
variable (s : State) (t : Tick) (ch : Ch)

theorem Mach.seenAt_chan (m : Mach) (t : Tick) (ch : Ch) : (m.seenAt t).chan ch = m.chan ch := by cases ch <;> rfl

/-- A snapshot operation changes one channel and the device level. -/
theorem acts_snapshot {i : Instr} {f : Mach → Mach} {g : Dev → Dev} {c : Chan} (he : exec i s = s.onMach t f)
    (hf : f (s.m.seenAt t) = ((s.m.seenAt t).setChan ch c).onDev g) (hn : c.now = (s.m.seen t ch).now) :
    Acts i s (fun x => x.dev = g (s.m.seenDev t) ∧ ({ x.chan ch with now := (s.m.seen t ch).now } : Chan) = c ∧
      { x.chan ch.other with now := (s.m.seen t ch).now } = s.m.seen t ch.other ∧ x.holds = s.m.holds) := by
  refine acts_of he ?_
  rw [hf, ← hn]
  cases ch <;> exact ⟨rfl, rfl, by rw [hn]; rfl, rfl⟩

theorem doSnapshotFreeze_seenAt :
    doSnapshotFreeze ch (s.m.seenAt t) =
      ((s.m.seenAt t).setChan ch (live Chan.ringFreeze (s.m.seen t ch))).onDev (fun d => if startsWrite (s.m.seenDev t) (s.m.seen t ch) then d.writes (some ch) else d) := by
  have h : ((s.m.seenAt t).dev.up && (s.m.seenAt t).dev.arch.writing.isNone && (live Chan.ringFreeze (s.m.seen t ch)).frozen) = startsWrite (s.m.seenDev t) (s.m.seen t ch) := by
    rw [Chan.live_ringFreeze_frozen, startsWrite, decide_eq_none_eq_isNone]
    rfl
  rw [doSnapshotFreeze, onChan_seenAt, Mach.beginWrite, Mach.chan_setChan, Mach.setChan_dev, h]
  split_ifs <;> rfl

/-- The index under which a channel's snapshot is written: the ring's next slot that is not retired. -/
def nextSnap (a : Arch) : Option Nat := ((List.range a.ringSlots).map (fun i => (a.nextIndex + i) % 2 ^ 32)).find? (fun i => !a.retired.contains (i % a.ringSlots))

/-- Whether SNAPSHOT_WRITE_END puts an entry into the ring. -/
def endsWrite (d : Dev) (c : Chan) (ch : Ch) : Bool := d.up && decide (d.arch.writing = some ch) && decide (c.ring.phase = .frozen) && (nextSnap d.arch).isSome

/-- The index, if SNAPSHOT_WRITE_END puts an entry into the ring. -/
theorem writeEnd_index (d : Dev) (c : Chan) : (if d.up && d.arch.writing == some ch && c.frozen then d.arch.snapIndex else none) =
    if endsWrite d c ch then some ((nextSnap d.arch).getD 0) else none := by
  rw [Chan.frozen_iff, Arch.snapIndex_eq, endsWrite, ← nextSnap]
  cases nextSnap d.arch with
  | none => simp
  | some i => simp [beq_eq_decide]

theorem doSnapshotWriteEnd_seenAt (hw : endsWrite (s.m.seenDev t) (s.m.seen t ch) ch = true) :
    doSnapshotWriteEnd ch (s.m.seenAt t) = ((s.m.seenAt t).setChan ch (s.m.seen t ch).ringRelease).onDev
      (fun d => (d.snapPut ((s.m.seen t ch).snapEntry ((nextSnap (s.m.seenDev t).arch).getD 0)) ch.source).writes ((s.m.chan ch.other).follows ch.other)) := by
  have h := (writeEnd_index ch (s.m.seenDev t) (s.m.seen t ch)).trans (if_pos hw)
  have hup : (s.m.seenDev t).up = true := by
    simp only [endsWrite, Bool.and_eq_true] at hw
    exact hw.1.1.1
  have ho : ∀ c f, (((s.m.seenAt t).setChan ch c).onDev f).chan ch.other = s.m.chan ch.other := by cases ch <;> exact fun _ _ => rfl
  rw [doSnapshotWriteEnd, Mach.seenAt_chan]
  change (if (s.m.seenAt t).dev.up && (s.m.seenAt t).dev.arch.writing == some ch && (s.m.chan ch).frozen then (s.m.seenAt t).dev.arch.snapIndex else none) = _ at h
  simp only [h]
  rw [Mach.onChan_onDev, onChan_seenAt, Mach.beginWrite_of (by cases ch <;> exact hup) (by cases ch <;> rfl), ho]
  rfl

theorem doSnapshotWriteEnd_idle (hw : endsWrite (s.m.seenDev t) (s.m.seen t ch) ch = false) : doSnapshotWriteEnd ch (s.m.seenAt t) = s.m.seenAt t := by
  have h := (writeEnd_index ch (s.m.seenDev t) (s.m.seen t ch)).trans (if_neg (ne_true_of_eq_false hw))
  rw [doSnapshotWriteEnd, Mach.seenAt_chan]
  change (if (s.m.seenAt t).dev.up && (s.m.seenAt t).dev.arch.writing == some ch && (s.m.chan ch).frozen then (s.m.seenAt t).dev.arch.snapIndex else none) = none at h
  simp only [h]
end

/-! ### The counters' writes (R462, R474) -/

theorem doCounterWriteTimer_seenAt (s : State) (t : Tick) : doCounterWriteTimer (s.m.seenAt t) =
    if (s.m.seenDev t).up && decide ((s.m.seenDev t).bist.mode ≠ .undercoat) && !decide (partSpares 6 < nth (s.m.seenDev t).arch.used 6) &&
      (s.m.seenDev t).since (s.m.seenDev t).baseAt (ms 600000) then (s.m.seenAt t).writeCounters else s.m.seenAt t := by
  have h6 : (s.m.seenDev t).arch.full 6 = decide (partSpares 6 < nth (s.m.seenDev t).arch.used 6) := by
    rw [Arch.full, Bool.eq_iff_iff, Nat.blt_eq, decide_eq_true_eq]
  have hm : ((s.m.seenDev t).bist.mode != .undercoat) = decide ((s.m.seenDev t).bist.mode ≠ .undercoat) := by rw [bne, beq_eq_decide, decide_not]
  rw [← h6, ← hm]
  rfl

/-! ### The obligation -/

/-- Settles O54: by the result of the operation, by the phase of the rings, by the ring's next free slot. -/
theorem archiveAndSnapshots : Obligations.ArchiveAndSnapshots := by
  intro s t ch present decodes crcOk fail bits part slot d c a m nothing done code runs read wrote ended regs retired acts post frozen starts idx writes i entry follows put due
  have hdone : ∀ {P : Dev → Prop}, P (doArcOpDone present decodes crcOk bits fail part slot d) → ActsDev done s t P := fun h => actsDev_of rfl rfl h
  have hwrote : code ≠ 0 → arcResult code present decodes crcOk bits fail = wrote := fun hc => arcResult_other hc _ _ _ _ _
  have hend : ∀ r < 8, ended r (d.opEnd r) ∧ d.RegsOnly regs (d.opEnd r) := fun r hr => ⟨d.opEnd_ended hr, d.frame_opEnd r, rfl⟩
  have hfreeze := acts_snapshot s t ch (i := .snapshotFreeze t ch) rfl (doSnapshotFreeze_seenAt s t ch) (by rw [Chan.live_ringFreeze]; split_ifs <;> rfl)
  refine ⟨?dead, ?go, ?idle, ?absent, ?clean, ?corrected, ?uncorrected, ?wrote, ?failed, ?noStart, ?start, ?noWrite, ?write, ?notDue, ?due⟩
  case dead => exact fun h => actsDev_of rfl rfl (if_neg (by simp [d, h]))
  case go =>
    intro h
    refine actsDev_of rfl rfl ?_
    rw [doArcOpGo, if_pos h]
    exact ⟨Dev.b_p_one _ _ rfl, frameD_p (frameD_refl _ _) List.mem_cons_self, rfl⟩
  case idle => exact fun h => hdone (doArcOpDone_idle _ _ _ _ _ _ _ h)
  case absent =>
    intro h hc hr
    have hp : present = false := readResult_absent_iff.1 hr
    refine hdone ?_
    rw [doArcOpDone_plain _ _ _ _ _ _ _ h (fun _ => hp) (r := 5) (by rw [hp]; rfl) (by decide)]
    exact hend 5 (by decide)
  case clean =>
    intro h hc (hr : readResult present decodes crcOk bits = 0)
    have hb : bits = 0 := readResult_clean hr
    refine hdone ?_
    rw [doArcOpDone_read _ _ _ _ _ _ _ h hc (readResult_present (by rw [hr]; decide)), hr, Dev.pageRead_clean, hb]
    have hf : (d.opEnd 0).Frame [ARC_ECC] ((d.opEnd 0).p ARC_ECC_MAXBITS (min 15 0)) := frameD_p (frameD_refl _ _) List.mem_cons_self
    refine ⟨(d.opEnd_ended (by decide)).frame hf (by decide), Dev.g_p_same _ _ _ rfl, ?_, rfl⟩
    exact frameD_trans ((d.frame_opEnd 0).mono (by decide)) (hf.mono (by decide))
  case corrected =>
    intro h hc (hr : readResult present decodes crcOk bits = 1) hi
    refine hdone ?_
    rw [doArcOpDone_read _ _ _ _ _ _ _ h hc (readResult_present (by rw [hr]; decide)), hr, Dev.pageRead_corrected, (d.frame_opEnd 1).g (by decide)]
    obtain ⟨he, hmax, hcorr, hlatch, harch⟩ := d.read_counted (r := 1) (f := ARC_ECC_CORR) (src := ECC_CORR) bits (by decide) rfl rfl rfl rfl rfl (by decide) hi
    rw [Dev.when]
    split_ifs with h1 h2 h2
    · have hf := Dev.frame_retire (((d.opEnd 1).readCount bits ARC_ECC_CORR).pulse ECC_CORR) part slot
      refine ⟨he.frame hf (by decide), (hf.g (by decide)).trans hmax, (hf.g (by decide)).trans hcorr, ?_, by rw [Dev.retire, Dev.onArch, harch]⟩
      rw [Dev.srcLatched, hf _ (by decide), ← Dev.srcLatched, hlatch]
    · exact absurd (Nat.le_of_ble_eq_true h1) h2
    · exact absurd (Nat.ble_eq_true_of_le h2) h1
    · exact ⟨he, hmax, hcorr, hlatch, harch⟩
  case uncorrected =>
    intro h hc (hr : readResult present decodes crcOk bits = 2 ∨ readResult present decodes crcOk bits = 3) hi
    have hr8 : readResult present decodes crcOk bits < 8 ∧ readResult present decodes crcOk bits ≠ 5 := by rcases hr with e | e <;> rw [e] <;> decide
    refine hdone ?_
    rw [doArcOpDone_read _ _ _ _ _ _ _ h hc (readResult_present hr8.2), Dev.pageRead_failed _ _ _ _ hr]
    obtain ⟨he, -, hcount, hlatch, harch⟩ := d.read_counted (f := ARC_ECC_UNCORR) (src := ECC_UNCORR) bits hr8.1 rfl rfl rfl rfl rfl (by decide) hi
    exact ⟨he, hcount, hlatch, harch⟩
  case wrote =>
    intro h hc hr
    have hr8 : wrote < 8 := by simp only [wrote]; split_ifs <;> decide
    refine hdone ?_
    rw [doArcOpDone_plain _ _ _ _ _ _ _ h (fun k => absurd k hc) (hwrote hc) hr]
    exact hend wrote hr8
  case failed =>
    intro h hc hr hi
    refine hdone ?_
    rw [doArcOpDone_failed _ _ _ _ _ _ _ h hc ((hwrote hc).trans hr)]
    exact d.op_failed part slot hi
  case noStart =>
    intro h
    refine acts_mono hfreeze fun x ⟨hd, hc, hrest⟩ => ⟨⟨hd.trans (if_neg (ne_true_of_eq_false h)), hc.trans ?_⟩, hrest⟩
    rw [Chan.live_ringFreeze]
    simp only [post, decide_eq_true_eq]
    rfl
  case start => exact fun h => acts_mono hfreeze fun x ⟨hd, hc, hrest⟩ => ⟨⟨hd.trans (if_pos h), hc.trans (live_ringFreeze_of_starts h)⟩, hrest⟩
  case noWrite =>
    intro h
    refine acts_of rfl ?_
    rw [doSnapshotWriteEnd_idle s t ch h]
    cases ch <;> exact ⟨⟨rfl, rfl⟩, rfl, rfl⟩
  case write =>
    intro h
    refine acts_mono (acts_snapshot s t ch (i := .snapshotWriteEnd t ch) rfl (doSnapshotWriteEnd_seenAt s t ch h) rfl) fun x ⟨hd, hc, hrest⟩ => ⟨⟨?_, hc, ?_, ?_⟩, hrest⟩
    · rw [hd]; rfl
    · rw [hd]; rfl
    · rw [hd]; exact fun _ _ => rfl
  case notDue =>
    intro h
    refine ⟨d, ?_, rfl⟩
    change Host.Outcome.next { s with m := doCounterWriteTimer (s.m.seenAt t) } = _
    rw [doCounterWriteTimer_seenAt, if_neg (ne_true_of_eq_false h)]
    rfl
  case due =>
    intro h
    refine acts_of rfl ?_
    rw [doCounterWriteTimer_seenAt, if_pos h]
    exact ⟨rfl, rfl, rfl, fun _ _ => rfl, fun k => by cases k <;> exact ⟨rfl, rfl, rfl⟩⟩

end Sys2Proof.Machine
end

section
/-! PROOFS. The latches of a slice: O26. -/

namespace Sys2Proof.Machine
open Sys2Proof

/-! ### A source that clears leaves the registers of the others -/

theorem Chan.rd_transCheck (c : Chan) (a : Nat) : c.transCheck.rd a = c.rd a := by
  obtain ⟨x, hx, -⟩ := transCheck_eq c
  rw [hx]
  rfl

theorem Chan.rd_clear_other (c : Chan) (s : Src) {a : Nat} (h : a ≠ (srcRegs s.blk).src) : (c.clear s).rd a = c.rd a := by
  rw [Chan.clear]
  split_ifs
  · rw [Chan.rd_transCheck]
    exact Chan.rd_wr_other _ _ _ _ h
  · rfl

/-- A source that clears leaves another source as active as it was. -/
theorem Chan.srcActive_clear_other (c : Chan) {s k : Src} (h : k.bit ≠ s.bit) (hk : k.bit < 16) : (c.clear s).srcActive k = c.srcActive k := by
  by_cases hr : (srcRegs k.blk).src = (srcRegs s.blk).src
  · rw [Chan.clear]
    split_ifs
    · have e : ∀ d : Chan, d.transCheck.srcActive k = d.srcActive k := fun d => by rw [Chan.srcActive, Chan.rd_transCheck, Chan.srcActive]
      have ew : (c.srcOff s).rd (srcRegs s.blk).src = setBit (c.rd (srcRegs s.blk).src) (16 + s.bit) false % 2 ^ 32 := Chan.rd_wr_same _ _ _
      rw [e, Chan.srcActive, Chan.srcActive, hr, ew, Nat.testBit_mod_two_pow, testBit_setBit, if_neg (by omega)]
      simp [show 16 + k.bit < 32 by omega]
    · rfl
  · rw [Chan.srcActive, Chan.rd_clear_other _ _ hr, Chan.srcActive]

theorem Chan.clearBy_cases (c : Chan) (s : Src) (slice : Nat) : ∃ f : Modul → Modul, c.clearBy s slice = (c.onMod f).clear s ∨ c.clearBy s slice = c.onMod f := by
  refine ⟨fun m => { m with who := bump m.who s.bit (fun w => setBit w slice false) }, ?_⟩
  unfold Chan.clearBy
  extract_lets c1
  split_ifs
  · exact .inl rfl
  · exact .inr rfl

theorem Chan.rd_dtEnd_other (c : Chan) (s : Nat) {a : Nat} (h : a ≠ SL_SRC_STATUS) : (c.dtEnd s).rd a = c.rd a := by
  rw [Chan.dtEnd]
  split_ifs
  · obtain ⟨f, e | e⟩ := c.clearBy_cases DT_EXTENDED s
    · rw [e, Chan.rd_clear_other _ _ h, Chan.rd_onMod]
    · rw [e, Chan.rd_onMod]
  · rfl

theorem Chan.state_dtEnd (c : Chan) (s : Nat) : (c.dtEnd s).state = c.state := by
  rw [Chan.state, Chan.g, Chan.rd_dtEnd_other _ _ (by decide)]
  rfl

/-- The end of a wait of R211 leaves every source but DT_EXTENDED. -/
theorem Chan.srcActive_dtEnd_other (c : Chan) (s : Nat) {k : Src} (h : k.bit ≠ 11) (hk : k.bit < 16) : (c.dtEnd s).srcActive k = c.srcActive k := by
  rw [Chan.dtEnd]
  split_ifs
  · obtain ⟨f, e | e⟩ := c.clearBy_cases DT_EXTENDED s
    · rw [e, Chan.srcActive_clear_other _ h hk]
      rfl
    · rw [e]
      rfl
  · rfl

theorem react_dtEnd {q : Bool} {c0 c : Chan} {s : Nat} (h : c0.Reacts q c) : c0.Reacts q (c.dtEnd s) := by
  rw [Chan.dtEnd]
  split_ifs
  · exact react_clearBy h
  · exact h

theorem react_recordOut {q : Bool} {c0 c : Chan} {s : Nat} (h : c0.Reacts q c) : c0.Reacts q (c.recordOut s) := by
  rw [Chan.recordOut]
  split_ifs
  · exact h
  · exact react_recordLeg h

/-! ### A slice's own part of a latch -/

theorem sl_onSl_same {c : Chan} {n : Nat} {f : SliceSt → SliceSt} (h : n < c.slices.length) : (c.onSl n f).sl n = f (c.sl n) := by
  rw [sl_onSl, if_pos ⟨rfl, h⟩]
theorem sl_onSl_other {c : Chan} {n k : Nat} {f : SliceSt → SliceSt} (h : k ≠ n) : (c.onSl n f).sl k = c.sl k := by
  rw [sl_onSl, if_neg (fun e => h e.1.symm)]

/-- What a slice is after it has latched fault `bit` (R217). -/
def SliceSt.latched (x : SliceSt) (bit : Nat) : SliceSt :=
  { x with latch := setBit x.latch bit true, isOn := false, asking := none, dtDone := false, auto := if bit = 5 then x.auto else false }

theorem Chan.slLatchOwn_eq (c : Chan) (n bit : Nat) : c.slLatchOwn n bit = c.onSl n (fun x => x.latched bit) := rfl

/-- The source of every latch is one of the SLICE block's first six. -/
theorem latchSource_bit (bit : Nat) : (latchSource bit).bit < 6 ∧ (latchSource bit).blk = 7 := by
  unfold latchSource
  split <;> decide

theorem latchSource_sev (bit : Nat) : reactionRegs.contains (latchSource bit).sevAt.1 = false := by
  unfold latchSource
  split <;> decide

/-- Slice `n` has latched and the reaction has run, with the other registers outside `l` as before: `Chan.Latched` with every slice as its own part of the latch
leaves it. -/
structure Chan.LatchRun (l : List Nat) (n bit : Nat) (c0 c : Chan) : Prop where
  slices : (c0.slLatchOwn n bit).SlicesKept c
  status : c.b (SL_STATUS_LATCHED n) = true
  source : c.srcLatched (latchSource bit) = true
  fault : 3 ≤ c0.sevOf (latchSource bit) → c.state = FAULT
  frame : c0.Frame (l ++ reactionRegs) c

theorem Chan.LatchRun.sl {l : List Nat} {n bit : Nat} {c0 c : Chan} (h : c0.LatchRun l n bit c) (hn : n < c0.slices.length) :
    { c.sl n with wire := (c0.sl n).wire, tags := (c0.sl n).tags } = (c0.sl n).latched bit := by
  have k := h.slices n
  rw [Chan.slLatchOwn_eq, sl_onSl_same hn] at k
  exact k

theorem Chan.LatchRun.latched {l : List Nat} {n bit : Nat} {c0 c : Chan} (h : c0.LatchRun l n bit c) (hn : n < c0.slices.length) : c0.Latched l n bit c := by
  have hs := h.sl hn
  refine ⟨congrArg SliceSt.latch hs, ⟨congrArg SliceSt.isOn hs, congrArg SliceSt.asking hs⟩, h.status, h.source, h.fault, fun k hk => ?_, h.frame⟩
  have ho := h.slices k
  rwa [Chan.slLatchOwn_eq, sl_onSl_other hk] at ho

theorem Chan.LatchRun.soft {l : List Nat} {n bit : Nat} {c0 c : Chan} (h : c0.LatchRun l n bit c) (hn : n < c0.slices.length) : (c.sl n).soft = (c0.sl n).soft := by
  have hs := congrArg SliceSt.soft (h.sl hn)
  exact hs

theorem Chan.LatchRun.blanking {l : List Nat} {n bit : Nat} {c0 c : Chan} (h : c0.LatchRun l n bit c) (hn : n < c0.slices.length) : (c.sl n).blanking = (c0.sl n).blanking := by
  have hs := congrArg SliceSt.blanking (h.sl hn)
  exact hs

section
variable {l : List Nat} {n bit : Nat} {c0 c d : Chan}

theorem Chan.LatchRun.react (h : c0.LatchRun l n bit c) (hn : n < 8) (k : c.Reacts true d) : c0.LatchRun l n bit d where
  slices := slicesKept_trans h.slices k.slices
  status := by rw [Chan.b, k.slFlds n hn _ (by simp [slFlds]), ← Chan.b, h.status]
  source := k.latched _ ((latchSource_bit bit).1.trans (by decide)) h.source
  fault := fun hs => k.fault rfl (h.fault hs)
  frame := frame_react h.frame k

/-- A register that no reaction writes. -/
theorem ne_of_not_reaction {a b : Nat} (ha : reactionRegs.contains a = false) (hb : reactionRegs.contains b = true) : b ≠ a := fun e => by
  rw [e, ha] at hb
  cases hb

theorem Chan.LatchRun.wr (h : c0.LatchRun l n bit c) (hn : n < 8) {a v : Nat} (ha : a ∈ l) (hr : reactionRegs.contains a = false) : c0.LatchRun l n bit (c.wr a v) where
  slices := h.slices
  status := by
    have hne : SL_STATUS n ≠ a := ne_of_not_reaction hr (own_contains _ (slice_own hn))
    rw [Chan.b, Chan.g_wr_reg _ _ _ _ hne, ← Chan.b, h.status]
  source := by
    have hne : (srcRegs (latchSource bit).blk).src ≠ a := ne_of_not_reaction hr (source_contains (latchSource bit).blk _ (by simp [sourceRegs]))
    rw [Chan.srcLatched, Chan.rd_wr_other _ _ _ _ hne, ← Chan.srcLatched, h.source]
  fault := fun hs => by
    have hne : CH_STATE ≠ a := ne_of_not_reaction hr (by decide)
    rw [Chan.state, Chan.g_wr_reg _ _ _ _ hne]
    exact h.fault hs
  frame := frame_wr h.frame (List.mem_append_left _ ha)
end

/-! ### A slice latches (R217) -/

theorem latchRegs_mem_six : CHOP_STATUS ∈ latchRegs 6 := by decide
theorem latchRegs_mem_seven : PROT_IRQ_STATUS ∈ latchRegs 7 := by decide

@[simp] theorem Chan.srcActive_onMod (c : Chan) (f : Modul → Modul) (k : Src) : (c.onMod f).srcActive k = c.srcActive k := rfl
@[simp] theorem Chan.state_onMod (c : Chan) (f : Modul → Modul) : (c.onMod f).state = c.state := rfl
@[simp] theorem Chan.rd_slLatchOwn (c : Chan) (n bit a : Nat) : (c.slLatchOwn n bit).rd a = c.rd a := rfl

/-- A slice's own part of a latch with SL_STATUS.LATCHED. -/
def Chan.latchMark (c : Chan) (n bit : Nat) : Chan := (c.slLatchOwn n bit).p (SL_STATUS_LATCHED n) 1

theorem Chan.rd_latchMark_other (c : Chan) (n bit : Nat) {a : Nat} (h : a ≠ SL_STATUS n) : (c.latchMark n bit).rd a = c.rd a := by
  rw [Chan.latchMark, Chan.rd_p_other _ _ _ _ h, Chan.rd_slLatchOwn]

theorem Chan.sl_latchMark (c : Chan) (n bit k : Nat) : (c.latchMark n bit).sl k = (c.slLatchOwn n bit).sl k := by
  rw [Chan.latchMark, Chan.sl, Chan.p_slices, Chan.sl]

theorem Chan.latchMark_status (c : Chan) (n bit : Nat) : (c.latchMark n bit).g (SL_STATUS_LATCHED n) = 1 := by
  rw [Chan.latchMark, Chan.g_p_same _ _ _ rfl]
  rfl

theorem slice_ne {n a : Nat} (hn : n < 8) (ha : (List.range 8).all (fun k => a != SL_STATUS k) = true) : a ≠ SL_STATUS n := by
  have := List.all_eq_true.1 ha n (List.mem_range.2 hn)
  simpa using this

/-- The latch up to its source: the bit, the switch, SL_STATUS.LATCHED, the source with its severity. -/
theorem slLatch_source_run {c : Chan} {n bit : Nat} (l : List Nat) (hn : n < 8) (ho : c.state ≠ OFF) (ha : c.srcActive (latchSource bit) = false) :
    c.LatchRun l n bit (((c.latchMark n bit).dtEnd n).raiseBy (latchSource bit) n) := by
  obtain ⟨hb, hblk⟩ := latchSource_bit bit
  have hrun : (c.latchMark n bit).Reacts true (((c.latchMark n bit).dtEnd n).raiseBy (latchSource bit) n) := react_raiseBy (react_dtEnd (react_refl _))
  have hframe : c.Frame (l ++ reactionRegs) (c.latchMark n bit) := fun a h => c.rd_latchMark_other n bit fun e => by
    have := own_contains _ (slice_own hn)
    rw [List.contains_eq_mem, decide_eq_true_eq] at this
    exact h (List.mem_append_right _ (e ▸ this))
  have hsl : (c.slLatchOwn n bit).SlicesKept (c.latchMark n bit) := fun k => by rw [Chan.sl_latchMark]
  have hst : ((c.latchMark n bit).dtEnd n).state ≠ OFF := by
    rwa [Chan.state_dtEnd, Chan.state, Chan.g, c.rd_latchMark_other n bit (slice_ne hn (by decide)), ← Chan.g, ← Chan.state]
  have hact : ((c.latchMark n bit).dtEnd n).srcActive (latchSource bit) = false := by
    rw [Chan.srcActive_dtEnd_other _ _ (by omega) (by omega), Chan.srcActive, hblk, c.rd_latchMark_other n bit (slice_ne hn (by decide)), ← hblk, ← Chan.srcActive, ha]
  have hsev : ((c.latchMark n bit).dtEnd n).sevOf (latchSource bit) = c.sevOf (latchSource bit) := by
    have hne : (latchSource bit).sevAt.1 ≠ SL_STATUS n := (ne_of_not_reaction (latchSource_sev bit) (own_contains _ (slice_own hn))).symm
    have h1 := (react_dtEnd (q := true) (s := n) (react_refl (c.latchMark n bit))).calm _ (latchSource_sev bit)
    exact sevOf_congr _ (h1.trans (c.rd_latchMark_other n bit hne))
  refine ⟨slicesKept_trans hsl hrun.slices, ?_, ?_, ?_, frame_react hframe hrun⟩
  · rw [Chan.b, hrun.slFlds n hn _ (by simp [slFlds]), Chan.latchMark_status]
    rfl
  · rw [Chan.raiseBy]
    exact raiseSl_latched _ _ _ (by omega) (by rwa [Chan.state_onMod]) (by rwa [Chan.srcActive_onMod])
  · intro hs
    rw [Chan.raiseBy]
    refine raiseSl_fault _ _ _ (by rwa [Chan.state_onMod]) (by rwa [Chan.srcActive_onMod]) ?_ (latchSource_sev bit)
    rwa [sevOf_congr _ (Chan.rd_onMod _ _ _), hsev]

theorem react_regenEval {q : Bool} {c0 c : Chan} (h : c0.Reacts q c) : c0.Reacts q c.regenEval := react_follow h

theorem Chan.LatchRun.chopFail {l : List Nat} {n bit cause : Nat} {c0 c : Chan} (h : c0.LatchRun l n bit c) (hn : n < 8) (hl : CHOP_STATUS ∈ l) :
    c0.LatchRun l n bit (c.chopFail cause) :=
  (h.wr hn hl (by decide)).react hn (react_regenEval (react_raise (react_refl _)))

theorem Chan.LatchRun.dchgFail {l : List Nat} {n bit : Nat} {c0 c : Chan} (h : c0.LatchRun l n bit c) (hn : n < 8) (hl : PROT_IRQ_STATUS ∈ l) :
    c0.LatchRun l n bit c.dchgFail := by
  have h1 : c0.LatchRun l n bit (((c.onProt (fun p => { p with dchg := none })).setDchgOut false).p DCHG_STATUS_STATE 5) :=
    h.react hn (react_p (react_setDchgOut (react_onProt (react_refl _))) (by decide) (by decide) (by decide))
  exact (h1.wr hn (a := PROT_IRQ_STATUS) hl (by decide)).react hn (react_raise (react_clear (react_refl _)))

/-- A slice that may latch does. -/
theorem slLatch_run {c : Chan} {n bit : Nat} {l : List Nat} (hl : ∀ a ∈ latchRegs n, a ∈ l) (hn : n < 8) (ho : c.state ≠ OFF) (hm : c.mayLatch n bit = true) :
    c.LatchRun l n bit (c.slLatch n bit) := by
  simp only [Chan.mayLatch, Bool.and_eq_true, Bool.not_eq_true'] at hm
  obtain ⟨⟨hu, hb⟩, ha⟩ := hm
  have h := (slLatch_source_run l hn ho ha).react hn (react_recordOut (s := n) (react_windAbort (react_refl _)))
  have hn' : ¬ (7 < n ∨ !c.b (SL_CFG_USED n) ∨ (c.sl n).latch.testBit bit) := by simp [hu, hb]; omega
  rw [Chan.slLatch, if_neg hn']
  extract_lets c1 c2
  split_ifs with h6 h7
  · subst h6
    exact h.chopFail hn (hl _ latchRegs_mem_six)
  · obtain ⟨rfl, -⟩ := h7
    exact h.dchgFail hn (hl _ latchRegs_mem_seven)
  · exact h

theorem slLatch_latched {c : Chan} {n bit : Nat} (hlen : c.slices.length = 8) (hn : n < 8) (ho : c.state ≠ OFF) (hm : c.mayLatch n bit = true) :
    c.Latched (latchRegs n) n bit (c.slLatch n bit) := (slLatch_run (fun _ h => h) hn ho hm).latched (by rw [hlen]; exact hn)

/-! ### Trips (R217, R219, R236 to R238, R254) -/

theorem slTrip_latch {c : Chan} {n : Nat} (bit : Nat) (hn : n < 8) (hp : (c.sl n).power = true) (ho : c.state ≠ OFF) : c.slTrip n bit = c.slLatch n bit := by
  have ha : c.alive n = true := by simp [Chan.alive, hn, hp]
  rw [Chan.slTrip, ha, if_neg (by decide), if_pos ⟨hp, ho⟩]

theorem slTrip_dead {c : Chan} {n : Nat} (bit : Nat) (hp : (c.sl n).power = false) (ha : (c.sl n).auto = false) : c.slTrip n bit = c := by
  have h : c.alive n = false := by simp [Chan.alive, hp, ha]
  rw [Chan.slTrip, h]
  rfl

theorem slTrip_auto {c : Chan} {n : Nat} (bit : Nat) (hn : n < 8) (hp : (c.sl n).power = false) (ha : (c.sl n).auto = true) : c.slTrip n bit = c.slLatchOwn n bit := by
  have h : c.alive n = true := by simp [Chan.alive, hn, ha]
  rw [Chan.slTrip, h, if_neg (by decide), if_neg (by simp [hp])]

theorem slTrip_latched {c : Chan} {n bit : Nat} (hlen : c.slices.length = 8) (hn : n < 8) (ho : c.state ≠ OFF) (hp : (c.sl n).power = true) (hm : c.mayLatch n bit = true) :
    c.Latched (latchRegs n) n bit (c.slTrip n bit) := by
  rw [slTrip_latch bit hn hp ho]
  exact slLatch_latched hlen hn ho hm

theorem Chan.LatchRun.pb {l : List Nat} {n bit i : Nat} {f : Fld} {v : Bool} {c0 c : Chan} (h : c0.LatchRun l n bit c) (hn : n < 8) (ha : f.reg ∈ l)
    (hr : reactionRegs.contains f.reg = false) : c0.LatchRun l n bit (c.pb f i v) := h.wr hn ha hr

theorem Chan.LatchRun.legSet {l : List Nat} {n bit leg : Nat} {high : Bool} {origin : Fld} {c0 c : Chan} (h : c0.LatchRun l n bit c) (hn : n < 8) (hl : LEG_HEALTH ∈ l)
    (hr : origin.reg = LEG_HEALTH) : c0.LatchRun l n bit (c.legSet high leg origin) := by
  have hc : reactionRegs.contains LEG_HEALTH = false := by decide
  have hf : (if high then LEG_HEALTH_FS_H else LEG_HEALTH_FS_L).reg = LEG_HEALTH := by cases high <;> rfl
  have hreact : ∀ d : Chan, d.Reacts true (d.p DUST_IRQ_STATUS_LEG_CHANGE 1).reselect.transCheck := fun d =>
    react_transCheck (react_reselect (react_p (react_refl _) (by decide) (by decide) (by decide)))
  rw [Chan.legSet]
  generalize (if high then LEG_HEALTH_FS_H else LEG_HEALTH_FS_L) = f at hf ⊢
  split_ifs
  · exact h
  · exact ((h.pb hn (hf ▸ hl) (hf ▸ hc)).pb hn (hr ▸ hl) (hr ▸ hc)).react hn (hreact _)

/-- The partner's sample after a trip writes only its SL_FAULT and LEG_HEALTH beside the reaction. -/
theorem Chan.LatchRun.offShort {l : List Nat} {n bit s : Nat} {v : Int} {c0 c : Chan} (h : c0.LatchRun l n bit c) (hn : n < 8) (hs : s < 8) (hl : LEG_HEALTH ∈ l)
    (hq : SL_FAULT (partner s) ∈ l) : c0.LatchRun l n bit (c.offShort s v) := by
  have hr : reactionRegs.contains (SL_FAULT (partner s)) = false := by interval_cases s <;> decide
  unfold Chan.offShort
  extract_lets q
  split_ifs
  · exact h
  · split
    · exact h
    · split_ifs
      · exact ((h.wr hn hq hr).legSet hn hl rfl).react hn (react_pulseSl (react_refl _))
      · exact h

/-- The registers that a sense-cell trip may change beside those of the reaction. -/
def tripRegs (n : Nat) : List Nat := latchRegs n ++ [SL_FAULT (partner n), LEG_HEALTH]

/-- The slice as a sense-cell trip leaves it before its latch: the soft turn-off of a switch that was on (R237, R238). -/
def Chan.softOff (c : Chan) (n : Nat) (x : SliceSt) : SliceSt :=
  if (c.sl n).isOn then { x with soft := true, segs := 1, plateau := c.slCfg n (SC_TLTO_TLTO_EN n) == 1 } else x

theorem softOff_kept (c : Chan) (n : Nat) (x : SliceSt) :
    (c.softOff n x).latch = x.latch ∧ (c.softOff n x).power = x.power ∧ (c.softOff n x).blanking = x.blanking ∧ (c.softOff n x).soft = ((c.sl n).isOn || x.soft) := by
  rw [Chan.softOff]
  cases (c.sl n).isOn <;> exact ⟨rfl, rfl, rfl, rfl⟩

/-- A change of slice `n` alone that leaves its latches leaves what `Latched` says. -/
theorem latched_of_onSl {c d : Chan} {l : List Nat} {n bit : Nat} {f : SliceSt → SliceSt} (hn : n < c.slices.length) (hf : (f (c.sl n)).latch = (c.sl n).latch)
    (h : (c.onSl n f).Latched l n bit d) : c.Latched l n bit d where
  latch := by rw [h.latch, sl_onSl_same hn, hf]
  off := h.off
  status := h.status
  source := h.source
  fault := h.fault
  others := fun k hk => by
    have := h.others k hk
    rwa [sl_onSl_other hk] at this
  frame := h.frame

theorem mayLatch_onSl {c : Chan} {n bit : Nat} {f : SliceSt → SliceSt} (hn : n < c.slices.length) (hf : (f (c.sl n)).latch = (c.sl n).latch) :
    (c.onSl n f).mayLatch n bit = c.mayLatch n bit := by
  rw [Chan.mayLatch, sl_onSl_same hn, hf]
  rfl

/-- A sense-cell trip of a slice with its supply and its sense cells enabled. -/
theorem scTrip_latched {c : Chan} {n bit : Nat} (v : Int) (hlen : c.slices.length = 8) (hn : n < 8) (ho : c.state ≠ OFF) (hm : c.mayLatch n bit = true)
    (hp : (c.sl n).power = true) (hen : c.slCfg n (SC_LVL_EN n) ≠ 0) :
    c.Latched (tripRegs n) n bit (c.scTrip n bit v) ∧ ((c.scTrip n bit v).sl n).soft = ((c.sl n).isOn || (c.sl n).soft) ∧ ((c.scTrip n bit v).sl n).blanking = (c.sl n).blanking := by
  have hl : n < c.slices.length := by omega
  obtain ⟨hlatch, hpower, hblank, hsoft⟩ := softOff_kept c n (c.sl n)
  have hu : c.b (SL_CFG_USED n) = true := by
    simp only [Chan.mayLatch, Bool.and_eq_true] at hm
    exact hm.1.1
  have ha : c.alive n = true := by simp [Chan.alive, hn, hp]
  have he : c.scTrip n bit v = ((c.onSl n (c.softOff n)).slTrip n bit).offShort n v := by
    rw [Chan.scTrip, if_neg (by simp [ha, hen, hu])]
    rfl
  have hp' : ((c.onSl n (c.softOff n)).sl n).power = true := by rw [sl_onSl_same hl, hpower, hp]
  have hrun : (c.onSl n (c.softOff n)).LatchRun (tripRegs n) n bit (c.scTrip n bit v) := by
    rw [he, slTrip_latch bit hn hp' ho]
    refine Chan.LatchRun.offShort (slLatch_run (fun a h => List.mem_append_left _ h) hn ho ?_) hn hn ?_ ?_
    · rw [mayLatch_onSl hl hlatch, hm]
    · simp [tripRegs]
    · simp [tripRegs]
  have hl' : n < (c.onSl n (c.softOff n)).slices.length := by
    rw [Chan.onSl, List.length_set]
    exact hl
  refine ⟨latched_of_onSl hl hlatch (hrun.latched hl'), ?_, ?_⟩
  · rw [hrun.soft hl', sl_onSl_same hl, hsoft]
  · rw [hrun.blanking hl', sl_onSl_same hl, hblank]

/-- SC_BLANKING_END at its time. -/
theorem doScBlankingEnd_due {c : Chan} {n : Nat} (above : Bool) (v : Int) (hb : (c.sl n).blanking = true)
    (ht : c.since (c.sl n).onAt (ns (10 * c.slCfg n (SC_LVL_BLANK n))) = true) :
    doScBlankingEnd n above v c = if above then (c.onSl n (fun x => { x with blanking := false })).scTrip n 0 v else c.onSl n (fun x => { x with blanking := false }) := by
  rw [doScBlankingEnd, if_neg (by simp [hb, ht])]

theorem doScBlankingEnd_not {c : Chan} {n : Nat} (above : Bool) (v : Int)
    (h : (c.sl n).blanking = false ∨ c.since (c.sl n).onAt (ns (10 * c.slCfg n (SC_LVL_BLANK n))) = false) : doScBlankingEnd n above v c = c := by
  refine if_pos ?_
  rcases h with h | h
  · exact .inl (by rw [h]; rfl)
  · exact .inr (by rw [h]; rfl)

/-- A rail that has not gone beyond its level, or that a bootstrap slice does not judge. -/
theorem doGsUv_not {c : Chan} {n : Nat} {neg : Bool} {v : Int} (hboot : c.b (SL_CFG_BOOT n) = true → neg = true ∨ c.slWant n = false ∨ c.railUv n v = false)
    (hown : c.b (SL_CFG_BOOT n) = false → if neg then v ≤ c.negSet n + 100 else c.railUv n v = false) : doGsUv n neg v c = c := by
  rw [doGsUv]
  by_cases hb : c.b (SL_CFG_BOOT n) = true
  · rw [if_pos hb]
    refine if_neg ?_
    rcases hboot hb with h | h | h <;> simp [h]
  · have h := hown (by simpa using hb)
    rw [if_neg hb]
    cases neg with
    | true => exact if_neg (not_lt.2 h)
    | false =>
      have h' : c.railUv n v = false := h
      rw [if_neg (by decide), if_neg (ne_true_of_eq_false h')]

/-- A positive rail below its level, on a bootstrap slice while it is commanded on. -/
theorem doGsUv_pos {c : Chan} {n : Nat} {v : Int} (hv : c.railUv n v = true) (hb : c.b (SL_CFG_BOOT n) = true → c.slWant n = true) :
    doGsUv n false v c = c.slTrip n 2 := by
  rw [doGsUv]
  by_cases h : c.b (SL_CFG_BOOT n) = true
  · rw [if_pos h, if_pos (by rw [hb h, hv]; rfl)]
  · rw [if_neg h, if_neg (by decide), if_pos hv]

/-! ### The obligation -/

/-- Settles O26: each trip goes through `slLatch` or `scTrip`, whose runs `slLatch_latched` and `scTrip_latched` state. -/
theorem sliceLatches : Obligations.SliceLatches := by
  intro s t ch n v c x sc armed blank dead hlen hn
  have hl : n < c.slices.length := by omega
  have latched : ∀ bit, c.state ≠ OFF → x.power = true → c.mayLatch n bit = true → c.Latched (latchRegs n) n bit (c.slTrip n bit) :=
    fun bit ho hp hm => slTrip_latched hlen hn ho hp hm
  refine ⟨?sc2, ?sc1, ?blankTrip, ?blankEnd, ?blanked, ?notBlank, ?plateau, ?uvNeg, ?uvPos, ?uvNot, ?ov, ?ovNot, ?ot, ?otDead, ?otAuto, ?partner, ?partnerNot, ?link, ?linkOff⟩
  case sc2 =>
    intro ho hm ha
    obtain ⟨h, hs, -⟩ := scTrip_latched (bit := 1) v hlen hn ho hm ha.1 ha.2
    exact actsOn_chan (c := c) rfl rfl ⟨h, hs⟩
  case sc1 =>
    intro ho hm ha hb
    obtain ⟨h, hs, -⟩ := scTrip_latched (bit := 0) v hlen hn ho hm ha.1 ha.2
    refine actsOn_chan (c := c) rfl rfl ?_
    rw [doSc1Trip, if_neg (ne_true_of_eq_false hb)]
    exact ⟨h, hs⟩
  case blankTrip =>
    intro ho hm ha hb ht
    have hk := scTrip_latched (c := c.onSl n (fun x => { x with blanking := false })) (n := n) (bit := 0) v (by rw [Chan.onSl, List.length_set]; exact hlen) hn ho
      ((mayLatch_onSl hl rfl).trans hm) (by rw [sl_onSl_same hl]; exact ha.1) (by rw [Chan.slCfg, sl_onSl_same hl]; exact ha.2)
    obtain ⟨h, -, hblank⟩ := hk
    refine actsOn_chan (c := c) rfl rfl ?_
    rw [doScBlankingEnd_due true v hb ht, if_pos rfl]
    exact ⟨latched_of_onSl hl rfl h, by rw [hblank, sl_onSl_same hl]⟩
  case blankEnd => exact fun hb ht => actsOn_chan (c := c) rfl rfl (doScBlankingEnd_due false v hb ht)
  case blanked => exact fun hb => actsOn_chan (c := c) rfl rfl (if_pos hb)
  case notBlank => exact fun above h => actsOn_chan (c := c) rfl rfl (doScBlankingEnd_not above v h)
  case plateau => exact fun ho => actsOn_live (c := c) rfl rfl ho rfl
  case uvNeg =>
    intro ho hp hm hb hv
    refine actsOn_chan (c := c) rfl rfl ?_
    rw [doGsUv, if_neg (ne_true_of_eq_false hb), if_pos rfl, if_pos hv]
    exact latched 3 ho hp hm
  case uvPos =>
    intro ho hp hm hv hb
    refine actsOn_chan (c := c) rfl rfl ?_
    rw [doGsUv_pos hv hb]
    exact latched 2 ho hp hm
  case uvNot => exact fun neg hboot hown => actsOn_chan (c := c) rfl rfl (doGsUv_not hboot hown)
  case ov =>
    intro neg ho hp hm hv
    refine actsOn_chan (c := c) rfl rfl ?_
    rw [doGsOv, if_pos hv]
    exact latched 4 ho hp hm
  case ovNot =>
    rintro neg (h | h)
    · exact actsOn_chan (c := c) rfl rfl (if_neg (ne_true_of_eq_false h))
    · refine actsOn_chan (c := c) rfl rfl ?_
      rw [doGsOv, slTrip_dead 4 h.1 h.2, ite_self]
  case ot => exact fun ho hp hm => actsOn_chan (c := c) rfl rfl (latched 7 ho hp hm)
  case otDead => exact fun h => actsOn_chan (c := c) rfl rfl (slTrip_dead 7 h.1 h.2)
  case otAuto =>
    intro hp ha
    refine actsOn_chan (c := c) rfl rfl ?_
    rw [doIslOt, slTrip_auto 7 hn hp ha, Chan.slLatchOwn_eq, sl_onSl_same hl]
    exact ⟨rfl, rfl, rfl, fun k hk => sl_onSl_other hk, rfl⟩
  case partner =>
    intro ho ht hoff hm
    refine actsOn_live (c := c) rfl rfl ho ?_
    rw [doPartnerOffTimeout, if_pos ⟨ht, by rw [hoff]; rfl⟩]
    exact slLatch_latched hlen hn ho hm
  case partnerNot =>
    intro ho h
    refine actsOn_live (c := c) rfl rfl ho (if_neg fun ⟨ht, hoff⟩ => ?_)
    rcases h with h | h
    · exact absurd (ht.symm.trans h) (by decide)
    · have hoff' : x.partnerOff = false := by simpa using hoff
      exact absurd (hoff'.symm.trans h) (by decide)
  case link =>
    intro ho hm
    refine actsOn_chan (c := c) rfl rfl ?_
    rw [doSliceLinkLoss, if_neg (by omega), if_neg ho]
    exact slLatch_latched hlen hn ho hm
  case linkOff =>
    intro ho
    refine actsOn_chan (c := c) rfl rfl ?_
    rw [doSliceLinkLoss, if_neg (by omega), if_pos ho]
    rfl

end Sys2Proof.Machine
end

section
/-! PROOFS. What a source raised or cleared leaves of the channel's copy of device time. -/

namespace Sys2Proof.Machine
open Sys2Proof

@[simp] theorem Chan.pb_tb (c : Chan) (f : Fld) (i : Nat) (v : Bool) : (c.pb f i v).tb = c.tb := rfl
@[simp] theorem Chan.satInc_tb (c : Chan) (f : Fld) : (c.satInc f).tb = c.tb := rfl
@[simp] theorem Chan.wrapInc_tb (c : Chan) (f : Fld) : (c.wrapInc f).tb = c.tb := rfl

@[simp] theorem tb_foldl {α : Type} {f : Chan → α → Chan} {l : List α} (hf : ∀ d x, (f d x).tb = d.tb) (c : Chan) : (l.foldl f c).tb = c.tb := by
  induction l generalizing c with
  | nil => rfl
  | cons x l ih => exact (ih _).trans (hf _ _)

theorem tb_ite {q : Prop} [Decidable q] {x y : Chan} {b : TimeBase} (hx : x.tb = b) (hy : y.tb = b) : (if q then x else y).tb = b := by
  split_ifs
  · exact hx
  · exact hy

@[simp] theorem Chan.each_tb {n : Nat} {f : Chan → Nat → Chan} (hf : ∀ d x, (f d x).tb = d.tb) (c : Chan) : (c.each n f).tb = c.tb := tb_foldl hf c

@[simp] theorem Chan.capture_tb (c : Chan) (s : Src) (seq slice : Nat) : (c.capture s seq slice).tb = c.tb := by
  simp [Chan.capture, apply_ite Chan.tb]
@[simp] theorem Chan.evt_tb (c : Chan) (t b i s x y : Nat) : (c.evt t b i s x y).tb = c.tb := by
  simp [Chan.evt]
@[simp] theorem Chan.srcEvt_tb (c : Chan) (t : Nat) (s : Src) : (c.srcEvt t s).tb = c.tb := by
  simp [Chan.srcEvt]
@[simp] theorem Chan.srcOn_tb (c : Chan) (s : Src) (slice : Nat) : (c.srcOn s slice).tb = c.tb := by
  simp [Chan.srcOn, apply_ite Chan.tb]
@[simp] theorem Chan.srcOff_tb (c : Chan) (s : Src) : (c.srcOff s).tb = c.tb := by
  simp [Chan.srcOff]
@[simp] theorem Chan.offIf_tb (c : Chan) (s : Src) : (c.offIf s).tb = c.tb := by
  simp [Chan.offIf, apply_ite Chan.tb]
@[simp] theorem Chan.answer_tb (c : Chan) (op : ChOp) (st : Nat) (w : List Nat) : (c.answer op st w).tb = c.tb := by
  simp [Chan.answer]
@[simp] theorem Chan.armAnswer_tb (c : Chan) (st : Nat) : (c.armAnswer st).tb = c.tb := by
  simp [Chan.armAnswer]
@[simp] theorem Chan.wire_tb (c : Chan) (s : Nat) (t : Tick) (pu en : Bool) : (c.wire s t pu en).tb = c.tb := by
  rw [Chan.wire]
  split_ifs
  · rfl
  · rw [Chan.p_tb, Chan.p_tb]
    rfl
@[simp] theorem Chan.recordLeg_tb (c : Chan) (p : Nat) (t : Tick) : (c.recordLeg p t).tb = c.tb := by
  simp [Chan.recordLeg]
@[simp] theorem Chan.legChange_tb (c : Chan) (p : Nat) (t : Tick) (pu : Bool) : (c.legChange p t pu).tb = c.tb := by
  simp [Chan.legChange]
@[simp] theorem Chan.edgeOut_tb (c : Chan) (p : Nat) (t : Tick) (pu en : Bool) : (c.edgeOut p t pu en).tb = c.tb := by
  simp [Chan.edgeOut]
@[simp] theorem Chan.sendPairAt_tb (c : Chan) (p : Nat) (t : Tick) : (c.sendPairAt p t).tb = c.tb := by
  simp [Chan.sendPairAt, apply_ite Chan.tb]
@[simp] theorem Chan.setPairAt_tb (c : Chan) (p : Nat) (t : Tick) (en pu : Bool) : (c.setPairAt p t en pu).tb = c.tb := by
  simp [Chan.setPairAt, apply_ite Chan.tb]
@[simp] theorem Chan.setPair_tb (c : Chan) (p : Nat) (en pu : Bool) : (c.setPair p en pu).tb = c.tb := by
  simp [Chan.setPair]
@[simp] theorem Chan.setLegs_tb (c : Chan) (en pu : Nat) : (c.setLegs en pu).tb = c.tb := by
  simp [Chan.setLegs]
@[simp] theorem Chan.legsOff_tb (c : Chan) : (c.legsOff).tb = c.tb := by
  simp [Chan.legsOff]
@[simp] theorem Chan.togglePair_tb (c : Chan) (p : Nat) : (c.togglePair p).tb = c.tb := by
  simp [Chan.togglePair, apply_ite Chan.tb]
@[simp] theorem Chan.setDchgOut_tb (c : Chan) (on : Bool) : (c.setDchgOut on).tb = c.tb := by
  simp [Chan.setDchgOut, apply_ite Chan.tb]
@[simp] theorem Chan.reqDiscard_tb (c : Chan) : (c.reqDiscard).tb = c.tb := by
  simp [Chan.reqDiscard]
@[simp] theorem Chan.armDiscard_tb (c : Chan) : (c.armDiscard).tb = c.tb := by
  simp [Chan.armDiscard]
@[simp] theorem Chan.armLost_tb (c : Chan) (arm : Option ArmSeq) : (c.armLost arm).tb = c.tb := by
  cases arm with
  | none => rfl
  | some a =>
    rw [Chan.armLost]
    split_ifs
    · exact c.armDiscard_tb
    · exact c.armAnswer_tb _
@[simp] theorem Chan.maskReport_tb (c : Chan) : (c.maskReport).tb = c.tb := by
  simp [Chan.maskReport, apply_ite Chan.tb]
@[simp] theorem Chan.ringRename_tb (c : Chan) (seq : Nat) : (c.ringRename seq).tb = c.tb := by
  rw [Chan.ringRename]
  split
  · split_ifs <;> rfl
  · rfl
@[simp] theorem Chan.reacqLeave_tb (c : Chan) : (c.reacqLeave).tb = c.tb := by
  simp [Chan.reacqLeave, apply_ite Chan.tb]
@[simp] theorem Chan.applySel_tb (c : Chan) : (c.applySel).tb = c.tb := by
  simp [Chan.applySel, apply_ite Chan.tb]
@[simp] theorem Chan.cmpCont_tb (c : Chan) (n : Nat) : (c.cmpCont n).tb = c.tb := by
  simp [Chan.cmpCont, apply_ite Chan.tb]
@[simp] theorem Chan.setCdrv_tb (c : Chan) (n : Nat) (v : Bool) : (c.setCdrv n v).tb = c.tb := by
  simp [Chan.setCdrv, apply_ite Chan.tb]
@[simp] theorem Chan.cdrvAllLow_tb (c : Chan) : (c.cdrvAllLow).tb = c.tb := by
  simp [Chan.cdrvAllLow]
@[simp] theorem Chan.openMask_tb (c : Chan) (m : Nat) : (c.openMask m).tb = c.tb := by
  simp [Chan.openMask, apply_ite Chan.tb]
@[simp] theorem Chan.dchgTry_tb (c : Chan) : (c.dchgTry).tb = c.tb := by
  rw [Chan.dchgTry]
  split
  · rfl
  · split_ifs <;> simp
@[simp] theorem Chan.dchgAsk_tb (c : Chan) (s4 pin cmd : Bool) : (c.dchgAsk s4 pin cmd).tb = c.tb := by
  rw [Chan.dchgAsk]
  split_ifs
  · rfl
  · split
    · rfl
    · rw [Chan.dchgTry_tb, Chan.p_tb, Chan.onProt_tb, Chan.srcOff_tb]
  · split
    · rfl
    · rw [Chan.dchgTry_tb, Chan.p_tb, Chan.onProt_tb]
@[simp] theorem Chan.primerAbort_tb (c : Chan) : (c.primerAbort).tb = c.tb := by
  rw [Chan.primerAbort]
  split_ifs
  · rw [Chan.p_tb, Chan.onMod_tb]
  · rfl
@[simp] theorem Chan.armEnd_tb (c : Chan) : (c.armEnd).tb = c.tb := by
  rw [Chan.armEnd]
  split
  · rfl
  · rw [Chan.primerAbort_tb]
    split_ifs
    · rw [Chan.onMsio_tb, Chan.onCtl_tb, Chan.openMask_tb]
    · rw [Chan.p_tb, Chan.onMsio_tb, Chan.onCtl_tb, Chan.openMask_tb]
@[simp] theorem Chan.commitCode_tb (c : Chan) (code : Nat) : (c.commitCode code).tb = c.tb := by
  simp [Chan.commitCode]
@[simp] theorem Chan.beginHold_tb (c : Chan) (kind : Nat) : (c.beginHold kind).tb = c.tb := by
  simp [Chan.beginHold, apply_ite Chan.tb]
@[simp] theorem Chan.windEnd_tb (c : Chan) (st : Nat) : (c.windEnd st).tb = c.tb := by
  simp [Chan.windEnd, apply_ite Chan.tb]
@[simp] theorem Chan.s4Requests_tb (c : Chan) : (c.s4Requests).tb = c.tb := by
  simp [Chan.s4Requests]
@[simp] theorem Chan.nfaultSet_tb (c : Chan) : (c.nfaultSet).tb = c.tb := by
  simp [Chan.nfaultSet]
@[simp] theorem Chan.leaveFault_tb (c : Chan) : (c.leaveFault).tb = c.tb := by
  rw [Chan.leaveFault, Chan.each_tb, Chan.onCtl_tb, Chan.p_tb, Chan.p_tb, Chan.p_tb, Chan.p_tb]
  intro d p
  split_ifs
  · exact d.togglePair_tb p
  · rfl
@[simp] theorem Chan.leaveRun_tb (c : Chan) : (c.leaveRun).tb = c.tb := by
  simp [Chan.leaveRun, apply_ite Chan.tb]
@[simp] theorem Chan.engineIdle_tb (c : Chan) : (c.engineIdle).tb = c.tb := by
  rw [Chan.engineIdle, Chan.onDtc_tb, Chan.offIf_tb, Chan.wr_tb, Chan.wr_tb]
@[simp] theorem Chan.setState_tb (c : Chan) (st cause : Nat) : (c.setState st cause).tb = c.tb := by
  unfold Chan.setState
  extract_lets old c1 c2 c3 c4 c5 moot c6 c7 c8
  have h1 : c1.tb = c.tb := (Chan.p_tb _ _ _).trans ((Chan.p_tb _ _ _).trans (Chan.p_tb _ _ _))
  clear_value c1
  have h2 : c2.tb = c.tb := (Chan.onLife_tb _ _).trans ((Chan.evt_tb _ _ _ _ _ _ _).trans h1)
  clear_value c2
  have h3 : c3.tb = c.tb := tb_ite (c2.leaveRun_tb.trans h2) h2
  clear_value c3
  have h4 : c4.tb = c.tb := tb_ite h3 ((c3.offIf_tb _).trans h3)
  clear_value c4
  have h5 : c5.tb = c.tb := tb_ite h4 ((c4.offIf_tb _).trans h4)
  clear_value c5
  have h6 : c6.tb = c.tb := (Chan.onCtl_tb _ _).trans (tb_ite (c5.reqDiscard_tb.trans h5) h5)
  clear_value c6
  have h7 : c7.tb = c.tb := tb_ite (c6.engineIdle_tb.trans h6) h6
  clear_value c7
  exact (Chan.nfaultSet_tb _).trans (tb_ite (c7.leaveFault_tb.trans h7) h7)
@[simp] theorem Chan.enterFault_tb (c : Chan) : (c.enterFault).tb = c.tb := by
  rw [Chan.enterFault, Chan.onMsio_tb, Chan.setCdrv_tb, Chan.onCtl_tb, Chan.armLost_tb, Chan.p_tb, Chan.setState_tb, Chan.primerAbort_tb, Chan.armEnd_tb]
@[simp] theorem Chan.captureCause_tb (c : Chan) (s : Src) (sev seq time : Nat) : (c.captureCause s sev seq time).tb = c.tb := by
  rw [Chan.captureCause, Chan.wr_tb, Chan.wr_tb, Chan.wr_tb, Chan.wr_tb]
@[simp] theorem Chan.ringTrigger_tb (c : Chan) (time cause seq : Nat) : (c.ringTrigger time cause seq).tb = c.tb := by
  rw [Chan.ringTrigger]
  split <;> rfl
@[simp] theorem Chan.arrive_tb (c : Chan) (s : Src) (seq : Nat) : (c.arrive s seq).tb = c.tb := by
  rw [Chan.arrive]
  split_ifs
  · rfl
  all_goals simp only [Chan.s4Requests_tb, Chan.beginHold_tb, Chan.enterFault_tb, Chan.ringTrigger_tb, Chan.ringRename_tb, Chan.captureCause_tb]
  all_goals rw [Chan.p_tb]
  all_goals rw [Chan.captureCause_tb]
@[simp] theorem Chan.raise0_tb (c : Chan) (s : Src) : (c.raise0 s).tb = c.tb := by
  simp [Chan.raise0, apply_ite Chan.tb]
@[simp] theorem Chan.pulse0_tb (c : Chan) (s : Src) : (c.pulse0 s).tb = c.tb := by
  rw [Chan.pulse0]
  split_ifs
  · rfl
  · simp
@[simp] theorem Chan.cancelCommit_tb (c : Chan) (code : Nat) : (c.cancelCommit code).tb = c.tb := by
  rw [Chan.cancelCommit]
  split
  · rfl
  · rw [Chan.pulse0_tb, Chan.answer_tb, Chan.commitCode_tb, Chan.onCtl_tb]
@[simp] theorem Chan.windAbort_tb (c : Chan) : (c.windAbort).tb = c.tb := by
  simp [Chan.windAbort, apply_ite Chan.tb]
@[simp] theorem Chan.reselect_tb (c : Chan) : (c.reselect).tb = c.tb := by
  simp [Chan.reselect, apply_ite Chan.tb]
@[simp] theorem Chan.transCheck_tb (c : Chan) : (c.transCheck).tb = c.tb := by
  obtain ⟨x, hx, -⟩ := transCheck_eq c
  rw [hx]
@[simp] theorem Chan.raiseSl_tb (c : Chan) (s : Src) (slice : Nat) : (c.raiseSl s slice).tb = c.tb := by
  simp [Chan.raiseSl, apply_ite Chan.tb]
@[simp] theorem Chan.raise_tb (c : Chan) (s : Src) : (c.raise s).tb = c.tb := by
  simp [Chan.raise]
@[simp] theorem Chan.clear_tb (c : Chan) (s : Src) : (c.clear s).tb = c.tb := by
  simp [Chan.clear, apply_ite Chan.tb]

end Sys2Proof.Machine
end

section
/-! PROOFS. Clocks, timebases and S4 between the channels: O37. -/

namespace Sys2Proof.Machine
open Sys2Proof

/-! ### A channel's clock (R23, R489) -/

/-- A source raised that was not active: latched, the reaction alone, FAULT at S3 and S4. -/
theorem raise_fails {c : Chan} {q : Src} (hb : q.bit < 16) (hv : reactionRegs.contains q.sevAt.1 = false) (ho : c.state ≠ OFF) (ha : c.srcActive q = false) :
    (c.raise q).srcLatched q = true ∧ c.Reacted [] (c.raise q) ∧ (3 ≤ c.sevOf q → (c.raise q).state = FAULT) := by
  have h : c.Reacts false (c.raise q) := react_raise (react_refl c)
  exact ⟨raise_latched c q hb ho ha, ⟨frame_reacts h, kept_reacts h⟩, fun hs => raise_fault c q ho ha hs hv⟩

theorem doClkDeviation_ctl {aonDev x y : Bool} (c : Chan) (h : (if aonDev then y else x) = true) : doClkDeviation aonDev x y c = c.raise CLK_CTL := by
  cases aonDev
  · have hx : x = true := h
    rw [doClkDeviation, hx]
    rfl
  · have hy : y = true := h
    rw [doClkDeviation, hy]
    rfl

theorem doClkDeviation_xref {aonDev x y : Bool} (c : Chan) (h : (!aonDev && !x && y) = true) : doClkDeviation aonDev x y c = c.raise CLK_XREF := by
  simp only [Bool.and_eq_true, Bool.not_eq_true'] at h
  obtain ⟨⟨rfl, rfl⟩, rfl⟩ := h
  rfl

theorem doClkDeviation_none {aonDev x y : Bool} (c : Chan) (h : (if aonDev then y else x) = false) (hx : (!aonDev && !x && y) = false) : doClkDeviation aonDev x y c = c := by
  cases aonDev
  · have h : x = false := h
    rw [h] at hx ⊢
    have hy : y = false := hx
    rw [hy]
    rfl
  · have hy : y = false := h
    rw [hy]
    rfl

/-! ### The exchange of time stamps (R33, R34) -/

theorem exchangeErr_eq (err : Int) : exchangeErr err = max (-50) (min 50 err) := by
  rw [exchangeErr, satI]
  split_ifs <;> omega

/-- A copy aligned to the device time `off + err`: a step, or after holdover and in a slew a slew. -/
theorem TimeBase.align_eq (b : TimeBase) (now : Tick) (off err drift : Int) : b.align now off err drift =
    if b.hold || b.slew - b.slewed now != 0 then
      { b.settle now drift with slew := off + max (-50) (min 50 err) - b.offAt now, rate := drift, missed := 0, hold := false }
    else { b.settle now drift with off := off + max (-50) (min 50 err), slew := 0, rate := drift, missed := 0, hold := false } := by
  rw [TimeBase.align, exchangeErr_eq]
  have e : (b.settle now drift).off + (off + max (-50) (min 50 err) - (b.settle now drift).off) = off + max (-50) (min 50 err) := by omega
  simp only [e]
  rfl

theorem Chan.exchanged_step {c : Chan} (off err drift : Int) (hh : c.tb.hold = false) (hr : c.tb.slew - c.tb.slewed c.now = 0) :
    c.exchanged off err drift = { c with tb := { c.tb.settle c.now drift with off := off + max (-50) (min 50 err), slew := 0, rate := drift, missed := 0, hold := false } } := by
  rw [Chan.exchanged, TimeBase.align_eq, hh, hr]
  rfl

theorem Chan.exchanged_slew {c : Chan} (off err drift : Int) (hh : c.tb.hold = false) (hr : c.tb.slew - c.tb.slewed c.now ≠ 0) :
    c.exchanged off err drift =
      { c with tb := { c.tb.settle c.now drift with slew := off + max (-50) (min 50 err) - c.tb.offAt c.now, rate := drift, missed := 0, hold := false } } := by
  have hs : (false || c.tb.slew - c.tb.slewed c.now != 0) = true := by simpa using hr
  rw [Chan.exchanged, TimeBase.align_eq, hh, if_pos hs]
  rfl

theorem Chan.exchanged_hold {c : Chan} (off err drift : Int) (hh : c.tb.hold = true) :
    c.exchanged off err drift =
      ({ c with tb := { c.tb.settle c.now drift with slew := off + max (-50) (min 50 err) - c.tb.offAt c.now, rate := drift, missed := 0, hold := false } } : Chan).clear TIME_HOLD := by
  rw [Chan.exchanged, TimeBase.align_eq, hh]
  rfl

theorem Chan.exchangeMissed_kept {c : Chan} (drift : Int) (h : c.tb.hold = true ∨ c.tb.missed < 2) :
    c.exchangeMissed drift = { c with tb := { c.tb.settle c.now drift with missed := c.tb.missed + 1 } } := by
  have hh : (c.tb.hold || Nat.ble 3 (c.tb.missed + 1)) = c.tb.hold := by
    rcases h with h | h
    · rw [h]; rfl
    · rw [Bool.eq_false_iff.2 (fun k => absurd (Nat.le_of_ble_eq_true k) (by omega)), Bool.or_false]
  rw [Chan.exchangeMissed]
  simp only [hh, Bool.and_not_self, Bool.false_eq_true, if_false]
  rfl

theorem Chan.exchangeMissed_third {c : Chan} (drift : Int) (hh : c.tb.hold = false) (hm : 2 ≤ c.tb.missed) :
    c.exchangeMissed drift = ({ c with tb := { c.tb.settle c.now drift with missed := c.tb.missed + 1, hold := true } } : Chan).raise TIME_HOLD := by
  have hb : Nat.ble 3 (c.tb.missed + 1) = true := Nat.ble_eq_true_of_le (by omega)
  rw [Chan.exchangeMissed, hh, hb]
  rfl

theorem Chan.srcActive_clear_same (c : Chan) (s : Src) : (c.clear s).srcActive s = false := by
  rw [Chan.clear]
  split_ifs with h
  · have e : (c.srcOff s).rd (srcRegs s.blk).src = setBit (c.rd (srcRegs s.blk).src) (16 + s.bit) false % 2 ^ 32 := Chan.rd_wr_same _ _ _
    rw [Chan.srcActive, Chan.rd_transCheck, e, Nat.testBit_mod_two_pow, testBit_setBit, if_pos rfl, Bool.and_false]
  · simpa using h

/-- What TIMEBASE_EXCHANGE does in a channel that lives. -/
theorem doTimebaseExchange_seenAt (s : State) (t : Tick) (ch : Ch) (ok : Bool) (err drift : Int) :
    doTimebaseExchange ch ok err drift (s.m.seenAt t) = (s.m.seenAt t).setChan ch (if (s.m.seen t ch).state = OFF then s.m.seen t ch
      else if ok && (s.m.seenDev t).up && !(s.m.seenDev t).pwr.pllOnAon then (s.m.seen t ch).exchanged (s.m.seenDev t).off err drift
      else (s.m.seen t ch).exchangeMissed drift) := by
  have hd : (s.m.seenAt t).dev = s.m.seenDev t := rfl
  rw [doTimebaseExchange]
  simp only [hd, onChan_seenAt, live]
  split_ifs <;> rfl

/-! ### The crystal lost (R489) -/

/-- Nothing of the device level has changed but the registers of a list, the records, the sequence numbers, the link and the CAN controllers. -/
structure Dev.LinkLost (l : List Nat) (d e : Dev) : Prop where
  frame : d.Frame l e
  rest : { e with regs := d.regs, recs := d.recs, seqs := d.seqs, lastTime := d.lastTime, can := d.can, hq := { e.hq with link := d.hq.link } } = d

theorem Dev.linkLost_refl (l : List Nat) (d : Dev) : d.LinkLost l d := ⟨frameD_refl _ _, rfl⟩

theorem Dev.LinkLost.trans {l : List Nat} {a b c : Dev} (h : a.LinkLost l b) (k : b.LinkLost l c) : a.LinkLost l c := by
  refine ⟨frameD_trans h.frame k.frame, ?_⟩
  have k2 := congrArg (fun d : Dev => ({ d with regs := a.regs, recs := a.recs, seqs := a.seqs, lastTime := a.lastTime, can := a.can, hq := { d.hq with link := a.hq.link } } : Dev)) k.rest
  exact k2.trans h.rest

theorem Dev.LinkLost.mono {l k : List Nat} {d e : Dev} (h : d.LinkLost l e) (hl : ∀ x ∈ l, x ∈ k) : d.LinkLost k e := ⟨h.frame.mono hl, h.rest⟩

theorem Dev.Told.linkLost {l : List Nat} {d e : Dev} (h : d.Told l e) : d.LinkLost l e := by
  refine ⟨h.frame, ?_⟩
  have k := congrArg (fun x : Dev => ({ x with can := d.can, hq := { x.hq with link := d.hq.link } } : Dev)) h.2
  exact k

theorem Dev.told_p (d : Dev) (f : Fld) (v : Nat) : d.Told [f.reg] (d.p f v) := ⟨frameD_p (frameD_refl _ _) List.mem_cons_self, rfl⟩

theorem Dev.Told.mono {l k : List Nat} {d e : Dev} (h : d.Told l e) (hl : ∀ x ∈ l, x ∈ k) : d.Told k e := ⟨h.frame.mono hl, h.2⟩

theorem Dev.told_takeSeq (d : Dev) (n : Nat) : d.Told [] (d.takeSeq n) := ⟨fun _ _ => rfl, rfl⟩

/-! #### The link -/

/-- The registers that a fall of the link writes. -/
def linkRegs : List Nat := [ETH_STATUS, ETH_IRQ_STATUS, ETH_SRC_STATUS, HQ_AUDIT]

/-- ETH_STATUS of a link that is down. -/
def Dev.ethDown (d : Dev) : Dev := (((d.p ETH_STATUS_LINK_UP 0).p ETH_STATUS_SPEED 0).p ETH_STATUS_FULL_DUPLEX 0).p ETH_STATUS_AN_DONE 0

/-- A link that falls, up to the audit that it ends. -/
def Dev.fallen (d : Dev) : Dev := (d.ethDown.p ETH_IRQ_STATUS_LINK_CHANGE 1).raise LINK_DOWN_SRC

theorem Dev.linkFall_up {d : Dev} (h : d.b ETH_STATUS_LINK_UP = true) :
    d.linkFall = (d.fallen.onLink (fun l => { l with audit := none })).p HQ_AUDIT_BUSY (b2n (d.hq.link.raiseDue || d.hq.link.epochWait)) := by
  rw [Dev.linkFall, h]
  rfl

theorem Dev.linkFall_down {d : Dev} (h : d.b ETH_STATUS_LINK_UP = false) : d.linkFall = d := by
  rw [Dev.linkFall, h]
  rfl

theorem Dev.told_fallen (d : Dev) : d.Told linkRegs d.fallen := by
  have he : d.Told linkRegs d.ethDown :=
    (((d.told_p ETH_STATUS_LINK_UP 0).trans (Dev.told_p _ ETH_STATUS_SPEED 0)).trans ((Dev.told_p _ ETH_STATUS_FULL_DUPLEX 0).trans (Dev.told_p _ ETH_STATUS_AN_DONE 0))).mono (by decide)
  exact (he.trans ((Dev.told_p _ _ _).mono (by decide))).trans ((Dev.told_raise _ _).mono (by decide))

theorem Dev.linkLost_linkFall (d : Dev) : d.LinkLost linkRegs d.linkFall := by
  cases h : d.b ETH_STATUS_LINK_UP
  · rw [Dev.linkFall_down h]
    exact d.linkLost_refl _
  · have hl : d.fallen.LinkLost linkRegs (d.fallen.onLink (fun l => { l with audit := none })) := ⟨fun _ _ => rfl, rfl⟩
    rw [Dev.linkFall_up h]
    exact (d.told_fallen.linkLost.trans hl).trans ((Dev.told_p _ _ _).linkLost.mono (by decide))

theorem Dev.linkFall_status (d : Dev) : d.linkFall.b ETH_STATUS_LINK_UP = false := by
  cases h : d.b ETH_STATUS_LINK_UP
  · rw [Dev.linkFall_down h, h]
  · have he : d.ethDown.b ETH_STATUS_LINK_UP = false := by
      rw [Dev.ethDown, Dev.b_p_other _ _ _ _ rfl rfl rfl, Dev.b_p_other _ _ _ _ rfl rfl rfl, Dev.b_p_other _ _ _ _ rfl rfl rfl, Dev.b_p_zero _ _ rfl]
    have hf : d.fallen.b ETH_STATUS_LINK_UP = false := by
      rw [Dev.fallen, (Dev.told_raise _ _).frame.b (by decide), (Dev.told_p _ _ _).frame.b (by decide), he]
    rw [Dev.linkFall_up h, (Dev.told_p _ _ _).frame.b (by decide)]
    exact hf

/-- A link that was up: the audit ends, LINK_CHANGE is set. -/
theorem Dev.linkFall_change {d : Dev} (h : d.b ETH_STATUS_LINK_UP = true) : d.linkFall.hq.link.audit = none ∧ d.linkFall.b ETH_IRQ_STATUS_LINK_CHANGE = true := by
  have hf : d.fallen.b ETH_IRQ_STATUS_LINK_CHANGE = true := by
    rw [Dev.fallen, (Dev.told_raise _ _).frame.b (by decide), Dev.b_p_one _ _ rfl]
  rw [Dev.linkFall_up h]
  refine ⟨by rw [Dev.p_hq]; rfl, ?_⟩
  rw [(Dev.told_p _ _ _).frame.b (by decide)]
  exact hf

/-! #### The CAN controllers -/

/-- The registers that a change of a controller's state writes. -/
def canRegs (k : Nat) : List Nat := [CAN_CTL k, CAN_STATUS k, CAN_IRQ_STATUS k]

theorem Dev.told_setCan (d : Dev) (k st : Nat) : d.Told [CAN_STATUS k, CAN_IRQ_STATUS k] (d.setCan k st) := by
  have hp : d.Told [CAN_STATUS k, CAN_IRQ_STATUS k] ((d.p (CAN_STATUS_STATE k) st).p (CAN_IRQ_STATUS_STATE_CHANGE k) 1) :=
    ((d.told_p _ _).mono (by simp [CAN_STATUS_STATE])).trans ((Dev.told_p _ _ _).mono (by simp [CAN_IRQ_STATUS_STATE_CHANGE]))
  rw [Dev.setCan]
  extract_lets
  split_ifs
  · exact d.told_refl _
  · exact hp.trans ((Dev.told_takeSeq _ _).mono (by simp))
  · exact hp

theorem Dev.canState_setCan (d : Dev) {k st : Nat} (hk : k < 2) (hs : st < 8) : (d.setCan k st).canState k = st := by
  have hp : ((d.p (CAN_STATUS_STATE k) st).p (CAN_IRQ_STATUS_STATE_CHANGE k) 1).canState k = st := by
    rw [Dev.canState, Dev.g_p_reg _ _ _ _ (by interval_cases k <;> decide), Dev.g_p_same _ _ _ rfl]
    exact Nat.mod_eq_of_lt hs
  rw [Dev.setCan]
  extract_lets
  split_ifs with h
  · exact h
  · exact hp
  · exact hp

/-- A controller as it enters INIT, before the attempt in progress ends. -/
def Dev.canHeld (d : Dev) (k : Nat) : Dev := (d.p (CAN_CTL_INIT k) 1).setCan k C_INIT

theorem Dev.canEnterInit_eq (d : Dev) (k : Nat) : d.canEnterInit k = ((d.canHeld k).onCan k (fun c => { c with tx := none })).p (CAN_STATUS_RECOV k) 0 := rfl

theorem Dev.told_canHeld (d : Dev) (k : Nat) : d.Told (canRegs k) (d.canHeld k) := by
  refine ((Dev.told_p _ _ _).mono ?_).trans ((Dev.told_setCan _ _ _).mono ?_) <;> simp [canRegs, CAN_CTL_INIT]

theorem Dev.linkLost_canEnterInit (d : Dev) (k : Nat) : d.LinkLost (canRegs k) (d.canEnterInit k) := by
  have ho : (d.canHeld k).LinkLost (canRegs k) ((d.canHeld k).onCan k (fun c => { c with tx := none })) := ⟨fun _ _ => rfl, rfl⟩
  rw [Dev.canEnterInit_eq]
  exact ((d.told_canHeld k).linkLost.trans ho).trans ((Dev.told_p _ _ _).linkLost.mono (by simp [canRegs, CAN_STATUS_RECOV]))

@[simp] theorem Dev.canEnterInit_hq (d : Dev) (k : Nat) : (d.canEnterInit k).hq = d.hq := by
  rw [Dev.canEnterInit_eq, Dev.p_hq]
  exact (d.told_canHeld k).hq

/-- A controller in INIT. -/
def Dev.CanInit (k : Nat) (e : Dev) : Prop := e.b (CAN_CTL_INIT k) = true ∧ e.canState k = C_INIT ∧ e.b (CAN_STATUS_RECOV k) = false

theorem Dev.canEnterInit_init (d : Dev) {k : Nat} (hk : k < 2) : (d.canEnterInit k).CanInit k := by
  have hi : (d.canHeld k).b (CAN_CTL_INIT k) = true := by
    rw [Dev.canHeld, (Dev.told_setCan _ _ _).frame.b (by interval_cases k <;> decide)]
    exact Dev.b_p_one _ _ rfl
  have hs : (d.canHeld k).canState k = C_INIT := Dev.canState_setCan _ hk (by decide)
  rw [Dev.canEnterInit_eq]
  refine ⟨?_, ?_, Dev.b_p_zero _ _ rfl⟩
  · rw [Dev.b_p_other _ _ _ _ rfl rfl (by interval_cases k <;> decide)]
    exact hi
  · rw [Dev.canState, Dev.g_p_other _ _ _ _ rfl rfl (by interval_cases k <;> decide)]
    exact hs

theorem Dev.CanInit.frame {k : Nat} {l : List Nat} {d e : Dev} (h : d.CanInit k) (hf : d.Frame l e) (hc : CAN_CTL k ∉ l) (hs : CAN_STATUS k ∉ l) : e.CanInit k :=
  ⟨(hf.b hc).trans h.1, (hf.g hs).trans h.2.1, (hf.b hs).trans h.2.2⟩

/-! #### XTAL_LOSS -/

/-- The device level on CD_AON, before what hangs on the crystal follows. -/
def Dev.onAon (d : Dev) : Dev := { d.onPwr (fun p => { p with xtalOk := false, pllOnAon := true }) with eth := { d.eth with good := 0, bad := 0 } }

theorem doXtalLoss_held {d : Dev} (h : d.pwr.phase ≠ .run) : doXtalLoss d = d := if_pos h

theorem doXtalLoss_down {d : Dev} (h : d.pwr.phase = .run) (ha : d.alive = false) : doXtalLoss d = d.onAon := by
  have ha' : d.onAon.alive = false := ha
  have hn : ¬ d.pwr.phase ≠ .run := fun k => k h
  rw [doXtalLoss, if_neg hn]
  exact if_pos (by rw [← Dev.onAon, ha']; rfl)

/-- The device level once the source is raised and device time is no longer synchronised. -/
def Dev.freeTime (d : Dev) : Dev := (d.onAon.raise XTAL_LOSS_SRC).p PTP_STATUS_SYNCED 0

theorem Dev.phase_of_alive {d : Dev} (h : d.alive = true) : d.pwr.phase = .run := by
  rw [Dev.alive, Bool.and_eq_true] at h
  exact eq_of_beq h.1

theorem doXtalLoss_alive {d : Dev} (h : d.alive = true) : doXtalLoss d = (d.freeTime.linkFall.canEnterInit 0).canEnterInit 1 := by
  have ha : d.onAon.alive = true := h
  have hn : ¬ d.pwr.phase ≠ .run := fun k => k (Dev.phase_of_alive h)
  rw [doXtalLoss, if_neg hn]
  exact if_neg (by rw [← Dev.onAon, ha]; decide)

/-- The registers that the loss of the crystal writes. -/
def xtalRegs : List Nat :=
  [SYS_SRC_STATUS, PTP_STATUS, ETH_STATUS, ETH_IRQ_STATUS, ETH_SRC_STATUS, HQ_AUDIT, CAN_CTL 0, CAN_CTL 1, CAN_STATUS 0, CAN_STATUS 1, CAN_IRQ_STATUS 0, CAN_IRQ_STATUS 1]

theorem Dev.told_freeTime (d : Dev) : d.onAon.Told [SYS_SRC_STATUS, PTP_STATUS] d.freeTime :=
  ((Dev.told_raise _ _).mono (by decide)).trans ((Dev.told_p _ _ _).mono (by decide))

theorem doXtalLoss_lost {d : Dev} (h : d.alive = true) : d.onAon.LinkLost xtalRegs (doXtalLoss d) := by
  rw [doXtalLoss_alive h]
  exact ((d.told_freeTime.linkLost.mono (by decide)).trans ((Dev.linkLost_linkFall _).mono (by decide))).trans
    (((Dev.linkLost_canEnterInit _ 0).mono (by decide)).trans ((Dev.linkLost_canEnterInit _ 1).mono (by decide)))

/-- The registers that the fall of the link and INIT write leave those of the source and of the synchronisation. -/
theorem doXtalLoss_after {d : Dev} (h : d.alive = true) : d.freeTime.Frame (linkRegs ++ canRegs 0 ++ canRegs 1) (doXtalLoss d) := by
  rw [doXtalLoss_alive h]
  exact frameD_trans ((Dev.linkLost_linkFall _).frame.mono (by decide))
    (frameD_trans ((Dev.linkLost_canEnterInit _ 0).frame.mono (by decide)) ((Dev.linkLost_canEnterInit _ 1).frame.mono (by decide)))

theorem doXtalLoss_source {d : Dev} (h : d.alive = true) (ha : d.srcActive XTAL_LOSS_SRC = false) : (doXtalLoss d).srcLatched XTAL_LOSS_SRC = true := by
  have hl : d.freeTime.srcLatched XTAL_LOSS_SRC = true := by
    rw [Dev.srcLatched, Dev.freeTime, (Dev.told_p _ _ _).frame _ (by decide), ← Dev.srcLatched]
    exact (Dev.raise_bits (d := d.onAon) ha (by decide)).2
  rw [Dev.srcLatched, doXtalLoss_after h _ (by decide), ← Dev.srcLatched, hl]

theorem doXtalLoss_synced {d : Dev} (h : d.alive = true) : (doXtalLoss d).b PTP_STATUS_SYNCED = false := by
  rw [(doXtalLoss_after h).b (by decide), Dev.freeTime, Dev.b_p_zero _ _ rfl]

/-- INIT leaves what the fall of the link has written. -/
theorem doXtalLoss_link {d : Dev} (h : d.alive = true) : d.freeTime.linkFall.Frame (canRegs 0 ++ canRegs 1) (doXtalLoss d) ∧ (doXtalLoss d).hq = d.freeTime.linkFall.hq := by
  rw [doXtalLoss_alive h]
  refine ⟨frameD_trans ((Dev.linkLost_canEnterInit _ 0).frame.mono (by decide)) ((Dev.linkLost_canEnterInit _ 1).frame.mono (by decide)), ?_⟩
  rw [Dev.canEnterInit_hq, Dev.canEnterInit_hq]

theorem doXtalLoss_can {d : Dev} (h : d.alive = true) {k : Nat} (hk : k < 2) : (doXtalLoss d).CanInit k := by
  rw [doXtalLoss_alive h]
  interval_cases k
  · exact (Dev.canEnterInit_init _ (by decide)).frame (Dev.linkLost_canEnterInit _ 1).frame (by decide) (by decide)
  · exact Dev.canEnterInit_init _ (by decide)

/-! ### The crystal back (R489) -/

theorem Dev.srcActive_clear_same (d : Dev) (s : DSrc) : (d.clear s).srcActive s = false := by
  rw [Dev.clear]
  split_ifs with h
  · have e : ((d.wr s.reg (setBit (d.rd s.reg) (16 + s.bit) false)).srcEvt 1 s).rd s.reg = setBit (d.rd s.reg) (16 + s.bit) false % 2 ^ 32 := Dev.rd_wr_same _ _ _
    rw [Dev.srcActive, e, Nat.testBit_mod_two_pow, testBit_setBit, if_pos rfl, Bool.and_false]
  · simpa using h

/-- The registers that a controller's leaving of INIT writes. -/
def leaveRegs (k : Nat) : List Nat := [CAN_CTL k, CAN_STATUS k, CAN_IRQ_STATUS k, CAN_DLYC k]

/-- A controller as its bit timing has passed the check. -/
def Dev.canChecked (d : Dev) (k : Nat) : Dev := ((d.p (CAN_CTL_INIT k) 0).p (CAN_STATUS_CFG_ERR k) 0).p (CAN_DLYC_DLY_VALID k) 0

theorem Dev.told_canChecked (d : Dev) (k : Nat) : d.Told (leaveRegs k) (d.canChecked k) := by
  refine ((Dev.told_p _ _ _).mono ?_).trans (((Dev.told_p _ _ _).mono ?_).trans ((Dev.told_p _ _ _).mono ?_)) <;>
    simp [leaveRegs, CAN_CTL_INIT, CAN_STATUS_CFG_ERR, CAN_DLYC_DLY_VALID]

theorem Dev.canLeaveInit_ok {d : Dev} {k : Nat} (hp : d.pwr.pllOnAon = false) (hs : d.canState k = C_INIT) (ht : d.canTimingOk k = true) :
    d.canLeaveInit k = (d.canChecked k).setCan k (if (d.canSt k).off then C_OFF else C_INTEG) := by
  rw [Dev.canLeaveInit, hp, hs, ht]
  rfl

theorem Dev.canLeaveInit_bad {d : Dev} {k : Nat} (hp : d.pwr.pllOnAon = false) (hs : d.canState k = C_INIT) (ht : d.canTimingOk k = false) :
    d.canLeaveInit k = (d.p (CAN_CTL_INIT k) 1).p (CAN_STATUS_CFG_ERR k) 1 := by
  rw [Dev.canLeaveInit, hp, hs, ht]
  rfl

theorem Dev.told_canLeaveInit (d : Dev) (k : Nat) : d.Told (leaveRegs k) (d.canLeaveInit k) := by
  rw [Dev.canLeaveInit]
  split_ifs
  · exact d.told_refl _
  · refine ((Dev.told_p _ _ _).mono ?_).trans ((Dev.told_p _ _ _).mono ?_) <;> simp [leaveRegs, CAN_CTL_INIT, CAN_STATUS_CFG_ERR]
  · exact (d.told_canChecked k).trans ((Dev.told_setCan _ _ _).mono (by simp [leaveRegs]))
  · exact (d.told_canChecked k).trans ((Dev.told_setCan _ _ _).mono (by simp [leaveRegs]))

/-- The controller integrates. -/
theorem Dev.canLeaveInit_integrates {d : Dev} {k : Nat} (hk : k < 2) (hp : d.pwr.pllOnAon = false) (hs : d.canState k = C_INIT) (ht : d.canTimingOk k = true)
    (ho : (d.canSt k).off = false) : (d.canLeaveInit k).canState k = C_INTEG ∧ (d.canLeaveInit k).b (CAN_CTL_INIT k) = false := by
  rw [Dev.canLeaveInit_ok hp hs ht, ho]
  refine ⟨Dev.canState_setCan _ hk (by decide), ?_⟩
  rw [(Dev.told_setCan _ _ _).frame.b (by interval_cases k <;> decide), Dev.canChecked, (Dev.told_p _ _ _).frame.b (by interval_cases k <;> decide),
    (Dev.told_p _ _ _).frame.b (by interval_cases k <;> decide), Dev.b_p_zero _ _ rfl]

/-- The controller stays in INIT with CFG_ERR. -/
theorem Dev.canLeaveInit_refused {d : Dev} {k : Nat} (hk : k < 2) (hp : d.pwr.pllOnAon = false) (hs : d.canState k = C_INIT) (ht : d.canTimingOk k = false) :
    (d.canLeaveInit k).canState k = C_INIT ∧ (d.canLeaveInit k).b (CAN_CTL_INIT k) = true ∧ (d.canLeaveInit k).b (CAN_STATUS_CFG_ERR k) = true := by
  rw [Dev.canLeaveInit_bad hp hs ht]
  refine ⟨?_, ?_, Dev.b_p_one _ _ rfl⟩
  · rw [Dev.canState, Dev.g_p_other _ _ _ _ rfl rfl (by interval_cases k <;> decide), Dev.g_p_reg _ _ _ _ (by interval_cases k <;> decide)]
    exact hs
  · rw [(Dev.told_p _ _ _).frame.b (by interval_cases k <;> decide), Dev.b_p_one _ _ rfl]

theorem Dev.Frame.canTimingOk {l : List Nat} {d e : Dev} (h : d.Frame l e) {k : Nat} (hn : CAN_TIM_N k ∉ l) (hd : CAN_TIM_D k ∉ l) (hc : CAN_CTL k ∉ l) :
    e.canTimingOk k = d.canTimingOk k := by
  have gn : ∀ f : Fld, f.reg = CAN_TIM_N k → e.g f = d.g f := fun f hf => h.g (hf ▸ hn)
  have gd : ∀ f : Fld, f.reg = CAN_TIM_D k → e.g f = d.g f := fun f hf => h.g (hf ▸ hd)
  simp only [Dev.canTimingOk, Dev.b, gn (CAN_TIM_N_N_PRESC k) rfl, gn (CAN_TIM_N_N_SEG1 k) rfl, gn (CAN_TIM_N_N_SEG2 k) rfl, gn (CAN_TIM_N_N_SJW k) rfl, gn (CAN_TIM_N_TRIPLE k) rfl,
    gd (CAN_TIM_D_D_PRESC k) rfl, gd (CAN_TIM_D_D_SEG1 k) rfl, gd (CAN_TIM_D_D_SEG2 k) rfl, gd (CAN_TIM_D_D_SJW k) rfl, h.g (f := CAN_CTL_FD_EN k) hc]

theorem Dev.Told.pwr {l : List Nat} {d e : Dev} (h : d.Told l e) : e.pwr = d.pwr :=
  have k := congrArg Dev.pwr h.2
  k
theorem Dev.Told.canSt {l : List Nat} {d e : Dev} (h : d.Told l e) (k : Nat) : e.canSt k = d.canSt k :=
  have j := congrArg (fun x => Dev.canSt x k) h.2
  j

/-- The device level as both controllers are let out of INIT. -/
def Dev.canBoth (d : Dev) : Dev := (d.canLeaveInit 0).canLeaveInit 1

/-- Controller `k` is let out from a device level in which the other alone may have been, and the other's follows or has come before. -/
theorem Dev.canBoth_at (d : Dev) {k : Nat} (hk : k < 2) : ∃ x, d.Told (leaveRegs (1 - k)) x ∧ (x.canLeaveInit k).Frame (leaveRegs (1 - k)) d.canBoth := by
  interval_cases k
  · exact ⟨d, d.told_refl _, (Dev.told_canLeaveInit _ 1).frame⟩
  · exact ⟨d.canLeaveInit 0, d.told_canLeaveInit 0, frameD_refl _ _⟩

/-- The registers of a controller are none of those that the other's leaving of INIT writes. -/
theorem leaveRegs_other {k : Nat} (hk : k < 2) :
    CAN_CTL k ∉ leaveRegs (1 - k) ∧ CAN_STATUS k ∉ leaveRegs (1 - k) ∧ CAN_TIM_N k ∉ leaveRegs (1 - k) ∧ CAN_TIM_D k ∉ leaveRegs (1 - k) := by
  interval_cases k <;> decide

theorem Dev.canBoth_integrates {d : Dev} {k : Nat} (hk : k < 2) (hp : d.pwr.pllOnAon = false) (hs : d.canState k = C_INIT) (ht : d.canTimingOk k = true)
    (ho : (d.canSt k).off = false) : d.canBoth.canState k = C_INTEG ∧ d.canBoth.b (CAN_CTL_INIT k) = false := by
  obtain ⟨x, hx, hf⟩ := d.canBoth_at hk
  obtain ⟨nc, ns, nn, nd⟩ := leaveRegs_other hk
  have h := Dev.canLeaveInit_integrates hk (by rw [hx.pwr, hp]) ((hx.frame.g ns).trans hs) (by rw [hx.frame.canTimingOk nn nd nc, ht]) (by rw [hx.canSt, ho])
  exact ⟨(hf.g ns).trans h.1, (hf.b nc).trans h.2⟩

theorem Dev.canBoth_refused {d : Dev} {k : Nat} (hk : k < 2) (hp : d.pwr.pllOnAon = false) (hs : d.canState k = C_INIT) (ht : d.canTimingOk k = false) :
    d.canBoth.canState k = C_INIT ∧ d.canBoth.b (CAN_CTL_INIT k) = true ∧ d.canBoth.b (CAN_STATUS_CFG_ERR k) = true := by
  obtain ⟨x, hx, hf⟩ := d.canBoth_at hk
  obtain ⟨nc, ns, nn, nd⟩ := leaveRegs_other hk
  obtain ⟨h1, h2, h3⟩ := Dev.canLeaveInit_refused hk (by rw [hx.pwr, hp]) ((hx.frame.g ns).trans hs) (by rw [hx.frame.canTimingOk nn nd nc, ht])
  exact ⟨(hf.g ns).trans h1, (hf.b nc).trans h2, (hf.b ns).trans h3⟩

/-- The device level on the crystal again. -/
def Dev.onXtal (d : Dev) : Dev := d.onPwr (fun p => { p with xtalOk := true, pllOnAon := false })

/-- The device level once XTAL_LOSS is no longer active. -/
def Dev.xtalBack (d : Dev) : Dev := if d.alive then d.onXtal.clear XTAL_LOSS_SRC else d.onXtal

theorem Dev.told_xtalBack (d : Dev) : d.onXtal.Told [SYS_SRC_STATUS] d.xtalBack := by
  rw [Dev.xtalBack]
  split_ifs
  · exact Dev.told_clear _ XTAL_LOSS_SRC
  · exact Dev.told_refl _ _

theorem doXtalReturn_held {d : Dev} (h : d.pwr.phase ≠ .run ∨ d.pwr.pllOnAon = false) : doXtalReturn d = d :=
  if_pos (h.imp_right (fun k => by rw [k]; rfl))

theorem doXtalReturn_back {d : Dev} (h : d.pwr.phase = .run) (hp : d.pwr.pllOnAon = true) : doXtalReturn d = if d.up then d.xtalBack.canBoth else d.xtalBack := by
  have hn : ¬ (d.pwr.phase ≠ .run ∨ !d.pwr.pllOnAon) := by simp [h, hp]
  have hu : d.xtalBack.up = d.up := by
    have hh : d.xtalBack.halted = d.halted := d.told_xtalBack.frame.b (by decide)
    rw [Dev.up, Dev.up, d.told_xtalBack.pwr, hh]
    rfl
  rw [← hu, doXtalReturn, if_neg hn]
  rfl

/-- The registers that the return of the crystal writes. -/
def backRegs : List Nat := [SYS_SRC_STATUS, CAN_CTL 0, CAN_CTL 1, CAN_STATUS 0, CAN_STATUS 1, CAN_IRQ_STATUS 0, CAN_IRQ_STATUS 1, CAN_DLYC 0, CAN_DLYC 1]

theorem Dev.told_canBoth (d : Dev) : d.Told (leaveRegs 0 ++ leaveRegs 1) d.canBoth :=
  ((d.told_canLeaveInit 0).mono (by decide)).trans ((Dev.told_canLeaveInit _ 1).mono (by decide))

/-- What follows the clearing of the source. -/
theorem told_doXtalReturn {d : Dev} (h : d.pwr.phase = .run) (hp : d.pwr.pllOnAon = true) : d.xtalBack.Told (leaveRegs 0 ++ leaveRegs 1) (doXtalReturn d) := by
  rw [doXtalReturn_back h hp]
  split_ifs
  · exact Dev.told_canBoth _
  · exact Dev.told_refl _ _

theorem doXtalReturn_told {d : Dev} (h : d.pwr.phase = .run) (hp : d.pwr.pllOnAon = true) : d.onXtal.Told backRegs (doXtalReturn d) :=
  (d.told_xtalBack.mono (by decide)).trans ((told_doXtalReturn h hp).mono (by decide))

theorem doXtalReturn_source {d : Dev} (h : d.alive = true) (hp : d.pwr.pllOnAon = true) : (doXtalReturn d).srcActive XTAL_LOSS_SRC = false := by
  rw [(told_doXtalReturn (Dev.phase_of_alive h) hp).frame.srcActive (by decide), Dev.xtalBack, if_pos h]
  exact Dev.srcActive_clear_same _ _

theorem doXtalReturn_up {d : Dev} (hu : d.up = true) (h : d.pwr.phase = .run) (hp : d.pwr.pllOnAon = true) : doXtalReturn d = d.xtalBack.canBoth := by
  rw [doXtalReturn_back h hp, if_pos hu]

/-- The controllers find the registers, and themselves, as they were, and the PLL on the crystal. -/
theorem Dev.xtalBack_can (d : Dev) {k : Nat} (hk : k < 2) :
    d.xtalBack.pwr.pllOnAon = false ∧ d.xtalBack.canState k = d.canState k ∧ d.xtalBack.canTimingOk k = d.canTimingOk k ∧ d.xtalBack.canSt k = d.canSt k := by
  have n : CAN_CTL k ∉ [SYS_SRC_STATUS] ∧ CAN_STATUS k ∉ [SYS_SRC_STATUS] ∧ CAN_TIM_N k ∉ [SYS_SRC_STATUS] ∧ CAN_TIM_D k ∉ [SYS_SRC_STATUS] := by interval_cases k <;> decide
  obtain ⟨nc, ns, nn, nd⟩ := n
  exact ⟨by rw [d.told_xtalBack.pwr]; rfl, d.told_xtalBack.frame.g ns, d.told_xtalBack.frame.canTimingOk nn nd nc, d.told_xtalBack.canSt k⟩

/-! ### The other channel's S4 (R21, R22, R28) -/

theorem ne_other (ch : Ch) : ch ≠ ch.other := by cases ch <;> decide

/-- What PEER_S4_FORWARD leaves of the two channels. -/
theorem doPeerS4Forward_seenAt {s : State} {t : Tick} {ch : Ch}
    (h : ((s.m.seenDev t).up && (s.m.seen t ch.other).dust.fwd && (s.m.seen t ch).pairRuns) = true) (ho : (s.m.seen t ch).state ≠ OFF) :
    doPeerS4Forward ch (s.m.seenAt t) = ((s.m.seenAt t).setChan ch.other ((s.m.seen t ch.other).onDust (fun x => { x with fwd := false }))).setChan ch ((s.m.seen t ch).pulse PEER_S4) := by
  have hc : ((s.m.seenAt t).dev.up && ((s.m.seenAt t).chan ch.other).dust.fwd && ((s.m.seenAt t).chan ch).pairRuns) = true := by
    rw [← h]; cases ch <;> rfl
  have e : { ((s.m.seenAt t).setChan ch.other ((s.m.seen t ch.other).onDust (fun x => { x with fwd := false }))).chan ch with
      now := ((s.m.seenAt t).setChan ch.other ((s.m.seen t ch.other).onDust (fun x => { x with fwd := false }))).now } = s.m.seen t ch := by
    rw [Mach.chan_setChan_other _ _ _ _ (ne_other ch), Mach.setChan_now]; cases ch <;> rfl
  rw [doPeerS4Forward, if_pos hc, onChan_seenAt, Mach.onChan, e, live, if_neg ho]

theorem doPeerS4Forward_not {s : State} {t : Tick} {ch : Ch}
    (h : ((s.m.seenDev t).up && (s.m.seen t ch.other).dust.fwd && (s.m.seen t ch).pairRuns) = false) : doPeerS4Forward ch (s.m.seenAt t) = s.m.seenAt t := by
  have hc : ((s.m.seenAt t).dev.up && ((s.m.seenAt t).chan ch.other).dust.fwd && ((s.m.seenAt t).chan ch).pairRuns) = false := by
    rw [← h]; cases ch <;> rfl
  exact if_neg (ne_true_of_eq_false hc)

/-! ### The obligation -/

/-- Settles O37: the crystal lost and back is what `doXtalLoss_*` and `doXtalReturn_*` say, the exchange `TimeBase.align_eq`, the rest a source raised. -/
theorem clocksAndTimebases : Obligations.ClocksAndTimebases := by
  intro s t ch on x y err drift c o d p b rest settled gap succeeds ctl xref forwards fails still dropped
  have failing : ∀ {q : Src}, q.bit < 16 → reactionRegs.contains q.sevAt.1 = false → c.state ≠ OFF → c.srcActive q = false →
      (c.raise q).srcLatched q = true ∧ c.Reacted [] (c.raise q) ∧ (3 ≤ c.sevOf q → (c.raise q).state = FAULT) := fun hb hv ho ha => raise_fails hb hv ho ha
  have exch : ∀ {z : Bool} {P : Chan → Prop} {e : Chan}, (if c.state = OFF then c else if z && d.up && !p.pllOnAon then c.exchanged d.off err drift else c.exchangeMissed drift) = e →
      P e → ActsIn (.timebaseExchange t ch z ⟨err, drift⟩) s t ch P := fun he hP =>
    actsIn_of rfl ((doTimebaseExchange_seenAt s t ch _ err drift).trans (congrArg _ he)) hP
  refine ⟨?held, ?returnHeld, ?aon, ?lossDown, ?loss, ?back, ?off, ?living, ?forwardNot, ?forward⟩
  case held => exact fun h => ⟨actsDev_of rfl rfl (doXtalLoss_held h), actsDev_of rfl rfl (if_neg h)⟩
  case returnHeld => exact fun h => actsDev_of rfl rfl (doXtalReturn_held h)
  case aon => exact fun h => actsDev_of rfl rfl (if_pos h)
  case lossDown => exact fun h ha => actsDev_of rfl rfl (doXtalLoss_down h ha)
  case loss =>
    intro h
    have hl := doXtalLoss_lost h
    obtain ⟨hf, hq⟩ := doXtalLoss_link h
    refine actsDev_of (d := d) rfl rfl ⟨?pwr, ?eth, doXtalLoss_source h, doXtalLoss_synced h, ?down, ?change, fun k hk => doXtalLoss_can h hk, hl.frame, ?rest⟩
    case pwr => exact congrArg Dev.pwr hl.rest
    case eth => exact congrArg Dev.eth hl.rest
    case down => exact (hf.b (by decide)).trans (Dev.linkFall_status _)
    case change =>
      intro hu
      have hu' : d.freeTime.b ETH_STATUS_LINK_UP = true := (d.told_freeTime.frame.b (by decide)).trans hu
      obtain ⟨ha, hc⟩ := Dev.linkFall_change hu'
      exact ⟨by rw [hq]; exact ha, (hf.b (by decide)).trans hc⟩
    case rest =>
      exact ⟨(congrArg Dev.arch hl.rest :), (congrArg Dev.colmo hl.rest :), (congrArg Dev.bist hl.rest :), (congrArg Dev.otp hl.rest :),
        (congrArg (fun e : Dev => e.hq.flows) hl.rest :), (congrArg (fun e : Dev => e.hq.queues) hl.rest :)⟩
  case back =>
    intro h hp
    have ht := doXtalReturn_told h hp
    refine actsDev_of (d := d) rfl rfl ⟨ht.pwr, fun ha => doXtalReturn_source ha hp, ?integrates, ?refused, ht.frame, ?rest⟩
    case integrates =>
      intro hu k hk hs hok ho
      obtain ⟨bp, bs, bt, bc⟩ := d.xtalBack_can hk
      rw [doXtalReturn_up hu h hp]
      exact Dev.canBoth_integrates hk bp (bs.trans hs) (bt.trans hok) (by rw [bc, ho])
    case refused =>
      intro hu k hk hs hok
      obtain ⟨bp, bs, bt, -⟩ := d.xtalBack_can hk
      rw [doXtalReturn_up hu h hp]
      exact Dev.canBoth_refused hk bp (bs.trans hs) (bt.trans hok)
    case rest => exact congrArg (fun e : Dev => { e with pwr := p }) ht.2
  case off =>
    intro ho
    have hlive : ∀ f : Chan → Chan, live f c = c := fun f => if_pos ho
    exact ⟨actsOn_chan (c := c) rfl rfl (hlive _), actsOn_chan (c := c) rfl rfl (hlive _), exch (if_pos ho) rfl⟩
  case living =>
    intro ho
    have done : ∀ z : Chan, succeeds = true → c.exchanged d.off err drift = z →
        (if c.state = OFF then c else if x && d.up && !p.pllOnAon then c.exchanged d.off err drift else c.exchangeMissed drift) = z :=
      fun z h hz => by rw [if_neg ho, if_pos h, hz]
    have missed : ∀ z : Chan, succeeds = false → c.exchangeMissed drift = z →
        (if c.state = OFF then c else if x && d.up && !p.pllOnAon then c.exchanged d.off err drift else c.exchangeMissed drift) = z :=
      fun z h hz => by rw [if_neg ho, if_neg (ne_true_of_eq_false h), hz]
    refine ⟨?lock, ?ctl, ?xref, ?none, ?step, ?slew, ?hold, ?kept, ?third⟩
    case lock => exact fun ha => actsOn_live (c := c) rfl rfl ho (failing (by decide) (by decide) ho ha)
    case ctl =>
      intro h ha
      refine actsOn_live (c := c) rfl rfl ho ?_
      have e : doClkDeviation s.m.dev.pwr.aonDev x y c = c.raise CLK_CTL := doClkDeviation_ctl c h
      rw [e]
      exact failing (by decide) (by decide) ho ha
    case xref =>
      intro h ha
      refine actsOn_live (c := c) rfl rfl ho ?_
      have e : doClkDeviation s.m.dev.pwr.aonDev x y c = c.raise CLK_XREF := doClkDeviation_xref c h
      rw [e]
      exact failing (by decide) (by decide) ho ha
    case none => exact fun h hx => actsOn_live (c := c) rfl rfl ho (doClkDeviation_none c h hx)
    case step => exact fun h hh hr => exch (done _ h (Chan.exchanged_step _ _ _ hh hr)) rfl
    case slew => exact fun h hh hr => exch (done _ h (Chan.exchanged_slew _ _ _ hh hr)) rfl
    case hold =>
      intro h hh
      refine exch (done _ h (Chan.exchanged_hold _ _ _ hh)) ⟨Chan.clear_tb _ _, Chan.srcActive_clear_same _ _, fun a ha => ?_⟩
      exact Chan.rd_clear_other _ _ (fun e => ha (by rw [e]; exact List.mem_cons_self))
    case kept => exact fun h hk => exch (missed _ h (Chan.exchangeMissed_kept _ hk)) rfl
    case third =>
      intro h hh hm ha
      refine exch (missed _ h (Chan.exchangeMissed_third _ hh hm)) ⟨Chan.raise_tb _ _, raise_latched _ _ (by decide) ho ha, ?_⟩
      exact frame_trans (b := { c with tb := { settled with missed := b.missed + 1, hold := true } }) (fun _ _ => rfl) (frame_reacts (q := false) (react_raise (react_refl _)))
  case forwardNot => exact fun h => ⟨d, (congrArg (fun m : Mach => Host.Outcome.next { s with m := m }) (doPeerS4Forward_not h) :), rfl⟩
  case forward =>
    intro h ho ha
    have hr : c.Reacts false (c.pulse PEER_S4) := react_pulse (react_refl c)
    refine acts_of rfl ?_
    rw [doPeerS4Forward_seenAt h ho]
    refine ⟨?other, ?latched, ?reacted, ?dev⟩
    case other =>
      rw [Mach.chan_setChan_other _ _ _ _ (ne_other ch).symm, Mach.chan_setChan]
      rfl
    case latched =>
      rw [Mach.chan_setChan]
      exact pulse_latched c PEER_S4 (by decide) ho ha
    case reacted =>
      rw [Mach.chan_setChan]
      exact ⟨frame_reacts hr, kept_reacts hr⟩
    case dev =>
      rw [Mach.setChan_dev, Mach.setChan_dev]
      rfl

end Sys2Proof.Machine
end

section
/-! PROOFS. Requests of a channel: ARM, DISARM, CLEAR_FAULT, the ARM sequence, the transitions with a delay (R52 to R59, R530). -/

namespace Sys2Proof.Machine
open Sys2Proof

/-! ### Fields of CH_STATE beside other registers -/

theorem Chan.state_p {c : Chan} {f : Fld} (v : Nat) (h : CH_STATE ≠ f.reg) : (c.p f v).state = c.state := Chan.g_p_reg _ _ _ _ h

/-! ### ARM (R52, R54, R55, R64) -/

/-- ARM with every bit of CH_READY at 1 and no staged commit: LAST_REFUSAL and the sequence. -/
theorem Chan.armAccept_eq {c : Chan} (h : c.ctl.stage = none) :
    c.armAccept = (c.p CH_RESULT_LAST_REFUSAL 0).onCtl (fun x => { x with arm := some ⟨c.state == HOLD, .check, c.now, c.now, 0⟩ }) := by
  have hs : (c.p CH_RESULT_LAST_REFUSAL 0).state = c.state := Chan.state_p _ (by decide)
  have hn : ¬ (c.p CH_RESULT_LAST_REFUSAL 0).ctl.stage.isSome := by rw [Chan.p_ctl, h]; decide
  unfold Chan.armAccept
  extract_lets c1 c2
  have h2 : c2 = c1 := if_neg hn
  rw [h2, if_neg (not_not.2 hs), hs]
  rfl

section
variable {c : Chan} (hst : c.state = PRIMED ∨ c.state = HOLD) (hd : c.disarmNow = false) (ha : c.ctl.arm = none)
include hst hd ha

theorem doChReqArm_taken : doChReqArm c = if lowestZero c.ready 11 < 11 then
    ((((c.p CH_REQ_ARM 0).onCtl (fun x => { x with refused := some (c.now, c.g CH_RESULT_LAST_REFUSAL, c.g CH_IRQ_STATUS_ARM_REFUSED) })).p
      CH_RESULT_LAST_REFUSAL (lowestZero c.ready 11 + 1)).p CH_IRQ_STATUS_ARM_REFUSED 1).armAnswer 0x1C
    else (c.p CH_REQ_ARM 0).armAccept :=
  if_neg (by simp [hst, hd, ha])

theorem doChReqArm_accepts (hr : lowestZero c.ready 11 = 11) (hs : c.ctl.stage = none) : doChReqArm c =
    ((c.p CH_REQ_ARM 0).p CH_RESULT_LAST_REFUSAL 0).onCtl (fun x => { x with arm := some ⟨c.state == HOLD, .check, c.now, c.now, 0⟩ }) := by
  rw [doChReqArm_taken hst hd ha, if_neg (by omega), Chan.armAccept_eq (c := c.p CH_REQ_ARM 0) hs, Chan.state_p _ (by decide), Chan.p_now]

theorem doChReqArm_refuses {k : Nat} (hk : k < 11) (hr : lowestZero c.ready 11 = k) : doChReqArm c =
    ((((c.p CH_REQ_ARM 0).onCtl (fun x => { x with refused := some (c.now, c.g CH_RESULT_LAST_REFUSAL, c.g CH_IRQ_STATUS_ARM_REFUSED) })).p
      CH_RESULT_LAST_REFUSAL (k + 1)).p CH_IRQ_STATUS_ARM_REFUSED 1).armAnswer 0x1C := by
  rw [doChReqArm_taken hst hd ha, hr, if_pos hk]
end

/-- The answer of a request that nobody waits for is not kept. -/
theorem quietly_armAnswer {f : Chan → Chan} {c x : Chan} {st : Nat} (hf : f c = x.armAnswer st) (hx : x.answers = c.answers) : quietly f c = x := by
  rw [quietly, hf, ← hx]
  rfl

/-- Settles O5: `doChReqArm_accepts` and `doChReqArm_refuses`. -/
theorem armRequest : Obligations.ArmRequest := by
  intro s t ch c hst hd ha
  have ho : c.state ≠ OFF := by rcases hst with h | h <;> rw [h] <;> decide
  refine ⟨fun hr hs => actsOn_live rfl rfl ho ?accepted, fun k hk hr => actsOn_live rfl rfl ho ?refused⟩
  case accepted =>
    rw [quietly, doChReqArm_accepts hst hd ha hr hs]
    refine ⟨rfl, Chan.g_p_same _ _ _ rfl, ?_, frame_p (frame_p (frame_refl _ _) (by decide)) (by decide), rfl⟩
    exact (Chan.state_p _ (by decide)).trans (Chan.state_p _ (by decide))
  case refused =>
    rw [quietly_armAnswer (doChReqArm_refuses hst hd ha hk hr) rfl]
    refine ⟨rfl, ?_, Chan.b_p_one _ _ rfl, ?_, frame_p (frame_p (frame_p (frame_refl _ _) (by decide)) (by decide)) (by decide), rfl⟩
    · refine ((Chan.g_p_reg _ _ _ _ (by decide)).trans (Chan.g_p_same _ _ _ rfl)).trans (Nat.mod_eq_of_lt ?_)
      calc k + 1 ≤ 11 := hk
        _ < 2 ^ 5 := by decide
    · exact (Chan.state_p _ (by decide)).trans ((Chan.state_p _ (by decide)).trans (Chan.state_p _ (by decide)))

/-! ### DISARM and CLEAR_FAULT (R52, R53, R59) -/

@[simp] theorem Chan.reqDiscard_ctl (c : Chan) : c.reqDiscard.ctl = c.ctl := Chan.p_ctl _ _ _
theorem Chan.reqDiscard_state (c : Chan) : c.reqDiscard.state = c.state := Chan.state_p _ (by decide)
theorem Chan.reqDiscard_flag (c : Chan) : c.reqDiscard.b CH_RESULT_REQ_DISCARDED = true := Chan.b_p_one _ _ rfl
theorem frame_reqDiscard {l : List Nat} {c0 c : Chan} (h : c0.Frame l c) (hl : CH_RESULT ∈ l) : c0.Frame l c.reqDiscard := frame_p h hl

/-! Withdrawing an answer writes no register. -/
@[simp] theorem Chan.rd_answers (c : Chan) (l : List OpDone) (a : Nat) : ({ c with answers := l } : Chan).rd a = c.rd a := rfl
@[simp] theorem Chan.g_answers (c : Chan) (l : List OpDone) (f : Fld) : ({ c with answers := l } : Chan).g f = c.g f := rfl
@[simp] theorem Chan.b_answers (c : Chan) (l : List OpDone) (f : Fld) : ({ c with answers := l } : Chan).b f = c.b f := rfl
@[simp] theorem Chan.state_answers (c : Chan) (l : List OpDone) : ({ c with answers := l } : Chan).state = c.state := rfl

theorem frame_answers {l : List Nat} {c0 c : Chan} (x : List OpDone) (h : c0.Frame l c) : c0.Frame l { c with answers := x } := fun a ha => h a ha

/-- LAST_REFUSAL and ARM_REFUSED as they stood before a refused ARM, which then counts as discarded (R52, log 14). -/
def Chan.refusalBack (c : Chan) (last flag : Nat) : Chan :=
  (((c.onCtl (fun x => { x with refused := none })).p CH_RESULT_LAST_REFUSAL last).p CH_IRQ_STATUS_ARM_REFUSED flag).reqDiscard

/-- A channel whose refused ARM of the present cycle is taken back (R52, log 14). -/
def Chan.refusalUndone (c : Chan) (last flag : Nat) : Chan :=
  { c.refusalBack last flag with answers := cancelLast (c.refusalBack last flag).answers }

theorem Chan.unrefuse_undone {c : Chan} {u : Tick} {last flag : Nat} (h : c.ctl.refused = some (u, last, flag)) (hu : sameCycle u c.now = true) :
    c.unrefuse = c.refusalUndone last flag := by
  simp only [Chan.unrefuse, h, hu, if_true]
  rfl

theorem Chan.unrefuse_alone {c : Chan} (h : ∀ x, c.ctl.refused = some x → sameCycle x.1 c.now = false) : c.unrefuse = c := by
  unfold Chan.unrefuse
  split
  · rfl
  · next t last flag hr => exact if_neg (by simp [h _ hr])

theorem Chan.unrefuse_cases (c : Chan) : c.unrefuse = c ∨ ∃ last flag, c.unrefuse = c.refusalUndone last flag := by
  cases h : c.ctl.refused with
  | none => exact .inl (Chan.unrefuse_alone (by simp [h]))
  | some x =>
    cases hu : sameCycle x.1 c.now with
    | false => exact .inl (Chan.unrefuse_alone (by simp [h, hu]))
    | true => exact .inr ⟨x.2.1, x.2.2, Chan.unrefuse_undone h hu⟩

theorem Chan.refusalUndone_state (c : Chan) (last flag : Nat) : (c.refusalUndone last flag).state = c.state := by
  rw [Chan.refusalUndone, Chan.state_answers, Chan.refusalBack, Chan.reqDiscard_state, Chan.state_p _ (by decide), Chan.state_p _ (by decide)]
  rfl

theorem Chan.refusalUndone_ctl (c : Chan) (last flag : Nat) : (c.refusalUndone last flag).ctl = { c.ctl with refused := none } := by
  rw [Chan.refusalUndone]
  rw [Chan.refusalBack, Chan.reqDiscard_ctl, Chan.p_ctl, Chan.p_ctl, Chan.onCtl_ctl]

theorem Chan.unrefuse_state (c : Chan) : c.unrefuse.state = c.state := by
  rcases c.unrefuse_cases with h | ⟨last, flag, h⟩ <;> rw [h]
  exact c.refusalUndone_state last flag

theorem Chan.unrefuse_ctl (c : Chan) : c.unrefuse.ctl = { c.ctl with refused := c.unrefuse.ctl.refused } := by
  rcases c.unrefuse_cases with h | ⟨last, flag, h⟩
  · rw [h]
  · rw [h, Chan.refusalUndone_ctl]

/-- What DISARM does in every state before it looks at the state. -/
def Chan.disarmSeen (c : Chan) : Chan := (c.p CH_REQ_DISARM 0).onCtl (fun x => { x with disarmAt := some c.now })

theorem Chan.disarmSeen_alone {c : Chan} (h : ∀ x, c.ctl.refused = some x → sameCycle x.1 c.now = false) : c.disarmSeen.unrefuse = c.disarmSeen :=
  Chan.unrefuse_alone h

/-- DISARM's part for an ARM sequence under way (R52, R404). -/
def Chan.armCancel (c : Chan) (a : ArmSeq) : Chan := (if sameCycle a.start c.now then c.armEnd.reqDiscard else c.armEnd).armAnswer 0x10

/-- DISARM's part for the state (R52, R53); `c0` is the channel before the request. -/
def Chan.disarmTake (c c0 : Chan) : Chan :=
  if c0.state = ARMED ∨ c0.state = RUN ∨ c0.state = HOLD then (c.onCtl (fun x => { x with disarm := true })).transCheck
  else if c0.state = FAULT ∧ sameCycle c0.ctl.stateAt c0.now then c.reqDiscard else c

theorem doChReqDisarm_noArm {c : Chan} (ha : c.ctl.arm = none) : doChReqDisarm c = c.disarmSeen.unrefuse.disarmTake c := by
  have h : c.disarmSeen.unrefuse.ctl.arm = none := by rw [Chan.unrefuse_ctl]; exact ha
  unfold doChReqDisarm
  extract_lets c1 d c2
  have h2 : c2 = c1 := by
    unfold c2
    rw [show c1.ctl.arm = none from h]
  rw [h2]
  rfl

theorem doChReqDisarm_arm {c : Chan} {a : ArmSeq} (ha : c.ctl.arm = some a) (hr : ∀ x, c.ctl.refused = some x → sameCycle x.1 c.now = false) :
    doChReqDisarm c = (c.disarmSeen.armCancel a).disarmTake c := by
  have h : c.disarmSeen.ctl.arm = some a := ha
  unfold doChReqDisarm
  extract_lets c1 d c2
  have h1 : c1 = c.disarmSeen := Chan.disarmSeen_alone hr
  have h2 : c2 = c.disarmSeen.armCancel a := by
    unfold c2 d
    rw [h1, h]
    rfl
  rw [h2]
  rfl

theorem doChReqClearFault_fault {c : Chan} (h : c.state = FAULT) :
    doChReqClearFault c = ((c.p CH_REQ_CLEAR_FAULT 0).onCtl (fun x => { x with clr := true })).transCheck := if_pos h

theorem react_armCancel (c : Chan) (a : ArmSeq) : c.Reacts false (c.armCancel a) := by
  unfold Chan.armCancel
  refine react_armAnswer ?_
  split_ifs
  · exact react_reqDiscard (react_armEnd (react_refl _))
  · exact react_armEnd (react_refl _)

theorem Chan.armCancel_ctl (c : Chan) (a : ArmSeq) : (c.armCancel a).ctl = { c.ctl with arm := none } := by
  have h : (if sameCycle a.start c.now then c.armEnd.reqDiscard else c.armEnd).ctl = c.armEnd.ctl := by
    split_ifs
    · exact Chan.reqDiscard_ctl _
    · rfl
  exact h.trans (ctl_armEnd c)

theorem react_disarmTake (c c0 : Chan) : c.Reacts false (c.disarmTake c0) := by
  unfold Chan.disarmTake
  split_ifs
  · exact react_transCheck (react_onCtl (react_refl _) (fun h => h))
  · exact react_reqDiscard (react_refl _)
  · exact react_refl _

theorem Chan.disarmTake_ctl (c c0 : Chan) : (c.disarmTake c0).ctl.arm = c.ctl.arm ∧ (c.disarmTake c0).ctl.disarmAt = c.ctl.disarmAt := by
  unfold Chan.disarmTake
  split_ifs
  · obtain ⟨x, hx, -, hat, harm, -⟩ := transCheck_eq (c.onCtl (fun x => { x with disarm := true }))
    rw [hx]
    exact ⟨harm, hat⟩
  · exact ⟨rfl, rfl⟩
  · exact ⟨rfl, rfl⟩

/-- DISARM where it is accepted and nothing of the cycle stands against it. -/
theorem disarmTake_accepted {c : Chan} (hst : c.state = ARMED ∨ c.state = RUN ∨ c.state = HOLD) :
    ∃ x : Ctl, c.disarmSeen.disarmTake c = { c.disarmSeen with ctl := x } ∧ x.disarm = true ∧ x.disarmAt = some c.now ∧ x.arm = c.ctl.arm := by
  obtain ⟨x, hx, hd, hat, harm, -⟩ := transCheck_eq (c.disarmSeen.onCtl (fun x => { x with disarm := true }))
  exact ⟨x, by rw [Chan.disarmTake, if_pos hst, hx]; rfl, hd, hat, harm⟩

theorem frame_disarmSeen (c : Chan) : c.Frame [CH_REQ] c.disarmSeen := frame_p (frame_refl _ _) (by decide)

/-- What taking a refused ARM back leaves: its two fields as before the ARM, REQ_DISCARDED, and the answer withdrawn. -/
theorem refusalUndone_restores {c0 : Chan} (c : Chan) (last flag : Nat) (hf : c0.Frame [CH_REQ, CH_RESULT, CH_IRQ_STATUS] c)
    (he : { c with regs := c0.regs, ctl := c0.ctl, answers := c0.answers } = c0) : let d := c.refusalUndone last flag
    d.g CH_RESULT_LAST_REFUSAL = last % 2 ^ 5 ∧ d.g CH_IRQ_STATUS_ARM_REFUSED = flag % 2 ∧ d.b CH_RESULT_REQ_DISCARDED = true ∧
      c0.Frame [CH_REQ, CH_RESULT, CH_IRQ_STATUS] d ∧ { d with regs := c0.regs, ctl := c0.ctl, answers := c0.answers } = c0 := by
  refine ⟨?_, ?_, ?_, frame_answers _ ?_, ?_⟩
  · rw [Chan.refusalUndone, Chan.g_answers, Chan.refusalBack, Chan.reqDiscard, Chan.g_p_other _ _ _ _ rfl rfl rfl, Chan.g_p_reg _ _ _ _ (by decide), Chan.g_p_same _ _ _ rfl]
    rfl
  · rw [Chan.refusalUndone, Chan.g_answers, Chan.refusalBack, Chan.reqDiscard, Chan.g_p_reg _ _ _ _ (by decide), Chan.g_p_same _ _ _ rfl]
    rfl
  · rw [Chan.refusalUndone, Chan.b_answers, Chan.refusalBack, Chan.reqDiscard_flag]
  · exact frame_reqDiscard (frame_p (frame_p (c := c.onCtl _) hf (by decide)) (by decide)) (by decide)
  · simpa only [Chan.refusalUndone, Chan.refusalBack, Chan.reqDiscard, Chan.p, Chan.wr, Chan.onCtl] using he

/-- Settles O6: by what stands beside the DISARM in its cycle; the take-back of a refused ARM is the model's choice (log 14). -/
theorem disarmAndClear : Obligations.DisarmAndClear := by
  intro s t ch c alone
  refine ⟨?accepted, ?ignored, ?moot, ?undone, ?cancels, ?noted, ?elsewhere⟩
  case accepted =>
    intro hst ha hr
    have ho : c.state ≠ OFF := by rcases hst with h | h | h <;> rw [h] <;> decide
    refine actsOn_live rfl rfl ho ?_
    obtain ⟨x, hx, hd, hat, harm⟩ := disarmTake_accepted hst
    rw [doChReqDisarm_noArm ha, Chan.disarmSeen_alone hr, hx]
    exact ⟨hd, hat, harm.trans ha, Chan.state_p _ (by decide), frame_disarmSeen c, rfl⟩
  case ignored =>
    intro hst ha hr
    have ho : c.state ≠ OFF := by rcases hst with h | ⟨h, -⟩ <;> rw [h] <;> decide
    refine actsOn_live rfl rfl ho ?_
    have hn : c.disarmSeen.disarmTake c = c.disarmSeen := by
      rcases hst with h | ⟨h, hc⟩
      · simp [Chan.disarmTake, h, PRIMED, ARMED, RUN, HOLD, FAULT]
      · simp [Chan.disarmTake, h, hc, ARMED, RUN, HOLD, FAULT]
    rw [doChReqDisarm_noArm ha, Chan.disarmSeen_alone hr, hn]
    exact ⟨rfl, frame_disarmSeen c, rfl⟩
  case moot =>
    intro hst hc ha
    refine actsOn_live rfl rfl (by rw [hst]; decide) ?_
    have hn : c.disarmSeen.unrefuse.disarmTake c = c.disarmSeen.unrefuse.reqDiscard := by
      simp [Chan.disarmTake, hst, hc, ARMED, RUN, HOLD, FAULT]
    rw [doChReqDisarm_noArm ha, hn]
    refine ⟨Chan.reqDiscard_flag _, ?_, ?_⟩
    · rw [Chan.reqDiscard_ctl, Chan.unrefuse_ctl]
      rfl
    · calc c.disarmSeen.unrefuse.reqDiscard.state = c.disarmSeen.unrefuse.state := Chan.reqDiscard_state _
        _ = c.disarmSeen.state := Chan.unrefuse_state _
        _ = c.state := Chan.state_p _ (by decide)
        _ = FAULT := hst
  case undone =>
    intro u last flag hst ha hr hu
    refine actsOn_live rfl rfl (by rw [hst]; decide) ?_
    have hn : (c.disarmSeen.refusalUndone last flag).disarmTake c = c.disarmSeen.refusalUndone last flag := by
      simp [Chan.disarmTake, hst, PRIMED, ARMED, RUN, HOLD, FAULT]
    rw [doChReqDisarm_noArm ha, Chan.unrefuse_undone (c := c.disarmSeen) hr hu, hn]
    exact refusalUndone_restores c.disarmSeen last flag (frame_mono (frame_disarmSeen c) (by decide)) rfl
  case cancels =>
    intro a ho ha hr
    refine actsOn_live rfl rfl ho ?_
    rw [doChReqDisarm_arm ha hr]
    obtain ⟨harm, hat⟩ := Chan.disarmTake_ctl (c.disarmSeen.armCancel a) c
    have h : c.disarmSeen.Reacts false ((c.disarmSeen.armCancel a).disarmTake c) := react_trans (react_armCancel _ _) (react_disarmTake _ _)
    refine ⟨?_, ?_, ?_, kept_react (kept_trans (kept_p _ _ _) (kept_onCtl _ _)) h⟩
    · rw [harm, Chan.armCancel_ctl]
    · rw [hat, Chan.armCancel_ctl]
      rfl
    · exact frame_react (l := [CH_REQ, CH_RESULT]) (frame_mono (frame_disarmSeen c) (by decide)) h
  case noted =>
    intro hst
    refine actsOn_live rfl rfl (by rw [hst]; decide) ?_
    obtain ⟨x, hx, -, -, -, hc⟩ := transCheck_eq ((c.p CH_REQ_CLEAR_FAULT 0).onCtl (fun x => { x with clr := true }))
    rw [doChReqClearFault_fault hst, hx]
    exact ⟨hc, (Chan.state_p _ (by decide)).trans hst, frame_p (frame_refl _ _) (by decide), rfl⟩
  case elsewhere =>
    intro ho hf
    refine actsOn_live rfl rfl ho ?_
    rw [doChReqClearFault, if_neg hf]
    exact Chan.regsOnly_wr _ _ _

/-! ### What a frame leaves of the fields of other registers -/

theorem Chan.Frame.g {l : List Nat} {c d : Chan} (h : c.Frame l d) {f : Fld} (hf : f.reg ∉ l) : d.g f = c.g f := by rw [Chan.g, h _ hf, Chan.g]
theorem Chan.Frame.b {l : List Nat} {c d : Chan} (h : c.Frame l d) {f : Fld} (hf : f.reg ∉ l) : d.b f = c.b f := by rw [Chan.b, h.g hf, Chan.b]
theorem Chan.Frame.gi {l : List Nat} {c d : Chan} (h : c.Frame l d) {f : Fld} (hf : f.reg ∉ l) : d.gi f = c.gi f := by rw [Chan.gi, h.g hf, Chan.gi]
theorem Chan.Frame.gb {l : List Nat} {c d : Chan} (h : c.Frame l d) {f : Fld} (hf : f.reg ∉ l) (i : Nat) : d.gb f i = c.gb f i := by rw [Chan.gb, h.g hf, Chan.gb]

/-! An answer writes no register. -/
@[simp] theorem Chan.armAnswer_ctl (c : Chan) (st : Nat) : (c.armAnswer st).ctl = c.ctl := rfl
@[simp] theorem Chan.b_armAnswer (c : Chan) (st : Nat) (f : Fld) : (c.armAnswer st).b f = c.b f := rfl
@[simp] theorem Chan.state_armAnswer (c : Chan) (st : Nat) : (c.armAnswer st).state = c.state := rfl

/-! ### Transitions with a delay, the lapse of the stream, HOLD (R51, R57, R530) -/

/-- Settles O8: by the state that each event judges. -/
theorem stateTransitions : Obligations.StateTransitions := by
  intro s t ch c
  refine ⟨?taken, ?kept, ?lapse, ?hold, ?elsewhere⟩
  case taken =>
    intro tr ho htr hb hs hw hd
    refine actsOn_live rfl rfl ho ?_
    have e : doTransitionDelayExpiry c = c.enterPrimed := by
      simp only [doTransitionDelayExpiry, htr]
      rw [if_neg (by simp [hb, hs, hw, hd]), if_neg (by rw [hd]; decide)]
    rw [e]
    exact ⟨state_enterPrimed c, frame_reacts (react_enterPrimed c), kept_reacts (react_enterPrimed c)⟩
  case kept =>
    intro tr ho htr h
    refine actsOn_live rfl rfl ho ?_
    have e : doTransitionDelayExpiry c = if c.dtc.boundAt ≠ c.now ∨ !c.since tr.since (ms 1) ∨ c.wanted ≠ some tr.dest then c
        else if tr.dest = HOLD then c.enterHold 2 else c.enterPrimed := by simp only [doTransitionDelayExpiry, htr]
    rw [e, if_pos (by simpa only [Bool.not_eq_true'] using h)]
  case lapse =>
    intro hr hs ha
    refine actsOn_live rfl rfl (by rw [hr]; decide) ?_
    have f : c.Frame [CH_IRQ_STATUS] (c.p CH_IRQ_STATUS_STREAM_LAPSE 1) := frame_p (frame_refl _ _) (by decide)
    have k : c.Reacts false ((c.p CH_IRQ_STATUS_STREAM_LAPSE 1).raise STREAM_LAPSE) :=
      react_raise (react_p (react_refl c) (by decide) (by decide) (by decide))
    have hst : (c.p CH_IRQ_STATUS_STREAM_LAPSE 1).state ≠ OFF := by rw [Chan.state_p _ (by decide), hr]; decide
    have hac : (c.p CH_IRQ_STATUS_STREAM_LAPSE 1).srcActive STREAM_LAPSE = false := by rw [Chan.srcActive, f _ (by decide)]; exact ha
    have hse : (c.p CH_IRQ_STATUS_STREAM_LAPSE 1).sevOf STREAM_LAPSE = c.sevOf STREAM_LAPSE := sevOf_congr _ (f _ (by decide))
    rw [doStreamLapse, if_pos ⟨hr, hs, ha⟩]
    refine ⟨raise_latched _ _ (by decide) hst hac, frame_reacts k, kept_reacts k, fun h3 => ?_⟩
    exact raise_fault _ _ hst hac (hse.symm ▸ h3) (by decide)
  case hold =>
    intro hr hs hp hl hsp hn
    refine actsOn_live rfl rfl (by rw [hr]; decide) ?_
    rw [doLapseHold, if_pos ⟨hr, hs⟩]
    exact ⟨state_enterHold c 1 (by rw [hr]; decide) hp hl hsp hn, frame_reacts (react_enterHold c 1), kept_reacts (react_enterHold c 1)⟩
  case elsewhere =>
    intro ho hr
    refine ⟨actsOn_live rfl rfl ho ?_, actsOn_live rfl rfl ho ?_⟩
    · exact if_neg fun h => hr h.1
    · exact if_neg fun h => hr h.1

/-! ### The ARM sequence (R55, R56) -/

/-- The source voltage reported (R293) changes PRE_STATUS alone. -/
theorem Chan.regsOnly_preReport (c : Chan) : c.RegsOnly [PRE_STATUS] c.preReport := by
  have h1 : ∀ d : Chan, c.RegsOnly [PRE_STATUS] d → ∀ v, c.RegsOnly [PRE_STATUS] (d.wr PRE_STATUS v) :=
    fun d hd v => regsOnly_of (frame_wr hd.1 (by decide)) hd.2
  unfold Chan.preReport
  extract_lets c1
  have h : c.RegsOnly [PRE_STATUS] c1 := by
    unfold c1
    split
    · exact h1 c ⟨frame_refl _ _, rfl⟩ _
    · exact ⟨frame_refl _ _, rfl⟩
  clear_value c1
  split
  · exact h1 c1 h _
  · exact h

section
variable {c d : Chan} (h : c.RegsOnly [PRE_STATUS] d)
include h

theorem Chan.RegsOnly.since (u n : Nat) : d.since u n = c.since u n := (congrArg (fun x : Chan => x.since u n) h.2 :)
theorem Chan.RegsOnly.now : d.now = c.now := (congrArg Chan.now h.2 :)
theorem Chan.RegsOnly.ctl : d.ctl = c.ctl := (congrArg Chan.ctl h.2 :)
theorem Chan.RegsOnly.msio : d.msio = c.msio := (congrArg Chan.msio h.2 :)
theorem Chan.RegsOnly.modul : d.modul = c.modul := (congrArg Chan.modul h.2 :)

theorem holdContactors_preStatus : d.holdContactors = c.holdContactors := by
  simp only [Chan.holdContactors, Chan.fitted, h.1.gb (f := CONT_STATUS_CFB) (by decide), h.1.g (f := MSIO_CTL_AUX_MODE) (by decide),
    h.1.b (f := MSIO_CTL_PRE_EN) (by decide), h.1.g (f := CONT_STATUS_WELD) (by decide)]

theorem preSource_preStatus : d.preSource = c.preSource := by
  simp only [Chan.preSource, h.1.b (f := PRE_SRC_EN) (by decide), h.1.gi (f := PRE_SRC_VNOM) (by decide), h.msio, h.since]

theorem dcl_preStatus : d.dcl = c.dcl := by
  have hi : ∀ n k, d.gi (INJ_RES_RESULT (n % 4) (k % 4)) = c.gi (INJ_RES_RESULT (n % 4) (k % 4)) := fun n k => h.1.gi (by
    have : INJ_RES (n % 4) (k % 4) < PRE_STATUS := by unfold INJ_RES PRE_STATUS; omega
    simpa [INJ_RES_RESULT] using this.ne)
  simp only [Chan.dcl, h.1.g (f := XC_MAP_DCL) (by decide), hi]

theorem preLevel_preStatus : d.preLevel = c.preLevel := by
  simp only [Chan.preLevel, preSource_preStatus h, dcl_preStatus h, h.1.g (f := PRE_CFG_PCT) (by decide)]

theorem primerPre_preStatus : d.primerPre = c.primerPre := by
  have hs : ∀ s < 6, SL_STATUS s ∉ [PRE_STATUS] := by decide
  have hr : (List.range 6).all (fun s => d.b (SL_STATUS_READY s) && !d.b (SL_STATUS_LATCHED s)) =
      (List.range 6).all (fun s => c.b (SL_STATUS_READY s) && !c.b (SL_STATUS_LATCHED s)) :=
    Bool.eq_iff_iff.2 <| by
      simp only [List.all_eq_true, List.mem_range]
      exact forall₂_congr fun s hm => by rw [h.1.b (f := SL_STATUS_READY s) (hs s hm), h.1.b (f := SL_STATUS_LATCHED s) (hs s hm)]
  have he : d.enOut = c.enOut := funext fun p => by
    rw [Chan.enOut, h.1.gb (f := EN_STATUS_EN_INT) (by decide), h.1.gb (f := EN_STATUS_EN_PIN) (by decide), h.modul, Chan.enOut]
  rw [Chan.primerPre, hr, he, Chan.primerPre]
end

/-- The step of a running sequence whose slices meet the conditions of the primer test begins the test (R55, R230). -/
theorem primerStart_begins {c : Chan} (h : c.primerPre = true) :
    c.primerStart = ((c.wr PRIMER_RES 0).p PRIMER_RES_RUNNING 1).onMod (fun m => { m with primer := some ⟨0, c.now, none, none, [], false⟩ }) := by
  unfold Chan.primerStart
  extract_lets c1
  have hn : c1.now = c.now := (Chan.p_now _ _ _).trans (Chan.wr_now _ _ _)
  rw [if_pos h, Chan.primerPhase, hn]

theorem react_armFail {q : Bool} {c0 c : Chan} (h : c0.Reacts q c) : c0.Reacts q c.armFail := by
  unfold Chan.armFail
  split
  · exact react_armAnswer (react_p (react_armEnd h) (by decide) (by decide) (by decide))
  · exact h

/-- A failed step ends the sequence with ARM_REFUSED (R56). -/
theorem armFail_ends {c : Chan} (ha : c.ctl.arm.isSome) : c.armFail.ctl.arm = none ∧ c.armFail.b CH_IRQ_STATUS_ARM_REFUSED = true := by
  have e : c.armFail = (c.armEnd.p CH_IRQ_STATUS_ARM_REFUSED 1).armAnswer 0x1C := by rw [Chan.armFail, if_pos ha]
  rw [e]
  refine ⟨?_, (Chan.b_armAnswer _ _ _).trans (Chan.b_p_one _ _ rfl)⟩
  rw [Chan.armAnswer_ctl, Chan.p_ctl, ctl_armEnd]

/-- The last step's clean-up before ARMED is entered. -/
def Chan.armDone (c : Chan) : Chan := ((c.onCtl (fun x => { x with arm := none })).onMsio (fun m => { m with preAt := none })).p PRE_STATUS_PHASE 0

theorem react_armDone (c : Chan) : c.Reacts false c.armDone :=
  react_p (react_onMsio (react_onCtl (react_refl c) (fun _ => rfl))) (by decide) (by decide) (by decide)

theorem armSequenceEnd_armed {c : Chan} (h : c.lockBroken = false) (ha : c.armAt = some .ready) : doArmSequenceEnd c = c.armDone.enterArmed.armAnswer 0 := by
  rw [doArmSequenceEnd, if_neg (by simp [h]), if_pos ha, Chan.armDone]

theorem armSequenceEnd_broken {c : Chan} (h : c.lockBroken = true) : doArmSequenceEnd c = c.armFail := if_pos h

section
variable {c : Chan} {a : ArmSeq} (ha : c.ctl.arm = some a)
include ha

theorem armWeldCheckEnd_closed (hst : a.step = .check) (hd : c.cfbDeb = true) (hf : a.fromHold = false) :
    doArmWeldCheckEnd c = if !c.cfbOpen then c.armFail else (c.armStep .primer).primerStart := by
  simp only [doArmWeldCheckEnd, ha]
  rw [if_neg (by simp [hst, hd]), if_neg (by simp [hf])]

theorem armWeldCheckEnd_hold (hst : a.step = .check) (hd : c.cfbDeb = true) (hf : a.fromHold = true) :
    doArmWeldCheckEnd c = if !c.preReport.holdContactors then c.preReport.armFail
      else if !c.preReport.preLevel then (c.preReport.armRefuse.pulse PRECHARGE_FAIL).armFail
      else (c.preReport.armStep .primer).primerStart := by
  simp only [doArmWeldCheckEnd, ha]
  rw [if_neg (by simp [hst, hd]), if_pos hf]
end

/-! ### The record of a time-out under the reaction to sources

Of the reaction only `reqDiscard` writes CH_RESULT, and it writes another bit. -/

/-- CH_RESULT.ARM_TIMEOUT. -/
def Chan.armLate (c : Chan) : Bool := c.b CH_RESULT_ARM_TIMEOUT

theorem armLate_wr (c : Chan) (v : Nat) {a : Nat} (h : CH_RESULT ≠ a) : (c.wr a v).armLate = c.armLate := by
  rw [Chan.armLate, Chan.b, Chan.g_wr_reg _ _ _ _ h, Chan.armLate, Chan.b]
theorem armLate_p (c : Chan) (v : Nat) {f : Fld} (h : CH_RESULT ≠ f.reg) : (c.p f v).armLate = c.armLate := armLate_wr _ _ h
theorem armLate_pb (c : Chan) (i : Nat) (v : Bool) {f : Fld} (h : CH_RESULT ≠ f.reg) : (c.pb f i v).armLate = c.armLate := armLate_wr _ _ h
theorem armLate_satInc (c : Chan) {f : Fld} (h : CH_RESULT ≠ f.reg) : (c.satInc f).armLate = c.armLate := armLate_wr _ _ h
theorem armLate_wrapInc (c : Chan) {f : Fld} (h : CH_RESULT ≠ f.reg) : (c.wrapInc f).armLate = c.armLate := armLate_wr _ _ h

@[simp] theorem armLate_onCtl (c : Chan) (f : Ctl → Ctl) : (c.onCtl f).armLate = c.armLate := rfl
@[simp] theorem armLate_onMod (c : Chan) (f : Modul → Modul) : (c.onMod f).armLate = c.armLate := rfl
@[simp] theorem armLate_onProt (c : Chan) (f : Prot → Prot) : (c.onProt f).armLate = c.armLate := rfl
@[simp] theorem armLate_onDust (c : Chan) (f : Dust → Dust) : (c.onDust f).armLate = c.armLate := rfl
@[simp] theorem armLate_onMsio (c : Chan) (f : Msio → Msio) : (c.onMsio f).armLate = c.armLate := rfl
@[simp] theorem armLate_onLife (c : Chan) (f : Life → Life) : (c.onLife f).armLate = c.armLate := rfl
@[simp] theorem armLate_onDtc (c : Chan) (f : Dtc → Dtc) : (c.onDtc f).armLate = c.armLate := rfl
@[simp] theorem armLate_onSl (c : Chan) (s : Nat) (f : SliceSt → SliceSt) : (c.onSl s f).armLate = c.armLate := rfl
@[simp] theorem armLate_evt (c : Chan) (t b i s x y : Nat) : (c.evt t b i s x y).armLate = c.armLate := rfl
@[simp] theorem armLate_srcEvt (c : Chan) (t : Nat) (s : Src) : (c.srcEvt t s).armLate = c.armLate := rfl
@[simp] theorem armLate_answer (c : Chan) (op : ChOp) (st : Nat) (w : List Nat) : (c.answer op st w).armLate = c.armLate := rfl
@[simp] theorem armLate_armAnswer (c : Chan) (st : Nat) : (c.armAnswer st).armLate = c.armLate := rfl
@[simp] theorem armLate_legChange (c : Chan) (p : Nat) (t : Tick) (pu : Bool) : (c.legChange p t pu).armLate = c.armLate := rfl
@[simp] theorem armLate_recordLeg (c : Chan) (p : Nat) (t : Tick) : (c.recordLeg p t).armLate = c.armLate := rfl
theorem armLate_obsMask (c : Chan) (o : Obs) (m : Mask) : ({ c with obs := o, mask := m } : Chan).armLate = c.armLate := rfl

theorem armLate_foldl {α : Type} {f : Chan → α → Chan} {l : List α} (hf : ∀ d x, (f d x).armLate = d.armLate) (c : Chan) :
    (l.foldl f c).armLate = c.armLate := by
  induction l generalizing c with
  | nil => rfl
  | cons x l ih => exact (ih _).trans (hf _ _)

theorem armLate_each {n : Nat} {f : Chan → Nat → Chan} (hf : ∀ d x, (f d x).armLate = d.armLate) (c : Chan) : (c.each n f).armLate = c.armLate :=
  armLate_foldl hf c

theorem armLate_ite {q : Prop} [Decidable q] {x y : Chan} {b : Bool} (hx : x.armLate = b) (hy : y.armLate = b) : (if q then x else y).armLate = b := by
  split_ifs
  · exact hx
  · exact hy

@[simp] theorem armLate_reqDiscard (c : Chan) : c.reqDiscard.armLate = c.armLate := Chan.b_p_other _ _ _ _ rfl rfl rfl
@[simp] theorem armLate_armDiscard (c : Chan) : c.armDiscard.armLate = c.armLate := by
  rw [Chan.armDiscard, armLate_armAnswer, armLate_reqDiscard]
@[simp] theorem armLate_armLost (c : Chan) (arm : Option ArmSeq) : (c.armLost arm).armLate = c.armLate := by
  cases arm with
  | none => rfl
  | some a => exact armLate_ite (armLate_armDiscard c) rfl

theorem result_ne_src (blk : Nat) : CH_RESULT ≠ (srcRegs blk).src := by unfold srcRegs; split <;> decide
theorem result_ne_ff (blk i : Nat) (h : i < 16) : CH_RESULT ≠ (srcRegs blk).ff + i := by
  unfold srcRegs
  split <;> revert i <;> decide

@[simp] theorem armLate_capture (c : Chan) (s : Src) (seq slice : Nat) : (c.capture s seq slice).armLate = c.armLate := by
  have h := result_ne_ff s.blk
  have h0 : ∀ v, (c.wr (srcRegs s.blk).ff v).armLate = c.armLate := fun v => armLate_wr _ _ (h 0 (by decide))
  unfold Chan.capture
  dsimp only
  split_ifs
  · exact h0 _
  all_goals rw [armLate_wr _ _ (h 12 (by decide)), armLate_wr _ _ (h 8 (by decide)), armLate_wr _ _ (h 4 (by decide)), h0]
@[simp] theorem armLate_srcOn (c : Chan) (s : Src) (slice : Nat) : (c.srcOn s slice).armLate = c.armLate := by
  have h : ∀ v, (c.wr (srcRegs s.blk).src v).armLate = c.armLate := fun v => armLate_wr _ _ (result_ne_src _)
  exact (armLate_srcEvt _ _ _).trans (armLate_ite ((armLate_capture _ _ _ _).trans (h _)) (h _))
@[simp] theorem armLate_srcOff (c : Chan) (s : Src) : (c.srcOff s).armLate = c.armLate := armLate_wr _ _ (result_ne_src _)
@[simp] theorem armLate_offIf (c : Chan) (s : Src) : (c.offIf s).armLate = c.armLate := armLate_ite (armLate_srcOff c s) rfl

/-! Gate drive (R203, R205, R212) -/

theorem result_ne_slStatus (s : Nat) : CH_RESULT ≠ SL_STATUS s := by unfold CH_RESULT SL_STATUS; omega

@[simp] theorem armLate_wire (c : Chan) (s : Nat) (t : Tick) (pu en : Bool) : (c.wire s t pu en).armLate = c.armLate :=
  armLate_ite rfl ((armLate_p _ _ (result_ne_slStatus s)).trans (armLate_p _ _ (result_ne_slStatus s)))
@[simp] theorem armLate_edgeOut (c : Chan) (p : Nat) (t : Tick) (pu en : Bool) : (c.edgeOut p t pu en).armLate = c.armLate := by
  unfold Chan.edgeOut
  rw [armLate_onMod]
  exact armLate_foldl (fun d s => by rw [armLate_onSl, armLate_wire]) c
@[simp] theorem armLate_sendPairAt (c : Chan) (p : Nat) (t : Tick) : (c.sendPairAt p t).armLate = c.armLate :=
  armLate_ite rfl (armLate_ite ((armLate_recordLeg _ _ _).trans (armLate_edgeOut _ _ _ _ _)) (armLate_edgeOut _ _ _ _ _))
@[simp] theorem armLate_setPair (c : Chan) (p : Nat) (en pu : Bool) : (c.setPair p en pu).armLate = c.armLate := by
  have h : (if p < 3 ∧ c.pulseOf p ≠ pu then c.legChange p c.now pu else c).armLate = c.armLate := armLate_ite rfl rfl
  exact (armLate_sendPairAt _ _ _).trans ((armLate_pb _ _ _ (by decide)).trans ((armLate_pb _ _ _ (by decide)).trans h))
@[simp] theorem armLate_setLegs (c : Chan) (en pu : Nat) : (c.setLegs en pu).armLate = c.armLate := armLate_each (fun d p => armLate_setPair d p _ _) c
@[simp] theorem armLate_legsOff (c : Chan) : c.legsOff.armLate = c.armLate := armLate_each (fun d p => armLate_setPair d p _ _) c
@[simp] theorem armLate_togglePair (c : Chan) (p : Nat) : (c.togglePair p).armLate = c.armLate := by
  unfold Chan.togglePair
  simp [apply_ite Chan.armLate]
@[simp] theorem armLate_setDchgOut (c : Chan) (on : Bool) : (c.setDchgOut on).armLate = c.armLate := armLate_ite rfl (armLate_wire _ _ _ _ _)

/-! Contactors, discharge, the ARM sequence (R250, R287, R292) -/

@[simp] theorem armLate_cmpCont (c : Chan) (n : Nat) : (c.cmpCont n).armLate = c.armLate := by
  have h : ∀ v (f : Msio → Msio), ((c.pb CONT_STATUS_DISCREP (n - 1) v).onMsio f).armLate = c.armLate := fun v f =>
    (armLate_onMsio _ _).trans (armLate_pb _ _ _ (by decide))
  exact armLate_ite ((armLate_srcOff _ _).trans (h _ _)) (h _ _)
@[simp] theorem armLate_setCdrv (c : Chan) (n : Nat) (v : Bool) : (c.setCdrv n v).armLate = c.armLate :=
  armLate_ite rfl ((armLate_cmpCont _ _).trans (armLate_pb _ _ _ (by decide)))
@[simp] theorem armLate_cdrvAllLow (c : Chan) : c.cdrvAllLow.armLate = c.armLate := by simp [Chan.cdrvAllLow]
@[simp] theorem armLate_openMask (c : Chan) (m : Nat) : (c.openMask m).armLate = c.armLate :=
  armLate_each (fun d _ => armLate_ite (armLate_setCdrv d _ _) rfl) c
@[simp] theorem armLate_dchgTry (c : Chan) : c.dchgTry.armLate = c.armLate := by
  unfold Chan.dchgTry
  split
  · rfl
  · exact armLate_ite rfl ((armLate_setDchgOut _ _).trans (armLate_p _ _ (by decide)))
@[simp] theorem armLate_dchgAsk (c : Chan) (s4 pin cmd : Bool) : (c.dchgAsk s4 pin cmd).armLate = c.armLate := by
  unfold Chan.dchgAsk
  split_ifs
  · rfl
  all_goals split
  · rfl
  · rw [armLate_dchgTry, armLate_p _ _ (by decide), armLate_onProt, armLate_srcOff]
  · rfl
  · rw [armLate_dchgTry, armLate_p _ _ (by decide), armLate_onProt]
@[simp] theorem armLate_primerAbort (c : Chan) : c.primerAbort.armLate = c.armLate := armLate_ite (armLate_p _ _ (by decide)) rfl
@[simp] theorem armLate_armEnd (c : Chan) : c.armEnd.armLate = c.armLate := by
  unfold Chan.armEnd
  split
  · rfl
  · rw [armLate_primerAbort]
    split_ifs
    · rw [armLate_onMsio, armLate_onCtl, armLate_openMask]
    · rw [armLate_p _ _ (by decide), armLate_onMsio, armLate_onCtl, armLate_openMask]

/-! The change of state (R50, R51) -/

@[simp] theorem armLate_maskReport (c : Chan) : c.maskReport.armLate = c.armLate := by
  have h : ∀ v, (c.p MASK_STATUS_PW v).armLate = c.armLate := fun v => armLate_p _ _ (by decide)
  exact armLate_ite (h _) ((armLate_p _ _ (by decide)).trans (h _))
@[simp] theorem armLate_nfaultSet (c : Chan) : c.nfaultSet.armLate = c.armLate := rfl
@[simp] theorem armLate_leaveFault (c : Chan) : c.leaveFault.armLate = c.armLate := by
  rw [Chan.leaveFault, armLate_each (fun d p => armLate_ite (armLate_togglePair d p) rfl), armLate_onCtl]
  simp (disch := decide) only [armLate_p]
@[simp] theorem armLate_leaveRun (c : Chan) : c.leaveRun.armLate = c.armLate := by
  unfold Chan.leaveRun
  extract_lets c1 c2 c3 c4 c5
  have h1 : c1.armLate = c.armLate := (armLate_foldl (fun d x => armLate_offIf d x) _).trans (armLate_offIf c _)
  clear_value c1
  have h2 : c2.armLate = c.armLate := armLate_ite h1 ((armLate_offIf c1 _).trans h1)
  clear_value c2
  have h3 : c3.armLate = c.armLate := by
    rw [armLate_maskReport, armLate_p _ _ (by decide), armLate_p _ _ (by decide), armLate_p _ _ (by decide), h2]
  clear_value c3
  have h4 : c4.armLate = c.armLate := (armLate_onDtc _ _).trans h3
  clear_value c4
  have h5 : c5.armLate = c.armLate := armLate_ite (by rw [armLate_p _ _ (by decide), armLate_p _ _ (by decide), h4]) h4
  clear_value c5
  exact (armLate_obsMask _ _ _).trans h5
@[simp] theorem armLate_engineIdle (c : Chan) : c.engineIdle.armLate = c.armLate :=
  (armLate_offIf _ _).trans ((armLate_wr _ _ (by decide)).trans (armLate_wr _ _ (by decide)))
@[simp] theorem armLate_setState (c : Chan) (st cause : Nat) : (c.setState st cause).armLate = c.armLate := by
  unfold Chan.setState
  extract_lets old c1 c2 c3 c4 c5 moot c6 c7 c8
  have h1 : c1.armLate = c.armLate := by simp (disch := decide) only [c1, armLate_p]
  clear_value c1
  have h2 : c2.armLate = c.armLate := (armLate_onLife _ _).trans ((armLate_evt _ _ _ _ _ _ _).trans h1)
  clear_value c2
  have h3 : c3.armLate = c.armLate := armLate_ite ((armLate_leaveRun _).trans h2) h2
  clear_value c3
  have h4 : c4.armLate = c.armLate := armLate_ite h3 ((armLate_offIf _ _).trans h3)
  clear_value c4
  have h5 : c5.armLate = c.armLate := armLate_ite h4 ((armLate_offIf _ _).trans h4)
  clear_value c5
  have h6 : c6.armLate = c.armLate := (armLate_onCtl _ _).trans (armLate_ite ((armLate_reqDiscard _).trans h5) h5)
  clear_value c6
  have h7 : c7.armLate = c.armLate := armLate_ite ((armLate_engineIdle _).trans h6) h6
  clear_value c7
  exact (armLate_nfaultSet _).trans (armLate_ite ((armLate_leaveFault _).trans h7) h7)
@[simp] theorem armLate_enterFault (c : Chan) : c.enterFault.armLate = c.armLate := by
  have h : ∀ d : Chan, (d.p ACK_STATUS_ACK_SEEN 0).armLate = d.armLate := fun d => armLate_p _ _ (by decide)
  simp [Chan.enterFault, h]

/-! The arrival of a source, the selection of the safe state (R262, R263, R274) -/

@[simp] theorem armLate_captureCause (c : Chan) (s : Src) (sev seq time : Nat) : (c.captureCause s sev seq time).armLate = c.armLate := by
  simp (disch := decide) only [Chan.captureCause, armLate_wr]
@[simp] theorem armLate_ringTrigger (c : Chan) (time cause seq : Nat) : (c.ringTrigger time cause seq).armLate = c.armLate := by
  unfold Chan.ringTrigger
  split <;> rfl
@[simp] theorem armLate_ringRename (c : Chan) (seq : Nat) : (c.ringRename seq).armLate = c.armLate := by
  unfold Chan.ringRename
  split
  · exact armLate_ite rfl rfl
  · rfl
@[simp] theorem armLate_beginHold (c : Chan) (kind : Nat) : (c.beginHold kind).armLate = c.armLate := by
  unfold Chan.beginHold
  split_ifs
  · rfl
  · rfl
  · rw [armLate_satInc _ (by decide), armLate_wrapInc _ (by decide), armLate_pb _ _ _ (by decide), armLate_p _ _ (by decide), armLate_onDust]
  · rfl
  · rw [armLate_pb _ _ _ (by decide), armLate_p _ _ (by decide), armLate_onDust]
@[simp] theorem armLate_s4Requests (c : Chan) : c.s4Requests.armLate = c.armLate := by
  unfold Chan.s4Requests
  extract_lets c1
  have h1 : c1.armLate = c.armLate := (armLate_cdrvAllLow _).trans ((armLate_p _ _ (by decide)).trans (armLate_p _ _ (by decide)))
  clear_value c1
  exact (armLate_dchgAsk _ _ _ _).trans ((armLate_onLife _ _).trans ((armLate_onDust _ _).trans h1))
@[simp] theorem armLate_arrive (c : Chan) (s : Src) (seq : Nat) : (c.arrive s seq).armLate = c.armLate := by
  have h : ∀ d : Chan, (d.p DUST_CAUSE_OVF 1).armLate = d.armLate := fun d => armLate_p _ _ (by decide)
  simp [Chan.arrive, apply_ite Chan.armLate, h]
@[simp] theorem armLate_pulse0 (c : Chan) (s : Src) : (c.pulse0 s).armLate = c.armLate := by simp [Chan.pulse0, apply_ite Chan.armLate]
@[simp] theorem armLate_commitCode (c : Chan) (code : Nat) : (c.commitCode code).armLate = c.armLate :=
  (armLate_p _ _ (by decide)).trans (armLate_p _ _ (by decide))
@[simp] theorem armLate_cancelCommit (c : Chan) (code : Nat) : (c.cancelCommit code).armLate = c.armLate := by
  unfold Chan.cancelCommit
  split
  · rfl
  · simp
@[simp] theorem armLate_raise0 (c : Chan) (s : Src) : (c.raise0 s).armLate = c.armLate := by simp [Chan.raise0, apply_ite Chan.armLate]
@[simp] theorem armLate_windEnd (c : Chan) (st : Nat) : (c.windEnd st).armLate = c.armLate := armLate_ite (armLate_p _ _ (by decide)) rfl
@[simp] theorem armLate_windAbort (c : Chan) : c.windAbort.armLate = c.armLate := by simp [Chan.windAbort, apply_ite Chan.armLate]
@[simp] theorem armLate_reacqLeave (c : Chan) : c.reacqLeave.armLate = c.armLate :=
  armLate_ite ((armLate_p _ _ (by decide)).trans (armLate_p _ _ (by decide))) rfl
@[simp] theorem armLate_applySel (c : Chan) : c.applySel.armLate = c.armLate := by
  unfold Chan.applySel
  simp (disch := decide) [apply_ite Chan.armLate, armLate_p, armLate_wrapInc]
@[simp] theorem armLate_reselect (c : Chan) : c.reselect.armLate = c.armLate := by simp [Chan.reselect, apply_ite Chan.armLate]
@[simp] theorem armLate_transCheck (c : Chan) : c.transCheck.armLate = c.armLate := by
  obtain ⟨x, hx, -⟩ := transCheck_eq c
  rw [hx]
  rfl
@[simp] theorem armLate_pulse (c : Chan) (s : Src) : (c.pulse s).armLate = c.armLate := by
  simp [Chan.pulse, Chan.pulseSl, apply_ite Chan.armLate]

/-! ### The ends of the ARM sequence (R55, R56) -/

theorem Chan.RegsOnly.kept {l : List Nat} {c d : Chan} (h : c.RegsOnly l d) : c.Kept d := by
  have e := h.2
  rw [← e]
  exact ⟨rfl, rfl, rfl, rfl, rfl, rfl, rfl, rfl, rfl, rfl, rfl, rfl, fun _ => rfl⟩

theorem Chan.wr_rest (c : Chan) (a v : Nat) (r : RegMap) (x : Ctl) (m : Modul) :
    ({ c.wr a v with regs := r, ctl := x, modul := m } : Chan) = { c with regs := r, ctl := x, modul := m } := rfl
theorem Chan.p_rest (c : Chan) (f : Fld) (v : Nat) (r : RegMap) (x : Ctl) (m : Modul) :
    ({ c.p f v with regs := r, ctl := x, modul := m } : Chan) = { c with regs := r, ctl := x, modul := m } := rfl

/-- What the step to the primer test leaves: the test of phase U begun, RUNNING, and nothing else (R55, R230). -/
def Chan.InPrimer (c d : Chan) : Prop :=
  d.armAt = some .primer ∧ d.modul.primer = some ⟨0, c.now, none, none, [], false⟩ ∧ d.b PRIMER_RES_RUNNING = true ∧
    c.Frame [PRIMER_RES, PRE_STATUS] d ∧ { d with regs := c.regs, ctl := c.ctl, modul := c.modul } = c

theorem inPrimer_of {c z : Chan} (hf : c.Frame [PRIMER_RES, PRE_STATUS] z) (hb : z.b PRIMER_RES_RUNNING = true) (ha : z.armAt = some .primer)
    (he : { z with regs := c.regs, ctl := c.ctl, modul := c.modul } = c) :
    c.InPrimer (z.onMod (fun m => { m with primer := some ⟨0, c.now, none, none, [], false⟩ })) :=
  ⟨ha, rfl, hb, frame_regs hf rfl, he⟩

/-- What a time-out writes before it reports the source (R56). -/
def Chan.armExpire (c : Chan) : Chan := (c.armEnd.p CH_RESULT_ARM_TIMEOUT 1).p CH_IRQ_STATUS_ARM_REFUSED 1

theorem Chan.armExpire_arm (c : Chan) : c.armExpire.ctl.arm = none := by
  rw [Chan.armExpire, Chan.p_ctl, Chan.p_ctl, ctl_armEnd]

theorem Chan.armExpire_late (c : Chan) : c.armExpire.armLate = true :=
  (armLate_p _ _ (by decide)).trans (Chan.b_p_one _ _ rfl)

theorem react_armExpire (c : Chan) : c.Reacts false c.armExpire :=
  react_p (react_p (react_armEnd (react_refl c)) (by decide) (by decide) (by decide)) (by decide) (by decide) (by decide)

theorem frame_armExpire (c : Chan) : c.Frame [CONT_STATUS, MSIO_SRC_STATUS, PRE_STATUS, PRIMER_RES, CH_RESULT, CH_IRQ_STATUS] c.armExpire :=
  frame_p (frame_p (frame_mono (frame_armEnd c) (by decide)) (by decide)) (by decide)

section
variable {c : Chan} {a : ArmSeq} (ha : c.ctl.arm = some a)
include ha

theorem armWeldCheckEnd_waits (hd : c.cfbDeb = false) : doArmWeldCheckEnd c = c := by
  simp only [doArmWeldCheckEnd, ha]
  rw [if_pos (by simp [hd])]

/-- The first step of a sequence begins the primer test (R55, R230), whatever PRE_STATUS reports. -/
theorem armPrimer_begins {x : Chan} (hr : c.RegsOnly [PRE_STATUS] x) (hp : c.primerPre = true) : c.InPrimer (x.armStep .primer).primerStart := by
  have hx : (x.armStep .primer).primerPre = true := (primerPre_preStatus hr).trans hp
  have hf : c.Frame [PRIMER_RES, PRE_STATUS] (x.armStep .primer) := frame_mono hr.1 (by decide)
  have hc : (x.armStep .primer).armAt = some .primer := by
    rw [Chan.armAt, Chan.armStep, Chan.onCtl_ctl, hr.ctl, ha]
    rfl
  have he : { x.armStep .primer with regs := c.regs, ctl := c.ctl, modul := c.modul } = c :=
    (congrArg (fun y : Chan => { y with ctl := c.ctl, modul := c.modul }) hr.2 :)
  rw [primerStart_begins hx, show (x.armStep .primer).now = c.now from hr.now]
  exact inPrimer_of (frame_p (frame_wr hf (by decide)) (by decide)) (Chan.b_p_one _ _ rfl) (by rw [Chan.armAt, Chan.p_ctl, Chan.wr_ctl]; exact hc)
    (by rw [Chan.p_rest, Chan.wr_rest, he])

theorem armTimeout_expired (h : c.since a.start (cyc (c.g ARM_TIMEOUT_T_COUNT)) = true) :
    doArmTimeout c = (c.armExpire.pulse ARM_TIMEOUT).armAnswer 0x1D := by
  simp only [doArmTimeout, ha]
  rw [if_pos h, Chan.armExpire]

theorem armTimeout_early (h : c.since a.start (cyc (c.g ARM_TIMEOUT_T_COUNT)) = false) : doArmTimeout c = c := by
  simp only [doArmTimeout, ha]
  exact if_neg (by simp [h])
end

/-- Settles O7: by the step that each event finds. -/
theorem armSequence : Obligations.ArmSequence := by
  intro s t ch a c ho ha
  have hsome : c.ctl.arm.isSome := by rw [ha]; rfl
  refine ⟨?tested, ?ended, ?waits, ?armed, ?broken, ?expired, ?early⟩
  case tested =>
    intro hst hd hc hp
    refine actsOn_live rfl rfl ho ?_
    rcases hc with ⟨hf, hc⟩ | ⟨hf, hc, hl⟩
    · rw [armWeldCheckEnd_closed ha hst hd hf, if_neg (by simp [hc])]
      exact armPrimer_begins ha ⟨frame_refl _ _, rfl⟩ hp
    · have hr := c.regsOnly_preReport
      rw [armWeldCheckEnd_hold ha hst hd hf, if_neg (by simp [holdContactors_preStatus hr, hc]), if_neg (by simp [preLevel_preStatus hr, hl])]
      exact armPrimer_begins ha hr hp
  case ended =>
    intro hst hd hc
    refine actsOn_live rfl rfl ho ?_
    rcases hc with ⟨hf, hc⟩ | ⟨hf, hc⟩
    · rw [armWeldCheckEnd_closed ha hst hd hf, if_pos (by rw [hc]; rfl)]
      have h : c.Reacts false c.armFail := react_armFail (react_refl c)
      exact ⟨(armFail_ends hsome).1, (armFail_ends hsome).2, frame_reacts h, kept_reacts h⟩
    · have hr := c.regsOnly_preReport
      rw [armWeldCheckEnd_hold ha hst hd hf, if_pos (by rw [holdContactors_preStatus hr, hc]; rfl)]
      have hs : c.preReport.ctl.arm.isSome := by rw [hr.ctl]; exact hsome
      have h : c.preReport.Reacts false c.preReport.armFail := react_armFail (react_refl _)
      exact ⟨(armFail_ends hs).1, (armFail_ends hs).2, frame_react (l := []) (frame_mono hr.1 (by decide)) h, kept_react hr.kept h⟩
  case waits =>
    intro hst hd
    refine actsOn_live rfl rfl ho ?_
    exact armWeldCheckEnd_waits ha hd
  case armed =>
    intro hst hl hp hu
    refine actsOn_live rfl rfl ho ?_
    rw [armSequenceEnd_armed hl (by rw [Chan.armAt, ha]; exact congrArg some hst)]
    have hpin : c.armDone.g EN_STATUS_EN_PIN = 15 := (Chan.g_p_reg _ _ _ _ (by decide)).trans hp
    have huv : c.armDone.gb DCL_STATUS_CMP 0 = false := (gb_of_g (Chan.g_p_reg _ _ _ _ (by decide))).trans hu
    have h : c.Reacts false c.armDone.enterArmed := react_trans (react_armDone c) (react_enterArmed _)
    have hr := react_armAnswer (st := 0) h
    refine ⟨(Chan.state_armAnswer _ _).trans (state_enterArmed _ hpin huv), ?_, frame_reacts hr, kept_reacts hr⟩
    rw [Chan.armAnswer_ctl]
    exact (react_enterArmed _).noArm (by rw [Chan.armDone, Chan.p_ctl]; rfl)
  case broken =>
    intro hl
    refine actsOn_live rfl rfl ho ?_
    rw [armSequenceEnd_broken hl]
    have h : c.Reacts false c.armFail := react_armFail (react_refl c)
    exact ⟨(armFail_ends hsome).1, (armFail_ends hsome).2, frame_reacts h, kept_reacts h⟩
  case expired =>
    intro hs hact
    refine actsOn_live rfl rfl ho ?_
    have h := react_armExpire c
    have ho' : c.armExpire.state ≠ OFF := by
      rw [Chan.state, (frame_armExpire c).g (f := CH_STATE_STATE) (by decide)]
      exact ho
    have hact' : c.armExpire.srcActive ARM_TIMEOUT = false := by
      rw [Chan.srcActive, frame_armExpire c _ (by decide)]
      exact hact
    have hp : c.armExpire.Reacts false (c.armExpire.pulse ARM_TIMEOUT) := react_pulse (react_refl _)
    have hr : c.Reacts false ((c.armExpire.pulse ARM_TIMEOUT).armAnswer 0x1D) := react_armAnswer (react_trans h hp)
    rw [armTimeout_expired ha hs]
    refine ⟨?_, ?_, ?_, frame_mono (frame_reacts hr) (fun x hx => List.mem_cons_of_mem _ hx), kept_reacts hr⟩
    · rw [Chan.armAnswer_ctl]
      exact hp.noArm c.armExpire_arm
    · rw [Chan.b_armAnswer]
      exact (armLate_pulse _ _).trans c.armExpire_late
    · exact pulse_latched c.armExpire ARM_TIMEOUT (by decide) ho' hact'
  case early =>
    intro hs
    exact actsOn_live rfl rfl ho (armTimeout_early ha hs)

end Sys2Proof.Machine
end

section
/-! PROOFS. Commit requests, the copy of the shadows, the staged references (R62 to R66, R167). -/

namespace Sys2Proof.Machine
open Sys2Proof

/-! ### Answers that are not kept -/

theorem quietly_eq {f : Chan → Chan} {c x : Chan} (hf : f c = x) (hx : x.answers = c.answers) : quietly f c = x := by
  rw [quietly, hf, ← hx]

theorem quietly_answer {f : Chan → Chan} {c x : Chan} {op : ChOp} {st : Nat} {w : List Nat} (hf : f c = x.answer op st w) (hx : x.answers = c.answers) :
    quietly f c = x := by
  rw [quietly, hf, ← hx]
  rfl

/-! ### Commit requests (R63, R64, R66) -/

theorem Chan.p_regsCtl (c : Chan) (f : Fld) (v : Nat) (r : RegMap) (x : Ctl) : ({ c.p f v with regs := r, ctl := x } : Chan) = { c with regs := r, ctl := x } := rfl
theorem Chan.onCtl_regsCtl (c : Chan) (g : Ctl → Ctl) (r : RegMap) (x : Ctl) : ({ c.onCtl g with regs := r, ctl := x } : Chan) = { c with regs := r, ctl := x } := rfl

section
variable {c : Chan} {lc : Nat}

theorem tuningCommit_passes (hg : c.gateCode .tuning = 0) (hv : c.valuesCode .tuning lc = 0) :
    c.tuningCommit lc = (c.p COMMIT_CTL_TUNING_COMMIT 0).commitPend .tuning none := by
  simp [Chan.tuningCommit, hg, hv]

theorem tuningCommit_refused (h : c.gateCode .tuning ≠ 0 ∨ c.valuesCode .tuning lc ≠ 0) :
    ∃ code, c.tuningCommit lc = (c.p COMMIT_CTL_TUNING_COMMIT 0).commitRefuse .commit code := by
  by_cases hg : c.gateCode .tuning = 0
  · exact ⟨c.valuesCode .tuning lc, by simp [Chan.tuningCommit, hg, h.resolve_left (not_not.2 hg)]⟩
  · exact ⟨c.gateCode .tuning, by simp [Chan.tuningCommit, hg]⟩

/-- A safety commit held for its confirmation (R64). -/
def Chan.staged (c : Chan) (id : Option SetId) : Chan :=
  ((c.p COMMIT_CTL_SAFETY_STAGE 0).onCtl (fun x => { x with stage := some ⟨c.rd COMMIT_CRC, c.now, id⟩, stageLapsed := false })).p COMMIT_STATUS_CODE 9

theorem safetyStage_passes (id : Option SetId) (hg : c.gateCode .safety = 0) (hv : c.valuesCode .safety lc = 0) :
    c.safetyStage lc id = (c.staged id).answer .stage 0 [(c.staged id).rd COMMIT_STATUS] := by
  simp [Chan.safetyStage, Chan.staged, hg, hv]

theorem safetyStage_refused (id : Option SetId) (h : c.gateCode .safety ≠ 0 ∨ c.valuesCode .safety lc ≠ 0) :
    ∃ code, c.safetyStage lc id = (c.p COMMIT_CTL_SAFETY_STAGE 0).commitRefuse .stage code := by
  by_cases hg : c.gateCode .safety = 0
  · exact ⟨c.valuesCode .safety lc, by simp [Chan.safetyStage, hg, h.resolve_left (not_not.2 hg)]⟩
  · exact ⟨c.gateCode .safety, by simp [Chan.safetyStage, hg]⟩

theorem safetyConfirm_passes {st : Stage} (hg : c.gateCode .safety = 0) (hs : c.ctl.stage = some st) (ht : c.since st.at_ (ms 5000 + 1) = false)
    (hc : c.rd COMMIT_CRC = st.crc) (hv : c.valuesCode .safety lc = 0) :
    c.safetyConfirm lc = ((c.p COMMIT_CTL_SAFETY_CONFIRM 0).onCtl (fun x => { x with stage := none })).commitPend .safety st.id := by
  simp [Chan.safetyConfirm, hg, hs, ht, hc, hv]

theorem safetyConfirm_refused (h : c.gateCode .safety ≠ 0 ∨ c.ctl.stage = none) :
    ∃ code, c.safetyConfirm lc = (c.p COMMIT_CTL_SAFETY_CONFIRM 0).commitRefuse .confirm code := by
  by_cases hg : c.gateCode .safety = 0
  · exact ⟨8, by simp [Chan.safetyConfirm, hg, h.resolve_left (not_not.2 hg)]⟩
  · exact ⟨c.gateCode .safety, by simp [Chan.safetyConfirm, hg]⟩
end

/-- What a channel keeps of another with which it differs in registers and CHCTL's part alone: a commit then becomes pending. -/
theorem commitPend_pending {c y : Chan} (k : Kind) (id : Option SetId) (hf : c.Frame [COMMIT_CTL] y) (he : { y with regs := c.regs, ctl := c.ctl } = c) :
    (y.commitPend k id).ctl.commit = some ⟨k, c.now, c.rd COMMIT_CRC, id⟩ ∧ (y.commitPend k id).ctl.stage = y.ctl.stage ∧
      (y.commitPend k id).g COMMIT_STATUS_CODE = 1 ∧ (y.commitPend k id).rd COMMIT_CTL = y.rd COMMIT_CTL ∧
      c.Frame [COMMIT_CTL, COMMIT_STATUS] (y.commitPend k id) ∧ { y.commitPend k id with regs := c.regs, ctl := c.ctl } = c := by
  have hn : y.now = c.now := (congrArg Chan.now he :)
  refine ⟨?_, rfl, Chan.g_p_same _ _ _ rfl, Chan.rd_p_other _ _ _ _ (by decide), frame_p (frame_regs (frame_mono hf (by decide)) (Chan.onCtl_regs _ _)) (by decide), ?_⟩
  · rw [Chan.commitPend, Chan.p_ctl, Chan.onCtl_ctl, hn, hf _ (by decide)]
  · rw [Chan.commitPend, Chan.p_regsCtl, Chan.onCtl_regsCtl, he]

/-- Settles O9: by the request. What an expired stage leaves is the model's choice (log 16). -/
theorem commitRequests : Obligations.CommitRequests := by
  intro s t ch c
  refine ⟨?tuning, ?stage, ?confirm, ?expiry⟩
  case tuning =>
    intro ho hg hv
    refine actsOn_live (f := quietly (fun d => d.tuningCommit s.m.dev.lc)) (c := c) rfl rfl ho ?_
    obtain ⟨h1, -, h3, h4, h5, h6⟩ := commitPend_pending (y := c.p COMMIT_CTL_TUNING_COMMIT 0) .tuning none (frame_p (frame_refl _ _) (by decide)) (Chan.p_regsCtl c _ _ _ _)
    rw [quietly_eq (tuningCommit_passes hg hv) (by rfl)]
    refine ⟨h1, h3, ?_, h5, h6⟩
    rw [Chan.g, show COMMIT_CTL_TUNING_COMMIT.reg = COMMIT_CTL from rfl, h4]
    exact Chan.g_p_same c COMMIT_CTL_TUNING_COMMIT 0 rfl
  case stage =>
    intro id ho hg hv
    refine actsOn_live (f := quietly (fun d => d.safetyStage s.m.dev.lc (some id))) (c := c) rfl rfl ho ?_
    rw [quietly_answer (safetyStage_passes (some id) hg hv) (by rfl)]
    refine ⟨rfl, rfl, Chan.g_p_same _ _ _ rfl, frame_p (frame_regs (frame_p (frame_refl _ _) (by decide)) (Chan.onCtl_regs _ _)) (by decide), ?_⟩
    rw [Chan.staged, Chan.p_regsCtl, Chan.onCtl_regsCtl, Chan.p_regsCtl]
  case confirm =>
    intro st ho hg hs ht hc hv
    refine actsOn_live (f := quietly (fun d => d.safetyConfirm s.m.dev.lc)) (c := c) rfl rfl ho ?_
    obtain ⟨h1, h2, h3, -, h5, h6⟩ := commitPend_pending (c := c) (y := (c.p COMMIT_CTL_SAFETY_CONFIRM 0).onCtl (fun x => { x with stage := none })) .safety st.id
      (frame_p (frame_refl _ _) (by decide)) (by rw [Chan.onCtl_regsCtl, Chan.p_regsCtl])
    rw [quietly_eq (safetyConfirm_passes hg hs ht hc hv) (by rfl)]
    exact ⟨by rw [h1, hc], h2, h3, h5, h6⟩
  case expiry =>
    intro st ho hs
    refine actsOn_live rfl rfl ho ?_
    have e : doSafetyStageExpiry c = if c.since st.at_ (ms 5000) then c.onCtl (fun x => { x with stage := none, stageLapsed := true }) else c := by
      simp only [doSafetyStageExpiry, hs]
    exact e

theorem kept_answers {c d : Chan} (h : c.Kept d) (l : List OpDone) : c.Kept { d with answers := l } := kept_trans h ⟨rfl, rfl, rfl, rfl, rfl, rfl, rfl, rfl, rfl, rfl, rfl, rfl, fun _ => rfl⟩

/-- A refused commit is reported by COMMIT_FAIL, with the reaction to it alone (R66). -/
theorem commitRefuse_reports {c y : Chan} {f : Chan → Chan} (op : ChOp) (code : Nat) (hq : f c = y.commitRefuse op code) (hf : c.Frame [COMMIT_CTL] y) (hk : c.Kept y)
    (ho : c.state ≠ OFF) (ha : c.srcActive COMMIT_FAIL = false) :
    (quietly f c).srcLatched COMMIT_FAIL = true ∧ c.Frame (COMMIT_CTL :: reactionRegs) (quietly f c) ∧ c.Kept (quietly f c) := by
  have hr : y.Reacts false (y.refuseCommit code) := react_refuseCommit (react_refl y)
  have hc : c.Frame [COMMIT_CTL, COMMIT_STATUS, CH_IRQ_STATUS] (y.commitCode code) := frame_p (frame_p (frame_mono hf (by decide)) (by decide)) (by decide)
  have ho' : (y.commitCode code).state ≠ OFF := by rw [Chan.state, hc.g (f := CH_STATE_STATE) (by decide)]; exact ho
  have ha' : (y.commitCode code).srcActive COMMIT_FAIL = false := by rw [Chan.srcActive, hc _ (by decide)]; exact ha
  rw [quietly, hq]
  refine ⟨pulse_latched (y.commitCode code) COMMIT_FAIL (by decide) ho' ha', ?_, kept_answers (kept_trans (kept_react hk hr) (kept_answer _ _ _ _)) _⟩
  exact frame_answers _ (frame_answer (frame_react (l := [COMMIT_CTL]) (frame_mono hf (by simp)) hr))

/-- Settles O10: every refusal is `commitRefuse`, by its reason. -/
theorem commitRefusals : Obligations.CommitRefusals := by
  intro s t ch id c ho ha
  refine ⟨fun h => actsOn_live rfl rfl ho ?_, fun h => actsOn_live rfl rfl ho ?_, fun h => actsOn_live rfl rfl ho ?_⟩
  · obtain ⟨code, hq⟩ := tuningCommit_refused h
    exact commitRefuse_reports _ _ hq (frame_p (frame_refl _ _) (by decide)) (kept_p _ _ _) ho ha
  · obtain ⟨code, hq⟩ := safetyStage_refused (some id) h
    exact commitRefuse_reports _ _ hq (frame_p (frame_refl _ _) (by decide)) (kept_p _ _ _) ho ha
  · obtain ⟨code, hq⟩ := safetyConfirm_refused h
    exact commitRefuse_reports _ _ hq (frame_p (frame_refl _ _) (by decide)) (kept_p _ _ _) ho ha

/-! ### The copy of the shadows and the staged references (R62, R167) -/

/-- The held writes leave everything but the shadow copies. -/
theorem heldWrites_rest (l : List (Nat × Nat)) (c : Chan) : ∃ m, l.foldl (fun d w => d.shadowWrite w.1 w.2) c = { c with shadow := m } := by
  induction l generalizing c with
  | nil => exact ⟨c.shadow, rfl⟩
  | cons w l ih =>
    obtain ⟨m, hm⟩ := ih (c.shadowWrite w.1 w.2)
    exact ⟨m, hm⟩

/-- The held writes leave the shadow copy of every register that none of them names. -/
theorem heldWrites_other {l : List (Nat × Nat)} {a : Nat} (h : ∀ w ∈ l, w.1 ≠ a) (c : Chan) :
    (l.foldl (fun d w => d.shadowWrite w.1 w.2) c).rds a = c.rds a := by
  induction l generalizing c with
  | nil => rfl
  | cons w l ih =>
    rw [List.foldl_cons, ih (fun x hx => h x (List.mem_cons_of_mem _ hx)), Chan.rds_shadowWrite_other _ _ (h w List.mem_cons_self).symm]

theorem shadowCopyEnd_copying {c : Chan} {k : Copying} (h : c.ctl.copying = some k) :
    doShadowCopyEnd c = k.held.foldl (fun d w => d.shadowWrite w.1 w.2) (c.onCtl (fun x => { x with copying := none })) := by
  simp only [doShadowCopyEnd, h]

theorem p_regsOnly (c : Chan) (f : Fld) (v : Nat) : c.RegsOnly [f.reg] (c.p f v) := Chan.regsOnly_wr _ _ _

/-- Settles O11: the fold of the held writes, and each reference written. -/
theorem shadowAndReferences : Obligations.ShadowAndReferences := by
  intro s t ch c ho
  refine ⟨?copied, ?torque, ?speed, ?sequence⟩
  case copied =>
    intro k hk
    refine actsOn_live (c := c) rfl rfl ho ?_
    rw [shadowCopyEnd_copying hk]
    have hother := fun a (h : ∀ w ∈ k.held, w.1 ≠ a) => heldWrites_other h (c.onCtl (fun x => { x with copying := none }))
    have hone : ∀ a v, k.held = [(a, v)] → (k.held.foldl (fun d w => d.shadowWrite w.1 w.2) (c.onCtl (fun x => { x with copying := none }))).rds a =
        ((c.rds a &&& (0xFFFFFFFF ^^^ rwcBits a)) ||| (v &&& rwcBits a)) % 2 ^ 32 := fun a v h => by rw [h]; exact Chan.rds_wrs_same _ _ _
    obtain ⟨m, hm⟩ := heldWrites_rest k.held (c.onCtl (fun x => { x with copying := none }))
    rw [hm] at hother hone ⊢
    exact ⟨rfl, rfl, hother, hone, rfl⟩
  case torque =>
    intro ref
    refine actsOn_live (c := c) rfl rfl ho ?_
    have hf : c.Frame [TQ_REF] (c.p TQ_REF_REF ref) := frame_p (frame_refl _ _) (by decide)
    refine ⟨Chan.g_p_same _ _ _ rfl, rfl, Bool.or_true _, rfl, rfl, frame_regs hf (Chan.onDtc_regs _ _), rfl⟩
  case speed => exact fun v => actsOn_live (c := c) rfl rfl ho ⟨Chan.g_p_same _ _ _ rfl, p_regsOnly c SPD_LIM_W v⟩
  case sequence => exact fun v => actsOn_live (c := c) rfl rfl ho ⟨Chan.g_p_same _ _ _ rfl, p_regsOnly c TQ_SEQ_SEQ v⟩

end Sys2Proof.Machine
end

section
/-! PROOFS. States in which the selection of the safe state undoes what a clause keeps: O43, O47. -/

namespace Sys2Proof.Machine
open Sys2Proof

/-- What a command on a channel outside OFF does is what its operation leaves. -/
theorem of_actsOn_live {i : Instr} {s : State} {t : Tick} {ch : Ch} {f : Chan → Chan} {P : Chan → Prop} (he : exec i s = s.live t ch f)
    (ho : (s.m.seen t ch).state ≠ OFF) (h : ActsOn i s t ch P) : P (f (s.m.seen t ch)) := by
  obtain ⟨d, hd, hP⟩ := h
  obtain ⟨e, hn, rfl⟩ : ActsOn i s t ch (fun e => e = f (s.m.seen t ch)) := actsOn_live rfl he ho rfl
  have hm := congrArg (fun x : State => x.m.chan ch) (Host.Outcome.next.inj (hn.symm.trans hd))
  have hd : f (s.m.seen t ch) = d := by simpa only [Mach.chan_setChan] using hm
  rwa [hd]

/-- A machine whose only running channel is A. -/
def aloneWith (c : Chan) : State := { m := { dev := {}, a := c, b := { id := .b }, holds := [] } }

/-! ### O43: the legs driven at a boundary where the selection of the safe state changes its mind -/

/-- RUN with a decided vector, and the safe state of an earlier FAULT still selected. -/
def strayRun : Chan :=
  ((((({ id := .a, dtc := { next := some 1 } } : Chan).p CH_STATE_STATE RUN).p DTC_CTL_EN 1).p DUST_STATUS_SAFE 1).p EN_STATUS_EN_PIN 15)

/-- The boundary ends in RUN, with every leg turned off by the selection. -/
theorem strayRun_legs_off : (doDecisionBoundary strayRun).state = RUN ∧ (doDecisionBoundary strayRun).gb EN_STATUS_EN_INT 0 = false := by decide +kernel

theorem seen_aloneWith (c : Chan) (h : c.now = 0) : (aloneWith c).m.seen 0 .a = c := by
  rw [← h]
  rfl

/-- Refutes O43: where an earlier selection of OPEN still stands, the boundary's own selection releases the driven legs; the clause of the
decided vector lacks SAFE = 0. -/
theorem not_engineAndLanding : ¬ Obligations.EngineAndLanding := by
  intro h
  have hs : (aloneWith strayRun).m.seen 0 .a = strayRun := seen_aloneWith _ rfl
  have ho : ((aloneWith strayRun).m.seen 0 .a).state ≠ OFF := by rw [hs]; decide +kernel
  obtain ⟨-, hlive⟩ := h (aloneWith strayRun) 0 .a 0 0 0 1 ⟨.tuning, 0, 0, none⟩ ⟨[], 0, 0⟩
  obtain ⟨-, hdrive, -⟩ := hlive ho
  have hacts := hdrive (by rw [hs]; decide +kernel) (by rw [hs]; rfl) (by rw [hs]; rfl)
  have hlegs := of_actsOn_live (f := doDecisionBoundary) rfl ho hacts
  rw [hs] at hlegs
  obtain ⟨hrun, hoff⟩ := strayRun_legs_off
  obtain ⟨-, hon⟩ := (hlegs hrun).2 0 (by decide)
  exact Bool.false_ne_true (hoff.symm.trans hon)

/-! ### O47: a disagreement that drives the contactor low -/

/-- HOLD at high speed with no usable leg: contactor 1 is driven, its feedback reads open, and every source of the block stands at S0. -/
def strayHold : Chan :=
  (((((({ id := .a } : Chan).p CH_STATE_STATE HOLD).p CONT_STATUS_CMD 1).p CONT_STATUS_DISCREP 1).p DUST_STATUS_SPD_HIGH 1).wr MSIO_SEV 0).p CONT_DEB_DEB 0

/-- The report finds no safe state, and its S4 drives the contactor low, which then agrees with its feedback. -/
theorem strayHold_agrees : (doContactorDebounceExpiry 1 strayHold).msio.discBy = 0 := by decide +kernel

/-- Refutes O47: the reported disagreement ends by its own reaction where that reaction drives the contactor low; the clause of the debounce
keeps it in the record, and lacks that no other source follows. -/
theorem not_contactorsGuardAndAcknowledge : ¬ Obligations.ContactorsGuardAndAcknowledge := by
  intro h
  have hs : (aloneWith strayHold).m.seen 0 .a = strayHold := seen_aloneWith _ rfl
  have ho : ((aloneWith strayHold).m.seen 0 .a).state ≠ OFF := by rw [hs]; decide +kernel
  obtain ⟨-, -, -, hquiet, -⟩ := h.1 (aloneWith strayHold) 0 .a 1 true
  obtain ⟨-, -, -, -, hdisc, -⟩ := hquiet rfl ho (by rw [hs]; exact ⟨rfl, rfl, rfl⟩)
  have hacts := hdisc (by rw [hs]; decide +kernel) (by rw [hs]; decide +kernel) (by rw [hs]; decide +kernel) (by rw [hs]; decide +kernel)
  obtain ⟨-, -, hby, -⟩ := of_actsOn_live (f := doContactorDebounceExpiry 1) rfl ho hacts
  rw [hs, strayHold_agrees] at hby
  exact absurd (hby (by decide +kernel)) (by decide +kernel)

end Sys2Proof.Machine
end

section
/-! PROOFS. An answer posted with one byte: O59. -/

namespace Sys2Proof.Machine
open Sys2Proof

/-! ### The counterexample: the answer of a DISARM posted with one byte -/

/-- A DISARM of flow 1, in the mailbox of channel A. -/
def oddReq : Req := ⟨1, 0, 0, 0, 0, 0, 0⟩

/-- Colmo runs; the bundle of the DISARM waits, and its posted answer is one byte. -/
def oddDev : Dev :=
  { pwr := { phase := .run, smc := .up }, seqs := [0, 0, 0, 0, 0, 0, 0, 0], colmo := { running := [⟨oddReq, [.mail .a [7]]⟩] },
    hq := { flows := [(1, { pairEn := true, pair := 2 }), (2, { opened := true, out := true })] } }

def oddChan : Chan := ({ id := .a, mail := [⟨oddReq, [(0, ⟨0x0302, 1, []⟩)], 0⟩] } : Chan).p CH_STATE_STATE RUN

def oddState : State := { m := { dev := oddDev, a := oddChan, b := { id := .b }, holds := [] } }

/-- The RSP that the take sends holds the posted byte with its padding. -/
theorem oddAnswer_padded : ((doMailboxPartTake .a (oddState.m.seenAt 0)).dev.queue 0).frames.map (fun f => f.payload.length) = [20] := by decide +kernel

/-- Refutes O59: an answer posted with one byte goes padded to 32 bits, where the clause of the taken DISARM has the byte alone; it lacks
`data.length % 4 = 0`. -/
theorem not_bundlesAndParts : ¬ Obligations.BundlesAndParts := by
  intro h
  obtain ⟨-, -, -, -, -, -, hdisarm, -⟩ := h oddState 0 .a oddReq ⟨0, 0, 0, 0, 0, 0, 0, 0, 0, none, []⟩ noEnt [] [7] 0 0 0 0 0 0
  have hs : oddState.m.seen 0 .a = oddChan := rfl
  have hacts := hdisarm ⟨rfl, by decide +kernel, by decide +kernel, rfl, ⟨.inr rfl, by decide +kernel, rfl, rfl, rfl, by decide +kernel⟩, by decide +kernel⟩
    rfl (by decide +kernel) rfl (by rw [hs]; intro r hr; cases hr)
  obtain ⟨-, -, -, -, -, htells⟩ := of_acts (f := doMailboxPartTake .a) rfl hacts
  obtain ⟨hframes, -⟩ := htells
  have hlen := congrArg (List.map (fun f : OutFrame => f.payload.length)) hframes
  exact absurd (hlen.symm.trans oddAnswer_padded) (by decide +kernel)

end Sys2Proof.Machine
end

section
/-! PROOFS. A frame that waits at Colmo's start with more data than the objects hold: O38. -/

namespace Sys2Proof.Machine
open Sys2Proof

/-! ### The data bytes put into an object (R435, R450) -/

theorem moByte_ok (k n i : Nat) : (moByte k n i).ok = true := by
  have h : i % 4 < 4 := Nat.mod_lt _ (by decide)
  simp only [moByte, Fld.ok, Bool.and_eq_true, Nat.ble_eq, Nat.blt_eq]
  omega

theorem Dev.moPut_arch (d : Dev) (k n i : Nat) (l : List Nat) : (d.moPut k n i l).arch = d.arch := by
  induction l generalizing d i with
  | nil => rfl
  | cons b l ih => exact (ih (d.p (moByte k n i) b) (i + 1)).trans (Dev.p_arch _ _ _)

theorem Dev.rd_moPut_below (d : Dev) {k n a : Nat} (h : a < MO_DATA k n 0) (i : Nat) (l : List Nat) : (d.moPut k n i l).rd a = d.rd a := by
  induction l generalizing d i with
  | nil => rfl
  | cons b l ih =>
    refine (ih (d.p (moByte k n i) b) (i + 1)).trans (Dev.rd_p_other _ _ _ _ (Nat.ne_of_lt (h.trans_le ?_)))
    simp only [moByte, MO_DATA]
    omega

/-- `m + 1` equal bytes put into an object reach the byte `m`, whether the object has it or not. -/
theorem Dev.g_moPut_replicate (d : Dev) (k n b i m : Nat) : (d.moPut k n i (List.replicate (m + 1) b)).g (moByte k n (i + m)) = b % 2 ^ 8 := by
  induction m generalizing d i with
  | zero =>
    refine (Dev.g_p_same _ _ _ (moByte_ok k n i)).trans ?_
    have h : 8 * (i % 4) + 7 + 1 - 8 * (i % 4) = 8 := by omega
    exact congrArg (fun w => b % 2 ^ w) h
  | succ m ih =>
    have h := ih (d.p (moByte k n i) b) (i + 1)
    rw [Nat.add_right_comm] at h
    exact h

/-! ### The counterexample: a frame waits with more data than the registers of the message objects hold -/

/-- 112617 bytes: from MO112 of CAN A on, the last one lies in ARC_BLOCKS. -/
def longFrame : CanFrame := ⟨true, false, false, false, false, 0, 8, List.replicate 112617 255⟩

/-- The ROM has started Colmo; a request of MO0 is pending, the configuration of CAN A cancels it, and the frame waits for an object. -/
def longDev : Dev :=
  ({ pwr := { phase := .run, smc := .booted }, arch := { canCfg := [(MO_STAT 0 0, 2 ^ 30)] }, iso := { out := [longFrame] } } : Dev).p (MO_STAT_PEND 0 0) 1

def longState : State := { m := { dev := longDev, a := { id := .a }, b := { id := .b }, holds := [] } }

/-- The device before CAN A's configuration is loaded. -/
def longReady (d : Dev) : Dev :=
  ((((((d.onPwr (fun p => { p with smc := .up })).arcStart 0 0 0).idKeyGen).loadChImage false false).loadHost 2).loadHost 3).loadIdent

/-- The device whose request of MO0 has been cancelled. -/
def longFreed (d : Dev) : Dev :=
  ((((d.plainWrite (MO_STAT 0 0) (2 ^ 30)).p (MO_STAT_PEND 0 0) 0).p (MO_STAT_CANCELLED 0 0) 1).e2eDone 0 0).onIso (fun x => { x with out := [] })

theorem Dev.write_moStat_cancel (d : Dev) : d.write (MO_STAT 0 0) (2 ^ 30) = doMoStatCancel 0 0 (d.plainWrite (MO_STAT 0 0) (2 ^ 30)) := by
  have h : (devFields (MO_STAT 0 0)).isEmpty = false := by decide +kernel
  unfold Dev.write
  rw [if_neg (by decide), if_neg (by decide), if_neg (by decide), if_neg (by decide), if_neg (by decide), if_neg (by decide), if_neg (by decide),
    if_pos (by decide), h, if_neg (by decide), show MO_STAT 0 0 / 65536 - 4 = 0 from by decide, show MO_STAT 0 0 % 65536 = 0x100C from by decide]
  unfold Dev.canWrite
  rw [if_neg (by decide), if_neg (by decide), if_neg (by decide), show (0x100C - 0x1000) / 128 = 0 from by decide, show (0x100C : Nat) % 128 = 0x0C from by decide]
  unfold Dev.moWrite
  rw [if_pos rfl]
  unfold Dev.moStatWrite
  dsimp only
  rw [show (2 ^ 30 : Nat).testBit 31 = false from by decide, show (2 ^ 30 : Nat).testBit 30 = true from by decide, if_pos rfl, if_neg (by decide)]

theorem Dev.isoDrain_head {d : Dev} {fr : CanFrame} {l : List CanFrame} (h : d.iso.out = fr :: l) :
    d.isoDrain 0 = (d.onIso (fun x => { x with out := l })).isoSend fr := by
  unfold Dev.isoDrain
  rw [if_pos rfl, h]

theorem Dev.isoSend_free {d : Dev} {i : Nat} (h : (List.range 16).find? (fun i => !d.b (MO_STAT_PEND 0 (112 + i))) = some i) (fr : CanFrame) :
    d.isoSend fr = d.moFill (112 + i) fr := by
  unfold Dev.isoSend
  rw [h]

theorem doMoStatCancel_pending {d : Dev} (ha : d.alive = true) (hp : d.b (MO_STAT_PEND 0 0) = true) (ht : (d.canSt 0).tx ≠ some 0) :
    doMoStatCancel 0 0 d = d.moCancel 0 0 := by
  unfold doMoStatCancel
  rw [ha, hp, if_neg (by decide), if_neg ht]

/-- The device at Colmo's start. -/
def longSeen : Dev := longState.m.seenDev 0

/-- The cancelled request frees the way of the frame: its bytes go to MO112 and on. -/
theorem longReady_write : (longReady longSeen).write (MO_STAT 0 0) (2 ^ 30) = (longFreed (longReady longSeen)).moFill 112 longFrame := by
  rw [Dev.write_moStat_cancel, doMoStatCancel_pending (by decide +kernel) (by decide +kernel) (by decide +kernel), Dev.moCancel,
    Dev.isoDrain_head (fr := longFrame) (l := []) (by rfl)]
  exact Dev.isoSend_free (i := 0) (by decide +kernel) longFrame

/-! What the long frame leaves: a byte in ARC_BLOCKS, and what lies below the message objects. -/

theorem Dev.moFill_arch (d : Dev) (n : Nat) (fr : CanFrame) : (d.moFill n fr).arch = d.arch := by
  rw [Dev.moFill, Dev.p_arch, Dev.moPut_arch, Dev.wr_arch, Dev.wr_arch]

theorem Dev.rd_moFill_below (d : Dev) {n a : Nat} (h : a < MO_ID 0 n) (fr : CanFrame) : (d.moFill n fr).rd a = d.rd a := by
  have hs : a < MO_STAT 0 n := h.trans_le (by unfold MO_ID MO_STAT; omega)
  have hc : a < MO_CTL 0 n := h.trans_le (by unfold MO_ID MO_CTL; omega)
  have hd : a < MO_DATA 0 n 0 := h.trans_le (by unfold MO_ID MO_DATA; omega)
  rw [Dev.moFill, Dev.rd_p_other _ _ _ _ (Nat.ne_of_lt hs), Dev.rd_moPut_below _ hd, Dev.rd_wr_other _ _ _ _ (Nat.ne_of_lt hc),
    Dev.rd_wr_other _ _ _ _ (Nat.ne_of_lt h)]

/-- The last byte of the long frame. -/
def longByte : Fld := ⟨ARC_BLOCKS, 7, 0⟩

theorem Dev.moFill_long (d : Dev) : (d.moFill 112 longFrame).g longByte = 255 := by
  have hb : longByte = moByte 0 112 (0 + 112616) := by decide
  have h := Dev.g_moPut_replicate ((d.wr (MO_ID 0 112) (b2n longFrame.xtd * 2 ^ 31 + longFrame.id)).wr (MO_CTL 0 112) (2 ^ 31 + 2 ^ 30 + longFrame.dlc))
    0 112 255 0 112616
  rw [Dev.moFill, Dev.g_p_reg _ _ _ _ (by decide), hb]
  exact h

theorem longReady_loadCan : ((longReady longSeen).loadCan 0) = ((longFreed (longReady longSeen)).moFill 112 longFrame).canLeaveInit 0 := by
  have h : (longReady longSeen).arch.canCfg.filter (fun e => e.1 / 65536 == 4 + 0) = [(MO_STAT 0 0, 2 ^ 30)] := by decide +kernel
  rw [Dev.loadCan, h, ← longReady_write]
  rfl

/-- Both controllers configured: the byte of the long frame stands in ARC_BLOCKS, and no dip has been reported. -/
theorem longReady_loaded : (((longReady longSeen).loadCan 0).loadCan 1).g longByte = 255 ∧
    (((longReady longSeen).loadCan 0).loadCan 1).b AON_IRQ_STATUS_SAG = false := by
  rw [longReady_loadCan]
  have h0 := Dev.told_canLeaveInit ((longFreed (longReady longSeen)).moFill 112 longFrame) 0
  have hc : (((longFreed (longReady longSeen)).moFill 112 longFrame).canLeaveInit 0).arch.canCfg.filter (fun e => e.1 / 65536 == 4 + 1) = [] := by
    rw [h0.arch, Dev.moFill_arch]
    decide +kernel
  have h1 := Dev.told_canLeaveInit (((longFreed (longReady longSeen)).moFill 112 longFrame).canLeaveInit 0) 1
  have hs : ((longFreed (longReady longSeen)).moFill 112 longFrame).b AON_IRQ_STATUS_SAG = false := by
    rw [Dev.b, Dev.g, Dev.rd_moFill_below _ (by decide)]
    decide +kernel
  rw [Dev.loadCan, hc, List.foldl_nil, h1.frame.g (by decide), h0.frame.g (by decide), Dev.moFill_long, h1.frame.b (by decide), h0.frame.b (by decide), hs]
  exact ⟨rfl, rfl⟩

/-- What follows the configuration of the controllers. -/
def Dev.colmoEnd (d : Dev) : Dev :=
  let d2 := d.loadIso
  let d3 := (d2.onColmo (fun c => { c with openCls := d2.arch.openCls })).sagEnable
  d3.loadCounters.onPwr (fun p => { p with fresh := false })

theorem Dev.g_colmoEnd (d : Dev) (h : d.b AON_IRQ_STATUS_SAG = false) : d.colmoEnd.g longByte = d.g longByte := by
  have hs : ∀ e : Dev, e.b AON_IRQ_STATUS_SAG = false → e.sagEnable.g longByte = e.g longByte := fun e he => by
    have hf : e.Frame [AON_IRQ_EN, NTF_EN2] ((e.p AON_IRQ_EN_SAG 1).pb NTF_EN2_EN 7 true) := frameD_p (frameD_p (frameD_refl _ e) (by decide)) (by decide)
    rw [Dev.sagEnable, hf.b (by decide), he]
    exact hf.g (by decide)
  exact hs (d.loadIso.onColmo (fun c => { c with openCls := d.loadIso.arch.openCls })) h

theorem Dev.colmoStart_eq (d : Dev) : d.colmoStart 0 0 0 false false = (((longReady d).loadCan 0).loadCan 1).colmoEnd := by
  simp only [Dev.colmoStart, longReady, Dev.colmoEnd]

theorem longSeen_start : (longSeen.colmoStart 0 0 0 false false).g longByte = 255 := by
  rw [Dev.colmoStart_eq, Dev.g_colmoEnd _ longReady_loaded.2, longReady_loaded.1]

theorem Mach.beginWrite_regs (m : Mach) (ch : Ch) : (m.beginWrite ch).dev.regs = m.dev.regs := by
  unfold Mach.beginWrite
  split_ifs <;> rfl

theorem doColmoStart_regs {m : Mach} (h : ¬(m.dev.pwr.phase ≠ .run ∨ m.dev.pwr.smc ≠ .booted ∨ m.dev.halted)) :
    (doColmoStart 0 0 0 false false m).dev.regs = (m.dev.colmoStart 0 0 0 false false).regs := by
  rw [doColmoStart, if_neg h]
  extract_lets fresh m1 f
  rw [Mach.beginWrite_regs, Mach.beginWrite_regs, Mach.onChan, Mach.setChan_dev, Mach.onChan, Mach.setChan_dev]
  rfl

/-- The byte is a part of BLOCKS0. -/
theorem Dev.longByte_of_blocks {d : Dev} (h : d.g ARC_BLOCKS_BLOCKS0 = 0) : d.g longByte = 0 := by
  rw [Dev.g, bitsOf] at h ⊢
  change d.rd ARC_BLOCKS / 2 ^ 0 % 2 ^ 16 = 0 at h
  change d.rd ARC_BLOCKS / 2 ^ 0 % 2 ^ 8 = 0
  omega

/-- Refutes O38: the frame that the cancelled request lets go is written past the message objects, its last byte into ARC_BLOCKS, which no longer
holds the number of blocks; the clause of Colmo's start lacks a bound on the data of the frames that wait. -/
theorem not_bootAndRelease : ¬ Obligations.BootAndRelease := by
  intro h
  obtain ⟨-, -, -, -, hstart, -⟩ := h longState 0 .a false false false false false 0 0 0
  obtain ⟨-, -, -, hblocks, -⟩ := of_acts (f := doColmoStart 0 0 0 false false) rfl (hstart (by decide +kernel))
  have hbyte : (doColmoStart 0 0 0 false false (longState.m.seenAt 0)).dev.g longByte = 255 := by
    rw [Dev.g, Dev.rd, doColmoStart_regs (by decide +kernel)]
    exact longSeen_start
  rw [Dev.longByte_of_blocks hblocks] at hbyte
  exact absurd hbyte (by decide)

end Sys2Proof.Machine
end

section
/-! PROOFS. What frames, counters and sources leave of a channel's fields. -/

namespace Sys2Proof.Machine
open Sys2Proof

/-! ### Fields and sources beside the registers of a frame -/

section
variable {l : List Nat} {c d : Chan} (h : c.Frame l d)
include h

theorem Chan.Frame.state (hl : CH_STATE ∉ l) : d.state = c.state := h.g (f := CH_STATE_STATE) hl
theorem Chan.Frame.sevOf {s : Src} (hl : s.sevAt.1 ∉ l) : d.sevOf s = c.sevOf s := sevOf_congr s (h _ hl)
theorem Chan.Frame.srcActive {s : Src} (hl : (srcRegs s.blk).src ∉ l) : d.srcActive s = c.srcActive s := by rw [Chan.srcActive, h _ hl, Chan.srcActive]
theorem Chan.Frame.srcLatched {s : Src} (hl : (srcRegs s.blk).src ∉ l) : d.srcLatched s = c.srcLatched s := by rw [Chan.srcLatched, h _ hl, Chan.srcLatched]
end

/-- A SRC_STATUS register is none of a list of registers that the reaction never writes. -/
theorem src_not_mem {l : List Nat} (s : Src) (h : ∀ a ∈ l, reactionRegs.contains a = false) : (srcRegs s.blk).src ∉ l := fun hm =>
  ne_of_not_reaction (h _ hm) (source_contains s.blk _ (by simp [sourceRegs])) rfl

/-! ### Counters -/

theorem Chan.g_lt (c : Chan) (f : Fld) : c.g f < 2 ^ (f.hi + 1 - f.lo) := bitsOf_lt _ _ _

/-- A saturating counter reads the value stepped. -/
theorem Chan.g_satInc (c : Chan) {f : Fld} (h : f.ok = true) : (c.satInc f).g f = Sys2Proof.satAdd (2 ^ (f.hi + 1 - f.lo) - 1) (c.g f) := by
  have hg := c.g_lt f
  have hs := satAdd_le (2 ^ (f.hi + 1 - f.lo) - 1) (c.g f)
  rw [Chan.satInc, Chan.g_p_same _ _ _ h, Nat.mod_eq_of_lt (by omega)]

theorem satAdd_eq_min {m n : Nat} (h : n ≤ m) : Sys2Proof.satAdd m n = min m (n + 1) := by
  rw [Sys2Proof.satAdd]
  split_ifs <;> omega

theorem frame_satInc {l : List Nat} {c0 c : Chan} {f : Fld} (h : c0.Frame l c) (ha : f.reg ∈ l) : c0.Frame l (c.satInc f) := frame_p h ha
theorem kept_satInc (c : Chan) (f : Fld) : c.Kept (c.satInc f) := kept_p _ _ _

/-! ### A source raised beside changed registers -/

/-- A source raised leaves, beside the registers changed before it, those of the reaction and what the reaction may change. -/
theorem reacted_raise {l : List Nat} {c0 c : Chan} (s : Src) (hf : c0.Frame l c) (hk : c0.Kept c) : c0.Reacted l (c.raise s) := by
  have hr : c.Reacts false (c.raise s) := react_raise (react_refl c)
  exact ⟨frame_react (frame_mono hf fun _ hx => List.mem_append_left _ hx) hr, kept_react hk hr⟩

end Sys2Proof.Machine
end

section
/-! PROOFS. The SAR converters: triggers, FIFOs and the stall (R77 to R83, R88, R91): O15, O16, O18. -/

namespace Sys2Proof.Machine
open Sys2Proof

/-! ### What a trigger reads of the registers -/

theorem convCtl_not_convReq (n k : Nat) : CONV_CTL n ∉ [CONV_REQ k] := by
  rw [List.mem_singleton, CONV_CTL, CONV_REQ]
  omega

theorem adcCtl_not_convReq (n : Nat) : ADC_CTL ∉ [CONV_REQ n] := by
  rw [List.mem_singleton, ADC_CTL, CONV_REQ]
  omega

section
variable {l : List Nat} {c d : Chan} (h : c.Frame l d) (hl : ADC_CTL ∉ l)
include h hl

theorem Chan.Frame.convOn (n : Nat) : d.convOn n = c.convOn n := by
  simp only [Chan.convOn, Chan.lead, h.b (f := ADC_CTL_PAIR_EN) hl, h.gb (f := ADC_CTL_CONV_EN) hl]

theorem Chan.Frame.scanMode (n : Nat) : d.scanMode n = c.scanMode n := by rw [Chan.scanMode, h.b (f := ADC_CTL_ADC3_MODE) hl, Chan.scanMode]
end

/-- A converter that takes triggers for itself leads itself. -/
theorem lead_of_convOn {c : Chan} {n : Nat} (h : c.convOn n = true) : c.lead n = n := by
  simp only [Chan.convOn, Bool.and_eq_true, beq_iff_eq] at h
  exact h.1.2

/-- A converter leads itself alone or, as ADC0, the pair. -/
theorem members_cases (c : Chan) (n : Nat) : c.members n = [n] ∨ (n = 0 ∧ c.members n = [0, 1]) := by
  rw [Chan.members]
  split_ifs with h
  · exact .inr ⟨h.2, rfl⟩
  · exact .inl rfl

/-! ### Triggers of an idle converter (R77 to R83) -/

/-- Converter `n` with its injected sequence begun by the triggers of `bits` (R79, R80). -/
def Chan.injBegun (c : Chan) (n bits : Nat) : Conv :=
  { c.conv n with inj := some ⟨0, bits, c.now, c.now + cyc (2 + c.g (CONV_CTL_INJ_DELAY n)), false, []⟩ }

/-- Converter `n` with its regular sequence or scan begun at slot `k` for the resolver event `ev` (R78, R83). -/
def Chan.regBegun (c : Chan) (n k ev : Nat) : Conv := { c.conv n with reg := some ⟨k, ev, c.now, c.now + cyc 2, false, []⟩, held := none }

/-- The channel with converter `n` replaced. -/
def Chan.setConv (c : Chan) (n : Nat) (v : Conv) : Chan := { c with adc := { c.adc with conv := c.adc.conv.set n v } }

theorem Chan.onConv_eq_setConv (c : Chan) (n : Nat) (f : Conv → Conv) : c.onConv n f = c.setConv n (f (c.conv n)) := rfl

theorem Chan.injBegun_frame {c : Chan} {n : Nat} (bits : Nat) (f : Fld) (v : Nat) (h : CONV_CTL n ≠ f.reg) : (c.p f v).injBegun n bits = c.injBegun n bits := by
  rw [Chan.injBegun, Chan.g_p_reg _ _ _ _ h]
  rfl

section
variable {c : Chan} {n : Nat} (hk : c.skim.cur = none) (hon : c.convOn n = true)
include hk hon

theorem injTrigger_idle {bits : Nat} (hi : (c.conv n).inj = none) (hr : (c.conv n).reg = none) (hb : bits ≠ 0) :
    c.injTrigger n bits = c.setConv n (c.injBegun n bits) := by
  have hs : c.skimConv n = c := Chan.skimAbortIf_idle _ _ hk
  rw [Chan.injTrigger, if_neg (by simp [hon, hb])]
  simp only [hs, hi]
  rw [Chan.onConv_eq_setConv, hr, Chan.injBegun, hr]
  rfl

theorem regTrigger_idle {k : Nat} (ev : Nat) (hi : (c.conv n).inj = none) (hr : (c.conv n).reg = none)
    (hf : (if c.scanMode n then nextInput (c.g SCAN_MASK_MASK) 0 else some 0) = some k) : c.regTrigger n ev = c.setConv n (c.regBegun n k ev) := by
  have hs : c.skimConv n = c := Chan.skimAbortIf_idle _ _ hk
  rw [Chan.regTrigger, if_neg (by simp [hon])]
  simp only [hs, hi, hr, Chan.regStart, hf]
  rfl

/-- An injected trigger that finds a sequence running and comes after the cycle of its trigger is discarded (R81). -/
theorem injTrigger_late {bits : Nat} {q : Seq} (hq : (c.conv n).inj = some q) (ht : q.trigAt + ticksPerCycle ≤ c.now) (hb : bits ≠ 0) :
    c.injTrigger n bits = c.injOver n := by
  have hs : c.skimConv n = c := Chan.skimAbortIf_idle _ _ hk
  rw [Chan.injTrigger, if_neg (by simp [hon, hb])]
  simp only [hs, hq]
  exact if_neg (not_lt.2 ht)
end

/-! ### A discarded injected trigger (R81) -/

/-- The overrun counters. -/
def overrunRegs : List Nat := [OVR_COUNT 0, OVR_COUNT 1, OVR_COUNT 2, OVR_COUNT 3]

theorem ovrCount_mem {n : Nat} (h : n < 4) : OVR_COUNT n ∈ overrunRegs := by
  interval_cases n <;> decide

/-- The injected overruns counted on a converter and on its partner in the pair. -/
def Chan.injCounted (c : Chan) (n : Nat) : Chan := (c.members n).foldl (fun d m => d.satInc (OVR_COUNT_INJ_OVR m)) c

theorem injCounted_cases (c : Chan) (n : Nat) : c.injCounted n = c.satInc (OVR_COUNT_INJ_OVR n) ∨
    (n = 0 ∧ c.injCounted n = (c.satInc (OVR_COUNT_INJ_OVR 0)).satInc (OVR_COUNT_INJ_OVR 1)) := by
  rcases members_cases c n with h | ⟨h0, h⟩
  · exact .inl (by rw [Chan.injCounted, h]; rfl)
  · exact .inr ⟨h0, by rw [Chan.injCounted, h]; rfl⟩

theorem frame_injCounted (c : Chan) {n : Nat} (hn : n < 4) : c.Frame overrunRegs (c.injCounted n) := by
  rcases injCounted_cases c n with h | ⟨-, h⟩ <;> rw [h]
  · exact frame_satInc (frame_refl _ _) (ovrCount_mem hn)
  · exact frame_satInc (frame_satInc (frame_refl _ _) (by decide)) (by decide)

theorem kept_injCounted (c : Chan) (n : Nat) : c.Kept (c.injCounted n) := by
  rcases injCounted_cases c n with h | ⟨-, h⟩ <;> rw [h]
  · exact kept_satInc _ _
  · exact kept_trans (kept_satInc _ _) (kept_satInc _ _)

theorem injCounted_count (c : Chan) (n : Nat) : (c.injCounted n).g (OVR_COUNT_INJ_OVR n) = min 65535 (c.g (OVR_COUNT_INJ_OVR n) + 1) := by
  have hg : c.g (OVR_COUNT_INJ_OVR n) < 65536 := c.g_lt _
  have hs : (c.satInc (OVR_COUNT_INJ_OVR n)).g (OVR_COUNT_INJ_OVR n) = Sys2Proof.satAdd 65535 (c.g (OVR_COUNT_INJ_OVR n)) := c.g_satInc rfl
  rw [satAdd_eq_min (by omega)] at hs
  rcases injCounted_cases c n with h | ⟨rfl, h⟩ <;> rw [h]
  · exact hs
  · rw [Chan.satInc, Chan.g_p_reg _ _ _ _ (by decide), hs]

/-- A discarded injected trigger is counted and raises INJ_OVERRUN. -/
theorem injOver_run {c : Chan} {n : Nat} (hn : n < 4) (ho : c.state ≠ OFF) (ha : c.srcActive INJ_OVERRUN = false) :
    (c.injOver n).srcLatched INJ_OVERRUN = true ∧ (c.injOver n).g (OVR_COUNT_INJ_OVR n) = min 65535 (c.g (OVR_COUNT_INJ_OVR n) + 1) ∧
      c.Reacted overrunRegs (c.injOver n) := by
  have hf := frame_injCounted c hn
  have hr : (c.injCounted n).Frame reactionRegs ((c.injCounted n).raise INJ_OVERRUN) := frame_reacts (q := false) (react_raise (react_refl _))
  have hc : OVR_COUNT n ∉ reactionRegs := by interval_cases n <;> decide
  refine ⟨raise_latched _ _ (by decide) ?_ ?_, ?_, reacted_raise _ hf (kept_injCounted c n)⟩
  · rwa [← Chan.injCounted, hf.state (by decide)]
  · rwa [← Chan.injCounted, hf.srcActive (by decide)]
  · exact (hr.g hc).trans (injCounted_count c n)

/-! ### Requests by software (R77, R79) -/

/-- The injected request taken: it acts where INJ_TRIG_SW lets it. -/
theorem doConvReqInjSw_acts {c : Chan} {n : Nat} (hn : n < 4) (h : c.b (CONV_CTL_INJ_TRIG_SW n) = true) :
    doConvReqInjSw n c = (c.p (CONV_REQ_INJ_SW n) 0).injTrigger n 4 := by
  have hf : c.Frame [CONV_REQ n] (c.p (CONV_REQ_INJ_SW n) 0) := frame_p (frame_refl _ _) List.mem_cons_self
  rw [doConvReqInjSw, if_neg (by omega)]
  exact if_pos ((hf.b (f := CONV_CTL_INJ_TRIG_SW n) (convCtl_not_convReq n n)).trans h)

/-- The regular request taken: it acts in every mode but scan and continuous. -/
theorem doConvReqRegSw_acts {c : Chan} {n : Nat} (hn : n < 4) (hs : c.scanMode n = false) (h : c.g (CONV_CTL_REG_TRIG n) ≠ 1) :
    doConvReqRegSw n c = (c.p (CONV_REQ_REG_SW n) 0).regTrigger n 0 := by
  have hf : c.Frame [CONV_REQ n] (c.p (CONV_REQ_REG_SW n) 0) := frame_p (frame_refl _ _) List.mem_cons_self
  have hs' := (hf.scanMode (adcCtl_not_convReq n) n).trans hs
  have hg := hf.g (f := CONV_CTL_REG_TRIG n) (convCtl_not_convReq n n)
  rw [doConvReqRegSw, if_neg (by omega)]
  refine if_neg (not_or.2 ⟨fun e => ?_, fun e => h (hg ▸ e)⟩)
  exact absurd (hs'.symm.trans e) (by decide)

/-- What a request taken and acting leaves: the converter begun, the request bit at 0, the rest as before. -/
theorem request_taken (c : Chan) {n : Nat} {f : Fld} (v : Conv) (hf : f.ok = true) (hr : f.reg = CONV_REQ n) :
    ((c.p f 0).setConv n v).adc = { c.adc with conv := c.adc.conv.set n v } ∧ ((c.p f 0).setConv n v).g f = 0 ∧
      c.Frame [CONV_REQ n] ((c.p f 0).setConv n v) ∧ { (c.p f 0).setConv n v with regs := c.regs, adc := c.adc } = c :=
  ⟨rfl, (Chan.g_p_same c f 0 hf).trans (Nat.zero_mod _), frame_regs (frame_p (frame_refl _ _) (hr ▸ List.mem_cons_self)) rfl, rfl⟩

/-- A regular trigger of the kind that REG_TRIG selects acts (R77). -/
theorem doAdcRegTrigger_acts {c : Chan} {n src : Nat} (hn : n < 4) (hs : c.scanMode n = false) (h2 : 2 ≤ src) (h4 : src ≤ 4)
    (h : c.g (CONV_CTL_REG_TRIG n) = src) : doAdcRegTrigger n src c = c.regTrigger n (if src = 4 then 1 else 0) := by
  rw [doAdcRegTrigger, if_neg (by simp [hs, h]; omega), b2n]
  simp only [beq_iff_eq]

/-- Settles O15: an idle converter by `injTrigger_idle` and `regTrigger_idle`, a running one by `injOver_run`. -/
theorem converterTriggers : Obligations.ConverterTriggers := by
  intro s t ch n bits c b started regular ho hk
  refine ⟨fun hn hon hi hr => ⟨?injected, ?injSoftware, ?regSoftware, ?regular⟩, ?scan, ?overrun⟩
  case injected =>
    intro hb
    refine actsOn_live (c := c) rfl rfl ho ?_
    rw [doAdcInjTrigger, if_neg (by omega)]
    exact injTrigger_idle hk hon hi hr hb
  case injSoftware =>
    intro hsw
    have hf : c.Frame [CONV_REQ n] (c.p (CONV_REQ_INJ_SW n) 0) := frame_p (frame_refl _ _) List.mem_cons_self
    have hon' := (hf.convOn (adcCtl_not_convReq n) n).trans hon
    refine actsOn_live (c := c) rfl rfl ho ?_
    rw [doConvReqInjSw_acts hn hsw, injTrigger_idle (c := c.p _ 0) hk hon' hi hr (by decide), Chan.injBegun_frame _ _ _ (fun e => convCtl_not_convReq n n (List.mem_singleton.2 e))]
    exact request_taken c _ rfl rfl
  case regSoftware =>
    intro hs hg
    have hf : c.Frame [CONV_REQ n] (c.p (CONV_REQ_REG_SW n) 0) := frame_p (frame_refl _ _) List.mem_cons_self
    have hon' := (hf.convOn (adcCtl_not_convReq n) n).trans hon
    have hs' := (hf.scanMode (adcCtl_not_convReq n) n).trans hs
    refine actsOn_live (c := c) rfl rfl ho ?_
    rw [doConvReqRegSw_acts hn hs hg, regTrigger_idle (c := c.p _ 0) (k := 0) hk hon' 0 hi hr (by rw [hs']; rfl)]
    exact request_taken c _ rfl rfl
  case regular =>
    intro src hs h2 h4 hg
    refine actsOn_live (c := c) rfl rfl ho ?_
    rw [doAdcRegTrigger_acts hn hs h2 h4 hg]
    exact regTrigger_idle hk hon _ hi hr (by rw [hs]; rfl)
  case scan =>
    intro k hs hon hi hr hm
    refine actsOn_live (c := c) rfl rfl ho ?_
    rw [doAdcScanTick, if_pos hs]
    exact regTrigger_idle hk hon 0 hi hr (by rw [hs, if_pos rfl, hm])
  case overrun =>
    intro q hn hon hb hq ht ha
    refine actsOn_live (c := c) rfl rfl ho ?_
    rw [doAdcInjTrigger, if_neg (by omega), injTrigger_late hk hon hq ht hb]
    exact injOver_run hn ho ha

/-! ### FIFOs (R88) -/

theorem doFifoDataRead_empty {c : Chan} {n : Nat} (hn : n < 4) (h : (c.conv n).fifo = []) : doFifoDataRead n c = c.wr (FIFO_DATA n) 0 := by
  rw [doFifoDataRead, if_neg (by omega)]
  simp only [h]

/-- An entry taken from FIFO `n`: its word in FIFO_DATA, its time in the two words beside it, the entries behind it left. -/
def Chan.fifoTaken (c : Chan) (n : Nat) (e : FifoEntry) (es : List FifoEntry) : Chan :=
  (((c.setConv n { c.conv n with fifo := es }).wr (FIFO_DATA n) e.word).wr (FIFO_TIME_LO n) (e.time % 2 ^ 32)).wr (FIFO_TIME_HI n) (e.time / 2 ^ 32)

theorem doFifoDataRead_entry {c : Chan} {n : Nat} {e : FifoEntry} {es : List FifoEntry} (hn : n < 4) (h : (c.conv n).fifo = e :: es) :
    doFifoDataRead n c = c.fifoTaken n e es := by
  rw [doFifoDataRead, if_neg (by omega)]
  simp only [h]
  rfl

theorem doFifoFlush_eq (c : Chan) {n : Nat} (hn : n < 4) :
    doFifoFlush n c = ((c.setConv n { c.conv n with fifo := [] }).wr (FIFO_OVF_COUNT n) 0).p (FIFO_CTL_FLUSH n) 0 := by
  rw [doFifoFlush, if_neg (by omega)]
  rfl

/-- The registers of a FIFO lie apart. -/
theorem fifo_registers_apart (n : Nat) : FIFO_DATA n ≠ FIFO_TIME_LO n ∧ FIFO_DATA n ≠ FIFO_TIME_HI n ∧ FIFO_TIME_LO n ≠ FIFO_TIME_HI n ∧
    FIFO_OVF_COUNT n ≠ FIFO_CTL n := by
  simp only [FIFO_DATA, FIFO_TIME_LO, FIFO_TIME_HI, FIFO_OVF_COUNT, FIFO_CTL]
  omega

theorem fifoTaken_word (c : Chan) (n : Nat) {e : FifoEntry} (es : List FifoEntry) (h : e.word < 2 ^ 32) : (c.fifoTaken n e es).rd (FIFO_DATA n) = e.word := by
  obtain ⟨hlo, hhi, -, -⟩ := fifo_registers_apart n
  rw [Chan.fifoTaken, Chan.rd_wr_other _ _ _ _ hhi, Chan.rd_wr_other _ _ _ _ hlo, Chan.rd_wr_same, Nat.mod_eq_of_lt h]

theorem fifoTaken_time (c : Chan) (n : Nat) {e : FifoEntry} (es : List FifoEntry) (h : e.time < 2 ^ 64) :
    (c.fifoTaken n e es).rd (FIFO_TIME_HI n) * 2 ^ 32 + (c.fifoTaken n e es).rd (FIFO_TIME_LO n) = e.time := by
  obtain ⟨-, -, hlh, -⟩ := fifo_registers_apart n
  rw [Chan.fifoTaken, Chan.rd_wr_same, Chan.rd_wr_other _ _ _ _ hlh, Chan.rd_wr_same]
  omega

/-- Settles O16: the entry's two words, the empty FIFO, the flush. -/
theorem converterFifos : Obligations.ConverterFifos := by
  intro s t ch n c ho hn
  refine ⟨?entry, ?empty, ?flush⟩
  case entry =>
    intro e es he hw ht
    refine actsOn_live (c := c) rfl rfl ho ?_
    rw [doFifoDataRead_entry hn he]
    exact ⟨fifoTaken_word c n es hw, fifoTaken_time c n es ht, rfl,
      frame_wr (frame_wr (frame_wr (c := c.setConv n _) (frame_regs (frame_refl _ _) rfl) (by simp)) (by simp)) (by simp), rfl⟩
  case empty =>
    intro he
    refine actsOn_live (c := c) rfl rfl ho ?_
    rw [doFifoDataRead_empty hn he]
    exact ⟨Chan.rd_wr_same _ _ _, Chan.regsOnly_wr _ _ _⟩
  case flush =>
    obtain ⟨-, -, -, hoc⟩ := fifo_registers_apart n
    refine actsOn_live (c := c) rfl rfl ho ?_
    rw [doFifoFlush_eq c hn]
    refine ⟨rfl, ?_, frame_p (frame_wr (c := c.setConv n _) (frame_regs (frame_refl _ _) rfl) (by simp)) (by simp [FIFO_CTL_FLUSH]), rfl⟩
    exact (Chan.rd_p_other _ _ _ _ hoc).trans (Chan.rd_wr_same _ _ _)

/-! ### The stall (R91) -/

/-- Settles O18: the stall raises its source. -/
theorem converterStall : Obligations.ConverterStall := by
  intro s t ch c ho ha
  exact actsOn_live (c := c) rfl rfl ho ⟨raise_latched _ _ (by decide) ho ha, reacted_raise _ (frame_refl _ _) (kept_refl _), fun h3 => raise_fault _ _ ho ha h3 (by decide)⟩

end Sys2Proof.Machine
end

section
/-! PROOFS. The skim slices: start, verdict, abort, the coverage cycle and the pass (R329 to R337, R339, R352): O42. -/

namespace Sys2Proof.Machine
open Sys2Proof

/-! ### SKIM's part beside the registers -/

@[simp] theorem Chan.g_onSkim (c : Chan) (f : Skim → Skim) (k : Fld) : (c.onSkim f).g k = c.g k := rfl
@[simp] theorem Chan.b_onSkim (c : Chan) (f : Skim → Skim) (k : Fld) : (c.onSkim f).b k = c.b k := rfl
@[simp] theorem Chan.b_answer (c : Chan) (op : ChOp) (status : Nat) (words : List Nat) (k : Fld) : (c.answer op status words).b k = c.b k := rfl
theorem frame_onSkim {l : List Nat} {c0 c : Chan} {f : Skim → Skim} (h : c0.Frame l c) : c0.Frame l (c.onSkim f) := fun a ha => h a ha

/-! ### Flags and sources -/

/-- A flag stands in one bit of its register. -/
theorem Chan.b_eq_testBit (c : Chan) {f : Fld} (h : f.hi = f.lo) : c.b f = (c.rd f.reg).testBit f.lo := by
  rw [Chan.b, Chan.g, bitsOf, h, Nat.add_sub_cancel_left, Nat.testBit_eq_decide_div_mod_eq]
  rfl

/-- In OFF a command to a live channel does nothing. -/
theorem actsOn_live_off {i : Instr} {s : State} {t : Tick} {ch : Ch} {f : Chan → Chan} {c : Chan} (hc : s.m.seen t ch = c) (he : exec i s = s.live t ch f)
    (ho : c.state = OFF) : ActsOn i s t ch (fun d => d = c) := actsOn_chan hc he (if_pos ho)

/-- No register of skim and of its slices' units is one of the reaction's. -/
theorem skim_registers_calm : ∀ a ∈ [SKIM_REQ, SKIM_STATUS, SKIM_DONE, SKIM_ABORTS, SKIM_FAIL_INFO, SCRUB_POS, SKIM_IRQ_STATUS, CORE_STATUS, LINK_STAT 0, LINK_STAT 1, LINK_STAT 2,
    LINK_STAT 3, LINK_STAT 4, LINK_STAT 5, LINK_STAT 6, LINK_STAT 7], reactionRegs.contains a = false := by decide

/-- The sources that the verdict of a slice may raise (R330). -/
def skimSources : List Src := [REFINJ_FAIL, ⟨2, 13⟩, SKIM_TEST_FAIL, DTC_STENCIL_ECC, CORE_PAIR]

theorem skimSources_bit : ∀ s ∈ skimSources, s.bit < 16 ∧ s.bit ≠ SKIM_ABORT_SRC.bit := by decide

/-- A slice writes no severity of its sources. -/
theorem skimSources_sev : ∀ s ∈ skimSources, reactionRegs.contains s.sevAt.1 = false ∧
    s.sevAt.1 ∉ [SKIM_STATUS, SKIM_DONE, SKIM_SRC_STATUS, SKIM_FAIL_INFO, SCRUB_POS, CORE_STATUS] := by decide

/-! ### The start of a slice (R329, R335, R337, R339) -/

/-- A slice of class `cls` may start on a unit: no slice in progress, the class enabled, the unit one of its and free, no abort within 20 µs, no commit over
its registers. -/
def Chan.skimMay (c : Chan) (cls unit : Nat) : Bool :=
  c.skim.cur.isNone && !c.skim.stopped && c.gb SKIM_CTL_EN cls && (c.skimUnits cls).contains unit && c.unitFree cls unit &&
    !c.skim.redo.any (fun r => r.cls == cls && r.unit == unit && !c.since r.at_ (us 20)) && !(regfSlice cls unit && c.ctl.commit.isSome)

theorem doSkimSliceStart_not {c : Chan} {cls unit : Nat} (h : c.skimMay cls unit = false) : doSkimSliceStart cls unit c = c := by
  unfold doSkimSliceStart
  extract_lets again
  refine if_pos ?_
  by_contra hn
  simp only [not_or, not_and, Bool.not_eq_true', Bool.not_eq_true, Bool.not_eq_false] at hn
  obtain ⟨hcur, hst, hen, hun, hfree, hag, hreg⟩ := hn
  have hr : (regfSlice cls unit && c.ctl.commit.isSome) = false := by
    cases hq : regfSlice cls unit
    · rfl
    · exact hreg hq
  rw [Option.isSome_eq_false_iff] at hcur
  rw [Chan.skimMay, hcur, hst, hen, hun, hfree, hr, show (c.skim.redo.any _) = false from hag] at h
  exact absurd h (by decide)

/-- The channel with a slice in progress. -/
def Chan.skimStarted (c : Chan) (cls unit : Nat) : Chan :=
  ((c.onSkim (fun k => { k with cur := some ⟨cls, unit, c.now⟩, spare := if cls = 1 then some (c.dcmpSet unit) else none })).p SKIM_STATUS_BUSY 1).p SKIM_STATUS_CLASS cls

theorem doSkimSliceStart_may {c : Chan} {cls unit : Nat} (h : c.skimMay cls unit = true) : doSkimSliceStart cls unit c = c.skimStarted cls unit := by
  simp only [Chan.skimMay, Bool.and_eq_true, Bool.not_eq_true', Option.isNone_iff_eq_none] at h
  obtain ⟨⟨⟨⟨⟨⟨hcur, hst⟩, hen⟩, hun⟩, hfree⟩, hag⟩, hreg⟩ := h
  unfold doSkimSliceStart
  extract_lets again
  have hag' : again = false := hag
  have hreg' : ¬ (regfSlice cls unit = true ∧ c.ctl.commit.isSome = true) := by simpa using hreg
  refine if_neg ?_
  simp only [hcur, hst, hen, hun, hfree, hag', hreg', Option.isSome_none, Bool.not_true, Bool.false_eq_true, or_self, not_false_eq_true]

theorem skimStarted_status (c : Chan) {cls : Nat} (unit : Nat) (h : cls < 10) :
    (c.skimStarted cls unit).b SKIM_STATUS_BUSY = true ∧ (c.skimStarted cls unit).g SKIM_STATUS_CLASS = cls := by
  constructor
  · rw [Chan.skimStarted, Chan.b_p_other _ _ _ _ rfl rfl rfl]
    exact Chan.b_p_one _ _ rfl
  · rw [Chan.skimStarted, Chan.g_p_same _ _ _ rfl]
    exact Nat.mod_eq_of_lt (h.trans (by decide))

theorem frame_skimStarted (c : Chan) (cls unit : Nat) : c.Frame [SKIM_STATUS] (c.skimStarted cls unit) :=
  frame_p (frame_p (frame_onSkim (frame_refl _ _)) (by decide)) (by decide)

/-! ### A slice over (R330, R335, R352) -/

/-- SKIM after slice `r` has been done: covered in the cycle and in the pass, and waited for no longer. -/
def Skim.covered (k : Skim) (r : SkimRun) : Skim :=
  { k with
    cur := none, spare := none
    redo := k.redo.filter (fun x => !(x.cls == r.cls && x.unit == r.unit))
    cov := bump k.cov r.cls (fun m => setBit m r.unit true)
    passCov := bump k.passCov r.cls (fun m => setBit m r.unit true) }

/-- Slice `r` is over: covered, BUSY and CLASS clear, and the registers outside those of the end, a list and the reaction as before. -/
structure Chan.SliceOver (l : List Nat) (r : SkimRun) (c e : Chan) : Prop where
  skim : e.skim = c.skim.covered r
  busy : e.b SKIM_STATUS_BUSY = false
  cls : e.g SKIM_STATUS_CLASS = 0
  frame : c.Frame (SKIM_STATUS :: SKIM_DONE :: (l ++ reactionRegs)) e

/-- What does not write SKIM_STATUS leaves the slice over. -/
theorem Chan.SliceOver.calm {l : List Nat} {r : SkimRun} {c d e : Chan} (h : c.SliceOver l r d) (hf : d.Frame (l ++ reactionRegs) e) (hl : SKIM_STATUS ∉ l)
    (hs : e.skim = d.skim) : c.SliceOver l r e := by
  have hn : SKIM_STATUS ∉ l ++ reactionRegs := by
    rw [List.mem_append, not_or]
    exact ⟨hl, by decide⟩
  exact ⟨hs.trans h.skim, (hf.b (f := SKIM_STATUS_BUSY) hn).trans h.busy, (hf.g (f := SKIM_STATUS_CLASS) hn).trans h.cls,
    frame_trans h.frame (frame_mono hf fun _ hx => List.mem_cons_of_mem _ (List.mem_cons_of_mem _ hx))⟩

theorem Chan.SliceOver.wr {l : List Nat} {r : SkimRun} {c d : Chan} (h : c.SliceOver l r d) {a v : Nat} (ha : a ∈ l) (hl : SKIM_STATUS ∉ l) : c.SliceOver l r (d.wr a v) :=
  h.calm (frame_wr (frame_refl _ _) (List.mem_append_left _ ha)) hl rfl

theorem Chan.SliceOver.react {l : List Nat} {r : SkimRun} {c d e : Chan} (h : c.SliceOver l r d) (hl : SKIM_STATUS ∉ l) (k : d.Reacts false e) : c.SliceOver l r e :=
  h.calm (frame_react (frame_refl _ _) k) hl k.skim

/-- The channel with slice `r` over and counted in SKIM_DONE.NOW. -/
def Chan.skimClosed (c : Chan) (r : SkimRun) : Chan :=
  let d := c.skimIdle.onSkim (fun k => k.covered r)
  d.p SKIM_DONE_NOW d.skimDone

/-- An aborted slice of the class and the unit waits to be scheduled again. -/
def Chan.skimAgain (c : Chan) (r : SkimRun) : Bool := c.skim.redo.any (fun x => x.cls == r.cls && x.unit == r.unit)

/-- The channel with slice `r` over, before its verdict. -/
def Chan.skimCovered (c : Chan) (r : SkimRun) : Chan := c.skimIdle.skimCover r

theorem skimCovered_eq (c : Chan) (r : SkimRun) : c.skimCovered r =
    if c.skimAgain r && (c.skim.covered r).redo.isEmpty then (c.skimClosed r).clear SKIM_ABORT_SRC else c.skimClosed r := rfl

theorem skimCovered_alone {c : Chan} {r : SkimRun} (h : c.skimAgain r = false) : c.skimCovered r = c.skimClosed r := by
  rw [skimCovered_eq, h]
  rfl

theorem skimCovered_cases (c : Chan) (r : SkimRun) : c.skimCovered r = c.skimClosed r ∨ c.skimCovered r = (c.skimClosed r).clear SKIM_ABORT_SRC := by
  rw [skimCovered_eq]
  split_ifs
  · exact .inr rfl
  · exact .inl rfl

theorem frame_skimIdle (c : Chan) : c.Frame [SKIM_STATUS] c.skimIdle := frame_p (frame_p (frame_onSkim (frame_refl _ _)) (by decide)) (by decide)

theorem frame_skimClosed (c : Chan) (r : SkimRun) : c.Frame [SKIM_STATUS, SKIM_DONE] (c.skimClosed r) :=
  frame_p (frame_onSkim (frame_mono (frame_skimIdle c) (by decide))) (by decide)

theorem skimIdle_status (c : Chan) : c.skimIdle.b SKIM_STATUS_BUSY = false ∧ c.skimIdle.g SKIM_STATUS_CLASS = 0 := by
  constructor
  · rw [Chan.skimIdle, Chan.b_p_other _ _ _ _ rfl rfl rfl]
    exact Chan.b_p_zero _ _ rfl
  · rw [Chan.skimIdle, Chan.g_p_same _ _ _ rfl]
    rfl

theorem sliceOver_closed (l : List Nat) (c : Chan) (r : SkimRun) : c.SliceOver l r (c.skimClosed r) where
  skim := rfl
  busy := (Chan.b_p_other _ _ _ _ rfl rfl rfl).trans (skimIdle_status c).1
  cls := (Chan.g_p_reg _ _ _ _ (by decide)).trans (skimIdle_status c).2
  frame := frame_mono (frame_skimClosed c r) (by simp)

theorem sliceOver_covered {l : List Nat} (c : Chan) (r : SkimRun) (hl : SKIM_STATUS ∉ l) : c.SliceOver l r (c.skimCovered r) := by
  rcases skimCovered_cases c r with h | h <;> rw [h]
  · exact sliceOver_closed l c r
  · exact (sliceOver_closed l c r).react hl (react_clear (react_refl _))

theorem frame_skimCovered (c : Chan) (r : SkimRun) : c.Frame [SKIM_STATUS, SKIM_DONE, SKIM_SRC_STATUS] (c.skimCovered r) := by
  have hf : c.Frame [SKIM_STATUS, SKIM_DONE, SKIM_SRC_STATUS] (c.skimClosed r) := frame_mono (frame_skimClosed c r) (by decide)
  rcases skimCovered_cases c r with h | h <;> rw [h]
  · exact hf
  · refine fun a ha => (Chan.rd_clear_other _ _ ?_).trans (hf a ha)
    rintro rfl
    exact ha (by decide)

/-- Of the sources the end of a slice changes SKIM_ABORT alone. -/
theorem srcActive_skimCovered (c : Chan) (r : SkimRun) {s : Src} (hs : s ∈ skimSources) : (c.skimCovered r).srcActive s = c.srcActive s := by
  obtain ⟨hb, hne⟩ := skimSources_bit s hs
  have hf := (frame_skimClosed c r).srcActive (src_not_mem s fun a ha => skim_registers_calm a (by revert a; decide))
  rcases skimCovered_cases c r with h | h <;> rw [h]
  · exact hf
  · rw [Chan.srcActive_clear_other _ hne hb, hf]

theorem state_skimCovered (c : Chan) (r : SkimRun) : (c.skimCovered r).state = c.state := (frame_skimCovered c r).state (by decide)

theorem sevOf_skimCovered (c : Chan) (r : SkimRun) {s : Src} (hs : s ∈ skimSources) : (c.skimCovered r).sevOf s = c.sevOf s := by
  refine (frame_skimCovered c r).sevOf fun hm => (skimSources_sev s hs).2 ?_
  revert hm
  generalize s.sevAt.1 = a
  simp only [List.mem_cons, List.not_mem_nil, or_false]
  tauto

/-! ### The pass (R337, R420) -/

theorem passCheck_idle {c : Chan} (h : c.b SKIM_STATUS_PASS_RUN = false) : c.passCheck = c := by
  rw [Chan.passCheck, h]
  rfl

theorem frame_passCheck (c : Chan) : c.Frame [SKIM_STATUS] c.passCheck := by
  unfold Chan.passCheck
  split_ifs
  · exact frame_answer (frame_p (frame_refl _ _) (by decide))
  · exact frame_refl _ _

theorem passCheck_skim (c : Chan) : c.passCheck.skim = c.skim := by
  unfold Chan.passCheck
  split_ifs <;> rfl

/-- The check of the pass writes PASS_RUN alone. -/
theorem passCheck_status (c : Chan) : c.passCheck.b SKIM_STATUS_BUSY = c.b SKIM_STATUS_BUSY ∧ c.passCheck.g SKIM_STATUS_CLASS = c.g SKIM_STATUS_CLASS := by
  unfold Chan.passCheck
  split_ifs
  · exact ⟨Chan.b_p_other c SKIM_STATUS_PASS_RUN SKIM_STATUS_BUSY 0 rfl rfl rfl, Chan.g_p_other c SKIM_STATUS_PASS_RUN SKIM_STATUS_CLASS 0 rfl rfl rfl⟩
  · exact ⟨rfl, rfl⟩

theorem Chan.SliceOver.passCheck {l : List Nat} {r : SkimRun} {c d : Chan} (h : c.SliceOver l r d) : c.SliceOver l r d.passCheck where
  skim := (passCheck_skim d).trans h.skim
  busy := (passCheck_status d).1.trans h.busy
  cls := (passCheck_status d).2.trans h.cls
  frame := frame_trans h.frame (frame_mono (frame_passCheck d) (by simp))

theorem srcLatched_passCheck (c : Chan) (s : Src) : c.passCheck.srcLatched s = c.srcLatched s :=
  (frame_passCheck c).srcLatched (src_not_mem s fun a ha => skim_registers_calm a (by revert a; decide))

end Sys2Proof.Machine
end

section
/-! PROOFS. The verdicts of the skim slices (R91, R93, R330 to R334): O42. -/

namespace Sys2Proof.Machine
open Sys2Proof

/-! ### What the verdicts read of the registers -/

theorem Chan.Frame.members {l : List Nat} {c d : Chan} (h : c.Frame l d) (hl : ADC_CTL ∉ l) (n : Nat) : d.members n = c.members n := by
  simp only [Chan.members, h.b (f := ADC_CTL_PAIR_EN) hl]

/-- An entry of an image masks out a register without RWC fields. -/
theorem Chan.Frame.entry {l : List Nat} {c d : Chan} (h : c.Frame l d) (hl : ∀ a ∈ l, rwcBits a = 0) (a : Nat) : d.entry false a = c.entry false a := by
  simp only [Chan.entry, Bool.false_eq_true, if_false]
  by_cases ha : a ∈ l
  · rw [hl a ha, Nat.and_zero, Nat.and_zero]
  · rw [h a ha]

/-- The CRC of a block's RWC fields does not see registers that have none (R333). -/
theorem Chan.Frame.regfCrc {l : List Nat} {c d : Chan} (h : c.Frame l d) (hl : ∀ a ∈ l, rwcBits a = 0) (k : Nat) : d.regfCrc k = c.regfCrc k := by
  rw [Chan.regfCrc, List.map_congr_left fun a _ => h.entry hl a, Chan.regfCrc]

theorem rwcBits_skim_status : ∀ a ∈ [SKIM_STATUS, SKIM_DONE, SKIM_SRC_STATUS], rwcBits a = 0 := by decide

theorem regfRef_not_status (n : Nat) : REGF_REF n ∉ [SKIM_STATUS, SKIM_DONE, SKIM_SRC_STATUS] := by
  simp only [REGF_REF, SKIM_STATUS, SKIM_DONE, SKIM_SRC_STATUS, List.mem_cons, List.not_mem_nil, or_false]
  omega

/-! ### The verdict of a slice without counters of its own -/

/-- A REFINJ conversion misses the reference of its slice's level by more than the tolerance (R91, R93). -/
def Chan.skimMiss (c : Chan) (r : SkimRun) (raw : Nat) : Bool :=
  decide (c.g REFINJ_CTL_TOL < ((raw : Int) - 1024 * ((r.unit % 3 : Nat) + 1)).natAbs)

/-- The step at which a DCMP slice fails, 0 where it passes (R331). -/
def skimStep (raw raw1 : Nat) (ok : Bool) : Nat := if !ok then 2 else if raw != 0 && raw1 == 0 then 0 else 3

/-- The CRC that a REGF slice has computed (R333). -/
def Chan.skimSum (c : Chan) (r : SkimRun) (ok : Bool) (detail : Nat) : Nat := if ok then c.regfCrc r.unit else detail

/-- The unit has failed its test (R330 to R333). -/
def Chan.skimBad (c : Chan) (r : SkimRun) (raw raw1 : Nat) (ok : Bool) (detail : Nat) : Bool :=
  if r.cls = 0 then c.skimMiss r raw || (decide (1 < (c.members (r.unit / 3)).length) && c.skimMiss r raw1)
  else if r.cls = 1 then skimStep raw raw1 ok != 0
  else if r.cls = 6 then !(ok && c.skimSum r ok detail == c.rd (REGF_REF r.unit)) else !ok

/-- The source of a class's failure. -/
def skimSource (cls : Nat) : Src := if cls = 0 then REFINJ_FAIL else if cls = 3 then ⟨2, 13⟩ else SKIM_TEST_FAIL

theorem skimSource_mem (cls : Nat) : skimSource cls ∈ skimSources := by
  unfold skimSource
  split_ifs <;> decide

/-- The index and the detail in SKIM_FAIL_INFO of a failed slice. -/
def Chan.skimFound (c : Chan) (r : SkimRun) (raw raw1 : Nat) (ok : Bool) (detail : Nat) : Nat :=
  if r.cls = 0 then r.unit / 3 % 16 * 2 ^ 24
  else r.unit % 16 * 2 ^ 24 + (if r.cls = 1 then skimStep raw raw1 ok else if r.cls = 6 then c.skimSum r ok detail % 65536 else 0)

/-- A failed slice whose SKIM_FAIL_INFO holds `info`. -/
def Chan.skimTell (c : Chan) (info : Nat) (s : Src) : Chan := (c.wr SKIM_FAIL_INFO info).raise s

theorem skimFail_eq (c : Chan) (cls unit detail : Nat) (s : Src) : c.skimFail cls unit detail s = c.skimTell (cls * 2 ^ 28 + unit % 16 * 2 ^ 24 + detail % 65536) s := rfl

theorem skimFail_plain (c : Chan) (cls unit : Nat) (s : Src) : c.skimFail cls unit 0 s = c.skimTell (cls * 2 ^ 28 + unit % 16 * 2 ^ 24) s := by
  rw [skimFail_eq, Nat.zero_mod, Nat.add_zero]

theorem dcmpStep_eq (raw raw1 : Nat) (ok : Bool) : dcmpStep ok (raw != 0) (raw1 != 0) = skimStep raw raw1 ok := by
  simp [dcmpStep, skimStep]

theorem skimStep_lt (raw raw1 : Nat) (ok : Bool) : skimStep raw raw1 ok < 65536 := by
  unfold skimStep
  split_ifs <;> decide

theorem refMiss_eq (c : Chan) (r : SkimRun) (raw : Nat) : c.refMiss (r.unit % 3) raw = c.skimMiss r raw := by
  rw [Chan.refMiss, Chan.skimMiss, refCode, Bool.eq_iff_iff, Nat.blt_eq, decide_eq_true_eq]
  push_cast
  rfl

/-- What a verdict without counters of its own leaves: nothing where the unit is good, else the failure told. -/
def Chan.skimJudged (c : Chan) (r : SkimRun) (raw raw1 : Nat) (ok : Bool) (detail : Nat) : Chan :=
  if c.skimBad r raw raw1 ok detail then c.skimTell (r.cls * 2 ^ 28 + c.skimFound r raw raw1 ok detail) (skimSource r.cls) else c

section
variable (c : Chan) {r : SkimRun} (raw raw1 : Nat) (ok : Bool) (detail : Nat)

theorem skimVerdict_refinj (h : r.cls = 0) : c.skimVerdict r raw raw1 ok detail = c.skimJudged r raw raw1 ok detail := by
  have hm : ∀ x, c.refMiss (r.unit % 3) x = c.skimMiss r x := refMiss_eq c r
  have hpair : Nat.blt 1 (c.members (r.unit / 3)).length = decide (1 < (c.members (r.unit / 3)).length) := by rw [Bool.eq_iff_iff, Nat.blt_eq, decide_eq_true_eq]
  obtain ⟨cls, unit, at_⟩ := r
  subst h
  simp only [Chan.skimVerdict, hm, hpair, Chan.skimJudged, Chan.skimBad, Chan.skimFound, if_pos, skimFail_plain, skimSource]

theorem skimVerdict_dcmp (h : r.cls = 1) : c.skimVerdict r raw raw1 ok detail = c.skimJudged r raw raw1 ok detail := by
  obtain ⟨cls, unit, at_⟩ := r
  subst h
  simp only [Chan.skimVerdict, dcmpStep_eq, Chan.skimJudged, Chan.skimBad, Chan.skimFound, skimFail_eq, Nat.mod_eq_of_lt (skimStep_lt raw raw1 ok)]
  by_cases hs : skimStep raw raw1 ok = 0
  · simp [hs]
  · simp [hs, skimSource, Nat.add_assoc]

/-- WCMP, SINC and CVU slices are judged by the test alone. -/
theorem skimVerdict_tested (h : r.cls = 2 ∨ r.cls = 3 ∨ r.cls = 4) : c.skimVerdict r raw raw1 ok detail = c.skimJudged r raw raw1 ok detail := by
  obtain ⟨cls, unit, at_⟩ := r
  rcases h with rfl | rfl | rfl
  all_goals
    simp only [Chan.skimVerdict, Chan.skimJudged, Chan.skimBad, Chan.skimFound, skimFail_plain]
    cases ok <;> simp [skimSource]

theorem skimVerdict_regf (h : r.cls = 6) : c.skimVerdict r raw raw1 ok detail = c.skimJudged r raw raw1 ok detail := by
  obtain ⟨cls, unit, at_⟩ := r
  subst h
  simp only [Chan.skimVerdict, Chan.skimJudged, Chan.skimBad, Chan.skimFound, skimFail_eq, Chan.skimSum]
  cases ok && (if ok then c.regfCrc unit else detail) == c.rd (REGF_REF unit) <;> simp [skimSource, Nat.add_assoc]

theorem skimVerdict_judged (h : r.cls ∈ [0, 1, 2, 3, 4, 6]) : c.skimVerdict r raw raw1 ok detail = c.skimJudged r raw raw1 ok detail := by
  simp only [List.mem_cons, List.not_mem_nil, or_false] at h
  rcases h with h | h | h | h | h | h
  · exact skimVerdict_refinj c raw raw1 ok detail h
  · exact skimVerdict_dcmp c raw raw1 ok detail h
  · exact skimVerdict_tested c raw raw1 ok detail (.inl h)
  · exact skimVerdict_tested c raw raw1 ok detail (.inr (.inl h))
  · exact skimVerdict_tested c raw raw1 ok detail (.inr (.inr h))
  · exact skimVerdict_regf c raw raw1 ok detail h
end

/-- The end of a slice writes nothing that its verdict reads. -/
theorem skimSum_covered (c : Chan) (r : SkimRun) (ok : Bool) (detail : Nat) : (c.skimCovered r).skimSum r ok detail = c.skimSum r ok detail := by
  rw [Chan.skimSum, (frame_skimCovered c r).regfCrc rwcBits_skim_status, Chan.skimSum]

theorem skimBad_covered (c : Chan) (r : SkimRun) (raw raw1 : Nat) (ok : Bool) (detail : Nat) :
    (c.skimCovered r).skimBad r raw raw1 ok detail = c.skimBad r raw raw1 ok detail := by
  have hf := frame_skimCovered c r
  have hm : ∀ x, (c.skimCovered r).skimMiss r x = c.skimMiss r x := fun x => by rw [Chan.skimMiss, hf.g (by decide), Chan.skimMiss]
  simp only [Chan.skimBad, hm, hf.members (by decide), skimSum_covered, hf _ (regfRef_not_status r.unit)]

theorem skimFound_covered (c : Chan) (r : SkimRun) (raw raw1 : Nat) (ok : Bool) (detail : Nat) :
    (c.skimCovered r).skimFound r raw raw1 ok detail = c.skimFound r raw raw1 ok detail := by
  simp only [Chan.skimFound, skimSum_covered]

/-- CLASS, INDEX and DETAIL fit in the word. -/
theorem skimFound_lt (c : Chan) (r : SkimRun) (raw raw1 : Nat) (ok : Bool) (detail : Nat) : c.skimFound r raw raw1 ok detail < 2 ^ 28 := by
  have hstep := skimStep_lt raw raw1 ok
  rw [Chan.skimFound]
  split_ifs <;> omega

/-! ### A failure told (R330) -/

/-- A slice over with its failure told: SKIM_FAIL_INFO, the source latched, FAULT at its severity. -/
structure Chan.SliceFailed (l : List Nat) (info : Nat) (s : Src) (r : SkimRun) (c e : Chan) : Prop where
  info : e.rd SKIM_FAIL_INFO = info
  latched : e.srcLatched s = true
  fault : 3 ≤ c.sevOf s → e.state = FAULT
  ended : c.SliceOver l r e

section
variable {l : List Nat} {r : SkimRun} {c d : Chan}

theorem Chan.SliceFailed.passCheck {info : Nat} {s : Src} (h : c.SliceFailed l info s r d) : c.SliceFailed l info s r d.passCheck where
  info := (frame_passCheck d _ (by decide)).trans h.info
  latched := (srcLatched_passCheck d s).trans h.latched
  fault := fun h3 => ((frame_passCheck d).state (by decide)).trans (h.fault h3)
  ended := h.ended.passCheck

/-- A channel in which a slice is over tells its failure. -/
theorem Chan.SliceOver.tell (h : c.SliceOver l r d) {info : Nat} {s : Src} (hl : SKIM_FAIL_INFO ∈ l) (hls : SKIM_STATUS ∉ l) (hs : s ∈ skimSources) (ho : d.state ≠ OFF)
    (ha : d.srcActive s = false) (hv : d.sevOf s = c.sevOf s) (hi : info < 2 ^ 32) : c.SliceFailed l info s r (d.skimTell info s) := by
  have hb := (skimSources_bit s hs).1
  obtain ⟨hcalm, hsev⟩ := skimSources_sev s hs
  have hw : d.Frame [SKIM_FAIL_INFO] (d.wr SKIM_FAIL_INFO info) := frame_wr (frame_refl _ _) List.mem_cons_self
  have hr : (d.wr SKIM_FAIL_INFO info).Reacts false (d.skimTell info s) := react_raise (react_refl _)
  have ho' : (d.wr SKIM_FAIL_INFO info).state ≠ OFF := by rwa [hw.state (by decide)]
  have ha' : (d.wr SKIM_FAIL_INFO info).srcActive s = false := by
    rwa [hw.srcActive (src_not_mem s fun a hm => skim_registers_calm a (by revert a; decide))]
  have hv' : (d.wr SKIM_FAIL_INFO info).sevOf s = c.sevOf s := (hw.sevOf fun hm => hsev (by
    rw [List.mem_singleton.1 hm]
    decide)).trans hv
  exact {
    info := (hr.calm _ (by decide)).trans ((Chan.rd_wr_same _ _ _).trans (Nat.mod_eq_of_lt hi))
    latched := raise_latched _ _ hb ho' ha'
    fault := fun h3 => raise_fault _ _ ho' ha' (hv'.symm ▸ h3) hcalm
    ended := (h.wr hl hls).react hls hr }
end

/-- A slice of these classes that has failed. -/
theorem skimEnd_failed {c : Chan} {r : SkimRun} {raw raw1 : Nat} {ok : Bool} {detail : Nat} (h : r.cls ∈ [0, 1, 2, 3, 4, 6]) (hb : c.skimBad r raw raw1 ok detail = true)
    (ho : c.state ≠ OFF) (ha : c.srcActive (skimSource r.cls) = false) :
    c.SliceFailed [SKIM_FAIL_INFO] (r.cls * 2 ^ 28 + c.skimFound r raw raw1 ok detail) (skimSource r.cls) r ((c.skimCovered r).skimVerdict r raw raw1 ok detail).passCheck := by
  have hs := skimSource_mem r.cls
  have hi : r.cls * 2 ^ 28 + c.skimFound r raw raw1 ok detail < 2 ^ 32 := by
    have hf := skimFound_lt c r raw raw1 ok detail
    simp only [List.mem_cons, List.not_mem_nil, or_false] at h
    omega
  rw [skimVerdict_judged _ _ _ _ _ h, Chan.skimJudged, skimBad_covered, if_pos hb, skimFound_covered]
  exact ((sliceOver_covered c r (by decide)).tell List.mem_cons_self (by decide) hs (by rwa [state_skimCovered]) (by rwa [srcActive_skimCovered c r hs])
    (sevOf_skimCovered c r hs) hi).passCheck

/-- The end of a slice leaves PASS_RUN. -/
theorem passRun_skimClosed (c : Chan) (r : SkimRun) : (c.skimClosed r).b SKIM_STATUS_PASS_RUN = c.b SKIM_STATUS_PASS_RUN := by
  have hi : c.skimIdle.b SKIM_STATUS_PASS_RUN = c.b SKIM_STATUS_PASS_RUN := by
    rw [Chan.skimIdle, Chan.b_p_other _ _ _ _ rfl rfl rfl, Chan.b_p_other _ _ _ _ rfl rfl rfl]
    rfl
  rw [Chan.skimClosed, Chan.b_p_other _ _ _ _ rfl rfl rfl]
  exact hi

/-- A slice of these classes that has passed, with none of its kind waited for and no pass running. -/
theorem skimEnd_passed {c : Chan} {r : SkimRun} {raw raw1 : Nat} {ok : Bool} {detail : Nat} (h : r.cls ∈ [0, 1, 2, 3, 4, 6]) (hb : c.skimBad r raw raw1 ok detail = false)
    (hw : c.skimAgain r = false) (hp : c.b SKIM_STATUS_PASS_RUN = false) : ((c.skimCovered r).skimVerdict r raw raw1 ok detail).passCheck = c.skimClosed r := by
  have hq := (passRun_skimClosed c r).trans hp
  rw [skimVerdict_judged _ _ _ _ _ h, Chan.skimJudged, skimBad_covered, hb, skimCovered_alone hw, if_neg (by decide), passCheck_idle hq]

/-! ### LINK slices (R332) -/

/-- The channel with a LINK slice's frame counted on slice `n`. -/
def Chan.linkCounted (c : Chan) (n : Nat) : Chan := c.satInc (LINK_STAT_CRC_ERR n)

theorem skimVerdict_link_good (c : Chan) {r : SkimRun} (raw raw1 detail : Nat) (h : r.cls = 5) : c.skimVerdict r raw raw1 true detail = c.linkCounted r.unit := by
  obtain ⟨cls, unit, at_⟩ := r
  subst h
  simp only [Chan.skimVerdict, if_pos, Chan.linkCounted]

theorem skimVerdict_link_bad (c : Chan) {r : SkimRun} (raw raw1 detail : Nat) (h : r.cls = 5) (hn : r.unit < 8) :
    c.skimVerdict r raw raw1 false detail = (c.linkCounted r.unit).skimTell (5 * 2 ^ 28 + r.unit * 2 ^ 24) SKIM_TEST_FAIL := by
  obtain ⟨cls, unit, at_⟩ := r
  subst h
  have hu : unit % 16 = unit := Nat.mod_eq_of_lt (Nat.lt_trans hn (by decide))
  simp only [Chan.skimVerdict, Bool.false_eq_true, if_false, Chan.linkCounted, skimFail_plain, hu]

/-- A LINK slice's counter lies apart from the registers of the end and of the reaction. -/
theorem linkStat_apart {n : Nat} (h : n < 8) : reactionRegs.contains (LINK_STAT n) = false ∧
    (∀ a ∈ [SKIM_STATUS, SKIM_DONE, SKIM_SRC_STATUS, SKIM_FAIL_INFO, CH_STATE], LINK_STAT n ≠ a) ∧ ∀ s ∈ skimSources, s.sevAt.1 ≠ LINK_STAT n := by
  interval_cases n <;> decide

theorem frame_linkCounted (c : Chan) (n : Nat) : c.Frame [LINK_STAT n] (c.linkCounted n) := frame_satInc (frame_refl _ _) List.mem_cons_self

theorem linkCounted_count (c : Chan) (n : Nat) : (c.linkCounted n).g (LINK_STAT_CRC_ERR n) = Sys2Proof.satAdd 65535 (c.g (LINK_STAT_CRC_ERR n)) := c.g_satInc rfl

section
variable {c : Chan} {r : SkimRun} (hn : r.unit < 8)
include hn

theorem sliceOver_linkCounted : c.SliceOver [SKIM_FAIL_INFO, LINK_STAT r.unit] r ((c.skimCovered r).linkCounted r.unit) := by
  obtain ⟨-, hapart, -⟩ := linkStat_apart hn
  have hls : SKIM_STATUS ∉ [SKIM_FAIL_INFO, LINK_STAT r.unit] := by
    simpa using ⟨by decide, (hapart SKIM_STATUS (by decide)).symm⟩
  exact (sliceOver_covered c r hls).calm (frame_mono (frame_linkCounted _ _) (by simp)) hls (Chan.p_skim _ _ _)

theorem skimCovered_linkCount : ((c.skimCovered r).linkCounted r.unit).g (LINK_STAT_CRC_ERR r.unit) = Sys2Proof.satAdd 65535 (c.g (LINK_STAT_CRC_ERR r.unit)) := by
  obtain ⟨-, hapart, -⟩ := linkStat_apart hn
  have hm : LINK_STAT r.unit ∉ [SKIM_STATUS, SKIM_DONE, SKIM_SRC_STATUS] := fun h => hapart _ (List.mem_append_left [SKIM_FAIL_INFO, CH_STATE] h) rfl
  rw [linkCounted_count, (frame_skimCovered c r).g (f := LINK_STAT_CRC_ERR r.unit) hm]

theorem linkCount_passCheck (d : Chan) : d.passCheck.g (LINK_STAT_CRC_ERR r.unit) = d.g (LINK_STAT_CRC_ERR r.unit) :=
  (frame_passCheck d).g (f := LINK_STAT_CRC_ERR r.unit) fun h => (linkStat_apart hn).2.1 SKIM_STATUS (by decide) (List.mem_singleton.1 h)

theorem linkCount_skimTell (d : Chan) (info : Nat) (s : Src) : (d.skimTell info s).g (LINK_STAT_CRC_ERR r.unit) = d.g (LINK_STAT_CRC_ERR r.unit) := by
  obtain ⟨hcalm, hapart, -⟩ := linkStat_apart hn
  have hr : (d.wr SKIM_FAIL_INFO info).Frame reactionRegs (d.skimTell info s) := frame_reacts (q := false) (react_raise (react_refl _))
  have hm : LINK_STAT r.unit ∉ reactionRegs := by simpa using hcalm
  exact (hr.g (f := LINK_STAT_CRC_ERR r.unit) hm).trans (Chan.g_wr_reg _ _ _ _ (hapart SKIM_FAIL_INFO (by decide)))

/-- The end of a LINK slice whose frame came back good. -/
theorem skimEnd_link_good {raw raw1 detail : Nat} (h : r.cls = 5) : let e := ((c.skimCovered r).skimVerdict r raw raw1 true detail).passCheck
    c.SliceOver [SKIM_FAIL_INFO, LINK_STAT r.unit] r e ∧ e.g (LINK_STAT_CRC_ERR r.unit) = Sys2Proof.satAdd 65535 (c.g (LINK_STAT_CRC_ERR r.unit)) := by
  rw [skimVerdict_link_good _ _ _ _ h]
  exact ⟨(sliceOver_linkCounted hn).passCheck, (linkCount_passCheck hn _).trans (skimCovered_linkCount hn)⟩

/-- The end of a LINK slice that has failed. -/
theorem skimEnd_link_bad {raw raw1 detail : Nat} (h : r.cls = 5) (ho : c.state ≠ OFF) (ha : c.srcActive SKIM_TEST_FAIL = false) :
    let e := ((c.skimCovered r).skimVerdict r raw raw1 false detail).passCheck
    c.SliceFailed [SKIM_FAIL_INFO, LINK_STAT r.unit] (5 * 2 ^ 28 + r.unit * 2 ^ 24) SKIM_TEST_FAIL r e ∧
      e.g (LINK_STAT_CRC_ERR r.unit) = Sys2Proof.satAdd 65535 (c.g (LINK_STAT_CRC_ERR r.unit)) := by
  obtain ⟨hcalm, hapart, hsev⟩ := linkStat_apart hn
  have hw := frame_linkCounted (c.skimCovered r) r.unit
  have hls : SKIM_STATUS ∉ [SKIM_FAIL_INFO, LINK_STAT r.unit] := by
    simpa using ⟨by decide, (hapart SKIM_STATUS (by decide)).symm⟩
  have ho' : ((c.skimCovered r).linkCounted r.unit).state ≠ OFF := by
    rwa [hw.state fun h => hapart CH_STATE (by decide) (List.mem_singleton.1 h).symm, state_skimCovered]
  have ha' : ((c.skimCovered r).linkCounted r.unit).srcActive SKIM_TEST_FAIL = false := by
    rwa [hw.srcActive (src_not_mem _ fun a hm => List.mem_singleton.1 hm ▸ hcalm), srcActive_skimCovered c r (by decide)]
  have hv' : ((c.skimCovered r).linkCounted r.unit).sevOf SKIM_TEST_FAIL = c.sevOf SKIM_TEST_FAIL := by
    rw [hw.sevOf fun h => hsev SKIM_TEST_FAIL (by decide) (List.mem_singleton.1 h), sevOf_skimCovered c r (by decide)]
  rw [skimVerdict_link_bad _ _ _ _ h hn]
  exact ⟨((sliceOver_linkCounted hn).tell List.mem_cons_self hls (by decide) ho' ha' hv' (by omega)).passCheck,
    (linkCount_passCheck hn _).trans ((linkCount_skimTell hn _ _ _).trans (skimCovered_linkCount hn))⟩
end

/-! ### COREREG slices (R334) -/

theorem skimVerdict_core (c : Chan) {r : SkimRun} (raw raw1 detail : Nat) (h : r.cls = 7) :
    c.skimVerdict r raw raw1 false detail = doPlumbMismatch 0 (c.wr SKIM_FAIL_INFO (7 * 2 ^ 28 + r.unit % 16 * 2 ^ 24)) := by
  obtain ⟨cls, unit, at_⟩ := r
  subst h
  simp only [Chan.skimVerdict, Bool.false_eq_true, if_false]

/-- The channel with its pair held for a mismatch, before CORE_PAIR (R310, R311). -/
def Chan.pairHeld (c : Chan) : Chan :=
  ((c.onCtl (fun x => { x with heldAt := some c.now })).wr CORE_STATUS (setBit (c.rd CORE_STATUS) 0 true)).p CORE_STATUS_HELD 1

theorem frame_pairHeld (c : Chan) : c.Frame [CORE_STATUS] c.pairHeld :=
  frame_p (frame_wr (c := c.onCtl _) (frame_regs (frame_refl _ _) rfl) (by decide)) (by decide)

theorem pairHeld_status (c : Chan) : c.pairHeld.b CORE_STATUS_MISMATCH = true ∧ c.pairHeld.b CORE_STATUS_HELD = true := by
  constructor
  · rw [Chan.pairHeld, Chan.b_p_other _ _ _ _ rfl rfl rfl, Chan.b_eq_testBit _ rfl]
    refine (congrArg (fun w => Nat.testBit w 0) (Chan.rd_wr_same _ _ _)).trans ?_
    rw [Nat.testBit_mod_two_pow, testBit_setBit, if_pos rfl]
    rfl
  · rw [Chan.pairHeld, Chan.b_p_one _ _ rfl]

/-- A mismatch of a pair that runs: MISMATCH and HELD, CORE_PAIR raised. -/
theorem doPlumbMismatch_run {c : Chan} (hp : c.pairRuns = true) (ho : c.state ≠ OFF) (ha : c.srcActive CORE_PAIR = false) : let e := doPlumbMismatch 0 c
    e.b CORE_STATUS_MISMATCH = true ∧ e.b CORE_STATUS_HELD = true ∧ e.srcLatched CORE_PAIR = true ∧ e.skim = c.skim ∧ c.Frame ([CORE_STATUS] ++ reactionRegs) e := by
  have hj : c.pairJudges = true := by rw [Chan.pairJudges, hp, Bool.true_or]
  have he : doPlumbMismatch 0 c = c.pairHeld.raise CORE_PAIR := if_pos ⟨hj, by decide⟩
  have hw := frame_pairHeld c
  obtain ⟨hm, hh⟩ := pairHeld_status c
  have hr : c.pairHeld.Reacts false (c.pairHeld.raise CORE_PAIR) := react_raise (react_refl _)
  have hf := frame_reacts hr
  rw [he]
  exact ⟨(hf.b (by decide)).trans hm, (hf.b (by decide)).trans hh, raise_latched _ _ (by decide) (by rwa [hw.state (by decide)]) (by rwa [hw.srcActive (by decide)]),
    hr.skim.trans rfl, frame_react (frame_mono hw fun _ hx => List.mem_append_left _ hx) hr⟩

theorem Chan.Frame.pairRuns {l : List Nat} {c d : Chan} (h : c.Frame l d) (hl : CORE_STATUS ∉ l) : d.pairRuns = c.pairRuns := by
  rw [Chan.pairRuns, h.b (f := CORE_STATUS_HELD) hl, h.b (f := CORE_STATUS_HALTED) hl, Chan.pairRuns]

/-- The end of a COREREG slice that found a difference holds the pair. -/
theorem skimEnd_core {c : Chan} {r : SkimRun} {raw raw1 detail : Nat} (h : r.cls = 7) (ho : c.state ≠ OFF) (hp : c.pairRuns = true) (ha : c.srcActive CORE_PAIR = false) :
    let e := ((c.skimCovered r).skimVerdict r raw raw1 false detail).passCheck
    c.SliceOver [SKIM_FAIL_INFO, CORE_STATUS] r e ∧ e.b CORE_STATUS_HELD = true ∧ e.b CORE_STATUS_MISMATCH = true ∧ e.srcLatched CORE_PAIR = true := by
  intro e
  have hw : (c.skimCovered r).Frame [SKIM_FAIL_INFO] ((c.skimCovered r).wr SKIM_FAIL_INFO (7 * 2 ^ 28 + r.unit % 16 * 2 ^ 24)) := frame_wr (frame_refl _ _) (by decide)
  obtain ⟨hm, hh, hl, hs, hf⟩ := doPlumbMismatch_run (c := (c.skimCovered r).wr SKIM_FAIL_INFO (7 * 2 ^ 28 + r.unit % 16 * 2 ^ 24))
    (by rwa [hw.pairRuns (by decide), (frame_skimCovered c r).pairRuns (by decide)]) (by rwa [hw.state (by decide), state_skimCovered])
    (by rwa [hw.srcActive (by decide), srcActive_skimCovered c r (by decide)])
  have hover : c.SliceOver [SKIM_FAIL_INFO, CORE_STATUS] r ((c.skimCovered r).wr SKIM_FAIL_INFO (7 * 2 ^ 28 + r.unit % 16 * 2 ^ 24)) :=
    (sliceOver_covered c r (by decide)).wr (by decide) (by decide)
  unfold e
  rw [skimVerdict_core _ _ _ _ h]
  exact ⟨(hover.calm (frame_mono hf fun _ hx => List.mem_cons_of_mem _ hx) (by decide) hs).passCheck, ((frame_passCheck _).b (by decide)).trans hh,
    ((frame_passCheck _).b (by decide)).trans hm, (srcLatched_passCheck _ _).trans hl⟩

/-! ### SCRUB slices (R334) -/

/-- The channel after a SCRUB slice that found the TCM without error: the position stepped. -/
def Chan.scrubbed (c : Chan) : Chan := c.p SCRUB_POS_WORD (c.g SCRUB_POS_WORD + 1024)

theorem scrubTcm_good (c : Chan) (unit word : Nat) : c.scrubTcm unit 0 word = c := if_pos rfl

theorem skimVerdict_scrub_good (c : Chan) {r : SkimRun} (raw detail : Nat) (h : r.cls = 8) : c.skimVerdict r raw 0 true detail = c.scrubbed := by
  obtain ⟨cls, unit, at_⟩ := r
  subst h
  simp only [Chan.skimVerdict, scrubTcm_good, true_or, if_true, Chan.scrubbed]

theorem skimVerdict_scrub_stencil (c : Chan) {r : SkimRun} (raw : Nat) {detail : Nat} (h : r.cls = 8) (hu : r.unit = 0) (hd : detail ≠ 1) :
    c.skimVerdict r raw 0 false detail = c.scrubbed.skimTell (8 * 2 ^ 28) DTC_STENCIL_ECC := by
  obtain ⟨cls, unit, at_⟩ := r
  subst h hu
  simp only [Chan.skimVerdict, scrubTcm_good, Bool.false_eq_true, ne_eq, not_true_eq_false, or_self, if_false, hd, skimFail_plain, Chan.scrubbed]
  rfl

theorem frame_scrubbed (c : Chan) : c.Frame [SCRUB_POS] c.scrubbed := frame_p (frame_refl _ _) (by decide)

theorem sliceOver_scrubbed {l : List Nat} (c : Chan) (r : SkimRun) (h : SCRUB_POS ∈ l) (hl : SKIM_STATUS ∉ l) : c.SliceOver l r (c.skimCovered r).scrubbed :=
  (sliceOver_covered c r hl).wr h hl

/-- The end of a SCRUB slice that found no error. -/
theorem skimEnd_scrub_good {c : Chan} {r : SkimRun} {raw detail : Nat} (h : r.cls = 8) : let e := ((c.skimCovered r).skimVerdict r raw 0 true detail).passCheck
    c.SliceOver [SCRUB_POS] r e ∧ e.g SCRUB_POS_WORD = (c.g SCRUB_POS_WORD + 1024) % 65536 := by
  intro e
  unfold e
  rw [skimVerdict_scrub_good _ _ _ h]
  refine ⟨(sliceOver_scrubbed c r (by decide) (by decide)).passCheck, ((frame_passCheck _).g (by decide)).trans ?_⟩
  rw [Chan.scrubbed, Chan.g_p_same _ _ _ rfl, (frame_skimCovered c r).g (by decide)]
  rfl

/-- The end of a SCRUB slice that found two bits of the stencil RAM in error. -/
theorem skimEnd_scrub_stencil {c : Chan} {r : SkimRun} {raw detail : Nat} (h : r.cls = 8) (hu : r.unit = 0) (hd : detail ≠ 1) (ho : c.state ≠ OFF)
    (ha : c.srcActive DTC_STENCIL_ECC = false) :
    c.SliceFailed [SKIM_FAIL_INFO, SCRUB_POS] (8 * 2 ^ 28) DTC_STENCIL_ECC r ((c.skimCovered r).skimVerdict r raw 0 false detail).passCheck := by
  have hf := frame_scrubbed (c.skimCovered r)
  rw [skimVerdict_scrub_stencil _ _ h hu hd]
  exact ((sliceOver_scrubbed c r (by decide) (by decide)).tell (by decide) (by decide) (by decide) (by rwa [hf.state (by decide), state_skimCovered])
    (by rwa [hf.srcActive (by decide), srcActive_skimCovered c r (by decide)]) ((hf.sevOf (by decide)).trans (sevOf_skimCovered c r (by decide))) (by decide)).passCheck

end Sys2Proof.Machine
end

section
/-! PROOFS. The abort of a skim slice, the coverage cycle and the requested pass (R329, R335 to R337, R352), and the obligation: O42. -/

namespace Sys2Proof.Machine
open Sys2Proof

/-! ### The end of a slice -/

theorem doSkimSliceEnd_idle {c : Chan} (raw raw1 : Nat) (ok : Bool) (detail : Nat) (h : c.skim.cur = none) : doSkimSliceEnd raw raw1 ok detail c = c := by
  simp only [doSkimSliceEnd, h]

theorem doSkimSliceEnd_run {c : Chan} {r : SkimRun} (raw raw1 : Nat) (ok : Bool) (detail : Nat) (h : c.skim.cur = some r) :
    doSkimSliceEnd raw raw1 ok detail c = ((c.skimCovered r).skimVerdict r raw raw1 ok detail).passCheck := by
  simp only [doSkimSliceEnd, h]
  rfl

/-- What a slice over shows of SKIM. -/
theorem Chan.SliceOver.shown {l : List Nat} {r : SkimRun} {c e : Chan} (h : c.SliceOver l r e) :
    e.skim.cur = none ∧ e.skim.spare = none ∧ e.b SKIM_STATUS_BUSY = false ∧ e.g SKIM_STATUS_CLASS = 0 ∧
      e.skim.cov = bump c.skim.cov r.cls (fun m => setBit m r.unit true) ∧ e.skim.passCov = bump c.skim.passCov r.cls (fun m => setBit m r.unit true) ∧
      e.skim.redo = c.skim.redo.filter (fun x => !(x.cls == r.cls && x.unit == r.unit)) := by
  rw [h.skim]
  exact ⟨rfl, rfl, h.busy, h.cls, rfl, rfl, rfl⟩

/-- The end of a LINK slice: its frame counted, and the failure where there is one. -/
theorem skimEnd_link {c : Chan} {r : SkimRun} (raw raw1 : Nat) {ok : Bool} (detail : Nat) (h : r.cls = 5) (hn : r.unit < 8) (ho : c.state ≠ OFF)
    (ha : ok = true ∨ c.srcActive SKIM_TEST_FAIL = false) : let e := ((c.skimCovered r).skimVerdict r raw raw1 ok detail).passCheck
    c.SliceOver [SKIM_FAIL_INFO, LINK_STAT r.unit] r e ∧ e.g (LINK_STAT_CRC_ERR r.unit) = Sys2Proof.satAdd 65535 (c.g (LINK_STAT_CRC_ERR r.unit)) ∧
      (ok = false → e.srcLatched SKIM_TEST_FAIL = true ∧ e.rd SKIM_FAIL_INFO = 5 * 2 ^ 28 + r.unit * 2 ^ 24) := by
  cases ok with
  | true =>
    obtain ⟨hover, hcount⟩ := skimEnd_link_good (raw := raw) (raw1 := raw1) (detail := detail) hn h
    exact ⟨hover, hcount, fun e => absurd e (by decide)⟩
  | false =>
    obtain ⟨hfail, hcount⟩ := skimEnd_link_bad (raw := raw) (raw1 := raw1) (detail := detail) hn h ho (ha.resolve_left (by decide))
    exact ⟨hfail.ended, hcount, fun _ => ⟨hfail.latched, hfail.info⟩⟩

/-! ### Abort by normal service (R335) -/

theorem doSkimAbort_idle {c : Chan} (h : c.skim.cur = none) : doSkimAbort c = c := by
  simp only [doSkimAbort, h]

theorem doSkimAbort_shared {c : Chan} {r : SkimRun} (h : c.skim.cur = some r) (hc : r.cls = 2 ∨ r.cls = 3 ∨ r.cls = 7) : doSkimAbort c = c := by
  simp only [doSkimAbort, h, hc, if_true]

/-- The channel with slice `r` aborted: it waits to be scheduled again, and is counted. -/
def Chan.skimAborted (c : Chan) (r : SkimRun) : Chan :=
  ((c.skimIdle.onSkim (fun k => { k with redo := k.redo ++ [{ r with at_ := c.now }] })).satInc SKIM_ABORTS_COUNT).p SKIM_ABORTS_LAST_CLASS r.cls

theorem doSkimAbort_run {c : Chan} {r : SkimRun} (h : c.skim.cur = some r) (h2 : r.cls ≠ 2) (h3 : r.cls ≠ 3) (h7 : r.cls ≠ 7) :
    doSkimAbort c = (c.skimAborted r).raise SKIM_ABORT_SRC := by
  simp only [doSkimAbort, h, h2, h3, h7, or_self, if_false, Chan.skimAbort]
  rfl

theorem frame_skimAborted (c : Chan) (r : SkimRun) : c.Frame [SKIM_STATUS, SKIM_ABORTS] (c.skimAborted r) :=
  frame_p (frame_satInc (frame_onSkim (frame_mono (frame_skimIdle c) (by decide))) (by decide)) (by decide)

/-- An aborted slice leaves BUSY clear, its class and the count of aborts. -/
theorem skimAborted_status (c : Chan) {r : SkimRun} (h : r.cls < 16) : (c.skimAborted r).b SKIM_STATUS_BUSY = false ∧ (c.skimAborted r).g SKIM_ABORTS_LAST_CLASS = r.cls ∧
    (c.skimAborted r).g SKIM_ABORTS_COUNT = Sys2Proof.satAdd 65535 (c.g SKIM_ABORTS_COUNT) := by
  have hbusy : (c.skimAborted r).b SKIM_STATUS_BUSY = c.skimIdle.b SKIM_STATUS_BUSY := by
    rw [Chan.skimAborted, Chan.satInc, Chan.b_p_other _ _ _ _ rfl rfl rfl, Chan.b_p_other _ _ _ _ rfl rfl rfl]
    rfl
  have hcount : c.skimIdle.g SKIM_ABORTS_COUNT = c.g SKIM_ABORTS_COUNT := (frame_skimIdle c).g (by decide)
  refine ⟨hbusy.trans (skimIdle_status c).1, ?_, ?_⟩
  · rw [Chan.skimAborted, Chan.g_p_same _ _ _ rfl]
    exact Nat.mod_eq_of_lt h
  · rw [Chan.skimAborted, Chan.g_p_other _ _ _ _ rfl rfl rfl, Chan.g_satInc _ rfl, ← hcount]
    rfl

/-- SKIM_ABORT raised leaves the slice aborted. -/
theorem skimAborted_raise {c : Chan} {r : SkimRun} (h : r.cls < 16) (ho : c.state ≠ OFF) (ha : c.srcActive SKIM_ABORT_SRC = false) :
    let e := (c.skimAborted r).raise SKIM_ABORT_SRC
    e.skim = { c.skim with cur := none, spare := none, redo := c.skim.redo ++ [{ r with at_ := c.now }] } ∧ e.b SKIM_STATUS_BUSY = false ∧
      e.g SKIM_ABORTS_LAST_CLASS = r.cls ∧ e.g SKIM_ABORTS_COUNT = Sys2Proof.satAdd 65535 (c.g SKIM_ABORTS_COUNT) ∧ e.srcLatched SKIM_ABORT_SRC = true ∧
      c.Frame ([SKIM_STATUS, SKIM_ABORTS] ++ reactionRegs) e := by
  intro e
  obtain ⟨hb, hl, hn⟩ := skimAborted_status c h
  have hw := frame_skimAborted c r
  have hr : (c.skimAborted r).Reacts false e := react_raise (react_refl _)
  have hf := frame_reacts hr
  exact ⟨hr.skim, (hf.b (by decide)).trans hb, (hf.g (by decide)).trans hl, (hf.g (by decide)).trans hn,
    raise_latched _ _ (by decide) (by rwa [hw.state (by decide)]) (by rwa [hw.srcActive (by decide)]), frame_react (frame_mono hw fun _ hx => List.mem_append_left _ hx) hr⟩

/-! ### The coverage cycle (R329, R336) -/

/-- The channel at the end of a coverage cycle, before SKIM_OVERDUE is judged. -/
def Chan.skimCycled (c : Chan) : Chan :=
  ((((c.p SKIM_DONE_LAST c.skimDone).p SKIM_DONE_NOW 0).wrapInc SKIM_STATUS_CYCLES).p SKIM_IRQ_STATUS_CYCLE_END 1).onSkim
    (fun k => { k with cov := List.replicate 10 0, plumb0 := c.g PLUMB_STAT_PASSES, cycAt := c.now })

theorem doSkimCycleEnd_due {c : Chan} (h : c.since c.skim.cycAt (ms (c.g SKIM_CFG_CYCLE)) = true) :
    doSkimCycleEnd c = c.skimCycled.follow SKIM_OVERDUE (c.skimDone != c.g SKIM_CTL_EN) := if_pos h

theorem doSkimCycleEnd_early {c : Chan} (h : c.since c.skim.cycAt (ms (c.g SKIM_CFG_CYCLE)) = false) : doSkimCycleEnd c = c := if_neg (by simp [h])

theorem frame_skimCycled (c : Chan) : c.Frame [SKIM_DONE, SKIM_STATUS, SKIM_IRQ_STATUS] c.skimCycled :=
  frame_onSkim (frame_p (frame_p (frame_p (frame_p (frame_refl _ _) (by decide)) (by decide)) (by decide)) (by decide))

theorem skimCycled_skim (c : Chan) : c.skimCycled.skim = { c.skim with cov := List.replicate 10 0, plumb0 := c.g PLUMB_STAT_PASSES, cycAt := c.now } := by
  rw [Chan.skimCycled, Chan.onSkim_skim, Chan.p_skim, Chan.wrapInc, Chan.p_skim, Chan.p_skim, Chan.p_skim]

/-- SKIM_DONE, CYCLES and CYCLE_END at the end of a cycle. -/
theorem skimCycled_status (c : Chan) : c.skimCycled.g SKIM_DONE_LAST = c.skimDone % 1024 ∧ c.skimCycled.g SKIM_DONE_NOW = 0 ∧
    c.skimCycled.g SKIM_STATUS_CYCLES = (c.g SKIM_STATUS_CYCLES + 1) % 65536 ∧ c.skimCycled.b SKIM_IRQ_STATUS_CYCLE_END = true := by
  have hdone : ∀ f : Fld, f.reg = SKIM_DONE → c.skimCycled.g f = ((c.p SKIM_DONE_LAST c.skimDone).p SKIM_DONE_NOW 0).g f := fun f hf => by
    rw [Chan.skimCycled, Chan.g_onSkim, Chan.g_p_reg _ _ _ _ (by rw [hf]; decide), Chan.wrapInc, Chan.g_p_reg _ _ _ _ (by rw [hf]; decide)]
  refine ⟨?_, ?_, ?_, ?_⟩
  · rw [hdone _ rfl, Chan.g_p_other _ _ _ _ rfl rfl rfl, Chan.g_p_same _ _ _ rfl]
    rfl
  · rw [hdone _ rfl, Chan.g_p_same _ _ _ rfl, Nat.zero_mod]
  · rw [Chan.skimCycled, Chan.g_onSkim, Chan.g_p_reg _ _ _ _ (by decide), Chan.wrapInc, Chan.g_p_same _ _ _ rfl, Chan.g_p_reg _ _ _ _ (by decide),
      Chan.g_p_reg _ _ _ _ (by decide)]
    rfl
  · rw [Chan.skimCycled, Chan.b_onSkim, Chan.b_p_one _ _ rfl]

/-- The judgement of SKIM_OVERDUE (R329) leaves what the end of the cycle wrote. -/
theorem skimCycled_follow {c : Chan} (ho : c.state ≠ OFF) : let e := c.skimCycled.follow SKIM_OVERDUE (c.skimDone != c.g SKIM_CTL_EN)
    e.g SKIM_DONE_LAST = c.skimDone % 1024 ∧ e.g SKIM_DONE_NOW = 0 ∧ e.g SKIM_STATUS_CYCLES = (c.g SKIM_STATUS_CYCLES + 1) % 65536 ∧
      e.b SKIM_IRQ_STATUS_CYCLE_END = true ∧ e.skim = { c.skim with cov := List.replicate 10 0, plumb0 := c.g PLUMB_STAT_PASSES, cycAt := c.now } ∧
      ((c.skimDone == c.g SKIM_CTL_EN) = true → e.srcActive SKIM_OVERDUE = false) ∧
      ((c.skimDone == c.g SKIM_CTL_EN) = false → c.srcActive SKIM_OVERDUE = false → e.srcLatched SKIM_OVERDUE = true) ∧
      c.Frame ([SKIM_DONE, SKIM_STATUS, SKIM_IRQ_STATUS] ++ reactionRegs) e := by
  intro e
  obtain ⟨hlast, hnow, hcyc, hirq⟩ := skimCycled_status c
  have hw := frame_skimCycled c
  have hr : c.skimCycled.Reacts false e := react_follow (react_refl _)
  have hf := frame_reacts hr
  refine ⟨(hf.g (by decide)).trans hlast, (hf.g (by decide)).trans hnow, (hf.g (by decide)).trans hcyc, (hf.b (by decide)).trans hirq, hr.skim.trans (skimCycled_skim c), fun hall => ?_,
    fun hall ha => ?_, frame_react (frame_mono hw fun _ hx => List.mem_append_left _ hx) hr⟩
  · have he : e = c.skimCycled.clear SKIM_OVERDUE := if_neg (by simp [bne, hall])
    rw [he, Chan.srcActive_clear_same]
  · have he : e = c.skimCycled.raise SKIM_OVERDUE := if_pos (by simp [bne, hall])
    rw [he]
    exact raise_latched _ _ (by decide) (by rwa [hw.state (by decide)]) (by rwa [hw.srcActive (by decide)])

/-! ### The requested pass (R337, R420) -/

/-- The channel with a pass begun. -/
def Chan.passBegun (c : Chan) : Chan := ((c.p SKIM_REQ_PASS 0).p SKIM_STATUS_PASS_RUN 1).onSkim (fun k => { k with passCov := List.replicate 10 0 })

theorem frame_passBegun (c : Chan) : c.Frame [SKIM_REQ, SKIM_STATUS] c.passBegun := frame_onSkim (frame_p (frame_p (frame_refl _ _) (by decide)) (by decide))

theorem passBegun_runs (c : Chan) : c.passBegun.b SKIM_STATUS_PASS_RUN = true := by
  rw [Chan.passBegun, Chan.b_onSkim, Chan.b_p_one _ _ rfl]

/-- SKIM_REQ written leaves PASS_RUN and SKIM's part. -/
theorem skimReq_passRun (c : Chan) : (c.p SKIM_REQ_PASS 0).b SKIM_STATUS_PASS_RUN = c.b SKIM_STATUS_PASS_RUN := Chan.b_p_other _ _ _ _ rfl rfl rfl

theorem doSkimReqPass_ignored {c : Chan} (h : c.b SKIM_STATUS_PASS_RUN = true ∨ c.skim.stopped = true) : doSkimReqPass c = c.p SKIM_REQ_PASS 0 :=
  if_pos (h.imp_left (skimReq_passRun c).trans)

theorem doSkimReqPass_taken {c : Chan} (h : c.b SKIM_STATUS_PASS_RUN = false) (hs : c.skim.stopped = false) : doSkimReqPass c = c.passBegun.passCheck := by
  refine if_neg (not_or.2 ⟨fun e => ?_, fun e => ?_⟩)
  · exact absurd (h.symm.trans ((skimReq_passRun c).symm.trans e)) (by decide)
  · exact absurd (hs.symm.trans e) (by decide)

/-- A pass begun with DCMP enabled has slices to run. -/
theorem passComplete_passBegun_open {c : Chan} (h : c.gb SKIM_CTL_EN 1 = true) : c.passBegun.passComplete = false := by
  have he : c.passBegun.gb SKIM_CTL_EN 1 = true := ((frame_passBegun c).gb (by decide) 1).trans h
  refine List.all_eq_false.2 ⟨1, by decide, ?_⟩
  have hcov : (c.passBegun.skimUnits 1).all (fun u => (nth c.passBegun.skim.passCov 1).testBit u) = false :=
    show (List.range 5).all (fun u => (nth (List.replicate 10 0) 1).testBit u) = false by decide
  simp only [he, hcov, Bool.not_true, Bool.false_or, Bool.false_eq_true, not_false_eq_true]

/-- A pass with no class enabled is complete. -/
theorem passComplete_none {c : Chan} (h : c.g SKIM_CTL_EN = 0) : c.passComplete = true :=
  List.all_eq_true.2 fun k _ => by rw [Chan.gb, h, Nat.zero_testBit]; rfl

theorem passCheck_open {c : Chan} (h : c.passComplete = false) : c.passCheck = c := by
  rw [Chan.passCheck, h, Bool.and_false]
  rfl

theorem passCheck_complete {c : Chan} (h : c.passComplete = true) (hp : c.b SKIM_STATUS_PASS_RUN = true) :
    c.passCheck = (c.p SKIM_STATUS_PASS_RUN 0).answer .skimPass 0 [(c.p SKIM_STATUS_PASS_RUN 0).rd SKIM_DONE, (c.p SKIM_STATUS_PASS_RUN 0).rd SKIM_FAIL_INFO] := by
  rw [Chan.passCheck, h, hp]
  rfl

/-- The answer of a pass that ends at its request is the next one. -/
theorem passBegun_answer (c : Chan) (w : List Nat) : ((c.passBegun.p SKIM_STATUS_PASS_RUN 0).answer .skimPass 0 w).answers = c.answers ++ [⟨.skimPass, 0, w⟩] := by
  rw [Chan.answer, Chan.p_answers, Chan.passBegun, Chan.onSkim_answers, Chan.p_answers, Chan.p_answers]

/-- A pass with no class enabled ends and is answered at once (log 88). -/
theorem passBegun_empty {c : Chan} (h : c.g SKIM_CTL_EN = 0) : c.passBegun.passCheck.b SKIM_STATUS_PASS_RUN = false ∧
    c.passBegun.passCheck.answers = c.answers ++ [⟨.skimPass, 0, [c.rd SKIM_DONE, c.rd SKIM_FAIL_INFO]⟩] ∧ c.Frame [SKIM_REQ, SKIM_STATUS] c.passBegun.passCheck := by
  have hf := frame_passBegun c
  have hp : c.Frame [SKIM_REQ, SKIM_STATUS] (c.passBegun.p SKIM_STATUS_PASS_RUN 0) := frame_p hf (by decide)
  rw [passCheck_complete (passComplete_none ((hf.g (by decide)).trans h)) (passBegun_runs c), hp _ (by decide), hp _ (by decide)]
  exact ⟨(Chan.b_answer _ _ _ _ _).trans (Chan.b_p_zero _ _ rfl), passBegun_answer c _, frame_answer hp⟩

/-! ### The obligation -/

/-- Settles O42: the end of a slice by its class (`skimEnd_passed`, `skimEnd_failed`, `skimEnd_link`, `skimEnd_core`, `skimEnd_scrub_good`, `skimEnd_scrub_stencil`).
The unit numbers, the operands of SKIM_SLICE_END and the pass answered at once are the model's choice (log 40, 88). -/
theorem skimTests : Obligations.SkimTests := by
  intro s t ch cls unit raw raw1 detail ok r c k young may fin misses step sum bad source found again ended still cyc all
  refine ⟨?off, fun ho => ⟨?notStarted, ?started, ?idle, ?passed, ?failed, ?link, ?core, ?scrubGood, ?scrubStencil, ?shared, ?aborted, ?early, ?cycle, ?ignored, ?pass,
    ?emptyPass⟩⟩
  case off =>
    exact fun ho => ⟨actsOn_live_off (c := c) rfl rfl ho, actsOn_live_off (c := c) rfl rfl ho, actsOn_live_off (c := c) rfl rfl ho, actsOn_live_off (c := c) rfl rfl ho,
      actsOn_live_off (c := c) rfl rfl ho⟩
  case notStarted => exact fun hm => actsOn_live (c := c) rfl rfl ho (doSkimSliceStart_not hm)
  case started =>
    intro hm hc
    refine actsOn_live (c := c) rfl rfl ho ?_
    obtain ⟨hb, hg⟩ := skimStarted_status c unit hc
    rw [doSkimSliceStart_may hm]
    exact ⟨rfl, hb, hg, frame_skimStarted c cls unit, rfl⟩
  case idle => exact fun hk => ⟨actsOn_live (c := c) rfl rfl ho (doSkimSliceEnd_idle _ _ _ _ hk), actsOn_live (c := c) rfl rfl ho (doSkimAbort_idle hk)⟩
  case passed =>
    intro hk hc hb hw hp
    refine actsOn_live (c := c) rfl rfl ho ?_
    rw [doSkimSliceEnd_run _ _ _ _ hk, skimEnd_passed hc hb hw hp]
    exact ⟨(sliceOver_closed [] c r).shown, frame_skimClosed c r, rfl⟩
  case failed =>
    intro hk hc hb ha
    refine actsOn_live (c := c) rfl rfl ho ?_
    rw [doSkimSliceEnd_run _ _ _ _ hk]
    have h := skimEnd_failed hc hb ho ha
    exact ⟨h.info, h.latched, h.fault, h.ended.shown, h.ended.frame⟩
  case link =>
    intro hk hc hu ha
    refine actsOn_live (c := c) rfl rfl ho ?_
    rw [doSkimSliceEnd_run _ _ _ _ hk]
    obtain ⟨hover, hcount, hfail⟩ := skimEnd_link raw raw1 detail hc hu ho ha
    exact ⟨hover.shown, hcount, hfail, hover.frame⟩
  case core =>
    intro hk hc hok hp ha
    refine actsOn_live (c := c) rfl rfl ho ?_
    rw [doSkimSliceEnd_run _ _ _ _ hk, hok]
    obtain ⟨hover, hrest⟩ := skimEnd_core (raw := raw) (raw1 := raw1) (detail := detail) hc ho hp ha
    exact ⟨hover.shown, hrest⟩
  case scrubGood =>
    intro hk hc hok hr
    refine actsOn_live (c := c) rfl rfl ho ?_
    rw [doSkimSliceEnd_run _ _ _ _ hk, hok, hr]
    obtain ⟨hover, hpos⟩ := skimEnd_scrub_good (c := c) (raw := raw) (detail := detail) hc
    exact ⟨hover.shown, hpos, hover.frame⟩
  case scrubStencil =>
    intro hk hc hu hok hd hr ha
    refine actsOn_live (c := c) rfl rfl ho ?_
    rw [doSkimSliceEnd_run _ _ _ _ hk, hok, hr]
    have h := skimEnd_scrub_stencil (raw := raw) hc hu hd ho ha
    exact ⟨h.ended.shown, h.latched, h.info⟩
  case shared => exact fun hk hc => actsOn_live (c := c) rfl rfl ho (doSkimAbort_shared hk hc)
  case aborted =>
    intro hk h2 h3 h7 hc ha
    refine actsOn_live (c := c) rfl rfl ho ?_
    rw [doSkimAbort_run hk h2 h3 h7]
    exact skimAborted_raise hc ho ha
  case early => exact fun hc => actsOn_live (c := c) rfl rfl ho (doSkimCycleEnd_early hc)
  case cycle =>
    intro hc
    refine actsOn_live (c := c) rfl rfl ho ?_
    rw [doSkimCycleEnd_due hc]
    exact skimCycled_follow ho
  case ignored =>
    intro hp
    refine actsOn_live (c := c) rfl rfl ho ?_
    rw [doSkimReqPass_ignored hp]
    exact Chan.regsOnly_wr _ _ _
  case pass =>
    intro hp hs he
    refine actsOn_live (c := c) rfl rfl ho ?_
    rw [doSkimReqPass_taken hp hs, passCheck_open (passComplete_passBegun_open he)]
    exact ⟨passBegun_runs c, rfl, frame_passBegun c, rfl⟩
  case emptyPass =>
    intro hp hs he
    refine actsOn_live (c := c) rfl rfl ho ?_
    rw [doSkimReqPass_taken hp hs]
    exact passBegun_empty he

end Sys2Proof.Machine
end

section
/-! PROOFS. The sigma-delta inputs: the clock and stuck data (R97 to R104): O19. -/

namespace Sys2Proof.Machine
open Sys2Proof

/-! ### Bits of a field, and SINC's part beside the registers -/

theorem Chan.gb_p_other (c : Chan) (f k : Fld) (v i : Nat) (hf : f.ok = true) (hk : k.ok = true) (h : f.apart k = true) : (c.p f v).gb k i = c.gb k i := by
  rw [Chan.gb, Chan.g_p_other _ _ _ _ hf hk h, Chan.gb]

/-- Every bit of a field after the write of one of its bits. -/
theorem Chan.gb_pb (c : Chan) {f : Fld} (i : Nat) {j : Nat} (v : Bool) (h : f.ok = true) (hj : j < f.hi + 1 - f.lo) :
    (c.pb f i v).gb f j = if j = i then v else c.gb f j := by
  rw [Chan.gb, Chan.pb, Chan.g_p_same _ _ _ h, Nat.testBit_mod_two_pow, testBit_setBit, decide_eq_true hj, Bool.true_and, Chan.gb]

@[simp] theorem Chan.gb_onSd (c : Chan) (n : Nat) (f : SdIn → SdIn) (k : Fld) (i : Nat) : (c.onSd n f).gb k i = c.gb k i := rfl
theorem frame_onSd {l : List Nat} {c0 c : Chan} {n : Nat} {f : SdIn → SdIn} (h : c0.Frame l c) : c0.Frame l (c.onSd n f) := fun a ha => h a ha
theorem frame_onSinc {l : List Nat} {c0 c : Chan} {f : Sinc → Sinc} (h : c0.Frame l c) : c0.Frame l (c.onSinc f) := fun a ha => h a ha

/-- An input whose filters run is one of those that SINC holds. -/
theorem lt_length_of_live {c : Chan} {n : Nat} (h : (c.sdIn n).live = true) : n < c.sinc.inp.length := by
  by_contra hn
  rw [Chan.sdIn, List.getD_eq_default _ _ (not_lt.1 hn)] at h
  exact absurd h (by decide)

theorem sdIn_onSd {c : Chan} {n : Nat} (f : SdIn → SdIn) (h : n < c.sinc.inp.length) : (c.onSd n f).sdIn n = f (c.sdIn n) := by
  simp [Chan.sdIn, Chan.onSd, Chan.onSinc, List.getD_eq_getElem?_getD, h]

theorem lt_of_sdOn {c : Chan} {n : Nat} (h : c.sdOn n = true) : n < 4 := by
  simp only [Chan.sdOn, Bool.and_eq_true, Nat.blt_eq] at h
  exact h.1

theorem Chan.Frame.sdOn {l : List Nat} {c d : Chan} (h : c.Frame l d) (hl : SD_CTL ∉ l) (n : Nat) : d.sdOn n = c.sdOn n := by
  rw [Chan.sdOn, h.gb (f := SD_CTL_IN_EN) hl, Chan.sdOn]

/-! ### What an event of the clock or of an input leaves (R100 to R104) -/

/-- The registers of SINC and XCHK that the clock's events, stuck data and what follows from them write. -/
def clockRegs : List Nat :=
  [SD_STATUS, SD_MCLK_MEAS, SD_LOSS_COUNT 0, SD_LOSS_COUNT 1, SD_LOSS_COUNT 2, SD_LOSS_COUNT 3, DF_RES 0, DF_RES 1, DF_RES 2, DF_RES 3, XC_STATUS]

/-- What such an event shows of itself: the clock's presence, stuck inputs, the period measured. -/
def clockFlds : List Fld := [SD_STATUS_CLK_OK, SD_STATUS_STUCK, SD_MCLK_MEAS_PERIOD]

/-- What follows from an event of the clock or of an input: registers of a list alone, and neither a loss of the clock nor its range nor a field that shows
the event. -/
structure Chan.ClockFollowed (l : List Nat) (c d : Chan) : Prop where
  frame : c.Frame l d
  clkLost : d.sinc.clkLost = c.sinc.clkLost
  range : d.sinc.range = c.sinc.range
  flds : ∀ f ∈ clockFlds, d.g f = c.g f

section
variable {l k : List Nat} {c d e : Chan}

theorem Chan.clockFollowed_refl (l : List Nat) (c : Chan) : c.ClockFollowed l c := ⟨frame_refl _ _, rfl, rfl, fun _ _ => rfl⟩

theorem Chan.ClockFollowed.trans (h : c.ClockFollowed l d) (k : d.ClockFollowed l e) : c.ClockFollowed l e :=
  ⟨frame_trans h.frame k.frame, k.clkLost.trans h.clkLost, k.range.trans h.range, fun f hf => (k.flds f hf).trans (h.flds f hf)⟩

theorem Chan.ClockFollowed.mono (h : c.ClockFollowed l d) (hl : ∀ a ∈ l, a ∈ k) : c.ClockFollowed k d :=
  ⟨frame_mono h.frame hl, h.clkLost, h.range, h.flds⟩

theorem Chan.ClockFollowed.b (h : c.ClockFollowed l d) {f : Fld} (hf : f ∈ clockFlds) : d.b f = c.b f := by rw [Chan.b, h.flds f hf, Chan.b]
theorem Chan.ClockFollowed.gb (h : c.ClockFollowed l d) {f : Fld} (hf : f ∈ clockFlds) (i : Nat) : d.gb f i = c.gb f i := by rw [Chan.gb, h.flds f hf, Chan.gb]

theorem Chan.ClockFollowed.p (h : c.ClockFollowed l d) {f : Fld} {v : Nat} (hr : f.reg ∈ l) (hf : f.ok = true) (ha : ∀ k ∈ clockFlds, f.apart k = true) :
    c.ClockFollowed l (d.p f v) :=
  have hok : ∀ k ∈ clockFlds, k.ok = true := by decide
  ⟨frame_p h.frame hr, h.clkLost, h.range, fun k hk => (Chan.g_p_other _ _ _ _ hf (hok k hk) (ha k hk)).trans (h.flds k hk)⟩

/-- The reaction to a source is part of what follows. -/
theorem Chan.ClockFollowed.react (h : c.ClockFollowed (l ++ reactionRegs) d) (k : d.Reacts false e) : c.ClockFollowed (l ++ reactionRegs) e :=
  have hn : ∀ f ∈ clockFlds, f.reg ∉ reactionRegs := by decide
  ⟨frame_react h.frame k, (congrArg Sinc.clkLost k.sinc).trans h.clkLost, (congrArg Sinc.range k.sinc).trans h.range,
    fun f hf => ((frame_reacts k).g (hn f hf)).trans (h.flds f hf)⟩

/-- Without a source, what follows stays within SINC and XCHK. -/
theorem Chan.ClockFollowed.calm (h : c.ClockFollowed clockRegs d) : c.ClockFollowed (clockRegs ++ reactionRegs) d := h.mono fun _ => List.mem_append_left _

/-- Registers of SINC written before what follows. -/
theorem Chan.ClockFollowed.after (h : d.ClockFollowed (clockRegs ++ reactionRegs) e) (k : c.Frame l d) (hl : ∀ a ∈ l, a ∈ clockRegs) :
    c.Frame (clockRegs ++ reactionRegs) e :=
  frame_trans (frame_mono k fun a ha => List.mem_append_left _ (hl a ha)) h.frame
end

theorem Chan.clockFollowed_onSd (l : List Nat) (c : Chan) (n : Nat) (f : SdIn → SdIn) : c.ClockFollowed l (c.onSd n f) := ⟨fun _ _ => rfl, rfl, rfl, fun _ _ => rfl⟩

/-- The registers of an input that a loss writes, and their fields, which are none of those that show an event or the inputs' validity. -/
theorem lossRegs_mem {n : Nat} (h : n < 4) : DF_RES n ∈ clockRegs ∧ SD_LOSS_COUNT n ∈ clockRegs := by
  interval_cases n <;> decide
theorem lossFlds_apart {n : Nat} (h : n < 4) :
    ∀ k ∈ SD_STATUS_VALID :: clockFlds, (DF_RES_VALID n).apart k = true ∧ (SD_LOSS_COUNT_COUNT n).apart k = true := by
  interval_cases n <;> decide

theorem Chan.clockFollowed_sdLose (c : Chan) {n : Nat} (h : n < 4) : c.ClockFollowed clockRegs (c.sdLose n) := by
  obtain ⟨hres, hcount⟩ := lossRegs_mem h
  have ha := fun k hk => lossFlds_apart h k (List.mem_cons_of_mem _ hk)
  exact ((((c.clockFollowed_onSd _ n _).p (f := SD_STATUS_VALID) (by decide) rfl (by decide)).p (f := SD_STATUS_SETTLING) (by decide) rfl (by decide)).p
    hres rfl fun k hk => (ha k hk).1).p hcount rfl fun k hk => (ha k hk).2

theorem Chan.clockFollowed_sdSettle (c : Chan) (n : Nat) : c.ClockFollowed clockRegs (c.sdSettle n) := by
  rw [Chan.sdSettle]
  split_ifs
  · exact c.clockFollowed_refl _
  · exact (c.clockFollowed_onSd clockRegs n _).p (f := SD_STATUS_SETTLING) (by decide) rfl (by decide)

theorem Chan.clockFollowed_sdSettleAll (c : Chan) : c.ClockFollowed clockRegs c.sdSettleAll :=
  List.foldlRecOn _ _ (c.clockFollowed_refl _) (fun d h n _ => h.trans (d.clockFollowed_sdSettle n))

theorem Chan.clockFollowed_sdLoseAll (c : Chan) : c.ClockFollowed clockRegs c.sdLoseAll := by
  refine List.foldlRecOn _ _ (c.clockFollowed_refl _) (fun d h n hn => ?_)
  split_ifs
  · exact h.trans (d.clockFollowed_sdLose (List.mem_range.1 hn))
  · exact h

theorem Chan.frame_xcShow (c : Chan) : c.Frame [XC_STATUS] c.xcShow :=
  frame_p (f := XC_STATUS_SEC_OK) (frame_p (f := XC_STATUS_PRI_OK) (frame_refl _ _) (by decide)) (by decide)

/-- The secondary path judged anew: XC_STATUS shown, and then a source alone is raised or cleared (R128). -/
theorem Chan.reacts_secEval (c : Chan) : c.xcShow.Reacts false c.secEval := react_follow (react_refl _)

theorem Chan.frame_secEval (c : Chan) : c.Frame ([XC_STATUS] ++ reactionRegs) c.secEval :=
  frame_react (frame_mono c.frame_xcShow (fun _ => List.mem_append_left _)) c.reacts_secEval

theorem Chan.srcLatched_secEval (c : Chan) {s : Src} (hb : s.bit < 16) (h : c.srcLatched s = true) : c.secEval.srcLatched s = true :=
  c.reacts_secEval.latched s hb ((c.frame_xcShow.srcLatched (src_not_mem s (by decide))).trans h)

theorem Chan.clockFollowed_secEval (c : Chan) : c.ClockFollowed (clockRegs ++ reactionRegs) c.secEval := by
  have hs : c.ClockFollowed clockRegs c.xcShow :=
    ((c.clockFollowed_refl _).p (f := XC_STATUS_PRI_OK) (by decide) rfl (by decide)).p (f := XC_STATUS_SEC_OK) (by decide) rfl (by decide)
  exact hs.calm.react c.reacts_secEval

/-! ### Inputs invalid after a loss (R103) -/

theorem Chan.gb_valid_sdLose (c : Chan) {n k : Nat} (hn : n < 4) (hk : k < 4) :
    (c.sdLose n).gb SD_STATUS_VALID k = if k = n then false else c.gb SD_STATUS_VALID k := by
  obtain ⟨hv1, hv2⟩ := lossFlds_apart hn SD_STATUS_VALID (by decide)
  rw [Chan.sdLose, Chan.sdFlush, Chan.satInc, Chan.gb_p_other _ _ _ _ _ rfl rfl hv2, Chan.gb_p_other _ _ _ _ _ rfl rfl hv1]
  exact (Chan.gb_p_other _ SD_STATUS_SETTLING _ _ _ rfl rfl rfl).trans (Chan.gb_pb _ n false rfl hk)

/-- Enabled inputs of a list lose their clock: one that is among them, or was invalid before, is invalid. -/
theorem gb_valid_loseList {l : List Nat} (hl : ∀ n ∈ l, n < 4) {c : Chan} {k : Nat} (hk : k < 4) (he : c.sdOn k = true)
    (h : k ∈ l ∨ c.gb SD_STATUS_VALID k = false) : (l.foldl (fun d n => if d.sdOn n then d.sdLose n else d) c).gb SD_STATUS_VALID k = false := by
  induction l generalizing c with
  | nil => exact h.resolve_left List.not_mem_nil
  | cons n l ih =>
    have hn := hl n List.mem_cons_self
    have hv := c.gb_valid_sdLose hn hk
    rw [List.foldl_cons]
    by_cases hon : c.sdOn n = true
    · rw [if_pos hon]
      refine ih (fun m hm => hl m (List.mem_cons_of_mem _ hm)) (((c.clockFollowed_sdLose hn).frame.sdOn (by decide) k).trans he) ?_
      by_cases hkn : k = n
      · exact .inr (hv.trans (if_pos hkn))
      · exact h.imp (fun hm => (List.mem_cons.1 hm).resolve_left hkn) (fun hf => hv.trans ((if_neg hkn).trans hf))
    · rw [if_neg hon]
      refine ih (fun m hm => hl m (List.mem_cons_of_mem _ hm)) he (h.imp_left fun hm => (List.mem_cons.1 hm).resolve_left ?_)
      rintro rfl
      exact hon he

theorem Chan.gb_valid_sdLoseAll (c : Chan) {k : Nat} (hk : k < 4) (he : c.gb SD_CTL_IN_EN k = true) : c.sdLoseAll.gb SD_STATUS_VALID k = false := by
  have hon : c.sdOn k = true := by rw [Chan.sdOn, he, Bool.and_true, Nat.blt_eq]; exact hk
  rw [Chan.sdLoseAll, Chan.each]
  exact gb_valid_loseList (fun _ hn => List.mem_range.1 hn) hk hon (.inl (List.mem_range.2 hk))

/-! ### The source of an event raised (R100 to R102) -/

/-- An event written into registers of SINC (`d`) and followed by a loss (`e`); then its source is raised and the secondary path judged. -/
theorem raised_secEval {c d e : Chan} {s : Src} (hs : s.blk = 2) (hb : s.bit < 16) (hf : c.Frame [SD_STATUS, SD_MCLK_MEAS] d) (h : d.ClockFollowed clockRegs e)
    (ho : c.state ≠ OFF) (ha : c.srcActive s = false) :
    d.ClockFollowed (clockRegs ++ reactionRegs) (e.raise s).secEval ∧ (e.raise s).secEval.srcLatched s = true ∧
      ∀ k, (e.raise s).secEval.gb SD_STATUS_VALID k = e.gb SD_STATUS_VALID k := by
  have he : c.Frame clockRegs e := frame_trans (frame_mono hf (by decide)) h.frame
  have hr : e.Reacts false (e.raise s) := react_raise (react_refl _)
  have hn : (srcRegs s.blk).src ∉ clockRegs := by rw [hs]; decide
  have hl : (e.raise s).srcLatched s = true := raise_latched e s hb (by rwa [he.state (by decide)]) (by rwa [he.srcActive hn])
  refine ⟨(h.calm.react hr).trans (Chan.clockFollowed_secEval _), Chan.srcLatched_secEval _ hb hl, fun k => ?_⟩
  exact ((Chan.frame_secEval _).gb (by decide) k).trans ((frame_reacts hr).gb (by decide) k)

/-! ### The measurement of the clock's period (R97, R99) -/

theorem mclk_ne_low {c : Chan} : c.mclk ≠ .low ↔ c.b SD_CTL_CLK_MODE = true ∨ c.g SD_CTL_IN_EN ≠ 0 := by
  rw [Chan.mclk]
  split_ifs with hm he <;> simp [*]

/-- The channel with a period measured. -/
def Chan.mclkMeasured (c : Chan) (p : Nat) : Chan := c.p SD_MCLK_MEAS_PERIOD (c.mclkPeriod p)

/-- What a measurement shows: `p` of an external clock, DIV of the channel's own, the last one where no clock runs (log 81). -/
theorem mclkMeasured_period (c : Chan) (p : Nat) : (c.mclkMeasured p).g SD_MCLK_MEAS_PERIOD =
    if c.b SD_CTL_CLK_MODE then p % 2 ^ 24 else if c.g SD_CTL_IN_EN = 0 then c.g SD_MCLK_MEAS_PERIOD else c.g SD_MCLK_DIV * 256 := by
  have hdiv : c.g SD_MCLK_DIV < 256 := c.g_lt _
  have hper : c.g SD_MCLK_MEAS_PERIOD < 2 ^ 24 := c.g_lt _
  rw [Chan.mclkMeasured, Chan.g_p_same _ _ _ rfl, Chan.mclkPeriod, Chan.mclk]
  split_ifs with hm he
  · rfl
  · exact Nat.mod_eq_of_lt hper
  · exact Nat.mod_eq_of_lt (show c.g SD_MCLK_DIV * 256 < 2 ^ 24 by omega)

/-- A measurement with nothing to report: the channel's own clock, or an external one inside 4.75 MHz to 26.25 MHz. -/
theorem doSdMclkMeasure_fine {c : Chan} {p : Nat} (hr : c.sinc.range = false)
    (h : c.b SD_CTL_CLK_MODE = false ∨ (475 * p ≤ 960 * 256 * 100 ∧ 960 * 256 * 100 ≤ 2625 * p)) : doSdMclkMeasure p c = c.mclkMeasured p := by
  have hout : (c.b SD_CTL_CLK_MODE && (Nat.blt (960 * 256 * 100) (475 * p) || Nat.blt (2625 * p) (960 * 256 * 100))) = false := by
    rcases h with h | ⟨hlo, hhi⟩
    · rw [h, Bool.false_and]
    · have hl : Nat.blt (960 * 256 * 100) (475 * p) = false := by rw [Bool.eq_false_iff, ne_eq, Nat.blt_eq]; exact not_lt.2 hlo
      have hh : Nat.blt (2625 * p) (960 * 256 * 100) = false := by rw [Bool.eq_false_iff, ne_eq, Nat.blt_eq]; exact not_lt.2 hhi
      rw [hl, hh, Bool.or_false, Bool.and_false]
  rw [doSdMclkMeasure]
  simp only [hout, Bool.false_eq_true, if_false]
  exact if_neg (by rw [show (c.p SD_MCLK_MEAS_PERIOD (c.mclkPeriod p)).sinc.range = false from hr]; decide)

/-- The channel as its external clock is found out of range (R99). -/
def Chan.rangeFound (c : Chan) (p : Nat) : Chan := (c.mclkMeasured p).onSinc (fun x => { x with range := true })

theorem doSdMclkMeasure_out {c : Chan} {p : Nat} (hr : c.sinc.range = false) (hm : c.b SD_CTL_CLK_MODE = true)
    (h : 960 * 256 * 100 < 475 * p ∨ 2625 * p < 960 * 256 * 100) : doSdMclkMeasure p c = ((c.rangeFound p).sdLoseAll.raise MCLK_RANGE).secEval := by
  have hout : (c.b SD_CTL_CLK_MODE && (Nat.blt (960 * 256 * 100) (475 * p) || Nat.blt (2625 * p) (960 * 256 * 100))) = true := by
    rw [hm, Bool.true_and, Bool.or_eq_true, Nat.blt_eq, Nat.blt_eq]
    exact h
  rw [doSdMclkMeasure]
  simp only [hout, if_true]
  exact if_neg (by rw [show (c.p SD_MCLK_MEAS_PERIOD (c.mclkPeriod p)).sinc.range = false from hr]; decide)

/-! ### The clock lost and back (R100, R103, R104) -/

/-- The channel as its clock is found lost: CLK_OK clear. -/
def Chan.clockMissed (c : Chan) : Chan := (c.onSinc (fun x => { x with clkLost := true })).p SD_STATUS_CLK_OK 0

theorem doClkLoss_lost {c : Chan} (h : c.sinc.clkLost = false) (hr : c.mclk ≠ .low) : doClkLoss c = (c.clockMissed.sdLoseAll.raise CLK_LOSS).secEval :=
  if_neg (by simp [h, hr])

theorem doClkLoss_low {c : Chan} (h : c.mclk = .low) : doClkLoss c = c := if_pos (.inr h)

/-- The channel with its clock present. -/
def Chan.clockSeen (c : Chan) : Chan := (c.onSinc (fun x => { x with clkLost := false })).p SD_STATUS_CLK_OK 1

theorem frame_clockSeen (c : Chan) : c.Frame [SD_STATUS] c.clockSeen := frame_p (frame_onSinc (frame_refl _ _)) (by decide)

theorem doSdClockResume_low {c : Chan} (h : c.mclk = .low) : doSdClockResume c = c := if_pos h

theorem doSdClockResume_kept {c : Chan} (hr : c.mclk ≠ .low) (h : c.sinc.clkLost = false) : doSdClockResume c = c.p SD_STATUS_CLK_OK 1 :=
  (if_neg hr).trans (if_pos (by rw [h]; rfl))

theorem doSdClockResume_back {c : Chan} (hr : c.mclk ≠ .low) (h : c.sinc.clkLost = true) :
    doSdClockResume c = ((c.clockSeen.clear CLK_LOSS).sdSettleAll).secEval :=
  (if_neg hr).trans (if_neg (by rw [h]; decide))

/-- However it was before, the clock is present after its eighth edge, and what follows leaves it so. -/
theorem clockSeen_followed {c : Chan} (hr : c.mclk ≠ .low) : c.clockSeen.ClockFollowed (clockRegs ++ reactionRegs) (doSdClockResume c) := by
  cases h : c.sinc.clkLost
  case false =>
    rw [doSdClockResume_kept hr h]
    exact ⟨fun _ _ => rfl, h, rfl, fun _ _ => rfl⟩
  case true =>
    rw [doSdClockResume_back hr h]
    have hc := (c.clockSeen.clockFollowed_refl (clockRegs ++ reactionRegs)).react (react_clear (s := CLK_LOSS) (react_refl _))
    exact (hc.trans (Chan.clockFollowed_sdSettleAll _).calm).trans (Chan.clockFollowed_secEval _)

/-! ### Stuck data (R102 to R104) -/

/-- The channel with input `n` shown stuck or no longer so. -/
def Chan.stuckShown (c : Chan) (n : Nat) (v : Bool) : Chan := c.pb SD_STATUS_STUCK n v

theorem frame_stuckShown (c : Chan) (n : Nat) (v : Bool) : c.Frame [SD_STATUS] (c.stuckShown n v) := frame_pb (frame_refl _ _) (by decide)

theorem stuckShown_stuck (c : Chan) {n : Nat} (v : Bool) (h : n < 4) : (c.stuckShown n v).gb SD_STATUS_STUCK n = v :=
  (Chan.gb_pb c n v rfl h).trans (if_pos rfl)

theorem doStuckData_lost {c : Chan} {n : Nat} (hon : c.sdOn n = true) (h : c.gb SD_STATUS_STUCK n = false) :
    doStuckData n c = (((c.stuckShown n true).sdLose n).raise (STUCK n)).secEval :=
  if_neg (by simp [hon, h])

theorem doSdStuckEnd_ended {c : Chan} {n : Nat} (hn : n < 4) (h : c.gb SD_STATUS_STUCK n = true) :
    doSdStuckEnd n c = (((c.stuckShown n false).clear (STUCK n)).sdSettle n).secEval :=
  if_neg (by simp [h]; omega)

theorem stuckEnd_followed (c : Chan) (n : Nat) :
    (c.stuckShown n false).ClockFollowed (clockRegs ++ reactionRegs) (((c.stuckShown n false).clear (STUCK n)).sdSettle n).secEval := by
  have hc := ((c.stuckShown n false).clockFollowed_refl (clockRegs ++ reactionRegs)).react (react_clear (s := STUCK n) (react_refl _))
  exact (hc.trans (Chan.clockFollowed_sdSettle _ n).calm).trans (Chan.clockFollowed_secEval _)

/-- Settles O19: the event itself by its equation, what follows it by `Chan.ClockFollowed`. The range of the external clock and the measurement of the
channel's own are the model's choice (log 81). -/
theorem sigmaDeltaClock : Obligations.SigmaDeltaClock := by
  intro s t ch n p c regs per runs ho
  refine ⟨?measured, ?range, ?lost, ?back, ?idle, ?stuck, ?stuckEnd⟩
  case measured =>
    intro hr h
    refine actsOn_live (c := c) rfl rfl ho ?_
    rw [doSdMclkMeasure_fine hr h]
    exact ⟨mclkMeasured_period c p, Chan.regsOnly_wr _ _ _⟩
  case range =>
    intro hr hm h ha
    refine actsOn_live (c := c) rfl rfl ho ?_
    rw [doSdMclkMeasure_out hr hm h]
    have hf : c.Frame [SD_STATUS, SD_MCLK_MEAS] (c.rangeFound p) := frame_onSinc (frame_p (frame_refl _ _) (by decide))
    obtain ⟨hd, hlat, -⟩ := raised_secEval (s := MCLK_RANGE) rfl (by decide) hf (Chan.clockFollowed_sdLoseAll _) ho ha
    exact ⟨(hd.flds _ (by decide)).trans (mclkMeasured_period c p), hd.range, hlat, hd.after hf (by decide)⟩
  case lost =>
    intro h hr ha
    refine actsOn_live (c := c) rfl rfl ho ?_
    rw [doClkLoss_lost h (mclk_ne_low.2 hr)]
    have hf : c.Frame [SD_STATUS, SD_MCLK_MEAS] c.clockMissed := frame_p (frame_onSinc (frame_refl _ _)) (by decide)
    obtain ⟨hd, hlat, hv⟩ := raised_secEval (s := CLK_LOSS) rfl (by decide) hf (Chan.clockFollowed_sdLoseAll _) ho ha
    refine ⟨hd.clkLost, (hd.b (by decide)).trans (Chan.b_p_zero _ _ rfl), hlat, fun k hk he => ?_, hd.after hf (by decide)⟩
    exact (hv k).trans (Chan.gb_valid_sdLoseAll _ hk ((hf.gb (by decide) k).trans he))
  case back =>
    intro hr
    refine actsOn_live (c := c) rfl rfl ho ?_
    have hd := clockSeen_followed (mclk_ne_low.2 hr)
    exact ⟨hd.clkLost, (hd.b (by decide)).trans (Chan.b_p_one _ _ rfl), hd.after (frame_clockSeen c) (by decide)⟩
  case idle =>
    intro hr
    have hlow : c.mclk = .low := not_not.1 (mt mclk_ne_low.1 hr)
    exact ⟨actsOn_live (c := c) rfl rfl ho (doClkLoss_low hlow), actsOn_live (c := c) rfl rfl ho (doSdClockResume_low hlow)⟩
  case stuck =>
    intro hon h ha
    have hn := lt_of_sdOn hon
    refine actsOn_live (c := c) rfl rfl ho ?_
    rw [doStuckData_lost hon h]
    have hf := frame_mono (k := [SD_STATUS, SD_MCLK_MEAS]) (frame_stuckShown c n true) (by decide)
    obtain ⟨hd, hlat, hv⟩ := raised_secEval (s := STUCK n) rfl (show 8 + n < 16 by omega) hf (Chan.clockFollowed_sdLose _ hn) ho ha
    exact ⟨(hd.gb (by decide) n).trans (stuckShown_stuck c true hn), (hv n).trans ((Chan.gb_valid_sdLose _ hn hn).trans (if_pos rfl)), hlat, hd.after hf (by decide)⟩
  case stuckEnd =>
    intro hn h
    refine actsOn_live (c := c) rfl rfl ho ?_
    rw [doSdStuckEnd_ended hn h]
    have hd := stuckEnd_followed c n
    exact ⟨(hd.gb (by decide) n).trans (stuckShown_stuck c false hn), hd.after (frame_stuckShown c n false) (by decide)⟩

end Sys2Proof.Machine
end

section
/-! PROOFS. The sigma-delta filters (R105 to R110): O20. -/

namespace Sys2Proof.Machine
open Sys2Proof

/-- The channel with input `n` replaced. -/
def Chan.setSd (c : Chan) (n : Nat) (x : SdIn) : Chan := { c with sinc := { c.sinc with inp := c.sinc.inp.set n x } }

theorem Chan.onSd_eq_setSd (c : Chan) (n : Nat) (f : SdIn → SdIn) : c.onSd n f = c.setSd n (f (c.sdIn n)) := rfl

/-! ### What a sampled bit leaves (R107, R110) -/

/-- What the bits of input `n` leave: every register but the comparator's result and those of the reaction, the clock and the timebase, and an input whose
filters run goes on running. -/
structure Chan.BitTaken (n : Nat) (c d : Chan) : Prop where
  frame : c.Frame (CF_RES n :: reactionRegs) d
  now : d.now = c.now
  tb : d.tb = c.tb
  live : (d.sdIn n).live = (c.sdIn n).live

section
variable {n : Nat} {c d e : Chan}

theorem Chan.bitTaken_refl (n : Nat) (c : Chan) : c.BitTaken n c := ⟨frame_refl _ _, rfl, rfl, rfl⟩

theorem Chan.BitTaken.trans (h : c.BitTaken n d) (k : d.BitTaken n e) : c.BitTaken n e :=
  ⟨frame_trans h.frame k.frame, k.now.trans h.now, k.tb.trans h.tb, k.live.trans h.live⟩

theorem Chan.BitTaken.p (h : c.BitTaken n d) (f : Fld) (v : Nat) (hr : f.reg = CF_RES n) : c.BitTaken n (d.p f v) :=
  ⟨frame_p h.frame (hr ▸ List.mem_cons_self), h.now, h.tb, h.live⟩

/-- A source raised or cleared leaves SINC's part beside the registers. -/
theorem Chan.BitTaken.react (h : c.BitTaken n d) (k : d.Reacts false e) (ht : e.tb = d.tb) : c.BitTaken n e :=
  ⟨frame_react (l := [CF_RES n]) h.frame k, k.now.trans h.now, ht.trans h.tb, (congrArg (fun x : Sinc => (x.inp.getD n {}).live) k.sinc).trans h.live⟩

theorem Chan.BitTaken.raise (h : c.BitTaken n d) (s : Src) : c.BitTaken n (d.raise s) := h.react (react_raise (react_refl _)) (Chan.raise_tb _ _)
theorem Chan.BitTaken.clear (h : c.BitTaken n d) (s : Src) : c.BitTaken n (d.clear s) := h.react (react_clear (react_refl _)) (Chan.clear_tb _ _)

theorem Chan.bitTaken_onSd (c : Chan) (n : Nat) {f : SdIn → SdIn} (hf : ∀ x, (f x).live = x.live) : c.BitTaken n (c.onSd n f) := by
  refine ⟨fun _ _ => rfl, rfl, rfl, ?_⟩
  by_cases hn : n < c.sinc.inp.length
  · rw [sdIn_onSd f hn, hf]
  · simp [Chan.sdIn, Chan.onSd, Chan.onSinc, List.set_eq_of_length_le (not_lt.1 hn)]

theorem Chan.BitTaken.sdOn (h : c.BitTaken n d) : d.sdOn n = c.sdOn n := by
  by_cases hn : n < 4
  · exact h.frame.sdOn (by interval_cases n <;> decide) n
  · have hf : Nat.blt n 4 = false := by rw [Bool.eq_false_iff, ne_eq, Nat.blt_eq]; exact hn
    rw [Chan.sdOn, Chan.sdOn, hf, Bool.false_and, Bool.false_and]

theorem Chan.BitTaken.devTime (h : c.BitTaken n d) : d.devTime = c.devTime := by rw [Chan.devTime, h.tb, h.now, Chan.devTime]
end

/-! ### The comparator's verdict (R110) -/

/-- An input's consecutive outputs above, below and inside the limits, after one more. -/
def SdIn.counted (y : SdIn) (above below : Bool) : SdIn :=
  { y with
    hi := if above then min 16 (y.hi + 1) else 0
    lo := if below then min 16 (y.lo + 1) else 0
    ins := if above || below then 0 else min 16 (y.ins + 1) }

/-- The channel with an output `v` of input `n` counted. -/
def Chan.sdCounted (c : Chan) (n : Nat) (v : Int) : Chan :=
  c.onSd n (fun y => y.counted (decide (c.gi (CF_LIM_HIGH n) < v)) (decide (v < c.gi (CF_LIM_LOW n))))

/-- A trip of the comparator shown and raised, where it is due. -/
def Chan.tripIf (c : Chan) (due : Prop) [Decidable due] (f : Fld) (s : Src) : Chan := if due then (c.p f 1).raise s else c

/-- The channel with both trips of the comparator of input `n` ended. -/
def Chan.tripsEnded (c : Chan) (n : Nat) : Chan := (((c.p (CF_RES_HIGH_TRIP n) 0).p (CF_RES_LOW_TRIP n) 0).clear (CMPH n)).clear (CMPL n)

/-- The trips that the counts of input `n` give. -/
def Chan.sdTripped (c : Chan) (n need : Nat) : Chan :=
  (c.tripIf (need ≤ (c.sdIn n).hi) (CF_RES_HIGH_TRIP n) (CMPH n)).tripIf (need ≤ (c.sdIn n).lo) (CF_RES_LOW_TRIP n) (CMPL n)

/-- The verdict by what has been counted. -/
def Chan.sdJudged (c : Chan) (n need : Nat) : Chan := if need ≤ (c.sdIn n).ins then (c.sdTripped n need).tripsEnded n else c.sdTripped n need

theorem sdVerdict_eq (c : Chan) (n : Nat) (v : Int) : c.sdVerdict n v = (c.sdCounted n v).sdJudged n (c.g (CF_CFG_DEBOUNCE n) + 1) := rfl

theorem Chan.bitTaken_sdCounted (c : Chan) (n : Nat) (v : Int) : c.BitTaken n (c.sdCounted n v) := c.bitTaken_onSd n fun _ => rfl

theorem Chan.BitTaken.tripIf {n : Nat} {c d : Chan} (h : c.BitTaken n d) (due : Prop) [Decidable due] {f : Fld} (hf : f.reg = CF_RES n) (s : Src) : c.BitTaken n (d.tripIf due f s) := by
  rw [Chan.tripIf]
  split_ifs
  · exact (h.p f 1 hf).raise s
  · exact h

theorem Chan.bitTaken_sdJudged (c : Chan) (n need : Nat) : c.BitTaken n (c.sdJudged n need) := by
  have h : c.BitTaken n (c.sdTripped n need) := ((c.bitTaken_refl n).tripIf _ rfl _).tripIf _ rfl _
  rw [Chan.sdJudged]
  split_ifs
  · exact (((h.p (CF_RES_HIGH_TRIP n) 0 rfl).p (CF_RES_LOW_TRIP n) 0 rfl).clear _).clear _
  · exact h

/-- The registers that set the filters and the limits of an input are neither the comparator's result nor of the reaction. -/
theorem filterRegs_not_cfRes {n : Nat} (h : n < 4) : ∀ a ∈ [CF_CFG n, CF_LIM n, DF_CFG n, DF_OFS n, DF_GAIN n], a ∉ [CF_RES n] ∧ a ∉ CF_RES n :: reactionRegs := by
  interval_cases n <;> decide

/-- The comparator's result is none of the reaction's registers. -/
theorem cfRes_calm {n : Nat} (h : n < 4) : reactionRegs.contains (CF_RES n) = false := by
  interval_cases n <;> decide

section
variable {n : Nat} (hn : n < 4)
include hn

theorem srcReg_ne_cfRes (s : Src) : (srcRegs s.blk).src ∉ [CF_RES n] :=
  src_not_mem s fun a ha => by rw [List.mem_singleton.1 ha]; exact cfRes_calm hn

theorem Chan.g_raise_cfRes (c : Chan) (s : Src) {k : Fld} (hk : k.reg = CF_RES n) : (c.raise s).g k = c.g k :=
  have hr : c.Reacts false (c.raise s) := react_raise (react_refl c)
  (frame_reacts hr).g (by rw [hk]; simpa using cfRes_calm hn)

/-- A trip leaves the other fields of the comparator's result, and every source latched that was. -/
theorem Chan.g_tripIf (c : Chan) (due : Prop) [Decidable due] {f k : Fld} (s : Src) (hf : f.ok = true) (hk : k.ok = true) (ha : f.apart k = true) (hr : k.reg = CF_RES n) :
    (c.tripIf due f s).g k = c.g k := by
  rw [Chan.tripIf]
  split_ifs
  · rw [Chan.g_raise_cfRes hn _ _ hr, Chan.g_p_other _ _ _ _ hf hk ha]
  · rfl

theorem Chan.srcLatched_tripIf {c : Chan} (due : Prop) [Decidable due] {f : Fld} (s : Src) {k : Src} (hf : f.reg = CF_RES n) (hb : k.bit < 16) (h : c.srcLatched k = true) :
    (c.tripIf due f s).srcLatched k = true := by
  rw [Chan.tripIf]
  split_ifs
  · have hp : c.Frame [CF_RES n] (c.p f 1) := frame_p (frame_refl _ _) (hf ▸ List.mem_cons_self)
    have hr : (c.p f 1).Reacts false ((c.p f 1).raise s) := react_raise (react_refl _)
    exact hr.latched k hb ((hp.srcLatched (srcReg_ne_cfRes hn k)).trans h)
  · exact h

/-- Enough outputs above the limit trip the comparator; the value stays. -/
theorem sdJudged_above {c : Chan} {need : Nat} (hhi : need ≤ (c.sdIn n).hi) (hins : (c.sdIn n).ins < need) (ho : c.state ≠ OFF) (ha : c.srcActive (CMPH n) = false) :
    (c.sdJudged n need).g (CF_RES_VALUE n) = c.g (CF_RES_VALUE n) ∧ (c.sdJudged n need).b (CF_RES_HIGH_TRIP n) = true ∧
      (c.sdJudged n need).srcLatched (CMPH n) = true := by
  have hf : c.Frame [CF_RES n] (c.p (CF_RES_HIGH_TRIP n) 1) := frame_p (frame_refl _ _) List.mem_cons_self
  have hs : CH_STATE ∉ [CF_RES n] := by interval_cases n <;> decide
  have hl : ((c.p (CF_RES_HIGH_TRIP n) 1).raise (CMPH n)).srcLatched (CMPH n) = true :=
    raise_latched _ _ (show n < 16 by omega) (by rwa [hf.state hs]) (by rwa [hf.srcActive (srcReg_ne_cfRes hn _)])
  have apart : (CF_RES_HIGH_TRIP n).apart (CF_RES_VALUE n) = true ∧ (CF_RES_LOW_TRIP n).apart (CF_RES_VALUE n) = true ∧
      (CF_RES_LOW_TRIP n).apart (CF_RES_HIGH_TRIP n) = true := by interval_cases n <;> decide
  obtain ⟨hhv, hlv, hlh⟩ := apart
  rw [Chan.sdJudged, if_neg (not_le.2 hins), Chan.sdTripped, Chan.tripIf.eq_1 c, if_pos hhi]
  refine ⟨?value, ?trip, Chan.srcLatched_tripIf hn _ _ rfl (show n < 16 by omega) hl⟩
  case value => rw [Chan.g_tripIf hn _ _ _ rfl rfl hlv rfl, Chan.g_raise_cfRes hn _ _ rfl, Chan.g_p_other _ _ _ _ rfl rfl hhv]
  case trip =>
    rw [Chan.b, Chan.g_tripIf hn _ _ _ rfl rfl hlh rfl, Chan.g_raise_cfRes hn _ _ rfl]
    exact Chan.b_p_one _ _ rfl
end

/-! ### A sampled bit -/

/-- An input with one bit more, of which its comparator filter needs `need`. -/
def SdIn.sampled (x : SdIn) (bit : Bool) (need : Nat) : SdIn := { x with bits := (bit :: x.bits).take 1024, win := min 1024 (x.win + 1), cfN := min need (x.cfN + 1) }

/-- The bits that an output of the comparator filter needs: ORD × OSR, two periods before (R107). -/
def Chan.cfNeed (c : Chan) (n : Nat) : Nat := c.g (CF_CFG_ORD n) * c.g (CF_CFG_OSR n) + 2

/-- The channel with one bit more on input `n`. -/
def Chan.sdSampled (c : Chan) (n : Nat) (bit : Bool) : Chan := c.onSd n (fun y => y.sampled bit (c.cfNeed n))

/-- The corrected output of the comparator filter of input `n` (R106, R110). -/
def Chan.cfValue (c : Chan) (n : Nat) : Int :=
  sdCorrect (sincCount (c.g (CF_CFG_ORD n)) (c.g (CF_CFG_OSR n)) ((c.sdIn n).bits.drop 2)) (c.g (CF_CFG_OSR n) ^ c.g (CF_CFG_ORD n)) (c.gi (DF_OFS_OFS n)) (c.gi (DF_GAIN_GAIN n))

/-- The channel with the output of the comparator filter of input `n` written. -/
def Chan.cfWritten (c : Chan) (n : Nat) : Chan := c.pi (CF_RES_VALUE n) (c.cfValue n)

/-- The value that an output of the comparator filter shows. -/
theorem cfWritten_value (c : Chan) (n : Nat) : (c.cfWritten n).g (CF_RES_VALUE n) = toBits 16 (c.cfValue n) :=
  (Chan.g_p_same _ _ _ rfl).trans (Nat.mod_eq_of_lt (toBits_lt 16 _))

theorem frame_cfWritten (c : Chan) (n : Nat) : c.Frame [CF_RES n] (c.cfWritten n) := frame_pi (frame_refl _ _) List.mem_cons_self

theorem doSdComparatorOutput_idle {n : Nat} (bit : Bool) {c : Chan} (h : c.sdOn n = false ∨ (c.sdIn n).live = false) : doSdComparatorOutput n bit c = c :=
  if_pos (by simpa using h)

section
variable {n : Nat} (bit : Bool) {c : Chan} (hon : c.sdOn n = true) (hx : (c.sdIn n).live = true)
include hon hx

/-- Within the settling time the bit is only kept (R105). -/
theorem doSdComparatorOutput_settling (h : ((c.sdSampled n bit).sdIn n).cfN < c.cfNeed n) : doSdComparatorOutput n bit c = c.sdSampled n bit :=
  (if_neg (by simp [hon, hx])).trans (if_pos h)

theorem doSdComparatorOutput_output (h : c.cfNeed n ≤ ((c.sdSampled n bit).sdIn n).cfN) : doSdComparatorOutput n bit c =
    if c.b (CF_CFG_EN n) then ((c.sdSampled n bit).cfWritten n).sdVerdict n ((c.sdSampled n bit).cfValue n) else (c.sdSampled n bit).cfWritten n := by
  have he : ((c.sdSampled n bit).cfWritten n).b (CF_CFG_EN n) = c.b (CF_CFG_EN n) :=
    (frame_cfWritten (c.sdSampled n bit) n).b (filterRegs_not_cfRes (lt_of_sdOn hon) _ (by simp [CF_CFG_EN])).1
  rw [← he]
  exact (if_neg (by simp [hon, hx])).trans (if_neg (not_lt.2 h))

/-- Without its comparator enabled an output is shown alone. -/
theorem doSdComparatorOutput_shows (h : c.cfNeed n ≤ ((c.sdSampled n bit).sdIn n).cfN) (he : c.b (CF_CFG_EN n) = false) :
    doSdComparatorOutput n bit c = (c.sdSampled n bit).cfWritten n := by
  rw [doSdComparatorOutput_output bit hon hx h, he, if_neg Bool.false_ne_true]
end

theorem bitTaken_doSdComparatorOutput (n : Nat) (bit : Bool) (c : Chan) : c.BitTaken n (doSdComparatorOutput n bit c) := by
  by_cases h : c.sdOn n = true ∧ (c.sdIn n).live = true
  case neg =>
    rw [doSdComparatorOutput_idle bit (by simpa only [not_and_or, Bool.not_eq_true] using h)]
    exact c.bitTaken_refl n
  case pos =>
    obtain ⟨hon, hx⟩ := h
    have hs : c.BitTaken n (c.sdSampled n bit) := c.bitTaken_onSd n fun _ => rfl
    have hw : c.BitTaken n ((c.sdSampled n bit).cfWritten n) := hs.p _ _ rfl
    by_cases hn : ((c.sdSampled n bit).sdIn n).cfN < c.cfNeed n
    · rw [doSdComparatorOutput_settling bit hon hx hn]
      exact hs
    · rw [doSdComparatorOutput_output bit hon hx (not_lt.1 hn)]
      split_ifs
      · rw [sdVerdict_eq]
        exact (hw.trans (Chan.bitTaken_sdCounted _ n _)).trans (Chan.bitTaken_sdJudged _ n _)
      · exact hw

theorem bitTaken_bits (n : Nat) (tail : List Bool) (c : Chan) : c.BitTaken n (tail.foldl (fun d b => doSdComparatorOutput n b d) c) :=
  List.foldlRecOn _ _ (c.bitTaken_refl n) fun d h b _ => h.trans (bitTaken_doSdComparatorOutput n b d)

theorem sdIn_sdSampled {c : Chan} {n : Nat} (bit : Bool) (hx : (c.sdIn n).live = true) : (c.sdSampled n bit).sdIn n = (c.sdIn n).sampled bit (c.cfNeed n) :=
  sdIn_onSd _ (lt_length_of_live hx)

/-- One output more above the limit, and the debounce is over. -/
theorem sdVerdict_above {c : Chan} {n : Nat} {v : Int} (hn : n < 4) (hx : n < c.sinc.inp.length) (hv : c.gi (CF_LIM_HIGH n) < v)
    (hd : c.g (CF_CFG_DEBOUNCE n) ≤ (c.sdIn n).hi) (h16 : c.g (CF_CFG_DEBOUNCE n) < 16) (ho : c.state ≠ OFF) (ha : c.srcActive (CMPH n) = false) :
    (c.sdVerdict n v).g (CF_RES_VALUE n) = c.g (CF_RES_VALUE n) ∧ (c.sdVerdict n v).b (CF_RES_HIGH_TRIP n) = true ∧
      (c.sdVerdict n v).srcLatched (CMPH n) = true := by
  have hy : (c.sdCounted n v).sdIn n = (c.sdIn n).counted true (decide (v < c.gi (CF_LIM_LOW n))) := by
    rw [Chan.sdCounted, sdIn_onSd _ hx, decide_eq_true hv]
  rw [sdVerdict_eq]
  refine sdJudged_above (c := c.sdCounted n v) hn ?_ ?_ ho ha
  · rw [hy]
    show _ ≤ min 16 ((c.sdIn n).hi + 1)
    omega
  · rw [hy]
    exact Nat.succ_pos _

/-- An output beyond the limit whose debounce is over is shown, trips the comparator and raises its source. -/
theorem doSdComparatorOutput_trips {n : Nat} (bit : Bool) {c : Chan} (hon : c.sdOn n = true) (hx : (c.sdIn n).live = true)
    (h : c.cfNeed n ≤ ((c.sdSampled n bit).sdIn n).cfN) (he : c.b (CF_CFG_EN n) = true) (hv : c.gi (CF_LIM_HIGH n) < (c.sdSampled n bit).cfValue n)
    (hd : c.g (CF_CFG_DEBOUNCE n) ≤ (c.sdIn n).hi) (h16 : c.g (CF_CFG_DEBOUNCE n) < 16) (ho : c.state ≠ OFF) (ha : c.srcActive (CMPH n) = false) :
    (doSdComparatorOutput n bit c).g (CF_RES_VALUE n) = toBits 16 ((c.sdSampled n bit).cfValue n) ∧ (doSdComparatorOutput n bit c).b (CF_RES_HIGH_TRIP n) = true ∧
      (doSdComparatorOutput n bit c).srcLatched (CMPH n) = true := by
  have hn := lt_of_sdOn hon
  have hcfg := filterRegs_not_cfRes hn
  have hs : CH_STATE ∉ [CF_RES n] := by interval_cases n <;> decide
  have hlen : n < (c.sdSampled n bit).sinc.inp.length := (lt_length_of_live hx).trans_eq List.length_set.symm
  have hw : c.Frame [CF_RES n] ((c.sdSampled n bit).cfWritten n) := frame_cfWritten (c.sdSampled n bit) n
  have hdeb := hw.g (f := CF_CFG_DEBOUNCE n) (hcfg _ (by simp [CF_CFG_DEBOUNCE])).1
  have hlim := hw.gi (f := CF_LIM_HIGH n) (hcfg _ (by simp [CF_LIM_HIGH])).1
  have hhi : (((c.sdSampled n bit).cfWritten n).sdIn n).hi = (c.sdIn n).hi := (congrArg SdIn.hi (sdIn_sdSampled bit hx) :)
  rw [doSdComparatorOutput_output bit hon hx h, he, if_pos rfl, ← cfWritten_value]
  exact sdVerdict_above hn hlen (by rwa [hlim]) (by rwa [hdeb, hhi]) (by rwa [hdeb]) (by rwa [hw.state hs]) (by rwa [hw.srcActive (srcReg_ne_cfRes hn _)])

/-! ### A whole window of the data filter (R105, R106, R108) -/

/-- The data filter of input `n` with a window of OSR bits taken. -/
def SdIn.windowed (x : SdIn) (osr ord : Nat) : SdIn := { x with win := x.win - osr, dfN := min ord (x.dfN + 1) }

/-- The channel with a whole window of input `n` taken. -/
def Chan.sdWindowed (c : Chan) (n : Nat) : Chan := c.onSd n (fun x => x.windowed (c.g (DF_CFG_OSR n)) (c.g (DF_CFG_ORD n)))

/-- The corrected output of the data filter of input `n` over its last whole window (R106). -/
def Chan.dfValue (c : Chan) (n : Nat) : Int :=
  let x := c.sdIn n
  let osr := c.g (DF_CFG_OSR n)
  let ord := c.g (DF_CFG_ORD n)
  sdCorrect (sincCount ord osr (x.bits.drop (x.win - osr))) (osr ^ ord) (c.gi (DF_OFS_OFS n)) (c.gi (DF_GAIN_GAIN n))

/-- The word of DF_RES: VALID, the count stepped, the output. -/
def Chan.dfWord (c : Chan) (n : Nat) : Nat := 2 ^ 31 + (c.g (DF_RES_COUNT n) + 1) % 128 * 2 ^ 24 + toBits 16 (c.dfValue n)

/-- The channel with the output of the data filter of input `n`, its time and its group delay written (R108). -/
def Chan.dfWritten (c : Chan) (n : Nat) : Chan :=
  ((((c.sdWindowed n).wr (DF_RES n) (c.dfWord n)).wr (DF_TIME_LO n) (c.devTime % 2 ^ 32)).wr (DF_TIME_HI n) (c.devTime / 2 ^ 32)).p (DF_GDLY_GDLY n) (c.sdGdly n)

/-- The channel with input `n` valid from this output on (R104). -/
def Chan.dfValid (c : Chan) (n : Nat) : Chan :=
  if c.sdValid n then c
  else (((c.pb SD_STATUS_VALID n true).pb SD_STATUS_SETTLING n false).pb SD_IRQ_STATUS_VALID_RISE n true).onSd n (fun y => { y with byLand := false })

/-- The registers that an output of the data filter writes lie apart, and none is of the status or of the reaction. -/
theorem dfRegs_apart {n : Nat} (h : n < 4) :
    [DF_RES n, DF_TIME_LO n, DF_TIME_HI n, DF_GDLY n].Nodup ∧ ∀ a ∈ [DF_RES n, DF_TIME_LO n, DF_TIME_HI n, DF_GDLY n], a ∉ [SD_STATUS, SD_IRQ_STATUS, XC_STATUS] ++ reactionRegs := by
  interval_cases n <;> decide

theorem frame_dfWritten (c : Chan) (n : Nat) : c.Frame [DF_RES n, DF_TIME_LO n, DF_TIME_HI n, DF_GDLY n] (c.dfWritten n) :=
  frame_p (frame_wr (frame_wr (frame_wr (c := c.sdWindowed n) (fun _ _ => rfl) (by simp)) (by simp)) (by simp)) (by simp [DF_GDLY_GDLY])

theorem sdValid_dfWritten (c : Chan) {n : Nat} (h : n < 4) : (c.dfWritten n).sdValid n = c.sdValid n :=
  (frame_dfWritten c n).gb (f := SD_STATUS_VALID) (by interval_cases n <;> decide) n

/-- What an output of the data filter shows. -/
theorem dfWritten_words (c : Chan) {n : Nat} (h : n < 4) : (c.dfWritten n).rd (DF_RES n) = c.dfWord n ∧
    (c.dfWritten n).rd (DF_TIME_LO n) = c.devTime % 2 ^ 32 ∧ (c.dfWritten n).rd (DF_TIME_HI n) = c.devTime / 2 ^ 32 % 2 ^ 32 := by
  have hd := (dfRegs_apart h).1
  simp only [List.nodup_cons, List.mem_cons, List.not_mem_nil, or_false, not_or] at hd
  obtain ⟨⟨rl, rh, rg⟩, ⟨lh, lg⟩, hg, -⟩ := hd
  have hword : c.dfWord n < 2 ^ 32 := by
    have hv := toBits_lt 16 (c.dfValue n)
    rw [Chan.dfWord]
    omega
  rw [Chan.dfWritten]
  refine ⟨?_, ?_, ?_⟩
  · rw [Chan.rd_p_other _ _ _ _ rg, Chan.rd_wr_other _ _ _ _ rh, Chan.rd_wr_other _ _ _ _ rl, Chan.rd_wr_same, Nat.mod_eq_of_lt hword]
  · rw [Chan.rd_p_other _ _ _ _ lg, Chan.rd_wr_other _ _ _ _ lh, Chan.rd_wr_same, Nat.mod_mod]
  · rw [Chan.rd_p_other _ _ _ _ hg, Chan.rd_wr_same]

/-- The fields of the word. -/
theorem dfWord_flds (c : Chan) (n : Nat) : bitsOf (c.dfWord n) 15 0 = toBits 16 (c.dfValue n) ∧ bitsOf (c.dfWord n) 30 24 = (c.g (DF_RES_COUNT n) + 1) % 128 ∧
    bitsOf (c.dfWord n) 31 31 = 1 := by
  have hv := toBits_lt 16 (c.dfValue n)
  simp only [bitsOf, Chan.dfWord]
  omega

/-! ### An input valid from an output on (R104) -/

theorem frame_dfValid (c : Chan) (n : Nat) : c.Frame [SD_STATUS, SD_IRQ_STATUS] (c.dfValid n) := by
  rw [Chan.dfValid]
  split_ifs
  · exact frame_refl _ _
  · have hv : c.Frame [SD_STATUS, SD_IRQ_STATUS] (c.pb SD_STATUS_VALID n true) := frame_pb (frame_refl _ _) (by decide)
    exact frame_onSd (frame_pb (frame_pb hv (by decide)) (by decide))

theorem sdValid_dfValid (c : Chan) {n : Nat} (h : n < 4) : (c.dfValid n).sdValid n = true := by
  rw [Chan.dfValid]
  split_ifs with hv
  · exact hv
  · rw [Chan.sdValid, Chan.gb_onSd]
    refine (Chan.gb_p_other _ SD_IRQ_STATUS_VALID_RISE _ _ _ rfl rfl rfl).trans ?_
    exact (Chan.gb_p_other _ SD_STATUS_SETTLING _ _ _ rfl rfl rfl).trans ((Chan.gb_pb c n true rfl h).trans (if_pos rfl))

/-! ### The output on the sinc result bus writes no register -/

theorem Chan.regs_tmSinc (c : Chan) (n : Nat) : (c.tmSinc n).regs = c.regs := by
  rw [Chan.tmSinc]
  split
  · rfl
  · split <;> rfl

theorem Chan.regs_secSample (c : Chan) (n : Nat) (t v : Int) : (c.secSample n t v).regs = c.regs := by
  refine (Chan.regs_tmSinc _ n).trans (List.foldlRecOn (motive := fun d : Chan => d.regs = c.regs) _ _ rfl fun d h k _ => ?_)
  split_ifs
  · exact h
  · exact h

/-- What follows an output on the bus: the registers that show the input's validity, XC_STATUS and those of the reaction. -/
theorem frame_busAfter (c : Chan) (n : Nat) (t v : Int) : c.Frame ([SD_STATUS, SD_IRQ_STATUS, XC_STATUS] ++ reactionRegs) ((c.dfValid n).secSample n t v).secEval :=
  frame_trans (frame_regs (frame_mono (frame_dfValid c n) (by decide)) (Chan.regs_secSample _ n t v)) (frame_mono (Chan.frame_secEval _) (by decide))

theorem sdValid_busAfter (c : Chan) {n : Nat} (t v : Int) (h : n < 4) : ((c.dfValid n).secSample n t v).secEval.gb SD_STATUS_VALID n = true := by
  have hs : (c.dfValid n).Frame [] ((c.dfValid n).secSample n t v) := frame_regs (frame_refl _ _) (Chan.regs_secSample _ n t v)
  exact ((Chan.frame_secEval _).gb (by decide) n).trans ((hs.gb List.not_mem_nil n).trans (sdValid_dfValid c h))

section
variable {n : Nat} {c : Chan}

theorem sdWindow_short (h : (c.sdIn n).win < c.g (DF_CFG_OSR n)) : c.sdWindow n = c := if_pos (.inr (.inr h))

variable (hon : c.sdOn n = true) (hx : (c.sdIn n).live = true) (hw : c.g (DF_CFG_OSR n) ≤ (c.sdIn n).win)
include hon hx hw

theorem sdWindow_settling (h : (c.sdIn n).dfN + 1 < c.g (DF_CFG_ORD n)) : c.sdWindow n = c.sdWindowed n := by
  have hd : ((c.sdWindowed n).sdIn n).dfN < c.g (DF_CFG_ORD n) := by
    rw [Chan.sdWindowed, sdIn_onSd _ (lt_length_of_live hx)]
    show min _ ((c.sdIn n).dfN + 1) < _
    omega
  exact (if_neg (by simp [hon, hx, hw])).trans (if_pos hd)

theorem sdWindow_output (h : c.g (DF_CFG_ORD n) ≤ (c.sdIn n).dfN + 1) :
    c.sdWindow n = (((c.dfWritten n).dfValid n).secSample n ((c.now : Int) - (c.sdGdly n * ticksPerMod : Nat)) (c.dfValue n)).secEval := by
  have hd : ¬ ((c.sdWindowed n).sdIn n).dfN < c.g (DF_CFG_ORD n) := by
    rw [Chan.sdWindowed, sdIn_onSd _ (lt_length_of_live hx)]
    show ¬ min _ ((c.sdIn n).dfN + 1) < _
    omega
  refine (if_neg (by simp [hon, hx, hw])).trans ((if_neg hd).trans ?_)
  rw [Chan.dfValid, sdValid_dfWritten c (lt_of_sdOn hon)]
  rfl
end

/-- An output of the data filter of input `n`: the value, its count and its time, the input valid, the registers outside those of the output as before. -/
structure Chan.DfShown (n : Nat) (c d : Chan) : Prop where
  result : d.g (DF_RES_RESULT n) = toBits 16 (c.dfValue n)
  count : d.g (DF_RES_COUNT n) = (c.g (DF_RES_COUNT n) + 1) % 128
  valid : d.b (DF_RES_VALID n) = true
  status : d.gb SD_STATUS_VALID n = true
  timeLo : d.rd (DF_TIME_LO n) = c.devTime % 2 ^ 32
  timeHi : d.rd (DF_TIME_HI n) = c.devTime / 2 ^ 32 % 2 ^ 32
  frame : c.Frame ([DF_RES n, DF_TIME_LO n, DF_TIME_HI n, DF_GDLY n, SD_STATUS, SD_IRQ_STATUS, XC_STATUS] ++ reactionRegs) d

theorem dfShown_busAfter (c : Chan) {n : Nat} (t v : Int) (h : n < 4) : c.DfShown n (((c.dfWritten n).dfValid n).secSample n t v).secEval := by
  have hf := frame_busAfter (c.dfWritten n) n t v
  have kept := fun a ha => hf a ((dfRegs_apart h).2 a ha)
  obtain ⟨hword, hlo, hhi⟩ := dfWritten_words c h
  obtain ⟨hresult, hcount, hvalid⟩ := dfWord_flds c n
  have hres := (kept (DF_RES n) (by simp)).trans hword
  have fld : ∀ {f : Fld} {k : Nat}, f.reg = DF_RES n → bitsOf (c.dfWord n) f.hi f.lo = k → Chan.g (((c.dfWritten n).dfValid n).secSample n t v).secEval f = k :=
    fun hr hk => by rw [Chan.g, hr, hres, hk]
  refine ⟨fld rfl hresult, fld rfl hcount, ?_, sdValid_busAfter _ t v h, (kept _ (by simp)).trans hlo, (kept _ (by simp)).trans hhi, ?_⟩
  · rw [Chan.b, fld (f := DF_RES_VALID n) rfl hvalid]
    rfl
  · exact frame_trans (frame_mono (frame_dfWritten c n) fun a ha => List.mem_append_left _ (List.mem_append_left [SD_STATUS, SD_IRQ_STATUS, XC_STATUS] ha))
      (frame_mono hf fun a ha => List.mem_append_right [DF_RES n, DF_TIME_LO n, DF_TIME_HI n, DF_GDLY n] ha)

/-! ### The obligation -/

/-- Settles O20: a bit by `doSdComparatorOutput_settling`, `doSdComparatorOutput_shows` and `doSdComparatorOutput_trips`, a window by `sdWindow_short`,
`sdWindow_settling` and `dfShown_busAfter`, after bits that `Chan.BitTaken` describes. The bits that come with the window, and the filter's two periods, are
the model's choice (log 80). -/
theorem sigmaDeltaFilters : Obligations.SigmaDeltaFilters := by
  intro s t ch n bit tail c p f x osr ord v need y w put ho hon hx
  have hn := lt_of_sdOn hon
  -- the channel once the bits that came with the window are taken
  have hp : c.BitTaken n p := bitTaken_bits n tail c
  have hcfg := filterRegs_not_cfRes hn
  have hpon : p.sdOn n = true := hp.sdOn.trans hon
  have hpx : (p.sdIn n).live = true := hp.live.trans hx
  have hosr : p.g (DF_CFG_OSR n) = osr := hp.frame.g (hcfg _ (by simp [DF_CFG_OSR])).2
  have hord : p.g (DF_CFG_ORD n) = ord := hp.frame.g (hcfg _ (by simp [DF_CFG_ORD])).2
  -- the channel with one bit more
  have hy : (c.sdSampled n bit).sdIn n = y := sdIn_sdSampled bit hx
  have hw : (c.sdSampled n bit).cfValue n = w := by rw [Chan.cfValue, hy]; rfl
  have hcn : ((c.sdSampled n bit).sdIn n).cfN = min need (x.cfN + 1) := congrArg SdIn.cfN hy
  have whole : need ≤ x.cfN + 1 → c.cfNeed n ≤ ((c.sdSampled n bit).sdIn n).cfN := fun h => by
    rw [hcn, min_eq_left h]
    exact le_refl _
  refine ⟨?short, ?settling, ?output, ?bitKept, ?bitShown, ?bitTrips⟩
  case short => exact fun h => actsOn_live (c := c) rfl rfl ho (sdWindow_short (c := p) (by rwa [hosr]))
  case settling =>
    intro h hd
    refine actsOn_live (c := c) rfl rfl ho ?_
    refine (sdWindow_settling hpon hpx (by rwa [hosr]) (by rwa [hord])).trans ?_
    rw [Chan.sdWindowed, hosr, hord, Chan.onSd_eq_setSd, SdIn.windowed, min_eq_right (Nat.le_of_lt hd)]
    rfl
  case output =>
    intro h hd
    refine actsOn_live (c := c) rfl rfl ho ?_
    have hdf := dfShown_busAfter p ((p.now : Int) - (p.sdGdly n * ticksPerMod : Nat)) (p.dfValue n) hn
    rw [← sdWindow_output hpon hpx (by rwa [hosr]) (by rwa [hord])] at hdf
    have hval : p.dfValue n = v := by
      rw [Chan.dfValue, hosr, hord, hp.frame.gi (f := DF_OFS_OFS n) (hcfg _ (by simp [DF_OFS_OFS])).2, hp.frame.gi (f := DF_GAIN_GAIN n) (hcfg _ (by simp [DF_GAIN_GAIN])).2]
    exact ⟨hdf.result.trans (by rw [hval]), hdf.count, hdf.valid, hdf.status, hdf.timeLo.trans (by rw [hp.devTime]), hdf.timeHi.trans (by rw [hp.devTime]), hdf.frame⟩
  case bitKept =>
    intro h
    refine actsOn_live (c := c) rfl rfl ho ((doSdComparatorOutput_settling bit hon hx ?_).trans rfl)
    rw [hcn, min_eq_right (Nat.le_of_lt h)]
    exact h
  case bitShown =>
    intro h he
    refine actsOn_live (c := c) rfl rfl ho ?_
    rw [doSdComparatorOutput_shows bit hon hx (whole h) he]
    exact ⟨(cfWritten_value _ n).trans (by rw [hw]), rfl, frame_cfWritten (c.sdSampled n bit) n, rfl⟩
  case bitTrips =>
    intro h he hv hd h16 ha
    refine actsOn_live (c := c) rfl rfl ho ?_
    obtain ⟨hvalue, htrip, hlat⟩ := doSdComparatorOutput_trips bit hon hx (whole h) he (by rwa [hw]) hd h16 ho ha
    exact ⟨hvalue.trans (by rw [hw]), htrip, hlat, (bitTaken_doSdComparatorOutput n bit c).frame⟩

end Sys2Proof.Machine
end

section
/-! PROOFS. The alternate DC-link value grown stale (R130): O22. -/

namespace Sys2Proof.Machine
open Sys2Proof

/-- DCL_AGE decision periods have passed since the last report of the drain sense and since RUN began. -/
def Chan.altLate (c : Chan) : Bool := c.since (max c.xchk.altAt c.xchk.runAt) (c.g DCL_CFG_DCL_AGE * c.period)

theorem doDclAltStale_late {c : Chan} (hr : c.state = RUN) (hl : c.altLate = true) : doDclAltStale c = c.raise DCL_STALE := if_pos ⟨hr, hl⟩

/-- Outside RUN the alternate path is not expected, and within DCL_AGE its value still stands. -/
theorem doDclAltStale_idle {c : Chan} (h : c.state ≠ RUN ∨ c.altLate = false) : doDclAltStale c = c :=
  if_neg fun ⟨hr, hl⟩ => h.elim (fun hn => hn hr) fun he => Bool.false_ne_true (he.symm.trans hl)

/-- Settles O22: in RUN and late by `doDclAltStale_late` and `raise_fails`, in another state or not yet late by `doDclAltStale_idle`. -/
theorem alternateLinkStale : Obligations.AlternateLinkStale := by
  intro s t ch c late
  refine ⟨?stale, ?idle⟩
  case stale =>
    intro hr hl ha
    have ho : c.state ≠ OFF := hr.symm ▸ by decide
    refine actsOn_live (c := c) rfl rfl ho ?_
    rw [doDclAltStale_late hr hl]
    exact raise_fails (by decide) (by decide) ho ha
  case idle => exact fun ho h => actsOn_live (c := c) rfl rfl ho (doDclAltStale_idle h)

end Sys2Proof.Machine
end

section
/-! PROOFS. The refresh guard and the on-time of the bootstrap legs (R179 to R181): O24. -/

namespace Sys2Proof.Machine
open Sys2Proof

/-! ### Counters and sources -/

/-- A wrapping counter reads the value stepped. -/
theorem Chan.g_wrapInc (c : Chan) {f : Fld} (h : f.ok = true) : (c.wrapInc f).g f = (c.g f + 1) % 2 ^ (f.hi + 1 - f.lo) := Chan.g_p_same _ _ _ h

theorem frame_wrapInc {l : List Nat} {c0 c : Chan} {f : Fld} (h : c0.Frame l c) (ha : f.reg ∈ l) : c0.Frame l (c.wrapInc f) := frame_p h ha

/-- A source cleared changes its block's SRC_STATUS alone of the registers. -/
theorem frame_clear {l : List Nat} {c0 c : Chan} {s : Src} (h : c0.Frame l c) (hs : (srcRegs s.blk).src ∈ l) : c0.Frame l (c.clear s) := by
  intro a ha
  have hne : a ≠ (srcRegs s.blk).src := fun e => ha (e ▸ hs)
  exact (Chan.rd_clear_other c s hne).trans (h a ha)

/-- A register that the reaction may change anyway need not be listed. -/
theorem Chan.Reacted.drop {a : Nat} {l : List Nat} {c0 c : Chan} (h : c0.Reacted (a :: l) c) (ha : a ∈ reactionRegs) : c0.Reacted l c := by
  obtain ⟨hframe, hkept⟩ := h
  refine ⟨frame_mono hframe fun x hx => ?_, hkept⟩
  rcases List.mem_cons.1 hx with rfl | hx
  · exact List.mem_append_right _ ha
  · exact hx

/-! ### A refresh that has become due (R179, R180) -/

theorem frame_onMask {l : List Nat} {c0 c : Chan} {f : Mask → Mask} (h : c0.Frame l c) : c0.Frame l (c.onMask f) := fun a ha => h a ha
theorem kept_onMask (c : Chan) (f : Mask → Mask) : c.Kept (c.onMask f) := ⟨rfl, rfl, rfl, rfl, rfl, rfl, rfl, rfl, rfl, rfl, rfl, rfl, fun _ => rfl⟩

/-- The channel with its due refreshes in progress, shown and counted, before REFRESH_FORCED. -/
def Chan.refreshCounted (c : Chan) : Chan :=
  ((c.onMask (fun m => { m with refresh := m.refresh ||| m.refDue, refDue := 0 })).p MASK_STATUS_REFRESH 1).wrapInc MASK_COUNT_REFRESH

theorem doRefreshForced_due {c : Chan} (h : c.mask.refDue ≠ 0) : doRefreshForced c = c.refreshCounted.raise REFRESH_FORCED_SRC := if_neg h

theorem frame_refreshCounted (c : Chan) : c.Frame [MASK_STATUS, MASK_COUNT] c.refreshCounted :=
  frame_wrapInc (frame_p (frame_onMask (frame_refl _ _)) (by decide)) (by decide)

theorem kept_refreshCounted (c : Chan) : c.Kept c.refreshCounted := kept_trans (kept_trans (kept_onMask c _) (kept_p _ _ _)) (kept_p _ _ _)

theorem refreshCounted_count (c : Chan) : c.refreshCounted.g MASK_COUNT_REFRESH = (c.g MASK_COUNT_REFRESH + 1) % 2 ^ 16 := by
  rw [Chan.refreshCounted, Chan.g_wrapInc _ rfl, Chan.g_p_reg _ _ _ _ (by decide)]
  rfl

/-- The reaction to a source leaves the counts of MASK. -/
theorem raise_maskCount (c : Chan) (s : Src) : (c.raise s).g MASK_COUNT_REFRESH = c.g MASK_COUNT_REFRESH :=
  (frame_reacts (react_raise (react_refl (q := false) c))).g (by decide)

/-! ### The end of the forcing (R179) -/

theorem doRefreshForcingEnd_ends {c : Chan} (h : c.mask.refresh = 0) (hb : c.b MASK_STATUS_REFRESH = true) :
    doRefreshForcingEnd c = (c.p MASK_STATUS_REFRESH 0).clear REFRESH_FORCED_SRC := if_pos ⟨h, hb⟩

theorem doRefreshForcingEnd_running {c : Chan} (h : c.mask.refresh ≠ 0) : doRefreshForcingEnd c = c := if_neg fun k => h k.1

/-! ### The on-time of the bootstrap legs (R181) -/

theorem doOnTimeExceeded_beyond {c : Chan} {l : Nat} (hl : l < 3) (hr : c.state = RUN) (hb : c.bootLegs.testBit l = true)
    (ht : c.g MASK_BOOT_TON_MAX < nth c.mask.hiN l) : doOnTimeExceeded c = c.raise ON_TIME_EXCEEDED_SRC :=
  if_pos ⟨hr, List.any_eq_true.2 ⟨l, List.mem_range.2 hl, by simp [hb, ht]⟩⟩

/-- Outside RUN no on-time is judged. -/
theorem doOnTimeExceeded_idle {c : Chan} (h : c.state ≠ RUN) : doOnTimeExceeded c = c := if_neg fun k => h k.1

/-- Settles O24: each command by what it comes to in its case; the reaction to REFRESH_FORCED begins from the refresh counted, ON_TIME_EXCEEDED goes by
`raise_fails`. -/
theorem bootstrapRefresh : Obligations.BootstrapRefresh := by
  intro s t ch c ho
  refine ⟨?forced, ?notDue, ?ends, ?running, ?exceeded, ?idle⟩
  case forced =>
    intro hd ha
    refine actsOn_live (c := c) rfl rfl ho ?_
    rw [doRefreshForced_due hd]
    have hf := frame_refreshCounted c
    refine ⟨raise_latched _ _ (by decide) ?_ ?_, ?_, (reacted_raise _ hf (kept_refreshCounted c)).drop (by decide)⟩
    · rwa [hf.state (by decide)]
    · rwa [hf.srcActive (by decide)]
    · rw [raise_maskCount, refreshCounted_count]
  case notDue => exact fun hd => actsOn_live (c := c) rfl rfl ho (if_pos hd)
  case ends =>
    intro hr hb
    refine actsOn_live (c := c) rfl rfl ho ?_
    rw [doRefreshForcingEnd_ends hr hb]
    refine ⟨?_, frame_clear (frame_p (frame_refl _ _) (by decide)) (by decide)⟩
    have hk := frame_clear (s := REFRESH_FORCED_SRC) (frame_refl [MASK_SRC_STATUS] (c.p MASK_STATUS_REFRESH 0)) (by decide)
    exact (hk.b (by decide)).trans (Chan.b_p_zero _ _ rfl)
  case running => exact fun hr => actsOn_live (c := c) rfl rfl ho (doRefreshForcingEnd_running hr)
  case exceeded =>
    intro l hl hr hb ht ha
    refine actsOn_live (c := c) rfl rfl ho ?_
    rw [doOnTimeExceeded_beyond hl hr hb ht]
    exact raise_fails (by decide) (by decide) ho ha
  case idle => exact fun hr => actsOn_live (c := c) rfl rfl ho (doOnTimeExceeded_idle hr)

end Sys2Proof.Machine
end

section
/-! PROOFS. The release of the frozen speed and the torque monitor (R194, R197 to R199): O25. -/

namespace Sys2Proof.Machine
open Sys2Proof

/-! ### OBS's part beside the registers -/

theorem frame_onObs {l : List Nat} {c0 c : Chan} {f : Obs → Obs} (h : c0.Frame l c) : c0.Frame l (c.onObs f) := fun a ha => h a ha

/-- A source cleared leaves OBS's part as it was. -/
@[simp] theorem Chan.clear_obs (c : Chan) (s : Src) : (c.clear s).obs = c.obs := by
  rw [Chan.clear]
  split_ifs
  · obtain ⟨x, hx, -⟩ := transCheck_eq (c.srcOff s)
    rw [hx]
    rfl
  · rfl

section
variable {c0 c : Chan}

theorem react_onObs {f : Obs → Obs} (h : c0.Reacts false c) : c0.Reacts false (c.onObs f) := react_mk h

theorem react_raiseRun {s : Src} (h : c0.Reacts false c) : c0.Reacts false (c.raiseRun s) := by
  unfold Chan.raiseRun
  extract_lets c1
  have hr : c0.Reacts false c1 := react_raise h
  clear_value c1
  split_ifs
  · exact hr
  · exact react_clear hr
end

/-! ### The release of the frozen speed (R194) -/

theorem doObsCmdRelease_accepts {c : Chan} (hs : c.state = PRIMED) (ho : c.cfbOpen = true) :
    doObsCmdRelease c = { c with obs := { c.obs with seen := false } } := if_pos ⟨hs, ho⟩

theorem doObsCmdRelease_refuses {c : Chan} (h : c.state ≠ PRIMED ∨ c.cfbOpen = false) : doObsCmdRelease c = c.p TRUST_STATUS_REL_REFUSED 1 :=
  if_neg fun ⟨hs, ho⟩ => h.elim (fun hn => hn hs) fun hf => Bool.false_ne_true (hf.symm.trans ho)

/-! ### The end of a window (R197, R198) -/

/-- The window is evaluated: the channel was in RUN for all of it, and decisions fell within it. -/
def Chan.tmRan (c : Chan) : Bool := c.obs.tm.allRun && Nat.blt 0 c.obs.tm.n

/-- The results of the window that ends, with `bad` for the limits exceeded. -/
def Chan.windowResult (c : Chan) (bad : Nat) : TmRes :=
  ⟨c.tmRan, (if c.tmRan then c.tmCm c.obs.tm else none).map ratPu, (if c.tmRan then c.tmPb c.obs.tm else none).map ratPu, bad,
    c.obs.tm.pri, c.obs.tm.angObs, c.devTime⟩

/-- The channel with a window ended and the next one begun. -/
def Chan.windowEnded (c : Chan) (bad : Nat) : Chan :=
  (c.took 1).onObs (fun o => { o with tm := { allRun := c.state == RUN }, tmPsi := c.tmRotor c.obs.tm, tmRes := some (c.windowResult bad) })

theorem doTmWindowEnd_on {c : Chan} (h : c.tmOn = true) : ∃ bad, doTmWindowEnd c = c.windowEnded bad :=
  ⟨_, if_neg (by rw [h]; decide)⟩

theorem doTmWindowEnd_off {c : Chan} (h : c.tmOn = false) : doTmWindowEnd c = c := if_pos (by rw [h]; rfl)

theorem windowResult_cm_none {c : Chan} (bad : Nat) (h : c.b TM_CFG_CM_EN = false ∨ c.tmRan = false) : (c.windowResult bad).cm = none := by
  rcases h with h | h
  · simp [Chan.windowResult, Chan.tmCm, h]
  · simp [Chan.windowResult, h]

theorem windowResult_pb_none {c : Chan} (bad : Nat) (h : c.b TM_CFG_PB_EN = false ∨ c.tmRan = false) : (c.windowResult bad).pb = none := by
  rcases h with h | h
  · simp [Chan.windowResult, Chan.tmPb, h]
  · simp [Chan.windowResult, h]

/-! ### The results written (R197 to R199) -/

/-- The channel with the time of a window's end written and no result waiting any more. -/
def Chan.tmTimed (c : Chan) (r : TmRes) : Chan :=
  ((c.onObs (fun o => { o with tmRes := none })).wr TM_TIME_LO (r.time % 2 ^ 32)).wr TM_TIME_HI (r.time / 2 ^ 32)

/-- The channel after the write that every window brings: its time, and which torques were computed. -/
def Chan.tmShown (c : Chan) (r : TmRes) : Chan :=
  (((c.tmTimed r).clear TM_LATE_SRC).p TM_STATUS_PB_VALID (b2n r.pb.isSome)).p TM_STATUS_CM_VALID (b2n r.cm.isSome)

/-- What an evaluated window shows beside: the currents and the angle used, and one window more. -/
def Chan.tmCounted (c : Chan) (r : TmRes) : Chan := ((c.p TM_STATUS_CUR_PRI (b2n r.pri)).p TM_STATUS_ANG_OBS (b2n r.angObs)).wrapInc TM_STATUS_CYCLES

/-- A torque of a window written, if it was computed. -/
def Chan.putTorque (c : Chan) (f : Fld) : Option Int → Chan
  | some t => c.pi f t
  | none => c

/-- The torques of a window written, so far as they were computed. -/
def Chan.tmTorques (c : Chan) (r : TmRes) : Chan := (c.putTorque TM_RES_T_CM r.cm).putTorque TM_RES_T_PB r.pb

/-- The monitor's sources judged by an evaluated window. -/
def Chan.tmJudged (c : Chan) (run : Bool) (r : TmRes) : Chan :=
  (((c.tmJudge run 0 r.cm.isSome (r.bad.testBit 0)).tmJudge run 1 r.cm.isSome (r.bad.testBit 1)).tmJudge run 2 r.pb.isSome (r.bad.testBit 2)).tmBlindEval
    run (r.cm.isNone && r.pb.isNone)

theorem doTmResultWrite_none {c : Chan} (h : c.obs.tmRes = none) : doTmResultWrite c = c := by rw [doTmResultWrite, h]

section
variable {c : Chan} {r : TmRes} (h : c.obs.tmRes = some r) (hh : c.b CORE_STATUS_HELD = false)
include h hh

/-- A window that was not evaluated. -/
theorem doTmResultWrite_shows (hr : r.ran = false) : doTmResultWrite c = c.tmShown r := by
  simp only [doTmResultWrite, h, hh, hr]
  rfl

/-- An evaluated window. -/
theorem doTmResultWrite_judges (hr : r.ran = true) : doTmResultWrite c = (((c.tmShown r).tmCounted r).tmTorques r).tmJudged (c.state == RUN) r := by
  simp only [doTmResultWrite, h, hh, hr]
  rfl
end

theorem frame_putTorque {l : List Nat} {c0 c : Chan} {f : Fld} (o : Option Int) (h : c0.Frame l c) (ha : f.reg ∈ l) : c0.Frame l (c.putTorque f o) := by
  cases o with
  | some t => exact frame_pi h ha
  | none => exact h

theorem frame_tmTimed (c : Chan) (r : TmRes) : c.Frame [TM_TIME_LO, TM_TIME_HI] (c.tmTimed r) :=
  frame_wr (frame_wr (frame_onObs (frame_refl _ _)) (by decide)) (by decide)

theorem frame_tmShown (c : Chan) (r : TmRes) : (c.tmTimed r).Frame [TM_STATUS, OBS_SRC_STATUS] (c.tmShown r) :=
  frame_p (frame_p (frame_clear (frame_refl _ _) (by decide)) (by decide)) (by decide)

theorem frame_tmTorques (c : Chan) (r : TmRes) : c.Frame [TM_RES] (c.tmTorques r) :=
  frame_putTorque _ (frame_putTorque _ (frame_refl _ _) (by decide)) (by decide)

/-- The results of an evaluated window written change three registers beside those of its time. -/
theorem frame_results (c : Chan) (r : TmRes) : (c.tmTimed r).Frame [TM_STATUS, TM_RES, OBS_SRC_STATUS] (((c.tmShown r).tmCounted r).tmTorques r) :=
  frame_trans (frame_wrapInc (frame_p (frame_p (frame_mono (frame_tmShown c r) (by decide)) (by decide)) (by decide)) (by decide))
    (frame_mono (frame_tmTorques _ r) (by decide))

/-- The time of the window's end, read in a channel that has not changed it. -/
theorem tmTimed_time {l : List Nat} {c d : Chan} {r : TmRes} (h : (c.tmTimed r).Frame l d) (hlo : TM_TIME_LO ∉ l) (hhi : TM_TIME_HI ∉ l) :
    d.rd TM_TIME_LO = r.time % 2 ^ 32 ∧ d.rd TM_TIME_HI = r.time / 2 ^ 32 % 2 ^ 32 := by
  refine ⟨?lo, ?hi⟩
  case lo => rw [h _ hlo, Chan.tmTimed, Chan.rd_wr_other _ _ _ _ (by decide), Chan.rd_wr_same, Nat.mod_mod]
  case hi => rw [h _ hhi, Chan.tmTimed, Chan.rd_wr_same]

theorem obs_tmShown (c : Chan) (r : TmRes) : (c.tmShown r).obs = { c.obs with tmRes := none } := by
  simp [Chan.tmShown, Chan.tmTimed]

theorem tmShown_cmValid (c : Chan) (r : TmRes) : (c.tmShown r).b TM_STATUS_CM_VALID = r.cm.isSome := by
  rw [Chan.tmShown, Chan.b, Chan.g_p_same _ _ _ rfl]
  cases r.cm.isSome <;> rfl

theorem tmShown_pbValid (c : Chan) (r : TmRes) : (c.tmShown r).b TM_STATUS_PB_VALID = r.pb.isSome := by
  rw [Chan.tmShown, Chan.b_p_other _ _ _ _ rfl rfl rfl, Chan.b, Chan.g_p_same _ _ _ rfl]
  cases r.pb.isSome <;> rfl

/-- The windows evaluated so far are counted by the evaluated one alone. -/
theorem tmShown_cycles (c : Chan) (r : TmRes) : (c.tmShown r).g TM_STATUS_CYCLES = c.g TM_STATUS_CYCLES := by
  have ht : ((c.tmTimed r).clear TM_LATE_SRC).g TM_STATUS_CYCLES = (c.tmTimed r).g TM_STATUS_CYCLES :=
    (frame_clear (frame_refl [OBS_SRC_STATUS] _) (by decide)).g (by decide)
  rw [Chan.tmShown, Chan.g_p_other _ _ _ _ rfl rfl rfl, Chan.g_p_other _ _ _ _ rfl rfl rfl, ht, (frame_tmTimed c r).g (by decide)]

theorem tmCounted_cycles (c : Chan) (r : TmRes) : (c.tmCounted r).g TM_STATUS_CYCLES = (c.g TM_STATUS_CYCLES + 1) % 2 ^ 16 := by
  rw [Chan.tmCounted, Chan.g_wrapInc _ rfl, Chan.g_p_other _ _ _ _ rfl rfl rfl, Chan.g_p_other _ _ _ _ rfl rfl rfl]
  rfl

/-! ### The monitor's sources (R197, R198) -/

section
variable {c0 c : Chan} (h : c0.Reacts false c)
include h

theorem react_tmJudge (run : Bool) (n : Nat) (known cond : Bool) : c0.Reacts false (c.tmJudge run n known cond) := by
  unfold Chan.tmJudge
  split
  · exact h
  · extract_lets c1
    have h1 : c0.Reacts false c1 := react_onObs h
    clear_value c1
    split_ifs
    · exact h1
    · exact react_raiseRun h1
    · exact react_clear h1
    · exact h1

theorem react_tmBlindEval (run blind : Bool) : c0.Reacts false (c.tmBlindEval run blind) := by
  unfold Chan.tmBlindEval
  extract_lets n c1
  have h1 : c0.Reacts false c1 := react_onObs h
  clear_value c1
  split_ifs
  · exact react_clear h1
  · exact react_raiseRun h1
  · exact h1
end

/-- The verdicts on a window are sources raised and cleared, and the monitor's own counts. -/
theorem reacts_tmJudged (c : Chan) (run : Bool) (r : TmRes) : c.Reacts false (c.tmJudged run r) :=
  react_tmBlindEval (react_tmJudge (react_tmJudge (react_tmJudge (react_refl _) _ _ _ _) _ _ _ _) _ _ _ _) _ _

theorem doTmLate_waits {c : Chan} {r : TmRes} (h : c.obs.tmRes = some r) : doTmLate c = c.raise TM_LATE_SRC := if_pos (by rw [h]; rfl)
theorem doTmLate_none {c : Chan} (h : c.obs.tmRes = none) : doTmLate c = c := if_neg (by rw [h]; decide)

/-- Settles O25: each command by what it comes to in its case; a window's results are written first, then its verdicts are sources alone (`reacts_tmJudged`). The
rule of the release is R194. -/
theorem observerAndMonitor : Obligations.ObserverAndMonitor := by
  intro s t ch c ho
  refine ⟨?accepted, ?refused, ?ends, ?off, ?shown, ?judged, ?late, ?nothing⟩
  case accepted => exact fun hs hc => actsOn_live (c := c) rfl rfl ho (doObsCmdRelease_accepts hs hc)
  case refused =>
    intro h
    refine actsOn_live (c := c) rfl rfl ho ?_
    rw [doObsCmdRelease_refuses h]
    exact ⟨Chan.b_p_one _ _ rfl, p_regsOnly c TRUST_STATUS_REL_REFUSED 1⟩
  case ends =>
    intro h
    refine actsOn_live (c := c) rfl rfl ho ?_
    obtain ⟨bad, hd⟩ := doTmWindowEnd_on h
    rw [hd]
    exact ⟨rfl, rfl, rfl, c.windowResult bad, rfl, rfl, rfl, rfl, rfl, windowResult_cm_none bad, windowResult_pb_none bad⟩
  case off => exact fun h => actsOn_live (c := c) rfl rfl ho (doTmWindowEnd_off h)
  case shown =>
    intro r h hr hh
    refine actsOn_live (c := c) rfl rfl ho ?_
    rw [doTmResultWrite_shows h hh hr]
    obtain ⟨hlo, hhi⟩ := tmTimed_time (frame_tmShown c r) (by decide) (by decide)
    exact ⟨hlo, hhi, tmShown_cmValid c r, tmShown_pbValid c r, obs_tmShown c r,
      frame_trans (frame_mono (frame_tmTimed c r) (by decide)) (frame_mono (frame_tmShown c r) (by decide))⟩
  case judged =>
    intro r h hr hh
    refine actsOn_live (c := c) rfl rfl ho ?_
    rw [doTmResultWrite_judges h hh hr]
    have hj := reacts_tmJudged (((c.tmShown r).tmCounted r).tmTorques r) (c.state == RUN) r
    have hw := frame_react (l := [TM_STATUS, TM_RES]) (frame_mono (frame_results c r) (by decide)) hj
    obtain ⟨hlo, hhi⟩ := tmTimed_time hw (by decide) (by decide)
    refine ⟨hlo, hhi, ?cycles, ?frame⟩
    case cycles => rw [(frame_reacts hj).g (by decide), (frame_tmTorques _ r).g (by decide), tmCounted_cycles, tmShown_cycles]
    case frame => exact frame_react (frame_trans (frame_mono (frame_tmTimed c r) (by decide)) (frame_mono (frame_results c r) (by decide))) hj
  case late =>
    intro r h ha
    refine actsOn_live (c := c) rfl rfl ho ?_
    rw [doTmLate_waits h]
    obtain ⟨hlatched, hreacted, -⟩ := raise_fails (q := TM_LATE_SRC) (by decide) (by decide) ho ha
    exact ⟨hlatched, hreacted⟩
  case nothing => exact fun h => ⟨actsOn_live (c := c) rfl rfl ho (doTmLate_none h), actsOn_live (c := c) rfl rfl ho (doTmResultWrite_none h)⟩

end Sys2Proof.Machine
end

section
/-! PROOFS. What a source of the slices that clears, and changes of one slice, leave. -/

namespace Sys2Proof.Machine
open Sys2Proof

/-! ### A slice beside other changes -/

@[simp] theorem Chan.sl_wr (c : Chan) (a v k : Nat) : (c.wr a v).sl k = c.sl k := rfl
@[simp] theorem Chan.sl_p (c : Chan) (f : Fld) (v k : Nat) : (c.p f v).sl k = c.sl k := rfl
@[simp] theorem Chan.sl_satInc (c : Chan) (f : Fld) (k : Nat) : (c.satInc f).sl k = c.sl k := rfl
@[simp] theorem Chan.length_onSl (c : Chan) (n : Nat) (f : SliceSt → SliceSt) : (c.onSl n f).slices.length = c.slices.length := List.length_set

/-- A slice whose island is powered is one of those that the channel holds. -/
theorem lt_length_of_power {c : Chan} {n : Nat} (h : (c.sl n).power = true) : n < c.slices.length := by
  by_contra hn
  rw [Chan.sl, List.getD_eq_default _ _ (not_lt.1 hn)] at h
  exact absurd h (by decide)

theorem Chan.linked_eq (c : Chan) {n : Nat} (hn : n < 8) : c.linked n = (c.sl n).power := by simp [Chan.linked, hn]

theorem Chan.onSl_onSl {c : Chan} {n : Nat} (h : n < c.slices.length) (f g : SliceSt → SliceSt) : (c.onSl n f).onSl n g = c.onSl n (fun x => g (f x)) := by
  rw [Chan.onSl, sl_onSl_same h]
  simp only [Chan.onSl, List.set_set]

/-! ### Sources of the slices that clear (R233, R262) -/

/-- What the clearing of sources of SLICE leaves: everything but SL_SRC_STATUS, the records, CHCTL's part and the masks of R233; no source becomes active. -/
structure Chan.Eased (c d : Chan) : Prop where
  rest : ∃ (r : RegMap) (o : RecOut) (x : Ctl) (w : List Nat), d = { c with regs := r, out := o, ctl := x, modul := { c.modul with who := w } }
  frame : c.Frame [SL_SRC_STATUS] d
  calm : ∀ k : Src, c.srcActive k = false → d.srcActive k = false

namespace Chan.Eased
variable {c d e : Chan}

theorem refl (c : Chan) : c.Eased c := ⟨⟨c.regs, c.out, c.ctl, c.modul.who, rfl⟩, frame_refl _ _, fun _ h => h⟩

theorem trans (h : c.Eased d) (k : d.Eased e) : c.Eased e := by
  obtain ⟨r, o, x, w, rfl⟩ := h.rest
  obtain ⟨r', o', x', w', rfl⟩ := k.rest
  exact ⟨⟨r', o', x', w', rfl⟩, frame_trans h.frame k.frame, fun s hs => k.calm s (h.calm s hs)⟩

theorem sl (h : c.Eased d) (k : Nat) : d.sl k = c.sl k := by
  obtain ⟨r, o, x, w, rfl⟩ := h.rest
  rfl
theorem slices (h : c.Eased d) : d.slices = c.slices := by
  obtain ⟨r, o, x, w, rfl⟩ := h.rest
  rfl
theorem now (h : c.Eased d) : d.now = c.now := by
  obtain ⟨r, o, x, w, rfl⟩ := h.rest
  rfl
theorem prot (h : c.Eased d) : d.prot = c.prot := by
  obtain ⟨r, o, x, w, rfl⟩ := h.rest
  rfl
theorem bases (h : c.Eased d) : d.bases = c.bases := by
  obtain ⟨r, o, x, w, rfl⟩ := h.rest
  rfl
theorem modul (h : c.Eased d) : { d.modul with who := c.modul.who } = c.modul := by
  obtain ⟨r, o, x, w, rfl⟩ := h.rest
  rfl
end Chan.Eased

theorem eased_onWho (c : Chan) (f : List Nat → List Nat) : c.Eased (c.onMod (fun m => { m with who := f m.who })) :=
  ⟨⟨c.regs, c.out, c.ctl, f c.modul.who, rfl⟩, fun _ _ => rfl, fun _ h => h⟩

theorem eased_transCheck (c : Chan) : c.Eased c.transCheck := by
  obtain ⟨x, hx, -⟩ := transCheck_eq c
  rw [hx]
  exact ⟨⟨c.regs, c.out, x, c.modul.who, rfl⟩, fun _ _ => rfl, fun _ h => h⟩

theorem eased_srcOff (c : Chan) {s : Src} (hs : s.blk = 7) : c.Eased (c.srcOff s) := by
  have hr : (srcRegs s.blk).src = SL_SRC_STATUS := by rw [hs]; rfl
  refine ⟨⟨_, _, c.ctl, c.modul.who, rfl⟩, frame_srcOff (frame_refl _ _) (by rw [hr]; exact List.mem_cons_self), fun k hk => ?_⟩
  change ((c.wr (srcRegs s.blk).src (setBit (c.rd (srcRegs s.blk).src) (16 + s.bit) false)).rd (srcRegs k.blk).src).testBit (16 + k.bit) = false
  rw [Chan.srcActive] at hk
  by_cases he : (srcRegs k.blk).src = (srcRegs s.blk).src
  · rw [he] at hk ⊢
    rw [Chan.rd_wr_same, Nat.testBit_mod_two_pow, testBit_setBit, hk, ite_self, Bool.and_false]
  · rw [Chan.rd_wr_other _ _ _ _ he, hk]

theorem eased_clear (c : Chan) {s : Src} (hs : s.blk = 7) : c.Eased (c.clear s) := by
  rw [Chan.clear]
  split_ifs
  · exact (eased_srcOff c hs).trans (eased_transCheck _)
  · exact .refl c

theorem eased_clearBy (c : Chan) {s : Src} (n : Nat) (hs : s.blk = 7) : c.Eased (c.clearBy s n) := by
  have hw := eased_onWho c (fun l => bump l s.bit (fun w => setBit w n false))
  rw [Chan.clearBy]
  split_ifs
  · exact hw.trans (eased_clear _ hs)
  · exact hw

theorem dtEnd_idle {c : Chan} (n : Nat) (h : c.srcActive DT_EXTENDED = false) : c.dtEnd n = c := if_neg (ne_true_of_eq_false h)

theorem eased_dtEnd (c : Chan) (n : Nat) : c.Eased (c.dtEnd n) := by
  rw [Chan.dtEnd]
  split_ifs
  · exact eased_clearBy c n rfl
  · exact .refl c

theorem eased_latchSources (c : Chan) (n : Nat) : c.Eased (c.latchSources n) := by
  have hd := ((((eased_clearBy c n (s := SC_TRIP) rfl).trans (eased_clearBy _ n (s := GS_UV_SRC) rfl)).trans (eased_clearBy _ n (s := GS_OV_SRC) rfl)).trans
    (eased_clearBy _ n (s := INTERLOCK) rfl)).trans (eased_clearBy _ n (s := ISL_OT_SRC) rfl)
  rw [Chan.latchSources]
  split_ifs
  · exact hd
  · exact hd.trans (eased_clearBy _ n rfl)

/-! ### Changes of one slice and of registers of a list -/

/-- Beside slice `n`, the registers of a list and what they do not read, everything that the slices and their link read is as before. -/
structure Chan.Beside (l : List Nat) (n : Nat) (c d : Chan) : Prop where
  frame : c.Frame l d
  others : ∀ k, k ≠ n → d.sl k = c.sl k
  length : d.slices.length = c.slices.length
  now : d.now = c.now
  prot : d.prot = c.prot
  bases : d.bases = c.bases

namespace Chan.Beside
variable {l k : List Nat} {n : Nat} {c d e : Chan}

theorem refl (l : List Nat) (n : Nat) (c : Chan) : c.Beside l n c := ⟨frame_refl _ _, fun _ _ => rfl, rfl, rfl, rfl, rfl⟩
theorem trans (h : c.Beside l n d) (k : d.Beside l n e) : c.Beside l n e :=
  ⟨frame_trans h.frame k.frame, fun m hm => (k.others m hm).trans (h.others m hm), k.length.trans h.length, k.now.trans h.now, k.prot.trans h.prot, k.bases.trans h.bases⟩
theorem mono (h : c.Beside l n d) (hl : ∀ a ∈ l, a ∈ k) : c.Beside k n d := ⟨frame_mono h.frame hl, h.others, h.length, h.now, h.prot, h.bases⟩
theorem wr (h : c.Beside l n d) {a v : Nat} (ha : a ∈ l) : c.Beside l n (d.wr a v) := ⟨frame_wr h.frame ha, h.others, h.length, h.now, h.prot, h.bases⟩
theorem p (h : c.Beside l n d) {f : Fld} {v : Nat} (ha : f.reg ∈ l) : c.Beside l n (d.p f v) := h.wr ha
theorem took (h : c.Beside l n d) (m : Nat) : c.Beside l n (d.took m) := ⟨h.frame, h.others, h.length, h.now, h.prot, h.bases⟩
theorem onSl (h : c.Beside l n d) (f : SliceSt → SliceSt) : c.Beside l n (d.onSl n f) :=
  ⟨h.frame, fun m hm => (sl_onSl_other hm).trans (h.others m hm), (d.length_onSl n f).trans h.length, h.now, h.prot, h.bases⟩
theorem eased (h : c.Beside l n d) (k : d.Eased e) (hl : SL_SRC_STATUS ∈ l) : c.Beside l n e :=
  ⟨frame_trans h.frame (frame_mono k.frame (by simpa using hl)), fun m hm => (k.sl m).trans (h.others m hm), (congrArg List.length k.slices).trans h.length,
   k.now.trans h.now, k.prot.trans h.prot, k.bases.trans h.bases⟩
theorem recordOut (h : c.Beside l n d) (m : Nat) : c.Beside l n (d.recordOut m) := by
  rw [Chan.recordOut]
  split_ifs
  · exact h
  · exact ⟨h.frame, h.others, h.length, h.now, h.prot, h.bases⟩
end Chan.Beside

end Sys2Proof.Machine
end

section
/-! PROOFS. A slice turns on and off, and its gate state (R163, R205, R210, R211): O27. -/

namespace Sys2Proof.Machine
open Sys2Proof

/-! ### Sources raised for a slice -/

theorem raiseBy_latched {c : Chan} {s : Src} (n : Nat) (hb : s.bit < 16) (ho : c.state ≠ OFF) (ha : c.srcActive s = false) : (c.raiseBy s n).srcLatched s = true :=
  raiseSl_latched (c.onMod _) s n hb ho ha

theorem raiseBy_fault {c : Chan} {s : Src} (n : Nat) (hv : reactionRegs.contains s.sevAt.1 = false) (ho : c.state ≠ OFF) (ha : c.srcActive s = false) (h : 3 ≤ c.sevOf s) :
    (c.raiseBy s n).state = FAULT :=
  raiseSl_fault (c.onMod _) s n ho ha h hv

theorem reacts_raiseBy (c : Chan) (s : Src) (n : Nat) : c.Reacts true (c.raiseBy s n) := react_raiseBy (react_refl c)

/-! ### A slice turned on or off (R210, R211, R221, R236) -/

/-- A slice whose turn-on gate edge begins at instant `t`. -/
def SliceSt.turnedOn (x : SliceSt) (t : Tick) : SliceSt :=
  { x with isOn := true, onAt := t, asking := none, dtDone := false, segs := x.segOn + 1, blanking := true, soft := false, plateau := false }

/-- A slice whose turn-off gate edge begins, or that gives up a turn-on. -/
def SliceSt.turnedOff (x : SliceSt) : SliceSt := { x with isOn := false, asking := none, dtDone := false, segs := if x.isOn then x.segOff + 1 else x.segs }

/-- A slice with its newest edge marked as one with a gate edge of its own switch. -/
def SliceSt.owned (x : SliceSt) (on : Bool) (t : Tick) : SliceSt :=
  { x with edgesBuf := match x.edgesBuf.reverse with
    | [] => []
    | e :: es => ({ e with own := true, on := on, seg := if on then x.segOn else x.segOff, at_ := t } :: es).reverse }

theorem Chan.ownEdge_eq (c : Chan) (n : Nat) (on : Bool) : c.ownEdge n on = c.onSl n (fun x => x.owned on c.now) := rfl

theorem Chan.slOn_eq (c : Chan) (n : Nat) : c.slOn n = ((c.onSl n (fun x => x.turnedOn c.now)).dtEnd n).ownEdge n true := rfl

theorem Chan.slOff_eq (c : Chan) (n : Nat) : c.slOff n =
    if (c.sl n).isOn then ((c.onSl n SliceSt.turnedOff).dtEnd n).ownEdge n false else (c.onSl n SliceSt.turnedOff).dtEnd n := rfl

/-- A turn-on that no slice waits with beside it changes the slice alone. -/
theorem slOn_idle {c : Chan} {n : Nat} (hn : n < c.slices.length) (hd : c.srcActive DT_EXTENDED = false) :
    c.slOn n = c.onSl n (fun x => (x.turnedOn c.now).owned true c.now) := by
  rw [Chan.slOn_eq, dtEnd_idle (c := c.onSl n _) n hd, Chan.ownEdge_eq, Chan.onSl_now, Chan.onSl_onSl hn]

/-! ### The conditions of a turn-on (R211) -/

theorem slTry_meets {c : Chan} {n : Nat} (hd : c.sinceOpt (c.sl n).asking (c.slDead n) = true) (hx : (c.sl n).dtDone = true) (hp : (c.sl n).partnerOff = true)
    (ht : c.since (c.sl n).partnerOffAt (ns 10) = true) : c.slTry n = c.slOn n := if_pos (by rw [hd, hx, hp, ht]; rfl)

theorem slTry_waits {c : Chan} {n : Nat} (h : c.sinceOpt (c.sl n).asking (c.slDead n) = false ∨ (c.sl n).dtDone = false ∨ (c.sl n).partnerOff = false ∨
    c.since (c.sl n).partnerOffAt (ns 10) = false) : c.slTry n = c := by
  refine if_neg ?_
  rcases h with h | h | h | h <;> simp [h]

/-- The slice has waited its dead time. -/
def Chan.deadDone (c : Chan) (n : Nat) : Chan := c.onSl n (fun x => { x with dtDone := true })

/-- The end of the dead time: the slice tries to turn on, or waits with DT_EXTENDED. -/
theorem doDeadTimeExpiry_due {c : Chan} {n : Nat} (hd : c.sinceOpt (c.sl n).asking (c.slDead n) = true) (hx : (c.sl n).dtDone = false) :
    doDeadTimeExpiry n c = if (((c.deadDone n).slTry n).sl n).asking.isSome ∧ !(((c.deadDone n).slTry n).sl n).partnerOff then ((c.deadDone n).slTry n).raiseBy DT_EXTENDED n
      else (c.deadDone n).slTry n := if_neg (by rw [hd, hx]; decide)

theorem doDeadTimeExpiry_not {c : Chan} {n : Nat} (h : c.sinceOpt (c.sl n).asking (c.slDead n) = false ∨ (c.sl n).dtDone = true) : doDeadTimeExpiry n c = c := by
  refine if_pos ?_
  rcases h with h | h
  · exact .inl (by rw [h]; rfl)
  · exact .inr h

section
variable {c : Chan} {n : Nat} (hn : n < c.slices.length)
include hn

theorem sl_deadDone : (c.deadDone n).sl n = { c.sl n with dtDone := true } := sl_onSl_same hn

theorem slDead_deadDone : (c.deadDone n).slDead n = c.slDead n := by rw [Chan.slDead, sl_deadDone hn, Chan.slDead]

/-- With the partner off for 10 ns the end of the dead time turns the slice on. -/
theorem doDeadTimeExpiry_turnsOn (hd : c.sinceOpt (c.sl n).asking (c.slDead n) = true) (hx : (c.sl n).dtDone = false) (hp : (c.sl n).partnerOff = true)
    (ht : c.since (c.sl n).partnerOffAt (ns 10) = true) (ha : c.srcActive DT_EXTENDED = false) :
    doDeadTimeExpiry n c = c.onSl n (fun x => (x.turnedOn c.now).owned true c.now) := by
  have hs := sl_deadDone hn
  have hl : n < (c.deadDone n).slices.length := by rwa [Chan.deadDone, Chan.length_onSl]
  have ho : (c.deadDone n).slTry n = c.onSl n (fun x => (x.turnedOn c.now).owned true c.now) := by
    rw [slTry_meets (by rw [hs, slDead_deadDone hn]; exact hd) (by rw [hs]) (by rw [hs]; exact hp) (by rw [hs]; exact ht), slOn_idle hl ha, Chan.deadDone, Chan.onSl_onSl hn]
    rfl
  rw [doDeadTimeExpiry_due hd hx, ho, if_neg]
  rw [sl_onSl_same hn]
  exact fun h => Bool.false_ne_true h.1

/-- Before that it only notes that the dead time has passed. -/
theorem doDeadTimeExpiry_notes (hd : c.sinceOpt (c.sl n).asking (c.slDead n) = true) (hx : (c.sl n).dtDone = false) (hp : (c.sl n).partnerOff = true)
    (ht : c.since (c.sl n).partnerOffAt (ns 10) = false) : doDeadTimeExpiry n c = c.deadDone n := by
  have hs := sl_deadDone hn
  rw [doDeadTimeExpiry_due hd hx, slTry_waits (.inr (.inr (.inr (by rw [hs]; exact ht)))), if_neg]
  rw [hs]
  simp [hp]

/-- With the partner not off it raises DT_EXTENDED. -/
theorem doDeadTimeExpiry_extends (hd : c.sinceOpt (c.sl n).asking (c.slDead n) = true) (hx : (c.sl n).dtDone = false) (hp : (c.sl n).partnerOff = false) :
    doDeadTimeExpiry n c = (c.deadDone n).raiseBy DT_EXTENDED n := by
  have hs := sl_deadDone hn
  have ha : (c.sl n).asking.isSome = true := by
    revert hd
    cases (c.sl n).asking <;> [exact fun h => (Bool.false_ne_true h).elim; exact fun _ => rfl]
  rw [doDeadTimeExpiry_due hd hx, slTry_waits (.inr (.inr (.inl (by rw [hs]; exact hp)))), if_pos]
  rw [hs]
  simp [hp, ha]

/-- A turn-on as a clause states it: the slice's switch, and nothing beside the slice. -/
theorem turnedOn_shows (d : Chan) (h : d = c.onSl n (fun x => (x.turnedOn c.now).owned true c.now)) :
    (d.sl n).isOn = true ∧ (d.sl n).onAt = c.now ∧ (d.sl n).asking = none ∧ (d.sl n).blanking = true ∧ (∀ k, k ≠ n → d.sl k = c.sl k) ∧ { d with slices := c.slices } = c := by
  subst h
  rw [sl_onSl_same hn]
  exact ⟨rfl, rfl, rfl, rfl, fun k hk => sl_onSl_other hk, rfl⟩
end

/-! ### The gate state (R205) -/

/-- The gate state shown to the channel and relayed to the partner of a phase slice. -/
def Chan.gateShown (c : Chan) (n : Nat) (on : Bool) : Chan :=
  let d := (c.onSl n (fun x => { x with gateOn := on, gateAt := c.now })).p (SL_STATUS_GATE_ON n) (b2n on)
  if 5 < n then d else d.onSl (partner n) (fun x => { x with partnerOff := !on, partnerOffAt := c.now })

/-- Beside what it shows, GATE_ON_CHANGE may clear INTERLOCK. -/
theorem eased_doGateOnChange (c : Chan) {n : Nat} (on : Bool) (hn : n < 8) : (c.gateShown n on).Eased (doGateOnChange n on c) := by
  rw [doGateOnChange, if_neg (by omega), Chan.gateShown]
  split_ifs
  · exact .refl _
  · exact .refl _
  · exact (eased_clearBy _ n rfl).trans (eased_clearBy _ _ rfl)

theorem partner_ne (n : Nat) : partner n ≠ n := by
  rw [partner]
  split_ifs <;> omega

theorem partner_lt {n : Nat} (h : n < 6) : partner n < 6 := by
  rw [partner]
  split_ifs <;> omega

theorem frame_gateShown (c : Chan) (n : Nat) (on : Bool) : c.Frame [SL_STATUS n] (c.gateShown n on) := by
  have h : c.Frame [SL_STATUS n] ((c.onSl n (fun x => { x with gateOn := on, gateAt := c.now })).p (SL_STATUS_GATE_ON n) (b2n on)) :=
    frame_p (fun _ _ => rfl) List.mem_cons_self
  rw [Chan.gateShown]
  split_ifs <;> exact h

theorem gateShown_status (c : Chan) (n : Nat) (on : Bool) : (c.gateShown n on).b (SL_STATUS_GATE_ON n) = on := by
  have h (d : Chan) : (d.p (SL_STATUS_GATE_ON n) (b2n on)).b (SL_STATUS_GATE_ON n) = on := by cases on <;> [exact d.b_p_zero _ rfl; exact d.b_p_one _ rfl]
  rw [Chan.gateShown]
  split_ifs <;> exact h _

section
variable {c : Chan} {n : Nat} (on : Bool)

theorem sl_gateShown (hn : n < c.slices.length) : (c.gateShown n on).sl n = { c.sl n with gateOn := on, gateAt := c.now } := by
  rw [Chan.gateShown]
  split_ifs
  · rw [Chan.sl_p, sl_onSl_same hn]
  · rw [sl_onSl_other (partner_ne n).symm, Chan.sl_p, sl_onSl_same hn]

theorem sl_gateShown_partner (hn : n < 6) (hl : c.slices.length = 8) :
    (c.gateShown n on).sl (partner n) = { c.sl (partner n) with partnerOff := !on, partnerOffAt := c.now } := by
  have hp := partner_lt hn
  rw [Chan.gateShown, if_neg (by omega), sl_onSl_same (by rw [Chan.p_slices, Chan.length_onSl]; omega), Chan.sl_p, sl_onSl_other (partner_ne n)]

theorem sl_gateShown_other {k : Nat} (hk : k ≠ n) (hp : 5 < n ∨ k ≠ partner n) : (c.gateShown n on).sl k = c.sl k := by
  rw [Chan.gateShown]
  split_ifs with h
  · rw [Chan.sl_p, sl_onSl_other hk]
  · rw [sl_onSl_other (hp.resolve_left h), Chan.sl_p, sl_onSl_other hk]
end

/-! ### The obligation -/

theorem slGateOn_reg (n : Nat) : (SL_STATUS_GATE_ON n).reg = SL_STATUS n := rfl

theorem slStatus_ne_slSrc (n : Nat) (hn : n < 8) : SL_STATUS n ≠ SL_SRC_STATUS := by rw [SL_STATUS, SL_SRC_STATUS]; omega

/-- Settles O27: the dead time's end by what the partner shows, the gate state by `gateShown` and the clearing of INTERLOCK after it. -/
theorem sliceTurnOn : Obligations.SliceTurnOn := by
  intro s t ch n on c x dead ho hlen hn
  have hl : n < c.slices.length := by omega
  have acts {i : Instr} {f : Chan → Chan} {P : Chan → Prop} (he : exec i s = s.live t ch f) (h : P (f c)) : ActsOn i s t ch P := actsOn_live (c := c) rfl he ho h
  refine ⟨?on, ?notes, ?waits, ?not, ?partner, ?partnerNot, ?gate⟩
  case on => exact fun hd hx hp ht ha => acts rfl (turnedOn_shows hl _ (doDeadTimeExpiry_turnsOn hl hd hx hp ht ha))
  case notes => exact fun hd hx hp ht => acts rfl (doDeadTimeExpiry_notes hl hd hx hp ht)
  case waits =>
    intro hd hx hp ha
    refine acts rfl ?_
    rw [doDeadTimeExpiry_extends hl hd hx hp]
    have hr := reacts_raiseBy (c.deadDone n) DT_EXTENDED n
    have hs := hr.slices n
    rw [sl_deadDone hl] at hs
    have hon := congrArg SliceSt.isOn hs
    have hask := congrArg SliceSt.asking hs
    have hdone := congrArg SliceSt.dtDone hs
    exact ⟨hon, hask, hdone, raiseBy_latched n (by decide) ho ha, fun a h => frame_reacts hr a h⟩
  case not => exact fun h => acts rfl (doDeadTimeExpiry_not h)
  case partner =>
    intro hd hx hp ht ha
    refine acts rfl (turnedOn_shows hl _ ?_)
    rw [doPartnerOffChange, slTry_meets hd hx hp ht, slOn_idle hl ha]
  case partnerNot => exact fun h => acts rfl (slTry_waits h)
  case gate =>
    have he := eased_doGateOnChange c on hn
    refine acts rfl ⟨?_, ?_, ?_, fun h => ?_, fun k hk hp => ?_, frame_trans (frame_mono (frame_gateShown c n on) (by simp)) (frame_mono he.frame (by simp))⟩
    · rw [he.frame.b (by rw [slGateOn_reg]; simpa using slStatus_ne_slSrc n hn), gateShown_status]
    · rw [he.sl, sl_gateShown on hl]
    · rw [he.sl, sl_gateShown on hl]
    · rw [he.sl, sl_gateShown_partner on h hlen]
      exact ⟨rfl, rfl⟩
    · rw [he.sl, sl_gateShown_other on hk hp]

end Sys2Proof.Machine
end

section
/-! PROOFS. The EN pins and the pair interlock (R212, R215, R216, R218): O29. -/

namespace Sys2Proof.Machine
open Sys2Proof

/-! ### A pair sent to its slices (R205, R222) -/

/-- A change on the edge channel of slice `s`, with the tag formed for it. -/
def Chan.tagged (c : Chan) (s : Nat) (t : Tick) (pu en : Bool) (tag : EdgeTag) : Chan :=
  (c.wire s t pu en).onSl s (fun x => { x with tags := if x.power then x.tags ++ [tag] else [] })

theorem length_wire (c : Chan) (s : Nat) (t : Tick) (pu en : Bool) : (c.wire s t pu en).slices.length = c.slices.length := by
  have hs := c.length_onSl s (fun x => { x with wire := x.wire ++ [⟨t, pu, en⟩] })
  rw [Chan.wire]
  split_ifs
  · exact hs
  · rwa [Chan.p_slices, Chan.p_slices]

theorem sl_wire {c : Chan} {s : Nat} (t : Tick) (pu en : Bool) (k : Nat) : (c.wire s t pu en).sl k = (c.onSl s (fun x => { x with wire := x.wire ++ [⟨t, pu, en⟩] })).sl k := by
  rw [Chan.wire]
  split_ifs
  · rfl
  · rw [Chan.sl_p, Chan.sl_p]

theorem frame_wire (c : Chan) (s : Nat) (t : Tick) (pu en : Bool) : c.Frame [SL_STATUS s] (c.wire s t pu en) := by
  rw [Chan.wire]
  split_ifs
  · exact fun _ _ => rfl
  · exact frame_p (frame_p (fun _ _ => rfl) List.mem_cons_self) List.mem_cons_self

theorem modul_wire (c : Chan) (s : Nat) (t : Tick) (pu en : Bool) : (c.wire s t pu en).modul = c.modul := by
  rw [Chan.wire]
  split_ifs
  · rfl
  · rw [Chan.p_modul, Chan.p_modul, Chan.onSl]

theorem frame_tagged (c : Chan) (s : Nat) (t : Tick) (pu en : Bool) (tag : EdgeTag) : c.Frame [SL_STATUS s] (c.tagged s t pu en tag) := frame_wire c s t pu en

theorem modul_tagged (c : Chan) (s : Nat) (t : Tick) (pu en : Bool) (tag : EdgeTag) : (c.tagged s t pu en tag).modul = c.modul := modul_wire c s t pu en

theorem sl_tagged_other {c : Chan} {s k : Nat} (t : Tick) (pu en : Bool) (tag : EdgeTag) (h : k ≠ s) : (c.tagged s t pu en tag).sl k = c.sl k := by
  rw [Chan.tagged, sl_onSl_other h, sl_wire, sl_onSl_other h]

/-- The levels that a slice will have received are those of the newest change on its way. -/
theorem lastSent_of_last {c : Chan} {s : Nat} {w : WireEdge} (h : (c.sl s).wire.getLast? = some w) : c.lastSent s = (w.pulse, w.en) := by rw [Chan.lastSent, h]

theorem last_tagged {c : Chan} {s : Nat} (t : Tick) (pu en : Bool) (tag : EdgeTag) (h : s < c.slices.length) : ((c.tagged s t pu en tag).sl s).wire.getLast? = some ⟨t, pu, en⟩ := by
  have hw : ((c.wire s t pu en).sl s).wire = (c.sl s).wire ++ [⟨t, pu, en⟩] := by rw [sl_wire, sl_onSl_same h]
  rw [Chan.tagged, sl_onSl_same ((length_wire c s t pu en).symm ▸ h)]
  exact hw ▸ List.getLast?_concat

/-- The first slice of a pair. -/
def pairFirst (p : Nat) : Nat := if p = 3 then 6 else 2 * p

/-- What a change of a pair does: the first slice's newest levels, the registers, and nothing of the modulator but the edge count. -/
theorem edgeOut_sends (c : Chan) (p : Nat) (t : Tick) (pu en : Bool) (h : pairFirst p + 1 < c.slices.length) : (c.edgeOut p t pu en).lastSent (pairFirst p) = (pu, en) ∧
    c.Frame ((pairSlices p).map SL_STATUS) (c.edgeOut p t pu en) ∧ ∃ l, (c.edgeOut p t pu en).modul = { c.modul with legEdges := l } := by
  obtain ⟨tag, n, he⟩ : ∃ tag n, c.edgeOut p t pu en = ((pairSlices p).foldl (fun d s => d.tagged s t pu en tag) c).onMod (fun m => { m with legEdges := m.legEdges.set p n }) := ⟨_, _, rfl⟩
  rw [he, pairSlices]
  rw [pairFirst] at h ⊢
  split_ifs at h ⊢ with hp
  · exact ⟨lastSent_of_last (last_tagged t pu en tag (by omega)), frame_tagged c 6 t pu en tag, _, congrArg (fun m : Modul => { m with legEdges := m.legEdges.set p n }) (modul_tagged c 6 t pu en tag)⟩
  · have hs : (((c.tagged (2 * p) t pu en tag).tagged (2 * p + 1) t pu en tag).sl (2 * p)).wire.getLast? = some ⟨t, pu, en⟩ := by
      rw [sl_tagged_other _ _ _ _ (by omega), last_tagged t pu en tag (by omega)]
    have hf : c.Frame [SL_STATUS (2 * p), SL_STATUS (2 * p + 1)] ((c.tagged (2 * p) t pu en tag).tagged (2 * p + 1) t pu en tag) :=
      frame_trans (frame_mono (frame_tagged c _ t pu en tag) (by simp)) (frame_mono (frame_tagged _ _ t pu en tag) (by simp))
    exact ⟨lastSent_of_last hs, hf, _, congrArg (fun m : Modul => { m with legEdges := m.legEdges.set p n }) ((modul_tagged _ _ t pu en tag).trans (modul_tagged c _ t pu en tag))⟩

/-- A pair sent at the present instant: the slices will have received what leaves the modulator. -/
theorem sendPair_sends (c : Chan) (p : Nat) (h : pairFirst p + 1 < c.slices.length) : (c.sendPair p).lastSent (pairFirst p) = (c.pulseOf p, c.enOut p) ∧
    c.Frame ((pairSlices p).map SL_STATUS) (c.sendPair p) ∧ ∃ l, (c.sendPair p).modul = { c.modul with legEdges := l } := by
  have he := edgeOut_sends c p c.now (c.pulseOf p) (c.enOut p) h
  rw [Chan.sendPair, Chan.sendPairAt]
  by_cases hb : (c.lastSent (if p = 3 then 6 else 2 * p) == (c.pulseOf p, c.enOut p)) = true
  · rw [if_pos hb]
    exact ⟨beq_iff_eq.1 hb, frame_refl _ _, _, rfl⟩
  · rw [if_neg hb]
    dsimp only
    split_ifs
    · exact he
    · exact he

theorem pairFirst_lt {p : Nat} (h : p < 4) : pairFirst p + 1 < 8 := by
  rw [pairFirst]
  split_ifs <;> omega

theorem pairFirst_lt_eight {p : Nat} (h : p < 4) : pairFirst p < 8 := Nat.lt_of_succ_lt (pairFirst_lt h)

/-- The clearing of a source of SLICE leaves what the slices will have received. -/
theorem Chan.Eased.lastSent {c d : Chan} (h : c.Eased d) {s : Nat} (hs : s < 8) : d.lastSent s = c.lastSent s := by
  have hn : SL_STATUS s ∉ [SL_SRC_STATUS] := by simpa using slStatus_ne_slSrc s hs
  rw [Chan.lastSent, h.sl, h.frame.b (f := SL_STATUS_PULSE s) hn, h.frame.b (f := SL_STATUS_EN s) hn, Chan.lastSent]

/-- A register that is no slice's SL_STATUS is none of a pair's. -/
theorem not_mem_pairStatus {p a : Nat} (hp : p < 4) (h : ∀ s < 8, a ≠ SL_STATUS s) : a ∉ (pairSlices p).map SL_STATUS := fun hm => by
  obtain ⟨s, hs, rfl⟩ := List.mem_map.1 hm
  exact h s (pairSlices_lt hp hs) rfl

theorem setBit_lt {x k i : Nat} (v : Bool) (hx : x < 2 ^ k) (hi : i < k) : setBit x i v < 2 ^ k := by
  refine Nat.lt_pow_two_of_testBit _ fun j hj => ?_
  rw [testBit_setBit, if_neg (by omega), Nat.testBit_lt_two_pow (hx.trans_le (Nat.pow_le_pow_right (by omega) hj))]

/-! ### The levels of the EN pins (R215) -/

section
variable (c : Chan) {p : Nat} (b : Bool) (hp : p < 4)
include hp

theorem g_enPin : (c.pb EN_STATUS_EN_PIN p b).g EN_STATUS_EN_PIN = setBit (c.g EN_STATUS_EN_PIN) p b :=
  (c.g_p_same EN_STATUS_EN_PIN _ rfl).trans (Nat.mod_eq_of_lt (setBit_lt b (c.g_lt EN_STATUS_EN_PIN) hp))

/-- What leaves the modulator after a change of the pin. -/
theorem enPin_outputs : (c.pb EN_STATUS_EN_PIN p b).pulseOf p = c.pulseOf p ∧
    (c.pb EN_STATUS_EN_PIN p b).enOut p = (c.gb EN_STATUS_EN_INT p && b && !c.modul.ilk.testBit p) := by
  have hpin : (c.pb EN_STATUS_EN_PIN p b).gb EN_STATUS_EN_PIN p = b := (c.gb_pb p b rfl (show p < 4 from hp)).trans (if_pos rfl)
  have hint : (c.pb EN_STATUS_EN_PIN p b).gb EN_STATUS_EN_INT p = c.gb EN_STATUS_EN_INT p := c.gb_p_other _ _ _ _ rfl rfl rfl
  exact ⟨c.gb_p_other _ _ _ _ rfl rfl rfl, by rw [Chan.enOut, hpin, hint]; rfl⟩
end

/-- EN_PIN_FALL up to EN_LOW: the pin low, the pair sent. -/
def Chan.pinLow (c : Chan) (p : Nat) : Chan := ((c.pb EN_STATUS_EN_PIN p false).onMod (fun m => { m with pinFall := m.pinFall.set p c.now })).sendPair p

/-- EN_PIN_RISE up to EN_LOW: the pin high, the hold of R212 ended after a low of 2 µs, the pair sent. -/
def Chan.pinHigh (c : Chan) (p : Nat) : Chan :=
  ((c.pb EN_STATUS_EN_PIN p true).onMod (fun m => { m with ilk := if c.since (nth c.modul.pinFall p) (ns 2000) then setBit m.ilk p false else m.ilk })).sendPair p

theorem doEnPinFall_high {c : Chan} {p : Nat} (hp : p < 4) (h : c.gb EN_STATUS_EN_PIN p = true) :
    doEnPinFall p c = if (c.pinLow p).state = ARMED ∨ (c.pinLow p).state = RUN ∨ (c.pinLow p).state = HOLD then (c.pinLow p).raise EN_LOW else c.pinLow p :=
  if_neg (by rw [h]; rintro (h | h) <;> [omega; cases h])

theorem doEnPinRise_low {c : Chan} {p : Nat} (hp : p < 4) (h : c.gb EN_STATUS_EN_PIN p = false) :
    doEnPinRise p c = if (c.pinHigh p).g EN_STATUS_EN_PIN = 15 then (c.pinHigh p).clear EN_LOW else c.pinHigh p := by
  have hc : (if (c.pb EN_STATUS_EN_PIN p true).since (nth (c.pb EN_STATUS_EN_PIN p true).modul.pinFall p) (ns 2000) then
      (c.pb EN_STATUS_EN_PIN p true).onMod (fun m => { m with ilk := setBit m.ilk p false }) else c.pb EN_STATUS_EN_PIN p true).sendPair p = c.pinHigh p := by
    rw [Chan.pinHigh]
    change (if c.since (nth c.modul.pinFall p) (ns 2000) then _ else _ : Chan).sendPair p = _
    split_ifs <;> rfl
  rw [doEnPinRise, if_neg (by rw [h]; rintro (h | h) <;> [omega; cases h])]
  dsimp only
  rw [hc]

section
variable {c : Chan} {p : Nat} (hp : p < 4) (hl : c.slices.length = 8)
include hp hl

theorem pinLow_shows : (c.pinLow p).g EN_STATUS_EN_PIN = setBit (c.g EN_STATUS_EN_PIN) p false ∧ (c.pinLow p).lastSent (pairFirst p) = (c.pulseOf p, false) ∧
    (c.pinLow p).modul.pinFall = c.modul.pinFall.set p c.now ∧ c.Frame (EN_STATUS :: (pairSlices p).map SL_STATUS) (c.pinLow p) := by
  obtain ⟨hs, hf, l, hm⟩ := sendPair_sends ((c.pb EN_STATUS_EN_PIN p false).onMod (fun m => { m with pinFall := m.pinFall.set p c.now })) p (hl.symm ▸ pairFirst_lt hp)
  obtain ⟨hpu, hen⟩ := enPin_outputs c false hp
  have hn : EN_STATUS ∉ (pairSlices p).map SL_STATUS := not_mem_pairStatus hp (by decide)
  refine ⟨(hf.g (f := EN_STATUS_EN_PIN) hn).trans (g_enPin c false hp), hs.trans (Prod.ext hpu (hen.trans (by simp))), congrArg Modul.pinFall hm, ?_⟩
  exact frame_trans (frame_p (frame_refl _ c) List.mem_cons_self) (frame_mono hf (by simp +contextual))

theorem pinHigh_shows : (c.pinHigh p).g EN_STATUS_EN_PIN = setBit (c.g EN_STATUS_EN_PIN) p true ∧
    (c.pinHigh p).modul.ilk = (if c.since (nth c.modul.pinFall p) (ns 2000) then setBit c.modul.ilk p false else c.modul.ilk) ∧
    (c.pinHigh p).lastSent (pairFirst p) = (c.pulseOf p, c.gb EN_STATUS_EN_INT p && !(c.pinHigh p).modul.ilk.testBit p) ∧
    c.Frame (EN_STATUS :: (pairSlices p).map SL_STATUS) (c.pinHigh p) := by
  obtain ⟨hs, hf, l, hm⟩ := sendPair_sends ((c.pb EN_STATUS_EN_PIN p true).onMod
    (fun m => { m with ilk := if c.since (nth c.modul.pinFall p) (ns 2000) then setBit m.ilk p false else m.ilk })) p (hl.symm ▸ pairFirst_lt hp)
  have hi := congrArg Modul.ilk hm
  have hpin : (c.pb EN_STATUS_EN_PIN p true).gb EN_STATUS_EN_PIN p = true := (c.gb_pb p true rfl (show p < 4 from hp)).trans (if_pos rfl)
  have hint : (c.pb EN_STATUS_EN_PIN p true).gb EN_STATUS_EN_INT p = c.gb EN_STATUS_EN_INT p := c.gb_p_other _ _ _ _ rfl rfl rfl
  have hn : EN_STATUS ∉ (pairSlices p).map SL_STATUS := not_mem_pairStatus hp (by decide)
  refine ⟨(hf.g (f := EN_STATUS_EN_PIN) hn).trans (g_enPin c true hp), hi, hs.trans (Prod.ext (enPin_outputs c true hp).1 ?_), ?_⟩
  · rw [show (c.pinHigh p).modul.ilk = _ from hi]
    change ((c.pb EN_STATUS_EN_PIN p true).gb EN_STATUS_EN_INT p && (c.pb EN_STATUS_EN_PIN p true).gb EN_STATUS_EN_PIN p && _) = _
    rw [hpin, hint, Bool.and_true]
  · exact frame_trans (frame_p (frame_refl _ c) List.mem_cons_self) (frame_mono hf (by simp +contextual))

/-- EN_LOW raised after the fall. -/
theorem pinLow_raise (ho : c.state ≠ OFF) (ha : c.srcActive EN_LOW = false) :
    ((c.pinLow p).raise EN_LOW).srcLatched EN_LOW = true ∧ (3 ≤ c.sevOf EN_LOW → ((c.pinLow p).raise EN_LOW).state = FAULT) := by
  obtain ⟨-, -, -, hf⟩ := pinLow_shows hp hl
  have out {a : Nat} (h : a ≠ EN_STATUS) (k : ∀ s < 8, a ≠ SL_STATUS s) : a ∉ EN_STATUS :: (pairSlices p).map SL_STATUS := by
    exact List.not_mem_cons_of_ne_of_not_mem h (not_mem_pairStatus hp k)
  have hs := raise_fails (c := c.pinLow p) (q := EN_LOW) (by decide) (by decide) (by rwa [hf.state (out (a := CH_STATE) (by decide) (by decide))])
    (by rwa [hf.srcActive (s := EN_LOW) (out (a := SL_SRC_STATUS) (by decide) (by decide))])
  exact ⟨hs.1, fun h => hs.2.2 (by rwa [hf.sevOf (out (a := EN_LOW.sevAt.1) (by decide) (by decide))])⟩
end

/-! ### The pair interlock (R212) -/

/-- The hold of the interlock on pair `p`, sent to its slices. -/
def Chan.held (c : Chan) (p : Nat) : Chan := (c.onMod (fun m => { m with ilk := setBit m.ilk p true })).sendPair p

theorem held_shows {c : Chan} {p : Nat} (hp : p < 4) (hl : c.slices.length = 8) : (c.held p).modul.ilk = setBit c.modul.ilk p true ∧
    (c.held p).lastSent (pairFirst p) = (c.pulseOf p, false) ∧ c.Frame ((pairSlices p).map SL_STATUS) (c.held p) := by
  obtain ⟨hs, hf, l, hm⟩ := sendPair_sends (c.onMod (fun m => { m with ilk := setBit m.ilk p true })) p (hl.symm ▸ pairFirst_lt hp)
  refine ⟨congrArg Modul.ilk hm, hs.trans (Prod.ext rfl ?_), hf⟩
  simp [Chan.enOut, testBit_setBit]

theorem doPairInterlock_meets {c : Chan} {p : Nat} (hp : p < 3) (hh : (c.sl (2 * p)).gateOn = true) (hL : (c.sl (2 * p + 1)).gateOn = true)
    (ht : c.since (max (c.sl (2 * p)).gateAt (c.sl (2 * p + 1)).gateAt) (ns 20) = true) (hi : c.modul.ilk.testBit p = false) :
    doPairInterlock p c = (c.held p).raiseBy INTERLOCK (2 * p) := by
  refine if_neg ?_
  rw [hh, hL, ht, hi]
  simp only [Bool.and_self, Bool.not_true, Bool.false_eq_true, or_false, not_lt]
  omega

theorem reacts_held {c : Chan} {p : Nat} (hp : p < 4) : c.Reacts false (c.held p) := react_sendPair hp (react_onMod (react_refl c))

/-- Settles O29: the pair as sent by `sendPair_sends`, the sources by `raise_fails` and the rules of INTERLOCK and EN_LOW. -/
theorem enablePins : Obligations.EnablePins := by
  intro s t ch p c first regs both live low ho hp hlen
  have hst {d : Chan} (hf : c.Frame (EN_STATUS :: regs) d) : d.state = c.state :=
    hf.state (List.not_mem_cons_of_ne_of_not_mem (by decide) (not_mem_pairStatus hp (by decide)))
  have acts {i : Instr} {f : Chan → Chan} {P : Chan → Prop} (he : exec i s = s.live t ch f) (h : P (f c)) : ActsOn i s t ch P := actsOn_live (c := c) rfl he ho h
  refine ⟨?fall, ?fallLive, ?fallNot, ?rise, ?riseNot, ?lock, ?lockNot⟩
  case fall =>
    intro hh hn
    have hs := pinLow_shows hp hlen
    refine acts rfl ?_
    rw [doEnPinFall_high hp hh, hst hs.2.2.2, if_neg hn]
    exact hs
  case fallLive =>
    intro hh hlv ha
    have hs := pinLow_shows hp hlen
    have hr := pinLow_raise hp hlen ho ha
    refine acts rfl ?_
    rw [doEnPinFall_high hp hh, hst hs.2.2.2, if_pos hlv]
    exact ⟨hr.1, hr.2, c.pinLow p, hs, rfl⟩
  case fallNot => exact fun h => acts rfl (if_pos (.inr (by rw [h]; rfl)))
  case rise =>
    intro h
    obtain ⟨hg, hi, hs, hf⟩ := pinHigh_shows hp hlen
    have hf' := frame_mono (k := EN_STATUS :: SL_SRC_STATUS :: regs) hf (List.cons_subset_cons _ (List.subset_cons_self _ _))
    refine acts rfl ?_
    rw [doEnPinRise_low hp h]
    by_cases h15 : (c.pinHigh p).g EN_STATUS_EN_PIN = 15
    · rw [if_pos h15]
      have he := eased_clear (c.pinHigh p) (s := EN_LOW) rfl
      have hm := congrArg Modul.ilk he.modul
      refine ⟨(he.frame.g (by decide)).trans hg, hm.trans hi, ?_, fun _ => Chan.srcActive_clear_same _ _, frame_trans hf' (frame_mono he.frame (by simp))⟩
      rw [hm]
      exact (he.lastSent (pairFirst_lt_eight hp)).trans hs
    · rw [if_neg h15]
      exact ⟨hg, hi, hs, fun k => absurd (hg.trans k) h15, hf'⟩
  case riseNot => exact fun h => acts rfl (if_pos (.inr h))
  case lock =>
    intro hp3 hh hL ht hi ha
    obtain ⟨hk, hs, hf⟩ := held_shows hp hlen
    refine acts rfl ?_
    rw [doPairInterlock_meets hp3 hh hL ht hi]
    have hst' := hf.state (not_mem_pairStatus (a := CH_STATE) hp (by decide))
    have hact := hf.srcActive (s := INTERLOCK) (not_mem_pairStatus (a := SL_SRC_STATUS) hp (by decide))
    have hsev := hf.sevOf (s := INTERLOCK) (not_mem_pairStatus (a := INTERLOCK.sevAt.1) hp (by decide))
    exact ⟨raiseBy_latched _ (by decide) (by rwa [hst']) (by rwa [hact]), fun h => raiseBy_fault _ (by decide) (by rwa [hst']) (by rwa [hact]) (by rwa [hsev]),
      frame_reacts (react_raiseBy (reacts_held hp)), c.held p, hk, hs, hf, rfl⟩
  case lockNot =>
    intro h
    refine acts rfl (if_pos ?_)
    rcases h with h | h | h | h | h
    · exact .inl h
    · exact .inr (.inl (by rw [h]; rfl))
    · exact .inr (.inl (by rw [h, Bool.and_false]; rfl))
    · exact .inr (.inl (by rw [show c.since _ _ = false from h, Bool.and_false]; rfl))
    · exact .inr (.inr h)

end Sys2Proof.Machine
end

section
/-! PROOFS. Edges on the edge channel of a slice (R205, R210, R211, R218): O28. -/

namespace Sys2Proof.Machine
open Sys2Proof

/-! ### Turning on and off, with DT_EXTENDED as it is -/

/-- DT_EXTENDED may change only where SL_SRC_STATUS is one of the registers `l`. -/
def Chan.DtQuiet (l : List Nat) (c : Chan) : Prop := SL_SRC_STATUS ∈ l ∨ c.srcActive DT_EXTENDED = false

theorem Chan.DtQuiet.beside {l : List Nat} {n : Nat} {c d : Chan} (h : c.DtQuiet l) (k : c.Beside l n d) : d.DtQuiet l := by
  by_cases hm : SL_SRC_STATUS ∈ l
  · exact .inl hm
  · exact .inr ((k.frame.srcActive (s := DT_EXTENDED) hm).trans (h.resolve_left hm))

theorem beside_dtEnd {l : List Nat} {c : Chan} (n : Nat) (h : c.DtQuiet l) : c.Beside l n (c.dtEnd n) := by
  rcases h with h | h
  · exact (Chan.Beside.refl l n c).eased (eased_dtEnd c n) h
  · rw [dtEnd_idle n h]
    exact .refl l n c

theorem beside_slOff {l : List Nat} {c : Chan} (n : Nat) (h : c.DtQuiet l) : c.Beside l n (c.slOff n) := by
  have hd : c.Beside l n ((c.onSl n SliceSt.turnedOff).dtEnd n) := ((Chan.Beside.refl l n c).onSl _).trans (beside_dtEnd n h)
  rw [Chan.slOff_eq]
  split_ifs
  · exact hd.onSl _
  · exact hd

theorem beside_slOn {l : List Nat} {c : Chan} (n : Nat) (h : c.DtQuiet l) : c.Beside l n (c.slOn n) := by
  have hd : c.Beside l n ((c.onSl n (fun x => x.turnedOn c.now)).dtEnd n) := ((Chan.Beside.refl l n c).onSl _).trans (beside_dtEnd n h)
  rw [Chan.slOn_eq]
  exact hd.onSl _

section
variable {c : Chan} {n : Nat} (hn : n < c.slices.length)
include hn

theorem sl_onSl_dtEnd (f g : SliceSt → SliceSt) : ((((c.onSl n f).dtEnd n).onSl n g).sl n) = g (f (c.sl n)) := by
  have he := eased_dtEnd (c.onSl n f) n
  rw [sl_onSl_same (by rwa [he.slices, Chan.length_onSl]), he.sl, sl_onSl_same hn]

theorem sl_slOn : (c.slOn n).sl n = ((c.sl n).turnedOn c.now).owned true c.now := by
  have hw : ((c.onSl n (fun x => x.turnedOn c.now)).dtEnd n).now = c.now := (eased_dtEnd _ n).now
  rw [Chan.slOn_eq, Chan.ownEdge_eq, hw, sl_onSl_dtEnd hn]

theorem sl_slOff : (c.slOff n).sl n = if (c.sl n).isOn then (c.sl n).turnedOff.owned false c.now else (c.sl n).turnedOff := by
  have he := eased_dtEnd (c.onSl n SliceSt.turnedOff) n
  rw [Chan.slOff_eq]
  split_ifs
  · rw [Chan.ownEdge_eq, he.now, sl_onSl_dtEnd hn]
    rfl
  · rw [he.sl, sl_onSl_same hn]
end

/-- What the switch of a slice does not change: its levels, its edge channel, its edge count, its latches. -/
structure SliceSt.SameEdge (x y : SliceSt) : Prop where
  pulse : y.pulse = x.pulse
  en : y.en = x.en
  wire : y.wire = x.wire
  edges : y.edges = x.edges
  latch : y.latch = x.latch

theorem SliceSt.SameEdge.refl (x : SliceSt) : x.SameEdge x := ⟨rfl, rfl, rfl, rfl, rfl⟩
theorem SliceSt.SameEdge.trans {x y z : SliceSt} (h : x.SameEdge y) (k : y.SameEdge z) : x.SameEdge z :=
  ⟨k.pulse.trans h.pulse, k.en.trans h.en, k.wire.trans h.wire, k.edges.trans h.edges, k.latch.trans h.latch⟩

theorem sameEdge_slOff {c : Chan} {n : Nat} (hn : n < c.slices.length) : (c.sl n).SameEdge ((c.slOff n).sl n) := by
  rw [sl_slOff hn]
  split_ifs <;> exact ⟨rfl, rfl, rfl, rfl, rfl⟩

theorem slOff_off {c : Chan} {n : Nat} (hn : n < c.slices.length) : ((c.slOff n).sl n).isOn = false ∧ ((c.slOff n).sl n).asking = none := by
  rw [sl_slOff hn]
  split_ifs <;> exact ⟨rfl, rfl⟩

theorem sameEdge_slOn {c : Chan} {n : Nat} (hn : n < c.slices.length) : (c.sl n).SameEdge ((c.slOn n).sl n) := by
  rw [sl_slOn hn]
  exact ⟨rfl, rfl, rfl, rfl, rfl⟩

theorem slWant_congr {c d : Chan} {n : Nat} (hu : d.b (SL_CFG_USED n) = c.b (SL_CFG_USED n)) (hr : d.b (SL_STATUS_READY n) = c.b (SL_STATUS_READY n))
    (h : (c.sl n).SameEdge (d.sl n)) : d.slWant n = c.slWant n := by
  rw [Chan.slWant, hu, hr, h.latch, h.en, h.pulse, Chan.slWant]

/-- The switch command is as before when only DT_EXTENDED changed beside the slice. -/
theorem slWant_slOff {c : Chan} {n : Nat} (hn : n < c.slices.length) (h8 : n < 8) : (c.slOff n).slWant n = c.slWant n := by
  have hb := beside_slOff (l := [SL_SRC_STATUS]) (c := c) n (.inl List.mem_cons_self)
  exact slWant_congr (hb.frame.b (f := SL_CFG_USED n) (by simp only [SL_CFG_USED, SL_CFG, SL_SRC_STATUS, List.mem_singleton]; omega))
    (hb.frame.b (f := SL_STATUS_READY n) (show SL_STATUS n ∉ [SL_SRC_STATUS] by simpa using slStatus_ne_slSrc n h8)) (sameEdge_slOff hn)

/-! ### A slice brought to its switch command (R210, R211) -/

/-- A slice that takes an edge: a phase slice asked to turn on gives up what it asked before, and follows. -/
def Chan.slSettle (c : Chan) (n : Nat) : Chan := (if n < 6 ∧ c.slWant n ∧ (c.sl n).asking.isSome then c.slOff n else c).slFollow n

theorem slFollow_keeps {l : List Nat} {c : Chan} {n : Nat} (hn : n < c.slices.length) (hq : c.DtQuiet l) : c.Beside l n (c.slFollow n) ∧ (c.sl n).SameEdge ((c.slFollow n).sl n) := by
  rw [Chan.slFollow]
  split_ifs
  · exact ⟨beside_slOff n hq, sameEdge_slOff hn⟩
  · exact ⟨.refl l n c, .refl _⟩
  · exact ⟨.refl l n c, .refl _⟩
  · refine ⟨(Chan.Beside.refl l n c).onSl _, ?_⟩
    rw [sl_onSl_same hn]
    exact ⟨rfl, rfl, rfl, rfl, rfl⟩
  · exact ⟨beside_slOn n hq, sameEdge_slOn hn⟩

/-- What settling leaves. -/
theorem slSettle_keeps {l : List Nat} {c : Chan} {n : Nat} (hn : n < c.slices.length) (hq : c.DtQuiet l) : c.Beside l n (c.slSettle n) ∧ (c.sl n).SameEdge ((c.slSettle n).sl n) := by
  rw [Chan.slSettle]
  split_ifs
  · have hb := beside_slOff n hq
    obtain ⟨hf, hs⟩ := slFollow_keeps (c := c.slOff n) (n := n) (by rwa [hb.length]) (hq.beside hb)
    exact ⟨hb.trans hf, (sameEdge_slOff hn).trans hs⟩
  · exact slFollow_keeps hn hq

section
variable {c : Chan} {n : Nat} (hn : n < c.slices.length)
include hn

/-- A slice not told to be on ends off. -/
theorem slSettle_off (hw : c.slWant n = false) : ((c.slSettle n).sl n).isOn = false ∧ ((c.slSettle n).sl n).asking = none := by
  rw [Chan.slSettle, if_neg (by simp [hw]), Chan.slFollow, if_pos (by rw [hw]; rfl)]
  split_ifs with h
  · exact slOff_off hn
  · simp only [not_or, Bool.not_eq_true, Option.isSome_eq_false_iff, Option.isNone_iff_eq_none] at h
    exact h

omit hn in
/-- A slice that is on and told to be on stays as it is. -/
theorem slSettle_stays (hw : c.slWant n = true) (hon : (c.sl n).isOn = true) (ha : (c.sl n).asking = none) : c.slSettle n = c := by
  rw [Chan.slSettle, if_neg (by simp [ha]), Chan.slFollow, if_neg (by rw [hw]; decide), if_pos hon]

/-- A phase slice told to be on asks. -/
theorem slSettle_asks (hw : c.slWant n = true) (hon : (c.sl n).isOn = false) (h6 : n < 6) :
    ((c.slSettle n).sl n).asking = some c.now ∧ ((c.slSettle n).sl n).dtDone = false ∧ ((c.slSettle n).sl n).isOn = false := by
  have ask {d : Chan} (hl : n < d.slices.length) (hw : d.slWant n = true) (hon : (d.sl n).isOn = false) :
      ((d.slFollow n).sl n).asking = some d.now ∧ ((d.slFollow n).sl n).dtDone = false ∧ ((d.slFollow n).sl n).isOn = false := by
    rw [Chan.slFollow, if_neg (by rw [hw]; decide), if_neg (by rw [hon]; decide), if_pos h6, sl_onSl_same hl]
    exact ⟨rfl, rfl, hon⟩
  rw [Chan.slSettle]
  split_ifs
  · have hb := beside_slOff (l := [SL_SRC_STATUS]) (c := c) n (.inl List.mem_cons_self)
    have h := ask (d := c.slOff n) (by rwa [hb.length]) (by rwa [slWant_slOff hn (by omega)]) (slOff_off hn).1
    rwa [hb.now] at h
  · exact ask hn hw hon

/-- Slices 6 and 7 told to be on turn on. -/
theorem slSettle_turnsOn (hw : c.slWant n = true) (hon : (c.sl n).isOn = false) (h6 : 6 ≤ n) : ((c.slSettle n).sl n).isOn = true ∧ ((c.slSettle n).sl n).onAt = c.now := by
  rw [Chan.slSettle, if_neg (by omega), Chan.slFollow, if_neg (by rw [hw]; decide), if_neg (by rw [hon]; decide), if_neg (by omega), sl_slOn hn]
  exact ⟨rfl, rfl⟩
end

/-! ### An edge taken, and the latches it clears (R218, R222) -/

/-- The slice that takes an edge with these levels at instant `t`. -/
def SliceSt.edge (x : SliceSt) (pulse en : Bool) (t : Tick) : SliceSt :=
  let k := (x.edges + 1) % 256
  let e : SliceEdge := ⟨k, pulse, en, false, false, 0, t⟩
  { x with
    pulse := pulse, en := en, edges := k
    enLow := if en then none else if x.en then some t else x.enLow
    edgesBuf := (x.edgesBuf ++ [e]).drop (x.edgesBuf.length - 3) }

theorem Chan.takeEdge_eq (c : Chan) (n : Nat) (pulse en : Bool) : c.takeEdge n pulse en = c.onSl n (fun x => x.edge pulse en c.now) := rfl

/-- The slice that takes edge `w`, the changes `ws` left on its edge channel. -/
def SliceSt.taking (x : SliceSt) (w : WireEdge) (ws : List WireEdge) (t : Tick) : SliceSt := SliceSt.edge { x with wire := ws } w.pulse w.en t

/-- The channel whose slice has taken the edge. -/
def Chan.arrived (c : Chan) (n : Nat) (w : WireEdge) (ws : List WireEdge) : Chan :=
  (((if w.en && !(c.sl n).en then c.took 1 else c).wireShow n).onSl n (fun x => { x with wire := ws })).takeEdge n w.pulse w.en

/-- The edge clears the slice's latches (R218). -/
def Chan.edgeClears (c : Chan) (n : Nat) (present : Bool) (w : WireEdge) : Bool := w.en && !(c.sl n).en && !present && (c.sl n).latch != 0 && c.toggleClears n

/-- The channel whose slice has taken the edge and cleared what it clears. -/
def Chan.settled (c : Chan) (n : Nat) (present : Bool) (w : WireEdge) (ws : List WireEdge) : Chan :=
  if c.edgeClears n present w then (c.arrived n w ws).slUnlatch n else c.arrived n w ws

/-- A bootstrap slice whose rail is low latches at an edge that tells it to be on (R227). -/
def Chan.railTrips (c : Chan) (n : Nat) (rail : Int) : Bool := c.b (SL_CFG_BOOT n) && c.railUv n rail && c.slWant n && !(c.sl n).isOn

theorem doEdgeChannelEdge_due {c : Chan} {n : Nat} {w : WireEdge} {ws : List WireEdge} (present : Bool) (rail : Int) (h : (c.sl n).wire = w :: ws) (ht : w.at_ ≤ c.now) :
    doEdgeChannelEdge n present rail c = if (c.settled n present w ws).railTrips n rail then (c.settled n present w ws).slLatch n 2 else (c.settled n present w ws).slSettle n := by
  rw [doEdgeChannelEdge, h]
  exact if_neg (Nat.not_lt.2 ht)

theorem doEdgeChannelEdge_none {c : Chan} {n : Nat} (present : Bool) (rail : Int) (h : (c.sl n).wire = []) : doEdgeChannelEdge n present rail c = c := by rw [doEdgeChannelEdge, h]

theorem doEdgeChannelEdge_early {c : Chan} {n : Nat} {w : WireEdge} {ws : List WireEdge} (present : Bool) (rail : Int) (h : (c.sl n).wire = w :: ws) (ht : c.now < w.at_) :
    doEdgeChannelEdge n present rail c = c := by
  rw [doEdgeChannelEdge, h]
  exact if_pos ht

theorem beside_wireShow (c : Chan) (n : Nat) : c.Beside [SL_STATUS n] n (c.wireShow n) ∧ (c.wireShow n).sl n = c.sl n ∧
    (c.wireShow n).b (SL_STATUS_READY n) = c.b (SL_STATUS_READY n) := by
  rw [Chan.wireShow]
  split
  · exact ⟨.refl _ n c, rfl, rfl⟩
  · refine ⟨((Chan.Beside.refl [SL_STATUS n] n c).p (f := SL_STATUS_PULSE n) List.mem_cons_self).p (f := SL_STATUS_EN n) List.mem_cons_self, by rw [Chan.sl_p, Chan.sl_p], ?_⟩
    rw [Chan.b_p_other _ _ _ _ rfl rfl (by simp [Fld.apart, SL_STATUS_EN, SL_STATUS_READY]), Chan.b_p_other _ _ _ _ rfl rfl (by simp [Fld.apart, SL_STATUS_PULSE, SL_STATUS_READY])]

theorem arrived_shows {c : Chan} {n : Nat} (hn : n < c.slices.length) (w : WireEdge) (ws : List WireEdge) : c.Beside [SL_STATUS n] n (c.arrived n w ws) ∧
    (c.arrived n w ws).sl n = (c.sl n).taking w ws c.now ∧ (c.arrived n w ws).b (SL_STATUS_READY n) = c.b (SL_STATUS_READY n) := by
  obtain ⟨e, he, hb, hs, hr⟩ : ∃ e, e = (if w.en && !(c.sl n).en then c.took 1 else c) ∧ c.Beside [SL_STATUS n] n e ∧ e.sl n = c.sl n ∧ e.b (SL_STATUS_READY n) = c.b (SL_STATUS_READY n) := by
    refine ⟨_, rfl, ?_⟩
    split_ifs
    · exact ⟨(Chan.Beside.refl _ n c).took 1, rfl, rfl⟩
    · exact ⟨.refl _ n c, rfl, rfl⟩
  obtain ⟨hb', hs', hr'⟩ := beside_wireShow e n
  have hl : n < (e.wireShow n).slices.length := by rwa [hb'.length, hb.length]
  have hw : (e.wireShow n).now = c.now := hb'.now.trans hb.now
  rw [Chan.arrived, ← he, Chan.takeEdge_eq, Chan.onSl_now, hw]
  refine ⟨((hb.trans hb').onSl _).onSl _, ?_, hr'.trans hr⟩
  rw [Chan.onSl_onSl hl, sl_onSl_same hl, hs', hs, SliceSt.taking]

/-- The registers and the slice of a cleared latch, before its sources. -/
def Chan.unlatched (c : Chan) (n : Nat) : Chan :=
  ((c.onSl n (fun x => { x with latch := 0, soft := false, plateau := false })).p (SL_STATUS_LATCHED n) 0).p (SL_FAULT_LATCH n) 0

theorem Chan.slUnlatch_eq (c : Chan) (n : Nat) : c.slUnlatch n = ((c.unlatched n).latchSources n).recordOut n := rfl

theorem sl_recordOut (c : Chan) (n k : Nat) : (c.recordOut n).sl k = c.sl k := by
  rw [Chan.recordOut]
  split_ifs <;> rfl

theorem beside_unlatched (c : Chan) (n : Nat) : c.Beside [SL_STATUS n, SL_FAULT n] n (c.unlatched n) :=
  (((Chan.Beside.refl [SL_STATUS n, SL_FAULT n] n c).onSl _).p (f := SL_STATUS_LATCHED n) (by simp [SL_STATUS_LATCHED])).p (f := SL_FAULT_LATCH n) (by simp [SL_FAULT_LATCH])

theorem slStatus_ne_slFault (n : Nat) : SL_STATUS n ≠ SL_FAULT n := by rw [SL_STATUS, SL_FAULT]; omega

theorem unlatched_flags (c : Chan) (n : Nat) : (c.unlatched n).b (SL_STATUS_READY n) = c.b (SL_STATUS_READY n) ∧ (c.unlatched n).b (SL_STATUS_LATCHED n) = false ∧
    (c.unlatched n).g (SL_FAULT_LATCH n) = 0 := by
  refine ⟨?_, ?_, Chan.g_p_same _ _ _ rfl⟩
  · rw [Chan.unlatched, Chan.b_p_other _ _ _ _ rfl rfl (by simp [Fld.apart, SL_FAULT_LATCH, SL_STATUS_READY, (slStatus_ne_slFault n).symm]),
      Chan.b_p_other _ _ _ _ rfl rfl (by simp [Fld.apart, SL_STATUS_LATCHED, SL_STATUS_READY])]
    rfl
  · rw [Chan.unlatched, Chan.b_p_other _ _ _ _ rfl rfl (by simp [Fld.apart, SL_FAULT_LATCH, SL_STATUS_LATCHED, (slStatus_ne_slFault n).symm]), Chan.b_p_zero _ _ rfl]

theorem slUnlatch_shows {c : Chan} {n : Nat} (hn : n < c.slices.length) (h8 : n < 8) : c.Beside [SL_STATUS n, SL_FAULT n, SL_SRC_STATUS] n (c.slUnlatch n) ∧
    (c.slUnlatch n).sl n = { c.sl n with latch := 0, soft := false, plateau := false } ∧ (c.slUnlatch n).b (SL_STATUS_READY n) = c.b (SL_STATUS_READY n) ∧
    (c.slUnlatch n).b (SL_STATUS_LATCHED n) = false ∧ (c.slUnlatch n).g (SL_FAULT_LATCH n) = 0 := by
  have he := eased_latchSources (c.unlatched n) n
  have hf : (c.unlatched n).Beside [SL_SRC_STATUS] n (c.slUnlatch n) := ((Chan.Beside.refl _ n _).eased he List.mem_cons_self).recordOut n
  have hst : SL_STATUS n ∉ [SL_SRC_STATUS] := by simpa using slStatus_ne_slSrc n h8
  have hft : SL_FAULT n ∉ [SL_SRC_STATUS] := by rw [SL_FAULT, SL_SRC_STATUS, List.mem_singleton]; omega
  obtain ⟨hr, hl, hk⟩ := unlatched_flags c n
  refine ⟨((beside_unlatched c n).mono (by simp +contextual)).trans (hf.mono (by simp)), ?_, (hf.frame.b (f := SL_STATUS_READY n) hst).trans hr,
    (hf.frame.b (f := SL_STATUS_LATCHED n) hst).trans hl, (hf.frame.g (f := SL_FAULT_LATCH n) hft).trans hk⟩
  rw [Chan.slUnlatch_eq, sl_recordOut, he.sl, Chan.unlatched, Chan.sl_p, Chan.sl_p, sl_onSl_same hn]

/-! ### The slice after the edge -/

/-- What every edge brings: the levels and the count of `taken`, and what its switch command and its rail are judged by. -/
structure Chan.Took (l : List Nat) (n : Nat) (w : WireEdge) (ws : List WireEdge) (c d : Chan) : Prop where
  beside : c.Beside l n d
  pulse : (d.sl n).pulse = w.pulse
  en : (d.sl n).en = w.en
  wire : (d.sl n).wire = ws
  edges : (d.sl n).edges = ((c.sl n).edges + 1) % 256
  cfg : (d.sl n).cfg = (c.sl n).cfg
  isOn : (d.sl n).isOn = (c.sl n).isOn
  asking : (d.sl n).asking = (c.sl n).asking
  ready : d.b (SL_STATUS_READY n) = c.b (SL_STATUS_READY n)

/-- The registers of an edge that may clear latches. -/
def edgeRegs (n : Nat) : List Nat := [SL_STATUS n, SL_FAULT n, SL_SRC_STATUS]

section
variable {c : Chan} {n : Nat} (hn : n < c.slices.length) (w : WireEdge) (ws : List WireEdge)
include hn

theorem arrived_took : c.Took [SL_STATUS n] n w ws (c.arrived n w ws) ∧ ((c.arrived n w ws).sl n).latch = (c.sl n).latch := by
  obtain ⟨hb, hs, hr⟩ := arrived_shows hn w ws
  refine ⟨⟨hb, ?_, ?_, ?_, ?_, ?_, ?_, ?_, hr⟩, ?_⟩
  all_goals
    rw [hs]
    rfl

theorem unlatch_took (h8 : n < 8) : c.Took (edgeRegs n) n w ws ((c.arrived n w ws).slUnlatch n) ∧ (((c.arrived n w ws).slUnlatch n).sl n).latch = 0 := by
  obtain ⟨hk, -⟩ := arrived_took hn w ws
  obtain ⟨hb, hs, hr, -, -⟩ := slUnlatch_shows (c := c.arrived n w ws) (n := n) (by rwa [hk.beside.length]) h8
  refine ⟨⟨(hk.beside.mono (by simp [edgeRegs])).trans hb, ?_, ?_, ?_, ?_, ?_, ?_, ?_, hr.trans hk.ready⟩, by rw [hs]⟩
  · rw [hs]; exact hk.pulse
  · rw [hs]; exact hk.en
  · rw [hs]; exact hk.wire
  · rw [hs]; exact hk.edges
  · rw [hs]; exact hk.cfg
  · rw [hs]; exact hk.isOn
  · rw [hs]; exact hk.asking

theorem settled_kept {present : Bool} (h : c.edgeClears n present w = false) : c.Took [SL_STATUS n] n w ws (c.settled n present w ws) ∧
    ((c.settled n present w ws).sl n).latch = (c.sl n).latch := by
  rw [Chan.settled, if_neg (by rw [h]; decide)]
  exact arrived_took hn w ws

theorem settled_took (present : Bool) (h8 : n < 8) : c.Took (edgeRegs n) n w ws (c.settled n present w ws) := by
  rw [Chan.settled]
  split_ifs
  · exact (unlatch_took hn w ws h8).1
  · obtain ⟨hk, -⟩ := arrived_took hn w ws
    exact { hk with beside := hk.beside.mono (by simp [edgeRegs]) }
end

theorem slCfg_not_mem_edgeRegs {n : Nat} (h8 : n < 8) : SL_CFG n ∉ edgeRegs n := by
  simp only [edgeRegs, SL_CFG, SL_STATUS, SL_FAULT, SL_SRC_STATUS, List.mem_cons, List.not_mem_nil, or_false]
  omega

/-- The levels of the edge tell the slice to be on (R208, R210). -/
def Chan.edgeWants (c : Chan) (n : Nat) (w : WireEdge) : Bool :=
  c.b (SL_CFG_USED n) && c.b (SL_STATUS_READY n) && w.en && (if n < 6 then w.pulse == (n % 2 == 0) else w.pulse)

/-- A bootstrap slice's rail is low (R227). -/
def Chan.railLow (c : Chan) (n : Nat) (rail : Int) : Bool := c.b (SL_CFG_BOOT n) && c.railUv n rail

theorem slCfg_congr {c d : Chan} {n : Nat} (h : (d.sl n).cfg = (c.sl n).cfg) (f : Fld) : d.slCfg n f = c.slCfg n f := by rw [Chan.slCfg, h, Chan.slCfg]

namespace Chan.Took
variable {l : List Nat} {n : Nat} {w : WireEdge} {ws : List WireEdge} {c d : Chan} (h : c.Took l n w ws d)
include h

theorem slWant (hl : SL_CFG n ∉ l) : d.slWant n = (c.edgeWants n w && (d.sl n).latch == 0) := by
  rw [Chan.slWant, h.beside.frame.b (f := SL_CFG_USED n) hl, h.ready, h.en, h.pulse, Chan.edgeWants]
  ac_rfl

theorem railLow (hl : SL_CFG n ∉ l) (rail : Int) : d.railLow n rail = c.railLow n rail := by
  have hb : d.b (SL_CFG_BOOT n) = c.b (SL_CFG_BOOT n) := h.beside.frame.b (f := SL_CFG_BOOT n) hl
  have hu : d.railUv n rail = c.railUv n rail := by rw [Chan.railUv, hb, slCfg_congr h.cfg, slCfg_congr h.cfg, Chan.railUv]
  rw [Chan.railLow, hb, hu, Chan.railLow]

theorem slSettle (hl : n < c.slices.length) (hq : d.DtQuiet l) : c.Beside l n (d.slSettle n) ∧ ((d.slSettle n).sl n).pulse = w.pulse ∧ ((d.slSettle n).sl n).en = w.en ∧
    ((d.slSettle n).sl n).wire = ws ∧ ((d.slSettle n).sl n).edges = ((c.sl n).edges + 1) % 256 ∧ ((d.slSettle n).sl n).latch = (d.sl n).latch := by
  obtain ⟨hb, hs⟩ := slSettle_keeps (c := d) (n := n) (by rwa [h.beside.length]) hq
  exact ⟨h.beside.trans hb, hs.pulse.trans h.pulse, hs.en.trans h.en, hs.wire.trans h.wire, hs.edges.trans h.edges, hs.latch⟩
end Chan.Took

/-- An edge at which the rail trips nothing: the slice settles. -/
theorem railTrips_not {c : Chan} {n : Nat} {rail : Int} (h : c.railLow n rail = false ∨ c.slWant n = false ∨ (c.sl n).isOn = true) : c.railTrips n rail = false := by
  have he : c.railTrips n rail = (c.railLow n rail && c.slWant n && !(c.sl n).isOn) := rfl
  rcases h with h | h | h <;> simp [he, h]

theorem since_mono {c : Chan} {u a b : Nat} (hab : a ≤ b) (h : c.since u a = false) : c.since u b = false := by
  rw [Chan.since] at h ⊢
  rw [← Bool.not_eq_true, Nat.ble_eq] at h ⊢
  omega

/-- A low shorter than 1.9 µs clears nothing (R218). -/
theorem toggleClears_short {c : Chan} {n : Nat} (h : ∀ u, (c.sl n).enLow = some u → c.since u (ns 1900) = false) : c.toggleClears n = false := by
  rw [Chan.toggleClears]
  split
  · rfl
  · next u hu => rw [h u hu, since_mono (by decide) (h u hu), Bool.false_and, Bool.or_self]

/-- A low of 2 µs does. -/
theorem toggleClears_long {c : Chan} {n : Nat} (hs : (c.sl n).enLow.isSome = true) (h : ∀ u, (c.sl n).enLow = some u → c.since u (ns 2000) = true) : c.toggleClears n = true := by
  obtain ⟨u, hu⟩ := Option.isSome_iff_exists.1 hs
  rw [Chan.toggleClears, hu]
  exact Bool.or_eq_true_iff.2 (.inl (h u hu))

/-- A latch beside changes that the reaction makes too. -/
theorem latched_of_beside {c d e : Chan} {l k : List Nat} {n bit : Nat} (hb : c.Beside k n d) (hk : ∀ a ∈ k, reactionRegs.contains a = true)
    (hv : reactionRegs.contains (latchSource bit).sevAt.1 = false) (hlatch : (d.sl n).latch = (c.sl n).latch) (h : d.Latched l n bit e) : c.Latched l n bit e where
  latch := by rw [h.latch, hlatch]
  off := h.off
  status := h.status
  source := h.source
  fault := fun hs => h.fault (by rwa [hb.frame.sevOf (fun hm => ne_of_not_reaction hv (hk _ hm) rfl)])
  others := fun k hk => by
    have := h.others k hk
    rwa [hb.others k hk] at this
  frame := frame_trans (frame_mono hb.frame (fun a ha => List.mem_append_right _ (List.elem_iff.1 (hk a ha)))) h.frame

theorem mayLatch_of_took {c d : Chan} {l : List Nat} {n bit : Nat} {w : WireEdge} {ws : List WireEdge} (h : c.Took l n w ws d) (hl : SL_CFG n ∉ l)
    (hs : (srcRegs (latchSource bit).blk).src ∉ l) (hla : (d.sl n).latch = (c.sl n).latch) : d.mayLatch n bit = c.mayLatch n bit := by
  rw [Chan.mayLatch, h.beside.frame.b (f := SL_CFG_USED n) hl, hla, h.beside.frame.srcActive hs, Chan.mayLatch]

theorem edge_clause {s : State} {t : Tick} {ch : Ch} {n : Nat} {present : Bool} {rail : Int} {w : WireEdge} {ws : List WireEdge} {P : Chan → Prop} {c : Chan} (hc : c = s.m.seen t ch)
    (ho : c.state ≠ OFF) (hw : (c.sl n).wire = w :: ws) (ht : w.at_ ≤ c.now) (hr : (c.settled n present w ws).railTrips n rail = false) (h : P ((c.settled n present w ws).slSettle n)) :
    ActsOn (.edgeChannelEdge t ch n present rail) s t ch P := by
  refine actsOn_live hc.symm rfl ho ?_
  rw [doEdgeChannelEdge_due present rail hw ht, hr]
  exact h

/-- Settles O28: the edge taken (`settled_took`), the latches it clears, and the switch command followed (`slSettle_keeps` and the cases beside it). -/
theorem sliceEdges : Obligations.SliceEdges := by
  intro s t ch n present rail w ws c x on low taken ho hlen h8
  have hn : n < c.slices.length := by omega
  have hcfg := slCfg_not_mem_edgeRegs h8
  have hcfg1 : SL_CFG n ∉ [SL_STATUS n] := fun hm => hcfg (List.mem_cons.2 (.inl (List.mem_singleton.1 hm)))
  have hsrc : SL_SRC_STATUS ∈ edgeRegs n := by simp [edgeRegs]
  have acts {i : Instr} {f : Chan → Chan} {P : Chan → Prop} (he : exec i s = s.live t ch f) (h : P (f c)) : ActsOn i s t ch P := actsOn_live (c := c) rfl he ho h
  have hkeep (h : w.en = false ∨ x.en = true ∨ present = true) : c.edgeClears n present w = false := by
    have hen : (c.sl n).en = x.en := rfl
    rcases h with h | h | h <;> simp [Chan.edgeClears, hen, h]
  have hclean (h : x.latch = 0) : c.edgeClears n present w = false := by simp [Chan.edgeClears, show (c.sl n).latch = 0 from h]
  have hwants {d : Chan} (hk : c.Took [SL_STATUS n] n w ws d) (hla : (d.sl n).latch = (c.sl n).latch) (hon : on = true) (hx : x.latch = 0) : d.slWant n = true := by
    rw [hk.slWant hcfg1, show c.edgeWants n w = true from hon, hla, show (c.sl n).latch = 0 from hx]
    rfl
  refine ⟨?none, ?early, ?off, ?trips, ?asks, ?stays, ?clears, ?short⟩
  case none => exact fun hw => acts rfl (doEdgeChannelEdge_none present rail hw)
  case early => exact fun hw ht => acts rfl (doEdgeChannelEdge_early present rail hw ht)
  case off =>
    intro hw ht hoff
    have hk := settled_took hn w ws present h8
    have hlatch (h : w.en = false ∨ x.en = true ∨ present = true) : ((c.settled n present w ws).sl n).latch = x.latch := (settled_kept hn w ws (hkeep h)).2
    have hwant : (c.settled n present w ws).slWant n = false := by
      rw [hk.slWant hcfg]
      rcases hoff with h | ⟨hx, h⟩
      · rw [show c.edgeWants n w = false from h, Bool.false_and]
      · simp [hlatch h, hx]
    obtain ⟨hb, hp, he, hws, hed, hla⟩ := hk.slSettle hn (.inl hsrc)
    obtain ⟨hon, hask⟩ := slSettle_off (by rwa [hk.beside.length]) hwant
    exact edge_clause rfl ho hw ht (railTrips_not (.inr (.inl hwant))) ⟨⟨hp, he, hws, hed, hb.others⟩, fun h => hla.trans (hlatch h), hon, hask, hb.frame⟩
  case trips =>
    intro hw ht hon hx hoff hlow hm
    obtain ⟨hk, hla⟩ := settled_kept hn w ws (hclean hx)
    have htrip : (c.settled n present w ws).railTrips n rail = true := by
      change ((c.settled n present w ws).railLow n rail && (c.settled n present w ws).slWant n && !((c.settled n present w ws).sl n).isOn) = true
      rw [hk.railLow hcfg1, hwants hk hla hon hx, hk.isOn, show c.railLow n rail = true from hlow, show (c.sl n).isOn = false from hoff]
      rfl
    have hml : (c.settled n present w ws).mayLatch n 2 = true := by rwa [mayLatch_of_took (bit := 2) hk hcfg1 (fun hm => slStatus_ne_slSrc n h8 (List.mem_singleton.1 hm).symm) hla]
    have hst : (c.settled n present w ws).state ≠ OFF := by rwa [hk.beside.frame.state (by simp only [CH_STATE, SL_STATUS, List.mem_singleton]; omega)]
    refine acts rfl ?_
    rw [doEdgeChannelEdge_due present rail hw ht, if_pos htrip]
    exact latched_of_beside hk.beside (fun a ha => List.mem_singleton.1 ha ▸ own_contains _ (slice_own h8)) (by decide) hla (slLatch_latched (hk.beside.length.trans hlen) h8 hst hml)
  case asks =>
    intro hw ht hdt hon hx hoff hlow
    obtain ⟨hk, hla⟩ := settled_kept hn w ws (hclean hx)
    have hl : n < (c.settled n present w ws).slices.length := by rwa [hk.beside.length]
    have hwant := hwants hk hla hon hx
    obtain ⟨hb, hp, he, hws, hed, -⟩ := hk.slSettle hn (Chan.DtQuiet.beside (.inr hdt) hk.beside)
    have hoff' := hk.isOn.trans hoff
    have hnow := hk.beside.now
    refine edge_clause rfl ho hw ht (railTrips_not (.inl ((hk.railLow hcfg1 rail).trans hlow))) ⟨⟨hp, he, hws, hed, hb.others⟩, fun h6 => ?_, fun h6 => ?_, hb.frame⟩
    · rw [← hnow]
      exact slSettle_asks hl hwant hoff' h6
    · rw [← hnow]
      exact slSettle_turnsOn hl hwant hoff' h6
  case stays =>
    intro hw ht hon hx hisOn hask
    obtain ⟨hk, hla⟩ := settled_kept hn w ws (hclean hx)
    have hstay := slSettle_stays (hwants hk hla hon hx) (hk.isOn.trans hisOn) (hk.asking.trans hask)
    refine edge_clause rfl ho hw ht (railTrips_not (.inr (.inr (hk.isOn.trans hisOn)))) ?_
    rw [hstay]
    exact ⟨⟨hk.pulse, hk.en, hk.wire, hk.edges, hk.beside.others⟩, hk.isOn.trans hisOn, hk.beside.frame⟩
  case clears =>
    intro hw ht hen hx1 hpres hx2 hlong hsome hlow
    have hc : c.edgeClears n present w = true := by
      simp [Chan.edgeClears, hen, show (c.sl n).en = false from hx1, hpres, show (c.sl n).latch ≠ 0 from hx2, toggleClears_long hsome hlong]
    have hs : c.settled n present w ws = (c.arrived n w ws).slUnlatch n := if_pos hc
    obtain ⟨hk, hla⟩ := unlatch_took hn w ws h8
    obtain ⟨-, -, -, hld, hfl⟩ := slUnlatch_shows (c := c.arrived n w ws) (n := n) (by rwa [(arrived_took hn w ws).1.beside.length]) h8
    obtain ⟨hb, hp, he, hws, hed, hla'⟩ := hk.slSettle hn (.inl hsrc)
    have hq := (slSettle_keeps (l := [SL_SRC_STATUS]) (c := (c.arrived n w ws).slUnlatch n) (n := n) (by rwa [hk.beside.length]) (.inl List.mem_cons_self)).1.frame
    have hst : SL_STATUS n ∉ [SL_SRC_STATUS] := by simpa using slStatus_ne_slSrc n h8
    have hft : SL_FAULT n ∉ [SL_SRC_STATUS] := by rw [SL_FAULT, SL_SRC_STATUS, List.mem_singleton]; omega
    refine edge_clause rfl ho hw ht (railTrips_not (.inl ?_)) ?_
    · rw [hs, hk.railLow hcfg]
      exact hlow
    · rw [hs]
      exact ⟨⟨hp, he, hws, hed, hb.others⟩, hla'.trans hla, (hq.b (f := SL_STATUS_LATCHED n) hst).trans hld, (hq.g (f := SL_FAULT_LATCH n) hft).trans hfl, hb.frame⟩
  case short =>
    intro hw ht hen hx1 hx2 hshort hdt hlow
    obtain ⟨hk, hla⟩ := settled_kept (present := present) hn w ws (by rw [Chan.edgeClears, toggleClears_short hshort, Bool.and_false])
    have hwant : (c.settled n present w ws).slWant n = false := by simp [hk.slWant hcfg1, hla, show (c.sl n).latch ≠ 0 from hx2]
    obtain ⟨hb, hp, he, hws, hed, hla'⟩ := hk.slSettle hn (Chan.DtQuiet.beside (.inr hdt) hk.beside)
    exact edge_clause rfl ho hw ht (railTrips_not (.inr (.inl hwant)))
      ⟨⟨hp, he, hws, hed, hb.others⟩, hla'.trans hla, (slSettle_off (by rwa [hk.beside.length]) hwant).1, hb.frame⟩

end Sys2Proof.Machine
end

section
/-! PROOFS. Measurements of a slice (R225, R228, R229): O30. -/

namespace Sys2Proof.Machine
open Sys2Proof

/-! ### A signed value placed in a field (R6) -/

/-- A value that fits a field of `k + 1` bits in two's complement reads back as written. -/
theorem Chan.gi_pi_same (c : Chan) {f : Fld} {v : Int} (hf : f.ok = true) (hlo : -((2 ^ (f.hi - f.lo) : Nat) : Int) ≤ v) (hhi : v < (2 ^ (f.hi - f.lo) : Nat)) :
    (c.pi f v).gi f = v := by
  have hw : f.hi + 1 - f.lo = f.hi - f.lo + 1 := by have := (Fld.ok_le hf).1; omega
  have hg : (c.pi f v).g f = toBits (f.hi + 1 - f.lo) v := (c.g_p_same f _ hf).trans (Nat.mod_eq_of_lt (toBits_lt _ _))
  rw [Chan.gi, hg, hw, toBits, Nat.pow_succ]
  generalize 2 ^ (f.hi - f.lo) = m at hlo hhi ⊢
  rcases le_or_gt 0 v with h0 | h0
  · have hm : v % ((m * 2 : Nat) : Int) = v := Int.emod_eq_of_lt h0 (by omega)
    simp only [hm]
    rw [if_pos (by omega)]
    omega
  · have hm : v % ((m * 2 : Nat) : Int) = v + (m * 2 : Nat) := by
      rw [← Int.add_emod_right, Int.emod_eq_of_lt (by omega) (by omega)]
    simp only [hm]
    rw [if_neg (by omega)]
    omega

theorem sat16_range (i : Int) : -32768 ≤ sat16 i ∧ sat16 i < 32768 := by
  rw [sat16, satI]
  split_ifs <;> omega

theorem vdsPu_range (v : Int) (b : Nat) : -32768 ≤ vdsPu v b ∧ vdsPu v b < 32768 := by
  rw [vdsPu]
  split
  · omega
  · split_ifs
    · omega
    · exact sat16_range _
    · exact sat16_range _

/-- A PU16 value placed in a field of 16 bits. -/
theorem Chan.gi_pi_pu16 (c : Chan) {f : Fld} {v : Int} (hf : f.ok = true) (hw : f.hi - f.lo = 15) (hv : -32768 ≤ v ∧ v < 32768) : (c.pi f v).gi f = v :=
  c.gi_pi_same hf (by rw [hw]; omega) (by rw [hw]; omega)

theorem Chan.gi_p_other (c : Chan) (f k : Fld) (v : Nat) (hf : f.ok = true) (hk : k.ok = true) (h : f.apart k = true) : (c.p f v).gi k = c.gi k := by
  rw [Chan.gi, Chan.g_p_other _ _ _ _ hf hk h, Chan.gi]

/-! ### A valid frame from a slice (R206, R209) -/

/-- The instants of a slice's invalid frames that lie within the last 1 ms (R233). -/
def Chan.recentBad (c : Chan) (n : Nat) : List Tick := (c.sl n).bad.filter (fun u => Nat.ble c.now (u + ms 1))

/-- The registers of a slice's link. -/
def heardRegs (n : Nat) : List Nat := [SL_STATUS n, SL_SRC_STATUS]

/-- What a valid frame from slice `n` with few invalid ones before it brings. -/
structure Chan.Heard (n : Nat) (sent : Option SlFrame) (c d : Chan) : Prop where
  beside : c.Beside (heardRegs n) n d
  linkOk : d.b (SL_STATUS_LINK_OK n) = true
  sl : d.sl n = { c.sl n with seqFrom := ((c.sl n).seqFrom + 1) % 16, sentFrom := sent, bad := c.recentBad n }
  calm : ∀ k : Src, k.blk = 7 → c.srcActive k = false → d.srcActive k = false

theorem eased_crcEval {c : Chan} {n : Nat} (h : (c.recentBad n).length ≤ 16) : (c.onSl n (fun x => { x with bad := c.recentBad n })).Eased (c.crcEval n) := by
  have he : c.crcEval n = if 16 < (c.recentBad n).length then (c.onSl n (fun x => { x with bad := c.recentBad n })).raiseBy LINK_CRC n
      else if (c.onSl n (fun x => { x with bad := c.recentBad n })).srcActive LINK_CRC then (c.onSl n (fun x => { x with bad := c.recentBad n })).clearBy LINK_CRC n
      else c.onSl n (fun x => { x with bad := c.recentBad n }) := rfl
  rw [he, if_neg (Nat.not_lt.2 h)]
  split_ifs
  · exact eased_clearBy _ n rfl
  · exact .refl _

/-- The channel that has received a frame of slice `n`, before the sources of its link. -/
def Chan.frameIn (c : Chan) (n : Nat) (sent : SlFrame) : Chan :=
  (c.onSl n (fun x => { x with seqFrom := (x.seqFrom + 1) % 16, sentFrom := some sent })).p (SL_STATUS_LINK_OK n) 1

/-- The same once LINK_FAULT follows the configuration. -/
def Chan.linkEased (c : Chan) (n : Nat) : Chan := if (c.sl n).cfgBad then c else c.clearBy LINK_FAULT n

theorem Chan.frameFrom_eq (c : Chan) (n type addr : Nat) (data : Option Nat) :
    c.frameFrom n type addr data = ((c.frameIn n ⟨type, (c.sl n).seqFrom, addr, data⟩).linkEased n).crcEval n := rfl

theorem eased_linkEased (c : Chan) (n : Nat) : c.Eased (c.linkEased n) := by
  rw [Chan.linkEased]
  split_ifs
  · exact .refl c
  · exact eased_clearBy c n rfl

theorem heard_frameFrom {c : Chan} {n : Nat} (type addr : Nat) (data : Option Nat) (hn : n < c.slices.length) (h8 : n < 8) (hq : (c.recentBad n).length ≤ 16) :
    c.Heard n (some ⟨type, (c.sl n).seqFrom, addr, data⟩) (c.frameFrom n type addr data) := by
  rw [Chan.frameFrom_eq]
  generalize hs : (⟨type, (c.sl n).seqFrom, addr, data⟩ : SlFrame) = sent
  have hsl : (c.frameIn n sent).sl n = { c.sl n with seqFrom := ((c.sl n).seqFrom + 1) % 16, sentFrom := some sent } := by rw [Chan.frameIn, Chan.sl_p, sl_onSl_same hn]
  have hb1 : c.Beside (heardRegs n) n (c.frameIn n sent) := ((Chan.Beside.refl (heardRegs n) n c).onSl _).p (f := SL_STATUS_LINK_OK n) List.mem_cons_self
  have he2 := eased_linkEased (c.frameIn n sent) n
  have hb2 := hb1.eased he2 (by simp [heardRegs])
  have hbad : ((c.frameIn n sent).linkEased n).recentBad n = c.recentBad n := by
    rw [Chan.recentBad, he2.sl, hsl, he2.now, hb1.now, Chan.recentBad]
  have he3 := eased_crcEval (c := (c.frameIn n sent).linkEased n) (n := n) (by rwa [hbad])
  have hst : SL_STATUS n ∉ [SL_SRC_STATUS] := by simpa using slStatus_ne_slSrc n h8
  have hf1 : c.Frame [SL_STATUS n] (c.frameIn n sent) := frame_p (f := SL_STATUS_LINK_OK n) (fun _ _ => rfl) List.mem_cons_self
  refine ⟨(hb2.onSl _).eased he3 (by simp [heardRegs]), ?_, ?_, fun k hk ha => he3.calm k (he2.calm k ?_)⟩
  · rw [he3.frame.b (f := SL_STATUS_LINK_OK n) hst]
    exact (he2.frame.b (f := SL_STATUS_LINK_OK n) hst).trans (Chan.b_p_one _ _ rfl)
  · rw [he3.sl, sl_onSl_same (by rwa [hb2.length]), hbad, he2.sl, hsl]
  · exact (hf1.srcActive (by rw [hk]; simpa [srcRegs] using (slStatus_ne_slSrc n h8).symm)).trans ha

/-! ### A measurement placed (R228, R229) -/

/-- The rails placed in SUP_MEAS. -/
theorem railsIn_shows (c : Chan) (n : Nat) (vneg vpos : Int) : (c.railsIn n vneg vpos).gi (SUP_MEAS_VNEG n) = sat16 vneg ∧ (c.railsIn n vneg vpos).gi (SUP_MEAS_VPOS n) = sat16 vpos ∧
    c.Beside [SUP_MEAS n] n (c.railsIn n vneg vpos) := by
  refine ⟨?_, Chan.gi_pi_pu16 (c.pi (SUP_MEAS_VNEG n) (sat16 vneg)) rfl rfl (sat16_range vpos), ?_⟩
  · have h : ((c.pi (SUP_MEAS_VNEG n) (sat16 vneg)).pi (SUP_MEAS_VPOS n) (sat16 vpos)).gi (SUP_MEAS_VNEG n) = (c.pi (SUP_MEAS_VNEG n) (sat16 vneg)).gi (SUP_MEAS_VNEG n) :=
      Chan.gi_p_other _ _ _ _ rfl rfl (by simp [Fld.apart, SUP_MEAS_VPOS, SUP_MEAS_VNEG])
    exact h.trans (Chan.gi_pi_pu16 c rfl rfl (sat16_range vneg))
  · have hp := ((Chan.Beside.refl [SUP_MEAS n] n c).p (f := SUP_MEAS_VNEG n) (v := toBits 16 (sat16 vneg)) List.mem_cons_self).p (f := SUP_MEAS_VPOS n)
      (v := toBits 16 (sat16 vpos)) List.mem_cons_self
    exact hp.onSl (fun x => { x with
      railsAt := if ((c.pi (SUP_MEAS_VNEG n) (sat16 vneg)).pi (SUP_MEAS_VPOS n) (sat16 vpos)).railsOk n then (if x.railsAt.isSome then x.railsAt else some c.now) else none })

/-- The temperatures placed in TEMP_MEAS. -/
def Chan.tempsPlaced (c : Chan) (n ts : Nat) (isl : Int) : Chan := (c.p (TEMP_MEAS_TS n) ts).pi (TEMP_MEAS_ISL_T n) (sat16 isl)

theorem tempsPlaced_shows (c : Chan) (n ts : Nat) (isl : Int) : (c.tempsPlaced n ts isl).g (TEMP_MEAS_TS n) = ts % 65536 ∧
    (c.tempsPlaced n ts isl).gi (TEMP_MEAS_ISL_T n) = sat16 isl ∧ c.Frame [TEMP_MEAS n] (c.tempsPlaced n ts isl) := by
  refine ⟨?_, Chan.gi_pi_pu16 (c.p (TEMP_MEAS_TS n) ts) rfl rfl (sat16_range isl), ?_⟩
  · have h : (c.tempsPlaced n ts isl).g (TEMP_MEAS_TS n) = (c.p (TEMP_MEAS_TS n) ts).g (TEMP_MEAS_TS n) :=
      Chan.g_p_other _ _ _ _ rfl rfl (by simp [Fld.apart, TEMP_MEAS_ISL_T, TEMP_MEAS_TS])
    exact h.trans (Chan.g_p_same c _ _ rfl)
  · exact frame_p (f := TEMP_MEAS_ISL_T n) (frame_p (f := TEMP_MEAS_TS n) (frame_refl _ c) List.mem_cons_self) List.mem_cons_self

theorem regs_cycSee (c : Chan) (n ts : Nat) (isl : Int) : (c.cycSee n ts isl).regs = c.regs := by
  rw [Chan.cycSee]
  split_ifs <;> rfl

/-- The slice's ratio lies below its limit (R229). -/
def Chan.tsHot (c : Chan) (n ts : Nat) : Bool := c.b (SL_CFG_USED n) && c.b (SL_CFG_TS_EN n) && Nat.blt (ts % 65536) (c.g (TS_CFG_LIM n))

/-- The temperatures placed and counted, before TS_OT is judged. -/
def Chan.tempsSeen (c : Chan) (n ts : Nat) (isl : Int) : Chan := (c.tempsPlaced n ts isl).cycSee n (ts % 65536) isl

theorem tempsSeen_rd (c : Chan) (n ts : Nat) (isl : Int) (a : Nat) : (c.tempsSeen n ts isl).rd a = (c.tempsPlaced n ts isl).rd a := by
  rw [Chan.rd, Chan.tempsSeen, regs_cycSee, Chan.rd]

theorem frame_tempsSeen (c : Chan) (n ts : Nat) (isl : Int) : c.Frame [TEMP_MEAS n] (c.tempsSeen n ts isl) := fun a ha =>
  (tempsSeen_rd c n ts isl a).trans ((tempsPlaced_shows c n ts isl).2.2 a ha)

theorem tempsSeen_shows (c : Chan) (n ts : Nat) (isl : Int) : (c.tempsSeen n ts isl).g (TEMP_MEAS_TS n) = ts % 65536 ∧ (c.tempsSeen n ts isl).gi (TEMP_MEAS_ISL_T n) = sat16 isl := by
  obtain ⟨ht, hi, -⟩ := tempsPlaced_shows c n ts isl
  have hf : (c.tempsPlaced n ts isl).Frame [] (c.tempsSeen n ts isl) := fun a _ => tempsSeen_rd c n ts isl a
  exact ⟨(hf.g List.not_mem_nil).trans ht, (hf.gi List.not_mem_nil).trans hi⟩

theorem tsHot_frame {l : List Nat} {c d : Chan} {n : Nat} (ts : Nat) (h : c.Frame l d) (hc : SL_CFG n ∉ l) (ht : TS_CFG n ∉ l) : d.tsHot n ts = c.tsHot n ts := by
  rw [Chan.tsHot, h.b (f := SL_CFG_USED n) hc, h.b (f := SL_CFG_TS_EN n) hc, h.g (f := TS_CFG_LIM n) ht, Chan.tsHot]

theorem tempsIn_eq (c : Chan) (n ts : Nat) (isl : Int) : c.tempsIn n ts isl = if (c.tempsSeen n ts isl).tsHot n ts then ((c.tempsSeen n ts isl).p (SL_FAULT_TS_OT n) 1).raiseBy TS_OT n
    else if (c.tempsSeen n ts isl).srcActive TS_OT then (c.tempsSeen n ts isl).clearBy TS_OT n else c.tempsSeen n ts isl := rfl

section
variable {c : Chan} {n ts : Nat} (isl : Int)

theorem tsHot_tempsSeen : (c.tempsSeen n ts isl).tsHot n ts = c.tsHot n ts :=
  tsHot_frame ts (frame_tempsSeen c n ts isl) (by simp only [SL_CFG, TEMP_MEAS, List.mem_singleton]; omega) (by simp only [TS_CFG, TEMP_MEAS, List.mem_singleton]; omega)

theorem tempMeas_ne : TEMP_MEAS n ≠ SL_SRC_STATUS ∧ TEMP_MEAS n ≠ SL_FAULT n := by
  rw [TEMP_MEAS, SL_SRC_STATUS, SL_FAULT]
  omega

/-- Temperatures that are not hot. -/
theorem tempsIn_cool (hh : c.tsHot n ts = false) : (c.tempsIn n ts isl).g (TEMP_MEAS_TS n) = ts % 65536 ∧ (c.tempsIn n ts isl).gi (TEMP_MEAS_ISL_T n) = sat16 isl ∧
    c.Frame [TEMP_MEAS n, SL_SRC_STATUS] (c.tempsIn n ts isl) := by
  obtain ⟨ht, hi⟩ := tempsSeen_shows c n ts isl
  have hf := frame_tempsSeen c n ts isl
  have he : (c.tempsSeen n ts isl).Eased (c.tempsIn n ts isl) := by
    rw [tempsIn_eq, if_neg (by rw [tsHot_tempsSeen isl, hh]; decide)]
    split_ifs
    · exact eased_clearBy _ n rfl
    · exact .refl _
  have hn : TEMP_MEAS n ∉ [SL_SRC_STATUS] := by simpa using tempMeas_ne.1
  exact ⟨(he.frame.g (f := TEMP_MEAS_TS n) hn).trans ht, (he.frame.gi (f := TEMP_MEAS_ISL_T n) hn).trans hi, frame_trans (frame_mono hf (by simp)) (frame_mono he.frame (by simp))⟩

theorem measRegs_calm (h8 : n < 8) : ∀ a ∈ [SUP_MEAS n, TEMP_MEAS n, VDS_MEAS n, SL_FAULT n], reactionRegs.contains a = false := by interval_cases n <;> decide

theorem measReg_not_mem (h8 : n < 8) {a : Nat} (ha : a ∈ [SUP_MEAS n, TEMP_MEAS n, VDS_MEAS n, SL_FAULT n]) : a ∉ reactionRegs := by simpa using measRegs_calm h8 a ha

/-- Hot ones raise TS_OT. -/
theorem tempsIn_hot (h8 : n < 8) (hh : c.tsHot n ts = true) (ho : c.state ≠ OFF) (ha : c.srcActive TS_OT = false) : (c.tempsIn n ts isl).g (TEMP_MEAS_TS n) = ts % 65536 ∧
    (c.tempsIn n ts isl).gi (TEMP_MEAS_ISL_T n) = sat16 isl ∧ (c.tempsIn n ts isl).b (SL_FAULT_TS_OT n) = true ∧ (c.tempsIn n ts isl).srcLatched TS_OT = true ∧
    c.Frame ([TEMP_MEAS n, SL_FAULT n] ++ reactionRegs) (c.tempsIn n ts isl) := by
  obtain ⟨ht, hi⟩ := tempsSeen_shows c n ts isl
  have hp : (c.tempsSeen n ts isl).Frame [SL_FAULT n] ((c.tempsSeen n ts isl).p (SL_FAULT_TS_OT n) 1) := frame_p (f := SL_FAULT_TS_OT n) (frame_refl _ _) List.mem_cons_self
  have hf : c.Frame [TEMP_MEAS n, SL_FAULT n] ((c.tempsSeen n ts isl).p (SL_FAULT_TS_OT n) 1) := frame_trans (frame_mono (frame_tempsSeen c n ts isl) (by simp)) (frame_mono hp (by simp))
  have hr := frame_reacts (reacts_raiseBy ((c.tempsSeen n ts isl).p (SL_FAULT_TS_OT n) 1) TS_OT n)
  have hn : TEMP_MEAS n ∉ [SL_FAULT n] := by simpa using tempMeas_ne.2
  have hm : TEMP_MEAS n ∉ reactionRegs := measReg_not_mem h8 (by simp)
  have hs : SL_FAULT n ∉ reactionRegs := measReg_not_mem h8 (by simp)
  have out (a : Nat) (h : a < 0x7018 ∨ 0x7800 ≤ a) : a ∉ [TEMP_MEAS n, SL_FAULT n] := by
    simp only [TEMP_MEAS, SL_FAULT, List.mem_cons, List.not_mem_nil, or_false]
    omega
  rw [tempsIn_eq, if_pos ((tsHot_tempsSeen isl).trans hh)]
  refine ⟨(hr.g (f := TEMP_MEAS_TS n) hm).trans ((hp.g (f := TEMP_MEAS_TS n) hn).trans ht), (hr.gi (f := TEMP_MEAS_ISL_T n) hm).trans ((hp.gi (f := TEMP_MEAS_ISL_T n) hn).trans hi),
    (hr.b (f := SL_FAULT_TS_OT n) hs).trans (Chan.b_p_one _ _ rfl), ?_, frame_trans (frame_mono hf (by simp)) (frame_mono hr (fun _ h => List.mem_append_right _ h))⟩
  exact raiseBy_latched n (by decide) (by rwa [hf.state (out _ (by decide))]) (by rwa [hf.srcActive (s := TS_OT) (out SL_SRC_STATUS (by decide))])
end

/-! ### The off-state voltage (R129, R225, R246, R270) -/

/-- What a report may set off: the registers of a list and of the reaction, of the slices what the reaction may change. -/
structure Chan.Ripples (l : List Nat) (c d : Chan) : Prop where
  frame : c.Frame (l ++ reactionRegs) d
  slices : c.SlicesKept d

namespace Chan.Ripples
variable {l : List Nat} {q : Bool} {c d e : Chan}

theorem refl (l : List Nat) (c : Chan) : c.Ripples l c := ⟨frame_refl _ c, fun _ => rfl⟩
theorem react (h : c.Ripples l d) (k : d.Reacts q e) : c.Ripples l e := ⟨frame_trans h.frame (frame_mono (frame_reacts k) (fun _ h => List.mem_append_right _ h)), slicesKept_trans h.slices k.slices⟩
theorem wr (h : c.Ripples l d) {a v : Nat} (ha : a ∈ l) : c.Ripples l (d.wr a v) := ⟨frame_wr h.frame (List.mem_append_left _ ha), h.slices⟩
theorem p (h : c.Ripples l d) {f : Fld} {v : Nat} (ha : f.reg ∈ l) : c.Ripples l (d.p f v) := h.wr ha
theorem onDust (h : c.Ripples l d) (f : Dust → Dust) : c.Ripples l (d.onDust f) := ⟨h.frame, h.slices⟩
theorem onXchk (h : c.Ripples l d) (f : Xchk → Xchk) : c.Ripples l (d.onXchk f) := ⟨h.frame, h.slices⟩

theorem pb (h : c.Ripples l d) {f : Fld} {i : Nat} {v : Bool} (ha : f.reg ∈ l) : c.Ripples l (d.pb f i v) := h.wr ha
theorem ite {b : Prop} [Decidable b] (h : c.Ripples l d) (k : c.Ripples l e) : c.Ripples l (if b then d else e) := by split_ifs <;> [exact h; exact k]

theorem legSet (h : c.Ripples l d) (hl : LEG_HEALTH ∈ l) (high : Bool) (leg : Nat) {origin : Fld} (ho : origin.reg = LEG_HEALTH) : c.Ripples l (d.legSet high leg origin) := by
  have hf : (if high then LEG_HEALTH_FS_H else LEG_HEALTH_FS_L).reg = LEG_HEALTH := by cases high <;> rfl
  have hr (x : Chan) : x.Reacts true (x.p DUST_IRQ_STATUS_LEG_CHANGE 1).reselect.transCheck :=
    react_transCheck (react_reselect (react_p (react_refl _) (by decide) (by decide) (by decide)))
  rw [Chan.legSet]
  generalize (if high then LEG_HEALTH_FS_H else LEG_HEALTH_FS_L) = f at hf ⊢
  exact ite h (((h.pb (hf ▸ hl)).pb (ho ▸ hl)).react (hr _))

theorem offMonitor (h : c.Ripples l d) (hl : LEG_HEALTH ∈ l) (n : Nat) (v : Int) : c.Ripples l (d.offMonitor n v) := by
  rw [Chan.offMonitor]
  refine ite ?_ h
  split
  · exact h
  · exact ite (ite (((h.onDust _).legSet hl _ _ rfl).react (react_pulse (q := true) (react_refl _))) (h.onDust _)) (h.onDust _)

theorem dclCompare (h : c.Ripples l d) (v p : Int) : c.Ripples l (d.dclCompare v p) := by
  rw [Chan.dclCompare]
  exact ite ((h.onXchk _).react (react_raise (q := true) (react_refl _))) (ite ((h.onXchk _).react (react_clear (q := true) (react_refl _))) (h.onXchk _))

theorem dclReport (h : c.Ripples l d) (hl : DCL_ALT ∈ l) (leg : Nat) (v : Int) : c.Ripples l (d.dclReport leg v) := by
  have h1 := ((h.wr (v := 2 ^ 31 + leg * 2 ^ 29 + toBits 16 v) hl).react (react_clear (q := true) (s := DCL_STALE) (react_refl _))).onXchk (fun x => { x with altAt := d.now })
  rw [Chan.dclReport]
  split
  · exact h1.onXchk _
  · exact h1.dclCompare _ _

theorem chopShort (h : c.Ripples l d) (v : Int) : c.Ripples l (d.chopShort v) := by
  rw [Chan.chopShort]
  refine ite h ?_
  split
  · exact h
  · exact h.react (react_follow (q := true) (react_refl _))
end Chan.Ripples

/-- The report placed in VDS_MEAS. -/
def Chan.vdsPlaced (c : Chan) (n : Nat) (v : Int) : Chan := (c.p (VDS_MEAS_VALID n) 1).pi (VDS_MEAS_VALUE n) (vdsPu v c.bases.v)

/-- The registers that a report may change beside those of the reaction. -/
def vdsRegs (n : Nat) : List Nat := [VDS_MEAS n, DCL_ALT, LEG_HEALTH]

theorem vdsPlaced_shows (c : Chan) (n : Nat) (v : Int) : (c.vdsPlaced n v).gi (VDS_MEAS_VALUE n) = vdsPu v c.bases.v ∧ (c.vdsPlaced n v).b (VDS_MEAS_VALID n) = true ∧
    c.Ripples [VDS_MEAS n] (c.vdsPlaced n v) := by
  refine ⟨Chan.gi_pi_pu16 (c.p (VDS_MEAS_VALID n) 1) rfl rfl (vdsPu_range v _), ?_, ?_⟩
  · have h : (c.vdsPlaced n v).b (VDS_MEAS_VALID n) = (c.p (VDS_MEAS_VALID n) 1).b (VDS_MEAS_VALID n) :=
      Chan.b_p_other _ _ _ _ rfl rfl (by simp [Fld.apart, VDS_MEAS_VALUE, VDS_MEAS_VALID])
    exact h.trans (Chan.b_p_one _ _ rfl)
  · exact ((Chan.Ripples.refl [VDS_MEAS n] c).p (f := VDS_MEAS_VALID n) List.mem_cons_self).p (f := VDS_MEAS_VALUE n) List.mem_cons_self

/-- What a report is judged for leaves VDS_MEAS. -/
theorem vdsIn_ripples (c : Chan) (n : Nat) (v : Int) : (c.vdsPlaced n v).Ripples [DCL_ALT, LEG_HEALTH] (c.vdsIn n v) := by
  have hr := Chan.Ripples.refl [DCL_ALT, LEG_HEALTH] (c.vdsPlaced n v)
  have ho := hr.offMonitor (by simp) n (vdsPu v c.bases.v)
  exact .ite (.ite (ho.dclReport (by simp) _ _) ho) (.ite (hr.chopShort _) hr)

theorem vdsIn_shows (c : Chan) {n : Nat} (v : Int) (h8 : n < 8) : (c.vdsIn n v).gi (VDS_MEAS_VALUE n) = vdsPu v c.bases.v ∧ (c.vdsIn n v).b (VDS_MEAS_VALID n) = true ∧
    c.Frame (vdsRegs n ++ reactionRegs) (c.vdsIn n v) ∧ c.SlicesKept (c.vdsIn n v) := by
  obtain ⟨hv, hb, hp⟩ := vdsPlaced_shows c n v
  have hr := vdsIn_ripples c n v
  have hn : VDS_MEAS n ∉ [DCL_ALT, LEG_HEALTH] ++ reactionRegs := by
    have hm := measReg_not_mem h8 (a := VDS_MEAS n) (by simp)
    simp only [List.mem_append, List.mem_cons, List.not_mem_nil, or_false, hm]
    rw [VDS_MEAS, DCL_ALT, LEG_HEALTH]
    omega
  exact ⟨(hr.frame.gi (f := VDS_MEAS_VALUE n) hn).trans hv, (hr.frame.b (f := VDS_MEAS_VALID n) hn).trans hb,
    frame_trans (frame_mono hp.frame (by simp +contextual [vdsRegs])) (frame_mono hr.frame (by simp +contextual [vdsRegs])), slicesKept_trans hp.slices hr.slices⟩

/-! ### The obligation -/

/-- What a slice whose island is unpowered reports. -/
theorem not_linked {c : Chan} {n : Nat} (h8 : n < 8) (h : (c.sl n).power = false) : (!c.linked n) = true := by rw [c.linked_eq h8, h]; rfl

theorem linked_of_power {c : Chan} {n : Nat} (h8 : n < 8) (h : (c.sl n).power = true) : c.linked n = true := by rw [c.linked_eq h8, h]

theorem doSliceTelemetryFrame_linked {c : Chan} {n : Nat} (m : Telem) (h : c.linked n = true) : doSliceTelemetryFrame n m c = match m with
    | .rails vneg vpos => (c.frameFrom n 4 0 none).railsIn n vneg vpos
    | .temps ts isl => (c.frameFrom n 4 0 none).tempsIn n ts isl
    | .vds v => (c.frameFrom n 4 0 none).vdsIn n v := by
  rw [doSliceTelemetryFrame, h]
  cases m <;> rfl

/-- Settles O30: each measurement by the lemma about its placing, a frame by `heard_frameFrom` before it. -/
theorem sliceMeasurements : Obligations.SliceMeasurements := by
  intro s t ch n vneg vpos isl v ts c x quiet hot temps rails ho h8
  have acts {i : Instr} {f : Chan → Chan} {P : Chan → Prop} (he : exec i s = s.live t ch f) (h : P (f c)) : ActsOn i s t ch P := actsOn_live (c := c) rfl he ho h
  have heard (hp : x.power = true) (hq : quiet) : c.Heard n (some ⟨4, x.seqFrom, 0, none⟩) (c.frameFrom n 4 0 none) := heard_frameFrom 4 0 none (lt_length_of_power hp) h8 hq
  obtain ⟨hr1, hr2, hrb⟩ := railsIn_shows c n vneg vpos
  have hsup : SUP_MEAS n ∉ [TEMP_MEAS n, SL_SRC_STATUS] := by
    simp only [SUP_MEAS, TEMP_MEAS, SL_SRC_STATUS, List.mem_cons, List.not_mem_nil, or_false]
    omega
  have hhot : (c.railsIn n vneg vpos).tsHot n ts = hot := tsHot_frame ts hrb.frame (by simp only [SL_CFG, SUP_MEAS, List.mem_singleton]; omega) (by simp only [TS_CFG, SUP_MEAS, List.mem_singleton]; omega)
  refine ⟨?hot, ?cool, ?railFrame, ?tempFrame, ?vdsFrame, ?vds, ?vdsNot, ?dead⟩
  case hot =>
    intro hp hh ha
    have hsu : SUP_MEAS n ∉ [TEMP_MEAS n, SL_FAULT n] ++ reactionRegs := by
      have hm := measReg_not_mem h8 (a := SUP_MEAS n) (by simp)
      simp only [List.mem_append, List.mem_cons, List.not_mem_nil, or_false, hm]
      rw [SUP_MEAS, TEMP_MEAS, SL_FAULT]
      omega
    obtain ⟨ht, hi, hb, hl, hf⟩ := tempsIn_hot (c := c.railsIn n vneg vpos) isl h8 (hhot.trans hh)
      (by rwa [hrb.frame.state (by simp only [SUP_MEAS, CH_STATE, List.mem_singleton]; omega)])
      (by rwa [hrb.frame.srcActive (s := TS_OT) (show SL_SRC_STATUS ∉ _ by simp only [SUP_MEAS, SL_SRC_STATUS, List.mem_singleton]; omega)])
    refine acts rfl ?_
    rw [doSliceSupplyMeasure, linked_of_power h8 hp, if_pos rfl]
    exact ⟨⟨(hf.gi (f := SUP_MEAS_VNEG n) hsu).trans hr1, (hf.gi (f := SUP_MEAS_VPOS n) hsu).trans hr2⟩, ⟨ht, hi⟩, hb, hl,
      frame_trans (frame_mono hrb.frame (by simp)) (frame_mono hf (by simp +contextual))⟩
  case cool =>
    intro hp hh
    obtain ⟨ht, hi, hf⟩ := tempsIn_cool (c := c.railsIn n vneg vpos) isl (hhot.trans hh)
    refine acts rfl ?_
    rw [doSliceSupplyMeasure, linked_of_power h8 hp, if_pos rfl]
    exact ⟨⟨(hf.gi (f := SUP_MEAS_VNEG n) hsup).trans hr1, (hf.gi (f := SUP_MEAS_VPOS n) hsup).trans hr2⟩, ⟨ht, hi⟩,
      frame_trans (frame_mono hrb.frame (by simp)) (frame_mono hf (by simp))⟩
  case railFrame =>
    intro hp hq
    have hh := heard hp hq
    obtain ⟨h1, h2, hb⟩ := railsIn_shows (c.frameFrom n 4 0 none) n vneg vpos
    have hst : SL_STATUS n ∉ [SUP_MEAS n] := by simp only [SL_STATUS, SUP_MEAS, List.mem_singleton]; omega
    refine acts rfl ?_
    rw [doSliceTelemetryFrame_linked _ (linked_of_power h8 hp)]
    exact ⟨⟨h1, h2⟩, (hb.frame.b (f := SL_STATUS_LINK_OK n) hst).trans hh.linkOk, frame_trans (frame_mono hh.beside.frame (by simp [heardRegs])) (frame_mono hb.frame (by simp))⟩
  case tempFrame =>
    intro hp hq hn
    have hh := heard hp hq
    have hcool : (c.frameFrom n 4 0 none).tsHot n ts = false :=
      (tsHot_frame ts hh.beside.frame (by simp only [heardRegs, SL_CFG, SL_STATUS, SL_SRC_STATUS, List.mem_cons, List.not_mem_nil, or_false]; omega)
        (by simp only [heardRegs, TS_CFG, SL_STATUS, SL_SRC_STATUS, List.mem_cons, List.not_mem_nil, or_false]; omega)).trans hn
    obtain ⟨ht, hi, hf⟩ := tempsIn_cool isl hcool
    have hst : SL_STATUS n ∉ [TEMP_MEAS n, SL_SRC_STATUS] := by
      simp only [SL_STATUS, TEMP_MEAS, SL_SRC_STATUS, List.mem_cons, List.not_mem_nil, or_false]
      omega
    refine acts rfl ?_
    rw [doSliceTelemetryFrame_linked _ (linked_of_power h8 hp)]
    exact ⟨⟨ht, hi⟩, (hf.b (f := SL_STATUS_LINK_OK n) hst).trans hh.linkOk, frame_trans (frame_mono hh.beside.frame (by simp [heardRegs])) (frame_mono hf (by simp))⟩
  case vdsFrame =>
    intro hp hq
    have hh := heard hp hq
    obtain ⟨hv, hb, hf, -⟩ := vdsIn_shows (c.frameFrom n 4 0 none) v h8
    rw [hh.beside.bases] at hv
    refine acts rfl ?_
    rw [doSliceTelemetryFrame_linked _ (linked_of_power h8 hp)]
    refine ⟨hv, hb, frame_trans (frame_mono hh.beside.frame fun a ha => ?_) hf⟩
    have hs : SL_STATUS n ∈ reactionRegs := List.elem_iff.1 (own_contains _ (slice_own h8))
    have hsrc : SL_SRC_STATUS ∈ reactionRegs := List.elem_iff.1 (source_contains 7 _ (by decide))
    simp only [heardRegs, List.mem_cons, List.not_mem_nil, or_false] at ha
    rcases ha with rfl | rfl
    · exact List.mem_append_right _ hs
    · exact List.mem_append_right _ hsrc
  case vds =>
    intro hp hm
    obtain ⟨hv, hb, hf, hk⟩ := vdsIn_shows (c.onSl n (fun x => { x with vdsRef := some v })) v h8
    refine acts rfl ?_
    rw [doSliceVdsMeasure, if_neg (by rw [linked_of_power h8 hp, hm]; decide)]
    refine ⟨hv, hb, fun _ => ?_, hf⟩
    have hs := congrArg SliceSt.vdsRef (hk n)
    rwa [sl_onSl_same (lt_length_of_power hp)] at hs
  case vdsNot =>
    intro h
    refine acts rfl (if_pos ?_)
    rcases h with h | h
    · exact .inl (not_linked h8 h)
    · exact .inr (by rw [h]; rfl)
  case dead =>
    intro h
    exact ⟨acts rfl (if_neg (by rw [c.linked_eq h8]; exact ne_true_of_eq_false h)), fun m => acts rfl (if_pos (not_linked h8 h))⟩

end Sys2Proof.Machine
end

section
/-! PROOFS. Frames from a slice (R206, R207, R209, R222, R223, R228): O32. -/

namespace Sys2Proof.Machine
open Sys2Proof

/-! ### The check value of a frame (R206, R320) -/

theorem shiftUp_lt (p : Poly) (r : Nat) (h : p.poly < 2 ^ p.width) : p.shiftUp r < 2 ^ p.width := by
  have hm : 2 * r % 2 ^ p.width < 2 ^ p.width := Nat.mod_lt _ (Nat.two_pow_pos _)
  rw [Poly.shiftUp]
  split_ifs
  · exact Nat.xor_lt_two_pow hm h
  · exact hm

/-- A byte fed leaves a register of the polynomial's width. -/
theorem byte_lt (p : Poly) (r b : Nat) (hr : p.refl = false) (h : p.poly < 2 ^ p.width) : p.byte r b < 2 ^ p.width := by
  rw [Poly.byte, hr, if_neg (by decide), show List.range 8 = List.range 7 ++ [7] from rfl, List.foldl_append]
  exact shiftUp_lt p _ h

theorem feed_lt (p : Poly) (hr : p.refl = false) (h : p.poly < 2 ^ p.width) (bs : List Nat) : ∀ r < 2 ^ p.width, p.feed r bs < 2 ^ p.width := by
  induction bs with
  | nil => exact fun r hr => hr
  | cons b bs ih => exact fun r _ => ih _ (byte_lt p r b hr h)

theorem crc16_lt (bs : List Nat) : crc16.of bs < 65536 := Nat.xor_lt_two_pow (n := 16) (feed_lt crc16 rfl (by decide) bs _ (by decide)) (by decide)

/-- The bits 63:16 do not see the check value below them. -/
theorem slBytes_add {w r : Nat} (hw : w % 65536 = 0) (hr : r < 65536) : slBytes (w + r) = slBytes w := by
  have hq : (w + r) / 2 ^ 16 = w / 2 ^ 16 := by omega
  refine List.map_congr_left fun k hk => ?_
  have hk6 := List.mem_range.1 hk
  rw [show 56 - 8 * k = 16 + (40 - 8 * k) by omega, Nat.pow_add, ← Nat.div_div_eq_div_mul, hq, Nat.div_div_eq_div_mul]

/-- A frame formed for a type that both directions know is valid. -/
theorem slFrameWord_ok (fromSlice : Bool) (seq addr data : Nat) {type : Nat} (ht : type < 4) : slFrameOk fromSlice (slFrameWord type seq addr data) = true := by
  obtain ⟨w, hw⟩ : ∃ w, w = 0xB5 * 2 ^ 64 + type % 16 * 2 ^ 60 + seq % 16 * 2 ^ 56 + addr % 256 * 2 ^ 48 + data % 2 ^ 32 * 2 ^ 16 := ⟨_, rfl⟩
  have hc := crc16_lt (slBytes w)
  have hf : slFrameWord type seq addr data = w + crc16.of (slBytes w) := by rw [hw]; rfl
  have hb : slBytes (w + crc16.of (slBytes w)) = slBytes w := slBytes_add (by omega) hc
  rw [hf, slFrameOk, hb]
  generalize crc16.of (slBytes w) = r at hc
  have hsync : (w + r) / 2 ^ 64 = 0xB5 := by omega
  have htype : (w + r) / 2 ^ 60 % 16 ≤ if fromSlice then 5 else 3 := by split_ifs <;> omega
  have hcrc : (w + r) % 65536 = r := by omega
  rw [hsync, hcrc, Nat.ble_eq_true_of_le htype]
  simp

/-! ### The registers of a slice's window -/

/-- The link's registers are those of the reaction. -/
theorem heardRegs_reaction {n : Nat} (h8 : n < 8) : ∀ a ∈ heardRegs n, a ∈ reactionRegs := by
  have hs : SL_STATUS n ∈ reactionRegs := List.elem_iff.1 (own_contains _ (slice_own h8))
  have hsrc : SL_SRC_STATUS ∈ reactionRegs := List.elem_iff.1 (source_contains 7 _ (by decide))
  simp [heardRegs, hs, hsrc]

theorem fthRegs_calm {n : Nat} (h8 : n < 8) : ∀ a ∈ [FTH_ON n, FTH_OFF n, FTH_STAT n, LINK_STAT n], reactionRegs.contains a = false := by interval_cases n <;> decide

/-- A configuration register is none of the link's. -/
theorem cfgRegs_not_heard {n reg : Nat} (h8 : n < 8) (h : (cfgRegs n).contains reg = true) : reg ∉ heardRegs n := by
  have hk : ∀ a ∈ cfgRegs n, a ∉ heardRegs n := by interval_cases n <;> decide
  exact hk reg (List.elem_iff.1 h)

theorem Chan.Frame.cfgWord {l : List Nat} {c d : Chan} (h : c.Frame l d) {reg : Nat} (hr : reg ∉ l) : d.cfgWord reg = c.cfgWord reg := by rw [Chan.cfgWord, h reg hr, Chan.cfgWord]

/-! ### Segment counts shown (R223, R228) -/

/-- The segment counts in SL_STATUS. -/
def Chan.segsShown (c : Chan) (n a b : Nat) : Chan := (c.p (SL_STATUS_SEG_ON n) a).p (SL_STATUS_SEG_OFF n) b

theorem segsShown_shows (c : Chan) (n a b : Nat) : (c.segsShown n a b).g (SL_STATUS_SEG_ON n) = a % 16 ∧ (c.segsShown n a b).g (SL_STATUS_SEG_OFF n) = b % 16 ∧
    (c.segsShown n a b).b (SL_STATUS_LINK_OK n) = c.b (SL_STATUS_LINK_OK n) ∧ c.Beside [SL_STATUS n] n (c.segsShown n a b) := by
  refine ⟨?_, Chan.g_p_same _ _ _ rfl, ?_, ((Chan.Beside.refl [SL_STATUS n] n c).p (f := SL_STATUS_SEG_ON n) List.mem_cons_self).p (f := SL_STATUS_SEG_OFF n) List.mem_cons_self⟩
  · rw [Chan.segsShown, Chan.g_p_other _ _ _ _ rfl rfl (by simp [Fld.apart, SL_STATUS_SEG_ON, SL_STATUS_SEG_OFF]), Chan.g_p_same _ _ _ rfl]
    rfl
  · rw [Chan.segsShown, Chan.b_p_other _ _ _ _ rfl rfl (by simp [Fld.apart, SL_STATUS_LINK_OK, SL_STATUS_SEG_OFF]),
      Chan.b_p_other _ _ _ _ rfl rfl (by simp [Fld.apart, SL_STATUS_LINK_OK, SL_STATUS_SEG_ON])]

theorem sl_segsShown (c : Chan) (n a b k : Nat) : (c.segsShown n a b).sl k = c.sl k := by rw [Chan.segsShown, Chan.sl_p, Chan.sl_p]

/-! ### A valid frame, and what it brings -/

/-- What every valid frame shows: its sequence number, the link valid, no other slice touched. -/
structure Chan.FromSlice (l : List Nat) (n : Nat) (c d : Chan) : Prop where
  beside : c.Beside l n d
  seqFrom : (d.sl n).seqFrom = ((c.sl n).seqFrom + 1) % 16
  linkOk : d.b (SL_STATUS_LINK_OK n) = true

theorem Chan.Heard.fromSlice {n : Nat} {sent : Option SlFrame} {c d : Chan} (h : c.Heard n sent d) : c.FromSlice (heardRegs n) n d := ⟨h.beside, by rw [h.sl], h.linkOk⟩

namespace Chan.FromSlice
variable {l : List Nat} {n : Nat} {c d e : Chan} (h : c.FromSlice l n d)
include h

/-- A change of the slice that keeps its sequence number. -/
theorem onSl (hn : n < c.slices.length) {f : SliceSt → SliceSt} (hf : (f (d.sl n)).seqFrom = (d.sl n).seqFrom) : c.FromSlice l n (d.onSl n f) :=
  ⟨h.beside.onSl f, by rw [sl_onSl_same (by rwa [h.beside.length]), hf, h.seqFrom], h.linkOk⟩

/-- A write of a register that is not SL_STATUS. -/
theorem wr {a v : Nat} (ha : a ∈ l) (hs : a ≠ SL_STATUS n) : c.FromSlice l n (d.wr a v) := by
  refine ⟨h.beside.wr ha, h.seqFrom, ?_⟩
  have hf : d.Frame [a] (d.wr a v) := frame_wr (frame_refl _ d) List.mem_cons_self
  exact (hf.b (f := SL_STATUS_LINK_OK n) (show SL_STATUS n ∉ [a] by simpa using hs.symm)).trans h.linkOk

theorem p {f : Fld} {v : Nat} (ha : f.reg ∈ l) (hs : f.reg ≠ SL_STATUS n) : c.FromSlice l n (d.p f v) := h.wr ha hs

theorem segsShown (hl : SL_STATUS n ∈ l) (a b : Nat) : c.FromSlice l n (d.segsShown n a b) := by
  obtain ⟨-, -, hk, hb⟩ := segsShown_shows d n a b
  exact ⟨h.beside.trans (hb.mono (by simpa using hl)), by rw [sl_segsShown, h.seqFrom], hk.trans h.linkOk⟩

theorem eased (k : d.Eased e) (hl : SL_SRC_STATUS ∈ l) (h8 : n < 8) : c.FromSlice l n e :=
  ⟨h.beside.eased k hl, by rw [k.sl, h.seqFrom], (k.frame.b (f := SL_STATUS_LINK_OK n) (show SL_STATUS n ∉ [SL_SRC_STATUS] by simpa using slStatus_ne_slSrc n h8)).trans h.linkOk⟩

theorem mono {k : List Nat} (hl : ∀ a ∈ l, a ∈ k) : c.FromSlice k n d := ⟨h.beside.mono hl, h.seqFrom, h.linkOk⟩
end Chan.FromSlice

/-! ### An edge report (R223, R228) -/

/-- The word of a report in FTH_ON or FTH_OFF. -/
def SlReport.word (r : SlReport) : Nat := 2 ^ 31 + b2n r.noTrans * 2 ^ 30 + b2n r.frozen * 2 ^ 29 + r.seg * 2 ^ 24 + r.tDly * 2 ^ 12 + r.tSw

/-- The register of a report's direction. -/
def SlReport.reg (r : SlReport) (n : Nat) : Nat := if r.on then FTH_ON n else FTH_OFF n

/-- The count of its direction. -/
def SlReport.lims (r : SlReport) (n : Nat) : Fld := if r.on then FTH_STAT_LIM_ON n else FTH_STAT_LIM_OFF n

/-- A report taken from the slice and placed, before the counts. -/
def Chan.reportIn (c : Chan) (n : Nat) (r : SlReport) (rs : List SlReport) : Chan :=
  let d := (c.onSl n (fun x => { x with reports := rs })).wr (r.reg n) r.word
  (if r.frozen then d.satInc (FTH_STAT_FROZEN n) else d).p (r.lims n) (min 255 r.lim)

/-- The same with the counts shown. -/
def Chan.reported (c : Chan) (n : Nat) (r : SlReport) (rs : List SlReport) : Chan :=
  (c.reportIn n r rs).segsShown n ((c.reportIn n r rs).sl n).segOn ((c.reportIn n r rs).sl n).segOff

/-- The registers of a report. -/
def reportRegs (n : Nat) : List Nat := [FTH_ON n, FTH_OFF n, FTH_STAT n] ++ heardRegs n

/-- FTH_LIMIT follows the count of edges at a limit. -/
def Chan.limitSource (c : Chan) (n lim : Nat) : Chan :=
  if 64 ≤ lim then c.raiseBy FTH_LIMIT n else if lim = 0 ∧ c.srcActive FTH_LIMIT then c.clearBy FTH_LIMIT n else c

/-- The oldest report of slice `n` taken and judged. -/
def Chan.takeReport (c : Chan) (n : Nat) : Chan :=
  match (c.sl n).reports with
  | [] => c
  | r :: rs => (c.reported n r rs).limitSource n r.lim

theorem doSliceEdgeReportFrame_linked {c : Chan} {n : Nat} (h : c.linked n = true) : ∃ a, doSliceEdgeReportFrame n c = (c.frameFrom n 3 a none).takeReport n :=
  ⟨_, if_neg (by rw [h]; decide)⟩

theorem takeReport_none {c : Chan} {n : Nat} (h : (c.sl n).reports = []) : c.takeReport n = c := by rw [Chan.takeReport, h]
theorem takeReport_some {c : Chan} {n : Nat} {r : SlReport} {rs : List SlReport} (h : (c.sl n).reports = r :: rs) : c.takeReport n = (c.reported n r rs).limitSource n r.lim := by
  rw [Chan.takeReport, h]

theorem eased_limitSource (c : Chan) (n : Nat) {lim : Nat} (h : lim < 64) : c.Eased (c.limitSource n lim) := by
  rw [Chan.limitSource, if_neg (by omega)]
  split_ifs
  · exact eased_clearBy c n rfl
  · exact .refl c

theorem reportReg_ne (r : SlReport) (n : Nat) : r.reg n ≠ FTH_STAT n ∧ r.reg n ≠ SL_STATUS n ∧ r.reg n ≠ SL_SRC_STATUS ∧ r.reg n ∈ [FTH_ON n, FTH_OFF n, FTH_STAT n] := by
  rw [SlReport.reg]
  split_ifs
  · refine ⟨?_, ?_, ?_, by simp⟩
    all_goals
      simp only [FTH_ON, FTH_STAT, SL_STATUS, SL_SRC_STATUS]
      omega
  · refine ⟨?_, ?_, ?_, by simp⟩
    all_goals
      simp only [FTH_OFF, FTH_STAT, SL_STATUS, SL_SRC_STATUS]
      omega

theorem reportLims (r : SlReport) (n : Nat) : (r.lims n).reg = FTH_STAT n ∧ (r.lims n).ok = true ∧ (r.lims n).hi + 1 - (r.lims n).lo = 8 := by
  rw [SlReport.lims]
  split_ifs <;> exact ⟨rfl, rfl, rfl⟩

theorem fthStat_ne (n : Nat) : FTH_STAT n ≠ SL_STATUS n := by
  rw [FTH_STAT, SL_STATUS]
  omega

section
variable {c d : Chan} {n : Nat} (r : SlReport) (rs : List SlReport) (h : c.FromSlice (heardRegs n) n d) (hn : n < c.slices.length)
include h hn

/-- The report is placed, its direction's count with it. -/
theorem reportIn_shows : c.FromSlice (reportRegs n) n (d.reportIn n r rs) ∧ (d.reportIn n r rs).sl n = { d.sl n with reports := rs } ∧
    (d.reportIn n r rs).rd (r.reg n) = r.word % 2 ^ 32 ∧ (d.reportIn n r rs).g (r.lims n) = min 255 r.lim := by
  obtain ⟨hr1, hr2, -, hr4⟩ := reportReg_ne r n
  obtain ⟨hreg, hok, hw⟩ := reportLims r n
  have hm {a : Nat} (ha : a ∈ [FTH_ON n, FTH_OFF n, FTH_STAT n]) : a ∈ reportRegs n := List.mem_append_left _ ha
  have h1 := ((h.mono (k := reportRegs n) (fun a ha => List.mem_append_right _ ha)).onSl hn (f := fun x => { x with reports := rs }) rfl).wr (v := r.word) (hm hr4) hr2
  obtain ⟨e, he, hb, hs, hf⟩ : ∃ e, e = (if r.frozen then ((d.onSl n (fun x => { x with reports := rs })).wr (r.reg n) r.word).satInc (FTH_STAT_FROZEN n)
      else (d.onSl n (fun x => { x with reports := rs })).wr (r.reg n) r.word) ∧ c.FromSlice (reportRegs n) n e ∧ e.sl n = { d.sl n with reports := rs } ∧
      ((d.onSl n (fun x => { x with reports := rs })).wr (r.reg n) r.word).Frame [FTH_STAT n] e := by
    have hsl : ((d.onSl n (fun x => { x with reports := rs })).wr (r.reg n) r.word).sl n = { d.sl n with reports := rs } := by
      rw [Chan.sl_wr, sl_onSl_same (by rwa [h.beside.length])]
    refine ⟨_, rfl, ?_⟩
    split_ifs
    · exact ⟨h1.p (f := FTH_STAT_FROZEN n) (hm (show FTH_STAT n ∈ _ by simp)) (fthStat_ne n), by rw [Chan.sl_satInc, hsl], frame_p (f := FTH_STAT_FROZEN n) (frame_refl _ _) List.mem_cons_self⟩
    · exact ⟨h1, hsl, frame_refl _ _⟩
  have hp : d.reportIn n r rs = e.p (r.lims n) (min 255 r.lim) := by rw [he]; rfl
  rw [hp]
  refine ⟨hb.p (f := r.lims n) (hreg ▸ hm (by simp)) (hreg ▸ fthStat_ne n), by rw [Chan.sl_p, hs], ?_, ?_⟩
  · rw [Chan.rd_p_other _ _ _ _ (hreg ▸ hr1), hf _ (by simpa using hr1), Chan.rd_wr_same]
  · rw [Chan.g_p_same _ _ _ hok, hw]
    exact Nat.mod_eq_of_lt (by omega)

/-- The same once the segment counts are shown. -/
theorem reported_shows : c.FromSlice (reportRegs n) n (d.reported n r rs) ∧ (d.reported n r rs).sl n = { d.sl n with reports := rs } ∧
    (d.reported n r rs).rd (r.reg n) = r.word % 2 ^ 32 ∧ (d.reported n r rs).g (r.lims n) = min 255 r.lim ∧ (d.reported n r rs).g (SL_STATUS_SEG_ON n) = (d.sl n).segOn % 16 := by
  obtain ⟨hb, hs, hrd, hg⟩ := reportIn_shows r rs h hn
  obtain ⟨-, hr2, -, -⟩ := reportReg_ne r n
  obtain ⟨hreg, -, -⟩ := reportLims r n
  have hf := (segsShown_shows (d.reportIn n r rs) n ((d.reportIn n r rs).sl n).segOn ((d.reportIn n r rs).sl n).segOff)
  refine ⟨hb.segsShown (by simp [reportRegs, heardRegs]) _ _, by rw [Chan.reported, sl_segsShown, hs], ?_, ?_, ?_⟩
  · rw [Chan.reported, hf.2.2.2.frame _ (by simpa using hr2), hrd]
  · rw [Chan.reported, hf.2.2.2.frame.g (by rw [hreg]; simpa using fthStat_ne n), hg]
  · rw [Chan.reported, hf.1, hs]
end

/-- A report writes only its registers and SL_STATUS. -/
theorem frame_reported (c : Chan) (n : Nat) (r : SlReport) (rs : List SlReport) : c.Frame [FTH_ON n, FTH_OFF n, FTH_STAT n, SL_STATUS n] (c.reported n r rs) := by
  obtain ⟨-, -, -, hr4⟩ := reportReg_ne r n
  obtain ⟨hreg, -, -⟩ := reportLims r n
  have h1 : c.Frame [FTH_ON n, FTH_OFF n, FTH_STAT n] ((c.onSl n (fun x => { x with reports := rs })).wr (r.reg n) r.word) := frame_wr (fun _ _ => rfl) hr4
  have h2 : c.Frame [FTH_ON n, FTH_OFF n, FTH_STAT n] (c.reportIn n r rs) := by
    rw [Chan.reportIn]
    refine frame_p ?_ (hreg ▸ by simp)
    split_ifs
    · exact frame_p (f := FTH_STAT_FROZEN n) h1 (show FTH_STAT n ∈ _ by simp)
    · exact h1
  exact frame_trans (frame_mono h2 (by simp +contextual)) (frame_mono (segsShown_shows (c.reportIn n r rs) n _ _).2.2.2.frame (by simp))

theorem slSrc_not_reported {n : Nat} (h8 : n < 8) : SL_SRC_STATUS ∉ [FTH_ON n, FTH_OFF n, FTH_STAT n, SL_STATUS n] := by
  simp only [SL_SRC_STATUS, FTH_ON, FTH_OFF, FTH_STAT, SL_STATUS, List.mem_cons, List.not_mem_nil, or_false]
  omega

/-! ### An invalid frame (R206) -/

theorem doSliceFrameInvalid_to {c : Chan} {n word : Nat} (hl : c.linked n = true) (hw : slFrameOk false word = false) :
    doSliceFrameInvalid n false word c = c.satInc (LINK_STAT_CRC_ERR n) := by
  rw [doSliceFrameInvalid, if_neg (by rw [hl, hw]; decide)]
  exact if_pos (.inl rfl)

/-- The instants of the invalid frames with the present one. -/
def Chan.lateBad (c : Chan) (n : Nat) : Chan := (c.satInc (LINK_STAT_CRC_ERR n)).onSl n (fun x => { x with bad := (c.now :: x.bad).take 17 })

theorem linkStat_ne (n : Nat) : LINK_STAT n ≠ SL_CFG n ∧ LINK_STAT n ≠ SL_SRC_STATUS ∧ LINK_STAT n ≠ CH_STATE := by
  rw [LINK_STAT, SL_CFG, SL_SRC_STATUS, CH_STATE]
  omega

theorem frame_crcErr (c : Chan) (n : Nat) : c.Frame [LINK_STAT n] (c.satInc (LINK_STAT_CRC_ERR n)) := frame_p (f := LINK_STAT_CRC_ERR n) (frame_refl _ c) List.mem_cons_self

theorem crcErr_counts (c : Chan) (n : Nat) : (c.satInc (LINK_STAT_CRC_ERR n)).g (LINK_STAT_CRC_ERR n) = min 65535 (c.g (LINK_STAT_CRC_ERR n) + 1) := by
  have hlt := c.g_lt (LINK_STAT_CRC_ERR n)
  have hw : 2 ^ ((LINK_STAT_CRC_ERR n).hi + 1 - (LINK_STAT_CRC_ERR n).lo) = 65536 := rfl
  rw [hw] at hlt
  rw [Chan.g_satInc _ rfl, hw, satAdd_eq_min (by omega)]

theorem doSliceFrameInvalid_from {c : Chan} {n word : Nat} (hl : c.linked n = true) (hw : slFrameOk true word = false) (hu : c.b (SL_CFG_USED n) = true) :
    doSliceFrameInvalid n true word c = (c.lateBad n).crcEval n := by
  have hu' : (c.satInc (LINK_STAT_CRC_ERR n)).b (SL_CFG_USED n) = true := ((frame_crcErr c n).b (f := SL_CFG_USED n) (show SL_CFG n ∉ [LINK_STAT n] by simpa using (linkStat_ne n).1.symm)).trans hu
  rw [doSliceFrameInvalid, if_neg (by rw [hl, hw]; decide)]
  exact if_neg (by rw [hu']; decide)

/-- More than 16 invalid frames within 1 ms raise LINK_CRC. -/
theorem crcEval_raises {c : Chan} {n : Nat} (h : 16 < (c.recentBad n).length) (ho : c.state ≠ OFF) (ha : c.srcActive LINK_CRC = false) :
    (c.crcEval n).srcLatched LINK_CRC = true ∧ c.Frame reactionRegs (c.crcEval n) := by
  have he : c.crcEval n = (c.onSl n (fun x => { x with bad := c.recentBad n })).raiseBy LINK_CRC n := if_pos h
  rw [he]
  exact ⟨raiseBy_latched (c := c.onSl n _) n (by decide) ho ha, fun a k => frame_reacts (reacts_raiseBy (c.onSl n (fun x => { x with bad := c.recentBad n })) LINK_CRC n) a k⟩

theorem lateBad_recent {c : Chan} {n : Nat} (hn : n < c.slices.length) : (c.lateBad n).recentBad n = ((c.now :: (c.sl n).bad).take 17).filter (fun u => Nat.ble c.now (u + ms 1)) := by
  rw [Chan.recentBad, Chan.lateBad, sl_onSl_same (c := c.satInc (LINK_STAT_CRC_ERR n)) hn]
  rfl

/-! ### A read-back (R207) -/

/-- The write of `reg` done, and the configuration read back when it was the last. -/
def Chan.writeDone (c : Chan) (n reg : Nat) : Chan :=
  let d := c.onSl n (fun x => { x with todo := x.todo.filter (fun y => y.reg != reg) })
  if (d.sl n).todo.isEmpty then (d.onSl n (fun x => { x with cfgOk := true })).cfgGood n else d

theorem doSliceReadDataFrame_done {c : Chan} {n reg data : Nat} {w : CfgWrite} (hl : c.linked n = true) (hr : (cfgRegs n).contains reg = true)
    (hg : data &&& cfgMask reg = (c.frameFrom n 2 (slAddr reg) (some data)).cfgWord reg)
    (hw : ((c.frameFrom n 2 (slAddr reg) (some data)).sl n).todo.find? (fun w => w.reg == reg) = some w) (ha : w.acked = true) :
    doSliceReadDataFrame n reg data c = (c.frameFrom n 2 (slAddr reg) (some data)).writeDone n reg := by
  rw [doSliceReadDataFrame, if_neg (by rw [hl, hr]; decide)]
  dsimp only
  rw [hw]
  exact if_pos (by rw [ha, Bool.and_true, beq_iff_eq]; exact hg)

theorem doSliceReadDataFrame_wrong {c : Chan} {n reg data : Nat} (hl : c.linked n = true) (hr : (cfgRegs n).contains reg = true)
    (hg : data &&& cfgMask reg ≠ (c.frameFrom n 2 (slAddr reg) (some data)).cfgWord reg)
    (hw : ((c.frameFrom n 2 (slAddr reg) (some data)).sl n).todo.find? (fun w => w.reg == reg) = none) :
    doSliceReadDataFrame n reg data c = (c.frameFrom n 2 (slAddr reg) (some data)).cfgFail n := by
  rw [doSliceReadDataFrame, if_neg (by rw [hl, hr]; decide)]
  dsimp only
  rw [hw]
  exact if_neg (by rwa [beq_iff_eq])

/-- A configuration that was not bad: the write is done, and with the last one the slice's configuration is right. -/
theorem writeDone_shows {l : List Nat} {c d : Chan} {n reg : Nat} (h : c.FromSlice l n d) (hn : n < c.slices.length) (hb : (d.sl n).cfgBad = false) :
    c.FromSlice l n (d.writeDone n reg) ∧ ((d.writeDone n reg).sl n).todo = (d.sl n).todo.filter (fun y => y.reg != reg) ∧
    ((d.sl n).todo.filter (fun y => y.reg != reg) = [] → ((d.writeDone n reg).sl n).cfgOk = true) := by
  have hl : n < d.slices.length := by rwa [h.beside.length]
  have h1 := h.onSl hn (f := fun x => { x with todo := x.todo.filter (fun y => y.reg != reg) }) rfl
  have hs1 := sl_onSl_same (f := fun x => { x with todo := x.todo.filter (fun y => y.reg != reg) }) hl
  rw [Chan.writeDone]
  by_cases he : ((d.onSl n (fun x => { x with todo := x.todo.filter (fun y => y.reg != reg) })).sl n).todo.isEmpty = true
  · have h2 := h1.onSl hn (f := fun x => { x with cfgOk := true }) rfl
    have hs2 := sl_onSl_same (f := fun x => { x with cfgOk := true }) (show n < (d.onSl n (fun x => { x with todo := x.todo.filter (fun y => y.reg != reg) })).slices.length by
      rwa [Chan.length_onSl])
    rw [if_pos he, Chan.cfgGood, hs2, if_neg (by rw [hs1, hb]; decide), hs2]
    exact ⟨h2, by rw [hs1], fun _ => rfl⟩
  · rw [if_neg he]
    refine ⟨h1, by rw [hs1], fun hnil => absurd ?_ he⟩
    rw [hs1]
    exact List.isEmpty_iff.2 hnil

/-- A read-back that stays wrong. -/
theorem cfgFail_used {c : Chan} {n : Nat} (hn : n < c.slices.length) (hu : c.b (SL_CFG_USED n) = true) (ho : c.state ≠ OFF) (ha : c.srcActive LINK_FAULT = false) :
    (c.cfgFail n).srcLatched LINK_FAULT = true ∧ c.Frame reactionRegs (c.cfgFail n) ∧
    { (c.cfgFail n).sl n with wire := (c.sl n).wire, tags := (c.sl n).tags } = { c.sl n with cfgBad := true } := by
  have hr := reacts_raiseBy (c.onSl n (fun x => { x with cfgBad := true })) LINK_FAULT n
  have hs := hr.slices n
  rw [sl_onSl_same hn] at hs
  rw [Chan.cfgFail, if_pos hu]
  exact ⟨raiseBy_latched (c := c.onSl n _) n (by decide) ho ha, fun a h => frame_reacts hr a h, hs⟩

/-! ### The obligation -/

theorem slCfg_not_heard {n : Nat} (h8 : n < 8) : SL_CFG n ∉ heardRegs n := fun h => slCfg_not_mem_edgeRegs h8 (by simp only [heardRegs, edgeRegs, List.mem_cons, List.not_mem_nil, or_false] at h ⊢; tauto)

/-- Settles O32: every frame by `heard_frameFrom`, then what it carries; invalid frames by their count and `crcEval`. -/
theorem framesFromSlice : Obligations.FramesFromSlice := by
  intro s t ch n reg data c x recent base own right late ho h8 hlen
  have hn : n < c.slices.length := by omega
  have acts {i : Instr} {f : Chan → Chan} {P : Chan → Prop} (he : exec i s = s.live t ch f) (h : P (f c)) : ActsOn i s t ch P := actsOn_live (c := c) rfl he ho h
  have hbase {l : List Nat} {d : Chan} (h : c.FromSlice l n d) : base d := ⟨h.seqFrom, h.linkOk, h.beside.others⟩
  refine ⟨fun hp hq => ?valid, ?crcTo, ?crcRaise, ?crcQuiet, ?crcOk, ?formed, ?dead⟩
  case valid =>
    have hl := linked_of_power h8 hp
    have heard (type addr : Nat) (data : Option Nat) : c.Heard n (some ⟨type, x.seqFrom, addr, data⟩) (c.frameFrom n type addr data) := heard_frameFrom type addr data hn h8 hq
    refine ⟨?status, ?ack, ?fault, ?report, ?limit, ?noReport, ?done, ?wrong⟩
    case status =>
      have hs := (heard 0 0 none).fromSlice.segsShown (by simp [heardRegs]) x.segOn x.segOff
      obtain ⟨h1, h2, -, -⟩ := segsShown_shows (c.frameFrom n 0 0 none) n x.segOn x.segOff
      refine acts rfl ?_
      rw [doSliceStatusFrame, if_neg (by rw [hl]; decide)]
      exact ⟨hbase hs, h1, h2, hs.beside.frame⟩
    case ack =>
      have hh := heard 1 (slAddr reg) none
      have hs := hh.fromSlice.onSl hn (f := fun x => { x with todo := x.todo.map (fun w => if w.reg = reg ∧ 0 < w.tries then { w with acked := true } else w) }) rfl
      refine acts rfl ?_
      rw [doSliceWriteAckFrame, if_neg (by rw [hl]; decide)]
      refine ⟨hbase hs, ?_, hs.beside.frame⟩
      rw [sl_onSl_same (by rwa [hh.beside.length]), hh.sl]
    case fault =>
      intro hno
      have hh := heard 5 0 none
      have hne : SL_FAULT n ≠ SL_STATUS n := (slStatus_ne_slFault n).symm
      have hs := (hh.fromSlice.mono (k := SL_FAULT n :: own) (fun a ha => List.mem_cons_of_mem _ ha)).p (f := SL_FAULT_LATCH n) (v := x.latch) List.mem_cons_self hne
      refine acts rfl ?_
      rw [doSliceFaultFrame, if_neg (by rw [hl]; decide)]
      dsimp only
      rw [if_neg]
      · exact ⟨hbase hs, Chan.g_p_same _ _ _ rfl, hs.beside.frame⟩
      · rw [Chan.p_prot, hh.beside.prot]
        rintro ⟨h7, hla, hd⟩
        rcases hno with h | h | h
        · exact h h7
        · exact hla h
        · rw [h] at hd
          cases hd
    case report =>
      intro r rs hrep hlim
      obtain ⟨a, ha⟩ := doSliceEdgeReportFrame_linked hl
      have hh := heard 3 a none
      have hrep' : ((c.frameFrom n 3 a none).sl n).reports = r :: rs := by rw [hh.sl]; exact hrep
      obtain ⟨hs, hsl, hrd, hg, hseg⟩ := reported_shows r rs hh.fromSlice hn
      have he := eased_limitSource ((c.frameFrom n 3 a none).reported n r rs) n hlim
      have hd := hs.eased he (by simp [reportRegs, heardRegs]) h8
      obtain ⟨-, -, hr3, -⟩ := reportReg_ne r n
      obtain ⟨hreg, -, -⟩ := reportLims r n
      have hfs : FTH_STAT n ≠ SL_SRC_STATUS := by rw [FTH_STAT, SL_SRC_STATUS]; omega
      refine acts rfl ?_
      rw [ha, takeReport_some hrep']
      refine ⟨hbase hd, by rw [he.sl, hsl], ?_, ?_, ?_, hd.beside.frame⟩
      · exact (he.frame (r.reg n) (by simpa using hr3)).trans hrd
      · exact (he.frame.g (f := r.lims n) (by rw [hreg]; simpa using hfs)).trans (hg.trans (by omega))
      · exact (he.frame.g (f := SL_STATUS_SEG_ON n) (show SL_STATUS n ∉ [SL_SRC_STATUS] by simpa using slStatus_ne_slSrc n h8)).trans (hseg.trans (by rw [hh.sl]))
    case limit =>
      intro r rs hrep hlim hact
      obtain ⟨a, ha⟩ := doSliceEdgeReportFrame_linked hl
      have hh := heard 3 a none
      have hrep' : ((c.frameFrom n 3 a none).sl n).reports = r :: rs := by rw [hh.sl]; exact hrep
      obtain ⟨hs, -, -, hg, -⟩ := reported_shows r rs hh.fromSlice hn
      obtain ⟨hreg, -, -⟩ := reportLims r n
      have hcalm : ((c.frameFrom n 3 a none).reported n r rs).srcActive FTH_LIMIT = false := by
        rw [(frame_reported (c.frameFrom n 3 a none) n r rs).srcActive (s := FTH_LIMIT) (show SL_SRC_STATUS ∉ _ from slSrc_not_reported h8)]
        exact hh.calm _ rfl hact
      have hst : ((c.frameFrom n 3 a none).reported n r rs).state ≠ OFF := by
        rwa [hs.beside.frame.state (by
          simp only [reportRegs, heardRegs, CH_STATE, SL_STATUS, SL_SRC_STATUS, FTH_ON, FTH_OFF, FTH_STAT, List.mem_append, List.mem_cons, List.not_mem_nil, or_false]; omega)]
      have hr := frame_reacts (reacts_raiseBy ((c.frameFrom n 3 a none).reported n r rs) FTH_LIMIT n)
      refine acts rfl ?_
      rw [ha, takeReport_some hrep', Chan.limitSource, if_pos hlim]
      refine ⟨raiseBy_latched n (by decide) hst hcalm, ?_, ?_⟩
      · exact (hr.g (f := r.lims n) (by rw [hreg]; simpa using fthRegs_calm h8 (FTH_STAT n) (by simp))).trans hg
      · refine frame_trans (frame_mono hs.beside.frame fun b hb => ?_) (frame_mono hr (fun b h => List.mem_append_right _ h))
        rcases List.mem_append.1 hb with hb | hb
        · exact List.mem_append_left _ hb
        · exact List.mem_append_right _ (heardRegs_reaction h8 b hb)
    case noReport =>
      intro hrep
      obtain ⟨a, ha⟩ := doSliceEdgeReportFrame_linked hl
      have hh := heard 3 a none
      refine acts rfl ?_
      rw [ha, takeReport_none (by rw [hh.sl]; exact hrep)]
      exact ⟨hbase hh.fromSlice, hh.beside.frame⟩
    case done =>
      intro w hr hw hack hright hbad
      have hh := heard 2 (slAddr reg) (some data)
      obtain ⟨hs, htodo, hok⟩ := writeDone_shows (reg := reg) hh.fromSlice hn (by rw [hh.sl]; exact hbad)
      rw [hh.sl] at htodo hok
      refine acts rfl ?_
      rw [doSliceReadDataFrame_done hl hr (hright.trans (hh.beside.frame.cfgWord (cfgRegs_not_heard h8 hr)).symm) (by rw [hh.sl]; exact hw) hack]
      exact ⟨hbase hs, htodo, hok, hs.beside.frame⟩
    case wrong =>
      intro hr hw hwrong hu ha
      have hh := heard 2 (slAddr reg) (some data)
      have hf := hh.beside.frame
      obtain ⟨hlat, hfr, hsl⟩ := cfgFail_used (c := c.frameFrom n 2 (slAddr reg) (some data)) (n := n) (by rwa [hh.beside.length])
        (by rwa [hf.b (f := SL_CFG_USED n) (slCfg_not_heard h8)])
        (by rwa [hf.state (by simp only [heardRegs, CH_STATE, SL_STATUS, SL_SRC_STATUS, List.mem_cons, List.not_mem_nil, or_false]; omega)]) (hh.calm _ rfl ha)
      have hbad := congrArg SliceSt.cfgBad hsl
      refine acts rfl ?_
      rw [doSliceReadDataFrame_wrong hl hr (fun h => hwrong (h.trans (hf.cfgWord (cfgRegs_not_heard h8 hr)))) (by rw [hh.sl]; exact hw)]
      exact ⟨hbad, hlat, frame_trans (frame_mono hf (fun a h => List.mem_cons_of_mem _ (heardRegs_reaction h8 a h))) (frame_mono hfr (fun a h => List.mem_cons_of_mem _ h))⟩
  case crcTo =>
    intro word hp hw
    refine acts rfl ?_
    rw [doSliceFrameInvalid_to (linked_of_power h8 hp) hw]
    exact ⟨crcErr_counts c n, frame_crcErr c n, rfl⟩
  case crcRaise =>
    intro word hp hw hu hlate ha
    have hf := frame_crcErr c n
    refine acts rfl ?_
    rw [doSliceFrameInvalid_from (linked_of_power h8 hp) hw hu]
    obtain ⟨hlat, hr⟩ := crcEval_raises (c := c.lateBad n) (n := n) (by rw [lateBad_recent hn]; exact lt_of_lt_of_eq (by decide : 16 < 17) hlate.symm) (show (c.satInc (LINK_STAT_CRC_ERR n)).state ≠ OFF by rwa [hf.state (by simpa using (linkStat_ne n).2.2.symm)])
      ((hf.srcActive (s := LINK_CRC) (show SL_SRC_STATUS ∉ _ by simpa using (linkStat_ne n).2.1.symm)).trans ha)
    exact ⟨(hr.g (f := LINK_STAT_CRC_ERR n) (show LINK_STAT n ∉ _ by simpa using fthRegs_calm h8 (LINK_STAT n) (by simp))).trans (crcErr_counts c n), hlat,
      frame_trans (frame_mono hf (by simp)) (frame_mono hr (fun b h => List.mem_cons_of_mem _ h))⟩
  case crcQuiet =>
    intro word hp hw hu hlate
    have he := eased_crcEval (c := c.lateBad n) (n := n) (by rw [lateBad_recent hn]; exact hlate)
    refine acts rfl ?_
    rw [doSliceFrameInvalid_from (linked_of_power h8 hp) hw hu]
    refine ⟨(he.frame.g (f := LINK_STAT_CRC_ERR n) (show LINK_STAT n ∉ _ by simpa using (linkStat_ne n).2.1)).trans (crcErr_counts c n), ?_,
      frame_trans (frame_mono (frame_crcErr c n) (by simp)) (frame_mono he.frame (by simp))⟩
    rw [he.sl, sl_onSl_same (c := c.lateBad n) (by rwa [Chan.lateBad, Chan.length_onSl]), lateBad_recent hn]
  case crcOk => exact fun from_ word h => acts rfl (if_pos (.inr h))
  case formed => exact fun from_ seq addr data type ht => slFrameWord_ok from_ seq addr data ht
  case dead =>
    exact fun h from_ word => ⟨acts rfl (if_pos (not_linked h8 h)), acts rfl (if_pos (.inl (not_linked h8 h)))⟩

end Sys2Proof.Machine
end

section
/-! PROOFS. Frames and edge tags to a slice (R206, R207, R222, R223, R254): O31. -/

namespace Sys2Proof.Machine
open Sys2Proof

/-! ### A valid frame to a slice (R206, R254) -/

/-- The register that a frame to slice `n` may change: slice 7 reports its autonomous discharge. -/
def toldRegs (n : Nat) : List Nat := if n = 7 then [DCHG_STATUS] else []

/-- What a frame to slice `n` shows: its sequence number, the end of an autonomous discharge, no other slice touched. -/
structure Chan.ToSlice (l : List Nat) (n : Nat) (c d : Chan) : Prop where
  beside : c.Beside l n d
  seqTo : (d.sl n).seqTo = ((c.sl n).seqTo + 1) % 16
  seen : n = 7 → (c.sl n).autoSeen = true → d.b DCHG_STATUS_AUTO_SEEN = true ∧ (d.sl n).auto = false ∧ (d.sl n).autoSeen = false

/-- What the frame itself does to the channel: the slice keeps all but its sequence number, the frame kept, and what an autonomous discharge leaves. -/
structure Chan.Told (n : Nat) (sent : SlFrame) (c d : Chan) : Prop extends c.ToSlice (toldRegs n) n d where
  sl : d.sl n = { c.sl n with seqTo := ((c.sl n).seqTo + 1) % 16, sentTo := some sent, auto := (d.sl n).auto, autoSeen := (d.sl n).autoSeen, isOn := (d.sl n).isOn }

/-- The slice with a frame received. -/
def Chan.toldTo (c : Chan) (n : Nat) (sent : SlFrame) : Chan := c.onSl n (fun x => { x with seqTo := (x.seqTo + 1) % 16, sentTo := some sent })

theorem Chan.frameTo_eq (c : Chan) (n type addr : Nat) (data : Option Nat) :
    c.frameTo n type addr data = if n = 7 then (c.toldTo n ⟨type, (c.sl n).seqTo, addr, data⟩).autoSeen else c.toldTo n ⟨type, (c.sl n).seqTo, addr, data⟩ := rfl

theorem told_frameTo {c : Chan} {n : Nat} (type addr : Nat) (data : Option Nat) (hn : n < c.slices.length) :
    c.Told n ⟨type, (c.sl n).seqTo, addr, data⟩ (c.frameTo n type addr data) := by
  rw [Chan.frameTo_eq]
  generalize (⟨type, (c.sl n).seqTo, addr, data⟩ : SlFrame) = sent
  have hs : (c.toldTo n sent).sl n = { c.sl n with seqTo := ((c.sl n).seqTo + 1) % 16, sentTo := some sent } := sl_onSl_same hn
  have hb : c.Beside (toldRegs n) n (c.toldTo n sent) := (Chan.Beside.refl _ n c).onSl _
  by_cases h7 : n = 7
  · subst h7
    rw [if_pos rfl, Chan.autoSeen]
    by_cases ha : ((c.toldTo 7 sent).sl 7).autoSeen = true
    · rw [if_pos ha]
      have hk := sl_onSl_same (f := fun y => { y with auto := false, autoSeen := false, isOn := if y.auto then false else y.isOn }) (show 7 < (c.toldTo 7 sent).slices.length by rwa [Chan.toldTo, Chan.length_onSl])
      refine ⟨⟨(hb.onSl _).p (f := DCHG_STATUS_AUTO_SEEN) (by decide), ?_, fun _ _ => ⟨Chan.b_p_one _ _ rfl, ?_, ?_⟩⟩, ?_⟩
      · rw [Chan.sl_p, hk, hs]
      · rw [Chan.sl_p, hk]
      · rw [Chan.sl_p, hk]
      · rw [Chan.sl_p, hk, hs]
    · rw [if_neg ha]
      have hno : (c.sl 7).autoSeen ≠ true := by rwa [hs] at ha
      exact ⟨⟨hb, by rw [hs], fun _ h => absurd h hno⟩, by rw [hs]⟩
  · rw [if_neg h7]
    exact ⟨⟨hb, by rw [hs], fun h => absurd h h7⟩, by rw [hs]⟩

theorem Chan.Told.kept {n : Nat} {sent : SlFrame} {c d : Chan} (h : c.Told n sent d) : (d.sl n).todo = (c.sl n).todo ∧ (d.sl n).cfg = (c.sl n).cfg ∧ (d.sl n).sentTo = some sent := by
  have h1 := congrArg SliceSt.todo h.sl
  have h2 := congrArg SliceSt.cfg h.sl
  have h3 := congrArg SliceSt.sentTo h.sl
  exact ⟨h1, h2, h3⟩

namespace Chan.ToSlice
variable {l : List Nat} {n : Nat} {c d : Chan} (h : c.ToSlice l n d)
include h

/-- A change of the slice that keeps what the frame left. -/
theorem onSl (hn : n < c.slices.length) {f : SliceSt → SliceSt} (hf : (f (d.sl n)).seqTo = (d.sl n).seqTo ∧ (f (d.sl n)).auto = (d.sl n).auto ∧ (f (d.sl n)).autoSeen = (d.sl n).autoSeen) :
    c.ToSlice l n (d.onSl n f) := by
  have hs : (d.onSl n f).sl n = f (d.sl n) := sl_onSl_same (by rwa [h.beside.length])
  obtain ⟨hf1, hf2, hf3⟩ := hf
  exact ⟨h.beside.onSl f, by rw [hs, hf1, h.seqTo], fun h7 ha => by rw [hs, hf2, hf3]; exact h.seen h7 ha⟩

/-- A register written beside DCHG_STATUS. -/
theorem p {f : Fld} {v : Nat} (ha : f.reg ∈ l) (hs : f.reg ≠ DCHG_STATUS) : c.ToSlice l n (d.p f v) := by
  have hf : d.Frame [f.reg] (d.p f v) := frame_p (frame_refl _ d) List.mem_cons_self
  refine ⟨h.beside.p ha, h.seqTo, fun h7 hk => ?_⟩
  rw [hf.b (f := DCHG_STATUS_AUTO_SEEN) (show DCHG_STATUS ∉ [f.reg] by simpa using hs.symm)]
  exact h.seen h7 hk

theorem mono {k : List Nat} (hl : ∀ a ∈ l, a ∈ k) : c.ToSlice k n d := ⟨h.beside.mono hl, h.seqTo, h.seen⟩
end Chan.ToSlice

/-! ### A write frame (R207) -/

/-- The slice with the channel's value of a register, the attempt counted. -/
def SliceSt.written (x : SliceSt) (reg v : Nat) : SliceSt :=
  { x with
    cfg := RegMap.set x.cfg (chanReset reg &&& cfgMask reg) reg v
    todo := x.todo.map (fun y => if y.reg = reg then ⟨reg, y.tries + 1, false⟩ else y) }

/-- A write made: the value, RETRY from the second attempt on, the segment counts with FTH_SEG. -/
def Chan.writeIn (c : Chan) (n reg tries : Nat) : Chan :=
  let d := c.onSl n (fun x => x.written reg (c.cfgWord reg))
  let e := if tries = 0 then d else d.satInc (LINK_STAT_RETRY n)
  if reg = FTH_SEG n then e.segClamp n else e

/-- What a write frame does with the pending write of its register. -/
def Chan.writeTo (c : Chan) (n reg : Nat) : Chan :=
  match (c.sl n).todo.find? (fun w => w.reg == reg) with
  | none => c
  | some w => if 3 ≤ w.tries then c.cfgFail n else c.writeIn n reg w.tries

theorem doSliceWriteFrame_linked {c : Chan} {n reg : Nat} (hl : c.linked n = true) (hr : (cfgRegs n).contains reg = true) (hs : c.skim.cur = none) :
    doSliceWriteFrame n reg c = (c.frameTo n 1 (slAddr reg) (some (c.cfgWord reg))).writeTo n reg := by
  rw [doSliceWriteFrame, if_neg (by rw [hl, hr]; decide), Chan.skimAbortIf_idle _ _ hs]
  rfl

theorem doSliceReadFrame_linked {c : Chan} {n reg : Nat} (hl : c.linked n = true) (hs : c.skim.cur = none) : doSliceReadFrame n reg c =
    (c.frameTo n 2 (slAddr reg) none).onSl n (fun x => { x with reply := some (reg, RegMap.get x.cfg (chanReset reg &&& cfgMask reg) reg) }) := by
  rw [doSliceReadFrame, if_neg (by rw [hl]; decide), Chan.skimAbortIf_idle _ _ hs]

theorem writeTo_none {c : Chan} {n reg : Nat} (h : (c.sl n).todo.find? (fun w => w.reg == reg) = none) : c.writeTo n reg = c := by rw [Chan.writeTo, h]

theorem writeTo_some {c : Chan} {n reg : Nat} {w : CfgWrite} (h : (c.sl n).todo.find? (fun w => w.reg == reg) = some w) :
    c.writeTo n reg = if 3 ≤ w.tries then c.cfgFail n else c.writeIn n reg w.tries := by rw [Chan.writeTo, h]

theorem linkStat_not_cfg {n reg : Nat} (h8 : n < 8) (h : (cfgRegs n).contains reg = true) : reg ≠ LINK_STAT n := by
  have hk : ∀ a ∈ cfgRegs n, a ≠ LINK_STAT n := by interval_cases n <;> decide
  exact hk reg (List.elem_iff.1 h)

theorem linkStat_ne_dchg (n : Nat) (h8 : n < 8) : LINK_STAT n ≠ DCHG_STATUS := by
  interval_cases n <;> decide

/-- The counts clamped: nothing but them changes. -/
theorem sl_segClamp {c : Chan} {n : Nat} (hn : n < c.slices.length) :
    (c.segClamp n).sl n = { c.sl n with segOn := ((c.segClamp n).sl n).segOn, segOff := ((c.segClamp n).sl n).segOff } := by
  rw [Chan.segClamp, sl_onSl_same hn]
  split_ifs <;> rfl

/-- What a write made leaves: the value, the attempt, RETRY. -/
theorem writeIn_shows {c d : Chan} {n reg : Nat} (tries : Nat) (h : c.ToSlice (toldRegs n) n d) (hn : n < c.slices.length) (h8 : n < 8) (hr : (cfgRegs n).contains reg = true) :
    c.ToSlice (LINK_STAT n :: toldRegs n) n (d.writeIn n reg tries) ∧
    RegMap.get ((d.writeIn n reg tries).sl n).cfg (chanReset reg &&& cfgMask reg) reg = (d.writeIn n reg tries).cfgWord reg % 2 ^ 32 ∧
    ((d.writeIn n reg tries).sl n).todo = (d.sl n).todo.map (fun y => if y.reg = reg then ⟨reg, y.tries + 1, false⟩ else y) ∧
    (0 < tries → (d.writeIn n reg tries).g (LINK_STAT_RETRY n) = min 255 (d.g (LINK_STAT_RETRY n) + 1)) := by
  have hl : n < d.slices.length := by rwa [h.beside.length]
  have hreg : (LINK_STAT_RETRY n).reg = LINK_STAT n := rfl
  obtain ⟨e, he, hb, hs, hf, hg⟩ : ∃ e, e = (if tries = 0 then d.onSl n (fun x => x.written reg (d.cfgWord reg)) else (d.onSl n (fun x => x.written reg (d.cfgWord reg))).satInc (LINK_STAT_RETRY n)) ∧
      c.ToSlice (LINK_STAT n :: toldRegs n) n e ∧ e.sl n = (d.sl n).written reg (d.cfgWord reg) ∧ d.Frame [LINK_STAT n] e ∧
      (0 < tries → e.g (LINK_STAT_RETRY n) = min 255 (d.g (LINK_STAT_RETRY n) + 1)) := by
    have h1 := (h.mono (k := LINK_STAT n :: toldRegs n) (fun a ha => List.mem_cons_of_mem _ ha)).onSl hn (f := fun x => x.written reg (d.cfgWord reg)) ⟨rfl, rfl, rfl⟩
    have hsl : (d.onSl n (fun x => x.written reg (d.cfgWord reg))).sl n = (d.sl n).written reg (d.cfgWord reg) := sl_onSl_same hl
    refine ⟨_, rfl, ?_⟩
    split_ifs with ht
    · exact ⟨h1, hsl, fun _ _ => rfl, fun h0 => absurd ht h0.ne'⟩
    · refine ⟨h1.p (f := LINK_STAT_RETRY n) (hreg ▸ List.mem_cons_self) (hreg ▸ linkStat_ne_dchg n h8), by rw [Chan.sl_satInc, hsl], frame_p (f := LINK_STAT_RETRY n) (fun _ _ => rfl) List.mem_cons_self,
        fun _ => ?_⟩
      have hlt := d.g_lt (LINK_STAT_RETRY n)
      have hw : 2 ^ ((LINK_STAT_RETRY n).hi + 1 - (LINK_STAT_RETRY n).lo) = 256 := rfl
      rw [hw] at hlt
      rw [Chan.g_satInc _ rfl, hw]
      exact satAdd_eq_min (by change d.g (LINK_STAT_RETRY n) ≤ 255; omega)
  have hword : e.cfgWord reg = d.cfgWord reg := hf.cfgWord (by simpa using linkStat_not_cfg h8 hr)
  have hget : RegMap.get (e.sl n).cfg (chanReset reg &&& cfgMask reg) reg = e.cfgWord reg % 2 ^ 32 := by
    rw [hword, hs]
    exact get_set_same _ _ _ _
  have htodo : (e.sl n).todo = (d.sl n).todo.map (fun y => if y.reg = reg then ⟨reg, y.tries + 1, false⟩ else y) := by
    rw [hs]
    rfl
  have hw : d.writeIn n reg tries = if reg = FTH_SEG n then e.segClamp n else e := by rw [he]; rfl
  rw [hw]
  split_ifs
  · have hc := sl_segClamp (c := e) (n := n) (by rwa [hb.beside.length])
    refine ⟨hb.onSl hn ?_, ?_, ?_, hg⟩
    · split_ifs <;> exact ⟨rfl, rfl, rfl⟩
    · rw [congrArg SliceSt.cfg hc]
      exact hget
    · rw [congrArg SliceSt.todo hc]
      exact htodo
  · exact ⟨hb, hget, htodo, hg⟩

/-! ### The feathering step (R223) -/

/-- The step that the measured time asks for. -/
def fthRaw (tgt band : Nat) (tsw : Option Nat) : Int :=
  match tsw with
  | none => 0
  | some t => if tgt + band < t then 1 else if t + band < tgt then -1 else 0

/-- A step leads out of the limits. -/
def FthDir.out (d : FthDir) (step : Int) : Bool := decide ((d.hi : Int) < d.seg + step) || decide ((d.seg : Int) + step < d.lo)

/-- The segment count after a step. -/
def FthDir.next (d : FthDir) (step : Int) : Nat := if step ≠ 0 ∧ !d.out step then ((d.seg : Int) + step).toNat else d.seg

/-- The slice has an off-state voltage to judge a transition by. -/
def Chan.fthSeen (c : Chan) (n : Nat) : Bool :=
  match (c.sl n).vdsRef with
  | none => false
  | some v => decide ((c.slCfg n (FTH_LIM_VMIN n) : Int) ≤ v)

/-- No step is made. -/
def Chan.fthHolds (c : Chan) (n : Nat) (ok : Bool) : Bool := c.slCfg n (FTH_LIM_FTH_EN n) = 0 || !ok || (c.sl n).latch != 0

/-- The step made. -/
def Chan.fthStep (c : Chan) (n : Nat) (on ok : Bool) (tSw : Option Nat) : Int :=
  if c.fthHolds n ok then 0 else fthRaw (c.fthDir n on).tgt (c.slCfg n (FTH_LIM_BAND n)) (if c.fthSeen n then tSw else none)

/-- What feathering does: the direction's count, the counters, the edge released, a report; nothing else. -/
theorem feather_shows {c : Chan} {n : Nat} (hn : n < c.slices.length) (e : SliceEdge) (ok : Bool) (tDly : Nat) (tSw : Option Nat) :
    c.Beside [] n (c.feather n e ok tDly tSw) ∧ ∃ rep lOn lOff k, (c.feather n e ok tDly tSw).sl n = { c.sl n with
      segOn := if e.on then (c.fthDir n e.on).next (c.fthStep n e.on ok tSw) else (c.sl n).segOn
      segOff := if e.on then (c.sl n).segOff else (c.fthDir n e.on).next (c.fthStep n e.on ok tSw)
      limOn := lOn, limOff := lOff, noTransN := k, edgesBuf := (c.sl n).edgesBuf.filter (fun z => z.count != e.count), reports := (c.sl n).reports ++ [rep] } := by
  obtain ⟨b, f, he, hf⟩ : ∃ (b : Bool) (f : SliceSt → SliceSt), c.feather n e ok tDly tSw = (if b then c else c.took 2).onSl n f ∧ ∃ rep lOn lOff k, f (c.sl n) = { c.sl n with
      segOn := if e.on then (c.fthDir n e.on).next (c.fthStep n e.on ok tSw) else (c.sl n).segOn
      segOff := if e.on then (c.sl n).segOff else (c.fthDir n e.on).next (c.fthStep n e.on ok tSw)
      limOn := lOn, limOff := lOff, noTransN := k, edgesBuf := (c.sl n).edgesBuf.filter (fun z => z.count != e.count), reports := (c.sl n).reports ++ [rep] } := by
    unfold Chan.feather
    extract_lets x d seen tsw raw hold frozen step nx out lim seg rep
    exact ⟨tsw.isSome, _, rfl, rep, _, _, _, rfl⟩
  rw [he]
  cases b
  · exact ⟨((Chan.Beside.refl [] n c).took 2).onSl f, by rwa [if_neg (by decide), sl_onSl_same (c := c.took 2) hn]⟩
  · exact ⟨(Chan.Beside.refl [] n c).onSl f, by rwa [if_pos rfl, sl_onSl_same hn]⟩

theorem FthDir.next_zero (d : FthDir) : d.next 0 = d.seg := if_neg (fun h => h.1 rfl)

/-- A step up within the limits, and one beyond the upper one. -/
theorem FthDir.next_up {d : FthDir} (h : d.seg < d.hi) (hl : d.lo ≤ d.seg + 1) : d.next 1 = d.seg + 1 := by
  have ho : d.out 1 = false := by
    simp only [FthDir.out, Bool.or_eq_false_iff, decide_eq_false_iff_not]
    omega
  rw [FthDir.next, ho, if_pos (by decide)]
  omega

theorem FthDir.next_top {d : FthDir} (h : d.seg = d.hi) : d.next 1 = d.seg := by
  have ho : d.out 1 = true := by
    simp only [FthDir.out, Bool.or_eq_true, decide_eq_true_eq]
    omega
  rw [FthDir.next, ho, if_neg (by decide)]

/-- A step down within the limits, and one beyond the lower one. -/
theorem FthDir.next_down {d : FthDir} (h : d.lo < d.seg) (hl : d.seg ≤ d.hi + 1) : d.next (-1) = d.seg - 1 := by
  have ho : d.out (-1) = false := by
    simp only [FthDir.out, Bool.or_eq_false_iff, decide_eq_false_iff_not]
    omega
  rw [FthDir.next, ho, if_pos (by decide)]
  omega

theorem FthDir.next_bottom {d : FthDir} (h : d.seg = d.lo) : d.next (-1) = d.seg := by
  have ho : d.out (-1) = true := by
    simp only [FthDir.out, Bool.or_eq_true, decide_eq_true_eq]
    omega
  rw [FthDir.next, ho, if_neg (by decide)]

theorem fthRaw_slow {tgt band t : Nat} (h : tgt + band < t) : fthRaw tgt band (some t) = 1 := if_pos h
theorem fthRaw_fast {tgt band t : Nat} (h : t + band < tgt) : fthRaw tgt band (some t) = -1 := (if_neg (by omega)).trans (if_pos h)
theorem fthRaw_within {tgt band t : Nat} (h : t ≤ tgt + band) (k : tgt ≤ t + band) : fthRaw tgt band (some t) = 0 := (if_neg (by omega)).trans (if_neg (by omega))

section
variable {c : Chan} {n : Nat} (on : Bool) {ok : Bool}

theorem fthStep_held (tSw : Option Nat) (h : ok = false ∨ (c.sl n).latch ≠ 0 ∨ c.slCfg n (FTH_LIM_FTH_EN n) = 0) : c.fthStep n on ok tSw = 0 := by
  have hh : c.fthHolds n ok = true := by
    rcases h with h | h | h <;> simp [Chan.fthHolds, h]
  exact if_pos hh

theorem fthStep_free (ts : Nat) (hok : ok = true) (hl : (c.sl n).latch = 0) (he : c.slCfg n (FTH_LIM_FTH_EN n) ≠ 0) (hs : c.fthSeen n = true) :
    c.fthStep n on ok (some ts) = fthRaw (c.fthDir n on).tgt (c.slCfg n (FTH_LIM_BAND n)) (some ts) := by
  have hh : c.fthHolds n ok = false := by simp [Chan.fthHolds, hok, hl, he]
  rw [Chan.fthStep, hh, hs]
  rfl

theorem fthSeen_of {v : Int} (h : (c.sl n).vdsRef = some v) (hv : (c.slCfg n (FTH_LIM_VMIN n) : Int) ≤ v) : c.fthSeen n = true := by
  rw [Chan.fthSeen, h]
  exact decide_eq_true hv
end

/-! ### An edge tag (R222) -/

/-- The tag received: counted as a frame, taken from those on their way. -/
def Chan.tagIn (c : Chan) (n count : Nat) (tag : EdgeTag) : Chan :=
  (c.frameTo n 3 tag.count none).onSl n (fun x => { x with tags := (x.tags.dropWhile (fun g => g.count != count % 256)).drop 1 })

/-- The tag checked against the edge of its count. -/
def Chan.tagCheck (c : Chan) (n : Nat) (tag : EdgeTag) (tDly : Nat) (tSw : Option Nat) : Chan :=
  match (c.sl n).edgesBuf.find? (fun e => e.count == tag.count) with
  | none => if ((c.sl n).edges + 256 - tag.count) % 256 < 128 then c else c.slLatch n 5
  | some e =>
    if e.pulse ≠ tag.pulse ∨ e.en ≠ tag.en then c.slLatch n 5
    else if e.own then c.feather n e (!tag.forced && !tag.safe) tDly tSw
    else c.onSl n (fun x => { x with edgesBuf := x.edgesBuf.filter (fun z => z.count != e.count) })

theorem doEdgeTag_formed {c : Chan} {n count tDly : Nat} {tSw : Option Nat} {tag : EdgeTag} (hl : c.linked n = true) (hf : (c.sl n).tags.find? (fun g => g.count == count % 256) = some tag) :
    doEdgeTag n count tDly tSw c = (c.tagIn n count tag).tagCheck n tag tDly tSw := by
  rw [doEdgeTag, hl, if_pos rfl, hf]
  rfl

theorem doEdgeTag_unformed {c : Chan} {n count tDly : Nat} {tSw : Option Nat} (hf : (c.sl n).tags.find? (fun g => g.count == count % 256) = none) : doEdgeTag n count tDly tSw c = c := by
  rw [doEdgeTag, hf, ite_self]

/-- The slice after its tag. -/
theorem tagIn_shows {c : Chan} {n : Nat} (count : Nat) (tag : EdgeTag) (hn : n < c.slices.length) : c.Beside (toldRegs n) n (c.tagIn n count tag) ∧
    ∃ a b o, (c.tagIn n count tag).sl n = { c.sl n with
      seqTo := ((c.sl n).seqTo + 1) % 16, sentTo := some ⟨3, (c.sl n).seqTo, tag.count, none⟩, auto := a, autoSeen := b, isOn := o
      tags := ((c.sl n).tags.dropWhile (fun g => g.count != count % 256)).drop 1 } := by
  have ht := told_frameTo 3 tag.count none hn
  have hk := congrArg SliceSt.tags ht.sl
  refine ⟨ht.beside.onSl _, ((c.frameTo n 3 tag.count none).sl n).auto, ((c.frameTo n 3 tag.count none).sl n).autoSeen, ((c.frameTo n 3 tag.count none).sl n).isOn, ?_⟩
  rw [Chan.tagIn, sl_onSl_same (by rwa [ht.beside.length]), hk]
  exact congrArg (fun x : SliceSt => { x with tags := ((c.sl n).tags.dropWhile (fun g : EdgeTag => g.count != count % 256)).drop 1 }) ht.sl

theorem tagCheck_other {c : Chan} {n : Nat} {tag : EdgeTag} {tDly : Nat} {tSw : Option Nat} {e : SliceEdge} (h : (c.sl n).edgesBuf.find? (fun e => e.count == tag.count) = some e)
    (ha : e.pulse = tag.pulse ∧ e.en = tag.en) (ho : e.own = false) : c.tagCheck n tag tDly tSw = c.onSl n (fun x => { x with edgesBuf := x.edgesBuf.filter (fun z => z.count != e.count) }) := by
  rw [Chan.tagCheck, h]
  dsimp only
  rw [if_neg (by tauto), ho]
  rfl

theorem tagCheck_own {c : Chan} {n : Nat} {tag : EdgeTag} {tDly : Nat} {tSw : Option Nat} {e : SliceEdge} (h : (c.sl n).edgesBuf.find? (fun e => e.count == tag.count) = some e)
    (ha : e.pulse = tag.pulse ∧ e.en = tag.en) (ho : e.own = true) : c.tagCheck n tag tDly tSw = c.feather n e (!tag.forced && !tag.safe) tDly tSw := by
  rw [Chan.tagCheck, h]
  dsimp only
  rw [if_neg (by tauto), ho, if_pos rfl]

theorem tagCheck_differs {c : Chan} {n : Nat} {tag : EdgeTag} {tDly : Nat} {tSw : Option Nat} {e : SliceEdge} (h : (c.sl n).edgesBuf.find? (fun e => e.count == tag.count) = some e)
    (ha : ¬ (e.pulse = tag.pulse ∧ e.en = tag.en)) : c.tagCheck n tag tDly tSw = c.slLatch n 5 := by
  rw [Chan.tagCheck, h]
  exact if_pos (by tauto)

theorem tagCheck_missing {c : Chan} {n : Nat} {tag : EdgeTag} {tDly : Nat} {tSw : Option Nat} (h : (c.sl n).edgesBuf.find? (fun e => e.count == tag.count) = none)
    (he : ((c.sl n).edges + 256 - tag.count) % 256 < 128) : c.tagCheck n tag tDly tSw = c := by
  rw [Chan.tagCheck, h]
  exact if_pos he

/-! ### The slice after its step -/

/-- Feathering, read off the slice: the direction's count, the other direction's, the edge released, one report more. -/
theorem feather_reads {c : Chan} {n : Nat} (hn : n < c.slices.length) (e : SliceEdge) (ok : Bool) (tDly : Nat) (tSw : Option Nat) :
    (if e.on then ((c.feather n e ok tDly tSw).sl n).segOn else ((c.feather n e ok tDly tSw).sl n).segOff) = (c.fthDir n e.on).next (c.fthStep n e.on ok tSw) ∧
    (if e.on then ((c.feather n e ok tDly tSw).sl n).segOff else ((c.feather n e ok tDly tSw).sl n).segOn) = (if e.on then (c.sl n).segOff else (c.sl n).segOn) ∧
    ((c.feather n e ok tDly tSw).sl n).edgesBuf = (c.sl n).edgesBuf.filter (fun z => z.count != e.count) ∧ ((c.feather n e ok tDly tSw).sl n).tags = (c.sl n).tags ∧
    ((c.feather n e ok tDly tSw).sl n).reports.length = (c.sl n).reports.length + 1 := by
  obtain ⟨-, rep, lOn, lOff, k, hs⟩ := feather_shows hn e ok tDly tSw
  rw [hs]
  refine ⟨?_, ?_, rfl, rfl, List.length_append⟩
  · cases e.on <;> rfl
  · cases e.on <;> rfl

/-- The settings of a direction as the slice's configuration gives them. -/
theorem fthDir_flds (c : Chan) (n : Nat) (on : Bool) : (c.fthDir n on).tgt = c.slCfg n (if on then FTH_TGT_TGT_ON n else FTH_TGT_TGT_OFF n) ∧
    (c.fthDir n on).lo = c.slCfg n (if on then FTH_SEG_MIN_ON n else FTH_SEG_MIN_OFF n) ∧ (c.fthDir n on).hi = c.slCfg n (if on then FTH_SEG_MAX_ON n else FTH_SEG_MAX_OFF n) ∧
    (c.fthDir n on).seg = if on then (c.sl n).segOn else (c.sl n).segOff := by
  cases on <;> exact ⟨rfl, rfl, rfl, rfl⟩

/-- What the step is judged by, the same in two channels. -/
structure Chan.FthSame (n : Nat) (c d : Chan) : Prop where
  cfg : (d.sl n).cfg = (c.sl n).cfg
  segOn : (d.sl n).segOn = (c.sl n).segOn
  segOff : (d.sl n).segOff = (c.sl n).segOff
  limOn : (d.sl n).limOn = (c.sl n).limOn
  limOff : (d.sl n).limOff = (c.sl n).limOff
  latch : (d.sl n).latch = (c.sl n).latch
  vdsRef : (d.sl n).vdsRef = (c.sl n).vdsRef

theorem Chan.FthSame.dir {n : Nat} {c d : Chan} (h : c.FthSame n d) (on : Bool) : d.fthDir n on = c.fthDir n on := by
  simp only [Chan.fthDir, slCfg_congr h.cfg, h.segOn, h.segOff, h.limOn, h.limOff]

theorem fthSame_tagIn {c : Chan} {n : Nat} (count : Nat) (tag : EdgeTag) (hn : n < c.slices.length) : c.FthSame n (c.tagIn n count tag) := by
  obtain ⟨-, a, b, o, hs⟩ := tagIn_shows count tag hn
  constructor <;> rw [hs]

theorem toldRegs_not_mem {n a : Nat} (h : a ≠ DCHG_STATUS) : a ∉ toldRegs n := by
  rw [toldRegs]
  split_ifs <;> simp [h]

theorem toldRegs_reaction {n : Nat} : ∀ a ∈ toldRegs n, a ∈ reactionRegs := by
  rw [toldRegs]
  split_ifs
  · intro a ha
    rw [List.mem_singleton.1 ha]
    exact List.elem_iff.1 (own_contains _ (by decide))
  · exact fun _ h => absurd h List.not_mem_nil

theorem doEdgeTagTimeout_found {c : Chan} {n count tDly : Nat} {tSw : Option Nat} {e : SliceEdge} (h : (c.sl n).edgesBuf.find? (fun e => e.count == count % 256) = some e) :
    doEdgeTagTimeout n count tDly tSw c = if e.own && c.since e.at_ (us 2) then c.feather n e false tDly tSw else c := by rw [doEdgeTagTimeout, h]

theorem doEdgeTagTimeout_none {c : Chan} {n count tDly : Nat} {tSw : Option Nat} (h : (c.sl n).edgesBuf.find? (fun e => e.count == count % 256) = none) :
    doEdgeTagTimeout n count tDly tSw c = c := by rw [doEdgeTagTimeout, h]

theorem chState_not_told (n : Nat) : CH_STATE ∉ toldRegs n := toldRegs_not_mem (by decide)

/-- A tag that differs latches the slice (R222). -/
theorem tagIn_latches {c : Chan} {n : Nat} (count : Nat) (tag : EdgeTag) (hlen : c.slices.length = 8) (h8 : n < 8) (ho : c.state ≠ OFF) (hm : c.mayLatch n 5 = true) :
    (((c.tagIn n count tag).slLatch n 5).sl n).latch = setBit (c.sl n).latch 5 true ∧ (((c.tagIn n count tag).slLatch n 5).sl n).isOn = false ∧
    ((c.tagIn n count tag).slLatch n 5).b (SL_STATUS_LATCHED n) = true ∧ ((c.tagIn n count tag).slLatch n 5).srcLatched LINK_FAULT = true ∧
    c.Frame (latchRegs n ++ reactionRegs) ((c.tagIn n count tag).slLatch n 5) := by
  have hn : n < c.slices.length := by omega
  obtain ⟨hb, -⟩ := tagIn_shows count tag hn
  have hk := (fthSame_tagIn count tag hn).latch
  have hm' : (c.tagIn n count tag).mayLatch n 5 = true := by
    rwa [Chan.mayLatch, hb.frame.b (f := SL_CFG_USED n) (show SL_CFG n ∉ _ from toldRegs_not_mem (by interval_cases n <;> decide)), hk,
      hb.frame.srcActive (s := latchSource 5) (show SL_SRC_STATUS ∉ _ from toldRegs_not_mem (by decide))]
  have hL := slLatch_latched (hb.length.trans hlen) h8 (by rwa [hb.frame.state (chState_not_told n)]) hm'
  exact ⟨hL.latch.trans (by rw [hk]), hL.off.1, hL.status, hL.source, frame_trans (frame_mono hb.frame (fun a ha => List.mem_append_right _ (toldRegs_reaction a ha))) hL.frame⟩

/-- Settles O31: each frame by `told_frameTo`, then what it carries; a tag by `tagIn_shows`, then the check and the step of R223. -/
theorem framesAndTagsToSlice : Obligations.FramesAndTagsToSlice := by
  refine ⟨?frames, ?tags⟩
  case frames =>
    intro s t ch n reg c x base own ho h8 hlen hskim
    have hn : n < c.slices.length := by omega
    have acts {i : Instr} {f : Chan → Chan} {P : Chan → Prop} (he : exec i s = s.live t ch f) (h : P (f c)) : ActsOn i s t ch P := actsOn_live (c := c) rfl he ho h
    have hbase {l : List Nat} {d : Chan} (h : c.ToSlice l n d) : base d := ⟨h.seqTo, h.beside.others, fun h7 ha => h7 ▸ h.seen h7 ha⟩
    have told (type addr : Nat) (data : Option Nat) : c.Told n ⟨type, x.seqTo, addr, data⟩ (c.frameTo n type addr data) := told_frameTo type addr data hn
    have htodo (d : Option Nat) : ((c.frameTo n 1 (slAddr reg) d).sl n).todo = x.todo := (told 1 (slAddr reg) d).kept.1
    refine ⟨?idle, ?read, ?write, ?fail, ?none, ?dead⟩
    case idle =>
      intro hp
      have ht := told 0 0 none
      refine acts rfl ?_
      rw [doSliceIdleFrame, if_pos (linked_of_power h8 hp)]
      exact ⟨hbase ht.toToSlice, ht.kept.2.2, ht.beside.frame⟩
    case read =>
      intro hp
      have ht := told 2 (slAddr reg) none
      have hs := ht.toToSlice.onSl hn (f := fun x => { x with reply := some (reg, RegMap.get x.cfg (chanReset reg &&& cfgMask reg) reg) }) ⟨rfl, rfl, rfl⟩
      refine acts rfl ?_
      rw [doSliceReadFrame_linked (linked_of_power h8 hp) hskim]
      refine ⟨hbase hs, ?_, hs.beside.frame⟩
      rw [sl_onSl_same (by rwa [ht.beside.length]), ht.kept.2.1]
    case write =>
      intro w hp hr hw ht3
      have ht := told 1 (slAddr reg) (some (c.cfgWord reg))
      obtain ⟨hs, hget, hmap, hretry⟩ := writeIn_shows (reg := reg) w.tries ht.toToSlice hn h8 hr
      refine acts rfl ?_
      rw [doSliceWriteFrame_linked (linked_of_power h8 hp) hr hskim, writeTo_some (by rw [htodo]; exact hw), if_neg (by omega)]
      refine ⟨hbase hs, hget, hmap.trans (by rw [htodo]), fun h0 => ?_, hs.beside.frame⟩
      rw [hretry h0, ht.beside.frame.g (f := LINK_STAT_RETRY n) (show LINK_STAT n ∉ _ from toldRegs_not_mem (linkStat_ne_dchg n h8))]
    case fail =>
      intro w hp hr hw ht3 hu ha
      have ht := told 1 (slAddr reg) (some (c.cfgWord reg))
      have hf := ht.beside.frame
      obtain ⟨hlat, hfr, hsl⟩ := cfgFail_used (c := c.frameTo n 1 (slAddr reg) (some (c.cfgWord reg))) (n := n) (by rwa [ht.beside.length])
        (by rwa [hf.b (f := SL_CFG_USED n) (show SL_CFG n ∉ _ from toldRegs_not_mem (by interval_cases n <;> decide))]) (by rwa [hf.state (chState_not_told n)])
        (by rwa [hf.srcActive (s := LINK_FAULT) (show SL_SRC_STATUS ∉ _ from toldRegs_not_mem (by decide))])
      have hbad := congrArg SliceSt.cfgBad hsl
      have hseq := congrArg SliceSt.seqTo hsl
      have hcfg := congrArg SliceSt.cfg hsl
      refine acts rfl ?_
      rw [doSliceWriteFrame_linked (linked_of_power h8 hp) hr hskim, writeTo_some (by rw [htodo]; exact hw), if_pos ht3]
      exact ⟨hbad, hseq.trans ht.seqTo, hlat, hcfg.trans ht.kept.2.1, frame_trans (frame_mono hf (fun a h => List.mem_append_left _ h)) (frame_mono hfr (fun a h => List.mem_append_right _ h))⟩
    case none =>
      intro hp hr hw
      have ht := told 1 (slAddr reg) (some (c.cfgWord reg))
      refine acts rfl ?_
      rw [doSliceWriteFrame_linked (linked_of_power h8 hp) hr hskim, writeTo_none (by rw [htodo]; exact hw)]
      exact ⟨hbase ht.toToSlice, ht.kept.2.1, ht.beside.frame⟩
    case dead =>
      intro h
      have hl := not_linked h8 h
      exact ⟨acts rfl (if_neg (by rw [c.linked_eq h8]; exact ne_true_of_eq_false h)), acts rfl (if_pos hl), acts rfl (if_pos (.inl hl))⟩
  case tags =>
    intro s t ch n count tag e v tDly ts tSw c x tgt lo hi seg seg' other band own released taken formed found agrees seen ho h8 hlen hp
    have hn : n < c.slices.length := by omega
    have hl := linked_of_power h8 hp
    have acts {i : Instr} {f : Chan → Chan} {P : Chan → Prop} (he : exec i s = s.live t ch f) (h : P (f c)) : ActsOn i s t ch P := actsOn_live (c := c) rfl he ho h
    obtain ⟨hb, a, b, o, hs⟩ := tagIn_shows count tag hn
    have hl1 : n < (c.tagIn n count tag).slices.length := by rwa [hb.length]
    have htags := congrArg SliceSt.tags hs
    have hbuf := congrArg SliceSt.edgesBuf hs
    have hsame := fthSame_tagIn count tag hn
    have hcount (h : formed) : tag.count = count % 256 := by simpa using List.find?_some h
    have hedge {r : Option SliceEdge} (h : formed) (hf : found = r) : ((c.tagIn n count tag).sl n).edgesBuf.find? (fun e => e.count == tag.count) = r := by
      rw [hbuf, hcount h]
      exact hf
    refine ⟨?other, ?step, ?held, ?differs, ?missing, ?unformed, ?late, ?early, ?gone⟩
    case other =>
      intro hf hfe ha hown
      have hd := sl_onSl_same (f := fun x => { x with edgesBuf := x.edgesBuf.filter (fun z => z.count != e.count) }) hl1
      refine acts rfl ?_
      rw [doEdgeTag_formed hl hf, tagCheck_other (hedge hf hfe) ha hown]
      refine ⟨?_, ⟨?_, fun k hk => (hb.onSl _).others k hk⟩, (hb.onSl _).frame⟩
      · change (Chan.sl _ n).tags = _
        rw [hd]
        exact htags
      · rw [hd, ← hbuf]
    case step =>
      intro hf hfe ha hown hseen hforced hsafe hlat hen
      obtain ⟨hseg, hoth, hbf, htg, hrep⟩ := feather_reads hl1 e (!tag.forced && !tag.safe) tDly (some ts)
      have hbe := hb.trans ((feather_shows hl1 e (!tag.forced && !tag.safe) tDly (some ts)).1.mono (fun _ h => absurd h List.not_mem_nil))
      obtain ⟨htgt, hlo, hhi, hsg⟩ := fthDir_flds c n e.on
      rw [hsame.dir, fthStep_free e.on ts (by rw [hforced, hsafe]; rfl) (hsame.latch.trans hlat) (by rwa [slCfg_congr hsame.cfg]) (fthSeen_of (hsame.vdsRef.trans hseen.1) (by rw [slCfg_congr hsame.cfg]; exact hseen.2)),
        hsame.dir, slCfg_congr hsame.cfg, htgt] at hseg
      refine acts rfl ?_
      rw [doEdgeTag_formed hl hf, tagCheck_own (hedge hf hfe) ha hown]
      refine ⟨htg.trans htags, ⟨hbf.trans (by rw [hbuf]), hbe.others⟩, hoth.trans (by rw [hsame.segOn, hsame.segOff]), hbe.frame, fun hr h1 h2 => ?_, fun hr h1 => ?_, fun hr h1 h2 => ?_,
        fun hr h1 => ?_, fun h1 h2 => ?_, hrep.trans (by rw [hs])⟩
      · rw [fthRaw_slow hr, FthDir.next_up (by rw [hsg, hhi]; exact h1) (by rw [hlo, hsg]; exact h2), hsg] at hseg
        exact hseg
      · rw [fthRaw_slow hr, FthDir.next_top (by rw [hsg, hhi]; exact h1), hsg] at hseg
        exact hseg
      · rw [fthRaw_fast hr, FthDir.next_down (by rw [hsg, hlo]; exact h1) (by rw [hhi, hsg]; exact h2), hsg] at hseg
        exact hseg
      · rw [fthRaw_fast hr, FthDir.next_bottom (by rw [hsg, hlo]; exact h1), hsg] at hseg
        exact hseg
      · rw [fthRaw_within h1 h2, FthDir.next_zero, hsg] at hseg
        exact hseg
    case held =>
      intro hf hfe ha hown hseen hhold
      obtain ⟨hseg, hoth, hbf, htg, -⟩ := feather_reads hl1 e (!tag.forced && !tag.safe) tDly (some ts)
      have hbe := hb.trans ((feather_shows hl1 e (!tag.forced && !tag.safe) tDly (some ts)).1.mono (fun _ h => absurd h List.not_mem_nil))
      have hheld : (!tag.forced && !tag.safe) = false ∨ ((c.tagIn n count tag).sl n).latch ≠ 0 ∨ (c.tagIn n count tag).slCfg n (FTH_LIM_FTH_EN n) = 0 := by
        rw [hsame.latch, slCfg_congr hsame.cfg]
        rcases hhold with h | h | h | h
        · exact .inl (by rw [h]; rfl)
        · exact .inl (by rw [h, Bool.not_true, Bool.and_false])
        · exact .inr (.inl h)
        · exact .inr (.inr h)
      rw [hsame.dir, fthStep_held e.on (some ts) hheld, FthDir.next_zero, (fthDir_flds c n e.on).2.2.2] at hseg
      refine acts rfl ?_
      rw [doEdgeTag_formed hl hf, tagCheck_own (hedge hf hfe) ha hown]
      exact ⟨htg.trans htags, ⟨hbf.trans (by rw [hbuf]), hbe.others⟩, hoth.trans (by rw [hsame.segOn, hsame.segOff]), hbe.frame, hseg⟩
    case differs =>
      intro hf hfe ha hm
      refine acts rfl ?_
      rw [doEdgeTag_formed hl hf, tagCheck_differs (hedge hf hfe) ha]
      exact tagIn_latches count tag hlen h8 ho hm
    case missing =>
      intro hf hfe he
      refine acts rfl ?_
      rw [doEdgeTag_formed hl hf, tagCheck_missing (hedge hf hfe) (by rw [hs, hcount hf]; exact he)]
      exact ⟨htags, hb.others, hb.frame, hsame.latch⟩
    case unformed => exact fun h => acts rfl (doEdgeTag_unformed h)
    case late =>
      intro hf hown ht
      obtain ⟨hseg, hoth, hbf, -, -⟩ := feather_reads hn e false tDly tSw
      have hbe := (feather_shows hn e false tDly tSw).1
      rw [fthStep_held e.on tSw (.inl rfl), FthDir.next_zero, (fthDir_flds c n e.on).2.2.2] at hseg
      refine acts rfl ?_
      rw [doEdgeTagTimeout_found hf, if_pos (by rw [hown, ht]; rfl)]
      exact ⟨⟨hbf, hbe.others⟩, hoth, frame_mono hbe.frame (fun _ h => absurd h List.not_mem_nil), hseg⟩
    case early =>
      intro hf hno
      refine acts rfl ?_
      rw [doEdgeTagTimeout_found hf, if_neg]
      rcases hno with h | h <;> simp [h]
    case gone => exact fun h => acts rfl (doEdgeTagTimeout_none h)

end Sys2Proof.Machine
end

section
/-! PROOFS. The primer test (R230 to R232): O34. -/

namespace Sys2Proof.Machine
open Sys2Proof

/-! ### The leg-health record (R232, R269, R271) -/

theorem react_legReport (c : Chan) : c.Reacts true (c.p DUST_IRQ_STATUS_LEG_CHANGE 1).reselect.transCheck :=
  react_transCheck (react_reselect (react_p (react_refl c) (by decide) (by decide) (by decide)))

theorem legHealth_not_reaction : LEG_HEALTH ∉ reactionRegs := by
  have h : reactionRegs.contains LEG_HEALTH = false := by decide
  simpa using h

/-- The record of one side of the legs. -/
def legSide (high : Bool) : Fld := if high then LEG_HEALTH_FS_H else LEG_HEALTH_FS_L

theorem legSide_ok (b : Bool) : (legSide b).ok = true := by cases b <;> rfl
theorem legSide_apart : ∀ {a b : Bool}, a ≠ b → (legSide a).apart (legSide b) = true := by decide

/-- The two bits of a failed-short entry. -/
def Chan.legMarked (c : Chan) (high : Bool) (leg : Nat) : Chan := (c.pb (legSide high) leg true).pb LEG_HEALTH_SRC_PRIMER leg true

theorem legSet_eq (c : Chan) (high : Bool) (leg : Nat) : c.legSet high leg LEG_HEALTH_SRC_PRIMER =
    if c.gb (legSide high) leg && c.gb LEG_HEALTH_SRC_PRIMER leg then c else ((c.legMarked high leg).p DUST_IRQ_STATUS_LEG_CHANGE 1).reselect.transCheck := rfl

theorem gb_legMarked (c : Chan) (high side : Bool) (leg : Nat) {j : Nat} (hj : j < 3) :
    (c.legMarked high leg).gb (legSide side) j = if high = side ∧ j = leg then true else c.gb (legSide side) j := by
  have ho : (c.legMarked high leg).gb (legSide side) j = (c.pb (legSide high) leg true).gb (legSide side) j :=
    Chan.gb_p_other _ _ _ _ _ rfl (legSide_ok side) (by cases side <;> rfl)
  rw [ho]
  by_cases hs : high = side
  · subst hs
    rw [c.gb_pb leg true (legSide_ok high) (by cases high <;> exact hj)]
    simp
  · rw [Chan.pb, Chan.gb_p_other _ _ _ _ _ (legSide_ok high) (legSide_ok side) (legSide_apart hs), if_neg (fun h => hs h.1)]

theorem gb_legSet (c : Chan) (high side : Bool) (leg : Nat) {j : Nat} (hj : j < 3) (h : high = side ∧ j = leg ∨ c.gb (legSide side) j = true) :
    (c.legSet high leg LEG_HEALTH_SRC_PRIMER).gb (legSide side) j = true := by
  have hreg : (legSide side).reg ∉ reactionRegs := by cases side <;> exact legHealth_not_reaction
  rw [legSet_eq]
  split_ifs with hset
  · rcases h with ⟨rfl, rfl⟩ | h
    · exact (Bool.and_eq_true_iff.1 hset).1
    · exact h
  · rw [(frame_reacts (react_legReport _)).gb hreg, gb_legMarked c high side leg hj]
    split_ifs with hk
    · rfl
    · exact h.resolve_left hk

/-- The class of phase `k` in PRIMER_RES. -/
def primerClass (k : Nat) : Fld := ⟨PRIMER_RES, 2 * k + 1, 2 * k⟩

/-- A phase with nothing to enter. -/
def Chan.primerClean (c : Chan) (k : Nat) : Prop := c.g (primerClass k) ≠ 1 ∧ c.g (primerClass k) ≠ 2 ∧ c.gb PRIMER_RES_RAIL_UNK k = false

/-- The upper side of a phase entered. -/
def Chan.legUpper (c : Chan) (k : Nat) : Chan := if c.g (primerClass k) = 1 ∨ c.gb PRIMER_RES_RAIL_UNK k then c.legSet true k LEG_HEALTH_SRC_PRIMER else c

theorem Chan.primerLeg_eq (c : Chan) (k : Nat) : c.primerLeg k = if c.g (primerClass k) = 2 then (c.legUpper k).legSet false k LEG_HEALTH_SRC_PRIMER else c.legUpper k := rfl

theorem primerLeg_clean {c : Chan} {k : Nat} (h : c.primerClean k) : c.primerLeg k = c := by
  obtain ⟨h1, h2, hu⟩ := h
  rw [Chan.primerLeg_eq, if_neg h2, Chan.legUpper, if_neg (by simp [h1, hu])]

section
variable {c : Chan} {j : Nat} (k : Nat) (side : Bool) (hj : j < 3)
include hj

theorem gb_legUpper_kept (h : c.gb (legSide side) j = true) : (c.legUpper k).gb (legSide side) j = true := by
  rw [Chan.legUpper]
  split_ifs
  · exact gb_legSet c true side k hj (.inr h)
  · exact h

/-- An entry made stays. -/
theorem gb_primerLeg_kept (h : c.gb (legSide side) j = true) : (c.primerLeg k).gb (legSide side) j = true := by
  have hu := gb_legUpper_kept k side hj h
  rw [Chan.primerLeg_eq]
  split_ifs
  · exact gb_legSet _ false side k hj (.inr hu)
  · exact hu

omit k side in
/-- A short to the positive rail, or a rail unknown, enters the upper side. -/
theorem primerLeg_upper (h : c.g (primerClass j) = 1 ∨ c.gb PRIMER_RES_RAIL_UNK j = true) : (c.primerLeg j).gb (legSide true) j = true := by
  have hu : (c.legUpper j).gb (legSide true) j = true := by
    rw [Chan.legUpper, if_pos h]
    exact gb_legSet c true true j hj (.inl ⟨rfl, rfl⟩)
  rw [Chan.primerLeg_eq]
  split_ifs
  · exact gb_legSet _ false true j hj (.inr hu)
  · exact hu

omit k side in
/-- A short to the negative rail enters the lower side. -/
theorem primerLeg_lower (h : c.g (primerClass j) = 2) : (c.primerLeg j).gb (legSide false) j = true := by
  rw [Chan.primerLeg_eq, if_pos h]
  exact gb_legSet _ false false j hj (.inl ⟨rfl, rfl⟩)
end

/-- What the end of a failed test enters in the leg health (R232): each phase's class, the phases before it clean. -/
def Chan.PrimerEnters (c d : Chan) : Prop := ∀ j < 3, (∀ i < j, c.primerClean i) →
  ((c.g (primerClass j) = 1 ∨ c.gb PRIMER_RES_RAIL_UNK j = true) → d.gb LEG_HEALTH_FS_H j = true) ∧ (c.g (primerClass j) = 2 → d.gb LEG_HEALTH_FS_L j = true)

/-- The entries are kept where the record is. -/
theorem Chan.PrimerEnters.reacts {q : Bool} {c d e : Chan} (h : c.PrimerEnters d) (k : d.Reacts q e) : c.PrimerEnters e := fun j hj hc => by
  have hf := frame_reacts k
  rw [hf.gb (f := LEG_HEALTH_FS_H) legHealth_not_reaction, hf.gb (f := LEG_HEALTH_FS_L) legHealth_not_reaction]
  exact h j hj hc

/-- The phases' entries one after the other. -/
def Chan.primerLegs (c : Chan) : Chan := ((c.primerLeg 0).primerLeg 1).primerLeg 2

theorem primerLegs_enters (c : Chan) : c.PrimerEnters c.primerLegs := by
  intro j hj hc
  interval_cases j
  · exact ⟨fun h => gb_primerLeg_kept 2 true hj (gb_primerLeg_kept 1 true hj (primerLeg_upper hj h)),
      fun h => gb_primerLeg_kept 2 false hj (gb_primerLeg_kept 1 false hj (primerLeg_lower hj h))⟩
  · rw [Chan.primerLegs, primerLeg_clean (hc 0 (by decide))]
    exact ⟨fun h => gb_primerLeg_kept 2 true hj (primerLeg_upper hj h), fun h => gb_primerLeg_kept 2 false hj (primerLeg_lower hj h)⟩
  · rw [Chan.primerLegs, primerLeg_clean (hc 0 (by decide)), primerLeg_clean (hc 1 (by decide))]
    exact ⟨fun h => primerLeg_upper hj h, fun h => primerLeg_lower hj h⟩

theorem primerLegs_clean {c : Chan} (h : ∀ j < 3, c.primerClean j) : c.primerLegs = c := by
  rw [Chan.primerLegs, primerLeg_clean (h 0 (by decide)), primerLeg_clean (h 1 (by decide)), primerLeg_clean (h 2 (by decide))]

theorem ripples_primerLeg {c d : Chan} (h : c.Ripples [LEG_HEALTH] d) (k : Nat) : c.Ripples [LEG_HEALTH] (d.primerLeg k) := by
  have hu : c.Ripples [LEG_HEALTH] (d.legUpper k) := .ite (h.legSet List.mem_cons_self true k rfl) h
  exact .ite (hu.legSet List.mem_cons_self false k rfl) hu

theorem ripples_primerLegs (c : Chan) : c.Ripples [LEG_HEALTH] c.primerLegs := ripples_primerLeg (ripples_primerLeg (ripples_primerLeg (.refl _ c) 0) 1) 2

/-- The record cleared (R271). -/
theorem legClear_shows (c : Chan) : c.legClear.rd LEG_HEALTH = 0 ∧ c.Frame ([LEG_HEALTH] ++ reactionRegs) c.legClear ∧ (c.ctl.arm = none → c.legClear.ctl.arm = none) ∧
    (c.rd LEG_HEALTH = 0 → c.legClear = c) := by
  rw [Chan.legClear]
  split_ifs with h
  · exact ⟨h, frame_refl _ c, id, fun _ => rfl⟩
  · have hr := react_legReport (c.wr LEG_HEALTH 0)
    exact ⟨(frame_reacts hr _ legHealth_not_reaction).trans (Chan.rd_wr_same _ _ _), frame_trans (frame_wr (frame_refl _ c) List.mem_cons_self) (frame_mono (frame_reacts hr) (fun _ h => List.mem_append_right _ h)),
      hr.noArm, fun k => absurd k h⟩

/-! ### The end of a test (R230) -/

/-- The registers of a test's end. -/
def primerEndRegs : List Nat := [PRIMER_RES, SL_IRQ_STATUS]

theorem primerDone_shows (c : Chan) : c.primerDone.b PRIMER_RES_DONE = true ∧ c.primerDone.b PRIMER_RES_RUNNING = false ∧ c.primerDone.b SL_IRQ_STATUS_PRIMER_DONE = true ∧
    c.Frame primerEndRegs c.primerDone := by
  refine ⟨?_, ?_, Chan.b_p_one _ _ rfl, ?_⟩
  · rw [Chan.primerDone, Chan.b_p_other _ _ _ _ rfl rfl rfl, Chan.b_p_one _ _ rfl]
  · rw [Chan.primerDone, Chan.b_p_other _ _ _ _ rfl rfl rfl, Chan.b_p_other _ _ _ _ rfl rfl rfl, Chan.b_p_zero _ _ rfl]
  · exact frame_p (frame_p (frame_p (fun _ _ => rfl) (by decide)) (by decide)) (by decide)

/-- A field of PRIMER_RES other than RUNNING and DONE reads as before. -/
theorem g_primerDone (c : Chan) {f : Fld} (hf : f.ok = true) (hr : PRIMER_RES_RUNNING.apart f = true) (hd : PRIMER_RES_DONE.apart f = true) (hi : SL_IRQ_STATUS_PRIMER_DONE.apart f = true) :
    c.primerDone.g f = c.g f := by
  rw [Chan.primerDone, Chan.g_p_other _ _ _ _ rfl hf hi, Chan.g_p_other _ _ _ _ rfl hf hd, Chan.g_p_other _ _ _ _ rfl hf hr]
  rfl

theorem primerDone_ctl (c : Chan) : c.primerDone.ctl = c.ctl := by
  rw [Chan.primerDone, Chan.p_ctl, Chan.p_ctl, Chan.p_ctl]
  rfl

/-- The ARM sequence ends with the failed test, if one runs. -/
theorem armFail_none (c : Chan) : c.armFail.ctl.arm = none := by
  by_cases h : c.ctl.arm.isSome = true
  · exact (armFail_ends h).1
  · rw [Chan.armFail, if_neg h]
    simpa using h

theorem armFail_idle {c : Chan} (h : c.ctl.arm = none) : c.armFail = c := if_neg (by rw [h]; decide)
theorem armRefuse_idle {c : Chan} (h : c.ctl.arm = none) : c.armRefuse = c := if_neg (by rw [h]; decide)

theorem frame_armRefuse (c : Chan) : c.Frame [CH_IRQ_STATUS] c.armRefuse := by
  rw [Chan.armRefuse]
  split_ifs
  · exact frame_p (frame_refl _ c) (by decide)
  · exact frame_refl _ c

/-! ### The start of a test (R230) -/

/-- The request bit taken. -/
def Chan.primerAsked (c : Chan) : Chan := c.p SL_CH_CTL_PRIMER_REQ 0

theorem frame_primerAsked (c : Chan) : c.Frame [SL_CH_CTL] c.primerAsked := frame_p (frame_refl _ c) (by decide)

theorem primerPre_frame {l : List Nat} {c d : Chan} (h : c.Frame l d) (hs : ∀ s < 6, SL_STATUS s ∉ l) (he : EN_STATUS ∉ l) (hm : d.modul = c.modul) : d.primerPre = c.primerPre := by
  have hr : (List.range 6).all (fun s => d.b (SL_STATUS_READY s) && !d.b (SL_STATUS_LATCHED s)) = (List.range 6).all (fun s => c.b (SL_STATUS_READY s) && !c.b (SL_STATUS_LATCHED s)) :=
    Bool.eq_iff_iff.2 <| by
      simp only [List.all_eq_true, List.mem_range]
      exact forall₂_congr fun s h6 => by rw [h.b (f := SL_STATUS_READY s) (hs s h6), h.b (f := SL_STATUS_LATCHED s) (hs s h6)]
  have ho : d.enOut = c.enOut := funext fun p => by rw [Chan.enOut, h.gb (f := EN_STATUS_EN_INT) he, h.gb (f := EN_STATUS_EN_PIN) he, hm, Chan.enOut]
  rw [Chan.primerPre, hr, ho, Chan.primerPre]

theorem primerPre_asked (c : Chan) : c.primerAsked.primerPre = c.primerPre := primerPre_frame (frame_primerAsked c) (by decide) (by decide) (Chan.p_modul _ _ _)

/-- The result of a test that begins. -/
def Chan.primerCleared (c : Chan) : Chan := (c.wr PRIMER_RES 0).p PRIMER_RES_RUNNING 1

theorem g_wr_zero (c : Chan) {f : Fld} {a : Nat} (h : f.reg = a) : (c.wr a 0).g f = 0 := by
  rw [Chan.g, h, Chan.rd_wr_same, bitsOf]
  simp

theorem primerCleared_shows (c : Chan) : c.primerCleared.b PRIMER_RES_RUNNING = true ∧ c.primerCleared.b PRIMER_RES_DONE = false ∧ c.primerCleared.g PRIMER_RES_CLASS = 0 ∧
    c.Frame [PRIMER_RES] c.primerCleared := by
  refine ⟨Chan.b_p_one _ _ rfl, ?_, ?_, frame_p (frame_wr (frame_refl _ c) List.mem_cons_self) (by decide)⟩
  · rw [Chan.primerCleared, Chan.b_p_other _ _ _ _ rfl rfl rfl, Chan.b, g_wr_zero c (f := PRIMER_RES_DONE) (a := PRIMER_RES) rfl]
    rfl
  · rw [Chan.primerCleared, Chan.g_p_other _ _ _ _ rfl rfl rfl, g_wr_zero c (f := PRIMER_RES_CLASS) (a := PRIMER_RES) rfl]

theorem frame_primerPhase (c : Chan) (k : Nat) : c.Frame [] (c.primerPhase k) := fun _ _ => rfl

theorem primerStart_meets {c : Chan} (h : c.primerPre = true) : c.primerStart = c.primerCleared.primerPhase 0 := if_pos h

theorem primer_begun (c : Chan) : (c.primerAsked.primerCleared.primerPhase 0).modul.primer = some ⟨0, c.now, none, none, [], false⟩ := by
  rw [Chan.primerPhase, Chan.primerCleared, Chan.p_now, Chan.wr_now, Chan.primerAsked, Chan.p_now]
  rfl

theorem Chan.p_regsMod (c : Chan) (f : Fld) (v : Nat) (r : RegMap) (m : Modul) : ({ c.p f v with regs := r, modul := m } : Chan) = { c with regs := r, modul := m } := rfl
theorem Chan.wr_regsMod (c : Chan) (a v : Nat) (r : RegMap) (m : Modul) : ({ c.wr a v with regs := r, modul := m } : Chan) = { c with regs := r, modul := m } := rfl
theorem Chan.primerPhase_regsMod (c : Chan) (k : Nat) (r : RegMap) (m : Modul) : ({ c.primerPhase k with regs := r, modul := m } : Chan) = { c with regs := r, modul := m } := rfl

theorem begun_rest (c : Chan) : { c.primerAsked.primerCleared.primerPhase 0 with regs := c.regs, modul := c.modul } = c := by
  rw [Chan.primerPhase_regsMod, Chan.primerCleared, Chan.p_regsMod, Chan.wr_regsMod, Chan.primerAsked, Chan.p_regsMod]

/-- A test whose first step is not met, before PRIMER_FAIL. -/
def Chan.primerPreFail (c : Chan) : Chan := c.primerCleared.primerDone.p PRIMER_RES_PRE_FAIL 1

theorem primerPreFail_shows (c : Chan) : c.primerPreFail.b PRIMER_RES_PRE_FAIL = true ∧ c.primerPreFail.b PRIMER_RES_DONE = true ∧ c.primerPreFail.b PRIMER_RES_RUNNING = false ∧
    c.primerPreFail.b SL_IRQ_STATUS_PRIMER_DONE = true ∧ c.Frame primerEndRegs c.primerPreFail ∧ c.primerPreFail.ctl = c.ctl := by
  obtain ⟨hd, hr, hi, hf⟩ := primerDone_shows c.primerCleared
  refine ⟨Chan.b_p_one _ _ rfl, ?_, ?_, ?_, ?_, ?_⟩
  · rw [Chan.primerPreFail, Chan.b_p_other _ _ _ _ rfl rfl rfl, hd]
  · rw [Chan.primerPreFail, Chan.b_p_other _ _ _ _ rfl rfl rfl, hr]
  · rw [Chan.primerPreFail, Chan.b_p_other _ _ _ _ rfl rfl rfl, hi]
  · exact frame_p (frame_trans (frame_mono (primerCleared_shows c).2.2.2 (by decide)) hf) (by decide)
  · rw [Chan.primerPreFail, Chan.p_ctl, primerDone_ctl, Chan.primerCleared, Chan.p_ctl, Chan.wr_ctl]

/-- Outside the ARM sequence such a test only raises PRIMER_FAIL. -/
theorem primerStart_fails {c : Chan} (ha : c.ctl.arm = none) (h : c.primerPre = false) : c.primerStart = c.primerPreFail.raise PRIMER_FAIL := by
  have hctl : c.primerPreFail.ctl.arm = none := by rw [(primerPreFail_shows c).2.2.2.2.2, ha]
  have he : c.primerStart = if c.primerPre then c.primerCleared.primerPhase 0 else (c.primerPreFail.armRefuse.raise PRIMER_FAIL).armFail := rfl
  rw [he, if_neg (by rw [h]; decide), armRefuse_idle hctl, armFail_idle ((react_raise (q := true) (react_refl _)).noArm hctl)]

theorem doPrimerReq_may {c : Chan} (h : c.state = PRIMED ∧ c.ctl.arm = none ∧ c.modul.primer = none) : doPrimerReq c = c.primerAsked.primerStart :=
  if_pos ⟨h.1, by rw [h.2.1]; rfl, by rw [h.2.2]; rfl⟩

theorem doPrimerReq_not {c : Chan} (h : ¬ (c.state = PRIMED ∧ c.ctl.arm = none ∧ c.modul.primer = none)) : doPrimerReq c = c.primerAsked :=
  if_neg (by simpa only [Option.isNone_iff_eq_none] using h)

/-! ### The average of a phase (R231) -/

/-- The class's code and whether the rail is unknown. -/
theorem classify_code (r vh vl : Int) : (classify r vh vl).1.code = (if 81920 ≤ r then 1 else if 32768 ≤ r then 0 else if vh ≤ -300 then 3 else 2) ∧
    (classify r vh vl).2 = ((if 81920 ≤ r then 1 else if 32768 ≤ r then 0 else if vh ≤ -300 then 3 else 2) == 2 && decide (vl + vh < 2000)) := by
  rw [classify]
  split_ifs <;> exact ⟨rfl, rfl⟩

/-- What the average of phase `k` reports. -/
def Chan.primerReport (c : Chan) (k : Nat) (vh vl r : Int) : Chan :=
  (((c.pi (PRIMER_VLH_VH k) (sat16 (rdiv vh 50))).pi (PRIMER_VLH_VL k) (sat16 (rdiv vl 50))).p ⟨PRIMER_RATIO, 8 * k + 7, 8 * k⟩ (satI 0 255 (rdiv r 1024)).toNat)

/-- The report with the class. -/
def Chan.primerClassed (c : Chan) (k : Nat) (vh vl r : Int) : Chan :=
  ((c.primerReport k vh vl r).p (primerClass k) (classify r vh vl).1.code).pb PRIMER_RES_RAIL_UNK k (classify r vh vl).2

/-- The next phase, or the last 1 ms of the test. -/
def Chan.primerNext (c : Chan) (p : Primer) (t : Tick) : Chan :=
  if p.phase < 2 then c.primerPhase (p.phase + 1) else c.onMod (fun m => { m with primer := some { p with off := true, since := t } })

theorem primerNext_shows (c : Chan) (p : Primer) (t : Tick) : c.Frame [] (c.primerNext p t) ∧
    (c.primerNext p t).modul.primer = if p.phase < 2 then some ⟨p.phase + 1, c.now, none, none, [], false⟩ else some { p with off := true, since := t } := by
  rw [Chan.primerNext]
  split_ifs <;> exact ⟨fun _ _ => rfl, rfl⟩

theorem doPrimerAverageEnd_due {c : Chan} {p : Primer} (hp : c.modul.primer = some p) (ho : p.off = false) (ha : c.sinceOpt p.avgAt (ms 1) = true) (hs : p.sums ≠ []) :
    doPrimerAverageEnd c =
      (c.primerClassed p.phase (meanOf (p.sums.map (fun x => x.2.1))) (meanOf (p.sums.map (fun x => x.1))) (meanOf (p.sums.map (fun x => x.2.2)))).primerNext p c.now := by
  rw [doPrimerAverageEnd, hp]
  dsimp only
  rw [if_neg (by simp [ho, ha, hs])]
  rfl

theorem primerClassed_shows (c : Chan) {k : Nat} (vh vl r : Int) (hk : k < 3) :
    (c.primerClassed k vh vl r).g (primerClass k) = (classify r vh vl).1.code ∧ (c.primerClassed k vh vl r).gb PRIMER_RES_RAIL_UNK k = (classify r vh vl).2 ∧
    (c.primerClassed k vh vl r).gi (PRIMER_VLH_VH k) = sat16 (rdiv vh 50) ∧ (c.primerClassed k vh vl r).gi (PRIMER_VLH_VL k) = sat16 (rdiv vl 50) ∧
    c.Frame [PRIMER_RES, PRIMER_VLH k, PRIMER_RATIO] (c.primerClassed k vh vl r) ∧ (c.primerClassed k vh vl r).now = c.now := by
  have hrep : (c.pi (PRIMER_VLH_VH k) (sat16 (rdiv vh 50))).pi (PRIMER_VLH_VL k) (sat16 (rdiv vl 50)) |>.Frame [PRIMER_RES, PRIMER_RATIO] (c.primerClassed k vh vl r) :=
    frame_pb (frame_p (frame_p (frame_refl _ _) (by simp)) (by simp [primerClass])) (by decide)
  have hreg : PRIMER_VLH k ∉ [PRIMER_RES, PRIMER_RATIO] := by interval_cases k <;> decide
  refine ⟨?_, ?_, ?_, ?_, ?_, ?_⟩
  · have hok : (primerClass k).ok = true ∧ PRIMER_RES_RAIL_UNK.apart (primerClass k) = true := by interval_cases k <;> decide
    have hw : (primerClass k).hi + 1 - (primerClass k).lo = 2 := by
      change 2 * k + 1 + 1 - 2 * k = 2
      omega
    rw [Chan.primerClassed, Chan.pb, Chan.g_p_other _ _ _ _ rfl hok.1 hok.2, Chan.g_p_same _ _ _ hok.1, hw]
    cases (classify r vh vl).1 <;> rfl
  · rw [Chan.primerClassed, Chan.gb_pb _ k _ rfl (show k < 3 from hk), if_pos rfl]
  · rw [hrep.gi (f := PRIMER_VLH_VH k) hreg]
    have h : ((c.pi (PRIMER_VLH_VH k) (sat16 (rdiv vh 50))).pi (PRIMER_VLH_VL k) (sat16 (rdiv vl 50))).gi (PRIMER_VLH_VH k) = (c.pi (PRIMER_VLH_VH k) (sat16 (rdiv vh 50))).gi (PRIMER_VLH_VH k) :=
      Chan.gi_p_other _ _ _ _ rfl rfl (by simp [Fld.apart, PRIMER_VLH_VL, PRIMER_VLH_VH])
    exact h.trans (Chan.gi_pi_pu16 c rfl rfl (sat16_range _))
  · rw [hrep.gi (f := PRIMER_VLH_VL k) hreg]
    exact Chan.gi_pi_pu16 _ rfl rfl (sat16_range _)
  · exact frame_trans (frame_pi (f := PRIMER_VLH_VL k) (frame_pi (f := PRIMER_VLH_VH k) (frame_refl _ c) (show PRIMER_VLH k ∈ _ by simp)) (show PRIMER_VLH k ∈ _ by simp)) (frame_mono hrep (by simp))
  · rw [Chan.primerClassed, Chan.pb, Chan.p_now, Chan.p_now, Chan.primerReport, Chan.p_now, Chan.pi, Chan.p_now, Chan.pi, Chan.p_now]

/-! ### Readings and the end of the settling (R230) -/

theorem doPrimerReading_average {c : Chan} {p : Primer} {a : Tick} (vl vh ret : Int) (hp : c.modul.primer = some p) (ho : p.off = false) (ha : p.avgAt = some a) :
    doPrimerReading vl vh ret c = c.onMod (fun m => { m with primer := some { p with sums := (vl, vh, ret) :: p.sums } }) := by
  rw [doPrimerReading, hp]
  dsimp only
  rw [if_neg (by rw [ho]; decide), ha]

theorem doPrimerReading_first {c : Chan} {p : Primer} (vl vh ret : Int) (hp : c.modul.primer = some p) (ho : p.off = false) (ha : p.avgAt = none) (hl : p.last = none) :
    doPrimerReading vl vh ret c = c.onMod (fun m => { m with primer := some { p with last := some (vl, vh) } }) := by
  rw [doPrimerReading, hp]
  dsimp only
  rw [if_neg (by rw [ho]; decide), ha, hl]
  rfl

theorem doPrimerReading_next {c : Chan} {p : Primer} {l h : Int} (vl vh ret : Int) (hp : c.modul.primer = some p) (ho : p.off = false) (ha : p.avgAt = none) (hl : p.last = some (l, h)) :
    doPrimerReading vl vh ret c = c.onMod (fun m => { m with primer := some { p with last := some (vl, vh), avgAt := if (settledPair l vl && settledPair h vh) && c.since p.since (ms 1) then some c.now else none } }) := by
  rw [doPrimerReading, hp]
  dsimp only
  rw [if_neg (by rw [ho]; decide), ha, hl]

/-- The end of a test that has found three phases right, outside the ARM sequence. -/
theorem doPrimerTestEnd_right {c : Chan} {p : Primer} (hp : c.modul.primer = some p) (ho : p.off = true) (ht : c.since p.since (ms 1) = true) (hc : c.g PRIMER_RES_CLASS = 0)
    (hn : c.g PRIMER_RES_NSET = 0) (ha : c.ctl.arm = none) : doPrimerTestEnd c = c.primerDone.legClear := by
  have hcl : c.primerDone.g PRIMER_RES_CLASS = 0 ∧ c.primerDone.g PRIMER_RES_NSET = 0 :=
    ⟨(g_primerDone c rfl rfl rfl rfl).trans hc, (g_primerDone c rfl rfl rfl rfl).trans hn⟩
  rw [doPrimerTestEnd, hp]
  dsimp only
  rw [if_neg (by simp [ho, ht]), if_pos hcl, (legClear_shows c.primerDone).2.2.1 (by rw [primerDone_ctl, ha])]

/-- The end of any other. -/
theorem doPrimerTestEnd_wrong {c : Chan} {p : Primer} (hp : c.modul.primer = some p) (ho : p.off = true) (ht : c.since p.since (ms 1) = true)
    (h : c.g PRIMER_RES_CLASS ≠ 0 ∨ c.g PRIMER_RES_NSET ≠ 0) : doPrimerTestEnd c = (c.primerDone.armRefuse.primerLegs.raise PRIMER_FAIL).armFail := by
  have hcl : ¬ (c.primerDone.g PRIMER_RES_CLASS = 0 ∧ c.primerDone.g PRIMER_RES_NSET = 0) := by
    rw [g_primerDone c (f := PRIMER_RES_CLASS) rfl rfl rfl rfl, g_primerDone c (f := PRIMER_RES_NSET) rfl rfl rfl rfl]
    tauto
  rw [doPrimerTestEnd, hp]
  dsimp only
  rw [if_neg (by simp [ho, ht]), if_neg hcl]
  rfl

theorem primerRes_mem : PRIMER_RES ∈ reactionRegs := by
  have h : reactionRegs.contains PRIMER_RES = true := by decide
  simpa using h

theorem slIrq_not_reaction : SL_IRQ_STATUS ∉ reactionRegs := by
  have h : reactionRegs.contains SL_IRQ_STATUS = false := by decide
  simpa using h

theorem chIrq_mem : CH_IRQ_STATUS ∈ reactionRegs := by
  have h : reactionRegs.contains CH_IRQ_STATUS = true := by decide
  simpa using h

/-- A phase's result is the same once the test is over. -/
theorem result_ended (c : Chan) {j : Nat} (hj : j < 3) : c.primerDone.armRefuse.g (primerClass j) = c.g (primerClass j) ∧
    c.primerDone.armRefuse.gb PRIMER_RES_RAIL_UNK j = c.gb PRIMER_RES_RAIL_UNK j := by
  have hf := frame_armRefuse c.primerDone
  have hk : (primerClass j).ok = true ∧ PRIMER_RES_RUNNING.apart (primerClass j) = true ∧ PRIMER_RES_DONE.apart (primerClass j) = true ∧ SL_IRQ_STATUS_PRIMER_DONE.apart (primerClass j) = true := by
    interval_cases j <;> decide
  obtain ⟨h1, h2, h3, h4⟩ := hk
  constructor
  · rw [hf.g (f := primerClass j) (show PRIMER_RES ∉ _ by decide), g_primerDone c h1 h2 h3 h4]
  · rw [hf.gb (f := PRIMER_RES_RAIL_UNK) (show PRIMER_RES ∉ _ by decide), Chan.gb, g_primerDone c rfl rfl rfl rfl, Chan.gb]

theorem clean_ended {c : Chan} {j : Nat} (hj : j < 3) (h : c.primerClean j) : c.primerDone.armRefuse.primerClean j := by
  obtain ⟨h1, h2⟩ := result_ended c hj
  rwa [Chan.primerClean, h1, h2]

/-- The entries of the ended test are those of its result. -/
theorem enters_ended (c : Chan) : c.PrimerEnters c.primerDone.armRefuse.primerLegs := fun j hj hc => by
  obtain ⟨h1, h2⟩ := result_ended c hj
  have h := primerLegs_enters c.primerDone.armRefuse j hj (fun i hi => clean_ended (hi.trans hj) (hc i hi))
  rwa [h1, h2] at h

theorem frame_ended (c : Chan) : c.Frame ([LEG_HEALTH, SL_IRQ_STATUS] ++ reactionRegs) c.primerDone.armRefuse.primerLegs := by
  have hd := (primerDone_shows c).2.2.2
  have hr := frame_armRefuse c.primerDone
  have hl := (ripples_primerLegs c.primerDone.armRefuse).frame
  refine frame_trans (frame_mono hd ?_) (frame_trans (frame_mono hr ?_) (frame_mono hl ?_))
  · simp [primerEndRegs, primerRes_mem]
  · simp [chIrq_mem]
  · simp +contextual

/-- PRIMER_DONE stays through the end of the test. -/
theorem done_ended (c : Chan) : c.primerDone.armRefuse.primerLegs.b SL_IRQ_STATUS_PRIMER_DONE = true := by
  have hn : SL_IRQ_STATUS ∉ [LEG_HEALTH] ++ reactionRegs := by
    rw [List.mem_append]
    exact fun h => h.elim (by decide) slIrq_not_reaction
  rw [(ripples_primerLegs c.primerDone.armRefuse).frame.b (f := SL_IRQ_STATUS_PRIMER_DONE) hn,
    (frame_armRefuse c.primerDone).b (f := SL_IRQ_STATUS_PRIMER_DONE) (show SL_IRQ_STATUS ∉ _ by decide)]
  exact (primerDone_shows c).2.2.1

/-- With nothing entered PRIMER_FAIL is raised in the state the test ended in, and stays latched. -/
theorem ended_latches {c : Chan} (ho : c.state ≠ OFF) (hcl : ∀ j < 3, c.primerClean j) (ha : c.srcActive PRIMER_FAIL = false) :
    ((c.primerDone.armRefuse.primerLegs.raise PRIMER_FAIL).armFail).srcLatched PRIMER_FAIL = true := by
  have hf : c.Frame (primerEndRegs ++ [CH_IRQ_STATUS]) c.primerDone.armRefuse :=
    frame_trans (frame_mono (primerDone_shows c).2.2.2 (fun _ h => List.mem_append_left _ h)) (frame_mono (frame_armRefuse _) (fun _ h => List.mem_append_right _ h))
  rw [primerLegs_clean (fun j hj => clean_ended hj (hcl j hj))]
  obtain ⟨hlat, -, -⟩ := raise_fails (c := c.primerDone.armRefuse) (q := PRIMER_FAIL) (by decide) (by decide) (by rwa [hf.state (by decide)]) (by rwa [hf.srcActive (by decide)])
  exact (react_armFail (q := true) (react_refl _)).latched _ (by decide) hlat

/-- Settles O34: the request, the readings, the average and the end of the test, each by the lemmas about its own operation. -/
theorem primerTest : Obligations.PrimerTest := by
  intro s t ch p vl vh ret c k mVl mVh ratio cls may agree at_ clean enters ho
  have acts {i : Instr} {f : Chan → Chan} {P : Chan → Prop} (he : exec i s = s.live t ch f) (h : P (f c)) : ActsOn i s t ch P := actsOn_live (c := c) rfl he ho h
  have hask := frame_primerAsked c
  refine ⟨?start, ?fails, ?not, ?idle, fun hp => ⟨?average, ?first, ?next, ?settle, ?settleNot, ?report, ?reportNot, ?endNot, ?right, ?wrong⟩⟩
  case start =>
    intro hm hpre
    obtain ⟨hr, hd, hcl, hf⟩ := primerCleared_shows c.primerAsked
    refine acts rfl ?_
    have hph := frame_primerPhase c.primerAsked.primerCleared 0
    have hfull := frame_trans hf (frame_mono (k := [PRIMER_RES]) hph (fun _ h => absurd h List.not_mem_nil))
    rw [doPrimerReq_may hm, primerStart_meets ((primerPre_asked c).trans hpre)]
    refine ⟨primer_begun c, (hph.b List.not_mem_nil).trans hr, (hph.b List.not_mem_nil).trans hd, (hph.g List.not_mem_nil).trans hcl, ?_,
      frame_trans (frame_mono hask (by decide)) (frame_mono hfull (by decide)), begun_rest c⟩
    exact (hfull.g (f := SL_CH_CTL_PRIMER_REQ) (show SL_CH_CTL ∉ _ by decide)).trans (Chan.g_p_same c _ _ rfl)
  case fails =>
    intro hm hpre ha
    have harm : c.primerAsked.ctl.arm = none := (congrArg Ctl.arm (Chan.p_ctl c _ _)).trans hm.2.1
    obtain ⟨hpf, hd, hr, hi, hf, -⟩ := primerPreFail_shows c.primerAsked
    have hfr := frame_trans (frame_mono hask (k := [SL_CH_CTL, SL_IRQ_STATUS, PRIMER_RES]) (by decide)) (frame_mono hf (by decide))
    have hraise := frame_reacts (react_raise (q := true) (s := PRIMER_FAIL) (react_refl c.primerAsked.primerPreFail))
    obtain ⟨hlat, -, -⟩ := raise_fails (c := c.primerAsked.primerPreFail) (q := PRIMER_FAIL) (by decide) (by decide) (by rwa [hfr.state (by decide)]) (by rwa [hfr.srcActive (by decide)])
    refine acts rfl ?_
    rw [doPrimerReq_may hm, primerStart_fails harm ((primerPre_asked c).trans hpre)]
    refine ⟨hlat, (hraise.b (f := SL_IRQ_STATUS_PRIMER_DONE) slIrq_not_reaction).trans hi, ?_, _, hpf, hd, hr, hfr, rfl⟩
    exact frame_trans (frame_mono hfr (by simp [primerRes_mem])) (frame_mono hraise (fun _ h => List.mem_append_right _ h))
  case not =>
    intro hm
    refine acts rfl ?_
    rw [doPrimerReq_not hm]
    exact ⟨Chan.g_p_same c _ _ rfl, hask, rfl⟩
  case idle =>
    intro hp
    exact ⟨acts rfl (by rw [doPrimerReading, hp]), acts rfl (by rw [doPrimerSettleTimeout, hp]), acts rfl (by rw [doPrimerAverageEnd, hp]), acts rfl (by rw [doPrimerTestEnd, hp])⟩
  case average => exact fun a h1 h2 => acts rfl (doPrimerReading_average vl vh ret hp h1 h2)
  case first =>
    intro h1 h2 h3
    exact acts rfl (doPrimerReading_first vl vh ret hp h1 h2 h3)
  case next => exact fun l h h1 h2 h3 => acts rfl (doPrimerReading_next vl vh ret hp h1 h2 h3)
  case settle =>
    intro h1 h2 h3 h4
    refine acts rfl ?_
    rw [doPrimerSettleTimeout, hp]
    dsimp only
    rw [if_neg (by simp [h1, h2, h3])]
    exact ⟨(Chan.gb_pb _ k true rfl (show k < 3 from h4)).trans (if_pos rfl), rfl, frame_pb (fun _ _ => rfl) (by decide)⟩
  case settleNot =>
    intro h
    refine acts rfl ?_
    rw [doPrimerSettleTimeout, hp]
    refine if_pos ?_
    rcases h with h | h | h
    · exact .inl h
    · exact .inr (.inl h)
    · exact .inr (.inr (by rw [h]; rfl))
  case report =>
    intro h1 h2 h3 h4
    obtain ⟨hcl, hun, hvh, hvl, hf, hnow⟩ := primerClassed_shows c mVh mVl ratio h4
    obtain ⟨hc1, hc2⟩ := classify_code ratio mVh mVl
    refine acts rfl ?_
    rw [doPrimerAverageEnd_due hp h1 h2 h3]
    obtain ⟨hfn, hpn⟩ := primerNext_shows (c.primerClassed k mVh mVl ratio) p c.now
    have hff := frame_mono (k := [PRIMER_RES, PRIMER_VLH k, PRIMER_RATIO]) hfn (fun _ h => absurd h List.not_mem_nil)
    refine ⟨(hfn.g List.not_mem_nil).trans (hcl.trans hc1), (hfn.gb List.not_mem_nil k).trans (hun.trans hc2), (hfn.gi List.not_mem_nil).trans hvh, (hfn.gi List.not_mem_nil).trans hvl, ?_,
      frame_trans hf hff⟩
    rw [hnow] at hpn
    exact hpn
  case reportNot =>
    intro h
    refine acts rfl ?_
    rw [doPrimerAverageEnd, hp]
    refine if_pos ?_
    rcases h with h | h | h
    · exact .inl h
    · exact .inr (.inl (by rw [h]; rfl))
    · exact .inr (.inr (by rw [h]; rfl))
  case endNot =>
    intro h
    refine acts rfl ?_
    rw [doPrimerTestEnd, hp]
    refine if_pos ?_
    rcases h with h | h
    · exact .inl (by rw [h]; rfl)
    · exact .inr (by rw [h]; rfl)
  case right =>
    intro h1 h2 h3 h4 h5
    obtain ⟨hd, hr, hi, hf⟩ := primerDone_shows c
    obtain ⟨hz, hlf, -, hid⟩ := legClear_shows c.primerDone
    have hn : SL_IRQ_STATUS ∉ [LEG_HEALTH] ++ reactionRegs := by
      rw [List.mem_append]
      exact fun h => h.elim (by decide) slIrq_not_reaction
    refine acts rfl ?_
    rw [doPrimerTestEnd_right hp h1 h2 h3 h4 h5]
    refine ⟨(hlf.b (f := SL_IRQ_STATUS_PRIMER_DONE) hn).trans hi, hz, frame_trans (frame_mono hf (by simp [primerEndRegs, primerRes_mem])) (frame_mono hlf (by simp +contextual)), fun h0 => ?_⟩
    rw [hid ((hf LEG_HEALTH (by decide)).trans h0)]
    exact ⟨hd, hr, hf⟩
  case wrong =>
    intro h1 h2 h3
    have he := enters_ended c
    have hraise := react_raise (q := true) (s := PRIMER_FAIL) (react_refl c.primerDone.armRefuse.primerLegs)
    have hend := react_armFail hraise
    have hfe := frame_reacts hend
    refine acts rfl ?_
    rw [doPrimerTestEnd_wrong hp h1 h2 h3]
    refine ⟨he.reacts hend, (hfe.b (f := SL_IRQ_STATUS_PRIMER_DONE) slIrq_not_reaction).trans (done_ended c), armFail_none _,
      frame_trans (frame_ended c) (frame_mono hfe (fun _ h => List.mem_append_right _ h)), fun hcl ha => ?_, _, he, rfl⟩
    exact ended_latches ho hcl ha

end Sys2Proof.Machine
end

section
/-! PROOFS. An island that powers up while the chopper is on: O33. -/

namespace Sys2Proof.Machine
open Sys2Proof

/-- The chopper is on, its slice ready and enabled; a minimum time has long passed. -/
def chopping : Chan :=
  ((((({ id := .a, slices := List.replicate 8 {} } : Chan).p CH_STATE_STATE PRIMED).p CHOP_STATUS_ON 1).p (SL_STATUS_READY 6) 1).p (SL_STATUS_EN 6) 1)

/-- The loss of READY turns the chopper off, and the edge that does it forms a tag for the slice that has just powered up. -/
theorem chopping_forms_tag : ((doIslandPowerUp 6 chopping).sl 6).tags ≠ [] := by decide +kernel

/-- Refutes O33: the island of slice 6 that powers up while the chopper is on has a tag under way, that of the edge by which the fall of READY turns the
chopper off (R208, R222, R244); the clause of the power-up lacks that the chopper is off. -/
theorem not_sliceLinkSupervision : ¬ Obligations.SliceLinkSupervision := by
  intro h
  have hs : (aloneWith chopping).m.seen 0 .a = chopping := seen_aloneWith _ rfl
  have ho : ((aloneWith chopping).m.seen 0 .a).state ≠ OFF := by rw [hs]; decide +kernel
  obtain ⟨-, -, -, -, hup, -⟩ := h (aloneWith chopping) 0 .a 6 ho (by decide) (by rw [hs]; decide +kernel)
  obtain ⟨-, -, -, htags, -⟩ := of_actsOn_live (f := doIslandPowerUp 6) rfl ho (hup (by rw [hs]; rfl))
  rw [hs] at htags
  exact chopping_forms_tag htags

end Sys2Proof.Machine
end

section
/-! PROOFS. What the reaction to sources leaves of the chopper's proof and of the sources of the chopper and the external overvoltage. -/

namespace Sys2Proof.Machine
open Sys2Proof

/-- The sources of PROT that no reaction raises or clears by itself: the external overvoltage (R243), the failed chopper (R245), regeneration (R249). -/
def chopSources : List Src := [DCL_EXT, CHOP_FAIL, REGEN_ASC]

/-- The proof of the chopper that is due and the ACTIVE bits of those sources. -/
def Chan.chopWatch (c : Chan) : Option ChopProof × List Bool := (c.prot.proof, chopSources.map c.srcActive)

theorem chopWatch_proof {c d : Chan} (h : d.chopWatch = c.chopWatch) : d.prot.proof = c.prot.proof := congrArg Prod.fst h

theorem chopWatch_active {c d : Chan} (h : d.chopWatch = c.chopWatch) {k : Src} (hk : k ∈ chopSources) : d.srcActive k = c.srcActive k :=
  List.map_inj_left.1 (congrArg Prod.snd h) k hk

theorem chopSources_prot {k : Src} (h : k ∈ chopSources) : (srcRegs k.blk).src = PROT_SRC_STATUS ∧ k.bit < 16 := by
  revert k
  decide

/-- Where the proof is as before, and of PROT_SRC_STATUS the bits of those sources. -/
theorem chopWatch_of_bits {c d : Chan} (hp : d.prot.proof = c.prot.proof)
    (hr : ∀ k ∈ chopSources, (d.rd PROT_SRC_STATUS).testBit (16 + k.bit) = (c.rd PROT_SRC_STATUS).testBit (16 + k.bit)) : d.chopWatch = c.chopWatch :=
  Prod.ext hp (List.map_congr_left fun k hk => by rw [Chan.srcActive, Chan.srcActive, (chopSources_prot hk).1, hr k hk])

theorem chopWatch_of_rd {c d : Chan} (hp : d.prot.proof = c.prot.proof) (hr : d.rd PROT_SRC_STATUS = c.rd PROT_SRC_STATUS) : d.chopWatch = c.chopWatch :=
  chopWatch_of_bits hp fun _ _ => by rw [hr]

theorem chopWatch_ite {q : Prop} [Decidable q] {c x y : Chan} (hx : x.chopWatch = c.chopWatch) (hy : y.chopWatch = c.chopWatch) :
    (if q then x else y).chopWatch = c.chopWatch := by
  split_ifs
  · exact hx
  · exact hy

theorem chopWatch_foldl {α : Type} {f : Chan → α → Chan} {l : List α} (hf : ∀ x ∈ l, ∀ d : Chan, (f d x).chopWatch = d.chopWatch) (c : Chan) :
    (l.foldl f c).chopWatch = c.chopWatch := by
  induction l generalizing c with
  | nil => rfl
  | cons x l ih => exact (ih (fun y hy => hf y (List.mem_cons_of_mem _ hy)) _).trans (hf x List.mem_cons_self c)

/-! ### Registers and parts of the state -/

@[simp] theorem chopWatch_wr {c : Chan} {a v : Nat} (h : PROT_SRC_STATUS ≠ a) : (c.wr a v).chopWatch = c.chopWatch :=
  chopWatch_of_rd rfl (Chan.rd_wr_other _ _ _ _ h)
@[simp] theorem chopWatch_p {c : Chan} {f : Fld} {v : Nat} (h : PROT_SRC_STATUS ≠ f.reg) : (c.p f v).chopWatch = c.chopWatch := chopWatch_wr h
@[simp] theorem chopWatch_pb {c : Chan} {f : Fld} {i : Nat} {v : Bool} (h : PROT_SRC_STATUS ≠ f.reg) : (c.pb f i v).chopWatch = c.chopWatch := chopWatch_wr h
@[simp] theorem chopWatch_satInc {c : Chan} {f : Fld} (h : PROT_SRC_STATUS ≠ f.reg) : (c.satInc f).chopWatch = c.chopWatch := chopWatch_wr h
@[simp] theorem chopWatch_wrapInc {c : Chan} {f : Fld} (h : PROT_SRC_STATUS ≠ f.reg) : (c.wrapInc f).chopWatch = c.chopWatch := chopWatch_wr h
theorem chopWatch_onProt {c : Chan} {f : Prot → Prot} (h : (f c.prot).proof = c.prot.proof) : (c.onProt f).chopWatch = c.chopWatch := chopWatch_of_rd h rfl

theorem protSrc_ne_slStatus (s : Nat) : PROT_SRC_STATUS ≠ SL_STATUS s := by
  rw [PROT_SRC_STATUS, SL_STATUS]
  omega

@[simp] theorem chopWatch_onCtl (c : Chan) (f : Ctl → Ctl) : (c.onCtl f).chopWatch = c.chopWatch := chopWatch_of_rd rfl rfl
@[simp] theorem chopWatch_onMod (c : Chan) (f : Modul → Modul) : (c.onMod f).chopWatch = c.chopWatch := chopWatch_of_rd rfl rfl
@[simp] theorem chopWatch_onDust (c : Chan) (f : Dust → Dust) : (c.onDust f).chopWatch = c.chopWatch := chopWatch_of_rd rfl rfl
@[simp] theorem chopWatch_onMsio (c : Chan) (f : Msio → Msio) : (c.onMsio f).chopWatch = c.chopWatch := chopWatch_of_rd rfl rfl
@[simp] theorem chopWatch_onLife (c : Chan) (f : Life → Life) : (c.onLife f).chopWatch = c.chopWatch := chopWatch_of_rd rfl rfl
@[simp] theorem chopWatch_onDtc (c : Chan) (f : Dtc → Dtc) : (c.onDtc f).chopWatch = c.chopWatch := chopWatch_of_rd rfl rfl
@[simp] theorem chopWatch_onSl (c : Chan) (n : Nat) (f : SliceSt → SliceSt) : (c.onSl n f).chopWatch = c.chopWatch := chopWatch_of_rd rfl rfl
@[simp] theorem chopWatch_evt (c : Chan) (t b i s x y : Nat) : (c.evt t b i s x y).chopWatch = c.chopWatch := chopWatch_of_rd rfl rfl
@[simp] theorem chopWatch_srcEvt (c : Chan) (t : Nat) (s : Src) : (c.srcEvt t s).chopWatch = c.chopWatch := chopWatch_of_rd rfl rfl
@[simp] theorem chopWatch_answer (c : Chan) (op : ChOp) (st : Nat) (w : List Nat) : (c.answer op st w).chopWatch = c.chopWatch := chopWatch_of_rd rfl rfl
@[simp] theorem chopWatch_armAnswer (c : Chan) (st : Nat) : (c.armAnswer st).chopWatch = c.chopWatch := chopWatch_of_rd rfl rfl
@[simp] theorem chopWatch_recordLeg (c : Chan) (p : Nat) (t : Tick) : (c.recordLeg p t).chopWatch = c.chopWatch := chopWatch_of_rd rfl rfl
@[simp] theorem chopWatch_legChange (c : Chan) (p : Nat) (t : Tick) (pu : Bool) : (c.legChange p t pu).chopWatch = c.chopWatch := chopWatch_of_rd rfl rfl

@[simp] theorem chopWatch_transCheck (c : Chan) : c.transCheck.chopWatch = c.chopWatch := by
  obtain ⟨x, hx, -⟩ := transCheck_eq c
  rw [hx]
  rfl

/-! ### Sources other than those -/

/-- A source whose bits are none of those. -/
def Src.offChop (s : Src) : Bool := (srcRegs s.blk).src != PROT_SRC_STATUS || (Nat.blt s.bit 16 && !(chopSources.map Src.bit).contains s.bit)

/-- A SRC_STATUS register written with the bits of one of the other sources changed. -/
theorem chopWatch_wrSrc {c : Chan} {s : Src} {v : Nat} (h : s.offChop = true)
    (hv : ∀ i, i ≠ s.bit → i ≠ 16 + s.bit → v.testBit i = (c.rd (srcRegs s.blk).src).testBit i) : (c.wr (srcRegs s.blk).src v).chopWatch = c.chopWatch := by
  by_cases he : (srcRegs s.blk).src = PROT_SRC_STATUS
  · refine chopWatch_of_bits rfl fun k hk => ?_
    have hkb := (chopSources_prot hk).2
    have hb : s.bit < 16 ∧ k.bit ≠ s.bit := by
      simp only [Src.offChop, he, bne_self_eq_false, Bool.false_or, Bool.and_eq_true, Nat.blt_eq, Bool.not_eq_true', List.contains_eq_mem, decide_eq_false_iff_not] at h
      exact ⟨h.1, fun e => h.2 (e ▸ List.mem_map_of_mem hk)⟩
    rw [he] at hv ⊢
    rw [Chan.rd_wr_same, Nat.testBit_mod_two_pow, hv _ (by omega) (by omega)]
    simp [show 16 + k.bit < 32 by omega]
  · exact chopWatch_wr fun e => he e.symm

/-- A capture writes the four registers of its block (R92). -/
theorem rd_capture (c : Chan) (s : Src) (seq slice : Nat) {a : Nat} (h : ∀ i < 13, a ≠ (srcRegs s.blk).ff + i) : (c.capture s seq slice).rd a = c.rd a := by
  unfold Chan.capture
  have h0 (d : Chan) (v : Nat) : (d.wr (srcRegs s.blk).ff v).rd a = d.rd a := Chan.rd_wr_other _ _ _ _ (h 0 (by omega))
  dsimp only
  by_cases hb : ((c.rd (srcRegs s.blk).ff).testBit 31) = true
  · rw [if_pos hb, h0]
  · rw [if_neg hb, Chan.rd_wr_other _ _ _ _ (h 12 (by omega)), Chan.rd_wr_other _ _ _ _ (h 8 (by omega)), Chan.rd_wr_other _ _ _ _ (h 4 (by omega)), h0]

theorem prot_capture (c : Chan) (s : Src) (seq slice : Nat) : (c.capture s seq slice).prot = c.prot := by
  unfold Chan.capture
  dsimp only
  split_ifs <;> rfl

/-- The SRC_STATUS word of a source that becomes active. -/
def Chan.srcSet (c : Chan) (s : Src) : Chan := c.wr (srcRegs s.blk).src (setBit (setBit (c.rd (srcRegs s.blk).src) (16 + s.bit) true) s.bit true)

theorem rd_srcOn (c : Chan) (s : Src) (slice : Nat) {a : Nat} (h : ∀ i < 13, a ≠ (srcRegs s.blk).ff + i) : (c.srcOn s slice).rd a = (c.srcSet s).rd a := by
  unfold Chan.srcOn
  dsimp only
  split_ifs
  · exact rd_capture _ s _ slice h
  · rfl

theorem prot_srcOn (c : Chan) (s : Src) (slice : Nat) : (c.srcOn s slice).prot = c.prot := by
  unfold Chan.srcOn
  dsimp only
  split_ifs
  · exact prot_capture _ s _ slice
  · rfl

theorem chopWatch_srcOn {c : Chan} {s : Src} {slice : Nat} (h : s.offChop = true) : (c.srcOn s slice).chopWatch = c.chopWatch := by
  have hw : (c.srcSet s).chopWatch = c.chopWatch := chopWatch_wrSrc h fun i h1 h2 => by rw [testBit_setBit, testBit_setBit, if_neg h1, if_neg h2]
  exact (chopWatch_of_rd (c := c.srcSet s) (congrArg Prot.proof (prot_srcOn c s slice)) (rd_srcOn c s slice fun i hi => ff_not_src 8 s.blk i hi)).trans hw

theorem chopWatch_srcOff {c : Chan} {s : Src} (h : s.offChop = true) : (c.srcOff s).chopWatch = c.chopWatch :=
  (chopWatch_srcEvt _ 1 s).trans (chopWatch_wrSrc h fun i _ h2 => by rw [testBit_setBit, if_neg h2])

theorem chopWatch_offIf {c : Chan} {s : Src} (h : s.offChop = true) : (c.offIf s).chopWatch = c.chopWatch := chopWatch_ite (chopWatch_srcOff h) rfl

/-! ### Gate drive and contactors -/

@[simp] theorem chopWatch_wire (c : Chan) (s : Nat) (t : Tick) (pu en : Bool) : (c.wire s t pu en).chopWatch = c.chopWatch :=
  chopWatch_ite (chopWatch_onSl _ _ _) ((chopWatch_p (protSrc_ne_slStatus s)).trans (chopWatch_p (protSrc_ne_slStatus s)))

@[simp] theorem chopWatch_edgeOut (c : Chan) (p : Nat) (t : Tick) (pu en : Bool) : (c.edgeOut p t pu en).chopWatch = c.chopWatch := by
  unfold Chan.edgeOut
  exact (chopWatch_onMod _ _).trans (chopWatch_foldl (fun s _ d => (chopWatch_onSl _ _ _).trans (chopWatch_wire d s t pu en)) c)

@[simp] theorem chopWatch_sendPairAt (c : Chan) (p : Nat) (t : Tick) : (c.sendPairAt p t).chopWatch = c.chopWatch :=
  chopWatch_ite rfl (chopWatch_ite (chopWatch_edgeOut _ _ _ _ _) (chopWatch_edgeOut _ _ _ _ _))

@[simp] theorem chopWatch_setPairAt (c : Chan) (p : Nat) (t : Tick) (en pu : Bool) : (c.setPairAt p t en pu).chopWatch = c.chopWatch :=
  (chopWatch_sendPairAt _ p t).trans ((chopWatch_pb (by decide)).trans ((chopWatch_pb (by decide)).trans (chopWatch_ite (chopWatch_legChange c p t pu) rfl)))

@[simp] theorem chopWatch_setLegs (c : Chan) (en pu : Nat) : (c.setLegs en pu).chopWatch = c.chopWatch := chopWatch_foldl (fun _ _ _ => chopWatch_setPairAt _ _ _ _ _) c
@[simp] theorem chopWatch_legsOff (c : Chan) : c.legsOff.chopWatch = c.chopWatch := chopWatch_foldl (fun _ _ _ => chopWatch_setPairAt _ _ _ _ _) c

@[simp] theorem chopWatch_togglePair (c : Chan) (p : Nat) : (c.togglePair p).chopWatch = c.chopWatch := by
  simp [Chan.togglePair, apply_ite Chan.chopWatch]

@[simp] theorem chopWatch_setDchgOut (c : Chan) (on : Bool) : (c.setDchgOut on).chopWatch = c.chopWatch := chopWatch_ite rfl (chopWatch_wire _ _ _ _ _)

@[simp] theorem chopWatch_cmpCont (c : Chan) (n : Nat) : (c.cmpCont n).chopWatch = c.chopWatch := by
  unfold Chan.cmpCont
  extract_lets k dis c1
  have h1 : c1.chopWatch = c.chopWatch := (chopWatch_onMsio _ _).trans (chopWatch_pb (by decide))
  exact chopWatch_ite ((chopWatch_srcOff (by decide)).trans h1) h1

@[simp] theorem chopWatch_setCdrv (c : Chan) (n : Nat) (v : Bool) : (c.setCdrv n v).chopWatch = c.chopWatch :=
  chopWatch_ite rfl ((chopWatch_cmpCont _ _).trans (chopWatch_pb (by decide)))

@[simp] theorem chopWatch_cdrvAllLow (c : Chan) : c.cdrvAllLow.chopWatch = c.chopWatch := by simp [Chan.cdrvAllLow]

@[simp] theorem chopWatch_openMask (c : Chan) (m : Nat) : (c.openMask m).chopWatch = c.chopWatch :=
  chopWatch_foldl (fun _ _ _ => chopWatch_ite (chopWatch_setCdrv _ _ _) rfl) c

/-! ### Discharge, the ends of a sequence -/

@[simp] theorem chopWatch_dchgTry (c : Chan) : c.dchgTry.chopWatch = c.chopWatch := by
  unfold Chan.dchgTry
  split
  · rfl
  · exact chopWatch_ite rfl ((chopWatch_setDchgOut _ _).trans ((chopWatch_p (by decide)).trans (chopWatch_onProt rfl)))

@[simp] theorem chopWatch_dchgAsk (c : Chan) (s4 pin cmd : Bool) : (c.dchgAsk s4 pin cmd).chopWatch = c.chopWatch := by
  unfold Chan.dchgAsk
  refine chopWatch_ite rfl ?_
  split
  · exact chopWatch_onProt rfl
  · exact (chopWatch_dchgTry _).trans ((chopWatch_p (by decide)).trans ((chopWatch_onProt rfl).trans (chopWatch_ite (chopWatch_srcOff (by decide)) rfl)))

@[simp] theorem chopWatch_windEnd (c : Chan) (st : Nat) : (c.windEnd st).chopWatch = c.chopWatch :=
  chopWatch_ite ((chopWatch_p (by decide)).trans (chopWatch_onProt rfl)) rfl

@[simp] theorem chopWatch_primerAbort (c : Chan) : c.primerAbort.chopWatch = c.chopWatch := chopWatch_ite (chopWatch_p (by decide)) rfl

@[simp] theorem chopWatch_armEnd (c : Chan) : c.armEnd.chopWatch = c.chopWatch := by
  unfold Chan.armEnd
  split
  · rfl
  · rw [chopWatch_primerAbort]
    exact chopWatch_ite (by simp) (by simp (disch := decide))

@[simp] theorem chopWatch_reqDiscard (c : Chan) : c.reqDiscard.chopWatch = c.chopWatch := chopWatch_p (by decide)

@[simp] theorem chopWatch_armLost (c : Chan) (arm : Option ArmSeq) : (c.armLost arm).chopWatch = c.chopWatch := by
  unfold Chan.armLost
  split
  · rfl
  · exact chopWatch_ite (by simp [Chan.armDiscard]) (chopWatch_armAnswer c _)

@[simp] theorem chopWatch_beginHold (c : Chan) (kind : Nat) : (c.beginHold kind).chopWatch = c.chopWatch := by
  unfold Chan.beginHold
  refine chopWatch_ite rfl (chopWatch_ite (chopWatch_ite rfl ?_) (chopWatch_ite rfl ?_))
  · simp (disch := decide)
  · simp (disch := decide)

@[simp] theorem chopWatch_s4Requests (c : Chan) : c.s4Requests.chopWatch = c.chopWatch := by simp (disch := decide) [Chan.s4Requests]

/-! ### The change of state (R50, R51) -/

@[simp] theorem chopWatch_leaveFault (c : Chan) : c.leaveFault.chopWatch = c.chopWatch := by
  unfold Chan.leaveFault
  refine (chopWatch_foldl (fun _ _ _ => chopWatch_ite (chopWatch_togglePair _ _) rfl) _).trans ?_
  simp (disch := decide)

theorem chopWatch_maskReport (c : Chan) : c.maskReport.chopWatch = c.chopWatch :=
  chopWatch_ite (chopWatch_p (by decide)) ((chopWatch_p (by decide)).trans (chopWatch_p (by decide)))

/-- The sources that RUN alone has are none of those. -/
theorem runSources_offChop : ∀ s ∈ runSources, s.offChop = true := by decide

@[simp] theorem chopWatch_leaveRun (c : Chan) : c.leaveRun.chopWatch = c.chopWatch := by
  unfold Chan.leaveRun
  extract_lets c1 c2 c3 c4 c5
  have h1 : c1.chopWatch = c.chopWatch := (chopWatch_foldl (fun s hs _ => chopWatch_offIf (runSources_offChop s hs)) _).trans (chopWatch_offIf (by decide))
  have h2 : c2.chopWatch = c.chopWatch := chopWatch_ite h1 ((chopWatch_offIf (by decide)).trans h1)
  clear_value c2
  have h3 : c3.chopWatch = c.chopWatch := by simp (disch := decide) [c3, chopWatch_maskReport, h2]
  clear_value c3
  have h4 : c4.chopWatch = c.chopWatch := (chopWatch_onDtc c3 _).trans h3
  clear_value c4
  have h5 : c5.chopWatch = c.chopWatch := chopWatch_ite (by simp (disch := decide) [h4]) h4
  clear_value c5
  exact (chopWatch_of_rd rfl rfl).trans h5

@[simp] theorem chopWatch_engineIdle (c : Chan) : c.engineIdle.chopWatch = c.chopWatch := by simp (disch := decide) [Chan.engineIdle, chopWatch_offIf]

@[simp] theorem chopWatch_setState (c : Chan) (st cause : Nat) : (c.setState st cause).chopWatch = c.chopWatch := by
  unfold Chan.setState
  extract_lets old c1 c2 c3 c4 c5 moot c6 c7 c8
  have h2 : c2.chopWatch = c.chopWatch := by simp (disch := decide) [c2, c1]
  clear_value c2
  have h3 : c3.chopWatch = c.chopWatch := chopWatch_ite ((chopWatch_leaveRun _).trans h2) h2
  clear_value c3
  have h4 : c4.chopWatch = c.chopWatch := chopWatch_ite h3 ((chopWatch_offIf (by decide)).trans h3)
  clear_value c4
  have h5 : c5.chopWatch = c.chopWatch := chopWatch_ite h4 ((chopWatch_offIf (by decide)).trans h4)
  clear_value c5
  have h6 : c6.chopWatch = c.chopWatch := (chopWatch_onCtl _ _).trans (chopWatch_ite ((chopWatch_reqDiscard _).trans h5) h5)
  clear_value c6
  have h7 : c7.chopWatch = c.chopWatch := chopWatch_ite ((chopWatch_engineIdle _).trans h6) h6
  clear_value c7
  have h8 : c8.chopWatch = c.chopWatch := (chopWatch_onDust _ _).trans (chopWatch_ite ((chopWatch_leaveFault _).trans h7) h7)
  clear_value c8
  exact (chopWatch_of_rd rfl rfl).trans h8

@[simp] theorem chopWatch_enterFault (c : Chan) : c.enterFault.chopWatch = c.chopWatch := by
  simp (disch := decide) [Chan.enterFault]

/-! ### The arrival of a source, the selection of the safe state (R262, R263, R274) -/

theorem chopWatch_captureCause (c : Chan) (s : Src) (sev seq time : Nat) : (c.captureCause s sev seq time).chopWatch = c.chopWatch := by simp (disch := decide) [Chan.captureCause]

theorem chopWatch_ringRename (c : Chan) (seq : Nat) : (c.ringRename seq).chopWatch = c.chopWatch := by
  unfold Chan.ringRename
  split
  · exact chopWatch_ite rfl rfl
  · rfl

theorem chopWatch_ringTrigger (c : Chan) (time cause seq : Nat) : (c.ringTrigger time cause seq).chopWatch = c.chopWatch := by
  unfold Chan.ringTrigger
  split <;> rfl

@[simp] theorem chopWatch_arrive (c : Chan) (s : Src) (seq : Nat) : (c.arrive s seq).chopWatch = c.chopWatch := by
  unfold Chan.arrive
  extract_lets sev t d c1 c2
  have hd : d.chopWatch = c.chopWatch := chopWatch_captureCause _ _ _ _ _
  have h1 : c1.chopWatch = c.chopWatch := by
    refine chopWatch_ite (chopWatch_ite hd (chopWatch_ite ?_ (chopWatch_p (by decide)))) ?_
    · exact (chopWatch_ringRename _ _).trans ((chopWatch_p (by decide)).trans hd)
    · exact (chopWatch_enterFault _).trans ((chopWatch_ringTrigger _ _ _ _).trans hd)
  have h2 : c2.chopWatch = c.chopWatch := (chopWatch_beginHold _ _).trans h1
  exact chopWatch_ite rfl (chopWatch_ite ((chopWatch_s4Requests _).trans h2) h2)

theorem chopWatch_raise0 {c : Chan} {s : Src} (h : s.offChop = true) : (c.raise0 s).chopWatch = c.chopWatch :=
  chopWatch_ite rfl ((chopWatch_arrive _ _ _).trans (chopWatch_srcOn h))

theorem chopWatch_pulse0 {c : Chan} {s : Src} (h : s.offChop = true) : (c.pulse0 s).chopWatch = c.chopWatch :=
  chopWatch_ite rfl ((chopWatch_arrive _ _ _).trans ((chopWatch_srcOff h).trans (chopWatch_srcOn h)))

@[simp] theorem chopWatch_cancelCommit (c : Chan) (code : Nat) : (c.cancelCommit code).chopWatch = c.chopWatch := by
  unfold Chan.cancelCommit
  split
  · rfl
  · rw [chopWatch_pulse0 (by decide), chopWatch_answer]
    simp (disch := decide) [Chan.commitCode]

@[simp] theorem chopWatch_windAbort (c : Chan) : c.windAbort.chopWatch = c.chopWatch := by
  unfold Chan.windAbort
  have hd : ((c.windEnd 5).raise0 WD_ABORT).chopWatch = c.chopWatch := (chopWatch_raise0 (by decide)).trans (chopWatch_windEnd _ _)
  exact chopWatch_ite (chopWatch_ite ((chopWatch_cancelCommit _ _).trans hd) hd) rfl

@[simp] theorem chopWatch_reacqLeave (c : Chan) : c.reacqLeave.chopWatch = c.chopWatch := by
  unfold Chan.reacqLeave
  exact chopWatch_ite ((chopWatch_p (by decide)).trans ((chopWatch_of_rd rfl rfl).trans (chopWatch_p (f := TRUST_STATUS_REACQ) (by decide)))) rfl

@[simp] theorem chopWatch_applySel (c : Chan) : c.applySel.chopWatch = c.chopWatch := by
  unfold Chan.applySel
  extract_lets z safe c0 en c1 c2 c3 c4
  have h0 : c0.chopWatch = c.chopWatch := chopWatch_p (by decide)
  clear_value c0
  have h1 : c1.chopWatch = c.chopWatch := (chopWatch_reacqLeave _).trans ((chopWatch_p (by decide)).trans ((chopWatch_p (by decide)).trans h0))
  clear_value c1
  have h2 : c2.chopWatch = c.chopWatch := (chopWatch_p (by decide)).trans ((chopWatch_wrapInc (by decide)).trans h1)
  clear_value c2
  have h4 : c4.chopWatch = c.chopWatch := (chopWatch_onProt (by split_ifs <;> rfl)).trans h2
  clear_value c4
  exact chopWatch_ite h0 (chopWatch_ite ((chopWatch_legsOff _).trans h4) (chopWatch_ite h4 ((chopWatch_setLegs _ _ _).trans h4)))

@[simp] theorem chopWatch_reselect (c : Chan) : c.reselect.chopWatch = c.chopWatch := by
  unfold Chan.reselect
  extract_lets z c0 c1
  have h1 : c1.chopWatch = c.chopWatch := (chopWatch_applySel _).trans (chopWatch_ite (chopWatch_windEnd _ _) rfl)
  clear_value c1
  refine chopWatch_ite (chopWatch_ite h1 ?_) ((chopWatch_offIf (by decide)).trans h1)
  exact (chopWatch_applySel _).trans ((chopWatch_raise0 (by decide)).trans ((chopWatch_cancelCommit _ _).trans h1))

/-! ### Sources raised -/

/-- A source raised that was not active leaves what its own SRC_STATUS bits leave. -/
theorem chopWatch_raise_own {c : Chan} {s : Src} (ho : c.state ≠ OFF) (ha : c.srcActive s = false) : (c.raise s).chopWatch = (c.srcOn s 0).chopWatch := by
  have hn : ¬ (c.state = OFF ∨ c.srcActive s = true) := by simp [ho, ha]
  rw [Chan.raise, Chan.raiseSl, if_neg hn]
  dsimp only
  rw [chopWatch_transCheck, chopWatch_reselect]
  exact chopWatch_ite ((chopWatch_cancelCommit _ _).trans ((chopWatch_windAbort _).trans (chopWatch_arrive _ _ _))) (chopWatch_arrive _ _ _)

theorem chopWatch_raise {c : Chan} {s : Src} (h : s.offChop = true) : (c.raise s).chopWatch = c.chopWatch := by
  by_cases hn : c.state = OFF ∨ c.srcActive s = true
  · rw [Chan.raise, Chan.raiseSl, if_pos hn]
  · rw [not_or, Bool.not_eq_true] at hn
    exact (chopWatch_raise_own hn.1 hn.2).trans (chopWatch_srcOn h)

theorem chopWatch_pulse {c : Chan} {s : Src} (h : s.offChop = true) : (c.pulse s).chopWatch = c.chopWatch := by
  unfold Chan.pulse Chan.pulseSl
  refine chopWatch_ite rfl ?_
  dsimp only
  rw [chopWatch_transCheck, chopWatch_offIf h, chopWatch_reselect]
  have h1 (d : Chan) (seq : Nat) (hd : d.chopWatch = c.chopWatch) : (d.arrive s seq).chopWatch = c.chopWatch := (chopWatch_arrive _ _ _).trans hd
  have h2 := h1 _ c.out.seq (chopWatch_srcOn (slice := 0) h)
  exact chopWatch_ite ((chopWatch_cancelCommit _ _).trans ((chopWatch_windAbort _).trans h2)) h2

end Sys2Proof.Machine
end

section
/-! PROOFS. The chopper's command and the rules of sources that the chopper and the DC-link comparators share (R244, R262). -/

namespace Sys2Proof.Machine
open Sys2Proof

/-! ### The brake pair sent to slice 6 (R205) -/

theorem prot_wire (c : Chan) (s : Nat) (t : Tick) (pu en : Bool) : (c.wire s t pu en).prot = c.prot := by
  rw [Chan.wire]
  split_ifs
  · rfl
  · rw [Chan.p_prot, Chan.p_prot, Chan.onSl]

/-- The brake pair sent: SL_STATUS of slice 6 alone of the registers, and nothing of PROT. -/
theorem sendBrake_shows (c : Chan) (t : Tick) : c.Frame [SL_STATUS 6] (c.sendPairAt 3 t) ∧ (c.sendPairAt 3 t).prot = c.prot := by
  have he : c.Frame [SL_STATUS 6] (c.edgeOut 3 t (c.pulseOf 3) (c.enOut 3)) ∧ (c.edgeOut 3 t (c.pulseOf 3) (c.enOut 3)).prot = c.prot := by
    obtain ⟨tag, n, he⟩ : ∃ tag n, c.edgeOut 3 t (c.pulseOf 3) (c.enOut 3) = (c.tagged 6 t (c.pulseOf 3) (c.enOut 3) tag).onMod (fun m => { m with legEdges := m.legEdges.set 3 n }) :=
      ⟨_, _, rfl⟩
    rw [he]
    exact ⟨frame_tagged c 6 t _ _ tag, prot_wire c 6 t _ _⟩
  unfold Chan.sendPairAt
  by_cases hl : (c.lastSent (if 3 = 3 then 6 else 2 * 3) == (c.pulseOf 3, c.enOut 3)) = true
  · dsimp only
    rw [if_pos hl]
    exact ⟨frame_refl _ c, rfl⟩
  · dsimp only
    rw [if_neg hl, if_neg (by decide)]
    exact he

/-- The enable and the pulse of the brake pair, set and sent. -/
theorem setBrake_shows (c : Chan) (w : Bool) : (c.setPair 3 w w).gb EN_STATUS_EN_INT 3 = w ∧ (c.setPair 3 w w).gb EN_STATUS_PULSE 3 = w ∧ (c.setPair 3 w w).prot = c.prot ∧
    c.Frame [EN_STATUS, SL_STATUS 6] (c.setPair 3 w w) := by
  have he : c.setPair 3 w w = ((c.pb EN_STATUS_EN_INT 3 w).pb EN_STATUS_PULSE 3 w).sendPairAt 3 c.now := rfl
  obtain ⟨hf, hp⟩ := sendBrake_shows ((c.pb EN_STATUS_EN_INT 3 w).pb EN_STATUS_PULSE 3 w) c.now
  have hn : EN_STATUS ∉ [SL_STATUS 6] := by decide
  rw [he]
  refine ⟨?_, ?_, hp, ?_⟩
  · rw [hf.gb (f := EN_STATUS_EN_INT) hn, Chan.pb, Chan.gb_p_other _ _ _ _ _ rfl rfl rfl, Chan.gb_pb _ _ _ rfl (by decide), if_pos rfl]
  · rw [hf.gb (f := EN_STATUS_PULSE) hn, Chan.gb_pb _ _ _ rfl (by decide), if_pos rfl]
  · exact frame_trans (frame_pb (frame_pb (frame_refl _ c) (by decide)) (by decide)) (frame_mono hf (by decide))

/-! ### The command (R244) -/

/-- The change of the chopper command itself: the proof that starts or ends with it, and a test that ends (R245, R247). -/
def Chan.chopSet (c : Chan) (w : Bool) : Chan :=
  ((c.p CHOP_STATUS_ON (b2n w)).onProt (fun p =>
    { p with chopAt := some c.now, test := if w then p.test else none, proof := if w then some ⟨c.now, c.dcl.getD 0⟩ else none })).setPair 3 w w

theorem chopEval_stays {c : Chan} (h : c.chopWant = c.b CHOP_STATUS_ON ∨ c.chopFree = false) : c.chopEval = c :=
  if_pos (h.imp_right fun h => by rw [h]; rfl)

theorem chopEval_changes {c : Chan} (hw : c.chopWant ≠ c.b CHOP_STATUS_ON) (hf : c.chopFree = true) : c.chopEval = c.chopSet c.chopWant :=
  if_neg fun h => h.elim hw (by rw [hf]; decide)

theorem chopFree_iff (c : Chan) : c.chopFree = true ↔ c.prot.chopAt = none ∨ c.sinceOpt c.prot.chopAt (ns (100 * c.g CHOP_CFG_MIN_T)) = true := by
  unfold Chan.chopFree
  cases c.prot.chopAt <;> simp [Chan.sinceOpt]

/-- The registers of a change of the command: CHOP_STATUS and those of the brake pair. -/
def chopRegs : List Nat := [CHOP_STATUS, EN_STATUS, SL_STATUS 6]

theorem b_p_b2n (c : Chan) {f : Fld} (w : Bool) (h : f.ok = true) : (c.p f (b2n w)).b f = w := by
  cases w
  · exact Chan.b_p_zero c f h
  · exact Chan.b_p_one c f h

theorem chopSet_shows (c : Chan) (w : Bool) : (c.chopSet w).b CHOP_STATUS_ON = w ∧ (c.chopSet w).gb EN_STATUS_EN_INT 3 = w ∧ (c.chopSet w).gb EN_STATUS_PULSE 3 = w ∧
    (c.chopSet w).prot = { c.prot with chopAt := some c.now, test := if w then c.prot.test else none, proof := if w then some ⟨c.now, c.dcl.getD 0⟩ else none } ∧
    c.Frame chopRegs (c.chopSet w) := by
  unfold Chan.chopSet
  generalize hd : (c.p CHOP_STATUS_ON (b2n w)).onProt _ = d
  obtain ⟨he, hp, hq, hf⟩ := setBrake_shows d w
  have hb : d.b CHOP_STATUS_ON = w := hd ▸ b_p_b2n c w rfl
  have hfd : c.Frame chopRegs d := hd ▸ frame_p (f := CHOP_STATUS_ON) (frame_refl _ c) (by decide)
  exact ⟨(hf.b (f := CHOP_STATUS_ON) (by decide)).trans hb, he, hp, hq.trans (hd ▸ rfl), frame_trans hfd (frame_mono hf (by decide))⟩

theorem prot_chopSet (c : Chan) (w : Bool) : (c.chopSet w).prot =
    { c.prot with chopAt := some c.now, test := if w then c.prot.test else none, proof := if w then some ⟨c.now, c.dcl.getD 0⟩ else none } := by
  obtain ⟨-, -, -, hp, -⟩ := chopSet_shows c w
  exact hp

/-- The command has changed to `w` (R244, R245). -/
def Chan.ChopMoved (c : Chan) (w : Bool) (e : Chan) : Prop :=
  e.b CHOP_STATUS_ON = w ∧ e.gb EN_STATUS_EN_INT 3 = w ∧ e.gb EN_STATUS_PULSE 3 = w ∧ e.prot.chopAt = some c.now ∧
    e.prot.proof = (if w then some ⟨c.now, c.dcl.getD 0⟩ else none) ∧ (w = false → e.prot.test = none)

/-- The command follows `w` if its minimum time has passed, beside the registers of a list. -/
def Chan.ChopFollows (c : Chan) (l : List Nat) (w : Bool) (e : Chan) : Prop :=
  let free := c.prot.chopAt = none ∨ c.sinceOpt c.prot.chopAt (ns (100 * c.g CHOP_CFG_MIN_T)) = true
  ((free ∧ w ≠ c.b CHOP_STATUS_ON) → c.ChopMoved w e) ∧ ((¬ free ∨ w = c.b CHOP_STATUS_ON) → e.b CHOP_STATUS_ON = c.b CHOP_STATUS_ON ∧ e.prot.proof = c.prot.proof) ∧
    c.Frame (l ++ chopRegs) e

/-- The command evaluated finds everything but what it should be as before: DCL_STATUS and PROT_REQ alone of the registers, a test alone of PROT. -/
structure Chan.ChopAlike (c d : Chan) : Prop where
  frame : c.Frame [DCL_STATUS, PROT_REQ] d
  now : d.now = c.now
  prot : { d.prot with test := c.prot.test } = c.prot

theorem Chan.ChopAlike.dcl {c d : Chan} (h : c.ChopAlike d) : d.dcl = c.dcl := by
  have hi (n k : Nat) : d.gi (INJ_RES_RESULT (n % 4) (k % 4)) = c.gi (INJ_RES_RESULT (n % 4) (k % 4)) := h.frame.gi (by
    simp only [INJ_RES_RESULT, INJ_RES, DCL_STATUS, PROT_REQ, List.mem_cons, List.not_mem_nil, or_false]
    omega)
  simp only [Chan.dcl, h.frame.g (f := XC_MAP_DCL) (by decide), hi]

theorem chopEval_follows {c d : Chan} {l : List Nat} {w : Bool} (hf : c.Frame l d) (h : c.ChopAlike d) (hw : d.chopWant = w) :
    c.ChopFollows l w d.chopEval := by
  have hprot : d.prot.chopAt = c.prot.chopAt ∧ d.prot.proof = c.prot.proof := ⟨(congrArg Prot.chopAt h.prot :), (congrArg Prot.proof h.prot :)⟩
  have hon : d.b CHOP_STATUS_ON = c.b CHOP_STATUS_ON := h.frame.b (by decide)
  have hfree : d.chopFree = true ↔ c.prot.chopAt = none ∨ c.sinceOpt c.prot.chopAt (ns (100 * c.g CHOP_CFG_MIN_T)) = true := by
    rw [chopFree_iff, hprot.1, h.frame.g (f := CHOP_CFG_MIN_T) (by decide), show d.sinceOpt = c.sinceOpt by funext u n; simp only [Chan.sinceOpt, Chan.since, h.now]]
  by_cases hm : d.chopFree = true ∧ w ≠ c.b CHOP_STATUS_ON
  · obtain ⟨hb, he, hp, hq, hr⟩ := chopSet_shows d w
    have hd : d.chopEval = d.chopSet w := hw ▸ chopEval_changes (by rw [hw, hon]; exact hm.2) hm.1
    rw [hd]
    refine ⟨fun _ => ⟨hb, he, hp, by rw [hq, h.now], by rw [hq, h.now, h.dcl], fun hw0 => by rw [hq, hw0]; rfl⟩, fun hn => ?_,
      frame_trans (frame_mono hf fun _ => List.mem_append_left _) (frame_mono hr fun _ => List.mem_append_right _)⟩
    exact absurd hn (not_or.2 ⟨not_not.2 (hfree.1 hm.1), hm.2⟩)
  · have hd : d.chopEval = d := chopEval_stays (by
      rw [hw, hon]
      by_cases hw0 : w = c.b CHOP_STATUS_ON
      · exact .inl hw0
      · exact .inr (Bool.eq_false_iff.2 fun hf => hm ⟨hf, hw0⟩))
    rw [hd]
    exact ⟨fun hn => absurd ⟨hfree.2 hn.1, hn.2⟩ hm, fun _ => ⟨hon, hprot.2⟩, frame_mono hf fun _ => List.mem_append_left _⟩

theorem frame_chopEval (c : Chan) : c.Frame chopRegs c.chopEval := by
  obtain ⟨-, -, hf⟩ := chopEval_follows (frame_refl [] c) ⟨frame_refl _ c, rfl, rfl⟩ rfl
  exact hf

theorem chopEval_test_none {c : Chan} (h : c.prot.test = none) : c.chopEval.prot.test = none := by
  by_cases hm : c.chopWant = c.b CHOP_STATUS_ON ∨ c.chopFree = false
  · rw [chopEval_stays hm, h]
  · rw [not_or, Bool.not_eq_false] at hm
    rw [chopEval_changes hm.1 hm.2, prot_chopSet]
    exact (congrArg (fun x => if c.chopWant then x else none) h).trans (ite_self none)

theorem chopEval_test_kept {c : Chan} (h : c.chopWant = true) : c.chopEval.prot.test = c.prot.test := by
  by_cases hm : c.chopWant = c.b CHOP_STATUS_ON ∨ c.chopFree = false
  · rw [chopEval_stays hm]
  · rw [not_or, Bool.not_eq_false] at hm
    rw [chopEval_changes hm.1 hm.2, h, prot_chopSet]
    rfl

/-! ### Sources raised and cleared (R262) -/

/-- A source has been taken by the channel: latched, at S3 and S4 with the entry into FAULT. -/
def Chan.Taken (c : Chan) (q : Src) (e : Chan) : Prop := e.srcLatched q = true ∧ (3 ≤ c.sevOf q → e.state = FAULT)

theorem Chan.Taken.reacts {c d e : Chan} {q : Src} (h : c.Taken q d) (hq : q.bit < 16) (k : d.Reacts true e) : c.Taken q e :=
  ⟨k.latched q hq h.1, fun hs => k.fault rfl (h.2 hs)⟩

theorem taken_raise {c d : Chan} {q : Src} (hq : q.bit < 16) (hv : reactionRegs.contains q.sevAt.1 = false) (ho : d.state ≠ OFF) (ha : d.srcActive q = false)
    (hs : d.sevOf q = c.sevOf q) : c.Taken q (d.raise q) :=
  ⟨raise_latched d q hq ho ha, fun h => raise_fault d q ho ha (hs ▸ h) hv⟩

theorem taken_pulse {c d : Chan} {q : Src} (hq : q.bit < 16) (hv : reactionRegs.contains q.sevAt.1 = false) (ho : d.state ≠ OFF) (ha : d.srcActive q = false)
    (hs : d.sevOf q = c.sevOf q) : c.Taken q (d.pulse q) :=
  ⟨pulse_latched d q hq ho ha, fun h => pulseSl_fault d q 0 ho ha (hs ▸ h) hv⟩

/-- A source that clears changes registers, records and CHCTL's part alone. -/
theorem clear_rest (c : Chan) (s : Src) : ∃ (r : RegMap) (o : RecOut) (x : Ctl), c.clear s = { c with regs := r, out := o, ctl := x } := by
  unfold Chan.clear
  split_ifs
  · obtain ⟨x, hx, -⟩ := transCheck_eq (c.srcOff s)
    exact ⟨_, _, x, hx⟩
  · exact ⟨c.regs, c.out, c.ctl, rfl⟩

theorem kept_clear (c : Chan) (s : Src) : c.Kept (c.clear s) := kept_reacts (react_clear (q := false) (react_refl c))

theorem prot_clear (c : Chan) (s : Src) : (c.clear s).prot = c.prot := by
  obtain ⟨r, o, x, hx⟩ := clear_rest c s
  rw [hx]

theorem life_clear (c : Chan) (s : Src) : (c.clear s).life = c.life := by
  obtain ⟨r, o, x, hx⟩ := clear_rest c s
  rw [hx]

/-- A source of PROT that clears writes registers of PROT's sources alone. -/
theorem frame_clearProt (c : Chan) {q : Src} (hq : q.blk = 8) : c.Frame (sourceRegs 8) (c.clear q) := by
  refine frame_clear (frame_refl _ c) ?_
  rw [hq]
  decide

theorem kept_onProt (c : Chan) (f : Prot → Prot) : c.Kept (c.onProt f) := kept_reacts (react_onProt (q := false) (react_refl c))
theorem kept_onLife (c : Chan) (f : Life → Life) : c.Kept (c.onLife f) := kept_reacts (react_onLife (q := false) (react_refl c))

theorem srcActive_srcOn (c : Chan) {s : Src} (slice : Nat) (h : s.bit < 16) : (c.srcOn s slice).srcActive s = true := by
  rw [Chan.srcActive, rd_srcOn c s slice fun i hi => ff_not_src _ _ i hi, Chan.srcSet, Chan.rd_wr_same, Nat.testBit_mod_two_pow, testBit_setBit, if_neg (by omega),
    testBit_setBit, if_pos rfl]
  simp [show 16 + s.bit < 32 by omega]

theorem srcActive_srcOn_other (c : Chan) {s k : Src} (slice : Nat) (hs : s.bit < 16) (hk : k.bit < 16) (h : k.bit ≠ s.bit) : (c.srcOn s slice).srcActive k = c.srcActive k := by
  rw [Chan.srcActive, rd_srcOn c s slice fun i hi => ff_not_src _ _ i hi, Chan.srcSet, Chan.srcActive]
  by_cases he : (srcRegs k.blk).src = (srcRegs s.blk).src
  · rw [he, Chan.rd_wr_same, Nat.testBit_mod_two_pow, testBit_setBit, if_neg (by omega), testBit_setBit, if_neg (by omega)]
    simp [show 16 + k.bit < 32 by omega]
  · rw [Chan.rd_wr_other _ _ _ _ he]

/-! ### A reaction never ends in OFF -/

theorem live_arrive {c : Chan} {s : Src} {seq : Nat} (h : c.state ≠ OFF) : (c.arrive s seq).state ≠ OFF := by
  by_cases hs : 3 ≤ c.sevOf s
  · rw [state_arrive c s seq hs]
    decide
  · have he : c.arrive s seq = c := if_pos (not_le.1 hs)
    rwa [he]

theorem state_wrSrc (c : Chan) (s : Src) (v : Nat) : (c.wr (srcRegs s.blk).src v).state = c.state := Chan.g_wr_reg _ _ _ _ (fun e => src_ne_state s.blk e.symm)

theorem state_srcOn (c : Chan) (s : Src) (slice : Nat) : (c.srcOn s slice).state = c.state := by
  rw [Chan.state, Chan.g, show CH_STATE_STATE.reg = CH_STATE from rfl, rd_srcOn c s slice fun i _ => (ff_ne_state s.blk i).symm]
  exact state_wrSrc c s _

theorem state_srcOff (c : Chan) (s : Src) : (c.srcOff s).state = c.state := state_wrSrc c s _

theorem live_ite {q : Prop} [Decidable q] {x y : Chan} (hx : x.state ≠ OFF) (hy : y.state ≠ OFF) : (if q then x else y).state ≠ OFF := by
  split_ifs
  · exact hx
  · exact hy

theorem live_raise0 {c : Chan} {s : Src} (h : c.state ≠ OFF) : (c.raise0 s).state ≠ OFF := live_ite h (live_arrive (by rwa [state_srcOn]))

theorem live_cancelCommit {c : Chan} {code : Nat} (h : c.state ≠ OFF) : (c.cancelCommit code).state ≠ OFF := by
  unfold Chan.cancelCommit
  split
  · exact h
  · next k hk =>
    have hd : (((c.onCtl (fun x => { x with commit := none, heldTq := none })).commitCode code).answer k.kind.op (commitStatus code) []).state ≠ OFF := by
      rw [Chan.state, Chan.g_answer, Chan.commitCode, Chan.g_p_reg _ _ _ _ (by decide), Chan.g_p_reg _ _ _ _ (by decide)]
      exact h
    exact live_ite hd (live_arrive (by rwa [state_srcOff, state_srcOn]))

theorem live_windEnd {c : Chan} {st : Nat} (h : c.state ≠ OFF) : (c.windEnd st).state ≠ OFF := by
  rwa [(steady_windEnd (q := false) (st := st) (steady_refl c)).state]

theorem live_windAbort {c : Chan} (h : c.state ≠ OFF) : c.windAbort.state ≠ OFF := by
  have hd : ((c.windEnd 5).raise0 WD_ABORT).state ≠ OFF := live_raise0 (live_windEnd h)
  exact live_ite (live_ite (live_cancelCommit hd) hd) h

theorem live_applySel {c : Chan} (h : c.state ≠ OFF) : c.applySel.state ≠ OFF := by
  rwa [(steady_applySel (q := false) (steady_refl c)).state]

theorem live_reselect {c : Chan} (h : c.state ≠ OFF) : c.reselect.state ≠ OFF := by
  unfold Chan.reselect
  extract_lets z c0 c1
  have h1 : c1.state ≠ OFF := live_applySel (live_ite (live_windEnd h) h)
  refine live_ite (live_ite h1 (live_applySel (live_raise0 (live_cancelCommit h1)))) ?_
  rwa [(steady_offIf (q := false) (steady_refl c1)).state]

/-- A source raised in a live channel leaves it live. -/
theorem live_raise {c : Chan} {s : Src} (h : c.state ≠ OFF) : (c.raise s).state ≠ OFF := by
  unfold Chan.raise Chan.raiseSl
  refine live_ite h ?_
  dsimp only
  rw [(steady_transCheck (q := false) (steady_refl _)).state]
  have hd : (c.srcOn s 0).state ≠ OFF := by rwa [state_srcOn]
  exact live_reselect (live_ite (live_cancelCommit (live_windAbort (live_arrive hd))) (live_arrive hd))

end Sys2Proof.Machine
end

section
/-! PROOFS. The chopper and the DC-link comparators (R240 to R247, R249, R335): O44. -/

namespace Sys2Proof.Machine
open Sys2Proof

/-! ### A comparator changes (R241 to R243) -/

/-- A comparator's output as DCL_STATUS shows it. -/
def Chan.cmpSet (c : Chan) (k : Nat) (on : Bool) : Chan := c.pb DCL_STATUS_CMP k on

theorem frame_cmpSet (c : Chan) (k : Nat) (on : Bool) : c.Frame [DCL_STATUS] (c.cmpSet k on) := frame_pb (frame_refl _ c) (by decide)

theorem kept_cmpSet (c : Chan) (k : Nat) (on : Bool) : c.Kept (c.cmpSet k on) := kept_p _ _ _

theorem cmpSet_shows (c : Chan) {k : Nat} (on : Bool) (hk : k < 4) : (c.cmpSet k on).gb DCL_STATUS_CMP k = on := by
  rw [Chan.cmpSet, Chan.gb_pb c k on rfl (show k < 4 from hk), if_pos rfl]

theorem regsOnly_cmpSet (c : Chan) (k : Nat) (on : Bool) : c.RegsOnly [DCL_STATUS] (c.cmpSet k on) := ⟨frame_cmpSet c k on, rfl⟩

theorem dclStatus_calm : DCL_STATUS ∉ reactionRegs := by decide

theorem prot_sources_apart (s : Src) : (srcRegs s.blk).src ∉ [DCL_STATUS] := src_not_mem s (by decide)

theorem dclChange_high {k : Nat} (on : Bool) (c : Chan) (hk : 3 < k) : doDclComparatorChange k on c = c := by
  unfold doDclComparatorChange
  match k, hk with
  | k + 4, _ => rfl

section
variable {c : Chan} (hs : c.skim.cur = none)
include hs

theorem dclChange_uv_on (h : c.state = ARMED ∨ c.state = RUN) : doDclComparatorChange 0 true c = (c.cmpSet 0 true).raise DCL_UV := by
  rw [doDclComparatorChange, Chan.skimAbortIf_idle _ _ hs]
  exact if_pos h

theorem dclChange_uv_idle (h : c.state ≠ ARMED ∧ c.state ≠ RUN) : doDclComparatorChange 0 true c = c.cmpSet 0 true := by
  rw [doDclComparatorChange, Chan.skimAbortIf_idle _ _ hs]
  exact if_neg (not_or.2 h)

theorem dclChange_uv_off : doDclComparatorChange 0 false c = (c.cmpSet 0 false).clear DCL_UV := by
  rw [doDclComparatorChange, Chan.skimAbortIf_idle _ _ hs]
  rfl

theorem dclChange_ov1 (on : Bool) : doDclComparatorChange 1 on c = (c.cmpSet 1 on).chopEval := by
  rw [doDclComparatorChange, Chan.skimAbortIf_idle _ _ hs]
  rfl

theorem dclChange_ovr (on : Bool) : doDclComparatorChange 2 on c = (c.cmpSet 2 on).follow REGEN_ASC (c.srcActive CHOP_FAIL && on) := by
  rw [doDclComparatorChange, Chan.skimAbortIf_idle _ _ hs]
  change (c.cmpSet 2 on).regenEval = _
  rw [Chan.regenEval, cmpSet_shows c on (by decide), (frame_cmpSet c 2 on).srcActive (s := CHOP_FAIL) (by decide)]

theorem dclChange_ov2_on : doDclComparatorChange 3 true c = ((c.cmpSet 3 true).raise DCL_OV2).when (c.sinceOpt c.prot.safeAt (us 20)) (fun d => d.raise DCL_EXT) := by
  rw [doDclComparatorChange, Chan.skimAbortIf_idle _ _ hs]
  refine (if_pos rfl).trans (congrArg (fun x => ((c.cmpSet 3 true).raise DCL_OV2).when x (fun d => d.raise DCL_EXT)) ?_)
  cases c.prot.safeAt <;> rfl

theorem dclChange_ov2_off : doDclComparatorChange 3 false c = (((c.cmpSet 3 false).onProt (fun p => { p with ov2Held := false })).clear DCL_OV2).clear DCL_EXT := by
  rw [doDclComparatorChange, Chan.skimAbortIf_idle _ _ hs]
  rfl
end

/-- A source raised by a comparator. -/
theorem cmpSet_raise {c : Chan} {k : Nat} {q : Src} (hk : k < 4) (hq : q.bit < 16) (hv : reactionRegs.contains q.sevAt.1 = false) (hd : q.sevAt.1 ∉ [DCL_STATUS])
    (ho : c.state ≠ OFF) (ha : c.srcActive q = false) :
    ((c.cmpSet k true).raise q).gb DCL_STATUS_CMP k = true ∧ c.Taken q ((c.cmpSet k true).raise q) ∧ c.Reacted [DCL_STATUS] ((c.cmpSet k true).raise q) := by
  have hf := frame_cmpSet c k true
  have hr : (c.cmpSet k true).Reacts true ((c.cmpSet k true).raise q) := react_raise (react_refl _)
  refine ⟨((frame_reacts hr).gb (f := DCL_STATUS_CMP) dclStatus_calm k).trans (cmpSet_shows c true hk), taken_raise hq hv ?_ ?_ (hf.sevOf hd), reacted_raise q hf (kept_cmpSet c k true)⟩
  · rwa [hf.state (by decide)]
  · rwa [hf.srcActive (prot_sources_apart q)]

/-- A source of PROT cleared by a comparator. -/
theorem cmpSet_clear (c : Chan) {k : Nat} (on : Bool) {q : Src} (hk : k < 4) (hq : q.blk = 8) :
    ((c.cmpSet k on).clear q).gb DCL_STATUS_CMP k = on ∧ ((c.cmpSet k on).clear q).srcActive q = false ∧
    c.Frame ([DCL_STATUS] ++ sourceRegs 8) ((c.cmpSet k on).clear q) ∧ c.Kept ((c.cmpSet k on).clear q) := by
  have hf := frame_clearProt (c.cmpSet k on) hq
  exact ⟨(hf.gb (f := DCL_STATUS_CMP) (by decide) k).trans (cmpSet_shows c on hk), Chan.srcActive_clear_same _ q,
    frame_trans (frame_mono (frame_cmpSet c k on) fun _ => List.mem_append_left _) (frame_mono hf fun _ => List.mem_append_right _),
    kept_trans (kept_cmpSet c k on) (kept_clear _ q)⟩

/-- OV2 active: an overvoltage that begins in a safe state is external (first case of R243). -/
theorem ov2_rises {c : Chan} (ext : Bool) (ho : c.state ≠ OFF) (ha : c.srcActive DCL_OV2 = false) (he : c.srcActive DCL_EXT = false) :
    let e := ((c.cmpSet 3 true).raise DCL_OV2).when ext (fun d => d.raise DCL_EXT)
    e.gb DCL_STATUS_CMP 3 = true ∧ c.Taken DCL_OV2 e ∧ (ext = true → c.Taken DCL_EXT e) ∧ (ext = false → e.srcActive DCL_EXT = false) ∧ c.Reacted [DCL_STATUS] e := by
  obtain ⟨hb, ht, hr⟩ := cmpSet_raise (c := c) (k := 3) (q := DCL_OV2) (by decide) (by decide) (by decide) (by decide) ho ha
  have hx : ((c.cmpSet 3 true).raise DCL_OV2).srcActive DCL_EXT = false := by
    rw [chopWatch_active (chopWatch_raise (by decide)) (by decide), (frame_cmpSet c 3 true).srcActive (by decide), he]
  cases ext with
  | false => exact ⟨hb, ht, fun h => absurd h (by decide), fun _ => hx, hr⟩
  | true =>
    have hl : ((c.cmpSet 3 true).raise DCL_OV2).state ≠ OFF := live_raise (by rwa [(frame_cmpSet c 3 true).state (by decide)])
    have hk : ((c.cmpSet 3 true).raise DCL_OV2).Reacts true (((c.cmpSet 3 true).raise DCL_OV2).raise DCL_EXT) := react_raise (react_refl _)
    refine ⟨((frame_reacts hk).gb (f := DCL_STATUS_CMP) dclStatus_calm 3).trans hb, ht.reacts (by decide) hk, fun _ => taken_raise (by decide) (by decide) hl hx (hr.1.sevOf (by decide)),
      fun h => absurd h (by decide), frame_react hr.1 hk, kept_react hr.2 hk⟩

/-- OV2 inactive again. -/
theorem ov2_falls (c : Chan) : let e := (((c.cmpSet 3 false).onProt (fun p => { p with ov2Held := false })).clear DCL_OV2).clear DCL_EXT
    e.gb DCL_STATUS_CMP 3 = false ∧ e.srcActive DCL_OV2 = false ∧ e.srcActive DCL_EXT = false ∧ e.prot = { c.prot with ov2Held := false } ∧
    c.Frame ([DCL_STATUS] ++ sourceRegs 8) e ∧ c.Kept e := by
  generalize hd : (c.cmpSet 3 false).onProt (fun p => { p with ov2Held := false }) = d
  have hdf : c.Frame [DCL_STATUS] d := hd ▸ frame_cmpSet c 3 false
  have hdk : c.Kept d := hd ▸ kept_trans (kept_cmpSet c 3 false) (kept_onProt _ _)
  have hc := frame_trans (frame_clearProt d (q := DCL_OV2) rfl) (frame_clearProt (d.clear DCL_OV2) (q := DCL_EXT) rfl)
  refine ⟨?_, ?_, Chan.srcActive_clear_same _ _, ?_, ?_, kept_trans hdk (kept_trans (kept_clear d _) (kept_clear _ _))⟩
  · exact (hc.gb (f := DCL_STATUS_CMP) (by decide) 3).trans (hd ▸ cmpSet_shows c false (by decide))
  · exact (Chan.srcActive_clear_other _ (by decide) (by decide)).trans (Chan.srcActive_clear_same d _)
  · rw [prot_clear, prot_clear, ← hd]
    rfl
  · exact frame_trans (frame_mono hdf fun _ => List.mem_append_left _) (frame_mono hc fun _ => List.mem_append_right _)

/-! ### A command proven (R245) -/

/-- The channel with no proof due. -/
def Chan.proofOver (c : Chan) : Chan := c.onProt (fun p => { p with proof := none })

/-- The fall of the link that R245 asks for has come. -/
def Chan.linkFell (c : Chan) (pr : Option ChopProof) : Bool := c.dcl.isSome && decide ((c.g CHOP_CFG_FALL_DV : Int) ≤ (pr.map ChopProof.link).getD 0 - c.dcl.getD 0)

/-- The cause of a failed command (R245). -/
def Chan.chopCause (c : Chan) (vdsHigh : Bool) : Nat := if c.b (SL_STATUS_LATCHED 6) then 3 else if !c.gb EN_STATUS_EN_PIN 3 then 2 else if vdsHigh then 0 else 1

section
variable {c : Chan} {sc : Nat} {vdsHigh : Bool}

theorem chopProve_early (h : c.sinceOpt (c.prot.proof.map ChopProof.at_) (us (c.g CHOP_CFG_PROVE_T)) = false) : doChopProve sc vdsHigh c = c := by
  rw [doChopProve, if_neg (by rw [h]; decide)]

theorem chopProve_due (h : c.sinceOpt (c.prot.proof.map ChopProof.at_) (us (c.g CHOP_CFG_PROVE_T)) = true) : doChopProve sc vdsHigh c =
    if c.g CHOP_CFG_CON_LVL < sc then (((c.proofOver.wrapInc CHOP_STATUS_PROVEN).onLife (fun l => { l with chop := l.chop + 1 })).clear CHOP_FAIL).regenEval
    else if c.linkFell c.prot.proof then c.proofOver.pulse CHOP_SENSE else c.proofOver.chopFail (c.chopCause vdsHigh) := by
  rw [doChopProve, if_pos h]
  obtain ⟨pr, hp⟩ : ∃ pr, c.prot.proof = some pr := by
    cases hp : c.prot.proof with
    | none =>
      rw [hp] at h
      cases h
    | some pr => exact ⟨pr, rfl⟩
  rw [hp]
  have hfell : c.linkFell (some pr) = (match c.dcl with
      | none => false
      | some v => decide ((c.g CHOP_CFG_FALL_DV : Int) ≤ pr.link - v)) := by
    unfold Chan.linkFell
    cases c.dcl <;> rfl
  rw [hfell]
  rfl

theorem chopProve_proven (h : c.sinceOpt (c.prot.proof.map ChopProof.at_) (us (c.g CHOP_CFG_PROVE_T)) = true) (hp : c.g CHOP_CFG_CON_LVL < sc) :
    let e := doChopProve sc vdsHigh c
    e.prot = { c.prot with proof := none } ∧ e.g CHOP_STATUS_PROVEN = (c.g CHOP_STATUS_PROVEN + 1) % 65536 ∧ e.srcActive CHOP_FAIL = false ∧ e.srcActive REGEN_ASC = false ∧
    e.life = { c.life with chop := c.life.chop + 1 } ∧ c.Frame ([CHOP_STATUS] ++ sourceRegs 8) e ∧ c.Kept e := by
  rw [chopProve_due h, if_pos hp]
  generalize hd : (c.proofOver.wrapInc CHOP_STATUS_PROVEN).onLife (fun l => { l with chop := l.chop + 1 }) = d
  have he : (d.clear CHOP_FAIL).regenEval = (d.clear CHOP_FAIL).clear REGEN_ASC := by
    rw [Chan.regenEval, Chan.srcActive_clear_same]
    rfl
  have hc := frame_trans (frame_clearProt d (q := CHOP_FAIL) rfl) (frame_clearProt (d.clear CHOP_FAIL) (q := REGEN_ASC) rfl)
  have hdf : c.Frame [CHOP_STATUS] d := hd ▸ frame_wrapInc (c := c.proofOver) (f := CHOP_STATUS_PROVEN) (frame_refl _ c) (by decide)
  have hdk : c.Kept d := hd ▸ kept_trans (kept_trans (kept_onProt c _) (kept_p _ CHOP_STATUS_PROVEN _)) (kept_onLife _ _)
  rw [he]
  refine ⟨?_, ?_, ?_, Chan.srcActive_clear_same _ _, ?_, ?_, kept_trans hdk (kept_trans (kept_clear d _) (kept_clear _ _))⟩
  · rw [prot_clear, prot_clear, ← hd]
    rfl
  · exact (hc.g (f := CHOP_STATUS_PROVEN) (by decide)).trans (hd ▸ Chan.g_wrapInc c.proofOver rfl)
  · exact (Chan.srcActive_clear_other _ (by decide) (by decide)).trans (Chan.srcActive_clear_same d _)
  · rw [life_clear, life_clear, ← hd]
    rfl
  · exact frame_trans (frame_mono hdf fun _ => List.mem_append_left _) (frame_mono hc fun _ => List.mem_append_right _)

theorem chopProve_sensed (h : c.sinceOpt (c.prot.proof.map ChopProof.at_) (us (c.g CHOP_CFG_PROVE_T)) = true) (hp : ¬ c.g CHOP_CFG_CON_LVL < sc)
    (hl : c.linkFell c.prot.proof = true) (ho : c.state ≠ OFF) (ha : c.srcActive CHOP_SENSE = false) :
    let e := doChopProve sc vdsHigh c
    e.prot.proof = none ∧ c.Taken CHOP_SENSE e ∧ e.srcActive CHOP_FAIL = c.srcActive CHOP_FAIL ∧ c.Reacted [] e := by
  rw [chopProve_due h, if_neg hp, if_pos hl]
  have hw : (c.proofOver.pulse CHOP_SENSE).chopWatch = c.proofOver.chopWatch := chopWatch_pulse (by decide)
  have hr : c.Reacts false (c.proofOver.pulse CHOP_SENSE) := react_pulse (react_onProt (react_refl c))
  exact ⟨chopWatch_proof hw, taken_pulse (by decide) (by decide) ho ha rfl, chopWatch_active hw (by decide), frame_reacts hr, kept_reacts hr⟩
end

/-! ### A command that fails (R245, R249) -/

/-- REGEN_ASC follows OVR while CHOP_FAIL is active. -/
theorem regenEval_active {c : Chan} (hf : c.srcActive CHOP_FAIL = true) (ho : c.state ≠ OFF) : c.regenEval.srcActive REGEN_ASC = c.gb DCL_STATUS_CMP 2 ∧
    c.regenEval.srcActive CHOP_FAIL = true ∧ c.regenEval.prot.proof = c.prot.proof := by
  rw [Chan.regenEval, hf, Bool.true_and]
  cases hb : c.gb DCL_STATUS_CMP 2 with
  | false =>
    change (c.clear REGEN_ASC).srcActive REGEN_ASC = false ∧ (c.clear REGEN_ASC).srcActive CHOP_FAIL = true ∧ (c.clear REGEN_ASC).prot.proof = c.prot.proof
    exact ⟨Chan.srcActive_clear_same _ _, (Chan.srcActive_clear_other _ (by decide) (by decide)).trans hf, by rw [prot_clear]⟩
  | true =>
    change (c.raise REGEN_ASC).srcActive REGEN_ASC = true ∧ (c.raise REGEN_ASC).srcActive CHOP_FAIL = true ∧ (c.raise REGEN_ASC).prot.proof = c.prot.proof
    cases ha : c.srcActive REGEN_ASC with
    | true =>
      have he : c.raise REGEN_ASC = c := if_pos (.inr ha)
      rw [he]
      exact ⟨ha, hf, rfl⟩
    | false =>
      have hw := chopWatch_raise_own ho ha
      exact ⟨(chopWatch_active hw (by decide)).trans (srcActive_srcOn c 0 (by decide)), (chopWatch_active hw (by decide)).trans ((srcActive_srcOn_other c 0 (by decide) (by decide) (by decide)).trans hf),
        (chopWatch_proof hw).trans (congrArg Prot.proof (prot_srcOn c _ 0))⟩

theorem chopFail_shows {c : Chan} {cause : Nat} (hc : cause < 4) (ho : c.state ≠ OFF) (ha : c.srcActive CHOP_FAIL = false) :
    let e := c.chopFail cause
    e.prot.proof = c.prot.proof ∧ c.Taken CHOP_FAIL e ∧ e.srcActive CHOP_FAIL = true ∧ e.srcActive REGEN_ASC = c.gb DCL_STATUS_CMP 2 ∧ e.g CHOP_STATUS_CAUSE = cause ∧
    c.Reacted [CHOP_STATUS] e := by
  have hf : c.Frame [CHOP_STATUS] (c.p CHOP_STATUS_CAUSE cause) := frame_p (frame_refl _ c) (by decide)
  have hg : (c.p CHOP_STATUS_CAUSE cause).g CHOP_STATUS_CAUSE = cause := (Chan.g_p_same _ _ _ rfl).trans (Nat.mod_eq_of_lt hc)
  have hk : c.Kept (c.p CHOP_STATUS_CAUSE cause) := kept_p _ _ _
  have hpr : (c.p CHOP_STATUS_CAUSE cause).prot = c.prot := Chan.p_prot _ _ _
  have ho' : (c.p CHOP_STATUS_CAUSE cause).state ≠ OFF := by rwa [hf.state (by decide)]
  have ha' : (c.p CHOP_STATUS_CAUSE cause).srcActive CHOP_FAIL = false := by rwa [hf.srcActive (by decide)]
  have hs : (c.p CHOP_STATUS_CAUSE cause).sevOf CHOP_FAIL = c.sevOf CHOP_FAIL := hf.sevOf (by decide)
  unfold Chan.chopFail
  generalize c.p CHOP_STATUS_CAUSE cause = d at hf hg hk hpr ho' ha' hs ⊢
  have hw := chopWatch_raise_own ho' ha'
  have hact : (d.raise CHOP_FAIL).srcActive CHOP_FAIL = true := (chopWatch_active hw (by decide)).trans (srcActive_srcOn d 0 (by decide))
  have hr : d.Reacts true (d.raise CHOP_FAIL) := react_raise (react_refl d)
  have hr2 : (d.raise CHOP_FAIL).Reacts true (d.raise CHOP_FAIL).regenEval := react_regenEval (react_refl _)
  have hra := react_trans hr hr2
  obtain ⟨hre, hfe, hpe⟩ := regenEval_active hact (live_raise ho')
  refine ⟨hpe.trans ((chopWatch_proof hw).trans (by rw [prot_srcOn, hpr])), (taken_raise (by decide) (by decide) ho' ha' hs).reacts (by decide) hr2, hfe, ?_, ?_, ?_, kept_react hk hra⟩
  · rw [hre, (frame_reacts hr).gb (f := DCL_STATUS_CMP) dclStatus_calm, hf.gb (f := DCL_STATUS_CMP) (by decide)]
  · rw [(frame_reacts hra).g (f := CHOP_STATUS_CAUSE) (by decide), hg]
  · exact frame_react (frame_mono hf fun _ => List.mem_append_left _) hra

theorem chopCause_lt (c : Chan) (vdsHigh : Bool) : c.chopCause vdsHigh < 4 := by
  unfold Chan.chopCause
  split_ifs <;> decide

theorem chopProve_fails {c : Chan} {sc : Nat} {vdsHigh : Bool} (h : c.sinceOpt (c.prot.proof.map ChopProof.at_) (us (c.g CHOP_CFG_PROVE_T)) = true)
    (hp : ¬ c.g CHOP_CFG_CON_LVL < sc) (hl : c.linkFell c.prot.proof = false) (ho : c.state ≠ OFF) (ha : c.srcActive CHOP_FAIL = false) :
    let e := doChopProve sc vdsHigh c
    e.prot.proof = none ∧ c.Taken CHOP_FAIL e ∧ e.srcActive CHOP_FAIL = true ∧ e.srcActive REGEN_ASC = c.gb DCL_STATUS_CMP 2 ∧
    e.g CHOP_STATUS_CAUSE = c.chopCause vdsHigh ∧ c.Reacted [CHOP_STATUS] e := by
  rw [chopProve_due h, if_neg hp, if_neg (by rw [hl]; decide)]
  obtain ⟨hproof, htaken, hfail, hregen, hcause, hf, hk⟩ := chopFail_shows (c := c.proofOver) (chopCause_lt c vdsHigh) ho ha
  exact ⟨hproof, htaken, hfail, hregen, hcause, hf, kept_trans (kept_onProt c _) hk⟩

/-! ### The chopper test (R247) -/

/-- A chopper test may begin (R247). -/
def Chan.chopTestable (c : Chan) : Bool := (decide (c.state = PRIMED) || decide (c.state = HOLD)) && !c.gb DCL_STATUS_CMP 0 && (c.b PROT_CTL_CHOP_EN && c.b (SL_STATUS_READY 6)) &&
  !c.b (SL_STATUS_LATCHED 6) && !(c.b CHOP_STATUS_ON && c.gb DCL_STATUS_CMP 1)

/-- The request taken from PROT_REQ. -/
def Chan.testAsked (c : Chan) : Chan := c.p PROT_REQ_CHOP_TEST 0

theorem frame_testAsked (c : Chan) : c.Frame [PROT_REQ] c.testAsked := frame_p (frame_refl _ c) (by decide)

theorem testAsked_over (c : Chan) : c.testAsked.b PROT_REQ_CHOP_TEST = false := Chan.b_p_zero _ _ rfl

/-- A test command begun, before the chopper's command is evaluated. -/
def Chan.testBegun (c : Chan) : Chan := c.testAsked.onProt (fun p => { p with test := some c.now })

theorem chopTestable_iff (c : Chan) : c.chopTestable = true ↔ (c.state = PRIMED ∨ c.state = HOLD) ∧ !c.gb DCL_STATUS_CMP 0 ∧ c.b PROT_CTL_CHOP_EN ∧ c.b (SL_STATUS_READY 6) ∧
    !c.b (SL_STATUS_LATCHED 6) ∧ !(c.b CHOP_STATUS_ON && c.gb DCL_STATUS_CMP 1) := by
  simp [Chan.chopTestable, and_assoc]

theorem chopTest_ignored {c : Chan} (h : c.chopTestable = false) : doChopTest c = c.testAsked :=
  if_neg fun hc => Bool.false_ne_true (h.symm.trans ((chopTestable_iff c).2 hc))

theorem chopTest_begins {c : Chan} (h : c.chopTestable = true) : doChopTest c = c.testBegun.chopEval := if_pos ((chopTestable_iff c).1 h)

/-- The command asked for by a test. -/
theorem testBegun_want {c : Chan} (h : c.chopTestable = true) : c.testBegun.chopWant = true := by
  have hf : c.Frame [PROT_REQ] c.testBegun := frame_testAsked c
  obtain ⟨-, -, hen, hready, -⟩ := (chopTestable_iff c).1 h
  rw [Chan.chopWant, hf.b (f := PROT_CTL_CHOP_EN) (by decide), hf.b (f := SL_STATUS_READY 6) (by decide), hen, hready]
  exact Bool.or_true _

theorem chopTest_shows {c : Chan} (h : c.chopTestable = true) : (doChopTest c).b PROT_REQ_CHOP_TEST = false ∧ (doChopTest c).prot.test = some c.now ∧
    c.ChopFollows [PROT_REQ] true (doChopTest c) := by
  have hw := testBegun_want h
  have hal : c.ChopAlike c.testBegun := ⟨frame_mono (frame_testAsked c) (by decide), rfl, rfl⟩
  have hfo := chopEval_follows (c := c) (d := c.testBegun) (l := [PROT_REQ]) (frame_testAsked c) hal hw
  rw [chopTest_begins h]
  exact ⟨((frame_chopEval c.testBegun).b (f := PROT_REQ_CHOP_TEST) (by decide)).trans (testAsked_over c), chopEval_test_kept hw, hfo⟩

/-- The end of a test's pulse. -/
theorem chopTestEnd_shows {c : Chan} (h : (c.b CHOP_STATUS_ON && c.sinceOpt c.prot.test (us (c.g CHOP_CFG_PROVE_T + 1)) && c.sinceOpt c.prot.chopAt (us (c.g CHOP_CFG_PROVE_T + 1))) = true) :
    (doChopTestPulseEnd c).prot.test = none ∧ c.ChopFollows [] (c.b PROT_CTL_CHOP_EN && c.b (SL_STATUS_READY 6) && c.gb DCL_STATUS_CMP 1) (doChopTestPulseEnd c) := by
  have he : doChopTestPulseEnd c = (c.onProt (fun p => { p with test := none })).chopEval := if_pos (by simpa [and_assoc] using h)
  rw [he]
  refine ⟨chopEval_test_none rfl, chopEval_follows (fun _ _ => rfl) ⟨fun _ _ => rfl, rfl, rfl⟩ ?_⟩
  exact congrArg (fun x => c.b PROT_CTL_CHOP_EN && c.b (SL_STATUS_READY 6) && x) (Bool.or_false (c.gb DCL_STATUS_CMP 1))

theorem chopTestEnd_early {c : Chan} (h : (c.b CHOP_STATUS_ON && c.sinceOpt c.prot.test (us (c.g CHOP_CFG_PROVE_T + 1)) && c.sinceOpt c.prot.chopAt (us (c.g CHOP_CFG_PROVE_T + 1))) = false) :
    doChopTestPulseEnd c = c :=
  if_neg fun ⟨h1, h2, h3⟩ => by
    rw [h1, h2, h3] at h
    cases h

/-! ### OV2 held over a safe state (second case of R243) -/

theorem dclExt_late {c : Chan} (h : (c.prot.ov2Held && c.sinceOpt c.prot.safeAt (us (c.g DCL_EXT_T_T))) = true) : doDclExtTimer c = c.raise DCL_EXT := by
  unfold doDclExtTimer
  cases hs : c.prot.safeAt with
  | none => simp [hs, Chan.sinceOpt] at h
  | some t =>
    rw [hs] at h
    exact if_pos h

theorem dclExt_early {c : Chan} (h : (c.prot.ov2Held && c.sinceOpt c.prot.safeAt (us (c.g DCL_EXT_T_T))) = false) : doDclExtTimer c = c := by
  unfold doDclExtTimer
  cases hs : c.prot.safeAt with
  | none => rfl
  | some t =>
    rw [hs] at h
    exact if_neg (by rw [show c.since t _ = c.sinceOpt (some t) _ from rfl, h]; decide)

/-! ### The obligation -/

/-- Settles O44: the comparators and the chopper's commands by their cases; what the sources that they raise bring along leaves the chopper's proof and the
sources CHOP_FAIL, REGEN_ASC and DCL_EXT as they are. -/
theorem chopperAndComparators : Obligations.ChopperAndComparators := by
  intro s t ch cmp sc on vdsHigh c
  refine ⟨?off, ?change, ?chopper⟩
  case off =>
    intro ho
    exact ⟨actsOn_live_off rfl rfl ho, actsOn_live_off rfl rfl ho, actsOn_live_off rfl rfl ho, actsOn_live_off rfl rfl ho, actsOn_live_off rfl rfl ho, actsOn_live_off rfl rfl ho⟩
  case change =>
    intro ho hs
    have acts {P : Chan → Prop} (h : P (doDclComparatorChange cmp on c)) : ActsOn (.dclComparatorChange t ch cmp on) s t ch P := actsOn_live (c := c) rfl rfl ho h
    refine ⟨?high, ?uvIdle, ?uvOn, ?uvOff, ?ov1, ?ovrOn, ?ovrOff, ?ov2On, ?ov2Off⟩
    case high => exact fun hc => acts (dclChange_high on c hc)
    case uvIdle =>
      rintro rfl rfl hst
      refine acts ?_
      rw [dclChange_uv_idle hs hst]
      exact ⟨cmpSet_shows c true (by decide), regsOnly_cmpSet c 0 true⟩
    case uvOn =>
      rintro rfl rfl hst ha
      refine acts ?_
      rw [dclChange_uv_on hs hst]
      exact cmpSet_raise (by decide) (by decide) (by decide) (by decide) ho ha
    case uvOff =>
      rintro rfl rfl
      refine acts ?_
      rw [dclChange_uv_off hs]
      exact cmpSet_clear c false (by decide) rfl
    case ov1 =>
      rintro rfl
      have hf := frame_cmpSet c 1 on
      have hal : c.ChopAlike (c.cmpSet 1 on) := ⟨frame_mono hf (by decide), rfl, rfl⟩
      have hw : (c.cmpSet 1 on).chopWant = (c.b PROT_CTL_CHOP_EN && c.b (SL_STATUS_READY 6) && (on || c.prot.test.isSome)) := by
        rw [Chan.chopWant, hf.b (f := PROT_CTL_CHOP_EN) (by decide), hf.b (f := SL_STATUS_READY 6) (by decide), cmpSet_shows c on (by decide)]
        rfl
      refine acts ?_
      rw [dclChange_ov1 hs on]
      exact ⟨((frame_chopEval (c.cmpSet 1 on)).gb (f := DCL_STATUS_CMP) (by decide) 1).trans (cmpSet_shows c on (by decide)), chopEval_follows hf hal hw⟩
    case ovrOn =>
      rintro rfl rfl hf ha
      refine acts ?_
      rw [dclChange_ovr hs true, hf]
      exact cmpSet_raise (by decide) (by decide) (by decide) (by decide) ho ha
    case ovrOff =>
      rintro rfl h
      have hn : (c.srcActive CHOP_FAIL && on) = false := by rcases h with h | h <;> rw [h] <;> simp
      refine acts ?_
      rw [dclChange_ovr hs on, hn]
      exact cmpSet_clear c on (by decide) rfl
    case ov2On =>
      rintro rfl rfl ha he
      refine acts ?_
      rw [dclChange_ov2_on hs]
      exact ov2_rises _ ho ha he
    case ov2Off =>
      rintro rfl rfl
      refine acts ?_
      rw [dclChange_ov2_off hs]
      exact ov2_falls c
  case chopper =>
    intro ho
    refine ⟨?minT, ?early, ?proven, ?sensed, ?fails, ?ignored, ?tested, ?running, ?testEnd, ?inTime, ?late⟩
    case minT => exact actsOn_live (c := c) rfl rfl ho (chopEval_follows (frame_refl _ _) ⟨frame_refl _ _, rfl, rfl⟩ rfl)
    case early => exact fun h => actsOn_live (c := c) rfl rfl ho (chopProve_early h)
    case proven => exact fun h hp => actsOn_live (c := c) rfl rfl ho (chopProve_proven h (of_decide_eq_true hp))
    case sensed => exact fun h hp hl ha => actsOn_live (c := c) rfl rfl ho (chopProve_sensed h (of_decide_eq_false hp) hl ho ha)
    case fails =>
      intro h hp hl ha
      obtain ⟨h1, h2, h3, h4, h5, h6⟩ := chopProve_fails (vdsHigh := vdsHigh) h (of_decide_eq_false hp) hl ho ha
      have hb (x y : Bool) : (x && y || y) = y := by cases x <;> cases y <;> rfl
      exact actsOn_live (c := c) rfl rfl ho ⟨h1, h2, h3, h4.trans (hb _ _).symm, h5, h6⟩
    case ignored =>
      intro h
      refine actsOn_live (c := c) rfl rfl ho ?_
      rw [chopTest_ignored h]
      exact ⟨testAsked_over c, frame_testAsked c, rfl⟩
    case tested => exact fun h => actsOn_live (c := c) rfl rfl ho (chopTest_shows h)
    case running => exact fun h => actsOn_live (c := c) rfl rfl ho (chopTestEnd_early h)
    case testEnd => exact fun h => actsOn_live (c := c) rfl rfl ho (chopTestEnd_shows h)
    case inTime => exact fun h => actsOn_live (c := c) rfl rfl ho (dclExt_early h)
    case late =>
      intro h ha
      refine actsOn_live (c := c) rfl rfl ho ?_
      rw [dclExt_late h]
      obtain ⟨hl, hr, hs⟩ := raise_fails (q := DCL_EXT) (by decide) (by decide) ho ha
      exact ⟨⟨hl, hs⟩, hr⟩

end Sys2Proof.Machine
end

section
/-! PROOFS. A discharge that fails at S4 and is asked for again: O45. -/

namespace Sys2Proof.Machine
open Sys2Proof

/-- A discharge that a command asked for and that has waited for the contactors since instant 0. -/
def waitingDischarge : Dchg := ⟨false, false, true, 0, none, 0, false⟩

/-- HOLD with DCHG_FAIL at S4 and the discharge enabled: for 100 ms the discharge has waited for contactor 1, which reads closed. -/
def strayDischarge : Chan :=
  ((((({ id := .a, now := ms 100, slices := List.replicate 8 {}, prot := { dchg := some waitingDischarge } } : Chan).p CH_STATE_STATE HOLD).p CONT_STATUS_CFB 1).p
    PROT_CTL_DCHG_EN 1).wr PROT_SEV0 (4 * 2 ^ 24))

/-- The failure ends the sequence, and its S4 asks for the discharge again (R265). -/
theorem strayDischarge_again : (doDchgCfbTimeout strayDischarge).prot.dchg ≠ none := by decide +kernel

/-- Refutes O45: with DCHG_FAIL at S4 the failed discharge is at once asked for again by the request of R265, and a new sequence waits; the clauses of the
failures lack a severity below 4 where they say that no sequence is left. -/
theorem not_discharges : ¬ Obligations.Discharges := by
  intro h
  have hs : (aloneWith strayDischarge).m.seen (ms 100) .a = strayDischarge := rfl
  have ho : ((aloneWith strayDischarge).m.seen (ms 100) .a).state ≠ OFF := by rw [hs]; decide +kernel
  obtain ⟨-, hlive, -⟩ := h (aloneWith strayDischarge) (ms 100) .a 0 waitingDischarge
  obtain ⟨-, -, -, -, -, -, -, -, -, hfail, -⟩ := hlive ho
  have hacts := hfail (by rw [hs]; rfl) rfl (by rw [hs]; decide +kernel) (by rw [hs]; decide +kernel)
  obtain ⟨⟨hnone, -⟩, -⟩ := of_actsOn_live (f := doDchgCfbTimeout) rfl ho hacts
  rw [hs] at hnone
  exact strayDischarge_again hnone

end Sys2Proof.Machine
end
